-- ==== Sys2Proof/Word.lean ====
section
/-! DEFINITION. The plainest data of the model: bytes, byte strings and sparse tables.  A value the manual
adds, compares or counts is a `Nat` or an `Int`; a byte string is what a DOMAIN object, a record or a frame
holds. -/
namespace Sys2Proof

/-- One byte. -/
abbrev Byte := BitVec 8

/-- A byte string, lowest offset first. -/
abbrev Bytes := List Byte

/-- A sparse table: entries by rising key.  What an unlisted key reads as is said where the table is used. -/
abbrev SMap (α : Type) := List (Nat × α)

end Sys2Proof
end

