-- ==== Sys2Proof/Machine/Bits.lean ====
section
/-! DEFINITION. Byte orders, bit fields and saturation (R8, R9, R457). -/
namespace Sys2Proof.Machine

/-- The low `n` bytes of a number, least significant first (R9, R457). -/
def leBytes : Nat → Nat → Bytes
  | 0, _ => []
  | n + 1, v => BitVec.ofNat 8 v :: leBytes n (v / 256)

/-- A number from its bytes, least significant first. -/
def leNat : Bytes → Nat
  | [] => 0
  | b :: t => b.toNat + 256 * leNat t

/-- A number from its bytes, most significant first (network order, R9). -/
def beNat (b : Bytes) : Nat := leNat b.reverse

/-- The low `n` bytes of a number, most significant first. -/
def beBytes (n v : Nat) : Bytes := (leBytes n v).reverse

/-- `len` bytes of `b` from offset `off`; bytes past the end are absent. -/
def slice (b : Bytes) (off len : Nat) : Bytes := (b.drop off).take len

/-- Little-endian field of a record (R9). -/
def fld (b : Bytes) (off len : Nat) : Nat := leNat (slice b off len)

/-- Big-endian field of a frame (R9). -/
def fldBE (b : Bytes) (off len : Nat) : Nat := beNat (slice b off len)

/-- A byte string of `n` equal bytes. -/
def fill (n : Nat) (v : Nat) : Bytes := List.replicate n (BitVec.ofNat 8 v)

/-- `b` with the bytes `v` written at `off`; `b` is taken as zero-extended where it is shorter. -/
def patch (b : Bytes) (off : Nat) (v : Bytes) : Bytes :=
  (b ++ fill (off + v.length - b.length) 0).take off ++ v ++ b.drop (off + v.length)

/-- Bit `i` of `v`. -/
def bit (v i : Nat) : Bool := v / 2 ^ i % 2 == 1

/-- Field `[lo + w - 1 : lo]` of `v`. -/
def bits (v lo w : Nat) : Nat := v / 2 ^ lo % 2 ^ w

/-- `v` with the field `[lo + w - 1 : lo]` replaced by `x`. -/
def setBits (v lo w x : Nat) : Nat :=
  v - bits v lo w * 2 ^ lo + x % 2 ^ w * 2 ^ lo

/-- `v` with bit `i` set to `b`. -/
def setBit (v i : Nat) (b : Bool) : Nat := setBits v i 1 (if b then 1 else 0)

/-- The number with exactly the listed bits set. -/
def maskOf (l : List Nat) : Nat := l.foldl (fun a i => setBit a i true) 0

/-- Indices below `n` whose bit is set in `v`. -/
def bitsSet (v n : Nat) : List Nat := (List.range n).filter (bit v)

/-- How many of the low `n` bits of `v` are set. -/
def popcount (v n : Nat) : Nat := (bitsSet v n).length

/-- A two's-complement number of `w` bits (R457). -/
def signed (w v : Nat) : Int :=
  if v % 2 ^ w < 2 ^ (w - 1) then (v % 2 ^ w : Nat) else (v % 2 ^ w : Nat) - (2 ^ w : Nat)

/-- The two's-complement code of an integer in `w` bits. -/
def unsignedOf (w : Nat) (v : Int) : Nat := (v % (2 ^ w : Nat)).toNat

/-- An integer held within `lo` and `hi` (a saturating field, R414). -/
def clampI (lo hi v : Int) : Int := if v < lo then lo else if hi < v then hi else v

/-- A count held at `hi` (a saturating counter, R457). -/
def satN (hi v : Nat) : Nat := if hi < v then hi else v

/-- Greatest value of an unsigned type of `n` bytes. -/
def maxU (n : Nat) : Nat := 256 ^ n - 1

/-- Division rounded up. -/
def ceilDiv (a b : Nat) : Nat := (a + b - 1) / b

/-- A Boolean as a number, for a packed field. -/
def b2n (b : Bool) : Nat := if b then 1 else 0

/-- XOR of all elements. -/
def xorAll (l : List Nat) : Nat := l.foldl Nat.xor 0

/-- Does `l` repeat an element? -/
def hasDup : List Nat → Bool
  | [] => false
  | a :: t => t.contains a || hasDup t

/-- Greatest common divisor by fuel (both arguments are table sizes, so 64 rounds suffice for values below 2^64). -/
def gcdF : Nat → Nat → Nat → Nat
  | 0, a, _ => a
  | n + 1, a, b => if b = 0 then a else gcdF n b (a % b)

/-- Least common multiple (R37). -/
def lcmN (a b : Nat) : Nat := if a = 0 then 0 else a / gcdF 128 a b * b

/-- One bit of CRC-32 (IEEE 802.3), reflected. -/
def crcBit (c : Nat) : Nat := if c % 2 = 1 then Nat.xor (c / 2) 0xEDB88320 else c / 2

/-- CRC-32 of bytes (IEEE 802.3). -/
def crc32 (b : Bytes) : Nat :=
  Nat.xor (b.foldl (fun c x =>
    (List.range 8).foldl (fun c _ => crcBit c) (Nat.xor c x.toNat)) 0xFFFFFFFF) 0xFFFFFFFF

/-- CRC-16 of the CiA 301 block transfer: polynomial 0x1021, initial value 0. -/
def crc16 (b : Bytes) : Nat :=
  b.foldl (fun c x =>
    (List.range 8).foldl (fun c _ => if 32768 ≤ c then Nat.xor (c * 2 % 65536) 0x1021 else c * 2)
      (Nat.xor c (x.toNat * 256))) 0

/-- The greatest c below 2^n with `p c`, for a `p` that holds of 0 and fails from some point on. -/
def searchUp (p : Nat → Bool) : Nat → Nat → Nat
  | 0, c => c
  | n + 1, c => searchUp p n (if p (c + 2 ^ n) then c + 2 ^ n else c)

/-- round(m × 10^(t / n)), exactly: the greatest c with (2c − 1)^n ≤ (2m)^n × 10^t. -/
def dbRound (m n : Nat) (t : Int) : Nat :=
  searchUp (fun c => decide ((2 * c - 1) ^ n * 10 ^ (-t).toNat ≤ (2 * m) ^ n * 10 ^ t.toNat)) 25 0

/-- The coefficient of a gain trim in hundredths of a dB (R254). -/
def trimCoef (t : Int) : Nat := dbRound 16384 2000 t

/-! ### Rank -/

/-- Is one list of numbers before another in dictionary order? -/
def lexLt : List Nat → List Nat → Bool
  | [], [] => false
  | [], _ :: _ => true
  | _ :: _, [] => false
  | a :: s, b :: t => if a < b then true else if b < a then false else lexLt s t

/-- Insert by rank; equal ranks keep their order. -/
def insRank {α : Type} (k : α → List Nat) (x : α) : List α → List α
  | [] => [x]
  | y :: l => if lexLt (k x) (k y) then x :: y :: l else y :: insRank k x l

/-- Candidates in rank order. -/
def ranked {α : Type} (k : α → List Nat) (l : List α) : List α := l.foldl (fun m x => insRank k x m) []

end Sys2Proof.Machine
end

