-- ==== Sys2Proof/Machine/ObjTable.lean ====
section
/-! DEFINITION. The object tables of the manual: one row per table line of its chapters (R50, R57, R60, R100, R101,
R122, R124, R125, R146, R177, R178, R203, R222, R224, R225, R248 to R250, R282 to R285, R303, R329, R350, R367, R394,
R395, R418, R438, R452 to R454, R458, R461), with the types of R457, the rights of R398 and the effect codes of R6. -/
namespace Sys2Proof.Machine

/-- The roles of R397, lowest first. -/
inductive Role where
  | observer | operator | maintainer | integrator | vendor
deriving DecidableEq, Repr

/-- The code of a role, 0 to 4 (R397). -/
def Role.code : Role → Nat
  | .observer => 0 | .operator => 1 | .maintainer => 2 | .integrator => 3 | .vendor => 4

/-- The role of a code; codes above 4 are no role. -/
def Role.ofCode : Nat → Option Role
  | 0 => some .observer | 1 => some .operator | 2 => some .maintainer | 3 => some .integrator
  | 4 => some .vendor | _ => none

/-- `a` is at most `b` in the order of R397. -/
def Role.le (a b : Role) : Bool := decide (a.code ≤ b.code)

/-- The lower of two roles (R408). -/
def Role.min (a b : Role) : Role := if a.le b then a else b

/-- The type of an object (R457). -/
inductive ObjTy where
  /-- UNSIGNED of so many bytes. -/
  | u (bytes : Nat)
  /-- INTEGER of so many bytes. -/
  | i (bytes : Nat)
  /-- VISIBLE STRING up to `max` bytes. -/
  | vis (max : Nat)
  /-- OCTET STRING of exactly `len` bytes. -/
  | oct (len : Nat)
  /-- DOMAIN of `lo` to `hi` bytes. -/
  | dom (lo hi : Nat)
  /-- A window DOMAIN: the objects that hold its first item and its item count, and its record size. -/
  | win (first count size : Nat)
deriving DecidableEq, Repr

/-- The Access column (R398). -/
inductive Access where
  | const
  | ro (read : Role)
  | rw (write : Role)
  | wo (write : Role)
  /-- `ro Observer; rw Operator, write 0 only`. -/
  | roZero
  /-- `wo Integrator or Vendor, by R318`. -/
  | woLifeCycle
deriving DecidableEq, Repr

/-- The Effect column (R6). -/
inductive Effect where
  | none | I | T | C | S
deriving DecidableEq, Repr

/-- The values an object takes: any, one of the listed intervals, or each listed field (low bit, width) in one of its
intervals (R8). -/
inductive Rng where
  | any
  | iv (l : List (Int × Int))
  | fl (l : List (Nat × Nat × List (Nat × Nat)))
deriving DecidableEq, Repr

/-- Which populated die an object needs to exist (R3): none, the die `(index - base) / div`, the die
`(subindex - 1) / div`, or the die `(subindex - 1) % 8`. -/
inductive Scope where
  | all
  | idx (base div : Nat)
  | sub (div : Nat)
  | sub8
  | windows
deriving DecidableEq, Repr

/-- One line of an object table. -/
structure ObjRow where
  i0 : Nat
  i1 : Nat
  s0 : Nat
  s1 : Nat
  ty : ObjTy
  acc : Access
  dflt : Int
  rng : Rng
  eff : Effect
  scope : Scope
  secure : Bool
deriving DecidableEq, Repr

/-- A table line. -/
def row (i0 i1 s0 s1 : Nat) (ty : ObjTy) (acc : Access) (dflt : Int) (rng : Rng) (eff : Effect) (scope : Scope)
    (secure : Bool) : ObjRow :=
  ⟨i0, i1, s0, s1, ty, acc, dflt, rng, eff, scope, secure⟩

/-- The objects of area `tick`. -/
def objRows_tick : List ObjRow := [
  row 0x2100 0x2100 0x00 0x00 (.u 1) (.const) (8) (.any) .none (.all) false, -- highest subindex
  row 0x2100 0x2100 0x01 0x01 (.u 1) (.rw .integrator) (1) (.iv [(0, 4)]) .S (.all) false, -- tick period code
  row 0x2100 0x2100 0x02 0x02 (.u 8) (.ro .observer) (0) (.any) .none (.all) false, -- tick number
  row 0x2100 0x2100 0x03 0x03 (.u 1) (.ro .observer) (0) (.any) .none (.all) false, -- tick state
  row 0x2100 0x2100 0x04 0x04 (.u 4) (.rw .integrator) (5000) (.iv [(0, 0), (100, 600000)]) .T (.all) false, -- lock hold timeout
  row 0x2100 0x2100 0x05 0x05 (.i 4) (.ro .observer) (0) (.any) .none (.all) false, -- tick phase error
  row 0x2100 0x2100 0x06 0x06 (.u 2) (.ro .observer) (3) (.any) .none (.all) false, -- tick flags
  row 0x2100 0x2100 0x07 0x07 (.u 1) (.wo .integrator) (0) (.iv [(1, 1)]) .I (.all) false, -- re-align tick
  row 0x2100 0x2100 0x08 0x08 (.u 8) (.ro .observer) (0) (.any) .none (.all) false, -- last stretch tick
  row 0x2102 0x2102 0x00 0x00 (.u 1) (.const) (64) (.any) .none (.all) false, -- highest subindex
  row 0x2102 0x2102 0x01 0x40 (.u 4) (.roZero) (0) (.iv [(0, 0)]) .I (.sub 8) false -- tick overrun counters
  ]

/-- The objects of area `contract`. -/
def objRows_contract : List ObjRow := [
  row 0x3000 0x4FFF 0x00 0x00 (.u 1) (.const) (7) (.any) .none (.all) false, -- highest subindex
  row 0x3000 0x4FFF 0x01 0x01 (.dom 64 64) (.rw .integrator) (0) (.any) .C (.all) false, -- staged record
  row 0x3000 0x4FFF 0x02 0x02 (.dom 64 64) (.ro .observer) (0) (.any) .none (.all) false, -- active record
  row 0x3000 0x4FFF 0x03 0x03 (.u 1) (.ro .observer) (0) (.any) .none (.all) false, -- slot state
  row 0x3000 0x4FFF 0x04 0x04 (.u 1) (.wo .integrator) (0) (.iv [(1, 1)]) .I (.all) false, -- stage delete
  row 0x3000 0x4FFF 0x05 0x05 (.u 1) (.wo .integrator) (0) (.iv [(1, 1)]) .I (.all) false, -- discard staged
  row 0x3000 0x4FFF 0x06 0x06 (.u 4) (.ro .observer) (4294967295) (.any) .none (.all) false, -- latency bound
  row 0x3000 0x4FFF 0x07 0x07 (.i 4) (.ro .observer) (0) (.any) .none (.all) false, -- deadline margin
  row 0x5000 0x5000 0x00 0x00 (.u 1) (.const) (14) (.any) .none (.all) false, -- highest subindex
  row 0x5000 0x5000 0x01 0x01 (.u 1) (.wo .integrator) (0) (.iv [(1, 5)]) .I (.all) false, -- commit command
  row 0x5000 0x5000 0x02 0x02 (.u 1) (.ro .observer) (0) (.any) .none (.all) false, -- commit status
  row 0x5000 0x5000 0x03 0x03 (.u 4) (.ro .observer) (0) (.any) .none (.all) false, -- commit sequence
  row 0x5000 0x5000 0x04 0x04 (.u 1) (.ro .observer) (0) (.any) .none (.all) false, -- verdict
  row 0x5000 0x5000 0x05 0x05 (.u 2) (.ro .observer) (65535) (.any) .none (.all) false, -- violating slot
  row 0x5000 0x5000 0x06 0x06 (.u 4) (.ro .observer) (0) (.any) .none (.all) false, -- violating contract ID
  row 0x5000 0x5000 0x07 0x07 (.u 4) (.ro .observer) (0) (.any) .none (.all) false, -- violated resource
  row 0x5000 0x5000 0x08 0x08 (.i 4) (.ro .observer) (0) (.any) .none (.all) false, -- margin
  row 0x5000 0x5000 0x09 0x09 (.u 1) (.ro .observer) (0) (.any) .none (.all) false, -- margin unit
  row 0x5000 0x5000 0x0A 0x0A (.u 4) (.ro .observer) (0) (.any) .none (.all) false, -- fault case
  row 0x5000 0x5000 0x0B 0x0B (.u 1) (.ro .observer) (0) (.any) .none (.all) false, -- inner verdict
  row 0x5000 0x5000 0x0C 0x0C (.u 4) (.ro .observer) (0) (.any) .none (.all) false, -- new generation
  row 0x5000 0x5000 0x0D 0x0D (.u 8) (.ro .observer) (0) (.any) .none (.all) false, -- switch tick
  row 0x5000 0x5000 0x0E 0x0E (.u 2) (.ro .observer) (0) (.any) .none (.all) false, -- broken by commit
  row 0x5001 0x5001 0x00 0x00 (.u 1) (.const) (8) (.any) .none (.all) false, -- highest subindex
  row 0x5001 0x5001 0x01 0x01 (.u 4) (.ro .observer) (0) (.any) .none (.all) false, -- active generation
  row 0x5001 0x5001 0x02 0x02 (.oct 32) (.ro .observer) (0) (.any) .none (.all) false, -- plan hash
  row 0x5001 0x5001 0x03 0x03 (.u 1) (.ro .observer) (0) (.any) .none (.all) false, -- fault status
  row 0x5001 0x5001 0x04 0x04 (.u 8) (.ro .observer) (0) (.any) .none (.all) false, -- generation switch tick
  row 0x5001 0x5001 0x05 0x05 (.u 2) (.ro .observer) (0) (.any) .none (.all) false, -- active contracts
  row 0x5001 0x5001 0x06 0x06 (.u 2) (.ro .observer) (0) (.any) .none (.all) false, -- broken contracts
  row 0x5001 0x5001 0x07 0x07 (.u 4) (.ro .observer) (0) (.any) .none (.all) false, -- pending generation
  row 0x5001 0x5001 0x08 0x08 (.u 8) (.ro .observer) (0) (.any) .none (.all) false -- pending switch tick
  ]

/-- The objects of area `plan`. -/
def objRows_plan : List ObjRow := [
  row 0x5002 0x5002 0x00 0x00 (.u 1) (.const) (12) (.any) .none (.all) false, -- highest subindex
  row 0x5002 0x5002 0x01 0x01 (.u 2) (.ro .observer) (0) (.any) .none (.all) false, -- fault cases
  row 0x5002 0x5002 0x02 0x02 (.u 2) (.ro .observer) (0) (.any) .none (.all) false, -- shadow plans distributed
  row 0x5002 0x5002 0x03 0x03 (.u 2) (.ro .observer) (0) (.any) .none (.all) false, -- uncovered fault cases
  row 0x5002 0x5002 0x04 0x04 (.u 4) (.ro .observer) (0) (.any) .none (.all) false, -- fault plan in force
  row 0x5002 0x5002 0x05 0x05 (.u 1) (.ro .observer) (0) (.any) .none (.all) false, -- faults in force
  row 0x5002 0x5002 0x06 0x06 (.u 8) (.ro .observer) (0) (.any) .none (.all) false, -- activation tick
  row 0x5002 0x5002 0x07 0x07 (.u 4) (.ro .observer) (0) (.any) .none (.all) false, -- last recovery time
  row 0x5002 0x5002 0x08 0x08 (.u 2) (.ro .observer) (0) (.any) .none (.all) false, -- shed contracts
  row 0x5002 0x5002 0x09 0x09 (.u 1) (.rw .integrator) (1) (.iv [(0, 1)]) .I (.all) false, -- migration enable
  row 0x5002 0x5002 0x0A 0x0A (.u 1) (.ro .observer) (0) (.any) .none (.all) false, -- migration status
  row 0x5002 0x5002 0x0B 0x0B (.u 4) (.ro .observer) (0) (.any) .none (.all) false, -- migration generation
  row 0x5002 0x5002 0x0C 0x0C (.u 1) (.ro .observer) (0) (.any) .none (.all) false, -- migration verdict
  row 0x5003 0x5003 0x00 0x00 (.u 1) (.const) (8) (.any) .none (.all) false, -- highest subindex
  row 0x5003 0x5003 0x01 0x08 (.u 1) (.ro .observer) (0) (.any) .none (.sub 1) false, -- die derate level
  row 0x5100 0x5100 0x00 0x00 (.u 1) (.const) (4) (.any) .none (.all) false, -- highest subindex
  row 0x5100 0x5100 0x01 0x01 (.u 2) (.rw .observer) (0) (.iv [(0, 8191)]) .I (.all) false, -- first slot
  row 0x5100 0x5100 0x02 0x02 (.u 1) (.rw .observer) (1) (.iv [(1, 32)]) .I (.all) false, -- record count
  row 0x5100 0x5100 0x03 0x03 (.u 4) (.rw .observer) (0) (.any) .I (.all) false, -- view
  row 0x5100 0x5100 0x04 0x04 (.win 0x510001 0x510002 112) (.ro .observer) (0) (.any) .none (.all) false, -- placement records
  row 0x5101 0x5101 0x00 0x00 (.u 1) (.const) (3) (.any) .none (.all) false, -- highest subindex
  row 0x5101 0x5101 0x01 0x01 (.u 1) (.rw .observer) (0) (.iv [(0, 99)]) .I (.all) false, -- first case
  row 0x5101 0x5101 0x02 0x02 (.u 1) (.rw .observer) (1) (.iv [(1, 32)]) .I (.all) false, -- case count
  row 0x5101 0x5101 0x03 0x03 (.win 0x510101 0x510102 16) (.ro .observer) (0) (.any) .none (.all) false, -- fault-case records
  row 0x5102 0x5102 0x00 0x00 (.u 1) (.const) (5) (.any) .none (.all) false, -- highest subindex
  row 0x5102 0x5102 0x01 0x01 (.u 1) (.rw .observer) (0) (.iv [(0, 4)]) .I (.all) false, -- item kind
  row 0x5102 0x5102 0x02 0x02 (.u 2) (.rw .observer) (0) (.iv [(0, 32767)]) .I (.all) false, -- first item
  row 0x5102 0x5102 0x03 0x03 (.u 1) (.rw .observer) (1) (.iv [(1, 128)]) .I (.all) false, -- item count
  row 0x5102 0x5102 0x04 0x04 (.u 4) (.rw .observer) (0) (.any) .I (.all) false, -- item view
  row 0x5102 0x5102 0x05 0x05 (.win 0x510202 0x510203 8) (.ro .observer) (0) (.any) .none (.all) false, -- item records
  row 0x5103 0x5103 0x00 0x00 (.u 1) (.const) (96) (.any) .none (.all) false, -- highest subindex
  row 0x5103 0x5103 0x01 0x60 (.u 4) (.ro .observer) (0) (.any) .none (.sub 12) false -- partition size
  ]

/-- The objects of area `lane`. -/
def objRows_lane : List ObjRow := [
  row 0x2200 0x223F 0x00 0x00 (.u 1) (.const) (31) (.any) .none (.idx 0x2200 8) false, -- highest subindex
  row 0x2200 0x223F 0x01 0x01 (.u 1) (.rw .integrator) (1) (.iv [(0, 1)]) .C (.idx 0x2200 8) false, -- lane enable
  row 0x2200 0x223F 0x02 0x02 (.u 1) (.rw .integrator) (0) (.iv [(0, 10)]) .C (.idx 0x2200 8) false, -- lane mode
  row 0x2200 0x223F 0x03 0x03 (.u 1) (.rw .integrator) (0) (.fl [(2, 6, [(0, 0)])]) .C (.idx 0x2200 8) false, -- polarity
  row 0x2200 0x223F 0x04 0x04 (.u 1) (.rw .integrator) (1) (.iv [(0, 1)]) .C (.idx 0x2200 8) false, -- auto-negotiation
  row 0x2200 0x223F 0x05 0x05 (.u 2) (.rw .integrator) (1522) (.iv [(1518, 9216)]) .C (.idx 0x2200 8) false, -- maximum frame size
  row 0x2200 0x223F 0x06 0x06 (.u 1) (.rw .integrator) (0) (.iv [(0, 1)]) .T (.idx 0x2200 8) false, -- deliver flagged
  row 0x2200 0x223F 0x07 0x07 (.u 1) (.rw .integrator) (3) (.fl [(2, 6, [(0, 0)])]) .T (.idx 0x2200 8) false, -- checksum check
  row 0x2200 0x223F 0x08 0x08 (.u 2) (.ro .observer) (0) (.any) .none (.idx 0x2200 8) false, -- link status
  row 0x2200 0x223F 0x09 0x09 (.u 2) (.rw .integrator) (100) (.iv [(10, 500)]) .T (.idx 0x2200 8) false, -- loss hold-off
  row 0x2200 0x223F 0x0A 0x0A (.u 2) (.rw .integrator) (10) (.iv [(1, 1000)]) .T (.idx 0x2200 8) false, -- link-up hold-off
  row 0x2200 0x223F 0x0B 0x0B (.u 1) (.ro .observer) (255) (.any) .none (.idx 0x2200 8) false, -- resolved rate
  row 0x2200 0x223F 0x0C 0x0C (.u 4) (.ro .observer) (0) (.any) .none (.idx 0x2200 8) false, -- loss events
  row 0x2200 0x223F 0x10 0x10 (.u 8) (.ro .observer) (0) (.any) .none (.idx 0x2200 8) false, -- frames received OK
  row 0x2200 0x223F 0x11 0x11 (.u 8) (.ro .observer) (0) (.any) .none (.idx 0x2200 8) false, -- FCS errors
  row 0x2200 0x223F 0x12 0x12 (.u 8) (.ro .observer) (0) (.any) .none (.idx 0x2200 8) false, -- undersize
  row 0x2200 0x223F 0x13 0x13 (.u 8) (.ro .observer) (0) (.any) .none (.idx 0x2200 8) false, -- fragments
  row 0x2200 0x223F 0x14 0x14 (.u 8) (.ro .observer) (0) (.any) .none (.idx 0x2200 8) false, -- oversize
  row 0x2200 0x223F 0x15 0x15 (.u 8) (.ro .observer) (0) (.any) .none (.idx 0x2200 8) false, -- jabbers
  row 0x2200 0x223F 0x16 0x16 (.u 8) (.ro .observer) (0) (.any) .none (.idx 0x2200 8) false, -- alignment errors
  row 0x2200 0x223F 0x17 0x17 (.u 8) (.ro .observer) (0) (.any) .none (.idx 0x2200 8) false, -- IPv4 header checksum errors
  row 0x2200 0x223F 0x18 0x18 (.u 8) (.ro .observer) (0) (.any) .none (.idx 0x2200 8) false, -- L4 checksum errors
  row 0x2200 0x223F 0x19 0x19 (.u 8) (.ro .observer) (0) (.any) .none (.idx 0x2200 8) false, -- stomped received
  row 0x2200 0x223F 0x1A 0x1A (.u 8) (.ro .observer) (0) (.any) .none (.idx 0x2200 8) false, -- stomped transmitted
  row 0x2200 0x223F 0x1B 0x1B (.u 8) (.ro .observer) (0) (.any) .none (.idx 0x2200 8) false, -- delivered flagged
  row 0x2200 0x223F 0x1C 0x1C (.u 8) (.ro .observer) (0) (.any) .none (.idx 0x2200 8) false, -- drained
  row 0x2200 0x223F 0x1D 0x1D (.u 8) (.ro .observer) (0) (.any) .none (.idx 0x2200 8) false, -- egress oversize drops
  row 0x2200 0x223F 0x1F 0x1F (.u 1) (.wo .operator) (0) (.iv [(1, 1)]) .I (.idx 0x2200 8) false, -- clear counters
  row 0x2280 0x2287 0x00 0x00 (.u 1) (.const) (96) (.any) .none (.idx 0x2280 1) false, -- highest subindex
  row 0x2280 0x2287 0x01 0x10 (.u 8) (.rw .integrator) (0) (.fl [(0, 6, [(0, 0)])]) .I (.idx 0x2280 1) false, -- ring base
  row 0x2280 0x2287 0x11 0x20 (.u 2) (.rw .integrator) (256) (.iv [(16, 4096)]) .I (.idx 0x2280 1) false, -- ring size
  row 0x2280 0x2287 0x21 0x30 (.u 1) (.rw .integrator) (0) (.iv [(0, 1)]) .I (.idx 0x2280 1) false, -- ring owner
  row 0x2280 0x2287 0x31 0x40 (.u 1) (.rw .integrator) (0) (.iv [(0, 1)]) .C (.idx 0x2280 1) false, -- ring enable
  row 0x2280 0x2287 0x41 0x50 (.u 2) (.ro .observer) (0) (.any) .none (.idx 0x2280 1) false, -- next descriptor
  row 0x2280 0x2287 0x51 0x60 (.u 4) (.roZero) (0) (.iv [(0, 0)]) .I (.idx 0x2280 1) false, -- no-buffer count
  row 0x2290 0x22AF 0x00 0x00 (.u 1) (.const) (7) (.any) .none (.all) false, -- highest subindex
  row 0x2290 0x22AF 0x01 0x01 (.u 8) (.rw .integrator) (0) (.any) .C (.all) false, -- members
  row 0x2290 0x22AF 0x02 0x02 (.u 1) (.rw .integrator) (0) (.iv [(0, 2)]) .C (.all) false, -- LACP mode
  row 0x2290 0x22AF 0x03 0x03 (.u 1) (.rw .integrator) (0) (.iv [(0, 1)]) .C (.all) false, -- LACP timeout
  row 0x2290 0x22AF 0x04 0x04 (.u 1) (.rw .integrator) (15) (.fl [(4, 4, [(0, 0)])]) .T (.all) false, -- hash fields
  row 0x2290 0x22AF 0x05 0x05 (.u 8) (.ro .observer) (0) (.any) .none (.all) false, -- members in service
  row 0x2290 0x22AF 0x06 0x06 (.u 4) (.roZero) (0) (.iv [(0, 0)]) .I (.all) false, -- failovers
  row 0x2290 0x22AF 0x07 0x07 (.u 4) (.ro .observer) (0) (.any) .none (.all) false, -- last failover time
  row 0x2F10 0x2F10 0x00 0x00 (.u 1) (.const) (64) (.any) .none (.all) false, -- highest subindex
  row 0x2F10 0x2F10 0x01 0x40 (.u 4) (.const) (0) (.any) .none (.sub 8) false, -- factory transmit equalisation
  row 0x2F90 0x2F90 0x00 0x00 (.u 1) (.const) (64) (.any) .none (.all) false, -- highest subindex
  row 0x2F90 0x2F90 0x01 0x40 (.u 4) (.rw .maintainer) (0) (.fl [(24, 8, [(0, 0)])]) .T (.sub 8) false -- user transmit equalisation
  ]

/-- The objects of area `fwd`. -/
def objRows_fwd : List ObjRow := [
  row 0x2400 0x2400 0x00 0x00 (.u 1) (.const) (7) (.any) .none (.all) false, -- highest subindex
  row 0x2400 0x2400 0x01 0x01 (.u 4) (.rw .integrator) (300) (.iv [(10, 3600)]) .T (.all) false, -- FDB ageing time
  row 0x2400 0x2400 0x02 0x02 (.u 2) (.ro .observer) (0) (.any) .none (.all) false, -- FDB entries in use
  row 0x2400 0x2400 0x03 0x03 (.u 2) (.ro .observer) (0) (.any) .none (.all) false, -- FDB static entries
  row 0x2400 0x2400 0x04 0x04 (.u 4) (.roZero) (0) (.iv [(0, 0)]) .I (.all) false, -- learning failures
  row 0x2400 0x2400 0x05 0x05 (.u 4) (.roZero) (0) (.iv [(0, 0)]) .I (.all) false, -- station moves
  row 0x2400 0x2400 0x06 0x06 (.u 1) (.wo .operator) (0) (.iv [(1, 1)]) .I (.all) false, -- FDB flush
  row 0x2400 0x2400 0x07 0x07 (.u 1) (.rw .integrator) (0) (.fl [(7, 1, [(0, 0)])]) .C (.all) false, -- host flood ring
  row 0x2410 0x2410 0x00 0x00 (.u 1) (.const) (3) (.any) .none (.all) false, -- highest subindex
  row 0x2410 0x2410 0x01 0x01 (.u 2) (.rw .observer) (1) (.iv [(1, 4094)]) .I (.all) false, -- first VID
  row 0x2410 0x2410 0x02 0x02 (.u 1) (.rw .observer) (1) (.iv [(1, 64)]) .I (.all) false, -- VLAN count
  row 0x2410 0x2410 0x03 0x03 (.win 0x241001 0x241002 20) (.rw .integrator) (0) (.any) .C (.all) false, -- VLAN records
  row 0x2420 0x2420 0x00 0x00 (.u 1) (.const) (64) (.any) .none (.all) false, -- highest subindex
  row 0x2420 0x2420 0x01 0x40 (.u 2) (.rw .integrator) (1) (.iv [(1, 4094)]) .C (.sub 8) false, -- PVID
  row 0x2421 0x2421 0x00 0x00 (.u 1) (.const) (64) (.any) .none (.all) false, -- highest subindex
  row 0x2421 0x2421 0x01 0x40 (.u 1) (.rw .integrator) (0) (.iv [(0, 2)]) .C (.sub 8) false, -- acceptable frame types
  row 0x2422 0x2422 0x00 0x00 (.u 1) (.const) (64) (.any) .none (.all) false, -- highest subindex
  row 0x2422 0x2422 0x01 0x40 (.u 1) (.rw .integrator) (1) (.iv [(0, 1)]) .C (.sub 8) false, -- ingress filtering
  row 0x2423 0x2423 0x00 0x00 (.u 1) (.const) (64) (.any) .none (.all) false, -- highest subindex
  row 0x2423 0x2423 0x01 0x40 (.u 8) (.ro .observer) (0) (.any) .none (.sub 8) false, -- VLAN ingress drops
  row 0x2424 0x2424 0x00 0x00 (.u 1) (.const) (64) (.any) .none (.all) false, -- highest subindex
  row 0x2424 0x2424 0x01 0x40 (.u 8) (.ro .observer) (0) (.any) .none (.sub 8) false, -- link-local discards
  row 0x2430 0x2430 0x00 0x00 (.u 1) (.const) (5) (.any) .none (.all) false, -- highest subindex
  row 0x2430 0x2430 0x01 0x01 (.u 2) (.rw .observer) (0) (.iv [(0, 12287)]) .I (.all) false, -- first FDB entry
  row 0x2430 0x2430 0x02 0x02 (.u 1) (.rw .observer) (1) (.iv [(1, 64)]) .I (.all) false, -- FDB entry count
  row 0x2430 0x2430 0x03 0x03 (.win 0x243001 0x243002 24) (.ro .observer) (0) (.any) .none (.all) false, -- FDB records
  row 0x2430 0x2430 0x04 0x04 (.dom 24 24) (.wo .integrator) (0) (.any) .I (.all) false, -- static entry write
  row 0x2430 0x2430 0x05 0x05 (.dom 8 8) (.wo .integrator) (0) (.any) .I (.all) false, -- static entry delete
  row 0x2440 0x2440 0x00 0x00 (.u 1) (.const) (7) (.any) .none (.all) false, -- highest subindex
  row 0x2440 0x2440 0x01 0x01 (.u 1) (.rw .observer) (0) (.iv [(0, 7)]) .I (.all) false, -- table die
  row 0x2440 0x2440 0x02 0x02 (.u 2) (.rw .observer) (0) (.iv [(0, 16383)]) .I (.all) false, -- first table entry
  row 0x2440 0x2440 0x03 0x03 (.u 1) (.rw .observer) (1) (.iv [(1, 16)]) .I (.all) false, -- table entry count
  row 0x2440 0x2440 0x04 0x04 (.win 0x244002 0x244003 144) (.ro .observer) (0) (.any) .none (.all) false, -- table records
  row 0x2440 0x2440 0x05 0x05 (.u 2) (.ro .observer) (0) (.any) .none (.all) false, -- hashed in use
  row 0x2440 0x2440 0x06 0x06 (.u 2) (.ro .observer) (0) (.any) .none (.all) false, -- ternary in use
  row 0x2440 0x2440 0x07 0x07 (.u 2) (.ro .observer) (0) (.any) .none (.all) false, -- spilled entries
  row 0x2450 0x2450 0x00 0x00 (.u 1) (.const) (4) (.any) .none (.all) false, -- highest subindex
  row 0x2450 0x2450 0x01 0x01 (.u 2) (.rw .observer) (0) (.iv [(0, 8191)]) .I (.all) false, -- first counter slot
  row 0x2450 0x2450 0x02 0x02 (.u 1) (.rw .observer) (1) (.iv [(1, 32)]) .I (.all) false, -- counter slot count
  row 0x2450 0x2450 0x03 0x03 (.win 0x245001 0x245002 64) (.ro .observer) (0) (.any) .none (.all) false, -- stream counters
  row 0x2450 0x2450 0x04 0x04 (.u 1) (.wo .operator) (0) (.iv [(1, 1)]) .I (.all) false, -- clear stream counters
  row 0x2460 0x2467 0x00 0x00 (.u 1) (.const) (6) (.any) .none (.all) false, -- highest subindex
  row 0x2460 0x2467 0x01 0x01 (.u 1) (.rw .integrator) (0) (.iv [(0, 1)]) .C (.all) false, -- session enable
  row 0x2460 0x2467 0x02 0x02 (.u 4) (.rw .integrator) (0) (.fl [(28, 4, [(0, 4)]), (16, 12, [(0, 0)])]) .C (.all) false, -- mirror source
  row 0x2460 0x2467 0x03 0x03 (.u 2) (.rw .integrator) (65535) (.any) .C (.all) false, -- mirror destination
  row 0x2460 0x2467 0x04 0x04 (.u 2) (.rw .integrator) (0) (.iv [(0, 0), (64, 9216)]) .C (.all) false, -- mirror truncation
  row 0x2460 0x2467 0x05 0x05 (.u 8) (.ro .observer) (0) (.any) .none (.all) false, -- copies sent
  row 0x2460 0x2467 0x06 0x06 (.u 8) (.ro .observer) (0) (.any) .none (.all) false, -- copies dropped
  row 0x2470 0x2470 0x00 0x00 (.u 1) (.const) (2) (.any) .none (.all) false, -- highest subindex
  row 0x2470 0x2470 0x01 0x01 (.u 2) (.rw .integrator) (800) (.iv [(1, 65535)]) .T (.all) false, -- recovery reset timeout
  row 0x2470 0x2470 0x02 0x02 (.u 1) (.const) (32) (.any) .none (.all) false, -- history length
  row 0x2480 0x2487 0x00 0x00 (.u 1) (.const) (96) (.any) .none (.idx 0x2480 1) false, -- highest subindex
  row 0x2480 0x2487 0x01 0x10 (.u 8) (.rw .integrator) (0) (.fl [(0, 6, [(0, 0)])]) .I (.idx 0x2480 1) false, -- transmit ring base
  row 0x2480 0x2487 0x11 0x20 (.u 2) (.rw .integrator) (256) (.iv [(16, 4096)]) .I (.idx 0x2480 1) false, -- transmit ring size
  row 0x2480 0x2487 0x21 0x30 (.u 1) (.rw .integrator) (0) (.iv [(0, 1)]) .I (.idx 0x2480 1) false, -- transmit ring owner
  row 0x2480 0x2487 0x31 0x40 (.u 1) (.rw .integrator) (0) (.iv [(0, 1)]) .C (.idx 0x2480 1) false, -- transmit ring enable
  row 0x2480 0x2487 0x41 0x50 (.u 2) (.ro .observer) (0) (.any) .none (.idx 0x2480 1) false, -- next transmit descriptor
  row 0x2480 0x2487 0x51 0x60 (.u 4) (.roZero) (0) (.iv [(0, 0)]) .I (.idx 0x2480 1) false -- transmit errors
  ]

/-- The objects of area `sched`. -/
def objRows_sched : List ObjRow := [
  row 0x2500 0x2500 0x00 0x00 (.u 1) (.const) (1) (.any) .none (.all) false, -- highest subindex
  row 0x2500 0x2500 0x01 0x01 (.u 2) (.rw .integrator) (64) (.iv [(1, 4096)]) .T (.all) false, -- starvation limit
  row 0x2510 0x2510 0x00 0x00 (.u 1) (.const) (64) (.any) .none (.all) false, -- highest subindex
  row 0x2510 0x2510 0x01 0x40 (.i 2) (.rw .integrator) (20) (.iv [(-64, 255)]) .C (.sub 8) false, -- length overhead
  row 0x2511 0x2511 0x00 0x00 (.u 1) (.const) (64) (.any) .none (.all) false, -- highest subindex
  row 0x2511 0x2511 0x01 0x40 (.i 2) (.ro .observer) (20) (.any) .none (.sub 8) false, -- effective overhead
  row 0x2512 0x2512 0x00 0x00 (.u 1) (.const) (64) (.any) .none (.all) false, -- highest subindex
  row 0x2512 0x2512 0x01 0x40 (.u 1) (.rw .integrator) (0) (.iv [(0, 1)]) .C (.sub 8) false, -- preemption enable
  row 0x2513 0x2513 0x00 0x00 (.u 1) (.const) (64) (.any) .none (.all) false, -- highest subindex
  row 0x2513 0x2513 0x01 0x40 (.u 1) (.rw .integrator) (1) (.iv [(0, 1)]) .C (.sub 8) false, -- preemption verify
  row 0x2514 0x2514 0x00 0x00 (.u 1) (.const) (64) (.any) .none (.all) false, -- highest subindex
  row 0x2514 0x2514 0x01 0x40 (.u 1) (.rw .integrator) (0) (.iv [(0, 3)]) .C (.sub 8) false, -- additional fragment size
  row 0x2515 0x2515 0x00 0x00 (.u 1) (.const) (64) (.any) .none (.all) false, -- highest subindex
  row 0x2515 0x2515 0x01 0x40 (.u 1) (.ro .observer) (0) (.any) .none (.sub 8) false, -- preemption status
  row 0x2516 0x2516 0x00 0x00 (.u 1) (.const) (64) (.any) .none (.all) false, -- highest subindex
  row 0x2516 0x2516 0x01 0x40 (.u 1) (.rw .integrator) (63) (.fl [(7, 1, [(0, 0)])]) .C (.sub 8) false, -- preemptible classes
  row 0x2517 0x2517 0x00 0x00 (.u 1) (.const) (64) (.any) .none (.all) false, -- highest subindex
  row 0x2517 0x2517 0x01 0x40 (.u 1) (.rw .integrator) (7) (.fl [(3, 5, [(0, 0)])]) .C (.sub 8) false, -- pausable classes
  row 0x2518 0x2518 0x00 0x00 (.u 1) (.const) (64) (.any) .none (.all) false, -- highest subindex
  row 0x2518 0x2518 0x01 0x40 (.u 1) (.rw .integrator) (3) (.fl [(2, 2, [(0, 2)]), (4, 4, [(0, 0)])]) .T (.sub 8) false, -- flow control
  row 0x2519 0x2519 0x00 0x00 (.u 1) (.const) (64) (.any) .none (.all) false, -- highest subindex
  row 0x2519 0x2519 0x01 0x40 (.u 4) (.rw .integrator) (572657665) (.fl [(0, 4, [(0, 2)]), (4, 4, [(0, 2)]), (8, 4, [(0, 2)]), (12, 4, [(0, 2)]), (16, 4, [(0, 2)]), (20, 4, [(0, 2)]), (24, 4, [(0, 2)]), (28, 4, [(0, 2)])]) .C (.sub 8) false, -- PCP map
  row 0x251A 0x251A 0x00 0x00 (.u 1) (.const) (64) (.any) .none (.all) false, -- highest subindex
  row 0x251A 0x251A 0x01 0x40 (.u 4) (.rw .integrator) (0) (.iv [(0, 0), (64, 10000000)]) .T (.sub 8) false, -- best-effort rate limit
  row 0x251B 0x251B 0x00 0x00 (.u 1) (.const) (64) (.any) .none (.all) false, -- highest subindex
  row 0x251B 0x251B 0x01 0x40 (.u 1) (.ro .observer) (0) (.any) .none (.sub 8) false, -- pause status
  row 0x251C 0x251C 0x00 0x00 (.u 1) (.const) (64) (.any) .none (.all) false, -- highest subindex
  row 0x251C 0x251C 0x01 0x40 (.dom 32 32) (.rw .integrator) (0) (.any) .C (.sub 8) false, -- guard band override
  row 0x251D 0x251D 0x00 0x00 (.u 1) (.const) (64) (.any) .none (.all) false, -- highest subindex
  row 0x251D 0x251D 0x01 0x40 (.dom 32 32) (.ro .observer) (0) (.any) .none (.sub 8) false, -- guard bands in force
  row 0x251E 0x251E 0x00 0x00 (.u 1) (.const) (64) (.any) .none (.all) false, -- highest subindex
  row 0x251E 0x251E 0x01 0x40 (.u 2) (.ro .observer) (1) (.any) .none (.sub 8) false, -- gate cycle
  row 0x251F 0x251F 0x00 0x00 (.u 1) (.const) (64) (.any) .none (.all) false, -- highest subindex
  row 0x251F 0x251F 0x01 0x40 (.u 4) (.rw .integrator) (4194336) (.any) .T (.sub 8) false, -- pause thresholds
  row 0x2520 0x2520 0x00 0x00 (.u 1) (.const) (64) (.any) .none (.all) false, -- highest subindex
  row 0x2520 0x2520 0x01 0x40 (.u 8) (.ro .observer) (0) (.any) .none (.sub 8) false, -- relief frames
  row 0x2521 0x2521 0x00 0x00 (.u 1) (.const) (64) (.any) .none (.all) false, -- highest subindex
  row 0x2521 0x2521 0x01 0x40 (.u 8) (.ro .observer) (0) (.any) .none (.sub 8) false, -- window misses
  row 0x2522 0x2522 0x00 0x00 (.u 1) (.const) (64) (.any) .none (.all) false, -- highest subindex
  row 0x2522 0x2522 0x01 0x40 (.u 8) (.ro .observer) (0) (.any) .none (.sub 8) false, -- pause ignored
  row 0x2523 0x2523 0x00 0x00 (.u 1) (.const) (64) (.any) .none (.all) false, -- highest subindex
  row 0x2523 0x2523 0x01 0x40 (.u 8) (.ro .observer) (0) (.any) .none (.sub 8) false, -- pause frames sent
  row 0x2524 0x2524 0x00 0x00 (.u 1) (.const) (64) (.any) .none (.all) false, -- highest subindex
  row 0x2524 0x2524 0x01 0x40 (.u 8) (.ro .observer) (0) (.any) .none (.sub 8) false, -- pause frames received
  row 0x2540 0x2540 0x00 0x00 (.u 1) (.const) (5) (.any) .none (.all) false, -- highest subindex
  row 0x2540 0x2540 0x01 0x01 (.u 1) (.rw .observer) (0) (.iv [(0, 63)]) .I (.all) false, -- list lane
  row 0x2540 0x2540 0x02 0x02 (.u 2) (.rw .observer) (0) (.iv [(0, 1023)]) .I (.all) false, -- first gate entry
  row 0x2540 0x2540 0x03 0x03 (.u 1) (.rw .observer) (1) (.iv [(1, 128)]) .I (.all) false, -- gate entry count
  row 0x2540 0x2540 0x04 0x04 (.win 0x254002 0x254003 8) (.ro .observer) (0) (.any) .none (.all) false, -- gate entries
  row 0x2540 0x2540 0x05 0x05 (.u 2) (.ro .observer) (0) (.any) .none (.all) false, -- gate entries in use
  row 0x2550 0x2550 0x00 0x00 (.u 1) (.const) (6) (.any) .none (.all) false, -- highest subindex
  row 0x2550 0x2550 0x01 0x01 (.u 1) (.rw .observer) (0) (.iv [(0, 63)]) .I (.all) false, -- admin lane
  row 0x2550 0x2550 0x02 0x02 (.u 2) (.rw .integrator) (0) (.iv [(0, 4096)]) .C (.all) false, -- admin cycle
  row 0x2550 0x2550 0x03 0x03 (.u 8) (.rw .integrator) (0) (.any) .C (.all) false, -- admin base time
  row 0x2550 0x2550 0x04 0x04 (.dom 0 8192) (.rw .integrator) (0) (.any) .C (.all) false, -- admin entries
  row 0x2550 0x2550 0x05 0x05 (.u 8) (.ro .observer) (0) (.any) .none (.all) false, -- admin start tick
  row 0x2550 0x2550 0x06 0x06 (.u 1) (.ro .observer) (0) (.any) .none (.all) false, -- admin flags
  row 0x2560 0x2560 0x00 0x00 (.u 1) (.const) (4) (.any) .none (.all) false, -- highest subindex
  row 0x2560 0x2560 0x01 0x01 (.u 1) (.rw .observer) (0) (.iv [(0, 7)]) .I (.all) false, -- meter die
  row 0x2560 0x2560 0x02 0x02 (.u 2) (.rw .observer) (0) (.iv [(0, 8191)]) .I (.all) false, -- first meter
  row 0x2560 0x2560 0x03 0x03 (.u 1) (.rw .observer) (1) (.iv [(1, 32)]) .I (.all) false, -- meter count
  row 0x2560 0x2560 0x04 0x04 (.win 0x256002 0x256003 56) (.ro .observer) (0) (.any) .none (.all) false, -- meter records
  row 0x2570 0x2570 0x00 0x00 (.u 1) (.const) (4) (.any) .none (.all) false, -- highest subindex
  row 0x2570 0x2570 0x01 0x01 (.u 1) (.rw .observer) (0) (.iv [(0, 7)]) .I (.all) false, -- shaper die
  row 0x2570 0x2570 0x02 0x02 (.u 2) (.rw .observer) (0) (.iv [(0, 2047)]) .I (.all) false, -- first shaper
  row 0x2570 0x2570 0x03 0x03 (.u 1) (.rw .observer) (1) (.iv [(1, 64)]) .I (.all) false, -- shaper count
  row 0x2570 0x2570 0x04 0x04 (.win 0x257002 0x257003 32) (.ro .observer) (0) (.any) .none (.all) false -- shaper records
  ]

/-- The objects of area `fw`. -/
def objRows_fw : List ObjRow := [
  row 0x2600 0x2600 0x00 0x00 (.u 1) (.const) (10) (.any) .none (.all) false, -- highest subindex
  row 0x2600 0x2600 0x01 0x01 (.u 4) (.rw .integrator) (300) (.iv [(1, 86400)]) .T (.all) false, -- eviction age
  row 0x2600 0x2600 0x02 0x02 (.u 4) (.rw .integrator) (3600) (.iv [(10, 86400)]) .T (.all) false, -- TCP established timeout
  row 0x2600 0x2600 0x03 0x03 (.u 4) (.rw .integrator) (30) (.iv [(1, 600)]) .T (.all) false, -- TCP transitory timeout
  row 0x2600 0x2600 0x04 0x04 (.u 4) (.rw .integrator) (60) (.iv [(1, 86400)]) .T (.all) false, -- UDP timeout
  row 0x2600 0x2600 0x05 0x05 (.u 4) (.rw .integrator) (10) (.iv [(1, 600)]) .T (.all) false, -- ICMP timeout
  row 0x2600 0x2600 0x06 0x06 (.u 2) (.rw .integrator) (100) (.iv [(0, 10000)]) .T (.all) false, -- log rate limit
  row 0x2600 0x2600 0x07 0x07 (.u 4) (.ro .observer) (0) (.any) .none (.all) false, -- sessions in use
  row 0x2600 0x2600 0x08 0x08 (.u 8) (.ro .observer) (0) (.any) .none (.all) false, -- log suppressed
  row 0x2600 0x2600 0x09 0x09 (.u 2) (.wo .operator) (0) (.iv [(0, 4095), (65535, 65535)]) .I (.all) false, -- session flush
  row 0x2600 0x2600 0x0A 0x0A (.u 8) (.ro .observer) (0) (.any) .none (.all) false, -- evicted sessions
  row 0x2610 0x2610 0x00 0x00 (.u 1) (.const) (64) (.any) .none (.all) false, -- highest subindex
  row 0x2610 0x2610 0x01 0x40 (.u 1) (.rw .integrator) (0) (.iv [(0, 63)]) .C (.sub 8) false, -- lane zone
  row 0x2611 0x2611 0x00 0x00 (.u 1) (.const) (32) (.any) .none (.all) false, -- highest subindex
  row 0x2611 0x2611 0x01 0x20 (.u 1) (.rw .integrator) (0) (.iv [(0, 63)]) .C (.all) false, -- LAG zone
  row 0x2612 0x2612 0x00 0x00 (.u 1) (.const) (124) (.any) .none (.all) false, -- highest subindex
  row 0x2612 0x2612 0x01 0x7C (.u 1) (.rw .integrator) (0) (.iv [(0, 63)]) .C (.sub 16) false, -- edge unit zone
  row 0x2613 0x2613 0x00 0x00 (.u 1) (.const) (128) (.any) .none (.all) false, -- highest subindex
  row 0x2613 0x2613 0x01 0x80 (.u 1) (.rw .integrator) (0) (.iv [(0, 63)]) .C (.sub 16) false, -- host ring zone
  row 0x2614 0x2614 0x00 0x00 (.u 1) (.const) (1) (.any) .none (.all) false, -- highest subindex
  row 0x2614 0x2614 0x01 0x01 (.u 1) (.rw .integrator) (0) (.iv [(0, 63)]) .C (.all) false, -- Cirque zone
  row 0x2615 0x2615 0x00 0x00 (.u 1) (.const) (1) (.any) .none (.all) false, -- highest subindex
  row 0x2615 0x2615 0x01 0x01 (.dom 4096 4096) (.rw .integrator) (0) (.any) .C (.all) false, -- VLAN zones
  row 0x2620 0x2620 0x00 0x00 (.u 1) (.const) (64) (.any) .none (.all) false, -- highest subindex
  row 0x2620 0x2620 0x01 0x40 (.u 1) (.rw .integrator) (0) (.fl [(2, 6, [(0, 0)])]) .T (.all) false, -- zone flags
  row 0x2621 0x2621 0x00 0x00 (.u 1) (.const) (64) (.any) .none (.all) false, -- highest subindex
  row 0x2621 0x2621 0x01 0x40 (.u 8) (.ro .observer) (0) (.any) .none (.all) false, -- no-pass denials
  row 0x2630 0x2630 0x00 0x00 (.u 1) (.const) (4) (.any) .none (.all) false, -- highest subindex
  row 0x2630 0x2630 0x01 0x01 (.u 2) (.rw .observer) (0) (.iv [(0, 4095)]) .I (.all) false, -- first pass
  row 0x2630 0x2630 0x02 0x02 (.u 1) (.rw .observer) (1) (.iv [(1, 64)]) .I (.all) false, -- pass count
  row 0x2630 0x2630 0x03 0x03 (.win 0x263001 0x263002 32) (.rw .integrator) (0) (.any) .C (.all) false, -- pass records
  row 0x2630 0x2630 0x04 0x04 (.u 2) (.ro .observer) (0) (.any) .none (.all) false, -- passes enabled
  row 0x2640 0x2640 0x00 0x00 (.u 1) (.const) (5) (.any) .none (.all) false, -- highest subindex
  row 0x2640 0x2640 0x01 0x01 (.u 2) (.rw .observer) (0) (.iv [(0, 4095)]) .I (.all) false, -- rule pass
  row 0x2640 0x2640 0x02 0x02 (.u 2) (.rw .observer) (0) (.iv [(0, 4095)]) .I (.all) false, -- first rule
  row 0x2640 0x2640 0x03 0x03 (.u 1) (.rw .observer) (1) (.iv [(1, 16)]) .I (.all) false, -- rule count
  row 0x2640 0x2640 0x04 0x04 (.win 0x264002 0x264003 144) (.rw .integrator) (0) (.any) .C (.all) false, -- rule records
  row 0x2640 0x2640 0x05 0x05 (.u 2) (.ro .observer) (0) (.any) .none (.all) false, -- rules in pass
  row 0x2650 0x2650 0x00 0x00 (.u 1) (.const) (4) (.any) .none (.all) false, -- highest subindex
  row 0x2650 0x2650 0x01 0x01 (.u 2) (.rw .observer) (0) (.iv [(0, 4095)]) .I (.all) false, -- first counter pass
  row 0x2650 0x2650 0x02 0x02 (.u 1) (.rw .observer) (1) (.iv [(1, 32)]) .I (.all) false, -- counter pass count
  row 0x2650 0x2650 0x03 0x03 (.win 0x265001 0x265002 64) (.ro .observer) (0) (.any) .none (.all) false, -- pass counters
  row 0x2650 0x2650 0x04 0x04 (.u 1) (.wo .operator) (0) (.iv [(1, 1)]) .I (.all) false, -- clear pass counters
  row 0x2660 0x2660 0x00 0x00 (.u 1) (.const) (6) (.any) .none (.all) false, -- highest subindex
  row 0x2660 0x2660 0x01 0x01 (.u 1) (.rw .observer) (0) (.iv [(0, 7)]) .I (.all) false, -- session die
  row 0x2660 0x2660 0x02 0x02 (.u 2) (.rw .observer) (0) (.iv [(0, 4095)]) .I (.all) false, -- first session
  row 0x2660 0x2660 0x03 0x03 (.u 1) (.rw .observer) (1) (.iv [(1, 32)]) .I (.all) false, -- session count
  row 0x2660 0x2660 0x04 0x04 (.win 0x266002 0x266003 64) (.ro .observer) (0) (.any) .none (.all) false, -- session records
  row 0x2660 0x2660 0x05 0x05 (.u 2) (.ro .observer) (0) (.any) .none (.all) false, -- sessions on die
  row 0x2660 0x2660 0x06 0x06 (.u 1) (.ro .observer) (0) (.any) .none (.all) false, -- oversubscribed
  row 0x2700 0x271F 0x00 0x00 (.u 1) (.const) (128) (.any) .none (.all) false, -- highest subindex
  row 0x2700 0x271F 0x01 0x80 (.u 1) (.rw .integrator) (0) (.iv [(0, 1)]) .C (.all) false -- pass enable
  ]

/-- The objects of area `time`. -/
def objRows_time : List ObjRow := [
  row 0x2110 0x2113 0x00 0x00 (.u 1) (.const) (28) (.any) .none (.all) false, -- highest subindex
  row 0x2110 0x2113 0x01 0x01 (.u 1) (.rw .integrator) (0) (.iv [(0, 1)]) .T (.all) false, -- instance enable
  row 0x2110 0x2113 0x02 0x02 (.u 1) (.rw .integrator) (0) (.iv [(0, 2)]) .T (.all) false, -- profile
  row 0x2110 0x2113 0x03 0x03 (.u 1) (.rw .integrator) (0) (.iv [(0, 127)]) .T (.all) false, -- domain number
  row 0x2110 0x2113 0x04 0x04 (.u 8) (.rw .integrator) (0) (.any) .T (.all) false, -- member lanes
  row 0x2110 0x2113 0x05 0x05 (.u 1) (.rw .integrator) (246) (.iv [(0, 255)]) .T (.all) false, -- priority1
  row 0x2110 0x2113 0x06 0x06 (.u 1) (.rw .integrator) (248) (.iv [(0, 255)]) .T (.all) false, -- priority2
  row 0x2110 0x2113 0x07 0x07 (.u 1) (.rw .integrator) (248) (.iv [(0, 255)]) .T (.all) false, -- clock class
  row 0x2110 0x2113 0x08 0x08 (.u 1) (.rw .integrator) (0) (.iv [(0, 1)]) .T (.all) false, -- port configuration
  row 0x2110 0x2113 0x09 0x09 (.u 1) (.rw .integrator) (255) (.any) .T (.all) false, -- external slave port
  row 0x2110 0x2113 0x0A 0x0A (.i 1) (.rw .integrator) (-3) (.iv [(-7, 3)]) .T (.all) false, -- log sync interval
  row 0x2110 0x2113 0x0B 0x0B (.i 1) (.rw .integrator) (0) (.iv [(-3, 4)]) .T (.all) false, -- log announce interval
  row 0x2110 0x2113 0x0C 0x0C (.i 1) (.rw .integrator) (0) (.iv [(-7, 5)]) .T (.all) false, -- log delay interval
  row 0x2110 0x2113 0x0D 0x0D (.u 2) (.rw .integrator) (771) (.fl [(0, 8, [(2, 255)]), (8, 8, [(2, 255)])]) .T (.all) false, -- receipt timeouts
  row 0x2110 0x2113 0x0E 0x0E (.u 1) (.rw .integrator) (1) (.iv [(0, 1)]) .T (.all) false, -- one-step
  row 0x2110 0x2113 0x0F 0x0F (.u 4) (.rw .integrator) (100) (.iv [(10, 1000000)]) .T (.all) false, -- lock threshold
  row 0x2110 0x2113 0x10 0x10 (.u 4) (.rw .integrator) (1000) (.iv [(0, 1000000000)]) .T (.all) false, -- step threshold
  row 0x2110 0x2113 0x11 0x11 (.u 1) (.rw .integrator) (0) (.iv [(0, 2)]) .T (.all) false, -- transport
  row 0x2110 0x2113 0x12 0x12 (.u 2) (.ro .observer) (128) (.any) .none (.all) false, -- instance status
  row 0x2110 0x2113 0x13 0x13 (.i 4) (.ro .observer) (0) (.any) .none (.all) false, -- offset from master
  row 0x2110 0x2113 0x14 0x14 (.i 4) (.ro .observer) (0) (.any) .none (.all) false, -- rate ratio
  row 0x2110 0x2113 0x15 0x15 (.oct 8) (.ro .observer) (0) (.any) .none (.all) false, -- grandmaster identity
  row 0x2110 0x2113 0x16 0x16 (.u 1) (.ro .observer) (255) (.any) .none (.all) false, -- slave port
  row 0x2110 0x2113 0x17 0x17 (.u 4) (.ro .observer) (0) (.any) .none (.all) false, -- holdover time
  row 0x2110 0x2113 0x18 0x18 (.u 4) (.ro .observer) (0) (.any) .none (.all) false, -- grandmaster changes
  row 0x2110 0x2113 0x19 0x19 (.u 8) (.ro .observer) (0) (.any) .none (.all) false, -- current time
  row 0x2110 0x2113 0x1A 0x1A (.u 8) (.wo .integrator) (0) (.any) .I (.all) false, -- grandmaster time set
  row 0x2110 0x2113 0x1B 0x1B (.u 1) (.rw .integrator) (0) (.fl [(1, 3, [(0, 0)])]) .T (.all) false, -- time reference
  row 0x2110 0x2113 0x1C 0x1C (.u 1) (.ro .observer) (0) (.any) .none (.all) false, -- clock epoch
  row 0x2118 0x211B 0x00 0x00 (.u 1) (.const) (64) (.any) .none (.all) false, -- highest subindex
  row 0x2118 0x211B 0x01 0x40 (.u 1) (.ro .observer) (0) (.any) .none (.sub 8) false, -- port state
  row 0x211C 0x211C 0x00 0x00 (.u 1) (.const) (64) (.any) .none (.all) false, -- highest subindex
  row 0x211C 0x211C 0x01 0x40 (.u 4) (.ro .observer) (4294967295) (.any) .none (.sub 8) false, -- mean link delay
  row 0x211D 0x211D 0x00 0x00 (.u 1) (.const) (64) (.any) .none (.all) false, -- highest subindex
  row 0x211D 0x211D 0x01 0x40 (.i 4) (.ro .observer) (0) (.any) .none (.sub 8) false, -- neighbour rate ratio
  row 0x211E 0x211E 0x00 0x00 (.u 1) (.const) (64) (.any) .none (.all) false, -- highest subindex
  row 0x211E 0x211E 0x01 0x40 (.u 4) (.rw .integrator) (800) (.iv [(0, 1000000)]) .T (.sub 8) false, -- link delay threshold
  row 0x2120 0x2120 0x00 0x00 (.u 1) (.const) (64) (.any) .none (.all) false, -- highest subindex
  row 0x2120 0x2120 0x01 0x40 (.u 1) (.rw .integrator) (0) (.iv [(0, 1)]) .T (.sub 8) false, -- transparent clock
  row 0x2121 0x2121 0x00 0x00 (.u 1) (.const) (64) (.any) .none (.all) false, -- highest subindex
  row 0x2121 0x2121 0x01 0x40 (.i 4) (.ro .observer) (0) (.any) .none (.sub 8) false, -- effective receive latency
  row 0x2122 0x2122 0x00 0x00 (.u 1) (.const) (64) (.any) .none (.all) false, -- highest subindex
  row 0x2122 0x2122 0x01 0x40 (.i 4) (.ro .observer) (0) (.any) .none (.sub 8) false, -- effective transmit latency
  row 0x2123 0x2123 0x00 0x00 (.u 1) (.const) (8) (.any) .none (.all) false, -- highest subindex
  row 0x2123 0x2123 0x01 0x08 (.u 4) (.ro .observer) (0) (.any) .none (.sub 1) false, -- time alignment faults
  row 0x2130 0x2137 0x00 0x00 (.u 1) (.const) (12) (.any) .none (.idx 0x2130 1) false, -- highest subindex
  row 0x2130 0x2137 0x01 0x04 (.dom 24 24) (.rw .integrator) (0) (.any) .I (.idx 0x2130 1) false, -- pulse program
  row 0x2130 0x2137 0x05 0x08 (.u 1) (.ro .observer) (0) (.any) .none (.idx 0x2130 1) false, -- pulse status
  row 0x2130 0x2137 0x09 0x0C (.u 4) (.ro .observer) (0) (.any) .none (.idx 0x2130 1) false, -- pulses skipped
  row 0x2138 0x213F 0x00 0x00 (.u 1) (.const) (8) (.any) .none (.idx 0x2138 1) false, -- highest subindex
  row 0x2138 0x213F 0x01 0x02 (.u 1) (.rw .integrator) (0) (.fl [(4, 4, [(0, 0)])]) .I (.idx 0x2138 1) false, -- capture control
  row 0x2138 0x213F 0x03 0x04 (.dom 0 256) (.ro .operator) (0) (.any) .none (.idx 0x2138 1) false, -- capture records
  row 0x2138 0x213F 0x05 0x06 (.u 4) (.ro .observer) (0) (.any) .none (.idx 0x2138 1) false, -- captures lost
  row 0x2138 0x213F 0x07 0x08 (.u 1) (.ro .observer) (0) (.any) .none (.idx 0x2138 1) false, -- captures queued
  row 0x2F11 0x2F11 0x00 0x00 (.u 1) (.const) (11) (.any) .none (.all) false, -- highest subindex
  row 0x2F11 0x2F11 0x01 0x0B (.i 4) (.const) (0) (.any) .none (.all) false, -- factory receive latency
  row 0x2F12 0x2F12 0x00 0x00 (.u 1) (.const) (11) (.any) .none (.all) false, -- highest subindex
  row 0x2F12 0x2F12 0x01 0x0B (.i 4) (.const) (0) (.any) .none (.all) false, -- factory transmit latency
  row 0x2F13 0x2F13 0x00 0x00 (.u 1) (.const) (1) (.any) .none (.all) false, -- highest subindex
  row 0x2F13 0x2F13 0x01 0x01 (.i 4) (.const) (0) (.any) .none (.all) false, -- factory oscillator trim
  row 0x2F91 0x2F91 0x00 0x00 (.u 1) (.const) (64) (.any) .none (.all) false, -- highest subindex
  row 0x2F91 0x2F91 0x01 0x40 (.i 4) (.rw .maintainer) (0) (.iv [(-1000000, 1000000)]) .T (.sub 8) false, -- user receive latency
  row 0x2F92 0x2F92 0x00 0x00 (.u 1) (.const) (64) (.any) .none (.all) false, -- highest subindex
  row 0x2F92 0x2F92 0x01 0x40 (.i 4) (.rw .maintainer) (0) (.iv [(-1000000, 1000000)]) .T (.sub 8) false, -- user transmit latency
  row 0x2F93 0x2F93 0x00 0x00 (.u 1) (.const) (1) (.any) .none (.all) false, -- highest subindex
  row 0x2F93 0x2F93 0x01 0x01 (.i 4) (.rw .maintainer) (0) (.iv [(-100000, 100000)]) .T (.all) false -- user oscillator trim
  ]

/-- The objects of area `cirque`. -/
def objRows_cirque : List ObjRow := [
  row 0x2A00 0x2A00 0x00 0x00 (.u 1) (.const) (9) (.any) .none (.all) false, -- highest subindex
  row 0x2A00 0x2A00 0x01 0x01 (.u 1) (.ro .observer) (0) (.any) .none (.all) false, -- emergency state
  row 0x2A00 0x2A00 0x02 0x02 (.u 1) (.rw .operator) (0) (.iv [(0, 1)]) .T (.all) false, -- emergency command
  row 0x2A00 0x2A00 0x03 0x03 (.u 2) (.rw .integrator) (20) (.iv [(2, 1000)]) .T (.all) false, -- emergency filter
  row 0x2A00 0x2A00 0x04 0x04 (.dom 8 8) (.rw .integrator) (0) (.any) .T (.all) false, -- emergency tone
  row 0x2A00 0x2A00 0x05 0x05 (.u 4) (.ro .observer) (0) (.any) .none (.all) false, -- emergency activations
  row 0x2A00 0x2A00 0x06 0x06 (.u 4) (.rw .integrator) (2000000) (.iv [(0, 100000000)]) .T (.all) false, -- presentation offset
  row 0x2A00 0x2A00 0x07 0x07 (.u 1) (.rw .integrator) (96) (.iv [(96, 127)]) .T (.all) false, -- RTP payload type
  row 0x2A00 0x2A00 0x08 0x08 (.u 4) (.ro .observer) (0) (.any) .none (.all) false, -- announcement conflicts
  row 0x2A00 0x2A00 0x09 0x09 (.u 4) (.ro .observer) (262144) (.any) .none (.all) false, -- clip store free
  row 0x2A01 0x2A01 0x00 0x00 (.u 1) (.const) (8) (.any) .none (.all) false, -- highest subindex
  row 0x2A01 0x2A01 0x01 0x08 (.u 1) (.rw .integrator) (1) (.iv [(0, 1)]) .C (.sub 1) false, -- instance enable
  row 0x2A02 0x2A02 0x00 0x00 (.u 1) (.const) (8) (.any) .none (.all) false, -- highest subindex
  row 0x2A02 0x2A02 0x01 0x08 (.u 4) (.ro .observer) (0) (.any) .none (.sub 1) false, -- mixer load
  row 0x2A10 0x2A10 0x00 0x00 (.u 1) (.const) (10) (.any) .none (.all) false, -- highest subindex
  row 0x2A10 0x2A10 0x01 0x01 (.u 1) (.rw .observer) (0) (.iv [(0, 255)]) .I (.all) false, -- zone
  row 0x2A10 0x2A10 0x02 0x02 (.u 1) (.rw .integrator) (0) (.iv [(0, 1)]) .C (.all) false, -- zone enable
  row 0x2A10 0x2A10 0x03 0x03 (.u 1) (.rw .integrator) (20) (.iv [(0, 60)]) .T (.all) false, -- zone duck depth
  row 0x2A10 0x2A10 0x04 0x04 (.u 1) (.rw .integrator) (1) (.iv [(0, 2)]) .T (.all) false, -- duck law
  row 0x2A10 0x2A10 0x05 0x05 (.u 1) (.rw .integrator) (16) (.iv [(1, 16)]) .T (.all) false, -- mute-from level
  row 0x2A10 0x2A10 0x06 0x06 (.u 2) (.rw .integrator) (40) (.iv [(1, 8000)]) .T (.all) false, -- release time
  row 0x2A10 0x2A10 0x07 0x07 (.u 1) (.rw .integrator) (0) (.iv [(0, 1)]) .C (.all) false, -- zone rate
  row 0x2A10 0x2A10 0x08 0x08 (.u 2) (.rw .integrator) (16384) (.iv [(0, 65535)]) .T (.all) false, -- announcement gain
  row 0x2A10 0x2A10 0x09 0x09 (.u 1) (.ro .observer) (255) (.any) .none (.all) false, -- highest present level
  row 0x2A10 0x2A10 0x0A 0x0A (.u 1) (.ro .observer) (0) (.any) .none (.all) false, -- zone outputs
  row 0x2A20 0x2A20 0x00 0x00 (.u 1) (.const) (3) (.any) .none (.all) false, -- highest subindex
  row 0x2A20 0x2A20 0x01 0x01 (.u 2) (.rw .observer) (0) (.iv [(0, 511)]) .I (.all) false, -- first output
  row 0x2A20 0x2A20 0x02 0x02 (.u 1) (.rw .observer) (1) (.iv [(1, 16)]) .I (.all) false, -- output count
  row 0x2A20 0x2A20 0x03 0x03 (.win 0x2A2001 0x2A2002 168) (.rw .integrator) (0) (.any) .C (.all) false, -- output records
  row 0x2A28 0x2A28 0x00 0x00 (.u 1) (.const) (3) (.any) .none (.all) false, -- highest subindex
  row 0x2A28 0x2A28 0x01 0x01 (.u 2) (.rw .observer) (0) (.iv [(0, 511)]) .I (.all) false, -- first output status
  row 0x2A28 0x2A28 0x02 0x02 (.u 1) (.rw .observer) (1) (.iv [(1, 32)]) .I (.all) false, -- output status count
  row 0x2A28 0x2A28 0x03 0x03 (.win 0x2A2801 0x2A2802 16) (.ro .observer) (0) (.any) .none (.all) false, -- output status
  row 0x2A30 0x2A30 0x00 0x00 (.u 1) (.const) (3) (.any) .none (.all) false, -- highest subindex
  row 0x2A30 0x2A30 0x01 0x01 (.u 2) (.rw .observer) (0) (.iv [(0, 1023)]) .I (.all) false, -- first input
  row 0x2A30 0x2A30 0x02 0x02 (.u 1) (.rw .observer) (1) (.iv [(1, 32)]) .I (.all) false, -- input count
  row 0x2A30 0x2A30 0x03 0x03 (.win 0x2A3001 0x2A3002 16) (.rw .integrator) (0) (.any) .C (.all) false, -- input records
  row 0x2A38 0x2A38 0x00 0x00 (.u 1) (.const) (4) (.any) .none (.all) false, -- highest subindex
  row 0x2A38 0x2A38 0x01 0x01 (.u 2) (.rw .observer) (0) (.iv [(0, 1023)]) .I (.all) false, -- first input status
  row 0x2A38 0x2A38 0x02 0x02 (.u 1) (.rw .observer) (1) (.iv [(1, 32)]) .I (.all) false, -- input status count
  row 0x2A38 0x2A38 0x03 0x03 (.win 0x2A3801 0x2A3802 24) (.ro .observer) (0) (.any) .none (.all) false, -- input status
  row 0x2A38 0x2A38 0x04 0x04 (.u 1) (.wo .operator) (0) (.iv [(1, 1)]) .I (.all) false, -- clear Cirque counters
  row 0x2A40 0x2A4F 0x00 0x00 (.u 1) (.const) (7) (.any) .none (.idx 0x2A40 2) false, -- highest subindex
  row 0x2A40 0x2A4F 0x01 0x01 (.u 1) (.rw .integrator) (0) (.iv [(0, 1)]) .C (.idx 0x2A40 2) false, -- TDM enable
  row 0x2A40 0x2A4F 0x02 0x02 (.u 1) (.rw .integrator) (0) (.iv [(0, 1)]) .C (.idx 0x2A40 2) false, -- TDM role
  row 0x2A40 0x2A4F 0x03 0x03 (.u 1) (.rw .integrator) (0) (.iv [(0, 1)]) .C (.idx 0x2A40 2) false, -- TDM frame rate
  row 0x2A40 0x2A4F 0x04 0x04 (.u 1) (.rw .integrator) (8) (.iv [(1, 16)]) .C (.idx 0x2A40 2) false, -- TDM slots
  row 0x2A40 0x2A4F 0x05 0x05 (.u 1) (.rw .integrator) (1) (.fl [(3, 5, [(0, 0)])]) .C (.idx 0x2A40 2) false, -- TDM format
  row 0x2A40 0x2A4F 0x06 0x06 (.u 1) (.ro .observer) (0) (.any) .none (.idx 0x2A40 2) false, -- TDM status
  row 0x2A40 0x2A4F 0x07 0x07 (.u 4) (.roZero) (0) (.iv [(0, 0)]) .I (.idx 0x2A40 2) false, -- TDM slips
  row 0x2A60 0x2A6F 0x00 0x00 (.u 1) (.const) (8) (.any) .none (.all) false, -- highest subindex
  row 0x2A60 0x2A6F 0x01 0x01 (.u 1) (.rw .operator) (0) (.iv [(0, 15)]) .I (.all) false, -- announcement clip
  row 0x2A60 0x2A6F 0x02 0x02 (.dom 32 32) (.rw .operator) (0) (.any) .I (.all) false, -- announcement zones
  row 0x2A60 0x2A6F 0x03 0x03 (.u 1) (.rw .operator) (3) (.iv [(0, 15)]) .I (.all) false, -- announcement level
  row 0x2A60 0x2A6F 0x04 0x04 (.u 1) (.rw .operator) (1) (.iv [(1, 255)]) .I (.all) false, -- announcement repeats
  row 0x2A60 0x2A6F 0x05 0x05 (.u 2) (.rw .operator) (0) (.iv [(0, 65535)]) .I (.all) false, -- announcement gap
  row 0x2A60 0x2A6F 0x06 0x06 (.u 1) (.wo .operator) (0) (.iv [(1, 2)]) .I (.all) false, -- announcement command
  row 0x2A60 0x2A6F 0x07 0x07 (.u 1) (.ro .observer) (0) (.any) .none (.all) false, -- announcement status
  row 0x2A60 0x2A6F 0x08 0x08 (.u 8) (.ro .observer) (0) (.any) .none (.all) false, -- announcement start tick
  row 0x2A70 0x2A70 0x00 0x00 (.u 1) (.const) (5) (.any) .none (.all) false, -- highest subindex
  row 0x2A70 0x2A70 0x01 0x01 (.u 1) (.rw .observer) (0) (.iv [(0, 15)]) .I (.all) false, -- clip select
  row 0x2A70 0x2A70 0x02 0x02 (.u 1) (.rw .integrator) (1) (.iv [(0, 1)]) .I (.all) false, -- clip rate
  row 0x2A70 0x2A70 0x03 0x03 (.dom 0 262144) (.rw .integrator) (0) (.any) .I (.all) false, -- clip data
  row 0x2A70 0x2A70 0x04 0x04 (.u 4) (.ro .observer) (0) (.any) .none (.all) false, -- clip length
  row 0x2A70 0x2A70 0x05 0x05 (.u 1) (.wo .integrator) (0) (.iv [(1, 1)]) .I (.all) false, -- clip erase
  row 0x2F14 0x2F14 0x00 0x00 (.u 1) (.const) (32) (.any) .none (.all) false, -- highest subindex
  row 0x2F14 0x2F14 0x01 0x20 (.i 2) (.const) (0) (.any) .none (.sub 4) false, -- factory TDM gain trim
  row 0x2F94 0x2F94 0x00 0x00 (.u 1) (.const) (32) (.any) .none (.all) false, -- highest subindex
  row 0x2F94 0x2F94 0x01 0x20 (.i 2) (.rw .maintainer) (0) (.iv [(-200, 200)]) .T (.sub 4) false -- user TDM gain trim
  ]

/-- The objects of area `edge`. -/
def objRows_edge : List ObjRow := [
  row 0x2800 0x281F 0x00 0x00 (.u 1) (.const) (18) (.any) .none (.idx 0x2800 4) false, -- highest subindex
  row 0x2800 0x281F 0x01 0x01 (.u 1) (.rw .integrator) (0) (.iv [(0, 1)]) .C (.idx 0x2800 4) false, -- CAN enable
  row 0x2800 0x281F 0x02 0x02 (.u 1) (.rw .integrator) (0) (.iv [(0, 2)]) .C (.idx 0x2800 4) false, -- CAN protocol
  row 0x2800 0x281F 0x03 0x03 (.u 2) (.rw .integrator) (500) (.iv [(10, 1000)]) .C (.idx 0x2800 4) false, -- nominal bit rate
  row 0x2800 0x281F 0x04 0x04 (.u 2) (.rw .integrator) (2000) (.iv [(1000, 8000)]) .C (.idx 0x2800 4) false, -- data bit rate
  row 0x2800 0x281F 0x05 0x05 (.u 2) (.rw .integrator) (20550) (.fl [(0, 8, [(50, 90)]), (8, 8, [(50, 90)])]) .C (.idx 0x2800 4) false, -- sample points
  row 0x2800 0x281F 0x06 0x06 (.u 1) (.rw .integrator) (2) (.fl [(4, 4, [(0, 0)])]) .C (.idx 0x2800 4) false, -- CAN options
  row 0x2800 0x281F 0x07 0x07 (.u 1) (.rw .integrator) (0) (.iv [(0, 2)]) .I (.idx 0x2800 4) false, -- data field size
  row 0x2800 0x281F 0x08 0x08 (.dom 768 768) (.rw .integrator) (0) (.any) .I (.idx 0x2800 4) false, -- buffer configuration
  row 0x2800 0x281F 0x09 0x09 (.u 2) (.rw .integrator) (4112) (.fl [(0, 8, [(0, 64)]), (8, 8, [(0, 64)])]) .I (.idx 0x2800 4) false, -- FIFO depths
  row 0x2800 0x281F 0x0A 0x0A (.u 1) (.ro .observer) (0) (.any) .none (.idx 0x2800 4) false, -- CAN status
  row 0x2800 0x281F 0x0B 0x0B (.u 2) (.ro .observer) (0) (.any) .none (.idx 0x2800 4) false, -- error counters
  row 0x2800 0x281F 0x0C 0x0C (.u 8) (.ro .observer) (0) (.any) .none (.idx 0x2800 4) false, -- CAN frames received
  row 0x2800 0x281F 0x0D 0x0D (.u 8) (.ro .observer) (0) (.any) .none (.idx 0x2800 4) false, -- CAN frames transmitted
  row 0x2800 0x281F 0x0E 0x0E (.u 4) (.ro .observer) (0) (.any) .none (.idx 0x2800 4) false, -- bus errors
  row 0x2800 0x281F 0x0F 0x0F (.u 4) (.ro .observer) (0) (.any) .none (.idx 0x2800 4) false, -- bus-off events
  row 0x2800 0x281F 0x10 0x10 (.u 4) (.ro .observer) (0) (.any) .none (.idx 0x2800 4) false, -- CAN overruns
  row 0x2800 0x281F 0x11 0x11 (.u 1) (.wo .operator) (0) (.iv [(1, 1)]) .I (.idx 0x2800 4) false, -- bus-off recovery
  row 0x2800 0x281F 0x12 0x12 (.u 1) (.wo .operator) (0) (.iv [(1, 1)]) .I (.idx 0x2800 4) false, -- clear CAN counters
  row 0x2820 0x282F 0x00 0x00 (.u 1) (.const) (9) (.any) .none (.idx 0x2820 2) false, -- highest subindex
  row 0x2820 0x282F 0x01 0x01 (.u 1) (.rw .integrator) (0) (.iv [(0, 1)]) .C (.idx 0x2820 2) false, -- LIN enable
  row 0x2820 0x282F 0x02 0x02 (.u 1) (.rw .integrator) (1) (.iv [(0, 1)]) .C (.idx 0x2820 2) false, -- LIN role
  row 0x2820 0x282F 0x03 0x03 (.u 2) (.rw .integrator) (19200) (.iv [(1000, 20000)]) .C (.idx 0x2820 2) false, -- LIN bit rate
  row 0x2820 0x282F 0x04 0x04 (.dom 0 256) (.rw .integrator) (0) (.any) .C (.idx 0x2820 2) false, -- LIN schedule
  row 0x2820 0x282F 0x05 0x05 (.u 1) (.ro .observer) (0) (.any) .none (.idx 0x2820 2) false, -- LIN status
  row 0x2820 0x282F 0x06 0x06 (.u 8) (.ro .observer) (0) (.any) .none (.idx 0x2820 2) false, -- LIN frames
  row 0x2820 0x282F 0x07 0x07 (.u 4) (.ro .observer) (0) (.any) .none (.idx 0x2820 2) false, -- LIN checksum errors
  row 0x2820 0x282F 0x08 0x08 (.u 4) (.ro .observer) (0) (.any) .none (.idx 0x2820 2) false, -- LIN no-response errors
  row 0x2820 0x282F 0x09 0x09 (.u 1) (.wo .operator) (0) (.iv [(1, 1)]) .I (.idx 0x2820 2) false, -- clear LIN counters
  row 0x2830 0x283F 0x00 0x00 (.u 1) (.const) (11) (.any) .none (.idx 0x2830 2) false, -- highest subindex
  row 0x2830 0x283F 0x01 0x01 (.u 1) (.rw .integrator) (0) (.iv [(0, 1)]) .C (.idx 0x2830 2) false, -- UART enable
  row 0x2830 0x283F 0x02 0x02 (.u 4) (.rw .integrator) (115200) (.iv [(300, 12000000)]) .C (.idx 0x2830 2) false, -- UART bit rate
  row 0x2830 0x283F 0x03 0x03 (.u 1) (.rw .integrator) (1) (.fl [(0, 2, [(0, 2)]), (2, 2, [(0, 2)]), (6, 2, [(0, 0)])]) .C (.idx 0x2830 2) false, -- character format
  row 0x2830 0x283F 0x04 0x04 (.u 2) (.rw .integrator) (257) (.any) .C (.idx 0x2830 2) false, -- DE timing
  row 0x2830 0x283F 0x05 0x05 (.u 1) (.rw .integrator) (35) (.iv [(15, 255)]) .C (.idx 0x2830 2) false, -- message gap
  row 0x2830 0x283F 0x06 0x06 (.u 1) (.rw .integrator) (1) (.iv [(0, 2)]) .C (.idx 0x2830 2) false, -- identifier bytes
  row 0x2830 0x283F 0x07 0x07 (.u 2) (.rw .integrator) (511) (.iv [(0, 511)]) .C (.idx 0x2830 2) false, -- own address
  row 0x2830 0x283F 0x08 0x08 (.u 8) (.ro .observer) (0) (.any) .none (.idx 0x2830 2) false, -- UART messages
  row 0x2830 0x283F 0x09 0x09 (.u 4) (.ro .observer) (0) (.any) .none (.idx 0x2830 2) false, -- UART character errors
  row 0x2830 0x283F 0x0A 0x0A (.u 4) (.ro .observer) (0) (.any) .none (.idx 0x2830 2) false, -- UART overruns
  row 0x2830 0x283F 0x0B 0x0B (.u 1) (.wo .operator) (0) (.iv [(1, 1)]) .I (.idx 0x2830 2) false, -- clear UART counters
  row 0x2840 0x2847 0x00 0x00 (.u 1) (.const) (10) (.any) .none (.idx 0x2840 1) false, -- highest subindex
  row 0x2840 0x2847 0x01 0x01 (.u 1) (.rw .integrator) (0) (.iv [(0, 1)]) .C (.idx 0x2840 1) false, -- MVB enable
  row 0x2840 0x2847 0x02 0x02 (.u 1) (.rw .integrator) (0) (.iv [(0, 1)]) .C (.idx 0x2840 1) false, -- MVB role
  row 0x2840 0x2847 0x03 0x03 (.u 2) (.rw .integrator) (0) (.iv [(0, 4095)]) .C (.idx 0x2840 1) false, -- MVB device address
  row 0x2840 0x2847 0x04 0x04 (.dom 4096 4096) (.rw .integrator) (0) (.any) .C (.idx 0x2840 1) false, -- MVB ports
  row 0x2840 0x2847 0x05 0x05 (.dom 0 16384) (.rw .integrator) (0) (.any) .C (.idx 0x2840 1) false, -- master frame table
  row 0x2840 0x2847 0x06 0x06 (.u 1) (.ro .observer) (0) (.any) .none (.idx 0x2840 1) false, -- line status
  row 0x2840 0x2847 0x07 0x07 (.u 8) (.ro .observer) (0) (.any) .none (.idx 0x2840 1) false, -- MVB frames
  row 0x2840 0x2847 0x08 0x08 (.u 4) (.ro .observer) (0) (.any) .none (.idx 0x2840 1) false, -- line switchovers
  row 0x2840 0x2847 0x09 0x09 (.u 4) (.ro .observer) (0) (.any) .none (.idx 0x2840 1) false, -- MVB frame errors
  row 0x2840 0x2847 0x0A 0x0A (.u 1) (.wo .operator) (0) (.iv [(1, 1)]) .I (.idx 0x2840 1) false, -- clear MVB counters
  row 0x2848 0x284F 0x00 0x00 (.u 1) (.const) (8) (.any) .none (.idx 0x2848 1) false, -- highest subindex
  row 0x2848 0x284F 0x01 0x01 (.u 1) (.rw .integrator) (0) (.iv [(0, 1)]) .C (.idx 0x2848 1) false, -- T1S enable
  row 0x2848 0x284F 0x02 0x02 (.u 1) (.rw .integrator) (0) (.iv [(0, 254)]) .C (.idx 0x2848 1) false, -- PLCA node ID
  row 0x2848 0x284F 0x03 0x03 (.u 1) (.rw .integrator) (8) (.iv [(2, 255)]) .C (.idx 0x2848 1) false, -- PLCA node count
  row 0x2848 0x284F 0x04 0x04 (.u 2) (.rw .integrator) (32) (.fl [(0, 8, [(1, 255)])]) .C (.idx 0x2848 1) false, -- PLCA timer
  row 0x2848 0x284F 0x05 0x05 (.u 8) (.ro .observer) (0) (.any) .none (.idx 0x2848 1) false, -- T1S frames received
  row 0x2848 0x284F 0x06 0x06 (.u 8) (.ro .observer) (0) (.any) .none (.idx 0x2848 1) false, -- T1S frames sent
  row 0x2848 0x284F 0x07 0x07 (.u 4) (.ro .observer) (0) (.any) .none (.idx 0x2848 1) false, -- T1S errors
  row 0x2848 0x284F 0x08 0x08 (.u 1) (.wo .operator) (0) (.iv [(1, 1)]) .I (.idx 0x2848 1) false, -- clear T1S counters
  row 0x2850 0x2850 0x00 0x00 (.u 1) (.const) (4) (.any) .none (.all) false, -- highest subindex
  row 0x2850 0x2850 0x01 0x01 (.u 1) (.rw .integrator) (0) (.fl [(2, 2, [(0, 0)])]) .T (.all) false, -- CANopen unit
  row 0x2850 0x2850 0x02 0x02 (.u 1) (.rw .integrator) (127) (.iv [(1, 127)]) .T (.all) false, -- node-ID
  row 0x2850 0x2850 0x03 0x03 (.u 1) (.ro .observer) (0) (.any) .none (.all) false, -- NMT state
  row 0x2850 0x2850 0x04 0x04 (.u 1) (.rw .integrator) (0) (.iv [(0, 1)]) .T (.all) false, -- NMT start-up
  row 0x2858 0x2858 0x00 0x00 (.u 1) (.const) (4) (.any) .none (.all) false, -- highest subindex
  row 0x2858 0x2858 0x01 0x01 (.u 1) (.rw .observer) (0) (.iv [(0, 7)]) .I (.all) false, -- port die
  row 0x2858 0x2858 0x02 0x02 (.u 2) (.rw .observer) (0) (.iv [(0, 4095)]) .I (.all) false, -- first port
  row 0x2858 0x2858 0x03 0x03 (.u 1) (.rw .observer) (1) (.iv [(1, 64)]) .I (.all) false, -- port count
  row 0x2858 0x2858 0x04 0x04 (.win 0x285802 0x285803 40) (.ro .observer) (0) (.any) .none (.all) false, -- port data
  row 0x2900 0x2900 0x00 0x00 (.u 1) (.const) (6) (.any) .none (.all) false, -- highest subindex
  row 0x2900 0x2900 0x01 0x01 (.u 2) (.ro .observer) (0) (.any) .none (.all) false, -- mappings in use
  row 0x2900 0x2900 0x02 0x02 (.u 2) (.ro .observer) (0) (.any) .none (.all) false, -- messages in use
  row 0x2900 0x2900 0x03 0x03 (.u 2) (.ro .observer) (0) (.any) .none (.all) false, -- stale mappings
  row 0x2900 0x2900 0x04 0x04 (.u 1) (.wo .operator) (0) (.iv [(1, 1)]) .I (.all) false, -- clear gateway counters
  row 0x2900 0x2900 0x05 0x05 (.u 4) (.ro .observer) (4294967295) (.any) .none (.all) false, -- first faulty record
  row 0x2900 0x2900 0x06 0x06 (.u 4) (.rw .integrator) (0) (.any) .C (.all) false, -- gateway source address
  row 0x2901 0x2901 0x00 0x00 (.u 1) (.const) (8) (.any) .none (.all) false, -- highest subindex
  row 0x2901 0x2901 0x01 0x08 (.u 4) (.ro .observer) (0) (.any) .none (.sub 1) false, -- gateway engine load
  row 0x2902 0x2902 0x00 0x00 (.u 1) (.const) (16) (.any) .none (.all) false, -- highest subindex
  row 0x2902 0x2902 0x01 0x10 (.u 2) (.ro .observer) (0) (.any) .none (.sub 2) false, -- staging cells in use
  row 0x2910 0x2910 0x00 0x00 (.u 1) (.const) (5) (.any) .none (.all) false, -- highest subindex
  row 0x2910 0x2910 0x01 0x01 (.u 2) (.rw .observer) (0) (.iv [(0, 8191)]) .I (.all) false, -- first message
  row 0x2910 0x2910 0x02 0x02 (.u 1) (.rw .observer) (1) (.iv [(1, 64)]) .I (.all) false, -- message count
  row 0x2910 0x2910 0x03 0x03 (.win 0x291001 0x291002 48) (.rw .integrator) (0) (.any) .C (.all) false, -- message records
  row 0x2910 0x2910 0x04 0x04 (.win 0x291001 0x291002 32) (.ro .observer) (0) (.any) .none (.all) false, -- message status
  row 0x2910 0x2910 0x05 0x05 (.win 0x292001 0x292002 16) (.ro .observer) (0) (.any) .none (.all) false, -- mapping status
  row 0x2920 0x2920 0x00 0x00 (.u 1) (.const) (3) (.any) .none (.all) false, -- highest subindex
  row 0x2920 0x2920 0x01 0x01 (.u 2) (.rw .observer) (0) (.iv [(0, 32767)]) .I (.all) false, -- first mapping
  row 0x2920 0x2920 0x02 0x02 (.u 1) (.rw .observer) (1) (.iv [(1, 64)]) .I (.all) false, -- mapping count
  row 0x2920 0x2920 0x03 0x03 (.win 0x292001 0x292002 32) (.rw .integrator) (0) (.any) .C (.all) false -- mapping records
  ]

/-- The objects of area `bridge`. -/
def objRows_bridge : List ObjRow := [
  row 0x2E40 0x2E40 0x00 0x00 (.u 1) (.const) (32) (.any) .none (.all) false, -- highest subindex
  row 0x2E40 0x2E40 0x01 0x20 (.u 1) (.ro .observer) (0) (.any) .none (.sub 4) false, -- Saddle link state
  row 0x2E41 0x2E41 0x00 0x00 (.u 1) (.const) (32) (.any) .none (.all) false, -- highest subindex
  row 0x2E41 0x2E41 0x01 0x20 (.u 4) (.ro .observer) (0) (.any) .none (.sub 4) false, -- flit replays
  row 0x2E42 0x2E42 0x00 0x00 (.u 1) (.const) (32) (.any) .none (.all) false, -- highest subindex
  row 0x2E42 0x2E42 0x01 0x20 (.u 4) (.ro .observer) (0) (.any) .none (.sub 4) false, -- missed heartbeats
  row 0x2E43 0x2E43 0x00 0x00 (.u 1) (.const) (8) (.any) .none (.all) false, -- highest subindex
  row 0x2E43 0x2E43 0x01 0x08 (.u 4) (.ro .observer) (0) (.any) .none (.sub 1) false, -- bridge faults
  row 0x2E44 0x2E44 0x00 0x00 (.u 1) (.const) (8) (.any) .none (.all) false, -- highest subindex
  row 0x2E44 0x2E44 0x01 0x08 (.u 4) (.ro .observer) (0) (.any) .none (.sub 1) false, -- late completions
  row 0x2E45 0x2E45 0x00 0x00 (.u 1) (.const) (8) (.any) .none (.all) false, -- highest subindex
  row 0x2E45 0x2E45 0x01 0x08 (.dom 64 64) (.rw .integrator) (0) (.any) .I (.sub 1) false, -- interrupt routing
  row 0x2E46 0x2E46 0x00 0x00 (.u 1) (.const) (18) (.any) .none (.all) false, -- highest subindex
  row 0x2E46 0x2E46 0x01 0x12 (.u 4) (.ro .observer) (0) (.any) .none (.windows) false, -- speculative reads discarded
  row 0x2E47 0x2E47 0x00 0x00 (.u 1) (.const) (2) (.any) .none (.all) false, -- highest subindex
  row 0x2E47 0x2E47 0x01 0x01 (.u 1) (.ro .observer) (0) (.any) .none (.all) false, -- host endpoint die
  row 0x2E47 0x2E47 0x02 0x02 (.u 1) (.wo .operator) (0) (.iv [(1, 1)]) .I (.all) false -- clear bridge counters
  ]

/-- The objects of area `cairn`. -/
def objRows_cairn : List ObjRow := [
  row 0x2B00 0x2B00 0x00 0x00 (.u 1) (.const) (10) (.any) .none (.all) false, -- highest subindex
  row 0x2B00 0x2B00 0x01 0x01 (.u 2) (.ro .observer) (0) (.any) .none (.all) false, -- slots in use
  row 0x2B00 0x2B00 0x02 0x02 (.u 2) (.ro .observer) (0) (.any) .none (.all) false, -- imported leaves in use
  row 0x2B00 0x2B00 0x03 0x03 (.u 2) (.ro .observer) (0) (.any) .none (.all) false, -- imported leaves awaiting value
  row 0x2B00 0x2B00 0x04 0x04 (.u 1) (.ro .observer) (0) (.any) .none (.all) false, -- last key write status
  row 0x2B00 0x2B00 0x05 0x05 (.u 2) (.ro .observer) (65535) (.any) .none (.all) false, -- last key write slot
  row 0x2B00 0x2B00 0x06 0x06 (.u 2) (.ro .observer) (0) (.any) .none (.all) false, -- root status
  row 0x2B00 0x2B00 0x07 0x07 (.u 1) (.ro .observer) (0) (.any) .none (.all) false, -- transport mismatches
  row 0x2B00 0x2B00 0x08 0x08 (.oct 97) (.ro .observer) (0) (.any) .none (.all) false, -- import public key
  row 0x2B00 0x2B00 0x09 0x09 (.u 1) (.ro .observer) (0) (.any) .none (.all) false, -- tamper destroys root
  row 0x2B00 0x2B00 0x0A 0x0A (.u 1) (.wo .vendor) (0) (.iv [(90, 90)]) .I (.all) false, -- fuse tamper destroys root
  row 0x2B10 0x2B10 0x00 0x00 (.u 1) (.const) (3) (.any) .none (.all) false, -- highest subindex
  row 0x2B10 0x2B10 0x01 0x01 (.u 2) (.rw .observer) (0) (.iv [(0, 1023)]) .I (.all) false, -- first slot
  row 0x2B10 0x2B10 0x02 0x02 (.u 1) (.rw .observer) (1) (.iv [(1, 32)]) .I (.all) false, -- slot count
  row 0x2B10 0x2B10 0x03 0x03 (.win 0x2B1001 0x2B1002 48) (.rw .integrator) (0) (.any) .I (.all) true, -- slot records
  row 0x2B11 0x2B11 0x00 0x00 (.u 1) (.const) (1) (.any) .none (.all) false, -- highest subindex
  row 0x2B11 0x2B11 0x01 0x01 (.dom 128 160) (.wo .integrator) (0) (.any) .I (.all) true, -- key import
  row 0x2B18 0x2B18 0x00 0x00 (.u 1) (.const) (2) (.any) .none (.all) false, -- highest subindex
  row 0x2B18 0x2B18 0x01 0x01 (.u 1) (.woLifeCycle) (0) (.iv [(1, 5)]) .I (.all) false, -- life-cycle command
  row 0x2B18 0x2B18 0x02 0x02 (.u 1) (.ro .observer) (0) (.any) .none (.all) false, -- life-cycle command status
  row 0x2B20 0x2B20 0x00 0x00 (.u 1) (.const) (5) (.any) .none (.all) false, -- highest subindex
  row 0x2B20 0x2B20 0x01 0x01 (.u 1) (.rw .integrator) (1) (.iv [(0, 2)]) .T (.all) false, -- tamper policy
  row 0x2B20 0x2B20 0x02 0x02 (.u 1) (.rw .integrator) (127) (.fl [(0, 1, [(1, 1)]), (4, 3, [(7, 7)]), (7, 1, [(0, 0)])]) .T (.all) false, -- tamper sensor enable
  row 0x2B20 0x2B20 0x03 0x03 (.u 1) (.ro .observer) (0) (.any) .none (.all) false, -- tamper state
  row 0x2B20 0x2B20 0x04 0x04 (.dom 8 64) (.wo .maintainer) (0) (.any) .I (.all) false, -- tamper clear
  row 0x2B20 0x2B20 0x05 0x05 (.u 1) (.ro .observer) (0) (.any) .none (.all) false, -- sensors active
  row 0x2B21 0x2B21 0x00 0x00 (.u 1) (.const) (7) (.any) .none (.all) false, -- highest subindex
  row 0x2B21 0x2B21 0x01 0x07 (.u 4) (.ro .observer) (0) (.any) .none (.all) false, -- tamper counters
  row 0x2B28 0x2B28 0x00 0x00 (.u 1) (.const) (2) (.any) .none (.all) false, -- highest subindex
  row 0x2B28 0x2B28 0x01 0x01 (.dom 8 64) (.wo .observer) (0) (.any) .I (.all) false, -- attestation nonce
  row 0x2B28 0x2B28 0x02 0x02 (.dom 0 4096) (.ro .observer) (0) (.any) .none (.all) false -- attestation statement
  ]

/-- The objects of area `cipher`. -/
def objRows_cipher : List ObjRow := [
  row 0x2B40 0x2B40 0x00 0x00 (.u 1) (.const) (24) (.any) .none (.all) false, -- highest subindex
  row 0x2B40 0x2B40 0x01 0x08 (.u 1) (.rw .integrator) (1) (.iv [(0, 1)]) .C (.sub8) false, -- look-aside enable
  row 0x2B40 0x2B40 0x09 0x10 (.u 4) (.ro .observer) (0) (.any) .none (.sub8) false, -- look-aside reserved load
  row 0x2B40 0x2B40 0x11 0x18 (.u 1) (.ro .observer) (0) (.any) .none (.sub8) false, -- look-aside oversubscribed
  row 0x2B41 0x2B41 0x00 0x00 (.u 1) (.const) (8) (.any) .none (.all) false, -- highest subindex
  row 0x2B41 0x2B41 0x01 0x08 (.u 8) (.ro .observer) (0) (.any) .none (.sub 1) false, -- jobs completed
  row 0x2B42 0x2B42 0x00 0x00 (.u 1) (.const) (8) (.any) .none (.all) false, -- highest subindex
  row 0x2B42 0x2B42 0x01 0x08 (.u 4) (.ro .observer) (0) (.any) .none (.sub 1) false, -- jobs failed
  row 0x2B43 0x2B43 0x00 0x00 (.u 1) (.const) (8) (.any) .none (.all) false, -- highest subindex
  row 0x2B43 0x2B43 0x01 0x08 (.u 4) (.ro .observer) (0) (.any) .none (.sub 1) false, -- SA refusals
  row 0x2B44 0x2B44 0x00 0x00 (.u 1) (.const) (3) (.any) .none (.all) false, -- highest subindex
  row 0x2B44 0x2B44 0x01 0x01 (.u 1) (.rw .operator) (0) (.iv [(0, 63)]) .I (.all) false, -- abort class
  row 0x2B44 0x2B44 0x02 0x02 (.u 2) (.rw .operator) (0) (.any) .I (.all) false, -- abort descriptor
  row 0x2B44 0x2B44 0x03 0x03 (.u 1) (.wo .operator) (0) (.iv [(1, 1)]) .I (.all) false, -- abort job
  row 0x2B48 0x2B48 0x00 0x00 (.u 1) (.const) (3) (.any) .none (.all) false, -- highest subindex
  row 0x2B48 0x2B48 0x01 0x01 (.u 1) (.rw .observer) (0) (.iv [(0, 63)]) .I (.all) false, -- first class
  row 0x2B48 0x2B48 0x02 0x02 (.u 1) (.rw .observer) (1) (.iv [(1, 64)]) .I (.all) false, -- class count
  row 0x2B48 0x2B48 0x03 0x03 (.win 0x2B4801 0x2B4802 32) (.rw .integrator) (0) (.any) .C (.all) false, -- job-class records
  row 0x2B50 0x2B50 0x00 0x00 (.u 1) (.const) (3) (.any) .none (.all) false, -- highest subindex
  row 0x2B50 0x2B50 0x01 0x01 (.u 1) (.rw .observer) (0) (.iv [(0, 63)]) .I (.all) false, -- Speward job class
  row 0x2B50 0x2B50 0x02 0x02 (.dom 96 4192) (.wo .observer) (0) (.any) .I (.all) false, -- Speward job
  row 0x2B50 0x2B50 0x03 0x03 (.dom 0 4192) (.ro .observer) (0) (.any) .none (.all) false, -- Speward job result
  row 0x2B60 0x2B60 0x00 0x00 (.u 1) (.const) (3) (.any) .none (.all) false, -- highest subindex
  row 0x2B60 0x2B60 0x01 0x01 (.u 2) (.rw .observer) (0) (.iv [(0, 511)]) .I (.all) false, -- first channel
  row 0x2B60 0x2B60 0x02 0x02 (.u 1) (.rw .observer) (1) (.iv [(1, 16)]) .I (.all) false, -- channel count
  row 0x2B60 0x2B60 0x03 0x03 (.win 0x2B6001 0x2B6002 64) (.rw .integrator) (0) (.any) .C (.all) false, -- channel records
  row 0x2B68 0x2B68 0x00 0x00 (.u 1) (.const) (3) (.any) .none (.all) false, -- highest subindex
  row 0x2B68 0x2B68 0x01 0x01 (.u 2) (.rw .observer) (0) (.iv [(0, 511)]) .I (.all) false, -- first SA channel
  row 0x2B68 0x2B68 0x02 0x02 (.u 1) (.rw .observer) (1) (.iv [(1, 16)]) .I (.all) false, -- SA channel count
  row 0x2B68 0x2B68 0x03 0x03 (.win 0x2B6801 0x2B6802 128) (.ro .observer) (0) (.any) .none (.all) false, -- SA status
  row 0x2B70 0x2B70 0x00 0x00 (.u 1) (.const) (64) (.any) .none (.all) false, -- highest subindex
  row 0x2B70 0x2B70 0x01 0x40 (.dom 64 64) (.ro .observer) (0) (.any) .none (.sub 8) false, -- MACsec counters
  row 0x2B71 0x2B71 0x00 0x00 (.u 1) (.const) (1) (.any) .none (.all) false, -- highest subindex
  row 0x2B71 0x2B71 0x01 0x01 (.u 1) (.wo .operator) (0) (.iv [(1, 1)]) .I (.all) false -- clear MACsec counters
  ]

/-- The objects of area `mem`. -/
def objRows_mem : List ObjRow := [
  row 0x2E50 0x2E50 0x00 0x00 (.u 1) (.const) (8) (.any) .none (.all) false, -- highest subindex
  row 0x2E50 0x2E50 0x01 0x08 (.u 4) (.roZero) (0) (.iv [(0, 0)]) .I (.sub 1) false, -- ECC corrected
  row 0x2E51 0x2E51 0x00 0x00 (.u 1) (.const) (8) (.any) .none (.all) false, -- highest subindex
  row 0x2E51 0x2E51 0x01 0x08 (.u 4) (.roZero) (0) (.iv [(0, 0)]) .I (.sub 1) false, -- ECC uncorrectable
  row 0x2E52 0x2E52 0x00 0x00 (.u 1) (.const) (8) (.any) .none (.all) false, -- highest subindex
  row 0x2E52 0x2E52 0x01 0x08 (.u 2) (.ro .observer) (0) (.any) .none (.sub 1) false, -- spare rows in use
  row 0x2E53 0x2E53 0x00 0x00 (.u 1) (.const) (8) (.any) .none (.all) false, -- highest subindex
  row 0x2E53 0x2E53 0x01 0x08 (.u 2) (.ro .observer) (0) (.any) .none (.sub 1) false, -- failed banks
  row 0x2E54 0x2E54 0x00 0x00 (.u 1) (.const) (8) (.any) .none (.all) false, -- highest subindex
  row 0x2E54 0x2E54 0x01 0x08 (.u 4) (.roZero) (0) (.iv [(0, 0)]) .I (.sub 1) false, -- mailbox write collisions
  row 0x2E58 0x2E58 0x00 0x00 (.u 1) (.const) (8) (.any) .none (.all) false, -- highest subindex
  row 0x2E58 0x2E58 0x01 0x01 (.u 1) (.rw .maintainer) (0) (.iv [(0, 7)]) .I (.all) false, -- march die
  row 0x2E58 0x2E58 0x02 0x02 (.u 2) (.rw .maintainer) (0) (.fl [(11, 5, [(0, 0)])]) .I (.all) false, -- march memory
  row 0x2E58 0x2E58 0x03 0x03 (.u 1) (.rw .maintainer) (1) (.iv [(0, 1)]) .I (.all) false, -- march mode
  row 0x2E58 0x2E58 0x04 0x04 (.u 1) (.wo .maintainer) (0) (.iv [(1, 2)]) .I (.all) false, -- march command
  row 0x2E58 0x2E58 0x05 0x05 (.u 1) (.ro .observer) (0) (.any) .none (.all) false, -- march status
  row 0x2E58 0x2E58 0x06 0x06 (.u 2) (.ro .observer) (0) (.any) .none (.all) false, -- march failing rows
  row 0x2E58 0x2E58 0x07 0x07 (.u 2) (.ro .observer) (0) (.any) .none (.all) false, -- march progress
  row 0x2E58 0x2E58 0x08 0x08 (.u 1) (.rw .integrator) (0) (.any) .C (.all) false, -- die service hold
  row 0x2E59 0x2E59 0x00 0x00 (.u 1) (.const) (8) (.any) .none (.all) false, -- highest subindex
  row 0x2E59 0x2E59 0x01 0x08 (.u 4) (.ro .observer) (0) (.any) .none (.sub 1) false -- event log passes
  ]

/-- The objects of area `power`. -/
def objRows_power : List ObjRow := [
  row 0x2C00 0x2C00 0x00 0x00 (.u 1) (.const) (19) (.any) .none (.all) false, -- highest subindex
  row 0x2C00 0x2C00 0x01 0x01 (.u 1) (.ro .observer) (3) (.any) .none (.all) false, -- power state
  row 0x2C00 0x2C00 0x02 0x02 (.u 1) (.wo .integrator) (0) (.iv [(1, 2)]) .I (.all) false, -- standby command
  row 0x2C00 0x2C00 0x03 0x03 (.u 1) (.ro .observer) (0) (.any) .none (.all) false, -- last wake cause
  row 0x2C00 0x2C00 0x04 0x04 (.u 2) (.ro .observer) (65535) (.any) .none (.all) false, -- last wake source
  row 0x2C00 0x2C00 0x05 0x05 (.u 4) (.ro .observer) (0) (.any) .none (.all) false, -- last wake time
  row 0x2C00 0x2C00 0x06 0x06 (.u 4) (.rw .integrator) (3000) (.iv [(100, 600000)]) .T (.all) false, -- no-traffic timeout
  row 0x2C00 0x2C00 0x07 0x07 (.u 4) (.ro .observer) (0) (.any) .none (.all) false, -- false wakes
  row 0x2C00 0x2C00 0x08 0x08 (.u 1) (.wo .operator) (0) (.iv [(1, 1)]) .I (.all) false, -- wake command
  row 0x2C00 0x2C00 0x09 0x09 (.u 1) (.wo .operator) (0) (.iv [(1, 1)]) .I (.all) false, -- sleep request
  row 0x2C00 0x2C00 0x0A 0x0A (.u 1) (.rw .operator) (0) (.iv [(0, 1)]) .I (.all) false, -- sleep veto
  row 0x2C00 0x2C00 0x0B 0x0B (.u 1) (.ro .observer) (0) (.any) .none (.all) false, -- sleep round status
  row 0x2C00 0x2C00 0x0C 0x0C (.u 8) (.ro .observer) (0) (.any) .none (.all) false, -- sleep commit tick
  row 0x2C00 0x2C00 0x0D 0x0D (.dom 136 136) (.ro .observer) (0) (.any) .none (.all) false, -- round report
  row 0x2C00 0x2C00 0x0E 0x0E (.dom 256 256) (.ro .observer) (0) (.any) .none (.all) false, -- members
  row 0x2C00 0x2C00 0x0F 0x0F (.u 1) (.wo .integrator) (0) (.iv [(1, 1)]) .I (.all) false, -- detach command
  row 0x2C00 0x2C00 0x10 0x10 (.u 1) (.ro .observer) (0) (.any) .none (.all) false, -- detach status
  row 0x2C00 0x2C00 0x11 0x11 (.u 8) (.rw .integrator) (0) (.any) .T (.all) false, -- wake forward lanes
  row 0x2C00 0x2C00 0x12 0x12 (.u 8) (.rw .integrator) (0) (.any) .T (.all) false, -- ring lanes
  row 0x2C00 0x2C00 0x13 0x13 (.u 2) (.ro .observer) (0) (.any) .none (.all) false, -- own veto reasons
  row 0x2C10 0x2C10 0x00 0x00 (.u 1) (.const) (6) (.any) .none (.all) false, -- highest subindex
  row 0x2C10 0x2C10 0x01 0x01 (.u 4) (.rw .integrator) (0) (.any) .C (.all) false, -- power cap
  row 0x2C10 0x2C10 0x02 0x02 (.i 1) (.rw .integrator) (85) (.iv [(-40, 125)]) .C (.all) false, -- declared ambient
  row 0x2C10 0x2C10 0x03 0x03 (.u 4) (.ro .observer) (0) (.any) .none (.all) false, -- package power
  row 0x2C10 0x2C10 0x04 0x04 (.u 4) (.ro .observer) (0) (.any) .none (.all) false, -- plan power
  row 0x2C10 0x2C10 0x05 0x05 (.u 1) (.ro .observer) (0) (.any) .none (.all) false, -- throttle state
  row 0x2C10 0x2C10 0x06 0x06 (.u 1) (.rw .integrator) (1) (.iv [(0, 2)]) .T (.all) false, -- PMBus rate
  row 0x2C20 0x2C20 0x00 0x00 (.u 1) (.const) (3) (.any) .none (.all) false, -- highest subindex
  row 0x2C20 0x2C20 0x01 0x01 (.u 1) (.rw .observer) (0) (.iv [(0, 15)]) .I (.all) false, -- first rail
  row 0x2C20 0x2C20 0x02 0x02 (.u 1) (.rw .observer) (1) (.iv [(1, 16)]) .I (.all) false, -- rail count
  row 0x2C20 0x2C20 0x03 0x03 (.win 0x2C2001 0x2C2002 24) (.rw .integrator) (0) (.any) .C (.all) false, -- rail records
  row 0x2C30 0x2C30 0x00 0x00 (.u 1) (.const) (8) (.any) .none (.all) false, -- highest subindex
  row 0x2C30 0x2C30 0x01 0x08 (.i 1) (.rw .integrator) (125) (.iv [(85, 125)]) .C (.sub 1) false, -- thermal limit
  row 0x2C31 0x2C31 0x00 0x00 (.u 1) (.const) (8) (.any) .none (.all) false, -- highest subindex
  row 0x2C31 0x2C31 0x01 0x08 (.u 2) (.rw .integrator) (200) (.iv [(10, 2000)]) .C (.sub 1) false, -- thermal resistance
  row 0x2C32 0x2C32 0x00 0x00 (.u 1) (.const) (8) (.any) .none (.all) false, -- highest subindex
  row 0x2C32 0x2C32 0x01 0x08 (.u 4) (.ro .observer) (13000) (.any) .none (.sub 1) false, -- die limit
  row 0x2C33 0x2C33 0x00 0x00 (.u 1) (.const) (8) (.any) .none (.all) false, -- highest subindex
  row 0x2C33 0x2C33 0x01 0x08 (.u 4) (.ro .observer) (0) (.any) .none (.sub 1) false, -- die power
  row 0x2C34 0x2C34 0x00 0x00 (.u 1) (.const) (8) (.any) .none (.all) false, -- highest subindex
  row 0x2C34 0x2C34 0x01 0x08 (.u 2) (.ro .observer) (0) (.any) .none (.sub 1) false, -- domains on
  row 0x2C35 0x2C35 0x00 0x00 (.u 1) (.const) (8) (.any) .none (.all) false, -- highest subindex
  row 0x2C35 0x2C35 0x01 0x08 (.u 1) (.ro .observer) (16) (.any) .none (.sub 1) false, -- look-aside grant
  row 0x2C38 0x2C38 0x00 0x00 (.u 1) (.const) (16) (.any) .none (.all) false, -- highest subindex
  row 0x2C38 0x2C38 0x01 0x10 (.u 4) (.rw .integrator) (0) (.fl [(3, 13, [(0, 0)])]) .T (.sub 2) false, -- wake input
  row 0x2C39 0x2C39 0x00 0x00 (.u 1) (.const) (8) (.any) .none (.all) false, -- highest subindex
  row 0x2C39 0x2C39 0x01 0x08 (.u 2) (.rw .integrator) (0) (.fl [(6, 2, [(0, 0)]), (14, 2, [(0, 0)])]) .T (.sub 1) false, -- activity wake
  row 0x2C3A 0x2C3A 0x00 0x00 (.u 1) (.const) (8) (.any) .none (.all) false, -- highest subindex
  row 0x2C3A 0x2C3A 0x01 0x08 (.u 1) (.rw .integrator) (0) (.iv [(0, 1)]) .T (.sub 1) false -- INH in Sleep
  ]

/-- The objects of area `access`. -/
def objRows_access : List ObjRow := [
  row 0x2080 0x2080 0x00 0x00 (.u 1) (.const) (9) (.any) .none (.all) false, -- highest subindex
  row 0x2080 0x2080 0x01 0x01 (.u 2) (.rw .integrator) (50336) (.iv [(1024, 65535)]) .S (.all) false, -- Speward port
  row 0x2080 0x2080 0x02 0x02 (.u 4) (.rw .integrator) (2851995648) (.fl [(0, 11, [(0, 0)])]) .S (.all) false, -- management IPv4 prefix
  row 0x2080 0x2080 0x03 0x03 (.u 8) (.rw .integrator) (0) (.any) .S (.all) false, -- management IPv6 prefix
  row 0x2080 0x2080 0x04 0x04 (.u 2) (.rw .integrator) (60) (.iv [(10, 3600)]) .T (.all) false, -- session idle timeout
  row 0x2080 0x2080 0x05 0x05 (.u 1) (.ro .observer) (0) (.any) .none (.all) false, -- sessions open
  row 0x2080 0x2080 0x06 0x06 (.u 2) (.ro .observer) (0) (.any) .none (.all) false, -- this session
  row 0x2080 0x2080 0x07 0x07 (.u 4) (.ro .observer) (0) (.any) .none (.all) false, -- authentication failures
  row 0x2080 0x2080 0x08 0x08 (.u 4) (.ro .observer) (0) (.any) .none (.all) false, -- access denials
  row 0x2080 0x2080 0x09 0x09 (.u 4) (.ro .observer) (0) (.any) .none (.all) false, -- forwarded requests
  row 0x2081 0x2081 0x00 0x00 (.u 1) (.const) (8) (.any) .none (.all) false, -- highest subindex
  row 0x2081 0x2081 0x01 0x08 (.dom 52 52) (.rw .integrator) (0) (.any) .I (.all) true, -- trust anchor
  row 0x2F15 0x2F15 0x00 0x00 (.u 1) (.const) (64) (.any) .none (.all) false, -- highest subindex
  row 0x2F15 0x2F15 0x01 0x40 (.i 2) (.const) (0) (.any) .none (.sub 8) false, -- factory temperature offset
  row 0x2F16 0x2F16 0x00 0x00 (.u 1) (.const) (32) (.any) .none (.all) false, -- highest subindex
  row 0x2F16 0x2F16 0x01 0x20 (.u 4) (.const) (0) (.any) .none (.sub 4) false, -- factory voltage thresholds
  row 0x2F95 0x2F95 0x00 0x00 (.u 1) (.const) (64) (.any) .none (.all) false, -- highest subindex
  row 0x2F95 0x2F95 0x01 0x40 (.i 2) (.rw .maintainer) (0) (.iv [(-50, 50)]) .T (.sub 8) false, -- user temperature offset
  row 0x2F96 0x2F96 0x00 0x00 (.u 1) (.const) (32) (.any) .none (.all) false, -- highest subindex
  row 0x2F96 0x2F96 0x01 0x20 (.u 4) (.rw .maintainer) (0) (.any) .T (.sub 4) false, -- user voltage thresholds
  row 0x2FF0 0x2FF0 0x00 0x00 (.u 1) (.const) (2) (.any) .none (.all) false, -- highest subindex
  row 0x2FF0 0x2FF0 0x01 0x01 (.u 1) (.ro .observer) (0) (.any) .none (.all) false, -- calibration status
  row 0x2FF0 0x2FF0 0x02 0x02 (.u 2) (.wo .maintainer) (0) (.any) .T (.all) false -- restore factory
  ]

/-- The objects of area `update`. -/
def objRows_update : List ObjRow := [
  row 0x2D00 0x2D00 0x00 0x00 (.u 1) (.const) (12) (.any) .none (.all) false, -- highest subindex
  row 0x2D00 0x2D00 0x01 0x01 (.u 1) (.wo .maintainer) (0) (.iv [(1, 6)]) .I (.all) false, -- update command
  row 0x2D00 0x2D00 0x02 0x02 (.u 1) (.ro .observer) (0) (.any) .none (.all) false, -- update status
  row 0x2D00 0x2D00 0x03 0x03 (.u 4) (.ro .observer) (0) (.any) .none (.all) false, -- bytes received
  row 0x2D00 0x2D00 0x04 0x04 (.dom 5 1024) (.wo .maintainer) (0) (.any) .I (.all) false, -- image block
  row 0x2D00 0x2D00 0x05 0x05 (.u 2) (.ro .observer) (65535) (.any) .none (.all) false, -- lock holder
  row 0x2D00 0x2D00 0x06 0x06 (.u 1) (.ro .observer) (0) (.any) .none (.all) false, -- last update result
  row 0x2D00 0x2D00 0x07 0x07 (.u 2) (.rw .integrator) (120) (.iv [(10, 3600)]) .T (.all) false, -- confirmation window
  row 0x2D00 0x2D00 0x08 0x08 (.u 1) (.rw .integrator) (0) (.iv [(0, 1)]) .T (.all) false, -- confirmation mode
  row 0x2D00 0x2D00 0x09 0x09 (.u 8) (.ro .observer) (0) (.any) .none (.all) false, -- datapath pause tick
  row 0x2D00 0x2D00 0x0A 0x0A (.u 4) (.ro .observer) (0) (.any) .none (.all) false, -- anti-rollback counter
  row 0x2D00 0x2D00 0x0B 0x0B (.u 1) (.ro .observer) (0) (.any) .none (.all) false, -- running image
  row 0x2D00 0x2D00 0x0C 0x0C (.u 1) (.ro .observer) (0) (.any) .none (.all) false, -- trial starts
  row 0x2D10 0x2D11 0x00 0x00 (.u 1) (.const) (5) (.any) .none (.all) false, -- highest subindex
  row 0x2D10 0x2D11 0x01 0x01 (.u 1) (.ro .observer) (0) (.any) .none (.all) false, -- slot state
  row 0x2D10 0x2D11 0x02 0x02 (.u 4) (.ro .observer) (0) (.any) .none (.all) false, -- slot image version
  row 0x2D10 0x2D11 0x03 0x03 (.u 4) (.ro .observer) (0) (.any) .none (.all) false, -- slot security version
  row 0x2D10 0x2D11 0x04 0x04 (.oct 48) (.ro .observer) (0) (.any) .none (.all) false, -- slot image hash
  row 0x2D10 0x2D11 0x05 0x05 (.u 2) (.ro .observer) (0) (.any) .none (.all) false, -- slot planner format
  row 0x2D20 0x2D20 0x00 0x00 (.u 1) (.const) (5) (.any) .none (.all) false, -- highest subindex
  row 0x2D20 0x2D20 0x01 0x01 (.u 1) (.ro .observer) (0) (.any) .none (.all) false, -- last start reason
  row 0x2D20 0x2D20 0x02 0x02 (.u 4) (.ro .observer) (0) (.any) .none (.all) false, -- last cold start time
  row 0x2D20 0x2D20 0x03 0x03 (.u 1) (.ro .observer) (0) (.any) .none (.all) false, -- failed starts
  row 0x2D20 0x2D20 0x04 0x04 (.u 1) (.ro .observer) (0) (.any) .none (.all) false, -- recovery reason
  row 0x2D20 0x2D20 0x05 0x05 (.u 1) (.ro .observer) (0) (.any) .none (.all) false -- aligned dies
  ]

/-- The objects of area `diag`. -/
def objRows_diag : List ObjRow := [
  row 0x2E00 0x2E00 0x00 0x00 (.u 1) (.const) (9) (.any) .none (.all) false, -- highest subindex
  row 0x2E00 0x2E00 0x01 0x01 (.u 1) (.rw .observer) (0) (.iv [(0, 7)]) .I (.all) false, -- log die
  row 0x2E00 0x2E00 0x02 0x02 (.u 1) (.rw .observer) (0) (.iv [(0, 1)]) .I (.all) false, -- log area
  row 0x2E00 0x2E00 0x03 0x03 (.u 4) (.rw .observer) (0) (.any) .I (.all) false, -- first record
  row 0x2E00 0x2E00 0x04 0x04 (.u 1) (.rw .observer) (1) (.iv [(1, 32)]) .I (.all) false, -- record count
  row 0x2E00 0x2E00 0x05 0x05 (.win 0x2E0003 0x2E0004 32) (.ro .observer) (0) (.any) .none (.all) false, -- event records
  row 0x2E00 0x2E00 0x06 0x06 (.u 4) (.ro .observer) (0) (.any) .none (.all) false, -- oldest record
  row 0x2E00 0x2E00 0x07 0x07 (.u 4) (.ro .observer) (0) (.any) .none (.all) false, -- newest record
  row 0x2E00 0x2E00 0x08 0x08 (.u 4) (.ro .observer) (0) (.any) .none (.all) false, -- records overwritten
  row 0x2E00 0x2E00 0x09 0x09 (.u 4) (.ro .observer) (0) (.any) .none (.all) false, -- records dropped
  row 0x2E02 0x2E02 0x00 0x00 (.u 1) (.const) (2) (.any) .none (.all) false, -- highest subindex
  row 0x2E02 0x2E02 0x01 0x01 (.u 8) (.ro .observer) (0) (.any) .none (.all) false, -- snapshot tick
  row 0x2E02 0x2E02 0x02 0x02 (.u 4) (.ro .observer) (0) (.any) .none (.all) false, -- incomplete snapshots
  row 0x2E03 0x2E03 0x00 0x00 (.u 1) (.const) (2) (.any) .none (.all) false, -- highest subindex
  row 0x2E03 0x2E03 0x01 0x01 (.u 1) (.rw .integrator) (62) (.fl [(6, 2, [(0, 0)])]) .T (.all) false, -- host event filter
  row 0x2E03 0x2E03 0x02 0x02 (.u 4) (.roZero) (0) (.iv [(0, 0)]) .I (.all) false, -- host events dropped
  row 0x2E10 0x2E10 0x00 0x00 (.u 1) (.const) (64) (.any) .none (.all) false, -- highest subindex
  row 0x2E10 0x2E10 0x01 0x40 (.u 1) (.rw .maintainer) (0) (.iv [(0, 6)]) .I (.sub 8) false, -- lane test mode
  row 0x2E11 0x2E11 0x00 0x00 (.u 1) (.const) (64) (.any) .none (.all) false, -- highest subindex
  row 0x2E11 0x2E11 0x01 0x40 (.u 1) (.rw .maintainer) (4) (.fl [(0, 3, [(0, 4)]), (3, 4, [(0, 0)])]) .I (.sub 8) false, -- PRBS pattern
  row 0x2E12 0x2E12 0x00 0x00 (.u 1) (.const) (64) (.any) .none (.all) false, -- highest subindex
  row 0x2E12 0x2E12 0x01 0x40 (.u 8) (.ro .observer) (0) (.any) .none (.sub 8) false, -- PRBS bits checked
  row 0x2E13 0x2E13 0x00 0x00 (.u 1) (.const) (64) (.any) .none (.all) false, -- highest subindex
  row 0x2E13 0x2E13 0x01 0x40 (.u 8) (.ro .observer) (0) (.any) .none (.sub 8) false, -- PRBS errors
  row 0x2E14 0x2E14 0x00 0x00 (.u 1) (.const) (64) (.any) .none (.all) false, -- highest subindex
  row 0x2E14 0x2E14 0x01 0x40 (.u 1) (.ro .observer) (0) (.any) .none (.sub 8) false, -- test status
  row 0x2E15 0x2E15 0x00 0x00 (.u 1) (.const) (64) (.any) .none (.all) false, -- highest subindex
  row 0x2E15 0x2E15 0x01 0x40 (.u 1) (.wo .maintainer) (0) (.iv [(1, 1)]) .I (.sub 8) false, -- eye measure
  row 0x2E16 0x2E16 0x00 0x00 (.u 1) (.const) (64) (.any) .none (.all) false, -- highest subindex
  row 0x2E16 0x2E16 0x01 0x40 (.u 4) (.ro .observer) (0) (.any) .none (.sub 8) false, -- eye result
  row 0x2E17 0x2E17 0x00 0x00 (.u 1) (.const) (32) (.any) .none (.all) false, -- highest subindex
  row 0x2E17 0x2E17 0x01 0x20 (.u 1) (.rw .maintainer) (0) (.iv [(0, 1)]) .I (.sub 4) false, -- Saddle test mode
  row 0x2E18 0x2E18 0x00 0x00 (.u 1) (.const) (32) (.any) .none (.all) false, -- highest subindex
  row 0x2E18 0x2E18 0x01 0x20 (.u 8) (.ro .observer) (0) (.any) .none (.sub 4) false, -- Saddle test errors
  row 0x2E19 0x2E19 0x00 0x00 (.u 1) (.const) (64) (.any) .none (.all) false, -- highest subindex
  row 0x2E19 0x2E19 0x01 0x40 (.u 2) (.rw .maintainer) (1518) (.iv [(64, 9216)]) .I (.sub 8) false, -- test frame length
  row 0x2E1A 0x2E1A 0x00 0x00 (.u 1) (.const) (64) (.any) .none (.all) false, -- highest subindex
  row 0x2E1A 0x2E1A 0x01 0x40 (.u 4) (.rw .maintainer) (0) (.any) .I (.sub 8) false, -- test frames
  row 0x2E1B 0x2E1B 0x00 0x00 (.u 1) (.const) (64) (.any) .none (.all) false, -- highest subindex
  row 0x2E1B 0x2E1B 0x01 0x40 (.u 8) (.ro .observer) (0) (.any) .none (.sub 8) false, -- test frames checked
  row 0x2E1C 0x2E1C 0x00 0x00 (.u 1) (.const) (64) (.any) .none (.all) false, -- highest subindex
  row 0x2E1C 0x2E1C 0x01 0x40 (.u 8) (.ro .observer) (0) (.any) .none (.sub 8) false, -- test frame errors
  row 0x2E1D 0x2E1D 0x00 0x00 (.u 1) (.const) (32) (.any) .none (.all) false, -- highest subindex
  row 0x2E1D 0x2E1D 0x01 0x20 (.u 2) (.ro .observer) (0) (.any) .none (.sub 4) false, -- Saddle failing lanes
  row 0x2E20 0x2E20 0x00 0x00 (.u 1) (.const) (64) (.any) .none (.all) false, -- highest subindex
  row 0x2E20 0x2E20 0x01 0x40 (.i 2) (.ro .observer) (0) (.any) .none (.sub 8) false, -- temperature
  row 0x2E21 0x2E21 0x00 0x00 (.u 1) (.const) (64) (.any) .none (.all) false, -- highest subindex
  row 0x2E21 0x2E21 0x01 0x40 (.i 2) (.ro .observer) (0) (.any) .none (.sub 8) false, -- temperature peak
  row 0x2E22 0x2E22 0x00 0x00 (.u 1) (.const) (32) (.any) .none (.all) false, -- highest subindex
  row 0x2E22 0x2E22 0x01 0x20 (.u 2) (.ro .observer) (0) (.any) .none (.sub 4) false, -- voltage
  row 0x2E23 0x2E23 0x00 0x00 (.u 1) (.const) (32) (.any) .none (.all) false, -- highest subindex
  row 0x2E23 0x2E23 0x01 0x20 (.u 4) (.ro .observer) (0) (.any) .none (.sub 4) false, -- voltage excursions
  row 0x2E24 0x2E24 0x00 0x00 (.u 1) (.const) (1) (.any) .none (.all) false, -- highest subindex
  row 0x2E24 0x2E24 0x01 0x01 (.u 1) (.wo .operator) (0) (.iv [(1, 1)]) .I (.all) false, -- clear monitor records
  row 0x2E25 0x2E25 0x00 0x00 (.u 1) (.const) (8) (.any) .none (.all) false, -- highest subindex
  row 0x2E25 0x2E25 0x01 0x08 (.u 2) (.ro .observer) (0) (.any) .none (.sub 1) false -- monitor flags
  ]

/-- The objects of area `comm`. -/
def objRows_comm : List ObjRow := [
  row 0x1000 0x1000 0x00 0x00 (.u 4) (.const) (0) (.any) .none (.all) false, -- device type
  row 0x1001 0x1001 0x00 0x00 (.u 1) (.ro .observer) (0) (.any) .none (.all) false, -- error register
  row 0x1005 0x1005 0x00 0x00 (.u 4) (.rw .integrator) (128) (.fl [(30, 2, [(0, 0)])]) .C (.all) false, -- COB-ID SYNC
  row 0x1008 0x1008 0x00 0x00 (.vis 16) (.const) (0) (.any) .none (.all) false, -- manufacturer device name
  row 0x1009 0x1009 0x00 0x00 (.vis 16) (.const) (0) (.any) .none (.all) false, -- hardware version
  row 0x100A 0x100A 0x00 0x00 (.vis 16) (.ro .observer) (0) (.any) .none (.all) false, -- software version
  row 0x1016 0x1016 0x00 0x00 (.u 1) (.const) (8) (.any) .none (.all) false, -- highest subindex
  row 0x1016 0x1016 0x01 0x08 (.u 4) (.rw .integrator) (0) (.fl [(24, 8, [(0, 0)])]) .T (.all) false, -- consumer heartbeat time
  row 0x1017 0x1017 0x00 0x00 (.u 2) (.rw .integrator) (0) (.any) .T (.all) false, -- producer heartbeat time
  row 0x1018 0x1018 0x00 0x00 (.u 1) (.const) (4) (.any) .none (.all) false, -- highest subindex
  row 0x1018 0x1018 0x01 0x01 (.u 4) (.const) (4936280) (.any) .none (.all) false, -- vendor ID
  row 0x1018 0x1018 0x02 0x02 (.u 4) (.const) (0) (.any) .none (.all) false, -- product code
  row 0x1018 0x1018 0x03 0x03 (.u 4) (.ro .observer) (0) (.any) .none (.all) false, -- revision number
  row 0x1018 0x1018 0x04 0x04 (.u 4) (.const) (0) (.any) .none (.all) false, -- serial number
  row 0x1200 0x1200 0x00 0x00 (.u 1) (.const) (2) (.any) .none (.all) false, -- highest subindex
  row 0x1200 0x1200 0x01 0x01 (.u 4) (.ro .observer) (0) (.any) .none (.all) false, -- COB-ID client to server
  row 0x1200 0x1200 0x02 0x02 (.u 4) (.ro .observer) (0) (.any) .none (.all) false, -- COB-ID server to client
  row 0x1400 0x143F 0x00 0x00 (.u 1) (.const) (5) (.any) .none (.all) false, -- highest subindex
  row 0x1400 0x143F 0x01 0x01 (.u 4) (.rw .integrator) (0) (.fl [(30, 1, [(0, 0)])]) .C (.all) false, -- RPDO COB-ID
  row 0x1400 0x143F 0x02 0x02 (.u 1) (.rw .integrator) (255) (.iv [(0, 240), (254, 255)]) .C (.all) false, -- RPDO transmission type
  row 0x1400 0x143F 0x05 0x05 (.u 2) (.rw .integrator) (0) (.any) .C (.all) false, -- RPDO event timer
  row 0x1600 0x163F 0x00 0x00 (.u 1) (.rw .integrator) (0) (.iv [(0, 8)]) .C (.all) false, -- RPDO mapped entries
  row 0x1600 0x163F 0x01 0x08 (.u 4) (.rw .integrator) (0) (.any) .C (.all) false, -- RPDO mapping
  row 0x1800 0x183F 0x00 0x00 (.u 1) (.const) (6) (.any) .none (.all) false, -- highest subindex
  row 0x1800 0x183F 0x01 0x01 (.u 4) (.rw .integrator) (0) (.fl [(30, 1, [(0, 0)])]) .C (.all) false, -- TPDO COB-ID
  row 0x1800 0x183F 0x02 0x02 (.u 1) (.rw .integrator) (255) (.iv [(0, 240), (254, 255)]) .C (.all) false, -- TPDO transmission type
  row 0x1800 0x183F 0x03 0x03 (.u 2) (.rw .integrator) (0) (.any) .C (.all) false, -- TPDO inhibit time
  row 0x1800 0x183F 0x05 0x05 (.u 2) (.rw .integrator) (0) (.any) .C (.all) false, -- TPDO event timer
  row 0x1800 0x183F 0x06 0x06 (.u 1) (.rw .integrator) (0) (.iv [(0, 240)]) .C (.all) false, -- TPDO SYNC start value
  row 0x1A00 0x1A3F 0x00 0x00 (.u 1) (.rw .integrator) (0) (.iv [(0, 8)]) .C (.all) false, -- TPDO mapped entries
  row 0x1A00 0x1A3F 0x01 0x08 (.u 4) (.rw .integrator) (0) (.any) .C (.all) false, -- TPDO mapping
  row 0x1F80 0x1F80 0x00 0x00 (.u 1) (.const) (2) (.any) .none (.all) false, -- highest subindex
  row 0x1F80 0x1F80 0x01 0x01 (.u 4) (.ro .observer) (0) (.any) .none (.all) false, -- RPDO timeouts
  row 0x1F80 0x1F80 0x02 0x02 (.u 4) (.ro .observer) (0) (.any) .none (.all) false, -- heartbeat timeouts
  row 0x2000 0x2000 0x00 0x00 (.u 1) (.const) (14) (.any) .none (.all) false, -- highest subindex
  row 0x2000 0x2000 0x01 0x01 (.u 1) (.const) (0) (.any) .none (.all) false, -- variant
  row 0x2000 0x2000 0x02 0x02 (.u 1) (.const) (0) (.any) .none (.all) false, -- populated dies
  row 0x2000 0x2000 0x03 0x03 (.u 1) (.ro .observer) (0) (.any) .none (.all) false, -- healthy dies
  row 0x2000 0x2000 0x04 0x04 (.u 1) (.ro .observer) (0) (.any) .none (.all) false, -- lead die
  row 0x2000 0x2000 0x05 0x05 (.u 1) (.ro .observer) (0) (.any) .none (.all) false, -- standby die
  row 0x2000 0x2000 0x06 0x06 (.u 2) (.rw .integrator) (0) (.iv [(0, 2047)]) .S (.all) false, -- system address
  row 0x2000 0x2000 0x07 0x07 (.oct 6) (.const) (0) (.any) .none (.all) false, -- package base MAC address
  row 0x2000 0x2000 0x08 0x08 (.u 1) (.ro .observer) (0) (.any) .none (.all) false, -- life-cycle state
  row 0x2000 0x2000 0x09 0x09 (.u 2) (.ro .observer) (0) (.any) .none (.all) false, -- package status
  row 0x2000 0x2000 0x0A 0x0A (.u 4) (.const) (0) (.any) .none (.all) false, -- serial number
  row 0x2000 0x2000 0x0B 0x0B (.u 4) (.const) (0) (.any) .none (.all) false, -- PCIe identifiers
  row 0x2000 0x2000 0x0C 0x0C (.dom 0 2048) (.ro .observer) (0) (.any) .none (.all) false, -- IDevID certificate
  row 0x2000 0x2000 0x0D 0x0D (.u 4) (.ro .observer) (0) (.any) .none (.all) false, -- running image version
  row 0x2000 0x2000 0x0E 0x0E (.u 8) (.ro .observer) (0) (.any) .none (.all) false -- time since start
  ]

/-- The lines that can define an index: the area of R455, so that a lookup need not pass the other areas. -/
def rowsOf (idx : Nat) : List ObjRow :=
  if idx < 0x2080 then objRows_comm
  else if idx < 0x2100 then objRows_access
  else if idx < 0x2110 then objRows_tick
  else if idx < 0x2200 then objRows_time
  else if idx < 0x2400 then objRows_lane
  else if idx < 0x2500 then objRows_fwd
  else if idx < 0x2600 then objRows_sched
  else if idx < 0x2800 then objRows_fw
  else if idx < 0x2A00 then objRows_edge
  else if idx < 0x2B00 then objRows_cirque
  else if idx < 0x2B40 then objRows_cairn
  else if idx < 0x2C00 then objRows_cipher
  else if idx < 0x2D00 then objRows_power
  else if idx < 0x2E00 then objRows_update
  else if idx < 0x2E40 then objRows_diag
  else if idx < 0x2E50 then objRows_bridge
  else if idx < 0x2F00 then objRows_mem
  else if idx < 0x3000 then objRows_lane ++ objRows_time ++ objRows_cirque ++ objRows_access
  else if idx < 0x5000 then objRows_contract
  else objRows_contract ++ objRows_plan

/-- Every line of every object table. -/
def objRows : List ObjRow :=
  objRows_tick ++
  objRows_contract ++
  objRows_plan ++
  objRows_lane ++
  objRows_fwd ++
  objRows_sched ++
  objRows_fw ++
  objRows_time ++
  objRows_cirque ++
  objRows_edge ++
  objRows_bridge ++
  objRows_cairn ++
  objRows_cipher ++
  objRows_mem ++
  objRows_power ++
  objRows_access ++
  objRows_update ++
  objRows_diag ++
  objRows_comm

/-- The table line of an object, if the manual defines one (R456). -/
def objRow (idx sub : Nat) : Option ObjRow :=
  (rowsOf idx).find? (fun r => decide (r.i0 ≤ idx) && decide (idx ≤ r.i1) && decide (r.s0 ≤ sub) && decide (sub ≤ r.s1))

end Sys2Proof.Machine
end

