-- ==== Sys2Proof/Machine/Objects.lean ====
section
/-! DEFINITION. The multiplexers of the objects, by the names the manual gives them.  A multiplexer is
`index * 256 + subindex`; an array of objects is named by its first element; `at_` adds the instance that a selector
object picks (a zone, an administrative lane, a record of a window). -/
namespace Sys2Proof.Machine

/-- The multiplexer of an object. -/
def mux (idx sub : Nat) : Nat := idx * 256 + sub

/-- The element of an array that runs over indexes. -/
def byIdx (m n : Nat) : Nat := m + 256 * n

/-- The element of an array that runs over subindexes. -/
def bySub (m n : Nat) : Nat := m + n

/-- The instance `i` of an object that a selector picks; items of windows lie here too. -/
def at_ (m i : Nat) : Nat := m + 16777216 * i

/-- The multiplexer of an instance key. -/
def muxOf (k : Nat) : Nat := k % 16777216

/-- The instance number of a key. -/
def itemOf (k : Nat) : Nat := k / 16777216

namespace O

abbrev deviceType : Nat := 0x100000
abbrev errorRegister : Nat := 0x100100
abbrev cobIDSYNC : Nat := 0x100500
abbrev manufacturerDeviceName : Nat := 0x100800
abbrev hardwareVersion : Nat := 0x100900
abbrev softwareVersion : Nat := 0x100A00
abbrev consumerHeartbeatTime : Nat := 0x101601
abbrev producerHeartbeatTime : Nat := 0x101700
abbrev vendorID : Nat := 0x101801
abbrev productCode : Nat := 0x101802
abbrev revisionNumber : Nat := 0x101803
abbrev serialNumber : Nat := 0x101804
abbrev cobIDClientToServer : Nat := 0x120001
abbrev cobIDServerToClient : Nat := 0x120002
abbrev rpdoCOBID : Nat := 0x140001
abbrev rpdoTransmissionType : Nat := 0x140002
abbrev rpdoEventTimer : Nat := 0x140005
abbrev rpdoMappedEntries : Nat := 0x160000
abbrev rpdoMapping : Nat := 0x160001
abbrev tpdoCOBID : Nat := 0x180001
abbrev tpdoTransmissionType : Nat := 0x180002
abbrev tpdoInhibitTime : Nat := 0x180003
abbrev tpdoEventTimer : Nat := 0x180005
abbrev tpdoSYNCStartValue : Nat := 0x180006
abbrev tpdoMappedEntries : Nat := 0x1A0000
abbrev tpdoMapping : Nat := 0x1A0001
abbrev rpdoTimeouts : Nat := 0x1F8001
abbrev heartbeatTimeouts : Nat := 0x1F8002
abbrev variant : Nat := 0x200001
abbrev populatedDies : Nat := 0x200002
abbrev healthyDies : Nat := 0x200003
abbrev leadDie : Nat := 0x200004
abbrev standbyDie : Nat := 0x200005
abbrev systemAddress : Nat := 0x200006
abbrev packageBaseMACAddress : Nat := 0x200007
abbrev lifeCycleState : Nat := 0x200008
abbrev packageStatus : Nat := 0x200009
abbrev serialNumberComm : Nat := 0x20000A
abbrev pcieIdentifiers : Nat := 0x20000B
abbrev idevidCertificate : Nat := 0x20000C
abbrev runningImageVersion : Nat := 0x20000D
abbrev timeSinceStart : Nat := 0x20000E
abbrev spewardPort : Nat := 0x208001
abbrev managementIPv4Prefix : Nat := 0x208002
abbrev managementIPv6Prefix : Nat := 0x208003
abbrev sessionIdleTimeout : Nat := 0x208004
abbrev sessionsOpen : Nat := 0x208005
abbrev thisSession : Nat := 0x208006
abbrev authenticationFailures : Nat := 0x208007
abbrev accessDenials : Nat := 0x208008
abbrev forwardedRequests : Nat := 0x208009
abbrev trustAnchor : Nat := 0x208101
abbrev tickPeriodCode : Nat := 0x210001
abbrev tickNumber : Nat := 0x210002
abbrev tickState : Nat := 0x210003
abbrev lockHoldTimeout : Nat := 0x210004
abbrev tickPhaseError : Nat := 0x210005
abbrev tickFlags : Nat := 0x210006
abbrev reAlignTick : Nat := 0x210007
abbrev lastStretchTick : Nat := 0x210008
abbrev tickOverrunCounters : Nat := 0x210201
abbrev instanceEnable : Nat := 0x211001
abbrev profile : Nat := 0x211002
abbrev domainNumber : Nat := 0x211003
abbrev memberLanes : Nat := 0x211004
abbrev priority1 : Nat := 0x211005
abbrev priority2 : Nat := 0x211006
abbrev clockClass : Nat := 0x211007
abbrev portConfiguration : Nat := 0x211008
abbrev externalSlavePort : Nat := 0x211009
abbrev logSyncInterval : Nat := 0x21100A
abbrev logAnnounceInterval : Nat := 0x21100B
abbrev logDelayInterval : Nat := 0x21100C
abbrev receiptTimeouts : Nat := 0x21100D
abbrev oneStep : Nat := 0x21100E
abbrev lockThreshold : Nat := 0x21100F
abbrev stepThreshold : Nat := 0x211010
abbrev transport : Nat := 0x211011
abbrev instanceStatus : Nat := 0x211012
abbrev offsetFromMaster : Nat := 0x211013
abbrev rateRatio : Nat := 0x211014
abbrev grandmasterIdentity : Nat := 0x211015
abbrev slavePort : Nat := 0x211016
abbrev holdoverTime : Nat := 0x211017
abbrev grandmasterChanges : Nat := 0x211018
abbrev currentTime : Nat := 0x211019
abbrev grandmasterTimeSet : Nat := 0x21101A
abbrev timeReference : Nat := 0x21101B
abbrev clockEpoch : Nat := 0x21101C
abbrev portState : Nat := 0x211801
abbrev meanLinkDelay : Nat := 0x211C01
abbrev neighbourRateRatio : Nat := 0x211D01
abbrev linkDelayThreshold : Nat := 0x211E01
abbrev transparentClock : Nat := 0x212001
abbrev effectiveReceiveLatency : Nat := 0x212101
abbrev effectiveTransmitLatency : Nat := 0x212201
abbrev timeAlignmentFaults : Nat := 0x212301
abbrev pulseProgram : Nat := 0x213001
abbrev pulseStatus : Nat := 0x213005
abbrev pulsesSkipped : Nat := 0x213009
abbrev captureControl : Nat := 0x213801
abbrev captureRecords : Nat := 0x213803
abbrev capturesLost : Nat := 0x213805
abbrev capturesQueued : Nat := 0x213807
abbrev laneEnable : Nat := 0x220001
abbrev laneMode : Nat := 0x220002
abbrev polarity : Nat := 0x220003
abbrev autoNegotiation : Nat := 0x220004
abbrev maximumFrameSize : Nat := 0x220005
abbrev deliverFlagged : Nat := 0x220006
abbrev checksumCheck : Nat := 0x220007
abbrev linkStatus : Nat := 0x220008
abbrev lossHoldOff : Nat := 0x220009
abbrev linkUpHoldOff : Nat := 0x22000A
abbrev resolvedRate : Nat := 0x22000B
abbrev lossEvents : Nat := 0x22000C
abbrev framesReceivedOK : Nat := 0x220010
abbrev fcsErrors : Nat := 0x220011
abbrev undersize : Nat := 0x220012
abbrev fragments : Nat := 0x220013
abbrev oversize : Nat := 0x220014
abbrev jabbers : Nat := 0x220015
abbrev alignmentErrors : Nat := 0x220016
abbrev ipv4HeaderChecksumErrors : Nat := 0x220017
abbrev l4ChecksumErrors : Nat := 0x220018
abbrev stompedReceived : Nat := 0x220019
abbrev stompedTransmitted : Nat := 0x22001A
abbrev deliveredFlagged : Nat := 0x22001B
abbrev drained : Nat := 0x22001C
abbrev egressOversizeDrops : Nat := 0x22001D
abbrev clearCounters : Nat := 0x22001F
abbrev ringBase : Nat := 0x228001
abbrev ringSize : Nat := 0x228011
abbrev ringOwner : Nat := 0x228021
abbrev ringEnable : Nat := 0x228031
abbrev nextDescriptor : Nat := 0x228041
abbrev noBufferCount : Nat := 0x228051
abbrev members : Nat := 0x229001
abbrev lacpMode : Nat := 0x229002
abbrev lacpTimeout : Nat := 0x229003
abbrev hashFields : Nat := 0x229004
abbrev membersInService : Nat := 0x229005
abbrev failovers : Nat := 0x229006
abbrev lastFailoverTime : Nat := 0x229007
abbrev fdbAgeingTime : Nat := 0x240001
abbrev fdbEntriesInUse : Nat := 0x240002
abbrev fdbStaticEntries : Nat := 0x240003
abbrev learningFailures : Nat := 0x240004
abbrev stationMoves : Nat := 0x240005
abbrev fdbFlush : Nat := 0x240006
abbrev hostFloodRing : Nat := 0x240007
abbrev firstVID : Nat := 0x241001
abbrev vlanCount : Nat := 0x241002
abbrev vlanRecords : Nat := 0x241003
abbrev pvid : Nat := 0x242001
abbrev acceptableFrameTypes : Nat := 0x242101
abbrev ingressFiltering : Nat := 0x242201
abbrev vlanIngressDrops : Nat := 0x242301
abbrev linkLocalDiscards : Nat := 0x242401
abbrev firstFDBEntry : Nat := 0x243001
abbrev fdbEntryCount : Nat := 0x243002
abbrev fdbRecords : Nat := 0x243003
abbrev staticEntryWrite : Nat := 0x243004
abbrev staticEntryDelete : Nat := 0x243005
abbrev tableDie : Nat := 0x244001
abbrev firstTableEntry : Nat := 0x244002
abbrev tableEntryCount : Nat := 0x244003
abbrev tableRecords : Nat := 0x244004
abbrev hashedInUse : Nat := 0x244005
abbrev ternaryInUse : Nat := 0x244006
abbrev spilledEntries : Nat := 0x244007
abbrev firstCounterSlot : Nat := 0x245001
abbrev counterSlotCount : Nat := 0x245002
abbrev streamCounters : Nat := 0x245003
abbrev clearStreamCounters : Nat := 0x245004
abbrev sessionEnable : Nat := 0x246001
abbrev mirrorSource : Nat := 0x246002
abbrev mirrorDestination : Nat := 0x246003
abbrev mirrorTruncation : Nat := 0x246004
abbrev copiesSent : Nat := 0x246005
abbrev copiesDropped : Nat := 0x246006
abbrev recoveryResetTimeout : Nat := 0x247001
abbrev historyLength : Nat := 0x247002
abbrev transmitRingBase : Nat := 0x248001
abbrev transmitRingSize : Nat := 0x248011
abbrev transmitRingOwner : Nat := 0x248021
abbrev transmitRingEnable : Nat := 0x248031
abbrev nextTransmitDescriptor : Nat := 0x248041
abbrev transmitErrors : Nat := 0x248051
abbrev starvationLimit : Nat := 0x250001
abbrev lengthOverhead : Nat := 0x251001
abbrev effectiveOverhead : Nat := 0x251101
abbrev preemptionEnable : Nat := 0x251201
abbrev preemptionVerify : Nat := 0x251301
abbrev additionalFragmentSize : Nat := 0x251401
abbrev preemptionStatus : Nat := 0x251501
abbrev preemptibleClasses : Nat := 0x251601
abbrev pausableClasses : Nat := 0x251701
abbrev flowControl : Nat := 0x251801
abbrev pcpMap : Nat := 0x251901
abbrev bestEffortRateLimit : Nat := 0x251A01
abbrev pauseStatus : Nat := 0x251B01
abbrev guardBandOverride : Nat := 0x251C01
abbrev guardBandsInForce : Nat := 0x251D01
abbrev gateCycle : Nat := 0x251E01
abbrev pauseThresholds : Nat := 0x251F01
abbrev reliefFrames : Nat := 0x252001
abbrev windowMisses : Nat := 0x252101
abbrev pauseIgnored : Nat := 0x252201
abbrev pauseFramesSent : Nat := 0x252301
abbrev pauseFramesReceived : Nat := 0x252401
abbrev listLane : Nat := 0x254001
abbrev firstGateEntry : Nat := 0x254002
abbrev gateEntryCount : Nat := 0x254003
abbrev gateEntries : Nat := 0x254004
abbrev gateEntriesInUse : Nat := 0x254005
abbrev adminLane : Nat := 0x255001
abbrev adminCycle : Nat := 0x255002
abbrev adminBaseTime : Nat := 0x255003
abbrev adminEntries : Nat := 0x255004
abbrev adminStartTick : Nat := 0x255005
abbrev adminFlags : Nat := 0x255006
abbrev meterDie : Nat := 0x256001
abbrev firstMeter : Nat := 0x256002
abbrev meterCount : Nat := 0x256003
abbrev meterRecords : Nat := 0x256004
abbrev shaperDie : Nat := 0x257001
abbrev firstShaper : Nat := 0x257002
abbrev shaperCount : Nat := 0x257003
abbrev shaperRecords : Nat := 0x257004
abbrev evictionAge : Nat := 0x260001
abbrev tcpEstablishedTimeout : Nat := 0x260002
abbrev tcpTransitoryTimeout : Nat := 0x260003
abbrev udpTimeout : Nat := 0x260004
abbrev icmpTimeout : Nat := 0x260005
abbrev logRateLimit : Nat := 0x260006
abbrev sessionsInUse : Nat := 0x260007
abbrev logSuppressed : Nat := 0x260008
abbrev sessionFlush : Nat := 0x260009
abbrev evictedSessions : Nat := 0x26000A
abbrev laneZone : Nat := 0x261001
abbrev lagZone : Nat := 0x261101
abbrev edgeUnitZone : Nat := 0x261201
abbrev hostRingZone : Nat := 0x261301
abbrev cirqueZone : Nat := 0x261401
abbrev vlanZones : Nat := 0x261501
abbrev zoneFlags : Nat := 0x262001
abbrev noPassDenials : Nat := 0x262101
abbrev firstPass : Nat := 0x263001
abbrev passCount : Nat := 0x263002
abbrev passRecords : Nat := 0x263003
abbrev passesEnabled : Nat := 0x263004
abbrev rulePass : Nat := 0x264001
abbrev firstRule : Nat := 0x264002
abbrev ruleCount : Nat := 0x264003
abbrev ruleRecords : Nat := 0x264004
abbrev rulesInPass : Nat := 0x264005
abbrev firstCounterPass : Nat := 0x265001
abbrev counterPassCount : Nat := 0x265002
abbrev passCounters : Nat := 0x265003
abbrev clearPassCounters : Nat := 0x265004
abbrev sessionDie : Nat := 0x266001
abbrev firstSession : Nat := 0x266002
abbrev sessionCount : Nat := 0x266003
abbrev sessionRecords : Nat := 0x266004
abbrev sessionsOnDie : Nat := 0x266005
abbrev oversubscribed : Nat := 0x266006
abbrev passEnable : Nat := 0x270001
abbrev canEnable : Nat := 0x280001
abbrev canProtocol : Nat := 0x280002
abbrev nominalBitRate : Nat := 0x280003
abbrev dataBitRate : Nat := 0x280004
abbrev samplePoints : Nat := 0x280005
abbrev canOptions : Nat := 0x280006
abbrev dataFieldSize : Nat := 0x280007
abbrev bufferConfiguration : Nat := 0x280008
abbrev fifoDepths : Nat := 0x280009
abbrev canStatus : Nat := 0x28000A
abbrev errorCounters : Nat := 0x28000B
abbrev canFramesReceived : Nat := 0x28000C
abbrev canFramesTransmitted : Nat := 0x28000D
abbrev busErrors : Nat := 0x28000E
abbrev busOffEvents : Nat := 0x28000F
abbrev canOverruns : Nat := 0x280010
abbrev busOffRecovery : Nat := 0x280011
abbrev clearCANCounters : Nat := 0x280012
abbrev linEnable : Nat := 0x282001
abbrev linRole : Nat := 0x282002
abbrev linBitRate : Nat := 0x282003
abbrev linSchedule : Nat := 0x282004
abbrev linStatus : Nat := 0x282005
abbrev linFrames : Nat := 0x282006
abbrev linChecksumErrors : Nat := 0x282007
abbrev linNoResponseErrors : Nat := 0x282008
abbrev clearLINCounters : Nat := 0x282009
abbrev uartEnable : Nat := 0x283001
abbrev uartBitRate : Nat := 0x283002
abbrev characterFormat : Nat := 0x283003
abbrev deTiming : Nat := 0x283004
abbrev messageGap : Nat := 0x283005
abbrev identifierBytes : Nat := 0x283006
abbrev ownAddress : Nat := 0x283007
abbrev uartMessages : Nat := 0x283008
abbrev uartCharacterErrors : Nat := 0x283009
abbrev uartOverruns : Nat := 0x28300A
abbrev clearUARTCounters : Nat := 0x28300B
abbrev mvbEnable : Nat := 0x284001
abbrev mvbRole : Nat := 0x284002
abbrev mvbDeviceAddress : Nat := 0x284003
abbrev mvbPorts : Nat := 0x284004
abbrev masterFrameTable : Nat := 0x284005
abbrev lineStatus : Nat := 0x284006
abbrev mvbFrames : Nat := 0x284007
abbrev lineSwitchovers : Nat := 0x284008
abbrev mvbFrameErrors : Nat := 0x284009
abbrev clearMVBCounters : Nat := 0x28400A
abbrev t1sEnable : Nat := 0x284801
abbrev plcaNodeID : Nat := 0x284802
abbrev plcaNodeCount : Nat := 0x284803
abbrev plcaTimer : Nat := 0x284804
abbrev t1sFramesReceived : Nat := 0x284805
abbrev t1sFramesSent : Nat := 0x284806
abbrev t1sErrors : Nat := 0x284807
abbrev clearT1SCounters : Nat := 0x284808
abbrev canopenUnit : Nat := 0x285001
abbrev nodeID : Nat := 0x285002
abbrev nmtState : Nat := 0x285003
abbrev nmtStartUp : Nat := 0x285004
abbrev portDie : Nat := 0x285801
abbrev firstPort : Nat := 0x285802
abbrev portCount : Nat := 0x285803
abbrev portData : Nat := 0x285804
abbrev mappingsInUse : Nat := 0x290001
abbrev messagesInUse : Nat := 0x290002
abbrev staleMappings : Nat := 0x290003
abbrev clearGatewayCounters : Nat := 0x290004
abbrev firstFaultyRecord : Nat := 0x290005
abbrev gatewaySourceAddress : Nat := 0x290006
abbrev gatewayEngineLoad : Nat := 0x290101
abbrev stagingCellsInUse : Nat := 0x290201
abbrev firstMessage : Nat := 0x291001
abbrev messageCount : Nat := 0x291002
abbrev messageRecords : Nat := 0x291003
abbrev messageStatus : Nat := 0x291004
abbrev mappingStatus : Nat := 0x291005
abbrev firstMapping : Nat := 0x292001
abbrev mappingCount : Nat := 0x292002
abbrev mappingRecords : Nat := 0x292003
abbrev emergencyState : Nat := 0x2A0001
abbrev emergencyCommand : Nat := 0x2A0002
abbrev emergencyFilter : Nat := 0x2A0003
abbrev emergencyTone : Nat := 0x2A0004
abbrev emergencyActivations : Nat := 0x2A0005
abbrev presentationOffset : Nat := 0x2A0006
abbrev rtpPayloadType : Nat := 0x2A0007
abbrev announcementConflicts : Nat := 0x2A0008
abbrev clipStoreFree : Nat := 0x2A0009
abbrev cirqueInstanceEnable : Nat := 0x2A0101
abbrev mixerLoad : Nat := 0x2A0201
abbrev zone : Nat := 0x2A1001
abbrev zoneEnable : Nat := 0x2A1002
abbrev zoneDuckDepth : Nat := 0x2A1003
abbrev duckLaw : Nat := 0x2A1004
abbrev muteFromLevel : Nat := 0x2A1005
abbrev releaseTime : Nat := 0x2A1006
abbrev zoneRate : Nat := 0x2A1007
abbrev announcementGain : Nat := 0x2A1008
abbrev highestPresentLevel : Nat := 0x2A1009
abbrev zoneOutputs : Nat := 0x2A100A
abbrev firstOutput : Nat := 0x2A2001
abbrev outputCount : Nat := 0x2A2002
abbrev outputRecords : Nat := 0x2A2003
abbrev firstOutputStatus : Nat := 0x2A2801
abbrev outputStatusCount : Nat := 0x2A2802
abbrev outputStatus : Nat := 0x2A2803
abbrev firstInput : Nat := 0x2A3001
abbrev inputCount : Nat := 0x2A3002
abbrev inputRecords : Nat := 0x2A3003
abbrev firstInputStatus : Nat := 0x2A3801
abbrev inputStatusCount : Nat := 0x2A3802
abbrev inputStatus : Nat := 0x2A3803
abbrev clearCirqueCounters : Nat := 0x2A3804
abbrev tdmEnable : Nat := 0x2A4001
abbrev tdmRole : Nat := 0x2A4002
abbrev tdmFrameRate : Nat := 0x2A4003
abbrev tdmSlots : Nat := 0x2A4004
abbrev tdmFormat : Nat := 0x2A4005
abbrev tdmStatus : Nat := 0x2A4006
abbrev tdmSlips : Nat := 0x2A4007
abbrev announcementClip : Nat := 0x2A6001
abbrev announcementZones : Nat := 0x2A6002
abbrev announcementLevel : Nat := 0x2A6003
abbrev announcementRepeats : Nat := 0x2A6004
abbrev announcementGap : Nat := 0x2A6005
abbrev announcementCommand : Nat := 0x2A6006
abbrev announcementStatus : Nat := 0x2A6007
abbrev announcementStartTick : Nat := 0x2A6008
abbrev clipSelect : Nat := 0x2A7001
abbrev clipRate : Nat := 0x2A7002
abbrev clipData : Nat := 0x2A7003
abbrev clipLength : Nat := 0x2A7004
abbrev clipErase : Nat := 0x2A7005
abbrev slotsInUse : Nat := 0x2B0001
abbrev importedLeavesInUse : Nat := 0x2B0002
abbrev importedLeavesAwaitingValue : Nat := 0x2B0003
abbrev lastKeyWriteStatus : Nat := 0x2B0004
abbrev lastKeyWriteSlot : Nat := 0x2B0005
abbrev rootStatus : Nat := 0x2B0006
abbrev transportMismatches : Nat := 0x2B0007
abbrev importPublicKey : Nat := 0x2B0008
abbrev tamperDestroysRoot : Nat := 0x2B0009
abbrev fuseTamperDestroysRoot : Nat := 0x2B000A
abbrev cairnFirstSlot : Nat := 0x2B1001
abbrev cairnSlotCount : Nat := 0x2B1002
abbrev cairnSlotRecords : Nat := 0x2B1003
abbrev keyImport : Nat := 0x2B1101
abbrev lifeCycleCommand : Nat := 0x2B1801
abbrev lifeCycleCommandStatus : Nat := 0x2B1802
abbrev tamperPolicy : Nat := 0x2B2001
abbrev tamperSensorEnable : Nat := 0x2B2002
abbrev tamperState : Nat := 0x2B2003
abbrev tamperClear : Nat := 0x2B2004
abbrev sensorsActive : Nat := 0x2B2005
abbrev tamperCounters : Nat := 0x2B2101
abbrev attestationNonce : Nat := 0x2B2801
abbrev attestationStatement : Nat := 0x2B2802
abbrev lookAsideEnable : Nat := 0x2B4001
abbrev lookAsideReservedLoad : Nat := 0x2B4009
abbrev lookAsideOversubscribed : Nat := 0x2B4011
abbrev jobsCompleted : Nat := 0x2B4101
abbrev jobsFailed : Nat := 0x2B4201
abbrev saRefusals : Nat := 0x2B4301
abbrev abortClass : Nat := 0x2B4401
abbrev abortDescriptor : Nat := 0x2B4402
abbrev abortJob : Nat := 0x2B4403
abbrev firstClass : Nat := 0x2B4801
abbrev classCount : Nat := 0x2B4802
abbrev jobClassRecords : Nat := 0x2B4803
abbrev spewardJobClass : Nat := 0x2B5001
abbrev spewardJob : Nat := 0x2B5002
abbrev spewardJobResult : Nat := 0x2B5003
abbrev firstChannel : Nat := 0x2B6001
abbrev channelCount : Nat := 0x2B6002
abbrev channelRecords : Nat := 0x2B6003
abbrev firstSAChannel : Nat := 0x2B6801
abbrev saChannelCount : Nat := 0x2B6802
abbrev saStatus : Nat := 0x2B6803
abbrev macsecCounters : Nat := 0x2B7001
abbrev clearMACsecCounters : Nat := 0x2B7101
abbrev powerState : Nat := 0x2C0001
abbrev standbyCommand : Nat := 0x2C0002
abbrev lastWakeCause : Nat := 0x2C0003
abbrev lastWakeSource : Nat := 0x2C0004
abbrev lastWakeTime : Nat := 0x2C0005
abbrev noTrafficTimeout : Nat := 0x2C0006
abbrev falseWakes : Nat := 0x2C0007
abbrev wakeCommand : Nat := 0x2C0008
abbrev sleepRequest : Nat := 0x2C0009
abbrev sleepVeto : Nat := 0x2C000A
abbrev sleepRoundStatus : Nat := 0x2C000B
abbrev sleepCommitTick : Nat := 0x2C000C
abbrev roundReport : Nat := 0x2C000D
abbrev membersPower : Nat := 0x2C000E
abbrev detachCommand : Nat := 0x2C000F
abbrev detachStatus : Nat := 0x2C0010
abbrev wakeForwardLanes : Nat := 0x2C0011
abbrev ringLanes : Nat := 0x2C0012
abbrev ownVetoReasons : Nat := 0x2C0013
abbrev powerCap : Nat := 0x2C1001
abbrev declaredAmbient : Nat := 0x2C1002
abbrev packagePower : Nat := 0x2C1003
abbrev planPower : Nat := 0x2C1004
abbrev throttleState : Nat := 0x2C1005
abbrev pmbusRate : Nat := 0x2C1006
abbrev firstRail : Nat := 0x2C2001
abbrev railCount : Nat := 0x2C2002
abbrev railRecords : Nat := 0x2C2003
abbrev thermalLimit : Nat := 0x2C3001
abbrev thermalResistance : Nat := 0x2C3101
abbrev dieLimit : Nat := 0x2C3201
abbrev diePower : Nat := 0x2C3301
abbrev domainsOn : Nat := 0x2C3401
abbrev lookAsideGrant : Nat := 0x2C3501
abbrev wakeInput : Nat := 0x2C3801
abbrev activityWake : Nat := 0x2C3901
abbrev inhInSleep : Nat := 0x2C3A01
abbrev updateCommand : Nat := 0x2D0001
abbrev updateStatus : Nat := 0x2D0002
abbrev bytesReceived : Nat := 0x2D0003
abbrev imageBlock : Nat := 0x2D0004
abbrev lockHolder : Nat := 0x2D0005
abbrev lastUpdateResult : Nat := 0x2D0006
abbrev confirmationWindow : Nat := 0x2D0007
abbrev confirmationMode : Nat := 0x2D0008
abbrev datapathPauseTick : Nat := 0x2D0009
abbrev antiRollbackCounter : Nat := 0x2D000A
abbrev runningImage : Nat := 0x2D000B
abbrev trialStarts : Nat := 0x2D000C
abbrev imageSlotState : Nat := 0x2D1001
abbrev slotImageVersion : Nat := 0x2D1002
abbrev slotSecurityVersion : Nat := 0x2D1003
abbrev slotImageHash : Nat := 0x2D1004
abbrev slotPlannerFormat : Nat := 0x2D1005
abbrev lastStartReason : Nat := 0x2D2001
abbrev lastColdStartTime : Nat := 0x2D2002
abbrev failedStarts : Nat := 0x2D2003
abbrev recoveryReason : Nat := 0x2D2004
abbrev alignedDies : Nat := 0x2D2005
abbrev logDie : Nat := 0x2E0001
abbrev logArea : Nat := 0x2E0002
abbrev firstRecord : Nat := 0x2E0003
abbrev recordCount : Nat := 0x2E0004
abbrev eventRecords : Nat := 0x2E0005
abbrev oldestRecord : Nat := 0x2E0006
abbrev newestRecord : Nat := 0x2E0007
abbrev recordsOverwritten : Nat := 0x2E0008
abbrev recordsDropped : Nat := 0x2E0009
abbrev snapshotTick : Nat := 0x2E0201
abbrev incompleteSnapshots : Nat := 0x2E0202
abbrev hostEventFilter : Nat := 0x2E0301
abbrev hostEventsDropped : Nat := 0x2E0302
abbrev laneTestMode : Nat := 0x2E1001
abbrev prbsPattern : Nat := 0x2E1101
abbrev prbsBitsChecked : Nat := 0x2E1201
abbrev prbsErrors : Nat := 0x2E1301
abbrev testStatus : Nat := 0x2E1401
abbrev eyeMeasure : Nat := 0x2E1501
abbrev eyeResult : Nat := 0x2E1601
abbrev saddleTestMode : Nat := 0x2E1701
abbrev saddleTestErrors : Nat := 0x2E1801
abbrev testFrameLength : Nat := 0x2E1901
abbrev testFrames : Nat := 0x2E1A01
abbrev testFramesChecked : Nat := 0x2E1B01
abbrev testFrameErrors : Nat := 0x2E1C01
abbrev saddleFailingLanes : Nat := 0x2E1D01
abbrev temperature : Nat := 0x2E2001
abbrev temperaturePeak : Nat := 0x2E2101
abbrev voltage : Nat := 0x2E2201
abbrev voltageExcursions : Nat := 0x2E2301
abbrev clearMonitorRecords : Nat := 0x2E2401
abbrev monitorFlags : Nat := 0x2E2501
abbrev saddleLinkState : Nat := 0x2E4001
abbrev flitReplays : Nat := 0x2E4101
abbrev missedHeartbeats : Nat := 0x2E4201
abbrev bridgeFaults : Nat := 0x2E4301
abbrev lateCompletions : Nat := 0x2E4401
abbrev interruptRouting : Nat := 0x2E4501
abbrev speculativeReadsDiscarded : Nat := 0x2E4601
abbrev hostEndpointDie : Nat := 0x2E4701
abbrev clearBridgeCounters : Nat := 0x2E4702
abbrev eccCorrected : Nat := 0x2E5001
abbrev eccUncorrectable : Nat := 0x2E5101
abbrev spareRowsInUse : Nat := 0x2E5201
abbrev failedBanks : Nat := 0x2E5301
abbrev mailboxWriteCollisions : Nat := 0x2E5401
abbrev marchDie : Nat := 0x2E5801
abbrev marchMemory : Nat := 0x2E5802
abbrev marchMode : Nat := 0x2E5803
abbrev marchCommand : Nat := 0x2E5804
abbrev marchStatus : Nat := 0x2E5805
abbrev marchFailingRows : Nat := 0x2E5806
abbrev marchProgress : Nat := 0x2E5807
abbrev dieServiceHold : Nat := 0x2E5808
abbrev eventLogPasses : Nat := 0x2E5901
abbrev factoryTransmitEqualisation : Nat := 0x2F1001
abbrev factoryReceiveLatency : Nat := 0x2F1101
abbrev factoryTransmitLatency : Nat := 0x2F1201
abbrev factoryOscillatorTrim : Nat := 0x2F1301
abbrev factoryTDMGainTrim : Nat := 0x2F1401
abbrev factoryTemperatureOffset : Nat := 0x2F1501
abbrev factoryVoltageThresholds : Nat := 0x2F1601
abbrev userTransmitEqualisation : Nat := 0x2F9001
abbrev userReceiveLatency : Nat := 0x2F9101
abbrev userTransmitLatency : Nat := 0x2F9201
abbrev userOscillatorTrim : Nat := 0x2F9301
abbrev userTDMGainTrim : Nat := 0x2F9401
abbrev userTemperatureOffset : Nat := 0x2F9501
abbrev userVoltageThresholds : Nat := 0x2F9601
abbrev calibrationStatus : Nat := 0x2FF001
abbrev restoreFactory : Nat := 0x2FF002
abbrev stagedRecord : Nat := 0x300001
abbrev activeRecord : Nat := 0x300002
abbrev slotStateContract : Nat := 0x300003
abbrev stageDelete : Nat := 0x300004
abbrev discardStaged : Nat := 0x300005
abbrev latencyBound : Nat := 0x300006
abbrev deadlineMargin : Nat := 0x300007
abbrev commitCommand : Nat := 0x500001
abbrev commitStatus : Nat := 0x500002
abbrev commitSequence : Nat := 0x500003
abbrev verdict : Nat := 0x500004
abbrev violatingSlot : Nat := 0x500005
abbrev violatingContractID : Nat := 0x500006
abbrev violatedResource : Nat := 0x500007
abbrev margin : Nat := 0x500008
abbrev marginUnit : Nat := 0x500009
abbrev faultCase : Nat := 0x50000A
abbrev innerVerdict : Nat := 0x50000B
abbrev newGeneration : Nat := 0x50000C
abbrev switchTick : Nat := 0x50000D
abbrev brokenByCommit : Nat := 0x50000E
abbrev activeGeneration : Nat := 0x500101
abbrev planHash : Nat := 0x500102
abbrev faultStatus : Nat := 0x500103
abbrev generationSwitchTick : Nat := 0x500104
abbrev activeContracts : Nat := 0x500105
abbrev brokenContracts : Nat := 0x500106
abbrev pendingGeneration : Nat := 0x500107
abbrev pendingSwitchTick : Nat := 0x500108
abbrev faultCases : Nat := 0x500201
abbrev shadowPlansDistributed : Nat := 0x500202
abbrev uncoveredFaultCases : Nat := 0x500203
abbrev faultPlanInForce : Nat := 0x500204
abbrev faultsInForce : Nat := 0x500205
abbrev activationTick : Nat := 0x500206
abbrev lastRecoveryTime : Nat := 0x500207
abbrev shedContracts : Nat := 0x500208
abbrev migrationEnable : Nat := 0x500209
abbrev migrationStatus : Nat := 0x50020A
abbrev migrationGeneration : Nat := 0x50020B
abbrev migrationVerdict : Nat := 0x50020C
abbrev dieDerateLevel : Nat := 0x500301
abbrev placementFirst : Nat := 0x510001
abbrev recordCountPlan : Nat := 0x510002
abbrev view : Nat := 0x510003
abbrev placementRecords : Nat := 0x510004
abbrev firstCase : Nat := 0x510101
abbrev caseCount : Nat := 0x510102
abbrev faultCaseRecords : Nat := 0x510103
abbrev itemKind : Nat := 0x510201
abbrev firstItem : Nat := 0x510202
abbrev itemCount : Nat := 0x510203
abbrev itemView : Nat := 0x510204
abbrev itemRecords : Nat := 0x510205
abbrev partitionSize : Nat := 0x510301

end O

end Sys2Proof.Machine
end

