-- ==== Sys2Proof/Types.lean ====
section
/-! DEFINITION. Data that both commands and the state hold: requests and their statuses, frames, plan records. -/
namespace Sys2Proof

open Sys2Proof.Machine (Role)

/-- The statuses of R466. -/
inductive Status where
  | ok | noObject | readOnly | writeOnly | accessDenied | outOfRange | length | deviceState | outOfSequence
  | timeout | notMappable | alreadyDone | updateBusy | hardware | unknownCommand | noSession | format
deriving DecidableEq, Repr

/-- The access paths of R400. -/
inductive Path where
  | lane | svcEthernet | svcUart | mailbox | canopen
deriving DecidableEq, Repr

/-- The SLIP frame of the SVC UART that carried a DTLS record (R406): its length in bytes, and whether a framing error cut it. -/
structure Slip where
  bytes : Nat
  cut : Bool
deriving DecidableEq, Repr

/-- R406: is the record of a SLIP frame discarded?  A frame of more than 1,472 bytes, or one that was cut. -/
def Slip.lost (f : Option Slip) : Bool :=
  match f with
  | some f => f.cut || decide (1472 < f.bytes)
  | none => false

/-- Who sends a dictionary request: the session, the sequence number and the association (DTLS association, mailbox or
node) it arrives on (R463, R467). -/
structure Who where
  sess : Nat
  seq : Nat
  assoc : Nat
  head : Bytes               -- the 20 header bytes of the request as they came, which the answer echoes
  slip : Option Slip         -- the SLIP frame that carried it, over the SVC UART (R406)
deriving DecidableEq, Repr

/-- Which key accepted a client chain (R402): the Krerex vendor key, or trust anchor 1 to 8. -/
inductive Trust where
  | vendorKey
  | anchor (n : Nat)
deriving DecidableEq, Repr

/-- What the FCS of a received frame is (R111): right, the inverse of the right one, or wrong otherwise. -/
inductive Fcs where
  | good | stomped | bad
deriving DecidableEq, Repr

/-- MACsec facts of a frame received on a lane that runs inline MACsec: the association number and packet number of its
SecTAG, whether the SCI is that of the channel's peer, and whether the ICV check passes (R335, R351). -/
structure RxSec where
  an : Nat
  pn : Nat
  sciOk : Bool
  icvOk : Bool
  untagged : Bool
deriving DecidableEq, Repr

/-- A frame received on a lane: its bytes from the destination address to the last byte before the FCS (decrypted, on a
MACsec lane), its FCS, whether the PHY reported an alignment or code error, and its MACsec facts. -/
structure RxFrame where
  bytes : Bytes
  fcs : Fcs
  align : Bool
  sec : Option RxSec
  frags : List Nat := []             -- a preempted frame: lengths of its fragments but the last, mCRC included (R161)
  fragMin : Nat := 64                -- the size the partner advertises for them
deriving DecidableEq, Repr

/-- A frame, or a reference to one, that waits in a queue of a lane or is being sent.  `len` counts from the destination
address to the FCS (R109). -/
structure QFrame where
  bytes : Bytes
  len : Nat
  tc : Nat
  slot : Nat          -- contract slot, 0xFFFF unclassified
  ingress : Nat       -- endpoint of R56
  ts : Nat            -- ingress timestamp, ns
  rtag : Option Nat   -- FRER sequence number it carries on the wire
  cut : Bool          -- cut-through (R72)
  mirror : Nat        -- mirror session + 1 of a mirror copy, 0 none
  l3 : Bool           -- checksum requests (R114)
  l4 : Bool
  stomp : Bool        -- ends with a stomped FCS (R114)
  since : Nat         -- when it entered its queue, ns
  stamp : Nat := 0    -- ingress timestamp, ns of gPTP domain 0
  tx : Nat := 0       -- the transmit chain it is a copy of, 0 none (R145)
  inLane : Option Nat := none -- the lane it entered on
deriving DecidableEq, Repr

/-- A frame in the pipeline after stage 2. -/
structure Pkt where
  bytes : Bytes
  pcp : Nat
  dei : Nat
  vid : Nat
  wasTagged : Bool
  inEp : Nat
  lane : Option Nat                  -- ingress lane
  die : Nat                          -- ingress die
  zone : Nat
  ts : Nat
  slot : Nat
  colour : Nat                       -- 0 green, 1 yellow (DEI or a meter)
  deliver : Option Nat               -- a failing frame: error flags, [8] STOMPED, [9] MACsec integrity failure (R113, R114)
  stomp : Bool                       -- a cut-through original that failed (R114)
  l3req : Bool
  l4req : Bool
  stamp : Nat := 0                   -- ingress timestamp, ns of gPTP domain 0 (R116, R141)
  tx : Nat := 0                      -- the transmit chain it comes from, 0 none (R145)
deriving DecidableEq, Repr

/-- A gate-list entry (R155). -/
structure GateEntry where
  off : Nat
  states : Nat
  op : Nat
  owner : Nat
deriving DecidableEq, Repr

/-- One egress entry of a placement record (R102): the lane used, the dies reached hop by hop on the first and on the
second path, the traffic class and the window offset. -/
structure EgrPlan where
  lane : Nat            -- global lane; 0xFF internal
  path : List Nat
  path2 : Option (List Nat)
  tc : Nat              -- 0xFF internal
  win : Nat             -- 0xFFFFFFFF when not Scheduled
deriving DecidableEq, Repr

/-- Where Izost put one contract (R87, R102). -/
structure SlotPlan where
  slot : Nat
  ingressDie : Nat
  replication : Nat
  recovery : Nat
  cirqueDie : Nat
  egr : List EgrPlan
deriving DecidableEq, Repr

/-- A complete placement: of every contract, and the home die of every item (R104) by `kind * 65536 + item`. -/
structure Placement where
  slots : List SlotPlan
  homes : SMap Nat
deriving DecidableEq, Repr

/-- The placement of one fault case (R90 to R92) with the contracts it sheds for capacity. -/
structure CasePlan where
  code : Nat            -- R77
  shed : List Nat
  place : Placement
deriving DecidableEq, Repr

/-- A Talker Advertise (R81): stream ID, destination address and VID, TSpec (maximum frame size and frames per class
measurement interval, as a rate in kbit/s) and accumulated latency in ns. -/
structure TalkerAd where
  stream : Bytes
  dst : Bytes
  vid : Nat
  maxFrame : Nat
  rate : Nat
  latency : Nat
deriving DecidableEq, Repr

/-- A forwarding-database entry (R131, R132). -/
structure FdbEntry where
  endpoint : Nat
  static : Bool
  laneSet : Option Nat
  die : Nat
  tick : Nat
  refreshed : Nat
deriving DecidableEq, Repr

/-- A frame that arrives over Saddle with its header of R141. -/
structure SaddleFrame where
  slot : Nat
  ingress : Nat
  cut : Bool
  frer : Bool
  rtagOnWire : Bool
  mirrorCopy : Bool
  flooded : Bool
  l3 : Bool
  l4 : Bool
  tc : Nat
  seq : Nat
  lanes : Nat
  ts : Nat
  rings : Nat
  mirrors : Nat
  bytes : Bytes
  arrived : Nat := 0                 -- local time of arrival at its lane or of its injection, ns
  lane : Option Nat := none          -- the lane it entered on
  fail : Option Nat := none          -- how it failed, as in Pkt; its FCS says so on the link (R114)
  way : List Nat := []               -- an unclassified or mirror copy: the dies after the receiving one (R87, R133)
  tx : Nat := 0                      -- the transmit chain it is a copy of, 0 none
deriving DecidableEq, Repr

/-- One transmit descriptor as the AX8 reads it, with the bytes of its buffer (R144). -/
structure TxDesc where
  desc : Bytes                       -- its 32 bytes
  bytes : Bytes
deriving DecidableEq, Repr

/-- The descriptors the AX8 reads ahead on a transmit ring, from *next transmit descriptor* (R145). -/
abbrev TxChain := List TxDesc

/-- A transaction across Saddle (R291): initiator die, master (0 management core, 1 PCIe endpoint, 2 SPI target, 3 Izost
accelerator, 4 ring DMA engine), world, target die, address, size, data of a write, and when it was issued. -/
structure Txn where
  id : Nat
  die : Nat
  master : Nat
  secure : Bool
  target : Nat
  addr : Nat
  size : Nat
  data : Option Nat
  since : Nat
deriving DecidableEq, Repr

/-- Audio delivered to a Cirque input (R229, R232): a packet of a stream, or the TDM frames of one tick, slot by slot. -/
inductive AudioIn where
  | packet (bytes : Bytes)
  | tdm (slots : List (List Int))
deriving DecidableEq, Repr

/-- A CAN frame (R256, R268): format code, identifier, BRS, ESI, RTR, SDT, acceptance field and data. -/
structure CanFrame where
  fmt : Nat
  id : Nat
  brs : Bool
  esi : Bool
  rtr : Bool
  sdt : Nat
  af : Nat
  data : Bytes
deriving DecidableEq, Repr

/-- A word that ECC finds uncorrectable (R355), by what it holds: a frame of a Tarn region (its ingress endpoint and
timestamp, none: free space); queue or gate state of a port cluster; a contract, rule, meter, shaper or FRER entry of a
table region; a database entry; a connection-table entry; management SRAM; secure SRAM; a mailbox word; an edge message
RAM; an audio input or output. -/
inductive EccHit where
  | tarn (region : Nat) (frame : Option (Nat × Nat))
  | queueState (cluster : Nat)
  | contract (region slot : Nat)
  | rule (region pass number : Nat)
  | meter (region owner : Nat)
  | shaper (region lane slot : Nat)
  | frer (region slot : Nat)
  | fdb (region key : Nat)
  | connection (index : Nat)
  | management
  | secure
  | mailbox (off : Nat)
  | edgeRam (cluster : Nat)
  | audioInput (chan : Nat)
  | audioOutput (out : Nat)
deriving DecidableEq, Repr

/-- What one MKPDU says (R333): the sender's member identifier, message number, key server priority and SCI, whether the
ICV under the channel's keys is right, whether its live or potential list holds this end's member identifier, a SAK it
distributes, and the key its SAK-use field reports. -/
structure Mkpdu where
  mi : Nat
  mn : Nat
  prio : Nat
  sci : Nat
  icvOk : Bool
  hears : Bool
  /-- Association number, key number, initial PN and the SAK as unwrapped. -/
  dist : Option (Nat × Nat × Nat × Bytes)
  /-- Key identifier, and whether the sender receives and transmits under it. -/
  sakUse : Option (Nat × Bool × Bool)
  /-- The PN it reports has reached its threshold (R335). -/
  exhausting : Bool
deriving DecidableEq, Repr

/-- What a start finds (R419, R478): the start reason of R438, RECOVERY_N and TEST_N low, the host straps, the dies whose ROM
self-check, root check and supplies are right, the Saddle ports that did not train, the images that fail verification
(2 * die + slot, with the result code 2, 3 or 6 of R432), the dies whose aligned image fails, the failing rows of the start
march by bank, whether the firmware sets FW_READY, the dies whose transport key mismatches, the dies whose plan shard and whose
deltas pass their hashes, whether the factory calibration passes, the endpoint die, the lanes whose PHY reports link up, and
the microseconds to the end of step 7. -/
structure StartFacts where
  reason : Nat
  recoveryN : Bool
  testN : Bool
  hostSel : Nat
  selfOk : Nat
  links : List Nat
  badImages : SMap Nat
  alignFail : Nat
  rows : SMap Nat
  fwReady : Bool
  mismatches : Nat
  shards : Nat
  deltas : Nat
  calOk : Bool
  endpoint : Nat
  up : List Nat
  duration : Nat
deriving DecidableEq, Repr

/-- What the environment presents at a tick boundary: the time of domain 0, overruns, readings. -/
structure BoundaryFacts where
  gptp : Nat                 -- gPTP domain 0 time at the boundary, ns
  overruns : List Nat        -- 8 * die + resource code of the resources whose work of the tick that begins is unfinished at its end (R47)
  temps : SMap Int           -- raw sensor readings, 0.1 °C, by 8 * die + sensor (R445)
  volts : SMap Nat           -- monitor levels, mV, by 4 * die + monitor (R446)
  pmbus : SMap Nat           -- READ_IOUT of a rail's regulator in mA, by rail; one that is not listed does not answer (R377)
  avail : SMap Nat           -- free receive descriptors by 16 * die + ring
  activity : SMap Nat        -- by 4 * die + i: pipeline load of region 0 and 1 in kpps, gateway and mixer load in thousandths (R373)
  tests : SMap (Nat × Nat)   -- bits or frames checked and errors in the tick, by lane under test (R448)
  links : SMap (Nat × Nat)   -- bit errors and failing data lanes in the tick, by 4 * die + port under test (R451)
deriving DecidableEq, Repr

/-- The forwarding extension of a message (R463): role, world, entry device and the hash of the client's anchor key. -/
structure FwdExt where
  role : Nat
  secure : Bool
  entry : Nat
  hash : Bytes
deriving DecidableEq, Repr

/-- The header of a Speward request (R463): who sends it, its target, its extension, whether it comes from another AX8's
device session, its flags IN_FORCE and SNAPSHOT, and whether every reserved bit is clear and every length right. -/
structure Req where
  who : Who
  target : Nat
  ext : Option FwdExt
  fromDevice : Bool
  inForce : Bool
  snapshot : Bool
  fmtOk : Bool
deriving DecidableEq, Repr

/-- The vendor token of R404 as verified: signature under the vendor key, subject key identifier of this package, not-after
time in seconds. -/
structure Token where
  sigOk : Bool
  subjectOk : Bool
  notAfter : Nat
deriving DecidableEq, Repr

end Sys2Proof
end

