-- ==== Sys2Proof/Syntax.lean ====
section
/-! DEFINITION. The commands: one constructor per row of the opcode table.  `t` is the time at which the command
reaches the block, in ns of the package's untrimmed oscillator (R226 says how the local time base follows it); the other
operands are the facts of the event (the lane, the frame, the request and its session), or the outcome of a check whose inner
working the model does not hold. -/
namespace Sys2Proof

/-- One command. -/
inductive Instr where
  /-- A tick boundary arrives and runs its Boundary phase, with the Gather, Compute, Emit and Prepare work of the tick that follows. (R34) -/
  | tickBoundary (t : Nat) (b : BoundaryFacts)
  /-- The lock hold timeout expires in HOLD, so the tick unit enters FREE_RUN and gate lists start on local ticks. (R41) -/
  | lockHoldTimeout (t : Nat)
  /-- gPTP domain 0 declares first lock and the phase step is scheduled for the next local boundary. (R42) -/
  | firstLock (t : Nat)
  /-- The first local boundary after lock starts a stretch tick and the tick number jumps. (R42) -/
  | stretchTickStart (t : Nat) (gptp : Nat)
  /-- The stretch tick ends at the aligned boundary and the tick state becomes LOCKED. (R42) -/
  | stretchTickEnd (t : Nat)
  /-- A lane's first gate-cycle boundary after a hold is reached, and its gate list starts. (R42) -/
  | holdEnd (t : Nat) (lane : Nat)
  /-- A write to re-align tick requests one more step with a stretch tick. (R44) -/
  | reAlignTick (t : Nat) (who : Who)
  /-- The grandmaster of domain 0 vanishes or changes, and the tick unit enters HOLDOVER. (R45) -/
  | holdover (t : Nat)
  /-- A write of a staged contract record moves the slot state. (R58) -/
  | stageRecord (t : Nat) (who : Who) (slot : Nat) (rec : Bytes)
  /-- A write of stage delete moves the slot towards deletion. (R58) -/
  | stageDelete (t : Nat) (who : Who) (slot : Nat)
  /-- A write of discard staged drops the slot's staged content. (R58) -/
  | discardStaged (t : Nat) (who : Who) (slot : Nat)
  /-- Commit command 1 snapshots staged slots and starts admission. (R61) -/
  | commit (t : Nat) (who : Who)
  /-- Commit command 2 aborts a RUNNING commit or returns ALREADY_DONE. (R62) -/
  | commitAbort (t : Nat) (who : Who)
  /-- Commit command 3 runs admission without producing a generation. (R64) -/
  | checkOnly (t : Nat) (who : Who)
  /-- Commit command 4 admits the commit with dependants of disabled functions excluded. (R79) -/
  | commitForcingDisables (t : Nat) (who : Who)
  /-- Commit command 5 discards all staged content and sets the status IDLE. (R63) -/
  | discardAllStaged (t : Nat) (who : Who)
  /-- Admission completes and its verdict, margins and switch tick are written. (R65) -/
  | commitVerdict (t : Nat)
  /-- The switch tick of an accepted generation is reached and every die applies the new plan. (R78) -/
  | generationSwitch (t : Nat)
  /-- Building and distribution of one fault case's shadow plan completes. (R92) -/
  | shadowPlanDistributed (t : Nat) (code : Nat)
  /-- An MSRP Talker Advertise is received and propagated or answered with Talker Failed. (R81) -/
  | talkerAdvertise (t : Nat) (lane : Nat) (ad : TalkerAd)
  /-- An MSRP Listener declaration is registered or withdrawn on an egress lane. (R81) -/
  | listenerDeclaration (t : Nat) (lane : Nat) (stream : Bytes) (ready : Bool)
  /-- The 8 µs heartbeat timer sends a heartbeat with a time-transfer word on every trained link. (R24) -/
  | heartbeatSend (t : Nat)
  /-- A heartbeat is not seen when due, and the third miss fails the link. (R24) -/
  | heartbeatMissed (t : Nat) (die : Nat) (port : Nat)
  /-- 8 µs after the first link report of a die, the lead classifies a die or link fault. (R94) -/
  | dieFaultClassifyTimeout (t : Nat) (die : Nat)
  /-- A die raises the FATAL side-band wire and the lead classifies a die fault. (R94) -/
  | fatalWire (t : Nat) (die : Nat) (cause : Nat)
  /-- A surviving die receives a fault-case activation and applies its delta. (R95) -/
  | activationReceive (t : Nat) (die : Nat) (code : Nat)
  /-- Every die reports its delta applied and settled, and the shadow plan becomes the active generation. (R95) -/
  | faultPlanActive (t : Nat)
  /-- A shadow plan built ahead of all others for a fault without a distributed plan completes and is activated. (R96) -/
  | urgentShadowPlanBuilt (t : Nat) (code : Nat)
  /-- The new lead resumes dictionary service and reports a cancelled commit. (R23) -/
  | dictionaryServiceResume (t : Nat)
  /-- Re-mirroring to a new standby completes. (R23) -/
  | remirrorDone (t : Nat)
  /-- A die's hottest sensor stands within 5 °C of its limit for 64 ticks and its derate level rises. (R98) -/
  | derateRaise (t : Nat) (die : Nat)
  /-- A die stays 15 °C below its limit for 480,000 ticks and its derate level falls. (R98) -/
  | derateLower (t : Nat) (die : Nat)
  /-- A migration admission completes and is accepted or refused. (R99) -/
  | migrationEnded (t : Nat)
  /-- The gate engine watchdog detects a lock-up and restarts the cluster. (R15) -/
  | gateWatchdog (t : Nat) (die : Nat) (cluster : Nat)
  /-- A restarting cluster completes its restart within 200 µs. (R15) -/
  | clusterBackInService (t : Nat) (die : Nat) (cluster : Nat)
  /-- Auto-negotiation resolves, and a mismatched rate sets RATE_MISMATCH. (R106) -/
  | autonegComplete (t : Nat) (lane : Nat) (rate : Nat) (fullDuplex : Bool)
  /-- Lock and negotiation have held for the link-up hold-off, and the lane enters service. (R107) -/
  | linkUpHoldOff (t : Nat) (lane : Nat)
  /-- Loss of lock or link has lasted the loss hold-off, so loss of signal is declared and queues drain. (R107) -/
  | linkLoss (t : Nat) (lane : Nat)
  /-- LACP takes a member out of collecting and distributing. (R119) -/
  | lacpOut (t : Nat) (lane : Nat)
  /-- A frame received on a lane is checked, classified and forwarded through the pipeline. (R111) -/
  | laneFrameReceive (t : Nat) (lane : Nat) (f : RxFrame) (avail : SMap Nat)
  /-- A frame arriving over Saddle takes the egress pass of its region. (R141) -/
  | saddleFrameReceive (t : Nat) (die : Nat) (m : SaddleFrame) (avail : SMap Nat)
  /-- A session answer from a remote home arrives and the waiting copy is decided. (R195) -/
  | sessionLookupAnswer (t : Nat) (id : Nat) (avail : SMap Nat)
  /-- A session idle beyond its timeout is removed. (R196) -/
  | sessionIdleExpiry (t : Nat)
  /-- The transfer of an item's sessions to its new home completes. (R199) -/
  | sessionTransferDone (t : Nat) (pass : Nat) (die : Nat)
  /-- A write of session flush removes sessions of a pass or of all passes. (R199) -/
  | sessionFlush (t : Nat) (who : Who) (pass : Nat)
  /-- A learned entry from another die is applied if its tick is later. (R131) -/
  | fdbUpdateReceive (t : Nat) (die : Nat) (key : Nat) (e : FdbEntry)
  /-- A dynamic entry not refreshed within the ageing time is removed. (R131) -/
  | fdbAgeOut (t : Nat) (die : Nat) (key : Nat)
  /-- A static forwarding entry is written, evicting a dynamic entry if needed. (R132) -/
  | staticEntryWrite (t : Nat) (who : Who) (rec : Bytes)
  /-- A static forwarding entry is deleted by address and VID. (R132) -/
  | staticEntryDelete (t : Nat) (who : Who) (rec : Bytes)
  /-- A write of FDB flush removes every dynamic entry. (R146) -/
  | fdbFlush (t : Nat) (who : Who)
  /-- No frame has passed FRER recovery for the reset timeout, so the history restarts. (R139) -/
  | recoveryResetTimeout (t : Nat) (die : Nat) (slot : Nat)
  /-- The AX8 reads ahead a transmit ring chain with OWN set and injects or rejects the frame. (R145) -/
  | transmitDescriptorFetch (t : Nat) (die : Nat) (ring : Nat) (chain : TxChain) (avail : SMap Nat)
  /-- At a frame boundary or preemption point the lane picks and sends the next candidate. (R153) -/
  | transmitSelection (t : Nat) (lane : Nat) (avail : SMap Nat)
  /-- A gate-list entry's offset is reached and the gate states change. (R156) -/
  | gateEvent (t : Nat) (lane : Nat)
  /-- The administrative gate list starts at its first eligible cycle boundary. (R159) -/
  | adminListStart (t : Nat) (lane : Nat)
  /-- A two-bucket shaper's head frame becomes eligible and enters its class queue. (R165) -/
  | shaperEligible (t : Nat) (lane : Nat) (slot : Nat)
  /-- The verify protocol succeeds or fails after its attempts and preemption becomes active or FAILED. (R161) -/
  | preemptionVerifyDone (t : Nat) (lane : Nat) (ok : Bool)
  /-- A PAUSE or PFC frame is received and pauses pausable classes. (R172) -/
  | pauseReceive (t : Nat) (lane : Nat) (pfc : Bool) (times : List (Nat × Nat))
  /-- A pause timer runs out and the class resumes. (R172) -/
  | pauseTimerExpiry (t : Nat) (lane : Nat)
  /-- The 32,768-quantum repeat interval expires while use stays above XON. (R174) -/
  | pauseRepeat (t : Nat) (lane : Nat)
  /-- A Best-effort queue has waited beyond the starvation limit and a relief frame is due. (R175) -/
  | starvationLimit (t : Nat) (lane : Nat) (tc : Nat)
  /-- An Announce message is received and the BMCA runs. (R211) -/
  | ptpAnnounceReceive (t : Nat) (lane : Nat) (msg : Bytes)
  /-- A Sync is received, the servo updates the clock, and a relayed Sync is corrected. (R211) -/
  | ptpSyncReceive (t : Nat) (lane : Nat) (msg : Bytes)
  /-- A Follow_Up or Pdelay_Resp_Follow_Up is received for a two-step exchange. (R215) -/
  | ptpFollowUpReceive (t : Nat) (lane : Nat) (msg : Bytes)
  /-- A Delay_Req is received and answered with Delay_Resp. (R209) -/
  | ptpDelayReqReceive (t : Nat) (lane : Nat) (msg : Bytes)
  /-- A Delay_Resp is received for the delay measurement. (R209) -/
  | ptpDelayRespReceive (t : Nat) (lane : Nat) (msg : Bytes)
  /-- A Pdelay_Req is received and answered with Pdelay_Resp. (R215) -/
  | ptpPdelayReqReceive (t : Nat) (lane : Nat) (msg : Bytes)
  /-- A Pdelay_Resp is received for the link delay measurement. (R209) -/
  | ptpPdelayRespReceive (t : Nat) (lane : Nat) (msg : Bytes)
  /-- A gPTP interval-request Signaling message is received. (R209) -/
  | ptpSignalingReceive (t : Nat) (lane : Nat) (msg : Bytes)
  /-- The sync interval expires and a Sync is sent as master. (R222) -/
  | ptpSyncTimer (t : Nat) (inst : Nat) (lane : Nat)
  /-- The announce interval expires and an Announce is sent. (R222) -/
  | ptpAnnounceTimer (t : Nat) (inst : Nat) (lane : Nat)
  /-- The delay interval expires and a Delay_Req or Pdelay_Req is sent. (R222) -/
  | ptpDelayTimer (t : Nat) (inst : Nat) (lane : Nat)
  /-- An Announce or Sync receipt timeout expires and the instance enters HOLDOVER or changes port. (R211) -/
  | receiptTimeout (t : Nat) (inst : Nat) (lane : Nat)
  /-- A die aligns its clocks to the master from a received time-transfer word. (R207) -/
  | timeTransferWord (t : Nat) (die : Nat) (err : Int)
  /-- A write of grandmaster time set steps the clock of a self-grandmaster instance. (R212) -/
  | grandmasterTimeSet (t : Nat) (who : Who) (inst : Nat) (v : Nat)
  /-- A pulse program is written and takes effect at the next eligible edge. (R219) -/
  | pulseProgramWrite (t : Nat) (who : Who) (die : Nat) (output : Nat) (rec : Bytes)
  /-- A grid edge of a pulse program is reached and the output switches. (R218) -/
  | pulseEdge (t : Nat) (die : Nat) (output : Nat)
  /-- An edge on a capture input is timestamped and queued or lost. (R220) -/
  | captureEdge (t : Nat) (die : Nat) (input : Nat) (falling : Bool)
  /-- No reference edge arrives for 2 s and REF_LOCKED clears. (R221) -/
  | refLost (t : Nat) (inst : Nat)
  /-- A read of capture records returns and removes every queued record. (R220) -/
  | captureRecordsRead (t : Nat) (who : Who) (die : Nat) (input : Nat)
  /-- An AAF, RTP or TDM frame delivered to a Cirque input fills its jitter buffer. (R229) -/
  | cirqueInputFrame (t : Nat) (die : Nat) (chan : Nat) (slot : Nat) (f : AudioIn)
  /-- A filtered assertion of EMG_OVR_N makes the emergency ACTIVE and drives EMG_ACT. (R238) -/
  | emergencyAssert (t : Nat)
  /-- A filtered release of EMG_OVR_N ends the emergency unless commanded. (R238) -/
  | emergencyRelease (t : Nat)
  /-- A write of emergency command sets or clears the commanded emergency. (R238) -/
  | emergencyCommand (t : Nat) (who : Who) (v : Nat)
  /-- Nine ticks before a switch that moves a zone, inputs are sent to both instances. (R246) -/
  | zoneHandoverStart (t : Nat)
  /-- An announcement start command is accepted and its start tick set. (R242) -/
  | announcementStart (t : Nat) (who : Who) (a : Nat)
  /-- An announcement abort command stops a RUNNING announcement or returns ALREADY_DONE. (R242) -/
  | announcementAbort (t : Nat) (who : Who) (a : Nat)
  /-- The announcement start tick is reached and players in the target zones begin. (R243) -/
  | announcementPlayback (t : Nat) (a : Nat)
  /-- The last sample of the last repeat has been mixed in every zone. (R242) -/
  | announcementDone (t : Nat) (a : Nat)
  /-- A clip data write replaces the clip on every healthy die. (R241) -/
  | clipDataWrite (t : Nat) (who : Who) (data : Bytes)
  /-- A clip erase write frees the clip unless it is in use. (R253) -/
  | clipErase (t : Nat) (who : Who)
  /-- A CAN frame becomes valid and goes to buffers, FIFOs, gateway cells or the node. (R258) -/
  | canFrameReceive (t : Nat) (unit : Nat) (f : CanFrame)
  /-- An owner sets TX_REQUEST on a transmit element and the unit sends it. (R256) -/
  | edgeTxRequest (t : Nat) (cluster : Nat) (off : Nat)
  /-- A pending CAN frame is sent, TX_DONE set and timestamp written. (R256) -/
  | canTransmitDone (t : Nat) (unit : Nat)
  /-- A CAN controller enters bus-off and stops sending. (R259) -/
  | busOff (t : Nat) (unit : Nat)
  /-- A write of bus-off recovery starts the recovery count. (R259) -/
  | busOffRecovery (t : Nat) (who : Who) (unit : Nat)
  /-- 128 occurrences of 11 recessive bits complete and the controller recovers. (R259) -/
  | busOffRecovered (t : Nat) (unit : Nat)
  /-- A commander's schedule delay expires and the next header is sent. (R260) -/
  | linScheduleEntry (t : Nat) (unit : Nat)
  /-- A LIN header is received and answered or its response received. (R260) -/
  | linHeaderReceive (t : Nat) (unit : Nat) (id : Nat)
  /-- A LIN response completes or fails its checksum. (R260) -/
  | linResponseReceive (t : Nat) (unit : Nat) (data : Bytes) (sumOk : Bool)
  /-- A response is not complete within 1.4 times its nominal time. (R260) -/
  | linNoResponse (t : Nat) (unit : Nat)
  /-- A received go-to-sleep command silences the unit. (R260) -/
  | linGoToSleep (t : Nat) (unit : Nat)
  /-- An idle gap of the message gap ends a UART message. (R261) -/
  | uartMessageEnd (t : Nat) (unit : Nat) (chars : List Nat) (errors : Nat)
  /-- A 1 ms basic period starts and the bus administrator polls its due entries. (R262) -/
  | mvbBasicPeriod (t : Nat) (die : Nat)
  /-- A master frame is received and answered for source ports. (R262) -/
  | mvbMasterFrame (t : Nat) (die : Nat) (fcode : Nat) (addr : Nat) (lineA : Bool) (lineB : Bool)
  /-- A slave frame is received and updates the traffic store. (R262) -/
  | mvbSlaveFrame (t : Nat) (die : Nat) (addr : Nat) (data : Bytes) (lineA : Bool) (lineB : Bool)
  /-- A 10BASE-T1S frame is received for the gateway. (R263) -/
  | t1sFrameReceive (t : Nat) (die : Nat) (bytes : Bytes) (node : Nat) (ok : Bool)
  /-- A TRDP or Layer-2 signal telegram delivered to its edge unit is checked and extracted. (R276) -/
  | telegramReceive (t : Nat) (endpoint : Nat) (slot : Nat) (bytes : Bytes) (at_ : Nat)
  /-- An NMT start command puts the node in Operational. (R265) -/
  | nmtStart (t : Nat) (node : Nat)
  /-- An NMT stop command stops PDO and SDO service. (R265) -/
  | nmtStop (t : Nat) (node : Nat)
  /-- An NMT enter pre-operational command is applied. (R265) -/
  | nmtEnterPreOperational (t : Nat) (node : Nat)
  /-- An NMT reset node restarts only the node and sends boot-up. (R265) -/
  | nmtResetNode (t : Nat) (node : Nat)
  /-- An NMT reset communication reloads the committed communication objects. (R265) -/
  | nmtResetCommunication (t : Nat) (node : Nat)
  /-- An SDO transfer reads or writes the dictionary with the node's role. (R409) -/
  | sdoRequest (t : Nat) (data : Bytes)
  /-- A gap of more than 1 s between segments aborts the transfer. (R409) -/
  | sdoTimeout (t : Nat)
  /-- A received RPDO writes its mapped objects. (R460) -/
  | rpdoReceive (t : Nat) (n : Nat) (data : Bytes)
  /-- An RPDO event timer expires and counts a timeout. (R458) -/
  | rpdoEventTimer (t : Nat) (n : Nat)
  /-- A SYNC is consumed and synchronous PDOs are handled. (R264) -/
  | syncReceive (t : Nat) (counter : Nat)
  /-- A TPDO event timer expires and the TPDO is sent. (R460) -/
  | tpdoEventTimer (t : Nat) (n : Nat)
  /-- The producer heartbeat time expires and a heartbeat is sent. (R264) -/
  | heartbeatProducerTimer (t : Nat)
  /-- A consumer heartbeat time expires without a heartbeat. (R264) -/
  | heartbeatConsumerTimeout (t : Nat) (entry : Nat)
  /-- A flit CRC error requests a replay, and a second failure stops the link. (R290) -/
  | flitReplay (t : Nat) (die : Nat) (port : Nat) (again : Bool)
  /-- A transaction request is served or forwarded by a die. (R291) -/
  | saddleRequestReceive (t : Nat) (die : Nat) (port : Nat) (x : Txn) (portA : List (Nat × Nat))
  /-- A transaction completion reaches its initiator. (R291) -/
  | saddleCompletionReceive (t : Nat) (die : Nat) (id : Nat) (status : Nat) (value : Nat)
  /-- A transaction has no completion after 20 µs and ends with BRIDGE_FAULT. (R293) -/
  | bridgeFault (t : Nat) (id : Nat)
  /-- An interrupt line wire level changes and INT_N and MSI-X follow. (R295) -/
  | intWireChange (t : Nat)
  /-- A write of 1 clears pending interrupt sources. (R295) -/
  | intSourceClear (t : Nat) (die : Nat) (mask : Nat) (again : Nat)
  /-- A host write to DOORBELL_IN signals the management cores of a new request. (R405) -/
  | doorbellIn (t : Nat) (v : Nat)
  /-- A host write of 1 clears doorbell bits from the management cores. (R301) -/
  | doorbellOut (t : Nat) (v : Nat)
  /-- A read of EVENT_FIFO pops one host event word. (R442) -/
  | eventFifo (t : Nat)
  /-- A write of WINDOW_CONTROL sets swap mode and prefetch or is refused. (R302) -/
  | windowControl (t : Nat) (window : Nat) (v : Nat)
  /-- A speculative line copy expires after 1 µs and is discarded. (R298) -/
  | prefetchDiscard (t : Nat) (master : Nat) (window : Nat) (line : Nat)
  /-- A posted host memory write is issued across Saddle in order. (R299) -/
  | hostWindowWrite (t : Nat) (off : Nat) (data : Bytes) (portA : List (Nat × Nat))
  /-- An SPI write command writes words to the host space. (R300) -/
  | spiWrite (t : Nat) (addr : Nat) (data : Bytes)
  /-- An SPI read command returns words after a marker. (R300) -/
  | spiRead (t : Nat) (addr : Nat) (words : Nat)
  /-- An SPI status command returns BUSY and LAST_WRITE_ERROR. (R300) -/
  | spiStatus (t : Nat)
  /-- Die 1 brings the PCIe link up again after the endpoint die is lost. (R299) -/
  | endpointTakeover (t : Nat)
  /-- A Cairn slot record write is applied in two phases on every holder. (R313) -/
  | slotRecordsWrite (t : Nat) (who : Who) (data : Bytes) (stop : Nat)
  /-- A wrapped operator key is unwrapped into an imported leaf. (R314) -/
  | keyImport (t : Nat) (who : Who) (data : Bytes) (stop : Nat)
  /-- A die requests a key from the anchor, which derives and wraps it. (R307) -/
  | keyRequest (t : Nat) (die : Nat) (slot : Nat)
  /-- A wrapped key arrives and is unwrapped into the die's key cache. (R307) -/
  | keyDelivered (t : Nat) (die : Nat) (slot : Nat)
  /-- A life-cycle command starts a transition with marker, erasure and state write. (R319) -/
  | lifeCycleCommand (t : Nat) (who : Who) (v : Nat)
  /-- A life-cycle transition completes. (R319) -/
  | lifeCycleDone (t : Nat)
  /-- A tamper sensor reports and the policy response is applied package-wide. (R321) -/
  | tamper (t : Nat) (die : Nat) (cls : Nat) (count : Nat)
  /-- The 1 ms loop period sends and checks the external loop pattern. (R320) -/
  | tamperLoopPattern (t : Nat) (ok0 : Bool) (ok1 : Bool) (count : Nat)
  /-- A Maintainer clear with a nonce releases a tamper state and returns attestation. (R325) -/
  | tamperClear (t : Nat) (who : Who) (nonce : Bytes)
  /-- A Vendor write of 0x5A blows the tamper-destroys-root fuse. (R326) -/
  | fuseTamperDestroysRoot (t : Nat) (who : Who)
  /-- A write of an attestation nonce starts a statement. (R328) -/
  | attestationNonce (t : Nat) (who : Who) (nonce : Bytes)
  /-- The signed attestation statement is produced. (R328) -/
  | attestationReady (t : Nat) (sess : Nat)
  /-- An MKPDU is processed and SAs installed or refused. (R333) -/
  | mkpduReceive (t : Nat) (lane : Nat) (p : Mkpdu)
  /-- The 2 s hello time expires and an MKPDU is sent. (R333) -/
  | mkaHelloTimer (t : Nat) (channel : Nat)
  /-- A peer's 6 s life time expires and membership changes. (R333) -/
  | mkaLifeTimeout (t : Nat) (channel : Nat) (mi : Nat)
  /-- The home die takes a job descriptor with OWN set from its ring. (R341) -/
  | lookasideJobFetch (t : Nat) (cls : Nat) (desc : Bytes) (data : Bytes) (readOk : Bool)
  /-- A look-aside job ends and writes its final status. (R344) -/
  | lookasideJobDone (t : Nat) (die : Nat) (busOk : Bool) (dest : Bytes)
  /-- A write of abort job aborts a RUNNING job or returns ALREADY_DONE. (R346) -/
  | abortJob (t : Nat) (who : Who)
  /-- A Speward session submits a job descriptor and data. (R349) -/
  | spewardJob (t : Nat) (who : Who) (data : Bytes)
  /-- A double-bit error in an SRAM word is handled by memory. (R355) -/
  | eccUncorrectable (t : Nat) (die : Nat) (hit : EccHit) (bank : Nat) (word : Nat)
  /-- The patrol scrubber reads and corrects words. (R354) -/
  | patrolScrub (t : Nat) (die : Nat) (corrected : Nat)
  /-- A march start command begins a destructive or preserving run. (R361) -/
  | marchStart (t : Nat) (who : Who)
  /-- A march abort command stops a RUNNING run or returns ALREADY_DONE. (R361) -/
  | marchAbort (t : Nat) (who : Who)
  /-- One bank of a run completes its march and restore. (R360) -/
  | marchBankDone (t : Nat) (failing : Nat)
  /-- A march run completes with PASSED, REPAIRED or FAILED. (R361) -/
  | marchDone (t : Nat)
  /-- Standby command 1 puts the package in Standby. (R371) -/
  | standbyEnter (t : Nat) (who : Who)
  /-- Standby command 2 leaves Standby through the wake sequence. (R370) -/
  | standbyLeave (t : Nat) (who : Who) (elapsed : Nat) (est : Nat) (f : StartFacts)
  /-- 64 ticks over budget with every lever at its floor raise a die's derate level. (R376) -/
  | powerOver (t : Nat)
  /-- An SMBALERT assertion makes Summit read every rail status. (R377) -/
  | smbalert (t : Nat) (words : SMap Nat)
  /-- A write of sleep request starts a consent round. (R381) -/
  | sleepRequest (t : Nat) (who : Who)
  /-- A consent-ring TOKEN is received, relayed or consented or vetoed. (R381) -/
  | token (t : Nat) (lane : Nat) (frame : Bytes)
  /-- A successor's token is not seen within 2 ms, so it is skipped as absent. (R381) -/
  | tokenTimeout (t : Nat)
  /-- The token does not return within 500 ms and the round FAILS. (R382) -/
  | roundTimeout (t : Nat)
  /-- A COMMIT frame is received and the commit tick recorded. (R382) -/
  | consentCommit (t : Nat) (lane : Nat) (frame : Bytes)
  /-- A CANCEL frame is received before the commit tick and the round is abandoned. (R383) -/
  | cancel (t : Nat) (lane : Nat) (frame : Bytes)
  /-- A JOIN frame adds a member to the members table. (R380) -/
  | join (t : Nat) (lane : Nat) (frame : Bytes)
  /-- A LEAVE frame removes a member from the members table. (R380) -/
  | leave (t : Nat) (lane : Nat) (frame : Bytes)
  /-- A WAKE frame is received and counted or wakes the device. (R387) -/
  | wakeFrame (t : Nat) (lane : Nat)
  /-- The commit tick is reached and the member enters Sleep. (R382) -/
  | sleepEntry (t : Nat)
  /-- A wake event runs the wake sequence to forwarding. (R388) -/
  | wake (t : Nat) (cause : Nat) (src : Nat) (elapsed : Nat) (est : Nat) (f : StartFacts)
  /-- A write of wake command sends WAKE or wakes from Standby. (R387) -/
  | wakeCommand (t : Nat) (who : Who) (elapsed : Nat) (est : Nat) (f : StartFacts)
  /-- No valid traffic arrives within the no-traffic timeout and the device sleeps again. (R389) -/
  | falseWake (t : Nat)
  /-- A detach command starts an orderly detach. (R392) -/
  | detachCommand (t : Nat) (who : Who)
  /-- Queues empty or 10 ms pass and the device is DETACHED. (R392) -/
  | detachDrainEnd (t : Nat)
  /-- A DTLS handshake authenticates a client chain or fails. (R401) -/
  | dtlsHandshake (t : Nat) (path : Path) (assoc : Nat) (chain : Option Trust) (valid : Bool) (slip : Option Slip)
  /-- A Speward OPEN grants a session and role. (R403) -/
  | openSession (t : Nat) (who : Who) (role : Nat) (token : Option Token)
  /-- A Speward CLOSE ends a session. (R403) -/
  | close (t : Nat) (q : Req)
  /-- A Speward READ returns a value or DOMAIN fragment. (R407) -/
  | read (t : Nat) (q : Req) (idx : Nat) (sub : Nat) (off : Nat)
  /-- A Speward WRITE of an object without a row of its own is checked and applied by its effect code. (R410) -/
  | write (t : Nat) (q : Req) (idx : Nat) (sub : Nat) (off : Nat) (last : Bool) (data : Bytes)
  /-- A DESCRIBE returns the object's description record. (R465) -/
  | describe (t : Nat) (q : Req) (idx : Nat) (sub : Nat)
  /-- A session opens a transaction. (R413) -/
  | txnBegin (t : Nat) (q : Req)
  /-- The transaction's held writes are applied together. (R413) -/
  | txnEnd (t : Nat) (q : Req)
  /-- The transaction's held writes are discarded. (R413) -/
  | txnAbort (t : Nat) (q : Req)
  /-- A PING keeps the session from idling out. (R464) -/
  | ping (t : Nat) (q : Req)
  /-- A session with no request for the idle timeout is closed. (R403) -/
  | sessionIdleTimeout (t : Nat) (sess : Nat)
  /-- A DOMAIN read snapshot is discarded after 10 s. (R407) -/
  | snapshotExpiry (t : Nat) (sess : Nat)
  /-- No answer to a forwarded request arrives within 500 ms and TIMEOUT is returned. (R408) -/
  | forwardTimeout (t : Nat) (sess : Nat)
  /-- A target's response to a forwarded request reaches the entry device. (R467) -/
  | forwardedResponse (t : Nat) (sess : Nat) (seq : Nat) (status : Status) (data : Bytes) (last : Bool)
  /-- A trust anchor write is mirrored and ends sessions under changed anchors. (R402) -/
  | trustAnchorWrite (t : Nat) (who : Who) (n : Nat) (rec : Bytes)
  /-- A restore factory write clears user calibration values. (R417) -/
  | restoreFactory (t : Nat) (who : Who) (v : Nat)
  /-- The rise of RESET_N runs the cold-start steps to quarantine and forwarding. (R419) -/
  | coldStart (t : Nat) (f : StartFacts)
  /-- RESET_N held low resets every die. (R481) -/
  | resetAssert (t : Nat) (width : Nat)
  /-- VDD_AON falls below 0.74 V for 2 µs and the AON block is held in reset. (R482) -/
  | aonPowerLoss (t : Nat)
  /-- The 32.768 kHz crystal stops and the internal oscillator replaces it. (R484) -/
  | xtalFail (t : Nat)
  /-- Firmware has not set FW_READY within 2 s or its watchdog resets the die. (R424) -/
  | startFailed (t : Nat)
  /-- Update command 1 takes the update lock. (R429) -/
  | updateClaim (t : Nat) (who : Who)
  /-- Update command 2 aborts a RUNNING download or verification. (R430) -/
  | updateAbort (t : Nat) (who : Who)
  /-- Update command 3 starts verification of the inactive slot. (R432) -/
  | updateVerify (t : Nat) (who : Who)
  /-- Verification completes on every die, VERIFIED or REJECTED. (R432) -/
  | verifyDone (t : Nat) (crypto : SMap Nat)
  /-- Update command 4 writes trial markers and restarts the cores on the new image. (R433) -/
  | updateActivate (t : Nat) (who : Who)
  /-- Update command 5 confirms the trial image. (R435) -/
  | updateConfirm (t : Nat) (who : Who)
  /-- Update command 6 releases the update lock. (R429) -/
  | updateRelease (t : Nat) (who : Who)
  /-- An image block is written to the inactive slot of every die. (R431) -/
  | imageBlock (t : Nat) (who : Who) (data : Bytes) (writeOk : Bool)
  /-- 60 s without an update command releases the lock and aborts a download. (R429) -/
  | lockTimeout (t : Nat)
  /-- The trial image's self-checks pass and it confirms itself in mode 0. (R435) -/
  | selfChecksPassed (t : Nat)
  /-- The confirmation window expires and the trial falls back. (R436) -/
  | confirmationWindowExpired (t : Nat)
  /-- The datapath pause tick is reached and every die loads new microcode. (R434) -/
  | datapathPause (t : Nat)
  /-- Recovery command STATUS returns the recovery state. (R428) -/
  | recoveryStatus (t : Nat) (src : Nat) (seq : Nat)
  /-- Recovery command CLAIM takes the recovery lock. (R428) -/
  | recoveryClaim (t : Nat) (src : Nat) (seq : Nat) (tokenOk : Bool)
  /-- Recovery command BLOCK writes image data. (R428) -/
  | recoveryBlock (t : Nat) (src : Nat) (seq : Nat) (off : Nat) (data : Bytes)
  /-- Recovery command VERIFY verifies the image. (R428) -/
  | recoveryVerify (t : Nat) (src : Nat) (seq : Nat) (crypto : Nat)
  /-- Recovery command ACTIVATE writes the trial boot record and restarts. (R428) -/
  | recoveryActivate (t : Nat) (src : Nat) (seq : Nat)
  /-- Recovery command ABORT aborts a running download. (R428) -/
  | recoveryAbort (t : Nat) (src : Nat) (seq : Nat)
  /-- Recovery command CLEAR performs the tamper clear in TAMPER_HOLD. (R428) -/
  | recoveryClear (t : Nat) (src : Nat) (seq : Nat) (nonce : Bytes) (credOk : Bool)
  /-- A voltage monitor crossing of at least 1 µs is counted and logged. (R446) -/
  | voltage (t : Nat) (die : Nat) (monitor : Nat) (mv : Nat) (excess : Bool)
  /-- VDD_CORE or VDD_SRAM stays under threshold for 100 µs and the die fails. (R446) -/
  | underVoltageFatal (t : Nat) (die : Nat) (monitor : Nat)
  /-- A non-zero lane test mode write puts a lane into test. (R447) -/
  | laneTestStart (t : Nat) (who : Who) (lane : Nat) (v : Nat)
  /-- A lane test mode write of 0 ends the test. (R447) -/
  | laneTestStop (t : Nat) (who : Who) (lane : Nat)
  /-- The PRBS checker locks to a matching pattern. (R448) -/
  | prbsLock (t : Nat) (lane : Nat)
  /-- The PRBS checker has no lock for 10 ms. (R448) -/
  | noLock (t : Nat) (lane : Nat)
  /-- The test frame count has been sent and 1 ms has passed. (R448) -/
  | testFramesDone (t : Nat) (lane : Nat)
  /-- A write of eye measure starts a receive eye scan. (R450) -/
  | eyeMeasure (t : Nat) (who : Who) (lane : Nat)
  /-- The eye scan completes and writes its result. (R450) -/
  | eyeScanDone (t : Nat) (lane : Nat) (height : Nat) (width : Nat)
  /-- A Saddle test mode write runs a near-end PRBS loopback on a failed link. (R451) -/
  | saddleTestMode (t : Nat) (who : Who) (die : Nat) (port : Nat) (v : Nat)
  /-- A write of clear counters clears a lane's counters. (R122) -/
  | clearLaneCounters (t : Nat) (who : Who) (lane : Nat)
  /-- A write clears the stream counters of the window's slots. (R146) -/
  | clearStreamCounters (t : Nat) (who : Who)
  /-- A write clears the pass counters of the window's passes. (R203) -/
  | clearPassCounters (t : Nat) (who : Who)
  /-- A write clears every Cirque input and output counter. (R250) -/
  | clearCirqueCounters (t : Nat) (who : Who)
  /-- A write clears the counters of a CAN, LIN, UART, MVB or T1S unit. (R282) -/
  | clearEdgeCounters (t : Nat) (who : Who) (kind : Nat) (unit : Nat)
  /-- A write clears the gateway counters. (R285) -/
  | clearGatewayCounters (t : Nat) (who : Who)
  /-- A write clears every lane's MACsec counters. (R350) -/
  | clearMacsecCounters (t : Nat) (who : Who)
  /-- A write clears the Saddle and bridge counters. (R303) -/
  | clearBridgeCounters (t : Nat) (who : Who)
  /-- A write clears temperature peaks and voltage excursions. (R454) -/
  | clearMonitorRecords (t : Nat) (who : Who)
  /-- VDD_AON and VDDIO_AON come within tolerance, INH_OUT goes high and REG_EN0 to REG_EN4 rise 1.0 to 1.8 ms later. (R481) -/
  | aonPowerUp (t : Nat)
  /-- The PCS gains block lock or synchronisation, setting LOCK and starting the link-up hold-off. (R107) -/
  | lockGained (t : Nat) (lane : Nat)
  /-- The PCS loses lock or synchronisation, or the PHY reports link down, clearing LOCK and starting the loss hold-off. (R107) -/
  | lockLost (t : Nat) (lane : Nat)
  /-- LACP returns a member lane to collecting and distributing, clearing LACP_OUT. (R119) -/
  | lacpCollectingDistributing (t : Nat) (lane : Nat)
  /-- A CAN controller detects a bus error or loses arbitration, updating TEC and REC and, with NO_RETRANSMIT, returning the element with ERROR. (R259) -/
  | canBusError (t : Nat) (unit : Nat) (transmitting : Bool) (arbitration : Bool)
  /-- A UART, LIN or 10BASE-T1S unit finishes sending a message, and sets TX_DONE and the timestamp. (R256) -/
  | txDone (t : Nat) (kind : Nat) (unit : Nat)
  /-- A TPDO inhibit time runs out and a held TPDO may be sent. (R458) -/
  | tpdoInhibitTime (t : Nat) (n : Nat)
  /-- The 1 ms interval between the three WAKE frames of a forwarded wake expires and the next WAKE is sent. (R387) -/
  | wakeFrameRepeat (t : Nat)
  /-- The 100 µs interval between the three COMMIT frames of an initiator expires and the next COMMIT is sent. (R382) -/
  | commitRepeat (t : Nat)
  /-- The credit of a waiting credit-based queue rises to 0 on an idle lane, so its head frame may start. (R163) -/
  | creditReachesZero (t : Nat) (lane : Nat) (tc : Nat) (avail : SMap Nat)
  /-- The Best-effort rate limiter's count rises back to 0 on an idle lane, so a Best-effort frame may start. (R166) -/
  | limiterCountReachesZero (t : Nat) (lane : Nat) (avail : SMap Nat)
  /-- The start of the preemptible band before a window is reached and the hold stops preemptible transmission. (R158) -/
  | setAndHold (t : Nat) (lane : Nat)
  /-- A tamper sensor stops reporting its condition, clearing its bit in sensors active so that a clear may be accepted. (R325) -/
  | tamperConditionEnds (t : Nat) (cls : Nat)
deriving DecidableEq, Repr

end Sys2Proof
end

