-- ==== Sys2Proof/Config.lean ====
section
/-! DEFINITION. What an implementation fixes and what the manual leaves open: constants with no body, so no proof can
see a value of theirs. -/
namespace Sys2Proof.Config

/-- A fresh value that the manual does not state, by the number of the draw (State.freeCtr). -/
opaque freeNat : Nat → Nat

/-- The factory value of a calibration object (R414), by object key. -/
opaque factory : Nat → Int

/-- The bucket, of 3,072, of an address and VID in the forwarding database (R131): the hash is not given. -/
opaque fdbBucket : Nat → Nat

/-- The hash that spreads unclassified frames over the members of a group (R120): the function is not given. -/
opaque lagHash : List Nat → Nat

/-- Hash of a table key into candidate bucket `i` of 4 (R134). -/
opaque tableHash : Bytes → Nat → Nat

/-- SHA-256 of a canonical plan image (R86), of a byte string. -/
opaque sha256 : Bytes → Bytes

/-- A cryptographic result that the manual names by its standard only: the operation (by number), the inputs. -/
opaque crypto : Nat → List Bytes → Bytes

/-- Samples after the sample-rate conversion of R231 (the filters' coefficients are not given): upsampling or not, input
samples. -/
opaque audioConvert : Bool → List Int → List Int

/-- A sample of the emergency tone (R240: how the sine is rounded is not given): tone record, tick, samples a tick, index. -/
opaque toneSample : Bytes → Nat → Nat → Nat → Int

/-- Channels in the packets of an RTP stream (R229: a packet does not carry its channel count), by contract slot. -/
opaque rtpChannels : Nat → Nat

/-- The compiled plan shard of a die (R86: its format is not given), by the rest of the plan image and the die. -/
opaque planShard : Bytes → Nat → Bytes

/-- Bytes of the deltas that a die holds for the fault cases of a generation (R93): not given. -/
opaque deltaBytes : Nat → Nat → Nat

/-- R373, R378: the share of a die's base item that falls to one domain of a supply, in µW: the spec gives the sum over AON, CTRL,
SEC, NVM and TIME alone (domain code, supply code). -/
opaque baseShare : Nat → Nat → Nat

end Sys2Proof.Config
end

