-- ==== Sys2Proof/Machine/Sparse.lean ====
section
/-! DEFINITION. Sparse tables: lookup, write and the one canonical form (keys strictly rising; where a table has
a default, no entry equal to it). -/
namespace Sys2Proof.Machine

/-- The entry at key `k`, if listed. -/
def look {α : Type} : SMap α → Nat → Option α
  | [], _ => none
  | (k', v) :: t, k => if k' = k then some v else look t k

/-- `m` with key `k` listed as `v`, keeping the keys rising. -/
def ins {α : Type} : SMap α → Nat → α → SMap α
  | [], k, v => [(k, v)]
  | (k', v') :: t, k, v =>
    if k < k' then (k, v) :: (k', v') :: t
    else if k' = k then (k, v) :: t
    else (k', v') :: ins t k v

/-- `m` without key `k`. -/
def del {α : Type} (m : SMap α) (k : Nat) : SMap α := m.filter (fun e => e.1 != k)

/-- The value at `k`, the default `d` where unlisted. -/
def get {α : Type} (d : α) (m : SMap α) (k : Nat) : α := (look m k).getD d

/-- Write `v` at `k` in a table whose unlisted keys read as `d`. -/
def put {α : Type} [DecidableEq α] (d : α) (m : SMap α) (k : Nat) (v : α) : SMap α :=
  if v = d then del m k else ins m k v

/-- Rewrite the value at `k` in a table whose unlisted keys read as `d`. -/
def upd {α : Type} [DecidableEq α] (d : α) (m : SMap α) (k : Nat) (f : α → α) : SMap α :=
  put d m k (f (get d m k))

/-- Every listed value rewritten. -/
def mapVals {α : Type} (f : α → α) (m : SMap α) : SMap α := m.map (fun e => (e.1, f e.2))

/-- The listed keys. -/
def keys {α : Type} (m : SMap α) : List Nat := m.map (·.1)

/-- Later entries of `m` written over `base`. -/
def overlay {α : Type} (base m : SMap α) : SMap α := m.foldl (fun b e => ins b e.1 e.2) base

/-- Keys strictly above `lo`, rising. -/
def risingFrom {α : Type} : Nat → SMap α → Bool
  | _, [] => true
  | lo, (k, _) :: t => decide (lo < k) && risingFrom k t

/-- The canonical order: keys strictly rising. -/
def rising {α : Type} : SMap α → Bool
  | [] => true
  | (k, _) :: t => risingFrom k t

/-- No entry holds the default. -/
def noDefault {α : Type} [DecidableEq α] (d : α) (m : SMap α) : Bool := m.all (fun e => decide (e.2 ≠ d))

/-- The canonical form of a table with default `d`. -/
def canonical {α : Type} [DecidableEq α] (d : α) (m : SMap α) : Bool := rising m && noDefault d m

end Sys2Proof.Machine
end

