-- ==== Sys2Proof/Machine/State.lean ====
section
/-! DEFINITION. The machine's state as plain data, and its value right after reset.  Registers that the dictionary
names live in `dict` under their object keys; everything else the manual gives the block has a field of its own. -/
namespace Sys2Proof.Machine

/-- Who raises a fault.  No command of this model ends in one: every event the manual describes has an effect, and an
event on a unit the variant does not hold has none (R2). -/
inductive Fault where
  /-- Raised by no meaning of this model; kept so that the type is inhabited.  Safe: nothing stops. -/
  | none
deriving DecidableEq, Repr

/-- Why a command has no meaning. -/
inductive Refusal where
  /-- Raised by Dispatch alone, for a command not modelled yet.  Safe: nothing is claimed of it. -/
  | notModelled (mnemonic : String)
deriving DecidableEq, Repr

/-- One layer of the dictionary: integers and byte strings by key (`at_ (mux i s) instance`). -/
structure Dict where
  objs : SMap Int := []
  blobs : SMap Bytes := []
deriving DecidableEq, Repr

/-- A dictionary value (R457). -/
inductive Val where
  | num (i : Int)
  | bytes (b : Bytes)
deriving DecidableEq, Repr

/-- A write held for a tick boundary (R6, R412): when it completed, its object key, its value and whether a plan switch
owns the parameter (R167). -/
structure Held where
  time : Nat
  key : Nat
  val : Val
  txn : Option Nat := none           -- the session whose TXN_END holds it (R413)
deriving DecidableEq, Repr

/-- A response of R463 to R466. -/
structure Response where
  status : Status
  data : Bytes
  last : Bool
deriving DecidableEq, Repr

/-- A client session (R403, R407, R413, R328, R349), numbered 0 to 31; number 32 is the SDO session of R409. -/
structure Session where
  role : Role
  secure : Bool
  path : Path
  assoc : Nat
  trust : Option Trust
  forwarded : Bool
  entry : Nat                        -- entry device of a forwarded session
  lastSeq : Option Nat
  stored : Option Response
  executing : Bool
  lastUse : Nat                      -- ns of the last request
  selectors : SMap Int
  txn : Option (List (Nat × Val))    -- held writes, oldest first
  txnBytes : Nat
  pendWrite : Option (Nat × Bytes)   -- key and bytes so far of a DOMAIN write
  snap : Option (Nat × Bytes × Nat)  -- key, value and time of a DOMAIN read snapshot
  nonce : Option Bytes               -- attestation nonce waiting
  statement : Bytes                  -- attestation statement
  job : Option Nat                   -- Speward job waiting: its class
  jobResult : Bytes
deriving DecidableEq, Repr

/-- A request that the entry device forwarded and whose answer is outstanding (R408). -/
structure Forwarded where
  sess : Nat
  seq : Nat
  head : Bytes
  target : Nat
  since : Nat
deriving DecidableEq, Repr

/-- An accepted client chain on an association whose OPEN has not come (R401 to R403). -/
structure Assoc where
  id : Nat
  path : Path
  trust : Trust
deriving DecidableEq, Repr

/-- An event record (R468), with the sequence number it has in its die's log. -/
structure EventRec where
  seq : Nat
  tick : Nat
  code : Nat
  tier : Nat
  aon : Bool
  relayed : Bool
  die : Nat
  unit : Nat
  offset : Nat
  data : Bytes
deriving DecidableEq, Repr

/-- The event log of one die (R439, R440): the general ring and the fault history (oldest first), the events that wait
in management SRAM, the AON retention store, and the counters of R452. -/
structure DieLog where
  general : List EventRec := []
  history : List EventRec := []
  waiting : List EventRec := []
  aonStore : List EventRec := []
  nextSeq : Nat := 0
  overwritten : SMap Nat := []       -- by log area
  dropped : Nat := 0
  bytes : Nat := 0                   -- written to the event-log area since its last full pass (R366)
deriving DecidableEq, Repr

/-- The record of one cluster's restarts (R15, R16): key `8 * die + c`, c 0 to 3 port clusters, 4 and 5 edge clusters. -/
structure ClusterSt where
  restarting : Bool := false
  firstTick : Nat := 0
  count : Nat := 0
deriving DecidableEq, Repr

/-- The package (chapter 1): roles, health, links and faults. -/
structure PkgSt where
  healthy : Nat := 0xFF              -- bit d: die d healthy and in service (masked by the variant)
  failed : List Nat := []            -- dies failed since the last start
  regionFaults : List Nat := []      -- 2 * die + region
  anchorLost : Bool := false
  lead : Nat := 0
  standby : Nat := 1                 -- 0xFF none
  mirrored : Bool := true            -- the standby's mirror is complete (R22, R23)
  serving : Bool := true             -- dictionary service answers (R23)
  stagedLost : Bool := false         -- the new lead restored from its own MRAM mirror (R23)
  cancelOnResume : Bool := false     -- a commit was running on the lost lead (R63)
  addressConflict : Bool := false
  quarantine : Nat := 0xFF           -- bit d: the ports of die d are in quarantine (R390)
  clusters : SMap ClusterSt := []
  linkMiss : SMap (Nat × Nat) := []  -- consecutive missed heartbeats and the last one's time, key 4 * die + port
  linkReports : SMap Nat := []       -- die -> mask of its ports reported failed, being classified
  firstReport : SMap Nat := []       -- die -> ns of the first report
  mirror : Dict := {}                -- dictionary of the last completed commit in MRAM (R22)
  fatalWire : Nat := 0               -- side-band FATAL wires high, bit d
  thermalWire : Nat := 0             -- side-band THERMAL wires high, bit d
  tamperWire : Nat := 0
  wakeWire : Nat := 0
  recoveryDies : Nat := 0            -- dies whose ROM runs the recovery loop (R428)
  tamperHold : Bool := false         -- TAMPER_HOLD (R322)
  pausedTill : Nat := 0              -- ns at which a datapath pause ends (R434)
  planOk : Bool := true              -- the active generation has passed its hash check (R390)
deriving DecidableEq, Repr

/-- Parameters that a plan gives one lane: idle slopes (kbit/s), credit bounds (bits), gate list and cycle, bands (ns). -/
structure LanePlan where
  s5 : Nat := 0
  s6 : Nat := 0
  hi5 : Int := 0
  lo5 : Int := 0
  hi6 : Int := 0
  lo6 : Int := 0
  cycle : Nat := 1
  list : List GateEntry := []
  bands : List Nat := []             -- eight values, class 0 first
deriving DecidableEq, Repr

/-- One fault case of the active generation (R92, R103). -/
structure CaseSt where
  code : Nat
  state : Nat                        -- R92
  shed : Nat
  endpointLost : Nat
  strictShed : Nat
  margin : Int
deriving DecidableEq, Repr

/-- A plan generation: its number, the contracts it makes active, their bounds, the placement, the lane parameters and
the committed objects it brings. -/
structure Plan where
  gen : Nat := 0
  switchTick : Nat := 0
  contracts : SMap Bytes := []       -- slot -> record
  bounds : SMap Nat := []            -- slot -> latency bound, ns
  place : Placement := ⟨[], []⟩
  lanes : SMap LanePlan := []
  dict : Dict := {}                  -- committed C values it changes
  taken : SMap (Option Bytes) := []  -- slots whose staged content it takes (none: staged delete)
  since : List Nat := []             -- slots written after the snapshot it admits (R59)
  deleted : List Nat := []           -- those of them whose last write is a staged delete
  shedOut : List Nat := []           -- SHED slots it makes BROKEN because they do not fit (R97)
  inService : Nat := 0               -- lanes that may carry contract traffic from its switch (R108)
  snapAt : Nat := 0                  -- when that was taken, ns
  reduced : Bool := false            -- planned against a reduced package (R97)
  broken : List Nat := []            -- slots it marks BROKEN
  migration : Bool := false
  cases : List CasePlan := []
  caseSts : List CaseSt := []        -- what its fault cases start with (R92, R103)
deriving DecidableEq, Repr

/-- The snapshot a commit admits (R59). -/
structure Snapshot where
  cmd : Nat                          -- commit command 1, 3 or 4
  sess : Nat
  role : Role
  slots : SMap (Option Bytes)        -- staged slots; none: staged delete
  dict : Dict                        -- staged C objects
  since : List Nat                   -- slots written after it was taken
  deleted : List Nat                 -- those of them whose last write is a staged delete
  inService : Nat                    -- lanes in service when the status became RUNNING (R108)
  snapAt : Nat                       -- when that was, ns
deriving DecidableEq, Repr

/-- An MSRP registration on a lane (R81): slot, lane, and whether the listener is Ready or Ready Failed. -/
structure Listener where
  slot : Nat
  lane : Nat
deriving DecidableEq, Repr

/-- A Talker Advertise the AX8 has propagated: slot and accumulated latency received. -/
structure Talker where
  slot : Nat
  latency : Nat
deriving DecidableEq, Repr

/-- Contracts, plans and fault plans (chapters 3 and 4), beside their objects. -/
structure PlanSt where
  active : Plan := {}
  pending : List Plan := []          -- accepted, waiting for their switch ticks, first to switch first (R63)
  snapshot : Option Snapshot := none -- of the RUNNING commit
  stagedDel : List Nat := []         -- slots with a staged delete
  cases : List CaseSt := []
  faults : List Nat := []            -- R77 codes of the faults in force
  activating : Option (Nat × Nat) := none   -- case being activated, ns of the first report
  reported : Nat := 0                -- dies that have applied the activating delta, bit d
  settling : Option (Nat × Nat) := none     -- case activated but not yet settled, ns of the first report
  urgent : List (Nat × Nat) := []           -- faults without a distributed plan, ns of the first report (R96)
  base : List (Nat × Plan) := []     -- link faults whose plans act, latest first, each with the plan before it (R94)
  since : Nat := 0                   -- when the activation was sent, ns
  derateHot : SMap Nat := []         -- consecutive ticks within 5 °C of the limit, by die
  derateCool : SMap Nat := []        -- consecutive ticks 15 °C below it
  migrateAfter : Bool := false       -- a migration waits for the running commit (R99)
  listeners : List Listener := []
  talkers : List Talker := []
  talkerFailures : Nat := 0          -- Talker Advertises answered with Talker Failed
deriving DecidableEq, Repr

/-- One lane: link timers, queues, shapers, pause and relief (chapters 5 and 7). -/
structure LaneSt where
  upSince : Option Nat := none       -- since when lock and negotiation have held
  lossSince : Option Nat := none     -- since when lock has been lost
  contractOk : Bool := true          -- may carry contract traffic (R108)
  lostAt : Nat := 0                  -- when it last lost signal, ns (R108)
  queues : List QFrame := []         -- every class, oldest first
  sending : Option QFrame := none
  sendStart : Nat := 0               -- when the frame or fragment in progress started, ns
  sendLeft : Nat := 0                -- bytes it had left then
  preLeft : Nat := 0                 -- bytes left of the preempted frame
  preempted : Option QFrame := none
  hold : Bool := false               -- set-and-hold in force (R162)
  gateRunning : Bool := false        -- its gate list runs
  gateStates : Nat := 0x7F
  gateOwner : Nat := 0xFFFF
  gateNext : Nat := 0                -- index of the next entry
  gateRound : Nat := 0               -- cycle number in which the next entry falls
  adminRunning : Bool := false
  adminSince : Nat := 0              -- switch tick of the commit that admitted its administrative list (R159)
  credit5 : Int := 0                 -- bits, scaled by 10^6
  credit6 : Int := 0
  creditTime : Nat := 0
  beCount : Int := 0                 -- Best-effort limiter count, bytes scaled by 8 * 10^6
  beTime : Nat := 0
  beBound : Option Nat := none       -- Summit's bound on the limiter, kbit/s (R375)
  pause : SMap Nat := []             -- priority (8: PAUSE) -> ns at which the timer ends
  xoff : Bool := false               -- an XOFF has been sent (R174)
  xoffTime : Nat := 0
  pauseOut : Option Nat := none      -- quanta of a PAUSE or PFC frame to send
  pausedSince : SMap Nat := []       -- class -> ns at which its pause began
  beSent : SMap Nat := []            -- class -> ns since when it has waited without sending
  reliefCycle : Option Nat := none   -- gate cycle in which a relief frame was sent
  reliefDue : Nat := 0               -- classes that starve (R175)
  verifyTries : Nat := 0             -- preemption verify attempts
  heldBySummit : Bool := false       -- R375
  lacpOut : Bool := false
  quarDiscards : Nat := 0            -- *quarantine discards* (R390)
  assemblyErrors : Nat := 0          -- received fragments below the minimum (R161)
  testMode : Nat := 0                -- lane test in force (R447)
  taps : Nat := 0x3000               -- transmit equaliser in force: [23:16] pre, [15:8] main, [7:0] post-cursor (R126)
deriving DecidableEq, Repr

/-- A transmit chain whose frame waits for its last copy to be sent or dropped (R145). -/
structure TxWait where
  id : Nat
  die : Nat
  ring : Nat
  first : Nat                        -- its first descriptor
  descs : List Bytes                 -- its descriptors, 32 bytes each (R144)
  permitted : Bool                   -- a copy passed the firewall, or it is a contract's
  denied : Bool                      -- a copy was denied
  status : Option Nat                -- settled without a copy: its status
  lane : Nat                         -- lowest lane that sent a copy, 0xFF none
  stamp : Nat                        -- when it did, ns of gPTP domain 0
  away : Nat                         -- copies on Saddle
  since : Nat                        -- when it was injected, ns
deriving DecidableEq, Repr

/-- A FRER recovery function (R139): latest sequence number, history bits and when a frame last passed. -/
structure RecoverySt where
  started : Bool := false
  latest : Nat := 0
  history : Nat := 0
  lastPass : Nat := 0
deriving DecidableEq, Repr

/-- A three-colour meter (R168, R180): tokens in units of 1 / 8,000,000 byte. -/
structure MeterSt where
  cr : Nat
  cb : Nat
  sr : Nat
  sb : Nat
  mode : Nat
  actions : Nat
  ct : Nat
  st : Nat
  time : Nat
  green : Nat
  yellow : Nat
  red : Nat
deriving DecidableEq, Repr

/-- A two-bucket flow shaper (R165, R181): counts in units of 1 / 8,000,000 byte. -/
structure ShaperSt where
  cr : Nat
  cb : Nat
  pr : Nat
  pb : Nat
  cc : Int
  pc : Int
  time : Nat
  lane : Nat
  tc : Nat
  slot : Nat
  fifo : List QFrame
deriving DecidableEq, Repr

/-- Forwarding (chapter 6): the database of each die (key: address * 4096 + VID), FRER, internal frame budgets, meters
(key: die * 65536 + owner) and shapers (key: lane * 8192 + slot). -/
structure FwdSt where
  fdb : SMap (SMap FdbEntry) := []
  frerSeq : SMap Nat := []
  recovery : SMap RecoverySt := []   -- die * 8192 + slot
  budget : SMap (Nat × Nat) := []    -- slot -> (interval number, frames counted)
  meters : SMap MeterSt := []
  shapers : SMap ShaperSt := []
  avail : SMap Nat := []             -- 16 * die + ring -> receive descriptors with OWN at 1 from *next descriptor* on (R117)
  tx : List TxWait := []             -- transmit chains whose frames are on their way, in order (R145)
  txNext : Nat := 1
  txSkip : SMap Nat := []            -- 16 * die + ring -> status for the rest of a rejected chain, up to its LAST (R145)
  draining : List Nat := []          -- disabled transmit rings that still hold chains: 16 * die + ring (R149)
  filtered : Nat := 0                -- frames for their own ingress endpoint (R133)
deriving DecidableEq, Repr

/-- A firewall session (R195, R205). -/
structure Conn where
  pass : Nat
  anchor : Nat
  state : Nat
  v6 : Bool
  src : Nat
  dst : Nat
  proto : Nat
  sport : Nat
  dport : Nat
  rule : Nat
  last : Nat                         -- ns of its last frame
  frames : Nat
  home : Nat
deriving DecidableEq, Repr

/-- A copy that waits in Tarn for a session answer from a remote home (R195). -/
structure WaitingCopy where
  id : Nat
  pkt : Pkt
  len : Nat
  out : Nat                          -- egress endpoint
  lane : Option Nat                  -- egress lane; none: a ring
  zoneOut : Nat
  flooded : Bool
  frame : Nat                        -- the first of this frame's copies that wait
  mirror : Bool                      -- its ingress mirror copies are still to be made (R143)
deriving DecidableEq, Repr

/-- The firewall (chapter 8), beside its objects. -/
structure FwSt where
  conns : List Conn := []
  waiting : List WaitingCopy := []
  nextId : Nat := 0
  logSecond : Nat := 0               -- the second in which the log limit counts
  logCount : Nat := 0
  moving : SMap Nat := []            -- items (8 * pass + die) whose sessions are on the way to a new home: the old one
deriving DecidableEq, Repr


/-- A speculative line copy of the bridge (R298): its window, its line address in the host space, and whether it has been
read. -/
structure LineCopy where
  master : Nat
  window : Nat
  line : Nat
  bytes : Bytes
  since : Nat
  used : Bool
deriving DecidableEq, Repr

/-- An SPI read in progress (R300): where it started, the next address and the words to come, the bytes got, and the Saddle transaction
that fetches the next word. -/
structure SpiJob where
  start : Nat
  addr : Nat
  left : Nat
  got : Bytes
  txn : Option Nat
deriving DecidableEq, Repr

/-- The bridges (chapter 12): transactions, interrupts, the directly mapped registers of R301, and the memories that the
host space shows (cleared to zero when their domain comes up, R356). -/
structure BridgeSt where
  txns : List Txn := []              -- outstanding at their initiators, oldest first
  queued : List Txn := []            -- issued by a host, waiting for one of its master's 8 entries (R291)
  nextId : Nat := 0
  stopped : List Nat := []           -- ports (4 * die + port) that accept no more flits (R290)
  forwarding : SMap (List Txn) := [] -- forwarded requests that hold a credit, by 4 * die + port they came in on
  waiting : SMap (List Txn) := []    -- requests that wait for a forwarding credit
  intPending : SMap Nat := []        -- pending sources by die
  intLines : Nat := 0                -- INT_N lines asserted
  msix : Bool := false               -- MSI-X enabled on the endpoint
  fwReady : Bool := true
  writeRefused : Bool := false       -- WRITE_REFUSED of STATUS
  doorbellIn : Nat := 0
  doorbellOut : Nat := 0
  bridgeFaults : Nat := 0            -- BRIDGE_FAULTS
  lastFaultAddr : Nat := 0
  lastFaultInfo : Nat := 0
  windows : SMap Nat := []           -- WINDOW_CONTROL by window
  fifo : List Nat := []              -- EVENT_FIFO, oldest first
  lines : List LineCopy := []
  timeShadow : SMap Nat := []        -- latched high half of TIME by master (R296)
  spiError : Bool := false           -- LAST_WRITE_ERROR
  spiRead : Option SpiJob := none    -- an SPI read that waits, for earlier writes or for a word from another die
  mailbox : SMap (SMap Byte) := []   -- by die
  edgeRam : SMap (SMap Byte) := []   -- by cluster, 2 * die + cluster
deriving DecidableEq, Repr

/-- A march run (R358 to R361): the die, the memories, the mode, the banks still to do, and what it found. -/
structure MarchRun where
  die : Nat
  memory : Nat
  preserving : Bool
  left : List (Nat × Nat)            -- memory code and bank, in order
  repaired : Bool
  failed : Nat                       -- memory codes with a failed bank
  aborted : Bool
deriving DecidableEq, Repr

/-- The memories (chapter 15), beside their objects. -/
structure MemorySt where
  march : Option MarchRun := none
  spares : SMap Nat := []            -- spare rows in use, by (die * 16 + memory) * 64 + bank
  /-- Table entries lost to an uncorrectable error and not yet reloaded (R355): ns of the loss, by 2^26 * die + entry
  (a slot, or 2^24 + 4096 * pass + rule). -/
  holes : SMap Nat := []
deriving DecidableEq, Repr

/-- A secure association of a channel (R333 to R336, R352).  States: 1 installed, 2 in use, 3 STOPPED. -/
structure Sa where
  channel : Nat
  receive : Bool
  an : Nat
  ki : Nat
  kn : Nat
  pn : Nat
  state : Nat
  stored : Nat
  frames : Nat
  warned : Bool                      -- MACSEC_PN_THRESHOLD raised
  sak : Bytes
deriving DecidableEq, Repr

/-- A high-water record of the journal (R336). -/
structure KiRec where
  die : Nat
  channel : Nat
  ki : Nat
  kn : Nat
  an : Nat
  receive : Bool
  stored : Nat
  running : Bool                     -- its SA runs: the mark is the next PN minus 1
  sak : Bytes
deriving DecidableEq, Repr

/-- A live MKA peer of a channel (R333): its member identifier, message number, priority, SCI, and whether it hears us. -/
structure Peer where
  mi : Nat
  mn : Nat
  prio : Nat
  sci : Nat
  hears : Bool
  since : Nat                        -- ns of its last MKPDU
deriving DecidableEq, Repr

/-- MKA on one channel (R333): this end's member identifier and message number, its peers, and the key number, key
identifier and SAK that this end distributes as key server (key number 0: none). -/
structure MkaSt where
  mi : Nat := 0
  mn : Nat := 0
  peers : List Peer := []
  kn : Nat := 0
  an : Nat := 0
  sak : Bytes := []
deriving DecidableEq, Repr

/-- A look-aside job (R341 to R346): class, descriptor index, descriptor, source bytes, the session of a Speward job, its
home die, when it was taken, the blocks it needs, how far it is (0 waiting, 1 executing, 2 suspended, 3 ended), its latched
key, and once ended its final status, output and IV. -/
structure Job where
  cls : Nat
  index : Nat
  desc : Bytes
  data : Bytes
  sess : Option Nat
  die : Nat
  since : Nat
  blocks : Nat
  run : Nat
  key : Bytes
  status : Nat
  output : Bytes
  secure : Bool
  role : Role
deriving DecidableEq, Repr

/-- An entry of a die's derived-key cache (R343): parent slot, its generation, label, key type and value. -/
structure DerivedKey where
  parent : Nat
  gen : Nat
  label : Bytes
  kty : Nat
  value : Bytes
deriving DecidableEq, Repr

/-- The cipher engines (chapter 14), beside their objects. -/
structure CipherSt where
  sas : List Sa := []
  journal : List KiRec := []         -- oldest first
  mka : SMap MkaSt := []             -- by channel
  jobs : List Job := []              -- taken, in ring order, until their OWN bits are cleared
  next : SMap Nat := []              -- next descriptor by class
  deficit : SMap Nat := []           -- deficit round robin (R345): blocks by class
  last : SMap Nat := []              -- class served last, by die
  counts : SMap (Nat × Nat) := []    -- GCM invocations by slot: count and stored multiple of 2^16 (R342)
  derived : SMap (List DerivedKey) := []  -- derived-key cache by die, newest first (R343)
deriving DecidableEq, Repr

/-- One MRAM copy of a key slot on a die (R316): its generation, phase, record and the value of an imported leaf. -/
structure KeyCopy where
  gen : Nat
  committed : Bool
  record : Bytes
  value : Bytes
deriving DecidableEq, Repr

/-- Cairn (chapter 13), beside its objects. -/
structure CairnSt where
  roots : Nat := 0                   -- dies whose root is present and checked, by bit
  destroyed : Nat := 0               -- dies whose root is zeroized
  blank : Nat := 0xFF                -- dies whose root array is blank
  copies : SMap (List KeyCopy) := [] -- MRAM copies by 1024 * die + slot, newest first, at most two
  leaves : SMap Bytes := []          -- values of imported leaves on the anchor
  cache : SMap Nat := []             -- dies that hold a slot's value in their key cache, by slot
  requests : List (Nat × Nat) := []  -- keys on the way: die and slot (R307)
  marker : Option Nat := none        -- pending-transition marker (R319): the target state
  refuseState : Bool := false        -- a tamper event met the transition: the state will not be written
  released : Bool := false           -- the running service was released from TAMPER_HOLD
  aonCount : Nat := 0                -- the RTC's 32.768 kHz count at the last tamper event in Sleep
  sleepTamper : Bool := false        -- a tamper event came in Sleep (R323)
  early : Bool := false              -- a tamper event came between power-on and step 4 (R322)
deriving DecidableEq, Repr

/-- A message exchange of one lane for the link or path delay (R209): the sequence number and the four times, ns. -/
structure DelaySt where
  seq : Nat := 0
  t1 : Nat := 0
  t2 : Nat := 0
  t3 : Nat := 0
  t4 : Nat := 0
  waiting : Nat := 0                 -- 0 none, 1 response, 2 follow-up
  path : Option Nat := none         -- path delay of a delay request-response instance, ns
  prev3 : Nat := 0                   -- t3 and t4 of the last exchange (neighbour rate ratio)
  prev4 : Nat := 0
deriving DecidableEq, Repr

/-- A time instance (R206, R209 to R212): clock `base` at local time `ref` advancing at 1 + ppb / 10^9. -/
structure InstSt where
  base : Nat := 0
  ref : Nat := 0
  ppb : Int := 0
  good : Nat := 0                    -- consecutive Syncs within the lock threshold
  everLocked : Bool := false
  announces : SMap Bytes := []       -- last Announce by lane
  announceTime : SMap Nat := []
  syncTime : SMap Nat := []
  twoStep : SMap (Nat × Nat × Nat) := []   -- Sync waiting for its Follow_Up, by lane: sequence, local time, correction
  syncs : Option (Nat × Nat) := none -- origin and arrival (instance clock, ns) of the last Sync
  seqs : SMap Nat := []              -- sequence numbers sent, by 16 * lane + message type
  delay : SMap DelaySt := []
  intervals : SMap (Int × Int × Int) := []  -- by lane: link delay, sync, announce logs asked by Signaling
  holdSince : Nat := 0
  refGood : Nat := 0                 -- consecutive reference edges within the lock threshold
  refLast : Nat := 0
  discarded : Nat := 0               -- PTP management messages
  gmAt : Nat := 0                    -- local time of the last change of grandmaster
  relaysDropped : Nat := 0           -- relayed Syncs of an old grandmaster (R216)
deriving DecidableEq, Repr

/-- A pulse output (R218, R219): its running program, a new program and when it was written, the next edge's k, and the
instance time at which the pulse in progress ends. -/
structure PulseSt where
  prog : Bytes := []
  next : Option (Bytes × Nat) := none
  k : Nat := 0
  ends : Option Nat := none
  fired : Bool := false
deriving DecidableEq, Repr

/-- A capture input (R220): its records and the number of edges detected. -/
structure CaptureSt where
  records : List Bytes := []
  seq : Nat := 0
deriving DecidableEq, Repr

/-- Network time (chapter 9), beside its objects. -/
structure TimeSt where
  inst : SMap InstSt := []
  pulses : SMap PulseSt := []        -- 4 * die + output
  captures : SMap CaptureSt := []    -- 2 * die + input
  misaligned : SMap Nat := []        -- consecutive heartbeats beyond 2 ns, by die (R207)
  trim : Int := 0                    -- effective oscillator trim in force, ppb (R226)
  trimRaw : Nat := 0                 -- when it took force: by the untrimmed oscillator, ns
  trimLocal : Int := 0               -- and by the local time base, ns
deriving DecidableEq, Repr

/-- A Cirque input on an instance (R230): state 0 UNUSED to 3 PLAYING, its jitter buffer (oldest first), the last sequence
number, SSRC, ticks for which its last loud sample still makes it present, and its counters. -/
structure InputSt where
  state : Nat := 1
  buf : List Int := []
  seq : Option Nat := none
  ssrc : Option Nat := none
  fadeIn : Bool := false
  hang : Nat := 0
  present : Bool := false
  ducked : Bool := false
  underruns : Nat := 0
  slips : Nat := 0
  lost : Nat := 0
  formatErrors : Nat := 0
  hist : List Int := []              -- the last 250 µs handed over, which a converter still reads (R231)
deriving DecidableEq, Repr

/-- A Cirque output (R235, R251). -/
structure OutputSt where
  die : Nat := 0xFF
  last : Int := 0
  silent : Bool := false
  faded : Bool := false
  live : Bool := false
  clips : Nat := 0
  peak : Nat := 0
  gains : SMap Nat := []             -- coefficient of each source in the last tick
deriving DecidableEq, Repr

/-- A duck factor on its way (R237): its value, where its rise began, its target, and the ticks it has risen. -/
structure DuckSt where
  val : Int := 16384
  start : Int := 16384
  target : Int := 16384
  ticks : Nat := 0
deriving DecidableEq, Repr

/-- A zone (R237, R243): its duck factors by source, and its announcement player with a fade-out in progress. -/
structure ZoneSt where
  die : Nat := 0xFF
  ducks : SMap DuckSt := []
  player : Option Nat := none
  fading : Option Nat := none
  gain : Option Nat := none          -- the announcement gain of the last tick (R235)
deriving DecidableEq, Repr

/-- The announcement matrix (chapter 10), beside its objects. -/
structure AudioSt where
  inputs : SMap InputSt := []        -- 1024 * die + channel
  outputs : SMap OutputSt := []
  zones : SMap ZoneSt := []
  begun : List Nat := []             -- announcement slots whose players have begun
  rowsEmergency : Bool := false      -- emergency rows are in force
  emgAct : Bool := false             -- the EMG_ACT ball
  handover : Bool := false           -- inputs go to both instances (R246)
  slipTick : SMap Nat := []          -- the tick in which a TDM unit last counted a slip (R232)
  overOut : List Nat := []           -- outputs whose tick is an overrun after a memory error (R355)
deriving DecidableEq, Repr

/-- A CAN frame that waits for the bus: who offers it (0 gateway slot of a message, 1 the node, 2 a buffer) and its number. -/
structure CanTx where
  owner : Nat
  num : Nat
  frame : CanFrame
deriving DecidableEq, Repr

/-- A CAN controller (R257 to R259): frames waiting, error counters, FIFO positions, recovery in progress. -/
structure CanSt where
  pending : List CanTx := []
  tec : Nat := 0
  rec_ : Nat := 0
  fifo0 : Nat := 0
  fifo1 : Nat := 0
  recovering : Bool := false
deriving DecidableEq, Repr

/-- A LIN controller (R260): schedule position, tick of the next header, the identifier whose response is awaited, the one being
answered, the ring position, and response data by identifier. -/
structure LinSt where
  pos : Nat := 0
  due : Nat := 0
  header : Option Nat := none
  sending : Option Nat := none
  ring : Nat := 0
  slots : SMap Bytes := []
deriving DecidableEq, Repr

/-- A UART, or a 10BASE-T1S MAC (R261, R263): ring position, gateway messages waiting (message number and bytes), host
elements waiting (offsets in the message RAM). -/
structure SerialSt where
  ring : Nat := 0
  slots : List (Nat × Bytes) := []
  waiting : List Nat := []
deriving DecidableEq, Repr

/-- An MVB port of the traffic store (R262): data and the gPTP time of the last valid update, 0 none. -/
structure MvbPort where
  data : Bytes := []
  ts : Nat := 0
deriving DecidableEq, Repr

/-- A gateway cell (R270): value, origin time, SOURCE_STALE, and whether it waits unsent. -/
structure CellSt where
  value : Nat
  origin : Nat
  srcStale : Bool
  unsent : Bool
  overwritten : Bool := false
deriving DecidableEq, Repr

/-- A message's status (R286). -/
structure MsgSt where
  count : Nat := 0
  errors : Nat := 0
  short : Nat := 0
  ts : Nat := 0
deriving DecidableEq, Repr

/-- A mapping's status (R286). -/
structure MapSt where
  stale : Bool := false
  noValue : Bool := true
  age : Nat := 0
  overwritten : Nat := 0
  last : Nat := 0
deriving DecidableEq, Repr

/-- The CANopen node (R264, R265, R409, R458 to R460), beside its objects. -/
structure NodeSt where
  running : Bool := false
  rpdoHeld : SMap Bytes := []        -- synchronous RPDOs waiting for SYNC
  rpdoLast : SMap Nat := []          -- ns of the last receipt
  tpdoLast : SMap Nat := []          -- ns of the last transmission
  tpdoSyncs : SMap Nat := []         -- SYNCs since the last transmission of a synchronous TPDO
  tpdoHeld : List Nat := []          -- TPDOs held by their inhibit time
  tpdoData : SMap Bytes := []        -- data last sent
  syncStarted : List Nat := []       -- TPDOs whose SYNC start value has come
  hbLast : SMap Nat := []            -- ns of the last heartbeat by consumer entry
  hbLost : Bool := false             -- a consumer has timed out since Operational
  toggle : Bool := false
  /-- The SDO transfer: 0 none, 1 segmented download, 2 segmented upload, 3 block download, 4 its end awaited, 5 block upload
  to start, 6 its blocks, 7 its end awaited. -/
  sdoPhase : Nat := 0
  sdoKey : Nat := 0                  -- object of the running transfer
  sdoBytes : Bytes := []             -- the whole value of an upload, or the bytes so far of a download
  sdoPos : Nat := 0                  -- bytes of an upload already acknowledged
  sdoBlock : Nat := 0                -- block size in use
  sdoSeq : Nat := 0                  -- segments taken of the current block
  sdoCrc : Bool := false
  sdoRole : Role := .operator
  sdoLast : Nat := 0
deriving DecidableEq, Repr

/-- Edge units and the gateway (chapter 11), beside their objects and the message RAMs. -/
structure EdgeSt where
  can : SMap CanSt := []             -- 4 * die + unit
  lin : SMap LinSt := []             -- 2 * die + unit
  uart : SMap SerialSt := []         -- 2 * die + unit
  t1s : SMap SerialSt := []          -- die
  mvb : SMap MvbPort := []           -- 4096 * die + address
  cells : SMap CellSt := []          -- by mapping; unlisted: NO_VALUE
  msgs : SMap MsgSt := []
  maps : SMap MapSt := []
  node : NodeSt := {}
deriving DecidableEq, Repr

/-- Every counter of the package as it stood at one boundary (R35): the counter objects, and the records that hold the counters of
meters, Cirque channels, messages and mappings, and of each die's log its records overwritten and dropped. -/
structure CounterSet where
  dict : Dict := {}
  meters : SMap MeterSt := []
  inputs : SMap InputSt := []
  outputs : SMap OutputSt := []
  msgs : SMap MsgSt := []
  maps : SMap MapSt := []
  lost : SMap (SMap Nat × Nat) := []
deriving DecidableEq, Repr

/-- The access layer (chapter 17). -/
structure AccessSt where
  sessions : SMap Session := []
  assocs : List Assoc := []
  forwarded : List Forwarded := []
  /-- Device-to-device DTLS sessions held: the ns of the last use, by target address (R408). -/
  devSessions : SMap Nat := []
  conflicts : List Nat := []         -- other addresses known to be in conflict (R408)
  txnSnaps : SMap CounterSet := []   -- the snapshot that an open transaction reads, by session (R444)
deriving DecidableEq, Repr

/-- The tick unit (chapter 2), beside its objects. -/
structure TickSt where
  start : Nat := 0                   -- nominal local time of the last boundary, ns
  lockPending : Bool := false        -- first lock declared, step not yet taken (R42)
  stretch : Option Nat := none       -- number of the aligned tick the running stretch tick ends with
  holdSince : Nat := 0               -- when HOLD was entered, for the lock hold timeout
  runs : SMap Nat := []              -- consecutive overruns, key 8 * die + resource (R48)
  excess : List Nat := []              -- resources that do not finish the running tick (R47), 8 * die + resource
  again : Bool := false              -- a re-align has been requested in the running stretch tick (R44)
  lost : Bool := false               -- the grandmaster is gone: the running stretch tick ends in HOLDOVER (R45)
  snapshot : CounterSet := {}              -- counters at the last complete snapshot (R35, R444)
  latched : CounterSet := {}               -- counters latched at the last boundary, being copied out
deriving DecidableEq, Repr

/-- A consent-ring round as a device sees it (R381 to R384): its initiator and start tick, and the commit tick once COMMIT has
come; `cancelled` after a CANCEL before the commit tick. -/
structure RoundSt where
  initiator : Nat
  start : Nat
  since : Nat                        -- ns at which this device first saw it
  commit : Option Nat := none
  cancelled : Bool := false
deriving DecidableEq, Repr

/-- A TOKEN sent and not yet seen from its successor (R381). -/
structure TokenOut where
  frame : Bytes
  successor : Nat
  sent : Nat                         -- ns
deriving DecidableEq, Repr

/-- A board rail at Summit (R375, R377): consecutive unanswered reads, PMBUS_LOST, the ratios of the rotation, its factor in
thousandths, the measured current and the fault and budget flags. -/
structure RailSt where
  misses : Nat := 0
  lost : Bool := false
  factor : Nat := 1000
  current : Nat := 0
  fault : Bool := false
  excess : Bool := false
deriving DecidableEq, Repr

/-- One move of one lever that Summit has decided (R375): a look-aside grant, a Best-effort lever, a lane held, a lane released. -/
inductive LeverMove where
  | grant (moves : List (Nat × Nat))
  | be (moves : List (Nat × Nat))
  | hold (lane : Nat)
  | free
deriving DecidableEq, Repr

/-- One domain's rise in a staging of domains (R378): its die, its code of R368, and the ns of its start and of the end of its
ramps, counted from the start of the staging. -/
structure Ramp where
  die : Nat
  dom : Nat
  start : Nat
  stop : Nat
deriving DecidableEq, Repr

/-- Power, sleep and wake (chapter 16), beside their objects. -/
structure PowerSt where
  round : Option RoundSt := none
  token : Option TokenOut := none
  relayed : List (Nat × Nat × Nat × Nat × Nat) := []  -- type, origin, target, round tick, ns: frames relayed in the last second
  commits : Nat := 0                 -- COMMIT frames still to send
  wakes : Nat := 0                   -- WAKE frames still to send, of a forwarded wake
  wakeSource : Option Nat := none    -- the lane a forwarded wake omits
  wakeOnCommit : Bool := false       -- a cancelling member also sends WAKE at the commit tick (R383)
  wakeAt : Option Nat := none        -- ns of the last wake, until its first valid traffic (R389)
  wakeCause : Nat := 0               -- cause of that wake
  forwardOn : Option Nat := none     -- an activity wake forwards after this unit's first valid message (R385)
  wakeFrames : Nat := 0              -- WAKE frames received while Active (R387)
  leverBe : SMap Nat := []           -- Best-effort lever by lane: k of line rate × k / 64; unlisted 64
  held : List Nat := []              -- lanes held by Summit, last held first
  move : Option LeverMove := none    -- decided in this tick's Prepare phase, in force from the next boundary (R34)
  poRun : Nat := 0                   -- consecutive ticks over budget with every lever at its floor
  coolRun : Nat := 0                 -- consecutive ticks below 90 % of the cap
  raised : SMap Nat := []            -- derate levels that Summit has raised, by die
  rails : SMap RailSt := []
  nextRail : Nat := 0
  drainSince : Nat := 0              -- ns at which a detach began to drain
  stage : List Ramp := []            -- the last staging of domains (R378)
  stageAt : Option Nat := none       -- ns at which it began, while it prepares a pending switch (R369)
deriving DecidableEq, Repr

/-- A die's boot record (R424). -/
structure BootRec where
  gen : Nat := 0
  confirmed : Nat := 0
  trial : Nat := 0xFF
  trialStarts : Nat := 0
  failedStarts : Nat := 0
  counter : Nat := 0
  slotA : Nat := 0
  slotB : Nat := 0
  flags : Nat := 0
deriving DecidableEq, Repr

/-- Firmware update, start and recovery (chapter 18), beside their objects: the boot record of each die, the images in the two
slots, the update lock, and the trial. -/
structure UpdateSt where
  boot : SMap BootRec := []
  images : SMap Bytes := []          -- by 2 * die + slot (0 A, 1 B)
  holder : Option Nat := none        -- session that holds the lock
  lastCmd : Nat := 0                 -- ns of the holder's last command or block
  verifying : Bool := false
  running : Nat := 0                 -- slot that runs
  trialSince : Option Nat := none    -- ns of the activation of a running trial
  checked : Bool := false            -- the trial image's self-checks have passed
  atActivation : Nat := 0            -- dies healthy at activation
  linksAt : List Nat := []           -- Saddle ports in service at activation
  oldMicrocode : Bytes := []         -- microcode hash of the image before
  readmit : Bool := false            -- a re-admission of the committed contracts is running (R420, R434)
  warm : Bool := false               -- it follows an activation or a fallback, not a cold start (R434, R436)
  readmitFailed : Bool := false
  recLock : Option Nat := none       -- holder of the recovery lock: its source
  recBytes : Nat := 0
  recSlot : Nat := 0
  recState : Nat := 0                -- update status of the recovery protocol (R428, R430)
  recLast : Option (Nat × Bytes) := none   -- last sequence number answered and its response
  startAt : Nat := 0                 -- ns of the end of step 7 of the last cold start
  ready : Bool := false              -- firmware has been started
  start : Option StartFacts := none  -- a cold start that TAMPER_HOLD stopped
  planFormat : Nat := 0              -- planner format version of the stored shard
  planPeriod : Nat := 1              -- tick period code of the stored shard
  hostSel : Nat := 3                 -- strap HOST_SEL: bit 0 SPI, bit 1 PCIe
deriving DecidableEq, Repr

/-- Lane tests, eye scans and Saddle tests in progress (chapter 19). -/
structure DiagSt where
  hot : SMap Nat := []               -- consecutive readings by 8 * die + sensor at or above 140 °C
  cool : SMap Nat := []              -- consecutive readings 2 °C below the entry point, by 16 * die + 2 * sensor + flag
  voltLog : SMap Nat := []           -- ns of the last VOLTAGE record by 8 * die + 2 * monitor + direction
  testSince : SMap Nat := []         -- ns at which a lane's test began
  eyes : List Nat := []              -- lanes with an eye scan running
  saddleTests : SMap Nat := []       -- test mode by 4 * die + port
  framesSent : SMap Nat := []
deriving DecidableEq, Repr
/-- What the block put on its wires while it ran the last command: every command starts with none. -/
inductive Out where
  /-- A frame starts on a lane. -/
  | frame (lane : Nat) (f : QFrame)
  /-- A preempted frame resumes on a lane. -/
  | resume (lane : Nat) (f : QFrame)
  /-- A PAUSE (or PFC) frame of so many quanta starts on a lane (R174). -/
  | pause (lane : Nat) (pfc : Bool) (quanta : Nat)
  /-- A frame leaves over Saddle towards a die: its 32-byte header (R141) and what it stands for. -/
  | saddle (die : Nat) (header : Bytes) (m : SaddleFrame)
  /-- A learned entry goes to a die (R131). -/
  | fdb (die : Nat) (key : Nat) (e : FdbEntry)
  /-- Receive descriptors returned (R116): die, ring, first descriptor; the byte count, flags and error flags of each, none where
  only OWN is cleared; source, timestamp, slot, and the bytes stored. -/
  | ring (die ring first : Nat) (descs : List (Option (Nat × Nat × Nat))) (source ts slot : Nat) (bytes : Bytes)
  /-- Transmit descriptors returned (R145): die, ring, the first, and the 32 bytes of each as written back. -/
  | txReturn (die ring first : Nat) (descs : List Bytes)
  /-- A heartbeat with its time-transfer word on a link (R24, R207). -/
  | heartbeat (die port : Nat) (time : Nat)
  /-- An activation sent to a die (R95). -/
  | activation (die : Nat) (code : Nat)
  /-- A Talker Advertise propagated on a lane with its accumulated latency (R81). -/
  | advertise (lane : Nat) (slot : Nat) (latency : Nat)
  /-- A Talker Failed answered on a lane: stream and failure code (R81). -/
  | talkerFailed (lane : Nat) (stream : Bytes) (code : Nat)
  /-- A session lookup sent to a remote home (R195): copy, home die. -/
  | sessionQuery (id : Nat) (home : Nat)
  /-- A response to a request (R463): session, sequence number, response. -/
  | response (who : Who) (r : Response)
  /-- A transaction request sent to the next die (R291). -/
  | request (die : Nat) (x : Txn)
  /-- A transaction completion for an initiator: die, transaction, status, data (R291). -/
  | completion (die id status value : Nat)
  /-- A message on another port, named by the operand of the row that sends it. -/
  | message (port : String) (unit : Nat) (bytes : Bytes)
deriving DecidableEq, Repr

/-- The whole block. -/
structure State where
  /-- The commands that wait, first in, first out. -/
  pending : List Instr := []
  /-- The model's own counter of free values drawn (Config.freeNat). -/
  freeCtr : Nat := 0
  /-- Time of the last command, ns. -/
  now : Nat := 0
  /-- Populated dies: 2, 4 or 8 (R1). -/
  variant : Nat := 8
  out : List Out := []
  /-- Objects in force. -/
  dict : Dict := {}
  /-- Staged values of C objects (R411). -/
  staged : Dict := {}
  /-- Values held for a tick boundary (R6, R413), oldest first. -/
  held : List Held := []
  /-- Stored values of S objects, in force from the next start (R6). -/
  stored : Dict := {}
  access : AccessSt := {}
  logs : SMap DieLog := []
  pkg : PkgSt := {}
  tick : TickSt := {}
  plan : PlanSt := {}
  lanes : SMap LaneSt := []
  fwd : FwdSt := {}
  fw : FwSt := {}
  bridge : BridgeSt := {}
  mem : MemorySt := {}
  cairn : CairnSt := {}
  cipher : CipherSt := {}
  time : TimeSt := {}
  audio : AudioSt := {}
  edge : EdgeSt := {}
  power : PowerSt := {}
  update : UpdateSt := {}
  diag : DiagSt := {}
deriving DecidableEq, Repr

/-- The machine right after reset: every object at its default (nothing listed), nothing queued, an AX8-8. -/
def State.reset : State := {}

end Sys2Proof.Machine
end

