-- ==== Sys2Proof/Machine/Ops.lean ====
section
/-! DEFINITION. The named operations over the dictionary, the package's roles, the tick and the event log that every
command's meaning uses. -/
namespace Sys2Proof.Machine

open Sys2Proof

/-! ### The variant (R1, R4) -/

/-- Lanes the variant holds (R1, R4). -/
def State.laneCount (s : State) : Nat := 8 * s.variant

/-- Is die `d` populated (R1)? -/
def State.hasDie (s : State) (d : Nat) : Bool := decide (d < s.variant)

/-- Is global lane `n` present (R4)? -/
def State.hasLane (s : State) (n : Nat) : Bool := decide (n < s.laneCount)

/-- Dies the package holds, lowest first. -/
def State.dies (s : State) : List Nat := List.range s.variant

/-- The die of a global lane (R4). -/
def dieOfLane (n : Nat) : Nat := n / 8

/-- The region of a global lane, as `2 * die + region` (R4). -/
def regionOfLane (n : Nat) : Nat := n / 4

/-- Bits of the populated dies. -/
def State.dieMask (s : State) : Nat := 2 ^ s.variant - 1

/-- Bits of the populated lanes. -/
def State.laneMask (s : State) : Nat := 2 ^ s.laneCount - 1

/-- Is die `d` healthy and in service (R20, R21)? -/
def State.dieUp (s : State) (d : Nat) : Bool :=
  s.hasDie d && bit s.pkg.healthy d && !s.pkg.failed.contains d

/-- Is region `r` (`2 * die + region`) in service (R19)? -/
def State.regionUp (s : State) (r : Nat) : Bool := s.dieUp (r / 2) && !s.pkg.regionFaults.contains r

/-- Is the cluster of a lane restarting (R15)? -/
def State.laneRestarting (s : State) (n : Nat) : Bool := (get {} s.pkg.clusters (8 * (n / 8) + n % 8 / 2)).restarting

/-- Does the element that a lane lies in stand: its die and region have not failed and its cluster does not restart (R15, R19, R20)? -/
def State.laneStands (s : State) (n : Nat) : Bool := s.regionUp (n / 4) && !s.laneRestarting n

/-- The healthy dies, lowest first. -/
def State.upDies (s : State) : List Nat := s.dies.filter s.dieUp

/-! ### The dictionary -/

/-- The maximum of *power cap* by variant (R372), in mW. -/
def maxPowerCap (dies : Nat) : Nat := 13000 * dies + 2000

/-- The default COB-ID of a PDO (R460). -/
def dfltCobId (base node n : Nat) : Int :=
  if n < 4 then ((0x80000000 + base + 0x100 * n + node : Nat) : Int) else (0x80000000 : Nat)

/-- The default of an integer object where no table gives a plain number: these follow the variant, the instance or the
node-ID. -/
def specialDflt (dies node m : Nat) : Option Int :=
  let idx := m / 256
  let sub := m % 256
  if 0x2110 ≤ idx ∧ idx ≤ 0x2113 ∧ sub = 3 then some ((idx - 0x2110 : Nat) : Int)
  else if m = O.instanceEnable then some 1
  else if m = O.stepThreshold then some 0
  else if m = O.memberLanes then some ((2 ^ (8 * dies) - 1 : Nat) : Int)
  else if m = O.zoneFlags then some 1
  else if m = O.wakeForwardLanes ∨ m = O.ringLanes then some ((2 ^ (8 * dies) - 1 : Nat) : Int)
  else if m = O.powerCap then some ((maxPowerCap dies : Nat) : Int)
  else if m = O.variant then some ((dies : Nat) : Int)
  else if m = O.populatedDies then some ((2 ^ dies - 1 : Nat) : Int)
  else if m = O.productCode then some ((0x41580000 + dies : Nat) : Int)
  else if m = O.pcieIdentifiers then some (((0x0A80 + dies) * 65536 + 0x1DA8 : Nat) : Int)
  else if m = O.cobIDClientToServer then some ((0x600 + node : Nat) : Int)
  else if m = O.cobIDServerToClient then some ((0x580 + node : Nat) : Int)
  else if 0x1400 ≤ idx ∧ idx ≤ 0x143F ∧ sub = 1 then some (dfltCobId 0x200 node (idx - 0x1400))
  else if 0x1800 ≤ idx ∧ idx ≤ 0x183F ∧ sub = 1 then some (dfltCobId 0x180 node (idx - 0x1800))
  else none

/-- The default of an integer object by key. -/
def dfltInt (dies node k : Nat) : Int :=
  let m := muxOf k
  match specialDflt dies node m with
  | some v => v
  | none =>
    match objRow (m / 256) (m % 256) with
    | some r => r.dflt
    | none => 0

/-- The node-ID in force (R283). -/
def State.nodeId (s : State) : Nat := ((look s.dict.objs O.nodeID).getD 127).toNat

/-- The value of an integer object in force. -/
def State.o (s : State) (k : Nat) : Int := (look s.dict.objs k).getD (dfltInt s.variant s.nodeId k)

/-- The value of an unsigned object in force. -/
def State.n (s : State) (k : Nat) : Nat := (s.o k).toNat

/-- Write an integer object. -/
def State.setO (s : State) (k : Nat) (v : Int) : State :=
  { s with dict := { s.dict with objs := ins s.dict.objs k v } }

/-- Write an unsigned object. -/
def State.setN (s : State) (k v : Nat) : State := s.setO k ((v : Nat) : Int)

/-- Add to a counter that holds at `hi` (R457). -/
def State.addTo (s : State) (k n hi : Nat) : State := s.setN k (satN hi (s.n k + n))

/-- Count one event in an UNSIGNED32 counter. -/
def State.inc32 (s : State) (k : Nat) : State := s.addTo k 1 (2 ^ 32 - 1)

/-- Count one event in an UNSIGNED64 counter. -/
def State.inc64 (s : State) (k : Nat) : State := s.addTo k 1 (2 ^ 64 - 1)

/-- Set or clear one bit of a status object. -/
def State.setFlag (s : State) (k i : Nat) (b : Bool) : State := s.setN k (setBit (s.n k) i b)

/-- One bit of a status object. -/
def State.flag (s : State) (k i : Nat) : Bool := bit (s.n k) i

/-- Every listed object among `ks` written 0. -/
def State.clearAll (s : State) (ks : List Nat) : State := ks.foldl (fun s k => s.setN k 0) s

/-- Default of a DOMAIN or string, by key. -/
def dfltBlob (dies k : Nat) : Bytes :=
  let m := muxOf k
  let i := itemOf k
  if O.guardBandOverride ≤ m ∧ m < O.guardBandOverride + 64 then fill 32 0xFF
  else if m = O.vlanZones then fill 4096 0xFF
  else if m = O.emergencyTone then leBytes 2 988 ++ leBytes 2 784 ++ leBytes 2 500 ++ leBytes 2 8192
  else if m = O.vlanRecords then
    leBytes 2 i ++ fill 2 0 ++
      (if i = 1 then leBytes 8 (2 ^ (8 * dies) - 1) ++ leBytes 8 (2 ^ (8 * dies) - 1) else fill 16 0)
  else if m = O.passRecords then leBytes 2 i ++ fill 30 0
  else if m = O.ruleRecords then leBytes 2 (i % 4096) ++ fill 142 0
  else if m = O.outputRecords then leBytes 2 i ++ fill 2 0xFF ++ fill 164 0
  else if m = O.mappingRecords then leBytes 2 i ++ fill 2 0xFF ++ fill 28 0
  else if m = O.messageRecords then leBytes 2 i ++ fill 46 0
  else if m = O.inputRecords then leBytes 2 i ++ fill 2 0xFF ++ fill 3 0 ++ [1] ++ fill 8 0
  else if m = O.railRecords then leBytes 1 i ++ [0xFF] ++ fill 10 0 ++ leBytes 4 200 ++ fill 8 0
  else if m = O.cairnSlotRecords then leBytes 2 i ++ fill 46 0
  else if m = O.manufacturerDeviceName then
    [0x41, 0x58, 0x38, 0x2D] ++ [BitVec.ofNat 8 (0x30 + dies)]
  else
    match objRow (m / 256) (m % 256) with
    | some r =>
      match r.ty with
      | .dom lo hi => if lo = hi then fill lo 0 else []
      | .oct len => fill len 0
      | .win _ _ size => fill size 0
      | _ => []
    | none => []

/-- The bytes of a DOMAIN, a string or a record in force. -/
def State.blob (s : State) (k : Nat) : Bytes := (look s.dict.blobs k).getD (dfltBlob s.variant k)

/-- Write a DOMAIN, a string or a record. -/
def State.setBlob (s : State) (k : Nat) (b : Bytes) : State :=
  { s with dict := { s.dict with blobs := ins s.dict.blobs k b } }

/-- Write a value of either kind in force. -/
def State.setVal (s : State) (k : Nat) : Val → State
  | .num v => s.setO k v
  | .bytes b => s.setBlob k b

/-- Write a value into a layer. -/
def Dict.setVal (d : Dict) (k : Nat) : Val → Dict
  | .num v => { d with objs := ins d.objs k v }
  | .bytes b => { d with blobs := ins d.blobs k b }

/-- The listed values of `top` written over `base`. -/
def Dict.excess (base top : Dict) : Dict :=
  { objs := overlay base.objs top.objs, blobs := overlay base.blobs top.blobs }

/-- Every listed value of a layer that another layer repeats exactly, removed: what was staged since a snapshot stays. -/
def Dict.minus (d taken : Dict) : Dict :=
  { objs := d.objs.filter (fun e => look taken.objs e.1 != some e.2),
    blobs := d.blobs.filter (fun e => look taken.blobs e.1 != some e.2) }

/-- The committed value of an integer object as a plan about to switch would leave it. -/
def Dict.oOr (d : Dict) (s : State) (k : Nat) : Int := (look d.objs k).getD (s.o k)

/-! ### Free values -/

/-- A value the manual does not state; the next draw differs. -/
def State.free (s : State) : Nat := Config.freeNat s.freeCtr

/-- One free value has been drawn. -/
def State.drawn (s : State) : State := { s with freeCtr := s.freeCtr + 1 }

/-! ### Time -/

/-- The local time in ns when the untrimmed oscillator has run `t` ns: the trim in force sets the rate since it took force
(R226). -/
def State.localAt (s : State) (t : Nat) : Nat :=
  (s.time.trimLocal + ((t : Int) - s.time.trimRaw) * (1000000000 + s.time.trim) / 1000000000).toNat

/-- The command arrives, `t` ns into the untrimmed oscillator's run: the local clock stands at that time, and nothing is on the
wires yet. -/
def State.begin (t : Nat) (s : State) : State := { s with now := s.localAt t, out := [] }

/-- Put something on the wires. -/
def State.emit (s : State) (o : Out) : State := { s with out := s.out ++ [o] }

/-- The tick period of a code, in ns (R30, R50). -/
def periodOf : Nat → Nat
  | 0 => 62500 | 1 => 125000 | 2 => 250000 | 3 => 500000 | _ => 1000000

/-- The tick period in force, in ns (R30). -/
def State.period (s : State) : Nat := periodOf (s.n O.tickPeriodCode)

/-- The number of the tick in progress (R31). -/
def State.tickNo (s : State) : Nat := s.n O.tickNumber

/-- Time since the last tick boundary, ns. -/
def State.phase (s : State) : Nat := s.now - s.tick.start

/-! ### The event log (R439 to R443, R468 to R470) -/

/-- An event's code and tier. -/
structure Ev where
  code : Nat
  tier : Nat
deriving DecidableEq, Repr

/-- Data items of an event, each with its width in bytes, packed from offset 0x14 (R469). -/
def evData (l : List (Nat × Nat)) : Bytes :=
  let b := l.flatMap (fun e => leBytes e.1 e.2)
  (b ++ fill 12 0).take 12

/-- A record as stored (R468). -/
def EventRec.bytes (e : EventRec) : Bytes :=
  leBytes 4 e.seq ++ leBytes 8 e.tick ++ leBytes 2 e.code ++
  leBytes 1 (e.tier + 8 * b2n e.relayed + 16 * b2n e.aon) ++ leBytes 1 e.die ++ leBytes 2 e.unit ++
  leBytes 2 e.offset ++ e.data

/-- The word of a record in EVENT_FIFO (R442). -/
def EventRec.word (e : EventRec) : Nat := e.code * 65536 + e.tier * 8192 + e.die * 1024 + e.seq % 1024

/-- Is the package asleep, so that CTRL is off and events go to the AON store (R440)? -/
def State.ctrlOff (s : State) : Bool := s.n O.powerState == 0 || s.n O.powerState == 1

/-- One record more in a die's log: the AON store holds 16 while CTRL is off, management SRAM 256 otherwise; beyond that
it is dropped and counted (R440). -/
def DieLog.add (l : DieLog) (asleep : Bool) (e : EventRec) : DieLog :=
  if asleep then
    if l.aonStore.length < 16 then { l with aonStore := l.aonStore ++ [{ e with aon := true, offset := 0 }] }
    else { l with dropped := satN (2 ^ 32 - 1) (l.dropped + 1) }
  else if l.waiting.length < 256 then
    { l with waiting := l.waiting ++ [{ e with seq := l.nextSeq }], nextSeq := (l.nextSeq + 1) % 2 ^ 32 }
  else { l with dropped := satN (2 ^ 32 - 1) (l.dropped + 1) }

/-- A die's log. -/
def State.log (s : State) (d : Nat) : DieLog := get {} s.logs d

/-- R366: bytes written to a die's event-log area of 1 MiB; each full pass of the ring counts in *event log passes*. -/
def State.logBytes (s : State) (d n : Nat) : State :=
  let b := (s.log d).bytes + n
  { s with logs := upd {} s.logs d (fun l => { l with bytes := b % 2 ^ 20 }) }.addTo (bySub O.eventLogPasses d) (b / 2 ^ 20) (2 ^ 32 - 1)

/-- Bytes of a record of the journal in that area: its 128 KiB over 1,024 key identifiers (DESIGN CHOICE: R336 gives no layout). -/
abbrev journalBytes : Nat := 128

/-- A die writes one record to its log.  A failed die writes none (R440). -/
def State.logOn (s : State) (d : Nat) (e : EventRec) : State :=
  if s.dieUp d then { s with logs := upd {} s.logs d (fun l => l.add s.ctrlOff e) } else s

/-- Log an event of die `d`: the die's own record, and the lead's relayed copy of a tier 3 or higher event of another
die (R440). -/
def State.logEv (s : State) (d : Nat) (ev : Ev) (unit : Nat) (data : List (Nat × Nat)) : State :=
  let e : EventRec := { seq := 0, tick := s.tickNo, code := ev.code, tier := ev.tier, aon := false, relayed := false,
                        die := d, unit := unit, offset := s.phase / 16 % 65536, data := evData data }
  let s := s.logOn d e
  if decide (3 ≤ ev.tier) && decide (s.pkg.lead ≠ d) then
    s.logOn s.pkg.lead { e with relayed := true, die := s.pkg.lead }
  else s

/-- Log an event that the lead classifies or that belongs to the package. -/
def State.logLead (s : State) (ev : Ev) (unit : Nat) (data : List (Nat × Nat)) : State :=
  s.logEv s.pkg.lead ev unit data

namespace Ev
abbrev coldStart : Ev := ⟨0x0001, 4⟩
abbrev updateActivated : Ev := ⟨0x0002, 4⟩
abbrev updateConfirmed : Ev := ⟨0x0003, 4⟩
abbrev updateFellBack : Ev := ⟨0x0004, 4⟩
abbrev addressConflict : Ev := ⟨0x0005, 5⟩
abbrev stagedLost : Ev := ⟨0x0006, 4⟩
abbrev clusterRestart : Ev := ⟨0x0100, 1⟩
abbrev regionFault : Ev := ⟨0x0101, 2⟩
abbrev dieFault : Ev := ⟨0x0102, 3⟩
abbrev saddleLinkFault : Ev := ⟨0x0103, 4⟩
abbrev linkLoss : Ev := ⟨0x0104, 0⟩
abbrev faultPlanActive : Ev := ⟨0x0105, 4⟩
abbrev contractShed : Ev := ⟨0x0106, 4⟩
abbrev leadTakeover : Ev := ⟨0x0107, 4⟩
abbrev standbyChange : Ev := ⟨0x0108, 4⟩
abbrev anchorLost : Ev := ⟨0x0109, 4⟩
abbrev tickOverrun : Ev := ⟨0x010A, 2⟩
abbrev bridgeFault : Ev := ⟨0x010B, 3⟩
abbrev timeAlignFault : Ev := ⟨0x010D, 3⟩
abbrev temperature : Ev := ⟨0x010E, 3⟩
abbrev voltage : Ev := ⟨0x010F, 3⟩
abbrev laneTest : Ev := ⟨0x0110, 0⟩
abbrev commitVerdict : Ev := ⟨0x0200, 4⟩
abbrev contractBroken : Ev := ⟨0x0201, 4⟩
abbrev derateChange : Ev := ⟨0x0202, 3⟩
abbrev migrationEnded : Ev := ⟨0x0203, 4⟩
abbrev parameterDiscarded : Ev := ⟨0x0204, 1⟩
abbrev powerOver : Ev := ⟨0x0205, 4⟩
abbrev pmbusFault : Ev := ⟨0x0206, 4⟩
abbrev tamper : Ev := ⟨0x0300, 4⟩
abbrev tamperClear : Ev := ⟨0x0301, 4⟩
abbrev lifeCycle : Ev := ⟨0x0302, 4⟩
abbrev keyWriteNotApplied : Ev := ⟨0x0303, 4⟩
abbrev transportMismatch : Ev := ⟨0x0304, 3⟩
abbrev authFailure : Ev := ⟨0x0305, 0⟩
abbrev untraceableAccept : Ev := ⟨0x0306, 0⟩
abbrev macsecPnThreshold : Ev := ⟨0x0307, 0⟩
abbrev saRefused : Ev := ⟨0x0308, 0⟩
abbrev tickStep : Ev := ⟨0x0400, 4⟩
abbrev gmChange : Ev := ⟨0x0401, 4⟩
abbrev clockStep : Ev := ⟨0x0402, 4⟩
abbrev holdover : Ev := ⟨0x0403, 4⟩
abbrev fwDeny : Ev := ⟨0x0500, 2⟩
abbrev rateMismatch : Ev := ⟨0x0501, 0⟩
abbrev preemptVerifyFail : Ev := ⟨0x0502, 0⟩
abbrev wake : Ev := ⟨0x0600, 4⟩
abbrev falseWake : Ev := ⟨0x0601, 4⟩
abbrev sleepEntry : Ev := ⟨0x0602, 5⟩
abbrev emergency : Ev := ⟨0x0700, 4⟩
end Ev

/-! ### Service -/

/-- Do lanes, edge units and Cirque outputs stand still: HALTED, TAMPER_HOLD, ROM recovery, or no power state that runs them
(R321, R322, R370, R392, R427)? -/
def State.quiet (s : State) : Bool :=
  s.n O.tamperState == 2 || s.pkg.tamperHold || s.pkg.recoveryDies != 0 || s.n O.powerState < 3 || s.n O.powerState == 6

/-- Does a datapath pause run (R434)? -/
def State.paused_ (s : State) : Bool := decide (s.now < s.pkg.pausedTill)

/-- Valid traffic: a wake has been for something (R389). -/
def State.traffic (s : State) : State := { s with power := { s.power with wakeAt := none } }

/-! ### Per-lane and per-die keys -/

/-- A lane object of R122. -/
def laneKey (m n : Nat) : Nat := byIdx m n

/-- A per-lane object numbered by subindex. -/
def laneSub (m n : Nat) : Nat := bySub m n

/-- A lane's state. -/
def State.lane (s : State) (n : Nat) : LaneSt := get {} s.lanes n

/-- Rewrite a lane's state. -/
def State.updLane (s : State) (n : Nat) (f : LaneSt → LaneSt) : State := { s with lanes := upd {} s.lanes n f }

/-! ### Endpoints (R56) -/

/-- The endpoint of a lane. -/
def epLane (n : Nat) : Nat := n

/-- The endpoint of a link-aggregation group. -/
def epLag (g : Nat) : Nat := 0x1000 + g

/-- The endpoint of a host ring. -/
def epHost (d r : Nat) : Nat := 0x4000 + 256 * d + r

/-- The endpoint of an edge unit: die, kind (0 CAN … 5 TDM) and unit. -/
def epEdge (d kind u : Nat) : Nat := 0x2000 + 256 * d + 16 * kind + u

/-- The kind of an endpoint, bits [15:12]. -/
def epKind (e : Nat) : Nat := bits e 12 4

/-- Units of each edge kind on a die (R5). -/
def edgeUnits : Nat → Nat
  | 0 => 4 | 1 => 2 | 2 => 2 | 3 => 1 | 4 => 1 | 5 => 2 | _ => 0

/-- Is an endpoint code a reserved encoding (R56)? -/
def epReserved (e : Nat) : Bool :=
  if epKind e = 0 then decide (64 ≤ bits e 0 12)
  else if epKind e = 1 then decide (32 ≤ bits e 0 12)
  else if epKind e = 2 then bit e 11 || bit e 7 || decide (5 < bits e 4 3) || decide (bits e 2 2 ≠ 0)
  else if epKind e = 3 then decide (bits e 10 2 ≠ 0)
  else if epKind e = 4 then bit e 11 || decide (bits e 4 4 ≠ 0)
  else if epKind e = 5 then bits e 0 12 == 0 || bits e 0 12 == 4095
  else decide (e ≠ 0xFFFF)

/-- Does the endpoint exist in the variant (R54, R56)? `egress` picks the side of a Cirque channel. -/
def State.epExists (s : State) (egress : Bool) (e : Nat) : Bool :=
  !epReserved e &&
  (if epKind e = 0 then s.hasLane (bits e 0 6)
   else if epKind e = 1 then true
   else if epKind e = 2 then s.hasDie (bits e 8 3) && decide (bits e 0 2 < edgeUnits (bits e 4 3))
   else if epKind e = 3 then decide (bits e 0 10 < (if egress then 128 else 64) * s.variant)
   else if epKind e = 4 then s.hasDie (bits e 8 3)
   else if epKind e = 5 then egress
   else false)

/-- Members of a link-aggregation group in force. -/
def State.lagMembers (s : State) (g : Nat) : List Nat := bitsSet (s.n (byIdx O.members g)) 64

/-- The group a lane is a member of, if any (R119). -/
def State.lagOf (s : State) (n : Nat) : Option Nat :=
  (List.range 32).find? (fun g => bit (s.n (byIdx O.members g)) n)

/-- The ingress endpoint of a lane: its group for a member lane (R131, R135). -/
def State.laneEndpoint (s : State) (n : Nat) : Nat :=
  match s.lagOf n with
  | some g => epLag g
  | none => epLane n

/-! ### Contract records (R54, R55) -/

namespace Contract
/-- Contract ID. -/
def id (r : Bytes) : Nat := fld r 0x00 4
/-- Class code of R52. -/
def cls (r : Bytes) : Nat := fld r 0x04 1
/-- Options byte of R55. -/
def options (r : Bytes) : Nat := fld r 0x05 1
/-- FAULT_REQ: 0 None, 1 Degradable, 2 Strict. -/
def faultReq (r : Bytes) : Nat := bits (options r) 6 2
/-- REDUNDANCY: 0 none, 1 FRER, 2 path-diverse. -/
def redundancy (r : Bytes) : Nat := bits (options r) 4 2
/-- DEPART. -/
def depart (r : Bytes) : Bool := bit (options r) 3
/-- MATCH. -/
def matchMethod (r : Bytes) : Nat := bits (options r) 0 2
def shedPriority (r : Bytes) : Nat := fld r 0x06 1
def zone (r : Bytes) : Nat := fld r 0x07 1
def pass (r : Bytes) : Nat := fld r 0x08 2
def protection (r : Bytes) : Nat := fld r 0x0A 2
def ingress (r : Bytes) : Nat := fld r 0x0C 2
def maxFrame (r : Bytes) : Nat := fld r 0x0E 2
/-- The egress entry at position `e`, 0xFFFF unused. -/
def egressAt (r : Bytes) (e : Nat) : Nat := fld r (0x10 + 2 * e) 2
/-- The used egress entries in order. -/
def egress (r : Bytes) : List Nat := ((List.range 8).map (egressAt r)).filter (fun e => decide (e ≠ 0xFFFF))
def matchAddr (r : Bytes) : Bytes := slice r 0x20 6
def matchTag (r : Bytes) : Nat := fld r 0x26 2
def vid (r : Bytes) : Nat := bits (matchTag r) 0 12
def pcp (r : Bytes) : Nat := bits (matchTag r) 13 3
/-- Frames per interval. -/
def frames (r : Bytes) : Nat := fld r 0x28 2
/-- Interval, ticks. -/
def interval (r : Bytes) : Nat := fld r 0x2A 2
def arrival (r : Bytes) : Nat := fld r 0x2C 4
def deadline (r : Bytes) : Nat := fld r 0x30 4
def jitter (r : Bytes) : Nat := fld r 0x34 2
def tolerance (r : Bytes) : Nat := fld r 0x36 2
def stream (r : Bytes) : Bytes := slice r 0x38 8
end Contract

/-- The key of a slot's active record. -/
def activeKey (slot : Nat) : Nat := byIdx O.activeRecord slot

/-- The key of a slot's staged record. -/
def stagedKey (slot : Nat) : Nat := byIdx O.stagedRecord slot

/-- The key of a slot's state. -/
def slotStateKey (slot : Nat) : Nat := byIdx O.slotStateContract slot

/-- The active record of a slot, if the running plan holds one. -/
def State.contract (s : State) (slot : Nat) : Option Bytes := look s.plan.active.contracts slot

/-- The state of a slot (R58). -/
def State.slotState (s : State) (slot : Nat) : Nat := s.n (slotStateKey slot)

/-- Where the running plan put a contract. -/
def State.placed (s : State) (slot : Nat) : Option SlotPlan :=
  s.plan.active.place.slots.find? (fun p => p.slot == slot)

/-- The traffic class that serves a contract class (R150); Best-effort follows the PCP (R151). -/
def tcOfClass : Nat → Nat
  | 0 => 7 | 2 => 6 | 1 => 5 | 4 => 4 | 3 => 3 | _ => 0

/-- The MAC rate of a lane mode, in kbit/s (R105). -/
def modeRate : Nat → Nat
  | 0 => 10000000 | 1 => 10000000 | 2 => 5000000 | 3 => 2500000 | 4 => 1000000 | 5 => 100000
  | 6 => 2500000 | 7 => 1000000 | 8 => 1000000 | 9 => 100000 | _ => 10000

/-- The MAC rate of a lane in force, in kbit/s. -/
def State.laneRate (s : State) (n : Nat) : Nat := modeRate (s.n (laneKey O.laneMode n))

/-- Wire time of `bytes` at `rate` kbit/s, in ns, rounded up. -/
def wireTime (bytes rate : Nat) : Nat := if rate = 0 then 0 else ceilDiv (bytes * 8 * 1000000) rate

/-- Rounded up to a multiple of 8 ns (R71). -/
def ceil8 (n : Nat) : Nat := ceilDiv n 8 * 8

/-! ### Plain outcome -/

/-- R326: a tamper event under Contain or Halt has destroyed the roots by the fuse: the package answers only STATUS until it is taken
through RETURNED. -/
def State.onlyStatus (s : State) : Bool :=
  s.n O.tamperDestroysRoot == 1 && s.cairn.destroyed != 0 && s.n O.tamperState != 0 && decide (s.n O.lifeCycleState < 4)

/-- Does the dictionary service answer requests: is it not paused with a change of the lead, nor closed by R326? -/
def State.answers (s : State) : Bool := s.pkg.serving && !s.onlyStatus

/-- Does a path stay open: in Standby and while DETACHED, only the service port and the mailbox do (R370, R392)? -/
def State.pathUp (s : State) (p : Path) : Bool :=
  !(s.n O.powerState == 2 || s.n O.powerState == 6) || p == .svcEthernet || p == .svcUart || p == .mailbox

/-- A meaning that always completes. -/
def done (s : State) : Host.Outcome State Fault Refusal := .next s

end Sys2Proof.Machine
end

