-- ==== Sys2Proof/Machine/Operands.lean ====
section
/-! DEFINITION. The operands of dictionary requests: existence, rights, lengths and values, in the order of R490, and the
session layer that answers them (R403, R467). -/
namespace Sys2Proof.Machine

open Sys2Proof

/-! ### Existence (R3, R456) -/

/-- The die a table line needs for this object. -/
def Scope.die (sc : Scope) (idx sub : Nat) : Option Nat :=
  match sc with
  | .all => none
  | .idx base div => some ((idx - base) / div)
  | .sub div => some ((sub - 1) / div)
  | .sub8 => some ((sub - 1) % 8)
  | .windows => if sub < 3 then none else some ((sub - 3) / 2)

/-- Gaps inside an array that its chapter names: resource codes 6 and 7 of 0x2102 (R50), u 12 to 15 of 0x2612 (R203). -/
def objGap (idx sub : Nat) : Bool :=
  (idx == 0x2102 && decide (1 ≤ sub) && decide (6 ≤ (sub - 1) % 8)) ||
  (idx == 0x2612 && decide (1 ≤ sub) && decide (12 ≤ (sub - 1) % 16))

/-- The table line of an object that exists in this variant. -/
def State.row? (s : State) (idx sub : Nat) : Option ObjRow :=
  match objRow idx sub with
  | none => none
  | some r =>
    if objGap idx sub then none
    else
      let r := if idx = 0x2110 ∧ (sub = 1 ∨ sub = 2 ∨ sub = 3 ∨ sub = 0x10) then { r with acc := .const } else r
      match r.scope.die idx sub with
      | none => some r
      | some d => if s.hasDie d then some r else none

/-! ### Rights (R397 to R399) -/

/-- What a requester may do: its role and its world. -/
structure Rights where
  role : Role
  secure : Bool
deriving DecidableEq, Repr

/-- The role that may read, `none` for a write-only object. -/
def Access.readRole : Access → Option Role
  | .const => some .observer
  | .ro r => some r
  | .rw _ => some .observer
  | .roZero => some .observer
  | .wo _ => none
  | .woLifeCycle => none

/-- The role that may write, `none` for a read-only object.  The life-cycle command's role depends on the transition
(R318), so the table lets Integrator pass and its own check follows. -/
def Access.writeRole : Access → Option Role
  | .const => none
  | .ro _ => none
  | .rw r => some r
  | .roZero => some .operator
  | .wo r => some r
  | .woLifeCycle => some .integrator

/-- Steps 2 to 4 of R490 for a read. -/
def State.readCheck (s : State) (rt : Rights) (idx sub : Nat) : Status × Option ObjRow :=
  match s.row? idx sub with
  | none => (.noObject, none)
  | some r =>
    match r.acc.readRole with
    | none => (.writeOnly, none)
    | some ro => if ro.le rt.role && (!r.secure || rt.secure) then (.ok, some r) else (.accessDenied, none)

/-- Steps 2 to 4 of R490 for a write. -/
def State.writeCheck (s : State) (rt : Rights) (idx sub : Nat) : Status × Option ObjRow :=
  match s.row? idx sub with
  | none => (.noObject, none)
  | some r =>
    match r.acc.writeRole with
    | none => (.readOnly, none)
    | some ro => if ro.le rt.role && (!r.secure || rt.secure) then (.ok, some r) else (.accessDenied, none)

/-! ### Values (R8, R457) -/

/-- Size of an integer type, in bytes. -/
def ObjTy.intBytes : ObjTy → Option Nat
  | .u n => some n
  | .i n => some n
  | _ => none

/-- The value of the bytes of an integer object. -/
def ObjTy.decode (ty : ObjTy) (b : Bytes) : Val :=
  match ty with
  | .u _ => .num ((leNat b : Nat) : Int)
  | .i n => .num (signed (8 * n) (leNat b))
  | _ => .bytes b

/-- The bytes of a value of an object (R457). -/
def ObjTy.encode (ty : ObjTy) (v : Val) : Bytes :=
  match ty, v with
  | .u n, .num x => leBytes n (unsignedOf (8 * n) x)
  | .i n, .num x => leBytes n (unsignedOf (8 * n) x)
  | _, .bytes b => b
  | _, .num _ => []

/-- Is a value inside the listed intervals and fields (R8)? -/
def Rng.ok (r : Rng) (v : Int) : Bool :=
  match r with
  | .any => true
  | .iv l => l.any (fun p => decide (p.1 ≤ v) && decide (v ≤ p.2))
  | .fl l => l.all (fun f => f.2.2.any (fun p => decide (p.1 ≤ bits v.toNat f.1 f.2.1) &&
      decide (bits v.toNat f.1 f.2.1 ≤ p.2)))

/-- Is a fault-case code well formed and within the variant (R77)? 0 names the running plan. -/
def State.caseOk (s : State) (v : Nat) : Bool :=
  v == 0 ||
  (bits v 0 16 == 0 && decide (1 ≤ bits v 28 4) && decide (bits v 28 4 ≤ 4) && s.hasDie (bits v 24 4) &&
    (if bits v 28 4 = 1 then bits v 16 8 == 0
     else if bits v 28 4 = 2 then decide (bits v 16 8 < 2)
     else if bits v 28 4 = 3 then decide (bits v 16 8 < 4)
     else decide (bits v 16 8 < 8)))

/-- The staged value of an integer object, or the committed one (R411). -/
def State.stagedO (s : State) (k : Nat) : Int := (look s.staged.objs k).getD (s.o k)

/-- The staged value of a DOMAIN, or the committed one. -/
def State.stagedBlob (s : State) (k : Nat) : Bytes := (look s.staged.blobs k).getD (s.blob k)

/-- R119: a member mask of at most 8 present lanes, in no other group, all at one MAC rate (staged values). -/
def State.membersOk (s : State) (g v : Nat) : Bool :=
  let ls := bitsSet v 64
  decide (ls.length ≤ 8) && ls.all s.hasLane &&
  (List.range 32).all (fun g' => g' == g || ls.all (fun n => !bit (s.stagedO (byIdx O.members g')).toNat n)) &&
  ls.all (fun n => ls.all (fun m =>
    modeRate (s.stagedO (laneKey O.laneMode n)).toNat == modeRate (s.stagedO (laneKey O.laneMode m)).toNat))

/-- R119: a lane-mode write keeps the rate of the group the lane is in. -/
def State.modeOk (s : State) (lane v : Nat) : Bool :=
  match (List.range 32).find? (fun g => bit (s.stagedO (byIdx O.members g)).toNat lane) with
  | none => true
  | some g =>
    (bitsSet (s.stagedO (byIdx O.members g)).toNat 64).all (fun n =>
      n == lane || modeRate (s.stagedO (laneKey O.laneMode n)).toNat == modeRate v)

/-- A power of two. -/
def isPow2 (v : Nat) : Bool := popcount v 32 == 1

/-- The value an object will have once what is held for it has been applied (R6). -/
def State.nextO (s : State) (k : Nat) : Int :=
  (s.held.filter (fun h => h.key == k)).foldl (fun v h => match h.val with | .num n => n | .bytes _ => v) (s.o k)

/-- R209: after a write of `sub` of instance `i`, no two enabled instances run one profile family in one domain. -/
def State.domainOk (s : State) (i sub v : Nat) : Bool :=
  let val := fun (j u : Nat) => if j = i ∧ u = sub then v else (s.nextO (byIdx (0x211000 + u) j)).toNat
  (List.range 4).all (fun j => j == i || val j 1 == 0 || val i 1 == 0 || val j 3 != val i 3 ||
    (val j 2 == 0) != (val i 2 == 0))

/-- The value rules that one interval or field list cannot say, object by object. -/
def State.valueOk (s : State) (idx sub : Nat) (v : Nat) : Bool :=
  if 0x2290 ≤ idx ∧ idx ≤ 0x22AF ∧ sub = 1 then s.membersOk (idx - 0x2290) v
  else if 0x2200 ≤ idx ∧ idx ≤ 0x223F ∧ sub = 2 then s.modeOk (idx - 0x2200) v
  else if (0x2280 ≤ idx ∧ idx ≤ 0x2287 ∨ 0x2480 ≤ idx ∧ idx ≤ 0x2487) ∧ 0x11 ≤ sub ∧ sub ≤ 0x20 then isPow2 v
  else if idx = 0x5100 ∧ sub = 3 ∨ idx = 0x5102 ∧ sub = 4 then s.caseOk v
  else if 0x2460 ≤ idx ∧ idx ≤ 0x2467 ∧ sub = 3 then v == 0xFFFF || (!epReserved v && (epKind v == 0 || epKind v == 4))
  else if 0x2110 ≤ idx ∧ idx ≤ 0x2113 ∧ 1 ≤ sub ∧ sub ≤ 3 then s.domainOk (idx - 0x2110) sub v
  else if 0x2110 ≤ idx ∧ idx ≤ 0x2113 ∧ sub = 4 then decide (v ≤ s.laneMask)
  else if 0x2110 ≤ idx ∧ idx ≤ 0x2113 ∧ sub = 9 then decide (v < 64) || v == 0xFF
  else if 0x2110 ≤ idx ∧ idx ≤ 0x2113 ∧ sub = 0x11 then
    decide (v ≤ 2) && (v != 2 || s.n (byIdx O.profile (idx - 0x2110)) == 1 || s.n (byIdx O.profile (idx - 0x2110)) == 2)
  else if idx = 0x251F then decide (bits v 0 16 < bits v 16 16)
  else if idx = 0x2C00 ∧ (sub = 0x11 ∨ sub = 0x12) then decide (v ≤ s.laneMask)
  else if idx = 0x2E58 ∧ sub = 8 then decide (v ≤ s.dieMask)
  else if idx = 0x2C10 ∧ sub = 1 then decide (15000 ≤ v) && decide (v ≤ maxPowerCap s.variant)
  else if (0x1600 ≤ idx ∧ idx ≤ 0x163F ∨ 0x1A00 ≤ idx ∧ idx ≤ 0x1A3F) ∧ 1 ≤ sub then
    v == 0 || [8, 16, 32, 64].contains (bits v 0 8)
  else if idx = 0x1016 ∧ 1 ≤ sub then
    bits v 0 16 == 0 || (decide (1 ≤ bits v 16 8) && decide (bits v 16 8 ≤ 127))
  else if idx = 0x2F96 then
    let a := signed 16 (bits v 16 16); let b := signed 16 (bits v 0 16)
    decide (-100 ≤ a) && decide (a ≤ 100) && decide (-100 ≤ b) && decide (b ≤ 100)
  else if idx = 0x2FF0 ∧ sub = 2 then
    v == 0xFFFF || (decide (0x2F90 ≤ v) && decide (v ≤ 0x2FEF) && (objRow v 1).isSome)
  else if idx = 0x2C38 ∧ 1 ≤ sub then
    let e := bits v 16 16
    (epKind e == 0 && !epReserved e) || (epKind e == 2 && !epReserved e && bits e 4 3 == 0)
  else if 0x2800 ≤ idx ∧ idx ≤ 0x281F ∧ sub = 4 then
    decide (v ≤ if (s.stagedO (byIdx O.canProtocol (idx - 0x2800))).toNat = 2 then 20000 else 8000) ||
      (s.stagedO (byIdx O.canProtocol (idx - 0x2800))).toNat == 0
  else true

/-- R54, R55: the reserved encodings of a contract record, refused at the write. -/
def contractReservedOk (r : Bytes) : Bool :=
  decide (Contract.cls r ≤ 5) && decide (Contract.zone r ≤ 63) && decide (Contract.pass r ≤ 4095) &&
  decide (Contract.faultReq r ≠ 3) && decide (Contract.redundancy r ≠ 3) && !bit (Contract.options r) 2 &&
  decide (Contract.matchMethod r ≠ 3) && !bit (Contract.matchTag r) 12 &&
  decide (1 ≤ Contract.interval r) && decide (Contract.interval r ≤ 4096) &&
  (Contract.ingress r == 0xFFFF || !epReserved (Contract.ingress r)) &&
  (List.range 8).all (fun e => Contract.egressAt r e == 0xFFFF || !epReserved (Contract.egressAt r e))

/-- R130: a VLAN record at its window position. -/
def State.vlanRecOk (s : State) (i : Nat) (r : Bytes) : Bool :=
  fld r 0 2 == i && decide (1 ≤ i) && decide (i ≤ 4094) && decide (fld r 2 2 < 4) && decide (fld r 4 8 ≤ s.laneMask) &&
  (bitsSet (fld r 12 8) 64).all (bit (fld r 4 8))

/-- Meter mode and actions (R180): reserved bits and encodings. -/
def meterModeOk (mode actions : Nat) : Bool :=
  decide (bits mode 6 2 = 0) && decide (bits mode 4 2 ≤ 1) && decide (bits mode 0 3 = 0) &&
  decide (bits actions 6 2 = 0) && decide (bits actions 4 2 ≤ 2) && decide (bits actions 2 2 ≤ 2) &&
  decide (bits actions 0 2 ≤ 2)

/-- The key fields (offset, length) that a key profile selects (R185). -/
def profileFields (p : Nat) : List (Nat × Nat) :=
  [(0, 0x00, 2), (1, 0x03, 1), (2, 0x04, 6), (3, 0x0A, 6), (4, 0x10, 2), (5, 0x12, 2), (6, 0x14, 16), (7, 0x24, 16),
   (8, 0x34, 1), (9, 0x35, 1), (10, 0x36, 2), (11, 0x38, 2), (12, 0x3A, 2)].filterMap
    (fun e => if bit p e.1 then some e.2 else none)

/-- Is a key offset inside the profile? -/
def inProfile (p off : Nat) : Bool := (profileFields p).any (fun f => decide (f.1 ≤ off) && decide (off < f.1 + f.2))

/-- R186: does a type 1 or 2 rule fit a key profile? -/
def ruleFits (p : Nat) (r : Bytes) : Bool :=
  if fld r 2 1 = 1 ∨ fld r 2 1 = 2 then
    decide (p ≠ 0) &&
    (List.range 64).all (fun i => inProfile p i || fld r (0x10 + i) 1 == 0 || (fld r 2 1 == 2 && (i == fld r 5 1 || i == fld r 5 1 + 1))) &&
    (fld r 2 1 != 2 || inProfile p (fld r 5 1))
  else true

/-- R186: a rule record at its window position, checked against the staged key profile of its pass. -/
def State.ruleRecOk (s : State) (pass i : Nat) (r : Bytes) : Bool :=
  fld r 0 2 == i && decide (fld r 2 1 ≤ 3) && decide (fld r 3 1 ≤ 4) && decide (fld r 4 1 ≤ 1) &&
  (if fld r 2 1 = 2 then (fld r 5 1 == 0x36 || fld r 5 1 == 0x38) && decide (fld r 6 2 ≤ fld r 8 2)
   else fld r 5 1 == 0 && fld r 6 2 == 0 && fld r 8 2 == 0) &&
  slice r 0x0A 6 == fill 6 0 &&
  bits (fld r 0x13 1) 0 4 == 0 && fld r 0x4C 4 == 0 && bits (fld r 0x53 1) 0 4 == 0 && fld r 0x8C 4 == 0 &&
  (fld r 2 1 == 0 || fld r 2 1 == 3 || slice r 0x50 64 == fill 64 0) &&
  ruleFits (fld (s.stagedBlob (at_ O.passRecords pass)) 6 2) r

/-- The key of a rule record: rules of pass p lie at items 4096 * p + rule. -/
def ruleKey (pass rule : Nat) : Nat := at_ O.ruleRecords (4096 * pass + rule)

/-- The rules staged or committed for a pass: rule numbers with their records, lowest first. -/
def State.stagedRules (s : State) (pass : Nat) : List Bytes :=
  let ks := (keys (overlay s.dict.blobs s.staged.blobs)).filter
    (fun k => muxOf k == O.ruleRecords && itemOf k / 4096 == pass)
  (ks.map s.stagedBlob).filter (fun r => decide (fld r 2 1 ≠ 0))

/-- R184, R186: a pass record at its window position; its new profile keeps every rule of the pass. -/
def State.passRecOk (s : State) (i : Nat) (r : Bytes) : Bool :=
  fld r 0 2 == i && decide (fld r 2 1 ≤ 63) && decide (fld r 3 1 ≤ 63) && decide (bits (fld r 4 2) 4 12 = 0) &&
  !bit (fld r 4 2) 0 && decide (bits (fld r 6 2) 13 3 = 0) && decide (fld r 8 2 ≤ 4096) &&
  meterModeOk (fld r 0x0A 1) (fld r 0x0B 1) && decide (fld r 0x0C 4 ≤ 10000000) && decide (fld r 0x10 4 ≤ 16777215) &&
  decide (fld r 0x14 4 ≤ 10000000) && decide (fld r 0x18 4 ≤ 16777215) && fld r 0x1C 4 == 0 &&
  (s.stagedRules i).all (ruleFits (fld r 6 2))

/-- A gate list as entries (R155). -/
def gateEntries (b : Bytes) : List GateEntry :=
  (List.range (b.length / 8)).map (fun i =>
    ⟨fld b (8 * i) 4, fld b (8 * i + 4) 1, fld b (8 * i + 5) 1, fld b (8 * i + 6) 2⟩)

/-- A gate list as stored. -/
def gateBytes (l : List GateEntry) : Bytes :=
  l.flatMap (fun e => leBytes 4 e.off ++ leBytes 1 e.states ++ leBytes 1 e.op ++ leBytes 2 e.owner)

/-- Offsets strictly rising (R156). -/
def risingOff : List GateEntry → Bool
  | [] => true
  | [_] => true
  | a :: b :: t => decide (a.off < b.off) && risingOff (b :: t)

/-- R155, R156, R178: an administrative list for a cycle of `cyc` ns: ascending offsets in steps of 8 ns, the last 8 ns
before the cycle's end at most, no hold or release, no owner. -/
def adminListOk (cyc : Nat) (b : Bytes) : Bool :=
  b.length % 8 == 0 && risingOff (gateEntries b) &&
  (gateEntries b).all (fun e => decide (e.off % 8 = 0) && decide (e.off + 8 ≤ cyc) && e.op == 0 && e.owner == 0xFFFF)

/-- R402: a trust-anchor record. -/
def anchorOk (r : Bytes) : Bool :=
  decide (fld r 0 1 < 4) && decide (fld r 1 1 ≤ 3) && fld r 2 2 == 0

/-- R132: a static entry record. -/
def staticEntryOk (r : Bytes) : Bool :=
  decide (1 ≤ fld r 6 2) && decide (fld r 6 2 ≤ 4094) && decide (fld r 0x0A 1 < 4) && bit (fld r 0x0A 1) 0 &&
  (if bit (fld r 0x0A 1) 1 then fld r 8 2 == 0xFFFF && bit (fld r 0 1) 0
   else !epReserved (fld r 8 2) && (epKind (fld r 8 2) == 0 || epKind (fld r 8 2) == 1 || epKind (fld r 8 2) == 4))

end Sys2Proof.Machine
end

