-- ==== Sys2Proof/Machine/AudioRecords.lean ====
section
/-! DEFINITION. The records of the announcement matrix (chapter 10, R227, R228, R233). -/
namespace Sys2Proof.Machine

open Sys2Proof

/-- Samples per tick at a rate code: 48 kHz or 16 kHz (R227). -/
def State.perTick (s : State) (rate : Nat) : Nat := s.period / 62500 * (if rate = 1 then 1 else 3)

/-! ### Records (R228, R233) -/

def State.inputRec (s : State) (ch : Nat) : Bytes := s.blob (at_ O.inputRecords ch)
def inFeed (r : Bytes) : Nat := fld r 2 2
def inPosition (r : Bytes) : Nat := fld r 4 1
def inLevel (r : Bytes) : Nat := bits (fld r 5 1) 0 4
def inRate (r : Bytes) : Nat := fld r 6 1
def inDepth (r : Bytes) : Nat := fld r 7 1
def inThreshold (r : Bytes) : Int := signed 8 (fld r 8 1)
def inHang (r : Bytes) : Nat := fld r 0x0A 2

/-- R228: an input record at its window position. -/
def inputRecOk (i : Nat) (r : Bytes) : Bool :=
  fld r 0 2 == i && (decide (inFeed r < 8192) || inFeed r == 0xFFFF) && decide (inPosition r < 16) && decide (fld r 5 1 < 16) &&
  decide (inRate r < 2) && decide (1 ≤ inDepth r) && decide (inDepth r ≤ 8) &&
  (inThreshold r == -128 || (decide (-90 ≤ inThreshold r) && decide (inThreshold r ≤ 0))) && fld r 9 1 == 0 &&
  decide (inHang r ≤ 4096) && fld r 0x0C 4 == 0

def State.outputRec (s : State) (o : Nat) : Bytes := s.blob (at_ O.outputRecords o)
def outZone (r : Bytes) : Nat := fld r 2 2
def outContract (r : Bytes) : Nat := fld r 4 2
def outPosition (r : Bytes) : Nat := fld r 6 1
def outExempt (r : Bytes) : Bool := bit (fld r 7 1) 0

/-- The used terms of a row at offset `off`: source and gain. -/
def rowTerms (r : Bytes) (off n : Nat) : List (Nat × Nat) :=
  ((List.range n).map (fun i => (fld r (off + 4 * i) 2, fld r (off + 4 * i + 2) 2))).filter (fun t => decide (t.1 ≠ 0xFFFF))

/-- The normal row. -/
def normalRow (r : Bytes) : List (Nat × Nat) := rowTerms r 0x08 32

/-- The emergency row. -/
def emergencyRow (r : Bytes) : List (Nat × Nat) := rowTerms r 0x88 8

/-- The tone generator as a source. -/
abbrev srcTone : Nat := 0xFFF0

/-- The zone's announcement player as a source, beyond the codes of a term. -/
abbrev srcPlayer : Nat := 0x10000

/-- R233: an output record at its window position; the zone keeps at most 8 outputs (staged values). -/
def State.outputRecOk (s : State) (i : Nat) (r : Bytes) : Bool :=
  let z := outZone r
  let src := fun (t : Nat × Nat) => decide (t.1 < 128 * s.variant) || t.1 == srcTone
  fld r 0 2 == i &&
  (z == 0xFFFF ||
    (decide (z < 256) && (decide (outContract r < 8192) || outContract r == 0xFFFF) && decide (outPosition r < 16) &&
     decide (fld r 7 1 < 2) && (normalRow r).all src && (emergencyRow r).all src &&
     !hasDup ((normalRow r).map (·.1)) && !hasDup ((emergencyRow r).map (·.1)) &&
     decide (((keys (overlay s.dict.blobs s.staged.blobs)).filter (fun k =>
       muxOf k == O.outputRecords && itemOf k != i && outZone (s.stagedBlob k) == z)).length < 8)))

/-- The outputs of a zone, lowest first. -/
def State.zoneOuts (s : State) (z : Nat) : List Nat :=
  (keys s.dict.blobs).filterMap (fun k =>
    if muxOf k = O.outputRecords ∧ outZone (s.blob k) = z then some (itemOf k) else none)

/-- A zone object (R249). -/
def zoneKey (m z : Nat) : Nat := at_ m z

/-- The inputs that a zone's records name (R227). -/
def State.zoneInputs (s : State) (z : Nat) : List Nat :=
  (((s.zoneOuts z).flatMap (fun o => normalRow (s.outputRec o) ++ emergencyRow (s.outputRec o))).map (·.1)).filter
    (fun c => decide (c < 1024)) |>.eraseDups

end Sys2Proof.Machine
end

