-- ==== Sys2Proof/Machine/Mailbox.lean ====
section
/-! DEFINITION. The mailbox and its response ring, and how an answer leaves (R295, R364, R405, R463). -/
namespace Sys2Proof.Machine

open Sys2Proof

/-- An event of a source of die `d`: the source is pending. -/
def State.raiseInt (s : State) (d src : Nat) : State :=
  if s.dieUp d then
    { s with bridge := { s.bridge with intPending := upd 0 s.bridge.intPending d (fun m => setBit m src true) } }
  else s

/-- The endpoint die of R299, if the package has one. -/
def State.endpoint (s : State) : Option Nat :=
  let d := s.n O.hostEndpointDie
  if d < 2 ∧ s.dieUp d = true then some d else none

/-- `n` bytes of a RAM from `off`; a byte nothing has written since its domain came up reads 0 (R356). -/
def ramRead (m : SMap Byte) (off n : Nat) : Bytes := (List.range n).map (fun i => get 0 m (off + i))

/-- Bytes written into a RAM from `off`. -/
def ramWrite (m : SMap Byte) (off : Nat) (b : Bytes) : SMap Byte :=
  (b.mapIdx (fun i x => (off + i, x))).foldl (fun m e => put 0 m e.1 e.2) m

/-- The canonical form of a RAM: addresses strictly rising, and no listed byte is 0, which an unlisted one reads as (R356). -/
def Memory.wf (m : List Host.Cell) : Bool := canonical 0 m

/-- A die's mailbox. -/
def State.mailboxOf (s : State) (d : Nat) : SMap Byte := get [] s.bridge.mailbox d

def State.setMailbox (s : State) (d : Nat) (m : SMap Byte) : State :=
  { s with bridge := { s.bridge with mailbox := put [] s.bridge.mailbox d m } }

/-- R405: the AX8 sets a bit of the doorbell towards the host, interrupt source 32. -/
def State.ringHost (s : State) (b : Nat) : State :=
  match s.endpoint with
  | none => s
  | some e =>
    ({ s with bridge := { s.bridge with doorbellOut := setBit s.bridge.doorbellOut b true } }).raiseInt e 32

/-- The status codes (R466). -/
def statusCode : Status → Nat
  | .ok => 0 | .noObject => 1 | .readOnly => 2 | .writeOnly => 3 | .accessDenied => 4 | .outOfRange => 5 | .length => 6
  | .deviceState => 7 | .outOfSequence => 8 | .timeout => 9 | .notMappable => 10 | .alreadyDone => 11 | .updateBusy => 12
  | .hardware => 13 | .unknownCommand => 14 | .noSession => 15 | .format => 16

/-- The datagram that answers a request: its header echoed, with RESPONSE, the status, LAST on a READ that ends the value, and the
data (R463, R464). -/
def responseBytes (head : Bytes) (r : Response) : Bytes :=
  slice head 0 2 ++ leBytes 1 (16 + b2n (r.last && fld head 1 1 == 3)) ++ leBytes 1 (statusCode r.status) ++ slice head 4 12 ++
    beBytes 2 r.data.length ++ fill 2 0 ++ r.data

/-- Where an entry of `n` bytes goes in a ring of 16 KiB whose writer stands at `h` and its reader at `t`: the offset and the new
head, none where it does not fit (R405). -/
def ringPlace (h t n : Nat) : Option (Nat × Nat) :=
  if h < t then (if h + n < t then some (h, h + n) else none)
  else if h + n < 16384 ∨ (h + n = 16384 ∧ t ≠ 0) then some (h, (h + n) % 16384)
  else if n < t then some (0, n)
  else none

/-- R405: a response enters the response ring of the endpoint die's mailbox, and the doorbell towards the host is set.  An entry
for which the ring has no room is not written. -/
def State.mailRespond (s : State) (b : Bytes) : State :=
  match s.endpoint with
  | none => s
  | some e =>
    let ram := s.mailboxOf e
    let h := leNat (ramRead ram 8 4)
    let t := leNat (ramRead ram 12 4)
    let x := leBytes 4 b.length ++ b ++ fill ((4 - b.length % 4) % 4) 0
    match ringPlace h t x.length with
    | none => s
    | some (at_, next) =>
      let ram := if at_ = h then ram else ramWrite ram (0x4100 + h) (fill 4 0xFF)
      (s.setMailbox e (ramWrite (ramWrite ram (0x4100 + at_) x) 8 (leBytes 4 next))).ringHost 0

/-- Does an association arrive through the mailbox? -/
def State.byMailbox (s : State) (assoc : Nat) : Bool :=
  s.access.assocs.any (fun a => a.id == assoc && a.path == .mailbox) ||
  s.access.sessions.any (fun e => e.2.assoc == assoc && e.2.path == .mailbox)

/-- A response leaves on the path its request came by. -/
def State.reply (s : State) (who : Who) (r : Response) : State :=
  let s := s.emit (.response who r)
  if s.byMailbox who.assoc then s.mailRespond (responseBytes who.head r) else s

end Sys2Proof.Machine
end

