-- ==== Sys2Proof/Machine/Request.lean ====
section
/-! DEFINITION. The session layer: how a request meets its session, what is answered, and the common form of a write to a
command object (R403, R407, R413, R467, R490). -/
namespace Sys2Proof.Machine

open Sys2Proof

/-- An open session. -/
def State.session? (s : State) (n : Nat) : Option Session := look s.access.sessions n

/-- Rewrite an open session. -/
def State.updSession (s : State) (n : Nat) (f : Session → Session) : State :=
  match s.session? n with
  | none => s
  | some x => { s with access := { s.access with sessions := ins s.access.sessions n (f x) } }

/-- A bare status as a response. -/
def Response.of (st : Status) : Response := ⟨st, [], true⟩

/-- The answer to a request: it is stored for a repeat of its sequence number and sent, if the session is still open
(R402, R403). -/
def State.answer (s : State) (who : Who) (r : Response) : State :=
  match s.session? who.sess with
  | none => s
  | some _ =>
    (s.updSession who.sess (fun x =>
      { x with stored := some r, lastSeq := some who.seq, executing := false, lastUse := s.now })).reply who r

/-- A request whose session is open and idle runs `body`; every other case is answered as R467 says and executes
nothing.  During a takeover no path answers (R400), in Standby and while DETACHED only some do; a record whose SLIP frame was too long or cut is discarded (R406). -/
def serve (who : Who) (body : Session → State → Response × State) (s : State) : State :=
  if !s.answers || Slip.lost who.slip then s
  else
    match s.session? who.sess with
    | none => s.reply who (Response.of .noSession)
    | some x =>
      if !s.pathUp x.path then s
      else if x.assoc ≠ who.assoc then s.reply who (Response.of .noSession)
      else if x.lastSeq = some who.seq then
        match x.stored with
        | some r => s.reply who r
        | none => s
      else if x.executing then s.reply who (Response.of .deviceState)
      else
        let p := body x s.traffic
        p.2.answer who p.1

/-- The rights of a session. -/
def Session.rights (x : Session) : Rights := ⟨x.role, x.secure⟩

/-- A refusal for want of rights is counted in *access denials* (R398). -/
def State.countDenial (s : State) (st : Status) : State :=
  if st = .accessDenied then s.inc32 O.accessDenials else s

/-- Is the object a selector, held for each session (R101)?  The selectors are the objects every Observer may write. -/
def ObjRow.isSelector (r : ObjRow) : Bool := r.acc == .rw .observer

/-- An access to another object discards a session's pending DOMAIN write and its read snapshot; selectors form part of
the window and discard nothing (R407). -/
def State.touch (s : State) (sess m : Nat) (selector : Bool) : State :=
  if selector then s
  else
    s.updSession sess (fun x =>
      { x with
        pendWrite := match x.pendWrite with
          | some (k, b) => if muxOf k = m then some (k, b) else none
          | none => none,
        snap := match x.snap with
          | some (k, b, t) => if muxOf k = m then some (k, b, t) else none
          | none => none })

/-- A completed write of effect T waits for the next tick boundary (R6, R410). -/
def State.holdT (s : State) (k : Nat) (v : Val) : State := { s with held := s.held ++ [{ time := s.now, key := k, val := v }] }

/-- R413: a checked write joins the session's open transaction, within its 64 writes and 16 KiB. -/
def State.txnAdd (s : State) (sess k bytes : Nat) (v : Val) : Status × State :=
  match s.session? sess with
  | none => (.noSession, s)
  | some x =>
    match x.txn with
    | none => (.deviceState, s)
    | some l =>
      if 64 ≤ l.length ∨ 16384 < x.txnBytes + bytes then (.deviceState, s)
      else (.ok, s.updSession sess (fun y => { y with txn := some (l ++ [(k, v)]), txnBytes := y.txnBytes + bytes }))

/-- A write of an integer to a command object: the checks of R490, then `act`, which answers a status. -/
def writeCmd (sess idx sub v : Nat) (act : Session → State → Status × State) (x : Session) (s : State) :
    Response × State :=
  let c := s.writeCheck x.rights idx sub
  match c.2 with
  | none => (Response.of c.1, s.countDenial c.1)
  | some r =>
    let s := s.touch sess (mux idx sub) false
    if !(r.rng.ok ((v : Nat) : Int) && s.valueOk idx sub v) then (Response.of .outOfRange, s)
    else if x.txn.isSome then (Response.of .deviceState, s)
    else
      let p := act x s
      (Response.of p.1, p.2)

/-- A write of a whole DOMAIN to a command object: length, then `ok` for its reserved encodings, then `act`. -/
def writeDom (sess idx sub : Nat) (b : Bytes) (lo hi : Nat) (ok : State → Bool)
    (act : Session → State → Status × State) (x : Session) (s : State) : Response × State :=
  let c := s.writeCheck x.rights idx sub
  match c.2 with
  | none => (Response.of c.1, s.countDenial c.1)
  | some _ =>
    let s := s.touch sess (mux idx sub) false
    if b.length < lo ∨ hi < b.length then (Response.of .length, s)
    else if !ok s then (Response.of .outOfRange, s)
    else if x.txn.isSome then (Response.of .deviceState, s)
    else
      let p := act x s
      (Response.of p.1, p.2)

/-- The value of a session's selector: what it wrote, or the table's default (R101). -/
def Session.sel (x : Session) (m : Nat) : Nat :=
  match look x.selectors m with
  | some v => v.toNat
  | none => (dfltInt 8 127 m).toNat

/-- A write of a window of records to a command object: its length is that of the session's window (R456). -/
def writeWin (sess idx sub : Nat) (b : Bytes) (count size : Nat) (ok : Session → State → Bool)
    (act : Session → State → Status × State) (x : Session) (s : State) : Response × State :=
  let c := s.writeCheck x.rights idx sub
  match c.2 with
  | none => (Response.of c.1, s.countDenial c.1)
  | some _ =>
    let s := s.touch sess (mux idx sub) false
    if b.length ≠ x.sel count * size then (Response.of .length, s)
    else if !ok x s then (Response.of .outOfRange, s)
    else if x.txn.isSome then (Response.of .deviceState, s)
    else
      let p := act x s
      (Response.of p.1, p.2)

/-- The whole meaning of a row that is a write of one integer to one object. -/
def cmdRow (t : Nat) (who : Who) (idx sub v : Nat) (act : Session → State → Status × State) (s : State) :
    Host.Outcome State Fault Refusal :=
  .next (serve who (writeCmd who.sess idx sub v act) (s.begin t))

/-- The whole meaning of a row that is a write of one DOMAIN to one object. -/
def domRow (t : Nat) (who : Who) (idx sub : Nat) (b : Bytes) (lo hi : Nat) (ok : State → Bool)
    (act : Session → State → Status × State) (s : State) : Host.Outcome State Fault Refusal :=
  .next (serve who (writeDom who.sess idx sub b lo hi ok act) (s.begin t))

end Sys2Proof.Machine
end

