-- ==== Sys2Proof/Machine/Tick.lean ====
section
/-! DEFINITION. The tick unit (chapter 2, R30 to R51): states, hold, first lock, stretch ticks, re-alignment, holdover. -/
namespace Sys2Proof.Machine

open Sys2Proof

/-- Tick states of R39. -/
abbrev tickHOLD : Nat := 0
abbrev tickFREERUN : Nat := 1
abbrev tickLOCKED : Nat := 2
abbrev tickHOLDOVER : Nat := 3

/-- Bits of *tick flags* (R51). -/
abbrev tfUNLOCKED : Nat := 0
abbrev tfHELD : Nat := 1
abbrev tfFREERUNSCHED : Nat := 2
abbrev tfHOLDOVER : Nat := 3
abbrev tfPHASEERROR : Nat := 4
abbrev tfSTEPTAKEN : Nat := 5
abbrev tfREALIGN : Nat := 6

/-- The tick state in force. -/
def State.tickState (s : State) : Nat := s.n O.tickState

/-- Is Scheduled forwarding held on a lane: its gate list does not run (R40, R42)? -/
def State.laneHeld (s : State) (n : Nat) : Bool := !(s.lane n).gateRunning

/-- Is `n` a cycle boundary of a cycle of `len` ticks (R32)? -/
def isCycleBoundary (len n : Nat) : Bool := n % len == 0

/-- The cycle length of a lane's list in force (R156, R159). -/
def State.laneCycle (s : State) (n : Nat) : Nat := max 1 (s.n (laneSub O.gateCycle n))

/-- Every gate list stops: Scheduled queues close and every other queue stands open (R40). -/
def State.stopLists (s : State) : State :=
  { s with lanes := mapVals (fun l => { l with gateRunning := false, gateStates := 0x7F, gateOwner := 0xFFFF,
                                               gateNext := 0, hold := false }) s.lanes }

/-- R40, R43: the Scheduled frames that wait when a hold begins are lost, and counted with the window misses. -/
def State.loseScheduled (s : State) : State :=
  (s.lanes.map (·.1)).foldl (fun (s : State) n =>
    let k := ((s.lane n).queues.filter (fun f => f.tc == 7)).length
    (s.addTo (bySub O.windowMisses n) k (2 ^ 64 - 1)).updLane n (fun l => { l with queues := l.queues.filter (fun f => f.tc != 7) })) s

/-- A hold begins (R40, R43): the state becomes HOLD, HELD is set, the lists stop and what waits for them is lost. -/
def State.enterHold (s : State) : State :=
  let s := s.loseScheduled
  let s := ((s.setN O.tickState tickHOLD).setFlag O.tickFlags tfHELD true).setFlag O.tickFlags tfHOLDOVER false
  let s := s.stopLists
  { s with tick := { s.tick with holdSince := s.now } }

/-- R41: in HOLD, an expired *lock hold timeout* (not 0) makes the tick unit enter FREE_RUN and sets FREE_RUN_SCHED.  The
hold ends, and each lane's list starts at its next cycle boundary (HOLD_END). -/
def lockHoldTimeout (s : State) : State :=
  let ms := s.n O.lockHoldTimeout
  if s.tickState = tickHOLD ∧ s.tick.stretch = none ∧ ms ≠ 0 ∧ ms * 1000000 ≤ s.now - s.tick.holdSince then
    (s.setN O.tickState tickFREERUN).setFlag O.tickFlags tfFREERUNSCHED true
  else s

def execLockHoldTimeout (t : Nat) (s : State) : Host.Outcome State Fault Refusal :=
  .next (lockHoldTimeout (s.begin t))

/-- R42, R43, R45: domain 0 declares lock.  The first lock since the start or wake schedules the phase step for the next
local boundary; a lock after HOLDOVER returns to LOCKED with no step. -/
def lockDeclared (s : State) : State :=
  if s.flag O.tickFlags tfUNLOCKED then
    let s := s.setFlag O.tickFlags tfUNLOCKED false
    { s with tick := { s.tick with lockPending := true } }
  else if s.tick.stretch.isSome then { s with tick := { s.tick with lost := false } }
  else if s.tickState = tickHOLDOVER then
    let s := (s.setN O.tickState tickLOCKED).setFlag O.tickFlags tfHOLDOVER false
    s.logLead Ev.holdover 0xFFFF [(1, 0), (1, 1)]
  else s

def execFirstLock (t : Nat) (s : State) : Host.Outcome State Fault Refusal :=
  .next (lockDeclared (s.begin t))

/-- Is a phase step due at the next local boundary (R42, R44)? -/
def State.stepDue (s : State) : Bool :=
  s.tick.stretch.isNone && (s.tick.lockPending || s.flag O.tickFlags tfREALIGN)

/-- The aligned boundary that ends a stretch tick which starts at domain time `g`: the earliest at least one period
later (R42), as a tick number. -/
def stretchEnd (g p : Nat) : Nat := ceilDiv (g + p) p

/-- R44: the plans whose switch tick a stretch tick that ends at `e` passes switch at the first boundaries from `e` on, and the
announced switch ticks follow. -/
def State.moveSwitches (s : State) (e : Nat) : State :=
  let moved := (s.plan.pending.foldl (fun (a : List Plan × Nat) p => (a.1 ++ [{ p with switchTick := max p.switchTick a.2 }], max p.switchTick a.2 + 1)) ([], e)).1
  moved.foldl (fun (s : State) p =>
    let s := if s.n O.newGeneration = p.gen then s.setN O.switchTick p.switchTick else s
    if s.n O.pendingGeneration = p.gen then s.setN O.pendingSwitchTick p.switchTick else s)
    { s with plan := { s.plan with pending := moved } }

/-- R42: the stretch tick starts.  It carries the number of the aligned tick it ends with, minus one; the jump is
logged; in FREE_RUN or on a re-align the hold is imposed again (R43, R44). -/
def startStretch (g : Nat) (s : State) : State :=
  if s.stepDue then
    let e := stretchEnd g s.period
    let old := s.tickNo
    let lost := s.tickState == tickHOLDOVER
    let s := s.enterHold
    let s := if s.tick.lockPending then s.setFlag O.tickFlags tfSTEPTAKEN true else s
    let s := { s with tick := { s.tick with stretch := some e, lockPending := false, again := false, lost := lost, start := s.now } }
    let s := ((s.setN O.tickNumber (e - 1)).setN O.lastStretchTick (e - 1)).moveSwitches e
    s.logLead Ev.tickStep 0xFFFF [(8, old)]
  else s

def execStretchTickStart (t : Nat) (gptp : Nat) (s : State) : Host.Outcome State Fault Refusal :=
  .next (startStretch gptp (s.begin t))

/-- *tick phase error*, saturating, with PHASE_ERROR while its magnitude exceeds 1 µs (R44, R50). -/
def State.setPhaseError (s : State) (e : Int) : State :=
  let e := clampI (-2147483648) 2147483647 e
  (s.setO O.tickPhaseError e).setFlag O.tickFlags tfPHASEERROR (decide (1000 < e.natAbs))

/-- R42: the stretch tick ends at the aligned boundary: the state becomes LOCKED, or HOLDOVER where the grandmaster is gone by then
(R45), FREE_RUN_SCHED and REALIGN_PENDING clear, the latter unless a further re-align was requested.  The lanes' lists still wait for
their cycle boundaries. -/
def endStretch (s : State) : State :=
  match s.tick.stretch with
  | none => s
  | some e =>
    let again := s.tick.again
    let lost := s.tick.lost
    let s := { s with tick := { s.tick with stretch := none, again := false, lost := false, start := s.now } }
    let s := (s.setN O.tickNumber e).setN O.tickState (if lost then tickHOLDOVER else tickLOCKED)
    let s := (s.setFlag O.tickFlags tfFREERUNSCHED false).setFlag O.tickFlags tfREALIGN again
    ((s.setFlag O.tickFlags tfHOLDOVER lost).setPhaseError 0)

def execStretchTickEnd (t : Nat) (s : State) : Host.Outcome State Fault Refusal :=
  .next (endStretch (s.begin t))

/-- Has the hold ended, so that lists may start (R42): the unit is no longer in HOLD? -/
def State.holdEnded (s : State) : Bool := s.tickState != tickHOLD

/-- The gate states in force at the start of a cycle: those of the last entry, every gate open for an empty list (R156). -/
def cycleStartStates (l : List GateEntry) : Nat :=
  match l.getLast? with
  | some e => e.states
  | none => 0xFF

/-- The owner of the class-7 window open at the start of a cycle. -/
def cycleStartOwner (l : List GateEntry) : Nat :=
  match l.getLast? with
  | some e => e.owner
  | none => 0xFFFF

/-- The list a lane runs: the administrative list where it is due, else the plan's (R158, R159). -/
def State.listOf (s : State) (n : Nat) : List GateEntry :=
  if (s.lane n).adminRunning then gateEntries (s.blob (at_ O.adminEntries n))
  else (get {} s.plan.active.lanes n).list

/-- Time since the start of the lane's gate cycle, ns. -/
def State.cyclePos (s : State) (n : Nat) : Nat := s.tickNo % s.laneCycle n * s.period + s.phase

/-- Number of the lane's gate cycle in progress. -/
def State.cycleRound (s : State) (n : Nat) : Nat := s.tickNo / s.laneCycle n

/-- A running list taken up at the position of its cycle: the states of the last entry passed, and the entry that comes next (R49,
R156). -/
def State.seekGate (s : State) (n : Nat) : State :=
  let l := s.listOf n
  let pos := s.cyclePos n
  let past := l.filter (fun e => decide (e.off < pos))
  let cur := match past.getLast? with | some e => (e.states, e.owner) | none => (cycleStartStates l, cycleStartOwner l)
  s.updLane n (fun x =>
    { x with gateStates := cur.1, gateOwner := cur.2, gateNext := if past.length < l.length then past.length else 0,
             gateRound := if past.length < l.length then s.cycleRound n else s.cycleRound n + 1 })

/-- R42: the lane's list starts at its first cycle boundary at or after the end of the hold; the hold flag clears when no
present lane waits any more. -/
def laneHoldEnd (lane : Nat) (s : State) : State :=
  if s.hasLane lane && s.holdEnded && s.laneHeld lane && !(get {} s.pkg.clusters (8 * (lane / 8) + lane % 8 / 2)).restarting && isCycleBoundary (s.laneCycle lane) s.tickNo then
    let l := s.listOf lane
    let s := s.updLane lane (fun x =>
      { x with gateRunning := true, gateStates := cycleStartStates l, gateOwner := cycleStartOwner l, gateNext := 0,
               gateRound := s.tickNo / s.laneCycle lane })
    if (List.range s.laneCount).all (fun n => !s.laneHeld n) then s.setFlag O.tickFlags tfHELD false else s
  else s

def execHoldEnd (t : Nat) (lane : Nat) (s : State) : Host.Outcome State Fault Refusal :=
  .next (laneHoldEnd lane (s.begin t))

/-- R44: a write of 1 to *re-align tick* requests one more step; REALIGN_PENDING stands until its stretch tick ends.  A request in a
stretch tick is for the step after it.  One before first lock or in FREE_RUN takes its step all the same and ends in LOCKED, UNLOCKED
standing where it stood; one in HOLDOVER ends in HOLDOVER again (DESIGN CHOICE, log entry 89). -/
def requestRealign (_ : Session) (s : State) : Status × State :=
  (.ok, { s.setFlag O.tickFlags tfREALIGN true with tick := { s.tick with again := s.tick.stretch.isSome } })

def execReAlignTick (t : Nat) (who : Who) (s : State) : Host.Outcome State Fault Refusal :=
  cmdRow t who 0x2100 7 1 requestRealign s

/-- R45: the grandmaster of domain 0 vanishes or changes: HOLDOVER, at the last locked rate, and forwarding goes on.  In a stretch tick
the state that it ends in is HOLDOVER. -/
def tickHoldover (s : State) : State :=
  if s.tickState = tickLOCKED then
    let s := (s.setN O.tickState tickHOLDOVER).setFlag O.tickFlags tfHOLDOVER true
    s.logLead Ev.holdover 0xFFFF [(1, 0), (1, 0)]
  else if s.tick.stretch.isSome ∧ s.tick.lost = false then
    ({ s with tick := { s.tick with lost := true } }).logLead Ev.holdover 0xFFFF [(1, 0), (1, 0)]
  else s

def execHoldover (t : Nat) (s : State) : Host.Outcome State Fault Refusal :=
  .next (tickHoldover (s.begin t))

/-- R44: slewing moves the phase by at most 200 ppm of a period a tick; PHASE_ERROR stands while the error exceeds
1 µs. -/
def slewPhase (s : State) : State :=
  let e := s.o O.tickPhaseError
  let step : Int := ((s.period * 200 / 1000000 : Nat) : Int)
  let e' : Int := if e < -step then e + step else if step < e then e - step else 0
  s.setPhaseError (if s.tickState = tickLOCKED then e' else e)

/-- The boundary's change of the tick number: a due step starts a stretch tick, a stretch tick ends at its aligned
boundary, any other tick is followed by the next number (R31, R42). -/
def nextTick (g : Nat) (s : State) : State :=
  if s.stepDue then startStretch g s
  else
    match s.tick.stretch with
    | some e => if e * s.period ≤ g then endStretch s else s
    | none =>
      let s := { s with tick := { s.tick with start := s.now } }
      slewPhase (s.setN O.tickNumber (s.tickNo + 1))

end Sys2Proof.Machine
end

