-- ==== Sys2Proof/Machine/Contracts.lean ====
section
/-! DEFINITION. Staging and commit control (chapter 3, R57 to R64). -/
namespace Sys2Proof.Machine

open Sys2Proof

/-- Slot states of R58. -/
abbrev slEMPTY : Nat := 0
abbrev slSTAGEDNEW : Nat := 1
abbrev slACTIVE : Nat := 2
abbrev slSTAGEDCHANGE : Nat := 3
abbrev slSTAGEDDELETE : Nat := 4
abbrev slBROKEN : Nat := 5
abbrev slSHED : Nat := 6

/-- Commit statuses of R61. -/
abbrev csIDLE : Nat := 0
abbrev csRUNNING : Nat := 1
abbrev csSWITCHPENDING : Nat := 2
abbrev csSWITCHED : Nat := 3
abbrev csREFUSED : Nat := 4
abbrev csABORTED : Nat := 5
abbrev csCANCELLED : Nat := 6
abbrev csCHECKED : Nat := 7

/-- Migration statuses of R99. -/
abbrev msIDLE : Nat := 0
abbrev msRUNNING : Nat := 1
abbrev msSWITCHPENDING : Nat := 2
abbrev msSWITCHED : Nat := 3
abbrev msREFUSED : Nat := 4
abbrev msABANDONED : Nat := 5
abbrev msCANCELLED : Nat := 6

/-- R58: the state after a write of *staged record*. -/
def afterStage : Nat → Nat
  | 0 => 1 | 1 => 1 | 2 => 3 | 3 => 3 | 4 => 3 | 5 => 1 | n => n

/-- R58: the state after *stage delete*. -/
def afterDelete : Nat → Nat
  | 1 => 0 | 2 => 4 | 3 => 4 | 5 => 0 | n => n

/-- R58: the state after *discard staged*. -/
def afterDiscard : Nat → Nat
  | 1 => 0 | 3 => 2 | 4 => 2 | n => n

/-- A slot in or out of a list. -/
def markSlot (on : Bool) (slot : Nat) (l : List Nat) : List Nat := if on then slot :: l else l.filter (· ≠ slot)

/-- A slot was written: a running or pending commit does not take that content (R59); `gone`: the write is a staged delete. -/
def State.noteStaged (s : State) (slot : Nat) (gone : Bool) : State :=
  { s with plan := { s.plan with
      snapshot := s.plan.snapshot.map (fun n => { n with since := slot :: n.since, deleted := markSlot gone slot n.deleted }),
      pending := s.plan.pending.map (fun p => { p with since := slot :: p.since, deleted := markSlot gone slot p.deleted }) } }

/-- The staged record of a slot, if it holds staged content. -/
def State.stagedRec (s : State) (slot : Nat) : Option Bytes := look s.staged.blobs (stagedKey slot)

/-- A slot holds staged content: a record or a delete. -/
def State.hasStaged (s : State) (slot : Nat) : Bool := (s.stagedRec slot).isSome || s.plan.stagedDel.contains slot

/-- The staged content of a slot removed. -/
def State.dropStaged (s : State) (slot : Nat) : State :=
  { s with staged := { s.staged with blobs := del s.staged.blobs (stagedKey slot) },
           plan := { s.plan with stagedDel := s.plan.stagedDel.filter (· ≠ slot) } }

/-- A staged record put into a slot. -/
def State.putStaged (s : State) (slot : Nat) (r : Bytes) : State :=
  { s with staged := { s.staged with blobs := ins s.staged.blobs (stagedKey slot) r },
           plan := { s.plan with stagedDel := s.plan.stagedDel.filter (· ≠ slot) } }

/-- A staged delete put into a slot. -/
def State.putDelete (s : State) (slot : Nat) : State :=
  let s := s.dropStaged slot
  { s with plan := { s.plan with stagedDel := slot :: s.plan.stagedDel } }

/-- A slot enters a state; an EMPTY slot has no active record (R57, R58). -/
def State.enterSlot (s : State) (slot st : Nat) : State :=
  (if st = slEMPTY then { s with dict := { s.dict with blobs := del s.dict.blobs (activeKey slot) } } else s).setN (slotStateKey slot) st

/-- Slots in a state. -/
def State.slotCount (s : State) (st : Nat) : Nat :=
  ((s.dict.objs.filter (fun e => decide (0x300003 ≤ e.1) && decide (e.1 ≤ 0x4FFF03) && e.1 % 256 == 3)).filter
    (fun e => e.2 == ((st : Nat) : Int))).length

/-- *broken contracts* brought up to date (R60). -/
def State.recountBroken (s : State) : State := s.setN O.brokenContracts (s.slotCount slBROKEN)

/-- R58: a write of *staged record*. -/
def stageRecord (slot : Nat) (r : Bytes) (_ : Session) (s : State) : Status × State :=
  let st := s.slotState slot
  (.ok, (((s.putStaged slot r).noteStaged slot false).enterSlot slot (afterStage st)).recountBroken)

def execStageRecord (t : Nat) (who : Who) (slot : Nat) (rec : Bytes) (s : State) : Host.Outcome State Fault Refusal :=
  domRow t who (0x3000 + slot) 1 rec 64 64 (fun _ => contractReservedOk rec) (stageRecord slot rec) s

/-- R58: *stage delete*. -/
def stageDelete (slot : Nat) (_ : Session) (s : State) : Status × State :=
  let st := s.slotState slot
  let s := if st = slACTIVE ∨ st = slSTAGEDCHANGE ∨ st = slSHED then s.putDelete slot
           else if st = slSTAGEDNEW ∨ st = slBROKEN then s.dropStaged slot else s
  (.ok, ((s.noteStaged slot true).enterSlot slot (afterDelete st)).recountBroken)

def execStageDelete (t : Nat) (who : Who) (slot : Nat) (s : State) : Host.Outcome State Fault Refusal :=
  cmdRow t who (0x3000 + slot) 4 1 (stageDelete slot) s

/-- R58: *discard staged*. -/
def discardStaged (slot : Nat) (_ : Session) (s : State) : Status × State :=
  let st := s.slotState slot
  let s := if st = slEMPTY ∨ st = slACTIVE ∨ st = slBROKEN then s else (s.dropStaged slot).noteStaged slot false
  (.ok, s.enterSlot slot (afterDiscard st))

def execDiscardStaged (t : Nat) (who : Who) (slot : Nat) (s : State) : Host.Outcome State Fault Refusal :=
  cmdRow t who (0x3000 + slot) 5 1 (discardStaged slot) s

/-- The commit status in force. -/
def State.commitStatus (s : State) : Nat := s.n O.commitStatus

/-- The slots that hold staged content, lowest first, with it (R59). -/
def State.stagedSlots (s : State) : SMap (Option Bytes) :=
  let recs := s.staged.blobs.filterMap (fun e =>
    if 0x3000 ≤ muxOf e.1 / 256 ∧ muxOf e.1 / 256 ≤ 0x4FFF then some (muxOf e.1 / 256 - 0x3000, some e.2) else none)
  s.plan.stagedDel.foldl (fun m d => ins m d none) (recs.foldl (fun m e => ins m e.1 e.2) [])

/-- The staged values of C objects other than contract slots. -/
def State.stagedObjs (s : State) : Dict :=
  { s.staged with blobs := s.staged.blobs.filter (fun e => !(decide (0x3000 ≤ muxOf e.1 / 256))) }

/-- R63: the accepted generation is copied to :07 and :08 before the verdict objects are rewritten. -/
def State.copyPending (s : State) : State :=
  if s.commitStatus = csSWITCHPENDING then
    (s.setN O.pendingGeneration (s.n O.newGeneration)).setN O.pendingSwitchTick (s.n O.switchTick)
  else s

/-- R60: the verdict objects at their defaults, for the command just accepted. -/
def State.clearVerdict (s : State) : State :=
  ((((((((((s.setN O.verdict 0).setN O.violatingSlot 0xFFFF).setN O.violatingContractID 0).setN O.violatedResource 0).setO
    O.margin 0).setN O.marginUnit 0).setN O.faultCase 0).setN O.innerVerdict 0).setN O.newGeneration 0).setN
    O.switchTick 0).setN O.brokenByCommit 0

/-- R99: a running migration is abandoned and logged. -/
def State.abandonMigration (s : State) : State :=
  if s.n O.migrationStatus = msRUNNING then
    (s.setN O.migrationStatus msABANDONED).logLead Ev.migrationEnded 0xFFFF [(1, msABANDONED), (4, 0)]
  else s

/-- The lanes in service, as a mask (R107, R123); a member that LACP took out counts as one that lost signal (R119). -/
def State.lanesInService (s : State) : Nat :=
  maskOf ((List.range s.laneCount).filter (fun n => s.flag (laneKey O.linkStatus n) 3 && !s.flag (laneKey O.linkStatus n) 6))

/-- R59, R61, R63: command 1, 3 or 4 starts: the staged content is taken as it stands, and the status becomes RUNNING. -/
def startCommit (cmd : Nat) (sess : Nat) (x : Session) (s : State) : Status × State :=
  if s.commitStatus = csRUNNING then (.deviceState, s)
  else
    let s := s.copyPending.abandonMigration
    let s := (s.clearVerdict.setN O.commitStatus csRUNNING).setN O.commitSequence ((s.n O.commitSequence + 1) % 2 ^ 32)
    (.ok, { s with plan := { s.plan with
      snapshot := some ⟨cmd, sess, x.role, s.stagedSlots, s.stagedObjs, [], [], s.lanesInService, s.now⟩ } })

/-- R371: in Standby, commands 1 and 4 are refused; command 3 runs in Standby. -/
def whenActive (act : Session → State → Status × State) (x : Session) (s : State) : Status × State :=
  if s.n O.powerState = 2 then (.deviceState, s) else act x s

def execCommit (t : Nat) (who : Who) (s : State) : Host.Outcome State Fault Refusal :=
  cmdRow t who 0x5000 1 1 (whenActive (startCommit 1 who.sess)) s

def execCheckOnly (t : Nat) (who : Who) (s : State) : Host.Outcome State Fault Refusal :=
  cmdRow t who 0x5000 1 3 (startCommit 3 who.sess) s

def execCommitForcingDisables (t : Nat) (who : Who) (s : State) : Host.Outcome State Fault Refusal :=
  cmdRow t who 0x5000 1 4 (whenActive (startCommit 4 who.sess)) s

/-- R62: an abort succeeds only while the status is RUNNING. -/
def abortCommit (_ : Session) (s : State) : Status × State :=
  if s.commitStatus = csRUNNING then
    (.ok, { s.setN O.commitStatus csABORTED with plan := { s.plan with snapshot := none } })
  else (.alreadyDone, s)

def execCommitAbort (t : Nat) (who : Who) (s : State) : Host.Outcome State Fault Refusal :=
  cmdRow t who 0x5000 1 2 abortCommit s

/-- The staged content of every slot discarded, as *discard staged* would (R58). -/
def State.discardSlots (s : State) : State :=
  (keys s.stagedSlots).foldl (fun s slot =>
    (s.dropStaged slot).enterSlot slot (afterDiscard (s.slotState slot))) s

/-- R63: the slots of the pending generation keep the staged content that its snapshot took. -/
def State.restoreTaken (s : State) (p : Plan) : State :=
  p.taken.foldl (fun s e =>
    match e.2 with
    | some r => (s.putStaged e.1 r).setN (slotStateKey e.1) (afterStage (s.slotState e.1))
    | none => (s.putDelete e.1).setN (slotStateKey e.1) (afterDelete (s.slotState e.1))) s

/-- R61, R63, R411: command 5 discards the staged content of every slot and every C object; under a pending switch only
what came after its snapshot. -/
def discardAll (_ : Session) (s : State) : Status × State :=
  if s.commitStatus = csRUNNING then (.deviceState, s)
  else
    let s := s.copyPending
    let s := s.discardSlots
    let s := { s with staged := s.staged.minus s.stagedObjs }
    let s := s.plan.pending.foldl (fun (s : State) p =>
      let s := s.restoreTaken p
      { s with staged := s.staged.excess p.dict }) s
    let s := { s with plan := { s.plan with pending := s.plan.pending.map (fun (p : Plan) => { p with since := [], deleted := [] }) } }
    (.ok, s.setN O.commitStatus csIDLE)

def execDiscardAllStaged (t : Nat) (who : Who) (s : State) : Host.Outcome State Fault Refusal :=
  cmdRow t who 0x5000 1 5 discardAll s

/-- R63, R95: a fault plan that activates, or a change of the lead, cancels a running or pending commit and migration. -/
def State.cancelCommits (s : State) : State :=
  let busy := s.commitStatus == csRUNNING || s.commitStatus == csSWITCHPENDING || s.n O.pendingGeneration != 0
  let s := if busy then s.setN O.commitStatus csCANCELLED else s
  let ms := s.n O.migrationStatus
  let s := if ms = msRUNNING ∨ ms = msSWITCHPENDING then s.setN O.migrationStatus msCANCELLED else s
  let s := (s.setN O.pendingGeneration 0).setN O.pendingSwitchTick 0
  { s with plan := { s.plan with pending := [], snapshot := none } }

end Sys2Proof.Machine
end

