-- ==== Sys2Proof/Machine/Lanes.lean ====
section
/-! DEFINITION. Lanes and link state (chapter 5, R105 to R108, R119, R121 to R123). -/
namespace Sys2Proof.Machine

open Sys2Proof

/-- Bits of *link status* (R123). -/
abbrev lkSIGNAL : Nat := 0
abbrev lkLOCK : Nat := 1
abbrev lkANDONE : Nat := 2
abbrev lkINSERVICE : Nat := 3
abbrev lkHOLDOFF : Nat := 4
abbrev lkRATEMISMATCH : Nat := 5
abbrev lkLACPOUT : Nat := 6

/-- One bit of a lane's *link status*. -/
def State.link (s : State) (n i : Nat) : Bool := s.flag (laneKey O.linkStatus n) i

/-- Set one bit of a lane's *link status*. -/
def State.setLink (s : State) (n i : Nat) (b : Bool) : State := s.setFlag (laneKey O.linkStatus n) i b

/-- Is the lane in service (R107)? -/
def State.inService (s : State) (n : Nat) : Bool := s.hasLane n && s.link n lkINSERVICE

/-- Does a mode use auto-negotiation (R105, R106)? -/
def State.usesAutoneg (s : State) (n : Nat) : Bool :=
  s.n (laneKey O.laneMode n) != 0 && s.n (laneKey O.autoNegotiation n) == 1

/-- Is the lane's enable committed at 1 (R121)? -/
def State.laneOn (s : State) (n : Nat) : Bool := s.hasLane n && s.n (laneKey O.laneEnable n) == 1

/-- R107: lock and negotiation hold, so the link-up hold-off runs from now. -/
def State.tryHoldOff (s : State) (n : Nat) : State :=
  if s.link n lkLOCK && s.link n lkANDONE && !s.link n lkRATEMISMATCH && !s.link n lkINSERVICE && !(s.lane n).heldBySummit &&
      (s.lane n).testMode == 0 && !s.link n lkHOLDOFF then
    (s.setLink n lkHOLDOFF true).updLane n (fun l => { l with upSince := some s.now })
  else s

/-- R107: the PCS gains lock or synchronisation, and the lane is out of loss of signal.  Where no negotiation is used, it counts as
complete (R123). -/
def lockGained (n : Nat) (s : State) : State :=
  if s.laneOn n then
    let s := (s.setLink n lkLOCK true).updLane n (fun l => { l with lossSince := none })
    let s := if s.link n lkRATEMISMATCH then s else s.setLink n lkSIGNAL true
    let s := if s.usesAutoneg n then s else s.setLink n lkANDONE true
    s.tryHoldOff n
  else s

def execLockGained (t : Nat) (lane : Nat) (s : State) : Host.Outcome State Fault Refusal :=
  .next (lockGained lane (s.begin t))

/-- R107: the conditions of service break: the link-up hold-off, or the verification after it, is over. -/
def State.breakHoldOff (s : State) (n : Nat) : State :=
  let s := (s.setLink n lkHOLDOFF false).updLane n (fun l => { l with upSince := none })
  if s.n (laneSub O.preemptionStatus n) = 1 then s.setN (laneSub O.preemptionStatus n) 0 else s

/-- R107: lock is lost or the PHY reports link down: LOCK clears and the loss hold-off starts. -/
def lockLost (n : Nat) (s : State) : State :=
  if s.laneOn n then
    let s := (s.setLink n lkLOCK false).breakHoldOff n
    let s := if s.usesAutoneg n then s.setLink n lkANDONE false else s
    s.updLane n (fun l => { l with lossSince := some (l.lossSince.getD s.now) })
  else s

def execLockLost (t : Nat) (lane : Nat) (s : State) : Host.Outcome State Fault Refusal :=
  .next (lockLost lane (s.begin t))

/-- Frames dropped on a lane, counted in *drained*. -/
def State.countDrained (s : State) (n k : Nat) : State := s.addTo (laneKey O.drained n) k (2 ^ 64 - 1)

/-- R175, R107: the frames queued on a lane dropped and counted as drained; the frame being sent is not among them. -/
def State.drainLane (s : State) (n : Nat) : State :=
  let k := (s.lane n).queues.length + (if (s.lane n).preempted.isSome then 1 else 0)
  let fifo := (s.fwd.shapers.filter (fun e => e.2.lane == n)).foldl (fun a e => a + e.2.fifo.length) 0
  let s := s.updLane n (fun l => { l with queues := [], preempted := none })
  let clear := fun (x : ShaperSt) => if x.lane = n then { x with fifo := [] } else x
  let s := { s with fwd := { s.fwd with shapers := mapVals clear s.fwd.shapers } }
  s.addTo (laneKey O.drained n) (k + fifo) (2 ^ 64 - 1)

/-- The members of a group that are in service and not held out by LACP (R119). -/
def State.lagActive (s : State) (g : Nat) : List Nat :=
  (s.lagMembers g).filter (fun n => s.inService n && !s.link n lkLACPOUT)

/-- *members in service* of the group a lane is in, brought up to date (R125). -/
def State.refreshLag (s : State) (n : Nat) : State :=
  match s.lagOf n with
  | none => s
  | some g => s.setN (byIdx O.membersInService g) (maskOf (s.lagActive g))

/-- R131: the dynamic entries learned on an endpoint flushed, on every die. -/
def State.flushEndpoint (s : State) (ep : Nat) : State :=
  { s with fwd := { s.fwd with fdb := mapVals (fun m => m.filter (fun e => e.2.static || e.2.endpoint != ep)) s.fwd.fdb } }

/-- Entries of the database of the lead's die, for the counts of R146. -/
def State.fdbOf (s : State) (d : Nat) : SMap FdbEntry := get [] s.fwd.fdb d

/-- *FDB entries in use* and *FDB static entries* brought up to date. -/
def State.refreshFdb (s : State) : State :=
  let m := s.fdbOf s.pkg.lead
  (s.setN O.fdbEntriesInUse m.length).setN O.fdbStaticEntries (m.filter (fun e => e.2.static)).length

/-- R120, R131: a member lost: failover counted and timed, its queue drained, the group's entries flushed when no member
is left; any other lane has its entries flushed. -/
def State.lagFailover (s : State) (n : Nat) (onset : Nat) : State :=
  match s.lagOf n with
  | none => (s.flushEndpoint (epLane n)).refreshFdb
  | some g =>
    let s := s.refreshLag n
    let s := (s.inc32 (byIdx O.failovers g)).setN (byIdx O.lastFailoverTime g) (satN (2 ^ 32 - 1) (s.now - onset))
    if s.lagActive g = [] then (s.flushEndpoint (epLag g)).refreshFdb else s

/-- R108, R120: what the loss of a lane's signal does to its traffic: no contract traffic until a commit, its queue drained; one that was
in service fails over. -/
def State.loseTraffic (s : State) (n onset : Nat) (was : Bool) : State :=
  let s := s.updLane n (fun l => { l with contractOk := false, lostAt := s.now })
  let s := s.drainLane n
  if was then s.lagFailover n onset else s

/-- R107: loss of signal declared, without the event: the lane leaves service, its queue is drained, its group fails
over. -/
def State.loseSignal (s : State) (n : Nat) : State :=
  let onset := (s.lane n).lossSince.getD s.now
  let was := s.inService n
  let s := (((s.setLink n lkSIGNAL false).setLink n lkINSERVICE false).setLink n lkHOLDOFF false)
  let s := s.updLane n (fun l => { l with upSince := none, lossSince := none })
  (s.setN (laneSub O.preemptionStatus n) 0).loseTraffic n onset was

/-- R107, R161: the lane enters service. -/
def State.enterService (s : State) (n : Nat) : State :=
  let s := ((s.setLink n lkHOLDOFF false).setLink n lkSIGNAL true).setLink n lkINSERVICE true
  (s.updLane n (fun l => { l with upSince := none, creditTime := s.now, beTime := s.now })).refreshLag n

/-- R449: the tests of lanes that satisfy `p` end with INTERRUPTED, and their modes return to 0. -/
def State.interruptTests (s : State) (p : Nat → Bool) : State :=
  ((List.range s.laneCount).filter (fun n => p n && (s.lane n).testMode != 0)).foldl (fun (s : State) n =>
    let m := (s.lane n).testMode
    let s := (s.updLane n (fun l => { l with testMode := 0 })).setN (laneSub O.laneTestMode n) 0
    (s.setN (laneSub O.testStatus n) 5).logEv (dieOfLane n) Ev.laneTest (epLane n) [(1, n), (1, m), (1, 2)]) s

/-- R107, R161: the lane enters service; one with preemption and verify enabled verifies first. -/
def State.holdOffDone (s : State) (n : Nat) : State :=
  if s.n (laneSub O.preemptionEnable n) = 1 then
    if s.n (laneSub O.preemptionVerify n) = 1 then
      ((s.setLink n lkHOLDOFF false).setN (laneSub O.preemptionStatus n) 1).updLane n
        (fun l => { l with upSince := none, verifyTries := 0 })
    else (s.enterService n).setN (laneSub O.preemptionStatus n) 2
  else s.enterService n

/-- Do the conditions of R107 hold: lock, and negotiation complete at the matching rate? -/
def State.linkReady (s : State) (n : Nat) : Bool := s.link n lkLOCK && s.link n lkANDONE && !s.link n lkRATEMISMATCH

/-- R107, R161: the link-up hold-off has run its time. -/
def linkUpHoldOff (n : Nat) (s : State) : State :=
  match (s.lane n).upSince with
  | none => s
  | some u =>
    if s.laneOn n && s.linkReady n && decide (s.n (laneKey O.linkUpHoldOff n) * 1000000 ≤ s.now - u) then s.holdOffDone n else s

def execLinkUpHoldOff (t : Nat) (lane : Nat) (s : State) : Host.Outcome State Fault Refusal :=
  .next (linkUpHoldOff lane (s.begin t))

/-- R161: verification succeeds, and the lane enters service with preemption active; or it fails after its attempts, is
logged, and the lane stays out of service. -/
def verifyDone (n : Nat) (ok : Bool) (s : State) : State :=
  if s.hasLane n && s.n (laneSub O.preemptionStatus n) == 1 && s.linkReady n then
    if ok then (s.enterService n).setN (laneSub O.preemptionStatus n) 2
    else
      let s := (s.setN (laneSub O.preemptionStatus n) 3).updLane n (fun l => { l with verifyTries := 3 })
      s.logEv (dieOfLane n) Ev.preemptVerifyFail (epLane n) [(1, n)]
  else s

def execPreemptionVerifyDone (t : Nat) (lane : Nat) (ok : Bool) (s : State) : Host.Outcome State Fault Refusal :=
  .next (verifyDone lane ok (s.begin t))

/-- R119: LACP returns a member to collecting and distributing. -/
def lacpIn (n : Nat) (s : State) : State :=
  match s.lagOf n with
  | none => s
  | some g =>
    if s.n (byIdx O.lacpMode g) = 0 then s
    else ((s.setLink n lkLACPOUT false).updLane n (fun l => { l with lacpOut := false })).refreshLag n

def execLacpCollectingDistributing (t : Nat) (lane : Nat) (s : State) : Host.Outcome State Fault Refusal :=
  .next (lacpIn lane (s.begin t))

/-- R122: *clear counters* clears :0C and :10 to :1D of one lane. -/
def clearLane (n : Nat) (_ : Session) (s : State) : Status × State :=
  (.ok, s.clearAll ((0x0C :: (List.range 14).map (0x10 + ·)).map (fun sub => mux (0x2200 + n) sub)))

def execClearLaneCounters (t : Nat) (who : Who) (lane : Nat) (s : State) : Host.Outcome State Fault Refusal :=
  cmdRow t who (0x2200 + lane) 0x1F 1 (clearLane lane) s

end Sys2Proof.Machine
end

