-- ==== Sys2Proof/Machine/PlanBuild.lean ====
section
/-! DEFINITION. What a plan gives the lanes and what bound it gives a contract: overheads, windows and gate lists, guard
bands, closed time, idle slopes, credit bounds and the latency formulae (R68, R70 to R73, R154 to R158, R160, R162, R164).
Times are in ps, rates in Mbit/s, unless a name says otherwise. -/
namespace Sys2Proof.Machine

open Sys2Proof

/-! ### Secure channels and overheads -/

/-- A secure-channel record in force (R331). -/
def State.channelRec (s : State) (c : Nat) : Bytes := s.blob (at_ O.channelRecords c)

/-- The enabled channel bound to a lane, if any (R331). -/
def State.channelOfLane (s : State) (n : Nat) : Option Nat :=
  ((List.range 64).map (· + 64 * dieOfLane n)).find? (fun c =>
    bit (fld (s.channelRec c) 2 1) 0 && fld (s.channelRec c) 3 1 == n)

/-- Does the lane run inline MACsec? -/
def State.macsecLane (s : State) (n : Nat) : Bool := (s.channelOfLane n).isSome

/-- The effective length overhead of a lane (R154). -/
def State.overhead (s : State) (n : Nat) : Int :=
  s.o (bySub O.lengthOverhead n) + (if s.macsecLane n then 32 else 0)

/-- A frame's length plus an overhead, at least 1 byte (R154). -/
def withOverhead (len : Nat) (o : Int) : Nat := max 1 ((len : Int) + o).toNat

/-- The bytes a frame of `len` counts on a lane. -/
def State.counted (s : State) (n len : Nat) : Nat := withOverhead len (s.overhead n)

/-- Rate of a lane in Mbit/s. -/
def State.mbps (s : State) (n : Nat) : Nat := s.laneRate n / 1000

/-- Time of `bytes` at `mbps`, in ps; exact for every rate of R105. -/
def psOf (bytes mbps : Nat) : Nat := if mbps = 0 then 0 else ceilDiv (bytes * 8 * 1000000) mbps

/-! ### The contracts on a lane -/

/-- A contract's copy on a lane: slot, record, its placement and its egress entry. -/
structure OnLane where
  slot : Nat
  cr : Bytes
  place : SlotPlan
  egr : EgrPlan

/-- A plan under test: the contracts it makes active and where they are placed. -/
structure PlanView where
  contracts : SMap Bytes
  place : Placement

/-- The placement of a slot in a view. -/
def PlanView.at (v : PlanView) (slot : Nat) : Option SlotPlan := v.place.slots.find? (fun p => p.slot == slot)

/-- The copies that leave on a lane, in slot order. -/
def PlanView.onLane (v : PlanView) (n : Nat) : List OnLane :=
  v.contracts.flatMap (fun e =>
    match v.at e.1 with
    | none => []
    | some p => (p.egr.filter (fun x => x.lane == n)).map (fun x => ⟨e.1, e.2, p, x⟩))

/-- The copies of one traffic class on a lane. -/
def ofTc (l : List OnLane) (tc : Nat) : List OnLane := l.filter (fun c => tcOfClass (Contract.cls c.cr) == tc)

/-- Does a contract have two or more lane or group endpoints, so that lane copies carry an R-TAG (R138)? -/
def frerTags (r : Bytes) : Bool :=
  decide (2 ≤ ((Contract.egress r).filter (fun e => epKind e == 0 || epKind e == 1)).length)

/-- The length at which Izost counts a lane copy: with the R-TAG of a FRER contract of two or more endpoints (R138). -/
def copyLen (r : Bytes) : Nat :=
  Contract.maxFrame r + (if Contract.redundancy r = 1 ∧ frerTags r = true then 6 else 0)

/-- b_j of R70, in bytes. -/
def burst (s : State) (n : Nat) (c : OnLane) : Nat := Contract.frames c.cr * s.counted n (copyLen c.cr)

/-- The interval of a contract in ps. -/
def intervalPs (s : State) (r : Bytes) : Nat := Contract.interval r * s.period * 1000

/-- The rate of R68 in kbit/s, rounded up, of `bytes` per interval. -/
def rateKbps (s : State) (r : Bytes) (bytes : Nat) : Nat :=
  ceilDiv (Contract.frames r * bytes * 8 * 1000000) (Contract.interval r * s.period)

/-- The largest frame of a class on a lane; classes 0 to 2 use the lane's maximum frame size (R157). -/
def largest (s : State) (n : Nat) (l : List OnLane) (tc : Nat) : Nat :=
  if tc ≤ 2 then s.n (laneKey O.maximumFrameSize n)
  else (ofTc l tc).foldl (fun m c => max m (copyLen c.cr)) 0

/-! ### Preemption (R161, R162) -/

/-- Is preemption enabled on the lane? -/
def State.preempts (s : State) (n : Nat) : Bool := s.n (bySub O.preemptionEnable n) == 1

/-- Is a class preemptible on the lane, where preemption is active (R150)? -/
def State.preemptible (s : State) (n tc : Nat) : Bool :=
  s.preempts n && decide (tc < 7) && bit (s.n (bySub O.preemptibleClasses n)) tc

/-- m_f of R161. -/
def State.minFragment (s : State) (n : Nat) : Nat := 64 * (1 + s.n (bySub O.additionalFragmentSize n))

/-! ### Windows and lists (R158) -/

/-- Length of a window in ns (R158). -/
def windowLen (s : State) (n : Nat) (c : OnLane) : Nat :=
  ceil8 (ceilDiv (psOf (burst s n c) (s.mbps n)) 1000) + 64

/-- The windowed contracts of a lane: Scheduled copies with a window offset. -/
def windowed (l : List OnLane) : List OnLane := (ofTc l 7).filter (fun c => c.egr.win != 0xFFFFFFFF)

/-- The cycle of a lane's plan list, in ticks (R158). -/
def planCycle (l : List OnLane) : Nat := (windowed l).foldl (fun a c => lcmN a (Contract.interval c.cr)) 1

/-- The windows of one cycle: (start, end, slot) in ns, unsorted. -/
def windowsOf (s : State) (n : Nat) (l : List OnLane) : List (Nat × Nat × Nat) :=
  (windowed l).flatMap (fun c =>
    (List.range (planCycle l / max 1 (Contract.interval c.cr))).map (fun k =>
      let a := k * Contract.interval c.cr * s.period + c.egr.win
      (a, a + windowLen s n c, c.slot)))

/-- Insert by start. -/
def insWin (w : Nat × Nat × Nat) : List (Nat × Nat × Nat) → List (Nat × Nat × Nat)
  | [] => [w]
  | x :: t => if w.1 ≤ x.1 then w :: x :: t else x :: insWin w t

/-- The windows of one cycle in ascending order. -/
def sortedWindows (s : State) (n : Nat) (l : List OnLane) : List (Nat × Nat × Nat) :=
  (windowsOf s n l).foldl (fun a w => insWin w a) []

/-- The entries of a plan list: one where a window opens, one where a run of windows ends (R158).  Abutting windows share
an entry.  A run that ends past the cycle's end ends inside the next cycle. -/
def listEntries (pre : Bool) (cyc first : Nat) : List (Nat × Nat × Nat) → List GateEntry
  | [] => []
  | [(a, e, w)] =>
    let rest := if e % cyc = first then [] else [⟨e % cyc, 0x7F, if pre then 2 else 0, 0xFFFF⟩]
    ⟨a % cyc, 0x80, if pre then 1 else 0, w⟩ :: rest
  | (a, e, w) :: (a', e', w') :: t =>
    ⟨a % cyc, 0x80, if pre then 1 else 0, w⟩ ::
      (if e = a' then [] else [⟨e % cyc, 0x7F, if pre then 2 else 0, 0xFFFF⟩]) ++
      listEntries pre cyc first ((a', e', w') :: t)

/-- Insert a gate entry by offset. -/
def insEntry (g : GateEntry) : List GateEntry → List GateEntry
  | [] => [g]
  | x :: t => if g.off ≤ x.off then g :: x :: t else x :: insEntry g t

/-- The plan list of a lane (R158). -/
def planList (s : State) (n : Nat) (l : List OnLane) : List GateEntry :=
  match sortedWindows s n l with
  | [] => []
  | w :: t =>
    (listEntries (s.preempts n) (planCycle l * s.period) w.1 (w :: t)).foldl (fun a g => insEntry g a) []

/-! ### Bands (R157, R160) -/

/-- Izost's band of a class on a lane, in ns (R157). -/
def bandOf (s : State) (n : Nat) (l : List OnLane) (tc : Nat) : Nat :=
  if 3 ≤ tc ∧ (ofTc l tc).isEmpty then 0
  else
    let len := if s.preemptible n tc then s.minFragment n else largest s n l tc
    ceil8 (ceilDiv (psOf (s.counted n len) (s.mbps n)) 1000)

/-- The override written for a class, if any (R160): 0xFFFFFFFF keeps Izost's value. -/
def State.bandOverride (s : State) (n tc : Nat) : Option Nat :=
  let v := fld (s.blob (bySub O.guardBandOverride n)) (4 * tc) 4
  if v = 0xFFFFFFFF then none else some v

/-- Does a class carry an admitted contract on the lane? -/
def carries (l : List OnLane) (tc : Nat) : Bool :=
  if tc ≤ 2 then l.any (fun c => Contract.cls c.cr == 5) else !(ofTc l tc).isEmpty

/-- The band in force at a closing that begins a Scheduled window (R160). -/
def bandAt (s : State) (n : Nat) (l : List OnLane) (tc : Nat) : Nat :=
  match s.bandOverride n tc with
  | none => bandOf s n l tc
  | some v => if carries l tc then bandOf s n l tc else max v (bandOf s n l tc)

/-- The bands in force, class 0 first (R160). -/
def bandsOf (s : State) (n : Nat) (l : List OnLane) : List Nat := (List.range 8).map (bandAt s n l)

/-! ### Closed time (R70) -/

/-- Runs of abutting windows of one cycle: (start, end) in ns. -/
def runsOf : List (Nat × Nat × Nat) → List (Nat × Nat)
  | [] => []
  | (a, e, _) :: t =>
    match runsOf t with
    | [] => [(a, e)]
    | (a', e') :: r => if e = a' then (a, e') :: r else (a, e) :: (a', e') :: r

/-- The closed stretches of a class in one cycle, guard bands included: (start, length), the start shifted by one cycle
so that it is never negative.  A band reaches back no further than the end of the run before it: that time is closed already. -/
def closedOf (s : State) (n : Nat) (l : List OnLane) (tc : Nat) : List (Nat × Nat) :=
  let cyc := planCycle l * s.period
  let rs := runsOf (sortedWindows s n l)
  (((rs.getLast?.toList ++ rs).map (·.2)).zip rs).map (fun e =>
    let band := min (bandAt s n l tc) ((e.2.1 + cyc - e.1 % cyc) % cyc)
    (cyc + e.2.1 - band, e.2.2 - e.2.1 + band))

/-- Time closed within a span of `len` ns that starts with stretch `x`. -/
def closedFrom (cyc len : Nat) (cl : List (Nat × Nat)) (x : Nat × Nat) : Nat :=
  let rest := len % cyc
  len / cyc * cl.foldl (fun a y => a + y.2) 0 +
    cl.foldl (fun a y => a + min y.2 (rest - min rest ((y.1 + cyc - x.1) % cyc))) 0

/-- The largest time closed within any span of `len` ns. -/
def mostClosed (s : State) (n : Nat) (l : List OnLane) (tc len : Nat) : Nat :=
  let cl := closedOf s n l tc
  let cyc := planCycle l * s.period
  if cyc = 0 then 0 else cl.foldl (fun m x => max m (closedFrom cyc len cl x)) 0

/-! ### The terms of R70 -/

/-- The lane a frame of the contract comes in on, if it comes from a lane or group.  A group stands with its first member for C_in, m_in
and M (DESIGN CHOICE, log entry 92). -/
def ingressLane (s : State) (r : Bytes) : Option Nat :=
  let e := Contract.ingress r
  if epKind e = 0 then some (bits e 0 6)
  else if epKind e = 1 then (s.lagMembers (bits e 0 5)).head?
  else none

/-- Is a copy cut through (R72)? -/
def cutThrough (s : State) (r : Bytes) (dstEp lane : Nat) : Bool :=
  (Contract.cls r == 0 || Contract.cls r == 2) &&
  (if lane = 0xFF then epKind dstEp == 3
   else
    match ingressLane s r with
    | none => false
    | some i => decide (s.mbps lane ≤ s.mbps i))

/-- D of R70, in ps. -/
def dTerm (s : State) (r : Bytes) (cut : Bool) : Nat :=
  match ingressLane s r with
  | none => 840000
  | some i =>
    if cut then 840000 + psOf 64 (s.mbps i)
    else 840000 + psOf (Contract.maxFrame r + (if s.macsecLane i then 32 else 0)) (s.mbps i)

/-- M of R70, in ps. -/
def mTerm (s : State) (r : Bytes) (lane : Nat) : Nat :=
  (match ingressLane s r with
   | some i => if s.macsecLane i then 60000 else 0
   | none => 0) + (if lane ≠ 0xFF ∧ s.macsecLane lane then 60000 else 0)

/-- H of R70: the hops of the copy's path; an FRER contract's frames take both paths, and the longer counts. -/
def hops (r : Bytes) (x : EgrPlan) : Nat :=
  if Contract.redundancy r = 1 then max x.path.length ((x.path2.map List.length).getD 0) else x.path.length

/-- B_lo of R70 and R162 for a class, in ps. -/
def bLo (s : State) (n : Nat) (l : List OnLane) (tc : Nat) : Nat :=
  let lower := (List.range tc).filter (fun k => decide (k ≤ 2) || !(ofTc l k).isEmpty)
  let expressQ := !s.preemptible n tc
  let cnt := lower.filter (fun k => !(expressQ && s.preemptible n k))
  let whole := psOf (if cnt.isEmpty then 0 else
    s.counted n (cnt.foldl (fun m k => max m (largest s n l k)) 0)) (s.mbps n)
  if expressQ && lower.any (s.preemptible n) then max whole (psOf (s.counted n (s.minFragment n)) (s.mbps n)) else whole

/-- Σ b_j × 8 of a class, in bits. -/
def burstBits (s : State) (n : Nat) (l : List OnLane) (tc : Nat) : Nat :=
  (ofTc l tc).foldl (fun a c => a + burst s n c * 8) 0

/-- A copy's terms that no queue adds to: D + H × 150 ns + M, in ps. -/
def fixedTerm (s : State) (r : Bytes) (dst : Nat) (x : EgrPlan) : Nat :=
  dTerm s r (cutThrough s r dst x.lane) + hops r x * 150000 + mTerm s r x.lane

/-- The start of a bound: the ingress share of the class (R71). -/
def headTerm (s : State) (r : Bytes) (dst : Nat) (x : EgrPlan) : Nat :=
  if Contract.cls r = 2 ∧ epKind (Contract.ingress r) = 3 then
    s.period * 1000 + 840000 + hops r x * 150000 + mTerm s r x.lane
  else if (Contract.cls r = 3 ∨ Contract.cls r = 4) ∧ epKind (Contract.ingress r) = 2 then
    fixedTerm s r dst x + s.period * 1000
  else fixedTerm s r dst x

/-- The iteration of R70 from 0 for at most 16 rounds: `none` when the value still grows. -/
def iter16 (f : Nat → Nat) : Nat → Nat → Option Nat
  | 0, _ => none
  | k + 1, x => if f x = x then some x else iter16 f k (f x)

/-- A bound of the form `base + G_q(T) + i(T)`, in ps. -/
def settle (s : State) (n : Nat) (l : List OnLane) (tc base : Nat) (i : Nat → Nat) : Option Nat :=
  let f := fun t => base + mostClosed s n l tc (ceilDiv t 1000) * 1000 + i t
  iter16 f 17 base

/-- The bound of a copy of a credit-based class with slope `sq` Mbit/s; slope 0 leaves the queue term out. -/
def cbsBound (s : State) (n : Nat) (l : List OnLane) (tc sq : Nat) (c : OnLane) (dst : Nat) : Option Nat :=
  let q := if sq = 0 then 0 else ceilDiv (burstBits s n l tc * 1000000) sq
  settle s n l tc (headTerm s c.cr dst c.egr + bLo s n l tc + q) (fun _ => 0)

/-- The egress endpoint of the record that an egress entry serves. -/
def dstOf (c : OnLane) : Nat := epLane c.egr.lane

/-- Does every contract that takes part in the sizing meet its deadline at slope `sq` (R70)? -/
def slopeOk (s : State) (n : Nat) (l : List OnLane) (tc sq : Nat) : Bool :=
  (ofTc l tc).all (fun c =>
    let dl := Contract.deadline c.cr * 1000
    match cbsBound s n l tc 0 c (dstOf c) with
    | none => true
    | some b0 =>
      if dl ≤ b0 then true
      else
        match cbsBound s n l tc sq c (dstOf c) with
        | none => false
        | some b => decide (b ≤ dl))

/-- Smallest slope in `[lo, lo + 2^k)` that is good, by bisection. -/
def bisect (ok : Nat → Bool) : Nat → Nat → Nat
  | 0, lo => lo
  | k + 1, lo => if ok (lo + 2 ^ k - 1) then bisect ok k lo else bisect ok k (lo + 2 ^ k)

/-- A sum of fractions, exact. -/
def fracSum (l : List (Nat × Nat)) : Nat × Nat :=
  l.foldl (fun a e => let m := Nat.lcm a.2 (max 1 e.2); (a.1 * (m / a.2) + e.1 * (m / max 1 e.2), m)) (0, 1)

/-- A fraction rounded up. -/
def fracUp (f : Nat × Nat) : Nat := ceilDiv f.1 (max 1 f.2)

/-- A contract's rate on a lane in kbit/s, as a fraction (R68). -/
def rateFrac (s : State) (n : Nat) (r : Bytes) : Nat × Nat :=
  (Contract.frames r * s.counted n (copyLen r) * 8 * 1000000, Contract.interval r * s.period)

/-- R162: what an admitted contract's express frames add on a preempting lane: 24 bytes each, as a fraction of kbit/s. -/
def expressFrac (s : State) (n : Nat) (c : OnLane) : Nat × Nat :=
  let tc := if Contract.cls c.cr = 5 then c.egr.tc else tcOfClass (Contract.cls c.cr)
  if s.preempts n ∧ s.preemptible n tc = false then
    (Contract.frames c.cr * 24 * 8 * 1000000, Contract.interval c.cr * s.period)
  else (0, 1)

/-- Sum of the rates of a class in Mbit/s, rounded up. -/
def rateSum (s : State) (n : Nat) (l : List OnLane) (tc : Nat) : Nat :=
  let f := fracSum ((ofTc l tc).map (fun c => rateFrac s n c.cr))
  ceilDiv f.1 (max 1 f.2 * 1000)

/-- S_q of R70, in Mbit/s. -/
def idleSlope (s : State) (n : Nat) (l : List OnLane) (tc : Nat) : Nat :=
  if (ofTc l tc).isEmpty then 0
  else
    let lo := max 1 (rateSum s n l tc)
    if (ofTc l tc).all (fun c =>
        match cbsBound s n l tc 0 c (dstOf c) with
        | none => true
        | some b0 => decide (Contract.deadline c.cr * 1000 ≤ b0)) then lo
    else bisect (slopeOk s n l tc) 40 lo

/-- hiCredit of class 6 or 5, in bits (R164). -/
def hiCredit (s : State) (n : Nat) (l : List OnLane) (s5 s6 tc : Nat) : Nat :=
  if (ofTc l tc).isEmpty then 0
  else if tc = 6 then ceilDiv (s6 * bLo s n l 6) 1000000
  else
    let c := s.mbps n
    let x := if (ofTc l 6).isEmpty then 0 else psOf (s.counted n (largest s n l 6)) c
    if c ≤ s6 then 0 else ceilDiv (s5 * (bLo s n l 5 * c + x * (c - s6))) ((c - s6) * 1000000)

/-- loCredit of a credit-based class, in bits (R164). -/
def loCredit (s : State) (n : Nat) (l : List OnLane) (sq tc : Nat) : Int :=
  if (ofTc l tc).isEmpty then 0
  else -((ceilDiv (s.counted n (largest s n l tc) * 8 * (s.mbps n - sq)) (s.mbps n) : Nat) : Int)

/-- The fixed part of I_hi, in bits (R70). -/
def iHi (s : State) (n : Nat) (l : List OnLane) (s5 s6 : Nat) : Nat :=
  ([6, 5].filter (fun h => !(ofTc l h).isEmpty)).foldl
    (fun a h => a + hiCredit s n l s5 s6 h + s.counted n (largest s n l h) * 8) 0

/-- The interference of the Control contracts on a Signal queue over `t` ps, in bits (R70). -/
def controlBits (s : State) (n : Nat) (l : List OnLane) (t : Nat) : Nat :=
  (ofTc l 4).foldl (fun a c => a + burst s n c * 8 * (ceilDiv t (max 1 (intervalPs s c.cr)) + 1)) 0

/-- Delivery to an internal endpoint (R70). -/
abbrev eInt : Nat := 400000

/-- Depth of a Cirque input's jitter buffer in ticks, converted where some zone that names it runs at the other rate (R228,
R231). -/
def State.inputDepth (s : State) (ch : Nat) : Nat :=
  let j := inDepth (s.inputRec ch)
  let zones := ((keys s.dict.blobs).filterMap (fun k =>
    if muxOf k = O.outputRecords ∧ outZone (s.blob k) ≠ 0xFFFF then some (outZone (s.blob k)) else none)).eraseDups
  if zones.any (fun z => (s.zoneInputs z).contains ch && s.n (zoneKey O.zoneRate z) != inRate (s.inputRec ch)) then
    max j (ceilDiv 250000 s.period)
  else j

/-- The smallest window offset difference that R71 allows, in ns. -/
def minDelta (s : State) (c : OnLane) (dst : Nat) : Nat :=
  ceil8 (ceilDiv (Contract.tolerance c.cr * 1000 + fixedTerm s c.cr dst c.egr) 1000)

/-- Δ of R71 of a placed window, in ns: the offset difference modulo the interval.  A frame that this Δ does not reach in time leaves in
the first occurrence of its window that R71 allows. -/
def windowDelta (s : State) (c : OnLane) : Nat :=
  let iv := Contract.interval c.cr * s.period
  let d := (c.egr.win + iv - Contract.arrival c.cr % iv) % iv
  d + ceilDiv (minDelta s c (dstOf c) - d) (max 1 iv) * iv

/-- The latency bound of one copy under R71, in ps: `none` when the iteration does not settle; Best-effort has none. -/
def boundOf (s : State) (v : PlanView) (c : OnLane) (dst : Nat) : Option Nat :=
  let r := c.cr
  let n := c.egr.lane
  let base := headTerm s r dst c.egr
  if Contract.cls r = 5 then some 0
  else if n = 0xFF then
    if epKind dst = 3 then some (base + eInt + (s.inputDepth (bits dst 0 10) + 1) * s.period * 1000)
    else some (base + eInt)
  else
    let l := v.onLane n
    if Contract.cls r = 0 then
      some (windowDelta s c * 1000 + Contract.tolerance r * 1000 +
        psOf ((Contract.frames r - 1) * s.counted n (copyLen r)) (s.mbps n) + 64000)
    else
      let s6 := idleSlope s n l 6
      let s5 := idleSlope s n l 5
      if Contract.cls r = 1 then cbsBound s n l 5 s5 c dst
      else if Contract.cls r = 2 then cbsBound s n l 6 s6 c dst
      else
        let q := tcOfClass (Contract.cls r)
        let b := headTerm s r dst c.egr + bLo s n l q +
          ceilDiv ((burstBits s n l q + iHi s n l s5 s6) * 1000000) (max 1 (s.mbps n))
        settle s n l q b (fun t =>
          if q = 3 then ceilDiv (controlBits s n l t * 1000000) (max 1 (s.mbps n)) else 0)

/-- The jitter of a copy, in ns, from its bound in ps (R73). -/
def jitterOf (s : State) (c : OnLane) (dst b : Nat) : Nat :=
  if Contract.cls c.cr = 0 ∧ c.egr.lane ≠ 0xFF then 64
  else ceilDiv (b - fixedTerm s c.cr dst c.egr) 1000

/-- The die on which a copy ends. -/
def endDie (p : SlotPlan) (x : EgrPlan) : Nat := x.path.getLast?.getD p.ingressDie

/-- May an egress entry serve an endpoint of the record? -/
def serves (s : State) (p : SlotPlan) (x : EgrPlan) (e : Nat) : Bool :=
  if epKind e = 0 then x.lane == bits e 0 6
  else if epKind e = 1 then x.lane != 0xFF && bit (s.n (byIdx O.members (bits e 0 5))) x.lane
  else if epKind e = 5 then x.lane != 0xFF
  else if epKind e = 3 then x.lane == 0xFF && endDie p x == p.cirqueDie
  else x.lane == 0xFF && endDie p x == bits e 8 3

/-- Each entry with the endpoint it serves and that endpoint's position: entries stand in the record's order (R102), one per
member lane of a VLAN; a shadow plan leaves out the endpoints that are lost. -/
def pairUp (s : State) (p : SlotPlan) : List (Nat × Nat) → List EgrPlan → List (EgrPlan × Nat × Nat)
  | [], _ => []
  | (i, e) :: es, xs =>
    if epKind e = 5 then xs.map (fun x => (x, e, i))
    else
      match xs with
      | [] => []
      | x :: t => if serves s p x e then (x, e, i) :: pairUp s p es t else pairUp s p es (x :: t)

/-- The used egress entries with their positions in the record. -/
def egressPos (r : Bytes) : List (Nat × Nat) :=
  ((List.range 8).map (fun e => (e, Contract.egressAt r e))).filter (fun e => decide (e.2 ≠ 0xFFFF))

/-- The copies of one contract with the record's endpoint of each and its position. -/
def PlanView.copies (s : State) (v : PlanView) (slot : Nat) (r : Bytes) : List (OnLane × Nat × Nat) :=
  match v.at slot with
  | none => []
  | some p => (pairUp s p (egressPos r) p.egr).map (fun e => (⟨slot, r, p, e.1⟩, e.2))

/-- The bound of a contract: the largest of its copies', in ns rounded up; the greatest value when none is found. -/
def slotBound (s : State) (v : PlanView) (slot : Nat) (r : Bytes) : Nat :=
  (PlanView.copies s v slot r).foldl (fun m c =>
    max m (match boundOf s v c.1 c.2.1 with
      | some b => ceilDiv b 1000
      | none => 0xFFFFFFFF)) 0

/-! ### What a plan gives a lane -/

/-- Does the lane's plan place a Scheduled window on it (R159)? -/
def hasWindows (l : List OnLane) : Bool := !(windowed l).isEmpty

/-- The parameters of one lane. -/
def lanePlanOf (s : State) (v : PlanView) (n : Nat) : LanePlan :=
  let l := v.onLane n
  let s6 := idleSlope s n l 6
  let s5 := idleSlope s n l 5
  { s5 := s5 * 1000, s6 := s6 * 1000, hi5 := hiCredit s n l s5 s6 5, hi6 := hiCredit s n l s5 s6 6,
    lo5 := loCredit s n l s5 5, lo6 := loCredit s n l s6 6, cycle := planCycle l, list := planList s n l,
    bands := bandsOf s n l }

/-- The parameters of every lane that is on. -/
def lanePlans (s : State) (v : PlanView) : SMap LanePlan :=
  ((List.range s.laneCount).filter (fun n => !(v.onLane n).isEmpty || s.preempts n || s.laneOn n)).map
    (fun n => (n, lanePlanOf s v n))

/-- Parameters of the shaper of a Signal or Control copy, empty and full (R165, R166): counts in units of
1 / 8,000,000 byte. -/
def shaperOf (s : State) (n : Nat) (c : OnLane) : ShaperSt :=
  let len := s.counted n (copyLen c.cr)
  let cb := Contract.frames c.cr * len
  { cr := rateKbps s c.cr len, cb := cb, pr := s.laneRate n, pb := len, cc := ((cb * 8000000 : Nat) : Int),
    pc := ((len * 8000000 : Nat) : Int), time := s.now, lane := n, tc := tcOfClass (Contract.cls c.cr), slot := c.slot,
    fifo := [] }

/-- Counts accrued up to `now`, held at the bursts (R165). -/
def ShaperSt.accrue (x : ShaperSt) (now : Nat) : ShaperSt :=
  let up := fun (c : Int) (r b : Nat) => min ((b * 8000000 : Nat) : Int) (c + ((r * (now - x.time) : Nat) : Int))
  { x with cc := up x.cc x.cr x.cb, pc := up x.pc x.pr x.pb, time := now }

/-- The shapers of a plan: a contract that keeps its copy on a lane keeps its counts, clipped to smaller bursts (R167). -/
def planShapers (s : State) (v : PlanView) : SMap ShaperSt :=
  (List.range s.laneCount).foldl (fun m n =>
    let l := v.onLane n
    (ofTc l 3 ++ ofTc l 4).foldl (fun m c =>
      let new := shaperOf s n c
      let k := n * 8192 + c.slot
      ins m k (match look s.fwd.shapers k with
        | none => new
        | some o =>
          let o := o.accrue s.now
          { new with cc := min new.cc o.cc, pc := min new.pc o.pc, fifo := o.fifo })) m) []

/-- The shapers of a new plan brought into force; frames waiting in a shaper that is gone are dropped and counted. -/
def State.loadShapers (s : State) (v : PlanView) : State :=
  let new := planShapers s v
  let gone := s.fwd.shapers.filter (fun e => (look new e.1).isNone)
  let s := { s with fwd := { s.fwd with shapers := new } }
  gone.foldl (fun s e => s.addTo (laneKey O.drained e.2.lane) e.2.fifo.length (2 ^ 64 - 1)) s

/-- The bounds of every contract. -/
def planBounds (s : State) (v : PlanView) : SMap Nat := v.contracts.map (fun e => (e.1, slotBound s v e.1 e.2))

/-! ### Load on Saddle links (R68, R140) -/

/-- The hops of a path from a die: pairs of dies. -/
def hopPairs : Nat → List Nat → List (Nat × Nat)
  | _, [] => []
  | a, b :: t => (a, b) :: hopPairs b t

/-- How often a contract's frames cross from one die to another: once on the paths of the tree, once on the second paths (on the AX8-2
beside the first), and on the old paths of a zone that moves (R87, R140, R246). -/
def crossingsOf (p : SlotPlan) (parallel : Bool) (before : Option SlotPlan) (hop : Nat × Nat) : Nat :=
  let one := p.egr.any (fun x => (hopPairs p.ingressDie x.path).contains hop)
  let two := p.egr.any (fun x => match x.path2 with | some q => (hopPairs p.ingressDie q).contains hop | none => false)
  let old := match before with
    | some q => q.cirqueDie != p.cirqueDie && q.cirqueDie != 0xFF && !one && q.egr.any (fun x => (hopPairs q.ingressDie x.path).contains hop)
    | none => false
  b2n one + b2n (two && (!one || parallel)) + b2n old

/-- A contract's rate on a Saddle link in kbit/s, as a fraction (R140). -/
def saddleFrac (s : State) (r : Bytes) (times : Nat) : Nat × Nat :=
  (times * Contract.frames r * (Contract.maxFrame r + 32) * 8 * 1000000, Contract.interval r * s.period)

/-- Committed load of a Saddle direction in kbit/s, of the contracts given with how often each crosses it. -/
def linkLoadOf (s : State) (cs : SMap Bytes) (times : Nat → Nat) : Nat :=
  fracUp (fracSum (cs.filterMap (fun c => if times c.1 = 0 then none else some (saddleFrac s c.2 (times c.1)))))

/-- The rank of a path from a die (R87): hops, highest committed load on a link, dies in sequence. -/
def pathRankOf (load : Nat × Nat → Nat) (a : Nat) (p : List Nat) : List Nat :=
  p.length :: (hopPairs a p).foldl (fun m e => max m (load e)) 0 :: p

end Sys2Proof.Machine
end

