-- ==== Sys2Proof/Machine/PlanImage.lean ====
section
/-! DEFINITION. Placement and item records, and the hash of a plan (chapter 4, R86, R102, R104). -/
namespace Sys2Proof.Machine

open Sys2Proof

/-- The member lanes of a VLAN (R130). -/
def State.vlanMembers (s : State) (vid : Nat) : Nat := fld (s.blob (at_ O.vlanRecords vid)) 4 8

/-- The lanes a contract leaves on, of its lane and VLAN endpoints (R56). -/
def State.egressLanes (s : State) (r : Bytes) : List Nat :=
  (Contract.egress r).flatMap (fun e =>
    if epKind e = 0 then [bits e 0 6]
    else if epKind e = 5 then
      (bitsSet (s.vlanMembers (bits e 0 12)) 64).filter (fun n => epLane n != Contract.ingress r &&
        !(epKind (Contract.ingress r) == 1 && bit (s.n (byIdx O.members (bits (Contract.ingress r) 0 5))) n))
    else [])

/-- Are two FRER contracts members of one recovery group: different ingress lanes, one match address, match tag and set of egress
endpoints (R139)? -/
def frerMates (a b : Bytes) : Bool :=
  Contract.redundancy a == 1 && Contract.redundancy b == 1 && Contract.ingress a != Contract.ingress b &&
    decide (epKind (Contract.ingress a) ≤ 1) && decide (epKind (Contract.ingress b) ≤ 1) && slice a 0x20 8 == slice b 0x20 8 &&
    (Contract.egress a).length == (Contract.egress b).length && (Contract.egress a).all (Contract.egress b).contains

/-- Members of a recovery group share the functions of the lowest slot (R139). -/
def State.frerOwner (s : State) (slot : Nat) (r : Bytes) : Nat :=
  match s.plan.active.contracts.find? (fun e => frerMates e.2 r) with
  | some e => min slot e.1
  | none => slot

/-- The dies that hold an egress endpoint of a placed contract. -/
def egressDiesOf (p : SlotPlan) : List Nat := (p.egr.map (fun x => (x.path.getLast?).getD p.ingressDie)).eraseDups

/-- The die that runs the recovery function of an egress die: that die, else the nearest upstream on its path that the mask names
(R87, R139). -/
def recDieOf (p : SlotPlan) (d : Nat) : Nat :=
  match p.egr.find? (fun x => (x.path.getLast?).getD p.ingressDie == d) with
  | some x => (((p.ingressDie :: x.path).reverse).find? (bit p.recovery)).getD 0xFF
  | none => 0xFF

/-- The lanes that count as protected external links (R74). -/
def protectedLanes (s : State) (cs : SMap Bytes) : List Nat :=
  let lag := (List.range 32).flatMap s.lagMembers
  let groups := (cs.filter (fun e => Contract.redundancy e.2 == 1)).map (fun e => s.frerOwner e.1 e.2)
  let legs := (cs.filter (fun e => Contract.redundancy e.2 != 0 || groups.contains e.1)).flatMap (fun e =>
    (Contract.ingress e.2 :: Contract.egress e.2).flatMap (fun x =>
      if epKind x = 0 then [bits x 0 6] else if epKind x = 1 then s.lagMembers (bits x 0 5)
      else if epKind x = 5 then s.egressLanes e.2 else []))
  (List.range s.laneCount).filter (fun n => (lag.contains n || legs.contains n) && s.regionUp (n / 4))

/-- A path of R102: the dies reached after hops 1, 2 and 3. -/
def pathCode (p : List Nat) : Nat := p.getD 0 15 * 4096 + p.getD 1 15 * 256 + p.getD 2 15 * 16

/-- One egress entry of R102: hops, lane, path, class, second hops, second path, window. -/
def egressRecord (x : EgrPlan) : Bytes :=
  leBytes 1 x.path.length ++ leBytes 1 x.lane ++ leBytes 2 (pathCode x.path) ++ leBytes 1 x.tc ++
    (match x.path2 with
     | some p => leBytes 1 p.length ++ leBytes 2 (pathCode p)
     | none => leBytes 1 0xFF ++ leBytes 2 0xFFF0) ++ leBytes 4 x.win

/-- An unused egress entry. -/
def noEgress : Bytes := leBytes 1 0xFF ++ leBytes 1 0xFF ++ leBytes 2 0xFFF0 ++ leBytes 1 0xFF ++ leBytes 1 0xFF ++ leBytes 2 0xFFF0 ++
  leBytes 4 0xFFFFFFFF

/-- The eight entries of a record, in the order of its egress endpoints; a VLAN's member lanes take the entries in order. -/
def egressEntries (s : State) (v : PlanView) (slot : Nat) (r : Bytes) : Bytes :=
  let l := PlanView.copies s v slot r
  let vlan := (Contract.egress r).any (fun e => epKind e == 5)
  (List.range 8).flatMap (fun i =>
    match (if vlan then l[i]? else l.find? (fun c => c.2.2 == i)) with
    | some c => egressRecord c.1.egr
    | none => noEgress)

/-- A placement record (R102). -/
def placementRecord (s : State) (v : PlanView) (slot state flags : Nat) (r : Bytes) : Bytes :=
  if state = 0 then leBytes 2 slot ++ fill 6 0 ++ [0xFF, 0, 0, 0xFF] ++ fill 4 0 ++ (List.range 8).flatMap (fun _ => noEgress)
  else
    match v.at slot with
    | none => leBytes 2 slot ++ leBytes 1 state ++ leBytes 1 flags ++ leBytes 4 (Contract.id r) ++ [0xFF, 0, 0, 0xFF] ++ fill 4 0 ++
        (List.range 8).flatMap (fun _ => noEgress)
    | some p =>
      let cut := (PlanView.copies s v slot r).any (fun c => cutThrough s r c.2.1 c.1.egr.lane)
      leBytes 2 slot ++ leBytes 1 state ++ leBytes 1 (setBit flags 6 cut) ++ leBytes 4 (Contract.id r) ++ leBytes 1 p.ingressDie ++
        leBytes 1 p.replication ++ leBytes 1 p.recovery ++ leBytes 1 p.cirqueDie ++ fill 4 0 ++ egressEntries s v slot r

/-- The enabled secure channels, lowest first. -/
def State.channelsOn (s : State) : List Nat :=
  (keys s.dict.blobs).filterMap (fun k => if muxOf k = O.channelRecords ∧ bit (fld (s.blob k) 2 1) 0 = true then some (itemOf k) else none)

/-- The items of a kind in a placement: item, home die and holder mask (R104). -/
def itemsOf (s : State) (p : Placement) (kind : Nat) : List (Nat × Nat × Nat) :=
  if kind = 4 then s.channelsOn.map (fun c => (c, 0xFF, 2 ^ (c / 64)))
  else (p.homes.filter (fun e => e.1 / 65536 == kind)).map (fun e => (e.1 % 65536, e.2, 0))

/-- An item record (R104); `lost`: its home is a failed element of the view. -/
def itemRecord (kind : Nat) (x : Nat × Nat × Nat) (lost : Bool) : Bytes :=
  leBytes 2 x.1 ++ leBytes 1 kind ++ leBytes 1 x.2.1 ++ leBytes 1 x.2.2 ++ leBytes 1 (b2n lost) ++ fill 2 0

/-- The canonical plan image (R86).  The healthy set is a mask of dies, one of regions and one of Saddle ports that are trained; the
compiled shards are not given byte by byte (DESIGN CHOICE, log entry 93). -/
def planImage (s : State) (contracts : SMap Bytes) (p : Placement) : Bytes :=
  let v : PlanView := ⟨contracts, p⟩
  let ports := s.dies.flatMap (fun d => (List.range 4).filterMap (fun p =>
    let st := s.n (bySub O.saddleLinkState (4 * d + p))
    if s.dieUp d ∧ (st = 2 ∨ st = 3) then some (4 * d + p) else none))
  let head := leBytes 2 (fld (get [] s.update.images (2 * s.pkg.lead + s.update.running)) 6 2) ++ leBytes 1 s.variant ++
    leBytes 1 (maskOf s.upDies) ++ leBytes 2 (maskOf ((List.range (2 * s.variant)).filter s.regionUp)) ++ leBytes 4 (maskOf ports) ++ contracts.flatMap (fun e => e.2) ++
    contracts.flatMap (fun e => placementRecord s v e.1 2 0 e.2) ++
    (List.range 5).flatMap (fun k => (itemsOf s p k).flatMap (fun x => itemRecord k x false))
  head ++ s.upDies.flatMap (fun d => Config.planShard head d)

/-- *plan hash* (R86). -/
def planHashOf (s : State) (contracts : SMap Bytes) (p : Placement) : Bytes := (Config.sha256 (planImage s contracts p) ++ fill 32 0).take 32

end Sys2Proof.Machine
end

