-- ==== Sys2Proof/Machine/TimeBase.lean ====
section
/-! DEFINITION. Calibration layers (R414 to R416) and the time instances: clocks, ports, the choice of a grandmaster,
lock and steps (chapter 9, R206 to R214, R223). -/
namespace Sys2Proof.Machine

open Sys2Proof

/-! ### Calibration (R414 to R416) -/

/-- Is the factory layer invalid (R416)? -/
def State.factoryInvalid (s : State) : Bool := s.flag O.calibrationStatus 0

/-- A factory value: per device, or the nominal one when the layer failed its check (R416). -/
def State.factoryVal (s : State) (k : Nat) (nominal : Int) : Int := if s.factoryInvalid then nominal else Config.factory k

/-- The effective receive latency of a lane in ps (R214): the factory value of its mode plus its user offset, clamped. -/
def State.rxLatency (s : State) (n : Nat) : Int :=
  clampI 0 2000000 (s.factoryVal (bySub O.factoryReceiveLatency (s.n (laneKey O.laneMode n))) 0 + s.o (bySub O.userReceiveLatency n))

/-- The effective transmit latency of a lane in ps (R214). -/
def State.txLatency (s : State) (n : Nat) : Int :=
  clampI 0 2000000 (s.factoryVal (bySub O.factoryTransmitLatency (s.n (laneKey O.laneMode n))) 0 + s.o (bySub O.userTransmitLatency n))

/-- The local time at which a frame received now passed the calibrated point, ns (R214). -/
def State.rxStamp (s : State) (n t : Nat) : Nat := (((t : Int) * 1000 - s.rxLatency n) / 1000).toNat

/-- The local time at which a frame launched now passes the calibrated point, ns (R214). -/
def State.txStamp (s : State) (n t : Nat) : Nat := (((t : Int) * 1000 + s.txLatency n) / 1000).toNat

/-- The taps of a lane's transmit equaliser (R126): each tap is its factory value plus its user offset, clamped into its own
range. -/
def State.tapsOf (s : State) (n : Nat) : Nat :=
  let f := (s.factoryVal (bySub O.factoryTransmitEqualisation n) 0x3000).toNat
  let u := s.n (bySub O.userTransmitEqualisation n)
  let tap := fun (p : Nat) (hi : Int) => (clampI 0 hi ((bits f p 8 : Nat) + signed 8 (bits u p 8))).toNat
  tap 16 15 * 2 ^ 16 + tap 8 63 * 2 ^ 8 + tap 0 31

/-- R126: new taps apply at a tick boundary, with the link as it stands. -/
def State.applyTaps (s : State) : State :=
  (List.range s.laneCount).foldl (fun (s : State) n =>
    if (s.lane n).taps = s.tapsOf n then s else s.updLane n (fun l => { l with taps := s.tapsOf n })) s

/-- R226: the effective oscillator trim in ppb: factory plus user trim, clamped. -/
def State.trimPpb (s : State) : Int :=
  clampI (-100000) 100000 (s.factoryVal O.factoryOscillatorTrim 0 + s.o O.userOscillatorTrim)

/-- R226: a changed trim takes force at a tick boundary (`raw` by the untrimmed oscillator): the local time base runs on from
where it stands, at another rate. -/
def State.applyTrim (s : State) (raw : Nat) : State :=
  if s.trimPpb = s.time.trim then s
  else { s with time := { s.time with trim := s.trimPpb, trimRaw := raw, trimLocal := s.now } }

/-! ### Instance clocks (R206) -/

/-- Bits of *instance status* (R223). -/
abbrev isRUNNING : Nat := 0
abbrev isLOCKED : Nat := 1
abbrev isHOLDOVER : Nat := 2
abbrev isSELFGM : Nat := 3
abbrev isSTEPPED : Nat := 4
abbrev isREFLOCKED : Nat := 5
abbrev isREFLOST : Nat := 6
abbrev isUNTRACEABLE : Nat := 7

/-- The record of instance `i`. -/
def State.inst (s : State) (i : Nat) : InstSt := get {} s.time.inst i

/-- Rewrite an instance record. -/
def State.updInst (s : State) (i : Nat) (f : InstSt → InstSt) : State :=
  { s with time := { s.time with inst := upd {} s.time.inst i f } }

/-- A clock's value at local time `t`, ns. -/
def InstSt.at (x : InstSt) (t : Nat) : Nat :=
  ((x.base : Int) + ((t : Int) - x.ref) * (1000000000 + x.ppb) / 1000000000).toNat

/-- The time of instance `i` at local time `t`. -/
def State.instAt (s : State) (i t : Nat) : Nat := (s.inst i).at t

/-- The time of instance `i` now. -/
def State.instNow (s : State) (i : Nat) : Nat := s.instAt i s.now

/-- Is an instance enabled (R222)? -/
def State.instOn (s : State) (i : Nat) : Bool := decide (i < 4) && s.n (byIdx O.instanceEnable i) == 1

def State.instFlag (s : State) (i b : Nat) : Bool := s.flag (byIdx O.instanceStatus i) b
def State.setInst (s : State) (i b : Nat) (v : Bool) : State := s.setFlag (byIdx O.instanceStatus i) b v

/-- Is lane `n` a port of instance `i` in use: a member lane, present, on a die in service (R208, R210)? -/
def State.isPort (s : State) (i n : Nat) : Bool :=
  s.instOn i && s.hasLane n && s.laneStands n && bit (s.n (byIdx O.memberLanes i)) n && s.inService n

/-- The package's clockIdentity: the base MAC address with 0xFF, 0xFE after its third byte (R210). -/
def State.clockId (s : State) : Bytes :=
  let m := s.blob O.packageBaseMACAddress
  slice m 0 3 ++ [0xFF, 0xFE] ++ slice m 3 3

/-- The key of a lane's *port state* in an instance (R224). -/
def portStateKey (i n : Nat) : Nat := byIdx (bySub O.portState n) i

def State.portSt (s : State) (i n : Nat) : Nat := bits (s.n (portStateKey i n)) 0 3

/-- AS_CAPABLE of a lane: it has a mean link delay at or below its threshold (R224). -/
def State.asCapable (s : State) (n : Nat) : Bool :=
  decide (s.n (bySub O.meanLinkDelay n) ≤ s.n (bySub O.linkDelayThreshold n))

/-! ### Pulses at a step (R219) -/

/-- Fields of a pulse program (R218). -/
def pulseStart (p : Bytes) : Nat := fld p 0 8
def pulsePeriod (p : Bytes) : Nat := fld p 8 8
def pulseWidth (p : Bytes) : Nat := fld p 0x10 4
def pulseClock (p : Bytes) : Nat := fld p 0x14 1
def pulseEnabled (p : Bytes) : Bool := bit (fld p 0x15 1) 0
def pulseUnlocked (p : Bytes) : Bool := bit (fld p 0x15 1) 2

/-- The least k whose grid edge lies at or after instance time `g`. -/
def edgeFrom (p : Bytes) (g : Nat) : Nat :=
  if g ≤ pulseStart p then 0
  else if pulsePeriod p = 0 then 1
  else ceilDiv (g - pulseStart p) (pulsePeriod p)

/-- The grid edge number k of a program. -/
def edgeTime (p : Bytes) (k : Nat) : Nat := pulseStart p + k * pulsePeriod p

/-- The key of an output's object. -/
def pulseKey (m q : Nat) : Nat := byIdx (bySub m (q % 4)) (q / 4)

/-- A pulse output's record, `q = 4 * die + output`. -/
def State.pulse (s : State) (q : Nat) : PulseSt := get {} s.time.pulses q

def State.setPulse (s : State) (q : Nat) (x : PulseSt) : State :=
  { s with time := { s.time with pulses := put {} s.time.pulses q x } }

/-- May the output of a program run: its instance runs and has been LOCKED since the start, or RUN_UNLOCKED is set? -/
def State.pulseMayRun (s : State) (p : Bytes) : Bool :=
  s.instOn (pulseClock p) && (pulseUnlocked p || (s.inst (pulseClock p)).everLocked)

/-- *pulse status* of an output as it stands (R219, R224). -/
def State.pulseStatusOf (s : State) (q : Nat) : Nat :=
  let x := s.pulse q
  let on := pulseEnabled x.prog
  let once := pulsePeriod x.prog == 0
  let missed := on && once && decide (0 < x.k) && !x.fired
  let run := on && s.pulseMayRun x.prog && !(once && decide (0 < x.k) && x.ends.isNone)
  b2n run + 2 * b2n missed + 4 * b2n (on && !s.pulseMayRun x.prog) + 8 * b2n (on && s.instFlag (pulseClock x.prog) isHOLDOVER)

/-- A program takes effect: from its first grid edge, or from 2 µs on where its start is past; a past once program has
missed. -/
def State.installPulse (s : State) (q : Nat) (p : Bytes) : State :=
  let g := s.instNow (pulseClock p)
  let k := if g ≤ pulseStart p then 0 else if pulsePeriod p = 0 then 1 else edgeFrom p (g + 2000)
  s.setPulse q { prog := p, k := k }

/-- R219: an output that has waited for its clock starts on the grid: edges that passed meanwhile were not generated. -/
def State.pulsesWake (s : State) (i : Nat) : State :=
  s.time.pulses.foldl (fun (s : State) e =>
    if pulseClock e.2.prog = i ∧ e.2.ends.isNone = true ∧ pulseUnlocked e.2.prog = false then
      s.setPulse e.1 { e.2 with k := max e.2.k (edgeFrom e.2.prog (s.instNow i)) }
    else s) s

/-- R219: a step of clock `i` from `old` to `new`: skipped edges are counted, and the next edge follows the new time. -/
def State.pulsesStep (s : State) (i old new : Nat) : State :=
  s.time.pulses.foldl (fun (s : State) e =>
    let x := e.2
    if pulseClock x.prog = i ∧ pulseEnabled x.prog = true then
      let k := if pulsePeriod x.prog = 0 then (if new < pulseStart x.prog ∧ !x.fired then 0 else if old < new then max x.k (edgeFrom x.prog new) else x.k)
               else edgeFrom x.prog new
      let s := if old < new then s.addTo (pulseKey O.pulsesSkipped e.1) (k - x.k) (2 ^ 32 - 1) else s
      { s with time := { s.time with pulses := ins s.time.pulses e.1 { x with k := k } } }
    else s) s

/-- R211: the clock of an instance steps; the epoch counts on and the step is logged. -/
def State.stepClock (s : State) (i new : Nat) : State :=
  let old := s.instNow i
  let s := s.updInst i (fun x => { x with base := new, ref := s.now })
  let s := (s.setInst i isSTEPPED true).setN (byIdx O.clockEpoch i) ((s.n (byIdx O.clockEpoch i) + 1) % 256)
  let s := s.pulsesStep i old new
  s.logLead Ev.clockStep 0xFFFF [(1, i), (1, s.n (byIdx O.clockEpoch i)), (8, unsignedOf 64 ((new : Int) - old))]

/-- The clock runs on at another rate from now. -/
def State.setRate (s : State) (i : Nat) (ppb : Int) : State :=
  let now := s.instNow i
  (s.updInst i (fun x => { x with base := now, ref := s.now, ppb := ppb })).setO (byIdx O.rateRatio i) (clampI (-2147483648) 2147483647 ppb)

/-! ### Capture inputs (R220) -/

/-- A capture input's record, `q = 2 * die + input`. -/
def State.capture (s : State) (q : Nat) : CaptureSt := get {} s.time.captures q

/-- The key of an input's object. -/
def captureKey (m q : Nat) : Nat := byIdx (bySub m (q % 2)) (q / 2)

def State.setCapture (s : State) (q : Nat) (x : CaptureSt) : State :=
  ({ s with time := { s.time with captures := put {} s.time.captures q x } }).setN (captureKey O.capturesQueued q) x.records.length

/-- R219, R220: after a start or a wake the outputs take their programs up from the dictionary, and the capture queues are empty. -/
def State.restartUnits (s : State) : State :=
  let s := { s with time := { s.time with pulses := [], captures := [] } }
  let s := (List.range (2 * s.variant)).foldl (fun (s : State) q => s.setN (captureKey O.capturesQueued q) 0) s
  (List.range (4 * s.variant)).foldl (fun (s : State) q =>
    let p := s.blob (pulseKey O.pulseProgram q)
    if pulseEnabled p then s.installPulse q p else s) s

/-! ### Lock and holdover (R211, R212) -/

/-- R211: the instance is LOCKED; HOLDOVER ends, and instance 0 tells the tick unit (R42, R45). -/
def State.lockInst (s : State) (i : Nat) (traceable : Bool) : State :=
  let held := s.instFlag i isHOLDOVER
  let s := (s.setInst i isLOCKED true).setInst i isHOLDOVER false
  let s := if (s.inst i).everLocked then s else s.pulsesWake i
  let s := s.updInst i (fun x => { x with everLocked := true })
  let s := if traceable then s.setInst i isUNTRACEABLE false else s
  let s := if held && !(i == 0 && s.tickState == tickHOLDOVER) then s.logLead Ev.holdover 0xFFFF [(1, i), (1, 1)] else s
  if i = 0 then lockDeclared s else s

/-- R211: the instance enters HOLDOVER; instance 0 takes the tick unit with it (R45).  DEDUCED (log 55): one that has never been
LOCKED has no last rate ratio to run at, and enters none. -/
def State.holdInst (s : State) (i : Nat) : State :=
  if s.instFlag i isHOLDOVER || !(s.inst i).everLocked then s
  else
    let s := (s.setInst i isHOLDOVER true).setInst i isLOCKED false
    let s := (s.setN (byIdx O.holdoverTime i) 0).updInst i (fun x => { x with holdSince := s.now, good := 0 })
    if i = 0 ∧ s.tickState = tickLOCKED then tickHoldover s
    else s.logLead Ev.holdover 0xFFFF [(1, i), (1, 0)]

/-! ### The choice of the grandmaster (R210 to R212) -/

/-- The data of an Announce that IEEE 1588 compares, most significant first, with the steps removed raised by one hop. -/
def announceVector (m : Bytes) : List Nat :=
  [fldBE m 0x2F 1, fldBE m 0x30 1, fldBE m 0x31 1, fldBE m 0x32 2, fldBE m 0x34 1, fldBE m 0x35 8, fldBE m 0x3D 2 + 1, fldBE m 0x14 10]

/-- The clockClass the instance sends as grandmaster: 6 with a locked time reference (R212). -/
def State.ownClass (s : State) (i : Nat) : Nat :=
  if s.instFlag i isREFLOCKED then 6 else s.n (byIdx O.clockClass i)

/-- The AX8's own data in the comparison (the accuracy and variance are those of an unstated clock in 802.1AS). -/
def State.ownVector (s : State) (i : Nat) : List Nat :=
  [s.n (byIdx O.priority1 i), s.ownClass i, 0xFE, 0x436A, s.n (byIdx O.priority2 i), beNat s.clockId, 0, 0]

/-- The lane whose Announce is best, with its vector. -/
def State.bestAnnounce (s : State) (i : Nat) : Option (Nat × List Nat) :=
  let c := (s.inst i).announces.filter (fun e => s.isPort i e.1)
  c.foldl (fun best e =>
    let v := announceVector e.2
    match best with
    | none => some (e.1, v)
    | some b => if lexLt v b.2 then some (e.1, v) else some b) none

/-- *slave port* (R222). -/
def State.slavePort (s : State) (i : Nat) : Nat := s.n (byIdx O.slavePort i)

/-- Port states of an instance after a choice (R224). -/
def State.setPorts (s : State) (i : Nat) : State :=
  let own := s.ownVector i
  (List.range s.laneCount).foldl (fun (s : State) n =>
    let base : Nat :=
      if !s.isPort i n then 0
      else if s.slavePort i = n then 2
      else if s.slavePort i = 0xFF then 4
      else if s.n (byIdx O.portConfiguration i) = 1 then 1
      else
        match look (s.inst i).announces n with
        | some m =>
          let mine := if s.slavePort i = 0xFE then own
            else ((look (s.inst i).announces (s.slavePort i)).map announceVector).getD own
          if lexLt (announceVector m) mine then 3 else 1
        | none => 1
    let cap := if s.n (byIdx O.profile i) = 0 ∧ s.asCapable n = true ∧ s.isPort i n = true then 0x80 else 0
    if s.n (portStateKey i n) = base + cap then s else s.setN (portStateKey i n) (base + cap)) s

/-- R211: another grandmaster identity: the change is counted and logged, and a locked instance enters HOLDOVER. -/
def State.newGrandmaster (s : State) (i : Nat) (id : Bytes) : State :=
  let k := byIdx O.grandmasterIdentity i
  let old := s.blob k
  let s := s.setBlob k id
  if old = id ∨ old = fill 8 0 then s
  else
    let s := s.updInst i (fun x => { x with gmAt := s.now })
    let s := (s.inc32 (byIdx O.grandmasterChanges i)).logLead Ev.gmChange 0xFFFF [(1, i), (8, beNat id)]
    s.holdInst i

/-- R221: does the time reference of an instance act? -/
def State.refActs (s : State) (i : Nat) : Bool := bit (s.n (byIdx O.timeReference i)) 7 && s.instOn i && s.instFlag i isSELFGM

/-- R221: a reference that no longer acts is neither locked nor lost. -/
def State.dropReference (s : State) (i : Nat) : State :=
  if s.refActs i then s
  else ((s.setInst i isREFLOCKED false).setInst i isREFLOST false).updInst i (fun x => { x with refGood := 0 })

/-- R211: a lane becomes the slave port. -/
def State.chooseSlave (s : State) (i n : Nat) (id : Bytes) : State :=
  let s := if s.slavePort i = n then s else (s.setN (byIdx O.slavePort i) n).updInst i (fun x => { x with good := 0, syncs := none })
  ((s.setInst i isSELFGM false).dropReference i).newGrandmaster i id

/-- R212: the AX8 becomes grandmaster: LOCKED at once where it never followed another clock, with its time from the
locked reference or its own running clock; HOLDOVER otherwise. -/
def State.chooseSelf (s : State) (i : Nat) : State :=
  if s.slavePort i = 0xFE then s
  else
    let first := !(s.inst i).everLocked
    let s := (s.setN (byIdx O.slavePort i) 0xFE).setInst i isSELFGM true
    let s := s.newGrandmaster i s.clockId
    if first then s.lockInst i (s.instFlag i isREFLOCKED) else s.holdInst i

/-- No port qualifies and the AX8 may not be grandmaster: HOLDOVER (R211). -/
def State.chooseNone (s : State) (i : Nat) : State :=
  (((s.setN (byIdx O.slavePort i) 0xFF).setInst i isSELFGM false).dropReference i).holdInst i

/-- The choice under *port configuration*: the BMCA, or the external slave port (R210). -/
def State.choose (s : State) (i : Nat) : State :=
  if !s.instOn i then s
  else
    let s :=
      if s.n (byIdx O.portConfiguration i) = 1 then
        let e := s.n (byIdx O.externalSlavePort i)
        if e = 0xFF then s.chooseSelf i
        else if s.isPort i e then
          match look (s.inst i).announces e with
          | some m => s.chooseSlave i e (slice m 0x35 8)
          | none => s.chooseNone i
        else s.chooseNone i
      else
        match s.bestAnnounce i with
        | none => if s.n (byIdx O.priority1 i) = 255 then s.chooseNone i else s.chooseSelf i
        | some (n, v) =>
          if s.n (byIdx O.priority1 i) ≠ 255 ∧ lexLt (s.ownVector i) v = true then s.chooseSelf i
          else s.chooseSlave i n (slice ((look (s.inst i).announces n).getD []) 0x35 8)
    s.setPorts i

/-- The flags and ports of every instance follow its objects: a disabled instance stops (R222), lost lanes leave (R208). -/
def State.refreshInstances (s : State) : State :=
  (List.range 4).foldl (fun (s : State) i =>
    if s.instOn i then
      let s := (s.setInst i isRUNNING true).dropReference i
      let s := s.updInst i (fun x => { x with announces := x.announces.filter (fun e => s.isPort i e.1) })
      if s.slavePort i < 64 ∧ s.isPort i (s.slavePort i) = false then s.choose i else s.setPorts i
    else if s.instFlag i isRUNNING then
      let s := ((((s.setInst i isRUNNING false).setInst i isLOCKED false).setInst i isSELFGM false).setInst i isHOLDOVER false).setN
        (byIdx O.slavePort i) 0xFF
      (s.updInst i (fun x => { base := x.base, ref := x.ref, ppb := x.ppb })).setPorts i
    else s) s

/-- Every instance as it stands after a start or a wake: TIME_UNTRACEABLE set, nothing locked (R206, R223). -/
def State.restartInstances (s : State) (zero : Bool) : State :=
  (List.range 4).foldl (fun (s : State) i =>
    let now := if zero then 0 else s.instNow i
    let s := { s with time := { s.time with inst := put {} s.time.inst i { base := now, ref := s.now } } }
    let s := s.setN (byIdx O.instanceStatus i) (0x80 + b2n (s.instOn i))
    ((s.setN (byIdx O.slavePort i) 0xFF).setBlob (byIdx O.grandmasterIdentity i) (fill 8 0)).setPorts i) s
    |>.restartUnits

end Sys2Proof.Machine
end

