-- ==== Sys2Proof/Machine/Faults.lean ====
section
/-! DEFINITION. Tiers, Saddle links, fault classification, fault plans and takeover (chapters 1 and 4: R15 to R25, R28,
R29, R48, R49, R91 to R98). -/
namespace Sys2Proof.Machine

open Sys2Proof

/-! ### Saddle topology (R24) -/

/-- The die and port at the other end of a port. -/
def peerOf (dies d p : Nat) : Option (Nat × Nat) :=
  if dies = 2 then (if p < 2 then some (1 - d, p) else none)
  else if dies = 4 then
    if p = 0 then some ((d + 1) % 4, 1) else if p = 1 then some ((d + 3) % 4, 0)
    else if p = 2 then some ((d + 2) % 4, 2) else none
  else
    if p = 0 then some ((d + 1) % 8, 1) else if p = 1 then some ((d + 7) % 8, 0)
    else if p = 2 then some ((d + 4) % 8, 2)
    else some (if d % 4 < 2 then d + 2 else d - 2, 3)

/-- The other end of a port of this package. -/
def State.peer (s : State) (d p : Nat) : Option (Nat × Nat) := if s.hasDie d then peerOf s.variant d p else none

/-- Is this port the standby port of an AX8-8 (R24)? -/
def State.standbyPort (s : State) (p : Nat) : Bool := s.variant == 8 && p == 3

abbrev linkSERVICE : Nat := 2
abbrev linkSTANDBY : Nat := 3
abbrev linkFAILED : Nat := 4
abbrev linkUNTRAINED : Nat := 5

/-- The key of a port's objects (R303). -/
def portKey (m d p : Nat) : Nat := bySub m (4 * d + p)

/-- *Saddle link state* of a port. -/
def State.saddle (s : State) (d p : Nat) : Nat := s.n (portKey O.saddleLinkState d p)

/-- Is the port's link trained and up (R24, R287)? -/
def State.trained (s : State) (d p : Nat) : Bool := s.saddle d p == linkSERVICE || s.saddle d p == linkSTANDBY

/-- A link's state written at one of its ends, whose die raises interrupt source 35 (R295). -/
def State.setSaddleEnd (s : State) (e : Nat × Nat) (v : Nat) : State :=
  let m := setBit (get 0 s.bridge.intPending e.1) 35 true
  let s := s.setN (portKey O.saddleLinkState e.1 e.2) v
  { s with bridge := { s.bridge with intPending := put 0 s.bridge.intPending e.1 m } }

/-- A link's state written at both its ends. -/
def State.setSaddle (s : State) (d p v : Nat) : State :=
  match s.peer d p with
  | some e => (s.setSaddleEnd (d, p) v).setSaddleEnd e v
  | none => s

/-- The lower end of a link, which names it (R77). -/
def State.lowerEnd (s : State) (d p : Nat) : Nat × Nat :=
  match s.peer d p with
  | some e => if e.1 < d then e else (d, p)
  | none => (d, p)

/-! ### Fault cases (R77, R91) -/

def caseDie (d : Nat) : Nat := 0x10000000 + d * 0x1000000
def caseRegion (r : Nat) : Nat := 0x20000000 + r / 2 * 0x1000000 + r % 2 * 0x10000
def caseLink (e : Nat × Nat) : Nat := 0x30000000 + e.1 * 0x1000000 + e.2 * 0x10000
def caseLane (n : Nat) : Nat := 0x40000000 + n / 8 * 0x1000000 + n % 8 * 0x10000

/-- FAULT field of a case. -/
def caseKind (c : Nat) : Nat := bits c 28 4
def caseDieOf (c : Nat) : Nat := bits c 24 4
def caseInst (c : Nat) : Nat := bits c 16 8

/-- The region, as `2 * die + region`, of an edge unit (R5). -/
def edgeRegion (d kind u : Nat) : Nat :=
  2 * d + (if kind = 0 then u / 2 else if kind = 3 then 0 else if kind = 4 then 1 else u % 2)

/-- Does a lane lie on the element of a fault case? -/
def onElement (c n : Nat) : Bool :=
  if caseKind c = 1 then n / 8 == caseDieOf c
  else if caseKind c = 2 then n / 4 == 2 * caseDieOf c + caseInst c
  else if caseKind c = 4 then n == 8 * caseDieOf c + caseInst c
  else false

/-- Does an endpoint of a contract lie on the element of a fault case (R91, R491)?  A VLAN endpoint does where every member lane that R56
gives it does. -/
def State.endpointOn (s : State) (c : Nat) (r : Bytes) (e : Nat) : Bool :=
  if epKind e = 0 then onElement c (bits e 0 6)
  else if epKind e = 1 then
    let m := s.lagMembers (bits e 0 5)
    !m.isEmpty && m.all (onElement c)
  else if epKind e = 2 then
    (caseKind c == 1 && bits e 8 3 == caseDieOf c) ||
    (caseKind c == 2 && edgeRegion (bits e 8 3) (bits e 4 3) (bits e 0 2) == 2 * caseDieOf c + caseInst c)
  else if epKind e = 4 then
    (caseKind c == 1 && bits e 8 3 == caseDieOf c) ||
    (caseKind c == 2 && 2 * bits e 8 3 + bits e 0 4 / 8 == 2 * caseDieOf c + caseInst c)
  else if epKind e = 5 then
    let m := s.egressLanes r
    !m.isEmpty && m.all (onElement c)
  else false

/-- Is a contract endpoint-lost in a case (R91)? -/
def State.endpointLost (s : State) (c : Nat) (r : Bytes) : Bool :=
  s.endpointOn c r (Contract.ingress r) || (Contract.egress r).all (s.endpointOn c r)

/-! ### Counts of the running plan -/

/-- *active contracts*, *broken contracts* and *shed contracts* brought up to date (R60, R100). -/
def State.refreshCounts (s : State) : State :=
  ((s.setN O.activeContracts s.plan.active.contracts.length).setN O.brokenContracts (s.slotCount slBROKEN)).setN
    O.shedContracts (s.slotCount slSHED)

/-- *fault cases*, *shadow plans distributed*, *uncovered fault cases* and *fault status* brought up to date (R92). -/
def State.refreshCases (s : State) : State :=
  let cs := s.plan.cases
  (((s.setN O.faultCases cs.length).setN O.shadowPlansDistributed (cs.filter (fun c => decide (2 ≤ c.state))).length).setN
    O.uncoveredFaultCases (cs.filter (fun c => c.state == 3)).length).setN
    O.faultStatus (b2n (s.plan.active.gen != 0 && cs.all (fun c => decide (2 ≤ c.state)) && s.plan.activating.isNone && s.plan.settling.isNone))

/-- R92: the cases before the first that is still NOT_BUILT are built; that one is compiled on the lead next, one at each tick boundary
(DESIGN CHOICE, log entry 91). -/
def State.buildNext (s : State) : State :=
  match s.plan.cases.find? (fun c => c.state == 0) with
  | some c => { s with plan := { s.plan with cases := s.plan.cases.map (fun x => if x.code = c.code then { x with state := 1 } else x) } }
  | none => s

/-- R92, R95: building and distribution of one shadow plan completes, in the order of R74: every case before it is distributed.  After a
fault, a case that sheds a Strict contract or that no shedding cures is UNCOVERED. -/
def shadowDistributed (code : Nat) (s : State) : State :=
  if (s.plan.cases.takeWhile (fun c => c.code != code)).any (fun c => decide (c.state < 2)) then s else
  let cover := fun (c : CaseSt) =>
    if !s.plan.faults.isEmpty && (decide (0 < c.strictShed) || !(s.plan.active.cases.any (fun p => p.code == c.code)))
    then 3 else 2
  let f := fun (c : CaseSt) => if c.code = code then { c with state := cover c } else c
  ({ s with plan := { s.plan with cases := s.plan.cases.map f } }).refreshCases

def execShadowPlanDistributed (t : Nat) (code : Nat) (s : State) : Host.Outcome State Fault Refusal :=
  .next (shadowDistributed code (s.begin t))

/-! ### Activation (R94 to R96) -/

/-- The plan of a case that can be activated: DISTRIBUTED or UNCOVERED with a delta. -/
def State.casePlan (s : State) (code : Nat) : Option CasePlan :=
  if s.plan.cases.any (fun c => c.code == code && decide (2 ≤ c.state)) then
    s.plan.active.cases.find? (fun p => p.code == code)
  else none

/-- Does a link case concern a link of die `d`, Saddle or external? -/
def State.linkOfDie (s : State) (d c : Nat) : Bool :=
  (caseKind c == 4 && caseDieOf c == d) ||
  (caseKind c == 3 && (caseDieOf c == d ||
    (match s.peer (caseDieOf c) (caseInst c) with | some e => e.1 == d | none => false)))

/-- The die's shadow plan of the original generation, while a fault plan for one of its links is activating or in force: that of the plan
before the first of the link faults of this die that followed each other last (R94). -/
def State.basePlan (s : State) (code : Nat) : Option (Plan × CasePlan) :=
  if caseKind code = 1 then
    match (s.plan.base.takeWhile (fun e => s.linkOfDie (caseDieOf code) e.1)).getLast? with
    | some b => (b.2.cases.find? (fun p => p.code == code)).map (fun p => (b.2, p))
    | none => none
  else none

/-- Dies that must report a case: every surviving die; for an external link, the lane's die (R95). -/
def State.reporters (s : State) (code : Nat) : Nat :=
  if caseKind code = 4 then maskOf ([caseDieOf code].filter s.dieUp) else maskOf s.upDies

/-- The activation of a case sent to its dies (R95). -/
def State.sendActivation (s : State) (code first : Nat) : State :=
  let s := s.cancelCommits
  let s := { s with plan := { s.plan with
    activating := some (code, first), reported := 0, since := s.now,
    urgent := s.plan.urgent.filter (fun e => !(e.1 == code || (caseKind code == 1 && s.linkOfDie (caseDieOf code) e.1))),
    base := if caseKind code = 3 ∨ caseKind code = 4 then (code, s.plan.active) :: s.plan.base else s.plan.base } }
  (bitsSet (s.reporters code) 8).foldl (fun s d => s.emit (.activation d code)) (s.setN O.faultStatus 0)

/-- A fault that waits for a plan built ahead of all others (R96). -/
def State.deferFault (s : State) (code first : Nat) : State :=
  if s.plan.urgent.any (fun e => e.1 == code) then s
  else { s with plan := { s.plan with urgent := s.plan.urgent ++ [(code, first)] } }

/-- The case whose activation a fault of a higher tier at the same moment takes the place of (R28, R96). -/
def State.yields (s : State) (code : Nat) : Option (Nat × Nat) :=
  match s.plan.activating with
  | some e => if s.plan.since = s.now ∧ caseKind code < caseKind e.1 ∧ (s.casePlan code).isSome = true then some e else none
  | none => none

/-- R28, R95, R96: a classified fault activates its case, or is built ahead of all others, or (UNCOVERED with no delta) leaves
the running plan in place.  `first` is when the first report of the failure came. -/
def State.activate (s : State) (code first : Nat) : State :=
  match s.basePlan code with
  | some (b, _) => ({ s with plan := { s.plan with active := { b with gen := s.plan.active.gen } } }).sendActivation code first
  | none =>
    match s.yields code with
    | some e =>
      let s := s.sendActivation code first
      if caseKind code = 1 ∧ (caseDieOf e.1 = caseDieOf code ∨ s.linkOfDie (caseDieOf code) e.1 = true) then s else s.deferFault e.1 e.2
    | none =>
      if s.plan.activating.isNone && (s.casePlan code).isSome then s.sendActivation code first
      else if s.plan.activating.isNone && s.plan.cases.any (fun c => c.code == code && c.state == 3) then s
      else s.deferFault code first

/-- A fault recorded in *faults in force*, once (R100). -/
def State.recordFault (s : State) (code : Nat) : State :=
  if s.plan.faults.contains code then s
  else
    let s := { s with plan := { s.plan with faults := s.plan.faults ++ [code] } }
    s.setN O.faultsInForce s.plan.faults.length

/-- R82, R81: after a change of bound, Talker Advertises are declared again with the new accumulated latency. -/
def State.redeclare (s : State) (old : SMap Nat) : State :=
  s.plan.talkers.foldl (fun s k =>
    match look s.plan.active.bounds k.slot, s.placed k.slot with
    | some b, some p =>
      if look old k.slot = some b then s
      else p.egr.foldl (fun s x => if x.lane = 0xFF then s else s.emit (.advertise x.lane k.slot (k.latency + b))) s
    | _, _ => s) s

/-- The lanes' parameters of a new plan brought into force: credits clamped (R167), Scheduled FIFOs without a window
drained (R152), running lists continued at the same offset (R49). -/
def State.loadLanes (s : State) (ls : SMap LanePlan) : State :=
  let before := s.plan.active.lanes
  let s := { s with plan := { s.plan with active := { s.plan.active with lanes := ls } } }
  ls.foldl (fun s e =>
    let n := e.1
    let p := e.2
    let owners := (p.list.map (·.owner)).filter (· ≠ 0xFFFF)
    let gone := (s.lane n).queues.filter (fun f => f.tc == 7 && !owners.contains f.slot)
    let s := s.addTo (laneKey O.drained n) gone.length (2 ^ 64 - 1)
    let s := if (s.lane n).adminRunning then s else s.setN (laneSub O.gateCycle n) p.cycle
    let s := if (s.lane n).adminRunning then s else s.setBlob (bySub O.guardBandsInForce n) (p.bands.flatMap (leBytes 4))
    s.updLane n (fun l =>
      { l with queues := l.queues.filter (fun f => !(f.tc == 7 && !owners.contains f.slot)),
               credit5 := clampI (p.lo5 * 1000000) (p.hi5 * 1000000) l.credit5,
               credit6 := clampI (p.lo6 * 1000000) (p.hi6 * 1000000) l.credit6 })
    |> fun (s : State) => if (s.lane n).gateRunning && !(s.lane n).adminRunning && (get {} before n).list != p.list then s.seekGate n else s) s

/-! ### Roles (R21 to R23) -/

/-- The standby that follows from a lead: the next higher healthy die, else the next lower, else none (R23). -/
def State.standbyFor (s : State) (lead : Nat) : Nat :=
  match s.upDies.find? (fun d => decide (lead < d)) with
  | some d => d
  | none =>
    match s.upDies.reverse.find? (fun d => decide (d < lead)) with
    | some d => d
    | none => 0xFF

/-- Is an object writable by requests: its value comes back from the MRAM mirror (R22)? -/
def writable (m : Nat) : Bool :=
  match objRow (m / 256) (m % 256) with
  | some r => (match r.acc with | .rw _ => true | _ => false)
  | none => false

/-- R23: lead and standby both lost: the dictionary is restored from the MRAM mirror, staged content is lost and its loss
logged. -/
def State.restoreMirror (s : State) : State :=
  let lost := s.stagedSlots.length
  let s := s.discardSlots
  let keep := fun (d : Dict) (b : Bool) => Dict.mk (d.objs.filter (fun e => writable (muxOf e.1) == b))
    (d.blobs.filter (fun e => writable (muxOf e.1) == b))
  let base : Dict := (keep s.dict false).excess (keep s.pkg.mirror true)
  let s := { s with staged := {}, held := [], dict := base,
                    pkg := { s.pkg with stagedLost := false } }
  s.logLead Ev.stagedLost 0xFFFF [(4, s.plan.active.gen), (2, lost)]

/-- R23: lead and standby after die `d` is lost.  Where the lead is lost before its standby is re-mirrored, its standby leads and the
dictionary comes back from the MRAM mirror, as it does when both are lost (DESIGN CHOICE, log entry 88). -/
def State.passRoles (s : State) (d : Nat) : State :=
  if d = s.pkg.lead then
    let complete := s.pkg.mirrored && s.dieUp s.pkg.standby && s.pkg.serving
    let newLead := if s.dieUp s.pkg.standby then s.pkg.standby else (s.upDies.head?).getD s.pkg.lead
    let nst := s.standbyFor newLead
    let lost := s.pkg.stagedLost || !complete
    let s := { s with
      access := { s.access with sessions := [], assocs := [], forwarded := [] },
      pkg := { s.pkg with lead := newLead, standby := nst, mirrored := false, serving := false, stagedLost := lost,
                          cancelOnResume := s.pkg.cancelOnResume || s.commitStatus == csRUNNING } }
    s.logLead Ev.leadTakeover 0xFFFF [(1, d), (1, newLead), (1, nst)]
  else if d = s.pkg.standby then
    let nst := s.standbyFor s.pkg.lead
    let s := { s with pkg := { s.pkg with standby := nst, mirrored := false } }
    s.logLead Ev.standbyChange 0xFFFF [(1, d), (1, nst)]
  else s

/-- R23: the roles after die `d` is lost: the loss of die 0 is also that of the anchor. -/
def State.loseRoles (s : State) (d : Nat) : State :=
  let s := s.passRoles d
  if d = 0 then ({ s with pkg := { s.pkg with anchorLost := true } }).logLead Ev.anchorLost 0xFFFF [] else s

/-- R23: the new lead resumes dictionary service, reports a cancelled commit, and restores what was lost. -/
def dictionaryResume (s : State) : State :=
  if s.pkg.serving then s
  else
    let s := if s.pkg.stagedLost then s.restoreMirror else s
    let s := if s.pkg.cancelOnResume then s.cancelCommits else s
    let s := if s.pkg.cancelOnResume ∧ s.commitStatus = csRUNNING then s.setN O.commitStatus csCANCELLED else s
    { s with pkg := { s.pkg with serving := true, cancelOnResume := false } }

/-- R23: re-mirroring to the new standby completes. -/
def remirrorDone (s : State) : State :=
  if s.pkg.standby = 0xFF then s else { s with pkg := { s.pkg with mirrored := true } }

def execRemirrorDone (t : Nat) (s : State) : Host.Outcome State Fault Refusal :=
  .next (remirrorDone (s.begin t))

/-! ### Die, region and link faults -/

/-- R293: the transactions of a lost die's masters end with it; those towards it end when its fault plan activates. -/
def State.dropTxns (s : State) (d : Nat) : State :=
  { s with bridge := { s.bridge with txns := s.bridge.txns.filter (fun x => x.die != d), queued := s.bridge.queued.filter (fun x => x.die != d) } }

/-- R19, R20, R94: a die fault. -/
def State.dieFault (s : State) (d cause first : Nat) : State :=
  if !s.dieUp d then s
  else
    let s := { s with pkg := { s.pkg with
      failed := s.pkg.failed ++ [d], healthy := setBit s.pkg.healthy d false,
      linkReports := del s.pkg.linkReports d, firstReport := del s.pkg.firstReport d,
      fatalWire := setBit s.pkg.fatalWire d false, thermalWire := setBit s.pkg.thermalWire d false,
      tamperWire := setBit s.pkg.tamperWire d false, wakeWire := setBit s.pkg.wakeWire d false } }
    let s := (List.range 4).foldl (fun s p => if s.trained d p then s.setSaddle d p linkFAILED else s) s
    let s := { s with bridge := { s.bridge with intPending := del s.bridge.intPending d } }
    let s := if s.n O.hostEndpointDie = d then s.setN O.hostEndpointDie 0xFF else s
    let s := { s with fw := { s.fw with conns := s.fw.conns.filter (fun c => c.home != d), moving := s.fw.moving.filter (fun e => e.2 != d) } }
    let s := s.loseRoles d
    let s := s.interruptTests (fun n => n / 8 == d)
    let s := s.refreshInstances
    let s := s.logLead Ev.dieFault 0xFFFF [(1, d), (1, cause)]
    let s := s.dropTxns d
    (s.recordFault (caseDie d)).activate (caseDie d) first

/-- R16, R19, R48, R363: a region fault; the second of a die fails the die. -/
def State.regionFault (s : State) (r cause : Nat) : State :=
  let d := r / 2
  if !s.regionUp r then s
  else if s.pkg.regionFaults.contains (2 * d + (1 - r % 2)) then
    let s := s.logEv d Ev.regionFault 0xFFFF [(1, d), (1, r % 2), (1, cause)]
    s.dieFault d 4 s.now
  else
    let s := s.logEv d Ev.regionFault 0xFFFF [(1, d), (1, r % 2), (1, cause)]
    let s := { s with pkg := { s.pkg with regionFaults := s.pkg.regionFaults ++ [r] } }
    let s := s.interruptTests (fun n => n / 4 == r)
    (s.recordFault (caseRegion r)).activate (caseRegion r) s.now

/-- R94: a side-band FATAL wire rises; the lead classifies a die fault within 1 µs. -/
def fatalWire (d cause : Nat) (s : State) : State :=
  if s.dieUp d then
    let s := { s with pkg := { s.pkg with fatalWire := setBit s.pkg.fatalWire d true } }
    s.dieFault d cause s.now
  else s

def execFatalWire (t : Nat) (die cause : Nat) (s : State) : Host.Outcome State Fault Refusal :=
  .next (fatalWire die cause (s.begin t))

/-- R25, R94: one link classified as a link fault. -/
def State.linkFault (s : State) (d p cause first : Nat) : State :=
  let e := s.lowerEnd d p
  if s.plan.faults.contains (caseLink e) then s
  else
    let s := s.logLead Ev.saddleLinkFault 0xFFFF [(1, e.1), (1, e.2), (1, cause)]
    (s.recordFault (caseLink e)).activate (caseLink e) first

/-- The ports of a die that were in service before the reports came: those still in service and those reported, without links to a die
that has failed. -/
def State.servicePorts (s : State) (d : Nat) : List Nat :=
  (List.range 4).filter (fun p => (s.saddle d p == linkSERVICE || bit (get 0 s.pkg.linkReports d) p) && (s.peer d p).any (fun e => s.dieUp e.1))

/-- R94: every in-service link of the die is reported failed. -/
def State.allLinksLost (s : State) (d : Nat) : Bool :=
  !(s.servicePorts d).isEmpty && (s.servicePorts d).all (bit (get 0 s.pkg.linkReports d))

/-- A report that a link of die `d` at port `p` has failed: recorded with the time of the first (R94). -/
def State.noteReport (s : State) (d p : Nat) : State :=
  { s with pkg := { s.pkg with
    linkReports := upd 0 s.pkg.linkReports d (fun m => setBit m p true),
    firstReport := if (look s.pkg.firstReport d).isSome then s.pkg.firstReport else ins s.pkg.firstReport d s.now } }

/-- R94: the last report about a die decides. -/
def State.decideDie (s : State) (d : Nat) : State :=
  if s.dieUp d && s.allLinksLost d then s.dieFault d 1 (get s.now s.pkg.firstReport d) else s

/-- R94: a link report from die `d`, port `p`, counts for both ends of the link; the far end is judged first. -/
def State.reportLink (s : State) (d p : Nat) (e : Nat × Nat) : State :=
  let s := if s.dieUp e.1 then (s.noteReport d p).noteReport e.1 e.2 else s
  (s.decideDie e.1).decideDie d

/-- R24: a link fails: its state, the frames in flight, and the report about the die at its other end. -/
def State.failLink (s : State) (d p : Nat) : State :=
  let s := { s with bridge := { s.bridge with stopped := s.bridge.stopped.filter (fun k => k != 4 * d + p) } }
  if s.saddle d p = linkSTANDBY then
    let e := s.lowerEnd d p
    (s.setSaddle d p linkFAILED).logLead Ev.saddleLinkFault 0xFFFF [(1, e.1), (1, e.2), (1, 0)]
  else
    let s := s.setSaddle d p linkFAILED
    match s.peer d p with
    | some e => s.reportLink d p e
    | none => s

/-- Misses in a row with one now: a miss follows the last one when no heartbeat fell between, that is less than two heartbeat periods
of 8 µs ago (R24). -/
def State.missesInRow (s : State) (d p : Nat) : Nat :=
  match look s.pkg.linkMiss (4 * d + p) with
  | some e => if s.now < e.2 + 16000 then e.1 + 1 else 1
  | none => 1

/-- R24: a heartbeat is not seen when due; the third miss in a row fails the link. -/
def heartbeatMissed (d p : Nat) (s : State) : State :=
  if s.dieUp d && s.trained d p then
    let s := s.inc32 (portKey O.missedHeartbeats d p)
    let m := s.missesInRow d p
    if m < 3 then { s with pkg := { s.pkg with linkMiss := ins s.pkg.linkMiss (4 * d + p) (m, s.now) } }
    else ({ s with pkg := { s.pkg with linkMiss := del s.pkg.linkMiss (4 * d + p) } }).failLink d p
  else s

def execHeartbeatMissed (t : Nat) (die port : Nat) (s : State) : Host.Outcome State Fault Refusal :=
  .next (heartbeatMissed die port (s.begin t))

/-- R24: every die sends a heartbeat on every trained link. -/
def heartbeatSend (s : State) : State :=
  let ports := s.upDies.flatMap (fun d => ((List.range 4).filter (s.trained d)).map (fun p => (d, p)))
  ports.foldl (fun s e => s.emit (.heartbeat e.1 e.2 s.now)) s

def execHeartbeatSend (t : Nat) (s : State) : Host.Outcome State Fault Refusal :=
  .next (heartbeatSend (s.begin t))

/-- Is a reported link still open to a decision about the die at its other end (R94)? -/
def State.peerOpen (s : State) (e : Nat × Nat) : Bool :=
  match look s.pkg.firstReport e.1 with
  | some first => s.dieUp e.1 && decide (s.now < first + 8000)
  | none => false

/-- R94: 8 µs after the first report about a die, the lead classifies: a die fault when every in-service link of it is
reported, else each reported link is a link fault, once the die at its other end is decided too. -/
def classifyTimeout (d : Nat) (s : State) : State :=
  match look s.pkg.firstReport d with
  | none => s
  | some first =>
    if s.now < first + 8000 then s
    else if s.dieUp d && s.allLinksLost d then s.dieFault d 1 first
    else
      let ports := bitsSet (get 0 s.pkg.linkReports d) 4
      let s := { s with pkg := { s.pkg with linkReports := del s.pkg.linkReports d, firstReport := del s.pkg.firstReport d } }
      ports.foldl (fun s p =>
        match s.peer d p with
        | some e => if s.dieUp e.1 && !s.peerOpen e then s.linkFault d p 0 first else s
        | none => s) s

def execDieFaultClassifyTimeout (t : Nat) (die : Nat) (s : State) : Host.Outcome State Fault Refusal :=
  .next (classifyTimeout die (s.begin t))

/-! ### Cluster restarts (R15, R16) -/

/-- The region of a cluster: 0 to 3 port clusters, 4 and 5 edge clusters. -/
def clusterRegion (d c : Nat) : Nat := 2 * d + (if c < 4 then c / 2 else c - 4)

/-- The cluster record of a die's cluster. -/
def State.cluster (s : State) (d c : Nat) : ClusterSt := get {} s.pkg.clusters (8 * d + c)

/-- The record of a cluster restart on its die's log, or on the lead's where the die has failed. -/
def State.logRestart (s : State) (d c cause : Nat) : State :=
  s.logEv (if s.dieUp d then d else s.pkg.lead) Ev.clusterRestart 0xFFFF
    [(1, d), (1, b2n (decide (4 ≤ c))), (1, if c < 4 then c else c - 4), (1, cause)]

/-- R15, R16, R28: a cluster restart; the third within 8,192 ticks of the first escalates to its region.  The 8,192 ticks count from the
first restart of a run, and a restart exactly 8,192 ticks after it starts a new run (DESIGN CHOICE, log entry 88).  Where the region or
the die has failed, the lower fault is logged and nothing restarts (R28). -/
def State.restartCluster (s : State) (d c cause : Nat) : State :=
  let r := clusterRegion d c
  if !s.regionUp r then (if s.hasDie d then s.logRestart d c cause else s)
  else
    let x := s.cluster d c
    let fresh := x.count == 0 || decide (8192 ≤ s.tickNo - x.firstTick)
    let count := if fresh then 1 else x.count + 1
    let first := if fresh then s.tickNo else x.firstTick
    if 3 ≤ count then s.regionFault r 0
    else
      let s := { s with pkg := { s.pkg with clusters := put {} s.pkg.clusters (8 * d + c) ⟨true, first, count⟩ } }
      let s := if c < 4 then
          [8 * d + 2 * c, 8 * d + 2 * c + 1].foldl (fun s n =>
            (s.drainLane n).updLane n (fun l =>
              { l with gateRunning := false, gateStates := 0x7F, gateOwner := 0xFFFF, gateNext := 0, hold := false,
                       sending := none })) s
        else { s with bridge := { s.bridge with edgeRam := del s.bridge.edgeRam (2 * d + (c - 4)) } }
      s.logRestart d c cause

/-- R15: the gate-engine watchdog of a port cluster. -/
def gateWatchdog (d c : Nat) (s : State) : State := if c < 4 then s.restartCluster d c 2 else s

def execGateWatchdog (t : Nat) (die cluster : Nat) (s : State) : Host.Outcome State Fault Refusal :=
  .next (gateWatchdog die cluster (s.begin t))

/-- R15: the cluster is back in service; its gate engines resume at their next cycle boundary. -/
def clusterBack (d c : Nat) (s : State) : State :=
  if (s.cluster d c).restarting then
    { s with pkg := { s.pkg with clusters := put {} s.pkg.clusters (8 * d + c) { s.cluster d c with restarting := false } } }
  else s

def execClusterBackInService (t : Nat) (die cluster : Nat) (s : State) : Host.Outcome State Fault Refusal :=
  .next (clusterBack die cluster (s.begin t))

/-! ### External links (R94, R107, R119) -/

/-- An external link is lost: a fault of the plan that protects it (R74, R92, R94, R95). -/
def State.externalLoss (s : State) (n : Nat) (first : Nat) : State :=
  let c := caseLane n
  if s.plan.active.gen ≠ 0 ∧ (protectedLanes s s.plan.active.contracts).contains n = true then (s.recordFault c).activate c first else s

/-- R107: loss of signal is declared and logged; `u` is its onset. -/
def State.declareLoss (s : State) (n u : Nat) : State :=
  let s := (s.inc32 (laneKey O.lossEvents n)).loseSignal n
  let s := s.logEv (dieOfLane n) Ev.linkLoss (epLane n) [(1, n), (1, s.n (laneKey O.linkStatus n))]
  s.externalLoss n u

/-- R107: loss of lock has lasted the loss hold-off. -/
def linkLoss (n : Nat) (s : State) : State :=
  match (s.lane n).lossSince with
  | none => s
  | some u =>
    if s.laneOn n && s.link n lkSIGNAL && decide (s.n (laneKey O.lossHoldOff n) * 1000 ≤ s.now - u) then s.declareLoss n u else s

def execLinkLoss (t : Nat) (lane : Nat) (s : State) : Host.Outcome State Fault Refusal :=
  .next (linkLoss lane (s.begin t))

/-- R106: negotiation resolves.  A rate or duplex that differs from the mode sets RATE_MISMATCH, is logged, and the lane
counts as having lost signal. -/
def autonegComplete (n rate : Nat) (full : Bool) (s : State) : State :=
  if s.laneOn n && s.usesAutoneg n then
    let s := (s.setLink n lkANDONE true).setN (laneKey O.resolvedRate n) rate
    if modeRate rate ≠ s.laneRate n ∨ !full then
      let s := s.setLink n lkRATEMISMATCH true
      let s := s.logEv (dieOfLane n) Ev.rateMismatch (epLane n) [(1, n), (1, rate)]
      if s.link n lkSIGNAL then s.declareLoss n s.now else s.breakHoldOff n
    else
      let s := s.setLink n lkRATEMISMATCH false
      (if s.link n lkLOCK then s.setLink n lkSIGNAL true else s).tryHoldOff n
  else s

def execAutonegComplete (t : Nat) (lane rate : Nat) (fullDuplex : Bool) (s : State) :
    Host.Outcome State Fault Refusal :=
  .next (autonegComplete lane rate fullDuplex (s.begin t))

/-- R119, R120: LACP takes a member out of collecting and distributing: it is treated as having lost signal. -/
def lacpOut (n : Nat) (s : State) : State :=
  match s.lagOf n with
  | none => s
  | some g =>
    if s.n (byIdx O.lacpMode g) = 0 || s.link n lkLACPOUT then s
    else
      let s := (s.setLink n lkLACPOUT true).updLane n (fun l => { l with lacpOut := true })
      (s.loseTraffic n s.now (s.inService n)).externalLoss n s.now

def execLacpOut (t : Nat) (lane : Nat) (s : State) : Host.Outcome State Fault Refusal :=
  .next (lacpOut lane (s.begin t))

/-! ### Derate levels and migration (R98, R99) -/

/-- A change of derate level starts a migration, or abandons the running one and starts a new one; while a commit is
RUNNING or SWITCH_PENDING it waits (R99). -/
def State.startMigration (s : State) : State :=
  if s.n O.migrationEnable = 0 then s
  else if s.commitStatus = csRUNNING ∨ s.commitStatus = csSWITCHPENDING then
    { s with plan := { s.plan with migrateAfter := true } }
  else (s.abandonMigration).setN O.migrationStatus msRUNNING

/-- A die's derate level changed and logged (R98, R376). -/
def State.setDerate (s : State) (d v : Nat) : State :=
  (s.setN (bySub O.dieDerateLevel d) v).logEv d Ev.derateChange 0xFFFF [(1, d), (1, v)] |>.startMigration

/-- R98: 64 consecutive ticks within 5 °C of the limit raise the level. -/
def derateRaise (d : Nat) (s : State) : State :=
  let v := s.n (bySub O.dieDerateLevel d)
  if s.dieUp d && decide (v < 3) && decide (64 ≤ get 0 s.plan.derateHot d) then
    { s with plan := { s.plan with derateHot := del s.plan.derateHot d } }.setDerate d (v + 1)
  else s

def execDerateRaise (t : Nat) (die : Nat) (s : State) : Host.Outcome State Fault Refusal :=
  .next (derateRaise die (s.begin t))

/-- R98, R376: 480,000 consecutive ticks more than 15 °C below the limit lower the level; one that Summit has raised needs the
package below 90 % of its cap for as long. -/
def derateLower (d : Nat) (s : State) : State :=
  let v := s.n (bySub O.dieDerateLevel d)
  let up := get 0 s.power.raised d
  if s.dieUp d && decide (0 < v) && decide (480000 ≤ get 0 s.plan.derateCool d) && (up == 0 || decide (480000 ≤ s.power.coolRun)) then
    { s with plan := { s.plan with derateCool := del s.plan.derateCool d }, power := { s.power with raised := put 0 s.power.raised d (up - 1) } }.setDerate d (v - 1)
  else s

def execDerateLower (t : Nat) (die : Nat) (s : State) : Host.Outcome State Fault Refusal :=
  .next (derateLower die (s.begin t))

end Sys2Proof.Machine
end

