-- ==== Sys2Proof/Machine/Msrp.lean ====
section
/-! DEFINITION. Stream reservations across the system (R81). -/
namespace Sys2Proof.Machine

open Sys2Proof

/-- Does a contract take part in MSRP: Reserved or Audio with a stream ID that is not zero (R81)? -/
def msrpContract (r : Bytes) : Bool :=
  (Contract.cls r == 1 || Contract.cls r == 2) && Contract.stream r != fill 8 0

/-- Does an advertise match an active contract: stream ID, destination and VID, with a rate and a frame size that do not
exceed the contract's (R81)? -/
def adMatches (s : State) (lane : Nat) (ad : TalkerAd) (r : Bytes) : Bool :=
  msrpContract r && Contract.stream r == ad.stream && Contract.matchAddr r == ad.dst && Contract.vid r == ad.vid &&
  decide (ad.maxFrame ≤ Contract.maxFrame r) && decide (ad.rate ≤ rateKbps s r (Contract.maxFrame r)) &&
  Contract.ingress r == s.laneEndpoint lane

/-- The failure code *insufficient bridge resources* of a Talker Failed (PRESUMED from IEEE 802.1Q, log entry 94). -/
abbrev failBRIDGE : Nat := 2

/-- R81: a Talker Advertise is propagated on the contract's egress lanes with the contract's bound added, or answered with
Talker Failed and counted. -/
def talkerAdvertise (lane : Nat) (ad : TalkerAd) (s : State) : State :=
  if !s.hasLane lane then s
  else
    match s.plan.active.contracts.find? (fun e => adMatches s lane ad e.2) with
    | none => ({ s with plan := { s.plan with talkerFailures := s.plan.talkerFailures + 1 } }).emit (.talkerFailed lane ad.stream failBRIDGE)
    | some e =>
      let k : Talker := ⟨e.1, ad.latency⟩
      let s := { s with plan := { s.plan with talkers := k :: s.plan.talkers.filter (fun x => x.slot != e.1) } }
      let b := get 0 s.plan.active.bounds e.1
      match s.placed e.1 with
      | none => s
      | some p => (p.egr.filter (fun x => x.lane != 0xFF)).foldl (fun s x => s.emit (.advertise x.lane e.1 (ad.latency + b))) s

def execTalkerAdvertise (t : Nat) (lane : Nat) (ad : TalkerAd) (s : State) : Host.Outcome State Fault Refusal :=
  .next (talkerAdvertise lane ad (s.begin t))

/-- R81: a Listener Ready or Ready Failed is registered on an egress lane of its contract, or withdrawn. -/
def listenerDeclaration (lane : Nat) (stream : Bytes) (ready : Bool) (s : State) : State :=
  match s.plan.active.contracts.find? (fun e => msrpContract e.2 && Contract.stream e.2 == stream) with
  | none => s
  | some e =>
    let rest := s.plan.listeners.filter (fun l => l != ⟨e.1, lane⟩)
    { s with plan := { s.plan with listeners := if ready then ⟨e.1, lane⟩ :: rest else rest } }

def execListenerDeclaration (t : Nat) (lane : Nat) (stream : Bytes) (ready : Bool) (s : State) :
    Host.Outcome State Fault Refusal :=
  .next (listenerDeclaration lane stream ready (s.begin t))

/-- May a contract's frames leave on a lane (R81)? -/
def State.listened (s : State) (slot lane : Nat) (r : Bytes) : Bool :=
  !msrpContract r || s.plan.listeners.contains ⟨slot, lane⟩

end Sys2Proof.Machine
end

