-- ==== Sys2Proof/Machine/Frame.lean ====
section
/-! DEFINITION. Frames: parsing, the lookup key of R135, receive classes and checksums of R111 and R112, tags of R129 and
R130, R-TAGs of R137. -/
namespace Sys2Proof.Machine

open Sys2Proof

/-! ### Counters held in records -/

/-- Add to a little-endian counter of `w` bytes inside a record, holding at its maximum. -/
def State.bump (s : State) (k off w n : Nat) : State :=
  let b := s.blob k
  s.setBlob k (patch b off (leBytes w (satN (maxU w) (fld b off w + n))))

/-- A stream counter of a slot (R148). -/
def State.streamCount (s : State) (slot off : Nat) : State := s.bump (at_ O.streamCounters slot) off 8 1

/-- A pass counter (R204). -/
def State.passCount (s : State) (p off : Nat) : State := s.bump (at_ O.passCounters p) off 8 1

/-- A MACsec counter of a lane (R351). -/
def State.secCount (s : State) (n off : Nat) : State := s.bump (bySub O.macsecCounters n) off 8 1

/-! ### Parsing (R127 stage 1, R129, R135) -/

/-- The destination address of a frame. -/
def dstAddr (b : Bytes) : Bytes := slice b 0 6

/-- The source address. -/
def srcAddr (b : Bytes) : Bytes := slice b 6 6

/-- The group bit of an address. -/
def isGroup (a : Bytes) : Bool := bit (fld a 0 1) 0

/-- Does the frame carry an 0x8100 tag (R129)? -/
def tagged (b : Bytes) : Bool := fldBE b 12 2 == 0x8100

/-- Offset of the EtherType after the 0x8100 tags. -/
def etOff (b : Bytes) : Nat :=
  if tagged b then (if fldBE b 16 2 = 0x8100 then 20 else 16) else 12

/-- What stage 1 finds beyond layer 2. -/
structure L3 where
  et : Nat := 0
  v4 : Bool := false
  v6 : Bool := false
  frag : Bool := false               -- non-first fragment
  anyFrag : Bool := false
  src : Nat := 0
  dst : Nat := 0
  proto : Nat := 0
  dscp : Nat := 0
  sport : Nat := 0
  dport : Nat := 0
  icmp : Nat := 0
  icmpId : Nat := 0
  tcpFlags : Nat := 0
  l4 : Nat := 0                      -- offset of the layer-4 header
  l4end : Nat := 0                   -- end of the packet
  excess : Bool := false               -- extension headers beyond the limits of R112
deriving DecidableEq, Repr

/-- Is a next header one of those that the walk follows? -/
def ipv6Ext (nh : Nat) : Bool := nh == 0 || nh == 43 || nh == 60

/-- Where the walk over extension headers ends: last next header, offset, whether a fragment header follows and whether it is a
non-first fragment, and whether a limit was passed. -/
def ipv6Stop (b : Bytes) (nh off : Nat) : Nat × Nat × Bool × Bool × Bool :=
  if nh = 44 then (fld b off 1, off + 8, true, decide (fldBE b (off + 2) 2 / 8 ≠ 0), false) else (nh, off, false, false, ipv6Ext nh)

/-- Follow up to `fuel` hop-by-hop, routing and destination-options headers, all within the first 256 bytes (R112). -/
def ipv6Walk (b : Bytes) : Nat → Nat → Nat → Nat × Nat × Bool × Bool × Bool
  | 0, nh, off => ipv6Stop b nh off
  | k + 1, nh, off =>
    let next := off + 8 * (fld b (off + 1) 1 + 1)
    if ipv6Ext nh = true ∧ next ≤ 256 then ipv6Walk b k (fld b off 1) next else ipv6Stop b nh off

/-- Layer-4 fields at an offset. -/
def L3.withL4 (x : L3) (b : Bytes) (off : Nat) : L3 :=
  if x.frag then { x with l4 := off }
  else if x.proto = 6 then
    { x with l4 := off, sport := fldBE b off 2, dport := fldBE b (off + 2) 2, tcpFlags := fld b (off + 13) 1 }
  else if x.proto = 17 then { x with l4 := off, sport := fldBE b off 2, dport := fldBE b (off + 2) 2 }
  else if x.proto = 1 ∨ x.proto = 58 then { x with l4 := off, icmp := fldBE b off 2, icmpId := fldBE b (off + 4) 2 }
  else { x with l4 := off }

/-- Parse an IP packet of EtherType `et` at offset `o`. -/
def parseIp (b : Bytes) (et o : Nat) : L3 :=
  if et = 0x0800 then
    let fo := fldBE b (o + 6) 2
    let x : L3 := { et := et, v4 := true, frag := decide (fo % 8192 ≠ 0), anyFrag := decide (fo % 16384 ≠ 0),
                    src := fldBE b (o + 12) 4, dst := fldBE b (o + 16) 4, proto := fld b (o + 9) 1,
                    dscp := fld b (o + 1) 1, l4end := o + fldBE b (o + 2) 2 }
    x.withL4 b (o + 4 * (fld b o 1 % 16))
  else if et = 0x86DD then
    let w := ipv6Walk b 4 (fld b (o + 6) 1) (o + 40)
    let x : L3 := { et := et, v6 := true, frag := w.2.2.2.1, anyFrag := w.2.2.1, src := fldBE b (o + 8) 16,
                    dst := fldBE b (o + 24) 16, proto := w.1, dscp := fldBE b o 2 / 16 % 256,
                    l4end := o + 40 + fldBE b (o + 4) 2, excess := w.2.2.2.2 }
    x.withL4 b w.2.1
  else { et := et }

/-- Parse a frame from its first 256 bytes (R127). -/
def parseL3 (b : Bytes) : L3 :=
  let h := b.take 256
  parseIp h (fldBE h (etOff h) 2) (etOff h + 2)

/-! ### Checksums (R112) -/

/-- One's-complement sum of 16-bit words, big-endian, not folded. -/
def sum16 : Bytes → Nat
  | [] => 0
  | [a] => a.toNat * 256
  | a :: b :: t => a.toNat * 256 + b.toNat + sum16 t

/-- A sum that includes its checksum is right when it folds to 0xFFFF: it is a multiple of 65,535 and not 0. -/
def sumOk (n : Nat) : Bool := n % 65535 == 0 && decide (0 < n)

/-- Offset of the EtherType behind up to two VLAN tags (R112), of the TPID that counts as one (R129). -/
def macEtOff (b : Bytes) : Nat := etOff b

/-- Class 8 of R111: an IPv4 header fault, or a length that runs past the end of the frame. -/
def l3Bad (b : Bytes) : Bool :=
  let o := macEtOff b + 2
  let et := fldBE b (o - 2) 2
  if et = 0x0800 then
    decide (fld b o 1 % 16 < 5) || !sumOk (sum16 (slice b o (4 * (fld b o 1 % 16)))) ||
      decide (b.length < o + fldBE b (o + 2) 2)
  else if et = 0x86DD then decide (b.length < o + 40 + fldBE b (o + 4) 2)
  else false

/-- Sum of the pseudo-header of an IP packet at `o`. -/
def pseudoSum (b : Bytes) (o : Nat) (x : L3) : Nat :=
  (if x.v4 then sum16 (slice b (o + 12) 8) else sum16 (slice b (o + 8) 32)) + x.proto + (x.l4end - x.l4)

/-- Class 9 of R111: a wrong layer-4 checksum where one is checked. -/
def l4Bad (b : Bytes) : Bool :=
  let o := macEtOff b + 2
  let x := parseIp b (fldBE b (o - 2) 2) o
  if !(x.v4 || x.v6) || x.anyFrag || x.excess then false
  else
    let body := sum16 (slice b x.l4 (x.l4end - x.l4))
    if x.proto = 17 then
      if fldBE b (x.l4 + 6) 2 = 0 then x.v6 else !sumOk (body + pseudoSum b o x)
    else if x.proto = 6 then !sumOk (body + pseudoSum b o x)
    else if x.proto = 1 ∧ x.v4 then !sumOk body
    else if x.proto = 58 ∧ x.v6 then !sumOk (body + pseudoSum b o x)
    else false

/-- A sum written at offset `o` so that a sum over it is right; `alt` stands for a sum of 0. -/
def putSum (b : Bytes) (o n alt : Nat) : Bytes :=
  let v := 65535 - (if n = 0 then 0 else if n % 65535 = 0 then 65535 else n % 65535)
  patch b o (beBytes 2 (if v = 0 then alt else v))

/-- R114: the IPv4 header checksum computed. -/
def withL3Sum (b : Bytes) : Bytes :=
  let o := etOff b + 2
  if fldBE b (o - 2) 2 = 0x0800 then
    let b := patch b (o + 10) (fill 2 0)
    putSum b (o + 10) (sum16 (slice b o (4 * (fld b o 1 % 16)))) 0
  else b

/-- Offset of the checksum in the layer-4 header of a packet that R114 computes one for; none for other packets and fragments. -/
def l4SumAt (x : L3) : Option Nat :=
  if !(x.v4 || x.v6) || x.anyFrag || x.excess then none
  else if x.proto = 17 then some 6
  else if x.proto = 6 then some 16
  else if x.proto = 1 ∧ x.v4 = true ∨ x.proto = 58 ∧ x.v6 = true then some 2
  else none

/-- R114: the TCP, UDP or ICMP checksum computed. -/
def withL4Sum (b : Bytes) : Bytes :=
  let o := etOff b + 2
  let x := parseL3 b
  match l4SumAt x with
  | none => b
  | some k =>
    let b := patch b (x.l4 + k) (fill 2 0)
    let n := sum16 (slice b x.l4 (x.l4end - x.l4)) + (if x.proto = 1 then 0 else pseudoSum b o x)
    putSum b (x.l4 + k) n (if x.proto = 17 then 65535 else 0)

/-- R114: the checksums asked for. -/
def withSums (l3 l4 : Bool) (b : Bytes) : Bytes :=
  let b := if l4 then withL4Sum b else b
  if l3 then withL3Sum b else b

/-! ### Receive classes (R109, R111) -/

/-- The length limit of a received frame (R109). -/
def State.rxLimit (s : State) (n : Nat) : Nat :=
  s.n (laneKey O.maximumFrameSize n) + (if s.macsecLane n then 32 else 0)

/-- Length of a received frame as it stood on the wire, FCS included. -/
def wireLen (f : RxFrame) : Nat :=
  f.bytes.length + 4 + (match f.sec with | some x => if x.untagged then 0 else 32 | none => 0)

/-- Bytes of a received frame, without the FCS, up to the limit of R109 on the wire (R111). -/
def State.rxKept (s : State) (n : Nat) (f : RxFrame) : Nat := s.rxLimit n - (wireLen f - f.bytes.length)

/-- The conditions of classes 1 to 9 that apply, in order of precedence. -/
def State.rxClasses (s : State) (n : Nat) (f : RxFrame) : List Nat :=
  let len := wireLen f
  let excess := decide (s.rxLimit n < len)
  let chk := s.n (laneKey O.checksumCheck n)
  let cand : List (Nat × Bool) :=
    [(1, f.align), (2, decide (len < 64) && f.fcs != .good), (3, decide (len < 64) && f.fcs == .good),
     (4, excess && f.fcs != .good), (5, excess && f.fcs == .good), (6, f.fcs == .stomped), (7, f.fcs == .bad),
     (8, bit chk 0 && l3Bad f.bytes), (9, bit chk 1 && l4Bad f.bytes)]
  (cand.filter (·.2)).map (·.1)

/-- The counter of a class (R111, R122). -/
def classCounter : Nat → Nat
  | 1 => O.alignmentErrors | 2 => O.fragments | 3 => O.undersize | 4 => O.jabbers | 5 => O.oversize
  | 6 => O.stompedReceived | 7 => O.fcsErrors | 8 => O.ipv4HeaderChecksumErrors | 9 => O.l4ChecksumErrors
  | _ => O.framesReceivedOK

/-- The error flags of a class (R111, R116). -/
def classFlags : Nat → Nat
  | 1 => 0x10 | 2 => 0xC0 | 3 => 0x40 | 4 => 0xA1 | 5 => 0x21 | 6 => 0x80 | 7 => 0x80 | 8 => 0x08 | 9 => 0x04 | _ => 0

/-- Bitwise union of small masks. -/
def orAll (l : List Nat) : Nat := maskOf (l.flatMap (fun v => bitsSet v 64))

/-! ### VLANs (R129, R130) -/

/-- Lanes on which a VLAN's copies leave without a tag. -/
def State.vlanUntagged (s : State) (vid : Nat) : Nat := fld (s.blob (at_ O.vlanRecords vid)) 12 8

/-- Flags of a VLAN. -/
def State.vlanFlags (s : State) (vid : Nat) : Nat := fld (s.blob (at_ O.vlanRecords vid)) 2 2

/-- The lane whose VLAN settings a lane follows: the lowest member of its group (R129). -/
def State.vlanLane (s : State) (n : Nat) : Nat :=
  match s.lagOf n with
  | some g => ((s.lagMembers g).head?).getD n
  | none => n

/-- The tag of a frame after stage 2: PCP, DEI and VID; `none` when R129 drops it. -/
def State.vlanIngress (s : State) (n : Nat) (b : Bytes) : Option (Nat × Nat × Nat) :=
  let v := s.vlanLane n
  let tci := fldBE b 14 2
  let vid0 := tci % 4096
  let isTag := tagged b
  let vid := if isTag ∧ vid0 ≠ 0 then vid0 else s.n (bySub O.pvid v)
  let acc := s.n (bySub O.acceptableFrameTypes v)
  let plain := !isTag || vid0 == 0
  if isTag && vid0 == 4095 then none
  else if acc = 1 ∧ plain then none
  else if acc = 2 ∧ !plain then none
  else if s.n (bySub O.ingressFiltering v) = 1 ∧ !bit (s.vlanMembers vid) n then none
  else some (if isTag then tci / 8192 else 0, if isTag then tci / 4096 % 2 else 0, vid)

/-- A frame's bytes with the tag (PCP, DEI, VID), whatever tag they had. -/
def withTag (b : Bytes) (pcp dei vid : Nat) : Bytes :=
  let rest := if tagged b then b.drop 16 else b.drop 12
  b.take 12 ++ beBytes 2 0x8100 ++ beBytes 2 (pcp * 8192 + dei * 4096 + vid) ++ rest

/-- A frame's bytes as a host ring gets them: with the tag it carries in the pipeline when it arrived with one, else as it arrived
(R116, R117, R129). -/
def hostBytes (p : Pkt) : Bytes := if p.wasTagged then withTag p.bytes p.pcp p.dei p.vid else p.bytes

/-- A frame's bytes without a tag. -/
def withoutTag (b : Bytes) : Bytes := if tagged b then b.take 12 ++ b.drop 16 else b

/-! ### R-TAGs (R137) -/

/-- Offset of an R-TAG: after the VLAN tags. -/
def rtagOff (b : Bytes) : Nat := etOff b

/-- The sequence number of a frame that carries an R-TAG. -/
def rtagOf (b : Bytes) : Option Nat :=
  if fldBE b (rtagOff b) 2 = 0xF1C1 then some (fldBE b (rtagOff b + 4) 2) else none

/-- A frame's bytes with an R-TAG of this number. -/
def withRtag (b : Bytes) (seq : Nat) : Bytes :=
  match rtagOf b with
  | some _ => patch b (rtagOff b + 4) (beBytes 2 seq)
  | none => b.take (rtagOff b) ++ beBytes 2 0xF1C1 ++ fill 2 0 ++ beBytes 2 seq ++ b.drop (rtagOff b)

/-! ### The lookup key (R135) -/

/-- The 64-byte key of R135. -/
def pktKey (p : Pkt) : Bytes :=
  let x := parseL3 p.bytes
  beBytes 2 p.inEp ++ leBytes 1 p.zone ++
  leBytes 1 (128 * b2n p.wasTagged + 64 * b2n x.v4 + 32 * b2n x.v6 + 16 * b2n x.frag) ++
  dstAddr p.bytes ++ srcAddr p.bytes ++ beBytes 2 (p.pcp * 8192 + p.vid) ++ beBytes 2 x.et ++
  beBytes 16 x.src ++ beBytes 16 x.dst ++ leBytes 1 x.proto ++ leBytes 1 x.dscp ++
  beBytes 2 x.sport ++ beBytes 2 x.dport ++ beBytes 2 x.icmp ++ fill 4 0

end Sys2Proof.Machine
end

