-- ==== Sys2Proof/Machine/Firewall.lean ====
section
/-! DEFINITION. Meters (R168 to R171) and the Col firewall (chapter 8): zones, passes, rules, sessions and their events. -/
namespace Sys2Proof.Machine

open Sys2Proof

/-! ### Meters (R168 to R171, R180) -/

/-- Units of a token count: 1 / 8,000,000 byte, so that a rate in kbit/s times ns counts units. -/
abbrev tokenUnit : Nat := 8000000

/-- A new meter starts full (R168). -/
def MeterSt.fresh (now cr cb sr sb mode actions : Nat) : MeterSt :=
  { cr := cr, cb := cb, sr := sr, sb := sb, mode := mode, actions := actions, ct := cb * tokenUnit, st := sb * tokenUnit,
    time := now, green := 0, yellow := 0, red := 0 }

/-- Tokens accrued up to `now`, held at the bursts. -/
def MeterSt.accrue (m : MeterSt) (now : Nat) : MeterSt :=
  let dt := now - m.time
  { m with ct := satN (m.cb * tokenUnit) (m.ct + m.cr * dt), st := satN (m.sb * tokenUnit) (m.st + m.sr * dt), time := now }

/-- Decide a frame of `bytes` with input colour 0 green, 1 yellow, 2 red (R169, R170): result colour and the meter after. -/
def MeterSt.decide (m : MeterSt) (bytes colour : Nat) : Nat × MeterSt :=
  let n := bytes * tokenUnit
  let c := if bit m.mode 3 then colour else 0
  let r : Nat × Nat × Nat :=
    if c = 2 then (2, 0, 0)
    else if bits m.mode 4 2 = 0 then
      if m.st < n then (2, 0, 0)
      else if c = 1 ∨ m.ct < n then (1, 0, n)
      else (0, n, n)
    else if c = 0 ∧ n ≤ m.ct then (0, n, 0)
    else if n ≤ m.st then (1, 0, n)
    else (2, 0, 0)
  (r.1, { m with ct := m.ct - r.2.1, st := m.st - r.2.2,
                 green := if r.1 = 0 then satN (2 ^ 64 - 1) (m.green + 1) else m.green,
                 yellow := if r.1 = 1 then satN (2 ^ 64 - 1) (m.yellow + 1) else m.yellow,
                 red := if r.1 = 2 then satN (2 ^ 64 - 1) (m.red + 1) else m.red })

/-- The action of a colour (R180): 0 forward, 1 set DEI, 2 drop. -/
def MeterSt.action (m : MeterSt) (colour : Nat) : Nat := bits m.actions (if colour = 0 then 4 else if colour = 1 then 2 else 0) 2

/-- Key of a meter: its die and owner. -/
def meterKey (d owner : Nat) : Nat := d * 65536 + owner

/-- Run a frame through a meter; the colour, the action and the state after. -/
def State.meter (s : State) (key : Nat) (new : MeterSt) (bytes colour : Nat) : Nat × Nat × State :=
  let m := (((look s.fwd.meters key).getD new).accrue s.now).decide bytes colour
  (m.1, m.2.action m.1, { s with fwd := { s.fwd with meters := ins s.fwd.meters key m.2 } })

/-! ### Zones (R182, R183) -/

/-- The zone of a VLAN, if it has one. -/
def State.vlanZone (s : State) (vid : Nat) : Option Nat :=
  let z := fld (s.blob O.vlanZones) vid 1
  if z = 0xFF then none else some z

/-- A lane's own zone, or its group's. -/
def State.laneZoneOf (s : State) (n : Nat) : Nat :=
  match s.lagOf n with
  | some g => s.n (bySub O.lagZone g)
  | none => s.n (bySub O.laneZone n)

/-- Number of an edge unit within its die in the zone array (R203). -/
def edgeIndex (kind u : Nat) : Nat :=
  if kind = 0 then u else if kind = 1 then 4 + u else if kind = 2 then 6 + u else if kind = 3 then 8
  else if kind = 4 then 9 else 10 + u

/-- The zone of an endpoint for a frame of this VID (R183). -/
def State.zoneOf (s : State) (e vid : Nat) : Nat :=
  if epKind e = 0 then (s.vlanZone vid).getD (s.laneZoneOf (bits e 0 6))
  else if epKind e = 1 then (s.vlanZone vid).getD (s.n (bySub O.lagZone (bits e 0 5)))
  else if epKind e = 2 then s.n (bySub O.edgeUnitZone (16 * bits e 8 3 + edgeIndex (bits e 4 3) (bits e 0 2)))
  else if epKind e = 3 then s.n O.cirqueZone
  else if epKind e = 4 then s.n (bySub O.hostRingZone (16 * bits e 8 3 + bits e 0 4))
  else if epKind e = 5 then (s.vlanZone (bits e 0 12)).getD 0xFF
  else 0xFF

/-! ### Passes and rules (R184 to R187) -/

/-- Key of a pass's enable (R203). -/
def passEnableKey (p : Nat) : Nat := mux (0x2700 + p / 128) (1 + p % 128)

/-- Is a pass enabled? -/
def State.passOn (s : State) (p : Nat) : Bool := s.n (passEnableKey p) == 1

/-- The enabled passes, lowest first. -/
def State.passesOn (s : State) : List Nat :=
  (s.dict.objs.filter (fun e => decide (0x270001 ≤ e.1) && decide (e.1 ≤ 0x271F80) && e.2 == 1)).map
    (fun e => 128 * (e.1 / 256 - 0x2700) + e.1 % 256 - 1)

/-- A pass record in force. -/
def State.passRec (s : State) (p : Nat) : Bytes := s.blob (at_ O.passRecords p)

/-- The enabled pass of an ordered pair of zones. -/
def State.passFor (s : State) (a b : Nat) : Option Nat :=
  s.passesOn.find? (fun p => fld (s.passRec p) 2 1 == a && fld (s.passRec p) 3 1 == b)

def passPickup (r : Bytes) : Bool := bit (fld r 4 2) 2
def passContracts (r : Bytes) : Bool := bit (fld r 4 2) 1
def passLogDefault (r : Bytes) : Bool := bit (fld r 4 2) 3
def passLimit (r : Bytes) : Nat := fld r 8 2

/-- The rules of a pass in force, lowest number first. -/
def State.rulesOf (s : State) (p : Nat) : List Bytes :=
  ((s.dict.blobs.filter (fun e => muxOf e.1 == O.ruleRecords && itemOf e.1 / 4096 == p)).map (·.2)).filter
    (fun r => decide (fld r 2 1 ≠ 0))

/-- Does a rule match a key under a key profile (R187)? -/
def ruleMatches (profile : Nat) (r key : Bytes) : Bool :=
  let k := slice r 0x10 64
  if fld r 2 1 = 3 then
    ((k.zip key).zip (slice r 0x50 64)).all (fun x => (x.1.1 ^^^ x.1.2) &&& x.2 == 0)
  else
    let f := fld r 5 1
    let rng := fld r 2 1 == 2
    (List.range 64).all (fun i => !inProfile profile i || (rng && (i == f || i == f + 1)) || fld k i 1 == fld key i 1) &&
    (!rng || (decide (fld r 6 2 ≤ fldBE key f 2) && decide (fldBE key f 2 ≤ fld r 8 2)))

/-- R355: is a table entry of a die lost and not yet reloaded from the plan shard?  Reloading takes 20 µs. -/
def State.hole (s : State) (d item : Nat) : Bool :=
  match look s.mem.holes (2 ^ 26 * d + item) with
  | some t => decide (s.now < t + 20000)
  | none => false

/-- The deciding rule on a die (R187). -/
def State.ruleFor (s : State) (d p : Nat) (key : Bytes) : Option Bytes :=
  (s.rulesOf p).find? (fun r => !s.hole d (2 ^ 24 + 4096 * p + fld r 0 2) && ruleMatches (fld (s.passRec p) 6 2) r key)

/-! ### Sessions (R195 to R197) -/

/-- Home die of an item of a placement kind (R104). -/
def State.homeOf (s : State) (kind item : Nat) : Option Nat := look s.plan.active.place.homes (kind * 65536 + item)

/-- The anchor die of an endpoint (R195). -/
def State.anchorOf (s : State) (e : Nat) : Nat :=
  if epKind e = 0 then bits e 0 6 / 8
  else if epKind e = 1 then ((s.lagMembers (bits e 0 5)).head?).getD 0 / 8
  else bits e 8 3

/-- The home die of the sessions of a pass with an anchor die (R195, R198). -/
def State.sessHome (s : State) (pass anchor : Nat) : Nat := (s.homeOf 3 (8 * pass + anchor)).getD anchor

/-- The die that serves an item now: while its sessions move, the old home answers lookups and makes new sessions (R199). -/
def State.sessHomeNow (s : State) (pass anchor : Nat) : Nat := (look s.fw.moving (8 * pass + anchor)).getD (s.sessHome pass anchor)

/-- Is a message an ICMP query that opens a session (R196)? -/
def icmpQuery (x : L3) : Bool :=
  (x.proto == 1 && x.v4 && [8, 13, 15].contains (x.icmp / 256)) || (x.proto == 58 && x.v6 && x.icmp / 256 == 128)

/-- Is a message the answer to an ICMP query?  DEDUCED (R195): the identifier keys queries, so only their answers carry the
reversed key. -/
def icmpAnswer (x : L3) : Bool :=
  (x.proto == 1 && x.v4 && [0, 14, 16].contains (x.icmp / 256)) || (x.proto == 58 && x.v6 && x.icmp / 256 == 129)

/-- Is a message an ICMP error (R190)? -/
def icmpError (x : L3) : Bool :=
  (x.proto == 1 && x.v4 && [3, 11, 12].contains (x.icmp / 256)) ||
  (x.proto == 58 && x.v6 && [1, 2, 3, 4].contains (x.icmp / 256))

/-- The ports part of a session key: ports, or the identifier of an ICMP message. -/
def flowPorts (x : L3) : Nat × Nat := if x.proto = 6 ∨ x.proto = 17 then (x.sport, x.dport) else (x.icmpId, 0)

/-- Does a session of `pass` and `anchor` have this key, forward? -/
def Conn.isFwd (c : Conn) (pass anchor : Nat) (x : L3) : Bool :=
  (x.proto == 6 || x.proto == 17 || icmpQuery x) && c.pass == pass && c.anchor == anchor && c.v6 == x.v6 && c.src == x.src && c.dst == x.dst && c.proto == x.proto &&
  c.sport == (flowPorts x).1 && c.dport == (flowPorts x).2

/-- Does a session have this key reversed? -/
def Conn.isRev (c : Conn) (pass anchor : Nat) (x : L3) : Bool :=
  (x.proto == 6 || x.proto == 17 || icmpAnswer x) && c.pass == pass && c.anchor == anchor && c.v6 == x.v6 && c.src == x.dst && c.dst == x.src && c.proto == x.proto &&
  (if x.proto = 6 ∨ x.proto = 17 then c.sport == x.dport && c.dport == x.sport else c.sport == x.icmpId)

abbrev tcpFIN : Nat := 0
abbrev tcpSYN : Nat := 1
abbrev tcpRST : Nat := 2
abbrev tcpACK : Nat := 4

/-- A SYN without ACK. -/
def isSyn (x : L3) : Bool := bit x.tcpFlags tcpSYN && !bit x.tcpFlags tcpACK

/-- *sessions in use* brought up to date. -/
def State.refreshConns (s : State) : State := s.setN O.sessionsInUse s.fw.conns.length

/-- The connection table replaced. -/
def State.withConns (s : State) (l : List Conn) : State := ({ s with fw := { s.fw with conns := l } }).refreshConns

/-- R196: the session after one of its frames; `none` when an RST removes it. -/
def Conn.frame (c : Conn) (now : Nat) (x : L3) (reply : Bool) : Option Conn :=
  let st := if c.proto ≠ 6 then c.state
    else if c.state = 1 ∧ reply ∧ bit x.tcpFlags tcpSYN ∧ bit x.tcpFlags tcpACK then 2
    else if c.state = 2 ∧ bit x.tcpFlags tcpFIN then 3 else c.state
  if c.proto = 6 ∧ bit x.tcpFlags tcpRST then none
  else some { c with state := st, last := now, frames := satN (2 ^ 64 - 1) (c.frames + 1) }

/-- The table after a frame of session `c`. -/
def State.touchConn (s : State) (c : Conn) (x : L3) (reply : Bool) : State :=
  s.withConns (s.fw.conns.filterMap (fun k => if k = c then c.frame s.now x reply else some k))

/-- How long a session may idle, in ns (R196). -/
def State.connTimeout (s : State) (c : Conn) : Nat :=
  1000000000 * s.n (if c.state = 2 then O.tcpEstablishedTimeout else if c.state = 1 ∨ c.state = 3 then O.tcpTransitoryTimeout
    else if c.state = 4 then O.udpTimeout else O.icmpTimeout)

/-- The session that has idled longest. -/
def oldestConn : List Conn → Option Conn
  | [] => none
  | c :: t =>
    match oldestConn t with
    | none => some c
    | some d => if d.last < c.last then some d else some c

/-- R197: make room for a session of an item, by evicting an idle one if a test fails; `none` when it is refused. -/
def State.makeRoom (s : State) (pass anchor home limit : Nat) : Option State :=
  let item := s.fw.conns.filter (fun c => c.pass == pass && c.anchor == anchor)
  let die := s.fw.conns.filter (fun c => c.home == home)
  let evict := fun (l : List Conn) =>
    match oldestConn l with
    | none => none
    | some c =>
      if s.n O.evictionAge * 1000000000 < s.now - c.last then
        some ((s.withConns (s.fw.conns.filter (· ≠ c))).inc64 O.evictedSessions)
      else none
  if limit ≤ item.length then evict item
  else if 4096 ≤ die.length then evict die
  else some s

/-! ### Evaluation at stage 6 (R189 to R192) -/

/-- The outcome of stage 6 for one copy. -/
structure Dec where
  permit : Bool
  dei : Bool := false
  mirrorPass : Option Nat := none

/-- R191: one FW_DENY event, unless the second's limit is reached. -/
def State.logDeny (s : State) (pass rule inEp : Nat) : State :=
  let sec := s.now / 1000000000
  let count := if s.fw.logSecond = sec then s.fw.logCount else 0
  if count < s.n O.logRateLimit then
    let s := { s with fw := { s.fw with logSecond := sec, logCount := count + 1 } }
    (s.passCount pass 0x10).logEv (s.anchorOf inEp) Ev.fwDeny inEp [(2, pass), (2, rule), (2, inEp)]
  else s.inc64 O.logSuppressed

/-- The meter of a pass on a die (R192). -/
def State.passMeter (s : State) (p : Nat) : MeterSt :=
  let r := s.passRec p
  MeterSt.fresh s.now (fld r 0x0C 4) (fld r 0x10 4) (fld r 0x14 4) (fld r 0x18 4) (fld r 0x0A 1) (fld r 0x0B 1)

/-- A permitting action applied to a copy of `len` counted bytes (R190). -/
def State.applyAction (s : State) (pass action die len colour : Nat) : Dec × State :=
  if action = 3 then
    let m := s.meter (meterKey die (0x8000 + pass)) (s.passMeter pass) len colour
    if m.2.1 = 2 then (⟨false, false, none⟩, if m.1 = 2 then m.2.2.passCount pass 0x18 else m.2.2)
    else (⟨true, m.2.1 == 1, none⟩, m.2.2.passCount pass 0)
  else if action = 4 then (⟨true, false, some pass⟩, s.passCount pass 0)
  else (⟨true, false, none⟩, s.passCount pass 0)

/-- R196, R197: a STATEFUL rule permits a copy that found no session: the state after with whether the copy stays permitted.  A
segment with RST creates a session and, forwarded, removes it. -/
def State.openConn (s : State) (pass anchor rule : Nat) (x : L3) : Bool × State :=
  let pr := s.passRec pass
  let limit := passLimit pr
  let home := s.sessHomeNow pass anchor
  let tcpLate := x.proto == 6 && !isSyn x && !passPickup pr
  if limit = 0 then (true, s)
  else if x.proto ≠ 6 ∧ x.proto ≠ 17 ∧ !icmpQuery x then (true, s)
  else if tcpLate then (false, s.passCount pass 8)
  else if !s.dieUp home then (true, s)
  else
    match s.makeRoom pass anchor home limit with
    | none => (false, s.passCount pass 0x30)
    | some s =>
      let st := if x.proto = 6 then (if isSyn x then 1 else 2) else if x.proto = 17 then 4 else 5
      let c : Conn := { pass := pass, anchor := anchor, state := st, v6 := x.v6, src := x.src, dst := x.dst,
                        proto := x.proto, sport := (flowPorts x).1, dport := (flowPorts x).2, rule := rule,
                        last := s.now, frames := 1, home := home }
      let gone := x.proto == 6 && bit x.tcpFlags tcpRST
      (true, (s.withConns (if gone then s.fw.conns else s.fw.conns ++ [c])).passCount pass 0x28)

/-- Sessions that answer now: those whose home is up (R197, R200). -/
def State.liveConns (s : State) : List Conn := s.fw.conns.filter (fun c => s.dieUp c.home)

/-- Stage 6 for one copy of an unclassified frame towards endpoint `out` in zone `b` (R190). -/
def State.evalCopy (s : State) (p : Pkt) (len out b : Nat) : Dec × State :=
  let x := parseL3 p.bytes
  let a := p.zone
  let fwd := s.passFor a b
  let rev := s.passFor b a
  let hitF := fwd.bind (fun f => s.liveConns.find? (fun c => c.isFwd f (s.anchorOf p.inEp) x))
  let hitR := rev.bind (fun r => s.liveConns.find? (fun c => c.isRev r (s.anchorOf out) x))
  let hitE := if icmpError x then
      rev.bind (fun r =>
        let y := parseIp p.bytes (if x.v6 then 0x86DD else 0x0800) (x.l4 + 8)
        s.liveConns.find? (fun c => c.isFwd r (s.anchorOf out) y))
    else none
  match hitF with
  | some c =>
    let s := s.touchConn c x false
    let act := match look s.dict.blobs (ruleKey c.pass c.rule) with | some r => fld r 3 1 | none => 0
    s.applyAction c.pass act p.die len p.colour
  | none =>
    match hitR with
    | some c => (⟨true, false, none⟩, (s.touchConn c x true).passCount c.pass 0)
    | none =>
      match hitE with
      | some c => (⟨true, false, none⟩, s.passCount c.pass 0)
      | none =>
        match fwd with
        | none => (⟨false, false, none⟩, s.inc64 (bySub O.noPassDenials a))
        | some f =>
          match s.ruleFor p.die f (pktKey p) with
          | none =>
            let s := s.passCount f 8
            (⟨false, false, none⟩, if passLogDefault (s.passRec f) then s.logDeny f 0xFFFF p.inEp else s)
          | some r =>
            let act := fld r 3 1
            if act = 1 then (⟨false, false, none⟩, s.passCount f 8)
            else if act = 2 then (⟨false, false, none⟩, (s.passCount f 8).logDeny f (fld r 0 2) p.inEp)
            else if bit (fld r 4 1) 0 && (x.v4 || x.v6) then
              let o := s.openConn f (s.anchorOf p.inEp) (fld r 0 2) x
              if o.1 then o.2.applyAction f act p.die len p.colour else (⟨false, false, none⟩, o.2)
            else s.applyAction f act p.die len p.colour

/-- The remote home that a copy's lookups must ask first, if any (R195): the home of the forward item, else of the reply
item, when it lies on another die that is up. -/
def State.remoteHome (s : State) (p : Pkt) (out b : Nat) : Option Nat :=
  let x := parseL3 p.bytes
  if !(x.v4 || x.v6) then none
  else
    let hs := ((s.passFor p.zone b).map (fun f => s.sessHomeNow f (s.anchorOf p.inEp))).toList ++
              ((s.passFor b p.zone).map (fun r => s.sessHomeNow r (s.anchorOf out))).toList
    hs.find? (fun h => h != p.die && s.dieUp h)

/-! ### Commands of the connection table -/

/-- R196: sessions idle beyond their timeout are removed. -/
def sessionIdleExpiry (s : State) : State :=
  s.withConns (s.fw.conns.filter (fun c => decide (s.now - c.last < s.connTimeout c)))

def execSessionIdleExpiry (t : Nat) (s : State) : Host.Outcome State Fault Refusal :=
  .next (sessionIdleExpiry (s.begin t))

/-- R199: the transfer of an item's sessions to its new home completes. -/
def sessionTransferDone (pass die : Nat) (s : State) : State :=
  let h := s.sessHome pass die
  let s := { s with fw := { s.fw with moving := del s.fw.moving (8 * pass + die) } }
  s.withConns (s.fw.conns.map (fun c => if c.pass = pass ∧ c.anchor = die then { c with home := h } else c))

def execSessionTransferDone (t : Nat) (pass die : Nat) (s : State) : Host.Outcome State Fault Refusal :=
  .next (sessionTransferDone pass die (s.begin t))

/-- R199: *session flush* removes the sessions of a pass, or of all. -/
def sessionFlush (pass : Nat) (_ : Session) (s : State) : Status × State :=
  (.ok, s.withConns (if pass = 0xFFFF then [] else s.fw.conns.filter (fun c => c.pass != pass)))

def execSessionFlush (t : Nat) (who : Who) (pass : Nat) (s : State) : Host.Outcome State Fault Refusal :=
  cmdRow t who 0x2600 9 pass (sessionFlush pass) s

/-- R203: *clear pass counters* clears the passes of the session's window. -/
def clearPassCounters (x : Session) (s : State) : Status × State :=
  let a := x.sel O.firstCounterPass
  let n := x.sel O.counterPassCount
  (.ok, ((List.range n).filter (fun i => decide (a + i < 4096))).foldl
    (fun s i => s.setBlob (at_ O.passCounters (a + i)) (fill 64 0)) s)

def execClearPassCounters (t : Nat) (who : Who) (s : State) : Host.Outcome State Fault Refusal :=
  cmdRow t who 0x2650 4 1 clearPassCounters s

/-- R146: *clear stream counters* clears the slots of the session's window. -/
def clearStreamCounters (x : Session) (s : State) : Status × State :=
  let a := x.sel O.firstCounterSlot
  let n := x.sel O.counterSlotCount
  (.ok, ((List.range n).filter (fun i => decide (a + i < 8192))).foldl
    (fun s i => s.setBlob (at_ O.streamCounters (a + i)) (fill 64 0)) s)

def execClearStreamCounters (t : Nat) (who : Who) (s : State) : Host.Outcome State Fault Refusal :=
  cmdRow t who 0x2450 4 1 clearStreamCounters s

/-- R199: the sessions that survive a generation switch: the pass enabled before and after, and the creating rule with an
identical record. -/
def State.switchConns (s old : State) : State :=
  s.withConns (s.fw.conns.filter (fun c =>
    s.passOn c.pass && look s.dict.blobs (ruleKey c.pass c.rule) == look old.dict.blobs (ruleKey c.pass c.rule) &&
    (look s.dict.blobs (ruleKey c.pass c.rule)).any (fun r => decide (fld r 2 1 ≠ 0))))

/-- R199: items whose home changed at a switch start to move; until the transfer completes the old home serves them. -/
def State.startMoves (s old : State) : State :=
  let items := (s.fw.conns.map (fun c => (c.pass, c.anchor))).eraseDups
  let mv := items.filter (fun (i : Nat × Nat) => s.sessHome i.1 i.2 != old.sessHome i.1 i.2)
  { s with fw := { s.fw with moving := mv.foldl (fun m (i : Nat × Nat) => ins m (8 * i.1 + i.2) (old.sessHomeNow i.1 i.2)) s.fw.moving } }

end Sys2Proof.Machine
end

