-- ==== Sys2Proof/Machine/Macsec.lean ====
section
/-! DEFINITION. The inline MACsec lane (R330, R334 to R337, R351): what it does to a received frame and to a frame sent. -/
namespace Sys2Proof.Machine

open Sys2Proof

/-- XPN suites (R331). -/
def chXpn (r : Bytes) : Bool := decide (2 ≤ fld r 4 1)
def chEnabled (r : Bytes) : Bool := bit (fld r 2 1) 0
def chReplay (r : Bytes) : Bool := bit (fld r 2 1) 2

/-- Greatest packet number of a channel (R335). -/
def pnMax (r : Bytes) : Nat := if chXpn r then 2 ^ 64 - 1 else 2 ^ 32 - 1

/-- Threshold of MACSEC_PN_THRESHOLD (R335). -/
def pnThreshold (r : Bytes) : Nat := if chXpn r then 0xFFFFFFFF00000000 else 0xC0000000

/-- The SAs replaced by `f` where it applies. -/
def State.mapSas (s : State) (f : Sa → Sa) : State := { s with cipher := { s.cipher with sas := s.cipher.sas.map f } }

/-- The journal brought up to a new high-water mark of an SA (R336). -/
def State.journalMark (s : State) (a : Sa) (v : Nat) : State :=
  { s with cipher := { s.cipher with journal := s.cipher.journal.map (fun (k : KiRec) =>
      if k.ki = a.ki ∧ k.receive = a.receive ∧ k.channel = a.channel then { k with stored := v } else k) } }.logBytes (a.channel / 64)
    journalBytes

/-- An SA moved to a new packet number; crossing a multiple of 2^16 writes the journal (R336). -/
def State.movePn (s : State) (a : Sa) (pn : Nat) : State :=
  let mark := pn / 65536 * 65536
  let cross := decide (a.pn / 65536 < pn / 65536)
  let s := s.mapSas (fun x => if x = a then
    { x with pn := pn, frames := satN (2 ^ 64 - 1) (x.frames + 1), stored := if cross then mark else x.stored } else x)
  if cross then s.journalMark a mark else s

/-- What becomes of a received frame on a MACsec lane: it passes, is dropped on its header, or fails its integrity check, which a
cut-through frame is forwarded before (R142). -/
inductive SecVerdict where
  | pass
  | drop
  | fail
deriving DecidableEq, Repr

/-- A frame received on a MACsec lane: its verdict, and the state after (R331, R335, R351). -/
def State.macsecIn (s : State) (n : Nat) (x : RxSec) : SecVerdict × State :=
  match s.channelOfLane n with
  | none => (.pass, s)
  | some c =>
    let r := s.channelRec c
    let validate := fld r 6 1
    if x.untagged then
      if validate = 2 then (.drop, s.secCount n 0x28) else (.pass, s)
    else if validate = 0 then (.pass, s)
    else
      match s.cipher.sas.find? (fun a => a.channel == c && a.receive && a.an == x.an && a.state != 3) with
      | none => (.drop, s.secCount n 0x20)
      | some a =>
        if !x.sciOk then (.drop, s.secCount n 0x20)
        else if pnMax r < a.pn then (.drop, s.secCount n 0x20)
        else if chReplay r && decide (x.pn < a.pn) then (.drop, s.secCount n 0x18)
        else if !x.icvOk then
          let s := s.secCount n 0x10
          (if validate = 2 then .fail else .pass, s)
        else
          let low := max a.pn (x.pn + 1 - fld r 0x0A 2)
          (.pass, (s.movePn a (if chReplay r then low else a.pn)).secCount n 0x08)

/-- A frame to be sent on a MACsec lane under its SA in use: may it be sent, and the state after (R333 to R335)? -/
def State.macsecOut (s : State) (n : Nat) : Bool × State :=
  match s.channelOfLane n with
  | none => (true, s)
  | some c =>
    let r := s.channelRec c
    match s.cipher.sas.find? (fun a => a.channel == c && !a.receive && (a.state == 2 || a.state == 3)) with
    | none => (false, s.secCount n 0x20)
    | some a =>
      if a.state = 3 then (false, s.secCount n 0x30)
      else if pnMax r < a.pn then
        (false, (s.mapSas (fun x => if x = a then { x with state := 3 } else x)).secCount n 0x30)
      else
        let warn := decide (pnThreshold r ≤ a.pn + 1) && !a.warned
        let s := s.mapSas (fun x => if x = a then { x with warned := x.warned || warn } else x)
        let a := { a with warned := a.warned || warn }
        let s := if warn then s.logEv (c / 64) Ev.macsecPnThreshold (epLane n) [(2, c), (1, a.an)] else s
        let s := (s.movePn a (a.pn + 1)).mapSas (fun x =>
          if x.channel = c ∧ !x.receive ∧ x.an = a.an ∧ pnMax r < x.pn then { x with state := 3 } else x)
        (true, s.secCount n 0)

end Sys2Proof.Machine
end

