-- ==== Sys2Proof/Machine/Ptp.lean ====
section
/-! DEFINITION. Packets the AX8 builds, PTP messages, and what the MAC writes into them as they leave (R115, R209, R210,
R215 to R217). -/
namespace Sys2Proof.Machine

open Sys2Proof

/-! ### Packets -/

/-- The one's-complement checksum of bytes on top of a partial sum. -/
def checksum (n : Nat) : Nat := 65535 - (if n = 0 then 0 else if n % 65535 = 0 then 65535 else n % 65535)

/-- A UDP datagram over IPv4: DSCP, TTL, source, destination, ports, payload. -/
def udp4 (dscp ttl src dst sport dport : Nat) (p : Bytes) : Bytes :=
  let h := [0x45, BitVec.ofNat 8 (4 * dscp)] ++ beBytes 2 (28 + p.length) ++ fill 4 0 ++ [BitVec.ofNat 8 ttl, 17]
  let a := beBytes 4 src ++ beBytes 4 dst
  let hs := checksum (sum16 (h ++ fill 2 0 ++ a))
  let u := beBytes 2 sport ++ beBytes 2 dport ++ beBytes 2 (8 + p.length)
  let us := checksum (sum16 a + 17 + 8 + p.length + sum16 (u ++ fill 2 0 ++ p))
  h ++ beBytes 2 hs ++ a ++ u ++ beBytes 2 (if us = 0 then 65535 else us) ++ p

/-- A UDP datagram over IPv6. -/
def udp6 (dscp hops src dst sport dport : Nat) (p : Bytes) : Bytes :=
  let a := beBytes 16 src ++ beBytes 16 dst
  let u := beBytes 2 sport ++ beBytes 2 dport ++ beBytes 2 (8 + p.length)
  let us := checksum (sum16 a + 17 + 8 + p.length + sum16 (u ++ fill 2 0 ++ p))
  beBytes 4 (6 * 2 ^ 28 + dscp * 2 ^ 22) ++ beBytes 2 (8 + p.length) ++ [17, BitVec.ofNat 8 hops] ++ a ++ u ++
    beBytes 2 (if us = 0 then 65535 else us) ++ p

/-- The package base MAC address, the source address of what the AX8 originates. -/
def State.baseMac (s : State) : Bytes := s.blob O.packageBaseMACAddress

/-- The device's own IPv4 address (R401). -/
def State.ownIp4 (s : State) : Nat := s.n O.managementIPv4Prefix + s.n O.systemAddress

/-- The device's own IPv6 address. -/
def State.ownIp6 (s : State) : Nat := s.n O.managementIPv6Prefix * 2 ^ 64 + s.n O.systemAddress

/-- An RFC 1624 update of a one's-complement field for bytes that changed. -/
def csumUpdate (hc : Nat) (old new : Bytes) : Nat :=
  let fold := fun (n : Nat) => if n = 0 then 0 else if n % 65535 = 0 then 65535 else n % 65535
  65535 - fold ((65535 - hc) + (65535 - fold (sum16 old)) + sum16 new)

/-! ### PTP messages -/

/-- Offset of the PTP message in a frame, and the offset of its UDP header (0 for Layer 2); none for other frames. -/
def ptpAt (b : Bytes) : Option (Nat × Nat) :=
  if fldBE b (etOff b) 2 = 0x88F7 then some (etOff b + 2, 0)
  else
    let x := parseL3 b
    if x.proto = 17 ∧ (x.dport = 319 ∨ x.dport = 320) ∧ x.anyFrag = false then some (x.l4 + 8, x.l4) else none

/-- The message type. -/
def ptpType (m : Bytes) : Nat := fld m 0 1 % 16

/-- The instance of a message: its profile family (gPTP: majorSdoId 1) and domain (R209). -/
def State.ptpInst (s : State) (m : Bytes) : Option Nat :=
  (List.range 4).find? (fun i =>
    s.instOn i && s.n (byIdx O.domainNumber i) == fld m 4 1 &&
    (s.n (byIdx O.profile i) == 0) == (fld m 0 1 / 16 == 1))

/-- A timestamp of 10 bytes. -/
def ptpTime (ns : Nat) : Bytes := beBytes 6 (ns / 1000000000) ++ beBytes 4 (ns % 1000000000)

/-- The time of a 10-byte timestamp at offset `o`, ns. -/
def ptpNs (m : Bytes) (o : Nat) : Nat := fldBE m o 6 * 1000000000 + fldBE m (o + 6) 4

/-- The correctionField, in 2^-16 ns. -/
def ptpCorr (m : Bytes) : Int := signed 64 (fldBE m 8 8)

/-- The 34-byte header of a message of the AX8 on lane `n` (IEEE 1588-2019). -/
def State.ptpHeader (s : State) (i ty body flags seq : Nat) (log : Int) (n : Nat) (corr : Int) : Bytes :=
  let major := if s.n (byIdx O.profile i) = 0 then 1 else 0
  let control := if ty = 0 then 0 else if ty = 1 then 1 else if ty = 8 then 2 else if ty = 9 then 3 else 5
  beBytes 1 (16 * major + ty) ++ [0x12] ++ beBytes 2 (34 + body) ++ beBytes 1 (s.n (byIdx O.domainNumber i)) ++ [0] ++
    beBytes 2 flags ++ beBytes 8 (unsignedOf 64 corr) ++ fill 4 0 ++ s.clockId ++ beBytes 2 (1 + n) ++ beBytes 2 seq ++
    beBytes 1 control ++ beBytes 1 (unsignedOf 8 log)

/-- flagField of a message: ptpTimescale, with twoStepFlag. -/
def ptpFlags (two : Bool) : Nat := 8 + (if two then 0x200 else 0)

/-- The Follow_Up information TLV of gPTP: the cumulative rate ratio, nothing else known. -/
def State.followUpTlv (s : State) (i : Nat) : Bytes :=
  beBytes 2 3 ++ beBytes 2 28 ++ [0x00, 0x80, 0xC2, 0, 0, 1] ++
    beBytes 4 (unsignedOf 32 ((s.inst i).ppb * 2 ^ 41 / 1000000000)) ++ fill 18 0

/-- The next sequence number of a message type on a lane, and the state that has used it. -/
def State.nextSeq (s : State) (i n ty : Nat) : Nat × State :=
  let k := 16 * n + ty
  let q := get 0 (s.inst i).seqs k
  (q, s.updInst i (fun x => { x with seqs := ins x.seqs k ((q + 1) % 65536) }))

/-- A frame that carries a message of an instance: its transport and the addresses of R209. -/
def State.ptpFrameOf (s : State) (i : Nat) (m : Bytes) : Bytes :=
  let ty := ptpType m
  let peer := ty == 2 || ty == 3 || ty == 0xA
  let port := if ty < 8 then 319 else 320
  let gptp := s.n (byIdx O.profile i) == 0
  let tr := if gptp then 0 else s.n (byIdx O.transport i)
  if tr = 1 then
    let dst := if peer then 0xE000006B else 0xE0000181
    beBytes 3 0x01005E ++ beBytes 3 (dst % 2 ^ 23) ++ s.baseMac ++ beBytes 2 0x0800 ++
      udp4 0 (if peer then 1 else 64) s.ownIp4 dst port port m
  else if tr = 2 then
    let dst := if peer then 0xFF02 * 2 ^ 112 + 0x6B else 0xFF0E * 2 ^ 112 + 0x181
    beBytes 2 0x3333 ++ beBytes 4 (dst % 2 ^ 32) ++ s.baseMac ++ beBytes 2 0x86DD ++
      udp6 0 (if peer then 1 else 64) s.ownIp6 dst port port (m ++ fill 2 0)
  else
    (if gptp || peer then beBytes 6 0x0180C200000E else beBytes 6 0x011B19000000) ++ s.baseMac ++ beBytes 2 0x88F7 ++ m

/-- The ingress endpoint that marks frames the AX8 itself originates. -/
abbrev epOwn : Nat := 0xFFFE

/-- A frame of the AX8 for a lane, in a traffic class. -/
def ownFrame (b : Bytes) (tc ts now : Nat) : QFrame :=
  { bytes := b, len := max 64 (b.length + 4), tc := tc, slot := 0xFFFF, ingress := epOwn, ts := ts, rtag := none, cut := false,
    mirror := 0, l3 := false, l4 := false, stomp := false, since := now }

/-- A frame joins the tail of a lane's queues; a Best-effort class that was empty starts its starvation clock. -/
def State.joinQueue (s : State) (n : Nat) (f : QFrame) : State :=
  s.updLane n (fun l =>
    { l with queues := l.queues ++ [f],
             beSent := if f.tc ≤ 2 ∧ !(l.queues.any (fun g => g.tc == f.tc)) then ins l.beSent f.tc s.now else l.beSent })

/-! ### Departure (R215 to R217) -/

/-- The message of a frame rewritten at one field, with the checksum repair of R115. -/
def ptpPatch (b : Bytes) (at_ : Nat × Nat) (off : Nat) (v : Bytes) : Bytes :=
  let o := at_.1 + off
  let old := slice b o v.length
  let b' := patch b o v
  if at_.2 = 0 then b'
  else
    let u := at_.2
    let cs := fldBE b (u + 6) 2
    let msgLen := fldBE b (at_.1 + 2) 2
    let v6 := fldBE b (etOff b) 2 == 0x86DD
    if v6 && decide (msgLen + 10 ≤ fldBE b (u + 4) 2) then
      let t := at_.1 + fldBE b (u + 4) 2 - 10
      patch b' t (beBytes 2 (65535 - csumUpdate (65535 - fldBE b t 2) v old))
    else if cs = 0 then b'
    else patch b' (u + 6) (beBytes 2 (csumUpdate cs old v))

/-- Nanoseconds of the local time base in 2^-16 ns of the grandmaster's, rounded (R216). -/
def scaledNs (ns : Nat) (ppb : Int) : Int := ((ns : Int) * 65536 * (1000000000 + ppb) + 500000000) / 1000000000

/-- Is the frame a relayed Sync of a configured instance: it came in on a member lane (R216)? -/
def State.relayOf (s : State) (f : QFrame) : Option Nat :=
  match ptpAt f.bytes with
  | none => none
  | some a =>
    let m := f.bytes.drop a.1
    if ptpType m = 0 ∧ epKind f.ingress = 0 then
      match s.ptpInst m with
      | some i => if bit (s.n (byIdx O.memberLanes i)) (bits f.ingress 0 6) then some i else none
      | none => none
    else none

/-- R216: a relayed Sync that waits while its instance changes grandmaster is discarded at egress. -/
def State.staleRelay (s : State) (f : QFrame) : Bool :=
  match s.relayOf f with
  | some i => decide (f.since < (s.inst i).gmAt)
  | none => false

/-- The discarded Sync is counted. -/
def State.dropRelay (s : State) (f : QFrame) : State :=
  match s.relayOf f with
  | some i => s.updInst i (fun x => { x with relaysDropped := x.relaysDropped + 1 })
  | none => s

/-- Is the frame a transit PTP message: neither the AX8's own nor one that an instance relays (R217)? -/
def State.transitPtp (s : State) (f : QFrame) : Bool :=
  (ptpAt f.bytes).isSome && f.ingress != epOwn && (s.relayOf f).isNone

/-- The frame as it leaves lane `n` now, with what the time unit records and queues for it (R215 to R217). -/
def State.ptpDepart (s : State) (n : Nat) (f : QFrame) : Bytes × State :=
  match ptpAt f.bytes with
  | none => (f.bytes, s)
  | some a =>
    let m := f.bytes.drop a.1
    let ty := ptpType m
    let out := s.txStamp n s.now
    let corr := ptpCorr m
    if f.mirror ≠ 0 ∨ epKind f.ingress = 4 then (f.bytes, s)
    else if f.ingress = epOwn then
      match s.ptpInst m with
      | none => (f.bytes, s)
      | some i =>
        let one := s.n (byIdx O.oneStep i) == 1
        let gptp := s.n (byIdx O.profile i) == 0
        let note := fun (s : State) (g : DelaySt → DelaySt) => s.updInst i (fun x => { x with delay := upd {} x.delay n g })
        if ty = 0 then
          let g := s.instAt i out
          if one then (ptpPatch (ptpPatch f.bytes a 8 (fill 8 0)) a 0x22 (ptpTime g), s)
          else
            let body := ptpTime g ++ (if gptp then s.followUpTlv i else [])
            let fu := s.ptpHeader i 8 body.length (ptpFlags false) (fldBE m 0x1E 2) (signed 8 (fld m 0x21 1)) n 0 ++ body
            (f.bytes, s.joinQueue n (ownFrame (s.ptpFrameOf i fu) 2 s.now s.now))
        else if ty = 1 then (f.bytes, note s (fun d => { d with t3 := s.instAt i out }))
        else if ty = 2 then (f.bytes, note s (fun d => { d with t1 := out }))
        else if ty = 3 then
          if one && !gptp then
            (ptpPatch f.bytes a 8 (beBytes 8 (unsignedOf 64 (corr + ((out - f.ts : Nat) : Int) * 65536))), s)
          else
            let body := ptpTime out ++ slice m 0x2C 10
            let fu := s.ptpHeader i 0xA body.length (ptpFlags false) (fldBE m 0x1E 2) 127 n 0 ++ body
            (f.bytes, s.joinQueue n (ownFrame (s.ptpFrameOf i fu) 2 s.now s.now))
        else (f.bytes, s)
    else
      match s.relayOf f with
      | some i =>
        let d := s.n (bySub O.meanLinkDelay (bits f.ingress 0 6))
        let add := scaledNs ((out - f.ts) + (if d = 0xFFFFFFFF then 0 else d)) (s.inst i).ppb
        if s.n (byIdx O.oneStep i) = 1 then (ptpPatch f.bytes a 8 (beBytes 8 (unsignedOf 64 (corr + add))), s)
        else
          let body := slice m 0x22 10 ++ s.followUpTlv i
          let fu := s.ptpHeader i 8 body.length (ptpFlags false) (fldBE m 0x1E 2) (signed 8 (fld m 0x21 1)) n (corr + add) ++ body
          (ptpPatch (ptpPatch f.bytes a 6 (beBytes 2 (ptpFlags true))) a 8 (fill 8 0),
            s.joinQueue n (ownFrame (s.ptpFrameOf i fu) 2 s.now s.now))
      | none =>
        if s.n (bySub O.transparentClock n) = 1 ∧ (ty = 0 ∨ ty = 1) then
          (ptpPatch f.bytes a 8 (beBytes 8 (unsignedOf 64 (corr + ((out - f.ts : Nat) : Int) * 65536))), s)
        else (f.bytes, s)

end Sys2Proof.Machine
end

