-- ==== Sys2Proof/Machine/Sched.lean ====
section
/-! DEFINITION. Gate lists in force, bands, shapers, limiters, preemption and flow control of the lanes (chapter 7, R150 to R175). -/
namespace Sys2Proof.Machine

open Sys2Proof

/-! ### The list in force (R156, R159, R160) -/

/-- Length of the lane's gate cycle, ns. -/
def State.cycleNs (s : State) (n : Nat) : Nat := s.laneCycle n * s.period

/-- The plan parameters of a lane. -/
def State.lanePlan (s : State) (n : Nat) : LanePlan := get {} s.plan.active.lanes n

/-- The running plan as a view. -/
def State.view (s : State) : PlanView := ⟨s.plan.active.contracts, s.plan.active.place⟩

/-- Classes that carry an admitted contract on a lane. -/
def State.carried (s : State) (n : Nat) : Nat :=
  maskOf ((List.range 8).filter (carries (s.view.onLane n)))

/-- The gate states in force: under an administrative list the gates of carried classes stand open throughout (R159). -/
def State.gates (s : State) (n : Nat) : Nat :=
  let l := s.lane n
  if l.adminRunning then orAll [l.gateStates, s.carried n] else l.gateStates

/-- Is the gate of a class open? -/
def State.gateOpen (s : State) (n tc : Nat) : Bool := bit (s.gates n) tc

/-- The band of an open window: that of its contract's own FIFO (R152, R157; DESIGN CHOICE, log entry 95). -/
def State.windowBand (s : State) (n : Nat) : Nat :=
  match s.contract (s.lane n).gateOwner with
  | some r => ceil8 (ceilDiv (psOf (s.counted n (copyLen r)) (s.mbps n)) 1000)
  | none => 0

/-- The band of a class in ns (R157, R160): a plan list uses the bands of its closings, an administrative list the
override of a class that carries no contract. -/
def State.bandNs (s : State) (n tc : Nat) : Nat :=
  if (s.lane n).adminRunning then
    if bit (s.carried n) tc then 0
    else
      match s.bandOverride n tc with
      | some v => v
      | none => bandOf s n (s.view.onLane n) tc
  else if tc = 7 then s.windowBand n
  else (s.lanePlan n).bands.getD tc 0

/-- *guard bands in force* of a lane (R160). -/
def State.showBands (s : State) (n : Nat) : State :=
  let band := fun (tc : Nat) => if (s.lane n).adminRunning then s.bandNs n tc else (s.lanePlan n).bands.getD tc 0
  s.setBlob (bySub O.guardBandsInForce n) ((List.range 8).flatMap (fun tc => leBytes 4 (band tc)))

/-- *guard bands in force* of the lanes whose administrative list runs. -/
def State.showAdminBands (s : State) : State :=
  ((List.range s.laneCount).filter (fun n => (s.lane n).adminRunning)).foldl State.showBands s

/-- Time to the next closing of a class's gate, from the list entries that close it; for class 7 to the end of the open window. -/
def State.toClosing (s : State) (n tc : Nat) : Option Nat :=
  let cyc := s.cycleNs n
  let ends := fun (e : GateEntry) => !bit e.states tc || (tc == 7 && e.owner != (s.lane n).gateOwner)
  let ds := ((s.listOf n).filter ends).map (fun e => (e.off + cyc - s.cyclePos n) % cyc)
  ds.foldl (fun m d => some (match m with | none => d | some x => min x d)) none

/-- Is a class inside the band before a closing of its gate, so that no new frame of it starts (R157)? -/
def State.inBand (s : State) (n tc : Nat) : Bool :=
  (s.lane n).gateRunning && s.gateOpen n tc &&
  (match s.toClosing n tc with
   | some d => decide (d ≤ s.bandNs n tc)
   | none => false)

/-- May a new frame of a class start as far as its gate goes: open outside its band? -/
def State.mayStart (s : State) (n tc : Nat) : Bool := s.gateOpen n tc && !s.inBand n tc

/-! ### Pauses (R172) -/

/-- The class that a priority maps to on a lane (R151). -/
def State.pcpClass (s : State) (n pcp : Nat) : Nat := bits (s.n (bySub O.pcpMap n)) (4 * pcp) 4

/-- Is a class paused: it is pausable, and PAUSE's timer runs or that of a priority mapped to it? -/
def State.paused (s : State) (n tc : Nat) : Bool :=
  bit (s.n (bySub O.pausableClasses n)) tc &&
  (s.lane n).pause.any (fun e => decide (s.now < e.2) && (e.1 == 8 || s.pcpClass n e.1 == tc))

/-- *pause status* brought up to date; the starvation clock of a class stands still while it is paused (R175). -/
def State.refreshPause (s : State) (n : Nat) : State :=
  let was := s.n (bySub O.pauseStatus n)
  let now := maskOf ((List.range 3).filter (s.paused n))
  let s := s.setN (bySub O.pauseStatus n) now
  (List.range 3).foldl (fun s tc =>
    if !bit was tc && bit now tc then s.updLane n (fun l => { l with pausedSince := ins l.pausedSince tc s.now })
    else if bit was tc && !bit now tc then
      s.updLane n (fun l =>
        let d := s.now - (look l.pausedSince tc).getD s.now
        { l with pausedSince := del l.pausedSince tc,
                 beSent := match look l.beSent tc with | some v => ins l.beSent tc (v + d) | none => l.beSent })
    else s) s

/-- R172: a PAUSE (priority 8) or PFC frame is received: (priority, quanta) pairs. -/
def pauseReceive (n : Nat) (pfc : Bool) (times : List (Nat × Nat)) (s : State) : State :=
  if !s.hasLane n || !s.regionUp (n / 4) then s
  else if s.laneRestarting n then s.countDrained n 1
  else
    let on := bit (s.n (bySub O.flowControl n)) (if pfc then 1 else 0)
    let ok := fun (e : Nat × Nat) => !pfc || bit (s.n (bySub O.pausableClasses n)) (s.pcpClass n e.1)
    let good := if on then times.filter ok else []
    let s := if good.length < times.length ∨ !on then s.inc64 (bySub O.pauseIgnored n) else s
    if good.isEmpty then s
    else
      let s := s.inc64 (bySub O.pauseFramesReceived n)
      let rate := max 1 (s.laneRate n)
      let s := s.updLane n (fun l =>
        { l with pause := good.foldl (fun m e =>
            if e.2 = 0 then del m e.1 else ins m e.1 (s.now + ceilDiv (e.2 * 512 * 1000000) rate)) l.pause })
      s.refreshPause n

def execPauseReceive (t : Nat) (lane : Nat) (pfc : Bool) (times : List (Nat × Nat)) (s : State) :
    Host.Outcome State Fault Refusal :=
  .next (pauseReceive lane pfc times (s.begin t))

/-- R172: pause timers that have run out end; the classes resume. -/
def pauseTimerExpiry (n : Nat) (s : State) : State :=
  if s.hasLane n then
    (s.updLane n (fun l => { l with pause := l.pause.filter (fun e => decide (s.now < e.2)) })).refreshPause n
  else s

def execPauseTimerExpiry (t : Nat) (lane : Nat) (s : State) : Host.Outcome State Fault Refusal :=
  .next (pauseTimerExpiry lane (s.begin t))

/-- Are two copies references to one frame in Tarn (R140): the same frame of the same source, mirrored alike? -/
def sameFrame (a b : QFrame) : Bool :=
  a.ingress == b.ingress && a.inLane == b.inLane && a.slot == b.slot && a.ts == b.ts && a.mirror == b.mirror && a.tx == b.tx

/-- Bytes of Tarn that copies take: one write for the references to one frame (R140). -/
def tarnBytes (l : List QFrame) : Nat :=
  (l.foldl (fun (a : List QFrame) f => if a.any (sameFrame f) then a else f :: a) []).foldl (fun b f => b + f.len) 0

/-- The copies queued on the lanes of a region. -/
def State.queuedIn (s : State) (r : Nat) : List QFrame := s.lanes.flatMap (fun e => if e.1 / 4 = r then e.2.queues else [])

/-- Best-effort bytes of the ingress region's Tarn buffer that entered on a lane (R174). -/
def State.beUseOfLane (s : State) (n : Nat) : Nat :=
  tarnBytes ((s.queuedIn (n / 4)).filter (fun f => decide (f.tc ≤ 2) && f.inLane == some n))

/-- Quanta the lane's flow control wants to send: off, PAUSE or PFC (R174). -/
def State.txFlow (s : State) (n : Nat) : Nat := bits (s.n (bySub O.flowControl n)) 2 2

/-- R174: XOFF above its threshold, XON below its own. -/
def State.checkFlow (s : State) (n : Nat) : State :=
  if s.txFlow n = 0 then s
  else
    let th := s.n (bySub O.pauseThresholds n)
    let use := s.beUseOfLane n
    let l := s.lane n
    if !l.xoff && decide (bits th 16 16 * 1024 < use) then
      s.updLane n (fun l => { l with xoff := true, xoffTime := s.now, pauseOut := some 0xFFFF })
    else if l.xoff && decide (use < bits th 0 16 * 1024) then
      s.updLane n (fun l => { l with xoff := false, pauseOut := some 0 })
    else s

/-- R174: the repeat interval of 32,768 quanta has run while the use stays above XON; below it, XON is sent. -/
def pauseRepeat (n : Nat) (s : State) : State :=
  let s := if s.hasLane n then s.checkFlow n else s
  let l := s.lane n
  let due := ceilDiv (32768 * 512 * 1000000) (max 1 (s.laneRate n))
  if s.hasLane n && l.xoff && decide (due ≤ s.now - l.xoffTime) && s.txFlow n != 0 then
    s.updLane n (fun l => { l with xoffTime := s.now, pauseOut := some 0xFFFF })
  else s

def execPauseRepeat (t : Nat) (lane : Nat) (s : State) : Host.Outcome State Fault Refusal :=
  .next (pauseRepeat lane (s.begin t))

/-! ### Credit-based shapers (R163) and the Best-effort limiter (R166) -/

/-- Does a class wait on a lane? -/
def State.waits (s : State) (n tc : Nat) : Bool :=
  (s.lane n).queues.any (fun f => f.tc == tc) || (match (s.lane n).preempted with | some f => f.tc == tc | none => false)

/-- How long of the last `dt` ns the class's gate stood open outside its band. -/
def State.openTime (s : State) (n tc dt : Nat) : Nat :=
  if !s.gateOpen n tc then 0
  else
    match s.toClosing n tc with
    | some d => if (s.lane n).gateRunning then dt - min dt (s.bandNs n tc - min d (s.bandNs n tc)) else dt
    | none => dt

/-- Bits on the wire, scaled by 10^6, that a lane sent of its frame in the last `dt` ns: no more than the frame and its overhead. -/
def State.sentBits (s : State) (n dt : Nat) : Nat :=
  let rate := s.laneRate n
  let all := s.counted n (s.lane n).sendLeft * 8 * 1000000
  let run := s.now - (s.lane n).sendStart
  min (run * rate) all - min ((run - dt) * rate) all

/-- One credit after `dt` ns (R163), in bits scaled by 10^6: it falls by what was sent, at the rate less the slope. -/
def creditAfter (c : Int) (slope sent dt : Nat) (hi : Int) (sends waits : Bool) (openDt : Nat) : Int :=
  if sends then c - ((sent : Int) - ((slope * dt : Nat) : Int))
  else if waits then min (hi * 1000000) (c + ((slope * openDt : Nat) : Int))
  else if 0 < c then 0
  else min 0 (c + ((slope * openDt : Nat) : Int))

/-- Credits and the limiter's count brought up to now. -/
def State.accrue (s : State) (n : Nat) : State :=
  let l := s.lane n
  let p := s.lanePlan n
  let dt := s.now - l.creditTime
  let sent := s.sentBits n dt
  let sends := fun (tc : Nat) => match l.sending with | some f => f.tc == tc | none => false
  let c6 := creditAfter l.credit6 p.s6 sent dt p.hi6 (sends 6) (s.waits n 6) (s.openTime n 6 dt)
  let c5 := creditAfter l.credit5 p.s5 sent dt p.hi5 (sends 5) (s.waits n 5) (s.openTime n 5 dt)
  s.updLane n (fun l => { l with credit6 := c6, credit5 := c5, creditTime := s.now })

/-- The rate in force of the Best-effort limiter (R166): Summit's bound below the line rate, else the object. -/
def State.beRate (s : State) (n : Nat) : Nat :=
  match (s.lane n).beBound with
  | some b => if s.laneRate n ≤ b then s.n (bySub O.bestEffortRateLimit n) else b
  | none => s.n (bySub O.bestEffortRateLimit n)

/-- The limiter's burst in token units (R166). -/
def State.beBurst (s : State) (n : Nat) : Nat := s.counted n (s.n (laneKey O.maximumFrameSize n)) * tokenUnit

/-- The limiter's count brought up to now; a rate of 0 holds it at its burst. -/
def State.accrueBe (s : State) (n : Nat) : State :=
  let r := s.beRate n
  let b : Int := ((s.beBurst n : Nat) : Int)
  s.updLane n (fun l =>
    { l with beTime := s.now,
             beCount := if r = 0 then b else min b (l.beCount + ((r * (s.now - l.beTime) : Nat) : Int)) })

/-! ### Enqueueing -/

/-- Best-effort copies queued on the lanes of a region. -/
def State.beCopies (s : State) (r : Nat) : List QFrame := (s.queuedIn r).filter (fun f => decide (f.tc ≤ 2))

/-- The Best-effort share of a region's Tarn buffer (R18, R69): the plan's, else everything but the kept 256 KiB. -/
def State.beShare (s : State) (r : Nat) : Nat :=
  let v := s.n (bySub O.partitionSize (6 * r + 5))
  if v = 0 then 6 * 1048576 - 262144 else v

/-- The contract copies of a class that a region holds for its lanes, in queues and shapers. -/
def State.classCopies (s : State) (r tc : Nat) : List QFrame :=
  (s.queuedIn r ++ s.fwd.shapers.flatMap (fun e => if e.2.lane / 4 = r then e.2.fifo else [])).filter
    (fun f => f.slot != 0xFFFF && f.tc == tc)

/-- The contract class that a traffic class above Best-effort serves (R150). -/
def classOfTc : Nat → Nat
  | 7 => 0 | 6 => 2 | 5 => 1 | 4 => 4 | _ => 3

/-- Has the partition of a frame room for it (R18, R69)?  No partition lends to another: a frame above Best-effort takes room of its own
class alone, and the Best-effort classes share theirs. -/
def State.tarnRoom (s : State) (r : Nat) (f : QFrame) : Bool :=
  if f.tc ≤ 2 then decide (tarnBytes (s.beCopies r ++ [f]) ≤ s.beShare r)
  else f.slot == 0xFFFF || decide (tarnBytes (s.classCopies r f.tc ++ [f]) ≤ s.n (bySub O.partitionSize (6 * r + classOfTc f.tc)))

/-- A frame joins the tail of its class queue; a Best-effort class that was empty starts its starvation clock. -/
def State.pushQueue (s : State) (n : Nat) (f : QFrame) : State :=
  (s.accrue n).joinQueue n f

/-- R165: frames of a shaper whose both counts are at least 0 enter the class queue, head first. -/
def releaseShaper : Nat → Nat → State → State
  | 0, _, s => s
  | k + 1, key, s =>
    match look s.fwd.shapers key with
    | none => s
    | some x =>
      let x := x.accrue s.now
      match x.fifo with
      | [] => { s with fwd := { s.fwd with shapers := ins s.fwd.shapers key x } }
      | f :: t =>
        if 0 ≤ x.cc ∧ 0 ≤ x.pc then
          let n := x.lane
          let b : Int := ((s.counted n f.len * tokenUnit : Nat) : Int)
          let y := { x with fifo := t, cc := x.cc - b, pc := x.pc - b }
          let s := { s with fwd := { s.fwd with shapers := ins s.fwd.shapers key y } }
          releaseShaper k key (s.pushQueue n { f with since := s.now })
        else { s with fwd := { s.fwd with shapers := ins s.fwd.shapers key x } }

/-- R165: the head frame of a shaper becomes eligible. -/
def shaperEligible (n slot : Nat) (s : State) : State :=
  let key := n * 8192 + slot
  match look s.fwd.shapers key with
  | some x => releaseShaper x.fifo.length key s
  | none => s

def execShaperEligible (t : Nat) (lane slot : Nat) (s : State) : Host.Outcome State Fault Refusal :=
  .next (shaperEligible lane slot (s.begin t))

/-- Flow control follows the use of the lane that a Best-effort frame entered on (R174). -/
def State.flowOf (s : State) (f : QFrame) : State := if f.tc ≤ 2 then (f.inLane.map s.checkFlow).getD s else s

/-- R108, R107, R110, R15, R18, R152: a copy is enqueued on a lane, or dropped and counted.  While Scheduled forwarding is held on the
lane, a Scheduled copy is dropped and counted with the window misses (R40, R43). -/
def State.enqueue (s : State) (n : Nat) (f : QFrame) : State :=
  let contract := f.slot != 0xFFFF && decide (3 ≤ f.tc)
  let limit := s.n (laneKey O.maximumFrameSize n)
  if !s.hasLane n then s
  else if !s.inService n || !s.laneStands n || (contract && !(s.lane n).contractOk) then
    if f.mirror ≠ 0 then s.inc64 (byIdx O.copiesDropped (f.mirror - 1)) else s.countDrained n 1
  else if f.tc = 7 ∧ s.laneHeld n then s.inc64 (bySub O.windowMisses n)
  else if limit < f.len && !f.cut then s.inc64 (laneKey O.egressOversizeDrops n)
  else
    let f := if limit < f.len then { f with bytes := f.bytes.take (limit - 4), len := limit, stomp := true } else f
    if !s.tarnRoom (n / 4) f then
      if f.mirror ≠ 0 then s.inc64 (byIdx O.copiesDropped (f.mirror - 1)) else s.countDrained n 1
    else if (f.tc = 3 ∨ f.tc = 4) ∧ (look s.fwd.shapers (n * 8192 + f.slot)).isSome then
      let join := fun (x : ShaperSt) => if x.lane = n ∧ x.slot = f.slot then { x with fifo := x.fifo ++ [f] } else x
      let s := { s with fwd := { s.fwd with shapers := mapVals join s.fwd.shapers } }
      shaperEligible n f.slot s
    else (s.pushQueue n f).flowOf f

/-- The bytes of a copy as they leave: padded to 60 (R110). -/
def padded (b : Bytes) : Bytes := b ++ fill (60 - b.length) 0

end Sys2Proof.Machine
end

