-- ==== Sys2Proof/Machine/Mirror.lean ====
section
/-! DEFINITION. Host receive rings, ways across Saddle, mirror copies, and the transmit chains that wait for their copies (R87, R116,
R117, R133, R141, R143 to R145). -/
namespace Sys2Proof.Machine

open Sys2Proof

/-! ### Time stamps (R116, R141) -/

/-- A time of a lane, or of an injection, in ns of gPTP domain 0. -/
def State.stampOf (s : State) (lane : Option Nat) (t : Nat) : Nat :=
  match lane with
  | some n => s.instAt 0 (s.rxStamp n t)
  | none => s.instAt 0 t

/-! ### Host receive rings (R116, R117) -/

/-- Key of a per-ring object. -/
def ringKey (m d r : Nat) : Nat := byIdx m d + r

/-- How many bytes of a frame each buffer takes. -/
def bufferCounts : Nat → Nat → List Nat
  | 0, _ => []
  | k + 1, len => if len ≤ 2048 then [len] else 2048 :: bufferCounts k (len - 2048)

/-- The descriptors with OWN at 1, from *next descriptor* of each ring on, as the owners have handed them back. -/
def State.handed (s : State) (avail : SMap Nat) : State := { s with fwd := { s.fwd with avail := avail } }

/-- What a frame's descriptors are given: byte count, flags and error flags in the first and the last, and in every one of a frame that was
cut (R116, R117). -/
def ringDescs (counts : List Nat) (cut stomped : Bool) (err : Nat) : List (Option (Nat × Nat × Nat)) :=
  let base := (if err = 0 then 0 else 0x10) + (if stomped then 8 else 0)
  counts.mapIdx (fun i c =>
    if cut = true ∨ i = 0 ∨ i + 1 = counts.length then
      some (c, base + (if i = 0 then 0x40 else 0) + (if i + 1 = counts.length then 0x20 else 0), err)
    else none)

/-- A frame given to a ring in the first `counts` of its descriptors: they are returned, *next descriptor* moves past them, and the receive
event rises. -/
def State.giveRing (s : State) (d r : Nat) (counts : List Nat) (cut stomped : Bool) (bytes : Bytes) (err src stamp slot : Nat) :
    State :=
  let next := s.n (ringKey O.nextDescriptor d r)
  let s := s.setN (ringKey O.nextDescriptor d r) ((next + counts.length) % max 1 (s.n (ringKey O.ringSize d r)))
  let s := s.emit (.ring d r next (ringDescs counts cut stomped err) src stamp slot (bytes.take (counts.foldl (· + ·) 0)))
  { s with fwd := { s.fwd with avail := ins s.fwd.avail (16 * d + r) (get 0 s.fwd.avail (16 * d + r) - counts.length) },
           bridge := { s.bridge with intPending := upd 0 s.bridge.intPending d (fun m => setBit m r true) } }

/-- R117: deliver a frame to a ring; `err` and `stomped` are the flags of a deliver-flagged frame, `lane` its ingress lane.  With it,
whether the ring took it whole. -/
def State.deliverRing (s : State) (d r : Nat) (bytes : Bytes) (err : Nat) (stomped : Bool) (src stamp slot : Nat)
    (lane : Option Nat) : Bool × State :=
  if !s.dieUp d || s.n (ringKey O.ringEnable d r) != 1 || !s.regionUp (2 * d + r / 8) then (false, s)
  else
    let counts := bufferCounts 16 bytes.length
    let used := counts.take (get 0 s.fwd.avail (16 * d + r))
    let flagged := lane.any (fun n => s.n (laneKey O.deliverFlagged n) == 1)
    if used.length = counts.length then (true, s.giveRing d r used false stomped bytes err src stamp slot)
    else
      let s := s.inc32 (ringKey O.noBufferCount d r)
      (false, if used.isEmpty || !flagged then s else s.giveRing d r used true stomped bytes (err + 3 - bits err 0 2) src stamp slot)

/-! ### Ways across Saddle (R87, R133, R141) -/

/-- Dies joined to `d` by an in-service link. -/
def State.neighbours (s : State) (d : Nat) : List Nat :=
  ((List.range 4).filterMap (fun p =>
    if s.saddle d p = linkSERVICE then (s.peer d p).map (·.1) else none)).filter s.dieUp

/-- Simple ways of at most so many hops to a die from the first of the dies visited, over in-service links; no held die carries transit
(R87, R359). -/
def State.waysFrom (s : State) (b : Nat) : Nat → List Nat → List (List Nat)
  | _, [] => []
  | 0, a :: _ => if a = b then [[]] else []
  | k + 1, a :: v =>
    if a = b then [[]]
    else ((s.neighbours a).eraseDups.filter (fun d => !(a :: v).contains d && !bit (s.n O.dieServiceHold) d)).flatMap (fun d =>
      (s.waysFrom b k (d :: a :: v)).map (fun w => d :: w))

/-- Ways from a die to another of at most `k` hops. -/
def State.ways (s : State) (a b k : Nat) : List (List Nat) := s.waysFrom b k [a]

/-- Committed load of a Saddle direction in the running plan, kbit/s. -/
def State.linkLoad (s : State) (e : Nat × Nat) : Nat :=
  linkLoadOf s s.plan.active.contracts (fun k => match s.placed k with | some p => crossingsOf p (s.variant == 2) none e | none => 0)

/-- The best way of unclassified and mirror copies from a die to another: the ranked path of R87 (R133). -/
def State.bestWay (s : State) (a b : Nat) : Option (List Nat) := (ranked (pathRankOf s.linkLoad a) (s.ways a b 3)).head?

/-- The header of R141. -/
def saddleHeader (m : SaddleFrame) : Bytes :=
  leBytes 2 m.slot ++ leBytes 2 m.ingress ++
  leBytes 1 (128 * b2n m.cut + 64 * b2n m.frer + 32 * b2n m.rtagOnWire + 16 * b2n m.mirrorCopy + 8 * b2n m.flooded + 4 * b2n m.l3 +
    2 * b2n m.l4) ++ leBytes 1 m.tc ++ leBytes 2 m.seq ++ leBytes 8 m.lanes ++ leBytes 8 m.ts ++ leBytes 2 m.rings ++
  leBytes 2 m.bytes.length ++ leBytes 2 m.mirrors ++ fill 2 0

/-- A transmit chain's copies on Saddle: one more, or one fewer. -/
def State.txAway (s : State) (id : Nat) (f : Nat → Nat) : State :=
  { s with fwd := { s.fwd with tx := s.fwd.tx.map (fun w => if w.id = id then { w with away := f w.away } else w) } }

/-- A frame sent over Saddle to the next die. -/
def State.toSaddle (s : State) (die : Nat) (m : SaddleFrame) : State :=
  (s.txAway m.tx (· + 1)).emit (.saddle die (saddleHeader m) m)

/-- A copy sent on the ranked way to a die; with it, whether there is one. -/
def State.alongWay (s : State) (a b : Nat) (m : SaddleFrame) : Bool × State :=
  match s.bestWay a b with
  | some (h :: rest) => (true, s.toSaddle h { m with way := rest })
  | _ => (false, s)

/-! ### Mirroring (R143) -/

/-- A mirror copy that is not made is counted. -/
def State.mirrorDrop (s : State) (i : Nat) : State := s.inc64 (byIdx O.copiesDropped i)

/-- What a mirror copy is taken from: its bytes, source endpoint, ingress lane, local time and time stamp, and slot. -/
structure MirrorSrc where
  bytes : Bytes
  src : Nat
  lane : Option Nat
  ts : Nat
  stamp : Nat
  slot : Nat
deriving DecidableEq, Repr

/-- Put one mirror copy on its destination; a destination on another die is reached over Saddle. -/
def State.mirrorCopy (s : State) (i die : Nat) (m : MirrorSrc) : State :=
  let dst := s.n (byIdx O.mirrorDestination i)
  let tr := s.n (byIdx O.mirrorTruncation i)
  let b := if tr = 0 then m.bytes else m.bytes.take tr
  let there := if epKind dst = 0 then bits dst 0 6 / 8 else bits dst 8 3
  if dst = 0xFFFF then s
  else if there ≠ die then
    let x := s.alongWay die there
      { slot := m.slot, ingress := m.src, cut := false, frer := false, rtagOnWire := false, mirrorCopy := true, flooded := false,
        l3 := false, l4 := false, tc := 0, seq := 0, lanes := 0, ts := m.stamp, rings := 0, mirrors := 2 ^ i, bytes := b,
        arrived := m.ts, lane := m.lane }
    if x.1 then x.2 else x.2.mirrorDrop i
  else if epKind dst = 0 then
    s.enqueue (bits dst 0 6) { bytes := b, len := max 64 (b.length + 4), tc := 0, slot := m.slot, ingress := m.src, ts := m.ts,
                               rtag := none, cut := false, mirror := i + 1, l3 := false, l4 := false, stomp := false,
                               since := s.now, stamp := m.stamp, inLane := m.lane }
  else
    let x := s.deliverRing there (bits dst 0 4) b 0 false m.src m.stamp m.slot m.lane
    if x.1 then x.2.inc64 (byIdx O.copiesSent i) else x.2.mirrorDrop i

/-- The enabled sessions whose source is this. -/
def State.mirrorsOf (s : State) (kinds : List Nat) (v : Nat) : List Nat :=
  (List.range 8).filter (fun i =>
    s.n (byIdx O.sessionEnable i) == 1 && kinds.contains (bits (s.n (byIdx O.mirrorSource i)) 28 4) &&
    bits (s.n (byIdx O.mirrorSource i)) 0 16 == v)

/-- What is mirrored of a packet. -/
def pktMirror (p : Pkt) (b : Bytes) : MirrorSrc := ⟨b, p.inEp, p.lane, p.ts, p.stamp, p.slot⟩

/-- Ingress copies of a frame that passed R111: by lane and by contract slot. -/
def State.mirrorIngress (s : State) (p : Pkt) (received : Bytes) : State :=
  if p.stomp || p.deliver.isSome then s
  else
    let a := match p.lane with | some n => s.mirrorsOf [0, 2] n | none => []
    let b := if p.slot = 0xFFFF then [] else s.mirrorsOf [3] p.slot
    (a ++ b).foldl (fun (s : State) i => s.mirrorCopy i p.die (pktMirror p received)) s

/-- Egress copies of a frame as lane `n` sends it; none of a copy or of a frame that ends stomped. -/
def State.mirrorEgress (s : State) (n : Nat) (f : QFrame) (sent : Bytes) : State :=
  if f.mirror ≠ 0 ∨ f.stomp = true then s
  else (s.mirrorsOf [1, 2] n).foldl (fun (s : State) i =>
    s.mirrorCopy i (n / 8) ⟨sent, f.ingress, f.inLane, f.ts, f.stamp, f.slot⟩) s

/-! ### Transmit chains that wait for their copies (R144, R145) -/

/-- A copy of a chain's frame was permitted or denied. -/
def State.txDecided (s : State) (id : Nat) (permit : Bool) : State :=
  { s with fwd := { s.fwd with tx := s.fwd.tx.map (fun w => if w.id = id then
      { w with permitted := w.permitted || permit, denied := w.denied || !permit } else w) } }

/-- A copy of a chain's frame leaves on a lane: the lowest lane's time counts (R144). -/
def State.txSent (s : State) (n : Nat) (f : QFrame) : State :=
  if f.tx = 0 then s
  else
    let t := s.instAt 0 (s.txStamp n s.now)
    { s with fwd := { s.fwd with tx := s.fwd.tx.map (fun w => if w.id = f.tx ∧ n < w.lane then { w with lane := n, stamp := t } else w) } }

/-- Is some copy of the chain still queued, being sent, in a shaper, waiting for a session answer, or on Saddle?  A copy on Saddle is taken
as lost two ticks after the injection (DESIGN CHOICE, log entry 83). -/
def State.txBusy (s : State) (w : TxWait) : Bool :=
  let mine := fun (f : QFrame) => f.tx == w.id
  w.status.isNone &&
  (s.lanes.any (fun e => e.2.queues.any mine || e.2.sending.any mine || e.2.preempted.any mine) ||
    s.fwd.shapers.any (fun e => e.2.fifo.any mine) || s.fw.waiting.any (fun x => x.pkt.tx == w.id) ||
    (decide (0 < w.away) && decide (s.now < w.since + 2 * s.period)))

/-- The status of a chain whose copies are done (R144). -/
def txOutcome (w : TxWait) : Nat :=
  match w.status with
  | some k => k
  | none => if w.denied && !w.permitted then 1 else 0

/-- Flags of a transmit descriptor (R144). -/
def txFlag (d : Bytes) (i : Nat) : Bool := bit (fld d 0x0A 1) i

/-- The descriptors as they go back: OWN at 0, the status in the LAST one, and the timestamp beside it when TS_REQUEST is set. -/
def txReturned (w : TxWait) : List Bytes :=
  let ts := w.descs.head?.any (fun d => txFlag d 4)
  w.descs.map (fun d =>
    let d := patch d 0x0A (leBytes 1 (fld d 0x0A 1 % 128))
    if txFlag d 5 then
      let d := patch d 0x0B (leBytes 1 (txOutcome w))
      if ts then patch d 0x10 (leBytes 8 w.stamp) else d
    else d)

/-- A chain goes back to its owner. -/
def State.returnTx (s : State) (w : TxWait) : State :=
  let s := s.emit (.txReturn w.die w.ring w.first (txReturned w))
  { s with bridge := { s.bridge with intPending := upd 0 s.bridge.intPending w.die (fun m => setBit m (16 + w.ring) true) } }

/-- R145: the chains whose last copy has been sent or dropped go back, in ring order. -/
def State.settleTx (s : State) : State :=
  let step := fun (a : List TxWait × List Nat × State) (w : TxWait) =>
    let k := 16 * w.die + w.ring
    if a.2.1.contains k || s.txBusy w || !s.dieUp w.die then (a.1 ++ [w], k :: a.2.1, a.2.2) else (a.1, a.2.1, a.2.2.returnTx w)
  let z := s.fwd.tx.foldl step ([], [], s)
  { z.2.2 with fwd := { z.2.2.fwd with tx := z.1 } }

end Sys2Proof.Machine
end

