-- ==== Sys2Proof/Machine/Egress.lean ====
section
/-! DEFINITION. Transmit selection, preemption, gate lists and relief (chapter 7, R150 to R175). -/
namespace Sys2Proof.Machine

open Sys2Proof

/-! ### Selection (R153) -/

/-- Head of a class queue. -/
def State.headOf (s : State) (n tc : Nat) : Option QFrame := (s.lane n).queues.find? (fun f => f.tc == tc)

/-- Does a Scheduled window stand open on the lane? -/
def State.inWindow (s : State) (n : Nat) : Bool := (s.lane n).gateRunning && s.gateOpen n 7 && (s.lane n).gateOwner != 0xFFFF

/-- Head of the class-7 FIFO of the open window's owner, outside the window's band (R152, R157). -/
def State.headOfWindow (s : State) (n : Nat) : Option QFrame :=
  let l := s.lane n
  if s.mayStart n 7 && l.gateOwner != 0xFFFF then l.queues.find? (fun f => f.tc == 7 && f.slot == l.gateOwner) else none

/-- Some Best-effort gate stands open outside its band, and the lane stands in no window and in no band (R175). -/
def State.beOpportunity (s : State) (n : Nat) : Bool :=
  (List.range 3).any (s.mayStart n) && !s.inWindow n && (List.range 8).all (fun q => !s.inBand n q)

/-- How long a Best-effort queue's head has waited, pauses left out (R175). -/
def State.starved (s : State) (n tc : Nat) : Nat :=
  let l := s.lane n
  (look l.pausedSince tc).getD s.now - (look l.beSent tc).getD s.now

/-- Has a Best-effort queue waited beyond the starvation limit? -/
def State.starves (s : State) (n tc : Nat) : Bool :=
  (s.lane n).queues.any (fun f => f.tc == tc) && decide (s.n O.starvationLimit * s.period < s.starved n tc)

/-- The starving queue whose head has waited longest; on a tie the lower class (R175). -/
def State.starving (s : State) (n : Nat) : Option Nat :=
  ((List.range 3).filter (fun tc => bit (s.lane n).reliefDue tc && s.starves n tc)).foldl (fun (m : Option Nat) tc =>
    match m with
    | none => some tc
    | some k => if s.starved n k < s.starved n tc then some tc else some k) none

/-- The relief frame due, if any (R175): one a gate cycle. -/
def State.reliefHead (s : State) (n : Nat) : Option QFrame :=
  if s.beOpportunity n && (s.lane n).reliefCycle != some (s.cycleRound n) then (s.starving n).bind (s.headOf n) else none

/-- The candidates of R153, steps 2 to 6, first to last, with whether each is a relief frame. -/
def State.candidates (s : State) (n : Nat) : List (QFrame × Bool) :=
  let l := s.lane n
  let cbs := fun (tc : Nat) (c : Int) => if s.mayStart n tc && decide (0 ≤ c) then s.headOf n tc else none
  let sp := fun (tc : Nat) => if s.mayStart n tc then s.headOf n tc else none
  let be := fun (tc : Nat) =>
    if s.mayStart n tc && !s.paused n tc && decide (0 ≤ l.beCount) then s.headOf n tc else none
  ((s.headOfWindow n).map (·, false)).toList ++
  ([cbs 6 l.credit6, cbs 5 l.credit5, sp 4, sp 3].filterMap id).map (·, false) ++
  ((s.reliefHead n).map (·, true)).toList ++
  ([be 2, be 1, be 0].filterMap id).map (·, false)

/-- Is preemption active on the lane (R161)? -/
def State.preemptActive (s : State) (n : Nat) : Bool := s.n (bySub O.preemptionStatus n) == 2

/-- Is a frame express on the lane now? -/
def State.express (s : State) (n : Nat) (f : QFrame) : Bool := !(s.preemptActive n && s.preemptible n f.tc)

/-- A frame leaves its queue: the waiting time of a Best-effort queue restarts, and it no longer starves (R175). -/
def State.takeHead (s : State) (n : Nat) (f : QFrame) : State :=
  s.updLane n (fun l =>
    let q := l.queues.erase f
    { l with queues := q,
             beSent := if f.tc ≤ 2 then (if q.any (fun g => g.tc == f.tc) then ins l.beSent f.tc s.now else del l.beSent f.tc) else l.beSent,
             reliefDue := if f.tc ≤ 2 then setBit l.reliefDue f.tc false else l.reliefDue })

/-- What a frame that starts is charged to and counted in (R166, R175, R114). -/
def State.countStart (s : State) (n : Nat) (f : QFrame) (relief : Bool) : State :=
  let s := if relief then
      (s.updLane n (fun l => { l with reliefCycle := some (s.cycleRound n) })).inc64 (bySub O.reliefFrames n)
    else s
  let s := if f.tc ≤ 2 ∧ s.beRate n ≠ 0 then
      s.updLane n (fun l => { l with beCount := l.beCount - ((s.counted n f.len * tokenUnit : Nat) : Int) })
    else s
  let s := if f.stomp then s.inc64 (laneKey O.stompedTransmitted n) else s
  if f.mirror ≠ 0 then s.inc64 (byIdx O.copiesSent (f.mirror - 1)) else s

/-- A frame starts on a lane: it leaves its queue, pays its shaper, and goes out with the checksums asked for; its egress mirror copies are
taken from what is sent (R114, R143), those of a transit PTP message before its correction (R217).  A MACsec lane without a usable SA drops it (R333, R335). -/
def State.startFrame (s : State) (n : Nat) (f : QFrame) (relief : Bool) : State :=
  let s := s.takeHead n f
  let m := if s.staleRelay f then (false, s.dropRelay f) else s.macsecOut n
  if !m.1 then m.2
  else
    let s := (m.2.countStart n f relief).txSent n f
    let s := s.updLane n (fun l => { l with sending := some f, sendStart := s.now, sendLeft := f.len })
    let d := s.ptpDepart n f
    let b := padded (withSums f.l3 f.l4 d.1)
    ((d.2.emit (.frame n { f with bytes := b })).mirrorEgress n f (if s.transitPtp f then padded (withSums f.l3 f.l4 f.bytes) else b)).flowOf f

/-- Bytes of the frame in progress sent so far. -/
def State.sentBytes (s : State) (n : Nat) : Nat := (s.now - (s.lane n).sendStart) * s.laneRate n / 8000000

/-- Has the frame in progress reached its boundary? -/
def State.atBoundary (s : State) (n : Nat) : Bool :=
  match (s.lane n).sending with
  | none => true
  | some _ => decide (wireTime (s.counted n (s.lane n).sendLeft) (s.laneRate n) ≤ s.now - (s.lane n).sendStart)

/-- R162: may the frame in progress be cut here: it is preemptible, at least m_f bytes of the fragment (mCRC included) are
out, and at least 64 bytes remain? -/
def State.mayCut (s : State) (n : Nat) : Bool :=
  match (s.lane n).sending with
  | none => false
  | some f =>
    s.preemptActive n && !s.express n f && decide (s.minFragment n ≤ s.sentBytes n + 4) &&
    decide (s.sentBytes n + 64 ≤ (s.lane n).sendLeft)

/-- R162: the frame in progress is suspended; on a MACsec lane the suspension is counted (R337). -/
def State.cut (s : State) (n : Nat) : State :=
  let sent := s.sentBytes n
  let s := s.updLane n (fun l =>
    { l with preempted := l.sending, preLeft := l.sendLeft - sent, sending := none, sendLeft := 0 })
  if s.macsecLane n then s.secCount n 0x38 else s

/-- The suspended frame resumes when its gate stands open and no hold is in force. -/
def State.tryResume (s : State) (n : Nat) : Option State :=
  let l := s.lane n
  match l.preempted with
  | none => none
  | some f =>
    if l.hold || !s.gateOpen n f.tc then none
    else
      some ((s.updLane n (fun l =>
        { l with sending := some f, sendStart := s.now, sendLeft := l.preLeft, preempted := none, preLeft := 0 })).emit
          (.resume n f))

/-- Time to the next entry of the list that opens a Scheduled window. -/
def State.toWindow (s : State) (n : Nat) : Option Nat :=
  let cyc := s.cycleNs n
  let ds := ((s.listOf n).filter (fun e => bit e.states 7 && e.owner != 0xFFFF)).map (fun e => (e.off + cyc - s.cyclePos n) % cyc)
  ds.foldl (fun m d => some (match m with | none => d | some x => min x d)) none

/-- R153 order 1, R174: a flow-control frame never starts inside a Scheduled window nor within its own length of one. -/
def State.pauseMayStart (s : State) (n : Nat) : Bool :=
  !(s.lane n).gateRunning ||
  (!s.inWindow n && (s.toWindow n).all (fun d => decide (wireTime (s.counted n 64) (s.laneRate n) < d)))

/-- The flow-control frame that may start now: its quanta (R174). -/
def State.flowFrame (s : State) (n : Nat) : Option Nat := if s.pauseMayStart n then (s.lane n).pauseOut else none

/-- The bytes of a PAUSE frame, or of a PFC frame for the priorities mapped to classes 0 to 2 (R174; PRESUMED from IEEE 802.3 Annex 31B
and IEEE 802.1Qbb, log entry 94). -/
def State.flowBytes (s : State) (n : Nat) (pfc : Bool) (quanta : Nat) : Bytes :=
  let head := beBytes 6 0x0180C2000001 ++ s.baseMac ++ beBytes 2 0x8808
  let on := (List.range 8).filter (fun i => decide (s.pcpClass n i ≤ 2))
  padded (head ++ (if pfc then beBytes 2 0x0101 ++ beBytes 2 (maskOf on) ++
    (List.range 8).flatMap (fun i => beBytes 2 (if on.contains i then quanta else 0)) else beBytes 2 1 ++ beBytes 2 quanta))

/-- A flow-control frame starts (R174); like any frame sent, it is mirrored (R143). -/
def State.startFlow (s : State) (n quanta : Nat) : State :=
  let s := s.updLane n (fun l => { l with pauseOut := none })
  let s := (s.inc64 (bySub O.pauseFramesSent n)).emit (.pause n (s.txFlow n == 2) quanta)
  let f := { ownFrame (s.flowBytes n (s.txFlow n == 2) quanta) 8 s.now s.now with stamp := s.instAt 0 s.now }
  (s.updLane n (fun l => { l with sending := some f, sendStart := s.now, sendLeft := 64 })).mirrorEgress n f f.bytes

/-- Pick and start the next candidate on an idle lane (R153, R162): with a frame suspended only an express candidate goes before it;
under a hold no preemptible one starts. -/
def State.pick (s : State) (n : Nat) : State :=
  let l := s.lane n
  match s.flowFrame n with
  | some q => s.startFlow n q
  | none =>
    match (s.candidates n).find? (fun x => s.express n x.1 || (l.preempted.isNone && !l.hold)) with
    | some x => s.startFrame n x.1 x.2
    | none => (s.tryResume n).getD s

/-- Does an express frame wait that may start now, a flow-control frame among them (R153)? -/
def State.expressWaits (s : State) (n : Nat) : Bool := (s.flowFrame n).isSome || (s.candidates n).any (fun x => s.express n x.1)

/-- R153: at a frame boundary or a preemption point, the lane picks and sends the next candidate.  A lane that is not in
service, whose cluster restarts or whose region or die has failed (R15, R19, R20) sends no further frame. -/
def State.select (s : State) (n : Nat) : State :=
  let idle := fun (s : State) => s.updLane n (fun l => { l with sending := none, sendLeft := 0 })
  if !s.inService n || !s.laneStands n || (s.lane n).testMode != 0 || s.quiet || s.paused_ then
    if s.atBoundary n && (s.lane n).sending.isSome then idle s else s
  else
    let s := (s.accrue n).accrueBe n
    if s.atBoundary n then (idle s).pick n
    else if s.mayCut n && ((s.lane n).hold || s.expressWaits n) then (s.cut n).pick n
    else s

/-- R153: selection, with the receive descriptors that mirror copies may take; chains whose last copy is sent go back (R145). -/
def transmitSelection (n : Nat) (avail : SMap Nat) (s : State) : State := ((s.handed avail).select n).settleTx

def execTransmitSelection (t : Nat) (lane : Nat) (avail : SMap Nat) (s : State) : Host.Outcome State Fault Refusal :=
  .next (transmitSelection lane avail (s.begin t))

/-- R163: the credit of a waiting queue has risen to 0 on an idle lane, so its head frame may start. -/
def creditReachesZero (n tc : Nat) (avail : SMap Nat) (s : State) : State :=
  if s.waits n tc then transmitSelection n avail s else s

def execCreditReachesZero (t : Nat) (lane tc : Nat) (avail : SMap Nat) (s : State) : Host.Outcome State Fault Refusal :=
  .next (creditReachesZero lane tc avail (s.begin t))

/-- R166: the limiter's count has risen back to 0 on an idle lane, so a Best-effort frame may start. -/
def limiterReachesZero (n : Nat) (avail : SMap Nat) (s : State) : State :=
  if (List.range 3).any (s.waits n) then transmitSelection n avail s else s

def execLimiterCountReachesZero (t : Nat) (lane : Nat) (avail : SMap Nat) (s : State) : Host.Outcome State Fault Refusal :=
  .next (limiterReachesZero lane avail (s.begin t))

/-- R158, R162: the preemptible band before a window begins: the hold stops preemptible transmission at its first point. -/
def setAndHold (n : Nat) (s : State) : State :=
  let l := s.lane n
  if s.hasLane n && l.gateRunning && s.preemptActive n && ((s.listOf n).any (fun e => e.op == 1)) &&
      (List.range 7).any (fun tc => s.preemptible n tc && s.inBand n tc) then
    let s := s.updLane n (fun l => { l with hold := true })
    if s.mayCut n then (s.cut n) else s
  else s

def execSetAndHold (t : Nat) (lane : Nat) (s : State) : Host.Outcome State Fault Refusal :=
  .next (setAndHold lane (s.begin t))

/-- R152: frames still in the FIFO of a window that closes are dropped and counted as window misses. -/
def State.closeWindow (s : State) (n : Nat) : State :=
  let l := s.lane n
  if bit l.gateStates 7 && l.gateOwner != 0xFFFF then
    let k := (l.queues.filter (fun f => f.tc == 7 && f.slot == l.gateOwner)).length
    let s := s.addTo (bySub O.windowMisses n) k (2 ^ 64 - 1)
    s.updLane n (fun l => { l with queues := l.queues.filter (fun f => !(f.tc == 7 && f.slot == l.gateOwner)) })
  else s

/-- R156: the offset of the next entry is reached: its states hold from now on. -/
def gateEvent (n : Nat) (s : State) : State :=
  let l := s.lane n
  let es := s.listOf n
  match es[l.gateNext]? with
  | none => s
  | some e =>
    let r := s.cycleRound n
    if s.hasLane n && l.gateRunning &&
        (decide (l.gateRound < r) || (l.gateRound == r && decide (e.off ≤ s.cyclePos n))) then
      let s := s.accrue n
      let s := s.closeWindow n
      s.updLane n (fun l =>
        { l with gateStates := e.states, gateOwner := e.owner, hold := if e.op = 2 then false else if e.op = 1 then true else l.hold,
                 gateNext := if l.gateNext + 1 < es.length then l.gateNext + 1 else 0,
                 gateRound := if l.gateNext + 1 < es.length then l.gateRound else l.gateRound + 1 })
    else s

def execGateEvent (t : Nat) (lane : Nat) (s : State) : Host.Outcome State Fault Refusal :=
  .next (gateEvent lane (s.begin t))

/-- R159: the administrative list of a lane starts at its first eligible cycle boundary, unless the plan places a window
on the lane. -/
def adminListStart (n : Nat) (s : State) : State :=
  let k := fun (m : Nat) => at_ m n
  let cyc := s.n (k O.adminCycle)
  if !s.hasLane n || cyc == 0 || (s.lane n).adminRunning || !s.holdEnded || s.tick.stretch.isSome then s
  else if hasWindows (s.view.onLane n) then s.setN (k O.adminFlags) (setBit (s.n (k O.adminFlags)) 2 true)
  else
    let base := s.n (k O.adminBaseTime)
    let first := (s.lane n).adminSince + 2
    let earliest := first * s.period
    if s.tickNo < first || !isCycleBoundary cyc s.tickNo || decide (s.tickNo * s.period < base) then s
    else
      let l := gateEntries (s.blob (k O.adminEntries))
      let s := s.updLane n (fun x =>
        { x with adminRunning := true, gateStates := cycleStartStates l, gateOwner := 0xFFFF, gateNext := 0,
                 gateRunning := true, gateRound := s.tickNo / cyc })
      let s := (s.setN (k O.adminStartTick) s.tickNo).setN (laneSub O.gateCycle n) cyc
      (s.setN (k O.adminFlags) (2 + b2n (decide (base < earliest)))).showBands n

def execAdminListStart (t : Nat) (lane : Nat) (s : State) : Host.Outcome State Fault Refusal :=
  .next (adminListStart lane (s.begin t))

/-- R175: a Best-effort queue has waited beyond the starvation limit: a relief frame is due. -/
def starvationLimit (n tc : Nat) (s : State) : State :=
  if s.hasLane n && decide (tc ≤ 2) && s.starves n tc then s.updLane n (fun l => { l with reliefDue := setBit l.reliefDue tc true })
  else s

def execStarvationLimit (t : Nat) (lane tc : Nat) (s : State) : Host.Outcome State Fault Refusal :=
  .next (starvationLimit lane tc (s.begin t))

end Sys2Proof.Machine
end

