-- ==== Sys2Proof/Machine/Pipeline.lean ====
section
/-! DEFINITION. The forwarding pipeline (chapters 5 and 6): receive checks, link-local frames, VLAN ingress, classification,
stream filters, bridging, redundancy, mirroring, host rings, Saddle transfer, and the forwarding database. -/
namespace Sys2Proof.Machine

open Sys2Proof

/-! ### The forwarding database (R131 to R133) -/

/-- Key of an address (as a number) and VID. -/
def fdbKey (addr vid : Nat) : Nat := addr * 4096 + vid

/-- Entries of a bucket of a die's database. -/
def State.bucket (s : State) (d key : Nat) : SMap FdbEntry :=
  (s.fdbOf d).filter (fun e => Config.fdbBucket e.1 % 3072 == Config.fdbBucket key % 3072)

/-- Write an entry into a die's database. -/
def State.putFdb (s : State) (d key : Nat) (e : FdbEntry) : State :=
  { s with fwd := { s.fwd with fdb := upd [] s.fwd.fdb d (fun m => ins m key e) } }

/-- Remove an entry. -/
def State.delFdb (s : State) (d key : Nat) : State :=
  { s with fwd := { s.fwd with fdb := upd [] s.fwd.fdb d (fun m => del m key) } }

/-- R131: die `d` learns a source address; the entry goes to every other die.  At an equal tick an entry of a lower die stands. -/
def State.learn (s : State) (d key ep : Nat) : State :=
  let e : FdbEntry := { endpoint := ep, static := false, laneSet := none, die := d, tick := s.tickNo, refreshed := s.now }
  let spread := fun (s : State) =>
    (s.upDies.filter (· ≠ d)).foldl (fun s o => s.emit (.fdb o key e)) (s.putFdb d key e).refreshFdb
  match look (s.fdbOf d) key with
  | some o =>
    if o.static || (o.tick == s.tickNo && decide (o.die < d)) then s
    else if o.endpoint = ep then spread s
    else spread (s.inc32 O.stationMoves)
  | none => if 4 ≤ (s.bucket d key).length then s.inc32 O.learningFailures else spread s

/-- R131: a received entry is applied if its tick is later, or equal from a lower die. -/
def fdbUpdateReceive (d key : Nat) (e : FdbEntry) (s : State) : State :=
  if !s.dieUp d then s
  else
    match look (s.fdbOf d) key with
    | some o =>
      if o.static then s
      else if o.tick < e.tick ∨ (o.tick = e.tick ∧ e.die < o.die) then (s.putFdb d key { e with refreshed := s.now }).refreshFdb
      else s
    | none => if 4 ≤ (s.bucket d key).length then s else (s.putFdb d key { e with refreshed := s.now }).refreshFdb

def execFdbUpdateReceive (t : Nat) (die key : Nat) (e : FdbEntry) (s : State) : Host.Outcome State Fault Refusal :=
  .next (fdbUpdateReceive die key e (s.begin t))

/-- R131: a dynamic entry not refreshed within the ageing time is removed. -/
def fdbAgeOut (d key : Nat) (s : State) : State :=
  match look (s.fdbOf d) key with
  | some e =>
    if !e.static && decide (s.n O.fdbAgeingTime * 1000000000 ≤ s.now - e.refreshed) then (s.delFdb d key).refreshFdb else s
  | none => s

def execFdbAgeOut (t : Nat) (die key : Nat) (s : State) : Host.Outcome State Fault Refusal :=
  .next (fdbAgeOut die key (s.begin t))

/-- Key of the entry with the least refresh time. -/
def oldestEntry : SMap FdbEntry → Option (Nat × Nat)
  | [] => none
  | (k, e) :: t =>
    match oldestEntry t with
    | none => some (k, e.refreshed)
    | some o => if o.2 < e.refreshed then some o else some (k, e.refreshed)

/-- R132: a static entry is written on every die; a full bucket gives up its oldest dynamic entry, and a bucket of 4 static
entries refuses it. -/
def staticEntryWrite (r : Bytes) (_ : Session) (s : State) : Status × State :=
  let key := fdbKey (fldBE r 0 6) (fld r 6 2)
  let set := bit (fld r 0x0A 1) 1
  let e : FdbEntry := { endpoint := fld r 8 2, static := true, laneSet := if set then some (fld r 0x10 8) else none,
                        die := 0xFF, tick := 0, refreshed := s.now }
  let full := (look (s.fdbOf s.pkg.lead) key).isNone && decide (4 ≤ (s.bucket s.pkg.lead key).length) &&
    ((s.bucket s.pkg.lead key).all (fun x => x.2.static))
  if full then (.deviceState, s)
  else
    let one := fun (s : State) (d : Nat) =>
      let b := s.bucket d key
      let s := if (look (s.fdbOf d) key).isNone ∧ 4 ≤ b.length then
          match oldestEntry (b.filter (fun x => !x.2.static)) with
          | some o => s.delFdb d o.1
          | none => s
        else s
      s.putFdb d key e
    (.ok, (s.dies.foldl one s).refreshFdb)

def execStaticEntryWrite (t : Nat) (who : Who) (rec : Bytes) (s : State) : Host.Outcome State Fault Refusal :=
  domRow t who 0x2430 4 rec 24 24 (fun _ => staticEntryOk rec) (staticEntryWrite rec) s

/-- R132: a static entry deleted by address and VID. -/
def staticEntryDelete (r : Bytes) (_ : Session) (s : State) : Status × State :=
  let key := fdbKey (fldBE r 0 6) (fld r 6 2)
  let one := fun (s : State) (d : Nat) =>
    match look (s.fdbOf d) key with
    | some e => if e.static then s.delFdb d key else s
    | none => s
  (.ok, (s.dies.foldl one s).refreshFdb)

def execStaticEntryDelete (t : Nat) (who : Who) (rec : Bytes) (s : State) : Host.Outcome State Fault Refusal :=
  domRow t who 0x2430 5 rec 8 8 (fun _ => true) (staticEntryDelete rec) s

/-- R146: every dynamic entry removed. -/
def fdbFlush (_ : Session) (s : State) : Status × State :=
  (.ok, ({ s with fwd := { s.fwd with fdb := mapVals (fun m => m.filter (fun e => e.2.static)) s.fwd.fdb } }).refreshFdb)

def execFdbFlush (t : Nat) (who : Who) (s : State) : Host.Outcome State Fault Refusal :=
  cmdRow t who 0x2400 6 1 fdbFlush s

/-! ### Copies -/

/-- Largest frame bytes of a copy without its FCS, from the packet, with its tag for lane `n` (R130) and R-TAG. -/
def State.copyBytes (s : State) (p : Pkt) (n : Nat) (rtag : Option Nat) : Bytes :=
  let b := if bit (s.vlanUntagged p.vid) n then withoutTag p.bytes else withTag p.bytes p.pcp p.dei p.vid
  match rtag with
  | some q => withRtag b q
  | none => b

/-- A copy of a packet for a lane. -/
def State.copyFor (s : State) (p : Pkt) (n tc : Nat) (cut : Bool) (rtag : Option Nat) : QFrame :=
  let b := s.copyBytes p n rtag
  { bytes := b, len := max 64 (b.length + 4), tc := tc, slot := p.slot, ingress := p.inEp, ts := p.ts, rtag := rtag,
    cut := cut, mirror := 0, l3 := p.l3req, l4 := p.l4req, stomp := p.stomp, since := s.now, stamp := p.stamp, tx := p.tx,
    inLane := p.lane }

/-- The traffic class of an unclassified or Best-effort copy (R151). -/
def State.beClass (s : State) (p : Pkt) (n : Nat) : Nat := min 2 (s.pcpClass n p.pcp)

/-- What the hash of a group takes, by bit of *hash fields* (R125): MAC addresses, VID, IP addresses, layer-4 ports. -/
def hashInput (p : Pkt) : List (List Nat) :=
  let x := parseL3 p.bytes
  [[fldBE p.bytes 0 6, fldBE p.bytes 6 6], [p.vid], [x.src, x.dst], [x.sport, x.dport]]

/-- The hash input of a group, restricted to its enabled fields (R120). -/
def State.hashOf (s : State) (g : Nat) (p : Pkt) : List Nat :=
  let f := s.n (byIdx O.hashFields g)
  ((hashInput p).mapIdx (fun i v => if bit f i then v else [])).flatten

/-- The member that carries an unclassified copy of a group: the one in service with the highest hash, so that the loss of a member moves
its own flows alone (R120). -/
def State.lagMember (s : State) (g : Nat) (p : Pkt) : Option Nat :=
  let weight := fun (n : Nat) => Config.lagHash (n :: s.hashOf g p)
  (s.lagActive g).foldl (fun (m : Option Nat) n =>
    match m with
    | none => some n
    | some k => if weight k < weight n then some n else some k) none

/-! ### Failing frames (R113, R114) -/

/-- R113: the flags with which a faulty frame goes to a ring; bit 8 stands for STOMPED.  None for a frame whose lane does not deliver flagged
frames, for one of class 1, and for one that failed its integrity check. -/
def State.flaggedAs (s : State) (p : Pkt) : Option Nat :=
  match p.deliver with
  | some e => if !bit e 4 && !bit e 9 && p.lane.any (fun n => s.n (laneKey O.deliverFlagged n) == 1) then some e else none
  | none => none

/-- R113: a frame delivered with its flags is counted. -/
def State.countFlagged (s : State) (p : Pkt) : State :=
  match p.lane with
  | some n => if (s.flaggedAs p).isSome then s.inc64 (laneKey O.deliveredFlagged n) else s
  | none => s

/-- R113, R117: a packet delivered to a ring of a die: good, or with its flags. -/
def State.ringCopy (s : State) (d k : Nat) (p : Pkt) : State :=
  let e := (s.flaggedAs p).getD 0
  if p.deliver.isSome && (s.flaggedAs p).isNone then s
  else (s.deliverRing d k (hostBytes p) (e % 256) (bit e 8) p.inEp p.stamp p.slot p.lane).2

/-! ### Contract copies across Saddle (R54, R138, R141) -/

/-- The next die of a contract's copy at die `d` on one of its planned paths. -/
def nextOnPath (ingress d : Nat) (path : List Nat) : Option Nat :=
  let full := ingress :: path
  match full.dropWhile (· ≠ d) with
  | _ :: m :: _ => some m
  | _ => none

/-- The copies a contract's frame makes on die `d` towards the lanes of a mask: (next die, lanes).  An FRER contract takes both paths,
any other its first (R54, R87, R138).  Copies that leave on one link are one; on the AX8-2 the two paths of a contract take its two
parallel links, so each is a copy of its own (R24). -/
def planNexts (p : SlotPlan) (frer parallel : Bool) (d lanes : Nat) : List (Nat × Nat) :=
  let each := p.egr.flatMap (fun x =>
    if x.lane = 0xFF ∨ bit lanes x.lane then
      let second := if frer then x.path2.toList else []
      let paths := (x.path, 0) :: second.map (fun q => (q, if parallel then 1 else 0))
      paths.filterMap (fun q => (nextOnPath p.ingressDie d q.1).map (fun m => ((m, q.2), x.lane)))
    else [])
  let links := (each.map (·.1)).eraseDups
  links.map (fun k => (k.1, maskOf (((each.filter (fun e => e.1 == k)).map (·.2)).filter (· ≠ 0xFF))))

/-- The copies of a contract's frame on die `d` (R138).  A copy whose way uses a link or a die that has failed is dropped (R95, R96). -/
def State.nexts (s : State) (r : Bytes) (p : SlotPlan) (d lanes : Nat) : List (Nat × Nat) :=
  let l := (planNexts p (Contract.redundancy r == 1) (s.variant == 2) d lanes).filter (fun e => (s.neighbours d).contains e.1)
  if s.variant = 2 then l.take (s.neighbours d).length else l

/-- The ring mask of a contract's host endpoints on a die. -/
def hostRings (r : Bytes) (d : Nat) : Nat :=
  maskOf (((Contract.egress r).filter (fun e => epKind e == 4 && bits e 8 3 == d)).map (fun e => bits e 0 4))

/-- A frame of a packet as it crosses Saddle (R141). -/
def pktSaddle (p : Pkt) (cut frer onWire flooded : Bool) (tc seq lanes rings : Nat) : SaddleFrame :=
  { slot := p.slot, ingress := p.inEp, cut := cut, frer := frer, rtagOnWire := onWire, mirrorCopy := false,
    flooded := flooded, l3 := p.l3req, l4 := p.l4req, tc := tc, seq := seq, lanes := lanes, ts := p.stamp, rings := rings,
    mirrors := 0, bytes := hostBytes p, arrived := p.ts, lane := p.lane, fail := p.deliver, tx := p.tx }

/-- A contract's first Cirque endpoint, 0 for none. -/
def cirqueEp (r : Bytes) : Nat := ((Contract.egress r).find? (fun e => epKind e == 3)).getD 0

/-- Is the copy of an egress entry cut through (R72)?  Of an entry without a lane, the one for the Cirque instance. -/
def State.entryCut (s : State) (r : Bytes) (p : SlotPlan) (x : EgrPlan) : Bool :=
  if x.lane ≠ 0xFF then cutThrough s r (epLane x.lane) x.lane
  else p.cirqueDie == (x.path.getLast?).getD p.ingressDie && cutThrough s r (cirqueEp r) 0xFF

/-- The egress entries that lie behind the link from die `d` to die `m`. -/
def entriesBehind (p : SlotPlan) (d m : Nat) : List EgrPlan :=
  p.egr.filter (fun x => nextOnPath p.ingressDie d x.path == some m || x.path2.any (fun q => nextOnPath p.ingressDie d q == some m))

/-- May a contract's frame cross a link?  A good one may.  A failing one crosses where a copy behind the link is cut through, or where a ring
there takes it with its flags (R111, R113, R114, R141). -/
def State.mayCross (s : State) (p : Pkt) (r : Bytes) (l : List EgrPlan) (cut : Bool) (ingressDie : Nat) : Bool :=
  p.deliver.isNone || (p.stomp && cut) ||
    ((s.flaggedAs p).isSome && l.any (fun x => x.lane == 0xFF && hostRings r ((x.path.getLast?).getD ingressDie) != 0))

/-! ### FRER (R138, R139) -/

/-- The vector algorithm with a history of 32 (R139): 0 pass, 1 duplicate, 2 rogue; and the state after. -/
def RecoverySt.step (x : RecoverySt) (seq now : Nat) : Nat × RecoverySt :=
  if !x.started then (0, ⟨true, seq, 1, now⟩)
  else
    let d := signed 16 (seq + 65536 - x.latest)
    if d.natAbs ≥ 32 then (2, x)
    else if d ≤ 0 then
      if bit x.history d.natAbs then (1, x)
      else (0, { x with history := setBit x.history d.natAbs true, lastPass := now })
    else (0, { started := true, latest := seq, history := (x.history * 2 ^ d.natAbs) % 2 ^ 32 + 1, lastPass := now })

/-- Recovery of a copy bound for egress die `d`: the function of that die and of the slot that owns it.  Whether the copy passes. -/
def State.recover (s : State) (d slot owner seq : Nat) : Bool × State :=
  let key := d * 8192 + owner
  let r := (get {} s.fwd.recovery key).step seq s.now
  let s := { s with fwd := { s.fwd with recovery := ins s.fwd.recovery key r.2 } }
  if r.1 = 0 then (true, s.streamCount slot 0x20)
  else if r.1 = 1 then (false, s.streamCount slot 0x28)
  else (false, s.streamCount slot 0x30)

/-- R139: no frame has passed for the reset timeout: the next frame passes and the history restarts. -/
def recoveryReset (d slot : Nat) (s : State) : State :=
  let key := d * 8192 + slot
  let x := get {} s.fwd.recovery key
  if x.started && decide (s.n O.recoveryResetTimeout * s.period ≤ s.now - x.lastPass) then
    { s with fwd := { s.fwd with recovery := put {} s.fwd.recovery key { x with started := false } } }
  else s

def execRecoveryResetTimeout (t : Nat) (die slot : Nat) (s : State) : Host.Outcome State Fault Refusal :=
  .next (recoveryReset die slot (s.begin t))

/-- The recovery functions of a contract that a die runs, by the keys of their state (R139). -/
def State.recoveryKeys (s : State) (d slot : Nat) : List Nat :=
  (d * 8192 + slot) :: (match s.placed slot with
    | some p => ((egressDiesOf p).filter (fun e => recDieOf p e == d)).map (fun e => e * 8192 + slot)
    | none => [])

/-! ### Forwarding a classified frame (stage 7 to 9) -/

/-- The plan of a slot as a die sees it: the activating case's on a die that has applied its delta (R49, R95). -/
def State.placedOn (s : State) (d slot : Nat) : Option SlotPlan :=
  match s.plan.activating with
  | some (c, _) =>
    if bit s.plan.reported d then
      match s.plan.active.cases.find? (fun p => p.code == c) with
      | some p => p.place.slots.find? (fun x => x.slot == slot)
      | none => s.placed slot
    else s.placed slot
  | none => s.placed slot

/-- R246: during a handover, where the plan about to switch puts a contract whose Cirque instance it moves. -/
def State.handoverPlan (s : State) (slot : Nat) : Option SlotPlan :=
  if s.audio.handover then
    match s.plan.pending.head? with
    | some p =>
      match p.place.slots.find? (fun x => x.slot == slot) with
      | some n => if (s.placed slot).any (fun o => o.cirqueDie != n.cirqueDie) then some n else none
      | none => none
    | none => none
  else none

/-- The instance that also receives a contract's frames during a handover (R246). -/
def State.handoverDie (s : State) (slot : Nat) : Option Nat := (s.handoverPlan slot).map (·.cirqueDie)

/-- The traffic class of a contract's copy on a lane. -/
def State.contractTc (s : State) (r : Bytes) (p : Pkt) (n : Nat) : Nat :=
  if Contract.cls r = 5 then
    min 2 (s.pcpClass n (if 2 ≤ epKind p.inEp then Contract.pcp r else p.pcp))
  else tcOfClass (Contract.cls r)

/-- The key of a TDM unit's gain trim (R254): endpoint and direction. -/
def tdmTrimKey (m e dir : Nat) : Nat := bySub m (4 * bits e 8 3 + 2 * bits e 0 1 + dir)

/-- The effective gain coefficient of a TDM port's direction (R254). -/
def State.tdmCoef (s : State) (e dir : Nat) : Nat :=
  trimCoef (clampI (-200) 200 (s.factoryVal (tdmTrimKey O.factoryTDMGainTrim e dir) 0 + s.o (tdmTrimKey O.userTDMGainTrim e dir)))

/-- The sample block a TDM unit plays from an internal frame (R232): each 32-bit slot times its gain, 24 bits kept. -/
def State.tdmOut (s : State) (e : Nat) (b : Bytes) : Bytes :=
  let c : Int := ((s.tdmCoef e 1 : Nat) : Int)
  let body := b.drop 28
  (List.range (body.length / 4)).flatMap (fun i =>
    beBytes 4 (unsignedOf 24 (clampI (-8388608) 8388607 (signed 24 (fldBE body (4 * i) 3) * c / 16384)) * 256))

/-- The copies a die puts on its own lanes: those of the plan that the frame is bound for (R54, R138, R141). -/
def State.egressPorts (s : State) (d : Nat) (p : Pkt) (r : Bytes) (sp : SlotPlan) (lanes : Nat) (rt : Option Nat) : State :=
  (sp.egr.filter (fun x => x.lane != 0xFF && x.lane / 8 == d && bit lanes x.lane)).foldl (fun s x =>
    let cut := cutThrough s r (epLane x.lane) x.lane
    if p.deliver.isSome && !(p.stomp && cut) then s
    else if !s.listened p.slot x.lane r then s.streamCount p.slot 0x38
    else s.enqueue x.lane (s.copyFor p x.lane (s.contractTc r p x.lane) cut rt)) s

/-- The copies a die puts into its host rings (R113, R117). -/
def State.egressRings (s : State) (d : Nat) (p : Pkt) (r : Bytes) : State :=
  (bitsSet (hostRings r d) 16).foldl (fun s k => s.ringCopy d k p) s

/-- The copies a die hands to its edge units and to the Cirque instance it runs. -/
def State.egressUnits (s : State) (d : Nat) (p : Pkt) (r : Bytes) (sp : SlotPlan) : State :=
  let s := if p.deliver.isSome then s
    else ((Contract.egress r).filter (fun e => epKind e == 2 && bits e 8 3 == d)).foldl
      (fun s e => s.emit (if bits e 4 3 = 5 then .message "tdm" e (s.tdmOut e p.bytes) else .message "edge" e p.bytes)) s
  if sp.cirqueDie = d ∨ s.handoverDie p.slot = some d then
    ((Contract.egress r).filter (fun e => epKind e == 3)).foldl
      (fun s e => if p.deliver.isSome then s else s.emit (.message "cirque" (bits e 0 10) p.bytes)) s
  else s

/-- The egress dies whose recovery function a die runs for this frame (R139).  Members of a group use the functions of their lowest
slot; of a failing frame only a cut-through copy has come as far. -/
def State.recovers (s : State) (d : Nat) (p : Pkt) (r : Bytes) (sp : SlotPlan) : List Nat :=
  if Contract.redundancy r == 1 && (p.deliver.isNone || (p.stomp && sp.egr.any (s.entryCut r sp))) then
    let own := (s.placedOn d (s.frerOwner p.slot r)).getD sp
    (egressDiesOf own).filter (fun e => recDieOf own e == d)
  else []

/-- R139: the lanes left of a copy after the recovery functions that a die runs for egress dies behind a link. -/
def State.recoverAhead (s : State) (p : Pkt) (r : Bytes) (seq lanes : Nat) (dies : List Nat) : Nat × State :=
  dies.foldl (fun (a : Nat × State) e =>
    let here := (bitsSet a.1 64).filter (fun n => n / 8 == e)
    if here.isEmpty then a
    else
      let k := a.2.recover e p.slot (s.frerOwner p.slot r) seq
      (if k.1 then a.1 else maskOf ((bitsSet a.1 64).filter (fun n => n / 8 != e)), k.2)) (lanes, s)

/-- The copies of a contract's frame that leave die `d` over Saddle (R138, R139, R140, R141). -/
def State.crossOn (s : State) (d : Nat) (p : Pkt) (r : Bytes) (sp : SlotPlan) (seq : Nat) (onWire : Bool) (dst : List (Nat × Nat)) :
    State :=
  let ahead := (s.recovers d p r sp).filter (fun e => e != d)
  dst.foldl (fun (s : State) e =>
    let l := entriesBehind sp d e.1
    let cut := l.any (s.entryCut r sp)
    if s.mayCross p r l cut sp.ingressDie then
      let k := s.recoverAhead p r seq e.2 ahead
      if k.1 == 0 && l.all (fun x => x.lane != 0xFF) then k.2
      else
        k.2.toSaddle e.1 (pktSaddle p cut (Contract.redundancy r == 1) onWire false (tcOfClass (Contract.cls r)) seq k.1 (hostRings r e.1))
    else s) s

/-- The egress of a contract's frame on one die: its lanes there, its rings, its edge units and Cirque inputs there. -/
def State.egressHere (s : State) (d : Nat) (p : Pkt) (r : Bytes) (sp : SlotPlan) (seq lanes : Nat) (tagOnWire : Bool) : State :=
  let ok : Bool × State := if (s.recovers d p r sp).contains d then s.recover d p.slot (s.frerOwner p.slot r) seq else (true, s)
  if !ok.1 then ok.2
  else
    let rt := if Contract.redundancy r = 1 ∧ (tagOnWire || frerTags r) = true then some seq else none
    ((ok.2.egressPorts d p r sp lanes rt).egressRings d p r).egressUnits d p r sp

/-- R138: the sequence number of a frame on its ingress die: its R-TAG's, else the contract's next. -/
def State.takeSeq (s : State) (p : Pkt) (r : Bytes) : Nat × State :=
  match rtagOf p.bytes with
  | some q => (q, s)
  | none =>
    let q := get 0 s.fwd.frerSeq p.slot
    (q, if Contract.redundancy r = 1 then
        { s with fwd := { s.fwd with frerSeq := ins s.fwd.frerSeq p.slot ((q + 1) % 65536) } } else s)

/-- Stages 7 to 9 for a classified frame on its ingress die (R138, R140); during a handover the new instance's copies as well (R246). -/
def State.forwardContract (s : State) (p : Pkt) (r : Bytes) : State :=
  match s.placedOn p.die p.slot with
  | none => s
  | some sp =>
    let onWire := (rtagOf p.bytes).isSome
    let q := s.takeSeq p r
    let s := if (Contract.egress r).any (fun e => epKind e == 4) then q.2.countFlagged p else q.2
    let s := s.egressHere p.die p r sp q.1 s.laneMask onWire
    let dst := s.nexts r sp p.die s.laneMask
    let s := s.crossOn p.die p r sp q.1 onWire dst
    match s.handoverPlan p.slot with
    | some np => s.crossOn p.die p r np q.1 onWire ((s.nexts r np p.die s.laneMask).filter (fun e => dst.all (fun k => k.1 != e.1)))
    | none => s

/-! ### Forwarding an unclassified frame (R133, R190) -/

/-- One copy of an unclassified frame that the lookup calls for: its lane, none for a ring; its egress endpoint; whether it is flooded. -/
structure Target where
  lane : Option Nat
  out : Nat
  flooded : Bool
deriving DecidableEq, Repr

/-- The die of a copy's egress. -/
def Target.die (t : Target) : Nat := match t.lane with | some n => n / 8 | none => bits t.out 8 3

/-- A packet with the DEI that a pass meter gave (R168). -/
def markDei (p : Pkt) (dei : Bool) : Pkt := if dei && p.wasTagged then { p with dei := 1 } else p

/-- A permitted copy on its own die: on a lane, or in a ring (R133). -/
def State.copyHere (s : State) (p : Pkt) (t : Target) : State :=
  match t.lane with
  | some n => s.enqueue n (s.copyFor p n (s.beClass p n) false (rtagOf p.bytes))
  | none => s.ringCopy p.die (bits t.out 0 4) p

/-- The permitted copies for one other die cross Saddle together, on the ranked way (R87, R133). -/
def State.copiesAway (s : State) (p : Pkt) (die : Nat) (l : List Target) : State :=
  let lanes := l.filterMap (fun t => t.lane)
  let rings := (l.filter (fun t => t.lane.isNone)).map (fun t => bits t.out 0 4)
  if l.isEmpty then s
  else
    (s.alongWay p.die die (pktSaddle p false false (rtagOf p.bytes).isSome (l.any (fun t => t.flooded))
      (match lanes with | n :: _ => s.beClass p n | [] => 0) 0 (maskOf lanes) (maskOf rings))).2

/-- The copies mirrored at the pass that permitted them (R143, R204). -/
def State.mirrorPasses (s : State) (p : Pkt) (l : List Dec) : State :=
  if p.deliver.isSome then s
  else (l.filterMap Dec.mirrorPass).foldl (fun (s : State) f =>
    (s.mirrorsOf [4] f).foldl (fun (s : State) i => (s.mirrorCopy i p.die (pktMirror p p.bytes)).passCount f 0x20) s) s

/-- The permitted copies of a frame go out: those of its die, then those of each other die. -/
def State.sendCopies (s : State) (p : Pkt) (l : List (Target × Dec)) : State :=
  let s := s.mirrorPasses p (l.map (·.2))
  let s := if l.any (fun e => e.1.lane.isNone) then s.countFlagged p else s
  let s := (l.filter (fun e => e.1.die == p.die)).foldl (fun (s : State) e => s.copyHere (markDei p e.2.dei) e.1) s
  let away := l.filter (fun e => e.1.die != p.die)
  ((away.map (fun e => e.1.die)).eraseDups).foldl (fun (s : State) d =>
    [false, true].foldl (fun (s : State) k =>
      s.copiesAway (markDei p k) d ((away.filter (fun e => e.1.die == d && e.2.dei == k)).map (·.1))) s) s

/-- Stage 6 for one copy of an unclassified frame: permitted, denied, or waiting for a remote home where the lookups need one (R195).  Of a
faulty frame only a copy for a ring is left (R113). -/
def State.decideCopy (s : State) (p : Pkt) (len : Nat) (t : Target) : Option Dec × State :=
  let b := s.zoneOf t.out p.vid
  if p.deliver.isSome && (t.lane.isSome || (s.flaggedAs p).isNone) then (none, s)
  else match s.remoteHome p t.out b with
  | some h =>
    let w : WaitingCopy := ⟨s.fw.nextId, p, len, t.out, t.lane, b, t.flooded, 0, false⟩
    (none, ({ s with fw := { s.fw with waiting := s.fw.waiting ++ [w], nextId := s.fw.nextId + 1 } }).emit
      (.sessionQuery s.fw.nextId h))
  | none =>
    let e := s.evalCopy p len t.out b
    (if e.1.permit then some e.1 else none, e.2.txDecided p.tx e.1.permit)

/-- Stages 6 to 9 of an unclassified frame: every copy is decided; the ingress mirror copy is made once one is permitted (R127, R143), and
what is permitted goes out.  Where copies only wait, the mirror copy waits with them. -/
def State.bridgeCopies (s : State) (p : Pkt) (len : Nat) (l : List Target) : State :=
  let first := s.fw.nextId
  let z := l.foldl (fun (a : List (Target × Dec) × State) t =>
    let x := a.2.decideCopy p len t
    (a.1 ++ (x.1.map (fun d => (t, d))).toList, x.2)) ([], s)
  let s := { z.2 with fw := { z.2.fw with waiting := z.2.fw.waiting.map (fun w =>
    if first ≤ w.id then { w with frame := first, mirror := z.1.isEmpty } else w) } }
  if z.1.isEmpty then s else (s.mirrorIngress p p.bytes).sendCopies p z.1

/-- R195: the answer of a remote home arrives and the waiting copy is decided. -/
def sessionLookupAnswer (id : Nat) (avail : SMap Nat) (s : State) : State :=
  match s.fw.waiting.find? (fun w => w.id == id) with
  | none => s
  | some w =>
    let s := { s.handed avail with fw := { s.fw with waiting := s.fw.waiting.filter (fun x => x.id != id) } }
    let e := s.evalCopy w.pkt w.len w.out w.zoneOut
    let s := e.2.txDecided w.pkt.tx e.1.permit
    if e.1.permit then
      let s := if w.mirror then
          ({ s with fw := { s.fw with waiting := s.fw.waiting.map (fun (x : WaitingCopy) => if x.frame = w.frame then { x with mirror := false } else x) } }).mirrorIngress w.pkt w.pkt.bytes
        else s
      (s.sendCopies w.pkt [(⟨w.lane, w.out, w.flooded⟩, e.1)]).settleTx
    else s.settleTx

def execSessionLookupAnswer (t : Nat) (id : Nat) (avail : SMap Nat) (s : State) : Host.Outcome State Fault Refusal :=
  .next (sessionLookupAnswer id avail (s.begin t))

/-- The lanes an endpoint stands for in an unclassified copy: a lane, or one member of a group. -/
def State.laneFor (s : State) (ep : Nat) (p : Pkt) : Option Nat :=
  if epKind ep = 0 then some (bits ep 0 6)
  else if epKind ep = 1 then s.lagMember (bits ep 0 5) p else none

/-- The endpoints of a set of lanes: each group once, without the ingress endpoint. -/
def State.endpointsOf (s : State) (lanes inEp : Nat) : List Nat :=
  (((bitsSet lanes 64).filter s.hasLane).map s.laneEndpoint).eraseDups.filter (· ≠ inEp)

/-- A copy for each endpoint of a set of lanes. -/
def State.laneTargets (s : State) (p : Pkt) (lanes : Nat) (flooded : Bool) : List Target :=
  (s.endpointsOf lanes p.inEp).filterMap (fun ep => (s.laneFor ep p).map (fun n => ⟨some n, ep, flooded⟩))

/-- R130, R133: a flood goes to the members of the VID, and to the host flood ring where its flag says so. -/
def State.floodTargets (s : State) (p : Pkt) : List Target :=
  let h := s.n O.hostFloodRing
  s.laneTargets p (s.vlanMembers p.vid) true ++
    (if bit (s.vlanFlags p.vid) 0 then [⟨none, epHost (bits h 4 3) (bits h 0 4), true⟩] else [])

/-- The copies of an unclassified frame (R133). -/
def State.targets (s : State) (p : Pkt) : List Target :=
  match look (s.fdbOf p.die) (fdbKey (fldBE p.bytes 0 6) p.vid) with
  | none => s.floodTargets p
  | some x =>
    match x.laneSet with
    | some ls => s.laneTargets p ls false
    | none =>
      if x.endpoint = p.inEp then []
      else if epKind x.endpoint = 4 then [⟨none, x.endpoint, false⟩]
      else (s.laneFor x.endpoint p).toList.map (fun n => ⟨some n, x.endpoint, false⟩)

/-- R133: a frame whose destination lies on its own ingress endpoint is dropped and counted as filtered. -/
def State.countFiltered (s : State) (p : Pkt) : State :=
  match look (s.fdbOf p.die) (fdbKey (fldBE p.bytes 0 6) p.vid) with
  | some x => if x.laneSet.isNone ∧ x.endpoint = p.inEp ∧ p.deliver.isNone = true then
      { s with fwd := { s.fwd with filtered := s.fwd.filtered + 1 } } else s
  | none => s

/-- R133: bridging of an unclassified frame. -/
def State.bridge_ (s : State) (p : Pkt) : State :=
  let len := match p.lane with
    | some n => s.counted n (p.bytes.length + 4)
    | none => p.bytes.length + 4
  (s.countFiltered p).bridgeCopies p len (s.targets p)

/-! ### Classification and the stream filter (R135, R136) -/

/-- Slot of a lane frame among contracts (R135): null stream identification first, then source address and VID. -/
def classifyIn (cs : SMap Bytes) (inEp : Nat) (b : Bytes) (vid : Nat) : Nat :=
  let hit := fun (m : Nat) (a : Bytes) => cs.find? (fun e =>
    Contract.matchMethod e.2 == m && Contract.ingress e.2 == inEp && Contract.matchAddr e.2 == a && Contract.vid e.2 == vid)
  match hit 0 (dstAddr b) with
  | some e => e.1
  | none => match hit 1 (srcAddr b) with | some e => e.1 | none => 0xFFFF

/-- Slot of a lane frame. -/
def State.classify (s : State) (inEp : Nat) (b : Bytes) (vid : Nat) : Nat := classifyIn s.plan.active.contracts inEp b vid

/-- The records of the BROKEN contracts (R79). -/
def State.brokenRecs (s : State) : SMap Bytes :=
  if s.n O.brokenContracts = 0 then []
  else (s.dict.blobs.filter (fun e => muxOf e.1 == muxOf (activeKey 0) && s.slotState (itemOf e.1) == slBROKEN)).map (fun e => (itemOf e.1, e.2))

/-- R79: a frame of a BROKEN contract is dropped and counted as unclassified traffic that no pass permits. -/
def State.dropBroken (s : State) (zone : Nat) : State := s.inc64 (bySub O.noPassDenials zone)

/-- Does a lane's frame belong to a BROKEN contract? -/
def State.brokenFrame (s : State) (p : Pkt) : Bool :=
  p.lane.isSome && classifyIn s.brokenRecs p.inEp p.bytes p.vid != 0xFFFF

/-- The time stamp of a frame of `len` bytes whose last bit has just come: when its first bit passed (R70, R213). -/
def State.arrivalOf (s : State) (n len : Nat) : Nat := s.now - wireTime (s.counted n len - 20) (s.laneRate n)

/-- Does the time stamp `ts` of a Scheduled frame lie inside its stream gate (R136)? -/
def State.streamGate (s : State) (r : Bytes) (n ts : Nat) : Bool :=
  let iv := Contract.interval r * s.period
  let pos := (s.tickNo % Contract.interval r * s.period + iv + ts - s.tick.start) % iv
  let width := 2 * Contract.tolerance r +
    (Contract.frames r - 1) * s.counted n (Contract.maxFrame r) * 8000000 / max 1 (s.laneRate n)
  decide ((pos + iv + Contract.tolerance r - Contract.arrival r % iv) % iv ≤ width)

/-- The meter of a lane contract (R136): RFC 4115, red frames dropped. -/
def State.contractMeter (s : State) (r : Bytes) (n : Nat) : MeterSt :=
  let b := s.counted n (Contract.maxFrame r)
  MeterSt.fresh s.now (rateKbps s r b) (Contract.frames r * b) 0 0 0x10 0x02

/-- Frame budget of an internal ingress: is this frame within F in its interval (R136)? -/
def State.withinBudget (s : State) (slot : Nat) (r : Bytes) : Bool × State :=
  let iv := s.tickNo / Contract.interval r
  let u := match look s.fwd.budget slot with
    | some (i, k) => if i = iv then k else 0
    | none => 0
  if u < Contract.frames r then
    (true, { s with fwd := { s.fwd with budget := ins s.fwd.budget slot (iv, u + 1) } })
  else (false, s)

/-- Stage 4: the first failing check drops the frame and counts it. -/
def State.streamFilter (s : State) (p : Pkt) (r : Bytes) : Bool × State :=
  let s := s.streamCount p.slot 0
  if Contract.maxFrame r < p.bytes.length + 4 then (false, s.streamCount p.slot 8)
  else
    match p.lane with
    | some n =>
      if Contract.cls r = 0 ∧ !s.streamGate r n p.ts then (false, s.streamCount p.slot 0x10)
      else
        let m := s.meter (meterKey p.die p.slot) (s.contractMeter r n) (s.counted n (p.bytes.length + 4)) 0
        if m.2.1 = 2 then (false, m.2.2.streamCount p.slot 0x18) else (true, m.2.2)
    | none =>
      let b := s.withinBudget p.slot r
      if b.1 then (true, b.2) else (false, b.2.streamCount p.slot 0x18)

/-- Does a failing contract frame get any further than its receive checks: some copy of it is cut through, or a ring takes it flagged? -/
def State.goesOn (s : State) (p : Pkt) (r : Bytes) : Bool :=
  p.deliver.isNone || ((s.flaggedAs p).isSome && (Contract.egress r).any (fun e => epKind e == 4)) ||
    (p.stomp && (s.placedOn p.die p.slot).any (fun sp => sp.egr.any (s.entryCut r sp)))

/-- Stages 4 to 9 of a frame that has its slot. -/
def State.pipeline (s : State) (p : Pkt) : State :=
  match s.contract p.slot with
  | some r =>
    if !s.goesOn p r then s
    else
      let f := s.streamFilter p r
      if f.1 then
        let s := if p.deliver.isNone ∨ p.stomp = true then f.2.passCount (Contract.pass r) 0x38 else f.2
        (s.mirrorIngress p p.bytes).forwardContract p r
      else f.2
  | none => if s.brokenFrame p then (if p.deliver.isNone then s.dropBroken p.zone else s) else s.bridge_ p

/-! ### Frames from lanes (R127 to R129) -/

/-- Is the address one of the link-local block of R128? -/
def linkLocal (b : Bytes) : Bool := fldBE b 0 6 / 16 == 0x0180C200000

/-- Does a gPTP instance with this lane run (R209)? -/
def State.gptpLane (s : State) (n : Nat) : Bool :=
  (List.range 4).any (fun i =>
    s.n (byIdx O.instanceEnable i) == 1 && bit (s.n (byIdx O.memberLanes i)) n)

/-- The function that a link-local frame goes to, if it runs on the lane (R128). -/
def State.linkLocalFunction (s : State) (n : Nat) (b : Bytes) : Option String :=
  let a := fldBE b 0 6 % 16
  let et := fldBE b 12 2
  if et = 0x888E then (if s.macsecLane n then some "mka" else none)
  else if a = 2 ∧ et = 0x8809 then
    match s.lagOf n with
    | some g => if s.n (byIdx O.lacpMode g) ≠ 0 then some "lacp" else none
    | none => none
  else if a = 14 then
    if et = 0x88F7 then (if s.gptpLane n then some "ptp" else none) else some "management"
  else none

/-- The address of the device's own management interface of either family (R401). -/
def State.ownIp (s : State) (x : L3) : Bool :=
  (x.v4 && x.dst == s.n O.managementIPv4Prefix + s.n O.systemAddress) ||
  (x.v6 && s.n O.managementIPv6Prefix != 0 && x.dst == s.n O.managementIPv6Prefix * 2 ^ 64 + s.n O.systemAddress)

/-- Speward to the AX8's own address (R194, R401). -/
def State.spewardFrame (s : State) (b : Bytes) : Bool :=
  let x := parseL3 b
  x.proto == 17 && x.dport == s.n O.spewardPort && s.ownIp x

/-- ARP and neighbour discovery for the own addresses (R390). -/
def State.arpFrame (s : State) (b : Bytes) : Bool :=
  (fldBE b (etOff b) 2 == 0x0806 && fldBE b (etOff b + 26) 4 == s.n O.managementIPv4Prefix + s.n O.systemAddress) ||
  (let x := parseL3 b; x.proto == 58 && (x.icmp / 256 == 135 || x.icmp / 256 == 136))

/-- A consent-ring or wake frame (R379). -/
def consentFrame (b : Bytes) : Bool := fldBE b 0 6 == 0x034B52000001 && fldBE b 12 2 == 0x88B6

/-- A PTP message over Ethernet or UDP (R210). -/
def ptpFrame (b : Bytes) : Bool :=
  fldBE b (etOff b) 2 == 0x88F7 || (let x := parseL3 b; x.proto == 17 && (x.dport == 319 || x.dport == 320))

/-- R390: what a port in quarantine accepts, and the function it goes to. -/
def State.quarantineFunction (s : State) (n : Nat) (b : Bytes) : Option String :=
  if ptpFrame b && s.gptpLane n then some "ptp"
  else if consentFrame b then some "ring"
  else if linkLocal b ∧ fldBE b 12 2 = 0x22EA then some "management"
  else if linkLocal b ∧ fldBE b 12 2 = 0x888E ∧ s.macsecLane n then some "mka"
  else if s.spewardFrame b || s.arpFrame b then
    if bit (s.n (bySub O.zoneFlags (s.laneZoneOf n))) 0 then some "speward" else none
  else none

/-- R128: a good frame of the link-local range: consumed by the MAC, given to its function, or dropped and counted. -/
def State.linkLocalIn (s : State) (n : Nat) (b : Bytes) : State :=
  let discard := s.inc64 (bySub O.linkLocalDiscards n)
  if fldBE b 12 2 = 0x8808 ∧ fldBE b 0 6 = 0x0180C2000001 then
    if fldBE b 14 2 = 1 then pauseReceive n false [(8, fldBE b 16 2)] s
    else if fldBE b 14 2 = 0x0101 then
      pauseReceive n true ((bitsSet (fldBE b 16 2) 8).map (fun i => (i, fldBE b (18 + 2 * i) 2))) s
    else discard
  else
    match s.linkLocalFunction n b with
    | some p => s.emit (.message p n b)
    | none => discard

/-- R113: a faulty frame to the management cores is delivered there with its flags, 2 bytes before it; any other faulty link-local frame is
dropped. -/
def State.linkLocalFaulty (s : State) (n err : Nat) (b : Bytes) : State :=
  if s.linkLocalFunction n b = some "management" ∧ bit err 4 = false ∧ bit err 9 = false ∧ s.n (laneKey O.deliverFlagged n) = 1 then
    (s.inc64 (laneKey O.deliveredFlagged n)).emit (.message "management-flagged" n (leBytes 2 err ++ b))
  else s

/-- The packet of a lane's frame after stages 1 to 3; `err` tells how it failed. -/
def State.lanePkt (s : State) (n : Nat) (f : RxFrame) (cls : List Nat) (err : Option Nat) (tag : Nat × Nat × Nat) : Pkt :=
  let b := f.bytes
  let inEp := s.laneEndpoint n
  let slot := s.classify inEp b tag.2.2
  let ts := s.arrivalOf n (b.length + 4)
  { bytes := if cls.any (fun c => c == 4 || c == 5) then b.take (s.rxKept n f) else b, pcp := tag.1, dei := tag.2.1,
    vid := tag.2.2, wasTagged := tagged b, inEp := inEp, lane := some n, die := n / 8, zone := s.zoneOf inEp tag.2.2, ts := ts,
    slot := if s.hole (n / 8) slot then 0xFFFF else slot, colour := tag.2.1, deliver := err, stomp := err.any (· != 0x40),
    l3req := false, l4req := false, stamp := s.stampOf (some n) ts }

/-- R108: a lane that has come back carries no contract traffic yet: a frame of a contract other than Best-effort is dropped, and counted as
drained (DESIGN CHOICE, log entry 96). -/
def State.notYet (s : State) (n : Nat) (p : Pkt) : Bool :=
  !(s.lane n).contractOk && (s.contract p.slot).any (fun r => Contract.cls r != 5)

/-- How a frame failed: the flags of its classes, [8] STOMPED, [9] an integrity failure; none for a good one. -/
def failFlags (cls : List Nat) (icv : Bool) : Option Nat :=
  if cls.isEmpty && !icv then none
  else some (orAll (cls.map classFlags) + (if cls.contains 6 then 0x100 else 0) + (if icv then 0x200 else 0))

/-- Stages 1 to 3 of a frame whose receive classes are known. -/
def State.ingress (s : State) (n : Nat) (f : RxFrame) (cls : List Nat) (icv : Bool) : State :=
  let b := f.bytes
  let err := failFlags cls icv
  if linkLocal b then
    match err with
    | some e => s.linkLocalFaulty n e b
    | none => s.linkLocalIn n b
  else if s.link n lkLACPOUT then s.countDrained n 1
  else
    match s.vlanIngress n b with
    | none => s.inc64 (bySub O.vlanIngressDrops n)
    | some tag =>
      let p := s.lanePkt n f cls err tag
      if s.notYet n p then s.countDrained n 1
      else if err.isSome then s.pipeline p
      else
        let s := if !isGroup (srcAddr b) && !bit (s.vlanFlags p.vid) 1 then s.learn p.die (fdbKey (fldBE b 6 6) p.vid) p.inEp else s
        if consentFrame b then s.emit (.message "ring" n b)
        else if ptpFrame b && s.gptpLane n then s.emit (.message "ptp" n b)
        else if (s.spewardFrame b || s.arpFrame b) && bit (s.n (bySub O.zoneFlags p.zone)) 0 then s.emit (.message "speward" n b)
        else s.traffic.pipeline p

/-- R161: does a preempted frame hold a fragment shorter than the partner advertises? -/
def shortFragment (f : RxFrame) : Bool := f.frags.any (fun k => decide (k < f.fragMin))

/-- R111 to R113: what a checked frame does: counted by its first class, dropped, or passed on.  One that a MACsec lane drops on its header
ends here; one that fails its integrity check goes on, for what has been forwarded of it (R142). -/
def State.received (s : State) (n : Nat) (f : RxFrame) (sec : SecVerdict) : State :=
  let cls := s.rxClasses n f
  let first := cls.headD 0
  if f.bytes.length + 4 < 18 then s.inc64 (laneKey O.fragments n)
  else
    let s := s.inc64 (laneKey (classCounter first) n)
    if sec = .drop then s
    else if bit s.pkg.quarantine (n / 8) then
      match (if cls.isEmpty && sec == .pass then s.quarantineFunction n f.bytes else none) with
      | some p => s.emit (.message p n f.bytes)
      | none => s.updLane n (fun l => { l with quarDiscards := l.quarDiscards + 1 })
    else if first = 2 ∨ first = 3 ∧ s.n (laneKey O.deliverFlagged n) ≠ 1 then s
    else s.ingress n f cls (sec == .fail)

/-- R111 to R113: the checks on receive, the counters, and what is dropped there.  A lane that is not in service carries nothing
(R107). -/
def laneFrameReceive (n : Nat) (f : RxFrame) (avail : SMap Nat) (s : State) : State :=
  if !s.laneOn n || !s.inService n || !s.regionUp (n / 4) || (s.lane n).testMode != 0 || s.quiet then s
  else if s.laneRestarting n || s.paused_ then s.countDrained n 1
  else if shortFragment f then s.updLane n (fun l => { l with assemblyErrors := l.assemblyErrors + 1 })
  else
    let s := s.handed avail
    let sec : SecVerdict × State := match f.sec with
      | some x => s.macsecIn n x
      | none => (.pass, s)
    sec.2.received n f sec.1

def execLaneFrameReceive (t : Nat) (lane : Nat) (f : RxFrame) (avail : SMap Nat) (s : State) :
    Host.Outcome State Fault Refusal :=
  .next (laneFrameReceive lane f avail (s.begin t))

/-! ### Frames over Saddle (R141) -/

/-- PCP, DEI and VID of a frame that crossed Saddle: those of its tag; where it arrived without one, those its ingress gives it
(R55, R129). -/
def State.saddleTag (s : State) (m : SaddleFrame) : Nat × Nat × Nat :=
  let tci := fldBE m.bytes 14 2
  if tagged m.bytes then (tci / 8192, tci / 4096 % 2, tci % 4096)
  else
    let pvid := fun (n : Nat) => s.n (bySub O.pvid (s.vlanLane n))
    match epKind m.ingress, s.contract m.slot with
    | 0, _ => (0, 0, pvid (bits m.ingress 0 6))
    | 1, _ => (0, 0, pvid ((s.lagMembers (bits m.ingress 0 5)).headD 0))
    | _, some r => (Contract.pcp r, 0, Contract.vid r)
    | _, none => (0, 0, 1)

/-- The packet that a Saddle frame carries. -/
def State.saddlePkt (s : State) (m : SaddleFrame) (d : Nat) : Pkt :=
  let g := s.saddleTag m
  { bytes := m.bytes, pcp := g.1, dei := g.2.1, vid := g.2.2,
    wasTagged := tagged m.bytes, inEp := m.ingress, lane := m.lane, die := d, zone := s.zoneOf m.ingress g.2.2, ts := m.arrived,
    slot := m.slot, colour := 0, deliver := m.fail, stomp := m.fail.any (· != 0x40), l3req := m.l3, l4req := m.l4, stamp := m.ts,
    tx := m.tx }

/-- R138, R140: the egress pass of a contract's frame: what leaves here, and what goes on by its plan. -/
def State.saddleContract (s : State) (d : Nat) (m : SaddleFrame) (r : Bytes) : State :=
  match s.placedOn d m.slot with
  | none => s
  | some sp =>
    let p := s.saddlePkt m d
    let s := s.egressHere d p r sp m.seq m.lanes m.rtagOnWire
    s.crossOn d p r sp m.seq m.rtagOnWire (s.nexts r sp d m.lanes)

/-- R133: the copies of other frames, which their ingress die has already permitted, on their last die: the lanes and rings of the
header. -/
def State.saddleCopies (s : State) (d : Nat) (m : SaddleFrame) : State :=
  let p := s.saddlePkt m d
  let s := ((bitsSet m.lanes 64).filter (fun n => n / 8 == d)).foldl (fun (s : State) n =>
    s.enqueue n (s.copyFor p n (s.beClass p n) false (rtagOf p.bytes))) s
  (bitsSet m.rings 16).foldl (fun (s : State) k => s.ringCopy d k p) s

/-- R141: a frame that arrives over Saddle takes its egress pass; an unclassified or mirror copy that is not at its die goes on along its
way. -/
def State.saddleIn (s : State) (d : Nat) (m : SaddleFrame) : State :=
  match m.way with
  | h :: rest => if (s.neighbours d).contains h then s.toSaddle h { m with way := rest } else s
  | [] =>
    if m.mirrorCopy then
      (bitsSet m.mirrors 8).foldl (fun (s : State) i => s.mirrorCopy i d ⟨m.bytes, m.ingress, m.lane, m.arrived, m.ts, m.slot⟩) s
    else
      match (if s.hole d m.slot then none else s.contract m.slot) with
      | some r => s.saddleContract d m r
      | none => s.saddleCopies d m

def saddleFrameReceive (d : Nat) (m : SaddleFrame) (avail : SMap Nat) (s : State) : State :=
  if !s.dieUp d then s else ((((s.handed avail).txAway m.tx (· - 1)).saddleIn d m).settleTx)

def execSaddleFrameReceive (t : Nat) (die : Nat) (m : SaddleFrame) (avail : SMap Nat) (s : State) :
    Host.Outcome State Fault Refusal :=
  .next (saddleFrameReceive die m avail (s.begin t))

/-! ### Injection (R144, R145) -/

/-- The chain of a frame: descriptors up to the first LAST. -/
def chainOf : TxChain → TxChain
  | [] => []
  | d :: t => if txFlag d.desc 5 then [d] else d :: chainOf t

/-- Byte count of a transmit descriptor. -/
def txCount (d : TxDesc) : Nat := fld d.desc 8 2

/-- Slot that a transmit descriptor names. -/
def txSlot (d : TxDesc) : Nat := fld d.desc 0x0C 2

/-- R145: what the read-ahead of a chain finds: nothing to start yet, or its status. -/
def State.txStatus (s : State) (d r : Nat) (c : TxChain) : Option Nat :=
  let own := fun (x : TxDesc) => txFlag x.desc 7
  match c with
  | [] => none
  | f :: _ =>
    if !own f then none
    else if !txFlag f.desc 6 then some 3
    else if !((c.take 16).all own) then none
    else if 16 < c.length ∨ (c.length = 16 ∧ !(c.any (fun x => txFlag x.desc 5))) then some 3
    else if !(c.any (fun x => txFlag x.desc 5)) then none
    else if 9212 < c.foldl (fun a x => a + txCount x) 0 then some 3
    else if bit s.pkg.quarantine d || !s.regionUp (2 * d + r / 8) then some 5
    else if txSlot f = 0xFFFF then some 0
    else
      match s.contract (txSlot f) with
      | none => some 2
      | some k => if Contract.ingress k = epHost d r then (if (s.withinBudget (txSlot f) k).1 then some 0 else some 4) else some 2

/-- A contract frame that a unit inside the package injects on die `d` (R54, R136): destination address and tag of the
contract, then the EtherType and payload; its checksums are computed (R114).  A BROKEN contract's is dropped and counted (R79). -/
def State.inject (s : State) (d slot : Nat) (body : Bytes) : State :=
  match s.contract slot with
  | none => if s.slotState slot = slBROKEN then s.dropBroken (Contract.zone (s.blob (activeKey slot))) else s
  | some r =>
    let raw := padded (Contract.matchAddr r ++ s.baseMac ++ beBytes 2 0x8100 ++ beBytes 2 (Contract.matchTag r) ++ body)
    s.pipeline
      { bytes := raw, pcp := Contract.pcp r, dei := 0, vid := Contract.vid r, wasTagged := true, inEp := Contract.ingress r, lane := none,
        die := d, zone := Contract.zone r, ts := s.now, slot := slot, colour := 0, deliver := none, stomp := false,
        l3req := true, l4req := true, stamp := s.instAt 0 s.now }

/-- *Next transmit descriptor* moves past `k` descriptors. -/
def State.advanceTx (s : State) (d r k : Nat) : State :=
  s.setN (ringKey O.nextTransmitDescriptor d r)
    ((s.n (ringKey O.nextTransmitDescriptor d r) + k) % max 1 (s.n (ringKey O.transmitRingSize d r)))

/-- Descriptors taken from a ring: they wait for their frame, or for the chains before them, to go back. -/
def State.takeTx (s : State) (d r : Nat) (c : TxChain) (status : Option Nat) (contract : Bool) : State :=
  let w : TxWait := ⟨s.fwd.txNext, d, r, s.n (ringKey O.nextTransmitDescriptor d r), c.map TxDesc.desc, contract, false, status, 0xFF, 0, 0, s.now⟩
  ({ s with fwd := { s.fwd with tx := s.fwd.tx ++ [w], txNext := s.fwd.txNext + 1 } }).advanceTx d r c.length

/-- A chain that goes back without its frame: the descriptors that the AX8 holds, and the rest of it, up to its LAST, as the owner hands
it over. -/
def State.refuseTx (s : State) (d r : Nat) (c : TxChain) (status : Nat) : State :=
  let held := c.takeWhile (fun x => txFlag x.desc 7)
  let whole := held.any (fun x => txFlag x.desc 5)
  let s := s.takeTx d r held (some status) false
  { s with fwd := { s.fwd with txSkip := if whole then del s.fwd.txSkip (16 * d + r) else ins s.fwd.txSkip (16 * d + r) status } }

/-- The packet of a host's frame (R127, R129, R133): its own tag, or VID 1; a contract's keeps the contract's. -/
def State.hostPkt (s : State) (d r : Nat) (c : TxChain) (f : TxDesc) (id : Nat) : Pkt :=
  let raw := padded (c.flatMap (fun x => x.bytes.take (txCount x)))
  let tci := if tagged raw then fldBE raw 14 2 else 0
  let vid := if tci % 4096 = 0 then 1 else tci % 4096
  let ep := epHost d r
  let k := s.contract (txSlot f)
  { bytes := raw, pcp := (k.map Contract.pcp).getD (tci / 8192), dei := tci / 4096 % 2, vid := (k.map Contract.vid).getD vid,
    wasTagged := tagged raw, inEp := ep, lane := none, die := d, zone := s.zoneOf ep vid, ts := s.now, slot := txSlot f,
    colour := tci / 4096 % 2, deliver := none, stomp := false, l3req := txFlag f.desc 3, l4req := txFlag f.desc 2,
    stamp := s.instAt 0 s.now, tx := id }

/-- R145: a complete chain is injected; a frame to the link-local range is removed at stage 1 (R127, R128), and a Speward datagram
to the AX8 from a ring in a zone with MGMT goes to the management complex without a pass (R194; ring `r` of die `d` is unit
64 + 16 d + r there). -/
def State.startTx (s : State) (d r : Nat) (c : TxChain) (f : TxDesc) : State :=
  let p := s.hostPkt d r c f s.fwd.txNext
  let s := s.takeTx d r c none (s.contract (txSlot f)).isSome
  if linkLocal p.bytes then s
  else if (s.contract p.slot).isNone && (s.spewardFrame p.bytes || s.arpFrame p.bytes) && bit (s.n (bySub O.zoneFlags p.zone)) 0 then
    s.emit (.message "speward" (64 + 16 * d + r) p.bytes)
  else s.pipeline p

/-- R145, R149: the first chain of a ring: the rest of a refused one, one of a disabled ring, or one to inject or refuse. -/
def State.fetchTx (s : State) (d r : Nat) (chain : TxChain) : State :=
  let c := chainOf chain
  let key := 16 * d + r
  let held := c.head?.any (fun x => txFlag x.desc 7)
  match look s.fwd.txSkip key with
  | some st => if held then s.refuseTx d r c st else s
  | none =>
    if s.n (ringKey O.transmitRingEnable d r) ≠ 1 then
      if !s.fwd.draining.contains key then s
      else if held then s.refuseTx d r c 5
      else { s with fwd := { s.fwd with draining := s.fwd.draining.filter (· ≠ key) } }
    else
      match s.txStatus d r c, c with
      | some 0, f :: _ => s.startTx d r c f
      | some st, _ => (if 2 ≤ st ∧ st ≤ 4 then s.inc32 (ringKey O.transmitErrors d r) else s).refuseTx d r c st
      | none, _ => s

/-- R145: the AX8 reads ahead a transmit ring and injects or rejects the first chain. -/
def transmitFetch (d r : Nat) (chain : TxChain) (avail : SMap Nat) (s : State) : State :=
  if !s.dieUp d || decide (16 ≤ r) then s else (((s.handed avail).fetchTx d r chain).settleTx)

def execTransmitDescriptorFetch (t : Nat) (die ring : Nat) (chain : TxChain) (avail : SMap Nat) (s : State) :
    Host.Outcome State Fault Refusal :=
  .next (transmitFetch die ring chain avail (s.begin t))

end Sys2Proof.Machine
end

