-- ==== Sys2Proof/Machine/Bridges.lean ====
section
/-! DEFINITION. Saddle flits and transactions, interrupts, and the host interfaces (chapter 12, R288 to R303, R364). -/
namespace Sys2Proof.Machine

open Sys2Proof

/-- The next die on the ranked path of R87 from `a` to `b`, which transactions and interrupt wires follow (R291, R295). -/
def State.nextHop (s : State) (a b : Nat) : Option Nat := (s.bestWay a b).bind List.head?

/-- R290: a replay is counted; a flit that fails again stops its link, which its heartbeats then fail. -/
def flitReplay (d p : Nat) (again : Bool) (s : State) : State :=
  if s.trained d p then
    let s := s.inc32 (portKey O.flitReplays d p)
    if again then { s with bridge := { s.bridge with stopped := (4 * d + p) :: s.bridge.stopped } } else s
  else s

def execFlitReplay (t : Nat) (die port : Nat) (again : Bool) (s : State) : Host.Outcome State Fault Refusal :=
  .next (flitReplay die port again (s.begin t))

/-! ### Interrupts (R295) -/

/-- The line a source of die `d` requests, if it is enabled. -/
def State.intRoute (s : State) (d src : Nat) : Option Nat :=
  let b := fld (s.blob (bySub O.interruptRouting d)) src 1
  if bit b 7 then some (bits b 0 2) else none

/-- The lines a die's pending, enabled sources request, as a mask. -/
def State.dieLines (s : State) (d : Nat) : Nat :=
  maskOf ((bitsSet (get 0 s.bridge.intPending d) 64).filterMap (s.intRoute d))

/-- The lines requested at the endpoint die: its own and those of every die with a way to it. -/
def State.wantLines (s : State) : Nat :=
  match s.endpoint with
  | none => 0
  | some e =>
    maskOf ((s.upDies.filter (fun d => d == e || (s.nextHop d e).isSome)).flatMap (fun d => bitsSet (s.dieLines d) 4))

/-- A discarded line copy that was never read is counted for its window (R298). -/
def State.countDiscard (s : State) (c : LineCopy) : State :=
  if c.used then s else s.inc32 (bySub O.speculativeReadsDiscarded c.window)

/-- Every line copy that satisfies `p` is discarded. -/
def State.discardLines (s : State) (p : LineCopy → Bool) : State :=
  let gone := s.bridge.lines.filter p
  let s := { s with bridge := { s.bridge with lines := s.bridge.lines.filter (fun c => !p c) } }
  gone.foldl (fun (s : State) c => s.countDiscard c) s

/-- R295: INT_N follows the requested lines; a rising line sends its MSI-X vector where that is enabled; a delivered
interrupt discards the line copies (R298). -/
def intWireChange (s : State) : State :=
  let want := s.wantLines
  let rising := (bitsSet want 4).filter (fun n => !bit s.bridge.intLines n)
  let s := { s with bridge := { s.bridge with intLines := want } }
  let s := if s.bridge.msix then rising.foldl (fun (s : State) n => s.emit (.message "msi-x" n [])) s else s
  if rising.isEmpty then s else s.discardLines (fun _ => true)

def execIntWireChange (t : Nat) (s : State) : Host.Outcome State Fault Refusal := .next (intWireChange (s.begin t))

/-- R295: the host writes 1 to pending bits of a die; a source that its event re-asserts at that moment stays. -/
def clearSources (d mask again : Nat) (s : State) : State :=
  { s with bridge := { s.bridge with
      intPending := upd 0 s.bridge.intPending d (fun m => maskOf ((bitsSet m 64).filter (fun i => !bit mask i || bit again i))) } }

def execIntSourceClear (t : Nat) (die mask again : Nat) (s : State) : Host.Outcome State Fault Refusal :=
  let s := s.begin t
  .next (if s.endpoint.isSome && s.hasDie die then clearSources die mask again s else s)

/-! ### The host space (R301) -/

/-- The window of a host offset. -/
def windowOf (off : Nat) : Option Nat :=
  if off < 0x10000 then some 0
  else if off < 0x11000 ∧ 0x10000 ≤ off then some 1
  else if 0x100000 ≤ off ∧ off < 0x200000 then some (2 + (off - 0x100000) / 0x10000)
  else none

/-- Offset inside its window. -/
def windowOff (off : Nat) : Nat := off % 0x10000

/-- The edge message RAM of cluster `w = 2 * die + cluster`. -/
def State.edgeRamOf (s : State) (w : Nat) : SMap Byte := get [] s.bridge.edgeRam w

def State.setEdgeRam (s : State) (w : Nat) (m : SMap Byte) : State :=
  { s with bridge := { s.bridge with edgeRam := put [] s.bridge.edgeRam w m } }

/-- R298: a write to a line by any master invalidates the copies of it. -/
def State.dropLine (s : State) (w a : Nat) : State := s.discardLines (fun c => c.window == w && c.line == a / 64 * 64)

/-- R298: the same for a mailbox, which is window 0 where its die is the endpoint. -/
def State.dropMailLine (s : State) (d a : Nat) : State := if s.n O.hostEndpointDie = d then s.dropLine 0 a else s

/-- R364: port A writes its words of this mailbox cycle. -/
def State.portAWrites (s : State) (d : Nat) (a : List (Nat × Nat)) : State :=
  a.foldl (fun (s : State) e => (s.dropMailLine d e.1).setMailbox d (ramWrite (s.mailboxOf d) (e.1 / 4 * 4) (leBytes 4 e.2))) s

/-- R364: a port B write of the mailbox: discarded whole and counted where port A writes the same word. -/
def State.mailboxWrite (s : State) (d off : Nat) (b : Bytes) (a : List (Nat × Nat)) : State :=
  let s := s.portAWrites d a
  if a.any (fun e => e.1 / 4 == off / 4) then s.inc32 (bySub O.mailboxWriteCollisions d)
  else (s.dropMailLine d off).setMailbox d (ramWrite (s.mailboxOf d) off b)

/-! ### Transactions (R291 to R293) -/

/-- Status codes of R291. -/
abbrev txOK : Nat := 0
abbrev txUNSUPPORTED : Nat := 1
abbrev txACCESSDENIED : Nat := 2
abbrev txALIGNMENT : Nat := 3
abbrev txBRIDGEFAULT : Nat := 4
abbrev txTARGETLOST : Nat := 5

/-- The target die serves a request: its mailbox through port B, or its edge message RAMs, at their host offsets. -/
def State.serveTxn (s : State) (d : Nat) (x : Txn) (a : List (Nat × Nat)) : Nat × Nat × State :=
  if x.size ≠ 1 ∧ x.size ≠ 2 ∧ x.size ≠ 4 ∨ x.addr % x.size ≠ 0 then (txALIGNMENT, 0, s)
  else
    match windowOf x.addr with
    | none => (txUNSUPPORTED, 0, s)
    | some w =>
      if w = 1 then (txUNSUPPORTED, 0, s)
      else if w = 0 then
        match x.data with
        | some v => (txOK, 0, s.mailboxWrite d x.addr (leBytes x.size v) a)
        | none => (txOK, leNat (ramRead (s.mailboxOf d) x.addr x.size), s.portAWrites d a)
      else if (w - 2) / 2 ≠ d then (txUNSUPPORTED, 0, s)
      else
        match x.data with
        | some v => (txOK, 0, (s.dropLine w (windowOff x.addr)).setEdgeRam (w - 2) (ramWrite (s.edgeRamOf (w - 2)) (windowOff x.addr) (leBytes x.size v)))
        | none => (txOK, leNat (ramRead (s.edgeRamOf (w - 2)) (windowOff x.addr) x.size), s)

/-- A request leaves die `d` towards its target. -/
def State.sendRequest (s : State) (d : Nat) (x : Txn) : State :=
  match s.nextHop d x.target with
  | some h => s.emit (.request h x)
  | none => s

/-- A completion travels back to the initiator. -/
def State.sendCompletion (s : State) (x : Txn) (status value : Nat) : State :=
  s.emit (.completion x.die x.id status value)

/-- The transactions a master of a die has outstanding. -/
def State.outstanding (s : State) (d m : Nat) : Nat := (s.bridge.txns.filter (fun x => x.die == d && x.master == m)).length

/-- R291: may a master issue: at most 8 outstanding for it, 32 for the die? -/
def State.mayIssue (s : State) (d m : Nat) : Bool :=
  decide (s.outstanding d m < 8) && decide ((s.bridge.txns.filter (fun x => x.die == d)).length < 32)

/-- A host master issues a transaction, or keeps it until one of its entries is free. -/
def State.issue (s : State) (x : Txn) : State :=
  let x := { x with id := s.bridge.nextId, since := s.now }
  let s := { s with bridge := { s.bridge with nextId := s.bridge.nextId + 1 } }
  if s.mayIssue x.die x.master && s.bridge.queued.all (fun y => y.master != x.master) then
    ({ s with bridge := { s.bridge with txns := s.bridge.txns ++ [x] } }).sendRequest x.die x
  else { s with bridge := { s.bridge with queued := s.bridge.queued ++ [x] } }

/-- The oldest waiting transaction of a master takes a freed entry. -/
def State.issueNext (s : State) (m : Nat) : State :=
  match s.bridge.queued.find? (fun y => y.master == m) with
  | none => s
  | some x =>
    if s.mayIssue x.die m then
      let x' := { x with since := s.now }
      let s := { s with bridge := { s.bridge with
        queued := s.bridge.queued.filter (fun y => y.id != x.id), txns := s.bridge.txns ++ [x'] } }
      s.sendRequest x'.die x'
    else s

/-- R299, R301: a failed access of the host: LAST_FAULT registers, BRIDGE_FAULTS, source 34 of the endpoint die. -/
def State.hostFault (s : State) (off status target : Nat) : State :=
  let s := { s with bridge := { s.bridge with
    lastFaultAddr := off, lastFaultInfo := status * 2 ^ 24 + target * 2 ^ 16,
    bridgeFaults := satN (2 ^ 32 - 1) (s.bridge.bridgeFaults + 1) } }
  s.raiseInt (s.n O.hostEndpointDie) 34

/-- R301: the LAST_FAULT registers name a read of the host that failed; it is answered with its status. -/
def State.noteReadFault (s : State) (off status : Nat) : State :=
  let target := match windowOf off with
    | some w => if w < 2 then s.n O.hostEndpointDie else (w - 2) / 2
    | none => s.n O.hostEndpointDie
  { s with bridge := { s.bridge with lastFaultAddr := off, lastFaultInfo := status * 2 ^ 24 + target % 256 * 2 ^ 16 } }

/-- The end of a host write: a failed one is recorded; a failed SPI write sets LAST_WRITE_ERROR. -/
def State.hostEnd (s : State) (x : Txn) (status : Nat) : State :=
  if status = txOK then s
  else
    let s := if x.master = 2 then { s with bridge := { s.bridge with spiError := true } } else s
    if x.master = 1 ∨ x.master = 2 then s.hostFault x.addr status x.target else s

/-! ### Reads of the host -/

/-- STATUS of R301. -/
def State.hostStatus (s : State) : Nat :=
  let e := s.n O.hostEndpointDie
  b2n s.bridge.fwReady + 2 * b2n (bit s.pkg.recoveryDies e) + 4 * b2n s.pkg.tamperHold +
    8 * b2n (bit s.pkg.quarantine e) + 16 * b2n s.bridge.writeRefused

/-- gPTP domain 0 time in ns: instance 0's time (R216, R301). -/
def State.gptpNs (s : State) : Nat := s.instNow 0

/-- A read of a directly mapped register by a host master: its value, none where the host space has no register. -/
def State.regRead (s : State) (m off : Nat) : Option Nat × State :=
  if off = 0x000 then (some 0x0A0B0C0D, s)
  else if off = 0x004 then (some s.hostStatus, s)
  else if off = 0x008 then (some 0, s)
  else if off = 0x00C then (some s.bridge.doorbellOut, s)
  else if off = 0x010 then (some s.bridge.bridgeFaults, s)
  else if off = 0x014 then (some s.bridge.lastFaultAddr, s)
  else if off = 0x018 then (some s.bridge.lastFaultInfo, s)
  else if 0x040 ≤ off ∧ off ≤ 0x084 then
    let w := (off - 0x40) / 4
    (if w < 2 ∨ s.hasDie ((w - 2) / 2) then some (get 0 s.bridge.windows w) else none, s)
  else if off = 0x100 then
    match s.bridge.fifo with
    | [] => (some 0, s)
    | w :: rest => (some w, { s with bridge := { s.bridge with fifo := rest } })
  else if off = 0x104 then (some s.bridge.fifo.length, s)
  else if off = 0x110 then
    (some (s.gptpNs % 2 ^ 32), { s with bridge := { s.bridge with timeShadow := ins s.bridge.timeShadow m (s.gptpNs / 2 ^ 32) } })
  else if off = 0x114 then
    match look s.bridge.timeShadow m with
    | some v => (some v, { s with bridge := { s.bridge with timeShadow := del s.bridge.timeShadow m } })
    | none => (some (s.gptpNs / 2 ^ 32 % 2 ^ 32), s)
  else if 0x200 ≤ off ∧ off < 0x240 then
    let d := (off - 0x200) / 8
    (if s.hasDie d then some (bits (get 0 s.bridge.intPending d) (if off % 8 = 0 then 0 else 32) 32) else none, s)
  else (none, s)

/-- The swap mode of a window (R297). -/
def State.swapOf (s : State) (w : Nat) : Nat := bits (get 0 s.bridge.windows w) 0 2

/-- The XOR that a swap mode applies to a byte address (R297). -/
def swapXor (mode : Nat) : Nat := if mode = 1 then 1 else if mode = 2 then 3 else if mode = 3 then 7 else 0

/-- The internal byte that a host byte address reaches (R297). -/
def State.swapped (s : State) (w a : Nat) : Nat := Nat.xor a (swapXor (s.swapOf w))

/-- The internal 64-byte line of a RAM window as it stands. -/
def State.lineNow (s : State) (e w line : Nat) : Bytes :=
  if w = 0 then ramRead (s.mailboxOf e) line 64 else ramRead (s.edgeRamOf (w - 2)) line 64

/-- A copy of a prefetchable window's line, taken by the read of a master where it holds none (R298). -/
def State.fetchLine (s : State) (m e w line : Nat) : Bytes × State :=
  if bit (get 0 s.bridge.windows w) 2 then
    match s.bridge.lines.find? (fun c => c.master == m && c.window == w && c.line == line) with
    | some c =>
      (c.bytes, { s with bridge := { s.bridge with
        lines := s.bridge.lines.map (fun x =>
          if x.master == m && x.window == w && x.line == line then { x with used := true } else x) } })
    | none =>
      let b := s.lineNow e w line
      (b, { s with bridge := { s.bridge with
        lines := s.bridge.lines ++ [{ master := m, window := w, line := line, bytes := b, since := s.now, used := false }] } })
  else (s.lineNow e w line, s.discardLines (fun _ => true))

/-- The word that a host word of another die's message RAM is read from across Saddle: that die, and the word's host-space offset there;
none where the word is read on this side, or cannot be reached (R291, R299). -/
def State.remoteWord (s : State) (m off : Nat) : Option (Nat × Nat) :=
  match s.endpoint, windowOf off with
  | some e, some w =>
    let d := (w - 2) / 2
    let o := windowOff off
    let held := s.bridge.lines.any (fun c => c.master == m && c.window == w && c.line == o / 64 * 64)
    if off % 4 = 0 ∧ 2 ≤ w ∧ d ≠ e ∧ s.dieUp d = true ∧ (s.nextHop e d).isSome = true ∧ held = false then
      some (d, off - o + s.swapped w o / 4 * 4)
    else none
  | _, _ => none

/-- A read of four host bytes from a multiple of 4: a status and the bytes, lowest host address first. -/
def State.hostRead (s : State) (m off : Nat) : Nat × Bytes × State :=
  match s.endpoint with
  | none => (txUNSUPPORTED, [], s)
  | some e =>
    if off % 4 ≠ 0 then (txALIGNMENT, [], s)
    else
      match windowOf off with
      | none => (txUNSUPPORTED, [], s)
      | some w =>
        let a := windowOff off
        if w = 1 then
          let word := s.swapped 1 a / 4 * 4
          let s := s.discardLines (fun _ => true)
          let r := s.regRead m word
          match r.1 with
          | none => (txUNSUPPORTED, [], r.2)
          | some v => (txOK, (List.range 4).map (fun i => BitVec.ofNat 8 (bits v (8 * (s.swapped 1 (a + i) % 4)) 8)), r.2)
        else
          let d := if w = 0 then e else (w - 2) / 2
          if !s.hasDie d then (txUNSUPPORTED, [], s)
          else if d ≠ e ∧ (!s.dieUp d || (s.nextHop e d).isNone) = true then (txTARGETLOST, [], s)
          else
            let f := s.fetchLine m e w (a / 64 * 64)
            (txOK, (List.range 4).map (fun i => (slice f.1 (f.2.swapped w (a + i) % 64) 1).headD 0), f.2)

/-! ### Writes of the host -/

/-- R405: the management cores take the requests up to the head the host wrote. -/
def State.takeRequests (s : State) : State :=
  let e := s.n O.hostEndpointDie
  let h := leNat (ramRead (s.mailboxOf e) 0 4)
  if h < 16384 ∧ h % 4 = 0 then s.setMailbox e (ramWrite (s.mailboxOf e) 4 (leBytes 4 h)) else s

/-- R301, R405: bits written as 1 are set in the management cores' doorbell; bit 0 announces requests. -/
def doorbellIn (v : Nat) (s : State) : State :=
  let s := { s with bridge := { s.bridge with doorbellIn := Nat.lor s.bridge.doorbellIn (v % 2 ^ 32) } }
  if bit v 0 then s.takeRequests else s

def execDoorbellIn (t : Nat) (v : Nat) (s : State) : Host.Outcome State Fault Refusal :=
  let s := s.begin t
  .next (if s.endpoint.isSome then doorbellIn v s else s)

/-- R301: bits written as 1 are cleared in the doorbell towards the host. -/
def doorbellOut (v : Nat) (s : State) : State :=
  { s with bridge := { s.bridge with doorbellOut := maskOf ((bitsSet s.bridge.doorbellOut 32).filter (fun i => !bit v i)) } }

def execDoorbellOut (t : Nat) (v : Nat) (s : State) : Host.Outcome State Fault Refusal :=
  let s := s.begin t
  .next (if s.endpoint.isSome then doorbellOut v s else s)

/-- R301, R442: a read of EVENT_FIFO pops one word, 0 when it is empty; a read of a non-prefetchable window discards line
copies (R298). -/
def eventFifo (s : State) : State :=
  match s.endpoint with
  | none => s
  | some _ =>
    let s := s.discardLines (fun _ => true)
    let r := s.regRead 1 0x100
    r.2.emit (.message "host" 0x10100 (leBytes 4 (r.1.getD 0)))

def execEventFifo (t : Nat) (s : State) : Host.Outcome State Fault Refusal := .next (eventFifo (s.begin t))

/-- R298, R302: a write of WINDOW_CONTROL; a reserved bit, or PREFETCHABLE on window 1, is refused and leaves the register
as it was.  A window of an absent die has no register. -/
def windowControl (w v : Nat) (s : State) : State :=
  if 17 < w ∨ (2 ≤ w ∧ s.hasDie ((w - 2) / 2) = false) then s.hostFault (0x10040 + 4 * w) txUNSUPPORTED (s.n O.hostEndpointDie)
  else if 7 < v ∨ (w = 1 ∧ bit v 2 = true) then { s with bridge := { s.bridge with writeRefused := true } }
  else { s with bridge := { s.bridge with windows := put 0 s.bridge.windows w v, writeRefused := false } }

def execWindowControl (t : Nat) (window v : Nat) (s : State) : Host.Outcome State Fault Refusal :=
  let s := s.begin t
  .next (if s.endpoint.isSome then windowControl window v s else s)

/-- R298: a line copy of 1 µs is discarded. -/
def prefetchDiscard (m w line : Nat) (s : State) : State :=
  s.discardLines (fun c => c.master == m && c.window == w && c.line == line && decide (c.since + 1000 ≤ s.now))

def execPrefetchDiscard (t : Nat) (master window line : Nat) (s : State) : Host.Outcome State Fault Refusal :=
  .next (prefetchDiscard master window line (s.begin t))

/-- A write of (part of) a directly mapped register: the covered bits `mask` of `v`.  A write of a read-only register
changes nothing. -/
def State.regWrite (s : State) (off v mask : Nat) : Option State :=
  if off = 0x008 then some (doorbellIn (Nat.land v mask) s)
  else if off = 0x00C then some (doorbellOut (Nat.land v mask) s)
  else if 0x040 ≤ off ∧ off ≤ 0x084 then
    let w := (off - 0x40) / 4
    if w < 2 ∨ s.hasDie ((w - 2) / 2) then
      some (windowControl w (Nat.land v mask + Nat.land (get 0 s.bridge.windows w) (2 ^ 32 - 1 - mask)) s)
    else none
  else if 0x200 ≤ off ∧ off < 0x240 then
    let d := (off - 0x200) / 8
    if s.hasDie d then some (clearSources d (Nat.land v mask * (if off % 8 = 0 then 1 else 2 ^ 32)) 0 s) else none
  else if off ≤ 0x018 ∨ off = 0x100 ∨ off = 0x104 ∨ off = 0x110 ∨ off = 0x114 then some s
  else none

/-- The internal bytes of a write piece inside one host word: (internal byte address, byte). -/
def State.pieceBytes (s : State) (w a : Nat) (b : Bytes) : List (Nat × Byte) := b.mapIdx (fun i x => (s.swapped w (a + i), x))

/-- One piece of a host write, inside one 32-bit word, by master `m`: 1, 2 or 4 bytes aligned to their size. -/
def State.hostWritePiece (s : State) (m off : Nat) (b : Bytes) (a : List (Nat × Nat)) : State :=
  match s.endpoint with
  | none => s
  | some e =>
    let fail := fun (s : State) (st d : Nat) =>
      let s := if m = 2 then { s with bridge := { s.bridge with spiError := true } } else s
      s.hostFault off st d
    match windowOf off with
    | none => fail s txUNSUPPORTED e
    | some w =>
      let o := windowOff off
      let bs := s.pieceBytes w o b
      let word := s.swapped w o / 4 * 4
      let low := (bs.map (·.1)).foldl min (word + 3)
      let v := bs.foldl (fun n x => n + x.2.toNat * 2 ^ (8 * (x.1 % 4))) 0
      let mask := bs.foldl (fun n x => n + 0xFF * 2 ^ (8 * (x.1 % 4))) 0
      let s := s.discardLines (fun c => c.window == w && c.line == word / 64 * 64)
      if w = 1 then
        match s.regWrite word v mask with
        | some s' => s'
        | none => fail s txUNSUPPORTED e
      else if w = 0 then s.mailboxWrite e low (leBytes b.length (v / 2 ^ (8 * (low % 4)))) a
      else
        let d := (w - 2) / 2
        if !s.hasDie d then fail s txUNSUPPORTED d
        else if d = e then
          s.setEdgeRam (w - 2) (ramWrite (s.edgeRamOf (w - 2)) low (leBytes b.length (v / 2 ^ (8 * (low % 4)))))
        else if !s.dieUp d then fail s txTARGETLOST d
        else
          s.issue { id := 0, die := e, master := m, secure := false, target := d, addr := off - o + low, size := b.length,
                    data := some (v / 2 ^ (8 * (low % 4))), since := 0 }

/-- The pieces of a host write: one of 1, 2 or 4 aligned bytes, or whole words in rising order (R296). -/
def writePieces (off : Nat) (b : Bytes) : Option (List (Nat × Bytes)) :=
  if (b.length = 1 ∨ b.length = 2 ∨ b.length = 4) ∧ off % b.length = 0 then some [(off, b)]
  else if off % 4 = 0 ∧ b.length % 4 = 0 ∧ (b.length = 8 → off % 8 = 0) then
    some ((List.range (b.length / 4)).map (fun i => (off + 4 * i, slice b (4 * i) 4)))
  else none

/-- R299, R301: a posted memory write of the PCIe host to BAR0. -/
def hostWrite (off : Nat) (b : Bytes) (a : List (Nat × Nat)) (s : State) : State :=
  match s.endpoint, writePieces off b with
  | none, _ => s
  | some e, none => s.hostFault off txALIGNMENT e
  | some _, some ps => ps.foldl (fun (s : State) p => s.hostWritePiece 1 p.1 p.2 a) s

def execHostWindowWrite (t : Nat) (off : Nat) (data : Bytes) (portA : List (Nat × Nat)) (s : State) :
    Host.Outcome State Fault Refusal :=
  .next (hostWrite off data portA (s.begin t))

/-! ### The SPI target (R300) -/

/-- Are SPI writes still in flight? -/
def State.spiBusy (s : State) : Bool :=
  (s.bridge.txns ++ s.bridge.queued).any (fun x => x.master == 2 && x.data.isSome)

/-- R300: an SPI write: whole words in rising order; what is left over is discarded and sets LAST_WRITE_ERROR. -/
def spiWrite (addr : Nat) (b : Bytes) (s : State) : State :=
  if s.endpoint.isNone then s
  else if addr % 4 ≠ 0 then ({ s with bridge := { s.bridge with spiError := true } }).hostFault addr txALIGNMENT (s.n O.hostEndpointDie)
  else
    let s := { s with bridge := { s.bridge with spiError := decide (b.length % 4 ≠ 0) } }
    (List.range (b.length / 4)).foldl (fun (s : State) i => s.hostWritePiece 2 (addr + 4 * i) (slice b (4 * i) 4) []) s

def execSpiWrite (t : Nat) (addr : Nat) (data : Bytes) (s : State) : Host.Outcome State Fault Refusal :=
  .next (spiWrite addr data (s.begin t))

/-- R300: an SPI read ends with a word that failed: the marker 0xE1 and the status. -/
def State.spiFail (s : State) (start off status : Nat) (got : Bytes) : State :=
  (s.noteReadFault off status).emit
    (.message "spi" start ((if got.isEmpty then [] else 0x5A :: got) ++ [0xE1, BitVec.ofNat 8 status]))

/-- R291, R300: an SPI read goes on at `addr` with so many words to come and the bytes got so far: words on this side are read, a word of
another die is asked for across Saddle, and with none left the answer leaves on SDO behind the marker 0x5A. -/
def State.spiGo (start : Nat) : Nat → Nat → Bytes → State → State
  | 0, _, got, s => s.emit (.message "spi" start (0x5A :: got))
  | n + 1, addr, got, s =>
    match s.remoteWord 2 addr with
    | some (d, a) =>
      let id := s.bridge.nextId
      let s := { s with bridge := { s.bridge with spiRead := some ⟨start, addr, n + 1, got, some id⟩ } }
      s.issue { id := id, die := s.n O.hostEndpointDie, master := 2, secure := false, target := d, addr := a, size := 4, data := none, since := 0 }
    | none =>
      let r := s.hostRead 2 addr
      if r.1 = txOK then State.spiGo start n (addr + 4) (got ++ r.2.1) r.2.2 else r.2.2.spiFail start addr r.1 got

/-- May the SPI read of a window start: it waits for every earlier write to that window (R299). -/
def State.spiHeld (s : State) (addr : Nat) : Bool :=
  (s.bridge.txns ++ s.bridge.queued).any (fun x => x.master == 2 && x.data.isSome && windowOf x.addr == windowOf addr)

/-- R299, R300: an SPI read; it returns only after every earlier SPI write to the same window has completed. -/
def spiRead (addr words : Nat) (s : State) : State :=
  if s.endpoint.isNone then s
  else if s.spiHeld addr then { s with bridge := { s.bridge with spiRead := some ⟨addr, addr, words, [], none⟩ } }
  else State.spiGo addr words addr [] { s with bridge := { s.bridge with spiRead := none } }

def execSpiRead (t : Nat) (addr words : Nat) (s : State) : Host.Outcome State Fault Refusal :=
  .next (spiRead addr words (s.begin t))

/-- R300: the SPI status byte. -/
def spiStatus (s : State) : State :=
  if s.endpoint.isNone then s
  else s.emit (.message "spi" 0 [BitVec.ofNat 8 (b2n s.spiBusy + 2 * b2n s.bridge.spiError)])

def execSpiStatus (t : Nat) (s : State) : Host.Outcome State Fault Refusal := .next (spiStatus (s.begin t))

/-- A waiting SPI read starts once no earlier write to its window is in flight. -/
def State.retrySpi (s : State) : State :=
  match s.bridge.spiRead with
  | none => s
  | some j =>
    if j.txn.isSome || s.spiHeld j.addr then s
    else State.spiGo j.start j.left j.addr j.got { s with bridge := { s.bridge with spiRead := none } }

/-- A word that the SPI target asked for across Saddle has come, or failed: the read goes on, or ends (R300).  A word of a read that the
host has since given up is dropped. -/
def State.spiWord (s : State) (x : Txn) (status value : Nat) : State :=
  match s.bridge.spiRead with
  | none => s
  | some j =>
    if j.txn ≠ some x.id then s
    else
      let s := { s with bridge := { s.bridge with spiRead := none } }
      if status ≠ txOK then s.spiFail j.start j.addr status j.got
      else
        let w := (windowOf j.addr).getD 2
        let o := windowOff j.addr
        let b := (List.range 4).map (fun i => BitVec.ofNat 8 (bits value (8 * (s.swapped w (o + i) % 4)) 8))
        State.spiGo j.start (j.left - 1) (j.addr + 4) (j.got ++ b) (s.fetchLine 2 x.die w (o / 64 * 64)).2

/-- R291, R293: a transaction has ended: what its initiator makes of the status. -/
def State.endTxn (s : State) (x : Txn) (status value : Nat) : State :=
  if x.master = 1 ∨ x.master = 2 then (if x.data.isNone then s.spiWord x status value else s.hostEnd x status)
  else s.emit (.completion x.die x.id status value)

/-! ### Requests and completions at the dies -/

/-- The port of a die on which requests come from the port's peer. -/
def State.portPeer (s : State) (d p : Nat) : Option Nat := (s.peer d p).map (·.1)

/-- A request that reached its target on some port: served, and its completion sent (R291). -/
def State.serveHere (s : State) (d : Nat) (x : Txn) (a : List (Nat × Nat)) : State :=
  let r := s.serveTxn d x a
  r.2.2.sendCompletion x r.1 r.2.1

/-- R292: a die forwards at most three requests that came in on one link; more wait for a credit. -/
def State.forwardTxn (s : State) (d p : Nat) (x : Txn) : State :=
  let k := 4 * d + p
  if (get [] s.bridge.forwarding k).length < 3 then
    ({ s with bridge := { s.bridge with forwarding := upd [] s.bridge.forwarding k (· ++ [x]) } }).sendRequest d x
  else { s with bridge := { s.bridge with waiting := upd [] s.bridge.waiting k (· ++ [x]) } }

/-- The initiator's tracking entry of a master that issues outside the host interfaces: known from its first hop on. -/
def State.trackTxn (s : State) (d p : Nat) (x : Txn) : State :=
  if s.portPeer d p = some x.die ∧ x.master ≠ 1 ∧ x.master ≠ 2 ∧ s.now < x.since + 20000 ∧
      s.bridge.txns.all (fun y => y.id != x.id || y.die != x.die) ∧ s.mayIssue x.die x.master then
    { s with bridge := { s.bridge with txns := s.bridge.txns ++ [x] } }
  else s

/-- R291, R292: a request reaches a die on a port in service: served at its target, forwarded elsewhere. -/
def saddleRequest (d p : Nat) (x : Txn) (a : List (Nat × Nat)) (s : State) : State :=
  if s.dieUp d && s.saddle d p == linkSERVICE && !s.bridge.stopped.contains (4 * d + p) then
    let s := s.trackTxn d p x
    if !s.hasDie x.target then s.sendCompletion x txUNSUPPORTED 0
    else if x.target = d then s.serveHere d x a
    else s.forwardTxn d p x
  else s

def execSaddleRequestReceive (t : Nat) (die port : Nat) (x : Txn) (portA : List (Nat × Nat)) (s : State) :
    Host.Outcome State Fault Refusal :=
  .next (saddleRequest die port x portA (s.begin t))

/-- The forwarding credits a completed transaction held are free; the oldest waiting request of each link takes one. -/
def State.freeCredits (s : State) (d id : Nat) : State :=
  (List.range 32).foldl (fun (s : State) k =>
    let l := get [] s.bridge.forwarding k
    if l.any (fun x => x.id == id && x.die == d) then
      let s := { s with bridge := { s.bridge with forwarding := put [] s.bridge.forwarding k (l.filter (fun x => !(x.id == id && x.die == d))) } }
      match get [] s.bridge.waiting k with
      | [] => s
      | x :: rest =>
        ({ s with bridge := { s.bridge with waiting := put [] s.bridge.waiting k rest } }).forwardTxn (k / 4) (k % 4) x
    else s) s

/-- R293: when a fault plan activates, every transaction towards a die that is gone, or that no path reaches any more, ends with
TARGET_LOST. -/
def State.endLostTxns (s : State) : State :=
  let gone := fun (x : Txn) => x.die != x.target && (!s.dieUp x.target || (s.nextHop x.die x.target).isNone)
  let lost := (s.bridge.txns ++ s.bridge.queued).filter gone
  let s := { s with bridge := { s.bridge with txns := s.bridge.txns.filter (fun x => !gone x), queued := s.bridge.queued.filter (fun x => !gone x) } }
  let s := lost.foldl (fun (s : State) x => (s.freeCredits x.die x.id).endTxn x txTARGETLOST 0) s
  ((lost.map (·.master)).foldl State.issueNext s).retrySpi

/-- R291, R293: a completion reaches its initiator; one that comes after its transaction has ended is counted as late. -/
def saddleCompletion (d id status value : Nat) (s : State) : State :=
  if !s.dieUp d then s
  else
    let s := s.freeCredits d id
    match s.bridge.txns.find? (fun x => x.id == id && x.die == d) with
    | none => s.inc32 (bySub O.lateCompletions d)
    | some x =>
      let s := { s with bridge := { s.bridge with txns := s.bridge.txns.filter (fun y => !(y.id == id && y.die == d)) } }
      ((s.endTxn x status value).issueNext x.master).retrySpi

def execSaddleCompletionReceive (t : Nat) (die id status value : Nat) (s : State) : Host.Outcome State Fault Refusal :=
  .next (saddleCompletion die id status value (s.begin t))

/-- R293: 20 µs without a completion: the transaction ends with BRIDGE_FAULT, counted, logged, source 34 raised. -/
def bridgeFault (id : Nat) (s : State) : State :=
  match s.bridge.txns.find? (fun x => x.id == id && decide (x.since + 20000 ≤ s.now)) with
  | none => s
  | some x =>
    let s := { s with bridge := { s.bridge with txns := s.bridge.txns.filter (fun y => !(y.id == x.id && y.die == x.die)) } }
    let s := s.inc32 (bySub O.bridgeFaults x.die)
    let s := s.logEv x.die Ev.bridgeFault 0xFFFF [(1, x.master), (1, x.target), (4, x.addr)]
    let s := s.raiseInt x.die 34
    ((s.endTxn x txBRIDGEFAULT 0).issueNext x.master).retrySpi

def execBridgeFault (t : Nat) (id : Nat) (s : State) : Host.Outcome State Fault Refusal :=
  .next (bridgeFault id (s.begin t))

/-! ### The endpoint die -/

/-- R299, R405: die 1 takes the endpoint: its registers are fresh, the mailbox rings restart empty and every mailbox
session has ended. -/
def endpointTakeover (s : State) : State :=
  if s.n O.hostEndpointDie = 0xFF ∧ s.dieUp 1 = true then
    let s := s.setN O.hostEndpointDie 1
    let s := { s with bridge := { s.bridge with
      doorbellIn := 0, doorbellOut := 0, bridgeFaults := 0, lastFaultAddr := 0, lastFaultInfo := 0, windows := [], fifo := [],
      lines := [], timeShadow := [], msix := false, spiError := false, spiRead := none, writeRefused := false, queued := [],
      txns := s.bridge.txns.filter (fun x => x.master != 1 && x.master != 2) } }
    let s := s.setMailbox 1 (ramWrite (s.mailboxOf 1) 0 (fill 16 0))
    { s with access := { s.access with
        sessions := s.access.sessions.filter (fun e => e.2.path != Path.mailbox),
        assocs := s.access.assocs.filter (fun a => a.path != Path.mailbox) } }
  else s

def execEndpointTakeover (t : Nat) (s : State) : Host.Outcome State Fault Refusal := .next (endpointTakeover (s.begin t))

/-- R303: the counters of Saddle and the bridges become 0. -/
def clearBridgeCounters (_ : Session) (s : State) : Status × State :=
  (.ok, s.clearAll ((List.range 32).flatMap (fun i =>
    [bySub O.flitReplays i, bySub O.missedHeartbeats i] ++ (if i < 8 then [bySub O.bridgeFaults i, bySub O.lateCompletions i] else []) ++
    (if i < 18 then [bySub O.speculativeReadsDiscarded i] else []))))

def execClearBridgeCounters (t : Nat) (who : Who) (s : State) : Host.Outcome State Fault Refusal :=
  cmdRow t who 0x2E47 2 1 clearBridgeCounters s

end Sys2Proof.Machine
end

