-- ==== Sys2Proof/Machine/Time.lean ====
section
/-! DEFINITION. PTP messages and timers, the time-transfer word, pulse outputs and capture inputs (chapter 9, R206 to
R226). -/
namespace Sys2Proof.Machine

open Sys2Proof

/-- An interval of 2^log seconds, in ns (R222). -/
def intervalNs (log : Int) : Nat := if 0 ≤ log then 1000000000 * 2 ^ log.toNat else 1000000000 / 2 ^ (-log).toNat

/-- A message for instance `i` on one of its ports, of one of the listed types; PTP management messages are dropped and
counted as discarded by the instance (R209).  Until dictionary service resumes after the loss of the lead, the servos rest (R208). -/
def State.onPort (s : State) (n : Nat) (m : Bytes) (types : List Nat) (f : Nat → State) : State :=
  match s.ptpInst m with
  | none => s
  | some i =>
    if !s.isPort i n || !s.pkg.serving then s
    else if ptpType m = 0xD then s.updInst i (fun x => { x with discarded := x.discarded + 1 })
    else if types.contains (ptpType m) then f i
    else s

/-- A message of instance `i` goes to a lane in traffic class 2 (R210); none is sent during a takeover (R208). -/
def State.sendPtp (s : State) (i n : Nat) (m : Bytes) (ts : Nat) : State :=
  if s.pkg.serving && s.isPort i n then s.enqueue n (ownFrame (s.ptpFrameOf i m) 2 ts s.now) else s

/-! ### Announce and the BMCA (R210 to R212) -/

def announceReceive (n : Nat) (m : Bytes) (s : State) : State :=
  s.onPort n m [0xB] (fun i =>
    if slice m 0x14 8 = s.clockId ∨ (s.n (byIdx O.profile i) = 0 ∧ s.asCapable n = false) then s
    else
      (s.updInst i (fun x => { x with announces := ins x.announces n m, announceTime := ins x.announceTime n s.now })).choose i)

def execPtpAnnounceReceive (t lane : Nat) (msg : Bytes) (s : State) : Host.Outcome State Fault Refusal :=
  .next (announceReceive lane msg (s.begin t))

/-! ### Sync, the servo and relaying (R211, R215, R216) -/

/-- The delay of the slave port's link or path, ns. -/
def State.slaveDelay (s : State) (i n : Nat) : Nat :=
  if s.n (byIdx O.profile i) ≠ 0 then ((get {} (s.inst i).delay n).path).getD 0
  else
    let d := s.n (bySub O.meanLinkDelay n)
    if d = 0xFFFFFFFF then 0 else d

/-- R211: one offset measured on the slave port: lock after 16 good ones in a row, a step where it is allowed, a slew
otherwise.  The servo's rate is a free value within 200 ppm.  DESIGN CHOICE (log 55): the tick phase error of R50 is measured here, as
minus the offset of instance 0 at each Sync while the tick unit is LOCKED; the spec does not say how it is measured. -/
def State.servo (s : State) (i : Nat) (off : Int) : State :=
  let s := s.setO (byIdx O.offsetFromMaster i) (clampI (-2147483648) 2147483647 off)
  let x := s.inst i
  let ok := decide (off.natAbs ≤ s.n (byIdx O.lockThreshold i))
  let good := if ok then x.good + 1 else 0
  let s := s.updInst i (fun x => { x with good := good })
  let lim := s.n (byIdx O.stepThreshold i)
  let step := if i = 0 then !x.everLocked && !ok else decide (lim ≠ 0) && decide (lim < off.natAbs)
  if step then s.stepClock i ((s.instNow i : Int) - off).toNat
  else
    let s := if s.instFlag i isHOLDOVER then s else (s.setRate i (((s.free % 400001 : Nat) : Int) - 200000)).drawn
    let s := if i = 0 ∧ s.tickState = tickLOCKED then s.setPhaseError (-off) else s
    if 16 ≤ good ∧ s.instFlag i isLOCKED = false then s.lockInst i true else s

/-- R216: a gPTP instance relays a Sync to its master ports: the origin and the corrections it came with go on, and the
residence is added as it leaves. -/
def State.relaySync (s : State) (i n : Nat) (origin : Bytes) (corr : Int) (log : Int) (at_ : Nat) : State :=
  if s.n (byIdx O.profile i) ≠ 0 ∨ s.pkg.serving = false then s
  else
    ((List.range s.laneCount).filter (fun k => s.isPort i k && s.portSt i k == 1)).foldl (fun (s : State) k =>
      let q := s.nextSeq i k 0
      let tlv := if s.n (byIdx O.oneStep i) = 1 then s.followUpTlv i else []
      let m := s.ptpHeader i 0 (10 + tlv.length) (ptpFlags false) q.1 log k corr ++ origin ++ tlv
      q.2.enqueue k { ownFrame (s.ptpFrameOf i m) 2 at_ s.now with ingress := epLane n }) s

/-- A Sync complete on the slave port: origin timestamp, correction, and the local time it arrived. -/
def State.syncDone (s : State) (i n : Nat) (origin : Bytes) (corr : Int) (log : Int) (at_ : Nat) : State :=
  let t1 : Int := ((fldBE origin 0 6 * 1000000000 + fldBE origin 6 4 : Nat) : Int) + corr / 65536
  let t2 := s.instAt i at_
  let off : Int := (t2 : Int) - t1 - s.slaveDelay i n
  let s := s.updInst i (fun x => { x with syncTime := ins x.syncTime n s.now, syncs := some (t1.toNat, t2) })
  (s.relaySync i n origin corr log at_).servo i off

/-- R211, R215: a Sync: a two-step one waits for its Follow_Up. -/
def syncReceive (n : Nat) (m : Bytes) (s : State) : State :=
  s.onPort n m [0] (fun i =>
    if s.slavePort i ≠ n then s
    else
      let at_ := s.rxStamp n s.now
      if bit (fldBE m 6 2) 9 then
        s.updInst i (fun x => { x with twoStep := ins x.twoStep n (fldBE m 0x1E 2, at_, unsignedOf 64 (ptpCorr m)) })
      else s.syncDone i n (slice m 0x22 10) (ptpCorr m) (signed 8 (fld m 0x21 1)) at_)

def execPtpSyncReceive (t lane : Nat) (msg : Bytes) (s : State) : Host.Outcome State Fault Refusal :=
  .next (syncReceive lane msg (s.begin t))

/-! ### Delay measurement (R209, R215) -/

/-- The fields of the exchange a response belongs to: its sequence number and the AX8's own port. -/
def State.ourExchange (s : State) (n : Nat) (d : DelaySt) (m : Bytes) (state : Nat) : Bool :=
  d.waiting == state && d.seq == fldBE m 0x1E 2 && slice m 0x2C 8 == s.clockId && fldBE m 0x34 2 == 1 + n

/-- A link delay measured on a lane: the object, AS_CAPABLE and the ports follow (R224). -/
def State.setLinkDelay (s : State) (n : Nat) (d : Int) : State :=
  let s := s.setN (bySub O.meanLinkDelay n) (satN (2 ^ 32 - 2) d.toNat)
  (List.range 4).foldl (fun (s : State) i => if s.instOn i then s.setPorts i else s) s

/-- The instance whose exchange a peer-delay message belongs to: gPTP shares one service per lane (R209). -/
def State.peerInst (s : State) (n : Nat) (m : Bytes) : Option Nat :=
  (List.range 4).find? (fun i =>
    s.pkg.serving && s.isPort i n &&
    (if fld m 0 1 / 16 = 1 then s.n (byIdx O.profile i) == 0
     else s.n (byIdx O.profile i) == 2 && s.n (byIdx O.domainNumber i) == fld m 4 1))

/-- A peer-delay exchange is complete: mean link delay and neighbour rate ratio of the lane's common service (gPTP), or the path
delay of a 1588 instance's own exchange (R209; DESIGN CHOICE, log 55: the lane's objects show the common service alone). -/
def State.peerDone (s : State) (i n : Nat) (t2 t3 t4 : Nat) (corr : Int) : State :=
  let d := get {} (s.inst i).delay n
  let delay : Int := (((t4 : Int) - d.t1) - ((t3 : Int) - t2) - corr / 65536) / 2
  let dt : Int := (t4 : Int) - d.prev4
  let s := if d.prev4 ≠ 0 ∧ 0 < dt ∧ t3 ≠ 0 ∧ s.n (byIdx O.profile i) = 0 then
      s.setO (bySub O.neighbourRateRatio n) (clampI (-2147483648) 2147483647 ((((t3 : Int) - d.prev3) - dt) * 1000000000 / dt))
    else s
  let s := s.updInst i (fun x => { x with delay := ins x.delay n { d with t2 := t2, t3 := t3, t4 := t4, waiting := 0, prev3 := t3, prev4 := t4, path := some delay.toNat } })
  if s.n (byIdx O.profile i) = 0 then s.setLinkDelay n delay else s

/-- R215: Follow_Up or Pdelay_Resp_Follow_Up. -/
def followUpReceive (n : Nat) (m : Bytes) (s : State) : State :=
  if ptpType m = 0xA then
    match s.peerInst n m with
    | none => s
    | some i =>
      let d := get {} (s.inst i).delay n
      if s.ourExchange n d m 2 then s.peerDone i n d.t2 (ptpNs m 0x22) d.t4 (ptpCorr m) else s
  else
    s.onPort n m [8] (fun i =>
      match look (s.inst i).twoStep n with
      | none => s
      | some (q, at_, c) =>
        if s.slavePort i = n ∧ q = fldBE m 0x1E 2 then
          (s.updInst i (fun x => { x with twoStep := del x.twoStep n })).syncDone i n (slice m 0x22 10)
            (signed 64 c + ptpCorr m) (signed 8 (fld m 0x21 1)) at_
        else s)

def execPtpFollowUpReceive (t lane : Nat) (msg : Bytes) (s : State) : Host.Outcome State Fault Refusal :=
  .next (followUpReceive lane msg (s.begin t))

/-- R209: a Delay_Req on a master port of a delay request-response instance is answered. -/
def delayReqReceive (n : Nat) (m : Bytes) (s : State) : State :=
  s.onPort n m [1] (fun i =>
    if s.n (byIdx O.profile i) = 1 ∧ s.portSt i n = 1 then
      let body := ptpTime (s.instAt i (s.rxStamp n s.now)) ++ slice m 0x14 10
      let r := s.ptpHeader i 9 body.length (ptpFlags false) (fldBE m 0x1E 2) (s.o (byIdx O.logDelayInterval i)) n (ptpCorr m) ++ body
      s.sendPtp i n r s.now
    else s)

def execPtpDelayReqReceive (t lane : Nat) (msg : Bytes) (s : State) : Host.Outcome State Fault Refusal :=
  .next (delayReqReceive lane msg (s.begin t))

/-- R209: a Delay_Resp completes the path delay of the slave port. -/
def delayRespReceive (n : Nat) (m : Bytes) (s : State) : State :=
  s.onPort n m [9] (fun i =>
    let d := get {} (s.inst i).delay n
    match (s.inst i).syncs with
    | none => s
    | some (t1, t2) =>
      if s.slavePort i = n ∧ s.ourExchange n d m 1 = true then
        let p : Int := (((t2 : Int) - d.t3) + ((ptpNs m 0x22 : Nat) - t1) - ptpCorr m / 65536) / 2
        s.updInst i (fun x => { x with delay := ins x.delay n { d with t4 := ptpNs m 0x22, waiting := 0, path := some p.toNat } })
      else s)

def execPtpDelayRespReceive (t lane : Nat) (msg : Bytes) (s : State) : Host.Outcome State Fault Refusal :=
  .next (delayRespReceive lane msg (s.begin t))

/-- R215: a Pdelay_Req is answered; the turnaround or the Follow_Up is written as the answer leaves. -/
def pdelayReqReceive (n : Nat) (m : Bytes) (s : State) : State :=
  if ptpType m ≠ 2 then s
  else
    match s.peerInst n m with
    | none => s
    | some i =>
      let at_ := s.rxStamp n s.now
      let one := s.n (byIdx O.oneStep i) = 1 ∧ s.n (byIdx O.profile i) = 2
      let body := (if one then fill 10 0 else ptpTime at_) ++ slice m 0x14 10
      let r := s.ptpHeader i 3 body.length (ptpFlags (!one)) (fldBE m 0x1E 2) 127 n (if one then ptpCorr m else 0) ++ body
      s.sendPtp i n r at_

def execPtpPdelayReqReceive (t lane : Nat) (msg : Bytes) (s : State) : Host.Outcome State Fault Refusal :=
  .next (pdelayReqReceive lane msg (s.begin t))

/-- R209: a Pdelay_Resp: a two-step one waits for its Follow_Up. -/
def pdelayRespReceive (n : Nat) (m : Bytes) (s : State) : State :=
  if ptpType m ≠ 3 then s
  else
    match s.peerInst n m with
    | none => s
    | some i =>
      let d := get {} (s.inst i).delay n
      let at_ := s.rxStamp n s.now
      if !s.ourExchange n d m 1 then s
      else if bit (fldBE m 6 2) 9 then
        s.updInst i (fun x => { x with delay := ins x.delay n { d with t2 := ptpNs m 0x22 + (ptpCorr m / 65536).toNat, t4 := at_, waiting := 2 } })
      else s.peerDone i n 0 0 at_ (ptpCorr m)

def execPtpPdelayRespReceive (t lane : Nat) (msg : Bytes) (s : State) : Host.Outcome State Fault Refusal :=
  .next (pdelayRespReceive lane msg (s.begin t))

/-- R209: a gPTP interval-request Signaling message: 126 asks for the configured interval, −128 changes nothing. -/
def signalingReceive (n : Nat) (m : Bytes) (s : State) : State :=
  s.onPort n m [0xC] (fun i =>
    if s.n (byIdx O.profile i) = 0 ∧ fldBE m 44 2 = 3 ∧ fldBE m 48 3 = 0x0080C2 ∧ fldBE m 51 3 = 2 then
      let cfg := (s.o (byIdx O.logDelayInterval i), s.o (byIdx O.logSyncInterval i), s.o (byIdx O.logAnnounceInterval i))
      let old := (look (s.inst i).intervals n).getD cfg
      let pick := fun (off : Nat) (was dflt : Int) =>
        let v := signed 8 (fld m off 1)
        if v = -128 then was else if v = 126 then dflt else v
      let new := (pick 54 old.1 cfg.1, pick 55 old.2.1 cfg.2.1, pick 56 old.2.2 cfg.2.2)
      s.updInst i (fun x => { x with intervals := ins x.intervals n new })
    else s)

def execPtpSignalingReceive (t lane : Nat) (msg : Bytes) (s : State) : Host.Outcome State Fault Refusal :=
  .next (signalingReceive lane msg (s.begin t))

/-! ### Timers (R211, R222) -/

/-- The log intervals in force on a lane: link delay, sync, announce; 127 means stopped. -/
def State.logs_ (s : State) (i n : Nat) : Int × Int × Int :=
  (look (s.inst i).intervals n).getD
    (s.o (byIdx O.logDelayInterval i), s.o (byIdx O.logSyncInterval i), s.o (byIdx O.logAnnounceInterval i))

/-- R215, R222: the sync interval of a master port: a grandmaster, and any 1588 clock, sends a Sync of its own. -/
def syncTimer (i n : Nat) (s : State) : State :=
  let log := (s.logs_ i n).2.1
  if s.isPort i n && s.portSt i n == 1 && log != 127 && (s.n (byIdx O.profile i) != 0 || s.instFlag i isSELFGM) then
    let q := s.nextSeq i n 0
    let tlv := if s.n (byIdx O.profile i) = 0 ∧ s.n (byIdx O.oneStep i) = 1 then s.followUpTlv i else []
    let two := s.n (byIdx O.oneStep i) != 1
    let m := s.ptpHeader i 0 (10 + tlv.length) (ptpFlags two) q.1 log n 0 ++ fill 10 0 ++ tlv
    q.2.sendPtp i n m s.now
  else s

def execPtpSyncTimer (t inst lane : Nat) (s : State) : Host.Outcome State Fault Refusal := .next (syncTimer inst lane (s.begin t))

/-- The grandmaster data of an Announce that leaves: those of the slave port's grandmaster, or the AX8's own (R212). -/
def State.announceBody (s : State) (i : Nat) : Bytes :=
  match look (s.inst i).announces (s.slavePort i) with
  | some m => fill 10 0 ++ slice m 0x2C 17 ++ beBytes 2 (fldBE m 0x3D 2 + 1) ++ slice m 0x3F 1
  | none =>
    fill 13 0 ++ beBytes 1 (s.n (byIdx O.priority1 i)) ++ beBytes 1 (s.ownClass i) ++ [0xFE] ++ beBytes 2 0x436A ++
      beBytes 1 (s.n (byIdx O.priority2 i)) ++ s.clockId ++ fill 2 0 ++ [if s.instFlag i isREFLOCKED then 0x20 else 0xA0]

/-- R222: the announce interval of a master port. -/
def announceTimer (i n : Nat) (s : State) : State :=
  let log := (s.logs_ i n).2.2
  if s.isPort i n && s.portSt i n == 1 && log != 127 then
    let q := s.nextSeq i n 0xB
    let body := s.announceBody i
    q.2.sendPtp i n (s.ptpHeader i 0xB body.length (ptpFlags false) q.1 log n 0 ++ body) s.now
  else s

def execPtpAnnounceTimer (t inst lane : Nat) (s : State) : Host.Outcome State Fault Refusal :=
  .next (announceTimer inst lane (s.begin t))

/-- The gPTP instance that runs a lane's common link delay service: the lowest whose port it is (R209). -/
def State.linkService (s : State) (n : Nat) : Option Nat :=
  (List.range 4).find? (fun i => s.isPort i n && s.n (byIdx O.profile i) == 0)

/-- R209, R222: the delay interval: Pdelay_Req on every port of a peer-delay profile, Delay_Req on the slave port. -/
def delayTimer (i n : Nat) (s : State) : State :=
  let log := (s.logs_ i n).1
  let e2e := s.n (byIdx O.profile i) == 1
  if s.isPort i n && log != 127 && (!e2e || s.slavePort i == n) &&
      (s.n (byIdx O.profile i) != 0 || s.linkService n == some i) then
    let ty := if e2e then 1 else 2
    let q := s.nextSeq i n ty
    let s := q.2.updInst i (fun x => { x with delay := upd {} x.delay n (fun d => { d with seq := q.1, waiting := 1 }) })
    let body := fill (if e2e then 10 else 20) 0
    s.sendPtp i n (s.ptpHeader i ty body.length (ptpFlags false) q.1 (if e2e then 127 else log) n 0 ++ body) s.now
  else s

def execPtpDelayTimer (t inst lane : Nat) (s : State) : Host.Outcome State Fault Refusal := .next (delayTimer inst lane (s.begin t))

/-- R211: the Announce or Sync receipt timeout of a port: its Announce no longer counts, and the choice is made again. -/
def receiptTimeout (i n : Nat) (s : State) : State :=
  let r := s.n (byIdx O.receiptTimeouts i)
  let x := s.inst i
  let old := fun (last : Option Nat) (k : Nat) (log : Int) => decide (last.getD 0 + k * intervalNs log ≤ s.now)
  let ann := old (look x.announceTime n) (bits r 8 8) (s.o (byIdx O.logAnnounceInterval i))
  let syn := s.slavePort i == n && old (look x.syncTime n) (bits r 0 8) (s.o (byIdx O.logSyncInterval i))
  if s.instOn i && s.pkg.serving && (ann || syn) then
    (s.updInst i (fun x => { x with announces := del x.announces n, good := 0 })).choose i
  else s

def execReceiptTimeout (t inst lane : Nat) (s : State) : Host.Outcome State Fault Refusal :=
  .next (receiptTimeout inst lane (s.begin t))

/-! ### Alignment of the dies (R207) -/

/-- R207: a die reads a time-transfer word; an error beyond 2 ns in 16 words in a row is logged and counted. -/
def timeTransfer (d : Nat) (err : Int) (s : State) : State :=
  if !s.dieUp d || d == s.pkg.lead then s
  else
    let run := if 2 < err.natAbs then get 0 s.time.misaligned d + 1 else 0
    let s := { s with time := { s.time with misaligned := put 0 s.time.misaligned d run } }
    if run = 16 then
      (s.inc32 (bySub O.timeAlignmentFaults d)).logEv d Ev.timeAlignFault 0xFFFF [(1, d), (4, unsignedOf 32 err)]
    else s

def execTimeTransferWord (t die : Nat) (err : Int) (s : State) : Host.Outcome State Fault Refusal :=
  .next (timeTransfer die err (s.begin t))

/-! ### Grandmaster time set (R212) -/

/-- R212: only while SELF_GM: the clock steps; instance 0 takes the step as a re-alignment (R44). -/
def setGrandmasterTime (i v : Nat) (x : Session) (s : State) : Status × State :=
  if !s.instFlag i isSELFGM then (.deviceState, s)
  else
    let s := (s.stepClock i v).setInst i isUNTRACEABLE false
    if i = 0 then requestRealign x s else (.ok, s)

def execGrandmasterTimeSet (t : Nat) (who : Who) (inst v : Nat) (s : State) : Host.Outcome State Fault Refusal :=
  cmdRow t who (0x2110 + inst) 0x1A v (setGrandmasterTime inst v) s

/-! ### Pulse outputs (R218, R219) -/

/-- R218: ranges and relations of a pulse program. -/
def pulseOk (p : Bytes) : Bool :=
  (pulsePeriod p == 0 || (decide (16 ≤ pulsePeriod p) && decide (pulsePeriod p ≤ 4294967296))) && decide (8 ≤ pulseWidth p) &&
  (pulsePeriod p == 0 || decide (pulseWidth p + 8 ≤ pulsePeriod p)) && decide (pulseClock p < 4) &&
  decide (fld p 0x15 1 < 8) && fld p 0x16 2 == 0

/-- R219: a write of a program: at once where nothing runs, or where a once program has not fired; otherwise at the first
active edge at least 1 µs later; a cleared ENABLE acts at the end of the pulse in progress. -/
def writePulse (q : Nat) (p : Bytes) (_ : Session) (s : State) : Status × State :=
  let s := s.setBlob (pulseKey O.pulseProgram q) p
  let x := s.pulse q
  let idle := !pulseEnabled x.prog || pulsePeriod x.prog == 0 || !pulseEnabled p || !s.pulseMayRun x.prog
  (.ok, if x.ends.isNone && idle then s.installPulse q p else s.setPulse q { x with next := some (p, s.now) })

def execPulseProgramWrite (t : Nat) (who : Who) (die output : Nat) (rec : Bytes) (s : State) : Host.Outcome State Fault Refusal :=
  domRow t who (0x2130 + die) (1 + output) rec 24 24 (fun _ => pulseOk rec) (writePulse (4 * die + output) rec) s

/-- The level of an output: active or not, under ACTIVE_LOW. -/
def State.drivePulse (s : State) (q : Nat) (p : Bytes) (active : Bool) : State :=
  s.emit (.message "tout" q [if active != bit (fld p 0x15 1) 1 then 1 else 0])

/-- R218, R219: an edge of the grid, or the end of a pulse. -/
def pulseEdge (q : Nat) (s : State) : State :=
  let x := s.pulse q
  let g := s.instNow (pulseClock x.prog)
  if !s.dieUp (q / 4) then s
  else
    match x.ends with
    | some e =>
      if g < e then s
      else
        let s := s.drivePulse q x.prog false
        match x.next with
        | some (p, _) =>
          if !pulseEnabled p ∨ pulsePeriod x.prog = 0 then (s.setPulse q { x with ends := none }).installPulse q p
          else (s.setPulse q { x with ends := none })
        | none => (s.setPulse q { x with ends := none })
    | none =>
      let due := pulseEnabled x.prog && s.pulseMayRun x.prog && decide (edgeTime x.prog x.k ≤ g) &&
        (pulsePeriod x.prog != 0 || x.k == 0)
      if !due then s
      else
        match x.next with
        | some (p, w) =>
          if w + 1000 ≤ s.now then s.installPulse q p
          else
            let s := s.drivePulse q x.prog true
            s.setPulse q { x with ends := some (edgeTime x.prog x.k + pulseWidth x.prog), k := max (x.k + 1) (edgeFrom x.prog g), fired := true }
        | none =>
          let s := s.drivePulse q x.prog true
          s.setPulse q { x with ends := some (edgeTime x.prog x.k + pulseWidth x.prog), k := max (x.k + 1) (edgeFrom x.prog g), fired := true }

def execPulseEdge (t die output : Nat) (s : State) : Host.Outcome State Fault Refusal :=
  .next (pulseEdge (4 * die + output % 4) (s.begin t))

/-! ### Capture inputs (R220, R221) -/

/-- R220: an enabled edge is numbered and recorded, or lost when 16 records wait. -/
def State.recordEdge (s : State) (q : Nat) (falling : Bool) : State :=
  let c := s.n (captureKey O.captureControl q)
  if !bit c (b2n falling) then s
  else
    let x := s.capture q
    let i := bits c 2 2
    let r := leBytes 8 (s.instNow i) ++ leBytes 1 (b2n falling) ++ leBytes 1 i ++ leBytes 1 (s.n (byIdx O.clockEpoch i)) ++
      leBytes 1 (b2n (s.instFlag i isHOLDOVER) + 2 * b2n (!s.instFlag i isLOCKED)) ++ leBytes 4 x.seq
    let seq := (x.seq + 1) % 2 ^ 32
    if 16 ≤ x.records.length then (s.inc32 (captureKey O.capturesLost q)).setCapture q { x with seq := seq }
    else s.setCapture q { records := x.records ++ [r], seq := seq }

/-- R221: a rising edge on the reference of a self-grandmaster instance: the servo steers towards the whole second. -/
def State.referenceEdge (s : State) (q i : Nat) : State :=
  let r := s.n (byIdx O.timeReference i)
  if s.refActs i && 2 * bits r 4 3 + bits r 0 1 == q then
    let m := s.instNow i % 1000000000
    let off : Int := if 500000000 ≤ m then (m : Int) - 1000000000 else m
    let ok := decide (off.natAbs ≤ s.n (byIdx O.lockThreshold i))
    let good := if ok then (s.inst i).refGood + 1 else 0
    let s := s.setO (byIdx O.offsetFromMaster i) off
    let s := (s.setRate i (((s.free % 400001 : Nat) : Int) - 200000)).drawn
    let s := s.updInst i (fun x => { x with refGood := good, refLast := s.now })
    if 16 ≤ good then ((s.setInst i isREFLOCKED true).setInst i isREFLOST false).setInst i isUNTRACEABLE false else s
  else s

def captureEdge (q : Nat) (falling : Bool) (s : State) : State :=
  if !s.dieUp (q / 2) then s
  else
    let s := s.recordEdge q falling
    if falling then s else (List.range 4).foldl (fun (s : State) i => s.referenceEdge q i) s

def execCaptureEdge (t die input : Nat) (falling : Bool) (s : State) : Host.Outcome State Fault Refusal :=
  .next (captureEdge (2 * die + input % 2) falling (s.begin t))

/-- R221: 2 s without a reference edge. -/
def refLost (i : Nat) (s : State) : State :=
  if s.refActs i && decide ((s.inst i).refLast + 2000000000 ≤ s.now) then
    ((s.setInst i isREFLOCKED false).setInst i isREFLOST true).updInst i (fun x => { x with refGood := 0 })
  else s

def execRefLost (t inst : Nat) (s : State) : Host.Outcome State Fault Refusal := .next (refLost inst (s.begin t))

/-- R220: a read of *capture records* returns every queued record and removes it. -/
def readCaptures (sess d i : Nat) (x : Session) (s : State) : Response × State :=
  let c := s.readCheck x.rights (0x2138 + d) (3 + i)
  match c.2 with
  | none => (Response.of c.1, s.countDenial c.1)
  | some _ =>
    let s := s.touch sess (mux (0x2138 + d) (3 + i)) false
    let q := 2 * d + i
    (⟨.ok, (s.capture q).records.flatten, true⟩, s.setCapture q { s.capture q with records := [] })

def execCaptureRecordsRead (t : Nat) (who : Who) (die input : Nat) (s : State) : Host.Outcome State Fault Refusal :=
  .next (serve who (readCaptures who.sess die (input % 2)) (s.begin t))

end Sys2Proof.Machine
end

