-- ==== Sys2Proof/Machine/Cirque.lean ====
section
/-! DEFINITION. The announcement matrix (chapter 10, R227 to R254). -/
namespace Sys2Proof.Machine

open Sys2Proof

/-- The zones an instance mixes, by the plan (R227). -/
def State.zonesOn (s : State) (d : Nat) : List Nat :=
  (s.plan.active.place.homes.filter (fun e => decide (e.1 < 256) && e.2 == d && s.n (zoneKey O.zoneEnable e.1) == 1)).map (·.1)

/-- Does the instance of a die work? -/
def State.instanceOn (s : State) (d : Nat) : Bool :=
  !s.quiet && s.regionUp (2 * d + 1) && s.n (bySub O.cirqueInstanceEnable d) == 1

/-- The inputs an instance holds. -/
def State.inputsOn (s : State) (d : Nat) : List Nat := ((s.zonesOn d).flatMap s.zoneInputs).eraseDups

/-! ### Inputs (R229 to R232) -/

def inputKey (d ch : Nat) : Nat := 1024 * d + ch
def State.input (s : State) (d ch : Nat) : InputSt := get {} s.audio.inputs (inputKey d ch)
def State.setInput (s : State) (d ch : Nat) (x : InputSt) : State :=
  { s with audio := { s.audio with inputs := put {} s.audio.inputs (inputKey d ch) x } }

/-- Is an input converted on an instance: some zone there that names it runs at the other rate (R231)? -/
def State.converted (s : State) (d ch : Nat) : Bool :=
  (s.zonesOn d).any (fun z => (s.zoneInputs z).contains ch && s.n (zoneKey O.zoneRate z) != inRate (s.inputRec ch))

/-- The effective depth in ticks (R231). -/
def State.effDepth (s : State) (d ch : Nat) : Nat :=
  let j := inDepth (s.inputRec ch)
  if s.converted d ch then max j (ceilDiv 250000 s.period) else j

/-- R228: does the input's feeding contract, ACTIVE and of class Audio, name it among its egress endpoints? -/
def State.feedOk (s : State) (ch : Nat) : Bool :=
  match s.contract (inFeed (s.inputRec ch)) with
  | some r => Contract.cls r == 2 && (Contract.egress r).contains (0x3000 + ch)
  | none => false

/-- Samples arrive (R230): IDLE primes, a full buffer plays, and what does not fit is dropped oldest first as one slip. -/
def InputSt.arrive (x : InputSt) (new : List Int) (j spt : Nat) : InputSt :=
  let b := x.buf ++ new
  let excess := decide ((j + 2) * spt < b.length)
  let b := if excess then b.drop (b.length - (j + 1) * spt) else b
  let st := if x.state = 1 then 2 else x.state
  let plays := st == 2 && decide (j * spt ≤ b.length)
  { x with buf := b, slips := if excess then satN (2 ^ 32 - 1) (x.slips + 1) else x.slips,
           state := if plays then 3 else st, fadeIn := x.fadeIn || plays }

/-- The input starts again from IDLE. -/
def InputSt.restart (x : InputSt) : InputSt := { x with state := 1, buf := [], seq := none, fadeIn := false, hist := [] }

/-- A sample of 16, 24 or 32 bits as 24 bits (R229). -/
def widen (width v : Nat) : Int :=
  if width = 2 then signed 16 v * 256 else if width = 3 then signed 24 v else signed 32 v / 256

/-- What a packet gives one input: its sequence number, the modulus, its SSRC and samples; none for a format error. -/
def State.audioPacket (_s : State) (r b : Bytes) : Option (Nat × Nat × Option Nat × List Int) :=
  let o := etOff b + 2
  let pos := inPosition r
  if fldBE b (etOff b) 2 = 0x22F0 then
    let fmt := fld b (o + 0x10) 1
    let w := if fmt = 4 then 2 else if fmt = 3 then 3 else if fmt = 2 then 4 else 0
    let ch := fldBE b (o + 0x11) 2 % 1024
    let nsr := fld b (o + 0x11) 1 / 16
    let len := fldBE b (o + 0x14) 2
    if fld b o 1 ≠ 2 ∨ w = 0 ∨ nsr ≠ (if inRate r = 1 then 2 else 5) ∨ ch < pos + 1 ∨ 8 < ch then none
    else
      some (fld b (o + 2) 1, 256, none,
        (List.range (len / (w * ch))).map (fun i => widen w (fldBE b (o + 0x18 + w * (ch * i + pos)) w)))
  else
    let x := parseL3 b
    if x.proto = 17 ∧ x.anyFrag = false then
      let p := x.l4 + 8
      let ch := max 1 (min 8 (Config.rtpChannels (inFeed r)))
      let c := 12 + 4 * (fld b p 1 % 16)
      let h := if bit (fld b p 1) 4 then c + 4 + 4 * fldBE b (p + c + 2) 2 else c
      let udp := fldBE b (x.l4 + 4) 2 - 8
      let len := udp - h - (if bit (fld b p 1) 5 then fld b (p + udp - 1) 1 else 0)
      if fld b p 1 / 64 ≠ 2 ∨ ch < pos + 1 then none
      else
        some (fldBE b (p + 2) 2, 65536, some (fldBE b (p + 8) 4),
          (List.range (len / (3 * ch))).map (fun i => widen 3 (fldBE b (p + h + 3 * (ch * i + pos)) 3)))
    else none

/-- R229: one packet into one input: SSRC changes and long gaps restart it, short gaps are filled with zeros. -/
def InputSt.packet (x : InputSt) (q m : Nat) (ssrc : Option Nat) (v : List Int) (j spt : Nat) : InputSt :=
  let x := if ssrc.isSome && x.ssrc.isSome && x.ssrc != ssrc then x.restart else x
  let gap := match x.seq with
    | some e => (q + m - e % m) % m
    | none => 0
  let x := if 8 < gap then x.restart else x
  let fillN := if 8 < gap then 0 else gap
  let x := { x with seq := some ((q + 1) % m), ssrc := ssrc, lost := satN (2 ^ 32 - 1) (x.lost + fillN) }
  x.arrive (List.replicate (fillN * v.length) 0 ++ v) j spt

/-- R232: one slot's samples of a tick, made up to `n`, times the port's input gain. -/
def tdmBlock (c n : Nat) (v : List Int) : List Int :=
  ((v ++ List.replicate (n - v.length) ((v.getLast?).getD 0)).take n).map (fun x => clampI (-8388608) 8388607 (x * (c : Int) / 16384))

/-- R228 to R232: an audio frame reaches an input of an instance that holds it, or will hold it after a handover. -/
def cirqueInput (d ch slot : Nat) (f : AudioIn) (s : State) : State :=
  let r := s.inputRec ch
  let holds := (s.inputsOn d).contains ch || s.handoverDie slot == some d
  if !s.instanceOn d || !holds || inFeed r != slot || !s.feedOk ch then s
  else
    let spt := s.perTick (inRate r)
    let j := s.effDepth d ch
    let x := s.input d ch
    let x := if x.state = 0 then { x with state := 1 } else x
    match f with
    | .packet b =>
      match s.audioPacket r b with
      | none => s.setInput d ch { x with formatErrors := satN (2 ^ 32 - 1) (x.formatErrors + 1) }
      | some (q, m, ssrc, v) => s.setInput d ch (x.packet q m ssrc v j spt)
    | .tdm slots =>
      match s.contract slot with
      | none => s
      | some k =>
        let e := Contract.ingress k
        let u := 2 * bits e 8 3 + bits e 0 1
        if epKind e ≠ 2 ∨ bits e 4 3 ≠ 5 ∨ s.n (byIdx O.tdmEnable u) ≠ 1 then s
        else
          let spt' := s.perTick (s.n (byIdx O.tdmFrameRate u))
          let v := slots.getD (inPosition r) []
          let s := s.setN (byIdx O.tdmStatus u) (b2n (!slots.isEmpty))
          let s := if !slots.isEmpty ∧ v.length ≠ spt' ∧ look s.audio.slipTick u ≠ some s.tickNo then
              ({ s with audio := { s.audio with slipTick := ins s.audio.slipTick u s.tickNo } }).inc32 (byIdx O.tdmSlips u) else s
          s.setInput d ch (x.arrive (tdmBlock (s.tdmCoef e 0) spt' (if slots.isEmpty then [] else v)) j spt)

def execCirqueInputFrame (t die chan slot : Nat) (f : AudioIn) (s : State) : Host.Outcome State Fault Refusal :=
  .next (cirqueInput die chan slot f (s.begin t))

/-! ### Emergency (R238) -/

def State.ballLow (s : State) : Bool := s.flag O.emergencyState 0
def State.emgCommand (s : State) : Bool := s.flag O.emergencyState 1
def State.emgActive (s : State) : Bool := s.flag O.emergencyState 2

/-- EMG_ACT is driven high (R238). -/
def State.driveEmgAct (s : State) : State :=
  if s.audio.emgAct then s else ({ s with audio := { s.audio with emgAct := true } }).emit (.message "emg_act" 0 [1])

/-- Does a written 1 of *emergency command* wait for its boundary? -/
def State.emgAsked (s : State) : Bool :=
  s.held.any (fun h => h.key == O.emergencyCommand && h.val == .num 1 && h.txn.isNone)

/-- ACTIVE follows the ball and the command; an entry drives EMG_ACT and is counted; both changes are logged. -/
def State.setEmergency (s : State) (ball cmd : Bool) : State :=
  if s.n O.powerState = 6 then (if ball && !s.ballLow then (s.setN O.emergencyState (b2n ball)).inc32 O.emergencyActivations
    else s.setN O.emergencyState (b2n ball)) else
  let s := if ball || cmd then s.traffic else s
  let s := if s.pkg.recoveryDies ≠ 0 then
      ({ s with audio := { s.audio with emgAct := ball } }).emit (.message "emg_act" 0 [BitVec.ofNat 8 (b2n ball)]) else s
  let was := s.emgActive
  let now := ball || cmd
  let byCmd := if now then !ball else !s.ballLow
  let s := s.setN O.emergencyState (b2n ball + 2 * b2n cmd + 4 * b2n now)
  let s := if now then s.driveEmgAct else s
  if now && !was then (s.inc32 O.emergencyActivations).logLead Ev.emergency 0xFFFF [(1, 0), (1, b2n byCmd)]
  else if was && !now then s.logLead Ev.emergency 0xFFFF [(1, 1), (1, b2n byCmd)]
  else s

def execEmergencyAssert (t : Nat) (s : State) : Host.Outcome State Fault Refusal :=
  let s := s.begin t
  .next (s.setEmergency true s.emgCommand)

def execEmergencyRelease (t : Nat) (s : State) : Host.Outcome State Fault Refusal :=
  let s := s.begin t
  .next (s.setEmergency false s.emgCommand)

/-- R238, R410: a write of *emergency command*: held in a transaction; otherwise a 1 drives EMG_ACT at its completion, and the object
and with it the emergency follow at the next boundary (R6). -/
def emergencyCommand (sess v : Nat) (x : Session) (s : State) : Response × State :=
  let c := s.writeCheck x.rights 0x2A00 2
  match c.2 with
  | none => (Response.of c.1, s.countDenial c.1)
  | some _ =>
    let s := s.touch sess O.emergencyCommand false
    if 1 < v then (Response.of .outOfRange, s)
    else if x.txn.isSome then
      let p := s.txnAdd sess O.emergencyCommand 1 (.num ((v : Nat) : Int))
      (Response.of p.1, p.2)
    else
      let s := s.holdT O.emergencyCommand (.num ((v : Nat) : Int))
      (Response.of .ok, if v = 1 then s.traffic.driveEmgAct else s)

def execEmergencyCommand (t : Nat) (who : Who) (v : Nat) (s : State) : Host.Outcome State Fault Refusal :=
  .next (serve who (emergencyCommand who.sess v) (s.begin t))

/-! ### Handover (R246) -/

/-- R246: 9 ticks before the switch, frames of moved zones' inputs go to both instances. -/
def zoneHandover (s : State) : State :=
  match s.plan.pending.head? with
  | some p =>
    if p.switchTick ≤ s.tickNo + 9 ∧ p.place.homes.any (fun e => decide (e.1 < 256) && look s.plan.active.place.homes e.1 != some e.2) then
      { s with audio := { s.audio with handover := true } }
    else s
  | none => s

def execZoneHandoverStart (t : Nat) (s : State) : Host.Outcome State Fault Refusal := .next (zoneHandover (s.begin t))

/-! ### Clips (R241) -/

/-- A clip's data. -/
def State.clip (s : State) (c : Nat) : Bytes := s.blob (at_ O.clipData c)

/-- Bytes that all clips take. -/
def State.clipsUsed (s : State) : Nat := (List.range 16).foldl (fun n c => n + (s.clip c).length) 0

/-- An announcement's object. -/
def annKey (m a : Nat) : Nat := byIdx m a

def State.annStatus (s : State) (a : Nat) : Nat := s.n (annKey O.announcementStatus a)

/-- Is a clip named by a RUNNING announcement? -/
def State.clipInUse (s : State) (c : Nat) : Bool :=
  (List.range 16).any (fun a => s.annStatus a == 1 && s.n (annKey O.announcementClip a) == c)

/-- The clip store after a clip is replaced. -/
def State.storeClip (s : State) (c : Nat) (b : Bytes) : State :=
  let s := s.setBlob (at_ O.clipData c) b
  (s.setN (at_ O.clipLength c) (b.length / 2)).setN O.clipStoreFree (262144 - s.clipsUsed)

/-- R241: a write of clip data replaces the selected clip on every healthy die. -/
def clipWrite (b : Bytes) (x : Session) (s : State) : Status × State :=
  let c := x.sel O.clipSelect
  if b.length % 2 ≠ 0 then (.length, s)
  else if s.clipInUse c ∨ 262144 < s.clipsUsed - (s.clip c).length + b.length then (.deviceState, s)
  else (.ok, s.storeClip c b)

def execClipDataWrite (t : Nat) (who : Who) (data : Bytes) (s : State) : Host.Outcome State Fault Refusal :=
  domRow t who 0x2A70 3 data 0 262144 (fun _ => true) (clipWrite data) s

/-- R241, R253: the selected clip is freed, unless it is in use. -/
def clipErase (x : Session) (s : State) : Status × State :=
  let c := x.sel O.clipSelect
  if s.clipInUse c then (.deviceState, s) else (.ok, s.storeClip c [])

def execClipErase (t : Nat) (who : Who) (s : State) : Host.Outcome State Fault Refusal := cmdRow t who 0x2A70 5 1 clipErase s

/-! ### Announcements (R242, R243) -/

def State.zoneSt (s : State) (z : Nat) : ZoneSt := get {} s.audio.zones z
def State.setZone (s : State) (z : Nat) (x : ZoneSt) : State :=
  { s with audio := { s.audio with zones := put {} s.audio.zones z x } }

/-- The zones an announcement plays in that are mixed somewhere. -/
def State.annZones (s : State) (a : Nat) : List Nat :=
  (bitsSet (leNat (s.blob (annKey O.announcementZones a))) 256).filter (fun z =>
    s.n (zoneKey O.zoneEnable z) == 1 && (look s.plan.active.place.homes z).any s.instanceOn)

/-- R242: start: RUNNING, from 2 ticks on. -/
def annStart (a : Nat) (_ : Session) (s : State) : Status × State :=
  if s.annStatus a = 1 ∨ s.clip (s.n (annKey O.announcementClip a)) = [] then (.deviceState, s)
  else
    let s := { s with audio := { s.audio with begun := s.audio.begun.filter (fun b => b != a) } }
    (.ok, (s.setN (annKey O.announcementStatus a) 1).setN (annKey O.announcementStartTick a) (s.tickNo + 2))

def execAnnouncementStart (t : Nat) (who : Who) (a : Nat) (s : State) : Host.Outcome State Fault Refusal :=
  cmdRow t who (0x2A60 + a) 6 1 (annStart a) s

/-- The announcement leaves every player it holds; `fade` lets it fade over one tick. -/
def State.releasePlayers (s : State) (a : Nat) (fade : Bool) : State :=
  { s with audio := { s.audio with
      begun := s.audio.begun.filter (fun b => b != a),
      zones := mapVals (fun x => if x.player = some a then { x with player := none, fading := if fade then some a else none } else x) s.audio.zones } }

/-- R242: abort. -/
def annAbort (a : Nat) (_ : Session) (s : State) : Status × State :=
  if s.annStatus a ≠ 1 then (.alreadyDone, s)
  else (.ok, (s.setN (annKey O.announcementStatus a) 3).releasePlayers a true)

def execAnnouncementAbort (t : Nat) (who : Who) (a : Nat) (s : State) : Host.Outcome State Fault Refusal :=
  cmdRow t who (0x2A60 + a) 6 2 (annAbort a) s

/-- The level of an announcement. -/
def State.annLevel (s : State) (a : Nat) : Nat := s.n (annKey O.announcementLevel a)

/-- R243: an announcement reaches one zone: it takes a free player or one of lower priority; else a conflict is counted. -/
def State.joinPlayer (s : State) (a z : Nat) : State :=
  let x := s.zoneSt z
  match x.player with
  | some b =>
    if s.annLevel a < s.annLevel b then s.setZone z { x with player := some a } else s.inc32 O.announcementConflicts
  | none => s.setZone z { x with player := some a }

/-- R242, R243: the start tick of a RUNNING announcement is reached: the players begin; with no zone left it has FAILED. -/
def annPlayback (a : Nat) (s : State) : State :=
  if s.annStatus a ≠ 1 ∨ s.tickNo < s.n (annKey O.announcementStartTick a) ∨ s.audio.begun.contains a = true then s
  else if (s.annZones a).isEmpty then s.setN (annKey O.announcementStatus a) 4
  else
    let s := { s with audio := { s.audio with begun := a :: s.audio.begun } }
    (s.annZones a).foldl (fun (s : State) z => s.joinPlayer a z) s

def execAnnouncementPlayback (t a : Nat) (s : State) : Host.Outcome State Fault Refusal := .next (annPlayback a (s.begin t))

/-- Samples of a clip at a zone's rate (R231, R241). -/
def State.clipLen (s : State) (c z : Nat) : Nat :=
  let n := (s.clip c).length / 2
  let cr := s.n (at_ O.clipRate c)
  let zr := s.n (zoneKey O.zoneRate z)
  if cr = zr then n else if zr = 0 then 3 * n else ceilDiv n 3

/-- Samples of one repeat with its gap, at a zone's rate. -/
def State.annCycle (s : State) (a z : Nat) : Nat :=
  s.clipLen (s.n (annKey O.announcementClip a)) z + s.n (annKey O.announcementGap a) * s.perTick (s.n (zoneKey O.zoneRate z))

/-- The tick after the last sample of the last repeat in a zone. -/
def State.annEnd (s : State) (a z : Nat) : Nat :=
  let n := s.n (annKey O.announcementRepeats a)
  let len := s.annCycle a z * (n - 1) + s.clipLen (s.n (annKey O.announcementClip a)) z
  s.n (annKey O.announcementStartTick a) + ceilDiv len (s.perTick (s.n (zoneKey O.zoneRate z)))

/-- R242: the natural end. -/
def annDone (a : Nat) (s : State) : State :=
  if s.annStatus a = 1 ∧ s.audio.begun.contains a = true ∧ s.n (annKey O.announcementRepeats a) ≠ 255 ∧
      (s.annZones a).all (fun z => decide (s.annEnd a z ≤ s.tickNo)) = true then
    (s.setN (annKey O.announcementStatus a) (if (s.annZones a).isEmpty then 4 else 2)).releasePlayers a false
  else s

def execAnnouncementDone (t a : Nat) (s : State) : Host.Outcome State Fault Refusal := .next (annDone a (s.begin t))

/-- The clip sample a zone's player plays at sample `k` of the tick in progress, widened to 24 bits (R241, R242). -/
def State.clipSample (s : State) (a z k : Nat) : Int :=
  let c := s.n (annKey O.announcementClip a)
  let spt := s.perTick (s.n (zoneKey O.zoneRate z))
  let pos := (s.tickNo - s.n (annKey O.announcementStartTick a)) * spt + k
  let cyc := max 1 (s.annCycle a z)
  let reps := s.n (annKey O.announcementRepeats a)
  let i := pos % cyc
  if reps ≠ 255 ∧ reps ≤ pos / cyc then 0
  else if s.clipLen c z ≤ i then 0
  else if s.n (at_ O.clipRate c) = s.n (zoneKey O.zoneRate z) then signed 16 (fld (s.clip c) (2 * i) 2) * 256
  else
    clampI (-8388608) 8388607 ((Config.audioConvert (s.n (zoneKey O.zoneRate z) == 0)
      ((List.range ((s.clip c).length / 2)).map (fun j => signed 16 (fld (s.clip c) (2 * j) 2) * 256))).getD i 0)

/-! ### One tick of an instance (R230, R235 to R237) -/

/-- A linear ramp over the samples of a tick: the value at sample `k` of `n`. -/
def ramp (a b : Int) (k n : Nat) : Int := a + ((b - a) * ((k : Int) + 1)).tdiv (n : Int)

/-- R230, R236: an input hands over its samples of the tick: the samples and the input as it stands then. -/
def State.gather (s : State) (d ch : Nat) : List Int × InputSt :=
  let r := s.inputRec ch
  let x := s.input d ch
  let n := s.perTick (inRate r)
  if inFeed r = 0xFFFF then ([], { x with state := 0, buf := [], present := false })
  else if !s.feedOk ch then (List.replicate n 0, { x.restart with present := false, hang := 0 })
  else if x.state ≠ 3 then (List.replicate n 0, { x with present := false })
  else
    let short := decide (x.buf.length < n)
    let v := (x.buf ++ List.replicate n 0).take n
    let v := if x.fadeIn then v.mapIdx (fun k y => ramp 0 y k n) else v
    let thr := dbRound 8388608 20 (inThreshold r)
    let loud := v.any (fun y => decide (thr ≤ y.natAbs))
    let always := inThreshold r == -128
    let x := { x with buf := x.buf.drop n, fadeIn := false, hist := (x.hist ++ v).drop (x.hist.length + n - (if inRate r = 1 then 4 else 12)), present := always || loud || decide (0 < x.hang),
                      hang := if loud then inHang r else x.hang - 1,
                      underruns := if short then satN (2 ^ 32 - 1) (x.underruns + 1) else x.underruns,
                      state := if short then 1 else 3 }
    (v, if short then { x with buf := [] } else x)

/-- Samples of an input at a zone's rate (R231): the converter reads ahead in the jitter buffer; `was` is the input before this tick's
samples left it. -/
def State.atRate (s : State) (d ch z : Nat) (was : InputSt) (v : List Int) : List Int :=
  let zr := s.n (zoneKey O.zoneRate z)
  let ir := inRate (s.inputRec ch)
  if zr = ir then v
  else
    let c := Config.audioConvert (zr == 0) (was.hist ++ v ++ (s.input d ch).buf)
    let skip := if zr = 0 then 3 * was.hist.length else was.hist.length / 3
    (List.range (s.perTick zr)).map (fun k => clampI (-8388608) 8388607 (c.getD (skip + k) 0))

/-- The row an output mixes: its emergency row while those are in force, unless EXEMPT. -/
def rowOf (em : Bool) (r : Bytes) : List (Nat × Nat) := if em && !outExempt r then emergencyRow r else normalRow r

/-- The announcement that a zone's player plays: during an emergency only level 0 (R238). -/
def State.playing (s : State) (em : Bool) (z : Nat) : Option Nat :=
  match (s.zoneSt z).player with
  | some a => if em && s.annLevel a != 0 then none else some a
  | none => none

/-- R237: h of a zone, 0xFF for none: the lowest level among its present inputs and its player. -/
def State.zoneLevel (s : State) (d z : Nat) (em : Bool) : Nat :=
  let ins := (((s.zoneOuts z).flatMap (fun o => rowOf em (s.outputRec o))).map (·.1)).filter (fun c => decide (c < 1024))
  let l := (ins.filter (fun c => (s.input d c).present)).map (fun c => inLevel (s.inputRec c)) ++
    ((s.playing em z).map s.annLevel).toList
  l.foldl min 0xFF

/-- R237: the target duck factor of a level in a zone. -/
def State.duckTarget (s : State) (z h lev : Nat) : Int :=
  let law := s.n (zoneKey O.duckLaw z)
  if lev ≤ h then 16384
  else if s.n (zoneKey O.muteFromLevel z) ≤ lev then 0
  else if law = 2 then 16384
  else if law = 0 then 0
  else ((dbRound 16384 20 (-((s.n (zoneKey O.zoneDuckDepth z) : Nat) : Int)) : Nat) : Int)

/-- R237: a factor after one tick: it falls at once, and rises linearly over the release time. -/
def DuckSt.next (x : DuckSt) (target : Int) (release : Nat) : DuckSt :=
  if target ≤ x.val then { val := target, start := target, target := target, ticks := 0 }
  else
    let x := if x.target = target then x else { x with start := x.val, target := target, ticks := 0 }
    let k := x.ticks + 1
    if release ≤ k then { val := target, start := target, target := target, ticks := 0 }
    else { x with val := x.start + ((target - x.start) * (k : Int)).tdiv (release : Int), ticks := k }

/-- The level of a source of a zone; the tone has none and is never ducked. -/
def State.srcLevel (s : State) (z src : Nat) : Nat :=
  if src = srcPlayer then ((s.zoneSt z).player.map s.annLevel).getD 0
  else if src = srcTone then 0
  else inLevel (s.inputRec src)

/-- The sample of a source at index `k`. -/
def State.srcSample (s : State) (v : SMap (List Int)) (z src k : Nat) : Int :=
  if src = srcTone then
    clampI (-8388608) 8388607 (Config.toneSample (s.blob O.emergencyTone) s.tickNo (s.perTick (s.n (zoneKey O.zoneRate z))) k)
  else (get [] v src).getD k 0

/-- A row with the gains of `was`: what `was` names and the row does not goes to 0. -/
def rowFrom (row : List (Nat × Nat)) (was : SMap Nat) : List (Nat × Nat) :=
  row ++ (was.filter (fun e => !row.any (fun t => t.1 == e.1))).map (fun e => (e.1, 0))

/-- The gains of a row, by source. -/
def rowGains (row : List (Nat × Nat)) : SMap Nat := row.foldl (fun m t => ins m t.1 t.2) []

/-- R235: the samples of an output for one row: gains and duck factors ramp over the tick; clips counted. -/
def State.mixRow (s : State) (z : Nat) (em : Bool) (row : List (Nat × Nat)) (gains : SMap Nat) (v : SMap (List Int))
    (old new : SMap DuckSt) : List Int × Nat :=
  let n := s.perTick (s.n (zoneKey O.zoneRate z))
  let duck := fun (src k : Nat) => if em then (16384 : Int) else ramp (get {} old src).val (get {} new src).val k n
  let raw := (List.range n).map (fun k =>
    let acc := row.foldl (fun (acc : Int) t =>
      let g := ramp ((get 0 gains t.1 : Nat) : Int) ((t.2 : Nat) : Int) k n
      let c := g * (if t.1 = srcTone then 16384 else duck t.1 k) / 16384
      acc + s.srcSample v z t.1 k * c / 16384) 0
    let gain : Int := ramp (((s.zoneSt z).gain.getD (s.n (zoneKey O.announcementGain z)) : Nat) : Int) ((s.n (zoneKey O.announcementGain z) : Nat) : Int) k n
    let acc := match s.playing em z with
      | some a => acc + s.clipSample a z k * gain * duck srcPlayer k / 268435456
      | none => acc
    match (s.zoneSt z).fading with
    | some a => acc + s.clipSample a z k * gain * ramp (get {} old srcPlayer).val 0 k n / 268435456
    | none => acc)
  (raw.map (clampI (-8388608) 8388607), (raw.filter (fun y => decide (y < -8388608) || decide (8388607 < y))).length)

/-- One output's tick: its row in force, a cross-fade where the rows change, a fade-in after silence. -/
def State.mixOutput (s : State) (d z o : Nat) (was em : Bool) (v : SMap (List Int)) (old new : SMap DuckSt) : List Int × State :=
  let r := s.outputRec o
  let x := get {} s.audio.outputs o
  let n := s.perTick (s.n (zoneKey O.zoneRate z))
  let emNow := em && !outExempt r
  let swap := decide (was ≠ em) && !outExempt r
  let from_ := if swap || !x.live then rowGains (rowOf em r) else x.gains
  let a := s.mixRow z emNow (rowFrom (rowOf em r) from_) from_ v old new
  let y := if swap then
      let b := s.mixRow z was (rowOf was r) (rowGains (rowOf was r)) v old new
      (List.range n).map (fun k => ramp (b.1.getD k 0) (a.1.getD k 0) k n)
    else a.1
  let y := if x.silent then y.mapIdx (fun k q => ramp 0 q k n) else y
  let x := { x with die := d, last := (y.getLast?).getD 0, silent := false, faded := false, live := true,
                    clips := satN (2 ^ 32 - 1) (x.clips + a.2), peak := y.foldl (fun m q => max m q.natAbs) 0,
                    gains := rowGains (rowOf em r) }
  (y, { s with audio := { s.audio with outputs := ins s.audio.outputs o x } })

/-- R47: an output in an overrun tick: a ramp to zero from its last good sample, silence while overruns go on. -/
def State.overrunOutput (s : State) (z o : Nat) : List Int × State :=
  let x := get {} s.audio.outputs o
  let n := s.perTick (s.n (zoneKey O.zoneRate z))
  let y := (List.range n).map (fun k => if x.silent then 0 else ramp x.last 0 k n)
  (y, { s with audio := { s.audio with outputs := ins s.audio.outputs o { x with last := 0, silent := true } } })

/-! ### Emission (R234, R232) -/

/-- An AAF PDU of one tick. -/
def State.aafPdu (s : State) (r : Bytes) (first rate : Nat) (ch : List (List Int)) (n : Nat) : Bytes :=
  let id := if Contract.stream r = fill 8 0 then s.baseMac ++ beBytes 2 first else Contract.stream r
  let ts := (s.gptpNs + s.n O.presentationOffset) % 2 ^ 32
  beBytes 2 0x22F0 ++ [0x02, 0x81] ++ beBytes 1 (s.tickNo % 256) ++ [0] ++ id ++ beBytes 4 ts ++ [0x03] ++
    beBytes 3 ((if rate = 1 then 2 else 5) * 2 ^ 20 + ch.length * 2 ^ 8 + 24) ++ beBytes 2 (3 * ch.length * n) ++ [0x10, 0] ++
    (List.range n).flatMap (fun k => ch.flatMap (fun v => beBytes 3 (unsignedOf 24 (v.getD k 0))))

/-- An RTP packet of one tick, in UDP towards the IPv4 group that the contract's match address maps. -/
def State.rtpPdu (s : State) (r : Bytes) (first rate : Nat) (ch : List (List Int)) (n : Nat) : Bytes :=
  let ssrc := if Contract.stream r = fill 8 0 then beBytes 4 ((beNat s.baseMac * 65536 + first) % 2 ^ 32)
    else (Contract.stream r).drop 4
  let ts := s.gptpNs * (if rate = 1 then 16 else 48) / 1000000 % 2 ^ 32
  let p := [0x80] ++ beBytes 1 (s.n O.rtpPayloadType) ++ beBytes 2 (s.tickNo % 65536) ++ beBytes 4 ts ++ ssrc ++
    (List.range n).flatMap (fun k => ch.flatMap (fun v => beBytes 3 (unsignedOf 24 (v.getD k 0))))
  beBytes 2 0x0800 ++ udp4 34 64 s.ownIp4 (0xEF000000 + fldBE (Contract.matchAddr r) 3 3 % 2 ^ 23) 5004 5004 p

/-- A TDM contract's internal frame of one tick (R232): the slots' samples in 32 bits each, after a 28-byte header. -/
def tdmPdu (ch : List (List Int)) (n : Nat) : Bytes :=
  fill 12 0 ++ (List.range n).flatMap (fun k => ch.flatMap (fun v => beBytes 4 (unsignedOf 24 (v.getD k 0) * 256)))

/-- R234: one contract's frame of the tick, from the outputs that name it, by position.  Where the injection path overruns, the frame is
discarded, and counted with the contract's *meter drops*, where the injection path counts (R47, R136; DESIGN CHOICE, log entry 90). -/
def State.emitAudio (s : State) (d z slot : Nat) (noInject : Bool) (ys : List (Nat × List Int)) : State :=
  match s.contract slot with
  | none => s
  | some r =>
    let e := Contract.ingress r
    if epKind e ≠ 3 ∨ !(s.zoneOuts z).contains (bits e 0 10) then s
    else
      let mine := ys.filter (fun y => outContract (s.outputRec y.1) == slot)
      let pos := (List.range 16).filterMap (fun p => mine.find? (fun y => outPosition (s.outputRec y.1) == p))
      let rate := s.n (zoneKey O.zoneRate z)
      let n := s.perTick rate
      let ch := pos.map (·.2)
      let first := (mine.map (·.1)).foldl min 65535
      let body :=
        if (Contract.egress r).any (fun e => epKind e == 2 && bits e 4 3 == 5) then tdmPdu ch n
        else if fldBE (Contract.matchAddr r) 0 3 = 0x01005E then s.rtpPdu r first rate ch n
        else s.aafPdu r first rate ch n
      if ch.isEmpty then s else if noInject then s.streamCount slot 0x18 else s.inject d slot body

/-! ### The boundary's work (R34, R235) -/

/-- One zone's Compute and Emit. -/
def State.mixZone (s : State) (d z : Nat) (was em excess noInject : Bool) (v : SMap (List Int)) (before : State) : State :=
  let outs := s.zoneOuts z
  let h := s.zoneLevel d z em
  let x := s.zoneSt z
  let srcs := (s.zoneInputs z) ++ [srcPlayer]
  let fresh := x.die != d
  let old := if fresh ∨ (was ∧ !em) then srcs.foldl (fun m c => ins m c { val := s.duckTarget z h (s.srcLevel z c), start := 0, target := 0, ticks := 0 }) [] else x.ducks
  let new := srcs.foldl (fun m c =>
    ins m c ((get {} old c).next (s.duckTarget z h (s.srcLevel z c)) (s.n (zoneKey O.releaseTime z)))) []
  let conv := (s.zoneInputs z).foldl (fun m c => ins m c (s.atRate d c z (before.input d c) (get [] v c))) []
  let r := outs.foldl (fun (a : List (Nat × List Int) × State) o =>
    let y := if excess || s.audio.overOut.contains o then a.2.overrunOutput z o else a.2.mixOutput d z o was em conv old new
    (a.1 ++ [(o, y.1)], y.2)) ([], s)
  let s := r.2.setZone z { x with die := d, ducks := new, fading := none, gain := some (s.n (zoneKey O.announcementGain z)) }
  let s := (s.zoneInputs z).foldl (fun (s : State) c =>
    s.setInput d c { s.input d c with ducked := decide ((get {} new c).val < 16384) }) s
  let s := s.setN (zoneKey O.highestPresentLevel z) h
  let slots := ((outs.map (fun o => outContract (s.outputRec o))).filter (fun k => decide (k < 8192))).eraseDups
  slots.foldl (fun (s : State) k => s.emitAudio d z k noInject r.1) s

/-- An instance's tick: every input hands over, every zone is mixed. -/
def State.mixInstance (s : State) (d : Nat) (was em excess noInject : Bool) : State :=
  let old := s
  let g := (s.inputsOn d).foldl (fun (a : SMap (List Int) × State) c =>
    let r := a.2.gather d c
    (ins a.1 c r.1, a.2.setInput d c r.2)) ([], s)
  (s.zonesOn d).foldl (fun (s : State) z => s.mixZone d z was em excess noInject g.1 old) g.2

/-- R247: an output that no zone mixes any more has faded to zero and emits nothing. -/
def State.fadeOutputs (s : State) : State :=
  let ok := fun (o : Nat) => (look s.plan.active.place.homes (outZone (s.outputRec o))).any (fun d =>
    s.instanceOn d && s.n (zoneKey O.zoneEnable (outZone (s.outputRec o))) == 1)
  let outs := s.audio.outputs.map (fun e =>
    if e.2.live && !ok e.1 then (e.1, { e.2 with live := false, faded := true, last := 0, die := 0xFF, peak := 0 }) else e)
  { s with audio := { s.audio with outputs := outs } }

/-- The audio work of a tick: rows follow the emergency, due announcements begin and end, each instance mixes. -/
def State.cirqueTick (s : State) (excess noInject : List Nat) : State :=
  let s := (List.range 16).foldl (fun (s : State) a => annDone a (annPlayback a s)) s
  let was := s.audio.rowsEmergency
  let em := s.emgActive
  let s := { s with audio := { s.audio with rowsEmergency := em } }
  let s := if !em && !s.emgAsked && s.audio.emgAct then
      ({ s with audio := { s.audio with emgAct := false } }).emit (.message "emg_act" 0 [0]) else s
  let s := (s.upDies.filter s.instanceOn).foldl (fun (s : State) d => s.mixInstance d was em (excess.contains d) (noInject.contains (2 * d + 1))) s
  { s with audio := { s.audio with overOut := [] } }.fadeOutputs

/-- R242: announcements whose every target zone is gone have FAILED. -/
def State.failAnnouncements (s : State) : State :=
  (List.range 16).foldl (fun (s : State) a =>
    if s.annStatus a = 1 ∧ s.audio.begun.contains a = true ∧ (s.annZones a).isEmpty = true then
      (s.setN (annKey O.announcementStatus a) 4).releasePlayers a false
    else s) s

/-! ### Status (R250, R251) -/

/-- The instance that holds an input, 0xFF for none. -/
def State.inputDie (s : State) (ch : Nat) : Nat := ((s.upDies.find? (fun d => (s.inputsOn d).contains ch))).getD 0xFF

/-- An input status record. -/
def State.inputStatus (s : State) (ch : Nat) : Bytes :=
  let d := s.inputDie ch
  let x := s.input d ch
  let unused := inFeed (s.inputRec ch) == 0xFFFF
  leBytes 2 ch ++ leBytes 1 d ++ leBytes 1 (if unused then 0 else x.state) ++ leBytes 1 (s.effDepth d ch) ++
    leBytes 1 (b2n x.present + 2 * b2n x.ducked + 4 * b2n (!unused && !s.feedOk ch)) ++ fill 2 0 ++ leBytes 4 x.underruns ++
    leBytes 4 x.slips ++ leBytes 4 x.lost ++ leBytes 4 x.formatErrors

/-- An output status record. -/
def State.outputStatus (s : State) (o : Nat) : Bytes :=
  let x := get {} s.audio.outputs o
  leBytes 2 o ++ leBytes 1 x.die ++
    leBytes 1 (b2n (s.audio.rowsEmergency && !outExempt (s.outputRec o)) + 2 * b2n x.silent + 4 * b2n x.faded) ++
    leBytes 4 x.clips ++ leBytes 4 x.peak ++ fill 4 0

/-- R250: every input and output counter becomes 0. -/
def clearCirque (_ : Session) (s : State) : Status × State :=
  (.ok, { s with audio := { s.audio with
    inputs := mapVals (fun x => { x with underruns := 0, slips := 0, lost := 0, formatErrors := 0 }) s.audio.inputs,
    outputs := mapVals (fun x => { x with clips := 0 }) s.audio.outputs } })

def execClearCirqueCounters (t : Nat) (who : Who) (s : State) : Host.Outcome State Fault Refusal :=
  cmdRow t who 0x2A38 4 1 clearCirque s

end Sys2Proof.Machine
end

