-- ==== Sys2Proof/Machine/Gateway.lean ====
section
/-! DEFINITION. The signal gateway (chapter 11, R266 to R281, R286): records, signals, cells, extraction, emission. -/
namespace Sys2Proof.Machine

open Sys2Proof

/-! ### Records (R266, R267) -/

def gmKind (r : Bytes) : Nat := fld r 2 1
def gmOut (r : Bytes) : Bool := bit (fld r 3 1) 0
def gmEnable (r : Bytes) : Bool := bit (fld r 3 1) 1
def gmContract (r : Bytes) : Nat := fld r 4 2
def gmUnit (r : Bytes) : Nat := fld r 6 2
def gmIdent (r : Bytes) : Nat := fld r 8 4
def gmLen (r : Bytes) : Nat := fld r 0x0C 2
def gmPeriod (r : Bytes) : Nat := fld r 0x0E 2
def gmTopo (r : Bytes) : Nat := fld r 0x10 4
def gmOpTopo (r : Bytes) : Nat := fld r 0x14 4
def gmOptions (r : Bytes) : Nat := fld r 0x18 2
def gmDest (r : Bytes) : Bytes := slice r 0x1A 6
def gmIp (r : Bytes) : Nat := fld r 0x20 4
def gmPort (r : Bytes) : Nat := if fld r 0x24 2 = 0 then 17224 else fld r 0x24 2
def gmTtl (r : Bytes) : Nat := fld r 0x26 1
def gmDscp (r : Bytes) : Nat := bits (fld r 0x27 1) 0 6

def mpSource (r : Bytes) : Nat := fld r 2 2
def mpSink (r : Bytes) : Nat := fld r 4 2
def mpHold (r : Bytes) : Bool := bit (fld r 6 1) 2
def mpSourceBe (r : Bytes) : Bool := bit (fld r 6 1) 1
def mpSinkBe (r : Bytes) : Bool := bit (fld r 6 1) 0
def mpLen (r : Bytes) : Nat := fld r 7 1
def mpSourceOff (r : Bytes) : Nat := fld r 8 2
def mpSinkOff (r : Bytes) : Nat := fld r 0x0A 2
def mpStatus (r : Bytes) : Nat := fld r 0x0C 2
def mpSourceStatus (r : Bytes) : Nat := fld r 0x0E 2
def mpMaxAge (r : Bytes) : Nat := fld r 0x10 2
def mpSubst (r : Bytes) : Nat := fld r 0x18 8

/-- R266: a message record's position and reserved encodings. -/
def messageRecOk (i : Nat) (r : Bytes) : Bool :=
  fld r 0 2 == i && decide (gmKind r ≤ 3) && decide (fld r 3 1 < 4) && bits (fld r 0x27 1) 6 2 == 0 && fld r 0x28 8 == 0 &&
    !(gmKind r == 3 && epKind (fld r 6 2) == 2 && bits (fld r 6 2) 4 3 == 0 && decide (5 ≤ bits (fld r 0x18 2) 0 3))

/-- R267: a mapping record's position and reserved encodings. -/
def mappingRecOk (i : Nat) (r : Bytes) : Bool :=
  fld r 0 2 == i && decide (fld r 6 1 < 8) && slice r 0x12 6 == fill 6 0 &&
    (mpSource r == 0xFFFF || (decide (mpSource r < 8192) && decide (mpSink r < 8192) &&
    decide (1 ≤ mpLen r) && decide (mpLen r ≤ 64) && decide (mpMaxAge r ≤ 16000) &&
    decide (mpSubst r < 2 ^ mpLen r)))

def State.message (s : State) (m : Nat) : Bytes := s.blob (at_ O.messageRecords m)
def State.mapping (s : State) (k : Nat) : Bytes := s.blob (at_ O.mappingRecords k)

/-- The message records in use, lowest first. -/
def State.messages (s : State) : List Nat :=
  (keys s.dict.blobs).filterMap (fun k => if muxOf k = O.messageRecords ∧ gmKind (s.blob k) ≠ 0 then some (itemOf k) else none)

/-- The mapping records in use, lowest first. -/
def State.mappings (s : State) : List Nat :=
  (keys s.dict.blobs).filterMap (fun k => if muxOf k = O.mappingRecords ∧ mpSource (s.blob k) ≠ 0xFFFF then some (itemOf k) else none)

/-- The mappings that take their source from a message. -/
def State.mapsFrom (s : State) (m : Nat) : List Nat := s.mappings.filter (fun k => mpSource (s.mapping k) == m)

/-- The mappings into a message. -/
def State.mapsInto (s : State) (m : Nat) : List Nat := s.mappings.filter (fun k => mpSink (s.mapping k) == m)

/-! ### Signals (R269) -/

/-- The payload bit that q numbers, for big-endian signals; q is its own inverse. -/
def qBit (p : Nat) : Nat := p / 8 * 8 + (7 - p % 8)

/-- The payload bit of value bit `i` of a signal of `n` bits at offset `o`. -/
def signalBit (be : Bool) (o n i : Nat) : Nat := if be then qBit (qBit o + (n - 1 - i)) else o + i

/-- Does a signal lie within `len` bytes? -/
def signalFits (be : Bool) (o n len : Nat) : Bool := decide ((if be then qBit o else o) + n ≤ 8 * len)

/-- A signal's value in a payload. -/
def getSignal (be : Bool) (o n : Nat) (b : Bytes) : Nat :=
  let v := leNat b
  (List.range n).foldl (fun a i => a + b2n (bit v (signalBit be o n i)) * 2 ^ i) 0

/-- A payload with a signal written. -/
def putSignal (be : Bool) (o n value : Nat) (b : Bytes) : Bytes :=
  leBytes b.length ((List.range n).foldl (fun v i => setBit v (signalBit be o n i) (bit value i)) (leNat b))

/-! ### Edge units (R5, R10) -/

/-- The number of an edge unit among its kind. -/
def edgeUnitIndex (e : Nat) : Nat := edgeUnits (bits e 4 3) * bits e 8 3 + bits e 0 2

/-- The enable object of an edge unit. -/
def edgeEnableKey (e : Nat) : Nat :=
  let i := edgeUnitIndex e
  match bits e 4 3 with
  | 0 => byIdx O.canEnable i
  | 1 => byIdx O.linEnable i
  | 2 => byIdx O.uartEnable i
  | 3 => byIdx O.mvbEnable i
  | 4 => byIdx O.t1sEnable i
  | _ => byIdx O.tdmEnable i

/-- The edge cluster of a unit, 0 or 1 on its die (R5). -/
def edgeCluster (e : Nat) : Nat :=
  match bits e 4 3 with
  | 0 => bits e 0 2 / 2
  | 3 => 0
  | 4 => 1
  | _ => bits e 0 1

/-- Is the cluster of an edge unit restarting (R15)? -/
def State.edgeRestarting (s : State) (e : Nat) : Bool := (s.cluster (bits e 8 3) (4 + edgeCluster e)).restarting

/-- Is an edge unit enabled, with its die and region in service? -/
def State.edgeEnabled (s : State) (e : Nat) : Bool :=
  !s.quiet && s.epExists false e && s.n (edgeEnableKey e) == 1 && s.regionUp (edgeRegion (bits e 8 3) (bits e 4 3) (bits e 0 2)) &&
  !bit (s.n O.dieServiceHold) (bits e 8 3)

/-- Does an edge unit work: enabled, its die and region in service, its cluster not restarting? -/
def State.edgeOn (s : State) (e : Nat) : Bool := s.edgeEnabled e && !s.edgeRestarting e

/-- R15: what arrives at a unit whose cluster restarts is dropped, and counted in the counter of the unit's lost messages. -/
def State.missedInRestart (s : State) (e key : Nat) : State :=
  if s.edgeEnabled e && s.edgeRestarting e then s.inc32 key else s

/-- The endpoint of the MVB controller of a die. -/
def epMvb (d : Nat) : Nat := epEdge d 3 0

/-! ### Cells and extraction (R270, R271, R279) -/

/-- A message's status record. -/
def State.msgSt (s : State) (m : Nat) : MsgSt := get {} s.edge.msgs m
def State.setMsg (s : State) (m : Nat) (x : MsgSt) : State := { s with edge := { s.edge with msgs := put {} s.edge.msgs m x } }

/-- A mapping's status record. -/
def State.mapSt (s : State) (k : Nat) : MapSt := get {} s.edge.maps k
def State.setMap (s : State) (k : Nat) (x : MapSt) : State := { s with edge := { s.edge with maps := put {} s.edge.maps k x } }

/-- A cell takes a value; one that was never sent is replaced and counted, and OVERWRITTEN says so until the next value after a
Gather (R270, R272, R280). -/
def State.writeCell (s : State) (k value origin : Nat) (stale : Bool) : State :=
  let lost := (look s.edge.cells k).any (·.unsent)
  let s := if lost then s.setMap k { s.mapSt k with overwritten := satN 65535 ((s.mapSt k).overwritten + 1) } else s
  { s with edge := { s.edge with cells := ins s.edge.cells k ⟨value, origin % 2 ^ 48, stale, true, lost⟩ } }

/-- Is a payload long enough for a mapping's signal and its carried status (R271)? -/
def mappingFits (r b : Bytes) : Bool :=
  signalFits (mpSourceBe r) (mpSourceOff r) (mpLen r) b.length && (mpSourceStatus r == 0xFFFF || decide (mpSourceStatus r + 2 ≤ b.length))

/-- R271: an enabled IN message is valid with payload `b` and origin time: every mapping takes its signal, or the message is
too short for it. -/
def State.extract (s : State) (m : Nat) (b : Bytes) (origin : Nat) : State :=
  if !gmEnable (s.message m) then s
  else
    let ks := s.mapsFrom m
    let short := decide (ks.any (fun k => !mappingFits (s.mapping k) b))
    let x := s.msgSt m
    let s := s.setMsg m { x with count := satN (2 ^ 64 - 1) (x.count + 1), ts := origin, short := satN (2 ^ 32 - 1) (x.short + b2n short) }
    ks.foldl (fun (s : State) k =>
      let r := s.mapping k
      let st := mpSourceStatus r
      if !mappingFits r b then s
      else
        let w := if st = 0xFFFF then 0 else fldBE b st 2
        s.writeCell k (getSignal (mpSourceBe r) (mpSourceOff r) (mpLen r) b) (origin - bits w 0 14 * 1000000)
          (bit w 15 || bit w 14)) s

/-- The IN bus messages of a unit that a received identifier matches (R268). -/
def State.busIn (s : State) (unit : Nat) (p : Bytes → Bool) : List Nat :=
  s.messages.filter (fun m => let r := s.message m; gmKind r == 3 && !gmOut r && gmUnit r == unit && p r)

/-- R271, R274 to R276: a telegram is delivered to its edge unit. -/
def telegramReceive (e slot : Nat) (b : Bytes) (at_ : Nat) (s : State) : State :=
  if !s.edgeOn e then s
  else
    let ins := s.messages.filter (fun m => let r := s.message m; gmKind r != 3 && !gmOut r && gmContract r == slot)
    let origin := s.instAt 0 at_
    let bad := fun (s : State) => ins.foldl (fun (s : State) m => s.setMsg m { s.msgSt m with errors := satN (2 ^ 32 - 1) ((s.msgSt m).errors + 1) }) s
    let x := parseL3 b
    if fldBE b (etOff b) 2 = 0x88B5 then
      let p := b.drop (etOff b + 2)
      let ds := slice p 0x14 (fldBE p 0x10 2)
      let l2 := ins.filter (fun m => gmKind (s.message m) == 2 && gmIdent (s.message m) == fldBE p 2 2)
      if fld p 0 1 ≠ 1 ∨ l2.isEmpty ∨ p.length < 0x14 + fldBE p 0x10 2 then bad s
      else l2.foldl (fun (s : State) m => s.extract m ds origin) s
    else if x.v4 ∧ x.proto = 17 ∧ x.anyFrag = false then
      let p := slice b (x.l4 + 8) (fldBE b (x.l4 + 4) 2 - 8)
      let mine := ins.filter (fun m =>
        let r := s.message m
        gmKind r == 1 && gmPort r == x.dport && (gmIp r == 0 || gmIp r == x.dst))
      let named := mine.filter (fun m => gmIdent (s.message m) == fldBE p 8 4)
      let ok := named.filter (fun m =>
        let r := s.message m
        (gmTopo r == 0 || gmTopo r == fldBE p 0x0C 4) && (gmOpTopo r == 0 || gmOpTopo r == fldBE p 0x10 4) &&
        decide (gmLen r ≤ fldBE p 0x14 4))
      if mine.isEmpty then s
      else if fld p 4 1 ≠ 1 ∨ fldBE p 6 2 ≠ 0x5064 ∨ fldBE p 0x24 4 ≠ crc32 (slice p 0 0x24) ∨
          p.length < 0x28 + fldBE p 0x14 4 ∨ ok.length < named.length ∨ named.isEmpty then bad s
      else ok.foldl (fun (s : State) m => s.extract m (slice p 0x28 (fldBE p 0x14 4)) origin) s
    else bad s

def execTelegramReceive (t endpoint slot : Nat) (bytes : Bytes) (at_ : Nat) (s : State) : Host.Outcome State Fault Refusal :=
  .next (telegramReceive endpoint slot bytes at_ (s.begin t))

/-! ### Emission (R272 to R275) -/

/-- E of an OUT message: the larger of its cycle and every source period that feeds it. -/
def State.emitEvery (s : State) (m : Nat) : Nat :=
  ((s.mapsInto m).map (fun k => gmPeriod (s.message (mpSource (s.mapping k))))).foldl max (max 1 (gmPeriod (s.message m)))

/-- The item that holds an OUT message: its lowest mapping (R277). -/
def State.gatewayItem (s : State) (m : Nat) : Option Nat := (s.mapsInto m).head?

/-- The engine of an OUT message, where the plan put its item. -/
def State.engine (s : State) (m : Nat) : Option Nat := (s.gatewayItem m).bind (s.homeOf 1)

/-- The tick phase Izost chose for an item, kept beside its home under kind 8 (R37). -/
def State.gatewayPhase (s : State) (m : Nat) : Nat := ((s.gatewayItem m).bind (s.homeOf 8)).getD 0

/-- Value, origin and SOURCE_STALE of a mapping as read at Gather; none: no value since start, wake or restart. -/
def State.readCell (s : State) (k : Nat) : Option (Nat × Nat × Bool) :=
  let r := s.mapping k
  let src := s.message (mpSource r)
  if gmKind src = 3 ∧ bits (gmUnit src) 4 3 = 3 then
    match look s.edge.mvb (4096 * bits (gmUnit src) 8 3 + gmIdent src % 4096) with
    | some p =>
      if p.ts = 0 ∨ signalFits (mpSourceBe r) (mpSourceOff r) (mpLen r) p.data.length = false then none
      else some (getSignal (mpSourceBe r) (mpSourceOff r) (mpLen r) p.data, p.ts, false)
    | none => none
  else (look s.edge.cells k).map (fun c => (c.value, c.origin, c.srcStale))

/-- R273: the value sent, STALE, NO_VALUE and the age in ms; `excess`: an overrun tick sends the last good value (R47).  Of the 48-bit
difference, the upper half is an origin after the boundary, as a step of time leaves it: its age counts as 0 (DESIGN CHOICE). -/
def State.evaluate (s : State) (k : Nat) (excess : Bool) : Nat × Bool × Bool × Nat :=
  let r := s.mapping k
  match s.readCell k with
  | none => (mpSubst r, true, true, 0)
  | some (v, origin, stale) =>
    let v := if excess then (s.mapSt k).last else v
    let gap := (s.gptpNs % 2 ^ 48 + 2 ^ 48 - origin % 2 ^ 48) % 2 ^ 48
    let age := if gap < 2 ^ 47 then gap else 0
    let old := stale || (mpMaxAge r != 0 && decide (mpMaxAge r * 1000000 < age))
    (if old && !mpHold r then mpSubst r else v, old, false, age / 1000000)

/-- The payload of an OUT message with its mappings evaluated, and their statuses kept. -/
def State.buildPayload (s : State) (m : Nat) (excess : Bool) : Bytes × State :=
  (s.mapsInto m).foldl (fun (a : Bytes × State) k =>
    let r := a.2.mapping k
    let e := a.2.evaluate k excess
    let b := putSignal (mpSinkBe r) (mpSinkOff r) (mpLen r) e.1 a.1
    let b := if mpStatus r = 0xFFFF then b
      else patch b (mpStatus r) (beBytes 2 (b2n e.2.1 * 32768 + b2n e.2.2.1 * 16384 + satN 16383 e.2.2.2))
    let s := a.2.setMap k { a.2.mapSt k with stale := e.2.1, noValue := e.2.2.1, age := satN 65535 e.2.2.2, last := e.1 }
    let s := match look s.edge.cells k with
      | some c => { s with edge := { s.edge with cells := ins s.edge.cells k { c with unsent := false } } }
      | none => s
    (b, s)) (fill (gmLen (s.message m)) 0, s)

/-- A TRDP process-data telegram (R274). -/
def State.trdp (s : State) (m : Nat) (ds : Bytes) : Bytes :=
  let r := s.message m
  let h := beBytes 4 (s.tickNo / s.emitEvery m % 2 ^ 32) ++ beBytes 2 0x0100 ++ beBytes 2 0x5064 ++ beBytes 4 (gmIdent r) ++
    beBytes 4 (gmTopo r) ++ beBytes 4 (gmOpTopo r) ++ beBytes 4 ds.length ++ fill 12 0
  let p := h ++ beBytes 4 (crc32 h) ++ ds
  beBytes 2 0x0800 ++ udp4 (gmDscp r) (gmTtl r) (s.n O.gatewaySourceAddress) (gmIp r) 17224 (gmPort r) p

/-- A Layer-2 signal frame (R275). -/
def State.signalFrame (s : State) (m : Nat) (ds : Bytes) : Bytes :=
  let r := s.message m
  beBytes 2 0x88B5 ++ [1, 0] ++ beBytes 2 (gmIdent r) ++ beBytes 4 (s.tickNo / s.emitEvery m % 2 ^ 32) ++ beBytes 8 s.gptpNs ++
    beBytes 2 ds.length ++ fill 2 0 ++ ds

/-- Order of arbitration: base identifiers aligned with extended ones (R258). -/
def canPriority (f : CanFrame) : Nat :=
  if f.fmt = 1 ∨ f.fmt = 3 then 2 * f.id + 1 else 2 * (f.id % 2048 * 2 ^ 18)

/-- A controller's record, `u = 4 * die + unit`. -/
def State.canSt (s : State) (u : Nat) : CanSt := get {} s.edge.can u
def State.setCan (s : State) (u : Nat) (x : CanSt) : State := { s with edge := { s.edge with can := put {} s.edge.can u x } }

/-- The endpoint of a CAN unit. -/
def epCan (u : Nat) : Nat := epEdge (u / 4) 0 (u % 4)

/-- Is the controller bus-off? -/
def State.canOff (s : State) (u : Nat) : Bool := s.flag (byIdx O.canStatus u) 0

def State.linSt (s : State) (u : Nat) : LinSt := get {} s.edge.lin u
def State.setLin (s : State) (u : Nat) (x : LinSt) : State := { s with edge := { s.edge with lin := put {} s.edge.lin u x } }
def State.uartSt (s : State) (u : Nat) : SerialSt := get {} s.edge.uart u
def State.setUart (s : State) (u : Nat) (x : SerialSt) : State := { s with edge := { s.edge with uart := put {} s.edge.uart u x } }
def State.t1sSt (s : State) (d : Nat) : SerialSt := get {} s.edge.t1s d
def State.setT1s (s : State) (d : Nat) (x : SerialSt) : State := { s with edge := { s.edge with t1s := put {} s.edge.t1s d x } }

/-- A frame still pending in its slot was replaced (R272). -/
def State.countReplaced (s : State) (m : Nat) : State :=
  s.setMsg m { s.msgSt m with errors := satN (2 ^ 32 - 1) ((s.msgSt m).errors + 1) }

/-- A slot list with a message's entry replaced in its place, or added at the end. -/
def replaceSlot (l : List (Nat × Bytes)) (m : Nat) (b : Bytes) : List (Nat × Bytes) :=
  if l.any (fun e => e.1 == m) then l.map (fun e => if e.1 = m then (m, b) else e) else l ++ [(m, b)]

/-- R272: an OUT bus message is loaded into its transmit slot. -/
def State.loadSlot (s : State) (m : Nat) (b : Bytes) : State :=
  let r := s.message m
  let e := gmUnit r
  let i := edgeUnitIndex e
  match bits e 4 3 with
  | 0 =>
    let x := s.canSt i
    let o := gmOptions r
    let f : CanFrame := { fmt := bits o 0 3, id := gmIdent r, brs := bit o 3, esi := false, rtr := false, sdt := bits o 8 8, af := gmTopo r, data := b }
    let mine := fun (t : CanTx) => t.owner == 0 && t.num == m
    if x.pending.any mine then
      (s.setCan i { x with pending := x.pending.map (fun t => if mine t then { t with frame := f } else t) }).countReplaced m
    else s.setCan i { x with pending := x.pending ++ [⟨0, m, f⟩] }
  | 1 => s.setLin i { s.linSt i with slots := ins (s.linSt i).slots (gmIdent r % 64) b }
  | 2 =>
    let x := s.uartSt i
    let s := if x.slots.any (fun q => q.1 == m) then s.countReplaced m else s
    let nb := s.n (byIdx O.identifierBytes i)
    let b := patch b 0 (if nb = 2 then beBytes 2 (gmIdent r) else beBytes 1 (gmIdent r))
    s.setUart i { x with slots := replaceSlot x.slots m b }
  | 3 => { s with edge := { s.edge with mvb := ins s.edge.mvb (4096 * bits e 8 3 + gmIdent r % 4096) ⟨b, s.gptpNs⟩ } }
  | 4 =>
    let d := bits e 8 3
    let x := s.t1sSt d
    let s := if x.slots.any (fun q => q.1 == m) then s.countReplaced m else s
    s.setT1s d { x with slots := replaceSlot x.slots m (gmDest r ++ s.baseMac ++ beBytes 2 (gmIdent r / 65536) ++ b) }
  | _ => s

/-- R272: one OUT message's emission in this tick. -/
def State.emitMessage (s : State) (m : Nat) (excess noInject : Bool) : State :=
  let r := s.message m
  let p := s.buildPayload m excess
  let s := p.2
  let dropped := fun (s : State) => s.setMsg m { s.msgSt m with short := satN (2 ^ 32 - 1) ((s.msgSt m).short + 1) }
  let sent := fun (s : State) =>
    s.setMsg m { s.msgSt m with count := satN (2 ^ 64 - 1) ((s.msgSt m).count + 1), ts := s.gptpNs }
  if gmKind r = 3 then
    if !s.edgeOn (gmUnit r) then dropped s
    else
      let s := s.loadSlot m p.1
      if bits (gmUnit r) 4 3 = 0 ∧ s.canOff (edgeUnitIndex (gmUnit r)) = true then dropped s else sent s
  else
    match s.contract (gmContract r) with
    | none => dropped s
    | some k =>
      let e := Contract.ingress k
      if noInject || !s.edgeOn e then dropped s
      else sent (s.inject (bits e 8 3) (gmContract r) (if gmKind r = 1 then s.trdp m p.1 else s.signalFrame m p.1))

/-- R272: the gateway's work of a tick: each due OUT message whose engine works; `over` names dies whose engine overran,
`noInject` regions whose injection path did. -/
def State.gatewayTick (s : State) (excess noInject : List Nat) : State :=
  let due := s.messages.filter (fun m =>
    gmOut (s.message m) && gmEnable (s.message m) && s.tickNo % s.emitEvery m == s.gatewayPhase m % s.emitEvery m)
  let s := due.foldl (fun (s : State) m =>
    match s.engine m with
    | none => s
    | some d =>
      if s.regionUp (2 * d) then
        let r := match s.contract (gmContract (s.message m)) with
          | some k => edgeRegion (bits (Contract.ingress k) 8 3) (bits (Contract.ingress k) 4 3) (bits (Contract.ingress k) 0 2)
          | none => 99
        s.emitMessage m (excess.contains d) (noInject.contains r)
      else s.setMsg m { s.msgSt m with short := satN (2 ^ 32 - 1) ((s.msgSt m).short + 1) }) s
  s.setN O.staleMappings ((s.edge.maps.filter (fun e => e.2.stale)).length)

/-! ### Status (R286) -/

/-- Is a bus message's unit lost (R279)? -/
def State.messageLost (s : State) (m : Nat) : Bool :=
  let r := s.message m
  gmKind r == 3 && !s.regionUp (edgeRegion (bits (gmUnit r) 8 3) (bits (gmUnit r) 4 3) (bits (gmUnit r) 0 2))

/-- A message status record. -/
def State.messageStatus (s : State) (m : Nat) : Bytes :=
  let r := s.message m
  let x := s.msgSt m
  leBytes 2 m ++ leBytes 2 (if gmOut r then s.emitEvery m else 0) ++
    leBytes 1 (b2n (gmKind r != 0 && gmEnable r && !s.messageLost m) + 2 * b2n (s.messageLost m)) ++ fill 3 0 ++
    leBytes 8 x.count ++ leBytes 4 x.errors ++ leBytes 4 x.short ++ leBytes 8 x.ts

/-- A mapping status record. -/
def State.mappingStatus (s : State) (k : Nat) : Bytes :=
  let r := s.mapping k
  let x := s.mapSt k
  let used := mpSource r != 0xFFFF
  let lost := used && (s.messageLost (mpSource r) || s.messageLost (mpSink r))
  leBytes 2 k ++ leBytes 1 (b2n (used && x.stale) + 2 * b2n (used && x.noValue) + 4 * b2n lost) ++
    leBytes 1 (if used then (s.engine (mpSink r)).getD 0xFF else 0xFF) ++ leBytes 2 x.age ++ leBytes 2 x.overwritten ++
    leBytes 8 x.last

/-- R285: the gateway counters become 0. -/
def clearGateway (_ : Session) (s : State) : Status × State :=
  (.ok, { s with edge := { s.edge with
    msgs := mapVals (fun x => { x with count := 0, errors := 0, short := 0 }) s.edge.msgs,
    maps := mapVals (fun x => { x with overwritten := 0 }) s.edge.maps } })

def execClearGatewayCounters (t : Nat) (who : Who) (s : State) : Host.Outcome State Fault Refusal :=
  cmdRow t who 0x2900 4 1 clearGateway s

/-- R15, R273, R279: a restart of an edge cluster clears its cells and slots: every mapping whose cell lies there has no value, nor has
one that reads the cluster's MVB traffic store, until the next update. -/
def State.clearCells (s : State) (d c : Nat) : State :=
  let here := fun (e : Nat) => epKind e == 2 && bits e 8 3 == d && edgeCluster e == c
  let unit := fun (k : Nat) =>
    let r := s.mapping k
    let src := s.message (mpSource r)
    if gmKind src = 3 then gmUnit src else gmUnit (s.message (mpSink r))
  { s with edge := { s.edge with
      cells := s.edge.cells.filter (fun e => !here (unit e.1)),
      can := s.edge.can.map (fun e => if e.1 / 2 = 2 * d + c then (e.1, { e.2 with pending := [], fifo0 := 0, fifo1 := 0 }) else e),
      lin := s.edge.lin.map (fun e => if e.1 = 2 * d + c then (e.1, { e.2 with slots := [], header := none, sending := none, ring := 0 }) else e),
      uart := s.edge.uart.map (fun e => if e.1 = 2 * d + c then (e.1, {}) else e),
      t1s := if c = 1 then del s.edge.t1s d else s.edge.t1s,
      mvb := if c = 0 then s.edge.mvb.filter (fun e => e.1 / 4096 != d) else s.edge.mvb } }

end Sys2Proof.Machine
end

