-- ==== Sys2Proof/Machine/Ring.lean ====
section
/-! DEFINITION. Frames of the consent ring and of wake (chapter 16, R379, R380, R385, R387). -/
namespace Sys2Proof.Machine

open Sys2Proof

/-- Types of R379. -/
abbrev rtWAKE : Nat := 1
abbrev rtTOKEN : Nat := 2
abbrev rtCOMMIT : Nat := 3
abbrev rtCANCEL : Nat := 4
abbrev rtJOIN : Nat := 5
abbrev rtLEAVE : Nat := 6

/-- A ring payload (R379). -/
structure RingMsg where
  ty : Nat
  origin : Nat
  target : Nat
  initiator : Nat
  roundTick : Nat
  commitTick : Nat
  eventTime : Nat
  consents : Nat
  absent : Nat
  vetoes : Nat
  list : Bytes
deriving DecidableEq, Repr

/-- The 168 bytes of a payload. -/
def RingMsg.bytes (m : RingMsg) : Bytes :=
  beBytes 1 1 ++ beBytes 1 m.ty ++ beBytes 2 m.origin ++ beBytes 2 m.target ++ beBytes 2 m.initiator ++ beBytes 8 m.roundTick ++
    beBytes 8 m.commitTick ++ beBytes 8 m.eventTime ++ beBytes 2 m.consents ++ beBytes 2 m.absent ++ beBytes 2 m.vetoes ++ fill 2 0 ++
    (m.list ++ fill 128 0).take 128

/-- The payload of a frame, none for another version or type (R379). -/
def ringParse (b : Bytes) : Option RingMsg :=
  if fld b 0 1 ≠ 1 ∨ fld b 1 1 = 0 ∨ 6 < fld b 1 1 then none
  else
    some { ty := fld b 1 1, origin := fldBE b 2 2, target := fldBE b 4 2, initiator := fldBE b 6 2, roundTick := fldBE b 8 8,
           commitTick := fldBE b 0x10 8, eventTime := fldBE b 0x18 8, consents := fldBE b 0x20 2, absent := fldBE b 0x22 2,
           vetoes := fldBE b 0x24 2, list := slice b 0x28 128 }

/-- This device's system address in force. -/
def State.ownAddr (s : State) : Nat := s.n O.systemAddress

/-- A message of this device with no round. -/
def State.ringMsg (s : State) (ty : Nat) : RingMsg :=
  { ty := ty, origin := s.ownAddr, target := 0xFFFF, initiator := 0xFFFF, roundTick := 0, commitTick := 0, eventTime := 0,
    consents := 0, absent := 0, vetoes := 0, list := [] }

/-- Has a ring frame been sent or relayed within the last second (R379)? -/
def State.relayedBefore (s : State) (m : RingMsg) : Bool :=
  s.power.relayed.any (fun e => e.1 == m.ty && e.2.1 == m.origin && e.2.2.1 == m.target && e.2.2.2.1 == m.roundTick &&
    decide (s.now < e.2.2.2.2 + 1000000000))

/-- A ring frame is noted under its key of R379, for 1 s. -/
def State.noteRing (s : State) (m : RingMsg) : State :=
  let recent := s.power.relayed.filter (fun e => decide (s.now < e.2.2.2.2 + 1000000000))
  { s with power := { s.power with relayed := recent ++ [(m.ty, m.origin, m.target, m.roundTick, s.now)] } }

/-- A ring frame joins traffic class 2 of the lanes of a mask, but for one (R379).  It is noted: a frame of this device's own address
that it has not sent comes from another member (R27). -/
def State.ringSend (s : State) (mask : Nat) (but : Option Nat) (m : RingMsg) : State :=
  let s := s.noteRing m
  let f := ownFrame (beBytes 6 0x034B52000001 ++ s.baseMac ++ beBytes 2 0x88B6 ++ m.bytes) 2 s.now s.now
  ((bitsSet mask 64).filter (fun n => some n != but && s.flag (laneKey O.linkStatus n) 3)).foldl (fun (s : State) n => s.joinQueue n f) s

/-- R387: one WAKE frame on the in-service wake forward lanes, but for the source lane of a cause-1 wake. -/
def State.sendWake (s : State) : State := s.ringSend (s.n O.wakeForwardLanes) s.power.wakeSource (s.ringMsg rtWAKE)

/-- R387: a forwarded wake: three WAKE frames, the first now. -/
def State.forwardWake (s : State) (src : Option Nat) : State :=
  let s := { s with power := { s.power with wakes := 2, wakeSource := src } }
  s.sendWake

/-- R387: 1 ms later the next WAKE of a forwarded wake is sent. -/
def wakeRepeat (s : State) : State :=
  if s.power.wakes = 0 then s
  else { s with power := { s.power with wakes := s.power.wakes - 1 } }.sendWake

def execWakeFrameRepeat (t : Nat) (s : State) : Host.Outcome State Fault Refusal := .next (wakeRepeat (s.begin t))

/-! ### Wake requests before a commit tick (R383, R384) -/

abbrev srIDLE : Nat := 0
abbrev srCIRCULATING : Nat := 1
abbrev srCOMMITTED : Nat := 2
abbrev srVETOED : Nat := 3
abbrev srFAILED : Nat := 4
abbrev srCANCELLED : Nat := 5

def State.setRound (s : State) (r : Option RoundSt) : State := { s with power := { s.power with round := r } }

/-- R383: a wake request before the commit tick: this member sends CANCEL, stays Active, and will send WAKE at that tick. -/
def State.cancelRound (s : State) : State :=
  match s.power.round with
  | some r =>
    match r.commit with
    | some c =>
      if r.cancelled ∨ c ≤ s.tickNo then s
      else
        let m := { s.ringMsg rtCANCEL with initiator := r.initiator, roundTick := r.start, commitTick := c, eventTime := s.instNow 0 }
        let s := s.setRound (some { r with cancelled := true })
        let s := { s with power := { s.power with wakeOnCommit := true, commits := 0 } }
        let s := if r.initiator = s.ownAddr then s.setN O.sleepRoundStatus srCANCELLED else s
        s.ringSend (s.n O.ringLanes) none m
    | none => s
  | none => s

/-- The configuration of a WAKE_IN ball (R395). -/
def State.wakeBall (s : State) (i : Nat) : Nat := s.n (bySub O.wakeInput i)

/-- Bit of an edge unit in *activity wake*, by its endpoint: LIN 0, LIN 1, UART 0, UART 1, MVB, 10BASE-T1S. -/
def activityBit (e : Nat) : Nat :=
  let k := bits e 4 3
  if k = 1 then bits e 0 2 else if k = 2 then 2 + bits e 0 2 else if k = 3 then 4 else 5

/-- Does the wake of a unit forward: by its bit of *activity wake*, or, for a CAN unit, by the WAKE_IN ball that it is the source
of (R385)? -/
def State.unitForwards (s : State) (e : Nat) : Bool :=
  if bits e 4 3 = 0 then (List.range (2 * s.variant)).any (fun i => bit (s.wakeBall i) 0 && bit (s.wakeBall i) 2 && bits (s.wakeBall i) 16 16 == e)
  else bit (s.n (bySub O.activityWake (bits e 8 3))) (activityBit e) && bit (s.n (bySub O.activityWake (bits e 8 3))) (8 + activityBit e)

/-- R383, R385, R389: a valid message on an edge unit: valid traffic, a wake request where the unit forwards, and the forwarding of an
activity wake that waited for it. -/
def State.trafficOn (s : State) (e : Nat) : State :=
  let s := s.traffic
  let s := if s.unitForwards e then s.cancelRound else s
  if s.power.forwardOn = some e then { s with power := { s.power with forwardOn := none } }.forwardWake none else s

end Sys2Proof.Machine
end

