-- ==== Sys2Proof/Machine/Edge.lean ====
section
/-! DEFINITION. The edge units: CAN, LIN, UART, MVB, 10BASE-T1S and their message RAM (chapter 11, R255 to R263, R281 to
R284). -/
namespace Sys2Proof.Machine

open Sys2Proof

/-! ### Elements (R255, R256) -/

/-- Bits of an element's flags. -/
abbrev efTxRequest : Nat := 0
abbrev efTxDone : Nat := 1
abbrev efRxNew : Nat := 2
abbrev efOverwritten : Nat := 3
abbrev efCancelled : Nat := 4
abbrev efError : Nat := 5

/-- The flags of the element at offset `o` of cluster `w`'s message RAM. -/
def State.elemFlags (s : State) (w o : Nat) : Nat := leNat (ramRead (s.edgeRamOf w) (o + 0x0C) 2)

def State.setElemFlags (s : State) (w o v : Nat) : State :=
  s.setEdgeRam w (ramWrite (s.edgeRamOf w) (o + 0x0C) (leBytes 2 v))

/-- A whole element written: identifier, format, extra, acceptance field, flags and data, at the time now. -/
def State.writeElem (s : State) (w o id fmt extra af flags : Nat) (data : Bytes) : State :=
  s.setEdgeRam w (ramWrite (s.edgeRamOf w) o
    (leBytes 4 id ++ leBytes 1 fmt ++ leBytes 1 extra ++ leBytes 2 data.length ++ leBytes 4 af ++ leBytes 2 flags ++ fill 2 0 ++
      leBytes 8 s.gptpNs ++ data))

/-- The data of the element at an offset, up to `size` bytes. -/
def State.elemData (s : State) (w o size : Nat) : Bytes :=
  ramRead (s.edgeRamOf w) (o + 24) (min size (leNat (ramRead (s.edgeRamOf w) (o + 6) 2)))

/-- A sent element: TX_REQUEST cleared, TX_DONE set, its timestamp written. -/
def State.elemSent (s : State) (w o : Nat) : State :=
  let s := s.setElemFlags w o (setBit (setBit (s.elemFlags w o) efTxRequest false) efTxDone true)
  s.setEdgeRam w (ramWrite (s.edgeRamOf w) (o + 0x10) (leBytes 8 s.gptpNs))

/-! ### CAN (R257 to R259) -/

/-- The cluster of a CAN unit, and its partition's offset. -/
def canCluster (u : Nat) : Nat := u / 2
def canBase (u : Nat) : Nat := u % 2 * 0x4000

/-- Data bytes of an element of a CAN unit. -/
def canDataSize : Nat → Nat
  | 0 => 8 | 1 => 64 | _ => 2048

def State.canElem (s : State) (u : Nat) : Nat := 24 + canDataSize (s.n (byIdx O.dataFieldSize u))

/-- A buffer's configuration: type, identifier, mask. -/
def bufEntry (b : Bytes) (i : Nat) : Nat × Nat × Nat := (fld b (12 * i) 1, fld b (12 * i + 4) 4, fld b (12 * i + 8) 4)

/-- Elements of the configured buffers below `i` (R258): buffers of type transmit and receive take one each. -/
def buffersBelow (b : Bytes) (i : Nat) : Nat :=
  ((List.range i).filter (fun j => let t := (bufEntry b j).1; t == 1 || t == 2)).length

/-- R258: does a configuration fit the 16,384 bytes of its partition? -/
def canFits (b : Bytes) (depths size : Nat) : Bool :=
  decide ((buffersBelow b 64 + bits depths 0 8 + bits depths 8 8) * (24 + canDataSize size) ≤ 16384)

/-- R258: buffer types, and reserved bytes, of a configuration. -/
def bufferCfgOk (b : Bytes) : Bool :=
  (List.range 64).all (fun i => decide ((bufEntry b i).1 ≤ 4) && slice b (12 * i + 1) 3 == fill 3 0)

def State.bufferCfg (s : State) (u : Nat) : Bytes := s.blob (byIdx O.bufferConfiguration u)

/-- The offset of buffer `i` in the message RAM of its cluster. -/
def State.bufferOff (s : State) (u i : Nat) : Nat := canBase u + buffersBelow (s.bufferCfg u) i * s.canElem u

/-- The offset of element `k` of FIFO 0 or 1. -/
def State.fifoOff (s : State) (u f k : Nat) : Nat :=
  let n := buffersBelow (s.bufferCfg u) 64 + (if f = 1 then bits (s.n (byIdx O.fifoDepths u)) 0 8 else 0) + k
  canBase u + n * s.canElem u

/-- Does a filter match an identifier (R258)? -/
def canMatch (id fid mask : Nat) : Bool := Nat.land id mask == Nat.land fid mask

/-- The format byte of an element. -/
def canFmtByte (f : CanFrame) : Nat := f.fmt + 8 * b2n f.brs + 16 * b2n f.esi + 32 * b2n f.rtr

/-- R256, R258: a frame into an element. -/
def State.canStore (s : State) (u o flags : Nat) (f : CanFrame) : State :=
  s.writeElem (canCluster u) o f.id (canFmtByte f) f.sdt f.af flags (f.data.take (canDataSize (s.n (byIdx O.dataFieldSize u))))

/-- R258: a received frame goes to the lowest matching receive buffer, else to the FIFO of the lowest matching filter. -/
def State.canDeliver (s : State) (u : Nat) (f : CanFrame) : State :=
  let b := s.bufferCfg u
  let w := canCluster u
  let pick := fun (p : Nat → Bool) => (List.range 64).find? (fun i =>
    let c := bufEntry b i; p c.1 && canMatch f.id c.2.1 c.2.2)
  match pick (fun t => t == 2) with
  | some i =>
    let o := s.bufferOff u i
    let excess := bit (s.elemFlags w o) efRxNew
    s.canStore u o (4 + 8 * b2n excess) f
  | none =>
    match pick (fun t => t == 3 || t == 4) with
    | none => s
    | some i =>
      let k := (bufEntry b i).1 - 3
      let depth := bits (s.n (byIdx O.fifoDepths u)) (8 * k) 8
      let x := s.canSt u
      let p := if k = 0 then x.fifo0 else x.fifo1
      let o := s.fifoOff u k p
      if depth = 0 ∨ bit (s.elemFlags w o) efRxNew = true then s.inc32 (byIdx O.canOverruns u)
      else
        let s := s.canStore u o 4 f
        let p' := (p + 1) % depth
        s.setCan u (if k = 0 then { x with fifo0 := p' } else { x with fifo1 := p' })

/-- The CAN unit of the node, if it is named (R264, R285). -/
def State.nodeUnit (s : State) : Option Nat :=
  let v := s.n O.canopenUnit
  if bit v 7 then some (4 * bits v 4 3 + bits v 0 2) else none

/-- Is a frame one that the node consumes: NMT, SYNC, its SDO server, its RPDOs (R264)?  `ext`: a 29-bit identifier. -/
def State.nodeHears (s : State) (ext : Bool) (id : Nat) : Bool :=
  (!ext && (id == 0 || id == 0x600 + s.nodeId)) ||
  (id == bits (s.n O.cobIDSYNC) 0 29 && bit (s.n O.cobIDSYNC) 29 == ext) ||
  (List.range 64).any (fun n =>
    let c := s.n (byIdx O.rpdoCOBID n); !bit c 31 && bits c 0 29 == id && bit c 29 == ext)

/-- A heartbeat of another node starts every consumer entry of that node again (R264). -/
def State.hearHeartbeat (s : State) (id : Nat) : State :=
  let l := (List.range 8).filter (fun k =>
    let v := s.n (bySub O.consumerHeartbeatTime k); bits v 0 16 != 0 && id == 0x700 + bits v 16 8)
  { s with edge := { s.edge with node := { s.edge.node with hbLast := l.foldl (fun m k => ins m k s.now) s.edge.node.hbLast } } }

/-- TEC and REC as *error counters*, and the warning and passive flags (R259). -/
def State.showErrors (s : State) (u : Nat) : State :=
  let x := s.canSt u
  let s := s.setN (byIdx O.errorCounters u) (256 * satN 255 x.tec + satN 255 x.rec_)
  (s.setFlag (byIdx O.canStatus u) 1 (decide (128 ≤ x.tec ∨ 128 ≤ x.rec_))).setFlag (byIdx O.canStatus u) 2
    (decide (96 ≤ x.tec ∨ 96 ≤ x.rec_))

/-- R257: does the controller's protocol know a frame format: Classical, then FD, then XL? -/
def State.canKnows (s : State) (u fmt : Nat) : Bool :=
  match s.n (byIdx O.canProtocol u) with
  | 0 => decide (fmt ≤ 1)
  | 1 => decide (fmt ≤ 3)
  | _ => decide (fmt ≤ 4)

/-- R257, R258, R268, R271: a frame valid for the controller goes to elements, gateway cells and the node; a frame of a protocol that the
controller does not run is none of its frames. -/
def canReceive (u : Nat) (f : CanFrame) (s : State) : State :=
  if !s.edgeOn (epCan u) || s.canOff u then s.missedInRestart (epCan u) (byIdx O.canOverruns u)
  else if !s.canKnows u f.fmt then s
  else
    let s := ((s.trafficOn (epCan u)).inc64 (byIdx O.canFramesReceived u)).setFlag (byIdx O.canStatus u) 3 true
    let x := s.canSt u
    let s := (s.setCan u { x with rec_ := min 127 (x.rec_ - 1) }).showErrors u
    let s := s.canDeliver u f
    let s := (s.busIn (epCan u) (fun r =>
      gmIdent r == f.id && bits (gmOptions r) 0 3 == f.fmt && (f.fmt != 4 || gmTopo r == f.af))).foldl
        (fun (s : State) m => s.extract m f.data s.gptpNs) s
    if s.nodeUnit = some u ∧ f.fmt ≤ 1 ∧ f.rtr = false then
      let s := if f.fmt = 0 then s.hearHeartbeat f.id else s
      if s.nodeHears (f.fmt == 1) f.id = true then s.emit (.message "canopen" f.id f.data) else s
    else s

def execCanFrameReceive (t unit : Nat) (f : CanFrame) (s : State) : Host.Outcome State Fault Refusal :=
  .next (canReceive unit f (s.begin t))

/-- A frame joins the controller's pending transmissions. -/
def State.canQueue (s : State) (u : Nat) (x : CanTx) : State :=
  let c := s.canSt u
  s.setCan u { c with pending := c.pending.filter (fun t => !(t.owner == x.owner && t.num == x.num && x.owner == 2)) ++ [x] }

/-- The pending frame offered first: lowest identifier, then gateway slots, the node, buffers ascending (R258). -/
def canFirst (l : List CanTx) : Option CanTx :=
  l.foldl (fun best x =>
    match best with
    | none => some x
    | some b =>
      if canPriority x.frame < canPriority b.frame then some x
      else if canPriority x.frame = canPriority b.frame ∧ (x.owner < b.owner ∨ (x.owner = b.owner ∧ x.owner = 2 ∧ x.num < b.num)) then some x
      else some b) none

/-- The pending frame that the controller offers: of those its protocol knows (R257, R258). -/
def State.canOffer (s : State) (u : Nat) : Option CanTx := canFirst ((s.canSt u).pending.filter (fun t => s.canKnows u t.frame.fmt))

/-- May the controller send (R259)? -/
def State.canMaySend (s : State) (u : Nat) : Bool :=
  s.edgeOn (epCan u) && !s.canOff u && !bit (s.n (byIdx O.canOptions u)) 0

/-- R256, R258: the frame offered first has been sent. -/
def canTransmitDone (u : Nat) (s : State) : State :=
  if !s.canMaySend u then s
  else
    let x := s.canSt u
    match s.canOffer u with
    | none => s
    | some t =>
      let s := s.setCan u { x with pending := x.pending.erase t, tec := x.tec - 1 }
      let s := (s.inc64 (byIdx O.canFramesTransmitted u)).showErrors u
      let s := s.emit (.message "can" u (leBytes 4 t.frame.id ++ leBytes 1 (canFmtByte t.frame) ++ t.frame.data))
      if t.owner = 2 then s.elemSent (canCluster u) (s.bufferOff u t.num) else s

def execCanTransmitDone (t unit : Nat) (s : State) : Host.Outcome State Fault Refusal :=
  .next (canTransmitDone unit (s.begin t))

/-- R259: a bus error, or lost arbitration; with NO_RETRANSMIT the frame is not retried and its element returns with ERROR. -/
def canBusError (u : Nat) (transmitting arbitration : Bool) (s : State) : State :=
  if !s.edgeOn (epCan u) || s.canOff u then s
  else
    let x := s.canSt u
    let listen := bit (s.n (byIdx O.canOptions u)) 0
    let s := if arbitration then s
      else
        let s := if listen then s
          else s.setCan u (if transmitting then { x with tec := x.tec + 8 } else { x with rec_ := x.rec_ + 1 })
        (s.inc32 (byIdx O.busErrors u)).showErrors u
    if (transmitting || arbitration) && s.canMaySend u && bit (s.n (byIdx O.canOptions u)) 3 then
      let x := s.canSt u
      match s.canOffer u with
      | none => s
      | some t =>
        let s := s.setCan u { x with pending := x.pending.erase t }
        if t.owner = 2 then
          let w := canCluster u
          let o := s.bufferOff u t.num
          s.setElemFlags w o (setBit (setBit (s.elemFlags w o) efTxRequest false) efError true)
        else s
    else s

def execCanBusError (t unit : Nat) (transmitting arbitration : Bool) (s : State) : Host.Outcome State Fault Refusal :=
  .next (canBusError unit transmitting arbitration (s.begin t))

/-- R259: the transmit error counter has passed 255: bus-off; AUTO_RECOVERY starts the recovery count. -/
def busOff (u : Nat) (s : State) : State :=
  let x := s.canSt u
  if s.edgeOn (epCan u) && !s.canOff u && decide (256 ≤ x.tec) then
    let s := (s.setFlag (byIdx O.canStatus u) 0 true).inc32 (byIdx O.busOffEvents u)
    s.setCan u { x with recovering := bit (s.n (byIdx O.canOptions u)) 1 }
  else s

def execBusOff (t unit : Nat) (s : State) : Host.Outcome State Fault Refusal := .next (busOff unit (s.begin t))

/-- R259: a write of *bus-off recovery* starts the count. -/
def busOffRecovery (u : Nat) (_ : Session) (s : State) : Status × State :=
  if s.canOff u then (.ok, s.setCan u { s.canSt u with recovering := true }) else (.ok, s)

def execBusOffRecovery (t : Nat) (who : Who) (unit : Nat) (s : State) : Host.Outcome State Fault Refusal :=
  cmdRow t who (0x2800 + unit) 0x11 1 (busOffRecovery unit) s

/-- R259: 128 times 11 recessive bits have been seen: the controller is error active again. -/
def busOffRecovered (u : Nat) (s : State) : State :=
  let x := s.canSt u
  if s.canOff u && x.recovering && s.edgeOn (epCan u) then
    ((s.setFlag (byIdx O.canStatus u) 0 false).setCan u { x with tec := 0, rec_ := 0, recovering := false }).showErrors u
  else s

def execBusOffRecovered (t unit : Nat) (s : State) : Host.Outcome State Fault Refusal :=
  .next (busOffRecovered unit (s.begin t))

/-! ### Transmit requests (R255, R256) -/

/-- R256: an owner sets TX_REQUEST on the transmit element at an offset of a cluster's message RAM. -/
def edgeTxRequest (w o : Nat) (s : State) : State :=
  let d := w / 2
  let ask := fun (s : State) => s.setElemFlags w o (setBit (setBit (s.elemFlags w o) efTxRequest true) efTxDone false)
  if o < 0x8000 then
    let u := 2 * w + o / 0x4000
    match (List.range 64).find? (fun i => (bufEntry (s.bufferCfg u) i).1 == 1 && s.bufferOff u i == o) with
    | none => s
    | some i =>
      if !s.edgeOn (epCan u) then s
      else
        let s := ask s
        let h := ramRead (s.edgeRamOf w) o 24
        let fb := fld h 4 1
        let f : CanFrame := { fmt := bits fb 0 3, id := fld h 0 4, brs := bit fb 3, esi := bit fb 4, rtr := bit fb 5, sdt := fld h 5 1, af := fld h 8 4, data := s.elemData w o (canDataSize (s.n (byIdx O.dataFieldSize u))) }
        s.canQueue u ⟨2, i, f⟩
  else if o < 0x8400 then
    if o % 32 = 0 ∧ 16 ≤ (o - 0x8000) / 32 ∧ s.edgeOn (epEdge d 1 (w % 2)) = true then ask s else s
  else if o < 0x9000 then
    if (o - 0x8400) % 280 = 0 ∧ 6 ≤ (o - 0x8400) / 280 ∧ (o - 0x8400) / 280 < 10 ∧ s.edgeOn (epEdge d 2 (w % 2)) = true then
      let x := s.uartSt w
      (ask s).setUart w { x with waiting := x.waiting.filter (fun q => q != o) ++ [o] }
    else s
  else s

def execEdgeTxRequest (t cluster off : Nat) (s : State) : Host.Outcome State Fault Refusal :=
  .next (edgeTxRequest cluster off (s.begin t))

/-! ### LIN (R260) -/

def epLin (u : Nat) : Nat := epEdge (u / 2) 1 (u % 2)

/-- The host transmit element of an identifier with TX_REQUEST set. -/
def State.linElem (s : State) (u id : Nat) : Option Nat :=
  ((List.range 16).map (fun k => 0x8000 + 32 * (16 + k))).find? (fun o =>
    bit (s.elemFlags u o) efTxRequest && leNat (ramRead (s.edgeRamOf u) o 4) % 64 == id)

/-- Data the unit answers a header with: a gateway slot, else a host element (R260). -/
def State.linAnswer (s : State) (u id : Nat) : Option Bytes :=
  match look (s.linSt u).slots id with
  | some b => some b
  | none => (s.linElem u id).map (fun o => s.elemData u o 8)

/-- A header is on the bus: it is answered, or its response awaited. -/
def State.linHeader (s : State) (u id : Nat) : State :=
  let x := s.linSt u
  match s.linAnswer u id with
  | some b => (s.setLin u { x with header := none, sending := some id }).emit (.message "lin" (64 * u + id) b)
  | none => s.setLin u { x with header := some id, sending := none }

/-- R260: the schedules of commanders newly in service begin at this boundary. -/
def State.beginSchedules (s : State) : State :=
  (List.range 16).foldl (fun (s : State) u =>
    if s.edgeOn (epLin u) && s.n (byIdx O.linRole u) == 0 && (s.linSt u).due == 0 then s.setLin u { s.linSt u with due := max 1 s.tickNo }
    else s) s

/-- R260: the delay of the last schedule entry is over: the commander sends the next header. -/
def linScheduleEntry (u : Nat) (s : State) : State :=
  let l := s.blob (byIdx O.linSchedule u)
  let x := s.linSt u
  let n := l.length / 4
  if s.edgeOn (epLin u) && s.n (byIdx O.linRole u) == 0 && decide (0 < n) && x.due != 0 && decide (x.due ≤ s.tickNo) &&
      !s.flag (byIdx O.linStatus u) 0 then
    let p := x.pos % n
    let id := fld l (4 * p) 1 % 64
    let s := s.setLin u { x with pos := (p + 1) % n, due := s.tickNo + fld l (4 * p + 2) 2 }
    let s := s.setFlag (byIdx O.linStatus u) 1 true
    (s.emit (.message "lin-header" u [BitVec.ofNat 8 id])).linHeader u id
  else s

def execLinScheduleEntry (t unit : Nat) (s : State) : Host.Outcome State Fault Refusal :=
  .next (linScheduleEntry unit (s.begin t))

/-- R260: activity on the bus ends SLEEP; a responder that hears a header answers it or awaits its response. -/
def linHeaderReceive (u id : Nat) (s : State) : State :=
  if s.edgeOn (epLin u) then
    let s := (s.setFlag (byIdx O.linStatus u) 0 false).setFlag (byIdx O.linStatus u) 1 true
    if s.n (byIdx O.linRole u) = 1 then s.linHeader u (id % 64) else s
  else s

def execLinHeaderReceive (t unit id : Nat) (s : State) : Host.Outcome State Fault Refusal :=
  .next (linHeaderReceive unit id (s.begin t))

/-- R260: the checksum model of a received identifier: classic for 60 and 61 and above, else as its IN message sets it, and enhanced where
no message names it (DESIGN CHOICE). -/
def State.linEnhanced (s : State) (u id : Nat) : Bool :=
  decide (id < 60) && (match (s.busIn (epLin u) (fun r => gmIdent r == id)).head? with
    | some m => bit (gmOptions (s.message m)) 0
    | none => true)

/-- R256, R260, R271: a response completes: a wrong checksum is counted, a right one goes to the ring and the gateway; a LIN unit has no
object that counts the overruns of its ring. -/
def linResponse (u : Nat) (b : Bytes) (ok : Bool) (s : State) : State :=
  let x := s.linSt u
  match x.header with
  | none => s
  | some id =>
    if !s.edgeOn (epLin u) then s
    else
      let s := s.setLin u { x with header := none }
      if !ok then s.inc32 (byIdx O.linChecksumErrors u)
      else
        let s := (s.trafficOn (epLin u)).inc64 (byIdx O.linFrames u)
        let o := 0x8000 + 32 * (x.ring % 16)
        let s := if bit (s.elemFlags u o) efRxNew then s
          else (s.writeElem u o id 0 (b2n (s.linEnhanced u id)) 0 4 (b.take 8)).setLin u { x with header := none, ring := (x.ring + 1) % 16 }
        (s.busIn (epLin u) (fun r => gmIdent r == id)).foldl (fun (s : State) m => s.extract m b s.gptpNs) s

def execLinResponseReceive (t unit : Nat) (data : Bytes) (sumOk : Bool) (s : State) : Host.Outcome State Fault Refusal :=
  .next (linResponse unit data sumOk (s.begin t))

/-- R260: no complete response in time. -/
def linNoResponse (u : Nat) (s : State) : State :=
  let x := s.linSt u
  if x.header.isSome && s.edgeOn (epLin u) then (s.setLin u { x with header := none }).inc32 (byIdx O.linNoResponseErrors u) else s

def execLinNoResponse (t unit : Nat) (s : State) : Host.Outcome State Fault Refusal := .next (linNoResponse unit (s.begin t))

/-- R260: go-to-sleep silences the unit. -/
def linGoToSleep (u : Nat) (s : State) : State :=
  if s.edgeOn (epLin u) then
    let s := (s.setFlag (byIdx O.linStatus u) 0 true).setFlag (byIdx O.linStatus u) 1 false
    s.setLin u { s.linSt u with header := none, sending := none }
  else s

def execLinGoToSleep (t unit : Nat) (s : State) : Host.Outcome State Fault Refusal := .next (linGoToSleep unit (s.begin t))

/-! ### UART (R261) -/

def epUart (u : Nat) : Nat := epEdge (u / 2) 2 (u % 2)

/-- The identifier of a message (R261). -/
def uartIdent (mode : Nat) (c : List Nat) : Nat :=
  if mode = 0 then c.headD 0 % 512 else if mode = 1 then c.headD 0 % 256 else c.headD 0 % 256 * 256 + (c.getD 1 0) % 256

/-- R261: does an RS-485 unit drive DE?  In half-duplex mode it does while it has a message to send. -/
def State.drivesDe (s : State) (u : Nat) : Bool :=
  bit (s.n (byIdx O.characterFormat u)) 5 && (!(s.uartSt u).slots.isEmpty || !(s.uartSt u).waiting.isEmpty)

/-- R256, R261, R271: a message ends: what comes while DE is driven is ignored; other addresses are ignored; errors flag it and keep it from the gateway. -/
def uartMessage (u : Nat) (c : List Nat) (errors : Nat) (s : State) : State :=
  if c.isEmpty then s
  else if !s.edgeOn (epUart u) then s.missedInRestart (epUart u) (byIdx O.uartOverruns u)
  else if s.drivesDe u then s
  else
    let mode := s.n (byIdx O.identifierBytes u)
    let id := uartIdent mode c
    let own := s.n (byIdx O.ownAddress u)
    let s := s.addTo (byIdx O.uartCharacterErrors u) errors (2 ^ 32 - 1)
    if mode = 0 ∧ own ≠ 0x1FF ∧ id ≠ own then s
    else
      let long := decide (256 < c.length)
      let b : Bytes := (c.take 256).map (BitVec.ofNat 8)
      let bad := long || decide (0 < errors)
      let s := (s.trafficOn (epUart u)).inc64 (byIdx O.uartMessages u)
      let s := if long then s.inc32 (byIdx O.uartOverruns u) else s
      let x := s.uartSt u
      let o := 0x8400 + 280 * (x.ring % 6)
      let s := if bit (s.elemFlags u o) efRxNew then s.inc32 (byIdx O.uartOverruns u)
        else (s.writeElem u o id 0 0 0 (4 + 32 * b2n bad) b).setUart u { x with ring := (x.ring + 1) % 6 }
      if bad then s
      else (s.busIn (epUart u) (fun r => gmIdent r == id)).foldl (fun (s : State) m => s.extract m b s.gptpNs) s

def execUartMessageEnd (t unit : Nat) (chars : List Nat) (errors : Nat) (s : State) : Host.Outcome State Fault Refusal :=
  .next (uartMessage unit chars errors (s.begin t))

/-! ### MVB (R262) -/

/-- A port's configuration: kind and F-code. -/
def State.mvbPort (s : State) (d a : Nat) : Nat × Nat :=
  let b := fld (s.blob (byIdx O.mvbPorts d)) a 1
  (bits b 6 2, bits b 0 3)

/-- A port of the traffic store. -/
def State.mvbData (s : State) (d a : Nat) : MvbPort := get {} s.edge.mvb (4096 * d + a)

/-- R262: which lines carried a valid frame: the controller switches away from a bad line. -/
def State.mvbLines (s : State) (d : Nat) (a b : Bool) : State :=
  let k := byIdx O.lineStatus d
  let onB := s.flag k 2
  let move := if onB then !b && a else !a && b
  let s := ((s.setFlag k 0 a).setFlag k 1 b).setFlag k 2 (if move then !onB else onB)
  if move then s.inc32 (byIdx O.lineSwitchovers d) else s

/-- A source port answers with its data, made up to the F-code's size. -/
def State.mvbAnswer (s : State) (d a : Nat) : State :=
  let p := s.mvbPort d a
  let n := 2 * 2 ^ p.2
  (s.emit (.message "mvb" (4096 * d + a) (((s.mvbData d a).data ++ fill n 0).take n))).inc64 (byIdx O.mvbFrames d)

/-- R262: a basic period of the bus administrator: every due entry's master frame, answered where the port is its own. -/
def mvbBasicPeriod (d : Nat) (s : State) : State :=
  if !s.edgeOn (epMvb d) || s.n (byIdx O.mvbRole d) != 1 then s
  else
    let t := s.blob (byIdx O.masterFrameTable d)
    let b := s.gptpNs / 1000000
    ((List.range (t.length / 4)).filter (fun e => b % 2 ^ fld t (4 * e + 3) 1 == e % 2 ^ fld t (4 * e + 3) 1)).foldl
      (fun (s : State) e =>
        let a := fld t (4 * e) 2 % 4096
        let s := s.emit (.message "mvb-master" (4096 * d + a) [BitVec.ofNat 8 (fld t (4 * e + 2) 1)])
        if (s.mvbPort d a).1 = 1 then s.mvbAnswer d a else s) s

def execMvbBasicPeriod (t die : Nat) (s : State) : Host.Outcome State Fault Refusal := .next (mvbBasicPeriod die (s.begin t))

/-- R262: a device hears a master frame: source ports answer, and so does a device-status request for its address (F-code
15; the status word's content is not given). -/
def mvbMasterFrame (d fcode a : Nat) (la lb : Bool) (s : State) : State :=
  if !s.edgeOn (epMvb d) then s
  else
    let s := s.mvbLines d la lb
    if !la && !lb then s.inc32 (byIdx O.mvbFrameErrors d)
    else
      let s := (s.trafficOn (epMvb d)).inc64 (byIdx O.mvbFrames d)
      let p := s.mvbPort d a
      if fcode ≤ 4 then (if p.1 = 1 ∧ p.2 = fcode then s.mvbAnswer d a else s)
      else if fcode = 15 ∧ a = s.n (byIdx O.mvbDeviceAddress d) then
        (s.emit (.message "mvb" (4096 * d + a) (beBytes 2 (s.free % 65536)))).drawn
      else s

def execMvbMasterFrame (t die fcode addr : Nat) (lineA lineB : Bool) (s : State) : Host.Outcome State Fault Refusal :=
  .next (mvbMasterFrame die fcode addr lineA lineB (s.begin t))

/-- R262: a slave frame updates a sink port of its size; a frame bad on both lines, or none in time, is an error. -/
def mvbSlaveFrame (d a : Nat) (b : Bytes) (la lb : Bool) (s : State) : State :=
  if !s.edgeOn (epMvb d) then s
  else
    let s := s.mvbLines d la lb
    let p := s.mvbPort d a
    if (!la && !lb) || (p.1 == 2 && b.length != 2 * 2 ^ p.2) then s.inc32 (byIdx O.mvbFrameErrors d)
    else
      let s := (s.trafficOn (epMvb d)).inc64 (byIdx O.mvbFrames d)
      if p.1 = 2 then
        let s := { s with edge := { s.edge with mvb := ins s.edge.mvb (4096 * d + a) ⟨b, s.gptpNs⟩ } }
        (s.busIn (epMvb d) (fun r => gmIdent r % 4096 == a && gmEnable r)).foldl (fun (s : State) m =>
          s.setMsg m { s.msgSt m with count := satN (2 ^ 64 - 1) ((s.msgSt m).count + 1), ts := s.gptpNs }) s
      else s

def execMvbSlaveFrame (t die addr : Nat) (data : Bytes) (lineA lineB : Bool) (s : State) : Host.Outcome State Fault Refusal :=
  .next (mvbSlaveFrame die addr data lineA lineB (s.begin t))

/-! ### 10BASE-T1S (R263) -/

def epT1s (d : Nat) : Nat := epEdge d 4 0

/-- R255, R263, R268: a frame from PLCA node `node`: too long or wrong, it is discarded and counted; otherwise it goes through the unit's
one receive element to the gateway only, which has read it at once: its RX_NEW is clear again. -/
def t1sReceive (d : Nat) (b : Bytes) (node : Nat) (ok : Bool) (s : State) : State :=
  if !s.edgeOn (epT1s d) then s.missedInRestart (epT1s d) (byIdx O.t1sErrors d)
  else if !ok ∨ 1518 < b.length + 4 then s.inc32 (byIdx O.t1sErrors d)
  else
    let s := (s.trafficOn (epT1s d)).inc64 (byIdx O.t1sFramesReceived d)
    let s := s.writeElem (2 * d + 1) 0x9000 (fldBE b 12 2 * 65536 + node % 256) 0 0 0 0 (b.take 1514)
    (s.busIn (epT1s d) (fun r => gmIdent r / 65536 == fldBE b 12 2 && gmIdent r % 256 == node)).foldl
      (fun (s : State) m => s.extract m (b.drop 14) s.gptpNs) s

def execT1sFrameReceive (t die : Nat) (bytes : Bytes) (node : Nat) (ok : Bool) (s : State) : Host.Outcome State Fault Refusal :=
  .next (t1sReceive die bytes node ok (s.begin t))

/-! ### Completion of other buses (R256) -/

/-- R256, R272: a LIN (kind 1), UART (2) or 10BASE-T1S (4) unit has finished sending a message. -/
def txDone (kind u : Nat) (s : State) : State :=
  if kind = 1 then
    let x := s.linSt u
    match x.sending with
    | none => s
    | some id =>
      let s := (s.setLin u { x with sending := none }).inc64 (byIdx O.linFrames u)
      if (look x.slots id).isSome then s
      else
        match s.linElem u id with
        | some o => s.elemSent u o
        | none => s
  else if kind = 2 then
    let x := s.uartSt u
    if !s.edgeOn (epUart u) then s
    else
      match x.slots, x.waiting with
      | (m, b) :: rest, _ => (s.setUart u { x with slots := rest }).emit (.message "uart" (8192 * u + m) b)
      | [], o :: rest =>
        let s := (s.setUart u { x with waiting := rest }).emit (.message "uart" u (s.elemData u o 256))
        s.elemSent u o
      | [], [] => s
  else if kind = 4 then
    let x := s.t1sSt u
    if !s.edgeOn (epT1s u) then s
    else
      match x.slots with
      | (m, b) :: rest =>
        let w := 2 * u + 1
        let s := (s.setT1s u { x with slots := rest }).inc64 (byIdx O.t1sFramesSent u)
        let s := s.writeElem w (0x9000 + 1538) (gmIdent (s.message m)) 0 0 0 (2 ^ efTxDone) (b.take 1514)
        s.emit (.message "t1s" u b)
      | [] => s
  else s

def execTxDone (t kind unit : Nat) (s : State) : Host.Outcome State Fault Refusal := .next (txDone kind unit (s.begin t))

/-! ### Draining a disabled unit (R281) -/

/-- R281: pending buffers and slots of a CAN unit are cancelled, CANCELLED set on host elements. -/
def State.cancelCan (s : State) (u : Nat) : State :=
  let x := s.canSt u
  let s := (x.pending.filter (fun t => t.owner == 2)).foldl (fun (s : State) t =>
    let w := canCluster u
    let o := s.bufferOff u t.num
    s.setElemFlags w o (setBit (setBit (s.elemFlags w o) efTxRequest false) efCancelled true)) s
  let s := s.setCan u { x with pending := [], recovering := false, tec := 0, rec_ := 0 }
  (s.setN (byIdx O.canStatus u) 0).setN (byIdx O.errorCounters u) 0

/-- R281: a UART's waiting messages are cancelled. -/
def State.cancelUart (s : State) (u : Nat) : State :=
  let x := s.uartSt u
  let s := x.waiting.foldl (fun (s : State) o =>
    s.setElemFlags u o (setBit (setBit (s.elemFlags u o) efTxRequest false) efCancelled true)) s
  s.setUart u { x with slots := [], waiting := [] }

/-- R281: a LIN unit's transmit elements are cancelled. -/
def State.cancelLin (s : State) (u : Nat) : State :=
  let offs := ((List.range 16).map (fun k => 0x8000 + 32 * (16 + k))).filter (fun o => bit (s.elemFlags u o) efTxRequest)
  let s := offs.foldl (fun (s : State) o =>
    s.setElemFlags u o (setBit (setBit (s.elemFlags u o) efTxRequest false) efCancelled true)) s
  (s.setLin u {}).setN (byIdx O.linStatus u) 0

/-- R281: whatever a unit that is no longer enabled had pending is cancelled. -/
def State.drainUnits (s : State) : State :=
  let s := (List.range 32).foldl (fun (s : State) u =>
    if s.n (byIdx O.canEnable u) = 0 ∧ s.canSt u ≠ {} then s.cancelCan u else s) s
  let s := (List.range 16).foldl (fun (s : State) u =>
    let s := if s.n (byIdx O.uartEnable u) = 0 ∧ s.uartSt u ≠ {} then s.cancelUart u else s
    if s.n (byIdx O.linEnable u) = 0 ∧ s.linSt u ≠ {} then s.cancelLin u else s) s
  (List.range 8).foldl (fun (s : State) d => if s.n (byIdx O.t1sEnable d) = 0 ∧ s.t1sSt d ≠ {} then s.setT1s d {} else s) s

/-! ### Counters (R282 to R284) -/

/-- The index, the clear object's subindex and the counters of an edge unit: kinds 0 CAN to 4 10BASE-T1S. -/
def edgeCounters (kind u : Nat) : Nat × Nat × List Nat :=
  match kind with
  | 0 => (0x2800 + u, 0x12, [byIdx O.canFramesReceived u, byIdx O.canFramesTransmitted u, byIdx O.busErrors u, byIdx O.busOffEvents u, byIdx O.canOverruns u])
  | 1 => (0x2820 + u, 0x09, [byIdx O.linFrames u, byIdx O.linChecksumErrors u, byIdx O.linNoResponseErrors u])
  | 2 => (0x2830 + u, 0x0B, [byIdx O.uartMessages u, byIdx O.uartCharacterErrors u, byIdx O.uartOverruns u])
  | 3 => (0x2840 + u, 0x0A, [byIdx O.mvbFrames u, byIdx O.lineSwitchovers u, byIdx O.mvbFrameErrors u])
  | _ => (0x2848 + u, 0x08, [byIdx O.t1sFramesReceived u, byIdx O.t1sFramesSent u, byIdx O.t1sErrors u])

def clearEdge (kind u : Nat) (_ : Session) (s : State) : Status × State := (.ok, s.clearAll (edgeCounters kind u).2.2)

def execClearEdgeCounters (t : Nat) (who : Who) (kind unit : Nat) (s : State) : Host.Outcome State Fault Refusal :=
  cmdRow t who (edgeCounters kind unit).1 (edgeCounters kind unit).2.1 1 (clearEdge kind unit) s

/-- R284: the port data a session's window shows. -/
def State.portWindow (s : State) (d first count : Nat) : Bytes :=
  (List.range count).flatMap (fun i =>
    let p := s.mvbData d (first + i)
    ((p.data ++ fill 32 0).take 32) ++ leBytes 8 p.ts)

end Sys2Proof.Machine
end

