-- ==== Sys2Proof/Machine/Keys.lean ====
section
/-! DEFINITION. Cairn's key tree: roots, slots, derivation, import, holders and their MRAM copies (chapter 13, R304 to R317,
R329). -/
namespace Sys2Proof.Machine

open Sys2Proof

/-! ### Slot records (R310, R311) -/

/-- A slot record in force. -/
def State.slotRec (s : State) (k : Nat) : Bytes := s.blob (at_ O.cairnSlotRecords k)

def ksKind (r : Bytes) : Nat := fld r 2 1
def ksType (r : Bytes) : Nat := fld r 3 1
def ksParent (r : Bytes) : Nat := fld r 4 2
def ksDepth (r : Bytes) : Nat := fld r 6 1
def ksAttr (r : Bytes) : Nat := fld r 8 4
def ksGen (r : Bytes) : Nat := fld r 0x0C 4
def ksLabel (r : Bytes) : Bytes := slice r 0x10 32

/-- The package root as a parent. -/
abbrev rootSlot : Nat := 0xFFFE

/-- Bits of the attribute field (R311). -/
abbrev kaDERIVE : Nat := 4
abbrev kaSIGN : Nat := 5
abbrev kaCORE : Nat := 8
abbrev kaPCIE : Nat := 9
abbrev kaSPI : Nat := 10
abbrev kaSPEWARD : Nat := 11
abbrev kaMACSEC : Nat := 12
abbrev kaNORMAL : Nat := 14
abbrev kaSECURE : Nat := 15

/-- Reserved bits and encodings of the attributes (R311). -/
def attrOk (a : Nat) : Bool :=
  bits a 30 2 == 0 && bits a 20 4 == 0 && decide (bits a 17 3 ≤ 4) && !bit a 16 && !bit a 13 && bits a 6 2 == 0

/-- A record as a window write leaves it: the record written there, else the one in force. -/
def State.recAfter (s : State) (first : Nat) (b : Bytes) (k : Nat) : Bytes :=
  if first ≤ k ∧ k < first + b.length / 48 then slice b (48 * (k - first)) 48 else s.slotRec k

/-- R310: a written record at its window position, its parent as the same write leaves it. -/
def State.slotRecOk (s : State) (first : Nat) (b : Bytes) (k : Nat) : Bool :=
  let r := s.recAfter first b k
  let p := s.recAfter first b (ksParent r)
  fld r 0 2 == k && decide (k < 1024) && decide (ksKind r ≤ 2) && decide (ksType r ≤ 5) && fld r 7 1 == 0 && ksGen r == 0 &&
    attrOk (ksAttr r) &&
    (ksKind r == 0 ||
      ((ksKind r == 1 || (decide (1 ≤ ksType r) && decide (ksType r ≤ 4))) && (ksType r != 0 || bit (ksAttr r) kaDERIVE) &&
       decide (1 ≤ ksDepth r) && decide (ksDepth r ≤ 8) &&
       (if ksParent r = rootSlot then ksDepth r == 1
        else decide (ksParent r < 1024) && ksKind p == 1 && ksType p == 0 && ksDepth r == ksDepth p + 1)))

/-- Is a slot the parent of another (R313)? -/
def State.isParent (s : State) (k : Nat) : Bool :=
  (keys s.dict.blobs).any (fun x => muxOf x == O.cairnSlotRecords && ksKind (s.blob x) == 1 && ksParent (s.blob x) == k)

/-! ### Derivation (R305 to R309) -/

/-- Is die `d`'s root usable? -/
def State.rootOk (s : State) (d : Nat) : Bool := bit s.cairn.roots d && !bit s.cairn.destroyed d

/-- The root of a die: it never leaves the die (R304). -/
def rootKey (d : Nat) : Bytes := Config.crypto 0 [leBytes 1 d]

/-- The derivation function of R308: HMAC-SHA-384 over the 43-byte input. -/
def kdf (parent label : Bytes) (ctx1 ctx2 : Nat) : Bytes :=
  Config.crypto 1 [parent, beBytes 4 1 ++ label ++ [0] ++ beBytes 1 ctx1 ++ beBytes 1 ctx2 ++ beBytes 4 0x180]

/-- An ASCII label, zero-padded to 32 bytes. -/
def labelOf (t : List Nat) : Bytes := (t.map (BitVec.ofNat 8) ++ fill 32 0).take 32

/-- "KREREX-AX8-". -/
def labelHead : List Nat := [0x4B, 0x52, 0x45, 0x52, 0x45, 0x58, 0x2D, 0x41, 0x58, 0x38, 0x2D]

/-- KREREX-AX8-IDEVID. -/
def labelIdevid : Bytes := labelOf (labelHead ++ [0x49, 0x44, 0x45, 0x56, 0x49, 0x44])
/-- KREREX-AX8-IMPORT-PAIR. -/
def labelImport : Bytes := labelOf (labelHead ++ [0x49, 0x4D, 0x50, 0x4F, 0x52, 0x54, 0x2D, 0x50, 0x41, 0x49, 0x52])
/-- KREREX-AX8-STORAGE. -/
def labelStorage : Bytes := labelOf (labelHead ++ [0x53, 0x54, 0x4F, 0x52, 0x41, 0x47, 0x45])
/-- KREREX-AX8-TRANSPORT. -/
def labelTransport : Bytes := labelOf (labelHead ++ [0x54, 0x52, 0x41, 0x4E, 0x53, 0x50, 0x4F, 0x52, 0x54])
/-- KREREX-AX8-PAIR. -/
def labelPair : Bytes := labelOf (labelHead ++ [0x50, 0x41, 0x49, 0x52])
/-- KREREX-AX8-KEY-IMPORT. -/
def labelKeyImport : Bytes :=
  labelOf (labelHead ++ [0x4B, 0x45, 0x59, 0x2D, 0x49, 0x4D, 0x50, 0x4F, 0x52, 0x54])

/-- The order of the group of P-384. -/
def orderP384 : Nat :=
  0xFFFFFFFFFFFFFFFFFFFFFFFFFFFFFFFFFFFFFFFFFFFFFFFFC7634D81F4372DDF581A0DB248B0A77AECEC196ACCC52973

/-- The value a key type uses of a 48-byte output (R309). -/
def keyUse (ty : Nat) (v : Bytes) : Bytes :=
  if ty = 1 then v.take 16 else if ty = 2 then v.take 24 else if ty = 3 then v.take 32
  else if ty = 5 then beBytes 48 (beNat v % (orderP384 - 1) + 1) else v

/-- The identity key and the import key pair of R306. -/
def identityKey : Bytes := keyUse 5 (kdf (rootKey 0) labelIdevid 1 5)
def importKey : Bytes := keyUse 5 (kdf (rootKey 0) labelImport 1 5)

/-- The transport key pair and the storage key of a die (R306). -/
def transportKey (d : Nat) : Bytes := keyUse 5 (kdf (rootKey d) labelTransport 1 5)
def storageKey (d : Nat) : Bytes := keyUse 3 (kdf (rootKey d) labelStorage 1 3)

/-- The pairwise key of the anchor and a die: ECDH between the transport key pairs, then R308 with the context (0, d) (R307). -/
def pairKey (d : Nat) : Bytes :=
  (kdf (Config.crypto 3 [transportKey 0, Config.crypto 2 [transportKey d]]) labelPair 0 d).take 32

/-- A value as it crosses Saddle to a die: wrapped by AES-256-KW under the pairwise key (R307). -/
def wrapFor (d : Nat) (v : Bytes) : Bytes := Config.crypto 5 [pairKey d, v]

/-- The 48-byte value of a slot on the anchor: derived along its path, or imported; `none` where the path is broken, a root is
gone or a value is awaited. -/
def State.slotValue (s : State) : Nat → Nat → Option Bytes
  | 0, _ => none
  | f + 1, k =>
    let r := s.slotRec k
    if ksKind r = 2 then look s.cairn.leaves k
    else if ksKind r = 1 then
      let p := ksParent r
      let parent :=
        if p = rootSlot then (if s.rootOk 0 then some (rootKey 0) else none)
        else if ksKind (s.slotRec p) = 1 ∧ bit (ksAttr (s.slotRec p)) kaDERIVE then s.slotValue f p else none
      parent.map (fun v => kdf v (ksLabel r) (ksDepth r) (ksType r))
    else none

/-- Every ancestor up to the root is of kind 1 and has DERIVE set (R312). -/
def State.ancestorsOk (s : State) : Nat → Nat → Bool
  | 0, _ => false
  | f + 1, k =>
    let p := ksParent (s.slotRec k)
    ksKind (s.slotRec k) == 2 || p == rootSlot ||
      (ksKind (s.slotRec p) == 1 && bit (ksAttr (s.slotRec p)) kaDERIVE && s.ancestorsOk f p)

/-- R312: may a master invoke a slot: its master bit, its world (0 none, 1 normal, 2 secure), the role of a Speward job, the
life-cycle state, and the use bit? -/
def State.keyAllowed (s : State) (k master world : Nat) (role : Option Role) (use : Nat) : Bool :=
  let a := ksAttr (s.slotRec k)
  ksKind (s.slotRec k) != 0 && bit a master && (world == 0 || bit a (if world = 2 then kaSECURE else kaNORMAL)) &&
    (match role with | some r => decide (bits a 17 3 ≤ r.code) | none => true) &&
    bit a (24 + s.n O.lifeCycleState) && bit a use && s.ancestorsOk 9 k

/-! ### Caches and requests (R307, R315, R321) -/

/-- Are keys neither derived, unwrapped nor reloaded, because of a tamper response (R321)? -/
def State.keysLocked (s : State) : Bool := s.n O.tamperState != 0 || s.pkg.tamperHold

/-- Can the anchor derive and wrap keys (R23, R307)? -/
def State.anchorUp (s : State) : Bool := s.dieUp 0 && !s.pkg.anchorLost && s.rootOk 0

/-- Does a die hold a slot's value in its key cache? -/
def State.holds (s : State) (d k : Nat) : Bool := bit (get 0 s.cairn.cache k) d && s.dieUp d

/-- A die's cache takes a value. -/
def State.cacheKey (s : State) (d k : Nat) : State :=
  { s with cairn := { s.cairn with cache := upd 0 s.cairn.cache k (fun m => setBit m d true) } }

/-- A slot record as a window shows it, with its holder mask (R310). -/
def State.slotShown (s : State) (k : Nat) : Bytes := patch (s.slotRec k) 7 (leBytes 1 (get 0 s.cairn.cache k))

/-- R307: a die needs a key: the anchor derives it, wraps it under the pairwise key and sends it. -/
def keyRequest (d k : Nat) (s : State) : State :=
  if !s.dieUp d || s.keysLocked || !s.anchorUp || bit (s.n O.transportMismatches) d || !s.rootOk d || s.holds d k ||
      s.cairn.requests.contains (d, k) || (s.slotValue 9 k).isNone || !bit (ksAttr (s.slotRec k)) (24 + s.n O.lifeCycleState) then s
  else
    let s := { s with cairn := { s.cairn with requests := s.cairn.requests ++ [(d, k)] } }
    if d = 0 then s else s.emit (.message "key" (1024 * d + k) (wrapFor d ((s.slotValue 9 k).getD [])))

def execKeyRequest (t die slot : Nat) (s : State) : Host.Outcome State Fault Refusal := .next (keyRequest die slot (s.begin t))

/-- The 128 bytes of a copy as a die's MRAM holds them: the value wrapped under the die's storage key, and the tag (R316). -/
def KeyCopy.bytes (c : KeyCopy) (d : Nat) : Bytes :=
  let g := leBytes 4 c.gen
  let body := (c.record ++ fill 48 0).take 48 ++ (Config.crypto 5 [storageKey d, (c.value ++ fill 48 0).take 48] ++ fill 56 0).take 56
  g ++ leBytes 1 (if c.committed then 3 else 1) ++ fill 3 0 ++ body ++ (Config.crypto 6 [storageKey d, g ++ body] ++ fill 16 0).take 16

/-- One more MRAM copy of a slot on a die: it takes the place of the older of two (R316). -/
def State.addCopy (s : State) (d k : Nat) (c : KeyCopy) : State :=
  { s with cairn := { s.cairn with copies := upd [] s.cairn.copies (1024 * d + k) (fun l => (c :: l).take 2) } }

/-- R307, R315, R316: the wrapped key arrives, is unwrapped into the die's cache, and the die keeps its copy. -/
def keyDelivered (d k : Nat) (s : State) : State :=
  if !s.cairn.requests.contains (d, k) then s
  else
    let s := { s with cairn := { s.cairn with requests := s.cairn.requests.filter (fun x => x != (d, k)) } }
    if !s.dieUp d || s.keysLocked then s
    else
      let r := s.slotRec k
      let c : KeyCopy := { gen := ksGen r, committed := true, record := r, value := (s.slotValue 9 k).getD [] }
      let same := (get [] s.cairn.copies (1024 * d + k)).any (fun x => x.gen == c.gen)
      (if same then s else s.addCopy d k c).cacheKey d k

/-- *slots in use*, *imported leaves in use* and *imported leaves awaiting value* brought up to date (R329). -/
def State.refreshSlots (s : State) : State :=
  let ks := (keys s.dict.blobs).filter (fun x => muxOf x == O.cairnSlotRecords && ksKind (s.blob x) != 0)
  let lv := ks.filter (fun x => ksKind (s.blob x) == 2)
  let wait := lv.filter (fun x => (look s.cairn.leaves (itemOf x)).isNone)
  ((s.setN O.slotsInUse ks.length).setN O.importedLeavesInUse (lv.length - wait.length)).setN O.importedLeavesAwaitingValue wait.length

/-- *root status* and *import public key* brought up to date. -/
def State.refreshRoots (s : State) : State :=
  let s := s.setN O.rootStatus (256 * s.cairn.destroyed + maskOf ((bitsSet s.cairn.roots 8).filter s.rootOk))
  if s.anchorUp then s.setBlob O.importPublicKey ((Config.crypto 2 [importKey] ++ fill 97 0).take 97) else s

/-! ### Writes of slots (R313, R316, R317) -/

/-- The dies whose enabled channels use a CAK slot (R332). -/
def State.channelDies (s : State) (k : Nat) : List Nat :=
  (keys s.dict.blobs).filterMap (fun x =>
    if muxOf x = O.channelRecords ∧ bit (fld (s.blob x) 2 1) 0 ∧ fld (s.blob x) 8 2 = k then some (itemOf x / 64) else none)

/-- The dies that hold a slot (R315): the anchor, those of its holder mask, those of its channels. -/
def State.holdersOf (s : State) (k : Nat) : List Nat :=
  (((0 :: bitsSet (get 0 s.cairn.cache k) 8) ++ s.channelDies k).eraseDups).filter s.dieUp

/-- The slots whose value changes with slot `k`: itself and its descendants. -/
def State.under (s : State) (k : Nat) : Nat → Nat → Bool
  | 0, _ => false
  | f + 1, j => j == k || (ksKind (s.slotRec j) == 1 && ksParent (s.slotRec j) != rootSlot && s.under k f (ksParent (s.slotRec j)))

/-- R336: a change of a CAK slot's generation ends the key identifiers of its channels. -/
def State.retireCak (s : State) (k : Nat) : State :=
  { s with cipher := { s.cipher with journal := s.cipher.journal.filter (fun j => fld (s.channelRec j.channel) 8 2 != k) } }

/-- The two-phase persistence of R316 on every holder; `stop` is how far it came: 0 whole, 1 inside phase 1, 2 before the
anchor's phase 2, 3 before a holder's. -/
def State.persist (s : State) (k gen : Nat) (r value : Bytes) (stop : Nat) : State :=
  (s.holdersOf k).foldl (fun (s : State) d =>
    if stop = 1 ∧ d ≠ 0 then s
    else s.addCopy d k { gen := gen, committed := stop == 0 || (stop == 3 && d == 0), record := r, value := value }) s

/-- One slot erased: record, value on every holder and copies (R313). -/
def State.eraseSlot (s : State) (k : Nat) : State :=
  let c := s.cairn
  let s := { s with cairn := { c with leaves := del c.leaves k, cache := del c.cache k,
                                      copies := c.copies.filter (fun e => e.1 % 1024 != k),
                                      requests := c.requests.filter (fun x => x.2 != k) } }
  { s with dict := { s.dict with blobs := del s.dict.blobs (at_ O.cairnSlotRecords k) } }.retireCak k

/-- R313: one record applied, with its generation; a changed path, type or kind gives the slot a new value. -/
def State.applySlot (s : State) (k : Nat) (w : Bytes) (stop : Nat) : State :=
  if ksKind w = 0 then (if stop = 1 ∨ stop = 2 then s else s.eraseSlot k)
  else
    let old := s.slotRec k
    let g := (ksGen old + 1) % 2 ^ 32
    let r := patch w 0x0C (leBytes 4 g)
    let fresh := !(ksKind old == ksKind r && ksType old == ksType r && ksParent old == ksParent r && ksLabel old == ksLabel r)
    let value := if ksKind r = 1 then ((s.setBlob (at_ O.cairnSlotRecords k) r).slotValue 9 k).getD []
      else if fresh then [] else get [] s.cairn.leaves k
    let s := s.persist k g r value stop
    if stop = 1 ∨ stop = 2 then s
    else
      let c := s.cairn
      let stale := fun (j : Nat) => fresh && s.under k 9 j
      let s := { s with cairn := { c with leaves := if fresh then del c.leaves k else c.leaves,
                                          cache := c.cache.filter (fun e => !stale e.1) } }
      (s.setBlob (at_ O.cairnSlotRecords k) r).retireCak k

/-- R313, R317: a write of slot records, one after the other; the anchor must be there, and a parent is not erased. -/
def slotWrite (b : Bytes) (stop : Nat) (x : Session) (s : State) : Status × State :=
  let first := x.sel O.cairnFirstSlot
  let ks := (List.range (b.length / 48)).map (fun i => first + i)
  if !s.anchorUp then (.deviceState, s)
  else if ks.any (fun k => ksKind (s.recAfter first b k) == 0 && s.isParent k) then (.deviceState, s)
  else
    let s' := ks.foldl (fun (s : State) k => s.applySlot k (slice b (48 * (k - first)) 48) stop) s
    if stop = 1 ∨ stop = 2 then (.hardware, s')
    else (.ok, ((s'.setN O.lastKeyWriteStatus 1).setN O.lastKeyWriteSlot ((ks.getLast?).getD 0)).refreshSlots)

/-! ### Import (R314) -/

/-- The prime of P-384 and the curve's constant b. -/
def primeP384 : Nat := 2 ^ 384 - 2 ^ 128 - 2 ^ 96 + 2 ^ 32 - 1
def curveB : Nat := 0xB3312FA7E23EE7E4988E056BE3F82D19181D9C6EFE8141120314088F5013875AC656398D8A2ED19D2A85C8EDD3EC2AEF

/-- Is an uncompressed point on P-384? -/
def onCurve (b : Bytes) : Bool :=
  let x := beNat (slice b 1 48)
  let y := beNat (slice b 49 48)
  let p := primeP384
  fld b 0 1 == 4 && decide (x < p) && decide (y < p) && y * y % p == (x * x * x + (p - 3) * x + curveB) % p

/-- Length of the value of a leaf's key type. -/
def leafLen (ty : Nat) : Nat := if ty = 1 then 16 else if ty = 2 then 24 else if ty = 3 then 32 else 48

/-- The value a key-import record carries: unwrapped under the key that R308 derives from the shared secret; empty where the
KW integrity check fails. -/
def unwrapImport (b : Bytes) : Bytes :=
  let k := fld b 0 2
  let z := Config.crypto 3 [importKey, slice b 4 97]
  Config.crypto 4 [(kdf z labelKeyImport (k / 256) (k % 256)).take 32, b.drop 0x68]

/-- R314: is an import record acceptable? -/
def State.importOk (s : State) (b : Bytes) : Bool :=
  let k := fld b 0 2
  decide (k < 1024) && fld b 3 1 == 0 && slice b 0x65 3 == fill 3 0 && ksKind (s.slotRec k) == 2 && fld b 2 1 == ksType (s.slotRec k) &&
    b.length == 0x68 + leafLen (fld b 2 1) + 8 && onCurve (slice b 4 97) && (unwrapImport b).length == leafLen (fld b 2 1)

/-- R314, R316: the leaf takes its value, under a new generation, on the anchor and every holder. -/
def importKeyAct (b : Bytes) (stop : Nat) (_ : Session) (s : State) : Status × State :=
  let k := fld b 0 2
  let v := unwrapImport b
  let g := (ksGen (s.slotRec k) + 1) % 2 ^ 32
  let r := patch (s.slotRec k) 0x0C (leBytes 4 g)
  if !s.anchorUp ∨ s.keysLocked then (.deviceState, s)
  else
    let s := s.persist k g r v stop
    if stop = 1 ∨ stop = 2 then (.hardware, s)
    else
      let s := { s with cairn := { s.cairn with leaves := ins s.cairn.leaves k v } }
      let s := (s.setBlob (at_ O.cairnSlotRecords k) r).retireCak k
      let s := (s.holdersOf k).foldl (fun (s : State) d => s.cacheKey d k) s
      (.ok, ((s.setN O.lastKeyWriteStatus 1).setN O.lastKeyWriteSlot k).refreshSlots)

/-! ### Start and wake (R317) -/

/-- The generation of a slot that the anchor holds COMMITTED. -/
def State.anchorGen (s : State) (k : Nat) : Nat :=
  (((get [] s.cairn.copies k).filter (fun c => c.committed)).map (fun (c : KeyCopy) => c.gen)).foldl max 0

/-- R317: each die chooses its copies; a PREPARED copy of the anchor's generation becomes COMMITTED; a later one is discarded,
reported and logged. -/
def State.resolveCopies (s : State) : State :=
  let c := s.cairn
  let late := (c.copies.flatMap (fun e => (e.2.filter (fun x => decide (s.anchorGen (e.1 % 1024) < x.gen))).map
    (fun x => (e.1 % 1024, x.gen)))).eraseDups
  let fix := fun (e : Nat × List KeyCopy) =>
    let g := s.anchorGen (e.1 % 1024)
    (e.1, (e.2.filter (fun x => decide (x.gen ≤ g))).map (fun x => if x.gen = g then { x with committed := true } else x))
  let s := { s with cairn := { c with copies := (c.copies.map fix).filter (fun e => !e.2.isEmpty) } }
  late.foldl (fun (s : State) e =>
    ((s.setN O.lastKeyWriteStatus 2).setN O.lastKeyWriteSlot e.1).logLead Ev.keyWriteNotApplied 0xFFFF [(2, e.1), (4, e.2)]) s

/-- The slots whose values a die reloads from its own copies: those of its MRAM that the tree still knows and that have a value (R317). -/
def State.reloadCaches (s : State) : State :=
  let held := s.cairn.copies.filter (fun e => s.dieUp (e.1 / 1024) && s.rootOk (e.1 / 1024) && (s.slotValue 9 (e.1 % 1024)).isSome)
  held.foldl (fun (s : State) e => s.cacheKey (e.1 / 1024) (e.1 % 1024)) s

end Sys2Proof.Machine
end

