-- ==== Sys2Proof/Machine/Cipher.lean ====
section
/-! DEFINITION. Key agreement and secure associations, and the look-aside engines (chapter 14, R331 to R352). -/
namespace Sys2Proof.Machine

open Sys2Proof

/-! ### Secure associations (R333, R334, R336) -/

/-- The lane of a channel. -/
def chLane (r : Bytes) : Nat := fld r 3 1
/-- The CAK slot of a channel. -/
def chCak (r : Bytes) : Nat := fld r 8 2

/-- The frame on the wire of a lane, and one that preemption has suspended, ends with a stomped FCS (R334, R337). -/
def State.stompLane (s : State) (n : Nat) : State :=
  let l := s.lane n
  match l.sending with
  | some f =>
    let s := if f.stomp then s else (s.inc64 (laneKey O.stompedTransmitted n)).emit (.message "stomp" n [])
    s.updLane n (fun l => { l with sending := some { f with stomp := true }, preempted := l.preempted.map (fun g => { g with stomp := true }) })
  | none => s.updLane n (fun l => { l with preempted := l.preempted.map (fun g => { g with stomp := true }) })

/-- SAs erased: they stop at once, and a frame on the wire under one in use is stomped (R334). -/
def State.eraseSas (s : State) (p : Sa → Bool) : State :=
  let gone := s.cipher.sas.filter p
  let s := { s with cipher := { s.cipher with sas := s.cipher.sas.filter (fun a => !p a) } }
  gone.foldl (fun (s : State) a =>
    if !a.receive && a.state == 2 then s.stompLane (chLane (s.channelRec a.channel)) else s) s

/-- The journal records of a channel erased (R338). -/
def State.eraseJournal (s : State) (c : Nat) : State :=
  { s with cipher := { s.cipher with journal := s.cipher.journal.filter (fun k => k.channel != c) } }

/-- R338: a channel is drained: its SAs, journal and key agreement end. -/
def State.drainChannel (s : State) (c : Nat) : State :=
  let s := (s.eraseSas (fun a => a.channel == c)).eraseJournal c
  { s with cipher := { s.cipher with mka := del s.cipher.mka c } }

/-- The high-water mark of a key identifier's record (R336). -/
def State.highWater (s : State) (k : KiRec) : Nat :=
  match s.cipher.sas.find? (fun a => a.channel == k.channel && a.ki == k.ki && !a.receive) with
  | some a => a.pn - 1
  | none => k.stored + 65535

/-- At most 1,024 key identifiers are kept per die: the oldest retired one goes first (R336). -/
def State.trimJournal (s : State) (d : Nat) : State :=
  let mine := s.cipher.journal.filter (fun k => k.die == d)
  if (mine.map (fun (k : KiRec) => k.ki)).eraseDups.length ≤ 1024 then s
  else
    match mine.find? (fun k => !k.running) with
    | some o => { s with cipher := { s.cipher with journal := s.cipher.journal.filter (fun k => !(k.die == d && k.ki == o.ki)) } }
    | none => s

/-- R333, R336: an SA pair is installed under a key identifier, unless its first PN is not above the high-water mark. -/
def State.installSa (s : State) (c ki kn an pn : Nat) (sak : Bytes) : State :=
  let d := c / 64
  if s.cipher.sas.any (fun a => a.channel == c && a.ki == ki) then s
  else if s.cipher.journal.any (fun k => k.channel == c && k.ki == ki && !k.receive && decide (pn ≤ s.highWater k)) then
    (s.inc32 (bySub O.saRefusals d)).logEv d Ev.saRefused (epLane (chLane (s.channelRec c))) [(2, c), (4, kn)]
  else
    let s := { s with cipher := { s.cipher with sas := s.cipher.sas.filter (fun a => a.channel != c || (a.state != 1 && a.an != an)) } }
    let sa : Sa := { channel := c, receive := false, an := an, ki := ki, kn := kn, pn := pn, state := 1, stored := 0, frames := 0,
                     warned := false, sak := sak }
    let k : KiRec := { die := d, channel := c, ki := ki, kn := kn, an := an, receive := false, stored := 0, running := true, sak := sak }
    let s := { s with cipher := { s.cipher with
      sas := s.cipher.sas ++ [sa, { sa with receive := true }],
      journal := s.cipher.journal ++ [k, { k with receive := true }] } }
    (s.trimJournal d).logBytes d (2 * journalBytes)

/-- Records of SAs that no longer run. -/
def State.retireRecords (s : State) (c : Nat) : State :=
  let live := fun (k : KiRec) => s.cipher.sas.any (fun a => a.channel == c && a.ki == k.ki && a.receive == k.receive)
  { s with cipher := { s.cipher with
      journal := s.cipher.journal.map (fun k => if k.channel = c then { k with running := live k } else k) } }

/-- R334: the transmit SA of a key identifier is taken into use at the frame boundary; the old one is retired. -/
def State.useTx (s : State) (c ki : Nat) : State :=
  if s.cipher.sas.any (fun a => a.channel == c && !a.receive && a.ki == ki && a.state == 1) then
    let sas := (s.cipher.sas.filter (fun a => a.channel != c || a.receive || a.ki == ki)).map (fun a =>
      if a.channel = c ∧ a.receive = false then { a with state := 2 } else a)
    { s with cipher := { s.cipher with sas := sas } }.retireRecords c
  else s

/-- The receive SA of a key identifier is in use; the old receive SA is retired. -/
def State.useRx (s : State) (c ki : Nat) : State :=
  if s.cipher.sas.any (fun a => a.channel == c && a.receive && a.ki == ki && a.state == 1) then
    let sas := (s.cipher.sas.filter (fun a => a.channel != c || !a.receive || a.ki == ki)).map (fun a =>
      if a.channel = c ∧ a.receive = true then { a with state := 2 } else a)
    { s with cipher := { s.cipher with sas := sas } }.retireRecords c
  else s

/-- R336: on reload, the SAs that ran resume: transmission at the stored value plus 2^16, reception at the stored value. -/
def State.reloadSas (s : State) : State :=
  let sas := (s.cipher.journal.filter (fun k => k.running && s.dieUp k.die && s.rootOk k.die)).map (fun (k : KiRec) =>
    ({ channel := k.channel, receive := k.receive, an := k.an, ki := k.ki, kn := k.kn,
       pn := if k.receive then k.stored else k.stored + 65536, state := 2, stored := k.stored, frames := 0, warned := false,
       sak := k.sak } : Sa))
  { s with cipher := { s.cipher with sas := sas } }

/-! ### Key agreement (R333) -/

def State.mkaSt (s : State) (c : Nat) : MkaSt := get {} s.cipher.mka c
def State.setMka (s : State) (c : Nat) (m : MkaSt) : State := { s with cipher := { s.cipher with mka := put {} s.cipher.mka c m } }

/-- The SCI of this end (R330). -/
def State.ownSci (s : State) (n : Nat) : Nat := beNat s.baseMac * 65536 + 1 + n

/-- May key agreement run on a channel: enabled, its die up, and its CAK there and allowed (R312, R332, R333)? -/
def State.cakReady (s : State) (c : Nat) : Bool :=
  let r := s.channelRec c
  chEnabled r && s.dieUp (c / 64) && !s.keysLocked && s.holds (c / 64) (chCak r) && ksKind (s.slotRec (chCak r)) == 2 &&
    (look s.cairn.leaves (chCak r)).isSome && s.keyAllowed (chCak r) kaMACSEC 0 none kaMACSEC

/-- The live peers of a channel. -/
def livePeers (m : MkaSt) : List Peer := m.peers.filter (fun p => p.hears)

/-- Is this end the key server: it has a live peer, its priority is not 255, and no live peer ranks above it? -/
def State.isServer (s : State) (c : Nat) : Bool :=
  let r := s.channelRec c
  let own := fld r 7 1
  let m := s.mkaSt c
  own != 255 && !(livePeers m).isEmpty &&
    (livePeers m).all (fun p => p.prio == 255 || decide (own < p.prio) || (own == p.prio && decide (s.ownSci (chLane r) < p.sci)))

/-- This end's member identifier, drawn when key agreement starts. -/
def State.ensureMi (s : State) (c : Nat) : State :=
  let m := s.mkaSt c
  if m.mi = 0 then (s.setMka c { m with mi := s.free % 2 ^ 96 }).drawn else s

/-- Parameter set of a given type. -/
def mkaSet (ty b1 b2 : Nat) (body : Bytes) : Bytes :=
  beBytes 1 ty ++ beBytes 1 b1 ++ beBytes 2 (b2 * 4096 + body.length) ++ body ++ fill ((4 - body.length % 4) % 4) 0

/-- The MKPDU this end sends (IEEE 802.1X-2020): basic set, peer lists, SAK use, the SAK it distributes, ICV. -/
def State.mkpdu (s : State) (c : Nat) : Bytes :=
  let r := s.channelRec c
  let m := s.mkaSt c
  let cak := (look s.cairn.leaves (chCak r)).getD []
  let ckn := (slice r 0x10 32).take (fld r 0x0C 1)
  let sci := beBytes 8 (s.ownSci (chLane r))
  let list := fun (l : List Peer) => l.flatMap (fun p => beBytes 12 p.mi ++ beBytes 4 p.mn)
  let tx := s.cipher.sas.find? (fun a => a.channel == c && !a.receive)
  let use := match tx with
    | some a => [mkaSet 3 (a.an * 64 + (if a.state = 2 then 32 else 0) + 16) 0
        (beBytes 16 a.ki ++ beBytes 4 (if a.pn < 2 ^ 32 then a.pn else 2 ^ 32 - 1) ++ fill 20 0)]
    | none => []
  let dist := if m.kn ≠ 0 ∧ s.isServer c = true then
      [mkaSet 4 (m.an * 64 + (if fld r 2 1 / 2 % 2 = 0 then 16 else if fld r 5 1 = 0 then 32 else if fld r 5 1 = 30 then 48 else 0)) 0
        (beBytes 4 m.kn ++ (if fld r 4 1 = 0 then [] else beBytes 8 (0x0080C20001000001 + fld r 4 1)) ++ Config.crypto 21 [cak, ckn, m.sak])] else []
  let p := mkaSet 3 (fld r 7 1) (if s.isServer c then 14 else 6) (sci ++ beBytes 12 m.mi ++ beBytes 4 m.mn ++ [0x00, 0x80, 0xC2, 0x01] ++ ckn) ++
    mkaSet 1 0 0 (list (livePeers m)) ++ mkaSet 2 0 0 (list (m.peers.filter (fun p => !p.hears))) ++
    use.flatten ++ dist.flatten
  let head := [0x01, 0x80, 0xC2, 0x00, 0x00, 0x03] ++ s.baseMac ++ beBytes 2 0x888E ++ [0x03, 0x05] ++ beBytes 2 (p.length + 16)
  head ++ p ++ (Config.crypto 22 [cak, ckn, head ++ p] ++ fill 16 0).take 16

/-- An MKPDU leaves the lane (R128). -/
def State.sendMkpdu (s : State) (c : Nat) : State :=
  let m := s.mkaSt c
  let s := s.setMka c { m with mn := m.mn + 1 }
  s.emit (.message "mka" (chLane (s.channelRec c)) (s.mkpdu c))

/-- R333: as key server, this end generates a SAK, installs it and distributes it. -/
def State.newSak (s : State) (c : Nat) : State :=
  let r := s.channelRec c
  let m := s.mkaSt c
  let kn := m.kn + 1
  let an := (m.an + 1) % 4
  let ki := m.mi * 2 ^ 32 + kn
  let sak := (Config.crypto 20 [leBytes 16 ki, leBytes 8 s.freeCtr] ++ fill 32 0).take (if fld r 4 1 % 2 = 0 then 16 else 32)
  let s := (s.setMka c { m with kn := kn, an := an, sak := sak }).drawn
  (s.installSa c ki kn an 1 sak).sendMkpdu c

/-- R333 to R336: an MKPDU with a right ICV and a new message number: the peer lists, the key server's distribution, and the
use of keys follow. -/
def mkpduReceive (n : Nat) (p : Mkpdu) (s : State) : State :=
  match s.channelOfLane n with
  | none => s
  | some c =>
    if !s.cakReady c || !p.icvOk then s
    else
      let s := s.ensureMi c
      let m := s.mkaSt c
      let old := m.peers.find? (fun x => x.mi == p.mi)
      if old.any (fun x => decide (p.mn ≤ x.mn)) then s
      else
        let peer : Peer := { mi := p.mi, mn := p.mn, prio := p.prio, sci := p.sci, hears := p.hears, since := s.now }
        let was := (livePeers m).map (fun (x : Peer) => x.mi)
        let m := { m with peers := m.peers.filter (fun x => x.mi != p.mi) ++ [peer] }
        let s := s.setMka c m
        let changed := was.contains p.mi != p.hears
        let s := if s.isServer c && (changed || p.exhausting) then s.newSak c else s
        let s := match p.dist with
          | some (an, kn, pn, sak) =>
            if p.hears && !s.isServer c && p.prio != 255 then s.installSa c (p.mi * 2 ^ 32 + kn) kn an pn sak else s
          | none => s
        match p.sakUse with
        | some (ki, rx, tx) =>
          let s := if tx then s.useRx c ki else s
          if (s.isServer c && rx) || (!s.isServer c && tx) then s.useTx c ki else s
        | none => s

def execMkpduReceive (t lane : Nat) (p : Mkpdu) (s : State) : Host.Outcome State Fault Refusal := .next (mkpduReceive lane p (s.begin t))

/-- R333, R335: the hello time expires: an MKPDU is sent; a key server whose transmit SA has reached its threshold rekeys. -/
def mkaHello (c : Nat) (s : State) : State :=
  if s.cakReady c then
    let s := s.ensureMi c
    if s.isServer c && s.cipher.sas.any (fun a => a.channel == c && !a.receive && a.state == 2 && a.warned) &&
        !s.cipher.sas.any (fun a => a.channel == c && !a.receive && a.state == 1) then s.newSak c
    else s.sendMkpdu c
  else s

def execMkaHelloTimer (t channel : Nat) (s : State) : Host.Outcome State Fault Refusal := .next (mkaHello channel (s.begin t))

/-- R333, R334: a peer's life time of 6 s expires: membership changes; with no live peer left MKA retires the SAs. -/
def mkaLifeTimeout (c mi : Nat) (s : State) : State :=
  let m := s.mkaSt c
  match m.peers.find? (fun x => x.mi == mi) with
  | none => s
  | some p =>
    if s.now < p.since + 6000000000 then s
    else
      let s := s.setMka c { m with peers := m.peers.filter (fun x => x.mi != mi) }
      if !p.hears then s
      else if (livePeers (s.mkaSt c)).isEmpty then (s.eraseSas (fun a => a.channel == c)).retireRecords c
      else if s.isServer c then s.newSak c else s

def execMkaLifeTimeout (t channel mi : Nat) (s : State) : Host.Outcome State Fault Refusal :=
  .next (mkaLifeTimeout channel mi (s.begin t))

/-- The SA status records of a channel (R352): two of each direction, in the order of their ANs. -/
def State.saRecords (s : State) (c : Nat) : Bytes :=
  let one := fun (rx : Bool) (a : Option Sa) =>
    match a with
    | some a => leBytes 2 c ++ leBytes 1 ((if rx then 128 else 0) + a.an) ++ leBytes 1 a.state ++ leBytes 4 a.kn ++ leBytes 8 a.pn ++
        leBytes 8 a.stored ++ leBytes 8 a.frames
    | none => leBytes 2 c ++ leBytes 1 (if rx then 128 else 0) ++ fill 29 0
  let side := fun (rx : Bool) =>
    let l := (List.range 4).filterMap (fun an => s.cipher.sas.find? (fun a => a.channel == c && a.receive == rx && a.an == an))
    one rx (l[0]?) ++ one rx (l[1]?)
  side false ++ side true

/-- R350: *clear MACsec counters*. -/
def clearMacsec (_ : Session) (s : State) : Status × State :=
  (.ok, (List.range s.laneCount).foldl (fun (s : State) n => s.setBlob (bySub O.macsecCounters n) (fill 64 0)) s)

def execClearMacsecCounters (t : Nat) (who : Who) (s : State) : Host.Outcome State Fault Refusal :=
  cmdRow t who 0x2B71 1 1 clearMacsec s

/-! ### Look-aside jobs (R339 to R349) -/

/-- Final statuses of R344. -/
abbrev jsRUNNING : Nat := 1
abbrev jsDONE : Nat := 2
abbrev jsABORTED : Nat := 3
abbrev jsDISABLED : Nat := 4
abbrev jsKEYGONE : Nat := 5
abbrev jsKEYREFUSED : Nat := 6
abbrev jsLIMIT : Nat := 7
abbrev jsFORMAT : Nat := 8
abbrev jsTAGFAIL : Nat := 9
abbrev jsTAMPER : Nat := 10
abbrev jsLOST : Nat := 11
abbrev jsBUSERROR : Nat := 12

def State.classRec (s : State) (c : Nat) : Bytes := s.blob (at_ O.jobClassRecords c)
def clEnabled (r : Bytes) : Bool := bit (fld r 2 1) 0
def clSecure (r : Bytes) : Bool := bit (fld r 2 1) 1
def clUrgency (r : Bytes) : Nat := fld r 3 1
def clOwner (r : Bytes) : Nat := fld r 4 1
def clReservation (r : Bytes) : Nat := fld r 6 2
def clRing (r : Bytes) : Nat := fld r 0x10 2

/-- R340: a job-class record at its window position. -/
def State.classRecOk (s : State) (i : Nat) (r : Bytes) : Bool :=
  let ring := clRing r
  r == fill 32 0 ||
    (fld r 0 2 == i && decide (i < 64) && decide (fld r 2 1 < 4) && decide (clUrgency r < 4) && decide (clOwner r < 4) &&
     (if clOwner r = 0 then s.hasDie (fld r 5 1) else fld r 5 1 == 0) && slice r 0x12 14 == fill 14 0 &&
     (if clOwner r = 3 then ring == 0 && fld r 8 8 == 0 else isPow2 ring && decide (16 ≤ ring) && decide (ring ≤ 1024) && fld r 8 8 % 64 == 0))

/-- The master of a class (R340). -/
def ownerBit (r : Bytes) : Nat :=
  if clOwner r = 0 then kaCORE else if clOwner r = 1 then kaPCIE else if clOwner r = 2 then kaSPI else kaSPEWARD

/-- The home of a class, if it has one that works. -/
def State.classHome (s : State) (c : Nat) : Option Nat :=
  match s.homeOf 2 c with
  | some d => if s.dieUp d then some d else none
  | none => none

/-- A descriptor's operation, inverse flag, lengths and data. -/
def Job.mode (j : Job) : Nat := bits (fld j.desc 2 1) 0 4
def Job.inverse (j : Job) : Bool := bit (fld j.desc 2 1) 4
def Job.len (j : Job) : Nat := fld j.desc 0x18 4
def Job.aad (j : Job) : Nat := fld j.desc 0x1C 4
def Job.slot (j : Job) : Nat := fld j.desc 4 2
def Job.isDerived (j : Job) : Bool := fld j.desc 3 1 == 1
def Job.iv (j : Job) : Bytes := slice j.desc 0x20 16

/-- The use bit of a job (R342). -/
def Job.use (j : Job) : Nat :=
  if j.mode = 6 then kaSIGN
  else if 4 ≤ j.mode then (if j.inverse then 3 else 2)
  else if j.inverse then 1 else 0

/-- Key type that a job uses. -/
def State.jobType (s : State) (j : Job) : Nat := if j.isDerived then fld j.desc 6 1 else ksType (s.slotRec j.slot)

/-- R341, R342, R349: is a length or a reserved encoding wrong?  A session's job brings all of its source data with it, the tag or MAC to
verify last. -/
def Job.badFormat (j : Job) : Bool :=
  decide (32 ≤ fld j.desc 2 1) || decide (6 < j.mode) || decide (1 < fld j.desc 3 1) || decide (16777215 < j.len) ||
  (j.mode != 3 && j.aad != 0) || decide (65535 < j.aad) || (j.mode == 0 && (j.len % 16 != 0 || j.len == 0)) ||
  (j.mode == 6 && (j.len != 48 || j.inverse)) ||
  (if j.isDerived then !(decide (1 ≤ fld j.desc 6 1) && decide (fld j.desc 6 1 ≤ 5)) else fld j.desc 6 1 != 0) ||
  (j.sess.isSome && decide (j.data.length < j.aad + j.len + (if j.inverse then (if j.mode = 3 ∨ j.mode = 4 then 16 else if j.mode = 5 then 48 else 0) else 0))) ||
  fld j.desc 7 1 != 0 || slice j.desc 0x58 8 != fill 8 0 || decide (1024 ≤ j.slot)

/-- Does a mode take a key type (R342)? -/
def modeKey (mode ty : Nat) : Bool :=
  if mode ≤ 4 then decide (1 ≤ ty) && decide (ty ≤ 3) else if mode = 5 then ty == 4 else ty == 5

/-- The invocations counted by slot, after SEC was off: past their last journal record (R342). -/
def jumpCounts (l : SMap (Nat × Nat)) : SMap (Nat × Nat) :=
  mapVals (fun (n : Nat × Nat) => if n.2 = 0 ∧ n.1 = 0 then n else (n.2 + 65536, n.2)) l

/-- Invocations that a slot has served under GCM (R342). -/
def State.gcmCount (s : State) (k : Nat) : Nat := (get (0, 0) s.cipher.counts k).1

/-- R342 to R344: why a job fails before its first block, if it does. -/
def State.jobRefusal (s : State) (j : Job) : Option Nat :=
  let r := s.slotRec j.slot
  let cr := s.classRec j.cls
  let world := if j.sess.isSome then 0 else if clSecure cr then 2 else 1
  let role := if j.sess.isSome then some j.role else none
  if j.badFormat then some jsFORMAT
  else if ksKind r = 0 ∨ s.keysLocked = true then some jsKEYGONE
  else if !s.keyAllowed j.slot (ownerBit cr) world role j.use then some jsKEYREFUSED
  else if j.isDerived && !(ksType r == 0 && bit (ksAttr r) kaDERIVE && decide (ksDepth r ≤ 7)) then some jsKEYREFUSED
  else if !modeKey j.mode (s.jobType j) then some jsKEYREFUSED
  else if j.mode = 3 ∧ !j.inverse ∧ j.isDerived then some jsKEYREFUSED
  else if j.mode = 1 ∧ 2 ^ 64 ≤ fldBE j.iv 8 8 + ceilDiv j.len 16 - 1 then some jsLIMIT
  else if j.mode = 3 ∧ !j.inverse ∧ 2 ^ 32 ≤ s.gcmCount j.slot then some jsLIMIT
  else none

/-- The jobs changed where they are this one. -/
def State.mapJob (s : State) (j : Job) (f : Job → Job) : State :=
  { s with cipher := { s.cipher with jobs := s.cipher.jobs.map (fun x =>
      if x.cls = j.cls ∧ x.index = j.index ∧ x.run ≠ 3 then f x else x) } }

/-- The descriptor as the AX8 leaves it at the end (R341, R344). -/
def endDesc (j : Job) (now : Nat) : Bytes :=
  patch (patch (patch j.desc 0 [0]) 1 (leBytes 1 j.status)) 0x50 (leBytes 8 now)

/-- R341: ended jobs at the front of a class's ring order give their descriptors back. -/
def State.releaseJobs (s : State) (c : Nat) : State :=
  let mine := s.cipher.jobs.filter (fun j => j.cls == c && j.sess.isNone)
  let out := mine.takeWhile (fun j => j.run == 3)
  let s := { s with cipher := { s.cipher with
    jobs := s.cipher.jobs.filter (fun j => !(j.cls == c && j.sess.isNone && out.any (fun x => x.index == j.index))) } }
  out.foldl (fun (s : State) j =>
    let s := if j.output.isEmpty then s else s.emit (.message "destination" c j.output)
    s.emit (.message "descriptor" c (endDesc j s.gptpNs))) s

/-- R344, R349: a job ends with its one final value. -/
def State.endJob (s : State) (j : Job) (status : Nat) (output : Bytes) : State :=
  let s := if status = jsDONE then s.inc64 (bySub O.jobsCompleted j.die) else s.inc32 (bySub O.jobsFailed j.die)
  match j.sess with
  | some n =>
    let s := { s with cipher := { s.cipher with jobs := s.cipher.jobs.filter (fun x => !(x.cls == j.cls && x.index == j.index)) } }
    s.updSession n (fun x =>
      { x with job := none, jobResult := leBytes 1 status ++ fill 3 0 ++ j.iv ++ output })
  | none => (s.mapJob j (fun x => { x with run := 3, status := status, output := output, key := [] })).releaseJobs j.cls

/-- The derived-key cache of a die: at most 64 entries, least recently used dropped (R343). -/
def State.cacheDerived (s : State) (d : Nat) (e : DerivedKey) : State :=
  { s with cipher := { s.cipher with derived := upd [] s.cipher.derived d (fun l => (e :: l.filter (fun x => x != e)).take 64) } }

/-- R343: the key a job latches when its first block executes. -/
def State.latchKey (s : State) (j : Job) : Bytes × State :=
  let r := s.slotRec j.slot
  let v := (s.slotValue 9 j.slot).getD []
  if j.isDerived then
    let ty := fld j.desc 6 1
    let lab := slice j.desc 0x30 32
    let k := kdf v lab (ksDepth r + 1) ty
    (keyUse ty k, s.cacheDerived j.die { parent := j.slot, gen := ksGen r, label := lab, kty := ty, value := k })
  else (keyUse (ksType r) v, s)

/-- R342: GCM encryption takes the next invocation count into its IV and stores it at each multiple of 2^16. -/
def State.gcmStart (s : State) (j : Job) : Job × State :=
  if j.mode = 3 ∧ !j.inverse then
    let n := s.gcmCount j.slot + 1
    let mark := (get (0, 0) s.cipher.counts j.slot).2
    let s := { s with cipher := { s.cipher with counts := ins s.cipher.counts j.slot (n, if n % 65536 = 0 then n else mark) } }
    let s := if n % 65536 = 0 then s.logBytes j.die journalBytes else s
    ({ j with desc := patch j.desc 0x24 (beBytes 8 n) }, s)
  else (j, s)

/-- R345: a waiting job starts: it fails at once, waits for its key, or executes. -/
def State.startJob (s : State) (j : Job) : State :=
  match s.jobRefusal j with
  | some st => s.endJob j st []
  | none =>
    if !s.holds j.die j.slot then keyRequest j.die j.slot s
    else
      let g := s.gcmStart j
      let k := g.2.latchKey g.1
      k.2.mapJob j (fun _ => { g.1 with run := 1, key := k.1 })

/-- Jobs that wait and could start. -/
def State.waitingJobs (s : State) (d : Nat) : List Job :=
  s.cipher.jobs.filter (fun j => j.die == d && j.run == 0 && ((s.jobRefusal j).isSome || s.holds d j.slot))

def State.urgencyOf (s : State) (j : Job) : Nat := clUrgency (s.classRec j.cls)

/-- Deficit round robin (R345): of the classes with a waiting job of this urgency, the one that can first afford its head job,
counting from the class after the one served last; a class earns its reservation, at least one block, each round. -/
def State.drrPick (s : State) (d u : Nat) : Option Job :=
  let w := (s.waitingJobs d).filter (fun j => s.urgencyOf j == u)
  let last := get 63 s.cipher.last d
  let order := (List.range 64).map (fun i => (last + 1 + i) % 64)
  let heads := order.filterMap (fun c => w.find? (fun j => j.cls == c))
  let rounds := fun (j : Job) =>
    ceilDiv (j.blocks - get 0 s.cipher.deficit j.cls) (max 1 (clReservation (s.classRec j.cls)))
  heads.foldl (fun (a : Option Job) j =>
    match a with
    | none => some j
    | some b => if rounds j < rounds b then some j else some b) none

/-- The chosen class pays for its job; the others keep what they earned meanwhile. -/
def State.drrPay (s : State) (j : Job) : State :=
  let w := (s.waitingJobs j.die).filter (fun x => s.urgencyOf x == s.urgencyOf j)
  let q := fun (c : Nat) => max 1 (clReservation (s.classRec c))
  let n := ceilDiv (j.blocks - get 0 s.cipher.deficit j.cls) (q j.cls)
  let def' := ((w.map (fun x => x.cls)).eraseDups).foldl (fun m c => upd 0 m c (fun v => v + n * q c)) s.cipher.deficit
  { s with cipher := { s.cipher with deficit := upd 0 def' j.cls (fun v => v - j.blocks), last := ins s.cipher.last j.die j.cls } }

/-- The lowest urgency number among jobs. -/
def State.topUrgency (s : State) (l : List Job) : Option Nat := (l.map s.urgencyOf).foldl (fun (a : Option Nat) u =>
  match a with | none => some u | some b => some (min u b)) none

/-- R345: one decision of a die's engine at a block boundary. -/
def State.engineStep (s : State) (d : Nat) : State :=
  let mine := s.cipher.jobs.filter (fun j => j.die == d)
  let wait := s.topUrgency (s.waitingJobs d)
  let launch := fun (s : State) (u : Nat) =>
    match s.drrPick d u with
    | some j => (s.drrPay j).startJob j
    | none => s
  match mine.find? (fun j => j.run == 1) with
  | some e =>
    match wait with
    | some u => if u < s.urgencyOf e then launch (s.mapJob e (fun x => { x with run := 2 })) u else s
    | none => s
  | none =>
    match s.topUrgency (mine.filter (fun j => j.run == 2)), wait with
    | some v, some u =>
      if u < v then launch s u
      else match mine.find? (fun j => j.run == 2 && s.urgencyOf j == v) with
        | some j => s.mapJob j (fun x => { x with run := 1 })
        | none => s
    | some v, none =>
      match mine.find? (fun j => j.run == 2 && s.urgencyOf j == v) with
      | some j => s.mapJob j (fun x => { x with run := 1 })
      | none => s
    | none, some u => launch s u
    | none, none => s

/-- The engine decides until it has nothing more to start. -/
def State.engineRun : Nat → Nat → State → State
  | 0, _, s => s
  | n + 1, d, s => State.engineRun n d (s.engineStep d)

/-- The engine of a die goes on. -/
def State.engine_ (s : State) (d : Nat) : State := State.engineRun (s.cipher.jobs.length + 1) d s

/-- A job taken into the engine. -/
def State.takeJob (s : State) (j : Job) : State := ({ s with cipher := { s.cipher with jobs := s.cipher.jobs ++ [j] } }).engine_ j.die

/-- R341: the home die takes the next descriptor of a class's ring, if its OWN bit is set; the source could be read or not. -/
def jobFetch (c : Nat) (desc data : Bytes) (readOk : Bool) (s : State) : State :=
  let r := s.classRec c
  match s.classHome c with
  | none => s
  | some d =>
    if !clEnabled r || clOwner r == 3 || !bit (fld desc 0 1) 7 || s.n (bySub O.lookAsideEnable d) != 1 || desc.length != 96 then s
    else
      let i := get 0 s.cipher.next c
      let s := { s with cipher := { s.cipher with next := ins s.cipher.next c ((i + 1) % max 1 (clRing r)) } }
      let j : Job := { cls := c, index := i, desc := patch desc 1 [1], data := data, sess := none, die := d, since := s.now,
                       blocks := max 1 (ceilDiv (fld desc 0x18 4) 16), run := 0, key := [], status := 0, output := [],
                       secure := clSecure r, role := .observer }
      let s := s.emit (.message "descriptor" c j.desc)
      if readOk then s.takeJob j
      else (({ s with cipher := { s.cipher with jobs := s.cipher.jobs ++ [j] } }).endJob j jsBUSERROR []).engine_ d

def execLookasideJobFetch (t cls : Nat) (desc data : Bytes) (readOk : Bool) (s : State) : Host.Outcome State Fault Refusal :=
  .next (jobFetch cls desc data readOk (s.begin t))

/-- Exactly `n` bytes. -/
def exactly (n : Nat) (b : Bytes) : Bytes := (b ++ fill n 0).take n

/-- R342: what a job that ran to its end gives: its status and its output; `dest` is what the destination held. -/
def Job.result (j : Job) (dest : Bytes) : Nat × Bytes :=
  let aad := j.data.take j.aad
  let d := slice j.data j.aad j.len
  let iv := if j.mode = 3 then j.iv.take 12 else j.iv
  let op := Config.crypto (40 + 2 * j.mode + b2n j.inverse) [j.key, iv, aad, d]
  let mac := Config.crypto (40 + 2 * j.mode) [j.key, iv, aad, d]
  if j.mode ≤ 2 then (jsDONE, exactly j.len op)
  else if j.mode = 3 then
    if !j.inverse then (jsDONE, exactly (j.len + 16) op)
    else if exactly 16 (Config.crypto 60 [j.key, iv, aad, d]) = slice j.data (j.aad + j.len) 16 then (jsDONE, exactly j.len op)
    else (jsTAGFAIL, [])
  else
    let n := if j.mode = 4 then 16 else if j.mode = 5 then 48 else 96
    if j.inverse then (if exactly n mac = dest.take n then (jsDONE, []) else (jsTAGFAIL, [])) else (jsDONE, exactly n op)

/-- R344: the executing job of a die's engine ends; its destination could be written or not. -/
def jobDone (d : Nat) (busOk : Bool) (dest : Bytes) (s : State) : State :=
  match s.cipher.jobs.find? (fun j => j.die == d && j.run == 1) with
  | none => s
  | some j =>
    let dest := if j.sess.isSome then j.data.drop (j.aad + j.len) else dest
    let r := j.result dest
    (if busOk || j.sess.isSome then s.endJob j r.1 r.2 else s.endJob j jsBUSERROR []).engine_ d

def execLookasideJobDone (t die : Nat) (busOk : Bool) (dest : Bytes) (s : State) : Host.Outcome State Fault Refusal :=
  .next (jobDone die busOk dest (s.begin t))

/-- The engines of all dies go on: jobs that waited for a key start, or fail (R347). -/
def State.enginesGo (s : State) : State := s.dies.foldl (fun (s : State) d => s.engine_ d) s

/-- R313, R347: a write of slot records, and what the jobs that wait make of it. -/
def slotWriteGo (b : Bytes) (stop : Nat) (x : Session) (s : State) : Status × State :=
  let r := slotWrite b stop x s
  (r.1, r.2.enginesGo)

/-- R313: a write of *slot records*. -/
def slotRecordsWrite (sess : Nat) (data : Bytes) (stop : Nat) : Session → State → Response × State :=
  writeWin sess 0x2B10 3 data O.cairnSlotCount 48
    (fun x s => (List.range (data.length / 48)).all (fun i => s.slotRecOk (x.sel O.cairnFirstSlot) data (x.sel O.cairnFirstSlot + i)))
    (slotWriteGo data stop)

def execSlotRecordsWrite (t : Nat) (who : Who) (data : Bytes) (stop : Nat) (s : State) : Host.Outcome State Fault Refusal :=
  .next (serve who (slotRecordsWrite who.sess data stop) (s.begin t))

/-- R314, R347: an import, and what the jobs that wait make of it. -/
def importGo (b : Bytes) (stop : Nat) (x : Session) (s : State) : Status × State :=
  let r := importKeyAct b stop x s
  (r.1, r.2.enginesGo)

def execKeyImport (t : Nat) (who : Who) (data : Bytes) (stop : Nat) (s : State) : Host.Outcome State Fault Refusal :=
  domRow t who 0x2B11 1 data 128 160 (fun s => s.importOk data) (importGo data stop) s

/-- A delivered key lets the jobs that waited for it start (R307, R343). -/
def execKeyDelivered (t die slot : Nat) (s : State) : Host.Outcome State Fault Refusal :=
  .next ((keyDelivered die slot (s.begin t)).engine_ die)

/-- R346: *abort job*: a RUNNING job ends with ABORTED; jobs of a secure-world class only from the secure world. -/
def abortJobAct (x : Session) (s : State) : Status × State :=
  let c := s.n O.abortClass
  if clSecure (s.classRec c) && !x.secure then (.accessDenied, s.countDenial .accessDenied)
  else
    match s.cipher.jobs.find? (fun j => j.cls == c && j.sess.isNone && j.index == s.n O.abortDescriptor && j.run != 3) with
    | none => (.alreadyDone, s)
    | some j => (.ok, (s.endJob j jsABORTED []).engine_ j.die)

def execAbortJob (t : Nat) (who : Who) (s : State) : Host.Outcome State Fault Refusal := cmdRow t who 0x2B44 3 1 abortJobAct s

/-- R349: a session's job: one at a time, in an enabled class of owner 3. -/
def spewardJobAct (sess : Nat) (b : Bytes) (x : Session) (s : State) : Status × State :=
  let c := x.sel O.spewardJobClass
  let r := s.classRec c
  match s.classHome c with
  | none => (.deviceState, s)
  | some d =>
    if x.job.isSome ∨ !clEnabled r ∨ clOwner r ≠ 3 ∨ s.n (bySub O.lookAsideEnable d) ≠ 1 then (.deviceState, s)
    else
      let s := s.updSession sess (fun y => { y with job := some c, jobResult := leBytes 1 jsRUNNING ++ fill 19 0 })
      let j : Job := { cls := c, index := sess, desc := b.take 96, data := b.drop 96, sess := some sess, die := d, since := s.now,
                       blocks := max 1 (ceilDiv (fld b 0x18 4) 16), run := 0, key := [], status := 0, output := [],
                       secure := clSecure r, role := x.role }
      (.ok, s.takeJob j)

def execSpewardJob (t : Nat) (who : Who) (data : Bytes) (s : State) : Host.Outcome State Fault Refusal :=
  domRow t who 0x2B50 2 data 96 4192 (fun _ => true) (spewardJobAct who.sess data) s

/-- Jobs that satisfy `p` end with a status. -/
def State.failJobs (s : State) (p : Job → Bool) (status : Nat) : State :=
  (s.cipher.jobs.filter (fun j => j.run != 3 && p j)).foldl (fun (s : State) j => s.endJob j status []) s

/-- R348: jobs of a disabled engine or class: queued and suspended ones fail, the executing one completes. -/
def State.drainJobs (s : State) : State :=
  s.failJobs (fun j => j.run != 1 && (s.n (bySub O.lookAsideEnable j.die) != 1 || !clEnabled (s.classRec j.cls))) jsDISABLED

/-- R348: jobs whose home die is lost, once the class has a new home that serves it; a class whose ring lay in the SRAM of that die is
lost with it. -/
def State.loseJobs (s : State) : State :=
  let gone := fun (j : Job) => !s.dieUp j.die && clOwner (s.classRec j.cls) == 0 && fld (s.classRec j.cls) 5 1 == j.die
  let s := { s with cipher := { s.cipher with jobs := s.cipher.jobs.filter (fun j => !gone j) } }
  s.failJobs (fun j => !s.dieUp j.die && (s.classHome j.cls).isSome) jsLOST

/-- R324, R347: a tamper event meets the jobs: started and suspended ones are aborted; under a response the others fail too. -/
def State.tamperJobs (s : State) (respond : Bool) : State :=
  let s := s.failJobs (fun j => j.run == 1 || j.run == 2) jsTAMPER
  if respond then s.failJobs (fun j => j.run == 0) jsKEYGONE else s

/-- R339: reserved load and oversubscription of each die's engine, from the classes homed there. -/
def State.refreshLookAside (s : State) : State :=
  s.dies.foldl (fun (s : State) d =>
    let load := ((List.range 64).filter (fun c => clEnabled (s.classRec c) && s.classHome c == some d)).foldl
      (fun n c => n + clReservation (s.classRec c)) 0
    (s.setN (bySub O.lookAsideReservedLoad d) load).setN (bySub O.lookAsideOversubscribed d) (b2n (decide (9 * s.period / 10 < load)))) s

/-! ### Wipes (R357) -/

/-- A die's key cache, derived keys and requests are gone; operations that use them are aborted. -/
def State.wipeSecure (s : State) (d : Nat) : State :=
  let c := s.cairn
  let s := { s with cairn := { c with cache := (c.cache.map (fun (e : Nat × Nat) => (e.1, setBit e.2 d false))).filter (fun (e : Nat × Nat) => e.2 != 0),
                                      requests := c.requests.filter (fun x => x.1 != d) } }
  let s := { s with cipher := { s.cipher with derived := del s.cipher.derived d } }
  match s.mem.march with
  | some m =>
    if m.die = d ∧ m.preserving = true ∧ (m.left.head?).any (fun (b : Nat × Nat) => b.1 == 3) then
      { s with mem := { s.mem with march := none } }.setN O.marchStatus 6
    else s
  | none => s

end Sys2Proof.Machine
end

