-- ==== Sys2Proof/Machine/Memories.lean ====
section
/-! DEFINITION. Error correction and the march engine (chapter 15, R353 to R363). -/
namespace Sys2Proof.Machine

open Sys2Proof

/-! ### Error correction (R354, R355) -/

/-- R354: the patrol scrubber corrects words of a die's SRAMs. -/
def patrolScrub (d corrected : Nat) (s : State) : State :=
  if s.dieUp d then s.addTo (bySub O.eccCorrected d) corrected (2 ^ 32 - 1) else s

def execPatrolScrub (t die corrected : Nat) (s : State) : Host.Outcome State Fault Refusal :=
  .next (patrolScrub die corrected (s.begin t))

/-- The memory code of R353 that holds a word. -/
def hitMemory : EccHit → Nat
  | .tarn r _ => r
  | .queueState c => 5 + c / 2
  | .contract r _ => 5 + r
  | .rule r _ _ => 5 + r
  | .meter r _ => 5 + r
  | .shaper r _ _ => 5 + r
  | .frer r _ => 5 + r
  | .fdb r _ => 5 + r
  | .connection _ => 10
  | .management => 2
  | .secure => 3
  | .mailbox _ => 4
  | .edgeRam c => 7 + c
  | .audioInput _ => 9
  | .audioOutput _ => 9

/-- The tier of the event (R355): 1 for a cluster restart, 2 for a memory of a region, 3 for one of the die. -/
def hitTier : EccHit → Nat
  | .queueState _ => 1
  | .edgeRam _ => 1
  | .tarn _ _ => 2
  | .contract _ _ => 2
  | .rule _ _ _ => 2
  | .meter _ _ => 2
  | .shaper _ _ _ => 2
  | .frer _ _ => 2
  | .fdb _ _ => 2
  | _ => 3

/-- A table entry that reads as empty until the plan shard reloads it. -/
def State.openHole (s : State) (d item : Nat) : State :=
  { s with mem := { s.mem with holes := ins s.mem.holes (2 ^ 26 * d + item) s.now } }

/-- R355: the frame that holds the word is dropped on every egress lane of its region, and a copy on the wire is stomped. -/
def State.dropFrame (s : State) (r ep ts : Nat) : State :=
  let mine := fun (f : QFrame) => f.ingress == ep && f.ts == ts
  ((List.range 4).map (fun i => 4 * r + i)).foldl (fun (s : State) n =>
    let l := s.lane n
    let k := (l.queues.filter mine).length
    let s := if k = 0 then s else (s.updLane n (fun l => { l with queues := l.queues.filter (fun f => !mine f) })).countDrained n k
    if l.sending.any mine then s.stompLane n
    else if l.preempted.any mine then s.updLane n (fun l => { l with preempted := l.preempted.map (fun g => { g with stomp := true }) })
    else s) s

/-- R355: what an uncorrectable word does, by memory.  Jobs whose latched key a wipe of secure SRAM takes end with ABORTED, the one code
of R344 for a job stopped by no tamper event (DESIGN CHOICE). -/
def State.eccOutcome (s : State) (d : Nat) (h : EccHit) : State :=
  match h with
  | .tarn r (some (ep, ts)) => s.dropFrame (2 * d + r) ep ts
  | .tarn _ none => s
  | .queueState c => if c < 4 then s.restartCluster d c 0 else s
  | .contract _ k => s.openHole d k
  | .rule _ p k => s.openHole d (2 ^ 24 + 4096 * p + k)
  | .meter _ o =>
    let s := { s with fwd := { s.fwd with meters := del s.fwd.meters (meterKey d o) } }
    if o < 8192 then s.openHole d o else s
  | .shaper _ n k =>
    let s := { s with fwd := { s.fwd with shapers := mapVals (fun (x : ShaperSt) =>
      if x.lane = n ∧ x.slot = k then { x with cc := ((x.cb * tokenUnit : Nat) : Int), pc := ((x.pb * tokenUnit : Nat) : Int), time := s.now } else x) s.fwd.shapers } }
    s.openHole d k
  | .frer _ k =>
    let s := { s with fwd := { s.fwd with recovery := (s.recoveryKeys d k).foldl del s.fwd.recovery } }
    s.openHole d k
  | .fdb _ k => if (look (s.fdbOf d) k).any (fun e => !e.static) then (s.delFdb d k).refreshFdb else s
  | .connection i =>
    match (s.fw.conns.filter (fun c => c.home == d))[i]? with
    | some c => s.withConns (s.fw.conns.filter (fun x => x != c))
    | none => s
  | .management => fatalWire d 0 s
  | .secure =>
    let s := (s.wipeSecure d).failJobs (fun j => j.die == d && (j.run == 1 || j.run == 2)) jsABORTED
    let s := if d = 0 then { s with access := { s.access with sessions := mapVals (fun (x : Session) => { x with nonce := none }) s.access.sessions } } else s
    (if s.keysLocked then s else s.reloadCaches).engine_ d
  | .mailbox o => s.setMailbox d (ramWrite (s.mailboxOf d) (o / 8 * 8) (fill 8 0))
  | .edgeRam c => if c < 2 then (s.restartCluster d (4 + c) 1).clearCells d c else s
  | .audioInput ch => s.setInput d ch (s.input d ch).restart
  | .audioOutput o => { s with audio := { s.audio with overOut := o :: s.audio.overOut } }

/-- R355: an uncorrectable word is counted, logged and handled. -/
def eccUncorrectable (d : Nat) (h : EccHit) (bank word : Nat) (s : State) : State :=
  if s.dieUp d then
    let s := s.inc32 (bySub O.eccUncorrectable d)
    let s := s.logEv d ⟨0x010C, hitTier h⟩ 0xFFFF [(1, d), (1, hitMemory h), (2, bank), (4, word)]
    s.eccOutcome d h
  else s

def execEccUncorrectable (t die : Nat) (hit : EccHit) (bank word : Nat) (s : State) : Host.Outcome State Fault Refusal :=
  .next (eccUncorrectable die hit bank word (s.begin t))

/-! ### The march engine (R358 to R363) -/

abbrev maIDLE : Nat := 0
abbrev maRUNNING : Nat := 1
abbrev maPASSED : Nat := 2
abbrev maREPAIRED : Nat := 3
abbrev maFAILED : Nat := 4
abbrev maABORTED : Nat := 5
abbrev maINTERRUPTED : Nat := 6

/-- Banks of a memory (R353). -/
def banksOf (code : Nat) : Nat := [24, 24, 16, 4, 1, 44, 44, 1, 1, 8, 6].getD code 0

/-- The element that a failed bank takes down (R363): a region, or none for the die. -/
def bankRegion (code : Nat) : Option Nat :=
  if code = 0 ∨ code = 5 ∨ code = 7 then some 0
  else if code = 1 ∨ code = 6 ∨ code = 8 ∨ code = 9 then some 1
  else none

/-- R363: the banks that failed raise their region or die faults when the run ends. -/
def State.raiseBanks (s : State) (d failed : Nat) : State :=
  (bitsSet failed 11).foldl (fun (s : State) c =>
    match bankRegion c with
    | some r => s.regionFault (2 * d + r) 2
    | none => s.dieFault d 5 s.now) s

/-- R356: a memory of a die cleared to zero. -/
def State.clearMemory (s : State) (d code : Nat) : State :=
  if code = 0 ∨ code = 1 then ((List.range 4).map (fun i => 8 * d + 4 * code + i)).foldl (fun (s : State) n => s.drainLane n) s
  else if code = 3 then s.wipeSecure d
  else if code = 4 then s.setMailbox d []
  else if code = 5 ∨ code = 6 then
    { s with fwd := { s.fwd with fdb := upd [] s.fwd.fdb d (fun m => m.filter (fun e => e.2.static)) } }.refreshFdb
  else if code = 7 ∨ code = 8 then s.setEdgeRam (2 * d + (code - 7)) []
  else if code = 9 then
    let clean := fun (e : Nat × InputSt) => if e.1 / 1024 = d then (e.1, e.2.restart) else e
    { s with audio := { s.audio with inputs := s.audio.inputs.map clean } }
  else if code = 10 then s.withConns (s.fw.conns.filter (fun c => c.home != d))
  else s

/-- R361: a fault of the die, or of a region that holds a selected memory, interrupts the run. -/
def State.marchFault (s : State) : State :=
  match s.mem.march with
  | some m =>
    let hit := !s.dieUp m.die || (bitsSet m.memory 11).any (fun c => (bankRegion c).any (fun r => !s.regionUp (2 * m.die + r)))
    if hit then
      let s := { s with mem := { s.mem with march := none } }
      if m.aborted then s else s.setN O.marchStatus maINTERRUPTED
    else s
  | none => s

/-- R358, R361: *march command* start. -/
def marchStart (_ : Session) (s : State) : Status × State :=
  let d := s.n O.marchDie
  let pre := s.n O.marchMode == 1
  if s.n O.marchStatus = maRUNNING ∨ s.mem.march.isSome ∨ !s.dieUp d ∨ (!pre && !bit s.pkg.quarantine d) then (.deviceState, s)
  else
    let mask := s.n O.marchMemory
    let banks := (bitsSet mask 11).flatMap (fun c => (List.range (banksOf c)).map (fun b => (c, b)))
    let m : MarchRun := { die := d, memory := mask, preserving := pre, left := banks, repaired := false, failed := 0, aborted := false }
    let s := { s with mem := { s.mem with march := some m } }
    (.ok, ((s.setN O.marchStatus maRUNNING).setN O.marchFailingRows 0).setN O.marchProgress 0)

def execMarchStart (t : Nat) (who : Who) (s : State) : Host.Outcome State Fault Refusal := cmdRow t who 0x2E58 4 1 marchStart s

/-- R361: *march command* abort: a preserving run finishes its bank; a destructive run stops and its memories are cleared. -/
def marchAbort (_ : Session) (s : State) : Status × State :=
  match s.mem.march with
  | none => (.alreadyDone, s)
  | some m =>
    if s.n O.marchStatus ≠ maRUNNING then (.alreadyDone, s)
    else
      let s := s.setN O.marchStatus maABORTED
      if m.preserving ∧ m.left ≠ [] then (.ok, { s with mem := { s.mem with march := some { m with aborted := true } } })
      else
        let s := { s with mem := { s.mem with march := none } }
        let s := if m.preserving then s else (bitsSet m.memory 11).foldl (fun (s : State) c => s.clearMemory m.die c) s
        (.ok, s.raiseBanks m.die m.failed)

def execMarchAbort (t : Nat) (who : Who) (s : State) : Host.Outcome State Fault Refusal := cmdRow t who 0x2E58 4 2 marchAbort s

/-- Key of a bank's spare rows. -/
def spareKey (d code bank : Nat) : Nat := (d * 16 + code) * 64 + bank

/-- R362, R363: the failing rows of a bank take its spares; a ninth fails the bank. -/
def State.repairBank (s : State) (d code bank failing : Nat) : State :=
  let used := get 0 s.mem.spares (spareKey d code bank)
  let now := min 8 (used + failing)
  let s := { s with mem := { s.mem with spares := put 0 s.mem.spares (spareKey d code bank) now } }
  let s := s.addTo (bySub O.spareRowsInUse d) (now - used) 65535
  if 8 < used + failing then s.setFlag (bySub O.failedBanks d) code true else s

/-- R360, R363: one bank of the run is done; it had so many new failing rows. -/
def marchBankDone (failing : Nat) (s : State) : State :=
  let s := s.marchFault
  match s.mem.march with
  | none => s
  | some m =>
    match m.left with
    | [] => s
    | (code, bank) :: rest =>
      let bad := decide (8 < get 0 s.mem.spares (spareKey m.die code bank) + failing)
      let s := s.repairBank m.die code bank failing
      let s := s.addTo O.marchFailingRows failing 65535 |>.addTo O.marchProgress 1 65535
      let s := if m.preserving then s else s.clearMemory m.die code
      let m := { m with left := rest, repaired := m.repaired || (decide (0 < failing) && !bad),
                        failed := if bad then setBit m.failed code true else m.failed }
      if m.aborted then { s with mem := { s.mem with march := none } }.raiseBanks m.die m.failed
      else { s with mem := { s.mem with march := some m } }

def execMarchBankDone (t failing : Nat) (s : State) : Host.Outcome State Fault Refusal := .next (marchBankDone failing (s.begin t))

/-- R361: every bank is done: PASSED, REPAIRED or FAILED. -/
def marchDone (s : State) : State :=
  let s := s.marchFault
  match s.mem.march with
  | none => s
  | some m =>
    if m.left ≠ [] ∨ m.aborted = true then s
    else
      let s := { s with mem := { s.mem with march := none } }
      let s := s.setN O.marchStatus (if m.failed ≠ 0 then maFAILED else if m.repaired then maREPAIRED else maPASSED)
      s.raiseBanks m.die m.failed

def execMarchDone (t : Nat) (s : State) : Host.Outcome State Fault Refusal := .next (marchDone (s.begin t))

end Sys2Proof.Machine
end

