-- ==== Sys2Proof/Machine/Power.lean ====
section
/-! DEFINITION. Quarantine, the consent ring, Sleep, Standby and detaching (chapter 16, R368 to R392). -/
namespace Sys2Proof.Machine

open Sys2Proof

/-! ### Power states and quarantine (R370, R390, R391) -/

abbrev pwOFF : Nat := 0
abbrev pwSLEEP : Nat := 1
abbrev pwSTANDBY : Nat := 2
abbrev pwACTIVE : Nat := 3
abbrev pwDRAINING : Nat := 5
abbrev pwDETACHED : Nat := 6

def State.power_ (s : State) : Nat := s.n O.powerState

/-- R390: may the ports of a die leave quarantine? -/
def State.mayLeave (s : State) (d : Nat) : Bool :=
  s.n O.activeGeneration != 0 && s.pkg.planOk && s.n O.tamperState != 2 && !s.pkg.tamperHold && s.pkg.recoveryDies == 0 &&
    s.n O.detachStatus == 0 && !bit (s.n O.dieServiceHold) d && s.power_ == pwACTIVE && s.dieUp d

/-- R380, R390, R391: the ports of every die that may leave quarantine do; the device sends JOIN, starts LACP and declares. -/
def State.leaveQuarantine (s : State) : State :=
  let out := (bitsSet s.pkg.quarantine 8).filter s.mayLeave
  if out.isEmpty then s
  else
    let s := { s with pkg := { s.pkg with quarantine := s.pkg.quarantine - maskOf out } }
    let s := s.ringSend (s.n O.ringLanes) none (s.ringMsg rtJOIN)
    let lacp := (List.range s.laneCount).filter (fun n => out.contains (n / 8) && (s.lagOf n).any (fun g => s.n (byIdx O.lacpMode g) != 0))
    let s := lacp.foldl (fun (s : State) n => s.emit (.message "lacp" n [])) s
    s.redeclare []

/-- Every port of the dies of a mask enters quarantine; what their lanes hold is dropped and counted (R382). -/
def State.enterQuarantine (s : State) (dies : Nat) : State :=
  let s := { s with pkg := { s.pkg with quarantine := maskOf ((List.range 8).filter (fun d => bit s.pkg.quarantine d || bit dies d)) } }
  ((List.range s.laneCount).filter (fun n => bit dies (n / 8))).foldl (fun (s : State) n => s.drainLane n) s

/-- The state that powered-off domains lose: lanes, tables, sessions of the firewall, keys in use, cells, buffers (R356, R370).
`ctrl` says that CTRL stays on (Standby). -/
def State.powerDown (s : State) (ctrl : Bool) : State :=
  let s := s.stopLists.interruptTests (fun _ => true)
  let s := (List.range s.laneCount).foldl (fun (s : State) n => (s.drainLane n).setN (laneKey O.linkStatus n) 0) s
  let s := { s with lanes := [] }
  let s := s.dies.foldl (fun (s : State) d => (List.range 4).foldl (fun (s : State) p => s.setN (portKey O.saddleLinkState d p) 0) s) s
  let s := (List.range 16).foldl (fun (s : State) a => if s.annStatus a = 1 then s.setN (annKey O.announcementStatus a) 4 else s) s
  let s := match s.mem.march with
    | some _ => { s with mem := { s.mem with march := none } }.setN O.marchStatus maINTERRUPTED
    | none => s
  let fwd : FwdSt := { fdb := mapVals (fun m => m.filter (fun e => e.2.static)) s.fwd.fdb }
  let b : BridgeSt := if ctrl then { s.bridge with txns := [], queued := [], forwarding := [], waiting := [], spiRead := none, lines := [], edgeRam := [] } else {}
  { s with
    fwd := fwd, fw := {}, bridge := b, audio := {}, edge := { s.edge with can := [], lin := [], uart := [], t1s := [], mvb := [], cells := [], node := {} },
    cairn := { s.cairn with cache := [], requests := [] },
    cipher := { s.cipher with sas := [], mka := [], jobs := [], next := [], derived := [], counts := jumpCounts s.cipher.counts },
    access := if ctrl then { s.access with sessions := mapVals (fun (x : Session) => { x with job := none }) s.access.sessions } else {},
    pkg := { s.pkg with clusters := [], linkMiss := [], linkReports := [], firstReport := [] } }

/-! ### Vetoes and members (R380, R381) -/

/-- The veto reasons this device holds (R381). -/
def State.vetoReasons (s : State) : Nat :=
  let commit := s.commitStatus == csRUNNING || s.commitStatus == csSWITCHPENDING || s.n O.migrationStatus == msRUNNING
  maskOf ([(0, s.n O.sleepVeto == 1), (1, s.emgActive), (2, s.update.holder.isSome), (3, commit),
    (4, s.n O.lifeCycleCommandStatus == 1), (5, (List.range 16).any (fun a => s.annStatus a == 1)),
    (6, s.n O.marchStatus == maRUNNING)].filterMap (fun e => if e.2 then some e.1 else none))

/-- The members table as a number: bit a is system address a. -/
def State.members (s : State) : Nat := leNat (s.blob O.membersPower)

def State.setMember (s : State) (a : Nat) (b : Bool) : State :=
  if a < 2048 then s.setBlob O.membersPower (leBytes 256 (setBit s.members a b)) else s

/-- The next higher member address after `a`, wrapping; this device itself where there is none other (R381). -/
def State.successor (s : State) (a : Nat) : Nat :=
  let m := s.members
  match ((List.range 2048).map (fun i => (a + 1 + i) % 2048)).find? (fun x => bit m x || x == s.ownAddr) with
  | some x => x
  | none => s.ownAddr

/-- R379: a frame other than WAKE is relayed once on the ring lanes, but for the lane of arrival. -/
def State.relayRing (s : State) (lane : Nat) (m : RingMsg) : State := s.ringSend (s.n O.ringLanes) (some lane) m

/-- R27: another member uses this device's system address: the conflict is flagged and logged. -/
def State.noteConflict (s : State) : State :=
  if s.pkg.addressConflict then s
  else ({ s with pkg := { s.pkg with addressConflict := true } }).logLead Ev.addressConflict 0xFFFF [(2, s.ownAddr)]

/-- What every ring frame does first: a repeat, a frame that this device has sent itself, and one that reaches a device or a lane that is
not up are left; one that another member sends under this device's address shows the conflict of R27; the member is known. -/
def ringFrameIn (lane : Nat) (b : Bytes) (ty : Nat) (s : State) (act : RingMsg → State → State) : State :=
  match ringParse b with
  | none => s
  | some m =>
    if m.ty ≠ ty ∨ s.quiet = true ∨ s.inService lane = false ∨ s.relayedBefore m = true then s
    else if m.origin = s.ownAddr then s.noteConflict
    else act m (s.setMember m.origin true)

/-- R380: JOIN adds its sender. -/
def execJoin (t lane : Nat) (frame : Bytes) (s : State) : Host.Outcome State Fault Refusal :=
  .next (ringFrameIn lane frame rtJOIN (s.begin t) (fun m s => s.relayRing lane m))

/-- R380: LEAVE removes its sender. -/
def execLeave (t lane : Nat) (frame : Bytes) (s : State) : Host.Outcome State Fault Refusal :=
  .next (ringFrameIn lane frame rtLEAVE (s.begin t) (fun m s => (s.relayRing lane m).setMember m.origin false))

/-! ### Rounds (R381 to R384) -/

/-- The round this device sees as open: one that has neither committed nor gone beyond the 500 ms a round may take. -/
def State.openRound (s : State) : Option RoundSt :=
  match s.power.round with
  | some r => if r.commit.isSome || decide (s.now < r.since + 500000000) then some r else none
  | none => none

/-- COMMIT of the round that this device started. -/
def State.commitMsg (s : State) (r : RoundSt) : RingMsg :=
  { s.ringMsg rtCOMMIT with initiator := r.initiator, roundTick := r.start, commitTick := r.commit.getD 0 }

/-- R382: the token is back at its initiator: the report, and COMMIT or a vetoed round. -/
def State.roundEnds (s : State) (r : RoundSt) (m : RingMsg) : State :=
  let s := s.setBlob O.roundReport (slice m.bytes 0x20 136)
  let s := { s with power := { s.power with token := none } }
  if m.vetoes ≠ 0 then (s.setRound none).setN O.sleepRoundStatus srVETOED
  else
    let r := { r with commit := some (s.tickNo + 16) }
    let s := ((s.setRound (some r)).setN O.sleepRoundStatus srCOMMITTED).setN O.sleepCommitTick (s.tickNo + 16)
    let s := { s with power := { s.power with commits := 2 } }
    s.ringSend (s.n O.ringLanes) none (s.commitMsg r)

/-- The token leaves for a successor, or ends its round where this device is alone; a device whose address is in conflict sends none
(R27). -/
def State.sendToken (s : State) (m : RingMsg) : State :=
  let nxt := s.successor s.ownAddr
  if s.pkg.addressConflict then s
  else if nxt = s.ownAddr then
    match s.power.round with
    | some r => if r.initiator = s.ownAddr then s.roundEnds r m else s
    | none => s
  else
    let m := { m with origin := s.ownAddr, target := nxt }
    let s := { s with power := { s.power with token := some { frame := m.bytes, successor := nxt, sent := s.now } } }
    s.ringSend (s.n O.ringLanes) none m

/-- R381: *sleep request*. -/
def sleepRequestAct (_ : Session) (s : State) : Status × State :=
  if s.vetoReasons ≠ 0 ∨ s.openRound.isSome ∨ s.power_ ≠ pwACTIVE then (.deviceState, s)
  else
    let r : RoundSt := { initiator := s.ownAddr, start := s.tickNo, since := s.now }
    let s := (s.setRound (some r)).setN O.sleepRoundStatus srCIRCULATING
    (.ok, s.sendToken { s.ringMsg rtTOKEN with initiator := s.ownAddr, roundTick := s.tickNo })

def execSleepRequest (t : Nat) (who : Who) (s : State) : Host.Outcome State Fault Refusal := cmdRow t who 0x2C00 9 1 sleepRequestAct s

/-- R384: does a round precede another? -/
def precedes (i t i' t' : Nat) : Bool := decide (t < t') || (t == t' && decide (i < i'))

/-- R381, R384: a member that is addressed records consent or veto and sends the token on. -/
def State.answerToken (s : State) (m : RingMsg) : State :=
  let conc := match s.openRound with
    | some r => !(r.initiator == m.initiator && r.start == m.roundTick) && !precedes m.initiator m.roundTick r.initiator r.start
    | none => false
  let why := setBit s.vetoReasons 7 conc
  let s := if conc then s else s.setRound (some { initiator := m.initiator, start := m.roundTick, since := s.now })
  let m := if why = 0 then { m with consents := m.consents + 1 }
    else { m with vetoes := m.vetoes + 1,
                  list := if m.vetoes < 32 then patch m.list (4 * m.vetoes) (beBytes 2 s.ownAddr ++ beBytes 2 why) else m.list }
  s.sendToken m

/-- R381, R382: a TOKEN arrives: the successor's token is seen; it is relayed, answered, or back at its initiator. -/
def tokenIn (lane : Nat) (m : RingMsg) (s : State) : State :=
  let s := match s.power.token with
    | some k => if k.successor = m.origin then { s with power := { s.power with token := none } } else s
    | none => s
  if m.target ≠ s.ownAddr then s.relayRing lane m
  else
    let s := s.noteRing m
    match s.power.round with
    | some r =>
      if r.initiator = s.ownAddr ∧ m.initiator = s.ownAddr then
        (if r.start = m.roundTick ∧ s.n O.sleepRoundStatus = srCIRCULATING then s.roundEnds r m else s)
      else s.answerToken m
    | none => if m.initiator = s.ownAddr then s else s.answerToken m

def execToken (t lane : Nat) (frame : Bytes) (s : State) : Host.Outcome State Fault Refusal :=
  .next (ringFrameIn lane frame rtTOKEN (s.begin t) (tokenIn lane))

/-- R380, R381: the successor's token has not been seen within 2 ms: it is absent, and the next member gets the token. -/
def tokenTimeout (s : State) : State :=
  match s.power.token with
  | none => s
  | some k =>
    if s.now < k.sent + 2000000 then s
    else
      match ringParse k.frame with
      | none => s
      | some m =>
        let s := { s with power := { s.power with token := none } }
        let s := s.setMember k.successor false
        let nxt := s.successor k.successor
        if nxt = s.ownAddr then
          match s.power.round with
          | some r => if r.initiator = s.ownAddr then s.roundEnds r { m with absent := m.absent + 1 } else s
          | none => s
        else if s.pkg.addressConflict then s
        else
          let m := { m with target := nxt, absent := m.absent + 1 }
          let s := { s with power := { s.power with token := some { frame := m.bytes, successor := nxt, sent := s.now } } }
          s.ringSend (s.n O.ringLanes) none m

def execTokenTimeout (t : Nat) (s : State) : Host.Outcome State Fault Refusal := .next (tokenTimeout (s.begin t))

/-- R382: the token has not returned within 500 ms. -/
def roundTimeout (s : State) : State :=
  match s.power.round with
  | some r =>
    if r.initiator = s.ownAddr ∧ s.n O.sleepRoundStatus = srCIRCULATING ∧ r.since + 500000000 ≤ s.now then
      { s with power := { s.power with token := none } }.setRound none |>.setN O.sleepRoundStatus srFAILED
    else s
  | none => s

def execRoundTimeout (t : Nat) (s : State) : Host.Outcome State Fault Refusal := .next (roundTimeout (s.begin t))

/-- R382: COMMIT: the commit tick is recorded. -/
def commitIn (lane : Nat) (m : RingMsg) (s : State) : State :=
  let s := s.relayRing lane m
  let r : RoundSt := { initiator := m.initiator, start := m.roundTick, since := s.now, commit := some m.commitTick }
  if (s.power.round.any (fun x => x.initiator == m.initiator && x.start == m.roundTick && (x.cancelled || x.commit.isSome))) then s
  else (s.setRound (some r)).setN O.sleepCommitTick m.commitTick

def execConsentCommit (t lane : Nat) (frame : Bytes) (s : State) : Host.Outcome State Fault Refusal :=
  .next (ringFrameIn lane frame rtCOMMIT (s.begin t) (commitIn lane))

/-- R382: 100 µs later the initiator's next COMMIT is sent. -/
def commitRepeat (s : State) : State :=
  match s.power.round with
  | some r =>
    if s.power.commits = 0 ∨ r.initiator ≠ s.ownAddr ∨ r.commit = none then s
    else
      let s := { s with power := { s.power with commits := s.power.commits - 1 } }
      s.ringSend (s.n O.ringLanes) none (s.commitMsg r)
  | none => s

def execCommitRepeat (t : Nat) (s : State) : Host.Outcome State Fault Refusal := .next (commitRepeat (s.begin t))

/-- R383: CANCEL before the commit tick: the round is abandoned. -/
def cancelIn (lane : Nat) (m : RingMsg) (s : State) : State :=
  let s := s.relayRing lane m
  match s.power.round with
  | some r =>
    if r.initiator = m.initiator ∧ r.start = m.roundTick ∧ s.tickNo < m.commitTick then
      let s := if r.initiator = s.ownAddr then s.setN O.sleepRoundStatus srCANCELLED else s
      { s with power := { s.power with commits := 0 } }.setRound (if r.cancelled then some r else none) |>.setN O.sleepCommitTick 0
    else s
  | none => s

def execCancel (t lane : Nat) (frame : Bytes) (s : State) : Host.Outcome State Fault Refusal :=
  .next (ringFrameIn lane frame rtCANCEL (s.begin t) (cancelIn lane))

/-! ### Sleep (R382, R383, R389) -/

/-- R396: the REG_EN outputs that switch a rail in use. -/
def State.switchedOutputs (s : State) : List Nat :=
  (List.range 5).filter (fun i => (List.range 16).any (fun k =>
    let x := s.blob (at_ O.railRecords k)
    fld x 1 1 != 0xFF && fld x 3 1 == i + 1))

/-- R382: the entry into Sleep, in its order. -/
def State.enterSleep (s : State) : State :=
  let s := s.enterQuarantine s.dieMask
  let lins := (List.range 16).filter (fun u => s.edgeOn (epLin u) && s.n (byIdx O.linRole u) == 0)
  let s := lins.foldl (fun (s : State) u => s.emit (.message "lin-sleep" u [0x3C, 0x00, 0xFF, 0xFF, 0xFF, 0xFF, 0xFF, 0xFF, 0xFF])) s
  let s := (s.powerDown false).setN O.powerState pwSLEEP
  let s := s.switchedOutputs.foldl (fun (s : State) i => s.emit (.message "reg_en" i [0])) s
  let s := if (List.range s.variant).all (fun d => s.n (bySub O.inhInSleep d) == 0) then s.emit (.message "inh" 0 [0]) else s
  { s with power := { s.power with round := none, token := none, commits := 0, wakes := 0, wakeOnCommit := false, wakeAt := none, forwardOn := none } }

/-- R382, R383: the commit tick is reached: the member enters Sleep, or, where it has cancelled, sends WAKE. -/
def sleepEntry (s : State) : State :=
  match s.power.round with
  | some r =>
    match r.commit with
    | some c =>
      if s.tickNo < c ∨ s.power_ ≠ pwACTIVE then s
      else if r.cancelled then
        let s := (s.setRound none).setN O.sleepCommitTick 0
        let s := { s with power := { s.power with wakeOnCommit := false } }
        s.forwardWake none
      else
        let s := s.logEv s.pkg.lead Ev.sleepEntry 0xFFFF [(2, r.initiator), (8, c)]
        (s.setN O.sleepRoundStatus (if r.initiator = s.ownAddr then srCOMMITTED else s.n O.sleepRoundStatus)).enterSleep
    | none => s
  | none => s

def execSleepEntry (t : Nat) (s : State) : Host.Outcome State Fault Refusal := .next (sleepEntry (s.begin t))

/-- R389: no valid traffic within *no-traffic timeout* of a wake: the device sleeps again. -/
def falseWake (s : State) : State :=
  match s.power.wakeAt with
  | some w =>
    if s.now < w + s.n O.noTrafficTimeout * 1000000 ∨ s.power_ ≠ pwACTIVE then s
    else
      let s := (s.inc32 O.falseWakes).logLead Ev.falseWake 0xFFFF [(1, s.n O.lastWakeCause), (2, s.n O.lastWakeSource)]
      s.enterSleep
  | none => s

def execFalseWake (t : Nat) (s : State) : Host.Outcome State Fault Refusal := .next (falseWake (s.begin t))

/-! ### Standby (R370, R371) -/

/-- R371: *standby command* 1. -/
def standbyEnter (_ : Session) (s : State) : Status × State :=
  if s.power_ ≠ pwACTIVE ∨ s.commitStatus = csRUNNING ∨ s.commitStatus = csSWITCHPENDING ∨ s.n O.lifeCycleCommandStatus = 1 ∨
      s.update.holder.isSome then (.deviceState, s)
  else (.ok, ((s.enterQuarantine s.dieMask).powerDown true).setN O.powerState pwSTANDBY)

def execStandbyEnter (t : Nat) (who : Who) (s : State) : Host.Outcome State Fault Refusal := cmdRow t who 0x2C00 2 1 standbyEnter s

/-! ### Detach (R392) -/

/-- R392: *detach command*. -/
def detachAct (_ : Session) (s : State) : Status × State :=
  if s.power_ ≠ pwACTIVE ∨ s.commitStatus = csRUNNING ∨ s.commitStatus = csSWITCHPENDING ∨ s.n O.lifeCycleCommandStatus = 1 then
    (.deviceState, s)
  else
    let s := s.ringSend (s.n O.ringLanes) none (s.ringMsg rtLEAVE)
    let s := s.plan.talkers.foldl (fun (s : State) k => s.emit (.message "msrp-withdraw" k.slot [])) s
    let s := { s with plan := { s.plan with talkers := [], listeners := [] },
                      pkg := { s.pkg with quarantine := s.dieMask }, power := { s.power with drainSince := s.now } }
    (.ok, (s.setN O.powerState pwDRAINING).setN O.detachStatus 1)

def execDetachCommand (t : Nat) (who : Who) (s : State) : Host.Outcome State Fault Refusal := cmdRow t who 0x2C00 0x0F 1 detachAct s

/-- R392: the queues are empty, or 10 ms have passed: what is left is dropped, outputs fade, units and lanes stand still. -/
def detachEnd (s : State) : State :=
  let empty := (List.range s.laneCount).all (fun n => (s.lane n).queues.isEmpty && (s.lane n).sending.isNone)
  if s.n O.detachStatus = 1 ∧ (empty = true ∨ s.power.drainSince + 10000000 ≤ s.now) then
    let s := (List.range s.laneCount).foldl (fun (s : State) n => s.drainLane n) s
    let s := (s.setN O.powerState pwDETACHED).setN O.detachStatus 2
    let s := ((List.range s.laneCount).filter s.laneOn).foldl (fun (s : State) n => s.emit (.message "tx-idle" n [])) s
    { s with audio := { s.audio with outputs := mapVals (fun (x : OutputSt) => { x with live := false, faded := true, last := 0, peak := 0 }) s.audio.outputs } }
  else s

def execDetachDrainEnd (t : Nat) (s : State) : Host.Outcome State Fault Refusal := .next (detachEnd (s.begin t))

end Sys2Proof.Machine
end

