-- ==== Sys2Proof/Machine/Cairn.lean ====
section
/-! DEFINITION. Life cycle, tamper response and attestation (chapter 13, R318 to R328). -/
namespace Sys2Proof.Machine

open Sys2Proof

/-! ### Attestation statements (R327) -/

/-- Head of a CBOR item (RFC 8949, deterministic encoding). -/
def cborHead (major n : Nat) : Bytes :=
  if n < 24 then beBytes 1 (32 * major + n)
  else if n < 256 then beBytes 1 (32 * major + 24) ++ beBytes 1 n
  else if n < 65536 then beBytes 1 (32 * major + 25) ++ beBytes 2 n
  else if n < 2 ^ 32 then beBytes 1 (32 * major + 26) ++ beBytes 4 n
  else beBytes 1 (32 * major + 27) ++ beBytes 8 n

def cborUint (n : Nat) : Bytes := cborHead 0 n
def cborBytes (b : Bytes) : Bytes := cborHead 2 b.length ++ b

/-- A byte string cut or zero-extended to a length. -/
def sized (n : Nat) (b : Bytes) : Bytes := (b ++ fill n 0).take n

/-- Hash of a firmware slot, or null where the slot holds no image. -/
def State.slotHash (s : State) (i : Nat) : Bytes :=
  if s.n (byIdx O.imageSlotState i) ≤ 1 then [0xF6] else cborBytes (sized 48 (s.blob (byIdx O.slotImageHash i)))

/-- Healthy dies (R20). -/
def State.healthyMask (s : State) : Nat := maskOf s.upDies

/-- The payload of R327: a map of keys 1 to 17 in deterministic encoding. -/
def State.attestMap (s : State) (tamper : Nat) (nonce : Bytes) : Bytes :=
  let counters := (List.range 7).flatMap (fun c => cborUint (s.n (bySub O.tamperCounters c)))
  let items : List Bytes :=
    [cborBytes (s.blob O.idevidCertificate), cborUint (s.n O.systemAddress), cborUint s.variant, cborUint s.healthyMask,
     cborBytes (sized 48 (Config.crypto 73 [])), s.slotHash 0, s.slotHash 1, cborUint (s.n O.runningImage),
     cborUint (s.n O.antiRollbackCounter), cborBytes (sized 32 (s.blob O.planHash)), cborUint (s.n O.activeGeneration),
     cborUint (s.n O.lifeCycleState), cborHead 4 7 ++ counters, cborUint tamper, cborBytes nonce, cborUint s.tickNo,
     cborBytes (sized 97 (s.blob O.importPublicKey))]
  cborHead 5 17 ++ ((List.range 17).flatMap (fun i => cborUint (i + 1) ++ items.getD i []))

/-- The protected header: algorithm −35 (ES384) and the subject key identifier of the IDevID certificate. -/
def State.attestHeader (s : State) : Bytes :=
  [0xA2, 0x01, 0x38, 0x22, 0x04] ++ cborBytes (sized 20 (Config.crypto 72 [s.blob O.idevidCertificate]))

/-- "Signature1". -/
def labelSignature1 : Bytes := [0x53, 0x69, 0x67, 0x6E, 0x61, 0x74, 0x75, 0x72, 0x65, 0x31]

/-- A COSE_Sign1 structure with its tag (DESIGN CHOICE: tagged), signed under the identity key over a Sig_structure with an
empty external_aad. -/
def State.attestation (s : State) (tamper : Nat) (nonce : Bytes) : Bytes :=
  let p := cborBytes s.attestHeader
  let m := cborBytes (s.attestMap tamper nonce)
  let tbs := [0x84] ++ cborHead 3 10 ++ labelSignature1 ++ p ++ cborBytes [] ++ m
  [0xD2, 0x84] ++ p ++ [0xA0] ++ m ++ cborBytes (sized 96 (Config.crypto 71 [identityKey, tbs]))

/-- R328: can a statement be produced? -/
def State.canAttest (s : State) : Bool := s.anchorUp && s.n O.lifeCycleState != 0

/-- R328: a nonce starts a statement of the session. -/
def attestNonceAct (sess : Nat) (b : Bytes) (_ : Session) (s : State) : Status × State :=
  (.ok, s.updSession sess (fun x => { x with nonce := some b, statement := [] }))

def execAttestationNonce (t : Nat) (who : Who) (nonce : Bytes) (s : State) : Host.Outcome State Fault Refusal :=
  domRow t who 0x2B28 1 nonce 8 64 (fun _ => true) (attestNonceAct who.sess nonce) s

/-- R328: the statement is signed, or cannot be. -/
def attestReady (sess : Nat) (s : State) : State :=
  match s.session? sess with
  | none => s
  | some x =>
    match x.nonce with
    | none => s
    | some b =>
      let st := if s.canAttest && !s.pkg.tamperHold then s.attestation (s.n O.tamperState) b else []
      s.updSession sess (fun y => { y with nonce := none, statement := st })

def execAttestationReady (t sess : Nat) (s : State) : Host.Outcome State Fault Refusal := .next (attestReady sess (s.begin t))

/-! ### Life cycle (R318, R319) -/

/-- The role of a transition of R318, if it exists. -/
def lifeCycleRole (frm to_ : Nat) : Option Role :=
  if frm = 0 ∧ to_ = 1 ∨ frm = 1 ∧ to_ = 2 ∨ frm = 3 ∧ to_ = 4 ∨ frm = 4 ∧ to_ = 5 then some .vendor
  else if frm = 2 ∧ to_ = 3 ∨ frm = 3 ∧ to_ = 2 then some .integrator
  else none

/-- R318: the values of derived slots, imported leaves, SAKs and their journal are erased. -/
def State.eraseValues (s : State) : State :=
  let s := s.dies.foldl (fun (s : State) d => s.wipeSecure d) s
  let s := s.eraseSas (fun _ => true)
  let leaf := fun (k : Nat) => ksKind (s.slotRec k) == 2
  let s := { s with cairn := { s.cairn with leaves := [], cache := [], requests := [],
                                            copies := s.cairn.copies.filter (fun e => !leaf (e.1 % 1024)) },
                    cipher := { s.cipher with journal := [], mka := [] } }
  s.refreshSlots

/-- R318: every slot record, value and copy is erased, and the roots of every die are zeroized. -/
def State.eraseAllKeys (s : State) : State :=
  let s := { s with dict := { s.dict with blobs := s.dict.blobs.filter (fun e => muxOf e.1 != O.cairnSlotRecords) },
                    cairn := { s.cairn with copies := [], destroyed := s.dieMask } }
  s.refreshSlots.refreshRoots

/-- R319: marker, then the erasure. -/
def State.startTransition (s : State) (to_ : Nat) : State :=
  let s := { s with cairn := { s.cairn with marker := some to_, refuseState := false } }
  let s := (s.setN O.lifeCycleCommandStatus 1).eraseValues
  if 4 ≤ to_ then s.eraseAllKeys else s

/-- R319: *life-cycle command*. -/
def lifeCycleAct (v : Nat) (x : Session) (s : State) : Status × State :=
  match lifeCycleRole (s.n O.lifeCycleState) v with
  | none => (.outOfRange, s)
  | some r =>
    if !r.le x.role then (.accessDenied, s.countDenial .accessDenied)
    else if s.commitStatus = csRUNNING ∨ s.commitStatus = csSWITCHPENDING ∨ s.n O.migrationStatus = msRUNNING ∨
        s.n O.migrationStatus = msSWITCHPENDING ∨ s.n O.tamperState ≠ 0 ∨ !s.dieUp 0 ∨ s.pkg.anchorLost = true ∨
        s.n O.lifeCycleCommandStatus = 1 then (.deviceState, s)
    else (.ok, s.startTransition v)

def execLifeCycleCommand (t : Nat) (who : Who) (v : Nat) (s : State) : Host.Outcome State Fault Refusal :=
  cmdRow t who 0x2B18 1 v (lifeCycleAct v) s

/-- R319: a started transition ends: the state is written, unless a tamper event met it under Contain or Halt. -/
def lifeCycleDone (s : State) : State :=
  match s.cairn.marker with
  | none => s
  | some to_ =>
    let frm := s.n O.lifeCycleState
    let no := s.cairn.refuseState
    let s := { s with cairn := { s.cairn with marker := none, refuseState := false } }
    let s := s.logLead Ev.lifeCycle 0xFFFF [(1, frm), (1, to_), (1, b2n no)]
    if no then s.setN O.lifeCycleCommandStatus 3
    else
      let s := (s.setN O.lifeCycleCommandStatus 2).setN O.lifeCycleState to_
      let s := if frm = 0 ∧ to_ = 1 then s.setBlob O.idevidCertificate (Config.crypto 70 [identityKey]) else s
      s.enginesGo

def execLifeCycleDone (t : Nat) (s : State) : Host.Outcome State Fault Refusal := .next (lifeCycleDone (s.begin t))

/-! ### Tamper (R320 to R326) -/

/-- Codes of *tamper policy*. -/
abbrev tpREPORT : Nat := 0
abbrev tpCONTAIN : Nat := 1
abbrev tpHALT : Nat := 2

/-- R326: with the fuse set, an event under Contain or Halt zeroizes the roots of all dies, whatever else meets the event. -/
def State.fuseRoots (s : State) : State :=
  if s.n O.tamperDestroysRoot = 1 then
    { s with cairn := { s.cairn with destroyed := s.dieMask } }.refreshRoots
  else s

/-- R294, R321: Contain or Halt; the TAMPER wires are high while the response is in progress, which ends before the next boundary. -/
def State.tamperRespond (s : State) (policy : Nat) : State :=
  let s := s.dies.foldl (fun (s : State) d => s.wipeSecure d) s
  let s := s.eraseSas (fun _ => true)
  let s := { s with cipher := { s.cipher with mka := [] } }
  let s := s.setN O.tamperState (max (s.n O.tamperState) policy)
  let s := { s with pkg := { s.pkg with tamperWire := s.healthyMask } }
  if s.n O.tamperState = 2 then s.enterQuarantine s.dieMask else s

/-- R320 to R324: a sensor of an enabled class reports on a die; `count` is the AON block's count in Sleep. -/
def tamper (die cls count : Nat) (s : State) : State :=
  if !s.hasDie die || decide (7 ≤ cls) || !bit (s.n O.tamperSensorEnable) cls || s.power_ == pwOFF then s
  else
    let policy := s.n O.tamperPolicy
    let s := (s.setFlag O.sensorsActive cls true).inc32 (bySub O.tamperCounters cls)
    let s := s.logLead Ev.tamper 0xFFFF [(1, cls), (1, die), (1, policy), (4, if s.power_ = pwSLEEP then count else 0)]
    let s := if policy = tpREPORT then s else s.fuseRoots
    if s.power_ = pwSLEEP then { s with cairn := { s.cairn with sleepTamper := true, aonCount := count } }
    else if !s.update.ready then { s with cairn := { s.cairn with early := true } }
    else
      let s := { s with cairn := { s.cairn with requests := [], refuseState := s.cairn.refuseState || (s.cairn.marker.isSome && decide (1 ≤ policy)) },
                        access := { s.access with sessions := mapVals (fun (x : Session) => { x with nonce := none }) s.access.sessions } }
      let s := s.tamperJobs (decide (1 ≤ policy))
      if policy = tpREPORT ∨ s.pkg.tamperHold = true then s else s.tamperRespond policy

def execTamper (t die cls count : Nat) (s : State) : Host.Outcome State Fault Refusal := .next (tamper die cls count (s.begin t))

/-- R320: every 1 ms a new 16-bit pattern leaves on the external loops, and what came back is checked; a loop that mismatches
and does not yet report raises its class. -/
def loopPattern (ok0 ok1 : Bool) (count : Nat) (s : State) : State :=
  if s.power_ = pwOFF then s
  else
    let s := (s.emit (.message "tmp_loop" 0 (leBytes 2 s.free))).drawn
    let s := (s.emit (.message "tmp_loop" 1 (leBytes 2 s.free))).drawn
    let s := if !ok0 && !s.flag O.sensorsActive 2 then tamper 0 2 count s else s
    if !ok1 && !s.flag O.sensorsActive 3 then tamper 0 3 count s else s

def execTamperLoopPattern (t : Nat) (ok0 ok1 : Bool) (count : Nat) (s : State) : Host.Outcome State Fault Refusal :=
  .next (loopPattern ok0 ok1 count (s.begin t))

/-- A sensor no longer reports its condition (R325, R329). -/
def execTamperConditionEnds (t cls : Nat) (s : State) : Host.Outcome State Fault Refusal :=
  .next (if cls < 7 then (s.begin t).setFlag O.sensorsActive cls false else s.begin t)

/-- R325: what a successful clear does: keys, caches and SAs come back, the state is CLEAR, and the clear is logged. -/
def State.tamperRelease (s : State) (was : Nat) : State :=
  let s := s.setN O.tamperState 0
  let s := s.reloadCaches.reloadSas
  let s := s.logLead Ev.tamperClear 0xFFFF [(1, was)]
  s.enginesGo

/-- R325: *tamper clear* in CONTAINED or HALTED. -/
def tamperClearAct (sess : Nat) (b : Bytes) (_ : Session) (s : State) : Status × State :=
  let st := s.n O.tamperState
  if st = 0 ∨ s.n O.sensorsActive ≠ 0 ∨ s.canAttest = false then (.deviceState, s)
  else
    let doc := s.attestation st b
    let s := s.updSession sess (fun x => { x with nonce := none, statement := doc })
    let s := s.tamperRelease (st - 1)
    (.ok, if st = 2 then s.leaveQuarantine else s)

def execTamperClear (t : Nat) (who : Who) (nonce : Bytes) (s : State) : Host.Outcome State Fault Refusal :=
  domRow t who 0x2B20 4 nonce 8 64 (fun _ => true) (tamperClearAct who.sess nonce) s

/-- R326: the one-time fuse. -/
def fuseAct (_ : Session) (s : State) : Status × State := (.ok, s.setN O.tamperDestroysRoot 1)

def execFuseTamperDestroysRoot (t : Nat) (who : Who) (s : State) : Host.Outcome State Fault Refusal :=
  cmdRow t who 0x2B00 0x0A 0x5A fuseAct s

end Sys2Proof.Machine
end

