-- ==== Sys2Proof/Machine/Images.lean ====
section
/-! DEFINITION. Firmware images and boot records (chapter 18, R421 to R426). -/
namespace Sys2Proof.Machine

open Sys2Proof

/-! ### Images (R421 to R423) -/

/-- Slot states of R424. -/
abbrev imEMPTY : Nat := 0
abbrev imPARTIAL : Nat := 1
abbrev imUNVERIFIED : Nat := 2
abbrev imVERIFIED : Nat := 3
abbrev imREJECTED : Nat := 4

/-- Results of R432. -/
abbrev urNONE : Nat := 0
abbrev urHEADER : Nat := 1
abbrev urSECURITY : Nat := 4
abbrev urLIFECYCLE : Nat := 5
abbrev urMRAM : Nat := 6
abbrev urTIMEOUT : Nat := 7
abbrev urCHECKS : Nat := 8
abbrev urWINDOW : Nat := 9
abbrev urREADMIT : Nat := 10
abbrev urFAILED : Nat := 11

/-- A die's image in a slot. -/
def State.image (s : State) (d i : Nat) : Bytes := get [] s.update.images (2 * d + i)

def State.setImage (s : State) (d i : Nat) (b : Bytes) : State :=
  { s with update := { s.update with images := put [] s.update.images (2 * d + i) b } }

/-- The header fields of R423 other than hashes and signature, and the body length against the slot. -/
def headerOk (b : Bytes) : Bool :=
  slice b 0 4 == [0x41, 0x58, 0x46, 0x57] && fld b 4 2 == 1 && decide (1 ≤ fld b 0x10 4) && decide (fld b 0x10 4 ≤ 4194048) &&
    slice b 0x15 11 == fill 11 0 && slice b 0x80 32 == fill 32 0

/-- Result of R432 for an image of 256 bytes or more: the header alone. -/
def headerResult (lc counter : Nat) (b : Bytes) : Nat :=
  if !headerOk b then urHEADER
  else if fld b 0x0C 4 < counter then urSECURITY
  else if !bit (fld b 0x14 1) lc then urLIFECYCLE
  else urNONE

/-- R423: the verification of an image; `crypto` is the result of its hash and signature checks. -/
def imageResult (lc counter crypto : Nat) (b : Bytes) : Nat :=
  if b.length < 256 ∨ headerOk b = false ∨ b.length ≠ 256 + fld b 0x10 4 then urHEADER
  else if crypto ≠ 0 then crypto
  else headerResult lc counter b

/-- SHA-384 of a whole image (R422). -/
def imageHash (b : Bytes) : Bytes := sized 48 (Config.crypto 82 [b])

/-! ### Boot records (R424) -/

def State.bootRec (s : State) (d : Nat) : BootRec := get {} s.update.boot d

/-- A write of a boot record takes the next generation. -/
def State.setBoot (s : State) (d : Nat) (r : BootRec) : State :=
  { s with update := { s.update with boot := ins s.update.boot d { r with gen := (s.bootRec d).gen + 1 } } }

def State.updBoot (s : State) (d : Nat) (f : BootRec → BootRec) : State := s.setBoot d (f (s.bootRec d))

def BootRec.slot (r : BootRec) (i : Nat) : Nat := if i = 0 then r.slotA else r.slotB
def BootRec.setSlot (r : BootRec) (i v : Nat) : BootRec := if i = 0 then { r with slotA := v } else { r with slotB := v }
def BootRec.fellBack (r : BootRec) : Bool := bit r.flags 1

/-- Does a trial run or wait: the trial marker of R424? -/
def BootRec.onTrial (r : BootRec) : Bool := r.trial != 0xFF

/-- The image a record selects (R425). -/
def BootRec.selected (r : BootRec) : Nat := if r.onTrial then r.trial else r.confirmed

/-- The inactive slot: neither confirmed nor on trial (R431). -/
def BootRec.inactive (r : BootRec) : Nat := 1 - r.confirmed

/-- A record of every healthy die rewritten. -/
def State.allBoot (s : State) (f : BootRec → BootRec) : State := s.upDies.foldl (fun (s : State) d => s.updBoot d f) s

/-- The slot objects and what follows from the lead's record, brought up to date (R438). -/
def State.refreshImages (s : State) : State :=
  let d := s.pkg.lead
  let r := s.bootRec d
  let s := [0, 1].foldl (fun (s : State) i =>
    let b := s.image d i
    let full := decide (imUNVERIFIED ≤ r.slot i)
    let s := s.setN (byIdx O.imageSlotState i) (r.slot i)
    let s := s.setN (byIdx O.slotImageVersion i) (if full then fld b 8 4 else 0)
    let s := s.setN (byIdx O.slotSecurityVersion i) (if full then fld b 0x0C 4 else 0)
    let s := s.setBlob (byIdx O.slotImageHash i) (if full then imageHash b else fill 48 0)
    s.setN (byIdx O.slotPlannerFormat i) (if full then fld b 6 2 else 0)) s
  let s := (s.setN O.antiRollbackCounter r.counter).setN O.trialStarts r.trialStarts
  let s := s.setN O.runningImage (s.update.running + 2 * b2n r.onTrial)
  (s.setN O.runningImageVersion (fld (s.image d s.update.running) 8 4)).setN O.failedStarts r.failedStarts

/-- R425 at step 1: PARTIAL becomes EMPTY; a trial gets its next start, or falls back after two. -/
def BootRec.step1 (r : BootRec) : BootRec :=
  let r := if r.slotA = imPARTIAL then { r with slotA := imEMPTY } else r
  let r := if r.slotB = imPARTIAL then { r with slotB := imEMPTY } else r
  if !r.onTrial then r
  else if r.trialStarts < 2 then { r with trialStarts := r.trialStarts + 1 }
  else { r with trial := 0xFF, trialStarts := 0, flags := setBit r.flags 1 true }

end Sys2Proof.Machine
end

