-- ==== Sys2Proof/Machine/Domains.lean ====
section
/-! DEFINITION. Power domains, the items of the power model, board rails, and the staging of domains that come up (chapter 16,
R368, R369, R372, R373, R377, R378, R396). -/
namespace Sys2Proof.Machine

open Sys2Proof

/-! ### Domains (R368, R369) -/

/-- Is the gateway's domain of a die on: any edge unit enabled? -/
def State.edgeDomain (s : State) (d : Nat) : Bool :=
  (List.range 6).any (fun k => (List.range (edgeUnits k)).any (fun u => s.n (edgeEnableKey (epEdge d k u)) == 1))

/-- Is the audio domain of a die on? -/
def State.audDomain (s : State) (d : Nat) : Bool := s.n (bySub O.cirqueInstanceEnable d) == 1

/-- The domains that are on, by code of R368; those staged for a pending switch once their ramps have ended (R369, R378). -/
def State.domains (s : State) (d : Nat) : Nat :=
  if !s.hasDie d || s.power_ == pwOFF then 0
  else if s.power_ = pwSLEEP ∨ s.dieUp d = false then 1
  else if s.power_ = pwSTANDBY then maskOf [0, 1, 3]
  else
    let reg := fun (r : Nat) => s.regionUp (2 * d + r)
    let lanes := fun (r : Nat) => (List.range 4).any (fun i => s.laneOn (8 * d + 4 * r + i))
    let staged := match (if s.plan.pending.isEmpty then none else s.power.stageAt) with
      | some t => (s.power.stage.filter (fun r => r.die == d && decide (t + r.stop ≤ s.now))).map Ramp.dom
      | none => []
    maskOf (staged ++ ([0, 1, 2, 3, 4, 13] : List Nat) ++
      (([0, 1] : List Nat).filter reg).flatMap (fun r => [5 + r, 7 + r] ++ (if lanes r then [9 + r] else [])) ++
      (if s.edgeDomain d then [11] else []) ++ (if s.audDomain d then [12] else []))

/-! ### The power model (R372, R373) -/

/-- Supplies of R396 and their nominal voltage in mV (R479); an edge bank is counted at its lower voltage. -/
abbrev suCORE : Nat := 0
abbrev suSRAM : Nat := 1
abbrev suLANE : Nat := 2
abbrev suLANEH : Nat := 3
abbrev suNVM : Nat := 4
abbrev suAON : Nat := 5
abbrev suIOA : Nat := 7
abbrev suIOB : Nat := 8
def nominalMv (u : Nat) : Nat := [750, 850, 900, 1200, 1800, 800, 3300, 1800, 1800].getD u 1

/-- Die limit of R372, in mW. -/
def State.dieLimitMw (s : State) (d : Nat) : Nat :=
  let t := s.o (bySub O.thermalLimit d) - s.o O.declaredAmbient
  if t ≤ 0 then 0 else min 13000 (100000 * t.toNat / max 1 (s.n (bySub O.thermalResistance d)))

/-- Lane item of R373: supply and µW. -/
def laneItem (mode : Nat) (running : Bool) : List (Nat × Nat) :=
  if !running then [(suLANEH, 20000)]
  else if mode ≤ 5 then [(suCORE, 40000), (suLANE, 170000), (suLANEH, 80000)]
  else if mode = 6 then [(suCORE, 20000), (suLANE, 85000), (suLANEH, 35000)]
  else [(suCORE, 15000), (suLANE, 65000), (suLANEH, 30000)]

/-- The items of one die, as (supply, µW): `lanes` gives each enabled lane (mode and whether it runs), `kpps` the load of each
region, `g` and `a` the engine loads in thousandths, `r` the look-aside rate in sixteenths. -/
def State.dieItems (s : State) (d : Nat) (lanes : List (Nat × Bool)) (kpps : Nat → Nat) (g a r : Nat) : List (Nat × Nat) :=
  if !s.dieUp d then [(suAON, 25000)]
  else
    let links := ((List.range 4).filter (fun p => s.trained d p)).flatMap (fun _ => [(suCORE, 100000), (suLANE, 250000)])
    let sec := ((List.range 8).filter (fun i => s.laneOn (8 * d + i) && ((s.channelOfLane (8 * d + i)).any (fun c => chEnabled (s.channelRec c))))).flatMap
      (fun _ => [(suCORE, 60000)])
    let regs := ((List.range 2).filter (fun i => s.regionUp (2 * d + i))).flatMap (fun i =>
      [(suCORE, 700000 + 2 * kpps i), (suSRAM, 200000), (suSRAM, 300000), (suCORE, 100000)])
    [(suCORE, 1100000), (suSRAM, 200000), (suNVM, 150000), (suAON, 25000), (suIOA, 50000)] ++ links ++
      lanes.flatMap (fun (e : Nat × Bool) => laneItem e.1 e.2) ++ sec ++ regs ++
      (if s.edgeDomain d then [(suCORE, 200000 + 200 * g), (suIOB, 100000)] else []) ++
      (if s.audDomain d then [(suCORE, 150000 + 1000 * a)] else []) ++ [(suCORE, 56250 * r)]

/-- Sum of the µW of one supply among items. -/
def supplySum (l : List (Nat × Nat)) (u : Nat) : Nat := (l.filter (fun e => e.1 == u)).foldl (fun n e => n + e.2) 0

/-- All supplies. -/
def supplies : List Nat := List.range 9

/-! ### Rails (R372, R377, R396) -/

def rlSupply (r : Bytes) : Nat := fld r 1 1
def rlMask (r : Bytes) : Nat := fld r 2 1
def rlAddr (r : Bytes) : Nat := fld r 4 1
def rlPage (r : Bytes) : Nat := fld r 5 1
def rlBudget (r : Bytes) : Nat := fld r 8 4

/-- R396: a rail record at its window position. -/
def railRecOk (i : Nat) (r : Bytes) : Bool :=
  fld r 0 1 == i && (decide (rlSupply r ≤ 8) || rlSupply r == 0xFF) && decide (fld r 3 1 ≤ 5) &&
  (rlAddr r == 0 || (decide (8 ≤ rlAddr r) && decide (rlAddr r ≤ 0x77))) && (decide (rlPage r ≤ 31) || rlPage r == 0xFF) &&
  fld r 6 2 == 0 && decide (10 ≤ fld r 0x0C 4) && decide (fld r 0x0C 4 ≤ 10000) && slice r 0x10 8 == fill 8 0

def State.railRec (s : State) (i : Nat) : Bytes := s.blob (at_ O.railRecords i)

/-- Rails in use. -/
def State.rails (s : State) : List Nat := (List.range 16).filter (fun i => rlSupply (s.railRec i) != 0xFF)

def State.railSt (s : State) (i : Nat) : RailSt := get {} s.power.rails i
def State.setRail (s : State) (i : Nat) (x : RailSt) : State := { s with power := { s.power with rails := put {} s.power.rails i x } }

/-- The calibration factor of a supply of a die: that of the rail that feeds it. -/
def State.railFactor (s : State) (d u : Nat) : Nat :=
  match s.rails.find? (fun i => rlSupply (s.railRec i) == u && bit (rlMask (s.railRec i)) d) with
  | some i => (s.railSt i).factor
  | none => 1000

/-! ### Staging (R369, R378) -/

/-- The order in which a die's domains are staged: NVM, CTRL, SEC, TIME, SADDLE, FWD-0, BUF-0, FWD-1, BUF-1, EDGE, AUD, LANE-0
and LANE-1. -/
def stageOrder : List Nat := [3, 1, 2, 4, 13, 5, 7, 6, 8, 11, 12, 9, 10]

/-- The supplies of a domain (R368). -/
def domainSupplies (c : Nat) : List Nat :=
  if c = 3 then [suNVM, suCORE] else if c = 4 ∨ c = 12 then [suCORE] else if c = 13 then [suCORE, suLANE]
  else if c = 9 ∨ c = 10 then [suCORE, suLANE, suLANEH] else if c = 11 then [suCORE, suIOB] else [suCORE, suSRAM]

/-- The items of R373 that come up with a domain, as (supply, µW).  DESIGN CHOICE (log 98): a lane counts as in service at its
mode, engines and pipelines at no load. -/
def State.domainItems (s : State) (d c : Nat) : List (Nat × Nat) :=
  let lanes := fun (r : Nat) => ((List.range 4).filter (fun i => s.laneOn (8 * d + 4 * r + i))).flatMap (fun i =>
    let n := 8 * d + 4 * r + i
    laneItem (s.n (laneKey O.laneMode n)) true ++
      (if (s.channelOfLane n).any (fun k => chEnabled (s.channelRec k)) then [(suCORE, 60000)] else []))
  if c = 13 then ((List.range 4).filter (fun p => (s.peer d p).isSome)).flatMap (fun _ => [(suCORE, 100000), (suLANE, 250000)])
  else if c = 5 ∨ c = 6 then [(suCORE, 700000), (suSRAM, 200000)]
  else if c = 7 ∨ c = 8 then [(suSRAM, 300000), (suCORE, 100000)]
  else if c = 9 ∨ c = 10 then lanes (c - 9)
  else if c = 11 then [(suCORE, 200000), (suIOB, 100000)]
  else if c = 12 then [(suCORE, 150000)]
  else (domainSupplies c).map (fun u => (u, Config.baseShare c u))

/-- The rail that feeds a supply of a die; 16 + the supply where no record names one (DESIGN CHOICE, log 98: the dies of the
package then share it, and it has no slew limit). -/
def State.railOf (s : State) (d u : Nat) : Nat :=
  (s.rails.find? (fun i => rlSupply (s.railRec i) == u && bit (rlMask (s.railRec i)) d)).getD (16 + u)

/-- How long a domain's current rises on one rail, in ns: at no more than the slew limit, and at least 10 µs. -/
def State.riseNs (s : State) (d c u : Nat) : Nat :=
  let i := s.railOf d u
  if 16 ≤ i then 10000
  else max 10000 (ceilDiv (supplySum (s.domainItems d c) u * 1000) (nominalMv u * max 1 (fld (s.railRec i) 0x0C 4)))

/-- Domains (die, code) staged one after another: each starts when the ramps of the one before have ended on every rail that the
two share.  `at_` is the start of the one before, `ends` where its ramps ended, by rail. -/
def State.stageFrom (s : State) (at_ : Nat) (ends : List (Nat × Nat)) : List (Nat × Nat) → List Ramp
  | [] => []
  | (d, c) :: t =>
    let us := domainSupplies c
    let rails := us.map (s.railOf d)
    let start := (ends.filter (fun e => rails.contains e.1)).foldl (fun n e => max n e.2) at_
    let next := us.map (fun u => (s.railOf d u, start + s.riseNs d c u))
    ⟨d, c, start, next.foldl (fun n e => max n e.2) start⟩ :: s.stageFrom start next t

/-- The domains that are on in `s` and were not in `old`, in the order of staging. -/
def State.domainsUp (s old : State) : List (Nat × Nat) :=
  s.dies.flatMap (fun d => (stageOrder.filter (fun c => bit (s.domains d) c && !bit (old.domains d) c)).map (fun c => (d, c)))

/-- R378: Summit powers up, staged, the domains that `next` has on and `old` has not; `since` is the beginning of a staging that a
pending switch waits for. -/
def State.stageUp (s old next : State) (since : Option Nat) : State :=
  { s with power := { s.power with stage := next.stageFrom 0 [] (next.domainsUp old), stageAt := since } }

/-- A rail record as a window shows it. -/
def State.railShown (s : State) (i : Nat) : Bytes :=
  let x := s.railSt i
  patch (s.railRec i) 0x10 (leBytes 4 x.current ++ leBytes 2 x.factor ++ leBytes 1 (b2n x.lost + 2 * b2n x.excess + 4 * b2n x.fault) ++ [0])

end Sys2Proof.Machine
end

