-- ==== Sys2Proof/Machine/Startup.lean ====
section
/-! DEFINITION. Reset, cold start, wake and ROM recovery (chapters 16, 18 and 21: R385 to R388, R419 to R428, R481 to R484). -/
namespace Sys2Proof.Machine

open Sys2Proof

/-! ### What a reset keeps -/

/-- Objects whose values stand in MRAM or in fuses by themselves, whatever was committed: identity, key-store results, tamper
record, clips, update and start record, temperature peaks, the active contracts and the plan, log passes. -/
def persistRanges : List (Nat × Nat) :=
  [(0x100900, 0x1009FF), (0x101804, 0x101804), (0x200007, 0x200008), (0x20000A, 0x20000C), (0x2A7000, 0x2A70FF), (0x2B0004, 0x2B0005),
   (0x2B0009, 0x2B0009), (0x2B1003, 0x2B1003), (0x2B2003, 0x2B2003), (0x2B2101, 0x2B2107), (0x2D0006, 0x2D0006),
   (0x2D000A, 0x2D000A), (0x2D2001, 0x2D2005), (0x2E2101, 0x2E21FF), (0x2E2301, 0x2E23FF), (0x2E5901, 0x2E59FF),
   (0x500101, 0x500106), (0x500201, 0x500208), (0x500301, 0x500308)]

/-- Does an object keep its value by itself?  Of a contract slot: its active record, state, bound and margin. -/
def persists (m : Nat) : Bool :=
  persistRanges.any (fun r => decide (r.1 ≤ m) && decide (m ≤ r.2)) ||
  (decide (0x300000 ≤ m) && decide (m ≤ 0x4FFFFF) && [2, 3, 6, 7].contains (m % 256))

/-- The dictionary of the next start: what persists, the mirror of the last commit, and the stored values of S objects. -/
def State.bootDict (s : State) : Dict :=
  let keep := fun (m : Nat) => persists m
  let mine : Dict := { objs := s.dict.objs.filter (fun e => keep (muxOf e.1)), blobs := s.dict.blobs.filter (fun e => keep (muxOf e.1)) }
  let back := fun (m : Nat) => writable m && !persists m
  let mir : Dict := { objs := s.pkg.mirror.objs.filter (fun e => back (muxOf e.1)), blobs := s.pkg.mirror.blobs.filter (fun e => back (muxOf e.1)) }
  (mine.excess mir).excess s.stored

/-- R481: every die is reset: what SRAM and registers held is gone; MRAM, fuses and the AON block keep theirs. -/
def State.resetDies (s : State) : State :=
  let s := s.discardSlots
  let logs := mapVals (fun (l : DieLog) => { l with waiting := [] }) s.logs
  let c := s.cairn
  let u := s.update
  { pending := s.pending, freeCtr := s.freeCtr, now := s.now, variant := s.variant, out := s.out,
    dict := { s.bootDict with objs := ins s.bootDict.objs O.powerState (pwOFF : Nat) },
    stored := s.stored, logs := logs, pkg := { mirror := s.pkg.mirror },
    plan := { active := s.plan.active, cases := s.plan.cases },
    cairn := { roots := c.roots, destroyed := c.destroyed, blank := c.blank, copies := c.copies, leaves := c.leaves, marker := c.marker,
               refuseState := c.refuseState, aonCount := c.aonCount, sleepTamper := c.sleepTamper, early := c.early },
    cipher := { journal := s.cipher.journal, counts := jumpCounts s.cipher.counts },
    update := { boot := u.boot, images := u.images, planFormat := u.planFormat, planPeriod := u.planPeriod, hostSel := u.hostSel } }

/-- R481: RESET_N low of 1 µs or more resets every die; a shorter pulse is ignored. -/
def resetAssert (width : Nat) (s : State) : State := if width < 1000 then s else s.resetDies

def execResetAssert (t width : Nat) (s : State) : Host.Outcome State Fault Refusal := .next (resetAssert width (s.begin t))

/-- R370, R482: VDD_AON is lost: the AON block is held in reset with every die, its retention store is gone, and no tamper event
is recorded. -/
def aonLoss (s : State) : State :=
  let s := s.resetDies
  { s with logs := mapVals (fun (l : DieLog) => { l with aonStore := [] }) s.logs, cairn := { s.cairn with sleepTamper := false } }

def execAonPowerLoss (t : Nat) (s : State) : Host.Outcome State Fault Refusal := .next (aonLoss (s.begin t))

/-- R481: the AON supplies come within tolerance: INH_OUT high, then REG_EN0 to REG_EN4, 1.0 to 1.8 ms later. -/
def aonPowerUp (s : State) : State :=
  let s := s.emit (.message "inh" 0 [1])
  (List.range 5).foldl (fun (s : State) i => s.emit (.message "reg_en" i (leBytes 8 (s.now + 1000000 + 200000 * i)))) s

def execAonPowerUp (t : Nat) (s : State) : Host.Outcome State Fault Refusal := .next (aonPowerUp (s.begin t))

/-- R484: the crystal stops: within 1 ms the internal 32 kHz oscillator replaces it; the tick estimate of R46 is then coarse, so
nothing else changes. -/
def xtalFail (s : State) : State := s.emit (.message "xtal32-internal" 0 (leBytes 8 (s.now + 1000000)))

def execXtalFail (t : Nat) (s : State) : Host.Outcome State Fault Refusal := .next (xtalFail (s.begin t))

/-! ### Steps of the cold start (R419 to R426) -/

/-- R427: ROM recovery with a reason, on the service die. -/
def State.enterRecovery (s : State) (reason : Nat) (f : StartFacts) : State :=
  let d := if bit f.selfOk 0 then 0 else 1
  let s := { s with pkg := { s.pkg with recoveryDies := 2 ^ d, quarantine := 0xFF, serving := false },
                    update := { s.update with recLock := none, recBytes := 0, recState := 0, recLast := none, ready := false } }
  let s := (s.setN O.recoveryReason reason).setN O.powerState pwACTIVE
  s.logEv d Ev.coldStart 0xFFFF [(1, f.reason), (1, reason), (1, s.healthyMask), (1, 0)]

/-- Steps 1 to 3: self-checks, boot selection and verification, training, election (R21, R25, R287, R304, R425).  The dies of `selfOk` are
those whose self-checks pass, the check code of their root and the health tests of their random number generator among them (R304).  A
die without a trained link has failed step 2; where no link has trained, the lowest-numbered verified die starts alone (DESIGN CHOICE,
log 104). -/
def State.startDies (s : State) (f : StartFacts) : State :=
  let lc := s.n O.lifeCycleState
  let dies := s.dies.filter (fun d => bit f.selfOk d)
  let s := dies.foldl (fun (s : State) d => s.setBoot d (s.bootRec d).step1) s
  let good := dies.filter (fun d =>
    let r := s.bootRec d
    imageResult lc r.counter (get 0 f.badImages (2 * d + r.selected)) (s.image d r.selected) == 0)
  let s := s.dies.foldl (fun (s : State) d => (List.range 4).foldl (fun (s : State) p =>
    match s.peer d p with
    | none => s.setN (portKey O.saddleLinkState d p) 0
    | some e =>
      let ok := good.contains d && good.contains e.1 && !f.links.contains (4 * d + p) && !f.links.contains (4 * e.1 + e.2)
      s.setN (portKey O.saddleLinkState d p) (if !ok then linkUNTRAINED else if s.standbyPort p then linkSTANDBY else linkSERVICE)) s) s
  let linked := good.filter (fun d => (List.range 4).any (fun p => s.trained d p))
  let healthy := if linked = [] then good.take 1 else linked
  let newRoots := (good.filter (fun d => bit s.cairn.blank d)).foldl (fun n d => setBit n d true) s.cairn.roots
  let s := { s with pkg := { s.pkg with healthy := maskOf healthy, anchorLost := !healthy.contains 0, planOk := false },
                    cairn := { s.cairn with roots := newRoots, blank := s.cairn.blank - maskOf (good.filter (fun d => bit s.cairn.blank d)) } }
  match healthy with
  | [] => s
  | l :: _ =>
    let s := { s with pkg := { s.pkg with lead := l } }
    { s with pkg := { s.pkg with standby := s.standbyFor l } }

/-- Step 4: the image of the package (R425, R426).  `none`: no image satisfies the counter. -/
def State.chooseImage (s : State) (f : StartFacts) : Option State :=
  let lc := s.n O.lifeCycleState
  let top := (s.upDies.map (fun d => (s.bootRec d).counter)).foldl max 0
  let s := s.allBoot (fun r => { r with counter := top })
  let d := s.pkg.lead
  let r := s.bootRec d
  let fits := fun (i : Nat) => imageResult lc top (get 0 f.badImages (2 * d + i)) (s.image d i) == 0
  let pick := if fits r.selected then some r.selected else if fits (1 - r.selected) then some (1 - r.selected) else none
  pick.map (fun i =>
    let r := if i = r.selected then r else { r with confirmed := i, trial := 0xFF, trialStarts := 0 }
    let lead := s.image d i
    let others := s.upDies.filter (fun e => e != d)
    let copy := others.filter (fun e => s.image e i != lead)
    let aligned := copy.filter (fun e => !bit f.alignFail e)
    let s := s.setBoot d r
    let s := others.foldl (fun (s : State) e => s.setBoot e r) s
    let s := copy.foldl (fun (s : State) e => s.setImage e i lead) s
    let s := (copy.filter (fun e => bit f.alignFail e)).foldl (fun (s : State) e => s.dieFault e 0 s.now) s
    { s with update := { s.update with running := i } }.setN O.alignedDies (maskOf aligned))

/-- Step 5: the march maps the failing rows; a bank beyond its spares takes down its region or its die (R358, R362, R363). -/
def State.startMarch (s : State) (rows : SMap Nat) : State :=
  let s := { s with mem := {} }
  let s := rows.foldl (fun (s : State) e => s.repairBank (e.1 / 1024) (e.1 / 64 % 16) (e.1 % 64) e.2) s
  let bad := (rows.filter (fun e => decide (8 < e.2))).map (fun (e : Nat × Nat) => (e.1 / 1024, e.1 / 64 % 16))
  bad.foldl (fun (s : State) e =>
    match bankRegion e.2 with
    | some r => s.regionFault (2 * e.1 + r) 2
    | none => s.dieFault e.1 5 s.now) s

/-- The missing dies and untrained links of a start are faults of the plan, unless the plan in force is already the one for them (R83, R94). -/
def State.missingDies (s : State) : State :=
  let dies := (s.dies.filter (fun d => !s.dieUp d)).map caseDie
  let links := (s.dies.flatMap (fun d => (List.range 4).map (fun p => (d, p)))).filter (fun (e : Nat × Nat) =>
    s.saddle e.1 e.2 == linkUNTRAINED && !s.standbyPort e.2 && s.lowerEnd e.1 e.2 == e && s.dieUp e.1 && (s.peer e.1 e.2).any (fun (x : Nat × Nat) => s.dieUp x.1))
  (dies ++ links.map caseLink).foldl (fun (s : State) c =>
    let s := s.recordFault c
    if s.n O.faultPlanInForce = c then s else s.activate c s.now) s

/-- Step 6: keys, caches and SAs; the plan shards and deltas (R86, R93, R306, R307, R317, R336, R420). -/
def State.loadPlan (s : State) (f : StartFacts) : State :=
  let s := s.setN O.transportMismatches (f.mismatches % 2 ^ s.variant)
  let s := (s.dies.filter (fun d => bit f.mismatches d)).foldl (fun (s : State) d => s.logEv d Ev.transportMismatch 0xFFFF [(1, d)]) s
  let s := s.resolveCopies
  let s := if s.keysLocked then s else s.reloadCaches.reloadSas
  let fmt := fld (s.image s.pkg.lead s.update.running) 6 2
  let ok := s.upDies.all (bit f.shards) && s.update.planFormat == fmt && s.update.planPeriod == s.n O.tickPeriodCode
  let again := !ok && s.n O.activeGeneration != 0
  let held := s.upDies.all (fun d => bit f.deltas d && decide (Config.deltaBytes s.plan.active.gen d ≤ 1532 * 1024))
  let cases := s.plan.cases.map (fun (c : CaseSt) => if held then c else { c with state := 0 })
  let s := { s with pkg := { s.pkg with planOk := ok }, update := { s.update with readmit := again, readmitFailed := false, warm := false },
                    plan := { s.plan with cases := cases } }
  let s := if ok then (s.loadLanes s.plan.active.lanes).loadShapers ⟨s.plan.active.contracts, s.plan.active.place⟩
    else (s.loadLanes []).loadShapers ⟨[], ⟨[], []⟩⟩
  s.refreshCounts.refreshCases.refreshSlots.refreshRoots.refreshLookAside

/-- Lanes whose PHY reports link up reach lock and enter service (R107, R388). -/
def State.bringUp (s : State) (up : List Nat) : State :=
  up.foldl (fun (s : State) n =>
    if s.laneOn n then
      let s := lockGained n s
      if (s.lane n).upSince.isSome then s.holdOffDone n else s
    else s) s

/-- The tick unit at a start: HOLD, not locked (R40, R46). -/
def State.startTick (s : State) (n : Nat) : State :=
  let s := { s with tick := { start := s.now, holdSince := s.now } }
  (((s.setN O.tickState tickHOLD).setN O.tickFlags (2 ^ tfUNLOCKED + 2 ^ tfHELD)).setN O.tickNumber n).setN O.lastStretchTick 0

/-- Steps 5 to 9, from the march to forwarding. -/
def State.finishStart (s : State) (f : StartFacts) : State :=
  let old := s
  let s := s.startMarch f.rows
  if !f.fwReady then s.setN O.powerState pwACTIVE
  else
    let s := s.loadPlan f
    let s := if s.plan.active.gen = 0 ∨ !s.pkg.planOk then s else s.missingDies
    let s := (s.setN O.powerState pwACTIVE).setN O.hostEndpointDie f.endpoint
    let s := s.setFlag O.calibrationStatus 0 (!f.calOk)
    let s := ((s.startTick 0).restartInstances true).refreshInstances
    let s := { s with pkg := { s.pkg with quarantine := s.dieMask, serving := true, mirrored := true },
                      bridge := { s.bridge with fwReady := true },
                      update := { s.update with ready := true, start := none, startAt := s.now, hostSel := f.hostSel } }
    let s := (s.upDies.foldl (fun (s : State) d => s.updBoot d (fun r => if r.onTrial then r else { r with failedStarts := 0 })) s).refreshImages
    let trial := (s.bootRec s.pkg.lead).onTrial
    let s := if trial then
        { s with update := { s.update with trialSince := some s.now, atActivation := maskOf s.upDies, checked := false,
                                           linksAt := (s.dies.flatMap (fun d => (List.range 4).map (fun p => 4 * d + p))).filter (fun q => s.saddle (q / 4) (q % 4) == linkSERVICE) } }.setN O.updateStatus 7
      else if (s.bootRec s.pkg.lead).fellBack && s.n O.lastUpdateResult == urFAILED then s.setN O.updateStatus 9 else s
    let s := s.setN O.lastColdStartTime f.duration
    let s := (s.bringUp f.up).leaveQuarantine
    let s := s.stageUp old s none
    s.logLead Ev.coldStart 0xFFFF [(1, f.reason), (1, s.n O.recoveryReason), (1, s.healthyMask), (1, s.n O.alignedDies)]

/-- R319: a transition met by a power failure is completed before the tamper check. -/
def State.completeTransition (s : State) : State :=
  match s.cairn.marker with
  | none => s
  | some to_ => lifeCycleDone (s.startTransition to_)

/-- R419: a cold start; `hold` says whether a tamper event holds it (R321 to R323). -/
def State.coldStart (s : State) (f : StartFacts) (hold : State → Bool) : State :=
  let s := s.resetDies
  let s := (s.setN O.lastStartReason f.reason).setN O.hostEndpointDie f.endpoint
  let old := s
  let s := s.startDies f
  let before := old.bootRec s.pkg.lead
  let r := s.bootRec s.pkg.lead
  let fell := r.fellBack && before.trial != 0xFF && r.trial == 0xFF
  let s := if fell then s.setN O.lastUpdateResult urFAILED else s
  if f.recoveryN || (f.testN && s.n O.lifeCycleState != 0) then s.enterRecovery 1 f
  else if s.upDies = [] then s.enterRecovery 2 f
  else if 3 ≤ r.failedStarts ∨ bit r.flags 0 = true then s.enterRecovery 3 f
  else
    let s := s.completeTransition
    if hold s then
      let s := { s with pkg := { s.pkg with tamperHold := true, quarantine := 0xFF, serving := false },
                        cairn := { s.cairn with early := false, sleepTamper := false },
                        update := { s.update with start := some f } }
      s.setN O.powerState pwACTIVE
    else
      let s := { s with cairn := { s.cairn with early := false, sleepTamper := false } }
      match s.chooseImage f with
      | none => s.enterRecovery 2 f
      | some s =>
        let s := s.finishStart f
        if fell ∧ s.update.ready = true then s.logLead Ev.updateFellBack 0xFFFF [(1, urFAILED), (4, s.n O.runningImageVersion)] else s

/-- R321, R322: does a persisting state, or an event before step 4 under Contain or Halt, hold the start? -/
def startHeld (s : State) : Bool := s.n O.tamperState != 0 || (s.cairn.early && s.n O.tamperPolicy != tpREPORT)

def execColdStart (t : Nat) (f : StartFacts) (s : State) : Host.Outcome State Fault Refusal :=
  .next ((s.begin t).coldStart f startHeld)

/-- R424: the firmware has not set FW_READY, or its watchdog has reset the die before the image is confirmed: a failed start; the
dies are reset, and the next cold start follows. -/
def startFailed (s : State) : State :=
  let r := s.bootRec s.pkg.lead
  if s.update.ready ∧ !r.onTrial then s
  else
    let s := if r.onTrial then s
      else s.allBoot (fun r =>
        let n := min 3 (r.failedStarts + 1)
        { r with failedStarts := n, flags := if n = 3 then setBit r.flags 0 true else r.flags })
    s.resetDies

def execStartFailed (t : Nat) (s : State) : Host.Outcome State Fault Refusal := .next (startFailed (s.begin t))

/-! ### Wake (R385 to R388) -/

/-- Is a wake event enabled (R386)?  `src` is the ball for causes 1 and 2, the unit's endpoint for causes 3 to 6. -/
def State.wakeEnabled (s : State) (cause src : Nat) : Bool :=
  if cause = 1 ∨ cause = 2 then decide (src < 2 * s.variant) && bit (s.wakeBall src) 0 && epKind (bits (s.wakeBall src) 16 16) == (if cause = 1 then 0 else 2)
  else if 3 ≤ cause ∧ cause ≤ 6 then s.edgeOn src && bit (s.n (bySub O.activityWake (bits src 8 3))) (activityBit src)
  else cause == 7 || cause == 8

/-- The source endpoint recorded (R388). -/
def State.wakeSource (s : State) (cause src : Nat) : Nat :=
  if cause = 1 ∨ cause = 2 then bits (s.wakeBall src) 16 16 else if 3 ≤ cause ∧ cause ≤ 6 then src else 0xFFFF

/-- The die that detects a wake: that of the ball or of the unit, the lead for the other causes. -/
def State.wakeDie (s : State) (cause src : Nat) : Nat :=
  if cause = 1 ∨ cause = 2 then src / 2 else if 3 ≤ cause ∧ cause ≤ 6 then bits src 8 3 else s.pkg.lead

/-- R385: how the wake forwards. -/
def State.wakeForward (s : State) (cause src : Nat) : State :=
  if cause = 1 ∨ cause = 2 then
    (if bit (s.wakeBall src) 2 then s.forwardWake (if cause = 1 then some (bits (s.wakeBall src) 16 16) else none) else s)
  else if 3 ≤ cause ∧ cause ≤ 6 then
    (if bit (s.n (bySub O.activityWake (bits src 8 3))) (8 + activityBit src) then
      { s with power := { s.power with forwardOn := some src } } else s)
  else s.forwardWake none

/-- R440: the records of the AON store are written at the wake, in order. -/
def State.flushAon (s : State) : State :=
  { s with logs := mapVals (fun (l : DieLog) =>
      let put := fun (l : DieLog) (e : EventRec) =>
        if l.waiting.length < 256 then { l with waiting := l.waiting ++ [{ e with seq := l.nextSeq }], nextSeq := (l.nextSeq + 1) % 2 ^ 32 }
        else { l with dropped := satN (2 ^ 32 - 1) (l.dropped + 1) }
      l.aonStore.foldl put { l with aonStore := [] }) s.logs }

/-- R388, R396: out of Sleep the rails that the package switches come on, and its own supply is inhibited no more. -/
def State.wakeRails (s : State) : State :=
  if s.power_ = pwSLEEP then
    (s.switchedOutputs.foldl (fun (s : State) i => s.emit (.message "reg_en" i [1])) s).emit (.message "inh" 0 [1])
  else s

/-- R388: the Saddle links of a wake: those of two dies up are back as they were trained. -/
def State.wakeLinks (s : State) : State :=
  s.dies.foldl (fun (s : State) d => (List.range 4).foldl (fun (s : State) p =>
    match s.peer d p with
    | none => s
    | some e => s.setN (portKey O.saddleLinkState d p) (if !(s.dieUp d && s.dieUp e.1) then linkFAILED else if s.standbyPort p then linkSTANDBY else linkSERVICE)) s) s

/-- R388, R389: the wake is recorded under its cause and source, and the wait for valid traffic begins. -/
def State.wakeNoted (s : State) (cause source elapsed : Nat) : State :=
  let s := { s with power := { s.power with wakeAt := some s.now, wakeCause := cause }, bridge := { s.bridge with fwReady := true } }
  let s := ((s.setN O.lastWakeCause cause).setN O.lastWakeSource source).setN O.lastWakeTime (satN (2 ^ 32 - 1) elapsed)
  s.logLead Ev.wake 0xFFFF [(1, cause), (2, source), (4, satN (2 ^ 32 - 1) elapsed)]

/-- R388: the wake sequence: plan and keys reloaded, tick in HOLD at the estimate, lanes up, ports out of quarantine.  DESIGN CHOICE
(log 88): the spec does not say how the AON estimate follows from the time asleep, so `est`, the tick number at the wake, comes with the
command, any number (R46). -/
def State.wakeUp (s : State) (cause src elapsed est : Nat) (f : StartFacts) : State :=
  let old := s
  let s := s.wakeRails
  let s := { s with pkg := { s.pkg with wakeWire := 2 ^ s.wakeDie cause src } }
  let s := (((s.setN O.powerState pwACTIVE).flushAon).loadPlan f).wakeLinks
  let s := ((s.startTick est).restartInstances false).refreshInstances
  let s := s.wakeNoted cause (old.wakeSource cause src) elapsed
  let s := ((s.bringUp f.up).leaveQuarantine).wakeForward cause src
  let s := s.stageUp old s none
  if cause = 7 then s.setEmergency true s.emgCommand else s

/-- R383: in Active, a WAKE_IN event that forwards is a wake request.  R323, R385, R388: a wake event in Sleep or Standby; after a tamper event in Sleep the wake is a cold start, held as the policy
says. -/
def wake (cause src elapsed est : Nat) (f : StartFacts) (s : State) : State :=
  if s.power_ = pwACTIVE then
    (if (cause = 1 ∨ cause = 2) ∧ s.wakeEnabled cause src = true ∧ bit (s.wakeBall src) 2 = true then s.cancelRound else s)
  else if !(s.power_ == pwSLEEP || s.power_ == pwSTANDBY) || !s.wakeEnabled cause src then s
  else if s.cairn.sleepTamper then
    let policy := s.n O.tamperPolicy
    let free := policy == tpREPORT || (policy == tpCONTAIN && cause == 7)
    let from_ := s.wakeSource cause src
    let s := s.coldStart f (fun s => s.n O.tamperState != 0 || !free)
    let s := ((s.setN O.lastWakeCause cause).setN O.lastWakeSource from_).setN O.lastWakeTime (satN (2 ^ 32 - 1) elapsed)
    if s.update.ready ∧ policy ≠ tpREPORT then s.tamperRespond tpCONTAIN else s
  else s.wakeUp cause src elapsed est f

def execWake (t cause src elapsed est : Nat) (f : StartFacts) (s : State) : Host.Outcome State Fault Refusal :=
  .next (wake cause src elapsed est f (s.begin t))

/-- R387: a WAKE frame on a lane of an Active device is counted, and not relayed. -/
def wakeFrame (lane : Nat) (s : State) : State :=
  if s.inService lane && s.power_ == pwACTIVE then { s with power := { s.power with wakeFrames := s.power.wakeFrames + 1 } } else s

def execWakeFrame (t lane : Nat) (s : State) : Host.Outcome State Fault Refusal := .next (wakeFrame lane (s.begin t))

/-- R383, R385, R387: *wake command*: WAKE in Active (and CANCEL where a round has committed); the wake sequence in Standby. -/
def wakeCommandAct (elapsed est : Nat) (f : StartFacts) (_ : Session) (s : State) : Status × State :=
  if s.power_ = pwACTIVE then (.ok, s.cancelRound.forwardWake none)
  else if s.power_ = pwSTANDBY then (.ok, s.wakeUp 8 0xFFFF elapsed est f)
  else (.deviceState, s)

def execWakeCommand (t : Nat) (who : Who) (elapsed est : Nat) (f : StartFacts) (s : State) : Host.Outcome State Fault Refusal :=
  cmdRow t who 0x2C00 8 1 (wakeCommandAct elapsed est f) s

/-- R370: *standby command* 2. -/
def standbyLeave (elapsed est : Nat) (f : StartFacts) (_ : Session) (s : State) : Status × State :=
  if s.power_ ≠ pwSTANDBY then (.deviceState, s) else (.ok, s.wakeUp 8 0xFFFF elapsed est f)

def execStandbyLeave (t : Nat) (who : Who) (elapsed est : Nat) (f : StartFacts) (s : State) : Host.Outcome State Fault Refusal :=
  cmdRow t who 0x2C00 2 2 (standbyLeave elapsed est f) s

end Sys2Proof.Machine
end

