-- ==== Sys2Proof/Machine/Recovery.lean ====
section
/-! DEFINITION. The recovery protocol of the ROM (chapter 18, R427, R428; R325 in TAMPER_HOLD). -/
namespace Sys2Proof.Machine

open Sys2Proof

/-- Statuses of a recovery response (R428). -/
abbrev rsOK : Nat := 0
abbrev rsBUSY : Nat := 1
abbrev rsREFUSED : Nat := 2
abbrev rsSEQUENCE : Nat := 3
abbrev rsVERIFY : Nat := 4
abbrev rsDONE : Nat := 5

/-- Update statuses of R430. -/
abbrev upIDLE : Nat := 0
abbrev upCLAIMED : Nat := 1
abbrev upRUNNING : Nat := 2
abbrev upDOWNLOADED : Nat := 3
abbrev upVERIFIED : Nat := 4
abbrev upREJECTED : Nat := 5
abbrev upABORTED : Nat := 6
abbrev upTRIAL : Nat := 7
abbrev upCONFIRMED : Nat := 8
abbrev upFELLBACK : Nat := 9

/-- The service die of ROM recovery (R427). -/
def State.serviceDie (s : State) : Nat := if bit s.pkg.recoveryDies 1 then 1 else 0

/-- A response of R428. -/
def recoveryResponse (cmd status seq off : Nat) (data : Bytes) : Bytes :=
  leBytes 1 cmd ++ leBytes 1 status ++ leBytes 2 seq ++ leBytes 4 off ++ leBytes 2 data.length ++ leBytes 2 0 ++ data

/-- Which commands are answered: all in recovery; STATUS and CLEAR in TAMPER_HOLD; STATUS alone in RETURNED and SCRAPPED, and where a
tamper event has destroyed the roots (R326). -/
def State.recoveryAnswers (s : State) (cmd : Nat) : Bool :=
  (s.pkg.recoveryDies != 0 || s.pkg.tamperHold || s.onlyStatus) &&
    (cmd == 1 || (!s.onlyStatus && decide (s.n O.lifeCycleState < 4) && (if s.pkg.tamperHold then cmd == 7 else cmd != 7)))

/-- One recovery request: a repeated sequence is answered again without effect; else it runs, and its answer is kept. -/
def recoveryServe (cmd src seq off : Nat) (act : State → Nat × Bytes × State) (s : State) : State :=
  if !s.recoveryAnswers cmd then s
  else
    match s.update.recLast with
    | some (q, r) => if q = 65536 * src + seq then s.emit (.message "recovery" src r) else run s
    | none => run s
where
  run (s : State) : State :=
    let p := act s
    let r := recoveryResponse cmd p.1 seq off p.2.1
    let s := { p.2.2 with update := { p.2.2.update with recLast := some (65536 * src + seq, r) } }
    s.emit (.message "recovery" src r)

/-- A refusal. -/
def refused (st : Nat) (s : State) : Nat × Bytes × State := (st, [], s)

def State.setRec (s : State) (state : Nat) : State := { s with update := { s.update with recState := state } }

/-- The states of R428's STATUS, in its order: reason, life-cycle state, slot states, security versions, anti-rollback counter,
tamper state, tamper counters. -/
def recoveryStatus (s : State) : Nat × Bytes × State :=
  let d := s.serviceDie
  let r := s.bootRec d
  let sec := fun (i : Nat) => if imUNVERIFIED ≤ r.slot i then fld (s.image d i) 0x0C 4 else 0
  (rsOK, leBytes 1 (s.n O.recoveryReason) ++ leBytes 1 (s.n O.lifeCycleState) ++ leBytes 1 r.slotA ++ leBytes 1 r.slotB ++
    leBytes 4 (sec 0) ++ leBytes 4 (sec 1) ++ leBytes 4 r.counter ++ leBytes 1 (s.n O.tamperState) ++
    (List.range 7).flatMap (fun c => leBytes 4 (s.n (bySub O.tamperCounters c))), s)

def execRecoveryStatus (t src seq : Nat) (s : State) : Host.Outcome State Fault Refusal :=
  .next (recoveryServe 1 src seq 0 recoveryStatus (s.begin t))

/-- CLAIM: the recovery lock; in PROVISIONED to MAINTENANCE the data carry a valid vendor token. -/
def recoveryClaim (src : Nat) (tokenOk : Bool) (s : State) : Nat × Bytes × State :=
  let lc := s.n O.lifeCycleState
  match s.update.recLock with
  | some h => if h = src then (rsOK, [], s) else refused rsBUSY s
  | none =>
    if 1 ≤ lc ∧ lc ≤ 3 ∧ tokenOk = false then refused rsREFUSED s
    else (rsOK, [], { s with update := { s.update with recLock := some src, recBytes := 0, recState := upCLAIMED, lastCmd := s.now } })

def execRecoveryClaim (t src seq : Nat) (tokenOk : Bool) (s : State) : Host.Outcome State Fault Refusal :=
  .next (recoveryServe 2 src seq 0 (recoveryClaim src tokenOk) (s.begin t))

/-- The slot that recovery writes: A when both are EMPTY, PARTIAL or REJECTED, else the one that is not confirmed. -/
def State.recoverySlot (s : State) : Nat :=
  let r := s.bootRec s.serviceDie
  let bad := fun (v : Nat) => v == imEMPTY || v == imPARTIAL || v == imREJECTED
  if bad r.slotA && bad r.slotB then 0 else 1 - r.confirmed

/-- BLOCK: image data at the offset that follows what has been received. -/
def recoveryBlock (src off : Nat) (data : Bytes) (s : State) : Nat × Bytes × State :=
  if s.update.recLock ≠ some src then refused (if s.update.recLock.isSome then rsBUSY else rsREFUSED) s
  else if !(s.update.recState == upCLAIMED || (s.update.recState == upRUNNING && !s.update.verifying)) then refused rsREFUSED s
  else if off ≠ s.update.recBytes then refused rsSEQUENCE s
  else if data = [] ∨ 1024 < data.length then refused rsREFUSED s
  else
    let d := s.serviceDie
    let i := if off = 0 then s.recoverySlot else s.update.recSlot
    let old := if off = 0 then [] else s.image d i
    let b := old ++ data
    let n := b.length
    if 256 ≤ n ∧ 256 + fld b 0x10 4 < n then refused rsREFUSED s
    else
      let s := { s with update := { s.update with recSlot := i, recBytes := n, recState := upRUNNING, lastCmd := s.now } }
      let s := (s.setImage d i b).updBoot d (fun r => r.setSlot i imPARTIAL)
      if old.length < 256 ∧ 256 ≤ n ∧ headerResult (s.n O.lifeCycleState) (s.bootRec d).counter b ≠ 0 then
        (rsVERIFY, [], (s.updBoot d (fun r => r.setSlot i imREJECTED)).setRec upREJECTED)
      else if 256 ≤ n ∧ n = 256 + fld b 0x10 4 then
        (rsOK, [], (s.updBoot d (fun r => r.setSlot i imUNVERIFIED)).setRec upDOWNLOADED)
      else (rsOK, [], s)

def execRecoveryBlock (t src seq off : Nat) (data : Bytes) (s : State) : Host.Outcome State Fault Refusal :=
  .next (recoveryServe 3 src seq off (recoveryBlock src off data) (s.begin t))

/-- VERIFY: the image under R423; `crypto` is the result of its hash and signature. -/
def recoveryVerify (src crypto : Nat) (s : State) : Nat × Bytes × State :=
  if s.update.recLock ≠ some src then refused (if s.update.recLock.isSome then rsBUSY else rsREFUSED) s
  else
    let d := s.serviceDie
    let i := if s.update.recState = upCLAIMED then s.recoverySlot else s.update.recSlot
    if (s.bootRec d).slot i ≠ imUNVERIFIED then refused rsREFUSED s
    else
      let s := { s with update := { s.update with recSlot := i, lastCmd := s.now } }
      let ok := imageResult (s.n O.lifeCycleState) (s.bootRec d).counter crypto (s.image d i) == 0
      if ok then (rsOK, [], (s.updBoot d (fun r => r.setSlot i imVERIFIED)).setRec upVERIFIED)
      else (rsVERIFY, [], (s.updBoot d (fun r => r.setSlot i imREJECTED)).setRec upREJECTED)

def execRecoveryVerify (t src seq crypto : Nat) (s : State) : Host.Outcome State Fault Refusal :=
  .next (recoveryServe 4 src seq 0 (recoveryVerify src crypto) (s.begin t))

/-- ACTIVATE: the image becomes the trial slot, and the package restarts as a cold start (COLD_START, reason 4, follows). -/
def recoveryActivate (src : Nat) (s : State) : Nat × Bytes × State :=
  if s.update.recLock ≠ some src then refused (if s.update.recLock.isSome then rsBUSY else rsREFUSED) s
  else if s.update.recState ≠ upVERIFIED then refused rsREFUSED s
  else
    let d := s.serviceDie
    let i := s.update.recSlot
    let s := s.updBoot d (fun r => { r with trial := i, trialStarts := 0, failedStarts := 0, flags := setBit r.flags 0 false })
    (rsOK, [], s.resetDies)

def execRecoveryActivate (t src seq : Nat) (s : State) : Host.Outcome State Fault Refusal :=
  .next (recoveryServe 5 src seq 0 (recoveryActivate src) (s.begin t))

/-- ABORT: a running download is aborted, and the lock released (R430). -/
def recoveryAbort (src : Nat) (s : State) : Nat × Bytes × State :=
  if s.update.recLock ≠ some src then refused (if s.update.recLock.isSome then rsBUSY else rsREFUSED) s
  else if s.update.recState ≠ upRUNNING then refused rsDONE s
  else
    let d := s.serviceDie
    let i := s.update.recSlot
    let s := (s.setImage d i []).updBoot d (fun r => r.setSlot i imEMPTY)
    (rsOK, [], { s with update := { s.update with recLock := none, recState := upABORTED } })

def execRecoveryAbort (t src seq : Nat) (s : State) : Host.Outcome State Fault Refusal :=
  .next (recoveryServe 6 src seq 0 (recoveryAbort src) (s.begin t))

/-- R325: CLEAR in TAMPER_HOLD: the nonce and a Maintainer credential checked against the trust anchors; the statement comes back,
and the start goes on through quarantine. -/
def recoveryClear (nonce : Bytes) (credOk : Bool) (s : State) : Nat × Bytes × State :=
  if !credOk ∨ nonce.length < 8 ∨ 64 < nonce.length ∨ s.n O.sensorsActive ≠ 0 ∨ s.canAttest = false then refused rsREFUSED s
  else
    match s.update.start with
    | none => refused rsREFUSED s
    | some f =>
      let was := s
      let s := s.refreshRoots
      let doc := s.attestation 3 nonce
      let s := { s with pkg := { s.pkg with tamperHold := false }, cairn := { s.cairn with released := true } }
      let s := s.setN O.tamperState 0
      match s.chooseImage f with
      | none => (rsREFUSED, [], was)
      | some s =>
        let s := s.finishStart f
        (rsOK, doc, s.logLead Ev.tamperClear 0xFFFF [(1, 2)])

def execRecoveryClear (t src seq : Nat) (nonce : Bytes) (credOk : Bool) (s : State) : Host.Outcome State Fault Refusal :=
  .next (recoveryServe 7 src seq 0 (recoveryClear nonce credOk) (s.begin t))

end Sys2Proof.Machine
end

