-- ==== Sys2Proof/Machine/Update.lean ====
section
/-! DEFINITION. Firmware update: lock, download, verification, activation, confirmation and fallback (chapter 18, R429 to
R436). -/
namespace Sys2Proof.Machine

open Sys2Proof

/-! ### The lock and the status word (R429, R430) -/

def State.upStatus (s : State) : Nat := s.n O.updateStatus
def State.setUp (s : State) (v : Nat) : State := s.setN O.updateStatus v

/-- The inactive slot in the lead's record. -/
def State.spareSlot (s : State) : Nat := (s.bootRec s.pkg.lead).inactive

/-- The inactive slot on every healthy die takes a state. -/
def State.setSpare (s : State) (v : Nat) : State :=
  let i := s.spareSlot
  (s.allBoot (fun r => r.setSlot i v)).refreshImages

/-- R430: a download or a verification that is cut short: the slot is EMPTY, or stays UNVERIFIED. -/
def State.cutShort (s : State) : State :=
  let s' := if s.update.verifying then s
    else (s.upDies.foldl (fun (s : State) d => s.setImage d s.spareSlot []) s).setSpare imEMPTY
  { s' with update := { s'.update with verifying := false } }.setUp upABORTED

/-- The lock is free. -/
def State.unlock (s : State) : State := { s with update := { s.update with holder := none } }.setN O.lockHolder 0xFFFF

/-- R429, R430: a release: during RUNNING it aborts, with LOCK_TIMEOUT where the holder did not ask for it; else IDLE. -/
def State.releaseLock (s : State) (asked : Bool) : State :=
  let s := if s.upStatus = upRUNNING then
      (let s := s.cutShort; if asked then s else s.setN O.lastUpdateResult urTIMEOUT)
    else if s.upStatus ≤ upREJECTED then s.setUp upIDLE else s
  s.unlock

/-- R429: a session ends: the lock it held is released. -/
def State.sessionLock (s : State) (n : Nat) : State := if s.update.holder = some n then s.releaseLock false else s

/-- Who may use the lock's commands: the holder. -/
def State.lockCheck (s : State) (sess : Nat) : Status :=
  match s.update.holder with
  | none => .deviceState
  | some h => if h = sess then .ok else .updateBusy

/-- The holder has just used the lock. -/
def State.lockUsed (s : State) : State := { s with update := { s.update with lastCmd := s.now } }

/-- R429: *update command* 1. -/
def updateClaim (sess : Nat) (x : Session) (s : State) : Status × State :=
  if !((x.path == .svcEthernet || x.path == .svcUart) && !x.forwarded) then (.accessDenied, s.countDenial .accessDenied)
  else if s.update.trialSince.isSome then (.deviceState, s)
  else
    match s.update.holder with
    | some h => if h = sess then (.ok, s.lockUsed) else (.updateBusy, s)
    | none =>
      let s := ({ s with update := { s.update with holder := some sess, verifying := false } }).lockUsed
      (.ok, ((s.setUp upCLAIMED).setN O.lockHolder (256 * sess)).setN O.bytesReceived 0)

def execUpdateClaim (t : Nat) (who : Who) (s : State) : Host.Outcome State Fault Refusal := cmdRow t who 0x2D00 1 1 (updateClaim who.sess) s

/-- R430: *update command* 2: an abort succeeds only in RUNNING. -/
def updateAbort (sess : Nat) (_ : Session) (s : State) : Status × State :=
  if s.upStatus ≠ upRUNNING then (.alreadyDone, s)
  else
    match s.lockCheck sess with
    | .ok => (.ok, s.cutShort.unlock)
    | st => (st, s)

def execUpdateAbort (t : Nat) (who : Who) (s : State) : Host.Outcome State Fault Refusal := cmdRow t who 0x2D00 1 2 (updateAbort who.sess) s

/-- R429, R430: *update command* 6. -/
def updateRelease (sess : Nat) (_ : Session) (s : State) : Status × State :=
  match s.lockCheck sess with
  | .ok => (.ok, s.releaseLock true)
  | st => (st, s)

def execUpdateRelease (t : Nat) (who : Who) (s : State) : Host.Outcome State Fault Refusal := cmdRow t who 0x2D00 1 6 (updateRelease who.sess) s

/-- R429: 60 s without an update command or block from the holder, of the update lock or of the recovery lock. -/
def lockTimeout (s : State) : State :=
  if s.now < s.update.lastCmd + 60000000000 then s
  else
    let s := if s.update.holder.isSome then s.releaseLock false else s
    match s.update.recLock with
    | none => s
    | some _ =>
      let s := if s.update.recState = upRUNNING then
          (let i := s.update.recSlot
           let d := s.serviceDie
           ((s.setImage d i []).updBoot d (fun r => r.setSlot i imEMPTY)).setRec upABORTED |>.setN O.lastUpdateResult urTIMEOUT)
        else s.setRec upIDLE
      { s with update := { s.update with recLock := none } }

def execLockTimeout (t : Nat) (s : State) : Host.Outcome State Fault Refusal := .next (lockTimeout (s.begin t))

/-- R23, R431, R433: dictionary service resumes; a lock whose session ended with the lost lead is released. -/
def serviceResumes (s : State) : State :=
  let s := dictionaryResume s
  match s.update.holder with
  | some h => if (s.session? h).isNone then s.releaseLock false else s
  | none => s

def execDictionaryServiceResume (t : Nat) (s : State) : Host.Outcome State Fault Refusal := .next (serviceResumes (s.begin t))

/-! ### Download and verification (R431, R432) -/

/-- R431: a block at the offset that follows what has been received. -/
def imageBlockAct (sess : Nat) (b : Bytes) (writeOk : Bool) (_ : Session) (s : State) : Status × State :=
  match s.lockCheck sess with
  | .ok =>
    let off := fld b 0 4
    let i := s.spareSlot
    let old := if off = 0 then [] else s.image s.pkg.lead i
    let img := old ++ b.drop 4
    let n := img.length
    if !(s.upStatus == upCLAIMED || s.upStatus == upDOWNLOADED || (s.upStatus == upRUNNING && !s.update.verifying)) then (.deviceState, s)
    else if off ≠ s.n O.bytesReceived then (.outOfSequence, s)
    else if 256 ≤ n ∧ 256 + fld img 0x10 4 < n ∧ (256 ≤ old.length ∨ headerResult (s.n O.lifeCycleState) (s.bootRec s.pkg.lead).counter img = 0) then
      (.outOfRange, s)
    else
      let s := (s.upDies.foldl (fun (s : State) d => s.setImage d i img) s.lockUsed).setN O.bytesReceived n
      let s := if off = 0 then s.setSpare imPARTIAL else s
      let s := s.setUp upRUNNING
      if !writeOk then (.hardware, ((s.setSpare imREJECTED).setUp upREJECTED).setN O.lastUpdateResult urMRAM)
      else
        let h := headerResult (s.n O.lifeCycleState) (s.bootRec s.pkg.lead).counter img
        if old.length < 256 ∧ 256 ≤ n ∧ h ≠ 0 then (.ok, ((s.setSpare imREJECTED).setUp upREJECTED).setN O.lastUpdateResult h)
        else if 256 ≤ n ∧ n = 256 + fld img 0x10 4 then (.ok, (s.setSpare imUNVERIFIED).setUp upDOWNLOADED)
        else (.ok, s)
  | st => (st, s)

def execImageBlock (t : Nat) (who : Who) (data : Bytes) (writeOk : Bool) (s : State) : Host.Outcome State Fault Refusal :=
  domRow t who 0x2D00 4 data 5 1024 (fun _ => true) (imageBlockAct who.sess data writeOk) s

/-- R432: *update command* 3. -/
def updateVerify (sess : Nat) (_ : Session) (s : State) : Status × State :=
  match s.lockCheck sess with
  | .ok =>
    if (s.bootRec s.pkg.lead).slot s.spareSlot ≠ imUNVERIFIED ∨ s.upStatus = upRUNNING then (.deviceState, s)
    else (.ok, { s.lockUsed with update := { s.lockUsed.update with verifying := true } }.setUp upRUNNING)
  | st => (st, s)

def execUpdateVerify (t : Nat) (who : Who) (s : State) : Host.Outcome State Fault Refusal := cmdRow t who 0x2D00 1 3 (updateVerify who.sess) s

/-- R432: the verification is complete on every healthy die; `crypto` holds the dies whose hash, signature or MRAM check fails. -/
def verifyDoneUpdate (crypto : SMap Nat) (s : State) : State :=
  if s.upStatus ≠ upRUNNING ∨ s.update.verifying = false then s
  else
    let i := s.spareSlot
    let res := s.upDies.map (fun d => imageResult (s.n O.lifeCycleState) (s.bootRec d).counter (get 0 crypto d) (s.image d i))
    let s := { s with update := { s.update with verifying := false } }
    match res.find? (fun r => r != 0) with
    | some r => ((s.setSpare imREJECTED).setUp upREJECTED).setN O.lastUpdateResult r
    | none => (s.setSpare imVERIFIED).setUp upVERIFIED

def execVerifyDone (t : Nat) (crypto : SMap Nat) (s : State) : Host.Outcome State Fault Refusal := .next (verifyDoneUpdate crypto (s.begin t))

/-! ### Activation, confirmation, fallback (R433 to R436) -/

/-- The microcode hash of a slot's image. -/
def State.microcode (s : State) (i : Nat) : Bytes := slice (s.image s.pkg.lead i) 0x50 48

/-- R433 steps 3 and 4: dictionary service stops, every session ends, the cores restart on a slot, and the committed contracts will
be re-admitted. -/
def State.restartCores (s : State) (i : Nat) : State :=
  let u := s.update
  { s with access := { s.access with sessions := [], assocs := [], forwarded := [] },
           pkg := { s.pkg with serving := false },
           update := { u with oldMicrocode := s.microcode u.running, running := i, readmit := s.n O.activeGeneration != 0, readmitFailed := false, warm := true } }.refreshImages

/-- R433: *update command* 4. -/
def updateActivate (sess : Nat) (_ : Session) (s : State) : Status × State :=
  match s.lockCheck sess with
  | .ok =>
    let i := s.spareSlot
    if !((s.upStatus == upVERIFIED || s.upStatus == upCLAIMED) && (s.bootRec s.pkg.lead).slot i == imVERIFIED) ∨ s.commitStatus = csRUNNING ∨
        s.commitStatus = csSWITCHPENDING ∨ s.n O.migrationStatus = msRUNNING ∨ s.n O.lifeCycleCommandStatus = 1 ∨
        s.n O.tamperState ≠ 0 ∨ s.emgActive = true then (.deviceState, s)
    else
      let s := s.allBoot (fun r => { r with trial := i, trialStarts := 1 })
      let s := (s.setUp upTRIAL).unlock
      let links := (s.dies.flatMap (fun d => (List.range 4).map (fun p => 4 * d + p))).filter (fun q => s.saddle (q / 4) (q % 4) == linkSERVICE)
      let s := { s with update := { s.update with trialSince := some s.now, checked := false, atActivation := maskOf s.upDies, linksAt := links } }
      let b := s.image s.pkg.lead i
      let s := s.logLead Ev.updateActivated 0xFFFF [(4, fld b 8 4), (4, fld b 0x0C 4)]
      (.ok, s.restartCores i)
  | st => (st, s)

/-- R433: the command is answered, and then every session ends. -/
def execUpdateActivate (t : Nat) (who : Who) (s : State) : Host.Outcome State Fault Refusal :=
  .next (serve who (fun x s =>
    let p := writeCmd who.sess 0x2D00 1 4 (updateActivate who.sess) x s
    if p.1.status = .ok then (p.1, p.2.reply who p.1) else p) (s.begin t))

/-- R435: confirmation: the trial slot is the confirmed slot of every healthy die, and the counter rises. -/
def State.confirmTrial (s : State) : State :=
  let i := (s.bootRec s.pkg.lead).trial
  let sec := fld (s.image s.pkg.lead i) 0x0C 4
  let s := s.allBoot (fun r => { r with confirmed := i, trial := 0xFF, trialStarts := 0, failedStarts := 0, counter := max r.counter sec })
  let s := { s with update := { s.update with trialSince := none, checked := false } }
  let s := (s.setUp upCONFIRMED).refreshImages
  s.logLead Ev.updateConfirmed 0xFFFF [(4, fld (s.image s.pkg.lead i) 8 4), (4, s.n O.antiRollbackCounter)]

/-- R435: do the trial image's self-checks hold: dies, links, re-admission, datapath pause, shards? -/
def State.selfChecks (s : State) : Bool :=
  (bitsSet s.update.atActivation 8).all s.dieUp && s.update.linksAt.all (fun q => s.saddle (q / 4) (q % 4) == linkSERVICE) &&
    !s.update.readmit && !s.update.readmitFailed && s.n O.datapathPauseTick == 0 && !s.paused_ && s.pkg.planOk

/-- R435: the self-checks pass; with confirmation mode 0 the image confirms itself. -/
def selfChecksPassed (s : State) : State :=
  if s.update.trialSince.isNone ∨ s.selfChecks = false then s
  else
    let s := { s with update := { s.update with checked := true } }
    if s.n O.confirmationMode = 0 then s.confirmTrial else s

def execSelfChecksPassed (t : Nat) (s : State) : Host.Outcome State Fault Refusal := .next (selfChecksPassed (s.begin t))

/-- R435: *update command* 5. -/
def updateConfirm (_ : Session) (s : State) : Status × State :=
  if s.update.trialSince.isNone ∨ s.update.checked = false then (.deviceState, s) else (.ok, s.confirmTrial)

def execUpdateConfirm (t : Nat) (who : Who) (s : State) : Host.Outcome State Fault Refusal := cmdRow t who 0x2D00 1 5 updateConfirm s

/-- R436: fallback with its cause. -/
def State.fallBack (s : State) (cause : Nat) : State :=
  let v := fld (s.image s.pkg.lead s.update.running) 8 4
  let s := s.allBoot (fun r => { r with trial := 0xFF, trialStarts := 0, flags := setBit r.flags 1 true })
  let s := { s with update := { s.update with trialSince := none, checked := false } }
  let s := (s.setN O.lastUpdateResult cause).setUp upFELLBACK
  let s := s.logLead Ev.updateFellBack 0xFFFF [(1, cause), (4, v)]
  s.restartCores (s.bootRec s.pkg.lead).confirmed

/-- R435, R436: the confirmation window expires: the trial falls back. -/
def windowExpired (s : State) : State :=
  match s.update.trialSince with
  | none => s
  | some a =>
    if s.now < a + s.n O.confirmationWindow * 1000000000 then s
    else s.fallBack (if s.update.readmitFailed then urREADMIT else if s.update.checked then urWINDOW else if s.selfChecks then urWINDOW else urCHECKS)

def execConfirmationWindowExpired (t : Nat) (s : State) : Host.Outcome State Fault Refusal := .next (windowExpired (s.begin t))

/-- R434: the datapath pause tick is reached: lanes transmit idle for up to 1 ms, and queued frames are dropped and counted. -/
def datapathPause (s : State) : State :=
  if s.n O.datapathPauseTick = 0 ∨ s.tickNo < s.n O.datapathPauseTick then s
  else
    let s := (List.range s.laneCount).foldl (fun (s : State) n => s.drainLane n) s
    { s with pkg := { s.pkg with pausedTill := s.now + 1000000 } }.setN O.datapathPauseTick 0

def execDatapathPause (t : Nat) (s : State) : Host.Outcome State Fault Refusal := .next (datapathPause (s.begin t))

end Sys2Proof.Machine
end

