-- ==== Sys2Proof/Machine/Summit.lean ====
section
/-! DEFINITION. Summit: power budgets, levers and the PMBus host (chapter 16, R368, R369, R372 to R377). -/
namespace Sys2Proof.Machine

open Sys2Proof

/-! ### Levers (R375, R376) -/

/-- Does a lane carry an admitted contract, or belong to a group that does, or is it a slave port? -/
def State.laneContracted (s : State) (n : Nat) : Bool :=
  let ep := s.laneEndpoint n
  s.plan.active.contracts.any (fun e => Contract.ingress e.2 == ep || Contract.ingress e.2 == epLane n || (Contract.egress e.2).any (fun x =>
    x == ep || x == epLane n || (epKind x == 5 && bit (fld (s.blob (at_ O.vlanRecords (bits x 0 12))) 4 8) n))) ||
  (List.range 4).any (fun i => s.slavePort i == n)

/-- May Summit hold a lane? -/
def State.mayHold (s : State) (n : Nat) : Bool :=
  s.laneOn n && !s.laneContracted n && !(s.lane n).heldBySummit && (s.lane n).testMode == 0 && s.dieUp (n / 8)

/-- Look-aside grant of a die, in sixteenths. -/
def State.grant (s : State) (d : Nat) : Nat := s.n (bySub O.lookAsideGrant d)

/-- The Best-effort lever of a lane, in sixty-fourths. -/
def State.beLever (s : State) (n : Nat) : Nat := get 64 s.power.leverBe n

/-- A lane's Best-effort lever moved; its bound follows (R166). -/
def State.setBe (s : State) (n k : Nat) : State :=
  let s := { s with power := { s.power with leverBe := put 64 s.power.leverBe n k } }
  let s := s.accrueBe n
  s.updLane n (fun l => { l with beBound := if k = 64 then none else some (s.laneRate n * k / 64) })

/-- A lane held: drained in the manner of R107, out of service. -/
def State.holdLane (s : State) (n : Nat) : State :=
  let s := s.updLane n (fun l => { l with heldBySummit := true })
  let s := { s with power := { s.power with held := n :: s.power.held } }
  if s.inService n then s.loseSignal n else s

/-- The lane held last released: it returns after its link-up hold-off. -/
def State.freeLane (s : State) : State :=
  match s.power.held with
  | [] => s
  | n :: l =>
    let s := { s with power := { s.power with held := l } }
    (s.updLane n (fun l => { l with heldBySummit := false })).tryHoldOff n

/-- The lever that goes one step down, on every die concerned: the first of the order that stands above its floor on one of them;
none where every one is at its floor. -/
def State.leverDown (s : State) (dies : List Nat) : Option LeverMove :=
  let grants := dies.filter (fun d => decide (2 < s.grant d))
  let lanes := (List.range s.laneCount).filter (fun n => dies.contains (n / 8))
  let rates := (lanes.filter s.laneOn).filter (fun n => decide (2 < s.beLever n))
  if grants ≠ [] then some (.grant (grants.map (fun d => (d, s.grant d - 1))))
  else if rates ≠ [] then some (.be (rates.map (fun n => (n, s.beLever n - 1))))
  else (lanes.reverse.find? s.mayHold).map .hold

/-- The lever that goes one step up, in the reverse order, on every die. -/
def State.leverUp (s : State) : Option LeverMove :=
  let rates := (List.range s.laneCount).filter (fun n => decide (s.beLever n < 64))
  let grants := s.dies.filter (fun d => decide (s.grant d < 16))
  if s.power.held ≠ [] then some .free
  else if rates ≠ [] then some (.be (rates.map (fun n => (n, s.beLever n + 1))))
  else if grants ≠ [] then some (.grant (grants.map (fun d => (d, s.grant d + 1))))
  else none

/-- *throttle state* as the levers and rails stand; POWER_OVER by `stuck`. -/
def State.showThrottle (s : State) (stuck : Bool) : State :=
  s.setN O.throttleState (b2n (s.dies.any (fun d => decide (s.grant d < 16))) + 2 * b2n (!s.power.leverBe.isEmpty) +
    4 * b2n (!s.power.held.isEmpty) + 8 * b2n stuck + 16 * b2n (s.rails.any (fun i => (s.railSt i).lost)))

/-- R34, R375: at a boundary the grant that Summit computed in the tick before takes effect. -/
def State.grantInForce (s : State) : State :=
  match s.power.move with
  | none => s
  | some m =>
    let s := { s with power := { s.power with move := none } }
    let s := match m with
      | .grant l => l.foldl (fun (s : State) (e : Nat × Nat) => s.setN (bySub O.lookAsideGrant e.1) e.2) s
      | .be l => l.foldl (fun (s : State) (e : Nat × Nat) => s.setBe e.1 e.2) s
      | .hold n => if s.mayHold n then s.holdLane n else s
      | .free => s.freeLane
    s.showThrottle (s.flag O.throttleState 3)

/-! ### One tick of Summit (R375 to R377) -/

/-- The items of a die from what was measured. -/
def State.measured (s : State) (act : SMap Nat) (d : Nat) : List (Nat × Nat) :=
  let lanes := ((List.range 8).map (fun i => 8 * d + i)).filter s.laneOn
  s.dieItems d (lanes.map (fun n => (s.n (laneKey O.laneMode n), s.inService n || (s.lane n).testMode != 0)))
    (fun i => get 0 act (4 * d + i)) (get 0 act (4 * d + 2)) (get 0 act (4 * d + 3)) (s.grant d)

/-- Calibrated power of one die and supply, µW. -/
def State.calibrated (s : State) (items : List (Nat × Nat)) (d u : Nat) : Nat := supplySum items u * s.railFactor d u / 1000

/-- Calibrated package I/O, mW: its core share on the rail of the endpoint die, the rest on the VDDIO_A rail of that die. -/
def State.ioPower (s : State) : Nat :=
  (800 * s.railFactor (s.n O.hostEndpointDie) suCORE + 1200 * s.railFactor (s.n O.hostEndpointDie) suIOA) / 1000

/-- The current of a rail in mA, from the items of each die, and the package I/O of the endpoint die and of VDDIO_A. -/
def State.railCurrent (s : State) (items : Nat → List (Nat × Nat)) (i : Nat) (factor : Nat) : Nat :=
  let r := s.railRec i
  let u := rlSupply r
  let sum := (bitsSet (rlMask r) 8).foldl (fun n d => n + supplySum (items d) u) 0
  let io := if u = suIOA then 1200000 else if u = suCORE ∧ bit (rlMask r) (s.n O.hostEndpointDie) = true then 800000 else 0
  (sum + io) * factor / 1000 / nominalMv u

/-- R377: the rail record whose turn it is: the next in rotation that is in use and names a regulator. -/
def State.railTurn (s : State) : Option Nat :=
  ((List.range 16).map (fun i => (s.power.nextRail + i) % 16)).find? (fun i => s.rails.contains i && rlAddr (s.railRec i) != 0)

/-- R377: one READ_IOUT of the rotation: an answer gives the factor; the third missing one sets PMBUS_LOST.  A rotation reads a rail
once, so the factor rests on that one reading (DESIGN CHOICE, log 103). -/
def State.pmbusRead (s : State) (items : Nat → List (Nat × Nat)) (answers : SMap Nat) : State :=
  match s.railTurn with
  | none => s
  | some rail =>
    let x := s.railSt rail
    let s := { s with power := { s.power with nextRail := (rail + 1) % 16 } }
    match look answers rail with
    | some v =>
      let est := s.railCurrent items rail 1000
      s.setRail rail { x with misses := 0, lost := false, current := v,
                              factor := if est = 0 then 1000 else min 1250 (max 800 (1000 * v / est)) }
    | none =>
      let n := x.misses + 1
      if n = 3 then
        (s.setRail rail { x with misses := n, lost := true, factor := 1250 }).logLead Ev.pmbusFault 0xFFFF [(1, rail), (2, 0), (1, 1)]
      else s.setRail rail { x with misses := n }

/-- R375, R376: the estimate of the tick, the comparison with every budget, and the move of one lever that the next boundary brings. -/
def State.summit (s : State) (b : BoundaryFacts) : State :=
  if s.power_ ≠ pwACTIVE ∨ !(s.dieUp s.pkg.lead || s.dieUp s.pkg.standby) then s
  else
    let items := fun (d : Nat) => s.measured b.activity d
    let s := s.pmbusRead items b.pmbus
    let power := fun (d : Nat) => supplies.foldl (fun n u => n + s.calibrated (items d) d u) 0 / 1000
    let total : Nat := s.dies.foldl (fun n d => n + power d) s.ioPower
    let s := s.dies.foldl (fun (s : State) d => (s.setN (bySub O.diePower d) (power d)).setN (bySub O.dieLimit d) (s.dieLimitMw d)) s
    let s := s.setN O.packagePower total
    let cap : Nat := s.n O.powerCap
    let cur := fun (i : Nat) => s.railCurrent items i (s.railSt i).factor
    let budgeted := s.rails.filter (fun i => rlBudget (s.railRec i) != 0)
    let overRail := budgeted.filter (fun i => decide (rlBudget (s.railRec i) < cur i))
    let hotDie := fun (d : Nat) => s.flag (bySub O.monitorFlags d) 9
    let overDie := s.upDies.filter (fun d => decide (s.dieLimitMw d < power d) || hotDie d)
    let s := s.rails.foldl (fun (s : State) i => s.setRail i { s.railSt i with excess := overRail.contains i }) s
    let excess := decide (cap < total) || !overRail.isEmpty || !overDie.isEmpty
    let low := decide (10 * total < 9 * cap) && budgeted.all (fun i => decide (10 * cur i < 9 * rlBudget (s.railRec i))) &&
      s.upDies.all (fun d => decide (10 * power d < 9 * s.dieLimitMw d) && !hotDie d)
    let dies := if cap < total then s.upDies
      else s.upDies.filter (fun d => overDie.contains d || overRail.any (fun i => bit (rlMask (s.railRec i)) d))
    let s := { s with power := { s.power with coolRun := if 10 * total < 9 * cap then s.power.coolRun + 1 else 0 } }
    let move := if excess then s.leverDown dies else if low then s.leverUp else none
    let s := { s with power := { s.power with move := move } }
    let stuck := excess && move.isNone
    let s := if stuck then { s with power := { s.power with poRun := s.power.poRun + 1 } } else { s with power := { s.power with poRun := 0 } }
    let s := if stuck && !s.flag O.throttleState 3 then
        s.logLead Ev.powerOver 0xFFFF (if cap < total then [(1, 0), (2, 0xFFFF), (4, total - cap)]
          else match overRail with
            | i :: _ => [(1, 1), (2, i), (4, cur i - rlBudget (s.railRec i))]
            | [] => [(1, 2), (2, overDie.headD 0), (4, power (overDie.headD 0) - s.dieLimitMw (overDie.headD 0))])
      else s
    s.showThrottle stuck

/-- The die with the largest estimate. -/
def State.hottestDie (s : State) : Option Nat :=
  s.upDies.foldl (fun (a : Option Nat) d =>
    match a with
    | none => some d
    | some e => if s.n (bySub O.diePower e) < s.n (bySub O.diePower d) then some d else some e) none

/-- R376: 64 consecutive ticks over budget with every lever at its floor raise the derate level of the die with the largest
estimate, up to 3. -/
def powerOver (s : State) : State :=
  if s.power.poRun < 64 then s
  else
    let s := { s with power := { s.power with poRun := 0 } }
    match s.hottestDie with
    | none => s
    | some d =>
      let v := s.n (bySub O.dieDerateLevel d)
      if v < 3 then
        { s with power := { s.power with raised := upd 0 s.power.raised d (fun n => n + 1) } }.setDerate d (v + 1)
      else s

def execPowerOver (t : Nat) (s : State) : Host.Outcome State Fault Refusal := .next (powerOver (s.begin t))

/-- R377: SMBALERT: STATUS_WORD of every rail is read, and any fault found is logged. -/
def smbAlert (words : SMap Nat) (s : State) : State :=
  if s.power_ ≠ pwACTIVE then s
  else
    (s.rails.filter (fun i => rlAddr (s.railRec i) != 0)).foldl (fun (s : State) i =>
      match look words i with
      | none => s
      | some w =>
        let s := s.setRail i { s.railSt i with fault := w != 0 }
        if w = 0 then s else s.logLead Ev.pmbusFault 0xFFFF [(1, i), (2, w), (1, 0)]) s

def execSmbalert (t : Nat) (words : SMap Nat) (s : State) : Host.Outcome State Fault Refusal := .next (smbAlert words (s.begin t))

end Sys2Proof.Machine
end

