-- ==== Sys2Proof/Machine/Diag.lean ====
section
/-! DEFINITION. Temperature and voltage, lane tests, eye scans and Saddle tests (chapter 19, R445 to R451). -/
namespace Sys2Proof.Machine

open Sys2Proof

/-! ### Temperature (R415, R445) -/

/-- The effective temperature offset of a sensor, 0.1 °C. -/
def State.tempOffset (s : State) (i : Nat) : Int :=
  clampI (-100) 100 (s.factoryVal (bySub O.factoryTemperatureOffset i) 0 + s.o (bySub O.userTemperatureOffset i))

/-- One flag of a die (8 HOT, 9 OVER_LIMIT) against its entry point: set and logged once per entry; cleared after 8 consecutive
readings 2 °C below. -/
def State.tempFlag (s : State) (d sensor : Nat) (t entry : Int) (above : Bool) (bitNo kind : Nat) : State :=
  let key := 16 * d + bitNo
  let on := s.flag (bySub O.monitorFlags d) bitNo
  let log := fun (s : State) (k : Nat) => s.logEv d Ev.temperature 0xFFFF [(1, d), (1, sensor), (2, unsignedOf 16 t), (1, k)]
  if above then
    let s := { s with diag := { s.diag with cool := del s.diag.cool key } }
    if on then s else log (s.setFlag (bySub O.monitorFlags d) bitNo true) kind
  else if on && decide (t ≤ entry - 20) then
    let n := get 0 s.diag.cool key + 1
    if 8 ≤ n then log ({ s with diag := { s.diag with cool := del s.diag.cool key } }.setFlag (bySub O.monitorFlags d) bitNo false) 3
    else { s with diag := { s.diag with cool := put 0 s.diag.cool key n } }
  else { s with diag := { s.diag with cool := del s.diag.cool key } }

/-- A sensor's reading and its peak (R445). -/
def State.tempReading (s : State) (k : Nat) (v : Int) : State :=
  let peak := match look s.dict.objs (bySub O.temperaturePeak k) with
    | some p => if p < v then v else p
    | none => v
  (s.setO (bySub O.temperature k) v).setO (bySub O.temperaturePeak k) peak

/-- The runs of hot and cool ticks of a die whose hottest sensor reads `t` (R98, R376, R445). -/
def State.tempRuns (s : State) (d : Nat) (t lim : Int) : State :=
  let hotRun : Nat := if lim - 50 ≤ t then get 0 s.plan.derateHot d + 1 else 0
  let coolRun : Nat := if t < lim - 150 then get 0 s.plan.derateCool d + 1 else 0
  let run : Nat := if 1400 ≤ t then get 0 s.diag.hot d + 1 else 0
  { s with pkg := { s.pkg with thermalWire := setBit s.pkg.thermalWire d (decide (lim - 50 ≤ t)) },
           plan := { s.plan with derateHot := put 0 s.plan.derateHot d hotRun, derateCool := put 0 s.plan.derateCool d coolRun },
           diag := { s.diag with hot := put 0 s.diag.hot d run } }

/-- What the hottest sensor of a die asks for: the two warnings, the tamper alarm, and the end of the die. -/
def State.tempHottest (s : State) (d i : Nat) (t : Int) : State :=
  let lim := 10 * s.o (bySub O.thermalLimit d)
  let s := s.tempRuns d t lim
  let s := s.tempFlag d i t (lim - 50) (decide (lim - 50 ≤ t)) 8 0
  let s := s.tempFlag d i t lim (decide (lim < t)) 9 1
  let s := if 1500 ≤ t ∧ s.flag O.sensorsActive 6 = false then tamper d 6 0 s else s
  if 8 ≤ get 0 s.diag.hot d then
    (s.logEv d Ev.temperature 0xFFFF [(1, d), (1, i), (2, unsignedOf 16 t), (1, 2)]).dieFault d 2 s.now
  else s

/-- R445: the readings of one die at a tick boundary. -/
def State.tempDie (s : State) (raw : SMap Int) (d : Nat) : State :=
  let rs := (List.range 8).filterMap (fun i => (look raw (8 * d + i)).map (fun (v : Int) => (i, v + s.tempOffset (8 * d + i))))
  if !s.dieUp d then s
  else
    let s := rs.foldl (fun (s : State) e => s.tempReading (8 * d + e.1) e.2) s
    match rs.foldl (fun (a : Option (Nat × Int)) e => match a with | none => some e | some b => if b.2 < e.2 then some e else some b) none with
    | none => s
    | some h => s.tempHottest d h.1 h.2

/-- The effective thresholds of a monitor in mV: lower 80 to 97 %, upper 103 to 120 % of nominal, rounded inward. -/
def State.voltLimits (s : State) (k : Nat) : Int × Int :=
  let nom : Nat := [750, 850, 900, 1800].getD (k % 4) 0
  let f := (s.factoryVal (bySub O.factoryVoltageThresholds k) ((nom * 9 / 10 * 65536 + nom * 11 / 10 : Nat) : Int)).toNat
  let u := s.n (bySub O.userVoltageThresholds k)
  (clampI (ceilDiv (nom * 80) 100 : Nat) (nom * 97 / 100 : Nat) ((bits f 16 16 : Nat) + signed 16 (bits u 16 16)),
   clampI (ceilDiv (nom * 103) 100 : Nat) (nom * 120 / 100 : Nat) ((bits f 0 16 : Nat) + signed 16 (bits u 0 16)))

/-- R446: the reading of a monitor at a tick boundary; UNDER and OVER stand while the crossing lasts. -/
def State.voltReading (s : State) (k mv : Nat) : State :=
  let d := k / 4
  if !s.dieUp d then s
  else
    let l := s.voltLimits k
    let s := s.setN (bySub O.voltage k) mv
    let s := if l.1 ≤ (mv : Int) then s.setFlag (bySub O.monitorFlags d) (k % 4) false else s
    if (mv : Int) ≤ l.2 then s.setFlag (bySub O.monitorFlags d) (4 + k % 4) false else s

/-- R446: a crossing of at least 1 µs: counted, flagged, and logged at most once a second per monitor and direction. -/
def voltageCross (d m mv : Nat) (excess : Bool) (s : State) : State :=
  if !s.dieUp d || decide (4 ≤ m) then s
  else
    let k := bySub O.voltageExcursions (4 * d + m)
    let v := s.n k
    let s := s.setN k (if excess then setBits v 0 16 (satN 65535 (bits v 0 16 + 1)) else setBits v 16 16 (satN 65535 (bits v 16 16 + 1)))
    let s := s.setFlag (bySub O.monitorFlags d) (if excess then 4 + m else m) true
    let lk := 8 * d + 2 * m + b2n excess
    let quiet := match look s.diag.voltLog lk with
      | some t => decide (s.now < t + 1000000000)
      | none => false
    if quiet then s
    else
      ({ s with diag := { s.diag with voltLog := ins s.diag.voltLog lk s.now } }).logEv d Ev.voltage 0xFFFF [(1, d), (1, m), (2, mv), (1, b2n excess)]

def execVoltage (t die monitor mv : Nat) (excess : Bool) (s : State) : Host.Outcome State Fault Refusal :=
  .next (voltageCross die monitor mv excess (s.begin t))

/-- R446: VDD_CORE or VDD_SRAM below its lower threshold for 100 µs: the die fails. -/
def underVoltageFatal (d m : Nat) (s : State) : State := if m < 2 then s.dieFault d 3 s.now else s

def execUnderVoltageFatal (t die monitor : Nat) (s : State) : Host.Outcome State Fault Refusal :=
  .next (underVoltageFatal die monitor (s.begin t))

/-- R454: *clear monitor records*: peaks stand at the present reading, excursions at 0. -/
def clearMonitors (_ : Session) (s : State) : Status × State :=
  let s := (List.range (8 * s.variant)).foldl (fun (s : State) k => s.setO (bySub O.temperaturePeak k) (s.o (bySub O.temperature k))) s
  (.ok, (List.range (4 * s.variant)).foldl (fun (s : State) k => s.setN (bySub O.voltageExcursions k) 0) s)

def execClearMonitorRecords (t : Nat) (who : Who) (s : State) : Host.Outcome State Fault Refusal := cmdRow t who 0x2E24 1 1 clearMonitors s

/-! ### Lane tests (R447 to R449) -/

/-- Status words of a lane test (R448). -/
abbrev tsOFF : Nat := 0
abbrev tsRUNNING : Nat := 1
abbrev tsLOCKED : Nat := 2
abbrev tsNOLOCK : Nat := 3
abbrev tsDONE : Nat := 4

/-- Is a lane an endpoint of a generation: itself, or as a member of a VLAN's lanes? -/
def endpointIn (s : State) (p : Plan) (n : Nat) : Bool :=
  p.contracts.any (fun e => Contract.ingress e.2 == epLane n || (Contract.egress e.2).any (fun x =>
    x == epLane n || (epKind x == 5 && bit (fld (s.blob (at_ O.vlanRecords (bits x 0 12))) 4 8) n)))

/-- R447: a non-zero *lane test mode*. -/
def laneTestStart (n v : Nat) (_ : Session) (s : State) : Status × State :=
  if endpointIn s s.plan.active n ∨ (s.plan.pending.any (fun p => endpointIn s p n)) = true ∨ (s.lagOf n).isSome = true ∨
      ((List.range 4).any (fun i => s.slavePort i == n)) = true ∨ s.laneOn n = false ∨ (s.lane n).heldBySummit = true ∨
      s.power_ ≠ pwACTIVE ∨ (s.lane n).testMode ≠ 0 then (.deviceState, s)
  else
    let s := s.loseSignal n
    let s := s.updLane n (fun l => { l with testMode := v })
    let s := { s with diag := { s.diag with testSince := ins s.diag.testSince n s.now } }
    let s := s.clearAll [laneSub O.prbsBitsChecked n, laneSub O.prbsErrors n, laneSub O.testFramesChecked n, laneSub O.testFrameErrors n]
    let s := (s.setN (laneSub O.laneTestMode n) v).setN (laneSub O.testStatus n) tsRUNNING
    (.ok, s.logEv (dieOfLane n) Ev.laneTest (epLane n) [(1, n), (1, v), (1, 0)])

def execLaneTestStart (t : Nat) (who : Who) (lane v : Nat) (s : State) : Host.Outcome State Fault Refusal :=
  cmdRow t who 0x2E10 (1 + lane) v (if v = 0 then (fun _ s => (.outOfRange, s)) else laneTestStart lane v) s

/-- R447: a write of 0 ends the test; the lane retrains. -/
def laneTestStop (n : Nat) (_ : Session) (s : State) : Status × State :=
  let m := (s.lane n).testMode
  if m = 0 then (.ok, s)
  else
    let s := (s.updLane n (fun l => { l with testMode := 0 })).setLink n lkLOCK false
    let s := { s with diag := { s.diag with testSince := del s.diag.testSince n } }
    let s := (s.setN (laneSub O.laneTestMode n) 0).setN (laneSub O.testStatus n) tsOFF
    (.ok, s.logEv (dieOfLane n) Ev.laneTest (epLane n) [(1, n), (1, m), (1, 1)])

def execLaneTestStop (t : Nat) (who : Who) (lane : Nat) (s : State) : Host.Outcome State Fault Refusal :=
  cmdRow t who 0x2E10 (1 + lane) 0 (laneTestStop lane) s

/-- Does a lane's test use the PRBS checker, or test frames? -/
def checksPrbs (mode : Nat) : Bool := mode == 1 || mode == 5
def checksFrames (mode : Nat) : Bool := mode == 2 || mode == 3 || mode == 6

def State.testIs (s : State) (n v : Nat) : Bool := s.n (laneSub O.testStatus n) == v

/-- R448: the PRBS checker locks to a matching pattern. -/
def prbsLock (n : Nat) (s : State) : State :=
  if checksPrbs (s.lane n).testMode && (s.testIs n tsRUNNING || s.testIs n tsNOLOCK) then s.setN (laneSub O.testStatus n) tsLOCKED else s

def execPrbsLock (t lane : Nat) (s : State) : Host.Outcome State Fault Refusal := .next (prbsLock lane (s.begin t))

/-- R448: no lock for 10 ms. -/
def noLock (n : Nat) (s : State) : State :=
  if checksPrbs (s.lane n).testMode && s.testIs n tsRUNNING && decide (get 0 s.diag.testSince n + 10000000 ≤ s.now) then
    s.setN (laneSub O.testStatus n) tsNOLOCK
  else s

def execNoLock (t lane : Nat) (s : State) : Host.Outcome State Fault Refusal := .next (noLock lane (s.begin t))

/-- R448: the frame count has been sent, and 1 ms has passed for the last frame. -/
def testFramesDone (n : Nat) (s : State) : State :=
  if checksFrames (s.lane n).testMode && s.testIs n tsRUNNING && s.n (laneSub O.testFrames n) != 0 then
    s.setN (laneSub O.testStatus n) tsDONE
  else s

def execTestFramesDone (t lane : Nat) (s : State) : Host.Outcome State Fault Refusal := .next (testFramesDone lane (s.begin t))

/-- What the checkers counted in a tick (R448): PRBS bits from lock, or frames. -/
def State.testCount (s : State) (n checked errors : Nat) : State :=
  let m := (s.lane n).testMode
  let hi := 2 ^ 64 - 1
  if checksPrbs m && s.testIs n tsLOCKED then
    (s.addTo (laneSub O.prbsBitsChecked n) checked hi).addTo (laneSub O.prbsErrors n) errors hi
  else if checksFrames m && s.testIs n tsRUNNING then
    (s.addTo (laneSub O.testFramesChecked n) checked hi).addTo (laneSub O.testFrameErrors n) errors hi
  else s

/-! ### Eye scans and Saddle tests (R450, R451) -/

/-- R450: *eye measure* on a lane that holds LOCK. -/
def eyeMeasureAct (n : Nat) (_ : Session) (s : State) : Status × State :=
  if s.diag.eyes.contains n = true ∨ s.link n lkLOCK = false then (.deviceState, s)
  else (.ok, { s with diag := { s.diag with eyes := s.diag.eyes ++ [n] } }.setN (laneSub O.eyeResult n) 0)

def execEyeMeasure (t : Nat) (who : Who) (lane : Nat) (s : State) : Host.Outcome State Fault Refusal :=
  cmdRow t who 0x2E15 (1 + lane) 1 (eyeMeasureAct lane) s

/-- R450: the scan completes: height in mV, width in thousandths of a unit interval. -/
def eyeDone (n height width : Nat) (s : State) : State :=
  if s.diag.eyes.contains n then
    { s with diag := { s.diag with eyes := s.diag.eyes.filter (fun x => x != n) } }.setN (laneSub O.eyeResult n)
      (height % 65536 * 65536 + width % 65536)
  else s

def execEyeScanDone (t lane height width : Nat) (s : State) : Host.Outcome State Fault Refusal :=
  .next (eyeDone lane height width (s.begin t))

/-- R451: *Saddle test mode* on a failed or untrained link. -/
def saddleTestAct (d p v : Nat) (_ : Session) (s : State) : Status × State :=
  let k := 4 * d + p
  if s.saddle d p ≠ linkFAILED ∧ s.saddle d p ≠ linkUNTRAINED then (.deviceState, s)
  else
    let s := s.setN (bySub O.saddleTestMode k) v
    let s := { s with diag := { s.diag with saddleTests := put 0 s.diag.saddleTests k v } }
    (.ok, if v = 0 then s else (s.setN (bySub O.saddleTestErrors k) 0).setN (bySub O.saddleFailingLanes k) 0)

def execSaddleTestMode (t : Nat) (who : Who) (die port v : Nat) (s : State) : Host.Outcome State Fault Refusal :=
  cmdRow t who 0x2E17 (1 + 4 * die + port) v (saddleTestAct die port v) s

/-- What a Saddle test counted in a tick. -/
def State.saddleCount (s : State) (k errors failing : Nat) : State :=
  if get 0 s.diag.saddleTests k = 1 then
    (s.addTo (bySub O.saddleTestErrors k) errors (2 ^ 64 - 1)).setN (bySub O.saddleFailingLanes k)
      (maskOf ((List.range 16).filter (fun i => bit (s.n (bySub O.saddleFailingLanes k)) i || bit failing i)))
  else s

end Sys2Proof.Machine
end

