-- ==== Sys2Proof/Machine/Admit1.lean ====
section
/-! DEFINITION. Admission, step 1: syntax, rights, conflicts and disabled functions (R54, R55, R65, R66, R75, R76, R79, R189,
R265, R278, R331, R332, R396, R460). -/
namespace Sys2Proof.Machine

open Sys2Proof

/-! ### Verdicts (R75, R76) -/

/-- What an admission answers; `step` is the check of R65 that failed. -/
structure Verdict where
  code : Nat
  slot : Nat
  res : Nat
  margin : Int
  unit : Nat
  fcase : Nat
  inner : Nat
  step : Nat
  /-- *first faulty record* (R278). -/
  record : Nat
deriving DecidableEq, Repr

abbrev vdACCEPTED : Nat := 0x00
abbrev vdDEADLINE : Nat := 0x01
abbrev vdBANDWIDTH : Nat := 0x02
abbrev vdBUFFER : Nat := 0x03
abbrev vdTABLE : Nat := 0x04
abbrev vdTICK : Nat := 0x05
abbrev vdPOWER : Nat := 0x06
abbrev vdFAULTPLAN : Nat := 0x07
abbrev vdCONFLICT : Nat := 0x08
abbrev vdSYNTAX : Nat := 0x09
abbrev vdRIGHTS : Nat := 0x0A
abbrev vdRELIEF : Nat := 0x0B
abbrev vdDISABLED : Nat := 0x0C

/-- No slot. -/
abbrev noSlot : Nat := 0xFFFF

/-- *violated resource* (R76). -/
def resWord (kind die inst detail : Nat) : Nat := kind * 0x10000000 + die * 0x1000000 + inst * 0x10000 + detail

/-- A verdict of step 1. -/
def step1V (code slot res : Nat) : Verdict := ⟨code, slot, res, 0, 0, 0, 0, 1, 0xFFFFFFFF⟩

/-- A verdict of a resource. -/
def resV (step code slot res : Nat) (margin : Int) (unit : Nat) : Verdict := ⟨code, slot, res, margin, unit, 0, 0, step, 0xFFFFFFFF⟩

/-- The verdict of an admission that passes. -/
def accepted : Verdict := ⟨vdACCEPTED, noSlot, 0, 0, 0, 0, 0, 8, 0xFFFFFFFF⟩

/-- *violated resource* of a disabled function: die, and the object of its enable. -/
def fnRes (die key : Nat) : Nat := resWord 0xC die (muxOf key % 256) (muxOf key / 256)

/-! ### What an admission works on -/

/-- An admission: the committed objects with the snapshot's values in force, the committed objects before it, the contracts the
commit makes active, the role of its session, and whether command 4 runs. -/
structure Adm where
  st : State
  old : State
  contracts : SMap Bytes
  role : Role
  force : Bool

/-- The placement of a view put where the state's own helpers look for it. -/
def State.withPlace (s : State) (cs : SMap Bytes) (p : Placement) : State :=
  { s with plan := { s.plan with active := { s.plan.active with contracts := cs, place := p } } }

/-! ### Conditions that name no slot (R65, R66) -/

/-- The COB-ID of a valid PDO: extended flag and identifier. -/
def pdoId (v : Nat) : Option (Bool × Nat) := if bit v 31 then none else some (bit v 29, bits v 0 29)

/-- COB-IDs of the RPDOs and TPDOs, in ascending order of index. -/
def State.pdoKeys : List (Nat × Nat) :=
  (List.range 64).map (fun n => (0x1400 + n, byIdx O.rpdoCOBID n)) ++ (List.range 64).map (fun n => (0x1800 + n, byIdx O.tpdoCOBID n))

/-- The mapping entries in use of a mapping object. -/
def State.pdoMap (s : State) (idx : Nat) : List Nat :=
  (List.range (s.n (mux idx 0))).map (fun i => s.n (mux idx (i + 1)))

/-- The role of the node's session (R409). -/
def State.nodeRole (s : State) : Role :=
  match s.nodeUnit with
  | some u => if bit (s.n (bySub O.zoneFlags (s.n (bySub O.edgeUnitZone (16 * (u / 4) + u % 4))))) 1 then .integrator else .operator
  | none => .operator

/-- R409, R460: may an entry be mapped: an integer object of at most 8 bytes that the role may write (RPDO) or read (TPDO)? -/
def State.mapEntryOk (s : State) (rx : Bool) (v : Nat) : Bool :=
  let rt : Rights := ⟨s.nodeRole, false⟩
  let c := if rx then s.writeCheck rt (bits v 16 16) (bits v 8 8) else s.readCheck rt (bits v 16 16) (bits v 8 8)
  match c.2 with
  | some r => r.ty.intBytes.isSome || (match r.ty with | .oct n => decide (n ≤ 8) | _ => false)
  | none => false

/-- The identifiers of the gateway's enabled CAN messages that a controller sends: extended flag and identifier. -/
def State.gatewayIds (s : State) (u : Nat) : List (Bool × Nat) :=
  ((s.messages.map s.message).filter (fun r => gmKind r == 3 && gmOut r && gmEnable r && gmUnit r == epCan u)).map
    (fun r => (bits (gmOptions r) 0 3 % 2 == 1, gmIdent r))

/-- R460: faults of PDO parameters, in ascending order of index. -/
def State.pdoFault (s : State) : Option Verdict :=
  let valid := State.pdoKeys.filterMap (fun e => (pdoId (s.n e.2)).map (fun x => (e.1, x)))
  let gw := match s.nodeUnit with | some u => s.gatewayIds u | none => []
  let cob := fun (idx : Nat) =>
    (valid.find? (fun e => e.1 == idx)).bind (fun e =>
      if valid.any (fun f => f.1 != idx && f.2 == e.2) || gw.contains e.2 then
        some (step1V vdCONFLICT noSlot (resWord 0 0 0 0xFFFF)) else none)
  let map_ := fun (idx : Nat) (rx : Bool) =>
    let l := s.pdoMap idx
    if 64 < l.foldl (fun n v => n + bits v 0 8) 0 then some (step1V vdSYNTAX noSlot (resWord 0 0 0 idx))
    else if l.all (s.mapEntryOk rx) then none
    else some (step1V vdCONFLICT noSlot (resWord 0 0 0 idx))
  let r := List.range 64
  (r.findSome? (fun n => cob (0x1400 + n))) <|> (r.findSome? (fun n => map_ (0x1600 + n) true)) <|>
    (r.findSome? (fun n => cob (0x1800 + n))) <|> (r.findSome? (fun n => map_ (0x1A00 + n) false))

/-- R184: two enabled passes that name one ordered pair of zones. -/
def State.passFault (s : State) : Option Verdict :=
  let pairs := s.passesOn.map (fun p => fld (s.passRec p) 2 2)
  if hasDup pairs then some (step1V vdCONFLICT noSlot (resWord 0 0 0 0xFFFF)) else none

/-- R331: an enabled channel without a lane, or two on one lane. -/
def State.channelFault (s : State) : Option Verdict :=
  let lanes := s.channelsOn.map (fun c => (c, fld (s.channelRec c) 3 1))
  if hasDup (lanes.map (·.2)) || lanes.any (fun e => e.2 / 8 != e.1 / 64) then
    some (step1V vdCONFLICT noSlot (resWord 0 0 0 0xFFFF))
  else none

/-- R396: two rail records with one PMBus address and page. -/
def State.railFault (s : State) : Option Verdict :=
  if hasDup ((s.rails.filter (fun i => rlAddr (s.railRec i) != 0)).map (fun i => 256 * rlAddr (s.railRec i) + rlPage (s.railRec i))) then
    some (step1V vdCONFLICT noSlot (resWord 0 0 0 0xFFFF))
  else none

/-! ### Gateway records (R266 to R270, R273, R278) -/

/-- The first condition of a list that fails: its byte offset. -/
def firstBad (l : List (Nat × Bool)) : Option Nat := (l.find? (fun e => !e.2)).map (·.1)

/-- R266, R268: is the identifier of a bus message inside its bus's range? -/
def busIdentOk (unit options ident : Nat) (out : Bool) : Bool :=
  match bits unit 4 3 with
  | 0 =>
    match bits options 0 3 with
    | 0 => decide (ident < 2 ^ 11)
    | 1 => decide (ident < 2 ^ 29)
    | 2 => decide (ident < 2 ^ 11)
    | 3 => decide (ident < 2 ^ 29)
    | _ => decide (ident < 2 ^ 19)
  | 1 => decide (ident ≤ 59)
  | 2 => decide (ident < 2 ^ 16)
  | 3 => decide (ident < 2 ^ 12)
  | _ => bits ident 8 8 == 0 && (!out || bits ident 0 8 == 0)

/-- R266, R268: is the length of a bus message one its bus carries? -/
def busLenOk (unit options len : Nat) : Bool :=
  match bits unit 4 3 with
  | 0 => decide (len ≤ (if bits options 0 3 ≤ 1 then 8 else if bits options 0 3 ≤ 3 then 64 else 2048))
  | 1 => decide (1 ≤ len) && decide (len ≤ 8)
  | 2 => decide (1 ≤ len) && decide (len ≤ 256)
  | 3 => len == 2 * 2 ^ bits options 0 3
  | _ => decide (1 ≤ len) && decide (len ≤ 1500)

/-- R266: are the bus options those of the bus? -/
def busOptionsOk (unit options : Nat) : Bool :=
  match bits unit 4 3 with
  | 0 => decide (bits options 0 3 ≤ 4) && bits options 4 4 == 0
  | 1 => decide (options < 2)
  | 3 => decide (options ≤ 4)
  | _ => options == 0

/-- R266, R268: byte offset of the first faulty field of a message record. -/
def State.messageFault (s : State) (r : Bytes) : Option Nat :=
  let period := (0x0E, decide (1 ≤ gmPeriod r) && decide (gmPeriod r ≤ 4096))
  if gmKind r = 3 then
    let u := gmUnit r
    let can := bits u 4 3 == 0
    firstBad [(4, gmContract r == 0xFFFF),
      (6, epKind u == 2 && s.epExists false u && decide (bits u 4 3 ≤ 4)),
      (8, busIdentOk u (gmOptions r) (gmIdent r) (gmOut r)), (0x0C, busLenOk u (gmOptions r) (gmLen r)), period,
      (0x10, gmTopo r == 0 || (can && bits (gmOptions r) 0 3 == 4)), (0x14, gmOpTopo r == 0), (0x18, busOptionsOk u (gmOptions r)),
      (0x1A, gmDest r == fill 6 0 || (bits u 4 3 == 4 && gmOut r))]
  else if gmKind r = 2 then
    firstBad [(4, decide (gmContract r < 8192)), (6, gmUnit r == 0xFFFF), (8, decide (gmIdent r ≤ 65535)),
      (0x0C, decide (gmLen r ≤ 1472)), period, (0x10, gmTopo r == 0), (0x14, gmOpTopo r == 0), (0x18, gmOptions r == 0),
      (0x1A, gmDest r == fill 6 0)]
  else
    firstBad [(4, decide (gmContract r < 8192)), (6, gmUnit r == 0xFFFF), (0x0C, decide (gmLen r ≤ 1432)), period,
      (0x18, gmOptions r == 0), (0x1A, gmDest r == fill 6 0), (0x26, !gmOut r || decide (1 ≤ gmTtl r)),
      (0x27, decide (fld r 0x27 1 < 64))]

/-- Payload bits a mapping writes in its sink, its status field included. -/
def sinkBits (r : Bytes) : List Nat :=
  (List.range (mpLen r)).map (signalBit (mpSinkBe r) (mpSinkOff r) (mpLen r)) ++
    (if mpStatus r = 0xFFFF then [] else (List.range 16).map (fun i => 8 * mpStatus r + i))

/-- R267, R269, R270: byte offset of the first faulty field of a mapping record. -/
def State.mappingFault (s : State) (k : Nat) : Option Nat :=
  let r := s.mapping k
  let src := s.message (mpSource r)
  let snk := s.message (mpSink r)
  firstBad [(2, gmKind src != 0 && !gmOut src), (4, gmKind snk != 0 && gmOut snk && (gmKind src == 3) != (gmKind snk == 3)),
    (8, signalFits (mpSourceBe r) (mpSourceOff r) (mpLen r) (gmLen src)), (0x0A, signalFits (mpSinkBe r) (mpSinkOff r) (mpLen r) (gmLen snk)),
    (0x0C, mpStatus r == 0xFFFF || (gmKind snk != 3 && decide (mpStatus r + 2 ≤ gmLen snk))),
    (0x0E, mpSourceStatus r == 0xFFFF || (gmKind src != 3 && decide (mpSourceStatus r + 2 ≤ gmLen src))),
    (2, decide ((s.mapsFrom (mpSource r)).length ≤ 64))]

/-- R273: the sink bits of a mapping overlap those of a lower one. -/
def State.mappingOverlaps (s : State) (k : Nat) : Bool :=
  (s.mapsInto (mpSink (s.mapping k))).any (fun j => decide (j < k) &&
    (sinkBits (s.mapping j)).any (fun b => (sinkBits (s.mapping k)).contains b))

/-- The bytes of the frame an OUT telegram builds, from the destination address to the FCS (R274, R275). -/
def telegramBytes (r : Bytes) : Nat := if gmKind r = 1 then 18 + 20 + 8 + 40 + gmLen r + 4 else 18 + 20 + gmLen r + 4

/-- R278: the contract of an OUT telegram. -/
def State.outContractOk (s : State) (cs : SMap Bytes) (m : Nat) : Bool :=
  match look cs (gmContract (s.message m)) with
  | none => false
  | some c =>
    let z := s.zoneOf (Contract.ingress c) 0
    (Contract.cls c == 3 || Contract.cls c == 4) && epKind (Contract.ingress c) == 2 && Contract.matchMethod c == 2 &&
      Contract.frames c == 1 && Contract.interval c == s.emitEvery m && decide (telegramBytes (s.message m) ≤ Contract.maxFrame c) &&
      (s.mapsInto m).all (fun k => s.zoneOf (gmUnit (s.message (mpSource (s.mapping k)))) 0 == z)

/-- R270, R278: the contract of an IN telegram. -/
def State.inContractOk (s : State) (cs : SMap Bytes) (m : Nat) : Bool :=
  match look cs (gmContract (s.message m)) with
  | none => false
  | some c =>
    (Contract.cls c == 3 || Contract.cls c == 4) &&
      (match Contract.egress c with
       | [e] => epKind e == 2 && (s.mapsFrom m).all (fun k => gmUnit (s.message (mpSink (s.mapping k))) == e)
       | _ => false)

/-- R265, R278: the first fault of a message record. -/
def State.messageVerdict (s : State) (cs : SMap Bytes) (m : Nat) : Option Verdict :=
  let r := s.message m
  let named := fun (v : Verdict) => { v with record := m }
  match s.messageFault r with
  | some o => some (named (step1V vdSYNTAX noSlot (resWord 0 0 0 o)))
  | none =>
    let bad :=
      if !gmEnable r then none
      else if gmKind r = 3 then
        match s.nodeUnit with
        | some u =>
          if gmOut r && gmUnit r == epCan u && bits (gmOptions r) 0 3 % 2 == 0 &&
              (gmIdent r == 0x580 + s.nodeId || gmIdent r == 0x700 + s.nodeId) then some 8 else none
        | none => none
      else if (if gmOut r then s.outContractOk cs m else s.inContractOk cs m) then none
      else some 4
    bad.map (fun o => named (step1V vdCONFLICT noSlot (resWord 0 0 0 o)))

/-- R278: the first fault of a mapping record. -/
def State.mappingVerdict (s : State) (k : Nat) : Option Verdict :=
  let named := fun (v : Verdict) => { v with record := 65536 + k }
  match s.mappingFault k with
  | some o => some (named (step1V vdSYNTAX noSlot (resWord 0 0 0 o)))
  | none => if s.mappingOverlaps k then some (named (step1V vdCONFLICT noSlot (resWord 0 0 0 0x0A))) else none

/-! ### A slot's syntax (R54, R55) -/

/-- A lane, a group, or an internal endpoint. -/
def epInternal (e : Nat) : Bool := epKind e == 2 || epKind e == 3 || epKind e == 4

/-- The byte offset of the first faulty field of a contract record.  *Frames per interval* 0, which its range leaves out, can be written
and is refused here (DESIGN CHOICE, log entry 92). -/
def State.contractSyntax (s : State) (r : Bytes) : Option Nat :=
  let cls := Contract.cls r
  let ing := Contract.ingress r
  let eg := egressPos r
  let sched := cls == 0
  firstBad ([(0x00, decide (Contract.id r ≠ 0)),
    (0x05, !(Contract.faultReq r == 2 && cls == 5) && (sched || !Contract.depart r) &&
      (!epInternal ing || Contract.matchMethod r == 2) && (!decide (epKind ing ≤ 1) || Contract.matchMethod r != 2)),
    (0x06, Contract.shedPriority r == 0 || Contract.faultReq r == 1),
    (0x0A, Contract.protection r == 0xFFFF || (decide (Contract.protection r < 64 * s.variant) &&
      (epKind ing == 0 || eg.all (fun e => epKind e.2 == 0)))),
    (0x0C, s.epExists false ing && epKind ing != 5),
    (0x0E, decide (64 ≤ Contract.maxFrame r) && decide (Contract.maxFrame r ≤ 9216)), (0x10, !eg.isEmpty)] ++
    eg.map (fun e => (0x10 + 2 * e.1, s.epExists true e.2 && e.2 != ing && !(epKind e.2 == 5 && decide (1 < eg.length)) &&
      !eg.any (fun f => decide (f.1 < e.1) && f.2 == e.2))) ++
    [(0x20, Contract.matchMethod r != 1 || !isGroup (Contract.matchAddr r)),
     (0x26, decide (1 ≤ Contract.vid r) && decide (Contract.vid r ≤ 4094)), (0x28, decide (1 ≤ Contract.frames r)),
     (0x2C, if sched then Contract.arrival r % 8 == 0 && decide (Contract.arrival r < Contract.interval r * s.period)
            else Contract.arrival r == 0),
     (0x30, if cls = 5 then Contract.deadline r == 0xFFFFFFFF
            else decide (500 ≤ Contract.deadline r) && decide (Contract.deadline r ≤ 0xFFFFFFFE)),
     (0x36, sched || Contract.tolerance r == 0),
     (0x38, cls == 1 || cls == 2 || Contract.stream r == fill 8 0)])

/-! ### Conflicts of slots (R66, R189, R229, R332) -/

/-- The match key of a lane or group ingress (R66). -/
def matchKey (r : Bytes) : Option (Nat × Nat × Bytes × Nat) :=
  if epKind (Contract.ingress r) ≤ 1 then some (Contract.ingress r, Contract.matchMethod r, Contract.matchAddr r, Contract.vid r) else none

/-- The egress zone of a contract: one zone for every entry (R54, R183). -/
def State.egressZone (s : State) (r : Bytes) : Option Nat :=
  match (Contract.egress r).map (fun e => s.zoneOf e (Contract.vid r)) with
  | [] => none
  | z :: t => if z ≠ 0xFF ∧ t.all (fun y => y == z) = true then some z else none

/-- Does a contract's zone or pass fit its endpoints (R54, R189)?  A pass that this commit disables is judged as a disabled
function. -/
def Adm.passFits (a : Adm) (r : Bytes) : Bool :=
  let p := Contract.pass r
  Contract.zone r == a.st.zoneOf (Contract.ingress r) (Contract.vid r) &&
    (match a.st.egressZone r with
     | none => false
     | some z =>
       if a.st.passOn p then
         fld (a.st.passRec p) 2 1 == Contract.zone r && fld (a.st.passRec p) 3 1 == z && passContracts (a.st.passRec p)
       else a.old.passOn p)

/-- R332: the channel is bound to the ingress lane or to an egress lane of the contract. -/
def State.protectionBound (s : State) (r : Bytes) : Bool :=
  Contract.protection r == 0xFFFF ||
    (let n := fld (s.channelRec (Contract.protection r)) 3 1
     decide (n < 64) && (Contract.ingress r == epLane n || (Contract.egress r).contains (epLane n)))

/-- R229: a TDM contract feeds only inputs of its unit's frame rate. -/
def State.tdmRatesOk (s : State) (slot : Nat) (r : Bytes) : Bool :=
  let e := Contract.ingress r
  if epKind e = 2 ∧ bits e 4 3 = 5 then
    (Contract.egress r).all (fun x => epKind x != 3 ||
      (let ir := s.inputRec (bits x 0 10)
       inFeed ir != slot || inRate ir == s.n (byIdx O.tdmFrameRate (edgeUnitIndex e))))
  else true

/-- R66: the lowest Scheduled slot on a lane where this slot's addition takes the least common multiple past 4,096. -/
def Adm.lcmConflict (a : Adm) (slot : Nat) (r : Bytes) : Option Nat :=
  if Contract.cls r ≠ 0 then none
  else
    (a.st.egressLanes r).findSome? (fun n =>
      let on := a.contracts.filter (fun e => Contract.cls e.2 == 0 && (a.st.egressLanes e.2).contains n)
      let before := (on.filter (fun e => decide (e.1 < slot))).foldl (fun m e => lcmN m (Contract.interval e.2)) 1
      if before ≤ 4096 ∧ 4096 < lcmN before (Contract.interval r) then (on.head?).map (·.1) else none)

/-- The first conflict of a slot: the other slot, or 0xFFFF. -/
def Adm.conflict (a : Adm) (slot : Nat) (r : Bytes) : Option Nat :=
  let other := fun (p : Bytes → Bool) => (a.contracts.find? (fun e => e.1 != slot && p e.2)).map (·.1)
  (other (fun c => Contract.id c == Contract.id r)) <|>
  (if (matchKey r).isSome then other (fun c => matchKey c == matchKey r) else none) <|>
  (if a.passFits r && a.st.protectionBound r && a.st.tdmRatesOk slot r then none else some noSlot) <|>
  (a.lcmConflict slot r)

/-! ### Disabled functions (R66, R79, R359, R447) -/

/-- The enables, as (die, key of the object, whether it is on, whether it was on), that a lane needs. -/
def Adm.laneNeeds (a : Adm) (n : Nat) : List (Nat × Nat × Bool × Bool) :=
  let on := fun (s : State) => s.n (laneKey O.laneEnable n) == 1
  let held := fun (s : State) => !bit (s.n O.dieServiceHold) (n / 8)
  [(n / 8, laneKey O.laneEnable n, on a.st, on a.old), (n / 8, O.dieServiceHold, held a.st, held a.old),
   (n / 8, laneSub O.laneTestMode n, (a.st.lane n).testMode == 0, false)]

/-- Every zone that has an output record. -/
def State.zonesUsed (s : State) : List Nat :=
  ((keys s.dict.blobs).filterMap (fun k =>
    if muxOf k = O.outputRecords ∧ outZone (s.blob k) ≠ 0xFFFF then some (outZone (s.blob k)) else none)).eraseDups

/-- The zones whose records name a Cirque input. -/
def State.zonesNaming (s : State) (ch : Nat) : List Nat := s.zonesUsed.filter (fun z => (s.zoneInputs z).contains ch)

/-- Does some region in service hold the endpoint (R19, R91)?  A Cirque channel moves. -/
def State.epUp (s : State) (e : Nat) : Bool :=
  if epKind e = 0 then s.regionUp (bits e 0 6 / 4)
  else if epKind e = 1 then let m := s.lagMembers (bits e 0 5); m.isEmpty || m.any (fun n => s.regionUp (n / 4))
  else if epKind e = 2 then s.regionUp (edgeRegion (bits e 8 3) (bits e 4 3) (bits e 0 2))
  else if epKind e = 4 then s.regionUp (2 * bits e 8 3 + bits e 0 4 / 8)
  else if epKind e = 5 then let m := bitsSet (s.vlanMembers (bits e 0 12)) 64; m.isEmpty || m.any (fun n => s.regionUp (n / 4))
  else true

/-- The instances that may mix: *instance enable* of every healthy die. -/
def instancesOn (s : State) : Bool := s.upDies.any (fun d => s.n (bySub O.cirqueInstanceEnable d) == 1)

/-- What one endpoint needs: die, object, whether it is on after the commit, and before. -/
def Adm.epNeeds (a : Adm) (egress : Bool) (e : Nat) : List (Nat × Nat × Bool × Bool) :=
  let st := a.st
  let one := fun (k d : Nat) => [(d, k, st.n k == 1, a.old.n k == 1),
    (d, O.dieServiceHold, !bit (st.n O.dieServiceHold) d, !bit (a.old.n O.dieServiceHold) d)]
  let inst := [(st.pkg.lead, bySub O.cirqueInstanceEnable st.pkg.lead, instancesOn st, instancesOn a.old)]
  if !st.epUp e then []
  else if epKind e = 0 then a.laneNeeds (bits e 0 6)
  else if epKind e = 1 then
    let k := byIdx O.members (bits e 0 5)
    let ms := (st.lagMembers (bits e 0 5)).filter (fun n => st.regionUp (n / 4))
    let good := fun (n : Nat) => (a.laneNeeds n).all (fun x => x.2.2.1)
    match ms with
    | [] => [(0xF, k, false, !(a.old.lagMembers (bits e 0 5)).isEmpty)]
    | n :: _ => if ms.any good then [] else a.laneNeeds n
  else if epKind e = 2 then one (edgeEnableKey e) (bits e 8 3)
  else if epKind e = 3 then
    let zs := if egress then st.zonesNaming (bits e 0 10) else [outZone (st.outputRec (bits e 0 10))].filter (· ≠ 0xFFFF)
    match zs with
    | [] => inst
    | z :: _ => (0xF, zoneKey O.zoneEnable z, zs.any (fun y => st.n (zoneKey O.zoneEnable y) == 1),
        zs.any (fun y => a.old.n (zoneKey O.zoneEnable y) == 1)) :: inst
  else if epKind e = 4 then
    one (ringKey (if egress then O.ringEnable else O.transmitRingEnable) (bits e 8 3) (bits e 0 4)) (bits e 8 3)
  else (bitsSet (st.vlanMembers (bits e 0 12)) 64).flatMap (fun n => if st.regionUp (n / 4) then a.laneNeeds n else [])

/-- Everything a contract needs, in the order of its record's fields.  An ingress on a failed die or region, or egress endpoints that all
lie on such, count as the enable of a lane that is off (DESIGN CHOICE, log entry 92). -/
def Adm.needs (a : Adm) (slot : Nat) (r : Bytes) : List (Nat × Nat × Bool × Bool) :=
  let p := Contract.pass r
  let c := Contract.protection r
  let up := a.st.epUp (Contract.ingress r) && (Contract.egress r).any a.st.epUp
  [(0xF, passEnableKey p, a.st.passOn p, a.old.passOn p)] ++
    (if c = 0xFFFF then []
     else [(c / 64, at_ O.channelRecords c, chEnabled (a.st.channelRec c), chEnabled (a.old.channelRec c))]) ++
    a.epNeeds false (Contract.ingress r) ++ (Contract.egress r).flatMap (a.epNeeds true) ++
    (if up then [] else [(bits (Contract.ingress r) 3 3, O.laneEnable, false, false)]) ++
    (a.old.messages.filter (fun m => gmContract (a.old.message m) == slot && gmEnable (a.old.message m) && gmKind (a.old.message m) != 3)).map
      (fun m => (0xF, at_ O.messageRecords m, gmEnable (a.st.message m), true))

/-- The first thing a contract needs that is off. -/
def Adm.disabled (a : Adm) (slot : Nat) (r : Bytes) : Option Verdict :=
  ((a.needs slot r).find? (fun x => !x.2.2.1)).map (fun x => step1V vdDISABLED slot (fnRes x.1 x.2.1))

/-- R79: does command 4 exclude a contract: everything it lacks, this commit switches off? -/
def Adm.dependant (a : Adm) (slot : Nat) (r : Bytes) : Bool :=
  let off := (a.needs slot r).filter (fun x => !x.2.2.1)
  !off.isEmpty && off.all (fun x => x.2.2.2)

/-! ### Step 1 (R65, R66) -/

/-- R66, R332: may the MACsec lane invoke the CAK of a contract's channel in this life-cycle state? -/
def State.cakOk (s : State) (r : Bytes) : Bool :=
  let c := Contract.protection r
  c == 0xFFFF || s.keyAllowed (fld (s.channelRec c) 8 2) kaMACSEC 0 none kaMACSEC

/-- The first fault of one slot. -/
def Adm.slotFault (a : Adm) (slot : Nat) (r : Bytes) : Option Verdict :=
  (match a.st.contractSyntax r with
   | some o => some (step1V vdSYNTAX slot (resWord 0 0 0 o))
   | none => none) <|>
  (if a.st.cakOk r then none else some (step1V vdRIGHTS slot 0)) <|>
  ((a.conflict slot r).map (fun o => step1V vdCONFLICT slot (resWord 0 0 0 o))) <|>
  (a.disabled slot r)

/-- The life-cycle states in which no commit is admitted (R66): BLANK, RETURNED, SCRAPPED. -/
def lifeCycleCommits (lc : Nat) : Bool := lc != 0 && lc != 4 && lc != 5

/-- Step 1 of R65: the conditions that name no slot, in ascending order of object, then the slots. -/
def Adm.step1 (a : Adm) : Option Verdict :=
  (if Role.integrator.le a.role && lifeCycleCommits (a.st.n O.lifeCycleState) then none else some (step1V vdRIGHTS noSlot 0)) <|>
  a.st.pdoFault <|> a.st.passFault <|>
  (a.st.messages.findSome? (a.st.messageVerdict a.contracts)) <|> (a.st.mappings.findSome? a.st.mappingVerdict) <|>
  a.st.channelFault <|> a.st.railFault <|>
  (a.contracts.findSome? (fun e => a.slotFault e.1 e.2))

end Sys2Proof.Machine
end

