-- ==== Sys2Proof/Machine/Table.lean ====
section
/-! DEFINITION. The Stream and Rule Table of a die (R67, R134, R135, R147, R188): which entries it holds and where Izost puts them. -/
namespace Sys2Proof.Machine

open Sys2Proof

/-! ### Which entries a die holds (R67, R183, R188) -/

/-- Can a frame that enters on a lane have VID `v` after stage 2 (R129)? -/
def State.laneTakesVid (s : State) (n v : Nat) : Bool :=
  let m := s.vlanLane n
  (s.n (bySub O.ingressFiltering m) == 0 || bit (s.vlanMembers v) n) &&
    (s.n (bySub O.acceptableFrameTypes m) != 2 || s.n (bySub O.pvid m) == v)

/-- The VIDs of the VLANs in a zone. -/
def State.vidsInZone (s : State) (z : Nat) : List Nat :=
  ((s.blob O.vlanZones).zipIdx.filter (fun e => e.1.toNat == z)).map (·.2)

/-- Does a lane give some of its frames a zone: through a VLAN of that zone, or through its own (its group's) zone for the frames of a
VLAN that has none (R183, R188)? -/
def State.laneGivesZone (s : State) (n z : Nat) : Bool :=
  (s.vidsInZone z).any (s.laneTakesVid n) ||
  (s.laneZoneOf n == z && (List.range 4095).any (fun v => v != 0 && s.laneTakesVid n v && (s.vlanZone v).isNone))

/-- Does a die hold an ingress endpoint whose frames can take a zone (R188)? -/
def State.dieHasZone (s : State) (d z : Nat) : Bool :=
  (List.range 8).any (fun i => s.regionUp (2 * d + i / 4) && s.laneGivesZone (8 * d + i) z) ||
  (List.range 16).any (fun r => s.n (bySub O.hostRingZone (16 * d + r)) == z)

/-- The passes whose rules a die holds, in ascending order (R188). -/
def State.passesAt (s : State) (d : Nat) : List Nat := s.passesOn.filter (fun p => s.dieHasZone d (fld (s.passRec p) 2 1))

/-- Does a pass take a meter: some rule of it has action 3 (R188)? -/
def State.passMetered (s : State) (p : Nat) : Bool := (s.rulesOf p).any (fun r => fld r 3 1 == 3)

/-- Meters of passes on a die (R188). -/
def State.fwMeters (s : State) (d : Nat) : Nat := ((s.passesAt d).filter s.passMetered).length

/-- The dies that hold an ingress lane of a contract (R67). -/
def State.ingressDies (s : State) (r : Bytes) : List Nat :=
  let e := Contract.ingress r
  if epKind e = 0 then [bits e 3 3]
  else if epKind e = 1 then ((s.lagMembers (bits e 0 5)).map dieOfLane).eraseDups
  else []

/-- The lookup key of a contract's classification entry (R135): ingress endpoint, matched address and VID. -/
def classKey (r : Bytes) : Bytes :=
  let k := patch (fill 64 0) 0 (beBytes 2 (Contract.ingress r))
  let k := patch k (if Contract.matchMethod r = 1 then 0x0A else 0x04) (Contract.matchAddr r)
  patch k 0x10 (beBytes 2 (Contract.vid r))

/-- A table entry: kind, range field, owner, low, high, key and mask (R147); spilled: an exact or range entry in the ternary part. -/
structure TableEntry where
  kind : Nat
  range : Nat
  owner : Nat
  low : Nat
  high : Nat
  key : Bytes
  mask : Bytes
  spilled : Bool

/-- A rule's entry: kind 3, or 4 for a ternary one. -/
def ruleEntry (p : Nat) (r : Bytes) : TableEntry :=
  { kind := if fld r 2 1 = 3 then 4 else 3, range := if fld r 2 1 = 2 then fld r 5 1 else 0, owner := p, low := fld r 6 2,
    high := fld r 8 2, key := slice r 0x10 64, mask := if fld r 2 1 = 3 then slice r 0x50 64 else fill 64 0xFF, spilled := false }

/-- The firewall entries of a die, passes and rules in ascending order. -/
def State.firewallEntries (s : State) (d : Nat) : List TableEntry :=
  (s.passesAt d).flatMap (fun p => (s.rulesOf p).map (ruleEntry p))

/-- The classification entries of a die, in ascending contract slot (R67). -/
def State.classEntries (s : State) (d : Nat) : List TableEntry :=
  (s.plan.active.contracts.filter (fun e => (s.ingressDies e.2).contains d)).map (fun e =>
    { kind := 1, range := 0, owner := e.1, low := 0, high := 0, key := classKey e.2, mask := fill 64 0xFF, spilled := false })

/-! ### Banks (R134) -/

/-- A bank: its hashed entries by position, four a bucket, and its ternary ones in order. -/
structure Bank where
  hashed : SMap TableEntry := []
  ternary : List TableEntry := []

/-- A die's table: the banks whose region is up, and how many entries found no room. -/
structure DieTable where
  up : List Nat
  bank0 : Bank := {}
  bank1 : Bank := {}
  past : Nat := 0

/-- Entries of a bank in use. -/
def Bank.use (b : Bank) : Nat := b.hashed.length + b.ternary.length

def DieTable.bank (t : DieTable) (i : Nat) : Bank := if i = 0 then t.bank0 else t.bank1

def DieTable.setBank (t : DieTable) (i : Nat) (b : Bank) : DieTable := if i = 0 then { t with bank0 := b } else { t with bank1 := b }

/-- The bank with fewer entries in use among some, bank 0 on a tie. -/
def DieTable.least (t : DieTable) (l : List Nat) : Option Nat :=
  l.foldl (fun (m : Option Nat) i =>
    match m with
    | none => some i
    | some k => if (t.bank i).use < (t.bank k).use then some i else some k) none

/-- Candidate bucket `i` of 4 of an entry, of a bank's 1,792. -/
def candBucket (e : TableEntry) (i : Nat) : Nat := Config.tableHash e.key i % 1792

/-- A free position in the candidate buckets of an entry. -/
def freeIn (b : SMap TableEntry) (e : TableEntry) : Option Nat :=
  (List.range 16).findSome? (fun k =>
    let pos := 4 * candBucket e (k / 4) + k % 4
    if (look b pos).isNone then some pos else none)

/-- An exact entry put into a bank's buckets with at most `k` relocations; none when that fails.  The entry that gives way is the one at
the next place in turn of the candidate buckets (DESIGN CHOICE, log entry 47). -/
def putHashed : Nat → SMap TableEntry → TableEntry → Option (SMap TableEntry)
  | 0, b, e => (freeIn b e).map (fun pos => ins b pos e)
  | k + 1, b, e =>
    match freeIn b e with
    | some pos => some (ins b pos e)
    | none =>
      let pos := 4 * candBucket e (k % 4) + k / 4 % 4
      match look b pos with
      | some v => putHashed k (ins b pos e) v
      | none => some (ins b pos e)

/-- An entry put into the ternary part: of the bank with fewer entries in use, among those with room. -/
def DieTable.putTernary (t : DieTable) (e : TableEntry) : DieTable :=
  match t.least (t.up.filter (fun i => decide ((t.bank i).ternary.length < 1024))) with
  | some i => t.setBank i { t.bank i with ternary := (t.bank i).ternary ++ [e] }
  | none => { t with past := t.past + 1 }

/-- R134: an entry put into the table.  An exact or range entry goes into the buckets of the bank with fewer entries in use; when that fails
it spills, with a full mask (kind 2, or 4 for a rule). -/
def DieTable.put (t : DieTable) (e : TableEntry) : DieTable :=
  if e.kind = 4 then t.putTernary e
  else
    match (t.least t.up).bind (fun i => (putHashed 64 (t.bank i).hashed e).map (fun b => t.setBank i { t.bank i with hashed := b })) with
    | some x => x
    | none => t.putTernary { e with kind := if e.kind = 1 then 2 else 4, spilled := true }

def DieTable.putAll (t : DieTable) (l : List TableEntry) : DieTable := l.foldl DieTable.put t

/-- A die's table with nothing in it. -/
def State.emptyTable (s : State) (d : Nat) : DieTable := { up := (List.range 2).filter (fun r => s.regionUp (2 * d + r)) }

/-- A die's table as the plan in force fills it: the firewall's entries before the contracts' (R188). -/
def State.table (s : State) (d : Nat) : DieTable := (s.emptyTable d).putAll (s.firewallEntries d ++ s.classEntries d)

/-- The entry at an index of `0x2440:02`: 7,168 hashed ones a bank, then 1,024 ternary ones a bank. -/
def DieTable.at (t : DieTable) (e : Nat) : Option TableEntry :=
  if e < 14336 then look (t.bank (e / 7168)).hashed (e % 7168) else (t.bank ((e - 14336) / 1024)).ternary[(e - 14336) % 1024]?

def DieTable.hashedUse (t : DieTable) : Nat := t.bank0.hashed.length + t.bank1.hashed.length

def DieTable.ternaryUse (t : DieTable) : Nat := t.bank0.ternary.length + t.bank1.ternary.length

def DieTable.spilled (t : DieTable) : Nat := ((t.bank0.ternary ++ t.bank1.ternary).filter (fun e => e.spilled)).length

/-! ### Meters (R136, R180, R192) -/

/-- The meters that the plan and the enabled passes hold, as new ones, by key: a contract's on each die with an ingress lane of it, a
pass's on each die that holds its rules. -/
def State.planMeters (s : State) : SMap MeterSt :=
  let own := fun (d : Nat) => (s.plan.active.contracts.filter (fun e => (s.ingressDies e.2).contains d)).filterMap (fun e =>
    (ingressLane s e.2).map (fun n => (meterKey d e.1, s.contractMeter e.2 n)))
  let pass := fun (d : Nat) => ((s.passesAt d).filter s.passMetered).map (fun p => (meterKey d (0x8000 + p), s.passMeter p))
  (s.upDies.flatMap (fun d => own d ++ pass d)).foldl (fun m e => ins m e.1 e.2) []

end Sys2Proof.Machine
end

