-- ==== Sys2Proof/Machine/Admit2.lean ====
section
/-! DEFINITION. Admission, steps 2 to 7: tables, bandwidth and relief, Tarn, tick budgets, deadlines and jitter, power (R36 to R38,
R65, R67 to R74, R88, R134, R140, R188, R244, R277, R315, R332, R372 to R374). -/
namespace Sys2Proof.Machine

open Sys2Proof

/-- A plan under test: the state with the objects in force and the contracts and items placed so far, every contract that the plan is
to carry, the lanes and endpoints it must do without, whether it is a shadow plan, the Scheduled copies with no free window (slot,
lane), the instances before (for a handover). -/
structure Trial where
  st : State
  all : SMap Bytes
  gone : Nat → Bool
  lostEp : Nat → Bool
  shadow : Bool
  noFree : List (Nat × Nat)
  before : Option Placement

/-- The running plan as a trial. -/
def State.trial (s : State) : Trial :=
  { st := s, all := s.plan.active.contracts, gone := fun n => n != 0xFF && !s.regionUp (n / 4), lostEp := fun e => !s.epUp e,
    shadow := false, noFree := [], before := none }

/-- Contracts and placement of a trial. -/
def Trial.view (t : Trial) : PlanView := t.st.view

def Trial.contracts (t : Trial) : SMap Bytes := t.st.plan.active.contracts

/-- The slot with whose addition, in ascending order, a sum passes `limit`; none named when `base` alone passes it (R65). -/
def firstPast (limit base : Nat) : List (Nat × Nat) → Nat
  | [] => noSlot
  | (slot, n) :: l => if limit < base + n then slot else firstPast limit (base + n) l

/-- The slot with whose addition a demand computed over the contracts up to it passes `limit`. -/
def firstPrefix (limit : Nat) (demand : SMap Bytes → Nat) (cs : SMap Bytes) : Nat :=
  if limit < demand [] then noSlot
  else ((cs.find? (fun e => decide (limit < demand (cs.filter (fun f => decide (f.1 ≤ e.1))))))).elim noSlot (·.1)

/-- A sum against a limit: the refusal of R65. -/
def limitV (step code res unit limit base : Nat) (items : List (Nat × Nat)) : Option Verdict :=
  let tot := items.foldl (fun n e => n + e.2) base
  if tot ≤ limit then none
  else some (resV step code (if limit < base then noSlot else firstPast limit base items) res ((limit : Int) - tot) unit)

/-! ### Step 2: tables (R67, R134, R188, R244, R277, R315) -/

/-- One entry per contract with an ingress lane on a die. -/
def Trial.ingressItems (t : Trial) (d : Nat) : List (Nat × Nat) :=
  t.contracts.map (fun e => (e.1, b2n ((t.st.ingressDies e.2).contains d)))

/-- Firewall entries alone past a die's tables (R188). -/
def Trial.firewallTables (t : Trial) (d : Nat) : Option Verdict :=
  let past := ((t.st.emptyTable d).putAll (t.st.firewallEntries d)).past
  (if past = 0 then none else some (resV 2 vdTABLE noSlot (resWord 1 d 1 0) (-(past : Int)) 1)) <|>
  (limitV 2 vdTABLE (resWord 1 d 3 0) 1 8192 (t.st.fwMeters d) [])

/-- The Stream and Rule Table of a die: the contract whose entry no longer fits, and by how many all pass the ternary part (R134). -/
def Trial.ruleTable (t : Trial) (d : Nat) : Option Verdict :=
  let fw := (t.st.emptyTable d).putAll (t.st.firewallEntries d)
  let past := (fw.putAll (t.st.classEntries d)).past
  if past = 0 then none
  else
    let first := (List.range (t.st.classEntries d).length).find? (fun k => (fw.putAll ((t.st.classEntries d).take (k + 1))).past != 0)
    some (resV 2 vdTABLE ((first.bind (fun k => ((t.st.classEntries d)[k]?).map (·.owner))).getD noSlot) (resWord 1 d 1 0) (-(past : Int)) 1)

/-- Egress lanes of a contract's copies. -/
def Trial.copyLanes (t : Trial) (slot : Nat) : List Nat :=
  match t.view.at slot with
  | some p => (p.egr.map (·.lane)).filter (fun n => n != 0xFF)
  | none => []

/-- The Ethernet message of a mapping: its telegram. -/
def State.telegramOf (s : State) (k : Nat) : Nat :=
  let r := s.mapping k
  if gmKind (s.message (mpSource r)) = 3 then mpSink r else mpSource r

/-- OUT messages that the gateway emits: enabled, with a mapping into them. -/
def State.outMessages (s : State) : List Nat :=
  s.messages.filter (fun m => gmOut (s.message m) && gmEnable (s.message m) && !(s.mapsInto m).isEmpty)

/-- The contract slot that an OUT message serves: its own telegram's, or that of its lowest mapping's source. -/
def State.messageSlot (s : State) (m : Nat) : Nat :=
  if gmKind (s.message m) ≠ 3 then gmContract (s.message m)
  else ((s.mapsInto m).head?).elim noSlot (fun k => gmContract (s.message (mpSource (s.mapping k))))

/-- Items sorted into slot order. -/
def bySlot (l : List (Nat × Nat)) : List (Nat × Nat) :=
  l.foldl (fun m e => upd 0 m e.1 (· + e.2)) ([] : SMap Nat)

/-- Mapping entries on a die (table code 8). -/
def Trial.mappingTable (t : Trial) (d : Nat) : Option Verdict :=
  limitV 2 vdTABLE (resWord 1 d 8 0) 1 4096 0 (bySlot ((t.st.outMessages.filter (fun m => t.st.engine m == some d)).map
    (fun m => (t.st.messageSlot m, (t.st.mapsInto m).length))))

/-- The edge cluster (die, cluster) that holds the cells of a mapping; none for an MVB source (R270). -/
def State.cellHome (s : State) (k : Nat) : Option (Nat × Nat) :=
  let src := s.message (mpSource (s.mapping k))
  let u := if gmKind src = 3 then gmUnit src else gmUnit (s.message (mpSink (s.mapping k)))
  if gmKind src = 3 ∧ bits u 4 3 = 3 then none else some (bits u 8 3, edgeCluster u)

/-- Gateway staging cells of a cluster (table code 13). -/
def Trial.cellTable (t : Trial) (d c : Nat) : Option Verdict :=
  let maps := (t.st.mappings.filter (fun k => t.st.cellHome k == some (d, c))).map
    (fun k => (gmContract (t.st.message (t.st.telegramOf k)), 1))
  let slots := (t.st.messages.filter (fun m =>
      let r := t.st.message m
      gmKind r == 3 && gmOut r && bits (gmUnit r) 4 3 != 3 && bits (gmUnit r) 8 3 == d && edgeCluster (gmUnit r) == c)).map
    (fun m => (t.st.messageSlot m, 1 + ceilDiv (gmLen (t.st.message m)) 16))
  limitV 2 vdTABLE (resWord 1 d 13 c) 1 1408 0 (bySlot (maps ++ slots))

/-- Cirque inputs and outputs of an instance (table codes 9 and 10). -/
def Trial.cirqueTable (t : Trial) (d : Nat) : Option Verdict :=
  let ins_ := (t.st.inputsOn d).map (fun ch => (inFeed (t.st.inputRec ch), 1))
  let outs := ((t.st.zonesOn d).flatMap t.st.zoneOuts).map (fun o => (outContract (t.st.outputRec o), 1))
  (limitV 2 vdTABLE (resWord 1 d 9 0) 1 128 0 (bySlot ins_)) <|> (limitV 2 vdTABLE (resWord 1 d 10 0) 1 64 0 (bySlot outs))

/-- Gate control list entries of a lane (table code 5).  A shadow plan keeps the cycle of the running plan, and repeats its list over it
(R90, R158). -/
def Trial.gateTable (t : Trial) (n : Nat) : Option Verdict :=
  let count := fun (cs : SMap Bytes) =>
    let l := (⟨cs, t.st.plan.active.place⟩ : PlanView).onLane n
    (planList t.st n l).length * (if t.shadow then lcmN (planCycle l) (max 1 (get {} t.st.plan.active.lanes n).cycle) / planCycle l else 1)
  if count t.contracts ≤ 1024 then none
  else some (resV 2 vdTABLE (firstPrefix 1024 count t.contracts) (resWord 1 (n / 8) 5 n) (1024 - (count t.contracts : Int)) 1)

/-- R315: while the anchor is lost, keys that are on no die they are needed on; a shadow plan is not distributed before its keys are
cached (R92). -/
def Trial.keysHeld (t : Trial) : Option Verdict :=
  if (t.st.dieUp 0 && !t.st.pkg.anchorLost) || t.shadow then none
  else
    let missing := t.st.channelsOn.filter (fun c => !t.st.holds (c / 64) (fld (t.st.channelRec c) 8 2))
    if missing.isEmpty then none
    else some (resV 2 vdTABLE ((t.contracts.find? (fun e => missing.contains (Contract.protection e.2))).elim noSlot (·.1))
      (resWord 1 0xF 11 0) (-(missing.length : Int)) 1)

/-- Step 2 on one die.  A Signal or Control contract takes one shaper for each lane copy (DESIGN CHOICE, log entry 92). -/
def Trial.dieTables (t : Trial) (d : Nat) : Option Verdict :=
  let cs := t.contracts
  let functions := fun (slot : Nat) => ((t.view.at slot).map (fun p => ((egressDiesOf p).filter (fun e => recDieOf p e == d)).length)).getD 0
  (t.ruleTable d) <|>
  (limitV 2 vdTABLE (resWord 1 d 2 0) 1 1024 0 (cs.map (fun e =>
    (e.1, if Contract.redundancy e.2 = 1 ∧ t.st.frerOwner e.1 e.2 = e.1 then functions e.1 else 0)))) <|>
  (limitV 2 vdTABLE (resWord 1 d 3 0) 1 8192 (t.st.fwMeters d) (t.ingressItems d)) <|>
  (limitV 2 vdTABLE (resWord 1 d 4 0) 1 2048 0 (cs.map (fun e =>
    (e.1, if Contract.cls e.2 = 3 ∨ Contract.cls e.2 = 4 then ((t.copyLanes e.1).filter (fun n => n / 8 == d)).length else 0)))) <|>
  ((List.range 8).findSome? (fun i => t.gateTable (8 * d + i))) <|>
  (t.mappingTable d) <|> (t.cirqueTable d) <|> (t.cellTable d 0) <|> (t.cellTable d 1)

/-- Step 2 of R65.  A die's 64 channels use its 256 associations exactly, and slots and passes are numbered within their limits, so
table codes 6, 7, 11 and 12 cannot be passed (R13, R332). -/
def Trial.step2 (t : Trial) : Option Verdict :=
  (t.st.upDies.findSome? t.firewallTables) <|> (t.st.upDies.findSome? t.dieTables) <|> t.keysHeld

/-! ### Step 3: bandwidth (R68, R88, R140) -/

/-- Wait-free guard: widest band at a closing that begins a run, in ns (R68). -/
def widestBand (s : State) (n : Nat) (l : List OnLane) : Nat := (List.range 7).foldl (fun m tc => max m (bandAt s n l tc)) 0

/-- The slots whose windows begin a run of abutting windows in one cycle; `last` is where the window before the first ends. -/
def runHeads (cyc : Nat) : Nat → List (Nat × Nat × Nat) → List Nat
  | _, [] => []
  | last, (a, e, k) :: t => if last % cyc = a % cyc then runHeads cyc e t else k :: runHeads cyc e t

/-- Time that the windows of some contracts take in one cycle of a lane, in ns, with the guard bands of the runs that their windows
begin (R68). -/
def closedTime (s : State) (n : Nat) (l : List OnLane) (of : Nat → Bool) : Nat :=
  let w := sortedWindows s n l
  let cyc := planCycle l * s.period
  let heads := runHeads cyc (((w.getLast?).map (·.2.1)).getD cyc + (if w.length = 1 then 1 else 0)) w
  (w.filter (fun x => of x.2.2)).foldl (fun a x => a + (x.2.1 - x.1)) 0 +
    (if w.isEmpty then 0 else (heads.filter of).length * widestBand s n l)

/-- Demand of some contracts on a lane's egress in kbit/s: credit-based queues at their idle slope, windows at their share of the lane's
cycle, the others at their rate, express frames of a preempting lane at 24 bytes more; Best-effort counted or not (R68, R162). -/
def laneDemand (s : State) (n : Nat) (full : List OnLane) (of : Nat → Bool) (be : Bool) : Nat :=
  let l := full.filter (fun c => of c.slot)
  let counted := if be then l else l.filter (fun c => Contract.cls c.cr != 5)
  let others := (ofTc l 3 ++ ofTc l 4 ++ (if be then l.filter (fun c => Contract.cls c.cr == 5) else [])).map
    (fun c => rateFrac s n c.cr)
  let share := if (windowed l).isEmpty then [] else [(s.laneRate n * closedTime s n full of, planCycle full * s.period)]
  (idleSlope s n l 6 + idleSlope s n l 5) * 1000 + fracUp (fracSum (others ++ share ++ counted.map (expressFrac s n)))

/-- The contracts of a set, as a test of slots. -/
def slotsOf (cs : SMap Bytes) (slot : Nat) : Bool := (look cs slot).isSome

/-- The rate at which a contract enters a lane in kbit/s; a group's members share it (R68). -/
def State.ingressFrac (s : State) (n : Nat) (r : Bytes) : Option (Nat × Nat) :=
  let f := (Contract.frames r * s.counted n (Contract.maxFrame r) * 8 * 1000000, Contract.interval r * s.period)
  let e := Contract.ingress r
  if e = epLane n then some f
  else if epKind e = 1 ∧ bit (s.n (byIdx O.members (bits e 0 5))) n = true then some (f.1, f.2 * max 1 (s.lagMembers (bits e 0 5)).length)
  else none

/-- Demand of a lane's ingress in kbit/s. -/
def ingressDemand (s : State) (n : Nat) (cs : SMap Bytes) : Nat := fracUp (fracSum (cs.filterMap (fun e => s.ingressFrac n e.2)))

/-- A lane's 100 % tests: egress, then ingress. -/
def Trial.laneBandwidth (t : Trial) (n : Nat) : Option Verdict :=
  let lim := t.st.laneRate n
  let eg := fun (cs : SMap Bytes) => laneDemand t.st n (t.view.onLane n) (slotsOf cs) true
  let ig := ingressDemand t.st n
  let cs := t.contracts
  if lim < eg cs then some (resV 3 vdBANDWIDTH (firstPrefix lim eg cs) (resWord 2 (n / 8) (n % 8) 0) ((lim : Int) - eg cs) 2)
  else if lim < ig cs then some (resV 3 vdBANDWIDTH (firstPrefix lim ig cs) (resWord 2 (n / 8) (n % 8) 1) ((lim : Int) - ig cs) 2)
  else none

/-- In-service ports of a die towards a neighbour. -/
def State.portsTo (s : State) (a b : Nat) : List Nat :=
  (List.range 4).filter (fun p => s.saddle a p == linkSERVICE && (s.peer a p).any (fun e => e.1 == b))

/-- How often a contract's frames cross from one die to another in the plan under trial. -/
def Trial.crossings (t : Trial) (slot : Nat) (hop : Nat × Nat) : Nat :=
  match t.view.at slot with
  | none => 0
  | some p => crossingsOf p (t.st.variant == 2) (t.before.bind (fun b => b.slots.find? (fun q => q.slot == slot))) hop

/-- A Saddle direction's 256 Gb/s; parallel links share what their dies exchange. -/
def Trial.linkBandwidth (t : Trial) (a b : Nat) : Option Verdict :=
  let ps := t.st.portsTo a b
  let lim := 256000000 * ps.length
  let use := fun (cs : SMap Bytes) => fracUp (fracSum (cs.filterMap (fun e =>
    let k := t.crossings e.1 (a, b)
    if k = 0 then none else some (saddleFrac t.st e.2 k))))
  if use t.contracts ≤ lim then none
  else some (resV 3 vdBANDWIDTH (firstPrefix lim use t.contracts) (resWord 3 a (ps.headD 0xFF) 0) ((lim : Int) - use t.contracts) 2)

/-- The region of an endpoint as an ingress or an internal egress; a Cirque channel's is that of its instance, a group's that of its
first member (DESIGN CHOICE, log entry 92). -/
def State.epRegion (s : State) (p : SlotPlan) (e : Nat) : Nat :=
  if epKind e = 0 then bits e 0 6 / 4
  else if epKind e = 1 then ((s.lagMembers (bits e 0 5)).head?).elim 0 (· / 4)
  else if epKind e = 2 then edgeRegion (bits e 8 3) (bits e 4 3) (bits e 0 2)
  else if epKind e = 4 then 2 * bits e 8 3 + bits e 0 4 / 8
  else 2 * p.cirqueDie + 1

/-- The regions whose pipeline a contract's frames pass, one packet each: the ingress pass, and the egress passes of other dies,
twice where both FRER legs arrive (R127, R140). -/
def Trial.passes (t : Trial) (slot : Nat) (r : Bytes) : List Nat :=
  match t.view.at slot with
  | none => []
  | some p =>
    let ing := t.st.epRegion p (Contract.ingress r)
    let eg := ((PlanView.copies t.st t.view slot r).filterMap (fun c =>
      let reg := if c.1.egr.lane = 0xFF then t.st.epRegion p c.2.1 else c.1.egr.lane / 4
      if reg / 2 = ing / 2 then none else some (reg, c.1.egr.path2.isSome))).eraseDups
    ing :: eg.flatMap (fun e => if e.2 && Contract.redundancy r == 1 then [e.1, e.1] else [e.1])

/-- Load of a region's pipeline in kpps by contracts. -/
def Trial.kpps (t : Trial) (reg : Nat) (cs : SMap Bytes) : Nat :=
  fracUp (fracSum (cs.filterMap (fun e =>
    let k := ((t.passes e.1 e.2).filter (· == reg)).length
    if k = 0 then none else some (k * Contract.frames e.2 * 1000000, Contract.interval e.2 * t.st.period))))

/-- A pipeline's 85 % of 625 Mpps. -/
def Trial.pipeBandwidth (t : Trial) (reg : Nat) : Option Verdict :=
  let use := t.kpps reg
  if use t.contracts ≤ 531250 then none
  else some (resV 3 vdBANDWIDTH (firstPrefix 531250 use t.contracts) (resWord 4 (reg / 2) (reg % 2) 0) (531250 - (use t.contracts : Int)) 3)

/-! #### Relief (R68, R159, R173) -/

/-- The Best-effort classes that count as open to nothing but their gates: those that are not pausable, or all three where
relief frames stand in for them (R173). -/
def State.reliefClasses (s : State) (n : Nat) : List Nat :=
  let p := s.n (bySub O.pausableClasses n)
  if p = 7 then [0, 1, 2] else (List.range 3).filter (fun c => !bit p c)

/-- Insert an interval by start. -/
def insIv (x : Nat × Nat) : List (Nat × Nat) → List (Nat × Nat)
  | [] => [x]
  | y :: t => if x.1 ≤ y.1 then x :: y :: t else y :: insIv x t

/-- Length of a union of intervals sorted by start, past `at_`. -/
def unionLen : Nat → List (Nat × Nat) → Nat
  | _, [] => 0
  | at_, (a, b) :: t => let lo := max at_ a; (b - lo) + unionLen (max at_ b) t

/-- An interval that may run past the end of a cycle, cut at it. -/
def cutIv (cyc : Nat) (x : Nat × Nat) : List (Nat × Nat) :=
  if cyc ≤ x.1 then [(x.1 % cyc, x.1 % cyc + (x.2 - x.1))]
  else if cyc < x.2 then [(x.1, cyc), (0, x.2 - cyc)] else [x]

/-- The gaps between windows in one cycle. -/
def windowGaps (cyc : Nat) (rs : List (Nat × Nat)) : List (Nat × Nat) :=
  match rs with
  | [] => []
  | f :: _ => (rs.zip (rs.drop 1 ++ [(f.1 + cyc, f.2 + cyc)])).map (fun e => (e.1.2, e.2.1))

/-- The open runs of a class under a cyclic list of entries: (start, end), the end past the cycle for the last. -/
def openRuns (cyc : Nat) (l : List GateEntry) (tc : Nat) : List (Nat × Nat) :=
  match l with
  | [] => [(0, cyc)]
  | f :: _ =>
    let seg := (l.zip ((l.drop 1).map (·.off) ++ [f.off + cyc])).filterMap (fun e => if bit e.1.states tc then some (e.1.off, e.2) else none)
    seg.foldl (fun a x => match a.getLast? with
      | some y => if y.2 = x.1 then a.dropLast ++ [(y.1, x.2)] else a ++ [x]
      | none => [x]) []

/-- Time in one cycle in which some counted Best-effort gate stands open outside any band, with the cycle's length, in ns. -/
def Trial.reliefTime (t : Trial) (n : Nat) : Nat × Nat :=
  let s := t.st
  let l := t.view.onLane n
  let cls := s.reliefClasses n
  let admin := at_ O.adminEntries n
  if hasWindows l then
    let cyc := planCycle l * s.period
    let band := cls.foldl (fun m c => min m (bandAt s n l c)) (bandAt s n l (cls.headD 0))
    if cls.isEmpty then (0, cyc)
    else ((windowGaps cyc (runsOf (sortedWindows s n l))).foldl (fun a g => a + ((g.2 - g.1) - band)) 0, cyc)
  else if s.n (at_ O.adminCycle n) ≠ 0 then
    let cyc := s.n (at_ O.adminCycle n) * s.period
    let es := gateEntries (s.blob admin)
    let ivs := cls.flatMap (fun c =>
      if carries l c then [(0, cyc)]
      else
        let b := (s.bandOverride n c).getD (bandOf s n l c)
        (openRuns cyc es c).flatMap (fun r => if r.2 - r.1 = cyc then [(0, cyc)] else cutIv cyc (r.1, r.2 - min (r.2 - r.1) b)))
    (unionLen 0 (ivs.foldl (fun a x => insIv x a) []), cyc)
  else (if cls.isEmpty then 0 else s.period, s.period)

/-- The relief tests of a lane. -/
def Trial.relief (t : Trial) (n : Nat) : Option Verdict :=
  let lim := t.st.laneRate n * 98 / 100
  let use := fun (cs : SMap Bytes) => laneDemand t.st n (t.view.onLane n) (slotsOf cs) false
  let open_ := fun (cs : SMap Bytes) => ({ t with st := t.st.withPlace cs t.st.plan.active.place } : Trial).reliefTime n
  let o := open_ t.contracts
  if lim < use t.contracts then
    some (resV 3 vdRELIEF (firstPrefix lim use t.contracts) (resWord 2 (n / 8) (n % 8) 0) ((lim : Int) - use t.contracts) 2)
  else if o.1 < ceilDiv o.2 50 then
    let bad := fun (cs : SMap Bytes) => let x := open_ cs; decide (x.1 < ceilDiv x.2 50)
    let slot := if bad [] then noSlot
      else (t.contracts.find? (fun e => bad (t.contracts.filter (fun f => decide (f.1 ≤ e.1))))).elim noSlot (·.1)
    some (resV 3 vdRELIEF slot (resWord 2 (n / 8) (n % 8) 2) ((o.1 : Int) - ceilDiv o.2 50) 6)
  else none

/-! #### Paths (R87, R88) -/

/-- Dies reachable in at most `k` hops over in-service links. -/
def State.reach (s : State) (a : Nat) : Nat → List Nat
  | 0 => [a]
  | k + 1 => let r := s.reach a k; (r ++ r.flatMap s.neighbours).eraseDups

/-- Hops between two dies, 4 when there is no way of at most three. -/
def State.hopsBetween (s : State) (a b : Nat) : Nat :=
  ((List.range 4).find? (fun k => (s.reach a k).contains b)).getD 4

/-- The hop limit of a contract between two dies (R88, R97). -/
def Trial.hopLimit (t : Trial) (r : Bytes) (a b : Nat) : Nat :=
  if t.shadow then 3
  else if Contract.cls r = 0 ∨ Contract.cls r = 2 then (if t.st.hopsBetween a b ≤ 2 then 2 else 3)
  else 3

/-- Step 3 of R65. -/
def Trial.step3 (t : Trial) : Option Verdict :=
  let lanes := (List.range t.st.laneCount).filter (fun n => !t.gone n)
  let dies := t.st.upDies
  (lanes.findSome? t.laneBandwidth) <|>
  (dies.findSome? (fun a => (t.st.neighbours a).findSome? (fun b => t.linkBandwidth a b))) <|>
  ((List.range (2 * t.st.variant)).findSome? t.pipeBandwidth) <|>
  (lanes.findSome? t.relief)

/-! ### Step 4: Tarn (R69) -/

/-- Bytes that a contract's frames take in a region (R69). -/
def Trial.tarnOf (t : Trial) (reg slot : Nat) (r : Bytes) : Nat :=
  match t.view.at slot with
  | none => 0
  | some p =>
    let cs := PlanView.copies t.st t.view slot r
    let stored := cs.any (fun c => !cutThrough t.st r c.2.1 c.1.egr.lane)
    let head := if stored && t.st.epRegion p (Contract.ingress r) == reg then Contract.maxFrame r + 32 else 0
    cs.foldl (fun n c =>
      let x := c.1.egr
      let here := if x.lane = 0xFF then t.st.epRegion p c.2.1 else x.lane / 4
      if here ≠ reg then n
      else
        let b := if x.lane = 0xFF then Contract.frames r * Contract.maxFrame r else burst t.st x.lane c.1
        if Contract.cls r = 0 ∨ Contract.cls r = 5 then n + b
        else
          let bound := min (match boundOf t.st t.view c.1 c.2.1 with | some v => ceilDiv v 1000 | none => 0xFFFFFFFF) (Contract.deadline r)
          n + b * (ceilDiv bound (Contract.interval r * t.st.period) + 1)) head

/-- What contracts may take of a region: 6 MiB less 256 KiB and 512 KiB (R69). -/
abbrev tarnLimit : Nat := 6291456 - 262144 - 524288

/-- Step 4 of R65. -/
def Trial.step4 (t : Trial) : Option Verdict :=
  ((List.range (2 * t.st.variant)).filter t.st.regionUp).findSome? (fun reg =>
    (limitV 4 vdBUFFER (resWord 5 (reg / 2) (reg % 2) 0) 4 tarnLimit 0 (t.contracts.map (fun e => (e.1, t.tarnOf reg e.1 e.2)))).map
      (fun v => { v with res := v.res + ((look t.contracts v.slot).map Contract.cls).getD 0 }))

/-- *partition size* of a region and class: what its contracts take; the remainder goes to Best-effort (R69, R87, R100). -/
def Trial.partition (t : Trial) (reg cls : Nat) : Nat :=
  let of := fun (p : Nat → Bool) => t.contracts.foldl (fun n e => if p (Contract.cls e.2) then n + t.tarnOf reg e.1 e.2 else n) 0
  if cls = 5 then 6291456 - 262144 - of (fun c => c != 5) else of (fun c => c == cls)

/-! ### Step 5: tick budgets (R36 to R38, R244, R277) -/

/-- Lane cycles of the mixer of a die in every tick (R244). -/
def State.mixerCost (s : State) (d : Nat) : Nat :=
  let zs := s.zonesOn d
  let spt := fun (z : Nat) => s.perTick (s.n (zoneKey O.zoneRate z))
  let ins_ := (s.inputsOn d).foldl (fun n ch =>
    n + 16 + s.perTick (if s.converted d ch then 0 else inRate (s.inputRec ch)) + (if s.converted d ch then 96 * s.perTick 0 else 0)) 0
  let outs := zs.foldl (fun n z => (s.zoneOuts z).foldl (fun n o =>
    let r := s.outputRec o
    n + 32 + 2 * spt z + 12 * spt z * max (normalRow r).length (emergencyRow r).length) n) 0
  let zones := zs.foldl (fun n z =>
    let names := (((s.zoneOuts z).flatMap (fun o => (normalRow (s.outputRec o)).map (·.1))).filter (fun c => c != srcTone)).eraseDups
    n + 48 + 8 * names.length + 104 * spt z) 0
  let tone := zs.any (fun z => (s.zoneOuts z).any (fun o =>
    ((normalRow (s.outputRec o)) ++ (emergencyRow (s.outputRec o))).any (fun x => x.1 == srcTone)))
  ins_ + outs + zones + (if tone then 8 * s.perTick 0 else 0)

/-- The die whose region an OUT message is written to or injected into. -/
def State.messageDie (s : State) (cs : SMap Bytes) (m : Nat) : Nat :=
  let r := s.message m
  if gmKind r = 3 then bits (gmUnit r) 8 3 else ((look cs (gmContract r)).map (fun c => bits (Contract.ingress c) 8 3)).getD 0

/-- The die of the cells or traffic store that a mapping reads. -/
def State.cellDie (s : State) (k : Nat) : Nat :=
  let src := s.message (mpSource (s.mapping k))
  bits (if gmKind src = 3 then gmUnit src else gmUnit (s.message (mpSink (s.mapping k)))) 8 3

/-- Engine cycles of one emission of an OUT message on an engine (R277). -/
def State.gatewayCost (s : State) (cs : SMap Bytes) (d m : Nat) : Nat :=
  let r := s.message m
  let maps := s.mapsInto m
  32 + ceilDiv (if gmKind r = 3 then gmLen r else telegramBytes r) 4 + 6 * maps.length + 160 * s.hopsBetween d (s.messageDie cs m) +
    maps.foldl (fun n k => n + 160 * s.hopsBetween d (s.cellDie k)) 0

/-- A cyclic job: interval, phase, cost and contract slot. -/
abbrev CycJob := Nat × Nat × Nat × Nat

/-- The hyperperiod of jobs in ticks; 0 where it exceeds 65,536, so that every job counts in every tick (R37). -/
def hyper (js : List CycJob) : Nat := let h := js.foldl (fun a j => Nat.lcm a (max 1 j.1)) 1; if 65536 < h then 0 else h

/-- The heaviest tick of jobs: its sum and its lowest contract slot (R37, R38). -/
def heaviest (js : List CycJob) : Nat × Nat :=
  let h := hyper js
  let at_ := fun (n : Nat) => js.filter (fun j => h == 0 || n % max 1 j.1 == j.2.1 % max 1 j.1)
  let sum := fun (l : List CycJob) => l.foldl (fun n j => n + j.2.2.1) 0
  let ticks := if h = 0 then 1 else h
  let best := (List.range ticks).foldl (fun (m : Nat × Nat) n => let v := sum (at_ n); if m.1 < v then (v, n) else m) (0, 0)
  (best.1, (at_ best.2).foldl (fun m j => min m j.2.2.2) noSlot)

/-- The phase that keeps the heaviest tick lowest when a job of an interval and a cost joins others: the lowest such (R37). -/
def bestPhase (js : List CycJob) (every cost slot : Nat) : Nat :=
  ((List.range every).foldl (fun (m : Option (Nat × Nat)) f =>
    let h := (heaviest (js ++ [(every, f, cost, slot)])).1
    match m with
    | some b => if h < b.1 then some (h, f) else m
    | none => some (h, f)) none).elim 0 (·.2)

/-- Jobs joined by further ones, of interval, cost and slot, each at its best phase. -/
def withPhases (js : List CycJob) (more : List (Nat × Nat × Nat)) : List CycJob :=
  more.foldl (fun js e => js ++ [(e.1, bestPhase js e.1 e.2.1 e.2.2, e.2.1, e.2.2)]) js

/-- The jobs of a resource of a die (R36, R234, R277, R491): mixer, gateway engine, injection paths, management share; `all` are the
contracts of the plan, `cs` those placed. -/
def State.jobs (s : State) (all cs : SMap Bytes) (d code : Nat) : List CycJob :=
  if code = 0 then
    let slots := ((s.inputsOn d).map (fun ch => inFeed (s.inputRec ch)) ++
      ((s.zonesOn d).flatMap s.zoneOuts).map (fun o => outContract (s.outputRec o))).filter (fun k =>
        (look all k).any (fun r => Contract.cls r == 2))
    [(1, 0, s.mixerCost d, slots.foldl min noSlot)]
  else if code = 1 then
    (s.outMessages.filter (fun m => s.engine m == some d)).map (fun m => (s.emitEvery m, s.gatewayPhase m, s.gatewayCost all d m, s.messageSlot m))
  else if code = 2 ∨ code = 3 then
    let reg := 2 * d + (code - 2)
    let audio := (((s.zonesOn d).flatMap s.zoneOuts).map (fun o => outContract (s.outputRec o))).eraseDups.filter (fun k =>
      code == 3 && (look all k).any (fun r => epKind (Contract.ingress r) == 3))
    let rings := cs.filter (fun e => epKind (Contract.ingress e.2) == 4 &&
      2 * bits (Contract.ingress e.2) 8 3 + bits (Contract.ingress e.2) 0 4 / 8 == reg)
    withPhases (audio.map (fun k => (1, 0, 1, k)) ++ (s.outMessages.filter (fun m => gmKind (s.message m) != 3 &&
      (look all (gmContract (s.message m))).any (fun c =>
        let e := Contract.ingress c
        edgeRegion (bits e 8 3) (bits e 4 3) (bits e 0 2) == reg))).map
      (fun m => (s.emitEvery m, s.gatewayPhase m, 1, s.messageSlot m)))
      (rings.map (fun e => (Contract.interval e.2, Contract.frames e.2, e.1)))
  else if code = 4 then [(1, 0, 4000 + (if d = s.pkg.lead ∨ d = s.pkg.standby then 8000 else 0), noSlot)]
  else []

/-- The budget of a resource per tick (R36). -/
def State.budget (s : State) (code : Nat) : Nat :=
  match code with
  | 0 => 4 * 500 * s.period * 9 / 10000
  | 1 => 400 * s.period * 9 / 10000
  | 2 => 1024 * s.period / 125000
  | 3 => 1024 * s.period / 125000
  | 4 => 2 * s.period / 4
  | _ => 512

/-- Step 5 of R65. -/
def Trial.step5 (t : Trial) : Option Verdict :=
  t.st.upDies.findSome? (fun d => (List.range 6).findSome? (fun code =>
    let x := heaviest (t.st.jobs t.all t.contracts d code)
    if x.1 ≤ t.st.budget code then none
    else some (resV 5 vdTICK x.2 (resWord 6 d code 0) ((t.st.budget code : Int) - x.1) 5)))

/-! ### Step 6: deadlines and jitter (R71 to R73) -/

/-- A miss of one copy: 0 deadline or 1 jitter, its margin in ns, its position and its resource.  A bound that still grows after the 16
rounds counts as the greatest UNSIGNED32 in its margin (DESIGN CHOICE, log entry 92). -/
def Trial.copyMiss (t : Trial) (slot : Nat) (r : Bytes) (c : OnLane × Nat × Nat) : Option (Nat × Int × Nat) :=
  let x := c.1.egr
  let p := c.1.place
  let place := if x.lane = 0xFF then (if epKind c.2.1 = 3 then p.cirqueDie else bits c.2.1 8 3, 0xFF) else (x.lane / 8, x.lane % 8)
  let dl : Int := Contract.deadline r
  match boundOf t.st t.view c.1 c.2.1 with
  | none => some (0, dl - 0xFFFFFFFF, resWord 7 place.1 place.2 0)
  | some b =>
    let ns := ceilDiv b 1000
    let j := jitterOf t.st c.1 c.2.1 b
    if Contract.deadline r < ns ∨ t.noFree.contains (slot, x.lane) = true then some (0, dl - ns, resWord 7 place.1 place.2 0)
    else if Contract.jitter r ≠ 0xFFFF ∧ 8 * Contract.jitter r < j then
      some (1, (8 * Contract.jitter r : Int) - j, resWord 8 place.1 place.2 0)
    else none

/-- The miss of a contract that the verdict reports: deadline before jitter, then the most negative margin, then the first endpoint. -/
def Trial.slotMiss (t : Trial) (slot : Nat) (r : Bytes) : Option Verdict :=
  if Contract.cls r = 5 then none
  else
    let ms := (PlanView.copies t.st t.view slot r).filterMap (t.copyMiss slot r)
    let pick := ms.foldl (fun (b : Option (Nat × Int × Nat)) m => match b with
      | none => some m
      | some y => if m.1 < y.1 ∨ (m.1 = y.1 ∧ m.2.1 < y.2.1) then some m else some y) none
    pick.map (fun m => resV 6 vdDEADLINE slot m.2.2 m.2.1 6)

/-- Step 6 of R65. -/
def Trial.step6 (t : Trial) : Option Verdict := t.contracts.findSome? (fun e => t.slotMiss e.1 e.2)

/-! ### Step 7: power (R372 to R374) -/

/-- A resource's heaviest tick in thousandths of its budget. -/
def Trial.load (t : Trial) (d code : Nat) : Nat := ceilDiv (1000 * (heaviest (t.st.jobs t.all t.contracts d code)).1) (max 1 (t.st.budget code))

/-- Best-effort packets of a region at the floor of R375, in kpps (R374). -/
def State.beKpps (s : State) (reg : Nat) : Nat :=
  (List.range 4).foldl (fun n i => let k := 4 * reg + i
    if s.laneOn k then n + s.laneRate k * 2 / 64 / (8 * s.counted k 64) else n) 0

/-- The power items of a die at the worst-case tick, with the contracts `cs` (R374). -/
def Trial.diePower (t : Trial) (cs : SMap Bytes) (d : Nat) : List (Nat × Nat) :=
  let w := t.st.withPlace cs t.st.plan.active.place
  let lanes := ((List.range 8).filter (fun i => t.st.laneOn (8 * d + i) && !t.gone (8 * d + i))).map (fun i =>
    (t.st.n (laneKey O.laneMode (8 * d + i)), w.laneContracted (8 * d + i)))
  t.st.dieItems d lanes (fun i => t.kpps (2 * d + i) cs + t.st.beKpps (2 * d + i)) (t.load d 1) (t.load d 0) 2

/-- µW of a list of items. -/
def totalUw (l : List (Nat × Nat)) : Nat := l.foldl (fun n e => n + e.2) 0

/-- The package I/O items of a die: on the endpoint die, with VDDIO_A there (R373). -/
def State.packageIo (s : State) (d : Nat) : List (Nat × Nat) :=
  if s.endpoint.getD s.pkg.lead = d then [(suCORE, 800000), (suIOA, 1200000)] else []

/-- Package power in mW. -/
def Trial.packagePower (t : Trial) (cs : SMap Bytes) : Nat :=
  ceilDiv (t.st.dies.foldl (fun n d => n + totalUw (t.diePower cs d ++ t.st.packageIo d)) 0) 1000

/-- Current of a rail in mA. -/
def Trial.railLoad (t : Trial) (cs : SMap Bytes) (i : Nat) : Nat :=
  let r := t.st.railRec i
  ceilDiv ((bitsSet (rlMask r) 8).foldl (fun n d => n + supplySum (t.diePower cs d ++ t.st.packageIo d) (rlSupply r)) 0) (nominalMv (rlSupply r))

/-- A power budget against its limit. -/
def Trial.powerV (t : Trial) (die detail limit unit : Nat) (use : SMap Bytes → Nat) : Option Verdict :=
  let v := use t.contracts
  if v ≤ limit then none
  else some (resV 7 vdPOWER (firstPrefix limit use t.contracts) (resWord 9 die 0 detail) ((limit : Int) - v) unit)

/-- Step 7 of R65: the package cap, the rails, the die limits. -/
def Trial.step7 (t : Trial) : Option Verdict :=
  (t.powerV 0xF 0xFFFF (t.st.n O.powerCap) 7 t.packagePower) <|>
  (t.st.rails.findSome? (fun i => if rlBudget (t.st.railRec i) = 0 then none
    else t.powerV 0xF i (rlBudget (t.st.railRec i)) 8 (fun cs => t.railLoad cs i))) <|>
  (t.st.upDies.findSome? (fun d => t.powerV d 0xFFFE (t.st.dieLimitMw d) 7 (fun cs => ceilDiv (totalUw (t.diePower cs d)) 1000)))

/-- R66: the Scheduled copies on a lane, members of groups included, whose intervals have a least common multiple past 4,096 ticks: the
slot whose addition passes it, and the lowest slot. -/
def Trial.lcmConflict (t : Trial) (n : Nat) : Option Verdict :=
  let on := (t.view.onLane n).filter (fun c => Contract.cls c.cr == 0)
  let past := on.find? (fun c => decide (4096 < (on.filter (fun e => decide (e.slot ≤ c.slot))).foldl (fun m e => lcmN m (Contract.interval e.cr)) 1))
  past.map (fun c => step1V vdCONFLICT c.slot (resWord 0 0 0 ((on.head?).elim noSlot (·.slot))))

/-- The conflict that only a placement shows, then steps 2 to 7 of R65, in order. -/
def Trial.check (t : Trial) : Option Verdict :=
  ((List.range t.st.laneCount).findSome? t.lcmConflict) <|> t.step2 <|> t.step3 <|> t.step4 <|> t.step5 <|> t.step6 <|> t.step7

end Sys2Proof.Machine
end

