-- ==== Sys2Proof/Machine/Place.lean ====
section
/-! DEFINITION. Izost's search: windows, candidates in rank order, and the placement of one item after another (R71, R72, R84, R85,
R87, R88, R97, R198, R277, R339, R340). -/
namespace Sys2Proof.Machine

open Sys2Proof

/-! ### Windows (R71, R72) -/

/-- A window placed on a lane: its first offset, its length and its interval, in ns. -/
structure Placed where
  lane : Nat
  off : Nat
  len : Nat
  every : Nat

/-- Do some occurrences of two windows overlap? -/
def clash (a b : Placed) : Bool :=
  let g := max 1 (Nat.gcd a.every b.every)
  let d := (b.off % g + g - a.off % g) % g
  decide (d < a.len) || decide (g < d + b.len)

/-- Is a window free on its lane? -/
def windowFree (on : List Placed) (x : Placed) : Bool := on.all (fun y => y.lane != x.lane || !clash y x)

/-- Rounded down to a multiple of 8 ns. -/
def floor8 (n : Nat) : Nat := n / 8 * 8

/-- The interval of a copy in ns. -/
def copyEvery (s : State) (c : OnLane) : Nat := max 1 (Contract.interval c.cr * s.period)

/-- A copy's window with the offset difference Δ. -/
def windowAt (s : State) (c : OnLane) (delta : Nat) : Placed :=
  ⟨c.egr.lane, (Contract.arrival c.cr + delta) % copyEvery s c, windowLen s c.egr.lane c, copyEvery s c⟩

/-- The smallest free Δ from `lo`, below one interval: the free Δ begin at `lo` itself or where an occurrence of a placed window
ends. -/
def smallestFree (s : State) (on : List Placed) (c : OnLane) (lo : Nat) : Option Nat :=
  let iv := copyEvery s c
  let starts := (on.filter (fun y => y.lane == c.egr.lane)).flatMap (fun y =>
    let g := max 1 (Nat.gcd y.every iv)
    let d := ((y.off + y.len) % g + g - (Contract.arrival c.cr + lo) % g) % g
    (List.range (2 * iv / g)).map (fun k => ceil8 (lo + d + k * g)))
  ((lo :: starts).filter (fun d => decide (d < iv) && windowFree on (windowAt s c d))).foldl
    (fun (m : Option Nat) d => some (match m with | none => d | some x => min x d)) none

/-- The largest Δ, a multiple of 8 ns below one interval, at which the bound does not exceed the deadline. -/
def latestDelta (s : State) (c : OnLane) : Option Nat :=
  let n := c.egr.lane
  let rest := Contract.tolerance c.cr * 1000 + psOf ((Contract.frames c.cr - 1) * s.counted n (copyLen c.cr)) (s.mbps n) + 64000
  let dl := Contract.deadline c.cr * 1000
  if dl < rest then none else some (floor8 (min ((dl - rest) / 1000) (copyEvery s c - 1)))

/-- The largest free Δ in `[lo, hi]`: the free Δ end at `hi` itself or where an occurrence of a placed window begins. -/
def largestFree (s : State) (on : List Placed) (c : OnLane) (lo hi : Nat) : Option Nat :=
  let iv := copyEvery s c
  let len := windowLen s c.egr.lane c
  let ends := (on.filter (fun y => y.lane == c.egr.lane)).flatMap (fun y =>
    let g := max 1 (Nat.gcd y.every iv)
    let d := ((Contract.arrival c.cr + hi + len) % g + g - y.off % g) % g
    (List.range (2 * iv / g)).filterMap (fun k => if hi < d + k * g then none else some (floor8 (hi - d - k * g))))
  ((hi :: ends).filter (fun d => decide (lo ≤ d) && windowFree on (windowAt s c d))).foldl
    (fun (m : Option Nat) d => some (match m with | none => d | some x => max x d)) none

/-- R72: the Δ of a Scheduled copy, and whether it is free.  Δ is taken modulo the interval (R70), so a Δ that R71 allows lies below
one. -/
def chooseDelta (s : State) (on : List Placed) (c : OnLane) : Nat × Bool :=
  let lo := minDelta s c c.egr.lane
  let small := smallestFree s on c lo
  let late := if Contract.depart c.cr then (latestDelta s c).bind (fun hi => if hi < lo then none else largestFree s on c lo hi) else none
  match late with
  | some d => (d, true)
  | none => (small.getD lo, small.isSome)

/-- The windows of the contracts placed so far, but for one slot's. -/
def Trial.windows (t : Trial) (slot : Nat) : List Placed :=
  t.contracts.flatMap (fun e =>
    match t.view.at e.1 with
    | none => []
    | some p =>
      if e.1 = slot ∨ Contract.cls e.2 ≠ 0 then []
      else (p.egr.filter (fun x => x.lane != 0xFF && x.win != 0xFFFFFFFF)).map (fun x => { windowAt t.st ⟨e.1, e.2, p, x⟩ 0 with off := x.win }))

/-- A contract's entries with the windows of its Scheduled lane copies: one that has a window keeps it; with them, the lanes where no
window is free. -/
def Trial.withWindows (t : Trial) (slot : Nat) (r : Bytes) (p : SlotPlan) : SlotPlan × List (Nat × Nat) :=
  let step := fun (a : List Placed × List EgrPlan × List (Nat × Nat)) (x : EgrPlan) =>
    if Contract.cls r ≠ 0 ∨ x.lane = 0xFF ∨ x.win ≠ 0xFFFFFFFF then (a.1, a.2.1 ++ [x], a.2.2)
    else
      let c : OnLane := ⟨slot, r, p, x⟩
      let d := chooseDelta t.st a.1 c
      let w := windowAt t.st c d.1
      (w :: a.1, a.2.1 ++ [{ x with win := w.off }], if d.2 then a.2.2 else a.2.2 ++ [(slot, x.lane)])
  let own := (p.egr.filter (fun x => x.lane != 0xFF && x.win != 0xFFFFFFFF)).map (fun x => { windowAt t.st ⟨slot, r, p, x⟩ 0 with off := x.win })
  let z := p.egr.foldl step (own ++ t.windows slot, [], [])
  ({ p with egr := z.2.1 }, z.2.2)

/-! ### Items placed -/

/-- A slot's record among others in slot order. -/
def insSlot (p : SlotPlan) : List SlotPlan → List SlotPlan
  | [] => [p]
  | q :: l => if p.slot < q.slot then p :: q :: l else if p.slot = q.slot then p :: l else q :: insSlot p l

/-- A contract placed. -/
def Trial.put (t : Trial) (slot : Nat) (r : Bytes) (p : SlotPlan) : Trial :=
  let w := t.withWindows slot r p
  let pl := t.st.plan.active.place
  { t with st := t.st.withPlace (ins t.contracts slot r) { pl with slots := insSlot w.1 pl.slots }, all := ins t.all slot r,
           noFree := t.noFree.filter (fun e => e.1 != slot) ++ w.2 }

/-- The home of an item. -/
def Trial.home (t : Trial) (kind item d : Nat) : Trial :=
  let pl := t.st.plan.active.place
  { t with st := t.st.withPlace t.contracts { pl with homes := ins pl.homes (kind * 65536 + item) d } }

/-! ### Rank (R87) -/

/-- Committed load of a Saddle direction in kbit/s. -/
def Trial.linkLoad (t : Trial) (e : Nat × Nat) : Nat := linkLoadOf t.st t.contracts (fun k => t.crossings k e)

/-- The rank of a path from a die: hops, highest committed load on a link, dies in sequence. -/
def Trial.pathRank (t : Trial) (a : Nat) (p : List Nat) : List Nat := pathRankOf t.linkLoad a p

/-- Are two paths disjoint: no common link, no common intermediate die? -/
def disjointPaths (a : Nat) (p q : List Nat) : Bool :=
  (hopPairs a p).all (fun e => !(hopPairs a q).contains e && !(hopPairs a q).contains (e.2, e.1)) &&
    p.dropLast.all (fun d => !q.dropLast.contains d)

/-- The pairs of disjoint paths of a ranked list, the better path first. -/
def disjointPairs (a : Nat) : List (List Nat) → List (List Nat × List Nat)
  | [] => []
  | p :: l => (l.filter (disjointPaths a p)).map (fun q => (p, q)) ++ disjointPairs a l

/-- Paths from a die to another of at most `k` hops, in rank order. -/
def Trial.paths (t : Trial) (a b k : Nat) : List (List Nat) := ranked (t.pathRank a) (t.st.ways a b k)

/-- The path, or pair of paths, of a contract towards a die, in rank order; a pair ranks by its longer path.  On an AX8-2 the second
path takes the other of the two links; a shadow plan that has no pair left takes one path. -/
def Trial.legs (t : Trial) (r : Bytes) (a b : Nat) : List (List Nat × Option (List Nat)) :=
  if a = b then [([], none)]
  else
    let ps := t.paths a b (t.hopLimit r a b)
    let one := ps.map (fun p => (p, (none : Option (List Nat))))
    if Contract.redundancy r = 0 then one
    else
      let two := if t.st.variant = 2 then (if 2 ≤ (t.st.portsTo a b).length then ps.map (fun p => (p, p)) else [])
        else ranked (fun e => t.pathRank a e.2 ++ t.pathRank a e.1) (disjointPairs a ps)
      if two.isEmpty && t.shadow then one else two.map (fun e => (e.1, some e.2))

/-- Do paths from one die form a tree: every die is entered from one die, and none leads back (R87, R140)? -/
def treeOk (a : Nat) (ps : List (List Nat)) : Bool :=
  let hs := (ps.flatMap (hopPairs a)).eraseDups
  !hasDup (hs.map (·.2)) && !(hs.map (·.2)).contains a

/-- One choice from each list, the last changing first. -/
def choices {α : Type} : List (List α) → List (List α)
  | [] => [[]]
  | o :: l => o.flatMap (fun x => (choices l).map (fun y => x :: y))

/-! ### Candidates of a contract (R85, R87) -/

/-- The rate of the contracts placed on a lane, in kbit/s. -/
def Trial.committedRate (t : Trial) (n : Nat) : Nat := fracUp (fracSum ((t.view.onLane n).map (fun c => rateFrac t.st n c.cr)))

/-- The home of a zone that mixes: enabled, and placed. -/
def Trial.zoneDie (t : Trial) (z : Nat) : Option Nat := if t.st.n (zoneKey O.zoneEnable z) = 1 then t.st.homeOf 0 z else none

/-- The instance that takes a Cirque input: the home of the lowest zone that names it, else the lowest instance that is on. -/
def Trial.channelDie (t : Trial) (ch : Nat) : Nat :=
  (((t.st.zonesNaming ch).findSome? t.zoneDie) <|> (t.st.upDies.find? t.st.instanceOn)).getD 0xFF

/-- *Cirque instance die* of a contract: of its ingress output, else of its first input. -/
def Trial.cirqueOf (t : Trial) (r : Bytes) : Nat :=
  let e := Contract.ingress r
  if epKind e = 3 then (t.zoneDie (outZone (t.st.outputRec (bits e 0 10)))).getD 0xFF
  else (((Contract.egress r).find? (fun x => epKind x == 3)).map (fun x => t.channelDie (bits x 0 10))).getD 0xFF

/-- The die that classifies a contract's frames; a group's is that of its first member that stands. -/
def Trial.ingressDie (t : Trial) (r : Bytes) : Nat :=
  let e := Contract.ingress r
  if epKind e = 0 then bits e 0 6 / 8
  else if epKind e = 1 then (((t.st.lagMembers (bits e 0 5)).filter (fun n => !t.gone n)).headD 0xFF) / 8
  else if epKind e = 3 then t.cirqueOf r
  else bits e 8 3

/-- Where the copies of a contract may end, endpoint by endpoint in the record's order: (die, lane), in rank order. -/
def Trial.ends (t : Trial) (r : Bytes) (a : Nat) : List (List (Nat × Nat)) :=
  (Contract.egress r).flatMap (fun e =>
    if epKind e = 5 then ((t.st.egressLanes r).filter (fun n => !t.gone n)).map (fun n => [(n / 8, n)])
    else if t.lostEp e then []
    else if epKind e = 0 then [[(bits e 0 6 / 8, bits e 0 6)]]
    else if epKind e = 1 then
      [(ranked (fun n => [t.st.hopsBetween a (n / 8), t.committedRate n, n]) ((t.st.lagMembers (bits e 0 5)).filter (fun n => !t.gone n))).map
        (fun n => (n / 8, n))]
    else if epKind e = 3 then [[(t.channelDie (bits e 0 10), 0xFF)]]
    else [[(bits e 8 3, 0xFF)]])

/-- The traffic class of a copy (R102, R150, R151). -/
def State.planTc (s : State) (r : Bytes) (lane : Nat) : Nat :=
  if lane = 0xFF then 0xFF
  else if Contract.cls r = 5 then min 2 (s.pcpClass lane (Contract.pcp r)) else tcOfClass (Contract.cls r)

/-- Dies that copy a contract's frames to two or more: their own endpoints and the next dies of the tree. -/
def replicators (a : Nat) (egr : List EgrPlan) : Nat :=
  let hs := (egr.flatMap (fun x => hopPairs a x.path ++ ((x.path2.map (hopPairs a)).getD []))).eraseDups
  maskOf ((List.range 8).filter (fun d =>
    decide (2 ≤ (hs.filter (fun e => e.1 == d)).length + (egr.filter (fun x => x.path.getLast?.getD a == d)).length)))

/-- Where the recovery function of an egress die may run: there, then on the dies upstream that both paths have in common, the nearest
first (R87).  Upstream of an egress die with internal endpoints, and for a group member that shares another slot's functions, none is
tried (DESIGN CHOICE, log entry 91). -/
def Trial.recoveryDies (t : Trial) (slot : Nat) (r : Bytes) (a : Nat) (es : List (Nat × Nat)) (l : Nat × List Nat × Option (List Nat)) :
    List Nat :=
  l.1 :: (if Contract.redundancy r = 1 ∧ t.st.frerOwner slot r = slot ∧ l.1 ≠ a ∧ es.all (fun e => e.1 != l.1 || e.2 != 0xFF) = true then
    ((a :: l.2.1.dropLast).reverse).filter (fun d => l.2.2.all (fun q => (a :: q.dropLast).contains d)) else [])

/-- One candidate: the ends of the copies, the paths to their dies and the recovery dies (R85, R87). -/
def Trial.slotPlan (t : Trial) (slot : Nat) (r : Bytes) (a : Nat) (es : List (Nat × Nat)) (legs : List (Nat × List Nat × Option (List Nat)))
    (recs : List Nat) : SlotPlan :=
  let egr := es.map (fun e =>
    let l := ((legs.find? (fun x => x.1 == e.1)).map (·.2)).getD ([], none)
    ({ lane := e.2, path := l.1, path2 := l.2, tc := t.st.planTc r e.2, win := 0xFFFFFFFF } : EgrPlan))
  { slot := slot, ingressDie := a, replication := replicators a egr,
    recovery := if Contract.redundancy r = 1 then maskOf recs else 0, cirqueDie := t.cirqueOf r, egr := egr }

/-- The candidates of a contract in rank order, at most 32 (R85): group members in the order of their rank, and for each choice of
members the paths in theirs, and for each of these the recovery dies, the last endpoint or die changing first (DESIGN CHOICE, log
entry 91). -/
def Trial.slotPlans (t : Trial) (slot : Nat) (r : Bytes) : List SlotPlan :=
  let a := t.ingressDie r
  if !t.st.dieUp a || bit (t.st.n O.dieServiceHold) a then []
  else
    ((choices (t.ends r a)).flatMap (fun es =>
      let dies := (es.map (·.1)).eraseDups
      let legs := (choices (dies.map (fun d => (t.legs r a d).map (fun l => (d, l))))).filter (fun l =>
        treeOk a (l.map (·.2.1)) && treeOk a (l.map (fun x => x.2.2.getD x.2.1)))
      legs.flatMap (fun l => (choices (l.map (t.recoveryDies slot r a es))).map (t.slotPlan slot r a es l)))).take 32

/-- The refusal of a contract that no path serves within its limit (R88): the first link of the best-ranked path that breaks the limit,
for a second path of the best-ranked path disjoint from the first. -/
def Trial.noPath (t : Trial) (slot : Nat) (r : Bytes) : Verdict :=
  let a := t.ingressDie r
  let b := ((((t.ends r a).filterMap (·.head?)).map (·.1)).find? (fun d => (t.legs r a d).isEmpty)).getD a
  let lim := t.hopLimit r a b
  let far := t.paths a b 7
  let p := match t.paths a b lim with
    | p :: _ => if Contract.redundancy r = 0 then none else far.find? (fun q => disjointPaths a p q)
    | [] => far.find? (fun q => decide (lim < q.length))
  let port := match p.bind (·.head?) with | some d => (t.st.portsTo a d).headD 0xFF | none => 0xFF
  resV 3 vdBANDWIDTH slot (resWord 3 a port 0) (-(fracUp (saddleFrac t.st r 1) : Int)) 2

/-! ### Candidates of zones and gateway items (R87, R244, R277) -/

/-- May Izost place an item on a die (R359)? -/
def State.takesItems (s : State) (d : Nat) : Bool := s.dieUp d && !bit (s.n O.dieServiceHold) d

/-- Twice the derate level of a die. -/
def State.derateCost (s : State) (d : Nat) : Nat := 2 * s.n (bySub O.dieDerateLevel d)

/-- The die of a contract endpoint that stands still; none for a Cirque channel. -/
def State.epDie (s : State) (e : Nat) : Option Nat :=
  if epKind e = 0 then some (bits e 0 6 / 8)
  else if epKind e = 1 then (s.lagMembers (bits e 0 5)).head?.map (· / 8)
  else if epKind e = 2 ∨ epKind e = 4 then some (bits e 8 3)
  else none

/-- The dies that feed a zone, and those its outputs go to. -/
def Trial.zoneEnds (t : Trial) (z : Nat) : List Nat × List Nat :=
  let inn := (t.all.filter (fun e => (Contract.egress e.2).any (fun x => epKind x == 3 && (t.st.zoneInputs z).contains (bits x 0 10)))).filterMap
    (fun e => t.st.epDie (Contract.ingress e.2))
  let out := (t.all.filter (fun e => epKind (Contract.ingress e.2) == 3 && outZone (t.st.outputRec (bits (Contract.ingress e.2) 0 10)) == z)).flatMap
    (fun e => (Contract.egress e.2).flatMap (fun x =>
      if epKind x = 5 then (t.st.egressLanes e.2).map (· / 8) else (t.st.epDie x).toList))
  (inn.eraseDups, out.eraseDups)

/-- The instances that may mix a zone, in rank order. -/
def Trial.zoneDies (t : Trial) (z : Nat) : List Nat :=
  let ends := t.zoneEnds z
  let sum := fun (d : Nat) (l : List Nat) => l.foldl (fun n e => n + t.st.hopsBetween d e) 0
  ranked (fun d => [sum d ends.1 + sum d ends.2 + t.st.derateCost d, d])
    (t.st.upDies.filter (fun d => t.st.takesItems d && t.st.regionUp (2 * d + 1) && t.st.n (bySub O.cirqueInstanceEnable d) == 1))

/-- The engines that may carry an OUT message, in rank order. -/
def Trial.engineDies (t : Trial) (m : Nat) : List Nat :=
  let unit := ((t.st.gatewayItem m).map t.st.cellDie).getD 0xFF
  ranked (fun d => [b2n (d != unit) + t.st.derateCost d, d]) (t.st.upDies.filter (fun d => t.st.takesItems d && t.st.regionUp (2 * d)))

/-- An OUT message homed on a die, with its best phase there (R37). -/
def Trial.putMessage (t : Trial) (m d : Nat) : Trial :=
  match t.st.gatewayItem m with
  | none => t
  | some k =>
    let js := t.st.jobs t.all t.contracts d 1
    let f := bestPhase js (t.st.emitEvery m) (t.st.gatewayCost t.all d m) (t.st.messageSlot m)
    (t.home 1 k d).home 8 k f

/-! ### Items in the order of R84 -/

/-- An item to place: a contract (with the one placement it may take, in a shadow plan), a Cirque zone, an OUT message of the gateway. -/
inductive PlaceItem where
  | slot (k : Nat) (r : Bytes) (only : Option SlotPlan)
  | zone (z : Nat)
  | message (m : Nat)

/-- The plans that an item's candidates make. -/
def Trial.candidates (t : Trial) : PlaceItem → List Trial
  | .slot k r none => (t.slotPlans k r).map (t.put k r)
  | .slot k r (some p) => [t.put k r p]
  | .zone z => ((t.zoneDies z).take 32).map (t.home 0 z)
  | .message m => ((t.engineDies m).take 32).map (t.putMessage m)

/-- The refusal of an item that has no candidate: a contract no path serves; a zone no instance can hold and a message no engine can, each
under its table code with DIE 0xF and a margin of one entry (R88, R244, R277; DESIGN CHOICE for the last, log entry 92). -/
def Trial.noCandidate (t : Trial) : PlaceItem → Verdict
  | .slot k r _ => t.noPath k r
  | .zone _ => resV 2 vdTABLE noSlot (resWord 1 0xF 9 0) (-1) 1
  | .message m => resV 2 vdTABLE (t.st.messageSlot m) (resWord 1 0xF 8 0) (-1) 1

/-- The verdict that got further; at one step, the one with the larger margin (R65). -/
def Verdict.further (a b : Verdict) : Verdict := if a.step < b.step ∨ (a.step = b.step ∧ a.margin < b.margin) then b else a

/-- The furthest of some verdicts. -/
def furthest : List Verdict → Option Verdict
  | [] => none
  | v :: l => some ((furthest l).elim v (fun w => v.further w))

/-- The items not placed yet on their best-ranked candidates, for the whole demand of a refusal (R65). -/
def Trial.fill (t : Trial) (l : List PlaceItem) : Trial := l.foldl (fun t i => (t.candidates i).headD t) t

/-- The verdict when no candidate of an item passes (R85): that of the candidate that got furthest, each with the items still to place
on their best-ranked candidates, so that the margin states the whole demand (R65). -/
def Trial.refusal (t : Trial) (i : PlaceItem) (rest : List PlaceItem) : Verdict :=
  match t.candidates i with
  | [] => t.noCandidate i
  | cs => (furthest (cs.filterMap (fun c => (c.fill rest).check <|> c.check))).getD accepted

/-- R85: items placed in order, each on its first candidate that passes; the item that fails with its verdict. -/
def Trial.place : List PlaceItem → Trial → Sum (PlaceItem × Verdict) Trial
  | [], t => .inr t
  | i :: l, t =>
    match (t.candidates i).find? (fun c => c.check.isNone) with
    | some c => Trial.place l c
    | none => .inl (i, t.refusal i l)

/-- Contracts of some classes as items, in slot order. -/
def slotItems (cs : SMap Bytes) (p : Nat → Bool) : List PlaceItem := (cs.filter (fun e => p (Contract.cls e.2))).map (fun e => .slot e.1 e.2 none)

/-- The zones that need an instance: enabled, with outputs, while some instance is on (R245). -/
def State.zoneList (s : State) : List Nat :=
  (List.range 256).filter (fun z => s.zonesUsed.contains z && s.n (zoneKey O.zoneEnable z) == 1 && instancesOn s)

/-- The OUT messages in ascending order of their lowest mappings. -/
def State.messageList (s : State) : List Nat := ranked (fun m => [(s.gatewayItem m).getD 0]) s.outMessages

/-- The items of a plan in the order of R84, up to the Best-effort contracts. -/
def State.placeItems (s : State) (cs : SMap Bytes) : List PlaceItem :=
  slotItems cs (· == 0) ++ s.zoneList.map .zone ++ slotItems cs (· == 2) ++ s.messageList.map .message ++
    slotItems cs (fun c => c == 3 || c == 4) ++ slotItems cs (· == 1) ++ slotItems cs (· == 5)

/-! ### Step 8 of R84: session homes and job classes, which never refuse -/

/-- Enabled job classes. -/
def State.classesOn (s : State) : List Nat := (List.range 64).filter (fun c => clEnabled (s.classRec c))

/-- The die that submits a class's jobs (R340). -/
def State.submitter (s : State) (c : Nat) : Nat :=
  let r := s.classRec c
  if clOwner r = 0 then fld r 5 1 else if clOwner r = 3 then s.pkg.lead else s.endpoint.getD s.pkg.lead

/-- What the items of a kind homed on a die reserve. -/
def Trial.reserved (t : Trial) (kind d : Nat) (of : Nat → Nat) : Nat :=
  (t.st.plan.active.place.homes.filter (fun e => e.1 / 65536 == kind && e.2 == d)).foldl (fun n e => n + of (e.1 % 65536)) 0

/-- An item homed on the first die of a ranked list with room, else on the first. -/
def Trial.homeIn (t : Trial) (kind item limit : Nat) (of : Nat → Nat) (dies : List Nat) : Trial :=
  match (dies.find? (fun d => decide (t.reserved kind d of + of item ≤ limit))) <|> dies.head? with
  | some d => t.home kind item d
  | none => t

/-- R198: the session home of a pass and ingress die: that die while its table has room, else another by hops and derate level. -/
def Trial.homeSession (t : Trial) (item : Nat) : Trial :=
  let d0 := item % 8
  t.homeIn 3 item 4096 (fun i => passLimit (t.st.passRec (i / 8)))
    (ranked (fun d => [b2n (d != d0), t.st.hopsBetween d0 d + t.st.derateCost d, d]) (t.st.upDies.filter t.st.takesItems))

/-- R339: the home of a job class. -/
def Trial.homeClass (t : Trial) (c : Nat) : Trial :=
  t.homeIn 2 c (9 * t.st.period / 10) (fun i => clReservation (t.st.classRec i))
    (ranked (fun d => [t.st.hopsBetween (t.st.submitter c) d + t.st.derateCost d, d])
      (t.st.upDies.filter (fun d => t.st.takesItems d && t.st.n (bySub O.lookAsideEnable d) == 1)))

/-- The session items of a package: every enabled pass on every die in placement. -/
def State.sessionItems (s : State) : List Nat := s.passesOn.flatMap (fun p => (s.upDies.filter s.takesItems).map (fun d => 8 * p + d))

/-- Homes of the sessions and job classes that have none yet. -/
def Trial.homeRest (t : Trial) : Trial :=
  let t := (t.st.sessionItems.filter (fun i => (t.st.homeOf 3 i).isNone)).foldl (fun t i => t.homeSession i) t
  (t.st.classesOn.filter (fun c => (t.st.homeOf 2 c).isNone)).foldl (fun t c => t.homeClass c) t

/-! ### A whole plan -/

/-- A plan with nothing placed yet. -/
def Trial.bare (t : Trial) : Trial := { t with st := t.st.withPlace [] ⟨[], []⟩, noFree := [] }

/-- R85: the plan of some items on top of what is placed already. -/
def Trial.build (t : Trial) (items : List PlaceItem) : Sum (Option PlaceItem × Verdict) Trial :=
  match t.check with
  | some v => .inl (none, v)
  | none =>
    match Trial.place items t with
    | .inl e => .inl (some e.1, e.2)
    | .inr u => .inr u.homeRest

/-- R97: SHED contracts join a plan in slot order where they fit; `fits` is step 1 for one of them, `holds` step 8
for the plan it joins.  The slots left out. -/
def Trial.joinShed (t : Trial) (fits : Trial → Nat → Bytes → Bool) (holds : Trial → Bool) : SMap Bytes → Trial × List Nat
  | [] => (t, [])
  | e :: l =>
    match (if fits t e.1 e.2 then (t.candidates (.slot e.1 e.2 none)).find? (fun c => c.check.isNone && holds c) else none) with
    | some c => c.joinShed fits holds l
    | none => let z := t.joinShed fits holds l; (z.1, e.1 :: z.2)

end Sys2Proof.Machine
end

