-- ==== Sys2Proof/Machine/Shadow.lean ====
section
/-! DEFINITION. Fault cases and their shadow plans (R53, R74, R90 to R92, R95, R96, R103). -/
namespace Sys2Proof.Machine

open Sys2Proof

/-! ### The failed element -/

/-- The fault cases of a plan in the order of R74. -/
def faultCases (s : State) (cs : SMap Bytes) : List Nat :=
  let links := (s.dies.flatMap (fun d => (List.range 4).map (fun p => (d, p)))).filter (fun (e : Nat × Nat) =>
    s.saddle e.1 e.2 == linkSERVICE && s.lowerEnd e.1 e.2 == e)
  s.upDies.map caseDie ++ ((List.range (2 * s.variant)).filter s.regionUp).map caseRegion ++ links.map caseLink ++
    (protectedLanes s cs).map caseLane

/-- The state with the element of a case failed. -/
def State.faulted (s : State) (code : Nat) : State :=
  let d := caseDieOf code
  if caseKind code = 1 then
    let s := { s with pkg := { s.pkg with failed := s.pkg.failed ++ [d], healthy := setBit s.pkg.healthy d false } }
    let s := (List.range 4).foldl (fun (s : State) p => if s.trained d p then s.setSaddle d p linkFAILED else s) s
    let lead := if d = s.pkg.lead then (if s.dieUp s.pkg.standby then s.pkg.standby else (s.upDies.head?).getD s.pkg.lead) else s.pkg.lead
    { s with pkg := { s.pkg with lead := lead, standby := if d = s.pkg.lead ∨ d = s.pkg.standby then s.standbyFor lead else s.pkg.standby } }
  else if caseKind code = 2 then
    { s with pkg := { s.pkg with regionFaults := s.pkg.regionFaults ++ [2 * d + caseInst code] } }
  else if caseKind code = 3 then
    let ends := match s.peer d (caseInst code) with | some e => [d, e.1] | none => [d]
    let s := s.setSaddle d (caseInst code) linkFAILED
    if s.variant = 8 then ends.foldl (fun (s : State) e => if s.saddle e 3 = linkSTANDBY then s.setSaddle e 3 linkSERVICE else s) s else s
  else s

/-- Does a path from a die use a hop that the state has no link for? -/
def State.pathBroken (s : State) (a : Nat) (p : List Nat) : Bool := (hopPairs a p).any (fun e => !(s.neighbours e.1).contains e.2)

/-- Is an item of a kind homed on the failed element (R48, R90)?  Cirque is homed in region 1 and the gateway engine in region 0. -/
def itemLost (code kind die : Nat) : Bool :=
  (caseKind code == 1 && die == caseDieOf code) ||
  (caseKind code == 2 && die == caseDieOf code && ((kind == 0 && caseInst code == 1) || ((kind == 1 || kind == 8) && caseInst code == 0)))

/-! ### What a case leaves alone, and what it moves (R90) -/

/-- What becomes of a contract's placement in a case: it stands, its surviving leg is its one path, or it is placed again. -/
inductive CaseFate where
  | frozen (p : SlotPlan)
  | moved (p : SlotPlan)
  | again

/-- One egress entry in the state after the fault: untouched, on its other path (with a window to place again), or none.  On an AX8-2 the
two paths are the two links, and a link case leaves one. -/
def entryFate (f : State) (code a : Nat) (r : Bytes) (x : EgrPlan) : Option (EgrPlan × Bool) :=
  let hit := f.pathBroken a
  match x.path2 with
  | none => if hit x.path then none else some (x, false)
  | some q =>
    if hit x.path && hit q then none
    else if hit x.path then
      if Contract.redundancy r = 1 then some ({ x with path := q, path2 := none }, false)
      else some ({ x with path := q, path2 := none, win := 0xFFFFFFFF }, true)
    else if hit q || (f.variant == 2 && caseKind code == 3) then some ({ x with path2 := none }, false)
    else some (x, false)

/-- R90: a placement that does not touch the element stands; an FRER contract runs on its other leg, and a path-diverse one moves to its
replacement path, where a Scheduled copy's window is placed again (R71); any other is placed again. -/
def caseFate (s f : State) (code : Nat) (r : Bytes) (p : SlotPlan) : CaseFate :=
  let es : List (Option (EgrPlan × Bool)) := p.egr.map (entryFate f code p.ingressDie r)
  if (Contract.egress r).any (s.endpointOn code r) || (p.cirqueDie != 0xFF && itemLost code 0 p.cirqueDie) ||
      (caseKind code == 1 && p.ingressDie == caseDieOf code) || p.egr.any (fun x => x.lane != 0xFF && onElement code x.lane) ||
      es.any Option.isNone then .again
  else
    let q := { p with egr := es.filterMap (fun (e : Option (EgrPlan × Bool)) => e.map Prod.fst) }
    let q := { q with replication := replicators q.ingressDie q.egr }
    if es.any (fun (e : Option (EgrPlan × Bool)) => (e.map Prod.snd).getD false) then .moved q else .frozen q

/-- A home of an OUT message that has failed itself: its edge unit, or the ingress of its contract. -/
def messageLost (s : State) (code : Nat) (cs : SMap Bytes) (m : Nat) : Bool :=
  let r := s.message m
  if gmKind r = 3 then s.endpointOn code [] (gmUnit r) else (look cs (gmContract r)).isNone

/-- The start of a case's plan: the frozen contracts that stay, and the homes off the failed element; and the items to place, in the order
of R84.  A message that is lost with the element keeps its home, which reads LOST (R104). -/
def caseStart (s f : State) (code : Nat) (run : Placement) (cs : SMap Bytes) : Trial × List PlaceItem :=
  let fate := fun (e : Nat × Bytes) => (run.slots.find? (fun p => p.slot == e.1)).elim CaseFate.again (caseFate s f code e.2)
  let zones := (run.homes.filter (fun e => e.1 / 65536 == 0 && itemLost code 0 e.2)).map (·.1)
  let msgs := s.messageList.filter (fun m => (s.engine m).any (itemLost code 1) && !messageLost s code cs m)
  let items := msgs.filterMap s.gatewayItem
  let homes := run.homes.filter (fun e =>
    !(itemLost code (e.1 / 65536) e.2 && (e.1 / 65536 == 0 || e.1 / 65536 == 2 || e.1 / 65536 == 3)) &&
      !((e.1 / 65536 == 1 || e.1 / 65536 == 8) && items.contains (e.1 % 65536)))
  let fixed := cs.filterMap (fun e => match fate e with | .frozen p => some (e.1, e.2, p) | _ => none)
  let pick := fun (p : Nat → Bool) => (cs.filter (fun e => p (Contract.cls e.2))).filterMap (fun e =>
    match fate e with
    | .frozen _ => none
    | .moved q => some (PlaceItem.slot e.1 e.2 (some q))
    | .again => some (PlaceItem.slot e.1 e.2 none))
  let st := f.withPlace (fixed.map (fun e => (e.1, e.2.1))) ⟨fixed.map (fun e => e.2.2), homes⟩
  ({ st := st, all := cs, gone := fun n => n != 0xFF && (!f.regionUp (n / 4) || onElement code n ||
       f.plan.faults.any (fun c => caseKind c == 4 && onElement c n)),
     lostEp := fun e => !f.epUp e || s.endpointOn code [] e, shadow := true, noFree := [], before := none },
   pick (· == 0) ++ zones.map .zone ++ pick (· == 2) ++ msgs.map .message ++ pick (fun c => c == 3 || c == 4) ++ pick (· == 1) ++ pick (· == 5))

/-- The next contract to shed: None contracts in descending slot order, then Degradable ones, higher shed priority first, among equals the
higher slot (R53, R90). -/
def nextShed (cs : SMap Bytes) : Option Nat :=
  match (cs.filter (fun e => Contract.faultReq e.2 == 0)).getLast? with
  | some e => some e.1
  | none => ((cs.filter (fun e => Contract.faultReq e.2 == 1)).foldl (fun (b : Option (Nat × Nat)) e =>
      match b with
      | some x => if x.1 ≤ Contract.shedPriority e.2 then some (Contract.shedPriority e.2, e.1) else some x
      | none => some (Contract.shedPriority e.2, e.1)) none).map (·.2)

/-- What building a case's plan comes to: its plan, contracts shed, Strict ones among them, and the first verdict that no shedding
cured. -/
structure CaseBuilt where
  trial : Option Trial
  shed : List Nat
  strict : List Nat
  why : Option Verdict

/-- R53, R90: the case's plan.  A contract that is not Strict and cannot be placed is shed; for a Strict one, or anything else that fails,
the next contract in order is shed and all is tried again.  With nothing left to shed, a Strict contract is shed itself. -/
def buildCase (start : SMap Bytes → Trial × List PlaceItem) : Nat → SMap Bytes → List Nat → List Nat → Option Verdict → CaseBuilt
  | 0, _, shed, strict, why => ⟨none, shed, strict, why⟩
  | n + 1, cs, shed, strict, why =>
    let z := start cs
    match z.1.build z.2 with
    | .inr t => ⟨some t, shed, strict, why⟩
    | .inl (i, v) =>
      let own := match i with | some (.slot k r _) => some (k, Contract.faultReq r) | _ => none
      match own with
      | some (k, req) =>
        if req ≠ 2 then buildCase start n (del cs k) (shed ++ [k]) strict why
        else
          match nextShed cs with
          | some x => buildCase start n (del cs x) (shed ++ [x]) strict why
          | none => buildCase start n (del cs k) shed (strict ++ [k]) (why <|> some v)
      | none =>
        match nextShed cs with
        | some x => buildCase start n (del cs x) (shed ++ [x]) strict why
        | none => ⟨none, shed, strict, why <|> some v⟩

/-- The smallest deadline margin of a Strict contract in a view; the greatest INTEGER32 when it holds none (R103). -/
def strictMargin (s : State) (v : PlanView) : Int :=
  (v.contracts.filter (fun e => Contract.faultReq e.2 == 2)).foldl (fun m e =>
    min m (clampI (-2147483648) 2147483647 ((Contract.deadline e.2 : Int) - slotBound s v e.1 e.2))) 2147483647

/-- A case examined: its plan, if it has one, what its record starts with, and the verdict of a case that no shedding cures (R74, R90 to
R92, R103). -/
structure CaseOutcome where
  plan : Option CasePlan
  st : CaseSt
  why : Option Verdict

/-- One fault case of a plan. -/
def examineCase (s : State) (cs : SMap Bytes) (run : Placement) (code : Nat) : CaseOutcome :=
  let f := s.faulted code
  let lost := (cs.filter (fun e => s.endpointLost code e.2)).map (·.1)
  let keep := cs.filter (fun e => !lost.contains e.1)
  let b := buildCase (caseStart s f code run) (keep.length + 1) keep [] [] none
  let margin := match b.trial with | some t => strictMargin t.st t.view | none => 2147483647
  ⟨b.trial.map (fun t => ⟨code, b.shed ++ b.strict, t.st.plan.active.place⟩),
   ⟨code, 0, (b.shed ++ b.strict).length, lost.length, b.strict.length, margin⟩, b.why⟩

/-- The outcome of every case of a plan, in the order of R74. -/
def examineCases (s : State) (cs : SMap Bytes) (run : Placement) : List CaseOutcome :=
  (faultCases s cs).map (examineCase s cs run)

/-- R74: the refusal of the first case that fails. -/
def caseRefusal (l : List CaseOutcome) : Option Verdict :=
  l.findSome? (fun o => o.why.map (fun v => { v with code := vdFAULTPLAN, inner := v.code, fcase := o.st.code, step := 8 }))

/-- *partition size* as the plan in force has it (R69, R87, R100). -/
def State.refreshPartitions (s : State) : State :=
  let t := s.trial
  (List.range (2 * s.variant)).foldl (fun (s : State) reg =>
    (List.range 6).foldl (fun (s : State) cls => s.setN (bySub O.partitionSize (6 * reg + cls)) (t.partition reg cls)) s) s

/-! ### Activation (R95) -/

/-- R95: frames queued on the lanes of a failed element, and those of contracts that no longer leave on their lane, dropped and
counted. -/
def State.drainRoutes (s : State) (code : Nat) (v : PlanView) : State :=
  (List.range s.laneCount).foldl (fun (s : State) n =>
    if onElement code n then s.drainLane n
    else
      let on := (v.onLane n).map (·.slot)
      let gone := fun (f : QFrame) => f.slot != 0xFFFF && f.mirror == 0 && !on.contains f.slot
      let k := ((s.lane n).queues.filter gone).length
      if k = 0 then s
      else (s.updLane n (fun l => { l with queues := l.queues.filter (fun f => !gone f) })).addTo (laneKey O.drained n) k (2 ^ 64 - 1)) s

/-- R131: the dynamic entries of a failed die's lanes flushed; a group's when no member is left in service. -/
def State.flushDie (s : State) (d : Nat) : State :=
  let gone := fun (e : Nat) => (epKind e == 0 && bits e 0 6 / 8 == d) ||
    (epKind e == 1 && (s.lagMembers (bits e 0 5)).any (fun n => n / 8 == d) && (s.lagActive (bits e 0 5)).all (fun n => n / 8 == d))
  ({ s with fwd := { s.fwd with fdb := mapVals (fun m => m.filter (fun e => e.2.static || !gone e.2.endpoint)) s.fwd.fdb } }).refreshFdb

/-- A lane's parameters with the cycle that the running plan gives it: the list repeats over it (R49, R90, R158). -/
def LanePlan.keepCycle (p : LanePlan) (old period : Nat) : LanePlan :=
  let c := max 1 p.cycle
  let k := lcmN c (max 1 old) / c
  { p with cycle := k * c, list := (List.range k).flatMap (fun i => p.list.map (fun g => { g with off := g.off + i * c * period })) }

/-- The lane parameters of a fault plan. -/
def State.faultLanes (s : State) (v : PlanView) : SMap LanePlan :=
  (lanePlans s v).map (fun e => (e.1, e.2.keepCycle (get {} s.plan.active.lanes e.1).cycle s.period))

/-- The contracts a case sheds: endpoint-lost ones, and those its plan lists. -/
def State.shedBy (s : State) (code : Nat) (p : CasePlan) : List (Nat × Bool) :=
  s.plan.active.contracts.filterMap (fun e =>
    if s.endpointLost code e.2 then some (e.1, true)
    else if p.shed.contains e.1 then some (e.1, false) else none)

/-- The state of a slot whose contract an activated plan carries again: SHED ends with the fault plan that set it (R58, R94). -/
def State.unshed (s : State) (slot : Nat) : Nat :=
  if (s.stagedRec slot).isSome then slSTAGEDCHANGE else if s.plan.stagedDel.contains slot then slSTAGEDDELETE else slACTIVE

/-- R95: activation completes: the case's plan becomes the active generation, contracts are shed, the switch tick is the
tick in progress. -/
def State.completeActivation (s : State) (code : Nat) : State :=
  match s.plan.active.cases.find? (fun p => p.code == code) with
  | none => s
  | some p =>
    let shed := s.shedBy code p
    let old := s.plan.active.bounds
    let gone := shed.map (·.1)
    let g := if s.plan.active.gen = 2 ^ 32 - 1 then 1 else s.plan.active.gen + 1
    let keep := s.plan.active.contracts.filter (fun e => !gone.contains e.1)
    let v : PlanView := ⟨keep, p.place⟩
    let s := { s with plan := { s.plan with
      active := { s.plan.active with gen := g, switchTick := s.tickNo, contracts := keep, place := p.place,
                                     bounds := planBounds s v, reduced := true, cases := [] },
      cases := [] } }
    let s := if caseKind code = 3 && s.variant == 8 then
        match s.peer (caseDieOf code) (caseInst code) with
        | some e => [caseDieOf code, e.1].foldl (fun s d =>
            if s.saddle d 3 = linkSTANDBY then s.setSaddle d 3 linkSERVICE else s) s
        | none => s
      else s
    let s := (List.range s.laneCount).foldl (fun (s : State) n => s.accrue n) s
    let s := ((s.loadLanes (s.faultLanes v)).loadShapers v).showAdminBands
    let s := shed.foldl (fun s e =>
      let cid := fld (s.blob (activeKey e.1)) 0 4
      (s.setN (slotStateKey e.1) slSHED).logLead Ev.contractShed 0xFFFF [(2, e.1), (4, cid), (1, b2n (!e.2))]) s
    let s := keep.foldl (fun (s : State) e => if s.slotState e.1 = slSHED then s.setN (slotStateKey e.1) (s.unshed e.1) else s) s
    let s := s.drainRoutes code v
    let s := if caseKind code = 1 then s.flushDie (caseDieOf code) else s
    let s := (((s.setN O.activeGeneration g).setN O.generationSwitchTick s.tickNo).setN O.faultPlanInForce code).setN
      O.activationTick s.tickNo
    let s := s.setBlob O.planHash (planHashOf s keep p.place)
    let s := s.redeclare old
    { s with plan := { s.plan with
        settling := s.plan.activating, activating := none,
        base := if caseKind code = 3 ∨ caseKind code = 4 then s.plan.base else [] } }.refreshPartitions.refreshCounts.refreshCases.endLostTxns.refreshLookAside

/-- R95: a surviving die applies its delta; with the last one, activation completes. -/
def activationReceive (d code : Nat) (s : State) : State :=
  match s.plan.activating with
  | none => s
  | some (c, _) =>
    if c ≠ code ∨ !s.dieUp d then s
    else
      let m := setBit s.plan.reported d true
      let s := { s with plan := { s.plan with reported := m } }
      if (bitsSet (s.reporters code) 8).all (bit m) then s.completeActivation code else s

def execActivationReceive (t : Nat) (die code : Nat) (s : State) : Host.Outcome State Fault Refusal :=
  .next (activationReceive die code (s.begin t))

/-! ### After a fault (R92, R95, R96) -/

/-- R92, R95: every die has settled.  The recovery time is counted from the first report, the activation is logged, and the fault cases of
the reduced package, with the plans that Izost builds for them, are still to build and distribute. -/
def faultPlanActive (s : State) : State :=
  let s := match s.plan.activating with
    | some (c, _) => s.completeActivation c
    | none => s
  match s.plan.settling with
  | none => s
  | some (c, first) =>
    let rt := satN (2 ^ 32 - 1) (s.now - first)
    let s := s.setN O.lastRecoveryTime rt
    let os := examineCases s s.plan.active.contracts s.plan.active.place
    let s := { s with plan := { s.plan with
      settling := none, active := { s.plan.active with cases := os.filterMap CaseOutcome.plan }, cases := os.map CaseOutcome.st } }
    s.refreshCases.logLead Ev.faultPlanActive 0xFFFF [(4, c), (4, s.plan.active.gen), (4, rt)]

def execFaultPlanActive (t : Nat) (s : State) : Host.Outcome State Fault Refusal := .next (faultPlanActive (s.begin t))

/-- The running plan as it was before the failed element of a fault went: its state for building the case's plan. -/
def State.beforeFault (s : State) (code : Nat) : State :=
  if caseKind code = 1 then
    { s with pkg := { s.pkg with failed := s.pkg.failed.filter (· ≠ caseDieOf code), healthy := setBit s.pkg.healthy (caseDieOf code) true } }
  else if caseKind code = 2 then
    { s with pkg := { s.pkg with regionFaults := s.pkg.regionFaults.filter (· ≠ 2 * caseDieOf code + caseInst code) } }
  else s

/-- R96: the shadow plan built ahead of all others is complete and is activated.  A case that no shedding cures holds no plan: it stays
UNCOVERED, and the running plan goes on. -/
def urgentBuilt (code : Nat) (s : State) : State :=
  match s.plan.urgent.find? (fun e => e.1 == code) with
  | none => s
  | some (c, first) =>
    let b := s.beforeFault c
    let o := examineCase b b.plan.active.contracts b.plan.active.place c
    let rest := s.plan.urgent.filter (fun e => e.1 != c)
    let cases := fun (x : CaseSt) => if s.plan.cases.any (fun q => q.code == c) then s.plan.cases.map (fun q => if q.code = c then x else q)
      else x :: s.plan.cases
    match o.plan with
    | some p =>
      { s with plan := { s.plan with
        urgent := rest, active := { s.plan.active with cases := p :: s.plan.active.cases.filter (fun q => q.code != c) },
        cases := cases { o.st with state := if 0 < o.st.strictShed then 3 else 2 } } }.activate c first
    | none => ({ s with plan := { s.plan with urgent := rest, cases := cases { o.st with state := 3 } } }).refreshCases

def execUrgentShadowPlanBuilt (t : Nat) (code : Nat) (s : State) : Host.Outcome State Fault Refusal :=
  .next (urgentBuilt code (s.begin t))

end Sys2Proof.Machine
end

