-- ==== Sys2Proof/Machine/Admission.lean ====
section
/-! DEFINITION. Admission as a whole: the base it is made against, window offsets, fault cases, the verdict, and what an accepted
verdict leaves (R33, R59 to R64, R71, R74, R75, R77, R79, R90 to R92, R97, R99, R420, R434). -/
namespace Sys2Proof.Machine

open Sys2Proof

/-! ### Base and contracts of an admission (R59, R63, R79, R97) -/

/-- The plan a commit is admitted against: the last accepted one that waits, else the running one (R63). -/
def State.basis (s : State) : Plan := s.plan.pending.getLast?.getD s.plan.active

/-- The committed objects once every waiting plan has switched. -/
def State.basisDict (s : State) : Dict := s.plan.pending.foldl (fun d p => d.excess p.dict) s.dict

/-- The staged slots a commit admits: without those whose content a waiting plan has already taken. -/
def State.newSlots (s : State) (n : Snapshot) : SMap (Option Bytes) :=
  n.slots.filter (fun e => !s.plan.pending.any (fun p => look p.taken e.1 == some e.2 && !p.since.contains e.1))

/-- Contracts after staged changes and deletes. -/
def applySlots (cs : SMap Bytes) (l : SMap (Option Bytes)) : SMap Bytes :=
  l.foldl (fun m e => match e.2 with | some r => ins m e.1 r | none => del m e.1) cs

/-- The slots in SHED that no staged content replaces (R58, R97). -/
def State.shedSlots (s : State) (taken : SMap (Option Bytes)) : SMap Bytes :=
  (s.dict.objs.filterMap (fun e =>
    if decide (0x300003 ≤ e.1) && decide (e.1 ≤ 0x4FFF03) && e.1 % 256 == 3 && e.2 == ((slSHED : Nat) : Int) then
      let slot := e.1 / 256 - 0x3000
      if (look taken slot).isSome || (look s.basis.contracts slot).isSome || s.plan.pending.any (fun p => p.shedOut.contains slot) then none
      else some (slot, s.blob (activeKey slot))
    else none))

/-- The state that an admission's checks read: the objects it leaves in force, and its contracts and placement. -/
def State.withPlan (s : State) (d : Dict) (cs : SMap Bytes) (p : Placement) : State := ({ s with dict := d }).withPlace cs p

/-- An admission before its checks: contracts, the slots it marks BROKEN (R79), the SHED slots that may join (R97), the staged content it
takes. -/
structure AdmScope where
  adm : Adm
  broken : List Nat
  shed : SMap Bytes
  taken : SMap (Option Bytes)

/-- R97: is a SHED slot clean in step 1, with endpoints in service? -/
def shedClean (a : Adm) (cs : SMap Bytes) (slot : Nat) (r : Bytes) : Bool :=
  a.st.epUp (Contract.ingress r) && (Contract.egress r).any a.st.epUp && (({ a with contracts := ins cs slot r } : Adm).slotFault slot r).isNone

/-- What a commit admits: `snap` none for a migration or a re-admission of the committed contracts. -/
def State.scope (s : State) (snap : Option Snapshot) : AdmScope :=
  let d := s.basisDict
  let taken := match snap with | some n => s.newSlots n | none => []
  let after := match snap with | some n => d.excess n.dict | none => d
  let cs := applySlots s.basis.contracts taken
  let role := match snap with | some n => n.role | none => .vendor
  let force := match snap with | some n => n.cmd == 4 | none => false
  let none_ : Placement := ⟨[], []⟩
  let a : Adm := ⟨s.withPlan after cs none_, s.withPlan d s.basis.contracts none_, cs, role, force⟩
  let broken := if force then (cs.filter (fun e => a.dependant e.1 e.2)).map (·.1) else []
  let keep := cs.filter (fun e => !broken.contains e.1)
  ⟨{ a with st := s.withPlan after keep none_, contracts := keep }, broken, if snap.isSome then s.shedSlots taken else [], taken⟩

/-! ### The verdict -/

/-- An admission's result: its verdict, and for an accepted one the plan. -/
structure Result where
  verdict : Verdict
  plan : Plan

/-- The next generation number (R64). -/
def nextGen (g : Nat) : Nat := if g = 2 ^ 32 - 1 then 1 else g + 1

/-- Least tick from `n` that is a multiple of every cycle. -/
def alignTick (n : Nat) (cycles : List Nat) : Nat :=
  let l := cycles.foldl (fun a c => Nat.lcm a (max 1 c)) 1
  ceilDiv n (max 1 l) * l

/-- The gate cycles of the lanes whose lists change: the new one, or the old one where the list ends (R33). -/
def changedCycles (s : State) (old new : SMap LanePlan) : List Nat :=
  (List.range s.laneCount).filterMap (fun n =>
    let a := get {} old n
    let b := get {} new n
    if a.list = b.list ∧ a.cycle = b.cycle then none else some (if b.list.isEmpty then a.cycle else b.cycle))

/-- Does a zone move to another instance? -/
def zoneMoves (old new : Placement) : Bool :=
  new.homes.any (fun e => decide (e.1 / 65536 = 0) && (look old.homes e.1).any (fun d => d != e.2))

/-- The switch tick (R33, R63, R434). -/
def State.chooseTick (s : State) (old new : Placement) (lanes : SMap LanePlan) : Nat :=
  let lead := if s.update.readmit = true ∧ s.update.warm = true ∧ s.commitStatus ≠ csRUNNING then 800 else if zoneMoves old new then 10 else 8
  let after := match s.plan.pending.getLast? with | some p => max (s.tickNo + lead) (p.switchTick + 1) | none => s.tickNo + lead
  alignTick after (changedCycles s s.basis.lanes lanes)

/-- What a migration leaves in place: every contract but the Audio and Signal ones (R99). -/
def staysPut (r : Bytes) : Bool := Contract.cls r != 2 && Contract.cls r != 3

/-- The plan an admission starts from, and the items it places: nothing, and all of them; for a migration what stays put, and the rest
(R84, R85, R99). -/
def Trial.begin (t : Trial) (run : Placement) (cs : SMap Bytes) (migrate : Bool) : Trial × List PlaceItem :=
  if migrate then
    let fixed := cs.filter (fun e => staysPut e.2)
    ({ t with st := t.st.withPlace fixed ⟨run.slots.filter (fun p => (look fixed p.slot).isSome), []⟩ },
     t.st.placeItems (cs.filter (fun e => !staysPut e.2)))
  else (t.bare, t.st.placeItems cs)

/-- The state that a plan leaves in force, for examining its fault cases. -/
def Trial.inForce (t : Trial) : State :=
  { t.st with plan := { t.st.plan with active := { t.st.plan.active with lanes := lanePlans t.st t.view } } }

/-- The fault cases of a plan under test. -/
def Trial.cases (t : Trial) : List CaseOutcome := examineCases t.inForce t.contracts t.st.plan.active.place

/-- Admission (R65): the checks in order, and the plan of one that passes.  `migrate` moves only what R99 lets a migration move. -/
def State.admission (s : State) (snap : Option Snapshot) (migrate : Bool) : Result :=
  let base := s.basis
  let sc := s.scope snap
  let cs := sc.adm.contracts
  match sc.adm.step1 with
  | some v => ⟨v, {}⟩
  | none =>
    let z := ({ sc.adm.st.trial with all := cs, before := some base.place } : Trial).begin base.place cs migrate
    match z.1.build z.2 with
    | .inl e => ⟨e.2, {}⟩
    | .inr t =>
      match caseRefusal t.cases with
      | some v => ⟨v, {}⟩
      | none =>
        let j := t.joinShed (fun t k r => shedClean sc.adm t.contracts k r) (fun t => (caseRefusal t.cases).isNone) sc.shed
        let t := j.1
        let st := t.st
        let lanes := lanePlans st t.view
        ⟨accepted,
         { gen := nextGen base.gen, switchTick := s.chooseTick base.place st.plan.active.place lanes, contracts := t.contracts,
           bounds := planBounds st t.view, place := st.plan.active.place, lanes := lanes,
           dict := match snap with | some n => n.dict | none => {}, taken := sc.taken,
           since := match snap with | some n => n.since | none => [], deleted := match snap with | some n => n.deleted | none => [],
           shedOut := j.2, inService := match snap with | some n => n.inService | none => s.lanesInService,
           snapAt := match snap with | some n => n.snapAt | none => s.now,
           reduced := !s.plan.faults.isEmpty, broken := sc.broken, migration := snap.isNone, cases := t.cases.filterMap CaseOutcome.plan,
           caseSts := t.cases.map CaseOutcome.st }⟩

/-- The verdict objects of R60. -/
def State.writeVerdict (s : State) (v : Verdict) (gen tick broken : Nat) (id : Nat) : State :=
  let s := ((((s.setN O.verdict v.code).setN O.violatingSlot v.slot).setN O.violatingContractID id).setN O.violatedResource v.res)
  let s := ((s.setO O.margin (clampI (-2147483648) 2147483647 v.margin)).setN O.marginUnit v.unit).setN O.faultCase v.fcase
  let s := (((s.setN O.innerVerdict v.inner).setN O.newGeneration gen).setN O.switchTick tick).setN O.brokenByCommit broken
  s.setN O.firstFaultyRecord v.record

/-- The contract ID that a verdict names: that of the slot's staged record, else of its committed one. -/
def State.verdictId (s : State) (snap : Option Snapshot) (v : Verdict) : Nat :=
  if v.slot = noSlot then 0
  else
    match snap.bind (fun n => look n.slots v.slot) with
    | some (some r) => Contract.id r
    | _ => ((look s.basis.contracts v.slot).map Contract.id).getD (fld (s.blob (activeKey v.slot)) 0 4)

/-- An accepted plan joins those that wait. -/
def State.addPending (s : State) (p : Plan) : State := { s with plan := { s.plan with pending := s.plan.pending ++ [p] } }

/-- R61, R64, R75: the verdict of the running commit. -/
def State.commitVerdict (s : State) (n : Snapshot) : State :=
  let res := s.admission (some n) false
  let v := res.verdict
  let ok := v.code == vdACCEPTED
  let go := ok && n.cmd != 3
  let gen := if go then res.plan.gen else 0
  let s := s.writeVerdict v gen (if go then res.plan.switchTick else 0) (if go then res.plan.broken.length + res.plan.shedOut.length else 0) (s.verdictId (some n) v)
  let s := s.setN O.commitStatus (if n.cmd = 3 then csCHECKED else if ok then csSWITCHPENDING else csREFUSED)
  let s := { s with plan := { s.plan with snapshot := none } }
  let s := if go then (s.addPending res.plan).stageUp s { s with dict := s.dict.excess res.plan.dict } (some s.now) else s
  s.logLead Ev.commitVerdict 0xFFFF [(1, v.code), (2, v.slot), (4, gen)]

/-- R420, R434, R436: a re-admission of the committed contracts, at a start or by the image that an activation or a fallback has
started. -/
def State.readmission (s : State) : State :=
  let res := s.admission none false
  let v := res.verdict
  let warm := s.update.warm
  let s := s.writeVerdict v 0 0 0 (s.verdictId none v)
  let ended := fun (s : State) (bad : Bool) => { s with update := { s.update with readmit := false, readmitFailed := bad } }
  if v.code ≠ vdACCEPTED then (ended s true).logLead Ev.commitVerdict 0xFFFF [(1, v.code), (2, v.slot), (4, 0)]
  else
    let same := planHashOf s res.plan.contracts res.plan.place == s.blob O.planHash
    let sameCode := s.microcode s.update.running == s.update.oldMicrocode
    if warm = true ∧ same = true ∧ sameCode = true ∧ s.pkg.planOk = true then (ended s false).logLead Ev.commitVerdict 0xFFFF [(1, v.code), (2, v.slot), (4, 0)]
    else
      let p := { res.plan with migration := false }
      let s := s.writeVerdict v p.gen p.switchTick 0 0
      let s := if warm = true ∧ sameCode = false then s.setN O.datapathPauseTick p.switchTick else s
      ((ended s false).addPending p).logLead Ev.commitVerdict 0xFFFF [(1, v.code), (2, v.slot), (4, p.gen)]

/-- COMMIT_VERDICT: the running commit's, else the running re-admission's. -/
def admissionEnds (s : State) : State :=
  if s.commitStatus = csRUNNING then
    match s.plan.snapshot with
    | some n => s.commitVerdict n
    | none => s
  else if s.update.readmit then s.readmission
  else s

def execCommitVerdict (t : Nat) (s : State) : Host.Outcome State Fault Refusal :=
  .next (admissionEnds (s.begin t))

/-- R99: the migration's admission ends. -/
def migrationEnds (s : State) : State :=
  if s.n O.migrationStatus ≠ msRUNNING then s
  else
    let res := s.admission none true
    let s := s.setN O.migrationVerdict res.verdict.code
    if res.verdict.code = vdACCEPTED then
      ((((s.setN O.migrationStatus msSWITCHPENDING).setN O.migrationGeneration res.plan.gen).addPending res.plan).logLead
        Ev.migrationEnded 0xFFFF [(1, msSWITCHPENDING), (4, res.plan.gen)])
    else (s.setN O.migrationStatus msREFUSED).logLead Ev.migrationEnded 0xFFFF [(1, msREFUSED), (4, 0)]

def execMigrationEnded (t : Nat) (s : State) : Host.Outcome State Fault Refusal :=
  .next (migrationEnds (s.begin t))

end Sys2Proof.Machine
end

