-- ==== Sys2Proof/Machine/Flags.lean ====
section
/-! DEFINITION. The status words that are computed at each read: *package status* (R462), *error register* (R459),
*calibration status* (R414) and *this session* (R418). -/
namespace Sys2Proof.Machine

open Sys2Proof

/-- Has one clamped quantity its sum outside its range (R414)? -/
def outside (lo hi v : Int) : Bool := decide (v < lo) || decide (hi < v)

/-- Is any calibrated value clamped (R414, R415)? -/
def State.clamped (s : State) : Bool :=
  (List.range s.laneCount).any (fun n =>
    let f := (s.factoryVal (bySub O.factoryTransmitEqualisation n) 0x3000).toNat
    let u := s.n (bySub O.userTransmitEqualisation n)
    let mode := s.n (laneKey O.laneMode n)
    outside 0 15 ((bits f 16 8 : Nat) + signed 8 (bits u 16 8)) || outside 0 63 ((bits f 8 8 : Nat) + signed 8 (bits u 8 8)) ||
    outside 0 31 ((bits f 0 8 : Nat) + signed 8 (bits u 0 8)) ||
    outside 0 2000000 (s.factoryVal (bySub O.factoryReceiveLatency mode) 0 + s.o (bySub O.userReceiveLatency n)) ||
    outside 0 2000000 (s.factoryVal (bySub O.factoryTransmitLatency mode) 0 + s.o (bySub O.userTransmitLatency n)) ||
    outside (-100) 100 (s.factoryVal (bySub O.factoryTemperatureOffset n) 0 + s.o (bySub O.userTemperatureOffset n))) ||
  outside (-100000) 100000 (s.factoryVal O.factoryOscillatorTrim 0 + s.o O.userOscillatorTrim) ||
  (List.range (4 * s.variant)).any (fun k =>
    let nom : Nat := [750, 850, 900, 1800].getD (k % 4) 0
    let f := (s.factoryVal (bySub O.factoryVoltageThresholds k) ((nom * 9 / 10 * 65536 + nom * 11 / 10 : Nat) : Int)).toNat
    let u := s.n (bySub O.userVoltageThresholds k)
    let l := s.voltLimits k
    decide (((bits f 16 16 : Nat) : Int) + signed 16 (bits u 16 16) ≠ l.1) ||
    decide (((bits f 0 16 : Nat) : Int) + signed 16 (bits u 0 16) ≠ l.2) ||
    outside (-200) 200 (s.factoryVal (bySub O.factoryTDMGainTrim k) 0 + s.o (bySub O.userTDMGainTrim k)))

/-- *calibration status*: FACTORY_INVALID and CLAMPED. -/
def State.calStatus (s : State) : Nat := b2n s.factoryInvalid + 2 * b2n s.clamped

/-- Has the package no standby that holds a complete mirror (R23, R462)? -/
def State.noStandby (s : State) : Bool := s.pkg.standby == 0xFF || !s.pkg.mirrored

/-- *package status* (R462). -/
def State.packageStatus (s : State) : Nat :=
  b2n s.noStandby + 2 * b2n s.pkg.addressConflict + 4 * b2n s.pkg.anchorLost + 8 * b2n (s.n O.faultStatus == 0) +
  16 * b2n (s.n O.faultPlanInForce != 0) + 32 * b2n (s.upDies.any (bit s.pkg.quarantine)) +
  64 * b2n (s.n O.tamperState != 0) + 128 * b2n (s.instFlag 0 isUNTRACEABLE) + 256 * b2n s.update.trialSince.isSome +
  512 * b2n (s.flag O.throttleState 3)

/-- Is the node's controller in trouble, or a heartbeat consumer lost (R459)? -/
def State.nodeTrouble (s : State) : Bool :=
  s.edge.node.hbLost ||
  (match s.nodeUnit with
   | some u => s.flag (byIdx O.canStatus u) 0 || s.flag (byIdx O.canStatus u) 1
   | none => false)

/-- *error register* (R459). -/
def State.errorRegister (s : State) : Nat :=
  let p := s.packageStatus
  let other := 128 * b2n (bit p 4 || bit p 0 || bit p 2 || bit p 6) + 16 * b2n s.nodeTrouble +
    8 * b2n (s.dies.any (fun d => bits (s.n (bySub O.monitorFlags d)) 8 2 != 0)) +
    4 * b2n (s.dies.any (fun d => bits (s.n (bySub O.monitorFlags d)) 0 8 != 0))
  other + b2n (other != 0)

/-- The code of an access path in *this session*. -/
def Path.code : Path → Nat
  | .lane => 0 | .svcEthernet => 1 | .svcUart => 2 | .mailbox => 3 | .canopen => 4

/-- *this session* (R418). -/
def Session.word (x : Session) (n : Nat) : Nat :=
  n % 32 * 256 + x.role.code * 32 + 16 * b2n x.secure + 8 * b2n x.forwarded + Path.code x.path

/-- *sessions open*: this device's own client sessions (R403). -/
def State.sessionsOpen (s : State) : Nat := (s.access.sessions.filter (fun e => decide (e.1 < 32) && !e.2.forwarded)).length

/-- "major.minor.build" of a version word (R421): [31:24] major, [23:16] minor, [15:0] build. -/
def versionString (v : Nat) : Bytes :=
  let dec := fun (n : Nat) => (Nat.toDigits 10 n).map (fun c => BitVec.ofNat 8 c.toNat)
  (dec (bits v 24 8) ++ [0x2E] ++ dec (bits v 16 8) ++ [0x2E] ++ dec (bits v 0 16)).take 16

/-- The version of the running image (offset 0x08 of R421). -/
def State.runningVersion (s : State) : Nat := fld (s.image s.pkg.lead s.update.running) 8 4

/-- ms since the end of step 7 of the last cold start. -/
def State.sinceStart (s : State) : Nat := (s.now - s.update.startAt) / 1000000

end Sys2Proof.Machine
end

