-- ==== Sys2Proof/Machine/Readback.lean ====
section
/-! DEFINITION. What a read returns: records computed from the state at each read, the windows of R456, and the layers of an
object (R410, R411, R444). -/
namespace Sys2Proof.Machine

open Sys2Proof

/-! ### Forwarding tables (R132, R134, R147) -/

/-- The database entry at a position: bucket by bucket, four a bucket, ascending keys within one. -/
def State.fdbAt (s : State) (i : Nat) : Option (Nat × FdbEntry) :=
  ((s.fdbOf s.pkg.lead).filter (fun e => Config.fdbBucket e.1 % 3072 == i / 4))[i % 4]?

/-- A database record (R132). -/
def State.fdbRecord (s : State) (i : Nat) : Bytes :=
  match s.fdbAt i with
  | none => fill 24 0
  | some (k, e) =>
    beBytes 6 (k / 4096) ++ leBytes 2 (k % 4096) ++ leBytes 2 (if e.laneSet.isSome then 0xFFFF else e.endpoint) ++
      leBytes 1 (b2n e.static + 2 * b2n e.laneSet.isSome) ++ leBytes 1 e.die ++
      leBytes 4 (if e.static then 0 else satN (2 ^ 32 - 1) ((s.now - e.refreshed) / s.period)) ++ leBytes 8 (e.laneSet.getD 0)

/-- A table record (R147). -/
def State.tableRecord (s : State) (d e : Nat) : Bytes :=
  let bank := if 14336 ≤ e then (e - 14336) / 1024 else e / 7168
  match (s.table d).at e with
  | none => leBytes 2 e ++ leBytes 1 bank ++ fill 141 0
  | some t =>
    leBytes 2 e ++ leBytes 1 bank ++ leBytes 1 t.kind ++ leBytes 1 t.range ++ [0] ++ leBytes 2 t.owner ++ leBytes 2 t.low ++
      leBytes 2 t.high ++ fill 4 0 ++ t.key ++ t.mask

/-! ### Scheduling tables (R179 to R181) -/

/-- The meters of a die: contracts' meters, then passes' meters. -/
def State.metersOf (s : State) (d : Nat) : List (Nat × MeterSt) :=
  (s.fwd.meters.foldl (fun m e => ins m e.1 e.2) (if s.pkg.planOk then s.planMeters else [])).filterMap (fun e => if e.1 / 65536 = d then some (e.1 % 65536, e.2) else none)

/-- A meter record (R180). -/
def State.meterRecord (s : State) (d i : Nat) : Bytes :=
  match (s.metersOf d)[i]? with
  | none => fill 0x12 0 ++ leBytes 2 0xFFFF ++ fill 36 0
  | some (owner, m) =>
    let m := m.accrue s.now
    leBytes 4 m.cr ++ leBytes 4 m.cb ++ leBytes 4 m.sr ++ leBytes 4 m.sb ++ leBytes 1 m.mode ++ leBytes 1 m.actions ++
      leBytes 2 owner ++ leBytes 4 (m.ct / tokenUnit) ++ leBytes 4 (m.st / tokenUnit) ++ fill 4 0 ++ leBytes 8 m.green ++
      leBytes 8 m.yellow ++ leBytes 8 m.red

/-- The shapers of a die, by egress lane and slot (R181). -/
def State.shapersOf (s : State) (d : Nat) : List ShaperSt :=
  s.fwd.shapers.filterMap (fun e => if e.2.lane / 8 = d then some e.2 else none)

/-- A shaper record (R181). -/
def State.shaperRecord (s : State) (d i : Nat) : Bytes :=
  match (s.shapersOf d)[i]? with
  | none => fill 0x18 0 ++ leBytes 2 0xFFFF ++ [0xFF, 0xFF] ++ fill 4 0
  | some x =>
    let x := x.accrue s.now
    leBytes 4 x.cr ++ leBytes 4 x.cb ++ leBytes 4 x.pr ++ leBytes 4 x.pb ++ leBytes 4 (unsignedOf 32 (x.cc / 8000000)) ++
      leBytes 4 (unsignedOf 32 (x.pc / 8000000)) ++ leBytes 2 x.slot ++ leBytes 1 x.lane ++ leBytes 1 x.tc ++ leBytes 4 x.fifo.length

/-! ### Firewall sessions (R198, R205) -/

/-- The sessions homed on a die, in table order. -/
def State.connsOn (s : State) (d : Nat) : List Conn := s.fw.conns.filter (fun c => c.home == d)

/-- An address field of R205. -/
def connAddr (v6 : Bool) (a : Nat) : Bytes := if v6 then beBytes 16 a else fill 12 0 ++ beBytes 4 a

/-- A session record (R205). -/
def State.sessionRecord (s : State) (d i : Nat) : Bytes :=
  match (s.connsOn d)[i]? with
  | none => fill 64 0
  | some c =>
    leBytes 2 c.pass ++ leBytes 1 c.anchor ++ leBytes 1 c.state ++ leBytes 1 c.proto ++ leBytes 1 (b2n c.v6) ++ leBytes 2 c.rule ++
      connAddr c.v6 c.src ++ connAddr c.v6 c.dst ++ leBytes 2 c.sport ++ leBytes 2 c.dport ++
      leBytes 4 (satN (2 ^ 32 - 1) ((s.now - c.last) / 1000000)) ++ leBytes 8 c.frames ++ fill 8 0

/-- R198: do the session limits of the items homed on a die exceed its table? -/
def State.oversubscribed (s : State) (d : Nat) : Bool :=
  decide (4096 < (s.plan.active.place.homes.filter (fun e => e.1 / 65536 == 3 && e.2 == d)).foldl
    (fun n e => n + passLimit (s.passRec (e.1 % 65536 / 8))) 0)

/-! ### Plan records (R101 to R104) -/

/-- The view that a selector names: 0 the running plan, else a case whose plan is built; none: NOT_BUILT, or no plan. -/
def State.planView (s : State) (v : Nat) : Option (Placement × Option CasePlan) :=
  if v = 0 then some (s.plan.active.place, none)
  else if s.plan.cases.any (fun c => c.code == v && decide (1 ≤ c.state)) then
    (s.plan.active.cases.find? (fun p => p.code == v)).map (fun p => (p.place, some p))
  else none

/-- A placement record of a view. -/
def State.placementAt (s : State) (v slot : Nat) : Bytes :=
  match s.planView v with
  | none => []
  | some (pl, p?) =>
    let r := (s.contract slot).getD (s.blob (activeKey slot))
    match p? with
    | none =>
      let lost := s.slotState slot == 6 && s.plan.faults.any (fun c => s.endpointLost c r)
      placementRecord s ⟨s.plan.active.contracts, pl⟩ slot (s.slotState slot) (32 * b2n lost) r
    | some p =>
      let lost := (s.contract slot).isSome && s.endpointLost p.code r
      let out := lost || p.shed.contains slot
      let cs := s.plan.active.contracts.filter (fun e => !p.shed.contains e.1 && !s.endpointLost p.code e.2)
      let view : PlanView := ⟨cs, { pl with slots := pl.slots.filter (fun q => (look cs q.slot).isSome) }⟩
      let differs := (s.contract slot).isSome && decide (view.at slot ≠ s.view.at slot)
      placementRecord s view slot (if out then 6 else s.slotState slot) (32 * b2n lost + 128 * b2n differs) r

/-- A fault-case record (R103). -/
def caseRecord (c : CaseSt) : Bytes :=
  leBytes 4 c.code ++ leBytes 1 c.state ++ [0] ++ leBytes 2 c.shed ++ leBytes 2 c.endpointLost ++ leBytes 2 c.strictShed ++
    leBytes 4 (unsignedOf 32 c.margin)

/-- How many items a kind numbers on a package (R104): sessions end with the last pass on the last die, channels with the last die's. -/
def State.itemLimit (s : State) : Nat → Nat
  | 0 => 256
  | 1 => 32768
  | 2 => 64
  | 3 => 32760 + s.variant
  | _ => 64 * s.variant

/-- An item record of a view (R104). -/
def State.itemAt (s : State) (v kind i : Nat) : Bytes :=
  match s.planView v with
  | none => []
  | some (pl, _) =>
    match (itemsOf s pl kind).find? (fun x => x.1 == i) with
    | none => itemRecord kind (i, 0xFF, 0) false
    | some x =>
      let gone := if v = 0 then x.2.1 != 0xFF && (!s.dieUp x.2.1 || s.pkg.regionFaults.any (fun r => itemLost (caseRegion r) kind x.2.1))
        else itemLost v kind x.2.1
      itemRecord kind x gone

/-! ### Event log (R439 to R441) -/

/-- A log area of a die. -/
def State.logArea (s : State) (d area : Nat) : List EventRec := if area = 0 then (s.log d).general else (s.log d).history

/-- R441: the records from a sequence number on; one before the oldest starts there. -/
def logFrom (l : List EventRec) (first : Nat) : List EventRec :=
  match l with
  | [] => []
  | o :: _ =>
    let dist := fun (q : Nat) => (q + 2 ^ 32 - o.seq) % 2 ^ 32
    if 2 ^ 31 ≤ dist first then l else l.filter (fun e => decide (dist first ≤ dist e.seq))

/-- R366: passes over the general ring of a die. -/
def State.logPasses (s : State) (d : Nat) : Nat := (get 0 (s.log d).overwritten 0 + (s.log d).general.length) / 27648

/-! ### Which instance of an object a session reaches -/

/-- The key of an object: objects behind *admin lane*, *zone* and *clip select* have one instance each (R178, R249, R250). -/
def objKey (x : Session) (idx sub : Nat) : Nat :=
  let m := mux idx sub
  if idx = 0x2550 ∧ 2 ≤ sub then at_ m (x.sel O.adminLane)
  else if idx = 0x2A10 ∧ 2 ≤ sub then at_ m (x.sel O.zone)
  else if idx = 0x2A70 ∧ 2 ≤ sub ∧ sub ≤ 4 then at_ m (x.sel O.clipSelect)
  else m

/-- The die or lane that a window's extra selector names must exist. -/
def State.selectedOk (s : State) (x : Session) (idx sub : Nat) : Status :=
  let die := fun (m : Nat) (up : Bool) =>
    if !s.hasDie (x.sel m) then Status.noObject else if up && !s.dieUp (x.sel m) then Status.deviceState else Status.ok
  if idx = 0x2440 ∧ 4 ≤ sub then die O.tableDie true
  else if idx = 0x2540 ∧ 4 ≤ sub then if s.hasLane (x.sel O.listLane) then .ok else .noObject
  else if idx = 0x2550 ∧ 2 ≤ sub then if s.hasLane (x.sel O.adminLane) then .ok else .noObject
  else if idx = 0x2560 ∧ 4 ≤ sub then die O.meterDie true
  else if idx = 0x2570 ∧ 4 ≤ sub then die O.shaperDie true
  else if idx = 0x2660 ∧ 4 ≤ sub then die O.sessionDie true
  else if idx = 0x2858 ∧ 4 ≤ sub then die O.portDie true
  else if idx = 0x2E00 ∧ 5 ≤ sub then die O.logDie true
  else if idx = 0x5100 ∧ sub = 4 then if (s.planView (x.sel O.view)).isSome then .ok else .deviceState
  else if idx = 0x5102 ∧ sub = 5 then if (s.planView (x.sel O.itemView)).isSome then .ok else .deviceState
  else .ok

/-- One past the last item that a window of records reaches (R101, R457). -/
def State.winLimit (s : State) (x : Session) (m : Nat) : Nat :=
  if m = O.fdbRecords then 12288
  else if m = O.tableRecords then 16384
  else if m = O.vlanRecords then 4095
  else if m = O.faultCaseRecords then s.plan.cases.length
  else if m = O.itemRecords then s.itemLimit (x.sel O.itemKind)
  else if m = O.gateEntries then (s.listOf (x.sel O.listLane)).length
  else if m = O.shaperRecords then 2048
  else if m = O.passRecords ∨ m = O.ruleRecords ∨ m = O.passCounters ∨ m = O.sessionRecords ∨ m = O.portData then 4096
  else if m = O.outputRecords ∨ m = O.outputStatus ∨ m = O.channelRecords ∨ m = O.saStatus then 64 * s.variant
  else if m = O.inputRecords ∨ m = O.inputStatus then 128 * s.variant
  else if m = O.cairnSlotRecords then 1024
  else if m = O.mappingRecords ∨ m = O.mappingStatus then 32768
  else if m = O.jobClassRecords then 64
  else if m = O.railRecords then 16
  else 8192

/-- The item key of a stored record: rules lie behind *rule pass*. -/
def winKey (x : Session) (m i : Nat) : Nat :=
  if m = O.ruleRecords then ruleKey (x.sel O.rulePass) i else at_ m i

/-- One record of a window. -/
def State.winRecord (s : State) (x : Session) (inForce : Bool) (m i : Nat) : Bytes :=
  if m = O.placementRecords then s.placementAt (x.sel O.view) i
  else if m = O.faultCaseRecords then ((s.plan.cases[i]?).map caseRecord).getD []
  else if m = O.itemRecords then s.itemAt (x.sel O.itemView) (x.sel O.itemKind) i
  else if m = O.fdbRecords then s.fdbRecord i
  else if m = O.tableRecords then s.tableRecord (x.sel O.tableDie) i
  else if m = O.gateEntries then gateBytes (((s.listOf (x.sel O.listLane))[i]?).toList)
  else if m = O.meterRecords then s.meterRecord (x.sel O.meterDie) i
  else if m = O.shaperRecords then s.shaperRecord (x.sel O.shaperDie) i
  else if m = O.sessionRecords then s.sessionRecord (x.sel O.sessionDie) i
  else if m = O.outputStatus then s.outputStatus i
  else if m = O.inputStatus then s.inputStatus i
  else if m = O.portData then s.portWindow (x.sel O.portDie) i 1
  else if m = O.messageStatus then s.messageStatus i
  else if m = O.mappingStatus then s.mappingStatus i
  else if m = O.cairnSlotRecords then s.slotShown i
  else if m = O.saStatus then s.saRecords i
  else if m = O.railRecords then (if inForce then s else { s with dict := s.dict.excess s.staged }).railShown i
  else if inForce then s.blob (winKey x m i)
  else s.stagedBlob (winKey x m i)

/-- A window's bytes: the whole records that exist (R456). -/
def State.winRead (s : State) (x : Session) (inForce : Bool) (m first count : Nat) : Bytes :=
  if m = O.eventRecords then
    ((logFrom (s.logArea (x.sel O.logDie) (x.sel O.logArea)) (x.sel O.firstRecord)).take (x.sel count)).flatMap EventRec.bytes
  else
    (List.range (min (x.sel count) (s.winLimit x m - x.sel first))).flatMap (fun i => s.winRecord x inForce m (x.sel first + i))

/-! ### Objects derived at each read -/

/-- Those of chapters 17 to 20. -/
def State.derivedAccess (s : State) (sess : Nat) (x : Session) (m : Nat) : Option Val :=
  let num := fun (n : Nat) => some (Val.num ((n : Nat) : Int))
  let l := s.logArea (x.sel O.logDie) (x.sel O.logArea)
  if m = O.errorRegister then num s.errorRegister
  else if m = O.softwareVersion then some (.bytes (versionString s.runningVersion))
  else if m = O.revisionNumber ∨ m = O.runningImageVersion then num s.runningVersion
  else if m = O.healthyDies then num (maskOf s.upDies)
  else if m = O.leadDie then num s.pkg.lead
  else if m = O.standbyDie then num s.pkg.standby
  else if m = O.packageStatus then num s.packageStatus
  else if m = O.timeSinceStart then num s.sinceStart
  else if m = O.sessionsOpen then num s.sessionsOpen
  else if m = O.thisSession then num (x.word sess)
  else if m = O.calibrationStatus then num s.calStatus
  else if m = O.oldestRecord then num ((l.head?.map (·.seq)).getD 0)
  else if m = O.newestRecord then num ((l.getLast?.map (·.seq)).getD 0)
  else if m = O.recordsOverwritten then num (get 0 (s.log (x.sel O.logDie)).overwritten (x.sel O.logArea))
  else if m = O.recordsDropped then num (s.log (x.sel O.logDie)).dropped
  else if m = O.attestationStatement then some (.bytes x.statement)
  else if m = O.spewardJobResult then some (.bytes x.jobResult)
  else if m = O.ownVetoReasons then num s.vetoReasons
  else if m = O.planPower then
    num (s.trial.packagePower s.plan.active.contracts)
  else none

/-- Those of arrays and of the other chapters: the array's first element, the element's number. -/
def State.derivedArray (s : State) (x : Session) (idx sub : Nat) : Option Val :=
  let m := mux idx sub
  let num := fun (n : Nat) => some (Val.num ((n : Nat) : Int))
  let n := sub - 1
  if 0x3000 ≤ idx ∧ idx ≤ 0x4FFF ∧ sub = 6 then
    match s.contract (idx - 0x3000) with
    | some r => num (if Contract.cls r = 5 then 0xFFFFFFFF else get 0 s.plan.active.bounds (idx - 0x3000))
    | none => num 0xFFFFFFFF
  else if 0x3000 ≤ idx ∧ idx ≤ 0x4FFF ∧ sub = 7 then
    match s.contract (idx - 0x3000) with
    | some r => some (.num (if Contract.cls r = 5 then 0 else
        clampI (-2147483648) 2147483647 ((Contract.deadline r : Int) - (get 0 s.plan.active.bounds (idx - 0x3000) : Nat))))
    | none => num 0
  else if 1 ≤ sub ∧ idx = 0x2511 then some (.num (s.overhead n))
  else if 1 ≤ sub ∧ idx = 0x2121 then some (.num (s.rxLatency n))
  else if 1 ≤ sub ∧ idx = 0x2122 then some (.num (s.txLatency n))
  else if 1 ≤ sub ∧ idx = 0x2A02 then num (s.mixerCost n)
  else if 1 ≤ sub ∧ idx = 0x2901 then num (heaviest (s.jobs s.plan.active.contracts s.plan.active.contracts n 1)).1
  else if 1 ≤ sub ∧ idx = 0x2902 then
    num (((s.mappings.filter (fun k => s.cellHome k == some (n / 2, n % 2))).length) +
      (s.messages.filter (fun m =>
        let r := s.message m
        gmKind r == 3 && gmOut r && bits (gmUnit r) 4 3 != 3 && bits (gmUnit r) 8 3 == n / 2 && edgeCluster (gmUnit r) == n % 2)).foldl
        (fun a m => a + 1 + ceilDiv (gmLen (s.message m)) 16) 0)
  else if 1 ≤ sub ∧ idx = 0x2C34 then num (s.domains n)
  else if 1 ≤ sub ∧ idx = 0x2E59 then num (s.logPasses n)
  else if 1 ≤ sub ∧ idx = 0x2F10 then some (.num (s.factoryVal m 0x3000))
  else if 1 ≤ sub ∧ 0x2F11 ≤ idx ∧ idx ≤ 0x2F15 then some (.num (s.factoryVal m 0))
  else if 1 ≤ sub ∧ idx = 0x2F16 then
    let nom : Nat := [750, 850, 900, 1800].getD (n % 4) 0
    num (s.factoryVal m ((nom * 9 / 10 * 65536 + nom * 11 / 10 : Nat) : Int)).toNat
  else if 0x2110 ≤ idx ∧ idx ≤ 0x2113 ∧ sub = 0x19 then num (s.instNow (idx - 0x2110))
  else if 0x2110 ≤ idx ∧ idx ≤ 0x2113 ∧ sub = 0x17 then
    num (if s.instFlag (idx - 0x2110) isHOLDOVER then satN (2 ^ 32 - 1) ((s.now - (s.inst (idx - 0x2110)).holdSince) / 1000000) else 0)
  else if 0x2130 ≤ idx ∧ idx ≤ 0x2137 ∧ 5 ≤ sub ∧ sub ≤ 8 then num (s.pulseStatusOf (4 * (idx - 0x2130) + (sub - 5)))
  else if m = O.hashedInUse then num (s.table (x.sel O.tableDie)).hashedUse
  else if m = O.ternaryInUse then num (s.table (x.sel O.tableDie)).ternaryUse
  else if m = O.spilledEntries then num (s.table (x.sel O.tableDie)).spilled
  else if m = O.gateEntriesInUse then num (s.listOf (x.sel O.listLane)).length
  else if m = O.passesEnabled then num s.passesOn.length
  else if m = O.rulesInPass then num (s.rulesOf (x.sel O.rulePass)).length
  else if m = O.sessionsOnDie then num (s.connsOn (x.sel O.sessionDie)).length
  else if m = O.oversubscribed then num (b2n (s.oversubscribed (x.sel O.sessionDie)))
  else if m = O.zoneOutputs then num (s.zoneOuts (x.sel O.zone)).length
  else if m = O.mappingsInUse then num s.mappings.length
  else if m = O.messagesInUse then num s.messages.length
  else none

/-- The derived value of an object, if it has one. -/
def State.derived (s : State) (sess : Nat) (x : Session) (idx sub : Nat) : Option Val :=
  (s.derivedAccess sess x (mux idx sub)) <|> (s.derivedArray x idx sub)

/-! ### Layers (R410, R411, R444) -/

/-- Is the object a counter that snapshots hold (R35, R444)? -/
def isCounter (m : Nat) : Bool :=
  let i := m / 256
  let u := m % 256
  (decide (0x2200 ≤ i) && decide (i ≤ 0x223F) && (u == 0x0C || (decide (0x10 ≤ u) && decide (u ≤ 0x1D)))) ||
  (decide (0x2280 ≤ i) && decide (i ≤ 0x2287) && decide (0x51 ≤ u)) || (decide (0x2290 ≤ i) && decide (i ≤ 0x22AF) && u == 6) ||
  m == O.learningFailures || m == O.stationMoves || i == 0x2423 || i == 0x2424 || i == 0x2450 || i == 0x2650 ||
  (decide (0x2460 ≤ i) && decide (i ≤ 0x2467) && (u == 5 || u == 6)) || (decide (0x2480 ≤ i) && decide (i ≤ 0x2487) && decide (0x51 ≤ u)) ||
  (decide (0x2520 ≤ i) && decide (i ≤ 0x2524)) || m == O.logSuppressed || m == O.evictedSessions || i == 0x2621 || i == 0x2B70 ||
  (decide (0x2B41 ≤ i) && decide (i ≤ 0x2B43)) || i == 0x2102 || i == 0x2123 ||
  (decide (0x2130 ≤ i) && decide (i ≤ 0x2137) && decide (9 ≤ u)) || (decide (0x2138 ≤ i) && decide (i ≤ 0x213F) && (u == 5 || u == 6)) ||
  (decide (0x2A40 ≤ i) && decide (i ≤ 0x2A4F) && u == 7) || m == O.emergencyActivations || m == O.announcementConflicts ||
  (decide (0x2800 ≤ i) && decide (i ≤ 0x281F) && decide (0x0C ≤ u) && decide (u ≤ 0x10)) ||
  (decide (0x2820 ≤ i) && decide (i ≤ 0x282F) && decide (6 ≤ u)) || (decide (0x2830 ≤ i) && decide (i ≤ 0x283F) && decide (8 ≤ u)) ||
  (decide (0x2840 ≤ i) && decide (i ≤ 0x284F) && (u == 5 || u == 6 || u == 7 || u == 8 || u == 9) &&
    !(decide (i ≤ 0x2847) && (u == 5 || u == 6))) ||
  (decide (0x2E41 ≤ i) && decide (i ≤ 0x2E44)) || i == 0x2E46 || i == 0x2E50 || i == 0x2E51 || i == 0x2E54 ||
  (decide (0x2E12 ≤ i) && decide (i ≤ 0x2E13)) || i == 0x2E18 || (decide (0x2E1B ≤ i) && decide (i ≤ 0x2E1C)) || i == 0x2E23 || i == 0x1F80 ||
  (i == 0x2080 && decide (7 ≤ u)) || (i == 0x2B21) || (decide (0x2110 ≤ i) && decide (i ≤ 0x2113) && u == 0x18) || m == O.falseWakes ||
  m == O.incompleteSnapshots || m == O.hostEventsDropped || m == O.recordsOverwritten || m == O.recordsDropped ||
  m == O.meterRecords || m == O.inputStatus || m == O.outputStatus || m == O.messageStatus || m == O.mappingStatus

/-- Every counter, at its value (R35). -/
def State.counters (s : State) : CounterSet :=
  { dict := { objs := s.dict.objs.filter (fun e => isCounter (muxOf e.1)), blobs := s.dict.blobs.filter (fun e => isCounter (muxOf e.1)) },
    meters := s.fwd.meters, inputs := s.audio.inputs, outputs := s.audio.outputs, msgs := s.edge.msgs, maps := s.edge.maps,
    lost := s.logs.map (fun e => (e.1, (e.2.overwritten, e.2.dropped))) }

/-- The state as its counters stood in a snapshot (R444). -/
def State.asOf (s : State) (c : CounterSet) : State :=
  { s with
    dict := { objs := overlay (s.dict.objs.filter (fun e => !isCounter (muxOf e.1))) c.dict.objs,
              blobs := overlay (s.dict.blobs.filter (fun e => !isCounter (muxOf e.1))) c.dict.blobs },
    fwd := { s.fwd with meters := c.meters }, audio := { s.audio with inputs := c.inputs, outputs := c.outputs },
    edge := { s.edge with msgs := c.msgs, maps := c.maps },
    logs := s.logs.map (fun e => (e.1, { e.2 with overwritten := (get ([], 0) c.lost e.1).1, dropped := (get ([], 0) c.lost e.1).2 })) }

/-- The value held for the next boundary of a T object, latest first (R410). -/
def State.heldVal (s : State) (k : Nat) : Option Val := (s.held.reverse.find? (fun h => h.key == k)).map (·.val)

/-- The value of a stored object: by layer (R410, R411). -/
def State.layered (s : State) (r : ObjRow) (inForce : Bool) (k : Nat) : Val :=
  let isNum := r.ty.intBytes.isSome
  let now : Val := if isNum then .num (s.o k) else .bytes (s.blob k)
  match r.eff with
  | .T => (s.heldVal k).getD now
  | .C => if inForce then now else if isNum then .num (s.stagedO k) else .bytes (s.stagedBlob k)
  | .S => if isNum then .num ((look s.stored.objs k).getD (s.o k)) else .bytes ((look s.stored.blobs k).getD (s.blob k))
  | _ => now

/-- R371: does an object's value come from hardware that Standby powers off? -/
def poweredOff (r : ObjRow) (idx sub : Nat) : Bool :=
  let own := match r.acc with | .ro _ => true | .roZero => true | _ => false
  own &&
  ((decide (0x2110 ≤ idx) && decide (idx ≤ 0x29FF)) || (decide (0x2A01 ≤ idx) && decide (idx ≤ 0x2A4F)) ||
   (decide (0x2B40 ≤ idx) && decide (idx ≤ 0x2B7F) && idx != 0x2B50) || (decide (0x2E12 ≤ idx) && decide (idx ≤ 0x2E1D)) ||
   ((idx == 0x2E20 || idx == 0x2E21) && (sub - 1) % 8 != 6) || (decide (0x2E40 ≤ idx) && decide (idx ≤ 0x2E42)))

/-- The bytes of an object as a session reads it; a slot with nothing staged shows its active record. -/
def State.readBytes (s : State) (sess : Nat) (x : Session) (r : ObjRow) (inForce : Bool) (snapshot : Option CounterSet) (idx sub : Nat) : Bytes :=
  let m := mux idx sub
  let src := match snapshot with
    | some c => if isCounter m then s.asOf c else s
    | none => s
  match r.ty with
  | .win first count _ => src.winRead x inForce m first count
  | _ =>
    if r.isSelector then r.ty.encode (.num ((x.sel m : Nat) : Int))
    else if 0x3000 ≤ idx ∧ idx ≤ 0x4FFF ∧ sub = 1 then
      ((if inForce then none else s.stagedRec (idx - 0x3000))).getD (s.blob (activeKey (idx - 0x3000)))
    else
      match src.derived sess x idx sub with
      | some v => r.ty.encode v
      | none => r.ty.encode (src.layered r inForce (objKey x idx sub))

end Sys2Proof.Machine
end

