-- ==== Sys2Proof/Machine/Writes.lean ====
section
/-! DEFINITION. A complete write of one object, whatever the path it comes by: lengths, values, device state, and its effect
(R6, R8, R410 to R414, R457, R490). -/
namespace Sys2Proof.Machine

open Sys2Proof

/-! ### Values of DOMAIN objects -/

/-- R257: can the 80 MHz clock reach a rate (kbit/s) and a sample point (%) within 0.5 %? -/
def canTiming (rate sp : Nat) : Bool :=
  (List.range 2).any (fun up =>
    let n := if rate = 0 then 0 else 80000 / rate + up
    decide (2 ≤ n) && decide (200 * (80000 - rate * n) ≤ rate * n) && decide (200 * (rate * n - 80000) ≤ rate * n) &&
    (List.range 2).any (fun u =>
      let m := n * sp / 100 + u
      decide (1 ≤ m) && decide (m < n) && decide (200 * (100 * m - sp * n) ≤ sp * n) && decide (200 * (sp * n - 100 * m) ≤ sp * n)))

/-- R331: a channel record at its window position; the default record stands everywhere. -/
def State.channelRecOk (s : State) (i : Nat) (r : Bytes) : Bool :=
  r == fill 64 0 ||
  (fld r 0 2 == i && decide (fld r 2 1 < 8) && (fld r 3 1 == 0xFF || (s.hasLane (fld r 3 1) && fld r 3 1 / 8 == i / 64)) &&
   decide (fld r 4 1 ≤ 3) && (fld r 5 1 == 0 || fld r 5 1 == 30 || fld r 5 1 == 50) && decide (fld r 6 1 ≤ 2) &&
   decide (fld r 0x0C 1 ≤ 32) && (decide (1 ≤ fld r 0x0C 1) || !bit (fld r 2 1) 0) && slice r 0x0D 3 == fill 3 0 &&
   slice r (0x10 + fld r 0x0C 1) (32 - fld r 0x0C 1) == fill (32 - fld r 0x0C 1) 0 && slice r 0x30 16 == fill 16 0)

/-- R240: the emergency tone record. -/
def toneOk (b : Bytes) : Bool :=
  decide (100 ≤ fld b 0 2) && decide (fld b 0 2 ≤ 7000) &&
  (fld b 2 2 == 0 || (decide (100 ≤ fld b 2 2) && decide (fld b 2 2 ≤ 7000))) &&
  decide (10 ≤ fld b 4 2) && decide (fld b 4 2 ≤ 10000) && decide (fld b 6 2 ≤ 16384)

/-- R262: a master-frame table: its entries, and at most 800 µs of polls in every basic period. -/
def masterTableOk (b : Bytes) : Bool :=
  let es := (List.range (b.length / 4)).map (fun e => (e, fld b (4 * e) 2, fld b (4 * e + 2) 1, fld b (4 * e + 3) 1))
  es.all (fun e => decide (e.2.1 ≤ 4095) && decide (e.2.2.1 ≤ 4) && decide (e.2.2.2 ≤ 10)) &&
  (List.range 1024).all (fun p =>
    decide ((es.filter (fun e => p % 2 ^ e.2.2.2 == e.1 % 2 ^ e.2.2.2)).foldl (fun n e => n + 70 + 12 * 2 ^ e.2.2.1) 0 ≤ 800))

/-- R283: a LIN schedule. -/
def linScheduleOk (b : Bytes) : Bool :=
  (List.range (b.length / 4)).all (fun e => decide (fld b (4 * e) 1 ≤ 63) && fld b (4 * e + 1) 1 == 0 &&
    decide (1 ≤ fld b (4 * e + 2) 2) && decide (fld b (4 * e + 2) 2 ≤ 4096))

/-- Every byte of a string satisfies `p`. -/
def allBytes (b : Bytes) (p : Nat → Bool) : Bool := b.all (fun x => p x.toNat)

/-- Lists of entries hold whole entries (R178, R283, R284). -/
def wholeEntries (idx sub len : Nat) : Bool :=
  if idx = 0x2550 ∧ sub = 4 then len % 8 == 0
  else if 0x2820 ≤ idx ∧ idx ≤ 0x282F ∧ sub = 4 ∨ 0x2840 ≤ idx ∧ idx ≤ 0x2847 ∧ sub = 5 then len % 4 == 0
  else true

/-- The cycle in ns that bounds the entries written to a lane's administrative list (R155): that of *admin cycle* as the
next commit would take it.  DESIGN CHOICE (log 97): with no cycle written yet, the longest, 4,096 ticks. -/
def State.adminCycleNs (s : State) (n : Nat) : Nat :=
  let l := (s.stagedO (at_ O.adminCycle n)).toNat
  (if l = 0 then 4096 else l) * s.period

/-- Reserved encodings of the DOMAIN objects that no row of their own writes (R8). -/
def State.domainValueOk (s : State) (x : Session) (idx sub : Nat) (b : Bytes) : Bool :=
  if idx = 0x251C then
    (List.range 8).all (fun t => fld b (4 * t) 4 % 8 == 0 || fld b (4 * t) 4 == 0xFFFFFFFF)
  else if idx = 0x2550 then adminListOk (s.adminCycleNs (x.sel O.adminLane)) b
  else if idx = 0x2615 then
    allBytes b (fun v => decide (v ≤ 63) || v == 0xFF) && fld b 0 1 == 0xFF && fld b 4095 1 == 0xFF
  else if idx = 0x2A00 then toneOk b
  else if 0x2800 ≤ idx ∧ idx ≤ 0x281F then
    bufferCfgOk b && canFits b (s.n (byIdx O.fifoDepths (idx - 0x2800))) (s.n (byIdx O.dataFieldSize (idx - 0x2800)))
  else if 0x2820 ≤ idx ∧ idx ≤ 0x282F then linScheduleOk b
  else if 0x2840 ≤ idx ∧ idx ≤ 0x2847 ∧ sub = 4 then
    allBytes b (fun v => decide (bits v 6 2 ≤ 2) && bits v 3 3 == 0 && decide (bits v 0 3 ≤ 4))
  else if 0x2840 ≤ idx ∧ idx ≤ 0x2847 then masterTableOk b
  else if idx = 0x2E45 then allBytes b (fun v => bits v 2 5 == 0)
  else true

/-- A record written at its window position (R8). -/
def State.winRecOk (s : State) (x : Session) (m i : Nat) (r : Bytes) : Bool :=
  if m = O.vlanRecords then s.vlanRecOk i r
  else if m = O.passRecords then s.passRecOk i r
  else if m = O.ruleRecords then s.ruleRecOk (x.sel O.rulePass) i r
  else if m = O.outputRecords then s.outputRecOk i r
  else if m = O.inputRecords then inputRecOk i r
  else if m = O.messageRecords then messageRecOk i r
  else if m = O.mappingRecords then mappingRecOk i r
  else if m = O.jobClassRecords then s.classRecOk i r
  else if m = O.channelRecords then s.channelRecOk i r
  else if m = O.railRecords then railRecOk i r
  else true

/-- Values of integers that depend on other objects: the bit timing and the message RAM of a CAN unit (R257, R258). -/
def State.moreValueOk (s : State) (idx sub v : Nat) : Bool :=
  if 0x2800 ≤ idx ∧ idx ≤ 0x281F then
    let u := idx - 0x2800
    let st := fun (k : Nat) => (s.stagedO (byIdx k u)).toNat
    let nom := if sub = 3 then v else st O.nominalBitRate
    let dat := if sub = 4 then v else st O.dataBitRate
    let sp := if sub = 5 then v else st O.samplePoints
    if 3 ≤ sub ∧ sub ≤ 5 then canTiming nom (bits sp 8 8) && (st O.canProtocol == 0 || canTiming dat (bits sp 0 8))
    else if sub = 7 then canFits (s.bufferCfg u) (s.n (byIdx O.fifoDepths u)) v
    else if sub = 9 then canFits (s.bufferCfg u) v (s.n (byIdx O.dataFieldSize u))
    else true
  else true

/-! ### Device state (step 8 of R490) -/

/-- No commit is RUNNING or SWITCH_PENDING. -/
def State.noCommit (s : State) : Bool := s.commitStatus != csRUNNING && s.commitStatus != csSWITCHPENDING

/-- The rules of R118 for rings and CAN buffers, of R242 for a running announcement, and of R361 for a running march. -/
def State.writeStateOk (s : State) (idx sub : Nat) : Bool :=
  if 0x2280 ≤ idx ∧ idx ≤ 0x2287 ∧ 1 ≤ sub ∧ sub ≤ 0x30 then
    s.n (mux idx (0x31 + (sub - 1) % 16)) == 0 && s.noCommit
  else if 0x2480 ≤ idx ∧ idx ≤ 0x2487 ∧ 1 ≤ sub ∧ sub ≤ 0x30 then
    s.n (mux idx (0x31 + (sub - 1) % 16)) == 0 && s.noCommit
  else if 0x2800 ≤ idx ∧ idx ≤ 0x281F ∧ 7 ≤ sub ∧ sub ≤ 9 then s.n (mux idx 1) == 0 && s.noCommit
  else if 0x2A60 ≤ idx ∧ idx ≤ 0x2A6F ∧ 1 ≤ sub ∧ sub ≤ 5 then s.annStatus (idx - 0x2A60) != 1
  else if idx = 0x2A70 ∧ sub = 2 then true
  else if idx = 0x2E58 ∧ 1 ≤ sub ∧ sub ≤ 3 then s.n O.marchStatus != maRUNNING
  else true

/-! ### Effects (R6, R410, R416) -/

/-- Is the object of the user calibration layer? -/
def userLayer (k : Nat) : Bool := decide (0x2F90 ≤ muxOf k / 256) && decide (muxOf k / 256 ≤ 0x2FEF)

/-- A value into the MRAM dictionary mirror. -/
def State.mirrorVal (s : State) (k : Nat) (v : Val) : State := { s with pkg := { s.pkg with mirror := s.pkg.mirror.setVal k v } }

/-- A checked value takes its way: in force, held for a boundary, staged, or stored. -/
def State.applyVal (s : State) (e : Effect) (k : Nat) (v : Val) : State :=
  match e with
  | .T => let s := s.holdT k v
          if userLayer k then s.mirrorVal k v else s
  | .C => { s with staged := s.staged.setVal k v }
  | .S => { s with stored := s.stored.setVal k v }
  | _ => s.setVal k v

/-! ### Objects that act when they are written: the acts of the rows of their own -/

/-- The act of an integer write that has a row of its own; none where no row of its own exists. -/
def cmdAct (sess idx sub v : Nat) : Option (Session → State → Status × State) :=
  let slot := idx - 0x3000
  if 0x3000 ≤ idx ∧ idx ≤ 0x4FFF ∧ sub = 4 then some (stageDelete slot)
  else if 0x3000 ≤ idx ∧ idx ≤ 0x4FFF ∧ sub = 5 then some (discardStaged slot)
  else if idx = 0x5000 ∧ sub = 1 then
    some (if v = 2 then abortCommit else if v = 5 then discardAll else if v = 3 then startCommit 3 sess else whenActive (startCommit v sess))
  else if idx = 0x2100 ∧ sub = 7 then some requestRealign
  else if 0x2110 ≤ idx ∧ idx ≤ 0x2113 ∧ sub = 0x1A then some (setGrandmasterTime (idx - 0x2110) v)
  else if 0x2200 ≤ idx ∧ idx ≤ 0x223F ∧ sub = 0x1F then some (clearLane (idx - 0x2200))
  else if idx = 0x2400 ∧ sub = 6 then some fdbFlush
  else if idx = 0x2450 ∧ sub = 4 then some clearStreamCounters
  else if idx = 0x2600 ∧ sub = 9 then some (sessionFlush v)
  else if idx = 0x2650 ∧ sub = 4 then some clearPassCounters
  else if 0x2800 ≤ idx ∧ idx ≤ 0x281F ∧ sub = 0x11 then some (busOffRecovery (idx - 0x2800))
  else if 0x2800 ≤ idx ∧ idx ≤ 0x281F ∧ sub = 0x12 then some (clearEdge 0 (idx - 0x2800))
  else if 0x2820 ≤ idx ∧ idx ≤ 0x282F ∧ sub = 9 then some (clearEdge 1 (idx - 0x2820))
  else if 0x2830 ≤ idx ∧ idx ≤ 0x283F ∧ sub = 0x0B then some (clearEdge 2 (idx - 0x2830))
  else if 0x2840 ≤ idx ∧ idx ≤ 0x2847 ∧ sub = 0x0A then some (clearEdge 3 (idx - 0x2840))
  else if 0x2848 ≤ idx ∧ idx ≤ 0x284F ∧ sub = 8 then some (clearEdge 4 (idx - 0x2848))
  else if idx = 0x2900 ∧ sub = 4 then some clearGateway
  else if idx = 0x2A38 ∧ sub = 4 then some clearCirque
  else if 0x2A60 ≤ idx ∧ idx ≤ 0x2A6F ∧ sub = 6 then some (if v = 1 then annStart (idx - 0x2A60) else annAbort (idx - 0x2A60))
  else if idx = 0x2A70 ∧ sub = 5 then some clipErase
  else if idx = 0x2B00 ∧ sub = 0x0A then some fuseAct
  else if idx = 0x2B18 ∧ sub = 1 then some (lifeCycleAct v)
  else if idx = 0x2B44 ∧ sub = 3 then some abortJobAct
  else if idx = 0x2B71 ∧ sub = 1 then some clearMacsec
  else if idx = 0x2C00 ∧ sub = 2 then some (if v = 1 then standbyEnter else fun _ s => (.deviceState, s))
  else if idx = 0x2C00 ∧ sub = 8 then some (fun _ s => (.deviceState, s))
  else if idx = 0x2C00 ∧ sub = 9 then some sleepRequestAct
  else if idx = 0x2C00 ∧ sub = 0x0F then some detachAct
  else if idx = 0x2D00 ∧ sub = 1 then
    some (if v = 1 then updateClaim sess else if v = 2 then updateAbort sess else if v = 3 then updateVerify sess
      else if v = 4 then updateActivate sess else if v = 5 then updateConfirm else updateRelease sess)
  else if idx = 0x2E10 ∧ 1 ≤ sub then some (if v = 0 then laneTestStop (sub - 1) else laneTestStart (sub - 1) v)
  else if idx = 0x2E15 ∧ 1 ≤ sub then some (eyeMeasureAct (sub - 1))
  else if idx = 0x2E17 ∧ 1 ≤ sub then some (saddleTestAct ((sub - 1) / 4) ((sub - 1) % 4) v)
  else if idx = 0x2E24 ∧ sub = 1 then some clearMonitors
  else if idx = 0x2E47 ∧ sub = 2 then some clearBridgeCounters
  else if idx = 0x2E58 ∧ sub = 4 then some (if v = 1 then marchStart else marchAbort)
  else none

/-- R417: *restore factory*: the user objects that a value clears. -/
def State.userObjects (s : State) (v : Nat) : List Nat :=
  (List.range 7).flatMap (fun i =>
    if v = 0xFFFF ∨ v = 0x2F90 + i then
      (List.range 64).filterMap (fun n => if (s.row? (0x2F90 + i) (1 + n)).isSome then some (mux (0x2F90 + i) (1 + n)) else none)
    else [])

/-- R417: the values cleared take effect together at the next boundary, and are in the mirror. -/
def restoreFactory (v : Nat) (_ : Session) (s : State) : Status × State :=
  (.ok, (s.userObjects v).foldl (fun (s : State) k => s.applyVal .T k (.num 0)) s)

def execRestoreFactory (t : Nat) (who : Who) (v : Nat) (s : State) : Host.Outcome State Fault Refusal :=
  cmdRow t who 0x2FF0 2 v (restoreFactory v) s

/-- A session ends: its selectors, transfers and transaction go with it, and an update lock it holds is released (R403, R429). -/
def State.endSession (s : State) (n : Nat) : State :=
  ({ s with access := { s.access with sessions := del s.access.sessions n,
                                      forwarded := s.access.forwarded.filter (fun f => f.sess != n) } }).sessionLock n

/-- R402: a trust anchor written: in force and in the mirror of every healthy die; a changed or disabled anchor ends the sessions
under it, and the chains accepted under it open none. -/
def trustAnchorAct (n : Nat) (r : Bytes) (_ : Session) (s : State) : Status × State :=
  let k := bySub O.trustAnchor (n - 1)
  let old := s.blob k
  let s := (s.setBlob k r).mirrorVal k (.bytes r)
  if old = r then (.ok, s)
  else
    let gone := (s.access.sessions.filter (fun e => e.2.trust == some (.anchor n))).map (·.1)
    let s := gone.foldl State.endSession s
    (.ok, { s with access := { s.access with assocs := s.access.assocs.filter (fun a => a.trust != .anchor n) } })

/-- R402. -/
def trustAnchorWrite (sess n : Nat) (r : Bytes) : Session → State → Response × State :=
  writeDom sess 0x2081 n r 52 52 (fun _ => anchorOk r) (trustAnchorAct n r)

def execTrustAnchorWrite (t : Nat) (who : Who) (n : Nat) (rec : Bytes) (s : State) : Host.Outcome State Fault Refusal :=
  .next (serve who (trustAnchorWrite who.sess n rec) (s.begin t))

/-- The write of a whole DOMAIN that has a row of its own. -/
def domAct (sess idx sub : Nat) (b : Bytes) : Option (Session → State → Response × State) :=
  if 0x3000 ≤ idx ∧ idx ≤ 0x4FFF ∧ sub = 1 then
    some (writeDom sess idx 1 b 64 64 (fun _ => contractReservedOk b) (stageRecord (idx - 0x3000) b))
  else if 0x2130 ≤ idx ∧ idx ≤ 0x2137 ∧ 1 ≤ sub ∧ sub ≤ 4 then
    some (writeDom sess idx sub b 24 24 (fun _ => pulseOk b) (writePulse (4 * (idx - 0x2130) + (sub - 1)) b))
  else if idx = 0x2430 ∧ sub = 4 then some (writeDom sess idx sub b 24 24 (fun _ => staticEntryOk b) (staticEntryWrite b))
  else if idx = 0x2430 ∧ sub = 5 then some (writeDom sess idx sub b 8 8 (fun _ => true) (staticEntryDelete b))
  else if idx = 0x2A70 ∧ sub = 3 then some (writeDom sess idx sub b 0 262144 (fun _ => true) (clipWrite b))
  else if idx = 0x2B10 ∧ sub = 3 then some (slotRecordsWrite sess b 0)
  else if idx = 0x2B11 ∧ sub = 1 then some (writeDom sess idx sub b 128 160 (fun s => s.importOk b) (importGo b 0))
  else if idx = 0x2B20 ∧ sub = 4 then some (writeDom sess idx sub b 8 64 (fun _ => true) (tamperClearAct sess b))
  else if idx = 0x2B28 ∧ sub = 1 then some (writeDom sess idx sub b 8 64 (fun _ => true) (attestNonceAct sess b))
  else if idx = 0x2B50 ∧ sub = 2 then some (writeDom sess idx sub b 96 4192 (fun _ => true) (spewardJobAct sess b))
  else if idx = 0x2D00 ∧ sub = 4 then some (writeDom sess idx sub b 5 1024 (fun _ => true) (imageBlockAct sess b true))
  else if idx = 0x2081 ∧ 1 ≤ sub then some (trustAnchorWrite sess sub b)
  else none

/-! ### The write -/

/-- Is the object moved in fragments (R407)? -/
def ObjRow.isDomain (r : ObjRow) : Bool :=
  match r.ty with
  | .dom _ _ => true
  | .win _ _ _ => true
  | _ => false

/-- A session's later write takes the place of what its own transaction holds for that object (R413). -/
def State.dropOwnHeld (s : State) (sess k : Nat) : State :=
  { s with held := s.held.filter (fun h => !(h.txn == some sess && h.key == k)) }

/-- A whole integer written to an object without a row of its own: value, device state, transaction, effect. -/
def writeInt (sess idx sub : Nat) (r : ObjRow) (v : Int) (x : Session) (s : State) : Response × State :=
  let k := objKey x idx sub
  if !(r.rng.ok v && s.valueOk idx sub v.toNat && s.moreValueOk idx sub v.toNat) then (Response.of .outOfRange, s)
  else if r.isSelector then (Response.of .ok, s.updSession sess (fun y => { y with selectors := ins y.selectors k v }))
  else if !s.writeStateOk idx sub then (Response.of .deviceState, s)
  else if x.txn.isSome then
    if r.acc.readRole.isNone then (Response.of .deviceState, s)
    else
      let p := s.txnAdd sess k (r.ty.intBytes.getD 0) (.num v)
      (Response.of p.1, p.2)
  else (Response.of .ok, (s.dropOwnHeld sess k).applyVal r.eff k (.num v))

/-- R340, R399: a job-class record that has SECURE_WORLD set, or is given it, is written only from the secure world. -/
def State.worldOk (s : State) (x : Session) (m i : Nat) (r : Bytes) : Bool :=
  m != O.jobClassRecords || x.secure || !(clSecure r || clSecure (s.stagedBlob (winKey x m i)))

/-- A whole DOMAIN written to an object without a row of its own. -/
def writeBlob (idx sub : Nat) (r : ObjRow) (b : Bytes) (x : Session) (s : State) : Response × State :=
  let m := mux idx sub
  match r.ty with
  | .win first count size =>
    let i0 := x.sel first
    let n := x.sel count
    if b.length ≠ n * size then (Response.of .length, s)
    else if s.winLimit x m < i0 + n then (Response.of .noObject, s)
    else if !(List.range n).all (fun i => s.worldOk x m (i0 + i) (slice b (size * i) size)) then
      (Response.of .accessDenied, s.countDenial .accessDenied)
    else if !(List.range n).all (fun i => s.winRecOk x m (i0 + i) (slice b (size * i) size)) then (Response.of .outOfRange, s)
    else if x.txn.isSome then (Response.of .deviceState, s)
    else
      (Response.of .ok, (List.range n).foldl (fun (s : State) i =>
        s.applyVal r.eff (winKey x m (i0 + i)) (.bytes (slice b (size * i) size))) s)
  | .dom lo hi =>
    if b.length < lo ∨ hi < b.length ∨ wholeEntries idx sub b.length = false then (Response.of .length, s)
    else if !s.domainValueOk x idx sub b then (Response.of .outOfRange, s)
    else if !s.writeStateOk idx sub ∨ x.txn.isSome then (Response.of .deviceState, s)
    else (Response.of .ok, s.applyVal r.eff (objKey x idx sub) (.bytes b))
  | _ => (Response.of .length, s)

/-- A whole value written to any object by session `who.sess` with the rights in `x` (R490).  An activation of an image answers
before it ends every session (R433). -/
def writeWhole (who : Who) (idx sub : Nat) (b : Bytes) (x : Session) (s : State) : Response × State :=
  let c := s.writeCheck x.rights idx sub
  match c.2 with
  | none => (Response.of c.1, s.countDenial c.1)
  | some r =>
    let s := s.touch who.sess (mux idx sub) r.isSelector
    if s.selectedOk x idx sub ≠ .ok then (Response.of (s.selectedOk x idx sub), s)
    else
      match r.ty.intBytes with
      | some n =>
        if b.length ≠ n then (Response.of .length, s)
        else
          let v := leNat b
          if idx = 0x2A00 ∧ sub = 2 then emergencyCommand who.sess v x s
          else if idx = 0x2FF0 ∧ sub = 2 then writeCmd who.sess idx sub v (restoreFactory v) x s
          else
            match cmdAct who.sess idx sub v with
            | some act =>
              let p := writeCmd who.sess idx sub v act x s
              if idx = 0x2D00 ∧ v = 4 ∧ p.1.status = .ok then (p.1, p.2.reply who p.1) else p
            | none =>
              match r.ty.decode b with
              | .num i => writeInt who.sess idx sub r i x s
              | .bytes _ => (Response.of .length, s)
      | none =>
        match domAct who.sess idx sub b with
        | some act => act x s
        | none => writeBlob idx sub r b x s

/-- A fragment of a write (R407): the value is taken whole at LAST. -/
def writeFrag (who : Who) (idx sub off : Nat) (last : Bool) (b : Bytes) (x : Session) (s : State) : Response × State :=
  let c := s.writeCheck x.rights idx sub
  match c.2 with
  | none => (Response.of c.1, s.countDenial c.1)
  | some r =>
    let m := mux idx sub
    if !r.isDomain then
      if off ≠ 0 then (Response.of .outOfSequence, s) else writeWhole who idx sub b x s
    else
      let s := s.touch who.sess m r.isSelector
      let drop := fun (s : State) => s.updSession who.sess (fun y => { y with pendWrite := none })
      let sofar : Option Bytes :=
        if off = 0 then some []
        else
          match x.pendWrite with
          | some (k, p) => if k = m ∧ p.length = off then some p else none
          | none => none
      match sofar with
      | none => (Response.of .outOfSequence, drop s)
      | some p =>
        if last then writeWhole who idx sub (p ++ b) { x with pendWrite := none } (drop s)
        else (Response.of .ok, s.updSession who.sess (fun y => { y with pendWrite := some (m, p ++ b) }))

/-! ### The read -/

/-- The snapshot that a read with SNAPSHOT is served from: the most recent complete one; within a transaction that of its first such
read, so that all its values come from one boundary (R444). -/
def State.snapFor (s : State) (sess : Nat) (x : Session) : CounterSet :=
  if x.txn.isSome then get s.tick.snapshot s.access.txnSnaps sess else s.tick.snapshot

/-- A transaction keeps the snapshot that it has read from. -/
def State.keepSnap (s : State) (sess : Nat) (x : Session) (c : CounterSet) : State :=
  if x.txn.isSome then { s with access := { s.access with txnSnaps := ins s.access.txnSnaps sess c } } else s

/-- A read at an offset (R407): a DOMAIN read at 0 takes a snapshot of the whole value, and fragments of at most 1,024 bytes
follow from it; *capture records* are removed when the snapshot is taken. -/
def readFrag (sess idx sub off : Nat) (inForce snapshot : Bool) (x : Session) (s : State) : Response × State :=
  let c := s.readCheck x.rights idx sub
  match c.2 with
  | none => (Response.of c.1, s.countDenial c.1)
  | some r =>
    let m := mux idx sub
    let s := s.touch sess m r.isSelector
    let part := fun (b : Bytes) =>
      (⟨.ok, slice b off 1024, decide (b.length ≤ off + 1024)⟩ : Response)
    let keep := fun (b : Bytes) (t : Nat) (s : State) =>
      s.updSession sess (fun y => { y with snap := if b.length ≤ off + 1024 then none else some (m, b, t) })
    if off ≠ 0 then
      match x.snap with
      | some (k, b, t) =>
        if r.isDomain ∧ k = m ∧ s.now - t < 10000000000 ∧ off < b.length then (part b, keep b t s)
        else (Response.of .outOfSequence, s)
      | none => (Response.of .outOfSequence, s)
    else if s.selectedOk x idx sub ≠ .ok then (Response.of (s.selectedOk x idx sub), s)
    else if s.n O.powerState = 2 ∧ poweredOff r idx sub = true then (Response.of .deviceState, s)
    else if 0x2138 ≤ idx ∧ idx ≤ 0x213F ∧ (sub = 3 ∨ sub = 4) then readCaptures sess (idx - 0x2138) (sub - 3) x s
    else
      let c := if snapshot then some (s.snapFor sess x) else none
      let b := s.readBytes sess x r inForce c idx sub
      let s := if snapshot then s.keepSnap sess x (s.snapFor sess x) else s
      if r.isDomain then (part b, keep b s.now s) else (⟨.ok, b, true⟩, s)

end Sys2Proof.Machine
end

