-- ==== Sys2Proof/Machine/Access.lean ====
section
/-! DEFINITION. Sessions and requests: handshakes, OPEN and CLOSE, reads and writes, transactions, forwarding to other devices
(R400 to R408, R413, R463 to R467). -/
namespace Sys2Proof.Machine

open Sys2Proof

/-! ### Handshake and OPEN (R401 to R404) -/

/-- The trust anchor record `n`, 1 to 8. -/
def State.anchor (s : State) (n : Nat) : Bytes := s.blob (bySub O.trustAnchor (n - 1))

/-- Is the key that accepted a chain still trusted (R402)? -/
def State.trusted (s : State) : Trust → Bool
  | .vendorKey => true
  | .anchor n => decide (1 ≤ n) && decide (n ≤ 8) && bit (fld (s.anchor n) 0 1) 0

/-- Does a path reach the lead (R370, R400)? -/
def State.reachable (s : State) (p : Path) : Bool := s.answers && decide (pwSTANDBY ≤ s.power_) && s.pathUp p

/-- R401, R402: a handshake.  `chain` is the key under which the client chain verifies, none when the chain or the parameters fail;
`valid` says that its validity periods hold at the time of instance 0; `slip` is the SLIP frame that carried it (R406). -/
def dtlsHandshake (path : Path) (assoc : Nat) (chain : Option Trust) (valid : Bool) (slip : Option Slip) (s : State) : State :=
  if !s.reachable path || Slip.lost slip then s
  else
    let loose := s.instFlag 0 isUNTRACEABLE
    let ok := match chain with
      | some t => s.trusted t && (loose || valid)
      | none => false
    match chain with
    | some t =>
      if ok then
        let l := s.access.assocs.filter (fun a => a.id != assoc)
        let s := { s with access := { s.access with assocs := l ++ [⟨assoc, path, t⟩] } }
        if loose then s.logLead Ev.untraceableAccept 0xFFFF [(1, match t with | .anchor n => n | .vendorKey => 0)] else s
      else (s.inc32 O.authenticationFailures).logLead Ev.authFailure 0xFFFF [(1, Path.code path)]
    | none => (s.inc32 O.authenticationFailures).logLead Ev.authFailure 0xFFFF [(1, Path.code path)]

def execDtlsHandshake (t : Nat) (path : Path) (assoc : Nat) (chain : Option Trust) (valid : Bool) (slip : Option Slip)
    (s : State) : Host.Outcome State Fault Refusal := .next (dtlsHandshake path assoc chain valid slip (s.begin t))

/-- R404: is a vendor token good on a path now? -/
def State.tokenOk (s : State) (path : Path) (k : Option Token) : Bool :=
  match k with
  | none => false
  | some k =>
    k.sigOk && k.subjectOk &&
      (if s.instFlag 0 isUNTRACEABLE then path == .svcEthernet || path == .svcUart
       else decide (s.instNow 0 / 1000000000 ≤ k.notAfter))

/-- R403: may an association open a session of this role? -/
def State.roleGranted (s : State) (a : Assoc) (role : Role) (k : Option Token) : Bool :=
  if role = .vendor then s.tokenOk a.path k
  else
    match a.trust with
    | .vendorKey => false
    | .anchor n => decide (role.code ≤ fld (s.anchor n) 1 1)

/-- R402: the world of a session opened under a key. -/
def State.worldOf (s : State) : Trust → Bool
  | .vendorKey => true
  | .anchor n => bit (fld (s.anchor n) 0 1) 1

/-- A session as it starts. -/
def freshSession (role : Role) (secure : Bool) (path : Path) (assoc : Nat) (trust : Option Trust) (fwd : Bool) (entry now : Nat) : Session :=
  { role := role, secure := secure, path := path, assoc := assoc, trust := trust, forwarded := fwd, entry := entry, lastSeq := none,
    stored := none, executing := false, lastUse := now, selectors := [], txn := none, txnBytes := 0, pendWrite := none, snap := none,
    nonce := none, statement := [], job := none, jobResult := [] }

/-- R403: OPEN on an association. -/
def openAct (who : Who) (role : Nat) (k : Option Token) (s : State) : State :=
  let say := fun (n : Nat) (r : Response) (s : State) => s.reply { who with sess := n } r
  match s.access.assocs.find? (fun a => a.id == who.assoc) with
  | none => s
  | some a =>
    if !s.reachable a.path || Slip.lost who.slip then s
    else
      match Role.ofCode role with
      | none => say 0xFF (Response.of .outOfRange) s
      | some ro =>
        if !(s.trusted a.trust && s.roleGranted a ro k) then say 0xFF (Response.of .accessDenied) (s.inc32 O.accessDenials)
        else if 16 ≤ s.sessionsOpen then say 0xFF (Response.of .deviceState) s
        else
          match (List.range 32).find? (fun n => (s.session? n).isNone) with
          | none => say 0xFF (Response.of .deviceState) s
          | some n =>
            let sec := s.worldOf a.trust
            let r : Response := ⟨.ok, leBytes 1 n ++ leBytes 1 ro.code ++ leBytes 1 (b2n sec) ++ [0] ++ beBytes 2 (s.n O.sessionIdleTimeout), true⟩
            let x := freshSession ro sec a.path who.assoc (some a.trust) false 0 s.now
            let x := { x with lastSeq := some who.seq, stored := some r }
            say n r { s with access := { s.access with sessions := ins s.access.sessions n x } }

def execOpen (t : Nat) (who : Who) (role : Nat) (token : Option Token) (s : State) : Host.Outcome State Fault Refusal :=
  .next (openAct who role token (s.begin t))

/-- The nanoseconds of *session idle timeout*. -/
def State.idleNs (s : State) : Nat := s.n O.sessionIdleTimeout * 1000000000

/-- R403: a session with no request for the idle timeout closes. -/
def sessionIdle (n : Nat) (s : State) : State :=
  match s.session? n with
  | some x => if n ≠ 32 && !x.executing && decide (s.idleNs ≤ s.now - x.lastUse) then s.endSession n else s
  | none => s

def execSessionIdleTimeout (t sess : Nat) (s : State) : Host.Outcome State Fault Refusal := .next (sessionIdle sess (s.begin t))

/-- R407: a read snapshot lasts 10 s. -/
def snapshotExpiry (n : Nat) (s : State) : State :=
  match s.session? n with
  | some x =>
    match x.snap with
    | some (_, _, t) => if 10000000000 ≤ s.now - t then s.updSession n (fun y => { y with snap := none }) else s
    | none => s
  | none => s

def execSnapshotExpiry (t sess : Nat) (s : State) : Host.Outcome State Fault Refusal := .next (snapshotExpiry sess (s.begin t))

/-! ### Forwarding (R408, R467) -/

/-- A message as the entry device sends it on (R463). -/
def fwdBytes (cmd flags seq target idx sub sess off : Nat) (x : Session) (own : Nat) (hash data : Bytes) : Bytes :=
  [1] ++ leBytes 1 cmd ++ leBytes 1 (32 + flags) ++ [0] ++ beBytes 2 seq ++ beBytes 2 target ++ beBytes 2 idx ++ leBytes 1 sub ++
    leBytes 1 sess ++ beBytes 4 off ++ beBytes 2 data.length ++ fill 2 0 ++
    leBytes 1 x.role.code ++ leBytes 1 (b2n x.secure) ++ beBytes 2 own ++ hash ++ data

/-- The anchor key hash of a session's key; the vendor key opens only sessions that are never forwarded. -/
def State.keyHash (s : State) (x : Session) : Bytes :=
  match x.trust with
  | some (.anchor n) => slice (s.anchor n) 4 48
  | _ => fill 48 0

/-- What a request carries beside its header: command code, flags, object, offset and data. -/
structure Msg where
  cmd : Nat
  flags : Nat
  idx : Nat
  sub : Nat
  off : Nat
  data : Bytes

/-- The device sessions that the idle timeout has not closed (R408). -/
def State.devOpen (s : State) : SMap Nat := s.access.devSessions.filter (fun e => decide (s.now < e.2 + s.idleNs))

/-- R408: the entry device sends a request on, over one of at most 8 device sessions; never for a Vendor session, and not while an
address is in conflict. -/
def forwardReq (q : Req) (m : Msg) (x : Session) (s : State) : State :=
  let who := q.who
  if x.role = .vendor then ((s.countDenial .accessDenied).answer who (Response.of .accessDenied))
  else if s.pkg.addressConflict = true ∨ s.access.conflicts.contains q.target = true then s.answer who (Response.of .deviceState)
  else if (look s.devOpen q.target).isNone = true ∧ 8 ≤ s.devOpen.length then s.answer who (Response.of .deviceState)
  else
    let s := s.updSession who.sess (fun y => { y with executing := true, lastSeq := some who.seq, stored := none, lastUse := s.now })
    let dev := ins s.devOpen q.target s.now
    let fw := s.access.forwarded ++ [⟨who.sess, who.seq, who.head, q.target, s.now⟩]
    let s := { s with access := { s.access with devSessions := dev, forwarded := fw } }
    (s.inc32 O.forwardedRequests).emit (.message "speward" q.target
      (fwdBytes m.cmd m.flags who.seq q.target m.idx m.sub who.sess m.off x s.ownAddr (s.keyHash x) m.data))

/-- `serve` for a request to another device: the same session rules, and the answer comes later. -/
def serveForward (q : Req) (m : Msg) (s : State) : State :=
  if !s.answers || Slip.lost q.who.slip then s
  else
    match s.session? q.who.sess with
    | none => s.reply q.who (Response.of .noSession)
    | some x =>
      if !s.pathUp x.path then s
      else if x.assoc ≠ q.who.assoc then s.reply q.who (Response.of .noSession)
      else if x.lastSeq = some q.who.seq then
        match x.stored with
        | some r => s.reply q.who r
        | none => s
      else if x.executing then s.reply q.who (Response.of .deviceState)
      else forwardReq q m x s.traffic

/-- The number of a forwarded client's session at its target. -/
def remoteKey (entry sess : Nat) : Nat := 64 + 32 * entry + sess % 32

/-- R408: the role and the world that this device, as target, grants a forwarded client; none where it holds no such anchor. -/
def State.grantRemote (s : State) (e : FwdExt) : Option (Nat × Role × Bool) :=
  match ((List.range 8).map (· + 1)).find? (fun n => bit (fld (s.anchor n) 0 1) 0 && slice (s.anchor n) 4 48 == e.hash) with
  | none => none
  | some n =>
    match Role.ofCode (min e.role (fld (s.anchor n) 1 1)) with
    | some r => some (n, r, e.secure && bit (fld (s.anchor n) 0 1) 1)
    | none => none

/-- The forwarded client's session, opened at its first request with what is granted to it; a client that comes with another grant
under the same number has a session of its own. -/
def remoteSession (k : Nat) (who : Who) (e : FwdExt) (s : State) : State :=
  match s.grantRemote e with
  | none => s
  | some (n, r, sec) =>
    let x := freshSession r sec .lane who.assoc (some (.anchor n)) true e.entry s.now
    if (s.session? k).any (fun y => y.role == r && y.secure == sec && y.trust == some (.anchor n)) then s
    else { s with access := { s.access with sessions := ins s.access.sessions k x } }

/-- A request meets its device: format, forwarding extension, target (R408, R463). -/
def route (q : Req) (m : Msg) (act : Who → Session → State → Response × State) (s : State) : State :=
  if !s.answers || Slip.lost q.who.slip then s
  else if !q.fmtOk then s.reply q.who (Response.of .format)
  else
    match q.ext with
    | some e =>
      if !q.fromDevice then s.reply q.who (Response.of .accessDenied)
      else
        let k := remoteKey e.entry q.who.sess
        let who : Who := ⟨k, q.who.seq, q.who.assoc, q.who.head, q.who.slip⟩
        if q.target ≠ s.ownAddr ∧ q.target ≠ 0xFFFF then s.reply who (Response.of .deviceState)
        else if (s.grantRemote e).isNone then (s.countDenial .accessDenied).reply who (Response.of .accessDenied)
        else serve who (act who) ((remoteSession k who e s).inc32 O.forwardedRequests)
    | none =>
      if q.target = s.ownAddr ∨ q.target = 0xFFFF then serve q.who (act q.who) s
      else serveForward q m s

/-- R408: 500 ms without an answer. -/
def forwardTimeout (sess : Nat) (s : State) : State :=
  match s.access.forwarded.find? (fun f => f.sess == sess) with
  | none => s
  | some f =>
    if s.now - f.since < 500000000 then s
    else
      let s := { s with access := { s.access with forwarded := s.access.forwarded.filter (fun g => g.sess != sess) } }
      match s.session? sess with
      | some x => s.answer ⟨sess, f.seq, x.assoc, f.head, none⟩ (Response.of .timeout)
      | none => s

def execForwardTimeout (t sess : Nat) (s : State) : Host.Outcome State Fault Refusal := .next (forwardTimeout sess (s.begin t))

/-- R467: the target's answer; one that matches no outstanding request is discarded. -/
def forwardedResponse (sess seq : Nat) (r : Response) (s : State) : State :=
  match s.access.forwarded.find? (fun f => f.sess == sess && f.seq == seq) with
  | none => s
  | some f =>
    let s := { s with access := { s.access with forwarded := s.access.forwarded.filter (fun g => g.sess != sess) } }
    match s.session? sess with
    | some x => s.answer ⟨sess, seq, x.assoc, f.head, none⟩ r
    | none => s

def execForwardedResponse (t sess seq : Nat) (status : Status) (data : Bytes) (last : Bool) (s : State) :
    Host.Outcome State Fault Refusal := .next (forwardedResponse sess seq ⟨status, data, last⟩ (s.begin t))

/-! ### Requests (R464) -/

/-- Flag bits of a header. -/
def reqFlags (q : Req) (last : Bool) : Nat := b2n last + 2 * b2n q.snapshot + 4 * b2n q.inForce

def execRead (t : Nat) (q : Req) (idx sub off : Nat) (s : State) : Host.Outcome State Fault Refusal :=
  .next (route q ⟨3, reqFlags q false, idx, sub, off, []⟩
    (fun who x s => readFrag who.sess idx sub off q.inForce q.snapshot x s) (s.begin t))

def execWrite (t : Nat) (q : Req) (idx sub off : Nat) (last : Bool) (data : Bytes) (s : State) : Host.Outcome State Fault Refusal :=
  .next (route q ⟨4, reqFlags q last, idx, sub, off, data⟩
    (fun who x s => if 1024 < data.length then (Response.of .format, s) else writeFrag who idx sub off last data x s) (s.begin t))

/-- The data-type code of R457. -/
def ObjTy.code : ObjTy → Nat
  | .u 1 => 5 | .u 2 => 6 | .u 4 => 7 | .u _ => 0x1B
  | .i 1 => 2 | .i 2 => 3 | .i _ => 4
  | .vis _ => 9 | .oct _ => 0x0A | .dom _ _ => 0x0F | .win _ _ _ => 0x0F

/-- Least and greatest size of an object in bytes. -/
def ObjTy.sizes (x : Session) : ObjTy → Nat × Nat
  | .u n => (n, n) | .i n => (n, n) | .vis n => (0, n) | .oct n => (n, n) | .dom lo hi => (lo, hi)
  | .win _ c size => (x.sel c * size, x.sel c * size)

/-- Least and greatest value of an integer type. -/
def ObjTy.span : ObjTy → Int × Int
  | .u n => (0, ((256 ^ n - 1 : Nat) : Int))
  | .i n => (-((2 ^ (8 * n - 1) : Nat) : Int), ((2 ^ (8 * n - 1) - 1 : Nat) : Int))
  | _ => (0, 0)

/-- Least and greatest value that a range lets an integer take: of the intervals, or of the fields together. -/
def Rng.span (r : Rng) (ty : ObjTy) : Int × Int :=
  match r with
  | .any => ty.span
  | .iv l => (l.foldl (fun a p => min a p.1) ty.span.2, l.foldl (fun a p => max a p.2) ty.span.1)
  | .fl l =>
    ((l.foldl (fun (a : Nat) f => setBits a f.1 f.2.1 (f.2.2.foldl (fun m p => min m p.1) (2 ^ f.2.1 - 1))) 0 : Nat),
     (l.foldl (fun (a : Nat) f => setBits a f.1 f.2.1 (f.2.2.foldl (fun m p => max m p.2) 0)) ty.span.2.toNat : Nat))

/-- The code of an effect in a description. -/
def Effect.code : Effect → Nat
  | .none => 0 | .I => 1 | .T => 2 | .C => 3 | .S => 4

/-- R465: the description record, as the session's role and world see the object. -/
def ObjRow.describe (r : ObjRow) (x : Session) (idx sub : Nat) : Bytes :=
  let world := !r.secure || x.secure
  let may := fun (o : Option Role) => match o with | some ro => world && ro.le x.role | none => false
  let rd := may r.acc.readRole
  let wr := may r.acc.writeRole
  let code := fun (o : Option Role) (b : Bool) => if b then (o.map Role.code).getD 0xFF else 0xFF
  let kind := if r.acc = .const then 0 else if rd then (if wr then 2 else 1) else if wr then 3
    else if r.acc.readRole.isNone then 3 else if r.acc.writeRole.isNone then 1 else 2
  let removed := decide (0x2138 ≤ idx) && decide (idx ≤ 0x213F) && (sub == 3 || sub == 4)
  let isNum := r.ty.intBytes.isSome
  let span := if isNum then r.rng.span r.ty else (0, 0)
  leBytes 2 r.ty.code ++ leBytes 1 kind ++ leBytes 1 (code r.acc.readRole rd) ++ leBytes 1 (code r.acc.writeRole wr) ++
    leBytes 1 r.eff.code ++ leBytes 1 (b2n r.secure + 2 * b2n (r.acc == .roZero) + 4 * b2n removed + 8 * b2n r.isSelector) ++ [0] ++
    leBytes 4 (r.ty.sizes x).2 ++ leBytes 4 (r.ty.sizes x).1 ++ leBytes 8 (unsignedOf 64 span.1) ++ leBytes 8 (unsignedOf 64 span.2)

/-- R464: DESCRIBE. -/
def describeAct (idx sub : Nat) (x : Session) (s : State) : Response × State :=
  match s.row? idx sub with
  | none => (Response.of .noObject, s)
  | some r => (⟨.ok, r.describe x idx sub, true⟩, s)

def execDescribe (t : Nat) (q : Req) (idx sub : Nat) (s : State) : Host.Outcome State Fault Refusal :=
  .next (route q ⟨5, reqFlags q false, idx, sub, 0, []⟩ (fun _ x s => describeAct idx sub x s) (s.begin t))

/-- R464: PING keeps a session from idling out and touches no object. -/
def execPing (t : Nat) (q : Req) (s : State) : Host.Outcome State Fault Refusal :=
  .next (route q ⟨9, reqFlags q false, 0, 0, 0, []⟩ (fun _ _ s => (Response.of .ok, s)) (s.begin t))

/-- R403, R467: CLOSE ends the client's session on this device at once; a request that executes loses its answer. -/
def closeAct (q : Req) (s : State) : State :=
  if !s.answers || Slip.lost q.who.slip then s
  else if !q.fmtOk then s.reply q.who (Response.of .format)
  else if q.ext.isSome ∧ q.fromDevice = false then s.reply q.who (Response.of .accessDenied)
  else
    let n := match q.ext with | some e => remoteKey e.entry q.who.sess | none => q.who.sess
    match s.session? n with
    | none => s.reply q.who (Response.of .noSession)
    | some x =>
      if !s.pathUp x.path then s
      else if x.assoc ≠ q.who.assoc then s.reply q.who (Response.of .noSession)
      else if x.lastSeq = some q.who.seq then
        match x.stored with
        | some r => s.reply q.who r
        | none => s
      else (s.traffic.endSession n).reply q.who (Response.of .ok)

def execClose (t : Nat) (q : Req) (s : State) : Host.Outcome State Fault Refusal := .next (closeAct q (s.begin t))

/-! ### Transactions (R413) -/

/-- The snapshot of a session's transaction is gone with it (R444). -/
def State.dropSnap (s : State) (sess : Nat) : State := { s with access := { s.access with txnSnaps := del s.access.txnSnaps sess } }

/-- TXN_BEGIN: transactions do not nest. -/
def txnBegin (sess : Nat) (x : Session) (s : State) : Response × State :=
  if x.txn.isSome then (Response.of .deviceState, s)
  else (Response.of .ok, (s.dropSnap sess).updSession sess (fun y => { y with txn := some [], txnBytes := 0 }))

/-- TXN_ABORT: the held writes are discarded. -/
def txnAbort (sess : Nat) (x : Session) (s : State) : Response × State :=
  if x.txn.isNone then (Response.of .deviceState, s)
  else (Response.of .ok, (s.dropSnap sess).updSession sess (fun y => { y with txn := none, txnBytes := 0 }))

/-- One held write as TXN_END applies it: effects I and T wait for the next boundary, C and S take their layers together. -/
def txnApply (sess : Nat) (s : State) (w : Nat × Val) : State :=
  match objRow (muxOf w.1 / 256) (muxOf w.1 % 256) with
  | none => s
  | some r =>
    match r.eff with
    | .C => s.applyVal .C w.1 w.2
    | .S => s.applyVal .S w.1 w.2
    | _ =>
      let h : Held := { time := s.now, key := w.1, val := w.2, txn := some sess }
      let s := { s with held := s.held ++ [h] }
      if userLayer w.1 then s.mirrorVal w.1 w.2 else s

/-- TXN_END: the whole set is applied. -/
def txnEnd (sess : Nat) (x : Session) (s : State) : Response × State :=
  match x.txn with
  | none => (Response.of .deviceState, s)
  | some l => (Response.of .ok, l.foldl (txnApply sess) ((s.dropSnap sess).updSession sess (fun y => { y with txn := none, txnBytes := 0 })))

def execTxnBegin (t : Nat) (q : Req) (s : State) : Host.Outcome State Fault Refusal :=
  .next (route q ⟨6, reqFlags q false, 0, 0, 0, []⟩ (fun who x s => txnBegin who.sess x s) (s.begin t))

def execTxnEnd (t : Nat) (q : Req) (s : State) : Host.Outcome State Fault Refusal :=
  .next (route q ⟨7, reqFlags q false, 0, 0, 0, []⟩ (fun who x s => txnEnd who.sess x s) (s.begin t))

def execTxnAbort (t : Nat) (q : Req) (s : State) : Host.Outcome State Fault Refusal :=
  .next (route q ⟨8, reqFlags q false, 0, 0, 0, []⟩ (fun who x s => txnAbort who.sess x s) (s.begin t))

end Sys2Proof.Machine
end

