-- ==== Sys2Proof/Machine/Canopen.lean ====
section
/-! DEFINITION. The CANopen node (R264, R265, R409, R458 to R460, R466): NMT, heartbeats, PDOs and the SDO server. -/
namespace Sys2Proof.Machine

open Sys2Proof

/-! ### The node (R264, R265) -/

abbrev nmtInit : Nat := 0
abbrev nmtStopped : Nat := 4
abbrev nmtOperational : Nat := 5
abbrev nmtPreOp : Nat := 127

/-- The controller on which the node may run: named, present and in service (R265). -/
def State.nodeController (s : State) : Option Nat :=
  match s.nodeUnit with
  | some u => if s.edgeOn (epCan u) then some u else none
  | none => none

/-- Rewrite the node's state. -/
def State.updNode (s : State) (f : NodeSt → NodeSt) : State :=
  { s with edge := { s.edge with node := f s.edge.node } }

/-- The NMT state. -/
def State.nmt (s : State) : Nat := s.n O.nmtState

/-- Does the node run, so that NMT commands reach it? -/
def State.nodeRuns (s : State) : Bool := s.edge.node.running && s.nodeController.isSome

/-- Is the node Operational, so that PDOs run? -/
def State.pdosRun (s : State) : Bool := s.nodeRuns && s.nmt == nmtOperational

/-- Do SDOs run: Pre-operational or Operational, and the dictionary is served (R265, R400)? -/
def State.sdosRun (s : State) : Bool := s.nodeRuns && (s.nmt == nmtOperational || s.nmt == nmtPreOp) && s.answers

/-- A Classical frame of the node joins its controller. -/
def State.nodeSend (s : State) (num fmt id : Nat) (b : Bytes) : State :=
  match s.nodeController with
  | none => s
  | some u =>
    s.canQueue u ⟨1, num, { fmt := fmt, id := id, brs := false, esi := false, rtr := false, sdt := 0, af := 0, data := b }⟩

/-- The state byte of the boot-up message and of heartbeats, under 0x700 + node-ID. -/
def State.nodeState (s : State) (v : Nat) : State := s.nodeSend 0 0 (0x700 + s.nodeId) (leBytes 1 v)

/-- Operational is entered: a consumer timeout of before no longer shows (R459). -/
def State.enterOperational (s : State) : State :=
  (s.setN O.nmtState nmtOperational).updNode (fun n => { n with hbLost := false })

/-- The node starts: its communication objects stand at their committed values, it sends its boot-up message, and leaves
Initialisation for Pre-operational, or for Operational by *NMT start-up*. -/
def State.nodeBoot (s : State) : State :=
  let s := s.updNode (fun _ => { running := true })
  let s := { s with access := { s.access with sessions := del s.access.sessions 32 } }
  let s := s.nodeState 0
  if s.n O.nmtStartUp = 1 then s.enterOperational else s.setN O.nmtState nmtPreOp

/-- The node stops in Initialisation: its controller has gone, or its unit or node-ID changes (R265). -/
def State.nodeHalt (s : State) : State :=
  let s := s.updNode (fun _ => {})
  ({ s with access := { s.access with sessions := del s.access.sessions 32 } }).setN O.nmtState nmtInit

/-- What a tick boundary does for the node: it starts where its controller serves it, and stops where it does not. -/
def State.nodeBoundary (s : State) : State :=
  match s.nodeController with
  | some _ => if s.edge.node.running then s else s.nodeBoot
  | none => if s.edge.node.running then s.nodeHalt else s

/-- An NMT command reaches the node: node 0 means every node. -/
def State.nmtFor (s : State) (node : Nat) : Bool := s.nodeRuns && (node == 0 || node == s.nodeId)

/-- The running SDO transfer is gone. -/
def State.sdoIdle (s : State) : State := s.updNode (fun n => { n with sdoPhase := 0, sdoBytes := [], sdoPos := 0 })

def nmtStart (node : Nat) (s : State) : State := if s.nmtFor node then s.enterOperational else s

/-- R265: Stopped stops PDO and SDO service only. -/
def nmtStop (node : Nat) (s : State) : State :=
  if s.nmtFor node then s.sdoIdle.setN O.nmtState nmtStopped else s

def nmtPreOperational (node : Nat) (s : State) : State := if s.nmtFor node then s.setN O.nmtState nmtPreOp else s

/-- R265: only the node restarts. -/
def nmtReset (node : Nat) (s : State) : State := if s.nmtFor node then s.nodeBoot else s

def execNmtStart (t node : Nat) (s : State) : Host.Outcome State Fault Refusal := .next (nmtStart node (s.begin t))

def execNmtStop (t node : Nat) (s : State) : Host.Outcome State Fault Refusal := .next (nmtStop node (s.begin t))

def execNmtEnterPreOperational (t node : Nat) (s : State) : Host.Outcome State Fault Refusal :=
  .next (nmtPreOperational node (s.begin t))

def execNmtResetNode (t node : Nat) (s : State) : Host.Outcome State Fault Refusal := .next (nmtReset node (s.begin t))

/-- R265, R460: the committed values are those in force, which staged values do not touch. -/
def nmtResetComm (node : Nat) (s : State) : State := nmtReset node s

def execNmtResetCommunication (t node : Nat) (s : State) : Host.Outcome State Fault Refusal :=
  .next (nmtResetComm node (s.begin t))

/-! ### Heartbeats (R264, R458) -/

/-- The producer heartbeat time has passed: the NMT state goes out. -/
def heartbeatProducer (s : State) : State :=
  if s.nodeRuns && s.n O.producerHeartbeatTime != 0 then s.nodeState s.nmt else s

def execHeartbeatProducerTimer (t : Nat) (s : State) : Host.Outcome State Fault Refusal :=
  .next (heartbeatProducer (s.begin t))

/-- Consumer entry `k`, 0 to 7, has heard no heartbeat for its time: it counts, and waits for the next heartbeat. -/
def heartbeatConsumer (k : Nat) (s : State) : State :=
  let ms := bits (s.n (bySub O.consumerHeartbeatTime k)) 0 16
  match look s.edge.node.hbLast k with
  | none => s
  | some t0 =>
    if s.nodeRuns && decide (k < 8) && ms != 0 && decide (ms * 1000000 ≤ s.now - t0) then
      (s.inc32 O.heartbeatTimeouts).updNode (fun n => { n with hbLost := true, hbLast := del n.hbLast k })
    else s

def execHeartbeatConsumerTimeout (t entry : Nat) (s : State) : Host.Outcome State Fault Refusal :=
  .next (heartbeatConsumer entry (s.begin t))

/-! ### The node's session (R409) -/

/-- The sender that stands for the node in the session layer. -/
def nodeWho : Who := ⟨32, 0, 2 ^ 32, [], none⟩

/-- The one SDO session with a role: it exists from its first use. -/
def State.withNodeSession (s : State) (role : Role) : State :=
  let x := (s.session? 32).getD (freshSession role false .canopen (2 ^ 32) none false 0 s.now)
  { s with access := { s.access with sessions := ins s.access.sessions 32 { x with role := role, secure := false } } }

/-- A write by the node with a role. -/
def nodeWrite (role : Role) (m : Nat) (b : Bytes) (s : State) : Status × State :=
  let s := s.withNodeSession role
  match s.session? 32 with
  | none => (.deviceState, s)
  | some x =>
    let p := writeWhole nodeWho (m / 256) (m % 256) b x s
    (p.1.status, p.2)

/-- A read of a whole value by the node with a role. -/
def nodeRead (role : Role) (m : Nat) (s : State) : Status × Bytes × State :=
  let s := s.withNodeSession role
  match s.session? 32 with
  | none => (.deviceState, [], s)
  | some x =>
    let p := readFrag 32 (m / 256) (m % 256) 0 false false x s
    let whole := if p.1.last then p.1.data
      else match (p.2.session? 32).bind (·.snap) with
        | some e => e.2.1
        | none => p.1.data
    (p.1.status, whole, p.2.updSession 32 (fun y => { y with snap := none }))

/-! ### PDOs (R460) -/

/-- The frame format and identifier of a COB-ID. -/
def cobFmt (v : Nat) : Nat := b2n (bit v 29)

/-- The bytes of a mapping's entries, in order. -/
def mapBytes (l : List Nat) : Nat := l.foldl (fun n v => n + bits v 0 8 / 8) 0

/-- The mapped objects of an RPDO written in order, each with its own effect timing (R265); a write that the role does not permit is
discarded and counted (R409). -/
def applyRpdo (l : List Nat) (b : Bytes) (s : State) : State :=
  (l.foldl (fun (p : Nat × State) v =>
    let n := bits v 0 8 / 8
    (p.1 + n, (nodeWrite s.nodeRole (bits v 8 24) (slice b p.1 n) p.2).2)) (0, s)).2

/-- RPDO `n`, 0 to 63, with its data. -/
def rpdoReceive (n : Nat) (b : Bytes) (s : State) : State :=
  if !(s.pdosRun && s.answers && decide (n < 64) && (pdoId (s.n (byIdx O.rpdoCOBID n))).isSome) then s
  else
    let l := s.pdoMap (0x1600 + n)
    if b.length < mapBytes l then s.inc32 O.rpdoTimeouts
    else
      let s := s.updNode (fun x => { x with rpdoLast := ins x.rpdoLast n s.now })
      if s.n (byIdx O.rpdoTransmissionType n) ≤ 240 then s.updNode (fun x => { x with rpdoHeld := ins x.rpdoHeld n b })
      else applyRpdo l b s

def execRpdoReceive (t n : Nat) (data : Bytes) (s : State) : Host.Outcome State Fault Refusal :=
  .next (rpdoReceive n data (s.begin t))

/-- R458: *RPDO event timer*: so long without receipt counts. -/
def rpdoEventTimer (n : Nat) (s : State) : State :=
  let ms := s.n (byIdx O.rpdoEventTimer n)
  match look s.edge.node.rpdoLast n with
  | none => s
  | some t0 =>
    if s.pdosRun && decide (n < 64) && ms != 0 && decide (ms * 1000000 ≤ s.now - t0) then
      (s.inc32 O.rpdoTimeouts).updNode (fun x => { x with rpdoLast := del x.rpdoLast n })
    else s

def execRpdoEventTimer (t n : Nat) (s : State) : Host.Outcome State Fault Refusal := .next (rpdoEventTimer n (s.begin t))

/-- One mapped object as it stands now: counters live, never a snapshot (R460). -/
def State.sampleOne (s : State) (x : Session) (v : Nat) : Bytes :=
  let n := bits v 0 8 / 8
  let m := bits v 8 24
  match s.row? (m / 256) (m % 256) with
  | none => fill n 0
  | some r => (s.readBytes 32 x r false none (m / 256) (m % 256) ++ fill n 0).take n

/-- The data of TPDO `n` now. -/
def State.sampleTpdo (s : State) (n : Nat) : Bytes :=
  let x := (s.session? 32).getD (freshSession s.nodeRole false .canopen (2 ^ 32) none false 0 s.now)
  (s.pdoMap (0x1A00 + n)).flatMap (s.sampleOne x)

/-- TPDO `n` is sent. -/
def State.sendTpdo (s : State) (n : Nat) : State :=
  match pdoId (s.n (byIdx O.tpdoCOBID n)) with
  | none => s
  | some (ext, id) =>
    let b := s.sampleTpdo n
    let s := s.nodeSend (n + 1) (b2n ext) id b
    s.updNode (fun x => { x with tpdoLast := ins x.tpdoLast n s.now, tpdoData := ins x.tpdoData n b,
                                 tpdoHeld := x.tpdoHeld.filter (fun k => k != n) })

/-- Has the inhibit time of TPDO `n` passed? -/
def State.inhibitOver (s : State) (n : Nat) : Bool :=
  match look s.edge.node.tpdoLast n with
  | none => true
  | some t0 => decide (s.n (byIdx O.tpdoInhibitTime n) * 100000 ≤ s.now - t0)

/-- The event timer of an event-driven TPDO has expired: it is sent, or held by its inhibit time. -/
def tpdoEventTimer (n : Nat) (s : State) : State :=
  let ms := s.n (byIdx O.tpdoEventTimer n)
  let due := match look s.edge.node.tpdoLast n with
    | none => true
    | some t0 => decide (ms * 1000000 ≤ s.now - t0)
  if s.pdosRun && decide (n < 64) && decide (254 ≤ s.n (byIdx O.tpdoTransmissionType n)) && ms != 0 && due then
    if s.inhibitOver n then s.sendTpdo n
    else s.updNode (fun x => { x with tpdoHeld := x.tpdoHeld.filter (fun k => k != n) ++ [n] })
  else s

def execTpdoEventTimer (t n : Nat) (s : State) : Host.Outcome State Fault Refusal := .next (tpdoEventTimer n (s.begin t))

/-- The inhibit time of a held TPDO has run out. -/
def tpdoInhibitTime (n : Nat) (s : State) : State :=
  if s.pdosRun && s.edge.node.tpdoHeld.contains n && s.inhibitOver n then s.sendTpdo n else s

def execTpdoInhibitTime (t n : Nat) (s : State) : Host.Outcome State Fault Refusal := .next (tpdoInhibitTime n (s.begin t))

/-- A SYNC for one synchronous TPDO: its start value, then every type-th SYNC; type 0 when its data have changed. -/
def State.syncTpdo (s : State) (counter n : Nat) : State :=
  let ty := s.n (byIdx O.tpdoTransmissionType n)
  let start := s.n (byIdx O.tpdoSYNCStartValue n)
  if 240 < ty ∨ (pdoId (s.n (byIdx O.tpdoCOBID n))).isNone = true then s
  else if start ≠ 0 ∧ s.edge.node.syncStarted.contains n = false ∧ counter ≠ start then s
  else
    let s := s.updNode (fun x => { x with syncStarted := if x.syncStarted.contains n then x.syncStarted else x.syncStarted ++ [n] })
    if ty = 0 then if look s.edge.node.tpdoData n = some (s.sampleTpdo n) then s else s.sendTpdo n
    else
      let c := get 0 s.edge.node.tpdoSyncs n + 1
      if ty ≤ c then (s.updNode (fun x => { x with tpdoSyncs := ins x.tpdoSyncs n 0 })).sendTpdo n
      else s.updNode (fun x => { x with tpdoSyncs := ins x.tpdoSyncs n c })

/-- A SYNC, with its counter (0: none): held synchronous RPDOs are applied, and synchronous TPDOs are sent. -/
def canSync (counter : Nat) (s : State) : State :=
  if !(s.pdosRun && s.answers) then s
  else
    let held := s.edge.node.rpdoHeld
    let s := s.updNode (fun x => { x with rpdoHeld := [] })
    let s := held.foldl (fun (s : State) e => applyRpdo (s.pdoMap (0x1600 + e.1)) e.2 s) s
    (List.range 64).foldl (fun (s : State) n => s.syncTpdo counter n) s

def execSyncReceive (t counter : Nat) (s : State) : Host.Outcome State Fault Refusal := .next (canSync counter (s.begin t))

/-- Each PDO whose parameters change stops there and starts again from its new parameters (R460); `ks` are the changed keys. -/
def State.restartPdos (s : State) (ks : List Nat) : State :=
  let hit := fun (b n : Nat) => ks.any (fun k => k / 256 == b + n || k / 256 == b + 0x200 + n)
  let rx := (List.range 64).filter (hit 0x1400)
  let tx := (List.range 64).filter (hit 0x1800)
  let cut := fun {α : Type} (l : List Nat) (m : SMap α) => m.filter (fun e => !l.contains e.1)
  s.updNode (fun x =>
    { x with rpdoHeld := cut rx x.rpdoHeld, rpdoLast := cut rx x.rpdoLast, tpdoLast := cut tx x.tpdoLast,
             tpdoSyncs := cut tx x.tpdoSyncs, tpdoHeld := x.tpdoHeld.filter (fun n => !tx.contains n),
             tpdoData := cut tx x.tpdoData, syncStarted := x.syncStarted.filter (fun n => !tx.contains n) })

/-! ### The SDO server (R264, R409, R466) -/

/-- The SDO abort code of a status (R466). -/
def State.abortCode (s : State) (idx : Nat) : Status → Nat
  | .ok => 0
  | .noObject => if (List.range 256).any (fun k => (s.row? idx k).isSome) then 0x06090011 else 0x06020000
  | .readOnly => 0x06010002 | .writeOnly => 0x06010001 | .accessDenied => 0x06010000 | .outOfRange => 0x06090030
  | .length => 0x06070010 | .deviceState => 0x08000022 | .outOfSequence => 0x05040003 | .timeout => 0x05040000
  | .notMappable => 0x06040041 | .alreadyDone => 0x08000020 | .hardware => 0x06060000 | .unknownCommand => 0x05040001
  | .format => 0x08000000 | .updateBusy => 0x08000022 | .noSession => 0x08000022

/-- A response of the SDO server, filled up to 8 bytes. -/
def State.sdoReply (s : State) (b : Bytes) : State := s.nodeSend 100 0 (0x580 + s.nodeId) ((b ++ fill 8 0).take 8)

/-- The server aborts the transfer of object `m`. -/
def State.sdoAbort (s : State) (m code : Nat) : State :=
  s.sdoIdle.sdoReply (leBytes 1 0x80 ++ leBytes 2 (m / 256) ++ leBytes 1 (m % 256) ++ leBytes 4 code)

/-- Abort with the code of a status. -/
def State.sdoRefuse (s : State) (m : Nat) (st : Status) : State := s.sdoAbort m (s.abortCode (m / 256) st)

/-- A transfer of phase `ph` starts. -/
def State.sdoOpen (s : State) (ph m : Nat) (role : Role) (b : Bytes) (blk : Nat) (crc : Bool) : State :=
  s.updNode (fun n => { n with sdoPhase := ph, sdoKey := m, sdoRole := role, sdoBytes := b, sdoPos := 0, sdoBlock := blk, sdoSeq := 0,
                               sdoCrc := crc, toggle := false, sdoLast := s.now })

/-- The head of a reply that names the object. -/
def sdoHead (c m : Nat) : Bytes := leBytes 1 c ++ leBytes 2 (m / 256) ++ leBytes 1 (m % 256)

/-- A value is complete: it is written with the role of the initiation, and the transfer ends with `reply` or an abort. -/
def State.sdoFinish (s : State) (role : Role) (m : Nat) (b reply : Bytes) : State :=
  let p := nodeWrite role m b s
  if p.1 = .ok then p.2.sdoIdle.sdoReply reply else p.2.sdoRefuse m p.1

/-- May the node write the object: checked when a transfer is initiated (R409)? -/
def State.sdoMayWrite (s : State) (m : Nat) : Status := (s.writeCheck ⟨s.nodeRole, false⟩ (m / 256) (m % 256)).1

/-- Initiate download: expedited, or the start of a segmented transfer. -/
def sdoInitDown (c m : Nat) (d : Bytes) (s : State) : State :=
  if bit c 1 then
    let r := (s.row? (m / 256) (m % 256)).bind (fun r => r.ty.intBytes)
    let n := if bit c 0 then 4 - bits c 2 2 else min 4 (r.getD 4)
    s.sdoIdle.sdoFinish s.nodeRole m (slice d 4 n) (sdoHead 0x60 m)
  else if s.sdoMayWrite m ≠ .ok then (s.countDenial (s.sdoMayWrite m)).sdoRefuse m (s.sdoMayWrite m)
  else (s.sdoOpen 1 m s.nodeRole [] 0 false).sdoReply (sdoHead 0x60 m)

/-- Download segment. -/
def sdoDownSeg (c : Nat) (d : Bytes) (s : State) : State :=
  let n := s.edge.node
  if n.sdoPhase ≠ 1 then s.sdoAbort n.sdoKey 0x05040001
  else if bit c 4 ≠ n.toggle then s.sdoAbort n.sdoKey 0x05030000
  else
    let b := n.sdoBytes ++ slice d 1 (7 - bits c 1 3)
    let reply := leBytes 1 (0x20 + 16 * b2n n.toggle)
    if 1048576 < b.length then s.sdoAbort n.sdoKey 0x05040005
    else if bit c 0 then s.sdoFinish n.sdoRole n.sdoKey b reply
    else (s.updNode (fun x => { x with sdoBytes := b, toggle := !x.toggle, sdoLast := s.now })).sdoReply reply

/-- Is the object a DOMAIN, which never moves expedited (R409)? -/
def State.movesWhole (s : State) (m : Nat) : Bool :=
  match s.row? (m / 256) (m % 256) with
  | some r => r.isDomain
  | none => false

/-- Initiate upload. -/
def sdoInitUp (m : Nat) (s : State) : State :=
  let role := s.nodeRole
  let p := nodeRead role m s.sdoIdle
  let b := p.2.1
  if p.1 ≠ .ok then p.2.2.sdoRefuse m p.1
  else if b.length ≤ 4 ∧ b.length ≠ 0 ∧ s.movesWhole m = false then
    p.2.2.sdoReply (sdoHead (0x43 + 4 * (4 - b.length)) m ++ b)
  else (p.2.2.sdoOpen 2 m role b 0 false).sdoReply (sdoHead 0x41 m ++ leBytes 4 b.length)

/-- Upload segment. -/
def sdoUpSeg (c : Nat) (s : State) : State :=
  let n := s.edge.node
  if n.sdoPhase ≠ 2 then s.sdoAbort n.sdoKey 0x05040001
  else if bit c 4 ≠ n.toggle then s.sdoAbort n.sdoKey 0x05030000
  else
    let part := slice n.sdoBytes n.sdoPos 7
    let last := decide (n.sdoBytes.length ≤ n.sdoPos + 7)
    let s := if last then s.sdoIdle
      else s.updNode (fun x => { x with sdoPos := x.sdoPos + 7, toggle := !x.toggle, sdoLast := s.now })
    s.sdoReply (leBytes 1 (16 * b2n n.toggle + 2 * (7 - part.length) + b2n last) ++ part)

/-- Initiate block download: blocks of 127 segments. -/
def sdoInitBlockDown (c m : Nat) (s : State) : State :=
  if s.sdoMayWrite m ≠ .ok then (s.countDenial (s.sdoMayWrite m)).sdoRefuse m (s.sdoMayWrite m)
  else (s.sdoOpen 3 m s.nodeRole [] 127 (bit c 2)).sdoReply (sdoHead 0xA4 m ++ leBytes 1 127)

/-- A segment of a block download: taken in sequence; the end of the block, or of the data, is acknowledged. -/
def sdoBlockSeg (c : Nat) (d : Bytes) (s : State) : State :=
  let n := s.edge.node
  let seq := bits c 0 7
  let good := decide (seq = n.sdoSeq + 1)
  let b := if good then n.sdoBytes ++ slice d 1 7 else n.sdoBytes
  let ack := if good then seq else n.sdoSeq
  if 1048583 < b.length then s.sdoAbort n.sdoKey 0x05040005
  else
    let fin := bit c 7 && good
    let block := fin || bit c 7 || decide (n.sdoBlock ≤ seq)
    let s := s.updNode (fun x => { x with sdoBytes := b, sdoSeq := if block then 0 else ack, sdoLast := s.now,
                                          sdoPhase := if fin then 4 else 3 })
    if block then s.sdoReply (leBytes 1 0xA2 ++ leBytes 1 ack ++ leBytes 1 n.sdoBlock) else s

/-- End of a block download: the CRC, and the write. -/
def sdoEndBlockDown (c : Nat) (d : Bytes) (s : State) : State :=
  let n := s.edge.node
  if n.sdoPhase ≠ 4 then s.sdoAbort n.sdoKey 0x05040001
  else
    let b := n.sdoBytes.take (n.sdoBytes.length - bits c 2 3)
    if n.sdoCrc && crc16 b != fld d 1 2 then s.sdoAbort n.sdoKey 0x05040004
    else s.sdoFinish n.sdoRole n.sdoKey b (leBytes 1 0xA1)

/-- Initiate block upload. -/
def sdoInitBlockUp (c m : Nat) (d : Bytes) (s : State) : State :=
  let blk := fld d 4 1
  if blk = 0 ∨ 127 < blk then s.sdoAbort m 0x05040002
  else
    let role := s.nodeRole
    let p := nodeRead role m s.sdoIdle
    if p.1 ≠ .ok then p.2.2.sdoRefuse m p.1
    else (p.2.2.sdoOpen 5 m role p.2.1 blk (bit c 2)).sdoReply (sdoHead 0xC6 m ++ leBytes 4 p.2.1.length)

/-- One block of an upload goes out, from the first byte not acknowledged. -/
def State.sdoBlockOut (s : State) : State :=
  let n := s.edge.node
  let total := max 1 (ceilDiv (n.sdoBytes.length - n.sdoPos) 7)
  let k := min n.sdoBlock total
  let s := (List.range k).foldl (fun (s : State) i =>
    s.sdoReply (leBytes 1 (i + 1 + 128 * b2n (i + 1 == total)) ++ slice n.sdoBytes (n.sdoPos + 7 * i) 7)) s
  s.updNode (fun x => { x with sdoPhase := 6, sdoSeq := k, sdoLast := s.now })

/-- The client acknowledges segments of a block upload and names the size of the next block. -/
def sdoBlockAck (d : Bytes) (s : State) : State :=
  let n := s.edge.node
  let ack := fld d 1 1
  let blk := fld d 2 1
  if n.sdoPhase ≠ 6 then s.sdoAbort n.sdoKey 0x05040001
  else if n.sdoSeq < ack then s.sdoAbort n.sdoKey 0x05040003
  else if blk = 0 ∨ 127 < blk then s.sdoAbort n.sdoKey 0x05040002
  else
    let pos := n.sdoPos + 7 * ack
    if n.sdoBytes.length ≤ pos ∧ ack ≠ 0 then
      let s := s.updNode (fun x => { x with sdoPhase := 7, sdoPos := n.sdoBytes.length, sdoLast := s.now })
      s.sdoReply (leBytes 1 (0xC1 + 4 * (pos - n.sdoBytes.length)) ++ leBytes 2 (if n.sdoCrc then crc16 n.sdoBytes else 0))
    else (s.updNode (fun x => { x with sdoPos := pos, sdoBlock := blk })).sdoBlockOut

/-- R409: a request of the SDO client, 8 bytes. -/
def sdoRequest (d : Bytes) (s : State) : State :=
  if !s.sdosRun || d.length != 8 then s
  else
    let c := fld d 0 1
    let m := mux (fld d 1 2) (fld d 3 1)
    let n := s.edge.node
    let cs := bits c 5 3
    if n.sdoPhase = 3 ∧ bits c 0 7 ≠ 0 then sdoBlockSeg c d s
    else if cs = 1 then sdoInitDown c m d s
    else if cs = 0 then sdoDownSeg c d s
    else if cs = 2 then sdoInitUp m s
    else if cs = 3 then sdoUpSeg c s
    else if cs = 4 then s.sdoIdle
    else if cs = 6 then if bit c 0 then sdoEndBlockDown c d s else sdoInitBlockDown c m s
    else if cs = 5 then
      if bits c 0 2 = 0 then sdoInitBlockUp c m d s
      else if bits c 0 2 = 3 then if n.sdoPhase = 5 then s.sdoBlockOut else s.sdoAbort n.sdoKey 0x05040001
      else if bits c 0 2 = 2 then sdoBlockAck d s
      else if n.sdoPhase = 7 then s.sdoIdle else s.sdoAbort n.sdoKey 0x05040001
    else s.sdoAbort m 0x05040001

def execSdoRequest (t : Nat) (data : Bytes) (s : State) : Host.Outcome State Fault Refusal :=
  .next (sdoRequest data (s.begin t))

/-- R409: a gap of more than 1 s aborts the transfer. -/
def sdoTimeout (s : State) : State :=
  let n := s.edge.node
  if s.sdosRun && n.sdoPhase != 0 && decide (1000000000 < s.now - n.sdoLast) then s.sdoAbort n.sdoKey 0x05040000 else s

def execSdoTimeout (t : Nat) (s : State) : Host.Outcome State Fault Refusal := .next (sdoTimeout (s.begin t))

end Sys2Proof.Machine
end

