-- ==== Sys2Proof/Machine/Switch.lean ====
section
/-! DEFINITION. A plan generation takes effect at its switch tick (R58, R59, R63, R79, R80, R97, R99, R108, R118, R121, R148,
R152, R158, R159, R167, R199, R246, R281, R286, R334, R338, R348, R359, R390, R460). -/
namespace Sys2Proof.Machine

open Sys2Proof

/-! ### Slots (R58, R59, R79, R97) -/

/-- A slot that a switch makes ACTIVE with a record: newer staged content is measured against the new record. -/
def State.slotActive (s : State) (since : List Nat) (slot : Nat) (r : Bytes) : State :=
  let s := s.setBlob (activeKey slot) r
  if since.contains slot then
    s.setN (slotStateKey slot) (if (s.stagedRec slot).isSome then slSTAGEDCHANGE
      else if s.plan.stagedDel.contains slot then slSTAGEDDELETE else slACTIVE)
  else (s.dropStaged slot).setN (slotStateKey slot) slACTIVE

/-- A slot that a switch empties. -/
def State.slotEmpty (s : State) (since : List Nat) (slot : Nat) : State :=
  let s := { s with dict := { s.dict with blobs := del s.dict.blobs (activeKey slot) } }
  if since.contains slot ∧ (s.stagedRec slot).isSome = true then s.setN (slotStateKey slot) slSTAGEDNEW
  else (s.dropStaged slot).enterSlot slot slEMPTY

/-- A slot that a switch makes BROKEN: one event, and staging written after the snapshot applies to its BROKEN state. -/
def State.slotBroken (s : State) (since deleted : List Nat) (slot : Nat) : State :=
  let cid := fld (s.blob (activeKey slot)) 0 4
  let late := since.contains slot
  let st := if late ∧ (s.stagedRec slot).isSome = true then slSTAGEDNEW
    else if late ∧ (s.plan.stagedDel.contains slot || deleted.contains slot) = true then slEMPTY else slBROKEN
  let s := if st = slSTAGEDNEW then s else s.dropStaged slot
  (s.enterSlot slot st).logLead Ev.contractBroken 0xFFFF [(2, slot), (4, cid)]

/-- The slots as a plan leaves them: staged changes and deletes, SHED slots that return or do not fit, dependants of a disabled
function. -/
def State.switchSlots (s : State) (p : Plan) : State :=
  let s := p.taken.foldl (fun (s : State) e =>
    if p.broken.contains e.1 then s
    else
      match e.2 with
      | some r => s.slotActive p.since e.1 r
      | none => s.slotEmpty p.since e.1) s
  let back := p.contracts.filter (fun e => (look p.taken e.1).isNone && s.slotState e.1 == slSHED)
  let s := back.foldl (fun (s : State) e => s.setN (slotStateKey e.1) slACTIVE) s
  let since := p.since ++ (keys s.stagedSlots).filter (fun k => (look p.taken k).isNone)
  (p.broken ++ p.shedOut).foldl (fun (s : State) k => s.slotBroken since p.deleted k) s

/-- R148: the counters of a slot that becomes ACTIVE from EMPTY or BROKEN restart at 0; FRER, budget and meters of contracts that
have gone, go. -/
def State.switchStreams (s old : State) (p : Plan) : State :=
  let fresh := p.contracts.filter (fun e => (look old.plan.active.contracts e.1).isNone && old.slotState e.1 != slSHED)
  let s := fresh.foldl (fun (s : State) e => s.setBlob (at_ O.streamCounters e.1) (fill 64 0)) s
  let here := fun (k : Nat) => (look p.contracts k).isSome && (look fresh k).isNone
  let fw := s.fwd
  { s with fwd := { fw with frerSeq := fw.frerSeq.filter (fun e => here e.1), recovery := fw.recovery.filter (fun e => here (e.1 % 8192)),
                            budget := fw.budget.filter (fun e => here e.1) } }

/-- R167: a meter's parameters change: tokens carry over, clipped to smaller bursts. -/
def MeterSt.change (m new : MeterSt) (now : Nat) : MeterSt :=
  let m := m.accrue now
  { new with ct := min new.ct m.ct, st := min new.st m.st, green := m.green, yellow := m.yellow, red := m.red }

/-- The meters of contracts and passes after a switch: new ones start full, the others change (R168, R180). -/
def State.switchMeters (s : State) : State :=
  let next := s.planMeters.map (fun e =>
    match look s.fwd.meters e.1 with
    | some m => (e.1, m.change e.2 s.now)
    | none => e)
  { s with fwd := { s.fwd with meters := next } }

/-! ### Lanes (R108, R121, R159, R161) -/

/-- An integer object differs from what it was. -/
def State.changed (s old : State) (k : Nat) : Bool := s.o k != old.o k

/-- A byte string differs from what it was. -/
def State.changedBlob (s old : State) (k : Nat) : Bool := s.blob k != old.blob k

/-- R121: a disabled lane: queued frames are dropped and counted, it leaves service and its group. -/
def State.disableLane (s : State) (n : Nat) : State :=
  let on := s.inService n
  let s := (s.drainLane n).setN (laneKey O.linkStatus n) 0
  let s := s.updLane n (fun l => { l with upSince := none, lossSince := none })
  let s := s.setN (laneSub O.preemptionStatus n) 0
  if on then s.lagFailover n s.now else s.refreshLag n

/-- R108, R161: a new mode, polarity or preemption setting: queued frames are dropped, the PCS retrains, and the lane returns with
its contract traffic. -/
def State.retrainLane (s : State) (n : Nat) : State :=
  let was := s.lane n
  let s := if s.inService n then s.loseSignal n else (s.drainLane n).breakHoldOff n
  let s := (((s.setLink n lkLOCK false).setLink n lkANDONE false).setLink n lkRATEMISMATCH false).setN (laneKey O.resolvedRate n) 0xFF
  (s.setN (laneSub O.preemptionStatus n) 0).updLane n (fun l =>
    { l with contractOk := was.contractOk, lostAt := was.lostAt, upSince := none, lossSince := none })

/-- R106: negotiation is turned off or on by a commit.  Off, it counts as not used, and a mismatch is over; on, it runs anew. -/
def State.switchAutoneg (s : State) (n : Nat) : State :=
  let s := s.setN (laneKey O.resolvedRate n) 0xFF
  if s.usesAutoneg n then (s.setLink n lkANDONE false).breakHoldOff n
  else
    let s := s.setLink n lkRATEMISMATCH false
    if s.link n lkLOCK then ((s.setLink n lkANDONE true).setLink n lkSIGNAL true).tryHoldOff n else s

/-- One lane after the committed objects have changed.  One that has not lost signal since the commit began carries contract traffic again
(R108); one whose verification failed tries again (R161). -/
def State.switchLane (s old : State) (inService snapAt n : Nat) : State :=
  let was := old.n (laneKey O.laneEnable n)
  let now := s.n (laneKey O.laneEnable n)
  let s := if bit inService n ∧ (s.lane n).lostAt ≤ snapAt then s.updLane n (fun l => { l with contractOk := true }) else s
  if was = 1 ∧ now ≠ 1 then s.disableLane n
  else if now = 1 ∧ [laneKey O.laneMode n, laneKey O.polarity n, bySub O.preemptionEnable n, bySub O.preemptionVerify n,
      bySub O.additionalFragmentSize n, bySub O.preemptibleClasses n].any (s.changed old) = true then s.retrainLane n
  else if now = 1 ∧ s.n (laneSub O.preemptionStatus n) = 3 then (s.setN (laneSub O.preemptionStatus n) 0).tryHoldOff n
  else if now = 1 ∧ s.changed old (laneKey O.autoNegotiation n) = true then s.switchAutoneg n
  else s

/-- R159: the administrative list of a lane ends where its objects change or the plan places a window. -/
def State.switchAdmin (s old : State) (p : Plan) (n : Nat) : State :=
  let k := fun (m : Nat) => at_ m n
  let moved := s.changed old (k O.adminCycle) || s.changed old (k O.adminBaseTime) || s.changedBlob old (k O.adminEntries)
  let windows := (get {} p.lanes n).list.any (fun e => e.owner != 0xFFFF)
  let ignored := bit (s.n (k O.adminFlags)) 2
  let s := if moved then (s.setN (k O.adminFlags) 0).setN (k O.adminStartTick) 0 else s
  if windows ∧ s.n (k O.adminCycle) ≠ 0 then
    (s.updLane n (fun l => { l with adminRunning := false })).setN (k O.adminFlags) (setBit (s.n (k O.adminFlags)) 2 true)
  else
    let s := s.setN (k O.adminFlags) (setBit (s.n (k O.adminFlags)) 2 false)
    if moved then s.updLane n (fun l => { l with adminRunning := false, adminSince := p.switchTick })
    else if ignored then s.updLane n (fun l => { l with adminSince := p.switchTick }) else s

/-- The gate lists, shapers and credits of the plan; a lane whose administrative list has ended takes up the plan's. -/
def State.switchLists (s old : State) (p : Plan) : State :=
  let s := (List.range s.laneCount).foldl (fun (s : State) n => s.switchAdmin old p n) s
  let s := (s.loadLanes p.lanes).loadShapers s.view
  (List.range s.laneCount).foldl (fun (s : State) n =>
    if (old.lane n).adminRunning ∧ (s.lane n).adminRunning = false ∧ (s.lane n).gateRunning = true then s.seekGate n else s) s
    |>.showAdminBands

/-! ### Rings and mirrors (R118, R143) -/

/-- A ring that is enabled starts at descriptor 0; one disabled gives back the chains not yet started (R118, R149). -/
def State.switchRings (s old : State) : State :=
  (List.range (16 * s.variant)).foldl (fun (s : State) q =>
    let d := q / 16
    let r := q % 16
    let on := fun (m : Nat) => s.n (ringKey m d r) == 1 && old.n (ringKey m d r) != 1
    let s := if on O.ringEnable then s.setN (ringKey O.nextDescriptor d r) 0 else s
    if on O.transmitRingEnable then
      { s with fwd := { s.fwd with txSkip := del s.fwd.txSkip q, draining := s.fwd.draining.filter (· ≠ q) } }.setN (ringKey O.nextTransmitDescriptor d r) 0
    else if s.n (ringKey O.transmitRingEnable d r) ≠ 1 ∧ old.n (ringKey O.transmitRingEnable d r) = 1 then
      { s with fwd := { s.fwd with draining := s.fwd.draining ++ [q] } }
    else s) s

/-- R143: a disabled mirror session drops the copies already queued, and counts them. -/
def State.drainMirror (s : State) (i : Nat) : State :=
  let k := s.lanes.foldl (fun n e => n + (e.2.queues.filter (fun f => f.mirror == i + 1)).length) 0
  let s := { s with lanes := mapVals (fun (l : LaneSt) => { l with queues := l.queues.filter (fun f => f.mirror != i + 1) }) s.lanes }
  s.addTo (byIdx O.copiesDropped i) k (2 ^ 64 - 1)

def State.switchMirrors (s old : State) : State :=
  (List.range 8).foldl (fun (s : State) i =>
    if old.n (byIdx O.sessionEnable i) = 1 ∧ s.n (byIdx O.sessionEnable i) ≠ 1 then s.drainMirror i else s) s

/-! ### Secure channels and keys (R315, R334, R338) -/

/-- A channel whose record changes while it is enabled loses its SAs; one that leaves its lane drops what the lane holds. -/
def State.switchChannels (s old : State) : State :=
  let cs := ((keys old.dict.blobs).filter (fun k => muxOf k == O.channelRecords)).filter (fun k =>
    bit (fld (old.blob k) 2 1) 0 && s.changedBlob old k)
  cs.foldl (fun (s : State) k =>
    let c := itemOf k
    let n := chLane (old.blob k)
    let s := s.drainChannel c
    if bit (fld (s.blob k) 2 1) 0 = false ∨ chLane (s.blob k) ≠ n then s.drainLane n else s) s

/-- The dies of enabled channels take the values of their CAK slots. -/
def State.switchKeys (s : State) : State :=
  s.channelsOn.foldl (fun (s : State) c => keyDelivered (c / 64) (chCak (s.channelRec c)) (keyRequest (c / 64) (chCak (s.channelRec c)) s)) s

/-! ### Gateway, edge units, Cirque (R242, R246, R247, R280, R281, R286) -/

/-- Counters of changed records restart; a mapping whose source changes has no value. -/
def State.switchGateway (s old : State) : State :=
  let ms := ((keys s.dict.blobs ++ keys old.dict.blobs).filter (fun k => muxOf k == O.messageRecords && s.changedBlob old k)).map itemOf
  let ks := ((keys s.dict.blobs ++ keys old.dict.blobs).filter (fun k => muxOf k == O.mappingRecords && s.changedBlob old k)).map itemOf
  let moved := fun (k : Nat) => (ks.contains k && slice (s.mapping k) 2 14 != slice (old.mapping k) 2 14) || ms.contains (mpSource (s.mapping k))
  { s with edge := { s.edge with
      msgs := s.edge.msgs.filter (fun e => !ms.contains e.1),
      maps := s.edge.maps.filter (fun e => !ks.contains e.1),
      cells := s.edge.cells.filter (fun e => !moved e.1) } }

/-- R369, R356: the edge message RAM of a die whose EDGE domain comes up is clear. -/
def State.switchDomains (s old : State) : State :=
  s.dies.foldl (fun (s : State) d =>
    if s.edgeDomain d && !old.edgeDomain d then
      { s with bridge := { s.bridge with edgeRam := del (del s.bridge.edgeRam (2 * d)) (2 * d + 1) } }
    else s) s

/-- Inputs that no instance holds any more are gone, inputs whose record changes restart, outputs that are mixed no more fade,
and a disabled TDM port has no status. -/
def State.switchCirque (s old : State) : State :=
  let keep := fun (e : Nat × InputSt) => (s.inputsOn (e.1 / 1024)).contains (e.1 % 1024)
  let again := fun (e : Nat × InputSt) => if s.changedBlob old (at_ O.inputRecords (e.1 % 1024)) then (e.1, e.2.restart) else e
  let s := { s with audio := { s.audio with handover := false, inputs := (s.audio.inputs.filter keep).map again } }
  let s := s.fadeOutputs.failAnnouncements
  (List.range (2 * s.variant)).foldl (fun (s : State) u =>
    if s.n (byIdx O.tdmEnable u) ≠ 1 ∧ old.n (byIdx O.tdmEnable u) = 1 then s.setN (byIdx O.tdmStatus u) 0 else s) s

/-! ### Quarantine (R359, R390) -/

/-- Dies newly held enter quarantine. -/
def State.switchHold (s old : State) : State :=
  let new := s.n O.dieServiceHold
  let was := old.n O.dieServiceHold
  let dies := maskOf ((List.range 8).filter (fun d => bit new d && !bit was d))
  if dies = 0 then s else s.enterQuarantine dies

/-! ### The switch -/

/-- The status objects of a switch (R60, R61, R63, R99). -/
def State.switchStatus (s : State) (p : Plan) : State :=
  let s := (s.setN O.activeGeneration p.gen).setN O.generationSwitchTick s.tickNo
  let s := if s.n O.pendingGeneration = p.gen then (s.setN O.pendingGeneration 0).setN O.pendingSwitchTick 0 else s
  let s := if s.commitStatus = csSWITCHPENDING ∧ s.n O.newGeneration = p.gen ∧ p.migration = false then
      (s.setN O.commitStatus csSWITCHED).setN O.switchTick s.tickNo
    else s
  let s := if p.migration ∧ s.n O.migrationStatus = msSWITCHPENDING ∧ s.n O.migrationGeneration = p.gen then
      (s.setN O.migrationStatus msSWITCHED).logLead Ev.migrationEnded 0xFFFF [(1, msSWITCHED), (4, p.gen)]
    else s
  if p.migration then s else s.setN O.faultPlanInForce 0

/-- A plan takes effect. -/
def State.switchTo (s : State) (p : Plan) (rest : List Plan) : State :=
  let old := s
  let s := (List.range s.laneCount).foldl (fun (s : State) n => s.accrue n) s
  let s := s.switchSlots p
  let s := { s with dict := s.dict.excess p.dict, staged := s.staged.minus p.dict }
  let s := { s with plan := { s.plan with active := { p with switchTick := s.tickNo, lanes := old.plan.active.lanes }, pending := rest,
                                          cases := p.caseSts, base := [], urgent := [] } }
  let s := (s.switchStatus p).switchStreams old p
  let s := (List.range s.laneCount).foldl (fun (s : State) n => s.switchLane old p.inService p.snapAt n) s
  let s := (s.switchLists old p).switchMeters
  let s := (List.range 32).foldl (fun (s : State) g => s.setN (byIdx O.membersInService g) (maskOf (s.lagActive g))) s
  let s := ((s.switchRings old).switchMirrors old).switchConns old |>.startMoves old
  let s := (s.switchChannels old).switchKeys
  let s := ((((s.switchDomains old).drainUnits.drainJobs).loseJobs).refreshLookAside).refreshInstances
  let s := (s.switchGateway old).switchCirque old
  let s := s.restartPdos ((keys p.dict.objs).filter (s.changed old))
  let s := { s with plan := { s.plan with
      talkers := s.plan.talkers.filter (fun k => (look p.contracts k.slot).isSome),
      listeners := s.plan.listeners.filter (fun k => (look p.contracts k.slot).isSome) } }
  let s := s.redeclare old.plan.active.bounds
  let s := s.setBlob O.planHash (planHashOf s p.contracts p.place)
  let s := { s with update := { s.update with planFormat := fld (s.image s.pkg.lead s.update.running) 6 2, planPeriod := s.n O.tickPeriodCode },
                    pkg := { s.pkg with planOk := true } }
  let s := { s with pkg := { s.pkg with mirror := s.dict } }
  ((s.refreshCounts.refreshCases.refreshPartitions).switchHold old).leaveQuarantine

/-- R33, R34: at a tick boundary, the plan that waits first takes effect once its switch tick has come.  A stretch tick does not
switch. -/
def generationSwitch (s : State) : State :=
  match s.plan.pending with
  | [] => s
  | p :: rest => if s.tickNo < p.switchTick ∨ s.tick.stretch.isSome = true then s else s.switchTo p rest

def execGenerationSwitch (t : Nat) (s : State) : Host.Outcome State Fault Refusal := .next (generationSwitch (s.begin t))

/-- R44, R47: the switch could not take place at its tick: it is retried at the next boundary, and the announced tick follows. -/
def State.delaySwitch (s : State) : State :=
  match s.plan.pending with
  | [] => s
  | p :: rest =>
    if s.tickNo < p.switchTick then s
    else
      let t := s.tickNo + 1
      let s := { s with plan := { s.plan with pending := { p with switchTick := t } :: rest } }
      let s := if s.n O.newGeneration = p.gen then s.setN O.switchTick t else s
      if s.n O.pendingGeneration = p.gen then s.setN O.pendingSwitchTick t else s

end Sys2Proof.Machine
end

