-- ==== Sys2Proof/Machine/Boundary.lean ====
section
/-! DEFINITION. The tick boundary and the cyclic work of the tick that follows (chapter 2, R34, R35, R47, R48; R6, R99, R167, R383,
R440, R442, R444). -/
namespace Sys2Proof.Machine

open Sys2Proof

/-! ### Overruns (R47, R48) -/

/-- Does die `d`'s resource `code` overrun the tick, by a list of overruns? -/
def overruns (l : List Nat) (d code : Nat) : Bool := l.contains (8 * d + code)

/-- Has a resource of this code on any die overrun? -/
def anyOverrun (l : List Nat) (code : Nat) : Bool := l.any (fun k => k % 8 == code)

/-- Dies whose resource of a code overruns the tick. -/
def State.diesOver (s : State) (l : List Nat) (code : Nat) : List Nat := s.dies.filter (fun d => overruns l d code)

/-- R48: three consecutive overruns of a resource escalate. -/
def State.escalate (s : State) (d code : Nat) : State :=
  if code = 0 then s.regionFault (2 * d + 1) 1
  else if code = 1 then s.regionFault (2 * d) 1
  else if code = 2 ∨ code = 3 then s.regionFault (2 * d + (code - 2)) 1
  else s.dieFault d 6 s.now

/-- One overrun of tick `n`: counted, logged, and the third in a row escalates. -/
def State.overrunOne (n : Nat) (s : State) (k : Nat) : State :=
  let d := k / 8
  let code := k % 8
  if !s.dieUp d || decide (5 < code) then s
  else
    let s := (s.inc32 (bySub O.tickOverrunCounters k)).logEv d Ev.tickOverrun 0xFFFF [(1, d), (1, code), (8, n)]
    let run := get 0 s.tick.runs k + 1
    if run < 3 then { s with tick := { s.tick with runs := put 0 s.tick.runs k run } }
    else { s with tick := { s.tick with runs := del s.tick.runs k } }.escalate d code

/-- The overruns of the tick `n` that has ended; a resource without one starts its run again. -/
def State.endOverruns (s : State) (n : Nat) : State :=
  let l := s.tick.excess
  let s := { s with tick := { s.tick with runs := s.tick.runs.filter (fun e => l.contains e.1), excess := [] } }
  l.foldl (State.overrunOne n) s

/-! ### The Boundary phase (R6, R34, R167) -/

/-- The objects a plan about to switch changes. -/
def Dict.lists (d : Dict) (k : Nat) : Bool := (look d.objs k).isSome || (look d.blobs k).isSome

/-- One held value takes effect, with what follows from it at once. -/
def State.applyHeld (s : State) (h : Held) : State :=
  let m := muxOf h.key
  if m / 256 = O.bestEffortRateLimit / 256 then
    let n := m % 256 - 1
    ((s.accrueBe n).setVal h.key h.val).accrueBe n
  else
    let s := s.setVal h.key h.val
    if h.key = O.emergencyCommand then s.setEmergency s.ballLow (s.n O.emergencyCommand == 1)
    else if (h.key = O.canopenUnit ∨ h.key = O.nodeID) ∧ s.edge.node.running = true then s.nodeHalt
    else s

/-- A value that the plan switch of this boundary also changes is discarded and logged. -/
def State.applyOrDiscard (changed : Dict) (s : State) (h : Held) : State :=
  if changed.lists h.key then s.logLead Ev.parameterDiscarded 0xFFFF [(2, muxOf h.key / 256), (1, muxOf h.key % 256)]
  else s.applyHeld h

/-- The die whose boundary engine applies a held value: the die of its object, the lead for an object of the package. -/
def State.engineOf (s : State) (k : Nat) : Nat :=
  let idx := muxOf k / 256
  let sub := muxOf k % 256
  ((objRow idx sub).bind (fun r => r.scope.die idx sub)).getD s.pkg.lead

/-- R6, R412: the values that completed before the boundary's nominal instant take effect, oldest first, and those of transactions
after them: they overwrite what another session wrote (R413).  A value whose die's boundary engine overruns waits for the next boundary
(R47). -/
def State.applyAllHeld (s : State) (changed : Dict) (late : List Nat) : State :=
  let now := fun (h : Held) => decide (h.time < s.now) && !late.contains (s.engineOf h.key)
  let due := s.held.filter now
  let s := { s with held := s.held.filter (fun h => !now h) }
  (due.filter (fun h => h.txn.isNone) ++ due.filter (fun h => h.txn.isSome)).foldl (State.applyOrDiscard changed) s

/-- The Boundary phase: the TAMPER and WAKE wires of the tick before fall (DESIGN CHOICE, log 101); the grants that Summit computed, the switch, then the held values; the switch of the package waits for every
boundary engine (R47). -/
def State.boundaryPhase (s : State) (b : BoundaryFacts) : State :=
  let nodeWas := s.edge.node.running
  let s := { s with pkg := { s.pkg with tamperWire := 0, wakeWire := 0 } }
  let s := s.grantInForce.beginSchedules
  let gen := s.plan.active.gen
  let s := if anyOverrun b.overruns 5 then s.delaySwitch else generationSwitch s
  let s := s.applyAllHeld (if s.plan.active.gen = gen then {} else s.plan.active.dict) (s.diesOver b.overruns 5)
  let s := s.refreshInstances
  if nodeWas && !s.edge.node.running then s else s.nodeBoundary

/-! ### Counter snapshot (R35, R444) -/

/-- The snapshot latched at the last boundary is complete, unless the management share of tick `n` overran; a new one is
latched. -/
def State.snapshotPhase (s : State) (n : Nat) (incomplete : Bool) : State :=
  let s :=
    if incomplete then s.inc32 O.incompleteSnapshots
    else { s with tick := { s.tick with snapshot := s.tick.latched } }.setN O.snapshotTick n
  { s with tick := { s.tick with latched := s.counters } }

/-! ### The event log (R439, R440, R442) -/

/-- One area of a log with one record more: the oldest gives way when it is full. -/
def logInto (cap : Nat) (l : List EventRec) (e : EventRec) : List EventRec × Bool :=
  if l.length < cap then (l ++ [e], false) else (l.drop 1 ++ [e], true)

/-- Does a record belong to the fault history (R439)? -/
def EventRec.historic (e : EventRec) : Bool :=
  decide (1 ≤ e.tier) || e.code == Ev.temperature.code || e.code == Ev.voltage.code || e.code == Ev.tamper.code ||
    e.code == Ev.tamperClear.code

/-- One record written to MRAM. -/
def DieLog.write (l : DieLog) (e : EventRec) : DieLog :=
  let g := logInto 27648 l.general e
  let excess := if g.2 then upd 0 l.overwritten 0 (fun n => satN (2 ^ 32 - 1) (n + 1)) else l.overwritten
  if e.historic then
    let h := logInto 1024 l.history e
    { l with general := g.1, history := h.1,
             overwritten := if h.2 then upd 0 excess 1 (fun n => satN (2 ^ 32 - 1) (n + 1)) else excess }
  else { l with general := g.1, overwritten := excess }

/-- R442: the host's word of a record of an enabled tier. -/
def State.hostEvent (s : State) (e : EventRec) : State :=
  if bit (s.n O.hostEventFilter) e.tier then
    if s.bridge.fifo.length < 256 then
      let s := { s with bridge := { s.bridge with fifo := s.bridge.fifo ++ [e.word] } }
      match s.endpoint with
      | some d => s.raiseInt d 33
      | none => s
    else s.inc32 O.hostEventsDropped
  else s

/-- The records of one die that wait in management SRAM are written to its log, in their order. -/
def State.writeLog (s : State) (d : Nat) : State :=
  let w := (s.log d).waiting
  let s := { s with logs := upd {} s.logs d (fun l => w.foldl DieLog.write { l with waiting := [] }) }
  let s := s.logBytes d (32 * (w.length + (w.filter EventRec.historic).length))
  w.foldl State.hostEvent s

/-- Every healthy die writes what waits; a failed die writes nothing more. -/
def State.writeLogs (s : State) : State := s.upDies.foldl State.writeLog s

/-! ### The work of the tick (R34) -/

/-- Regions whose injection path overruns the tick. -/
def State.regionsOver (s : State) (l : List Nat) : List Nat :=
  (s.diesOver l 2).map (fun d => 2 * d) ++ (s.diesOver l 3).map (fun d => 2 * d + 1)

/-- Gather, Compute and Emit: Cirque mixes and the gateway sends; what stands still does neither (R321, R370), and in a datapath
pause every die's outputs are those of an overrun (R434). -/
def State.cyclicWork (s : State) (b : BoundaryFacts) : State :=
  let l := if s.paused_ then s.dies.flatMap (fun d => (List.range 4).map (fun c => 8 * d + c)) else b.overruns
  if s.quiet then s
  else ((((s.handed b.avail).cirqueTick (s.diesOver l 0) (s.regionsOver l)).gatewayTick (s.diesOver l 1) (s.regionsOver l)).settleTx)

/-- Readings taken at the boundary (R445, R446, R448, R451). -/
def State.readings (s : State) (b : BoundaryFacts) : State :=
  let s := s.dies.foldl (fun (s : State) d => s.tempDie b.temps d) s
  let s := b.volts.foldl (fun (s : State) e => s.voltReading e.1 e.2) s
  let s := b.tests.foldl (fun (s : State) e => s.testCount e.1 e.2.1 e.2.2) s
  b.links.foldl (fun (s : State) e => s.saddleCount e.1 e.2.1 e.2.2) s

/-- R99: a migration that waited for a running commit starts. -/
def State.lateMigration (s : State) : State :=
  if s.plan.migrateAfter = true ∧ s.commitStatus ≠ csRUNNING ∧ s.commitStatus ≠ csSWITCHPENDING then
    { s with plan := { s.plan with migrateAfter := false } }.startMigration
  else s

/-- Prepare: Summit's grants, the readings, the logs. -/
def State.prepare (s : State) (b : BoundaryFacts) : State :=
  let s := if anyOverrun b.overruns 4 then s else s.summit b
  let s := s.readings b
  let s := ((s.marchFault.failAnnouncements).loseJobs).lateMigration
  s.writeLogs

/-- R383: an event that has given this device a veto reason before a round's commit tick cancels the round. -/
def State.vetoCheck (s : State) : State :=
  match s.power.round with
  | some r => if r.commit.isSome ∧ s.vetoReasons ≠ 0 then s.cancelRound else s
  | none => s

/-- Does the boundary fall inside a stretch tick that has not reached its aligned end (R42)? -/
def State.insideStretch (s : State) (g : Nat) : Bool :=
  match s.tick.stretch with
  | some e => !s.stepDue && decide (g < e * s.period)
  | none => false

/-- A tick boundary (R34). -/
def tickBoundary (raw : Nat) (b : BoundaryFacts) (s : State) : State :=
  if s.power_ < 3 ∨ s.pkg.recoveryDies ≠ 0 ∨ s.pkg.tamperHold = true ∨ s.insideStretch b.gptp = true then s
  else
    let n := s.tickNo
    let incomplete := anyOverrun s.tick.excess 4
    let s := nextTick b.gptp s.vetoCheck
    let s := s.endOverruns n
    let s := ((s.boundaryPhase b).applyTaps).applyTrim raw
    let s := (s.snapshotPhase n incomplete).refreshPartitions.buildNext
    let s := { s with tick := { s.tick with excess := b.overruns.eraseDups } }
    (s.cyclicWork b).prepare b

def execTickBoundary (t : Nat) (b : BoundaryFacts) (s : State) : Host.Outcome State Fault Refusal := .next (tickBoundary t b (s.begin t))

end Sys2Proof.Machine
end

