-- ==== Sys2Proof/Machine/Dispatch.lean ====
section
/-! DEFINITION. One arm per command, each a direct call of its meaning. -/
namespace Sys2Proof.Machine

def exec (i : Instr) (s : State) : Host.Outcome State Fault Refusal :=
  match i with
  | .tickBoundary t b => Sys2Proof.Machine.execTickBoundary t b s
  | .lockHoldTimeout t => Sys2Proof.Machine.execLockHoldTimeout t s
  | .firstLock t => Sys2Proof.Machine.execFirstLock t s
  | .stretchTickStart t gptp => Sys2Proof.Machine.execStretchTickStart t gptp s
  | .stretchTickEnd t => Sys2Proof.Machine.execStretchTickEnd t s
  | .holdEnd t lane => Sys2Proof.Machine.execHoldEnd t lane s
  | .reAlignTick t who => Sys2Proof.Machine.execReAlignTick t who s
  | .holdover t => Sys2Proof.Machine.execHoldover t s
  | .stageRecord t who slot rec => Sys2Proof.Machine.execStageRecord t who slot rec s
  | .stageDelete t who slot => Sys2Proof.Machine.execStageDelete t who slot s
  | .discardStaged t who slot => Sys2Proof.Machine.execDiscardStaged t who slot s
  | .commit t who => Sys2Proof.Machine.execCommit t who s
  | .commitAbort t who => Sys2Proof.Machine.execCommitAbort t who s
  | .checkOnly t who => Sys2Proof.Machine.execCheckOnly t who s
  | .commitForcingDisables t who => Sys2Proof.Machine.execCommitForcingDisables t who s
  | .discardAllStaged t who => Sys2Proof.Machine.execDiscardAllStaged t who s
  | .commitVerdict t => Sys2Proof.Machine.execCommitVerdict t s
  | .generationSwitch t => Sys2Proof.Machine.execGenerationSwitch t s
  | .shadowPlanDistributed t code => Sys2Proof.Machine.execShadowPlanDistributed t code s
  | .talkerAdvertise t lane ad => Sys2Proof.Machine.execTalkerAdvertise t lane ad s
  | .listenerDeclaration t lane stream ready => Sys2Proof.Machine.execListenerDeclaration t lane stream ready s
  | .heartbeatSend t => Sys2Proof.Machine.execHeartbeatSend t s
  | .heartbeatMissed t die port => Sys2Proof.Machine.execHeartbeatMissed t die port s
  | .dieFaultClassifyTimeout t die => Sys2Proof.Machine.execDieFaultClassifyTimeout t die s
  | .fatalWire t die cause => Sys2Proof.Machine.execFatalWire t die cause s
  | .activationReceive t die code => Sys2Proof.Machine.execActivationReceive t die code s
  | .faultPlanActive t => Sys2Proof.Machine.execFaultPlanActive t s
  | .urgentShadowPlanBuilt t code => Sys2Proof.Machine.execUrgentShadowPlanBuilt t code s
  | .dictionaryServiceResume t => Sys2Proof.Machine.execDictionaryServiceResume t s
  | .remirrorDone t => Sys2Proof.Machine.execRemirrorDone t s
  | .derateRaise t die => Sys2Proof.Machine.execDerateRaise t die s
  | .derateLower t die => Sys2Proof.Machine.execDerateLower t die s
  | .migrationEnded t => Sys2Proof.Machine.execMigrationEnded t s
  | .gateWatchdog t die cluster => Sys2Proof.Machine.execGateWatchdog t die cluster s
  | .clusterBackInService t die cluster => Sys2Proof.Machine.execClusterBackInService t die cluster s
  | .autonegComplete t lane rate fullDuplex => Sys2Proof.Machine.execAutonegComplete t lane rate fullDuplex s
  | .linkUpHoldOff t lane => Sys2Proof.Machine.execLinkUpHoldOff t lane s
  | .linkLoss t lane => Sys2Proof.Machine.execLinkLoss t lane s
  | .lacpOut t lane => Sys2Proof.Machine.execLacpOut t lane s
  | .laneFrameReceive t lane f avail => Sys2Proof.Machine.execLaneFrameReceive t lane f avail s
  | .saddleFrameReceive t die m avail => Sys2Proof.Machine.execSaddleFrameReceive t die m avail s
  | .sessionLookupAnswer t id avail => Sys2Proof.Machine.execSessionLookupAnswer t id avail s
  | .sessionIdleExpiry t => Sys2Proof.Machine.execSessionIdleExpiry t s
  | .sessionTransferDone t pass die => Sys2Proof.Machine.execSessionTransferDone t pass die s
  | .sessionFlush t who pass => Sys2Proof.Machine.execSessionFlush t who pass s
  | .fdbUpdateReceive t die key e => Sys2Proof.Machine.execFdbUpdateReceive t die key e s
  | .fdbAgeOut t die key => Sys2Proof.Machine.execFdbAgeOut t die key s
  | .staticEntryWrite t who rec => Sys2Proof.Machine.execStaticEntryWrite t who rec s
  | .staticEntryDelete t who rec => Sys2Proof.Machine.execStaticEntryDelete t who rec s
  | .fdbFlush t who => Sys2Proof.Machine.execFdbFlush t who s
  | .recoveryResetTimeout t die slot => Sys2Proof.Machine.execRecoveryResetTimeout t die slot s
  | .transmitDescriptorFetch t die ring chain avail => Sys2Proof.Machine.execTransmitDescriptorFetch t die ring chain avail s
  | .transmitSelection t lane avail => Sys2Proof.Machine.execTransmitSelection t lane avail s
  | .gateEvent t lane => Sys2Proof.Machine.execGateEvent t lane s
  | .adminListStart t lane => Sys2Proof.Machine.execAdminListStart t lane s
  | .shaperEligible t lane slot => Sys2Proof.Machine.execShaperEligible t lane slot s
  | .preemptionVerifyDone t lane ok => Sys2Proof.Machine.execPreemptionVerifyDone t lane ok s
  | .pauseReceive t lane pfc times => Sys2Proof.Machine.execPauseReceive t lane pfc times s
  | .pauseTimerExpiry t lane => Sys2Proof.Machine.execPauseTimerExpiry t lane s
  | .pauseRepeat t lane => Sys2Proof.Machine.execPauseRepeat t lane s
  | .starvationLimit t lane tc => Sys2Proof.Machine.execStarvationLimit t lane tc s
  | .ptpAnnounceReceive t lane msg => Sys2Proof.Machine.execPtpAnnounceReceive t lane msg s
  | .ptpSyncReceive t lane msg => Sys2Proof.Machine.execPtpSyncReceive t lane msg s
  | .ptpFollowUpReceive t lane msg => Sys2Proof.Machine.execPtpFollowUpReceive t lane msg s
  | .ptpDelayReqReceive t lane msg => Sys2Proof.Machine.execPtpDelayReqReceive t lane msg s
  | .ptpDelayRespReceive t lane msg => Sys2Proof.Machine.execPtpDelayRespReceive t lane msg s
  | .ptpPdelayReqReceive t lane msg => Sys2Proof.Machine.execPtpPdelayReqReceive t lane msg s
  | .ptpPdelayRespReceive t lane msg => Sys2Proof.Machine.execPtpPdelayRespReceive t lane msg s
  | .ptpSignalingReceive t lane msg => Sys2Proof.Machine.execPtpSignalingReceive t lane msg s
  | .ptpSyncTimer t inst lane => Sys2Proof.Machine.execPtpSyncTimer t inst lane s
  | .ptpAnnounceTimer t inst lane => Sys2Proof.Machine.execPtpAnnounceTimer t inst lane s
  | .ptpDelayTimer t inst lane => Sys2Proof.Machine.execPtpDelayTimer t inst lane s
  | .receiptTimeout t inst lane => Sys2Proof.Machine.execReceiptTimeout t inst lane s
  | .timeTransferWord t die err => Sys2Proof.Machine.execTimeTransferWord t die err s
  | .grandmasterTimeSet t who inst v => Sys2Proof.Machine.execGrandmasterTimeSet t who inst v s
  | .pulseProgramWrite t who die output rec => Sys2Proof.Machine.execPulseProgramWrite t who die output rec s
  | .pulseEdge t die output => Sys2Proof.Machine.execPulseEdge t die output s
  | .captureEdge t die input falling => Sys2Proof.Machine.execCaptureEdge t die input falling s
  | .refLost t inst => Sys2Proof.Machine.execRefLost t inst s
  | .captureRecordsRead t who die input => Sys2Proof.Machine.execCaptureRecordsRead t who die input s
  | .cirqueInputFrame t die chan slot f => Sys2Proof.Machine.execCirqueInputFrame t die chan slot f s
  | .emergencyAssert t => Sys2Proof.Machine.execEmergencyAssert t s
  | .emergencyRelease t => Sys2Proof.Machine.execEmergencyRelease t s
  | .emergencyCommand t who v => Sys2Proof.Machine.execEmergencyCommand t who v s
  | .zoneHandoverStart t => Sys2Proof.Machine.execZoneHandoverStart t s
  | .announcementStart t who a => Sys2Proof.Machine.execAnnouncementStart t who a s
  | .announcementAbort t who a => Sys2Proof.Machine.execAnnouncementAbort t who a s
  | .announcementPlayback t a => Sys2Proof.Machine.execAnnouncementPlayback t a s
  | .announcementDone t a => Sys2Proof.Machine.execAnnouncementDone t a s
  | .clipDataWrite t who data => Sys2Proof.Machine.execClipDataWrite t who data s
  | .clipErase t who => Sys2Proof.Machine.execClipErase t who s
  | .canFrameReceive t unit f => Sys2Proof.Machine.execCanFrameReceive t unit f s
  | .edgeTxRequest t cluster off => Sys2Proof.Machine.execEdgeTxRequest t cluster off s
  | .canTransmitDone t unit => Sys2Proof.Machine.execCanTransmitDone t unit s
  | .busOff t unit => Sys2Proof.Machine.execBusOff t unit s
  | .busOffRecovery t who unit => Sys2Proof.Machine.execBusOffRecovery t who unit s
  | .busOffRecovered t unit => Sys2Proof.Machine.execBusOffRecovered t unit s
  | .linScheduleEntry t unit => Sys2Proof.Machine.execLinScheduleEntry t unit s
  | .linHeaderReceive t unit id => Sys2Proof.Machine.execLinHeaderReceive t unit id s
  | .linResponseReceive t unit data sumOk => Sys2Proof.Machine.execLinResponseReceive t unit data sumOk s
  | .linNoResponse t unit => Sys2Proof.Machine.execLinNoResponse t unit s
  | .linGoToSleep t unit => Sys2Proof.Machine.execLinGoToSleep t unit s
  | .uartMessageEnd t unit chars errors => Sys2Proof.Machine.execUartMessageEnd t unit chars errors s
  | .mvbBasicPeriod t die => Sys2Proof.Machine.execMvbBasicPeriod t die s
  | .mvbMasterFrame t die fcode addr lineA lineB => Sys2Proof.Machine.execMvbMasterFrame t die fcode addr lineA lineB s
  | .mvbSlaveFrame t die addr data lineA lineB => Sys2Proof.Machine.execMvbSlaveFrame t die addr data lineA lineB s
  | .t1sFrameReceive t die bytes node ok => Sys2Proof.Machine.execT1sFrameReceive t die bytes node ok s
  | .telegramReceive t endpoint slot bytes at_ => Sys2Proof.Machine.execTelegramReceive t endpoint slot bytes at_ s
  | .nmtStart t node => Sys2Proof.Machine.execNmtStart t node s
  | .nmtStop t node => Sys2Proof.Machine.execNmtStop t node s
  | .nmtEnterPreOperational t node => Sys2Proof.Machine.execNmtEnterPreOperational t node s
  | .nmtResetNode t node => Sys2Proof.Machine.execNmtResetNode t node s
  | .nmtResetCommunication t node => Sys2Proof.Machine.execNmtResetCommunication t node s
  | .sdoRequest t data => Sys2Proof.Machine.execSdoRequest t data s
  | .sdoTimeout t => Sys2Proof.Machine.execSdoTimeout t s
  | .rpdoReceive t n data => Sys2Proof.Machine.execRpdoReceive t n data s
  | .rpdoEventTimer t n => Sys2Proof.Machine.execRpdoEventTimer t n s
  | .syncReceive t counter => Sys2Proof.Machine.execSyncReceive t counter s
  | .tpdoEventTimer t n => Sys2Proof.Machine.execTpdoEventTimer t n s
  | .heartbeatProducerTimer t => Sys2Proof.Machine.execHeartbeatProducerTimer t s
  | .heartbeatConsumerTimeout t entry => Sys2Proof.Machine.execHeartbeatConsumerTimeout t entry s
  | .flitReplay t die port again => Sys2Proof.Machine.execFlitReplay t die port again s
  | .saddleRequestReceive t die port x portA => Sys2Proof.Machine.execSaddleRequestReceive t die port x portA s
  | .saddleCompletionReceive t die id status value => Sys2Proof.Machine.execSaddleCompletionReceive t die id status value s
  | .bridgeFault t id => Sys2Proof.Machine.execBridgeFault t id s
  | .intWireChange t => Sys2Proof.Machine.execIntWireChange t s
  | .intSourceClear t die mask again => Sys2Proof.Machine.execIntSourceClear t die mask again s
  | .doorbellIn t v => Sys2Proof.Machine.execDoorbellIn t v s
  | .doorbellOut t v => Sys2Proof.Machine.execDoorbellOut t v s
  | .eventFifo t => Sys2Proof.Machine.execEventFifo t s
  | .windowControl t window v => Sys2Proof.Machine.execWindowControl t window v s
  | .prefetchDiscard t master window line => Sys2Proof.Machine.execPrefetchDiscard t master window line s
  | .hostWindowWrite t off data portA => Sys2Proof.Machine.execHostWindowWrite t off data portA s
  | .spiWrite t addr data => Sys2Proof.Machine.execSpiWrite t addr data s
  | .spiRead t addr words => Sys2Proof.Machine.execSpiRead t addr words s
  | .spiStatus t => Sys2Proof.Machine.execSpiStatus t s
  | .endpointTakeover t => Sys2Proof.Machine.execEndpointTakeover t s
  | .slotRecordsWrite t who data stop => Sys2Proof.Machine.execSlotRecordsWrite t who data stop s
  | .keyImport t who data stop => Sys2Proof.Machine.execKeyImport t who data stop s
  | .keyRequest t die slot => Sys2Proof.Machine.execKeyRequest t die slot s
  | .keyDelivered t die slot => Sys2Proof.Machine.execKeyDelivered t die slot s
  | .lifeCycleCommand t who v => Sys2Proof.Machine.execLifeCycleCommand t who v s
  | .lifeCycleDone t => Sys2Proof.Machine.execLifeCycleDone t s
  | .tamper t die cls count => Sys2Proof.Machine.execTamper t die cls count s
  | .tamperLoopPattern t ok0 ok1 count => Sys2Proof.Machine.execTamperLoopPattern t ok0 ok1 count s
  | .tamperClear t who nonce => Sys2Proof.Machine.execTamperClear t who nonce s
  | .fuseTamperDestroysRoot t who => Sys2Proof.Machine.execFuseTamperDestroysRoot t who s
  | .attestationNonce t who nonce => Sys2Proof.Machine.execAttestationNonce t who nonce s
  | .attestationReady t sess => Sys2Proof.Machine.execAttestationReady t sess s
  | .mkpduReceive t lane p => Sys2Proof.Machine.execMkpduReceive t lane p s
  | .mkaHelloTimer t channel => Sys2Proof.Machine.execMkaHelloTimer t channel s
  | .mkaLifeTimeout t channel mi => Sys2Proof.Machine.execMkaLifeTimeout t channel mi s
  | .lookasideJobFetch t cls desc data readOk => Sys2Proof.Machine.execLookasideJobFetch t cls desc data readOk s
  | .lookasideJobDone t die busOk dest => Sys2Proof.Machine.execLookasideJobDone t die busOk dest s
  | .abortJob t who => Sys2Proof.Machine.execAbortJob t who s
  | .spewardJob t who data => Sys2Proof.Machine.execSpewardJob t who data s
  | .eccUncorrectable t die hit bank word => Sys2Proof.Machine.execEccUncorrectable t die hit bank word s
  | .patrolScrub t die corrected => Sys2Proof.Machine.execPatrolScrub t die corrected s
  | .marchStart t who => Sys2Proof.Machine.execMarchStart t who s
  | .marchAbort t who => Sys2Proof.Machine.execMarchAbort t who s
  | .marchBankDone t failing => Sys2Proof.Machine.execMarchBankDone t failing s
  | .marchDone t => Sys2Proof.Machine.execMarchDone t s
  | .standbyEnter t who => Sys2Proof.Machine.execStandbyEnter t who s
  | .standbyLeave t who elapsed est f => Sys2Proof.Machine.execStandbyLeave t who elapsed est f s
  | .powerOver t => Sys2Proof.Machine.execPowerOver t s
  | .smbalert t words => Sys2Proof.Machine.execSmbalert t words s
  | .sleepRequest t who => Sys2Proof.Machine.execSleepRequest t who s
  | .token t lane frame => Sys2Proof.Machine.execToken t lane frame s
  | .tokenTimeout t => Sys2Proof.Machine.execTokenTimeout t s
  | .roundTimeout t => Sys2Proof.Machine.execRoundTimeout t s
  | .consentCommit t lane frame => Sys2Proof.Machine.execConsentCommit t lane frame s
  | .cancel t lane frame => Sys2Proof.Machine.execCancel t lane frame s
  | .join t lane frame => Sys2Proof.Machine.execJoin t lane frame s
  | .leave t lane frame => Sys2Proof.Machine.execLeave t lane frame s
  | .wakeFrame t lane => Sys2Proof.Machine.execWakeFrame t lane s
  | .sleepEntry t => Sys2Proof.Machine.execSleepEntry t s
  | .wake t cause src elapsed est f => Sys2Proof.Machine.execWake t cause src elapsed est f s
  | .wakeCommand t who elapsed est f => Sys2Proof.Machine.execWakeCommand t who elapsed est f s
  | .falseWake t => Sys2Proof.Machine.execFalseWake t s
  | .detachCommand t who => Sys2Proof.Machine.execDetachCommand t who s
  | .detachDrainEnd t => Sys2Proof.Machine.execDetachDrainEnd t s
  | .dtlsHandshake t path assoc chain valid slip => Sys2Proof.Machine.execDtlsHandshake t path assoc chain valid slip s
  | .openSession t who role token => Sys2Proof.Machine.execOpen t who role token s
  | .close t q => Sys2Proof.Machine.execClose t q s
  | .read t q idx sub off => Sys2Proof.Machine.execRead t q idx sub off s
  | .write t q idx sub off last data => Sys2Proof.Machine.execWrite t q idx sub off last data s
  | .describe t q idx sub => Sys2Proof.Machine.execDescribe t q idx sub s
  | .txnBegin t q => Sys2Proof.Machine.execTxnBegin t q s
  | .txnEnd t q => Sys2Proof.Machine.execTxnEnd t q s
  | .txnAbort t q => Sys2Proof.Machine.execTxnAbort t q s
  | .ping t q => Sys2Proof.Machine.execPing t q s
  | .sessionIdleTimeout t sess => Sys2Proof.Machine.execSessionIdleTimeout t sess s
  | .snapshotExpiry t sess => Sys2Proof.Machine.execSnapshotExpiry t sess s
  | .forwardTimeout t sess => Sys2Proof.Machine.execForwardTimeout t sess s
  | .forwardedResponse t sess seq status data last => Sys2Proof.Machine.execForwardedResponse t sess seq status data last s
  | .trustAnchorWrite t who n rec => Sys2Proof.Machine.execTrustAnchorWrite t who n rec s
  | .restoreFactory t who v => Sys2Proof.Machine.execRestoreFactory t who v s
  | .coldStart t f => Sys2Proof.Machine.execColdStart t f s
  | .resetAssert t width => Sys2Proof.Machine.execResetAssert t width s
  | .aonPowerLoss t => Sys2Proof.Machine.execAonPowerLoss t s
  | .xtalFail t => Sys2Proof.Machine.execXtalFail t s
  | .startFailed t => Sys2Proof.Machine.execStartFailed t s
  | .updateClaim t who => Sys2Proof.Machine.execUpdateClaim t who s
  | .updateAbort t who => Sys2Proof.Machine.execUpdateAbort t who s
  | .updateVerify t who => Sys2Proof.Machine.execUpdateVerify t who s
  | .verifyDone t crypto => Sys2Proof.Machine.execVerifyDone t crypto s
  | .updateActivate t who => Sys2Proof.Machine.execUpdateActivate t who s
  | .updateConfirm t who => Sys2Proof.Machine.execUpdateConfirm t who s
  | .updateRelease t who => Sys2Proof.Machine.execUpdateRelease t who s
  | .imageBlock t who data writeOk => Sys2Proof.Machine.execImageBlock t who data writeOk s
  | .lockTimeout t => Sys2Proof.Machine.execLockTimeout t s
  | .selfChecksPassed t => Sys2Proof.Machine.execSelfChecksPassed t s
  | .confirmationWindowExpired t => Sys2Proof.Machine.execConfirmationWindowExpired t s
  | .datapathPause t => Sys2Proof.Machine.execDatapathPause t s
  | .recoveryStatus t src seq => Sys2Proof.Machine.execRecoveryStatus t src seq s
  | .recoveryClaim t src seq tokenOk => Sys2Proof.Machine.execRecoveryClaim t src seq tokenOk s
  | .recoveryBlock t src seq off data => Sys2Proof.Machine.execRecoveryBlock t src seq off data s
  | .recoveryVerify t src seq crypto => Sys2Proof.Machine.execRecoveryVerify t src seq crypto s
  | .recoveryActivate t src seq => Sys2Proof.Machine.execRecoveryActivate t src seq s
  | .recoveryAbort t src seq => Sys2Proof.Machine.execRecoveryAbort t src seq s
  | .recoveryClear t src seq nonce credOk => Sys2Proof.Machine.execRecoveryClear t src seq nonce credOk s
  | .voltage t die monitor mv excess => Sys2Proof.Machine.execVoltage t die monitor mv excess s
  | .underVoltageFatal t die monitor => Sys2Proof.Machine.execUnderVoltageFatal t die monitor s
  | .laneTestStart t who lane v => Sys2Proof.Machine.execLaneTestStart t who lane v s
  | .laneTestStop t who lane => Sys2Proof.Machine.execLaneTestStop t who lane s
  | .prbsLock t lane => Sys2Proof.Machine.execPrbsLock t lane s
  | .noLock t lane => Sys2Proof.Machine.execNoLock t lane s
  | .testFramesDone t lane => Sys2Proof.Machine.execTestFramesDone t lane s
  | .eyeMeasure t who lane => Sys2Proof.Machine.execEyeMeasure t who lane s
  | .eyeScanDone t lane height width => Sys2Proof.Machine.execEyeScanDone t lane height width s
  | .saddleTestMode t who die port v => Sys2Proof.Machine.execSaddleTestMode t who die port v s
  | .clearLaneCounters t who lane => Sys2Proof.Machine.execClearLaneCounters t who lane s
  | .clearStreamCounters t who => Sys2Proof.Machine.execClearStreamCounters t who s
  | .clearPassCounters t who => Sys2Proof.Machine.execClearPassCounters t who s
  | .clearCirqueCounters t who => Sys2Proof.Machine.execClearCirqueCounters t who s
  | .clearEdgeCounters t who kind unit => Sys2Proof.Machine.execClearEdgeCounters t who kind unit s
  | .clearGatewayCounters t who => Sys2Proof.Machine.execClearGatewayCounters t who s
  | .clearMacsecCounters t who => Sys2Proof.Machine.execClearMacsecCounters t who s
  | .clearBridgeCounters t who => Sys2Proof.Machine.execClearBridgeCounters t who s
  | .clearMonitorRecords t who => Sys2Proof.Machine.execClearMonitorRecords t who s
  | .aonPowerUp t => Sys2Proof.Machine.execAonPowerUp t s
  | .lockGained t lane => Sys2Proof.Machine.execLockGained t lane s
  | .lockLost t lane => Sys2Proof.Machine.execLockLost t lane s
  | .lacpCollectingDistributing t lane => Sys2Proof.Machine.execLacpCollectingDistributing t lane s
  | .canBusError t unit transmitting arbitration => Sys2Proof.Machine.execCanBusError t unit transmitting arbitration s
  | .txDone t kind unit => Sys2Proof.Machine.execTxDone t kind unit s
  | .tpdoInhibitTime t n => Sys2Proof.Machine.execTpdoInhibitTime t n s
  | .wakeFrameRepeat t => Sys2Proof.Machine.execWakeFrameRepeat t s
  | .commitRepeat t => Sys2Proof.Machine.execCommitRepeat t s
  | .creditReachesZero t lane tc avail => Sys2Proof.Machine.execCreditReachesZero t lane tc avail s
  | .limiterCountReachesZero t lane avail => Sys2Proof.Machine.execLimiterCountReachesZero t lane avail s
  | .setAndHold t lane => Sys2Proof.Machine.execSetAndHold t lane s
  | .tamperConditionEnds t cls => Sys2Proof.Machine.execTamperConditionEnds t cls s

end Sys2Proof.Machine
end

