-- ==== Sys2Proof/WellFormed.lean ====
section
/-! DEFINITION. Which operands a command may carry: numbers of lanes, dies, slots, units and sessions in the ranges the manual gives
its largest variant, and request headers in the ranges of R463.  A well-formed command may still name a lane or die that a
smaller variant does not hold: its meaning answers that (R2, R3). -/
namespace Sys2Proof

/-- A requester: a session number of this device or of a forwarded client, a 16-bit sequence number, and the 20 header bytes
where it came as a Speward message (R403, R408, R463). -/
def whoOk (w : Who) : Bool :=
  decide (w.sess < 65600) && decide (w.seq < 65536) && (w.head.length == 0 || w.head.length == 20)

/-- A request header (R463): a target of 11 bits or 0xFFFF, an extension whose role is one of R397. -/
def reqOk (q : Req) : Bool :=
  whoOk q.who && (decide (q.target < 2048) || q.target == 0xFFFF) &&
    (match q.ext with
     | some e => decide (e.role < 256) && decide (e.entry < 65536) && e.hash.length == 48
     | none => true)

/-- A frame received on a lane: a packet number of 32 bits and an association number of 2 (R335). -/
def rxOk (f : RxFrame) : Bool :=
  match f.sec with
  | some x => decide (x.an < 4) && decide (x.pn < 2 ^ 32)
  | none => true

/-- A CAN frame (R256): an identifier of at most 29 bits and at most 2,048 bytes. -/
def canOk (f : CanFrame) : Bool := decide (f.id < 2 ^ 29) && decide (f.data.length ≤ 2048)

/-- The facts of a boundary: dies, sensors, monitors and lanes that exist in the largest variant. -/
def boundaryOk (b : BoundaryFacts) : Bool :=
  b.overruns.all (fun k => decide (k < 64)) && b.temps.all (fun e => decide (e.1 < 64)) && b.volts.all (fun e => decide (e.1 < 32)) &&
    b.tests.all (fun e => decide (e.1 < 64)) && b.links.all (fun e => decide (e.1 < 32))

/-- The facts of a start: masks of eight dies, lanes below 64. -/
def startOk (f : StartFacts) : Bool :=
  decide (f.selfOk < 256) && decide (f.alignFail < 256) && decide (f.mismatches < 256) && decide (f.hostSel < 4) && f.up.all (fun n => decide (n < 64))

/-- A command's operands are in range. -/
def Instr.wellFormed : Instr → Bool
  | .tickBoundary _ b => boundaryOk b
  | .lockHoldTimeout _ => true
  | .firstLock _ => true
  | .stretchTickStart _ _ => true
  | .stretchTickEnd _ => true
  | .holdEnd _ lane => decide (lane < 64)
  | .reAlignTick _ who => whoOk who
  | .holdover _ => true
  | .stageRecord _ who slot _ => whoOk who && decide (slot < 8192)
  | .stageDelete _ who slot => whoOk who && decide (slot < 8192)
  | .discardStaged _ who slot => whoOk who && decide (slot < 8192)
  | .commit _ who => whoOk who
  | .commitAbort _ who => whoOk who
  | .checkOnly _ who => whoOk who
  | .commitForcingDisables _ who => whoOk who
  | .discardAllStaged _ who => whoOk who
  | .commitVerdict _ => true
  | .generationSwitch _ => true
  | .shadowPlanDistributed _ code => decide (code < 2 ^ 32)
  | .talkerAdvertise _ lane _ => decide (lane < 64)
  | .listenerDeclaration _ lane _ _ => decide (lane < 64)
  | .heartbeatSend _ => true
  | .heartbeatMissed _ die port => decide (die < 8) && decide (port < 4)
  | .dieFaultClassifyTimeout _ die => decide (die < 8)
  | .fatalWire _ die cause => decide (die < 8) && decide (cause < 7)
  | .activationReceive _ die code => decide (die < 8) && decide (code < 2 ^ 32)
  | .faultPlanActive _ => true
  | .urgentShadowPlanBuilt _ code => decide (code < 2 ^ 32)
  | .dictionaryServiceResume _ => true
  | .remirrorDone _ => true
  | .derateRaise _ die => decide (die < 8)
  | .derateLower _ die => decide (die < 8)
  | .migrationEnded _ => true
  | .gateWatchdog _ die cluster => decide (die < 8) && decide (cluster < 4)
  | .clusterBackInService _ die cluster => decide (die < 8) && decide (cluster < 6)
  | .autonegComplete _ lane _ _ => decide (lane < 64)
  | .linkUpHoldOff _ lane => decide (lane < 64)
  | .linkLoss _ lane => decide (lane < 64)
  | .lacpOut _ lane => decide (lane < 64)
  | .laneFrameReceive _ lane f _ => decide (lane < 64) && rxOk f
  | .saddleFrameReceive _ die _ _ => decide (die < 8)
  | .sessionLookupAnswer _ _ _ => true
  | .sessionIdleExpiry _ => true
  | .sessionTransferDone _ pass die => decide (pass < 4096) && decide (die < 8)
  | .sessionFlush _ who pass => whoOk who && (decide (pass < 4096) || pass == 0xFFFF)
  | .fdbUpdateReceive _ die _ _ => decide (die < 8)
  | .fdbAgeOut _ die _ => decide (die < 8)
  | .staticEntryWrite _ who _ => whoOk who
  | .staticEntryDelete _ who _ => whoOk who
  | .fdbFlush _ who => whoOk who
  | .recoveryResetTimeout _ die slot => decide (die < 8) && decide (slot < 8192)
  | .transmitDescriptorFetch _ die ring _ _ => decide (die < 8) && decide (ring < 16)
  | .transmitSelection _ lane _ => decide (lane < 64)
  | .gateEvent _ lane => decide (lane < 64)
  | .adminListStart _ lane => decide (lane < 64)
  | .shaperEligible _ lane slot => decide (lane < 64) && decide (slot < 8192)
  | .preemptionVerifyDone _ lane _ => decide (lane < 64)
  | .pauseReceive _ lane _ _ => decide (lane < 64)
  | .pauseTimerExpiry _ lane => decide (lane < 64)
  | .pauseRepeat _ lane => decide (lane < 64)
  | .starvationLimit _ lane tc => decide (lane < 64) && decide (tc < 8)
  | .ptpAnnounceReceive _ lane _ => decide (lane < 64)
  | .ptpSyncReceive _ lane _ => decide (lane < 64)
  | .ptpFollowUpReceive _ lane _ => decide (lane < 64)
  | .ptpDelayReqReceive _ lane _ => decide (lane < 64)
  | .ptpDelayRespReceive _ lane _ => decide (lane < 64)
  | .ptpPdelayReqReceive _ lane _ => decide (lane < 64)
  | .ptpPdelayRespReceive _ lane _ => decide (lane < 64)
  | .ptpSignalingReceive _ lane _ => decide (lane < 64)
  | .ptpSyncTimer _ inst lane => decide (inst < 4) && decide (lane < 64)
  | .ptpAnnounceTimer _ inst lane => decide (inst < 4) && decide (lane < 64)
  | .ptpDelayTimer _ inst lane => decide (inst < 4) && decide (lane < 64)
  | .receiptTimeout _ inst lane => decide (inst < 4) && decide (lane < 64)
  | .timeTransferWord _ die _ => decide (die < 8)
  | .grandmasterTimeSet _ who inst v => whoOk who && decide (inst < 4) && decide (v < 2 ^ 64)
  | .pulseProgramWrite _ who die output _ => whoOk who && decide (die < 8) && decide (output < 4)
  | .pulseEdge _ die output => decide (die < 8) && decide (output < 4)
  | .captureEdge _ die input _ => decide (die < 8) && decide (input < 2)
  | .refLost _ inst => decide (inst < 4)
  | .captureRecordsRead _ who die input => whoOk who && decide (die < 8) && decide (input < 2)
  | .cirqueInputFrame _ die chan slot _ => decide (die < 8) && decide (chan < 512) && decide (slot < 8192)
  | .emergencyAssert _ => true
  | .emergencyRelease _ => true
  | .emergencyCommand _ who v => whoOk who && decide (v < 256)
  | .zoneHandoverStart _ => true
  | .announcementStart _ who a => whoOk who && decide (a < 16)
  | .announcementAbort _ who a => whoOk who && decide (a < 16)
  | .announcementPlayback _ a => decide (a < 16)
  | .announcementDone _ a => decide (a < 16)
  | .clipDataWrite _ who _ => whoOk who
  | .clipErase _ who => whoOk who
  | .canFrameReceive _ unit f => decide (unit < 32) && canOk f
  | .edgeTxRequest _ cluster off => decide (cluster < 16) && decide (off < 2 ^ 32)
  | .canTransmitDone _ unit => decide (unit < 32)
  | .busOff _ unit => decide (unit < 32)
  | .busOffRecovery _ who unit => whoOk who && decide (unit < 32)
  | .busOffRecovered _ unit => decide (unit < 32)
  | .linScheduleEntry _ unit => decide (unit < 16)
  | .linHeaderReceive _ unit id => decide (unit < 16) && decide (id < 64)
  | .linResponseReceive _ unit _ _ => decide (unit < 16)
  | .linNoResponse _ unit => decide (unit < 16)
  | .linGoToSleep _ unit => decide (unit < 16)
  | .uartMessageEnd _ unit _ _ => decide (unit < 16)
  | .mvbBasicPeriod _ die => decide (die < 8)
  | .mvbMasterFrame _ die fcode addr _ _ => decide (die < 8) && decide (fcode < 16) && decide (addr < 4096)
  | .mvbSlaveFrame _ die addr _ _ _ => decide (die < 8) && decide (addr < 4096)
  | .t1sFrameReceive _ die _ node _ => decide (die < 8) && decide (node < 128)
  | .telegramReceive _ endpoint slot _ _ => decide (endpoint < 2 ^ 16) && decide (slot < 8192)
  | .nmtStart _ node => decide (node < 128)
  | .nmtStop _ node => decide (node < 128)
  | .nmtEnterPreOperational _ node => decide (node < 128)
  | .nmtResetNode _ node => decide (node < 128)
  | .nmtResetCommunication _ node => decide (node < 128)
  | .sdoRequest _ _ => true
  | .sdoTimeout _ => true
  | .rpdoReceive _ n _ => decide (n < 64)
  | .rpdoEventTimer _ n => decide (n < 64)
  | .syncReceive _ counter => decide (counter < 256)
  | .tpdoEventTimer _ n => decide (n < 64)
  | .heartbeatProducerTimer _ => true
  | .heartbeatConsumerTimeout _ entry => decide (entry < 8)
  | .flitReplay _ die port _ => decide (die < 8) && decide (port < 4)
  | .saddleRequestReceive _ die port _ _ => decide (die < 8) && decide (port < 4)
  | .saddleCompletionReceive _ die _ status value => decide (die < 8) && decide (status < 16) && decide (value < 2 ^ 64)
  | .bridgeFault _ _ => true
  | .intWireChange _ => true
  | .intSourceClear _ die mask again => decide (die < 8) && decide (mask < 2 ^ 64) && decide (again < 2 ^ 64)
  | .doorbellIn _ v => decide (v < 2 ^ 32)
  | .doorbellOut _ v => decide (v < 2 ^ 32)
  | .eventFifo _ => true
  | .windowControl _ window v => decide (window < 18) && decide (v < 2 ^ 32)
  | .prefetchDiscard _ master window _ => decide (master < 5) && decide (window < 18)
  | .hostWindowWrite _ off _ _ => decide (off < 2 ^ 21)
  | .spiWrite _ addr _ => decide (addr < 2 ^ 24)
  | .spiRead _ addr _ => decide (addr < 2 ^ 24)
  | .spiStatus _ => true
  | .endpointTakeover _ => true
  | .slotRecordsWrite _ who _ _ => whoOk who
  | .keyImport _ who _ _ => whoOk who
  | .keyRequest _ die slot => decide (die < 8) && decide (slot < 1024)
  | .keyDelivered _ die slot => decide (die < 8) && decide (slot < 1024)
  | .lifeCycleCommand _ who v => whoOk who && decide (v < 256)
  | .lifeCycleDone _ => true
  | .tamper _ die cls _ => decide (die < 8) && decide (cls < 8)
  | .tamperLoopPattern _ _ _ _ => true
  | .tamperClear _ who _ => whoOk who
  | .fuseTamperDestroysRoot _ who => whoOk who
  | .attestationNonce _ who _ => whoOk who
  | .attestationReady _ sess => decide (sess < 65600)
  | .mkpduReceive _ lane _ => decide (lane < 64)
  | .mkaHelloTimer _ channel => decide (channel < 512)
  | .mkaLifeTimeout _ channel _ => decide (channel < 512)
  | .lookasideJobFetch _ cls _ _ _ => decide (cls < 64)
  | .lookasideJobDone _ die _ _ => decide (die < 8)
  | .abortJob _ who => whoOk who
  | .spewardJob _ who _ => whoOk who
  | .eccUncorrectable _ die _ _ word => decide (die < 8) && decide (word < 2 ^ 16)
  | .patrolScrub _ die _ => decide (die < 8)
  | .marchStart _ who => whoOk who
  | .marchAbort _ who => whoOk who
  | .marchBankDone _ _ => true
  | .marchDone _ => true
  | .standbyEnter _ who => whoOk who
  | .standbyLeave _ who _ _ f => whoOk who && startOk f
  | .powerOver _ => true
  | .smbalert _ _ => true
  | .sleepRequest _ who => whoOk who
  | .token _ lane _ => decide (lane < 64)
  | .tokenTimeout _ => true
  | .roundTimeout _ => true
  | .consentCommit _ lane _ => decide (lane < 64)
  | .cancel _ lane _ => decide (lane < 64)
  | .join _ lane _ => decide (lane < 64)
  | .leave _ lane _ => decide (lane < 64)
  | .wakeFrame _ lane => decide (lane < 64)
  | .sleepEntry _ => true
  | .wake _ cause _ _ _ f => decide (cause < 8) && startOk f
  | .wakeCommand _ who _ _ f => whoOk who && startOk f
  | .falseWake _ => true
  | .detachCommand _ who => whoOk who
  | .detachDrainEnd _ => true
  | .dtlsHandshake _ _ _ _ _ _ => true
  | .openSession _ who role _ => whoOk who && decide (role < 256)
  | .close _ q => reqOk q
  | .read _ q idx sub off => reqOk q && decide (idx < 2 ^ 16) && decide (sub < 256) && decide (off < 2 ^ 32)
  | .write _ q idx sub off _ data => reqOk q && decide (idx < 2 ^ 16) && decide (sub < 256) && decide (off < 2 ^ 32) && decide (data.length ≤ 1024)
  | .describe _ q idx sub => reqOk q && decide (idx < 2 ^ 16) && decide (sub < 256)
  | .txnBegin _ q => reqOk q
  | .txnEnd _ q => reqOk q
  | .txnAbort _ q => reqOk q
  | .ping _ q => reqOk q
  | .sessionIdleTimeout _ sess => decide (sess < 65600)
  | .snapshotExpiry _ sess => decide (sess < 65600)
  | .forwardTimeout _ sess => decide (sess < 65600)
  | .forwardedResponse _ sess seq _ _ _ => decide (sess < 65600) && decide (seq < 2 ^ 16)
  | .trustAnchorWrite _ who n _ => whoOk who && decide (n < 9)
  | .restoreFactory _ who v => whoOk who && decide (v < 2 ^ 16)
  | .coldStart _ f => startOk f
  | .resetAssert _ _ => true
  | .aonPowerLoss _ => true
  | .xtalFail _ => true
  | .startFailed _ => true
  | .updateClaim _ who => whoOk who
  | .updateAbort _ who => whoOk who
  | .updateVerify _ who => whoOk who
  | .verifyDone _ _ => true
  | .updateActivate _ who => whoOk who
  | .updateConfirm _ who => whoOk who
  | .updateRelease _ who => whoOk who
  | .imageBlock _ who _ _ => whoOk who
  | .lockTimeout _ => true
  | .selfChecksPassed _ => true
  | .confirmationWindowExpired _ => true
  | .datapathPause _ => true
  | .recoveryStatus _ _ seq => decide (seq < 2 ^ 16)
  | .recoveryClaim _ _ seq _ => decide (seq < 2 ^ 16)
  | .recoveryBlock _ _ seq off _ => decide (seq < 2 ^ 16) && decide (off < 2 ^ 32)
  | .recoveryVerify _ _ seq _ => decide (seq < 2 ^ 16)
  | .recoveryActivate _ _ seq => decide (seq < 2 ^ 16)
  | .recoveryAbort _ _ seq => decide (seq < 2 ^ 16)
  | .recoveryClear _ _ seq _ _ => decide (seq < 2 ^ 16)
  | .voltage _ die monitor mv _ => decide (die < 8) && decide (monitor < 4) && decide (mv < 2 ^ 16)
  | .underVoltageFatal _ die monitor => decide (die < 8) && decide (monitor < 4)
  | .laneTestStart _ who lane v => whoOk who && decide (lane < 64) && decide (v < 256)
  | .laneTestStop _ who lane => whoOk who && decide (lane < 64)
  | .prbsLock _ lane => decide (lane < 64)
  | .noLock _ lane => decide (lane < 64)
  | .testFramesDone _ lane => decide (lane < 64)
  | .eyeMeasure _ who lane => whoOk who && decide (lane < 64)
  | .eyeScanDone _ lane height width => decide (lane < 64) && decide (height < 2 ^ 16) && decide (width < 2 ^ 16)
  | .saddleTestMode _ who die port v => whoOk who && decide (die < 8) && decide (port < 4) && decide (v < 256)
  | .clearLaneCounters _ who lane => whoOk who && decide (lane < 64)
  | .clearStreamCounters _ who => whoOk who
  | .clearPassCounters _ who => whoOk who
  | .clearCirqueCounters _ who => whoOk who
  | .clearEdgeCounters _ who kind unit => whoOk who && decide (kind < 5) && decide (unit < 32)
  | .clearGatewayCounters _ who => whoOk who
  | .clearMacsecCounters _ who => whoOk who
  | .clearBridgeCounters _ who => whoOk who
  | .clearMonitorRecords _ who => whoOk who
  | .aonPowerUp _ => true
  | .lockGained _ lane => decide (lane < 64)
  | .lockLost _ lane => decide (lane < 64)
  | .lacpCollectingDistributing _ lane => decide (lane < 64)
  | .canBusError _ unit _ _ => decide (unit < 32)
  | .txDone _ kind unit => decide (kind < 5) && decide (unit < 32)
  | .tpdoInhibitTime _ n => decide (n < 64)
  | .wakeFrameRepeat _ => true
  | .commitRepeat _ => true
  | .creditReachesZero _ lane tc _ => decide (lane < 64) && decide (tc < 8)
  | .limiterCountReachesZero _ lane _ => decide (lane < 64)
  | .setAndHold _ lane => decide (lane < 64)
  | .tamperConditionEnds _ cls => decide (cls < 8)

end Sys2Proof
end

