-- ==== Sys2Proof/Safety.lean ====
section
/-! DEFINITION. What the statements mean: a command that runs, a legal package, what a command may change, and when a request
is taken up. -/
namespace Sys2Proof.Machine

open Sys2Proof

/-- A command runs on a state and leaves one that meets a condition. -/
def Runs (i : Instr) (s : State) (p : State → Prop) : Prop := ∃ u, exec i s = .next u ∧ p u

/-! ### Legal states (R1) -/

/-- R1: a package holds two, four or eight dies. -/
def State.legalVariant (s : State) : Prop := s.variant = 2 ∨ s.variant = 4 ∨ s.variant = 8

/-- A legal package whose waiting commands are all well formed. -/
def State.Inv (s : State) : Prop := s.legalVariant ∧ ∀ c ∈ s.pending, c.wellFormed = true

/-! ### Frames -/

/-- The parts of the state beside the integer objects of the dictionary, the clock and the wires. -/
inductive Part where
  | free | blobs | staged | held | stored | access | logs | pkg | tick | plan | lanes | fwd | fw | bridge | mem | cairn | cipher
  | time | audio | edge | power | update | diag
deriving DecidableEq, Repr

/-- A part holds in `u` what it held in `s`. -/
def State.same (s u : State) : Part → Prop
  | .free => u.freeCtr = s.freeCtr
  | .blobs => u.dict.blobs = s.dict.blobs
  | .staged => u.staged = s.staged
  | .held => u.held = s.held
  | .stored => u.stored = s.stored
  | .access => u.access = s.access
  | .logs => u.logs = s.logs
  | .pkg => u.pkg = s.pkg
  | .tick => u.tick = s.tick
  | .plan => u.plan = s.plan
  | .lanes => u.lanes = s.lanes
  | .fwd => u.fwd = s.fwd
  | .fw => u.fw = s.fw
  | .bridge => u.bridge = s.bridge
  | .mem => u.mem = s.mem
  | .cairn => u.cairn = s.cairn
  | .cipher => u.cipher = s.cipher
  | .time => u.time = s.time
  | .audio => u.audio = s.audio
  | .edge => u.edge = s.edge
  | .power => u.power = s.power
  | .update => u.update = s.update
  | .diag => u.diag = s.diag

/-- From `s` to `u` nothing has changed but the listed parts, the integer objects with the listed keys, the clock and what is on
the wires. -/
structure Only (s u : State) (parts : List Part) (objs : List Nat) : Prop where
  variant : u.variant = s.variant
  queue : u.pending = s.pending
  rest : ∀ p, p ∉ parts → s.same u p
  objects : ∀ k, k ∉ objs → look u.dict.objs k = look s.dict.objs k

/-- From `s` to `u` no part has changed but the listed ones; the dictionary's values, the clock and the wires are left aside. -/
structure Within (s u : State) (parts : List Part) : Prop where
  variant : u.variant = s.variant
  queue : u.pending = s.pending
  rest : ∀ p, p ≠ .blobs → p ∉ parts → s.same u p

/-- The parts of the state that a command may change, by the rules that describe its effect. -/
def partsOf : Instr → List Part
  | .tickBoundary _ _ => [.staged, .held, .access, .logs, .pkg, .tick, .plan, .lanes, .fwd, .fw, .bridge, .mem, .cairn, .cipher, .time, .audio, .edge, .power, .update, .diag]
  | .lockHoldTimeout _ => []
  | .firstLock _ => [.logs, .tick]
  | .stretchTickStart _ _ => [.logs, .tick, .plan, .lanes]
  | .stretchTickEnd _ => [.tick]
  | .holdEnd _ _ => [.lanes]
  | .reAlignTick _ _ => [.access, .tick, .bridge, .power]
  | .holdover _ => [.logs, .tick]
  | .stageRecord _ _ _ _ => [.staged, .access, .plan, .bridge, .power]
  | .stageDelete _ _ _ => [.staged, .access, .plan, .bridge, .power]
  | .discardStaged _ _ _ => [.staged, .access, .plan, .bridge, .power]
  | .commit _ _ => [.access, .logs, .plan, .bridge, .power]
  | .commitAbort _ _ => [.access, .plan, .bridge, .power]
  | .checkOnly _ _ => [.access, .logs, .plan, .bridge, .power]
  | .commitForcingDisables _ _ => [.access, .logs, .plan, .bridge, .power]
  | .discardAllStaged _ _ => [.staged, .access, .plan, .bridge, .power]
  | .commitVerdict _ => [.logs, .plan, .power, .update]
  | .generationSwitch _ => [.staged, .access, .logs, .pkg, .tick, .plan, .lanes, .fwd, .fw, .bridge, .cairn, .cipher, .time, .audio, .edge, .power, .update]
  | .shadowPlanDistributed _ _ => [.plan]
  | .talkerAdvertise _ _ _ => [.plan]
  | .listenerDeclaration _ _ _ _ => [.plan]
  | .heartbeatSend _ => []
  | .heartbeatMissed _ _ _ => [.access, .logs, .pkg, .tick, .plan, .lanes, .fw, .bridge, .time]
  | .dieFaultClassifyTimeout _ _ => [.access, .logs, .pkg, .tick, .plan, .lanes, .fw, .bridge, .time]
  | .fatalWire _ _ _ => [.access, .logs, .pkg, .tick, .plan, .lanes, .fw, .bridge, .time]
  | .activationReceive _ _ _ => [.logs, .plan, .lanes, .fwd, .bridge]
  | .faultPlanActive _ => [.logs, .plan, .lanes, .fwd, .bridge]
  | .urgentShadowPlanBuilt _ _ => [.pkg, .plan]
  | .dictionaryServiceResume _ => [.staged, .held, .logs, .pkg, .plan, .update]
  | .remirrorDone _ => [.pkg]
  | .derateRaise _ _ => [.logs, .plan]
  | .derateLower _ _ => [.logs, .plan, .power]
  | .migrationEnded _ => [.logs, .plan]
  | .gateWatchdog _ _ _ => [.access, .logs, .pkg, .tick, .plan, .lanes, .fwd, .fw, .bridge, .time]
  | .clusterBackInService _ _ _ => [.pkg]
  | .autonegComplete _ _ _ _ => [.logs, .plan, .lanes, .fwd]
  | .linkUpHoldOff _ _ => [.lanes]
  | .linkLoss _ _ => [.logs, .plan, .lanes, .fwd]
  | .lacpOut _ _ => [.plan, .lanes, .fwd]
  | .laneFrameReceive _ _ _ _ => [.logs, .lanes, .fwd, .fw, .bridge, .cipher, .power]
  | .saddleFrameReceive _ _ _ _ => [.lanes, .fwd, .bridge]
  | .sessionLookupAnswer _ _ _ => [.logs, .lanes, .fwd, .fw, .bridge]
  | .sessionIdleExpiry _ => [.fw]
  | .sessionTransferDone _ _ _ => [.fw]
  | .sessionFlush _ _ _ => [.access, .fw, .bridge, .power]
  | .fdbUpdateReceive _ _ _ _ => [.fwd]
  | .fdbAgeOut _ _ _ => [.fwd]
  | .staticEntryWrite _ _ _ => [.access, .fwd, .bridge, .power]
  | .staticEntryDelete _ _ _ => [.access, .fwd, .bridge, .power]
  | .fdbFlush _ _ => [.access, .fwd, .bridge, .power]
  | .recoveryResetTimeout _ _ _ => [.fwd]
  | .transmitDescriptorFetch _ _ _ _ _ => [.logs, .lanes, .fwd, .fw, .bridge]
  | .transmitSelection _ _ _ => [.logs, .lanes, .fwd, .bridge, .cipher, .time]
  | .gateEvent _ _ => [.lanes]
  | .adminListStart _ _ => [.lanes]
  | .shaperEligible _ _ _ => [.lanes, .fwd]
  | .preemptionVerifyDone _ _ _ => [.logs, .lanes]
  | .pauseReceive _ _ _ _ => [.lanes]
  | .pauseTimerExpiry _ _ => [.lanes]
  | .pauseRepeat _ _ => [.lanes]
  | .starvationLimit _ _ _ => [.lanes]
  | .ptpAnnounceReceive _ _ _ => [.logs, .tick, .time]
  | .ptpSyncReceive _ _ _ => [.free, .logs, .tick, .lanes, .fwd, .time]
  | .ptpFollowUpReceive _ _ _ => [.free, .logs, .tick, .lanes, .fwd, .time]
  | .ptpDelayReqReceive _ _ _ => [.lanes, .fwd, .time]
  | .ptpDelayRespReceive _ _ _ => [.time]
  | .ptpPdelayReqReceive _ _ _ => [.lanes, .fwd]
  | .ptpPdelayRespReceive _ _ _ => [.time]
  | .ptpSignalingReceive _ _ _ => [.time]
  | .ptpSyncTimer _ _ _ => [.lanes, .fwd, .time]
  | .ptpAnnounceTimer _ _ _ => [.lanes, .fwd, .time]
  | .ptpDelayTimer _ _ _ => [.lanes, .fwd, .time]
  | .receiptTimeout _ _ _ => [.logs, .tick, .time]
  | .timeTransferWord _ _ _ => [.logs, .time]
  | .grandmasterTimeSet _ _ _ _ => [.access, .logs, .tick, .bridge, .time, .power]
  | .pulseProgramWrite _ _ _ _ _ => [.access, .bridge, .time, .power]
  | .pulseEdge _ _ _ => [.time]
  | .captureEdge _ _ _ _ => [.free, .time]
  | .refLost _ _ => [.time]
  | .captureRecordsRead _ _ _ _ => [.access, .bridge, .time, .power]
  | .cirqueInputFrame _ _ _ _ _ => [.audio]
  | .emergencyAssert _ => [.logs, .audio, .power]
  | .emergencyRelease _ => [.logs, .audio, .power]
  | .emergencyCommand _ _ _ => [.held, .access, .bridge, .audio, .power]
  | .zoneHandoverStart _ => [.audio]
  | .announcementStart _ _ _ => [.access, .bridge, .audio, .power]
  | .announcementAbort _ _ _ => [.access, .bridge, .audio, .power]
  | .announcementPlayback _ _ => [.audio]
  | .announcementDone _ _ => [.audio]
  | .clipDataWrite _ _ _ => [.access, .bridge, .power]
  | .clipErase _ _ => [.access, .bridge, .power]
  | .canFrameReceive _ _ _ => [.lanes, .bridge, .edge, .power]
  | .edgeTxRequest _ _ _ => [.bridge, .edge]
  | .canTransmitDone _ _ => [.bridge, .edge]
  | .busOff _ _ => [.edge]
  | .busOffRecovery _ _ _ => [.access, .bridge, .edge, .power]
  | .busOffRecovered _ _ => [.edge]
  | .linScheduleEntry _ _ => [.edge]
  | .linHeaderReceive _ _ _ => [.edge]
  | .linResponseReceive _ _ _ _ => [.lanes, .bridge, .edge, .power]
  | .linNoResponse _ _ => [.edge]
  | .linGoToSleep _ _ => [.edge]
  | .uartMessageEnd _ _ _ _ => [.lanes, .bridge, .edge, .power]
  | .mvbBasicPeriod _ _ => []
  | .mvbMasterFrame _ _ _ _ _ _ => [.free, .lanes, .power]
  | .mvbSlaveFrame _ _ _ _ _ _ => [.lanes, .edge, .power]
  | .t1sFrameReceive _ _ _ _ _ => [.lanes, .bridge, .edge, .power]
  | .telegramReceive _ _ _ _ _ => [.edge]
  | .nmtStart _ _ => [.edge]
  | .nmtStop _ _ => [.edge]
  | .nmtEnterPreOperational _ _ => []
  | .nmtResetNode _ _ => [.access, .edge]
  | .nmtResetCommunication _ _ => [.access, .edge]
  | .sdoRequest _ _ => [.staged, .held, .stored, .access, .logs, .pkg, .tick, .plan, .lanes, .fwd, .fw, .bridge, .mem, .cairn, .cipher, .time, .audio, .edge, .power, .update, .diag]
  | .sdoTimeout _ => [.edge]
  | .rpdoReceive _ _ _ => [.staged, .held, .stored, .access, .logs, .pkg, .tick, .plan, .lanes, .fwd, .fw, .bridge, .mem, .cairn, .cipher, .time, .audio, .edge, .power, .update, .diag]
  | .rpdoEventTimer _ _ => [.edge]
  | .syncReceive _ _ => [.staged, .held, .stored, .access, .logs, .pkg, .tick, .plan, .lanes, .fwd, .fw, .bridge, .mem, .cairn, .cipher, .time, .audio, .edge, .power, .update, .diag]
  | .tpdoEventTimer _ _ => [.edge]
  | .heartbeatProducerTimer _ => [.edge]
  | .heartbeatConsumerTimeout _ _ => [.edge]
  | .flitReplay _ _ _ _ => [.bridge]
  | .saddleRequestReceive _ _ _ _ _ => [.bridge]
  | .saddleCompletionReceive _ _ _ _ _ => [.bridge]
  | .bridgeFault _ _ => [.logs, .bridge]
  | .intWireChange _ => [.bridge]
  | .intSourceClear _ _ _ _ => [.bridge]
  | .doorbellIn _ _ => [.bridge]
  | .doorbellOut _ _ => [.bridge]
  | .eventFifo _ => [.bridge]
  | .windowControl _ _ _ => [.bridge]
  | .prefetchDiscard _ _ _ _ => [.bridge]
  | .hostWindowWrite _ _ _ _ => [.bridge]
  | .spiWrite _ _ _ => [.bridge]
  | .spiRead _ _ _ => [.bridge]
  | .spiStatus _ => []
  | .endpointTakeover _ => [.access, .bridge]
  | .slotRecordsWrite _ _ _ _ => [.access, .logs, .bridge, .cairn, .cipher, .power]
  | .keyImport _ _ _ _ => [.access, .logs, .bridge, .cairn, .cipher, .power]
  | .keyRequest _ _ _ => [.cairn]
  | .keyDelivered _ _ _ => [.access, .logs, .cairn, .cipher]
  | .lifeCycleCommand _ _ _ => [.access, .lanes, .bridge, .mem, .cairn, .cipher, .power]
  | .lifeCycleDone _ => [.access, .logs, .cairn, .cipher]
  | .tamper _ _ _ _ => [.access, .logs, .pkg, .lanes, .fwd, .mem, .cairn, .cipher]
  | .tamperLoopPattern _ _ _ _ => [.free, .access, .logs, .pkg, .lanes, .fwd, .mem, .cairn, .cipher]
  | .tamperClear _ _ _ => [.access, .logs, .pkg, .lanes, .bridge, .cairn, .cipher, .power]
  | .fuseTamperDestroysRoot _ _ => [.access, .bridge, .power]
  | .attestationNonce _ _ _ => [.access, .bridge, .power]
  | .attestationReady _ _ => [.access]
  | .mkpduReceive _ _ _ => [.free, .logs, .cipher]
  | .mkaHelloTimer _ _ => [.free, .logs, .cipher]
  | .mkaLifeTimeout _ _ _ => [.free, .logs, .lanes, .cipher]
  | .lookasideJobFetch _ _ _ _ _ => [.access, .logs, .cairn, .cipher]
  | .lookasideJobDone _ _ _ _ => [.access, .logs, .cairn, .cipher]
  | .abortJob _ _ => [.access, .logs, .bridge, .cairn, .cipher, .power]
  | .spewardJob _ _ _ => [.access, .logs, .bridge, .cairn, .cipher, .power]
  | .eccUncorrectable _ _ _ _ _ => [.access, .logs, .pkg, .tick, .plan, .lanes, .fwd, .fw, .bridge, .mem, .cairn, .cipher, .time, .audio, .edge]
  | .patrolScrub _ _ _ => []
  | .marchStart _ _ => [.access, .bridge, .mem, .power]
  | .marchAbort _ _ => [.access, .logs, .pkg, .tick, .plan, .lanes, .fwd, .fw, .bridge, .mem, .cairn, .cipher, .time, .audio, .power]
  | .marchBankDone _ _ => [.access, .logs, .pkg, .tick, .plan, .lanes, .fwd, .fw, .bridge, .mem, .cairn, .cipher, .time, .audio]
  | .marchDone _ => [.access, .logs, .pkg, .tick, .plan, .lanes, .fw, .bridge, .mem, .time]
  | .standbyEnter _ _ => [.access, .logs, .pkg, .lanes, .fwd, .fw, .bridge, .mem, .cairn, .cipher, .audio, .edge, .power]
  | .standbyLeave _ _ _ _ _ => [.access, .logs, .pkg, .tick, .plan, .lanes, .fwd, .bridge, .cairn, .cipher, .time, .audio, .power, .update]
  | .powerOver _ => [.logs, .plan, .power]
  | .smbalert _ _ => [.logs, .power]
  | .sleepRequest _ _ => [.access, .lanes, .bridge, .power]
  | .token _ _ _ => [.logs, .pkg, .lanes, .power]
  | .tokenTimeout _ => [.lanes, .power]
  | .roundTimeout _ => [.power]
  | .consentCommit _ _ _ => [.logs, .pkg, .lanes, .power]
  | .cancel _ _ _ => [.logs, .pkg, .lanes, .power]
  | .join _ _ _ => [.logs, .pkg, .lanes, .power]
  | .leave _ _ _ => [.logs, .pkg, .lanes, .power]
  | .wakeFrame _ _ => [.power]
  | .sleepEntry _ => [.access, .logs, .pkg, .lanes, .fwd, .fw, .bridge, .mem, .cairn, .cipher, .audio, .edge, .power]
  | .wake _ _ _ _ _ _ => [.staged, .held, .access, .logs, .pkg, .tick, .plan, .lanes, .fwd, .fw, .bridge, .mem, .cairn, .cipher, .time, .audio, .edge, .power, .update, .diag]
  | .wakeCommand _ _ _ _ _ => [.access, .logs, .pkg, .tick, .plan, .lanes, .fwd, .bridge, .cairn, .cipher, .time, .audio, .power, .update]
  | .falseWake _ => [.access, .logs, .pkg, .lanes, .fwd, .fw, .bridge, .mem, .cairn, .cipher, .audio, .edge, .power]
  | .detachCommand _ _ => [.access, .pkg, .plan, .lanes, .bridge, .power]
  | .detachDrainEnd _ => [.lanes, .fwd, .audio]
  | .dtlsHandshake _ _ _ _ _ _ => [.access, .logs]
  | .openSession _ _ _ _ => [.access, .bridge]
  | .close _ _ => [.access, .bridge, .power, .update]
  | .read _ _ _ _ _ => [.access, .bridge, .time, .power]
  | .write _ _ _ _ _ _ _ => [.staged, .held, .stored, .access, .logs, .pkg, .tick, .plan, .lanes, .fwd, .fw, .bridge, .mem, .cairn, .cipher, .time, .audio, .edge, .power, .update, .diag]
  | .describe _ _ _ _ => [.access, .bridge, .power]
  | .txnBegin _ _ => [.access, .bridge, .power]
  | .txnEnd _ _ => [.staged, .held, .stored, .access, .pkg, .bridge, .power]
  | .txnAbort _ _ => [.access, .bridge, .power]
  | .ping _ _ => [.access, .bridge, .power]
  | .sessionIdleTimeout _ _ => [.access, .update]
  | .snapshotExpiry _ _ => [.access]
  | .forwardTimeout _ _ => [.access, .bridge]
  | .forwardedResponse _ _ _ _ _ _ => [.access, .bridge]
  | .trustAnchorWrite _ _ _ _ => [.access, .pkg, .bridge, .power, .update]
  | .restoreFactory _ _ _ => [.staged, .held, .stored, .access, .pkg, .bridge, .power]
  | .coldStart _ _ => [.staged, .held, .access, .logs, .pkg, .tick, .plan, .lanes, .fwd, .fw, .bridge, .mem, .cairn, .cipher, .time, .audio, .edge, .power, .update, .diag]
  | .resetAssert _ _ => [.staged, .held, .access, .logs, .pkg, .tick, .plan, .lanes, .fwd, .fw, .bridge, .mem, .cairn, .cipher, .time, .audio, .edge, .power, .update, .diag]
  | .aonPowerLoss _ => [.staged, .held, .access, .logs, .pkg, .tick, .plan, .lanes, .fwd, .fw, .bridge, .mem, .cairn, .cipher, .time, .audio, .edge, .power, .update, .diag]
  | .xtalFail _ => []
  | .startFailed _ => [.staged, .held, .access, .logs, .pkg, .tick, .plan, .lanes, .fwd, .fw, .bridge, .mem, .cairn, .cipher, .time, .audio, .edge, .power, .update, .diag]
  | .updateClaim _ _ => [.access, .bridge, .power, .update]
  | .updateAbort _ _ => [.access, .bridge, .power, .update]
  | .updateVerify _ _ => [.access, .bridge, .power, .update]
  | .verifyDone _ _ => [.update]
  | .updateActivate _ _ => [.access, .logs, .pkg, .bridge, .power, .update]
  | .updateConfirm _ _ => [.access, .logs, .bridge, .power, .update]
  | .updateRelease _ _ => [.access, .bridge, .power, .update]
  | .imageBlock _ _ _ _ => [.access, .bridge, .power, .update]
  | .lockTimeout _ => [.update]
  | .selfChecksPassed _ => [.logs, .update]
  | .confirmationWindowExpired _ => [.access, .logs, .pkg, .update]
  | .datapathPause _ => [.pkg, .lanes, .fwd]
  | .recoveryStatus _ _ _ => [.update]
  | .recoveryClaim _ _ _ _ => [.update]
  | .recoveryBlock _ _ _ _ _ => [.update]
  | .recoveryVerify _ _ _ _ => [.update]
  | .recoveryActivate _ _ _ => [.staged, .held, .access, .logs, .pkg, .tick, .plan, .lanes, .fwd, .fw, .bridge, .mem, .cairn, .cipher, .time, .audio, .edge, .power, .update, .diag]
  | .recoveryAbort _ _ _ => [.update]
  | .recoveryClear _ _ _ _ _ => [.access, .logs, .pkg, .tick, .plan, .lanes, .fwd, .fw, .bridge, .mem, .cairn, .cipher, .time, .power, .update]
  | .voltage _ _ _ _ _ => [.logs, .diag]
  | .underVoltageFatal _ _ _ => [.access, .logs, .pkg, .tick, .plan, .lanes, .fw, .bridge, .time]
  | .laneTestStart _ _ _ _ => [.access, .logs, .lanes, .fwd, .bridge, .power, .diag]
  | .laneTestStop _ _ _ => [.access, .logs, .lanes, .bridge, .power, .diag]
  | .prbsLock _ _ => []
  | .noLock _ _ => []
  | .testFramesDone _ _ => []
  | .eyeMeasure _ _ _ => [.access, .bridge, .power, .diag]
  | .eyeScanDone _ _ _ _ => [.diag]
  | .saddleTestMode _ _ _ _ _ => [.access, .bridge, .power, .diag]
  | .clearLaneCounters _ _ _ => [.access, .bridge, .power]
  | .clearStreamCounters _ _ => [.access, .bridge, .power]
  | .clearPassCounters _ _ => [.access, .bridge, .power]
  | .clearCirqueCounters _ _ => [.access, .bridge, .audio, .power]
  | .clearEdgeCounters _ _ _ _ => [.access, .bridge, .power]
  | .clearGatewayCounters _ _ => [.access, .bridge, .edge, .power]
  | .clearMacsecCounters _ _ => [.access, .bridge, .power]
  | .clearBridgeCounters _ _ => [.access, .bridge, .power]
  | .clearMonitorRecords _ _ => [.access, .bridge, .power]
  | .aonPowerUp _ => []
  | .lockGained _ _ => [.lanes]
  | .lockLost _ _ => [.lanes]
  | .lacpCollectingDistributing _ _ => [.lanes]
  | .canBusError _ _ _ _ => [.bridge, .edge]
  | .txDone _ _ _ => [.bridge, .edge]
  | .tpdoInhibitTime _ _ => [.edge]
  | .wakeFrameRepeat _ => [.lanes, .power]
  | .commitRepeat _ => [.lanes, .power]
  | .creditReachesZero _ _ _ _ => [.logs, .lanes, .fwd, .bridge, .cipher, .time]
  | .limiterCountReachesZero _ _ _ => [.logs, .lanes, .fwd, .bridge, .cipher, .time]
  | .setAndHold _ _ => [.lanes]
  | .tamperConditionEnds _ _ => []

/-! ### Requests (R403, R407, R467, R490) -/

/-- A request whose SLIP frame is whole meets an open, idle session of its own association, whose path is up, with a new sequence
number, while the package answers requests. -/
structure State.Takes (s : State) (who : Who) (x : Session) : Prop where
  serving : s.answers = true
  whole : Slip.lost who.slip = false
  path : s.pathUp x.path = true
  session : s.session? who.sess = some x
  assoc : x.assoc = who.assoc
  fresh : x.lastSeq ≠ some who.seq
  idle : x.executing = false

/-- A write of the integer `v` to the command object `idx:sub` is taken up and passes the checks of R490. -/
structure State.MayWrite (s : State) (who : Who) (x : Session) (idx sub v : Nat) : Prop extends s.Takes who x where
  outside : x.txn = none
  right : ∃ r, (s.writeCheck x.rights idx sub).2 = some r ∧ r.rng.ok ((v : Nat) : Int) = true
  value : s.valueOk idx sub v = true

/-- A write of a DOMAIN of `n` bytes to the command object `idx:sub` is taken up and passes the checks of R490. -/
structure State.MayWriteDom (s : State) (who : Who) (x : Session) (idx sub lo hi n : Nat) : Prop extends s.Takes who x where
  outside : x.txn = none
  right : ((s.writeCheck x.rights idx sub).2).isSome = true
  length : lo ≤ n ∧ n ≤ hi

/-- The answer that a request's session receives. -/
def State.answered (u : State) (who : Who) (st : Status) : Prop := Out.response who (Response.of st) ∈ u.out

end Sys2Proof.Machine
end

