-- ==== Sys2Proof/Certificates/Slice0/Obligations.lean ====
section
/-! DEFINITION. The statements. -/

namespace Sys2Proof.Machine

open Sys2Proof

/-- The state in which a selection on a lane at a boundary is made: its credits and its limiter's count are brought up to the time, and nothing is being sent. -/
def State.selecting (s : State) (t n : Nat) (avail : SMap Nat) : State :=
  ((((s.begin t).handed avail).accrue n).accrueBe n).updLane n (fun l => { l with sending := none, sendLeft := 0 })

/-- A frame of the CANopen node waits at its controller: its number among the node's messages, its identifier and its data. -/
def State.nodeSent (s : State) (u num id : Nat) (b : Bytes) : Prop :=
  ∃ x, (s.canSt u).pending.getLast? = some x ∧ x.owner = 1 ∧ x.num = num ∧ x.frame.id = id ∧ x.frame.data = b

/-- The speculative-read counters of the windows whose line copies a state holds (R298). -/
def State.lineKeys (s : State) : List Nat := s.bridge.lines.map (fun c => bySub O.speculativeReadsDiscarded c.window)

/-- A ring frame of the given type is taken: its lane and the device are up, it is not a repeat within the second, and another member sent it. -/
def State.takesRing (s : State) (t lane : Nat) (f : Bytes) (ty : Nat) (m : RingMsg) : Prop :=
  ringParse f = some m ∧ m.ty = ty ∧ s.quiet = false ∧ s.inService lane = true ∧ (s.begin t).relayedBefore m = false ∧ m.origin ≠ s.ownAddr

/-- What Sleep has left of a state: power off in every domain but AON, the plan and the keys at rest as they were, no round and no wake under way. -/
def State.asleep (s v : State) : Prop :=
  v.n O.powerState = pwSLEEP ∧ v.lanes = [] ∧ v.fw = {} ∧ v.audio = {} ∧ v.cipher.sas = [] ∧ v.cipher.jobs = [] ∧ v.cairn.cache = [] ∧ v.access = {} ∧ v.cairn.copies = s.cairn.copies ∧ v.plan = s.plan ∧ v.update = s.update ∧
  (∀ d, d < 8 → s.hasDie d = true → bit v.pkg.quarantine d = true) ∧ v.power = { s.power with round := none, token := none, commits := 0, wakes := 0, wakeOnCommit := false, wakeAt := none, forwardOn := none }
/-- What the wake sequence has brought: Active, the wake recorded, the wait for traffic begun, the tick restarted in HOLD at the estimate. -/
def State.woken (s v : State) (t cause source elapsed est : Nat) : Prop :=
  v.n O.powerState = pwACTIVE ∧ v.n O.lastWakeCause = cause ∧ v.n O.lastWakeSource = source ∧ v.n O.lastWakeTime = satN (2 ^ 32 - 1) elapsed ∧ v.power.wakeAt = some (s.localAt t) ∧ v.power.wakeCause = cause ∧ v.bridge.fwReady = true ∧
  (∃ q : State, q.n O.tickState = tickHOLD ∧ q.n O.tickNumber = est ∧ q.tick = { start := s.localAt t, holdSince := s.localAt t } ∧ v.tick = ((q.restartInstances false).refreshInstances).tick)

/-- R419, R425: steps 1 to 3 of a cold start on the reset state, and the mark of a trial that has just fallen back. -/
def State.coldFirst (s : State) (f : StartFacts) : State :=
  let old := (s.resetDies.setN O.lastStartReason f.reason).setN O.hostEndpointDie f.endpoint
  let u := old.startDies f
  if (u.bootRec u.pkg.lead).fellBack && (old.bootRec u.pkg.lead).trial != 0xFF && (u.bootRec u.pkg.lead).trial == 0xFF then u.setN O.lastUpdateResult urFAILED else u

/-- Request `q` is well formed, comes from no other device, is for this device, and its session takes it. -/
def State.TakesReq (s : State) (q : Req) (x : Session) : Prop :=
  q.fmtOk = true ∧ q.ext = none ∧ (q.target = s.ownAddr ∨ q.target = 0xFFFF) ∧ s.Takes q.who x
/-- The commands that are Speward requests of a session with a header (R408, R463). -/
def isRequest (t : Nat) (q : Req) (c : Instr) : Prop :=
  c = .ping t q ∨ c = .txnBegin t q ∨ c = .txnEnd t q ∨ c = .txnAbort t q ∨ (∃ i j, c = .describe t q i j) ∨ (∃ i j o, c = .read t q i j o) ∨ (∃ i j o l b, c = .write t q i j o l b)
/-- What a write that TXN_END applies puts into a layer of effect `e` (R413). -/
def txnLayer (e : Effect) (d : Dict) (w : Nat × Val) : Dict :=
  match objRow (muxOf w.1 / 256) (muxOf w.1 % 256) with
  | some r => if r.eff = e then d.setVal w.1 w.2 else d
  | none => d
/-- What it holds for the next boundary: writes of effect I and T. -/
def txnHeld (sess now : Nat) (w : Nat × Val) : Option Held :=
  match objRow (muxOf w.1 / 256) (muxOf w.1 % 256) with
  | some r => if r.eff = .C ∨ r.eff = .S then none else some { time := now, key := w.1, val := w.2, txn := some sess }
  | none => none

/-- The state in which an access to object `i:j` by `who` is carried out: what it makes the session drop is dropped (R407). -/
def State.asked (s : State) (t : Nat) (who : Who) (i j : Nat) (r : ObjRow) : State := ((s.begin t).traffic).touch who.sess (mux i j) r.isSelector
/-- A whole integer of the object's size, written to an object that is no command of its own. -/
def plainInt (sess i j : Nat) (r : ObjRow) (d : Bytes) (v : Int) : Prop :=
  r.ty.intBytes = some d.length ∧ ¬(i = 0x2A00 ∧ j = 2) ∧ ¬(i = 0x2FF0 ∧ j = 2) ∧ cmdAct sess i j (leNat d) = none ∧ r.ty.decode d = .num v
/-- What is held, without what the session's own transaction held for object `k` (R413). -/
def State.othersHeld (s : State) (sess k : Nat) : List Held := s.held.filter (fun h => !(h.txn == some sess && h.key == k))

/-- The objects that show the slots and the boot record of the lead (R424, R438). -/
def imageKeys : List Nat := [byIdx O.imageSlotState 0, byIdx O.slotImageVersion 0, byIdx O.slotSecurityVersion 0, byIdx O.slotPlannerFormat 0, byIdx O.imageSlotState 1, byIdx O.slotImageVersion 1, byIdx O.slotSecurityVersion 1,
  byIdx O.slotPlannerFormat 1, O.antiRollbackCounter, O.trialStarts, O.runningImage, O.runningImageVersion, O.failedStarts]
/-- Every healthy die's record holds state `v` for slot `i`. -/
def State.slotsAre (u s : State) (i v : Nat) : Prop := ∀ d ∈ s.upDies, (u.bootRec d).slot i = v

/-- The inactive slot's image before a block, nothing where the block is the first; and with the block's data after it (R431). -/
def State.blockOld (s : State) (d : Bytes) : Bytes := if fld d 0 4 = 0 then [] else s.image s.pkg.lead s.spareSlot
def State.blockNew (s : State) (d : Bytes) : Bytes := s.blockOld d ++ d.drop 4
/-- What the header of an image shows under R423 and R432. -/
def State.header (s : State) (b : Bytes) : Nat := headerResult (s.n O.lifeCycleState) (s.bootRec s.pkg.lead).counter b
/-- May the lock's holder download now: CLAIMED, DOWNLOADED, or RUNNING without a verification? -/
def State.mayLoad (s : State) : Bool := s.n O.updateStatus == upCLAIMED || s.n O.updateStatus == upDOWNLOADED || (s.n O.updateStatus == upRUNNING && !s.update.verifying)
/-- What every accepted block leaves: the image on each healthy die, the count, the holder's time, and nothing else beside the update's own state. -/
def State.blockTaken (s v : State) (t : Nat) (d : Bytes) : Prop := v.n O.bytesReceived = (s.blockNew d).length ∧ (∀ e ∈ s.upDies, v.image e s.spareSlot = s.blockNew d) ∧ v.update.lastCmd = s.localAt t ∧
  v.update.holder = s.update.holder ∧ Only s v [.access, .power, .bridge, .update, .blobs] (O.updateStatus :: O.bytesReceived :: O.lastUpdateResult :: imageKeys)

/-- R433: may the lock's holder activate the image in the inactive slot? -/
def State.mayActivate (s : State) : Bool := (s.n O.updateStatus == upVERIFIED || s.n O.updateStatus == upCLAIMED) && (s.bootRec s.pkg.lead).slot s.spareSlot == imVERIFIED && s.commitStatus != csRUNNING && s.commitStatus != csSWITCHPENDING &&
  s.n O.migrationStatus != msRUNNING && s.n O.lifeCycleCommandStatus != 1 && s.n O.tamperState == 0 && !s.emgActive
/-- The image that runs is being changed: every session has ended, and dictionary service has stopped. -/
def State.restarting (v : State) (i : Nat) : Prop := v.update.running = i ∧ v.access.sessions = [] ∧ v.access.assocs = [] ∧ v.access.forwarded = [] ∧ v.pkg.serving = false
/-- R435: the trial image of `s` has been confirmed in `v`, on every healthy die. -/
def State.confirmedIn (s v : State) : Prop := v.n O.updateStatus = upCONFIRMED ∧ v.update.trialSince = none ∧ v.update.checked = false ∧ ∀ d ∈ s.upDies, (v.bootRec d).confirmed = (s.bootRec s.pkg.lead).trial ∧ (v.bootRec d).trial = 0xFF ∧
  (v.bootRec d).trialStarts = 0 ∧ (v.bootRec d).failedStarts = 0 ∧ (v.bootRec d).counter = max (s.bootRec d).counter (fld (s.image s.pkg.lead (s.bootRec s.pkg.lead).trial) 0x0C 4)

/-- `c` is a recovery request of R428 with the command code `k`, its source, its sequence number and its offset. -/
def isRecovery (t src seq : Nat) (c : Instr) (k off : Nat) : Prop :=
  (c = .recoveryStatus t src seq ∧ k = 1 ∧ off = 0) ∨ (∃ b, c = .recoveryClaim t src seq b ∧ k = 2 ∧ off = 0) ∨ (∃ d, c = .recoveryBlock t src seq off d ∧ k = 3) ∨ (∃ r, c = .recoveryVerify t src seq r ∧ k = 4 ∧ off = 0) ∨
  (c = .recoveryActivate t src seq ∧ k = 5 ∧ off = 0) ∨ (c = .recoveryAbort t src seq ∧ k = 6 ∧ off = 0) ∨ (∃ d b, c = .recoveryClear t src seq d b ∧ k = 7 ∧ off = 0)
/-- The protocol answers command `k` now, and this sequence number of this source has not been answered. -/
def State.hears (s : State) (k src seq : Nat) : Prop := s.recoveryAnswers k = true ∧ ∀ q r, s.update.recLast = some (q, r) → q ≠ 65536 * src + seq
/-- The answer to a recovery request has been sent and is kept. -/
def State.replied (v : State) (k st src seq off : Nat) (d : Bytes) : Prop := .message "recovery" src (recoveryResponse k st seq off d) ∈ v.out ∧ v.update.recLast = some (65536 * src + seq, recoveryResponse k st seq off d)
/-- A refusal: it is answered, and nothing else changes. -/
def State.turned (s v : State) (k st src seq off : Nat) : Prop := v.replied k st src seq off [] ∧ v.update = { s.update with recLast := v.update.recLast } ∧ Only s v [.update] []
/-- A block of the image in recovery: the slot it goes to, what was there before, and what is there after it. -/
def State.recAt (s : State) (off : Nat) : Nat := if off = 0 then s.recoverySlot else s.update.recSlot
def State.recOld (s : State) (off : Nat) : Bytes := if off = 0 then [] else s.image s.serviceDie (s.recAt off)
/-- What is left of an image written or verified: the slot and the protocol's state. -/
def State.recSlotIs (v s : State) (i sl st t : Nat) : Prop := (v.bootRec s.serviceDie).slot i = sl ∧ v.update.recState = st ∧ v.update.recSlot = i ∧ v.update.lastCmd = s.localAt t ∧ v.update.recLock = s.update.recLock
/-- The security version of the service die's image in slot `i`, 0 where it is not complete. -/
def State.recSecurity (s : State) (i : Nat) : Nat := if imUNVERIFIED ≤ (s.bootRec s.serviceDie).slot i then fld (s.image s.serviceDie i) 0x0C 4 else 0

/-- Does a boundary find the package at rest: before its firmware runs, or inside a stretch tick that has not ended (R42)? -/
def State.noBoundary (s : State) (g : Nat) : Prop := s.power_ < 3 ∨ s.pkg.recoveryDies ≠ 0 ∨ s.pkg.tamperHold = true ∨ s.insideStretch g = true

end Sys2Proof.Machine

open Sys2Proof Sys2Proof.Machine

/-- For every command c and state s, a step of s with c at the front of its queue is exec of c on s with the rest of the queue. With nothing waiting a
step leaves the state as it is: that an empty queue idles is the model's own choice (log entry 1). -/
def Obligations.StepRunsFrontCommand : Prop :=
  (∀ (c : Instr) (rest : List Instr) (s : State), step { s with pending := c :: rest } = exec c { s with pending := rest }) ∧
    ∀ s : State, s.pending = [] → step s = .next s

/-- Whatever the state and whatever the command and its operands, exec answers a next state, and so does a step: no command of the table ends in a
fault or a refusal. -/
def Obligations.EveryStepCompletes : Prop :=
  (∀ (c : Instr) (s : State), ∃ u, exec c s = .next u) ∧ ∀ s : State, ∃ u, step s = .next u

/-- For every command and state: where exec answers a next state, the variant, the queue and every part of the state that is not in the command's list
partsOf are what they were. The lists are by command: a tick state, the lanes, the forwarding database, the firewall, the bridges, the keys and ciphers,
the time, the audio, the edge units, the power, the update and the diagnosis parts each change only by the commands that list them. A byte-string object of
the dictionary, an integer object, the clock and the wires are left aside here. -/
def Obligations.EveryCommandStaysInItsParts : Prop :=
  ∀ (c : Instr) (s u : State), exec c s = .next u → Within s u (partsOf c)

/-- From every state with a legal variant whose waiting commands are all well formed, a step leaves such a state: the package stays one of two, four or
eight dies, of the same kind, and exactly the front command has left the queue. -/
def Obligations.EveryStepKeepsInvariant : Prop :=
  ∀ s u : State, s.Inv → step s = .next u → u.Inv ∧ u.variant = s.variant ∧ u.pending = s.pending.tail

/-- The state right after reset is a legal package with an empty queue. -/
def Obligations.ResetMeetsInvariant : Prop := State.reset.Inv ∧ State.reset.pending = []

/-- The commands of the tick regimes complete. LOCK_HOLD_TIMEOUT in HOLD, outside a stretch tick and with the timeout (not 0) run
out, makes the tick unit enter FREE_RUN and sets FREE_RUN_SCHED. FIRST_LOCK with UNLOCKED set clears it and leaves a step pending; in a stretch tick it clears the note of a loss;
in HOLDOVER it returns to LOCKED and clears HOLDOVER. HOLDOVER in LOCKED enters HOLDOVER and sets its flag; in a stretch tick it notes the loss. STRETCH_TICK_START with a step due starts the
tick that ends at the earliest aligned boundary at least one period later, numbered with the tick it ends with minus one: every list stops, the state is HOLD and no waiting generation switches before its end.
STRETCH_TICK_END makes the tick number the aligned one, the state LOCKED (HOLDOVER after a loss in that tick) and the phase error 0, and leaves REALIGN_PENDING as a request in that tick left it.
RE_ALIGN_TICK sets its request bit and answers OK. HOLD_END at a lane's cycle boundary after the hold starts that lane's list. -/
def Obligations.TickRegimes : Prop :=
  (∀ (s : State) (t : Nat), s.tickState = tickHOLD → s.tick.stretch = none → s.n O.lockHoldTimeout ≠ 0 →
    s.n O.lockHoldTimeout * 1000000 ≤ s.localAt t - s.tick.holdSince →
    Runs (.lockHoldTimeout t) s fun u => u.tickState = tickFREERUN ∧ u.n O.tickFlags = setBit (s.n O.tickFlags) tfFREERUNSCHED true ∧
      Only s u [] [O.tickState, O.tickFlags]) ∧
  (∀ (s : State) (t : Nat), s.flag O.tickFlags tfUNLOCKED = true →
    Runs (.firstLock t) s fun u => u.n O.tickFlags = setBit (s.n O.tickFlags) tfUNLOCKED false ∧
      u.tick = { s.tick with lockPending := true } ∧ Only s u [.tick] [O.tickFlags]) ∧
  (∀ (s : State) (t : Nat), s.flag O.tickFlags tfUNLOCKED = false →
    (s.tick.stretch.isSome = true → Runs (.firstLock t) s fun u => u.tick = { s.tick with lost := false } ∧ Only s u [.tick] []) ∧
    (s.tick.stretch = none → s.tickState = tickHOLDOVER → Runs (.firstLock t) s fun u => u.tickState = tickLOCKED ∧
      u.n O.tickFlags = setBit (s.n O.tickFlags) tfHOLDOVER false ∧ Only s u [.logs] [O.tickState, O.tickFlags])) ∧
  (∀ (s : State) (t : Nat),
    (s.tickState = tickLOCKED → Runs (.holdover t) s fun u => u.tickState = tickHOLDOVER ∧
      u.n O.tickFlags = setBit (s.n O.tickFlags) tfHOLDOVER true ∧ Only s u [.logs] [O.tickState, O.tickFlags]) ∧
    (s.tickState ≠ tickLOCKED → s.tick.stretch.isSome = true → Runs (.holdover t) s fun u => u.tick = { s.tick with lost := true } ∧ Only s u [.tick, .logs] [])) ∧
  (∀ (s : State) (t g e : Nat), s.stepDue = true → e = stretchEnd g s.period →
    Runs (.stretchTickStart t g) s fun u => u.tick.stretch = some e ∧ u.tick.start = s.localAt t ∧ u.tick.lockPending = false ∧ u.tickNo = e - 1 ∧
      u.n O.lastStretchTick = e - 1 ∧ u.tickState = tickHOLD ∧ bit (u.n O.tickFlags) tfHELD = true ∧
      (∀ n l, look u.lanes n = some l → l.gateRunning = false ∧ l.gateStates = 0x7F) ∧ (∀ p ∈ u.plan.pending, e ≤ p.switchTick) ∧
      u.plan.active = s.plan.active ∧ Within s u [.tick, .plan, .lanes, .logs]) ∧
  (∀ (s : State) (t e : Nat), s.tick.stretch = some e →
    Runs (.stretchTickEnd t) s fun u => u.tickNo = e ∧ u.tickState = (if s.tick.lost then tickHOLDOVER else tickLOCKED) ∧ u.o O.tickPhaseError = 0 ∧
      u.n O.tickFlags = setBit (setBit (setBit (setBit (s.n O.tickFlags) tfFREERUNSCHED false) tfREALIGN s.tick.again) tfHOLDOVER s.tick.lost) tfPHASEERROR false ∧
      u.tick = { s.tick with stretch := none, again := false, lost := false, start := s.localAt t } ∧
      Only s u [.tick] [O.tickNumber, O.tickState, O.tickFlags, O.tickPhaseError]) ∧
  (∀ (s : State) (t : Nat) (who : Who) (x : Session), s.MayWrite who x 0x2100 7 1 →
    Runs (.reAlignTick t who) s fun u => u.n O.tickFlags = setBit (s.n O.tickFlags) tfREALIGN true ∧
      u.tick = { s.tick with again := s.tick.stretch.isSome } ∧ u.answered who .ok ∧ Only s u [.power, .access, .bridge, .tick] [O.tickFlags]) ∧
  (∀ (s : State) (t n : Nat), s.hasLane n = true → s.holdEnded = true → s.laneHeld n = true → s.laneRestarting n = false →
    isCycleBoundary (s.laneCycle n) s.tickNo = true → Runs (.holdEnd t n) s fun u => (u.lane n).gateRunning = true ∧
      (u.lane n).gateStates = cycleStartStates (s.listOf n) ∧ (u.lane n).gateOwner = cycleStartOwner (s.listOf n) ∧ (u.lane n).gateNext = 0 ∧
      (u.lane n).gateRound = s.tickNo / s.laneCycle n ∧ Only s u [.lanes] [O.tickFlags])

/-- The slot-state table, for the three writes of a contract slot. A write of *staged record* with a record whose reserved fields
are met, *stage delete* and *discard staged* complete with OK and move the slot as the table says, SHED reading SHED throughout; a
staged record is then the slot's staged content, a staged delete marks it, a discard leaves none, and a write with no entry in
the table leaves the staged content alone. *Broken contracts* counts the BROKEN slots after the first two. Only the slot's state, the staged content, the notes of what was staged after a
snapshot and the count change, and an active record only where its slot is EMPTY. -/
def Obligations.SlotStates : Prop :=
  (∀ (s : State) (t slot : Nat) (who : Who) (x : Session) (rec : Bytes), slot < 8192 → s.MayWriteDom who x (0x3000 + slot) 1 64 64 rec.length →
    contractReservedOk rec = true →
    Runs (.stageRecord t who slot rec) s fun u =>
      (s.slotState slot ∈ [0, 1, 5] → u.slotState slot = 1) ∧ (s.slotState slot ∈ [2, 3, 4] → u.slotState slot = 3) ∧
      (s.slotState slot = 6 → u.slotState slot = 6) ∧ u.stagedRec slot = some rec ∧ slot ∉ u.plan.stagedDel ∧
      u.n O.brokenContracts = u.slotCount slBROKEN ∧ (∀ k, k ≠ activeKey slot → u.blob k = s.blob k) ∧
      u.answered who .ok ∧ Only s u [.staged, .plan, .power, .access, .bridge, .blobs] [slotStateKey slot, O.brokenContracts]) ∧
  (∀ (s : State) (t slot : Nat) (who : Who) (x : Session), slot < 8192 → s.MayWrite who x (0x3000 + slot) 4 1 →
    Runs (.stageDelete t who slot) s fun u =>
      (s.slotState slot ∈ [1, 5] → u.slotState slot = 0 ∧ u.hasStaged slot = false) ∧
      (s.slotState slot ∈ [2, 3] → u.slotState slot = 4) ∧
      (s.slotState slot ∈ [2, 3, 6] → slot ∈ u.plan.stagedDel ∧ u.stagedRec slot = none) ∧
      (s.slotState slot ∈ [0, 4, 6] → u.slotState slot = s.slotState slot) ∧
      (s.slotState slot ∈ [0, 4] → u.staged = s.staged ∧ u.plan.stagedDel = s.plan.stagedDel) ∧
      u.n O.brokenContracts = u.slotCount slBROKEN ∧ (∀ k, k ≠ activeKey slot → u.blob k = s.blob k) ∧
      u.answered who .ok ∧ Only s u [.staged, .plan, .power, .access, .bridge, .blobs] [slotStateKey slot, O.brokenContracts]) ∧
  (∀ (s : State) (t slot : Nat) (who : Who) (x : Session), slot < 8192 → s.MayWrite who x (0x3000 + slot) 5 1 →
    Runs (.discardStaged t who slot) s fun u =>
      (s.slotState slot = 1 → u.slotState slot = 0) ∧ (s.slotState slot ∈ [3, 4] → u.slotState slot = 2) ∧
      (s.slotState slot ∈ [0, 2, 5, 6] → u.slotState slot = s.slotState slot) ∧
      (s.slotState slot ∈ [1, 3, 4, 6] → u.hasStaged slot = false) ∧
      (s.slotState slot ∈ [0, 2, 5] → u.staged = s.staged ∧ u.plan = s.plan) ∧
      (∀ k, k ≠ activeKey slot → u.blob k = s.blob k) ∧
      u.answered who .ok ∧ Only s u [.staged, .plan, .power, .access, .bridge, .blobs] [slotStateKey slot])

/-- The five commit commands. Command 1 and 4 outside Standby, and command 3, written while no commit runs, complete: the status is RUNNING, the
sequence one more, the verdict objects at their defaults, the snapshot exactly the staged content of that moment, an
accepted generation that awaited its switch shows as the pending one, and a running migration is abandoned. An abort of a running commit makes the
status ABORTED, drops the snapshot and keeps the plan in force and all staged content. Command 5 while no commit runs makes the status IDLE and, with no
generation pending, discards the staged content of every slot, moving each slot as *discard staged* does. While a commit runs, commands 1, 3, 4 and 5 answer DEVICE_STATE, as
commands 1 and 4 do in Standby, and change nothing. -/
def Obligations.CommitCommands : Prop :=
  (∀ (s : State) (t cmd : Nat) (who : Who) (x : Session) (c : Instr), s.MayWrite who x 0x5000 1 cmd → s.commitStatus ≠ csRUNNING →
    (c = .commit t who ∧ cmd = 1 ∧ s.n O.powerState ≠ 2 ∨ c = .commitForcingDisables t who ∧ cmd = 4 ∧ s.n O.powerState ≠ 2 ∨
      c = .checkOnly t who ∧ cmd = 3) →
    Runs c s fun u => u.commitStatus = csRUNNING ∧ u.n O.commitSequence = (s.n O.commitSequence + 1) % 2 ^ 32 ∧
      (∀ k ∈ [O.verdict, O.violatingContractID, O.violatedResource, O.margin, O.marginUnit, O.faultCase, O.innerVerdict, O.newGeneration,
        O.switchTick, O.brokenByCommit], u.o k = 0) ∧ u.n O.violatingSlot = 0xFFFF ∧
      (∃ n, u.plan = { s.plan with snapshot := some n } ∧ n.cmd = cmd ∧ n.sess = who.sess ∧ n.role = x.role ∧
        n.slots = s.stagedSlots ∧ n.dict = s.stagedObjs ∧ n.since = [] ∧ n.deleted = [] ∧ n.inService = u.lanesInService ∧ n.snapAt = s.localAt t) ∧
      (s.commitStatus = csSWITCHPENDING → u.n O.pendingGeneration = s.n O.newGeneration ∧ u.n O.pendingSwitchTick = s.n O.switchTick) ∧
      (s.n O.migrationStatus = msRUNNING → u.n O.migrationStatus = msABANDONED) ∧
      u.answered who .ok ∧
      Only s u [.plan, .logs, .power, .access, .bridge] [O.commitStatus, O.commitSequence, O.verdict, O.violatingSlot,
        O.violatingContractID, O.violatedResource, O.margin, O.marginUnit, O.faultCase, O.innerVerdict, O.newGeneration,
        O.switchTick, O.brokenByCommit, O.pendingGeneration, O.pendingSwitchTick, O.migrationStatus]) ∧
  (∀ (s : State) (t : Nat) (who : Who) (x : Session), s.MayWrite who x 0x5000 1 2 → s.commitStatus = csRUNNING →
    Runs (.commitAbort t who) s fun u => u.commitStatus = csABORTED ∧ u.plan = { s.plan with snapshot := none } ∧ u.answered who .ok ∧
      Only s u [.plan, .power, .access, .bridge] [O.commitStatus]) ∧
  (∀ (s : State) (t : Nat) (who : Who) (x : Session), s.MayWrite who x 0x5000 1 5 → s.commitStatus ≠ csRUNNING →
    Runs (.discardAllStaged t who) s fun u => u.commitStatus = csIDLE ∧ u.answered who .ok ∧ (s.plan.pending = [] →
      (∀ slot ∈ keys s.stagedSlots, u.hasStaged slot = false ∧ (s.slotState slot = 1 → u.slotState slot = 0) ∧
        (s.slotState slot ∈ [3, 4] → u.slotState slot = 2) ∧ (s.slotState slot ∈ [0, 2, 5, 6] → u.slotState slot = s.slotState slot)) ∧
      Only s u [.staged, .plan, .power, .access, .bridge, .blobs] ([O.commitStatus, O.pendingGeneration, O.pendingSwitchTick] ++
        (keys s.stagedSlots).map slotStateKey))) ∧
  (∀ (s : State) (t cmd : Nat) (who : Who) (x : Session) (c : Instr), s.MayWrite who x 0x5000 1 cmd →
    (c = .commit t who ∧ cmd = 1 ∨ c = .commitForcingDisables t who ∧ cmd = 4 ∨ c = .checkOnly t who ∧ cmd = 3 ∨ c = .discardAllStaged t who ∧ cmd = 5) →
    s.commitStatus = csRUNNING ∨ s.n O.powerState = 2 ∧ (cmd = 1 ∨ cmd = 4) →
    Runs c s fun u => u.answered who .deviceState ∧ Only s u [.power, .access, .bridge] [])

/-- COMMIT_VERDICT, MIGRATION_ENDED and GENERATION_SWITCH. A running commit's admission ends: the verdict objects show its verdict, the
snapshot is spent, and the status is CHECKED for command 3, SWITCH_PENDING with the new plan waiting for an accepted
commit, REFUSED otherwise. A running migration's admission ends SWITCH_PENDING with its plan waiting, or REFUSED. The plan that waits first,
at its switch tick, outside a stretch tick, is then the active plan, with its contracts, and waits no more. The admission and
the new plan are the model's own functions of the state. -/
def Obligations.CommitEnds : Prop :=
  (∀ (s : State) (t : Nat) (n : Snapshot) (res : Result), s.commitStatus = csRUNNING → s.plan.snapshot = some n →
    res = (s.begin t).admission (some n) false →
    Runs (.commitVerdict t) s fun u =>
      u.n O.verdict = res.verdict.code ∧ u.n O.violatingSlot = res.verdict.slot ∧ u.n O.violatedResource = res.verdict.res ∧
      u.n O.marginUnit = res.verdict.unit ∧ u.n O.faultCase = res.verdict.fcase ∧ u.n O.innerVerdict = res.verdict.inner ∧
      (n.cmd = 3 → u.commitStatus = csCHECKED ∧ u.n O.newGeneration = 0 ∧ u.plan = { s.plan with snapshot := none }) ∧
      (n.cmd ≠ 3 → res.verdict.code = vdACCEPTED → u.commitStatus = csSWITCHPENDING ∧ u.n O.newGeneration = res.plan.gen ∧
        u.n O.switchTick = res.plan.switchTick ∧
        u.plan = { s.plan with snapshot := none, pending := s.plan.pending ++ [res.plan] }) ∧
      (n.cmd ≠ 3 → res.verdict.code ≠ vdACCEPTED → u.commitStatus = csREFUSED ∧ u.n O.newGeneration = 0 ∧
        u.plan = { s.plan with snapshot := none }) ∧
      Only s u [.plan, .logs, .power] [O.commitStatus, O.verdict, O.violatingSlot, O.violatingContractID, O.violatedResource, O.margin,
        O.marginUnit, O.faultCase, O.innerVerdict, O.newGeneration, O.switchTick, O.brokenByCommit, O.firstFaultyRecord]) ∧
  (∀ (s : State) (t : Nat) (res : Result), s.n O.migrationStatus = msRUNNING →
    res = (s.begin t).admission none true →
    Runs (.migrationEnded t) s fun u => u.n O.migrationVerdict = res.verdict.code ∧
      (res.verdict.code = vdACCEPTED → u.n O.migrationStatus = msSWITCHPENDING ∧ u.n O.migrationGeneration = res.plan.gen ∧
        u.plan = { s.plan with pending := s.plan.pending ++ [res.plan] }) ∧
      (res.verdict.code ≠ vdACCEPTED → u.n O.migrationStatus = msREFUSED ∧ u.plan = s.plan) ∧
      Only s u [.plan, .logs] [O.migrationStatus, O.migrationVerdict, O.migrationGeneration]) ∧
  (∀ (s : State) (t : Nat) (p : Plan) (rest : List Plan), s.plan.pending = p :: rest → p.switchTick ≤ s.tickNo →
    s.tick.stretch = none →
    Runs (.generationSwitch t) s fun u => u.plan.pending = rest ∧ u.plan.active.gen = p.gen ∧ u.plan.active.contracts = p.contracts ∧
      u.plan.active.place = p.place ∧ u.plan.cases = p.caseSts ∧
      Within s u [.staged, .access, .logs, .pkg, .tick, .plan, .lanes, .fwd, .fw, .bridge, .cairn, .cipher, .time, .audio, .edge, .power, .update])

/-- SHADOW_PLAN_DISTRIBUTED makes a case read DISTRIBUTED when every case before it is, and changes nothing otherwise. An
activation report from a live die about the fault that is being activated is noted, and the plan switches over only when every die that must report has. FAULT_PLAN_ACTIVE
with a switch-over done and settling examines the reduced package's cases, takes up their plans and shows the recovery time. An urgent case whose examination finds a plan while no case is
being activated is activated at once; one that finds none reads UNCOVERED and waits no more. A talker advertise that matches a contract in force is kept for it with its latency; one that matches none is
answered with a failure and counted. A listener's declaration of a stream in force is entered, or withdrawn when not ready. -/
def Obligations.ShadowPlansAndStreams : Prop :=
  (∀ (s : State) (t code : Nat), s.plan.faults = [] → (s.plan.cases.takeWhile (fun c => c.code != code)).all (fun c => decide (2 ≤ c.state)) = true →
    Runs (.shadowPlanDistributed t code) s fun u =>
      u.plan = { s.plan with cases := s.plan.cases.map (fun c => if c.code = code then { c with state := 2 } else c) } ∧ Within s u [.plan]) ∧
  (∀ (s : State) (t code : Nat), (s.plan.cases.takeWhile (fun c => c.code != code)).all (fun c => decide (2 ≤ c.state)) = false →
    Runs (.shadowPlanDistributed t code) s fun u => u.plan = s.plan ∧ Only s u [] []) ∧
  (∀ (s : State) (t die code first : Nat), s.plan.activating = some (code, first) → s.dieUp die = true →
    (∃ d ∈ bitsSet (s.reporters code) 8, d ≠ die ∧ bit s.plan.reported d = false) → die < 8 →
    Runs (.activationReceive t die code) s fun u => u.plan = { s.plan with reported := setBit s.plan.reported die true } ∧ Only s u [.plan] []) ∧
  (∀ (s w : State) (t code first : Nat), s.plan.activating = none → s.plan.settling = some (code, first) →
    w = (s.begin t).setN O.lastRecoveryTime (satN (2 ^ 32 - 1) (s.localAt t - first)) →
    Runs (.faultPlanActive t) s fun u =>
      u.plan = { s.plan with settling := none, active := { s.plan.active with cases := (examineCases w w.plan.active.contracts w.plan.active.place).filterMap CaseOutcome.plan }, cases := (examineCases w w.plan.active.contracts w.plan.active.place).map CaseOutcome.st } ∧
      u.n O.lastRecoveryTime = satN (2 ^ 32 - 1) (s.localAt t - first) ∧ Within s u [.plan, .logs]) ∧
  (∀ (s b : State) (t code first : Nat), s.plan.activating = none → s.plan.base = [] →
    s.plan.urgent.find? (fun e => e.1 == code) = some (code, first) → b = (s.begin t).beforeFault code →
    Runs (.urgentShadowPlanBuilt t code) s fun u =>
      ((examineCase b b.plan.active.contracts b.plan.active.place code).plan.isSome = true → u.plan.activating = some (code, first) ∧ u.plan.reported = 0 ∧ u.n O.faultStatus = 0) ∧
      ((examineCase b b.plan.active.contracts b.plan.active.place code).plan = none → (∃ c ∈ u.plan.cases, c.code = code ∧ c.state = 3) ∧
        u.plan.urgent = s.plan.urgent.filter (fun e => e.1 != code) ∧ u.plan.active = s.plan.active ∧ Within s u [.plan])) ∧
  (∀ (s : State) (t lane : Nat) (ad : TalkerAd), s.hasLane lane = true →
    s.plan.active.contracts.find? (fun e => adMatches (s.begin t) lane ad e.2) = none →
    Runs (.talkerAdvertise t lane ad) s fun u => u.plan = { s.plan with talkerFailures := s.plan.talkerFailures + 1 } ∧
      Out.talkerFailed lane ad.stream failBRIDGE ∈ u.out ∧ Only s u [.plan] []) ∧
  (∀ (s : State) (t lane slot : Nat) (ad : TalkerAd) (r : Bytes), s.hasLane lane = true →
    s.plan.active.contracts.find? (fun e => adMatches (s.begin t) lane ad e.2) = some (slot, r) →
    Runs (.talkerAdvertise t lane ad) s fun u =>
      u.plan = { s.plan with talkers := ⟨slot, ad.latency⟩ :: s.plan.talkers.filter (fun x => x.slot != slot) } ∧ Only s u [.plan] []) ∧
  (∀ (s : State) (t lane slot : Nat) (stream r : Bytes) (ready : Bool),
    s.plan.active.contracts.find? (fun e => msrpContract e.2 && Contract.stream e.2 == stream) = some (slot, r) →
    Runs (.listenerDeclaration t lane stream ready) s fun u =>
      (⟨slot, lane⟩ ∈ u.plan.listeners ↔ ready = true) ∧
      (∀ l, l ≠ ⟨slot, lane⟩ → (l ∈ u.plan.listeners ↔ l ∈ s.plan.listeners)) ∧ Only s u [.plan] [])

/-- A write of 2 to commit command that is taken up, whatever the state: if the commit status is RUNNING it answers OK, the status becomes ABORTED, and the
plan in force, its contracts, the plans that wait and all staged content are what they were; otherwise it answers ALREADY_DONE and the status and every
other object stand as they were. -/
def Obligations.AbortOnlyRunningCommit : Prop :=
  ∀ (s : State) (t : Nat) (who : Who) (x : Session), s.MayWrite who x 0x5000 1 2 →
    (s.commitStatus = csRUNNING → Runs (.commitAbort t who) s fun u => u.answered who .ok ∧ u.commitStatus = csABORTED ∧
      u.plan.active = s.plan.active ∧ u.plan.pending = s.plan.pending ∧ u.plan.stagedDel = s.plan.stagedDel ∧ u.staged = s.staged ∧
      Only s u [.plan, .power, .access, .bridge] [O.commitStatus]) ∧
    (s.commitStatus ≠ csRUNNING → Runs (.commitAbort t who) s fun u => u.answered who .alreadyDone ∧ u.commitStatus = s.commitStatus ∧
      Only s u [.power, .access, .bridge] [])

/-- HEARTBEAT_MISSED on a trained port of a die in service counts the miss; before the third in a row nothing else changes but the run of misses; at the
third, a standby link is failed, and for another link the far die is failed or has this link's report noted. HEARTBEAT_SEND sends one heartbeat on every
trained port of every die in service and changes nothing. FATAL_WIRE, UNDER_VOLTAGE_FATAL on VDD_CORE or VDD_SRAM, and DIE_FAULT_CLASSIFY_TIMEOUT 8 µs after the first
report with every link of the die reported, put a die in service out of service: it is among the failed dies and no longer
healthy. If it was the lead and the standby is up, the standby is the lead and dictionary service pauses. A classification with a link of the die still
up spends the die's reports. -/
def Obligations.DieFaults : Prop :=
  (∀ (s : State) (t d p : Nat), d < 8 → p < 4 → s.dieUp d = true → s.trained d p = true → (s.begin t).missesInRow d p < 3 →
    Runs (.heartbeatMissed t d p) s fun u =>
      u.n (portKey O.missedHeartbeats d p) = satN (2 ^ 32 - 1) (s.n (portKey O.missedHeartbeats d p) + 1) ∧
      u.pkg = { s.pkg with linkMiss := ins s.pkg.linkMiss (4 * d + p) ((s.begin t).missesInRow d p, s.localAt t) } ∧
      Only s u [.pkg] [portKey O.missedHeartbeats d p]) ∧
  (∀ (s : State) (t d p : Nat) (e : Nat × Nat), d < 8 → p < 4 → s.dieUp d = true → s.trained d p = true → 3 ≤ (s.begin t).missesInRow d p → s.peer d p = some e →
    (s.saddle d p = linkSTANDBY → Runs (.heartbeatMissed t d p) s fun u => u.saddle e.1 e.2 = linkFAILED ∧ look u.pkg.linkMiss (4 * d + p) = none) ∧
    (s.saddle d p ≠ linkSTANDBY → s.dieUp e.1 = true → Runs (.heartbeatMissed t d p) s fun u =>
      e.1 ∈ u.pkg.failed ∨ bit (get 0 u.pkg.linkReports e.1) e.2 = true)) ∧
  (∀ (s : State) (t : Nat), Runs (.heartbeatSend t) s fun u =>
    (∀ d ∈ s.upDies, ∀ p < 4, s.trained d p = true → Out.heartbeat d p (s.localAt t) ∈ u.out) ∧ Only s u [] []) ∧
  (∀ (s : State) (t d : Nat) (c : Instr), s.dieUp d = true →
    ((∃ cause, c = .fatalWire t d cause) ∨ (∃ m, m < 2 ∧ c = .underVoltageFatal t d m) ∨
      (∃ first, c = .dieFaultClassifyTimeout t d ∧ look s.pkg.firstReport d = some first ∧ first + 8000 ≤ s.localAt t ∧ s.allLinksLost d = true)) →
    Runs c s fun u => d ∈ u.pkg.failed ∧ bit u.pkg.healthy d = false ∧
      (d = s.pkg.lead → s.pkg.standby ≠ d → s.dieUp s.pkg.standby = true → u.pkg.lead = s.pkg.standby ∧ u.pkg.serving = false) ∧
      (d = 0 → u.pkg.anchorLost = true)) ∧
  (∀ (s : State) (t d first : Nat), look s.pkg.firstReport d = some first → first + 8000 ≤ s.localAt t → s.allLinksLost d = false →
    Runs (.dieFaultClassifyTimeout t d) s fun u => look u.pkg.linkReports d = none ∧ look u.pkg.firstReport d = none ∧ u.pkg.failed = s.pkg.failed)

/-- DICTIONARY_SERVICE_RESUME while service pauses makes the dictionary served again; if the lost lead was running a commit and no mirror had to be restored, the
commit is CANCELLED and no generation waits. REMIRROR_DONE with a standby makes its mirror complete. GATE_WATCHDOG of a port cluster in a region in service
restarts the cluster: its record shows a first restart where the last run of restarts is over, else one more up to two, and the third takes
the region or the die out of service; in a region out of service the restart is only logged. CLUSTER_BACK_IN_SERVICE ends the restart. DERATE_RAISE after 64 hot ticks and DERATE_LOWER after 480,000 cool
ticks move the die's level by one. -/
def Obligations.RolesAndClusters : Prop :=
  (∀ (s : State) (t : Nat), s.pkg.serving = false → Runs (.dictionaryServiceResume t) s fun u => u.pkg.serving = true ∧
    u.pkg.cancelOnResume = false ∧ u.pkg.lead = s.pkg.lead ∧
    (s.pkg.cancelOnResume = true → s.pkg.stagedLost = false → s.update.holder = none → s.commitStatus = csRUNNING →
      u.commitStatus = csCANCELLED ∧ u.plan.pending = [] ∧ u.plan.snapshot = none)) ∧
  (∀ (s : State) (t : Nat), s.pkg.standby ≠ 0xFF → Runs (.remirrorDone t) s fun u => u.pkg = { s.pkg with mirrored := true } ∧ Only s u [.pkg] []) ∧
  (∀ (s : State) (t d c : Nat), c < 4 → s.regionUp (clusterRegion d c) = true →
    (((s.cluster d c).count = 0 ∨ 8192 ≤ s.tickNo - (s.cluster d c).firstTick) →
      Runs (.gateWatchdog t d c) s fun u => u.cluster d c = ⟨true, s.tickNo, 1⟩) ∧
    ((s.cluster d c).count = 1 → s.tickNo - (s.cluster d c).firstTick < 8192 →
      Runs (.gateWatchdog t d c) s fun u => u.cluster d c = ⟨true, (s.cluster d c).firstTick, 2⟩) ∧
    (2 ≤ (s.cluster d c).count → s.tickNo - (s.cluster d c).firstTick < 8192 →
      Runs (.gateWatchdog t d c) s fun u => clusterRegion d c ∈ u.pkg.regionFaults ∨ clusterRegion d c / 2 ∈ u.pkg.failed)) ∧
  (∀ (s : State) (t d c : Nat), c < 4 → s.regionUp (clusterRegion d c) = false → Runs (.gateWatchdog t d c) s fun u => Only s u [.logs] []) ∧
  (∀ (s : State) (t d c : Nat), (s.cluster d c).restarting = true →
    Runs (.clusterBackInService t d c) s fun u => u.cluster d c = { s.cluster d c with restarting := false } ∧ Only s u [.pkg] []) ∧
  (∀ (s : State) (t d : Nat), d < 8 → s.dieUp d = true → s.n (bySub O.dieDerateLevel d) < 3 → 64 ≤ get 0 s.plan.derateHot d →
    Runs (.derateRaise t d) s fun u => u.n (bySub O.dieDerateLevel d) = s.n (bySub O.dieDerateLevel d) + 1 ∧
      Only s u [.plan, .logs] [bySub O.dieDerateLevel d, O.migrationStatus]) ∧
  (∀ (s : State) (t d : Nat), d < 8 → s.dieUp d = true → 0 < s.n (bySub O.dieDerateLevel d) → 480000 ≤ get 0 s.plan.derateCool d →
    (get 0 s.power.raised d = 0 ∨ 480000 ≤ s.power.coolRun) →
    Runs (.derateLower t d) s fun u => u.n (bySub O.dieDerateLevel d) + 1 = s.n (bySub O.dieDerateLevel d) ∧
      Only s u [.plan, .logs, .power] [bySub O.dieDerateLevel d, O.migrationStatus])

/-- The link commands of a lane n below 64. LOCK_GAINED on an enabled lane sets LOCK and ends a running loss hold-off. LOCK_LOST clears LOCK and HOLD_OFF and
starts the loss hold-off. AUTONEG_COMPLETE on a lane that negotiates sets AN_DONE with the resolved rate, and RATE_MISMATCH where the rate or duplex differs: a hold-off that runs is
broken, and a lane that had its signal loses it, its queues empty. LINK_UP_HOLD_OFF, its time run out with lock and auto-negotiation standing, puts the lane in service where it does not
verify preemption. LINK_LOSS, its hold-off run out, takes the lane out of service: its queues are empty, it carries no contract traffic, and while no
plan is in force SIGNAL and IN_SERVICE are clear. PREEMPTION_VERIFY_DONE makes the verify ACTIVE with the lane in service, or FAILED. LACP_OUT sets LACP_OUT (while no plan is in force) of a member of a group with
LACP, empties its queues and ends its contract traffic; LACP_COLLECTING_DISTRIBUTING clears LACP_OUT. A clear of the lane's counters zeroes them. -/
def Obligations.LaneLinks : Prop :=
  (∀ (s : State) (t n : Nat), n < 64 → s.laneOn n = true → Runs (.lockGained t n) s fun u => u.link n lkLOCK = true ∧
    (u.lane n).lossSince = none ∧ Only s u [.lanes] [laneKey O.linkStatus n]) ∧
  (∀ (s : State) (t n : Nat), n < 64 → s.laneOn n = true → Runs (.lockLost t n) s fun u => u.link n lkLOCK = false ∧ u.link n lkHOLDOFF = false ∧
    (u.lane n).lossSince = some ((s.lane n).lossSince.getD (s.localAt t)) ∧ (u.lane n).upSince = none ∧
    Only s u [.lanes] [laneKey O.linkStatus n, laneSub O.preemptionStatus n]) ∧
  (∀ (s : State) (t n rate : Nat) (full : Bool), n < 64 → s.laneOn n = true → s.usesAutoneg n = true →
    ((modeRate rate = s.laneRate n ∧ full = true) → Runs (.autonegComplete t n rate full) s fun u => u.link n lkANDONE = true ∧
      u.link n lkRATEMISMATCH = false ∧ u.n (laneKey O.resolvedRate n) = rate ∧ Only s u [.lanes] [laneKey O.linkStatus n, laneKey O.resolvedRate n]) ∧
    ((modeRate rate ≠ s.laneRate n ∨ full = false) → s.link n lkSIGNAL = false → Runs (.autonegComplete t n rate full) s fun u =>
      u.link n lkANDONE = true ∧ u.link n lkRATEMISMATCH = true ∧ u.link n lkHOLDOFF = false ∧ (u.lane n).upSince = none ∧ u.n (laneKey O.resolvedRate n) = rate ∧
      Only s u [.lanes, .logs] [laneKey O.linkStatus n, laneKey O.resolvedRate n, laneSub O.preemptionStatus n]) ∧
    ((modeRate rate ≠ s.laneRate n ∨ full = false) → s.link n lkSIGNAL = true → Runs (.autonegComplete t n rate full) s fun u =>
      (u.lane n).queues = [] ∧ (u.lane n).upSince = none ∧ (u.lane n).contractOk = false)) ∧
  (∀ (s : State) (t n since : Nat), n < 64 → s.laneOn n = true → (s.lane n).upSince = some since → s.linkReady n = true → s.n (laneKey O.linkUpHoldOff n) * 1000000 ≤ s.localAt t - since →
    s.n (laneSub O.preemptionEnable n) ≠ 1 → s.lagOf n = none → Runs (.linkUpHoldOff t n) s fun u => u.link n lkINSERVICE = true ∧
      u.link n lkSIGNAL = true ∧ u.link n lkHOLDOFF = false ∧ (u.lane n).upSince = none ∧ Only s u [.lanes] [laneKey O.linkStatus n]) ∧
  (∀ (s : State) (t n since : Nat), n < 64 → s.laneOn n = true → (s.lane n).lossSince = some since → s.link n lkSIGNAL = true →
    s.n (laneKey O.lossHoldOff n) * 1000 ≤ s.localAt t - since → Runs (.linkLoss t n) s fun u => (u.lane n).queues = [] ∧
      (u.lane n).preempted = none ∧ (u.lane n).contractOk = false ∧ (u.lane n).lossSince = none ∧
      (s.plan.active.gen = 0 → u.link n lkSIGNAL = false ∧ u.link n lkINSERVICE = false)) ∧
  (∀ (s : State) (t n : Nat), n < 64 → s.hasLane n = true → s.n (laneSub O.preemptionStatus n) = 1 → s.linkReady n = true →
    Runs (.preemptionVerifyDone t n true) s (fun u => u.n (laneSub O.preemptionStatus n) = 2 ∧ (s.lagOf n = none → u.link n lkINSERVICE = true)) ∧
    Runs (.preemptionVerifyDone t n false) s (fun u => u.n (laneSub O.preemptionStatus n) = 3 ∧ Only s u [.lanes, .logs] [laneSub O.preemptionStatus n])) ∧
  (∀ (s : State) (t n g : Nat), n < 64 → g < 32 → s.lagOf n = some g → s.n (byIdx O.lacpMode g) ≠ 0 →
    (s.link n lkLACPOUT = false → Runs (.lacpOut t n) s fun u => (u.lane n).lacpOut = true ∧ (u.lane n).queues = [] ∧
      (u.lane n).contractOk = false ∧ (s.plan.active.gen = 0 → u.link n lkLACPOUT = true)) ∧
    Runs (.lacpCollectingDistributing t n) s fun u => u.link n lkLACPOUT = false ∧ (u.lane n).lacpOut = false ∧
      Only s u [.lanes] [laneKey O.linkStatus n, byIdx O.membersInService g]) ∧
  (∀ (s : State) (t : Nat) (who : Who) (x : Session) (n : Nat), n < 64 → s.MayWrite who x (0x2200 + n) 0x1F 1 →
    Runs (.clearLaneCounters t who n) s fun u => u.answered who .ok ∧ u.n (laneKey O.lossEvents n) = 0 ∧ u.n (laneKey O.drained n) = 0)

/-- SESSION_IDLE_EXPIRY removes exactly the sessions that have been idle for their timeout, and *sessions in use* follows. SESSION_TRANSFER_DONE
gives every session of the item its new home, ends the item's transfer, and adds or removes no session. SESSION_FLUSH answers OK; it removes the sessions of
the named pass and no others, or with 0xFFFF all of them. SESSION_LOOKUP_ANSWER for a waiting copy ends its wait and no other. -/
def Obligations.FirewallSessions : Prop :=
  (∀ (s : State) (t : Nat), Runs (.sessionIdleExpiry t) s fun u =>
    (∀ c, c ∈ u.fw.conns ↔ c ∈ s.fw.conns ∧ s.localAt t - c.last < s.connTimeout c) ∧ u.n O.sessionsInUse = u.fw.conns.length ∧
    Only s u [.fw] [O.sessionsInUse]) ∧
  (∀ (s : State) (t p d : Nat), Runs (.sessionTransferDone t p d) s fun u =>
    (∀ c ∈ u.fw.conns, c.pass = p → c.anchor = d → c.home = s.sessHome p d) ∧ u.fw.conns.length = s.fw.conns.length ∧
    (∀ c ∈ s.fw.conns, ¬(c.pass = p ∧ c.anchor = d) → c ∈ u.fw.conns) ∧ look u.fw.moving (8 * p + d) = none ∧ Only s u [.fw] [O.sessionsInUse]) ∧
  (∀ (s : State) (t p : Nat) (who : Who) (x : Session), s.MayWrite who x 0x2600 9 p →
    Runs (.sessionFlush t who p) s fun u => u.answered who .ok ∧ (∀ c, c ∈ u.fw.conns ↔ c ∈ s.fw.conns ∧ c.pass ≠ p ∧ p ≠ 0xFFFF) ∧
      u.n O.sessionsInUse = u.fw.conns.length ∧ Only s u [.fw, .access, .bridge, .power] [O.sessionsInUse]) ∧
  (∀ (s : State) (t id : Nat) (avail : SMap Nat), (∃ w ∈ s.fw.waiting, w.id = id) →
    Runs (.sessionLookupAnswer t id avail) s fun u =>
      ∀ k, (∃ w ∈ u.fw.waiting, w.id = k) ↔ (∃ w ∈ s.fw.waiting, w.id = k) ∧ k ≠ id)

/-- FDB_UPDATE_RECEIVE on a die in service: a dynamic entry is replaced by a later one, or at the same tick by one from a lower-numbered die, and kept otherwise; a static one
is kept; a new address is learned where its bucket has room, and only there. FDB_AGE_OUT removes a dynamic entry idle for the ageing time. STATIC_ENTRY_WRITE answers
OK and leaves the entry on every die, unless the bucket holds four static entries; STATIC_ENTRY_DELETE leaves it on none; FDB_FLUSH keeps the
static entries only. RECOVERY_RESET_TIMEOUT ends the history of a recovery function that has passed no frame for the timeout. -/
def Obligations.ForwardingDatabase : Prop :=
  (∀ (s : State) (t d key : Nat) (e : FdbEntry), s.dieUp d = true → Runs (.fdbUpdateReceive t d key e) s fun u =>
    (∀ o, look (s.fdbOf d) key = some o → o.static = false → (o.tick < e.tick ∨ (o.tick = e.tick ∧ e.die < o.die)) →
      look (u.fdbOf d) key = some { e with refreshed := s.localAt t }) ∧
    (∀ o, look (s.fdbOf d) key = some o → (o.static = true ∨ e.tick < o.tick ∨ (o.tick = e.tick ∧ o.die ≤ e.die)) → u.fwd = s.fwd) ∧
    (look (s.fdbOf d) key = none → (s.bucket d key).length < 4 → look (u.fdbOf d) key = some { e with refreshed := s.localAt t }) ∧
    (look (s.fdbOf d) key = none → 4 ≤ (s.bucket d key).length → u.fwd = s.fwd) ∧
    Only s u [.fwd] [O.fdbEntriesInUse, O.fdbStaticEntries]) ∧
  (∀ (s : State) (t d key : Nat) (o : FdbEntry), look (s.fdbOf d) key = some o → o.static = false →
    s.n O.fdbAgeingTime * 1000000000 ≤ s.localAt t - o.refreshed → Runs (.fdbAgeOut t d key) s fun u =>
      look (u.fdbOf d) key = none ∧ (∀ k, k ≠ key → look (u.fdbOf d) k = look (s.fdbOf d) k) ∧
      Only s u [.fwd] [O.fdbEntriesInUse, O.fdbStaticEntries]) ∧
  (∀ (s : State) (t : Nat) (who : Who) (x : Session) (rec : Bytes), s.MayWriteDom who x 0x2430 4 24 24 rec.length → staticEntryOk rec = true →
    ((s.bucket s.pkg.lead (fdbKey (fldBE rec 0 6) (fld rec 6 2))).all (fun y => y.2.static) = false ∨
      (s.bucket s.pkg.lead (fdbKey (fldBE rec 0 6) (fld rec 6 2))).length < 4) →
    Runs (.staticEntryWrite t who rec) s fun u => u.answered who .ok ∧ (∀ d, d < s.variant →
      (look (u.fdbOf d) (fdbKey (fldBE rec 0 6) (fld rec 6 2))).map (fun e => (e.static, e.endpoint, e.laneSet)) =
        some (true, fld rec 8 2, if bit (fld rec 0x0A 1) 1 then some (fld rec 0x10 8) else none)) ∧
      Only s u [.fwd, .access, .bridge, .power] [O.fdbEntriesInUse, O.fdbStaticEntries]) ∧
  (∀ (s : State) (t : Nat) (who : Who) (x : Session) (rec : Bytes), s.MayWriteDom who x 0x2430 5 8 8 rec.length →
    Runs (.staticEntryDelete t who rec) s fun u => u.answered who .ok ∧ (∀ d e, d < s.variant →
      look (u.fdbOf d) (fdbKey (fldBE rec 0 6) (fld rec 6 2)) = some e → e.static = false)) ∧
  (∀ (s : State) (t : Nat) (who : Who) (x : Session), s.MayWrite who x 0x2400 6 1 →
    Runs (.fdbFlush t who) s fun u => u.answered who .ok ∧ (∀ d y, y ∈ u.fdbOf d ↔ y ∈ s.fdbOf d ∧ y.2.static = true) ∧
      Only s u [.fwd, .access, .bridge, .power] [O.fdbEntriesInUse, O.fdbStaticEntries]) ∧
  (∀ (s : State) (t d slot : Nat), (get {} s.fwd.recovery (d * 8192 + slot)).started = true →
    s.n O.recoveryResetTimeout * s.period ≤ s.localAt t - (get {} s.fwd.recovery (d * 8192 + slot)).lastPass →
    Runs (.recoveryResetTimeout t d slot) s fun u => (get {} u.fwd.recovery (d * 8192 + slot)).started = false ∧ Only s u [.fwd] [])

/-- *clear pass counters* and *clear stream counters* zero the records of the session's window and leave every other record; *clear Cirque counters* zeroes the counters of every
input and output; the five clears of an edge unit, *clear bridge counters* and *clear MACsec counters* zero their objects; *clear gateway counters* zeroes the counts of
messages and mappings; *clear monitor records* leaves each temperature peak at the present temperature (the model's choice, log entry 81)
and no voltage excursions. Each answers OK. -/
def Obligations.Clears : Prop :=
  (∀ (s : State) (t : Nat) (who : Who) (x : Session), s.MayWrite who x 0x2650 4 1 → Runs (.clearPassCounters t who) s fun u =>
    u.answered who .ok ∧ ∀ p, p < 4096 → u.blob (at_ O.passCounters p) =
      if x.sel O.firstCounterPass ≤ p ∧ p < x.sel O.firstCounterPass + x.sel O.counterPassCount then fill 64 0 else s.blob (at_ O.passCounters p)) ∧
  (∀ (s : State) (t : Nat) (who : Who) (x : Session), s.MayWrite who x 0x2450 4 1 → Runs (.clearStreamCounters t who) s fun u =>
    u.answered who .ok ∧ ∀ k, k < 8192 → u.blob (at_ O.streamCounters k) =
      if x.sel O.firstCounterSlot ≤ k ∧ k < x.sel O.firstCounterSlot + x.sel O.counterSlotCount then fill 64 0 else s.blob (at_ O.streamCounters k)) ∧
  (∀ (s : State) (t : Nat) (who : Who) (x : Session), s.MayWrite who x 0x2A38 4 1 → Runs (.clearCirqueCounters t who) s fun u =>
    u.answered who .ok ∧ (∀ k, (get {} u.audio.inputs k).underruns = 0 ∧ (get {} u.audio.inputs k).slips = 0 ∧ (get {} u.audio.inputs k).lost = 0 ∧
      (get {} u.audio.inputs k).formatErrors = 0 ∧ (get {} u.audio.inputs k).state = (get {} s.audio.inputs k).state) ∧
    (∀ k, (get {} u.audio.outputs k).clips = 0 ∧ (get {} u.audio.outputs k).peak = (get {} s.audio.outputs k).peak) ∧
    Only s u [.audio, .access, .bridge, .power] []) ∧
  (∀ (s : State) (t kind unit : Nat) (who : Who) (x : Session), unit < 32 → s.MayWrite who x (edgeCounters kind unit).1 (edgeCounters kind unit).2.1 1 →
    Runs (.clearEdgeCounters t who kind unit) s fun u => u.answered who .ok ∧ (∀ k ∈ (edgeCounters kind unit).2.2, u.n k = 0) ∧
      Only s u [.access, .bridge, .power] (edgeCounters kind unit).2.2) ∧
  (∀ (s : State) (t : Nat) (who : Who) (x : Session), s.MayWrite who x 0x2900 4 1 → Runs (.clearGatewayCounters t who) s fun u =>
    u.answered who .ok ∧ (∀ k, (get {} u.edge.msgs k).count = 0 ∧ (get {} u.edge.msgs k).errors = 0 ∧ (get {} u.edge.msgs k).short = 0) ∧
    (∀ k, (get {} u.edge.maps k).overwritten = 0 ∧ (get {} u.edge.maps k).stale = (get {} s.edge.maps k).stale) ∧ u.edge.cells = s.edge.cells ∧
    Only s u [.edge, .access, .bridge, .power] []) ∧
  (∀ (s : State) (t : Nat) (who : Who) (x : Session), s.MayWrite who x 0x2B71 1 1 → Runs (.clearMacsecCounters t who) s fun u =>
    u.answered who .ok ∧ (∀ n, n < s.laneCount → u.blob (bySub O.macsecCounters n) = fill 64 0) ∧ Only s u [.blobs, .access, .bridge, .power] []) ∧
  (∀ (s : State) (t : Nat) (who : Who) (x : Session), s.MayWrite who x 0x2E47 2 1 → Runs (.clearBridgeCounters t who) s fun u =>
    u.answered who .ok ∧ (∀ i, i < 32 → u.n (bySub O.flitReplays i) = 0 ∧ u.n (bySub O.missedHeartbeats i) = 0) ∧
    (∀ i, i < 8 → u.n (bySub O.bridgeFaults i) = 0 ∧ u.n (bySub O.lateCompletions i) = 0) ∧ (∀ i, i < 18 → u.n (bySub O.speculativeReadsDiscarded i) = 0)) ∧
  (∀ (s : State) (t : Nat) (who : Who) (x : Session), s.legalVariant → s.MayWrite who x 0x2E24 1 1 → Runs (.clearMonitorRecords t who) s fun u =>
    u.answered who .ok ∧ (∀ k, k < 8 * s.variant → u.o (bySub O.temperaturePeak k) = s.o (bySub O.temperature k)) ∧
    (∀ k, k < 4 * s.variant → u.n (bySub O.voltageExcursions k) = 0))

/-- PAUSE_RECEIVE on a lane in a region in service whose cluster is not restarting: with reception enabled it starts, replaces or ends the timer of a PAUSE or of a pausable PFC priority, and with reception disabled the frame is only
counted as ignored; PAUSE_TIMER_EXPIRY leaves no timer that has run out; both leave *pause status* at the classes that are paused; on a restarting
lane the frame is only counted as drained. PAUSE_REPEAT after 32,768 quanta at or above XON
queues a further frame of 0xFFFF quanta, and below XON the frame that ends the pause. STARVATION_LIMIT beyond the limit makes a relief frame due. GATE_EVENT at its entry takes up the entry's
states and owner and moves on. ADMIN_LIST_START at a cycle boundary starts the administrative list there. SET_AND_HOLD puts the hold in force. -/
def Obligations.PauseAndGates : Prop :=
  (∀ (s : State) (t n k q : Nat) (pfc : Bool), n < 64 → s.hasLane n = true → s.regionUp (n / 4) = true → s.laneRestarting n = false →
    bit (s.n (bySub O.flowControl n)) (if pfc then 1 else 0) = true →
    (pfc = true → bit (s.n (bySub O.pausableClasses n)) (s.pcpClass n k) = true) → Runs (.pauseReceive t n pfc [(k, q)]) s fun u =>
      look (u.lane n).pause k = (if q = 0 then none else some (s.localAt t + ceilDiv (q * 512 * 1000000) (max 1 (s.laneRate n)))) ∧
      (∀ j, j ≠ k → look (u.lane n).pause j = look (s.lane n).pause j) ∧ (u.lane n).queues = (s.lane n).queues ∧
      (∀ tc, tc < 3 → bit (u.n (bySub O.pauseStatus n)) tc = u.paused n tc)) ∧
  (∀ (s : State) (t n : Nat) (pfc : Bool) (times : List (Nat × Nat)), n < 64 → s.hasLane n = true → s.regionUp (n / 4) = true → s.laneRestarting n = false →
    bit (s.n (bySub O.flowControl n)) (if pfc then 1 else 0) = false → Runs (.pauseReceive t n pfc times) s fun u =>
      u.n (bySub O.pauseIgnored n) = satN (2 ^ 64 - 1) (s.n (bySub O.pauseIgnored n) + 1) ∧ Only s u [] [bySub O.pauseIgnored n]) ∧
  (∀ (s : State) (t n : Nat) (pfc : Bool) (times : List (Nat × Nat)), n < 64 → s.hasLane n = true → s.regionUp (n / 4) = true → s.laneRestarting n = true →
    Runs (.pauseReceive t n pfc times) s fun u => u.n (laneKey O.drained n) = satN (2 ^ 64 - 1) (s.n (laneKey O.drained n) + 1) ∧ Only s u [] [laneKey O.drained n]) ∧
  (∀ (s : State) (t n : Nat), n < 64 → s.hasLane n = true → Runs (.pauseTimerExpiry t n) s fun u =>
    (∀ e, e ∈ (u.lane n).pause ↔ e ∈ (s.lane n).pause ∧ s.localAt t < e.2) ∧ (∀ tc, tc < 3 → bit (u.n (bySub O.pauseStatus n)) tc = u.paused n tc) ∧
    Only s u [.lanes] [bySub O.pauseStatus n]) ∧
  (∀ (s : State) (t n : Nat), s.hasLane n = true → (s.lane n).xoff = true → s.txFlow n ≠ 0 →
    (ceilDiv (32768 * 512 * 1000000) (max 1 (s.laneRate n)) ≤ s.localAt t - (s.lane n).xoffTime → bits (s.n (bySub O.pauseThresholds n)) 0 16 * 1024 ≤ s.beUseOfLane n →
      Runs (.pauseRepeat t n) s fun u => u.lane n = { s.lane n with xoffTime := s.localAt t, pauseOut := some 0xFFFF } ∧ Only s u [.lanes] []) ∧
    (s.beUseOfLane n < bits (s.n (bySub O.pauseThresholds n)) 0 16 * 1024 →
      Runs (.pauseRepeat t n) s fun u => u.lane n = { s.lane n with xoff := false, pauseOut := some 0 } ∧ Only s u [.lanes] [])) ∧
  (∀ (s : State) (t n tc : Nat), s.hasLane n = true → tc ≤ 2 → (s.begin t).starves n tc = true → Runs (.starvationLimit t n tc) s fun u =>
      u.lane n = { s.lane n with reliefDue := setBit (s.lane n).reliefDue tc true } ∧ Only s u [.lanes] []) ∧
  (∀ (s : State) (t n : Nat) (e : GateEntry), n < 64 → s.hasLane n = true → (s.lane n).gateRunning = true → (s.listOf n)[(s.lane n).gateNext]? = some e →
    ((s.lane n).gateRound < s.cycleRound n ∨ ((s.lane n).gateRound = s.cycleRound n ∧ e.off ≤ (s.begin t).cyclePos n)) →
    Runs (.gateEvent t n) s fun u => (u.lane n).gateStates = e.states ∧ (u.lane n).gateOwner = e.owner ∧
      (u.lane n).gateNext = (if (s.lane n).gateNext + 1 < (s.listOf n).length then (s.lane n).gateNext + 1 else 0) ∧
      (e.op = 1 → (u.lane n).hold = true) ∧ (e.op = 2 → (u.lane n).hold = false) ∧ (e.op = 0 → (u.lane n).hold = (s.lane n).hold) ∧
      Only s u [.lanes] [bySub O.windowMisses n]) ∧
  (∀ (s : State) (t n cyc : Nat), n < 64 → s.hasLane n = true → (s.lane n).adminRunning = false → s.n (at_ O.adminCycle n) = cyc → cyc ≠ 0 →
    s.holdEnded = true → s.tick.stretch = none →
    hasWindows (s.view.onLane n) = false → (s.lane n).adminSince + 2 ≤ s.tickNo → s.tickNo % cyc = 0 →
    s.n (at_ O.adminBaseTime n) ≤ s.tickNo * s.period → Runs (.adminListStart t n) s fun u =>
      (u.lane n).adminRunning = true ∧ (u.lane n).gateRunning = true ∧ (u.lane n).gateNext = 0 ∧ u.n (at_ O.adminStartTick n) = s.tickNo ∧
      u.n (laneSub O.gateCycle n) = cyc ∧
      bit (u.n (at_ O.adminFlags n)) 0 = decide (s.n (at_ O.adminBaseTime n) < ((s.lane n).adminSince + 2) * s.period) ∧
      Only s u [.lanes, .blobs] [at_ O.adminStartTick n, laneSub O.gateCycle n, at_ O.adminFlags n]) ∧
  (∀ (s : State) (t n tc : Nat), s.hasLane n = true → (s.lane n).gateRunning = true → s.preemptActive n = true →
    (∃ e ∈ s.listOf n, e.op = 1) → tc < 7 → s.preemptible n tc = true → (s.begin t).inBand n tc = true → Runs (.setAndHold t n) s fun u =>
      (u.lane n).hold = true ∧ ((s.begin t).mayCut n = true → (u.lane n).sending = none ∧ (u.lane n).preempted = (s.lane n).sending) ∧
      ((s.begin t).mayCut n = false → (u.lane n).sending = (s.lane n).sending))

/-- LANE_FRAME_RECEIVE on a lane that receives counts the frame in the counter of its first error class and passes it through the ingress pipeline unless that class drops it; a runt and a
fragment too short are only counted. SADDLE_FRAME_RECEIVE of an unclassified frame for one lane of the die puts it in that lane's queue; one with a way left goes on to
the next die. TRANSMIT_DESCRIPTOR_FETCH with no chain waiting returns a refused chain from the ring's next descriptor with its status and raises the ring's interrupt, and starts an
accepted one. TRANSMIT_SELECTION at a boundary starts what the selection picks: a flow-control frame that may start, ahead of all queues; else the first candidate
that is express or, with no frame suspended and no hold, the first; with none, the suspended frame if it may resume. SHAPER_ELIGIBLE with credit moves the head frame to its
queue. CREDIT_REACHES_ZERO and LIMITER_COUNT_REACHES_ZERO run the selection of a lane where a frame waits. -/
def Obligations.Datapath : Prop :=
  (∀ (s : State) (t n : Nat) (f : RxFrame) (avail : SMap Nat), s.laneOn n = true → s.inService n = true → s.regionUp (n / 4) = true → (s.lane n).testMode = 0 →
    s.quiet = false → s.laneRestarting n = false → s.pkg.pausedTill ≤ s.localAt t →
    (shortFragment f = true → Runs (.laneFrameReceive t n f avail) s fun u =>
      (u.lane n).assemblyErrors = (s.lane n).assemblyErrors + 1 ∧ Only s u [.lanes] []) ∧
    (shortFragment f = false → f.sec = none → bit s.pkg.quarantine (n / 8) = false →
    (f.bytes.length < 14 → Runs (.laneFrameReceive t n f avail) s fun u =>
      u.n (laneKey O.fragments n) = satN (2 ^ 64 - 1) (s.n (laneKey O.fragments n) + 1) ∧ Only s u [.fwd] [laneKey O.fragments n]) ∧
    (14 ≤ f.bytes.length → (s.rxClasses n f).headD 0 ≠ 2 → (s.rxClasses n f).headD 0 ≠ 3 → Runs (.laneFrameReceive t n f avail) s fun u =>
      u = (((s.begin t).handed avail).inc64 (laneKey (classCounter ((s.rxClasses n f).headD 0)) n)).ingress n f (s.rxClasses n f) false))) ∧
  (∀ (s : State) (t d : Nat) (m : SaddleFrame) (avail : SMap Nat), s.dieUp d = true →
    (∀ n, n < 64 → n / 8 = d → m.way = [] → m.mirrorCopy = false → s.contract m.slot = none → m.lanes = 2 ^ n → m.rings = 0 → Runs (.saddleFrameReceive t d m avail) s fun u =>
      ∃ w, w = ((s.begin t).handed avail).txAway m.tx (· - 1) ∧
        u = (w.enqueue n (w.copyFor (w.saddlePkt m d) n (w.beClass (w.saddlePkt m d) n) false (rtagOf m.bytes))).settleTx) ∧
    (∀ h way, m.way = h :: way → (s.neighbours d).contains h = true → Runs (.saddleFrameReceive t d m avail) s fun u =>
      Out.saddle h (saddleHeader m) { m with way := way } ∈ u.out)) ∧
  (∀ (s : State) (t d r st : Nat) (chain : TxChain) (avail : SMap Nat), s.dieUp d = true → r < 16 → s.n (ringKey O.transmitRingEnable d r) = 1 →
    look s.fwd.txSkip (16 * d + r) = none → (((s.begin t).handed avail).txStatus d r (chainOf chain)) = some st →
    (st ≠ 0 → s.fwd.tx = [] → Runs (.transmitDescriptorFetch t d r chain avail) s fun u =>
      bit (get 0 u.bridge.intPending d) (16 + r) = true ∧ u.fwd.tx = [] ∧
      ∃ w : TxWait, w.descs = ((chainOf chain).takeWhile (fun x => txFlag x.desc 7)).map TxDesc.desc ∧ w.status = some st ∧
        Out.txReturn d r (s.n (ringKey O.nextTransmitDescriptor d r)) (txReturned w) ∈ u.out) ∧
    (∀ f c, st = 0 → chainOf chain = f :: c → Runs (.transmitDescriptorFetch t d r chain avail) s fun u =>
      u = ((((s.begin t).handed avail).startTx d r (f :: c) f).settleTx))) ∧
  (∀ (s : State) (t n : Nat) (avail : SMap Nat), s.inService n = true → s.laneStands n = true → (s.lane n).testMode = 0 → s.quiet = false →
    s.pkg.pausedTill ≤ s.localAt t → (s.begin t).atBoundary n = true → Runs (.transmitSelection t n avail) s fun u =>
      (∀ q, (s.selecting t n avail).flowFrame n = some q → u = ((s.selecting t n avail).startFlow n q).settleTx) ∧
      ((s.selecting t n avail).flowFrame n = none →
        (∀ f relief rest, (s.lane n).preempted = none → (s.lane n).hold = false → (s.selecting t n avail).candidates n = (f, relief) :: rest →
          u = ((s.selecting t n avail).startFrame n f relief).settleTx) ∧
        ((s.lane n).preempted = none → (s.selecting t n avail).candidates n = [] → u = (s.selecting t n avail).settleTx) ∧
        (∀ f, (s.lane n).preempted = some f → (s.lane n).hold = false → (s.selecting t n avail).candidates n = [] → (s.selecting t n avail).gateOpen n f.tc = true →
          Out.resume n f ∈ u.out))) ∧
  (∀ (s : State) (t n slot : Nat) (x : ShaperSt) (f : QFrame), look s.fwd.shapers (n * 8192 + slot) = some x → x.fifo = [f] →
    0 ≤ (x.accrue (s.localAt t)).cc → 0 ≤ (x.accrue (s.localAt t)).pc → Runs (.shaperEligible t n slot) s fun u =>
      (∃ y, look u.fwd.shapers (n * 8192 + slot) = some y ∧ y.fifo = [] ∧
        y.cc = (x.accrue (s.localAt t)).cc - ((s.counted x.lane f.len * 8000000 : Nat) : Int) ∧
        y.pc = (x.accrue (s.localAt t)).pc - ((s.counted x.lane f.len * 8000000 : Nat) : Int)) ∧
      (u.lane x.lane).queues = (s.lane x.lane).queues ++ [{ f with since := s.localAt t }] ∧ Only s u [.lanes, .fwd] []) ∧
  (∀ (s : State) (t n tc : Nat) (avail : SMap Nat), s.waits n tc = true → Runs (.creditReachesZero t n tc avail) s fun u =>
    exec (.transmitSelection t n avail) s = .next u) ∧
  (∀ (s : State) (t n tc : Nat) (avail : SMap Nat), tc < 3 → s.waits n tc = true → Runs (.limiterCountReachesZero t n avail) s fun u =>
    exec (.transmitSelection t n avail) s = .next u)

/-- A message of instance i on one of its ports. An Announce of another clock becomes the port's Announce, with its time, and the choice of the grandmaster is made again. On the slave
port a two-step Sync waits with its sequence number, arrival and correction, a one-step Sync is complete, and the Follow_Up of a waiting Sync completes it with both corrections.
A Delay_Req on a master port is answered with the arrival time; a Delay_Resp of the own exchange gives the path delay; a Pdelay_Req is answered; a two-step Pdelay_Resp waits for
its Follow_Up; a Signaling interval request changes the intervals in force, 126 asking for the configured one and −128 for no change. -/
def Obligations.PtpMessages : Prop :=
  (∀ (s : State) (t n i : Nat) (m : Bytes), s.ptpInst m = some i → s.isPort i n = true → s.pkg.serving = true → ptpType m = 0xB → slice m 0x14 8 ≠ s.clockId →
    (s.n (byIdx O.profile i) ≠ 0 ∨ s.asCapable n = true) → Runs (.ptpAnnounceReceive t n m) s fun u =>
      look (u.inst i).announces n = some m ∧ look (u.inst i).announceTime n = some (s.localAt t) ∧
      (∀ k, k ≠ n → look (u.inst i).announces k = look (s.inst i).announces k)) ∧
  (∀ (s : State) (t n i : Nat) (m : Bytes), s.ptpInst m = some i → s.isPort i n = true → s.pkg.serving = true → ptpType m = 0 → s.slavePort i = n →
    (bit (fldBE m 6 2) 9 = true → Runs (.ptpSyncReceive t n m) s fun u =>
      look (u.inst i).twoStep n = some (fldBE m 0x1E 2, s.rxStamp n (s.localAt t), unsignedOf 64 (ptpCorr m)) ∧ Only s u [.time] []) ∧
    (bit (fldBE m 6 2) 9 = false → Runs (.ptpSyncReceive t n m) s fun u =>
      u = (s.begin t).syncDone i n (slice m 0x22 10) (ptpCorr m) (signed 8 (fld m 0x21 1)) (s.rxStamp n (s.localAt t)))) ∧
  (∀ (s : State) (t n i a c : Nat) (m : Bytes), s.ptpInst m = some i → s.isPort i n = true → s.pkg.serving = true → ptpType m = 8 → s.slavePort i = n →
    look (s.inst i).twoStep n = some (fldBE m 0x1E 2, a, c) → Runs (.ptpFollowUpReceive t n m) s fun u =>
      u = ((s.begin t).updInst i (fun x => { x with twoStep := del x.twoStep n })).syncDone i n (slice m 0x22 10) (signed 64 c + ptpCorr m)
        (signed 8 (fld m 0x21 1)) a) ∧
  (∀ (s : State) (t n i : Nat) (m : Bytes), s.ptpInst m = some i → s.isPort i n = true → s.pkg.serving = true → ptpType m = 1 → s.n (byIdx O.profile i) = 1 → s.portSt i n = 1 →
    Runs (.ptpDelayReqReceive t n m) s fun u =>
      u = (s.begin t).sendPtp i n (s.ptpHeader i 9 (ptpTime (s.instAt i (s.rxStamp n (s.localAt t))) ++ slice m 0x14 10).length (ptpFlags false) (fldBE m 0x1E 2)
        (s.o (byIdx O.logDelayInterval i)) n (ptpCorr m) ++ (ptpTime (s.instAt i (s.rxStamp n (s.localAt t))) ++ slice m 0x14 10)) (s.localAt t) ∧ u.time = s.time) ∧
  (∀ (s : State) (t n i t1 t2 : Nat) (m : Bytes), s.ptpInst m = some i → s.isPort i n = true → s.pkg.serving = true → ptpType m = 9 → s.slavePort i = n →
    (s.inst i).syncs = some (t1, t2) → s.ourExchange n (get {} (s.inst i).delay n) m 1 = true → Runs (.ptpDelayRespReceive t n m) s fun u =>
      look (u.inst i).delay n = some { get {} (s.inst i).delay n with t4 := ptpNs m 0x22, waiting := 0, path := some ((((t2 : Int) - (get {} (s.inst i).delay n).t3) + ((ptpNs m 0x22 : Nat) - t1) - ptpCorr m / 65536) / 2).toNat } ∧
      Only s u [.time] []) ∧
  (∀ (s : State) (t n i : Nat) (m : Bytes), ptpType m = 2 → s.peerInst n m = some i → s.n (byIdx O.profile i) = 0 → Runs (.ptpPdelayReqReceive t n m) s fun u =>
      u = (s.begin t).sendPtp i n (s.ptpHeader i 3 (ptpTime (s.rxStamp n (s.localAt t)) ++ slice m 0x14 10).length (ptpFlags true) (fldBE m 0x1E 2) 127 n 0 ++
        (ptpTime (s.rxStamp n (s.localAt t)) ++ slice m 0x14 10)) (s.rxStamp n (s.localAt t)) ∧ u.time = s.time) ∧
  (∀ (s : State) (t n i : Nat) (m : Bytes), ptpType m = 3 → s.peerInst n m = some i → s.ourExchange n (get {} (s.inst i).delay n) m 1 = true →
    bit (fldBE m 6 2) 9 = true → Runs (.ptpPdelayRespReceive t n m) s fun u =>
      look (u.inst i).delay n = some { get {} (s.inst i).delay n with t2 := ptpNs m 0x22 + (ptpCorr m / 65536).toNat, t4 := s.rxStamp n (s.localAt t), waiting := 2 } ∧
      Only s u [.time] []) ∧
  (∀ (s : State) (t n i : Nat) (m : Bytes) (v : Int), s.ptpInst m = some i → s.isPort i n = true → s.pkg.serving = true → ptpType m = 0xC → s.n (byIdx O.profile i) = 0 →
    fldBE m 44 2 = 3 → fldBE m 48 3 = 0x0080C2 → fldBE m 51 3 = 2 → signed 8 (fld m 55 1) = v → Runs (.ptpSignalingReceive t n m) s fun u =>
      ((s.begin t).logs_ i n).2.1 = (s.logs_ i n).2.1 ∧
      (u.logs_ i n).2.1 = (if v = -128 then (s.logs_ i n).2.1 else if v = 126 then s.o (byIdx O.logSyncInterval i) else v) ∧ Only s u [.time] [])

/-- PTP_SYNC_TIMER, PTP_ANNOUNCE_TIMER and PTP_DELAY_TIMER on a port that sends use the port's next sequence number for a Sync, an Announce or a delay request, which is sent; a delay request waits for its
answer. RECEIPT_TIMEOUT drops the Announce of the port. TIME_TRANSFER_WORD counts a run of errors beyond 2 ns, and the sixteenth in a row is a fault. GRANDMASTER_TIME_SET while SELF_GM
steps the clock to the value, a re-alignment on instance 0, and is refused otherwise. REF_LOST after 2 s clears REF_LOCKED and sets REF_LOST. -/
def Obligations.PtpTimers : Prop :=
  (∀ (s : State) (t i n : Nat), s.isPort i n = true → s.portSt i n = 1 → (s.logs_ i n).2.1 ≠ 127 → (s.n (byIdx O.profile i) ≠ 0 ∨ s.instFlag i isSELFGM = true) →
    Runs (.ptpSyncTimer t i n) s fun u => get 0 (u.inst i).seqs (16 * n) = (get 0 (s.inst i).seqs (16 * n) + 1) % 65536 ∧
      (s.n (byIdx O.profile i) ≠ 0 → u = ((s.begin t).nextSeq i n 0).2.sendPtp i n (s.ptpHeader i 0 10 (ptpFlags (s.n (byIdx O.oneStep i) != 1))
        (get 0 (s.inst i).seqs (16 * n)) (s.logs_ i n).2.1 n 0 ++ fill 10 0) (s.localAt t))) ∧
  (∀ (s : State) (t i n : Nat), s.isPort i n = true → s.portSt i n = 1 → (s.logs_ i n).2.2 ≠ 127 →
    Runs (.ptpAnnounceTimer t i n) s fun u => get 0 (u.inst i).seqs (16 * n + 0xB) = (get 0 (s.inst i).seqs (16 * n + 0xB) + 1) % 65536 ∧
      u = ((s.begin t).nextSeq i n 0xB).2.sendPtp i n (s.ptpHeader i 0xB (s.announceBody i).length (ptpFlags false)
        (get 0 (s.inst i).seqs (16 * n + 0xB)) (s.logs_ i n).2.2 n 0 ++ s.announceBody i) (s.localAt t)) ∧
  (∀ (s : State) (t i n : Nat), s.isPort i n = true → (s.logs_ i n).1 ≠ 127 → (s.n (byIdx O.profile i) = 1 → s.slavePort i = n) → (s.n (byIdx O.profile i) = 0 → s.linkService n = some i) →
    Runs (.ptpDelayTimer t i n) s fun u =>
      get {} (u.inst i).delay n = { get {} (s.inst i).delay n with seq := get 0 (s.inst i).seqs (16 * n + if s.n (byIdx O.profile i) = 1 then 1 else 2), waiting := 1 }) ∧
  (∀ (s : State) (t i n a : Nat), s.instOn i = true → s.pkg.serving = true → look (s.inst i).announceTime n = some a →
    a + bits (s.n (byIdx O.receiptTimeouts i)) 8 8 * intervalNs (s.o (byIdx O.logAnnounceInterval i)) ≤ s.localAt t → Runs (.receiptTimeout t i n) s fun u =>
      look (u.inst i).announces n = none ∧ ∀ k, k ≠ n → look (u.inst i).announces k = look (s.inst i).announces k) ∧
  (∀ (s : State) (t d : Nat) (err : Int), d < 8 → s.dieUp d = true → d ≠ s.pkg.lead → Runs (.timeTransferWord t d err) s fun u =>
      get 0 u.time.misaligned d = (if 2 < err.natAbs then get 0 s.time.misaligned d + 1 else 0) ∧
      (2 < err.natAbs → get 0 s.time.misaligned d = 15 → u.n (bySub O.timeAlignmentFaults d) = satN (2 ^ 32 - 1) (s.n (bySub O.timeAlignmentFaults d) + 1)) ∧
      (get 0 u.time.misaligned d ≠ 16 → Only s u [.time] [])) ∧
  (∀ (s : State) (t i v : Nat) (who : Who) (x : Session), i < 4 → s.MayWrite who x (0x2110 + i) 0x1A v →
    (s.instFlag i isSELFGM = true → Runs (.grandmasterTimeSet t who i v) s fun u => u.answered who .ok ∧ (u.inst i).base = v ∧ (u.inst i).ref = s.localAt t ∧
      u.instFlag i isUNTRACEABLE = false ∧ (i = 0 → u.flag O.tickFlags tfREALIGN = true)) ∧
    (s.instFlag i isSELFGM = false → Runs (.grandmasterTimeSet t who i v) s fun u => u.answered who .deviceState ∧ Only s u [.access, .bridge, .power] [])) ∧
  (∀ (s : State) (t i : Nat), i < 4 → s.refActs i = true → (s.inst i).refLast + 2000000000 ≤ s.localAt t → Runs (.refLost t i) s fun u =>
      u.instFlag i isREFLOCKED = false ∧ u.instFlag i isREFLOST = true ∧ (u.inst i).refGood = 0 ∧ Only s u [.time] [byIdx O.instanceStatus i])

/-- PULSE_PROGRAM_WRITE of a legal program answers OK; with no pulse in progress and nothing running it takes effect at once, else it waits with its time. PULSE_EDGE at the next edge of a
running program drives the output and sets the end of the pulse and the number of the next edge; at the end of a pulse it drives the output back. CAPTURE_EDGE that is enabled is
numbered, and recorded while fewer than 16 records wait, else counted as lost. CAPTURE_RECORDS_READ returns every queued record, oldest first, and leaves none. -/
def Obligations.PulsesAndCaptures : Prop :=
  (∀ (s : State) (t d o : Nat) (rec : Bytes) (who : Who) (x : Session), s.MayWriteDom who x (0x2130 + d) (1 + o) 24 24 rec.length → pulseOk rec = true →
    (pulseEnabled (s.pulse (4 * d + o)).prog = false → (s.pulse (4 * d + o)).ends = none → Runs (.pulseProgramWrite t who d o rec) s fun u =>
      u.answered who .ok ∧ (u.pulse (4 * d + o)).prog = rec ∧ (u.pulse (4 * d + o)).next = none ∧ u.blob (pulseKey O.pulseProgram (4 * d + o)) = rec) ∧
    ((s.pulse (4 * d + o)).ends.isSome = true → Runs (.pulseProgramWrite t who d o rec) s fun u =>
      u.answered who .ok ∧ u.pulse (4 * d + o) = { s.pulse (4 * d + o) with next := some (rec, s.localAt t) } ∧ u.blob (pulseKey O.pulseProgram (4 * d + o)) = rec)) ∧
  (∀ (s : State) (t d o : Nat), o < 4 → s.dieUp d = true → (s.pulse (4 * d + o)).next = none →
    ((s.pulse (4 * d + o)).ends = none → pulseEnabled (s.pulse (4 * d + o)).prog = true → s.pulseMayRun (s.pulse (4 * d + o)).prog = true →
      (pulsePeriod (s.pulse (4 * d + o)).prog ≠ 0 ∨ (s.pulse (4 * d + o)).k = 0) →
      edgeTime (s.pulse (4 * d + o)).prog (s.pulse (4 * d + o)).k ≤ s.instAt (pulseClock (s.pulse (4 * d + o)).prog) (s.localAt t) →
      Runs (.pulseEdge t d o) s fun u =>
        Out.message "tout" (4 * d + o) [if !bit (fld (s.pulse (4 * d + o)).prog 0x15 1) 1 then 1 else 0] ∈ u.out ∧ (u.pulse (4 * d + o)).fired = true ∧
        (u.pulse (4 * d + o)).ends = some (edgeTime (s.pulse (4 * d + o)).prog (s.pulse (4 * d + o)).k + pulseWidth (s.pulse (4 * d + o)).prog) ∧
        (s.pulse (4 * d + o)).k < (u.pulse (4 * d + o)).k ∧ Only s u [.time] []) ∧
    (∀ e, (s.pulse (4 * d + o)).ends = some e → e ≤ s.instAt (pulseClock (s.pulse (4 * d + o)).prog) (s.localAt t) → Runs (.pulseEdge t d o) s fun u =>
        Out.message "tout" (4 * d + o) [if bit (fld (s.pulse (4 * d + o)).prog 0x15 1) 1 then 1 else 0] ∈ u.out ∧
        u.pulse (4 * d + o) = { s.pulse (4 * d + o) with ends := none } ∧ Only s u [.time] [])) ∧
  (∀ (s : State) (t d i : Nat) (falling : Bool), d < 8 → i < 2 → s.dieUp d = true → bit (s.n (captureKey O.captureControl (2 * d + i))) (b2n falling) = true →
    Runs (.captureEdge t d i falling) s fun u =>
      (u.capture (2 * d + i)).seq = ((s.capture (2 * d + i)).seq + 1) % 2 ^ 32 ∧
      ((s.capture (2 * d + i)).records.length < 16 → ∃ r, (u.capture (2 * d + i)).records = (s.capture (2 * d + i)).records ++ [r]) ∧
      (16 ≤ (s.capture (2 * d + i)).records.length → (u.capture (2 * d + i)).records = (s.capture (2 * d + i)).records)) ∧
  (∀ (s : State) (t d i : Nat) (who : Who) (x : Session), d < 8 → i < 2 → s.Takes who x → ((s.readCheck x.rights (0x2138 + d) (3 + i)).2).isSome = true →
    Runs (.captureRecordsRead t who d i) s fun u => Out.response who ⟨.ok, (s.capture (2 * d + i)).records.flatten, true⟩ ∈ u.out ∧
      (u.capture (2 * d + i)).records = [] ∧ (u.capture (2 * d + i)).seq = (s.capture (2 * d + i)).seq ∧ u.n (captureKey O.capturesQueued (2 * d + i)) = 0)

/-- CIRQUE_INPUT_FRAME on an input that the instance holds gives a packet's samples to its jitter buffer, or counts a format error. EMERGENCY_ASSERT and EMERGENCY_RELEASE
leave *emergency state* at the ball, the command and ACTIVE, which is their or; an activation is counted where ACTIVE begins. A legal write of the emergency command waits for the
boundary, and a 1 drives EMG_ACT at once. ZONE_HANDOVER_START
before a switch that moves a zone starts the double feed. An announcement starts at RUNNING two ticks ahead, is refused while RUNNING or with an empty clip, joins the players at its tick or FAILS with no zone,
is DONE at its end, and ABORTED by an abort, which frees its players. *clip data* and *clip erase* of a clip that no announcement plays set the clip and its length. -/
def Obligations.Audio : Prop :=
  (∀ (s : State) (t d ch slot : Nat) (b : Bytes), s.instanceOn d = true → ch ∈ s.inputsOn d → inFeed (s.inputRec ch) = slot → s.feedOk ch = true → (s.input d ch).state ≠ 0 →
    (s.audioPacket (s.inputRec ch) b = none → Runs (.cirqueInputFrame t d ch slot (.packet b)) s fun u =>
      u.input d ch = { s.input d ch with formatErrors := satN (2 ^ 32 - 1) ((s.input d ch).formatErrors + 1) } ∧ Only s u [.audio] []) ∧
    (∀ q m ssrc v, s.audioPacket (s.inputRec ch) b = some (q, m, ssrc, v) → Runs (.cirqueInputFrame t d ch slot (.packet b)) s fun u =>
      u.input d ch = (s.input d ch).packet q m ssrc v (s.effDepth d ch) (s.perTick (inRate (s.inputRec ch))) ∧ Only s u [.audio] [])) ∧
  (∀ (s : State) (t : Nat), s.n O.powerState ≠ 6 → Runs (.emergencyAssert t) s fun u =>
    u.n O.emergencyState = 5 + 2 * b2n s.emgCommand ∧ u.audio.emgAct = true ∧
    u.n O.emergencyActivations = (if s.emgActive then s.n O.emergencyActivations else satN (2 ^ 32 - 1) (s.n O.emergencyActivations + 1)) ∧
    Only s u [.logs, .audio, .power] [O.emergencyState, O.emergencyActivations]) ∧
  (∀ (s : State) (t : Nat), s.n O.powerState ≠ 6 → Runs (.emergencyRelease t) s fun u =>
    u.n O.emergencyState = 6 * b2n s.emgCommand ∧ Only s u [.logs, .audio, .power] [O.emergencyState, O.emergencyActivations]) ∧
  (∀ (s : State) (t v : Nat) (who : Who) (x : Session), v ≤ 1 → s.Takes who x → x.txn = none → ((s.writeCheck x.rights 0x2A00 2).2).isSome = true →
    Runs (.emergencyCommand t who v) s fun u => u.answered who .ok ∧ u.n O.emergencyState = s.n O.emergencyState ∧
      (∃ h ∈ u.held, h.key = O.emergencyCommand ∧ h.val = .num ((v : Nat) : Int)) ∧ (v = 1 → u.audio.emgAct = true) ∧ (v = 0 → u.audio = s.audio)) ∧
  (∀ (s : State) (t : Nat) (p : Plan), s.plan.pending.head? = some p → p.switchTick ≤ s.tickNo + 9 →
    (∃ e ∈ p.place.homes, e.1 < 256 ∧ look s.plan.active.place.homes e.1 ≠ some e.2) → Runs (.zoneHandoverStart t) s fun u =>
      u.audio = { s.audio with handover := true } ∧ Only s u [.audio] []) ∧
  (∀ (s : State) (t a : Nat) (who : Who) (x : Session), a < 16 → s.MayWrite who x (0x2A60 + a) 6 1 →
    (s.annStatus a ≠ 1 → s.clip (s.n (annKey O.announcementClip a)) ≠ [] → Runs (.announcementStart t who a) s fun u =>
      u.answered who .ok ∧ u.annStatus a = 1 ∧ u.n (annKey O.announcementStartTick a) = s.tickNo + 2 ∧
      Only s u [.audio, .access, .bridge, .power] [annKey O.announcementStatus a, annKey O.announcementStartTick a]) ∧
    ((s.annStatus a = 1 ∨ s.clip (s.n (annKey O.announcementClip a)) = []) → Runs (.announcementStart t who a) s fun u =>
      u.answered who .deviceState ∧ Only s u [.access, .bridge, .power] [])) ∧
  (∀ (s : State) (t a : Nat) (who : Who) (x : Session), a < 16 → s.MayWrite who x (0x2A60 + a) 6 2 →
    (s.annStatus a = 1 → Runs (.announcementAbort t who a) s fun u => u.answered who .ok ∧ u.annStatus a = 3 ∧ a ∉ u.audio.begun ∧
      (∀ z, (u.zoneSt z).player ≠ some a) ∧ Only s u [.audio, .access, .bridge, .power] [annKey O.announcementStatus a]) ∧
    (s.annStatus a ≠ 1 → Runs (.announcementAbort t who a) s fun u => u.answered who .alreadyDone ∧ Only s u [.access, .bridge, .power] [])) ∧
  (∀ (s : State) (t a : Nat), a < 16 → s.annStatus a = 1 → s.n (annKey O.announcementStartTick a) ≤ s.tickNo → a ∉ s.audio.begun →
    Runs (.announcementPlayback t a) s fun u => (s.annZones a = [] → u.annStatus a = 4) ∧ (s.annZones a ≠ [] → a ∈ u.audio.begun ∧ u.annStatus a = 1)) ∧
  (∀ (s : State) (t a : Nat), a < 16 → s.annStatus a = 1 → a ∈ s.audio.begun → s.n (annKey O.announcementRepeats a) ≠ 255 → s.annZones a ≠ [] →
    (∀ z ∈ s.annZones a, s.annEnd a z ≤ s.tickNo) → Runs (.announcementDone t a) s fun u => u.annStatus a = 2 ∧ a ∉ u.audio.begun ∧
      Only s u [.audio] [annKey O.announcementStatus a]) ∧
  (∀ (s : State) (t : Nat) (b : Bytes) (who : Who) (x : Session), s.MayWriteDom who x 0x2A70 3 0 262144 b.length → b.length % 2 = 0 →
    s.clipInUse (x.sel O.clipSelect) = false → s.clipsUsed - (s.clip (x.sel O.clipSelect)).length + b.length ≤ 262144 →
    Runs (.clipDataWrite t who b) s fun u => u.answered who .ok ∧ u.clip (x.sel O.clipSelect) = b) ∧
  (∀ (s : State) (t : Nat) (who : Who) (x : Session), s.MayWrite who x 0x2A70 5 1 →
    (s.clipInUse (x.sel O.clipSelect) = false → Runs (.clipErase t who) s fun u => u.answered who .ok ∧ u.clip (x.sel O.clipSelect) = []) ∧
    (s.clipInUse (x.sel O.clipSelect) = true → Runs (.clipErase t who) s fun u => u.answered who .deviceState ∧ Only s u [.access, .bridge, .power] []))

/-- SADDLE_TEST_MODE, a write that is taken up for a port of the package. On a link in state 4 (failed) or 5 (untrained) it answers OK, the mode is the written one
and the test is selected, and only the test's own objects change; on any other link it is answered with the status for the device state and nothing
changes. While the loopback runs, a tick adds its errors, saturating at 64 bits, and its failing data lanes to the link's counts. Neither the write nor the counting
changes the link's state. -/
def Obligations.SaddleTest : Prop :=
  (∀ (s : State) (t : Nat) (who : Who) (x : Session) (d p v : Nat), d < 8 → p < 4 → s.MayWrite who x 0x2E17 (1 + 4 * d + p) v →
    ((s.saddle d p = linkFAILED ∨ s.saddle d p = linkUNTRAINED) → Runs (.saddleTestMode t who d p v) s fun u => u.answered who .ok ∧
      u.n (bySub O.saddleTestMode (4 * d + p)) = v ∧ get 0 u.diag.saddleTests (4 * d + p) = v ∧ u.saddle d p = s.saddle d p ∧
      Only s u [.diag, .power, .access, .bridge] [bySub O.saddleTestMode (4 * d + p), bySub O.saddleTestErrors (4 * d + p), bySub O.saddleFailingLanes (4 * d + p)]) ∧
    (s.saddle d p ≠ linkFAILED → s.saddle d p ≠ linkUNTRAINED → Runs (.saddleTestMode t who d p v) s fun u => u.answered who .deviceState ∧
      u.saddle d p = s.saddle d p ∧ Only s u [.power, .access, .bridge] [])) ∧
  (∀ (s : State) (d p errors failing : Nat), d < 8 → p < 4 → get 0 s.diag.saddleTests (4 * d + p) = 1 →
    (s.saddleCount (4 * d + p) errors failing).n (bySub O.saddleTestErrors (4 * d + p)) =
      satN (2 ^ 64 - 1) (s.n (bySub O.saddleTestErrors (4 * d + p)) + errors) ∧
    (s.saddleCount (4 * d + p) errors failing).saddle d p = s.saddle d p ∧
    ∀ i < 16, (bit (s.n (bySub O.saddleFailingLanes (4 * d + p))) i = true ∨ bit failing i = true) →
      bit ((s.saddleCount (4 * d + p) errors failing).n (bySub O.saddleFailingLanes (4 * d + p))) i = true)

/-- The diagnosis of a lane n below 64. A lane test written on an enabled lane that no contract plan names, that is in no group, is no slave port, is not held by Summit and runs no test, in Active,
answers OK with its mode and RUNNING; a write of 0 to a lane under test ends it with mode 0 and status OFF. The PRBS checker's lock makes the status
LOCKED; no lock for 10 ms makes it NO_LOCK; the sent frame count makes it DONE. An eye scan written on a lane with LOCK and no scan running starts with result 0, and
is refused with the device state while one runs; its end gives the height and width and frees the lane. A VOLTAGE crossing on a die in service adds one to its
excursion count, saturating, and sets its monitor flag. -/
def Obligations.LaneTests : Prop :=
  (∀ (s : State) (t : Nat) (who : Who) (x : Session) (n v : Nat), n < 64 → v ≠ 0 → s.MayWrite who x 0x2E10 (1 + n) v →
    endpointIn s s.plan.active n = false → s.plan.pending = [] → s.lagOf n = none → (∀ i < 4, s.slavePort i ≠ n) → s.laneOn n = true →
    (s.lane n).heldBySummit = false → s.power_ = pwACTIVE → (s.lane n).testMode = 0 →
    Runs (.laneTestStart t who n v) s fun u => u.answered who .ok ∧ (u.lane n).testMode = v ∧ u.n (laneSub O.laneTestMode n) = v ∧
      u.n (laneSub O.testStatus n) = tsRUNNING) ∧
  (∀ (s : State) (t : Nat) (who : Who) (x : Session) (n : Nat), n < 64 → s.MayWrite who x 0x2E10 (1 + n) 0 → (s.lane n).testMode ≠ 0 →
    Runs (.laneTestStop t who n) s fun u => u.answered who .ok ∧ (u.lane n).testMode = 0 ∧ u.n (laneSub O.laneTestMode n) = 0 ∧
      u.n (laneSub O.testStatus n) = tsOFF ∧ u.link n lkLOCK = false ∧ Only s u [.lanes, .diag, .logs, .power, .access, .bridge] [laneSub O.laneTestMode n, laneSub O.testStatus n, laneKey O.linkStatus n]) ∧
  (∀ (s : State) (t n : Nat), checksPrbs (s.lane n).testMode = true → (s.testIs n tsRUNNING = true ∨ s.testIs n tsNOLOCK = true) →
    Runs (.prbsLock t n) s fun u => u.testIs n tsLOCKED = true ∧ Only s u [] [laneSub O.testStatus n]) ∧
  (∀ (s : State) (t n : Nat), checksPrbs (s.lane n).testMode = true → s.testIs n tsRUNNING = true → get 0 s.diag.testSince n + 10000000 ≤ s.localAt t →
    Runs (.noLock t n) s fun u => u.testIs n tsNOLOCK = true ∧ Only s u [] [laneSub O.testStatus n]) ∧
  (∀ (s : State) (t n : Nat), checksFrames (s.lane n).testMode = true → s.testIs n tsRUNNING = true → s.n (laneSub O.testFrames n) ≠ 0 →
    Runs (.testFramesDone t n) s fun u => u.testIs n tsDONE = true ∧ Only s u [] [laneSub O.testStatus n]) ∧
  (∀ (s : State) (t : Nat) (who : Who) (x : Session) (n : Nat), s.MayWrite who x 0x2E15 (1 + n) 1 → s.link n lkLOCK = true →
    (n ∉ s.diag.eyes → Runs (.eyeMeasure t who n) s fun u => u.answered who .ok ∧ n ∈ u.diag.eyes ∧ u.n (laneSub O.eyeResult n) = 0 ∧
      Only s u [.diag, .power, .access, .bridge] [laneSub O.eyeResult n]) ∧
    (n ∈ s.diag.eyes → Runs (.eyeMeasure t who n) s fun u => u.answered who .deviceState ∧ Only s u [.power, .access, .bridge] [])) ∧
  (∀ (s : State) (t n height width : Nat), n ∈ s.diag.eyes → height < 65536 → width < 65536 →
    Runs (.eyeScanDone t n height width) s fun u => n ∉ u.diag.eyes ∧ u.n (laneSub O.eyeResult n) = height * 65536 + width ∧
      Only s u [.diag] [laneSub O.eyeResult n]) ∧
  (∀ (s : State) (t d m mv : Nat), d < 8 → m < 4 → s.dieUp d = true →
    Runs (.voltage t d m mv true) s fun u => bits (u.n (bySub O.voltageExcursions (4 * d + m))) 0 16 =
        satN 65535 (bits (s.n (bySub O.voltageExcursions (4 * d + m))) 0 16 + 1) ∧ bit (u.n (bySub O.monitorFlags d)) (4 + m) = true ∧
      Only s u [.diag, .logs] [bySub O.voltageExcursions (4 * d + m), bySub O.monitorFlags d])

/-- On a CAN unit that is on, a received frame of a controller that is not bus-off counts in CAN frames received, sets the activity flag, lowers the receive error counter by one (to 127 at most) and, where a receive buffer
matches, goes into the element of the lowest one, RX_NEW set and OVERWRITTEN where it was set before. A transmit request on a transmit element sets TX_REQUEST, clears TX_DONE and queues the element's frame;
a sent frame leaves the pending ones, counts and lowers the transmit error counter. A bus error while sending raises that counter by 8, otherwise the receive one by 1, unless LISTEN_ONLY.
Bus-off, from 256, sets the flag and counts; a recovery write starts the count and its end clears both counters and the flag. -/
def Obligations.CanUnits : Prop :=
  (∀ (s : State) (t c : Nat) (f : CanFrame), s.edgeOn (epCan c) = true → s.canOff c = false → s.canKnows c f.fmt = true → s.power.forwardOn ≠ some (epCan c) → s.unitForwards (epCan c) = false →
    Runs (.canFrameReceive t c f) s fun u => u.n (byIdx O.canFramesReceived c) = satN (2 ^ 64 - 1) (s.n (byIdx O.canFramesReceived c) + 1) ∧
      u.flag (byIdx O.canStatus c) 3 = true ∧ (u.canSt c).rec_ = min 127 ((s.canSt c).rec_ - 1) ∧ (u.canSt c).tec = (s.canSt c).tec ∧
      (∀ i, ((List.range 64).find? fun i => (bufEntry (s.bufferCfg c) i).1 == 2 &&
          canMatch f.id (bufEntry (s.bufferCfg c) i).2.1 (bufEntry (s.bufferCfg c) i).2.2) = some i →
        u.bridge = ((s.begin t).canStore c (s.bufferOff c i) (4 + 8 * b2n (bit (s.elemFlags (canCluster c) (s.bufferOff c i)) efRxNew)) f).bridge) ∧
      Only s u [.edge, .bridge, .power] [byIdx O.canFramesReceived c, byIdx O.canStatus c, byIdx O.errorCounters c, byIdx O.canOverruns c]) ∧
  (∀ (s : State) (t w o i : Nat), o < 0x8000 → s.edgeOn (epCan (2 * w + o / 0x4000)) = true →
    ((List.range 64).find? fun i => (bufEntry (s.bufferCfg (2 * w + o / 0x4000)) i).1 == 1 && s.bufferOff (2 * w + o / 0x4000) i == o) = some i →
    Runs (.edgeTxRequest t w o) s fun u => u.edgeRamOf w = ramWrite (s.edgeRamOf w) (o + 0x0C)
        (leBytes 2 (setBit (setBit (s.elemFlags w o) efTxRequest true) efTxDone false)) ∧
      (∃ x, (u.canSt (2 * w + o / 0x4000)).pending.getLast? = some x ∧ x.owner = 2 ∧ x.num = i ∧ x.frame.id = fld (ramRead (u.edgeRamOf w) o 24) 0 4) ∧
      Only s u [.edge, .bridge] []) ∧
  (∀ (s : State) (t c : Nat) (x : CanTx), s.canMaySend c = true → s.canOffer c = some x →
    Runs (.canTransmitDone t c) s fun u => u.canSt c = { s.canSt c with pending := (s.canSt c).pending.erase x, tec := (s.canSt c).tec - 1 } ∧
      u.n (byIdx O.canFramesTransmitted c) = satN (2 ^ 64 - 1) (s.n (byIdx O.canFramesTransmitted c) + 1) ∧
      u.n (byIdx O.errorCounters c) = 256 * satN 255 ((s.canSt c).tec - 1) + satN 255 (s.canSt c).rec_ ∧
      (x.owner ≠ 2 → u.bridge = s.bridge) ∧
      Only s u [.edge, .bridge] [byIdx O.canFramesTransmitted c, byIdx O.errorCounters c, byIdx O.canStatus c]) ∧
  (∀ (s : State) (t c : Nat) (tx : Bool), s.edgeOn (epCan c) = true → s.canOff c = false → bit (s.n (byIdx O.canOptions c)) 0 = false →
    bit (s.n (byIdx O.canOptions c)) 3 = false → Runs (.canBusError t c tx false) s fun u =>
      u.canSt c = { s.canSt c with tec := (s.canSt c).tec + 8 * b2n tx, rec_ := (s.canSt c).rec_ + (1 - b2n tx) } ∧
      u.n (byIdx O.busErrors c) = satN (2 ^ 32 - 1) (s.n (byIdx O.busErrors c) + 1) ∧
      Only s u [.edge] [byIdx O.busErrors c, byIdx O.errorCounters c, byIdx O.canStatus c]) ∧
  (∀ (s : State) (t c : Nat), s.edgeOn (epCan c) = true → s.canOff c = false → 256 ≤ (s.canSt c).tec → Runs (.busOff t c) s fun u =>
      u.canOff c = true ∧ u.n (byIdx O.busOffEvents c) = satN (2 ^ 32 - 1) (s.n (byIdx O.busOffEvents c) + 1) ∧
      u.canSt c = { s.canSt c with recovering := bit (s.n (byIdx O.canOptions c)) 1 } ∧ Only s u [.edge] [byIdx O.canStatus c, byIdx O.busOffEvents c]) ∧
  (∀ (s : State) (t c : Nat) (who : Who) (x : Session), c < 32 → s.MayWrite who x (0x2800 + c) 0x11 1 → s.canOff c = true →
    Runs (.busOffRecovery t who c) s fun u => u.answered who .ok ∧ u.canSt c = { s.canSt c with recovering := true } ∧
      Only s u [.edge, .access, .bridge, .power] []) ∧
  (∀ (s : State) (t c : Nat), s.edgeOn (epCan c) = true → s.canOff c = true → (s.canSt c).recovering = true → Runs (.busOffRecovered t c) s fun u =>
      u.canOff c = false ∧ u.canSt c = { s.canSt c with tec := 0, rec_ := 0, recovering := false } ∧ u.n (byIdx O.errorCounters c) = 0 ∧
      Only s u [.edge] [byIdx O.canStatus c, byIdx O.errorCounters c])

/-- A due LIN schedule entry of a commander that is awake sends its header, moves on and is answered from a gateway slot or a host element, or its response is awaited; a responder treats a received header so and
leaves SLEEP. A response with a wrong checksum counts, a right one counts a frame and goes to the receive ring where its element is free; a missing response counts; go-to-sleep sets SLEEP and drops what was under way. A
UART message for the unit counts; a T1S frame that is whole counts, a bad one counts an error. TX_DONE ends a LIN response and counts it, and takes the first gateway message of a UART or T1S unit, which is
sent. -/
def Obligations.SerialUnits : Prop :=
  (∀ (s : State) (t u n p id : Nat) (l : Bytes) (x : LinSt), s.edgeOn (epLin u) = true → s.n (byIdx O.linRole u) = 0 → s.flag (byIdx O.linStatus u) 0 = false →
    l = s.blob (byIdx O.linSchedule u) → n = l.length / 4 → 0 < n → x = s.linSt u → x.due ≠ 0 → x.due ≤ s.tickNo → p = x.pos % n → id = fld l (4 * p) 1 % 64 →
    Runs (.linScheduleEntry t u) s fun v => .message "lin-header" u [BitVec.ofNat 8 id] ∈ v.out ∧ (v.linSt u).pos = (p + 1) % n ∧ (v.linSt u).due = s.tickNo + fld l (4 * p + 2) 2 ∧
      (s.linAnswer u id = none → (v.linSt u).header = some id ∧ (v.linSt u).sending = none) ∧
      (∀ b, s.linAnswer u id = some b → .message "lin" (64 * u + id) b ∈ v.out ∧ (v.linSt u).header = none ∧ (v.linSt u).sending = some id) ∧ Only s v [.edge] [byIdx O.linStatus u]) ∧
  (∀ (s : State) (t u id : Nat), s.edgeOn (epLin u) = true → s.n (byIdx O.linRole u) = 1 →
    Runs (.linHeaderReceive t u id) s fun v => v.flag (byIdx O.linStatus u) 0 = false ∧ v.flag (byIdx O.linStatus u) 1 = true ∧
      (s.linAnswer u (id % 64) = none → (v.linSt u).header = some (id % 64) ∧ (v.linSt u).sending = none) ∧
      (∀ b, s.linAnswer u (id % 64) = some b → .message "lin" (64 * u + id % 64) b ∈ v.out ∧ (v.linSt u).header = none ∧ (v.linSt u).sending = some (id % 64)) ∧
      Only s v [.edge] [byIdx O.linStatus u]) ∧
  (∀ (s : State) (t u id : Nat) (b : Bytes), s.edgeOn (epLin u) = true → (s.linSt u).header = some id →
    Runs (.linResponseReceive t u b false) s fun v => v.linSt u = { s.linSt u with header := none } ∧
      v.n (byIdx O.linChecksumErrors u) = satN (2 ^ 32 - 1) (s.n (byIdx O.linChecksumErrors u) + 1) ∧ Only s v [.edge] [byIdx O.linChecksumErrors u]) ∧
  (∀ (s : State) (t u id : Nat) (b : Bytes), s.edgeOn (epLin u) = true → (s.linSt u).header = some id → s.power.forwardOn ≠ some (epLin u) → s.unitForwards (epLin u) = false →
    Runs (.linResponseReceive t u b true) s fun v => v.n (byIdx O.linFrames u) = satN (2 ^ 64 - 1) (s.n (byIdx O.linFrames u) + 1) ∧ (v.linSt u).header = none ∧
      (v.linSt u).ring = (if bit (s.elemFlags u (0x8000 + 32 * ((s.linSt u).ring % 16))) efRxNew then (s.linSt u).ring else ((s.linSt u).ring + 1) % 16) ∧
      Only s v [.edge, .bridge, .power] [byIdx O.linFrames u]) ∧
  (∀ (s : State) (t u : Nat), s.edgeOn (epLin u) = true → (s.linSt u).header.isSome = true → Runs (.linNoResponse t u) s fun v =>
      v.linSt u = { s.linSt u with header := none } ∧ v.n (byIdx O.linNoResponseErrors u) = satN (2 ^ 32 - 1) (s.n (byIdx O.linNoResponseErrors u) + 1) ∧
      Only s v [.edge] [byIdx O.linNoResponseErrors u]) ∧
  (∀ (s : State) (t u : Nat), s.edgeOn (epLin u) = true → Runs (.linGoToSleep t u) s fun v => v.linSt u = { s.linSt u with header := none, sending := none } ∧
      v.flag (byIdx O.linStatus u) 0 = true ∧ v.flag (byIdx O.linStatus u) 1 = false ∧ Only s v [.edge] [byIdx O.linStatus u]) ∧
  (∀ (s : State) (t u e id : Nat) (c : List Nat), s.edgeOn (epUart u) = true → s.drivesDe u = false → c ≠ [] → id = uartIdent (s.n (byIdx O.identifierBytes u)) c →
    (s.n (byIdx O.identifierBytes u) = 0 → s.n (byIdx O.ownAddress u) = 0x1FF ∨ id = s.n (byIdx O.ownAddress u)) → s.power.forwardOn ≠ some (epUart u) → s.unitForwards (epUart u) = false →
    Runs (.uartMessageEnd t u c e) s fun v => v.n (byIdx O.uartMessages u) = satN (2 ^ 64 - 1) (s.n (byIdx O.uartMessages u) + 1) ∧
      v.n (byIdx O.uartCharacterErrors u) = satN (2 ^ 32 - 1) (s.n (byIdx O.uartCharacterErrors u) + e) ∧
      (bit (s.elemFlags u (0x8400 + 280 * ((s.uartSt u).ring % 6))) efRxNew = false → (v.uartSt u).ring = ((s.uartSt u).ring + 1) % 6) ∧
      Only s v [.edge, .bridge, .power] [byIdx O.uartMessages u, byIdx O.uartCharacterErrors u, byIdx O.uartOverruns u]) ∧
  (∀ (s : State) (t d node : Nat) (b : Bytes) (ok : Bool), s.edgeOn (epT1s d) = true → s.power.forwardOn ≠ some (epT1s d) → s.unitForwards (epT1s d) = false →
    ((ok = false ∨ 1514 < b.length) → Runs (.t1sFrameReceive t d b node ok) s fun v =>
      v.n (byIdx O.t1sErrors d) = satN (2 ^ 32 - 1) (s.n (byIdx O.t1sErrors d) + 1) ∧ Only s v [] [byIdx O.t1sErrors d]) ∧
    (ok = true → b.length ≤ 1514 → Runs (.t1sFrameReceive t d b node ok) s fun v =>
      v.n (byIdx O.t1sFramesReceived d) = satN (2 ^ 64 - 1) (s.n (byIdx O.t1sFramesReceived d) + 1) ∧ Only s v [.edge, .bridge, .power] [byIdx O.t1sFramesReceived d])) ∧
  (∀ (s : State) (t u id : Nat), (s.linSt u).sending = some id → Runs (.txDone t 1 u) s fun v => v.linSt u = { s.linSt u with sending := none } ∧
      v.n (byIdx O.linFrames u) = satN (2 ^ 64 - 1) (s.n (byIdx O.linFrames u) + 1) ∧ Only s v [.edge, .bridge] [byIdx O.linFrames u]) ∧
  (∀ (s : State) (t u m : Nat) (b : Bytes) (rest : List (Nat × Bytes)), s.edgeOn (epUart u) = true → (s.uartSt u).slots = (m, b) :: rest → Runs (.txDone t 2 u) s fun v =>
      v.uartSt u = { s.uartSt u with slots := rest } ∧ .message "uart" (8192 * u + m) b ∈ v.out ∧ Only s v [.edge] []) ∧
  (∀ (s : State) (t u m : Nat) (b : Bytes) (rest : List (Nat × Bytes)), s.edgeOn (epT1s u) = true → (s.t1sSt u).slots = (m, b) :: rest → Runs (.txDone t 4 u) s fun v =>
      v.t1sSt u = { s.t1sSt u with slots := rest } ∧ v.n (byIdx O.t1sFramesSent u) = satN (2 ^ 64 - 1) (s.n (byIdx O.t1sFramesSent u) + 1) ∧
      .message "t1s" u b ∈ v.out ∧ Only s v [.edge, .bridge] [byIdx O.t1sFramesSent u])

/-- An NMT command for the node: start enters Operational, stop Stopped with no SDO transfer left, enter pre-operational Pre-operational; a reset of the node or of its communication ends its session, sends the
boot-up message and enters the state *NMT start-up* names. The producer timer sends the NMT state; the consumer timer counts and waits for the next heartbeat. A gap of more than one second aborts a running
SDO transfer with 0x05040000. Of the SDO requests, one to abort ends the transfer, a segmented download that may be written starts and is answered 0x60, a wrong toggle aborts with
0x05030000, a segment that is not the last joins the value, and an unknown command aborts with 0x05040001. -/
def Obligations.CanopenNode : Prop :=
  (∀ (s : State) (t node : Nat), s.nmtFor node = true →
    (Runs (.nmtStart t node) s fun v => v.nmt = 5 ∧ v.edge.node = { s.edge.node with hbLost := false } ∧ Only s v [.edge] [O.nmtState]) ∧
    (Runs (.nmtStop t node) s fun v => v.nmt = 4 ∧ v.edge.node = { s.edge.node with sdoPhase := 0, sdoBytes := [], sdoPos := 0 } ∧ Only s v [.edge] [O.nmtState]) ∧
    (Runs (.nmtEnterPreOperational t node) s fun v => v.nmt = 127 ∧ Only s v [] [O.nmtState]) ∧
    (∀ u, s.nodeController = some u →
      (Runs (.nmtResetNode t node) s fun v => v.nmt = (if s.n O.nmtStartUp = 1 then 5 else 127) ∧ v.nodeSent u 0 (0x700 + s.nodeId) [0] ∧ v.edge.node = { running := true } ∧
        v.session? 32 = none ∧ Only s v [.edge, .access] [O.nmtState]) ∧
      (Runs (.nmtResetCommunication t node) s fun v => v.nmt = (if s.n O.nmtStartUp = 1 then 5 else 127) ∧ v.nodeSent u 0 (0x700 + s.nodeId) [0] ∧ v.edge.node = { running := true } ∧
        v.session? 32 = none ∧ Only s v [.edge, .access] [O.nmtState]))) ∧
  (∀ (s : State) (t u : Nat), s.nodeRuns = true → s.nodeController = some u → s.n O.producerHeartbeatTime ≠ 0 → Runs (.heartbeatProducerTimer t) s fun v =>
      v.nodeSent u 0 (0x700 + s.nodeId) (leBytes 1 s.nmt) ∧ Only s v [.edge] []) ∧
  (∀ (s : State) (t k t0 : Nat), s.nodeRuns = true → k < 8 → look s.edge.node.hbLast k = some t0 → bits (s.n (bySub O.consumerHeartbeatTime k)) 0 16 ≠ 0 →
    bits (s.n (bySub O.consumerHeartbeatTime k)) 0 16 * 1000000 ≤ s.localAt t - t0 → Runs (.heartbeatConsumerTimeout t k) s fun v =>
      v.n O.heartbeatTimeouts = satN (2 ^ 32 - 1) (s.n O.heartbeatTimeouts + 1) ∧ v.edge.node = { s.edge.node with hbLost := true, hbLast := del s.edge.node.hbLast k } ∧
      Only s v [.edge] [O.heartbeatTimeouts]) ∧
  (∀ (s : State) (t u : Nat), s.sdosRun = true → s.nodeController = some u →
    (s.edge.node.sdoPhase ≠ 0 → 1000000000 < s.localAt t - s.edge.node.sdoLast → Runs (.sdoTimeout t) s fun v =>
      v.nodeSent u 100 (0x580 + s.nodeId) (sdoHead 0x80 s.edge.node.sdoKey ++ leBytes 4 0x05040000) ∧ v.edge.node = { s.edge.node with sdoPhase := 0, sdoBytes := [], sdoPos := 0 } ∧ Only s v [.edge] []) ∧
    (∀ (d : Bytes) (c m : Nat), d.length = 8 → c = fld d 0 1 → m = mux (fld d 1 2) (fld d 3 1) → (s.edge.node.sdoPhase = 3 → bits c 0 7 = 0) →
      (bits c 5 3 = 4 → Runs (.sdoRequest t d) s fun v => v.edge.node = { s.edge.node with sdoPhase := 0, sdoBytes := [], sdoPos := 0 } ∧ Only s v [.edge] []) ∧
      (bits c 5 3 = 1 → bit c 1 = false → s.sdoMayWrite m = .ok → Runs (.sdoRequest t d) s fun v =>
        v.edge.node.sdoPhase = 1 ∧ v.edge.node.sdoKey = m ∧ v.edge.node.sdoBytes = [] ∧ v.nodeSent u 100 (0x580 + s.nodeId) (sdoHead 0x60 m ++ fill 4 0) ∧ Only s v [.edge] []) ∧
      (bits c 5 3 = 0 → s.edge.node.sdoPhase = 1 → bit c 4 ≠ s.edge.node.toggle → Runs (.sdoRequest t d) s fun v =>
        v.nodeSent u 100 (0x580 + s.nodeId) (sdoHead 0x80 s.edge.node.sdoKey ++ leBytes 4 0x05030000) ∧ v.edge.node.sdoPhase = 0 ∧ Only s v [.edge] []) ∧
      (bits c 5 3 = 0 → s.edge.node.sdoPhase = 1 → bit c 4 = s.edge.node.toggle → bit c 0 = false → (s.edge.node.sdoBytes ++ slice d 1 (7 - bits c 1 3)).length ≤ 1048576 →
        Runs (.sdoRequest t d) s fun v => v.edge.node = { s.edge.node with sdoBytes := s.edge.node.sdoBytes ++ slice d 1 (7 - bits c 1 3), toggle := !s.edge.node.toggle, sdoLast := s.localAt t } ∧
          Only s v [.edge] []) ∧
      (bits c 5 3 = 7 → Runs (.sdoRequest t d) s fun v => v.nodeSent u 100 (0x580 + s.nodeId) (sdoHead 0x80 m ++ leBytes 4 0x05040001) ∧ v.edge.node.sdoPhase = 0 ∧ Only s v [.edge] [])))

/-- While the node is Operational: a received RPDO that is too short counts in *RPDO timeouts*; a synchronous one waits for the next SYNC; one of type 241 and above is written at once. An RPDO event timer that
runs out counts and waits for the next receipt. An event-driven TPDO whose event timer has run out is sent, its time and data kept, or held until its inhibit time is over; TPDO_INHIBIT_TIME then sends
it. A SYNC writes the waiting RPDOs in the order of arrival and gives its counter to each TPDO; with none waiting and every TPDO event-driven it changes nothing. -/
def Obligations.CanopenPdos : Prop :=
  (∀ (s : State) (t n : Nat) (b : Bytes), s.pdosRun = true → s.answers = true → n < 64 → (pdoId (s.n (byIdx O.rpdoCOBID n))).isSome = true →
    (b.length < mapBytes (s.pdoMap (0x1600 + n)) → Runs (.rpdoReceive t n b) s fun v =>
      v.n O.rpdoTimeouts = satN (2 ^ 32 - 1) (s.n O.rpdoTimeouts + 1) ∧ Only s v [] [O.rpdoTimeouts]) ∧
    (mapBytes (s.pdoMap (0x1600 + n)) ≤ b.length → s.n (byIdx O.rpdoTransmissionType n) ≤ 240 → Runs (.rpdoReceive t n b) s fun v =>
      v.edge.node = { s.edge.node with rpdoLast := ins s.edge.node.rpdoLast n (s.localAt t), rpdoHeld := ins s.edge.node.rpdoHeld n b } ∧ Only s v [.edge] []) ∧
    (mapBytes (s.pdoMap (0x1600 + n)) ≤ b.length → 240 < s.n (byIdx O.rpdoTransmissionType n) → Runs (.rpdoReceive t n b) s fun v =>
      v = applyRpdo (s.pdoMap (0x1600 + n)) b ((s.begin t).updNode (fun x => { x with rpdoLast := ins x.rpdoLast n (s.localAt t) })))) ∧
  (∀ (s : State) (t n t0 : Nat), s.pdosRun = true → n < 64 → look s.edge.node.rpdoLast n = some t0 → s.n (byIdx O.rpdoEventTimer n) ≠ 0 →
    s.n (byIdx O.rpdoEventTimer n) * 1000000 ≤ s.localAt t - t0 → Runs (.rpdoEventTimer t n) s fun v =>
      v.n O.rpdoTimeouts = satN (2 ^ 32 - 1) (s.n O.rpdoTimeouts + 1) ∧ v.edge.node = { s.edge.node with rpdoLast := del s.edge.node.rpdoLast n } ∧ Only s v [.edge] [O.rpdoTimeouts]) ∧
  (∀ (s : State) (t n u id : Nat) (ext : Bool), s.pdosRun = true → s.nodeController = some u → pdoId (s.n (byIdx O.tpdoCOBID n)) = some (ext, id) →
    (n < 64 → 254 ≤ s.n (byIdx O.tpdoTransmissionType n) → s.n (byIdx O.tpdoEventTimer n) ≠ 0 → (∀ t0, look s.edge.node.tpdoLast n = some t0 → s.n (byIdx O.tpdoEventTimer n) * 1000000 ≤ s.localAt t - t0) →
      ((s.begin t).inhibitOver n = true → Runs (.tpdoEventTimer t n) s fun v => v.nodeSent u (n + 1) id ((s.begin t).sampleTpdo n) ∧
        look v.edge.node.tpdoLast n = some (s.localAt t) ∧ look v.edge.node.tpdoData n = some ((s.begin t).sampleTpdo n) ∧ n ∉ v.edge.node.tpdoHeld ∧ Only s v [.edge] []) ∧
      ((s.begin t).inhibitOver n = false → Runs (.tpdoEventTimer t n) s fun v => n ∈ v.edge.node.tpdoHeld ∧ v.canSt u = s.canSt u ∧ Only s v [.edge] [])) ∧
    (n ∈ s.edge.node.tpdoHeld → (s.begin t).inhibitOver n = true → Runs (.tpdoInhibitTime t n) s fun v => v.nodeSent u (n + 1) id ((s.begin t).sampleTpdo n) ∧
        look v.edge.node.tpdoLast n = some (s.localAt t) ∧ n ∉ v.edge.node.tpdoHeld ∧ Only s v [.edge] [])) ∧
  (∀ (s : State) (t c : Nat), s.pdosRun = true → s.answers = true →
    (Runs (.syncReceive t c) s fun v => v = (List.range 64).foldl (fun (s : State) n => s.syncTpdo c n)
      (s.edge.node.rpdoHeld.foldl (fun (s : State) e => applyRpdo (s.pdoMap (0x1600 + e.1)) e.2 s) ((s.begin t).updNode (fun x => { x with rpdoHeld := [] })))) ∧
    (s.edge.node.rpdoHeld = [] → (∀ n, n < 64 → 240 < s.n (byIdx O.tpdoTransmissionType n)) → Runs (.syncReceive t c) s fun v => v.edge = s.edge ∧ Only s v [] []))

/-- In a basic period the administrator sends the master frame of every due entry of its table. A master frame sets the line flags, a frame bad on both lines counts an error, a source port of its F-code answers with its
data filled to its size, and the device's own address with F-code 15 is answered with a status word whose content is a free value. A slave frame of the right size updates a sink port with its data and time, one of
the wrong size counts an error. A telegram that is neither a layer-2 frame nor UDP counts an error of the message it is for; a layer-2 frame of that message's identifier whose dataset is whole gives its signals to the
mappings, and changes nothing but the gateway's cells and counts. -/
def Obligations.MvbAndTelegrams : Prop :=
  (∀ (s : State) (t d : Nat), s.edgeOn (epMvb d) = true → s.n (byIdx O.mvbRole d) = 1 → Runs (.mvbBasicPeriod t d) s fun v =>
      (∀ e, 4 * e + 4 ≤ (s.blob (byIdx O.masterFrameTable d)).length →
        (s.begin t).gptpNs / 1000000 % 2 ^ fld (s.blob (byIdx O.masterFrameTable d)) (4 * e + 3) 1 = e % 2 ^ fld (s.blob (byIdx O.masterFrameTable d)) (4 * e + 3) 1 →
        .message "mvb-master" (4096 * d + fld (s.blob (byIdx O.masterFrameTable d)) (4 * e) 2 % 4096) [BitVec.ofNat 8 (fld (s.blob (byIdx O.masterFrameTable d)) (4 * e + 2) 1)] ∈ v.out) ∧
      Only s v [] [byIdx O.mvbFrames d]) ∧
  (∀ (s : State) (t d fcode a : Nat) (la lb : Bool), d < 8 → s.edgeOn (epMvb d) = true → s.power.forwardOn ≠ some (epMvb d) → s.unitForwards (epMvb d) = false →
    (la = false → lb = false → Runs (.mvbMasterFrame t d fcode a la lb) s fun v => v.n (byIdx O.mvbFrameErrors d) = satN (2 ^ 32 - 1) (s.n (byIdx O.mvbFrameErrors d) + 1) ∧
      v.flag (byIdx O.lineStatus d) 0 = false ∧ v.flag (byIdx O.lineStatus d) 1 = false ∧ Only s v [] [byIdx O.lineStatus d, byIdx O.lineSwitchovers d, byIdx O.mvbFrameErrors d]) ∧
    ((la || lb) = true → fcode ≤ 4 → s.mvbPort d a = (1, fcode) → Runs (.mvbMasterFrame t d fcode a la lb) s fun v =>
      .message "mvb" (4096 * d + a) (((s.mvbData d a).data ++ fill (2 * 2 ^ fcode) 0).take (2 * 2 ^ fcode)) ∈ v.out ∧
      v.flag (byIdx O.lineStatus d) 0 = la ∧ v.flag (byIdx O.lineStatus d) 1 = lb ∧ Only s v [.power] [byIdx O.lineStatus d, byIdx O.lineSwitchovers d, byIdx O.mvbFrames d]) ∧
    ((la || lb) = true → fcode = 15 → a = s.n (byIdx O.mvbDeviceAddress d) → Runs (.mvbMasterFrame t d fcode a la lb) s fun v =>
      .message "mvb" (4096 * d + a) (beBytes 2 (s.free % 65536)) ∈ v.out ∧ v.n (byIdx O.mvbFrames d) = satN (2 ^ 64 - 1) (s.n (byIdx O.mvbFrames d) + 1) ∧
      Only s v [.free, .power] [byIdx O.lineStatus d, byIdx O.lineSwitchovers d, byIdx O.mvbFrames d])) ∧
  (∀ (s : State) (t d a k : Nat) (b : Bytes) (la lb : Bool), d < 8 → s.edgeOn (epMvb d) = true → s.power.forwardOn ≠ some (epMvb d) → s.unitForwards (epMvb d) = false → (la || lb) = true →
    s.mvbPort d a = (2, k) →
    (b.length ≠ 2 * 2 ^ k → Runs (.mvbSlaveFrame t d a b la lb) s fun v => v.n (byIdx O.mvbFrameErrors d) = satN (2 ^ 32 - 1) (s.n (byIdx O.mvbFrameErrors d) + 1) ∧ v.edge = s.edge ∧
      Only s v [] [byIdx O.lineStatus d, byIdx O.lineSwitchovers d, byIdx O.mvbFrameErrors d]) ∧
    (b.length = 2 * 2 ^ k → Runs (.mvbSlaveFrame t d a b la lb) s fun v => v.n (byIdx O.mvbFrames d) = satN (2 ^ 64 - 1) (s.n (byIdx O.mvbFrames d) + 1) ∧
      v.mvbData d a = ⟨b, (s.begin t).gptpNs⟩ ∧ Only s v [.edge, .power] [byIdx O.lineStatus d, byIdx O.lineSwitchovers d, byIdx O.mvbFrames d])) ∧
  (∀ (s : State) (t e slot m at_ : Nat) (b : Bytes), s.edgeOn e = true → s.messages.filter (fun m => gmKind (s.message m) != 3 && !gmOut (s.message m) && gmContract (s.message m) == slot) = [m] →
    (fldBE b (etOff b) 2 ≠ 0x88B5 → ¬ ((parseL3 b).v4 = true ∧ (parseL3 b).proto = 17 ∧ (parseL3 b).anyFrag = false) → Runs (.telegramReceive t e slot b at_) s fun v =>
      v.msgSt m = { s.msgSt m with errors := satN (2 ^ 32 - 1) ((s.msgSt m).errors + 1) } ∧ Only s v [.edge] []) ∧
    (fldBE b (etOff b) 2 = 0x88B5 → fld b (etOff b + 2) 1 = 1 → gmKind (s.message m) = 2 → gmIdent (s.message m) = fldBE (b.drop (etOff b + 2)) 2 2 →
      0x14 + fldBE (b.drop (etOff b + 2)) 0x10 2 ≤ (b.drop (etOff b + 2)).length → Runs (.telegramReceive t e slot b at_) s fun v =>
      v = (s.begin t).extract m (slice (b.drop (etOff b + 2)) 0x14 (fldBE (b.drop (etOff b + 2)) 0x10 2)) (s.instAt 0 at_) ∧ Only s v [.edge] []))

/-- A replay counts; a flit that fails again stops its link. A request on a port in service for an absent die is completed UNSUPPORTED; at its target a misaligned one ALIGNMENT, a read of the mailbox OK with its value, and a
write of it OK with the bytes stored there and nowhere else; elsewhere one that takes one of the link's three forwarding entries goes on to the next die. A completion of no transaction counts as late; one of a transaction frees
its entry and reaches its initiator, and a failed posted write of the host is recorded in LAST_FAULT and BRIDGE_FAULTS. A transaction of 20 µs ends with BRIDGE_FAULT, counted, source 34 raised. -/
def Obligations.SaddleTransactions : Prop :=
  (∀ (s : State) (t d p : Nat) (again : Bool), s.trained d p = true → Runs (.flitReplay t d p again) s fun v =>
      v.n (portKey O.flitReplays d p) = satN (2 ^ 32 - 1) (s.n (portKey O.flitReplays d p) + 1) ∧
      v.bridge.stopped = (if again then (4 * d + p) :: s.bridge.stopped else s.bridge.stopped) ∧ Only s v [.bridge] [portKey O.flitReplays d p]) ∧
  (∀ (s : State) (t d p : Nat) (x : Txn), s.dieUp d = true → s.saddle d p = linkSERVICE → s.bridge.stopped.contains (4 * d + p) = false →
    (s.hasDie x.target = false → Runs (.saddleRequestReceive t d p x []) s fun v => .completion x.die x.id 1 0 ∈ v.out ∧ Only s v [.bridge] []) ∧
    (s.hasDie d = true → x.target = d → x.addr % x.size ≠ 0 → Runs (.saddleRequestReceive t d p x []) s fun v => .completion x.die x.id 3 0 ∈ v.out ∧ Only s v [.bridge] []) ∧
    (s.hasDie d = true → x.target = d → (x.size = 1 ∨ x.size = 2 ∨ x.size = 4) → x.addr % x.size = 0 → x.addr < 0x10000 →
      (x.data = none → Runs (.saddleRequestReceive t d p x []) s fun v =>
        .completion x.die x.id 0 (leNat (ramRead (s.mailboxOf d) x.addr x.size)) ∈ v.out ∧ v.bridge.mailbox = s.bridge.mailbox ∧ Only s v [.bridge] []) ∧
      (∀ k, x.data = some k → s.n O.hostEndpointDie ≠ d → Runs (.saddleRequestReceive t d p x []) s fun v => .completion x.die x.id 0 0 ∈ v.out ∧
        v.mailboxOf d = ramWrite (s.mailboxOf d) x.addr (leBytes x.size k) ∧ (∀ d', d' ≠ d → v.mailboxOf d' = s.mailboxOf d') ∧ Only s v [.bridge] [])) ∧
    (∀ h, s.hasDie x.target = true → x.target ≠ d → s.nextHop d x.target = some h → (get [] s.bridge.forwarding (4 * d + p)).length < 3 →
      Runs (.saddleRequestReceive t d p x []) s fun v => .request h x ∈ v.out ∧ get [] v.bridge.forwarding (4 * d + p) = get [] s.bridge.forwarding (4 * d + p) ++ [x] ∧ Only s v [.bridge] [])) ∧
  (∀ (s : State) (t d id status value : Nat), d < 8 → s.dieUp d = true →
    (s.bridge.txns.find? (fun x => x.id == id && x.die == d) = none → Runs (.saddleCompletionReceive t d id status value) s fun v =>
      v.n (bySub O.lateCompletions d) = satN (2 ^ 32 - 1) (s.n (bySub O.lateCompletions d) + 1) ∧ v.bridge.txns = s.bridge.txns ∧ Only s v [.bridge] [bySub O.lateCompletions d]) ∧
    (∀ x, s.bridge.txns.find? (fun x => x.id == id && x.die == d) = some x → s.bridge.queued = [] → s.bridge.spiRead = none →
      (x.master ≠ 1 → x.master ≠ 2 → Runs (.saddleCompletionReceive t d id status value) s fun v => .completion x.die x.id status value ∈ v.out ∧
        v.bridge.txns = s.bridge.txns.filter (fun y => !(y.id == id && y.die == d)) ∧ Only s v [.bridge] []) ∧
      (x.master = 1 → x.data.isSome = true → status ≠ 0 → Runs (.saddleCompletionReceive t d id status value) s fun v => v.bridge.lastFaultAddr = x.addr ∧
        v.bridge.bridgeFaults = satN (2 ^ 32 - 1) (s.bridge.bridgeFaults + 1) ∧ v.bridge.txns = s.bridge.txns.filter (fun y => !(y.id == id && y.die == d)) ∧ Only s v [.bridge] []))) ∧
  (∀ (s : State) (t id : Nat) (x : Txn), s.bridge.txns.find? (fun x => x.id == id && decide (x.since + 20000 ≤ s.localAt t)) = some x → x.die < 8 → s.dieUp x.die = true → x.master ≠ 1 → x.master ≠ 2 →
    s.bridge.queued = [] → s.bridge.spiRead = none → Runs (.bridgeFault t id) s fun v => v.n (bySub O.bridgeFaults x.die) = satN (2 ^ 32 - 1) (s.n (bySub O.bridgeFaults x.die) + 1) ∧
      bit (get 0 v.bridge.intPending x.die) 34 = true ∧ .completion x.die x.id 4 0 ∈ v.out ∧ v.bridge.txns = s.bridge.txns.filter (fun y => !(y.id == x.id && y.die == x.die)) ∧
      Only s v [.bridge, .logs] [bySub O.bridgeFaults x.die])

/-- INT_N follows the requested lines and a rising one sends its MSI-X vector; a source bit written 1 is cleared unless its event re-asserts it. Doorbells set and clear bits; bit 0 takes the mailbox's requests. EVENT_FIFO pops a
word, 0 when empty. WINDOW_CONTROL takes an allowed value, and refuses a reserved bit or PREFETCHABLE on window 1 with WRITE_REFUSED. A line copy of 1 µs goes, counted if never read. A byte written by the host lands at the byte
its window's swap mode gives, in the mailbox or an edge message RAM of the endpoint die; a misaligned write is a fault. An SPI write of whole words stores them, what is left over or misaligned sets LAST_WRITE_ERROR; an SPI read
waits for earlier writes to its window, and answers 0x5A and the bytes or 0xE1 and the status. Die 1 takes a lost endpoint with fresh registers, empty rings and no mailbox session. -/
def Obligations.HostInterfaces : Prop :=
  (∀ (s : State) (t : Nat), Runs (.intWireChange t) s fun v => v.bridge.intLines = s.wantLines ∧
      (s.bridge.msix = true → ∀ n, n < 4 → bit s.wantLines n = true → bit s.bridge.intLines n = false → .message "msi-x" n [] ∈ v.out) ∧
      v.bridge.lines = (if ((bitsSet s.wantLines 4).filter fun n => !bit s.bridge.intLines n).isEmpty then s.bridge.lines else []) ∧ Only s v [.bridge] s.lineKeys) ∧
  (∀ (s : State) (t d mask again : Nat), s.endpoint.isSome = true → s.hasDie d = true → Runs (.intSourceClear t d mask again) s fun v =>
      (∀ i, i < 64 → bit (get 0 v.bridge.intPending d) i = (bit (get 0 s.bridge.intPending d) i && (!bit mask i || bit again i))) ∧
      (∀ d', d' ≠ d → get 0 v.bridge.intPending d' = get 0 s.bridge.intPending d') ∧ Only s v [.bridge] []) ∧
  (∀ (s : State) (t e x : Nat), s.endpoint = some e →
    (Runs (.doorbellIn t x) s fun v => v.bridge.doorbellIn = Nat.lor s.bridge.doorbellIn (x % 2 ^ 32) ∧ Only s v [.bridge] [] ∧
      (bit x 0 = true → leNat (ramRead (s.mailboxOf e) 0 4) < 16384 → leNat (ramRead (s.mailboxOf e) 0 4) % 4 = 0 →
        v.mailboxOf e = ramWrite (s.mailboxOf e) 4 (leBytes 4 (leNat (ramRead (s.mailboxOf e) 0 4)))) ∧ (bit x 0 = false → v.bridge.mailbox = s.bridge.mailbox)) ∧
    (Runs (.doorbellOut t x) s fun v => (∀ i, i < 32 → bit v.bridge.doorbellOut i = (bit s.bridge.doorbellOut i && !bit x i)) ∧ Only s v [.bridge] []) ∧
    (Runs (.eventFifo t) s fun v => .message "host" 0x10100 (leBytes 4 (s.bridge.fifo.headD 0)) ∈ v.out ∧ v.bridge.fifo = s.bridge.fifo.tail ∧ v.bridge.lines = [] ∧ Only s v [.bridge] s.lineKeys) ∧
    (Runs (.spiStatus t) s fun v => .message "spi" 0 [BitVec.ofNat 8 (b2n s.spiBusy + 2 * b2n s.bridge.spiError)] ∈ v.out ∧ Only s v [] [])) ∧
  (∀ (s : State) (t w x : Nat), s.endpoint.isSome = true →
    ((17 < w ∨ 2 ≤ w ∧ s.hasDie ((w - 2) / 2) = false) → Runs (.windowControl t w x) s fun v => v.bridge.lastFaultAddr = 0x10040 + 4 * w ∧ v.bridge.windows = s.bridge.windows ∧ Only s v [.bridge] []) ∧
    (w ≤ 17 → (2 ≤ w → s.hasDie ((w - 2) / 2) = true) → (7 < x ∨ w = 1 ∧ bit x 2 = true) → Runs (.windowControl t w x) s fun v => v.bridge.writeRefused = true ∧ v.bridge.windows = s.bridge.windows ∧ Only s v [.bridge] []) ∧
    (w ≤ 17 → (2 ≤ w → s.hasDie ((w - 2) / 2) = true) → x ≤ 7 → (w = 1 → bit x 2 = false) → Runs (.windowControl t w x) s fun v => get 0 v.bridge.windows w = x ∧
      (∀ w', w' ≠ w → get 0 v.bridge.windows w' = get 0 s.bridge.windows w') ∧ v.bridge.writeRefused = false ∧ Only s v [.bridge] [])) ∧
  (∀ (s : State) (t m w l : Nat) (c : LineCopy), s.bridge.lines.filter (fun c => c.master == m && c.window == w && c.line == l && decide (c.since + 1000 ≤ s.localAt t)) = [c] → Runs (.prefetchDiscard t m w l) s fun v =>
      v.bridge.lines = s.bridge.lines.filter (fun c => !(c.master == m && c.window == w && c.line == l && decide (c.since + 1000 ≤ s.localAt t))) ∧
      v.n (bySub O.speculativeReadsDiscarded w) = (if c.used then s.n (bySub O.speculativeReadsDiscarded w) else satN (2 ^ 32 - 1) (s.n (bySub O.speculativeReadsDiscarded w) + 1)) ∧
      Only s v [.bridge] [bySub O.speculativeReadsDiscarded w]) ∧
  (∀ (s : State) (t e off : Nat) (b : Bytes), s.endpoint = some e →
    (writePieces off b = none → Runs (.hostWindowWrite t off b []) s fun v => v.bridge.lastFaultAddr = off ∧ bits v.bridge.lastFaultInfo 24 8 = 3 ∧
      v.bridge.bridgeFaults = satN (2 ^ 32 - 1) (s.bridge.bridgeFaults + 1) ∧ v.bridge.mailbox = s.bridge.mailbox ∧ v.bridge.edgeRam = s.bridge.edgeRam ∧ Only s v [.bridge] []) ∧
    (∀ x, b = [x] → off < 0x10000 → Runs (.hostWindowWrite t off b []) s fun v => v.mailboxOf e = put 0 (s.mailboxOf e) (s.swapped 0 off) x ∧
      (∀ d, d ≠ e → v.mailboxOf d = s.mailboxOf d) ∧ v.bridge.edgeRam = s.bridge.edgeRam ∧ Only s v [.bridge] s.lineKeys) ∧
    (∀ x w, b = [x] → windowOf off = some w → 2 ≤ w → (w - 2) / 2 = e → Runs (.hostWindowWrite t off b []) s fun v => v.edgeRamOf (w - 2) = put 0 (s.edgeRamOf (w - 2)) (s.swapped w (windowOff off)) x ∧
      (∀ k, k ≠ w - 2 → v.edgeRamOf k = s.edgeRamOf k) ∧ v.bridge.mailbox = s.bridge.mailbox ∧ Only s v [.bridge] s.lineKeys)) ∧
  (∀ (s : State) (t e a : Nat) (b : Bytes), s.endpoint = some e →
    (a % 4 ≠ 0 → Runs (.spiWrite t a b) s fun v => v.bridge.spiError = true ∧ v.bridge.lastFaultAddr = a ∧ v.bridge.mailbox = s.bridge.mailbox ∧ v.bridge.edgeRam = s.bridge.edgeRam ∧ Only s v [.bridge] []) ∧
    (a % 4 = 0 → b.length < 4 → Runs (.spiWrite t a b) s fun v => v.bridge = { s.bridge with spiError := !b.isEmpty } ∧ Only s v [.bridge] []) ∧
    (a % 4 = 0 → a < 0x10000 → b.length = 4 → s.swapOf 0 = 0 → Runs (.spiWrite t a b) s fun v => v.bridge.spiError = false ∧ v.mailboxOf e = ramWrite (s.mailboxOf e) a b ∧
      (∀ d, d ≠ e → v.mailboxOf d = s.mailboxOf d) ∧ v.bridge.edgeRam = s.bridge.edgeRam ∧ Only s v [.bridge] s.lineKeys)) ∧
  (∀ (s : State) (t e a n : Nat), s.endpoint = some e →
    (s.spiHeld a = true → Runs (.spiRead t a n) s fun v => v.bridge = { s.bridge with spiRead := some ⟨a, a, n, [], none⟩ } ∧ Only s v [.bridge] []) ∧
    (s.spiHeld a = false → a % 4 ≠ 0 → Runs (.spiRead t a (n + 1)) s fun v => .message "spi" a [0xE1, 3] ∈ v.out ∧ v.bridge.lastFaultAddr = a ∧ v.bridge.spiRead = none ∧ Only s v [.bridge] s.lineKeys) ∧
    (s.spiHeld a = false → a % 4 = 0 → a < 0x10000 → bit (get 0 s.bridge.windows 0) 2 = false → Runs (.spiRead t a 1) s fun v =>
      .message "spi" a (0x5A :: (List.range 4).map fun i => (slice (ramRead (s.mailboxOf e) (a / 64 * 64) 64) (s.swapped 0 (a + i) % 64) 1).headD 0) ∈ v.out ∧
      v.bridge.spiRead = none ∧ v.bridge.mailbox = s.bridge.mailbox ∧ v.bridge.edgeRam = s.bridge.edgeRam ∧ Only s v [.bridge] s.lineKeys)) ∧
  (∀ (s : State) (t : Nat), s.n O.hostEndpointDie = 0xFF → s.dieUp 1 = true → Runs (.endpointTakeover t) s fun v => v.n O.hostEndpointDie = 1 ∧
      v.bridge.doorbellIn = 0 ∧ v.bridge.doorbellOut = 0 ∧ v.bridge.bridgeFaults = 0 ∧ v.bridge.windows = [] ∧ v.bridge.fifo = [] ∧ v.bridge.lines = [] ∧
      v.mailboxOf 1 = ramWrite (s.mailboxOf 1) 0 (fill 16 0) ∧ (∀ e, e ∈ v.access.sessions → e.2.path ≠ Path.mailbox) ∧ (∀ a, a ∈ v.access.assocs → a.path ≠ Path.mailbox) ∧
      Only s v [.bridge, .access] [O.hostEndpointDie])

/-- A die that needs a key it may have is sent it wrapped; what arrives is held in the die's cache. A write of a slot record takes the record under the next generation and is recorded as applied; an import gives the leaf its value the
same way, and one that is not right is out of range; without the anchor both are refused. A nonce starts a statement of the session; it is signed where the life cycle lets a statement be produced and no tamper response holds it, and is empty otherwise. The look-aside jobs are
taken to stand on dies 0 to 7, as in every state a run reaches. -/
def Obligations.CairnKeys : Prop :=
  (∀ (s : State) (t d k : Nat) (b : Bytes), s.dieUp d = true → s.keysLocked = false → s.anchorUp = true → bit (s.n O.transportMismatches) d = false → s.rootOk d = true → s.slotValue 9 k = some b →
    bit (ksAttr (s.slotRec k)) (24 + s.n O.lifeCycleState) = true → s.cairn.requests.contains (d, k) = false →
    (s.holds d k = false → Runs (.keyRequest t d k) s fun v => v.cairn = { s.cairn with requests := s.cairn.requests ++ [(d, k)] } ∧ (d ≠ 0 → .message "key" (1024 * d + k) (wrapFor d b) ∈ v.out) ∧ Only s v [.cairn] []) ∧
    (s.holds d k = true → Runs (.keyRequest t d k) s fun v => Only s v [] [])) ∧
  (∀ (s : State) (t d k : Nat), (∀ j, j ∈ s.cipher.jobs → j.die < 8) → s.cairn.requests.contains (d, k) = true → s.dieUp d = true → s.keysLocked = false → Runs (.keyDelivered t d k) s fun v =>
      v.holds d k = true ∧ (∀ k', k' ≠ k → get 0 v.cairn.cache k' = get 0 s.cairn.cache k') ∧ (get [] v.cairn.copies (1024 * d + k)).any (fun x => x.gen == ksGen (s.slotRec k)) = true ∧
      Only s v [.cairn, .cipher, .access, .logs] ((List.range 8).flatMap fun d => [bySub O.jobsCompleted d, bySub O.jobsFailed d, bySub O.eventLogPasses d])) ∧
  (∀ (s : State) (t k : Nat) (who : Who) (x : Session) (b : Bytes), (∀ j, j ∈ s.cipher.jobs → j.die < 8) → s.Takes who x → x.txn = none → ((s.writeCheck x.rights 0x2B10 3).2).isSome = true →
    x.sel O.cairnSlotCount = 1 → x.sel O.cairnFirstSlot = k → b.length = 48 → s.slotRecOk k b k = true →
    (s.anchorUp = false → Runs (.slotRecordsWrite t who b 0) s fun v => v.answered who .deviceState ∧ (∀ j, v.slotRec j = s.slotRec j) ∧ v.cairn.leaves = s.cairn.leaves ∧ v.cairn.cache = s.cairn.cache ∧ v.cairn.copies = s.cairn.copies) ∧
    (s.anchorUp = true → ksKind b ≠ 0 → Runs (.slotRecordsWrite t who b 0) s fun v => v.answered who .ok ∧ v.slotRec k = patch b 0x0C (leBytes 4 ((ksGen (s.slotRec k) + 1) % 2 ^ 32)) ∧
      (∀ j, j ≠ k → v.slotRec j = s.slotRec j) ∧ v.n O.lastKeyWriteStatus = 1 ∧ v.n O.lastKeyWriteSlot = k) ∧
    (s.anchorUp = true → ksKind b = 0 → s.isParent k = false → Runs (.slotRecordsWrite t who b 0) s fun v => v.answered who .ok ∧ look v.dict.blobs (at_ O.cairnSlotRecords k) = none ∧
      look v.cairn.leaves k = none ∧ get 0 v.cairn.cache k = 0 ∧ (∀ j, j ≠ k → v.slotRec j = s.slotRec j) ∧ v.n O.lastKeyWriteStatus = 1 ∧ v.n O.lastKeyWriteSlot = k)) ∧
  (∀ (s : State) (t : Nat) (who : Who) (x : Session) (b : Bytes), (∀ j, j ∈ s.cipher.jobs → j.die < 8) → s.MayWriteDom who x 0x2B11 1 128 160 b.length →
    ((s.anchorUp = false ∨ s.keysLocked = true) → Runs (.keyImport t who b 0) s fun v => (s.importOk b = false → v.answered who .outOfRange ∧ Only s v [.access, .power, .bridge] []) ∧
      (s.importOk b = true → v.answered who .deviceState ∧ v.cairn.leaves = s.cairn.leaves ∧ v.cairn.cache = s.cairn.cache ∧ v.cairn.copies = s.cairn.copies ∧ (∀ j, v.slotRec j = s.slotRec j))) ∧
    (s.anchorUp = true → s.keysLocked = false → Runs (.keyImport t who b 0) s fun v => (s.importOk b = false → v.answered who .outOfRange ∧ Only s v [.access, .power, .bridge] []) ∧
      (s.importOk b = true → v.answered who .ok ∧ look v.cairn.leaves (fld b 0 2) = some (unwrapImport b) ∧
      v.slotRec (fld b 0 2) = patch (s.slotRec (fld b 0 2)) 0x0C (leBytes 4 ((ksGen (s.slotRec (fld b 0 2)) + 1) % 2 ^ 32)) ∧
      (∀ j, j ≠ fld b 0 2 → v.slotRec j = s.slotRec j ∧ look v.cairn.leaves j = look s.cairn.leaves j) ∧ v.n O.lastKeyWriteStatus = 1 ∧ v.n O.lastKeyWriteSlot = fld b 0 2))) ∧
  (∀ (s : State) (t : Nat) (who : Who) (x : Session) (b : Bytes), s.MayWriteDom who x 0x2B28 1 8 64 b.length → Runs (.attestationNonce t who b) s fun v => v.answered who .ok ∧
      (∃ y, v.session? who.sess = some y ∧ y.nonce = some b ∧ y.statement = []) ∧ Only s v [.access, .bridge, .power] []) ∧
  (∀ (s : State) (t n : Nat) (x : Session) (b : Bytes), s.session? n = some x → x.nonce = some b → Runs (.attestationReady t n) s fun v =>
      v.session? n = some { x with nonce := none, statement := if s.canAttest && !s.pkg.tamperHold then s.attestation (s.n O.tamperState) b else [] } ∧
      (∀ m, m ≠ n → v.session? m = s.session? m) ∧ Only s v [.access] [])

/-- A life-cycle command names a transition that exists, else the value is out of range; it asks for the transition's role, is refused while a commit, a migration, a tamper response or another transition is under way, and else sets the
marker, reads RUNNING and erases every cached value and imported leaf; a started transition ends in the new state, or as it was and REFUSED where a tamper event met it. A tamper event counts, sets its sensor and ends attestations: under
Report nothing else, under Contain the state is CONTAINED, the secure associations are erased and no key cache holds a key of a die; under Halt every die is in quarantine besides. A loop sends its patterns; a sensor whose condition ends clears;
a clear is refused while one is active and else ends a contained state with a statement over its nonce. The look-aside jobs are taken to stand on dies 0 to 7, as in every state a run reaches. -/
def Obligations.LifeCycleAndTamper : Prop :=
  (∀ (s : State) (t v : Nat) (who : Who) (x : Session), s.MayWrite who x 0x2B18 1 v →
    (lifeCycleRole (s.n O.lifeCycleState) v = none → Runs (.lifeCycleCommand t who v) s fun u => u.answered who .outOfRange ∧ u.cairn = s.cairn ∧ Only s u [.access, .power, .bridge] []) ∧
    (∀ r, lifeCycleRole (s.n O.lifeCycleState) v = some r →
      (r.le x.role = false → Runs (.lifeCycleCommand t who v) s fun u => u.answered who .accessDenied ∧ u.cairn = s.cairn) ∧
      (r.le x.role = true → (s.n O.tamperState ≠ 0 ∨ s.dieUp 0 = false ∨ s.pkg.anchorLost = true ∨ s.n O.lifeCycleCommandStatus = 1 ∨ s.commitStatus = csRUNNING ∨ s.commitStatus = csSWITCHPENDING ∨
          s.n O.migrationStatus = msRUNNING ∨ s.n O.migrationStatus = msSWITCHPENDING) → Runs (.lifeCycleCommand t who v) s fun u => u.answered who .deviceState ∧ Only s u [.access, .power, .bridge] []) ∧
      (r.le x.role = true → s.n O.tamperState = 0 → s.dieUp 0 = true → s.pkg.anchorLost = false → s.n O.lifeCycleCommandStatus ≠ 1 → s.commitStatus ≠ csRUNNING → s.commitStatus ≠ csSWITCHPENDING →
          s.n O.migrationStatus ≠ msRUNNING → s.n O.migrationStatus ≠ msSWITCHPENDING → Runs (.lifeCycleCommand t who v) s fun u => u.answered who .ok ∧
            u.cairn.marker = some v ∧ u.cairn.leaves = [] ∧ u.cairn.cache = [] ∧ u.cipher.sas = [] ∧ u.cipher.journal = [] ∧ u.n O.lifeCycleCommandStatus = 1 ∧ u.n O.lifeCycleState = s.n O.lifeCycleState))) ∧
  (∀ (s : State) (t v : Nat), (∀ j, j ∈ s.cipher.jobs → j.die < 8) → s.cairn.marker = some v → Runs (.lifeCycleDone t) s fun u => u.cairn.marker = none ∧
      (s.cairn.refuseState = false → u.n O.lifeCycleCommandStatus = 2 ∧ u.n O.lifeCycleState = v) ∧ (s.cairn.refuseState = true → u.n O.lifeCycleCommandStatus = 3 ∧ u.n O.lifeCycleState = s.n O.lifeCycleState)) ∧
  (∀ (s : State) (t d c n : Nat), (∀ j, j ∈ s.cipher.jobs → j.die < 8) → s.hasDie d = true → c < 7 → bit (s.n O.tamperSensorEnable) c = true → s.power_ ≠ pwOFF → s.power_ ≠ pwSLEEP → s.update.ready = true →
      s.pkg.tamperHold = false → Runs (.tamper t d c n) s fun u =>
        (s.n O.tamperPolicy ≤ 1 → s.n O.tamperState ≤ 1 → u.n (bySub O.tamperCounters c) = satN (2 ^ 32 - 1) (s.n (bySub O.tamperCounters c) + 1) ∧ u.flag O.sensorsActive c = true) ∧
        (s.n O.tamperPolicy = 0 → u.n O.tamperState = s.n O.tamperState ∧ u.cairn.cache = s.cairn.cache ∧ u.cipher.sas = s.cipher.sas ∧ u.pkg = s.pkg) ∧
        (s.n O.tamperPolicy = 1 → s.n O.tamperState ≤ 1 → u.n O.tamperState = 1) ∧
        (s.n O.tamperPolicy ≠ 0 → u.cipher.sas = [] ∧ (∀ e, e ∈ u.cairn.cache → ∀ k, s.hasDie k = true → bit e.2 k = false)) ∧
        (s.n O.tamperPolicy ≠ 0 → s.n O.tamperDestroysRoot = 1 → u.cairn.destroyed = s.dieMask) ∧
        (s.n O.tamperPolicy = 2 → s.n O.tamperState ≤ 2 → ∀ k, s.hasDie k = true → k < 8 → bit u.pkg.quarantine k = true)) ∧
  (∀ (s : State) (t n : Nat) (a b : Bool), s.power_ ≠ pwOFF → (a = true ∨ s.flag O.sensorsActive 2 = true) → (b = true ∨ s.flag O.sensorsActive 3 = true) → Runs (.tamperLoopPattern t a b n) s fun u =>
      .message "tmp_loop" 0 (leBytes 2 s.free) ∈ u.out ∧ .message "tmp_loop" 1 (leBytes 2 s.drawn.free) ∈ u.out ∧ u.freeCtr = s.freeCtr + 2 ∧ Only s u [.free] []) ∧
  (∀ (s : State) (t c : Nat), c < 7 → Runs (.tamperConditionEnds t c) s fun u => u.flag O.sensorsActive c = false ∧ (∀ c', c' ≠ c → u.flag O.sensorsActive c' = s.flag O.sensorsActive c') ∧ Only s u [] [O.sensorsActive]) ∧
  (∀ (s : State) (t : Nat) (who : Who) (x : Session) (b : Bytes), (∀ j, j ∈ s.cipher.jobs → j.die < 8) → s.MayWriteDom who x 0x2B20 4 8 64 b.length →
    ((s.n O.tamperState = 0 ∨ s.n O.sensorsActive ≠ 0 ∨ s.canAttest = false) → Runs (.tamperClear t who b) s fun u => u.answered who .deviceState ∧ u.n O.tamperState = s.n O.tamperState ∧ Only s u [.access, .power, .bridge] []) ∧
    (s.n O.tamperState = 1 → s.n O.sensorsActive = 0 → s.canAttest = true → Runs (.tamperClear t who b) s fun u => u.answered who .ok ∧ u.n O.tamperState = 0 ∧
      u.cipher.sas = (s.cipher.journal.filter (fun k => k.running && s.dieUp k.die && s.rootOk k.die)).map (fun k => ⟨k.channel, k.receive, k.an, k.ki, k.kn, if k.receive then k.stored else k.stored + 65536, 2, k.stored, 0, false, k.sak⟩)) ∧
    (s.n O.tamperState = 2 → s.n O.sensorsActive = 0 → s.canAttest = true → Runs (.tamperClear t who b) s fun u => u.answered who .ok)) ∧
  (∀ (s : State) (t : Nat) (who : Who) (x : Session), s.MayWrite who x 0x2B00 0x0A 0x5A → Runs (.fuseTamperDestroysRoot t who) s fun u => u.answered who .ok ∧ u.n O.tamperDestroysRoot = 1 ∧
      Only s u [.access, .power, .bridge] [O.tamperDestroysRoot])

/-- An MKPDU of a bad ICV, of a channel whose CAK is not ready, or not newer than the peer's last changes nothing; else the peer is recorded with its number, and a SAK that a heard key server distributes is installed as a pair of associations.
The hello time sends an MKPDU under the next message number. A peer whose 6 s are over goes, and with the last live peer go the channel's associations. A fetched descriptor is shown RUNNING and the ring moves on; one that is not owned is left.
An executing job ends with its result, counted, its descriptor given back with the time. An abort of a job that is not there reads ALREADY_DONE, one of a secure class from outside is denied, else the job is aborted. A session's job is taken
unless one is under way or its class cannot serve it. The look-aside jobs are taken to stand on dies 0 to 7, as in every state a run reaches. -/
def Obligations.CipherEngines : Prop :=
  (∀ (s : State) (t n c : Nat) (p : Mkpdu), s.channelOfLane n = some c →
    ((s.cakReady c = false ∨ p.icvOk = false) → Runs (.mkpduReceive t n p) s fun v => Only s v [] []) ∧
    (s.cakReady c = true → p.icvOk = true → (s.mkaSt c).mi ≠ 0 → (∃ q, (s.mkaSt c).peers.find? (fun x => x.mi == p.mi) = some q ∧ p.mn ≤ q.mn) → Runs (.mkpduReceive t n p) s fun v => Only s v [] []) ∧
    (s.cakReady c = true → p.icvOk = true → (s.mkaSt c).mi ≠ 0 → (∀ q, (s.mkaSt c).peers.find? (fun x => x.mi == p.mi) = some q → q.mn < p.mn) → fld (s.channelRec c) 7 1 = 255 →
      (p.dist = none → p.sakUse = none → Runs (.mkpduReceive t n p) s fun v =>
        v.mkaSt c = { s.mkaSt c with peers := (s.mkaSt c).peers.filter (fun x => x.mi != p.mi) ++ [⟨p.mi, p.mn, p.prio, p.sci, p.hears, s.localAt t⟩] } ∧ Only s v [.cipher] []) ∧
      (∀ an kn pn sak, p.dist = some (an, kn, pn, sak) → p.hears = true → p.prio ≠ 255 → p.sakUse = none → s.cipher.sas.any (fun a => a.channel == c && a.ki == p.mi * 2 ^ 32 + kn) = false →
        s.cipher.journal.any (fun k => k.channel == c && k.ki == p.mi * 2 ^ 32 + kn && !k.receive) = false → Runs (.mkpduReceive t n p) s fun v =>
          ⟨c, false, an, p.mi * 2 ^ 32 + kn, kn, pn, 1, 0, 0, false, sak⟩ ∈ v.cipher.sas ∧ ⟨c, true, an, p.mi * 2 ^ 32 + kn, kn, pn, 1, 0, 0, false, sak⟩ ∈ v.cipher.sas))) ∧
  (∀ (s : State) (t c : Nat), s.cakReady c = true → (s.mkaSt c).mi ≠ 0 → fld (s.channelRec c) 7 1 = 255 → Runs (.mkaHelloTimer t c) s fun v =>
      (v.mkaSt c).mn = (s.mkaSt c).mn + 1 ∧ (∃ b, .message "mka" (chLane (s.channelRec c)) b ∈ v.out) ∧ Only s v [.cipher] []) ∧
  (∀ (s : State) (t c mi : Nat) (p : Peer), (s.mkaSt c).peers.find? (fun x => x.mi == mi) = some p →
    (s.localAt t < p.since + 6000000000 → Runs (.mkaLifeTimeout t c mi) s fun v => Only s v [] []) ∧
    (p.since + 6000000000 ≤ s.localAt t → p.hears = false → Runs (.mkaLifeTimeout t c mi) s fun v => v.mkaSt c = { s.mkaSt c with peers := (s.mkaSt c).peers.filter (fun x => x.mi != mi) } ∧ Only s v [.cipher] []) ∧
    (p.since + 6000000000 ≤ s.localAt t → p.hears = true → ((s.mkaSt c).peers.filter (fun x => x.mi != mi)).all (fun x => !x.hears) = true → Runs (.mkaLifeTimeout t c mi) s fun v =>
      (∀ a, a ∈ v.cipher.sas → a.channel ≠ c) ∧ (∀ a, a ∈ s.cipher.sas → a.channel ≠ c → a ∈ v.cipher.sas) ∧ v.mkaSt c = { s.mkaSt c with peers := (s.mkaSt c).peers.filter (fun x => x.mi != mi) })) ∧
  (∀ (s : State) (t c d : Nat) (desc data : Bytes) (ok : Bool), (∀ j, j ∈ s.cipher.jobs → j.die < 8) → s.classHome c = some d → d < 8 → clEnabled (s.classRec c) = true → clOwner (s.classRec c) ≠ 3 →
    s.n (bySub O.lookAsideEnable d) = 1 → desc.length = 96 →
    (bit (fld desc 0 1) 7 = false → Runs (.lookasideJobFetch t c desc data ok) s fun v => Only s v [] []) ∧
    (bit (fld desc 0 1) 7 = true → Runs (.lookasideJobFetch t c desc data ok) s fun v => .message "descriptor" c (patch desc 1 [1]) ∈ v.out ∧
      get 0 v.cipher.next c = (get 0 s.cipher.next c + 1) % max 1 (clRing (s.classRec c)) ∧
      Only s v [.cipher, .cairn, .access, .logs] ((List.range 8).flatMap fun d => [bySub O.jobsCompleted d, bySub O.jobsFailed d, bySub O.eventLogPasses d]))) ∧
  (∀ (s : State) (t d : Nat) (ok : Bool) (dest : Bytes), (∀ j, j ∈ s.cipher.jobs → j.die < 8) →
    (s.cipher.jobs.find? (fun j => j.die == d && j.run == 1) = none → Runs (.lookasideJobDone t d ok dest) s fun v => Only s v [] []) ∧
    (∀ j, s.cipher.jobs = [j] → j.die = d → j.run = 1 → j.sess = none → ok = true → (j.result dest).1 = jsDONE → Runs (.lookasideJobDone t d ok dest) s fun v => v.cipher.jobs = [] ∧
      v.n (bySub O.jobsCompleted d) = satN (2 ^ 64 - 1) (s.n (bySub O.jobsCompleted d) + 1) ∧
      .message "descriptor" j.cls (endDesc { j with run := 3, status := jsDONE, output := (j.result dest).2, key := [] } (s.begin t).gptpNs) ∈ v.out)) ∧
  (∀ (s : State) (t : Nat) (who : Who) (x : Session), (∀ j, j ∈ s.cipher.jobs → j.die < 8) → s.MayWrite who x 0x2B44 3 1 →
    (clSecure (s.classRec (s.n O.abortClass)) = true → x.secure = false → Runs (.abortJob t who) s fun v => v.answered who .accessDenied ∧ v.cipher = s.cipher) ∧
    ((clSecure (s.classRec (s.n O.abortClass)) = false ∨ x.secure = true) →
      (s.cipher.jobs.find? (fun j => j.cls == s.n O.abortClass && j.sess.isNone && j.index == s.n O.abortDescriptor && j.run != 3) = none → Runs (.abortJob t who) s fun v => v.answered who .alreadyDone ∧ v.cipher = s.cipher) ∧
      (∀ j, s.cipher.jobs.find? (fun j => j.cls == s.n O.abortClass && j.sess.isNone && j.index == s.n O.abortDescriptor && j.run != 3) = some j → Runs (.abortJob t who) s fun v => v.answered who .ok ∧
        (s.cipher.jobs = [j] → v.cipher.jobs = [] ∧ v.n (bySub O.jobsFailed j.die) = satN (2 ^ 32 - 1) (s.n (bySub O.jobsFailed j.die) + 1))))) ∧
  (∀ (s : State) (t : Nat) (who : Who) (x : Session) (b : Bytes), (∀ j, j ∈ s.cipher.jobs → j.die < 8) → s.MayWriteDom who x 0x2B50 2 96 4192 b.length →
    (s.classHome (x.sel O.spewardJobClass) = none → Runs (.spewardJob t who b) s fun v => v.answered who .deviceState ∧ v.cipher = s.cipher) ∧
    (∀ d, s.classHome (x.sel O.spewardJobClass) = some d →
      ((x.job.isSome = true ∨ clEnabled (s.classRec (x.sel O.spewardJobClass)) = false ∨ clOwner (s.classRec (x.sel O.spewardJobClass)) ≠ 3 ∨ s.n (bySub O.lookAsideEnable d) ≠ 1) →
        Runs (.spewardJob t who b) s fun v => v.answered who .deviceState ∧ v.cipher = s.cipher) ∧
      (d < 8 → x.job = none → clEnabled (s.classRec (x.sel O.spewardJobClass)) = true → clOwner (s.classRec (x.sel O.spewardJobClass)) = 3 → s.n (bySub O.lookAsideEnable d) = 1 →
        Runs (.spewardJob t who b) s fun v => v.answered who .ok ∧
          Only s v [.cipher, .cairn, .access, .logs, .bridge, .power] ((List.range 8).flatMap fun d => [bySub O.jobsCompleted d, bySub O.jobsFailed d, bySub O.eventLogPasses d]))))

/-- The scrubber's corrected words are counted. An uncorrectable word is counted, logged and handled by the memory that holds it: a mailbox word is cleared, a table entry of the plan is open until reloaded, a meter and a recovery function are gone,
a learned forwarding entry goes and a static one stays, a connection goes, an audio input restarts, an output overruns, a word of the management memory takes the die down. A march starts on a die up and, if destructive, in quarantine; its abort
lets a preserving run end its bank and stops a destructive one; a bank's failing rows take spares, a ninth fails it; the last bank ends the run as PASSED, REPAIRED or FAILED. -/
def Obligations.Memories : Prop :=
  (∀ (s : State) (t d k : Nat), s.dieUp d = true → Runs (.patrolScrub t d k) s fun v => v.n (bySub O.eccCorrected d) = satN (2 ^ 32 - 1) (s.n (bySub O.eccCorrected d) + k) ∧ Only s v [] [bySub O.eccCorrected d]) ∧
  (∀ (s : State) (t d bank word : Nat) (h : EccHit), s.dieUp d = true → ∃ q : State, Only s q [.logs] [bySub O.eccUncorrectable d] ∧ q.n (bySub O.eccUncorrectable d) = satN (2 ^ 32 - 1) (s.n (bySub O.eccUncorrectable d) + 1) ∧
    Runs (.eccUncorrectable t d h bank word) s (· = q.eccOutcome d h) ∧
    (∀ r, h = .tarn r none → Runs (.eccUncorrectable t d h bank word) s (· = q)) ∧
    (∀ o, h = .mailbox o → Runs (.eccUncorrectable t d h bank word) s fun v => v.mailboxOf d = ramWrite (s.mailboxOf d) (o / 8 * 8) (fill 8 0) ∧ (∀ d', d' ≠ d → v.mailboxOf d' = s.mailboxOf d') ∧ Only s v [.logs, .bridge] [bySub O.eccUncorrectable d]) ∧
    (∀ r k, h = .contract r k → Runs (.eccUncorrectable t d h bank word) s fun v => v.mem = { s.mem with holes := ins s.mem.holes (2 ^ 26 * d + k) (s.localAt t) } ∧ Only s v [.logs, .mem] [bySub O.eccUncorrectable d]) ∧
    (∀ r p k, h = .rule r p k → Runs (.eccUncorrectable t d h bank word) s fun v => v.mem = { s.mem with holes := ins s.mem.holes (2 ^ 26 * d + (2 ^ 24 + 4096 * p + k)) (s.localAt t) } ∧ Only s v [.logs, .mem] [bySub O.eccUncorrectable d]) ∧
    (∀ r k, h = .frer r k → Runs (.eccUncorrectable t d h bank word) s fun v => look v.fwd.recovery (d * 8192 + k) = none ∧ v.mem = { s.mem with holes := ins s.mem.holes (2 ^ 26 * d + k) (s.localAt t) } ∧ Only s v [.logs, .mem, .fwd] [bySub O.eccUncorrectable d]) ∧
    (∀ r o, h = .meter r o → Runs (.eccUncorrectable t d h bank word) s fun v => look v.fwd.meters (meterKey d o) = none ∧ Only s v [.logs, .mem, .fwd] [bySub O.eccUncorrectable d]) ∧
    (∀ r k, h = .fdb r k → Runs (.eccUncorrectable t d h bank word) s fun v =>
      ((look (s.fdbOf d) k).any (fun e => !e.static) = true → look (v.fdbOf d) k = none ∧ (∀ d', d' ≠ d → v.fdbOf d' = s.fdbOf d')) ∧
      ((look (s.fdbOf d) k).any (fun e => !e.static) = false → v.fwd = s.fwd) ∧ Only s v [.logs, .fwd] [bySub O.eccUncorrectable d, O.fdbEntriesInUse, O.fdbStaticEntries]) ∧
    (∀ c, h = .audioInput c → Runs (.eccUncorrectable t d h bank word) s fun v => v.input d c = (s.input d c).restart ∧ Only s v [.logs, .audio] [bySub O.eccUncorrectable d]) ∧
    (∀ o, h = .audioOutput o → Runs (.eccUncorrectable t d h bank word) s fun v => v.audio.overOut = o :: s.audio.overOut ∧ Only s v [.logs, .audio] [bySub O.eccUncorrectable d]) ∧
    (h = .management → Runs (.eccUncorrectable t d h bank word) s fun v => d ∈ v.pkg.failed ∧ bit v.pkg.healthy d = false)) ∧
  (∀ (s : State) (t : Nat) (who : Who) (x : Session), s.MayWrite who x 0x2E58 4 1 →
    ((s.n O.marchStatus = 1 ∨ s.mem.march.isSome = true ∨ s.dieUp (s.n O.marchDie) = false ∨ (s.n O.marchMode ≠ 1 ∧ bit s.pkg.quarantine (s.n O.marchDie) = false)) →
      Runs (.marchStart t who) s fun v => v.answered who .deviceState ∧ v.mem = s.mem ∧ Only s v [.access, .power, .bridge] []) ∧
    (s.n O.marchStatus ≠ 1 → s.mem.march = none → s.dieUp (s.n O.marchDie) = true → (s.n O.marchMode = 1 ∨ bit s.pkg.quarantine (s.n O.marchDie) = true) →
      Runs (.marchStart t who) s fun v => v.answered who .ok ∧ v.n O.marchStatus = 1 ∧ v.n O.marchFailingRows = 0 ∧ v.n O.marchProgress = 0 ∧
        v.mem.march = some ⟨s.n O.marchDie, s.n O.marchMemory, s.n O.marchMode == 1, (bitsSet (s.n O.marchMemory) 11).flatMap (fun c => (List.range (banksOf c)).map (fun b => (c, b))), false, 0, false⟩ ∧
        Only s v [.access, .power, .bridge, .mem] [O.marchStatus, O.marchFailingRows, O.marchProgress])) ∧
  (∀ (s : State) (t : Nat) (who : Who) (x : Session), s.MayWrite who x 0x2E58 4 2 →
    ((s.mem.march = none ∨ s.n O.marchStatus ≠ 1) → Runs (.marchAbort t who) s fun v => v.answered who .alreadyDone ∧ v.mem = s.mem ∧ Only s v [.access, .power, .bridge] []) ∧
    (∀ m, s.mem.march = some m → s.n O.marchStatus = 1 →
      (m.preserving = true → m.left ≠ [] → Runs (.marchAbort t who) s fun v => v.answered who .ok ∧ v.n O.marchStatus = 5 ∧ v.mem.march = some { m with aborted := true } ∧ Only s v [.access, .power, .bridge, .mem] [O.marchStatus]) ∧
      (m.preserving = true → m.left = [] → m.failed = 0 → Runs (.marchAbort t who) s fun v => v.answered who .ok ∧ v.n O.marchStatus = 5 ∧ v.mem.march = none ∧ Only s v [.access, .power, .bridge, .mem] [O.marchStatus]) ∧
      (m.preserving = false → m.failed = 0 → Runs (.marchAbort t who) s fun v => v.answered who .ok ∧ v.mem.march = none))) ∧
  (∀ (s : State) (t k code bank : Nat) (m : MarchRun) (rest : List (Nat × Nat)), s.mem.march = some m → m.die < 8 → s.dieUp m.die = true → (∀ c, (bankRegion c).all (fun r => s.regionUp (2 * m.die + r)) = true) →
      m.left = (code, bank) :: rest → m.preserving = true → m.aborted = false → Runs (.marchBankDone t k) s fun v =>
        get 0 v.mem.spares (spareKey m.die code bank) = min 8 (get 0 s.mem.spares (spareKey m.die code bank) + k) ∧
        v.n O.marchProgress = satN 65535 (s.n O.marchProgress + 1) ∧ v.n O.marchFailingRows = satN 65535 (s.n O.marchFailingRows + k) ∧
        (8 < get 0 s.mem.spares (spareKey m.die code bank) + k → v.flag (bySub O.failedBanks m.die) code = true) ∧
        v.mem.march = some { m with left := rest, repaired := m.repaired || (decide (0 < k) && !decide (8 < get 0 s.mem.spares (spareKey m.die code bank) + k)), failed := if decide (8 < get 0 s.mem.spares (spareKey m.die code bank) + k) then setBit m.failed code true else m.failed } ∧
        Only s v [.mem] [bySub O.spareRowsInUse m.die, bySub O.failedBanks m.die, O.marchFailingRows, O.marchProgress]) ∧
  (∀ (s : State) (t : Nat) (m : MarchRun), s.mem.march = some m → s.dieUp m.die = true → (∀ c, (bankRegion c).all (fun r => s.regionUp (2 * m.die + r)) = true) → m.left = [] → m.aborted = false →
    (m.failed = 0 → Runs (.marchDone t) s fun v => v.mem.march = none ∧ v.n O.marchStatus = (if m.repaired then 3 else 2) ∧ Only s v [.mem] [O.marchStatus]) ∧
    (m.failed ≠ 0 → ∃ q : State, q.mem.march = none ∧ q.n O.marchStatus = 4 ∧ Only s q [.mem] [O.marchStatus] ∧ Runs (.marchDone t) s (· = q.raiseBanks m.die m.failed)))

/-- Standby is entered from Active while no commit, migration of the life cycle or update stands: every die is in quarantine, and what powered-off domains held (lanes, firewall, audio, keys in use, look-aside jobs) is gone. Standby is left by the
wake sequence: Active, the cause 8 recorded, the tick restarted in HOLD at the estimate. A detach is refused while a commit or a life-cycle transition runs, else sends LEAVE and drains; the drain ends when every queue is empty or after 10 ms:
DETACHED, and every output fades. 64 ticks over budget with every lever at its floor raise the derate level of the hottest die by one, up to 3; SMBALERT records a fault of each rail read. The lanes of the plan in force are taken to be lanes
0 to 63, as in every state a run reaches. -/
def Obligations.StandbyAndDetach : Prop :=
  (∀ (s : State) (t : Nat) (who : Who) (x : Session), s.MayWrite who x 0x2C00 2 1 →
    ((s.n O.powerState ≠ pwACTIVE ∨ s.commitStatus = csRUNNING ∨ s.commitStatus = csSWITCHPENDING ∨ s.n O.lifeCycleCommandStatus = 1 ∨ s.update.holder.isSome = true) →
      Runs (.standbyEnter t who) s fun v => v.answered who .deviceState ∧ Only s v [.access, .power, .bridge] []) ∧
    (s.n O.powerState = pwACTIVE → s.commitStatus ≠ csRUNNING → s.commitStatus ≠ csSWITCHPENDING → s.n O.lifeCycleCommandStatus ≠ 1 → s.update.holder = none →
      Runs (.standbyEnter t who) s fun v => v.answered who .ok ∧ v.n O.powerState = pwSTANDBY ∧ (∀ d, d < 8 → s.hasDie d = true → bit v.pkg.quarantine d = true) ∧
        v.lanes = [] ∧ v.fw = {} ∧ v.audio = {} ∧ v.cipher.sas = [] ∧ v.cipher.jobs = [] ∧ v.cairn.cache = [] ∧ v.cairn.copies = s.cairn.copies ∧ v.plan = s.plan ∧ v.update = s.update)) ∧
  (∀ (s : State) (t el est : Nat) (f : StartFacts) (who : Who) (x : Session), s.MayWrite who x 0x2C00 2 2 →
    (s.n O.powerState ≠ pwSTANDBY → Runs (.standbyLeave t who el est f) s fun v => v.answered who .deviceState ∧ Only s v [.access, .power, .bridge] []) ∧
    (s.n O.powerState = pwSTANDBY → s.variant ≤ 8 → (∀ e, e ∈ s.plan.active.lanes → e.1 < 64) → Runs (.standbyLeave t who el est f) s fun v => v.answered who .ok ∧
      v.n O.powerState = pwACTIVE ∧ v.n O.lastWakeCause = 8 ∧ v.n O.lastWakeSource = 0xFFFF ∧ v.n O.lastWakeTime = satN (2 ^ 32 - 1) el ∧ v.power.wakeAt = some (s.localAt t) ∧
      (∃ q : State, q.n O.tickState = tickHOLD ∧ q.n O.tickNumber = est ∧ q.tick = { start := s.localAt t, holdSince := s.localAt t } ∧ v.tick = ((q.restartInstances false).refreshInstances).tick))) ∧
  (∀ (s : State) (t : Nat) (who : Who) (x : Session), s.MayWrite who x 0x2C00 0x0F 1 →
    ((s.n O.powerState ≠ pwACTIVE ∨ s.commitStatus = csRUNNING ∨ s.commitStatus = csSWITCHPENDING ∨ s.n O.lifeCycleCommandStatus = 1) →
      Runs (.detachCommand t who) s fun v => v.answered who .deviceState ∧ Only s v [.access, .power, .bridge] []) ∧
    (s.n O.powerState = pwACTIVE → s.commitStatus ≠ csRUNNING → s.commitStatus ≠ csSWITCHPENDING → s.n O.lifeCycleCommandStatus ≠ 1 →
      Runs (.detachCommand t who) s fun v => v.answered who .ok ∧ v.n O.powerState = pwDRAINING ∧ v.n O.detachStatus = 1 ∧ v.pkg = { s.pkg with quarantine := s.dieMask } ∧
        v.plan = { s.plan with talkers := [], listeners := [] } ∧ v.power.drainSince = s.localAt t ∧ Only s v [.access, .power, .bridge, .lanes, .plan, .pkg] [O.powerState, O.detachStatus])) ∧
  (∀ (s : State) (t : Nat),
    (s.n O.detachStatus = 1 → ((∀ n, n < s.laneCount → (s.lane n).queues = [] ∧ (s.lane n).sending = none) ∨ s.power.drainSince + 10000000 ≤ s.localAt t) →
      Runs (.detachDrainEnd t) s fun v => v.n O.powerState = pwDETACHED ∧ v.n O.detachStatus = 2 ∧ v.audio = { s.audio with outputs := mapVals (fun (x : OutputSt) => { x with live := false, faded := true, last := 0, peak := 0 }) s.audio.outputs }) ∧
    ((s.n O.detachStatus ≠ 1 ∨ ((∃ n, n < s.laneCount ∧ ((s.lane n).queues ≠ [] ∨ (s.lane n).sending ≠ none)) ∧ s.localAt t < s.power.drainSince + 10000000)) → Runs (.detachDrainEnd t) s (· = s.begin t))) ∧
  (∀ (s : State) (t : Nat),
    (s.power.poRun < 64 → Runs (.powerOver t) s (· = s.begin t)) ∧
    (∀ d, 64 ≤ s.power.poRun → s.hottestDie = some d → d < 8 →
      (s.n (bySub O.dieDerateLevel d) < 3 → Runs (.powerOver t) s fun v => v.n (bySub O.dieDerateLevel d) = s.n (bySub O.dieDerateLevel d) + 1 ∧ v.power = { s.power with poRun := 0, raised := upd 0 s.power.raised d (fun n => n + 1) }) ∧
      (3 ≤ s.n (bySub O.dieDerateLevel d) → Runs (.powerOver t) s fun v => v.n (bySub O.dieDerateLevel d) = s.n (bySub O.dieDerateLevel d) ∧ v.power = { s.power with poRun := 0 } ∧ Only s v [.power] []))) ∧
  (∀ (s : State) (t : Nat) (words : SMap Nat),
    (s.n O.powerState ≠ pwACTIVE → Runs (.smbalert t words) s (· = s.begin t)) ∧
    (s.n O.powerState = pwACTIVE → Runs (.smbalert t words) s fun v => Only s v [.logs, .power] [] ∧
      (∀ i w, i ∈ s.rails → rlAddr (s.railRec i) ≠ 0 → look words i = some w → v.railSt i = { s.railSt i with fault := w != 0 }) ∧
      (∀ i, (i ∉ s.rails ∨ rlAddr (s.railRec i) = 0 ∨ look words i = none) → v.railSt i = s.railSt i)))

/-- A ring frame joins class 2 of each ring lane in service, but the lane of arrival. JOIN adds its sender to the members, LEAVE removes it. A sleep request is refused under a veto reason or an open round; it sends a token to the successor, and in a
ring of one it commits 16 ticks ahead at once. A token addressed to this member is answered with consent, or with a veto that names this member and its reasons, and sent on; another is relayed. A token not seen from the successor for 2 ms
goes to the next member, one more counted absent; after 500 ms the round has failed. The token back at its initiator commits the round 16 ticks ahead with three COMMIT frames, or ends it VETOED. COMMIT records the tick; CANCEL before that
tick abandons the round. A frame of this device's own address that it has not sent shows an address conflict. -/
def Obligations.SleepRing : Prop :=
  (∀ (s : State) (mask : Nat) (but : Option Nat) (m : RingMsg) (n : Nat), n < 64 →
    (bit mask n = true ∧ some n ≠ but ∧ s.flag (laneKey O.linkStatus n) 3 = true → ((s.ringSend mask but m).lane n).queues = (s.lane n).queues ++ [ownFrame (beBytes 6 0x034B52000001 ++ s.baseMac ++ beBytes 2 0x88B6 ++ m.bytes) 2 s.now s.now]) ∧
    (bit mask n = false ∨ some n = but ∨ s.flag (laneKey O.linkStatus n) 3 = false → (s.ringSend mask but m).lane n = s.lane n)) ∧
  (∀ (s : State) (t lane : Nat) (f : Bytes) (m : RingMsg),
    (s.takesRing t lane f rtJOIN m → m.origin < 2048 → Runs (.join t lane f) s fun v => (∀ a, a < 2048 → bit v.members a = (a == m.origin || bit s.members a)) ∧ Only s v [.blobs, .lanes, .power] [] ∧
      v = ((s.begin t).setMember m.origin true).ringSend (s.n O.ringLanes) (some lane) m) ∧
    (s.takesRing t lane f rtLEAVE m → m.origin < 2048 → Runs (.leave t lane f) s fun v => (∀ a, a < 2048 → bit v.members a = (!(a == m.origin) && bit s.members a)) ∧ Only s v [.blobs, .lanes, .power] [])) ∧
  (∀ (s : State) (t lane : Nat) (f : Bytes) (m : RingMsg), ringParse f = some m → s.quiet = false → s.inService lane = true → (s.begin t).relayedBefore m = false → m.origin = s.ownAddr → s.pkg.addressConflict = false → m.ty = rtJOIN →
    Runs (.join t lane f) s fun v => v.pkg = { s.pkg with addressConflict := true } ∧ Only s v [.pkg, .logs] []) ∧
  (∀ (s : State) (t : Nat) (who : Who) (x : Session), s.MayWrite who x 0x2C00 9 1 →
    ((s.vetoReasons ≠ 0 ∨ (s.begin t).openRound.isSome = true ∨ s.n O.powerState ≠ pwACTIVE) → Runs (.sleepRequest t who) s fun v => v.answered who .deviceState ∧ Only s v [.access, .power, .bridge] []) ∧
    (s.vetoReasons = 0 → (s.begin t).openRound = none → s.n O.powerState = pwACTIVE →
      (s.pkg.addressConflict = false → s.successor s.ownAddr ≠ s.ownAddr → Runs (.sleepRequest t who) s fun v => v.answered who .ok ∧ v.n O.sleepRoundStatus = srCIRCULATING ∧
        v.power.round = some { initiator := s.ownAddr, start := s.tickNo, since := s.localAt t } ∧
        v.power.token = some { frame := RingMsg.bytes { s.ringMsg rtTOKEN with target := s.successor s.ownAddr, initiator := s.ownAddr, roundTick := s.tickNo }, successor := s.successor s.ownAddr, sent := s.localAt t } ∧
        Only s v [.access, .power, .bridge, .lanes] [O.sleepRoundStatus]) ∧
      (s.pkg.addressConflict = false → s.successor s.ownAddr = s.ownAddr → Runs (.sleepRequest t who) s fun v => v.answered who .ok ∧ v.n O.sleepRoundStatus = srCOMMITTED ∧ v.n O.sleepCommitTick = s.tickNo + 16 ∧
        v.power.round = some { initiator := s.ownAddr, start := s.tickNo, since := s.localAt t, commit := some (s.tickNo + 16) } ∧ v.power.token = none ∧ v.power.commits = 2))) ∧
  (∀ (s : State) (t lane : Nat) (f : Bytes) (m : RingMsg), s.takesRing t lane f rtTOKEN m → s.power.token = none →
    (m.target ≠ s.ownAddr → Runs (.token t lane f) s (· = ((s.begin t).setMember m.origin true).ringSend (s.n O.ringLanes) (some lane) m)) ∧
    (m.target = s.ownAddr → m.initiator ≠ s.ownAddr → s.power.round = none → s.pkg.addressConflict = false → ((s.begin t).setMember m.origin true).successor s.ownAddr ≠ s.ownAddr →
      (s.vetoReasons = 0 → Runs (.token t lane f) s fun v => v.power.round = some { initiator := m.initiator, start := m.roundTick, since := s.localAt t } ∧
        v.power.token = some { frame := RingMsg.bytes { m with consents := m.consents + 1, origin := s.ownAddr, target := ((s.begin t).setMember m.origin true).successor s.ownAddr }, successor := ((s.begin t).setMember m.origin true).successor s.ownAddr, sent := s.localAt t }) ∧
      (s.vetoReasons ≠ 0 → s.vetoReasons < 128 → m.vetoes < 32 → Runs (.token t lane f) s fun v => v.power.round = some { initiator := m.initiator, start := m.roundTick, since := s.localAt t } ∧
        v.power.token = some { frame := RingMsg.bytes { m with vetoes := m.vetoes + 1, list := patch m.list (4 * m.vetoes) (beBytes 2 s.ownAddr ++ beBytes 2 s.vetoReasons), origin := s.ownAddr, target := ((s.begin t).setMember m.origin true).successor s.ownAddr }, successor := ((s.begin t).setMember m.origin true).successor s.ownAddr, sent := s.localAt t })) ∧
    (∀ r, m.target = s.ownAddr → m.initiator = s.ownAddr → s.power.round = some r → r.initiator = s.ownAddr → r.start = m.roundTick → s.n O.sleepRoundStatus = srCIRCULATING →
      (m.vetoes = 0 → Runs (.token t lane f) s fun v => v.n O.sleepRoundStatus = srCOMMITTED ∧ v.n O.sleepCommitTick = s.tickNo + 16 ∧ v.power.round = some { r with commit := some (s.tickNo + 16) } ∧ v.power.commits = 2 ∧ v.blob O.roundReport = slice m.bytes 0x20 136) ∧
      (m.vetoes ≠ 0 → Runs (.token t lane f) s fun v => v.n O.sleepRoundStatus = srVETOED ∧ v.n O.sleepCommitTick = s.n O.sleepCommitTick ∧ v.power.round = none ∧ v.blob O.roundReport = slice m.bytes 0x20 136))) ∧
  (∀ (s : State) (t : Nat),
    (s.power.token = none → Runs (.tokenTimeout t) s (· = s.begin t)) ∧
    (∀ k m, s.power.token = some k → ringParse k.frame = some m → k.sent + 2000000 ≤ s.localAt t → s.pkg.addressConflict = false → ((s.begin t).setMember k.successor false).successor k.successor ≠ s.ownAddr →
      Runs (.tokenTimeout t) s fun v => v.power.token = some { frame := RingMsg.bytes { m with target := ((s.begin t).setMember k.successor false).successor k.successor, absent := m.absent + 1 }, successor := ((s.begin t).setMember k.successor false).successor k.successor, sent := s.localAt t } ∧
        (k.successor < 2048 → ∀ a, a < 2048 → bit v.members a = (!(a == k.successor) && bit s.members a)) ∧ Only s v [.blobs, .lanes, .power] []) ∧
    (∀ k, s.power.token = some k → s.localAt t < k.sent + 2000000 → Runs (.tokenTimeout t) s (· = s.begin t))) ∧
  (∀ (s : State) (t : Nat) (r : RoundSt), s.power.round = some r →
    (r.initiator = s.ownAddr → s.n O.sleepRoundStatus = srCIRCULATING → r.since + 500000000 ≤ s.localAt t → Runs (.roundTimeout t) s fun v => v.n O.sleepRoundStatus = srFAILED ∧ v.power = { s.power with token := none, round := none } ∧ Only s v [.power] [O.sleepRoundStatus]) ∧
    ((r.initiator ≠ s.ownAddr ∨ s.n O.sleepRoundStatus ≠ srCIRCULATING ∨ s.localAt t < r.since + 500000000) → Runs (.roundTimeout t) s (· = s.begin t))) ∧
  (∀ (s : State) (t lane : Nat) (f : Bytes) (m : RingMsg), s.takesRing t lane f rtCOMMIT m → (∀ r, s.power.round = some r → r.initiator = m.initiator → r.start = m.roundTick → r.cancelled = false ∧ r.commit = none) →
    Runs (.consentCommit t lane f) s fun v => v.n O.sleepCommitTick = m.commitTick ∧ v.power.round = some { initiator := m.initiator, start := m.roundTick, since := s.localAt t, commit := some m.commitTick } ∧ Only s v [.blobs, .lanes, .power] [O.sleepCommitTick]) ∧
  (∀ (s : State) (t : Nat),
    (∀ r, s.power.round = some r → r.initiator = s.ownAddr → r.commit ≠ none → s.power.commits ≠ 0 → Runs (.commitRepeat t) s fun v => v.power.commits = s.power.commits - 1 ∧ Only s v [.lanes, .power] [] ∧
      v = ({ (s.begin t) with power := { s.power with commits := s.power.commits - 1 } } : State).ringSend (s.n O.ringLanes) none (s.commitMsg r)) ∧
    ((s.power.round = none ∨ s.power.commits = 0) → Runs (.commitRepeat t) s (· = s.begin t))) ∧
  (∀ (s : State) (t lane : Nat) (f : Bytes) (m : RingMsg) (r : RoundSt), s.takesRing t lane f rtCANCEL m → s.power.round = some r → r.initiator = m.initiator → r.start = m.roundTick →
    (s.tickNo < m.commitTick → Runs (.cancel t lane f) s fun v => v.power.round = (if r.cancelled then some r else none) ∧ v.power.commits = 0 ∧ v.n O.sleepCommitTick = 0 ∧ (r.initiator = s.ownAddr → v.n O.sleepRoundStatus = srCANCELLED) ∧
      Only s v [.blobs, .lanes, .power] [O.sleepCommitTick, O.sleepRoundStatus]) ∧
    (m.commitTick ≤ s.tickNo → Runs (.cancel t lane f) s fun v => v.power.round = some r ∧ Only s v [.blobs, .lanes, .power] []))

/-- At its commit tick a member sleeps: domains but AON are off, the plan and the keys at rest stay; one that has cancelled sends WAKE three times instead. A WAKE frame is only counted while Active. An enabled wake event in Sleep or Standby runs the
wake sequence with its cause and source; while Active a forwarding ball cancels a committed round; another event changes nothing; after a tamper event in Sleep the wake is a cold start, held as the policy says. The wake command forwards WAKE
while Active and leaves Standby. Without valid traffic within the no-traffic timeout the device sleeps again and counts a false wake. The lanes of the plan in force are taken to be lanes 0 to 63, as in every state a run reaches. -/
def Obligations.SleepAndWake : Prop :=
  (∀ (s : State) (t n : Nat),
    (s.inService n = true → s.n O.powerState = pwACTIVE → Runs (.wakeFrame t n) s (· = { (s.begin t) with power := { s.power with wakeFrames := s.power.wakeFrames + 1 } })) ∧
    ((s.inService n = false ∨ s.n O.powerState ≠ pwACTIVE) → Runs (.wakeFrame t n) s (· = s.begin t))) ∧
  (∀ (s : State) (t : Nat), (s.power.wakes = 0 → Runs (.wakeFrameRepeat t) s (· = s.begin t)) ∧
    (s.power.wakes ≠ 0 → Runs (.wakeFrameRepeat t) s fun v => v.power.wakes = s.power.wakes - 1 ∧ Only s v [.lanes, .power] [] ∧
      v = ({ (s.begin t) with power := { s.power with wakes := s.power.wakes - 1 } } : State).ringSend (s.n O.wakeForwardLanes) s.power.wakeSource (s.ringMsg rtWAKE))) ∧
  (∀ (s : State) (t : Nat), (s.power.round = none → Runs (.sleepEntry t) s (· = s.begin t)) ∧
    (∀ r c, s.power.round = some r → r.commit = some c →
      ((s.tickNo < c ∨ s.n O.powerState ≠ pwACTIVE) → Runs (.sleepEntry t) s (· = s.begin t)) ∧
      (c ≤ s.tickNo → s.n O.powerState = pwACTIVE → r.cancelled = true → Runs (.sleepEntry t) s fun v => v.power.round = none ∧ v.power.wakes = 2 ∧ v.power.wakeSource = none ∧ v.n O.sleepCommitTick = 0 ∧ Only s v [.lanes, .power] [O.sleepCommitTick]) ∧
      (c ≤ s.tickNo → s.n O.powerState = pwACTIVE → r.cancelled = false → s.variant ≤ 8 → Runs (.sleepEntry t) s fun v => s.asleep v ∧ (r.initiator = s.ownAddr → v.n O.sleepRoundStatus = srCOMMITTED)))) ∧
  (∀ (s : State) (t c x el est : Nat) (f : StartFacts),
    (s.n O.powerState = pwACTIVE → (c = 1 ∨ c = 2) → s.wakeEnabled c x = true → bit (s.wakeBall x) 2 = true → Runs (.wake t c x el est f) s (· = (s.begin t).cancelRound)) ∧
    (s.n O.powerState = pwACTIVE → ¬((c = 1 ∨ c = 2) ∧ s.wakeEnabled c x = true ∧ bit (s.wakeBall x) 2 = true) → Runs (.wake t c x el est f) s (· = s.begin t)) ∧
    (s.n O.powerState ≠ pwACTIVE → ((s.n O.powerState ≠ pwSLEEP ∧ s.n O.powerState ≠ pwSTANDBY) ∨ s.wakeEnabled c x = false) → Runs (.wake t c x el est f) s (· = s.begin t)) ∧
    ((s.n O.powerState = pwSLEEP ∨ s.n O.powerState = pwSTANDBY) → s.wakeEnabled c x = true → s.cairn.sleepTamper = false → s.variant ≤ 8 → (∀ e, e ∈ s.plan.active.lanes → e.1 < 64) →
      (c ≠ 7 → Runs (.wake t c x el est f) s fun v => s.woken v t c (s.wakeSource c x) el est ∧ v.pkg.wakeWire = 2 ^ s.wakeDie c x) ∧
      (c = 7 → ∃ q : State, s.woken q t 7 0xFFFF el est ∧ Runs (.wake t c x el est f) s fun v => v = q.setEmergency true q.emgCommand ∧ v.flag O.emergencyState 0 = true)) ∧
    (∀ u, (s.n O.powerState = pwSLEEP ∨ s.n O.powerState = pwSTANDBY) → s.wakeEnabled c x = true → s.cairn.sleepTamper = true →
      u = (s.begin t).coldStart f (fun w => w.n O.tamperState != 0 || !(s.n O.tamperPolicy == tpREPORT || (s.n O.tamperPolicy == tpCONTAIN && c == 7))) →
      ((u.update.ready = false ∨ s.n O.tamperPolicy = tpREPORT) → Runs (.wake t c x el est f) s fun v => v.n O.lastWakeCause = c ∧ v.n O.lastWakeSource = s.wakeSource c x ∧ v.n O.lastWakeTime = satN (2 ^ 32 - 1) el ∧ Only u v [] [O.lastWakeCause, O.lastWakeSource, O.lastWakeTime]) ∧
      (u.update.ready = true → s.n O.tamperPolicy ≠ tpREPORT → Runs (.wake t c x el est f) s (· = (((u.setN O.lastWakeCause c).setN O.lastWakeSource (s.wakeSource c x)).setN O.lastWakeTime (satN (2 ^ 32 - 1) el)).tamperRespond tpCONTAIN)))) ∧
  (∀ (s : State) (t el est : Nat) (f : StartFacts) (who : Who) (x : Session), s.MayWrite who x 0x2C00 8 1 →
    (s.n O.powerState = pwACTIVE → Runs (.wakeCommand t who el est f) s fun v => v.answered who .ok ∧ v.power.wakes = 2 ∧ v.power.wakeSource = none ∧ Only s v [.access, .power, .bridge, .lanes] [O.sleepRoundStatus] ∧
      (∀ r c, s.power.round = some r → r.commit = some c → r.cancelled = false → s.tickNo < c → v.power.round = some { r with cancelled := true } ∧ (r.initiator = s.ownAddr → v.n O.sleepRoundStatus = srCANCELLED))) ∧
    (s.n O.powerState = pwSTANDBY → s.variant ≤ 8 → (∀ e, e ∈ s.plan.active.lanes → e.1 < 64) → Runs (.wakeCommand t who el est f) s fun v => v.answered who .ok ∧ v.n O.powerState = pwACTIVE ∧ v.n O.lastWakeCause = 8 ∧ v.n O.lastWakeSource = 0xFFFF ∧ v.power.wakeAt = some (s.localAt t)) ∧
    (s.n O.powerState ≠ pwACTIVE → s.n O.powerState ≠ pwSTANDBY → Runs (.wakeCommand t who el est f) s fun v => v.answered who .deviceState ∧ Only s v [.access, .power, .bridge] [])) ∧
  (∀ (s : State) (t : Nat), (s.power.wakeAt = none → Runs (.falseWake t) s (· = s.begin t)) ∧
    (∀ w, s.power.wakeAt = some w →
      ((s.localAt t < w + s.n O.noTrafficTimeout * 1000000 ∨ s.n O.powerState ≠ pwACTIVE) → Runs (.falseWake t) s (· = s.begin t)) ∧
      (w + s.n O.noTrafficTimeout * 1000000 ≤ s.localAt t → s.n O.powerState = pwACTIVE → s.variant ≤ 8 → Runs (.falseWake t) s fun v => s.asleep v ∧ v.n O.falseWakes = satN (2 ^ 32 - 1) (s.n O.falseWakes + 1))))

/-- The AON supplies bring INH_OUT and the five REG_EN outputs up in turn. A pulse on RESET_N below 1 µs is ignored; a longer one, or a loss of VDD_AON, takes what SRAM and registers held and leaves MRAM, fuses and stored values; the loss takes the
retention store too. A failed start counts, up to 3, in each boot record and asks for recovery at 3. A cold start enters ROM recovery by the strap, without a healthy die, after three failed starts or without an image; a persisting tamper state,
or an early event unless the policy is Report, holds it; else firmware that becomes ready serves the dictionary with every port in quarantine until its die may leave. -/
def Obligations.Starts : Prop :=
  (∀ (s : State) (t : Nat), Runs (.aonPowerUp t) s fun v => Only s v [] [] ∧ v.out = .message "inh" 0 [1] :: (List.range 5).map (fun i => .message "reg_en" i (leBytes 8 (s.localAt t + 1000000 + 200000 * i)))) ∧
  (∀ (s : State) (t : Nat), Runs (.xtalFail t) s fun v => Only s v [] [] ∧ v.out = [.message "xtal32-internal" 0 (leBytes 8 (s.localAt t + 1000000))]) ∧
  (∀ (s : State) (t w : Nat), (w < 1000 → Runs (.resetAssert t w) s (· = s.begin t)) ∧
    (1000 ≤ w → Runs (.resetAssert t w) s fun v => v.n O.powerState = pwOFF ∧ v.staged = {} ∧ v.lanes = [] ∧ v.access = {} ∧ v.fw = {} ∧ v.fwd = {} ∧ v.cipher.sas = [] ∧ v.cairn.cache = [] ∧ v.cairn.leaves = s.cairn.leaves ∧ v.cairn.copies = s.cairn.copies ∧
      v.cairn.roots = s.cairn.roots ∧ v.stored = s.stored ∧ v.update.boot = s.update.boot ∧ v.update.images = s.update.images ∧ v.update.ready = false ∧ v.pkg = { mirror := s.pkg.mirror } ∧
      v.dict = { (s.begin t).discardSlots.bootDict with objs := ins (s.begin t).discardSlots.bootDict.objs O.powerState (pwOFF : Nat) })) ∧
  (∀ (s : State) (t : Nat), Runs (.aonPowerLoss t) s fun v => v.n O.powerState = pwOFF ∧ v.cairn.sleepTamper = false ∧ (∀ d l, look v.logs d = some l → l.aonStore = []) ∧ v.lanes = [] ∧ v.access = {} ∧ v.stored = s.stored ∧
    v.cairn.copies = s.cairn.copies ∧ v.update.boot = s.update.boot ∧ v.pkg = { mirror := s.pkg.mirror }) ∧
  (∀ (s : State) (t : Nat),
    (s.update.ready = true → (s.bootRec s.pkg.lead).onTrial = false → Runs (.startFailed t) s (· = s.begin t)) ∧
    ((s.bootRec s.pkg.lead).onTrial = true → Runs (.startFailed t) s fun v => v.n O.powerState = pwOFF ∧ v.update.boot = s.update.boot ∧ v.update.ready = false) ∧
    (s.update.ready = false → (s.bootRec s.pkg.lead).onTrial = false → Runs (.startFailed t) s fun v => v.n O.powerState = pwOFF ∧ v.update.ready = false ∧ ∀ d, d ∈ s.upDies →
      (v.bootRec d).failedStarts = min 3 ((s.bootRec d).failedStarts + 1) ∧ (2 ≤ (s.bootRec d).failedStarts → bit (v.bootRec d).flags 0 = true) ∧ (v.bootRec d).gen = (s.bootRec d).gen + 1)) ∧
  (∀ (s : State) (reason : Nat) (f : StartFacts), (s.enterRecovery reason f).pkg = { s.pkg with recoveryDies := 2 ^ (if bit f.selfOk 0 then 0 else 1), quarantine := 0xFF, serving := false } ∧ (s.enterRecovery reason f).n O.recoveryReason = reason ∧
    (s.enterRecovery reason f).n O.powerState = pwACTIVE ∧ (s.enterRecovery reason f).update = { s.update with recLock := none, recBytes := 0, recState := 0, recLast := none, ready := false }) ∧
  (∀ (s u : State) (t : Nat) (f : StartFacts), u = (s.begin t).coldFirst f →
    ((f.recoveryN = true ∨ (f.testN = true ∧ u.n O.lifeCycleState ≠ 0)) → Runs (.coldStart t f) s (· = u.enterRecovery 1 f)) ∧
    (f.recoveryN = false → (f.testN = false ∨ u.n O.lifeCycleState = 0) →
      (u.upDies = [] → Runs (.coldStart t f) s (· = u.enterRecovery 2 f)) ∧
      (u.upDies ≠ [] → (3 ≤ (u.bootRec u.pkg.lead).failedStarts ∨ bit (u.bootRec u.pkg.lead).flags 0 = true) → Runs (.coldStart t f) s (· = u.enterRecovery 3 f)) ∧
      (u.upDies ≠ [] → (u.bootRec u.pkg.lead).failedStarts < 3 → bit (u.bootRec u.pkg.lead).flags 0 = false → u.cairn.marker = none →
        ((u.n O.tamperState ≠ 0 ∨ (u.cairn.early = true ∧ u.n O.tamperPolicy ≠ tpREPORT)) → Runs (.coldStart t f) s fun v => v.n O.powerState = pwACTIVE ∧ v.pkg = { u.pkg with tamperHold := true, quarantine := 0xFF, serving := false } ∧
          v.update = { u.update with start := some f } ∧ v.cairn = { u.cairn with early := false, sleepTamper := false } ∧ Only u v [.pkg, .cairn, .update] [O.powerState]) ∧
        (u.n O.tamperState = 0 → (u.cairn.early = false ∨ u.n O.tamperPolicy = tpREPORT) →
          (({ u with cairn := { u.cairn with early := false, sleepTamper := false } } : State).chooseImage f = none → Runs (.coldStart t f) s (· = ({ u with cairn := { u.cairn with early := false, sleepTamper := false } } : State).enterRecovery 2 f)) ∧
          (∀ w, ({ u with cairn := { u.cairn with early := false, sleepTamper := false } } : State).chooseImage f = some w → f.fwReady = true → Runs (.coldStart t f) s fun v => v.update.ready = true ∧ v.pkg.serving = true ∧ v.pkg.mirrored = true ∧ v.bridge.fwReady = true)))))

/-- A handshake whose chain verifies under a trusted key, within its validity unless instance 0 is untraceable, opens an association; another counts an authentication failure. OPEN grants a role the anchor allows (Vendor only under a good token) on
the lowest free session number and answers its number, role, world and idle timeout; otherwise access is denied, or the state refused when 16 are open. CLOSE ends the session and answers; idle time ends it too; a read snapshot lasts 10 s.
A forwarded request's answer reaches its session, and after 500 ms the timeout does. A trust-anchor write is in force and mirrored, and one that changes the record ends the sessions under that anchor; restore factory holds a 0 for each user
value until the next boundary. -/
def Obligations.Sessions : Prop :=
  (∀ (s : State) (t assoc : Nat) (path : Path) (chain : Option Trust) (valid : Bool) (slip : Option Slip),
    ((s.reachable path = false ∨ Slip.lost slip = true) → Runs (.dtlsHandshake t path assoc chain valid slip) s (· = s.begin t)) ∧
    (s.reachable path = true → Slip.lost slip = false →
      ((∀ k, chain = some k → (s.trusted k = false ∨ (s.instFlag 0 isUNTRACEABLE = false ∧ valid = false))) → Runs (.dtlsHandshake t path assoc chain valid slip) s fun v =>
        v.n O.authenticationFailures = satN (2 ^ 32 - 1) (s.n O.authenticationFailures + 1) ∧ Only s v [.logs] [O.authenticationFailures]) ∧
      (∀ k, chain = some k → s.trusted k = true → (s.instFlag 0 isUNTRACEABLE = true ∨ valid = true) → Runs (.dtlsHandshake t path assoc chain valid slip) s fun v =>
        v.access = { s.access with assocs := s.access.assocs.filter (fun a => a.id != assoc) ++ [⟨assoc, path, k⟩] } ∧ Only s v [.access, .logs] []))) ∧
  (∀ (s : State) (t role : Nat) (who : Who) (k : Option Token),
    (s.access.assocs.find? (fun a => a.id == who.assoc) = none → Runs (.openSession t who role k) s (· = s.begin t)) ∧
    (∀ a, s.access.assocs.find? (fun a => a.id == who.assoc) = some a → s.reachable a.path = true → Slip.lost who.slip = false →
      (Role.ofCode role = none → Runs (.openSession t who role k) s fun v => .response { who with sess := 0xFF } (Response.of .outOfRange) ∈ v.out ∧ Only s v [.bridge] []) ∧
      (∀ ro, Role.ofCode role = some ro →
        ((s.trusted a.trust && (s.begin t).roleGranted a ro k) = false → Runs (.openSession t who role k) s fun v => .response { who with sess := 0xFF } (Response.of .accessDenied) ∈ v.out ∧
          v.n O.accessDenials = satN (2 ^ 32 - 1) (s.n O.accessDenials + 1) ∧ Only s v [.bridge] [O.accessDenials]) ∧
        ((s.trusted a.trust && (s.begin t).roleGranted a ro k) = true → 16 ≤ s.sessionsOpen → Runs (.openSession t who role k) s fun v => .response { who with sess := 0xFF } (Response.of .deviceState) ∈ v.out ∧ Only s v [.bridge] []) ∧
        (∀ n, (s.trusted a.trust && (s.begin t).roleGranted a ro k) = true → s.sessionsOpen < 16 → (List.range 32).find? (fun n => (s.session? n).isNone) = some n → Runs (.openSession t who role k) s fun v =>
          .response { who with sess := n } ⟨.ok, leBytes 1 n ++ leBytes 1 ro.code ++ leBytes 1 (b2n (s.worldOf a.trust)) ++ [0] ++ beBytes 2 (s.n O.sessionIdleTimeout), true⟩ ∈ v.out ∧
          (∃ x, v.session? n = some x ∧ x.role = ro ∧ x.secure = s.worldOf a.trust ∧ x.assoc = who.assoc ∧ x.trust = some a.trust ∧ x.lastUse = s.localAt t ∧ x.txn = none) ∧
          (∀ m, m ≠ n → v.session? m = s.session? m) ∧ Only s v [.access, .bridge] [])))) ∧
  (∀ (s : State) (t : Nat) (q : Req) (x : Session), s.answers = true → Slip.lost q.who.slip = false → q.fmtOk = true → q.ext = none → s.session? q.who.sess = some x → s.pathUp x.path = true → x.assoc = q.who.assoc → x.lastSeq ≠ some q.who.seq →
    Runs (.close t q) s fun v => v.answered q.who .ok ∧ v.session? q.who.sess = none ∧ (∀ m, m ≠ q.who.sess → v.session? m = s.session? m) ∧ v.update.holder ≠ some q.who.sess ∧
      (s.update.holder ≠ some q.who.sess → Only s v [.access, .bridge, .power] [])) ∧
  (∀ (s : State) (t n : Nat) (x : Session), s.session? n = some x →
    (n ≠ 32 → x.executing = false → s.idleNs ≤ s.localAt t - x.lastUse → Runs (.sessionIdleTimeout t n) s fun v => v.session? n = none ∧ v.update.holder ≠ some n ∧ (s.update.holder ≠ some n → Only s v [.access] [])) ∧
    ((n = 32 ∨ x.executing = true ∨ s.localAt t - x.lastUse < s.idleNs) → Runs (.sessionIdleTimeout t n) s (· = s.begin t)) ∧
    (∀ k b w, x.snap = some (k, b, w) →
      (10000000000 ≤ s.localAt t - w → Runs (.snapshotExpiry t n) s fun v => v.session? n = some { x with snap := none } ∧ Only s v [.access] []) ∧
      (s.localAt t - w < 10000000000 → Runs (.snapshotExpiry t n) s (· = s.begin t)))) ∧
  (∀ (s : State) (t n : Nat) (f : Forwarded) (x : Session), s.access.forwarded.find? (fun f => f.sess == n) = some f → s.session? n = some x →
    (500000000 ≤ s.localAt t - f.since → Runs (.forwardTimeout t n) s fun v => v.answered ⟨n, f.seq, x.assoc, f.head, none⟩ .timeout ∧ v.access.forwarded = s.access.forwarded.filter (fun g => g.sess != n) ∧
      v.session? n = some { x with stored := some (Response.of .timeout), lastSeq := some f.seq, executing := false, lastUse := s.localAt t } ∧ Only s v [.access, .bridge] []) ∧
    (s.localAt t - f.since < 500000000 → Runs (.forwardTimeout t n) s (· = s.begin t))) ∧
  (∀ (s : State) (t n seq : Nat) (st : Status) (d : Bytes) (last : Bool),
    (s.access.forwarded.find? (fun f => f.sess == n && f.seq == seq) = none → Runs (.forwardedResponse t n seq st d last) s (· = s.begin t)) ∧
    (∀ f x, s.access.forwarded.find? (fun f => f.sess == n && f.seq == seq) = some f → s.session? n = some x → Runs (.forwardedResponse t n seq st d last) s fun v =>
      .response ⟨n, seq, x.assoc, f.head, none⟩ ⟨st, d, last⟩ ∈ v.out ∧ v.access.forwarded = s.access.forwarded.filter (fun g => g.sess != n) ∧
      v.session? n = some { x with stored := some ⟨st, d, last⟩, lastSeq := some seq, executing := false, lastUse := s.localAt t } ∧ Only s v [.access, .bridge] [])) ∧
  (∀ (s : State) (t n : Nat) (who : Who) (x : Session) (b : Bytes), s.MayWriteDom who x 0x2081 n 52 52 b.length → anchorOk b = true →
    (s.blob (bySub O.trustAnchor (n - 1)) = b → Runs (.trustAnchorWrite t who n b) s fun v => v.answered who .ok ∧ v.blob (bySub O.trustAnchor (n - 1)) = b ∧ v.pkg.mirror = s.pkg.mirror.setVal (bySub O.trustAnchor (n - 1)) (.bytes b) ∧
      Only s v [.access, .power, .bridge, .blobs, .pkg] []) ∧
    (s.blob (bySub O.trustAnchor (n - 1)) ≠ b → n - 1 < 8 → Runs (.trustAnchorWrite t who n b) s fun v => v.blob (bySub O.trustAnchor (n - 1)) = b ∧ v.pkg.mirror = s.pkg.mirror.setVal (bySub O.trustAnchor (n - 1)) (.bytes b) ∧
      (∀ a ∈ v.access.assocs, a.trust ≠ .anchor n) ∧ (∀ m y, s.session? m = some y → y.trust = some (.anchor n) → v.session? m = none) ∧
      ((∀ e ∈ s.access.sessions, e.1 = who.sess → e.2.trust ≠ some (.anchor n)) → v.answered who .ok))) ∧
  (∀ (s : State) (t v : Nat) (who : Who) (x : Session), s.MayWrite who x 0x2FF0 2 v → Runs (.restoreFactory t who v) s fun u => u.answered who .ok ∧
    (∃ l, u.held = s.held ++ l ∧ l.map (·.key) = s.userObjects v ∧ ∀ h ∈ l, h.val = .num 0 ∧ h.time = s.localAt t) ∧ Only s u [.access, .power, .bridge, .held, .pkg] [])

/-- A request whose bytes are malformed answers FORMAT; one that claims to be forwarded but comes from no device answers ACCESS_DENIED; one of no session answers NO_SESSION; while the device does not answer, or when the message is lost, nothing happens. A request that
is taken: PING answers OK; DESCRIBE answers the object's description, or NO_OBJECT; TXN_BEGIN opens an empty transaction, TXN_ABORT discards it, and each is refused with DEVICE_STATE when one is open already or none is; TXN_END stages the writes of effect C, stores
those of effect S and holds the others for the next boundary, in their order. -/
def Obligations.Requests : Prop :=
  (∀ (s : State) (t : Nat) (q : Req) (c : Instr), isRequest t q c →
    ((s.answers = false ∨ Slip.lost q.who.slip = true) → Runs c s (· = s.begin t)) ∧
    (s.answers = true → Slip.lost q.who.slip = false →
      (q.fmtOk = false → Runs c s fun v => v.answered q.who .format ∧ Only s v [.bridge] []) ∧
      (q.fmtOk = true → q.ext.isSome = true → q.fromDevice = false → Runs c s fun v => v.answered q.who .accessDenied ∧ Only s v [.bridge] []) ∧
      (q.fmtOk = true → q.ext = none → (q.target = s.ownAddr ∨ q.target = 0xFFFF) → s.session? q.who.sess = none → Runs c s fun v => v.answered q.who .noSession ∧ Only s v [.bridge] []))) ∧
  (∀ (s : State) (t : Nat) (q : Req) (x : Session), s.TakesReq q x →
    Runs (.ping t q) s (fun v => v.answered q.who .ok ∧ Only s v [.access, .power, .bridge] []) ∧
    (∀ i j, s.row? i j = none → Runs (.describe t q i j) s fun v => v.answered q.who .noObject ∧ Only s v [.access, .power, .bridge] []) ∧
    (∀ i j r, s.row? i j = some r → Runs (.describe t q i j) s fun v => .response q.who ⟨.ok, r.describe x i j, true⟩ ∈ v.out ∧ Only s v [.access, .power, .bridge] []) ∧
    (x.txn.isSome = true → Runs (.txnBegin t q) s fun v => v.answered q.who .deviceState ∧ (∃ y, v.session? q.who.sess = some y ∧ y.txn = x.txn) ∧ Only s v [.access, .power, .bridge] []) ∧
    (x.txn = none → Runs (.txnBegin t q) s fun v => v.answered q.who .ok ∧ (∃ y, v.session? q.who.sess = some y ∧ y.txn = some [] ∧ y.txnBytes = 0) ∧ Only s v [.access, .power, .bridge] []) ∧
    (x.txn = none → Runs (.txnAbort t q) s fun v => v.answered q.who .deviceState ∧ Only s v [.access, .power, .bridge] []) ∧
    (x.txn.isSome = true → Runs (.txnAbort t q) s fun v => v.answered q.who .ok ∧ (∃ y, v.session? q.who.sess = some y ∧ y.txn = none ∧ y.txnBytes = 0) ∧ Only s v [.access, .power, .bridge] []) ∧
    (x.txn = none → Runs (.txnEnd t q) s fun v => v.answered q.who .deviceState ∧ Only s v [.access, .power, .bridge] []) ∧
    (∀ l, x.txn = some l → Runs (.txnEnd t q) s fun v => v.answered q.who .ok ∧ (∃ y, v.session? q.who.sess = some y ∧ y.txn = none ∧ y.txnBytes = 0) ∧ v.held = s.held ++ l.filterMap (txnHeld q.who.sess (s.localAt t)) ∧
      v.staged = l.foldl (txnLayer .C) s.staged ∧ v.stored = l.foldl (txnLayer .S) s.stored ∧ Only s v [.access, .power, .bridge, .held, .staged, .stored, .pkg] []))

/-- A request whose object, access kind, role or world fails answers that status, ACCESS_DENIED counted. READ: at offset 0 the value, or the first 1,024 bytes of a domain with a snapshot kept; at another offset the next part of a live snapshot, else OUT_OF_SEQUENCE.
WRITE: over 1,024 bytes FORMAT; a domain's fragments collect and one out of turn is OUT_OF_SEQUENCE and drops them; a whole integer is checked for length, range and device state, a selector is the session's own, a transaction holds it (64 writes, 16 KiB), and
otherwise it is put in force (I), held for the boundary (T), staged (C) or stored (S). -/
def Obligations.ReadsAndWrites : Prop :=
  (∀ (s : State) (t i j off : Nat) (q : Req) (x : Session), s.TakesReq q x →
    (∀ st, s.readCheck x.rights i j = (st, none) → Runs (.read t q i j off) s fun v => v.answered q.who st ∧ v.n O.accessDenials = (if st = .accessDenied then satN (2 ^ 32 - 1) (s.n O.accessDenials + 1) else s.n O.accessDenials) ∧ Only s v [.access, .power, .bridge] [O.accessDenials]) ∧
    (∀ st r, s.readCheck x.rights i j = (st, some r) →
      (off ≠ 0 → (∀ b w, x.snap = some (mux i j, b, w) → r.isDomain = true → s.localAt t - w < 10000000000 → off < b.length → False) → Runs (.read t q i j off) s fun v => v.answered q.who .outOfSequence ∧ Only s v [.access, .power, .bridge] []) ∧
      (∀ b w, off ≠ 0 → x.snap = some (mux i j, b, w) → r.isDomain = true → s.localAt t - w < 10000000000 → off < b.length → Runs (.read t q i j off) s fun v => .response q.who ⟨.ok, slice b off 1024, decide (b.length ≤ off + 1024)⟩ ∈ v.out ∧
        (∃ y, v.session? q.who.sess = some y ∧ y.snap = if b.length ≤ off + 1024 then none else some (mux i j, b, w)) ∧ Only s v [.access, .power, .bridge] []) ∧
      (off = 0 → (s.asked t q.who i j r).selectedOk x i j ≠ .ok → Runs (.read t q i j off) s fun v => v.answered q.who ((s.asked t q.who i j r).selectedOk x i j) ∧ Only s v [.access, .power, .bridge] []) ∧
      (off = 0 → (s.asked t q.who i j r).selectedOk x i j = .ok → (s.n O.powerState = 2 ∧ poweredOff r i j = true) → Runs (.read t q i j off) s fun v => v.answered q.who .deviceState ∧ Only s v [.access, .power, .bridge] []) ∧
      (∀ b, off = 0 → (s.asked t q.who i j r).selectedOk x i j = .ok → ¬(s.n O.powerState = 2 ∧ poweredOff r i j = true) → ¬(0x2138 ≤ i ∧ i ≤ 0x213F ∧ (j = 3 ∨ j = 4)) →
        (s.asked t q.who i j r).readBytes q.who.sess x r q.inForce (if q.snapshot = true then some ((s.asked t q.who i j r).snapFor q.who.sess x) else none) i j = b →
        (r.isDomain = false → Runs (.read t q i j off) s fun v => .response q.who ⟨.ok, b, true⟩ ∈ v.out ∧ Only s v [.access, .power, .bridge] []) ∧
        (r.isDomain = true → Runs (.read t q i j off) s fun v => .response q.who ⟨.ok, slice b 0 1024, decide (b.length ≤ 1024)⟩ ∈ v.out ∧
          (∃ y, v.session? q.who.sess = some y ∧ y.snap = if b.length ≤ 1024 then none else some (mux i j, b, s.localAt t)) ∧ Only s v [.access, .power, .bridge] [])))) ∧
  (∀ (s : State) (t i j off : Nat) (last : Bool) (d : Bytes) (q : Req) (x : Session), s.TakesReq q x →
    (1024 < d.length → Runs (.write t q i j off last d) s fun v => v.answered q.who .format ∧ Only s v [.access, .power, .bridge] []) ∧
    (∀ st, d.length ≤ 1024 → s.writeCheck x.rights i j = (st, none) → Runs (.write t q i j off last d) s fun v => v.answered q.who st ∧ v.n O.accessDenials = (if st = .accessDenied then satN (2 ^ 32 - 1) (s.n O.accessDenials + 1) else s.n O.accessDenials) ∧
      Only s v [.access, .power, .bridge] [O.accessDenials]) ∧
    (∀ st r, d.length ≤ 1024 → s.writeCheck x.rights i j = (st, some r) →
      (r.isDomain = false → off ≠ 0 → Runs (.write t q i j off last d) s fun v => v.answered q.who .outOfSequence ∧ Only s v [.access, .power, .bridge] []) ∧
      (r.isDomain = true → off ≠ 0 → (∀ p, x.pendWrite = some (mux i j, p) → p.length ≠ off) → Runs (.write t q i j off last d) s fun v => v.answered q.who .outOfSequence ∧ (∃ y, v.session? q.who.sess = some y ∧ y.pendWrite = none) ∧ Only s v [.access, .power, .bridge] []) ∧
      (∀ p, r.isDomain = true → last = false → (off = 0 ∧ p = [] ∨ off ≠ 0 ∧ x.pendWrite = some (mux i j, p) ∧ p.length = off) → Runs (.write t q i j off last d) s fun v => v.answered q.who .ok ∧ (∃ y, v.session? q.who.sess = some y ∧ y.pendWrite = some (mux i j, p ++ d)) ∧
        Only s v [.access, .power, .bridge] []) ∧
      (∀ n, off = 0 → r.ty.intBytes = some n → (s.asked t q.who i j r).selectedOk x i j = .ok → d.length ≠ n → Runs (.write t q i j off last d) s fun v => v.answered q.who .length ∧ Only s v [.access, .power, .bridge] []) ∧
      (∀ v k, off = 0 → plainInt q.who.sess i j r d v → (s.asked t q.who i j r).selectedOk x i j = .ok → k = objKey x i j →
        ((r.rng.ok v && (s.asked t q.who i j r).valueOk i j v.toNat && (s.asked t q.who i j r).moreValueOk i j v.toNat) = false → Runs (.write t q i j off last d) s fun u => u.answered q.who .outOfRange ∧ Only s u [.access, .power, .bridge] []) ∧
        ((r.rng.ok v && (s.asked t q.who i j r).valueOk i j v.toNat && (s.asked t q.who i j r).moreValueOk i j v.toNat) = true →
          (r.isSelector = true → Runs (.write t q i j off last d) s fun u => u.answered q.who .ok ∧ (∃ y, u.session? q.who.sess = some y ∧ y.selectors = ins x.selectors k v) ∧ Only s u [.access, .power, .bridge] []) ∧
          (r.isSelector = false → (s.asked t q.who i j r).writeStateOk i j = false → Runs (.write t q i j off last d) s fun u => u.answered q.who .deviceState ∧ Only s u [.access, .power, .bridge] []) ∧
          (∀ l, r.isSelector = false → (s.asked t q.who i j r).writeStateOk i j = true → x.txn = some l →
            ((r.acc.readRole = none ∨ 64 ≤ l.length ∨ 16384 < x.txnBytes + d.length) → Runs (.write t q i j off last d) s fun u => u.answered q.who .deviceState ∧ Only s u [.access, .power, .bridge] []) ∧
            (r.acc.readRole.isSome = true → l.length < 64 → x.txnBytes + d.length ≤ 16384 → Runs (.write t q i j off last d) s fun u => u.answered q.who .ok ∧
              (∃ y, u.session? q.who.sess = some y ∧ y.txn = some (l ++ [(k, .num v)]) ∧ y.txnBytes = x.txnBytes + d.length) ∧ Only s u [.access, .power, .bridge] [])) ∧
          (r.isSelector = false → (s.asked t q.who i j r).writeStateOk i j = true → x.txn = none →
            (r.eff = .T → Runs (.write t q i j off last d) s fun u => u.answered q.who .ok ∧ u.held = s.othersHeld q.who.sess k ++ [{ time := s.localAt t, key := k, val := .num v }] ∧ Only s u [.access, .power, .bridge, .held, .pkg] []) ∧
            (r.eff = .C → Runs (.write t q i j off last d) s fun u => u.answered q.who .ok ∧ u.staged = s.staged.setVal k (.num v) ∧ u.held = s.othersHeld q.who.sess k ∧ Only s u [.access, .power, .bridge, .held, .staged] []) ∧
            (r.eff = .S → Runs (.write t q i j off last d) s fun u => u.answered q.who .ok ∧ u.stored = s.stored.setVal k (.num v) ∧ u.held = s.othersHeld q.who.sess k ∧ Only s u [.access, .power, .bridge, .held, .stored] []) ∧
            (r.eff ≠ .T → r.eff ≠ .C → r.eff ≠ .S → Runs (.write t q i j off last d) s fun u => u.answered q.who .ok ∧ u.o k = v ∧ u.held = s.othersHeld q.who.sess k ∧ Only s u [.access, .power, .bridge, .held] [k]))))))

/-- A claim from a session that is not a local service session is denied and counted; while a trial runs it is refused; the holder's own claim renews the lock, another's is UPDATE_BUSY, and on a free lock the session takes it: CLAIMED, no bytes received. An abort answers
ALREADY_DONE unless the update is RUNNING; it leaves ABORTED and a free lock, the inactive slot EMPTY without an image after a download, and as it was after a verification. A release of the holder leaves a free lock, ABORTED out of RUNNING and IDLE out of the states up to
REJECTED. After 60 s without a command or block both locks are free, and a running download or verification ends with LOCK_TIMEOUT; before that nothing happens. -/
def Obligations.UpdateLock : Prop :=
  (∀ (s : State) (t : Nat) (who : Who) (x : Session), s.MayWrite who x 0x2D00 1 1 →
    (¬((x.path = .svcEthernet ∨ x.path = .svcUart) ∧ x.forwarded = false) → Runs (.updateClaim t who) s fun v => v.answered who .accessDenied ∧ v.n O.accessDenials = satN (2 ^ 32 - 1) (s.n O.accessDenials + 1) ∧ Only s v [.access, .power, .bridge] [O.accessDenials]) ∧
    ((x.path = .svcEthernet ∨ x.path = .svcUart) → x.forwarded = false →
      (s.update.trialSince.isSome = true → Runs (.updateClaim t who) s fun v => v.answered who .deviceState ∧ Only s v [.access, .power, .bridge] []) ∧
      (s.update.trialSince = none → s.update.holder = some who.sess → Runs (.updateClaim t who) s fun v => v.answered who .ok ∧ v.update = { s.update with lastCmd := s.localAt t } ∧ Only s v [.access, .power, .bridge, .update] []) ∧
      (∀ h, s.update.trialSince = none → s.update.holder = some h → h ≠ who.sess → Runs (.updateClaim t who) s fun v => v.answered who .updateBusy ∧ Only s v [.access, .power, .bridge] []) ∧
      (s.update.trialSince = none → s.update.holder = none → Runs (.updateClaim t who) s fun v => v.answered who .ok ∧ v.update = { s.update with holder := some who.sess, verifying := false, lastCmd := s.localAt t } ∧ v.n O.updateStatus = upCLAIMED ∧
        v.n O.lockHolder = 256 * who.sess ∧ v.n O.bytesReceived = 0 ∧ Only s v [.access, .power, .bridge, .update] [O.updateStatus, O.lockHolder, O.bytesReceived]))) ∧
  (∀ (s : State) (t : Nat) (who : Who) (x : Session), s.MayWrite who x 0x2D00 1 2 →
    (s.n O.updateStatus ≠ upRUNNING → Runs (.updateAbort t who) s fun v => v.answered who .alreadyDone ∧ Only s v [.access, .power, .bridge] []) ∧
    (s.n O.updateStatus = upRUNNING → s.lockCheck who.sess ≠ .ok → Runs (.updateAbort t who) s fun v => v.answered who (s.lockCheck who.sess) ∧ Only s v [.access, .power, .bridge] []) ∧
    (s.n O.updateStatus = upRUNNING → s.lockCheck who.sess = .ok → Runs (.updateAbort t who) s fun v => v.answered who .ok ∧ v.n O.updateStatus = upABORTED ∧ v.update.holder = none ∧ v.n O.lockHolder = 0xFFFF ∧ v.update.verifying = false ∧
      (s.update.verifying = true → v.update.boot = s.update.boot ∧ v.update.images = s.update.images) ∧ (s.update.verifying = false → v.slotsAre s s.spareSlot imEMPTY ∧ ∀ d ∈ s.upDies, v.image d s.spareSlot = []) ∧
      Only s v [.access, .power, .bridge, .update, .blobs] (O.updateStatus :: O.lockHolder :: imageKeys))) ∧
  (∀ (s : State) (t : Nat) (who : Who) (x : Session), s.MayWrite who x 0x2D00 1 6 →
    (s.lockCheck who.sess ≠ .ok → Runs (.updateRelease t who) s fun v => v.answered who (s.lockCheck who.sess) ∧ Only s v [.access, .power, .bridge] []) ∧
    (s.lockCheck who.sess = .ok → Runs (.updateRelease t who) s fun v => v.answered who .ok ∧ v.update.holder = none ∧ v.n O.lockHolder = 0xFFFF ∧
      v.n O.updateStatus = (if s.n O.updateStatus = upRUNNING then upABORTED else if s.n O.updateStatus ≤ upREJECTED then upIDLE else s.n O.updateStatus) ∧ Only s v [.access, .power, .bridge, .update, .blobs] (O.updateStatus :: O.lockHolder :: imageKeys))) ∧
  (∀ (s : State) (t : Nat),
    (s.localAt t < s.update.lastCmd + 60000000000 → Runs (.lockTimeout t) s (· = s.begin t)) ∧
    (s.update.lastCmd + 60000000000 ≤ s.localAt t → Runs (.lockTimeout t) s fun v => v.update.holder = none ∧ v.update.recLock = none ∧
      (s.update.holder.isSome = true → v.n O.lockHolder = 0xFFFF ∧ v.n O.updateStatus = (if s.n O.updateStatus = upRUNNING then upABORTED else if s.n O.updateStatus ≤ upREJECTED then upIDLE else s.n O.updateStatus) ∧
        (s.n O.updateStatus = upRUNNING → v.n O.lastUpdateResult = urTIMEOUT)) ∧
      (s.update.holder = none → s.update.recLock.isSome = true → v.update.recState = (if s.update.recState = upRUNNING then upABORTED else upIDLE) ∧
        (s.update.recState = upRUNNING → (v.bootRec s.serviceDie).slot s.update.recSlot = imEMPTY ∧ v.image s.serviceDie s.update.recSlot = [] ∧ v.n O.lastUpdateResult = urTIMEOUT)) ∧
      Only s v [.update, .blobs] (O.updateStatus :: O.lockHolder :: O.lastUpdateResult :: imageKeys)))

/-- A block is refused without the lock, in a state that takes none, at an offset that is not the bytes received, and past the image's end. An accepted block is written to the inactive slot of every healthy die and counted; the first makes the slot PARTIAL; a bad header
ends the download REJECTED with its result, a failed write with MRAM, and the last byte leaves DOWNLOADED and UNVERIFIED. Verify needs the lock and an UNVERIFIED slot and leaves RUNNING. At its end the first failing die's result leaves REJECTED; no failure leaves
VERIFIED. Nothing happens when no verification runs. -/
def Obligations.Downloads : Prop :=
  (∀ (s : State) (t : Nat) (who : Who) (x : Session) (d : Bytes) (w : Bool), s.MayWriteDom who x 0x2D00 4 5 1024 d.length →
    (s.lockCheck who.sess ≠ .ok → Runs (.imageBlock t who d w) s fun v => v.answered who (s.lockCheck who.sess) ∧ Only s v [.access, .power, .bridge] []) ∧
    (s.lockCheck who.sess = .ok → s.mayLoad = false → Runs (.imageBlock t who d w) s fun v => v.answered who .deviceState ∧ Only s v [.access, .power, .bridge] []) ∧
    (s.lockCheck who.sess = .ok → s.mayLoad = true →
      (fld d 0 4 ≠ s.n O.bytesReceived → Runs (.imageBlock t who d w) s fun v => v.answered who .outOfSequence ∧ Only s v [.access, .power, .bridge] []) ∧
      (fld d 0 4 = s.n O.bytesReceived →
        ((256 ≤ (s.blockNew d).length ∧ 256 + fld (s.blockNew d) 0x10 4 < (s.blockNew d).length ∧ (256 ≤ (s.blockOld d).length ∨ s.header (s.blockNew d) = 0)) → Runs (.imageBlock t who d w) s fun v => v.answered who .outOfRange ∧ Only s v [.access, .power, .bridge] []) ∧
        (¬(256 ≤ (s.blockNew d).length ∧ 256 + fld (s.blockNew d) 0x10 4 < (s.blockNew d).length ∧ (256 ≤ (s.blockOld d).length ∨ s.header (s.blockNew d) = 0)) →
          (w = false → Runs (.imageBlock t who d w) s fun v => v.answered who .hardware ∧ v.n O.updateStatus = upREJECTED ∧ v.n O.lastUpdateResult = urMRAM ∧ v.slotsAre s s.spareSlot imREJECTED ∧ s.blockTaken v t d) ∧
          (w = true → (s.blockOld d).length < 256 → 256 ≤ (s.blockNew d).length → s.header (s.blockNew d) ≠ 0 → Runs (.imageBlock t who d w) s fun v => v.answered who .ok ∧ v.n O.updateStatus = upREJECTED ∧
            v.n O.lastUpdateResult = s.header (s.blockNew d) ∧ v.slotsAre s s.spareSlot imREJECTED ∧ s.blockTaken v t d) ∧
          (w = true → (256 ≤ (s.blockOld d).length ∨ s.header (s.blockNew d) = 0) → 256 ≤ (s.blockNew d).length → (s.blockNew d).length = 256 + fld (s.blockNew d) 0x10 4 → Runs (.imageBlock t who d w) s fun v => v.answered who .ok ∧
            v.n O.updateStatus = upDOWNLOADED ∧ v.slotsAre s s.spareSlot imUNVERIFIED ∧ s.blockTaken v t d) ∧
          (w = true → ((s.blockNew d).length < 256 ∨ ((256 ≤ (s.blockOld d).length ∨ s.header (s.blockNew d) = 0) ∧ (s.blockNew d).length ≠ 256 + fld (s.blockNew d) 0x10 4)) → Runs (.imageBlock t who d w) s fun v => v.answered who .ok ∧
            v.n O.updateStatus = upRUNNING ∧ (fld d 0 4 = 0 → v.slotsAre s s.spareSlot imPARTIAL) ∧ s.blockTaken v t d))))) ∧
  (∀ (s : State) (t : Nat) (who : Who) (x : Session), s.MayWrite who x 0x2D00 1 3 →
    (s.lockCheck who.sess ≠ .ok → Runs (.updateVerify t who) s fun v => v.answered who (s.lockCheck who.sess) ∧ Only s v [.access, .power, .bridge] []) ∧
    (s.lockCheck who.sess = .ok → ((s.bootRec s.pkg.lead).slot s.spareSlot ≠ imUNVERIFIED ∨ s.n O.updateStatus = upRUNNING) → Runs (.updateVerify t who) s fun v => v.answered who .deviceState ∧ Only s v [.access, .power, .bridge] []) ∧
    (s.lockCheck who.sess = .ok → (s.bootRec s.pkg.lead).slot s.spareSlot = imUNVERIFIED → s.n O.updateStatus ≠ upRUNNING → Runs (.updateVerify t who) s fun v => v.answered who .ok ∧ v.n O.updateStatus = upRUNNING ∧
      v.update = { s.update with verifying := true, lastCmd := s.localAt t } ∧ Only s v [.access, .power, .bridge, .update] [O.updateStatus])) ∧
  (∀ (s : State) (t : Nat) (crypto : SMap Nat),
    ((s.n O.updateStatus ≠ upRUNNING ∨ s.update.verifying = false) → Runs (.verifyDone t crypto) s (· = s.begin t)) ∧
    (∀ o, s.n O.updateStatus = upRUNNING → s.update.verifying = true → (s.upDies.map (fun d => imageResult (s.n O.lifeCycleState) (s.bootRec d).counter (get 0 crypto d) (s.image d s.spareSlot))).find? (fun r => r != 0) = o →
      (∀ r, o = some r → Runs (.verifyDone t crypto) s fun v => v.n O.updateStatus = upREJECTED ∧ v.n O.lastUpdateResult = r ∧ v.slotsAre s s.spareSlot imREJECTED ∧ v.update.verifying = false ∧ v.update.holder = s.update.holder ∧
        v.update.images = s.update.images ∧ Only s v [.update, .blobs] (O.updateStatus :: O.lastUpdateResult :: imageKeys)) ∧
      (o = none → Runs (.verifyDone t crypto) s fun v => v.n O.updateStatus = upVERIFIED ∧ v.slotsAre s s.spareSlot imVERIFIED ∧ v.update.verifying = false ∧ v.update.holder = s.update.holder ∧ v.update.images = s.update.images ∧
        Only s v [.update, .blobs] (O.updateStatus :: imageKeys))))

/-- Activate needs the lock and every condition of R433; it marks the trial slot on every healthy die with trial starts 1, answers, frees the lock, ends every session, and runs the new image with the status TRIAL. Passed self-checks are noted, and confirm the image where
its mode is 0; the confirm command does so after them. Confirmation makes the trial slot the confirmed one on every healthy die and raises the anti-rollback counter. At the window's end the trial falls back: no trial marker, FELL_BACK, the confirmed image, and the cause
as result. The datapath pause empties every lane and lasts 1 ms. -/
def Obligations.Activations : Prop :=
  (∀ (s : State) (t : Nat) (who : Who) (x : Session), s.MayWrite who x 0x2D00 1 4 →
    (s.lockCheck who.sess ≠ .ok → Runs (.updateActivate t who) s fun v => v.answered who (s.lockCheck who.sess) ∧ Only s v [.access, .power, .bridge] []) ∧
    (s.lockCheck who.sess = .ok → s.mayActivate = false → Runs (.updateActivate t who) s fun v => v.answered who .deviceState ∧ Only s v [.access, .power, .bridge] []) ∧
    (s.lockCheck who.sess = .ok → s.mayActivate = true → Runs (.updateActivate t who) s fun v => v.answered who .ok ∧ v.n O.updateStatus = upTRIAL ∧ v.update.holder = none ∧ v.update.trialSince = some (s.localAt t) ∧ v.update.checked = false ∧
      (∀ d ∈ s.upDies, (v.bootRec d).trial = s.spareSlot ∧ (v.bootRec d).trialStarts = 1) ∧ v.restarting s.spareSlot ∧ Only s v [.access, .power, .bridge, .update, .blobs, .pkg, .logs] (O.updateStatus :: O.lockHolder :: imageKeys))) ∧
  (∀ (s : State) (t : Nat) (who : Who) (x : Session), s.MayWrite who x 0x2D00 1 5 →
    ((s.update.trialSince = none ∨ s.update.checked = false) → Runs (.updateConfirm t who) s fun v => v.answered who .deviceState ∧ Only s v [.access, .power, .bridge] []) ∧
    (s.update.trialSince.isSome = true → s.update.checked = true → Runs (.updateConfirm t who) s fun v => v.answered who .ok ∧ s.confirmedIn v ∧ Only s v [.access, .power, .bridge, .update, .blobs, .logs] (O.updateStatus :: imageKeys))) ∧
  (∀ (s : State) (t : Nat),
    ((s.update.trialSince = none ∨ (s.begin t).selfChecks = false) → Runs (.selfChecksPassed t) s (· = s.begin t)) ∧
    (s.update.trialSince.isSome = true → (s.begin t).selfChecks = true →
      (s.n O.confirmationMode ≠ 0 → Runs (.selfChecksPassed t) s fun v => v.update = { s.update with checked := true } ∧ Only s v [.update] []) ∧
      (s.n O.confirmationMode = 0 → Runs (.selfChecksPassed t) s fun v => s.confirmedIn v ∧ Only s v [.update, .blobs, .logs] (O.updateStatus :: imageKeys)))) ∧
  (∀ (s : State) (t : Nat),
    (s.update.trialSince = none → Runs (.confirmationWindowExpired t) s (· = s.begin t)) ∧
    (∀ a, s.update.trialSince = some a →
      (s.localAt t < a + s.n O.confirmationWindow * 1000000000 → Runs (.confirmationWindowExpired t) s (· = s.begin t)) ∧
      (a + s.n O.confirmationWindow * 1000000000 ≤ s.localAt t → Runs (.confirmationWindowExpired t) s fun v => v.n O.updateStatus = upFELLBACK ∧ v.update.trialSince = none ∧ v.restarting (s.bootRec s.pkg.lead).confirmed ∧
        v.n O.lastUpdateResult = (if s.update.readmitFailed = true then urREADMIT else if s.update.checked = true then urWINDOW else if (s.begin t).selfChecks = true then urWINDOW else urCHECKS) ∧
        (∀ d ∈ s.upDies, (v.bootRec d).trial = 0xFF ∧ (v.bootRec d).trialStarts = 0 ∧ bit (v.bootRec d).flags 1 = true) ∧ Only s v [.access, .update, .blobs, .pkg, .logs] (O.updateStatus :: O.lastUpdateResult :: imageKeys)))) ∧
  (∀ (s : State) (t : Nat),
    ((s.n O.datapathPauseTick = 0 ∨ s.tickNo < s.n O.datapathPauseTick) → Runs (.datapathPause t) s (· = s.begin t)) ∧
    (s.n O.datapathPauseTick ≠ 0 → s.n O.datapathPauseTick ≤ s.tickNo → Runs (.datapathPause t) s fun v => v.n O.datapathPauseTick = 0 ∧ v.pkg = { s.pkg with pausedTill := s.localAt t + 1000000 } ∧
      (∀ n, n < s.laneCount → (v.lane n).queues = [] ∧ (v.lane n).preempted = none) ∧ Only s v [.pkg, .lanes, .fwd] (O.datapathPauseTick :: (List.range s.laneCount).map (laneKey O.drained))))

/-- A request that the protocol does not answer now leaves nothing; a repeated sequence number is answered again without effect. Otherwise: STATUS returns the state; CLAIM takes a free lock (with a token where one is needed); BLOCK, VERIFY, ACTIVATE and ABORT need the lock,
and answer UPDATE_BUSY or REFUSED without it. A block at the next offset is written and sets the slot PARTIAL, then REJECTED on a bad header or UNVERIFIED at the end; VERIFY gives VERIFIED or REJECTED; ACTIVATE makes the image the trial slot and restarts the dies; ABORT
empties the slot and frees the lock. CLEAR answers with the statement and the start goes on, or is refused. -/
def Obligations.RecoveryProtocol : Prop :=
  (∀ (s : State) (t src seq : Nat) (c : Instr) (k off : Nat), isRecovery t src seq c k off →
    (s.recoveryAnswers k = false → Runs c s (· = s.begin t)) ∧
    (∀ r, s.recoveryAnswers k = true → s.update.recLast = some (65536 * src + seq, r) → Runs c s fun v => .message "recovery" src r ∈ v.out ∧ Only s v [] [])) ∧
  (∀ (s : State) (t src seq : Nat), s.hears 1 src seq → Runs (.recoveryStatus t src seq) s fun v => v.replied 1 rsOK src seq 0 (leBytes 1 (s.n O.recoveryReason) ++ leBytes 1 (s.n O.lifeCycleState) ++ leBytes 1 (s.bootRec s.serviceDie).slotA ++
    leBytes 1 (s.bootRec s.serviceDie).slotB ++ leBytes 4 (s.recSecurity 0) ++ leBytes 4 (s.recSecurity 1) ++ leBytes 4 (s.bootRec s.serviceDie).counter ++ leBytes 1 (s.n O.tamperState) ++ (List.range 7).flatMap (fun c => leBytes 4 (s.n (bySub O.tamperCounters c)))) ∧ Only s v [.update] []) ∧
  (∀ (s : State) (t src seq : Nat) (tok : Bool), s.hears 2 src seq →
    (s.update.recLock = some src → Runs (.recoveryClaim t src seq tok) s fun v => s.turned v 2 rsOK src seq 0) ∧
    (∀ h, s.update.recLock = some h → h ≠ src → Runs (.recoveryClaim t src seq tok) s fun v => s.turned v 2 rsBUSY src seq 0) ∧
    (s.update.recLock = none → (1 ≤ s.n O.lifeCycleState ∧ s.n O.lifeCycleState ≤ 3 ∧ tok = false) → Runs (.recoveryClaim t src seq tok) s fun v => s.turned v 2 rsREFUSED src seq 0) ∧
    (s.update.recLock = none → ¬(1 ≤ s.n O.lifeCycleState ∧ s.n O.lifeCycleState ≤ 3 ∧ tok = false) → Runs (.recoveryClaim t src seq tok) s fun v => v.replied 2 rsOK src seq 0 [] ∧
      v.update = { s.update with recLock := some src, recBytes := 0, recState := upCLAIMED, lastCmd := s.localAt t, recLast := v.update.recLast } ∧ Only s v [.update] [])) ∧
  (∀ (s : State) (t src seq off : Nat) (d : Bytes), s.hears 3 src seq →
    (s.update.recLock ≠ some src → Runs (.recoveryBlock t src seq off d) s fun v => s.turned v 3 (if s.update.recLock.isSome = true then rsBUSY else rsREFUSED) src seq off) ∧
    (s.update.recLock = some src → (s.update.recState == upCLAIMED || (s.update.recState == upRUNNING && !s.update.verifying)) = false → Runs (.recoveryBlock t src seq off d) s fun v => s.turned v 3 rsREFUSED src seq off) ∧
    (s.update.recLock = some src → (s.update.recState == upCLAIMED || (s.update.recState == upRUNNING && !s.update.verifying)) = true →
      (off ≠ s.update.recBytes → Runs (.recoveryBlock t src seq off d) s fun v => s.turned v 3 rsSEQUENCE src seq off) ∧
      (off = s.update.recBytes → (d = [] ∨ 1024 < d.length) → Runs (.recoveryBlock t src seq off d) s fun v => s.turned v 3 rsREFUSED src seq off) ∧
      (∀ b, off = s.update.recBytes → d ≠ [] → d.length ≤ 1024 → b = s.recOld off ++ d →
        ((256 ≤ b.length ∧ 256 + fld b 0x10 4 < b.length) → Runs (.recoveryBlock t src seq off d) s fun v => s.turned v 3 rsREFUSED src seq off) ∧
        (¬(256 ≤ b.length ∧ 256 + fld b 0x10 4 < b.length) →
          (((s.recOld off).length < 256 ∧ 256 ≤ b.length ∧ headerResult (s.n O.lifeCycleState) (s.bootRec s.serviceDie).counter b ≠ 0) → Runs (.recoveryBlock t src seq off d) s fun v => v.replied 3 rsVERIFY src seq off [] ∧
            v.recSlotIs s (s.recAt off) imREJECTED upREJECTED t ∧ v.image s.serviceDie (s.recAt off) = b ∧ v.update.recBytes = b.length ∧ Only s v [.update] []) ∧
          (¬((s.recOld off).length < 256 ∧ 256 ≤ b.length ∧ headerResult (s.n O.lifeCycleState) (s.bootRec s.serviceDie).counter b ≠ 0) →
            ((256 ≤ b.length ∧ b.length = 256 + fld b 0x10 4) → Runs (.recoveryBlock t src seq off d) s fun v => v.replied 3 rsOK src seq off [] ∧ v.recSlotIs s (s.recAt off) imUNVERIFIED upDOWNLOADED t ∧ v.image s.serviceDie (s.recAt off) = b ∧
              v.update.recBytes = b.length ∧ Only s v [.update] []) ∧
            (¬(256 ≤ b.length ∧ b.length = 256 + fld b 0x10 4) → Runs (.recoveryBlock t src seq off d) s fun v => v.replied 3 rsOK src seq off [] ∧ v.recSlotIs s (s.recAt off) imPARTIAL upRUNNING t ∧ v.image s.serviceDie (s.recAt off) = b ∧
              v.update.recBytes = b.length ∧ Only s v [.update] [])))))) ∧
  (∀ (s : State) (t src seq crypto : Nat), s.hears 4 src seq →
    (s.update.recLock ≠ some src → Runs (.recoveryVerify t src seq crypto) s fun v => s.turned v 4 (if s.update.recLock.isSome = true then rsBUSY else rsREFUSED) src seq 0) ∧
    (∀ i, s.update.recLock = some src → i = (if s.update.recState = upCLAIMED then s.recoverySlot else s.update.recSlot) →
      ((s.bootRec s.serviceDie).slot i ≠ imUNVERIFIED → Runs (.recoveryVerify t src seq crypto) s fun v => s.turned v 4 rsREFUSED src seq 0) ∧
      ((s.bootRec s.serviceDie).slot i = imUNVERIFIED →
        (imageResult (s.n O.lifeCycleState) (s.bootRec s.serviceDie).counter crypto (s.image s.serviceDie i) = 0 → Runs (.recoveryVerify t src seq crypto) s fun v => v.replied 4 rsOK src seq 0 [] ∧ v.recSlotIs s i imVERIFIED upVERIFIED t ∧ Only s v [.update] []) ∧
        (imageResult (s.n O.lifeCycleState) (s.bootRec s.serviceDie).counter crypto (s.image s.serviceDie i) ≠ 0 → Runs (.recoveryVerify t src seq crypto) s fun v => v.replied 4 rsVERIFY src seq 0 [] ∧ v.recSlotIs s i imREJECTED upREJECTED t ∧ Only s v [.update] [])))) ∧
  (∀ (s : State) (t src seq : Nat), s.hears 5 src seq →
    (s.update.recLock ≠ some src → Runs (.recoveryActivate t src seq) s fun v => s.turned v 5 (if s.update.recLock.isSome = true then rsBUSY else rsREFUSED) src seq 0) ∧
    (s.update.recLock = some src → s.update.recState ≠ upVERIFIED → Runs (.recoveryActivate t src seq) s fun v => s.turned v 5 rsREFUSED src seq 0) ∧
    (s.update.recLock = some src → s.update.recState = upVERIFIED → Runs (.recoveryActivate t src seq) s fun v => v.replied 5 rsOK src seq 0 [] ∧ v.n O.powerState = pwOFF ∧ v.update.recLock = none ∧ v.stored = s.stored ∧
      (v.bootRec s.serviceDie).trial = s.update.recSlot ∧ (v.bootRec s.serviceDie).trialStarts = 0 ∧ (v.bootRec s.serviceDie).failedStarts = 0 ∧ (∀ e, e ≠ s.serviceDie → v.bootRec e = s.bootRec e) ∧ v.update.images = s.update.images)) ∧
  (∀ (s : State) (t src seq : Nat), s.hears 6 src seq →
    (s.update.recLock ≠ some src → Runs (.recoveryAbort t src seq) s fun v => s.turned v 6 (if s.update.recLock.isSome = true then rsBUSY else rsREFUSED) src seq 0) ∧
    (s.update.recLock = some src → s.update.recState ≠ upRUNNING → Runs (.recoveryAbort t src seq) s fun v => s.turned v 6 rsDONE src seq 0) ∧
    (s.update.recLock = some src → s.update.recState = upRUNNING → Runs (.recoveryAbort t src seq) s fun v => v.replied 6 rsOK src seq 0 [] ∧ v.update.recLock = none ∧ v.update.recState = upABORTED ∧ (v.bootRec s.serviceDie).slot s.update.recSlot = imEMPTY ∧
      v.image s.serviceDie s.update.recSlot = [] ∧ Only s v [.update] [])) ∧
  (∀ (s : State) (t src seq : Nat) (nonce : Bytes) (cred : Bool), s.hears 7 src seq →
    ((cred = false ∨ nonce.length < 8 ∨ 64 < nonce.length ∨ s.n O.sensorsActive ≠ 0 ∨ s.canAttest = false ∨ s.update.start = none) → Runs (.recoveryClear t src seq nonce cred) s fun v => s.turned v 7 rsREFUSED src seq 0) ∧
    (∀ f u, cred = true → 8 ≤ nonce.length → nonce.length ≤ 64 → s.n O.sensorsActive = 0 → s.canAttest = true → s.update.start = some f → u = (s.begin t).refreshRoots →
      (({ u with pkg := { u.pkg with tamperHold := false }, cairn := { u.cairn with released := true } } : State).setN O.tamperState 0).chooseImage f = none → Runs (.recoveryClear t src seq nonce cred) s fun v => s.turned v 7 rsREFUSED src seq 0) ∧
    (∀ f u w, cred = true → 8 ≤ nonce.length → nonce.length ≤ 64 → s.n O.sensorsActive = 0 → s.canAttest = true → s.update.start = some f → u = (s.begin t).refreshRoots →
      (({ u with pkg := { u.pkg with tamperHold := false }, cairn := { u.cairn with released := true } } : State).setN O.tamperState 0).chooseImage f = some w → Runs (.recoveryClear t src seq nonce cred) s fun v => v.replied 7 rsOK src seq 0 (u.attestation 3 nonce) ∧
        Only (w.finishStart f) v [.update, .logs] []))

/-- A boundary outside service, or inside a stretch tick, changes nothing. Any other applies the held T writes that completed before it, each unless its die's boundary engine overruns, and no other; it keeps every stored value; afterwards no record of a healthy die waits to
be written to its log. A log keeps 27,648 records, a history 1,024, and the newest replaces the oldest. The snapshot phase makes the latched counters the snapshot, or counts the snapshot incomplete, and latches the counters of this boundary. An overrun is counted; the third
in a row escalates and starts the run again. -/
def Obligations.TickWork : Prop :=
  (∀ (s : State) (t : Nat) (b : BoundaryFacts),
    ((s.begin t).noBoundary b.gptp → Runs (.tickBoundary t b) s (· = s.begin t)) ∧
    (¬(s.begin t).noBoundary b.gptp → Runs (.tickBoundary t b) s fun v => v.stored = s.stored ∧ v.freeCtr = s.freeCtr ∧ (∀ h, h ∈ v.held → h ∈ s.held) ∧ (∀ h, h ∈ s.held → s.localAt t ≤ h.time → h ∈ v.held) ∧
      ((∀ k ∈ b.overruns, k % 8 ≠ 5) → v.held = s.held.filter (fun h => !decide (h.time < s.localAt t))) ∧ (∀ d ∈ v.upDies, (v.log d).waiting = []))) ∧
  (∀ (l : DieLog) (e : EventRec),
    (l.general.length < 27648 → (l.write e).general = l.general ++ [e]) ∧ (27648 ≤ l.general.length → (l.write e).general = l.general.drop 1 ++ [e]) ∧
    (e.historic = false → (l.write e).history = l.history) ∧ (e.historic = true → l.history.length < 1024 → (l.write e).history = l.history ++ [e]) ∧ (e.historic = true → 1024 ≤ l.history.length → (l.write e).history = l.history.drop 1 ++ [e]) ∧
    (l.write e).waiting = l.waiting) ∧
  (∀ (s : State) (n : Nat) (bad : Bool), (s.snapshotPhase n bad).tick.latched = (s.snapshotPhase n bad).counters ∧
    (bad = true → (s.snapshotPhase n bad).tick.snapshot = s.tick.snapshot ∧ (s.snapshotPhase n bad).n O.incompleteSnapshots = satN (2 ^ 32 - 1) (s.n O.incompleteSnapshots + 1)) ∧
    (bad = false → (s.snapshotPhase n bad).tick.snapshot = s.tick.latched ∧ (s.snapshotPhase n bad).n O.snapshotTick = n) ∧ Only s (s.snapshotPhase n bad) [.tick] [O.incompleteSnapshots, O.snapshotTick]) ∧
  (∀ (s : State) (n k : Nat),
    ((s.dieUp (k / 8) = false ∨ 5 < k % 8) → State.overrunOne n s k = s) ∧
    (s.dieUp (k / 8) = true → k % 8 ≤ 5 → k ≤ 31 * 8 →
      (get 0 s.tick.runs k + 1 < 3 → get 0 (State.overrunOne n s k).tick.runs k = get 0 s.tick.runs k + 1 ∧ (State.overrunOne n s k).n (bySub O.tickOverrunCounters k) = satN (2 ^ 32 - 1) (s.n (bySub O.tickOverrunCounters k) + 1) ∧
        Only s (State.overrunOne n s k) [.tick, .logs] [bySub O.tickOverrunCounters k]) ∧
      (3 ≤ get 0 s.tick.runs k + 1 → ∃ w, State.overrunOne n s k = w.escalate (k / 8) (k % 8) ∧ w.tick.runs = del s.tick.runs k ∧ w.n (bySub O.tickOverrunCounters k) = satN (2 ^ 32 - 1) (s.n (bySub O.tickOverrunCounters k) + 1) ∧
        Only s w [.tick, .logs] [bySub O.tickOverrunCounters k])))

/-- For the mailbox and the edge message RAMs. The bytes written from an offset are read back from it; every byte outside them reads as before; a RAM in its canonical form stays in it; a RAM that
lists nothing reads as zeros (R356); and two RAMs in canonical form that read alike at every address are the same data. A write to a mailbox, whatever its other port writes at the same time, keeps the form of every die's mailbox. -/
def Obligations.RamContents : Prop :=
  (∀ (m : List Host.Cell) (off : Nat) (b : Bytes), ramRead (ramWrite m off b) off b.length = b ∧
    (∀ a n, a + n ≤ off ∨ off + b.length ≤ a → ramRead (ramWrite m off b) a n = ramRead m a n)) ∧
  (∀ a n, ramRead [] a n = List.replicate n 0) ∧
  (∀ m m' : List Host.Cell, Memory.wf m = true → Memory.wf m' = true → (∀ a, ramRead m a 1 = ramRead m' a 1) → m = m') ∧
  (∀ (s : State) (e off : Nat) (b : Bytes) (a : List (Nat × Nat)), (∀ d, Memory.wf (s.mailboxOf d) = true) → ∀ d, Memory.wf ((s.mailboxWrite e off b a).mailboxOf d) = true)

/-- Objects of every area of R455, at the first and the last unit where there are several, hold the default the spec prints. No value is staged, held for a boundary or stored; no
session, commit snapshot, lane state or log record exists, no slot holds a contract, and every byte of the mailboxes and the edge message RAMs reads 0. That the package is an AX8-8, and what the model's own tables hold, are the model's choices (log entries 4 and 5). -/
def Obligations.ResetValues : Prop :=
  (∀ e ∈ [(O.cobIDSYNC, 0x80), (O.vendorID, 0x4B5258), (O.spewardPort, 50336), (O.sessionIdleTimeout, 60), (O.tickPeriodCode, 1), (O.lockHoldTimeout, 5000), (O.tickFlags, 3)], State.reset.n e.1 = e.2) ∧
  (∀ i ∈ [0, 3], State.reset.n (byIdx O.priority1 i) = 246 ∧ State.reset.o (byIdx O.logSyncInterval i) = -3 ∧ State.reset.n (byIdx O.domainNumber i) = i) ∧
  (∀ i ∈ [0, 63], State.reset.n (byIdx O.laneEnable i) = 1 ∧ State.reset.n (byIdx O.maximumFrameSize i) = 1522 ∧ State.reset.n (byIdx O.resolvedRate i) = 0xFF) ∧
  (∀ i ∈ [0, 63], State.reset.n (bySub O.pcpMap i) = 0x22221001 ∧ State.reset.n (bySub O.preemptibleClasses i) = 0x3F ∧ State.reset.n (bySub O.meanLinkDelay i) = 0xFFFFFFFF) ∧
  (∀ e ∈ [(O.fdbAgeingTime, 300), (O.recoveryResetTimeout, 800), (O.starvationLimit, 64), (O.tcpEstablishedTimeout, 3600), (O.udpTimeout, 60)], State.reset.n e.1 = e.2) ∧
  (∀ i ∈ [0, 31], State.reset.n (byIdx O.nominalBitRate i) = 500 ∧ State.reset.n (byIdx O.canOptions i) = 2) ∧
  (∀ i ∈ [0, 15], State.reset.n (byIdx O.linBitRate i) = 19200 ∧ State.reset.n (byIdx O.uartBitRate i) = 115200 ∧ State.reset.n (byIdx O.announcementLevel i) = 3) ∧
  (∀ e ∈ [(O.presentationOffset, 2000000), (O.tamperPolicy, 1), (O.tamperSensorEnable, 0x7F), (O.powerState, 3), (O.lastWakeSource, 0xFFFF), (O.lockHolder, 0xFFFF), (O.confirmationWindow, 120),
    (O.hostEventFilter, 0x3E), (O.marchMode, 1), (O.violatingSlot, 0xFFFF), (O.migrationEnable, 1)], State.reset.n e.1 = e.2) ∧
  (∀ i ∈ [0, 8191], State.reset.n (byIdx O.latencyBound i) = 0xFFFFFFFF ∧ State.reset.slotState i = 0) ∧
  State.reset.staged = {} ∧ State.reset.held = [] ∧ State.reset.stored = {} ∧ State.reset.pending = [] ∧ State.reset.access.sessions = [] ∧ State.reset.plan.snapshot = none ∧ State.reset.lanes = [] ∧ State.reset.logs = [] ∧
  (∀ d a n, ramRead (State.reset.mailboxOf d) a n = List.replicate n 0 ∧ ramRead (State.reset.edgeRamOf d) a n = List.replicate n 0)
end

