-- ==== Sys2Proof/Laws/State.lean ====
section
/-! SUPPORT. One law per field per update: what each named update of the state leaves in each field. -/
namespace Sys2Proof.Machine

open Sys2Proof

/-! ### State.begin -/

@[simp] theorem State.begin_pending (t : Nat) (s : State) : (s.begin t).pending = s.pending := rfl
@[simp] theorem State.begin_freeCtr (t : Nat) (s : State) : (s.begin t).freeCtr = s.freeCtr := rfl
@[simp] theorem State.begin_now (t : Nat) (s : State) : (s.begin t).now = s.localAt t := rfl
@[simp] theorem State.begin_variant (t : Nat) (s : State) : (s.begin t).variant = s.variant := rfl
@[simp] theorem State.begin_out (t : Nat) (s : State) : (s.begin t).out = [] := rfl
@[simp] theorem State.begin_dict (t : Nat) (s : State) : (s.begin t).dict = s.dict := rfl
@[simp] theorem State.begin_staged (t : Nat) (s : State) : (s.begin t).staged = s.staged := rfl
@[simp] theorem State.begin_held (t : Nat) (s : State) : (s.begin t).held = s.held := rfl
@[simp] theorem State.begin_stored (t : Nat) (s : State) : (s.begin t).stored = s.stored := rfl
@[simp] theorem State.begin_access (t : Nat) (s : State) : (s.begin t).access = s.access := rfl
@[simp] theorem State.begin_logs (t : Nat) (s : State) : (s.begin t).logs = s.logs := rfl
@[simp] theorem State.begin_pkg (t : Nat) (s : State) : (s.begin t).pkg = s.pkg := rfl
@[simp] theorem State.begin_tick (t : Nat) (s : State) : (s.begin t).tick = s.tick := rfl
@[simp] theorem State.begin_plan (t : Nat) (s : State) : (s.begin t).plan = s.plan := rfl
@[simp] theorem State.begin_lanes (t : Nat) (s : State) : (s.begin t).lanes = s.lanes := rfl
@[simp] theorem State.begin_fwd (t : Nat) (s : State) : (s.begin t).fwd = s.fwd := rfl
@[simp] theorem State.begin_fw (t : Nat) (s : State) : (s.begin t).fw = s.fw := rfl
@[simp] theorem State.begin_bridge (t : Nat) (s : State) : (s.begin t).bridge = s.bridge := rfl
@[simp] theorem State.begin_mem (t : Nat) (s : State) : (s.begin t).mem = s.mem := rfl
@[simp] theorem State.begin_cairn (t : Nat) (s : State) : (s.begin t).cairn = s.cairn := rfl
@[simp] theorem State.begin_cipher (t : Nat) (s : State) : (s.begin t).cipher = s.cipher := rfl
@[simp] theorem State.begin_time (t : Nat) (s : State) : (s.begin t).time = s.time := rfl
@[simp] theorem State.begin_audio (t : Nat) (s : State) : (s.begin t).audio = s.audio := rfl
@[simp] theorem State.begin_edge (t : Nat) (s : State) : (s.begin t).edge = s.edge := rfl
@[simp] theorem State.begin_power (t : Nat) (s : State) : (s.begin t).power = s.power := rfl
@[simp] theorem State.begin_update (t : Nat) (s : State) : (s.begin t).update = s.update := rfl
@[simp] theorem State.begin_diag (t : Nat) (s : State) : (s.begin t).diag = s.diag := rfl

/-! ### State.emit -/

@[simp] theorem State.emit_pending (s : State) (o : Out) : (s.emit o).pending = s.pending := rfl
@[simp] theorem State.emit_freeCtr (s : State) (o : Out) : (s.emit o).freeCtr = s.freeCtr := rfl
@[simp] theorem State.emit_now (s : State) (o : Out) : (s.emit o).now = s.now := rfl
@[simp] theorem State.emit_variant (s : State) (o : Out) : (s.emit o).variant = s.variant := rfl
@[simp] theorem State.emit_out (s : State) (o : Out) : (s.emit o).out = s.out ++ [o] := rfl
@[simp] theorem State.emit_dict (s : State) (o : Out) : (s.emit o).dict = s.dict := rfl
@[simp] theorem State.emit_staged (s : State) (o : Out) : (s.emit o).staged = s.staged := rfl
@[simp] theorem State.emit_held (s : State) (o : Out) : (s.emit o).held = s.held := rfl
@[simp] theorem State.emit_stored (s : State) (o : Out) : (s.emit o).stored = s.stored := rfl
@[simp] theorem State.emit_access (s : State) (o : Out) : (s.emit o).access = s.access := rfl
@[simp] theorem State.emit_logs (s : State) (o : Out) : (s.emit o).logs = s.logs := rfl
@[simp] theorem State.emit_pkg (s : State) (o : Out) : (s.emit o).pkg = s.pkg := rfl
@[simp] theorem State.emit_tick (s : State) (o : Out) : (s.emit o).tick = s.tick := rfl
@[simp] theorem State.emit_plan (s : State) (o : Out) : (s.emit o).plan = s.plan := rfl
@[simp] theorem State.emit_lanes (s : State) (o : Out) : (s.emit o).lanes = s.lanes := rfl
@[simp] theorem State.emit_fwd (s : State) (o : Out) : (s.emit o).fwd = s.fwd := rfl
@[simp] theorem State.emit_fw (s : State) (o : Out) : (s.emit o).fw = s.fw := rfl
@[simp] theorem State.emit_bridge (s : State) (o : Out) : (s.emit o).bridge = s.bridge := rfl
@[simp] theorem State.emit_mem (s : State) (o : Out) : (s.emit o).mem = s.mem := rfl
@[simp] theorem State.emit_cairn (s : State) (o : Out) : (s.emit o).cairn = s.cairn := rfl
@[simp] theorem State.emit_cipher (s : State) (o : Out) : (s.emit o).cipher = s.cipher := rfl
@[simp] theorem State.emit_time (s : State) (o : Out) : (s.emit o).time = s.time := rfl
@[simp] theorem State.emit_audio (s : State) (o : Out) : (s.emit o).audio = s.audio := rfl
@[simp] theorem State.emit_edge (s : State) (o : Out) : (s.emit o).edge = s.edge := rfl
@[simp] theorem State.emit_power (s : State) (o : Out) : (s.emit o).power = s.power := rfl
@[simp] theorem State.emit_update (s : State) (o : Out) : (s.emit o).update = s.update := rfl
@[simp] theorem State.emit_diag (s : State) (o : Out) : (s.emit o).diag = s.diag := rfl

/-! ### State.drawn -/

@[simp] theorem State.drawn_pending (s : State) : (s.drawn).pending = s.pending := rfl
@[simp] theorem State.drawn_freeCtr (s : State) : (s.drawn).freeCtr = s.freeCtr + 1 := rfl
@[simp] theorem State.drawn_now (s : State) : (s.drawn).now = s.now := rfl
@[simp] theorem State.drawn_variant (s : State) : (s.drawn).variant = s.variant := rfl
@[simp] theorem State.drawn_out (s : State) : (s.drawn).out = s.out := rfl
@[simp] theorem State.drawn_dict (s : State) : (s.drawn).dict = s.dict := rfl
@[simp] theorem State.drawn_staged (s : State) : (s.drawn).staged = s.staged := rfl
@[simp] theorem State.drawn_held (s : State) : (s.drawn).held = s.held := rfl
@[simp] theorem State.drawn_stored (s : State) : (s.drawn).stored = s.stored := rfl
@[simp] theorem State.drawn_access (s : State) : (s.drawn).access = s.access := rfl
@[simp] theorem State.drawn_logs (s : State) : (s.drawn).logs = s.logs := rfl
@[simp] theorem State.drawn_pkg (s : State) : (s.drawn).pkg = s.pkg := rfl
@[simp] theorem State.drawn_tick (s : State) : (s.drawn).tick = s.tick := rfl
@[simp] theorem State.drawn_plan (s : State) : (s.drawn).plan = s.plan := rfl
@[simp] theorem State.drawn_lanes (s : State) : (s.drawn).lanes = s.lanes := rfl
@[simp] theorem State.drawn_fwd (s : State) : (s.drawn).fwd = s.fwd := rfl
@[simp] theorem State.drawn_fw (s : State) : (s.drawn).fw = s.fw := rfl
@[simp] theorem State.drawn_bridge (s : State) : (s.drawn).bridge = s.bridge := rfl
@[simp] theorem State.drawn_mem (s : State) : (s.drawn).mem = s.mem := rfl
@[simp] theorem State.drawn_cairn (s : State) : (s.drawn).cairn = s.cairn := rfl
@[simp] theorem State.drawn_cipher (s : State) : (s.drawn).cipher = s.cipher := rfl
@[simp] theorem State.drawn_time (s : State) : (s.drawn).time = s.time := rfl
@[simp] theorem State.drawn_audio (s : State) : (s.drawn).audio = s.audio := rfl
@[simp] theorem State.drawn_edge (s : State) : (s.drawn).edge = s.edge := rfl
@[simp] theorem State.drawn_power (s : State) : (s.drawn).power = s.power := rfl
@[simp] theorem State.drawn_update (s : State) : (s.drawn).update = s.update := rfl
@[simp] theorem State.drawn_diag (s : State) : (s.drawn).diag = s.diag := rfl

/-! ### State.traffic -/

@[simp] theorem State.traffic_pending (s : State) : (s.traffic).pending = s.pending := rfl
@[simp] theorem State.traffic_freeCtr (s : State) : (s.traffic).freeCtr = s.freeCtr := rfl
@[simp] theorem State.traffic_now (s : State) : (s.traffic).now = s.now := rfl
@[simp] theorem State.traffic_variant (s : State) : (s.traffic).variant = s.variant := rfl
@[simp] theorem State.traffic_out (s : State) : (s.traffic).out = s.out := rfl
@[simp] theorem State.traffic_dict (s : State) : (s.traffic).dict = s.dict := rfl
@[simp] theorem State.traffic_staged (s : State) : (s.traffic).staged = s.staged := rfl
@[simp] theorem State.traffic_held (s : State) : (s.traffic).held = s.held := rfl
@[simp] theorem State.traffic_stored (s : State) : (s.traffic).stored = s.stored := rfl
@[simp] theorem State.traffic_access (s : State) : (s.traffic).access = s.access := rfl
@[simp] theorem State.traffic_logs (s : State) : (s.traffic).logs = s.logs := rfl
@[simp] theorem State.traffic_pkg (s : State) : (s.traffic).pkg = s.pkg := rfl
@[simp] theorem State.traffic_tick (s : State) : (s.traffic).tick = s.tick := rfl
@[simp] theorem State.traffic_plan (s : State) : (s.traffic).plan = s.plan := rfl
@[simp] theorem State.traffic_lanes (s : State) : (s.traffic).lanes = s.lanes := rfl
@[simp] theorem State.traffic_fwd (s : State) : (s.traffic).fwd = s.fwd := rfl
@[simp] theorem State.traffic_fw (s : State) : (s.traffic).fw = s.fw := rfl
@[simp] theorem State.traffic_bridge (s : State) : (s.traffic).bridge = s.bridge := rfl
@[simp] theorem State.traffic_mem (s : State) : (s.traffic).mem = s.mem := rfl
@[simp] theorem State.traffic_cairn (s : State) : (s.traffic).cairn = s.cairn := rfl
@[simp] theorem State.traffic_cipher (s : State) : (s.traffic).cipher = s.cipher := rfl
@[simp] theorem State.traffic_time (s : State) : (s.traffic).time = s.time := rfl
@[simp] theorem State.traffic_audio (s : State) : (s.traffic).audio = s.audio := rfl
@[simp] theorem State.traffic_edge (s : State) : (s.traffic).edge = s.edge := rfl
@[simp] theorem State.traffic_update (s : State) : (s.traffic).update = s.update := rfl
@[simp] theorem State.traffic_diag (s : State) : (s.traffic).diag = s.diag := rfl

/-! ### State.setO -/

@[simp] theorem State.setO_pending (s : State) (k : Nat) (v : Int) : (s.setO k v).pending = s.pending := rfl
@[simp] theorem State.setO_freeCtr (s : State) (k : Nat) (v : Int) : (s.setO k v).freeCtr = s.freeCtr := rfl
@[simp] theorem State.setO_now (s : State) (k : Nat) (v : Int) : (s.setO k v).now = s.now := rfl
@[simp] theorem State.setO_variant (s : State) (k : Nat) (v : Int) : (s.setO k v).variant = s.variant := rfl
@[simp] theorem State.setO_out (s : State) (k : Nat) (v : Int) : (s.setO k v).out = s.out := rfl
@[simp] theorem State.setO_dict (s : State) (k : Nat) (v : Int) : (s.setO k v).dict = { s.dict with objs := ins s.dict.objs k v } := rfl
@[simp] theorem State.setO_staged (s : State) (k : Nat) (v : Int) : (s.setO k v).staged = s.staged := rfl
@[simp] theorem State.setO_held (s : State) (k : Nat) (v : Int) : (s.setO k v).held = s.held := rfl
@[simp] theorem State.setO_stored (s : State) (k : Nat) (v : Int) : (s.setO k v).stored = s.stored := rfl
@[simp] theorem State.setO_access (s : State) (k : Nat) (v : Int) : (s.setO k v).access = s.access := rfl
@[simp] theorem State.setO_logs (s : State) (k : Nat) (v : Int) : (s.setO k v).logs = s.logs := rfl
@[simp] theorem State.setO_pkg (s : State) (k : Nat) (v : Int) : (s.setO k v).pkg = s.pkg := rfl
@[simp] theorem State.setO_tick (s : State) (k : Nat) (v : Int) : (s.setO k v).tick = s.tick := rfl
@[simp] theorem State.setO_plan (s : State) (k : Nat) (v : Int) : (s.setO k v).plan = s.plan := rfl
@[simp] theorem State.setO_lanes (s : State) (k : Nat) (v : Int) : (s.setO k v).lanes = s.lanes := rfl
@[simp] theorem State.setO_fwd (s : State) (k : Nat) (v : Int) : (s.setO k v).fwd = s.fwd := rfl
@[simp] theorem State.setO_fw (s : State) (k : Nat) (v : Int) : (s.setO k v).fw = s.fw := rfl
@[simp] theorem State.setO_bridge (s : State) (k : Nat) (v : Int) : (s.setO k v).bridge = s.bridge := rfl
@[simp] theorem State.setO_mem (s : State) (k : Nat) (v : Int) : (s.setO k v).mem = s.mem := rfl
@[simp] theorem State.setO_cairn (s : State) (k : Nat) (v : Int) : (s.setO k v).cairn = s.cairn := rfl
@[simp] theorem State.setO_cipher (s : State) (k : Nat) (v : Int) : (s.setO k v).cipher = s.cipher := rfl
@[simp] theorem State.setO_time (s : State) (k : Nat) (v : Int) : (s.setO k v).time = s.time := rfl
@[simp] theorem State.setO_audio (s : State) (k : Nat) (v : Int) : (s.setO k v).audio = s.audio := rfl
@[simp] theorem State.setO_edge (s : State) (k : Nat) (v : Int) : (s.setO k v).edge = s.edge := rfl
@[simp] theorem State.setO_power (s : State) (k : Nat) (v : Int) : (s.setO k v).power = s.power := rfl
@[simp] theorem State.setO_update (s : State) (k : Nat) (v : Int) : (s.setO k v).update = s.update := rfl
@[simp] theorem State.setO_diag (s : State) (k : Nat) (v : Int) : (s.setO k v).diag = s.diag := rfl

/-! ### State.setN -/

@[simp] theorem State.setN_pending (s : State) (k v : Nat) : (s.setN k v).pending = s.pending := rfl
@[simp] theorem State.setN_freeCtr (s : State) (k v : Nat) : (s.setN k v).freeCtr = s.freeCtr := rfl
@[simp] theorem State.setN_now (s : State) (k v : Nat) : (s.setN k v).now = s.now := rfl
@[simp] theorem State.setN_variant (s : State) (k v : Nat) : (s.setN k v).variant = s.variant := rfl
@[simp] theorem State.setN_out (s : State) (k v : Nat) : (s.setN k v).out = s.out := rfl
@[simp] theorem State.setN_dict (s : State) (k v : Nat) : (s.setN k v).dict = { s.dict with objs := ins s.dict.objs k ((v : Nat) : Int) } := rfl
@[simp] theorem State.setN_staged (s : State) (k v : Nat) : (s.setN k v).staged = s.staged := rfl
@[simp] theorem State.setN_held (s : State) (k v : Nat) : (s.setN k v).held = s.held := rfl
@[simp] theorem State.setN_stored (s : State) (k v : Nat) : (s.setN k v).stored = s.stored := rfl
@[simp] theorem State.setN_access (s : State) (k v : Nat) : (s.setN k v).access = s.access := rfl
@[simp] theorem State.setN_logs (s : State) (k v : Nat) : (s.setN k v).logs = s.logs := rfl
@[simp] theorem State.setN_pkg (s : State) (k v : Nat) : (s.setN k v).pkg = s.pkg := rfl
@[simp] theorem State.setN_tick (s : State) (k v : Nat) : (s.setN k v).tick = s.tick := rfl
@[simp] theorem State.setN_plan (s : State) (k v : Nat) : (s.setN k v).plan = s.plan := rfl
@[simp] theorem State.setN_lanes (s : State) (k v : Nat) : (s.setN k v).lanes = s.lanes := rfl
@[simp] theorem State.setN_fwd (s : State) (k v : Nat) : (s.setN k v).fwd = s.fwd := rfl
@[simp] theorem State.setN_fw (s : State) (k v : Nat) : (s.setN k v).fw = s.fw := rfl
@[simp] theorem State.setN_bridge (s : State) (k v : Nat) : (s.setN k v).bridge = s.bridge := rfl
@[simp] theorem State.setN_mem (s : State) (k v : Nat) : (s.setN k v).mem = s.mem := rfl
@[simp] theorem State.setN_cairn (s : State) (k v : Nat) : (s.setN k v).cairn = s.cairn := rfl
@[simp] theorem State.setN_cipher (s : State) (k v : Nat) : (s.setN k v).cipher = s.cipher := rfl
@[simp] theorem State.setN_time (s : State) (k v : Nat) : (s.setN k v).time = s.time := rfl
@[simp] theorem State.setN_audio (s : State) (k v : Nat) : (s.setN k v).audio = s.audio := rfl
@[simp] theorem State.setN_edge (s : State) (k v : Nat) : (s.setN k v).edge = s.edge := rfl
@[simp] theorem State.setN_power (s : State) (k v : Nat) : (s.setN k v).power = s.power := rfl
@[simp] theorem State.setN_update (s : State) (k v : Nat) : (s.setN k v).update = s.update := rfl
@[simp] theorem State.setN_diag (s : State) (k v : Nat) : (s.setN k v).diag = s.diag := rfl

/-! ### State.setBlob -/

@[simp] theorem State.setBlob_pending (s : State) (k : Nat) (b : Bytes) : (s.setBlob k b).pending = s.pending := rfl
@[simp] theorem State.setBlob_freeCtr (s : State) (k : Nat) (b : Bytes) : (s.setBlob k b).freeCtr = s.freeCtr := rfl
@[simp] theorem State.setBlob_now (s : State) (k : Nat) (b : Bytes) : (s.setBlob k b).now = s.now := rfl
@[simp] theorem State.setBlob_variant (s : State) (k : Nat) (b : Bytes) : (s.setBlob k b).variant = s.variant := rfl
@[simp] theorem State.setBlob_out (s : State) (k : Nat) (b : Bytes) : (s.setBlob k b).out = s.out := rfl
@[simp] theorem State.setBlob_dict (s : State) (k : Nat) (b : Bytes) : (s.setBlob k b).dict = { s.dict with blobs := ins s.dict.blobs k b } := rfl
@[simp] theorem State.setBlob_staged (s : State) (k : Nat) (b : Bytes) : (s.setBlob k b).staged = s.staged := rfl
@[simp] theorem State.setBlob_held (s : State) (k : Nat) (b : Bytes) : (s.setBlob k b).held = s.held := rfl
@[simp] theorem State.setBlob_stored (s : State) (k : Nat) (b : Bytes) : (s.setBlob k b).stored = s.stored := rfl
@[simp] theorem State.setBlob_access (s : State) (k : Nat) (b : Bytes) : (s.setBlob k b).access = s.access := rfl
@[simp] theorem State.setBlob_logs (s : State) (k : Nat) (b : Bytes) : (s.setBlob k b).logs = s.logs := rfl
@[simp] theorem State.setBlob_pkg (s : State) (k : Nat) (b : Bytes) : (s.setBlob k b).pkg = s.pkg := rfl
@[simp] theorem State.setBlob_tick (s : State) (k : Nat) (b : Bytes) : (s.setBlob k b).tick = s.tick := rfl
@[simp] theorem State.setBlob_plan (s : State) (k : Nat) (b : Bytes) : (s.setBlob k b).plan = s.plan := rfl
@[simp] theorem State.setBlob_lanes (s : State) (k : Nat) (b : Bytes) : (s.setBlob k b).lanes = s.lanes := rfl
@[simp] theorem State.setBlob_fwd (s : State) (k : Nat) (b : Bytes) : (s.setBlob k b).fwd = s.fwd := rfl
@[simp] theorem State.setBlob_fw (s : State) (k : Nat) (b : Bytes) : (s.setBlob k b).fw = s.fw := rfl
@[simp] theorem State.setBlob_bridge (s : State) (k : Nat) (b : Bytes) : (s.setBlob k b).bridge = s.bridge := rfl
@[simp] theorem State.setBlob_mem (s : State) (k : Nat) (b : Bytes) : (s.setBlob k b).mem = s.mem := rfl
@[simp] theorem State.setBlob_cairn (s : State) (k : Nat) (b : Bytes) : (s.setBlob k b).cairn = s.cairn := rfl
@[simp] theorem State.setBlob_cipher (s : State) (k : Nat) (b : Bytes) : (s.setBlob k b).cipher = s.cipher := rfl
@[simp] theorem State.setBlob_time (s : State) (k : Nat) (b : Bytes) : (s.setBlob k b).time = s.time := rfl
@[simp] theorem State.setBlob_audio (s : State) (k : Nat) (b : Bytes) : (s.setBlob k b).audio = s.audio := rfl
@[simp] theorem State.setBlob_edge (s : State) (k : Nat) (b : Bytes) : (s.setBlob k b).edge = s.edge := rfl
@[simp] theorem State.setBlob_power (s : State) (k : Nat) (b : Bytes) : (s.setBlob k b).power = s.power := rfl
@[simp] theorem State.setBlob_update (s : State) (k : Nat) (b : Bytes) : (s.setBlob k b).update = s.update := rfl
@[simp] theorem State.setBlob_diag (s : State) (k : Nat) (b : Bytes) : (s.setBlob k b).diag = s.diag := rfl

/-! ### State.updLane -/

@[simp] theorem State.updLane_pending (s : State) (n : Nat) (f : LaneSt → LaneSt) : (s.updLane n f).pending = s.pending := rfl
@[simp] theorem State.updLane_freeCtr (s : State) (n : Nat) (f : LaneSt → LaneSt) : (s.updLane n f).freeCtr = s.freeCtr := rfl
@[simp] theorem State.updLane_now (s : State) (n : Nat) (f : LaneSt → LaneSt) : (s.updLane n f).now = s.now := rfl
@[simp] theorem State.updLane_variant (s : State) (n : Nat) (f : LaneSt → LaneSt) : (s.updLane n f).variant = s.variant := rfl
@[simp] theorem State.updLane_out (s : State) (n : Nat) (f : LaneSt → LaneSt) : (s.updLane n f).out = s.out := rfl
@[simp] theorem State.updLane_dict (s : State) (n : Nat) (f : LaneSt → LaneSt) : (s.updLane n f).dict = s.dict := rfl
@[simp] theorem State.updLane_staged (s : State) (n : Nat) (f : LaneSt → LaneSt) : (s.updLane n f).staged = s.staged := rfl
@[simp] theorem State.updLane_held (s : State) (n : Nat) (f : LaneSt → LaneSt) : (s.updLane n f).held = s.held := rfl
@[simp] theorem State.updLane_stored (s : State) (n : Nat) (f : LaneSt → LaneSt) : (s.updLane n f).stored = s.stored := rfl
@[simp] theorem State.updLane_access (s : State) (n : Nat) (f : LaneSt → LaneSt) : (s.updLane n f).access = s.access := rfl
@[simp] theorem State.updLane_logs (s : State) (n : Nat) (f : LaneSt → LaneSt) : (s.updLane n f).logs = s.logs := rfl
@[simp] theorem State.updLane_pkg (s : State) (n : Nat) (f : LaneSt → LaneSt) : (s.updLane n f).pkg = s.pkg := rfl
@[simp] theorem State.updLane_tick (s : State) (n : Nat) (f : LaneSt → LaneSt) : (s.updLane n f).tick = s.tick := rfl
@[simp] theorem State.updLane_plan (s : State) (n : Nat) (f : LaneSt → LaneSt) : (s.updLane n f).plan = s.plan := rfl
@[simp] theorem State.updLane_lanes (s : State) (n : Nat) (f : LaneSt → LaneSt) : (s.updLane n f).lanes = upd {} s.lanes n f := rfl
@[simp] theorem State.updLane_fwd (s : State) (n : Nat) (f : LaneSt → LaneSt) : (s.updLane n f).fwd = s.fwd := rfl
@[simp] theorem State.updLane_fw (s : State) (n : Nat) (f : LaneSt → LaneSt) : (s.updLane n f).fw = s.fw := rfl
@[simp] theorem State.updLane_bridge (s : State) (n : Nat) (f : LaneSt → LaneSt) : (s.updLane n f).bridge = s.bridge := rfl
@[simp] theorem State.updLane_mem (s : State) (n : Nat) (f : LaneSt → LaneSt) : (s.updLane n f).mem = s.mem := rfl
@[simp] theorem State.updLane_cairn (s : State) (n : Nat) (f : LaneSt → LaneSt) : (s.updLane n f).cairn = s.cairn := rfl
@[simp] theorem State.updLane_cipher (s : State) (n : Nat) (f : LaneSt → LaneSt) : (s.updLane n f).cipher = s.cipher := rfl
@[simp] theorem State.updLane_time (s : State) (n : Nat) (f : LaneSt → LaneSt) : (s.updLane n f).time = s.time := rfl
@[simp] theorem State.updLane_audio (s : State) (n : Nat) (f : LaneSt → LaneSt) : (s.updLane n f).audio = s.audio := rfl
@[simp] theorem State.updLane_edge (s : State) (n : Nat) (f : LaneSt → LaneSt) : (s.updLane n f).edge = s.edge := rfl
@[simp] theorem State.updLane_power (s : State) (n : Nat) (f : LaneSt → LaneSt) : (s.updLane n f).power = s.power := rfl
@[simp] theorem State.updLane_update (s : State) (n : Nat) (f : LaneSt → LaneSt) : (s.updLane n f).update = s.update := rfl
@[simp] theorem State.updLane_diag (s : State) (n : Nat) (f : LaneSt → LaneSt) : (s.updLane n f).diag = s.diag := rfl

/-! ### State.addTo -/

@[simp] theorem State.addTo_pending (s : State) (k n hi : Nat) : (s.addTo k n hi).pending = s.pending := rfl
@[simp] theorem State.addTo_freeCtr (s : State) (k n hi : Nat) : (s.addTo k n hi).freeCtr = s.freeCtr := rfl
@[simp] theorem State.addTo_now (s : State) (k n hi : Nat) : (s.addTo k n hi).now = s.now := rfl
@[simp] theorem State.addTo_variant (s : State) (k n hi : Nat) : (s.addTo k n hi).variant = s.variant := rfl
@[simp] theorem State.addTo_out (s : State) (k n hi : Nat) : (s.addTo k n hi).out = s.out := rfl
@[simp] theorem State.addTo_staged (s : State) (k n hi : Nat) : (s.addTo k n hi).staged = s.staged := rfl
@[simp] theorem State.addTo_held (s : State) (k n hi : Nat) : (s.addTo k n hi).held = s.held := rfl
@[simp] theorem State.addTo_stored (s : State) (k n hi : Nat) : (s.addTo k n hi).stored = s.stored := rfl
@[simp] theorem State.addTo_access (s : State) (k n hi : Nat) : (s.addTo k n hi).access = s.access := rfl
@[simp] theorem State.addTo_logs (s : State) (k n hi : Nat) : (s.addTo k n hi).logs = s.logs := rfl
@[simp] theorem State.addTo_pkg (s : State) (k n hi : Nat) : (s.addTo k n hi).pkg = s.pkg := rfl
@[simp] theorem State.addTo_tick (s : State) (k n hi : Nat) : (s.addTo k n hi).tick = s.tick := rfl
@[simp] theorem State.addTo_plan (s : State) (k n hi : Nat) : (s.addTo k n hi).plan = s.plan := rfl
@[simp] theorem State.addTo_lanes (s : State) (k n hi : Nat) : (s.addTo k n hi).lanes = s.lanes := rfl
@[simp] theorem State.addTo_fwd (s : State) (k n hi : Nat) : (s.addTo k n hi).fwd = s.fwd := rfl
@[simp] theorem State.addTo_fw (s : State) (k n hi : Nat) : (s.addTo k n hi).fw = s.fw := rfl
@[simp] theorem State.addTo_bridge (s : State) (k n hi : Nat) : (s.addTo k n hi).bridge = s.bridge := rfl
@[simp] theorem State.addTo_mem (s : State) (k n hi : Nat) : (s.addTo k n hi).mem = s.mem := rfl
@[simp] theorem State.addTo_cairn (s : State) (k n hi : Nat) : (s.addTo k n hi).cairn = s.cairn := rfl
@[simp] theorem State.addTo_cipher (s : State) (k n hi : Nat) : (s.addTo k n hi).cipher = s.cipher := rfl
@[simp] theorem State.addTo_time (s : State) (k n hi : Nat) : (s.addTo k n hi).time = s.time := rfl
@[simp] theorem State.addTo_audio (s : State) (k n hi : Nat) : (s.addTo k n hi).audio = s.audio := rfl
@[simp] theorem State.addTo_edge (s : State) (k n hi : Nat) : (s.addTo k n hi).edge = s.edge := rfl
@[simp] theorem State.addTo_power (s : State) (k n hi : Nat) : (s.addTo k n hi).power = s.power := rfl
@[simp] theorem State.addTo_update (s : State) (k n hi : Nat) : (s.addTo k n hi).update = s.update := rfl
@[simp] theorem State.addTo_diag (s : State) (k n hi : Nat) : (s.addTo k n hi).diag = s.diag := rfl

/-! ### State.inc32 -/

@[simp] theorem State.inc32_pending (s : State) (k : Nat) : (s.inc32 k).pending = s.pending := rfl
@[simp] theorem State.inc32_freeCtr (s : State) (k : Nat) : (s.inc32 k).freeCtr = s.freeCtr := rfl
@[simp] theorem State.inc32_now (s : State) (k : Nat) : (s.inc32 k).now = s.now := rfl
@[simp] theorem State.inc32_variant (s : State) (k : Nat) : (s.inc32 k).variant = s.variant := rfl
@[simp] theorem State.inc32_out (s : State) (k : Nat) : (s.inc32 k).out = s.out := rfl
@[simp] theorem State.inc32_staged (s : State) (k : Nat) : (s.inc32 k).staged = s.staged := rfl
@[simp] theorem State.inc32_held (s : State) (k : Nat) : (s.inc32 k).held = s.held := rfl
@[simp] theorem State.inc32_stored (s : State) (k : Nat) : (s.inc32 k).stored = s.stored := rfl
@[simp] theorem State.inc32_access (s : State) (k : Nat) : (s.inc32 k).access = s.access := rfl
@[simp] theorem State.inc32_logs (s : State) (k : Nat) : (s.inc32 k).logs = s.logs := rfl
@[simp] theorem State.inc32_pkg (s : State) (k : Nat) : (s.inc32 k).pkg = s.pkg := rfl
@[simp] theorem State.inc32_tick (s : State) (k : Nat) : (s.inc32 k).tick = s.tick := rfl
@[simp] theorem State.inc32_plan (s : State) (k : Nat) : (s.inc32 k).plan = s.plan := rfl
@[simp] theorem State.inc32_lanes (s : State) (k : Nat) : (s.inc32 k).lanes = s.lanes := rfl
@[simp] theorem State.inc32_fwd (s : State) (k : Nat) : (s.inc32 k).fwd = s.fwd := rfl
@[simp] theorem State.inc32_fw (s : State) (k : Nat) : (s.inc32 k).fw = s.fw := rfl
@[simp] theorem State.inc32_bridge (s : State) (k : Nat) : (s.inc32 k).bridge = s.bridge := rfl
@[simp] theorem State.inc32_mem (s : State) (k : Nat) : (s.inc32 k).mem = s.mem := rfl
@[simp] theorem State.inc32_cairn (s : State) (k : Nat) : (s.inc32 k).cairn = s.cairn := rfl
@[simp] theorem State.inc32_cipher (s : State) (k : Nat) : (s.inc32 k).cipher = s.cipher := rfl
@[simp] theorem State.inc32_time (s : State) (k : Nat) : (s.inc32 k).time = s.time := rfl
@[simp] theorem State.inc32_audio (s : State) (k : Nat) : (s.inc32 k).audio = s.audio := rfl
@[simp] theorem State.inc32_edge (s : State) (k : Nat) : (s.inc32 k).edge = s.edge := rfl
@[simp] theorem State.inc32_power (s : State) (k : Nat) : (s.inc32 k).power = s.power := rfl
@[simp] theorem State.inc32_update (s : State) (k : Nat) : (s.inc32 k).update = s.update := rfl
@[simp] theorem State.inc32_diag (s : State) (k : Nat) : (s.inc32 k).diag = s.diag := rfl

/-! ### State.inc64 -/

@[simp] theorem State.inc64_pending (s : State) (k : Nat) : (s.inc64 k).pending = s.pending := rfl
@[simp] theorem State.inc64_freeCtr (s : State) (k : Nat) : (s.inc64 k).freeCtr = s.freeCtr := rfl
@[simp] theorem State.inc64_now (s : State) (k : Nat) : (s.inc64 k).now = s.now := rfl
@[simp] theorem State.inc64_variant (s : State) (k : Nat) : (s.inc64 k).variant = s.variant := rfl
@[simp] theorem State.inc64_out (s : State) (k : Nat) : (s.inc64 k).out = s.out := rfl
@[simp] theorem State.inc64_staged (s : State) (k : Nat) : (s.inc64 k).staged = s.staged := rfl
@[simp] theorem State.inc64_held (s : State) (k : Nat) : (s.inc64 k).held = s.held := rfl
@[simp] theorem State.inc64_stored (s : State) (k : Nat) : (s.inc64 k).stored = s.stored := rfl
@[simp] theorem State.inc64_access (s : State) (k : Nat) : (s.inc64 k).access = s.access := rfl
@[simp] theorem State.inc64_logs (s : State) (k : Nat) : (s.inc64 k).logs = s.logs := rfl
@[simp] theorem State.inc64_pkg (s : State) (k : Nat) : (s.inc64 k).pkg = s.pkg := rfl
@[simp] theorem State.inc64_tick (s : State) (k : Nat) : (s.inc64 k).tick = s.tick := rfl
@[simp] theorem State.inc64_plan (s : State) (k : Nat) : (s.inc64 k).plan = s.plan := rfl
@[simp] theorem State.inc64_lanes (s : State) (k : Nat) : (s.inc64 k).lanes = s.lanes := rfl
@[simp] theorem State.inc64_fwd (s : State) (k : Nat) : (s.inc64 k).fwd = s.fwd := rfl
@[simp] theorem State.inc64_fw (s : State) (k : Nat) : (s.inc64 k).fw = s.fw := rfl
@[simp] theorem State.inc64_bridge (s : State) (k : Nat) : (s.inc64 k).bridge = s.bridge := rfl
@[simp] theorem State.inc64_mem (s : State) (k : Nat) : (s.inc64 k).mem = s.mem := rfl
@[simp] theorem State.inc64_cairn (s : State) (k : Nat) : (s.inc64 k).cairn = s.cairn := rfl
@[simp] theorem State.inc64_cipher (s : State) (k : Nat) : (s.inc64 k).cipher = s.cipher := rfl
@[simp] theorem State.inc64_time (s : State) (k : Nat) : (s.inc64 k).time = s.time := rfl
@[simp] theorem State.inc64_audio (s : State) (k : Nat) : (s.inc64 k).audio = s.audio := rfl
@[simp] theorem State.inc64_edge (s : State) (k : Nat) : (s.inc64 k).edge = s.edge := rfl
@[simp] theorem State.inc64_power (s : State) (k : Nat) : (s.inc64 k).power = s.power := rfl
@[simp] theorem State.inc64_update (s : State) (k : Nat) : (s.inc64 k).update = s.update := rfl
@[simp] theorem State.inc64_diag (s : State) (k : Nat) : (s.inc64 k).diag = s.diag := rfl

/-! ### State.setFlag -/

@[simp] theorem State.setFlag_pending (s : State) (k i : Nat) (b : Bool) : (s.setFlag k i b).pending = s.pending := rfl
@[simp] theorem State.setFlag_freeCtr (s : State) (k i : Nat) (b : Bool) : (s.setFlag k i b).freeCtr = s.freeCtr := rfl
@[simp] theorem State.setFlag_now (s : State) (k i : Nat) (b : Bool) : (s.setFlag k i b).now = s.now := rfl
@[simp] theorem State.setFlag_variant (s : State) (k i : Nat) (b : Bool) : (s.setFlag k i b).variant = s.variant := rfl
@[simp] theorem State.setFlag_out (s : State) (k i : Nat) (b : Bool) : (s.setFlag k i b).out = s.out := rfl
@[simp] theorem State.setFlag_staged (s : State) (k i : Nat) (b : Bool) : (s.setFlag k i b).staged = s.staged := rfl
@[simp] theorem State.setFlag_held (s : State) (k i : Nat) (b : Bool) : (s.setFlag k i b).held = s.held := rfl
@[simp] theorem State.setFlag_stored (s : State) (k i : Nat) (b : Bool) : (s.setFlag k i b).stored = s.stored := rfl
@[simp] theorem State.setFlag_access (s : State) (k i : Nat) (b : Bool) : (s.setFlag k i b).access = s.access := rfl
@[simp] theorem State.setFlag_logs (s : State) (k i : Nat) (b : Bool) : (s.setFlag k i b).logs = s.logs := rfl
@[simp] theorem State.setFlag_pkg (s : State) (k i : Nat) (b : Bool) : (s.setFlag k i b).pkg = s.pkg := rfl
@[simp] theorem State.setFlag_tick (s : State) (k i : Nat) (b : Bool) : (s.setFlag k i b).tick = s.tick := rfl
@[simp] theorem State.setFlag_plan (s : State) (k i : Nat) (b : Bool) : (s.setFlag k i b).plan = s.plan := rfl
@[simp] theorem State.setFlag_lanes (s : State) (k i : Nat) (b : Bool) : (s.setFlag k i b).lanes = s.lanes := rfl
@[simp] theorem State.setFlag_fwd (s : State) (k i : Nat) (b : Bool) : (s.setFlag k i b).fwd = s.fwd := rfl
@[simp] theorem State.setFlag_fw (s : State) (k i : Nat) (b : Bool) : (s.setFlag k i b).fw = s.fw := rfl
@[simp] theorem State.setFlag_bridge (s : State) (k i : Nat) (b : Bool) : (s.setFlag k i b).bridge = s.bridge := rfl
@[simp] theorem State.setFlag_mem (s : State) (k i : Nat) (b : Bool) : (s.setFlag k i b).mem = s.mem := rfl
@[simp] theorem State.setFlag_cairn (s : State) (k i : Nat) (b : Bool) : (s.setFlag k i b).cairn = s.cairn := rfl
@[simp] theorem State.setFlag_cipher (s : State) (k i : Nat) (b : Bool) : (s.setFlag k i b).cipher = s.cipher := rfl
@[simp] theorem State.setFlag_time (s : State) (k i : Nat) (b : Bool) : (s.setFlag k i b).time = s.time := rfl
@[simp] theorem State.setFlag_audio (s : State) (k i : Nat) (b : Bool) : (s.setFlag k i b).audio = s.audio := rfl
@[simp] theorem State.setFlag_edge (s : State) (k i : Nat) (b : Bool) : (s.setFlag k i b).edge = s.edge := rfl
@[simp] theorem State.setFlag_power (s : State) (k i : Nat) (b : Bool) : (s.setFlag k i b).power = s.power := rfl
@[simp] theorem State.setFlag_update (s : State) (k i : Nat) (b : Bool) : (s.setFlag k i b).update = s.update := rfl
@[simp] theorem State.setFlag_diag (s : State) (k i : Nat) (b : Bool) : (s.setFlag k i b).diag = s.diag := rfl

/-! ### State.holdT -/

@[simp] theorem State.holdT_pending (s : State) (k : Nat) (v : Val) : (s.holdT k v).pending = s.pending := rfl
@[simp] theorem State.holdT_freeCtr (s : State) (k : Nat) (v : Val) : (s.holdT k v).freeCtr = s.freeCtr := rfl
@[simp] theorem State.holdT_now (s : State) (k : Nat) (v : Val) : (s.holdT k v).now = s.now := rfl
@[simp] theorem State.holdT_variant (s : State) (k : Nat) (v : Val) : (s.holdT k v).variant = s.variant := rfl
@[simp] theorem State.holdT_out (s : State) (k : Nat) (v : Val) : (s.holdT k v).out = s.out := rfl
@[simp] theorem State.holdT_dict (s : State) (k : Nat) (v : Val) : (s.holdT k v).dict = s.dict := rfl
@[simp] theorem State.holdT_staged (s : State) (k : Nat) (v : Val) : (s.holdT k v).staged = s.staged := rfl
@[simp] theorem State.holdT_stored (s : State) (k : Nat) (v : Val) : (s.holdT k v).stored = s.stored := rfl
@[simp] theorem State.holdT_access (s : State) (k : Nat) (v : Val) : (s.holdT k v).access = s.access := rfl
@[simp] theorem State.holdT_logs (s : State) (k : Nat) (v : Val) : (s.holdT k v).logs = s.logs := rfl
@[simp] theorem State.holdT_pkg (s : State) (k : Nat) (v : Val) : (s.holdT k v).pkg = s.pkg := rfl
@[simp] theorem State.holdT_tick (s : State) (k : Nat) (v : Val) : (s.holdT k v).tick = s.tick := rfl
@[simp] theorem State.holdT_plan (s : State) (k : Nat) (v : Val) : (s.holdT k v).plan = s.plan := rfl
@[simp] theorem State.holdT_lanes (s : State) (k : Nat) (v : Val) : (s.holdT k v).lanes = s.lanes := rfl
@[simp] theorem State.holdT_fwd (s : State) (k : Nat) (v : Val) : (s.holdT k v).fwd = s.fwd := rfl
@[simp] theorem State.holdT_fw (s : State) (k : Nat) (v : Val) : (s.holdT k v).fw = s.fw := rfl
@[simp] theorem State.holdT_bridge (s : State) (k : Nat) (v : Val) : (s.holdT k v).bridge = s.bridge := rfl
@[simp] theorem State.holdT_mem (s : State) (k : Nat) (v : Val) : (s.holdT k v).mem = s.mem := rfl
@[simp] theorem State.holdT_cairn (s : State) (k : Nat) (v : Val) : (s.holdT k v).cairn = s.cairn := rfl
@[simp] theorem State.holdT_cipher (s : State) (k : Nat) (v : Val) : (s.holdT k v).cipher = s.cipher := rfl
@[simp] theorem State.holdT_time (s : State) (k : Nat) (v : Val) : (s.holdT k v).time = s.time := rfl
@[simp] theorem State.holdT_audio (s : State) (k : Nat) (v : Val) : (s.holdT k v).audio = s.audio := rfl
@[simp] theorem State.holdT_edge (s : State) (k : Nat) (v : Val) : (s.holdT k v).edge = s.edge := rfl
@[simp] theorem State.holdT_power (s : State) (k : Nat) (v : Val) : (s.holdT k v).power = s.power := rfl
@[simp] theorem State.holdT_update (s : State) (k : Nat) (v : Val) : (s.holdT k v).update = s.update := rfl
@[simp] theorem State.holdT_diag (s : State) (k : Nat) (v : Val) : (s.holdT k v).diag = s.diag := rfl

end Sys2Proof.Machine
end

