-- ==== Sys2Proof/Laws/Dict.lean ====
section
/-! SUPPORT. Laws of the sparse tables and of the objects of the dictionary. -/
namespace Sys2Proof.Machine

open Sys2Proof

variable {α : Type}

@[simp] theorem look_ins_self (m : SMap α) (k : Nat) (v : α) : look (ins m k v) k = some v := by
  induction m with
  | nil => simp [ins, look]
  | cons e t ih =>
    obtain ⟨a, b⟩ := e
    unfold ins
    split
    · simp [look]
    · split
      · simp [look]
      · rename_i h
        simp [look, h, ih]

theorem look_ins_ne (m : SMap α) (k j : Nat) (v : α) (h : j ≠ k) : look (ins m k v) j = look m j := by
  induction m with
  | nil => simp [ins, look, Ne.symm h]
  | cons e t ih =>
    obtain ⟨a, b⟩ := e
    unfold ins
    split
    · simp [look, Ne.symm h]
    · split
      · rename_i hk
        subst hk
        simp [look, Ne.symm h]
      · simp only [look, ih]

theorem look_ins (m : SMap α) (k j : Nat) (v : α) : look (ins m k v) j = if j = k then some v else look m j := by
  split
  · rename_i h
    subst h
    exact look_ins_self ..
  · rename_i h
    exact look_ins_ne m k j v h

@[simp] theorem look_del_self (m : SMap α) (k : Nat) : look (del m k) k = none := by
  induction m with
  | nil => rfl
  | cons e t ih =>
    unfold del at ih ⊢
    rw [List.filter_cons]
    split
    · rename_i h
      have hk : e.1 ≠ k := by simpa using h
      obtain ⟨a, b⟩ := e
      simp only [look, ih]
      rw [if_neg hk]
    · exact ih

theorem look_del_ne (m : SMap α) (k j : Nat) (h : j ≠ k) : look (del m k) j = look m j := by
  induction m with
  | nil => rfl
  | cons e t ih =>
    obtain ⟨a, b⟩ := e
    unfold del at ih ⊢
    rw [List.filter_cons]
    split
    · simp only [look, ih]
    · rename_i hk
      have hk : a = k := by simpa using hk
      subst hk
      simp [look, Ne.symm h, ih]

@[simp] theorem get_put_self [DecidableEq α] (d : α) (m : SMap α) (k : Nat) (v : α) : get d (put d m k v) k = v := by
  unfold get put
  split
  · rename_i h
    simp [h]
  · simp

theorem get_put_ne [DecidableEq α] (d : α) (m : SMap α) (k j : Nat) (v : α) (h : j ≠ k) : get d (put d m k v) j = get d m j := by
  unfold get put
  split
  · rw [look_del_ne m k j h]
  · rw [look_ins_ne m k j v h]

@[simp] theorem get_upd_self [DecidableEq α] (d : α) (m : SMap α) (k : Nat) (f : α → α) :
    get d (upd d m k f) k = f (get d m k) := get_put_self ..

theorem get_upd_ne [DecidableEq α] (d : α) (m : SMap α) (k j : Nat) (f : α → α) (h : j ≠ k) :
    get d (upd d m k f) j = get d m j := get_put_ne _ _ _ _ _ h

/-! ### Objects -/

/-- An object that is listed reads as listed. -/
theorem State.o_of_look {s : State} {k : Nat} {v : Int} (h : look s.dict.objs k = some v) : s.o k = v := by
  unfold State.o
  rw [h]
  rfl

theorem State.n_of_look {s : State} {k : Nat} {v : Nat} (h : look s.dict.objs k = some (v : Int)) : s.n k = v := by
  unfold State.n
  rw [State.o_of_look h]
  rfl

@[simp] theorem State.setO_self (s : State) (k : Nat) (v : Int) : (s.setO k v).o k = v := State.o_of_look (by simp)

@[simp] theorem State.setN_self (s : State) (k v : Nat) : (s.setN k v).n k = v := State.n_of_look (by simp)

@[simp] theorem State.setBlob_self (s : State) (k : Nat) (b : Bytes) : (s.setBlob k b).blob k = b := by
  simp [State.blob]

theorem State.setBlob_other (s : State) (k j : Nat) (b : Bytes) (h : j ≠ k) : (s.setBlob k b).blob j = s.blob j := by
  simp [State.blob, look_ins_ne _ _ _ _ h]

@[simp] theorem State.lane_updLane_self (s : State) (n : Nat) (f : LaneSt → LaneSt) : (s.updLane n f).lane n = f (s.lane n) := by
  simp [State.lane]

theorem State.lane_updLane_ne (s : State) (n m : Nat) (f : LaneSt → LaneSt) (h : m ≠ n) : (s.updLane n f).lane m = s.lane m := by
  simp [State.lane, get_upd_ne _ _ _ _ _ h]

/-- Two states of one variant that list an object and the node-ID alike read that object alike. -/
theorem State.o_congr {s u : State} {k : Nat} (hv : u.variant = s.variant) (hk : look u.dict.objs k = look s.dict.objs k)
    (hn : look u.dict.objs O.nodeID = look s.dict.objs O.nodeID) : u.o k = s.o k := by
  unfold State.o State.nodeId
  rw [hv, hk, hn]

theorem State.n_congr {s u : State} {k : Nat} (hv : u.variant = s.variant) (hk : look u.dict.objs k = look s.dict.objs k)
    (hn : look u.dict.objs O.nodeID = look s.dict.objs O.nodeID) : u.n k = s.n k := by
  unfold State.n
  rw [State.o_congr hv hk hn]

theorem State.setN_other (s : State) (k j v : Nat) (h : j ≠ k) (hn : k ≠ O.nodeID) : (s.setN k v).n j = s.n j :=
  State.n_congr rfl (by simp [look_ins_ne _ _ _ _ h]) (by simp [look_ins_ne _ _ _ _ (Ne.symm hn)])

theorem State.setO_other (s : State) (k j : Nat) (v : Int) (h : j ≠ k) (hn : k ≠ O.nodeID) : (s.setO k v).o j = s.o j :=
  State.o_congr rfl (by simp [look_ins_ne _ _ _ _ h]) (by simp [look_ins_ne _ _ _ _ (Ne.symm hn)])

theorem State.inc32_self (s : State) (k : Nat) : (s.inc32 k).n k = satN (2 ^ 32 - 1) (s.n k + 1) := State.setN_self ..

theorem State.inc64_self (s : State) (k : Nat) : (s.inc64 k).n k = satN (2 ^ 64 - 1) (s.n k + 1) := State.setN_self ..

theorem State.setFlag_self (s : State) (k i : Nat) (b : Bool) : (s.setFlag k i b).n k = setBit (s.n k) i b := State.setN_self ..

end Sys2Proof.Machine
end

