-- ==== Sys2Proof/Laws/Frame.lean ====
section
/-! SUPPORT. Laws of frames: how they compose, and the frame of each shared operation. -/
namespace Sys2Proof.Machine

open Sys2Proof

theorem State.same_refl (s : State) (p : Part) : s.same s p := by
  cases p <;> rfl

theorem State.same_trans {s u w : State} {p : Part} (h : s.same u p) (g : u.same w p) : s.same w p := by
  cases p <;> exact Eq.trans g h

namespace Only

theorem refl (s : State) : Only s s [] [] := ⟨rfl, rfl, fun p _ => s.same_refl p, fun _ _ => rfl⟩

/-- Frames compose. -/
theorem trans {s u w : State} {P Q : List Part} {K J : List Nat} (h : Only s u P K) (g : Only u w Q J) :
    Only s w (P ++ Q) (K ++ J) := by
  refine ⟨g.variant.trans h.variant, g.queue.trans h.queue, fun p hp => ?_, fun k hk => ?_⟩
  · rw [List.mem_append, not_or] at hp
    exact State.same_trans (h.rest p hp.1) (g.rest p hp.2)
  · rw [List.mem_append, not_or] at hk
    exact (g.objects k hk.2).trans (h.objects k hk.1)

/-- A frame may be weakened. -/
theorem mono {s u : State} {P Q : List Part} {K J : List Nat} (h : Only s u P K) (hp : P ⊆ Q) (hk : K ⊆ J) : Only s u Q J :=
  ⟨h.variant, h.queue, fun p n => h.rest p (fun m => n (hp m)), fun k n => h.objects k (fun m => n (hk m))⟩

/-- An object outside a frame reads as before, where the node-ID is outside it too. -/
theorem o_eq {s u : State} {P : List Part} {K : List Nat} (h : Only s u P K) {k : Nat} (hk : k ∉ K) (hn : O.nodeID ∉ K) :
    u.o k = s.o k := State.o_congr h.variant (h.objects k hk) (h.objects _ hn)

theorem n_eq {s u : State} {P : List Part} {K : List Nat} (h : Only s u P K) {k : Nat} (hk : k ∉ K) (hn : O.nodeID ∉ K) :
    u.n k = s.n k := State.n_congr h.variant (h.objects k hk) (h.objects _ hn)

/-- With no object in the frame every object reads as before. -/
theorem n_all {s u : State} {P : List Part} (h : Only s u P []) (k : Nat) : u.n k = s.n k :=
  h.n_eq (List.not_mem_nil) (List.not_mem_nil)

theorem o_all {s u : State} {P : List Part} (h : Only s u P []) (k : Nat) : u.o k = s.o k :=
  h.o_eq (List.not_mem_nil) (List.not_mem_nil)

end Only

/-- A frame that follows by looking at each part. -/
theorem only_of {s u : State} {P : List Part} {K : List Nat} (hv : u.variant = s.variant) (hq : u.pending = s.pending)
    (hr : ∀ p, p ∉ P → s.same u p) (hk : ∀ k, k ∉ K → look u.dict.objs k = look s.dict.objs k) : Only s u P K := ⟨hv, hq, hr, hk⟩

theorem only_begin (t : Nat) (s : State) : Only s (s.begin t) [] [] :=
  ⟨rfl, rfl, fun p _ => by cases p <;> rfl, fun _ _ => rfl⟩

theorem only_emit (s : State) (o : Out) : Only s (s.emit o) [] [] :=
  ⟨rfl, rfl, fun p _ => by cases p <;> rfl, fun _ _ => rfl⟩

theorem only_drawn (s : State) : Only s s.drawn [.free] [] :=
  ⟨rfl, rfl, fun p h => by cases p <;> first | rfl | exact absurd (by decide) h, fun _ _ => rfl⟩

theorem only_traffic (s : State) : Only s s.traffic [.power] [] :=
  ⟨rfl, rfl, fun p h => by cases p <;> first | rfl | exact absurd (by decide) h, fun _ _ => rfl⟩

theorem only_setO (s : State) (k : Nat) (v : Int) : Only s (s.setO k v) [] [k] :=
  ⟨rfl, rfl, fun p _ => by cases p <;> rfl, fun j h => by
    rw [List.mem_singleton] at h
    simp [look_ins_ne _ _ _ _ h]⟩

theorem only_setN (s : State) (k v : Nat) : Only s (s.setN k v) [] [k] := only_setO s k v

theorem only_addTo (s : State) (k n hi : Nat) : Only s (s.addTo k n hi) [] [k] := only_setN ..

theorem only_inc32 (s : State) (k : Nat) : Only s (s.inc32 k) [] [k] := only_setN ..

theorem only_inc64 (s : State) (k : Nat) : Only s (s.inc64 k) [] [k] := only_setN ..

theorem only_setFlag (s : State) (k i : Nat) (b : Bool) : Only s (s.setFlag k i b) [] [k] := only_setN ..

theorem only_setBlob (s : State) (k : Nat) (b : Bytes) : Only s (s.setBlob k b) [.blobs] [] :=
  ⟨rfl, rfl, fun p h => by cases p <;> first | rfl | exact absurd (by decide) h, fun _ _ => rfl⟩

theorem only_updLane (s : State) (n : Nat) (f : LaneSt → LaneSt) : Only s (s.updLane n f) [.lanes] [] :=
  ⟨rfl, rfl, fun p h => by cases p <;> first | rfl | exact absurd (by decide) h, fun _ _ => rfl⟩

theorem only_holdT (s : State) (k : Nat) (v : Val) : Only s (s.holdT k v) [.held] [] :=
  ⟨rfl, rfl, fun p h => by cases p <;> first | rfl | exact absurd (by decide) h, fun _ _ => rfl⟩

theorem only_logOn (s : State) (d : Nat) (e : EventRec) : Only s (s.logOn d e) [.logs] [] := by
  unfold State.logOn
  split
  · exact ⟨rfl, rfl, fun p h => by cases p <;> first | rfl | exact absurd (by decide) h, fun _ _ => rfl⟩
  · exact (Only.refl s).mono (by simp) (by simp)

theorem only_logEv (s : State) (d : Nat) (ev : Ev) (unit : Nat) (data : List (Nat × Nat)) :
    Only s (s.logEv d ev unit data) [.logs] [] := by
  unfold State.logEv
  dsimp only
  split
  · exact ((only_logOn ..).trans (only_logOn ..)).mono (by simp) (by simp)
  · exact only_logOn ..

theorem only_logLead (s : State) (ev : Ev) (unit : Nat) (data : List (Nat × Nat)) :
    Only s (s.logLead ev unit data) [.logs] [] := only_logEv ..

theorem only_updSession (s : State) (n : Nat) (f : Session → Session) : Only s (s.updSession n f) [.access] [] := by
  unfold State.updSession
  split
  · exact (Only.refl s).mono (by simp) (by simp)
  · exact ⟨rfl, rfl, fun p h => by cases p <;> first | rfl | exact absurd (by decide) h, fun _ _ => rfl⟩

theorem only_touch (s : State) (sess m : Nat) (b : Bool) : Only s (s.touch sess m b) [.access] [] := by
  unfold State.touch
  split
  · exact (Only.refl s).mono (by simp) (by simp)
  · exact only_updSession ..

theorem only_raiseInt (s : State) (d src : Nat) : Only s (s.raiseInt d src) [.bridge] [] := by
  unfold State.raiseInt
  split
  · exact ⟨rfl, rfl, fun p h => by cases p <;> first | rfl | exact absurd (by decide) h, fun _ _ => rfl⟩
  · exact (Only.refl s).mono (by simp) (by simp)

theorem only_setMailbox (s : State) (d : Nat) (m : SMap Byte) : Only s (s.setMailbox d m) [.bridge] [] :=
  ⟨rfl, rfl, fun p h => by cases p <;> first | rfl | exact absurd (by decide) h, fun _ _ => rfl⟩

theorem only_ringHost (s : State) (b : Nat) : Only s (s.ringHost b) [.bridge] [] := by
  unfold State.ringHost
  split
  · exact (Only.refl s).mono (by simp) (by simp)
  · refine Only.mono (Only.trans (Q := [.bridge]) ?_ (only_raiseInt ..)) (P := [.bridge] ++ [.bridge]) (K := [] ++ []) (by simp) (by simp)
    exact ⟨rfl, rfl, fun p h => by cases p <;> first | rfl | exact absurd (by decide) h, fun _ _ => rfl⟩

theorem only_mailRespond (s : State) (b : Bytes) : Only s (s.mailRespond b) [.bridge] [] := by
  unfold State.mailRespond
  split
  · exact (Only.refl s).mono (by simp) (by simp)
  · dsimp only
    split
    · exact (Only.refl s).mono (by simp) (by simp)
    · exact ((only_setMailbox ..).trans (only_ringHost ..)).mono (by simp) (by simp)

theorem only_reply (s : State) (who : Who) (r : Response) : Only s (s.reply who r) [.bridge] [] := by
  unfold State.reply
  dsimp only
  split
  · exact ((only_emit ..).trans (only_mailRespond ..)).mono (by simp) (by simp)
  · exact (only_emit ..).mono (by simp) (by simp)

theorem only_answer (s : State) (who : Who) (r : Response) : Only s (s.answer who r) [.access, .bridge] [] := by
  unfold State.answer
  split
  · exact (Only.refl s).mono (by simp) (by simp)
  · exact ((only_updSession ..).trans (only_reply ..)).mono (by simp) (by simp)

end Sys2Proof.Machine
end

