-- ==== Sys2Proof/Laws/Access.lean ====
section
/-! SUPPORT. Laws of reading through a request: what the session layer and the event log leave in each field, and the outcome of a
write that is taken up. -/
namespace Sys2Proof.Machine

open Sys2Proof

/-- The state on which the act of a taken-up write runs (R403, R407). -/
def State.heard (s : State) (t : Nat) (who : Who) (idx sub : Nat) : State :=
  ((s.begin t).traffic).touch who.sess (mux idx sub) false

theorem only_heard (s : State) (t : Nat) (who : Who) (idx sub : Nat) : Only s (s.heard t who idx sub) [.power, .access] [] :=
  (((only_begin t s).trans (only_traffic _)).trans (only_touch ..)).mono (by simp) (by simp)

theorem State.heard_now (s : State) (t : Nat) (who : Who) (idx sub : Nat) : (s.heard t who idx sub).now = s.localAt t := by
  unfold State.heard State.touch State.updSession
  repeat' split
  all_goals rfl

theorem State.heard_dict (s : State) (t : Nat) (who : Who) (idx sub : Nat) : (s.heard t who idx sub).dict = s.dict := by
  unfold State.heard State.touch State.updSession
  repeat' split
  all_goals rfl

@[simp] theorem State.heard_freeCtr (s : State) (t : Nat) (who : Who) (idx sub : Nat) : (s.heard t who idx sub).freeCtr = s.freeCtr := (only_heard ..).rest .free (by decide)
@[simp] theorem State.heard_variant (s : State) (t : Nat) (who : Who) (idx sub : Nat) : (s.heard t who idx sub).variant = s.variant := (only_heard ..).variant
@[simp] theorem State.heard_pending (s : State) (t : Nat) (who : Who) (idx sub : Nat) : (s.heard t who idx sub).pending = s.pending := (only_heard ..).queue
@[simp] theorem State.heard_staged (s : State) (t : Nat) (who : Who) (idx sub : Nat) : (s.heard t who idx sub).staged = s.staged := (only_heard ..).rest .staged (by decide)
@[simp] theorem State.heard_held (s : State) (t : Nat) (who : Who) (idx sub : Nat) : (s.heard t who idx sub).held = s.held := (only_heard ..).rest .held (by decide)
@[simp] theorem State.heard_stored (s : State) (t : Nat) (who : Who) (idx sub : Nat) : (s.heard t who idx sub).stored = s.stored := (only_heard ..).rest .stored (by decide)
@[simp] theorem State.heard_logs (s : State) (t : Nat) (who : Who) (idx sub : Nat) : (s.heard t who idx sub).logs = s.logs := (only_heard ..).rest .logs (by decide)
@[simp] theorem State.heard_pkg (s : State) (t : Nat) (who : Who) (idx sub : Nat) : (s.heard t who idx sub).pkg = s.pkg := (only_heard ..).rest .pkg (by decide)
@[simp] theorem State.heard_tick (s : State) (t : Nat) (who : Who) (idx sub : Nat) : (s.heard t who idx sub).tick = s.tick := (only_heard ..).rest .tick (by decide)
@[simp] theorem State.heard_plan (s : State) (t : Nat) (who : Who) (idx sub : Nat) : (s.heard t who idx sub).plan = s.plan := (only_heard ..).rest .plan (by decide)
@[simp] theorem State.heard_lanes (s : State) (t : Nat) (who : Who) (idx sub : Nat) : (s.heard t who idx sub).lanes = s.lanes := (only_heard ..).rest .lanes (by decide)
@[simp] theorem State.heard_fwd (s : State) (t : Nat) (who : Who) (idx sub : Nat) : (s.heard t who idx sub).fwd = s.fwd := (only_heard ..).rest .fwd (by decide)
@[simp] theorem State.heard_fw (s : State) (t : Nat) (who : Who) (idx sub : Nat) : (s.heard t who idx sub).fw = s.fw := (only_heard ..).rest .fw (by decide)
@[simp] theorem State.heard_bridge (s : State) (t : Nat) (who : Who) (idx sub : Nat) : (s.heard t who idx sub).bridge = s.bridge := (only_heard ..).rest .bridge (by decide)
@[simp] theorem State.heard_mem (s : State) (t : Nat) (who : Who) (idx sub : Nat) : (s.heard t who idx sub).mem = s.mem := (only_heard ..).rest .mem (by decide)
@[simp] theorem State.heard_cairn (s : State) (t : Nat) (who : Who) (idx sub : Nat) : (s.heard t who idx sub).cairn = s.cairn := (only_heard ..).rest .cairn (by decide)
@[simp] theorem State.heard_cipher (s : State) (t : Nat) (who : Who) (idx sub : Nat) : (s.heard t who idx sub).cipher = s.cipher := (only_heard ..).rest .cipher (by decide)
@[simp] theorem State.heard_time (s : State) (t : Nat) (who : Who) (idx sub : Nat) : (s.heard t who idx sub).time = s.time := (only_heard ..).rest .time (by decide)
@[simp] theorem State.heard_audio (s : State) (t : Nat) (who : Who) (idx sub : Nat) : (s.heard t who idx sub).audio = s.audio := (only_heard ..).rest .audio (by decide)
@[simp] theorem State.heard_edge (s : State) (t : Nat) (who : Who) (idx sub : Nat) : (s.heard t who idx sub).edge = s.edge := (only_heard ..).rest .edge (by decide)
@[simp] theorem State.heard_update (s : State) (t : Nat) (who : Who) (idx sub : Nat) : (s.heard t who idx sub).update = s.update := (only_heard ..).rest .update (by decide)
@[simp] theorem State.heard_diag (s : State) (t : Nat) (who : Who) (idx sub : Nat) : (s.heard t who idx sub).diag = s.diag := (only_heard ..).rest .diag (by decide)
@[simp] theorem State.heard_n (s : State) (t : Nat) (who : Who) (idx sub : Nat) (k : Nat) : (s.heard t who idx sub).n k = s.n k := (only_heard ..).n_all k
@[simp] theorem State.heard_o (s : State) (t : Nat) (who : Who) (idx sub : Nat) (k : Nat) : (s.heard t who idx sub).o k = s.o k := (only_heard ..).o_all k

@[simp] theorem State.answer_freeCtr (s : State) (who : Who) (r : Response) : (s.answer who r).freeCtr = s.freeCtr := (only_answer ..).rest .free (by decide)
@[simp] theorem State.answer_variant (s : State) (who : Who) (r : Response) : (s.answer who r).variant = s.variant := (only_answer ..).variant
@[simp] theorem State.answer_pending (s : State) (who : Who) (r : Response) : (s.answer who r).pending = s.pending := (only_answer ..).queue
@[simp] theorem State.answer_staged (s : State) (who : Who) (r : Response) : (s.answer who r).staged = s.staged := (only_answer ..).rest .staged (by decide)
@[simp] theorem State.answer_held (s : State) (who : Who) (r : Response) : (s.answer who r).held = s.held := (only_answer ..).rest .held (by decide)
@[simp] theorem State.answer_stored (s : State) (who : Who) (r : Response) : (s.answer who r).stored = s.stored := (only_answer ..).rest .stored (by decide)
@[simp] theorem State.answer_logs (s : State) (who : Who) (r : Response) : (s.answer who r).logs = s.logs := (only_answer ..).rest .logs (by decide)
@[simp] theorem State.answer_pkg (s : State) (who : Who) (r : Response) : (s.answer who r).pkg = s.pkg := (only_answer ..).rest .pkg (by decide)
@[simp] theorem State.answer_tick (s : State) (who : Who) (r : Response) : (s.answer who r).tick = s.tick := (only_answer ..).rest .tick (by decide)
@[simp] theorem State.answer_plan (s : State) (who : Who) (r : Response) : (s.answer who r).plan = s.plan := (only_answer ..).rest .plan (by decide)
@[simp] theorem State.answer_lanes (s : State) (who : Who) (r : Response) : (s.answer who r).lanes = s.lanes := (only_answer ..).rest .lanes (by decide)
@[simp] theorem State.answer_fwd (s : State) (who : Who) (r : Response) : (s.answer who r).fwd = s.fwd := (only_answer ..).rest .fwd (by decide)
@[simp] theorem State.answer_fw (s : State) (who : Who) (r : Response) : (s.answer who r).fw = s.fw := (only_answer ..).rest .fw (by decide)
@[simp] theorem State.answer_mem (s : State) (who : Who) (r : Response) : (s.answer who r).mem = s.mem := (only_answer ..).rest .mem (by decide)
@[simp] theorem State.answer_cairn (s : State) (who : Who) (r : Response) : (s.answer who r).cairn = s.cairn := (only_answer ..).rest .cairn (by decide)
@[simp] theorem State.answer_cipher (s : State) (who : Who) (r : Response) : (s.answer who r).cipher = s.cipher := (only_answer ..).rest .cipher (by decide)
@[simp] theorem State.answer_time (s : State) (who : Who) (r : Response) : (s.answer who r).time = s.time := (only_answer ..).rest .time (by decide)
@[simp] theorem State.answer_audio (s : State) (who : Who) (r : Response) : (s.answer who r).audio = s.audio := (only_answer ..).rest .audio (by decide)
@[simp] theorem State.answer_edge (s : State) (who : Who) (r : Response) : (s.answer who r).edge = s.edge := (only_answer ..).rest .edge (by decide)
@[simp] theorem State.answer_power (s : State) (who : Who) (r : Response) : (s.answer who r).power = s.power := (only_answer ..).rest .power (by decide)
@[simp] theorem State.answer_update (s : State) (who : Who) (r : Response) : (s.answer who r).update = s.update := (only_answer ..).rest .update (by decide)
@[simp] theorem State.answer_diag (s : State) (who : Who) (r : Response) : (s.answer who r).diag = s.diag := (only_answer ..).rest .diag (by decide)
@[simp] theorem State.answer_n (s : State) (who : Who) (r : Response) (k : Nat) : (s.answer who r).n k = s.n k := (only_answer ..).n_all k
@[simp] theorem State.answer_o (s : State) (who : Who) (r : Response) (k : Nat) : (s.answer who r).o k = s.o k := (only_answer ..).o_all k

@[simp] theorem State.logEv_freeCtr (s : State) (d : Nat) (ev : Ev) (unit : Nat) (data : List (Nat × Nat)) : (s.logEv d ev unit data).freeCtr = s.freeCtr := (only_logEv ..).rest .free (by decide)
@[simp] theorem State.logEv_variant (s : State) (d : Nat) (ev : Ev) (unit : Nat) (data : List (Nat × Nat)) : (s.logEv d ev unit data).variant = s.variant := (only_logEv ..).variant
@[simp] theorem State.logEv_pending (s : State) (d : Nat) (ev : Ev) (unit : Nat) (data : List (Nat × Nat)) : (s.logEv d ev unit data).pending = s.pending := (only_logEv ..).queue
@[simp] theorem State.logEv_staged (s : State) (d : Nat) (ev : Ev) (unit : Nat) (data : List (Nat × Nat)) : (s.logEv d ev unit data).staged = s.staged := (only_logEv ..).rest .staged (by decide)
@[simp] theorem State.logEv_held (s : State) (d : Nat) (ev : Ev) (unit : Nat) (data : List (Nat × Nat)) : (s.logEv d ev unit data).held = s.held := (only_logEv ..).rest .held (by decide)
@[simp] theorem State.logEv_stored (s : State) (d : Nat) (ev : Ev) (unit : Nat) (data : List (Nat × Nat)) : (s.logEv d ev unit data).stored = s.stored := (only_logEv ..).rest .stored (by decide)
@[simp] theorem State.logEv_access (s : State) (d : Nat) (ev : Ev) (unit : Nat) (data : List (Nat × Nat)) : (s.logEv d ev unit data).access = s.access := (only_logEv ..).rest .access (by decide)
@[simp] theorem State.logEv_pkg (s : State) (d : Nat) (ev : Ev) (unit : Nat) (data : List (Nat × Nat)) : (s.logEv d ev unit data).pkg = s.pkg := (only_logEv ..).rest .pkg (by decide)
@[simp] theorem State.logEv_tick (s : State) (d : Nat) (ev : Ev) (unit : Nat) (data : List (Nat × Nat)) : (s.logEv d ev unit data).tick = s.tick := (only_logEv ..).rest .tick (by decide)
@[simp] theorem State.logEv_plan (s : State) (d : Nat) (ev : Ev) (unit : Nat) (data : List (Nat × Nat)) : (s.logEv d ev unit data).plan = s.plan := (only_logEv ..).rest .plan (by decide)
@[simp] theorem State.logEv_lanes (s : State) (d : Nat) (ev : Ev) (unit : Nat) (data : List (Nat × Nat)) : (s.logEv d ev unit data).lanes = s.lanes := (only_logEv ..).rest .lanes (by decide)
@[simp] theorem State.logEv_fwd (s : State) (d : Nat) (ev : Ev) (unit : Nat) (data : List (Nat × Nat)) : (s.logEv d ev unit data).fwd = s.fwd := (only_logEv ..).rest .fwd (by decide)
@[simp] theorem State.logEv_fw (s : State) (d : Nat) (ev : Ev) (unit : Nat) (data : List (Nat × Nat)) : (s.logEv d ev unit data).fw = s.fw := (only_logEv ..).rest .fw (by decide)
@[simp] theorem State.logEv_bridge (s : State) (d : Nat) (ev : Ev) (unit : Nat) (data : List (Nat × Nat)) : (s.logEv d ev unit data).bridge = s.bridge := (only_logEv ..).rest .bridge (by decide)
@[simp] theorem State.logEv_mem (s : State) (d : Nat) (ev : Ev) (unit : Nat) (data : List (Nat × Nat)) : (s.logEv d ev unit data).mem = s.mem := (only_logEv ..).rest .mem (by decide)
@[simp] theorem State.logEv_cairn (s : State) (d : Nat) (ev : Ev) (unit : Nat) (data : List (Nat × Nat)) : (s.logEv d ev unit data).cairn = s.cairn := (only_logEv ..).rest .cairn (by decide)
@[simp] theorem State.logEv_cipher (s : State) (d : Nat) (ev : Ev) (unit : Nat) (data : List (Nat × Nat)) : (s.logEv d ev unit data).cipher = s.cipher := (only_logEv ..).rest .cipher (by decide)
@[simp] theorem State.logEv_time (s : State) (d : Nat) (ev : Ev) (unit : Nat) (data : List (Nat × Nat)) : (s.logEv d ev unit data).time = s.time := (only_logEv ..).rest .time (by decide)
@[simp] theorem State.logEv_audio (s : State) (d : Nat) (ev : Ev) (unit : Nat) (data : List (Nat × Nat)) : (s.logEv d ev unit data).audio = s.audio := (only_logEv ..).rest .audio (by decide)
@[simp] theorem State.logEv_edge (s : State) (d : Nat) (ev : Ev) (unit : Nat) (data : List (Nat × Nat)) : (s.logEv d ev unit data).edge = s.edge := (only_logEv ..).rest .edge (by decide)
@[simp] theorem State.logEv_power (s : State) (d : Nat) (ev : Ev) (unit : Nat) (data : List (Nat × Nat)) : (s.logEv d ev unit data).power = s.power := (only_logEv ..).rest .power (by decide)
@[simp] theorem State.logEv_update (s : State) (d : Nat) (ev : Ev) (unit : Nat) (data : List (Nat × Nat)) : (s.logEv d ev unit data).update = s.update := (only_logEv ..).rest .update (by decide)
@[simp] theorem State.logEv_diag (s : State) (d : Nat) (ev : Ev) (unit : Nat) (data : List (Nat × Nat)) : (s.logEv d ev unit data).diag = s.diag := (only_logEv ..).rest .diag (by decide)
@[simp] theorem State.logEv_n (s : State) (d : Nat) (ev : Ev) (unit : Nat) (data : List (Nat × Nat)) (k : Nat) : (s.logEv d ev unit data).n k = s.n k := (only_logEv ..).n_all k
@[simp] theorem State.logEv_o (s : State) (d : Nat) (ev : Ev) (unit : Nat) (data : List (Nat × Nat)) (k : Nat) : (s.logEv d ev unit data).o k = s.o k := (only_logEv ..).o_all k

@[simp] theorem State.logLead_freeCtr (s : State) (ev : Ev) (unit : Nat) (data : List (Nat × Nat)) : (s.logLead ev unit data).freeCtr = s.freeCtr := (only_logLead ..).rest .free (by decide)
@[simp] theorem State.logLead_variant (s : State) (ev : Ev) (unit : Nat) (data : List (Nat × Nat)) : (s.logLead ev unit data).variant = s.variant := (only_logLead ..).variant
@[simp] theorem State.logLead_pending (s : State) (ev : Ev) (unit : Nat) (data : List (Nat × Nat)) : (s.logLead ev unit data).pending = s.pending := (only_logLead ..).queue
@[simp] theorem State.logLead_staged (s : State) (ev : Ev) (unit : Nat) (data : List (Nat × Nat)) : (s.logLead ev unit data).staged = s.staged := (only_logLead ..).rest .staged (by decide)
@[simp] theorem State.logLead_held (s : State) (ev : Ev) (unit : Nat) (data : List (Nat × Nat)) : (s.logLead ev unit data).held = s.held := (only_logLead ..).rest .held (by decide)
@[simp] theorem State.logLead_stored (s : State) (ev : Ev) (unit : Nat) (data : List (Nat × Nat)) : (s.logLead ev unit data).stored = s.stored := (only_logLead ..).rest .stored (by decide)
@[simp] theorem State.logLead_access (s : State) (ev : Ev) (unit : Nat) (data : List (Nat × Nat)) : (s.logLead ev unit data).access = s.access := (only_logLead ..).rest .access (by decide)
@[simp] theorem State.logLead_pkg (s : State) (ev : Ev) (unit : Nat) (data : List (Nat × Nat)) : (s.logLead ev unit data).pkg = s.pkg := (only_logLead ..).rest .pkg (by decide)
@[simp] theorem State.logLead_tick (s : State) (ev : Ev) (unit : Nat) (data : List (Nat × Nat)) : (s.logLead ev unit data).tick = s.tick := (only_logLead ..).rest .tick (by decide)
@[simp] theorem State.logLead_plan (s : State) (ev : Ev) (unit : Nat) (data : List (Nat × Nat)) : (s.logLead ev unit data).plan = s.plan := (only_logLead ..).rest .plan (by decide)
@[simp] theorem State.logLead_lanes (s : State) (ev : Ev) (unit : Nat) (data : List (Nat × Nat)) : (s.logLead ev unit data).lanes = s.lanes := (only_logLead ..).rest .lanes (by decide)
@[simp] theorem State.logLead_fwd (s : State) (ev : Ev) (unit : Nat) (data : List (Nat × Nat)) : (s.logLead ev unit data).fwd = s.fwd := (only_logLead ..).rest .fwd (by decide)
@[simp] theorem State.logLead_fw (s : State) (ev : Ev) (unit : Nat) (data : List (Nat × Nat)) : (s.logLead ev unit data).fw = s.fw := (only_logLead ..).rest .fw (by decide)
@[simp] theorem State.logLead_bridge (s : State) (ev : Ev) (unit : Nat) (data : List (Nat × Nat)) : (s.logLead ev unit data).bridge = s.bridge := (only_logLead ..).rest .bridge (by decide)
@[simp] theorem State.logLead_mem (s : State) (ev : Ev) (unit : Nat) (data : List (Nat × Nat)) : (s.logLead ev unit data).mem = s.mem := (only_logLead ..).rest .mem (by decide)
@[simp] theorem State.logLead_cairn (s : State) (ev : Ev) (unit : Nat) (data : List (Nat × Nat)) : (s.logLead ev unit data).cairn = s.cairn := (only_logLead ..).rest .cairn (by decide)
@[simp] theorem State.logLead_cipher (s : State) (ev : Ev) (unit : Nat) (data : List (Nat × Nat)) : (s.logLead ev unit data).cipher = s.cipher := (only_logLead ..).rest .cipher (by decide)
@[simp] theorem State.logLead_time (s : State) (ev : Ev) (unit : Nat) (data : List (Nat × Nat)) : (s.logLead ev unit data).time = s.time := (only_logLead ..).rest .time (by decide)
@[simp] theorem State.logLead_audio (s : State) (ev : Ev) (unit : Nat) (data : List (Nat × Nat)) : (s.logLead ev unit data).audio = s.audio := (only_logLead ..).rest .audio (by decide)
@[simp] theorem State.logLead_edge (s : State) (ev : Ev) (unit : Nat) (data : List (Nat × Nat)) : (s.logLead ev unit data).edge = s.edge := (only_logLead ..).rest .edge (by decide)
@[simp] theorem State.logLead_power (s : State) (ev : Ev) (unit : Nat) (data : List (Nat × Nat)) : (s.logLead ev unit data).power = s.power := (only_logLead ..).rest .power (by decide)
@[simp] theorem State.logLead_update (s : State) (ev : Ev) (unit : Nat) (data : List (Nat × Nat)) : (s.logLead ev unit data).update = s.update := (only_logLead ..).rest .update (by decide)
@[simp] theorem State.logLead_diag (s : State) (ev : Ev) (unit : Nat) (data : List (Nat × Nat)) : (s.logLead ev unit data).diag = s.diag := (only_logLead ..).rest .diag (by decide)
@[simp] theorem State.logLead_n (s : State) (ev : Ev) (unit : Nat) (data : List (Nat × Nat)) (k : Nat) : (s.logLead ev unit data).n k = s.n k := (only_logLead ..).n_all k
@[simp] theorem State.logLead_o (s : State) (ev : Ev) (unit : Nat) (data : List (Nat × Nat)) (k : Nat) : (s.logLead ev unit data).o k = s.o k := (only_logLead ..).o_all k

@[simp] theorem State.begin_n (s : State) (t : Nat) (k : Nat) : (s.begin t).n k = s.n k := (only_begin ..).n_all k
@[simp] theorem State.begin_o (s : State) (t : Nat) (k : Nat) : (s.begin t).o k = s.o k := (only_begin ..).o_all k
@[simp] theorem State.emit_n (s : State) (o : Out) (k : Nat) : (s.emit o).n k = s.n k := (only_emit ..).n_all k
@[simp] theorem State.emit_o (s : State) (o : Out) (k : Nat) : (s.emit o).o k = s.o k := (only_emit ..).o_all k
@[simp] theorem State.updLane_n (s : State) (n : Nat) (f : LaneSt → LaneSt) (k : Nat) : (s.updLane n f).n k = s.n k := (only_updLane ..).n_all k
@[simp] theorem State.updLane_o (s : State) (n : Nat) (f : LaneSt → LaneSt) (k : Nat) : (s.updLane n f).o k = s.o k := (only_updLane ..).o_all k
@[simp] theorem State.setBlob_n (s : State) (j : Nat) (b : Bytes) (k : Nat) : (s.setBlob j b).n k = s.n k := (only_setBlob ..).n_all k
@[simp] theorem State.setBlob_o (s : State) (j : Nat) (b : Bytes) (k : Nat) : (s.setBlob j b).o k = s.o k := (only_setBlob ..).o_all k
@[simp] theorem State.drawn_n (s : State) (k : Nat) : (s.drawn).n k = s.n k := (only_drawn ..).n_all k
@[simp] theorem State.drawn_o (s : State) (k : Nat) : (s.drawn).o k = s.o k := (only_drawn ..).o_all k
@[simp] theorem State.traffic_n (s : State) (k : Nat) : (s.traffic).n k = s.n k := (only_traffic ..).n_all k
@[simp] theorem State.traffic_o (s : State) (k : Nat) : (s.traffic).o k = s.o k := (only_traffic ..).o_all k

theorem State.answer_dict (s : State) (who : Who) (r : Response) : (s.answer who r).dict.blobs = s.dict.blobs :=
  (only_answer s who r).rest .blobs (by decide)

theorem State.mailRespond_out (s : State) (b : Bytes) : (s.mailRespond b).out = s.out := by
  unfold State.mailRespond State.ringHost State.raiseInt
  dsimp only
  repeat' split
  all_goals rfl

/-- An answer to an open session is on the wires. -/
theorem State.answer_out (s : State) (who : Who) (r : Response) (h : (s.session? who.sess).isSome = true) :
    Out.response who r ∈ (s.answer who r).out := by
  unfold State.answer
  split
  · rename_i h'
    rw [h'] at h
    cases h
  · unfold State.reply
    dsimp only
    split
    · rw [State.mailRespond_out]
      simp
    · simp

/-- A request that is taken up runs its body and is answered (R403, R467). -/
theorem serve_taken {s : State} {who : Who} {x : Session} (h : s.Takes who x) (body : Session → State → Response × State) :
    serve who body s = (body x s.traffic).2.answer who (body x s.traffic).1 := by
  unfold serve
  rw [h.serving, h.whole, h.session]
  simp [h.path, h.assoc, h.fresh, h.idle]

theorem State.Takes.begin {s : State} {who : Who} {x : Session} (h : s.Takes who x) (t : Nat) : (s.begin t).Takes who x :=
  ⟨h.serving, h.whole, h.path, h.session, h.assoc, h.fresh, h.idle⟩

section Values

variable {s u : State}

theorem State.stagedO_congr (hs : u.staged = s.staged) (ho : ∀ k, u.o k = s.o k) (k : Nat) : u.stagedO k = s.stagedO k := by
  unfold State.stagedO
  rw [hs, ho]

theorem State.membersOk_congr (hv : u.variant = s.variant) (hs : u.staged = s.staged) (ho : ∀ k, u.o k = s.o k) (g v : Nat) :
    u.membersOk g v = s.membersOk g v := by
  unfold State.membersOk State.hasLane State.laneCount
  simp only [State.stagedO_congr hs ho, hv]

theorem State.modeOk_congr (hs : u.staged = s.staged) (ho : ∀ k, u.o k = s.o k) (g v : Nat) : u.modeOk g v = s.modeOk g v := by
  unfold State.modeOk
  simp only [State.stagedO_congr hs ho]

theorem State.nextO_congr (hh : u.held = s.held) (ho : ∀ k, u.o k = s.o k) (k : Nat) : u.nextO k = s.nextO k := by
  unfold State.nextO
  rw [hh, ho]

theorem State.domainOk_congr (hh : u.held = s.held) (ho : ∀ k, u.o k = s.o k) (g i v : Nat) : u.domainOk g i v = s.domainOk g i v := by
  unfold State.domainOk
  simp only [State.nextO_congr hh ho]

theorem State.caseOk_congr (hv : u.variant = s.variant) (v : Nat) : u.caseOk v = s.caseOk v := by
  unfold State.caseOk State.hasDie
  simp only [hv]

theorem State.masks_congr (hv : u.variant = s.variant) : u.laneMask = s.laneMask ∧ u.dieMask = s.dieMask := by
  unfold State.laneMask State.dieMask State.laneCount
  simp only [hv, and_self]

/-- The value rules read only the variant, the staged and held values and the objects. -/
theorem State.valueOk_congr (hv : u.variant = s.variant) (hs : u.staged = s.staged) (hh : u.held = s.held) (ho : ∀ k, u.o k = s.o k) (i j v : Nat) :
    u.valueOk i j v = s.valueOk i j v := by
  have hn : ∀ k, u.n k = s.n k := fun k => by unfold State.n; rw [ho]
  have e1 := State.stagedO_congr hs ho
  have e2 := State.membersOk_congr hv hs ho
  have e3 := State.modeOk_congr hs ho
  have e4 := State.domainOk_congr hh ho
  have e5 := State.caseOk_congr hv
  have e6 := State.masks_congr hv
  unfold State.valueOk
  rw [e6.1, e6.2, hv]
  simp only [e1, e2, e3, e4, e5, hn]

end Values

theorem State.valueOk_heard (s : State) (t : Nat) (who : Who) (idx sub i j v : Nat) :
    (s.heard t who idx sub).valueOk i j v = s.valueOk i j v :=
  State.valueOk_congr (by simp) (by simp) (by simp) (by simp) i j v

/-- A write of an integer to a command object that is taken up runs its act, and the answer carries the act's status. -/
theorem cmdRow_taken {s : State} {who : Who} {x : Session} {idx sub v : Nat} (h : s.MayWrite who x idx sub v) (t : Nat)
    (act : Session → State → Status × State) :
    cmdRow t who idx sub v act s = .next ((act x (s.heard t who idx sub)).2.answer who
      (Response.of (act x (s.heard t who idx sub)).1)) := by
  unfold cmdRow
  rw [serve_taken (h.toTakes.begin t)]
  obtain ⟨r, hr, hv⟩ := h.right
  have hc : ((s.begin t).traffic.writeCheck x.rights idx sub).2 = some r := hr
  have hw : (((s.begin t).traffic).touch who.sess (mux idx sub) false).valueOk idx sub v = true :=
    (s.valueOk_heard t who idx sub idx sub v).trans h.value
  unfold writeCmd State.heard
  simp only [hc, hv, hw, h.outside, Bool.and_self, Bool.not_true, Bool.false_eq_true, if_false, Option.isSome_none]

/-- A write of a DOMAIN to a command object that is taken up, and whose reserved encodings are met, runs its act. -/
theorem domRow_taken {s : State} {who : Who} {x : Session} {idx sub lo hi : Nat} {b : Bytes}
    (h : s.MayWriteDom who x idx sub lo hi b.length) (t : Nat) (ok : State → Bool) (act : Session → State → Status × State)
    (hok : ok (s.heard t who idx sub) = true) :
    domRow t who idx sub b lo hi ok act s = .next ((act x (s.heard t who idx sub)).2.answer who
      (Response.of (act x (s.heard t who idx sub)).1)) := by
  unfold domRow
  rw [serve_taken (h.toTakes.begin t)]
  obtain ⟨r, hr⟩ := Option.isSome_iff_exists.mp h.right
  have hc : ((s.begin t).traffic.writeCheck x.rights idx sub).2 = some r := hr
  have hl : ¬(b.length < lo ∨ hi < b.length) := by
    have := h.length
    omega
  unfold writeDom
  unfold State.heard at hok ⊢
  simp only [hc, hl, hok, h.outside, Bool.not_true, Bool.false_eq_true, if_false, Option.isSome_none]

end Sys2Proof.Machine
end

