-- ==== Sys2Proof/Laws/Bits.lean ====
section
/-! SUPPORT. Laws of single bits. -/
namespace Sys2Proof.Machine

theorem bit_eq_testBit (v i : Nat) : bit v i = v.testBit i := by
  rw [Nat.testBit_eq_decide_div_mod_eq]
  unfold bit
  exact Bool.beq_eq_decide_eq _ _

/-- A number by its bits above position `i`, its bit `i` and its bits below. -/
theorem split_bit (v i : Nat) : v = 2 ^ i * (2 * (v / 2 ^ i / 2) + v / 2 ^ i % 2) + v % 2 ^ i := by
  rw [Nat.div_add_mod, Nat.div_add_mod]

theorem setBit_split (v i : Nat) (b : Bool) :
    setBit v i b = 2 ^ i * (2 * (v / 2 ^ i / 2) + (if b then 1 else 0)) + v % 2 ^ i := by
  have h : setBit v i b = v - v / 2 ^ i % 2 * 2 ^ i + (if b then 1 else 0) * 2 ^ i := by
    unfold setBit setBits bits
    cases b <;> simp
  rw [h]
  have := split_bit v i
  rw [Nat.mul_add] at this ⊢
  rw [Nat.mul_comm (v / 2 ^ i % 2), Nat.mul_comm (if b = true then 1 else 0)]
  omega

/-- Each bit of a number after one bit has been set or cleared. -/
theorem bit_setBit (v i j : Nat) (b : Bool) : bit (setBit v i b) j = if j = i then b else bit v j := by
  have hlt : v % 2 ^ i < 2 ^ i := Nat.mod_lt _ (Nat.pow_pos (by decide))
  have hv : v.testBit j = (2 ^ i * (2 * (v / 2 ^ i / 2) + v / 2 ^ i % 2) + v % 2 ^ i).testBit j := by rw [← split_bit]
  rw [bit_eq_testBit, bit_eq_testBit, setBit_split, hv, Nat.testBit_two_pow_mul_add _ hlt, Nat.testBit_two_pow_mul_add _ hlt]
  by_cases h1 : j < i
  · rw [if_pos h1, if_pos h1, if_neg (by omega)]
  · rw [if_neg h1, if_neg h1]
    by_cases h2 : j = i
    · subst h2
      rw [if_pos rfl, Nat.sub_self, Nat.testBit_zero]
      cases b <;> simp <;> omega
    · rw [if_neg h2]
      obtain ⟨k, hk⟩ : ∃ k, j - i = k + 1 := ⟨j - i - 1, by omega⟩
      rw [hk, Nat.testBit_succ, Nat.testBit_succ]
      congr 1
      cases b <;> simp <;> omega

@[simp] theorem bit_setBit_self (v i : Nat) (b : Bool) : bit (setBit v i b) i = b := by
  rw [bit_setBit, if_pos rfl]

theorem bit_setBit_ne (v i j : Nat) (b : Bool) (h : j ≠ i) : bit (setBit v i b) j = bit v j := by
  rw [bit_setBit, if_neg h]

end Sys2Proof.Machine
end

