-- ==== Sys2Proof/Laws/Keeps.lean ====
section
/-! SUPPORT. Frames of every operation and of every command by parts of the state: the parts it cannot change at all. -/
namespace Sys2Proof.Machine

open Sys2Proof

/-- Every part in the set `a` is in the set `c`. -/
def inMask (a c : Nat) : Bool := a &&& c == a

theorem sb {a c d : Nat} (g : inMask c d = true) (h : inMask a c = true) : inMask a d = true := by
  unfold inMask at *
  simp only [beq_iff_eq] at *
  rw [← h, Nat.and_assoc, g]

theorem sub_bit {a c i : Nat} (h : inMask a c = true) (g : a.testBit i = true) : c.testBit i = true := by
  unfold inMask at h
  rw [beq_iff_eq] at h
  rw [← h, Nat.testBit_and, Bool.and_eq_true] at g
  exact g.2

/-- The state without the parts in the set `R` (bit by bit, in the order of the fields), the dictionary and what is on the
wires. -/
def State.core (R : Nat) (s : State) : State :=
  { pending := s.pending, variant := s.variant,
    freeCtr := if R.testBit 0 = true then 0 else s.freeCtr,
    staged := if R.testBit 1 = true then {} else s.staged,
    held := if R.testBit 2 = true then [] else s.held,
    stored := if R.testBit 3 = true then {} else s.stored,
    access := if R.testBit 4 = true then {} else s.access,
    logs := if R.testBit 5 = true then [] else s.logs,
    pkg := if R.testBit 6 = true then {} else s.pkg,
    tick := if R.testBit 7 = true then {} else s.tick,
    plan := if R.testBit 8 = true then {} else s.plan,
    lanes := if R.testBit 9 = true then [] else s.lanes,
    fwd := if R.testBit 10 = true then {} else s.fwd,
    fw := if R.testBit 11 = true then {} else s.fw,
    bridge := if R.testBit 12 = true then {} else s.bridge,
    mem := if R.testBit 13 = true then {} else s.mem,
    cairn := if R.testBit 14 = true then {} else s.cairn,
    cipher := if R.testBit 15 = true then {} else s.cipher,
    time := if R.testBit 16 = true then {} else s.time,
    audio := if R.testBit 17 = true then {} else s.audio,
    edge := if R.testBit 18 = true then {} else s.edge,
    power := if R.testBit 19 = true then {} else s.power,
    update := if R.testBit 20 = true then {} else s.update,
    diag := if R.testBit 21 = true then {} else s.diag,
    now := if R.testBit 22 = true then 0 else s.now }

theorem core_eta (R : Nat) (s : State) : State.core R ⟨s.pending, s.freeCtr, s.now, s.variant, s.out, s.dict, s.staged, s.held, s.stored, s.access, s.logs, s.pkg, s.tick, s.plan, s.lanes, s.fwd, s.fw, s.bridge, s.mem, s.cairn, s.cipher, s.time, s.audio, s.edge, s.power, s.update, s.diag⟩ = s.core R := rfl

theorem core_ite (R : Nat) (c : Prop) [Decidable c] (a b : State) : State.core R (if c then a else b) = if c then a.core R else b.core R := by
  split <;> rfl

theorem core_foldl {R : Nat} {α : Type} (f : State → α → State) (h : ∀ s a, (f s a).core R = s.core R) (l : List α) (s : State) :
    (l.foldl f s).core R = s.core R := by
  induction l generalizing s with
  | nil => rfl
  | cons a l ih => rw [List.foldl_cons, ih, h]

section

variable {R : Nat}

theorem core_access (hm : inMask 16 R = true) (s : State) (y_access) :
    State.core R ⟨s.pending, s.freeCtr, s.now, s.variant, s.out, s.dict, s.staged, s.held, s.stored, y_access, s.logs, s.pkg, s.tick, s.plan, s.lanes, s.fwd, s.fw, s.bridge, s.mem, s.cairn, s.cipher, s.time, s.audio, s.edge, s.power, s.update, s.diag⟩ = s.core R := by
  unfold State.core
  simp only [sub_bit (i := 4) hm rfl, if_true]

theorem core_access_cairn (hm : inMask 16400 R = true) (s : State) (y_access y_cairn) :
    State.core R ⟨s.pending, s.freeCtr, s.now, s.variant, s.out, s.dict, s.staged, s.held, s.stored, y_access, s.logs, s.pkg, s.tick, s.plan, s.lanes, s.fwd, s.fw, s.bridge, s.mem, y_cairn, s.cipher, s.time, s.audio, s.edge, s.power, s.update, s.diag⟩ = s.core R := by
  unfold State.core
  simp only [sub_bit (i := 4) hm rfl, sub_bit (i := 14) hm rfl, if_true]

theorem core_access_pkg (hm : inMask 80 R = true) (s : State) (y_access y_pkg) :
    State.core R ⟨s.pending, s.freeCtr, s.now, s.variant, s.out, s.dict, s.staged, s.held, s.stored, y_access, s.logs, y_pkg, s.tick, s.plan, s.lanes, s.fwd, s.fw, s.bridge, s.mem, s.cairn, s.cipher, s.time, s.audio, s.edge, s.power, s.update, s.diag⟩ = s.core R := by
  unfold State.core
  simp only [sub_bit (i := 4) hm rfl, sub_bit (i := 6) hm rfl, if_true]

theorem core_access_pkg_fwd_fw_bridge_cairn_cipher_audio_edge (hm : inMask 449616 R = true) (s : State) (y_access y_pkg y_fwd y_fw y_bridge y_cairn y_cipher y_audio y_edge) :
    State.core R ⟨s.pending, s.freeCtr, s.now, s.variant, s.out, s.dict, s.staged, s.held, s.stored, y_access, s.logs, y_pkg, s.tick, s.plan, s.lanes, y_fwd, y_fw, y_bridge, s.mem, y_cairn, y_cipher, s.time, y_audio, y_edge, s.power, s.update, s.diag⟩ = s.core R := by
  unfold State.core
  simp only [sub_bit (i := 4) hm rfl, sub_bit (i := 6) hm rfl, sub_bit (i := 10) hm rfl, sub_bit (i := 11) hm rfl, sub_bit (i := 12) hm rfl, sub_bit (i := 14) hm rfl, sub_bit (i := 15) hm rfl, sub_bit (i := 17) hm rfl, sub_bit (i := 18) hm rfl, if_true]

theorem core_access_pkg_update (hm : inMask 1048656 R = true) (s : State) (y_access y_pkg y_update) :
    State.core R ⟨s.pending, s.freeCtr, s.now, s.variant, s.out, s.dict, s.staged, s.held, s.stored, y_access, s.logs, y_pkg, s.tick, s.plan, s.lanes, s.fwd, s.fw, s.bridge, s.mem, s.cairn, s.cipher, s.time, s.audio, s.edge, s.power, y_update, s.diag⟩ = s.core R := by
  unfold State.core
  simp only [sub_bit (i := 4) hm rfl, sub_bit (i := 6) hm rfl, sub_bit (i := 20) hm rfl, if_true]

theorem core_audio (hm : inMask 131072 R = true) (s : State) (y_audio) :
    State.core R ⟨s.pending, s.freeCtr, s.now, s.variant, s.out, s.dict, s.staged, s.held, s.stored, s.access, s.logs, s.pkg, s.tick, s.plan, s.lanes, s.fwd, s.fw, s.bridge, s.mem, s.cairn, s.cipher, s.time, y_audio, s.edge, s.power, s.update, s.diag⟩ = s.core R := by
  unfold State.core
  simp only [sub_bit (i := 17) hm rfl, if_true]

theorem core_bridge (hm : inMask 4096 R = true) (s : State) (y_bridge) :
    State.core R ⟨s.pending, s.freeCtr, s.now, s.variant, s.out, s.dict, s.staged, s.held, s.stored, s.access, s.logs, s.pkg, s.tick, s.plan, s.lanes, s.fwd, s.fw, y_bridge, s.mem, s.cairn, s.cipher, s.time, s.audio, s.edge, s.power, s.update, s.diag⟩ = s.core R := by
  unfold State.core
  simp only [sub_bit (i := 12) hm rfl, if_true]

theorem core_bridge_power (hm : inMask 528384 R = true) (s : State) (y_bridge y_power) :
    State.core R ⟨s.pending, s.freeCtr, s.now, s.variant, s.out, s.dict, s.staged, s.held, s.stored, s.access, s.logs, s.pkg, s.tick, s.plan, s.lanes, s.fwd, s.fw, y_bridge, s.mem, s.cairn, s.cipher, s.time, s.audio, s.edge, y_power, s.update, s.diag⟩ = s.core R := by
  unfold State.core
  simp only [sub_bit (i := 12) hm rfl, sub_bit (i := 19) hm rfl, if_true]

theorem core_cairn (hm : inMask 16384 R = true) (s : State) (y_cairn) :
    State.core R ⟨s.pending, s.freeCtr, s.now, s.variant, s.out, s.dict, s.staged, s.held, s.stored, s.access, s.logs, s.pkg, s.tick, s.plan, s.lanes, s.fwd, s.fw, s.bridge, s.mem, y_cairn, s.cipher, s.time, s.audio, s.edge, s.power, s.update, s.diag⟩ = s.core R := by
  unfold State.core
  simp only [sub_bit (i := 14) hm rfl, if_true]

theorem core_cairn_cipher (hm : inMask 49152 R = true) (s : State) (y_cairn y_cipher) :
    State.core R ⟨s.pending, s.freeCtr, s.now, s.variant, s.out, s.dict, s.staged, s.held, s.stored, s.access, s.logs, s.pkg, s.tick, s.plan, s.lanes, s.fwd, s.fw, s.bridge, s.mem, y_cairn, y_cipher, s.time, s.audio, s.edge, s.power, s.update, s.diag⟩ = s.core R := by
  unfold State.core
  simp only [sub_bit (i := 14) hm rfl, sub_bit (i := 15) hm rfl, if_true]

theorem core_cipher (hm : inMask 32768 R = true) (s : State) (y_cipher) :
    State.core R ⟨s.pending, s.freeCtr, s.now, s.variant, s.out, s.dict, s.staged, s.held, s.stored, s.access, s.logs, s.pkg, s.tick, s.plan, s.lanes, s.fwd, s.fw, s.bridge, s.mem, s.cairn, y_cipher, s.time, s.audio, s.edge, s.power, s.update, s.diag⟩ = s.core R := by
  unfold State.core
  simp only [sub_bit (i := 15) hm rfl, if_true]

theorem core_diag (hm : inMask 2097152 R = true) (s : State) (y_diag) :
    State.core R ⟨s.pending, s.freeCtr, s.now, s.variant, s.out, s.dict, s.staged, s.held, s.stored, s.access, s.logs, s.pkg, s.tick, s.plan, s.lanes, s.fwd, s.fw, s.bridge, s.mem, s.cairn, s.cipher, s.time, s.audio, s.edge, s.power, s.update, y_diag⟩ = s.core R := by
  unfold State.core
  simp only [sub_bit (i := 21) hm rfl, if_true]

theorem core_dict (hm : inMask 0 R = true) (s : State) (y_dict) :
    State.core R ⟨s.pending, s.freeCtr, s.now, s.variant, s.out, y_dict, s.staged, s.held, s.stored, s.access, s.logs, s.pkg, s.tick, s.plan, s.lanes, s.fwd, s.fw, s.bridge, s.mem, s.cairn, s.cipher, s.time, s.audio, s.edge, s.power, s.update, s.diag⟩ = s.core R := rfl

theorem core_dict_cairn (hm : inMask 16384 R = true) (s : State) (y_dict y_cairn) :
    State.core R ⟨s.pending, s.freeCtr, s.now, s.variant, s.out, y_dict, s.staged, s.held, s.stored, s.access, s.logs, s.pkg, s.tick, s.plan, s.lanes, s.fwd, s.fw, s.bridge, s.mem, y_cairn, s.cipher, s.time, s.audio, s.edge, s.power, s.update, s.diag⟩ = s.core R := by
  unfold State.core
  simp only [sub_bit (i := 14) hm rfl, if_true]

theorem core_dict_logs_fwd_audio_edge (hm : inMask 394272 R = true) (s : State) (y_dict y_logs y_fwd y_audio y_edge) :
    State.core R ⟨s.pending, s.freeCtr, s.now, s.variant, s.out, y_dict, s.staged, s.held, s.stored, s.access, y_logs, s.pkg, s.tick, s.plan, s.lanes, y_fwd, s.fw, s.bridge, s.mem, s.cairn, s.cipher, s.time, y_audio, y_edge, s.power, s.update, s.diag⟩ = s.core R := by
  unfold State.core
  simp only [sub_bit (i := 5) hm rfl, sub_bit (i := 10) hm rfl, sub_bit (i := 17) hm rfl, sub_bit (i := 18) hm rfl, if_true]

theorem core_dict_staged (hm : inMask 2 R = true) (s : State) (y_dict y_staged) :
    State.core R ⟨s.pending, s.freeCtr, s.now, s.variant, s.out, y_dict, y_staged, s.held, s.stored, s.access, s.logs, s.pkg, s.tick, s.plan, s.lanes, s.fwd, s.fw, s.bridge, s.mem, s.cairn, s.cipher, s.time, s.audio, s.edge, s.power, s.update, s.diag⟩ = s.core R := by
  unfold State.core
  simp only [sub_bit (i := 1) hm rfl, if_true]

theorem core_dict_staged_held_access_logs_pkg_tick_plan_lanes_fwd_fw_bridge_mem_cairn_cipher_time_audio_edge_power_update_diag (hm : inMask 4194294 R = true) (s : State) (y_dict y_staged y_held y_access y_logs y_pkg y_tick y_plan y_lanes y_fwd y_fw y_bridge y_mem y_cairn y_cipher y_time y_audio y_edge y_power y_update y_diag) :
    State.core R ⟨s.pending, s.freeCtr, s.now, s.variant, s.out, y_dict, y_staged, y_held, s.stored, y_access, y_logs, y_pkg, y_tick, y_plan, y_lanes, y_fwd, y_fw, y_bridge, y_mem, y_cairn, y_cipher, y_time, y_audio, y_edge, y_power, y_update, y_diag⟩ = s.core R := by
  unfold State.core
  simp only [sub_bit (i := 1) hm rfl, sub_bit (i := 2) hm rfl, sub_bit (i := 4) hm rfl, sub_bit (i := 5) hm rfl, sub_bit (i := 6) hm rfl, sub_bit (i := 7) hm rfl, sub_bit (i := 8) hm rfl, sub_bit (i := 9) hm rfl, sub_bit (i := 10) hm rfl, sub_bit (i := 11) hm rfl, sub_bit (i := 12) hm rfl, sub_bit (i := 13) hm rfl, sub_bit (i := 14) hm rfl, sub_bit (i := 15) hm rfl, sub_bit (i := 16) hm rfl, sub_bit (i := 17) hm rfl, sub_bit (i := 18) hm rfl, sub_bit (i := 19) hm rfl, sub_bit (i := 20) hm rfl, sub_bit (i := 21) hm rfl, if_true]

theorem core_dict_staged_held_pkg (hm : inMask 70 R = true) (s : State) (y_dict y_staged y_held y_pkg) :
    State.core R ⟨s.pending, s.freeCtr, s.now, s.variant, s.out, y_dict, y_staged, y_held, s.stored, s.access, s.logs, y_pkg, s.tick, s.plan, s.lanes, s.fwd, s.fw, s.bridge, s.mem, s.cairn, s.cipher, s.time, s.audio, s.edge, s.power, s.update, s.diag⟩ = s.core R := by
  unfold State.core
  simp only [sub_bit (i := 1) hm rfl, sub_bit (i := 2) hm rfl, sub_bit (i := 6) hm rfl, if_true]

theorem core_dict_staged_plan (hm : inMask 258 R = true) (s : State) (y_dict y_staged y_plan) :
    State.core R ⟨s.pending, s.freeCtr, s.now, s.variant, s.out, y_dict, y_staged, s.held, s.stored, s.access, s.logs, s.pkg, s.tick, y_plan, s.lanes, s.fwd, s.fw, s.bridge, s.mem, s.cairn, s.cipher, s.time, s.audio, s.edge, s.power, s.update, s.diag⟩ = s.core R := by
  unfold State.core
  simp only [sub_bit (i := 1) hm rfl, sub_bit (i := 8) hm rfl, if_true]

theorem core_edge (hm : inMask 262144 R = true) (s : State) (y_edge) :
    State.core R ⟨s.pending, s.freeCtr, s.now, s.variant, s.out, s.dict, s.staged, s.held, s.stored, s.access, s.logs, s.pkg, s.tick, s.plan, s.lanes, s.fwd, s.fw, s.bridge, s.mem, s.cairn, s.cipher, s.time, s.audio, y_edge, s.power, s.update, s.diag⟩ = s.core R := by
  unfold State.core
  simp only [sub_bit (i := 18) hm rfl, if_true]

theorem core_freeCtr (hm : inMask 1 R = true) (s : State) (y_freeCtr) :
    State.core R ⟨s.pending, y_freeCtr, s.now, s.variant, s.out, s.dict, s.staged, s.held, s.stored, s.access, s.logs, s.pkg, s.tick, s.plan, s.lanes, s.fwd, s.fw, s.bridge, s.mem, s.cairn, s.cipher, s.time, s.audio, s.edge, s.power, s.update, s.diag⟩ = s.core R := by
  unfold State.core
  simp only [sub_bit (i := 0) hm rfl, if_true]

theorem core_fw (hm : inMask 2048 R = true) (s : State) (y_fw) :
    State.core R ⟨s.pending, s.freeCtr, s.now, s.variant, s.out, s.dict, s.staged, s.held, s.stored, s.access, s.logs, s.pkg, s.tick, s.plan, s.lanes, s.fwd, y_fw, s.bridge, s.mem, s.cairn, s.cipher, s.time, s.audio, s.edge, s.power, s.update, s.diag⟩ = s.core R := by
  unfold State.core
  simp only [sub_bit (i := 11) hm rfl, if_true]

theorem core_fwd (hm : inMask 1024 R = true) (s : State) (y_fwd) :
    State.core R ⟨s.pending, s.freeCtr, s.now, s.variant, s.out, s.dict, s.staged, s.held, s.stored, s.access, s.logs, s.pkg, s.tick, s.plan, s.lanes, y_fwd, s.fw, s.bridge, s.mem, s.cairn, s.cipher, s.time, s.audio, s.edge, s.power, s.update, s.diag⟩ = s.core R := by
  unfold State.core
  simp only [sub_bit (i := 10) hm rfl, if_true]

theorem core_fwd_bridge (hm : inMask 5120 R = true) (s : State) (y_fwd y_bridge) :
    State.core R ⟨s.pending, s.freeCtr, s.now, s.variant, s.out, s.dict, s.staged, s.held, s.stored, s.access, s.logs, s.pkg, s.tick, s.plan, s.lanes, y_fwd, s.fw, y_bridge, s.mem, s.cairn, s.cipher, s.time, s.audio, s.edge, s.power, s.update, s.diag⟩ = s.core R := by
  unfold State.core
  simp only [sub_bit (i := 10) hm rfl, sub_bit (i := 12) hm rfl, if_true]

theorem core_held (hm : inMask 4 R = true) (s : State) (y_held) :
    State.core R ⟨s.pending, s.freeCtr, s.now, s.variant, s.out, s.dict, s.staged, y_held, s.stored, s.access, s.logs, s.pkg, s.tick, s.plan, s.lanes, s.fwd, s.fw, s.bridge, s.mem, s.cairn, s.cipher, s.time, s.audio, s.edge, s.power, s.update, s.diag⟩ = s.core R := by
  unfold State.core
  simp only [sub_bit (i := 2) hm rfl, if_true]

theorem core_lanes (hm : inMask 512 R = true) (s : State) (y_lanes) :
    State.core R ⟨s.pending, s.freeCtr, s.now, s.variant, s.out, s.dict, s.staged, s.held, s.stored, s.access, s.logs, s.pkg, s.tick, s.plan, y_lanes, s.fwd, s.fw, s.bridge, s.mem, s.cairn, s.cipher, s.time, s.audio, s.edge, s.power, s.update, s.diag⟩ = s.core R := by
  unfold State.core
  simp only [sub_bit (i := 9) hm rfl, if_true]

theorem core_logs (hm : inMask 32 R = true) (s : State) (y_logs) :
    State.core R ⟨s.pending, s.freeCtr, s.now, s.variant, s.out, s.dict, s.staged, s.held, s.stored, s.access, y_logs, s.pkg, s.tick, s.plan, s.lanes, s.fwd, s.fw, s.bridge, s.mem, s.cairn, s.cipher, s.time, s.audio, s.edge, s.power, s.update, s.diag⟩ = s.core R := by
  unfold State.core
  simp only [sub_bit (i := 5) hm rfl, if_true]

theorem core_logs_cairn (hm : inMask 16416 R = true) (s : State) (y_logs y_cairn) :
    State.core R ⟨s.pending, s.freeCtr, s.now, s.variant, s.out, s.dict, s.staged, s.held, s.stored, s.access, y_logs, s.pkg, s.tick, s.plan, s.lanes, s.fwd, s.fw, s.bridge, s.mem, y_cairn, s.cipher, s.time, s.audio, s.edge, s.power, s.update, s.diag⟩ = s.core R := by
  unfold State.core
  simp only [sub_bit (i := 5) hm rfl, sub_bit (i := 14) hm rfl, if_true]

theorem core_mem (hm : inMask 8192 R = true) (s : State) (y_mem) :
    State.core R ⟨s.pending, s.freeCtr, s.now, s.variant, s.out, s.dict, s.staged, s.held, s.stored, s.access, s.logs, s.pkg, s.tick, s.plan, s.lanes, s.fwd, s.fw, s.bridge, y_mem, s.cairn, s.cipher, s.time, s.audio, s.edge, s.power, s.update, s.diag⟩ = s.core R := by
  unfold State.core
  simp only [sub_bit (i := 13) hm rfl, if_true]

theorem core_mem_cairn_cipher (hm : inMask 57344 R = true) (s : State) (y_mem y_cairn y_cipher) :
    State.core R ⟨s.pending, s.freeCtr, s.now, s.variant, s.out, s.dict, s.staged, s.held, s.stored, s.access, s.logs, s.pkg, s.tick, s.plan, s.lanes, s.fwd, s.fw, s.bridge, y_mem, y_cairn, y_cipher, s.time, s.audio, s.edge, s.power, s.update, s.diag⟩ = s.core R := by
  unfold State.core
  simp only [sub_bit (i := 13) hm rfl, sub_bit (i := 14) hm rfl, sub_bit (i := 15) hm rfl, if_true]

theorem core_now_out (hm : inMask 4194304 R = true) (s : State) (y_now y_out) :
    State.core R ⟨s.pending, s.freeCtr, y_now, s.variant, y_out, s.dict, s.staged, s.held, s.stored, s.access, s.logs, s.pkg, s.tick, s.plan, s.lanes, s.fwd, s.fw, s.bridge, s.mem, s.cairn, s.cipher, s.time, s.audio, s.edge, s.power, s.update, s.diag⟩ = s.core R := by
  unfold State.core
  simp only [sub_bit (i := 22) hm rfl, if_true]

theorem core_out (hm : inMask 0 R = true) (s : State) (y_out) :
    State.core R ⟨s.pending, s.freeCtr, s.now, s.variant, y_out, s.dict, s.staged, s.held, s.stored, s.access, s.logs, s.pkg, s.tick, s.plan, s.lanes, s.fwd, s.fw, s.bridge, s.mem, s.cairn, s.cipher, s.time, s.audio, s.edge, s.power, s.update, s.diag⟩ = s.core R := rfl

theorem core_pkg (hm : inMask 64 R = true) (s : State) (y_pkg) :
    State.core R ⟨s.pending, s.freeCtr, s.now, s.variant, s.out, s.dict, s.staged, s.held, s.stored, s.access, s.logs, y_pkg, s.tick, s.plan, s.lanes, s.fwd, s.fw, s.bridge, s.mem, s.cairn, s.cipher, s.time, s.audio, s.edge, s.power, s.update, s.diag⟩ = s.core R := by
  unfold State.core
  simp only [sub_bit (i := 6) hm rfl, if_true]

theorem core_pkg_bridge_update (hm : inMask 1052736 R = true) (s : State) (y_pkg y_bridge y_update) :
    State.core R ⟨s.pending, s.freeCtr, s.now, s.variant, s.out, s.dict, s.staged, s.held, s.stored, s.access, s.logs, y_pkg, s.tick, s.plan, s.lanes, s.fwd, s.fw, y_bridge, s.mem, s.cairn, s.cipher, s.time, s.audio, s.edge, s.power, y_update, s.diag⟩ = s.core R := by
  unfold State.core
  simp only [sub_bit (i := 6) hm rfl, sub_bit (i := 12) hm rfl, sub_bit (i := 20) hm rfl, if_true]

theorem core_pkg_cairn (hm : inMask 16448 R = true) (s : State) (y_pkg y_cairn) :
    State.core R ⟨s.pending, s.freeCtr, s.now, s.variant, s.out, s.dict, s.staged, s.held, s.stored, s.access, s.logs, y_pkg, s.tick, s.plan, s.lanes, s.fwd, s.fw, s.bridge, s.mem, y_cairn, s.cipher, s.time, s.audio, s.edge, s.power, s.update, s.diag⟩ = s.core R := by
  unfold State.core
  simp only [sub_bit (i := 6) hm rfl, sub_bit (i := 14) hm rfl, if_true]

theorem core_pkg_cairn_update (hm : inMask 1065024 R = true) (s : State) (y_pkg y_cairn y_update) :
    State.core R ⟨s.pending, s.freeCtr, s.now, s.variant, s.out, s.dict, s.staged, s.held, s.stored, s.access, s.logs, y_pkg, s.tick, s.plan, s.lanes, s.fwd, s.fw, s.bridge, s.mem, y_cairn, s.cipher, s.time, s.audio, s.edge, s.power, y_update, s.diag⟩ = s.core R := by
  unfold State.core
  simp only [sub_bit (i := 6) hm rfl, sub_bit (i := 14) hm rfl, sub_bit (i := 20) hm rfl, if_true]

theorem core_pkg_plan_diag (hm : inMask 2097472 R = true) (s : State) (y_pkg y_plan y_diag) :
    State.core R ⟨s.pending, s.freeCtr, s.now, s.variant, s.out, s.dict, s.staged, s.held, s.stored, s.access, s.logs, y_pkg, s.tick, y_plan, s.lanes, s.fwd, s.fw, s.bridge, s.mem, s.cairn, s.cipher, s.time, s.audio, s.edge, s.power, s.update, y_diag⟩ = s.core R := by
  unfold State.core
  simp only [sub_bit (i := 6) hm rfl, sub_bit (i := 8) hm rfl, sub_bit (i := 21) hm rfl, if_true]

theorem core_pkg_plan_power (hm : inMask 524608 R = true) (s : State) (y_pkg y_plan y_power) :
    State.core R ⟨s.pending, s.freeCtr, s.now, s.variant, s.out, s.dict, s.staged, s.held, s.stored, s.access, s.logs, y_pkg, s.tick, y_plan, s.lanes, s.fwd, s.fw, s.bridge, s.mem, s.cairn, s.cipher, s.time, s.audio, s.edge, y_power, s.update, s.diag⟩ = s.core R := by
  unfold State.core
  simp only [sub_bit (i := 6) hm rfl, sub_bit (i := 8) hm rfl, sub_bit (i := 19) hm rfl, if_true]

theorem core_pkg_plan_update (hm : inMask 1048896 R = true) (s : State) (y_pkg y_plan y_update) :
    State.core R ⟨s.pending, s.freeCtr, s.now, s.variant, s.out, s.dict, s.staged, s.held, s.stored, s.access, s.logs, y_pkg, s.tick, y_plan, s.lanes, s.fwd, s.fw, s.bridge, s.mem, s.cairn, s.cipher, s.time, s.audio, s.edge, s.power, y_update, s.diag⟩ = s.core R := by
  unfold State.core
  simp only [sub_bit (i := 6) hm rfl, sub_bit (i := 8) hm rfl, sub_bit (i := 20) hm rfl, if_true]

theorem core_pkg_update (hm : inMask 1048640 R = true) (s : State) (y_pkg y_update) :
    State.core R ⟨s.pending, s.freeCtr, s.now, s.variant, s.out, s.dict, s.staged, s.held, s.stored, s.access, s.logs, y_pkg, s.tick, s.plan, s.lanes, s.fwd, s.fw, s.bridge, s.mem, s.cairn, s.cipher, s.time, s.audio, s.edge, s.power, y_update, s.diag⟩ = s.core R := by
  unfold State.core
  simp only [sub_bit (i := 6) hm rfl, sub_bit (i := 20) hm rfl, if_true]

theorem core_plan (hm : inMask 256 R = true) (s : State) (y_plan) :
    State.core R ⟨s.pending, s.freeCtr, s.now, s.variant, s.out, s.dict, s.staged, s.held, s.stored, s.access, s.logs, s.pkg, s.tick, y_plan, s.lanes, s.fwd, s.fw, s.bridge, s.mem, s.cairn, s.cipher, s.time, s.audio, s.edge, s.power, s.update, s.diag⟩ = s.core R := by
  unfold State.core
  simp only [sub_bit (i := 8) hm rfl, if_true]

theorem core_plan_power (hm : inMask 524544 R = true) (s : State) (y_plan y_power) :
    State.core R ⟨s.pending, s.freeCtr, s.now, s.variant, s.out, s.dict, s.staged, s.held, s.stored, s.access, s.logs, s.pkg, s.tick, y_plan, s.lanes, s.fwd, s.fw, s.bridge, s.mem, s.cairn, s.cipher, s.time, s.audio, s.edge, y_power, s.update, s.diag⟩ = s.core R := by
  unfold State.core
  simp only [sub_bit (i := 8) hm rfl, sub_bit (i := 19) hm rfl, if_true]

theorem core_power (hm : inMask 524288 R = true) (s : State) (y_power) :
    State.core R ⟨s.pending, s.freeCtr, s.now, s.variant, s.out, s.dict, s.staged, s.held, s.stored, s.access, s.logs, s.pkg, s.tick, s.plan, s.lanes, s.fwd, s.fw, s.bridge, s.mem, s.cairn, s.cipher, s.time, s.audio, s.edge, y_power, s.update, s.diag⟩ = s.core R := by
  unfold State.core
  simp only [sub_bit (i := 19) hm rfl, if_true]

theorem core_staged (hm : inMask 2 R = true) (s : State) (y_staged) :
    State.core R ⟨s.pending, s.freeCtr, s.now, s.variant, s.out, s.dict, y_staged, s.held, s.stored, s.access, s.logs, s.pkg, s.tick, s.plan, s.lanes, s.fwd, s.fw, s.bridge, s.mem, s.cairn, s.cipher, s.time, s.audio, s.edge, s.power, s.update, s.diag⟩ = s.core R := by
  unfold State.core
  simp only [sub_bit (i := 1) hm rfl, if_true]

theorem core_staged_plan (hm : inMask 258 R = true) (s : State) (y_staged y_plan) :
    State.core R ⟨s.pending, s.freeCtr, s.now, s.variant, s.out, s.dict, y_staged, s.held, s.stored, s.access, s.logs, s.pkg, s.tick, y_plan, s.lanes, s.fwd, s.fw, s.bridge, s.mem, s.cairn, s.cipher, s.time, s.audio, s.edge, s.power, s.update, s.diag⟩ = s.core R := by
  unfold State.core
  simp only [sub_bit (i := 1) hm rfl, sub_bit (i := 8) hm rfl, if_true]

theorem core_stored (hm : inMask 8 R = true) (s : State) (y_stored) :
    State.core R ⟨s.pending, s.freeCtr, s.now, s.variant, s.out, s.dict, s.staged, s.held, y_stored, s.access, s.logs, s.pkg, s.tick, s.plan, s.lanes, s.fwd, s.fw, s.bridge, s.mem, s.cairn, s.cipher, s.time, s.audio, s.edge, s.power, s.update, s.diag⟩ = s.core R := by
  unfold State.core
  simp only [sub_bit (i := 3) hm rfl, if_true]

theorem core_tick (hm : inMask 128 R = true) (s : State) (y_tick) :
    State.core R ⟨s.pending, s.freeCtr, s.now, s.variant, s.out, s.dict, s.staged, s.held, s.stored, s.access, s.logs, s.pkg, y_tick, s.plan, s.lanes, s.fwd, s.fw, s.bridge, s.mem, s.cairn, s.cipher, s.time, s.audio, s.edge, s.power, s.update, s.diag⟩ = s.core R := by
  unfold State.core
  simp only [sub_bit (i := 7) hm rfl, if_true]

theorem core_time (hm : inMask 65536 R = true) (s : State) (y_time) :
    State.core R ⟨s.pending, s.freeCtr, s.now, s.variant, s.out, s.dict, s.staged, s.held, s.stored, s.access, s.logs, s.pkg, s.tick, s.plan, s.lanes, s.fwd, s.fw, s.bridge, s.mem, s.cairn, s.cipher, y_time, s.audio, s.edge, s.power, s.update, s.diag⟩ = s.core R := by
  unfold State.core
  simp only [sub_bit (i := 16) hm rfl, if_true]

theorem core_update (hm : inMask 1048576 R = true) (s : State) (y_update) :
    State.core R ⟨s.pending, s.freeCtr, s.now, s.variant, s.out, s.dict, s.staged, s.held, s.stored, s.access, s.logs, s.pkg, s.tick, s.plan, s.lanes, s.fwd, s.fw, s.bridge, s.mem, s.cairn, s.cipher, s.time, s.audio, s.edge, s.power, y_update, s.diag⟩ = s.core R := by
  unfold State.core
  simp only [sub_bit (i := 20) hm rfl, if_true]

end

theorem core_snd_ite {R : Nat} {α : Type} (c : Prop) [Decidable c] (a b : α × State) :
    (if c then a else b).2.core R = if c then a.2.core R else b.2.core R := by
  split <;> rfl






theorem core_fold2 {R : Nat} {α β : Type} (f : β × State → α → β × State) (h : ∀ p a, (f p a).2.core R = p.2.core R) (l : List α)
    (p : β × State) : (l.foldl f p).2.core R = p.2.core R := by
  induction l generalizing p with
  | nil => rfl
  | cons a l ih => rw [List.foldl_cons, ih, h]






theorem core_getD {R : Nat} (o : Option State) (s : State) (h : ∀ t, o = some t → t.core R = s.core R) : (o.getD s).core R = s.core R := by
  cases o with
  | none => rfl
  | some t => exact h t rfl






theorem core_fold3 {R : Nat} {α β γ : Type} (f : β × γ × State → α → β × γ × State) (h : ∀ p a, (f p a).2.2.core R = p.2.2.core R)
    (l : List α) (p : β × γ × State) : (l.foldl f p).2.2.core R = p.2.2.core R := by
  induction l generalizing p with
  | nil => rfl
  | cons a l ih => rw [List.foldl_cons, ih, h]

theorem core_mapD {R : Nat} {α : Type} (o : Option α) (g : α → State) (s : State) (h : ∀ a, (g a).core R = s.core R) :
    ((o.map g).getD s).core R = s.core R := by
  cases o with
  | none => rfl
  | some a => exact h a

theorem State.setO_core {R : Nat} (hm : inMask 0 R = true) (s : State) (k : Nat) (v : Int) : (State.setO s k v).core R = s.core R := by
  simp only [State.setO, ↓core_dict (sb hm rfl)]

theorem State.setN_core {R : Nat} (hm : inMask 0 R = true) (s : State) (k : Nat) (v : Nat) : (State.setN s k v).core R = s.core R := by
  simp only [State.setN, ↓State.setO_core (sb hm rfl)]

theorem State.addTo_core {R : Nat} (hm : inMask 0 R = true) (s : State) (k : Nat) (n : Nat) (hi : Nat) : (State.addTo s k n hi).core R = s.core R := by
  simp only [State.addTo, ↓State.setN_core (sb hm rfl)]

theorem State.inc32_core {R : Nat} (hm : inMask 0 R = true) (s : State) (k : Nat) : (State.inc32 s k).core R = s.core R := by
  simp only [State.inc32, ↓State.addTo_core (sb hm rfl)]

theorem State.inc64_core {R : Nat} (hm : inMask 0 R = true) (s : State) (k : Nat) : (State.inc64 s k).core R = s.core R := by
  simp only [State.inc64, ↓State.addTo_core (sb hm rfl)]

theorem State.setFlag_core {R : Nat} (hm : inMask 0 R = true) (s : State) (k : Nat) (i : Nat) (b : Bool) : (State.setFlag s k i b).core R = s.core R := by
  simp only [State.setFlag, ↓State.setN_core (sb hm rfl)]

theorem State.clearAll_core {R : Nat} (hm : inMask 0 R = true) (s : State) (ks : List Nat) : (State.clearAll s ks).core R = s.core R := by
  unfold State.clearAll
  repeat' (first | with_reducible rfl | rw [core_foldl] | intro _ | split | simp only [↓State.setN_core (sb hm rfl)])

theorem State.setBlob_core {R : Nat} (hm : inMask 0 R = true) (s : State) (k : Nat) (b : Bytes) : (State.setBlob s k b).core R = s.core R := by
  simp only [State.setBlob, ↓core_dict (sb hm rfl)]

theorem State.setVal_core {R : Nat} (hm : inMask 0 R = true) (s : State) (k : Nat) (a1 : Val) : (State.setVal s k a1).core R = s.core R := by
  unfold State.setVal
  repeat' (first | with_reducible rfl | split | simp only [↓State.setO_core (sb hm rfl), ↓State.setBlob_core (sb hm rfl)])

theorem State.drawn_core {R : Nat} (hm : inMask 1 R = true) (s : State) : (State.drawn s).core R = s.core R := by
  simp only [State.drawn, ↓core_freeCtr (sb hm rfl)]

theorem State.begin_core {R : Nat} (hm : inMask 4194304 R = true) (t : Nat) (s : State) : (State.begin t s).core R = s.core R := by
  simp only [State.begin, ↓core_now_out (sb hm rfl)]

theorem State.emit_core {R : Nat} (hm : inMask 0 R = true) (s : State) (o : Out) : (State.emit s o).core R = s.core R := by
  simp only [State.emit, ↓core_out (sb hm rfl)]

theorem State.logBytes_core {R : Nat} (hm : inMask 32 R = true) (s : State) (d : Nat) (n : Nat) : (State.logBytes s d n).core R = s.core R := by
  simp only [State.logBytes, ↓State.addTo_core (sb hm rfl), ↓core_logs (sb hm rfl)]

theorem State.logOn_core {R : Nat} (hm : inMask 32 R = true) (s : State) (d : Nat) (e : EventRec) : (State.logOn s d e).core R = s.core R := by
  simp only [State.logOn, ↓core_logs (sb hm rfl), ↓core_ite, ite_self]

theorem State.logEv_core {R : Nat} (hm : inMask 32 R = true) (s : State) (d : Nat) (ev : Ev) (unit : Nat) (data : List (Nat × Nat)) : (State.logEv s d ev unit data).core R = s.core R := by
  simp only [State.logEv, ↓State.logOn_core (sb hm rfl), ↓core_ite, ite_self]

theorem State.logLead_core {R : Nat} (hm : inMask 32 R = true) (s : State) (ev : Ev) (unit : Nat) (data : List (Nat × Nat)) : (State.logLead s ev unit data).core R = s.core R := by
  simp only [State.logLead, ↓State.logEv_core (sb hm rfl)]

theorem State.traffic_core {R : Nat} (hm : inMask 524288 R = true) (s : State) : (State.traffic s).core R = s.core R := by
  simp only [State.traffic, ↓core_power (sb hm rfl)]

theorem State.updLane_core {R : Nat} (hm : inMask 512 R = true) (s : State) (n : Nat) (f : LaneSt → LaneSt) : (State.updLane s n f).core R = s.core R := by
  simp only [State.updLane, ↓core_lanes (sb hm rfl)]

theorem done_core (s : State) (t' : State) (h : (done s) = .next t') : t'.core 0 = s.core 0 := by
  have hm : inMask 0 0 = true := rfl
  simp only [done, Host.Outcome.next.injEq] at h
  subst h
  simp only []

theorem State.raiseInt_core {R : Nat} (hm : inMask 4096 R = true) (s : State) (d : Nat) (src : Nat) : (State.raiseInt s d src).core R = s.core R := by
  simp only [State.raiseInt, ↓core_bridge (sb hm rfl), ↓core_ite, ite_self]

theorem State.setMailbox_core {R : Nat} (hm : inMask 4096 R = true) (s : State) (d : Nat) (m : SMap Byte) : (State.setMailbox s d m).core R = s.core R := by
  simp only [State.setMailbox, ↓core_bridge (sb hm rfl)]

theorem State.ringHost_core {R : Nat} (hm : inMask 4096 R = true) (s : State) (b : Nat) : (State.ringHost s b).core R = s.core R := by
  unfold State.ringHost
  repeat' (first | with_reducible rfl | split | simp only [↓State.raiseInt_core (sb hm rfl), ↓core_bridge (sb hm rfl)])

theorem State.mailRespond_core {R : Nat} (hm : inMask 4096 R = true) (s : State) (b : Bytes) : (State.mailRespond s b).core R = s.core R := by
  unfold State.mailRespond
  repeat' (first | with_reducible rfl | split | simp only [↓State.ringHost_core (sb hm rfl), ↓State.setMailbox_core (sb hm rfl)])

theorem State.reply_core {R : Nat} (hm : inMask 4096 R = true) (s : State) (who : Who) (r : Response) : (State.reply s who r).core R = s.core R := by
  simp only [State.reply, ↓State.emit_core (sb hm rfl), ↓State.mailRespond_core (sb hm rfl), ↓core_ite, ite_self]

theorem State.updSession_core {R : Nat} (hm : inMask 16 R = true) (s : State) (n : Nat) (f : Session → Session) : (State.updSession s n f).core R = s.core R := by
  unfold State.updSession
  repeat' (first | with_reducible rfl | split | simp only [↓core_access (sb hm rfl)])

theorem State.answer_core {R : Nat} (hm : inMask 4112 R = true) (s : State) (who : Who) (r : Response) : (State.answer s who r).core R = s.core R := by
  unfold State.answer
  repeat' (first | with_reducible rfl | split | simp only [↓State.reply_core (sb hm rfl), ↓State.updSession_core (sb hm rfl)])

theorem serve_core {R : Nat} (hm : inMask 528400 R = true) (who : Who) (body : Session → State → Response × State) (s : State) (hbody : ∀ y0 y1, (body y0 y1).2.core R = y1.core R) : (serve who body s).core R = s.core R := by
  unfold serve
  repeat' (first | with_reducible rfl | split | simp only [↓hbody, ↓State.reply_core (sb hm rfl), ↓State.traffic_core (sb hm rfl), ↓State.answer_core (sb hm rfl)])

theorem State.countDenial_core {R : Nat} (hm : inMask 0 R = true) (s : State) (st : Status) : (State.countDenial s st).core R = s.core R := by
  simp only [State.countDenial, ↓State.inc32_core (sb hm rfl), ↓core_ite, ite_self]

theorem State.touch_core {R : Nat} (hm : inMask 16 R = true) (s : State) (sess : Nat) (m : Nat) (selector : Bool) : (State.touch s sess m selector).core R = s.core R := by
  simp only [State.touch, ↓State.updSession_core (sb hm rfl), ↓core_ite, ite_self]

theorem State.holdT_core {R : Nat} (hm : inMask 4 R = true) (s : State) (k : Nat) (v : Val) : (State.holdT s k v).core R = s.core R := by
  simp only [State.holdT, ↓core_held (sb hm rfl)]

theorem State.txnAdd_core {R : Nat} (hm : inMask 16 R = true) (s : State) (sess : Nat) (k : Nat) (bytes : Nat) (v : Val) : (State.txnAdd s sess k bytes v).2.core R = s.core R := by
  unfold State.txnAdd
  repeat' (first | with_reducible rfl | split | simp only [↓State.updSession_core (sb hm rfl)])

theorem writeCmd_core {R : Nat} (hm : inMask 16 R = true) (sess : Nat) (idx : Nat) (sub : Nat) (v : Nat) (act : Session → State → Status × State) (x : Session) (s : State) (hact : ∀ y0 y1, (act y0 y1).2.core R = y1.core R) : (writeCmd sess idx sub v act x s).2.core R = s.core R := by
  unfold writeCmd
  repeat' (first | with_reducible rfl | split | simp only [↓hact, ↓State.countDenial_core (sb hm rfl), ↓State.touch_core (sb hm rfl)])

theorem writeDom_core {R : Nat} (hm : inMask 16 R = true) (sess : Nat) (idx : Nat) (sub : Nat) (b : Bytes) (lo : Nat) (hi : Nat) (ok : State → Bool) (act : Session → State → Status × State) (x : Session) (s : State) (hact : ∀ y0 y1, (act y0 y1).2.core R = y1.core R) : (writeDom sess idx sub b lo hi ok act x s).2.core R = s.core R := by
  unfold writeDom
  repeat' (first | with_reducible rfl | split | simp only [↓hact, ↓State.countDenial_core (sb hm rfl), ↓State.touch_core (sb hm rfl)])

theorem writeWin_core {R : Nat} (hm : inMask 16 R = true) (sess : Nat) (idx : Nat) (sub : Nat) (b : Bytes) (count : Nat) (size : Nat) (ok : Session → State → Bool) (act : Session → State → Status × State) (x : Session) (s : State) (hact : ∀ y0 y1, (act y0 y1).2.core R = y1.core R) : (writeWin sess idx sub b count size ok act x s).2.core R = s.core R := by
  unfold writeWin
  repeat' (first | with_reducible rfl | split | simp only [↓hact, ↓State.countDenial_core (sb hm rfl), ↓State.touch_core (sb hm rfl)])

theorem cmdRow_core {R : Nat} (hm : inMask 4722704 R = true) (t : Nat) (who : Who) (idx : Nat) (sub : Nat) (v : Nat) (act : Session → State → Status × State) (s : State) (hact : ∀ y0 y1, (act y0 y1).2.core R = y1.core R) (t' : State) (h : (cmdRow t who idx sub v act s) = .next t') : t'.core R = s.core R := by
  simp only [cmdRow, Host.Outcome.next.injEq] at h
  subst h
  repeat' (first | with_reducible rfl | rw [core_foldl] | rw [serve_core (sb hm rfl)] | rw [writeCmd_core (sb hm rfl)] | intro _ | split | simp only [↓hact, ↓State.begin_core (sb hm rfl)])

theorem domRow_core {R : Nat} (hm : inMask 4722704 R = true) (t : Nat) (who : Who) (idx : Nat) (sub : Nat) (b : Bytes) (lo : Nat) (hi : Nat) (ok : State → Bool) (act : Session → State → Status × State) (s : State) (hact : ∀ y0 y1, (act y0 y1).2.core R = y1.core R) (t' : State) (h : (domRow t who idx sub b lo hi ok act s) = .next t') : t'.core R = s.core R := by
  simp only [domRow, Host.Outcome.next.injEq] at h
  subst h
  repeat' (first | with_reducible rfl | rw [core_foldl] | rw [serve_core (sb hm rfl)] | rw [writeDom_core (sb hm rfl)] | intro _ | split | simp only [↓hact, ↓State.begin_core (sb hm rfl)])

theorem State.stopLists_core {R : Nat} (hm : inMask 512 R = true) (s : State) : (State.stopLists s).core R = s.core R := by
  simp only [State.stopLists, ↓core_lanes (sb hm rfl)]

theorem State.loseScheduled_core {R : Nat} (hm : inMask 512 R = true) (s : State) : (State.loseScheduled s).core R = s.core R := by
  unfold State.loseScheduled
  repeat' (first | with_reducible rfl | rw [core_foldl] | intro _ | split | simp only [↓State.updLane_core (sb hm rfl), ↓State.addTo_core (sb hm rfl)])

theorem State.enterHold_core {R : Nat} (hm : inMask 640 R = true) (s : State) : (State.enterHold s).core R = s.core R := by
  simp only [State.enterHold, ↓State.loseScheduled_core (sb hm rfl), ↓State.setFlag_core (sb hm rfl), ↓State.setN_core (sb hm rfl), ↓State.stopLists_core (sb hm rfl), ↓core_tick (sb hm rfl)]

theorem lockHoldTimeout_core {R : Nat} (hm : inMask 0 R = true) (s : State) : (lockHoldTimeout s).core R = s.core R := by
  simp only [lockHoldTimeout, ↓State.setFlag_core (sb hm rfl), ↓State.setN_core (sb hm rfl), ↓core_ite, ite_self]

theorem execLockHoldTimeout_core (t : Nat) (s : State) (t' : State) (h : (execLockHoldTimeout t s) = .next t') : t'.core 4194304 = s.core 4194304 := by
  have hm : inMask 4194304 4194304 = true := rfl
  simp only [execLockHoldTimeout, Host.Outcome.next.injEq] at h
  subst h
  simp only [↓lockHoldTimeout_core (sb hm rfl), ↓State.begin_core (sb hm rfl)]

theorem lockDeclared_core {R : Nat} (hm : inMask 160 R = true) (s : State) : (lockDeclared s).core R = s.core R := by
  simp only [lockDeclared, ↓State.setFlag_core (sb hm rfl), ↓State.setN_core (sb hm rfl), ↓State.logLead_core (sb hm rfl), ↓core_tick (sb hm rfl), ↓core_ite, ite_self]

theorem execFirstLock_core (t : Nat) (s : State) (t' : State) (h : (execFirstLock t s) = .next t') : t'.core 4194464 = s.core 4194464 := by
  have hm : inMask 4194464 4194464 = true := rfl
  simp only [execFirstLock, Host.Outcome.next.injEq] at h
  subst h
  simp only [↓lockDeclared_core (sb hm rfl), ↓State.begin_core (sb hm rfl)]

theorem State.moveSwitches_core {R : Nat} (hm : inMask 256 R = true) (s : State) (e : Nat) : (State.moveSwitches s e).core R = s.core R := by
  unfold State.moveSwitches
  repeat' (first | with_reducible rfl | rw [core_foldl] | intro _ | split | simp only [↓State.setN_core (sb hm rfl), ↓core_plan (sb hm rfl), ↓core_ite, ite_self])

theorem startStretch_core {R : Nat} (hm : inMask 928 R = true) (g : Nat) (s : State) : (startStretch g s).core R = s.core R := by
  simp only [startStretch, ↓State.enterHold_core (sb hm rfl), ↓State.setFlag_core (sb hm rfl), ↓State.moveSwitches_core (sb hm rfl), ↓State.setN_core (sb hm rfl), ↓State.logLead_core (sb hm rfl), ↓core_tick (sb hm rfl), ↓core_ite, ite_self]

theorem execStretchTickStart_core (t : Nat) (gptp : Nat) (s : State) (t' : State) (h : (execStretchTickStart t gptp s) = .next t') : t'.core 4195232 = s.core 4195232 := by
  have hm : inMask 4195232 4195232 = true := rfl
  simp only [execStretchTickStart, Host.Outcome.next.injEq] at h
  subst h
  simp only [↓startStretch_core (sb hm rfl), ↓State.begin_core (sb hm rfl)]

theorem State.setPhaseError_core {R : Nat} (hm : inMask 0 R = true) (s : State) (e : Int) : (State.setPhaseError s e).core R = s.core R := by
  simp only [State.setPhaseError, ↓State.setFlag_core (sb hm rfl), ↓State.setO_core (sb hm rfl)]

theorem endStretch_core {R : Nat} (hm : inMask 128 R = true) (s : State) : (endStretch s).core R = s.core R := by
  unfold endStretch
  repeat' (first | with_reducible rfl | split | simp only [↓State.setN_core (sb hm rfl), ↓State.setFlag_core (sb hm rfl), ↓State.setPhaseError_core (sb hm rfl), ↓core_tick (sb hm rfl)])

theorem execStretchTickEnd_core (t : Nat) (s : State) (t' : State) (h : (execStretchTickEnd t s) = .next t') : t'.core 4194432 = s.core 4194432 := by
  have hm : inMask 4194432 4194432 = true := rfl
  simp only [execStretchTickEnd, Host.Outcome.next.injEq] at h
  subst h
  simp only [↓endStretch_core (sb hm rfl), ↓State.begin_core (sb hm rfl)]

theorem State.seekGate_core {R : Nat} (hm : inMask 512 R = true) (s : State) (n : Nat) : (State.seekGate s n).core R = s.core R := by
  simp only [State.seekGate, ↓State.updLane_core (sb hm rfl)]

theorem laneHoldEnd_core {R : Nat} (hm : inMask 512 R = true) (lane : Nat) (s : State) : (laneHoldEnd lane s).core R = s.core R := by
  simp only [laneHoldEnd, ↓State.updLane_core (sb hm rfl), ↓State.setFlag_core (sb hm rfl), ↓core_ite, ite_self]

theorem execHoldEnd_core (t : Nat) (lane : Nat) (s : State) (t' : State) (h : (execHoldEnd t lane s) = .next t') : t'.core 4194816 = s.core 4194816 := by
  have hm : inMask 4194816 4194816 = true := rfl
  simp only [execHoldEnd, Host.Outcome.next.injEq] at h
  subst h
  simp only [↓laneHoldEnd_core (sb hm rfl), ↓State.begin_core (sb hm rfl)]

theorem requestRealign_core {R : Nat} (hm : inMask 128 R = true) (a1 : Session) (s : State) : (requestRealign a1 s).2.core R = s.core R := by
  simp only [requestRealign, ↓State.setFlag_core (sb hm rfl), ↓core_tick (sb hm rfl)]

theorem execReAlignTick_core (t : Nat) (who : Who) (s : State) (t' : State) (h : (execReAlignTick t who s) = .next t') : t'.core 4722832 = s.core 4722832 := by
  have hm : inMask 4722832 4722832 = true := rfl
  simp only [execReAlignTick, cmdRow, Host.Outcome.next.injEq] at h
  subst h
  repeat' (first | with_reducible rfl | rw [core_foldl] | rw [serve_core (sb hm rfl)] | rw [writeCmd_core (sb hm rfl)] | intro _ | split | simp only [↓requestRealign_core (sb hm rfl), ↓State.begin_core (sb hm rfl)])

theorem tickHoldover_core {R : Nat} (hm : inMask 160 R = true) (s : State) : (tickHoldover s).core R = s.core R := by
  simp only [tickHoldover, ↓State.setFlag_core (sb hm rfl), ↓State.setN_core (sb hm rfl), ↓State.logLead_core (sb hm rfl), ↓core_tick (sb hm rfl), ↓core_ite, ite_self]

theorem execHoldover_core (t : Nat) (s : State) (t' : State) (h : (execHoldover t s) = .next t') : t'.core 4194464 = s.core 4194464 := by
  have hm : inMask 4194464 4194464 = true := rfl
  simp only [execHoldover, Host.Outcome.next.injEq] at h
  subst h
  simp only [↓tickHoldover_core (sb hm rfl), ↓State.begin_core (sb hm rfl)]

theorem slewPhase_core {R : Nat} (hm : inMask 0 R = true) (s : State) : (slewPhase s).core R = s.core R := by
  simp only [slewPhase, ↓State.setPhaseError_core (sb hm rfl)]

theorem nextTick_core {R : Nat} (hm : inMask 928 R = true) (g : Nat) (s : State) : (nextTick g s).core R = s.core R := by
  unfold nextTick
  repeat' (first | with_reducible rfl | split | simp only [↓startStretch_core (sb hm rfl), ↓endStretch_core (sb hm rfl), ↓slewPhase_core (sb hm rfl), ↓State.setN_core (sb hm rfl), ↓core_tick (sb hm rfl)])

theorem State.noteStaged_core {R : Nat} (hm : inMask 256 R = true) (s : State) (slot : Nat) (gone : Bool) : (State.noteStaged s slot gone).core R = s.core R := by
  simp only [State.noteStaged, ↓core_plan (sb hm rfl)]

theorem State.dropStaged_core {R : Nat} (hm : inMask 258 R = true) (s : State) (slot : Nat) : (State.dropStaged s slot).core R = s.core R := by
  simp only [State.dropStaged, ↓core_staged_plan (sb hm rfl)]

theorem State.putStaged_core {R : Nat} (hm : inMask 258 R = true) (s : State) (slot : Nat) (r : Bytes) : (State.putStaged s slot r).core R = s.core R := by
  simp only [State.putStaged, ↓core_staged_plan (sb hm rfl)]

theorem State.putDelete_core {R : Nat} (hm : inMask 258 R = true) (s : State) (slot : Nat) : (State.putDelete s slot).core R = s.core R := by
  simp only [State.putDelete, ↓State.dropStaged_core (sb hm rfl), ↓core_plan (sb hm rfl)]

theorem State.enterSlot_core {R : Nat} (hm : inMask 0 R = true) (s : State) (slot : Nat) (st : Nat) : (State.enterSlot s slot st).core R = s.core R := by
  simp only [State.enterSlot, ↓State.setN_core (sb hm rfl), ↓core_dict (sb hm rfl), ↓core_ite, ite_self]

theorem State.recountBroken_core {R : Nat} (hm : inMask 0 R = true) (s : State) : (State.recountBroken s).core R = s.core R := by
  simp only [State.recountBroken, ↓State.setN_core (sb hm rfl)]

theorem stageRecord_core {R : Nat} (hm : inMask 258 R = true) (slot : Nat) (r : Bytes) (a1 : Session) (s : State) : (stageRecord slot r a1 s).2.core R = s.core R := by
  simp only [stageRecord, ↓State.recountBroken_core (sb hm rfl), ↓State.enterSlot_core (sb hm rfl), ↓State.noteStaged_core (sb hm rfl), ↓State.putStaged_core (sb hm rfl)]

theorem execStageRecord_core (t : Nat) (who : Who) (slot : Nat) (rec : Bytes) (s : State) (t' : State) (h : (execStageRecord t who slot rec s) = .next t') : t'.core 4722962 = s.core 4722962 := by
  have hm : inMask 4722962 4722962 = true := rfl
  simp only [execStageRecord, domRow, Host.Outcome.next.injEq] at h
  subst h
  repeat' (first | with_reducible rfl | rw [core_foldl] | rw [serve_core (sb hm rfl)] | rw [writeDom_core (sb hm rfl)] | intro _ | split | simp only [↓stageRecord_core (sb hm rfl), ↓State.begin_core (sb hm rfl)])

theorem stageDelete_core {R : Nat} (hm : inMask 258 R = true) (slot : Nat) (a1 : Session) (s : State) : (stageDelete slot a1 s).2.core R = s.core R := by
  simp only [stageDelete, ↓State.putDelete_core (sb hm rfl), ↓State.dropStaged_core (sb hm rfl), ↓State.recountBroken_core (sb hm rfl), ↓State.enterSlot_core (sb hm rfl), ↓State.noteStaged_core (sb hm rfl), ↓core_ite, ite_self]

theorem execStageDelete_core (t : Nat) (who : Who) (slot : Nat) (s : State) (t' : State) (h : (execStageDelete t who slot s) = .next t') : t'.core 4722962 = s.core 4722962 := by
  have hm : inMask 4722962 4722962 = true := rfl
  simp only [execStageDelete, cmdRow, Host.Outcome.next.injEq] at h
  subst h
  repeat' (first | with_reducible rfl | rw [core_foldl] | rw [serve_core (sb hm rfl)] | rw [writeCmd_core (sb hm rfl)] | intro _ | split | simp only [↓stageDelete_core (sb hm rfl), ↓State.begin_core (sb hm rfl)])

theorem discardStaged_core {R : Nat} (hm : inMask 258 R = true) (slot : Nat) (a1 : Session) (s : State) : (discardStaged slot a1 s).2.core R = s.core R := by
  simp only [discardStaged, ↓State.noteStaged_core (sb hm rfl), ↓State.dropStaged_core (sb hm rfl), ↓State.enterSlot_core (sb hm rfl), ↓core_ite, ite_self]

theorem execDiscardStaged_core (t : Nat) (who : Who) (slot : Nat) (s : State) (t' : State) (h : (execDiscardStaged t who slot s) = .next t') : t'.core 4722962 = s.core 4722962 := by
  have hm : inMask 4722962 4722962 = true := rfl
  simp only [execDiscardStaged, cmdRow, Host.Outcome.next.injEq] at h
  subst h
  repeat' (first | with_reducible rfl | rw [core_foldl] | rw [serve_core (sb hm rfl)] | rw [writeCmd_core (sb hm rfl)] | intro _ | split | simp only [↓discardStaged_core (sb hm rfl), ↓State.begin_core (sb hm rfl)])

theorem State.copyPending_core {R : Nat} (hm : inMask 0 R = true) (s : State) : (State.copyPending s).core R = s.core R := by
  simp only [State.copyPending, ↓State.setN_core (sb hm rfl), ↓core_ite, ite_self]

theorem State.clearVerdict_core {R : Nat} (hm : inMask 0 R = true) (s : State) : (State.clearVerdict s).core R = s.core R := by
  simp only [State.clearVerdict, ↓State.setN_core (sb hm rfl), ↓State.setO_core (sb hm rfl)]

theorem State.abandonMigration_core {R : Nat} (hm : inMask 32 R = true) (s : State) : (State.abandonMigration s).core R = s.core R := by
  simp only [State.abandonMigration, ↓State.logLead_core (sb hm rfl), ↓State.setN_core (sb hm rfl), ↓core_ite, ite_self]

theorem startCommit_core {R : Nat} (hm : inMask 288 R = true) (cmd : Nat) (sess : Nat) (x : Session) (s : State) : (startCommit cmd sess x s).2.core R = s.core R := by
  unfold startCommit
  repeat' (first | with_reducible rfl | split | simp only [↓State.abandonMigration_core (sb hm rfl), ↓State.copyPending_core (sb hm rfl), ↓State.setN_core (sb hm rfl), ↓State.clearVerdict_core (sb hm rfl), ↓core_plan (sb hm rfl)])

theorem whenActive_core {R : Nat} (hm : inMask 0 R = true) (act : Session → State → Status × State) (x : Session) (s : State) (hact : ∀ y0 y1, (act y0 y1).2.core R = y1.core R) : (whenActive act x s).2.core R = s.core R := by
  unfold whenActive
  repeat' (first | with_reducible rfl | split | simp only [↓hact])

theorem execCommit_core (t : Nat) (who : Who) (s : State) (t' : State) (h : (execCommit t who s) = .next t') : t'.core 4722992 = s.core 4722992 := by
  have hm : inMask 4722992 4722992 = true := rfl
  simp only [execCommit, cmdRow, Host.Outcome.next.injEq] at h
  subst h
  repeat' (first | with_reducible rfl | rw [core_foldl] | rw [whenActive_core (sb hm rfl)] | rw [serve_core (sb hm rfl)] | rw [writeCmd_core (sb hm rfl)] | intro _ | split | simp only [↓startCommit_core (sb hm rfl), ↓State.begin_core (sb hm rfl)])

theorem execCheckOnly_core (t : Nat) (who : Who) (s : State) (t' : State) (h : (execCheckOnly t who s) = .next t') : t'.core 4722992 = s.core 4722992 := by
  have hm : inMask 4722992 4722992 = true := rfl
  simp only [execCheckOnly, cmdRow, Host.Outcome.next.injEq] at h
  subst h
  repeat' (first | with_reducible rfl | rw [core_foldl] | rw [serve_core (sb hm rfl)] | rw [writeCmd_core (sb hm rfl)] | intro _ | split | simp only [↓startCommit_core (sb hm rfl), ↓State.begin_core (sb hm rfl)])

theorem execCommitForcingDisables_core (t : Nat) (who : Who) (s : State) (t' : State) (h : (execCommitForcingDisables t who s) = .next t') : t'.core 4722992 = s.core 4722992 := by
  have hm : inMask 4722992 4722992 = true := rfl
  simp only [execCommitForcingDisables, cmdRow, Host.Outcome.next.injEq] at h
  subst h
  repeat' (first | with_reducible rfl | rw [core_foldl] | rw [whenActive_core (sb hm rfl)] | rw [serve_core (sb hm rfl)] | rw [writeCmd_core (sb hm rfl)] | intro _ | split | simp only [↓startCommit_core (sb hm rfl), ↓State.begin_core (sb hm rfl)])

theorem abortCommit_core {R : Nat} (hm : inMask 256 R = true) (a1 : Session) (s : State) : (abortCommit a1 s).2.core R = s.core R := by
  unfold abortCommit
  repeat' (first | with_reducible rfl | split | simp only [↓State.setN_core (sb hm rfl), ↓core_plan (sb hm rfl)])

theorem execCommitAbort_core (t : Nat) (who : Who) (s : State) (t' : State) (h : (execCommitAbort t who s) = .next t') : t'.core 4722960 = s.core 4722960 := by
  have hm : inMask 4722960 4722960 = true := rfl
  simp only [execCommitAbort, cmdRow, Host.Outcome.next.injEq] at h
  subst h
  repeat' (first | with_reducible rfl | rw [core_foldl] | rw [serve_core (sb hm rfl)] | rw [writeCmd_core (sb hm rfl)] | intro _ | split | simp only [↓abortCommit_core (sb hm rfl), ↓State.begin_core (sb hm rfl)])

theorem State.discardSlots_core {R : Nat} (hm : inMask 258 R = true) (s : State) : (State.discardSlots s).core R = s.core R := by
  unfold State.discardSlots
  repeat' (first | with_reducible rfl | rw [core_foldl] | intro _ | split | simp only [↓State.enterSlot_core (sb hm rfl), ↓State.dropStaged_core (sb hm rfl)])

theorem State.restoreTaken_core {R : Nat} (hm : inMask 258 R = true) (s : State) (p : Plan) : (State.restoreTaken s p).core R = s.core R := by
  unfold State.restoreTaken
  repeat' (first | with_reducible rfl | rw [core_foldl] | intro _ | split | simp only [↓State.setN_core (sb hm rfl), ↓State.putStaged_core (sb hm rfl), ↓State.putDelete_core (sb hm rfl)])

theorem discardAll_core {R : Nat} (hm : inMask 258 R = true) (a1 : Session) (s : State) : (discardAll a1 s).2.core R = s.core R := by
  unfold discardAll
  repeat' (first | with_reducible rfl | rw [core_foldl] | intro _ | split | simp only [↓State.copyPending_core (sb hm rfl), ↓State.discardSlots_core (sb hm rfl), ↓State.restoreTaken_core (sb hm rfl), ↓State.setN_core (sb hm rfl), ↓core_staged (sb hm rfl), ↓core_plan (sb hm rfl)])

theorem execDiscardAllStaged_core (t : Nat) (who : Who) (s : State) (t' : State) (h : (execDiscardAllStaged t who s) = .next t') : t'.core 4722962 = s.core 4722962 := by
  have hm : inMask 4722962 4722962 = true := rfl
  simp only [execDiscardAllStaged, cmdRow, Host.Outcome.next.injEq] at h
  subst h
  repeat' (first | with_reducible rfl | rw [core_foldl] | rw [serve_core (sb hm rfl)] | rw [writeCmd_core (sb hm rfl)] | intro _ | split | simp only [↓discardAll_core (sb hm rfl), ↓State.begin_core (sb hm rfl)])

theorem State.cancelCommits_core {R : Nat} (hm : inMask 256 R = true) (s : State) : (State.cancelCommits s).core R = s.core R := by
  simp only [State.cancelCommits, ↓State.setN_core (sb hm rfl), ↓core_plan (sb hm rfl), ↓core_ite, ite_self]

theorem State.setLink_core {R : Nat} (hm : inMask 0 R = true) (s : State) (n : Nat) (i : Nat) (b : Bool) : (State.setLink s n i b).core R = s.core R := by
  simp only [State.setLink, ↓State.setFlag_core (sb hm rfl)]

theorem State.tryHoldOff_core {R : Nat} (hm : inMask 512 R = true) (s : State) (n : Nat) : (State.tryHoldOff s n).core R = s.core R := by
  simp only [State.tryHoldOff, ↓State.updLane_core (sb hm rfl), ↓State.setLink_core (sb hm rfl), ↓core_ite, ite_self]

theorem lockGained_core {R : Nat} (hm : inMask 512 R = true) (n : Nat) (s : State) : (lockGained n s).core R = s.core R := by
  simp only [lockGained, ↓State.updLane_core (sb hm rfl), ↓State.setLink_core (sb hm rfl), ↓State.tryHoldOff_core (sb hm rfl), ↓core_ite, ite_self]

theorem execLockGained_core (t : Nat) (lane : Nat) (s : State) (t' : State) (h : (execLockGained t lane s) = .next t') : t'.core 4194816 = s.core 4194816 := by
  have hm : inMask 4194816 4194816 = true := rfl
  simp only [execLockGained, Host.Outcome.next.injEq] at h
  subst h
  simp only [↓lockGained_core (sb hm rfl), ↓State.begin_core (sb hm rfl)]

theorem State.breakHoldOff_core {R : Nat} (hm : inMask 512 R = true) (s : State) (n : Nat) : (State.breakHoldOff s n).core R = s.core R := by
  simp only [State.breakHoldOff, ↓State.updLane_core (sb hm rfl), ↓State.setLink_core (sb hm rfl), ↓State.setN_core (sb hm rfl), ↓core_ite, ite_self]

theorem lockLost_core {R : Nat} (hm : inMask 512 R = true) (n : Nat) (s : State) : (lockLost n s).core R = s.core R := by
  simp only [lockLost, ↓State.breakHoldOff_core (sb hm rfl), ↓State.setLink_core (sb hm rfl), ↓State.updLane_core (sb hm rfl), ↓core_ite, ite_self]

theorem execLockLost_core (t : Nat) (lane : Nat) (s : State) (t' : State) (h : (execLockLost t lane s) = .next t') : t'.core 4194816 = s.core 4194816 := by
  have hm : inMask 4194816 4194816 = true := rfl
  simp only [execLockLost, Host.Outcome.next.injEq] at h
  subst h
  simp only [↓lockLost_core (sb hm rfl), ↓State.begin_core (sb hm rfl)]

theorem State.countDrained_core {R : Nat} (hm : inMask 0 R = true) (s : State) (n : Nat) (k : Nat) : (State.countDrained s n k).core R = s.core R := by
  simp only [State.countDrained, ↓State.addTo_core (sb hm rfl)]

theorem State.drainLane_core {R : Nat} (hm : inMask 1536 R = true) (s : State) (n : Nat) : (State.drainLane s n).core R = s.core R := by
  simp only [State.drainLane, ↓State.updLane_core (sb hm rfl), ↓State.addTo_core (sb hm rfl), ↓core_fwd (sb hm rfl)]

theorem State.refreshLag_core {R : Nat} (hm : inMask 0 R = true) (s : State) (n : Nat) : (State.refreshLag s n).core R = s.core R := by
  unfold State.refreshLag
  repeat' (first | with_reducible rfl | split | simp only [↓State.setN_core (sb hm rfl)])

theorem State.flushEndpoint_core {R : Nat} (hm : inMask 1024 R = true) (s : State) (ep : Nat) : (State.flushEndpoint s ep).core R = s.core R := by
  simp only [State.flushEndpoint, ↓core_fwd (sb hm rfl)]

theorem State.refreshFdb_core {R : Nat} (hm : inMask 0 R = true) (s : State) : (State.refreshFdb s).core R = s.core R := by
  simp only [State.refreshFdb, ↓State.setN_core (sb hm rfl)]

theorem State.lagFailover_core {R : Nat} (hm : inMask 1024 R = true) (s : State) (n : Nat) (onset : Nat) : (State.lagFailover s n onset).core R = s.core R := by
  unfold State.lagFailover
  repeat' (first | with_reducible rfl | split | simp only [↓State.refreshFdb_core (sb hm rfl), ↓State.flushEndpoint_core (sb hm rfl), ↓State.refreshLag_core (sb hm rfl), ↓State.setN_core (sb hm rfl), ↓State.inc32_core (sb hm rfl), ↓core_ite, ite_self])

theorem State.loseTraffic_core {R : Nat} (hm : inMask 1536 R = true) (s : State) (n : Nat) (onset : Nat) (was : Bool) : (State.loseTraffic s n onset was).core R = s.core R := by
  simp only [State.loseTraffic, ↓State.updLane_core (sb hm rfl), ↓State.drainLane_core (sb hm rfl), ↓State.lagFailover_core (sb hm rfl), ↓core_ite, ite_self]

theorem State.loseSignal_core {R : Nat} (hm : inMask 1536 R = true) (s : State) (n : Nat) : (State.loseSignal s n).core R = s.core R := by
  simp only [State.loseSignal, ↓State.setLink_core (sb hm rfl), ↓State.updLane_core (sb hm rfl), ↓State.loseTraffic_core (sb hm rfl), ↓State.setN_core (sb hm rfl)]

theorem State.enterService_core {R : Nat} (hm : inMask 512 R = true) (s : State) (n : Nat) : (State.enterService s n).core R = s.core R := by
  simp only [State.enterService, ↓State.setLink_core (sb hm rfl), ↓State.refreshLag_core (sb hm rfl), ↓State.updLane_core (sb hm rfl)]

theorem State.interruptTests_core {R : Nat} (hm : inMask 544 R = true) (s : State) (p : Nat → Bool) : (State.interruptTests s p).core R = s.core R := by
  unfold State.interruptTests
  repeat' (first | with_reducible rfl | rw [core_foldl] | intro _ | split | simp only [↓State.setN_core (sb hm rfl), ↓State.updLane_core (sb hm rfl), ↓State.logEv_core (sb hm rfl)])

theorem State.holdOffDone_core {R : Nat} (hm : inMask 512 R = true) (s : State) (n : Nat) : (State.holdOffDone s n).core R = s.core R := by
  simp only [State.holdOffDone, ↓State.updLane_core (sb hm rfl), ↓State.setN_core (sb hm rfl), ↓State.setLink_core (sb hm rfl), ↓State.enterService_core (sb hm rfl), ↓core_ite, ite_self]

theorem linkUpHoldOff_core {R : Nat} (hm : inMask 512 R = true) (n : Nat) (s : State) : (linkUpHoldOff n s).core R = s.core R := by
  unfold linkUpHoldOff
  repeat' (first | with_reducible rfl | split | simp only [↓State.holdOffDone_core (sb hm rfl)])

theorem execLinkUpHoldOff_core (t : Nat) (lane : Nat) (s : State) (t' : State) (h : (execLinkUpHoldOff t lane s) = .next t') : t'.core 4194816 = s.core 4194816 := by
  have hm : inMask 4194816 4194816 = true := rfl
  simp only [execLinkUpHoldOff, Host.Outcome.next.injEq] at h
  subst h
  simp only [↓linkUpHoldOff_core (sb hm rfl), ↓State.begin_core (sb hm rfl)]

theorem verifyDone_core {R : Nat} (hm : inMask 544 R = true) (n : Nat) (ok : Bool) (s : State) : (verifyDone n ok s).core R = s.core R := by
  simp only [verifyDone, ↓State.setN_core (sb hm rfl), ↓State.enterService_core (sb hm rfl), ↓State.updLane_core (sb hm rfl), ↓State.logEv_core (sb hm rfl), ↓core_ite, ite_self]

theorem execPreemptionVerifyDone_core (t : Nat) (lane : Nat) (ok : Bool) (s : State) (t' : State) (h : (execPreemptionVerifyDone t lane ok s) = .next t') : t'.core 4194848 = s.core 4194848 := by
  have hm : inMask 4194848 4194848 = true := rfl
  simp only [execPreemptionVerifyDone, Host.Outcome.next.injEq] at h
  subst h
  simp only [↓verifyDone_core (sb hm rfl), ↓State.begin_core (sb hm rfl)]

theorem lacpIn_core {R : Nat} (hm : inMask 512 R = true) (n : Nat) (s : State) : (lacpIn n s).core R = s.core R := by
  unfold lacpIn
  repeat' (first | with_reducible rfl | split | simp only [↓State.refreshLag_core (sb hm rfl), ↓State.updLane_core (sb hm rfl), ↓State.setLink_core (sb hm rfl)])

theorem execLacpCollectingDistributing_core (t : Nat) (lane : Nat) (s : State) (t' : State) (h : (execLacpCollectingDistributing t lane s) = .next t') : t'.core 4194816 = s.core 4194816 := by
  have hm : inMask 4194816 4194816 = true := rfl
  simp only [execLacpCollectingDistributing, Host.Outcome.next.injEq] at h
  subst h
  simp only [↓lacpIn_core (sb hm rfl), ↓State.begin_core (sb hm rfl)]

theorem clearLane_core {R : Nat} (hm : inMask 0 R = true) (n : Nat) (a1 : Session) (s : State) : (clearLane n a1 s).2.core R = s.core R := by
  simp only [clearLane, ↓State.clearAll_core (sb hm rfl)]

theorem execClearLaneCounters_core (t : Nat) (who : Who) (lane : Nat) (s : State) (t' : State) (h : (execClearLaneCounters t who lane s) = .next t') : t'.core 4722704 = s.core 4722704 := by
  have hm : inMask 4722704 4722704 = true := rfl
  simp only [execClearLaneCounters, cmdRow, Host.Outcome.next.injEq] at h
  subst h
  repeat' (first | with_reducible rfl | rw [core_foldl] | rw [serve_core (sb hm rfl)] | rw [writeCmd_core (sb hm rfl)] | intro _ | split | simp only [↓clearLane_core (sb hm rfl), ↓State.begin_core (sb hm rfl)])

theorem State.loadShapers_core {R : Nat} (hm : inMask 1024 R = true) (s : State) (v : PlanView) : (State.loadShapers s v).core R = s.core R := by
  unfold State.loadShapers
  repeat' (first | with_reducible rfl | rw [core_foldl] | intro _ | split | simp only [↓State.addTo_core (sb hm rfl), ↓core_fwd (sb hm rfl)])

theorem State.applyTaps_core {R : Nat} (hm : inMask 512 R = true) (s : State) : (State.applyTaps s).core R = s.core R := by
  unfold State.applyTaps
  repeat' (first | with_reducible rfl | rw [core_foldl] | intro _ | split | simp only [↓State.updLane_core (sb hm rfl)])

theorem State.applyTrim_core {R : Nat} (hm : inMask 65536 R = true) (s : State) (raw : Nat) : (State.applyTrim s raw).core R = s.core R := by
  simp only [State.applyTrim, ↓core_time (sb hm rfl), ↓core_ite, ite_self]

theorem State.updInst_core {R : Nat} (hm : inMask 65536 R = true) (s : State) (i : Nat) (f : InstSt → InstSt) : (State.updInst s i f).core R = s.core R := by
  simp only [State.updInst, ↓core_time (sb hm rfl)]

theorem State.setInst_core {R : Nat} (hm : inMask 0 R = true) (s : State) (i : Nat) (b : Nat) (v : Bool) : (State.setInst s i b v).core R = s.core R := by
  simp only [State.setInst, ↓State.setFlag_core (sb hm rfl)]

theorem State.setPulse_core {R : Nat} (hm : inMask 65536 R = true) (s : State) (q : Nat) (x : PulseSt) : (State.setPulse s q x).core R = s.core R := by
  simp only [State.setPulse, ↓core_time (sb hm rfl)]

theorem State.installPulse_core {R : Nat} (hm : inMask 65536 R = true) (s : State) (q : Nat) (p : Bytes) : (State.installPulse s q p).core R = s.core R := by
  simp only [State.installPulse, ↓State.setPulse_core (sb hm rfl)]

theorem State.pulsesWake_core {R : Nat} (hm : inMask 65536 R = true) (s : State) (i : Nat) : (State.pulsesWake s i).core R = s.core R := by
  unfold State.pulsesWake
  repeat' (first | with_reducible rfl | rw [core_foldl] | intro _ | split | simp only [↓State.setPulse_core (sb hm rfl)])

theorem State.pulsesStep_core {R : Nat} (hm : inMask 65536 R = true) (s : State) (i : Nat) (old : Nat) (new : Nat) : (State.pulsesStep s i old new).core R = s.core R := by
  unfold State.pulsesStep
  repeat' (first | with_reducible rfl | rw [core_foldl] | intro _ | split | simp only [↓State.addTo_core (sb hm rfl), ↓core_time (sb hm rfl), ↓core_ite, ite_self])

theorem State.stepClock_core {R : Nat} (hm : inMask 65568 R = true) (s : State) (i : Nat) (new : Nat) : (State.stepClock s i new).core R = s.core R := by
  simp only [State.stepClock, ↓State.updInst_core (sb hm rfl), ↓State.setN_core (sb hm rfl), ↓State.setInst_core (sb hm rfl), ↓State.pulsesStep_core (sb hm rfl), ↓State.logLead_core (sb hm rfl)]

theorem State.setRate_core {R : Nat} (hm : inMask 65536 R = true) (s : State) (i : Nat) (ppb : Int) : (State.setRate s i ppb).core R = s.core R := by
  simp only [State.setRate, ↓State.setO_core (sb hm rfl), ↓State.updInst_core (sb hm rfl)]

theorem State.setCapture_core {R : Nat} (hm : inMask 65536 R = true) (s : State) (q : Nat) (x : CaptureSt) : (State.setCapture s q x).core R = s.core R := by
  simp only [State.setCapture, ↓State.setN_core (sb hm rfl), ↓core_time (sb hm rfl)]

theorem State.restartUnits_core {R : Nat} (hm : inMask 65536 R = true) (s : State) : (State.restartUnits s).core R = s.core R := by
  unfold State.restartUnits
  repeat' (first | with_reducible rfl | rw [core_foldl] | intro _ | split | simp only [↓State.setN_core (sb hm rfl), ↓State.installPulse_core (sb hm rfl), ↓core_time (sb hm rfl), ↓core_ite, ite_self])

theorem State.lockInst_core {R : Nat} (hm : inMask 65696 R = true) (s : State) (i : Nat) (traceable : Bool) : (State.lockInst s i traceable).core R = s.core R := by
  simp only [State.lockInst, ↓State.setInst_core (sb hm rfl), ↓State.pulsesWake_core (sb hm rfl), ↓State.updInst_core (sb hm rfl), ↓State.logLead_core (sb hm rfl), ↓lockDeclared_core (sb hm rfl), ↓core_ite, ite_self]

theorem State.holdInst_core {R : Nat} (hm : inMask 65696 R = true) (s : State) (i : Nat) : (State.holdInst s i).core R = s.core R := by
  simp only [State.holdInst, ↓State.setInst_core (sb hm rfl), ↓State.updInst_core (sb hm rfl), ↓State.setN_core (sb hm rfl), ↓tickHoldover_core (sb hm rfl), ↓State.logLead_core (sb hm rfl), ↓core_ite, ite_self]

theorem State.setPorts_core {R : Nat} (hm : inMask 0 R = true) (s : State) (i : Nat) : (State.setPorts s i).core R = s.core R := by
  unfold State.setPorts
  repeat' (first | with_reducible rfl | rw [core_foldl] | intro _ | split | simp only [↓State.setN_core (sb hm rfl), ↓core_ite, ite_self])

theorem State.newGrandmaster_core {R : Nat} (hm : inMask 65696 R = true) (s : State) (i : Nat) (id : Bytes) : (State.newGrandmaster s i id).core R = s.core R := by
  simp only [State.newGrandmaster, ↓State.setBlob_core (sb hm rfl), ↓State.updInst_core (sb hm rfl), ↓State.logLead_core (sb hm rfl), ↓State.inc32_core (sb hm rfl), ↓State.holdInst_core (sb hm rfl), ↓core_ite, ite_self]

theorem State.dropReference_core {R : Nat} (hm : inMask 65536 R = true) (s : State) (i : Nat) : (State.dropReference s i).core R = s.core R := by
  simp only [State.dropReference, ↓State.updInst_core (sb hm rfl), ↓State.setInst_core (sb hm rfl), ↓core_ite, ite_self]

theorem State.chooseSlave_core {R : Nat} (hm : inMask 65696 R = true) (s : State) (i : Nat) (n : Nat) (id : Bytes) : (State.chooseSlave s i n id).core R = s.core R := by
  simp only [State.chooseSlave, ↓State.updInst_core (sb hm rfl), ↓State.setN_core (sb hm rfl), ↓State.newGrandmaster_core (sb hm rfl), ↓State.dropReference_core (sb hm rfl), ↓State.setInst_core (sb hm rfl), ↓core_ite, ite_self]

theorem State.chooseSelf_core {R : Nat} (hm : inMask 65696 R = true) (s : State) (i : Nat) : (State.chooseSelf s i).core R = s.core R := by
  simp only [State.chooseSelf, ↓State.setInst_core (sb hm rfl), ↓State.setN_core (sb hm rfl), ↓State.newGrandmaster_core (sb hm rfl), ↓State.lockInst_core (sb hm rfl), ↓State.holdInst_core (sb hm rfl), ↓core_ite, ite_self]

theorem State.chooseNone_core {R : Nat} (hm : inMask 65696 R = true) (s : State) (i : Nat) : (State.chooseNone s i).core R = s.core R := by
  simp only [State.chooseNone, ↓State.holdInst_core (sb hm rfl), ↓State.dropReference_core (sb hm rfl), ↓State.setInst_core (sb hm rfl), ↓State.setN_core (sb hm rfl)]

theorem State.choose_core {R : Nat} (hm : inMask 65696 R = true) (s : State) (i : Nat) : (State.choose s i).core R = s.core R := by
  unfold State.choose
  repeat' (first | with_reducible rfl | split | simp only [↓State.chooseSelf_core (sb hm rfl), ↓State.chooseSlave_core (sb hm rfl), ↓State.chooseNone_core (sb hm rfl), ↓State.setPorts_core (sb hm rfl), ↓core_ite])

theorem State.refreshInstances_core {R : Nat} (hm : inMask 65696 R = true) (s : State) : (State.refreshInstances s).core R = s.core R := by
  unfold State.refreshInstances
  repeat' (first | with_reducible rfl | rw [core_foldl] | intro _ | split | simp only [↓State.dropReference_core (sb hm rfl), ↓State.setInst_core (sb hm rfl), ↓State.updInst_core (sb hm rfl), ↓State.choose_core (sb hm rfl), ↓State.setPorts_core (sb hm rfl), ↓State.setN_core (sb hm rfl), ↓core_ite, ite_self])

theorem State.restartInstances_core {R : Nat} (hm : inMask 65536 R = true) (s : State) (zero : Bool) : (State.restartInstances s zero).core R = s.core R := by
  unfold State.restartInstances
  repeat' (first | with_reducible rfl | rw [core_foldl] | intro _ | split | simp only [↓State.restartUnits_core (sb hm rfl), ↓State.setN_core (sb hm rfl), ↓State.setPorts_core (sb hm rfl), ↓State.setBlob_core (sb hm rfl), ↓core_time (sb hm rfl)])

theorem State.setSaddleEnd_core {R : Nat} (hm : inMask 4096 R = true) (s : State) (e : Nat × Nat) (v : Nat) : (s.setSaddleEnd e v).core R = s.core R := by
  unfold State.setSaddleEnd
  dsimp only
  rw [core_bridge (sb hm rfl), State.setN_core (sb hm rfl)]






theorem State.setSaddle_core {R : Nat} (hm : inMask 4096 R = true) (s : State) (d : Nat) (p : Nat) (v : Nat) : (State.setSaddle s d p v).core R = s.core R := by
  unfold State.setSaddle
  repeat' (first | with_reducible rfl | split | simp only [↓State.setSaddleEnd_core (sb hm rfl)])

theorem State.refreshCounts_core {R : Nat} (hm : inMask 0 R = true) (s : State) : (State.refreshCounts s).core R = s.core R := by
  simp only [State.refreshCounts, ↓State.setN_core (sb hm rfl)]

theorem State.refreshCases_core {R : Nat} (hm : inMask 0 R = true) (s : State) : (State.refreshCases s).core R = s.core R := by
  simp only [State.refreshCases, ↓State.setN_core (sb hm rfl)]

theorem State.buildNext_core {R : Nat} (hm : inMask 256 R = true) (s : State) : (State.buildNext s).core R = s.core R := by
  unfold State.buildNext
  repeat' (first | with_reducible rfl | split | simp only [↓core_plan (sb hm rfl)])

theorem shadowDistributed_core {R : Nat} (hm : inMask 256 R = true) (code : Nat) (s : State) : (shadowDistributed code s).core R = s.core R := by
  simp only [shadowDistributed, ↓State.refreshCases_core (sb hm rfl), ↓core_plan (sb hm rfl), ↓core_ite, ite_self]

theorem execShadowPlanDistributed_core (t : Nat) (code : Nat) (s : State) (t' : State) (h : (execShadowPlanDistributed t code s) = .next t') : t'.core 4194560 = s.core 4194560 := by
  have hm : inMask 4194560 4194560 = true := rfl
  simp only [execShadowPlanDistributed, Host.Outcome.next.injEq] at h
  subst h
  simp only [↓shadowDistributed_core (sb hm rfl), ↓State.begin_core (sb hm rfl)]

theorem State.sendActivation_core {R : Nat} (hm : inMask 256 R = true) (s : State) (code : Nat) (first : Nat) : (State.sendActivation s code first).core R = s.core R := by
  unfold State.sendActivation
  repeat' (first | with_reducible rfl | rw [core_foldl] | intro _ | split | simp only [↓State.cancelCommits_core (sb hm rfl), ↓State.emit_core (sb hm rfl), ↓State.setN_core (sb hm rfl), ↓core_plan (sb hm rfl)])

theorem State.deferFault_core {R : Nat} (hm : inMask 256 R = true) (s : State) (code : Nat) (first : Nat) : (State.deferFault s code first).core R = s.core R := by
  simp only [State.deferFault, ↓core_plan (sb hm rfl), ↓core_ite, ite_self]

theorem State.activate_core {R : Nat} (hm : inMask 256 R = true) (s : State) (code : Nat) (first : Nat) : (State.activate s code first).core R = s.core R := by
  unfold State.activate
  repeat' (first | with_reducible rfl | split | simp only [↓State.sendActivation_core (sb hm rfl), ↓State.deferFault_core (sb hm rfl), ↓core_plan (sb hm rfl), ↓core_ite, ite_self])

theorem State.recordFault_core {R : Nat} (hm : inMask 256 R = true) (s : State) (code : Nat) : (State.recordFault s code).core R = s.core R := by
  simp only [State.recordFault, ↓State.setN_core (sb hm rfl), ↓core_plan (sb hm rfl), ↓core_ite, ite_self]

theorem State.redeclare_core {R : Nat} (hm : inMask 0 R = true) (s : State) (old : SMap Nat) : (State.redeclare s old).core R = s.core R := by
  unfold State.redeclare
  repeat' (first | with_reducible rfl | rw [core_foldl] | intro _ | split | simp only [↓State.emit_core (sb hm rfl)])

theorem State.loadLanes_core {R : Nat} (hm : inMask 768 R = true) (s : State) (ls : SMap LanePlan) : (State.loadLanes s ls).core R = s.core R := by
  unfold State.loadLanes
  repeat' (first | with_reducible rfl | rw [core_foldl] | intro _ | split | simp only [↓State.addTo_core (sb hm rfl), ↓State.setN_core (sb hm rfl), ↓State.setBlob_core (sb hm rfl), ↓State.seekGate_core (sb hm rfl), ↓State.updLane_core (sb hm rfl), ↓core_plan (sb hm rfl), ↓core_ite, ite_self])

theorem State.restoreMirror_core {R : Nat} (hm : inMask 358 R = true) (s : State) : (State.restoreMirror s).core R = s.core R := by
  simp only [State.restoreMirror, ↓State.discardSlots_core (sb hm rfl), ↓State.logLead_core (sb hm rfl), ↓core_dict_staged_held_pkg (sb hm rfl)]

theorem State.passRoles_core {R : Nat} (hm : inMask 112 R = true) (s : State) (d : Nat) : (State.passRoles s d).core R = s.core R := by
  simp only [State.passRoles, ↓State.logLead_core (sb hm rfl), ↓core_access_pkg (sb hm rfl), ↓core_ite, ite_self]

theorem State.loseRoles_core {R : Nat} (hm : inMask 112 R = true) (s : State) (d : Nat) : (State.loseRoles s d).core R = s.core R := by
  simp only [State.loseRoles, ↓State.passRoles_core (sb hm rfl), ↓State.logLead_core (sb hm rfl), ↓core_pkg (sb hm rfl), ↓core_ite, ite_self]

theorem dictionaryResume_core {R : Nat} (hm : inMask 358 R = true) (s : State) : (dictionaryResume s).core R = s.core R := by
  simp only [dictionaryResume, ↓State.restoreMirror_core (sb hm rfl), ↓State.cancelCommits_core (sb hm rfl), ↓State.setN_core (sb hm rfl), ↓core_pkg (sb hm rfl), ↓core_ite, ite_self]

theorem remirrorDone_core {R : Nat} (hm : inMask 64 R = true) (s : State) : (remirrorDone s).core R = s.core R := by
  simp only [remirrorDone, ↓core_pkg (sb hm rfl), ↓core_ite, ite_self]

theorem execRemirrorDone_core (t : Nat) (s : State) (t' : State) (h : (execRemirrorDone t s) = .next t') : t'.core 4194368 = s.core 4194368 := by
  have hm : inMask 4194368 4194368 = true := rfl
  simp only [execRemirrorDone, Host.Outcome.next.injEq] at h
  subst h
  simp only [↓remirrorDone_core (sb hm rfl), ↓State.begin_core (sb hm rfl)]

theorem State.dropTxns_core {R : Nat} (hm : inMask 4096 R = true) (s : State) (d : Nat) : (State.dropTxns s d).core R = s.core R := by
  simp only [State.dropTxns, ↓core_bridge (sb hm rfl)]

theorem State.dieFault_core {R : Nat} (hm : inMask 72688 R = true) (s : State) (d : Nat) (cause : Nat) (first : Nat) : (State.dieFault s d cause first).core R = s.core R := by
  unfold State.dieFault
  repeat' (first | with_reducible rfl | rw [core_foldl] | intro _ | split | simp only [↓State.setSaddle_core (sb hm rfl), ↓State.setN_core (sb hm rfl), ↓State.loseRoles_core (sb hm rfl), ↓State.interruptTests_core (sb hm rfl), ↓State.refreshInstances_core (sb hm rfl), ↓State.logLead_core (sb hm rfl), ↓State.dropTxns_core (sb hm rfl), ↓State.activate_core (sb hm rfl), ↓State.recordFault_core (sb hm rfl), ↓core_pkg (sb hm rfl), ↓core_bridge (sb hm rfl), ↓core_fw (sb hm rfl), ↓core_ite, ite_self])

theorem State.regionFault_core {R : Nat} (hm : inMask 72688 R = true) (s : State) (r : Nat) (cause : Nat) : (State.regionFault s r cause).core R = s.core R := by
  simp only [State.regionFault, ↓State.logEv_core (sb hm rfl), ↓State.dieFault_core (sb hm rfl), ↓State.interruptTests_core (sb hm rfl), ↓State.activate_core (sb hm rfl), ↓State.recordFault_core (sb hm rfl), ↓core_pkg (sb hm rfl), ↓core_ite, ite_self]

theorem fatalWire_core {R : Nat} (hm : inMask 72688 R = true) (d : Nat) (cause : Nat) (s : State) : (fatalWire d cause s).core R = s.core R := by
  simp only [fatalWire, ↓State.dieFault_core (sb hm rfl), ↓core_pkg (sb hm rfl), ↓core_ite, ite_self]

theorem execFatalWire_core (t : Nat) (die : Nat) (cause : Nat) (s : State) (t' : State) (h : (execFatalWire t die cause s) = .next t') : t'.core 4266992 = s.core 4266992 := by
  have hm : inMask 4266992 4266992 = true := rfl
  simp only [execFatalWire, Host.Outcome.next.injEq] at h
  subst h
  simp only [↓fatalWire_core (sb hm rfl), ↓State.begin_core (sb hm rfl)]

theorem State.linkFault_core {R : Nat} (hm : inMask 288 R = true) (s : State) (d : Nat) (p : Nat) (cause : Nat) (first : Nat) : (State.linkFault s d p cause first).core R = s.core R := by
  simp only [State.linkFault, ↓State.logLead_core (sb hm rfl), ↓State.activate_core (sb hm rfl), ↓State.recordFault_core (sb hm rfl), ↓core_ite, ite_self]

theorem State.noteReport_core {R : Nat} (hm : inMask 64 R = true) (s : State) (d : Nat) (p : Nat) : (State.noteReport s d p).core R = s.core R := by
  simp only [State.noteReport, ↓core_pkg (sb hm rfl)]

theorem State.decideDie_core {R : Nat} (hm : inMask 72688 R = true) (s : State) (d : Nat) : (State.decideDie s d).core R = s.core R := by
  simp only [State.decideDie, ↓State.dieFault_core (sb hm rfl), ↓core_ite, ite_self]

theorem State.reportLink_core {R : Nat} (hm : inMask 72688 R = true) (s : State) (d : Nat) (p : Nat) (e : Nat × Nat) : (State.reportLink s d p e).core R = s.core R := by
  simp only [State.reportLink, ↓State.noteReport_core (sb hm rfl), ↓State.decideDie_core (sb hm rfl), ↓core_ite, ite_self]

theorem State.failLink_core {R : Nat} (hm : inMask 72688 R = true) (s : State) (d : Nat) (p : Nat) : (State.failLink s d p).core R = s.core R := by
  unfold State.failLink
  repeat' (first | with_reducible rfl | split | simp only [↓State.logLead_core (sb hm rfl), ↓State.setSaddle_core (sb hm rfl), ↓State.reportLink_core (sb hm rfl), ↓core_bridge (sb hm rfl), ↓core_ite])

theorem heartbeatMissed_core {R : Nat} (hm : inMask 72688 R = true) (d : Nat) (p : Nat) (s : State) : (heartbeatMissed d p s).core R = s.core R := by
  simp only [heartbeatMissed, ↓State.inc32_core (sb hm rfl), ↓State.failLink_core (sb hm rfl), ↓core_pkg (sb hm rfl), ↓core_ite, ite_self]

theorem execHeartbeatMissed_core (t : Nat) (die : Nat) (port : Nat) (s : State) (t' : State) (h : (execHeartbeatMissed t die port s) = .next t') : t'.core 4266992 = s.core 4266992 := by
  have hm : inMask 4266992 4266992 = true := rfl
  simp only [execHeartbeatMissed, Host.Outcome.next.injEq] at h
  subst h
  simp only [↓heartbeatMissed_core (sb hm rfl), ↓State.begin_core (sb hm rfl)]

theorem heartbeatSend_core {R : Nat} (hm : inMask 0 R = true) (s : State) : (heartbeatSend s).core R = s.core R := by
  unfold heartbeatSend
  repeat' (first | with_reducible rfl | rw [core_foldl] | intro _ | split | simp only [↓State.emit_core (sb hm rfl)])

theorem execHeartbeatSend_core (t : Nat) (s : State) (t' : State) (h : (execHeartbeatSend t s) = .next t') : t'.core 4194304 = s.core 4194304 := by
  have hm : inMask 4194304 4194304 = true := rfl
  simp only [execHeartbeatSend, Host.Outcome.next.injEq] at h
  subst h
  simp only [↓heartbeatSend_core (sb hm rfl), ↓State.begin_core (sb hm rfl)]

theorem classifyTimeout_core {R : Nat} (hm : inMask 72688 R = true) (d : Nat) (s : State) : (classifyTimeout d s).core R = s.core R := by
  unfold classifyTimeout
  repeat' (first | with_reducible rfl | rw [core_foldl] | intro _ | split | simp only [↓State.dieFault_core (sb hm rfl), ↓State.linkFault_core (sb hm rfl), ↓core_pkg (sb hm rfl)])

theorem execDieFaultClassifyTimeout_core (t : Nat) (die : Nat) (s : State) (t' : State) (h : (execDieFaultClassifyTimeout t die s) = .next t') : t'.core 4266992 = s.core 4266992 := by
  have hm : inMask 4266992 4266992 = true := rfl
  simp only [execDieFaultClassifyTimeout, Host.Outcome.next.injEq] at h
  subst h
  simp only [↓classifyTimeout_core (sb hm rfl), ↓State.begin_core (sb hm rfl)]

theorem State.logRestart_core {R : Nat} (hm : inMask 32 R = true) (s : State) (d : Nat) (c : Nat) (cause : Nat) : (State.logRestart s d c cause).core R = s.core R := by
  simp only [State.logRestart, ↓State.logEv_core (sb hm rfl)]

theorem State.restartCluster_core {R : Nat} (hm : inMask 73712 R = true) (s : State) (d : Nat) (c : Nat) (cause : Nat) : (State.restartCluster s d c cause).core R = s.core R := by
  unfold State.restartCluster
  repeat' (first | with_reducible rfl | rw [core_foldl] | intro _ | split | simp only [↓State.logRestart_core (sb hm rfl), ↓State.regionFault_core (sb hm rfl), ↓State.updLane_core (sb hm rfl), ↓State.drainLane_core (sb hm rfl), ↓core_pkg (sb hm rfl), ↓core_bridge (sb hm rfl), ↓core_ite, ite_self])

theorem gateWatchdog_core {R : Nat} (hm : inMask 73712 R = true) (d : Nat) (c : Nat) (s : State) : (gateWatchdog d c s).core R = s.core R := by
  simp only [gateWatchdog, ↓State.restartCluster_core (sb hm rfl), ↓core_ite, ite_self]

theorem execGateWatchdog_core (t : Nat) (die : Nat) (cluster : Nat) (s : State) (t' : State) (h : (execGateWatchdog t die cluster s) = .next t') : t'.core 4268016 = s.core 4268016 := by
  have hm : inMask 4268016 4268016 = true := rfl
  simp only [execGateWatchdog, Host.Outcome.next.injEq] at h
  subst h
  simp only [↓gateWatchdog_core (sb hm rfl), ↓State.begin_core (sb hm rfl)]

theorem clusterBack_core {R : Nat} (hm : inMask 64 R = true) (d : Nat) (c : Nat) (s : State) : (clusterBack d c s).core R = s.core R := by
  simp only [clusterBack, ↓core_pkg (sb hm rfl), ↓core_ite, ite_self]

theorem execClusterBackInService_core (t : Nat) (die : Nat) (cluster : Nat) (s : State) (t' : State) (h : (execClusterBackInService t die cluster s) = .next t') : t'.core 4194368 = s.core 4194368 := by
  have hm : inMask 4194368 4194368 = true := rfl
  simp only [execClusterBackInService, Host.Outcome.next.injEq] at h
  subst h
  simp only [↓clusterBack_core (sb hm rfl), ↓State.begin_core (sb hm rfl)]

theorem State.externalLoss_core {R : Nat} (hm : inMask 256 R = true) (s : State) (n : Nat) (first : Nat) : (State.externalLoss s n first).core R = s.core R := by
  simp only [State.externalLoss, ↓State.activate_core (sb hm rfl), ↓State.recordFault_core (sb hm rfl), ↓core_ite, ite_self]

theorem State.declareLoss_core {R : Nat} (hm : inMask 1824 R = true) (s : State) (n : Nat) (u : Nat) : (State.declareLoss s n u).core R = s.core R := by
  simp only [State.declareLoss, ↓State.loseSignal_core (sb hm rfl), ↓State.inc32_core (sb hm rfl), ↓State.logEv_core (sb hm rfl), ↓State.externalLoss_core (sb hm rfl)]

theorem linkLoss_core {R : Nat} (hm : inMask 1824 R = true) (n : Nat) (s : State) : (linkLoss n s).core R = s.core R := by
  unfold linkLoss
  repeat' (first | with_reducible rfl | split | simp only [↓State.declareLoss_core (sb hm rfl)])

theorem execLinkLoss_core (t : Nat) (lane : Nat) (s : State) (t' : State) (h : (execLinkLoss t lane s) = .next t') : t'.core 4196128 = s.core 4196128 := by
  have hm : inMask 4196128 4196128 = true := rfl
  simp only [execLinkLoss, Host.Outcome.next.injEq] at h
  subst h
  simp only [↓linkLoss_core (sb hm rfl), ↓State.begin_core (sb hm rfl)]

theorem autonegComplete_core {R : Nat} (hm : inMask 1824 R = true) (n : Nat) (rate : Nat) (full : Bool) (s : State) : (autonegComplete n rate full s).core R = s.core R := by
  simp only [autonegComplete, ↓State.setN_core (sb hm rfl), ↓State.setLink_core (sb hm rfl), ↓State.logEv_core (sb hm rfl), ↓State.declareLoss_core (sb hm rfl), ↓State.breakHoldOff_core (sb hm rfl), ↓State.tryHoldOff_core (sb hm rfl), ↓core_ite, ite_self]

theorem execAutonegComplete_core (t : Nat) (lane : Nat) (rate : Nat) (fullDuplex : Bool) (s : State) (t' : State) (h : (execAutonegComplete t lane rate fullDuplex s) = .next t') : t'.core 4196128 = s.core 4196128 := by
  have hm : inMask 4196128 4196128 = true := rfl
  simp only [execAutonegComplete, Host.Outcome.next.injEq] at h
  subst h
  simp only [↓autonegComplete_core (sb hm rfl), ↓State.begin_core (sb hm rfl)]

theorem lacpOut_core {R : Nat} (hm : inMask 1792 R = true) (n : Nat) (s : State) : (lacpOut n s).core R = s.core R := by
  unfold lacpOut
  repeat' (first | with_reducible rfl | split | simp only [↓State.updLane_core (sb hm rfl), ↓State.setLink_core (sb hm rfl), ↓State.externalLoss_core (sb hm rfl), ↓State.loseTraffic_core (sb hm rfl)])

theorem execLacpOut_core (t : Nat) (lane : Nat) (s : State) (t' : State) (h : (execLacpOut t lane s) = .next t') : t'.core 4196096 = s.core 4196096 := by
  have hm : inMask 4196096 4196096 = true := rfl
  simp only [execLacpOut, Host.Outcome.next.injEq] at h
  subst h
  simp only [↓lacpOut_core (sb hm rfl), ↓State.begin_core (sb hm rfl)]

theorem State.startMigration_core {R : Nat} (hm : inMask 288 R = true) (s : State) : (State.startMigration s).core R = s.core R := by
  simp only [State.startMigration, ↓State.setN_core (sb hm rfl), ↓State.abandonMigration_core (sb hm rfl), ↓core_plan (sb hm rfl), ↓core_ite, ite_self]

theorem State.setDerate_core {R : Nat} (hm : inMask 288 R = true) (s : State) (d : Nat) (v : Nat) : (State.setDerate s d v).core R = s.core R := by
  simp only [State.setDerate, ↓State.startMigration_core (sb hm rfl), ↓State.logEv_core (sb hm rfl), ↓State.setN_core (sb hm rfl)]

theorem derateRaise_core {R : Nat} (hm : inMask 288 R = true) (d : Nat) (s : State) : (derateRaise d s).core R = s.core R := by
  simp only [derateRaise, ↓State.setDerate_core (sb hm rfl), ↓core_plan (sb hm rfl), ↓core_ite, ite_self]

theorem execDerateRaise_core (t : Nat) (die : Nat) (s : State) (t' : State) (h : (execDerateRaise t die s) = .next t') : t'.core 4194592 = s.core 4194592 := by
  have hm : inMask 4194592 4194592 = true := rfl
  simp only [execDerateRaise, Host.Outcome.next.injEq] at h
  subst h
  simp only [↓derateRaise_core (sb hm rfl), ↓State.begin_core (sb hm rfl)]

theorem derateLower_core {R : Nat} (hm : inMask 524576 R = true) (d : Nat) (s : State) : (derateLower d s).core R = s.core R := by
  simp only [derateLower, ↓State.setDerate_core (sb hm rfl), ↓core_plan_power (sb hm rfl), ↓core_ite, ite_self]

theorem execDerateLower_core (t : Nat) (die : Nat) (s : State) (t' : State) (h : (execDerateLower t die s) = .next t') : t'.core 4718880 = s.core 4718880 := by
  have hm : inMask 4718880 4718880 = true := rfl
  simp only [execDerateLower, Host.Outcome.next.injEq] at h
  subst h
  simp only [↓derateLower_core (sb hm rfl), ↓State.begin_core (sb hm rfl)]

theorem talkerAdvertise_core {R : Nat} (hm : inMask 256 R = true) (lane : Nat) (ad : TalkerAd) (s : State) : (talkerAdvertise lane ad s).core R = s.core R := by
  unfold talkerAdvertise
  repeat' (first | with_reducible rfl | rw [core_foldl] | intro _ | split | simp only [↓State.emit_core (sb hm rfl), ↓core_plan (sb hm rfl)])

theorem execTalkerAdvertise_core (t : Nat) (lane : Nat) (ad : TalkerAd) (s : State) (t' : State) (h : (execTalkerAdvertise t lane ad s) = .next t') : t'.core 4194560 = s.core 4194560 := by
  have hm : inMask 4194560 4194560 = true := rfl
  simp only [execTalkerAdvertise, Host.Outcome.next.injEq] at h
  subst h
  simp only [↓talkerAdvertise_core (sb hm rfl), ↓State.begin_core (sb hm rfl)]

theorem listenerDeclaration_core {R : Nat} (hm : inMask 256 R = true) (lane : Nat) (stream : Bytes) (ready : Bool) (s : State) : (listenerDeclaration lane stream ready s).core R = s.core R := by
  unfold listenerDeclaration
  repeat' (first | with_reducible rfl | split | simp only [↓core_plan (sb hm rfl)])

theorem execListenerDeclaration_core (t : Nat) (lane : Nat) (stream : Bytes) (ready : Bool) (s : State) (t' : State) (h : (execListenerDeclaration t lane stream ready s) = .next t') : t'.core 4194560 = s.core 4194560 := by
  have hm : inMask 4194560 4194560 = true := rfl
  simp only [execListenerDeclaration, Host.Outcome.next.injEq] at h
  subst h
  simp only [↓listenerDeclaration_core (sb hm rfl), ↓State.begin_core (sb hm rfl)]

theorem State.bump_core {R : Nat} (hm : inMask 0 R = true) (s : State) (k : Nat) (off : Nat) (w : Nat) (n : Nat) : (State.bump s k off w n).core R = s.core R := by
  simp only [State.bump, ↓State.setBlob_core (sb hm rfl)]

theorem State.streamCount_core {R : Nat} (hm : inMask 0 R = true) (s : State) (slot : Nat) (off : Nat) : (State.streamCount s slot off).core R = s.core R := by
  simp only [State.streamCount, ↓State.bump_core (sb hm rfl)]

theorem State.passCount_core {R : Nat} (hm : inMask 0 R = true) (s : State) (p : Nat) (off : Nat) : (State.passCount s p off).core R = s.core R := by
  simp only [State.passCount, ↓State.bump_core (sb hm rfl)]

theorem State.secCount_core {R : Nat} (hm : inMask 0 R = true) (s : State) (n : Nat) (off : Nat) : (State.secCount s n off).core R = s.core R := by
  simp only [State.secCount, ↓State.bump_core (sb hm rfl)]

theorem State.meter_core {R : Nat} (hm : inMask 1024 R = true) (s : State) (key : Nat) (new : MeterSt) (bytes : Nat) (colour : Nat) : (State.meter s key new bytes colour).2.2.core R = s.core R := by
  simp only [State.meter, ↓core_fwd (sb hm rfl)]

theorem State.refreshConns_core {R : Nat} (hm : inMask 0 R = true) (s : State) : (State.refreshConns s).core R = s.core R := by
  simp only [State.refreshConns, ↓State.setN_core (sb hm rfl)]

theorem State.withConns_core {R : Nat} (hm : inMask 2048 R = true) (s : State) (l : List Conn) : (State.withConns s l).core R = s.core R := by
  simp only [State.withConns, ↓State.refreshConns_core (sb hm rfl), ↓core_fw (sb hm rfl)]

theorem State.touchConn_core {R : Nat} (hm : inMask 2048 R = true) (s : State) (c : Conn) (x : L3) (reply : Bool) : (State.touchConn s c x reply).core R = s.core R := by
  simp only [State.touchConn, ↓State.withConns_core (sb hm rfl)]

theorem State.makeRoom_core {R : Nat} (hm : inMask 2048 R = true) (s : State) (pass anchor home limit : Nat) (t' : State)
    (h : s.makeRoom pass anchor home limit = some t') : t'.core R = s.core R := by
  have evict : ∀ l : List Conn, (match oldestConn l with
      | none => none
      | some c =>
        if s.n O.evictionAge * 1000000000 < s.now - c.last then
          some ((s.withConns (s.fw.conns.filter (· ≠ c))).inc64 O.evictedSessions)
        else none) = some t' → t'.core R = s.core R := by
    intro l h
    split at h
    · cases h
    · split at h
      · cases h; rw [State.inc64_core (sb hm rfl), State.withConns_core (sb hm rfl)]
      · cases h
  unfold State.makeRoom at h
  dsimp only at h
  split at h
  · exact evict _ h
  · split at h
    · exact evict _ h
    · cases h; rfl






theorem State.logDeny_core {R : Nat} (hm : inMask 2080 R = true) (s : State) (pass : Nat) (rule : Nat) (inEp : Nat) : (State.logDeny s pass rule inEp).core R = s.core R := by
  simp only [State.logDeny, ↓State.logEv_core (sb hm rfl), ↓State.passCount_core (sb hm rfl), ↓State.inc64_core (sb hm rfl), ↓core_fw (sb hm rfl), ↓core_ite, ite_self]

theorem State.applyAction_core {R : Nat} (hm : inMask 1024 R = true) (s : State) (pass : Nat) (action : Nat) (die : Nat) (len : Nat) (colour : Nat) : (State.applyAction s pass action die len colour).2.core R = s.core R := by
  unfold State.applyAction
  repeat' (first | with_reducible rfl | split | simp only [↓State.meter_core (sb hm rfl), ↓State.passCount_core (sb hm rfl)])

theorem State.openConn_core {R : Nat} (hm : inMask 2048 R = true) (s : State) (pass anchor rule : Nat) (x : L3) :
    (s.openConn pass anchor rule x).2.core R = s.core R := by
  unfold State.openConn
  dsimp only
  repeat' split
  all_goals first
    | with_reducible rfl
    | (rw [State.passCount_core (sb hm rfl)]; done)
    | (rw [State.passCount_core (sb hm rfl), State.withConns_core (sb hm rfl)]; exact State.makeRoom_core (sb hm rfl) _ _ _ _ _ _ (by assumption))






theorem State.evalCopy_core {R : Nat} (hm : inMask 3104 R = true) (s : State) (p : Pkt) (len : Nat) (out : Nat) (b : Nat) : (State.evalCopy s p len out b).2.core R = s.core R := by
  unfold State.evalCopy
  repeat' (first | with_reducible rfl | split | simp only [↓State.touchConn_core (sb hm rfl), ↓State.applyAction_core (sb hm rfl), ↓State.passCount_core (sb hm rfl), ↓State.inc64_core (sb hm rfl), ↓State.logDeny_core (sb hm rfl), ↓State.openConn_core (sb hm rfl)])

theorem sessionIdleExpiry_core {R : Nat} (hm : inMask 2048 R = true) (s : State) : (sessionIdleExpiry s).core R = s.core R := by
  simp only [sessionIdleExpiry, ↓State.withConns_core (sb hm rfl)]

theorem execSessionIdleExpiry_core (t : Nat) (s : State) (t' : State) (h : (execSessionIdleExpiry t s) = .next t') : t'.core 4196352 = s.core 4196352 := by
  have hm : inMask 4196352 4196352 = true := rfl
  simp only [execSessionIdleExpiry, Host.Outcome.next.injEq] at h
  subst h
  simp only [↓sessionIdleExpiry_core (sb hm rfl), ↓State.begin_core (sb hm rfl)]

theorem sessionTransferDone_core {R : Nat} (hm : inMask 2048 R = true) (pass : Nat) (die : Nat) (s : State) : (sessionTransferDone pass die s).core R = s.core R := by
  simp only [sessionTransferDone, ↓State.withConns_core (sb hm rfl), ↓core_fw (sb hm rfl)]

theorem execSessionTransferDone_core (t : Nat) (pass : Nat) (die : Nat) (s : State) (t' : State) (h : (execSessionTransferDone t pass die s) = .next t') : t'.core 4196352 = s.core 4196352 := by
  have hm : inMask 4196352 4196352 = true := rfl
  simp only [execSessionTransferDone, Host.Outcome.next.injEq] at h
  subst h
  simp only [↓sessionTransferDone_core (sb hm rfl), ↓State.begin_core (sb hm rfl)]

theorem sessionFlush_core {R : Nat} (hm : inMask 2048 R = true) (pass : Nat) (a1 : Session) (s : State) : (sessionFlush pass a1 s).2.core R = s.core R := by
  simp only [sessionFlush, ↓State.withConns_core (sb hm rfl)]

theorem execSessionFlush_core (t : Nat) (who : Who) (pass : Nat) (s : State) (t' : State) (h : (execSessionFlush t who pass s) = .next t') : t'.core 4724752 = s.core 4724752 := by
  have hm : inMask 4724752 4724752 = true := rfl
  simp only [execSessionFlush, cmdRow, Host.Outcome.next.injEq] at h
  subst h
  repeat' (first | with_reducible rfl | rw [core_foldl] | rw [serve_core (sb hm rfl)] | rw [writeCmd_core (sb hm rfl)] | intro _ | split | simp only [↓sessionFlush_core (sb hm rfl), ↓State.begin_core (sb hm rfl)])

theorem clearPassCounters_core {R : Nat} (hm : inMask 0 R = true) (x : Session) (s : State) : (clearPassCounters x s).2.core R = s.core R := by
  unfold clearPassCounters
  repeat' (first | with_reducible rfl | rw [core_foldl] | intro _ | split | simp only [↓State.setBlob_core (sb hm rfl)])

theorem execClearPassCounters_core (t : Nat) (who : Who) (s : State) (t' : State) (h : (execClearPassCounters t who s) = .next t') : t'.core 4722704 = s.core 4722704 := by
  have hm : inMask 4722704 4722704 = true := rfl
  simp only [execClearPassCounters, cmdRow, Host.Outcome.next.injEq] at h
  subst h
  repeat' (first | with_reducible rfl | rw [core_foldl] | rw [serve_core (sb hm rfl)] | rw [writeCmd_core (sb hm rfl)] | intro _ | split | simp only [↓clearPassCounters_core (sb hm rfl), ↓State.begin_core (sb hm rfl)])

theorem clearStreamCounters_core {R : Nat} (hm : inMask 0 R = true) (x : Session) (s : State) : (clearStreamCounters x s).2.core R = s.core R := by
  unfold clearStreamCounters
  repeat' (first | with_reducible rfl | rw [core_foldl] | intro _ | split | simp only [↓State.setBlob_core (sb hm rfl)])

theorem execClearStreamCounters_core (t : Nat) (who : Who) (s : State) (t' : State) (h : (execClearStreamCounters t who s) = .next t') : t'.core 4722704 = s.core 4722704 := by
  have hm : inMask 4722704 4722704 = true := rfl
  simp only [execClearStreamCounters, cmdRow, Host.Outcome.next.injEq] at h
  subst h
  repeat' (first | with_reducible rfl | rw [core_foldl] | rw [serve_core (sb hm rfl)] | rw [writeCmd_core (sb hm rfl)] | intro _ | split | simp only [↓clearStreamCounters_core (sb hm rfl), ↓State.begin_core (sb hm rfl)])

theorem State.switchConns_core {R : Nat} (hm : inMask 2048 R = true) (s : State) (old : State) : (State.switchConns s old).core R = s.core R := by
  simp only [State.switchConns, ↓State.withConns_core (sb hm rfl)]

theorem State.startMoves_core {R : Nat} (hm : inMask 2048 R = true) (s : State) (old : State) : (State.startMoves s old).core R = s.core R := by
  simp only [State.startMoves, ↓core_fw (sb hm rfl)]

theorem State.mapSas_core {R : Nat} (hm : inMask 32768 R = true) (s : State) (f : Sa → Sa) : (State.mapSas s f).core R = s.core R := by
  simp only [State.mapSas, ↓core_cipher (sb hm rfl)]

theorem State.journalMark_core {R : Nat} (hm : inMask 32800 R = true) (s : State) (a : Sa) (v : Nat) : (State.journalMark s a v).core R = s.core R := by
  simp only [State.journalMark, ↓State.logBytes_core (sb hm rfl), ↓core_cipher (sb hm rfl)]

theorem State.movePn_core {R : Nat} (hm : inMask 32800 R = true) (s : State) (a : Sa) (pn : Nat) : (State.movePn s a pn).core R = s.core R := by
  simp only [State.movePn, ↓State.mapSas_core (sb hm rfl), ↓State.journalMark_core (sb hm rfl), ↓core_ite, ite_self]

theorem State.macsecIn_core {R : Nat} (hm : inMask 32800 R = true) (s : State) (n : Nat) (x : RxSec) : (State.macsecIn s n x).2.core R = s.core R := by
  unfold State.macsecIn
  repeat' (first | with_reducible rfl | split | simp only [↓State.secCount_core (sb hm rfl), ↓State.movePn_core (sb hm rfl)])

theorem State.macsecOut_core {R : Nat} (hm : inMask 32800 R = true) (s : State) (n : Nat) : (State.macsecOut s n).2.core R = s.core R := by
  unfold State.macsecOut
  repeat' (first | with_reducible rfl | split | simp only [↓State.secCount_core (sb hm rfl), ↓State.mapSas_core (sb hm rfl), ↓State.logEv_core (sb hm rfl), ↓State.movePn_core (sb hm rfl)])

theorem State.nextSeq_core {R : Nat} (hm : inMask 65536 R = true) (s : State) (i : Nat) (n : Nat) (ty : Nat) : (State.nextSeq s i n ty).2.core R = s.core R := by
  simp only [State.nextSeq, ↓State.updInst_core (sb hm rfl)]

theorem State.joinQueue_core {R : Nat} (hm : inMask 512 R = true) (s : State) (n : Nat) (f : QFrame) : (State.joinQueue s n f).core R = s.core R := by
  simp only [State.joinQueue, ↓State.updLane_core (sb hm rfl)]

theorem State.dropRelay_core {R : Nat} (hm : inMask 65536 R = true) (s : State) (f : QFrame) : (State.dropRelay s f).core R = s.core R := by
  unfold State.dropRelay
  repeat' (first | with_reducible rfl | split | simp only [↓State.updInst_core (sb hm rfl)])

theorem State.ptpDepart_core {R : Nat} (hm : inMask 66048 R = true) (s : State) (n : Nat) (f : QFrame) : (State.ptpDepart s n f).2.core R = s.core R := by
  unfold State.ptpDepart
  repeat' (first | with_reducible rfl | split | simp only [↓State.updInst_core (sb hm rfl), ↓State.joinQueue_core (sb hm rfl)])

theorem State.showBands_core {R : Nat} (hm : inMask 0 R = true) (s : State) (n : Nat) : (State.showBands s n).core R = s.core R := by
  simp only [State.showBands, ↓State.setBlob_core (sb hm rfl)]

theorem State.showAdminBands_core {R : Nat} (hm : inMask 0 R = true) (s : State) : (State.showAdminBands s).core R = s.core R := by
  unfold State.showAdminBands
  repeat' (first | with_reducible rfl | rw [core_foldl] | intro _ | split | simp only [↓State.showBands_core (sb hm rfl)])

theorem State.refreshPause_core {R : Nat} (hm : inMask 512 R = true) (s : State) (n : Nat) : (State.refreshPause s n).core R = s.core R := by
  unfold State.refreshPause
  repeat' (first | with_reducible rfl | rw [core_foldl] | intro _ | split | simp only [↓State.setN_core (sb hm rfl), ↓State.updLane_core (sb hm rfl)])

theorem pauseReceive_core {R : Nat} (hm : inMask 512 R = true) (n : Nat) (pfc : Bool) (times : List (Nat × Nat)) (s : State) : (pauseReceive n pfc times s).core R = s.core R := by
  simp only [pauseReceive, ↓State.countDrained_core (sb hm rfl), ↓State.inc64_core (sb hm rfl), ↓State.updLane_core (sb hm rfl), ↓State.refreshPause_core (sb hm rfl), ↓core_ite, ite_self]

theorem execPauseReceive_core (t : Nat) (lane : Nat) (pfc : Bool) (times : List (Nat × Nat)) (s : State) (t' : State) (h : (execPauseReceive t lane pfc times s) = .next t') : t'.core 4194816 = s.core 4194816 := by
  have hm : inMask 4194816 4194816 = true := rfl
  simp only [execPauseReceive, Host.Outcome.next.injEq] at h
  subst h
  simp only [↓pauseReceive_core (sb hm rfl), ↓State.begin_core (sb hm rfl)]

theorem pauseTimerExpiry_core {R : Nat} (hm : inMask 512 R = true) (n : Nat) (s : State) : (pauseTimerExpiry n s).core R = s.core R := by
  simp only [pauseTimerExpiry, ↓State.refreshPause_core (sb hm rfl), ↓State.updLane_core (sb hm rfl), ↓core_ite, ite_self]

theorem execPauseTimerExpiry_core (t : Nat) (lane : Nat) (s : State) (t' : State) (h : (execPauseTimerExpiry t lane s) = .next t') : t'.core 4194816 = s.core 4194816 := by
  have hm : inMask 4194816 4194816 = true := rfl
  simp only [execPauseTimerExpiry, Host.Outcome.next.injEq] at h
  subst h
  simp only [↓pauseTimerExpiry_core (sb hm rfl), ↓State.begin_core (sb hm rfl)]

theorem State.checkFlow_core {R : Nat} (hm : inMask 512 R = true) (s : State) (n : Nat) : (State.checkFlow s n).core R = s.core R := by
  simp only [State.checkFlow, ↓State.updLane_core (sb hm rfl), ↓core_ite, ite_self]

theorem pauseRepeat_core {R : Nat} (hm : inMask 512 R = true) (n : Nat) (s : State) : (pauseRepeat n s).core R = s.core R := by
  simp only [pauseRepeat, ↓State.checkFlow_core (sb hm rfl), ↓State.updLane_core (sb hm rfl), ↓core_ite, ite_self]

theorem execPauseRepeat_core (t : Nat) (lane : Nat) (s : State) (t' : State) (h : (execPauseRepeat t lane s) = .next t') : t'.core 4194816 = s.core 4194816 := by
  have hm : inMask 4194816 4194816 = true := rfl
  simp only [execPauseRepeat, Host.Outcome.next.injEq] at h
  subst h
  simp only [↓pauseRepeat_core (sb hm rfl), ↓State.begin_core (sb hm rfl)]

theorem State.accrue_core {R : Nat} (hm : inMask 512 R = true) (s : State) (n : Nat) : (State.accrue s n).core R = s.core R := by
  simp only [State.accrue, ↓State.updLane_core (sb hm rfl)]

theorem State.accrueBe_core {R : Nat} (hm : inMask 512 R = true) (s : State) (n : Nat) : (State.accrueBe s n).core R = s.core R := by
  simp only [State.accrueBe, ↓State.updLane_core (sb hm rfl)]

theorem State.pushQueue_core {R : Nat} (hm : inMask 512 R = true) (s : State) (n : Nat) (f : QFrame) : (State.pushQueue s n f).core R = s.core R := by
  simp only [State.pushQueue, ↓State.joinQueue_core (sb hm rfl), ↓State.accrue_core (sb hm rfl)]

theorem releaseShaper_core {R : Nat} (hm : inMask 1536 R = true) (k key : Nat) (s : State) : (releaseShaper k key s).core R = s.core R := by
  induction k generalizing s with
  | zero => rfl
  | succ k ih =>
    unfold releaseShaper
    dsimp only
    repeat' split
    all_goals first
      | with_reducible rfl
      | (rw [ih, State.pushQueue_core (sb hm rfl), core_fwd (sb hm rfl)])
      | (rw [ih, core_fwd (sb hm rfl)])
      | exact core_fwd (sb hm rfl) ..
      | (rw [core_fwd (sb hm rfl), State.pushQueue_core (sb hm rfl)])
      | (rw [State.pushQueue_core (sb hm rfl), core_fwd (sb hm rfl)])






theorem shaperEligible_core {R : Nat} (hm : inMask 1536 R = true) (n : Nat) (slot : Nat) (s : State) : (shaperEligible n slot s).core R = s.core R := by
  unfold shaperEligible
  repeat' (first | with_reducible rfl | split | simp only [↓releaseShaper_core (sb hm rfl)])

theorem execShaperEligible_core (t : Nat) (lane : Nat) (slot : Nat) (s : State) (t' : State) (h : (execShaperEligible t lane slot s) = .next t') : t'.core 4195840 = s.core 4195840 := by
  have hm : inMask 4195840 4195840 = true := rfl
  simp only [execShaperEligible, Host.Outcome.next.injEq] at h
  subst h
  simp only [↓shaperEligible_core (sb hm rfl), ↓State.begin_core (sb hm rfl)]

theorem State.flowOf_core {R : Nat} (hm : inMask 512 R = true) (s : State) (f : QFrame) : (State.flowOf s f).core R = s.core R := by
  unfold State.flowOf
  repeat' (first | with_reducible rfl | rw [core_foldl] | rw [core_fold2] | rw [core_fold3] | (apply core_mapD) | intro _ | split | simp only [↓State.checkFlow_core (sb hm rfl)])

theorem State.enqueue_core {R : Nat} (hm : inMask 1536 R = true) (s : State) (n : Nat) (f : QFrame) : (State.enqueue s n f).core R = s.core R := by
  simp only [State.enqueue, ↓State.inc64_core (sb hm rfl), ↓State.countDrained_core (sb hm rfl), ↓shaperEligible_core (sb hm rfl), ↓State.flowOf_core (sb hm rfl), ↓State.pushQueue_core (sb hm rfl), ↓core_fwd (sb hm rfl), ↓core_ite, ite_self]

theorem State.handed_core {R : Nat} (hm : inMask 1024 R = true) (s : State) (avail : SMap Nat) : (State.handed s avail).core R = s.core R := by
  simp only [State.handed, ↓core_fwd (sb hm rfl)]

theorem State.giveRing_core {R : Nat} (hm : inMask 5120 R = true) (s : State) (d : Nat) (r : Nat) (counts : List Nat) (cut : Bool) (stomped : Bool) (bytes : Bytes) (err : Nat) (src : Nat) (stamp : Nat) (slot : Nat) : (State.giveRing s d r counts cut stomped bytes err src stamp slot).core R = s.core R := by
  simp only [State.giveRing, ↓State.setN_core (sb hm rfl), ↓State.emit_core (sb hm rfl), ↓core_fwd_bridge (sb hm rfl)]

theorem State.deliverRing_core {R : Nat} (hm : inMask 5120 R = true) (s : State) (d : Nat) (r : Nat) (bytes : Bytes) (err : Nat) (stomped : Bool) (src : Nat) (stamp : Nat) (slot : Nat) (lane : Option Nat) : (State.deliverRing s d r bytes err stomped src stamp slot lane).2.core R = s.core R := by
  unfold State.deliverRing
  repeat' (first | with_reducible rfl | split | simp only [↓State.giveRing_core (sb hm rfl), ↓State.inc32_core (sb hm rfl)])

theorem State.txAway_core {R : Nat} (hm : inMask 1024 R = true) (s : State) (id : Nat) (f : Nat → Nat) : (State.txAway s id f).core R = s.core R := by
  simp only [State.txAway, ↓core_fwd (sb hm rfl)]

theorem State.toSaddle_core {R : Nat} (hm : inMask 1024 R = true) (s : State) (die : Nat) (m : SaddleFrame) : (State.toSaddle s die m).core R = s.core R := by
  simp only [State.toSaddle, ↓State.emit_core (sb hm rfl), ↓State.txAway_core (sb hm rfl)]

theorem State.alongWay_core {R : Nat} (hm : inMask 1024 R = true) (s : State) (a : Nat) (b : Nat) (m : SaddleFrame) : (State.alongWay s a b m).2.core R = s.core R := by
  unfold State.alongWay
  repeat' (first | with_reducible rfl | split | simp only [↓State.toSaddle_core (sb hm rfl)])

theorem State.mirrorDrop_core {R : Nat} (hm : inMask 0 R = true) (s : State) (i : Nat) : (State.mirrorDrop s i).core R = s.core R := by
  simp only [State.mirrorDrop, ↓State.inc64_core (sb hm rfl)]

theorem State.mirrorCopy_core {R : Nat} (hm : inMask 5632 R = true) (s : State) (i : Nat) (die : Nat) (m : MirrorSrc) : (State.mirrorCopy s i die m).core R = s.core R := by
  simp only [State.mirrorCopy, ↓State.alongWay_core (sb hm rfl), ↓State.mirrorDrop_core (sb hm rfl), ↓State.enqueue_core (sb hm rfl), ↓State.deliverRing_core (sb hm rfl), ↓State.inc64_core (sb hm rfl), ↓core_ite, ite_self]

theorem State.mirrorIngress_core {R : Nat} (hm : inMask 5632 R = true) (s : State) (p : Pkt) (received : Bytes) : (State.mirrorIngress s p received).core R = s.core R := by
  unfold State.mirrorIngress
  repeat' (first | with_reducible rfl | rw [core_foldl] | intro _ | split | simp only [↓State.mirrorCopy_core (sb hm rfl)])

theorem State.mirrorEgress_core {R : Nat} (hm : inMask 5632 R = true) (s : State) (n : Nat) (f : QFrame) (sent : Bytes) : (State.mirrorEgress s n f sent).core R = s.core R := by
  unfold State.mirrorEgress
  repeat' (first | with_reducible rfl | rw [core_foldl] | intro _ | split | simp only [↓State.mirrorCopy_core (sb hm rfl)])

theorem State.txDecided_core {R : Nat} (hm : inMask 1024 R = true) (s : State) (id : Nat) (permit : Bool) : (State.txDecided s id permit).core R = s.core R := by
  simp only [State.txDecided, ↓core_fwd (sb hm rfl)]

theorem State.txSent_core {R : Nat} (hm : inMask 1024 R = true) (s : State) (n : Nat) (f : QFrame) : (State.txSent s n f).core R = s.core R := by
  simp only [State.txSent, ↓core_fwd (sb hm rfl), ↓core_ite, ite_self]

theorem State.returnTx_core {R : Nat} (hm : inMask 4096 R = true) (s : State) (w : TxWait) : (State.returnTx s w).core R = s.core R := by
  simp only [State.returnTx, ↓State.emit_core (sb hm rfl), ↓core_bridge (sb hm rfl)]

theorem State.settleTx_core {R : Nat} (hm : inMask 5120 R = true) (s : State) : (State.settleTx s).core R = s.core R := by
  unfold State.settleTx
  repeat' (first | with_reducible rfl | rw [core_foldl] | rw [core_fold2] | rw [core_fold3] | (apply core_mapD) | intro _ | split | simp only [↓State.returnTx_core (sb hm rfl), ↓core_fwd (sb hm rfl)])

theorem State.takeHead_core {R : Nat} (hm : inMask 512 R = true) (s : State) (n : Nat) (f : QFrame) : (State.takeHead s n f).core R = s.core R := by
  simp only [State.takeHead, ↓State.updLane_core (sb hm rfl)]

theorem State.countStart_core {R : Nat} (hm : inMask 512 R = true) (s : State) (n : Nat) (f : QFrame) (relief : Bool) : (State.countStart s n f relief).core R = s.core R := by
  simp only [State.countStart, ↓State.inc64_core (sb hm rfl), ↓State.updLane_core (sb hm rfl), ↓core_ite, ite_self]

theorem State.startFrame_core {R : Nat} (hm : inMask 103968 R = true) (s : State) (n : Nat) (f : QFrame) (relief : Bool) : (State.startFrame s n f relief).core R = s.core R := by
  unfold State.startFrame
  repeat' (first | with_reducible rfl | split | simp only [↓State.takeHead_core (sb hm rfl), ↓State.dropRelay_core (sb hm rfl), ↓State.macsecOut_core (sb hm rfl), ↓State.txSent_core (sb hm rfl), ↓State.countStart_core (sb hm rfl), ↓State.updLane_core (sb hm rfl), ↓State.ptpDepart_core (sb hm rfl), ↓State.flowOf_core (sb hm rfl), ↓State.mirrorEgress_core (sb hm rfl), ↓State.emit_core (sb hm rfl), ↓core_ite, ite_self])

theorem State.cut_core {R : Nat} (hm : inMask 512 R = true) (s : State) (n : Nat) : (State.cut s n).core R = s.core R := by
  simp only [State.cut, ↓State.updLane_core (sb hm rfl), ↓State.secCount_core (sb hm rfl), ↓core_ite, ite_self]

theorem State.tryResume_core {R : Nat} (hm : inMask 512 R = true) (s : State) (n : Nat) (t' : State) (h : s.tryResume n = some t') : t'.core R = s.core R := by
  unfold State.tryResume at h
  dsimp only at h
  split at h
  · cases h
  · split at h
    · cases h
    · cases h; rw [State.emit_core (sb hm rfl), State.updLane_core (sb hm rfl)]






theorem State.startFlow_core {R : Nat} (hm : inMask 5632 R = true) (s : State) (n : Nat) (quanta : Nat) : (State.startFlow s n quanta).core R = s.core R := by
  simp only [State.startFlow, ↓State.updLane_core (sb hm rfl), ↓State.emit_core (sb hm rfl), ↓State.inc64_core (sb hm rfl), ↓State.mirrorEgress_core (sb hm rfl)]

theorem State.pick_core {R : Nat} (hm : inMask 103968 R = true) (s : State) (n : Nat) : (s.pick n).core R = s.core R := by
  unfold State.pick
  dsimp only
  repeat' split
  all_goals first
    | with_reducible rfl
    | rw [State.startFrame_core (sb hm rfl)]
    | rw [State.startFlow_core (sb hm rfl)]
    | exact core_getD _ _ (State.tryResume_core (sb hm rfl) s n)
    | rw [State.updLane_core (sb hm rfl), State.emit_core (sb hm rfl), State.inc64_core (sb hm rfl), State.updLane_core (sb hm rfl)]

theorem State.select_core {R : Nat} (hm : inMask 103968 R = true) (s : State) (n : Nat) : (State.select s n).core R = s.core R := by
  simp only [State.select, ↓State.updLane_core (sb hm rfl), ↓State.accrueBe_core (sb hm rfl), ↓State.accrue_core (sb hm rfl), ↓State.pick_core (sb hm rfl), ↓State.cut_core (sb hm rfl), ↓core_ite, ite_self]

theorem transmitSelection_core {R : Nat} (hm : inMask 103968 R = true) (n : Nat) (avail : SMap Nat) (s : State) : (transmitSelection n avail s).core R = s.core R := by
  simp only [transmitSelection, ↓State.settleTx_core (sb hm rfl), ↓State.select_core (sb hm rfl), ↓State.handed_core (sb hm rfl)]

theorem execTransmitSelection_core (t : Nat) (lane : Nat) (avail : SMap Nat) (s : State) (t' : State) (h : (execTransmitSelection t lane avail s) = .next t') : t'.core 4298272 = s.core 4298272 := by
  have hm : inMask 4298272 4298272 = true := rfl
  simp only [execTransmitSelection, Host.Outcome.next.injEq] at h
  subst h
  simp only [↓transmitSelection_core (sb hm rfl), ↓State.begin_core (sb hm rfl)]

theorem creditReachesZero_core {R : Nat} (hm : inMask 103968 R = true) (n : Nat) (tc : Nat) (avail : SMap Nat) (s : State) : (creditReachesZero n tc avail s).core R = s.core R := by
  simp only [creditReachesZero, ↓transmitSelection_core (sb hm rfl), ↓core_ite, ite_self]

theorem execCreditReachesZero_core (t : Nat) (lane : Nat) (tc : Nat) (avail : SMap Nat) (s : State) (t' : State) (h : (execCreditReachesZero t lane tc avail s) = .next t') : t'.core 4298272 = s.core 4298272 := by
  have hm : inMask 4298272 4298272 = true := rfl
  simp only [execCreditReachesZero, Host.Outcome.next.injEq] at h
  subst h
  simp only [↓creditReachesZero_core (sb hm rfl), ↓State.begin_core (sb hm rfl)]

theorem limiterReachesZero_core {R : Nat} (hm : inMask 103968 R = true) (n : Nat) (avail : SMap Nat) (s : State) : (limiterReachesZero n avail s).core R = s.core R := by
  simp only [limiterReachesZero, ↓transmitSelection_core (sb hm rfl), ↓core_ite, ite_self]

theorem execLimiterCountReachesZero_core (t : Nat) (lane : Nat) (avail : SMap Nat) (s : State) (t' : State) (h : (execLimiterCountReachesZero t lane avail s) = .next t') : t'.core 4298272 = s.core 4298272 := by
  have hm : inMask 4298272 4298272 = true := rfl
  simp only [execLimiterCountReachesZero, Host.Outcome.next.injEq] at h
  subst h
  simp only [↓limiterReachesZero_core (sb hm rfl), ↓State.begin_core (sb hm rfl)]

theorem setAndHold_core {R : Nat} (hm : inMask 512 R = true) (n : Nat) (s : State) : (setAndHold n s).core R = s.core R := by
  simp only [setAndHold, ↓State.updLane_core (sb hm rfl), ↓State.cut_core (sb hm rfl), ↓core_ite, ite_self]

theorem execSetAndHold_core (t : Nat) (lane : Nat) (s : State) (t' : State) (h : (execSetAndHold t lane s) = .next t') : t'.core 4194816 = s.core 4194816 := by
  have hm : inMask 4194816 4194816 = true := rfl
  simp only [execSetAndHold, Host.Outcome.next.injEq] at h
  subst h
  simp only [↓setAndHold_core (sb hm rfl), ↓State.begin_core (sb hm rfl)]

theorem State.closeWindow_core {R : Nat} (hm : inMask 512 R = true) (s : State) (n : Nat) : (State.closeWindow s n).core R = s.core R := by
  simp only [State.closeWindow, ↓State.addTo_core (sb hm rfl), ↓State.updLane_core (sb hm rfl), ↓core_ite, ite_self]

theorem gateEvent_core {R : Nat} (hm : inMask 512 R = true) (n : Nat) (s : State) : (gateEvent n s).core R = s.core R := by
  unfold gateEvent
  repeat' (first | with_reducible rfl | split | simp only [↓State.accrue_core (sb hm rfl), ↓State.closeWindow_core (sb hm rfl), ↓State.updLane_core (sb hm rfl)])

theorem execGateEvent_core (t : Nat) (lane : Nat) (s : State) (t' : State) (h : (execGateEvent t lane s) = .next t') : t'.core 4194816 = s.core 4194816 := by
  have hm : inMask 4194816 4194816 = true := rfl
  simp only [execGateEvent, Host.Outcome.next.injEq] at h
  subst h
  simp only [↓gateEvent_core (sb hm rfl), ↓State.begin_core (sb hm rfl)]

theorem adminListStart_core {R : Nat} (hm : inMask 512 R = true) (n : Nat) (s : State) : (adminListStart n s).core R = s.core R := by
  simp only [adminListStart, ↓State.setN_core (sb hm rfl), ↓State.updLane_core (sb hm rfl), ↓State.showBands_core (sb hm rfl), ↓core_ite, ite_self]

theorem execAdminListStart_core (t : Nat) (lane : Nat) (s : State) (t' : State) (h : (execAdminListStart t lane s) = .next t') : t'.core 4194816 = s.core 4194816 := by
  have hm : inMask 4194816 4194816 = true := rfl
  simp only [execAdminListStart, Host.Outcome.next.injEq] at h
  subst h
  simp only [↓adminListStart_core (sb hm rfl), ↓State.begin_core (sb hm rfl)]

theorem starvationLimit_core {R : Nat} (hm : inMask 512 R = true) (n : Nat) (tc : Nat) (s : State) : (starvationLimit n tc s).core R = s.core R := by
  simp only [starvationLimit, ↓State.updLane_core (sb hm rfl), ↓core_ite, ite_self]

theorem execStarvationLimit_core (t : Nat) (lane : Nat) (tc : Nat) (s : State) (t' : State) (h : (execStarvationLimit t lane tc s) = .next t') : t'.core 4194816 = s.core 4194816 := by
  have hm : inMask 4194816 4194816 = true := rfl
  simp only [execStarvationLimit, Host.Outcome.next.injEq] at h
  subst h
  simp only [↓starvationLimit_core (sb hm rfl), ↓State.begin_core (sb hm rfl)]

theorem State.putFdb_core {R : Nat} (hm : inMask 1024 R = true) (s : State) (d : Nat) (key : Nat) (e : FdbEntry) : (State.putFdb s d key e).core R = s.core R := by
  simp only [State.putFdb, ↓core_fwd (sb hm rfl)]

theorem State.delFdb_core {R : Nat} (hm : inMask 1024 R = true) (s : State) (d : Nat) (key : Nat) : (State.delFdb s d key).core R = s.core R := by
  simp only [State.delFdb, ↓core_fwd (sb hm rfl)]

theorem State.learn_core {R : Nat} (hm : inMask 1024 R = true) (s : State) (d : Nat) (key : Nat) (ep : Nat) : (State.learn s d key ep).core R = s.core R := by
  unfold State.learn
  repeat' (first | with_reducible rfl | rw [core_foldl] | intro _ | split | simp only [↓State.emit_core (sb hm rfl), ↓State.refreshFdb_core (sb hm rfl), ↓State.putFdb_core (sb hm rfl), ↓State.inc32_core (sb hm rfl)])

theorem fdbUpdateReceive_core {R : Nat} (hm : inMask 1024 R = true) (d : Nat) (key : Nat) (e : FdbEntry) (s : State) : (fdbUpdateReceive d key e s).core R = s.core R := by
  unfold fdbUpdateReceive
  repeat' (first | with_reducible rfl | split | simp only [↓State.refreshFdb_core (sb hm rfl), ↓State.putFdb_core (sb hm rfl)])

theorem execFdbUpdateReceive_core (t : Nat) (die : Nat) (key : Nat) (e : FdbEntry) (s : State) (t' : State) (h : (execFdbUpdateReceive t die key e s) = .next t') : t'.core 4195328 = s.core 4195328 := by
  have hm : inMask 4195328 4195328 = true := rfl
  simp only [execFdbUpdateReceive, Host.Outcome.next.injEq] at h
  subst h
  simp only [↓fdbUpdateReceive_core (sb hm rfl), ↓State.begin_core (sb hm rfl)]

theorem fdbAgeOut_core {R : Nat} (hm : inMask 1024 R = true) (d : Nat) (key : Nat) (s : State) : (fdbAgeOut d key s).core R = s.core R := by
  unfold fdbAgeOut
  repeat' (first | with_reducible rfl | split | simp only [↓State.refreshFdb_core (sb hm rfl), ↓State.delFdb_core (sb hm rfl)])

theorem execFdbAgeOut_core (t : Nat) (die : Nat) (key : Nat) (s : State) (t' : State) (h : (execFdbAgeOut t die key s) = .next t') : t'.core 4195328 = s.core 4195328 := by
  have hm : inMask 4195328 4195328 = true := rfl
  simp only [execFdbAgeOut, Host.Outcome.next.injEq] at h
  subst h
  simp only [↓fdbAgeOut_core (sb hm rfl), ↓State.begin_core (sb hm rfl)]

theorem staticEntryWrite_core {R : Nat} (hm : inMask 1024 R = true) (r : Bytes) (a1 : Session) (s : State) : (staticEntryWrite r a1 s).2.core R = s.core R := by
  unfold staticEntryWrite
  repeat' (first | with_reducible rfl | rw [core_foldl] | intro _ | split | simp only [↓State.delFdb_core (sb hm rfl), ↓State.putFdb_core (sb hm rfl), ↓State.refreshFdb_core (sb hm rfl)])

theorem execStaticEntryWrite_core (t : Nat) (who : Who) (rec : Bytes) (s : State) (t' : State) (h : (execStaticEntryWrite t who rec s) = .next t') : t'.core 4723728 = s.core 4723728 := by
  have hm : inMask 4723728 4723728 = true := rfl
  simp only [execStaticEntryWrite, domRow, Host.Outcome.next.injEq] at h
  subst h
  repeat' (first | with_reducible rfl | rw [core_foldl] | rw [serve_core (sb hm rfl)] | rw [writeDom_core (sb hm rfl)] | intro _ | split | simp only [↓staticEntryWrite_core (sb hm rfl), ↓State.begin_core (sb hm rfl)])

theorem staticEntryDelete_core {R : Nat} (hm : inMask 1024 R = true) (r : Bytes) (a1 : Session) (s : State) : (staticEntryDelete r a1 s).2.core R = s.core R := by
  unfold staticEntryDelete
  repeat' (first | with_reducible rfl | rw [core_foldl] | intro _ | split | simp only [↓State.delFdb_core (sb hm rfl), ↓State.refreshFdb_core (sb hm rfl)])

theorem execStaticEntryDelete_core (t : Nat) (who : Who) (rec : Bytes) (s : State) (t' : State) (h : (execStaticEntryDelete t who rec s) = .next t') : t'.core 4723728 = s.core 4723728 := by
  have hm : inMask 4723728 4723728 = true := rfl
  simp only [execStaticEntryDelete, domRow, Host.Outcome.next.injEq] at h
  subst h
  repeat' (first | with_reducible rfl | rw [core_foldl] | rw [serve_core (sb hm rfl)] | rw [writeDom_core (sb hm rfl)] | intro _ | split | simp only [↓staticEntryDelete_core (sb hm rfl), ↓State.begin_core (sb hm rfl)])

theorem fdbFlush_core {R : Nat} (hm : inMask 1024 R = true) (a1 : Session) (s : State) : (fdbFlush a1 s).2.core R = s.core R := by
  simp only [fdbFlush, ↓State.refreshFdb_core (sb hm rfl), ↓core_fwd (sb hm rfl)]

theorem execFdbFlush_core (t : Nat) (who : Who) (s : State) (t' : State) (h : (execFdbFlush t who s) = .next t') : t'.core 4723728 = s.core 4723728 := by
  have hm : inMask 4723728 4723728 = true := rfl
  simp only [execFdbFlush, cmdRow, Host.Outcome.next.injEq] at h
  subst h
  repeat' (first | with_reducible rfl | rw [core_foldl] | rw [serve_core (sb hm rfl)] | rw [writeCmd_core (sb hm rfl)] | intro _ | split | simp only [↓fdbFlush_core (sb hm rfl), ↓State.begin_core (sb hm rfl)])

theorem State.countFlagged_core {R : Nat} (hm : inMask 0 R = true) (s : State) (p : Pkt) : (State.countFlagged s p).core R = s.core R := by
  unfold State.countFlagged
  repeat' (first | with_reducible rfl | split | simp only [↓State.inc64_core (sb hm rfl)])

theorem State.ringCopy_core {R : Nat} (hm : inMask 5120 R = true) (s : State) (d : Nat) (k : Nat) (p : Pkt) : (State.ringCopy s d k p).core R = s.core R := by
  simp only [State.ringCopy, ↓State.deliverRing_core (sb hm rfl), ↓core_ite, ite_self]

theorem State.recover_core {R : Nat} (hm : inMask 1024 R = true) (s : State) (d : Nat) (slot : Nat) (owner : Nat) (seq : Nat) : (State.recover s d slot owner seq).2.core R = s.core R := by
  unfold State.recover
  repeat' (first | with_reducible rfl | split | simp only [↓State.streamCount_core (sb hm rfl), ↓core_fwd (sb hm rfl)])

theorem recoveryReset_core {R : Nat} (hm : inMask 1024 R = true) (d : Nat) (slot : Nat) (s : State) : (recoveryReset d slot s).core R = s.core R := by
  simp only [recoveryReset, ↓core_fwd (sb hm rfl), ↓core_ite, ite_self]

theorem execRecoveryResetTimeout_core (t : Nat) (die : Nat) (slot : Nat) (s : State) (t' : State) (h : (execRecoveryResetTimeout t die slot s) = .next t') : t'.core 4195328 = s.core 4195328 := by
  have hm : inMask 4195328 4195328 = true := rfl
  simp only [execRecoveryResetTimeout, Host.Outcome.next.injEq] at h
  subst h
  simp only [↓recoveryReset_core (sb hm rfl), ↓State.begin_core (sb hm rfl)]

theorem State.egressPorts_core {R : Nat} (hm : inMask 1536 R = true) (s : State) (d : Nat) (p : Pkt) (r : Bytes) (sp : SlotPlan) (lanes : Nat) (rt : Option Nat) : (State.egressPorts s d p r sp lanes rt).core R = s.core R := by
  unfold State.egressPorts
  repeat' (first | with_reducible rfl | rw [core_foldl] | intro _ | split | simp only [↓State.streamCount_core (sb hm rfl), ↓State.enqueue_core (sb hm rfl), ↓core_ite, ite_self])

theorem State.egressRings_core {R : Nat} (hm : inMask 5120 R = true) (s : State) (d : Nat) (p : Pkt) (r : Bytes) : (State.egressRings s d p r).core R = s.core R := by
  unfold State.egressRings
  repeat' (first | with_reducible rfl | rw [core_foldl] | intro _ | split | simp only [↓State.ringCopy_core (sb hm rfl)])

theorem State.egressUnits_core {R : Nat} (hm : inMask 0 R = true) (s : State) (d : Nat) (p : Pkt) (r : Bytes) (sp : SlotPlan) : (State.egressUnits s d p r sp).core R = s.core R := by
  unfold State.egressUnits
  repeat' (first | with_reducible rfl | rw [core_foldl] | intro _ | split | simp only [↓State.emit_core (sb hm rfl), ↓core_ite])

theorem State.recoverAhead_core {R : Nat} (hm : inMask 1024 R = true) (s : State) (p : Pkt) (r : Bytes) (seq : Nat) (lanes : Nat) (dies : List Nat) : (State.recoverAhead s p r seq lanes dies).2.core R = s.core R := by
  unfold State.recoverAhead
  repeat' (first | with_reducible rfl | rw [core_foldl] | rw [core_fold2] | rw [core_fold3] | (apply core_mapD) | intro _ | split | simp only [↓State.recover_core (sb hm rfl)])

theorem State.crossOn_core {R : Nat} (hm : inMask 1024 R = true) (s : State) (d : Nat) (p : Pkt) (r : Bytes) (sp : SlotPlan) (seq : Nat) (onWire : Bool) (dst : List (Nat × Nat)) : (State.crossOn s d p r sp seq onWire dst).core R = s.core R := by
  unfold State.crossOn
  repeat' (first | with_reducible rfl | rw [core_foldl] | intro _ | split | simp only [↓State.recoverAhead_core (sb hm rfl), ↓State.toSaddle_core (sb hm rfl), ↓core_ite, ite_self])

theorem State.egressHere_core {R : Nat} (hm : inMask 5632 R = true) (s : State) (d : Nat) (p : Pkt) (r : Bytes) (sp : SlotPlan) (seq : Nat) (lanes : Nat) (tagOnWire : Bool) : (State.egressHere s d p r sp seq lanes tagOnWire).core R = s.core R := by
  unfold State.egressHere
  repeat' (first | with_reducible rfl | split | simp only [↓State.recover_core (sb hm rfl), ↓State.egressUnits_core (sb hm rfl), ↓State.egressRings_core (sb hm rfl), ↓State.egressPorts_core (sb hm rfl), ↓core_ite, ite_self])

theorem State.takeSeq_core {R : Nat} (hm : inMask 1024 R = true) (s : State) (p : Pkt) (r : Bytes) : (State.takeSeq s p r).2.core R = s.core R := by
  unfold State.takeSeq
  repeat' (first | with_reducible rfl | split | simp only [↓core_fwd (sb hm rfl)])

theorem State.forwardContract_core {R : Nat} (hm : inMask 5632 R = true) (s : State) (p : Pkt) (r : Bytes) : (State.forwardContract s p r).core R = s.core R := by
  unfold State.forwardContract
  repeat' (first | with_reducible rfl | split | simp only [↓State.takeSeq_core (sb hm rfl), ↓State.countFlagged_core (sb hm rfl), ↓State.egressHere_core (sb hm rfl), ↓State.crossOn_core (sb hm rfl)])

theorem State.copyHere_core {R : Nat} (hm : inMask 5632 R = true) (s : State) (p : Pkt) (t : Target) : (State.copyHere s p t).core R = s.core R := by
  unfold State.copyHere
  repeat' (first | with_reducible rfl | split | simp only [↓State.enqueue_core (sb hm rfl), ↓State.ringCopy_core (sb hm rfl)])

theorem State.copiesAway_core {R : Nat} (hm : inMask 1024 R = true) (s : State) (p : Pkt) (die : Nat) (l : List Target) : (State.copiesAway s p die l).core R = s.core R := by
  simp only [State.copiesAway, ↓State.alongWay_core (sb hm rfl), ↓core_ite, ite_self]

theorem State.mirrorPasses_core {R : Nat} (hm : inMask 5632 R = true) (s : State) (p : Pkt) (l : List Dec) : (State.mirrorPasses s p l).core R = s.core R := by
  unfold State.mirrorPasses
  repeat' (first | with_reducible rfl | rw [core_foldl] | intro _ | split | simp only [↓State.passCount_core (sb hm rfl), ↓State.mirrorCopy_core (sb hm rfl)])

theorem State.sendCopies_core {R : Nat} (hm : inMask 5632 R = true) (s : State) (p : Pkt) (l : List (Target × Dec)) : (State.sendCopies s p l).core R = s.core R := by
  unfold State.sendCopies
  repeat' (first | with_reducible rfl | rw [core_foldl] | intro _ | split | simp only [↓State.mirrorPasses_core (sb hm rfl), ↓State.countFlagged_core (sb hm rfl), ↓State.copyHere_core (sb hm rfl), ↓State.copiesAway_core (sb hm rfl)])

theorem State.decideCopy_core {R : Nat} (hm : inMask 3104 R = true) (s : State) (p : Pkt) (len : Nat) (t : Target) : (State.decideCopy s p len t).2.core R = s.core R := by
  unfold State.decideCopy
  repeat' (first | with_reducible rfl | split | simp only [↓State.emit_core (sb hm rfl), ↓State.evalCopy_core (sb hm rfl), ↓State.txDecided_core (sb hm rfl), ↓core_fw (sb hm rfl)])

theorem State.bridgeCopies_core {R : Nat} (hm : inMask 7712 R = true) (s : State) (p : Pkt) (len : Nat) (l : List Target) : (State.bridgeCopies s p len l).core R = s.core R := by
  unfold State.bridgeCopies
  repeat' (first | with_reducible rfl | rw [core_foldl] | rw [core_fold2] | rw [core_fold3] | (apply core_mapD) | intro _ | split | simp only [↓State.decideCopy_core (sb hm rfl), ↓State.sendCopies_core (sb hm rfl), ↓State.mirrorIngress_core (sb hm rfl), ↓core_fw (sb hm rfl), ↓core_ite, ite_self])

theorem sessionLookupAnswer_core {R : Nat} (hm : inMask 7712 R = true) (id : Nat) (avail : SMap Nat) (s : State) : (sessionLookupAnswer id avail s).core R = s.core R := by
  unfold sessionLookupAnswer
  repeat' (first | with_reducible rfl | split | simp only [↓State.handed_core (sb hm rfl), ↓State.evalCopy_core (sb hm rfl), ↓State.txDecided_core (sb hm rfl), ↓State.mirrorIngress_core (sb hm rfl), ↓State.settleTx_core (sb hm rfl), ↓State.sendCopies_core (sb hm rfl), ↓core_fw (sb hm rfl), ↓core_ite, ite_self])

theorem execSessionLookupAnswer_core (t : Nat) (id : Nat) (avail : SMap Nat) (s : State) (t' : State) (h : (execSessionLookupAnswer t id avail s) = .next t') : t'.core 4202016 = s.core 4202016 := by
  have hm : inMask 4202016 4202016 = true := rfl
  simp only [execSessionLookupAnswer, Host.Outcome.next.injEq] at h
  subst h
  simp only [↓sessionLookupAnswer_core (sb hm rfl), ↓State.begin_core (sb hm rfl)]

theorem State.countFiltered_core {R : Nat} (hm : inMask 1024 R = true) (s : State) (p : Pkt) : (State.countFiltered s p).core R = s.core R := by
  unfold State.countFiltered
  repeat' (first | with_reducible rfl | split | simp only [↓core_fwd (sb hm rfl)])

theorem State.bridge__core {R : Nat} (hm : inMask 7712 R = true) (s : State) (p : Pkt) : (State.bridge_ s p).core R = s.core R := by
  simp only [State.bridge_, ↓State.bridgeCopies_core (sb hm rfl), ↓State.countFiltered_core (sb hm rfl)]

theorem State.dropBroken_core {R : Nat} (hm : inMask 0 R = true) (s : State) (zone : Nat) : (State.dropBroken s zone).core R = s.core R := by
  simp only [State.dropBroken, ↓State.inc64_core (sb hm rfl)]

theorem State.withinBudget_core {R : Nat} (hm : inMask 1024 R = true) (s : State) (slot : Nat) (r : Bytes) : (State.withinBudget s slot r).2.core R = s.core R := by
  unfold State.withinBudget
  repeat' (first | with_reducible rfl | split | simp only [↓core_fwd (sb hm rfl)])

theorem State.streamFilter_core {R : Nat} (hm : inMask 1024 R = true) (s : State) (p : Pkt) (r : Bytes) : (State.streamFilter s p r).2.core R = s.core R := by
  unfold State.streamFilter
  repeat' (first | with_reducible rfl | split | simp only [↓State.streamCount_core (sb hm rfl), ↓State.meter_core (sb hm rfl), ↓State.withinBudget_core (sb hm rfl)])

theorem State.pipeline_core {R : Nat} (hm : inMask 7712 R = true) (s : State) (p : Pkt) : (State.pipeline s p).core R = s.core R := by
  unfold State.pipeline
  repeat' (first | with_reducible rfl | split | simp only [↓State.streamFilter_core (sb hm rfl), ↓State.passCount_core (sb hm rfl), ↓State.forwardContract_core (sb hm rfl), ↓State.mirrorIngress_core (sb hm rfl), ↓State.dropBroken_core (sb hm rfl), ↓State.bridge__core (sb hm rfl), ↓core_ite, ite_self])

theorem State.linkLocalIn_core {R : Nat} (hm : inMask 512 R = true) (s : State) (n : Nat) (b : Bytes) : (State.linkLocalIn s n b).core R = s.core R := by
  unfold State.linkLocalIn
  repeat' (first | with_reducible rfl | split | simp only [↓State.inc64_core (sb hm rfl), ↓pauseReceive_core (sb hm rfl), ↓State.emit_core (sb hm rfl)])

theorem State.linkLocalFaulty_core {R : Nat} (hm : inMask 0 R = true) (s : State) (n : Nat) (err : Nat) (b : Bytes) : (State.linkLocalFaulty s n err b).core R = s.core R := by
  simp only [State.linkLocalFaulty, ↓State.emit_core (sb hm rfl), ↓State.inc64_core (sb hm rfl), ↓core_ite, ite_self]

theorem State.ingress_core {R : Nat} (hm : inMask 532000 R = true) (s : State) (n : Nat) (f : RxFrame) (cls : List Nat) (icv : Bool) : (State.ingress s n f cls icv).core R = s.core R := by
  unfold State.ingress
  repeat' (first | with_reducible rfl | split | simp only [↓State.linkLocalFaulty_core (sb hm rfl), ↓State.linkLocalIn_core (sb hm rfl), ↓State.countDrained_core (sb hm rfl), ↓State.inc64_core (sb hm rfl), ↓State.pipeline_core (sb hm rfl), ↓State.learn_core (sb hm rfl), ↓State.emit_core (sb hm rfl), ↓State.traffic_core (sb hm rfl), ↓core_ite])

theorem State.received_core {R : Nat} (hm : inMask 532000 R = true) (s : State) (n : Nat) (f : RxFrame) (sec : SecVerdict) : (State.received s n f sec).core R = s.core R := by
  unfold State.received
  repeat' (first | with_reducible rfl | split | simp only [↓State.inc64_core (sb hm rfl), ↓State.emit_core (sb hm rfl), ↓State.updLane_core (sb hm rfl), ↓State.ingress_core (sb hm rfl), ↓core_ite, ite_self])

theorem laneFrameReceive_core {R : Nat} (hm : inMask 564768 R = true) (n : Nat) (f : RxFrame) (avail : SMap Nat) (s : State) : (laneFrameReceive n f avail s).core R = s.core R := by
  unfold laneFrameReceive
  repeat' (first | with_reducible rfl | split | simp only [↓State.countDrained_core (sb hm rfl), ↓State.updLane_core (sb hm rfl), ↓State.handed_core (sb hm rfl), ↓State.macsecIn_core (sb hm rfl), ↓State.received_core (sb hm rfl)])

theorem execLaneFrameReceive_core (t : Nat) (lane : Nat) (f : RxFrame) (avail : SMap Nat) (s : State) (t' : State) (h : (execLaneFrameReceive t lane f avail s) = .next t') : t'.core 4759072 = s.core 4759072 := by
  have hm : inMask 4759072 4759072 = true := rfl
  simp only [execLaneFrameReceive, Host.Outcome.next.injEq] at h
  subst h
  simp only [↓laneFrameReceive_core (sb hm rfl), ↓State.begin_core (sb hm rfl)]

theorem State.saddleContract_core {R : Nat} (hm : inMask 5632 R = true) (s : State) (d : Nat) (m : SaddleFrame) (r : Bytes) : (State.saddleContract s d m r).core R = s.core R := by
  unfold State.saddleContract
  repeat' (first | with_reducible rfl | split | simp only [↓State.egressHere_core (sb hm rfl), ↓State.crossOn_core (sb hm rfl)])

theorem State.saddleCopies_core {R : Nat} (hm : inMask 5632 R = true) (s : State) (d : Nat) (m : SaddleFrame) : (State.saddleCopies s d m).core R = s.core R := by
  unfold State.saddleCopies
  repeat' (first | with_reducible rfl | rw [core_foldl] | intro _ | split | simp only [↓State.enqueue_core (sb hm rfl), ↓State.ringCopy_core (sb hm rfl)])

theorem State.saddleIn_core {R : Nat} (hm : inMask 5632 R = true) (s : State) (d : Nat) (m : SaddleFrame) : (State.saddleIn s d m).core R = s.core R := by
  unfold State.saddleIn
  repeat' (first | with_reducible rfl | rw [core_foldl] | intro _ | split | simp only [↓State.toSaddle_core (sb hm rfl), ↓State.mirrorCopy_core (sb hm rfl), ↓State.saddleContract_core (sb hm rfl), ↓State.saddleCopies_core (sb hm rfl)])

theorem saddleFrameReceive_core {R : Nat} (hm : inMask 5632 R = true) (d : Nat) (m : SaddleFrame) (avail : SMap Nat) (s : State) : (saddleFrameReceive d m avail s).core R = s.core R := by
  simp only [saddleFrameReceive, ↓State.settleTx_core (sb hm rfl), ↓State.saddleIn_core (sb hm rfl), ↓State.txAway_core (sb hm rfl), ↓State.handed_core (sb hm rfl), ↓core_ite, ite_self]

theorem execSaddleFrameReceive_core (t : Nat) (die : Nat) (m : SaddleFrame) (avail : SMap Nat) (s : State) (t' : State) (h : (execSaddleFrameReceive t die m avail s) = .next t') : t'.core 4199936 = s.core 4199936 := by
  have hm : inMask 4199936 4199936 = true := rfl
  simp only [execSaddleFrameReceive, Host.Outcome.next.injEq] at h
  subst h
  simp only [↓saddleFrameReceive_core (sb hm rfl), ↓State.begin_core (sb hm rfl)]

theorem State.inject_core {R : Nat} (hm : inMask 7712 R = true) (s : State) (d : Nat) (slot : Nat) (body : Bytes) : (State.inject s d slot body).core R = s.core R := by
  unfold State.inject
  repeat' (first | with_reducible rfl | split | simp only [↓State.dropBroken_core (sb hm rfl), ↓State.pipeline_core (sb hm rfl)])

theorem State.advanceTx_core {R : Nat} (hm : inMask 0 R = true) (s : State) (d : Nat) (r : Nat) (k : Nat) : (State.advanceTx s d r k).core R = s.core R := by
  simp only [State.advanceTx, ↓State.setN_core (sb hm rfl)]

theorem State.takeTx_core {R : Nat} (hm : inMask 1024 R = true) (s : State) (d : Nat) (r : Nat) (c : TxChain) (status : Option Nat) (contract : Bool) : (State.takeTx s d r c status contract).core R = s.core R := by
  simp only [State.takeTx, ↓State.advanceTx_core (sb hm rfl), ↓core_fwd (sb hm rfl)]

theorem State.refuseTx_core {R : Nat} (hm : inMask 1024 R = true) (s : State) (d : Nat) (r : Nat) (c : TxChain) (status : Nat) : (State.refuseTx s d r c status).core R = s.core R := by
  simp only [State.refuseTx, ↓State.takeTx_core (sb hm rfl), ↓core_fwd (sb hm rfl)]

theorem State.startTx_core {R : Nat} (hm : inMask 7712 R = true) (s : State) (d : Nat) (r : Nat) (c : TxChain) (f : TxDesc) : (State.startTx s d r c f).core R = s.core R := by
  simp only [State.startTx, ↓State.takeTx_core (sb hm rfl), ↓State.emit_core (sb hm rfl), ↓State.pipeline_core (sb hm rfl), ↓core_ite, ite_self]

theorem State.fetchTx_core {R : Nat} (hm : inMask 7712 R = true) (s : State) (d : Nat) (r : Nat) (chain : TxChain) : (State.fetchTx s d r chain).core R = s.core R := by
  unfold State.fetchTx
  repeat' (first | with_reducible rfl | split | simp only [↓State.refuseTx_core (sb hm rfl), ↓State.startTx_core (sb hm rfl), ↓State.inc32_core (sb hm rfl), ↓core_fwd (sb hm rfl)])

theorem transmitFetch_core {R : Nat} (hm : inMask 7712 R = true) (d : Nat) (r : Nat) (chain : TxChain) (avail : SMap Nat) (s : State) : (transmitFetch d r chain avail s).core R = s.core R := by
  simp only [transmitFetch, ↓State.settleTx_core (sb hm rfl), ↓State.fetchTx_core (sb hm rfl), ↓State.handed_core (sb hm rfl), ↓core_ite, ite_self]

theorem execTransmitDescriptorFetch_core (t : Nat) (die : Nat) (ring : Nat) (chain : TxChain) (avail : SMap Nat) (s : State) (t' : State) (h : (execTransmitDescriptorFetch t die ring chain avail s) = .next t') : t'.core 4202016 = s.core 4202016 := by
  have hm : inMask 4202016 4202016 = true := rfl
  simp only [execTransmitDescriptorFetch, Host.Outcome.next.injEq] at h
  subst h
  simp only [↓transmitFetch_core (sb hm rfl), ↓State.begin_core (sb hm rfl)]

theorem flitReplay_core {R : Nat} (hm : inMask 4096 R = true) (d : Nat) (p : Nat) (again : Bool) (s : State) : (flitReplay d p again s).core R = s.core R := by
  simp only [flitReplay, ↓State.inc32_core (sb hm rfl), ↓core_bridge (sb hm rfl), ↓core_ite, ite_self]

theorem execFlitReplay_core (t : Nat) (die : Nat) (port : Nat) (again : Bool) (s : State) (t' : State) (h : (execFlitReplay t die port again s) = .next t') : t'.core 4198400 = s.core 4198400 := by
  have hm : inMask 4198400 4198400 = true := rfl
  simp only [execFlitReplay, Host.Outcome.next.injEq] at h
  subst h
  simp only [↓flitReplay_core (sb hm rfl), ↓State.begin_core (sb hm rfl)]

theorem State.countDiscard_core {R : Nat} (hm : inMask 0 R = true) (s : State) (c : LineCopy) : (State.countDiscard s c).core R = s.core R := by
  simp only [State.countDiscard, ↓State.inc32_core (sb hm rfl), ↓core_ite, ite_self]

theorem State.discardLines_core {R : Nat} (hm : inMask 4096 R = true) (s : State) (p : LineCopy → Bool) : (State.discardLines s p).core R = s.core R := by
  unfold State.discardLines
  repeat' (first | with_reducible rfl | rw [core_foldl] | intro _ | split | simp only [↓State.countDiscard_core (sb hm rfl), ↓core_bridge (sb hm rfl)])

theorem intWireChange_core {R : Nat} (hm : inMask 4096 R = true) (s : State) : (intWireChange s).core R = s.core R := by
  unfold intWireChange
  repeat' (first | with_reducible rfl | rw [core_foldl] | intro _ | split | simp only [↓State.emit_core (sb hm rfl), ↓State.discardLines_core (sb hm rfl), ↓core_bridge (sb hm rfl), ↓core_ite, ite_self])

theorem execIntWireChange_core (t : Nat) (s : State) (t' : State) (h : (execIntWireChange t s) = .next t') : t'.core 4198400 = s.core 4198400 := by
  have hm : inMask 4198400 4198400 = true := rfl
  simp only [execIntWireChange, Host.Outcome.next.injEq] at h
  subst h
  simp only [↓intWireChange_core (sb hm rfl), ↓State.begin_core (sb hm rfl)]

theorem clearSources_core {R : Nat} (hm : inMask 4096 R = true) (d : Nat) (mask : Nat) (again : Nat) (s : State) : (clearSources d mask again s).core R = s.core R := by
  simp only [clearSources, ↓core_bridge (sb hm rfl)]

theorem execIntSourceClear_core (t : Nat) (die : Nat) (mask : Nat) (again : Nat) (s : State) (t' : State) (h : (execIntSourceClear t die mask again s) = .next t') : t'.core 4198400 = s.core 4198400 := by
  have hm : inMask 4198400 4198400 = true := rfl
  simp only [execIntSourceClear, Host.Outcome.next.injEq] at h
  subst h
  simp only [↓State.begin_core (sb hm rfl), ↓clearSources_core (sb hm rfl), ↓core_ite, ite_self]

theorem State.setEdgeRam_core {R : Nat} (hm : inMask 4096 R = true) (s : State) (w : Nat) (m : SMap Byte) : (State.setEdgeRam s w m).core R = s.core R := by
  simp only [State.setEdgeRam, ↓core_bridge (sb hm rfl)]

theorem State.dropLine_core {R : Nat} (hm : inMask 4096 R = true) (s : State) (w : Nat) (a : Nat) : (State.dropLine s w a).core R = s.core R := by
  simp only [State.dropLine, ↓State.discardLines_core (sb hm rfl)]

theorem State.dropMailLine_core {R : Nat} (hm : inMask 4096 R = true) (s : State) (d : Nat) (a : Nat) : (State.dropMailLine s d a).core R = s.core R := by
  simp only [State.dropMailLine, ↓State.dropLine_core (sb hm rfl), ↓core_ite, ite_self]

theorem State.portAWrites_core {R : Nat} (hm : inMask 4096 R = true) (s : State) (d : Nat) (a : List (Nat × Nat)) : (State.portAWrites s d a).core R = s.core R := by
  unfold State.portAWrites
  repeat' (first | with_reducible rfl | rw [core_foldl] | intro _ | split | simp only [↓State.setMailbox_core (sb hm rfl), ↓State.dropMailLine_core (sb hm rfl)])

theorem State.mailboxWrite_core {R : Nat} (hm : inMask 4096 R = true) (s : State) (d : Nat) (off : Nat) (b : Bytes) (a : List (Nat × Nat)) : (State.mailboxWrite s d off b a).core R = s.core R := by
  simp only [State.mailboxWrite, ↓State.portAWrites_core (sb hm rfl), ↓State.inc32_core (sb hm rfl), ↓State.setMailbox_core (sb hm rfl), ↓State.dropMailLine_core (sb hm rfl), ↓core_ite, ite_self]

theorem State.serveTxn_core {R : Nat} (hm : inMask 4096 R = true) (s : State) (d : Nat) (x : Txn) (a : List (Nat × Nat)) : (State.serveTxn s d x a).2.2.core R = s.core R := by
  unfold State.serveTxn
  repeat' (first | with_reducible rfl | split | simp only [↓State.mailboxWrite_core (sb hm rfl), ↓State.portAWrites_core (sb hm rfl), ↓State.setEdgeRam_core (sb hm rfl), ↓State.dropLine_core (sb hm rfl)])

theorem State.sendRequest_core {R : Nat} (hm : inMask 0 R = true) (s : State) (d : Nat) (x : Txn) : (State.sendRequest s d x).core R = s.core R := by
  unfold State.sendRequest
  repeat' (first | with_reducible rfl | split | simp only [↓State.emit_core (sb hm rfl)])

theorem State.sendCompletion_core {R : Nat} (hm : inMask 0 R = true) (s : State) (x : Txn) (status : Nat) (value : Nat) : (State.sendCompletion s x status value).core R = s.core R := by
  simp only [State.sendCompletion, ↓State.emit_core (sb hm rfl)]

theorem State.issue_core {R : Nat} (hm : inMask 4096 R = true) (s : State) (x : Txn) : (State.issue s x).core R = s.core R := by
  simp only [State.issue, ↓State.sendRequest_core (sb hm rfl), ↓core_bridge (sb hm rfl), ↓core_ite, ite_self]

theorem State.issueNext_core {R : Nat} (hm : inMask 4096 R = true) (s : State) (m : Nat) : (State.issueNext s m).core R = s.core R := by
  unfold State.issueNext
  repeat' (first | with_reducible rfl | split | simp only [↓State.sendRequest_core (sb hm rfl), ↓core_bridge (sb hm rfl)])

theorem State.hostFault_core {R : Nat} (hm : inMask 4096 R = true) (s : State) (off : Nat) (status : Nat) (target : Nat) : (State.hostFault s off status target).core R = s.core R := by
  simp only [State.hostFault, ↓State.raiseInt_core (sb hm rfl), ↓core_bridge (sb hm rfl)]

theorem State.noteReadFault_core {R : Nat} (hm : inMask 4096 R = true) (s : State) (off : Nat) (status : Nat) : (State.noteReadFault s off status).core R = s.core R := by
  simp only [State.noteReadFault, ↓core_bridge (sb hm rfl)]

theorem State.hostEnd_core {R : Nat} (hm : inMask 4096 R = true) (s : State) (x : Txn) (status : Nat) : (State.hostEnd s x status).core R = s.core R := by
  simp only [State.hostEnd, ↓State.hostFault_core (sb hm rfl), ↓core_bridge (sb hm rfl), ↓core_ite, ite_self]

theorem State.regRead_core {R : Nat} (hm : inMask 4096 R = true) (s : State) (m off : Nat) : (s.regRead m off).2.core R = s.core R := by
  have two : ∀ (c : Prop) [Decidable c] (a b : Option Nat × State), a.2.core R = s.core R → b.2.core R = s.core R →
      (if c then a else b).2.core R = s.core R := by
    intro c _ a b ha hb
    rw [core_snd_ite, ha, hb, ite_self]
  unfold State.regRead
  dsimp only
  repeat' apply two
  all_goals first
    | with_reducible rfl
    | exact core_bridge (sb hm rfl) ..
    | (split <;> first | with_reducible rfl | exact core_bridge (sb hm rfl) ..)






theorem State.fetchLine_core {R : Nat} (hm : inMask 4096 R = true) (s : State) (m : Nat) (e : Nat) (w : Nat) (line : Nat) : (State.fetchLine s m e w line).2.core R = s.core R := by
  unfold State.fetchLine
  repeat' (first | with_reducible rfl | split | simp only [↓State.discardLines_core (sb hm rfl), ↓core_bridge (sb hm rfl)])

theorem State.hostRead_core {R : Nat} (hm : inMask 4096 R = true) (s : State) (m : Nat) (off : Nat) : (State.hostRead s m off).2.2.core R = s.core R := by
  unfold State.hostRead
  repeat' (first | with_reducible rfl | split | simp only [↓State.discardLines_core (sb hm rfl), ↓State.regRead_core (sb hm rfl), ↓State.fetchLine_core (sb hm rfl)])

theorem State.takeRequests_core {R : Nat} (hm : inMask 4096 R = true) (s : State) : (State.takeRequests s).core R = s.core R := by
  simp only [State.takeRequests, ↓State.setMailbox_core (sb hm rfl), ↓core_ite, ite_self]

theorem doorbellIn_core {R : Nat} (hm : inMask 4096 R = true) (v : Nat) (s : State) : (doorbellIn v s).core R = s.core R := by
  simp only [doorbellIn, ↓State.takeRequests_core (sb hm rfl), ↓core_bridge (sb hm rfl), ↓core_ite, ite_self]

theorem execDoorbellIn_core (t : Nat) (v : Nat) (s : State) (t' : State) (h : (execDoorbellIn t v s) = .next t') : t'.core 4198400 = s.core 4198400 := by
  have hm : inMask 4198400 4198400 = true := rfl
  simp only [execDoorbellIn, Host.Outcome.next.injEq] at h
  subst h
  simp only [↓State.begin_core (sb hm rfl), ↓doorbellIn_core (sb hm rfl), ↓core_ite, ite_self]

theorem doorbellOut_core {R : Nat} (hm : inMask 4096 R = true) (v : Nat) (s : State) : (doorbellOut v s).core R = s.core R := by
  simp only [doorbellOut, ↓core_bridge (sb hm rfl)]

theorem execDoorbellOut_core (t : Nat) (v : Nat) (s : State) (t' : State) (h : (execDoorbellOut t v s) = .next t') : t'.core 4198400 = s.core 4198400 := by
  have hm : inMask 4198400 4198400 = true := rfl
  simp only [execDoorbellOut, Host.Outcome.next.injEq] at h
  subst h
  simp only [↓State.begin_core (sb hm rfl), ↓doorbellOut_core (sb hm rfl), ↓core_ite, ite_self]

theorem eventFifo_core {R : Nat} (hm : inMask 4096 R = true) (s : State) : (eventFifo s).core R = s.core R := by
  unfold eventFifo
  repeat' (first | with_reducible rfl | split | simp only [↓State.discardLines_core (sb hm rfl), ↓State.regRead_core (sb hm rfl), ↓State.emit_core (sb hm rfl)])

theorem execEventFifo_core (t : Nat) (s : State) (t' : State) (h : (execEventFifo t s) = .next t') : t'.core 4198400 = s.core 4198400 := by
  have hm : inMask 4198400 4198400 = true := rfl
  simp only [execEventFifo, Host.Outcome.next.injEq] at h
  subst h
  simp only [↓eventFifo_core (sb hm rfl), ↓State.begin_core (sb hm rfl)]

theorem windowControl_core {R : Nat} (hm : inMask 4096 R = true) (w : Nat) (v : Nat) (s : State) : (windowControl w v s).core R = s.core R := by
  simp only [windowControl, ↓State.hostFault_core (sb hm rfl), ↓core_bridge (sb hm rfl), ↓core_ite, ite_self]

theorem execWindowControl_core (t : Nat) (window : Nat) (v : Nat) (s : State) (t' : State) (h : (execWindowControl t window v s) = .next t') : t'.core 4198400 = s.core 4198400 := by
  have hm : inMask 4198400 4198400 = true := rfl
  simp only [execWindowControl, Host.Outcome.next.injEq] at h
  subst h
  simp only [↓State.begin_core (sb hm rfl), ↓windowControl_core (sb hm rfl), ↓core_ite, ite_self]

theorem prefetchDiscard_core {R : Nat} (hm : inMask 4096 R = true) (m : Nat) (w : Nat) (line : Nat) (s : State) : (prefetchDiscard m w line s).core R = s.core R := by
  simp only [prefetchDiscard, ↓State.discardLines_core (sb hm rfl)]

theorem execPrefetchDiscard_core (t : Nat) (master : Nat) (window : Nat) (line : Nat) (s : State) (t' : State) (h : (execPrefetchDiscard t master window line s) = .next t') : t'.core 4198400 = s.core 4198400 := by
  have hm : inMask 4198400 4198400 = true := rfl
  simp only [execPrefetchDiscard, Host.Outcome.next.injEq] at h
  subst h
  simp only [↓prefetchDiscard_core (sb hm rfl), ↓State.begin_core (sb hm rfl)]

theorem State.regWrite_core {R : Nat} (hm : inMask 4096 R = true) (s : State) (off v mask : Nat) (t' : State) (h : s.regWrite off v mask = some t') :
    t'.core R = s.core R := by
  unfold State.regWrite at h
  dsimp only at h
  repeat' split at h
  all_goals first
    | cases h
    | skip
  all_goals first
    | with_reducible rfl
    | rw [doorbellIn_core (sb hm rfl)]
    | rw [doorbellOut_core (sb hm rfl)]
    | rw [windowControl_core (sb hm rfl)]
    | rw [clearSources_core (sb hm rfl)]






theorem State.hostWritePiece_core {R : Nat} (hm : inMask 4096 R = true) (s : State) (m off : Nat) (b : Bytes) (a : List (Nat × Nat)) :
    (s.hostWritePiece m off b a).core R = s.core R := by
  have fail : ∀ (s : State) (st d : Nat), (State.hostFault (if m = 2 then
      { s with bridge := { s.bridge with spiError := true } } else s) off st d).core R = s.core R := by
    intro s st d
    rw [State.hostFault_core (sb hm rfl)]
    split <;> first | with_reducible rfl | exact core_bridge (sb hm rfl) ..
  unfold State.hostWritePiece
  dsimp only
  split
  · rfl
  · split
    · exact fail _ _ _
    · split
      · split
        · rename_i h
          rw [State.regWrite_core (sb hm rfl) _ _ _ _ _ h, State.discardLines_core (sb hm rfl)]
        · rw [fail, State.discardLines_core (sb hm rfl)]
      · repeat' split
        all_goals first
          | rw [fail, State.discardLines_core (sb hm rfl)]
          | rw [State.mailboxWrite_core (sb hm rfl), State.discardLines_core (sb hm rfl)]
          | rw [State.setEdgeRam_core (sb hm rfl), State.discardLines_core (sb hm rfl)]
          | rw [State.issue_core (sb hm rfl), State.discardLines_core (sb hm rfl)]
          | rw [State.hostFault_core (sb hm rfl), State.discardLines_core (sb hm rfl)]
          | rw [State.hostFault_core (sb hm rfl), core_bridge (sb hm rfl), State.discardLines_core (sb hm rfl)]






theorem hostWrite_core {R : Nat} (hm : inMask 4096 R = true) (off : Nat) (b : Bytes) (a : List (Nat × Nat)) (s : State) : (hostWrite off b a s).core R = s.core R := by
  unfold hostWrite
  repeat' (first | with_reducible rfl | rw [core_foldl] | intro _ | split | simp only [↓State.hostFault_core (sb hm rfl), ↓State.hostWritePiece_core (sb hm rfl)])

theorem execHostWindowWrite_core (t : Nat) (off : Nat) (data : Bytes) (portA : List (Nat × Nat)) (s : State) (t' : State) (h : (execHostWindowWrite t off data portA s) = .next t') : t'.core 4198400 = s.core 4198400 := by
  have hm : inMask 4198400 4198400 = true := rfl
  simp only [execHostWindowWrite, Host.Outcome.next.injEq] at h
  subst h
  simp only [↓hostWrite_core (sb hm rfl), ↓State.begin_core (sb hm rfl)]

theorem spiWrite_core {R : Nat} (hm : inMask 4096 R = true) (addr : Nat) (b : Bytes) (s : State) : (spiWrite addr b s).core R = s.core R := by
  unfold spiWrite
  repeat' (first | with_reducible rfl | rw [core_foldl] | intro _ | split | simp only [↓State.hostFault_core (sb hm rfl), ↓State.hostWritePiece_core (sb hm rfl), ↓core_bridge (sb hm rfl)])

theorem execSpiWrite_core (t : Nat) (addr : Nat) (data : Bytes) (s : State) (t' : State) (h : (execSpiWrite t addr data s) = .next t') : t'.core 4198400 = s.core 4198400 := by
  have hm : inMask 4198400 4198400 = true := rfl
  simp only [execSpiWrite, Host.Outcome.next.injEq] at h
  subst h
  simp only [↓spiWrite_core (sb hm rfl), ↓State.begin_core (sb hm rfl)]

theorem State.spiFail_core {R : Nat} (hm : inMask 4096 R = true) (s : State) (start : Nat) (off : Nat) (status : Nat) (got : Bytes) : (State.spiFail s start off status got).core R = s.core R := by
  simp only [State.spiFail, ↓State.emit_core (sb hm rfl), ↓State.noteReadFault_core (sb hm rfl)]

theorem State.spiGo_core {R : Nat} (hm : inMask 4096 R = true) (start n addr : Nat) (got : Bytes) (s : State) :
    (State.spiGo start n addr got s).core R = s.core R := by
  induction n generalizing addr got s with
  | zero => exact State.emit_core (sb hm rfl) ..
  | succ n ih =>
    rw [State.spiGo]
    split
    · rw [State.issue_core (sb hm rfl), core_bridge (sb hm rfl)]
    · dsimp only
      split
      · rw [ih, State.hostRead_core (sb hm rfl)]
      · rw [State.spiFail_core (sb hm rfl), State.hostRead_core (sb hm rfl)]


theorem spiRead_core {R : Nat} (hm : inMask 4096 R = true) (addr : Nat) (words : Nat) (s : State) : (spiRead addr words s).core R = s.core R := by
  simp only [spiRead, ↓State.spiGo_core (sb hm rfl), ↓core_bridge (sb hm rfl), ↓core_ite, ite_self]

theorem execSpiRead_core (t : Nat) (addr : Nat) (words : Nat) (s : State) (t' : State) (h : (execSpiRead t addr words s) = .next t') : t'.core 4198400 = s.core 4198400 := by
  have hm : inMask 4198400 4198400 = true := rfl
  simp only [execSpiRead, Host.Outcome.next.injEq] at h
  subst h
  simp only [↓spiRead_core (sb hm rfl), ↓State.begin_core (sb hm rfl)]

theorem spiStatus_core {R : Nat} (hm : inMask 0 R = true) (s : State) : (spiStatus s).core R = s.core R := by
  simp only [spiStatus, ↓State.emit_core (sb hm rfl), ↓core_ite, ite_self]

theorem execSpiStatus_core (t : Nat) (s : State) (t' : State) (h : (execSpiStatus t s) = .next t') : t'.core 4194304 = s.core 4194304 := by
  have hm : inMask 4194304 4194304 = true := rfl
  simp only [execSpiStatus, Host.Outcome.next.injEq] at h
  subst h
  simp only [↓spiStatus_core (sb hm rfl), ↓State.begin_core (sb hm rfl)]

theorem State.retrySpi_core {R : Nat} (hm : inMask 4096 R = true) (s : State) : (State.retrySpi s).core R = s.core R := by
  unfold State.retrySpi
  repeat' (first | with_reducible rfl | split | simp only [↓State.spiGo_core (sb hm rfl), ↓core_bridge (sb hm rfl)])

theorem State.spiWord_core {R : Nat} (hm : inMask 4096 R = true) (s : State) (x : Txn) (status : Nat) (value : Nat) : (State.spiWord s x status value).core R = s.core R := by
  unfold State.spiWord
  repeat' (first | with_reducible rfl | split | simp only [↓State.spiFail_core (sb hm rfl), ↓State.spiGo_core (sb hm rfl), ↓State.fetchLine_core (sb hm rfl), ↓core_bridge (sb hm rfl)])

theorem State.endTxn_core {R : Nat} (hm : inMask 4096 R = true) (s : State) (x : Txn) (status : Nat) (value : Nat) : (State.endTxn s x status value).core R = s.core R := by
  simp only [State.endTxn, ↓State.spiWord_core (sb hm rfl), ↓State.hostEnd_core (sb hm rfl), ↓State.emit_core (sb hm rfl), ↓core_ite, ite_self]

theorem State.serveHere_core {R : Nat} (hm : inMask 4096 R = true) (s : State) (d : Nat) (x : Txn) (a : List (Nat × Nat)) : (State.serveHere s d x a).core R = s.core R := by
  simp only [State.serveHere, ↓State.serveTxn_core (sb hm rfl), ↓State.sendCompletion_core (sb hm rfl)]

theorem State.forwardTxn_core {R : Nat} (hm : inMask 4096 R = true) (s : State) (d : Nat) (p : Nat) (x : Txn) : (State.forwardTxn s d p x).core R = s.core R := by
  simp only [State.forwardTxn, ↓State.sendRequest_core (sb hm rfl), ↓core_bridge (sb hm rfl), ↓core_ite, ite_self]

theorem State.trackTxn_core {R : Nat} (hm : inMask 4096 R = true) (s : State) (d : Nat) (p : Nat) (x : Txn) : (State.trackTxn s d p x).core R = s.core R := by
  simp only [State.trackTxn, ↓core_bridge (sb hm rfl), ↓core_ite, ite_self]

theorem saddleRequest_core {R : Nat} (hm : inMask 4096 R = true) (d : Nat) (p : Nat) (x : Txn) (a : List (Nat × Nat)) (s : State) : (saddleRequest d p x a s).core R = s.core R := by
  simp only [saddleRequest, ↓State.trackTxn_core (sb hm rfl), ↓State.sendCompletion_core (sb hm rfl), ↓State.serveHere_core (sb hm rfl), ↓State.forwardTxn_core (sb hm rfl), ↓core_ite, ite_self]

theorem execSaddleRequestReceive_core (t : Nat) (die : Nat) (port : Nat) (x : Txn) (portA : List (Nat × Nat)) (s : State) (t' : State) (h : (execSaddleRequestReceive t die port x portA s) = .next t') : t'.core 4198400 = s.core 4198400 := by
  have hm : inMask 4198400 4198400 = true := rfl
  simp only [execSaddleRequestReceive, Host.Outcome.next.injEq] at h
  subst h
  simp only [↓saddleRequest_core (sb hm rfl), ↓State.begin_core (sb hm rfl)]

theorem State.freeCredits_core {R : Nat} (hm : inMask 4096 R = true) (s : State) (d : Nat) (id : Nat) : (State.freeCredits s d id).core R = s.core R := by
  unfold State.freeCredits
  repeat' (first | with_reducible rfl | rw [core_foldl] | intro _ | split | simp only [↓State.forwardTxn_core (sb hm rfl), ↓core_bridge (sb hm rfl), ↓core_ite])

theorem State.endLostTxns_core {R : Nat} (hm : inMask 4096 R = true) (s : State) : (State.endLostTxns s).core R = s.core R := by
  unfold State.endLostTxns
  repeat' (first | with_reducible rfl | rw [core_foldl] | intro _ | split | simp only [↓State.endTxn_core (sb hm rfl), ↓State.freeCredits_core (sb hm rfl), ↓State.retrySpi_core (sb hm rfl), ↓State.issueNext_core (sb hm rfl), ↓core_bridge (sb hm rfl)])

theorem saddleCompletion_core {R : Nat} (hm : inMask 4096 R = true) (d : Nat) (id : Nat) (status : Nat) (value : Nat) (s : State) : (saddleCompletion d id status value s).core R = s.core R := by
  unfold saddleCompletion
  repeat' (first | with_reducible rfl | split | simp only [↓State.freeCredits_core (sb hm rfl), ↓State.inc32_core (sb hm rfl), ↓State.retrySpi_core (sb hm rfl), ↓State.issueNext_core (sb hm rfl), ↓State.endTxn_core (sb hm rfl), ↓core_bridge (sb hm rfl)])

theorem execSaddleCompletionReceive_core (t : Nat) (die : Nat) (id : Nat) (status : Nat) (value : Nat) (s : State) (t' : State) (h : (execSaddleCompletionReceive t die id status value s) = .next t') : t'.core 4198400 = s.core 4198400 := by
  have hm : inMask 4198400 4198400 = true := rfl
  simp only [execSaddleCompletionReceive, Host.Outcome.next.injEq] at h
  subst h
  simp only [↓saddleCompletion_core (sb hm rfl), ↓State.begin_core (sb hm rfl)]

theorem bridgeFault_core {R : Nat} (hm : inMask 4128 R = true) (id : Nat) (s : State) : (bridgeFault id s).core R = s.core R := by
  unfold bridgeFault
  repeat' (first | with_reducible rfl | split | simp only [↓State.inc32_core (sb hm rfl), ↓State.logEv_core (sb hm rfl), ↓State.raiseInt_core (sb hm rfl), ↓State.retrySpi_core (sb hm rfl), ↓State.issueNext_core (sb hm rfl), ↓State.endTxn_core (sb hm rfl), ↓core_bridge (sb hm rfl)])

theorem execBridgeFault_core (t : Nat) (id : Nat) (s : State) (t' : State) (h : (execBridgeFault t id s) = .next t') : t'.core 4198432 = s.core 4198432 := by
  have hm : inMask 4198432 4198432 = true := rfl
  simp only [execBridgeFault, Host.Outcome.next.injEq] at h
  subst h
  simp only [↓bridgeFault_core (sb hm rfl), ↓State.begin_core (sb hm rfl)]

theorem endpointTakeover_core {R : Nat} (hm : inMask 4112 R = true) (s : State) : (endpointTakeover s).core R = s.core R := by
  simp only [endpointTakeover, ↓State.setN_core (sb hm rfl), ↓State.setMailbox_core (sb hm rfl), ↓core_bridge (sb hm rfl), ↓core_access (sb hm rfl), ↓core_ite, ite_self]

theorem execEndpointTakeover_core (t : Nat) (s : State) (t' : State) (h : (execEndpointTakeover t s) = .next t') : t'.core 4198416 = s.core 4198416 := by
  have hm : inMask 4198416 4198416 = true := rfl
  simp only [execEndpointTakeover, Host.Outcome.next.injEq] at h
  subst h
  simp only [↓endpointTakeover_core (sb hm rfl), ↓State.begin_core (sb hm rfl)]

theorem clearBridgeCounters_core {R : Nat} (hm : inMask 0 R = true) (a1 : Session) (s : State) : (clearBridgeCounters a1 s).2.core R = s.core R := by
  simp only [clearBridgeCounters, ↓State.clearAll_core (sb hm rfl)]

theorem execClearBridgeCounters_core (t : Nat) (who : Who) (s : State) (t' : State) (h : (execClearBridgeCounters t who s) = .next t') : t'.core 4722704 = s.core 4722704 := by
  have hm : inMask 4722704 4722704 = true := rfl
  simp only [execClearBridgeCounters, cmdRow, Host.Outcome.next.injEq] at h
  subst h
  repeat' (first | with_reducible rfl | rw [core_foldl] | rw [serve_core (sb hm rfl)] | rw [writeCmd_core (sb hm rfl)] | intro _ | split | simp only [↓clearBridgeCounters_core (sb hm rfl), ↓State.begin_core (sb hm rfl)])

theorem State.onPort_core {R : Nat} (hm : inMask 65536 R = true) (s : State) (n : Nat) (m : Bytes) (types : List Nat) (f : Nat → State) (hf : ∀ y0, (f y0).core R = s.core R) : (State.onPort s n m types f).core R = s.core R := by
  unfold State.onPort
  repeat' (first | with_reducible rfl | split | simp only [↓hf, ↓State.updInst_core (sb hm rfl)])

theorem State.sendPtp_core {R : Nat} (hm : inMask 1536 R = true) (s : State) (i : Nat) (n : Nat) (m : Bytes) (ts : Nat) : (State.sendPtp s i n m ts).core R = s.core R := by
  simp only [State.sendPtp, ↓State.enqueue_core (sb hm rfl), ↓core_ite, ite_self]

theorem announceReceive_core {R : Nat} (hm : inMask 65696 R = true) (n : Nat) (m : Bytes) (s : State) : (announceReceive n m s).core R = s.core R := by
  unfold announceReceive
  repeat' (first | with_reducible rfl | rw [core_foldl] | rw [State.onPort_core (sb hm rfl)] | intro _ | split | simp only [↓State.choose_core (sb hm rfl), ↓State.updInst_core (sb hm rfl)])

theorem execPtpAnnounceReceive_core (t : Nat) (lane : Nat) (msg : Bytes) (s : State) (t' : State) (h : (execPtpAnnounceReceive t lane msg s) = .next t') : t'.core 4260000 = s.core 4260000 := by
  have hm : inMask 4260000 4260000 = true := rfl
  simp only [execPtpAnnounceReceive, Host.Outcome.next.injEq] at h
  subst h
  simp only [↓announceReceive_core (sb hm rfl), ↓State.begin_core (sb hm rfl)]

theorem State.servo_core {R : Nat} (hm : inMask 65697 R = true) (s : State) (i : Nat) (off : Int) : (State.servo s i off).core R = s.core R := by
  simp only [State.servo, ↓State.setO_core (sb hm rfl), ↓State.updInst_core (sb hm rfl), ↓State.stepClock_core (sb hm rfl), ↓State.drawn_core (sb hm rfl), ↓State.setRate_core (sb hm rfl), ↓State.setPhaseError_core (sb hm rfl), ↓State.lockInst_core (sb hm rfl), ↓core_ite, ite_self]

theorem State.relaySync_core {R : Nat} (hm : inMask 67072 R = true) (s : State) (i : Nat) (n : Nat) (origin : Bytes) (corr : Int) (log : Int) (at_ : Nat) : (State.relaySync s i n origin corr log at_).core R = s.core R := by
  unfold State.relaySync
  repeat' (first | with_reducible rfl | rw [core_foldl] | intro _ | split | simp only [↓State.nextSeq_core (sb hm rfl), ↓State.enqueue_core (sb hm rfl)])

theorem State.syncDone_core {R : Nat} (hm : inMask 67233 R = true) (s : State) (i : Nat) (n : Nat) (origin : Bytes) (corr : Int) (log : Int) (at_ : Nat) : (State.syncDone s i n origin corr log at_).core R = s.core R := by
  simp only [State.syncDone, ↓State.updInst_core (sb hm rfl), ↓State.servo_core (sb hm rfl), ↓State.relaySync_core (sb hm rfl)]

theorem syncReceive_core {R : Nat} (hm : inMask 67233 R = true) (n : Nat) (m : Bytes) (s : State) : (syncReceive n m s).core R = s.core R := by
  unfold syncReceive
  repeat' (first | with_reducible rfl | rw [core_foldl] | rw [State.onPort_core (sb hm rfl)] | intro _ | split | simp only [↓State.updInst_core (sb hm rfl), ↓State.syncDone_core (sb hm rfl)])

theorem execPtpSyncReceive_core (t : Nat) (lane : Nat) (msg : Bytes) (s : State) (t' : State) (h : (execPtpSyncReceive t lane msg s) = .next t') : t'.core 4261537 = s.core 4261537 := by
  have hm : inMask 4261537 4261537 = true := rfl
  simp only [execPtpSyncReceive, Host.Outcome.next.injEq] at h
  subst h
  simp only [↓syncReceive_core (sb hm rfl), ↓State.begin_core (sb hm rfl)]

theorem State.setLinkDelay_core {R : Nat} (hm : inMask 0 R = true) (s : State) (n : Nat) (d : Int) : (State.setLinkDelay s n d).core R = s.core R := by
  unfold State.setLinkDelay
  repeat' (first | with_reducible rfl | rw [core_foldl] | intro _ | split | simp only [↓State.setN_core (sb hm rfl), ↓State.setPorts_core (sb hm rfl)])

theorem State.peerDone_core {R : Nat} (hm : inMask 65536 R = true) (s : State) (i : Nat) (n : Nat) (t2 : Nat) (t3 : Nat) (t4 : Nat) (corr : Int) : (State.peerDone s i n t2 t3 t4 corr).core R = s.core R := by
  simp only [State.peerDone, ↓State.setO_core (sb hm rfl), ↓State.updInst_core (sb hm rfl), ↓State.setLinkDelay_core (sb hm rfl), ↓core_ite, ite_self]

theorem followUpReceive_core {R : Nat} (hm : inMask 67233 R = true) (n : Nat) (m : Bytes) (s : State) : (followUpReceive n m s).core R = s.core R := by
  unfold followUpReceive
  repeat' (first | with_reducible rfl | rw [core_foldl] | rw [State.onPort_core (sb hm rfl)] | intro _ | split | simp only [↓State.peerDone_core (sb hm rfl), ↓State.syncDone_core (sb hm rfl), ↓State.updInst_core (sb hm rfl), ↓core_ite, ite_self])

theorem execPtpFollowUpReceive_core (t : Nat) (lane : Nat) (msg : Bytes) (s : State) (t' : State) (h : (execPtpFollowUpReceive t lane msg s) = .next t') : t'.core 4261537 = s.core 4261537 := by
  have hm : inMask 4261537 4261537 = true := rfl
  simp only [execPtpFollowUpReceive, Host.Outcome.next.injEq] at h
  subst h
  simp only [↓followUpReceive_core (sb hm rfl), ↓State.begin_core (sb hm rfl)]

theorem delayReqReceive_core {R : Nat} (hm : inMask 67072 R = true) (n : Nat) (m : Bytes) (s : State) : (delayReqReceive n m s).core R = s.core R := by
  unfold delayReqReceive
  repeat' (first | with_reducible rfl | rw [core_foldl] | rw [State.onPort_core (sb hm rfl)] | intro _ | split | simp only [↓State.sendPtp_core (sb hm rfl)])

theorem execPtpDelayReqReceive_core (t : Nat) (lane : Nat) (msg : Bytes) (s : State) (t' : State) (h : (execPtpDelayReqReceive t lane msg s) = .next t') : t'.core 4261376 = s.core 4261376 := by
  have hm : inMask 4261376 4261376 = true := rfl
  simp only [execPtpDelayReqReceive, Host.Outcome.next.injEq] at h
  subst h
  simp only [↓delayReqReceive_core (sb hm rfl), ↓State.begin_core (sb hm rfl)]

theorem delayRespReceive_core {R : Nat} (hm : inMask 65536 R = true) (n : Nat) (m : Bytes) (s : State) : (delayRespReceive n m s).core R = s.core R := by
  unfold delayRespReceive
  repeat' (first | with_reducible rfl | rw [core_foldl] | rw [State.onPort_core (sb hm rfl)] | intro _ | split | simp only [↓State.updInst_core (sb hm rfl), ↓core_ite, ite_self])

theorem execPtpDelayRespReceive_core (t : Nat) (lane : Nat) (msg : Bytes) (s : State) (t' : State) (h : (execPtpDelayRespReceive t lane msg s) = .next t') : t'.core 4259840 = s.core 4259840 := by
  have hm : inMask 4259840 4259840 = true := rfl
  simp only [execPtpDelayRespReceive, Host.Outcome.next.injEq] at h
  subst h
  simp only [↓delayRespReceive_core (sb hm rfl), ↓State.begin_core (sb hm rfl)]

theorem pdelayReqReceive_core {R : Nat} (hm : inMask 1536 R = true) (n : Nat) (m : Bytes) (s : State) : (pdelayReqReceive n m s).core R = s.core R := by
  unfold pdelayReqReceive
  repeat' (first | with_reducible rfl | split | simp only [↓State.sendPtp_core (sb hm rfl)])

theorem execPtpPdelayReqReceive_core (t : Nat) (lane : Nat) (msg : Bytes) (s : State) (t' : State) (h : (execPtpPdelayReqReceive t lane msg s) = .next t') : t'.core 4195840 = s.core 4195840 := by
  have hm : inMask 4195840 4195840 = true := rfl
  simp only [execPtpPdelayReqReceive, Host.Outcome.next.injEq] at h
  subst h
  simp only [↓pdelayReqReceive_core (sb hm rfl), ↓State.begin_core (sb hm rfl)]

theorem pdelayRespReceive_core {R : Nat} (hm : inMask 65536 R = true) (n : Nat) (m : Bytes) (s : State) : (pdelayRespReceive n m s).core R = s.core R := by
  unfold pdelayRespReceive
  repeat' (first | with_reducible rfl | split | simp only [↓State.updInst_core (sb hm rfl), ↓State.peerDone_core (sb hm rfl), ↓core_ite, ite_self])

theorem execPtpPdelayRespReceive_core (t : Nat) (lane : Nat) (msg : Bytes) (s : State) (t' : State) (h : (execPtpPdelayRespReceive t lane msg s) = .next t') : t'.core 4259840 = s.core 4259840 := by
  have hm : inMask 4259840 4259840 = true := rfl
  simp only [execPtpPdelayRespReceive, Host.Outcome.next.injEq] at h
  subst h
  simp only [↓pdelayRespReceive_core (sb hm rfl), ↓State.begin_core (sb hm rfl)]

theorem signalingReceive_core {R : Nat} (hm : inMask 65536 R = true) (n : Nat) (m : Bytes) (s : State) : (signalingReceive n m s).core R = s.core R := by
  unfold signalingReceive
  repeat' (first | with_reducible rfl | rw [core_foldl] | rw [State.onPort_core (sb hm rfl)] | intro _ | split | simp only [↓State.updInst_core (sb hm rfl)])

theorem execPtpSignalingReceive_core (t : Nat) (lane : Nat) (msg : Bytes) (s : State) (t' : State) (h : (execPtpSignalingReceive t lane msg s) = .next t') : t'.core 4259840 = s.core 4259840 := by
  have hm : inMask 4259840 4259840 = true := rfl
  simp only [execPtpSignalingReceive, Host.Outcome.next.injEq] at h
  subst h
  simp only [↓signalingReceive_core (sb hm rfl), ↓State.begin_core (sb hm rfl)]

theorem syncTimer_core {R : Nat} (hm : inMask 67072 R = true) (i : Nat) (n : Nat) (s : State) : (syncTimer i n s).core R = s.core R := by
  simp only [syncTimer, ↓State.nextSeq_core (sb hm rfl), ↓State.sendPtp_core (sb hm rfl), ↓core_ite, ite_self]

theorem execPtpSyncTimer_core (t : Nat) (inst : Nat) (lane : Nat) (s : State) (t' : State) (h : (execPtpSyncTimer t inst lane s) = .next t') : t'.core 4261376 = s.core 4261376 := by
  have hm : inMask 4261376 4261376 = true := rfl
  simp only [execPtpSyncTimer, Host.Outcome.next.injEq] at h
  subst h
  simp only [↓syncTimer_core (sb hm rfl), ↓State.begin_core (sb hm rfl)]

theorem announceTimer_core {R : Nat} (hm : inMask 67072 R = true) (i : Nat) (n : Nat) (s : State) : (announceTimer i n s).core R = s.core R := by
  simp only [announceTimer, ↓State.nextSeq_core (sb hm rfl), ↓State.sendPtp_core (sb hm rfl), ↓core_ite, ite_self]

theorem execPtpAnnounceTimer_core (t : Nat) (inst : Nat) (lane : Nat) (s : State) (t' : State) (h : (execPtpAnnounceTimer t inst lane s) = .next t') : t'.core 4261376 = s.core 4261376 := by
  have hm : inMask 4261376 4261376 = true := rfl
  simp only [execPtpAnnounceTimer, Host.Outcome.next.injEq] at h
  subst h
  simp only [↓announceTimer_core (sb hm rfl), ↓State.begin_core (sb hm rfl)]

theorem delayTimer_core {R : Nat} (hm : inMask 67072 R = true) (i : Nat) (n : Nat) (s : State) : (delayTimer i n s).core R = s.core R := by
  simp only [delayTimer, ↓State.nextSeq_core (sb hm rfl), ↓State.updInst_core (sb hm rfl), ↓State.sendPtp_core (sb hm rfl), ↓core_ite, ite_self]

theorem execPtpDelayTimer_core (t : Nat) (inst : Nat) (lane : Nat) (s : State) (t' : State) (h : (execPtpDelayTimer t inst lane s) = .next t') : t'.core 4261376 = s.core 4261376 := by
  have hm : inMask 4261376 4261376 = true := rfl
  simp only [execPtpDelayTimer, Host.Outcome.next.injEq] at h
  subst h
  simp only [↓delayTimer_core (sb hm rfl), ↓State.begin_core (sb hm rfl)]

theorem receiptTimeout_core {R : Nat} (hm : inMask 65696 R = true) (i : Nat) (n : Nat) (s : State) : (receiptTimeout i n s).core R = s.core R := by
  simp only [receiptTimeout, ↓State.choose_core (sb hm rfl), ↓State.updInst_core (sb hm rfl), ↓core_ite, ite_self]

theorem execReceiptTimeout_core (t : Nat) (inst : Nat) (lane : Nat) (s : State) (t' : State) (h : (execReceiptTimeout t inst lane s) = .next t') : t'.core 4260000 = s.core 4260000 := by
  have hm : inMask 4260000 4260000 = true := rfl
  simp only [execReceiptTimeout, Host.Outcome.next.injEq] at h
  subst h
  simp only [↓receiptTimeout_core (sb hm rfl), ↓State.begin_core (sb hm rfl)]

theorem timeTransfer_core {R : Nat} (hm : inMask 65568 R = true) (d : Nat) (err : Int) (s : State) : (timeTransfer d err s).core R = s.core R := by
  simp only [timeTransfer, ↓State.logEv_core (sb hm rfl), ↓State.inc32_core (sb hm rfl), ↓core_time (sb hm rfl), ↓core_ite, ite_self]

theorem execTimeTransferWord_core (t : Nat) (die : Nat) (err : Int) (s : State) (t' : State) (h : (execTimeTransferWord t die err s) = .next t') : t'.core 4259872 = s.core 4259872 := by
  have hm : inMask 4259872 4259872 = true := rfl
  simp only [execTimeTransferWord, Host.Outcome.next.injEq] at h
  subst h
  simp only [↓timeTransfer_core (sb hm rfl), ↓State.begin_core (sb hm rfl)]

theorem setGrandmasterTime_core {R : Nat} (hm : inMask 65696 R = true) (i : Nat) (v : Nat) (x : Session) (s : State) : (setGrandmasterTime i v x s).2.core R = s.core R := by
  unfold setGrandmasterTime
  repeat' (first | with_reducible rfl | split | simp only [↓State.setInst_core (sb hm rfl), ↓State.stepClock_core (sb hm rfl), ↓requestRealign_core (sb hm rfl)])

theorem execGrandmasterTimeSet_core (t : Nat) (who : Who) (inst : Nat) (v : Nat) (s : State) (t' : State) (h : (execGrandmasterTimeSet t who inst v s) = .next t') : t'.core 4788400 = s.core 4788400 := by
  have hm : inMask 4788400 4788400 = true := rfl
  simp only [execGrandmasterTimeSet, cmdRow, Host.Outcome.next.injEq] at h
  subst h
  repeat' (first | with_reducible rfl | rw [core_foldl] | rw [serve_core (sb hm rfl)] | rw [writeCmd_core (sb hm rfl)] | intro _ | split | simp only [↓setGrandmasterTime_core (sb hm rfl), ↓State.begin_core (sb hm rfl)])

theorem writePulse_core {R : Nat} (hm : inMask 65536 R = true) (q : Nat) (p : Bytes) (a1 : Session) (s : State) : (writePulse q p a1 s).2.core R = s.core R := by
  simp only [writePulse, ↓State.setBlob_core (sb hm rfl), ↓State.installPulse_core (sb hm rfl), ↓State.setPulse_core (sb hm rfl), ↓core_ite, ite_self]

theorem execPulseProgramWrite_core (t : Nat) (who : Who) (die : Nat) (output : Nat) (rec : Bytes) (s : State) (t' : State) (h : (execPulseProgramWrite t who die output rec s) = .next t') : t'.core 4788240 = s.core 4788240 := by
  have hm : inMask 4788240 4788240 = true := rfl
  simp only [execPulseProgramWrite, domRow, Host.Outcome.next.injEq] at h
  subst h
  repeat' (first | with_reducible rfl | rw [core_foldl] | rw [serve_core (sb hm rfl)] | rw [writeDom_core (sb hm rfl)] | intro _ | split | simp only [↓writePulse_core (sb hm rfl), ↓State.begin_core (sb hm rfl)])

theorem State.drivePulse_core {R : Nat} (hm : inMask 0 R = true) (s : State) (q : Nat) (p : Bytes) (active : Bool) : (State.drivePulse s q p active).core R = s.core R := by
  simp only [State.drivePulse, ↓State.emit_core (sb hm rfl)]

theorem pulseEdge_core {R : Nat} (hm : inMask 65536 R = true) (q : Nat) (s : State) : (pulseEdge q s).core R = s.core R := by
  unfold pulseEdge
  repeat' (first | with_reducible rfl | split | simp only [↓State.drivePulse_core (sb hm rfl), ↓State.installPulse_core (sb hm rfl), ↓State.setPulse_core (sb hm rfl)])

theorem execPulseEdge_core (t : Nat) (die : Nat) (output : Nat) (s : State) (t' : State) (h : (execPulseEdge t die output s) = .next t') : t'.core 4259840 = s.core 4259840 := by
  have hm : inMask 4259840 4259840 = true := rfl
  simp only [execPulseEdge, Host.Outcome.next.injEq] at h
  subst h
  simp only [↓pulseEdge_core (sb hm rfl), ↓State.begin_core (sb hm rfl)]

theorem State.recordEdge_core {R : Nat} (hm : inMask 65536 R = true) (s : State) (q : Nat) (falling : Bool) : (State.recordEdge s q falling).core R = s.core R := by
  simp only [State.recordEdge, ↓State.setCapture_core (sb hm rfl), ↓State.inc32_core (sb hm rfl), ↓core_ite, ite_self]

theorem State.referenceEdge_core {R : Nat} (hm : inMask 65537 R = true) (s : State) (q : Nat) (i : Nat) : (State.referenceEdge s q i).core R = s.core R := by
  simp only [State.referenceEdge, ↓State.setO_core (sb hm rfl), ↓State.drawn_core (sb hm rfl), ↓State.setRate_core (sb hm rfl), ↓State.updInst_core (sb hm rfl), ↓State.setInst_core (sb hm rfl), ↓core_ite, ite_self]

theorem captureEdge_core {R : Nat} (hm : inMask 65537 R = true) (q : Nat) (falling : Bool) (s : State) : (captureEdge q falling s).core R = s.core R := by
  unfold captureEdge
  repeat' (first | with_reducible rfl | rw [core_foldl] | intro _ | split | simp only [↓State.recordEdge_core (sb hm rfl), ↓State.referenceEdge_core (sb hm rfl)])

theorem execCaptureEdge_core (t : Nat) (die : Nat) (input : Nat) (falling : Bool) (s : State) (t' : State) (h : (execCaptureEdge t die input falling s) = .next t') : t'.core 4259841 = s.core 4259841 := by
  have hm : inMask 4259841 4259841 = true := rfl
  simp only [execCaptureEdge, Host.Outcome.next.injEq] at h
  subst h
  simp only [↓captureEdge_core (sb hm rfl), ↓State.begin_core (sb hm rfl)]

theorem refLost_core {R : Nat} (hm : inMask 65536 R = true) (i : Nat) (s : State) : (refLost i s).core R = s.core R := by
  simp only [refLost, ↓State.updInst_core (sb hm rfl), ↓State.setInst_core (sb hm rfl), ↓core_ite, ite_self]

theorem execRefLost_core (t : Nat) (inst : Nat) (s : State) (t' : State) (h : (execRefLost t inst s) = .next t') : t'.core 4259840 = s.core 4259840 := by
  have hm : inMask 4259840 4259840 = true := rfl
  simp only [execRefLost, Host.Outcome.next.injEq] at h
  subst h
  simp only [↓refLost_core (sb hm rfl), ↓State.begin_core (sb hm rfl)]

theorem readCaptures_core {R : Nat} (hm : inMask 65552 R = true) (sess : Nat) (d : Nat) (i : Nat) (x : Session) (s : State) : (readCaptures sess d i x s).2.core R = s.core R := by
  unfold readCaptures
  repeat' (first | with_reducible rfl | split | simp only [↓State.countDenial_core (sb hm rfl), ↓State.touch_core (sb hm rfl), ↓State.setCapture_core (sb hm rfl)])

theorem execCaptureRecordsRead_core (t : Nat) (who : Who) (die : Nat) (input : Nat) (s : State) (t' : State) (h : (execCaptureRecordsRead t who die input s) = .next t') : t'.core 4788240 = s.core 4788240 := by
  have hm : inMask 4788240 4788240 = true := rfl
  simp only [execCaptureRecordsRead, Host.Outcome.next.injEq] at h
  subst h
  repeat' (first | with_reducible rfl | rw [core_foldl] | rw [serve_core (sb hm rfl)] | intro _ | split | simp only [↓readCaptures_core (sb hm rfl), ↓State.begin_core (sb hm rfl)])

theorem State.setInput_core {R : Nat} (hm : inMask 131072 R = true) (s : State) (d : Nat) (ch : Nat) (x : InputSt) : (State.setInput s d ch x).core R = s.core R := by
  simp only [State.setInput, ↓core_audio (sb hm rfl)]

theorem cirqueInput_core {R : Nat} (hm : inMask 131072 R = true) (d : Nat) (ch : Nat) (slot : Nat) (f : AudioIn) (s : State) : (cirqueInput d ch slot f s).core R = s.core R := by
  unfold cirqueInput
  repeat' (first | with_reducible rfl | split | simp only [↓State.setInput_core (sb hm rfl), ↓State.setN_core (sb hm rfl), ↓State.inc32_core (sb hm rfl), ↓core_audio (sb hm rfl), ↓core_ite, ite_self])

theorem execCirqueInputFrame_core (t : Nat) (die : Nat) (chan : Nat) (slot : Nat) (f : AudioIn) (s : State) (t' : State) (h : (execCirqueInputFrame t die chan slot f s) = .next t') : t'.core 4325376 = s.core 4325376 := by
  have hm : inMask 4325376 4325376 = true := rfl
  simp only [execCirqueInputFrame, Host.Outcome.next.injEq] at h
  subst h
  simp only [↓cirqueInput_core (sb hm rfl), ↓State.begin_core (sb hm rfl)]

theorem State.driveEmgAct_core {R : Nat} (hm : inMask 131072 R = true) (s : State) : (State.driveEmgAct s).core R = s.core R := by
  simp only [State.driveEmgAct, ↓State.emit_core (sb hm rfl), ↓core_audio (sb hm rfl), ↓core_ite, ite_self]

theorem State.setEmergency_core {R : Nat} (hm : inMask 655392 R = true) (s : State) (ball : Bool) (cmd : Bool) : (State.setEmergency s ball cmd).core R = s.core R := by
  simp only [State.setEmergency, ↓State.inc32_core (sb hm rfl), ↓State.setN_core (sb hm rfl), ↓State.traffic_core (sb hm rfl), ↓State.emit_core (sb hm rfl), ↓State.driveEmgAct_core (sb hm rfl), ↓State.logLead_core (sb hm rfl), ↓core_audio (sb hm rfl), ↓core_ite, ite_self]

theorem execEmergencyAssert_core (t : Nat) (s : State) (t' : State) (h : (execEmergencyAssert t s) = .next t') : t'.core 4849696 = s.core 4849696 := by
  have hm : inMask 4849696 4849696 = true := rfl
  simp only [execEmergencyAssert, Host.Outcome.next.injEq] at h
  subst h
  simp only [↓State.begin_core (sb hm rfl), ↓State.setEmergency_core (sb hm rfl)]

theorem execEmergencyRelease_core (t : Nat) (s : State) (t' : State) (h : (execEmergencyRelease t s) = .next t') : t'.core 4849696 = s.core 4849696 := by
  have hm : inMask 4849696 4849696 = true := rfl
  simp only [execEmergencyRelease, Host.Outcome.next.injEq] at h
  subst h
  simp only [↓State.begin_core (sb hm rfl), ↓State.setEmergency_core (sb hm rfl)]

theorem emergencyCommand_core {R : Nat} (hm : inMask 655380 R = true) (sess : Nat) (v : Nat) (x : Session) (s : State) : (emergencyCommand sess v x s).2.core R = s.core R := by
  unfold emergencyCommand
  repeat' (first | with_reducible rfl | split | simp only [↓State.countDenial_core (sb hm rfl), ↓State.touch_core (sb hm rfl), ↓State.txnAdd_core (sb hm rfl), ↓State.holdT_core (sb hm rfl), ↓State.driveEmgAct_core (sb hm rfl), ↓State.traffic_core (sb hm rfl)])

theorem execEmergencyCommand_core (t : Nat) (who : Who) (v : Nat) (s : State) (t' : State) (h : (execEmergencyCommand t who v s) = .next t') : t'.core 4853780 = s.core 4853780 := by
  have hm : inMask 4853780 4853780 = true := rfl
  simp only [execEmergencyCommand, Host.Outcome.next.injEq] at h
  subst h
  repeat' (first | with_reducible rfl | rw [core_foldl] | rw [serve_core (sb hm rfl)] | intro _ | split | simp only [↓emergencyCommand_core (sb hm rfl), ↓State.begin_core (sb hm rfl)])

theorem zoneHandover_core {R : Nat} (hm : inMask 131072 R = true) (s : State) : (zoneHandover s).core R = s.core R := by
  unfold zoneHandover
  repeat' (first | with_reducible rfl | split | simp only [↓core_audio (sb hm rfl)])

theorem execZoneHandoverStart_core (t : Nat) (s : State) (t' : State) (h : (execZoneHandoverStart t s) = .next t') : t'.core 4325376 = s.core 4325376 := by
  have hm : inMask 4325376 4325376 = true := rfl
  simp only [execZoneHandoverStart, Host.Outcome.next.injEq] at h
  subst h
  simp only [↓zoneHandover_core (sb hm rfl), ↓State.begin_core (sb hm rfl)]

theorem State.storeClip_core {R : Nat} (hm : inMask 0 R = true) (s : State) (c : Nat) (b : Bytes) : (State.storeClip s c b).core R = s.core R := by
  simp only [State.storeClip, ↓State.setBlob_core (sb hm rfl), ↓State.setN_core (sb hm rfl)]

theorem clipWrite_core {R : Nat} (hm : inMask 0 R = true) (b : Bytes) (x : Session) (s : State) : (clipWrite b x s).2.core R = s.core R := by
  unfold clipWrite
  repeat' (first | with_reducible rfl | split | simp only [↓State.storeClip_core (sb hm rfl)])

theorem execClipDataWrite_core (t : Nat) (who : Who) (data : Bytes) (s : State) (t' : State) (h : (execClipDataWrite t who data s) = .next t') : t'.core 4722704 = s.core 4722704 := by
  have hm : inMask 4722704 4722704 = true := rfl
  simp only [execClipDataWrite, domRow, Host.Outcome.next.injEq] at h
  subst h
  repeat' (first | with_reducible rfl | rw [core_foldl] | rw [serve_core (sb hm rfl)] | rw [writeDom_core (sb hm rfl)] | intro _ | split | simp only [↓clipWrite_core (sb hm rfl), ↓State.begin_core (sb hm rfl)])

theorem clipErase_core {R : Nat} (hm : inMask 0 R = true) (x : Session) (s : State) : (clipErase x s).2.core R = s.core R := by
  unfold clipErase
  repeat' (first | with_reducible rfl | split | simp only [↓State.storeClip_core (sb hm rfl)])

theorem execClipErase_core (t : Nat) (who : Who) (s : State) (t' : State) (h : (execClipErase t who s) = .next t') : t'.core 4722704 = s.core 4722704 := by
  have hm : inMask 4722704 4722704 = true := rfl
  simp only [execClipErase, cmdRow, Host.Outcome.next.injEq] at h
  subst h
  repeat' (first | with_reducible rfl | rw [core_foldl] | rw [serve_core (sb hm rfl)] | rw [writeCmd_core (sb hm rfl)] | intro _ | split | simp only [↓clipErase_core (sb hm rfl), ↓State.begin_core (sb hm rfl)])

theorem State.setZone_core {R : Nat} (hm : inMask 131072 R = true) (s : State) (z : Nat) (x : ZoneSt) : (State.setZone s z x).core R = s.core R := by
  simp only [State.setZone, ↓core_audio (sb hm rfl)]

theorem annStart_core {R : Nat} (hm : inMask 131072 R = true) (a : Nat) (a1 : Session) (s : State) : (annStart a a1 s).2.core R = s.core R := by
  unfold annStart
  repeat' (first | with_reducible rfl | split | simp only [↓State.setN_core (sb hm rfl), ↓core_audio (sb hm rfl)])

theorem execAnnouncementStart_core (t : Nat) (who : Who) (a : Nat) (s : State) (t' : State) (h : (execAnnouncementStart t who a s) = .next t') : t'.core 4853776 = s.core 4853776 := by
  have hm : inMask 4853776 4853776 = true := rfl
  simp only [execAnnouncementStart, cmdRow, Host.Outcome.next.injEq] at h
  subst h
  repeat' (first | with_reducible rfl | rw [core_foldl] | rw [serve_core (sb hm rfl)] | rw [writeCmd_core (sb hm rfl)] | intro _ | split | simp only [↓annStart_core (sb hm rfl), ↓State.begin_core (sb hm rfl)])

theorem State.releasePlayers_core {R : Nat} (hm : inMask 131072 R = true) (s : State) (a : Nat) (fade : Bool) : (State.releasePlayers s a fade).core R = s.core R := by
  simp only [State.releasePlayers, ↓core_audio (sb hm rfl)]

theorem annAbort_core {R : Nat} (hm : inMask 131072 R = true) (a : Nat) (a1 : Session) (s : State) : (annAbort a a1 s).2.core R = s.core R := by
  unfold annAbort
  repeat' (first | with_reducible rfl | split | simp only [↓State.releasePlayers_core (sb hm rfl), ↓State.setN_core (sb hm rfl)])

theorem execAnnouncementAbort_core (t : Nat) (who : Who) (a : Nat) (s : State) (t' : State) (h : (execAnnouncementAbort t who a s) = .next t') : t'.core 4853776 = s.core 4853776 := by
  have hm : inMask 4853776 4853776 = true := rfl
  simp only [execAnnouncementAbort, cmdRow, Host.Outcome.next.injEq] at h
  subst h
  repeat' (first | with_reducible rfl | rw [core_foldl] | rw [serve_core (sb hm rfl)] | rw [writeCmd_core (sb hm rfl)] | intro _ | split | simp only [↓annAbort_core (sb hm rfl), ↓State.begin_core (sb hm rfl)])

theorem State.joinPlayer_core {R : Nat} (hm : inMask 131072 R = true) (s : State) (a : Nat) (z : Nat) : (State.joinPlayer s a z).core R = s.core R := by
  unfold State.joinPlayer
  repeat' (first | with_reducible rfl | split | simp only [↓State.setZone_core (sb hm rfl), ↓State.inc32_core (sb hm rfl)])

theorem annPlayback_core {R : Nat} (hm : inMask 131072 R = true) (a : Nat) (s : State) : (annPlayback a s).core R = s.core R := by
  unfold annPlayback
  repeat' (first | with_reducible rfl | rw [core_foldl] | intro _ | split | simp only [↓State.setN_core (sb hm rfl), ↓State.joinPlayer_core (sb hm rfl), ↓core_audio (sb hm rfl)])

theorem execAnnouncementPlayback_core (t : Nat) (a : Nat) (s : State) (t' : State) (h : (execAnnouncementPlayback t a s) = .next t') : t'.core 4325376 = s.core 4325376 := by
  have hm : inMask 4325376 4325376 = true := rfl
  simp only [execAnnouncementPlayback, Host.Outcome.next.injEq] at h
  subst h
  simp only [↓annPlayback_core (sb hm rfl), ↓State.begin_core (sb hm rfl)]

theorem annDone_core {R : Nat} (hm : inMask 131072 R = true) (a : Nat) (s : State) : (annDone a s).core R = s.core R := by
  simp only [annDone, ↓State.releasePlayers_core (sb hm rfl), ↓State.setN_core (sb hm rfl), ↓core_ite, ite_self]

theorem execAnnouncementDone_core (t : Nat) (a : Nat) (s : State) (t' : State) (h : (execAnnouncementDone t a s) = .next t') : t'.core 4325376 = s.core 4325376 := by
  have hm : inMask 4325376 4325376 = true := rfl
  simp only [execAnnouncementDone, Host.Outcome.next.injEq] at h
  subst h
  simp only [↓annDone_core (sb hm rfl), ↓State.begin_core (sb hm rfl)]

theorem State.mixOutput_core {R : Nat} (hm : inMask 131072 R = true) (s : State) (d : Nat) (z : Nat) (o : Nat) (was : Bool) (em : Bool) (v : SMap (List Int)) (old : SMap DuckSt) (new : SMap DuckSt) : (State.mixOutput s d z o was em v old new).2.core R = s.core R := by
  simp only [State.mixOutput, ↓core_audio (sb hm rfl)]

theorem State.overrunOutput_core {R : Nat} (hm : inMask 131072 R = true) (s : State) (z : Nat) (o : Nat) : (State.overrunOutput s z o).2.core R = s.core R := by
  simp only [State.overrunOutput, ↓core_audio (sb hm rfl)]

theorem State.emitAudio_core {R : Nat} (hm : inMask 7712 R = true) (s : State) (d : Nat) (z : Nat) (slot : Nat) (noInject : Bool) (ys : List (Nat × List Int)) : (State.emitAudio s d z slot noInject ys).core R = s.core R := by
  unfold State.emitAudio
  repeat' (first | with_reducible rfl | split | simp only [↓State.streamCount_core (sb hm rfl), ↓State.inject_core (sb hm rfl), ↓core_ite, ite_self])

theorem State.mixZone_core {R : Nat} (hm : inMask 138784 R = true) (s : State) (d z : Nat) (was em excess noInject : Bool)
    (v : SMap (List Int)) (before : State) : (s.mixZone d z was em excess noInject v before).core R = s.core R := by
  unfold State.mixZone
  dsimp only
  rw [core_foldl _ (fun s k => State.emitAudio_core (sb hm rfl) ..), State.setN_core (sb hm rfl), core_foldl _ (fun s c => State.setInput_core (sb hm rfl) ..),
    State.setZone_core (sb hm rfl), core_fold2]
  intro p o
  dsimp only
  split
  · exact State.overrunOutput_core (sb hm rfl) ..
  · exact State.mixOutput_core (sb hm rfl) ..


theorem State.mixInstance_core {R : Nat} (hm : inMask 138784 R = true) (s : State) (d : Nat) (was em excess noInject : Bool) :
    (s.mixInstance d was em excess noInject).core R = s.core R := by
  unfold State.mixInstance
  dsimp only
  rw [core_foldl _ (fun s z => State.mixZone_core (sb hm rfl) s d z was em excess noInject _ _), core_fold2]
  intro p a
  exact State.setInput_core (sb hm rfl) ..


theorem State.fadeOutputs_core {R : Nat} (hm : inMask 131072 R = true) (s : State) : (State.fadeOutputs s).core R = s.core R := by
  simp only [State.fadeOutputs, ↓core_audio (sb hm rfl)]

theorem State.cirqueTick_core {R : Nat} (hm : inMask 138784 R = true) (s : State) (excess : List Nat) (noInject : List Nat) : (State.cirqueTick s excess noInject).core R = s.core R := by
  unfold State.cirqueTick
  repeat' (first | with_reducible rfl | rw [core_foldl] | intro _ | split | simp only [↓annDone_core (sb hm rfl), ↓annPlayback_core (sb hm rfl), ↓State.emit_core (sb hm rfl), ↓State.mixInstance_core (sb hm rfl), ↓State.fadeOutputs_core (sb hm rfl), ↓core_audio (sb hm rfl)])

theorem State.failAnnouncements_core {R : Nat} (hm : inMask 131072 R = true) (s : State) : (State.failAnnouncements s).core R = s.core R := by
  unfold State.failAnnouncements
  repeat' (first | with_reducible rfl | rw [core_foldl] | intro _ | split | simp only [↓State.releasePlayers_core (sb hm rfl), ↓State.setN_core (sb hm rfl)])

theorem clearCirque_core {R : Nat} (hm : inMask 131072 R = true) (a1 : Session) (s : State) : (clearCirque a1 s).2.core R = s.core R := by
  simp only [clearCirque, ↓core_audio (sb hm rfl)]

theorem execClearCirqueCounters_core (t : Nat) (who : Who) (s : State) (t' : State) (h : (execClearCirqueCounters t who s) = .next t') : t'.core 4853776 = s.core 4853776 := by
  have hm : inMask 4853776 4853776 = true := rfl
  simp only [execClearCirqueCounters, cmdRow, Host.Outcome.next.injEq] at h
  subst h
  repeat' (first | with_reducible rfl | rw [core_foldl] | rw [serve_core (sb hm rfl)] | rw [writeCmd_core (sb hm rfl)] | intro _ | split | simp only [↓clearCirque_core (sb hm rfl), ↓State.begin_core (sb hm rfl)])

theorem State.missedInRestart_core {R : Nat} (hm : inMask 0 R = true) (s : State) (e : Nat) (key : Nat) : (State.missedInRestart s e key).core R = s.core R := by
  simp only [State.missedInRestart, ↓State.inc32_core (sb hm rfl), ↓core_ite, ite_self]

theorem State.setMsg_core {R : Nat} (hm : inMask 262144 R = true) (s : State) (m : Nat) (x : MsgSt) : (State.setMsg s m x).core R = s.core R := by
  simp only [State.setMsg, ↓core_edge (sb hm rfl)]

theorem State.setMap_core {R : Nat} (hm : inMask 262144 R = true) (s : State) (k : Nat) (x : MapSt) : (State.setMap s k x).core R = s.core R := by
  simp only [State.setMap, ↓core_edge (sb hm rfl)]

theorem State.writeCell_core {R : Nat} (hm : inMask 262144 R = true) (s : State) (k : Nat) (value : Nat) (origin : Nat) (stale : Bool) : (State.writeCell s k value origin stale).core R = s.core R := by
  simp only [State.writeCell, ↓State.setMap_core (sb hm rfl), ↓core_edge (sb hm rfl), ↓core_ite, ite_self]

theorem State.extract_core {R : Nat} (hm : inMask 262144 R = true) (s : State) (m : Nat) (b : Bytes) (origin : Nat) : (State.extract s m b origin).core R = s.core R := by
  unfold State.extract
  repeat' (first | with_reducible rfl | rw [core_foldl] | intro _ | split | simp only [↓State.setMsg_core (sb hm rfl), ↓State.writeCell_core (sb hm rfl), ↓core_ite, ite_self])

theorem telegramReceive_core {R : Nat} (hm : inMask 262144 R = true) (e : Nat) (slot : Nat) (b : Bytes) (at_ : Nat) (s : State) : (telegramReceive e slot b at_ s).core R = s.core R := by
  unfold telegramReceive
  repeat' (first | with_reducible rfl | rw [core_foldl] | intro _ | split | simp only [↓State.setMsg_core (sb hm rfl), ↓State.extract_core (sb hm rfl), ↓core_ite])

theorem execTelegramReceive_core (t : Nat) (endpoint : Nat) (slot : Nat) (bytes : Bytes) (at_ : Nat) (s : State) (t' : State) (h : (execTelegramReceive t endpoint slot bytes at_ s) = .next t') : t'.core 4456448 = s.core 4456448 := by
  have hm : inMask 4456448 4456448 = true := rfl
  simp only [execTelegramReceive, Host.Outcome.next.injEq] at h
  subst h
  simp only [↓telegramReceive_core (sb hm rfl), ↓State.begin_core (sb hm rfl)]

theorem State.buildPayload_core {R : Nat} (hm : inMask 262144 R = true) (s : State) (m : Nat) (excess : Bool) : (s.buildPayload m excess).2.core R = s.core R := by
  unfold State.buildPayload
  rw [core_fold2]
  intro p k
  dsimp only
  split
  · rw [core_edge (sb hm rfl), State.setMap_core (sb hm rfl)]
  · rw [State.setMap_core (sb hm rfl)]






theorem State.setCan_core {R : Nat} (hm : inMask 262144 R = true) (s : State) (u : Nat) (x : CanSt) : (State.setCan s u x).core R = s.core R := by
  simp only [State.setCan, ↓core_edge (sb hm rfl)]

theorem State.setLin_core {R : Nat} (hm : inMask 262144 R = true) (s : State) (u : Nat) (x : LinSt) : (State.setLin s u x).core R = s.core R := by
  simp only [State.setLin, ↓core_edge (sb hm rfl)]

theorem State.setUart_core {R : Nat} (hm : inMask 262144 R = true) (s : State) (u : Nat) (x : SerialSt) : (State.setUart s u x).core R = s.core R := by
  simp only [State.setUart, ↓core_edge (sb hm rfl)]

theorem State.setT1s_core {R : Nat} (hm : inMask 262144 R = true) (s : State) (d : Nat) (x : SerialSt) : (State.setT1s s d x).core R = s.core R := by
  simp only [State.setT1s, ↓core_edge (sb hm rfl)]

theorem State.countReplaced_core {R : Nat} (hm : inMask 262144 R = true) (s : State) (m : Nat) : (State.countReplaced s m).core R = s.core R := by
  simp only [State.countReplaced, ↓State.setMsg_core (sb hm rfl)]

theorem State.loadSlot_core {R : Nat} (hm : inMask 262144 R = true) (s : State) (m : Nat) (b : Bytes) : (State.loadSlot s m b).core R = s.core R := by
  unfold State.loadSlot
  repeat' (first | with_reducible rfl | split | simp only [↓State.countReplaced_core (sb hm rfl), ↓State.setCan_core (sb hm rfl), ↓State.setLin_core (sb hm rfl), ↓State.setUart_core (sb hm rfl), ↓State.setT1s_core (sb hm rfl), ↓core_edge (sb hm rfl)])

theorem State.emitMessage_core {R : Nat} (hm : inMask 269856 R = true) (s : State) (m : Nat) (excess : Bool) (noInject : Bool) : (State.emitMessage s m excess noInject).core R = s.core R := by
  unfold State.emitMessage
  repeat' (first | with_reducible rfl | split | simp only [↓State.buildPayload_core (sb hm rfl), ↓State.setMsg_core (sb hm rfl), ↓State.loadSlot_core (sb hm rfl), ↓State.inject_core (sb hm rfl), ↓core_ite, ite_self])

theorem State.gatewayTick_core {R : Nat} (hm : inMask 269856 R = true) (s : State) (excess : List Nat) (noInject : List Nat) : (State.gatewayTick s excess noInject).core R = s.core R := by
  unfold State.gatewayTick
  repeat' (first | with_reducible rfl | rw [core_foldl] | intro _ | split | simp only [↓State.emitMessage_core (sb hm rfl), ↓State.setMsg_core (sb hm rfl), ↓State.setN_core (sb hm rfl)])

theorem clearGateway_core {R : Nat} (hm : inMask 262144 R = true) (a1 : Session) (s : State) : (clearGateway a1 s).2.core R = s.core R := by
  simp only [clearGateway, ↓core_edge (sb hm rfl)]

theorem execClearGatewayCounters_core (t : Nat) (who : Who) (s : State) (t' : State) (h : (execClearGatewayCounters t who s) = .next t') : t'.core 4984848 = s.core 4984848 := by
  have hm : inMask 4984848 4984848 = true := rfl
  simp only [execClearGatewayCounters, cmdRow, Host.Outcome.next.injEq] at h
  subst h
  repeat' (first | with_reducible rfl | rw [core_foldl] | rw [serve_core (sb hm rfl)] | rw [writeCmd_core (sb hm rfl)] | intro _ | split | simp only [↓clearGateway_core (sb hm rfl), ↓State.begin_core (sb hm rfl)])

theorem State.clearCells_core {R : Nat} (hm : inMask 262144 R = true) (s : State) (d : Nat) (c : Nat) : (State.clearCells s d c).core R = s.core R := by
  simp only [State.clearCells, ↓core_edge (sb hm rfl)]

theorem State.noteRing_core {R : Nat} (hm : inMask 524288 R = true) (s : State) (m : RingMsg) : (State.noteRing s m).core R = s.core R := by
  simp only [State.noteRing, ↓core_power (sb hm rfl)]

theorem State.ringSend_core {R : Nat} (hm : inMask 524800 R = true) (s : State) (mask : Nat) (but : Option Nat) (m : RingMsg) : (State.ringSend s mask but m).core R = s.core R := by
  unfold State.ringSend
  repeat' (first | with_reducible rfl | rw [core_foldl] | intro _ | split | simp only [↓State.noteRing_core (sb hm rfl), ↓State.joinQueue_core (sb hm rfl)])

theorem State.sendWake_core {R : Nat} (hm : inMask 524800 R = true) (s : State) : (State.sendWake s).core R = s.core R := by
  simp only [State.sendWake, ↓State.ringSend_core (sb hm rfl)]

theorem State.forwardWake_core {R : Nat} (hm : inMask 524800 R = true) (s : State) (src : Option Nat) : (State.forwardWake s src).core R = s.core R := by
  simp only [State.forwardWake, ↓State.sendWake_core (sb hm rfl), ↓core_power (sb hm rfl)]

theorem wakeRepeat_core {R : Nat} (hm : inMask 524800 R = true) (s : State) : (wakeRepeat s).core R = s.core R := by
  simp only [wakeRepeat, ↓State.sendWake_core (sb hm rfl), ↓core_power (sb hm rfl), ↓core_ite, ite_self]

theorem execWakeFrameRepeat_core (t : Nat) (s : State) (t' : State) (h : (execWakeFrameRepeat t s) = .next t') : t'.core 4719104 = s.core 4719104 := by
  have hm : inMask 4719104 4719104 = true := rfl
  simp only [execWakeFrameRepeat, Host.Outcome.next.injEq] at h
  subst h
  simp only [↓wakeRepeat_core (sb hm rfl), ↓State.begin_core (sb hm rfl)]

theorem State.setRound_core {R : Nat} (hm : inMask 524288 R = true) (s : State) (r : Option RoundSt) : (State.setRound s r).core R = s.core R := by
  simp only [State.setRound, ↓core_power (sb hm rfl)]

theorem State.cancelRound_core {R : Nat} (hm : inMask 524800 R = true) (s : State) : (State.cancelRound s).core R = s.core R := by
  unfold State.cancelRound
  repeat' (first | with_reducible rfl | split | simp only [↓State.setRound_core (sb hm rfl), ↓State.setN_core (sb hm rfl), ↓State.ringSend_core (sb hm rfl), ↓core_power (sb hm rfl), ↓core_ite, ite_self])

theorem State.trafficOn_core {R : Nat} (hm : inMask 524800 R = true) (s : State) (e : Nat) : (State.trafficOn s e).core R = s.core R := by
  simp only [State.trafficOn, ↓State.traffic_core (sb hm rfl), ↓State.cancelRound_core (sb hm rfl), ↓State.forwardWake_core (sb hm rfl), ↓core_power (sb hm rfl), ↓core_ite, ite_self]

theorem State.setElemFlags_core {R : Nat} (hm : inMask 4096 R = true) (s : State) (w : Nat) (o : Nat) (v : Nat) : (State.setElemFlags s w o v).core R = s.core R := by
  simp only [State.setElemFlags, ↓State.setEdgeRam_core (sb hm rfl)]

theorem State.writeElem_core {R : Nat} (hm : inMask 4096 R = true) (s : State) (w : Nat) (o : Nat) (id : Nat) (fmt : Nat) (extra : Nat) (af : Nat) (flags : Nat) (data : Bytes) : (State.writeElem s w o id fmt extra af flags data).core R = s.core R := by
  simp only [State.writeElem, ↓State.setEdgeRam_core (sb hm rfl)]

theorem State.elemSent_core {R : Nat} (hm : inMask 4096 R = true) (s : State) (w : Nat) (o : Nat) : (State.elemSent s w o).core R = s.core R := by
  simp only [State.elemSent, ↓State.setElemFlags_core (sb hm rfl), ↓State.setEdgeRam_core (sb hm rfl)]

theorem State.canStore_core {R : Nat} (hm : inMask 4096 R = true) (s : State) (u : Nat) (o : Nat) (flags : Nat) (f : CanFrame) : (State.canStore s u o flags f).core R = s.core R := by
  simp only [State.canStore, ↓State.writeElem_core (sb hm rfl)]

theorem State.canDeliver_core {R : Nat} (hm : inMask 266240 R = true) (s : State) (u : Nat) (f : CanFrame) : (State.canDeliver s u f).core R = s.core R := by
  unfold State.canDeliver
  repeat' (first | with_reducible rfl | split | simp only [↓State.canStore_core (sb hm rfl), ↓State.inc32_core (sb hm rfl), ↓State.setCan_core (sb hm rfl)])

theorem State.hearHeartbeat_core {R : Nat} (hm : inMask 262144 R = true) (s : State) (id : Nat) : (State.hearHeartbeat s id).core R = s.core R := by
  simp only [State.hearHeartbeat, ↓core_edge (sb hm rfl)]

theorem State.showErrors_core {R : Nat} (hm : inMask 0 R = true) (s : State) (u : Nat) : (State.showErrors s u).core R = s.core R := by
  simp only [State.showErrors, ↓State.setN_core (sb hm rfl), ↓State.setFlag_core (sb hm rfl)]

theorem canReceive_core {R : Nat} (hm : inMask 791040 R = true) (u : Nat) (f : CanFrame) (s : State) : (canReceive u f s).core R = s.core R := by
  unfold canReceive
  repeat' (first | with_reducible rfl | rw [core_foldl] | intro _ | split | simp only [↓State.missedInRestart_core (sb hm rfl), ↓State.setFlag_core (sb hm rfl), ↓State.inc64_core (sb hm rfl), ↓State.trafficOn_core (sb hm rfl), ↓State.showErrors_core (sb hm rfl), ↓State.setCan_core (sb hm rfl), ↓State.canDeliver_core (sb hm rfl), ↓State.extract_core (sb hm rfl), ↓State.hearHeartbeat_core (sb hm rfl), ↓State.emit_core (sb hm rfl), ↓core_ite, ite_self])

theorem execCanFrameReceive_core (t : Nat) (unit : Nat) (f : CanFrame) (s : State) (t' : State) (h : (execCanFrameReceive t unit f s) = .next t') : t'.core 4985344 = s.core 4985344 := by
  have hm : inMask 4985344 4985344 = true := rfl
  simp only [execCanFrameReceive, Host.Outcome.next.injEq] at h
  subst h
  simp only [↓canReceive_core (sb hm rfl), ↓State.begin_core (sb hm rfl)]

theorem State.canQueue_core {R : Nat} (hm : inMask 262144 R = true) (s : State) (u : Nat) (x : CanTx) : (State.canQueue s u x).core R = s.core R := by
  simp only [State.canQueue, ↓State.setCan_core (sb hm rfl)]

theorem canTransmitDone_core {R : Nat} (hm : inMask 266240 R = true) (u : Nat) (s : State) : (canTransmitDone u s).core R = s.core R := by
  unfold canTransmitDone
  repeat' (first | with_reducible rfl | split | simp only [↓State.setCan_core (sb hm rfl), ↓State.showErrors_core (sb hm rfl), ↓State.inc64_core (sb hm rfl), ↓State.emit_core (sb hm rfl), ↓State.elemSent_core (sb hm rfl)])

theorem execCanTransmitDone_core (t : Nat) (unit : Nat) (s : State) (t' : State) (h : (execCanTransmitDone t unit s) = .next t') : t'.core 4460544 = s.core 4460544 := by
  have hm : inMask 4460544 4460544 = true := rfl
  simp only [execCanTransmitDone, Host.Outcome.next.injEq] at h
  subst h
  simp only [↓canTransmitDone_core (sb hm rfl), ↓State.begin_core (sb hm rfl)]

theorem canBusError_core {R : Nat} (hm : inMask 266240 R = true) (u : Nat) (transmitting : Bool) (arbitration : Bool) (s : State) : (canBusError u transmitting arbitration s).core R = s.core R := by
  unfold canBusError
  repeat' (first | with_reducible rfl | split | simp only [↓State.setCan_core (sb hm rfl), ↓State.showErrors_core (sb hm rfl), ↓State.inc32_core (sb hm rfl), ↓State.setElemFlags_core (sb hm rfl), ↓core_ite, ite_self])

theorem execCanBusError_core (t : Nat) (unit : Nat) (transmitting : Bool) (arbitration : Bool) (s : State) (t' : State) (h : (execCanBusError t unit transmitting arbitration s) = .next t') : t'.core 4460544 = s.core 4460544 := by
  have hm : inMask 4460544 4460544 = true := rfl
  simp only [execCanBusError, Host.Outcome.next.injEq] at h
  subst h
  simp only [↓canBusError_core (sb hm rfl), ↓State.begin_core (sb hm rfl)]

theorem busOff_core {R : Nat} (hm : inMask 262144 R = true) (u : Nat) (s : State) : (busOff u s).core R = s.core R := by
  simp only [busOff, ↓State.inc32_core (sb hm rfl), ↓State.setFlag_core (sb hm rfl), ↓State.setCan_core (sb hm rfl), ↓core_ite, ite_self]

theorem execBusOff_core (t : Nat) (unit : Nat) (s : State) (t' : State) (h : (execBusOff t unit s) = .next t') : t'.core 4456448 = s.core 4456448 := by
  have hm : inMask 4456448 4456448 = true := rfl
  simp only [execBusOff, Host.Outcome.next.injEq] at h
  subst h
  simp only [↓busOff_core (sb hm rfl), ↓State.begin_core (sb hm rfl)]

theorem busOffRecovery_core {R : Nat} (hm : inMask 262144 R = true) (u : Nat) (a1 : Session) (s : State) : (busOffRecovery u a1 s).2.core R = s.core R := by
  unfold busOffRecovery
  repeat' (first | with_reducible rfl | split | simp only [↓State.setCan_core (sb hm rfl)])

theorem execBusOffRecovery_core (t : Nat) (who : Who) (unit : Nat) (s : State) (t' : State) (h : (execBusOffRecovery t who unit s) = .next t') : t'.core 4984848 = s.core 4984848 := by
  have hm : inMask 4984848 4984848 = true := rfl
  simp only [execBusOffRecovery, cmdRow, Host.Outcome.next.injEq] at h
  subst h
  repeat' (first | with_reducible rfl | rw [core_foldl] | rw [serve_core (sb hm rfl)] | rw [writeCmd_core (sb hm rfl)] | intro _ | split | simp only [↓busOffRecovery_core (sb hm rfl), ↓State.begin_core (sb hm rfl)])

theorem busOffRecovered_core {R : Nat} (hm : inMask 262144 R = true) (u : Nat) (s : State) : (busOffRecovered u s).core R = s.core R := by
  simp only [busOffRecovered, ↓State.showErrors_core (sb hm rfl), ↓State.setCan_core (sb hm rfl), ↓State.setFlag_core (sb hm rfl), ↓core_ite, ite_self]

theorem execBusOffRecovered_core (t : Nat) (unit : Nat) (s : State) (t' : State) (h : (execBusOffRecovered t unit s) = .next t') : t'.core 4456448 = s.core 4456448 := by
  have hm : inMask 4456448 4456448 = true := rfl
  simp only [execBusOffRecovered, Host.Outcome.next.injEq] at h
  subst h
  simp only [↓busOffRecovered_core (sb hm rfl), ↓State.begin_core (sb hm rfl)]

theorem edgeTxRequest_core {R : Nat} (hm : inMask 266240 R = true) (w : Nat) (o : Nat) (s : State) : (edgeTxRequest w o s).core R = s.core R := by
  unfold edgeTxRequest
  repeat' (first | with_reducible rfl | split | simp only [↓State.setElemFlags_core (sb hm rfl), ↓State.canQueue_core (sb hm rfl), ↓State.setUart_core (sb hm rfl), ↓core_ite, ite_self])

theorem execEdgeTxRequest_core (t : Nat) (cluster : Nat) (off : Nat) (s : State) (t' : State) (h : (execEdgeTxRequest t cluster off s) = .next t') : t'.core 4460544 = s.core 4460544 := by
  have hm : inMask 4460544 4460544 = true := rfl
  simp only [execEdgeTxRequest, Host.Outcome.next.injEq] at h
  subst h
  simp only [↓edgeTxRequest_core (sb hm rfl), ↓State.begin_core (sb hm rfl)]

theorem State.linHeader_core {R : Nat} (hm : inMask 262144 R = true) (s : State) (u : Nat) (id : Nat) : (State.linHeader s u id).core R = s.core R := by
  unfold State.linHeader
  repeat' (first | with_reducible rfl | split | simp only [↓State.emit_core (sb hm rfl), ↓State.setLin_core (sb hm rfl)])

theorem State.beginSchedules_core {R : Nat} (hm : inMask 262144 R = true) (s : State) : (State.beginSchedules s).core R = s.core R := by
  unfold State.beginSchedules
  repeat' (first | with_reducible rfl | rw [core_foldl] | intro _ | split | simp only [↓State.setLin_core (sb hm rfl)])

theorem linScheduleEntry_core {R : Nat} (hm : inMask 262144 R = true) (u : Nat) (s : State) : (linScheduleEntry u s).core R = s.core R := by
  simp only [linScheduleEntry, ↓State.setLin_core (sb hm rfl), ↓State.setFlag_core (sb hm rfl), ↓State.linHeader_core (sb hm rfl), ↓State.emit_core (sb hm rfl), ↓core_ite, ite_self]

theorem execLinScheduleEntry_core (t : Nat) (unit : Nat) (s : State) (t' : State) (h : (execLinScheduleEntry t unit s) = .next t') : t'.core 4456448 = s.core 4456448 := by
  have hm : inMask 4456448 4456448 = true := rfl
  simp only [execLinScheduleEntry, Host.Outcome.next.injEq] at h
  subst h
  simp only [↓linScheduleEntry_core (sb hm rfl), ↓State.begin_core (sb hm rfl)]

theorem linHeaderReceive_core {R : Nat} (hm : inMask 262144 R = true) (u : Nat) (id : Nat) (s : State) : (linHeaderReceive u id s).core R = s.core R := by
  simp only [linHeaderReceive, ↓State.setFlag_core (sb hm rfl), ↓State.linHeader_core (sb hm rfl), ↓core_ite, ite_self]

theorem execLinHeaderReceive_core (t : Nat) (unit : Nat) (id : Nat) (s : State) (t' : State) (h : (execLinHeaderReceive t unit id s) = .next t') : t'.core 4456448 = s.core 4456448 := by
  have hm : inMask 4456448 4456448 = true := rfl
  simp only [execLinHeaderReceive, Host.Outcome.next.injEq] at h
  subst h
  simp only [↓linHeaderReceive_core (sb hm rfl), ↓State.begin_core (sb hm rfl)]

theorem linResponse_core {R : Nat} (hm : inMask 791040 R = true) (u : Nat) (b : Bytes) (ok : Bool) (s : State) : (linResponse u b ok s).core R = s.core R := by
  unfold linResponse
  repeat' (first | with_reducible rfl | rw [core_foldl] | intro _ | split | simp only [↓State.setLin_core (sb hm rfl), ↓State.inc32_core (sb hm rfl), ↓State.inc64_core (sb hm rfl), ↓State.trafficOn_core (sb hm rfl), ↓State.writeElem_core (sb hm rfl), ↓State.extract_core (sb hm rfl)])

theorem execLinResponseReceive_core (t : Nat) (unit : Nat) (data : Bytes) (sumOk : Bool) (s : State) (t' : State) (h : (execLinResponseReceive t unit data sumOk s) = .next t') : t'.core 4985344 = s.core 4985344 := by
  have hm : inMask 4985344 4985344 = true := rfl
  simp only [execLinResponseReceive, Host.Outcome.next.injEq] at h
  subst h
  simp only [↓linResponse_core (sb hm rfl), ↓State.begin_core (sb hm rfl)]

theorem linNoResponse_core {R : Nat} (hm : inMask 262144 R = true) (u : Nat) (s : State) : (linNoResponse u s).core R = s.core R := by
  simp only [linNoResponse, ↓State.inc32_core (sb hm rfl), ↓State.setLin_core (sb hm rfl), ↓core_ite, ite_self]

theorem execLinNoResponse_core (t : Nat) (unit : Nat) (s : State) (t' : State) (h : (execLinNoResponse t unit s) = .next t') : t'.core 4456448 = s.core 4456448 := by
  have hm : inMask 4456448 4456448 = true := rfl
  simp only [execLinNoResponse, Host.Outcome.next.injEq] at h
  subst h
  simp only [↓linNoResponse_core (sb hm rfl), ↓State.begin_core (sb hm rfl)]

theorem linGoToSleep_core {R : Nat} (hm : inMask 262144 R = true) (u : Nat) (s : State) : (linGoToSleep u s).core R = s.core R := by
  simp only [linGoToSleep, ↓State.setFlag_core (sb hm rfl), ↓State.setLin_core (sb hm rfl), ↓core_ite, ite_self]

theorem execLinGoToSleep_core (t : Nat) (unit : Nat) (s : State) (t' : State) (h : (execLinGoToSleep t unit s) = .next t') : t'.core 4456448 = s.core 4456448 := by
  have hm : inMask 4456448 4456448 = true := rfl
  simp only [execLinGoToSleep, Host.Outcome.next.injEq] at h
  subst h
  simp only [↓linGoToSleep_core (sb hm rfl), ↓State.begin_core (sb hm rfl)]

theorem uartMessage_core {R : Nat} (hm : inMask 791040 R = true) (u : Nat) (c : List Nat) (errors : Nat) (s : State) : (uartMessage u c errors s).core R = s.core R := by
  unfold uartMessage
  repeat' (first | with_reducible rfl | rw [core_foldl] | intro _ | split | simp only [↓State.missedInRestart_core (sb hm rfl), ↓State.addTo_core (sb hm rfl), ↓State.inc64_core (sb hm rfl), ↓State.trafficOn_core (sb hm rfl), ↓State.inc32_core (sb hm rfl), ↓State.setUart_core (sb hm rfl), ↓State.writeElem_core (sb hm rfl), ↓State.extract_core (sb hm rfl), ↓core_ite, ite_self])

theorem execUartMessageEnd_core (t : Nat) (unit : Nat) (chars : List Nat) (errors : Nat) (s : State) (t' : State) (h : (execUartMessageEnd t unit chars errors s) = .next t') : t'.core 4985344 = s.core 4985344 := by
  have hm : inMask 4985344 4985344 = true := rfl
  simp only [execUartMessageEnd, Host.Outcome.next.injEq] at h
  subst h
  simp only [↓uartMessage_core (sb hm rfl), ↓State.begin_core (sb hm rfl)]

theorem State.mvbLines_core {R : Nat} (hm : inMask 0 R = true) (s : State) (d : Nat) (a : Bool) (b : Bool) : (State.mvbLines s d a b).core R = s.core R := by
  simp only [State.mvbLines, ↓State.setFlag_core (sb hm rfl), ↓State.inc32_core (sb hm rfl), ↓core_ite, ite_self]

theorem State.mvbAnswer_core {R : Nat} (hm : inMask 0 R = true) (s : State) (d : Nat) (a : Nat) : (State.mvbAnswer s d a).core R = s.core R := by
  simp only [State.mvbAnswer, ↓State.inc64_core (sb hm rfl), ↓State.emit_core (sb hm rfl)]

theorem mvbBasicPeriod_core {R : Nat} (hm : inMask 0 R = true) (d : Nat) (s : State) : (mvbBasicPeriod d s).core R = s.core R := by
  unfold mvbBasicPeriod
  repeat' (first | with_reducible rfl | rw [core_foldl] | intro _ | split | simp only [↓State.emit_core (sb hm rfl), ↓State.mvbAnswer_core (sb hm rfl), ↓core_ite, ite_self])

theorem execMvbBasicPeriod_core (t : Nat) (die : Nat) (s : State) (t' : State) (h : (execMvbBasicPeriod t die s) = .next t') : t'.core 4194304 = s.core 4194304 := by
  have hm : inMask 4194304 4194304 = true := rfl
  simp only [execMvbBasicPeriod, Host.Outcome.next.injEq] at h
  subst h
  simp only [↓mvbBasicPeriod_core (sb hm rfl), ↓State.begin_core (sb hm rfl)]

theorem mvbMasterFrame_core {R : Nat} (hm : inMask 524801 R = true) (d : Nat) (fcode : Nat) (a : Nat) (la : Bool) (lb : Bool) (s : State) : (mvbMasterFrame d fcode a la lb s).core R = s.core R := by
  simp only [mvbMasterFrame, ↓State.mvbLines_core (sb hm rfl), ↓State.inc32_core (sb hm rfl), ↓State.inc64_core (sb hm rfl), ↓State.trafficOn_core (sb hm rfl), ↓State.mvbAnswer_core (sb hm rfl), ↓State.drawn_core (sb hm rfl), ↓State.emit_core (sb hm rfl), ↓core_ite, ite_self]

theorem execMvbMasterFrame_core (t : Nat) (die : Nat) (fcode : Nat) (addr : Nat) (lineA : Bool) (lineB : Bool) (s : State) (t' : State) (h : (execMvbMasterFrame t die fcode addr lineA lineB s) = .next t') : t'.core 4719105 = s.core 4719105 := by
  have hm : inMask 4719105 4719105 = true := rfl
  simp only [execMvbMasterFrame, Host.Outcome.next.injEq] at h
  subst h
  simp only [↓mvbMasterFrame_core (sb hm rfl), ↓State.begin_core (sb hm rfl)]

theorem mvbSlaveFrame_core {R : Nat} (hm : inMask 786944 R = true) (d : Nat) (a : Nat) (b : Bytes) (la : Bool) (lb : Bool) (s : State) : (mvbSlaveFrame d a b la lb s).core R = s.core R := by
  unfold mvbSlaveFrame
  repeat' (first | with_reducible rfl | rw [core_foldl] | intro _ | split | simp only [↓State.mvbLines_core (sb hm rfl), ↓State.inc32_core (sb hm rfl), ↓State.inc64_core (sb hm rfl), ↓State.trafficOn_core (sb hm rfl), ↓State.setMsg_core (sb hm rfl), ↓core_edge (sb hm rfl), ↓core_ite])

theorem execMvbSlaveFrame_core (t : Nat) (die : Nat) (addr : Nat) (data : Bytes) (lineA : Bool) (lineB : Bool) (s : State) (t' : State) (h : (execMvbSlaveFrame t die addr data lineA lineB s) = .next t') : t'.core 4981248 = s.core 4981248 := by
  have hm : inMask 4981248 4981248 = true := rfl
  simp only [execMvbSlaveFrame, Host.Outcome.next.injEq] at h
  subst h
  simp only [↓mvbSlaveFrame_core (sb hm rfl), ↓State.begin_core (sb hm rfl)]

theorem t1sReceive_core {R : Nat} (hm : inMask 791040 R = true) (d : Nat) (b : Bytes) (node : Nat) (ok : Bool) (s : State) : (t1sReceive d b node ok s).core R = s.core R := by
  unfold t1sReceive
  repeat' (first | with_reducible rfl | rw [core_foldl] | intro _ | split | simp only [↓State.missedInRestart_core (sb hm rfl), ↓State.inc32_core (sb hm rfl), ↓State.inc64_core (sb hm rfl), ↓State.trafficOn_core (sb hm rfl), ↓State.writeElem_core (sb hm rfl), ↓State.extract_core (sb hm rfl)])

theorem execT1sFrameReceive_core (t : Nat) (die : Nat) (bytes : Bytes) (node : Nat) (ok : Bool) (s : State) (t' : State) (h : (execT1sFrameReceive t die bytes node ok s) = .next t') : t'.core 4985344 = s.core 4985344 := by
  have hm : inMask 4985344 4985344 = true := rfl
  simp only [execT1sFrameReceive, Host.Outcome.next.injEq] at h
  subst h
  simp only [↓t1sReceive_core (sb hm rfl), ↓State.begin_core (sb hm rfl)]

theorem txDone_core {R : Nat} (hm : inMask 266240 R = true) (kind : Nat) (u : Nat) (s : State) : (txDone kind u s).core R = s.core R := by
  unfold txDone
  repeat' (first | with_reducible rfl | split | simp only [↓State.inc64_core (sb hm rfl), ↓State.setLin_core (sb hm rfl), ↓State.elemSent_core (sb hm rfl), ↓State.emit_core (sb hm rfl), ↓State.setUart_core (sb hm rfl), ↓State.setT1s_core (sb hm rfl), ↓State.writeElem_core (sb hm rfl)])

theorem execTxDone_core (t : Nat) (kind : Nat) (unit : Nat) (s : State) (t' : State) (h : (execTxDone t kind unit s) = .next t') : t'.core 4460544 = s.core 4460544 := by
  have hm : inMask 4460544 4460544 = true := rfl
  simp only [execTxDone, Host.Outcome.next.injEq] at h
  subst h
  simp only [↓txDone_core (sb hm rfl), ↓State.begin_core (sb hm rfl)]

theorem State.cancelCan_core {R : Nat} (hm : inMask 266240 R = true) (s : State) (u : Nat) : (State.cancelCan s u).core R = s.core R := by
  unfold State.cancelCan
  repeat' (first | with_reducible rfl | rw [core_foldl] | intro _ | split | simp only [↓State.setElemFlags_core (sb hm rfl), ↓State.setCan_core (sb hm rfl), ↓State.setN_core (sb hm rfl)])

theorem State.cancelUart_core {R : Nat} (hm : inMask 266240 R = true) (s : State) (u : Nat) : (State.cancelUart s u).core R = s.core R := by
  unfold State.cancelUart
  repeat' (first | with_reducible rfl | rw [core_foldl] | intro _ | split | simp only [↓State.setElemFlags_core (sb hm rfl), ↓State.setUart_core (sb hm rfl)])

theorem State.cancelLin_core {R : Nat} (hm : inMask 266240 R = true) (s : State) (u : Nat) : (State.cancelLin s u).core R = s.core R := by
  unfold State.cancelLin
  repeat' (first | with_reducible rfl | rw [core_foldl] | intro _ | split | simp only [↓State.setElemFlags_core (sb hm rfl), ↓State.setN_core (sb hm rfl), ↓State.setLin_core (sb hm rfl)])

theorem State.drainUnits_core {R : Nat} (hm : inMask 266240 R = true) (s : State) : (State.drainUnits s).core R = s.core R := by
  unfold State.drainUnits
  repeat' (first | with_reducible rfl | rw [core_foldl] | intro _ | split | simp only [↓State.cancelCan_core (sb hm rfl), ↓State.cancelUart_core (sb hm rfl), ↓State.cancelLin_core (sb hm rfl), ↓State.setT1s_core (sb hm rfl), ↓core_ite, ite_self])

theorem clearEdge_core {R : Nat} (hm : inMask 0 R = true) (kind : Nat) (u : Nat) (a1 : Session) (s : State) : (clearEdge kind u a1 s).2.core R = s.core R := by
  simp only [clearEdge, ↓State.clearAll_core (sb hm rfl)]

theorem execClearEdgeCounters_core (t : Nat) (who : Who) (kind : Nat) (unit : Nat) (s : State) (t' : State) (h : (execClearEdgeCounters t who kind unit s) = .next t') : t'.core 4722704 = s.core 4722704 := by
  have hm : inMask 4722704 4722704 = true := rfl
  simp only [execClearEdgeCounters, cmdRow, Host.Outcome.next.injEq] at h
  subst h
  repeat' (first | with_reducible rfl | rw [core_foldl] | rw [serve_core (sb hm rfl)] | rw [writeCmd_core (sb hm rfl)] | intro _ | split | simp only [↓clearEdge_core (sb hm rfl), ↓State.begin_core (sb hm rfl)])

theorem State.cacheKey_core {R : Nat} (hm : inMask 16384 R = true) (s : State) (d : Nat) (k : Nat) : (State.cacheKey s d k).core R = s.core R := by
  simp only [State.cacheKey, ↓core_cairn (sb hm rfl)]

theorem keyRequest_core {R : Nat} (hm : inMask 16384 R = true) (d : Nat) (k : Nat) (s : State) : (keyRequest d k s).core R = s.core R := by
  simp only [keyRequest, ↓State.emit_core (sb hm rfl), ↓core_cairn (sb hm rfl), ↓core_ite, ite_self]

theorem execKeyRequest_core (t : Nat) (die : Nat) (slot : Nat) (s : State) (t' : State) (h : (execKeyRequest t die slot s) = .next t') : t'.core 4210688 = s.core 4210688 := by
  have hm : inMask 4210688 4210688 = true := rfl
  simp only [execKeyRequest, Host.Outcome.next.injEq] at h
  subst h
  simp only [↓keyRequest_core (sb hm rfl), ↓State.begin_core (sb hm rfl)]

theorem State.addCopy_core {R : Nat} (hm : inMask 16384 R = true) (s : State) (d : Nat) (k : Nat) (c : KeyCopy) : (State.addCopy s d k c).core R = s.core R := by
  simp only [State.addCopy, ↓core_cairn (sb hm rfl)]

theorem keyDelivered_core {R : Nat} (hm : inMask 16384 R = true) (d : Nat) (k : Nat) (s : State) : (keyDelivered d k s).core R = s.core R := by
  simp only [keyDelivered, ↓State.cacheKey_core (sb hm rfl), ↓State.addCopy_core (sb hm rfl), ↓core_cairn (sb hm rfl), ↓core_ite, ite_self]

theorem State.refreshSlots_core {R : Nat} (hm : inMask 0 R = true) (s : State) : (State.refreshSlots s).core R = s.core R := by
  simp only [State.refreshSlots, ↓State.setN_core (sb hm rfl)]

theorem State.refreshRoots_core {R : Nat} (hm : inMask 0 R = true) (s : State) : (State.refreshRoots s).core R = s.core R := by
  simp only [State.refreshRoots, ↓State.setN_core (sb hm rfl), ↓State.setBlob_core (sb hm rfl), ↓core_ite, ite_self]

theorem State.retireCak_core {R : Nat} (hm : inMask 32768 R = true) (s : State) (k : Nat) : (State.retireCak s k).core R = s.core R := by
  simp only [State.retireCak, ↓core_cipher (sb hm rfl)]

theorem State.persist_core {R : Nat} (hm : inMask 16384 R = true) (s : State) (k : Nat) (gen : Nat) (r : Bytes) (value : Bytes) (stop : Nat) : (State.persist s k gen r value stop).core R = s.core R := by
  unfold State.persist
  repeat' (first | with_reducible rfl | rw [core_foldl] | intro _ | split | simp only [↓State.addCopy_core (sb hm rfl)])

theorem State.eraseSlot_core {R : Nat} (hm : inMask 49152 R = true) (s : State) (k : Nat) : (State.eraseSlot s k).core R = s.core R := by
  unfold State.eraseSlot
  simp only [↓State.retireCak_core (sb hm rfl), ↓core_cairn (sb hm rfl), ↓core_dict (sb hm rfl)]

theorem State.applySlot_core {R : Nat} (hm : inMask 49152 R = true) (s : State) (k : Nat) (w : Bytes) (stop : Nat) : (State.applySlot s k w stop).core R = s.core R := by
  simp only [State.applySlot, ↓State.eraseSlot_core (sb hm rfl), ↓State.setBlob_core (sb hm rfl), ↓State.persist_core (sb hm rfl), ↓State.retireCak_core (sb hm rfl), ↓core_cairn (sb hm rfl), ↓core_ite, ite_self]

theorem slotWrite_core {R : Nat} (hm : inMask 49152 R = true) (b : Bytes) (stop : Nat) (x : Session) (s : State) : (slotWrite b stop x s).2.core R = s.core R := by
  unfold slotWrite
  repeat' (first | with_reducible rfl | rw [core_foldl] | intro _ | split | simp only [↓State.applySlot_core (sb hm rfl), ↓State.refreshSlots_core (sb hm rfl), ↓State.setN_core (sb hm rfl)])

theorem importKeyAct_core {R : Nat} (hm : inMask 49152 R = true) (b : Bytes) (stop : Nat) (a1 : Session) (s : State) : (importKeyAct b stop a1 s).2.core R = s.core R := by
  unfold importKeyAct
  repeat' (first | with_reducible rfl | rw [core_foldl] | intro _ | split | simp only [↓State.persist_core (sb hm rfl), ↓State.retireCak_core (sb hm rfl), ↓State.setBlob_core (sb hm rfl), ↓State.cacheKey_core (sb hm rfl), ↓State.refreshSlots_core (sb hm rfl), ↓State.setN_core (sb hm rfl), ↓core_cairn (sb hm rfl)])

theorem State.resolveCopies_core {R : Nat} (hm : inMask 16416 R = true) (s : State) : (State.resolveCopies s).core R = s.core R := by
  unfold State.resolveCopies
  repeat' (first | with_reducible rfl | rw [core_foldl] | intro _ | split | simp only [↓State.logLead_core (sb hm rfl), ↓State.setN_core (sb hm rfl), ↓core_cairn (sb hm rfl)])

theorem State.reloadCaches_core {R : Nat} (hm : inMask 16384 R = true) (s : State) : (State.reloadCaches s).core R = s.core R := by
  unfold State.reloadCaches
  repeat' (first | with_reducible rfl | rw [core_foldl] | intro _ | split | simp only [↓State.cacheKey_core (sb hm rfl)])

theorem State.stompLane_core {R : Nat} (hm : inMask 512 R = true) (s : State) (n : Nat) : (State.stompLane s n).core R = s.core R := by
  unfold State.stompLane
  repeat' (first | with_reducible rfl | split | simp only [↓State.emit_core (sb hm rfl), ↓State.inc64_core (sb hm rfl), ↓State.updLane_core (sb hm rfl)])

theorem State.eraseSas_core {R : Nat} (hm : inMask 33280 R = true) (s : State) (p : Sa → Bool) : (State.eraseSas s p).core R = s.core R := by
  unfold State.eraseSas
  repeat' (first | with_reducible rfl | rw [core_foldl] | intro _ | split | simp only [↓State.stompLane_core (sb hm rfl), ↓core_cipher (sb hm rfl)])

theorem State.eraseJournal_core {R : Nat} (hm : inMask 32768 R = true) (s : State) (c : Nat) : (State.eraseJournal s c).core R = s.core R := by
  simp only [State.eraseJournal, ↓core_cipher (sb hm rfl)]

theorem State.drainChannel_core {R : Nat} (hm : inMask 33280 R = true) (s : State) (c : Nat) : (State.drainChannel s c).core R = s.core R := by
  simp only [State.drainChannel, ↓State.eraseJournal_core (sb hm rfl), ↓State.eraseSas_core (sb hm rfl), ↓core_cipher (sb hm rfl)]

theorem State.trimJournal_core {R : Nat} (hm : inMask 32768 R = true) (s : State) (d : Nat) : (State.trimJournal s d).core R = s.core R := by
  unfold State.trimJournal
  repeat' (first | with_reducible rfl | split | simp only [↓core_cipher (sb hm rfl), ↓core_ite])

theorem State.installSa_core {R : Nat} (hm : inMask 32800 R = true) (s : State) (c : Nat) (ki : Nat) (kn : Nat) (an : Nat) (pn : Nat) (sak : Bytes) : (State.installSa s c ki kn an pn sak).core R = s.core R := by
  simp only [State.installSa, ↓State.logEv_core (sb hm rfl), ↓State.inc32_core (sb hm rfl), ↓State.logBytes_core (sb hm rfl), ↓State.trimJournal_core (sb hm rfl), ↓core_cipher (sb hm rfl), ↓core_ite, ite_self]

theorem State.retireRecords_core {R : Nat} (hm : inMask 32768 R = true) (s : State) (c : Nat) : (State.retireRecords s c).core R = s.core R := by
  simp only [State.retireRecords, ↓core_cipher (sb hm rfl)]

theorem State.useTx_core {R : Nat} (hm : inMask 32768 R = true) (s : State) (c : Nat) (ki : Nat) : (State.useTx s c ki).core R = s.core R := by
  simp only [State.useTx, ↓State.retireRecords_core (sb hm rfl), ↓core_cipher (sb hm rfl), ↓core_ite, ite_self]

theorem State.useRx_core {R : Nat} (hm : inMask 32768 R = true) (s : State) (c : Nat) (ki : Nat) : (State.useRx s c ki).core R = s.core R := by
  simp only [State.useRx, ↓State.retireRecords_core (sb hm rfl), ↓core_cipher (sb hm rfl), ↓core_ite, ite_self]

theorem State.reloadSas_core {R : Nat} (hm : inMask 32768 R = true) (s : State) : (State.reloadSas s).core R = s.core R := by
  simp only [State.reloadSas, ↓core_cipher (sb hm rfl)]

theorem State.setMka_core {R : Nat} (hm : inMask 32768 R = true) (s : State) (c : Nat) (m : MkaSt) : (State.setMka s c m).core R = s.core R := by
  simp only [State.setMka, ↓core_cipher (sb hm rfl)]

theorem State.ensureMi_core {R : Nat} (hm : inMask 32769 R = true) (s : State) (c : Nat) : (State.ensureMi s c).core R = s.core R := by
  simp only [State.ensureMi, ↓State.drawn_core (sb hm rfl), ↓State.setMka_core (sb hm rfl), ↓core_ite, ite_self]

theorem State.sendMkpdu_core {R : Nat} (hm : inMask 32768 R = true) (s : State) (c : Nat) : (State.sendMkpdu s c).core R = s.core R := by
  simp only [State.sendMkpdu, ↓State.setMka_core (sb hm rfl), ↓State.emit_core (sb hm rfl)]

theorem State.newSak_core {R : Nat} (hm : inMask 32801 R = true) (s : State) (c : Nat) : (State.newSak s c).core R = s.core R := by
  simp only [State.newSak, ↓State.drawn_core (sb hm rfl), ↓State.setMka_core (sb hm rfl), ↓State.sendMkpdu_core (sb hm rfl), ↓State.installSa_core (sb hm rfl)]

theorem mkpduReceive_core {R : Nat} (hm : inMask 32801 R = true) (n : Nat) (p : Mkpdu) (s : State) : (mkpduReceive n p s).core R = s.core R := by
  unfold mkpduReceive
  repeat' (first | with_reducible rfl | split | simp only [↓State.ensureMi_core (sb hm rfl), ↓State.setMka_core (sb hm rfl), ↓State.newSak_core (sb hm rfl), ↓State.installSa_core (sb hm rfl), ↓State.useRx_core (sb hm rfl), ↓State.useTx_core (sb hm rfl), ↓core_ite, ite_self])

theorem execMkpduReceive_core (t : Nat) (lane : Nat) (p : Mkpdu) (s : State) (t' : State) (h : (execMkpduReceive t lane p s) = .next t') : t'.core 4227105 = s.core 4227105 := by
  have hm : inMask 4227105 4227105 = true := rfl
  simp only [execMkpduReceive, Host.Outcome.next.injEq] at h
  subst h
  simp only [↓mkpduReceive_core (sb hm rfl), ↓State.begin_core (sb hm rfl)]

theorem mkaHello_core {R : Nat} (hm : inMask 32801 R = true) (c : Nat) (s : State) : (mkaHello c s).core R = s.core R := by
  simp only [mkaHello, ↓State.ensureMi_core (sb hm rfl), ↓State.newSak_core (sb hm rfl), ↓State.sendMkpdu_core (sb hm rfl), ↓core_ite, ite_self]

theorem execMkaHelloTimer_core (t : Nat) (channel : Nat) (s : State) (t' : State) (h : (execMkaHelloTimer t channel s) = .next t') : t'.core 4227105 = s.core 4227105 := by
  have hm : inMask 4227105 4227105 = true := rfl
  simp only [execMkaHelloTimer, Host.Outcome.next.injEq] at h
  subst h
  simp only [↓mkaHello_core (sb hm rfl), ↓State.begin_core (sb hm rfl)]

theorem mkaLifeTimeout_core {R : Nat} (hm : inMask 33313 R = true) (c : Nat) (mi : Nat) (s : State) : (mkaLifeTimeout c mi s).core R = s.core R := by
  unfold mkaLifeTimeout
  repeat' (first | with_reducible rfl | split | simp only [↓State.setMka_core (sb hm rfl), ↓State.retireRecords_core (sb hm rfl), ↓State.eraseSas_core (sb hm rfl), ↓State.newSak_core (sb hm rfl)])

theorem execMkaLifeTimeout_core (t : Nat) (channel : Nat) (mi : Nat) (s : State) (t' : State) (h : (execMkaLifeTimeout t channel mi s) = .next t') : t'.core 4227617 = s.core 4227617 := by
  have hm : inMask 4227617 4227617 = true := rfl
  simp only [execMkaLifeTimeout, Host.Outcome.next.injEq] at h
  subst h
  simp only [↓mkaLifeTimeout_core (sb hm rfl), ↓State.begin_core (sb hm rfl)]

theorem clearMacsec_core {R : Nat} (hm : inMask 0 R = true) (a1 : Session) (s : State) : (clearMacsec a1 s).2.core R = s.core R := by
  unfold clearMacsec
  repeat' (first | with_reducible rfl | rw [core_foldl] | intro _ | split | simp only [↓State.setBlob_core (sb hm rfl)])

theorem execClearMacsecCounters_core (t : Nat) (who : Who) (s : State) (t' : State) (h : (execClearMacsecCounters t who s) = .next t') : t'.core 4722704 = s.core 4722704 := by
  have hm : inMask 4722704 4722704 = true := rfl
  simp only [execClearMacsecCounters, cmdRow, Host.Outcome.next.injEq] at h
  subst h
  repeat' (first | with_reducible rfl | rw [core_foldl] | rw [serve_core (sb hm rfl)] | rw [writeCmd_core (sb hm rfl)] | intro _ | split | simp only [↓clearMacsec_core (sb hm rfl), ↓State.begin_core (sb hm rfl)])

theorem State.mapJob_core {R : Nat} (hm : inMask 32768 R = true) (s : State) (j : Job) (f : Job → Job) : (State.mapJob s j f).core R = s.core R := by
  simp only [State.mapJob, ↓core_cipher (sb hm rfl)]

theorem State.releaseJobs_core {R : Nat} (hm : inMask 32768 R = true) (s : State) (c : Nat) : (State.releaseJobs s c).core R = s.core R := by
  unfold State.releaseJobs
  repeat' (first | with_reducible rfl | rw [core_foldl] | intro _ | split | simp only [↓State.emit_core (sb hm rfl), ↓core_cipher (sb hm rfl)])

theorem State.endJob_core {R : Nat} (hm : inMask 32784 R = true) (s : State) (j : Job) (status : Nat) (output : Bytes) : (State.endJob s j status output).core R = s.core R := by
  unfold State.endJob
  repeat' (first | with_reducible rfl | split | simp only [↓State.inc64_core (sb hm rfl), ↓State.inc32_core (sb hm rfl), ↓State.updSession_core (sb hm rfl), ↓State.releaseJobs_core (sb hm rfl), ↓State.mapJob_core (sb hm rfl), ↓core_cipher (sb hm rfl)])

theorem State.cacheDerived_core {R : Nat} (hm : inMask 32768 R = true) (s : State) (d : Nat) (e : DerivedKey) : (State.cacheDerived s d e).core R = s.core R := by
  simp only [State.cacheDerived, ↓core_cipher (sb hm rfl)]

theorem State.latchKey_core {R : Nat} (hm : inMask 32768 R = true) (s : State) (j : Job) : (State.latchKey s j).2.core R = s.core R := by
  unfold State.latchKey
  repeat' (first | with_reducible rfl | split | simp only [↓State.cacheDerived_core (sb hm rfl)])

theorem State.gcmStart_core {R : Nat} (hm : inMask 32800 R = true) (s : State) (j : Job) : (State.gcmStart s j).2.core R = s.core R := by
  unfold State.gcmStart
  repeat' (first | with_reducible rfl | split | simp only [↓State.logBytes_core (sb hm rfl), ↓core_cipher (sb hm rfl), ↓core_ite, ite_self])

theorem State.startJob_core {R : Nat} (hm : inMask 49200 R = true) (s : State) (j : Job) : (State.startJob s j).core R = s.core R := by
  unfold State.startJob
  repeat' (first | with_reducible rfl | split | simp only [↓State.endJob_core (sb hm rfl), ↓keyRequest_core (sb hm rfl), ↓State.gcmStart_core (sb hm rfl), ↓State.latchKey_core (sb hm rfl), ↓State.mapJob_core (sb hm rfl)])

theorem State.drrPay_core {R : Nat} (hm : inMask 32768 R = true) (s : State) (j : Job) : (State.drrPay s j).core R = s.core R := by
  simp only [State.drrPay, ↓core_cipher (sb hm rfl)]

theorem State.engineStep_core {R : Nat} (hm : inMask 49200 R = true) (s : State) (d : Nat) : (State.engineStep s d).core R = s.core R := by
  unfold State.engineStep
  repeat' (first | with_reducible rfl | split | simp only [↓State.startJob_core (sb hm rfl), ↓State.drrPay_core (sb hm rfl), ↓State.mapJob_core (sb hm rfl)])

theorem State.engineRun_core {R : Nat} (hm : inMask 49200 R = true) (n d : Nat) (s : State) : (State.engineRun n d s).core R = s.core R := by
  induction n generalizing s with
  | zero => rfl
  | succ n ih =>
    unfold State.engineRun
    rw [ih, State.engineStep_core (sb hm rfl)]






theorem State.engine__core {R : Nat} (hm : inMask 49200 R = true) (s : State) (d : Nat) : (State.engine_ s d).core R = s.core R := by
  simp only [State.engine_, ↓State.engineRun_core (sb hm rfl)]

theorem State.takeJob_core {R : Nat} (hm : inMask 49200 R = true) (s : State) (j : Job) : (State.takeJob s j).core R = s.core R := by
  simp only [State.takeJob, ↓State.engine__core (sb hm rfl), ↓core_cipher (sb hm rfl)]

theorem jobFetch_core {R : Nat} (hm : inMask 49200 R = true) (c : Nat) (desc : Bytes) (data : Bytes) (readOk : Bool) (s : State) : (jobFetch c desc data readOk s).core R = s.core R := by
  unfold jobFetch
  repeat' (first | with_reducible rfl | split | simp only [↓State.emit_core (sb hm rfl), ↓State.takeJob_core (sb hm rfl), ↓State.engine__core (sb hm rfl), ↓State.endJob_core (sb hm rfl), ↓core_cipher (sb hm rfl), ↓core_ite, ite_self])

theorem execLookasideJobFetch_core (t : Nat) (cls : Nat) (desc : Bytes) (data : Bytes) (readOk : Bool) (s : State) (t' : State) (h : (execLookasideJobFetch t cls desc data readOk s) = .next t') : t'.core 4243504 = s.core 4243504 := by
  have hm : inMask 4243504 4243504 = true := rfl
  simp only [execLookasideJobFetch, Host.Outcome.next.injEq] at h
  subst h
  simp only [↓jobFetch_core (sb hm rfl), ↓State.begin_core (sb hm rfl)]

theorem jobDone_core {R : Nat} (hm : inMask 49200 R = true) (d : Nat) (busOk : Bool) (dest : Bytes) (s : State) : (jobDone d busOk dest s).core R = s.core R := by
  unfold jobDone
  repeat' (first | with_reducible rfl | split | simp only [↓State.engine__core (sb hm rfl), ↓State.endJob_core (sb hm rfl)])

theorem execLookasideJobDone_core (t : Nat) (die : Nat) (busOk : Bool) (dest : Bytes) (s : State) (t' : State) (h : (execLookasideJobDone t die busOk dest s) = .next t') : t'.core 4243504 = s.core 4243504 := by
  have hm : inMask 4243504 4243504 = true := rfl
  simp only [execLookasideJobDone, Host.Outcome.next.injEq] at h
  subst h
  simp only [↓jobDone_core (sb hm rfl), ↓State.begin_core (sb hm rfl)]

theorem State.enginesGo_core {R : Nat} (hm : inMask 49200 R = true) (s : State) : (State.enginesGo s).core R = s.core R := by
  unfold State.enginesGo
  repeat' (first | with_reducible rfl | rw [core_foldl] | intro _ | split | simp only [↓State.engine__core (sb hm rfl)])

theorem slotWriteGo_core {R : Nat} (hm : inMask 49200 R = true) (b : Bytes) (stop : Nat) (x : Session) (s : State) : (slotWriteGo b stop x s).2.core R = s.core R := by
  simp only [slotWriteGo, ↓slotWrite_core (sb hm rfl), ↓State.enginesGo_core (sb hm rfl)]

theorem slotRecordsWrite_core {R : Nat} (hm : inMask 49200 R = true) (sess : Nat) (data : Bytes) (stop : Nat) (a1 : Session) (a2 : State) : (slotRecordsWrite sess data stop a1 a2).2.core R = a2.core R := by
  unfold slotRecordsWrite
  repeat' (first | with_reducible rfl | rw [core_foldl] | rw [writeWin_core (sb hm rfl)] | intro _ | split | simp only [↓slotWriteGo_core (sb hm rfl)])

theorem execSlotRecordsWrite_core (t : Nat) (who : Who) (data : Bytes) (stop : Nat) (s : State) (t' : State) (h : (execSlotRecordsWrite t who data stop s) = .next t') : t'.core 4771888 = s.core 4771888 := by
  have hm : inMask 4771888 4771888 = true := rfl
  simp only [execSlotRecordsWrite, Host.Outcome.next.injEq] at h
  subst h
  repeat' (first | with_reducible rfl | rw [core_foldl] | rw [serve_core (sb hm rfl)] | intro _ | split | simp only [↓slotRecordsWrite_core (sb hm rfl), ↓State.begin_core (sb hm rfl)])

theorem importGo_core {R : Nat} (hm : inMask 49200 R = true) (b : Bytes) (stop : Nat) (x : Session) (s : State) : (importGo b stop x s).2.core R = s.core R := by
  simp only [importGo, ↓importKeyAct_core (sb hm rfl), ↓State.enginesGo_core (sb hm rfl)]

theorem execKeyImport_core (t : Nat) (who : Who) (data : Bytes) (stop : Nat) (s : State) (t' : State) (h : (execKeyImport t who data stop s) = .next t') : t'.core 4771888 = s.core 4771888 := by
  have hm : inMask 4771888 4771888 = true := rfl
  simp only [execKeyImport, domRow, Host.Outcome.next.injEq] at h
  subst h
  repeat' (first | with_reducible rfl | rw [core_foldl] | rw [serve_core (sb hm rfl)] | rw [writeDom_core (sb hm rfl)] | intro _ | split | simp only [↓importGo_core (sb hm rfl), ↓State.begin_core (sb hm rfl)])

theorem execKeyDelivered_core (t : Nat) (die : Nat) (slot : Nat) (s : State) (t' : State) (h : (execKeyDelivered t die slot s) = .next t') : t'.core 4243504 = s.core 4243504 := by
  have hm : inMask 4243504 4243504 = true := rfl
  simp only [execKeyDelivered, Host.Outcome.next.injEq] at h
  subst h
  simp only [↓State.engine__core (sb hm rfl), ↓keyDelivered_core (sb hm rfl), ↓State.begin_core (sb hm rfl)]

theorem abortJobAct_core {R : Nat} (hm : inMask 49200 R = true) (x : Session) (s : State) : (abortJobAct x s).2.core R = s.core R := by
  unfold abortJobAct
  repeat' (first | with_reducible rfl | split | simp only [↓State.countDenial_core (sb hm rfl), ↓State.engine__core (sb hm rfl), ↓State.endJob_core (sb hm rfl)])

theorem execAbortJob_core (t : Nat) (who : Who) (s : State) (t' : State) (h : (execAbortJob t who s) = .next t') : t'.core 4771888 = s.core 4771888 := by
  have hm : inMask 4771888 4771888 = true := rfl
  simp only [execAbortJob, cmdRow, Host.Outcome.next.injEq] at h
  subst h
  repeat' (first | with_reducible rfl | rw [core_foldl] | rw [serve_core (sb hm rfl)] | rw [writeCmd_core (sb hm rfl)] | intro _ | split | simp only [↓abortJobAct_core (sb hm rfl), ↓State.begin_core (sb hm rfl)])

theorem spewardJobAct_core {R : Nat} (hm : inMask 49200 R = true) (sess : Nat) (b : Bytes) (x : Session) (s : State) : (spewardJobAct sess b x s).2.core R = s.core R := by
  unfold spewardJobAct
  repeat' (first | with_reducible rfl | split | simp only [↓State.updSession_core (sb hm rfl), ↓State.takeJob_core (sb hm rfl)])

theorem execSpewardJob_core (t : Nat) (who : Who) (data : Bytes) (s : State) (t' : State) (h : (execSpewardJob t who data s) = .next t') : t'.core 4771888 = s.core 4771888 := by
  have hm : inMask 4771888 4771888 = true := rfl
  simp only [execSpewardJob, domRow, Host.Outcome.next.injEq] at h
  subst h
  repeat' (first | with_reducible rfl | rw [core_foldl] | rw [serve_core (sb hm rfl)] | rw [writeDom_core (sb hm rfl)] | intro _ | split | simp only [↓spewardJobAct_core (sb hm rfl), ↓State.begin_core (sb hm rfl)])

theorem State.failJobs_core {R : Nat} (hm : inMask 32784 R = true) (s : State) (p : Job → Bool) (status : Nat) : (State.failJobs s p status).core R = s.core R := by
  unfold State.failJobs
  repeat' (first | with_reducible rfl | rw [core_foldl] | intro _ | split | simp only [↓State.endJob_core (sb hm rfl)])

theorem State.drainJobs_core {R : Nat} (hm : inMask 32784 R = true) (s : State) : (State.drainJobs s).core R = s.core R := by
  simp only [State.drainJobs, ↓State.failJobs_core (sb hm rfl)]

theorem State.loseJobs_core {R : Nat} (hm : inMask 32784 R = true) (s : State) : (State.loseJobs s).core R = s.core R := by
  simp only [State.loseJobs, ↓State.failJobs_core (sb hm rfl), ↓core_cipher (sb hm rfl)]

theorem State.tamperJobs_core {R : Nat} (hm : inMask 32784 R = true) (s : State) (respond : Bool) : (State.tamperJobs s respond).core R = s.core R := by
  simp only [State.tamperJobs, ↓State.failJobs_core (sb hm rfl), ↓core_ite, ite_self]

theorem State.refreshLookAside_core {R : Nat} (hm : inMask 0 R = true) (s : State) : (State.refreshLookAside s).core R = s.core R := by
  unfold State.refreshLookAside
  repeat' (first | with_reducible rfl | rw [core_foldl] | intro _ | split | simp only [↓State.setN_core (sb hm rfl)])

theorem State.wipeSecure_core {R : Nat} (hm : inMask 57344 R = true) (s : State) (d : Nat) : (State.wipeSecure s d).core R = s.core R := by
  unfold State.wipeSecure
  repeat' (first | with_reducible rfl | split | simp only [↓State.setN_core (sb hm rfl), ↓core_cairn (sb hm rfl), ↓core_mem_cairn_cipher (sb hm rfl)])

theorem patrolScrub_core {R : Nat} (hm : inMask 0 R = true) (d : Nat) (corrected : Nat) (s : State) : (patrolScrub d corrected s).core R = s.core R := by
  simp only [patrolScrub, ↓State.addTo_core (sb hm rfl), ↓core_ite, ite_self]

theorem execPatrolScrub_core (t : Nat) (die : Nat) (corrected : Nat) (s : State) (t' : State) (h : (execPatrolScrub t die corrected s) = .next t') : t'.core 4194304 = s.core 4194304 := by
  have hm : inMask 4194304 4194304 = true := rfl
  simp only [execPatrolScrub, Host.Outcome.next.injEq] at h
  subst h
  simp only [↓patrolScrub_core (sb hm rfl), ↓State.begin_core (sb hm rfl)]

theorem State.openHole_core {R : Nat} (hm : inMask 8192 R = true) (s : State) (d : Nat) (item : Nat) : (State.openHole s d item).core R = s.core R := by
  simp only [State.openHole, ↓core_mem (sb hm rfl)]

theorem State.dropFrame_core {R : Nat} (hm : inMask 512 R = true) (s : State) (r : Nat) (ep : Nat) (ts : Nat) : (State.dropFrame s r ep ts).core R = s.core R := by
  unfold State.dropFrame
  repeat' (first | with_reducible rfl | rw [core_foldl] | intro _ | split | simp only [↓State.countDrained_core (sb hm rfl), ↓State.updLane_core (sb hm rfl), ↓State.stompLane_core (sb hm rfl), ↓core_ite, ite_self])

theorem State.eccOutcome_core {R : Nat} (hm : inMask 524272 R = true) (s : State) (d : Nat) (h : EccHit) : (State.eccOutcome s d h).core R = s.core R := by
  unfold State.eccOutcome
  repeat' (first | with_reducible rfl | split | simp only [↓State.dropFrame_core (sb hm rfl), ↓State.restartCluster_core (sb hm rfl), ↓State.openHole_core (sb hm rfl), ↓State.refreshFdb_core (sb hm rfl), ↓State.delFdb_core (sb hm rfl), ↓State.withConns_core (sb hm rfl), ↓fatalWire_core (sb hm rfl), ↓State.failJobs_core (sb hm rfl), ↓State.wipeSecure_core (sb hm rfl), ↓State.engine__core (sb hm rfl), ↓State.reloadCaches_core (sb hm rfl), ↓State.setMailbox_core (sb hm rfl), ↓State.clearCells_core (sb hm rfl), ↓State.setInput_core (sb hm rfl), ↓core_fwd (sb hm rfl), ↓core_access (sb hm rfl), ↓core_audio (sb hm rfl), ↓core_ite, ite_self])

theorem eccUncorrectable_core {R : Nat} (hm : inMask 524272 R = true) (d : Nat) (h : EccHit) (bank : Nat) (word : Nat) (s : State) : (eccUncorrectable d h bank word s).core R = s.core R := by
  simp only [eccUncorrectable, ↓State.inc32_core (sb hm rfl), ↓State.logEv_core (sb hm rfl), ↓State.eccOutcome_core (sb hm rfl), ↓core_ite, ite_self]

theorem execEccUncorrectable_core (t : Nat) (die : Nat) (hit : EccHit) (bank : Nat) (word : Nat) (s : State) (t' : State) (h : (execEccUncorrectable t die hit bank word s) = .next t') : t'.core 4718576 = s.core 4718576 := by
  have hm : inMask 4718576 4718576 = true := rfl
  simp only [execEccUncorrectable, Host.Outcome.next.injEq] at h
  subst h
  simp only [↓eccUncorrectable_core (sb hm rfl), ↓State.begin_core (sb hm rfl)]

theorem State.raiseBanks_core {R : Nat} (hm : inMask 72688 R = true) (s : State) (d : Nat) (failed : Nat) : (State.raiseBanks s d failed).core R = s.core R := by
  unfold State.raiseBanks
  repeat' (first | with_reducible rfl | rw [core_foldl] | intro _ | split | simp only [↓State.regionFault_core (sb hm rfl), ↓State.dieFault_core (sb hm rfl)])

theorem State.clearMemory_core {R : Nat} (hm : inMask 196096 R = true) (s : State) (d : Nat) (code : Nat) : (State.clearMemory s d code).core R = s.core R := by
  unfold State.clearMemory
  repeat' (first | with_reducible rfl | rw [core_foldl] | intro _ | split | simp only [↓State.drainLane_core (sb hm rfl), ↓State.wipeSecure_core (sb hm rfl), ↓State.setMailbox_core (sb hm rfl), ↓State.refreshFdb_core (sb hm rfl), ↓State.setEdgeRam_core (sb hm rfl), ↓State.withConns_core (sb hm rfl), ↓core_fwd (sb hm rfl), ↓core_audio (sb hm rfl)])

theorem State.marchFault_core {R : Nat} (hm : inMask 8192 R = true) (s : State) : (State.marchFault s).core R = s.core R := by
  unfold State.marchFault
  repeat' (first | with_reducible rfl | split | simp only [↓State.setN_core (sb hm rfl), ↓core_mem (sb hm rfl), ↓core_ite, ite_self])

theorem marchStart_core {R : Nat} (hm : inMask 8192 R = true) (a1 : Session) (s : State) : (marchStart a1 s).2.core R = s.core R := by
  unfold marchStart
  repeat' (first | with_reducible rfl | split | simp only [↓State.setN_core (sb hm rfl), ↓core_mem (sb hm rfl)])

theorem execMarchStart_core (t : Nat) (who : Who) (s : State) (t' : State) (h : (execMarchStart t who s) = .next t') : t'.core 4730896 = s.core 4730896 := by
  have hm : inMask 4730896 4730896 = true := rfl
  simp only [execMarchStart, cmdRow, Host.Outcome.next.injEq] at h
  subst h
  repeat' (first | with_reducible rfl | rw [core_foldl] | rw [serve_core (sb hm rfl)] | rw [writeCmd_core (sb hm rfl)] | intro _ | split | simp only [↓marchStart_core (sb hm rfl), ↓State.begin_core (sb hm rfl)])

theorem marchAbort_core {R : Nat} (hm : inMask 262128 R = true) (a1 : Session) (s : State) : (marchAbort a1 s).2.core R = s.core R := by
  unfold marchAbort
  repeat' (first | with_reducible rfl | rw [core_foldl] | intro _ | split | simp only [↓State.setN_core (sb hm rfl), ↓State.clearMemory_core (sb hm rfl), ↓State.raiseBanks_core (sb hm rfl), ↓core_mem (sb hm rfl)])

theorem execMarchAbort_core (t : Nat) (who : Who) (s : State) (t' : State) (h : (execMarchAbort t who s) = .next t') : t'.core 4980720 = s.core 4980720 := by
  have hm : inMask 4980720 4980720 = true := rfl
  simp only [execMarchAbort, cmdRow, Host.Outcome.next.injEq] at h
  subst h
  repeat' (first | with_reducible rfl | rw [core_foldl] | rw [serve_core (sb hm rfl)] | rw [writeCmd_core (sb hm rfl)] | intro _ | split | simp only [↓marchAbort_core (sb hm rfl), ↓State.begin_core (sb hm rfl)])

theorem State.repairBank_core {R : Nat} (hm : inMask 8192 R = true) (s : State) (d : Nat) (code : Nat) (bank : Nat) (failing : Nat) : (State.repairBank s d code bank failing).core R = s.core R := by
  simp only [State.repairBank, ↓State.addTo_core (sb hm rfl), ↓State.setFlag_core (sb hm rfl), ↓core_mem (sb hm rfl), ↓core_ite, ite_self]

theorem marchBankDone_core {R : Nat} (hm : inMask 262128 R = true) (failing : Nat) (s : State) : (marchBankDone failing s).core R = s.core R := by
  unfold marchBankDone
  repeat' (first | with_reducible rfl | split | simp only [↓State.marchFault_core (sb hm rfl), ↓State.repairBank_core (sb hm rfl), ↓State.addTo_core (sb hm rfl), ↓State.clearMemory_core (sb hm rfl), ↓State.raiseBanks_core (sb hm rfl), ↓core_mem (sb hm rfl)])

theorem execMarchBankDone_core (t : Nat) (failing : Nat) (s : State) (t' : State) (h : (execMarchBankDone t failing s) = .next t') : t'.core 4456432 = s.core 4456432 := by
  have hm : inMask 4456432 4456432 = true := rfl
  simp only [execMarchBankDone, Host.Outcome.next.injEq] at h
  subst h
  simp only [↓marchBankDone_core (sb hm rfl), ↓State.begin_core (sb hm rfl)]

theorem marchDone_core {R : Nat} (hm : inMask 80880 R = true) (s : State) : (marchDone s).core R = s.core R := by
  unfold marchDone
  repeat' (first | with_reducible rfl | split | simp only [↓State.marchFault_core (sb hm rfl), ↓State.setN_core (sb hm rfl), ↓State.raiseBanks_core (sb hm rfl), ↓core_mem (sb hm rfl)])

theorem execMarchDone_core (t : Nat) (s : State) (t' : State) (h : (execMarchDone t s) = .next t') : t'.core 4275184 = s.core 4275184 := by
  have hm : inMask 4275184 4275184 = true := rfl
  simp only [execMarchDone, Host.Outcome.next.injEq] at h
  subst h
  simp only [↓marchDone_core (sb hm rfl), ↓State.begin_core (sb hm rfl)]

theorem State.leaveQuarantine_core {R : Nat} (hm : inMask 524864 R = true) (s : State) : (State.leaveQuarantine s).core R = s.core R := by
  unfold State.leaveQuarantine
  repeat' (first | with_reducible rfl | rw [core_foldl] | intro _ | split | simp only [↓State.ringSend_core (sb hm rfl), ↓State.emit_core (sb hm rfl), ↓State.redeclare_core (sb hm rfl), ↓core_pkg (sb hm rfl), ↓core_ite])

theorem State.enterQuarantine_core {R : Nat} (hm : inMask 1600 R = true) (s : State) (dies : Nat) : (State.enterQuarantine s dies).core R = s.core R := by
  unfold State.enterQuarantine
  repeat' (first | with_reducible rfl | rw [core_foldl] | intro _ | split | simp only [↓State.drainLane_core (sb hm rfl), ↓core_pkg (sb hm rfl)])

theorem State.powerDown_core {R : Nat} (hm : inMask 458352 R = true) (s : State) (ctrl : Bool) : (State.powerDown s ctrl).core R = s.core R := by
  unfold State.powerDown
  repeat' (first | with_reducible rfl | rw [core_foldl] | intro _ | split | simp only [↓State.interruptTests_core (sb hm rfl), ↓State.stopLists_core (sb hm rfl), ↓State.setN_core (sb hm rfl), ↓State.drainLane_core (sb hm rfl), ↓core_lanes (sb hm rfl), ↓core_mem (sb hm rfl), ↓core_access_pkg_fwd_fw_bridge_cairn_cipher_audio_edge (sb hm rfl)])

theorem State.setMember_core {R : Nat} (hm : inMask 0 R = true) (s : State) (a : Nat) (b : Bool) : (State.setMember s a b).core R = s.core R := by
  simp only [State.setMember, ↓State.setBlob_core (sb hm rfl), ↓core_ite, ite_self]

theorem State.relayRing_core {R : Nat} (hm : inMask 524800 R = true) (s : State) (lane : Nat) (m : RingMsg) : (State.relayRing s lane m).core R = s.core R := by
  simp only [State.relayRing, ↓State.ringSend_core (sb hm rfl)]

theorem State.noteConflict_core {R : Nat} (hm : inMask 96 R = true) (s : State) : (State.noteConflict s).core R = s.core R := by
  simp only [State.noteConflict, ↓State.logLead_core (sb hm rfl), ↓core_pkg (sb hm rfl), ↓core_ite, ite_self]

theorem ringFrameIn_core {R : Nat} (hm : inMask 96 R = true) (lane : Nat) (b : Bytes) (ty : Nat) (s : State) (act : RingMsg → State → State) (hact : ∀ y0 y1, (act y0 y1).core R = y1.core R) : (ringFrameIn lane b ty s act).core R = s.core R := by
  unfold ringFrameIn
  repeat' (first | with_reducible rfl | split | simp only [↓hact, ↓State.noteConflict_core (sb hm rfl), ↓State.setMember_core (sb hm rfl)])

theorem execJoin_core (t : Nat) (lane : Nat) (frame : Bytes) (s : State) (t' : State) (h : (execJoin t lane frame s) = .next t') : t'.core 4719200 = s.core 4719200 := by
  have hm : inMask 4719200 4719200 = true := rfl
  simp only [execJoin, Host.Outcome.next.injEq] at h
  subst h
  repeat' (first | with_reducible rfl | rw [core_foldl] | rw [ringFrameIn_core (sb hm rfl)] | intro _ | split | simp only [↓State.begin_core (sb hm rfl), ↓State.relayRing_core (sb hm rfl)])

theorem execLeave_core (t : Nat) (lane : Nat) (frame : Bytes) (s : State) (t' : State) (h : (execLeave t lane frame s) = .next t') : t'.core 4719200 = s.core 4719200 := by
  have hm : inMask 4719200 4719200 = true := rfl
  simp only [execLeave, Host.Outcome.next.injEq] at h
  subst h
  repeat' (first | with_reducible rfl | rw [core_foldl] | rw [ringFrameIn_core (sb hm rfl)] | intro _ | split | simp only [↓State.begin_core (sb hm rfl), ↓State.setMember_core (sb hm rfl), ↓State.relayRing_core (sb hm rfl)])

theorem State.roundEnds_core {R : Nat} (hm : inMask 524800 R = true) (s : State) (r : RoundSt) (m : RingMsg) : (State.roundEnds s r m).core R = s.core R := by
  simp only [State.roundEnds, ↓State.setBlob_core (sb hm rfl), ↓State.setN_core (sb hm rfl), ↓State.setRound_core (sb hm rfl), ↓State.ringSend_core (sb hm rfl), ↓core_power (sb hm rfl), ↓core_ite, ite_self]

theorem State.sendToken_core {R : Nat} (hm : inMask 524800 R = true) (s : State) (m : RingMsg) : (State.sendToken s m).core R = s.core R := by
  unfold State.sendToken
  repeat' (first | with_reducible rfl | split | simp only [↓State.roundEnds_core (sb hm rfl), ↓State.ringSend_core (sb hm rfl), ↓core_power (sb hm rfl), ↓core_ite, ite_self])

theorem sleepRequestAct_core {R : Nat} (hm : inMask 524800 R = true) (a1 : Session) (s : State) : (sleepRequestAct a1 s).2.core R = s.core R := by
  unfold sleepRequestAct
  repeat' (first | with_reducible rfl | split | simp only [↓State.setN_core (sb hm rfl), ↓State.setRound_core (sb hm rfl), ↓State.sendToken_core (sb hm rfl)])

theorem execSleepRequest_core (t : Nat) (who : Who) (s : State) (t' : State) (h : (execSleepRequest t who s) = .next t') : t'.core 4723216 = s.core 4723216 := by
  have hm : inMask 4723216 4723216 = true := rfl
  simp only [execSleepRequest, cmdRow, Host.Outcome.next.injEq] at h
  subst h
  repeat' (first | with_reducible rfl | rw [core_foldl] | rw [serve_core (sb hm rfl)] | rw [writeCmd_core (sb hm rfl)] | intro _ | split | simp only [↓sleepRequestAct_core (sb hm rfl), ↓State.begin_core (sb hm rfl)])

theorem State.answerToken_core {R : Nat} (hm : inMask 524800 R = true) (s : State) (m : RingMsg) : (State.answerToken s m).core R = s.core R := by
  simp only [State.answerToken, ↓State.setRound_core (sb hm rfl), ↓State.sendToken_core (sb hm rfl), ↓core_ite, ite_self]

theorem tokenIn_core {R : Nat} (hm : inMask 524800 R = true) (lane : Nat) (m : RingMsg) (s : State) : (tokenIn lane m s).core R = s.core R := by
  unfold tokenIn
  repeat' (first | with_reducible rfl | split | simp only [↓State.relayRing_core (sb hm rfl), ↓State.noteRing_core (sb hm rfl), ↓State.roundEnds_core (sb hm rfl), ↓State.answerToken_core (sb hm rfl), ↓core_power (sb hm rfl), ↓core_ite])

theorem execToken_core (t : Nat) (lane : Nat) (frame : Bytes) (s : State) (t' : State) (h : (execToken t lane frame s) = .next t') : t'.core 4719200 = s.core 4719200 := by
  have hm : inMask 4719200 4719200 = true := rfl
  simp only [execToken, Host.Outcome.next.injEq] at h
  subst h
  repeat' (first | with_reducible rfl | rw [core_foldl] | rw [ringFrameIn_core (sb hm rfl)] | intro _ | split | simp only [↓State.begin_core (sb hm rfl), ↓tokenIn_core (sb hm rfl)])

theorem tokenTimeout_core {R : Nat} (hm : inMask 524800 R = true) (s : State) : (tokenTimeout s).core R = s.core R := by
  unfold tokenTimeout
  repeat' (first | with_reducible rfl | split | simp only [↓State.setMember_core (sb hm rfl), ↓State.roundEnds_core (sb hm rfl), ↓State.ringSend_core (sb hm rfl), ↓core_power (sb hm rfl), ↓core_ite, ite_self])

theorem execTokenTimeout_core (t : Nat) (s : State) (t' : State) (h : (execTokenTimeout t s) = .next t') : t'.core 4719104 = s.core 4719104 := by
  have hm : inMask 4719104 4719104 = true := rfl
  simp only [execTokenTimeout, Host.Outcome.next.injEq] at h
  subst h
  simp only [↓tokenTimeout_core (sb hm rfl), ↓State.begin_core (sb hm rfl)]

theorem roundTimeout_core {R : Nat} (hm : inMask 524288 R = true) (s : State) : (roundTimeout s).core R = s.core R := by
  unfold roundTimeout
  repeat' (first | with_reducible rfl | split | simp only [↓State.setN_core (sb hm rfl), ↓State.setRound_core (sb hm rfl), ↓core_power (sb hm rfl)])

theorem execRoundTimeout_core (t : Nat) (s : State) (t' : State) (h : (execRoundTimeout t s) = .next t') : t'.core 4718592 = s.core 4718592 := by
  have hm : inMask 4718592 4718592 = true := rfl
  simp only [execRoundTimeout, Host.Outcome.next.injEq] at h
  subst h
  simp only [↓roundTimeout_core (sb hm rfl), ↓State.begin_core (sb hm rfl)]

theorem commitIn_core {R : Nat} (hm : inMask 524800 R = true) (lane : Nat) (m : RingMsg) (s : State) : (commitIn lane m s).core R = s.core R := by
  simp only [commitIn, ↓State.relayRing_core (sb hm rfl), ↓State.setN_core (sb hm rfl), ↓State.setRound_core (sb hm rfl), ↓core_ite, ite_self]

theorem execConsentCommit_core (t : Nat) (lane : Nat) (frame : Bytes) (s : State) (t' : State) (h : (execConsentCommit t lane frame s) = .next t') : t'.core 4719200 = s.core 4719200 := by
  have hm : inMask 4719200 4719200 = true := rfl
  simp only [execConsentCommit, Host.Outcome.next.injEq] at h
  subst h
  repeat' (first | with_reducible rfl | rw [core_foldl] | rw [ringFrameIn_core (sb hm rfl)] | intro _ | split | simp only [↓State.begin_core (sb hm rfl), ↓commitIn_core (sb hm rfl)])

theorem commitRepeat_core {R : Nat} (hm : inMask 524800 R = true) (s : State) : (commitRepeat s).core R = s.core R := by
  unfold commitRepeat
  repeat' (first | with_reducible rfl | split | simp only [↓State.ringSend_core (sb hm rfl), ↓core_power (sb hm rfl)])

theorem execCommitRepeat_core (t : Nat) (s : State) (t' : State) (h : (execCommitRepeat t s) = .next t') : t'.core 4719104 = s.core 4719104 := by
  have hm : inMask 4719104 4719104 = true := rfl
  simp only [execCommitRepeat, Host.Outcome.next.injEq] at h
  subst h
  simp only [↓commitRepeat_core (sb hm rfl), ↓State.begin_core (sb hm rfl)]

theorem cancelIn_core {R : Nat} (hm : inMask 524800 R = true) (lane : Nat) (m : RingMsg) (s : State) : (cancelIn lane m s).core R = s.core R := by
  unfold cancelIn
  repeat' (first | with_reducible rfl | split | simp only [↓State.relayRing_core (sb hm rfl), ↓State.setN_core (sb hm rfl), ↓State.setRound_core (sb hm rfl), ↓core_power (sb hm rfl)])

theorem execCancel_core (t : Nat) (lane : Nat) (frame : Bytes) (s : State) (t' : State) (h : (execCancel t lane frame s) = .next t') : t'.core 4719200 = s.core 4719200 := by
  have hm : inMask 4719200 4719200 = true := rfl
  simp only [execCancel, Host.Outcome.next.injEq] at h
  subst h
  repeat' (first | with_reducible rfl | rw [core_foldl] | rw [ringFrameIn_core (sb hm rfl)] | intro _ | split | simp only [↓State.begin_core (sb hm rfl), ↓cancelIn_core (sb hm rfl)])

theorem State.enterSleep_core {R : Nat} (hm : inMask 982640 R = true) (s : State) : (State.enterSleep s).core R = s.core R := by
  unfold State.enterSleep
  repeat' (first | with_reducible rfl | rw [core_foldl] | intro _ | split | simp only [↓State.enterQuarantine_core (sb hm rfl), ↓State.emit_core (sb hm rfl), ↓State.setN_core (sb hm rfl), ↓State.powerDown_core (sb hm rfl), ↓core_power (sb hm rfl), ↓core_ite, ite_self])

theorem sleepEntry_core {R : Nat} (hm : inMask 982640 R = true) (s : State) : (sleepEntry s).core R = s.core R := by
  unfold sleepEntry
  repeat' (first | with_reducible rfl | split | simp only [↓State.setN_core (sb hm rfl), ↓State.setRound_core (sb hm rfl), ↓State.forwardWake_core (sb hm rfl), ↓State.logEv_core (sb hm rfl), ↓State.enterSleep_core (sb hm rfl), ↓core_power (sb hm rfl)])

theorem execSleepEntry_core (t : Nat) (s : State) (t' : State) (h : (execSleepEntry t s) = .next t') : t'.core 5176944 = s.core 5176944 := by
  have hm : inMask 5176944 5176944 = true := rfl
  simp only [execSleepEntry, Host.Outcome.next.injEq] at h
  subst h
  simp only [↓sleepEntry_core (sb hm rfl), ↓State.begin_core (sb hm rfl)]

theorem falseWake_core {R : Nat} (hm : inMask 982640 R = true) (s : State) : (falseWake s).core R = s.core R := by
  unfold falseWake
  repeat' (first | with_reducible rfl | split | simp only [↓State.logLead_core (sb hm rfl), ↓State.inc32_core (sb hm rfl), ↓State.enterSleep_core (sb hm rfl)])

theorem execFalseWake_core (t : Nat) (s : State) (t' : State) (h : (execFalseWake t s) = .next t') : t'.core 5176944 = s.core 5176944 := by
  have hm : inMask 5176944 5176944 = true := rfl
  simp only [execFalseWake, Host.Outcome.next.injEq] at h
  subst h
  simp only [↓falseWake_core (sb hm rfl), ↓State.begin_core (sb hm rfl)]

theorem standbyEnter_core {R : Nat} (hm : inMask 458352 R = true) (a1 : Session) (s : State) : (standbyEnter a1 s).2.core R = s.core R := by
  unfold standbyEnter
  repeat' (first | with_reducible rfl | split | simp only [↓State.setN_core (sb hm rfl), ↓State.powerDown_core (sb hm rfl), ↓State.enterQuarantine_core (sb hm rfl)])

theorem execStandbyEnter_core (t : Nat) (who : Who) (s : State) (t' : State) (h : (execStandbyEnter t who s) = .next t') : t'.core 5176944 = s.core 5176944 := by
  have hm : inMask 5176944 5176944 = true := rfl
  simp only [execStandbyEnter, cmdRow, Host.Outcome.next.injEq] at h
  subst h
  repeat' (first | with_reducible rfl | rw [core_foldl] | rw [serve_core (sb hm rfl)] | rw [writeCmd_core (sb hm rfl)] | intro _ | split | simp only [↓standbyEnter_core (sb hm rfl), ↓State.begin_core (sb hm rfl)])

theorem detachAct_core {R : Nat} (hm : inMask 525120 R = true) (a1 : Session) (s : State) : (detachAct a1 s).2.core R = s.core R := by
  unfold detachAct
  repeat' (first | with_reducible rfl | rw [core_foldl] | intro _ | split | simp only [↓State.ringSend_core (sb hm rfl), ↓State.emit_core (sb hm rfl), ↓State.setN_core (sb hm rfl), ↓core_pkg_plan_power (sb hm rfl)])

theorem execDetachCommand_core (t : Nat) (who : Who) (s : State) (t' : State) (h : (execDetachCommand t who s) = .next t') : t'.core 4723536 = s.core 4723536 := by
  have hm : inMask 4723536 4723536 = true := rfl
  simp only [execDetachCommand, cmdRow, Host.Outcome.next.injEq] at h
  subst h
  repeat' (first | with_reducible rfl | rw [core_foldl] | rw [serve_core (sb hm rfl)] | rw [writeCmd_core (sb hm rfl)] | intro _ | split | simp only [↓detachAct_core (sb hm rfl), ↓State.begin_core (sb hm rfl)])

theorem detachEnd_core {R : Nat} (hm : inMask 132608 R = true) (s : State) : (detachEnd s).core R = s.core R := by
  unfold detachEnd
  repeat' (first | with_reducible rfl | rw [core_foldl] | intro _ | split | simp only [↓State.drainLane_core (sb hm rfl), ↓State.setN_core (sb hm rfl), ↓State.emit_core (sb hm rfl), ↓core_audio (sb hm rfl), ↓core_ite])

theorem execDetachDrainEnd_core (t : Nat) (s : State) (t' : State) (h : (execDetachDrainEnd t s) = .next t') : t'.core 4326912 = s.core 4326912 := by
  have hm : inMask 4326912 4326912 = true := rfl
  simp only [execDetachDrainEnd, Host.Outcome.next.injEq] at h
  subst h
  simp only [↓detachEnd_core (sb hm rfl), ↓State.begin_core (sb hm rfl)]

theorem attestNonceAct_core {R : Nat} (hm : inMask 16 R = true) (sess : Nat) (b : Bytes) (a1 : Session) (s : State) : (attestNonceAct sess b a1 s).2.core R = s.core R := by
  simp only [attestNonceAct, ↓State.updSession_core (sb hm rfl)]

theorem execAttestationNonce_core (t : Nat) (who : Who) (nonce : Bytes) (s : State) (t' : State) (h : (execAttestationNonce t who nonce s) = .next t') : t'.core 4722704 = s.core 4722704 := by
  have hm : inMask 4722704 4722704 = true := rfl
  simp only [execAttestationNonce, domRow, Host.Outcome.next.injEq] at h
  subst h
  repeat' (first | with_reducible rfl | rw [core_foldl] | rw [serve_core (sb hm rfl)] | rw [writeDom_core (sb hm rfl)] | intro _ | split | simp only [↓attestNonceAct_core (sb hm rfl), ↓State.begin_core (sb hm rfl)])

theorem attestReady_core {R : Nat} (hm : inMask 16 R = true) (sess : Nat) (s : State) : (attestReady sess s).core R = s.core R := by
  unfold attestReady
  repeat' (first | with_reducible rfl | split | simp only [↓State.updSession_core (sb hm rfl)])

theorem execAttestationReady_core (t : Nat) (sess : Nat) (s : State) (t' : State) (h : (execAttestationReady t sess s) = .next t') : t'.core 4194320 = s.core 4194320 := by
  have hm : inMask 4194320 4194320 = true := rfl
  simp only [execAttestationReady, Host.Outcome.next.injEq] at h
  subst h
  simp only [↓attestReady_core (sb hm rfl), ↓State.begin_core (sb hm rfl)]

theorem State.eraseValues_core {R : Nat} (hm : inMask 57856 R = true) (s : State) : (State.eraseValues s).core R = s.core R := by
  unfold State.eraseValues
  repeat' (first | with_reducible rfl | rw [core_foldl] | intro _ | split | simp only [↓State.wipeSecure_core (sb hm rfl), ↓State.eraseSas_core (sb hm rfl), ↓State.refreshSlots_core (sb hm rfl), ↓core_cairn_cipher (sb hm rfl)])

theorem State.eraseAllKeys_core {R : Nat} (hm : inMask 16384 R = true) (s : State) : (State.eraseAllKeys s).core R = s.core R := by
  simp only [State.eraseAllKeys, ↓State.refreshRoots_core (sb hm rfl), ↓State.refreshSlots_core (sb hm rfl), ↓core_dict_cairn (sb hm rfl)]

theorem State.startTransition_core {R : Nat} (hm : inMask 57856 R = true) (s : State) (to_ : Nat) : (State.startTransition s to_).core R = s.core R := by
  simp only [State.startTransition, ↓State.eraseValues_core (sb hm rfl), ↓State.setN_core (sb hm rfl), ↓State.eraseAllKeys_core (sb hm rfl), ↓core_cairn (sb hm rfl), ↓core_ite, ite_self]

theorem lifeCycleAct_core {R : Nat} (hm : inMask 57856 R = true) (v : Nat) (x : Session) (s : State) : (lifeCycleAct v x s).2.core R = s.core R := by
  unfold lifeCycleAct
  repeat' (first | with_reducible rfl | split | simp only [↓State.countDenial_core (sb hm rfl), ↓State.startTransition_core (sb hm rfl)])

theorem execLifeCycleCommand_core (t : Nat) (who : Who) (v : Nat) (s : State) (t' : State) (h : (execLifeCycleCommand t who v s) = .next t') : t'.core 4780560 = s.core 4780560 := by
  have hm : inMask 4780560 4780560 = true := rfl
  simp only [execLifeCycleCommand, cmdRow, Host.Outcome.next.injEq] at h
  subst h
  repeat' (first | with_reducible rfl | rw [core_foldl] | rw [serve_core (sb hm rfl)] | rw [writeCmd_core (sb hm rfl)] | intro _ | split | simp only [↓lifeCycleAct_core (sb hm rfl), ↓State.begin_core (sb hm rfl)])

theorem lifeCycleDone_core {R : Nat} (hm : inMask 49200 R = true) (s : State) : (lifeCycleDone s).core R = s.core R := by
  unfold lifeCycleDone
  repeat' (first | with_reducible rfl | split | simp only [↓State.logLead_core (sb hm rfl), ↓State.setN_core (sb hm rfl), ↓State.setBlob_core (sb hm rfl), ↓State.enginesGo_core (sb hm rfl), ↓core_cairn (sb hm rfl), ↓core_ite, ite_self])

theorem execLifeCycleDone_core (t : Nat) (s : State) (t' : State) (h : (execLifeCycleDone t s) = .next t') : t'.core 4243504 = s.core 4243504 := by
  have hm : inMask 4243504 4243504 = true := rfl
  simp only [execLifeCycleDone, Host.Outcome.next.injEq] at h
  subst h
  simp only [↓lifeCycleDone_core (sb hm rfl), ↓State.begin_core (sb hm rfl)]

theorem State.fuseRoots_core {R : Nat} (hm : inMask 16384 R = true) (s : State) : (State.fuseRoots s).core R = s.core R := by
  simp only [State.fuseRoots, ↓State.refreshRoots_core (sb hm rfl), ↓core_cairn (sb hm rfl), ↓core_ite, ite_self]

theorem State.tamperRespond_core {R : Nat} (hm : inMask 58944 R = true) (s : State) (policy : Nat) : (State.tamperRespond s policy).core R = s.core R := by
  unfold State.tamperRespond
  repeat' (first | with_reducible rfl | rw [core_foldl] | intro _ | split | simp only [↓State.wipeSecure_core (sb hm rfl), ↓State.eraseSas_core (sb hm rfl), ↓State.setN_core (sb hm rfl), ↓State.enterQuarantine_core (sb hm rfl), ↓core_cipher (sb hm rfl), ↓core_pkg (sb hm rfl), ↓core_ite, ite_self])

theorem tamper_core {R : Nat} (hm : inMask 58992 R = true) (die : Nat) (cls : Nat) (count : Nat) (s : State) : (tamper die cls count s).core R = s.core R := by
  simp only [tamper, ↓State.inc32_core (sb hm rfl), ↓State.setFlag_core (sb hm rfl), ↓State.logLead_core (sb hm rfl), ↓State.fuseRoots_core (sb hm rfl), ↓State.tamperJobs_core (sb hm rfl), ↓State.tamperRespond_core (sb hm rfl), ↓core_cairn (sb hm rfl), ↓core_access_cairn (sb hm rfl), ↓core_ite, ite_self]

theorem execTamper_core (t : Nat) (die : Nat) (cls : Nat) (count : Nat) (s : State) (t' : State) (h : (execTamper t die cls count s) = .next t') : t'.core 4253296 = s.core 4253296 := by
  have hm : inMask 4253296 4253296 = true := rfl
  simp only [execTamper, Host.Outcome.next.injEq] at h
  subst h
  simp only [↓tamper_core (sb hm rfl), ↓State.begin_core (sb hm rfl)]

theorem loopPattern_core {R : Nat} (hm : inMask 58993 R = true) (ok0 : Bool) (ok1 : Bool) (count : Nat) (s : State) : (loopPattern ok0 ok1 count s).core R = s.core R := by
  simp only [loopPattern, ↓State.drawn_core (sb hm rfl), ↓State.emit_core (sb hm rfl), ↓tamper_core (sb hm rfl), ↓core_ite, ite_self]

theorem execTamperLoopPattern_core (t : Nat) (ok0 : Bool) (ok1 : Bool) (count : Nat) (s : State) (t' : State) (h : (execTamperLoopPattern t ok0 ok1 count s) = .next t') : t'.core 4253297 = s.core 4253297 := by
  have hm : inMask 4253297 4253297 = true := rfl
  simp only [execTamperLoopPattern, Host.Outcome.next.injEq] at h
  subst h
  simp only [↓loopPattern_core (sb hm rfl), ↓State.begin_core (sb hm rfl)]

theorem execTamperConditionEnds_core (t : Nat) (cls : Nat) (s : State) (t' : State) (h : (execTamperConditionEnds t cls s) = .next t') : t'.core 4194304 = s.core 4194304 := by
  have hm : inMask 4194304 4194304 = true := rfl
  simp only [execTamperConditionEnds, Host.Outcome.next.injEq] at h
  subst h
  simp only [↓State.setFlag_core (sb hm rfl), ↓State.begin_core (sb hm rfl), ↓core_ite, ite_self]

theorem State.tamperRelease_core {R : Nat} (hm : inMask 49200 R = true) (s : State) (was : Nat) : (State.tamperRelease s was).core R = s.core R := by
  simp only [State.tamperRelease, ↓State.setN_core (sb hm rfl), ↓State.reloadSas_core (sb hm rfl), ↓State.reloadCaches_core (sb hm rfl), ↓State.logLead_core (sb hm rfl), ↓State.enginesGo_core (sb hm rfl)]

theorem tamperClearAct_core {R : Nat} (hm : inMask 574064 R = true) (sess : Nat) (b : Bytes) (a1 : Session) (s : State) : (tamperClearAct sess b a1 s).2.core R = s.core R := by
  unfold tamperClearAct
  repeat' (first | with_reducible rfl | split | simp only [↓State.updSession_core (sb hm rfl), ↓State.tamperRelease_core (sb hm rfl), ↓State.leaveQuarantine_core (sb hm rfl)])

theorem execTamperClear_core (t : Nat) (who : Who) (nonce : Bytes) (s : State) (t' : State) (h : (execTamperClear t who nonce s) = .next t') : t'.core 4772464 = s.core 4772464 := by
  have hm : inMask 4772464 4772464 = true := rfl
  simp only [execTamperClear, domRow, Host.Outcome.next.injEq] at h
  subst h
  repeat' (first | with_reducible rfl | rw [core_foldl] | rw [serve_core (sb hm rfl)] | rw [writeDom_core (sb hm rfl)] | intro _ | split | simp only [↓tamperClearAct_core (sb hm rfl), ↓State.begin_core (sb hm rfl)])

theorem fuseAct_core {R : Nat} (hm : inMask 0 R = true) (a1 : Session) (s : State) : (fuseAct a1 s).2.core R = s.core R := by
  simp only [fuseAct, ↓State.setN_core (sb hm rfl)]

theorem execFuseTamperDestroysRoot_core (t : Nat) (who : Who) (s : State) (t' : State) (h : (execFuseTamperDestroysRoot t who s) = .next t') : t'.core 4722704 = s.core 4722704 := by
  have hm : inMask 4722704 4722704 = true := rfl
  simp only [execFuseTamperDestroysRoot, cmdRow, Host.Outcome.next.injEq] at h
  subst h
  repeat' (first | with_reducible rfl | rw [core_foldl] | rw [serve_core (sb hm rfl)] | rw [writeCmd_core (sb hm rfl)] | intro _ | split | simp only [↓fuseAct_core (sb hm rfl), ↓State.begin_core (sb hm rfl)])

theorem State.setImage_core {R : Nat} (hm : inMask 1048576 R = true) (s : State) (d : Nat) (i : Nat) (b : Bytes) : (State.setImage s d i b).core R = s.core R := by
  simp only [State.setImage, ↓core_update (sb hm rfl)]

theorem State.setBoot_core {R : Nat} (hm : inMask 1048576 R = true) (s : State) (d : Nat) (r : BootRec) : (State.setBoot s d r).core R = s.core R := by
  simp only [State.setBoot, ↓core_update (sb hm rfl)]

theorem State.updBoot_core {R : Nat} (hm : inMask 1048576 R = true) (s : State) (d : Nat) (f : BootRec → BootRec) : (State.updBoot s d f).core R = s.core R := by
  simp only [State.updBoot, ↓State.setBoot_core (sb hm rfl)]

theorem State.allBoot_core {R : Nat} (hm : inMask 1048576 R = true) (s : State) (f : BootRec → BootRec) : (State.allBoot s f).core R = s.core R := by
  unfold State.allBoot
  repeat' (first | with_reducible rfl | rw [core_foldl] | intro _ | split | simp only [↓State.updBoot_core (sb hm rfl)])

theorem State.refreshImages_core {R : Nat} (hm : inMask 0 R = true) (s : State) : (State.refreshImages s).core R = s.core R := by
  unfold State.refreshImages
  repeat' (first | with_reducible rfl | rw [core_foldl] | intro _ | split | simp only [↓State.setN_core (sb hm rfl), ↓State.setBlob_core (sb hm rfl)])

theorem State.setRail_core {R : Nat} (hm : inMask 524288 R = true) (s : State) (i : Nat) (x : RailSt) : (State.setRail s i x).core R = s.core R := by
  simp only [State.setRail, ↓core_power (sb hm rfl)]

theorem State.stageUp_core {R : Nat} (hm : inMask 524288 R = true) (s : State) (old : State) (next : State) (since : Option Nat) : (State.stageUp s old next since).core R = s.core R := by
  simp only [State.stageUp, ↓core_power (sb hm rfl)]

theorem State.resetDies_core {R : Nat} (hm : inMask 4194294 R = true) (s : State) : (State.resetDies s).core R = s.core R := by
  simp only [State.resetDies, ↓State.discardSlots_core (sb hm rfl), ↓core_dict_staged_held_access_logs_pkg_tick_plan_lanes_fwd_fw_bridge_mem_cairn_cipher_time_audio_edge_power_update_diag (sb hm rfl)]

theorem resetAssert_core {R : Nat} (hm : inMask 4194294 R = true) (width : Nat) (s : State) : (resetAssert width s).core R = s.core R := by
  simp only [resetAssert, ↓State.resetDies_core (sb hm rfl), ↓core_ite, ite_self]

theorem execResetAssert_core (t : Nat) (width : Nat) (s : State) (t' : State) (h : (execResetAssert t width s) = .next t') : t'.core 8388598 = s.core 8388598 := by
  have hm : inMask 8388598 8388598 = true := rfl
  simp only [execResetAssert, Host.Outcome.next.injEq] at h
  subst h
  simp only [↓resetAssert_core (sb hm rfl), ↓State.begin_core (sb hm rfl)]

theorem aonLoss_core {R : Nat} (hm : inMask 4194294 R = true) (s : State) : (aonLoss s).core R = s.core R := by
  simp only [aonLoss, ↓State.resetDies_core (sb hm rfl), ↓core_logs_cairn (sb hm rfl)]

theorem execAonPowerLoss_core (t : Nat) (s : State) (t' : State) (h : (execAonPowerLoss t s) = .next t') : t'.core 8388598 = s.core 8388598 := by
  have hm : inMask 8388598 8388598 = true := rfl
  simp only [execAonPowerLoss, Host.Outcome.next.injEq] at h
  subst h
  simp only [↓aonLoss_core (sb hm rfl), ↓State.begin_core (sb hm rfl)]

theorem aonPowerUp_core {R : Nat} (hm : inMask 0 R = true) (s : State) : (aonPowerUp s).core R = s.core R := by
  unfold aonPowerUp
  repeat' (first | with_reducible rfl | rw [core_foldl] | intro _ | split | simp only [↓State.emit_core (sb hm rfl)])

theorem execAonPowerUp_core (t : Nat) (s : State) (t' : State) (h : (execAonPowerUp t s) = .next t') : t'.core 4194304 = s.core 4194304 := by
  have hm : inMask 4194304 4194304 = true := rfl
  simp only [execAonPowerUp, Host.Outcome.next.injEq] at h
  subst h
  simp only [↓aonPowerUp_core (sb hm rfl), ↓State.begin_core (sb hm rfl)]

theorem xtalFail_core {R : Nat} (hm : inMask 0 R = true) (s : State) : (xtalFail s).core R = s.core R := by
  simp only [xtalFail, ↓State.emit_core (sb hm rfl)]

theorem execXtalFail_core (t : Nat) (s : State) (t' : State) (h : (execXtalFail t s) = .next t') : t'.core 4194304 = s.core 4194304 := by
  have hm : inMask 4194304 4194304 = true := rfl
  simp only [execXtalFail, Host.Outcome.next.injEq] at h
  subst h
  simp only [↓xtalFail_core (sb hm rfl), ↓State.begin_core (sb hm rfl)]

theorem State.enterRecovery_core {R : Nat} (hm : inMask 1048672 R = true) (s : State) (reason : Nat) (f : StartFacts) : (State.enterRecovery s reason f).core R = s.core R := by
  simp only [State.enterRecovery, ↓State.setN_core (sb hm rfl), ↓State.logEv_core (sb hm rfl), ↓core_pkg_update (sb hm rfl)]

theorem State.startDies_core {R : Nat} (hm : inMask 1065024 R = true) (s : State) (f : StartFacts) : (State.startDies s f).core R = s.core R := by
  unfold State.startDies
  repeat' (first | with_reducible rfl | rw [core_foldl] | intro _ | split | simp only [↓State.setBoot_core (sb hm rfl), ↓State.setN_core (sb hm rfl), ↓core_pkg_cairn (sb hm rfl)])

theorem State.chooseImage_core {R : Nat} (hm : inMask 1121264 R = true) (s : State) (f : StartFacts) (t' : State) (h : s.chooseImage f = some t') :
    t'.core R = s.core R := by
  unfold State.chooseImage at h
  dsimp only at h
  obtain ⟨i, -, rfl⟩ := Option.map_eq_some_iff.mp h
  rw [State.setN_core (sb hm rfl), core_update (sb hm rfl), core_foldl _ (fun s e => State.dieFault_core (sb hm rfl) ..),
    core_foldl _ (fun s e => State.setImage_core (sb hm rfl) ..), core_foldl _ (fun s e => State.setBoot_core (sb hm rfl) ..), State.setBoot_core (sb hm rfl),
    State.allBoot_core (sb hm rfl)]






theorem State.startMarch_core {R : Nat} (hm : inMask 80880 R = true) (s : State) (rows : SMap Nat) : (State.startMarch s rows).core R = s.core R := by
  unfold State.startMarch
  repeat' (first | with_reducible rfl | rw [core_foldl] | intro _ | split | simp only [↓State.repairBank_core (sb hm rfl), ↓State.regionFault_core (sb hm rfl), ↓State.dieFault_core (sb hm rfl), ↓core_mem (sb hm rfl)])

theorem State.missingDies_core {R : Nat} (hm : inMask 256 R = true) (s : State) : (State.missingDies s).core R = s.core R := by
  unfold State.missingDies
  repeat' (first | with_reducible rfl | rw [core_foldl] | intro _ | split | simp only [↓State.recordFault_core (sb hm rfl), ↓State.activate_core (sb hm rfl), ↓core_ite, ite_self])

theorem State.loadPlan_core {R : Nat} (hm : inMask 1099616 R = true) (s : State) (f : StartFacts) : (State.loadPlan s f).core R = s.core R := by
  unfold State.loadPlan
  repeat' (first | with_reducible rfl | rw [core_foldl] | intro _ | split | simp only [↓State.setN_core (sb hm rfl), ↓State.logEv_core (sb hm rfl), ↓State.resolveCopies_core (sb hm rfl), ↓State.reloadSas_core (sb hm rfl), ↓State.reloadCaches_core (sb hm rfl), ↓State.loadShapers_core (sb hm rfl), ↓State.loadLanes_core (sb hm rfl), ↓State.refreshLookAside_core (sb hm rfl), ↓State.refreshRoots_core (sb hm rfl), ↓State.refreshSlots_core (sb hm rfl), ↓State.refreshCases_core (sb hm rfl), ↓State.refreshCounts_core (sb hm rfl), ↓core_pkg_plan_update (sb hm rfl), ↓core_ite, ite_self])

theorem State.bringUp_core {R : Nat} (hm : inMask 512 R = true) (s : State) (up : List Nat) : (State.bringUp s up).core R = s.core R := by
  unfold State.bringUp
  repeat' (first | with_reducible rfl | rw [core_foldl] | intro _ | split | simp only [↓lockGained_core (sb hm rfl), ↓State.holdOffDone_core (sb hm rfl), ↓core_ite, ite_self])

theorem State.startTick_core {R : Nat} (hm : inMask 128 R = true) (s : State) (n : Nat) : (State.startTick s n).core R = s.core R := by
  simp only [State.startTick, ↓State.setN_core (sb hm rfl), ↓core_tick (sb hm rfl)]

theorem State.finishStart_core {R : Nat} (hm : inMask 1703920 R = true) (s : State) (f : StartFacts) : (State.finishStart s f).core R = s.core R := by
  unfold State.finishStart
  repeat' (first | with_reducible rfl | rw [core_foldl] | intro _ | split | simp only [↓State.startMarch_core (sb hm rfl), ↓State.setN_core (sb hm rfl), ↓State.loadPlan_core (sb hm rfl), ↓State.missingDies_core (sb hm rfl), ↓State.setFlag_core (sb hm rfl), ↓State.refreshInstances_core (sb hm rfl), ↓State.restartInstances_core (sb hm rfl), ↓State.startTick_core (sb hm rfl), ↓State.refreshImages_core (sb hm rfl), ↓State.updBoot_core (sb hm rfl), ↓State.leaveQuarantine_core (sb hm rfl), ↓State.bringUp_core (sb hm rfl), ↓State.stageUp_core (sb hm rfl), ↓State.logLead_core (sb hm rfl), ↓core_pkg_bridge_update (sb hm rfl), ↓core_ite, ite_self])

theorem State.completeTransition_core {R : Nat} (hm : inMask 57904 R = true) (s : State) : (State.completeTransition s).core R = s.core R := by
  unfold State.completeTransition
  repeat' (first | with_reducible rfl | split | simp only [↓lifeCycleDone_core (sb hm rfl), ↓State.startTransition_core (sb hm rfl)])

theorem State.coldStart_core {R : Nat} (hm : inMask 4194294 R = true) (s : State) (f : StartFacts) (hold : State → Bool) : (s.coldStart f hold).core R = s.core R := by
  have begun : (((s.resetDies.setN O.lastStartReason f.reason).setN O.hostEndpointDie f.endpoint).startDies f).core R = s.core R := by
    rw [State.startDies_core (sb hm rfl), State.setN_core (sb hm rfl), State.setN_core (sb hm rfl), State.resetDies_core (sb hm rfl)]
  unfold State.coldStart
  dsimp only
  generalize (((s.resetDies.setN O.lastStartReason f.reason).setN O.hostEndpointDie f.endpoint).startDies f) = u at begun ⊢
  generalize ((s.resetDies.setN O.lastStartReason f.reason).setN O.hostEndpointDie f.endpoint).bootRec _ = bb
  have fell : ∀ v, (v = u.setN O.lastUpdateResult urFAILED ∨ v = u) → v.core R = s.core R := by
    intro v h
    rcases h with rfl | rfl
    · rw [State.setN_core (sb hm rfl), begun]
    · exact begun
  obtain ⟨v, hv, hk⟩ : ∃ v, v = (if (u.bootRec u.pkg.lead).fellBack && bb.trial != 0xFF && (u.bootRec u.pkg.lead).trial == 0xFF then
      u.setN O.lastUpdateResult urFAILED else u) ∧ v.core R = s.core R := by
    refine ⟨_, rfl, fell _ ?_⟩
    split
    · exact .inl rfl
    · exact .inr rfl
  rw [← hv]
  clear hv fell
  split
  · rw [State.enterRecovery_core (sb hm rfl), hk]
  · split
    · rw [State.enterRecovery_core (sb hm rfl), hk]
    · split
      · rw [State.enterRecovery_core (sb hm rfl), hk]
      · split
        · rw [State.setN_core (sb hm rfl), core_pkg_cairn_update (sb hm rfl), State.completeTransition_core (sb hm rfl), hk]
        · split
          · rw [State.enterRecovery_core (sb hm rfl), core_pkg_cairn_update (sb hm rfl), State.completeTransition_core (sb hm rfl), hk]
          · rename_i h
            have hc := State.chooseImage_core (sb hm rfl) _ _ _ h
            split
            · rw [State.logLead_core (sb hm rfl), State.finishStart_core (sb hm rfl), hc, core_pkg_cairn_update (sb hm rfl), State.completeTransition_core (sb hm rfl), hk]
            · rw [State.finishStart_core (sb hm rfl), hc, core_pkg_cairn_update (sb hm rfl), State.completeTransition_core (sb hm rfl), hk]






theorem execColdStart_core (t : Nat) (f : StartFacts) (s : State) (t' : State) (h : (execColdStart t f s) = .next t') : t'.core 8388598 = s.core 8388598 := by
  have hm : inMask 8388598 8388598 = true := rfl
  simp only [execColdStart, Host.Outcome.next.injEq] at h
  subst h
  simp only [↓State.coldStart_core (sb hm rfl), ↓State.begin_core (sb hm rfl)]

theorem startFailed_core {R : Nat} (hm : inMask 4194294 R = true) (s : State) : (startFailed s).core R = s.core R := by
  simp only [startFailed, ↓State.allBoot_core (sb hm rfl), ↓State.resetDies_core (sb hm rfl), ↓core_ite, ite_self]

theorem execStartFailed_core (t : Nat) (s : State) (t' : State) (h : (execStartFailed t s) = .next t') : t'.core 8388598 = s.core 8388598 := by
  have hm : inMask 8388598 8388598 = true := rfl
  simp only [execStartFailed, Host.Outcome.next.injEq] at h
  subst h
  simp only [↓startFailed_core (sb hm rfl), ↓State.begin_core (sb hm rfl)]

theorem State.wakeForward_core {R : Nat} (hm : inMask 524800 R = true) (s : State) (cause : Nat) (src : Nat) : (State.wakeForward s cause src).core R = s.core R := by
  simp only [State.wakeForward, ↓State.forwardWake_core (sb hm rfl), ↓core_power (sb hm rfl), ↓core_ite, ite_self]

theorem State.flushAon_core {R : Nat} (hm : inMask 32 R = true) (s : State) : (State.flushAon s).core R = s.core R := by
  simp only [State.flushAon, ↓core_logs (sb hm rfl)]

theorem State.wakeRails_core {R : Nat} (hm : inMask 0 R = true) (s : State) : (State.wakeRails s).core R = s.core R := by
  unfold State.wakeRails
  repeat' (first | with_reducible rfl | rw [core_foldl] | intro _ | split | simp only [↓State.emit_core (sb hm rfl)])

theorem State.wakeLinks_core {R : Nat} (hm : inMask 0 R = true) (s : State) : (State.wakeLinks s).core R = s.core R := by
  unfold State.wakeLinks
  repeat' (first | with_reducible rfl | rw [core_foldl] | intro _ | split | simp only [↓State.setN_core (sb hm rfl)])

theorem State.wakeNoted_core {R : Nat} (hm : inMask 528416 R = true) (s : State) (cause : Nat) (source : Nat) (elapsed : Nat) : (State.wakeNoted s cause source elapsed).core R = s.core R := by
  simp only [State.wakeNoted, ↓State.setN_core (sb hm rfl), ↓State.logLead_core (sb hm rfl), ↓core_bridge_power (sb hm rfl)]

theorem State.wakeUp_core {R : Nat} (hm : inMask 1824736 R = true) (s : State) (cause : Nat) (src : Nat) (elapsed : Nat) (est : Nat) (f : StartFacts) : (State.wakeUp s cause src elapsed est f).core R = s.core R := by
  simp only [State.wakeUp, ↓State.wakeRails_core (sb hm rfl), ↓State.wakeLinks_core (sb hm rfl), ↓State.loadPlan_core (sb hm rfl), ↓State.flushAon_core (sb hm rfl), ↓State.setN_core (sb hm rfl), ↓State.refreshInstances_core (sb hm rfl), ↓State.restartInstances_core (sb hm rfl), ↓State.startTick_core (sb hm rfl), ↓State.wakeNoted_core (sb hm rfl), ↓State.wakeForward_core (sb hm rfl), ↓State.leaveQuarantine_core (sb hm rfl), ↓State.bringUp_core (sb hm rfl), ↓State.stageUp_core (sb hm rfl), ↓State.setEmergency_core (sb hm rfl), ↓core_pkg (sb hm rfl), ↓core_ite, ite_self]

theorem wake_core {R : Nat} (hm : inMask 4194294 R = true) (cause : Nat) (src : Nat) (elapsed : Nat) (est : Nat) (f : StartFacts) (s : State) : (wake cause src elapsed est f s).core R = s.core R := by
  simp only [wake, ↓State.cancelRound_core (sb hm rfl), ↓State.coldStart_core (sb hm rfl), ↓State.setN_core (sb hm rfl), ↓State.tamperRespond_core (sb hm rfl), ↓State.wakeUp_core (sb hm rfl), ↓core_ite, ite_self]

theorem execWake_core (t : Nat) (cause : Nat) (src : Nat) (elapsed : Nat) (est : Nat) (f : StartFacts) (s : State) (t' : State) (h : (execWake t cause src elapsed est f s) = .next t') : t'.core 8388598 = s.core 8388598 := by
  have hm : inMask 8388598 8388598 = true := rfl
  simp only [execWake, Host.Outcome.next.injEq] at h
  subst h
  simp only [↓wake_core (sb hm rfl), ↓State.begin_core (sb hm rfl)]

theorem wakeFrame_core {R : Nat} (hm : inMask 524288 R = true) (lane : Nat) (s : State) : (wakeFrame lane s).core R = s.core R := by
  simp only [wakeFrame, ↓core_power (sb hm rfl), ↓core_ite, ite_self]

theorem execWakeFrame_core (t : Nat) (lane : Nat) (s : State) (t' : State) (h : (execWakeFrame t lane s) = .next t') : t'.core 4718592 = s.core 4718592 := by
  have hm : inMask 4718592 4718592 = true := rfl
  simp only [execWakeFrame, Host.Outcome.next.injEq] at h
  subst h
  simp only [↓wakeFrame_core (sb hm rfl), ↓State.begin_core (sb hm rfl)]

theorem wakeCommandAct_core {R : Nat} (hm : inMask 1824736 R = true) (elapsed : Nat) (est : Nat) (f : StartFacts) (a1 : Session) (s : State) : (wakeCommandAct elapsed est f a1 s).2.core R = s.core R := by
  unfold wakeCommandAct
  repeat' (first | with_reducible rfl | split | simp only [↓State.forwardWake_core (sb hm rfl), ↓State.cancelRound_core (sb hm rfl), ↓State.wakeUp_core (sb hm rfl)])

theorem execWakeCommand_core (t : Nat) (who : Who) (elapsed : Nat) (est : Nat) (f : StartFacts) (s : State) (t' : State) (h : (execWakeCommand t who elapsed est f s) = .next t') : t'.core 6019056 = s.core 6019056 := by
  have hm : inMask 6019056 6019056 = true := rfl
  simp only [execWakeCommand, cmdRow, Host.Outcome.next.injEq] at h
  subst h
  repeat' (first | with_reducible rfl | rw [core_foldl] | rw [serve_core (sb hm rfl)] | rw [writeCmd_core (sb hm rfl)] | intro _ | split | simp only [↓wakeCommandAct_core (sb hm rfl), ↓State.begin_core (sb hm rfl)])

theorem standbyLeave_core {R : Nat} (hm : inMask 1824736 R = true) (elapsed : Nat) (est : Nat) (f : StartFacts) (a1 : Session) (s : State) : (standbyLeave elapsed est f a1 s).2.core R = s.core R := by
  unfold standbyLeave
  repeat' (first | with_reducible rfl | split | simp only [↓State.wakeUp_core (sb hm rfl)])

theorem execStandbyLeave_core (t : Nat) (who : Who) (elapsed : Nat) (est : Nat) (f : StartFacts) (s : State) (t' : State) (h : (execStandbyLeave t who elapsed est f s) = .next t') : t'.core 6019056 = s.core 6019056 := by
  have hm : inMask 6019056 6019056 = true := rfl
  simp only [execStandbyLeave, cmdRow, Host.Outcome.next.injEq] at h
  subst h
  repeat' (first | with_reducible rfl | rw [core_foldl] | rw [serve_core (sb hm rfl)] | rw [writeCmd_core (sb hm rfl)] | intro _ | split | simp only [↓standbyLeave_core (sb hm rfl), ↓State.begin_core (sb hm rfl)])

theorem recoveryServe.run_core {R : Nat} (hm : inMask 1048576 R = true) (cmd src seq off : Nat) (act : State → Nat × Bytes × State) (s : State)
    (hact : ∀ y0, (act y0).2.2.core R = y0.core R) : (recoveryServe.run cmd src seq off act s).core R = s.core R := by
  unfold recoveryServe.run
  dsimp only
  rw [State.emit_core (sb hm rfl), core_update (sb hm rfl), hact]

theorem recoveryServe_core {R : Nat} (hm : inMask 1048576 R = true) (cmd src seq off : Nat) (act : State → Nat × Bytes × State) (s : State)
    (hact : ∀ y0, (act y0).2.2.core R = y0.core R) : (recoveryServe cmd src seq off act s).core R = s.core R := by
  unfold recoveryServe
  split
  · rfl
  · split
    · split
      · exact State.emit_core (sb hm rfl) ..
      · exact recoveryServe.run_core (sb hm rfl) _ _ _ _ _ _ hact
    · exact recoveryServe.run_core (sb hm rfl) _ _ _ _ _ _ hact





theorem refused_core {R : Nat} (hm : inMask 0 R = true) (st : Nat) (s : State) : (refused st s).2.2.core R = s.core R := by
  simp only [refused]

theorem State.setRec_core {R : Nat} (hm : inMask 1048576 R = true) (s : State) (state : Nat) : (State.setRec s state).core R = s.core R := by
  simp only [State.setRec, ↓core_update (sb hm rfl)]

theorem recoveryStatus_core {R : Nat} (hm : inMask 0 R = true) (s : State) : (recoveryStatus s).2.2.core R = s.core R := by
  simp only [recoveryStatus]

theorem execRecoveryStatus_core (t : Nat) (src : Nat) (seq : Nat) (s : State) (t' : State) (h : (execRecoveryStatus t src seq s) = .next t') : t'.core 5242880 = s.core 5242880 := by
  have hm : inMask 5242880 5242880 = true := rfl
  simp only [execRecoveryStatus, Host.Outcome.next.injEq] at h
  subst h
  repeat' (first | with_reducible rfl | rw [core_foldl] | rw [recoveryServe_core (sb hm rfl)] | intro _ | split | simp only [↓recoveryStatus_core (sb hm rfl), ↓State.begin_core (sb hm rfl)])

theorem recoveryClaim_core {R : Nat} (hm : inMask 1048576 R = true) (src : Nat) (tokenOk : Bool) (s : State) : (recoveryClaim src tokenOk s).2.2.core R = s.core R := by
  unfold recoveryClaim
  repeat' (first | with_reducible rfl | split | simp only [↓refused_core (sb hm rfl), ↓core_update (sb hm rfl)])

theorem execRecoveryClaim_core (t : Nat) (src : Nat) (seq : Nat) (tokenOk : Bool) (s : State) (t' : State) (h : (execRecoveryClaim t src seq tokenOk s) = .next t') : t'.core 5242880 = s.core 5242880 := by
  have hm : inMask 5242880 5242880 = true := rfl
  simp only [execRecoveryClaim, Host.Outcome.next.injEq] at h
  subst h
  repeat' (first | with_reducible rfl | rw [core_foldl] | rw [recoveryServe_core (sb hm rfl)] | intro _ | split | simp only [↓recoveryClaim_core (sb hm rfl), ↓State.begin_core (sb hm rfl)])

theorem recoveryBlock_core {R : Nat} (hm : inMask 1048576 R = true) (src : Nat) (off : Nat) (data : Bytes) (s : State) : (recoveryBlock src off data s).2.2.core R = s.core R := by
  unfold recoveryBlock
  repeat' (first | with_reducible rfl | split | simp only [↓refused_core (sb hm rfl), ↓State.updBoot_core (sb hm rfl), ↓State.setImage_core (sb hm rfl), ↓State.setRec_core (sb hm rfl), ↓core_update (sb hm rfl)])

theorem execRecoveryBlock_core (t : Nat) (src : Nat) (seq : Nat) (off : Nat) (data : Bytes) (s : State) (t' : State) (h : (execRecoveryBlock t src seq off data s) = .next t') : t'.core 5242880 = s.core 5242880 := by
  have hm : inMask 5242880 5242880 = true := rfl
  simp only [execRecoveryBlock, Host.Outcome.next.injEq] at h
  subst h
  repeat' (first | with_reducible rfl | rw [core_foldl] | rw [recoveryServe_core (sb hm rfl)] | intro _ | split | simp only [↓recoveryBlock_core (sb hm rfl), ↓State.begin_core (sb hm rfl)])

theorem recoveryVerify_core {R : Nat} (hm : inMask 1048576 R = true) (src : Nat) (crypto : Nat) (s : State) : (recoveryVerify src crypto s).2.2.core R = s.core R := by
  unfold recoveryVerify
  repeat' (first | with_reducible rfl | split | simp only [↓refused_core (sb hm rfl), ↓State.setRec_core (sb hm rfl), ↓State.updBoot_core (sb hm rfl), ↓core_update (sb hm rfl)])

theorem execRecoveryVerify_core (t : Nat) (src : Nat) (seq : Nat) (crypto : Nat) (s : State) (t' : State) (h : (execRecoveryVerify t src seq crypto s) = .next t') : t'.core 5242880 = s.core 5242880 := by
  have hm : inMask 5242880 5242880 = true := rfl
  simp only [execRecoveryVerify, Host.Outcome.next.injEq] at h
  subst h
  repeat' (first | with_reducible rfl | rw [core_foldl] | rw [recoveryServe_core (sb hm rfl)] | intro _ | split | simp only [↓recoveryVerify_core (sb hm rfl), ↓State.begin_core (sb hm rfl)])

theorem recoveryActivate_core {R : Nat} (hm : inMask 4194294 R = true) (src : Nat) (s : State) : (recoveryActivate src s).2.2.core R = s.core R := by
  unfold recoveryActivate
  repeat' (first | with_reducible rfl | split | simp only [↓refused_core (sb hm rfl), ↓State.updBoot_core (sb hm rfl), ↓State.resetDies_core (sb hm rfl)])

theorem execRecoveryActivate_core (t : Nat) (src : Nat) (seq : Nat) (s : State) (t' : State) (h : (execRecoveryActivate t src seq s) = .next t') : t'.core 8388598 = s.core 8388598 := by
  have hm : inMask 8388598 8388598 = true := rfl
  simp only [execRecoveryActivate, Host.Outcome.next.injEq] at h
  subst h
  repeat' (first | with_reducible rfl | rw [core_foldl] | rw [recoveryServe_core (sb hm rfl)] | intro _ | split | simp only [↓recoveryActivate_core (sb hm rfl), ↓State.begin_core (sb hm rfl)])

theorem recoveryAbort_core {R : Nat} (hm : inMask 1048576 R = true) (src : Nat) (s : State) : (recoveryAbort src s).2.2.core R = s.core R := by
  unfold recoveryAbort
  repeat' (first | with_reducible rfl | split | simp only [↓refused_core (sb hm rfl), ↓State.updBoot_core (sb hm rfl), ↓State.setImage_core (sb hm rfl), ↓core_update (sb hm rfl)])

theorem execRecoveryAbort_core (t : Nat) (src : Nat) (seq : Nat) (s : State) (t' : State) (h : (execRecoveryAbort t src seq s) = .next t') : t'.core 5242880 = s.core 5242880 := by
  have hm : inMask 5242880 5242880 = true := rfl
  simp only [execRecoveryAbort, Host.Outcome.next.injEq] at h
  subst h
  repeat' (first | with_reducible rfl | rw [core_foldl] | rw [recoveryServe_core (sb hm rfl)] | intro _ | split | simp only [↓recoveryAbort_core (sb hm rfl), ↓State.begin_core (sb hm rfl)])

theorem recoveryClear_core {R : Nat} (hm : inMask 1703920 R = true) (nonce : Bytes) (credOk : Bool) (s : State) : (recoveryClear nonce credOk s).2.2.core R = s.core R := by
  unfold recoveryClear
  dsimp only
  split
  · rfl
  · split
    · rfl
    · split
      · rfl
      · rename_i h
        have hc := State.chooseImage_core (sb hm rfl) _ _ _ h
        dsimp only
        rw [State.logLead_core (sb hm rfl), State.finishStart_core (sb hm rfl), hc, State.setN_core (sb hm rfl), core_pkg_cairn (sb hm rfl), State.refreshRoots_core (sb hm rfl)]






theorem execRecoveryClear_core (t : Nat) (src : Nat) (seq : Nat) (nonce : Bytes) (credOk : Bool) (s : State) (t' : State) (h : (execRecoveryClear t src seq nonce credOk s) = .next t') : t'.core 5898224 = s.core 5898224 := by
  have hm : inMask 5898224 5898224 = true := rfl
  simp only [execRecoveryClear, Host.Outcome.next.injEq] at h
  subst h
  repeat' (first | with_reducible rfl | rw [core_foldl] | rw [recoveryServe_core (sb hm rfl)] | intro _ | split | simp only [↓recoveryClear_core (sb hm rfl), ↓State.begin_core (sb hm rfl)])

theorem State.setUp_core {R : Nat} (hm : inMask 0 R = true) (s : State) (v : Nat) : (State.setUp s v).core R = s.core R := by
  simp only [State.setUp, ↓State.setN_core (sb hm rfl)]

theorem State.setSpare_core {R : Nat} (hm : inMask 1048576 R = true) (s : State) (v : Nat) : (State.setSpare s v).core R = s.core R := by
  simp only [State.setSpare, ↓State.refreshImages_core (sb hm rfl), ↓State.allBoot_core (sb hm rfl)]

theorem State.cutShort_core {R : Nat} (hm : inMask 1048576 R = true) (s : State) : (State.cutShort s).core R = s.core R := by
  unfold State.cutShort
  repeat' (first | with_reducible rfl | rw [core_foldl] | intro _ | split | simp only [↓State.setSpare_core (sb hm rfl), ↓State.setImage_core (sb hm rfl), ↓State.setUp_core (sb hm rfl), ↓core_update (sb hm rfl)])

theorem State.unlock_core {R : Nat} (hm : inMask 1048576 R = true) (s : State) : (State.unlock s).core R = s.core R := by
  simp only [State.unlock, ↓State.setN_core (sb hm rfl), ↓core_update (sb hm rfl)]

theorem State.releaseLock_core {R : Nat} (hm : inMask 1048576 R = true) (s : State) (asked : Bool) : (State.releaseLock s asked).core R = s.core R := by
  simp only [State.releaseLock, ↓State.cutShort_core (sb hm rfl), ↓State.setN_core (sb hm rfl), ↓State.setUp_core (sb hm rfl), ↓State.unlock_core (sb hm rfl), ↓core_ite, ite_self]

theorem State.sessionLock_core {R : Nat} (hm : inMask 1048576 R = true) (s : State) (n : Nat) : (State.sessionLock s n).core R = s.core R := by
  simp only [State.sessionLock, ↓State.releaseLock_core (sb hm rfl), ↓core_ite, ite_self]

theorem State.lockUsed_core {R : Nat} (hm : inMask 1048576 R = true) (s : State) : (State.lockUsed s).core R = s.core R := by
  simp only [State.lockUsed, ↓core_update (sb hm rfl)]

theorem updateClaim_core {R : Nat} (hm : inMask 1048576 R = true) (sess : Nat) (x : Session) (s : State) : (updateClaim sess x s).2.core R = s.core R := by
  unfold updateClaim
  repeat' (first | with_reducible rfl | split | simp only [↓State.countDenial_core (sb hm rfl), ↓State.lockUsed_core (sb hm rfl), ↓State.setN_core (sb hm rfl), ↓State.setUp_core (sb hm rfl), ↓core_update (sb hm rfl)])

theorem execUpdateClaim_core (t : Nat) (who : Who) (s : State) (t' : State) (h : (execUpdateClaim t who s) = .next t') : t'.core 5771280 = s.core 5771280 := by
  have hm : inMask 5771280 5771280 = true := rfl
  simp only [execUpdateClaim, cmdRow, Host.Outcome.next.injEq] at h
  subst h
  repeat' (first | with_reducible rfl | rw [core_foldl] | rw [serve_core (sb hm rfl)] | rw [writeCmd_core (sb hm rfl)] | intro _ | split | simp only [↓updateClaim_core (sb hm rfl), ↓State.begin_core (sb hm rfl)])

theorem updateAbort_core {R : Nat} (hm : inMask 1048576 R = true) (sess : Nat) (a1 : Session) (s : State) : (updateAbort sess a1 s).2.core R = s.core R := by
  unfold updateAbort
  repeat' (first | with_reducible rfl | split | simp only [↓State.unlock_core (sb hm rfl), ↓State.cutShort_core (sb hm rfl)])

theorem execUpdateAbort_core (t : Nat) (who : Who) (s : State) (t' : State) (h : (execUpdateAbort t who s) = .next t') : t'.core 5771280 = s.core 5771280 := by
  have hm : inMask 5771280 5771280 = true := rfl
  simp only [execUpdateAbort, cmdRow, Host.Outcome.next.injEq] at h
  subst h
  repeat' (first | with_reducible rfl | rw [core_foldl] | rw [serve_core (sb hm rfl)] | rw [writeCmd_core (sb hm rfl)] | intro _ | split | simp only [↓updateAbort_core (sb hm rfl), ↓State.begin_core (sb hm rfl)])

theorem updateRelease_core {R : Nat} (hm : inMask 1048576 R = true) (sess : Nat) (a1 : Session) (s : State) : (updateRelease sess a1 s).2.core R = s.core R := by
  unfold updateRelease
  repeat' (first | with_reducible rfl | split | simp only [↓State.releaseLock_core (sb hm rfl)])

theorem execUpdateRelease_core (t : Nat) (who : Who) (s : State) (t' : State) (h : (execUpdateRelease t who s) = .next t') : t'.core 5771280 = s.core 5771280 := by
  have hm : inMask 5771280 5771280 = true := rfl
  simp only [execUpdateRelease, cmdRow, Host.Outcome.next.injEq] at h
  subst h
  repeat' (first | with_reducible rfl | rw [core_foldl] | rw [serve_core (sb hm rfl)] | rw [writeCmd_core (sb hm rfl)] | intro _ | split | simp only [↓updateRelease_core (sb hm rfl), ↓State.begin_core (sb hm rfl)])

theorem lockTimeout_core {R : Nat} (hm : inMask 1048576 R = true) (s : State) : (lockTimeout s).core R = s.core R := by
  unfold lockTimeout
  repeat' (first | with_reducible rfl | split | simp only [↓State.releaseLock_core (sb hm rfl), ↓State.setN_core (sb hm rfl), ↓State.setRec_core (sb hm rfl), ↓State.updBoot_core (sb hm rfl), ↓State.setImage_core (sb hm rfl), ↓core_update (sb hm rfl)])

theorem execLockTimeout_core (t : Nat) (s : State) (t' : State) (h : (execLockTimeout t s) = .next t') : t'.core 5242880 = s.core 5242880 := by
  have hm : inMask 5242880 5242880 = true := rfl
  simp only [execLockTimeout, Host.Outcome.next.injEq] at h
  subst h
  simp only [↓lockTimeout_core (sb hm rfl), ↓State.begin_core (sb hm rfl)]

theorem serviceResumes_core {R : Nat} (hm : inMask 1048934 R = true) (s : State) : (serviceResumes s).core R = s.core R := by
  unfold serviceResumes
  repeat' (first | with_reducible rfl | split | simp only [↓dictionaryResume_core (sb hm rfl), ↓State.releaseLock_core (sb hm rfl)])

theorem execDictionaryServiceResume_core (t : Nat) (s : State) (t' : State) (h : (execDictionaryServiceResume t s) = .next t') : t'.core 5243238 = s.core 5243238 := by
  have hm : inMask 5243238 5243238 = true := rfl
  simp only [execDictionaryServiceResume, Host.Outcome.next.injEq] at h
  subst h
  simp only [↓serviceResumes_core (sb hm rfl), ↓State.begin_core (sb hm rfl)]

theorem imageBlockAct_core {R : Nat} (hm : inMask 1048576 R = true) (sess : Nat) (b : Bytes) (writeOk : Bool) (a1 : Session) (s : State) : (imageBlockAct sess b writeOk a1 s).2.core R = s.core R := by
  unfold imageBlockAct
  repeat' (first | with_reducible rfl | rw [core_foldl] | intro _ | split | simp only [↓State.setN_core (sb hm rfl), ↓State.setImage_core (sb hm rfl), ↓State.lockUsed_core (sb hm rfl), ↓State.setSpare_core (sb hm rfl), ↓State.setUp_core (sb hm rfl)])

theorem execImageBlock_core (t : Nat) (who : Who) (data : Bytes) (writeOk : Bool) (s : State) (t' : State) (h : (execImageBlock t who data writeOk s) = .next t') : t'.core 5771280 = s.core 5771280 := by
  have hm : inMask 5771280 5771280 = true := rfl
  simp only [execImageBlock, domRow, Host.Outcome.next.injEq] at h
  subst h
  repeat' (first | with_reducible rfl | rw [core_foldl] | rw [serve_core (sb hm rfl)] | rw [writeDom_core (sb hm rfl)] | intro _ | split | simp only [↓imageBlockAct_core (sb hm rfl), ↓State.begin_core (sb hm rfl)])

theorem updateVerify_core {R : Nat} (hm : inMask 1048576 R = true) (sess : Nat) (a1 : Session) (s : State) : (updateVerify sess a1 s).2.core R = s.core R := by
  unfold updateVerify
  repeat' (first | with_reducible rfl | split | simp only [↓State.setUp_core (sb hm rfl), ↓State.lockUsed_core (sb hm rfl), ↓core_update (sb hm rfl)])

theorem execUpdateVerify_core (t : Nat) (who : Who) (s : State) (t' : State) (h : (execUpdateVerify t who s) = .next t') : t'.core 5771280 = s.core 5771280 := by
  have hm : inMask 5771280 5771280 = true := rfl
  simp only [execUpdateVerify, cmdRow, Host.Outcome.next.injEq] at h
  subst h
  repeat' (first | with_reducible rfl | rw [core_foldl] | rw [serve_core (sb hm rfl)] | rw [writeCmd_core (sb hm rfl)] | intro _ | split | simp only [↓updateVerify_core (sb hm rfl), ↓State.begin_core (sb hm rfl)])

theorem verifyDoneUpdate_core {R : Nat} (hm : inMask 1048576 R = true) (crypto : SMap Nat) (s : State) : (verifyDoneUpdate crypto s).core R = s.core R := by
  unfold verifyDoneUpdate
  repeat' (first | with_reducible rfl | split | simp only [↓State.setN_core (sb hm rfl), ↓State.setUp_core (sb hm rfl), ↓State.setSpare_core (sb hm rfl), ↓core_update (sb hm rfl)])

theorem execVerifyDone_core (t : Nat) (crypto : SMap Nat) (s : State) (t' : State) (h : (execVerifyDone t crypto s) = .next t') : t'.core 5242880 = s.core 5242880 := by
  have hm : inMask 5242880 5242880 = true := rfl
  simp only [execVerifyDone, Host.Outcome.next.injEq] at h
  subst h
  simp only [↓verifyDoneUpdate_core (sb hm rfl), ↓State.begin_core (sb hm rfl)]

theorem State.restartCores_core {R : Nat} (hm : inMask 1048656 R = true) (s : State) (i : Nat) : (State.restartCores s i).core R = s.core R := by
  simp only [State.restartCores, ↓State.refreshImages_core (sb hm rfl), ↓core_access_pkg_update (sb hm rfl)]

theorem updateActivate_core {R : Nat} (hm : inMask 1048688 R = true) (sess : Nat) (a1 : Session) (s : State) : (updateActivate sess a1 s).2.core R = s.core R := by
  unfold updateActivate
  repeat' (first | with_reducible rfl | split | simp only [↓State.allBoot_core (sb hm rfl), ↓State.unlock_core (sb hm rfl), ↓State.setUp_core (sb hm rfl), ↓State.logLead_core (sb hm rfl), ↓State.restartCores_core (sb hm rfl), ↓core_update (sb hm rfl)])

theorem execUpdateActivate_core (t : Nat) (who : Who) (s : State) (t' : State) (h : (execUpdateActivate t who s) = .next t') : t'.core 5771376 = s.core 5771376 := by
  have hm : inMask 5771376 5771376 = true := rfl
  simp only [execUpdateActivate, Host.Outcome.next.injEq] at h
  subst h
  repeat' (first | with_reducible rfl | rw [core_foldl] | rw [serve_core (sb hm rfl)] | rw [writeCmd_core (sb hm rfl)] | intro _ | split | simp only [↓updateActivate_core (sb hm rfl), ↓State.reply_core (sb hm rfl), ↓State.begin_core (sb hm rfl)])

theorem State.confirmTrial_core {R : Nat} (hm : inMask 1048608 R = true) (s : State) : (State.confirmTrial s).core R = s.core R := by
  simp only [State.confirmTrial, ↓State.allBoot_core (sb hm rfl), ↓State.refreshImages_core (sb hm rfl), ↓State.setUp_core (sb hm rfl), ↓State.logLead_core (sb hm rfl), ↓core_update (sb hm rfl)]

theorem selfChecksPassed_core {R : Nat} (hm : inMask 1048608 R = true) (s : State) : (selfChecksPassed s).core R = s.core R := by
  simp only [selfChecksPassed, ↓State.confirmTrial_core (sb hm rfl), ↓core_update (sb hm rfl), ↓core_ite, ite_self]

theorem execSelfChecksPassed_core (t : Nat) (s : State) (t' : State) (h : (execSelfChecksPassed t s) = .next t') : t'.core 5242912 = s.core 5242912 := by
  have hm : inMask 5242912 5242912 = true := rfl
  simp only [execSelfChecksPassed, Host.Outcome.next.injEq] at h
  subst h
  simp only [↓selfChecksPassed_core (sb hm rfl), ↓State.begin_core (sb hm rfl)]

theorem updateConfirm_core {R : Nat} (hm : inMask 1048608 R = true) (a1 : Session) (s : State) : (updateConfirm a1 s).2.core R = s.core R := by
  unfold updateConfirm
  repeat' (first | with_reducible rfl | split | simp only [↓State.confirmTrial_core (sb hm rfl)])

theorem execUpdateConfirm_core (t : Nat) (who : Who) (s : State) (t' : State) (h : (execUpdateConfirm t who s) = .next t') : t'.core 5771312 = s.core 5771312 := by
  have hm : inMask 5771312 5771312 = true := rfl
  simp only [execUpdateConfirm, cmdRow, Host.Outcome.next.injEq] at h
  subst h
  repeat' (first | with_reducible rfl | rw [core_foldl] | rw [serve_core (sb hm rfl)] | rw [writeCmd_core (sb hm rfl)] | intro _ | split | simp only [↓updateConfirm_core (sb hm rfl), ↓State.begin_core (sb hm rfl)])

theorem State.fallBack_core {R : Nat} (hm : inMask 1048688 R = true) (s : State) (cause : Nat) : (State.fallBack s cause).core R = s.core R := by
  simp only [State.fallBack, ↓State.allBoot_core (sb hm rfl), ↓State.setUp_core (sb hm rfl), ↓State.setN_core (sb hm rfl), ↓State.logLead_core (sb hm rfl), ↓State.restartCores_core (sb hm rfl), ↓core_update (sb hm rfl)]

theorem windowExpired_core {R : Nat} (hm : inMask 1048688 R = true) (s : State) : (windowExpired s).core R = s.core R := by
  unfold windowExpired
  repeat' (first | with_reducible rfl | split | simp only [↓State.fallBack_core (sb hm rfl)])

theorem execConfirmationWindowExpired_core (t : Nat) (s : State) (t' : State) (h : (execConfirmationWindowExpired t s) = .next t') : t'.core 5242992 = s.core 5242992 := by
  have hm : inMask 5242992 5242992 = true := rfl
  simp only [execConfirmationWindowExpired, Host.Outcome.next.injEq] at h
  subst h
  simp only [↓windowExpired_core (sb hm rfl), ↓State.begin_core (sb hm rfl)]

theorem datapathPause_core {R : Nat} (hm : inMask 1600 R = true) (s : State) : (datapathPause s).core R = s.core R := by
  unfold datapathPause
  repeat' (first | with_reducible rfl | rw [core_foldl] | intro _ | split | simp only [↓State.drainLane_core (sb hm rfl), ↓State.setN_core (sb hm rfl), ↓core_pkg (sb hm rfl)])

theorem execDatapathPause_core (t : Nat) (s : State) (t' : State) (h : (execDatapathPause t s) = .next t') : t'.core 4195904 = s.core 4195904 := by
  have hm : inMask 4195904 4195904 = true := rfl
  simp only [execDatapathPause, Host.Outcome.next.injEq] at h
  subst h
  simp only [↓datapathPause_core (sb hm rfl), ↓State.begin_core (sb hm rfl)]

theorem State.setBe_core {R : Nat} (hm : inMask 524800 R = true) (s : State) (n : Nat) (k : Nat) : (State.setBe s n k).core R = s.core R := by
  simp only [State.setBe, ↓State.accrueBe_core (sb hm rfl), ↓State.updLane_core (sb hm rfl), ↓core_power (sb hm rfl)]

theorem State.holdLane_core {R : Nat} (hm : inMask 525824 R = true) (s : State) (n : Nat) : (State.holdLane s n).core R = s.core R := by
  simp only [State.holdLane, ↓State.updLane_core (sb hm rfl), ↓State.loseSignal_core (sb hm rfl), ↓core_power (sb hm rfl), ↓core_ite, ite_self]

theorem State.freeLane_core {R : Nat} (hm : inMask 524800 R = true) (s : State) : (State.freeLane s).core R = s.core R := by
  unfold State.freeLane
  repeat' (first | with_reducible rfl | split | simp only [↓State.tryHoldOff_core (sb hm rfl), ↓State.updLane_core (sb hm rfl), ↓core_power (sb hm rfl)])

theorem State.showThrottle_core {R : Nat} (hm : inMask 0 R = true) (s : State) (stuck : Bool) : (State.showThrottle s stuck).core R = s.core R := by
  simp only [State.showThrottle, ↓State.setN_core (sb hm rfl)]

theorem State.grantInForce_core {R : Nat} (hm : inMask 525824 R = true) (s : State) : (State.grantInForce s).core R = s.core R := by
  unfold State.grantInForce
  repeat' (first | with_reducible rfl | rw [core_foldl] | intro _ | split | simp only [↓State.setN_core (sb hm rfl), ↓State.setBe_core (sb hm rfl), ↓State.holdLane_core (sb hm rfl), ↓State.freeLane_core (sb hm rfl), ↓State.showThrottle_core (sb hm rfl), ↓core_power (sb hm rfl), ↓core_ite, ite_self])

theorem State.pmbusRead_core {R : Nat} (hm : inMask 524320 R = true) (s : State) (items : Nat → List (Nat × Nat)) (answers : SMap Nat) : (State.pmbusRead s items answers).core R = s.core R := by
  unfold State.pmbusRead
  repeat' (first | with_reducible rfl | split | simp only [↓State.setRail_core (sb hm rfl), ↓State.logLead_core (sb hm rfl), ↓core_power (sb hm rfl), ↓core_ite, ite_self])

theorem State.summit_core {R : Nat} (hm : inMask 524320 R = true) (s : State) (b : BoundaryFacts) : (State.summit s b).core R = s.core R := by
  unfold State.summit
  repeat' (first | with_reducible rfl | rw [core_foldl] | intro _ | split | simp only [↓State.pmbusRead_core (sb hm rfl), ↓State.setN_core (sb hm rfl), ↓State.setRail_core (sb hm rfl), ↓State.logLead_core (sb hm rfl), ↓State.showThrottle_core (sb hm rfl), ↓core_power (sb hm rfl), ↓core_ite, ite_self])

theorem powerOver_core {R : Nat} (hm : inMask 524576 R = true) (s : State) : (powerOver s).core R = s.core R := by
  unfold powerOver
  repeat' (first | with_reducible rfl | split | simp only [↓State.setDerate_core (sb hm rfl), ↓core_power (sb hm rfl)])

theorem execPowerOver_core (t : Nat) (s : State) (t' : State) (h : (execPowerOver t s) = .next t') : t'.core 4718880 = s.core 4718880 := by
  have hm : inMask 4718880 4718880 = true := rfl
  simp only [execPowerOver, Host.Outcome.next.injEq] at h
  subst h
  simp only [↓powerOver_core (sb hm rfl), ↓State.begin_core (sb hm rfl)]

theorem smbAlert_core {R : Nat} (hm : inMask 524320 R = true) (words : SMap Nat) (s : State) : (smbAlert words s).core R = s.core R := by
  unfold smbAlert
  repeat' (first | with_reducible rfl | rw [core_foldl] | intro _ | split | simp only [↓State.setRail_core (sb hm rfl), ↓State.logLead_core (sb hm rfl)])

theorem execSmbalert_core (t : Nat) (words : SMap Nat) (s : State) (t' : State) (h : (execSmbalert t words s) = .next t') : t'.core 4718624 = s.core 4718624 := by
  have hm : inMask 4718624 4718624 = true := rfl
  simp only [execSmbalert, Host.Outcome.next.injEq] at h
  subst h
  simp only [↓smbAlert_core (sb hm rfl), ↓State.begin_core (sb hm rfl)]

theorem State.tempFlag_core {R : Nat} (hm : inMask 2097184 R = true) (s : State) (d : Nat) (sensor : Nat) (t : Int) (entry : Int) (above : Bool) (bitNo : Nat) (kind : Nat) : (State.tempFlag s d sensor t entry above bitNo kind).core R = s.core R := by
  simp only [State.tempFlag, ↓State.logEv_core (sb hm rfl), ↓State.setFlag_core (sb hm rfl), ↓core_diag (sb hm rfl), ↓core_ite, ite_self]

theorem State.tempReading_core {R : Nat} (hm : inMask 0 R = true) (s : State) (k : Nat) (v : Int) : (State.tempReading s k v).core R = s.core R := by
  simp only [State.tempReading, ↓State.setO_core (sb hm rfl)]

theorem State.tempRuns_core {R : Nat} (hm : inMask 2097472 R = true) (s : State) (d : Nat) (t : Int) (lim : Int) : (State.tempRuns s d t lim).core R = s.core R := by
  simp only [State.tempRuns, ↓core_pkg_plan_diag (sb hm rfl)]

theorem State.tempHottest_core {R : Nat} (hm : inMask 2228208 R = true) (s : State) (d : Nat) (i : Nat) (t : Int) : (State.tempHottest s d i t).core R = s.core R := by
  simp only [State.tempHottest, ↓State.tempRuns_core (sb hm rfl), ↓State.tempFlag_core (sb hm rfl), ↓tamper_core (sb hm rfl), ↓State.dieFault_core (sb hm rfl), ↓State.logEv_core (sb hm rfl), ↓core_ite, ite_self]

theorem State.tempDie_core {R : Nat} (hm : inMask 2228208 R = true) (s : State) (raw : SMap Int) (d : Nat) : (State.tempDie s raw d).core R = s.core R := by
  unfold State.tempDie
  repeat' (first | with_reducible rfl | rw [core_foldl] | intro _ | split | simp only [↓State.tempReading_core (sb hm rfl), ↓State.tempHottest_core (sb hm rfl)])

theorem State.voltReading_core {R : Nat} (hm : inMask 0 R = true) (s : State) (k : Nat) (mv : Nat) : (State.voltReading s k mv).core R = s.core R := by
  simp only [State.voltReading, ↓State.setN_core (sb hm rfl), ↓State.setFlag_core (sb hm rfl), ↓core_ite, ite_self]

theorem voltageCross_core {R : Nat} (hm : inMask 2097184 R = true) (d : Nat) (m : Nat) (mv : Nat) (excess : Bool) (s : State) : (voltageCross d m mv excess s).core R = s.core R := by
  simp only [voltageCross, ↓State.setN_core (sb hm rfl), ↓State.setFlag_core (sb hm rfl), ↓State.logEv_core (sb hm rfl), ↓core_diag (sb hm rfl), ↓core_ite, ite_self]

theorem execVoltage_core (t : Nat) (die : Nat) (monitor : Nat) (mv : Nat) (excess : Bool) (s : State) (t' : State) (h : (execVoltage t die monitor mv excess s) = .next t') : t'.core 6291488 = s.core 6291488 := by
  have hm : inMask 6291488 6291488 = true := rfl
  simp only [execVoltage, Host.Outcome.next.injEq] at h
  subst h
  simp only [↓voltageCross_core (sb hm rfl), ↓State.begin_core (sb hm rfl)]

theorem underVoltageFatal_core {R : Nat} (hm : inMask 72688 R = true) (d : Nat) (m : Nat) (s : State) : (underVoltageFatal d m s).core R = s.core R := by
  simp only [underVoltageFatal, ↓State.dieFault_core (sb hm rfl), ↓core_ite, ite_self]

theorem execUnderVoltageFatal_core (t : Nat) (die : Nat) (monitor : Nat) (s : State) (t' : State) (h : (execUnderVoltageFatal t die monitor s) = .next t') : t'.core 4266992 = s.core 4266992 := by
  have hm : inMask 4266992 4266992 = true := rfl
  simp only [execUnderVoltageFatal, Host.Outcome.next.injEq] at h
  subst h
  simp only [↓underVoltageFatal_core (sb hm rfl), ↓State.begin_core (sb hm rfl)]

theorem clearMonitors_core {R : Nat} (hm : inMask 0 R = true) (a1 : Session) (s : State) : (clearMonitors a1 s).2.core R = s.core R := by
  unfold clearMonitors
  repeat' (first | with_reducible rfl | rw [core_foldl] | intro _ | split | simp only [↓State.setO_core (sb hm rfl), ↓State.setN_core (sb hm rfl)])

theorem execClearMonitorRecords_core (t : Nat) (who : Who) (s : State) (t' : State) (h : (execClearMonitorRecords t who s) = .next t') : t'.core 4722704 = s.core 4722704 := by
  have hm : inMask 4722704 4722704 = true := rfl
  simp only [execClearMonitorRecords, cmdRow, Host.Outcome.next.injEq] at h
  subst h
  repeat' (first | with_reducible rfl | rw [core_foldl] | rw [serve_core (sb hm rfl)] | rw [writeCmd_core (sb hm rfl)] | intro _ | split | simp only [↓clearMonitors_core (sb hm rfl), ↓State.begin_core (sb hm rfl)])

theorem laneTestStart_core {R : Nat} (hm : inMask 2098720 R = true) (n : Nat) (v : Nat) (a1 : Session) (s : State) : (laneTestStart n v a1 s).2.core R = s.core R := by
  unfold laneTestStart
  repeat' (first | with_reducible rfl | split | simp only [↓State.loseSignal_core (sb hm rfl), ↓State.updLane_core (sb hm rfl), ↓State.clearAll_core (sb hm rfl), ↓State.setN_core (sb hm rfl), ↓State.logEv_core (sb hm rfl), ↓core_diag (sb hm rfl)])

theorem execLaneTestStart_core (t : Nat) (who : Who) (lane : Nat) (v : Nat) (s : State) (t' : State) (h : (execLaneTestStart t who lane v s) = .next t') : t'.core 6821424 = s.core 6821424 := by
  have hm : inMask 6821424 6821424 = true := rfl
  simp only [execLaneTestStart, cmdRow, Host.Outcome.next.injEq] at h
  subst h
  repeat' (first | with_reducible rfl | rw [core_foldl] | rw [serve_core (sb hm rfl)] | rw [writeCmd_core (sb hm rfl)] | intro _ | split | simp only [↓laneTestStart_core (sb hm rfl), ↓State.begin_core (sb hm rfl)])

theorem laneTestStop_core {R : Nat} (hm : inMask 2097696 R = true) (n : Nat) (a1 : Session) (s : State) : (laneTestStop n a1 s).2.core R = s.core R := by
  unfold laneTestStop
  repeat' (first | with_reducible rfl | split | simp only [↓State.setLink_core (sb hm rfl), ↓State.updLane_core (sb hm rfl), ↓State.setN_core (sb hm rfl), ↓State.logEv_core (sb hm rfl), ↓core_diag (sb hm rfl)])

theorem execLaneTestStop_core (t : Nat) (who : Who) (lane : Nat) (s : State) (t' : State) (h : (execLaneTestStop t who lane s) = .next t') : t'.core 6820400 = s.core 6820400 := by
  have hm : inMask 6820400 6820400 = true := rfl
  simp only [execLaneTestStop, cmdRow, Host.Outcome.next.injEq] at h
  subst h
  repeat' (first | with_reducible rfl | rw [core_foldl] | rw [serve_core (sb hm rfl)] | rw [writeCmd_core (sb hm rfl)] | intro _ | split | simp only [↓laneTestStop_core (sb hm rfl), ↓State.begin_core (sb hm rfl)])

theorem prbsLock_core {R : Nat} (hm : inMask 0 R = true) (n : Nat) (s : State) : (prbsLock n s).core R = s.core R := by
  simp only [prbsLock, ↓State.setN_core (sb hm rfl), ↓core_ite, ite_self]

theorem execPrbsLock_core (t : Nat) (lane : Nat) (s : State) (t' : State) (h : (execPrbsLock t lane s) = .next t') : t'.core 4194304 = s.core 4194304 := by
  have hm : inMask 4194304 4194304 = true := rfl
  simp only [execPrbsLock, Host.Outcome.next.injEq] at h
  subst h
  simp only [↓prbsLock_core (sb hm rfl), ↓State.begin_core (sb hm rfl)]

theorem noLock_core {R : Nat} (hm : inMask 0 R = true) (n : Nat) (s : State) : (noLock n s).core R = s.core R := by
  simp only [noLock, ↓State.setN_core (sb hm rfl), ↓core_ite, ite_self]

theorem execNoLock_core (t : Nat) (lane : Nat) (s : State) (t' : State) (h : (execNoLock t lane s) = .next t') : t'.core 4194304 = s.core 4194304 := by
  have hm : inMask 4194304 4194304 = true := rfl
  simp only [execNoLock, Host.Outcome.next.injEq] at h
  subst h
  simp only [↓noLock_core (sb hm rfl), ↓State.begin_core (sb hm rfl)]

theorem testFramesDone_core {R : Nat} (hm : inMask 0 R = true) (n : Nat) (s : State) : (testFramesDone n s).core R = s.core R := by
  simp only [testFramesDone, ↓State.setN_core (sb hm rfl), ↓core_ite, ite_self]

theorem execTestFramesDone_core (t : Nat) (lane : Nat) (s : State) (t' : State) (h : (execTestFramesDone t lane s) = .next t') : t'.core 4194304 = s.core 4194304 := by
  have hm : inMask 4194304 4194304 = true := rfl
  simp only [execTestFramesDone, Host.Outcome.next.injEq] at h
  subst h
  simp only [↓testFramesDone_core (sb hm rfl), ↓State.begin_core (sb hm rfl)]

theorem State.testCount_core {R : Nat} (hm : inMask 0 R = true) (s : State) (n : Nat) (checked : Nat) (errors : Nat) : (State.testCount s n checked errors).core R = s.core R := by
  simp only [State.testCount, ↓State.addTo_core (sb hm rfl), ↓core_ite, ite_self]

theorem eyeMeasureAct_core {R : Nat} (hm : inMask 2097152 R = true) (n : Nat) (a1 : Session) (s : State) : (eyeMeasureAct n a1 s).2.core R = s.core R := by
  unfold eyeMeasureAct
  repeat' (first | with_reducible rfl | split | simp only [↓State.setN_core (sb hm rfl), ↓core_diag (sb hm rfl)])

theorem execEyeMeasure_core (t : Nat) (who : Who) (lane : Nat) (s : State) (t' : State) (h : (execEyeMeasure t who lane s) = .next t') : t'.core 6819856 = s.core 6819856 := by
  have hm : inMask 6819856 6819856 = true := rfl
  simp only [execEyeMeasure, cmdRow, Host.Outcome.next.injEq] at h
  subst h
  repeat' (first | with_reducible rfl | rw [core_foldl] | rw [serve_core (sb hm rfl)] | rw [writeCmd_core (sb hm rfl)] | intro _ | split | simp only [↓eyeMeasureAct_core (sb hm rfl), ↓State.begin_core (sb hm rfl)])

theorem eyeDone_core {R : Nat} (hm : inMask 2097152 R = true) (n : Nat) (height : Nat) (width : Nat) (s : State) : (eyeDone n height width s).core R = s.core R := by
  simp only [eyeDone, ↓State.setN_core (sb hm rfl), ↓core_diag (sb hm rfl), ↓core_ite, ite_self]

theorem execEyeScanDone_core (t : Nat) (lane : Nat) (height : Nat) (width : Nat) (s : State) (t' : State) (h : (execEyeScanDone t lane height width s) = .next t') : t'.core 6291456 = s.core 6291456 := by
  have hm : inMask 6291456 6291456 = true := rfl
  simp only [execEyeScanDone, Host.Outcome.next.injEq] at h
  subst h
  simp only [↓eyeDone_core (sb hm rfl), ↓State.begin_core (sb hm rfl)]

theorem saddleTestAct_core {R : Nat} (hm : inMask 2097152 R = true) (d : Nat) (p : Nat) (v : Nat) (a1 : Session) (s : State) : (saddleTestAct d p v a1 s).2.core R = s.core R := by
  unfold saddleTestAct
  repeat' (first | with_reducible rfl | split | simp only [↓State.setN_core (sb hm rfl), ↓core_diag (sb hm rfl)])

theorem execSaddleTestMode_core (t : Nat) (who : Who) (die : Nat) (port : Nat) (v : Nat) (s : State) (t' : State) (h : (execSaddleTestMode t who die port v s) = .next t') : t'.core 6819856 = s.core 6819856 := by
  have hm : inMask 6819856 6819856 = true := rfl
  simp only [execSaddleTestMode, cmdRow, Host.Outcome.next.injEq] at h
  subst h
  repeat' (first | with_reducible rfl | rw [core_foldl] | rw [serve_core (sb hm rfl)] | rw [writeCmd_core (sb hm rfl)] | intro _ | split | simp only [↓saddleTestAct_core (sb hm rfl), ↓State.begin_core (sb hm rfl)])

theorem State.saddleCount_core {R : Nat} (hm : inMask 0 R = true) (s : State) (k : Nat) (errors : Nat) (failing : Nat) : (State.saddleCount s k errors failing).core R = s.core R := by
  simp only [State.saddleCount, ↓State.setN_core (sb hm rfl), ↓State.addTo_core (sb hm rfl), ↓core_ite, ite_self]

theorem State.withPlace_core {R : Nat} (hm : inMask 256 R = true) (s : State) (cs : SMap Bytes) (p : Placement) : (State.withPlace s cs p).core R = s.core R := by
  simp only [State.withPlace, ↓core_plan (sb hm rfl)]

theorem State.faulted_core {R : Nat} (hm : inMask 4160 R = true) (s : State) (code : Nat) : (State.faulted s code).core R = s.core R := by
  unfold State.faulted
  repeat' (first | with_reducible rfl | rw [core_foldl] | intro _ | split | simp only [↓State.setSaddle_core (sb hm rfl), ↓core_pkg (sb hm rfl), ↓core_ite])

theorem State.refreshPartitions_core {R : Nat} (hm : inMask 0 R = true) (s : State) : (State.refreshPartitions s).core R = s.core R := by
  unfold State.refreshPartitions
  repeat' (first | with_reducible rfl | rw [core_foldl] | intro _ | split | simp only [↓State.setN_core (sb hm rfl)])

theorem State.drainRoutes_core {R : Nat} (hm : inMask 1536 R = true) (s : State) (code : Nat) (v : PlanView) : (State.drainRoutes s code v).core R = s.core R := by
  unfold State.drainRoutes
  repeat' (first | with_reducible rfl | rw [core_foldl] | intro _ | split | simp only [↓State.drainLane_core (sb hm rfl), ↓State.addTo_core (sb hm rfl), ↓State.updLane_core (sb hm rfl), ↓core_ite, ite_self])

theorem State.flushDie_core {R : Nat} (hm : inMask 1024 R = true) (s : State) (d : Nat) : (State.flushDie s d).core R = s.core R := by
  simp only [State.flushDie, ↓State.refreshFdb_core (sb hm rfl), ↓core_fwd (sb hm rfl)]

theorem State.completeActivation_core {R : Nat} (hm : inMask 5920 R = true) (s : State) (code : Nat) : (State.completeActivation s code).core R = s.core R := by
  unfold State.completeActivation
  repeat' (first | with_reducible rfl | rw [core_foldl] | intro _ | split | simp only [↓State.setSaddle_core (sb hm rfl), ↓State.accrue_core (sb hm rfl), ↓State.showAdminBands_core (sb hm rfl), ↓State.loadShapers_core (sb hm rfl), ↓State.loadLanes_core (sb hm rfl), ↓State.logLead_core (sb hm rfl), ↓State.setN_core (sb hm rfl), ↓State.drainRoutes_core (sb hm rfl), ↓State.flushDie_core (sb hm rfl), ↓State.setBlob_core (sb hm rfl), ↓State.redeclare_core (sb hm rfl), ↓State.refreshLookAside_core (sb hm rfl), ↓State.endLostTxns_core (sb hm rfl), ↓State.refreshCases_core (sb hm rfl), ↓State.refreshCounts_core (sb hm rfl), ↓State.refreshPartitions_core (sb hm rfl), ↓core_plan (sb hm rfl)])

theorem activationReceive_core {R : Nat} (hm : inMask 5920 R = true) (d : Nat) (code : Nat) (s : State) : (activationReceive d code s).core R = s.core R := by
  unfold activationReceive
  repeat' (first | with_reducible rfl | split | simp only [↓State.completeActivation_core (sb hm rfl), ↓core_plan (sb hm rfl), ↓core_ite, ite_self])

theorem execActivationReceive_core (t : Nat) (die : Nat) (code : Nat) (s : State) (t' : State) (h : (execActivationReceive t die code s) = .next t') : t'.core 4200224 = s.core 4200224 := by
  have hm : inMask 4200224 4200224 = true := rfl
  simp only [execActivationReceive, Host.Outcome.next.injEq] at h
  subst h
  simp only [↓activationReceive_core (sb hm rfl), ↓State.begin_core (sb hm rfl)]

theorem faultPlanActive_core {R : Nat} (hm : inMask 5920 R = true) (s : State) : (faultPlanActive s).core R = s.core R := by
  unfold faultPlanActive
  repeat' (first | with_reducible rfl | split | simp only [↓State.completeActivation_core (sb hm rfl), ↓State.setN_core (sb hm rfl), ↓State.logLead_core (sb hm rfl), ↓State.refreshCases_core (sb hm rfl), ↓core_plan (sb hm rfl)])

theorem execFaultPlanActive_core (t : Nat) (s : State) (t' : State) (h : (execFaultPlanActive t s) = .next t') : t'.core 4200224 = s.core 4200224 := by
  have hm : inMask 4200224 4200224 = true := rfl
  simp only [execFaultPlanActive, Host.Outcome.next.injEq] at h
  subst h
  simp only [↓faultPlanActive_core (sb hm rfl), ↓State.begin_core (sb hm rfl)]

theorem State.beforeFault_core {R : Nat} (hm : inMask 64 R = true) (s : State) (code : Nat) : (State.beforeFault s code).core R = s.core R := by
  simp only [State.beforeFault, ↓core_pkg (sb hm rfl), ↓core_ite, ite_self]

theorem urgentBuilt_core {R : Nat} (hm : inMask 320 R = true) (code : Nat) (s : State) : (urgentBuilt code s).core R = s.core R := by
  unfold urgentBuilt
  repeat' (first | with_reducible rfl | split | simp only [↓State.activate_core (sb hm rfl), ↓State.refreshCases_core (sb hm rfl), ↓core_plan (sb hm rfl)])

theorem execUrgentShadowPlanBuilt_core (t : Nat) (code : Nat) (s : State) (t' : State) (h : (execUrgentShadowPlanBuilt t code s) = .next t') : t'.core 4194624 = s.core 4194624 := by
  have hm : inMask 4194624 4194624 = true := rfl
  simp only [execUrgentShadowPlanBuilt, Host.Outcome.next.injEq] at h
  subst h
  simp only [↓urgentBuilt_core (sb hm rfl), ↓State.begin_core (sb hm rfl)]

theorem State.withPlan_core {R : Nat} (hm : inMask 256 R = true) (s : State) (d : Dict) (cs : SMap Bytes) (p : Placement) : (State.withPlan s d cs p).core R = s.core R := by
  simp only [State.withPlan, ↓State.withPlace_core (sb hm rfl), ↓core_dict (sb hm rfl)]

theorem State.writeVerdict_core {R : Nat} (hm : inMask 0 R = true) (s : State) (v : Verdict) (gen : Nat) (tick : Nat) (broken : Nat) (id : Nat) : (State.writeVerdict s v gen tick broken id).core R = s.core R := by
  simp only [State.writeVerdict, ↓State.setN_core (sb hm rfl), ↓State.setO_core (sb hm rfl)]

theorem State.addPending_core {R : Nat} (hm : inMask 256 R = true) (s : State) (p : Plan) : (State.addPending s p).core R = s.core R := by
  simp only [State.addPending, ↓core_plan (sb hm rfl)]

theorem State.commitVerdict_core {R : Nat} (hm : inMask 524576 R = true) (s : State) (n : Snapshot) : (State.commitVerdict s n).core R = s.core R := by
  simp only [State.commitVerdict, ↓State.writeVerdict_core (sb hm rfl), ↓State.setN_core (sb hm rfl), ↓State.stageUp_core (sb hm rfl), ↓State.addPending_core (sb hm rfl), ↓State.logLead_core (sb hm rfl), ↓core_plan (sb hm rfl), ↓core_ite, ite_self]

theorem State.readmission_core {R : Nat} (hm : inMask 1048864 R = true) (s : State) : (State.readmission s).core R = s.core R := by
  simp only [State.readmission, ↓State.writeVerdict_core (sb hm rfl), ↓State.logLead_core (sb hm rfl), ↓State.setN_core (sb hm rfl), ↓State.addPending_core (sb hm rfl), ↓core_update (sb hm rfl), ↓core_ite, ite_self]

theorem admissionEnds_core {R : Nat} (hm : inMask 1573152 R = true) (s : State) : (admissionEnds s).core R = s.core R := by
  unfold admissionEnds
  repeat' (first | with_reducible rfl | split | simp only [↓State.commitVerdict_core (sb hm rfl), ↓State.readmission_core (sb hm rfl)])

theorem execCommitVerdict_core (t : Nat) (s : State) (t' : State) (h : (execCommitVerdict t s) = .next t') : t'.core 5767456 = s.core 5767456 := by
  have hm : inMask 5767456 5767456 = true := rfl
  simp only [execCommitVerdict, Host.Outcome.next.injEq] at h
  subst h
  simp only [↓admissionEnds_core (sb hm rfl), ↓State.begin_core (sb hm rfl)]

theorem migrationEnds_core {R : Nat} (hm : inMask 288 R = true) (s : State) : (migrationEnds s).core R = s.core R := by
  simp only [migrationEnds, ↓State.setN_core (sb hm rfl), ↓State.logLead_core (sb hm rfl), ↓State.addPending_core (sb hm rfl), ↓core_ite, ite_self]

theorem execMigrationEnded_core (t : Nat) (s : State) (t' : State) (h : (execMigrationEnded t s) = .next t') : t'.core 4194592 = s.core 4194592 := by
  have hm : inMask 4194592 4194592 = true := rfl
  simp only [execMigrationEnded, Host.Outcome.next.injEq] at h
  subst h
  simp only [↓migrationEnds_core (sb hm rfl), ↓State.begin_core (sb hm rfl)]

theorem State.asOf_core {R : Nat} (hm : inMask 394272 R = true) (s : State) (c : CounterSet) : (State.asOf s c).core R = s.core R := by
  simp only [State.asOf, ↓core_dict_logs_fwd_audio_edge (sb hm rfl)]

theorem State.mirrorVal_core {R : Nat} (hm : inMask 64 R = true) (s : State) (k : Nat) (v : Val) : (State.mirrorVal s k v).core R = s.core R := by
  simp only [State.mirrorVal, ↓core_pkg (sb hm rfl)]

theorem State.applyVal_core {R : Nat} (hm : inMask 78 R = true) (s : State) (e : Effect) (k : Nat) (v : Val) : (State.applyVal s e k v).core R = s.core R := by
  unfold State.applyVal
  repeat' (first | with_reducible rfl | split | simp only [↓State.holdT_core (sb hm rfl), ↓State.mirrorVal_core (sb hm rfl), ↓State.setVal_core (sb hm rfl), ↓core_staged (sb hm rfl), ↓core_stored (sb hm rfl)])

theorem restoreFactory_core {R : Nat} (hm : inMask 78 R = true) (v : Nat) (a1 : Session) (s : State) : (restoreFactory v a1 s).2.core R = s.core R := by
  unfold restoreFactory
  repeat' (first | with_reducible rfl | rw [core_foldl] | intro _ | split | simp only [↓State.applyVal_core (sb hm rfl)])

theorem execRestoreFactory_core (t : Nat) (who : Who) (v : Nat) (s : State) (t' : State) (h : (execRestoreFactory t who v s) = .next t') : t'.core 4722782 = s.core 4722782 := by
  have hm : inMask 4722782 4722782 = true := rfl
  simp only [execRestoreFactory, cmdRow, Host.Outcome.next.injEq] at h
  subst h
  repeat' (first | with_reducible rfl | rw [core_foldl] | rw [serve_core (sb hm rfl)] | rw [writeCmd_core (sb hm rfl)] | intro _ | split | simp only [↓restoreFactory_core (sb hm rfl), ↓State.begin_core (sb hm rfl)])

theorem State.endSession_core {R : Nat} (hm : inMask 1048592 R = true) (s : State) (n : Nat) : (State.endSession s n).core R = s.core R := by
  simp only [State.endSession, ↓State.sessionLock_core (sb hm rfl), ↓core_access (sb hm rfl)]

theorem trustAnchorAct_core {R : Nat} (hm : inMask 1048656 R = true) (n : Nat) (r : Bytes) (a1 : Session) (s : State) : (trustAnchorAct n r a1 s).2.core R = s.core R := by
  unfold trustAnchorAct
  repeat' (first | with_reducible rfl | rw [core_foldl] | intro _ | split | simp only [↓State.mirrorVal_core (sb hm rfl), ↓State.setBlob_core (sb hm rfl), ↓State.endSession_core (sb hm rfl), ↓core_access (sb hm rfl)])

theorem trustAnchorWrite_core {R : Nat} (hm : inMask 1048656 R = true) (sess : Nat) (n : Nat) (r : Bytes) (a1 : Session) (a2 : State) : (trustAnchorWrite sess n r a1 a2).2.core R = a2.core R := by
  unfold trustAnchorWrite
  repeat' (first | with_reducible rfl | rw [core_foldl] | rw [writeDom_core (sb hm rfl)] | intro _ | split | simp only [↓trustAnchorAct_core (sb hm rfl)])

theorem execTrustAnchorWrite_core (t : Nat) (who : Who) (n : Nat) (rec : Bytes) (s : State) (t' : State) (h : (execTrustAnchorWrite t who n rec s) = .next t') : t'.core 5771344 = s.core 5771344 := by
  have hm : inMask 5771344 5771344 = true := rfl
  simp only [execTrustAnchorWrite, Host.Outcome.next.injEq] at h
  subst h
  repeat' (first | with_reducible rfl | rw [core_foldl] | rw [serve_core (sb hm rfl)] | intro _ | split | simp only [↓trustAnchorWrite_core (sb hm rfl), ↓State.begin_core (sb hm rfl)])

theorem State.dropOwnHeld_core {R : Nat} (hm : inMask 4 R = true) (s : State) (sess : Nat) (k : Nat) : (State.dropOwnHeld s sess k).core R = s.core R := by
  simp only [State.dropOwnHeld, ↓core_held (sb hm rfl)]

theorem writeInt_core {R : Nat} (hm : inMask 94 R = true) (sess : Nat) (idx : Nat) (sub : Nat) (r : ObjRow) (v : Int) (x : Session) (s : State) : (writeInt sess idx sub r v x s).2.core R = s.core R := by
  unfold writeInt
  repeat' (first | with_reducible rfl | split | simp only [↓State.updSession_core (sb hm rfl), ↓State.txnAdd_core (sb hm rfl), ↓State.applyVal_core (sb hm rfl), ↓State.dropOwnHeld_core (sb hm rfl)])

theorem writeBlob_core {R : Nat} (hm : inMask 78 R = true) (idx : Nat) (sub : Nat) (r : ObjRow) (b : Bytes) (x : Session) (s : State) : (writeBlob idx sub r b x s).2.core R = s.core R := by
  unfold writeBlob
  repeat' (first | with_reducible rfl | rw [core_foldl] | intro _ | split | simp only [↓State.countDenial_core (sb hm rfl), ↓State.applyVal_core (sb hm rfl)])


/-- What every act that a table of acts names keeps. -/
def KeepsAct {α : Type} (R : Nat) (o : Option (Session → State → α × State)) : Prop :=
  ∀ act, o = some act → ∀ x s, (act x s).2.core R = s.core R

theorem keepsAct_none {R : Nat} {α : Type} : KeepsAct R (none : Option (Session → State → α × State)) := by
  intro act h
  cases h

theorem keepsAct_ite {R : Nat} {α : Type} (c : Prop) [Decidable c] (a : Session → State → α × State)
    (o : Option (Session → State → α × State)) (ha : ∀ x s, (a x s).2.core R = s.core R) (ho : KeepsAct R o) :
    KeepsAct R (if c then some a else o) := by
  intro act h
  split at h
  · cases h; exact ha
  · exact ho act h

theorem cmdAct_core {R : Nat} (hm : inMask 4194302 R = true) (sess idx sub v : Nat) : KeepsAct R (cmdAct sess idx sub v) := by
  unfold cmdAct
  dsimp only
  repeat' (first | exact keepsAct_none | apply keepsAct_ite)
  all_goals intro x s
  all_goals repeat' split
  all_goals first
    | with_reducible rfl
    | rw [stageDelete_core (sb hm rfl)]
    | rw [discardStaged_core (sb hm rfl)]
    | rw [abortCommit_core (sb hm rfl)]
    | rw [discardAll_core (sb hm rfl)]
    | rw [startCommit_core (sb hm rfl)]
    | rw [requestRealign_core (sb hm rfl)]
    | rw [setGrandmasterTime_core (sb hm rfl)]
    | rw [clearLane_core (sb hm rfl)]
    | rw [fdbFlush_core (sb hm rfl)]
    | rw [clearStreamCounters_core (sb hm rfl)]
    | rw [sessionFlush_core (sb hm rfl)]
    | rw [clearPassCounters_core (sb hm rfl)]
    | rw [busOffRecovery_core (sb hm rfl)]
    | rw [clearEdge_core (sb hm rfl)]
    | rw [clearGateway_core (sb hm rfl)]
    | rw [clearCirque_core (sb hm rfl)]
    | rw [annStart_core (sb hm rfl)]
    | rw [annAbort_core (sb hm rfl)]
    | rw [clipErase_core (sb hm rfl)]
    | rw [fuseAct_core (sb hm rfl)]
    | rw [lifeCycleAct_core (sb hm rfl)]
    | rw [abortJobAct_core (sb hm rfl)]
    | rw [clearMacsec_core (sb hm rfl)]
    | rw [standbyEnter_core (sb hm rfl)]
    | rw [sleepRequestAct_core (sb hm rfl)]
    | rw [detachAct_core (sb hm rfl)]
    | rw [updateClaim_core (sb hm rfl)]
    | rw [updateAbort_core (sb hm rfl)]
    | rw [updateVerify_core (sb hm rfl)]
    | rw [updateActivate_core (sb hm rfl)]
    | rw [updateConfirm_core (sb hm rfl)]
    | rw [updateRelease_core (sb hm rfl)]
    | rw [laneTestStop_core (sb hm rfl)]
    | rw [laneTestStart_core (sb hm rfl)]
    | rw [eyeMeasureAct_core (sb hm rfl)]
    | rw [saddleTestAct_core (sb hm rfl)]
    | rw [clearMonitors_core (sb hm rfl)]
    | rw [clearBridgeCounters_core (sb hm rfl)]
    | rw [marchStart_core (sb hm rfl)]
    | rw [marchAbort_core (sb hm rfl)]
    | (rw [whenActive_core (sb hm rfl)]; intro y z; exact startCommit_core (sb hm rfl) ..)

theorem domAct_core {R : Nat} (hm : inMask 4194302 R = true) (sess idx sub : Nat) (b : Bytes) : KeepsAct R (domAct sess idx sub b) := by
  unfold domAct
  repeat' (first | exact keepsAct_none | apply keepsAct_ite)
  all_goals intro x s
  all_goals first
    | rw [slotRecordsWrite_core (sb hm rfl)]
    | rw [trustAnchorWrite_core (sb hm rfl)]
    | (rw [writeDom_core (sb hm rfl)]; intro x y; first
        | rw [stageRecord_core (sb hm rfl)]
        | rw [writePulse_core (sb hm rfl)]
        | rw [staticEntryWrite_core (sb hm rfl)]
        | rw [staticEntryDelete_core (sb hm rfl)]
        | rw [clipWrite_core (sb hm rfl)]
        | rw [importGo_core (sb hm rfl)]
        | rw [tamperClearAct_core (sb hm rfl)]
        | rw [attestNonceAct_core (sb hm rfl)]
        | rw [spewardJobAct_core (sb hm rfl)]
        | rw [imageBlockAct_core (sb hm rfl)]
        )

theorem writeWhole_core {R : Nat} (hm : inMask 4194302 R = true) (who : Who) (idx sub : Nat) (b : Bytes) (x : Session) (s : State) :
    (writeWhole who idx sub b x s).2.core R = s.core R := by
  unfold writeWhole
  dsimp only
  repeat' split
  all_goals first
    | with_reducible rfl
    | rw [State.countDenial_core (sb hm rfl)]
    | rw [State.touch_core (sb hm rfl)]
    | rw [writeInt_core (sb hm rfl), State.touch_core (sb hm rfl)]
    | rw [writeBlob_core (sb hm rfl), State.touch_core (sb hm rfl)]
    | rw [emergencyCommand_core (sb hm rfl), State.touch_core (sb hm rfl)]
    | (rw [writeCmd_core (sb hm rfl), State.touch_core (sb hm rfl)]; intro x y; exact restoreFactory_core (sb hm rfl) ..)
    | (rename_i h _; rw [State.reply_core (sb hm rfl), writeCmd_core (sb hm rfl), State.touch_core (sb hm rfl)]; intro x y; exact cmdAct_core hm _ _ _ _ _ h _ _)
    | (rename_i h _; rw [writeCmd_core (sb hm rfl), State.touch_core (sb hm rfl)]; intro x y; exact cmdAct_core hm _ _ _ _ _ h _ _)
    | (rename_i h; rw [domAct_core hm _ _ _ _ _ h, State.touch_core (sb hm rfl)])






theorem writeFrag_core {R : Nat} (hm : inMask 4194302 R = true) (who : Who) (idx : Nat) (sub : Nat) (off : Nat) (last : Bool) (b : Bytes) (x : Session) (s : State) : (writeFrag who idx sub off last b x s).2.core R = s.core R := by
  unfold writeFrag
  repeat' (first | with_reducible rfl | split | simp only [↓State.countDenial_core (sb hm rfl), ↓writeWhole_core (sb hm rfl), ↓State.touch_core (sb hm rfl), ↓State.updSession_core (sb hm rfl)])

theorem State.keepSnap_core {R : Nat} (hm : inMask 16 R = true) (s : State) (sess : Nat) (x : Session) (c : CounterSet) : (State.keepSnap s sess x c).core R = s.core R := by
  simp only [State.keepSnap, ↓core_access (sb hm rfl), ↓core_ite, ite_self]

theorem readFrag_core {R : Nat} (hm : inMask 65552 R = true) (sess : Nat) (idx : Nat) (sub : Nat) (off : Nat) (inForce : Bool) (snapshot : Bool) (x : Session) (s : State) : (readFrag sess idx sub off inForce snapshot x s).2.core R = s.core R := by
  unfold readFrag
  repeat' (first | with_reducible rfl | split | simp only [↓State.countDenial_core (sb hm rfl), ↓State.touch_core (sb hm rfl), ↓State.updSession_core (sb hm rfl), ↓readCaptures_core (sb hm rfl), ↓State.keepSnap_core (sb hm rfl)])

theorem dtlsHandshake_core {R : Nat} (hm : inMask 48 R = true) (path : Path) (assoc : Nat) (chain : Option Trust) (valid : Bool) (slip : Option Slip) (s : State) : (dtlsHandshake path assoc chain valid slip s).core R = s.core R := by
  unfold dtlsHandshake
  repeat' (first | with_reducible rfl | split | simp only [↓State.logLead_core (sb hm rfl), ↓State.inc32_core (sb hm rfl), ↓core_access (sb hm rfl), ↓core_ite, ite_self])

theorem execDtlsHandshake_core (t : Nat) (path : Path) (assoc : Nat) (chain : Option Trust) (valid : Bool) (slip : Option Slip) (s : State) (t' : State) (h : (execDtlsHandshake t path assoc chain valid slip s) = .next t') : t'.core 4194352 = s.core 4194352 := by
  have hm : inMask 4194352 4194352 = true := rfl
  simp only [execDtlsHandshake, Host.Outcome.next.injEq] at h
  subst h
  simp only [↓dtlsHandshake_core (sb hm rfl), ↓State.begin_core (sb hm rfl)]

theorem openAct_core {R : Nat} (hm : inMask 4112 R = true) (who : Who) (role : Nat) (k : Option Token) (s : State) : (openAct who role k s).core R = s.core R := by
  unfold openAct
  repeat' (first | with_reducible rfl | split | simp only [↓State.reply_core (sb hm rfl), ↓State.inc32_core (sb hm rfl), ↓core_access (sb hm rfl)])

theorem execOpen_core (t : Nat) (who : Who) (role : Nat) (token : Option Token) (s : State) (t' : State) (h : (execOpen t who role token s) = .next t') : t'.core 4198416 = s.core 4198416 := by
  have hm : inMask 4198416 4198416 = true := rfl
  simp only [execOpen, Host.Outcome.next.injEq] at h
  subst h
  simp only [↓openAct_core (sb hm rfl), ↓State.begin_core (sb hm rfl)]

theorem sessionIdle_core {R : Nat} (hm : inMask 1048592 R = true) (n : Nat) (s : State) : (sessionIdle n s).core R = s.core R := by
  unfold sessionIdle
  repeat' (first | with_reducible rfl | split | simp only [↓State.endSession_core (sb hm rfl)])

theorem execSessionIdleTimeout_core (t : Nat) (sess : Nat) (s : State) (t' : State) (h : (execSessionIdleTimeout t sess s) = .next t') : t'.core 5242896 = s.core 5242896 := by
  have hm : inMask 5242896 5242896 = true := rfl
  simp only [execSessionIdleTimeout, Host.Outcome.next.injEq] at h
  subst h
  simp only [↓sessionIdle_core (sb hm rfl), ↓State.begin_core (sb hm rfl)]

theorem snapshotExpiry_core {R : Nat} (hm : inMask 16 R = true) (n : Nat) (s : State) : (snapshotExpiry n s).core R = s.core R := by
  unfold snapshotExpiry
  repeat' (first | with_reducible rfl | split | simp only [↓State.updSession_core (sb hm rfl)])

theorem execSnapshotExpiry_core (t : Nat) (sess : Nat) (s : State) (t' : State) (h : (execSnapshotExpiry t sess s) = .next t') : t'.core 4194320 = s.core 4194320 := by
  have hm : inMask 4194320 4194320 = true := rfl
  simp only [execSnapshotExpiry, Host.Outcome.next.injEq] at h
  subst h
  simp only [↓snapshotExpiry_core (sb hm rfl), ↓State.begin_core (sb hm rfl)]

theorem forwardReq_core {R : Nat} (hm : inMask 4112 R = true) (q : Req) (m : Msg) (x : Session) (s : State) : (forwardReq q m x s).core R = s.core R := by
  simp only [forwardReq, ↓State.answer_core (sb hm rfl), ↓State.countDenial_core (sb hm rfl), ↓State.updSession_core (sb hm rfl), ↓State.emit_core (sb hm rfl), ↓State.inc32_core (sb hm rfl), ↓core_access (sb hm rfl), ↓core_ite, ite_self]

theorem serveForward_core {R : Nat} (hm : inMask 528400 R = true) (q : Req) (m : Msg) (s : State) : (serveForward q m s).core R = s.core R := by
  unfold serveForward
  repeat' (first | with_reducible rfl | split | simp only [↓State.reply_core (sb hm rfl), ↓forwardReq_core (sb hm rfl), ↓State.traffic_core (sb hm rfl)])

theorem remoteSession_core {R : Nat} (hm : inMask 16 R = true) (k : Nat) (who : Who) (e : FwdExt) (s : State) : (remoteSession k who e s).core R = s.core R := by
  unfold remoteSession
  repeat' (first | with_reducible rfl | split | simp only [↓core_access (sb hm rfl)])

theorem route_core {R : Nat} (hm : inMask 528400 R = true) (q : Req) (m : Msg) (act : Who →   Session → State → Response × State) (s : State) (hact : ∀ y0 y1 y2, (act y0 y1 y2).2.core R = y2.core R) : (route q m act s).core R = s.core R := by
  unfold route
  repeat' (first | with_reducible rfl | rw [core_foldl] | rw [serve_core (sb hm rfl)] | intro _ | split | simp only [↓hact, ↓State.reply_core (sb hm rfl), ↓State.countDenial_core (sb hm rfl), ↓State.inc32_core (sb hm rfl), ↓remoteSession_core (sb hm rfl), ↓serveForward_core (sb hm rfl)])

theorem forwardTimeout_core {R : Nat} (hm : inMask 4112 R = true) (sess : Nat) (s : State) : (forwardTimeout sess s).core R = s.core R := by
  unfold forwardTimeout
  repeat' (first | with_reducible rfl | split | simp only [↓State.answer_core (sb hm rfl), ↓core_access (sb hm rfl)])

theorem execForwardTimeout_core (t : Nat) (sess : Nat) (s : State) (t' : State) (h : (execForwardTimeout t sess s) = .next t') : t'.core 4198416 = s.core 4198416 := by
  have hm : inMask 4198416 4198416 = true := rfl
  simp only [execForwardTimeout, Host.Outcome.next.injEq] at h
  subst h
  simp only [↓forwardTimeout_core (sb hm rfl), ↓State.begin_core (sb hm rfl)]

theorem forwardedResponse_core {R : Nat} (hm : inMask 4112 R = true) (sess : Nat) (seq : Nat) (r : Response) (s : State) : (forwardedResponse sess seq r s).core R = s.core R := by
  unfold forwardedResponse
  repeat' (first | with_reducible rfl | split | simp only [↓State.answer_core (sb hm rfl), ↓core_access (sb hm rfl)])

theorem execForwardedResponse_core (t : Nat) (sess : Nat) (seq : Nat) (status : Status) (data : Bytes) (last : Bool) (s : State) (t' : State) (h : (execForwardedResponse t sess seq status data last s) = .next t') : t'.core 4198416 = s.core 4198416 := by
  have hm : inMask 4198416 4198416 = true := rfl
  simp only [execForwardedResponse, Host.Outcome.next.injEq] at h
  subst h
  simp only [↓forwardedResponse_core (sb hm rfl), ↓State.begin_core (sb hm rfl)]

theorem execRead_core (t : Nat) (q : Req) (idx : Nat) (sub : Nat) (off : Nat) (s : State) (t' : State) (h : (execRead t q idx sub off s) = .next t') : t'.core 4788240 = s.core 4788240 := by
  have hm : inMask 4788240 4788240 = true := rfl
  simp only [execRead, Host.Outcome.next.injEq] at h
  subst h
  repeat' (first | with_reducible rfl | rw [core_foldl] | rw [route_core (sb hm rfl)] | intro _ | split | simp only [↓readFrag_core (sb hm rfl), ↓State.begin_core (sb hm rfl)])

theorem execWrite_core (t : Nat) (q : Req) (idx : Nat) (sub : Nat) (off : Nat) (last : Bool) (data : Bytes) (s : State) (t' : State) (h : (execWrite t q idx sub off last data s) = .next t') : t'.core 8388606 = s.core 8388606 := by
  have hm : inMask 8388606 8388606 = true := rfl
  simp only [execWrite, Host.Outcome.next.injEq] at h
  subst h
  repeat' (first | with_reducible rfl | rw [core_foldl] | rw [route_core (sb hm rfl)] | intro _ | split | simp only [↓writeFrag_core (sb hm rfl), ↓State.begin_core (sb hm rfl)])

theorem describeAct_core {R : Nat} (hm : inMask 0 R = true) (idx : Nat) (sub : Nat) (x : Session) (s : State) : (describeAct idx sub x s).2.core R = s.core R := by
  unfold describeAct
  repeat' (first | with_reducible rfl | split | simp only [↓core_eta, ↓core_ite, ite_self])

theorem execDescribe_core (t : Nat) (q : Req) (idx : Nat) (sub : Nat) (s : State) (t' : State) (h : (execDescribe t q idx sub s) = .next t') : t'.core 4722704 = s.core 4722704 := by
  have hm : inMask 4722704 4722704 = true := rfl
  simp only [execDescribe, Host.Outcome.next.injEq] at h
  subst h
  repeat' (first | with_reducible rfl | rw [core_foldl] | rw [route_core (sb hm rfl)] | intro _ | split | simp only [↓describeAct_core (sb hm rfl), ↓State.begin_core (sb hm rfl)])

theorem execPing_core (t : Nat) (q : Req) (s : State) (t' : State) (h : (execPing t q s) = .next t') : t'.core 4722704 = s.core 4722704 := by
  have hm : inMask 4722704 4722704 = true := rfl
  simp only [execPing, Host.Outcome.next.injEq] at h
  subst h
  repeat' (first | with_reducible rfl | rw [core_foldl] | rw [route_core (sb hm rfl)] | intro _ | split | simp only [↓State.begin_core (sb hm rfl)])

theorem closeAct_core {R : Nat} (hm : inMask 1576976 R = true) (q : Req) (s : State) : (closeAct q s).core R = s.core R := by
  unfold closeAct
  repeat' (first | with_reducible rfl | split | simp only [↓State.reply_core (sb hm rfl), ↓State.endSession_core (sb hm rfl), ↓State.traffic_core (sb hm rfl)])

theorem execClose_core (t : Nat) (q : Req) (s : State) (t' : State) (h : (execClose t q s) = .next t') : t'.core 5771280 = s.core 5771280 := by
  have hm : inMask 5771280 5771280 = true := rfl
  simp only [execClose, Host.Outcome.next.injEq] at h
  subst h
  simp only [↓closeAct_core (sb hm rfl), ↓State.begin_core (sb hm rfl)]

theorem State.dropSnap_core {R : Nat} (hm : inMask 16 R = true) (s : State) (sess : Nat) : (State.dropSnap s sess).core R = s.core R := by
  simp only [State.dropSnap, ↓core_access (sb hm rfl)]

theorem txnBegin_core {R : Nat} (hm : inMask 16 R = true) (sess : Nat) (x : Session) (s : State) : (txnBegin sess x s).2.core R = s.core R := by
  unfold txnBegin
  repeat' (first | with_reducible rfl | split | simp only [↓State.updSession_core (sb hm rfl), ↓State.dropSnap_core (sb hm rfl)])

theorem txnAbort_core {R : Nat} (hm : inMask 16 R = true) (sess : Nat) (x : Session) (s : State) : (txnAbort sess x s).2.core R = s.core R := by
  unfold txnAbort
  repeat' (first | with_reducible rfl | split | simp only [↓State.updSession_core (sb hm rfl), ↓State.dropSnap_core (sb hm rfl)])

theorem txnApply_core {R : Nat} (hm : inMask 78 R = true) (sess : Nat) (s : State) (w : Nat × Val) : (txnApply sess s w).core R = s.core R := by
  unfold txnApply
  repeat' (first | with_reducible rfl | split | simp only [↓State.applyVal_core (sb hm rfl), ↓State.mirrorVal_core (sb hm rfl), ↓core_held (sb hm rfl)])

theorem txnEnd_core {R : Nat} (hm : inMask 94 R = true) (sess : Nat) (x : Session) (s : State) : (txnEnd sess x s).2.core R = s.core R := by
  unfold txnEnd
  repeat' (first | with_reducible rfl | rw [core_foldl] | intro _ | split | simp only [↓txnApply_core (sb hm rfl), ↓State.updSession_core (sb hm rfl), ↓State.dropSnap_core (sb hm rfl)])

theorem execTxnBegin_core (t : Nat) (q : Req) (s : State) (t' : State) (h : (execTxnBegin t q s) = .next t') : t'.core 4722704 = s.core 4722704 := by
  have hm : inMask 4722704 4722704 = true := rfl
  simp only [execTxnBegin, Host.Outcome.next.injEq] at h
  subst h
  repeat' (first | with_reducible rfl | rw [core_foldl] | rw [route_core (sb hm rfl)] | intro _ | split | simp only [↓txnBegin_core (sb hm rfl), ↓State.begin_core (sb hm rfl)])

theorem execTxnEnd_core (t : Nat) (q : Req) (s : State) (t' : State) (h : (execTxnEnd t q s) = .next t') : t'.core 4722782 = s.core 4722782 := by
  have hm : inMask 4722782 4722782 = true := rfl
  simp only [execTxnEnd, Host.Outcome.next.injEq] at h
  subst h
  repeat' (first | with_reducible rfl | rw [core_foldl] | rw [route_core (sb hm rfl)] | intro _ | split | simp only [↓txnEnd_core (sb hm rfl), ↓State.begin_core (sb hm rfl)])

theorem execTxnAbort_core (t : Nat) (q : Req) (s : State) (t' : State) (h : (execTxnAbort t q s) = .next t') : t'.core 4722704 = s.core 4722704 := by
  have hm : inMask 4722704 4722704 = true := rfl
  simp only [execTxnAbort, Host.Outcome.next.injEq] at h
  subst h
  repeat' (first | with_reducible rfl | rw [core_foldl] | rw [route_core (sb hm rfl)] | intro _ | split | simp only [↓txnAbort_core (sb hm rfl), ↓State.begin_core (sb hm rfl)])

theorem State.updNode_core {R : Nat} (hm : inMask 262144 R = true) (s : State) (f : NodeSt → NodeSt) : (State.updNode s f).core R = s.core R := by
  simp only [State.updNode, ↓core_edge (sb hm rfl)]

theorem State.nodeSend_core {R : Nat} (hm : inMask 262144 R = true) (s : State) (num : Nat) (fmt : Nat) (id : Nat) (b : Bytes) : (State.nodeSend s num fmt id b).core R = s.core R := by
  unfold State.nodeSend
  repeat' (first | with_reducible rfl | split | simp only [↓State.canQueue_core (sb hm rfl)])

theorem State.nodeState_core {R : Nat} (hm : inMask 262144 R = true) (s : State) (v : Nat) : (State.nodeState s v).core R = s.core R := by
  simp only [State.nodeState, ↓State.nodeSend_core (sb hm rfl)]

theorem State.enterOperational_core {R : Nat} (hm : inMask 262144 R = true) (s : State) : (State.enterOperational s).core R = s.core R := by
  simp only [State.enterOperational, ↓State.updNode_core (sb hm rfl), ↓State.setN_core (sb hm rfl)]

theorem State.nodeBoot_core {R : Nat} (hm : inMask 262160 R = true) (s : State) : (State.nodeBoot s).core R = s.core R := by
  simp only [State.nodeBoot, ↓State.updNode_core (sb hm rfl), ↓State.nodeState_core (sb hm rfl), ↓State.enterOperational_core (sb hm rfl), ↓State.setN_core (sb hm rfl), ↓core_access (sb hm rfl), ↓core_ite, ite_self]

theorem State.nodeHalt_core {R : Nat} (hm : inMask 262160 R = true) (s : State) : (State.nodeHalt s).core R = s.core R := by
  simp only [State.nodeHalt, ↓State.updNode_core (sb hm rfl), ↓State.setN_core (sb hm rfl), ↓core_access (sb hm rfl)]

theorem State.nodeBoundary_core {R : Nat} (hm : inMask 262160 R = true) (s : State) : (State.nodeBoundary s).core R = s.core R := by
  unfold State.nodeBoundary
  repeat' (first | with_reducible rfl | split | simp only [↓State.nodeBoot_core (sb hm rfl), ↓State.nodeHalt_core (sb hm rfl)])

theorem State.sdoIdle_core {R : Nat} (hm : inMask 262144 R = true) (s : State) : (State.sdoIdle s).core R = s.core R := by
  simp only [State.sdoIdle, ↓State.updNode_core (sb hm rfl)]

theorem nmtStart_core {R : Nat} (hm : inMask 262144 R = true) (node : Nat) (s : State) : (nmtStart node s).core R = s.core R := by
  simp only [nmtStart, ↓State.enterOperational_core (sb hm rfl), ↓core_ite, ite_self]

theorem nmtStop_core {R : Nat} (hm : inMask 262144 R = true) (node : Nat) (s : State) : (nmtStop node s).core R = s.core R := by
  simp only [nmtStop, ↓State.setN_core (sb hm rfl), ↓State.sdoIdle_core (sb hm rfl), ↓core_ite, ite_self]

theorem nmtPreOperational_core {R : Nat} (hm : inMask 0 R = true) (node : Nat) (s : State) : (nmtPreOperational node s).core R = s.core R := by
  simp only [nmtPreOperational, ↓State.setN_core (sb hm rfl), ↓core_ite, ite_self]

theorem nmtReset_core {R : Nat} (hm : inMask 262160 R = true) (node : Nat) (s : State) : (nmtReset node s).core R = s.core R := by
  simp only [nmtReset, ↓State.nodeBoot_core (sb hm rfl), ↓core_ite, ite_self]

theorem execNmtStart_core (t : Nat) (node : Nat) (s : State) (t' : State) (h : (execNmtStart t node s) = .next t') : t'.core 4456448 = s.core 4456448 := by
  have hm : inMask 4456448 4456448 = true := rfl
  simp only [execNmtStart, Host.Outcome.next.injEq] at h
  subst h
  simp only [↓nmtStart_core (sb hm rfl), ↓State.begin_core (sb hm rfl)]

theorem execNmtStop_core (t : Nat) (node : Nat) (s : State) (t' : State) (h : (execNmtStop t node s) = .next t') : t'.core 4456448 = s.core 4456448 := by
  have hm : inMask 4456448 4456448 = true := rfl
  simp only [execNmtStop, Host.Outcome.next.injEq] at h
  subst h
  simp only [↓nmtStop_core (sb hm rfl), ↓State.begin_core (sb hm rfl)]

theorem execNmtEnterPreOperational_core (t : Nat) (node : Nat) (s : State) (t' : State) (h : (execNmtEnterPreOperational t node s) = .next t') : t'.core 4194304 = s.core 4194304 := by
  have hm : inMask 4194304 4194304 = true := rfl
  simp only [execNmtEnterPreOperational, Host.Outcome.next.injEq] at h
  subst h
  simp only [↓nmtPreOperational_core (sb hm rfl), ↓State.begin_core (sb hm rfl)]

theorem execNmtResetNode_core (t : Nat) (node : Nat) (s : State) (t' : State) (h : (execNmtResetNode t node s) = .next t') : t'.core 4456464 = s.core 4456464 := by
  have hm : inMask 4456464 4456464 = true := rfl
  simp only [execNmtResetNode, Host.Outcome.next.injEq] at h
  subst h
  simp only [↓nmtReset_core (sb hm rfl), ↓State.begin_core (sb hm rfl)]

theorem nmtResetComm_core {R : Nat} (hm : inMask 262160 R = true) (node : Nat) (s : State) : (nmtResetComm node s).core R = s.core R := by
  simp only [nmtResetComm, ↓nmtReset_core (sb hm rfl)]

theorem execNmtResetCommunication_core (t : Nat) (node : Nat) (s : State) (t' : State) (h : (execNmtResetCommunication t node s) = .next t') : t'.core 4456464 = s.core 4456464 := by
  have hm : inMask 4456464 4456464 = true := rfl
  simp only [execNmtResetCommunication, Host.Outcome.next.injEq] at h
  subst h
  simp only [↓nmtResetComm_core (sb hm rfl), ↓State.begin_core (sb hm rfl)]

theorem heartbeatProducer_core {R : Nat} (hm : inMask 262144 R = true) (s : State) : (heartbeatProducer s).core R = s.core R := by
  simp only [heartbeatProducer, ↓State.nodeState_core (sb hm rfl), ↓core_ite, ite_self]

theorem execHeartbeatProducerTimer_core (t : Nat) (s : State) (t' : State) (h : (execHeartbeatProducerTimer t s) = .next t') : t'.core 4456448 = s.core 4456448 := by
  have hm : inMask 4456448 4456448 = true := rfl
  simp only [execHeartbeatProducerTimer, Host.Outcome.next.injEq] at h
  subst h
  simp only [↓heartbeatProducer_core (sb hm rfl), ↓State.begin_core (sb hm rfl)]

theorem heartbeatConsumer_core {R : Nat} (hm : inMask 262144 R = true) (k : Nat) (s : State) : (heartbeatConsumer k s).core R = s.core R := by
  unfold heartbeatConsumer
  repeat' (first | with_reducible rfl | split | simp only [↓State.updNode_core (sb hm rfl), ↓State.inc32_core (sb hm rfl), ↓core_ite, ite_self])

theorem execHeartbeatConsumerTimeout_core (t : Nat) (entry : Nat) (s : State) (t' : State) (h : (execHeartbeatConsumerTimeout t entry s) = .next t') : t'.core 4456448 = s.core 4456448 := by
  have hm : inMask 4456448 4456448 = true := rfl
  simp only [execHeartbeatConsumerTimeout, Host.Outcome.next.injEq] at h
  subst h
  simp only [↓heartbeatConsumer_core (sb hm rfl), ↓State.begin_core (sb hm rfl)]

theorem State.withNodeSession_core {R : Nat} (hm : inMask 16 R = true) (s : State) (role : Role) : (State.withNodeSession s role).core R = s.core R := by
  simp only [State.withNodeSession, ↓core_access (sb hm rfl)]

theorem nodeWrite_core {R : Nat} (hm : inMask 4194302 R = true) (role : Role) (m : Nat) (b : Bytes) (s : State) : (nodeWrite role m b s).2.core R = s.core R := by
  unfold nodeWrite
  repeat' (first | with_reducible rfl | split | simp only [↓State.withNodeSession_core (sb hm rfl), ↓writeWhole_core (sb hm rfl)])

theorem nodeRead_core {R : Nat} (hm : inMask 65552 R = true) (role : Role) (m : Nat) (s : State) : (nodeRead role m s).2.2.core R = s.core R := by
  unfold nodeRead
  repeat' (first | with_reducible rfl | split | simp only [↓State.withNodeSession_core (sb hm rfl), ↓readFrag_core (sb hm rfl), ↓State.updSession_core (sb hm rfl)])

theorem applyRpdo_core {R : Nat} (hm : inMask 4194302 R = true) (l : List Nat) (b : Bytes) (s : State) : (applyRpdo l b s).core R = s.core R := by
  unfold applyRpdo
  rw [core_fold2]
  intro p a
  exact nodeWrite_core (sb hm rfl) ..






theorem rpdoReceive_core {R : Nat} (hm : inMask 4194302 R = true) (n : Nat) (b : Bytes) (s : State) : (rpdoReceive n b s).core R = s.core R := by
  simp only [rpdoReceive, ↓State.inc32_core (sb hm rfl), ↓State.updNode_core (sb hm rfl), ↓applyRpdo_core (sb hm rfl), ↓core_ite, ite_self]

theorem execRpdoReceive_core (t : Nat) (n : Nat) (data : Bytes) (s : State) (t' : State) (h : (execRpdoReceive t n data s) = .next t') : t'.core 8388606 = s.core 8388606 := by
  have hm : inMask 8388606 8388606 = true := rfl
  simp only [execRpdoReceive, Host.Outcome.next.injEq] at h
  subst h
  simp only [↓rpdoReceive_core (sb hm rfl), ↓State.begin_core (sb hm rfl)]

theorem rpdoEventTimer_core {R : Nat} (hm : inMask 262144 R = true) (n : Nat) (s : State) : (rpdoEventTimer n s).core R = s.core R := by
  unfold rpdoEventTimer
  repeat' (first | with_reducible rfl | split | simp only [↓State.updNode_core (sb hm rfl), ↓State.inc32_core (sb hm rfl), ↓core_ite, ite_self])

theorem execRpdoEventTimer_core (t : Nat) (n : Nat) (s : State) (t' : State) (h : (execRpdoEventTimer t n s) = .next t') : t'.core 4456448 = s.core 4456448 := by
  have hm : inMask 4456448 4456448 = true := rfl
  simp only [execRpdoEventTimer, Host.Outcome.next.injEq] at h
  subst h
  simp only [↓rpdoEventTimer_core (sb hm rfl), ↓State.begin_core (sb hm rfl)]

theorem State.sendTpdo_core {R : Nat} (hm : inMask 262144 R = true) (s : State) (n : Nat) : (State.sendTpdo s n).core R = s.core R := by
  unfold State.sendTpdo
  repeat' (first | with_reducible rfl | split | simp only [↓State.nodeSend_core (sb hm rfl), ↓State.updNode_core (sb hm rfl)])

theorem tpdoEventTimer_core {R : Nat} (hm : inMask 262144 R = true) (n : Nat) (s : State) : (tpdoEventTimer n s).core R = s.core R := by
  simp only [tpdoEventTimer, ↓State.sendTpdo_core (sb hm rfl), ↓State.updNode_core (sb hm rfl), ↓core_ite, ite_self]

theorem execTpdoEventTimer_core (t : Nat) (n : Nat) (s : State) (t' : State) (h : (execTpdoEventTimer t n s) = .next t') : t'.core 4456448 = s.core 4456448 := by
  have hm : inMask 4456448 4456448 = true := rfl
  simp only [execTpdoEventTimer, Host.Outcome.next.injEq] at h
  subst h
  simp only [↓tpdoEventTimer_core (sb hm rfl), ↓State.begin_core (sb hm rfl)]

theorem tpdoInhibitTime_core {R : Nat} (hm : inMask 262144 R = true) (n : Nat) (s : State) : (tpdoInhibitTime n s).core R = s.core R := by
  simp only [tpdoInhibitTime, ↓State.sendTpdo_core (sb hm rfl), ↓core_ite, ite_self]

theorem execTpdoInhibitTime_core (t : Nat) (n : Nat) (s : State) (t' : State) (h : (execTpdoInhibitTime t n s) = .next t') : t'.core 4456448 = s.core 4456448 := by
  have hm : inMask 4456448 4456448 = true := rfl
  simp only [execTpdoInhibitTime, Host.Outcome.next.injEq] at h
  subst h
  simp only [↓tpdoInhibitTime_core (sb hm rfl), ↓State.begin_core (sb hm rfl)]

theorem State.syncTpdo_core {R : Nat} (hm : inMask 262144 R = true) (s : State) (counter : Nat) (n : Nat) : (State.syncTpdo s counter n).core R = s.core R := by
  simp only [State.syncTpdo, ↓State.updNode_core (sb hm rfl), ↓State.sendTpdo_core (sb hm rfl), ↓core_ite, ite_self]

theorem canSync_core {R : Nat} (hm : inMask 4194302 R = true) (counter : Nat) (s : State) : (canSync counter s).core R = s.core R := by
  unfold canSync
  repeat' (first | with_reducible rfl | rw [core_foldl] | intro _ | split | simp only [↓State.updNode_core (sb hm rfl), ↓applyRpdo_core (sb hm rfl), ↓State.syncTpdo_core (sb hm rfl)])

theorem execSyncReceive_core (t : Nat) (counter : Nat) (s : State) (t' : State) (h : (execSyncReceive t counter s) = .next t') : t'.core 8388606 = s.core 8388606 := by
  have hm : inMask 8388606 8388606 = true := rfl
  simp only [execSyncReceive, Host.Outcome.next.injEq] at h
  subst h
  simp only [↓canSync_core (sb hm rfl), ↓State.begin_core (sb hm rfl)]

theorem State.restartPdos_core {R : Nat} (hm : inMask 262144 R = true) (s : State) (ks : List Nat) : (State.restartPdos s ks).core R = s.core R := by
  simp only [State.restartPdos, ↓State.updNode_core (sb hm rfl)]

theorem State.sdoReply_core {R : Nat} (hm : inMask 262144 R = true) (s : State) (b : Bytes) : (State.sdoReply s b).core R = s.core R := by
  simp only [State.sdoReply, ↓State.nodeSend_core (sb hm rfl)]

theorem State.sdoAbort_core {R : Nat} (hm : inMask 262144 R = true) (s : State) (m : Nat) (code : Nat) : (State.sdoAbort s m code).core R = s.core R := by
  simp only [State.sdoAbort, ↓State.sdoReply_core (sb hm rfl), ↓State.sdoIdle_core (sb hm rfl)]

theorem State.sdoRefuse_core {R : Nat} (hm : inMask 262144 R = true) (s : State) (m : Nat) (st : Status) : (State.sdoRefuse s m st).core R = s.core R := by
  simp only [State.sdoRefuse, ↓State.sdoAbort_core (sb hm rfl)]

theorem State.sdoOpen_core {R : Nat} (hm : inMask 262144 R = true) (s : State) (ph : Nat) (m : Nat) (role : Role) (b : Bytes) (blk : Nat) (crc : Bool) : (State.sdoOpen s ph m role b blk crc).core R = s.core R := by
  simp only [State.sdoOpen, ↓State.updNode_core (sb hm rfl)]

theorem State.sdoFinish_core {R : Nat} (hm : inMask 4194302 R = true) (s : State) (role : Role) (m : Nat) (b : Bytes) (reply : Bytes) : (State.sdoFinish s role m b reply).core R = s.core R := by
  simp only [State.sdoFinish, ↓nodeWrite_core (sb hm rfl), ↓State.sdoReply_core (sb hm rfl), ↓State.sdoIdle_core (sb hm rfl), ↓State.sdoRefuse_core (sb hm rfl), ↓core_ite, ite_self]

theorem sdoInitDown_core {R : Nat} (hm : inMask 4194302 R = true) (c : Nat) (m : Nat) (d : Bytes) (s : State) : (sdoInitDown c m d s).core R = s.core R := by
  simp only [sdoInitDown, ↓State.sdoFinish_core (sb hm rfl), ↓State.sdoIdle_core (sb hm rfl), ↓State.sdoRefuse_core (sb hm rfl), ↓State.countDenial_core (sb hm rfl), ↓State.sdoReply_core (sb hm rfl), ↓State.sdoOpen_core (sb hm rfl), ↓core_ite, ite_self]

theorem sdoDownSeg_core {R : Nat} (hm : inMask 4194302 R = true) (c : Nat) (d : Bytes) (s : State) : (sdoDownSeg c d s).core R = s.core R := by
  simp only [sdoDownSeg, ↓State.sdoAbort_core (sb hm rfl), ↓State.sdoFinish_core (sb hm rfl), ↓State.sdoReply_core (sb hm rfl), ↓State.updNode_core (sb hm rfl), ↓core_ite, ite_self]

theorem sdoInitUp_core {R : Nat} (hm : inMask 327696 R = true) (m : Nat) (s : State) : (sdoInitUp m s).core R = s.core R := by
  simp only [sdoInitUp, ↓nodeRead_core (sb hm rfl), ↓State.sdoIdle_core (sb hm rfl), ↓State.sdoRefuse_core (sb hm rfl), ↓State.sdoReply_core (sb hm rfl), ↓State.sdoOpen_core (sb hm rfl), ↓core_ite, ite_self]

theorem sdoUpSeg_core {R : Nat} (hm : inMask 262144 R = true) (c : Nat) (s : State) : (sdoUpSeg c s).core R = s.core R := by
  simp only [sdoUpSeg, ↓State.sdoAbort_core (sb hm rfl), ↓State.sdoIdle_core (sb hm rfl), ↓State.updNode_core (sb hm rfl), ↓State.sdoReply_core (sb hm rfl), ↓core_ite, ite_self]

theorem sdoInitBlockDown_core {R : Nat} (hm : inMask 262144 R = true) (c : Nat) (m : Nat) (s : State) : (sdoInitBlockDown c m s).core R = s.core R := by
  simp only [sdoInitBlockDown, ↓State.sdoRefuse_core (sb hm rfl), ↓State.countDenial_core (sb hm rfl), ↓State.sdoReply_core (sb hm rfl), ↓State.sdoOpen_core (sb hm rfl), ↓core_ite, ite_self]

theorem sdoBlockSeg_core {R : Nat} (hm : inMask 262144 R = true) (c : Nat) (d : Bytes) (s : State) : (sdoBlockSeg c d s).core R = s.core R := by
  simp only [sdoBlockSeg, ↓State.sdoAbort_core (sb hm rfl), ↓State.updNode_core (sb hm rfl), ↓State.sdoReply_core (sb hm rfl), ↓core_ite, ite_self]

theorem sdoEndBlockDown_core {R : Nat} (hm : inMask 4194302 R = true) (c : Nat) (d : Bytes) (s : State) : (sdoEndBlockDown c d s).core R = s.core R := by
  simp only [sdoEndBlockDown, ↓State.sdoAbort_core (sb hm rfl), ↓State.sdoFinish_core (sb hm rfl), ↓core_ite, ite_self]

theorem sdoInitBlockUp_core {R : Nat} (hm : inMask 327696 R = true) (c : Nat) (m : Nat) (d : Bytes) (s : State) : (sdoInitBlockUp c m d s).core R = s.core R := by
  simp only [sdoInitBlockUp, ↓State.sdoAbort_core (sb hm rfl), ↓nodeRead_core (sb hm rfl), ↓State.sdoIdle_core (sb hm rfl), ↓State.sdoRefuse_core (sb hm rfl), ↓State.sdoReply_core (sb hm rfl), ↓State.sdoOpen_core (sb hm rfl), ↓core_ite, ite_self]

theorem State.sdoBlockOut_core {R : Nat} (hm : inMask 262144 R = true) (s : State) : (State.sdoBlockOut s).core R = s.core R := by
  unfold State.sdoBlockOut
  repeat' (first | with_reducible rfl | rw [core_foldl] | intro _ | split | simp only [↓State.sdoReply_core (sb hm rfl), ↓State.updNode_core (sb hm rfl)])

theorem sdoBlockAck_core {R : Nat} (hm : inMask 262144 R = true) (d : Bytes) (s : State) : (sdoBlockAck d s).core R = s.core R := by
  simp only [sdoBlockAck, ↓State.sdoAbort_core (sb hm rfl), ↓State.updNode_core (sb hm rfl), ↓State.sdoReply_core (sb hm rfl), ↓State.sdoBlockOut_core (sb hm rfl), ↓core_ite, ite_self]

theorem sdoRequest_core {R : Nat} (hm : inMask 4194302 R = true) (d : Bytes) (s : State) : (sdoRequest d s).core R = s.core R := by
  simp only [sdoRequest, ↓sdoBlockSeg_core (sb hm rfl), ↓sdoInitDown_core (sb hm rfl), ↓sdoDownSeg_core (sb hm rfl), ↓sdoInitUp_core (sb hm rfl), ↓sdoUpSeg_core (sb hm rfl), ↓State.sdoIdle_core (sb hm rfl), ↓sdoEndBlockDown_core (sb hm rfl), ↓sdoInitBlockDown_core (sb hm rfl), ↓sdoInitBlockUp_core (sb hm rfl), ↓State.sdoBlockOut_core (sb hm rfl), ↓State.sdoAbort_core (sb hm rfl), ↓sdoBlockAck_core (sb hm rfl), ↓core_ite, ite_self]

theorem execSdoRequest_core (t : Nat) (data : Bytes) (s : State) (t' : State) (h : (execSdoRequest t data s) = .next t') : t'.core 8388606 = s.core 8388606 := by
  have hm : inMask 8388606 8388606 = true := rfl
  simp only [execSdoRequest, Host.Outcome.next.injEq] at h
  subst h
  simp only [↓sdoRequest_core (sb hm rfl), ↓State.begin_core (sb hm rfl)]

theorem sdoTimeout_core {R : Nat} (hm : inMask 262144 R = true) (s : State) : (sdoTimeout s).core R = s.core R := by
  simp only [sdoTimeout, ↓State.sdoAbort_core (sb hm rfl), ↓core_ite, ite_self]

theorem execSdoTimeout_core (t : Nat) (s : State) (t' : State) (h : (execSdoTimeout t s) = .next t') : t'.core 4456448 = s.core 4456448 := by
  have hm : inMask 4456448 4456448 = true := rfl
  simp only [execSdoTimeout, Host.Outcome.next.injEq] at h
  subst h
  simp only [↓sdoTimeout_core (sb hm rfl), ↓State.begin_core (sb hm rfl)]

theorem State.slotActive_core {R : Nat} (hm : inMask 258 R = true) (s : State) (since : List Nat) (slot : Nat) (r : Bytes) : (State.slotActive s since slot r).core R = s.core R := by
  simp only [State.slotActive, ↓State.setBlob_core (sb hm rfl), ↓State.setN_core (sb hm rfl), ↓State.dropStaged_core (sb hm rfl), ↓core_ite, ite_self]

theorem State.slotEmpty_core {R : Nat} (hm : inMask 258 R = true) (s : State) (since : List Nat) (slot : Nat) : (State.slotEmpty s since slot).core R = s.core R := by
  simp only [State.slotEmpty, ↓State.setN_core (sb hm rfl), ↓State.enterSlot_core (sb hm rfl), ↓State.dropStaged_core (sb hm rfl), ↓core_dict (sb hm rfl), ↓core_ite, ite_self]

theorem State.slotBroken_core {R : Nat} (hm : inMask 290 R = true) (s : State) (since : List Nat) (deleted : List Nat) (slot : Nat) : (State.slotBroken s since deleted slot).core R = s.core R := by
  simp only [State.slotBroken, ↓State.dropStaged_core (sb hm rfl), ↓State.logLead_core (sb hm rfl), ↓State.enterSlot_core (sb hm rfl), ↓core_ite, ite_self]

theorem State.switchSlots_core {R : Nat} (hm : inMask 290 R = true) (s : State) (p : Plan) : (State.switchSlots s p).core R = s.core R := by
  unfold State.switchSlots
  repeat' (first | with_reducible rfl | rw [core_foldl] | intro _ | split | simp only [↓State.slotActive_core (sb hm rfl), ↓State.slotEmpty_core (sb hm rfl), ↓State.setN_core (sb hm rfl), ↓State.slotBroken_core (sb hm rfl)])

theorem State.switchStreams_core {R : Nat} (hm : inMask 1024 R = true) (s : State) (old : State) (p : Plan) : (State.switchStreams s old p).core R = s.core R := by
  unfold State.switchStreams
  repeat' (first | with_reducible rfl | rw [core_foldl] | intro _ | split | simp only [↓State.setBlob_core (sb hm rfl), ↓core_fwd (sb hm rfl)])

theorem State.switchMeters_core {R : Nat} (hm : inMask 1024 R = true) (s : State) : (State.switchMeters s).core R = s.core R := by
  simp only [State.switchMeters, ↓core_fwd (sb hm rfl)]

theorem State.disableLane_core {R : Nat} (hm : inMask 1536 R = true) (s : State) (n : Nat) : (State.disableLane s n).core R = s.core R := by
  simp only [State.disableLane, ↓State.setN_core (sb hm rfl), ↓State.drainLane_core (sb hm rfl), ↓State.updLane_core (sb hm rfl), ↓State.lagFailover_core (sb hm rfl), ↓State.refreshLag_core (sb hm rfl), ↓core_ite, ite_self]

theorem State.retrainLane_core {R : Nat} (hm : inMask 1536 R = true) (s : State) (n : Nat) : (State.retrainLane s n).core R = s.core R := by
  simp only [State.retrainLane, ↓State.loseSignal_core (sb hm rfl), ↓State.breakHoldOff_core (sb hm rfl), ↓State.drainLane_core (sb hm rfl), ↓State.setN_core (sb hm rfl), ↓State.setLink_core (sb hm rfl), ↓State.updLane_core (sb hm rfl), ↓core_ite, ite_self]

theorem State.switchAutoneg_core {R : Nat} (hm : inMask 512 R = true) (s : State) (n : Nat) : (State.switchAutoneg s n).core R = s.core R := by
  simp only [State.switchAutoneg, ↓State.setN_core (sb hm rfl), ↓State.breakHoldOff_core (sb hm rfl), ↓State.setLink_core (sb hm rfl), ↓State.tryHoldOff_core (sb hm rfl), ↓core_ite, ite_self]

theorem State.switchLane_core {R : Nat} (hm : inMask 1536 R = true) (s : State) (old : State) (inService : Nat) (snapAt : Nat) (n : Nat) : (State.switchLane s old inService snapAt n).core R = s.core R := by
  simp only [State.switchLane, ↓State.updLane_core (sb hm rfl), ↓State.disableLane_core (sb hm rfl), ↓State.retrainLane_core (sb hm rfl), ↓State.tryHoldOff_core (sb hm rfl), ↓State.setN_core (sb hm rfl), ↓State.switchAutoneg_core (sb hm rfl), ↓core_ite, ite_self]

theorem State.switchAdmin_core {R : Nat} (hm : inMask 512 R = true) (s : State) (old : State) (p : Plan) (n : Nat) : (State.switchAdmin s old p n).core R = s.core R := by
  simp only [State.switchAdmin, ↓State.setN_core (sb hm rfl), ↓State.updLane_core (sb hm rfl), ↓core_ite, ite_self]

theorem State.switchLists_core {R : Nat} (hm : inMask 1792 R = true) (s : State) (old : State) (p : Plan) : (State.switchLists s old p).core R = s.core R := by
  unfold State.switchLists
  repeat' (first | with_reducible rfl | rw [core_foldl] | intro _ | split | simp only [↓State.switchAdmin_core (sb hm rfl), ↓State.loadShapers_core (sb hm rfl), ↓State.loadLanes_core (sb hm rfl), ↓State.showAdminBands_core (sb hm rfl), ↓State.seekGate_core (sb hm rfl)])

theorem State.switchRings_core {R : Nat} (hm : inMask 1024 R = true) (s : State) (old : State) : (State.switchRings s old).core R = s.core R := by
  unfold State.switchRings
  repeat' (first | with_reducible rfl | rw [core_foldl] | intro _ | split | simp only [↓State.setN_core (sb hm rfl), ↓core_fwd (sb hm rfl), ↓core_ite, ite_self])

theorem State.drainMirror_core {R : Nat} (hm : inMask 512 R = true) (s : State) (i : Nat) : (State.drainMirror s i).core R = s.core R := by
  simp only [State.drainMirror, ↓State.addTo_core (sb hm rfl), ↓core_lanes (sb hm rfl)]

theorem State.switchMirrors_core {R : Nat} (hm : inMask 512 R = true) (s : State) (old : State) : (State.switchMirrors s old).core R = s.core R := by
  unfold State.switchMirrors
  repeat' (first | with_reducible rfl | rw [core_foldl] | intro _ | split | simp only [↓State.drainMirror_core (sb hm rfl)])

theorem State.switchChannels_core {R : Nat} (hm : inMask 34304 R = true) (s : State) (old : State) : (State.switchChannels s old).core R = s.core R := by
  unfold State.switchChannels
  repeat' (first | with_reducible rfl | rw [core_foldl] | intro _ | split | simp only [↓State.drainChannel_core (sb hm rfl), ↓State.drainLane_core (sb hm rfl), ↓core_ite, ite_self])

theorem State.switchKeys_core {R : Nat} (hm : inMask 16384 R = true) (s : State) : (State.switchKeys s).core R = s.core R := by
  unfold State.switchKeys
  repeat' (first | with_reducible rfl | rw [core_foldl] | intro _ | split | simp only [↓keyDelivered_core (sb hm rfl), ↓keyRequest_core (sb hm rfl)])

theorem State.switchGateway_core {R : Nat} (hm : inMask 262144 R = true) (s : State) (old : State) : (State.switchGateway s old).core R = s.core R := by
  simp only [State.switchGateway, ↓core_edge (sb hm rfl)]

theorem State.switchDomains_core {R : Nat} (hm : inMask 4096 R = true) (s : State) (old : State) : (State.switchDomains s old).core R = s.core R := by
  unfold State.switchDomains
  repeat' (first | with_reducible rfl | rw [core_foldl] | intro _ | split | simp only [↓core_bridge (sb hm rfl)])

theorem State.switchCirque_core {R : Nat} (hm : inMask 131072 R = true) (s : State) (old : State) : (State.switchCirque s old).core R = s.core R := by
  unfold State.switchCirque
  repeat' (first | with_reducible rfl | rw [core_foldl] | intro _ | split | simp only [↓State.failAnnouncements_core (sb hm rfl), ↓State.fadeOutputs_core (sb hm rfl), ↓State.setN_core (sb hm rfl), ↓core_audio (sb hm rfl)])

theorem State.switchHold_core {R : Nat} (hm : inMask 1600 R = true) (s : State) (old : State) : (State.switchHold s old).core R = s.core R := by
  simp only [State.switchHold, ↓State.enterQuarantine_core (sb hm rfl), ↓core_ite, ite_self]

theorem State.switchStatus_core {R : Nat} (hm : inMask 32 R = true) (s : State) (p : Plan) : (State.switchStatus s p).core R = s.core R := by
  simp only [State.switchStatus, ↓State.setN_core (sb hm rfl), ↓State.logLead_core (sb hm rfl), ↓core_ite, ite_self]

theorem State.switchTo_core {R : Nat} (hm : inMask 2088946 R = true) (s : State) (p : Plan) (rest : List Plan) : (State.switchTo s p rest).core R = s.core R := by
  unfold State.switchTo
  repeat' (first | with_reducible rfl | rw [core_foldl] | intro _ | split | simp only [↓State.accrue_core (sb hm rfl), ↓State.switchSlots_core (sb hm rfl), ↓State.switchStreams_core (sb hm rfl), ↓State.switchStatus_core (sb hm rfl), ↓State.switchLane_core (sb hm rfl), ↓State.switchMeters_core (sb hm rfl), ↓State.switchLists_core (sb hm rfl), ↓State.setN_core (sb hm rfl), ↓State.startMoves_core (sb hm rfl), ↓State.switchConns_core (sb hm rfl), ↓State.switchMirrors_core (sb hm rfl), ↓State.switchRings_core (sb hm rfl), ↓State.switchKeys_core (sb hm rfl), ↓State.switchChannels_core (sb hm rfl), ↓State.refreshInstances_core (sb hm rfl), ↓State.refreshLookAside_core (sb hm rfl), ↓State.loseJobs_core (sb hm rfl), ↓State.drainJobs_core (sb hm rfl), ↓State.drainUnits_core (sb hm rfl), ↓State.switchDomains_core (sb hm rfl), ↓State.switchCirque_core (sb hm rfl), ↓State.switchGateway_core (sb hm rfl), ↓State.restartPdos_core (sb hm rfl), ↓State.redeclare_core (sb hm rfl), ↓State.setBlob_core (sb hm rfl), ↓State.leaveQuarantine_core (sb hm rfl), ↓State.switchHold_core (sb hm rfl), ↓State.refreshPartitions_core (sb hm rfl), ↓State.refreshCases_core (sb hm rfl), ↓State.refreshCounts_core (sb hm rfl), ↓core_plan (sb hm rfl), ↓core_pkg_update (sb hm rfl), ↓core_dict_staged_plan (sb hm rfl)])

theorem generationSwitch_core {R : Nat} (hm : inMask 2088946 R = true) (s : State) : (generationSwitch s).core R = s.core R := by
  unfold generationSwitch
  repeat' (first | with_reducible rfl | split | simp only [↓State.switchTo_core (sb hm rfl)])

theorem execGenerationSwitch_core (t : Nat) (s : State) (t' : State) (h : (execGenerationSwitch t s) = .next t') : t'.core 6283250 = s.core 6283250 := by
  have hm : inMask 6283250 6283250 = true := rfl
  simp only [execGenerationSwitch, Host.Outcome.next.injEq] at h
  subst h
  simp only [↓generationSwitch_core (sb hm rfl), ↓State.begin_core (sb hm rfl)]

theorem State.delaySwitch_core {R : Nat} (hm : inMask 256 R = true) (s : State) : (State.delaySwitch s).core R = s.core R := by
  unfold State.delaySwitch
  repeat' (first | with_reducible rfl | split | simp only [↓State.setN_core (sb hm rfl), ↓core_plan (sb hm rfl), ↓core_ite, ite_self])

theorem State.escalate_core {R : Nat} (hm : inMask 72688 R = true) (s : State) (d : Nat) (code : Nat) : (State.escalate s d code).core R = s.core R := by
  simp only [State.escalate, ↓State.regionFault_core (sb hm rfl), ↓State.dieFault_core (sb hm rfl), ↓core_ite, ite_self]

theorem State.overrunOne_core {R : Nat} (hm : inMask 72688 R = true) (n : Nat) (s : State) (k : Nat) : (State.overrunOne n s k).core R = s.core R := by
  simp only [State.overrunOne, ↓State.logEv_core (sb hm rfl), ↓State.inc32_core (sb hm rfl), ↓State.escalate_core (sb hm rfl), ↓core_tick (sb hm rfl), ↓core_ite, ite_self]

theorem State.endOverruns_core {R : Nat} (hm : inMask 72688 R = true) (s : State) (n : Nat) : (State.endOverruns s n).core R = s.core R := by
  unfold State.endOverruns
  repeat' (first | with_reducible rfl | rw [core_foldl] | intro _ | split | simp only [↓State.overrunOne_core (sb hm rfl), ↓core_tick (sb hm rfl)])

theorem State.applyHeld_core {R : Nat} (hm : inMask 918064 R = true) (s : State) (h : Held) : (State.applyHeld s h).core R = s.core R := by
  simp only [State.applyHeld, ↓State.accrueBe_core (sb hm rfl), ↓State.setVal_core (sb hm rfl), ↓State.setEmergency_core (sb hm rfl), ↓State.nodeHalt_core (sb hm rfl), ↓core_ite, ite_self]

theorem State.applyOrDiscard_core {R : Nat} (hm : inMask 918064 R = true) (changed : Dict) (s : State) (h : Held) : (State.applyOrDiscard changed s h).core R = s.core R := by
  simp only [State.applyOrDiscard, ↓State.logLead_core (sb hm rfl), ↓State.applyHeld_core (sb hm rfl), ↓core_ite, ite_self]

theorem State.applyAllHeld_core {R : Nat} (hm : inMask 918068 R = true) (s : State) (changed : Dict) (late : List Nat) : (State.applyAllHeld s changed late).core R = s.core R := by
  unfold State.applyAllHeld
  repeat' (first | with_reducible rfl | rw [core_foldl] | intro _ | split | simp only [↓State.applyOrDiscard_core (sb hm rfl), ↓core_held (sb hm rfl)])

theorem State.boundaryPhase_core {R : Nat} (hm : inMask 2088950 R = true) (s : State) (b : BoundaryFacts) : (State.boundaryPhase s b).core R = s.core R := by
  simp only [State.boundaryPhase, ↓State.beginSchedules_core (sb hm rfl), ↓State.grantInForce_core (sb hm rfl), ↓State.delaySwitch_core (sb hm rfl), ↓generationSwitch_core (sb hm rfl), ↓State.applyAllHeld_core (sb hm rfl), ↓State.refreshInstances_core (sb hm rfl), ↓State.nodeBoundary_core (sb hm rfl), ↓core_pkg (sb hm rfl), ↓core_ite, ite_self]

theorem State.snapshotPhase_core {R : Nat} (hm : inMask 128 R = true) (s : State) (n : Nat) (incomplete : Bool) : (State.snapshotPhase s n incomplete).core R = s.core R := by
  simp only [State.snapshotPhase, ↓State.inc32_core (sb hm rfl), ↓State.setN_core (sb hm rfl), ↓core_tick (sb hm rfl), ↓core_ite, ite_self]

theorem State.hostEvent_core {R : Nat} (hm : inMask 4096 R = true) (s : State) (e : EventRec) : (State.hostEvent s e).core R = s.core R := by
  unfold State.hostEvent
  repeat' (first | with_reducible rfl | split | simp only [↓State.raiseInt_core (sb hm rfl), ↓State.inc32_core (sb hm rfl), ↓core_bridge (sb hm rfl)])

theorem State.writeLog_core {R : Nat} (hm : inMask 4128 R = true) (s : State) (d : Nat) : (State.writeLog s d).core R = s.core R := by
  unfold State.writeLog
  repeat' (first | with_reducible rfl | rw [core_foldl] | intro _ | split | simp only [↓State.logBytes_core (sb hm rfl), ↓State.hostEvent_core (sb hm rfl), ↓core_logs (sb hm rfl)])

theorem State.writeLogs_core {R : Nat} (hm : inMask 4128 R = true) (s : State) : (State.writeLogs s).core R = s.core R := by
  unfold State.writeLogs
  repeat' (first | with_reducible rfl | rw [core_foldl] | intro _ | split | simp only [↓State.writeLog_core (sb hm rfl)])

theorem State.cyclicWork_core {R : Nat} (hm : inMask 400928 R = true) (s : State) (b : BoundaryFacts) : (State.cyclicWork s b).core R = s.core R := by
  simp only [State.cyclicWork, ↓State.settleTx_core (sb hm rfl), ↓State.gatewayTick_core (sb hm rfl), ↓State.cirqueTick_core (sb hm rfl), ↓State.handed_core (sb hm rfl), ↓core_ite, ite_self]

theorem State.readings_core {R : Nat} (hm : inMask 2228208 R = true) (s : State) (b : BoundaryFacts) : (State.readings s b).core R = s.core R := by
  unfold State.readings
  repeat' (first | with_reducible rfl | rw [core_foldl] | intro _ | split | simp only [↓State.tempDie_core (sb hm rfl), ↓State.voltReading_core (sb hm rfl), ↓State.testCount_core (sb hm rfl), ↓State.saddleCount_core (sb hm rfl)])

theorem State.lateMigration_core {R : Nat} (hm : inMask 288 R = true) (s : State) : (State.lateMigration s).core R = s.core R := by
  simp only [State.lateMigration, ↓State.startMigration_core (sb hm rfl), ↓core_plan (sb hm rfl), ↓core_ite, ite_self]

theorem State.prepare_core {R : Nat} (hm : inMask 2883568 R = true) (s : State) (b : BoundaryFacts) : (State.prepare s b).core R = s.core R := by
  simp only [State.prepare, ↓State.summit_core (sb hm rfl), ↓State.readings_core (sb hm rfl), ↓State.lateMigration_core (sb hm rfl), ↓State.loseJobs_core (sb hm rfl), ↓State.failAnnouncements_core (sb hm rfl), ↓State.marchFault_core (sb hm rfl), ↓State.writeLogs_core (sb hm rfl), ↓core_ite, ite_self]

theorem State.vetoCheck_core {R : Nat} (hm : inMask 524800 R = true) (s : State) : (State.vetoCheck s).core R = s.core R := by
  unfold State.vetoCheck
  repeat' (first | with_reducible rfl | split | simp only [↓State.cancelRound_core (sb hm rfl)])

theorem tickBoundary_core {R : Nat} (hm : inMask 4194294 R = true) (raw : Nat) (b : BoundaryFacts) (s : State) : (tickBoundary raw b s).core R = s.core R := by
  simp only [tickBoundary, ↓nextTick_core (sb hm rfl), ↓State.vetoCheck_core (sb hm rfl), ↓State.endOverruns_core (sb hm rfl), ↓State.applyTrim_core (sb hm rfl), ↓State.applyTaps_core (sb hm rfl), ↓State.boundaryPhase_core (sb hm rfl), ↓State.buildNext_core (sb hm rfl), ↓State.refreshPartitions_core (sb hm rfl), ↓State.snapshotPhase_core (sb hm rfl), ↓State.prepare_core (sb hm rfl), ↓State.cyclicWork_core (sb hm rfl), ↓core_tick (sb hm rfl), ↓core_ite, ite_self]

theorem execTickBoundary_core (t : Nat) (b : BoundaryFacts) (s : State) (t' : State) (h : (execTickBoundary t b s) = .next t') : t'.core 8388598 = s.core 8388598 := by
  have hm : inMask 8388598 8388598 = true := rfl
  simp only [execTickBoundary, Host.Outcome.next.injEq] at h
  subst h
  simp only [↓tickBoundary_core (sb hm rfl), ↓State.begin_core (sb hm rfl)]

/-! ### From sets of parts to lists of parts -/

/-- The place of a part in a set. -/
def Part.place : Part → Nat
  | .free => 0
  | .staged => 1
  | .held => 2
  | .stored => 3
  | .access => 4
  | .logs => 5
  | .pkg => 6
  | .tick => 7
  | .plan => 8
  | .lanes => 9
  | .fwd => 10
  | .fw => 11
  | .bridge => 12
  | .mem => 13
  | .cairn => 14
  | .cipher => 15
  | .time => 16
  | .audio => 17
  | .edge => 18
  | .power => 19
  | .update => 20
  | .diag => 21
  | .blobs => 22

/-- Every part of the set is in the list. -/
def listed (R : Nat) (parts : List Part) : Bool :=
  [Part.free, .staged, .held, .stored, .access, .logs, .pkg, .tick, .plan, .lanes, .fwd, .fw, .bridge, .mem, .cairn, .cipher, .time,
    .audio, .edge, .power, .update, .diag].all (fun p => parts.contains p || !R.testBit p.place)

theorem listed_spec {R : Nat} {parts : List Part} (h : listed R parts = true) (p : Part) (hb : p ≠ .blobs) (hp : p ∉ parts) :
    R.testBit p.place = false := by
  unfold listed at h
  rw [List.all_eq_true] at h
  have e := h p (by cases p <;> first | exact absurd rfl hb | simp)
  rw [Bool.or_eq_true, List.contains_iff_mem] at e
  rcases e with e | e
  · exact absurd e hp
  · simpa using e

/-- A command whose set of parts is in the list changes nothing outside the list. -/
theorem within_of_core {s u : State} {R : Nat} {parts : List Part} (h : u.core R = s.core R) (hl : listed R parts = true) :
    Within s u parts := by
  have hv := congrArg State.variant h
  have hq := congrArg State.pending h
  refine ⟨hv, hq, fun p hb hp => ?_⟩
  have e := listed_spec hl p hb hp
  cases p <;> simp only [Part.place] at e
  · have g := congrArg State.freeCtr h
    simpa only [State.core, State.same, e, Bool.false_eq_true, if_false] using g
  · exact absurd rfl hb
  · have g := congrArg State.staged h
    simpa only [State.core, State.same, e, Bool.false_eq_true, if_false] using g
  · have g := congrArg State.held h
    simpa only [State.core, State.same, e, Bool.false_eq_true, if_false] using g
  · have g := congrArg State.stored h
    simpa only [State.core, State.same, e, Bool.false_eq_true, if_false] using g
  · have g := congrArg State.access h
    simpa only [State.core, State.same, e, Bool.false_eq_true, if_false] using g
  · have g := congrArg State.logs h
    simpa only [State.core, State.same, e, Bool.false_eq_true, if_false] using g
  · have g := congrArg State.pkg h
    simpa only [State.core, State.same, e, Bool.false_eq_true, if_false] using g
  · have g := congrArg State.tick h
    simpa only [State.core, State.same, e, Bool.false_eq_true, if_false] using g
  · have g := congrArg State.plan h
    simpa only [State.core, State.same, e, Bool.false_eq_true, if_false] using g
  · have g := congrArg State.lanes h
    simpa only [State.core, State.same, e, Bool.false_eq_true, if_false] using g
  · have g := congrArg State.fwd h
    simpa only [State.core, State.same, e, Bool.false_eq_true, if_false] using g
  · have g := congrArg State.fw h
    simpa only [State.core, State.same, e, Bool.false_eq_true, if_false] using g
  · have g := congrArg State.bridge h
    simpa only [State.core, State.same, e, Bool.false_eq_true, if_false] using g
  · have g := congrArg State.mem h
    simpa only [State.core, State.same, e, Bool.false_eq_true, if_false] using g
  · have g := congrArg State.cairn h
    simpa only [State.core, State.same, e, Bool.false_eq_true, if_false] using g
  · have g := congrArg State.cipher h
    simpa only [State.core, State.same, e, Bool.false_eq_true, if_false] using g
  · have g := congrArg State.time h
    simpa only [State.core, State.same, e, Bool.false_eq_true, if_false] using g
  · have g := congrArg State.audio h
    simpa only [State.core, State.same, e, Bool.false_eq_true, if_false] using g
  · have g := congrArg State.edge h
    simpa only [State.core, State.same, e, Bool.false_eq_true, if_false] using g
  · have g := congrArg State.power h
    simpa only [State.core, State.same, e, Bool.false_eq_true, if_false] using g
  · have g := congrArg State.update h
    simpa only [State.core, State.same, e, Bool.false_eq_true, if_false] using g
  · have g := congrArg State.diag h
    simpa only [State.core, State.same, e, Bool.false_eq_true, if_false] using g

/-! ### One part at a time -/

/-- Every part but one, and the clock. -/
def partsBut (i : Nat) : Nat := 8388607 - 2 ^ i

theorem same_now {s u : State} (h : u.core (partsBut 22) = s.core (partsBut 22)) : u.now = s.now := by
  have g := congrArg State.now h
  have e : (partsBut 22).testBit 22 = false := by decide
  simpa only [State.core, e, Bool.false_eq_true, if_false] using g

theorem same_freeCtr {s u : State} (h : u.core (partsBut 0) = s.core (partsBut 0)) : u.freeCtr = s.freeCtr := by
  have g := congrArg State.freeCtr h
  have e : (partsBut 0).testBit 0 = false := by decide
  simpa only [State.core, e, Bool.false_eq_true, if_false] using g

theorem same_staged {s u : State} (h : u.core (partsBut 1) = s.core (partsBut 1)) : u.staged = s.staged := by
  have g := congrArg State.staged h
  have e : (partsBut 1).testBit 1 = false := by decide
  simpa only [State.core, e, Bool.false_eq_true, if_false] using g

theorem same_held {s u : State} (h : u.core (partsBut 2) = s.core (partsBut 2)) : u.held = s.held := by
  have g := congrArg State.held h
  have e : (partsBut 2).testBit 2 = false := by decide
  simpa only [State.core, e, Bool.false_eq_true, if_false] using g

theorem same_stored {s u : State} (h : u.core (partsBut 3) = s.core (partsBut 3)) : u.stored = s.stored := by
  have g := congrArg State.stored h
  have e : (partsBut 3).testBit 3 = false := by decide
  simpa only [State.core, e, Bool.false_eq_true, if_false] using g

theorem same_access {s u : State} (h : u.core (partsBut 4) = s.core (partsBut 4)) : u.access = s.access := by
  have g := congrArg State.access h
  have e : (partsBut 4).testBit 4 = false := by decide
  simpa only [State.core, e, Bool.false_eq_true, if_false] using g

theorem same_logs {s u : State} (h : u.core (partsBut 5) = s.core (partsBut 5)) : u.logs = s.logs := by
  have g := congrArg State.logs h
  have e : (partsBut 5).testBit 5 = false := by decide
  simpa only [State.core, e, Bool.false_eq_true, if_false] using g

theorem same_pkg {s u : State} (h : u.core (partsBut 6) = s.core (partsBut 6)) : u.pkg = s.pkg := by
  have g := congrArg State.pkg h
  have e : (partsBut 6).testBit 6 = false := by decide
  simpa only [State.core, e, Bool.false_eq_true, if_false] using g

theorem same_tick {s u : State} (h : u.core (partsBut 7) = s.core (partsBut 7)) : u.tick = s.tick := by
  have g := congrArg State.tick h
  have e : (partsBut 7).testBit 7 = false := by decide
  simpa only [State.core, e, Bool.false_eq_true, if_false] using g

theorem same_plan {s u : State} (h : u.core (partsBut 8) = s.core (partsBut 8)) : u.plan = s.plan := by
  have g := congrArg State.plan h
  have e : (partsBut 8).testBit 8 = false := by decide
  simpa only [State.core, e, Bool.false_eq_true, if_false] using g

theorem same_lanes {s u : State} (h : u.core (partsBut 9) = s.core (partsBut 9)) : u.lanes = s.lanes := by
  have g := congrArg State.lanes h
  have e : (partsBut 9).testBit 9 = false := by decide
  simpa only [State.core, e, Bool.false_eq_true, if_false] using g

theorem same_fwd {s u : State} (h : u.core (partsBut 10) = s.core (partsBut 10)) : u.fwd = s.fwd := by
  have g := congrArg State.fwd h
  have e : (partsBut 10).testBit 10 = false := by decide
  simpa only [State.core, e, Bool.false_eq_true, if_false] using g

theorem same_fw {s u : State} (h : u.core (partsBut 11) = s.core (partsBut 11)) : u.fw = s.fw := by
  have g := congrArg State.fw h
  have e : (partsBut 11).testBit 11 = false := by decide
  simpa only [State.core, e, Bool.false_eq_true, if_false] using g

theorem same_bridge {s u : State} (h : u.core (partsBut 12) = s.core (partsBut 12)) : u.bridge = s.bridge := by
  have g := congrArg State.bridge h
  have e : (partsBut 12).testBit 12 = false := by decide
  simpa only [State.core, e, Bool.false_eq_true, if_false] using g

theorem same_mem {s u : State} (h : u.core (partsBut 13) = s.core (partsBut 13)) : u.mem = s.mem := by
  have g := congrArg State.mem h
  have e : (partsBut 13).testBit 13 = false := by decide
  simpa only [State.core, e, Bool.false_eq_true, if_false] using g

theorem same_cairn {s u : State} (h : u.core (partsBut 14) = s.core (partsBut 14)) : u.cairn = s.cairn := by
  have g := congrArg State.cairn h
  have e : (partsBut 14).testBit 14 = false := by decide
  simpa only [State.core, e, Bool.false_eq_true, if_false] using g

theorem same_cipher {s u : State} (h : u.core (partsBut 15) = s.core (partsBut 15)) : u.cipher = s.cipher := by
  have g := congrArg State.cipher h
  have e : (partsBut 15).testBit 15 = false := by decide
  simpa only [State.core, e, Bool.false_eq_true, if_false] using g

theorem same_time {s u : State} (h : u.core (partsBut 16) = s.core (partsBut 16)) : u.time = s.time := by
  have g := congrArg State.time h
  have e : (partsBut 16).testBit 16 = false := by decide
  simpa only [State.core, e, Bool.false_eq_true, if_false] using g

theorem same_audio {s u : State} (h : u.core (partsBut 17) = s.core (partsBut 17)) : u.audio = s.audio := by
  have g := congrArg State.audio h
  have e : (partsBut 17).testBit 17 = false := by decide
  simpa only [State.core, e, Bool.false_eq_true, if_false] using g

theorem same_edge {s u : State} (h : u.core (partsBut 18) = s.core (partsBut 18)) : u.edge = s.edge := by
  have g := congrArg State.edge h
  have e : (partsBut 18).testBit 18 = false := by decide
  simpa only [State.core, e, Bool.false_eq_true, if_false] using g

theorem same_power {s u : State} (h : u.core (partsBut 19) = s.core (partsBut 19)) : u.power = s.power := by
  have g := congrArg State.power h
  have e : (partsBut 19).testBit 19 = false := by decide
  simpa only [State.core, e, Bool.false_eq_true, if_false] using g

theorem same_update {s u : State} (h : u.core (partsBut 20) = s.core (partsBut 20)) : u.update = s.update := by
  have g := congrArg State.update h
  have e : (partsBut 20).testBit 20 = false := by decide
  simpa only [State.core, e, Bool.false_eq_true, if_false] using g

theorem same_diag {s u : State} (h : u.core (partsBut 21) = s.core (partsBut 21)) : u.diag = s.diag := by
  have g := congrArg State.diag h
  have e : (partsBut 21).testBit 21 = false := by decide
  simpa only [State.core, e, Bool.false_eq_true, if_false] using g

end Sys2Proof.Machine
end

