-- ==== Sys2Proof/Laws/Memory.lean ====
section
/-! SUPPORT. The canonical form of a RAM is kept by every operation on it. -/
namespace Sys2Proof.Machine

open Sys2Proof

variable {α : Type}

theorem risingFrom_mono {lo lo' : Nat} (h : lo' ≤ lo) : ∀ {m : SMap α}, risingFrom lo m = true → risingFrom lo' m = true
  | [], _ => rfl
  | (k, _) :: t, hm => by
    simp only [risingFrom, Bool.and_eq_true, decide_eq_true_eq] at hm ⊢
    exact ⟨by omega, hm.2⟩

theorem risingFrom_ins {lo k : Nat} (v : α) (h : lo < k) : ∀ {m : SMap α}, risingFrom lo m = true → risingFrom lo (ins m k v) = true
  | [], _ => by simp [ins, risingFrom, h]
  | (a, b) :: t, hm => by
    simp only [risingFrom, Bool.and_eq_true, decide_eq_true_eq] at hm
    unfold ins
    split
    · rename_i hk
      simp [risingFrom, h, hk, hm.2]
    · split
      · rename_i hk
        subst hk
        simp [risingFrom, h, hm.2]
      · rename_i h1 h2
        simp only [risingFrom, Bool.and_eq_true, decide_eq_true_eq]
        exact ⟨hm.1, risingFrom_ins v (by omega) hm.2⟩
termination_by m => m.length

theorem rising_ins (m : SMap α) (k : Nat) (v : α) (hm : rising m = true) : rising (ins m k v) = true := by
  cases m with
  | nil => rfl
  | cons e t =>
    obtain ⟨a, b⟩ := e
    unfold ins
    split
    · rename_i h
      simp only [rising, risingFrom, Bool.and_eq_true, decide_eq_true_eq]
      exact ⟨h, hm⟩
    · split
      · rename_i h
        subst h
        exact hm
      · rename_i h1 h2
        exact risingFrom_ins v (by omega) hm

theorem risingFrom_filter (p : Nat × α → Bool) : ∀ {lo : Nat} {m : SMap α}, risingFrom lo m = true → risingFrom lo (m.filter p) = true
  | _, [], _ => rfl
  | lo, (a, b) :: t, hm => by
    simp only [risingFrom, Bool.and_eq_true, decide_eq_true_eq] at hm
    rw [List.filter_cons]
    split
    · simp only [risingFrom, Bool.and_eq_true, decide_eq_true_eq]
      exact ⟨hm.1, risingFrom_filter p hm.2⟩
    · exact risingFrom_mono (Nat.le_of_lt hm.1) (risingFrom_filter p hm.2)

theorem rising_filter (p : Nat × α → Bool) (m : SMap α) (hm : rising m = true) : rising (m.filter p) = true := by
  cases m with
  | nil => rfl
  | cons e t =>
    obtain ⟨a, b⟩ := e
    rw [List.filter_cons]
    split
    · exact risingFrom_filter p hm
    · have h := risingFrom_filter p (m := t) hm
      cases hf : List.filter p t with
      | nil => rfl
      | cons e' t' =>
        rw [hf] at h
        simp only [risingFrom, Bool.and_eq_true] at h
        exact h.2

theorem mem_ins (m : SMap α) (k : Nat) (v : α) (e : Nat × α) (h : e ∈ ins m k v) : e = (k, v) ∨ e ∈ m := by
  induction m with
  | nil => exact .inl (by simpa [ins] using h)
  | cons a t ih =>
    obtain ⟨a, b⟩ := a
    unfold ins at h
    split at h
    · simpa using h
    · split at h
      · simp only [List.mem_cons] at h ⊢
        rcases h with h | h
        · exact .inl h
        · exact .inr (.inr h)
      · simp only [List.mem_cons] at h ⊢
        rcases h with h | h
        · exact .inr (.inl h)
        · rcases ih h with h | h
          · exact .inl h
          · exact .inr (.inr h)

/-- A write of one entry keeps the canonical form. -/
theorem canonical_put [DecidableEq α] (d : α) (m : SMap α) (k : Nat) (v : α) (hm : canonical d m = true) :
    canonical d (put d m k v) = true := by
  unfold canonical noDefault at hm ⊢
  simp only [Bool.and_eq_true, List.all_eq_true, decide_eq_true_eq] at hm ⊢
  unfold put
  split
  · refine ⟨rising_filter _ _ hm.1, fun e he => ?_⟩
    unfold del at he
    exact hm.2 e (List.mem_filter.mp he).1
  · rename_i hv
    refine ⟨rising_ins _ _ _ hm.1, fun e he => ?_⟩
    rcases mem_ins _ _ _ _ he with h | h
    · rw [h]
      exact hv
    · exact hm.2 e h

/-- Every write of bytes keeps the canonical form of a RAM. -/
theorem Memory.wf_ramWrite (m : List Host.Cell) (off : Nat) (b : Bytes) (hm : Memory.wf m = true) :
    Memory.wf (ramWrite m off b) = true := by
  unfold ramWrite
  generalize b.mapIdx (fun i x => (off + i, x)) = l
  induction l generalizing m with
  | nil => exact hm
  | cons e t ih => exact ih _ (canonical_put 0 m e.1 e.2 hm)

/-- The RAMs of the package right after reset are in canonical form. -/
theorem Memory.wf_reset (d : Nat) : Memory.wf (State.reset.mailboxOf d) = true := rfl

end Sys2Proof.Machine
end

