-- ==== Sys2Proof/Laws/Push.lean ====
section
/-! SUPPORT. Laws that carry a frame through one more operation. -/
namespace Sys2Proof.Machine

open Sys2Proof

theorem Runs.intro {i : Instr} {s u : State} {p : State → Prop} (e : exec i s = .next u) (h : p u) : Runs i s p := ⟨u, e, h⟩

section Push

variable {s u : State} {P : List Part} {K : List Nat}

/-- What was so far a frame stays one after an operation inside it. -/
theorem Only.and {w : State} {Q : List Part} {J : List Nat} (g : Only u w Q J) (h : Only s u P K) (hq : ∀ p ∈ Q, p ∈ P)
    (hj : ∀ k ∈ J, k ∈ K) : Only s w P K :=
  ⟨g.variant.trans h.variant, g.queue.trans h.queue, fun p n => State.same_trans (h.rest p n) (g.rest p (fun m => n (hq p m))),
    fun k n => (g.objects k (fun m => n (hj k m))).trans (h.objects k n)⟩

theorem Only.start (t : Nat) (s : State) (P : List Part) (K : List Nat) : Only s (s.begin t) P K :=
  (only_begin t s).mono (by simp) (by simp)

theorem Only.same (s : State) (P : List Part) (K : List Nat) : Only s s P K := (Only.refl s).mono (by simp) (by simp)

theorem Only.none (h : Only s u P K) {w : State} (g : Only u w [] []) : Only s w P K := g.and h (by simp) (by simp)

theorem Only.one (h : Only s u P K) {w : State} {p : Part} (g : Only u w [p] []) (hp : p ∈ P) : Only s w P K :=
  g.and h (by simpa using hp) (by simp)

theorem Only.obj (h : Only s u P K) {w : State} {k : Nat} (g : Only u w [] [k]) (hk : k ∈ K) : Only s w P K :=
  g.and h (by simp) (by simpa using hk)

theorem Only.two (h : Only s u P K) {w : State} {p q : Part} (g : Only u w [p, q] []) (hp : p ∈ P) (hq : q ∈ P) : Only s w P K :=
  g.and h (by simp [hp, hq]) (by simp)

theorem Only.ite {c : Prop} [Decidable c] {a b : State} (ha : Only s a P K) (hb : Only s b P K) : Only s (if c then a else b) P K := by
  split
  · exact ha
  · exact hb

/-- A frame through a fold whose every step keeps it. -/
theorem Only.foldl {α : Type} (f : State → α → State) (l : List α) (h : Only s u P K)
    (hf : ∀ w a, a ∈ l → Only s w P K → Only s (f w a) P K) : Only s (l.foldl f u) P K := by
  induction l generalizing u with
  | nil => exact h
  | cons a l ih =>
    exact ih (hf u a (by simp) h) (fun w b hb => hf w b (by simp [hb]))

theorem only_clearAll (s : State) (ks : List Nat) : Only s (s.clearAll ks) [] ks :=
  Only.foldl _ _ (Only.same s [] ks) (fun w a ha h => h.obj (only_setN w a 0) ha)

theorem Only.setFreeCtr (h : Only s u P K) (x : Nat) (hp : Part.free ∈ P) : Only s { u with freeCtr := x } P K :=
  h.one (p := .free) ⟨rfl, rfl, fun p n => by cases p <;> first | rfl | exact absurd (by decide) n, fun _ _ => rfl⟩ hp

theorem Only.setStaged (h : Only s u P K) (x : Dict) (hp : Part.staged ∈ P) : Only s { u with staged := x } P K :=
  h.one (p := .staged) ⟨rfl, rfl, fun p n => by cases p <;> first | rfl | exact absurd (by decide) n, fun _ _ => rfl⟩ hp

theorem Only.setHeld (h : Only s u P K) (x : List Held) (hp : Part.held ∈ P) : Only s { u with held := x } P K :=
  h.one (p := .held) ⟨rfl, rfl, fun p n => by cases p <;> first | rfl | exact absurd (by decide) n, fun _ _ => rfl⟩ hp

theorem Only.setStored (h : Only s u P K) (x : Dict) (hp : Part.stored ∈ P) : Only s { u with stored := x } P K :=
  h.one (p := .stored) ⟨rfl, rfl, fun p n => by cases p <;> first | rfl | exact absurd (by decide) n, fun _ _ => rfl⟩ hp

theorem Only.setAccess (h : Only s u P K) (x : AccessSt) (hp : Part.access ∈ P) : Only s { u with access := x } P K :=
  h.one (p := .access) ⟨rfl, rfl, fun p n => by cases p <;> first | rfl | exact absurd (by decide) n, fun _ _ => rfl⟩ hp

theorem Only.setLogs (h : Only s u P K) (x : SMap DieLog) (hp : Part.logs ∈ P) : Only s { u with logs := x } P K :=
  h.one (p := .logs) ⟨rfl, rfl, fun p n => by cases p <;> first | rfl | exact absurd (by decide) n, fun _ _ => rfl⟩ hp

theorem Only.setPkg (h : Only s u P K) (x : PkgSt) (hp : Part.pkg ∈ P) : Only s { u with pkg := x } P K :=
  h.one (p := .pkg) ⟨rfl, rfl, fun p n => by cases p <;> first | rfl | exact absurd (by decide) n, fun _ _ => rfl⟩ hp

theorem Only.setTick (h : Only s u P K) (x : TickSt) (hp : Part.tick ∈ P) : Only s { u with tick := x } P K :=
  h.one (p := .tick) ⟨rfl, rfl, fun p n => by cases p <;> first | rfl | exact absurd (by decide) n, fun _ _ => rfl⟩ hp

theorem Only.setPlan (h : Only s u P K) (x : PlanSt) (hp : Part.plan ∈ P) : Only s { u with plan := x } P K :=
  h.one (p := .plan) ⟨rfl, rfl, fun p n => by cases p <;> first | rfl | exact absurd (by decide) n, fun _ _ => rfl⟩ hp

theorem Only.setLanes (h : Only s u P K) (x : SMap LaneSt) (hp : Part.lanes ∈ P) : Only s { u with lanes := x } P K :=
  h.one (p := .lanes) ⟨rfl, rfl, fun p n => by cases p <;> first | rfl | exact absurd (by decide) n, fun _ _ => rfl⟩ hp

theorem Only.setFwd (h : Only s u P K) (x : FwdSt) (hp : Part.fwd ∈ P) : Only s { u with fwd := x } P K :=
  h.one (p := .fwd) ⟨rfl, rfl, fun p n => by cases p <;> first | rfl | exact absurd (by decide) n, fun _ _ => rfl⟩ hp

theorem Only.setFw (h : Only s u P K) (x : FwSt) (hp : Part.fw ∈ P) : Only s { u with fw := x } P K :=
  h.one (p := .fw) ⟨rfl, rfl, fun p n => by cases p <;> first | rfl | exact absurd (by decide) n, fun _ _ => rfl⟩ hp

theorem Only.setBridge (h : Only s u P K) (x : BridgeSt) (hp : Part.bridge ∈ P) : Only s { u with bridge := x } P K :=
  h.one (p := .bridge) ⟨rfl, rfl, fun p n => by cases p <;> first | rfl | exact absurd (by decide) n, fun _ _ => rfl⟩ hp

theorem Only.setMem (h : Only s u P K) (x : MemorySt) (hp : Part.mem ∈ P) : Only s { u with mem := x } P K :=
  h.one (p := .mem) ⟨rfl, rfl, fun p n => by cases p <;> first | rfl | exact absurd (by decide) n, fun _ _ => rfl⟩ hp

theorem Only.setCairn (h : Only s u P K) (x : CairnSt) (hp : Part.cairn ∈ P) : Only s { u with cairn := x } P K :=
  h.one (p := .cairn) ⟨rfl, rfl, fun p n => by cases p <;> first | rfl | exact absurd (by decide) n, fun _ _ => rfl⟩ hp

theorem Only.setCipher (h : Only s u P K) (x : CipherSt) (hp : Part.cipher ∈ P) : Only s { u with cipher := x } P K :=
  h.one (p := .cipher) ⟨rfl, rfl, fun p n => by cases p <;> first | rfl | exact absurd (by decide) n, fun _ _ => rfl⟩ hp

theorem Only.setTime (h : Only s u P K) (x : TimeSt) (hp : Part.time ∈ P) : Only s { u with time := x } P K :=
  h.one (p := .time) ⟨rfl, rfl, fun p n => by cases p <;> first | rfl | exact absurd (by decide) n, fun _ _ => rfl⟩ hp

theorem Only.setAudio (h : Only s u P K) (x : AudioSt) (hp : Part.audio ∈ P) : Only s { u with audio := x } P K :=
  h.one (p := .audio) ⟨rfl, rfl, fun p n => by cases p <;> first | rfl | exact absurd (by decide) n, fun _ _ => rfl⟩ hp

theorem Only.setEdge (h : Only s u P K) (x : EdgeSt) (hp : Part.edge ∈ P) : Only s { u with edge := x } P K :=
  h.one (p := .edge) ⟨rfl, rfl, fun p n => by cases p <;> first | rfl | exact absurd (by decide) n, fun _ _ => rfl⟩ hp

theorem Only.setPower (h : Only s u P K) (x : PowerSt) (hp : Part.power ∈ P) : Only s { u with power := x } P K :=
  h.one (p := .power) ⟨rfl, rfl, fun p n => by cases p <;> first | rfl | exact absurd (by decide) n, fun _ _ => rfl⟩ hp

theorem Only.setUpdate (h : Only s u P K) (x : UpdateSt) (hp : Part.update ∈ P) : Only s { u with update := x } P K :=
  h.one (p := .update) ⟨rfl, rfl, fun p n => by cases p <;> first | rfl | exact absurd (by decide) n, fun _ _ => rfl⟩ hp

theorem Only.setDiag (h : Only s u P K) (x : DiagSt) (hp : Part.diag ∈ P) : Only s { u with diag := x } P K :=
  h.one (p := .diag) ⟨rfl, rfl, fun p n => by cases p <;> first | rfl | exact absurd (by decide) n, fun _ _ => rfl⟩ hp

end Push

end Sys2Proof.Machine
end

