-- ==== Sys2Proof/Laws/Values.lean ====
section
/-! SUPPORT. Laws of reading an object's value through the operations, and of the answer to a request that is taken up. -/
namespace Sys2Proof.Machine

open Sys2Proof

/-- The value of a natural object in a dictionary. -/
def nIn (v : Nat) (d : Dict) (k : Nat) : Nat := State.n { variant := v, dict := d } k

/-- The value of an integer object in a dictionary. -/
def oIn (v : Nat) (d : Dict) (k : Nat) : Int := State.o { variant := v, dict := d } k

theorem State.n_mk (pending freeCtr now variant out dict staged held stored access logs pkg tick plan lanes fwd fw bridge mem cairn cipher time audio edge power update diag k) :
    State.n ⟨pending, freeCtr, now, variant, out, dict, staged, held, stored, access, logs, pkg, tick, plan, lanes, fwd, fw, bridge, mem, cairn, cipher, time, audio, edge, power, update, diag⟩ k = nIn variant dict k := rfl

theorem State.o_mk (pending freeCtr now variant out dict staged held stored access logs pkg tick plan lanes fwd fw bridge mem cairn cipher time audio edge power update diag k) :
    State.o ⟨pending, freeCtr, now, variant, out, dict, staged, held, stored, access, logs, pkg, tick, plan, lanes, fwd, fw, bridge, mem, cairn, cipher, time, audio, edge, power, update, diag⟩ k = oIn variant dict k := rfl

theorem nIn_fold (s : State) (k : Nat) : nIn s.variant s.dict k = s.n k := rfl

theorem oIn_fold (s : State) (k : Nat) : oIn s.variant s.dict k = s.o k := rfl

theorem State.setFlag_def (s : State) (k i : Nat) (b : Bool) : s.setFlag k i b = s.setN k (setBit (s.n k) i b) := rfl

theorem State.inc32_def (s : State) (k : Nat) : s.inc32 k = s.setN k (satN (2 ^ 32 - 1) (s.n k + 1)) := rfl

theorem State.inc64_def (s : State) (k : Nat) : s.inc64 k = s.setN k (satN (2 ^ 64 - 1) (s.n k + 1)) := rfl

theorem State.updSession_n (s : State) (n : Nat) (f : Session → Session) (k : Nat) : (s.updSession n f).n k = s.n k := (only_updSession ..).n_all k

theorem State.raiseInt_n (s : State) (n k f : Nat) : (s.raiseInt n f).n k = s.n k := (only_raiseInt ..).n_all k

theorem State.raiseInt_o (s : State) (n k f : Nat) : (s.raiseInt n f).o k = s.o k := (only_raiseInt ..).o_all k

theorem State.tickState_def (s : State) : s.tickState = s.n O.tickState := rfl

theorem State.tickNo_def (s : State) : s.tickNo = s.n O.tickNumber := rfl

theorem State.flag_def (s : State) (k i : Nat) : s.flag k i = bit (s.n k) i := rfl

theorem State.setO_n (s : State) (k j : Nat) (v : Int) (h : j ≠ k) (hn : k ≠ O.nodeID) : (s.setO k v).n j = s.n j := by
  unfold State.n; rw [State.setO_other s k j v h hn]

theorem State.setN_o (s : State) (k j v : Nat) (h : j ≠ k) (hn : k ≠ O.nodeID) : (s.setN k v).o j = s.o j := State.setO_other s k j _ h hn

theorem State.session_touch (s : State) (sess m n : Nat) (b : Bool) (h : (s.session? n).isSome = true) :
    ((s.touch sess m b).session? n).isSome = true := by
  unfold State.touch State.updSession
  split
  · exact h
  · split
    · exact h
    · unfold State.session?
      rw [look_ins]
      split
      · rfl
      · exact h

/-- A request that is taken up and leaves its session open is answered. -/
theorem State.Takes.answered {s : State} {who : Who} {x : Session} (h : s.Takes who x) {t idx sub : Nat} {w : State}
    (hw : w.access = (s.heard t who idx sub).access) (st : Status) : (w.answer who (Response.of st)).answered who st := by
  refine State.answer_out _ _ _ ?_
  have e : w.session? who.sess = (s.heard t who idx sub).session? who.sess := by
    unfold State.session?
    rw [hw]
  rw [e]
  refine State.session_touch _ _ _ _ _ ?_
  have := h.session
  rw [show ((s.begin t).traffic).session? who.sess = s.session? who.sess from rfl, this]
  rfl

/-- The outcome of a taken-up write of an integer whose act answers `st` and leaves `w`. -/
theorem cmdRow_runs {s : State} {who : Who} {x : Session} {idx sub v : Nat} (h : s.MayWrite who x idx sub v) (t : Nat)
    (act : Session → State → Status × State) {st : Status} {w : State} (e : act x (s.heard t who idx sub) = (st, w)) :
    cmdRow t who idx sub v act s = .next (w.answer who (Response.of st)) := by
  rw [cmdRow_taken h t act, e]

/-- The outcome of a taken-up write of a DOMAIN whose act answers `st` and leaves `w`. -/
theorem domRow_runs {s : State} {who : Who} {x : Session} {idx sub lo hi : Nat} {b : Bytes}
    (h : s.MayWriteDom who x idx sub lo hi b.length) (t : Nat) (ok : State → Bool) (act : Session → State → Status × State)
    (hok : ok (s.heard t who idx sub) = true) {st : Status} {w : State} (e : act x (s.heard t who idx sub) = (st, w)) :
    domRow t who idx sub b lo hi ok act s = .next (w.answer who (Response.of st)) := by
  rw [domRow_taken h t ok act hok, e]

end Sys2Proof.Machine
end

