-- ==== Sys2Proof/Tests/Slice0.lean ====
section
/-! SUPPORT. Small tests: well-formedness, and concrete states that meet the hypotheses of the statements. -/
namespace Sys2Proof.Tests

open Sys2Proof Sys2Proof.Machine

/-! ### Well-formedness: one ill-formed term for each check of each command -/

def w0 : Who := ⟨0, 0, 0, [], none⟩
def wBad : Who := ⟨65600, 0, 0, [], none⟩
def q0 : Req := ⟨w0, 0, none, false, false, false, true⟩
def qBad : Req := ⟨w0, 2048, none, false, false, false, true⟩
def r0 : RxFrame := ⟨[], .good, false, none, [], 64⟩
def rBad : RxFrame := ⟨[], .good, false, some ⟨4, 0, true, true, false⟩, [], 64⟩
def c0 : CanFrame := ⟨0, 0, false, false, false, 0, 0, []⟩
def cBad : CanFrame := ⟨0, 2 ^ 29, false, false, false, 0, 0, []⟩
def f0 : StartFacts := ⟨0, false, false, 0, 255, [], [], 0, [], true, 0, 0, 0, true, 0, [], 0⟩
def fBad : StartFacts := ⟨0, false, false, 4, 255, [], [], 0, [], true, 0, 0, 0, true, 0, [], 0⟩
def b0 : BoundaryFacts := ⟨0, [], [], [], [], [], [], [], []⟩
def bBad : BoundaryFacts := ⟨0, [64], [], [], [], [], [], [], []⟩
def a0 : TalkerAd := ⟨[], [], 0, 0, 0, 0⟩
def m0 : SaddleFrame := ⟨0, 0, false, false, false, false, false, false, false, 0, 0, 0, 0, 0, 0, [], 0, none, none, [], 0⟩
def e0 : FdbEntry := ⟨0, false, none, 0, 0, 0⟩
def x0 : Txn := ⟨0, 0, 0, false, 0, 0, 0, none, 0⟩
def k0 : Mkpdu := ⟨0, 0, 0, 0, true, false, none, none, false⟩

/-- Each term has one operand out of its range (R1, R4, R5, R463). -/
theorem test_refuses_1 : ([.tickBoundary 0 bBad,
    .holdEnd 0 64,
    .reAlignTick 0 wBad,
    .stageRecord 0 w0 8192 [],
    .stageRecord 0 wBad 0 [],
    .stageDelete 0 w0 8192,
    .stageDelete 0 wBad 0,
    .discardStaged 0 w0 8192,
    .discardStaged 0 wBad 0,
    .commit 0 wBad,
    .commitAbort 0 wBad,
    .checkOnly 0 wBad,
    .commitForcingDisables 0 wBad,
    .discardAllStaged 0 wBad,
    .shadowPlanDistributed 0 (2 ^ 32),
    .talkerAdvertise 0 64 a0,
    .listenerDeclaration 0 64 [] false,
    .heartbeatMissed 0 8 0,
    .heartbeatMissed 0 0 4,
    .dieFaultClassifyTimeout 0 8,
    .fatalWire 0 8 0,
    .fatalWire 0 0 7,
    .activationReceive 0 8 0,
    .activationReceive 0 0 (2 ^ 32),
    .urgentShadowPlanBuilt 0 (2 ^ 32),
    .derateRaise 0 8,
    .derateLower 0 8,
    .gateWatchdog 0 8 0,
    .gateWatchdog 0 0 4,
    .clusterBackInService 0 8 0,
    .clusterBackInService 0 0 6,
    .autonegComplete 0 64 0 false,
    .linkUpHoldOff 0 64,
    .linkLoss 0 64,
    .lacpOut 0 64,
    .laneFrameReceive 0 64 r0 [],
    .laneFrameReceive 0 0 rBad [],
    .saddleFrameReceive 0 8 m0 [],
    .sessionTransferDone 0 4096 0,
    .sessionTransferDone 0 0 8] : List Instr).all (fun c => !c.wellFormed) = true := by decide

/-- Each term has one operand out of its range (R1, R4, R5, R463). -/
theorem test_refuses_2 : ([.sessionFlush 0 w0 4096,
    .sessionFlush 0 wBad 0,
    .fdbUpdateReceive 0 8 0 e0,
    .fdbAgeOut 0 8 0,
    .staticEntryWrite 0 wBad [],
    .staticEntryDelete 0 wBad [],
    .fdbFlush 0 wBad,
    .recoveryResetTimeout 0 8 0,
    .recoveryResetTimeout 0 0 8192,
    .transmitDescriptorFetch 0 8 0 [] [],
    .transmitDescriptorFetch 0 0 16 [] [],
    .transmitSelection 0 64 [],
    .gateEvent 0 64,
    .adminListStart 0 64,
    .shaperEligible 0 64 0,
    .shaperEligible 0 0 8192,
    .preemptionVerifyDone 0 64 false,
    .pauseReceive 0 64 false [],
    .pauseTimerExpiry 0 64,
    .pauseRepeat 0 64,
    .starvationLimit 0 64 0,
    .starvationLimit 0 0 8,
    .ptpAnnounceReceive 0 64 [],
    .ptpSyncReceive 0 64 [],
    .ptpFollowUpReceive 0 64 [],
    .ptpDelayReqReceive 0 64 [],
    .ptpDelayRespReceive 0 64 [],
    .ptpPdelayReqReceive 0 64 [],
    .ptpPdelayRespReceive 0 64 [],
    .ptpSignalingReceive 0 64 [],
    .ptpSyncTimer 0 4 0,
    .ptpSyncTimer 0 0 64,
    .ptpAnnounceTimer 0 4 0,
    .ptpAnnounceTimer 0 0 64,
    .ptpDelayTimer 0 4 0,
    .ptpDelayTimer 0 0 64,
    .receiptTimeout 0 4 0,
    .receiptTimeout 0 0 64,
    .timeTransferWord 0 8 0,
    .grandmasterTimeSet 0 w0 4 0] : List Instr).all (fun c => !c.wellFormed) = true := by decide

/-- Each term has one operand out of its range (R1, R4, R5, R463). -/
theorem test_refuses_3 : ([.grandmasterTimeSet 0 w0 0 (2 ^ 64),
    .grandmasterTimeSet 0 wBad 0 0,
    .pulseProgramWrite 0 w0 8 0 [],
    .pulseProgramWrite 0 w0 0 4 [],
    .pulseProgramWrite 0 wBad 0 0 [],
    .pulseEdge 0 8 0,
    .pulseEdge 0 0 4,
    .captureEdge 0 8 0 false,
    .captureEdge 0 0 2 false,
    .refLost 0 4,
    .captureRecordsRead 0 w0 8 0,
    .captureRecordsRead 0 w0 0 2,
    .captureRecordsRead 0 wBad 0 0,
    .cirqueInputFrame 0 8 0 0 (.packet []),
    .cirqueInputFrame 0 0 512 0 (.packet []),
    .cirqueInputFrame 0 0 0 8192 (.packet []),
    .emergencyCommand 0 w0 256,
    .emergencyCommand 0 wBad 0,
    .announcementStart 0 w0 16,
    .announcementStart 0 wBad 0,
    .announcementAbort 0 w0 16,
    .announcementAbort 0 wBad 0,
    .announcementPlayback 0 16,
    .announcementDone 0 16,
    .clipDataWrite 0 wBad [],
    .clipErase 0 wBad,
    .canFrameReceive 0 32 c0,
    .canFrameReceive 0 0 cBad,
    .edgeTxRequest 0 16 0,
    .edgeTxRequest 0 0 (2 ^ 32),
    .canTransmitDone 0 32,
    .busOff 0 32,
    .busOffRecovery 0 w0 32,
    .busOffRecovery 0 wBad 0,
    .busOffRecovered 0 32,
    .linScheduleEntry 0 16,
    .linHeaderReceive 0 16 0,
    .linHeaderReceive 0 0 64,
    .linResponseReceive 0 16 [] false,
    .linNoResponse 0 16] : List Instr).all (fun c => !c.wellFormed) = true := by decide

/-- Each term has one operand out of its range (R1, R4, R5, R463). -/
theorem test_refuses_4 : ([.linGoToSleep 0 16,
    .uartMessageEnd 0 16 [] 0,
    .mvbBasicPeriod 0 8,
    .mvbMasterFrame 0 8 0 0 false false,
    .mvbMasterFrame 0 0 16 0 false false,
    .mvbMasterFrame 0 0 0 4096 false false,
    .mvbSlaveFrame 0 8 0 [] false false,
    .mvbSlaveFrame 0 0 4096 [] false false,
    .t1sFrameReceive 0 8 [] 0 false,
    .t1sFrameReceive 0 0 [] 128 false,
    .telegramReceive 0 (2 ^ 16) 0 [] 0,
    .telegramReceive 0 0 8192 [] 0,
    .nmtStart 0 128,
    .nmtStop 0 128,
    .nmtEnterPreOperational 0 128,
    .nmtResetNode 0 128,
    .nmtResetCommunication 0 128,
    .rpdoReceive 0 64 [],
    .rpdoEventTimer 0 64,
    .syncReceive 0 256,
    .tpdoEventTimer 0 64,
    .heartbeatConsumerTimeout 0 8,
    .flitReplay 0 8 0 false,
    .flitReplay 0 0 4 false,
    .saddleRequestReceive 0 8 0 x0 [],
    .saddleRequestReceive 0 0 4 x0 [],
    .saddleCompletionReceive 0 8 0 0 0,
    .saddleCompletionReceive 0 0 0 16 0,
    .saddleCompletionReceive 0 0 0 0 (2 ^ 64),
    .intSourceClear 0 8 0 0,
    .intSourceClear 0 0 (2 ^ 64) 0,
    .intSourceClear 0 0 0 (2 ^ 64),
    .doorbellIn 0 (2 ^ 32),
    .doorbellOut 0 (2 ^ 32),
    .windowControl 0 18 0,
    .windowControl 0 0 (2 ^ 32),
    .prefetchDiscard 0 5 0 0,
    .prefetchDiscard 0 0 18 0,
    .hostWindowWrite 0 (2 ^ 21) [] [],
    .spiWrite 0 (2 ^ 24) []] : List Instr).all (fun c => !c.wellFormed) = true := by decide

/-- Each term has one operand out of its range (R1, R4, R5, R463). -/
theorem test_refuses_5 : ([.spiRead 0 (2 ^ 24) 0,
    .slotRecordsWrite 0 wBad [] 0,
    .keyImport 0 wBad [] 0,
    .keyRequest 0 8 0,
    .keyRequest 0 0 1024,
    .keyDelivered 0 8 0,
    .keyDelivered 0 0 1024,
    .lifeCycleCommand 0 w0 256,
    .lifeCycleCommand 0 wBad 0,
    .tamper 0 8 0 0,
    .tamper 0 0 8 0,
    .tamperClear 0 wBad [],
    .fuseTamperDestroysRoot 0 wBad,
    .attestationNonce 0 wBad [],
    .attestationReady 0 65600,
    .mkpduReceive 0 64 k0,
    .mkaHelloTimer 0 512,
    .mkaLifeTimeout 0 512 0,
    .lookasideJobFetch 0 64 [] [] false,
    .lookasideJobDone 0 8 false [],
    .abortJob 0 wBad,
    .spewardJob 0 wBad [],
    .eccUncorrectable 0 8 (.management) 0 0,
    .eccUncorrectable 0 0 (.management) 0 (2 ^ 16),
    .patrolScrub 0 8 0,
    .marchStart 0 wBad,
    .marchAbort 0 wBad,
    .standbyEnter 0 wBad,
    .standbyLeave 0 wBad 0 0 f0,
    .standbyLeave 0 w0 0 0 fBad,
    .sleepRequest 0 wBad,
    .token 0 64 [],
    .consentCommit 0 64 [],
    .cancel 0 64 [],
    .join 0 64 [],
    .leave 0 64 [],
    .wakeFrame 0 64,
    .wake 0 8 0 0 0 f0,
    .wake 0 0 0 0 0 fBad,
    .wakeCommand 0 wBad 0 0 f0] : List Instr).all (fun c => !c.wellFormed) = true := by decide

/-- Each term has one operand out of its range (R1, R4, R5, R463). -/
theorem test_refuses_6 : ([.wakeCommand 0 w0 0 0 fBad,
    .detachCommand 0 wBad,
    .openSession 0 w0 256 none,
    .openSession 0 wBad 0 none,
    .close 0 qBad,
    .read 0 q0 (2 ^ 16) 0 0,
    .read 0 q0 0 256 0,
    .read 0 q0 0 0 (2 ^ 32),
    .read 0 qBad 0 0 0,
    .write 0 q0 (2 ^ 16) 0 0 false [],
    .write 0 q0 0 256 0 false [],
    .write 0 q0 0 0 (2 ^ 32) false [],
    .write 0 qBad 0 0 0 false [],
    .describe 0 q0 (2 ^ 16) 0,
    .describe 0 q0 0 256,
    .describe 0 qBad 0 0,
    .txnBegin 0 qBad,
    .txnEnd 0 qBad,
    .txnAbort 0 qBad,
    .ping 0 qBad,
    .sessionIdleTimeout 0 65600,
    .snapshotExpiry 0 65600,
    .forwardTimeout 0 65600,
    .forwardedResponse 0 65600 0 (.ok) [] false,
    .forwardedResponse 0 0 (2 ^ 16) (.ok) [] false,
    .trustAnchorWrite 0 w0 9 [],
    .trustAnchorWrite 0 wBad 0 [],
    .restoreFactory 0 w0 (2 ^ 16),
    .restoreFactory 0 wBad 0,
    .coldStart 0 fBad,
    .updateClaim 0 wBad,
    .updateAbort 0 wBad,
    .updateVerify 0 wBad,
    .updateActivate 0 wBad,
    .updateConfirm 0 wBad,
    .updateRelease 0 wBad,
    .imageBlock 0 wBad [] false,
    .recoveryStatus 0 0 (2 ^ 16),
    .recoveryClaim 0 0 (2 ^ 16) false,
    .recoveryBlock 0 0 (2 ^ 16) 0 []] : List Instr).all (fun c => !c.wellFormed) = true := by decide

/-- Each term has one operand out of its range (R1, R4, R5, R463). -/
theorem test_refuses_7 : ([.recoveryBlock 0 0 0 (2 ^ 32) [],
    .recoveryVerify 0 0 (2 ^ 16) 0,
    .recoveryActivate 0 0 (2 ^ 16),
    .recoveryAbort 0 0 (2 ^ 16),
    .recoveryClear 0 0 (2 ^ 16) [] false,
    .voltage 0 8 0 0 false,
    .voltage 0 0 4 0 false,
    .voltage 0 0 0 (2 ^ 16) false,
    .underVoltageFatal 0 8 0,
    .underVoltageFatal 0 0 4,
    .laneTestStart 0 w0 64 0,
    .laneTestStart 0 w0 0 256,
    .laneTestStart 0 wBad 0 0,
    .laneTestStop 0 w0 64,
    .laneTestStop 0 wBad 0,
    .prbsLock 0 64,
    .noLock 0 64,
    .testFramesDone 0 64,
    .eyeMeasure 0 w0 64,
    .eyeMeasure 0 wBad 0,
    .eyeScanDone 0 64 0 0,
    .eyeScanDone 0 0 (2 ^ 16) 0,
    .eyeScanDone 0 0 0 (2 ^ 16),
    .saddleTestMode 0 w0 8 0 0,
    .saddleTestMode 0 w0 0 4 0,
    .saddleTestMode 0 w0 0 0 256,
    .saddleTestMode 0 wBad 0 0 0,
    .clearLaneCounters 0 w0 64,
    .clearLaneCounters 0 wBad 0,
    .clearStreamCounters 0 wBad,
    .clearPassCounters 0 wBad,
    .clearCirqueCounters 0 wBad,
    .clearEdgeCounters 0 w0 5 0,
    .clearEdgeCounters 0 w0 0 32,
    .clearEdgeCounters 0 wBad 0 0,
    .clearGatewayCounters 0 wBad,
    .clearMacsecCounters 0 wBad,
    .clearBridgeCounters 0 wBad,
    .clearMonitorRecords 0 wBad,
    .lockGained 0 64] : List Instr).all (fun c => !c.wellFormed) = true := by decide

/-- Each term has one operand out of its range (R1, R4, R5, R463). -/
theorem test_refuses_8 : ([.lockLost 0 64,
    .lacpCollectingDistributing 0 64,
    .canBusError 0 32 false false,
    .txDone 0 5 0,
    .txDone 0 0 32,
    .tpdoInhibitTime 0 64,
    .creditReachesZero 0 64 0 [],
    .creditReachesZero 0 0 8 [],
    .limiterCountReachesZero 0 64 [],
    .setAndHold 0 64,
    .tamperConditionEnds 0 8,
    .commit 0 ⟨0, 65536, 0, [], none⟩,
    .commit 0 ⟨0, 0, 0, [0, 0, 0], none⟩,
    .ping 0 { q0 with ext := some ⟨256, false, 0, List.replicate 48 0⟩ },
    .ping 0 { q0 with ext := some ⟨0, false, 65536, List.replicate 48 0⟩ },
    .ping 0 { q0 with ext := some ⟨0, false, 0, []⟩ },
    .laneFrameReceive 0 0 { r0 with sec := some ⟨0, 2 ^ 32, true, true, false⟩ } [],
    .tickBoundary 0 { b0 with temps := [(64, 0)] },
    .tickBoundary 0 { b0 with volts := [(32, 0)] },
    .tickBoundary 0 { b0 with tests := [(64, 0, 0)] },
    .tickBoundary 0 { b0 with links := [(32, 0, 0)] },
    .coldStart 0 { f0 with selfOk := 256 },
    .coldStart 0 { f0 with alignFail := 256 },
    .coldStart 0 { f0 with mismatches := 256 },
    .coldStart 0 { f0 with up := [64] }] : List Instr).all (fun c => !c.wellFormed) = true := by decide

/-- Operands in range are accepted. -/
theorem test_accepts_1 : ([.tickBoundary 0 b0,
    .lockHoldTimeout 0,
    .firstLock 0,
    .stretchTickStart 0 0,
    .stretchTickEnd 0,
    .holdEnd 0 0,
    .reAlignTick 0 w0,
    .holdover 0,
    .stageRecord 0 w0 0 [],
    .stageDelete 0 w0 0,
    .discardStaged 0 w0 0,
    .commit 0 w0,
    .commitAbort 0 w0,
    .checkOnly 0 w0,
    .commitForcingDisables 0 w0,
    .discardAllStaged 0 w0,
    .commitVerdict 0,
    .generationSwitch 0,
    .shadowPlanDistributed 0 0,
    .talkerAdvertise 0 0 a0,
    .listenerDeclaration 0 0 [] false,
    .heartbeatSend 0,
    .heartbeatMissed 0 0 0,
    .dieFaultClassifyTimeout 0 0,
    .fatalWire 0 0 0,
    .activationReceive 0 0 0,
    .faultPlanActive 0,
    .urgentShadowPlanBuilt 0 0,
    .dictionaryServiceResume 0,
    .remirrorDone 0,
    .derateRaise 0 0,
    .derateLower 0 0,
    .migrationEnded 0,
    .gateWatchdog 0 0 0,
    .clusterBackInService 0 0 0,
    .autonegComplete 0 0 0 false,
    .linkUpHoldOff 0 0,
    .linkLoss 0 0,
    .lacpOut 0 0,
    .laneFrameReceive 0 0 r0 []] : List Instr).all (fun c => c.wellFormed) = true := by decide

/-- Operands in range are accepted. -/
theorem test_accepts_2 : ([.saddleFrameReceive 0 0 m0 [],
    .sessionLookupAnswer 0 0 [],
    .sessionIdleExpiry 0,
    .sessionTransferDone 0 0 0,
    .sessionFlush 0 w0 0,
    .fdbUpdateReceive 0 0 0 e0,
    .fdbAgeOut 0 0 0,
    .staticEntryWrite 0 w0 [],
    .staticEntryDelete 0 w0 [],
    .fdbFlush 0 w0,
    .recoveryResetTimeout 0 0 0,
    .transmitDescriptorFetch 0 0 0 [] [],
    .transmitSelection 0 0 [],
    .gateEvent 0 0,
    .adminListStart 0 0,
    .shaperEligible 0 0 0,
    .preemptionVerifyDone 0 0 false,
    .pauseReceive 0 0 false [],
    .pauseTimerExpiry 0 0,
    .pauseRepeat 0 0,
    .starvationLimit 0 0 0,
    .ptpAnnounceReceive 0 0 [],
    .ptpSyncReceive 0 0 [],
    .ptpFollowUpReceive 0 0 [],
    .ptpDelayReqReceive 0 0 [],
    .ptpDelayRespReceive 0 0 [],
    .ptpPdelayReqReceive 0 0 [],
    .ptpPdelayRespReceive 0 0 [],
    .ptpSignalingReceive 0 0 [],
    .ptpSyncTimer 0 0 0,
    .ptpAnnounceTimer 0 0 0,
    .ptpDelayTimer 0 0 0,
    .receiptTimeout 0 0 0,
    .timeTransferWord 0 0 0,
    .grandmasterTimeSet 0 w0 0 0,
    .pulseProgramWrite 0 w0 0 0 [],
    .pulseEdge 0 0 0,
    .captureEdge 0 0 0 false,
    .refLost 0 0,
    .captureRecordsRead 0 w0 0 0] : List Instr).all (fun c => c.wellFormed) = true := by decide

/-- Operands in range are accepted. -/
theorem test_accepts_3 : ([.cirqueInputFrame 0 0 0 0 (.packet []),
    .emergencyAssert 0,
    .emergencyRelease 0,
    .emergencyCommand 0 w0 0,
    .zoneHandoverStart 0,
    .announcementStart 0 w0 0,
    .announcementAbort 0 w0 0,
    .announcementPlayback 0 0,
    .announcementDone 0 0,
    .clipDataWrite 0 w0 [],
    .clipErase 0 w0,
    .canFrameReceive 0 0 c0,
    .edgeTxRequest 0 0 0,
    .canTransmitDone 0 0,
    .busOff 0 0,
    .busOffRecovery 0 w0 0,
    .busOffRecovered 0 0,
    .linScheduleEntry 0 0,
    .linHeaderReceive 0 0 0,
    .linResponseReceive 0 0 [] false,
    .linNoResponse 0 0,
    .linGoToSleep 0 0,
    .uartMessageEnd 0 0 [] 0,
    .mvbBasicPeriod 0 0,
    .mvbMasterFrame 0 0 0 0 false false,
    .mvbSlaveFrame 0 0 0 [] false false,
    .t1sFrameReceive 0 0 [] 0 false,
    .telegramReceive 0 0 0 [] 0,
    .nmtStart 0 0,
    .nmtStop 0 0,
    .nmtEnterPreOperational 0 0,
    .nmtResetNode 0 0,
    .nmtResetCommunication 0 0,
    .sdoRequest 0 [],
    .sdoTimeout 0,
    .rpdoReceive 0 0 [],
    .rpdoEventTimer 0 0,
    .syncReceive 0 0,
    .tpdoEventTimer 0 0,
    .heartbeatProducerTimer 0] : List Instr).all (fun c => c.wellFormed) = true := by decide

/-- Operands in range are accepted. -/
theorem test_accepts_4 : ([.heartbeatConsumerTimeout 0 0,
    .flitReplay 0 0 0 false,
    .saddleRequestReceive 0 0 0 x0 [],
    .saddleCompletionReceive 0 0 0 0 0,
    .bridgeFault 0 0,
    .intWireChange 0,
    .intSourceClear 0 0 0 0,
    .doorbellIn 0 0,
    .doorbellOut 0 0,
    .eventFifo 0,
    .windowControl 0 0 0,
    .prefetchDiscard 0 0 0 0,
    .hostWindowWrite 0 0 [] [],
    .spiWrite 0 0 [],
    .spiRead 0 0 0,
    .spiStatus 0,
    .endpointTakeover 0,
    .slotRecordsWrite 0 w0 [] 0,
    .keyImport 0 w0 [] 0,
    .keyRequest 0 0 0,
    .keyDelivered 0 0 0,
    .lifeCycleCommand 0 w0 0,
    .lifeCycleDone 0,
    .tamper 0 0 0 0,
    .tamperLoopPattern 0 false false 0,
    .tamperClear 0 w0 [],
    .fuseTamperDestroysRoot 0 w0,
    .attestationNonce 0 w0 [],
    .attestationReady 0 0,
    .mkpduReceive 0 0 k0,
    .mkaHelloTimer 0 0,
    .mkaLifeTimeout 0 0 0,
    .lookasideJobFetch 0 0 [] [] false,
    .lookasideJobDone 0 0 false [],
    .abortJob 0 w0,
    .spewardJob 0 w0 [],
    .eccUncorrectable 0 0 .management 0 0,
    .patrolScrub 0 0 0,
    .marchStart 0 w0,
    .marchAbort 0 w0] : List Instr).all (fun c => c.wellFormed) = true := by decide

/-- Operands in range are accepted. -/
theorem test_accepts_5 : ([.marchBankDone 0 0,
    .marchDone 0,
    .standbyEnter 0 w0,
    .standbyLeave 0 w0 0 0 f0,
    .powerOver 0,
    .smbalert 0 [],
    .sleepRequest 0 w0,
    .token 0 0 [],
    .tokenTimeout 0,
    .roundTimeout 0,
    .consentCommit 0 0 [],
    .cancel 0 0 [],
    .join 0 0 [],
    .leave 0 0 [],
    .wakeFrame 0 0,
    .sleepEntry 0,
    .wake 0 0 0 0 0 f0,
    .wakeCommand 0 w0 0 0 f0,
    .falseWake 0,
    .detachCommand 0 w0,
    .detachDrainEnd 0,
    .dtlsHandshake 0 .lane 0 none false none,
    .openSession 0 w0 0 none,
    .close 0 q0,
    .read 0 q0 0 0 0,
    .write 0 q0 0 0 0 false [],
    .describe 0 q0 0 0,
    .txnBegin 0 q0,
    .txnEnd 0 q0,
    .txnAbort 0 q0,
    .ping 0 q0,
    .sessionIdleTimeout 0 0,
    .snapshotExpiry 0 0,
    .forwardTimeout 0 0,
    .forwardedResponse 0 0 0 .ok [] false,
    .trustAnchorWrite 0 w0 0 [],
    .restoreFactory 0 w0 0,
    .coldStart 0 f0,
    .resetAssert 0 0,
    .aonPowerLoss 0] : List Instr).all (fun c => c.wellFormed) = true := by decide

/-- Operands in range are accepted. -/
theorem test_accepts_6 : ([.xtalFail 0,
    .startFailed 0,
    .updateClaim 0 w0,
    .updateAbort 0 w0,
    .updateVerify 0 w0,
    .verifyDone 0 [],
    .updateActivate 0 w0,
    .updateConfirm 0 w0,
    .updateRelease 0 w0,
    .imageBlock 0 w0 [] false,
    .lockTimeout 0,
    .selfChecksPassed 0,
    .confirmationWindowExpired 0,
    .datapathPause 0,
    .recoveryStatus 0 0 0,
    .recoveryClaim 0 0 0 false,
    .recoveryBlock 0 0 0 0 [],
    .recoveryVerify 0 0 0 0,
    .recoveryActivate 0 0 0,
    .recoveryAbort 0 0 0,
    .recoveryClear 0 0 0 [] false,
    .voltage 0 0 0 0 false,
    .underVoltageFatal 0 0 0,
    .laneTestStart 0 w0 0 0,
    .laneTestStop 0 w0 0,
    .prbsLock 0 0,
    .noLock 0 0,
    .testFramesDone 0 0,
    .eyeMeasure 0 w0 0,
    .eyeScanDone 0 0 0 0,
    .saddleTestMode 0 w0 0 0 0,
    .clearLaneCounters 0 w0 0,
    .clearStreamCounters 0 w0,
    .clearPassCounters 0 w0,
    .clearCirqueCounters 0 w0,
    .clearEdgeCounters 0 w0 0 0,
    .clearGatewayCounters 0 w0,
    .clearMacsecCounters 0 w0,
    .clearBridgeCounters 0 w0,
    .clearMonitorRecords 0 w0] : List Instr).all (fun c => c.wellFormed) = true := by decide

/-- Operands in range are accepted. -/
theorem test_accepts_7 : ([.aonPowerUp 0,
    .lockGained 0 0,
    .lockLost 0 0,
    .lacpCollectingDistributing 0 0,
    .canBusError 0 0 false false,
    .txDone 0 0 0,
    .tpdoInhibitTime 0 0,
    .wakeFrameRepeat 0,
    .commitRepeat 0,
    .creditReachesZero 0 0 0 [],
    .limiterCountReachesZero 0 0 [],
    .setAndHold 0 0,
    .tamperConditionEnds 0 0] : List Instr).all (fun c => c.wellFormed) = true := by decide

/-- A write carries at most 1,024 bytes (R407) and a CAN frame at most 2,048 (R256). -/
theorem test_refuses_long (b : Bytes) (h : b.length = 2049) : (Instr.write 0 q0 0 0 0 false b).wellFormed = false ∧
    (Instr.canFrameReceive 0 0 { c0 with data := b }).wellFormed = false := by simp [Instr.wellFormed, canOk, h]

/-! ### Concrete states that meet the hypotheses of the statements, one theorem for each statement that has any -/

/-- `s` with the listed objects set. -/
def objs (l : List (Nat × Int)) (s : State := State.reset) : State := l.foldl (fun s e => s.setO e.1 e.2) s

/-- An open Integrator session in the secure world on association 0. -/
def x1 : Session := ⟨.integrator, true, .svcEthernet, 0, none, false, 0, none, none, false, 0, [], none, 0, none, none, none, [], none, []⟩

/-- `s` with `x` as session 0. -/
def on (x : Session) (s : State := State.reset) : State := { s with access := { s.access with sessions := [(0, x)] } }

/-- A session that lasts is open, and requests are answered. -/
theorem takes_w0 (s : State) (x : Session) (h : ((on x s).answers && (on x s).pathUp x.path && decide (x.assoc = 0) && !x.executing && decide (x.lastSeq ≠ some 0)) = true) :
    (on x s).Takes w0 x := by
  simp only [Bool.and_eq_true, decide_eq_true_eq, Bool.not_eq_true'] at h
  exact ⟨h.1.1.1.1, rfl, h.1.1.1.2, rfl, h.1.1.2, h.2, h.1.2⟩

/-- A command's value passes the checks of R490. -/
theorem mayWrite_w0 (s : State) (x : Session) (i j v : Nat)
    (h : ((on x s).answers && (on x s).pathUp x.path && decide (x.assoc = 0) && !x.executing && decide (x.lastSeq ≠ some 0)) = true)
    (g : (x.txn.isNone && ((on x s).writeCheck x.rights i j).2.any (fun r => r.rng.ok ((v : Nat) : Int)) && (on x s).valueOk i j v) = true) :
    (on x s).MayWrite w0 x i j v := by
  simp only [Bool.and_eq_true, Option.isNone_iff_eq_none, Option.any_eq_true] at g
  exact { takes_w0 s x h with outside := g.1.1, right := g.1.2, value := g.2 }

theorem mayWriteDom_w0 (s : State) (x : Session) (i j lo hi n : Nat)
    (h : ((on x s).answers && (on x s).pathUp x.path && decide (x.assoc = 0) && !x.executing && decide (x.lastSeq ≠ some 0)) = true)
    (g : (x.txn.isNone && ((on x s).writeCheck x.rights i j).2.isSome && decide (lo ≤ n) && decide (n ≤ hi)) = true) :
    (on x s).MayWriteDom w0 x i j lo hi n := by
  simp only [Bool.and_eq_true, Option.isNone_iff_eq_none, decide_eq_true_eq] at g
  exact { takes_w0 s x h with outside := g.1.1.1, right := g.1.1.2, length := ⟨g.1.2, g.2⟩ }

/-- `s` with the tick unit `k` and the listed objects. -/
def ticking (k : TickSt) (l : List (Nat × Int) := []) : State := { objs l with tick := k }
def planning (p : PlanSt) (l : List (Nat × Int) := []) : State := { objs l with plan := p }
def withPkg (p : PkgSt) (l : List (Nat × Int) := []) : State := { objs l with pkg := p }
def withLane (n : Nat) (x : LaneSt) (l : List (Nat × Int) := []) : State := { objs l with lanes := put {} [] n x }

/-- `n` bytes, those at the listed offsets as given and the others 0. -/
def bytesOf (n : Nat) (l : List (Nat × Byte)) : Bytes := (List.range n).map (fun i => ((l.find? (fun e => e.1 == i)).map (·.2)).getD 0)

/-- A Reserved contract of stream 1 with frames of up to 256 bytes, one each tick, from lane 0 to lane 1. -/
def con1 : Bytes := bytesOf 64 [(0, 1), (4, 1), (0x0B, 0xFF), (0x0A, 0xFF), (0x0F, 1), (0x10, 1), (0x28, 1), (0x2A, 1), (0x3F, 1)]

theorem test_witness_EveryStepKeepsInvariant : State.reset.Inv ∧ ∃ u, step State.reset = .next u := ⟨⟨by unfold State.legalVariant; decide, by decide⟩, _, rfl⟩

theorem test_witness_TickRegimes :
    ((fun s => s.tickState = tickHOLD ∧ s.tick.stretch = none ∧ s.n O.lockHoldTimeout ≠ 0 ∧ s.n O.lockHoldTimeout * 1000000 ≤ s.localAt 5000000000 - s.tick.holdSince) (objs [(O.tickState, tickHOLD)])) ∧
    State.reset.flag O.tickFlags tfUNLOCKED = true ∧
    ((fun s => s.flag O.tickFlags tfUNLOCKED = false ∧ s.tick.stretch.isSome = true ∧ s.tickState ≠ tickLOCKED) (ticking { stretch := some 9 } [(O.tickFlags, 2)])) ∧
    ((fun s => s.flag O.tickFlags tfUNLOCKED = false ∧ s.tick.stretch = none ∧ s.tickState = tickHOLDOVER) (objs [(O.tickFlags, 8), (O.tickState, tickHOLDOVER)])) ∧
    (objs [(O.tickState, tickLOCKED)]).tickState = tickLOCKED ∧ (ticking { lockPending := true }).stepDue = true ∧ (objs [(O.tickFlags, 0x42)]).stepDue = true ∧
    (on x1).MayWrite w0 x1 0x2100 7 1 ∧
    ((fun s => s.hasLane 63 = true ∧ s.holdEnded = true ∧ s.laneHeld 63 = true ∧ s.laneRestarting 63 = false ∧ isCycleBoundary (s.laneCycle 63) s.tickNo = true)
      (objs [(O.tickState, tickLOCKED), (O.tickNumber, 8), (laneSub O.gateCycle 63, 8)])) := by
  refine ⟨by decide, by decide, by decide, by decide, by decide, by decide, by decide, mayWrite_w0 _ _ _ _ _ (by decide) (by decide), by decide⟩

theorem test_witness_SlotStates :
    (on x1).MayWriteDom w0 x1 (0x3000 + 8191) 1 64 64 con1.length ∧ contractReservedOk con1 = true ∧ (on x1).MayWrite w0 x1 (0x3000 + 8191) 4 1 ∧ (on x1).MayWrite w0 x1 0x3000 5 1 ∧
    (∀ k ∈ [0, 1, 2, 3, 4, 5, 6], (on x1 (objs [(slotStateKey 8191, k)])).slotState 8191 = k) :=
  ⟨mayWriteDom_w0 _ _ _ _ _ _ _ (by decide) (by decide), by decide, mayWrite_w0 _ _ _ _ _ (by decide) (by decide), mayWrite_w0 _ _ _ _ _ (by decide) (by decide), by decide⟩

theorem test_witness_CommitCommands :
    (∀ c ∈ [1, 3, 4, 5], (on x1).MayWrite w0 x1 0x5000 1 c) ∧ (on x1).commitStatus ≠ csRUNNING ∧ (on x1).n O.powerState ≠ 2 ∧
    (∀ c ∈ [1, 2, 3, 4, 5], (on x1 (objs [(O.commitStatus, csRUNNING)])).MayWrite w0 x1 0x5000 1 c) ∧ (on x1 (objs [(O.commitStatus, csRUNNING)])).commitStatus = csRUNNING ∧
    ((on (({ x1 with path := .svcEthernet } : Session)) (objs [(O.powerState, 2)])).MayWrite w0 { x1 with path := .svcEthernet } 0x5000 1 4) := by
  refine ⟨fun c hc => mayWrite_w0 _ _ _ _ _ (by decide) ?_, by decide, by decide, fun c hc => mayWrite_w0 _ _ _ _ _ (by decide) ?_, by decide, mayWrite_w0 _ _ _ _ _ (by decide) (by decide)⟩ <;>
    (simp only [List.mem_cons, List.not_mem_nil, or_false] at hc; rcases hc with rfl | rfl | rfl | rfl | rfl <;> decide)

def snap0 : Snapshot := ⟨1, 0, .integrator, [], {}, [], [], 0, 0⟩
theorem test_witness_CommitEnds :
    ((fun s => s.commitStatus = csRUNNING ∧ s.plan.snapshot = some snap0) (planning { snapshot := some snap0 } [(O.commitStatus, csRUNNING)])) ∧
    (objs [(O.migrationStatus, msRUNNING)]).n O.migrationStatus = msRUNNING ∧
    ((fun s => s.plan.pending = [{ switchTick := 5 }] ∧ 5 ≤ s.tickNo ∧ s.tick.stretch = none) (planning { pending := [{ switchTick := 5 }] } [(O.tickNumber, 5)])) := by decide

def con1Plan : PlanSt := { active := { contracts := [(8191, con1)] } }
def ad1 : TalkerAd := ⟨[0, 0, 0, 0, 0, 0, 0, 1], fill 6 0, 0, 256, 0, 7⟩
theorem test_witness_ShadowPlansAndStreams :
    ((fun s => s.plan.faults = [] ∧ (s.plan.cases.takeWhile (fun c => c.code != 0x10000002)).all (fun c => decide (2 ≤ c.state)) = true)
      (planning { cases := [⟨0x10000001, 2, 0, 0, 0, 0⟩, ⟨0x10000002, 1, 0, 0, 0, 0⟩] })) ∧
    ((planning { cases := [⟨0x10000001, 1, 0, 0, 0, 0⟩] }).plan.cases.takeWhile (fun c => c.code != 0x10000002)).all (fun c => decide (2 ≤ c.state)) = false ∧
    ((fun s => s.plan.activating = some (0x20000001, 7) ∧ s.dieUp 7 = true ∧ (∃ d ∈ bitsSet (s.reporters 0x20000001) 8, d ≠ 7 ∧ bit s.plan.reported d = false))
      (planning { activating := some (0x20000001, 7) })) ∧
    ((fun s => s.plan.activating = none ∧ s.plan.settling = some (0x20000001, 7)) (planning { settling := some (0x20000001, 7) })) ∧
    ((fun s => s.plan.activating = none ∧ s.plan.base = [] ∧ s.plan.urgent.find? (fun e => e.1 == 0x20000001) = some (0x20000001, 7)) (planning { urgent := [(0x20000001, 7)] })) ∧
    ((fun s => s.hasLane 63 = true ∧ s.plan.active.contracts.find? (fun e => adMatches (s.begin 0) 63 ad1 e.2) = none) (planning con1Plan)) ∧
    ((fun s => s.hasLane 0 = true ∧ s.plan.active.contracts.find? (fun e => adMatches (s.begin 0) 0 ad1 e.2) = some (8191, con1)) (planning con1Plan)) ∧
    (planning con1Plan).plan.active.contracts.find? (fun e => msrpContract e.2 && Contract.stream e.2 == ad1.stream) = some (8191, con1) := by decide

theorem test_witness_AbortOnlyRunningCommit :
    (on x1).MayWrite w0 x1 0x5000 1 2 ∧ (on x1).commitStatus ≠ csRUNNING := ⟨mayWrite_w0 _ _ _ _ _ (by decide) (by decide), by decide⟩

def links8 (v : Int) : List (Nat × Int) := (List.range 32).map (fun i => (bySub O.saddleLinkState i, v))
theorem test_witness_DieFaults :
    ((fun s => s.dieUp 7 = true ∧ s.trained 7 3 = true ∧ (s.begin 0).missesInRow 7 3 < 3) (objs [(portKey O.saddleLinkState 7 3, linkSERVICE)])) ∧
    ((fun s => s.dieUp 0 = true ∧ s.trained 0 0 = true ∧ 3 ≤ (s.begin 0).missesInRow 0 0 ∧ s.peer 0 0 = some (1, 1) ∧ s.saddle 0 0 = linkSTANDBY)
      (withPkg { linkMiss := [(0, (2, 0))] } [(portKey O.saddleLinkState 0 0, linkSTANDBY)])) ∧
    ((fun s => 3 ≤ (s.begin 0).missesInRow 0 0 ∧ s.trained 0 0 = true ∧ s.saddle 0 0 ≠ linkSTANDBY ∧ s.dieUp 1 = true)
      (withPkg { linkMiss := [(0, (2, 0))] } [(portKey O.saddleLinkState 0 0, linkSERVICE)])) ∧
    State.reset.dieUp 0 = true ∧ State.reset.pkg.standby ≠ 0 ∧ State.reset.dieUp State.reset.pkg.standby = true ∧
    ((fun s => s.dieUp 0 = true ∧ look s.pkg.firstReport 0 = some 0 ∧ 8000 ≤ s.localAt 8000 ∧ s.allLinksLost 0 = true) (withPkg { linkReports := [(0, 1)], firstReport := [(0, 0)] } [])) ∧
    ((fun s => look s.pkg.firstReport 0 = some 0 ∧ 8000 ≤ s.localAt 8000 ∧ s.allLinksLost 0 = false) (withPkg { firstReport := [(0, 0)] } [])) := by decide

theorem test_witness_RolesAndClusters :
    ((fun s => s.pkg.serving = false ∧ s.pkg.cancelOnResume = true ∧ s.pkg.stagedLost = false ∧ s.update.holder = none ∧ s.commitStatus = csRUNNING)
      (withPkg { serving := false, cancelOnResume := true } [(O.commitStatus, csRUNNING)])) ∧ State.reset.pkg.standby ≠ 0xFF ∧
    (State.reset.regionUp (clusterRegion 7 3) = true ∧ (State.reset.cluster 7 3).count = 0) ∧
    ((fun s => (s.cluster 0 0).count = 1 ∧ s.tickNo - (s.cluster 0 0).firstTick < 8192) (withPkg { clusters := [(0, ⟨false, 1, 1⟩)] } [(O.tickNumber, 8192)])) ∧
    ((fun s => (s.cluster 0 0).count = 1 ∧ 8192 ≤ s.tickNo - (s.cluster 0 0).firstTick) (withPkg { clusters := [(0, ⟨false, 1, 1⟩)] } [(O.tickNumber, 8193)])) ∧
    ((fun s => 2 ≤ (s.cluster 0 0).count ∧ s.tickNo - (s.cluster 0 0).firstTick < 8192) (withPkg { clusters := [(0, ⟨true, 0, 2⟩)] } [])) ∧
    (withPkg { regionFaults := [15] }).regionUp (clusterRegion 7 3) = false ∧ ((withPkg { clusters := [(0, ⟨true, 0, 2⟩)] }).cluster 0 0).restarting = true ∧
    ((fun s => s.dieUp 7 = true ∧ s.n (bySub O.dieDerateLevel 7) < 3 ∧ 64 ≤ get 0 s.plan.derateHot 7) (planning { derateHot := [(7, 64)] } [(bySub O.dieDerateLevel 7, 2)])) ∧
    ((fun s => s.dieUp 7 = true ∧ 0 < s.n (bySub O.dieDerateLevel 7) ∧ 480000 ≤ get 0 s.plan.derateCool 7 ∧ (get 0 s.power.raised 7 = 0 ∨ 480000 ≤ s.power.coolRun))
      (planning { derateCool := [(7, 480000)] } [(bySub O.dieDerateLevel 7, 1)])) := by decide

theorem test_witness_LaneLinks :
    State.reset.laneOn 63 = true ∧
    ((fun s => s.laneOn 63 = true ∧ s.usesAutoneg 63 = true ∧ modeRate 4 = s.laneRate 63 ∧ modeRate 1 ≠ s.laneRate 63 ∧ s.link 63 lkSIGNAL = false) (objs [(laneKey O.laneMode 63, 4)])) ∧
    ((fun s => s.usesAutoneg 63 = true ∧ s.link 63 lkSIGNAL = true) (objs [(laneKey O.laneMode 63, 4), (laneKey O.linkStatus 63, 9)])) ∧
    ((fun s => s.laneOn 63 = true ∧ (s.lane 63).upSince = some 0 ∧ s.linkReady 63 = true ∧ s.n (laneKey O.linkUpHoldOff 63) * 1000000 ≤ s.localAt 10000000 - 0 ∧ s.n (laneSub O.preemptionEnable 63) ≠ 1 ∧ s.lagOf 63 = none)
      (withLane 63 { upSince := some 0 } [(laneKey O.linkStatus 63, 6)])) ∧
    ((fun s => s.laneOn 63 = true ∧ (s.lane 63).lossSince = some 0 ∧ s.link 63 lkSIGNAL = true ∧ s.n (laneKey O.lossHoldOff 63) * 1000 ≤ s.localAt 100000 - 0 ∧ s.plan.active.gen = 0)
      (withLane 63 { lossSince := some 0 } [(laneKey O.linkStatus 63, 9)])) ∧
    ((fun s => s.hasLane 0 = true ∧ s.n (laneSub O.preemptionStatus 0) = 1 ∧ s.linkReady 0 = true ∧ s.lagOf 0 = none) (objs [(laneSub O.preemptionStatus 0, 1), (laneKey O.linkStatus 0, 6)])) ∧
    ((fun s => s.lagOf 63 = some 31 ∧ s.n (byIdx O.lacpMode 31) ≠ 0 ∧ s.link 63 lkLACPOUT = false ∧ s.plan.active.gen = 0) (objs [(byIdx O.members 31, 2 ^ 63), (byIdx O.lacpMode 31, 1)])) ∧
    (on x1).MayWrite w0 x1 (0x2200 + 63) 0x1F 1 := by
  refine ⟨by decide, by decide, by decide, by decide, by decide, by decide, by decide, mayWrite_w0 _ _ _ _ _ (by decide) (by decide)⟩

def pkt0 : Pkt := ⟨[], 0, 0, 1, false, 0, none, 0, 0, 0, 0xFFFF, 0, none, false, false, false, 0, 0⟩
def fw1 : State := { State.reset with fw := { waiting := [⟨5, pkt0, 64, 1, some 1, 0, false, 5, false⟩] } }
theorem test_witness_FirewallSessions :
    (∀ p ∈ [0, 4095, 0xFFFF], (on x1).MayWrite w0 x1 0x2600 9 p) ∧ (∃ w ∈ fw1.fw.waiting, w.id = 5) := by
  refine ⟨fun p hp => mayWrite_w0 _ _ _ _ _ (by decide) ?_, by decide⟩
  simp only [List.mem_cons, List.not_mem_nil, or_false] at hp
  rcases hp with rfl | rfl | rfl <;> decide

def fdb1 (e : FdbEntry) : State := { State.reset with fwd := { fdb := [(0, [(8192, e)])], recovery := [(0, ⟨true, 5, 0, 0⟩)] } }
def static1 : Bytes := bytesOf 24 [(5, 2), (6, 1), (8, 3), (0x0A, 1)]
theorem test_witness_ForwardingDatabase :
    State.reset.dieUp 0 = true ∧ look ((fdb1 ⟨1, false, none, 0, 7, 0⟩).fdbOf 0) 8192 = some ⟨1, false, none, 0, 7, 0⟩ ∧ look (State.reset.fdbOf 0) 8192 = none ∧
    ((fdb1 ⟨1, false, none, 0, 7, 0⟩).n O.fdbAgeingTime * 1000000000 ≤ (fdb1 ⟨1, false, none, 0, 7, 0⟩).localAt 300000000000 - 0) ∧
    look ((fdb1 ⟨1, true, none, 0, 7, 0⟩).fdbOf 0) 8192 = some ⟨1, true, none, 0, 7, 0⟩ ∧
    (on x1).MayWriteDom w0 x1 0x2430 4 24 24 static1.length ∧ staticEntryOk static1 = true ∧ (on x1).MayWriteDom w0 x1 0x2430 5 8 8 8 ∧ (on x1).MayWrite w0 x1 0x2400 6 1 ∧
    (get {} (fdb1 e0).fwd.recovery 0).started = true ∧ (fdb1 e0).n O.recoveryResetTimeout * (fdb1 e0).period ≤ (fdb1 e0).localAt 1000000000 - (get {} (fdb1 e0).fwd.recovery 0).lastPass := by
  refine ⟨by decide, by decide, by decide, by decide, by decide, mayWriteDom_w0 _ _ _ _ _ _ _ (by decide) (by decide), by decide, mayWriteDom_w0 _ _ _ _ _ _ _ (by decide) (by decide),
    mayWrite_w0 _ _ _ _ _ (by decide) (by decide), by decide, by decide⟩

/-- Where no entry is listed the bucket is empty, whatever the hash, so it has room. -/
theorem test_witness_bucket (key : Nat) : (State.reset.bucket 0 key).length < 4 := by
  have h : State.reset.bucket 0 key = [] := rfl
  rw [h]; decide

theorem test_witness_Clears :
    (∀ c ∈ [(0x2650, 4), (0x2450, 4), (0x2A38, 4), (0x2900, 4), (0x2B71, 1), (0x2E47, 2), (0x2E24, 1)], (on x1).MayWrite w0 x1 c.1 c.2 1) ∧
    (∀ c ∈ [(0, 31), (1, 15), (2, 15), (3, 7), (4, 7)], (on x1).MayWrite w0 x1 (edgeCounters c.1 c.2).1 (edgeCounters c.1 c.2).2.1 1) ∧ (on x1).legalVariant := by
  refine ⟨fun c hc => mayWrite_w0 _ _ _ _ _ (by decide) ?_, fun c hc => mayWrite_w0 _ _ _ _ _ (by decide) ?_, .inr (.inr rfl)⟩
  · simp only [List.mem_cons, List.not_mem_nil, or_false] at hc
    rcases hc with rfl | rfl | rfl | rfl | rfl | rfl | rfl <;> decide
  · simp only [List.mem_cons, List.not_mem_nil, or_false] at hc
    rcases hc with rfl | rfl | rfl | rfl | rfl <;> decide

def qf (tc : Nat) : QFrame := ⟨fill 60 0, 64, tc, 0xFFFF, 0, 0, none, false, 0, false, false, false, 0, 0, 0, some 0⟩
def listed (es : List GateEntry) (l : LaneSt) (o : List (Nat × Int)) : State :=
  { withLane 63 l o with plan := { active := { lanes := [(63, { list := es })] } } }
theorem test_witness_PauseAndGates :
    ((fun s => s.hasLane 63 = true ∧ s.regionUp (63 / 4) = true ∧ s.laneRestarting 63 = false ∧ bit (s.n (bySub O.flowControl 63)) 0 = true ∧ bit (s.n (bySub O.flowControl 63)) 1 = true ∧
      bit (s.n (bySub O.pausableClasses 63)) (s.pcpClass 63 0) = true) State.reset) ∧
    bit ((objs [(bySub O.flowControl 63, 0)]).n (bySub O.flowControl 63)) 0 = false ∧ (withPkg { clusters := [(8 * 7 + 3, ⟨true, 0, 1⟩)] }).laneRestarting 63 = true ∧
    ((fun s => s.hasLane 63 = true ∧ (s.lane 63).xoff = true ∧ s.txFlow 63 ≠ 0 ∧ ceilDiv (32768 * 512 * 1000000) (max 1 (s.laneRate 63)) ≤ s.localAt 100000000 - (s.lane 63).xoffTime ∧
      bits (s.n (bySub O.pauseThresholds 63)) 0 16 * 1024 ≤ s.beUseOfLane 63) (withLane 63 { xoff := true } [(bySub O.flowControl 63, 4), (bySub O.pauseThresholds 63, 0x10000)])) ∧
    ((fun s => (s.lane 63).xoff = true ∧ s.txFlow 63 ≠ 0 ∧ s.beUseOfLane 63 < bits (s.n (bySub O.pauseThresholds 63)) 0 16 * 1024) (withLane 63 { xoff := true } [(bySub O.flowControl 63, 4)])) ∧
    ((fun s => s.hasLane 63 = true ∧ (s.begin 100000000).starves 63 2 = true) (withLane 63 { queues := [qf 2], beSent := [(2, 0)] })) ∧
    ((fun s => s.hasLane 63 = true ∧ (s.lane 63).gateRunning = true ∧ (s.listOf 63)[(s.lane 63).gateNext]? = some ⟨0, 1, 0, 0xFFFF⟩ ∧ (s.lane 63).gateRound = s.cycleRound 63 ∧ 0 ≤ (s.begin 0).cyclePos 63)
      (listed [⟨0, 1, 0, 0xFFFF⟩] { gateRunning := true } [])) ∧
    ((fun s => s.hasLane 63 = true ∧ (s.lane 63).adminRunning = false ∧ s.n (at_ O.adminCycle 63) = 4 ∧ s.holdEnded = true ∧ s.tick.stretch = none ∧ hasWindows (s.view.onLane 63) = false ∧ (s.lane 63).adminSince + 2 ≤ s.tickNo ∧
      s.tickNo % 4 = 0 ∧ s.n (at_ O.adminBaseTime 63) ≤ s.tickNo * s.period) (objs [(at_ O.adminCycle 63, 4), (O.tickNumber, 4), (O.tickState, tickLOCKED)])) ∧
    ((fun s => s.hasLane 63 = true ∧ (s.lane 63).gateRunning = true ∧ s.preemptActive 63 = true ∧ (∃ e ∈ s.listOf 63, e.op = 1) ∧ s.preemptible 63 0 = true ∧ (s.begin 0).inBand 63 0 = true ∧ (s.begin 0).mayCut 63 = false)
      (listed [⟨0, 0x80, 1, 0xFFFF⟩] { gateRunning := true } [(bySub O.preemptionStatus 63, 2), (bySub O.preemptionEnable 63, 1)])) := by
  refine ⟨by decide, by decide, by decide, by decide, by decide, by decide, by decide, by decide, by decide⟩

def up1 : List (Nat × Int) := [(laneKey O.linkStatus 0, 15)]
def txd (b : Nat) : TxDesc := ⟨bytesOf 32 [(8, 60), (0x0A, BitVec.ofNat 8 b), (0x0C, 0xFF), (0x0D, 0xFF)], fill 60 0⟩
def shp (c : Int) : State := { State.reset with fwd := { shapers := [(0, ⟨1, 100, 1, 100, c, c, 0, 0, 3, 0, [qf 3]⟩)] } }
theorem test_witness_Datapath :
    ((fun s => s.laneOn 0 = true ∧ s.inService 0 = true ∧ s.regionUp 0 = true ∧ (s.lane 0).testMode = 0 ∧ s.quiet = false ∧ s.laneRestarting 0 = false ∧ s.pkg.pausedTill ≤ s.localAt 0 ∧ bit s.pkg.quarantine 0 = false ∧
      (s.rxClasses 0 { r0 with bytes := fill 60 0 }).headD 0 ≠ 2 ∧ (s.rxClasses 0 { r0 with bytes := fill 60 0 }).headD 0 ≠ 3) (withPkg { quarantine := 0 } up1)) ∧
    shortFragment { r0 with frags := [63] } = true ∧ shortFragment r0 = false ∧ r0.sec = none ∧ r0.bytes.length < 14 ∧
    ((fun s => s.dieUp 7 = true ∧ s.contract 0xFFFF = none ∧ (s.neighbours 0).contains 1 = true) (objs [(portKey O.saddleLinkState 0 0, linkSERVICE)])) ∧
    ((fun s => s.dieUp 0 = true ∧ s.n (ringKey O.transmitRingEnable 0 15) = 1 ∧ look s.fwd.txSkip 15 = none ∧ s.fwd.tx = [] ∧ ((s.begin 0).handed []).txStatus 0 15 (chainOf [txd 0xA0]) = some 3 ∧
      ((s.begin 0).handed []).txStatus 0 15 (chainOf [txd 0xE0]) = some 0 ∧ chainOf [txd 0xE0] = [txd 0xE0]) (withPkg { quarantine := 0 } [(ringKey O.transmitRingEnable 0 15, 1)])) ∧
    ((fun s => s.inService 0 = true ∧ s.laneStands 0 = true ∧ (s.lane 0).testMode = 0 ∧ s.quiet = false ∧ s.pkg.pausedTill ≤ s.localAt 0 ∧ (s.begin 0).atBoundary 0 = true ∧ (s.selecting 0 0 []).flowFrame 0 = some 5)
      (withLane 0 { pauseOut := some 5 } up1)) ∧
    ((fun s => (s.selecting 0 0 []).flowFrame 0 = none ∧ (s.lane 0).preempted = none ∧ (s.lane 0).hold = false ∧ (s.selecting 0 0 []).candidates 0 = [(qf 3, false)]) (withLane 0 { queues := [qf 3] } up1)) ∧
    ((fun s => (s.selecting 0 0 []).flowFrame 0 = none ∧ (s.lane 0).preempted = none ∧ (s.selecting 0 0 []).candidates 0 = []) (objs up1)) ∧
    ((fun s => (s.selecting 0 0 []).flowFrame 0 = none ∧ (s.lane 0).preempted = some (qf 0) ∧ (s.lane 0).hold = false ∧ (s.selecting 0 0 []).candidates 0 = [] ∧ (s.selecting 0 0 []).gateOpen 0 (qf 0).tc = true)
      (withLane 0 { preempted := some (qf 0) } up1)) ∧
    ((fun s => look s.fwd.shapers 0 = some ⟨1, 100, 1, 100, 0, 0, 0, 0, 3, 0, [qf 3]⟩ ∧
      0 ≤ ((⟨1, 100, 1, 100, 0, 0, 0, 0, 3, 0, [qf 3]⟩ : ShaperSt).accrue (s.localAt 0)).cc ∧ 0 ≤ ((⟨1, 100, 1, 100, 0, 0, 0, 0, 3, 0, [qf 3]⟩ : ShaperSt).accrue (s.localAt 0)).pc) (shp 0)) ∧
    (withLane 0 { queues := [qf 2] }).waits 0 2 = true := by
  refine ⟨by decide, by decide, by decide, by decide, by decide, by decide, by decide, by decide, by decide, by decide, by decide, by decide, by decide⟩

/-- Lane 0 of an instance `i` with the given profile, with the instance's own state and further objects. -/
def ptp (i p : Nat) (x : InstSt) (l : List (Nat × Int)) : State :=
  { objs (up1 ++ [(byIdx O.instanceEnable i, 1), (byIdx O.memberLanes i, 1), (byIdx O.profile i, (p : Int)), (byIdx O.slavePort i, 0), (bySub O.meanLinkDelay 0, 0)] ++ l) with time := { inst := [(i, x)] } }
def pm (ty : Byte) (l : List (Nat × Byte)) : Bytes := bytesOf 72 ((0, ty) :: l)
/-- The fields by which a response names this device's exchange 5 on lane 0. -/
def ours : List (Nat × Byte) := [(0x1F, 5), (0x2F, 0xFF), (0x30, 0xFE), (0x35, 1)]
theorem test_witness_PtpMessages :
    ((fun s m => s.ptpInst m = some 0 ∧ s.isPort 0 0 = true ∧ s.pkg.serving = true ∧ ptpType m = 0xB ∧ slice m 0x14 8 ≠ s.clockId ∧ s.asCapable 0 = true) (ptp 0 0 {} []) (pm 0x1B [])) ∧
    ((fun s m => s.ptpInst m = some 0 ∧ s.isPort 0 0 = true ∧ ptpType m = 0xB ∧ s.n (byIdx O.profile 0) ≠ 0) (ptp 0 2 {} []) (pm 0x0B [])) ∧
    ((fun s m => s.ptpInst m = some 0 ∧ s.isPort 0 0 = true ∧ ptpType m = 0 ∧ s.slavePort 0 = 0 ∧ bit (fldBE m 6 2) 9 = true) (ptp 0 0 {} []) (pm 0x10 [(6, 2)])) ∧
    bit (fldBE (pm 0x10 []) 6 2) 9 = false ∧
    ((fun s m => s.ptpInst m = some 0 ∧ s.isPort 0 0 = true ∧ ptpType m = 8 ∧ s.slavePort 0 = 0 ∧ look (s.inst 0).twoStep 0 = some (fldBE m 0x1E 2, 7, 0)) (ptp 0 0 { twoStep := [(0, (5, 7, 0))] } []) (pm 0x18 [(0x1F, 5)])) ∧
    ((fun s m => s.ptpInst m = some 0 ∧ s.isPort 0 0 = true ∧ ptpType m = 1 ∧ s.n (byIdx O.profile 0) = 1 ∧ s.portSt 0 0 = 1) (ptp 0 1 {} [(portStateKey 0 0, 1)]) (pm 1 [])) ∧
    ((fun s m => s.ptpInst m = some 0 ∧ s.isPort 0 0 = true ∧ ptpType m = 9 ∧ s.slavePort 0 = 0 ∧ (s.inst 0).syncs = some (1, 2) ∧ s.ourExchange 0 (get {} (s.inst 0).delay 0) m 1 = true)
      (ptp 0 1 { syncs := some (1, 2), delay := [(0, { seq := 5, waiting := 1 })] } []) (pm 9 ours)) ∧
    ((fun s m => ptpType m = 2 ∧ s.peerInst 0 m = some 0 ∧ s.n (byIdx O.profile 0) = 0) (ptp 0 0 {} []) (pm 0x12 [])) ∧
    ((fun s m => ptpType m = 3 ∧ s.peerInst 0 m = some 0 ∧ s.ourExchange 0 (get {} (s.inst 0).delay 0) m 1 = true ∧ bit (fldBE m 6 2) 9 = true)
      (ptp 0 0 { delay := [(0, { seq := 5, waiting := 1 })] } []) (pm 0x13 ((6, 2) :: ours))) ∧
    (∀ v ∈ [(0x80, -128), (126, 126), (0xFD, -3)], (fun s m => s.ptpInst m = some 0 ∧ s.isPort 0 0 = true ∧ ptpType m = 0xC ∧ s.n (byIdx O.profile 0) = 0 ∧ fldBE m 44 2 = 3 ∧ fldBE m 48 3 = 0x0080C2 ∧ fldBE m 51 3 = 2 ∧
      signed 8 (fld m 55 1) = v.2) (ptp 0 0 {} []) (pm 0x1C [(45, 3), (49, 0x80), (50, 0xC2), (53, 2), (55, v.1)])) := by
  refine ⟨by decide, by decide, by decide, by decide, by decide, by decide, by decide, by decide, by decide, by decide⟩

theorem test_witness_PtpTimers :
    ((fun s => s.isPort 3 0 = true ∧ s.portSt 3 0 = 1 ∧ (s.logs_ 3 0).2.1 ≠ 127 ∧ (s.logs_ 3 0).2.2 ≠ 127 ∧ s.n (byIdx O.profile 3) ≠ 0) (ptp 3 2 {} [(portStateKey 3 0, 1)])) ∧
    ((fun s => s.n (byIdx O.profile 0) = 0 ∧ s.instFlag 0 isSELFGM = true ∧ s.isPort 0 0 = true ∧ s.portSt 0 0 = 1) (ptp 0 0 {} [(portStateKey 0 0, 1), (byIdx O.instanceStatus 0, 2 ^ isSELFGM)])) ∧
    ((fun s => s.isPort 0 0 = true ∧ (s.logs_ 0 0).1 ≠ 127 ∧ s.n (byIdx O.profile 0) = 1 ∧ s.slavePort 0 = 0) (ptp 0 1 {} [])) ∧
    ((fun s => s.n (byIdx O.profile 0) = 0 ∧ s.linkService 0 = some 0) (ptp 0 0 {} [])) ∧
    ((fun s => s.instOn 0 = true ∧ s.pkg.serving = true ∧ look (s.inst 0).announceTime 63 = some 0 ∧ bits (s.n (byIdx O.receiptTimeouts 0)) 8 8 * intervalNs (s.o (byIdx O.logAnnounceInterval 0)) ≤ s.localAt 60000000000)
      (ptp 0 0 { announceTime := [(63, 0)] } [])) ∧
    ((fun s => s.dieUp 7 = true ∧ 7 ≠ s.pkg.lead ∧ get 0 s.time.misaligned 7 = 15) { State.reset with time := { misaligned := [(7, 15)] } }) ∧
    (on x1).MayWrite w0 x1 (0x2110 + 3) 0x1A (2 ^ 64 - 1) ∧ (objs [(byIdx O.instanceStatus 3, 2 ^ isSELFGM)]).instFlag 3 isSELFGM = true ∧ State.reset.instFlag 3 isSELFGM = false ∧
    ((fun s => s.refActs 3 = true ∧ (s.inst 3).refLast + 2000000000 ≤ s.localAt 2000000000) (ptp 3 0 {} [(byIdx O.instanceStatus 3, 2 ^ isSELFGM), (byIdx O.timeReference 3, 0x80)])) := by
  refine ⟨by decide, by decide, by decide, by decide, by decide, by decide, mayWrite_w0 _ _ _ _ _ (by decide) (by decide), by decide, by decide, by decide⟩

def prog1 : Bytes := bytesOf 24 [(0x10, 8), (0x15, 5)]
def pulsing (x : PulseSt) : State := { objs [(byIdx O.instanceEnable 0, 1)] with time := { pulses := [(31, x)] } }
theorem test_witness_PulsesAndCaptures :
    (on x1).MayWriteDom w0 x1 (0x2130 + 7) (1 + 3) 24 24 prog1.length ∧ pulseOk prog1 = true ∧ pulseEnabled (State.reset.pulse 31).prog = false ∧ (State.reset.pulse 31).ends = none ∧
    ((pulsing { ends := some 5 }).pulse (4 * 7 + 3)).ends.isSome = true ∧
    ((fun s => s.dieUp 7 = true ∧ (s.pulse 31).next = none ∧ (s.pulse 31).ends = none ∧ pulseEnabled (s.pulse 31).prog = true ∧ s.pulseMayRun (s.pulse 31).prog = true ∧ (s.pulse 31).k = 0 ∧
      edgeTime (s.pulse 31).prog (s.pulse 31).k ≤ s.instAt (pulseClock (s.pulse 31).prog) (s.localAt 0)) (pulsing { prog := prog1 })) ∧
    ((fun s => (s.pulse 31).next = none ∧ (s.pulse 31).ends = some 5 ∧ 5 ≤ s.instAt (pulseClock (s.pulse 31).prog) (s.localAt 5)) (pulsing { prog := prog1, ends := some 5 })) ∧
    ((fun s => s.dieUp 7 = true ∧ bit (s.n (captureKey O.captureControl 15)) (b2n true) = true) (objs [(captureKey O.captureControl 15, 2)])) ∧
    (on x1).Takes w0 x1 ∧ (((on x1).readCheck x1.rights (0x2138 + 7) (3 + 1)).2).isSome = true := by
  refine ⟨mayWriteDom_w0 _ _ _ _ _ _ _ (by decide) (by decide), by decide, by decide, by decide, by decide, by decide, by decide, by decide, takes_w0 _ _ (by decide), by decide⟩

/-- Zone 0 on die 0 takes input 0, which contract 0 feeds, and clip 0 holds one sample. -/
def cirque (a : AudioSt) (l : List (Nat × Int) := []) : State :=
  { (((objs (l ++ [(zoneKey O.zoneEnable 0, 1)])).setBlob (at_ O.outputRecords 0) (bytesOf 168 [])).setBlob (at_ O.inputRecords 0) (bytesOf 14 [])) with
    plan := { active := { contracts := [(0, bytesOf 64 [(4, 2), (0x11, 0x30)])], place := ⟨[], [(0, 0)]⟩ }, pending := [{ place := ⟨[], [(0, 1)]⟩, switchTick := 9 }] }, audio := a }
def aaf : Bytes := bytesOf 64 [(12, 0x22), (13, 0xF0), (14, 2), (0x1E, 4), (0x1F, 0x50), (0x20, 1), (0x23, 2)]
def clip0 (s : State) : State := (s.setBlob (at_ O.clipData 0) [0, 0]).setBlob (annKey O.announcementZones 15) (bytesOf 32 [(0, 1)])
theorem test_witness_Audio :
    ((fun s => s.instanceOn 0 = true ∧ 0 ∈ s.inputsOn 0 ∧ inFeed (s.inputRec 0) = 0 ∧ s.feedOk 0 = true ∧ (s.input 0 0).state ≠ 0 ∧ s.audioPacket (s.inputRec 0) (fill 60 0) = none ∧
      s.audioPacket (s.inputRec 0) aaf = some (0, 256, none, [0])) (cirque {})) ∧
    State.reset.n O.powerState ≠ 6 ∧ (on x1).Takes w0 x1 ∧ (((on x1).writeCheck x1.rights 0x2A00 2).2).isSome = true ∧
    ((fun s => s.plan.pending.head? = some { place := ⟨[], [(0, 1)]⟩, switchTick := 9 } ∧ 9 ≤ s.tickNo + 9 ∧ look s.plan.active.place.homes 0 ≠ some 1) (cirque {})) ∧
    (on x1).MayWrite w0 x1 (0x2A60 + 15) 6 1 ∧ (on x1).MayWrite w0 x1 (0x2A60 + 15) 6 2 ∧ (clip0 State.reset).annStatus 15 ≠ 1 ∧ (clip0 State.reset).clip ((clip0 State.reset).n (annKey O.announcementClip 15)) ≠ [] ∧
    State.reset.clip 0 = [] ∧ (objs [(annKey O.announcementStatus 15, 1)]).annStatus 15 = 1 ∧
    ((fun s => s.annStatus 15 = 1 ∧ s.n (annKey O.announcementStartTick 15) ≤ s.tickNo ∧ 15 ∉ s.audio.begun ∧ s.annZones 15 = []) (objs [(annKey O.announcementStatus 15, 1)])) ∧
    ((fun s => s.annStatus 15 = 1 ∧ s.n (annKey O.announcementStartTick 15) ≤ s.tickNo ∧ 15 ∉ s.audio.begun ∧ s.annZones 15 ≠ []) (clip0 (cirque {} [(annKey O.announcementStatus 15, 1)]))) ∧
    ((fun s => s.annStatus 15 = 1 ∧ 15 ∈ s.audio.begun ∧ s.n (annKey O.announcementRepeats 15) ≠ 255 ∧ s.annZones 15 ≠ [] ∧ (∀ z ∈ s.annZones 15, s.annEnd 15 z ≤ s.tickNo))
      (clip0 (cirque { begun := [15] } [(annKey O.announcementStatus 15, 1), (O.tickNumber, 100000)]))) ∧
    (on x1).MayWriteDom w0 x1 0x2A70 3 0 262144 [(0 : Byte), 0].length ∧ (on x1).clipInUse (x1.sel O.clipSelect) = false ∧ (on x1).clipsUsed - ((on x1).clip (x1.sel O.clipSelect)).length + 2 ≤ 262144 ∧
    (on x1).MayWrite w0 x1 0x2A70 5 1 ∧ (objs [(annKey O.announcementStatus 15, 1)]).clipInUse 0 = true := by
  refine ⟨by decide, by decide, takes_w0 _ _ (by decide), by decide, by decide, mayWrite_w0 _ _ _ _ _ (by decide) (by decide), mayWrite_w0 _ _ _ _ _ (by decide) (by decide), by decide, by decide, by decide, by decide, by decide,
    by decide, by decide, mayWriteDom_w0 _ _ _ _ _ _ _ (by decide) (by decide), by decide, by decide, mayWrite_w0 _ _ _ _ _ (by decide) (by decide), by decide⟩

theorem test_witness_SaddleTest :
    (∀ v ∈ [0, 1], (on x1).MayWrite w0 x1 0x2E17 (1 + 4 * 7 + 3) v) ∧ (objs [(portKey O.saddleLinkState 7 3, linkFAILED)]).saddle 7 3 = linkFAILED ∧
    (objs [(portKey O.saddleLinkState 7 3, linkUNTRAINED)]).saddle 7 3 = linkUNTRAINED ∧ ((fun s => s.saddle 7 3 ≠ linkFAILED ∧ s.saddle 7 3 ≠ linkUNTRAINED) (objs [(portKey O.saddleLinkState 7 3, linkSERVICE)])) ∧
    get 0 ({ State.reset with diag := { saddleTests := [(31, 1)] } } : State).diag.saddleTests (4 * 7 + 3) = 1 := by
  refine ⟨fun v hv => mayWrite_w0 _ _ _ _ _ (by decide) ?_, by decide, by decide, by decide, by decide⟩
  simp only [List.mem_cons, List.not_mem_nil, or_false] at hv
  rcases hv with rfl | rfl <;> decide

theorem test_witness_LaneTests :
    (∀ v ∈ [0, 1, 6], (on x1).MayWrite w0 x1 0x2E10 (1 + 63) v) ∧
    ((fun s => endpointIn s s.plan.active 63 = false ∧ s.plan.pending = [] ∧ s.lagOf 63 = none ∧ (∀ i < 4, s.slavePort i ≠ 63) ∧ s.laneOn 63 = true ∧ (s.lane 63).heldBySummit = false ∧ s.power_ = pwACTIVE ∧ (s.lane 63).testMode = 0) (on x1)) ∧
    ((withLane 63 { testMode := 1 }).lane 63).testMode ≠ 0 ∧
    (∀ k ∈ [tsRUNNING, tsNOLOCK], checksPrbs ((withLane 63 { testMode := 1 }).lane 63).testMode = true ∧ (withLane 63 { testMode := 1 } [(laneSub O.testStatus 63, (k : Int))]).testIs 63 k = true) ∧
    get 0 State.reset.diag.testSince 63 + 10000000 ≤ State.reset.localAt 10000000 ∧
    ((fun s => checksFrames (s.lane 63).testMode = true ∧ s.testIs 63 tsRUNNING = true ∧ s.n (laneSub O.testFrames 63) ≠ 0) (withLane 63 { testMode := 2 } [(laneSub O.testStatus 63, tsRUNNING), (laneSub O.testFrames 63, 1)])) ∧
    (on x1).MayWrite w0 x1 0x2E15 (1 + 63) 1 ∧ (objs [(laneKey O.linkStatus 63, 2)]).link 63 lkLOCK = true ∧ 63 ∈ ({ eyes := [63] } : DiagSt).eyes ∧ State.reset.dieUp 7 = true := by
  refine ⟨fun v hv => mayWrite_w0 _ _ _ _ _ (by decide) ?_, by decide, by decide, by decide, by decide, by decide, mayWrite_w0 _ _ _ _ _ (by decide) (by decide), by decide, by decide, by decide⟩
  simp only [List.mem_cons, List.not_mem_nil, or_false] at hv
  rcases hv with rfl | rfl | rfl <;> decide

/-- The edge unit of endpoint `e` is on, with edge state `g`. -/
def edge (e : Nat) (g : EdgeSt) (l : List (Nat × Int) := []) : State := { objs ((edgeEnableKey e, 1) :: l) with edge := g }
def can31 (x : CanSt) (l : List (Nat × Int) := []) : State := edge (epCan 31) { can := [(31, x)] } l
def tx1 : CanTx := ⟨1, 0, c0⟩
theorem test_witness_CanUnits :
    ((fun s => s.edgeOn (epCan 31) = true ∧ s.canOff 31 = false ∧ s.canKnows 31 c0.fmt = true ∧ s.power.forwardOn ≠ some (epCan 31) ∧ s.unitForwards (epCan 31) = false) (can31 {})) ∧
    ((fun s => ((List.range 64).find? fun i => (bufEntry (s.bufferCfg 31) i).1 == 2 && canMatch c0.id (bufEntry (s.bufferCfg 31) i).2.1 (bufEntry (s.bufferCfg 31) i).2.2) = some 1)
      ((can31 {}).setBlob (byIdx O.bufferConfiguration 31) (bytesOf 24 [(12, 2)]))) ∧
    ((fun s => s.edgeOn (epCan (2 * 15 + 0x4000 / 0x4000)) = true ∧ ((List.range 64).find? fun i => (bufEntry (s.bufferCfg (2 * 15 + 0x4000 / 0x4000)) i).1 == 1 && s.bufferOff (2 * 15 + 0x4000 / 0x4000) i == 0x4000) = some 1)
      ((can31 {}).setBlob (byIdx O.bufferConfiguration 31) (bytesOf 24 [(12, 1)]))) ∧
    ((fun s => s.canMaySend 31 = true ∧ s.canOffer 31 = some tx1 ∧ tx1.owner ≠ 2) (can31 { pending := [tx1] })) ∧
    ((fun s => s.edgeOn (epCan 31) = true ∧ s.canOff 31 = false ∧ bit (s.n (byIdx O.canOptions 31)) 0 = false ∧ bit (s.n (byIdx O.canOptions 31)) 3 = false) (can31 {})) ∧
    ((fun s => s.canOff 31 = false ∧ 256 ≤ (s.canSt 31).tec) (can31 { tec := 256 })) ∧ (on x1).MayWrite w0 x1 (0x2800 + 31) 0x11 1 ∧
    ((fun s => s.edgeOn (epCan 31) = true ∧ s.canOff 31 = true ∧ (s.canSt 31).recovering = true) (can31 { recovering := true } [(byIdx O.canStatus 31, 1)])) := by
  refine ⟨by decide, by decide, by decide, by decide, by decide, by decide, mayWrite_w0 _ _ _ _ _ (by decide) (by decide), by decide⟩

def lin15 (x : LinSt) (l : List (Nat × Int) := []) : State := edge (epLin 15) { lin := [(15, x)] } l
theorem test_witness_SerialUnits :
    ((fun s => s.edgeOn (epLin 15) = true ∧ s.n (byIdx O.linRole 15) = 0 ∧ s.flag (byIdx O.linStatus 15) 0 = false ∧ 0 < (s.blob (byIdx O.linSchedule 15)).length / 4 ∧ (s.linSt 15).due ≠ 0 ∧ (s.linSt 15).due ≤ s.tickNo ∧ s.linAnswer 15 7 = none)
      ((lin15 { due := 1 } [(byIdx O.linRole 15, 0), (O.tickNumber, 1)]).setBlob (byIdx O.linSchedule 15) [7, 0, 4, 0])) ∧
    (lin15 { slots := [(7, [1])] }).linAnswer 15 7 = some [1] ∧
    ((fun s => s.edgeOn (epLin 15) = true ∧ s.n (byIdx O.linRole 15) = 1 ∧ (s.linSt 15).header = some 59 ∧ s.power.forwardOn ≠ some (epLin 15) ∧ s.unitForwards (epLin 15) = false) (lin15 { header := some 59 })) ∧
    ((fun s => s.edgeOn (epUart 15) = true ∧ s.drivesDe 15 = false ∧ uartIdent (s.n (byIdx O.identifierBytes 15)) [5] = 5 ∧ s.n (byIdx O.identifierBytes 15) ≠ 0 ∧ s.power.forwardOn ≠ some (epUart 15) ∧ s.unitForwards (epUart 15) = false)
      (edge (epUart 15) {})) ∧
    ((fun s => s.n (byIdx O.identifierBytes 15) = 0 ∧ s.n (byIdx O.ownAddress 15) = 0x1FF ∧ uartIdent 0 [0x105] = 0x105) (edge (epUart 15) {} [(byIdx O.identifierBytes 15, 0)])) ∧
    ((fun s => s.edgeOn (epT1s 7) = true ∧ s.power.forwardOn ≠ some (epT1s 7) ∧ s.unitForwards (epT1s 7) = false) (edge (epT1s 7) {})) ∧
    ((lin15 { sending := some 59 }).linSt 15).sending = some 59 ∧
    ((fun s => s.edgeOn (epUart 15) = true ∧ (s.uartSt 15).slots = [(3, [1])]) (edge (epUart 15) { uart := [(15, { slots := [(3, [1])] })] })) ∧
    ((fun s => s.edgeOn (epT1s 7) = true ∧ (s.t1sSt 7).slots = [(3, [1])]) (edge (epT1s 7) { t1s := [(7, { slots := [(3, [1])] })] })) := by
  refine ⟨by decide, by decide, by decide, by decide, by decide, by decide, by decide, by decide, by decide⟩

def node (x : NodeSt) (l : List (Nat × Int) := []) : State := edge (epCan 0) { node := { x with running := true } } ([(O.canopenUnit, 0x80), (O.nmtState, 5)] ++ l)
theorem test_witness_CanopenNode :
    ((fun s => s.nmtFor 0 = true ∧ s.nmtFor 127 = true ∧ s.nodeController = some 0 ∧ s.nodeRuns = true ∧ s.sdosRun = true) (node {})) ∧
    (node {} [(O.producerHeartbeatTime, 1)]).n O.producerHeartbeatTime ≠ 0 ∧
    ((fun s => look s.edge.node.hbLast 7 = some 0 ∧ bits (s.n (bySub O.consumerHeartbeatTime 7)) 0 16 ≠ 0 ∧ bits (s.n (bySub O.consumerHeartbeatTime 7)) 0 16 * 1000000 ≤ s.localAt 1000000 - 0) (node { hbLast := [(7, 0)] } [(bySub O.consumerHeartbeatTime 7, 0x10001)])) ∧
    ((fun s => s.edge.node.sdoPhase ≠ 0 ∧ 1000000000 < s.localAt 1000000001 - s.edge.node.sdoLast ∧ s.edge.node.sdoPhase ≠ 3 ∧ bit 0x10 4 ≠ s.edge.node.toggle ∧ bit 0 4 = s.edge.node.toggle ∧ s.edge.node.sdoPhase = 1) (node { sdoPhase := 1 })) ∧
    (bits 0x80 5 3 = 4 ∧ bits 0x21 5 3 = 1 ∧ bit 0x21 1 = false ∧ bits 0x10 5 3 = 0 ∧ bits 0 5 3 = 0 ∧ bit 0 0 = false ∧ bits 0xE0 5 3 = 7) ∧ (node {} [(bySub O.zoneFlags 0, 3)]).sdoMayWrite (mux 0x2110 5) = .ok := by
  refine ⟨by decide, by decide, by decide, by decide, by decide, by decide⟩

theorem test_witness_CanopenPdos :
    ((fun s => s.pdosRun = true ∧ s.answers = true ∧ (pdoId (s.n (byIdx O.rpdoCOBID 63))).isSome = true ∧ ([] : Bytes).length < mapBytes (s.pdoMap (0x1600 + 63)) ∧ 240 < s.n (byIdx O.rpdoTransmissionType 63))
      (node {} [(byIdx O.rpdoCOBID 63, 0x200), (mux 0x163F 0, 1), (mux 0x163F 1, 0x20000108)])) ∧
    ((fun s => mapBytes (s.pdoMap (0x1600 + 63)) ≤ ([] : Bytes).length ∧ s.n (byIdx O.rpdoTransmissionType 63) ≤ 240) (node {} [(byIdx O.rpdoTransmissionType 63, 240)])) ∧
    ((fun s => look s.edge.node.rpdoLast 63 = some 0 ∧ s.n (byIdx O.rpdoEventTimer 63) ≠ 0 ∧ s.n (byIdx O.rpdoEventTimer 63) * 1000000 ≤ s.localAt 1000000 - 0) (node { rpdoLast := [(63, 0)] } [(byIdx O.rpdoEventTimer 63, 1)])) ∧
    ((fun s => s.nodeController = some 0 ∧ pdoId (s.n (byIdx O.tpdoCOBID 63)) = some (false, 0x1FF) ∧ 254 ≤ s.n (byIdx O.tpdoTransmissionType 63) ∧ s.n (byIdx O.tpdoEventTimer 63) ≠ 0 ∧ look s.edge.node.tpdoLast 63 = some 0 ∧
      s.n (byIdx O.tpdoEventTimer 63) * 1000000 ≤ s.localAt 1000000 - 0 ∧ (s.begin 1000000).inhibitOver 63 = true ∧ 63 ∈ s.edge.node.tpdoHeld)
      (node { tpdoLast := [(63, 0)], tpdoHeld := [63] } [(byIdx O.tpdoCOBID 63, 0x1FF), (byIdx O.tpdoEventTimer 63, 1)])) ∧
    (((node { tpdoLast := [(63, 0)] } [(byIdx O.tpdoInhibitTime 63, 11)]).begin 1000000).inhibitOver 63 = false) ∧
    ((fun s => s.edge.node.rpdoHeld = [] ∧ (∀ n, n < 64 → 240 < s.n (byIdx O.tpdoTransmissionType n))) (node {})) := by
  refine ⟨by decide, by decide, by decide, by decide, by decide, by decide⟩

/-- The MVB unit of die 7, with address 5 a source and address 6 a sink of F-code 0. -/
def mvb7 (l : List (Nat × Int) := []) : State := (edge (epMvb 7) {} l).setBlob (byIdx O.mvbPorts 7) (bytesOf 8 [(5, 0x40), (6, 0x80)])
def gw1 (r : List (Nat × Byte)) : State := (edge (epCan 0) {}).setBlob (at_ O.messageRecords 3) (bytesOf 48 r)
theorem test_witness_MvbAndTelegrams :
    ((fun s => s.edgeOn (epMvb 7) = true ∧ s.n (byIdx O.mvbRole 7) = 1 ∧ 4 ≤ (s.blob (byIdx O.masterFrameTable 7)).length) ((mvb7 [(byIdx O.mvbRole 7, 1)]).setBlob (byIdx O.masterFrameTable 7) [5, 0, 0, 0])) ∧
    ((fun s => s.edgeOn (epMvb 7) = true ∧ s.power.forwardOn ≠ some (epMvb 7) ∧ s.unitForwards (epMvb 7) = false ∧ s.mvbPort 7 5 = (1, 0) ∧ s.mvbPort 7 6 = (2, 0) ∧ [(0 : Byte), 0].length = 2 * 2 ^ 0) (mvb7)) ∧
    ((fun s b => s.edgeOn (epCan 0) = true ∧ s.messages.filter (fun m => gmKind (s.message m) != 3 && !gmOut (s.message m) && gmContract (s.message m) == 0) = [3] ∧ fldBE b (etOff b) 2 ≠ 0x88B5 ∧
      ¬ ((parseL3 b).v4 = true ∧ (parseL3 b).proto = 17 ∧ (parseL3 b).anyFrag = false)) (gw1 [(2, 2)]) (fill 60 0)) ∧
    ((fun s b => s.messages.filter (fun m => gmKind (s.message m) != 3 && !gmOut (s.message m) && gmContract (s.message m) == 0) = [3] ∧ fldBE b (etOff b) 2 = 0x88B5 ∧ fld b (etOff b + 2) 1 = 1 ∧ gmKind (s.message 3) = 2 ∧
      gmIdent (s.message 3) = fldBE (b.drop (etOff b + 2)) 2 2 ∧ 0x14 + fldBE (b.drop (etOff b + 2)) 0x10 2 ≤ (b.drop (etOff b + 2)).length) (gw1 [(2, 2)]) (bytesOf 60 [(12, 0x88), (13, 0xB5), (14, 1)])) := by
  refine ⟨by decide, by decide, by decide, by decide⟩

def txn1 : Txn := ⟨9, 0, 0, true, 7, 0xFFFC, 4, none, 0⟩
def bridge (b : BridgeSt) (l : List (Nat × Int) := []) : State := { objs l with bridge := b }
theorem test_witness_SaddleTransactions :
    ((fun s => s.trained 7 3 = true ∧ s.dieUp 7 = true ∧ s.saddle 7 3 = linkSERVICE ∧ s.bridge.stopped.contains (4 * 7 + 3) = false ∧ s.hasDie 8 = false ∧ s.hasDie 7 = true ∧ txn1.target = 7 ∧ 0xFFFD % 4 ≠ 0 ∧ txn1.addr % txn1.size = 0 ∧
      txn1.data = none ∧ s.n O.hostEndpointDie ≠ 7) (objs [(portKey O.saddleLinkState 7 3, linkSERVICE)])) ∧
    ((fun s => s.dieUp 6 = true ∧ s.saddle 6 1 = linkSERVICE ∧ s.hasDie 7 = true ∧ s.nextHop 6 7 = some 7 ∧ (get [] s.bridge.forwarding (4 * 6 + 1)).length < 3) (objs [(portKey O.saddleLinkState 6 1, linkSERVICE), (portKey O.saddleLinkState 6 0, linkSERVICE)])) ∧
    State.reset.bridge.txns.find? (fun x => x.id == 9 && x.die == 0) = none ∧
    (∀ m ∈ [0, 1], (fun s => s.bridge.txns.find? (fun x => x.id == 9 && x.die == 0) = some { txn1 with master := m, data := some 1 } ∧ s.bridge.queued = [] ∧ s.bridge.spiRead = none) (bridge { txns := [{ txn1 with master := m, data := some 1 }] })) ∧
    ((fun s => s.bridge.txns.find? (fun x => x.id == 9 && decide (x.since + 20000 ≤ s.localAt 20000)) = some txn1 ∧ s.dieUp txn1.die = true) (bridge { txns := [txn1] })) := by
  refine ⟨by decide, by decide, by decide, by decide, by decide⟩

def bridged (b : BridgeSt) (l : List (Nat × Int) := []) : State := { objs l with bridge := b }
def copy9 : LineCopy := ⟨1, 17, 1023, [], 0, true⟩
theorem test_witness_HostInterfaces :
    ((fun s => s.bridge.msix = true ∧ bit s.wantLines 3 = true ∧ bit s.bridge.intLines 3 = false)
      ((bridged { msix := true, intPending := [(0, 1)] }).setBlob (bySub O.interruptRouting 0) (bytesOf 64 [(0, 0x83)]))) ∧
    ((fun s => s.endpoint = some 0 ∧ s.hasDie 7 = true ∧ leNat (ramRead (s.mailboxOf 0) 0 4) < 16384 ∧ leNat (ramRead (s.mailboxOf 0) 0 4) % 4 = 0 ∧ bit 1 0 = true ∧ bit 2 0 = false) State.reset) ∧
    ((fun s => s.hasDie ((17 - 2) / 2) = true ∧ bit 4 2 = true ∧ bit 3 2 = false ∧ s.hasDie ((3 - 2) / 2) = true) State.reset) ∧ (({ State.reset with variant := 2 } : State)).hasDie ((6 - 2) / 2) = false ∧
    ((fun s => s.bridge.lines.filter (fun c => c.master == 1 && c.window == 17 && c.line == 1023 && decide (c.since + 1000 ≤ s.localAt 1000)) = [copy9]) (bridged { lines := [copy9] })) ∧
    (writePieces 2 [0, 0, 0, 0] = none ∧ windowOf 0x100000 = some 2 ∧ (2 - 2) / 2 = 0 ∧ windowOf 0x11FFFF = some 3) ∧
    ((fun s => s.spiHeld 0x100000 = true ∧ s.spiHeld 0 = false) (bridged { txns := [⟨9, 0, 2, true, 1, 0x100000, 4, some 1, 0⟩] })) ∧
    ((fun s => s.swapOf 0 = 0 ∧ s.spiHeld 0xFFFC = false ∧ bit (get 0 s.bridge.windows 0) 2 = false) State.reset) ∧
    ((fun s => s.n O.hostEndpointDie = 0xFF ∧ s.dieUp 1 = true) (objs [(O.hostEndpointDie, 0xFF)])) := by
  refine ⟨by decide, by decide, by decide, by decide, by decide, by decide, by decide, by decide, by decide⟩

/-- Slot 1023 an imported leaf of the MACsec use in life-cycle state 2, its value held by die 7. -/
def leaf1023 : Bytes := bytesOf 48 [(0, 0xFF), (1, 3), (2, 2), (3, 1), (4, 0xFE), (5, 0xFF), (6, 1), (8, 1), (9, 0x50), (11, 4)]
def keyed (c : CairnSt) (l : List (Nat × Int) := []) : State := { (objs ([(O.lifeCycleState, 2)] ++ l)).setBlob (at_ O.cairnSlotRecords 1023) leaf1023 with cairn := c }
def oneLeaf : CairnSt := { roots := 0xFF, leaves := [(1023, fill 16 1)] }
def slotWriter : Session := { x1 with selectors := [(O.cairnSlotCount, 1), (O.cairnFirstSlot, 1023)] }
set_option maxRecDepth 4000 in
theorem test_witness_CairnKeys :
    ((fun s => s.dieUp 7 = true ∧ s.keysLocked = false ∧ s.anchorUp = true ∧ bit (s.n O.transportMismatches) 7 = false ∧ s.rootOk 7 = true ∧ s.slotValue 9 1023 = some (fill 16 1) ∧
      bit (ksAttr (s.slotRec 1023)) (24 + s.n O.lifeCycleState) = true ∧ s.cairn.requests.contains (7, 1023) = false ∧ s.holds 7 1023 = false) (keyed oneLeaf)) ∧
    (keyed { oneLeaf with cache := [(1023, 0x80)] }).holds 7 1023 = true ∧
    (keyed { oneLeaf with requests := [(7, 1023)] }).cairn.requests.contains (7, 1023) = true ∧
    ((on slotWriter (keyed oneLeaf)).Takes w0 slotWriter ∧ (((on slotWriter (keyed oneLeaf)).writeCheck slotWriter.rights 0x2B10 3).2).isSome = true ∧ slotWriter.sel O.cairnSlotCount = 1 ∧
      slotWriter.sel O.cairnFirstSlot = 1023 ∧ leaf1023.length = 48 ∧ (on slotWriter (keyed oneLeaf)).slotRecOk 1023 leaf1023 1023 = true ∧ (on slotWriter (keyed oneLeaf)).anchorUp = true ∧ ksKind leaf1023 ≠ 0) ∧
    ((on slotWriter (keyed oneLeaf)).slotRecOk 1023 (bytesOf 48 [(0, 0xFF), (1, 3)]) 1023 = true ∧ ksKind (bytesOf 48 [(0, 0xFF), (1, 3)]) = 0 ∧ (on slotWriter (keyed oneLeaf)).isParent 1023 = false) ∧
    ((fun s => s.anchorUp = false ∧ s.slotRecOk 1023 leaf1023 1023 = true) (on slotWriter (keyed {}))) ∧
    ((on x1 (keyed oneLeaf)).MayWriteDom w0 x1 0x2B11 1 128 160 (bytesOf 128 []).length ∧ (on x1 (keyed oneLeaf)).anchorUp = true ∧ (on x1 (keyed oneLeaf)).keysLocked = false ∧ (on x1 (keyed {})).anchorUp = false) ∧
    (on x1).MayWriteDom w0 x1 0x2B28 1 8 64 (bytesOf 64 []).length ∧
    ((fun x => (on x).session? 0 = some x ∧ x.nonce = some (fill 8 1)) { x1 with nonce := some (fill 8 1) }) := by
  refine ⟨by decide, by decide, by decide, ⟨takes_w0 _ _ (by decide), by decide⟩, by decide, by decide, ⟨mayWriteDom_w0 _ _ _ _ _ _ _ (by decide) (by decide), by decide⟩,
    mayWriteDom_w0 _ _ _ _ _ _ _ (by decide) (by decide), by decide⟩

def sys2 (l : List (Nat × Int) := []) : State := keyed oneLeaf l
theorem test_witness_LifeCycleAndTamper :
    ((on x1).MayWrite w0 x1 0x2B18 1 4 ∧ lifeCycleRole ((on x1).n O.lifeCycleState) 4 = none) ∧
    ((on x1 (objs [(O.lifeCycleState, 4)])).MayWrite w0 x1 0x2B18 1 5 ∧ lifeCycleRole 4 5 = some Role.vendor ∧ Role.vendor.le x1.role = false) ∧
    ((on x1 (sys2)).MayWrite w0 x1 0x2B18 1 3 ∧ (fun s => lifeCycleRole (s.n O.lifeCycleState) 3 = some Role.integrator ∧ Role.integrator.le x1.role = true ∧ s.n O.tamperState = 0 ∧ s.dieUp 0 = true ∧ s.pkg.anchorLost = false ∧
      s.n O.lifeCycleCommandStatus ≠ 1 ∧ s.commitStatus ≠ csRUNNING ∧ s.commitStatus ≠ csSWITCHPENDING ∧ s.n O.migrationStatus ≠ msRUNNING ∧ s.n O.migrationStatus ≠ msSWITCHPENDING) (on x1 (sys2))) ∧
    ((on x1 (sys2 [(O.tamperState, 2)])).MayWrite w0 x1 0x2B18 1 3 ∧ (on x1 (sys2 [(O.tamperState, 2)])).n O.tamperState ≠ 0) ∧
    ((keyed { marker := some 3 }).cairn.marker = some 3 ∧ (keyed { marker := some 3 }).cairn.refuseState = false ∧ (keyed { marker := some 3, refuseState := true }).cairn.refuseState = true) ∧
    (∀ p ∈ [0, 1, 2], (fun s => s.hasDie 7 = true ∧ bit (s.n O.tamperSensorEnable) 6 = true ∧ s.power_ ≠ pwOFF ∧ s.power_ ≠ pwSLEEP ∧ s.update.ready = true ∧ s.pkg.tamperHold = false ∧ s.n O.tamperPolicy = p ∧ s.n O.tamperState = 0 ∧
      s.n O.tamperDestroysRoot = 1) { objs [(O.tamperSensorEnable, 0x7F), (O.tamperPolicy, (p : Int)), (O.tamperDestroysRoot, 1)] with update := { ready := true } }) ∧
    ((fun s => s.power_ ≠ pwOFF ∧ s.flag O.sensorsActive 2 = true ∧ s.flag O.sensorsActive 3 = true) (objs [(O.sensorsActive, 12)])) ∧
    ((on x1 (sys2)).MayWriteDom w0 x1 0x2B20 4 8 64 (bytesOf 64 []).length ∧ (on x1 (sys2)).n O.tamperState = 0) ∧
    (∀ p ∈ [1, 2], (fun s => s.n O.tamperState = p ∧ s.n O.sensorsActive = 0 ∧ s.canAttest = true ∧ s.answers = true) (on x1 (sys2 [(O.tamperState, (p : Int))]))) ∧
    ((fun x => (on x).MayWrite w0 x 0x2B00 0x0A 0x5A) { x1 with role := .vendor }) := by
  refine ⟨⟨mayWrite_w0 _ _ _ _ _ (by decide) (by decide), by decide⟩, ⟨mayWrite_w0 _ _ _ _ _ (by decide) (by decide), by decide⟩, ⟨mayWrite_w0 _ _ _ _ _ (by decide) (by decide), by decide⟩,
    ⟨mayWrite_w0 _ _ _ _ _ (by decide) (by decide), by decide⟩, by decide, by decide, by decide, ⟨mayWriteDom_w0 _ _ _ _ _ _ _ (by decide) (by decide), by decide⟩, by decide, mayWrite_w0 _ _ _ _ _ (by decide) (by decide)⟩

/-- Channel 511 on lane 63, enabled, of server priority 255 under the CAK of slot 1023. -/
def chan511 (m : MkaSt) : State :=
  { (keyed { oneLeaf with cache := [(1023, 0x80)] }).setBlob (at_ O.channelRecords 511) (bytesOf 64 [(2, 1), (3, 63), (7, 255), (8, 0xFF), (9, 3)]) with cipher := { mka := [(511, m)] } }
def peer5 (hears : Bool) : Peer := ⟨5, 7, 3, 0, hears, 0⟩
def pdu (mn : Nat) (d : Option (Nat × Nat × Nat × Bytes)) (ok : Bool := true) : Mkpdu := ⟨5, mn, 3, 0, ok, true, d, none, false⟩
/-- A class of die 7: its flags and owner. -/
def class255 (fl ow : Byte) (c : CipherSt) (l : List (Nat × Int) := []) : State :=
  { (objs ([(bySub O.lookAsideEnable 7, 1)] ++ l)).setBlob (at_ O.jobClassRecords 255) (bytesOf 64 [(2, fl), (4, ow), (0x10, 1)]) with
    cipher := c, plan := { active := { place := ⟨[], [(2 * 65536 + 255, 7)]⟩ } } }
def job1 (run : Nat) : Job := ⟨255, 0, bytesOf 96 [], [], none, 7, 0, 0, run, [], 0, [], false, .integrator⟩
def jobber : Session := { x1 with selectors := [(O.spewardJobClass, 255)] }
set_option maxRecDepth 4000 in
theorem test_witness_CipherEngines :
    ((fun s => s.channelOfLane 63 = some 511 ∧ s.cakReady 511 = true ∧ (s.mkaSt 511).mi ≠ 0 ∧ fld (s.channelRec 511) 7 1 = 255 ∧ (s.mkaSt 511).peers.find? (fun x => x.mi == 5) = some (peer5 true) ∧ (pdu 7 none).mn ≤ (peer5 true).mn ∧
      (peer5 true).mn < (pdu 8 none).mn ∧ s.cipher.sas = [] ∧ s.cipher.journal = [] ∧ 6000000000 ≤ s.localAt 6000000000 ∧ s.localAt 5999999999 < 6000000000) (chan511 { mi := 9, peers := [peer5 true] })) ∧
    ((pdu 8 none false).icvOk = false ∧ (pdu 8 none).dist = none ∧ (pdu 8 none).sakUse = none ∧ (pdu 8 (some (3, 1, 1, []))).dist = some (3, 1, 1, []) ∧ (pdu 8 none).hears = true ∧ (pdu 8 none).prio ≠ 255 ∧ (peer5 false).hears = false ∧
      ([peer5 true].filter (fun x => x.mi != 5)).all (fun x => !x.hears) = true) ∧
    ((fun s => s.classHome 255 = some 7 ∧ clEnabled (s.classRec 255) = true ∧ clOwner (s.classRec 255) ≠ 3 ∧ s.n (bySub O.lookAsideEnable 7) = 1 ∧ (bytesOf 96 [(0, 0x80)]).length = 96 ∧ bit (fld (bytesOf 96 [(0, 0x80)]) 0 1) 7 = true ∧
      bit (fld (bytesOf 96 []) 0 1) 7 = false) (class255 1 0 {})) ∧
    ((fun s => s.cipher.jobs = [job1 1] ∧ (job1 1).sess = none ∧ (job1 1).die < 8 ∧ (job1 1).mode ≤ 2 ∧ State.reset.cipher.jobs = []) (class255 1 0 { jobs := [job1 1] })) ∧
    ((on x1 (class255 1 0 { jobs := [job1 0] } [(O.abortClass, 255)])).MayWrite w0 x1 0x2B44 3 1 ∧ (fun s => clSecure (s.classRec (s.n O.abortClass)) = false ∧
      s.cipher.jobs.find? (fun j => j.cls == s.n O.abortClass && j.sess.isNone && j.index == s.n O.abortDescriptor && j.run != 3) = some (job1 0)) (on x1 (class255 1 0 { jobs := [job1 0] } [(O.abortClass, 255)]))) ∧
    ((fun x s => s.MayWrite w0 x 0x2B44 3 1 ∧ clSecure (s.classRec (s.n O.abortClass)) = true ∧ x.secure = false) { x1 with secure := false } (on { x1 with secure := false } (class255 3 0 {} [(O.abortClass, 255)]))) ∧
    ((fun s => s.MayWriteDom w0 jobber 0x2B50 2 96 4192 96 ∧ s.classHome (jobber.sel O.spewardJobClass) = some 7 ∧ jobber.job = none ∧ clEnabled (s.classRec 255) = true ∧ clOwner (s.classRec 255) = 3 ∧ s.n (bySub O.lookAsideEnable 7) = 1)
      (on jobber (class255 1 3 {}))) ∧
    ((fun s => s.MayWriteDom w0 jobber 0x2B50 2 96 4192 4192 ∧ clOwner (s.classRec (jobber.sel O.spewardJobClass)) ≠ 3) (on jobber (class255 1 0 {}))) ∧ (on x1).classHome (x1.sel O.spewardJobClass) = none := by
  refine ⟨by decide, by decide, by decide, by decide, ⟨mayWrite_w0 _ _ _ _ _ (by decide) (by decide), by decide⟩, ⟨mayWrite_w0 _ _ _ _ _ (by decide) (by decide), by decide⟩,
    ⟨mayWriteDom_w0 _ _ _ _ _ _ _ (by decide) (by decide), by decide⟩, ⟨mayWriteDom_w0 _ _ _ _ _ _ _ (by decide) (by decide), by decide⟩, by decide⟩

def marching (m : MarchRun) (l : List (Nat × Int) := []) : State := { objs l with mem := { march := some m } }
def march7 (left : List (Nat × Nat)) : MarchRun := ⟨7, 2047, true, left, false, 0, false⟩
theorem test_witness_Memories :
    ((fun s => s.dieUp 7 = true ∧ s.dieUp 0 = true ∧ (look (s.fdbOf 0) 8192).any (fun e => !e.static) = true ∧ (look (s.fdbOf 1) 8192).any (fun e => !e.static) = false) (fdb1 ⟨1, false, none, 0, 7, 0⟩)) ∧
    ((fun s => s.MayWrite w0 x1 0x2E58 4 1 ∧ s.n O.marchStatus ≠ 1 ∧ s.mem.march = none ∧ s.dieUp (s.n O.marchDie) = true ∧ s.n O.marchMode ≠ 1 ∧ bit s.pkg.quarantine (s.n O.marchDie) = true) (on x1 (objs [(O.marchDie, 7), (O.marchMode, 0)]))) ∧
    ((fun s => s.MayWrite w0 x1 0x2E58 4 1 ∧ s.n O.marchStatus = 1) (on x1 (objs [(O.marchStatus, 1)]))) ∧
    ((fun s => s.MayWrite w0 x1 0x2E58 4 2 ∧ s.mem.march = none) (on x1)) ∧
    ((fun s => s.MayWrite w0 x1 0x2E58 4 2 ∧ s.mem.march = some (march7 []) ∧ s.n O.marchStatus = 1 ∧ (march7 []).preserving = true ∧ (march7 []).left = [] ∧ (march7 []).failed = 0 ∧ (march7 [(10, 5)]).left ≠ [])
      (on x1 (marching (march7 []) [(O.marchStatus, 1)]))) ∧
    ((fun s => s.mem.march = some (march7 [(10, 5)]) ∧ (march7 [(10, 5)]).die < 8 ∧ s.dieUp 7 = true ∧ (∀ c ∈ [0, 1, 2, 3, 4, 5, 6, 7, 8, 9, 10], (bankRegion c).all (fun r => s.regionUp (2 * 7 + r)) = true) ∧ (march7 [(10, 5)]).preserving = true ∧
      (march7 [(10, 5)]).aborted = false ∧ 8 < get 0 s.mem.spares (spareKey 7 10 5) + 9) (marching (march7 [(10, 5)]))) ∧
    ((march7 []).left = [] ∧ (march7 []).failed = 0 ∧ ({ march7 [] with failed := 1024 } : MarchRun).failed ≠ 0) := by
  refine ⟨by decide, ⟨mayWrite_w0 _ _ _ _ _ (by decide) (by decide), by decide⟩, ⟨mayWrite_w0 _ _ _ _ _ (by decide) (by decide), by decide⟩, ⟨mayWrite_w0 _ _ _ _ _ (by decide) (by decide), by decide⟩,
    ⟨mayWrite_w0 _ _ _ _ _ (by decide) (by decide), by decide⟩, by decide, by decide⟩

def powered (p : PowerSt) (l : List (Nat × Int) := []) : State := { objs l with power := p }
theorem test_witness_StandbyAndDetach :
    ((fun s => s.MayWrite w0 x1 0x2C00 2 1 ∧ s.MayWrite w0 x1 0x2C00 0x0F 1 ∧ s.n O.powerState = pwACTIVE ∧ s.commitStatus ≠ csRUNNING ∧ s.commitStatus ≠ csSWITCHPENDING ∧ s.n O.lifeCycleCommandStatus ≠ 1 ∧ s.update.holder = none ∧
      s.MayWrite w0 x1 0x2C00 2 2 ∧ s.n O.powerState ≠ pwSTANDBY) (on x1)) ∧
    ((fun s => s.MayWrite w0 x1 0x2C00 2 2 ∧ s.n O.powerState = pwSTANDBY ∧ s.variant ≤ 8 ∧ (∀ e, e ∈ s.plan.active.lanes → e.1 < 64)) (on x1 (objs [(O.powerState, (pwSTANDBY : Nat))]))) ∧
    ((fun s => s.MayWrite w0 x1 0x2C00 2 1 ∧ s.MayWrite w0 x1 0x2C00 0x0F 1 ∧ s.commitStatus = csRUNNING) (on x1 (objs [(O.commitStatus, (csRUNNING : Nat))]))) ∧
    ((fun s => s.n O.detachStatus = 1 ∧ (∀ n, n < s.laneCount → (s.lane n).queues = [] ∧ (s.lane n).sending = none)) (objs [(O.detachStatus, 1)])) ∧
    ((fun s => s.n O.detachStatus = 1 ∧ (s.lane 0).queues ≠ [] ∧ s.power.drainSince + 10000000 ≤ s.localAt 10000000 ∧ s.localAt 9999999 < s.power.drainSince + 10000000) (withLane 0 { queues := [qf 3] } [(O.detachStatus, 1)])) ∧
    ((fun s => s.power.poRun < 64 ∧ s.n O.powerState = pwACTIVE) (powered { poRun := 63 })) ∧
    (∀ v ∈ [(2, true), (3, false)], (fun s => 64 ≤ s.power.poRun ∧ s.hottestDie = some 7 ∧ decide (s.n (bySub O.dieDerateLevel 7) < 3) = v.2) (powered { poRun := 64 } [(bySub O.diePower 7, 1), (bySub O.dieDerateLevel 7, v.1)])) ∧
    ((fun s => 15 ∈ s.rails ∧ rlAddr (s.railRec 15) ≠ 0 ∧ look [(15, 1)] 15 = some 1 ∧ 0 ∉ s.rails) ((objs []).setBlob (at_ O.railRecords 15) (bytesOf 32 [(4, 0x40)]))) := by
  refine ⟨⟨mayWrite_w0 _ _ _ _ _ (by decide) (by decide), mayWrite_w0 _ _ _ _ _ (by decide) (by decide), by decide, by decide, by decide, by decide, by decide, mayWrite_w0 _ _ _ _ _ (by decide) (by decide), by decide⟩,
    ⟨mayWrite_w0 _ _ _ _ _ (by decide) (by decide), by decide⟩, ⟨mayWrite_w0 _ _ _ _ _ (by decide) (by decide), mayWrite_w0 _ _ _ _ _ (by decide) (by decide), by decide⟩, by decide, by decide, by decide, by decide, by decide⟩

/-- Device 0 of a ring with device 1, lane 0 in service. -/
def ring2 (p : PowerSt) (l : List (Nat × Int) := []) : State := ({ objs (up1 ++ l) with power := p } : State).setBlob O.membersPower [2]
def ringBytes (ty own tgt ini : Byte) (vet : Byte := 0) : Bytes := bytesOf 168 [(0, 1), (1, ty), (3, own), (5, tgt), (7, ini), (15, 9), (23, 30), (0x25, vet)]
def ringOf (b : Bytes) : RingMsg := (ringParse b).getD ((State.reset).ringMsg 0)
def round9 (ini : Nat) : RoundSt := { initiator := ini, start := 9, since := 0 }
def tok1 : TokenOut := ⟨ringBytes 2 0 1 0, 1, 0⟩
set_option maxRecDepth 10000 in
theorem test_witness_SleepRing :
    (∀ ty ∈ [(5 : Byte), 6, 2, 3, 4], (fun f => ringParse f = some (ringOf f) ∧ (ringOf f).ty = ty.toNat ∧ (ringOf f).origin < 2048 ∧ (ringOf f).origin ≠ (ring2 {}).ownAddr ∧ (ring2 {}).quiet = false ∧ (ring2 {}).inService 0 = true ∧
      ((ring2 {}).begin 0).relayedBefore (ringOf f) = false) (ringBytes ty 1 0 1)) ∧
    ((fun s f => ringParse f = some (ringOf f) ∧ (ringOf f).origin = s.ownAddr ∧ s.pkg.addressConflict = false ∧ (ringOf f).ty = rtJOIN) (ring2 {}) (ringBytes 5 0 0 0)) ∧
    ((fun s => s.MayWrite w0 x1 0x2C00 9 1 ∧ s.vetoReasons = 0 ∧ (s.begin 0).openRound = none ∧ s.n O.powerState = pwACTIVE ∧ s.pkg.addressConflict = false ∧ s.successor s.ownAddr ≠ s.ownAddr) (on x1 (ring2 {}))) ∧
    ((fun s => s.MayWrite w0 x1 0x2C00 9 1 ∧ s.vetoReasons ≠ 0 ∧ s.vetoReasons < 128) (on x1 (ring2 {} [(O.sleepVeto, 1)]))) ∧
    ((fun s f => s.power.token = none ∧ (ringOf f).target = s.ownAddr ∧ (ringOf f).initiator ≠ s.ownAddr ∧ s.power.round = none ∧ ((s.begin 0).setMember 1 true).successor s.ownAddr ≠ s.ownAddr ∧ (ringOf f).vetoes < 32 ∧
      (ringOf (ringBytes 2 1 3 1)).target ≠ s.ownAddr) (ring2 {}) (ringBytes 2 1 0 1 31)) ∧
    (∀ v ∈ [(0 : Byte), 1], (fun s f => s.power.token = none ∧ (ringOf f).target = s.ownAddr ∧ (ringOf f).initiator = s.ownAddr ∧ s.power.round = some (round9 0) ∧ (round9 0).start = (ringOf f).roundTick ∧
      s.n O.sleepRoundStatus = srCIRCULATING ∧ (ringOf f).vetoes = v.toNat ∧ (ringOf f).origin ≠ s.ownAddr) (ring2 { round := some (round9 0) } [(O.sleepRoundStatus, 1)]) (ringBytes 2 1 0 0 v)) ∧
    ((fun s => s.power.token = some tok1 ∧ ringParse tok1.frame = some (ringOf tok1.frame) ∧ tok1.sent + 2000000 ≤ s.localAt 2000000 ∧ s.localAt 1999999 < tok1.sent + 2000000 ∧ ((s.begin 0).setMember 1 false).successor 1 ≠ s.ownAddr)
      ((ring2 { token := some tok1 }).setBlob O.membersPower [6])) ∧
    ((fun s => s.power.round = some (round9 0) ∧ (round9 0).initiator = s.ownAddr ∧ s.n O.sleepRoundStatus = srCIRCULATING ∧ (round9 0).since + 500000000 ≤ s.localAt 500000000 ∧ s.localAt 499999999 < (round9 0).since + 500000000)
      (ring2 { round := some (round9 0) } [(O.sleepRoundStatus, 1)])) ∧
    (∀ r ∈ [none, some (round9 1)], ∀ q, (ring2 { round := r }).power.round = some q → q.cancelled = false ∧ q.commit = none) ∧
    ((fun s => s.power.round = some { round9 0 with commit := some 16 } ∧ s.power.commits ≠ 0 ∧ (round9 0).initiator = s.ownAddr) (ring2 { round := some { round9 0 with commit := some 16 }, commits := 2 })) ∧
    ((fun s f => s.power.round = some (round9 1) ∧ (round9 1).initiator = (ringOf f).initiator ∧ (round9 1).start = (ringOf f).roundTick ∧ s.tickNo < (ringOf f).commitTick) (ring2 { round := some (round9 1) } [(O.tickNumber, 29)]) (ringBytes 4 1 0 1)) ∧
    ((ringOf (ringBytes 4 1 0 1)).commitTick ≤ (ring2 {} [(O.tickNumber, 30)]).tickNo) := by
  refine ⟨by decide, by decide, ⟨mayWrite_w0 _ _ _ _ _ (by decide) (by decide), by decide⟩, ⟨mayWrite_w0 _ _ _ _ _ (by decide) (by decide), by decide⟩, by decide, by decide, by decide, by decide, ?_, by decide, by decide, by decide⟩
  intro r hr q hq
  simp only [List.mem_cons, List.not_mem_nil, or_false] at hr
  rcases hr with rfl | rfl
  · have h : (ring2 {}).power.round = none := rfl
    rw [h] at hq; cases hq
  · have h : (ring2 { round := some (round9 1) }).power.round = some (round9 1) := rfl
    rw [h] at hq; cases hq; decide

theorem test_witness_SleepAndWake :
    ((fun s => s.inService 0 = true ∧ s.n O.powerState = pwACTIVE ∧ s.power.wakes ≠ 0) (ring2 { wakes := 1 })) ∧
    (∀ c ∈ [true, false], (fun s => s.power.round = some { round9 0 with commit := some 16, cancelled := c } ∧ 16 ≤ s.tickNo ∧ s.n O.powerState = pwACTIVE ∧ s.variant ≤ 8 ∧ (round9 0).initiator = s.ownAddr)
      (ring2 { round := some { round9 0 with commit := some 16, cancelled := c } } [(O.tickNumber, 16)])) ∧
    ((fun s => s.n O.powerState = pwACTIVE ∧ s.wakeEnabled 1 15 = true ∧ bit (s.wakeBall 15) 2 = true ∧ s.wakeEnabled 2 15 = false) (objs [(bySub O.wakeInput 15, 5)])) ∧
    (∀ p ∈ [pwSLEEP, pwSTANDBY], (fun s => s.n O.powerState = p ∧ s.wakeEnabled 1 15 = true ∧ s.wakeEnabled 7 0 = true ∧ s.wakeEnabled 1 14 = false ∧ s.cairn.sleepTamper = false ∧ s.variant ≤ 8 ∧ (∀ e, e ∈ s.plan.active.lanes → e.1 < 64))
      (objs [(bySub O.wakeInput 15, 5), (O.powerState, (p : Nat))])) ∧
    ((fun s => s.n O.powerState = pwSLEEP ∧ s.wakeEnabled 8 0 = true ∧ s.cairn.sleepTamper = true ∧ s.n O.tamperPolicy = tpREPORT) ({ objs [(O.powerState, (pwSLEEP : Nat)), (O.tamperPolicy, (tpREPORT : Nat))] with cairn := { sleepTamper := true } })) ∧
    ((fun s => s.MayWrite w0 x1 0x2C00 8 1 ∧ s.n O.powerState = pwACTIVE ∧ s.power.round = some { round9 0 with commit := some 16 } ∧ s.tickNo < 16) (on x1 (ring2 { round := some { round9 0 with commit := some 16 } }))) ∧
    ((fun s => s.MayWrite w0 x1 0x2C00 8 1 ∧ s.n O.powerState = pwSTANDBY ∧ (∀ e, e ∈ s.plan.active.lanes → e.1 < 64)) (on x1 (objs [(O.powerState, (pwSTANDBY : Nat))]))) ∧
    ((fun s => s.power.wakeAt = some 0 ∧ 0 + s.n O.noTrafficTimeout * 1000000 ≤ s.localAt 10000000 ∧ s.n O.powerState = pwACTIVE ∧ s.variant ≤ 8 ∧ s.localAt 0 < 0 + s.n O.noTrafficTimeout * 1000000) (powered { wakeAt := some 0 } [(O.noTrafficTimeout, 10)])) := by
  refine ⟨by decide, by decide, by decide, by decide, by decide, ⟨mayWrite_w0 _ _ _ _ _ (by decide) (by decide), by decide⟩, ⟨mayWrite_w0 _ _ _ _ _ (by decide) (by decide), by decide⟩, by decide⟩

/-- An image of one byte, and states in which die 0 holds it. -/
def image1 (c : Byte := 0) : Bytes := bytesOf 257 [(0, 0x41), (1, 0x58), (2, 0x46), (3, 0x57), (4, 1), (0x0C, c), (0x10, 1), (0x14, 0x3F)]
def imaged (u : UpdateSt) (c : CairnSt := {}) (l : List (Nat × Int) := []) : State := { objs l with update := { u with images := [(0, image1), (2, image1 5)] }, cairn := c }
/-- The state of a cold start once its dies are up. -/
def started (s : State) (f : StartFacts := f0) : State := (s.begin 0).coldFirst f
def pastTamper (u : State) : State := { u with cairn := { u.cairn with early := false, sleepTamper := false } }
theorem test_witness_Starts :
    (∀ d ∈ [(true, 0), (false, 0), (false, 1)], (fun s => s.update.ready = d.1 ∧ (s.bootRec s.pkg.lead).onTrial = (d.2 == 1) ∧ 7 ∈ s.upDies) (imaged { ready := d.1, boot := if d.2 = 1 then [(0, { trial := 1 })] else [] })) ∧
    (f0.recoveryN = false ∧ f0.testN = false ∧ ({ f0 with testN := true }).testN = true ∧ (started (imaged {} {} [(O.lifeCycleState, 1)]) { f0 with testN := true }).n O.lifeCycleState ≠ 0) ∧
    ((started State.reset).upDies = []) ∧
    ((fun u => u.upDies ≠ [] ∧ 3 ≤ (u.bootRec u.pkg.lead).failedStarts) (started (imaged { boot := [(0, { failedStarts := 3 })] }))) ∧
    ((fun u => u.upDies ≠ [] ∧ (u.bootRec u.pkg.lead).failedStarts < 3 ∧ bit (u.bootRec u.pkg.lead).flags 0 = false ∧ u.cairn.marker = none ∧ u.cairn.early = true ∧ u.n O.tamperPolicy ≠ tpREPORT) (started (imaged {} { early := true }))) ∧
    ((fun u => u.upDies ≠ [] ∧ (u.bootRec u.pkg.lead).failedStarts < 3 ∧ bit (u.bootRec u.pkg.lead).flags 0 = false ∧ u.cairn.marker = none ∧ u.n O.tamperState = 0 ∧ u.cairn.early = false ∧
      ((pastTamper u).chooseImage f0).isSome = true ∧ f0.fwReady = true) (started (imaged {}))) ∧
    ((fun u => u.upDies ≠ [] ∧ (u.bootRec u.pkg.lead).failedStarts < 3 ∧ u.cairn.marker = none ∧ u.n O.tamperState = 0 ∧ u.cairn.early = false ∧ ((pastTamper u).chooseImage f0).isNone = true) (started (imaged { boot := [(1, { counter := 5 })] }))) := by
  refine ⟨by decide, by decide +kernel, by decide +kernel, by decide +kernel, by decide +kernel, by decide +kernel, by decide +kernel⟩

/-- Anchor 8 enabled, in the secure world, granting up to Integrator; association 7 under it. -/
def anchor8 : Bytes := bytesOf 52 [(0, 3), (1, 3)]
def joined (k : Trust) (ss : SMap Session := []) : State := { (objs []).setBlob (bySub O.trustAnchor 7) anchor8 with access := { sessions := ss, assocs := [⟨0, .svcEthernet, k⟩] } }
def fwd9 : Forwarded := ⟨0, 5, [], 1, 0⟩
theorem test_witness_Sessions :
    ((fun s => s.reachable .svcUart = true ∧ Slip.lost (some ⟨1472, false⟩) = false ∧ Slip.lost (some ⟨1473, false⟩) = true ∧ s.trusted (.anchor 8) = true ∧ s.trusted (.anchor 9) = false ∧ s.trusted .vendorKey = true ∧
      s.instFlag 0 isUNTRACEABLE = true) (joined .vendorKey)) ∧ (objs [(byIdx O.instanceStatus 0, 0)]).instFlag 0 isUNTRACEABLE = false ∧
    ((fun s => s.access.assocs.find? (fun a => a.id == w0.assoc) = some ⟨0, .svcEthernet, .anchor 8⟩ ∧ s.reachable .svcEthernet = true ∧ Slip.lost w0.slip = false ∧ Role.ofCode 5 = none ∧ Role.ofCode 3 = some .integrator ∧
      (s.trusted (.anchor 8) && (s.begin 0).roleGranted ⟨0, .svcEthernet, .anchor 8⟩ .integrator none) = true ∧ (s.begin 0).roleGranted ⟨0, .svcEthernet, .anchor 8⟩ .vendor none = false ∧ s.sessionsOpen < 16 ∧
      (List.range 32).find? (fun n => (s.session? n).isNone) = some 0) (joined (.anchor 8))) ∧
    ((fun s => 16 ≤ s.sessionsOpen) (joined (.anchor 8) ((List.range 16).map (fun i => (i, x1))))) ∧
    ((fun s => s.answers = true ∧ Slip.lost q0.who.slip = false ∧ q0.fmtOk = true ∧ q0.ext = none ∧ s.session? q0.who.sess = some x1 ∧ s.pathUp x1.path = true ∧ x1.assoc = q0.who.assoc ∧ x1.lastSeq ≠ some q0.who.seq ∧
      s.update.holder ≠ some q0.who.sess) (on x1)) ∧
    ((fun s => s.session? 31 = some { x1 with snap := some (0, [], 0) } ∧ x1.executing = false ∧ s.idleNs ≤ s.localAt 86400000000000 - x1.lastUse ∧ s.localAt 0 - x1.lastUse < s.idleNs ∧ 10000000000 ≤ s.localAt 10000000000 - 0 ∧
      s.localAt 9999999999 - 0 < 10000000000) ({ State.reset with access := { sessions := [(31, { x1 with snap := some (0, [], 0) })] } })) ∧
    ((fun s => s.access.forwarded.find? (fun f => f.sess == 0) = some fwd9 ∧ s.session? 0 = some x1 ∧ 500000000 ≤ s.localAt 500000000 - fwd9.since ∧ s.localAt 499999999 - fwd9.since < 500000000 ∧
      s.access.forwarded.find? (fun f => f.sess == 0 && f.seq == 5) = some fwd9 ∧ s.access.forwarded.find? (fun f => f.sess == 0 && f.seq == 6) = none) ({ State.reset with access := { sessions := [(0, x1)], forwarded := [fwd9] } })) ∧
    (∀ n ∈ [1, 8], (on x1).MayWriteDom w0 x1 0x2081 n 52 52 anchor8.length ∧ anchorOk anchor8 = true ∧ (on x1).blob (bySub O.trustAnchor (n - 1)) ≠ anchor8) ∧
    ((joined .vendorKey).blob (bySub O.trustAnchor (8 - 1)) = anchor8) ∧ (on x1).MayWrite w0 x1 0x2FF0 2 0xFFFF := by
  refine ⟨by decide, by decide, by decide, by decide, by decide, by decide, by decide, ?_, by decide, mayWrite_w0 _ _ _ _ _ (by decide) (by decide)⟩
  intro n hn
  simp only [List.mem_cons, List.not_mem_nil, or_false] at hn
  rcases hn with rfl | rfl <;> exact ⟨mayWriteDom_w0 _ _ _ _ _ _ _ (by decide) (by decide), by decide⟩

/-- Request `q0` of session `x`. -/
theorem takesReq_q0 (s : State) (x : Session) (h : ((on x s).answers && (on x s).pathUp x.path && decide (x.assoc = 0) && !x.executing && decide (x.lastSeq ≠ some 0)) = true)
    (g : (q0.target == (on x s).ownAddr || q0.target == 0xFFFF) = true) : (on x s).TakesReq q0 x := by
  refine ⟨rfl, rfl, ?_, takes_w0 s x h⟩
  simpa only [Bool.or_eq_true, beq_iff_eq] using g

def inTxn (l : List (Nat × Val)) (n : Nat) : Session := { x1 with txn := some l, txnBytes := n }
theorem test_witness_Requests :
    isRequest 0 q0 (.ping 0 q0) ∧ isRequest 0 q0 (.write 0 q0 0x2B20 1 0 true [1]) ∧
    (State.reset.answers = true ∧ Slip.lost q0.who.slip = false ∧ ({ q0 with fmtOk := false }).fmtOk = false ∧ ({ q0 with ext := some ⟨0, false, 0, []⟩ } : Req).ext.isSome = true ∧ q0.fromDevice = false ∧ q0.fmtOk = true ∧ State.reset.session? q0.who.sess = none) ∧
    ((on x1).TakesReq q0 x1 ∧ (on x1).row? 0x1FFF 0 = none ∧ ((on x1).row? 0x2B20 1).isSome = true ∧ x1.txn = none) ∧ (on (inTxn [] 0)).TakesReq q0 (inTxn [] 0) := by
  refine ⟨Or.inl rfl, Or.inr (Or.inr (Or.inr (Or.inr (Or.inr (Or.inr ⟨_, _, _, _, _, rfl⟩))))), by decide, ⟨takesReq_q0 _ _ (by decide) (by decide), by decide⟩, takesReq_q0 _ _ (by decide) (by decide)⟩

/-- Do a session's write checks find a row with the property `p`? -/
def rowIs (s : State) (x : Session) (i j : Nat) (p : ObjRow → Bool) : Bool := (s.writeCheck x.rights i j).2.any p
def canRead (s : State) (x : Session) (i j : Nat) (p : ObjRow → Bool) : Bool := (s.readCheck x.rights i j).2.any p
/-- Is the value plain for its object, within its range, and its object writable? -/
def writable_ (s : State) (i j : Nat) (d : Bytes) (v : Int) (r : ObjRow) : Bool :=
  r.ty.intBytes == some d.length && (cmdAct 0 i j (leNat d)).isNone && (r.ty.decode d == .num v) && r.rng.ok v && (s.asked 0 w0 i j r).valueOk i j v.toNat && (s.asked 0 w0 i j r).moreValueOk i j v.toNat && !r.isSelector &&
  (s.asked 0 w0 i j r).writeStateOk i j && (s.asked 0 w0 i j r).selectedOk x1 i j == .ok && r.acc.readRole.isSome
def snapper (b : Bytes) : Session := { x1 with snap := some (mux 0x2081 1, b, 0) }
theorem test_witness_ReadsAndWrites :
    (on x1).TakesReq q0 x1 ∧ ((on x1).readCheck x1.rights 0x1FFF 0).2 = none ∧ ((on x1).writeCheck x1.rights 0x1FFF 0).2 = none ∧ ((on x1).writeCheck x1.rights 0x2B00 0x0A).1 = .accessDenied ∧
    (canRead (on x1) x1 0x2081 1 (fun r => r.isDomain && (((on x1).asked 0 w0 0x2081 1 r).selectedOk x1 0x2081 1 == Status.ok)) = true ∧ canRead (on x1) x1 0x2B20 1 (fun r => !r.isDomain) = true ∧ (on x1).n O.powerState ≠ 2) ∧
    ((on (snapper (fill 1025 0))).TakesReq q0 (snapper (fill 1025 0)) ∧ (snapper (fill 1025 0)).snap = some (mux 0x2081 1, fill 1025 0, 0) ∧ 1024 < (fill 1025 0).length ∧ (on x1).localAt 0 - 0 < 10000000000) ∧
    ((fun s => canRead s x1 0x2200 8 (fun r => poweredOff r 0x2200 8) = true ∧ s.n O.powerState = 2) (on x1 (objs [(O.powerState, 2)]))) ∧
    (canRead (on { x1 with selectors := [(O.tableDie, 8)] }) { x1 with selectors := [(O.tableDie, 8)] } 0x2440 4 (fun r => !(((on x1).asked 0 w0 0x2440 4 r).selectedOk { x1 with selectors := [(O.tableDie, 8)] } 0x2440 4 == Status.ok)) = true) ∧
    (rowIs (on x1) x1 0x2081 1 (fun r => r.isDomain) = true ∧ rowIs (on x1) x1 0x2B20 1 (fun r => !r.isDomain && r.ty.intBytes == some 1) = true ∧ ([] : Bytes).length ≠ 1) ∧
    (rowIs (on x1) x1 0x2B20 1 (fun r => writable_ (on x1) 0x2B20 1 [2] 2 r && r.eff == .T) = true ∧ rowIs (on x1) x1 0x2B20 1 (fun r => !r.rng.ok 3) = true ∧ rowIs (on x1) x1 0x2200 2 (fun r => writable_ (on x1) 0x2200 2 [10] 10 r && r.eff == .C) = true ∧
      rowIs (on x1) x1 0x2100 1 (fun r => writable_ (on x1) 0x2100 1 [4] 4 r && r.eff == .S) = true ∧ rowIs (on x1) x1 0x5002 9 (fun r => writable_ (on x1) 0x5002 9 [1] 1 r && r.eff == .I) = true ∧
      rowIs (on x1) x1 0x2440 1 (fun r => r.isSelector && r.rng.ok 0) = true) ∧
    ((fun s => rowIs s x1 0x2A60 1 (fun r => !(s.asked 0 w0 0x2A60 1 r).writeStateOk 0x2A60 1) = true) (on x1 (objs [(byIdx O.announcementStatus 0, 1)]))) ∧
    ((on (inTxn (List.replicate 63 (0, .num 0)) 16383)).TakesReq q0 (inTxn (List.replicate 63 (0, .num 0)) 16383) ∧ (List.replicate 63 ((0 : Nat), Val.num 0)).length < 64 ∧ 16383 + ([2] : Bytes).length ≤ 16384 ∧ 64 ≤ (List.replicate 64 ((0 : Nat), Val.num 0)).length) := by
  refine ⟨takesReq_q0 _ _ (by decide) (by decide), by decide, by decide, by decide, by decide, ⟨takesReq_q0 _ _ (by decide) (by decide), rfl, by decide +kernel, by decide⟩, by decide, by decide, by decide, by decide, by decide, ⟨takesReq_q0 _ _ (by decide) (by decide), by decide⟩⟩

def updating (u : UpdateSt) (l : List (Nat × Int) := []) : State := { objs l with update := u }
theorem test_witness_UpdateLock :
    ((on x1).MayWrite w0 x1 0x2D00 1 1 ∧ x1.path = .svcEthernet ∧ x1.forwarded = false ∧ (on x1).update.trialSince = none ∧ (on x1).update.holder = none) ∧
    ((fun x => (on x).MayWrite w0 x 0x2D00 1 1 ∧ ¬((x.path = .svcEthernet ∨ x.path = .svcUart) ∧ x.forwarded = false)) { x1 with path := .mailbox }) ∧
    ((fun s => s.MayWrite w0 x1 0x2D00 1 1 ∧ s.update.trialSince.isSome = true) (on x1 (updating { trialSince := some 0 }))) ∧
    (∀ h ∈ [0, 31], (fun s => s.MayWrite w0 x1 0x2D00 1 1 ∧ s.update.holder = some h) (on x1 (updating { holder := some h }))) ∧
    (∀ v ∈ [false, true], (fun s => s.MayWrite w0 x1 0x2D00 1 2 ∧ s.MayWrite w0 x1 0x2D00 1 6 ∧ s.n O.updateStatus = upRUNNING ∧ s.lockCheck w0.sess = .ok ∧ s.update.verifying = v ∧ s.update.lastCmd + 60000000000 ≤ s.localAt 60000000000 ∧
      s.localAt 59999999999 < s.update.lastCmd + 60000000000) (on x1 (updating { holder := some 0, verifying := v } [(O.updateStatus, (upRUNNING : Nat))]))) ∧
    ((fun s => s.MayWrite w0 x1 0x2D00 1 2 ∧ s.MayWrite w0 x1 0x2D00 1 6 ∧ s.n O.updateStatus ≠ upRUNNING ∧ s.lockCheck w0.sess ≠ .ok) (on x1)) ∧
    ((fun s => s.update.holder = none ∧ s.update.recLock.isSome = true ∧ s.update.recState = upRUNNING) (updating { recLock := some 0, recState := upRUNNING })) := by
  refine ⟨⟨mayWrite_w0 _ _ _ _ _ (by decide) (by decide), by decide⟩, ⟨mayWrite_w0 _ _ _ _ _ (by decide) (by decide), by decide⟩, ⟨mayWrite_w0 _ _ _ _ _ (by decide) (by decide), by decide⟩, ?_, ?_,
    ⟨mayWrite_w0 _ _ _ _ _ (by decide) (by decide), mayWrite_w0 _ _ _ _ _ (by decide) (by decide), by decide⟩, by decide⟩ <;> intro h hh <;> simp only [List.mem_cons, List.not_mem_nil, or_false] at hh <;> rcases hh with rfl | rfl
  · exact ⟨mayWrite_w0 _ _ _ _ _ (by decide) (by decide), by decide⟩
  · exact ⟨mayWrite_w0 _ _ _ _ _ (by decide) (by decide), by decide⟩
  · exact ⟨mayWrite_w0 _ _ _ _ _ (by decide) (by decide), mayWrite_w0 _ _ _ _ _ (by decide) (by decide), by decide⟩
  · exact ⟨mayWrite_w0 _ _ _ _ _ (by decide) (by decide), mayWrite_w0 _ _ _ _ _ (by decide) (by decide), by decide⟩

/-- The holder's download of `image1`: the lead's slot 1 holds the bytes `b`, and as many are counted. -/
def loading (b : Bytes) (st : Nat := upRUNNING) : State := on x1 (updating { holder := some 0, images := [(1, b)], boot := [(0, { slotB := imUNVERIFIED })] } [(O.updateStatus, (st : Nat)), (O.bytesReceived, (b.length : Nat))])
def blockAt (n : Nat) (d : Bytes) : Bytes := leBytes 4 n ++ d
theorem test_witness_Downloads :
    (∀ d ∈ [blockAt 0 [1], blockAt 0 (image1.take 300)], ((loading []).MayWriteDom w0 x1 0x2D00 4 5 1024 d.length) ∧ (loading []).lockCheck w0.sess = .ok ∧ (loading []).mayLoad = true ∧ fld d 0 4 = (loading []).n O.bytesReceived) ∧
    (((loading []).blockNew (blockAt 0 [1])).length < 256 ∧ (fun s b => 256 ≤ (s.blockNew b).length ∧ s.header (s.blockNew b) = 0 ∧ (s.blockNew b).length = 256 + fld (s.blockNew b) 0x10 4) (loading []) (blockAt 0 image1)) ∧
    ((fun s b => (s.blockOld b).length < 256 ∧ 256 ≤ (s.blockNew b).length ∧ s.header (s.blockNew b) ≠ 0) (loading []) (blockAt 0 (image1.set 0 0))) ∧
    ((fun s b => 256 ≤ (s.blockNew b).length ∧ 256 + fld (s.blockNew b) 0x10 4 < (s.blockNew b).length ∧ s.header (s.blockNew b) = 0) (loading []) (blockAt 0 (image1 ++ [0]))) ∧
    ((loading [] upVERIFIED).mayLoad = false ∧ fld (blockAt 1 [1]) 0 4 ≠ (loading []).n O.bytesReceived ∧ (on x1).lockCheck w0.sess ≠ .ok) ∧
    ((fun s => s.MayWrite w0 x1 0x2D00 1 3 ∧ s.lockCheck w0.sess = .ok ∧ (s.bootRec s.pkg.lead).slot s.spareSlot = imUNVERIFIED ∧ s.n O.updateStatus ≠ upRUNNING) (loading image1 upDOWNLOADED)) ∧
    ((fun s => s.MayWrite w0 x1 0x2D00 1 3 ∧ s.n O.updateStatus = upRUNNING ∧ s.lockCheck w0.sess = .ok) (loading image1)) ∧
    ((fun s => s.n O.updateStatus = upRUNNING ∧ s.update.verifying = true ∧ imageResult 0 (s.bootRec 0).counter 0 image1 = 0 ∧ imageResult 0 (s.bootRec 0).counter 1 image1 = 1) (updating { verifying := true } [(O.updateStatus, (upRUNNING : Nat))])) := by
  refine ⟨?_, by decide +kernel, by decide +kernel, by decide +kernel, by decide +kernel, ⟨mayWrite_w0 _ _ _ _ _ (by decide +kernel) (by decide +kernel), by decide +kernel⟩, ⟨mayWrite_w0 _ _ _ _ _ (by decide +kernel) (by decide +kernel), by decide +kernel⟩, by decide +kernel⟩
  intro d hd
  simp only [List.mem_cons, List.not_mem_nil, or_false] at hd
  rcases hd with rfl | rfl <;> exact ⟨mayWriteDom_w0 _ _ _ _ _ _ _ (by decide +kernel) (by decide +kernel), by decide +kernel⟩

theorem test_witness_Activations :
    ((fun s => s.MayWrite w0 x1 0x2D00 1 4 ∧ s.lockCheck w0.sess = .ok ∧ s.mayActivate = true) (on x1 (updating { holder := some 0, boot := [(0, { slotB := imVERIFIED })] } [(O.updateStatus, (upVERIFIED : Nat))]))) ∧
    ((fun s => s.MayWrite w0 x1 0x2D00 1 4 ∧ s.lockCheck w0.sess = .ok ∧ s.mayActivate = false) (on x1 (updating { holder := some 0 }))) ∧
    ((on x1).MayWrite w0 x1 0x2D00 1 4 ∧ (on x1).MayWrite w0 x1 0x2D00 1 5 ∧ (on x1).lockCheck w0.sess ≠ .ok ∧ (on x1).update.trialSince = none) ∧
    ((fun s => s.MayWrite w0 x1 0x2D00 1 5 ∧ s.update.trialSince.isSome = true ∧ s.update.checked = true) (on x1 (updating { trialSince := some 0, checked := true }))) ∧
    (∀ m ∈ [0, 1], (fun s => s.update.trialSince = some 0 ∧ (s.begin 0).selfChecks = true ∧ s.n O.confirmationMode = m ∧ 0 + s.n O.confirmationWindow * 1000000000 ≤ s.localAt 10000000000 ∧ s.localAt 0 < 0 + s.n O.confirmationWindow * 1000000000)
      (updating { trialSince := some 0 } [(O.confirmationMode, (m : Nat)), (O.confirmationWindow, 10)])) ∧
    ((fun s => s.n O.datapathPauseTick ≠ 0 ∧ s.n O.datapathPauseTick ≤ s.tickNo) (objs [(O.datapathPauseTick, 7), (O.tickNumber, 7)])) ∧ (objs [(O.datapathPauseTick, 7), (O.tickNumber, 6)]).tickNo < 7 := by
  refine ⟨⟨mayWrite_w0 _ _ _ _ _ (by decide) (by decide), by decide⟩, ⟨mayWrite_w0 _ _ _ _ _ (by decide) (by decide), by decide⟩, ⟨mayWrite_w0 _ _ _ _ _ (by decide) (by decide), mayWrite_w0 _ _ _ _ _ (by decide) (by decide), by decide⟩,
    ⟨mayWrite_w0 _ _ _ _ _ (by decide) (by decide), by decide⟩, by decide, by decide, by decide⟩

/-- The recovery loop of die 0 runs; its protocol's lock and state. -/
def recovering (u : UpdateSt) (l : List (Nat × Int) := []) : State := { updating u l with pkg := { recoveryDies := 1 } }
theorem test_witness_RecoveryProtocol :
    isRecovery 0 65535 65535 (.recoveryStatus 0 65535 65535) 1 0 ∧ isRecovery 0 1 2 (.recoveryBlock 0 1 2 9 []) 3 9 ∧
    State.reset.recoveryAnswers 1 = false ∧ ((recovering { recLast := some (65536 * 1 + 2, [7]) }).recoveryAnswers 1 = true ∧ (recovering { recLast := some (65536 * 1 + 2, [7]) }).update.recLast = some (65536 * 1 + 2, [7])) ∧
    (∀ k ∈ [1, 2, 3, 4, 5, 6], (recovering {}).recoveryAnswers k = true) ∧ (recovering {}).update.recLast = none ∧
    (∀ h ∈ [none, some 0, some 1], (fun s => s.update.recLock = h ∧ 1 ≤ s.n O.lifeCycleState ∧ s.n O.lifeCycleState ≤ 3 ∧ s.recoveryAnswers 2 = true) (recovering { recLock := h } [(O.lifeCycleState, 3)])) ∧ (recovering {}).n O.lifeCycleState = 0 ∧
    ((fun s => s.update.recLock = some 1 ∧ (s.update.recState == upCLAIMED || (s.update.recState == upRUNNING && !s.update.verifying)) = true ∧ s.update.recBytes = 0 ∧ (s.recOld 0).length < 256 ∧ 256 ≤ (image1).length ∧
      (headerResult (s.n O.lifeCycleState) (s.bootRec s.serviceDie).counter image1 = 0) ∧ (image1).length = 256 + fld (image1) 0x10 4 ∧ headerResult (s.n O.lifeCycleState) (s.bootRec s.serviceDie).counter (image1.set 0 0) ≠ 0 ∧
      256 + fld (image1 ++ [0]) 0x10 4 < (image1 ++ [0]).length) (recovering { recLock := some 1, recState := upCLAIMED })) ∧
    (∀ b ∈ [0, 1], (fun s => s.update.recLock = some 1 ∧ s.update.recState ≠ upCLAIMED ∧ s.update.recState ≠ upRUNNING ∧ (s.bootRec s.serviceDie).slot s.update.recSlot = imUNVERIFIED ∧
      decide (imageResult (s.n O.lifeCycleState) (s.bootRec s.serviceDie).counter b (s.image s.serviceDie s.update.recSlot) = 0) = (b == 0)) (recovering { recLock := some 1, recState := upDOWNLOADED, boot := [(0, { slotA := imUNVERIFIED })], images := [(0, image1)] })) ∧
    (recovering { recLock := some 1, recState := upVERIFIED }).update.recState = upVERIFIED ∧ (recovering { recLock := some 1, recState := upRUNNING }).update.recState = upRUNNING ∧
    ((fun s => s.recoveryAnswers 7 = true ∧ s.n O.sensorsActive = 0 ∧ s.canAttest = true ∧ s.update.start = some f0 ∧ s.update.recLast = none) { keyed oneLeaf with pkg := { tamperHold := true }, update := { start := some f0, images := [(0, image1)] } }) ∧
    ((((fun u : State => ({ u with pkg := { u.pkg with tamperHold := false }, cairn := { u.cairn with released := true } } : State).setN O.tamperState 0) { objs [] with update := { images := [(0, image1)] } }).chooseImage f0).isSome = true) ∧
    ((((fun u : State => ({ u with pkg := { u.pkg with tamperHold := false }, cairn := { u.cairn with released := true } } : State).setN O.tamperState 0) (objs [])).chooseImage f0).isNone = true) := by
  refine ⟨Or.inl ⟨rfl, rfl, rfl⟩, Or.inr (Or.inr (Or.inl ⟨_, rfl, rfl⟩)), by decide +kernel, by decide +kernel, by decide +kernel, by decide +kernel, by decide +kernel, by decide +kernel, by decide +kernel, by decide +kernel, by decide +kernel, by decide +kernel, by decide +kernel, by decide +kernel, by decide +kernel⟩

def event1 (h : Bool) : EventRec := ⟨0, 0, 0, if h then 4 else 0, false, false, 0, 0, 0, []⟩
theorem test_witness_TickWork :
    ((State.reset.begin 0).insideStretch 0 = false ∧ ¬(State.reset.begin 0).power_ < 3 ∧ (State.reset.begin 0).pkg.recoveryDies = 0 ∧ (State.reset.begin 0).pkg.tamperHold = false ∧ (∀ k ∈ b0.overruns, k % 8 ≠ 5)) ∧
    ((ticking { stretch := some 9 }).insideStretch 0 = true ∧ (objs [(O.powerState, 2)]).power_ < 3) ∧
    ((event1 false).historic = false ∧ (event1 true).historic = true ∧ ({} : DieLog).general.length < 27648 ∧ 27648 ≤ (List.replicate 27648 (event1 false)).length ∧ 1024 ≤ (List.replicate 1024 (event1 true)).length) ∧
    (∀ r ∈ [(1, true), (2, false)], (fun s => s.dieUp (61 / 8) = true ∧ 61 % 8 ≤ 5 ∧ 61 ≤ 31 * 8 ∧ decide (get 0 s.tick.runs 61 + 1 < 3) = r.2) (ticking { runs := [(61, r.1)] })) ∧ State.reset.dieUp (64 / 8) = false := by
  refine ⟨by decide, by decide, ⟨by decide, by decide, by decide, by simp only [List.length_replicate]; omega, by simp only [List.length_replicate]; omega⟩, by decide, by decide⟩

theorem test_witness_RamContents : Memory.wf [(0, 1), (65535, 255)] = true ∧ Memory.wf [(1, 0)] = false ∧ Memory.wf [(1, 1), (0, 1)] = false ∧ (∀ d ∈ [0, 7], Memory.wf (State.reset.mailboxOf d) = true) := by decide

/-! ### The worked examples of the spec's chapters -/

/-- First lock (chapter 2): the boundary at 30 µs past 1,700,000,000 s, P 125 µs. -/
theorem test_example_first_lock : stretchEnd 1700000000000030000 125000 = 13600000000002 := by decide

/-- The record of a fault plan (chapter 20). -/
theorem test_example_event_record :
    (fun e : EventRec => e.bytes = [0x41, 0x2E, 1, 0, 0x83, 0x8F, 0x3D, 0x7F, 0x5E, 0x0C, 0, 0, 5, 1, 4, 0, 0xFF, 0xFF, 0xA6, 0x0E, 0, 0, 0, 0x15, 0x32, 0, 0, 0, 0x20, 0xAD, 5, 0] ∧ e.word = 0x01058241)
      ⟨77377, 13600001200003, 0x0105, 4, false, false, 0, 0xFFFF, 3750, leBytes 4 0x15000000 ++ leBytes 4 0x32 ++ leBytes 4 372000⟩ := by decide

/-- A relayed Sync (chapter 9): 2,400 + 312 ns at a rate ratio of 1.000012, added to 0x4E28000. -/
theorem test_example_relayed_sync : 0x4E28000 + scaledNs (2400 + 312) 12000 = 0xF7A8855 := by decide

/-- A window on lane 54 (chapter 7): the two entries of its list. -/
theorem test_example_window_list : listEntries false 125000 21144 [(21144, 21144 + (ceil8 (ceilDiv (psOf 148 10000) 1000) + 64), 40)] = [⟨21144, 0x80, 0, 40⟩, ⟨21328, 0x7F, 0, 0xFFFF⟩] := by decide

/-- R297: in mode 2 a byte read at 0x8000 returns the byte at 0x8003. -/
theorem test_example_swap : (bridged { windows := [(2, 2)] }).swapped 2 0x8000 = 0x8003 := by decide

/-- R24: with link 0-4 gone, and links 0-2 and 4-6 in service, die 0 reaches die 4 over dies 2 and 6, and in no fewer hops. -/
def lost04 : State :=
  objs (links8 linkSERVICE ++ [1, 3, 5, 7].map (fun d => (portKey O.saddleLinkState d 3, (linkSTANDBY : Int))) ++ [0, 4].map (fun d => (portKey O.saddleLinkState d 2, (linkFAILED : Int))))
theorem test_example_link_0_4 : [2, 6, 4] ∈ lost04.ways 0 4 3 ∧ lost04.ways 0 4 2 = [] := by decide

/-- The camera contracts (chapter 3) on lane 48: their queue takes 991 Mb/s, and the bound reads 999,370 ns. -/
def camera (dl : Nat) : Bytes := bytesOf 48 [(4, 1), (0x0C, 16), (0x0E, 0xF2), (0x0F, 5), (0x10, 48), (0x28, 2), (0x2A, 16)] ++ leBytes 4 dl ++ bytesOf 12 [(0, 0xFF), (1, 0xFF)]
/-- Die 2's lane 0, that enters with inline MACsec, and lane 48, both of 10 Gb/s. -/
def camState : State := (objs []).setBlob (at_ O.channelRecords 128) (bytesOf 64 [(2, 1), (3, 16)])
def cams (n : Nat) (dl : Nat) : List OnLane := (List.range n).map (fun i => ⟨512 + i, camera dl, ⟨512 + i, 2, 0, 0xFF, 0xFF, []⟩, ⟨48, [6], none, 5, 0xFFFFFFFF⟩⟩)
theorem test_example_cameras : (cams 1 1000000).map (fun c => (cbsBound camState 48 (cams 40 1000000) 5 991 c (dstOf c)).map (ceilDiv · 1000)) = [some 999370] := by decide +kernel

/-- The brake telegram (chapter 6): an FRER stream over two hops, whose least Δ is 1,296 ns and whose bound is 1,460 ns. -/
def brake : OnLane := ⟨0, bytesOf 44 [(5, 0x10), (0x0C, 2), (0x0F, 1), (0x10, 41), (0x28, 1), (0x2A, 1)] ++ leBytes 4 40000 ++ leBytes 4 2000 ++ bytesOf 12 [(0, 0xFF), (1, 0xFF), (2, 100)], ⟨0, 0, 0, 0x20, 0xFF, []⟩, ⟨41, [1, 5], some [4, 5], 7, 41296⟩⟩
theorem test_example_brake : minDelta State.reset brake (dstOf brake) = 1296 ∧ boundOf State.reset ⟨[(0, brake.cr)], ⟨[], []⟩⟩ brake (dstOf brake) = some 1460000 := by decide +kernel

/-- R139: with the function of egress die 6 on ingress die 2, the first copy keeps its lane and the second, a duplicate, loses it. -/
def upRec : SlotPlan := ⟨5, 2, 4, 4, 0xFF, [⟨48, [6], some [1, 6], 5, 0xFFFFFFFF⟩]⟩
def onePkt : Pkt := ⟨[], 0, 0, 0, true, 0, none, 2, 0, 0, 5, 0, none, false, false, false, 0, 0⟩
theorem test_recovery_upstream : egressDiesOf upRec = [6] ∧ recDieOf upRec 6 = 2 ∧
    (let a := State.recoverAhead {} onePkt [] 9 (2 ^ 48) [6]; a.1 = 2 ^ 48 ∧ (a.2.recoverAhead onePkt [] 9 (2 ^ 48) [6]).1 = 0) := by decide +kernel

end Sys2Proof.Tests
end

section
/-! Proofs about the scope of a command and of a step: what every command leaves, that it completes, and the step invariant (R1 to R3). -/
namespace Sys2Proof.Machine
open Sys2Proof

/-- The parts in the order of their places. -/
def Part.inOrder : List Part :=
  [.free, .staged, .held, .stored, .access, .logs, .pkg, .tick, .plan, .lanes, .fwd, .fw, .bridge, .mem, .cairn, .cipher, .time,
    .audio, .edge, .power, .update, .diag, .blobs]

theorem Part.inOrder_place (p : Part) : Part.inOrder[p.place]? = some p := by
  cases p <;> rfl

theorem Part.place_injective : Function.Injective Part.place := fun p q h =>
  Option.some.inj (by rw [← p.inOrder_place, ← q.inOrder_place, h])

/-- The set `R` lies inside the set `m` and the places of the list.  The list is gone through first, so that the sets are numerals
when they are compared. -/
def covers (R : Nat) : List Part → Nat → Bool
  | [], m => inMask R m
  | p :: l, m => covers R l (2 ^ p.place ||| m)

theorem testBit_of_covers {R m i : Nat} {parts : List Part} (h : covers R parts m = true) (hi : R.testBit i = true) :
    m.testBit i = true ∨ ∃ p ∈ parts, p.place = i := by
  induction parts generalizing m with
  | nil => exact .inl (sub_bit h hi)
  | cons p l ih =>
    rcases ih h with hm | ⟨q, hq, e⟩
    · rw [Nat.testBit_or, Bool.or_eq_true, Nat.testBit_two_pow, decide_eq_true_eq] at hm
      exact hm.symm.imp_right fun e => ⟨p, List.mem_cons_self, e⟩
    · exact .inr ⟨q, List.mem_cons_of_mem p hq, e⟩

/-- A set inside the places of a list and the clock's place is listed. -/
theorem listed_of_covers {R : Nat} {parts : List Part} (h : covers R parts (2 ^ 22) = true) : listed R parts = true := by
  unfold listed
  rw [List.all_eq_true]
  intro p hp
  cases hR : R.testBit p.place with
  | false => exact Bool.or_true _
  | true =>
    rcases testBit_of_covers h hR with e | ⟨q, hq, e⟩
    · rw [Nat.testBit_two_pow, decide_eq_true_eq] at e
      obtain rfl : Part.blobs = p := Part.place_injective e
      exact absurd hp (by decide)
    · obtain rfl := Part.place_injective e
      rw [List.contains_iff_mem.mpr hq]
      rfl

/-- A command whose set of parts is covered by a list changes nothing outside the list. -/
theorem within_of_covers {s u : State} {R : Nat} {parts : List Part} (h : u.core R = s.core R)
    (hc : covers R parts (2 ^ 22) = true) : Within s u parts := within_of_core h (listed_of_covers hc)

/-- Every command leaves the parts that its list does not name: each arm cites the frame of its meaning. -/
theorem exec_within (c : Instr) (s u : State) (h : exec c s = .next u) : Within s u (partsOf c) := by
  cases c with
  | tickBoundary t b => exact within_of_covers (execTickBoundary_core t b s u h) rfl
  | lockHoldTimeout t => exact within_of_covers (execLockHoldTimeout_core t s u h) rfl
  | firstLock t => exact within_of_covers (execFirstLock_core t s u h) rfl
  | stretchTickStart t gptp => exact within_of_covers (execStretchTickStart_core t gptp s u h) rfl
  | stretchTickEnd t => exact within_of_covers (execStretchTickEnd_core t s u h) rfl
  | holdEnd t lane => exact within_of_covers (execHoldEnd_core t lane s u h) rfl
  | reAlignTick t who => exact within_of_covers (execReAlignTick_core t who s u h) rfl
  | holdover t => exact within_of_covers (execHoldover_core t s u h) rfl
  | stageRecord t who slot rec => exact within_of_covers (execStageRecord_core t who slot rec s u h) rfl
  | stageDelete t who slot => exact within_of_covers (execStageDelete_core t who slot s u h) rfl
  | discardStaged t who slot => exact within_of_covers (execDiscardStaged_core t who slot s u h) rfl
  | commit t who => exact within_of_covers (execCommit_core t who s u h) rfl
  | commitAbort t who => exact within_of_covers (execCommitAbort_core t who s u h) rfl
  | checkOnly t who => exact within_of_covers (execCheckOnly_core t who s u h) rfl
  | commitForcingDisables t who => exact within_of_covers (execCommitForcingDisables_core t who s u h) rfl
  | discardAllStaged t who => exact within_of_covers (execDiscardAllStaged_core t who s u h) rfl
  | commitVerdict t => exact within_of_covers (execCommitVerdict_core t s u h) rfl
  | generationSwitch t => exact within_of_covers (execGenerationSwitch_core t s u h) rfl
  | shadowPlanDistributed t code => exact within_of_covers (execShadowPlanDistributed_core t code s u h) rfl
  | talkerAdvertise t lane ad => exact within_of_covers (execTalkerAdvertise_core t lane ad s u h) rfl
  | listenerDeclaration t lane stream ready => exact within_of_covers (execListenerDeclaration_core t lane stream ready s u h) rfl
  | heartbeatSend t => exact within_of_covers (execHeartbeatSend_core t s u h) rfl
  | heartbeatMissed t die port => exact within_of_covers (execHeartbeatMissed_core t die port s u h) rfl
  | dieFaultClassifyTimeout t die => exact within_of_covers (execDieFaultClassifyTimeout_core t die s u h) rfl
  | fatalWire t die cause => exact within_of_covers (execFatalWire_core t die cause s u h) rfl
  | activationReceive t die code => exact within_of_covers (execActivationReceive_core t die code s u h) rfl
  | faultPlanActive t => exact within_of_covers (execFaultPlanActive_core t s u h) rfl
  | urgentShadowPlanBuilt t code => exact within_of_covers (execUrgentShadowPlanBuilt_core t code s u h) rfl
  | dictionaryServiceResume t => exact within_of_covers (execDictionaryServiceResume_core t s u h) rfl
  | remirrorDone t => exact within_of_covers (execRemirrorDone_core t s u h) rfl
  | derateRaise t die => exact within_of_covers (execDerateRaise_core t die s u h) rfl
  | derateLower t die => exact within_of_covers (execDerateLower_core t die s u h) rfl
  | migrationEnded t => exact within_of_covers (execMigrationEnded_core t s u h) rfl
  | gateWatchdog t die cluster => exact within_of_covers (execGateWatchdog_core t die cluster s u h) rfl
  | clusterBackInService t die cluster => exact within_of_covers (execClusterBackInService_core t die cluster s u h) rfl
  | autonegComplete t lane rate fullDuplex => exact within_of_covers (execAutonegComplete_core t lane rate fullDuplex s u h) rfl
  | linkUpHoldOff t lane => exact within_of_covers (execLinkUpHoldOff_core t lane s u h) rfl
  | linkLoss t lane => exact within_of_covers (execLinkLoss_core t lane s u h) rfl
  | lacpOut t lane => exact within_of_covers (execLacpOut_core t lane s u h) rfl
  | laneFrameReceive t lane f avail => exact within_of_covers (execLaneFrameReceive_core t lane f avail s u h) rfl
  | saddleFrameReceive t die m avail => exact within_of_covers (execSaddleFrameReceive_core t die m avail s u h) rfl
  | sessionLookupAnswer t id avail => exact within_of_covers (execSessionLookupAnswer_core t id avail s u h) rfl
  | sessionIdleExpiry t => exact within_of_covers (execSessionIdleExpiry_core t s u h) rfl
  | sessionTransferDone t pass die => exact within_of_covers (execSessionTransferDone_core t pass die s u h) rfl
  | sessionFlush t who pass => exact within_of_covers (execSessionFlush_core t who pass s u h) rfl
  | fdbUpdateReceive t die key e => exact within_of_covers (execFdbUpdateReceive_core t die key e s u h) rfl
  | fdbAgeOut t die key => exact within_of_covers (execFdbAgeOut_core t die key s u h) rfl
  | staticEntryWrite t who rec => exact within_of_covers (execStaticEntryWrite_core t who rec s u h) rfl
  | staticEntryDelete t who rec => exact within_of_covers (execStaticEntryDelete_core t who rec s u h) rfl
  | fdbFlush t who => exact within_of_covers (execFdbFlush_core t who s u h) rfl
  | recoveryResetTimeout t die slot => exact within_of_covers (execRecoveryResetTimeout_core t die slot s u h) rfl
  | transmitDescriptorFetch t die ring chain avail => exact within_of_covers (execTransmitDescriptorFetch_core t die ring chain avail s u h) rfl
  | transmitSelection t lane avail => exact within_of_covers (execTransmitSelection_core t lane avail s u h) rfl
  | gateEvent t lane => exact within_of_covers (execGateEvent_core t lane s u h) rfl
  | adminListStart t lane => exact within_of_covers (execAdminListStart_core t lane s u h) rfl
  | shaperEligible t lane slot => exact within_of_covers (execShaperEligible_core t lane slot s u h) rfl
  | preemptionVerifyDone t lane ok => exact within_of_covers (execPreemptionVerifyDone_core t lane ok s u h) rfl
  | pauseReceive t lane pfc times => exact within_of_covers (execPauseReceive_core t lane pfc times s u h) rfl
  | pauseTimerExpiry t lane => exact within_of_covers (execPauseTimerExpiry_core t lane s u h) rfl
  | pauseRepeat t lane => exact within_of_covers (execPauseRepeat_core t lane s u h) rfl
  | starvationLimit t lane tc => exact within_of_covers (execStarvationLimit_core t lane tc s u h) rfl
  | ptpAnnounceReceive t lane msg => exact within_of_covers (execPtpAnnounceReceive_core t lane msg s u h) rfl
  | ptpSyncReceive t lane msg => exact within_of_covers (execPtpSyncReceive_core t lane msg s u h) rfl
  | ptpFollowUpReceive t lane msg => exact within_of_covers (execPtpFollowUpReceive_core t lane msg s u h) rfl
  | ptpDelayReqReceive t lane msg => exact within_of_covers (execPtpDelayReqReceive_core t lane msg s u h) rfl
  | ptpDelayRespReceive t lane msg => exact within_of_covers (execPtpDelayRespReceive_core t lane msg s u h) rfl
  | ptpPdelayReqReceive t lane msg => exact within_of_covers (execPtpPdelayReqReceive_core t lane msg s u h) rfl
  | ptpPdelayRespReceive t lane msg => exact within_of_covers (execPtpPdelayRespReceive_core t lane msg s u h) rfl
  | ptpSignalingReceive t lane msg => exact within_of_covers (execPtpSignalingReceive_core t lane msg s u h) rfl
  | ptpSyncTimer t inst lane => exact within_of_covers (execPtpSyncTimer_core t inst lane s u h) rfl
  | ptpAnnounceTimer t inst lane => exact within_of_covers (execPtpAnnounceTimer_core t inst lane s u h) rfl
  | ptpDelayTimer t inst lane => exact within_of_covers (execPtpDelayTimer_core t inst lane s u h) rfl
  | receiptTimeout t inst lane => exact within_of_covers (execReceiptTimeout_core t inst lane s u h) rfl
  | timeTransferWord t die err => exact within_of_covers (execTimeTransferWord_core t die err s u h) rfl
  | grandmasterTimeSet t who inst v => exact within_of_covers (execGrandmasterTimeSet_core t who inst v s u h) rfl
  | pulseProgramWrite t who die output rec => exact within_of_covers (execPulseProgramWrite_core t who die output rec s u h) rfl
  | pulseEdge t die output => exact within_of_covers (execPulseEdge_core t die output s u h) rfl
  | captureEdge t die input falling => exact within_of_covers (execCaptureEdge_core t die input falling s u h) rfl
  | refLost t inst => exact within_of_covers (execRefLost_core t inst s u h) rfl
  | captureRecordsRead t who die input => exact within_of_covers (execCaptureRecordsRead_core t who die input s u h) rfl
  | cirqueInputFrame t die chan slot f => exact within_of_covers (execCirqueInputFrame_core t die chan slot f s u h) rfl
  | emergencyAssert t => exact within_of_covers (execEmergencyAssert_core t s u h) rfl
  | emergencyRelease t => exact within_of_covers (execEmergencyRelease_core t s u h) rfl
  | emergencyCommand t who v => exact within_of_covers (execEmergencyCommand_core t who v s u h) rfl
  | zoneHandoverStart t => exact within_of_covers (execZoneHandoverStart_core t s u h) rfl
  | announcementStart t who a => exact within_of_covers (execAnnouncementStart_core t who a s u h) rfl
  | announcementAbort t who a => exact within_of_covers (execAnnouncementAbort_core t who a s u h) rfl
  | announcementPlayback t a => exact within_of_covers (execAnnouncementPlayback_core t a s u h) rfl
  | announcementDone t a => exact within_of_covers (execAnnouncementDone_core t a s u h) rfl
  | clipDataWrite t who data => exact within_of_covers (execClipDataWrite_core t who data s u h) rfl
  | clipErase t who => exact within_of_covers (execClipErase_core t who s u h) rfl
  | canFrameReceive t unit f => exact within_of_covers (execCanFrameReceive_core t unit f s u h) rfl
  | edgeTxRequest t cluster off => exact within_of_covers (execEdgeTxRequest_core t cluster off s u h) rfl
  | canTransmitDone t unit => exact within_of_covers (execCanTransmitDone_core t unit s u h) rfl
  | busOff t unit => exact within_of_covers (execBusOff_core t unit s u h) rfl
  | busOffRecovery t who unit => exact within_of_covers (execBusOffRecovery_core t who unit s u h) rfl
  | busOffRecovered t unit => exact within_of_covers (execBusOffRecovered_core t unit s u h) rfl
  | linScheduleEntry t unit => exact within_of_covers (execLinScheduleEntry_core t unit s u h) rfl
  | linHeaderReceive t unit id => exact within_of_covers (execLinHeaderReceive_core t unit id s u h) rfl
  | linResponseReceive t unit data sumOk => exact within_of_covers (execLinResponseReceive_core t unit data sumOk s u h) rfl
  | linNoResponse t unit => exact within_of_covers (execLinNoResponse_core t unit s u h) rfl
  | linGoToSleep t unit => exact within_of_covers (execLinGoToSleep_core t unit s u h) rfl
  | uartMessageEnd t unit chars errors => exact within_of_covers (execUartMessageEnd_core t unit chars errors s u h) rfl
  | mvbBasicPeriod t die => exact within_of_covers (execMvbBasicPeriod_core t die s u h) rfl
  | mvbMasterFrame t die fcode addr lineA lineB => exact within_of_covers (execMvbMasterFrame_core t die fcode addr lineA lineB s u h) rfl
  | mvbSlaveFrame t die addr data lineA lineB => exact within_of_covers (execMvbSlaveFrame_core t die addr data lineA lineB s u h) rfl
  | t1sFrameReceive t die bytes node ok => exact within_of_covers (execT1sFrameReceive_core t die bytes node ok s u h) rfl
  | telegramReceive t endpoint slot bytes at_ => exact within_of_covers (execTelegramReceive_core t endpoint slot bytes at_ s u h) rfl
  | nmtStart t node => exact within_of_covers (execNmtStart_core t node s u h) rfl
  | nmtStop t node => exact within_of_covers (execNmtStop_core t node s u h) rfl
  | nmtEnterPreOperational t node => exact within_of_covers (execNmtEnterPreOperational_core t node s u h) rfl
  | nmtResetNode t node => exact within_of_covers (execNmtResetNode_core t node s u h) rfl
  | nmtResetCommunication t node => exact within_of_covers (execNmtResetCommunication_core t node s u h) rfl
  | sdoRequest t data => exact within_of_covers (execSdoRequest_core t data s u h) rfl
  | sdoTimeout t => exact within_of_covers (execSdoTimeout_core t s u h) rfl
  | rpdoReceive t n data => exact within_of_covers (execRpdoReceive_core t n data s u h) rfl
  | rpdoEventTimer t n => exact within_of_covers (execRpdoEventTimer_core t n s u h) rfl
  | syncReceive t counter => exact within_of_covers (execSyncReceive_core t counter s u h) rfl
  | tpdoEventTimer t n => exact within_of_covers (execTpdoEventTimer_core t n s u h) rfl
  | heartbeatProducerTimer t => exact within_of_covers (execHeartbeatProducerTimer_core t s u h) rfl
  | heartbeatConsumerTimeout t entry => exact within_of_covers (execHeartbeatConsumerTimeout_core t entry s u h) rfl
  | flitReplay t die port again => exact within_of_covers (execFlitReplay_core t die port again s u h) rfl
  | saddleRequestReceive t die port x portA => exact within_of_covers (execSaddleRequestReceive_core t die port x portA s u h) rfl
  | saddleCompletionReceive t die id status value => exact within_of_covers (execSaddleCompletionReceive_core t die id status value s u h) rfl
  | bridgeFault t id => exact within_of_covers (execBridgeFault_core t id s u h) rfl
  | intWireChange t => exact within_of_covers (execIntWireChange_core t s u h) rfl
  | intSourceClear t die mask again => exact within_of_covers (execIntSourceClear_core t die mask again s u h) rfl
  | doorbellIn t v => exact within_of_covers (execDoorbellIn_core t v s u h) rfl
  | doorbellOut t v => exact within_of_covers (execDoorbellOut_core t v s u h) rfl
  | eventFifo t => exact within_of_covers (execEventFifo_core t s u h) rfl
  | windowControl t window v => exact within_of_covers (execWindowControl_core t window v s u h) rfl
  | prefetchDiscard t master window line => exact within_of_covers (execPrefetchDiscard_core t master window line s u h) rfl
  | hostWindowWrite t off data portA => exact within_of_covers (execHostWindowWrite_core t off data portA s u h) rfl
  | spiWrite t addr data => exact within_of_covers (execSpiWrite_core t addr data s u h) rfl
  | spiRead t addr words => exact within_of_covers (execSpiRead_core t addr words s u h) rfl
  | spiStatus t => exact within_of_covers (execSpiStatus_core t s u h) rfl
  | endpointTakeover t => exact within_of_covers (execEndpointTakeover_core t s u h) rfl
  | slotRecordsWrite t who data stop => exact within_of_covers (execSlotRecordsWrite_core t who data stop s u h) rfl
  | keyImport t who data stop => exact within_of_covers (execKeyImport_core t who data stop s u h) rfl
  | keyRequest t die slot => exact within_of_covers (execKeyRequest_core t die slot s u h) rfl
  | keyDelivered t die slot => exact within_of_covers (execKeyDelivered_core t die slot s u h) rfl
  | lifeCycleCommand t who v => exact within_of_covers (execLifeCycleCommand_core t who v s u h) rfl
  | lifeCycleDone t => exact within_of_covers (execLifeCycleDone_core t s u h) rfl
  | tamper t die cls count => exact within_of_covers (execTamper_core t die cls count s u h) rfl
  | tamperLoopPattern t ok0 ok1 count => exact within_of_covers (execTamperLoopPattern_core t ok0 ok1 count s u h) rfl
  | tamperClear t who nonce => exact within_of_covers (execTamperClear_core t who nonce s u h) rfl
  | fuseTamperDestroysRoot t who => exact within_of_covers (execFuseTamperDestroysRoot_core t who s u h) rfl
  | attestationNonce t who nonce => exact within_of_covers (execAttestationNonce_core t who nonce s u h) rfl
  | attestationReady t sess => exact within_of_covers (execAttestationReady_core t sess s u h) rfl
  | mkpduReceive t lane p => exact within_of_covers (execMkpduReceive_core t lane p s u h) rfl
  | mkaHelloTimer t channel => exact within_of_covers (execMkaHelloTimer_core t channel s u h) rfl
  | mkaLifeTimeout t channel mi => exact within_of_covers (execMkaLifeTimeout_core t channel mi s u h) rfl
  | lookasideJobFetch t cls desc data readOk => exact within_of_covers (execLookasideJobFetch_core t cls desc data readOk s u h) rfl
  | lookasideJobDone t die busOk dest => exact within_of_covers (execLookasideJobDone_core t die busOk dest s u h) rfl
  | abortJob t who => exact within_of_covers (execAbortJob_core t who s u h) rfl
  | spewardJob t who data => exact within_of_covers (execSpewardJob_core t who data s u h) rfl
  | eccUncorrectable t die hit bank word => exact within_of_covers (execEccUncorrectable_core t die hit bank word s u h) rfl
  | patrolScrub t die corrected => exact within_of_covers (execPatrolScrub_core t die corrected s u h) rfl
  | marchStart t who => exact within_of_covers (execMarchStart_core t who s u h) rfl
  | marchAbort t who => exact within_of_covers (execMarchAbort_core t who s u h) rfl
  | marchBankDone t failing => exact within_of_covers (execMarchBankDone_core t failing s u h) rfl
  | marchDone t => exact within_of_covers (execMarchDone_core t s u h) rfl
  | standbyEnter t who => exact within_of_covers (execStandbyEnter_core t who s u h) rfl
  | standbyLeave t who elapsed est f => exact within_of_covers (execStandbyLeave_core t who elapsed est f s u h) rfl
  | powerOver t => exact within_of_covers (execPowerOver_core t s u h) rfl
  | smbalert t words => exact within_of_covers (execSmbalert_core t words s u h) rfl
  | sleepRequest t who => exact within_of_covers (execSleepRequest_core t who s u h) rfl
  | token t lane frame => exact within_of_covers (execToken_core t lane frame s u h) rfl
  | tokenTimeout t => exact within_of_covers (execTokenTimeout_core t s u h) rfl
  | roundTimeout t => exact within_of_covers (execRoundTimeout_core t s u h) rfl
  | consentCommit t lane frame => exact within_of_covers (execConsentCommit_core t lane frame s u h) rfl
  | cancel t lane frame => exact within_of_covers (execCancel_core t lane frame s u h) rfl
  | join t lane frame => exact within_of_covers (execJoin_core t lane frame s u h) rfl
  | leave t lane frame => exact within_of_covers (execLeave_core t lane frame s u h) rfl
  | wakeFrame t lane => exact within_of_covers (execWakeFrame_core t lane s u h) rfl
  | sleepEntry t => exact within_of_covers (execSleepEntry_core t s u h) rfl
  | wake t cause src elapsed est f => exact within_of_covers (execWake_core t cause src elapsed est f s u h) rfl
  | wakeCommand t who elapsed est f => exact within_of_covers (execWakeCommand_core t who elapsed est f s u h) rfl
  | falseWake t => exact within_of_covers (execFalseWake_core t s u h) rfl
  | detachCommand t who => exact within_of_covers (execDetachCommand_core t who s u h) rfl
  | detachDrainEnd t => exact within_of_covers (execDetachDrainEnd_core t s u h) rfl
  | dtlsHandshake t path assoc chain valid slip => exact within_of_covers (execDtlsHandshake_core t path assoc chain valid slip s u h) rfl
  | openSession t who role token => exact within_of_covers (execOpen_core t who role token s u h) rfl
  | close t q => exact within_of_covers (execClose_core t q s u h) rfl
  | read t q idx sub off => exact within_of_covers (execRead_core t q idx sub off s u h) rfl
  | write t q idx sub off last data => exact within_of_covers (execWrite_core t q idx sub off last data s u h) rfl
  | describe t q idx sub => exact within_of_covers (execDescribe_core t q idx sub s u h) rfl
  | txnBegin t q => exact within_of_covers (execTxnBegin_core t q s u h) rfl
  | txnEnd t q => exact within_of_covers (execTxnEnd_core t q s u h) rfl
  | txnAbort t q => exact within_of_covers (execTxnAbort_core t q s u h) rfl
  | ping t q => exact within_of_covers (execPing_core t q s u h) rfl
  | sessionIdleTimeout t sess => exact within_of_covers (execSessionIdleTimeout_core t sess s u h) rfl
  | snapshotExpiry t sess => exact within_of_covers (execSnapshotExpiry_core t sess s u h) rfl
  | forwardTimeout t sess => exact within_of_covers (execForwardTimeout_core t sess s u h) rfl
  | forwardedResponse t sess seq status data last => exact within_of_covers (execForwardedResponse_core t sess seq status data last s u h) rfl
  | trustAnchorWrite t who n rec => exact within_of_covers (execTrustAnchorWrite_core t who n rec s u h) rfl
  | restoreFactory t who v => exact within_of_covers (execRestoreFactory_core t who v s u h) rfl
  | coldStart t f => exact within_of_covers (execColdStart_core t f s u h) rfl
  | resetAssert t width => exact within_of_covers (execResetAssert_core t width s u h) rfl
  | aonPowerLoss t => exact within_of_covers (execAonPowerLoss_core t s u h) rfl
  | xtalFail t => exact within_of_covers (execXtalFail_core t s u h) rfl
  | startFailed t => exact within_of_covers (execStartFailed_core t s u h) rfl
  | updateClaim t who => exact within_of_covers (execUpdateClaim_core t who s u h) rfl
  | updateAbort t who => exact within_of_covers (execUpdateAbort_core t who s u h) rfl
  | updateVerify t who => exact within_of_covers (execUpdateVerify_core t who s u h) rfl
  | verifyDone t crypto => exact within_of_covers (execVerifyDone_core t crypto s u h) rfl
  | updateActivate t who => exact within_of_covers (execUpdateActivate_core t who s u h) rfl
  | updateConfirm t who => exact within_of_covers (execUpdateConfirm_core t who s u h) rfl
  | updateRelease t who => exact within_of_covers (execUpdateRelease_core t who s u h) rfl
  | imageBlock t who data writeOk => exact within_of_covers (execImageBlock_core t who data writeOk s u h) rfl
  | lockTimeout t => exact within_of_covers (execLockTimeout_core t s u h) rfl
  | selfChecksPassed t => exact within_of_covers (execSelfChecksPassed_core t s u h) rfl
  | confirmationWindowExpired t => exact within_of_covers (execConfirmationWindowExpired_core t s u h) rfl
  | datapathPause t => exact within_of_covers (execDatapathPause_core t s u h) rfl
  | recoveryStatus t src seq => exact within_of_covers (execRecoveryStatus_core t src seq s u h) rfl
  | recoveryClaim t src seq tokenOk => exact within_of_covers (execRecoveryClaim_core t src seq tokenOk s u h) rfl
  | recoveryBlock t src seq off data => exact within_of_covers (execRecoveryBlock_core t src seq off data s u h) rfl
  | recoveryVerify t src seq crypto => exact within_of_covers (execRecoveryVerify_core t src seq crypto s u h) rfl
  | recoveryActivate t src seq => exact within_of_covers (execRecoveryActivate_core t src seq s u h) rfl
  | recoveryAbort t src seq => exact within_of_covers (execRecoveryAbort_core t src seq s u h) rfl
  | recoveryClear t src seq nonce credOk => exact within_of_covers (execRecoveryClear_core t src seq nonce credOk s u h) rfl
  | voltage t die monitor mv excess => exact within_of_covers (execVoltage_core t die monitor mv excess s u h) rfl
  | underVoltageFatal t die monitor => exact within_of_covers (execUnderVoltageFatal_core t die monitor s u h) rfl
  | laneTestStart t who lane v => exact within_of_covers (execLaneTestStart_core t who lane v s u h) rfl
  | laneTestStop t who lane => exact within_of_covers (execLaneTestStop_core t who lane s u h) rfl
  | prbsLock t lane => exact within_of_covers (execPrbsLock_core t lane s u h) rfl
  | noLock t lane => exact within_of_covers (execNoLock_core t lane s u h) rfl
  | testFramesDone t lane => exact within_of_covers (execTestFramesDone_core t lane s u h) rfl
  | eyeMeasure t who lane => exact within_of_covers (execEyeMeasure_core t who lane s u h) rfl
  | eyeScanDone t lane height width => exact within_of_covers (execEyeScanDone_core t lane height width s u h) rfl
  | saddleTestMode t who die port v => exact within_of_covers (execSaddleTestMode_core t who die port v s u h) rfl
  | clearLaneCounters t who lane => exact within_of_covers (execClearLaneCounters_core t who lane s u h) rfl
  | clearStreamCounters t who => exact within_of_covers (execClearStreamCounters_core t who s u h) rfl
  | clearPassCounters t who => exact within_of_covers (execClearPassCounters_core t who s u h) rfl
  | clearCirqueCounters t who => exact within_of_covers (execClearCirqueCounters_core t who s u h) rfl
  | clearEdgeCounters t who kind unit => exact within_of_covers (execClearEdgeCounters_core t who kind unit s u h) rfl
  | clearGatewayCounters t who => exact within_of_covers (execClearGatewayCounters_core t who s u h) rfl
  | clearMacsecCounters t who => exact within_of_covers (execClearMacsecCounters_core t who s u h) rfl
  | clearBridgeCounters t who => exact within_of_covers (execClearBridgeCounters_core t who s u h) rfl
  | clearMonitorRecords t who => exact within_of_covers (execClearMonitorRecords_core t who s u h) rfl
  | aonPowerUp t => exact within_of_covers (execAonPowerUp_core t s u h) rfl
  | lockGained t lane => exact within_of_covers (execLockGained_core t lane s u h) rfl
  | lockLost t lane => exact within_of_covers (execLockLost_core t lane s u h) rfl
  | lacpCollectingDistributing t lane => exact within_of_covers (execLacpCollectingDistributing_core t lane s u h) rfl
  | canBusError t unit transmitting arbitration => exact within_of_covers (execCanBusError_core t unit transmitting arbitration s u h) rfl
  | txDone t kind unit => exact within_of_covers (execTxDone_core t kind unit s u h) rfl
  | tpdoInhibitTime t n => exact within_of_covers (execTpdoInhibitTime_core t n s u h) rfl
  | wakeFrameRepeat t => exact within_of_covers (execWakeFrameRepeat_core t s u h) rfl
  | commitRepeat t => exact within_of_covers (execCommitRepeat_core t s u h) rfl
  | creditReachesZero t lane tc avail => exact within_of_covers (execCreditReachesZero_core t lane tc avail s u h) rfl
  | limiterCountReachesZero t lane avail => exact within_of_covers (execLimiterCountReachesZero_core t lane avail s u h) rfl
  | setAndHold t lane => exact within_of_covers (execSetAndHold_core t lane s u h) rfl
  | tamperConditionEnds t cls => exact within_of_covers (execTamperConditionEnds_core t cls s u h) rfl

theorem exec_completes (c : Instr) (s : State) : ∃ u, exec c s = .next u := by
  cases c <;> exact ⟨_, rfl⟩

theorem step_of_nil {s : State} (h : s.pending = []) : step s = .next s := by
  unfold step
  rw [h]

theorem step_of_cons {s : State} {c : Instr} {rest : List Instr} (h : s.pending = c :: rest) :
    step s = exec c { s with pending := rest } := by
  unfold step
  rw [h]

theorem step_completes (s : State) : ∃ u, step s = .next u := by
  cases h : s.pending with
  | nil => exact ⟨s, step_of_nil h⟩
  | cons c rest =>
    rw [step_of_cons h]
    exact exec_completes c _

/-- A step takes exactly the front command from the queue and leaves the package's variant. -/
theorem step_variant_queue {s u : State} (h : step s = .next u) : u.variant = s.variant ∧ u.pending = s.pending.tail := by
  cases hp : s.pending with
  | nil =>
    rw [step_of_nil hp] at h
    cases h
    exact ⟨rfl, hp⟩
  | cons c rest =>
    rw [step_of_cons hp] at h
    have w := exec_within c _ u h
    exact ⟨w.variant, w.queue⟩

theorem step_keeps_inv {s u : State} (hs : s.Inv) (h : step s = .next u) : u.Inv := by
  obtain ⟨hlegal, hwf⟩ := hs
  obtain ⟨hv, hq⟩ := step_variant_queue h
  refine ⟨?_, fun c hc => hwf c ?_⟩
  · unfold State.legalVariant
    rw [hv]
    exact hlegal
  · rw [hq] at hc
    exact List.mem_of_mem_tail hc

end Sys2Proof.Machine

open Sys2Proof Sys2Proof.Machine

/-- Settles O1, by the two equations of `step`. -/
theorem stepRunsFrontCommand : Obligations.StepRunsFrontCommand :=
  ⟨fun _ _ _ => step_of_cons rfl, fun _ => step_of_nil⟩

/-- Settles O2: every arm of `exec` is a next state. -/
theorem everyStepCompletes : Obligations.EveryStepCompletes := ⟨exec_completes, step_completes⟩

/-- Settles O3, by the frame of each command. -/
theorem everyCommandStaysInItsParts : Obligations.EveryCommandStaysInItsParts := exec_within

/-- Settles O4: a step leaves the variant, and what waits after it waited before it. -/
theorem everyStepKeepsInvariant : Obligations.EveryStepKeepsInvariant :=
  fun _ _ hs h => ⟨step_keeps_inv hs h, step_variant_queue h⟩

/-- Settles O5: the reset state holds eight dies and an empty queue. -/
theorem resetMeetsInvariant : Obligations.ResetMeetsInvariant :=
  ⟨⟨.inr (.inr rfl), fun _ h => nomatch h⟩, rfl⟩
end

section
/-! Proofs about READ and WRITE (R407, R410 to R413, R490): what each branch of a fragment answers and leaves, and from that the
effect of the two commands. -/
namespace Sys2Proof.Machine
open Sys2Proof

/-! ### Sessions through the operations of a request -/

theorem State.session_updSession {s : State} {n : Nat} {x : Session} (h : s.session? n = some x) (f : Session → Session) :
    (s.updSession n f).session? n = some (f x) := by
  unfold State.updSession
  rw [h]
  exact look_ins_self ..

theorem State.updSession_now (s : State) (n : Nat) (f : Session → Session) : (s.updSession n f).now = s.now := by
  unfold State.updSession
  split <;> rfl

/-- An operation that leaves the access part leaves every session. -/
theorem Only.session_eq {s u : State} {P : List Part} {K : List Nat} (h : Only s u P K) (hp : Part.access ∉ P) (n : Nat) :
    u.session? n = s.session? n := by
  unfold State.session?
  rw [show u.access = s.access from h.rest .access hp]

/-- An access to an object keeps its session's selectors and transaction. -/
theorem State.touch_session {s : State} {n : Nat} {x : Session} (h : s.session? n = some x) (m : Nat) (b : Bool) :
    ∃ y, (s.touch n m b).session? n = some y ∧ y.selectors = x.selectors ∧ y.txn = x.txn ∧ y.txnBytes = x.txnBytes := by
  unfold State.touch
  split
  · exact ⟨x, h, rfl, rfl, rfl⟩
  · exact ⟨_, State.session_updSession h _, rfl, rfl, rfl⟩

theorem State.session_answer {s : State} {who : Who} {y : Session} (h : s.session? who.sess = some y) (r : Response) :
    (s.answer who r).session? who.sess =
      some { y with stored := some r, lastSeq := some who.seq, executing := false, lastUse := s.now } := by
  unfold State.answer
  simp only [h]
  rw [(only_reply ..).session_eq (by decide)]
  exact State.session_updSession h _

/-- The answer to an open session is on the wires, and beside it only the session and the mailbox change. -/
theorem State.answer_spec {s w : State} {who : Who} {y : Session} {P : List Part} {K : List Nat}
    (hy : w.session? who.sess = some y) (f : Only s w (.access :: .power :: .bridge :: P) K) (r : Response) :
    Out.response who r ∈ (w.answer who r).out ∧ Only s (w.answer who r) (.access :: .power :: .bridge :: P) K :=
  ⟨State.answer_out _ _ _ (by rw [hy]; rfl), f.two (only_answer ..) (by simp) (by simp)⟩

/-- An answer whose session has been rewritten by `g` just before: the session then meets what `g` establishes. -/
theorem State.update_spec {s w : State} {who : Who} {y : Session} {P : List Part} {K : List Nat} {g : Session → Session}
    {r : Response} {C : Session → Prop} (hy : w.session? who.sess = some y) (f : Only s w (.access :: .power :: .bridge :: P) K)
    (hC : C { g y with stored := some r, lastSeq := some who.seq, executing := false, lastUse := w.now }) :
    Out.response who r ∈ ((w.updSession who.sess g).answer who r).out ∧
      (∃ z, ((w.updSession who.sess g).answer who r).session? who.sess = some z ∧ C z) ∧
      Only s ((w.updSession who.sess g).answer who r) (.access :: .power :: .bridge :: P) K := by
  have hg := State.session_updSession hy g
  obtain ⟨hout, hf⟩ := State.answer_spec hg (f.one (only_updSession ..) List.mem_cons_self) r
  rw [← State.updSession_now w who.sess g] at hC
  exact ⟨hout, ⟨_, State.session_answer hg r, hC⟩, hf⟩

/-! ### A request that is taken up -/

theorem State.TakesReq.session {s : State} {q : Req} {x : Session} (h : s.TakesReq q x) : s.session? q.who.sess = some x := by
  obtain ⟨-, -, -, htakes⟩ := h
  exact htakes.session

/-- A well-formed request to this device runs its body on the session that it names (R408, R463). -/
theorem route_taken {s : State} {q : Req} {x : Session} (h : s.TakesReq q x) (m : Msg)
    (act : Who → Session → State → Response × State) :
    route q m act s = (act q.who x s.traffic).2.answer q.who (act q.who x s.traffic).1 := by
  obtain ⟨hfmt, hext, htarget, htakes⟩ := h
  unfold route
  rw [htakes.serving, htakes.whole, hfmt, hext]
  simp [htarget, serve_taken htakes]

theorem State.TakesReq.begin {s : State} {q : Req} {x : Session} (h : s.TakesReq q x) (t : Nat) : (s.begin t).TakesReq q x := by
  obtain ⟨hfmt, hext, htarget, htakes⟩ := h
  exact ⟨hfmt, hext, htarget, htakes.begin t⟩

theorem only_taken (s : State) (t : Nat) (P : List Part) (K : List Nat) : Only s (s.begin t).traffic (.access :: .power :: .bridge :: P) K :=
  (Only.start t s _ _).one (only_traffic _) (by simp)

theorem only_asked (s : State) (t : Nat) (who : Who) (i j : Nat) (r : ObjRow) (P : List Part) (K : List Nat) :
    Only s (s.asked t who i j r) (.access :: .power :: .bridge :: P) K :=
  (only_taken s t P K).one (only_touch ..) (by simp)

@[simp] theorem State.asked_n (s : State) (t : Nat) (who : Who) (i j : Nat) (r : ObjRow) (k : Nat) : (s.asked t who i j r).n k = s.n k :=
  (only_asked s t who i j r [] []).n_all k

theorem State.touch_now (s : State) (n m : Nat) (b : Bool) : (s.touch n m b).now = s.now := by
  unfold State.touch
  split
  · rfl
  · exact State.updSession_now ..

theorem State.asked_now (s : State) (t : Nat) (who : Who) (i j : Nat) (r : ObjRow) : (s.asked t who i j r).now = s.localAt t :=
  State.touch_now ..

theorem State.TakesReq.asked_session {s : State} {q : Req} {x : Session} (h : s.TakesReq q x) (t i j : Nat) (r : ObjRow) :
    ∃ y, (s.asked t q.who i j r).session? q.who.sess = some y ∧ y.selectors = x.selectors ∧ y.txn = x.txn ∧ y.txnBytes = x.txnBytes :=
  State.touch_session (s := (s.begin t).traffic) h.session ..

/-- A request that answers out of the state in which its object is accessed changes nothing else. -/
theorem State.TakesReq.asked_answer {s : State} {q : Req} {x : Session} (h : s.TakesReq q x) (t i j : Nat) (r : ObjRow) (rsp : Response) :
    Out.response q.who rsp ∈ ((s.asked t q.who i j r).answer q.who rsp).out ∧
      Only s ((s.asked t q.who i j r).answer q.who rsp) [.access, .power, .bridge] [] := by
  obtain ⟨y, hy, -, -, -⟩ := h.asked_session t i j r
  exact State.answer_spec hy (only_asked ..) rsp

/-- A request that answers before its object is accessed changes nothing else. -/
theorem State.TakesReq.plain_answer {s : State} {q : Req} {x : Session} (h : s.TakesReq q x) (t : Nat) (rsp : Response) :
    Out.response q.who rsp ∈ (((s.begin t).traffic).answer q.who rsp).out ∧
      Only s (((s.begin t).traffic).answer q.who rsp) [.access, .power, .bridge] [] :=
  State.answer_spec (w := (s.begin t).traffic) h.session (only_taken ..) rsp

/-! ### Refusals for want of rights (R398) -/

theorem only_countDenial (s : State) (st : Status) : Only s (s.countDenial st) [] [O.accessDenials] := by
  unfold State.countDenial
  split
  · exact only_inc32 ..
  · exact Only.same ..

theorem State.countDenial_n (s : State) (st : Status) :
    (s.countDenial st).n O.accessDenials =
      if st = .accessDenied then satN (2 ^ 32 - 1) (s.n O.accessDenials + 1) else s.n O.accessDenials := by
  unfold State.countDenial
  split
  · exact State.inc32_self ..
  · rfl

/-- A request whose checks fail with `st` is answered `st`, and a denial is counted. -/
theorem State.TakesReq.denied {s : State} {q : Req} {x : Session} (h : s.TakesReq q x) (t : Nat) (st : Status) :
    (((s.begin t).traffic.countDenial st).answer q.who (Response.of st)).answered q.who st ∧
      (((s.begin t).traffic.countDenial st).answer q.who (Response.of st)).n O.accessDenials =
        (if st = .accessDenied then satN (2 ^ 32 - 1) (s.n O.accessDenials + 1) else s.n O.accessDenials) ∧
      Only s (((s.begin t).traffic.countDenial st).answer q.who (Response.of st)) [.access, .power, .bridge] [O.accessDenials] := by
  have hy : ((s.begin t).traffic.countDenial st).session? q.who.sess = some x :=
    ((only_countDenial ..).session_eq (by decide) _).trans h.session
  have hf := (only_taken s t [] [O.accessDenials]).obj (only_countDenial _ st) List.mem_cons_self
  obtain ⟨ho, hf⟩ := State.answer_spec hy hf (Response.of st)
  exact ⟨ho, by rw [State.answer_n, State.countDenial_n, State.traffic_n, State.begin_n], hf⟩

/-! ### The branches of a read -/

section Read

variable {s : State} {x : Session} {r : ObjRow} {st : Status} {sess i j off : Nat} {inForce snapshot : Bool}

theorem readFrag_denied (hc : s.readCheck x.rights i j = (st, none)) :
    readFrag sess i j off inForce snapshot x s = (Response.of st, s.countDenial st) := by
  unfold readFrag
  simp only [hc]

variable (hc : s.readCheck x.rights i j = (st, some r))
include hc

/-- Past its beginning a read needs a live snapshot of the same object. -/
theorem readFrag_outOfSequence (ho : off ≠ 0)
    (hn : ∀ b w, x.snap = some (mux i j, b, w) → r.isDomain = true → s.now - w < 10000000000 → off < b.length → False) :
    readFrag sess i j off inForce snapshot x s = (Response.of .outOfSequence, s.touch sess (mux i j) r.isSelector) := by
  unfold readFrag
  simp only [hc, if_pos ho, State.touch_now]
  split
  · rename_i k b w hsnap
    rw [if_neg]
    rintro ⟨hd, rfl, hw, hb⟩
    exact hn b w hsnap hd hw hb
  · rfl

theorem readFrag_next {b : Bytes} {w : Nat} (ho : off ≠ 0) (hsnap : x.snap = some (mux i j, b, w)) (hd : r.isDomain = true)
    (hw : s.now - w < 10000000000) (hb : off < b.length) :
    readFrag sess i j off inForce snapshot x s = (⟨.ok, slice b off 1024, decide (b.length ≤ off + 1024)⟩,
      (s.touch sess (mux i j) r.isSelector).updSession sess
        (fun y => { y with snap := if b.length ≤ off + 1024 then none else some (mux i j, b, w) })) := by
  unfold readFrag
  simp only [hc, if_pos ho, State.touch_now, hsnap, hd, hw, hb, and_self, if_true]

theorem readFrag_notSelected (hs : (s.touch sess (mux i j) r.isSelector).selectedOk x i j ≠ .ok) :
    readFrag sess i j 0 inForce snapshot x s =
      (Response.of ((s.touch sess (mux i j) r.isSelector).selectedOk x i j), s.touch sess (mux i j) r.isSelector) := by
  unfold readFrag
  simp only [hc, ne_eq, not_true_eq_false, if_false, if_pos hs]

variable (hs : (s.touch sess (mux i j) r.isSelector).selectedOk x i j = .ok)
include hs

theorem readFrag_poweredOff (hp : (s.touch sess (mux i j) r.isSelector).n O.powerState = 2 ∧ poweredOff r i j = true) :
    readFrag sess i j 0 inForce snapshot x s = (Response.of .deviceState, s.touch sess (mux i j) r.isSelector) := by
  unfold readFrag
  simp only [hc, hs, ne_eq, not_true_eq_false, if_false, if_pos hp]

/-- The value that a read at offset 0 finds, and the state with the snapshot that its transaction keeps (R444). -/
theorem readFrag_value (hp : ¬((s.touch sess (mux i j) r.isSelector).n O.powerState = 2 ∧ poweredOff r i j = true))
    (hcap : ¬(0x2138 ≤ i ∧ i ≤ 0x213F ∧ (j = 3 ∨ j = 4))) {a w : State} {b : Bytes} (ha : a = s.touch sess (mux i j) r.isSelector)
    (hb : a.readBytes sess x r inForce (if snapshot = true then some (a.snapFor sess x) else none) i j = b)
    (hw : w = if snapshot = true then a.keepSnap sess x (a.snapFor sess x) else a) :
    readFrag sess i j 0 inForce snapshot x s =
      if r.isDomain = true then (⟨.ok, slice b 0 1024, decide (b.length ≤ 1024)⟩,
        w.updSession sess (fun y => { y with snap := if b.length ≤ 1024 then none else some (mux i j, b, w.now) }))
      else (⟨.ok, b, true⟩, w) := by
  subst ha hb hw
  unfold readFrag
  simp only [hc, hs, ne_eq, not_true_eq_false, if_false, if_neg hp, if_neg hcap, Nat.zero_add]

end Read

theorem only_keepSnap (s : State) (n : Nat) (x : Session) (c : CounterSet) : Only s (s.keepSnap n x c) [.access] [] := by
  unfold State.keepSnap
  split
  · exact (Only.same s _ _).setAccess _ (by simp)
  · exact Only.same ..

theorem State.keepSnap_session (s : State) (n m : Nat) (x : Session) (c : CounterSet) :
    (s.keepSnap n x c).session? m = s.session? m := by
  unfold State.keepSnap
  split <;> rfl

theorem State.keepSnap_now (s : State) (n : Nat) (x : Session) (c : CounterSet) : (s.keepSnap n x c).now = s.now := by
  unfold State.keepSnap
  split <;> rfl

/-! ### The effect of READ -/

section ReadEffect

variable {s : State} {q : Req} {x : Session} (h : s.TakesReq q x) {t i j off : Nat} {r : ObjRow} {st : Status}
include h

theorem runs_read {rsp : Response} {w : State} {C : State → Prop}
    (e : readFrag q.who.sess i j off q.inForce q.snapshot x (s.begin t).traffic = (rsp, w)) (hC : C (w.answer q.who rsp)) :
    Runs (.read t q i j off) s C := by
  refine Runs.intro (u := w.answer q.who rsp) ?_ hC
  show Host.Outcome.next _ = _
  rw [route_taken (h.begin t), e]

theorem read_denied (hc : s.readCheck x.rights i j = (st, none)) :
    Runs (.read t q i j off) s fun v => v.answered q.who st ∧
      v.n O.accessDenials = (if st = .accessDenied then satN (2 ^ 32 - 1) (s.n O.accessDenials + 1) else s.n O.accessDenials) ∧
      Only s v [.access, .power, .bridge] [O.accessDenials] :=
  runs_read h (readFrag_denied hc) (h.denied t st)

variable (hc : s.readCheck x.rights i j = (st, some r))
include hc

theorem read_outOfSequence (ho : off ≠ 0)
    (hn : ∀ b w, x.snap = some (mux i j, b, w) → r.isDomain = true → s.localAt t - w < 10000000000 → off < b.length → False) :
    Runs (.read t q i j off) s fun v => v.answered q.who .outOfSequence ∧ Only s v [.access, .power, .bridge] [] :=
  runs_read h (readFrag_outOfSequence hc ho hn) (h.asked_answer t i j r _)

theorem read_next {b : Bytes} {w : Nat} (ho : off ≠ 0) (hsnap : x.snap = some (mux i j, b, w)) (hd : r.isDomain = true)
    (hw : s.localAt t - w < 10000000000) (hb : off < b.length) :
    Runs (.read t q i j off) s fun v =>
      .response q.who ⟨.ok, slice b off 1024, decide (b.length ≤ off + 1024)⟩ ∈ v.out ∧
      (∃ y, v.session? q.who.sess = some y ∧ y.snap = if b.length ≤ off + 1024 then none else some (mux i j, b, w)) ∧
      Only s v [.access, .power, .bridge] [] := by
  obtain ⟨y, hy, -⟩ := h.asked_session t i j r
  exact runs_read h (readFrag_next (s := (s.begin t).traffic) hc ho hsnap hd hw hb)
    (State.update_spec hy (only_asked s t q.who i j r [] []) rfl)

theorem read_notSelected (ho : off = 0) (hs : (s.asked t q.who i j r).selectedOk x i j ≠ .ok) :
    Runs (.read t q i j off) s fun v =>
      v.answered q.who ((s.asked t q.who i j r).selectedOk x i j) ∧ Only s v [.access, .power, .bridge] [] := by
  subst ho
  exact runs_read h (readFrag_notSelected hc hs) (h.asked_answer t i j r _)

variable (ho : off = 0) (hs : (s.asked t q.who i j r).selectedOk x i j = .ok)
include ho hs

theorem read_poweredOff (hp : s.n O.powerState = 2 ∧ poweredOff r i j = true) :
    Runs (.read t q i j off) s fun v => v.answered q.who .deviceState ∧ Only s v [.access, .power, .bridge] [] := by
  subst ho
  rw [← State.asked_n s t q.who i j r] at hp
  exact runs_read h (readFrag_poweredOff hc hs hp) (h.asked_answer t i j r _)

variable (hp : ¬(s.n O.powerState = 2 ∧ poweredOff r i j = true)) (hcap : ¬(0x2138 ≤ i ∧ i ≤ 0x213F ∧ (j = 3 ∨ j = 4))) {b : Bytes}
  (hb : (s.asked t q.who i j r).readBytes q.who.sess x r q.inForce
    (if q.snapshot = true then some ((s.asked t q.who i j r).snapFor q.who.sess x) else none) i j = b)
include hp hcap hb

/-- What a read at offset 0 leaves before its answer: a state with the session open, at the command's time. -/
theorem readFrag_from_start : ∃ w y, w.session? q.who.sess = some y ∧ w.now = s.localAt t ∧ Only s w [.access, .power, .bridge] [] ∧
    readFrag q.who.sess i j off q.inForce q.snapshot x (s.begin t).traffic =
      if r.isDomain = true then (⟨.ok, slice b 0 1024, decide (b.length ≤ 1024)⟩,
        w.updSession q.who.sess (fun y => { y with snap := if b.length ≤ 1024 then none else some (mux i j, b, w.now) }))
      else (⟨.ok, b, true⟩, w) := by
  subst ho
  rw [← State.asked_n s t q.who i j r] at hp
  obtain ⟨y, hy, -⟩ := h.asked_session t i j r
  have hv := readFrag_value (s := (s.begin t).traffic) (sess := q.who.sess) hc hs hp hcap rfl hb rfl
  refine ⟨_, y, ?_, ?_, ?_, hv⟩
  · split
    · exact (State.keepSnap_session ..).trans hy
    · exact hy
  · split
    · exact (State.keepSnap_now ..).trans (State.asked_now ..)
    · exact State.asked_now ..
  · exact Only.ite ((only_asked s t q.who i j r [] []).one (only_keepSnap ..) (by simp)) (only_asked ..)

theorem read_integer (hd : r.isDomain = false) :
    Runs (.read t q i j off) s fun v => .response q.who ⟨.ok, b, true⟩ ∈ v.out ∧ Only s v [.access, .power, .bridge] [] := by
  obtain ⟨w, y, hy, -, hf, e⟩ := readFrag_from_start h hc ho hs hp hcap hb
  rw [if_neg (by simp [hd])] at e
  exact runs_read h e (State.answer_spec hy hf _)

theorem read_domain (hd : r.isDomain = true) :
    Runs (.read t q i j off) s fun v =>
      .response q.who ⟨.ok, slice b 0 1024, decide (b.length ≤ 1024)⟩ ∈ v.out ∧
      (∃ y, v.session? q.who.sess = some y ∧ y.snap = if b.length ≤ 1024 then none else some (mux i j, b, s.localAt t)) ∧
      Only s v [.access, .power, .bridge] [] := by
  obtain ⟨w, y, hy, hnow, hf, e⟩ := readFrag_from_start h hc ho hs hp hcap hb
  rw [if_pos hd, hnow] at e
  exact runs_read h e (State.update_spec hy hf rfl)

end ReadEffect
/-! ### The branches of a write -/

section Write

variable {s : State} {x : Session} {r : ObjRow} {st : Status} {who : Who} {i j off : Nat} {last : Bool} {b : Bytes}

theorem isDomain_of_intBytes {n : Nat} (h : r.ty.intBytes = some n) : r.isDomain = false := by
  unfold ObjRow.isDomain
  cases ht : r.ty <;> simp [ht, ObjTy.intBytes] at h ⊢

theorem writeFrag_denied (hc : s.writeCheck x.rights i j = (st, none)) :
    writeFrag who i j off last b x s = (Response.of st, s.countDenial st) := by
  unfold writeFrag
  simp only [hc]

section Granted

variable (hc : s.writeCheck x.rights i j = (st, some r))
include hc

theorem writeFrag_offset (hd : r.isDomain = false) (ho : off ≠ 0) :
    writeFrag who i j off last b x s = (Response.of .outOfSequence, s) := by
  unfold writeFrag
  simp only [hc, hd, Bool.not_false, if_true, if_pos ho]

theorem writeFrag_whole (hd : r.isDomain = false) : writeFrag who i j 0 last b x s = writeWhole who i j b x s := by
  unfold writeFrag
  simp only [hc, hd, Bool.not_false, if_true, ne_eq, not_true_eq_false, if_false]

/-- A fragment that does not continue what its session has collected. -/
theorem writeFrag_outOfTurn (hd : r.isDomain = true) (ho : off ≠ 0) (hn : ∀ p, x.pendWrite = some (mux i j, p) → p.length ≠ off) :
    writeFrag who i j off last b x s = (Response.of .outOfSequence,
      (s.touch who.sess (mux i j) r.isSelector).updSession who.sess (fun y => { y with pendWrite := none })) := by
  unfold writeFrag
  simp only [hc, hd, Bool.not_true, Bool.false_eq_true, if_false, if_neg ho]
  cases hx : x.pendWrite with
  | none => rfl
  | some e =>
    obtain ⟨k, p⟩ := e
    have hk : ¬(k = mux i j ∧ p.length = off) := fun ⟨hk, hl⟩ => hn p (hk ▸ hx) hl
    simp only [if_neg hk]

theorem writeFrag_collects {p : Bytes} (hd : r.isDomain = true)
    (hp : off = 0 ∧ p = [] ∨ off ≠ 0 ∧ x.pendWrite = some (mux i j, p) ∧ p.length = off) :
    writeFrag who i j off false b x s = (Response.of .ok,
      (s.touch who.sess (mux i j) r.isSelector).updSession who.sess (fun y => { y with pendWrite := some (mux i j, p ++ b) })) := by
  unfold writeFrag
  rcases hp with ⟨rfl, rfl⟩ | ⟨ho, hx, hl⟩
  · simp only [hc, hd, Bool.not_true, Bool.false_eq_true, if_false, if_true]
  · simp only [hc, hd, Bool.not_true, Bool.false_eq_true, if_false, if_neg ho, hx, hl, and_self, if_true]

variable (hs : (s.touch who.sess (mux i j) r.isSelector).selectedOk x i j = .ok)
include hs

theorem writeWhole_length {n : Nat} (ht : r.ty.intBytes = some n) (hl : b.length ≠ n) :
    writeWhole who i j b x s = (Response.of .length, s.touch who.sess (mux i j) r.isSelector) := by
  unfold writeWhole
  simp only [hc, hs, ne_eq, not_true_eq_false, if_false, ht, if_pos hl]

theorem writeWhole_plain {v : Int} (hv : plainInt who.sess i j r b v) :
    writeWhole who i j b x s = writeInt who.sess i j r v x (s.touch who.sess (mux i j) r.isSelector) := by
  obtain ⟨ht, hemergency, hrestore, hact, hdecode⟩ := hv
  unfold writeWhole
  simp only [hc, hs, ne_eq, not_true_eq_false, if_false, ht, if_neg hemergency, if_neg hrestore, hact, hdecode]

end Granted

/-! ### A whole integer -/

variable {sess : Nat} {v : Int}

theorem writeInt_outOfRange (hv : (r.rng.ok v && s.valueOk i j v.toNat && s.moreValueOk i j v.toNat) = false) :
    writeInt sess i j r v x s = (Response.of .outOfRange, s) := by
  unfold writeInt
  simp only [hv, Bool.not_false, if_true]

variable (hv : (r.rng.ok v && s.valueOk i j v.toNat && s.moreValueOk i j v.toNat) = true)
include hv

theorem writeInt_selector (hr : r.isSelector = true) :
    writeInt sess i j r v x s =
      (Response.of .ok, s.updSession sess (fun y => { y with selectors := ins y.selectors (objKey x i j) v })) := by
  unfold writeInt
  simp only [hv, hr, Bool.not_true, Bool.false_eq_true, if_false, if_true]

theorem writeInt_deviceState (hr : r.isSelector = false) (hw : s.writeStateOk i j = false) :
    writeInt sess i j r v x s = (Response.of .deviceState, s) := by
  unfold writeInt
  simp only [hv, hr, hw, Bool.not_true, Bool.not_false, Bool.false_eq_true, if_false, if_true]

variable (hr : r.isSelector = false) (hw : s.writeStateOk i j = true)
include hr hw

theorem writeInt_effect (hx : x.txn = none) :
    writeInt sess i j r v x s =
      (Response.of .ok, (s.dropOwnHeld sess (objKey x i j)).applyVal r.eff (objKey x i j) (.num v)) := by
  unfold writeInt
  simp only [hv, hr, hw, hx, Bool.not_true, Bool.false_eq_true, if_false, Option.isSome_none]

section Txn

variable {l : List (Nat × Val)} {y : Session} {n : Nat} (hx : x.txn = some l) (hy : s.session? sess = some y) (ht : r.ty.intBytes = some n)
  (hyt : y.txn = some l)
include hx hy ht hyt

/-- R413: what is never read back, the 65th write and the byte past 16 KiB do not join a transaction. -/
theorem writeInt_txnRefused (hf : r.acc.readRole = none ∨ 64 ≤ l.length ∨ 16384 < y.txnBytes + n) :
    writeInt sess i j r v x s = (Response.of .deviceState, s) := by
  unfold writeInt State.txnAdd
  simp only [hv, hr, hw, hx, hy, hyt, ht, Bool.not_true, Bool.false_eq_true, if_false, Option.isSome_some, if_true, Option.getD_some]
  rcases hf with hf | hf
  · rw [if_pos (by rw [hf]; rfl)]
  · rw [if_pos hf, ite_self]

theorem writeInt_txnJoins (ha : r.acc.readRole.isSome = true) (hl : l.length < 64) (hb : y.txnBytes + n ≤ 16384) :
    writeInt sess i j r v x s = (Response.of .ok, s.updSession sess
      (fun y => { y with txn := some (l ++ [(objKey x i j, .num v)]), txnBytes := y.txnBytes + n })) := by
  have hfull : ¬(64 ≤ l.length ∨ 16384 < y.txnBytes + n) := by omega
  have hread : r.acc.readRole.isNone = false := by
    rw [Option.isNone_eq_false_iff]
    exact ha
  unfold writeInt State.txnAdd
  simp only [hv, hr, hw, hx, hy, hyt, ht, hread, Bool.not_true, Bool.false_eq_true, if_false, Option.isSome_some, if_true,
    Option.getD_some, if_neg hfull]

end Txn

end Write
/-! ### What an effect leaves (R6, R410, R413) -/

theorem only_dropOwnHeld (s : State) (n k : Nat) : Only s (s.dropOwnHeld n k) [.held] [] := (Only.same s _ _).setHeld _ (by simp)

theorem only_mirrorVal (s : State) (k : Nat) (v : Val) : Only s (s.mirrorVal k v) [.pkg] [] := (Only.same s _ _).setPkg _ (by simp)

theorem only_applyVal_T (s : State) (k : Nat) (v : Val) : Only s (s.applyVal .T k v) [.held, .pkg] [] := by
  have hheld : Only s (s.holdT k v) [.held, .pkg] [] := (Only.same s _ _).one (only_holdT ..) (by simp)
  exact Only.ite (hheld.one (only_mirrorVal ..) (by simp)) hheld

theorem State.applyVal_T_held (s : State) (k : Nat) (v : Val) :
    (s.applyVal .T k v).held = s.held ++ [{ time := s.now, key := k, val := v }] := by
  unfold State.applyVal
  dsimp only
  split <;> rfl

theorem only_applyVal_C (s : State) (k : Nat) (v : Val) : Only s (s.applyVal .C k v) [.staged] [] :=
  (Only.same s _ _).setStaged _ (by simp)

theorem only_applyVal_S (s : State) (k : Nat) (v : Val) : Only s (s.applyVal .S k v) [.stored] [] :=
  (Only.same s _ _).setStored _ (by simp)

/-- An effect that neither waits nor has a layer of its own puts an integer in force. -/
theorem State.applyVal_inForce (s : State) {e : Effect} (hT : e ≠ .T) (hC : e ≠ .C) (hS : e ≠ .S) (k : Nat) (v : Int) :
    s.applyVal e k (.num v) = s.setO k v := by
  cases e with
  | T => exact absurd rfl hT
  | C => exact absurd rfl hC
  | S => exact absurd rfl hS
  | none => rfl
  | I => rfl

/-! ### The effect of WRITE -/

section WriteEffect

variable {s : State} {q : Req} {x : Session} (h : s.TakesReq q x) {t i j off : Nat} {last : Bool} {d : Bytes} {r : ObjRow} {st : Status}
include h

theorem write_tooLong (hl : 1024 < d.length) :
    Runs (.write t q i j off last d) s fun v => v.answered q.who .format ∧ Only s v [.access, .power, .bridge] [] := by
  refine Runs.intro (u := ((s.begin t).traffic).answer q.who (Response.of .format)) ?_ (h.plain_answer t _)
  show Host.Outcome.next _ = _
  rw [route_taken (h.begin t), if_pos hl]

variable (hl : d.length ≤ 1024)
include hl

theorem runs_write {rsp : Response} {w : State} {C : State → Prop}
    (e : writeFrag q.who i j off last d x (s.begin t).traffic = (rsp, w)) (hC : C (w.answer q.who rsp)) :
    Runs (.write t q i j off last d) s C := by
  refine Runs.intro (u := w.answer q.who rsp) ?_ hC
  show Host.Outcome.next _ = _
  rw [route_taken (h.begin t), if_neg (Nat.not_lt.mpr hl), e]

theorem write_denied (hc : s.writeCheck x.rights i j = (st, none)) :
    Runs (.write t q i j off last d) s fun v => v.answered q.who st ∧
      v.n O.accessDenials = (if st = .accessDenied then satN (2 ^ 32 - 1) (s.n O.accessDenials + 1) else s.n O.accessDenials) ∧
      Only s v [.access, .power, .bridge] [O.accessDenials] :=
  runs_write h hl (writeFrag_denied hc) (h.denied t st)

variable (hc : s.writeCheck x.rights i j = (st, some r))
include hc

theorem write_offset (hd : r.isDomain = false) (ho : off ≠ 0) :
    Runs (.write t q i j off last d) s fun v => v.answered q.who .outOfSequence ∧ Only s v [.access, .power, .bridge] [] :=
  runs_write h hl (writeFrag_offset hc hd ho) (h.plain_answer t _)

theorem write_outOfTurn (hd : r.isDomain = true) (ho : off ≠ 0) (hn : ∀ p, x.pendWrite = some (mux i j, p) → p.length ≠ off) :
    Runs (.write t q i j off last d) s fun v => v.answered q.who .outOfSequence ∧
      (∃ y, v.session? q.who.sess = some y ∧ y.pendWrite = none) ∧ Only s v [.access, .power, .bridge] [] := by
  obtain ⟨y, hy, -⟩ := h.asked_session t i j r
  exact runs_write h hl (writeFrag_outOfTurn (s := (s.begin t).traffic) hc hd ho hn)
    (State.update_spec hy (only_asked s t q.who i j r [] []) rfl)

theorem write_collects {p : Bytes} (hd : r.isDomain = true) (hlast : last = false)
    (hp : off = 0 ∧ p = [] ∨ off ≠ 0 ∧ x.pendWrite = some (mux i j, p) ∧ p.length = off) :
    Runs (.write t q i j off last d) s fun v => v.answered q.who .ok ∧
      (∃ y, v.session? q.who.sess = some y ∧ y.pendWrite = some (mux i j, p ++ d)) ∧ Only s v [.access, .power, .bridge] [] := by
  subst hlast
  obtain ⟨y, hy, -⟩ := h.asked_session t i j r
  exact runs_write h hl (writeFrag_collects (s := (s.begin t).traffic) hc hd hp)
    (State.update_spec hy (only_asked s t q.who i j r [] []) rfl)

variable (ho : off = 0) (hs : (s.asked t q.who i j r).selectedOk x i j = .ok)
include ho hs

theorem write_length {n : Nat} (ht : r.ty.intBytes = some n) (hn : d.length ≠ n) :
    Runs (.write t q i j off last d) s fun v => v.answered q.who .length ∧ Only s v [.access, .power, .bridge] [] := by
  subst ho
  have e := (writeFrag_whole (who := q.who) (last := last) (b := d) (s := (s.begin t).traffic) hc (isDomain_of_intBytes ht)).trans
    (writeWhole_length hc hs ht hn)
  exact runs_write h hl e (h.asked_answer t i j r _)

variable {v : Int} {k : Nat} (hp : plainInt q.who.sess i j r d v)
include hp

/-- A whole integer runs as `writeInt` in the state in which its object is accessed. -/
theorem runs_writeInt {rsp : Response} {w : State} {C : State → Prop}
    (e : writeInt q.who.sess i j r v x (s.asked t q.who i j r) = (rsp, w)) (hC : C (w.answer q.who rsp)) :
    Runs (.write t q i j off last d) s C := by
  subst ho
  refine runs_write h hl ?_ hC
  rw [writeFrag_whole (s := (s.begin t).traffic) hc (isDomain_of_intBytes hp.1), writeWhole_plain (s := (s.begin t).traffic) hc hs hp]
  exact e

theorem write_outOfRange
    (hv : (r.rng.ok v && (s.asked t q.who i j r).valueOk i j v.toNat && (s.asked t q.who i j r).moreValueOk i j v.toNat) = false) :
    Runs (.write t q i j off last d) s fun u => u.answered q.who .outOfRange ∧ Only s u [.access, .power, .bridge] [] :=
  runs_writeInt h hl hc ho hs hp (writeInt_outOfRange hv) (h.asked_answer t i j r _)

variable (hv : (r.rng.ok v && (s.asked t q.who i j r).valueOk i j v.toNat && (s.asked t q.who i j r).moreValueOk i j v.toNat) = true)
include hv

theorem write_selector (hk : k = objKey x i j) (hr : r.isSelector = true) :
    Runs (.write t q i j off last d) s fun u => u.answered q.who .ok ∧
      (∃ y, u.session? q.who.sess = some y ∧ y.selectors = ins x.selectors k v) ∧ Only s u [.access, .power, .bridge] [] := by
  subst hk
  obtain ⟨y, hy, hsel, -, -⟩ := h.asked_session t i j r
  refine runs_writeInt h hl hc ho hs hp (writeInt_selector hv hr) (State.update_spec hy (only_asked s t q.who i j r [] []) ?_)
  rw [hsel]

variable (hr : r.isSelector = false)
include hr

theorem write_deviceState (hw : (s.asked t q.who i j r).writeStateOk i j = false) :
    Runs (.write t q i j off last d) s fun u => u.answered q.who .deviceState ∧ Only s u [.access, .power, .bridge] [] :=
  runs_writeInt h hl hc ho hs hp (writeInt_deviceState hv hr hw) (h.asked_answer t i j r _)

variable (hw : (s.asked t q.who i j r).writeStateOk i j = true)
include hw

section InTxn

variable {l : List (Nat × Val)} (hx : x.txn = some l)
include hx

theorem write_txnRefused (hf : r.acc.readRole = none ∨ 64 ≤ l.length ∨ 16384 < x.txnBytes + d.length) :
    Runs (.write t q i j off last d) s fun u => u.answered q.who .deviceState ∧ Only s u [.access, .power, .bridge] [] := by
  obtain ⟨y, hy, -, htxn, hbytes⟩ := h.asked_session t i j r
  rw [← hbytes] at hf
  exact runs_writeInt h hl hc ho hs hp (writeInt_txnRefused hv hr hw hx hy hp.1 (htxn.trans hx) hf) (h.asked_answer t i j r _)

theorem write_txnJoins (hk : k = objKey x i j) (ha : r.acc.readRole.isSome = true) (hlen : l.length < 64)
    (hb : x.txnBytes + d.length ≤ 16384) :
    Runs (.write t q i j off last d) s fun u => u.answered q.who .ok ∧
      (∃ y, u.session? q.who.sess = some y ∧ y.txn = some (l ++ [(k, .num v)]) ∧ y.txnBytes = x.txnBytes + d.length) ∧
      Only s u [.access, .power, .bridge] [] := by
  subst hk
  obtain ⟨y, hy, -, htxn, hbytes⟩ := h.asked_session t i j r
  refine runs_writeInt h hl hc ho hs hp (writeInt_txnJoins hv hr hw hx hy hp.1 (htxn.trans hx) ha hlen (hbytes ▸ hb))
    (State.update_spec hy (only_asked s t q.who i j r [] []) ⟨rfl, ?_⟩)
  rw [hbytes]

end InTxn

variable (hk : k = objKey x i j) (hx : x.txn = none)
include hk hx

/-- Outside a transaction a checked integer takes its way from a state that holds nothing of its session's for the object. -/
theorem runs_writeInt_effect : ∃ w y, w.session? q.who.sess = some y ∧ w.now = s.localAt t ∧ w.held = s.othersHeld q.who.sess k ∧
    Only s w [.access, .power, .bridge, .held] [] ∧
    ∀ C : State → Prop, C ((w.applyVal r.eff k (.num v)).answer q.who (Response.of .ok)) → Runs (.write t q i j off last d) s C := by
  subst hk
  obtain ⟨y, hy, -, -, -⟩ := h.asked_session t i j r
  have hdrop := only_dropOwnHeld (s.asked t q.who i j r) q.who.sess (objKey x i j)
  have hheld : (s.asked t q.who i j r).held = s.held := (only_asked s t q.who i j r [] []).rest .held (by decide)
  refine ⟨(s.asked t q.who i j r).dropOwnHeld q.who.sess (objKey x i j), y, (hdrop.session_eq (by decide) _).trans hy,
    State.asked_now .., ?_, (only_asked ..).one hdrop (by simp), fun C hC =>
    runs_writeInt h hl hc ho hs hp (writeInt_effect hv hr hw hx) hC⟩
  unfold State.dropOwnHeld State.othersHeld
  rw [hheld]

theorem write_T (he : r.eff = .T) :
    Runs (.write t q i j off last d) s fun u => u.answered q.who .ok ∧
      u.held = s.othersHeld q.who.sess k ++ [{ time := s.localAt t, key := k, val := .num v }] ∧
      Only s u [.access, .power, .bridge, .held, .pkg] [] := by
  obtain ⟨w, y, hy, hnow, hheld, hf, hrun⟩ := runs_writeInt_effect h hl hc ho hs hp hv hr hw hk hx
  rw [he] at hrun
  have ha := only_applyVal_T w k (.num v)
  obtain ⟨hout, hfr⟩ := State.answer_spec (P := [.held, .pkg]) ((ha.session_eq (by decide) _).trans hy)
    ((hf.mono (by simp) (by simp)).two ha (by simp) (by simp)) (Response.of .ok)
  exact hrun _ ⟨hout, by rw [State.answer_held, State.applyVal_T_held, hheld, hnow], hfr⟩

theorem write_C (he : r.eff = .C) :
    Runs (.write t q i j off last d) s fun u => u.answered q.who .ok ∧ u.staged = s.staged.setVal k (.num v) ∧
      u.held = s.othersHeld q.who.sess k ∧ Only s u [.access, .power, .bridge, .held, .staged] [] := by
  obtain ⟨w, y, hy, -, hheld, hf, hrun⟩ := runs_writeInt_effect h hl hc ho hs hp hv hr hw hk hx
  rw [he] at hrun
  have ha := only_applyVal_C w k (.num v)
  have hstaged : w.staged = s.staged := hf.rest .staged (by decide)
  obtain ⟨hout, hfr⟩ := State.answer_spec (P := [.held, .staged]) ((ha.session_eq (by decide) _).trans hy)
    ((hf.mono (by simp) (by simp)).one ha (by simp)) (Response.of .ok)
  exact hrun _ ⟨hout, by rw [State.answer_staged, ← hstaged]; rfl, by rw [State.answer_held, ← hheld]; rfl, hfr⟩

theorem write_S (he : r.eff = .S) :
    Runs (.write t q i j off last d) s fun u => u.answered q.who .ok ∧ u.stored = s.stored.setVal k (.num v) ∧
      u.held = s.othersHeld q.who.sess k ∧ Only s u [.access, .power, .bridge, .held, .stored] [] := by
  obtain ⟨w, y, hy, -, hheld, hf, hrun⟩ := runs_writeInt_effect h hl hc ho hs hp hv hr hw hk hx
  rw [he] at hrun
  have ha := only_applyVal_S w k (.num v)
  have hstored : w.stored = s.stored := hf.rest .stored (by decide)
  obtain ⟨hout, hfr⟩ := State.answer_spec (P := [.held, .stored]) ((ha.session_eq (by decide) _).trans hy)
    ((hf.mono (by simp) (by simp)).one ha (by simp)) (Response.of .ok)
  exact hrun _ ⟨hout, by rw [State.answer_stored, ← hstored]; rfl, by rw [State.answer_held, ← hheld]; rfl, hfr⟩

theorem write_inForce (hT : r.eff ≠ .T) (hC : r.eff ≠ .C) (hS : r.eff ≠ .S) :
    Runs (.write t q i j off last d) s fun u => u.answered q.who .ok ∧ u.o k = v ∧ u.held = s.othersHeld q.who.sess k ∧
      Only s u [.access, .power, .bridge, .held] [k] := by
  obtain ⟨w, y, hy, -, hheld, hf, hrun⟩ := runs_writeInt_effect h hl hc ho hs hp hv hr hw hk hx
  rw [State.applyVal_inForce w hT hC hS] at hrun
  have ha := only_setO w k v
  obtain ⟨hout, hfr⟩ := State.answer_spec (P := [.held]) (K := [k]) ((ha.session_eq (by decide) _).trans hy)
    ((hf.mono (by simp) (by simp)).obj ha (by simp)) (Response.of .ok)
  exact hrun _ ⟨hout, by rw [State.answer_o, State.setO_self], by rw [State.answer_held, State.setO_held, hheld], hfr⟩

end WriteEffect

end Sys2Proof.Machine

open Sys2Proof Sys2Proof.Machine

/-- Settles O43, branch by branch of a fragment read and of a fragment written. -/
theorem readsAndWrites : Obligations.ReadsAndWrites := by
  constructor
  · intro s t i j off q x h
    exact ⟨fun st hc => read_denied h hc, fun st r hc =>
      ⟨read_outOfSequence h hc, fun b w ho => read_next h hc ho, read_notSelected h hc, read_poweredOff h hc,
        fun b ho hs hp hcap hb => ⟨read_integer h hc ho hs hp hcap hb, read_domain h hc ho hs hp hcap hb⟩⟩⟩
  · intro s t i j off last d q x h
    refine ⟨write_tooLong h, fun st hl => write_denied h hl, fun st r hl hc =>
      ⟨write_offset h hl hc, write_outOfTurn h hl hc, fun p => write_collects h hl hc,
        fun n ho ht hs => write_length h hl hc ho hs ht, fun v k ho hp hs hk =>
        ⟨write_outOfRange h hl hc ho hs hp, fun hv =>
          ⟨write_selector h hl hc ho hs hp hv hk, write_deviceState h hl hc ho hs hp hv,
            fun l hr hw hx => ⟨write_txnRefused h hl hc ho hs hp hv hr hw hx, write_txnJoins h hl hc ho hs hp hv hr hw hx hk⟩,
            fun hr hw hx => ?_⟩⟩⟩⟩
    exact ⟨write_T h hl hc ho hs hp hv hr hw hk hx, write_C h hl hc ho hs hp hv hr hw hk hx,
      write_S h hl hc ho hs hp hv hr hw hk hx, write_inForce h hl hc ho hs hp hv hr hw hk hx⟩
end

section
/-! Proofs about the tick regimes (R39 to R45): what the end of a hold, first lock, holdover, a re-align request and a stretch tick
leave. -/
namespace Sys2Proof.Machine
open Sys2Proof

/-- The arrival of a command widens no frame. -/
theorem Only.begin {s u : State} {t : Nat} {P : List Part} {K : List Nat} (h : Only (s.begin t) u P K) : Only s u P K :=
  h.and (Only.start t s P K) (fun _ hp => hp) (fun _ hk => hk)

theorem Within.mono {s u : State} {P Q : List Part} (h : Within s u P) (hp : P ⊆ Q) : Within s u Q :=
  ⟨h.variant, h.queue, fun p hb hq => h.rest p hb fun m => hq (hp m)⟩

theorem tick_of_core {R : Nat} {s u : State} (h : u.core R = s.core R) (hR : R.testBit 7 = false) : u.tick = s.tick := by
  simpa only [State.core, hR, Bool.false_eq_true, if_false] using congrArg State.tick h

theorem plan_of_core {R : Nat} {s u : State} (h : u.core R = s.core R) (hR : R.testBit 8 = false) : u.plan = s.plan := by
  simpa only [State.core, hR, Bool.false_eq_true, if_false] using congrArg State.plan h

theorem now_of_core {R : Nat} {s u : State} (h : u.core R = s.core R) (hR : R.testBit 22 = false) : u.now = s.now := by
  simpa only [State.core, hR, Bool.false_eq_true, if_false] using congrArg State.now h

theorem State.setFlag_other (s : State) (k i j : Nat) (b : Bool) (h : j ≠ k) (hn : k ≠ O.nodeID) : (s.setFlag k i b).n j = s.n j :=
  State.setN_other s k j _ h hn

/-! ### The lock hold timeout, first lock and holdover (R41, R42, R45) -/

theorem lockHoldTimeout_expired {s : State} (hs : s.tickState = tickHOLD) (hst : s.tick.stretch = none) (h0 : s.n O.lockHoldTimeout ≠ 0)
    (he : s.n O.lockHoldTimeout * 1000000 ≤ s.now - s.tick.holdSince) :
    lockHoldTimeout s = (s.setN O.tickState tickFREERUN).setFlag O.tickFlags tfFREERUNSCHED true := if_pos ⟨hs, hst, h0, he⟩

theorem lockHoldTimeout_runs {s : State} {t : Nat} (hs : s.tickState = tickHOLD) (hst : s.tick.stretch = none)
    (h0 : s.n O.lockHoldTimeout ≠ 0) (he : s.n O.lockHoldTimeout * 1000000 ≤ s.localAt t - s.tick.holdSince) :
    Runs (.lockHoldTimeout t) s fun u => u.tickState = tickFREERUN ∧
      u.n O.tickFlags = setBit (s.n O.tickFlags) tfFREERUNSCHED true ∧ Only s u [] [O.tickState, O.tickFlags] := by
  refine .intro (congrArg Host.Outcome.next (lockHoldTimeout_expired (s := s.begin t) hs hst h0 he)) ⟨?_, ?_, ?_⟩
  · rw [State.tickState_def, State.setFlag_other _ _ _ _ _ (by decide) (by decide), State.setN_self]
  · rw [State.setFlag_self, State.setN_other _ _ _ _ (by decide) (by decide), State.begin_n]
  · exact ((Only.start t s _ _).obj (only_setN ..) (by decide)).obj (only_setFlag ..) (by decide)

theorem lockDeclared_unlocked {s : State} (h : s.flag O.tickFlags tfUNLOCKED = true) :
    lockDeclared s = { s.setFlag O.tickFlags tfUNLOCKED false with tick := { s.tick with lockPending := true } } := if_pos h

theorem lockDeclared_stretch {s : State} (h : s.flag O.tickFlags tfUNLOCKED = false) (hst : s.tick.stretch.isSome = true) :
    lockDeclared s = { s with tick := { s.tick with lost := false } } := by
  unfold lockDeclared
  rw [h, hst]
  rfl

theorem lockDeclared_holdover {s : State} (h : s.flag O.tickFlags tfUNLOCKED = false) (hst : s.tick.stretch = none)
    (hs : s.tickState = tickHOLDOVER) :
    lockDeclared s = ((s.setN O.tickState tickLOCKED).setFlag O.tickFlags tfHOLDOVER false).logLead Ev.holdover 0xFFFF [(1, 0), (1, 1)] := by
  unfold lockDeclared
  rw [h, hst, if_pos hs]
  rfl

theorem firstLock_unlocked {s : State} {t : Nat} (h : s.flag O.tickFlags tfUNLOCKED = true) :
    Runs (.firstLock t) s fun u => u.n O.tickFlags = setBit (s.n O.tickFlags) tfUNLOCKED false ∧
      u.tick = { s.tick with lockPending := true } ∧ Only s u [.tick] [O.tickFlags] :=
  .intro (congrArg Host.Outcome.next (lockDeclared_unlocked (s := s.begin t) h))
    ⟨State.setFlag_self .., rfl, ((Only.start t s _ _).obj (only_setFlag ..) (by decide)).setTick _ (by decide)⟩

theorem firstLock_stretch {s : State} {t : Nat} (h : s.flag O.tickFlags tfUNLOCKED = false) (hst : s.tick.stretch.isSome = true) :
    Runs (.firstLock t) s fun u => u.tick = { s.tick with lost := false } ∧ Only s u [.tick] [] :=
  .intro (congrArg Host.Outcome.next (lockDeclared_stretch (s := s.begin t) h hst)) ⟨rfl, (Only.start t s _ _).setTick _ (by decide)⟩

/-- A change of the tick state with a flag, logged by the lead: what lock after holdover and holdover after lock share. -/
theorem regimeChange_spec (s : State) (t st i : Nat) (b : Bool) (ev : Ev) (unit : Nat) (data : List (Nat × Nat)) {u : State}
    (hu : u = (((s.begin t).setN O.tickState st).setFlag O.tickFlags i b).logLead ev unit data) :
    u.tickState = st ∧ u.n O.tickFlags = setBit (s.n O.tickFlags) i b ∧ Only s u [.logs] [O.tickState, O.tickFlags] := by
  subst hu
  refine ⟨?_, ?_, ?_⟩
  · rw [State.tickState_def, State.logLead_n, State.setFlag_other _ _ _ _ _ (by decide) (by decide), State.setN_self]
  · rw [State.logLead_n, State.setFlag_self, State.setN_other _ _ _ _ (by decide) (by decide), State.begin_n]
  · exact (((Only.start t s _ _).obj (only_setN ..) (by decide)).obj (only_setFlag ..) (by decide)).one (only_logLead ..) (by decide)

theorem firstLock_holdover {s : State} {t : Nat} (h : s.flag O.tickFlags tfUNLOCKED = false) (hst : s.tick.stretch = none)
    (hs : s.tickState = tickHOLDOVER) :
    Runs (.firstLock t) s fun u => u.tickState = tickLOCKED ∧ u.n O.tickFlags = setBit (s.n O.tickFlags) tfHOLDOVER false ∧
      Only s u [.logs] [O.tickState, O.tickFlags] :=
  .intro (congrArg Host.Outcome.next (lockDeclared_holdover (s := s.begin t) h hst hs)) (regimeChange_spec s t _ _ _ _ _ _ rfl)

theorem tickHoldover_locked {s : State} (h : s.tickState = tickLOCKED) :
    tickHoldover s = ((s.setN O.tickState tickHOLDOVER).setFlag O.tickFlags tfHOLDOVER true).logLead Ev.holdover 0xFFFF [(1, 0), (1, 0)] :=
  if_pos h

theorem holdover_locked {s : State} {t : Nat} (h : s.tickState = tickLOCKED) :
    Runs (.holdover t) s fun u => u.tickState = tickHOLDOVER ∧ u.n O.tickFlags = setBit (s.n O.tickFlags) tfHOLDOVER true ∧
      Only s u [.logs] [O.tickState, O.tickFlags] :=
  .intro (congrArg Host.Outcome.next (tickHoldover_locked (s := s.begin t) h)) (regimeChange_spec s t _ _ _ _ _ _ rfl)

/-- In a stretch tick the loss is noted, and noted once. -/
theorem tickHoldover_stretch {s : State} (h : s.tickState ≠ tickLOCKED) (hst : s.tick.stretch.isSome = true) :
    (tickHoldover s).tick = { s.tick with lost := true } ∧ Only s (tickHoldover s) [.tick, .logs] [] := by
  unfold tickHoldover
  rw [if_neg h]
  cases hl : s.tick.lost with
  | false =>
    rw [if_pos ⟨hst, rfl⟩]
    exact ⟨State.logLead_tick .., ((Only.same s _ _).setTick _ (by decide)).one (only_logLead ..) (by decide)⟩
  | true =>
    rw [if_neg (by simp)]
    exact ⟨by rw [← hl], Only.same s _ _⟩

theorem holdover_stretch {s : State} {t : Nat} (h : s.tickState ≠ tickLOCKED) (hst : s.tick.stretch.isSome = true) :
    Runs (.holdover t) s fun u => u.tick = { s.tick with lost := true } ∧ Only s u [.tick, .logs] [] :=
  have hu := tickHoldover_stretch (s := s.begin t) h hst
  .intro rfl ⟨hu.1, hu.2.begin⟩

/-! ### A stretch tick starts (R40, R42 to R44) -/

theorem State.loseScheduled_tick (s : State) : s.loseScheduled.tick = s.tick := tick_of_core (State.loseScheduled_core (R := 512) rfl s) rfl

theorem State.loseScheduled_now (s : State) : s.loseScheduled.now = s.now := now_of_core (State.loseScheduled_core (R := 512) rfl s) rfl

theorem State.enterHold_plan (s : State) : s.enterHold.plan = s.plan := plan_of_core (State.enterHold_core (R := 640) rfl s) rfl

theorem State.enterHold_now (s : State) : s.enterHold.now = s.now := now_of_core (State.enterHold_core (R := 640) rfl s) rfl

theorem State.enterHold_tick (s : State) : s.enterHold.tick = { s.tick with holdSince := s.now } := by
  rw [← s.loseScheduled_tick, ← s.loseScheduled_now]
  rfl

/-- The objects of a hold: those of the loss of the waiting frames with the state and its flags. -/
theorem State.enterHold_n (s : State) (k : Nat) :
    s.enterHold.n k = (((s.loseScheduled.setN O.tickState tickHOLD).setFlag O.tickFlags tfHELD true).setFlag O.tickFlags tfHOLDOVER false).n k :=
  rfl

theorem State.enterHold_tickState (s : State) : s.enterHold.n O.tickState = tickHOLD := by
  rw [State.enterHold_n, State.setFlag_other _ _ _ _ _ (by decide) (by decide), State.setFlag_other _ _ _ _ _ (by decide) (by decide),
    State.setN_self]

theorem State.enterHold_held (s : State) : bit (s.enterHold.n O.tickFlags) tfHELD = true := by
  rw [State.enterHold_n, State.setFlag_self, bit_setBit_ne _ _ _ _ (by decide), State.setFlag_self, bit_setBit_self]

theorem look_mapVals {α : Type} (f : α → α) (m : SMap α) (k : Nat) : look (mapVals f m) k = (look m k).map f := by
  induction m with
  | nil => rfl
  | cons e m ih =>
    obtain ⟨a, b⟩ := e
    unfold mapVals at ih ⊢
    rw [List.map_cons, look, look, ih]
    split <;> rfl

/-- In a hold no list runs, and every gate but the Scheduled one stands open (R40). -/
theorem State.enterHold_lane {s : State} {n : Nat} {l : LaneSt} (h : look s.enterHold.lanes n = some l) :
    l.gateRunning = false ∧ l.gateStates = 0x7F := by
  unfold State.enterHold State.stopLists at h
  dsimp only at h
  rw [look_mapVals, Option.map_eq_some_iff] at h
  obtain ⟨_, _, rfl⟩ := h
  exact ⟨rfl, rfl⟩

/-- One waiting plan moved behind the tick `a.2` and the plans before it (R44). -/
def moveOne (a : List Plan × Nat) (p : Plan) : List Plan × Nat :=
  (a.1 ++ [{ p with switchTick := max p.switchTick a.2 }], max p.switchTick a.2 + 1)

theorem moveOne_from {e : Nat} {a : List Plan × Nat} (h : ∀ p ∈ a.1, e ≤ p.switchTick) (he : e ≤ a.2) (l : List Plan) :
    ∀ p ∈ (l.foldl moveOne a).1, e ≤ p.switchTick := by
  induction l generalizing a with
  | nil => exact h
  | cons q l ih =>
    have hq : e ≤ max q.switchTick a.2 := Nat.le_trans he (Nat.le_max_right ..)
    refine ih (fun p hp => ?_) (Nat.le_succ_of_le hq)
    rw [moveOne, List.mem_append, List.mem_singleton] at hp
    rcases hp with hp | rfl
    · exact h p hp
    · exact hq

/-- The announced switch ticks follow a plan that has moved. -/
def State.announceMoved (s : State) (p : Plan) : State :=
  let s := if s.n O.newGeneration = p.gen then s.setN O.switchTick p.switchTick else s
  if s.n O.pendingGeneration = p.gen then s.setN O.pendingSwitchTick p.switchTick else s

theorem State.moveSwitches_eq (s : State) (e : Nat) :
    s.moveSwitches e = ((s.plan.pending.foldl moveOne ([], e)).1).foldl State.announceMoved
      { s with plan := { s.plan with pending := (s.plan.pending.foldl moveOne ([], e)).1 } } := rfl

theorem only_announceMoved (s : State) (p : Plan) : Only s (s.announceMoved p) [] [O.switchTick, O.pendingSwitchTick] := by
  have h : Only s (if s.n O.newGeneration = p.gen then s.setN O.switchTick p.switchTick else s) [] [O.switchTick, O.pendingSwitchTick] :=
    .ite ((only_setN ..).mono (by simp) (by simp)) (.same ..)
  exact .ite (h.obj (only_setN ..) (by decide)) h

theorem only_announceAll (s : State) (l : List Plan) :
    Only s (l.foldl State.announceMoved s) [] [O.switchTick, O.pendingSwitchTick] :=
  Only.foldl _ _ (.same ..) fun w p _ h => (only_announceMoved w p).and h (by simp) (fun _ hk => hk)

theorem State.moveSwitches_plan (s : State) (e : Nat) :
    (s.moveSwitches e).plan = { s.plan with pending := (s.plan.pending.foldl moveOne ([], e)).1 } := by
  rw [State.moveSwitches_eq]
  exact (only_announceAll ..).rest .plan (by decide)

theorem only_moveSwitches (s : State) (e : Nat) : Only s (s.moveSwitches e) [.plan] [O.switchTick, O.pendingSwitchTick] := by
  rw [State.moveSwitches_eq]
  exact (only_announceAll ..).and ((Only.same s _ _).setPlan _ (by decide)) (by simp) (fun _ hk => hk)

/-- After a move every waiting plan switches at the tick `e` or later. -/
theorem State.moveSwitches_pending (s : State) (e : Nat) : ∀ p ∈ (s.moveSwitches e).plan.pending, e ≤ p.switchTick := by
  rw [State.moveSwitches_plan]
  exact moveOne_from (by simp) (Nat.le_refl e) _

/-- The hold of a stretch tick: imposed, and marked as a step taken where a lock waits for it. -/
def State.stretchHold (s : State) : State :=
  let h := s.enterHold
  if h.tick.lockPending then h.setFlag O.tickFlags tfSTEPTAKEN true else h

/-- A stretch tick that ends at `e` has begun: its hold is imposed and its number given; the switches that it passes have not moved. -/
def State.stretched (s : State) (e : Nat) : State :=
  let m := s.stretchHold
  (({ m with tick := { m.tick with stretch := some e, lockPending := false, again := false, lost := s.tickState == tickHOLDOVER,
                                   start := m.now } }).setN O.tickNumber (e - 1)).setN O.lastStretchTick (e - 1)

theorem startStretch_due {s : State} (h : s.stepDue = true) (g : Nat) :
    startStretch g s = ((s.stretched (stretchEnd g s.period)).moveSwitches (stretchEnd g s.period)).logLead Ev.tickStep 0xFFFF [(8, s.tickNo)] :=
  if_pos h

/-- The mark of a step taken touches nothing of a hold but that flag. -/
theorem only_stretchHold (s : State) : Only s.enterHold s.stretchHold [] [O.tickFlags] :=
  .ite (only_setFlag ..) (.same ..)

theorem State.stretchHold_now (s : State) : s.stretchHold.now = s.now := by
  rw [← s.enterHold_now]
  exact (apply_ite State.now ..).trans (ite_self _)

theorem State.stretchHold_held (s : State) : bit (s.stretchHold.n O.tickFlags) tfHELD = true := by
  unfold State.stretchHold
  dsimp only
  split
  · rw [State.setFlag_self, bit_setBit_ne _ _ _ _ (by decide), State.enterHold_held]
  · exact s.enterHold_held

/-- What has begun is the hold with the stretch tick's own record and its number. -/
theorem State.stretched_n (s : State) (e : Nat) {k : Nat} (h : k ≠ O.tickNumber) (h' : k ≠ O.lastStretchTick) :
    (s.stretched e).n k = s.stretchHold.n k := by
  unfold State.stretched
  rw [State.setN_other _ _ _ _ h' (by decide), State.setN_other _ _ _ _ h (by decide)]
  rfl

theorem State.stretched_tickNumber (s : State) (e : Nat) : (s.stretched e).n O.tickNumber = e - 1 := by
  unfold State.stretched
  rw [State.setN_other _ _ _ _ (by decide) (by decide), State.setN_self]

theorem State.stretched_plan (s : State) (e : Nat) : (s.stretched e).plan = s.plan :=
  ((only_stretchHold s).rest .plan (by decide)).trans s.enterHold_plan

theorem State.stretched_lanes (s : State) (e : Nat) : (s.stretched e).lanes = s.enterHold.lanes := (only_stretchHold s).rest .lanes (by decide)

/-- The switches move and the step is logged: beside those only what has begun is left. -/
theorem only_startStretch {s : State} (h : s.stepDue = true) {g e : Nat} (he : e = stretchEnd g s.period) :
    Only (s.stretched e) (startStretch g s) [.plan, .logs] [O.switchTick, O.pendingSwitchTick] := by
  rw [startStretch_due h, ← he]
  exact ((only_moveSwitches ..).mono (by decide) (fun _ hk => hk)).one (only_logLead ..) (by decide)

theorem startStretch_plan {s : State} (h : s.stepDue = true) {g e : Nat} (he : e = stretchEnd g s.period) :
    (startStretch g s).plan.active = s.plan.active ∧ ∀ p ∈ (startStretch g s).plan.pending, e ≤ p.switchTick := by
  rw [startStretch_due h, ← he, State.logLead_plan]
  exact ⟨by rw [State.moveSwitches_plan, State.stretched_plan], State.moveSwitches_pending _ _⟩

theorem stretchTickStart_runs {s : State} {t g e : Nat} (h : s.stepDue = true) (he : e = stretchEnd g s.period) :
    Runs (.stretchTickStart t g) s fun u => u.tick.stretch = some e ∧ u.tick.start = s.localAt t ∧ u.tick.lockPending = false ∧
      u.tickNo = e - 1 ∧ u.n O.lastStretchTick = e - 1 ∧ u.tickState = tickHOLD ∧ bit (u.n O.tickFlags) tfHELD = true ∧
      (∀ n l, look u.lanes n = some l → l.gateRunning = false ∧ l.gateStates = 0x7F) ∧ (∀ p ∈ u.plan.pending, e ≤ p.switchTick) ∧
      u.plan.active = s.plan.active ∧ Within s u [.tick, .plan, .lanes, .logs] := by
  have hd : (s.begin t).stepDue = true := h
  have hf := only_startStretch hd he
  have htick : (startStretch g (s.begin t)).tick = ((s.begin t).stretched e).tick := hf.rest .tick (by decide)
  have hlanes : (startStretch g (s.begin t)).lanes = (s.begin t).enterHold.lanes :=
    Eq.trans (hf.rest .lanes (by decide)) (State.stretched_lanes ..)
  obtain ⟨hactive, hpending⟩ := startStretch_plan hd he
  refine .intro rfl ⟨?_, ?_, ?_, ?_, ?_, ?_, ?_, ?_, hpending, hactive, ?_⟩
  · rw [htick]
    rfl
  · rw [htick]
    exact State.stretchHold_now _
  · rw [htick]
    rfl
  · rw [State.tickNo_def, hf.n_eq (by decide) (by decide), State.stretched_tickNumber]
  · rw [hf.n_eq (by decide) (by decide)]
    exact State.setN_self ..
  · rw [State.tickState_def, hf.n_eq (by decide) (by decide), State.stretched_n _ _ (by decide) (by decide),
      (only_stretchHold _).n_eq (by decide) (by decide), State.enterHold_tickState]
  · rw [hf.n_eq (by decide) (by decide), State.stretched_n _ _ (by decide) (by decide), State.stretchHold_held]
  · intro n l hl
    rw [hlanes] at hl
    exact State.enterHold_lane hl
  · exact (exec_within (.stretchTickStart t g) s _ rfl).mono (by simp [partsOf])

/-! ### A stretch tick ends (R42, R44, R45) -/

theorem State.setPhaseError_zero (s : State) : s.setPhaseError 0 = (s.setO O.tickPhaseError 0).setFlag O.tickFlags tfPHASEERROR false := rfl

theorem endStretch_ends {s : State} {e : Nat} (h : s.tick.stretch = some e) :
    endStretch s = ((((((({ s with tick := { s.tick with stretch := none, again := false, lost := false, start := s.now } }).setN
      O.tickNumber e).setN O.tickState (if s.tick.lost then tickHOLDOVER else tickLOCKED)).setFlag O.tickFlags tfFREERUNSCHED false).setFlag
      O.tickFlags tfREALIGN s.tick.again).setFlag O.tickFlags tfHOLDOVER s.tick.lost).setPhaseError 0) := by
  unfold endStretch
  rw [h]

theorem stretchTickEnd_runs {s : State} {t e : Nat} (h : s.tick.stretch = some e) :
    Runs (.stretchTickEnd t) s fun u => u.tickNo = e ∧ u.tickState = (if s.tick.lost then tickHOLDOVER else tickLOCKED) ∧
      u.o O.tickPhaseError = 0 ∧
      u.n O.tickFlags = setBit (setBit (setBit (setBit (s.n O.tickFlags) tfFREERUNSCHED false) tfREALIGN s.tick.again) tfHOLDOVER
        s.tick.lost) tfPHASEERROR false ∧
      u.tick = { s.tick with stretch := none, again := false, lost := false, start := s.localAt t } ∧
      Only s u [.tick] [O.tickNumber, O.tickState, O.tickFlags, O.tickPhaseError] := by
  refine .intro (congrArg Host.Outcome.next (endStretch_ends (s := s.begin t) h)) ?_
  rw [State.setPhaseError_zero]
  refine ⟨?_, ?_, ?_, ?_, rfl, ?_⟩
  · rw [State.tickNo_def]
    simp (disch := decide) only [State.setFlag_other, State.setO_n, State.setN_other, State.setN_self]
  · rw [State.tickState_def]
    simp (disch := decide) only [State.setFlag_other, State.setO_n, State.setN_self, State.begin_tick]
    rfl
  · rw [(only_setFlag ..).o_eq (by decide) (by decide), State.setO_self]
  · simp (disch := decide) only [State.setFlag_self, State.setO_n, State.setN_other, State.begin_tick]
    rfl
  · exact ((((((((Only.start t s _ _).setTick _ (by decide)).obj (only_setN ..) (by decide)).obj (only_setN ..) (by decide)).obj
      (only_setFlag ..) (by decide)).obj (only_setFlag ..) (by decide)).obj (only_setFlag ..) (by decide)).obj (only_setO ..)
      (by decide)).obj (only_setFlag ..) (by decide)

/-! ### A re-align request (R44) -/

theorem reAlignTick_runs {s : State} {t : Nat} {who : Who} {x : Session} (h : s.MayWrite who x 0x2100 7 1) :
    Runs (.reAlignTick t who) s fun u => u.n O.tickFlags = setBit (s.n O.tickFlags) tfREALIGN true ∧
      u.tick = { s.tick with again := s.tick.stretch.isSome } ∧ u.answered who .ok ∧
      Only s u [.power, .access, .bridge, .tick] [O.tickFlags] := by
  have hw := (only_heard s t who 0x2100 7)
  have htick : (s.heard t who 0x2100 7).tick = s.tick := hw.rest .tick (by decide)
  refine .intro (cmdRow_runs h t requestRealign rfl) ⟨?_, ?_, ?_, ?_⟩
  · rw [(only_answer ..).n_all]
    exact (State.setFlag_self ..).trans (by rw [hw.n_all])
  · rw [(only_answer ..).rest .tick (by decide), htick]
  · exact h.toTakes.answered (t := t) (idx := 0x2100) (sub := 7) (by rfl) .ok
  · have hact := ((hw.mono (Q := [.power, .access, .bridge, .tick]) (J := [O.tickFlags]) (by decide) (by decide)).obj
      (only_setFlag _ O.tickFlags tfREALIGN true) (by decide)).setTick { s.tick with again := s.tick.stretch.isSome } (by decide)
    rw [htick]
    exact hact.two (only_answer ..) (by decide) (by decide)

/-! ### The hold ends on a lane (R42) -/

/-- The lane's list in its first cycle. -/
def State.startLane (s : State) (n : Nat) : State :=
  s.updLane n (fun x => { x with gateRunning := true, gateStates := cycleStartStates (s.listOf n),
                                 gateOwner := cycleStartOwner (s.listOf n), gateNext := 0, gateRound := s.tickNo / s.laneCycle n })

theorem laneHoldEnd_starts {s : State} {n : Nat} (hn : s.hasLane n = true) (he : s.holdEnded = true) (hh : s.laneHeld n = true)
    (hr : s.laneRestarting n = false) (hb : isCycleBoundary (s.laneCycle n) s.tickNo = true) :
    laneHoldEnd n s = if (List.range (s.startLane n).laneCount).all (fun m => !(s.startLane n).laneHeld m)
      then (s.startLane n).setFlag O.tickFlags tfHELD false else s.startLane n := by
  unfold State.laneRestarting at hr
  unfold laneHoldEnd
  rw [hn, he, hh, hr, hb]
  rfl

/-- Whether other lanes wait or not, what is left is the lane's start, and at most the flag. -/
theorem only_laneHoldEnd {s : State} {n : Nat} (hn : s.hasLane n = true) (he : s.holdEnded = true) (hh : s.laneHeld n = true)
    (hr : s.laneRestarting n = false) (hb : isCycleBoundary (s.laneCycle n) s.tickNo = true) :
    Only (s.startLane n) (laneHoldEnd n s) [] [O.tickFlags] := by
  rw [laneHoldEnd_starts hn he hh hr hb]
  exact .ite (only_setFlag ..) (.same ..)

theorem holdEnd_runs {s : State} {t n : Nat} (hn : s.hasLane n = true) (he : s.holdEnded = true) (hh : s.laneHeld n = true)
    (hr : s.laneRestarting n = false) (hb : isCycleBoundary (s.laneCycle n) s.tickNo = true) :
    Runs (.holdEnd t n) s fun u => (u.lane n).gateRunning = true ∧
      (u.lane n).gateStates = cycleStartStates (s.listOf n) ∧ (u.lane n).gateOwner = cycleStartOwner (s.listOf n) ∧
      (u.lane n).gateNext = 0 ∧ (u.lane n).gateRound = s.tickNo / s.laneCycle n ∧ Only s u [.lanes] [O.tickFlags] := by
  have hf := only_laneHoldEnd (s := s.begin t) hn he hh hr hb
  have hl : (laneHoldEnd n (s.begin t)).lane n = ((s.begin t).startLane n).lane n := by
    unfold State.lane
    rw [hf.rest .lanes (by decide)]
  rw [State.startLane, State.lane_updLane_self] at hl
  refine .intro rfl ?_
  rw [hl]
  exact ⟨rfl, rfl, rfl, rfl, rfl, hf.and ((Only.start t s _ _).one (only_updLane ..) (by decide)) (by simp) (fun _ hk => hk)⟩

end Sys2Proof.Machine

open Sys2Proof Sys2Proof.Machine

/-- Settles O6, command by command of the tick regimes. -/
theorem tickRegimes : Obligations.TickRegimes := by
  refine ⟨fun s t => lockHoldTimeout_runs, fun s t => firstLock_unlocked, fun s t h => ⟨firstLock_stretch h, firstLock_holdover h⟩,
    fun s t => ⟨holdover_locked, holdover_stretch⟩, fun s t g e => stretchTickStart_runs, fun s t e => stretchTickEnd_runs,
    fun s t who x => reAlignTick_runs, fun s t n => holdEnd_runs⟩
end

section
/-! Proofs about the ends of an admission and about a switch of generations (R33, R59 to R64, R75, R99). -/
namespace Sys2Proof.Machine
open Sys2Proof

/-! ### The verdict objects (R60) -/

/-- The objects that show a verdict. -/
def verdictKeys : List Nat :=
  [O.verdict, O.violatingSlot, O.violatingContractID, O.violatedResource, O.margin, O.marginUnit, O.faultCase, O.innerVerdict,
    O.newGeneration, O.switchTick, O.brokenByCommit, O.firstFaultyRecord]

/-- The objects show the code, the place and the kind of a verdict, and the generation and the switch tick it brings. -/
structure State.Shows (s : State) (v : Verdict) (gen tick : Nat) : Prop where
  verdict : s.n O.verdict = v.code
  slot : s.n O.violatingSlot = v.slot
  resource : s.n O.violatedResource = v.res
  unit : s.n O.marginUnit = v.unit
  fcase : s.n O.faultCase = v.fcase
  inner : s.n O.innerVerdict = v.inner
  generation : s.n O.newGeneration = gen
  switchTick : s.n O.switchTick = tick

theorem State.writeVerdict_shows (s : State) (v : Verdict) (gen tick broken id : Nat) :
    (s.writeVerdict v gen tick broken id).Shows v gen tick := by
  unfold State.writeVerdict
  constructor <;> simp (disch := decide) only [State.setO_n, State.setN_other, State.setN_self]

theorem only_writeVerdict (s : State) (v : Verdict) (gen tick broken id : Nat) :
    Only s (s.writeVerdict v gen tick broken id) [] verdictKeys := by
  unfold State.writeVerdict
  exact (((((((((((((Only.same s _ _).obj (only_setN ..) (by decide)).obj (only_setN ..) (by decide)).obj (only_setN ..) (by decide)).obj
    (only_setN ..) (by decide)).obj (only_setO ..) (by decide)).obj (only_setN ..) (by decide)).obj (only_setN ..) (by decide)).obj
    (only_setN ..) (by decide)).obj (only_setN ..) (by decide)).obj (only_setN ..) (by decide)).obj (only_setN ..) (by decide)).obj
    (only_setN ..) (by decide))

/-- An operation outside the verdict objects leaves what they show. -/
theorem State.Shows.of_only {s u : State} {v : Verdict} {gen tick : Nat} {P : List Part} {K : List Nat} (h : s.Shows v gen tick)
    (ho : Only s u P K) (hk : ∀ k ∈ O.nodeID :: verdictKeys, k ∉ K) : u.Shows v gen tick := by
  have e : ∀ k ∈ verdictKeys, u.n k = s.n k := fun k hm => ho.n_eq (hk k (List.mem_cons_of_mem _ hm)) (hk _ List.mem_cons_self)
  constructor
  · exact (e _ (by decide)).trans h.verdict
  · exact (e _ (by decide)).trans h.slot
  · exact (e _ (by decide)).trans h.resource
  · exact (e _ (by decide)).trans h.unit
  · exact (e _ (by decide)).trans h.fcase
  · exact (e _ (by decide)).trans h.inner
  · exact (e _ (by decide)).trans h.generation
  · exact (e _ (by decide)).trans h.switchTick

/-! ### The verdict of the running commit (R61, R64, R75) -/

/-- Does a verdict bring a plan: it accepts, and not for a check only? -/
def Result.brings (res : Result) (n : Snapshot) : Bool := res.verdict.code == vdACCEPTED && n.cmd != 3

/-- The status that a commit ends in. -/
def Result.status (res : Result) (n : Snapshot) : Nat :=
  if n.cmd = 3 then csCHECKED else if res.verdict.code == vdACCEPTED then csSWITCHPENDING else csREFUSED

/-- A commit has been judged: its verdict and status are shown and its snapshot is spent. -/
def State.judged (s : State) (n : Snapshot) (res : Result) : State :=
  let go := res.brings n
  let s := (s.writeVerdict res.verdict (if go then res.plan.gen else 0) (if go then res.plan.switchTick else 0)
    (if go then res.plan.broken.length + res.plan.shedOut.length else 0) (s.verdictId (some n) res.verdict)).setN O.commitStatus (res.status n)
  { s with plan := { s.plan with snapshot := none } }

/-- The plan that a judged commit brings waits for its switch, and its domains come up. -/
def State.awaitPlan (s : State) (p : Plan) : State :=
  (s.addPending p).stageUp s { s with dict := s.dict.excess p.dict } (some s.now)

theorem State.commitVerdict_eq {s : State} {n : Snapshot} {res : Result} (hr : res = s.admission (some n) false) :
    s.commitVerdict n =
      (if res.brings n then (s.judged n res).awaitPlan res.plan else s.judged n res).logLead Ev.commitVerdict 0xFFFF
        [(1, res.verdict.code), (2, res.verdict.slot), (4, if res.brings n then res.plan.gen else 0)] := by
  subst hr
  rfl

theorem State.judged_shows (s : State) (n : Snapshot) (res : Result) :
    (s.judged n res).Shows res.verdict (if res.brings n then res.plan.gen else 0) (if res.brings n then res.plan.switchTick else 0) :=
  ((s.writeVerdict_shows ..).of_only (only_setN _ O.commitStatus _) (by decide)).of_only ((Only.same _ [.plan] []).setPlan _ (by decide))
    (by decide)

theorem State.judged_commitStatus (s : State) (n : Snapshot) (res : Result) : (s.judged n res).commitStatus = res.status n :=
  State.setN_self ..

theorem State.judged_plan (s : State) (n : Snapshot) (res : Result) : (s.judged n res).plan = { s.plan with snapshot := none } := rfl

theorem only_judged (s : State) (n : Snapshot) (res : Result) : Only s (s.judged n res) [.plan] (O.commitStatus :: verdictKeys) :=
  (((only_writeVerdict ..).mono (by simp) (by simp)).obj (only_setN ..) (by simp)).setPlan _ (by decide)

theorem only_awaitPlan (s : State) (p : Plan) : Only s (s.awaitPlan p) [.plan, .power] [] :=
  ((Only.same s _ _).setPlan _ (by decide)).setPower _ (by decide)

theorem only_commitVerdict {s : State} {n : Snapshot} {res : Result} (hr : res = s.admission (some n) false) :
    Only (s.judged n res) (s.commitVerdict n) [.plan, .logs, .power] [] := by
  rw [State.commitVerdict_eq hr]
  exact (Only.ite ((only_awaitPlan ..).mono (by decide) (by simp)) (.same ..)).one (only_logLead ..) (by decide)

theorem State.commitVerdict_plan {s : State} {n : Snapshot} {res : Result} (hr : res = s.admission (some n) false) :
    (s.commitVerdict n).plan = { s.plan with
      snapshot := none, pending := if res.brings n then s.plan.pending ++ [res.plan] else s.plan.pending } := by
  rw [State.commitVerdict_eq hr, State.logLead_plan]
  cases res.brings n <;> rfl

theorem admissionEnds_running {s : State} {n : Snapshot} (h : s.commitStatus = csRUNNING) (hn : s.plan.snapshot = some n) :
    admissionEnds s = s.commitVerdict n := by
  unfold admissionEnds
  rw [if_pos h, hn]

theorem Result.brings_check {res : Result} {n : Snapshot} (h : n.cmd = 3) : res.brings n = false := by
  simp [Result.brings, h]

theorem Result.brings_accepted {res : Result} {n : Snapshot} (h : n.cmd ≠ 3) (ha : res.verdict.code = vdACCEPTED) : res.brings n = true := by
  simp [Result.brings, h, ha]

theorem Result.brings_refused {res : Result} {n : Snapshot} (ha : res.verdict.code ≠ vdACCEPTED) : res.brings n = false := by
  simp [Result.brings, ha]

theorem Result.status_check {res : Result} {n : Snapshot} (h : n.cmd = 3) : res.status n = csCHECKED := if_pos h

theorem Result.status_accepted {res : Result} {n : Snapshot} (h : n.cmd ≠ 3) (ha : res.verdict.code = vdACCEPTED) :
    res.status n = csSWITCHPENDING := by
  simp [Result.status, h, ha]

theorem Result.status_refused {res : Result} {n : Snapshot} (h : n.cmd ≠ 3) (ha : res.verdict.code ≠ vdACCEPTED) :
    res.status n = csREFUSED := by
  simp [Result.status, h, ha]

theorem commitVerdict_runs {s : State} {t : Nat} {n : Snapshot} {res : Result} (h : s.commitStatus = csRUNNING)
    (hn : s.plan.snapshot = some n) (hr : res = (s.begin t).admission (some n) false) :
    Runs (.commitVerdict t) s fun u =>
      u.n O.verdict = res.verdict.code ∧ u.n O.violatingSlot = res.verdict.slot ∧ u.n O.violatedResource = res.verdict.res ∧
      u.n O.marginUnit = res.verdict.unit ∧ u.n O.faultCase = res.verdict.fcase ∧ u.n O.innerVerdict = res.verdict.inner ∧
      (n.cmd = 3 → u.commitStatus = csCHECKED ∧ u.n O.newGeneration = 0 ∧ u.plan = { s.plan with snapshot := none }) ∧
      (n.cmd ≠ 3 → res.verdict.code = vdACCEPTED → u.commitStatus = csSWITCHPENDING ∧ u.n O.newGeneration = res.plan.gen ∧
        u.n O.switchTick = res.plan.switchTick ∧
        u.plan = { s.plan with snapshot := none, pending := s.plan.pending ++ [res.plan] }) ∧
      (n.cmd ≠ 3 → res.verdict.code ≠ vdACCEPTED → u.commitStatus = csREFUSED ∧ u.n O.newGeneration = 0 ∧
        u.plan = { s.plan with snapshot := none }) ∧
      Only s u [.plan, .logs, .power] [O.commitStatus, O.verdict, O.violatingSlot, O.violatingContractID, O.violatedResource, O.margin,
        O.marginUnit, O.faultCase, O.innerVerdict, O.newGeneration, O.switchTick, O.brokenByCommit, O.firstFaultyRecord] := by
  have hf := only_commitVerdict hr
  have hshow := ((s.begin t).judged_shows n res).of_only hf (by simp)
  have hstatus : ((s.begin t).commitVerdict n).commitStatus = res.status n := (hf.n_all _).trans (State.judged_commitStatus ..)
  have hplan := State.commitVerdict_plan hr
  refine .intro (congrArg Host.Outcome.next (admissionEnds_running (s := s.begin t) h hn))
    ⟨hshow.verdict, hshow.slot, hshow.resource, hshow.unit, hshow.fcase, hshow.inner, fun hc => ?_, fun hc ha => ?_, fun hc ha => ?_, ?_⟩
  · rw [Result.brings_check hc] at hshow hplan
    exact ⟨hstatus.trans (Result.status_check hc), hshow.generation, hplan⟩
  · rw [Result.brings_accepted hc ha] at hshow hplan
    exact ⟨hstatus.trans (Result.status_accepted hc ha), hshow.generation, hshow.switchTick, hplan⟩
  · rw [Result.brings_refused ha] at hshow hplan
    exact ⟨hstatus.trans (Result.status_refused hc ha), hshow.generation, hplan⟩
  · exact (hf.and ((only_judged ..).mono (by decide) (fun _ hk => hk)) (fun _ hp => hp) (by simp)).begin

/-! ### The end of a migration's admission (R99) -/

theorem State.addPending_n (s : State) (p : Plan) (k : Nat) : (s.addPending p).n k = s.n k := rfl

/-- The migration's verdict is shown, with the status it ends in and its event. -/
theorem migrationEnds_accepted {s : State} {res : Result} (h : s.n O.migrationStatus = msRUNNING) (hr : res = s.admission none true)
    (ha : res.verdict.code = vdACCEPTED) :
    migrationEnds s = ((((s.setN O.migrationVerdict res.verdict.code).setN O.migrationStatus msSWITCHPENDING).setN O.migrationGeneration
      res.plan.gen).addPending res.plan).logLead Ev.migrationEnded 0xFFFF [(1, msSWITCHPENDING), (4, res.plan.gen)] := by
  subst hr
  unfold migrationEnds
  rw [if_neg (fun hn => hn h)]
  exact if_pos ha

theorem migrationEnds_refused {s : State} {res : Result} (h : s.n O.migrationStatus = msRUNNING) (hr : res = s.admission none true)
    (ha : res.verdict.code ≠ vdACCEPTED) :
    migrationEnds s = ((s.setN O.migrationVerdict res.verdict.code).setN O.migrationStatus msREFUSED).logLead Ev.migrationEnded 0xFFFF
      [(1, msREFUSED), (4, 0)] := by
  subst hr
  unfold migrationEnds
  rw [if_neg (fun hn => hn h)]
  exact if_neg ha

theorem migrationEnded_runs {s : State} {t : Nat} {res : Result} (h : s.n O.migrationStatus = msRUNNING)
    (hr : res = (s.begin t).admission none true) :
    Runs (.migrationEnded t) s fun u => u.n O.migrationVerdict = res.verdict.code ∧
      (res.verdict.code = vdACCEPTED → u.n O.migrationStatus = msSWITCHPENDING ∧ u.n O.migrationGeneration = res.plan.gen ∧
        u.plan = { s.plan with pending := s.plan.pending ++ [res.plan] }) ∧
      (res.verdict.code ≠ vdACCEPTED → u.n O.migrationStatus = msREFUSED ∧ u.plan = s.plan) ∧
      Only s u [.plan, .logs] [O.migrationStatus, O.migrationVerdict, O.migrationGeneration] := by
  have hb : (s.begin t).n O.migrationStatus = msRUNNING := h
  by_cases ha : res.verdict.code = vdACCEPTED
  · refine .intro (congrArg Host.Outcome.next (migrationEnds_accepted hb hr ha)) ⟨?_, fun _ => ⟨?_, ?_, ?_⟩, fun hn => absurd ha hn, ?_⟩
    · simp (disch := decide) only [State.logLead_n, State.addPending_n, State.setN_other, State.setN_self]
    · simp (disch := decide) only [State.logLead_n, State.addPending_n, State.setN_other, State.setN_self]
    · simp only [State.logLead_n, State.addPending_n, State.setN_self]
    · exact State.logLead_plan ..
    · exact (((((Only.start t s _ _).obj (only_setN ..) (by decide)).obj (only_setN ..) (by decide)).obj (only_setN ..) (by decide)).setPlan _
        (by decide)).one (only_logLead ..) (by decide)
  · refine .intro (congrArg Host.Outcome.next (migrationEnds_refused hb hr ha)) ⟨?_, fun hn => absurd hn ha, fun _ => ⟨?_, ?_⟩, ?_⟩
    · simp (disch := decide) only [State.logLead_n, State.setN_other, State.setN_self]
    · simp only [State.logLead_n, State.setN_self]
    · exact State.logLead_plan ..
    · exact (((Only.start t s _ _).obj (only_setN ..) (by decide)).obj (only_setN ..) (by decide)).one (only_logLead ..) (by decide)

/-! ### A generation switch (R33, R58, R63) -/

/-- The plan `p` is in force with its contracts, its placement and its fault cases, and the plans of `rest` wait. -/
structure State.InForce (s : State) (p : Plan) (rest : List Plan) : Prop where
  pending : s.plan.pending = rest
  gen : s.plan.active.gen = p.gen
  contracts : s.plan.active.contracts = p.contracts
  place : s.plan.active.place = p.place
  cases : s.plan.cases = p.caseSts

theorem foldl_plan {α : Type} (f : State → α → State) (h : ∀ s a, (f s a).plan = s.plan) (l : List α) (s : State) :
    (l.foldl f s).plan = s.plan := by
  induction l generalizing s with
  | nil => rfl
  | cons a l ih => rw [List.foldl_cons, ih, h]

theorem State.seekGate_plan (s : State) (n : Nat) : (s.seekGate n).plan = s.plan := rfl

/-- Of the plan's state only the lanes of the plan in force change when lists are loaded. -/
theorem State.loadLanes_plan (s : State) (ls : SMap LanePlan) :
    (s.loadLanes ls).plan = { s.plan with active := { s.plan.active with lanes := ls } } := by
  unfold State.loadLanes
  refine foldl_plan _ (fun w e => ?_) _ _
  simp only [apply_ite State.plan, State.seekGate_plan, State.updLane_plan, State.setBlob_plan, State.setN_plan, State.addTo_plan, ite_self]

/-- Every part of the state beside the plan's own, and the clock. -/
def besidePlan : Nat := 2 ^ 23 - 1 - 2 ^ 8

theorem plan_of_besidePlan {s u : State} (h : u.core besidePlan = s.core besidePlan) : u.plan = s.plan := plan_of_core h rfl

theorem State.switchLists_plan (s old : State) (p : Plan) :
    (s.switchLists old p).plan = { s.plan with active := { s.plan.active with lanes := p.lanes } } := by
  have hadmin (w : State) (l : List Nat) : (l.foldl (fun (s : State) n => s.switchAdmin old p n) w).plan = w.plan :=
    foldl_plan _ (fun w n => plan_of_besidePlan (State.switchAdmin_core rfl w old p n)) l w
  unfold State.switchLists
  rw [plan_of_besidePlan (State.showAdminBands_core rfl _), foldl_plan _ fun w n => ?_,
    plan_of_besidePlan (State.loadShapers_core rfl ..), State.loadLanes_plan, hadmin]
  split <;> rfl

/-- A switch, its first stage: the slots and the committed objects as the plan leaves them, and the plan in force. -/
def State.switchPlan (s : State) (p : Plan) (rest : List Plan) : State :=
  let w := ((List.range s.laneCount).foldl (fun (s : State) n => s.accrue n) s).switchSlots p
  let w := { w with dict := w.dict.excess p.dict, staged := w.staged.minus p.dict }
  { w with plan := { w.plan with active := { p with switchTick := w.tickNo, lanes := s.plan.active.lanes }, pending := rest,
                                 cases := p.caseSts, base := [], urgent := [] } }

/-- Its second stage: what is shown of the switch, the lanes, their lists and the meters. -/
def State.switchForwarding (s old : State) (p : Plan) : State :=
  let s := (s.switchStatus p).switchStreams old p
  let s := (List.range s.laneCount).foldl (fun (s : State) n => s.switchLane old p.inService p.snapAt n) s
  let s := (s.switchLists old p).switchMeters
  (List.range 32).foldl (fun (s : State) g => s.setN (byIdx O.membersInService g) (maskOf (s.lagActive g))) s

/-- Its third stage: the units beside the lanes. -/
def State.switchUnits (s old : State) (p : Plan) : State :=
  let s := ((s.switchRings old).switchMirrors old).switchConns old |>.startMoves old
  let s := (s.switchChannels old).switchKeys
  let s := ((((s.switchDomains old).drainUnits.drainJobs).loseJobs).refreshLookAside).refreshInstances
  let s := (s.switchGateway old).switchCirque old
  s.restartPdos ((keys p.dict.objs).filter (s.changed old))

/-- Its last stage: the declarations of the streams that stay, the plan's hash and mirror, the counts, and the quarantine. -/
def State.switchShown (s old : State) (p : Plan) : State :=
  let s := { s with plan := { s.plan with
      talkers := s.plan.talkers.filter (fun k => (look p.contracts k.slot).isSome),
      listeners := s.plan.listeners.filter (fun k => (look p.contracts k.slot).isSome) } }
  let s := s.redeclare old.plan.active.bounds
  let s := s.setBlob O.planHash (planHashOf s p.contracts p.place)
  let s := { s with update := { s.update with planFormat := fld (s.image s.pkg.lead s.update.running) 6 2, planPeriod := s.n O.tickPeriodCode },
                    pkg := { s.pkg with planOk := true } }
  let s := { s with pkg := { s.pkg with mirror := s.dict } }
  ((s.refreshCounts.refreshCases.refreshPartitions).switchHold old).leaveQuarantine

theorem State.switchTo_eq (s : State) (p : Plan) (rest : List Plan) :
    s.switchTo p rest = (((s.switchPlan p rest).switchForwarding s p).switchUnits s p).switchShown s p := by
  simp only [State.switchTo, State.switchShown, State.switchUnits, State.switchForwarding, State.switchPlan]

theorem State.switchForwarding_plan (s old : State) (p : Plan) :
    (s.switchForwarding old p).plan = { s.plan with active := { s.plan.active with lanes := p.lanes } } := by
  unfold State.switchForwarding
  dsimp only
  rw [foldl_plan _ fun w g => State.setN_plan .., plan_of_besidePlan (State.switchMeters_core rfl _), State.switchLists_plan,
    foldl_plan _ fun w n => plan_of_besidePlan (State.switchLane_core rfl w old p.inService p.snapAt n),
    plan_of_besidePlan (State.switchStreams_core rfl ..), plan_of_besidePlan (State.switchStatus_core rfl ..)]

theorem State.switchUnits_plan (s old : State) (p : Plan) : (s.switchUnits old p).plan = s.plan := by
  unfold State.switchUnits
  dsimp only
  refine plan_of_besidePlan ?_
  rw [State.restartPdos_core rfl, State.switchCirque_core rfl, State.switchGateway_core rfl, State.refreshInstances_core rfl,
    State.refreshLookAside_core rfl, State.loseJobs_core rfl, State.drainJobs_core rfl, State.drainUnits_core rfl, State.switchDomains_core rfl,
    State.switchKeys_core rfl, State.switchChannels_core rfl, State.startMoves_core rfl, State.switchConns_core rfl,
    State.switchMirrors_core rfl, State.switchRings_core rfl]

theorem State.switchShown_plan (s old : State) (p : Plan) :
    (s.switchShown old p).plan = { s.plan with
      talkers := s.plan.talkers.filter (fun k => (look p.contracts k.slot).isSome),
      listeners := s.plan.listeners.filter (fun k => (look p.contracts k.slot).isSome) } := by
  unfold State.switchShown
  dsimp only
  rw [plan_of_besidePlan (State.leaveQuarantine_core rfl _), plan_of_besidePlan (State.switchHold_core rfl ..),
    plan_of_besidePlan (State.refreshPartitions_core rfl _), plan_of_besidePlan (State.refreshCases_core rfl _),
    plan_of_besidePlan (State.refreshCounts_core rfl _)]
  exact plan_of_besidePlan (State.redeclare_core rfl ..)

theorem State.switchTo_inForce (s : State) (p : Plan) (rest : List Plan) : (s.switchTo p rest).InForce p rest := by
  rw [State.switchTo_eq]
  constructor <;> rw [State.switchShown_plan, State.switchUnits_plan, State.switchForwarding_plan] <;> rfl

theorem generationSwitch_due {s : State} {p : Plan} {rest : List Plan} (hp : s.plan.pending = p :: rest) (ht : p.switchTick ≤ s.tickNo)
    (hs : s.tick.stretch = none) : generationSwitch s = s.switchTo p rest := by
  unfold generationSwitch
  rw [hp]
  exact if_neg (by rw [hs]; simpa using ht)

theorem generationSwitch_runs {s : State} {t : Nat} {p : Plan} {rest : List Plan} (hp : s.plan.pending = p :: rest)
    (ht : p.switchTick ≤ s.tickNo) (hs : s.tick.stretch = none) :
    Runs (.generationSwitch t) s fun u => u.plan.pending = rest ∧ u.plan.active.gen = p.gen ∧ u.plan.active.contracts = p.contracts ∧
      u.plan.active.place = p.place ∧ u.plan.cases = p.caseSts ∧ Within s u (partsOf (.generationSwitch t)) := by
  have hu : exec (.generationSwitch t) s = .next ((s.begin t).switchTo p rest) :=
    congrArg Host.Outcome.next (generationSwitch_due (s := s.begin t) hp ht hs)
  have hf := (s.begin t).switchTo_inForce p rest
  exact .intro hu ⟨hf.pending, hf.gen, hf.contracts, hf.place, hf.cases, exec_within _ s _ hu⟩

end Sys2Proof.Machine

open Sys2Proof Sys2Proof.Machine

/-- Settles O9, by the end of each admission and the stages of a switch. -/
theorem commitEnds : Obligations.CommitEnds :=
  ⟨fun _ _ _ _ => commitVerdict_runs, fun _ _ _ => migrationEnded_runs, fun _ _ _ _ => generationSwitch_runs⟩
end

section
/-! Proofs about the state right after reset (R50, R57, R356, R455). -/
namespace Sys2Proof.Machine
open Sys2Proof

/-- A RAM that lists nothing reads as zeros (R356). -/
theorem ramRead_nil (a n : Nat) : ramRead [] a n = List.replicate n 0 :=
  (List.map_const' ..).trans (by rw [List.length_range]; rfl)

theorem State.mailboxOf_reset (d : Nat) : State.reset.mailboxOf d = [] := rfl

theorem State.edgeRamOf_reset (d : Nat) : State.reset.edgeRamOf d = [] := rfl

end Sys2Proof.Machine

open Sys2Proof Sys2Proof.Machine

/-- Settles O50: the printed defaults are computed from the object table, and the rest of the reset state is empty. -/
theorem resetValues : Obligations.ResetValues := by
  refine ⟨by decide, by decide, by decide, by decide, by decide, by decide, by decide, by decide, by decide, rfl, rfl, rfl, rfl, rfl, rfl, rfl,
    rfl, fun d a n => ?_⟩
  rw [State.mailboxOf_reset, State.edgeRamOf_reset]
  exact ⟨ramRead_nil a n, ramRead_nil a n⟩
end

section
/-! Proofs about the commit commands (R58 to R64, R371): what a start, an abort and a discard of everything staged leave. -/
namespace Sys2Proof.Machine
open Sys2Proof

theorem Runs.imp {i : Instr} {s : State} {p q : State → Prop} (h : Runs i s p) (f : ∀ u, p u → q u) : Runs i s q := by
  obtain ⟨u, hu, hp⟩ := h
  exact ⟨u, hu, f u hp⟩

/-- What a taken-up write of an integer leaves: the answer with the act's status, and beside what the act leaves only the session and
the mailbox. -/
theorem State.MayWrite.runs {s w : State} {who : Who} {x : Session} {idx sub v t : Nat} {i : Instr} {st : Status} {P : List Part}
    {K : List Nat} (h : s.MayWrite who x idx sub v) (act : Session → State → Status × State)
    (hi : exec i s = cmdRow t who idx sub v act s) (ha : act x (s.heard t who idx sub) = (st, w))
    (hf : Only (s.heard t who idx sub) w P K) (hp : Part.access ∉ P) :
    Runs i s fun u => u.answered who st ∧ Only w u [.access, .bridge] [] ∧ Only s u (P ++ [.power, .access, .bridge]) K := by
  refine .intro (hi.trans (cmdRow_runs h t act ha)) ⟨h.toTakes.answered (hf.rest .access hp) st, only_answer .., ?_⟩
  exact (hf.and ((only_heard s t who idx sub).mono (by simp) (by simp)) (fun _ => List.mem_append_left _) (fun _ hk => hk)).two
    (only_answer ..) (by simp) (by simp)

/-- A write that is taken up and whose act refuses it changes nothing. -/
theorem State.MayWrite.runs_refused {s : State} {who : Who} {x : Session} {idx sub v t : Nat} {i : Instr} {st : Status}
    (h : s.MayWrite who x idx sub v) (act : Session → State → Status × State) (hi : exec i s = cmdRow t who idx sub v act s)
    (ha : act x (s.heard t who idx sub) = (st, s.heard t who idx sub)) :
    Runs i s fun u => u.answered who st ∧ Only s u [.power, .access, .bridge] [] :=
  (h.runs act hi ha (Only.refl _) (by simp)).imp fun _ ⟨hans, _, hf⟩ => ⟨hans, hf⟩

theorem State.commitStatus_def (s : State) : s.commitStatus = s.n O.commitStatus := rfl

theorem State.heard_commitStatus (s : State) (t : Nat) (who : Who) (idx sub : Nat) :
    (s.heard t who idx sub).commitStatus = s.commitStatus := s.heard_n ..

/-! ### What is read of the staged content and of the lanes -/

theorem State.stagedSlots_congr {s u : State} (hs : u.staged = s.staged) (hp : u.plan = s.plan) : u.stagedSlots = s.stagedSlots := by
  unfold State.stagedSlots
  rw [hs, hp]

theorem State.stagedObjs_congr {s u : State} (hs : u.staged = s.staged) : u.stagedObjs = s.stagedObjs := by
  unfold State.stagedObjs
  rw [hs]

theorem State.lanesInService_congr {s u : State} (hv : u.variant = s.variant) (hn : ∀ k, u.n k = s.n k) :
    u.lanesInService = s.lanesInService := by
  unfold State.lanesInService State.laneCount
  simp only [State.flag_def, hn, hv]

theorem State.hasStaged_congr {s u : State} (hs : u.staged = s.staged) (hp : u.plan = s.plan) (slot : Nat) :
    u.hasStaged slot = s.hasStaged slot := by
  unfold State.hasStaged State.stagedRec
  rw [hs, hp]

/-! ### The abort (R62) -/

/-- A running commit has been aborted: its snapshot is dropped. -/
def State.aborted (s : State) : State := { s.setN O.commitStatus csABORTED with plan := { s.plan with snapshot := none } }

theorem only_aborted (s : State) : Only s s.aborted [.plan] [O.commitStatus] :=
  ((Only.same s _ _).obj (only_setN ..) (by decide)).setPlan _ (by decide)

theorem State.aborted_commitStatus (s : State) : s.aborted.commitStatus = csABORTED := State.setN_self ..

theorem abortCommit_running {s : State} (x : Session) (h : s.commitStatus = csRUNNING) : abortCommit x s = (.ok, s.aborted) := if_pos h

theorem abortCommit_idle {s : State} (x : Session) (h : s.commitStatus ≠ csRUNNING) : abortCommit x s = (.alreadyDone, s) := if_neg h

theorem commitAbort_running {s : State} {t : Nat} {who : Who} {x : Session} (h : s.MayWrite who x 0x5000 1 2)
    (hs : s.commitStatus = csRUNNING) :
    Runs (.commitAbort t who) s fun u => u.commitStatus = csABORTED ∧ u.plan = { s.plan with snapshot := none } ∧ u.answered who .ok ∧
      Only s u [.plan, .power, .access, .bridge] [O.commitStatus] := by
  have ha := abortCommit_running x ((s.heard_commitStatus t who 0x5000 1).trans hs)
  refine (h.runs abortCommit rfl ha (only_aborted _) (by decide)).imp fun u ⟨hans, hu, hf⟩ => ⟨?_, ?_, hans, hf⟩
  · exact (hu.n_all _).trans (State.aborted_commitStatus _)
  · have hw : (s.heard t who 0x5000 1).aborted.plan = { s.plan with snapshot := none } := by rw [State.aborted, State.heard_plan]
    exact Eq.trans (hu.rest .plan (by decide)) hw

theorem commitAbort_alreadyDone {s : State} {t : Nat} {who : Who} {x : Session} (h : s.MayWrite who x 0x5000 1 2)
    (hs : s.commitStatus ≠ csRUNNING) :
    Runs (.commitAbort t who) s fun u => u.answered who .alreadyDone ∧ Only s u [.power, .access, .bridge] [] :=
  h.runs_refused abortCommit rfl (abortCommit_idle x (by rwa [State.heard_commitStatus]))

/-! ### The start of a commit (R59 to R61, R63, R99) -/

/-- The objects that show a verdict, as a start clears them. -/
def clearedKeys : List Nat :=
  [O.verdict, O.violatingSlot, O.violatingContractID, O.violatedResource, O.margin, O.marginUnit, O.faultCase, O.innerVerdict,
    O.newGeneration, O.switchTick, O.brokenByCommit]

/-- The state whose staged content the snapshot takes: the verdict objects at their defaults, RUNNING, and one commit more. -/
def State.started (s : State) : State :=
  let s := s.copyPending.abandonMigration
  (s.clearVerdict.setN O.commitStatus csRUNNING).setN O.commitSequence ((s.n O.commitSequence + 1) % 2 ^ 32)

/-- The snapshot that a command of a session takes. -/
def State.snapshotFor (s : State) (cmd sess : Nat) (x : Session) : Snapshot :=
  ⟨cmd, sess, x.role, s.stagedSlots, s.stagedObjs, [], [], s.lanesInService, s.now⟩

theorem State.snapshotFor_snapAt (s : State) (cmd sess : Nat) (x : Session) : (s.snapshotFor cmd sess x).snapAt = s.now := rfl

/-- A commit runs on the snapshot that its command has taken. -/
def State.committing (s : State) (cmd sess : Nat) (x : Session) : State :=
  { s.started with plan := { s.started.plan with snapshot := some (s.started.snapshotFor cmd sess x) } }

theorem only_committing (s : State) (cmd sess : Nat) (x : Session) : Only s.started (s.committing cmd sess x) [.plan] [] :=
  (Only.same s.started _ _).setPlan _ (by decide)

theorem startCommit_running {s : State} (cmd sess : Nat) (x : Session) (h : s.commitStatus = csRUNNING) :
    startCommit cmd sess x s = (.deviceState, s) := if_pos h

theorem startCommit_idle {s : State} (cmd sess : Nat) (x : Session) (h : s.commitStatus ≠ csRUNNING) :
    startCommit cmd sess x s = (.ok, s.committing cmd sess x) := if_neg h

theorem whenActive_standby {s : State} (act : Session → State → Status × State) (x : Session) (h : s.n O.powerState = 2) :
    whenActive act x s = (.deviceState, s) := if_pos h

theorem whenActive_active {s : State} (act : Session → State → Status × State) (x : Session) (h : s.n O.powerState ≠ 2) :
    whenActive act x s = act x s := if_neg h

theorem only_copyPending (s : State) : Only s s.copyPending [] [O.pendingGeneration, O.pendingSwitchTick] :=
  .ite (((Only.same s _ _).obj (only_setN ..) (by decide)).obj (only_setN ..) (by decide)) (.same ..)

/-- R63: an accepted generation shows as the pending one. -/
theorem State.copyPending_pending {s : State} (h : s.commitStatus = csSWITCHPENDING) :
    s.copyPending.n O.pendingGeneration = s.n O.newGeneration ∧ s.copyPending.n O.pendingSwitchTick = s.n O.switchTick := by
  unfold State.copyPending
  rw [if_pos h]
  exact ⟨by rw [State.setN_other _ _ _ _ (by decide) (by decide), State.setN_self], State.setN_self ..⟩

theorem only_abandonMigration (s : State) : Only s s.abandonMigration [.logs] [O.migrationStatus] :=
  .ite (((Only.same s _ _).obj (only_setN ..) (by decide)).one (only_logLead ..) (by decide)) (.same ..)

/-- R99: a running migration is abandoned. -/
theorem State.abandonMigration_running {s : State} (h : s.n O.migrationStatus = msRUNNING) :
    s.abandonMigration.n O.migrationStatus = msABANDONED := by
  unfold State.abandonMigration
  rw [if_pos h, State.logLead_n, State.setN_self]

theorem only_clearVerdict (s : State) : Only s s.clearVerdict [] clearedKeys := by
  unfold State.clearVerdict
  exact (((((((((((Only.same s _ _).obj (only_setN ..) (by decide)).obj (only_setN ..) (by decide)).obj (only_setN ..) (by decide)).obj
    (only_setN ..) (by decide)).obj (only_setO ..) (by decide)).obj (only_setN ..) (by decide)).obj (only_setN ..) (by decide)).obj
    (only_setN ..) (by decide)).obj (only_setN ..) (by decide)).obj (only_setN ..) (by decide)).obj (only_setN ..) (by decide)

theorem State.setN_self_o (s : State) (k v : Nat) : (s.setN k v).o k = v := State.setO_self ..

/-- R60: the defaults of the verdict objects. -/
theorem State.clearVerdict_o (s : State) : ∀ k ∈ clearedKeys, s.clearVerdict.o k = if k = O.violatingSlot then 0xFFFF else 0 := by
  unfold State.clearVerdict clearedKeys
  simp (disch := decide) only [List.forall_mem_cons, State.setN_o, State.setO_other, State.setN_self_o, State.setO_self]
  exact ⟨rfl, rfl, rfl, rfl, rfl, rfl, rfl, rfl, rfl, rfl, rfl, fun _ hk => absurd hk List.not_mem_nil⟩

/-- What a start does after the end of a migration. -/
theorem only_started_abandoned (s : State) :
    Only s.copyPending.abandonMigration s.started [] ([O.commitStatus, O.commitSequence] ++ clearedKeys) :=
  (((only_clearVerdict _).mono (by simp) (by simp)).obj (only_setN ..) (by simp)).obj (only_setN ..) (by simp)

/-- What a start does after the copy of a pending generation. -/
theorem only_started_copied (s : State) :
    Only s.copyPending s.started [.logs] ([O.commitStatus, O.commitSequence] ++ clearedKeys ++ [O.migrationStatus]) :=
  (only_started_abandoned s).and ((only_abandonMigration _).mono (by decide) (by decide)) (by decide) (by decide)

/-- The objects that a start may write. -/
def startedKeys : List Nat :=
  [O.commitStatus, O.commitSequence] ++ clearedKeys ++ [O.pendingGeneration, O.pendingSwitchTick, O.migrationStatus]

theorem only_started (s : State) : Only s s.started [.logs] startedKeys :=
  (only_started_copied s).and ((only_copyPending s).mono (by decide) (by decide)) (by decide) (by decide)

theorem State.started_commitStatus (s : State) : s.started.commitStatus = csRUNNING := by
  unfold State.started
  rw [State.commitStatus_def, State.setN_other _ _ _ _ (by decide) (by decide), State.setN_self]

theorem State.started_commitSequence (s : State) : s.started.n O.commitSequence = (s.n O.commitSequence + 1) % 2 ^ 32 := by
  unfold State.started
  rw [State.setN_self, (only_abandonMigration _).n_eq (by decide) (by decide), (only_copyPending _).n_eq (by decide) (by decide)]

theorem State.started_cleared (s : State) {k : Nat} (hk : k ∈ clearedKeys) :
    s.started.o k = if k = O.violatingSlot then 0xFFFF else 0 := by
  have hne : ∀ k ∈ clearedKeys, k ≠ O.commitStatus ∧ k ≠ O.commitSequence := by decide
  obtain ⟨hstatus, hsequence⟩ := hne k hk
  unfold State.started
  rw [State.setN_o _ _ _ _ hsequence (by decide), State.setN_o _ _ _ _ hstatus (by decide), State.clearVerdict_o _ k hk]

theorem State.started_violatingSlot (s : State) : s.started.n O.violatingSlot = 0xFFFF := by
  rw [State.n, State.started_cleared _ (by decide)]
  rfl

theorem State.started_pending {s : State} (h : s.commitStatus = csSWITCHPENDING) :
    s.started.n O.pendingGeneration = s.n O.newGeneration ∧ s.started.n O.pendingSwitchTick = s.n O.switchTick := by
  rw [(only_started_copied s).n_eq (by decide) (by decide), (only_started_copied s).n_eq (by decide) (by decide)]
  exact State.copyPending_pending h

theorem State.started_migration {s : State} (h : s.n O.migrationStatus = msRUNNING) : s.started.n O.migrationStatus = msABANDONED := by
  rw [(only_started_abandoned s).n_eq (by decide) (by decide)]
  exact State.abandonMigration_running (((only_copyPending s).n_eq (by decide) (by decide)).trans h)

theorem State.started_now (s : State) : s.started.now = s.now := by
  refine now_of_core (R := 32) ?_ rfl
  rw [State.started, State.setN_core rfl, State.setN_core rfl, State.clearVerdict_core rfl, State.abandonMigration_core rfl,
    State.copyPending_core rfl]

theorem State.started_plan (s : State) : s.started.plan = s.plan := (only_started s).rest .plan (by decide)

/-- R59: the snapshot is exactly what is staged. -/
theorem State.started_stagedSlots (s : State) : s.started.stagedSlots = s.stagedSlots :=
  State.stagedSlots_congr ((only_started s).rest .staged (by decide)) s.started_plan

theorem State.started_stagedObjs (s : State) : s.started.stagedObjs = s.stagedObjs :=
  State.stagedObjs_congr ((only_started s).rest .staged (by decide))

theorem State.committing_plan (s : State) (cmd sess : Nat) (x : Session) :
    (s.committing cmd sess x).plan = { s.plan with snapshot := some (s.started.snapshotFor cmd sess x) } := by
  rw [State.committing, State.started_plan]

/-- Standby refuses what a running commit refuses (R61, R371). -/
theorem whenActive_refused {s : State} (cmd sess : Nat) (x : Session) (h : s.commitStatus = csRUNNING ∨ s.n O.powerState = 2) :
    whenActive (startCommit cmd sess) x s = (.deviceState, s) := by
  by_cases hp : s.n O.powerState = 2
  · exact whenActive_standby _ x hp
  · rw [whenActive_active _ x hp, startCommit_running _ _ x (h.resolve_right hp)]

/-- A command whose act is the start of a commit, written while none runs. -/
theorem startCommit_runs {s : State} {t cmd : Nat} {who : Who} {x : Session} {c : Instr} (h : s.MayWrite who x 0x5000 1 cmd)
    (hs : s.commitStatus ≠ csRUNNING) (act : Session → State → Status × State) (hc : exec c s = cmdRow t who 0x5000 1 cmd act s)
    (ha : act x (s.heard t who 0x5000 1) = startCommit cmd who.sess x (s.heard t who 0x5000 1)) :
    Runs c s fun u => u.commitStatus = csRUNNING ∧ u.n O.commitSequence = (s.n O.commitSequence + 1) % 2 ^ 32 ∧
      (∀ k ∈ [O.verdict, O.violatingContractID, O.violatedResource, O.margin, O.marginUnit, O.faultCase, O.innerVerdict, O.newGeneration,
        O.switchTick, O.brokenByCommit], u.o k = 0) ∧ u.n O.violatingSlot = 0xFFFF ∧
      (∃ n, u.plan = { s.plan with snapshot := some n } ∧ n.cmd = cmd ∧ n.sess = who.sess ∧ n.role = x.role ∧
        n.slots = s.stagedSlots ∧ n.dict = s.stagedObjs ∧ n.since = [] ∧ n.deleted = [] ∧ n.inService = u.lanesInService ∧ n.snapAt = s.localAt t) ∧
      (s.commitStatus = csSWITCHPENDING → u.n O.pendingGeneration = s.n O.newGeneration ∧ u.n O.pendingSwitchTick = s.n O.switchTick) ∧
      (s.n O.migrationStatus = msRUNNING → u.n O.migrationStatus = msABANDONED) ∧
      u.answered who .ok ∧ Only s u [.plan, .logs, .power, .access, .bridge] startedKeys := by
  have hw : (s.heard t who 0x5000 1).commitStatus ≠ csRUNNING := by rwa [State.heard_commitStatus]
  have hplain : ∀ k ∈ [O.verdict, O.violatingContractID, O.violatedResource, O.margin, O.marginUnit, O.faultCase, O.innerVerdict,
      O.newGeneration, O.switchTick, O.brokenByCommit], k ∈ clearedKeys ∧ k ≠ O.violatingSlot := by decide
  have hcommit := only_committing (s.heard t who 0x5000 1) cmd who.sess x
  have hframe := hcommit.and ((only_started _).mono (Q := [.plan, .logs]) (by decide) (List.Subset.refl _)) (by decide) (by simp)
  refine (h.runs act hc (ha.trans (startCommit_idle cmd who.sess x hw)) hframe (by decide)).imp fun u ⟨hans, hanswer, hf⟩ => ?_
  have hu := hanswer.and (hcommit.mono (Q := [.plan, .access, .bridge]) (by decide) (List.Subset.refl _)) (by decide) (by simp)
  have hplan : u.plan = ((s.heard t who 0x5000 1).committing cmd who.sess x).plan := hanswer.rest .plan (by decide)
  rw [State.committing_plan, State.heard_plan] at hplan
  refine ⟨?_, ?_, fun k hk => ?_, ?_, ⟨_, hplan, rfl, rfl, rfl, ?_, ?_, rfl, rfl, ?_, ?_⟩, fun hp => ?_, fun hm => ?_, hans, hf⟩
  · exact (hu.n_all _).trans (State.started_commitStatus _)
  · exact (hu.n_all _).trans ((State.started_commitSequence _).trans (by rw [State.heard_n]))
  · obtain ⟨hmem, hne⟩ := hplain k hk
    exact (hu.o_all k).trans ((State.started_cleared _ hmem).trans (if_neg hne))
  · exact (hu.n_all _).trans (State.started_violatingSlot _)
  · exact (State.started_stagedSlots _).trans (State.stagedSlots_congr (State.heard_staged ..) (State.heard_plan ..))
  · exact (State.started_stagedObjs _).trans (State.stagedObjs_congr (State.heard_staged ..))
  · exact (State.lanesInService_congr hu.variant hu.n_all).symm
  · rw [State.snapshotFor_snapAt, State.started_now, State.heard_now]
  · rw [hu.n_all, hu.n_all, ← State.heard_n s t who 0x5000 1 O.newGeneration, ← State.heard_n s t who 0x5000 1 O.switchTick]
    exact State.started_pending ((State.heard_commitStatus ..).trans hp)
  · exact (hu.n_all _).trans (State.started_migration ((State.heard_n ..).trans hm))

/-! ### The discard of everything staged (R58, R61, R63) -/

/-- The staged content of one slot discarded, as *discard staged* would. -/
def State.discardSlot (s : State) (slot : Nat) : State := (s.dropStaged slot).enterSlot slot (afterDiscard (s.slotState slot))

theorem State.discardSlots_eq (s : State) : s.discardSlots = (keys s.stagedSlots).foldl State.discardSlot s := rfl

theorem afterDiscard_idem : ∀ n, afterDiscard (afterDiscard n) = afterDiscard n
  | 0 | 1 | 2 | 3 | 4 => rfl
  | _ + 5 => rfl

theorem afterDiscard_staged {n : Nat} (h : n ∈ [3, 4]) : afterDiscard n = 2 := by
  revert n
  decide

theorem afterDiscard_other {n : Nat} (h : n ∈ [0, 2, 5, 6]) : afterDiscard n = n := by
  revert n
  decide

theorem slotStateKey_inj {a b : Nat} (h : slotStateKey a = slotStateKey b) : a = b := by
  simp only [slotStateKey, byIdx] at h
  omega

/-- The state of no slot lies under a key of another subindex. -/
theorem slotStateKey_ne {slot k : Nat} (hk : k % 256 ≠ 3) : slotStateKey slot ≠ k := by
  simp only [slotStateKey, byIdx, O.slotStateContract]
  omega

theorem stagedKey_inj {a b : Nat} (h : stagedKey a = stagedKey b) : a = b := by
  simp only [stagedKey, byIdx] at h
  omega

theorem only_staged_plan (s : State) (d : Dict) (p : PlanSt) : Only s { s with staged := d, plan := p } [.staged, .plan] [] :=
  ((Only.same s _ _).setStaged d (by decide)).setPlan p (by decide)

theorem only_dropStaged (s : State) (slot : Nat) : Only s (s.dropStaged slot) [.staged, .plan] [] := only_staged_plan ..

theorem only_enterSlot (s : State) (slot st : Nat) : Only s (s.enterSlot slot st) [.blobs] [slotStateKey slot] := by
  have hb : Only s { s with dict := { s.dict with blobs := del s.dict.blobs (activeKey slot) } } [.blobs] [slotStateKey slot] :=
    ⟨rfl, rfl, fun p n => by cases p with | blobs => exact absurd List.mem_cons_self n | _ => rfl, fun _ _ => rfl⟩
  exact (Only.ite hb (.same ..)).obj (only_setN ..) List.mem_cons_self

theorem only_discardSlot (s : State) (slot : Nat) : Only s (s.discardSlot slot) [.staged, .plan, .blobs] [slotStateKey slot] :=
  (only_enterSlot ..).and ((only_dropStaged ..).mono (by simp) (by simp)) (by simp) (by simp)

theorem State.discardSlot_slotState (s : State) (a b : Nat) :
    (s.discardSlot a).slotState b = if b = a then afterDiscard (s.slotState a) else s.slotState b := by
  split
  case isTrue h =>
    subst h
    exact State.setN_self ..
  case isFalse h =>
    exact (only_discardSlot s a).n_eq (by simpa using fun e => h (slotStateKey_inj e))
      (by simpa using (slotStateKey_ne (by decide)).symm)

theorem State.discardSlot_hasStaged (s : State) (a b : Nat) : (s.discardSlot a).hasStaged b = (s.hasStaged b && b != a) := by
  have hd : (s.discardSlot a).hasStaged b = (s.dropStaged a).hasStaged b := by
    have hf := only_enterSlot (s.dropStaged a) a (afterDiscard (s.slotState a))
    unfold State.hasStaged State.stagedRec State.discardSlot
    rw [hf.rest .staged (by decide), hf.rest .plan (by decide)]
  rw [hd]
  unfold State.hasStaged State.stagedRec State.dropStaged
  by_cases h : b = a
  · subst h
    simp
  · rw [look_del_ne _ _ _ fun e => h (stagedKey_inj e)]
    simp [h]

/-- Slots discarded one after the other: a slot listed twice is discarded as one listed once. -/
theorem discardEach_slotState (l : List Nat) (s : State) (b : Nat) :
    (l.foldl State.discardSlot s).slotState b = if b ∈ l then afterDiscard (s.slotState b) else s.slotState b := by
  induction l generalizing s with
  | nil => rfl
  | cons a l ih =>
    rw [List.foldl_cons, ih, State.discardSlot_slotState]
    by_cases h : b = a
    · subst h
      simp [afterDiscard_idem]
    · simp [h]

theorem discardEach_hasStaged (l : List Nat) (s : State) (b : Nat) :
    (l.foldl State.discardSlot s).hasStaged b = (s.hasStaged b && !l.contains b) := by
  induction l generalizing s with
  | nil => simp
  | cons a l ih =>
    rw [List.foldl_cons, ih, State.discardSlot_hasStaged, List.contains_cons, Bool.not_or, Bool.and_assoc]
    rfl

theorem only_discardEach (l : List Nat) (s : State) : Only s (l.foldl State.discardSlot s) [.staged, .plan, .blobs] (l.map slotStateKey) :=
  Only.foldl _ _ (.same ..) fun w a ha h => (only_discardSlot w a).and h (fun _ hp => hp) (by simpa using List.mem_map_of_mem ha)

theorem look_filter_none {α : Type} (p : Nat × α → Bool) {m : SMap α} {k : Nat} (h : look m k = none) : look (m.filter p) k = none := by
  induction m with
  | nil => rfl
  | cons e m ih =>
    obtain ⟨a, b⟩ := e
    have hk : a ≠ k := fun hk => by simp [look, hk] at h
    have hm : look m k = none := by simpa [look, hk] using h
    rw [List.filter_cons]
    split
    · simpa [look, hk] using ih hm
    · exact ih hm

theorem State.discardSlot_pending (s : State) (slot : Nat) : (s.discardSlot slot).plan.pending = s.plan.pending :=
  have hp : (s.discardSlot slot).plan = (s.dropStaged slot).plan :=
    (only_enterSlot (s.dropStaged slot) slot (afterDiscard (s.slotState slot))).rest .plan (by decide)
  hp ▸ rfl

theorem discardEach_pending (l : List Nat) (s : State) : (l.foldl State.discardSlot s).plan.pending = s.plan.pending := by
  induction l generalizing s with
  | nil => rfl
  | cons a l ih => rw [List.foldl_cons, ih, State.discardSlot_pending]

/-- The staged content of every slot is gone, after the copy of a pending generation. -/
def State.slotsDiscarded (s : State) : State := (keys s.stagedSlots).foldl State.discardSlot s.copyPending

theorem State.copyPending_discardSlots (s : State) : s.copyPending.discardSlots = s.slotsDiscarded := by
  have hc := only_copyPending s
  rw [State.discardSlots_eq, State.stagedSlots_congr (hc.rest .staged (by simp)) (hc.rest .plan (by simp))]
  rfl

/-- The staged objects are gone, and no generation is pending that would keep any of what was staged. -/
def State.objectsDiscarded (s : State) : State :=
  { s with staged := s.staged.minus s.stagedObjs, plan := { s.plan with pending := [] } }

theorem only_objectsDiscarded (s : State) : Only s s.objectsDiscarded [.staged, .plan] [] := only_staged_plan ..

/-- Everything staged is gone, the slots' content and the objects'. -/
def State.allDiscarded (s : State) : State := s.slotsDiscarded.objectsDiscarded.setN O.commitStatus csIDLE

theorem discardAll_running {s : State} (x : Session) (h : s.commitStatus = csRUNNING) : discardAll x s = (.deviceState, s) := if_pos h

theorem discardAll_idle {s : State} (x : Session) (h : s.commitStatus ≠ csRUNNING) :
    (discardAll x s).1 = .ok ∧ (discardAll x s).2.commitStatus = csIDLE := by
  unfold discardAll
  rw [if_neg h]
  exact ⟨rfl, State.setN_self ..⟩

theorem discardAll_noPending {s : State} (x : Session) (h : s.commitStatus ≠ csRUNNING) (hp : s.plan.pending = []) :
    (discardAll x s).2 = s.allDiscarded := by
  have hw : s.slotsDiscarded.plan.pending = [] :=
    (discardEach_pending ..).trans ((congrArg PlanSt.pending ((only_copyPending s).rest .plan (by simp))).trans hp)
  unfold discardAll
  rw [if_neg h]
  simp only [State.copyPending_discardSlots, hw, List.foldl_nil, List.map_nil]
  rfl

theorem State.allDiscarded_hasStaged {s : State} {slot : Nat} (h : slot ∈ keys s.stagedSlots) : s.allDiscarded.hasStaged slot = false := by
  have hw : s.slotsDiscarded.hasStaged slot = false := by
    unfold State.slotsDiscarded
    rw [discardEach_hasStaged]
    simp [h]
  unfold State.hasStaged State.stagedRec at hw ⊢
  rw [Bool.or_eq_false_iff, Option.isSome_eq_false_iff, Option.isNone_iff_eq_none] at hw ⊢
  obtain ⟨hrec, hdel⟩ := hw
  exact ⟨look_filter_none _ hrec, hdel⟩

theorem State.allDiscarded_slotState {s : State} {slot : Nat} (h : slot ∈ keys s.stagedSlots) :
    s.allDiscarded.slotState slot = afterDiscard (s.slotState slot) := by
  have hw : s.slotsDiscarded.slotState slot = afterDiscard (s.slotState slot) := by
    have hc : s.copyPending.slotState slot = s.slotState slot :=
      (only_copyPending s).n_eq (by simpa using ⟨slotStateKey_ne (by decide), slotStateKey_ne (by decide)⟩) (by decide)
    unfold State.slotsDiscarded
    rw [discardEach_slotState, if_pos h, hc]
  exact (State.setN_other _ _ _ _ (slotStateKey_ne (by decide)) (by decide)).trans hw

/-- The objects that a discard of everything staged may write. -/
def State.discardKeys (s : State) : List Nat :=
  [O.commitStatus, O.pendingGeneration, O.pendingSwitchTick] ++ (keys s.stagedSlots).map slotStateKey

theorem only_allDiscarded (s : State) : Only s s.allDiscarded [.staged, .plan, .blobs] s.discardKeys := by
  have hw : Only s s.slotsDiscarded [.staged, .plan, .blobs] s.discardKeys :=
    (only_discardEach ..).and ((only_copyPending s).mono (by simp) (by simp [State.discardKeys])) (fun _ hp => hp)
      (fun _ => List.mem_append_right _)
  exact (hw.two (only_objectsDiscarded _) (by decide) (by decide)).obj (only_setN ..) (by simp [State.discardKeys])

theorem discardAllStaged_runs {s : State} {t : Nat} {who : Who} {x : Session} (h : s.MayWrite who x 0x5000 1 5)
    (hs : s.commitStatus ≠ csRUNNING) :
    Runs (.discardAllStaged t who) s fun u => u.commitStatus = csIDLE ∧ u.answered who .ok ∧ (s.plan.pending = [] →
      (∀ slot ∈ keys s.stagedSlots, u.hasStaged slot = false ∧ (s.slotState slot = 1 → u.slotState slot = 0) ∧
        (s.slotState slot ∈ [3, 4] → u.slotState slot = 2) ∧ (s.slotState slot ∈ [0, 2, 5, 6] → u.slotState slot = s.slotState slot)) ∧
      Only s u [.staged, .plan, .power, .access, .bridge, .blobs] s.discardKeys) := by
  have hw : (s.heard t who 0x5000 1).commitStatus ≠ csRUNNING := by rwa [State.heard_commitStatus]
  have hslots : (s.heard t who 0x5000 1).stagedSlots = s.stagedSlots := State.stagedSlots_congr (State.heard_staged ..) (State.heard_plan ..)
  have hkeys : (s.heard t who 0x5000 1).discardKeys = s.discardKeys := by rw [State.discardKeys, hslots, State.discardKeys]
  obtain ⟨hok, hidle⟩ := discardAll_idle x hw
  have hact : discardAll x (s.heard t who 0x5000 1) = (.ok, (discardAll x (s.heard t who 0x5000 1)).2) := Prod.ext hok rfl
  refine .intro (cmdRow_runs h t discardAll hact) ⟨((only_answer ..).n_all _).trans hidle,
    h.toTakes.answered (same_access (discardAll_core rfl ..)) .ok, fun hp => ?_⟩
  have hall := discardAll_noPending x hw ((congrArg PlanSt.pending (State.heard_plan ..)).trans hp)
  rw [hall]
  have hu := only_answer (s.heard t who 0x5000 1).allDiscarded who (Response.of .ok)
  refine ⟨fun slot hm => ?_, ?_⟩
  · rw [← hslots] at hm
    have hslot : ((s.heard t who 0x5000 1).allDiscarded.answer who (Response.of .ok)).slotState slot = afterDiscard (s.slotState slot) :=
      (hu.n_all _).trans ((State.allDiscarded_slotState hm).trans (congrArg afterDiscard (State.heard_n ..)))
    rw [hslot, State.hasStaged_congr (hu.rest .staged (by decide)) (hu.rest .plan (by decide)), State.allDiscarded_hasStaged hm]
    exact ⟨rfl, fun e => by rw [e]; rfl, afterDiscard_staged, afterDiscard_other⟩
  · rw [← hkeys]
    exact ((only_allDiscarded _).and ((only_heard ..).mono (by simp) (by simp)) (by simp) (fun _ hk => hk)).two hu (by simp) (by simp)

end Sys2Proof.Machine

open Sys2Proof Sys2Proof.Machine

/-- Settles O8, by what the start, the abort and the discard leave; a refused command answers out of the state it met. -/
theorem commitCommands : Obligations.CommitCommands := by
  refine ⟨fun s t cmd who x c h hs hc => ?_, fun s t who x => commitAbort_running, fun s t who x => discardAllStaged_runs,
    fun s t cmd who x c h hc hr => ?_⟩
  · have hactive (hp : s.n O.powerState ≠ 2) :=
      whenActive_active (s := s.heard t who 0x5000 1) (startCommit cmd who.sess) x (by rwa [State.heard_n])
    rcases hc with ⟨rfl, rfl, hp⟩ | ⟨rfl, rfl, hp⟩ | ⟨rfl, rfl⟩
    · exact startCommit_runs h hs _ rfl (hactive hp)
    · exact startCommit_runs h hs _ rfl (hactive hp)
    · exact startCommit_runs h hs _ rfl rfl
  · rw [← State.heard_commitStatus s t who 0x5000 1, ← State.heard_n s t who 0x5000 1 O.powerState] at hr
    rcases hc with ⟨rfl, rfl⟩ | ⟨rfl, rfl⟩ | ⟨rfl, rfl⟩ | ⟨rfl, rfl⟩
    · exact h.runs_refused _ rfl (whenActive_refused _ _ x (hr.imp_right And.left))
    · exact h.runs_refused _ rfl (whenActive_refused _ _ x (hr.imp_right And.left))
    · exact h.runs_refused _ rfl (startCommit_running _ _ x (hr.resolve_right (by simp)))
    · exact h.runs_refused _ rfl (discardAll_running x (hr.resolve_right (by simp)))

/-- Settles O11: an abort of a running commit keeps every part of the plan but the snapshot, any other is refused. -/
theorem abortOnlyRunningCommit : Obligations.AbortOnlyRunningCommit := by
  refine fun s t who x h => ⟨fun hs => (commitAbort_running h hs).imp fun u ⟨hst, hplan, hans, hf⟩ => ?_,
    fun hs => (commitAbort_alreadyDone h hs).imp fun u ⟨hans, hf⟩ => ⟨hans, hf.n_all _, hf⟩⟩
  rw [hplan]
  exact ⟨hans, hst, rfl, rfl, rfl, hf.rest .staged (by decide), hf⟩
end

section
/-! Proofs about shadow plans and stream declarations (R81, R82, R91 to R97, R100): what the report of a distribution, of an
activation and of an urgent plan leaves, and what a talker's and a listener's declaration leave. -/
namespace Sys2Proof.Machine
open Sys2Proof

theorem Only.within {s u : State} {P : List Part} {K : List Nat} (h : Only s u P K) : Within s u P :=
  ⟨h.variant, h.queue, fun p _ hp => h.rest p hp⟩

/-- A command that replaces the plan's state changes nothing beside it. -/
theorem only_startPlan (s : State) (t : Nat) (x : PlanSt) : Only s { s.begin t with plan := x } [.plan] [] :=
  (Only.start t s _ _).setPlan x (by decide)

/-! ### The case records shown (R92) -/

/-- The objects that show the case records. -/
def caseKeys : List Nat := [O.faultCases, O.shadowPlansDistributed, O.uncoveredFaultCases, O.faultStatus]

theorem only_refreshCases (s : State) : Only s s.refreshCases [] caseKeys :=
  ((((Only.same s _ _).obj (only_setN ..) (by decide)).obj (only_setN ..) (by decide)).obj (only_setN ..) (by decide)).obj
    (only_setN ..) (by decide)

theorem State.refreshCases_plan (s : State) : s.refreshCases.plan = s.plan := rfl

/-! ### Distribution (R92) -/

theorem any_undistributed (l : List CaseSt) :
    l.any (fun c => decide (c.state < 2)) = !l.all (fun c => decide (2 ≤ c.state)) := by
  simp only [List.not_all_eq_any_not, ← decide_not, Nat.not_le]

theorem shadowDistributed_early {s : State} {code : Nat}
    (h : (s.plan.cases.takeWhile (fun c => c.code != code)).all (fun c => decide (2 ≤ c.state)) = false) :
    shadowDistributed code s = s :=
  if_pos (by rw [any_undistributed, h]; rfl)

/-- With no fault in force no case is UNCOVERED. -/
theorem shadowDistributed_inTurn {s : State} {code : Nat} (hf : s.plan.faults = [])
    (h : (s.plan.cases.takeWhile (fun c => c.code != code)).all (fun c => decide (2 ≤ c.state)) = true) :
    shadowDistributed code s = ({ s with plan := { s.plan with
      cases := s.plan.cases.map (fun c : CaseSt => if c.code = code then { c with state := 2 } else c) } }).refreshCases := by
  unfold shadowDistributed
  rw [any_undistributed, h, hf]
  rfl

theorem shadowPlanDistributed_early {s : State} {t code : Nat}
    (h : (s.plan.cases.takeWhile (fun c => c.code != code)).all (fun c => decide (2 ≤ c.state)) = false) :
    Runs (.shadowPlanDistributed t code) s fun u => u.plan = s.plan ∧ Only s u [] [] :=
  .intro (congrArg Host.Outcome.next (shadowDistributed_early (s := s.begin t) h)) ⟨rfl, only_begin t s⟩

theorem shadowPlanDistributed_inTurn {s : State} {t code : Nat} (hf : s.plan.faults = [])
    (h : (s.plan.cases.takeWhile (fun c => c.code != code)).all (fun c => decide (2 ≤ c.state)) = true) :
    Runs (.shadowPlanDistributed t code) s fun u =>
      u.plan = { s.plan with cases := s.plan.cases.map (fun c => if c.code = code then { c with state := 2 } else c) } ∧ Within s u [.plan] := by
  have hu : exec (.shadowPlanDistributed t code) s = .next _ :=
    congrArg Host.Outcome.next (shadowDistributed_inTurn (s := s.begin t) hf h)
  exact .intro hu ⟨State.refreshCases_plan _, exec_within _ s _ hu⟩

/-! ### Activation reports (R95) -/

theorem activationReceive_waits {s : State} {d code first : Nat} (ha : s.plan.activating = some (code, first)) (hd : s.dieUp d = true)
    (hw : ∃ e ∈ bitsSet (s.reporters code) 8, e ≠ d ∧ bit s.plan.reported e = false) :
    activationReceive d code s = { s with plan := { s.plan with reported := setBit s.plan.reported d true } } := by
  obtain ⟨e, he, hne, hb⟩ := hw
  have hmissing : (bitsSet (s.reporters code) 8).all (bit (setBit s.plan.reported d true)) = false :=
    List.all_eq_false.mpr ⟨e, he, by rw [bit_setBit_ne _ _ _ _ hne, hb]; decide⟩
  unfold activationReceive
  rw [ha]
  exact (if_neg (by simp [hd])).trans (if_neg (by rw [Bool.not_eq_true]; exact hmissing))

theorem activationReceive_runs {s : State} {t die code first : Nat} (ha : s.plan.activating = some (code, first))
    (hd : s.dieUp die = true) (hw : ∃ d ∈ bitsSet (s.reporters code) 8, d ≠ die ∧ bit s.plan.reported d = false) :
    Runs (.activationReceive t die code) s fun u =>
      u.plan = { s.plan with reported := setBit s.plan.reported die true } ∧ Only s u [.plan] [] :=
  .intro (congrArg Host.Outcome.next (activationReceive_waits (s := s.begin t) ha hd hw)) ⟨rfl, only_startPlan ..⟩

/-! ### The end of a switch-over (R92, R95, R100) -/

/-- The package has settled: the cases of the reduced package have been examined and their plans taken up. -/
def PlanSt.settledWith (p : PlanSt) (os : List CaseOutcome) : PlanSt :=
  { p with settling := none, active := { p.active with cases := os.filterMap CaseOutcome.plan }, cases := os.map CaseOutcome.st }

theorem faultPlanActive_settles {s w : State} {code first : Nat} (ha : s.plan.activating = none)
    (hs : s.plan.settling = some (code, first)) (hw : w = s.setN O.lastRecoveryTime (satN (2 ^ 32 - 1) (s.now - first))) :
    faultPlanActive s =
      ({ w with plan := w.plan.settledWith (examineCases w w.plan.active.contracts w.plan.active.place) }).refreshCases.logLead
        Ev.faultPlanActive 0xFFFF [(4, code), (4, s.plan.active.gen), (4, satN (2 ^ 32 - 1) (s.now - first))] := by
  subst hw
  unfold faultPlanActive
  rw [ha]
  dsimp only
  rw [hs]
  rfl

theorem faultPlanActive_runs {s w : State} {t code first : Nat} (ha : s.plan.activating = none)
    (hs : s.plan.settling = some (code, first))
    (hw : w = (s.begin t).setN O.lastRecoveryTime (satN (2 ^ 32 - 1) (s.localAt t - first))) :
    Runs (.faultPlanActive t) s fun u =>
      u.plan = s.plan.settledWith (examineCases w w.plan.active.contracts w.plan.active.place) ∧
      u.n O.lastRecoveryTime = satN (2 ^ 32 - 1) (s.localAt t - first) ∧ Within s u [.plan, .logs] := by
  have hplan : w.plan = s.plan := by rw [hw, State.setN_plan, State.begin_plan]
  have hshown : w.n O.lastRecoveryTime = satN (2 ^ 32 - 1) (s.localAt t - first) := by rw [hw, State.setN_self]
  have hstart : Only s w [.plan, .logs] (O.lastRecoveryTime :: caseKeys) := by
    rw [hw]
    exact (Only.start t s _ _).obj (only_setN ..) (by decide)
  refine .intro (congrArg Host.Outcome.next (faultPlanActive_settles (s := s.begin t) ha hs hw)) ⟨?_, ?_, ?_⟩
  · rw [State.logLead_plan, State.refreshCases_plan, hplan]
  · rw [State.logLead_n, (only_refreshCases _).n_eq (by decide) (by decide)]
    exact hshown
  · exact (((only_refreshCases _).and (hstart.setPlan _ (by decide)) (by simp) (fun _ => List.mem_cons_of_mem _)).one (only_logLead ..)
      (by decide)).within

/-! ### An activation sent to its dies (R94, R95) -/

theorem only_sendReports (code : Nat) (l : List Nat) (s : State) : Only s (l.foldl (fun s d => s.emit (.activation d code)) s) [] [] :=
  Only.foldl _ l (.refl s) fun _ _ _ h => h.none (only_emit ..)

theorem State.sendActivation_activating (s : State) (code first : Nat) : (s.sendActivation code first).plan.activating = some (code, first) :=
  congrArg PlanSt.activating ((only_sendReports code _ _).rest .plan (by decide))

theorem State.sendActivation_reported (s : State) (code first : Nat) : (s.sendActivation code first).plan.reported = 0 :=
  congrArg PlanSt.reported ((only_sendReports code _ _).rest .plan (by decide))

theorem State.sendActivation_faultStatus (s : State) (code first : Nat) : (s.sendActivation code first).n O.faultStatus = 0 :=
  ((only_sendReports code _ _).n_all _).trans (State.setN_self ..)

theorem State.basePlan_nil {s : State} (h : s.plan.base = []) (code : Nat) : s.basePlan code = none := by
  unfold State.basePlan
  rw [h]
  exact ite_self _

theorem State.yields_idle {s : State} (h : s.plan.activating = none) (code : Nat) : s.yields code = none := by
  unfold State.yields
  rw [h]

/-- A case that reads DISTRIBUTED or UNCOVERED and has a plan can be activated. -/
theorem State.casePlan_isSome {s : State} {code : Nat} {c : CaseSt} {p : CasePlan} (hc : c ∈ s.plan.cases) (hcode : c.code = code)
    (hst : 2 ≤ c.state) (hp : p ∈ s.plan.active.cases) (hpcode : p.code = code) : (s.casePlan code).isSome = true := by
  have hany : s.plan.cases.any (fun c => c.code == code && decide (2 ≤ c.state)) = true :=
    List.any_eq_true.mpr ⟨c, hc, by simp [hcode, hst]⟩
  unfold State.casePlan
  rw [if_pos hany, List.find?_isSome]
  exact ⟨p, hp, by simp [hpcode]⟩

/-- With no activation under way and no link fault's plan in force, a case that has a plan is activated at once. -/
theorem State.activate_idle {s : State} {code first : Nat} (ha : s.plan.activating = none) (hb : s.plan.base = [])
    (hp : (s.casePlan code).isSome = true) : s.activate code first = s.sendActivation code first := by
  unfold State.activate
  rw [State.basePlan_nil hb]
  dsimp only
  rw [State.yields_idle ha]
  exact if_pos (by rw [hp, ha]; rfl)

/-! ### A plan built ahead of all others (R96) -/

/-- The case records with a new one in the place of its case's, or first where its case had none. -/
def recordCase (cs : List CaseSt) (x : CaseSt) : List CaseSt :=
  if cs.any (fun q => q.code == x.code) then cs.map (fun q => if q.code = x.code then x else q) else x :: cs

theorem mem_recordCase (cs : List CaseSt) (x : CaseSt) : x ∈ recordCase cs x := by
  unfold recordCase
  split
  next h =>
    obtain ⟨q, hq, hcode⟩ := List.any_eq_true.mp h
    exact List.mem_map.mpr ⟨q, hq, if_pos (beq_iff_eq.mp hcode)⟩
  next => exact List.mem_cons_self

theorem examineCase_st_code {s : State} {cs : SMap Bytes} {run : Placement} {code : Nat} {o : CaseOutcome}
    (h : o = examineCase s cs run code) : o.st.code = code := congrArg (fun o : CaseOutcome => o.st.code) h

theorem examineCase_plan_code {s : State} {cs : SMap Bytes} {run : Placement} {code : Nat} {o : CaseOutcome} {p : CasePlan}
    (h : o = examineCase s cs run code) (hp : o.plan = some p) : p.code = code := by
  subst h
  obtain ⟨_, _, rfl⟩ := Option.map_eq_some_iff.mp hp
  rfl

/-- An urgent case waits no more, and its record is replaced. -/
def PlanSt.urgentDone (p : PlanSt) (code : Nat) (x : CaseSt) : PlanSt :=
  { p with urgent := p.urgent.filter (fun e => e.1 != code), cases := recordCase p.cases x }

/-- The urgent case's plan joins the plans of the cases. -/
def PlanSt.urgentPlan (p : PlanSt) (code : Nat) (x : CaseSt) (c : CasePlan) : PlanSt :=
  { p.urgentDone code x with active := { p.active with cases := c :: p.active.cases.filter (fun q => q.code != code) } }

/-- The record of a case with a plan: UNCOVERED where a Strict contract is shed, else DISTRIBUTED. -/
def CaseSt.covered (x : CaseSt) : CaseSt := { x with state := if 0 < x.strictShed then 3 else 2 }

theorem CaseSt.two_le_covered (x : CaseSt) : 2 ≤ x.covered.state := by
  unfold CaseSt.covered
  dsimp only
  split <;> decide

section Urgent

variable {s b : State} {code first : Nat} {o : CaseOutcome}

theorem urgentBuilt_uncovered (hu : s.plan.urgent.find? (fun e => e.1 == code) = some (code, first)) (hb : b = s.beforeFault code)
    (ho : o = examineCase b b.plan.active.contracts b.plan.active.place code) (hp : o.plan = none) :
    urgentBuilt code s = ({ s with plan := s.plan.urgentDone code { o.st with state := 3 } }).refreshCases := by
  subst ho hb
  unfold urgentBuilt
  rw [hu]
  dsimp only
  rw [hp]
  rfl

theorem urgentBuilt_covered {p : CasePlan} (hu : s.plan.urgent.find? (fun e => e.1 == code) = some (code, first))
    (hb : b = s.beforeFault code) (ho : o = examineCase b b.plan.active.contracts b.plan.active.place code) (hp : o.plan = some p) :
    urgentBuilt code s = ({ s with plan := s.plan.urgentPlan code o.st.covered p }).activate code first := by
  subst ho hb
  unfold urgentBuilt
  rw [hu]
  dsimp only
  rw [hp]
  rfl

/-- While nothing else is activated, the plan just built is sent to its dies. -/
theorem urgentBuilt_activates {p : CasePlan} (ha : s.plan.activating = none) (hbase : s.plan.base = [])
    (hu : s.plan.urgent.find? (fun e => e.1 == code) = some (code, first)) (hb : b = s.beforeFault code)
    (ho : o = examineCase b b.plan.active.contracts b.plan.active.place code) (hp : o.plan = some p) :
    urgentBuilt code s = ({ s with plan := s.plan.urgentPlan code o.st.covered p }).sendActivation code first := by
  have hst : o.st.covered.code = code := examineCase_st_code ho
  have hcode : p.code = code := examineCase_plan_code ho hp
  rw [urgentBuilt_covered hu hb ho hp]
  exact State.activate_idle ha hbase
    (State.casePlan_isSome (mem_recordCase _ _) hst (CaseSt.two_le_covered _) List.mem_cons_self hcode)

end Urgent

theorem urgentShadowPlanBuilt_runs {s b : State} {t code first : Nat} (ha : s.plan.activating = none) (hbase : s.plan.base = [])
    (hu : s.plan.urgent.find? (fun e => e.1 == code) = some (code, first)) (hb : b = (s.begin t).beforeFault code) :
    Runs (.urgentShadowPlanBuilt t code) s fun u =>
      ((examineCase b b.plan.active.contracts b.plan.active.place code).plan.isSome = true →
        u.plan.activating = some (code, first) ∧ u.plan.reported = 0 ∧ u.n O.faultStatus = 0) ∧
      ((examineCase b b.plan.active.contracts b.plan.active.place code).plan = none →
        (∃ c ∈ u.plan.cases, c.code = code ∧ c.state = 3) ∧
        u.plan.urgent = s.plan.urgent.filter (fun e => e.1 != code) ∧ u.plan.active = s.plan.active ∧ Within s u [.plan]) := by
  generalize ho : examineCase b b.plan.active.contracts b.plan.active.place code = o
  cases hp : o.plan with
  | some p =>
    refine .intro (congrArg Host.Outcome.next (urgentBuilt_activates (s := s.begin t) ha hbase hu hb ho.symm hp)) ⟨fun _ => ?_, nofun⟩
    exact ⟨State.sendActivation_activating .., State.sendActivation_reported .., State.sendActivation_faultStatus ..⟩
  | none =>
    refine .intro (congrArg Host.Outcome.next (urgentBuilt_uncovered (s := s.begin t) hu hb ho.symm hp)) ⟨nofun, fun _ => ⟨?_, rfl, rfl, ?_⟩⟩
    · exact ⟨_, mem_recordCase _ _, examineCase_st_code ho.symm, rfl⟩
    · exact ((only_refreshCases _).and ((only_startPlan s t _).mono (fun _ hp => hp) (List.nil_subset _)) (by simp) (fun _ hk => hk)).within

/-! ### Declarations of streams (R81, R82) -/

theorem talkerAdvertise_unmatched {s : State} {lane : Nat} {ad : TalkerAd} (hl : s.hasLane lane = true)
    (h : s.plan.active.contracts.find? (fun e => adMatches s lane ad e.2) = none) :
    talkerAdvertise lane ad s = ({ s with plan := { s.plan with talkerFailures := s.plan.talkerFailures + 1 } }).emit
      (.talkerFailed lane ad.stream failBRIDGE) := by
  unfold talkerAdvertise
  rw [hl, h]
  rfl

/-- The advertise of a contract is kept with its latency, in the place of an earlier one. -/
def State.keepTalker (s : State) (slot latency : Nat) : State :=
  { s with plan := { s.plan with talkers := ⟨slot, latency⟩ :: s.plan.talkers.filter (fun x => x.slot != slot) } }

/-- Beside keeping the advertise, a match only puts advertises on the wires. -/
theorem talkerAdvertise_matched {s : State} {lane slot : Nat} {ad : TalkerAd} {r : Bytes} (hl : s.hasLane lane = true)
    (h : s.plan.active.contracts.find? (fun e => adMatches s lane ad e.2) = some (slot, r)) :
    Only (s.keepTalker slot ad.latency) (talkerAdvertise lane ad s) [] [] := by
  unfold talkerAdvertise
  rw [hl, h]
  dsimp only
  rw [Bool.not_true, if_neg Bool.false_ne_true]
  split
  next => exact .refl _
  next => exact Only.foldl _ _ (.refl _) fun _ _ _ hw => hw.none (only_emit ..)

theorem talkerAdvertise_failed {s : State} {t lane : Nat} {ad : TalkerAd} (hl : s.hasLane lane = true)
    (h : s.plan.active.contracts.find? (fun e => adMatches (s.begin t) lane ad e.2) = none) :
    Runs (.talkerAdvertise t lane ad) s fun u => u.plan = { s.plan with talkerFailures := s.plan.talkerFailures + 1 } ∧
      Out.talkerFailed lane ad.stream failBRIDGE ∈ u.out ∧ Only s u [.plan] [] :=
  .intro (congrArg Host.Outcome.next (talkerAdvertise_unmatched (s := s.begin t) hl h))
    ⟨rfl, List.mem_append_right _ List.mem_cons_self, (only_startPlan ..).none (only_emit ..)⟩

theorem talkerAdvertise_kept {s : State} {t lane slot : Nat} {ad : TalkerAd} {r : Bytes} (hl : s.hasLane lane = true)
    (h : s.plan.active.contracts.find? (fun e => adMatches (s.begin t) lane ad e.2) = some (slot, r)) :
    Runs (.talkerAdvertise t lane ad) s fun u =>
      u.plan = { s.plan with talkers := ⟨slot, ad.latency⟩ :: s.plan.talkers.filter (fun x => x.slot != slot) } ∧ Only s u [.plan] [] := by
  have hu := talkerAdvertise_matched (s := s.begin t) hl h
  exact .intro rfl ⟨hu.rest .plan (by decide), (only_startPlan ..).none hu⟩

/-- The listeners after a declaration: the declared one is entered once, or withdrawn. -/
def declaredListeners (ls : List Listener) (l : Listener) (ready : Bool) : List Listener :=
  if ready then l :: ls.filter (fun x => x != l) else ls.filter (fun x => x != l)

theorem mem_declaredListeners_self (ls : List Listener) (l : Listener) (ready : Bool) : l ∈ declaredListeners ls l ready ↔ ready = true := by
  cases ready <;> simp [declaredListeners]

theorem mem_declaredListeners_ne {ls : List Listener} {l x : Listener} (ready : Bool) (h : x ≠ l) :
    x ∈ declaredListeners ls l ready ↔ x ∈ ls := by
  cases ready <;> simp [declaredListeners, h]

theorem listenerDeclaration_known {s : State} {lane slot : Nat} {stream r : Bytes} (ready : Bool)
    (h : s.plan.active.contracts.find? (fun e => msrpContract e.2 && Contract.stream e.2 == stream) = some (slot, r)) :
    listenerDeclaration lane stream ready s =
      { s with plan := { s.plan with listeners := declaredListeners s.plan.listeners ⟨slot, lane⟩ ready } } := by
  unfold listenerDeclaration
  rw [h]
  rfl

theorem listenerDeclaration_runs {s : State} {t lane slot : Nat} {stream r : Bytes} {ready : Bool}
    (h : s.plan.active.contracts.find? (fun e => msrpContract e.2 && Contract.stream e.2 == stream) = some (slot, r)) :
    Runs (.listenerDeclaration t lane stream ready) s fun u =>
      (⟨slot, lane⟩ ∈ u.plan.listeners ↔ ready = true) ∧
      (∀ l, l ≠ ⟨slot, lane⟩ → (l ∈ u.plan.listeners ↔ l ∈ s.plan.listeners)) ∧ Only s u [.plan] [] :=
  .intro (congrArg Host.Outcome.next (listenerDeclaration_known (s := s.begin t) ready h))
    ⟨mem_declaredListeners_self .., fun _ => mem_declaredListeners_ne ready, only_startPlan ..⟩

end Sys2Proof.Machine

open Sys2Proof Sys2Proof.Machine

/-- Settles O10, by what each report about a fault case and each declaration of a stream leaves. -/
theorem shadowPlansAndStreams : Obligations.ShadowPlansAndStreams :=
  ⟨fun _ _ _ => shadowPlanDistributed_inTurn, fun _ _ _ => shadowPlanDistributed_early,
    fun _ _ _ _ _ ha hd hw _ => activationReceive_runs ha hd hw, fun _ _ _ _ _ => faultPlanActive_runs,
    fun _ _ _ _ _ => urgentShadowPlanBuilt_runs, fun _ _ _ _ => talkerAdvertise_failed, fun _ _ _ _ _ _ => talkerAdvertise_kept,
    fun _ _ _ _ _ _ _ => listenerDeclaration_runs⟩
end

section
/-! Proofs about the link commands of a lane (R106 to R108, R119 to R123, R161): how it gains and loses lock, negotiates, enters and leaves
service, and leaves and rejoins its group. -/
namespace Sys2Proof.Machine
open Sys2Proof

/-! ### The keys of a lane's objects (R122) -/

/-- An object that runs over indexes keeps its subindex. -/
theorem byIdx_mod (m n : Nat) : byIdx m n % 256 = m % 256 := by
  unfold byIdx
  omega

theorem byIdx_ne {m n k : Nat} (h : k % 256 ≠ m % 256) : byIdx m n ≠ k := by
  rintro rfl
  exact h (byIdx_mod m n)

theorem byIdx_ne_byIdx {m k n j : Nat} (h : k % 256 ≠ m % 256) : byIdx m n ≠ byIdx k j := byIdx_ne (by rwa [byIdx_mod])

/-- *preemption status* runs over subindexes, past the indexes of the lanes' objects. -/
theorem preemptionKey_ne {n k m : Nat} (hn : n < 64) (hm : m < 64) (hk : k < 0x220100) : laneSub O.preemptionStatus n ≠ laneKey k m := by
  simp only [laneSub, bySub, laneKey, byIdx, O.preemptionStatus]
  omega

theorem preemptionKey_ne_nodeID {n : Nat} (hn : n < 64) : laneSub O.preemptionStatus n ≠ O.nodeID := by
  simp only [laneSub, bySub, O.preemptionStatus, O.nodeID]
  omega

/-! ### Reading and writing one bit of *link status* (R123) -/

theorem State.setLink_link (s : State) (n i j : Nat) (b : Bool) : (s.setLink n i b).link n j = if j = i then b else s.link n j := by
  unfold State.setLink State.link State.flag
  rw [State.setFlag_self, bit_setBit]

@[simp] theorem State.setLink_link_self (s : State) (n i : Nat) (b : Bool) : (s.setLink n i b).link n i = b := by
  rw [State.setLink_link, if_pos rfl]

theorem State.setLink_link_ne (s : State) {n i j : Nat} (b : Bool) (h : j ≠ i) : (s.setLink n i b).link n j = s.link n j := by
  rw [State.setLink_link, if_neg h]

@[simp] theorem State.setLink_lane (s : State) (n i m : Nat) (b : Bool) : (s.setLink n i b).lane m = s.lane m := rfl

@[simp] theorem State.setN_lane (s : State) (k v m : Nat) : (s.setN k v).lane m = s.lane m := rfl

theorem only_setLink (s : State) (n i : Nat) (b : Bool) : Only s (s.setLink n i b) [] [laneKey O.linkStatus n] := only_setFlag ..

theorem State.setLink_n (s : State) {n k : Nat} (i : Nat) (b : Bool) (h : k ≠ laneKey O.linkStatus n) : (s.setLink n i b).n k = s.n k :=
  State.setFlag_other s _ i k b h (byIdx_ne (by decide))

section Frames

variable {s u : State} {P : List Part} {K : List Nat}

/-- A frame without *link status* leaves each of its bits. -/
theorem Only.link_eq (h : Only s u P K) {n : Nat} (hk : laneKey O.linkStatus n ∉ K) (hid : O.nodeID ∉ K) (i : Nat) :
    u.link n i = s.link n i := congrArg (bit · i) (h.n_eq hk hid)

theorem State.lane_congr (h : u.lanes = s.lanes) (n : Nat) : u.lane n = s.lane n := congrArg (fun ls => get ({} : LaneSt) ls n) h

/-- A change of *link status* leaves the group that a lane is in. -/
theorem Only.lagOf_eq {m : Nat} (h : Only s u P [laneKey O.linkStatus m]) (n : Nat) : u.lagOf n = s.lagOf n := by
  have hid : O.nodeID ∉ [laneKey O.linkStatus m] := fun hk => byIdx_ne (by decide) (List.mem_singleton.mp hk).symm
  have hm (g : Nat) : bit (u.n (byIdx O.members g)) n = bit (s.n (byIdx O.members g)) n :=
    congrArg (bit · n) (h.n_eq (fun hk => byIdx_ne_byIdx (by decide) (List.mem_singleton.mp hk)) hid)
  exact congrArg (fun p => (List.range 32).find? p) (funext hm)

end Frames

theorem State.setN_link (s : State) {k n : Nat} (v i : Nat) (hk : laneKey O.linkStatus n ≠ k) (hid : O.nodeID ≠ k) :
    (s.setN k v).link n i = s.link n i :=
  (only_setN s k v).link_eq (by simpa using hk) (by simpa using hid) i

/-- 2 and 8 are the subindexes of the node-ID, which the defaults depend on, and of *link status*. -/
theorem State.setN_byIdx_link (s : State) {m : Nat} (j n v i : Nat) (hm : m % 256 ∉ [2, 8]) :
    (s.setN (byIdx m j) v).link n i = s.link n i := by
  simp only [List.mem_cons, List.not_mem_nil, or_false, not_or] at hm
  obtain ⟨hid, hlink⟩ := hm
  exact s.setN_link v i (byIdx_ne_byIdx hlink) (byIdx_ne (Ne.symm hid)).symm

theorem State.setPreemption_link (s : State) {n : Nat} (hn : n < 64) (v i : Nat) :
    (s.setN (laneSub O.preemptionStatus n) v).link n i = s.link n i :=
  s.setN_link v i (preemptionKey_ne hn hn (by decide)).symm (preemptionKey_ne_nodeID hn).symm

@[simp] theorem State.updLane_link (s : State) (m n i : Nat) (f : LaneSt → LaneSt) : (s.updLane m f).link n i = s.link n i :=
  (only_updLane ..).link_eq (by simp) (by simp) i

@[simp] theorem State.logEv_link (s : State) (d n i : Nat) (ev : Ev) (unit : Nat) (data : List (Nat × Nat)) :
    (s.logEv d ev unit data).link n i = s.link n i := (only_logEv ..).link_eq (by simp) (by simp) i

theorem State.link_ite (c : Prop) [Decidable c] (a b : State) (n i : Nat) :
    (if c then a else b).link n i = if c then a.link n i else b.link n i := apply_ite (fun w : State => w.link n i) c a b

theorem State.lane_ite (c : Prop) [Decidable c] (a b : State) (n : Nat) :
    (if c then a else b).lane n = if c then a.lane n else b.lane n := apply_ite (fun w : State => w.lane n) c a b

/-! ### The link-up hold-off (R107) -/

theorem only_tryHoldOff (s : State) (n : Nat) : Only s (s.tryHoldOff n) [.lanes] [laneKey O.linkStatus n] :=
  .ite (((Only.same s _ _).obj (only_setLink ..) (by simp)).one (only_updLane ..) (by simp)) (.same ..)

theorem State.tryHoldOff_link (s : State) (n : Nat) {i : Nat} (h : i ≠ lkHOLDOFF) : (s.tryHoldOff n).link n i = s.link n i := by
  unfold State.tryHoldOff
  rw [State.link_ite, State.updLane_link, State.setLink_link_ne _ _ h, ite_self]

theorem State.tryHoldOff_lossSince (s : State) (n : Nat) : ((s.tryHoldOff n).lane n).lossSince = (s.lane n).lossSince := by
  unfold State.tryHoldOff
  rw [State.lane_ite, State.lane_updLane_self, apply_ite LaneSt.lossSince, State.setLink_lane, ite_self]

theorem only_breakHoldOff (s : State) (n : Nat) :
    Only s (s.breakHoldOff n) [.lanes] [laneKey O.linkStatus n, laneSub O.preemptionStatus n] := by
  have hb := ((Only.same s [.lanes] [laneKey O.linkStatus n, laneSub O.preemptionStatus n]).obj (only_setLink s n lkHOLDOFF false)
    (by simp)).one (only_updLane _ n fun l => { l with upSince := none }) (by simp)
  exact .ite (hb.obj (only_setN ..) (by simp)) hb

theorem State.breakHoldOff_link (s : State) {n : Nat} (hn : n < 64) (i : Nat) :
    (s.breakHoldOff n).link n i = if i = lkHOLDOFF then false else s.link n i := by
  unfold State.breakHoldOff
  rw [State.link_ite, State.setPreemption_link _ hn, ite_self, State.updLane_link, State.setLink_link]

theorem State.breakHoldOff_lane (s : State) (n : Nat) : (s.breakHoldOff n).lane n = { s.lane n with upSince := none } := by
  unfold State.breakHoldOff
  simp only [State.lane_ite, State.setN_lane, State.lane_updLane_self, State.setLink_lane, ite_self]

/-! ### Lock gained and lost (R107, R123) -/

/-- A lane has gained lock, before its link-up hold-off. -/
def State.locked (s : State) (n : Nat) : State :=
  let s := (s.setLink n lkLOCK true).updLane n (fun l => { l with lossSince := none })
  let s := if s.link n lkRATEMISMATCH then s else s.setLink n lkSIGNAL true
  if s.usesAutoneg n then s else s.setLink n lkANDONE true

theorem lockGained_enabled {s : State} {n : Nat} (h : s.laneOn n = true) : lockGained n s = (s.locked n).tryHoldOff n := if_pos h

theorem only_locked (s : State) (n : Nat) : Only s (s.locked n) [.lanes] [laneKey O.linkStatus n] := by
  have hl := ((Only.same s [.lanes] [laneKey O.linkStatus n]).obj (only_setLink s n lkLOCK true) (by simp)).one
    (only_updLane _ n fun l => { l with lossSince := none }) (by simp)
  have hs (c : Prop) [Decidable c] := Only.ite (c := c) hl (hl.obj (only_setLink _ n lkSIGNAL true) (by simp))
  exact .ite (hs _) ((hs _).obj (only_setLink ..) (by simp))

theorem State.locked_link (s : State) (n : Nat) : (s.locked n).link n lkLOCK = true := by
  unfold State.locked
  simp (disch := decide) only [State.link_ite, State.setLink_link_ne, State.updLane_link, State.setLink_link_self, ite_self]

theorem State.locked_lossSince (s : State) (n : Nat) : ((s.locked n).lane n).lossSince = none := by
  unfold State.locked
  simp only [State.lane_ite, State.setLink_lane, State.lane_updLane_self, ite_self]

theorem lockGained_runs {s : State} {t n : Nat} (h : s.laneOn n = true) :
    Runs (.lockGained t n) s fun u => u.link n lkLOCK = true ∧ (u.lane n).lossSince = none ∧ Only s u [.lanes] [laneKey O.linkStatus n] := by
  refine .intro (congrArg Host.Outcome.next (lockGained_enabled (s := s.begin t) h)) ⟨?_, ?_, ?_⟩
  · exact (State.tryHoldOff_link _ n (by decide)).trans (State.locked_link ..)
  · exact (State.tryHoldOff_lossSince ..).trans (State.locked_lossSince ..)
  · exact ((only_tryHoldOff ..).and (only_locked ..) (fun _ hp => hp) (fun _ hk => hk)).begin

/-- A lane has lost lock, before its loss hold-off. -/
def State.unlocked (s : State) (n : Nat) : State :=
  let s := (s.setLink n lkLOCK false).breakHoldOff n
  if s.usesAutoneg n then s.setLink n lkANDONE false else s

theorem lockLost_enabled {s : State} {n : Nat} (h : s.laneOn n = true) :
    lockLost n s = (s.unlocked n).updLane n fun l => { l with lossSince := some (l.lossSince.getD (s.unlocked n).now) } := if_pos h

theorem only_unlocked (s : State) (n : Nat) : Only s (s.unlocked n) [.lanes] [laneKey O.linkStatus n, laneSub O.preemptionStatus n] := by
  have hb := (only_breakHoldOff (s.setLink n lkLOCK false) n).and ((only_setLink ..).mono (by simp) (by simp)) (fun _ hp => hp)
    (fun _ hk => hk)
  exact .ite (hb.obj (only_setLink ..) (by simp)) hb

theorem State.unlocked_link (s : State) {n : Nat} (hn : n < 64) {i : Nat} (hi : i ∈ [lkLOCK, lkHOLDOFF]) :
    (s.unlocked n).link n i = false := by
  have ha : i ≠ lkANDONE := by
    revert i
    decide
  unfold State.unlocked
  rw [State.link_ite, State.setLink_link_ne _ _ ha, ite_self, State.breakHoldOff_link _ hn, State.setLink_link]
  simp only [List.mem_cons, List.not_mem_nil, or_false] at hi
  rcases hi with rfl | rfl <;> rfl

theorem State.unlocked_lane (s : State) (n : Nat) : (s.unlocked n).lane n = { s.lane n with upSince := none } := by
  unfold State.unlocked
  simp only [State.lane_ite, State.setLink_lane, State.breakHoldOff_lane, ite_self]

theorem State.unlocked_now (s : State) (n : Nat) : (s.unlocked n).now = s.now := by
  unfold State.unlocked State.breakHoldOff State.setLink
  simp only [apply_ite State.now, State.setFlag_now, State.setN_now, State.updLane_now, ite_self]

theorem lockLost_runs {s : State} {t n : Nat} (hn : n < 64) (h : s.laneOn n = true) :
    Runs (.lockLost t n) s fun u => u.link n lkLOCK = false ∧ u.link n lkHOLDOFF = false ∧
      (u.lane n).lossSince = some ((s.lane n).lossSince.getD (s.localAt t)) ∧ (u.lane n).upSince = none ∧
      Only s u [.lanes] [laneKey O.linkStatus n, laneSub O.preemptionStatus n] := by
  refine .intro (congrArg Host.Outcome.next (lockLost_enabled (s := s.begin t) h)) ⟨?_, ?_, ?_, ?_, ?_⟩
  · exact (State.updLane_link ..).trans (State.unlocked_link _ hn (by decide))
  · exact (State.updLane_link ..).trans (State.unlocked_link _ hn (by decide))
  · rw [State.lane_updLane_self, State.unlocked_lane, State.unlocked_now]
    rfl
  · rw [State.lane_updLane_self, State.unlocked_lane]
  · exact ((only_unlocked ..).one (only_updLane ..) (by simp)).begin

/-! ### The traffic of a lane that loses its signal (R107, R108, R120) -/

/-- What the loss of its signal leaves of a lane's traffic at the time `now`. -/
def LaneSt.silenced (l : LaneSt) (now : Nat) : LaneSt :=
  { l with contractOk := false, lostAt := now, queues := [], preempted := none }

theorem lane_of_core {R : Nat} {s u : State} (h : u.core R = s.core R) (hR : R.testBit 9 = false) (n : Nat) : u.lane n = s.lane n := by
  have hl : u.lanes = s.lanes := by
    simpa only [State.core, hR, Bool.false_eq_true, if_false] using congrArg State.lanes h
  exact State.lane_congr hl n

theorem State.drainLane_lane (s : State) (n : Nat) : (s.drainLane n).lane n = { s.lane n with queues := [], preempted := none } :=
  State.lane_updLane_self s n fun l => { l with queues := [], preempted := none }

theorem State.drainLane_link (s : State) (m n i : Nat) : (s.drainLane m).link n i = s.link n i :=
  (State.setN_byIdx_link _ _ _ _ _ (by decide)).trans (s.updLane_link m n i fun l => { l with queues := [], preempted := none })

theorem State.refreshFdb_link (s : State) (n i : Nat) : s.refreshFdb.link n i = s.link n i :=
  (State.setN_link _ _ _ (byIdx_ne (by decide)) (by decide)).trans (State.setN_link _ _ _ (byIdx_ne (by decide)) (by decide))

theorem State.flushEndpoint_link (s : State) (ep n i : Nat) : (s.flushEndpoint ep).link n i = s.link n i := rfl

theorem State.refreshLag_link (s : State) (m n i : Nat) : (s.refreshLag m).link n i = s.link n i := by
  unfold State.refreshLag
  split
  next => rfl
  next => exact State.setN_byIdx_link _ _ _ _ _ (by decide)

theorem State.lagFailover_link (s : State) (m onset n i : Nat) : (s.lagFailover m onset).link n i = s.link n i := by
  unfold State.lagFailover
  split
  next => rw [State.refreshFdb_link, State.flushEndpoint_link]
  next g _ =>
    have hc (v : Nat) : (((s.refreshLag m).inc32 (byIdx O.failovers g)).setN (byIdx O.lastFailoverTime g) v).link n i = s.link n i := by
      rw [State.setN_byIdx_link _ _ _ _ _ (by decide), State.inc32_def, State.setN_byIdx_link _ _ _ _ _ (by decide), State.refreshLag_link]
    dsimp only
    split
    next => rw [State.refreshFdb_link, State.flushEndpoint_link, hc]
    next => exact hc _

theorem State.lagFailover_lane (s : State) (m onset n : Nat) : (s.lagFailover m onset).lane n = s.lane n :=
  lane_of_core (State.lagFailover_core (R := 1024) rfl s m onset) rfl n

theorem State.loseTraffic_lane (s : State) (n onset : Nat) (was : Bool) : (s.loseTraffic n onset was).lane n = (s.lane n).silenced s.now := by
  unfold State.loseTraffic
  simp only [State.lane_ite, State.lagFailover_lane, ite_self, State.drainLane_lane, State.lane_updLane_self]
  rfl

theorem State.loseTraffic_link (s : State) (m onset n i : Nat) (was : Bool) : (s.loseTraffic m onset was).link n i = s.link n i := by
  unfold State.loseTraffic
  simp only [State.link_ite, State.lagFailover_link, ite_self, State.drainLane_link, State.updLane_link]

theorem State.loseTraffic_plan (s : State) (n onset : Nat) (was : Bool) : (s.loseTraffic n onset was).plan = s.plan :=
  plan_of_core (State.loseTraffic_core (R := 1536) rfl s n onset was) rfl

theorem State.loseSignal_lane (s : State) (n : Nat) :
    (s.loseSignal n).lane n = { s.lane n with upSince := none, lossSince := none }.silenced s.now := by
  unfold State.loseSignal
  dsimp only
  rw [State.loseTraffic_lane, State.setN_lane, State.lane_updLane_self]
  rfl

theorem State.loseSignal_link (s : State) {n : Nat} (hn : n < 64) {i : Nat} (hi : i ∈ [lkSIGNAL, lkINSERVICE]) :
    (s.loseSignal n).link n i = false := by
  unfold State.loseSignal
  dsimp only
  rw [State.loseTraffic_link, State.setPreemption_link _ hn, State.updLane_link]
  simp only [List.mem_cons, List.not_mem_nil, or_false] at hi
  rcases hi with rfl | rfl <;> simp (disch := decide) only [State.setLink_link_ne, State.setLink_link_self]

/-! ### Loss of signal and its fault (R94, R107) -/

theorem State.externalLoss_lane (s : State) (m first n : Nat) : (s.externalLoss m first).lane n = s.lane n :=
  lane_of_core (State.externalLoss_core (R := 256) rfl s m first) rfl n

/-- While no plan is in force no lane is protected by one. -/
theorem State.externalLoss_noPlan {s : State} (h : s.plan.active.gen = 0) (n first : Nat) : s.externalLoss n first = s :=
  if_neg fun hp => hp.1 h

theorem State.declareLoss_lane (s : State) (n first : Nat) :
    (s.declareLoss n first).lane n = { s.lane n with upSince := none, lossSince := none }.silenced s.now := by
  unfold State.declareLoss
  dsimp only
  rw [State.externalLoss_lane, State.lane_congr (State.logEv_lanes ..), State.loseSignal_lane]
  rfl

theorem State.loseSignal_plan (s : State) (n : Nat) : (s.loseSignal n).plan = s.plan :=
  plan_of_core (State.loseSignal_core (R := 1536) rfl s n) rfl

theorem State.declareLoss_link {s : State} {n : Nat} (hn : n < 64) (h : s.plan.active.gen = 0) (first : Nat) {i : Nat}
    (hi : i ∈ [lkSIGNAL, lkINSERVICE]) : (s.declareLoss n first).link n i = false := by
  unfold State.declareLoss
  dsimp only
  rw [State.externalLoss_noPlan (by rw [State.logEv_plan, State.loseSignal_plan]; exact h), State.logEv_link, State.loseSignal_link _ hn hi]

theorem linkLoss_due {s : State} {n since : Nat} (h : s.laneOn n = true) (hl : (s.lane n).lossSince = some since)
    (hs : s.link n lkSIGNAL = true) (ht : s.n (laneKey O.lossHoldOff n) * 1000 ≤ s.now - since) : linkLoss n s = s.declareLoss n since := by
  unfold linkLoss
  rw [hl]
  exact if_pos (by rw [h, hs, decide_eq_true ht]; rfl)

theorem linkLoss_runs {s : State} {t n since : Nat} (hn : n < 64) (h : s.laneOn n = true) (hl : (s.lane n).lossSince = some since)
    (hs : s.link n lkSIGNAL = true) (ht : s.n (laneKey O.lossHoldOff n) * 1000 ≤ s.localAt t - since) :
    Runs (.linkLoss t n) s fun u => (u.lane n).queues = [] ∧ (u.lane n).preempted = none ∧ (u.lane n).contractOk = false ∧
      (u.lane n).lossSince = none ∧ (s.plan.active.gen = 0 → u.link n lkSIGNAL = false ∧ u.link n lkINSERVICE = false) := by
  refine .intro (congrArg Host.Outcome.next (linkLoss_due (s := s.begin t) h hl hs ht)) ?_
  rw [State.declareLoss_lane]
  refine ⟨rfl, rfl, rfl, rfl, fun hp => ?_⟩
  exact ⟨State.declareLoss_link (s := s.begin t) hn hp _ (by decide), State.declareLoss_link (s := s.begin t) hn hp _ (by decide)⟩

/-! ### Auto-negotiation (R106) -/

/-- Negotiation has resolved, and its rate is shown. -/
def State.resolvedAt (s : State) (n rate : Nat) : State := (s.setLink n lkANDONE true).setN (laneKey O.resolvedRate n) rate

/-- Whether the resolved rate matches the lane's mode is shown too. -/
def State.negotiated (s : State) (n rate : Nat) (mismatch : Bool) : State := (s.resolvedAt n rate).setLink n lkRATEMISMATCH mismatch

section Negotiation

variable (s : State) (n rate : Nat) (b : Bool)

theorem State.resolvedAt_laneRate : (s.resolvedAt n rate).laneRate n = s.laneRate n :=
  congrArg modeRate ((State.setN_other _ _ _ _ (byIdx_ne_byIdx (by decide)) (byIdx_ne (by decide))).trans
    (State.setLink_n _ _ _ (byIdx_ne_byIdx (by decide))))

theorem only_negotiated : Only s (s.negotiated n rate b) [] [laneKey O.linkStatus n, laneKey O.resolvedRate n] :=
  (((Only.same s _ _).obj (only_setLink ..) (by simp)).obj (only_setN ..) (by simp)).obj (only_setLink ..) (by simp)

theorem State.negotiated_link {i : Nat} : (s.negotiated n rate b).link n i =
    if i = lkRATEMISMATCH then b else if i = lkANDONE then true else s.link n i := by
  unfold State.negotiated State.resolvedAt
  rw [State.setLink_link, laneKey, State.setN_byIdx_link _ _ _ _ _ (by decide), State.setLink_link]

theorem State.negotiated_rate : (s.negotiated n rate b).n (laneKey O.resolvedRate n) = rate :=
  (State.setLink_n _ _ _ (byIdx_ne_byIdx (by decide))).trans (State.setN_self ..)

/-- The negotiated rate matches the lane's mode. -/
def State.rateAgrees : State :=
  let w := s.negotiated n rate false
  (if w.link n lkLOCK then w.setLink n lkSIGNAL true else w).tryHoldOff n

/-- The negotiated rate or duplex differs from the lane's mode, before the lane is out of service for it. -/
def State.rateDiffers : State := (s.negotiated n rate true).logEv (dieOfLane n) Ev.rateMismatch (epLane n) [(1, n), (1, rate)]

end Negotiation

section Autoneg

variable {s : State} {n rate : Nat} {full : Bool} (h : s.laneOn n = true) (ha : s.usesAutoneg n = true)
include h ha

theorem autonegComplete_agrees (hr : modeRate rate = s.laneRate n ∧ full = true) : autonegComplete n rate full s = s.rateAgrees n rate := by
  obtain ⟨hrate, rfl⟩ := hr
  rw [← s.resolvedAt_laneRate n rate] at hrate
  unfold autonegComplete
  rw [h, ha]
  exact if_neg (not_or.mpr ⟨fun hne => hne hrate, nofun⟩)

theorem autonegComplete_differs (hr : modeRate rate ≠ s.laneRate n ∨ full = false) : autonegComplete n rate full s =
    if (s.rateDiffers n rate).link n lkSIGNAL then (s.rateDiffers n rate).declareLoss n (s.rateDiffers n rate).now
    else (s.rateDiffers n rate).breakHoldOff n := by
  rw [← s.resolvedAt_laneRate n rate] at hr
  unfold autonegComplete
  rw [h, ha]
  exact if_pos (hr.imp_right fun hf => by rw [hf]; rfl)

end Autoneg

section AutonegRuns

variable {s : State} {t n rate : Nat} {full : Bool}

/-- Beside what negotiation shows, a match brings the signal of a lane in lock and begins its hold-off. -/
theorem only_rateAgrees : Only (s.negotiated n rate false) (s.rateAgrees n rate) [.lanes] [laneKey O.linkStatus n] :=
  (only_tryHoldOff ..).and (.ite ((Only.same _ _ _).obj (only_setLink ..) (by simp)) (.same ..)) (fun _ hp => hp) (fun _ hk => hk)

theorem State.rateAgrees_link {i : Nat} (hh : i ≠ lkHOLDOFF) (hs : i ≠ lkSIGNAL) :
    (s.rateAgrees n rate).link n i = (s.negotiated n rate false).link n i := by
  unfold State.rateAgrees
  rw [State.tryHoldOff_link _ _ hh, State.link_ite, State.setLink_link_ne _ _ hs, ite_self]

theorem autonegComplete_runs_agrees (h : s.laneOn n = true) (ha : s.usesAutoneg n = true)
    (hr : modeRate rate = s.laneRate n ∧ full = true) :
    Runs (.autonegComplete t n rate full) s fun u => u.link n lkANDONE = true ∧ u.link n lkRATEMISMATCH = false ∧
      u.n (laneKey O.resolvedRate n) = rate ∧ Only s u [.lanes] [laneKey O.linkStatus n, laneKey O.resolvedRate n] := by
  refine .intro (congrArg Host.Outcome.next (autonegComplete_agrees (s := s.begin t) h ha hr)) ⟨?_, ?_, ?_, ?_⟩
  · rw [State.rateAgrees_link (by decide) (by decide), State.negotiated_link]
    rfl
  · rw [State.rateAgrees_link (by decide) (by decide), State.negotiated_link]
    rfl
  · exact (only_rateAgrees.n_eq (fun hk => byIdx_ne_byIdx (by decide) (List.mem_singleton.mp hk))
      (fun hk => byIdx_ne (by decide) (List.mem_singleton.mp hk).symm)).trans (State.negotiated_rate ..)
  · exact (only_rateAgrees.and ((only_negotiated ..).mono (by simp) (fun _ hk => hk)) (fun _ hp => hp) (by simp)).begin

theorem only_rateDiffers : Only s (s.rateDiffers n rate) [.lanes, .logs] [laneKey O.linkStatus n, laneKey O.resolvedRate n,
    laneSub O.preemptionStatus n] :=
  ((only_negotiated ..).mono (by simp) (by simp)).one (only_logEv ..) (by simp)

theorem State.rateDiffers_link (i : Nat) : (s.rateDiffers n rate).link n i =
    if i = lkRATEMISMATCH then true else if i = lkANDONE then true else s.link n i :=
  (State.logEv_link ..).trans (State.negotiated_link ..)

theorem State.rateDiffers_rate : (s.rateDiffers n rate).n (laneKey O.resolvedRate n) = rate :=
  (State.logEv_n ..).trans (State.negotiated_rate ..)

theorem autonegComplete_runs_breaks (hn : n < 64) (h : s.laneOn n = true) (ha : s.usesAutoneg n = true)
    (hr : modeRate rate ≠ s.laneRate n ∨ full = false) (hs : s.link n lkSIGNAL = false) :
    Runs (.autonegComplete t n rate full) s fun u => u.link n lkANDONE = true ∧ u.link n lkRATEMISMATCH = true ∧
      u.link n lkHOLDOFF = false ∧ (u.lane n).upSince = none ∧ u.n (laneKey O.resolvedRate n) = rate ∧
      Only s u [.lanes, .logs] [laneKey O.linkStatus n, laneKey O.resolvedRate n, laneSub O.preemptionStatus n] := by
  have hb : autonegComplete n rate full (s.begin t) = ((s.begin t).rateDiffers n rate).breakHoldOff n := by
    rw [autonegComplete_differs (s := s.begin t) h ha hr]
    exact if_neg (by rw [State.rateDiffers_link]; exact Bool.eq_false_iff.mp hs)
  have hf := only_breakHoldOff ((s.begin t).rateDiffers n rate) n
  refine .intro (congrArg Host.Outcome.next hb) ⟨?_, ?_, ?_, ?_, ?_, ?_⟩
  · rw [State.breakHoldOff_link _ hn, State.rateDiffers_link]
    rfl
  · rw [State.breakHoldOff_link _ hn, State.rateDiffers_link]
    rfl
  · rw [State.breakHoldOff_link _ hn]
    rfl
  · rw [State.breakHoldOff_lane]
  · refine (hf.n_eq ?_ ?_).trans State.rateDiffers_rate
    · simpa using ⟨byIdx_ne_byIdx (by decide), (preemptionKey_ne hn hn (by decide)).symm⟩
    · simpa using ⟨(byIdx_ne (by decide)).symm, (preemptionKey_ne_nodeID hn).symm⟩
  · exact (hf.and only_rateDiffers (by simp) (by simp)).begin

theorem autonegComplete_runs_loses (h : s.laneOn n = true) (ha : s.usesAutoneg n = true)
    (hr : modeRate rate ≠ s.laneRate n ∨ full = false) (hs : s.link n lkSIGNAL = true) :
    Runs (.autonegComplete t n rate full) s fun u => (u.lane n).queues = [] ∧ (u.lane n).upSince = none ∧ (u.lane n).contractOk = false := by
  have hb : autonegComplete n rate full (s.begin t) =
      ((s.begin t).rateDiffers n rate).declareLoss n ((s.begin t).rateDiffers n rate).now := by
    rw [autonegComplete_differs (s := s.begin t) h ha hr]
    exact if_pos (by rw [State.rateDiffers_link]; exact hs)
  refine .intro (congrArg Host.Outcome.next hb) ?_
  rw [State.declareLoss_lane]
  exact ⟨rfl, rfl, rfl⟩

end AutonegRuns

/-! ### A lane enters service (R107, R161) -/

theorem State.refreshLag_single {s : State} {n : Nat} (h : s.lagOf n = none) : s.refreshLag n = s := by
  unfold State.refreshLag
  rw [h]

/-- A lane has entered service, before its group counts it. -/
def State.entered (s : State) (n : Nat) : State :=
  (((s.setLink n lkHOLDOFF false).setLink n lkSIGNAL true).setLink n lkINSERVICE true).updLane n
    fun l => { l with upSince := none, creditTime := s.now, beTime := s.now }

theorem State.enterService_eq (s : State) (n : Nat) : s.enterService n = (s.entered n).refreshLag n := rfl

theorem only_entered (s : State) (n : Nat) : Only s (s.entered n) [.lanes] [laneKey O.linkStatus n] :=
  ((((Only.same s _ _).obj (only_setLink ..) (by simp)).obj (only_setLink ..) (by simp)).obj (only_setLink ..) (by simp)).one
    (only_updLane ..) (by simp)

theorem State.enterService_single {s : State} {n : Nat} (h : s.lagOf n = none) : s.enterService n = s.entered n := by
  rw [State.enterService_eq]
  exact State.refreshLag_single (((only_entered s n).lagOf_eq n).trans h)

theorem State.entered_link (s : State) (n : Nat) : (s.entered n).link n lkINSERVICE = true ∧ (s.entered n).link n lkSIGNAL = true ∧
    (s.entered n).link n lkHOLDOFF = false := by
  unfold State.entered
  simp (disch := decide) only [State.updLane_link, State.setLink_link_self, State.setLink_link_ne, and_self]

theorem linkUpHoldOff_done {s : State} {n since : Nat} (h : s.laneOn n = true) (hu : (s.lane n).upSince = some since)
    (hr : s.linkReady n = true) (ht : s.n (laneKey O.linkUpHoldOff n) * 1000000 ≤ s.now - since)
    (hp : s.n (laneSub O.preemptionEnable n) ≠ 1) : linkUpHoldOff n s = s.enterService n := by
  unfold linkUpHoldOff
  rw [hu]
  exact (if_pos (by rw [h, hr, decide_eq_true ht]; rfl)).trans (if_neg hp)

theorem linkUpHoldOff_runs {s : State} {t n since : Nat} (h : s.laneOn n = true) (hu : (s.lane n).upSince = some since)
    (hr : s.linkReady n = true) (ht : s.n (laneKey O.linkUpHoldOff n) * 1000000 ≤ s.localAt t - since)
    (hp : s.n (laneSub O.preemptionEnable n) ≠ 1) (hg : s.lagOf n = none) :
    Runs (.linkUpHoldOff t n) s fun u => u.link n lkINSERVICE = true ∧ u.link n lkSIGNAL = true ∧ u.link n lkHOLDOFF = false ∧
      (u.lane n).upSince = none ∧ Only s u [.lanes] [laneKey O.linkStatus n] := by
  have he : linkUpHoldOff n (s.begin t) = (s.begin t).entered n :=
    (linkUpHoldOff_done (s := s.begin t) h hu hr ht hp).trans (State.enterService_single hg)
  obtain ⟨hin, hsig, hhold⟩ := (s.begin t).entered_link n
  refine .intro (congrArg Host.Outcome.next he) ⟨hin, hsig, hhold, ?_, (only_entered ..).begin⟩
  rw [State.entered, State.lane_updLane_self]

/-! ### The verification of preemption (R161) -/

theorem verifyDone_ok {s : State} {n : Nat} (h : s.hasLane n = true) (hv : s.n (laneSub O.preemptionStatus n) = 1)
    (hr : s.linkReady n = true) : verifyDone n true s = (s.enterService n).setN (laneSub O.preemptionStatus n) 2 := by
  unfold verifyDone
  rw [h, hv, hr]
  rfl

/-- Verification has failed after its attempts. -/
def State.verifyFailed (s : State) (n : Nat) : State :=
  ((s.setN (laneSub O.preemptionStatus n) 3).updLane n fun l => { l with verifyTries := 3 }).logEv (dieOfLane n) Ev.preemptVerifyFail
    (epLane n) [(1, n)]

theorem verifyDone_failed {s : State} {n : Nat} (h : s.hasLane n = true) (hv : s.n (laneSub O.preemptionStatus n) = 1)
    (hr : s.linkReady n = true) : verifyDone n false s = s.verifyFailed n := by
  unfold verifyDone
  rw [h, hv, hr]
  rfl

theorem preemptionVerifyDone_runs_ok {s : State} {t n : Nat} (hn : n < 64) (h : s.hasLane n = true)
    (hv : s.n (laneSub O.preemptionStatus n) = 1) (hr : s.linkReady n = true) :
    Runs (.preemptionVerifyDone t n true) s fun u => u.n (laneSub O.preemptionStatus n) = 2 ∧
      (s.lagOf n = none → u.link n lkINSERVICE = true) := by
  refine .intro (congrArg Host.Outcome.next (verifyDone_ok (s := s.begin t) h hv hr)) ⟨State.setN_self .., fun hg => ?_⟩
  rw [State.setPreemption_link _ hn, State.enterService_single (s := s.begin t) hg]
  exact (State.entered_link ..).1

theorem preemptionVerifyDone_runs_failed {s : State} {t n : Nat} (h : s.hasLane n = true)
    (hv : s.n (laneSub O.preemptionStatus n) = 1) (hr : s.linkReady n = true) :
    Runs (.preemptionVerifyDone t n false) s fun u => u.n (laneSub O.preemptionStatus n) = 3 ∧
      Only s u [.lanes, .logs] [laneSub O.preemptionStatus n] := by
  refine .intro (congrArg Host.Outcome.next (verifyDone_failed (s := s.begin t) h hv hr)) ⟨?_, ?_⟩
  · rw [State.verifyFailed, State.logEv_n, State.updLane_n, State.setN_self]
  · exact (((Only.start t s _ _).obj (only_setN ..) (by simp)).one (only_updLane ..) (by simp)).one (only_logEv ..) (by simp)

/-! ### A member leaves and rejoins its group (R119, R120) -/

theorem only_refreshLag_member {s : State} {n g : Nat} (h : s.lagOf n = some g) : Only s (s.refreshLag n) [] [byIdx O.membersInService g] := by
  unfold State.refreshLag
  rw [h]
  exact only_setN ..

section Group

variable {s : State} {t n g : Nat} (hg : s.lagOf n = some g) (hm : s.n (byIdx O.lacpMode g) ≠ 0)
include hg hm

/-- LACP takes a member out: *link status* and the lane show it, and the lane is treated as having lost its signal. -/
theorem lacpOut_member (hl : s.link n lkLACPOUT = false) : ∃ was, lacpOut n s =
    (((s.setLink n lkLACPOUT true).updLane n fun l => { l with lacpOut := true }).loseTraffic n s.now was).externalLoss n s.now := by
  unfold lacpOut
  rw [hg, hl]
  exact ⟨_, if_neg (by simpa using hm)⟩

theorem lacpOut_runs (hl : s.link n lkLACPOUT = false) :
    Runs (.lacpOut t n) s fun u => (u.lane n).lacpOut = true ∧ (u.lane n).queues = [] ∧ (u.lane n).contractOk = false ∧
      (s.plan.active.gen = 0 → u.link n lkLACPOUT = true) := by
  obtain ⟨was, hu⟩ := lacpOut_member (s := s.begin t) hg hm hl
  refine .intro (congrArg Host.Outcome.next hu) ?_
  rw [State.externalLoss_lane, State.loseTraffic_lane, State.lane_updLane_self]
  refine ⟨rfl, rfl, rfl, fun hp => ?_⟩
  rw [State.externalLoss_noPlan (by rw [State.loseTraffic_plan]; exact hp), State.loseTraffic_link, State.updLane_link,
    State.setLink_link_self]

theorem lacpIn_member :
    lacpIn n s = ((s.setLink n lkLACPOUT false).updLane n fun l => { l with lacpOut := false }).refreshLag n := by
  unfold lacpIn
  rw [hg]
  exact if_neg hm

theorem lacpCollectingDistributing_runs :
    Runs (.lacpCollectingDistributing t n) s fun u => u.link n lkLACPOUT = false ∧ (u.lane n).lacpOut = false ∧
      Only s u [.lanes] [laneKey O.linkStatus n, byIdx O.membersInService g] := by
  have hb : Only (s.begin t) (((s.begin t).setLink n lkLACPOUT false).updLane n fun l => { l with lacpOut := false }) [.lanes]
      [laneKey O.linkStatus n] := ((Only.same _ _ _).obj (only_setLink ..) (by simp)).one (only_updLane ..) (by simp)
  have hr := only_refreshLag_member ((hb.lagOf_eq n).trans hg)
  refine .intro (congrArg Host.Outcome.next (lacpIn_member (s := s.begin t) hg hm)) ⟨?_, ?_, ?_⟩
  · rw [State.refreshLag_link, State.updLane_link, State.setLink_link_self]
  · rw [State.lane_congr (hr.rest .lanes (by simp)), State.lane_updLane_self]
  · exact (hr.and (hb.mono (fun _ hp => hp) (by simp)) (by simp) (by simp)).begin

end Group

/-! ### The counters of a lane (R122) -/

theorem State.look_clearAll (s : State) {ks : List Nat} {k : Nat} (hk : k ∈ ks) : look (s.clearAll ks).dict.objs k = some 0 := by
  induction ks generalizing s with
  | nil => exact absurd hk List.not_mem_nil
  | cons a ks ih =>
    by_cases h : k ∈ ks
    · exact ih _ h
    · obtain rfl : k = a := (List.mem_cons.mp hk).resolve_right h
      exact ((only_clearAll (s.setN k 0) ks).objects k h).trans (look_ins_self ..)

theorem State.clearAll_n (s : State) {ks : List Nat} {k : Nat} (hk : k ∈ ks) : (s.clearAll ks).n k = 0 :=
  State.n_of_look (s.look_clearAll hk)

theorem laneKey_mux (sub n : Nat) : laneKey (mux 0x2200 sub) n = mux (0x2200 + n) sub := by
  simp only [laneKey, byIdx, mux]
  omega

/-- The counters of a lane. -/
def laneCounters (n : Nat) : List Nat := (0x0C :: (List.range 14).map (0x10 + ·)).map fun sub => mux (0x2200 + n) sub

theorem clearLane_eq (n : Nat) (x : Session) (s : State) : clearLane n x s = (.ok, s.clearAll (laneCounters n)) := rfl

theorem mem_laneCounters {sub : Nat} (n : Nat) (h : sub ∈ 0x0C :: (List.range 14).map (0x10 + ·)) :
    laneKey (mux 0x2200 sub) n ∈ laneCounters n := by
  rw [laneKey_mux]
  exact List.mem_map_of_mem h

theorem clearLaneCounters_runs {s : State} {t n : Nat} {who : Who} {x : Session} (h : s.MayWrite who x (0x2200 + n) 0x1F 1) :
    Runs (.clearLaneCounters t who n) s fun u =>
      u.answered who .ok ∧ u.n (laneKey O.lossEvents n) = 0 ∧ u.n (laneKey O.drained n) = 0 := by
  refine (h.runs (clearLane n) rfl (clearLane_eq ..) (only_clearAll ..) (by simp)).imp fun u ⟨hans, hu, _⟩ => ⟨hans, ?_, ?_⟩
  · exact (hu.n_all _).trans (State.clearAll_n _ (mem_laneCounters (sub := 0x0C) n (by decide)))
  · exact (hu.n_all _).trans (State.clearAll_n _ (mem_laneCounters (sub := 0x1C) n (by decide)))

end Sys2Proof.Machine

open Sys2Proof Sys2Proof.Machine

/-- Settles O14, link command by link command: each command's case is an equation, read by the rules of *link status* and of the lane. -/
theorem laneLinks : Obligations.LaneLinks :=
  ⟨fun _ _ _ _ => lockGained_runs, fun _ _ _ => lockLost_runs,
    fun _ _ _ _ _ hn h ha => ⟨autonegComplete_runs_agrees h ha, autonegComplete_runs_breaks hn h ha, autonegComplete_runs_loses h ha⟩,
    fun _ _ _ _ _ => linkUpHoldOff_runs, fun _ _ _ _ => linkLoss_runs,
    fun _ _ _ hn h hv hr => ⟨preemptionVerifyDone_runs_ok hn h hv hr, preemptionVerifyDone_runs_failed h hv hr⟩,
    fun _ _ _ _ _ _ hg hm => ⟨lacpOut_runs hg hm, lacpCollectingDistributing_runs hg hm⟩, fun _ _ _ _ _ _ => clearLaneCounters_runs⟩
end

section
/-! Proofs about the forwarding database and the recovery functions (R131, R132, R139): what an update from another die, ageing, the commands on
static entries, a flush and a recovery reset leave. -/
namespace Sys2Proof.Machine
open Sys2Proof

/-! ### A die's database (R131) -/

theorem State.fdbOf_congr {s u : State} (h : u.fwd = s.fwd) (d : Nat) : u.fdbOf d = s.fdbOf d := congrArg (fun f : FwdSt => get [] f.fdb d) h

theorem State.bucket_congr {s u : State} (h : u.fwd = s.fwd) (d key : Nat) : u.bucket d key = s.bucket d key := by
  unfold State.bucket
  rw [State.fdbOf_congr h]

section Tables

variable (s : State) (d key : Nat) (e : FdbEntry)

@[simp] theorem State.refreshFdb_fwd : s.refreshFdb.fwd = s.fwd := rfl

@[simp] theorem State.refreshFdb_fdbOf : s.refreshFdb.fdbOf d = s.fdbOf d := rfl

@[simp] theorem State.putFdb_fdbOf : (s.putFdb d key e).fdbOf d = ins (s.fdbOf d) key e :=
  get_upd_self [] s.fwd.fdb d fun m => ins m key e

@[simp] theorem State.delFdb_fdbOf : (s.delFdb d key).fdbOf d = del (s.fdbOf d) key := get_upd_self [] s.fwd.fdb d fun m => del m key

theorem State.putFdb_fdbOf_ne {a d : Nat} (h : a ≠ d) : (s.putFdb d key e).fdbOf a = s.fdbOf a :=
  get_upd_ne [] s.fwd.fdb d a (fun m => ins m key e) h

theorem State.delFdb_fdbOf_ne {a d : Nat} (h : a ≠ d) : (s.delFdb d key).fdbOf a = s.fdbOf a :=
  get_upd_ne [] s.fwd.fdb d a (fun m => del m key) h

theorem only_refreshFdb : Only s s.refreshFdb [] [O.fdbEntriesInUse, O.fdbStaticEntries] := (only_setN ..).trans (only_setN ..)

theorem only_putFdb : Only s (s.putFdb d key e) [.fwd] [] := (Only.same s _ _).setFwd _ (by simp)

theorem only_delFdb : Only s (s.delFdb d key) [.fwd] [] := (Only.same s _ _).setFwd _ (by simp)

end Tables

/-! ### An entry from another die (R131) -/

/-- The entry received is applied, refreshed now. -/
def State.fdbApplied (s : State) (d key : Nat) (e : FdbEntry) : State := (s.putFdb d key { e with refreshed := s.now }).refreshFdb

theorem State.fdbApplied_look (s : State) (d key : Nat) (e : FdbEntry) :
    look ((s.fdbApplied d key e).fdbOf d) key = some { e with refreshed := s.now } :=
  (congrArg (look · key) (s.putFdb_fdbOf d key _)).trans (look_ins_self ..)

section Update

variable {s : State} {d key : Nat} {e o : FdbEntry}

theorem fdbUpdateReceive_known (hd : s.dieUp d = true) (h : look (s.fdbOf d) key = some o) : fdbUpdateReceive d key e s =
    if o.static then s else if o.tick < e.tick ∨ (o.tick = e.tick ∧ e.die < o.die) then s.fdbApplied d key e else s := by
  simp only [fdbUpdateReceive, hd, h, Bool.not_true, Bool.false_eq_true, if_false, State.fdbApplied]

theorem fdbUpdateReceive_new (hd : s.dieUp d = true) (h : look (s.fdbOf d) key = none) : fdbUpdateReceive d key e s =
    if 4 ≤ (s.bucket d key).length then s else s.fdbApplied d key e := by
  simp only [fdbUpdateReceive, hd, h, Bool.not_true, Bool.false_eq_true, if_false, State.fdbApplied]

theorem fdbUpdateReceive_learns (hd : s.dieUp d = true) (h : look (s.fdbOf d) key = none) (hb : (s.bucket d key).length < 4) :
    fdbUpdateReceive d key e s = s.fdbApplied d key e := by
  rw [fdbUpdateReceive_new hd h, if_neg (Nat.not_le_of_lt hb)]

theorem fdbUpdateReceive_full (hd : s.dieUp d = true) (h : look (s.fdbOf d) key = none) (hb : 4 ≤ (s.bucket d key).length) :
    fdbUpdateReceive d key e s = s := by
  rw [fdbUpdateReceive_new hd h, if_pos hb]

theorem fdbUpdateReceive_replaces (hd : s.dieUp d = true) (h : look (s.fdbOf d) key = some o) (hs : o.static = false)
    (hl : o.tick < e.tick ∨ (o.tick = e.tick ∧ e.die < o.die)) : fdbUpdateReceive d key e s = s.fdbApplied d key e := by
  rw [fdbUpdateReceive_known hd h, hs, if_neg Bool.false_ne_true, if_pos hl]

theorem fdbUpdateReceive_keeps (hd : s.dieUp d = true) (h : look (s.fdbOf d) key = some o)
    (hk : o.static = true ∨ e.tick < o.tick ∨ (o.tick = e.tick ∧ o.die ≤ e.die)) : fdbUpdateReceive d key e s = s := by
  rw [fdbUpdateReceive_known hd h]
  rcases hk with hs | hk
  · exact if_pos hs
  · rw [if_neg (by omega : ¬(o.tick < e.tick ∨ (o.tick = e.tick ∧ e.die < o.die))), ite_self]

/-- A die in service keeps its database or applies the entry. -/
theorem fdbUpdateReceive_cases (hd : s.dieUp d = true) :
    fdbUpdateReceive d key e s = s ∨ fdbUpdateReceive d key e s = s.fdbApplied d key e := by
  cases h : look (s.fdbOf d) key with
  | none =>
    rw [fdbUpdateReceive_new hd h]
    split
    · exact .inl rfl
    · exact .inr rfl
  | some o =>
    rw [fdbUpdateReceive_known hd h]
    split
    · exact .inl rfl
    · split
      · exact .inr rfl
      · exact .inl rfl

theorem only_fdbUpdateReceive (hd : s.dieUp d = true) :
    Only s (fdbUpdateReceive d key e s) [.fwd] [O.fdbEntriesInUse, O.fdbStaticEntries] := by
  rcases fdbUpdateReceive_cases hd (key := key) (e := e) with h | h <;> rw [h]
  · exact .same ..
  · exact (only_putFdb ..).trans (only_refreshFdb _)

theorem fdbUpdateReceive_runs {t : Nat} (hd : s.dieUp d = true) : Runs (.fdbUpdateReceive t d key e) s fun u =>
    (∀ o, look (s.fdbOf d) key = some o → o.static = false → (o.tick < e.tick ∨ (o.tick = e.tick ∧ e.die < o.die)) →
      look (u.fdbOf d) key = some { e with refreshed := s.localAt t }) ∧
    (∀ o, look (s.fdbOf d) key = some o → (o.static = true ∨ e.tick < o.tick ∨ (o.tick = e.tick ∧ o.die ≤ e.die)) → u.fwd = s.fwd) ∧
    (look (s.fdbOf d) key = none → (s.bucket d key).length < 4 → look (u.fdbOf d) key = some { e with refreshed := s.localAt t }) ∧
    (look (s.fdbOf d) key = none → 4 ≤ (s.bucket d key).length → u.fwd = s.fwd) ∧
    Only s u [.fwd] [O.fdbEntriesInUse, O.fdbStaticEntries] := by
  have hd' : (s.begin t).dieUp d = true := hd
  have happ : look (((s.begin t).fdbApplied d key e).fdbOf d) key = some { e with refreshed := s.localAt t } := State.fdbApplied_look ..
  refine .intro rfl ⟨fun o h hs hl => ?_, fun o h hk => ?_, fun h hb => ?_, fun h hb => ?_, (only_fdbUpdateReceive hd').begin⟩
  · rwa [fdbUpdateReceive_replaces hd' h hs hl]
  · rw [fdbUpdateReceive_keeps hd' h hk]
    rfl
  · rwa [fdbUpdateReceive_learns hd' h hb]
  · rw [fdbUpdateReceive_full hd' h hb]
    rfl

end Update

/-! ### Ageing (R131) -/

theorem fdbAgeOut_idle {s : State} {d key : Nat} {o : FdbEntry} (h : look (s.fdbOf d) key = some o) (hs : o.static = false)
    (hage : s.n O.fdbAgeingTime * 1000000000 ≤ s.now - o.refreshed) : fdbAgeOut d key s = (s.delFdb d key).refreshFdb := by
  simp only [fdbAgeOut, h, hs, hage, Bool.not_false, decide_true, Bool.and_self, if_true]

theorem fdbAgeOut_runs {s : State} {t d key : Nat} {o : FdbEntry} (h : look (s.fdbOf d) key = some o) (hs : o.static = false)
    (hage : s.n O.fdbAgeingTime * 1000000000 ≤ s.localAt t - o.refreshed) : Runs (.fdbAgeOut t d key) s fun u =>
      look (u.fdbOf d) key = none ∧ (∀ k, k ≠ key → look (u.fdbOf d) k = look (s.fdbOf d) k) ∧
      Only s u [.fwd] [O.fdbEntriesInUse, O.fdbStaticEntries] := by
  have hdb : ((s.begin t).delFdb d key).refreshFdb.fdbOf d = del (s.fdbOf d) key := (s.begin t).delFdb_fdbOf d key
  refine .intro (congrArg Host.Outcome.next (fdbAgeOut_idle (s := s.begin t) h hs hage)) ⟨?_, fun k hk => ?_, ?_⟩
  · rw [hdb, look_del_self]
  · rw [hdb, look_del_ne _ _ _ hk]
  · exact ((only_delFdb ..).trans (only_refreshFdb _)).begin

/-! ### Static entries (R132) -/

/-- What a taken-up write of a DOMAIN leaves: the answer with the act's status, and beside what the act leaves only the session and the
mailbox. -/
theorem State.MayWriteDom.runs {s w : State} {who : Who} {x : Session} {idx sub lo hi t : Nat} {b : Bytes} {i : Instr} {st : Status}
    {P : List Part} {K : List Nat} (h : s.MayWriteDom who x idx sub lo hi b.length) (ok : State → Bool)
    (act : Session → State → Status × State) (he : exec i s = domRow t who idx sub b lo hi ok act s)
    (hok : ok (s.heard t who idx sub) = true) (ha : act x (s.heard t who idx sub) = (st, w))
    (hf : Only (s.heard t who idx sub) w P K) (hp : Part.access ∉ P) :
    Runs i s fun u => u.answered who st ∧ Only w u [.access, .bridge] [] ∧ Only s u (P ++ [.power, .access, .bridge]) K := by
  refine .intro (he.trans (domRow_runs h t ok act hok ha)) ⟨h.toTakes.answered (hf.rest .access hp) st, only_answer .., ?_⟩
  exact (hf.and ((only_heard s t who idx sub).mono (by simp) (by simp)) (fun _ => List.mem_append_left _) (fun _ hk => hk)).two
    (only_answer ..) (by simp) (by simp)

/-- A condition on each die that one step of a fold brings about there and every step keeps holds on each die of the list. -/
theorem foldl_each {Q : State → Nat → Prop} {f : State → Nat → State} (hself : ∀ w d, Q (f w d) d)
    (hkeep : ∀ w a d, Q w d → Q (f w a) d) (l : List Nat) (s : State) : ∀ d ∈ l, Q (l.foldl f s) d := by
  induction l generalizing s with
  | nil => simp
  | cons a l ih =>
    intro d hd
    by_cases hl : d ∈ l
    · exact ih (f s a) d hl
    · obtain rfl : d = a := (List.mem_cons.mp hd).resolve_right hl
      exact List.foldlRecOn l f (motive := fun w => Q w d) (hself s d) (fun w hw b _ => hkeep w b d hw)

/-- The entry that a static entry record asks for. -/
def staticEntryOf (r : Bytes) (now : Nat) : FdbEntry :=
  { endpoint := fld r 8 2, static := true, laneSet := if bit (fld r 0x0A 1) 1 then some (fld r 0x10 8) else none, die := 0xFF, tick := 0,
    refreshed := now }

/-- The address and VID of a static entry record. -/
def staticKey (r : Bytes) : Nat := fdbKey (fldBE r 0 6) (fld r 6 2)

/-- Room for an entry on a die: a full bucket has given up its oldest dynamic entry. -/
def State.roomFor (s : State) (key d : Nat) : State :=
  if (look (s.fdbOf d) key).isNone ∧ 4 ≤ (s.bucket d key).length then
    match oldestEntry ((s.bucket d key).filter (fun x => !x.2.static)) with
    | some o => s.delFdb d o.1
    | none => s
  else s

/-- A static entry written on one die. -/
def State.putStatic (key : Nat) (e : FdbEntry) (s : State) (d : Nat) : State := (s.roomFor key d).putFdb d key e

/-- A static entry removed from one die. -/
def State.dropStatic (key : Nat) (s : State) (d : Nat) : State :=
  match look (s.fdbOf d) key with
  | some e => if e.static then s.delFdb d key else s
  | none => s

/-- Room on a die is made there, by removing an entry, or it was there. -/
theorem State.roomFor_cases (s : State) (key d : Nat) : s.roomFor key d = s ∨ ∃ k, s.roomFor key d = s.delFdb d k := by
  unfold State.roomFor
  split
  · split
    next o _ => exact .inr ⟨o.1, rfl⟩
    next => exact .inl rfl
  · exact .inl rfl

theorem State.roomFor_fdbOf_ne (s : State) (key : Nat) {a d : Nat} (h : a ≠ d) : (s.roomFor key d).fdbOf a = s.fdbOf a := by
  rcases s.roomFor_cases key d with e | ⟨k, e⟩ <;> rw [e]
  exact s.delFdb_fdbOf_ne k h

theorem only_roomFor (s : State) (key d : Nat) : Only s (s.roomFor key d) [.fwd] [] := by
  rcases s.roomFor_cases key d with e | ⟨k, e⟩ <;> rw [e]
  · exact .same ..
  · exact only_delFdb ..

theorem State.putStatic_look_self (key : Nat) (e : FdbEntry) (s : State) (d : Nat) : look ((s.putStatic key e d).fdbOf d) key = some e := by
  rw [State.putStatic, State.putFdb_fdbOf, look_ins_self]

theorem State.putStatic_look_keeps (key : Nat) (e : FdbEntry) (s : State) (a d : Nat) (h : look (s.fdbOf d) key = some e) :
    look ((s.putStatic key e a).fdbOf d) key = some e := by
  by_cases hd : d = a
  · subst hd
    exact s.putStatic_look_self key e d
  · rwa [State.putStatic, State.putFdb_fdbOf_ne _ _ _ hd, s.roomFor_fdbOf_ne key hd]

theorem only_putStatic (key : Nat) (e : FdbEntry) (s : State) (d : Nat) : Only s (s.putStatic key e d) [.fwd] [] :=
  (only_roomFor s key d).one (only_putFdb ..) (by simp)

theorem State.dropStatic_cases (key : Nat) (s : State) (d : Nat) : s.dropStatic key d = s.delFdb d key ∨
    (s.dropStatic key d = s ∧ ∀ e, look (s.fdbOf d) key = some e → e.static = false) := by
  unfold State.dropStatic
  split
  next e h =>
    cases hs : e.static with
    | true => exact .inl rfl
    | false => exact .inr ⟨rfl, fun f hf => (Option.some.inj (h.symm.trans hf)) ▸ hs⟩
  next h => exact .inr ⟨rfl, fun f hf => by simp [h] at hf⟩

theorem State.dropStatic_look_self (key : Nat) (s : State) (d : Nat) {e : FdbEntry} (h : look ((s.dropStatic key d).fdbOf d) key = some e) :
    e.static = false := by
  rcases s.dropStatic_cases key d with hc | ⟨hc, hs⟩ <;> rw [hc] at h
  · simp at h
  · exact hs e h

theorem State.dropStatic_fdbOf_ne (key : Nat) (s : State) {a d : Nat} (h : a ≠ d) : (s.dropStatic key d).fdbOf a = s.fdbOf a := by
  rcases s.dropStatic_cases key d with hc | ⟨hc, _⟩ <;> rw [hc]
  exact s.delFdb_fdbOf_ne key h

theorem only_dropStatic (key : Nat) (s : State) (d : Nat) : Only s (s.dropStatic key d) [.fwd] [] := by
  rcases s.dropStatic_cases key d with hc | ⟨hc, _⟩ <;> rw [hc]
  · exact only_delFdb ..
  · exact .same ..

/-- The state in which every die has been treated, its counts brought up to date. -/
def State.onDies (s : State) (f : State → Nat → State) : State := (s.dies.foldl f s).refreshFdb

theorem only_onDies (s : State) {f : State → Nat → State} (h : ∀ w d, Only w (f w d) [.fwd] []) :
    Only s (s.onDies f) [.fwd] [O.fdbEntriesInUse, O.fdbStaticEntries] :=
  (only_refreshFdb _).and (Only.foldl f s.dies (.same ..) fun w d _ hw => hw.one (h w d) (by simp)) (by simp) (by simp)

theorem State.onDies_each {s : State} {f : State → Nat → State} {Q : SMap FdbEntry → Prop} (hself : ∀ w d, Q ((f w d).fdbOf d))
    (hkeep : ∀ w a d, Q (w.fdbOf d) → Q ((f w a).fdbOf d)) {d : Nat} (hd : d < s.variant) : Q ((s.onDies f).fdbOf d) :=
  foldl_each (Q := fun w d => Q (w.fdbOf d)) hself hkeep s.dies s d (List.mem_range.mpr hd)

theorem staticEntryWrite_room {s : State} {r : Bytes} (x : Session)
    (h : (s.bucket s.pkg.lead (staticKey r)).all (fun y => y.2.static) = false ∨ (s.bucket s.pkg.lead (staticKey r)).length < 4) :
    staticEntryWrite r x s = (.ok, s.onDies (State.putStatic (staticKey r) (staticEntryOf r s.now))) := by
  refine if_neg ?_
  simp only [Bool.and_eq_true, decide_eq_true_eq]
  rintro ⟨⟨_, hlen⟩, hall⟩
  rcases h with h | h
  · exact Bool.false_ne_true (h.symm.trans hall)
  · exact Nat.not_le_of_lt h hlen

theorem staticEntryDelete_eq (r : Bytes) (x : Session) (s : State) :
    staticEntryDelete r x s = (.ok, s.onDies (State.dropStatic (staticKey r))) := rfl

theorem staticEntryWrite_runs {s : State} {t : Nat} {who : Who} {x : Session} {r : Bytes}
    (h : s.MayWriteDom who x 0x2430 4 24 24 r.length) (hok : staticEntryOk r = true)
    (hroom : (s.bucket s.pkg.lead (staticKey r)).all (fun y => y.2.static) = false ∨ (s.bucket s.pkg.lead (staticKey r)).length < 4) :
    Runs (.staticEntryWrite t who r) s fun u => u.answered who .ok ∧
      (∀ d, d < s.variant → (look (u.fdbOf d) (staticKey r)).map (fun e => (e.static, e.endpoint, e.laneSet)) =
        some (true, fld r 8 2, if bit (fld r 0x0A 1) 1 then some (fld r 0x10 8) else none)) ∧
      Only s u [.fwd, .access, .bridge, .power] [O.fdbEntriesInUse, O.fdbStaticEntries] := by
  have hb := State.bucket_congr (s.heard_fwd t who 0x2430 4) s.pkg.lead (staticKey r)
  have ha := staticEntryWrite_room (s := s.heard t who 0x2430 4) (r := r) x (by rwa [s.heard_pkg, hb])
  refine (h.runs _ _ rfl hok ha (only_onDies _ (only_putStatic _ _)) (by decide)).imp fun u ⟨hans, hu, hf⟩ =>
    ⟨hans, fun d hd => ?_, hf.mono (by decide) (fun _ hk => hk)⟩
  have hlook : look ((State.onDies _ _).fdbOf d) (staticKey r) = some (staticEntryOf r (s.heard t who 0x2430 4).now) :=
    State.onDies_each (s := s.heard t who 0x2430 4) (Q := fun m => look m (staticKey r) = some _) (State.putStatic_look_self _ _)
      (State.putStatic_look_keeps _ _) (by rwa [s.heard_variant])
  rw [State.fdbOf_congr (hu.rest .fwd (by decide)), hlook]
  rfl

theorem staticEntryDelete_runs {s : State} {t : Nat} {who : Who} {x : Session} {r : Bytes}
    (h : s.MayWriteDom who x 0x2430 5 8 8 r.length) : Runs (.staticEntryDelete t who r) s fun u => u.answered who .ok ∧
      ∀ d e, d < s.variant → look (u.fdbOf d) (staticKey r) = some e → e.static = false := by
  refine (h.runs (fun _ => true) _ rfl rfl (staticEntryDelete_eq r x _) (only_onDies _ (only_dropStatic _)) (by decide)).imp
    fun u ⟨hans, hu, _⟩ => ⟨hans, fun d e hd he => ?_⟩
  rw [State.fdbOf_congr (hu.rest .fwd (by decide))] at he
  refine State.onDies_each (s := s.heard t who 0x2430 5) (f := State.dropStatic (staticKey r))
    (Q := fun m => ∀ e, look m (staticKey r) = some e → e.static = false)
    (fun w a _ => w.dropStatic_look_self _ a) (fun w a d hw => ?_) (by rwa [s.heard_variant]) e he
  by_cases hda : d = a
  · subst hda
    exact fun _ => w.dropStatic_look_self _ d
  · rwa [w.dropStatic_fdbOf_ne _ hda]

/-! ### The flush (R146) -/

/-- The static entries of a database. -/
def staticEntries (m : SMap FdbEntry) : SMap FdbEntry := m.filter (fun e => e.2.static)

/-- Every die keeps its static entries only. -/
def State.flushDynamic (s : State) : State := { s with fwd := { s.fwd with fdb := mapVals staticEntries s.fwd.fdb } }

theorem State.flushDynamic_fdbOf (s : State) (d : Nat) : s.flushDynamic.fdbOf d = staticEntries (s.fdbOf d) := by
  unfold State.fdbOf get
  rw [show s.flushDynamic.fwd.fdb = mapVals staticEntries s.fwd.fdb from rfl, look_mapVals]
  cases look s.fwd.fdb d <;> rfl

theorem fdbFlush_eq (x : Session) (s : State) : fdbFlush x s = (.ok, s.flushDynamic.refreshFdb) := rfl

theorem fdbFlush_runs {s : State} {t : Nat} {who : Who} {x : Session} (h : s.MayWrite who x 0x2400 6 1) :
    Runs (.fdbFlush t who) s fun u => u.answered who .ok ∧ (∀ d y, y ∈ u.fdbOf d ↔ y ∈ s.fdbOf d ∧ y.2.static = true) ∧
      Only s u [.fwd, .access, .bridge, .power] [O.fdbEntriesInUse, O.fdbStaticEntries] := by
  have hf (w : State) : Only w w.flushDynamic.refreshFdb [.fwd] [O.fdbEntriesInUse, O.fdbStaticEntries] :=
    (only_refreshFdb _).and ((Only.same w _ _).setFwd _ (by simp)) (by simp) (by simp)
  refine (h.runs fdbFlush rfl (fdbFlush_eq ..) (hf _) (by decide)).imp fun u ⟨hans, hu, hfr⟩ =>
    ⟨hans, fun d y => ?_, hfr.mono (by decide) (fun _ hk => hk)⟩
  rw [State.fdbOf_congr (hu.rest .fwd (by decide)), State.refreshFdb_fdbOf, State.flushDynamic_fdbOf, State.fdbOf_congr (s.heard_fwd ..)]
  exact List.mem_filter

/-! ### Recovery functions (R139) -/

/-- A recovery function's history has ended. -/
def FwdSt.restartRecovery (f : FwdSt) (key : Nat) : FwdSt :=
  { f with recovery := put {} f.recovery key { get {} f.recovery key with started := false } }

theorem recoveryReset_due {s : State} {d slot : Nat} (h : (get {} s.fwd.recovery (d * 8192 + slot)).started = true)
    (hidle : s.n O.recoveryResetTimeout * s.period ≤ s.now - (get {} s.fwd.recovery (d * 8192 + slot)).lastPass) :
    recoveryReset d slot s = { s with fwd := s.fwd.restartRecovery (d * 8192 + slot) } := by
  simp only [recoveryReset, h, hidle, decide_true, Bool.and_self, if_true, FwdSt.restartRecovery]

theorem recoveryResetTimeout_runs {s : State} {t d slot : Nat} (h : (get {} s.fwd.recovery (d * 8192 + slot)).started = true)
    (hidle : s.n O.recoveryResetTimeout * s.period ≤ s.localAt t - (get {} s.fwd.recovery (d * 8192 + slot)).lastPass) :
    Runs (.recoveryResetTimeout t d slot) s fun u =>
      (get {} u.fwd.recovery (d * 8192 + slot)).started = false ∧ Only s u [.fwd] [] :=
  .intro (congrArg Host.Outcome.next (recoveryReset_due (s := s.begin t) h hidle))
    ⟨congrArg RecoverySt.started (get_put_self ..), (Only.start t s _ _).setFwd _ (by simp)⟩

end Sys2Proof.Machine

open Sys2Proof Sys2Proof.Machine

/-- Settles O16, command by command: each leaves one named state, read by the rules of a die's database. -/
theorem forwardingDatabase : Obligations.ForwardingDatabase :=
  ⟨fun _ _ _ _ _ => fdbUpdateReceive_runs, fun _ _ _ _ _ => fdbAgeOut_runs, fun _ _ _ _ _ => staticEntryWrite_runs,
    fun _ _ _ _ _ => staticEntryDelete_runs, fun _ _ _ _ => fdbFlush_runs, fun _ _ _ _ => recoveryResetTimeout_runs⟩
end

section
/-! Proofs about the datapath (R111 to R113, R127, R133, R141, R145, R153, R161 to R166): reception on a lane and over Saddle, the fetch of a
transmit chain, the selection of a lane and the shapers. -/
namespace Sys2Proof.Machine
open Sys2Proof

/-! ### Reception on a lane (R111 to R113, R161) -/

section Reception

variable {s : State} {n : Nat} {f : RxFrame} {avail : SMap Nat}

/-- What the MACsec checks of a lane say of a frame; one without a security tag passes. -/
def State.secVerdict (s : State) (n : Nat) (f : RxFrame) : SecVerdict × State :=
  match f.sec with
  | some x => s.macsecIn n x
  | none => (.pass, s)

theorem State.secVerdict_none (h : f.sec = none) : s.secVerdict n f = (.pass, s) := by
  unfold State.secVerdict
  rw [h]

theorem laneFrameReceive_carried (hon : s.laneOn n = true) (hin : s.inService n = true) (hup : s.regionUp (n / 4) = true)
    (htest : (s.lane n).testMode = 0) (hq : s.quiet = false) (hr : s.laneRestarting n = false) (hp : s.pkg.pausedTill ≤ s.now) :
    laneFrameReceive n f avail s =
      if shortFragment f then s.updLane n (fun l => { l with assemblyErrors := l.assemblyErrors + 1 })
      else ((s.handed avail).secVerdict n f).2.received n f ((s.handed avail).secVerdict n f).1 := by
  have hpause : s.paused_ = false := decide_eq_false (Nat.not_lt.mpr hp)
  unfold laneFrameReceive
  rw [hon, hin, hup, htest, hq, hr, hpause]
  rfl

theorem State.received_fragment (sec : SecVerdict) (h : f.bytes.length < 14) : s.received n f sec = s.inc64 (laneKey O.fragments n) :=
  if_pos (by omega)

/-- A frame that no class drops and no MACsec lane checked, on a die that is not in quarantine, goes on. -/
theorem State.received_passes (hlen : 14 ≤ f.bytes.length) (hq : bit s.pkg.quarantine (n / 8) = false)
    (h2 : (s.rxClasses n f).headD 0 ≠ 2) (h3 : (s.rxClasses n f).headD 0 ≠ 3) : s.received n f .pass =
      (s.inc64 (laneKey (classCounter ((s.rxClasses n f).headD 0)) n)).ingress n f (s.rxClasses n f) false := by
  have hq' : bit (s.inc64 (laneKey (classCounter ((s.rxClasses n f).headD 0)) n)).pkg.quarantine (n / 8) = false := hq
  unfold State.received
  simp only [hq', h2, h3, if_neg (by omega : ¬f.bytes.length + 4 < 18), reduceCtorEq, Bool.false_eq_true, if_false, false_and, or_false]
  rfl

theorem only_handed (s : State) (avail : SMap Nat) : Only s (s.handed avail) [.fwd] [] := (Only.same s _ _).setFwd _ (by simp)

theorem laneFrameReceive_runs {t : Nat} (hon : s.laneOn n = true) (hin : s.inService n = true) (hup : s.regionUp (n / 4) = true)
    (htest : (s.lane n).testMode = 0) (hq : s.quiet = false) (hr : s.laneRestarting n = false) (hp : s.pkg.pausedTill ≤ s.localAt t) :
    (shortFragment f = true → Runs (.laneFrameReceive t n f avail) s fun u =>
      (u.lane n).assemblyErrors = (s.lane n).assemblyErrors + 1 ∧ Only s u [.lanes] []) ∧
    (shortFragment f = false → f.sec = none → bit s.pkg.quarantine (n / 8) = false →
    (f.bytes.length < 14 → Runs (.laneFrameReceive t n f avail) s fun u =>
      u.n (laneKey O.fragments n) = satN (2 ^ 64 - 1) (s.n (laneKey O.fragments n) + 1) ∧ Only s u [.fwd] [laneKey O.fragments n]) ∧
    (14 ≤ f.bytes.length → (s.rxClasses n f).headD 0 ≠ 2 → (s.rxClasses n f).headD 0 ≠ 3 → Runs (.laneFrameReceive t n f avail) s fun u =>
      u = (((s.begin t).handed avail).inc64 (laneKey (classCounter ((s.rxClasses n f).headD 0)) n)).ingress n f (s.rxClasses n f) false)) := by
  have hrun := laneFrameReceive_carried (s := s.begin t) (f := f) (avail := avail) hon hin hup htest hq hr hp
  refine ⟨fun hs => ?_, fun hs hsec hquar => ?_⟩
  · rw [hs, if_pos rfl] at hrun
    exact .intro (congrArg Host.Outcome.next hrun)
      ⟨congrArg LaneSt.assemblyErrors (State.lane_updLane_self ..), (Only.start t s _ _).one (only_updLane ..) (by simp)⟩
  · rw [hs, State.secVerdict_none hsec, if_neg Bool.false_ne_true] at hrun
    refine ⟨fun hlen => ?_, fun hlen h2 h3 => ?_⟩
    · refine .intro (congrArg Host.Outcome.next (hrun.trans (State.received_fragment _ hlen))) ⟨State.inc64_self .., ?_⟩
      exact (((Only.start t s _ _).one (only_handed ..) (by simp)).obj (only_inc64 ..) (by simp))
    · exact .intro (congrArg Host.Outcome.next (hrun.trans (State.received_passes hlen hquar h2 h3))) rfl

end Reception

/-! ### Transmit chains that go back (R145) -/

/-- One waiting chain settled or kept, behind those before it in its ring. -/
def State.settleOne (s : State) (a : List TxWait × List Nat × State) (w : TxWait) : List TxWait × List Nat × State :=
  let k := 16 * w.die + w.ring
  if a.2.1.contains k || s.txBusy w || !s.dieUp w.die then (a.1 ++ [w], k :: a.2.1, a.2.2) else (a.1, a.2.1, a.2.2.returnTx w)

/-- The chains that wait are these. -/
def State.withTx (s : State) (l : List TxWait) : State := { s with fwd := { s.fwd with tx := l } }

theorem State.settleTx_eq (s : State) : s.settleTx =
    (s.fwd.tx.foldl s.settleOne ([], [], s)).2.2.withTx (s.fwd.tx.foldl s.settleOne ([], [], s)).1 := rfl

/-- What is on the wires stays there when chains go back. -/
theorem State.mem_settleTx_out {s : State} {o : Out} (h : o ∈ s.out) : o ∈ s.settleTx.out := by
  have hf : o ∈ (s.fwd.tx.foldl s.settleOne ([], [], s)).2.2.out :=
    List.foldlRecOn s.fwd.tx s.settleOne (motive := fun a => o ∈ a.2.2.out) h fun a ha w _ => by
      dsimp only [State.settleOne]
      split
      · exact ha
      · exact List.mem_append_left _ ha
  exact hf

/-- A chain that waits alone, its status known, goes back. -/
theorem State.settleTx_single {s : State} {w : TxWait} {st : Nat} (htx : s.fwd.tx = [w]) (hst : w.status = some st)
    (hd : s.dieUp w.die = true) : s.settleTx = (s.returnTx w).withTx [] := by
  have hbusy : s.txBusy w = false := by
    unfold State.txBusy
    rw [hst]
    rfl
  have hone : s.settleOne ([], [], s) w = ([], [], s.returnTx w) := by
    unfold State.settleOne
    rw [hbusy, hd]
    rfl
  rw [State.settleTx_eq, htx, List.foldl_cons, List.foldl_nil, hone]

theorem State.returnTx_out (s : State) (w : TxWait) : Out.txReturn w.die w.ring w.first (txReturned w) ∈ (s.returnTx w).out :=
  List.mem_append_right _ (List.mem_singleton_self _)

theorem State.returnTx_interrupt (s : State) (w : TxWait) : bit (get 0 (s.returnTx w).bridge.intPending w.die) (16 + w.ring) = true :=
  (congrArg (bit · (16 + w.ring)) (get_upd_self 0 s.bridge.intPending w.die fun m => setBit m (16 + w.ring) true)).trans
    (bit_setBit_self ..)

/-! ### The fetch of a transmit chain (R145) -/

/-- A chain refused for what it holds is counted with its ring's transmit errors. -/
def State.countRefusal (s : State) (d r st : Nat) : State := if 2 ≤ st ∧ st ≤ 4 then s.inc32 (ringKey O.transmitErrors d r) else s

/-- The entry under which a refused chain waits. -/
def State.refusedWait (s : State) (d r : Nat) (c : TxChain) (st : Nat) : TxWait :=
  ⟨s.fwd.txNext, d, r, s.n (ringKey O.nextTransmitDescriptor d r), (c.takeWhile (fun x => txFlag x.desc 7)).map TxDesc.desc, false, false,
    some st, 0xFF, 0, 0, s.now⟩

theorem State.refuseTx_tx (s : State) (d r : Nat) (c : TxChain) (st : Nat) :
    (s.refuseTx d r c st).fwd.tx = s.fwd.tx ++ [s.refusedWait d r c st] := rfl

theorem State.refuseTx_dieUp (s : State) (d r : Nat) (c : TxChain) (st e : Nat) : (s.refuseTx d r c st).dieUp e = s.dieUp e := rfl

section Refusal

variable (s : State) (d r st : Nat)

theorem State.countRefusal_fwd : (s.countRefusal d r st).fwd = s.fwd := by
  unfold State.countRefusal
  split <;> rfl

theorem State.countRefusal_dieUp (e : Nat) : (s.countRefusal d r st).dieUp e = s.dieUp e := by
  unfold State.countRefusal
  split <;> rfl

variable {r} in
/-- *next transmit descriptor* is no counter of errors, nor is the node-ID. -/
theorem State.countRefusal_next (hr : r < 16) :
    (s.countRefusal d r st).n (ringKey O.nextTransmitDescriptor d r) = s.n (ringKey O.nextTransmitDescriptor d r) := by
  unfold State.countRefusal
  split
  · refine State.setN_other _ _ _ _ ?_ ?_ <;> simp only [ringKey, byIdx, O.nextTransmitDescriptor, O.transmitErrors, O.nodeID] <;> omega
  · rfl

end Refusal

/-- A refused chain with none before it goes back at once. -/
theorem State.refuseTx_settles {s : State} {d : Nat} (r : Nat) (c : TxChain) (st : Nat) (htx : s.fwd.tx = []) (hd : s.dieUp d = true) :
    (s.refuseTx d r c st).settleTx = ((s.refuseTx d r c st).returnTx (s.refusedWait d r c st)).withTx [] :=
  State.settleTx_single ((s.refuseTx_tx d r c st).trans (congrArg (· ++ _) htx)) rfl ((s.refuseTx_dieUp d r c st d).trans hd)

section Fetch

variable {s : State} {d r st : Nat} {chain : TxChain} {avail : SMap Nat}

theorem transmitFetch_ring (hd : s.dieUp d = true) (hr : r < 16) :
    transmitFetch d r chain avail s = ((s.handed avail).fetchTx d r chain).settleTx := by
  unfold transmitFetch
  rw [hd, decide_eq_false (Nat.not_le_of_lt hr)]
  rfl

theorem State.fetchTx_refuses (hen : s.n (ringKey O.transmitRingEnable d r) = 1) (hskip : look s.fwd.txSkip (16 * d + r) = none)
    (hst : s.txStatus d r (chainOf chain) = some st) (h0 : st ≠ 0) :
    s.fetchTx d r chain = (s.countRefusal d r st).refuseTx d r (chainOf chain) st := by
  obtain ⟨k, rfl⟩ := Nat.exists_eq_succ_of_ne_zero h0
  unfold State.fetchTx
  simp only [hskip, hen, hst, ne_eq, not_true_eq_false, if_false]
  rfl

theorem State.fetchTx_starts {f : TxDesc} {c : TxChain} (hen : s.n (ringKey O.transmitRingEnable d r) = 1)
    (hskip : look s.fwd.txSkip (16 * d + r) = none) (hst : s.txStatus d r (chainOf chain) = some 0) (hc : chainOf chain = f :: c) :
    s.fetchTx d r chain = s.startTx d r (f :: c) f := by
  rw [hc] at hst
  unfold State.fetchTx
  simp only [hskip, hen, hc, hst, ne_eq, not_true_eq_false, if_false]

theorem transmitFetch_refuses_runs {t : Nat} (hd : s.dieUp d = true) (hr : r < 16) (hen : s.n (ringKey O.transmitRingEnable d r) = 1)
    (hskip : look s.fwd.txSkip (16 * d + r) = none) (hst : ((s.begin t).handed avail).txStatus d r (chainOf chain) = some st)
    (h0 : st ≠ 0) (htx : s.fwd.tx = []) : Runs (.transmitDescriptorFetch t d r chain avail) s fun u =>
      bit (get 0 u.bridge.intPending d) (16 + r) = true ∧ u.fwd.tx = [] ∧
      ∃ w : TxWait, w.descs = ((chainOf chain).takeWhile (fun x => txFlag x.desc 7)).map TxDesc.desc ∧ w.status = some st ∧
        Out.txReturn d r (s.n (ringKey O.nextTransmitDescriptor d r)) (txReturned w) ∈ u.out := by
  have hfetch := State.fetchTx_refuses (s := (s.begin t).handed avail) hen hskip hst h0
  have hnext := ((s.begin t).handed avail).countRefusal_next d st hr
  have hfwd := ((s.begin t).handed avail).countRefusal_fwd d r st
  have hup := (((s.begin t).handed avail).countRefusal_dieUp d r st d).trans hd
  generalize ((s.begin t).handed avail).countRefusal d r st = q at hfetch hnext hfwd hup
  have hsettle := q.refuseTx_settles r (chainOf chain) st ((congrArg FwdSt.tx hfwd).trans htx) hup
  have hout := (q.refuseTx d r (chainOf chain) st).returnTx_out (q.refusedWait d r (chainOf chain) st)
  rw [show (q.refusedWait d r (chainOf chain) st).first = s.n (ringKey O.nextTransmitDescriptor d r) from hnext] at hout
  exact .intro (congrArg Host.Outcome.next ((transmitFetch_ring (s := s.begin t) hd hr).trans
    ((congrArg State.settleTx hfetch).trans hsettle))) ⟨State.returnTx_interrupt .., rfl, _, rfl, rfl, hout⟩

theorem transmitFetch_starts_runs {t : Nat} {f : TxDesc} {c : TxChain} (hd : s.dieUp d = true) (hr : r < 16)
    (hen : s.n (ringKey O.transmitRingEnable d r) = 1) (hskip : look s.fwd.txSkip (16 * d + r) = none)
    (hst : ((s.begin t).handed avail).txStatus d r (chainOf chain) = some 0) (hc : chainOf chain = f :: c) :
    Runs (.transmitDescriptorFetch t d r chain avail) s fun u =>
      u = (((s.begin t).handed avail).startTx d r (f :: c) f).settleTx :=
  .intro (congrArg Host.Outcome.next ((transmitFetch_ring (s := s.begin t) hd hr).trans
    (congrArg State.settleTx (State.fetchTx_starts (s := (s.begin t).handed avail) hen hskip hst hc)))) rfl

end Fetch

/-! ### Frames over Saddle (R133, R141) -/

theorem bitsSet_two_pow {n k : Nat} (h : n < k) : bitsSet (2 ^ n) k = [n] := by
  have hbit : bit (2 ^ n) = fun i => decide (i = n) := by
    funext i
    rw [bit_eq_testBit, Nat.testBit_two_pow]
    exact decide_eq_decide.mpr eq_comm
  unfold bitsSet
  rw [hbit, List.filter_eq, List.count_range, if_pos h, List.replicate_one]

section Saddle

variable {s : State} {d : Nat} {m : SaddleFrame}

theorem saddleFrameReceive_up {avail : SMap Nat} (hd : s.dieUp d = true) : saddleFrameReceive d m avail s =
    (((s.handed avail).txAway m.tx (· - 1)).saddleIn d m).settleTx := by
  unfold saddleFrameReceive
  rw [hd]
  rfl

theorem State.saddleIn_onward {h : Nat} {way : List Nat} (hw : m.way = h :: way) (hn : (s.neighbours d).contains h = true) :
    s.saddleIn d m = s.toSaddle h { m with way := way } := by
  unfold State.saddleIn
  simp only [hw, hn, if_true]

theorem State.saddleIn_unclassified (hw : m.way = []) (hm : m.mirrorCopy = false) (hc : s.contract m.slot = none) :
    s.saddleIn d m = s.saddleCopies d m := by
  unfold State.saddleIn
  simp only [hw, hm, hc, ite_self, Bool.false_eq_true, if_false]

/-- The copy of a frame for one lane of the die. -/
theorem State.saddleCopies_lane {n : Nat} (hn : n < 64) (hd : n / 8 = d) (hl : m.lanes = 2 ^ n) (hr : m.rings = 0) :
    s.saddleCopies d m = s.enqueue n (s.copyFor (s.saddlePkt m d) n (s.beClass (s.saddlePkt m d) n) false (rtagOf m.bytes)) := by
  unfold State.saddleCopies
  rw [hl, hr, bitsSet_two_pow hn, List.filter_cons_of_pos (by simpa using hd), show bitsSet 0 16 = [] from by decide]
  rfl

theorem saddleFrameReceive_runs {t : Nat} {avail : SMap Nat} (hd : s.dieUp d = true) :
    (∀ n, n < 64 → n / 8 = d → m.way = [] → m.mirrorCopy = false → s.contract m.slot = none → m.lanes = 2 ^ n → m.rings = 0 →
      Runs (.saddleFrameReceive t d m avail) s fun u => ∃ w, w = ((s.begin t).handed avail).txAway m.tx (· - 1) ∧
        u = (w.enqueue n (w.copyFor (w.saddlePkt m d) n (w.beClass (w.saddlePkt m d) n) false (rtagOf m.bytes))).settleTx) ∧
    (∀ h way, m.way = h :: way → (s.neighbours d).contains h = true → Runs (.saddleFrameReceive t d m avail) s fun u =>
      Out.saddle h (saddleHeader m) { m with way := way } ∈ u.out) := by
  have hrun := saddleFrameReceive_up (s := s.begin t) (m := m) (avail := avail) hd
  refine ⟨fun n hn hnd hw hm hc hl hr => ?_, fun h way hw hn => ?_⟩
  · have hin := (State.saddleIn_unclassified (s := ((s.begin t).handed avail).txAway m.tx (· - 1)) (d := d) hw hm hc).trans
      (State.saddleCopies_lane hn hnd hl hr)
    exact .intro (congrArg Host.Outcome.next (hrun.trans (congrArg State.settleTx hin))) ⟨_, rfl, rfl⟩
  · have hin := State.saddleIn_onward (s := ((s.begin t).handed avail).txAway m.tx (· - 1)) hw hn
    exact .intro (congrArg Host.Outcome.next (hrun.trans (congrArg State.settleTx hin)))
      (State.mem_settleTx_out (List.mem_append_right _ (List.mem_singleton_self _)))

end Saddle

/-! ### Credits brought up to date (R163, R166) -/

theorem State.accrue_lane (s : State) (n : Nat) : ∃ c6 c5 ct, (s.accrue n).lane n =
    { s.lane n with credit6 := c6, credit5 := c5, creditTime := ct } := ⟨_, _, _, State.lane_updLane_self ..⟩

theorem State.accrued_lane (s : State) (n : Nat) : ∃ c6 c5 ct bc bt, ((s.accrue n).accrueBe n).lane n =
    { s.lane n with credit6 := c6, credit5 := c5, creditTime := ct, beCount := bc, beTime := bt } := by
  obtain ⟨c6, c5, ct, h⟩ := s.accrue_lane n
  refine ⟨c6, c5, ct, ?_⟩
  unfold State.accrueBe
  rw [State.lane_updLane_self, h]
  exact ⟨_, _, rfl⟩

theorem State.accrued_atBoundary (s : State) (n : Nat) : ((s.accrue n).accrueBe n).atBoundary n = s.atBoundary n := by
  obtain ⟨_, _, _, _, _, h⟩ := s.accrued_lane n
  unfold State.atBoundary
  rw [h]
  rfl

theorem State.selecting_suspended (s : State) (t n : Nat) (avail : SMap Nat) :
    ((s.selecting t n avail).lane n).preempted = (s.lane n).preempted ∧ ((s.selecting t n avail).lane n).hold = (s.lane n).hold := by
  obtain ⟨_, _, _, _, _, h⟩ := ((s.begin t).handed avail).accrued_lane n
  unfold State.selecting
  rw [State.lane_updLane_self, h]
  exact ⟨rfl, rfl⟩

/-! ### Transmit selection (R153, R162, R174) -/

section Pick

variable {s : State} {n : Nat}

theorem State.pick_flow {q : Nat} (h : s.flowFrame n = some q) : s.pick n = s.startFlow n q := by
  unfold State.pick
  simp only [h]

/-- With nothing suspended and no hold the first candidate starts, express or not. -/
theorem State.pick_first {f : QFrame} {relief : Bool} {rest : List (QFrame × Bool)} (h : s.flowFrame n = none)
    (hp : (s.lane n).preempted = none) (hh : (s.lane n).hold = false) (hc : s.candidates n = (f, relief) :: rest) :
    s.pick n = s.startFrame n f relief := by
  unfold State.pick
  simp only [h, hc, hp, hh, Option.isNone_none, Bool.not_false, Bool.and_self, Bool.or_true, List.find?_cons_of_pos]

theorem State.pick_none (h : s.flowFrame n = none) (hc : s.candidates n = []) : s.pick n = (s.tryResume n).getD s := by
  unfold State.pick
  simp only [h, hc, List.find?_nil]

theorem State.tryResume_none (hp : (s.lane n).preempted = none) : s.tryResume n = none := by
  unfold State.tryResume
  simp only [hp]

theorem State.tryResume_some {f : QFrame} (hp : (s.lane n).preempted = some f) (hh : (s.lane n).hold = false)
    (hg : s.gateOpen n f.tc = true) : ∃ w : State, s.tryResume n = some (w.emit (.resume n f)) := by
  unfold State.tryResume
  simp only [hp, hh, hg, Bool.not_true, Bool.or_self, Bool.false_eq_true, if_false]
  exact ⟨_, rfl⟩

end Pick

/-- At its boundary a lane that sends brings its credits up to date and picks. -/
theorem State.select_boundary {s : State} {n : Nat} (hin : s.inService n = true) (hl : s.laneStands n = true)
    (htest : (s.lane n).testMode = 0) (hq : s.quiet = false) (hp : s.pkg.pausedTill ≤ s.now) (hb : s.atBoundary n = true) :
    s.select n = (((s.accrue n).accrueBe n).updLane n fun l => { l with sending := none, sendLeft := 0 }).pick n := by
  have hpause : s.paused_ = false := decide_eq_false (Nat.not_lt.mpr hp)
  have hb' := (s.accrued_atBoundary n).trans hb
  unfold State.select
  simp only [hin, hl, htest, hq, hpause, hb', Bool.not_true, bne_self_eq_false, Bool.or_self, Bool.false_eq_true, if_false, if_true]

theorem transmitSelection_runs {s : State} {t n : Nat} {avail : SMap Nat} (hin : s.inService n = true) (hl : s.laneStands n = true)
    (htest : (s.lane n).testMode = 0) (hq : s.quiet = false) (hp : s.pkg.pausedTill ≤ s.localAt t)
    (hb : (s.begin t).atBoundary n = true) : Runs (.transmitSelection t n avail) s fun u =>
      (∀ q, (s.selecting t n avail).flowFrame n = some q → u = ((s.selecting t n avail).startFlow n q).settleTx) ∧
      ((s.selecting t n avail).flowFrame n = none →
        (∀ f relief rest, (s.lane n).preempted = none → (s.lane n).hold = false → (s.selecting t n avail).candidates n = (f, relief) :: rest →
          u = ((s.selecting t n avail).startFrame n f relief).settleTx) ∧
        ((s.lane n).preempted = none → (s.selecting t n avail).candidates n = [] → u = (s.selecting t n avail).settleTx) ∧
        (∀ f, (s.lane n).preempted = some f → (s.lane n).hold = false → (s.selecting t n avail).candidates n = [] →
          (s.selecting t n avail).gateOpen n f.tc = true → Out.resume n f ∈ u.out)) := by
  obtain ⟨hpre, hhold⟩ := s.selecting_suspended t n avail
  rw [← hpre, ← hhold]
  have hsel : ((s.begin t).handed avail).select n = (s.selecting t n avail).pick n := State.select_boundary hin hl htest hq hp hb
  refine .intro (congrArg (fun w : State => Host.Outcome.next w.settleTx) hsel)
    ⟨fun q hf => ?_, fun hf => ⟨fun f relief rest hn hh hc => ?_, fun hn hc => ?_, fun f hs hh hc hg => ?_⟩⟩
  · rw [State.pick_flow hf]
  · rw [State.pick_first hf hn hh hc]
  · rw [State.pick_none hf hc, State.tryResume_none hn, Option.getD_none]
  · obtain ⟨w, hw⟩ := State.tryResume_some hs hh hg
    rw [State.pick_none hf hc, hw, Option.getD_some]
    exact State.mem_settleTx_out (List.mem_append_right _ (List.mem_singleton_self _))

/-- A credit or a count that reaches 0 on a lane where a frame waits is a selection (R163, R166). -/
theorem creditReachesZero_runs {s : State} {t n tc : Nat} {avail : SMap Nat} (h : s.waits n tc = true) :
    Runs (.creditReachesZero t n tc avail) s fun u => exec (.transmitSelection t n avail) s = .next u :=
  .intro (congrArg Host.Outcome.next (if_pos h)) rfl

theorem limiterCountReachesZero_runs {s : State} {t n tc : Nat} {avail : SMap Nat} (htc : tc < 3) (h : s.waits n tc = true) :
    Runs (.limiterCountReachesZero t n avail) s fun u => exec (.transmitSelection t n avail) s = .next u :=
  .intro (congrArg Host.Outcome.next (if_pos (List.any_eq_true.mpr ⟨tc, List.mem_range.mpr htc, h⟩))) rfl

/-! ### Shapers (R165) -/

/-- A shaper whose only frame has left and paid `b` from both counts. -/
def ShaperSt.paid (x : ShaperSt) (b : Int) : ShaperSt := { x with fifo := [], cc := x.cc - b, pc := x.pc - b }

/-- A state with one shaper written. -/
def State.putShaper (s : State) (key : Nat) (x : ShaperSt) : State := { s with fwd := { s.fwd with shapers := ins s.fwd.shapers key x } }

theorem only_putShaper (s : State) (key : Nat) (x : ShaperSt) : Only s (s.putShaper key x) [.fwd] [] :=
  (Only.same s _ _).setFwd _ (by simp)

theorem only_pushQueue (s : State) (n : Nat) (f : QFrame) : Only s (s.pushQueue n f) [.lanes] [] :=
  (only_updLane ..).one (only_updLane ..) (by simp)

theorem State.pushQueue_queues (s : State) (n : Nat) (f : QFrame) : ((s.pushQueue n f).lane n).queues = (s.lane n).queues ++ [f] := by
  obtain ⟨_, _, _, h⟩ := s.accrue_lane n
  unfold State.pushQueue State.joinQueue
  rw [State.lane_updLane_self, h]

theorem shaperEligible_single {s : State} {n slot : Nat} {x : ShaperSt} {f : QFrame} (h : look s.fwd.shapers (n * 8192 + slot) = some x)
    (hf : x.fifo = [f]) (hc : 0 ≤ (x.accrue s.now).cc) (hp : 0 ≤ (x.accrue s.now).pc) : shaperEligible n slot s =
      (s.putShaper (n * 8192 + slot) ((x.accrue s.now).paid (s.counted x.lane f.len * 8000000 : Nat))).pushQueue x.lane
        { f with since := s.now } := by
  have hf' : (x.accrue s.now).fifo = [f] := hf
  unfold shaperEligible
  simp only [h, hf, List.length_singleton, releaseShaper, hf', hc, hp, and_self, if_true]
  rfl

theorem shaperEligible_runs {s : State} {t n slot : Nat} {x : ShaperSt} {f : QFrame} (h : look s.fwd.shapers (n * 8192 + slot) = some x)
    (hf : x.fifo = [f]) (hc : 0 ≤ (x.accrue (s.localAt t)).cc) (hp : 0 ≤ (x.accrue (s.localAt t)).pc) :
    Runs (.shaperEligible t n slot) s fun u =>
      (∃ y, look u.fwd.shapers (n * 8192 + slot) = some y ∧ y.fifo = [] ∧
        y.cc = (x.accrue (s.localAt t)).cc - ((s.counted x.lane f.len * 8000000 : Nat) : Int) ∧
        y.pc = (x.accrue (s.localAt t)).pc - ((s.counted x.lane f.len * 8000000 : Nat) : Int)) ∧
      (u.lane x.lane).queues = (s.lane x.lane).queues ++ [{ f with since := s.localAt t }] ∧ Only s u [.lanes, .fwd] [] :=
  .intro (congrArg Host.Outcome.next (shaperEligible_single (s := s.begin t) h hf hc hp))
    ⟨⟨_, look_ins_self .., rfl, rfl, rfl⟩, State.pushQueue_queues ..,
      ((Only.start t s _ _).one (only_putShaper ..) (by simp)).one (only_pushQueue ..) (by simp)⟩

end Sys2Proof.Machine

open Sys2Proof Sys2Proof.Machine

/-- Settles O19, command by command: each is an equation for the branch that its hypotheses name. -/
theorem datapath : Obligations.Datapath :=
  ⟨fun _ _ _ _ _ => laneFrameReceive_runs, fun _ _ _ _ _ => saddleFrameReceive_runs,
    fun _ _ _ _ _ _ _ hd hr hen hskip hst => ⟨transmitFetch_refuses_runs hd hr hen hskip hst,
      fun _ _ h0 => transmitFetch_starts_runs hd hr hen hskip (h0 ▸ hst)⟩,
    fun _ _ _ _ => transmitSelection_runs, fun _ _ _ _ _ _ => shaperEligible_runs, fun _ _ _ _ _ => creditReachesZero_runs,
    fun _ _ _ _ _ => limiterCountReachesZero_runs⟩
end

section
/-! Proofs about pauses and gates (R158, R159, R162, R172, R174, R175): how the timers of a lane start and end, what flow control sends
again, and how lists, holds and relief frames come into force. -/
namespace Sys2Proof.Machine
open Sys2Proof

/-! ### The keys of scheduling objects -/

theorem bySub_ne {m k : Nat} (n : Nat) (h : m ≠ k) : bySub m n ≠ bySub k n := by
  unfold bySub
  omega

/-- The objects below the node-ID that run over the lanes' subindexes stay below it. -/
theorem bySub_ne_nodeID {m n : Nat} (hn : n < 64) (h : m + 64 ≤ O.nodeID) : bySub m n ≠ O.nodeID := by
  unfold bySub
  omega

theorem laneMode_ne_pauseFrames {n : Nat} (hn : n < 64) : laneKey O.laneMode n ≠ bySub O.pauseFramesReceived n := by
  simp only [laneKey, byIdx, bySub, O.laneMode, O.pauseFramesReceived]
  omega

/-- An object that runs over items keeps its index and subindex. -/
theorem at_ne {m k : Nat} (n : Nat) (h : m % 16777216 ≠ k % 16777216) : at_ m n ≠ k := by
  rintro rfl
  unfold at_ at h
  omega

theorem at_ne_gateCycle {m n : Nat} (hn : n < 64) (h : O.gateCycle + 64 ≤ m) (i : Nat) : at_ m i ≠ laneSub O.gateCycle n := by
  unfold laneSub bySub at_
  omega

/-! ### Masks -/

theorem bit_foldl_setBit (l : List Nat) (a i : Nat) :
    bit (l.foldl (fun a j => setBit a j true) a) i = (decide (i ∈ l) || bit a i) := by
  induction l generalizing a with
  | nil => simp
  | cons j l ih =>
    rw [List.foldl_cons, ih, bit_setBit]
    by_cases h : i = j <;> simp [h]

/-- The bits of a mask are its members. -/
theorem bit_maskOf (l : List Nat) (i : Nat) : bit (maskOf l) i = decide (i ∈ l) := by
  unfold maskOf
  rw [bit_foldl_setBit, bit_eq_testBit, Nat.zero_testBit, Bool.or_false]

/-! ### *pause status* (R172, R175) -/

/-- The starvation clock of a class stops where its pause begins and goes on where it ends (R175). -/
def State.pauseClock (n was now : Nat) (s : State) (tc : Nat) : State :=
  if !bit was tc && bit now tc then s.updLane n (fun l => { l with pausedSince := ins l.pausedSince tc s.now })
  else if bit was tc && !bit now tc then
    s.updLane n (fun l =>
      let d := s.now - (look l.pausedSince tc).getD s.now
      { l with pausedSince := del l.pausedSince tc,
               beSent := match look l.beSent tc with | some v => ins l.beSent tc (v + d) | none => l.beSent })
  else s

/-- The classes of Best-effort that are paused. -/
def State.pausedMask (s : State) (n : Nat) : Nat := maskOf ((List.range 3).filter (s.paused n))

theorem State.refreshPause_eq (s : State) (n : Nat) : s.refreshPause n =
    (List.range 3).foldl (State.pauseClock n (s.n (bySub O.pauseStatus n)) (s.pausedMask n))
      (s.setN (bySub O.pauseStatus n) (s.pausedMask n)) := rfl

theorem State.bit_pausedMask (s : State) (n : Nat) {tc : Nat} (h : tc < 3) : bit (s.pausedMask n) tc = s.paused n tc := by
  unfold State.pausedMask
  simp [bit_maskOf, h]

theorem only_pauseClock (n was now : Nat) (s : State) (tc : Nat) : Only s (s.pauseClock n was now tc) [.lanes] [] :=
  .ite (only_updLane ..) (.ite (only_updLane ..) (.same ..))

theorem State.pauseClock_lane (n was now : Nat) (s : State) (tc : Nat) :
    ∃ p b, (s.pauseClock n was now tc).lane n = { s.lane n with pausedSince := p, beSent := b } := by
  unfold State.pauseClock
  split
  next => exact ⟨_, _, State.lane_updLane_self ..⟩
  next =>
    split
    next => exact ⟨_, _, State.lane_updLane_self ..⟩
    next => exact ⟨_, _, rfl⟩

section Refresh

variable (s : State) (n : Nat)

theorem only_pauseClocks (was now : Nat) (l : List Nat) : Only s (l.foldl (State.pauseClock n was now) s) [.lanes] [] :=
  Only.foldl _ _ (Only.same s _ _) fun w tc _ hw => hw.one (only_pauseClock n was now w tc) (by simp)

theorem only_refreshPause : Only s (s.refreshPause n) [.lanes] [bySub O.pauseStatus n] :=
  (only_pauseClocks ..).and ((only_setN ..).mono (by simp) (fun _ hk => hk)) (fun _ hp => hp) (by simp)

theorem State.refreshPause_now : (s.refreshPause n).now = s.now := now_of_core (State.refreshPause_core (R := 512) rfl s n) rfl

/-- Of the lane only the starvation clocks change. -/
theorem State.refreshPause_lane : ∃ p b, (s.refreshPause n).lane n = { s.lane n with pausedSince := p, beSent := b } := by
  rw [State.refreshPause_eq]
  refine List.foldlRecOn _ _ (motive := fun w : State => ∃ p b, w.lane n = { s.lane n with pausedSince := p, beSent := b })
    ⟨_, _, rfl⟩ fun w ⟨_, _, hw⟩ tc _ => ?_
  obtain ⟨p, b, hc⟩ := State.pauseClock_lane n (s.n (bySub O.pauseStatus n)) (s.pausedMask n) w tc
  exact ⟨p, b, by rw [hc, hw]⟩

theorem State.refreshPause_status : (s.refreshPause n).n (bySub O.pauseStatus n) = s.pausedMask n := by
  rw [State.refreshPause_eq, (only_pauseClocks ..).n_all, State.setN_self]

variable {n}

theorem State.refreshPause_paused (hn : n < 64) (tc : Nat) : (s.refreshPause n).paused n tc = s.paused n tc := by
  have hkeep {m : Nat} (hm : m ≠ O.pauseStatus) : (s.refreshPause n).n (bySub m n) = s.n (bySub m n) :=
    (only_refreshPause s n).n_eq (by simpa using bySub_ne n hm) (by simpa using (bySub_ne_nodeID hn (by decide)).symm)
  obtain ⟨p, b, hl⟩ := s.refreshPause_lane n
  unfold State.paused State.pcpClass
  rw [hkeep (by decide), hkeep (by decide), hl, State.refreshPause_now]

/-- *pause status* shows the classes that are paused. -/
theorem State.refreshPause_shows (hn : n < 64) {tc : Nat} (h : tc < 3) :
    bit ((s.refreshPause n).n (bySub O.pauseStatus n)) tc = (s.refreshPause n).paused n tc := by
  rw [State.refreshPause_status, State.bit_pausedMask s n h, State.refreshPause_paused s hn]

end Refresh

/-! ### PAUSE and PFC frames received (R172) -/

/-- Pause timers after `q` quanta for priority `k`, which end at `till`: a time of 0 ends the timer. -/
def setTimer (m : SMap Nat) (k q till : Nat) : SMap Nat := if q = 0 then del m k else ins m k till

theorem look_setTimer_self (m : SMap Nat) (k q till : Nat) : look (setTimer m k q till) k = if q = 0 then none else some till := by
  unfold setTimer
  split
  · exact look_del_self ..
  · exact look_ins_self ..

theorem look_setTimer_ne (m : SMap Nat) {k j : Nat} (q till : Nat) (h : j ≠ k) : look (setTimer m k q till) j = look m j := by
  unfold setTimer
  split
  · exact look_del_ne _ _ _ h
  · exact look_ins_ne _ _ _ _ h

/-- When a time of `q` quanta that starts now ends. -/
def State.pauseEnd (s : State) (n q : Nat) : Nat := s.now + ceilDiv (q * 512 * 1000000) (max 1 (s.laneRate n))

/-- A frame with a time for one priority has been counted, and the time stands. -/
def State.timed (s : State) (n k q : Nat) : State :=
  (s.inc64 (bySub O.pauseFramesReceived n)).updLane n fun l => { l with pause := setTimer l.pause k q (s.pauseEnd n q) }

theorem State.inc64_laneRate (s : State) {n : Nat} (hn : n < 64) :
    (s.inc64 (bySub O.pauseFramesReceived n)).laneRate n = s.laneRate n :=
  congrArg modeRate (State.setN_other _ _ _ _ (laneMode_ne_pauseFrames hn) (bySub_ne_nodeID hn (by decide)))

theorem State.timed_lane (s : State) (n k q : Nat) :
    (s.timed n k q).lane n = { s.lane n with pause := setTimer (s.lane n).pause k q (s.pauseEnd n q) } := State.lane_updLane_self ..

section PauseReceive

variable {s : State} {t n : Nat} {pfc : Bool} {times : List (Nat × Nat)} (hl : s.hasLane n = true) (hup : s.regionUp (n / 4) = true)
include hl hup

theorem pauseReceive_drained (hr : s.laneRestarting n = true) : pauseReceive n pfc times s = s.inc64 (laneKey O.drained n) := by
  unfold pauseReceive
  rw [hl, hup, hr]
  rfl

theorem pauseReceive_drained_runs (hr : s.laneRestarting n = true) : Runs (.pauseReceive t n pfc times) s fun u =>
    u.n (laneKey O.drained n) = satN (2 ^ 64 - 1) (s.n (laneKey O.drained n) + 1) ∧ Only s u [] [laneKey O.drained n] :=
  .intro (congrArg Host.Outcome.next (pauseReceive_drained (s := s.begin t) hl hup hr))
    ⟨State.inc64_self .., (Only.start t s _ _).obj (only_inc64 ..) (by simp)⟩

variable (hr : s.laneRestarting n = false)
include hr

theorem pauseReceive_ignored (hoff : bit (s.n (bySub O.flowControl n)) (if pfc then 1 else 0) = false) :
    pauseReceive n pfc times s = s.inc64 (bySub O.pauseIgnored n) := by
  unfold pauseReceive
  rw [hl, hup, hr, hoff]
  simp

theorem pauseReceive_ignored_runs (hoff : bit (s.n (bySub O.flowControl n)) (if pfc then 1 else 0) = false) :
    Runs (.pauseReceive t n pfc times) s fun u =>
      u.n (bySub O.pauseIgnored n) = satN (2 ^ 64 - 1) (s.n (bySub O.pauseIgnored n) + 1) ∧ Only s u [] [bySub O.pauseIgnored n] :=
  .intro (congrArg Host.Outcome.next (pauseReceive_ignored (s := s.begin t) hl hup hr hoff))
    ⟨State.inc64_self .., (Only.start t s _ _).obj (only_inc64 ..) (by simp)⟩

variable (hn : n < 64) {k q : Nat} (hon : bit (s.n (bySub O.flowControl n)) (if pfc then 1 else 0) = true)
  (hok : pfc = true → bit (s.n (bySub O.pausableClasses n)) (s.pcpClass n k) = true)
include hn hon hok

theorem pauseReceive_timed : pauseReceive n pfc [(k, q)] s = (s.timed n k q).refreshPause n := by
  have hgood : (!pfc || bit (s.n (bySub O.pausableClasses n)) (s.pcpClass n k)) = true := by
    cases pfc with
    | false => rfl
    | true => exact hok rfl
  unfold pauseReceive
  rw [hl, hup, hr, hon]
  simp only [List.filter_cons, List.filter_nil, hgood, List.length_singleton, Nat.lt_irrefl, Bool.not_true, Bool.or_self, or_self,
    Bool.false_eq_true, if_false, if_true, List.isEmpty_cons, List.foldl_cons, List.foldl_nil, State.inc64_laneRate s hn]
  rfl

theorem pauseReceive_timed_runs : Runs (.pauseReceive t n pfc [(k, q)]) s fun u =>
    look (u.lane n).pause k = (if q = 0 then none else some (s.localAt t + ceilDiv (q * 512 * 1000000) (max 1 (s.laneRate n)))) ∧
    (∀ j, j ≠ k → look (u.lane n).pause j = look (s.lane n).pause j) ∧ (u.lane n).queues = (s.lane n).queues ∧
    (∀ tc, tc < 3 → bit (u.n (bySub O.pauseStatus n)) tc = u.paused n tc) := by
  refine .intro (congrArg Host.Outcome.next (pauseReceive_timed (s := s.begin t) hl hup hr hn hon hok)) ?_
  obtain ⟨_, _, hlane⟩ := ((s.begin t).timed n k q).refreshPause_lane n
  rw [hlane, State.timed_lane]
  exact ⟨look_setTimer_self .., fun j hj => look_setTimer_ne _ _ _ hj, rfl, fun tc htc => State.refreshPause_shows _ hn htc⟩

end PauseReceive

/-! ### Timers that run out (R172) -/

theorem pauseTimerExpiry_runs {s : State} {t n : Nat} (hn : n < 64) (hl : s.hasLane n = true) :
    Runs (.pauseTimerExpiry t n) s fun u => (∀ e, e ∈ (u.lane n).pause ↔ e ∈ (s.lane n).pause ∧ s.localAt t < e.2) ∧
      (∀ tc, tc < 3 → bit (u.n (bySub O.pauseStatus n)) tc = u.paused n tc) ∧ Only s u [.lanes] [bySub O.pauseStatus n] := by
  refine .intro (congrArg Host.Outcome.next (if_pos (c := (s.begin t).hasLane n = true) hl)) ⟨fun e => ?_, fun tc htc => ?_, ?_⟩
  · obtain ⟨_, _, hlane⟩ := ((s.begin t).updLane n fun l =>
      { l with pause := l.pause.filter (fun e => decide ((s.begin t).now < e.2)) }).refreshPause_lane n
    rw [hlane, State.lane_updLane_self, List.mem_filter, decide_eq_true_iff]
    rfl
  · exact State.refreshPause_shows _ hn htc
  · exact (only_refreshPause ..).and ((Only.start t s _ _).one (only_updLane ..) (by simp)) (fun _ hp => hp) (fun _ hk => hk)

/-! ### Flow control that stands (R174) -/

section Flow

variable {s : State} {t n : Nat} (hl : s.hasLane n = true) (hx : (s.lane n).xoff = true)

include hx in
theorem State.checkFlow_stands (huse : bits (s.n (bySub O.pauseThresholds n)) 0 16 * 1024 ≤ s.beUseOfLane n) : s.checkFlow n = s := by
  unfold State.checkFlow
  simp only [hx, decide_eq_false (Nat.not_lt.mpr huse), Bool.not_true, Bool.false_and, Bool.and_false, Bool.false_eq_true, if_false, ite_self]

variable (htx : s.txFlow n ≠ 0)

include hx htx in
theorem State.checkFlow_ends (huse : s.beUseOfLane n < bits (s.n (bySub O.pauseThresholds n)) 0 16 * 1024) :
    s.checkFlow n = s.updLane n fun l => { l with xoff := false, pauseOut := some 0 } := by
  unfold State.checkFlow
  simp only [hx, htx, decide_eq_true huse, Bool.not_true, Bool.false_and, Bool.and_self, Bool.false_eq_true, if_false, if_true]

include hl hx htx

theorem pauseRepeat_repeats (hdue : ceilDiv (32768 * 512 * 1000000) (max 1 (s.laneRate n)) ≤ s.now - (s.lane n).xoffTime)
    (huse : bits (s.n (bySub O.pauseThresholds n)) 0 16 * 1024 ≤ s.beUseOfLane n) :
    pauseRepeat n s = s.updLane n fun l => { l with xoffTime := s.now, pauseOut := some 0xFFFF } := by
  have hne : (s.txFlow n != 0) = true := bne_iff_ne.mpr htx
  unfold pauseRepeat
  rw [State.checkFlow_stands hx huse, ite_self]
  exact if_pos (by rw [hl, hx, decide_eq_true hdue, hne]; rfl)

theorem pauseRepeat_ends (huse : s.beUseOfLane n < bits (s.n (bySub O.pauseThresholds n)) 0 16 * 1024) :
    pauseRepeat n s = s.updLane n fun l => { l with xoff := false, pauseOut := some 0 } := by
  unfold pauseRepeat
  rw [if_pos hl, State.checkFlow_ends hx htx huse]
  simp only [State.lane_updLane_self, Bool.and_false, Bool.false_and, Bool.false_eq_true, if_false]

end Flow

/-- A command that rewrites one lane leaves it so, and the rest as it was. -/
theorem State.begin_updLane (s : State) (t n : Nat) (f : LaneSt → LaneSt) :
    ((s.begin t).updLane n f).lane n = f (s.lane n) ∧ Only s ((s.begin t).updLane n f) [.lanes] [] :=
  ⟨State.lane_updLane_self .., (Only.start t s _ _).one (only_updLane ..) (by simp)⟩

theorem pauseRepeat_runs {s : State} {t n : Nat} (hl : s.hasLane n = true) (hx : (s.lane n).xoff = true) (htx : s.txFlow n ≠ 0) :
    (ceilDiv (32768 * 512 * 1000000) (max 1 (s.laneRate n)) ≤ s.localAt t - (s.lane n).xoffTime →
      bits (s.n (bySub O.pauseThresholds n)) 0 16 * 1024 ≤ s.beUseOfLane n → Runs (.pauseRepeat t n) s fun u =>
        u.lane n = { s.lane n with xoffTime := s.localAt t, pauseOut := some 0xFFFF } ∧ Only s u [.lanes] []) ∧
    (s.beUseOfLane n < bits (s.n (bySub O.pauseThresholds n)) 0 16 * 1024 → Runs (.pauseRepeat t n) s fun u =>
        u.lane n = { s.lane n with xoff := false, pauseOut := some 0 } ∧ Only s u [.lanes] []) :=
  ⟨fun hdue huse => .intro (congrArg Host.Outcome.next (pauseRepeat_repeats (s := s.begin t) hl hx htx hdue huse)) (s.begin_updLane ..),
    fun huse => .intro (congrArg Host.Outcome.next (pauseRepeat_ends (s := s.begin t) hl hx htx huse)) (s.begin_updLane ..)⟩

/-! ### The starvation limit (R175) -/

theorem starvationLimit_beyond {s : State} {n tc : Nat} (hl : s.hasLane n = true) (htc : tc ≤ 2) (hs : s.starves n tc = true) :
    starvationLimit n tc s = s.updLane n fun l => { l with reliefDue := setBit l.reliefDue tc true } :=
  if_pos (by rw [hl, decide_eq_true htc, hs]; rfl)

theorem starvationLimit_runs {s : State} {t n tc : Nat} (hl : s.hasLane n = true) (htc : tc ≤ 2) (hs : (s.begin t).starves n tc = true) :
    Runs (.starvationLimit t n tc) s fun u =>
      u.lane n = { s.lane n with reliefDue := setBit (s.lane n).reliefDue tc true } ∧ Only s u [.lanes] [] :=
  .intro (congrArg Host.Outcome.next (starvationLimit_beyond (s := s.begin t) hl htc hs)) (s.begin_updLane ..)

/-! ### Gate entries (R152, R156) -/

theorem only_closeWindow (s : State) (n : Nat) : Only s (s.closeWindow n) [.lanes] [bySub O.windowMisses n] :=
  .ite (((Only.same s _ _).obj (only_addTo ..) (by simp)).one (only_updLane ..) (by simp)) (.same ..)

/-- A window that closes drops frames of the lane, and nothing else of it changes. -/
theorem State.closeWindow_lane (s : State) (n : Nat) : ∃ q, (s.closeWindow n).lane n = { s.lane n with queues := q } := by
  unfold State.closeWindow
  dsimp only
  split
  next => exact ⟨_, State.lane_updLane_self ..⟩
  next => exact ⟨_, rfl⟩

/-- A lane has taken up an entry of its list of `len` entries, and waits for the next. -/
def LaneSt.enter (l : LaneSt) (e : GateEntry) (len : Nat) : LaneSt :=
  { l with gateStates := e.states, gateOwner := e.owner, hold := if e.op = 2 then false else if e.op = 1 then true else l.hold,
           gateNext := if l.gateNext + 1 < len then l.gateNext + 1 else 0,
           gateRound := if l.gateNext + 1 < len then l.gateRound else l.gateRound + 1 }

/-- The lane as its next entry finds it: credits brought up to date, and the open window closed. -/
def State.beforeEntry (s : State) (n : Nat) : State := (s.accrue n).closeWindow n

theorem only_beforeEntry (s : State) (n : Nat) : Only s (s.beforeEntry n) [.lanes] [bySub O.windowMisses n] :=
  (only_closeWindow ..).and ((Only.same s _ _).one (only_updLane ..) (by simp)) (fun _ hp => hp) (fun _ hk => hk)

theorem State.beforeEntry_lane (s : State) (n : Nat) : ∃ c6 c5 ct q, (s.beforeEntry n).lane n =
    { s.lane n with credit6 := c6, credit5 := c5, creditTime := ct, queues := q } := by
  obtain ⟨c6, c5, ct, ha⟩ := s.accrue_lane n
  obtain ⟨q, hq⟩ := (s.accrue n).closeWindow_lane n
  exact ⟨c6, c5, ct, q, by rw [State.beforeEntry, hq, ha]⟩

section Gate

variable {s : State} {t n : Nat} {e : GateEntry} (hl : s.hasLane n = true) (hg : (s.lane n).gateRunning = true)
  (he : (s.listOf n)[(s.lane n).gateNext]? = some e)
include hl hg he

theorem gateEvent_due (hdue : (s.lane n).gateRound < s.cycleRound n ∨ ((s.lane n).gateRound = s.cycleRound n ∧ e.off ≤ s.cyclePos n)) :
    gateEvent n s = (s.beforeEntry n).updLane n fun l => l.enter e (s.listOf n).length := by
  unfold gateEvent
  simp only [he]
  exact if_pos (by simpa [hl, hg] using hdue)

theorem gateEvent_runs
    (hdue : (s.lane n).gateRound < s.cycleRound n ∨ ((s.lane n).gateRound = s.cycleRound n ∧ e.off ≤ (s.begin t).cyclePos n)) :
    Runs (.gateEvent t n) s fun u => (u.lane n).gateStates = e.states ∧ (u.lane n).gateOwner = e.owner ∧
      (u.lane n).gateNext = (if (s.lane n).gateNext + 1 < (s.listOf n).length then (s.lane n).gateNext + 1 else 0) ∧
      (e.op = 1 → (u.lane n).hold = true) ∧ (e.op = 2 → (u.lane n).hold = false) ∧ (e.op = 0 → (u.lane n).hold = (s.lane n).hold) ∧
      Only s u [.lanes] [bySub O.windowMisses n] := by
  refine .intro (congrArg Host.Outcome.next (gateEvent_due (s := s.begin t) hl hg he hdue)) ?_
  obtain ⟨_, _, _, _, hlane⟩ := (s.begin t).beforeEntry_lane n
  rw [State.lane_updLane_self, hlane]
  exact ⟨rfl, rfl, rfl, fun ho => (if_neg (by omega)).trans (if_pos ho), fun ho => if_pos ho,
    fun ho => (if_neg (by omega)).trans (if_neg (by omega)), ((only_beforeEntry ..).one (only_updLane ..) (by simp)).begin⟩

end Gate

/-! ### Administrative lists (R159) -/

/-- The lane runs its administrative list `l` from its start, in the cycle numbered `round`. -/
def LaneSt.adminStarted (x : LaneSt) (l : List GateEntry) (round : Nat) : LaneSt :=
  { x with adminRunning := true, gateStates := cycleStartStates l, gateOwner := 0xFFFF, gateNext := 0, gateRunning := true, gateRound := round }

/-- The administrative list of a lane has started in this tick, with a cycle of `cyc` ticks; `late` tells that its base time had passed. -/
def State.adminStarted (s : State) (n cyc : Nat) (late : Bool) : State :=
  (((s.updLane n fun x => x.adminStarted (gateEntries (s.blob (at_ O.adminEntries n))) (s.tickNo / cyc)).setN (at_ O.adminStartTick n)
    s.tickNo).setN (laneSub O.gateCycle n) cyc).setN (at_ O.adminFlags n) (2 + b2n late)

theorem only_adminStarted (s : State) (n cyc : Nat) (late : Bool) :
    Only s (s.adminStarted n cyc late) [.lanes] [at_ O.adminStartTick n, laneSub O.gateCycle n, at_ O.adminFlags n] :=
  ((((Only.same s _ _).one (only_updLane ..) (by simp)).obj (only_setN ..) (by simp)).obj (only_setN ..) (by simp)).obj (only_setN ..)
    (by simp)

theorem State.adminStarted_lane (s : State) (n cyc : Nat) (late : Bool) : (s.adminStarted n cyc late).lane n =
    (s.lane n).adminStarted (gateEntries (s.blob (at_ O.adminEntries n))) (s.tickNo / cyc) := by
  unfold State.adminStarted
  simp only [State.setN_lane, State.lane_updLane_self]

theorem State.adminStarted_flags (s : State) (n cyc : Nat) (late : Bool) : bit ((s.adminStarted n cyc late).n (at_ O.adminFlags n)) 0 = late := by
  unfold State.adminStarted
  rw [State.setN_self]
  cases late <;> rfl

theorem State.adminStarted_cycle (s : State) {n : Nat} (hn : n < 64) (cyc : Nat) (late : Bool) :
    (s.adminStarted n cyc late).n (laneSub O.gateCycle n) = cyc := by
  unfold State.adminStarted
  rw [State.setN_other _ _ _ _ (at_ne_gateCycle hn (by decide) n).symm (at_ne n (by decide)), State.setN_self]

theorem State.adminStarted_tick (s : State) {n : Nat} (hn : n < 64) (cyc : Nat) (late : Bool) :
    (s.adminStarted n cyc late).n (at_ O.adminStartTick n) = s.tickNo := by
  have hflags : at_ O.adminStartTick n ≠ at_ O.adminFlags n := Nat.ne_of_lt (Nat.add_lt_add_right (by decide) _)
  unfold State.adminStarted
  rw [State.setN_other _ _ _ _ hflags (at_ne n (by decide)),
    State.setN_other _ _ _ _ (at_ne_gateCycle hn (by decide) n) (bySub_ne_nodeID hn (by decide)), State.setN_self]

theorem only_showBands (s : State) (n : Nat) : Only s (s.showBands n) [.blobs] [] := only_setBlob ..

theorem State.showBands_lane (s : State) (n : Nat) : (s.showBands n).lane n = s.lane n := rfl

section Admin

variable {s : State} {t n cyc : Nat} (hl : s.hasLane n = true) (ha : (s.lane n).adminRunning = false) (hc : s.n (at_ O.adminCycle n) = cyc)
  (h0 : cyc ≠ 0) (hh : s.holdEnded = true) (hst : s.tick.stretch = none) (hw : hasWindows (s.view.onLane n) = false)
  (hf : (s.lane n).adminSince + 2 ≤ s.tickNo) (hb : s.tickNo % cyc = 0) (ht : s.n (at_ O.adminBaseTime n) ≤ s.tickNo * s.period)
include hl ha hc h0 hh hst hw hf hb ht

theorem adminListStart_due : adminListStart n s =
    (s.adminStarted n cyc (decide (s.n (at_ O.adminBaseTime n) < ((s.lane n).adminSince + 2) * s.period))).showBands n := by
  have hbound : isCycleBoundary cyc s.tickNo = true := beq_iff_eq.mpr hb
  unfold adminListStart
  simp only [hl, ha, hc, beq_eq_false_iff_ne.mpr h0, hh, hst, hw, hbound, decide_eq_false (Nat.not_lt.mpr hf), decide_eq_false (Nat.not_lt.mpr ht),
    Bool.not_true, Bool.or_self, Option.isSome_none, Bool.false_eq_true, if_false]
  rfl

theorem adminListStart_runs (hn : n < 64) : Runs (.adminListStart t n) s fun u =>
    (u.lane n).adminRunning = true ∧ (u.lane n).gateRunning = true ∧ (u.lane n).gateNext = 0 ∧ u.n (at_ O.adminStartTick n) = s.tickNo ∧
    u.n (laneSub O.gateCycle n) = cyc ∧
    bit (u.n (at_ O.adminFlags n)) 0 = decide (s.n (at_ O.adminBaseTime n) < ((s.lane n).adminSince + 2) * s.period) ∧
    Only s u [.lanes, .blobs] [at_ O.adminStartTick n, laneSub O.gateCycle n, at_ O.adminFlags n] := by
  refine .intro (congrArg Host.Outcome.next (adminListStart_due (s := s.begin t) hl ha hc h0 hh hst hw hf hb ht)) ?_
  rw [State.showBands_lane, State.adminStarted_lane, (only_showBands ..).n_all, (only_showBands ..).n_all, (only_showBands ..).n_all]
  refine ⟨rfl, rfl, rfl, State.adminStarted_tick _ hn .., State.adminStarted_cycle _ hn .., State.adminStarted_flags .., ?_⟩
  exact (((only_adminStarted ..).mono (by simp) (fun _ hk => hk)).one (only_showBands ..) (by simp)).begin

end Admin

/-! ### Set-and-hold (R158, R162) -/

/-- The lane with a hold in force. -/
def State.holding (s : State) (n : Nat) : State := s.updLane n fun l => { l with hold := true }

theorem State.holding_lane (s : State) (n : Nat) : (s.holding n).lane n = { s.lane n with hold := true } := State.lane_updLane_self ..

/-- A hold leaves the points at which the frame in progress may be cut. -/
theorem State.holding_mayCut (s : State) (n : Nat) : (s.holding n).mayCut n = s.mayCut n := by
  unfold State.mayCut State.sentBytes
  rw [State.holding_lane]
  rfl

theorem State.cut_lane (s : State) (n : Nat) : ∃ k, (s.cut n).lane n =
    { s.lane n with preempted := (s.lane n).sending, preLeft := k, sending := none, sendLeft := 0 } := by
  refine ⟨(s.lane n).sendLeft - s.sentBytes n, ?_⟩
  unfold State.cut
  rw [State.lane_ite, lane_of_core (State.secCount_core (R := 0) rfl _ n 0x38) rfl, ite_self, State.lane_updLane_self]

theorem setAndHold_inBand {s : State} {n tc : Nat} (hl : s.hasLane n = true) (hg : (s.lane n).gateRunning = true)
    (hp : s.preemptActive n = true) (hop : ∃ e ∈ s.listOf n, e.op = 1) (htc : tc < 7) (hpre : s.preemptible n tc = true)
    (hin : s.inBand n tc = true) : setAndHold n s = if s.mayCut n then (s.holding n).cut n else s.holding n := by
  obtain ⟨e, he, hone⟩ := hop
  have hlist : (s.listOf n).any (fun e => e.op == 1) = true := List.any_eq_true.mpr ⟨e, he, beq_iff_eq.mpr hone⟩
  have hband : (List.range 7).any (fun tc => s.preemptible n tc && s.inBand n tc) = true :=
    List.any_eq_true.mpr ⟨tc, List.mem_range.mpr htc, by rw [hpre, hin]; rfl⟩
  rw [← s.holding_mayCut n]
  exact if_pos (by rw [hl, hg, hp, hlist, hband]; rfl)

theorem setAndHold_runs {s : State} {t n tc : Nat} (hl : s.hasLane n = true) (hg : (s.lane n).gateRunning = true)
    (hp : s.preemptActive n = true) (hop : ∃ e ∈ s.listOf n, e.op = 1) (htc : tc < 7) (hpre : s.preemptible n tc = true)
    (hin : (s.begin t).inBand n tc = true) : Runs (.setAndHold t n) s fun u =>
      (u.lane n).hold = true ∧ ((s.begin t).mayCut n = true → (u.lane n).sending = none ∧ (u.lane n).preempted = (s.lane n).sending) ∧
      ((s.begin t).mayCut n = false → (u.lane n).sending = (s.lane n).sending) := by
  refine .intro (congrArg Host.Outcome.next (setAndHold_inBand (s := s.begin t) hl hg hp hop htc hpre hin)) ?_
  cases hcut : (s.begin t).mayCut n with
  | true =>
    obtain ⟨_, hlane⟩ := ((s.begin t).holding n).cut_lane n
    rw [if_pos rfl, hlane, State.holding_lane]
    exact ⟨rfl, fun _ => ⟨rfl, rfl⟩, nofun⟩
  | false =>
    rw [if_neg Bool.false_ne_true, State.holding_lane]
    exact ⟨rfl, nofun, fun _ => rfl⟩

end Sys2Proof.Machine

open Sys2Proof Sys2Proof.Machine

/-- Settles O18, command by command: each is an equation for the branch that its hypotheses name. -/
theorem pauseAndGates : Obligations.PauseAndGates :=
  ⟨fun _ _ _ _ _ _ hn hl hup hr hon hok => pauseReceive_timed_runs hl hup hr hn hon hok,
    fun _ _ _ _ _ _ hl hup hr => pauseReceive_ignored_runs hl hup hr, fun _ _ _ _ _ _ => pauseReceive_drained_runs,
    fun _ _ _ => pauseTimerExpiry_runs, fun _ _ _ => pauseRepeat_runs, fun _ _ _ _ => starvationLimit_runs,
    fun _ _ _ _ _ => gateEvent_runs,
    fun _ _ _ _ hn hl ha hc h0 hh hst hw hf hb ht => adminListStart_runs hl ha hc h0 hh hst hw hf hb ht hn,
    fun _ _ _ _ => setAndHold_runs⟩
end

section
/-! Proofs about the firewall's sessions (R190, R195, R196, R199): what expiry, a transfer, a flush and the answer of a remote home
leave. -/
namespace Sys2Proof.Machine
open Sys2Proof

/-! ### The connection table replaced -/

section Conns

variable (s : State) (l : List Conn)

@[simp] theorem State.withConns_fw : (s.withConns l).fw = { s.fw with conns := l } := rfl

@[simp] theorem State.withConns_inUse : (s.withConns l).n O.sessionsInUse = l.length := State.setN_self ..

theorem only_withConns : Only s (s.withConns l) [.fw] [O.sessionsInUse] :=
  (only_setN ..).and ((Only.same s _ _).setFw _ (by simp)) (by simp) (by simp)

end Conns

theorem State.connTimeout_congr {s u : State} (hn : ∀ k, u.n k = s.n k) (c : Conn) : u.connTimeout c = s.connTimeout c := by
  unfold State.connTimeout
  rw [hn]

/-! ### Expiry (R196) -/

theorem mem_sessionIdleExpiry (s : State) (c : Conn) :
    c ∈ (sessionIdleExpiry s).fw.conns ↔ c ∈ s.fw.conns ∧ s.now - c.last < s.connTimeout c := by
  simp [sessionIdleExpiry, List.mem_filter]

theorem sessionIdleExpiry_runs {s : State} {t : Nat} : Runs (.sessionIdleExpiry t) s fun u =>
    (∀ c, c ∈ u.fw.conns ↔ c ∈ s.fw.conns ∧ s.localAt t - c.last < s.connTimeout c) ∧ u.n O.sessionsInUse = u.fw.conns.length ∧
    Only s u [.fw] [O.sessionsInUse] := by
  refine .intro (u := sessionIdleExpiry (s.begin t)) rfl ⟨fun c => ?_, State.withConns_inUse .., (only_withConns ..).begin⟩
  rw [mem_sessionIdleExpiry, State.connTimeout_congr (s.begin_n t)]
  rfl

/-! ### The transfer of an item's sessions (R199) -/

/-- A session of the item of pass `p` with anchor die `d` has moved to the die `home`. -/
def Conn.movedTo (p d home : Nat) (c : Conn) : Conn := if c.pass = p ∧ c.anchor = d then { c with home := home } else c

theorem Conn.movedTo_of_not {p d : Nat} {c : Conn} (home : Nat) (h : ¬(c.pass = p ∧ c.anchor = d)) : c.movedTo p d home = c := if_neg h

theorem Conn.movedTo_home {p d : Nat} {c : Conn} (home : Nat) (hp : (c.movedTo p d home).pass = p)
    (hd : (c.movedTo p d home).anchor = d) : (c.movedTo p d home).home = home := by
  by_cases h : c.pass = p ∧ c.anchor = d
  · exact congrArg Conn.home (if_pos h)
  · rw [c.movedTo_of_not home h] at hp hd
    exact absurd ⟨hp, hd⟩ h

/-- The transfer of an item has ended. -/
def State.endTransfer (s : State) (p d : Nat) : State := { s with fw := { s.fw with moving := del s.fw.moving (8 * p + d) } }

theorem sessionTransferDone_eq (p d : Nat) (s : State) :
    sessionTransferDone p d s = (s.endTransfer p d).withConns (s.fw.conns.map (Conn.movedTo p d (s.sessHome p d))) := rfl

theorem only_sessionTransferDone (p d : Nat) (s : State) : Only s (sessionTransferDone p d s) [.fw] [O.sessionsInUse] :=
  (only_withConns ..).and ((Only.same s _ _).setFw _ (by simp)) (by simp) (by simp)

theorem sessionTransferDone_runs {s : State} {t p d : Nat} : Runs (.sessionTransferDone t p d) s fun u =>
    (∀ c ∈ u.fw.conns, c.pass = p → c.anchor = d → c.home = s.sessHome p d) ∧ u.fw.conns.length = s.fw.conns.length ∧
    (∀ c ∈ s.fw.conns, ¬(c.pass = p ∧ c.anchor = d) → c ∈ u.fw.conns) ∧ look u.fw.moving (8 * p + d) = none ∧
    Only s u [.fw] [O.sessionsInUse] := by
  have hconns : (sessionTransferDone p d (s.begin t)).fw.conns = s.fw.conns.map (Conn.movedTo p d (s.sessHome p d)) := rfl
  refine .intro rfl ⟨fun c hc hp hd => ?_, ?_, fun c hc hother => ?_, look_del_self .., (only_sessionTransferDone ..).begin⟩
  · rw [hconns] at hc
    obtain ⟨_, _, rfl⟩ := List.mem_map.mp hc
    exact Conn.movedTo_home _ hp hd
  · rw [hconns, List.length_map]
  · rw [hconns]
    exact List.mem_map.mpr ⟨c, hc, c.movedTo_of_not _ hother⟩

/-! ### The flush (R199) -/

/-- The sessions that a flush of a pass, or of all with 0xFFFF, leaves. -/
def keptByFlush (p : Nat) (l : List Conn) : List Conn := if p = 0xFFFF then [] else l.filter (fun c => c.pass != p)

theorem mem_keptByFlush (p : Nat) (l : List Conn) (c : Conn) : c ∈ keptByFlush p l ↔ c ∈ l ∧ c.pass ≠ p ∧ p ≠ 0xFFFF := by
  unfold keptByFlush
  split
  next h => simp [h]
  next h => simp [h, List.mem_filter]

theorem sessionFlush_eq (p : Nat) (x : Session) (s : State) :
    sessionFlush p x s = (.ok, s.withConns (keptByFlush p s.fw.conns)) := rfl

theorem sessionFlush_runs {s : State} {t p : Nat} {who : Who} {x : Session} (h : s.MayWrite who x 0x2600 9 p) :
    Runs (.sessionFlush t who p) s fun u => u.answered who .ok ∧ (∀ c, c ∈ u.fw.conns ↔ c ∈ s.fw.conns ∧ c.pass ≠ p ∧ p ≠ 0xFFFF) ∧
      u.n O.sessionsInUse = u.fw.conns.length ∧ Only s u [.fw, .access, .bridge, .power] [O.sessionsInUse] := by
  refine (h.runs (sessionFlush p) rfl (sessionFlush_eq ..) (only_withConns ..) (by decide)).imp fun u ⟨hans, hu, hf⟩ => ?_
  have hconns : u.fw.conns = keptByFlush p s.fw.conns :=
    (congrArg FwSt.conns (hu.rest .fw (by decide))).trans (congrArg (fun f : FwSt => keptByFlush p f.conns) (s.heard_fw ..))
  refine ⟨hans, fun c => ?_, ?_, hf.mono (by decide) (fun _ hk => hk)⟩
  · rw [hconns, mem_keptByFlush]
  · rw [hu.n_all, State.withConns_inUse, s.heard_fw, hconns]

/-! ### The evaluation of a copy leaves what waits (R190) -/

theorem fw_of_core {R : Nat} {s u : State} (h : u.core R = s.core R) (hR : R.testBit 11 = false) : u.fw = s.fw := by
  simpa only [State.core, hR, Bool.false_eq_true, if_false] using congrArg State.fw h

section Waiting

variable (s : State)

theorem State.passCount_fw (p off : Nat) : (s.passCount p off).fw = s.fw := fw_of_core (State.passCount_core (R := 0) rfl ..) rfl

theorem State.applyAction_fw (pass action die len colour : Nat) : (s.applyAction pass action die len colour).2.fw = s.fw :=
  fw_of_core (State.applyAction_core (R := 1024) rfl ..) rfl

theorem State.touchConn_waiting (c : Conn) (x : L3) (reply : Bool) : (s.touchConn c x reply).fw.waiting = s.fw.waiting := rfl

theorem State.logDeny_waiting (pass rule inEp : Nat) : (s.logDeny pass rule inEp).fw.waiting = s.fw.waiting := by
  unfold State.logDeny
  dsimp only
  generalize (if s.fw.logSecond = s.now / 1000000000 then s.fw.logCount else 0) = count
  split
  · rw [State.logEv_fw, State.passCount_fw]
  · rfl

/-- R197: the longest idle session of a list evicted, where it has been idle long enough. -/
def State.evictOldest (s : State) (l : List Conn) : Option State :=
  match oldestConn l with
  | none => none
  | some c => if s.n O.evictionAge * 1000000000 < s.now - c.last then
      some ((s.withConns (s.fw.conns.filter (· ≠ c))).inc64 O.evictedSessions) else none

theorem State.makeRoom_eq (pass anchor home limit : Nat) : s.makeRoom pass anchor home limit =
    if limit ≤ (s.fw.conns.filter (fun c => c.pass == pass && c.anchor == anchor)).length then
      s.evictOldest (s.fw.conns.filter (fun c => c.pass == pass && c.anchor == anchor))
    else if 4096 ≤ (s.fw.conns.filter (fun c => c.home == home)).length then s.evictOldest (s.fw.conns.filter (fun c => c.home == home))
    else some s := rfl

variable {s} in
theorem State.evictOldest_waiting {l : List Conn} {w : State} (h : s.evictOldest l = some w) : w.fw.waiting = s.fw.waiting := by
  unfold State.evictOldest at h
  split at h
  · cases h
  · split at h <;> cases h
    rfl

variable {s} in
theorem State.makeRoom_waiting {pass anchor home limit : Nat} {w : State} (h : s.makeRoom pass anchor home limit = some w) :
    w.fw.waiting = s.fw.waiting := by
  rw [State.makeRoom_eq] at h
  split at h
  · exact State.evictOldest_waiting h
  · split at h
    · exact State.evictOldest_waiting h
    · cases h
      rfl

theorem State.openConn_waiting (pass anchor rule : Nat) (x : L3) : (s.openConn pass anchor rule x).2.fw.waiting = s.fw.waiting := by
  unfold State.openConn
  dsimp only
  iterate 4
    split
    · simp only [State.passCount_fw]
  split
  next => rw [State.passCount_fw]
  next h =>
    rw [State.passCount_fw, State.withConns_fw]
    exact State.makeRoom_waiting h

/-- Whichever session or rule decides a copy, other copies wait as before. -/
theorem State.evalCopy_waiting (p : Pkt) (len out b : Nat) : (s.evalCopy p len out b).2.fw.waiting = s.fw.waiting := by
  unfold State.evalCopy
  dsimp only
  split
  next => rw [State.applyAction_fw, State.touchConn_waiting]
  next =>
  split
  next => rw [State.passCount_fw, State.touchConn_waiting]
  next =>
  split
  next => rw [State.passCount_fw]
  next =>
  split
  next => rfl
  next =>
  split
  next =>
    split
    next => rw [State.logDeny_waiting, State.passCount_fw]
    next => rw [State.passCount_fw]
  next =>
  split
  next => rw [State.passCount_fw]
  next =>
  split
  next => rw [State.logDeny_waiting, State.passCount_fw]
  next =>
  split
  next =>
    split
    next => rw [State.applyAction_fw, State.openConn_waiting]
    next => exact s.openConn_waiting ..
  next => rw [State.applyAction_fw]

end Waiting

/-! ### The answer of a remote home (R195) -/

/-- The identifiers of the copies that wait. -/
def State.waitingIds (s : State) : List Nat := s.fw.waiting.map WaitingCopy.id

theorem State.mem_waitingIds {s : State} {k : Nat} : k ∈ s.waitingIds ↔ ∃ w ∈ s.fw.waiting, w.id = k := List.mem_map

theorem State.waitingIds_congr {s u : State} (h : u.fw.waiting = s.fw.waiting) : u.waitingIds = s.waitingIds :=
  congrArg (List.map WaitingCopy.id) h

theorem State.waitingIds_of_core {R : Nat} {s u : State} (h : u.core R = s.core R) (hR : R.testBit 11 = false) :
    u.waitingIds = s.waitingIds := State.waitingIds_congr (congrArg FwSt.waiting (fw_of_core h hR))

/-- The wait of a copy has ended. -/
def State.endWait (s : State) (id : Nat) : State := { s with fw := { s.fw with waiting := s.fw.waiting.filter (fun w => w.id != id) } }

theorem State.mem_waitingIds_endWait (s : State) (id k : Nat) : k ∈ (s.endWait id).waitingIds ↔ k ∈ s.waitingIds ∧ k ≠ id := by
  simp only [State.mem_waitingIds, State.endWait, List.mem_filter, bne_iff_ne]
  constructor
  · rintro ⟨w, ⟨hw, hid⟩, rfl⟩
    exact ⟨⟨w, hw, rfl⟩, hid⟩
  · rintro ⟨⟨w, hw, rfl⟩, hid⟩
    exact ⟨w, ⟨hw, hid⟩, rfl⟩

/-- A waiting copy whose frame, if it is `frame`, has its ingress mirror copies. -/
def WaitingCopy.unmirrored (frame : Nat) (x : WaitingCopy) : WaitingCopy := if x.frame = frame then { x with mirror := false } else x

theorem WaitingCopy.unmirrored_id (frame : Nat) (x : WaitingCopy) : (x.unmirrored frame).id = x.id := by
  unfold WaitingCopy.unmirrored
  split <;> rfl

/-- R143: the ingress mirror copies of a frame are made, and its other waiting copies make none. -/
def State.mirrorOnce (s : State) (w : WaitingCopy) : State :=
  if w.mirror then
    ({ s with fw := { s.fw with waiting := s.fw.waiting.map (WaitingCopy.unmirrored w.frame) } }).mirrorIngress w.pkt w.pkt.bytes
  else s

theorem State.mirrorOnce_waitingIds (s : State) (w : WaitingCopy) : (s.mirrorOnce w).waitingIds = s.waitingIds := by
  unfold State.mirrorOnce
  split
  · rw [State.waitingIds_of_core (State.mirrorIngress_core (R := 5632) rfl ..) rfl]
    unfold State.waitingIds
    rw [List.map_map]
    exact List.map_congr_left fun x _ => x.unmirrored_id w.frame
  · rfl

/-- The state in which a waiting copy has been decided. -/
def State.decided (s : State) (w : WaitingCopy) : State :=
  (s.evalCopy w.pkt w.len w.out w.zoneOut).2.txDecided w.pkt.tx (s.evalCopy w.pkt w.len w.out w.zoneOut).1.permit

theorem State.decided_waitingIds (s : State) (w : WaitingCopy) : (s.decided w).waitingIds = s.waitingIds :=
  (State.waitingIds_of_core (State.txDecided_core (R := 1024) rfl ..) rfl).trans (State.waitingIds_congr (s.evalCopy_waiting ..))

/-- What is done with a copy once it has been decided. -/
def State.dispatch (s : State) (w : WaitingCopy) (d : Dec) : State :=
  if d.permit then ((s.mirrorOnce w).sendCopies w.pkt [(⟨w.lane, w.out, w.flooded⟩, d)]).settleTx else s.settleTx

theorem State.settleTx_waitingIds (s : State) : s.settleTx.waitingIds = s.waitingIds :=
  State.waitingIds_of_core (State.settleTx_core (R := 5120) rfl s) rfl

theorem State.dispatch_waitingIds (s : State) (w : WaitingCopy) (d : Dec) : (s.dispatch w d).waitingIds = s.waitingIds := by
  unfold State.dispatch
  split
  · rw [State.settleTx_waitingIds, State.waitingIds_of_core (State.sendCopies_core (R := 5632) rfl ..) rfl, State.mirrorOnce_waitingIds]
  · exact s.settleTx_waitingIds

theorem sessionLookupAnswer_eq {s : State} {id : Nat} {w : WaitingCopy} (avail : SMap Nat)
    (h : s.fw.waiting.find? (fun w => w.id == id) = some w) : sessionLookupAnswer id avail s =
      (((s.handed avail).endWait id).decided w).dispatch w
        (((s.handed avail).endWait id).evalCopy w.pkt w.len w.out w.zoneOut).1 := by
  simp only [sessionLookupAnswer, h]
  rfl

theorem sessionLookupAnswer_runs {s : State} {t id : Nat} {avail : SMap Nat} (h : ∃ w ∈ s.fw.waiting, w.id = id) :
    Runs (.sessionLookupAnswer t id avail) s fun u =>
      ∀ k, (∃ w ∈ u.fw.waiting, w.id = k) ↔ (∃ w ∈ s.fw.waiting, w.id = k) ∧ k ≠ id := by
  obtain ⟨w, hw⟩ : ∃ w, (s.begin t).fw.waiting.find? (fun w => w.id == id) = some w := by
    rw [← Option.isSome_iff_exists, List.find?_isSome]
    simpa using h
  refine .intro (congrArg Host.Outcome.next (sessionLookupAnswer_eq avail hw)) fun k => ?_
  rw [← State.mem_waitingIds, ← State.mem_waitingIds, State.dispatch_waitingIds, State.decided_waitingIds, State.mem_waitingIds_endWait]
  rfl

end Sys2Proof.Machine

open Sys2Proof Sys2Proof.Machine

/-- Settles O15, command by command: three of them replace the connection table, and a look-up answer shortens the list of waiting copies. -/
theorem firewallSessions : Obligations.FirewallSessions :=
  ⟨fun _ _ => sessionIdleExpiry_runs, fun _ _ _ _ => sessionTransferDone_runs, fun _ _ _ _ _ => sessionFlush_runs,
    fun _ _ _ _ => sessionLookupAnswer_runs⟩
end

section
/-! Proofs about the commands that clear counters (R146, R203, R250, R282 to R286, R303, R350, R454): what each leaves of the objects
that it names. -/
namespace Sys2Proof.Machine
open Sys2Proof

/-! ### Records written zero -/

/-- A frame without the byte strings leaves each of them. -/
theorem Only.blob_eq {s u : State} {P : List Part} {K : List Nat} (h : Only s u P K) (hp : Part.blobs ∉ P) (k : Nat) :
    u.blob k = s.blob k := by
  unfold State.blob
  rw [show u.dict.blobs = s.dict.blobs from h.rest .blobs hp, h.variant]

/-- Every listed record written as 64 zero bytes. -/
def State.zeroRecords (s : State) (ks : List Nat) : State := ks.foldl (fun s k => s.setBlob k (fill 64 0)) s

theorem only_zeroRecords (s : State) (ks : List Nat) : Only s (s.zeroRecords ks) [.blobs] [] :=
  Only.foldl _ _ (.same ..) fun _ _ _ h => h.one (only_setBlob ..) (by simp)

theorem State.zeroRecords_blob (s : State) (ks : List Nat) (k : Nat) :
    (s.zeroRecords ks).blob k = if k ∈ ks then fill 64 0 else s.blob k := by
  induction ks generalizing s with
  | nil => rfl
  | cons a ks ih =>
    refine (ih (s.setBlob a (fill 64 0))).trans ?_
    by_cases hl : k ∈ ks
    · rw [if_pos hl, if_pos (List.mem_cons_of_mem a hl)]
    · rw [if_neg hl]
      by_cases ha : k = a
      · rw [ha, State.setBlob_self, if_pos List.mem_cons_self]
      · rw [State.setBlob_other _ _ _ _ ha, if_neg (by simp [ha, hl])]

/-- What a taken-up clear of records leaves. -/
theorem State.MayWrite.runs_zeroRecords {s : State} {who : Who} {x : Session} {idx sub v t : Nat} {i : Instr} {ks : List Nat}
    (h : s.MayWrite who x idx sub v) (act : Session → State → Status × State) (hi : exec i s = cmdRow t who idx sub v act s)
    (ha : act x (s.heard t who idx sub) = (.ok, (s.heard t who idx sub).zeroRecords ks)) :
    Runs i s fun u => u.answered who .ok ∧ (∀ k, u.blob k = if k ∈ ks then fill 64 0 else s.blob k) ∧
      Only s u [.blobs, .access, .bridge, .power] [] := by
  refine (h.runs act hi ha (only_zeroRecords ..) (by decide)).imp fun u ⟨hans, hu, hf⟩ =>
    ⟨hans, fun k => ?_, hf.mono (by decide) (fun _ hk => hk)⟩
  rw [hu.blob_eq (by decide), State.zeroRecords_blob, (only_heard s t who idx sub).blob_eq (by decide)]

/-- The records of a window of `n` items from item `a`, of a table of `size`. -/
def windowKeys (m a n size : Nat) : List Nat := ((List.range n).filter (fun i => decide (a + i < size))).map (fun i => at_ m (a + i))

theorem mem_windowKeys {m a n size p : Nat} (hp : p < size) : at_ m p ∈ windowKeys m a n size ↔ a ≤ p ∧ p < a + n := by
  simp only [windowKeys, List.mem_map, List.mem_filter, List.mem_range, decide_eq_true_eq, at_]
  constructor
  · rintro ⟨i, ⟨hi, _⟩, he⟩
    omega
  · rintro ⟨ha, hn⟩
    exact ⟨p - a, by omega, by omega⟩

theorem clearPassCounters_eq (x : Session) (s : State) : clearPassCounters x s =
    (.ok, s.zeroRecords (windowKeys O.passCounters (x.sel O.firstCounterPass) (x.sel O.counterPassCount) 4096)) := by
  simp only [clearPassCounters, State.zeroRecords, windowKeys, List.foldl_map]

theorem clearStreamCounters_eq (x : Session) (s : State) : clearStreamCounters x s =
    (.ok, s.zeroRecords (windowKeys O.streamCounters (x.sel O.firstCounterSlot) (x.sel O.counterSlotCount) 8192)) := by
  simp only [clearStreamCounters, State.zeroRecords, windowKeys, List.foldl_map]

theorem clearPassCounters_runs {s : State} {t : Nat} {who : Who} {x : Session} (h : s.MayWrite who x 0x2650 4 1) :
    Runs (.clearPassCounters t who) s fun u => u.answered who .ok ∧ ∀ p, p < 4096 → u.blob (at_ O.passCounters p) =
      if x.sel O.firstCounterPass ≤ p ∧ p < x.sel O.firstCounterPass + x.sel O.counterPassCount then fill 64 0
      else s.blob (at_ O.passCounters p) :=
  (h.runs_zeroRecords _ rfl (clearPassCounters_eq ..)).imp fun _ ⟨hans, hb, _⟩ =>
    ⟨hans, fun p hp => by simp only [hb, mem_windowKeys hp]⟩

theorem clearStreamCounters_runs {s : State} {t : Nat} {who : Who} {x : Session} (h : s.MayWrite who x 0x2450 4 1) :
    Runs (.clearStreamCounters t who) s fun u => u.answered who .ok ∧ ∀ k, k < 8192 → u.blob (at_ O.streamCounters k) =
      if x.sel O.firstCounterSlot ≤ k ∧ k < x.sel O.firstCounterSlot + x.sel O.counterSlotCount then fill 64 0
      else s.blob (at_ O.streamCounters k) :=
  (h.runs_zeroRecords _ rfl (clearStreamCounters_eq ..)).imp fun _ ⟨hans, hb, _⟩ =>
    ⟨hans, fun p hp => by simp only [hb, mem_windowKeys hp]⟩

/-- The MACsec counters of the lanes. -/
def State.macsecKeys (s : State) : List Nat := (List.range s.laneCount).map (bySub O.macsecCounters)

theorem State.macsecKeys_congr {s u : State} (h : u.variant = s.variant) : u.macsecKeys = s.macsecKeys := by
  unfold State.macsecKeys State.laneCount
  rw [h]

theorem clearMacsec_eq (x : Session) (s : State) : clearMacsec x s = (.ok, s.zeroRecords s.macsecKeys) := by
  simp only [clearMacsec, State.zeroRecords, State.macsecKeys, List.foldl_map]

theorem clearMacsecCounters_runs {s : State} {t : Nat} {who : Who} {x : Session} (h : s.MayWrite who x 0x2B71 1 1) :
    Runs (.clearMacsecCounters t who) s fun u => u.answered who .ok ∧
      (∀ n, n < s.laneCount → u.blob (bySub O.macsecCounters n) = fill 64 0) ∧ Only s u [.blobs, .access, .bridge, .power] [] := by
  refine (h.runs_zeroRecords _ rfl (clearMacsec_eq ..)).imp fun u ⟨hans, hb, hf⟩ => ⟨hans, fun n hn => (hb _).trans (if_pos ?_), hf⟩
  rw [State.macsecKeys_congr (s.heard_variant ..)]
  exact List.mem_map_of_mem (List.mem_range.mpr hn)

/-! ### Integer counters written zero -/

/-- What a taken-up clear of integer objects leaves. -/
theorem State.MayWrite.runs_clearAll {s : State} {who : Who} {x : Session} {idx sub v t : Nat} {i : Instr} {ks : List Nat}
    (h : s.MayWrite who x idx sub v) (act : Session → State → Status × State) (hi : exec i s = cmdRow t who idx sub v act s)
    (ha : act x (s.heard t who idx sub) = (.ok, (s.heard t who idx sub).clearAll ks)) :
    Runs i s fun u => u.answered who .ok ∧ (∀ k ∈ ks, u.n k = 0) ∧ Only s u [.access, .bridge, .power] ks :=
  (h.runs act hi ha (only_clearAll ..) (by simp)).imp fun _ ⟨hans, hu, hf⟩ =>
    ⟨hans, fun k hk => (hu.n_all k).trans (State.clearAll_n _ hk), hf.mono (by decide) (fun _ hk => hk)⟩

theorem clearEdgeCounters_runs {s : State} {t kind unit : Nat} {who : Who} {x : Session}
    (h : s.MayWrite who x (edgeCounters kind unit).1 (edgeCounters kind unit).2.1 1) :
    Runs (.clearEdgeCounters t who kind unit) s fun u => u.answered who .ok ∧ (∀ k ∈ (edgeCounters kind unit).2.2, u.n k = 0) ∧
      Only s u [.access, .bridge, .power] (edgeCounters kind unit).2.2 :=
  h.runs_clearAll (clearEdge kind unit) rfl rfl

/-- The counters of one place of Saddle and the bridges. -/
def bridgeCountersAt (i : Nat) : List Nat :=
  [bySub O.flitReplays i, bySub O.missedHeartbeats i] ++ (if i < 8 then [bySub O.bridgeFaults i, bySub O.lateCompletions i] else []) ++
    (if i < 18 then [bySub O.speculativeReadsDiscarded i] else [])

theorem clearBridgeCounters_eq (x : Session) (s : State) :
    clearBridgeCounters x s = (.ok, s.clearAll ((List.range 32).flatMap bridgeCountersAt)) := rfl

theorem clearBridgeCounters_runs {s : State} {t : Nat} {who : Who} {x : Session} (h : s.MayWrite who x 0x2E47 2 1) :
    Runs (.clearBridgeCounters t who) s fun u => u.answered who .ok ∧
      (∀ i, i < 32 → u.n (bySub O.flitReplays i) = 0 ∧ u.n (bySub O.missedHeartbeats i) = 0) ∧
      (∀ i, i < 8 → u.n (bySub O.bridgeFaults i) = 0 ∧ u.n (bySub O.lateCompletions i) = 0) ∧
      (∀ i, i < 18 → u.n (bySub O.speculativeReadsDiscarded i) = 0) := by
  refine (h.runs_clearAll _ rfl (clearBridgeCounters_eq ..)).imp fun u ⟨hans, hz, _⟩ => ?_
  have hzero {i k : Nat} (hi : i < 32) (hk : k ∈ bridgeCountersAt i) : u.n k = 0 :=
    hz k (List.mem_flatMap.mpr ⟨i, List.mem_range.mpr hi, hk⟩)
  exact ⟨hans, fun i hi => ⟨hzero hi (by simp [bridgeCountersAt]), hzero hi (by simp [bridgeCountersAt])⟩,
    fun i hi => ⟨hzero (Nat.lt_trans hi (by decide)) (by simp [bridgeCountersAt, hi]),
      hzero (Nat.lt_trans hi (by decide)) (by simp [bridgeCountersAt, hi])⟩,
    fun i hi => hzero (Nat.lt_trans hi (by decide)) (by simp [bridgeCountersAt, hi])⟩

/-! ### Counts beside the dictionary (R251, R285, R286) -/

theorem get_mapVals {α : Type} (d : α) (f : α → α) (m : SMap α) (k : Nat) (hd : f d = d) : get d (mapVals f m) k = f (get d m k) := by
  unfold get
  rw [look_mapVals]
  cases look m k with
  | none => exact hd.symm
  | some v => rfl

/-- An input with its counters at zero. -/
def InputSt.cleared (x : InputSt) : InputSt := { x with underruns := 0, slips := 0, lost := 0, formatErrors := 0 }

/-- An output with its counter at zero. -/
def OutputSt.cleared (x : OutputSt) : OutputSt := { x with clips := 0 }

/-- Cirque with the counters of every input and output at zero. -/
def AudioSt.cleared (a : AudioSt) : AudioSt :=
  { a with inputs := mapVals InputSt.cleared a.inputs, outputs := mapVals OutputSt.cleared a.outputs }

theorem AudioSt.cleared_input (a : AudioSt) (k : Nat) : get {} a.cleared.inputs k = (get {} a.inputs k).cleared := get_mapVals _ _ _ _ rfl

theorem AudioSt.cleared_output (a : AudioSt) (k : Nat) : get {} a.cleared.outputs k = (get {} a.outputs k).cleared := get_mapVals _ _ _ _ rfl

theorem clearCirque_eq (x : Session) (s : State) : clearCirque x s = (.ok, { s with audio := s.audio.cleared }) := rfl

theorem clearCirqueCounters_runs {s : State} {t : Nat} {who : Who} {x : Session} (h : s.MayWrite who x 0x2A38 4 1) :
    Runs (.clearCirqueCounters t who) s fun u => u.answered who .ok ∧
      (∀ k, (get {} u.audio.inputs k).underruns = 0 ∧ (get {} u.audio.inputs k).slips = 0 ∧ (get {} u.audio.inputs k).lost = 0 ∧
        (get {} u.audio.inputs k).formatErrors = 0 ∧ (get {} u.audio.inputs k).state = (get {} s.audio.inputs k).state) ∧
      (∀ k, (get {} u.audio.outputs k).clips = 0 ∧ (get {} u.audio.outputs k).peak = (get {} s.audio.outputs k).peak) ∧
      Only s u [.audio, .access, .bridge, .power] [] := by
  refine (h.runs clearCirque rfl (clearCirque_eq ..) ((Only.same _ [.audio] []).setAudio _ List.mem_cons_self) (by decide)).imp
    fun u ⟨hans, hu, hf⟩ => ?_
  have haudio : u.audio = s.audio.cleared :=
    Eq.trans (hu.rest .audio (by decide)) (congrArg AudioSt.cleared (s.heard_audio t who 0x2A38 4))
  rw [haudio]
  refine ⟨hans, fun k => ?_, fun k => ?_, hf.mono (by decide) (fun _ hk => hk)⟩
  · rw [AudioSt.cleared_input]
    exact ⟨rfl, rfl, rfl, rfl, rfl⟩
  · rw [AudioSt.cleared_output]
    exact ⟨rfl, rfl⟩

/-- A message with its counts at zero. -/
def MsgSt.cleared (x : MsgSt) : MsgSt := { x with count := 0, errors := 0, short := 0 }

/-- A mapping with its count at zero. -/
def MapSt.cleared (x : MapSt) : MapSt := { x with overwritten := 0 }

/-- The gateway with the counts of every message and mapping at zero. -/
def EdgeSt.cleared (e : EdgeSt) : EdgeSt := { e with msgs := mapVals MsgSt.cleared e.msgs, maps := mapVals MapSt.cleared e.maps }

theorem EdgeSt.cleared_msg (e : EdgeSt) (k : Nat) : get {} e.cleared.msgs k = (get {} e.msgs k).cleared := get_mapVals _ _ _ _ rfl

theorem EdgeSt.cleared_map (e : EdgeSt) (k : Nat) : get {} e.cleared.maps k = (get {} e.maps k).cleared := get_mapVals _ _ _ _ rfl

theorem clearGateway_eq (x : Session) (s : State) : clearGateway x s = (.ok, { s with edge := s.edge.cleared }) := rfl

theorem clearGatewayCounters_runs {s : State} {t : Nat} {who : Who} {x : Session} (h : s.MayWrite who x 0x2900 4 1) :
    Runs (.clearGatewayCounters t who) s fun u => u.answered who .ok ∧
      (∀ k, (get {} u.edge.msgs k).count = 0 ∧ (get {} u.edge.msgs k).errors = 0 ∧ (get {} u.edge.msgs k).short = 0) ∧
      (∀ k, (get {} u.edge.maps k).overwritten = 0 ∧ (get {} u.edge.maps k).stale = (get {} s.edge.maps k).stale) ∧
      u.edge.cells = s.edge.cells ∧ Only s u [.edge, .access, .bridge, .power] [] := by
  refine (h.runs clearGateway rfl (clearGateway_eq ..) ((Only.same _ [.edge] []).setEdge _ List.mem_cons_self) (by decide)).imp
    fun u ⟨hans, hu, hf⟩ => ?_
  have hedge : u.edge = s.edge.cleared :=
    Eq.trans (hu.rest .edge (by decide)) (congrArg EdgeSt.cleared (s.heard_edge t who 0x2900 4))
  rw [hedge]
  refine ⟨hans, fun k => ?_, fun k => ?_, rfl, hf.mono (by decide) (fun _ hk => hk)⟩
  · rw [EdgeSt.cleared_msg]
    exact ⟨rfl, rfl, rfl⟩
  · rw [EdgeSt.cleared_map]
    exact ⟨rfl, rfl⟩

/-! ### The monitors (R454) -/

theorem bySub_injective (m : Nat) : Function.Injective (bySub m) := fun _ _ => Nat.add_left_cancel

/-- A key below an array is not one of its elements. -/
theorem not_mem_bySub {m k : Nat} (l : List Nat) (h : k < m) : k ∉ l.map (bySub m) := by
  rw [List.mem_map]
  rintro ⟨i, _, he⟩
  unfold bySub at he
  omega

/-- The peaks of some sensors stand at their present temperatures. -/
def State.peaksNow (s : State) (l : List Nat) : State :=
  l.foldl (fun s k => s.setO (bySub O.temperaturePeak k) (s.o (bySub O.temperature k))) s

theorem only_peaksNow (s : State) (l : List Nat) : Only s (s.peaksNow l) [] (l.map (bySub O.temperaturePeak)) :=
  Only.foldl _ _ (.same ..) fun _ _ ha h => h.obj (only_setO ..) (List.mem_map_of_mem ha)

/-- The temperature of a sensor is no peak of another. -/
theorem temperature_ne_peak {k : Nat} (a : Nat) (hk : k < 64) : bySub O.temperature k ≠ bySub O.temperaturePeak a := by
  simp only [bySub, O.temperature, O.temperaturePeak]
  omega

theorem temperaturePeak_ne_nodeID (a : Nat) : bySub O.temperaturePeak a ≠ O.nodeID := by
  simp only [bySub, O.temperaturePeak, O.nodeID]
  omega

theorem State.peaksNow_peak (s : State) {l : List Nat} {k : Nat} (hl : k ∈ l) (hk : k < 64) :
    (s.peaksNow l).o (bySub O.temperaturePeak k) = s.o (bySub O.temperature k) := by
  induction l generalizing s with
  | nil => exact absurd hl List.not_mem_nil
  | cons a l ih =>
    by_cases h : k ∈ l
    · exact (ih _ h).trans (State.setO_other _ _ _ _ (temperature_ne_peak a hk) (temperaturePeak_ne_nodeID a))
    · obtain rfl : k = a := (List.mem_cons.mp hl).resolve_right h
      have hkeep : bySub O.temperaturePeak k ∉ l.map (bySub O.temperaturePeak) := by
        rw [List.mem_map]
        rintro ⟨i, hi, he⟩
        exact h (bySub_injective _ he ▸ hi)
      exact ((only_peaksNow _ l).o_eq hkeep (not_mem_bySub l (by decide))).trans (State.setO_self ..)

/-- R454: every peak at the present temperature, and no voltage excursions. -/
def State.monitorsCleared (s : State) : State :=
  (s.peaksNow (List.range (8 * s.variant))).clearAll ((List.range (4 * s.variant)).map (bySub O.voltageExcursions))

theorem clearMonitors_eq (x : Session) (s : State) : clearMonitors x s = (.ok, s.monitorsCleared) := by
  have hv : (s.peaksNow (List.range (8 * s.variant))).variant = s.variant := (only_peaksNow ..).variant
  show (Status.ok, (List.range (4 * (s.peaksNow _).variant)).foldl _ (s.peaksNow _)) = _
  rw [hv]
  simp only [State.monitorsCleared, State.clearAll, List.foldl_map]

theorem only_monitorsCleared (s : State) : Only s s.monitorsCleared []
    ((List.range (8 * s.variant)).map (bySub O.temperaturePeak) ++ (List.range (4 * s.variant)).map (bySub O.voltageExcursions)) :=
  (only_peaksNow ..).trans (only_clearAll ..)

theorem State.monitorsCleared_peak {s : State} {k : Nat} (hk : k < 8 * s.variant) (h64 : k < 64) :
    s.monitorsCleared.o (bySub O.temperaturePeak k) = s.o (bySub O.temperature k) := by
  have hpeak : bySub O.temperaturePeak k < O.voltageExcursions := by
    simp only [bySub, O.temperaturePeak, O.voltageExcursions]
    omega
  exact ((only_clearAll ..).o_eq (not_mem_bySub _ hpeak) (not_mem_bySub _ (by decide))).trans
    (s.peaksNow_peak (List.mem_range.mpr hk) h64)

theorem State.monitorsCleared_excursions {s : State} {k : Nat} (hk : k < 4 * s.variant) :
    s.monitorsCleared.n (bySub O.voltageExcursions k) = 0 :=
  State.clearAll_n _ (List.mem_map_of_mem (List.mem_range.mpr hk))

theorem clearMonitorRecords_runs {s : State} {t : Nat} {who : Who} {x : Session} (hs : s.legalVariant)
    (h : s.MayWrite who x 0x2E24 1 1) : Runs (.clearMonitorRecords t who) s fun u => u.answered who .ok ∧
      (∀ k, k < 8 * s.variant → u.o (bySub O.temperaturePeak k) = s.o (bySub O.temperature k)) ∧
      (∀ k, k < 4 * s.variant → u.n (bySub O.voltageExcursions k) = 0) := by
  have hdies : s.variant ≤ 8 := by
    rcases hs with hv | hv | hv <;> omega
  have hvar := s.heard_variant t who 0x2E24 1
  refine (h.runs clearMonitors rfl (clearMonitors_eq ..) (only_monitorsCleared _) (by decide)).imp fun u ⟨hans, hu, _⟩ =>
    ⟨hans, fun k hk => ?_, fun k hk => ?_⟩
  · rw [hu.o_all, State.monitorsCleared_peak (by rwa [hvar]) (by omega), s.heard_o]
  · rw [hu.n_all, State.monitorsCleared_excursions (by rwa [hvar])]

end Sys2Proof.Machine

open Sys2Proof Sys2Proof.Machine

/-- Settles O17, clear by clear: three write records of the dictionary zero, two write integer objects zero, two rewrite the counts kept
beside the dictionary, and the last writes the peaks anew. -/
theorem clears : Obligations.Clears :=
  ⟨fun _ _ _ _ => clearPassCounters_runs, fun _ _ _ _ => clearStreamCounters_runs, fun _ _ _ _ => clearCirqueCounters_runs,
    fun _ _ _ _ _ _ _ => clearEdgeCounters_runs, fun _ _ _ _ => clearGatewayCounters_runs, fun _ _ _ _ => clearMacsecCounters_runs,
    fun _ _ _ _ => clearBridgeCounters_runs, fun _ _ _ _ => clearMonitorRecords_runs⟩
end

section
/-! Proofs about the PTP messages that are received (R208, R209, R211, R215, R216): what each leaves of its PTP clock and sends. -/
namespace Sys2Proof.Machine
open Sys2Proof

/-! ### The records of the PTP clocks (R206) -/

theorem time_of_core {R : Nat} {s u : State} (h : u.core R = s.core R) (hR : R.testBit 16 = false) : u.time = s.time := by
  simpa only [State.core, hR, Bool.false_eq_true, if_false] using congrArg State.time h

theorem State.inst_congr {s u : State} (h : u.time.inst = s.time.inst) (i : Nat) : u.inst i = s.inst i := by
  unfold State.inst
  rw [h]

@[simp] theorem State.inst_updInst_self (s : State) (i : Nat) (f : InstSt → InstSt) : (s.updInst i f).inst i = f (s.inst i) :=
  get_upd_self ..

theorem State.inst_updInst_ne (s : State) {i j : Nat} (f : InstSt → InstSt) (h : j ≠ i) : (s.updInst i f).inst j = s.inst j :=
  get_upd_ne _ _ _ _ _ h

theorem only_updInst (s : State) (i : Nat) (f : InstSt → InstSt) : Only s (s.updInst i f) [.time] [] :=
  (Only.same s _ _).setTime _ (by simp)

theorem State.sendPtp_time (s : State) (i n : Nat) (m : Bytes) (ts : Nat) : (s.sendPtp i n m ts).time = s.time :=
  time_of_core (State.sendPtp_core (R := 1536) rfl ..) rfl

/-! ### The Announces through the choice of the grandmaster (R210 to R212) -/

/-- The Announces of a PTP clock by lane, with their times. -/
def State.announced (s : State) (j : Nat) : SMap Bytes × SMap Nat := ((s.inst j).announces, (s.inst j).announceTime)

/-- An operation that leaves the PTP clocks' records leaves their Announces. -/
theorem State.announced_congr {s u : State} (h : u.time.inst = s.time.inst) : u.announced = s.announced := by
  unfold State.announced State.inst
  rw [h]

/-- A rewriting of a PTP clock's record that leaves its Announces. -/
theorem State.announced_updInst (s : State) (i : Nat) {f : InstSt → InstSt} (h : ∀ x, (f x).announces = x.announces)
    (ht : ∀ x, (f x).announceTime = x.announceTime) : (s.updInst i f).announced = s.announced := by
  funext j
  by_cases hj : j = i
  · subst hj
    simp only [State.announced, State.inst_updInst_self, h, ht]
  · simp only [State.announced, State.inst_updInst_ne s f hj]

/-- Outputs that wake rewrite the pulses alone. -/
theorem State.pulsesWake_inst (s : State) (i : Nat) : (s.pulsesWake i).time.inst = s.time.inst := by
  refine List.foldlRecOn s.time.pulses _ (motive := fun w : State => w.time.inst = s.time.inst) rfl fun w hw e _ => ?_
  dsimp only
  split
  · exact hw
  · exact hw

section Announced

variable (s : State) (i : Nat)

@[simp] theorem State.announced_setN (k v : Nat) : (s.setN k v).announced = s.announced := rfl

@[simp] theorem State.announced_setInst (b : Nat) (v : Bool) : (s.setInst i b v).announced = s.announced := rfl

@[simp] theorem State.announced_setBlob (k : Nat) (b : Bytes) : (s.setBlob k b).announced = s.announced := rfl

@[simp] theorem State.announced_inc32 (k : Nat) : (s.inc32 k).announced = s.announced := rfl

@[simp] theorem State.announced_logLead (ev : Ev) (unit : Nat) (data : List (Nat × Nat)) : (s.logLead ev unit data).announced = s.announced :=
  State.announced_congr (congrArg TimeSt.inst (State.logLead_time ..))

@[simp] theorem State.announced_tickHoldover : (tickHoldover s).announced = s.announced :=
  State.announced_congr (congrArg TimeSt.inst (time_of_core (tickHoldover_core (R := 160) rfl s) rfl))

@[simp] theorem State.announced_lockDeclared : (lockDeclared s).announced = s.announced :=
  State.announced_congr (congrArg TimeSt.inst (time_of_core (lockDeclared_core (R := 160) rfl s) rfl))

@[simp] theorem State.announced_pulsesWake : (s.pulsesWake i).announced = s.announced :=
  State.announced_congr (s.pulsesWake_inst i)

@[simp] theorem State.announced_setPorts : (s.setPorts i).announced = s.announced :=
  State.announced_congr (congrArg TimeSt.inst (time_of_core (State.setPorts_core (R := 0) rfl s i) rfl))

@[simp] theorem State.announced_lockInst (b : Bool) : (s.lockInst i b).announced = s.announced := by
  simp [State.lockInst, apply_ite State.announced, State.announced_updInst]

@[simp] theorem State.announced_holdInst : (s.holdInst i).announced = s.announced := by
  simp [State.holdInst, apply_ite State.announced, State.announced_updInst]

@[simp] theorem State.announced_dropReference : (s.dropReference i).announced = s.announced := by
  simp [State.dropReference, apply_ite State.announced, State.announced_updInst]

@[simp] theorem State.announced_newGrandmaster (id : Bytes) : (s.newGrandmaster i id).announced = s.announced := by
  simp [State.newGrandmaster, apply_ite State.announced, State.announced_updInst]

@[simp] theorem State.announced_chooseSlave (n : Nat) (id : Bytes) : (s.chooseSlave i n id).announced = s.announced := by
  simp [State.chooseSlave, apply_ite State.announced, State.announced_updInst]

@[simp] theorem State.announced_chooseSelf : (s.chooseSelf i).announced = s.announced := by
  simp [State.chooseSelf, apply_ite State.announced]

@[simp] theorem State.announced_chooseNone : (s.chooseNone i).announced = s.announced := by
  simp [State.chooseNone]

/-- The choice of a grandmaster reads the Announces and leaves them. -/
theorem State.announced_choose : (s.choose i).announced = s.announced := by
  unfold State.choose
  split
  · rfl
  · dsimp only
    rw [State.announced_setPorts]
    repeat' split
    all_goals simp

end Announced

/-! ### Messages for a port -/

section Port

variable {s : State} {t n i a c t1 t2 : Nat} {m : Bytes} {v : Int} (hi : s.ptpInst m = some i) (hp : s.isPort i n = true) (hs : s.pkg.serving = true)
include hi hp hs

/-- A message of the one type that is asked for, no management message, for a port in use of a PTP clock. -/
theorem State.onPort_takes {ty : Nat} (hm : ptpType m = ty) (hty : ty ≠ 0xD) (f : Nat → State) : s.onPort n m [ty] f = f i := by
  subst hm
  unfold State.onPort
  rw [hi]
  simp [hp, hs, hty]

/-! ### Announce (R211) -/

/-- The Announce `m` stands as that of lane `n`, from now. -/
def InstSt.hears (x : InstSt) (n now : Nat) (m : Bytes) : InstSt :=
  { x with announces := ins x.announces n m, announceTime := ins x.announceTime n now }

theorem announceReceive_other (hm : ptpType m = 0xB) (hid : slice m 0x14 8 ≠ s.clockId)
    (hc : s.n (byIdx O.profile i) ≠ 0 ∨ s.asCapable n = true) :
    announceReceive n m s = (s.updInst i (fun x => x.hears n s.now m)).choose i := by
  refine (State.onPort_takes hi hp hs hm (by decide) _).trans (if_neg ?_)
  rintro (h | ⟨h0, hn⟩)
  · exact hid h
  · rcases hc with hc | hc
    · exact hc h0
    · rw [hc] at hn
      cases hn

theorem ptpAnnounceReceive_runs (hm : ptpType m = 0xB) (hid : slice m 0x14 8 ≠ s.clockId)
    (hc : s.n (byIdx O.profile i) ≠ 0 ∨ s.asCapable n = true) : Runs (.ptpAnnounceReceive t n m) s fun u =>
      look (u.inst i).announces n = some m ∧ look (u.inst i).announceTime n = some (s.localAt t) ∧
      (∀ k, k ≠ n → look (u.inst i).announces k = look (s.inst i).announces k) := by
  refine .intro (congrArg Host.Outcome.next (announceReceive_other (s := s.begin t) hi hp hs hm hid hc)) ?_
  have hu := congrFun (State.announced_choose ((s.begin t).updInst i (fun x => x.hears n (s.localAt t) m)) i) i
  simp only [State.announced, State.inst_updInst_self, Prod.mk.injEq] at hu
  obtain ⟨ha, ht⟩ := hu
  rw [State.begin_now, ha, ht]
  exact ⟨look_ins_self .., look_ins_self .., fun k hk => look_ins_ne _ _ _ _ hk⟩

/-! ### Sync and Follow_Up (R211, R215, R216) -/

theorem syncReceive_twoStep (hm : ptpType m = 0) (hn : s.slavePort i = n) (h2 : bit (fldBE m 6 2) 9 = true) :
    syncReceive n m s = s.updInst i (fun x =>
      { x with twoStep := ins x.twoStep n (fldBE m 0x1E 2, s.rxStamp n s.now, unsignedOf 64 (ptpCorr m)) }) :=
  (State.onPort_takes hi hp hs hm (by decide) _).trans ((if_neg (not_not_intro hn)).trans (if_pos h2))

theorem syncReceive_oneStep (hm : ptpType m = 0) (hn : s.slavePort i = n) (h1 : bit (fldBE m 6 2) 9 = false) :
    syncReceive n m s = s.syncDone i n (slice m 0x22 10) (ptpCorr m) (signed 8 (fld m 0x21 1)) (s.rxStamp n s.now) :=
  (State.onPort_takes hi hp hs hm (by decide) _).trans ((if_neg (not_not_intro hn)).trans (if_neg (by simp [h1])))

theorem ptpSyncReceive_runs (hm : ptpType m = 0) (hn : s.slavePort i = n) :
    (bit (fldBE m 6 2) 9 = true → Runs (.ptpSyncReceive t n m) s fun u =>
      look (u.inst i).twoStep n = some (fldBE m 0x1E 2, s.rxStamp n (s.localAt t), unsignedOf 64 (ptpCorr m)) ∧ Only s u [.time] []) ∧
    (bit (fldBE m 6 2) 9 = false → Runs (.ptpSyncReceive t n m) s fun u =>
      u = (s.begin t).syncDone i n (slice m 0x22 10) (ptpCorr m) (signed 8 (fld m 0x21 1)) (s.rxStamp n (s.localAt t))) := by
  refine ⟨fun h2 => .intro (congrArg Host.Outcome.next (syncReceive_twoStep (s := s.begin t) hi hp hs hm hn h2)) ⟨?_, (only_updInst ..).begin⟩,
    fun h1 => .intro (congrArg Host.Outcome.next (syncReceive_oneStep (s := s.begin t) hi hp hs hm hn h1)) rfl⟩
  rw [State.inst_updInst_self]
  exact look_ins_self ..

theorem followUpReceive_completes (hm : ptpType m = 8) (hn : s.slavePort i = n)
    (hw : look (s.inst i).twoStep n = some (fldBE m 0x1E 2, a, c)) :
    followUpReceive n m s = (s.updInst i (fun x => { x with twoStep := del x.twoStep n })).syncDone i n (slice m 0x22 10)
      (signed 64 c + ptpCorr m) (signed 8 (fld m 0x21 1)) a := by
  refine (if_neg (by omega)).trans ((State.onPort_takes hi hp hs hm (by decide) _).trans ?_)
  rw [hw]
  exact if_pos ⟨hn, rfl⟩

theorem ptpFollowUpReceive_runs (hm : ptpType m = 8) (hn : s.slavePort i = n)
    (hw : look (s.inst i).twoStep n = some (fldBE m 0x1E 2, a, c)) : Runs (.ptpFollowUpReceive t n m) s fun u =>
      u = ((s.begin t).updInst i (fun x => { x with twoStep := del x.twoStep n })).syncDone i n (slice m 0x22 10) (signed 64 c + ptpCorr m)
        (signed 8 (fld m 0x21 1)) a :=
  .intro (congrArg Host.Outcome.next (followUpReceive_completes (s := s.begin t) hi hp hs hm hn hw)) rfl

/-! ### The delay request-response exchange (R209) -/

theorem delayReqReceive_answers (hm : ptpType m = 1) (hprof : s.n (byIdx O.profile i) = 1) (hst : s.portSt i n = 1) :
    delayReqReceive n m s = s.sendPtp i n (s.ptpHeader i 9 (ptpTime (s.instAt i (s.rxStamp n s.now)) ++ slice m 0x14 10).length
      (ptpFlags false) (fldBE m 0x1E 2) (s.o (byIdx O.logDelayInterval i)) n (ptpCorr m) ++
        (ptpTime (s.instAt i (s.rxStamp n s.now)) ++ slice m 0x14 10)) s.now :=
  (State.onPort_takes hi hp hs hm (by decide) _).trans (if_pos ⟨hprof, hst⟩)

theorem ptpDelayReqReceive_runs (hm : ptpType m = 1) (hprof : s.n (byIdx O.profile i) = 1) (hst : s.portSt i n = 1) :
    Runs (.ptpDelayReqReceive t n m) s fun u =>
      u = (s.begin t).sendPtp i n (s.ptpHeader i 9 (ptpTime (s.instAt i (s.rxStamp n (s.localAt t))) ++ slice m 0x14 10).length (ptpFlags false) (fldBE m 0x1E 2)
        (s.o (byIdx O.logDelayInterval i)) n (ptpCorr m) ++ (ptpTime (s.instAt i (s.rxStamp n (s.localAt t))) ++ slice m 0x14 10)) (s.localAt t) ∧ u.time = s.time :=
  .intro (congrArg Host.Outcome.next (delayReqReceive_answers (s := s.begin t) hi hp hs hm hprof hst)) ⟨rfl, State.sendPtp_time ..⟩

theorem delayRespReceive_ours (hm : ptpType m = 9) (hn : s.slavePort i = n) (hsync : (s.inst i).syncs = some (t1, t2))
    (hx : s.ourExchange n (get {} (s.inst i).delay n) m 1 = true) :
    delayRespReceive n m s = s.updInst i (fun x => { x with delay := ins x.delay n { get {} (s.inst i).delay n with
      t4 := ptpNs m 0x22, waiting := 0,
      path := some ((((t2 : Int) - (get {} (s.inst i).delay n).t3) + ((ptpNs m 0x22 : Nat) - t1) - ptpCorr m / 65536) / 2).toNat } }) := by
  refine (State.onPort_takes hi hp hs hm (by decide) _).trans ?_
  simp only [hsync]
  exact if_pos ⟨hn, hx⟩

theorem ptpDelayRespReceive_runs (hm : ptpType m = 9) (hn : s.slavePort i = n) (hsync : (s.inst i).syncs = some (t1, t2))
    (hx : s.ourExchange n (get {} (s.inst i).delay n) m 1 = true) : Runs (.ptpDelayRespReceive t n m) s fun u =>
      look (u.inst i).delay n = some { get {} (s.inst i).delay n with t4 := ptpNs m 0x22, waiting := 0, path := some ((((t2 : Int) - (get {} (s.inst i).delay n).t3) + ((ptpNs m 0x22 : Nat) - t1) - ptpCorr m / 65536) / 2).toNat } ∧
      Only s u [.time] [] := by
  refine .intro (congrArg Host.Outcome.next (delayRespReceive_ours (s := s.begin t) hi hp hs hm hn hsync hx)) ⟨?_, (only_updInst ..).begin⟩
  rw [State.inst_updInst_self]
  exact look_ins_self ..

/-! ### Interval requests (R209) -/

/-- The interval that the log `v` of a request asks for, where `was` is in force and `dflt` is configured. -/
def askedInterval (v was dflt : Int) : Int := if v = -128 then was else if v = 126 then dflt else v

/-- The intervals in force after the interval request `m`. -/
def State.askedLogs (s : State) (i n : Nat) (m : Bytes) : Int × Int × Int :=
  (askedInterval (signed 8 (fld m 54 1)) (s.logs_ i n).1 (s.o (byIdx O.logDelayInterval i)),
    askedInterval (signed 8 (fld m 55 1)) (s.logs_ i n).2.1 (s.o (byIdx O.logSyncInterval i)),
    askedInterval (signed 8 (fld m 56 1)) (s.logs_ i n).2.2 (s.o (byIdx O.logAnnounceInterval i)))

theorem signalingReceive_intervals (hm : ptpType m = 0xC) (hprof : s.n (byIdx O.profile i) = 0) (htlv : fldBE m 44 2 = 3)
    (horg : fldBE m 48 3 = 0x0080C2) (hsub : fldBE m 51 3 = 2) :
    signalingReceive n m s = s.updInst i (fun x => { x with intervals := ins x.intervals n (s.askedLogs i n m) }) :=
  (State.onPort_takes hi hp hs hm (by decide) _).trans (if_pos ⟨hprof, htlv, horg, hsub⟩)

theorem ptpSignalingReceive_runs (hm : ptpType m = 0xC) (hprof : s.n (byIdx O.profile i) = 0) (htlv : fldBE m 44 2 = 3)
    (horg : fldBE m 48 3 = 0x0080C2) (hsub : fldBE m 51 3 = 2) (hv : signed 8 (fld m 55 1) = v) :
    Runs (.ptpSignalingReceive t n m) s fun u => ((s.begin t).logs_ i n).2.1 = (s.logs_ i n).2.1 ∧
      (u.logs_ i n).2.1 = (if v = -128 then (s.logs_ i n).2.1 else if v = 126 then s.o (byIdx O.logSyncInterval i) else v) ∧
      Only s u [.time] [] := by
  subst hv
  refine .intro (congrArg Host.Outcome.next (signalingReceive_intervals (s := s.begin t) hi hp hs hm hprof htlv horg hsub))
    ⟨rfl, ?_, (only_updInst ..).begin⟩
  unfold State.logs_
  rw [State.inst_updInst_self, look_ins_self]
  rfl

end Port

/-! ### The peer-delay exchange (R209, R215) -/

section Peer

variable {s : State} {t n i : Nat} {m : Bytes} (hi : s.peerInst n m = some i)
include hi

theorem pdelayReqReceive_answers (hm : ptpType m = 2) (hprof : s.n (byIdx O.profile i) = 0) :
    pdelayReqReceive n m s = s.sendPtp i n (s.ptpHeader i 3 (ptpTime (s.rxStamp n s.now) ++ slice m 0x14 10).length (ptpFlags true)
      (fldBE m 0x1E 2) 127 n 0 ++ (ptpTime (s.rxStamp n s.now) ++ slice m 0x14 10)) (s.rxStamp n s.now) := by
  unfold pdelayReqReceive
  simp [hm, hi, hprof]

theorem ptpPdelayReqReceive_runs (hm : ptpType m = 2) (hprof : s.n (byIdx O.profile i) = 0) :
    Runs (.ptpPdelayReqReceive t n m) s fun u =>
      u = (s.begin t).sendPtp i n (s.ptpHeader i 3 (ptpTime (s.rxStamp n (s.localAt t)) ++ slice m 0x14 10).length (ptpFlags true) (fldBE m 0x1E 2) 127 n 0 ++
        (ptpTime (s.rxStamp n (s.localAt t)) ++ slice m 0x14 10)) (s.rxStamp n (s.localAt t)) ∧ u.time = s.time :=
  .intro (congrArg Host.Outcome.next (pdelayReqReceive_answers (s := s.begin t) hi hm hprof)) ⟨rfl, State.sendPtp_time ..⟩

theorem pdelayRespReceive_waits (hm : ptpType m = 3) (hx : s.ourExchange n (get {} (s.inst i).delay n) m 1 = true)
    (h2 : bit (fldBE m 6 2) 9 = true) :
    pdelayRespReceive n m s = s.updInst i (fun x => { x with delay := ins x.delay n { get {} (s.inst i).delay n with
      t2 := ptpNs m 0x22 + (ptpCorr m / 65536).toNat, t4 := s.rxStamp n s.now, waiting := 2 } }) := by
  unfold pdelayRespReceive
  simp [hm, hi, hx, h2]

theorem ptpPdelayRespReceive_runs (hm : ptpType m = 3) (hx : s.ourExchange n (get {} (s.inst i).delay n) m 1 = true)
    (h2 : bit (fldBE m 6 2) 9 = true) : Runs (.ptpPdelayRespReceive t n m) s fun u =>
      look (u.inst i).delay n = some { get {} (s.inst i).delay n with t2 := ptpNs m 0x22 + (ptpCorr m / 65536).toNat, t4 := s.rxStamp n (s.localAt t), waiting := 2 } ∧
      Only s u [.time] [] := by
  refine .intro (congrArg Host.Outcome.next (pdelayRespReceive_waits (s := s.begin t) hi hm hx h2)) ⟨?_, (only_updInst ..).begin⟩
  rw [State.inst_updInst_self]
  exact look_ins_self ..

end Peer

end Sys2Proof.Machine

open Sys2Proof Sys2Proof.Machine

/-- Settles O20, message by message: each is taken by its PTP clock's port, or by the lane's peer-delay service. -/
theorem ptpMessages : Obligations.PtpMessages :=
  ⟨fun _ _ _ _ _ => ptpAnnounceReceive_runs, fun _ _ _ _ _ => ptpSyncReceive_runs, fun _ _ _ _ _ _ _ => ptpFollowUpReceive_runs,
    fun _ _ _ _ _ => ptpDelayReqReceive_runs, fun _ _ _ _ _ _ _ => ptpDelayRespReceive_runs,
    fun _ _ _ _ _ hm hi hprof => ptpPdelayReqReceive_runs hi hm hprof, fun _ _ _ _ _ hm hi => ptpPdelayRespReceive_runs hi hm,
    fun _ _ _ _ _ _ => ptpSignalingReceive_runs⟩
end

section
/-! Proofs about the PTP timers, the time-transfer words, the grandmaster's time set and the lost reference (R207, R209, R211, R212,
R221, R222). -/
namespace Sys2Proof.Machine
open Sys2Proof

/-! ### Messages of the timers (R209, R215, R222) -/

section Timers

variable {s : State} {t i n : Nat}

theorem State.nextSeq_snd_seqs (s : State) (i n ty : Nat) :
    get 0 ((s.nextSeq i n ty).2.inst i).seqs (16 * n + ty) = (get 0 (s.inst i).seqs (16 * n + ty) + 1) % 65536 := by
  unfold State.nextSeq
  rw [State.inst_updInst_self]
  unfold get
  rw [look_ins_self]
  rfl

theorem State.nextSeq_snd_delay (s : State) (i n ty : Nat) : ((s.nextSeq i n ty).2.inst i).delay = (s.inst i).delay := by
  unfold State.nextSeq
  rw [State.inst_updInst_self]

theorem State.sendPtp_inst (s : State) (i n : Nat) (m : Bytes) (ts j : Nat) : (s.sendPtp i n m ts).inst j = s.inst j :=
  State.inst_congr (congrArg TimeSt.inst (State.sendPtp_time ..)) j

/-- The TLV that a Sync of a timer carries: that of a one-step gPTP clock. -/
def State.syncTlv (s : State) (i : Nat) : Bytes :=
  if s.n (byIdx O.profile i) = 0 ∧ s.n (byIdx O.oneStep i) = 1 then s.followUpTlv i else []

/-- The Sync that a timer sends. -/
def State.syncOf (s : State) (i n : Nat) : Bytes :=
  s.ptpHeader i 0 (10 + (s.syncTlv i).length) (ptpFlags (s.n (byIdx O.oneStep i) != 1)) (get 0 (s.inst i).seqs (16 * n))
    (s.logs_ i n).2.1 n 0 ++ fill 10 0 ++ s.syncTlv i

theorem syncTimer_sends (hp : s.isPort i n = true) (hst : s.portSt i n = 1) (hlog : (s.logs_ i n).2.1 ≠ 127)
    (hg : s.n (byIdx O.profile i) ≠ 0 ∨ s.instFlag i isSELFGM = true) :
    syncTimer i n s = (s.nextSeq i n 0).2.sendPtp i n (s.syncOf i n) s.now := by
  refine if_pos ?_
  rcases hg with hg | hg <;> simp [hp, hst, hlog, hg]

theorem ptpSyncTimer_runs (hp : s.isPort i n = true) (hst : s.portSt i n = 1) (hlog : (s.logs_ i n).2.1 ≠ 127)
    (hg : s.n (byIdx O.profile i) ≠ 0 ∨ s.instFlag i isSELFGM = true) : Runs (.ptpSyncTimer t i n) s fun u =>
      get 0 (u.inst i).seqs (16 * n) = (get 0 (s.inst i).seqs (16 * n) + 1) % 65536 ∧
      (s.n (byIdx O.profile i) ≠ 0 → u = ((s.begin t).nextSeq i n 0).2.sendPtp i n (s.ptpHeader i 0 10 (ptpFlags (s.n (byIdx O.oneStep i) != 1))
        (get 0 (s.inst i).seqs (16 * n)) (s.logs_ i n).2.1 n 0 ++ fill 10 0) (s.localAt t)) := by
  refine .intro (congrArg Host.Outcome.next (syncTimer_sends (s := s.begin t) hp hst hlog hg)) ⟨?_, fun hprof => ?_⟩
  · rw [State.sendPtp_inst]
    exact State.nextSeq_snd_seqs (s.begin t) i n 0
  · have htlv : (s.begin t).syncTlv i = [] := if_neg fun h => hprof h.1
    unfold State.syncOf
    rw [htlv, List.append_nil]
    rfl

theorem announceTimer_sends (hp : s.isPort i n = true) (hst : s.portSt i n = 1) (hlog : (s.logs_ i n).2.2 ≠ 127) :
    announceTimer i n s = (s.nextSeq i n 0xB).2.sendPtp i n (s.ptpHeader i 0xB (s.announceBody i).length (ptpFlags false)
      (get 0 (s.inst i).seqs (16 * n + 0xB)) (s.logs_ i n).2.2 n 0 ++ s.announceBody i) s.now :=
  if_pos (by simp [hp, hst, hlog])

theorem ptpAnnounceTimer_runs (hp : s.isPort i n = true) (hst : s.portSt i n = 1) (hlog : (s.logs_ i n).2.2 ≠ 127) :
    Runs (.ptpAnnounceTimer t i n) s fun u => get 0 (u.inst i).seqs (16 * n + 0xB) = (get 0 (s.inst i).seqs (16 * n + 0xB) + 1) % 65536 ∧
      u = ((s.begin t).nextSeq i n 0xB).2.sendPtp i n (s.ptpHeader i 0xB (s.announceBody i).length (ptpFlags false)
        (get 0 (s.inst i).seqs (16 * n + 0xB)) (s.logs_ i n).2.2 n 0 ++ s.announceBody i) (s.localAt t) := by
  refine .intro (congrArg Host.Outcome.next (announceTimer_sends (s := s.begin t) hp hst hlog)) ⟨?_, rfl⟩
  rw [State.sendPtp_inst]
  exact State.nextSeq_snd_seqs (s.begin t) i n 0xB

/-- Does a PTP clock measure by delay request-response, so that it sends Delay_Req, not Pdelay_Req? -/
def State.delayE2e (s : State) (i : Nat) : Bool := s.n (byIdx O.profile i) == 1

/-- The type of a PTP clock's delay requests. -/
def State.delayType (s : State) (i : Nat) : Nat := if s.delayE2e i then 1 else 2

theorem State.delayType_eq (s : State) (i : Nat) : s.delayType i = if s.n (byIdx O.profile i) = 1 then 1 else 2 := by
  simp only [State.delayType, State.delayE2e, beq_iff_eq]

/-- The delay request that a timer sends on a lane. -/
def State.delayRequest (s : State) (i n : Nat) : Bytes :=
  s.ptpHeader i (s.delayType i) (fill (if s.delayE2e i then 10 else 20) 0).length (ptpFlags false)
    (get 0 (s.inst i).seqs (16 * n + s.delayType i)) (if s.delayE2e i then 127 else (s.logs_ i n).1) n 0 ++ fill (if s.delayE2e i then 10 else 20) 0

/-- A delay request of lane `n` has used its sequence number and waits for its answer. -/
def State.delayAsked (s : State) (i n : Nat) : State :=
  (s.nextSeq i n (s.delayType i)).2.updInst i fun x =>
    { x with delay := upd {} x.delay n fun d => { d with seq := get 0 (s.inst i).seqs (16 * n + s.delayType i), waiting := 1 } }

theorem State.delayAsked_delay (s : State) (i n : Nat) : get {} ((s.delayAsked i n).inst i).delay n =
    { get {} (s.inst i).delay n with seq := get 0 (s.inst i).seqs (16 * n + s.delayType i), waiting := 1 } := by
  unfold State.delayAsked
  rw [State.inst_updInst_self, get_upd_self, State.nextSeq_snd_delay]

theorem delayTimer_sends (hp : s.isPort i n = true) (hlog : (s.logs_ i n).1 ≠ 127) (he : s.n (byIdx O.profile i) = 1 → s.slavePort i = n)
    (hl : s.n (byIdx O.profile i) = 0 → s.linkService n = some i) :
    delayTimer i n s = (s.delayAsked i n).sendPtp i n (s.delayRequest i n) s.now := by
  refine if_pos ?_
  by_cases h1 : s.n (byIdx O.profile i) = 1
  · simp [hp, hlog, h1, he h1]
  · by_cases h0 : s.n (byIdx O.profile i) = 0
    · simp [hp, hlog, h0, hl h0]
    · simp [hp, hlog, h1, h0]

theorem ptpDelayTimer_runs (hp : s.isPort i n = true) (hlog : (s.logs_ i n).1 ≠ 127) (he : s.n (byIdx O.profile i) = 1 → s.slavePort i = n)
    (hl : s.n (byIdx O.profile i) = 0 → s.linkService n = some i) : Runs (.ptpDelayTimer t i n) s fun u =>
      get {} (u.inst i).delay n = { get {} (s.inst i).delay n with
        seq := get 0 (s.inst i).seqs (16 * n + if s.n (byIdx O.profile i) = 1 then 1 else 2), waiting := 1 } := by
  refine .intro (congrArg Host.Outcome.next (delayTimer_sends (s := s.begin t) hp hlog he hl)) ?_
  rw [State.sendPtp_inst, ← s.delayType_eq i]
  exact (s.begin t).delayAsked_delay i n

/-! ### The receipt timeout (R211) -/

theorem receiptTimeout_due {a : Nat} (hon : s.instOn i = true) (hs : s.pkg.serving = true) (ha : look (s.inst i).announceTime n = some a)
    (hdue : a + bits (s.n (byIdx O.receiptTimeouts i)) 8 8 * intervalNs (s.o (byIdx O.logAnnounceInterval i)) ≤ s.now) :
    receiptTimeout i n s = (s.updInst i (fun x => { x with announces := del x.announces n, good := 0 })).choose i :=
  if_pos (by simp [hon, hs, ha, hdue])

theorem receiptTimeout_runs {a : Nat} (hon : s.instOn i = true) (hs : s.pkg.serving = true) (ha : look (s.inst i).announceTime n = some a)
    (hdue : a + bits (s.n (byIdx O.receiptTimeouts i)) 8 8 * intervalNs (s.o (byIdx O.logAnnounceInterval i)) ≤ s.localAt t) :
    Runs (.receiptTimeout t i n) s fun u =>
      look (u.inst i).announces n = none ∧ ∀ k, k ≠ n → look (u.inst i).announces k = look (s.inst i).announces k := by
  refine .intro (congrArg Host.Outcome.next (receiptTimeout_due (s := s.begin t) hon hs ha hdue)) ?_
  have hu := State.announced_choose ((s.begin t).updInst i fun x => { x with announces := del x.announces n, good := 0 }) i
  have hdel := congrArg Prod.fst (congrFun hu i)
  simp only [State.announced, State.inst_updInst_self] at hdel
  rw [hdel]
  exact ⟨look_del_self .., fun k hk => look_del_ne _ _ _ hk⟩

end Timers

/-! ### Time-transfer words (R207) -/

section Words

variable {s : State} {t d : Nat} {err : Int}

/-- The words in a row beyond 2 ns, with one more of error `err`. -/
def State.wordRun (s : State) (d : Nat) (err : Int) : Nat := if 2 < err.natAbs then get 0 s.time.misaligned d + 1 else 0

/-- A die's run of words beyond 2 ns. -/
def State.withRun (s : State) (d run : Nat) : State := { s with time := { s.time with misaligned := put 0 s.time.misaligned d run } }

theorem only_withRun (s : State) (d run : Nat) : Only s (s.withRun d run) [.time] [] := (Only.same s _ _).setTime _ (by simp)

/-- The fault that the sixteenth word in a row is. -/
def State.alignFault (s : State) (d : Nat) (err : Int) : State :=
  (s.inc32 (bySub O.timeAlignmentFaults d)).logEv d Ev.timeAlignFault 0xFFFF [(1, d), (4, unsignedOf 32 err)]

theorem timeTransfer_read (hd : s.dieUp d = true) (hl : d ≠ s.pkg.lead) : timeTransfer d err s =
    if s.wordRun d err = 16 then (s.withRun d (s.wordRun d err)).alignFault d err else s.withRun d (s.wordRun d err) :=
  if_neg (by simp [hd, hl])

theorem timeTransfer_misaligned (hd : s.dieUp d = true) (hl : d ≠ s.pkg.lead) :
    get 0 (timeTransfer d err s).time.misaligned d = s.wordRun d err := by
  have htime : (timeTransfer d err s).time = (s.withRun d (s.wordRun d err)).time := by
    rw [timeTransfer_read hd hl]
    split
    · exact State.logEv_time ..
    · rfl
  rw [htime]
  exact get_put_self ..

theorem timeTransferWord_runs (hd : s.dieUp d = true) (hl : d ≠ s.pkg.lead) : Runs (.timeTransferWord t d err) s fun u =>
      get 0 u.time.misaligned d = (if 2 < err.natAbs then get 0 s.time.misaligned d + 1 else 0) ∧
      (2 < err.natAbs → get 0 s.time.misaligned d = 15 → u.n (bySub O.timeAlignmentFaults d) = satN (2 ^ 32 - 1) (s.n (bySub O.timeAlignmentFaults d) + 1)) ∧
      (get 0 u.time.misaligned d ≠ 16 → Only s u [.time] []) := by
  have hrun := timeTransfer_misaligned (s := s.begin t) (err := err) hd hl
  have hread := timeTransfer_read (s := s.begin t) (err := err) hd hl
  refine .intro rfl ⟨hrun, fun herr h15 => ?_, fun h16 => ?_⟩
  · have hfault : (s.begin t).wordRun d err = 16 := (if_pos herr).trans (congrArg (· + 1) h15)
    rw [hread, if_pos hfault]
    exact (State.logEv_n ..).trans (State.inc32_self ..)
  · rw [hread, if_neg (hrun ▸ h16)]
    exact (only_withRun ..).begin

end Words

/-! ### A time set by hand (R212) -/

theorem State.setInst_instFlag (s : State) (i b c : Nat) (v : Bool) :
    (s.setInst i b v).instFlag i c = if c = b then v else s.instFlag i c := by
  unfold State.instFlag State.setInst State.flag
  rw [State.setFlag_self, bit_setBit]

theorem State.setInst_instFlag_self (s : State) (i b : Nat) (v : Bool) : (s.setInst i b v).instFlag i b = v :=
  (State.setInst_instFlag ..).trans (if_pos rfl)

theorem State.setInst_instFlag_ne (s : State) (i : Nat) {b c : Nat} (v : Bool) (h : c ≠ b) : (s.setInst i b v).instFlag i c = s.instFlag i c :=
  (State.setInst_instFlag ..).trans (if_neg h)

section TimeSet

variable {s : State} {t i v : Nat} {who : Who} {x : Session}

theorem access_of_core {R : Nat} {s u : State} (h : u.core R = s.core R) (hR : R.testBit 4 = false) : u.access = s.access := by
  simpa only [State.core, hR, Bool.false_eq_true, if_false] using congrArg State.access h

/-- A step of a clock rewrites the pulses and their counters alone. -/
theorem State.pulsesStep_inst (s : State) (i old new : Nat) : (s.pulsesStep i old new).time.inst = s.time.inst := by
  refine List.foldlRecOn s.time.pulses _ (motive := fun w : State => w.time.inst = s.time.inst) rfl fun w hw e _ => ?_
  dsimp only
  split
  · split
    · exact hw
    · exact hw
  · exact hw

theorem State.stepClock_inst (s : State) (i new : Nat) : (s.stepClock i new).inst i = { s.inst i with base := new, ref := s.now } := by
  have h : (s.stepClock i new).time.inst = (s.updInst i fun x => { x with base := new, ref := s.now }).time.inst :=
    (congrArg TimeSt.inst (State.logLead_time ..)).trans (State.pulsesStep_inst ..)
  rw [State.inst_congr h, State.inst_updInst_self]

theorem State.stepClock_access (s : State) (i new : Nat) : (s.stepClock i new).access = s.access :=
  access_of_core (State.stepClock_core (R := 65568) rfl s i new) rfl

/-- A PTP clock steps to `v`, a time that someone vouches for. -/
def State.clockSet (s : State) (i v : Nat) : State := (s.stepClock i v).setInst i isUNTRACEABLE false

theorem State.clockSet_time (s : State) (i v : Nat) : (s.clockSet i v).time = (s.stepClock i v).time := State.setN_time ..

theorem State.clockSet_access (s : State) (i v : Nat) : (s.clockSet i v).access = (s.stepClock i v).access := State.setN_access ..

/-- A re-alignment of the tick has been requested (R44). -/
def State.realigned (s : State) : State :=
  { s.setFlag O.tickFlags tfREALIGN true with tick := { s.tick with again := s.tick.stretch.isSome } }

theorem State.realigned_time (s : State) : s.realigned.time = s.time := rfl

theorem State.realigned_access (s : State) : s.realigned.access = s.access := rfl

theorem State.realigned_n (s : State) {k : Nat} (h : k ≠ O.tickFlags) : s.realigned.n k = s.n k :=
  State.setFlag_other _ _ _ _ _ h (by decide)

theorem State.realigned_flag (s : State) : s.realigned.flag O.tickFlags tfREALIGN = true :=
  (congrArg (bit · tfREALIGN) (State.setFlag_self s O.tickFlags tfREALIGN true)).trans (bit_setBit_self ..)

/-- The time of a PTP clock set by hand: on clock 0 the step is taken as a re-alignment. -/
def State.timeSet (s : State) (i v : Nat) : State := if i = 0 then (s.clockSet i v).realigned else s.clockSet i v

theorem setGrandmasterTime_refused (x : Session) (h : s.instFlag i isSELFGM = false) : setGrandmasterTime i v x s = (.deviceState, s) :=
  if_pos (by rw [h]; rfl)

theorem setGrandmasterTime_sets (x : Session) (h : s.instFlag i isSELFGM = true) : setGrandmasterTime i v x s = (.ok, s.timeSet i v) := by
  refine (if_neg (by simp [h])).trans ?_
  unfold State.timeSet
  split
  · rfl
  · rfl

theorem State.timeSet_inst (s : State) (i v : Nat) : (s.timeSet i v).inst i = { s.inst i with base := v, ref := s.now } := by
  have htime : (s.timeSet i v).time = (s.stepClock i v).time := by
    simp only [State.timeSet, apply_ite State.time, State.realigned_time, State.clockSet_time, ite_self]
  rw [State.inst_congr (congrArg TimeSt.inst htime), State.stepClock_inst]

theorem State.timeSet_access (s : State) (i v : Nat) : (s.timeSet i v).access = s.access := by
  simp only [State.timeSet, apply_ite State.access, State.realigned_access, State.clockSet_access, State.stepClock_access, ite_self]

theorem State.clockSet_traceable (s : State) (i v : Nat) : (s.clockSet i v).instFlag i isUNTRACEABLE = false :=
  State.setInst_instFlag_self ..

theorem State.timeSet_traceable (s : State) (i v : Nat) : (s.timeSet i v).instFlag i isUNTRACEABLE = false := by
  rw [← s.clockSet_traceable i v]
  unfold State.timeSet
  split
  · exact congrArg (bit · isUNTRACEABLE) (State.realigned_n _ (byIdx_ne (by decide)))
  · rfl

theorem grandmasterTimeSet_runs (h : s.MayWrite who x (0x2110 + i) 0x1A v) (hg : s.instFlag i isSELFGM = true) :
    Runs (.grandmasterTimeSet t who i v) s fun u => u.answered who .ok ∧ (u.inst i).base = v ∧ (u.inst i).ref = s.localAt t ∧
      u.instFlag i isUNTRACEABLE = false ∧ (i = 0 → u.flag O.tickFlags tfREALIGN = true) := by
  have hg' : (s.heard t who (0x2110 + i) 0x1A).instFlag i isSELFGM = true := by
    rw [← hg]
    exact congrArg (bit · isSELFGM) (State.heard_n ..)
  refine .intro (cmdRow_runs h t _ (setGrandmasterTime_sets x hg')) ⟨h.toTakes.answered (State.timeSet_access ..) .ok, ?_⟩
  rw [State.inst_congr (congrArg TimeSt.inst (State.answer_time ..)), State.timeSet_inst, State.heard_now]
  refine ⟨rfl, rfl, ?_, ?_⟩
  · exact (congrArg (bit · isUNTRACEABLE) (State.answer_n ..)).trans (State.timeSet_traceable ..)
  · rintro rfl
    exact (congrArg (bit · tfREALIGN) (State.answer_n ..)).trans (State.realigned_flag ..)

theorem grandmasterTimeSet_refused (h : s.MayWrite who x (0x2110 + i) 0x1A v) (hg : s.instFlag i isSELFGM = false) :
    Runs (.grandmasterTimeSet t who i v) s fun u => u.answered who .deviceState ∧ Only s u [.access, .bridge, .power] [] := by
  have hg' : (s.heard t who (0x2110 + i) 0x1A).instFlag i isSELFGM = false := by
    rw [← hg]
    exact congrArg (bit · isSELFGM) (State.heard_n ..)
  exact (h.runs_refused _ rfl (setGrandmasterTime_refused x hg')).imp fun u ⟨hans, hf⟩ => ⟨hans, hf.mono (by decide) (fun _ hk => hk)⟩

end TimeSet

/-! ### A lost reference (R221) -/

theorem refLost_due {s : State} {i : Nat} (ha : s.refActs i = true) (hl : (s.inst i).refLast + 2000000000 ≤ s.now) :
    refLost i s = ((s.setInst i isREFLOCKED false).setInst i isREFLOST true).updInst i (fun x => { x with refGood := 0 }) :=
  if_pos (by simp [ha, hl])

theorem refLost_runs {s : State} {t i : Nat} (ha : s.refActs i = true) (hl : (s.inst i).refLast + 2000000000 ≤ s.localAt t) :
    Runs (.refLost t i) s fun u => u.instFlag i isREFLOCKED = false ∧ u.instFlag i isREFLOST = true ∧ (u.inst i).refGood = 0 ∧
      Only s u [.time] [byIdx O.instanceStatus i] := by
  refine .intro (congrArg Host.Outcome.next (refLost_due (s := s.begin t) ha hl)) ⟨?_, ?_, ?_, ?_⟩
  · exact (State.setInst_instFlag_ne _ _ _ (by decide)).trans (State.setInst_instFlag_self ..)
  · exact State.setInst_instFlag_self ..
  · rw [State.inst_updInst_self]
  · exact ((((Only.start t s _ _).obj (only_setFlag ..) List.mem_cons_self).obj (only_setFlag ..) List.mem_cons_self).one (only_updInst ..)
      List.mem_cons_self)

end Sys2Proof.Machine

open Sys2Proof Sys2Proof.Machine

/-- Settles O21, command by command: what a timer sends leaves the PTP clocks' records, and a step of the clock leaves them but for the
clock's base. -/
theorem ptpTimers : Obligations.PtpTimers :=
  ⟨fun _ _ _ _ => ptpSyncTimer_runs, fun _ _ _ _ => ptpAnnounceTimer_runs, fun _ _ _ _ => ptpDelayTimer_runs,
    fun _ _ _ _ _ => receiptTimeout_runs, fun _ _ _ _ _ => timeTransferWord_runs,
    fun _ _ _ _ _ _ _ h => ⟨grandmasterTimeSet_runs h, grandmasterTimeSet_refused h⟩, fun _ _ _ _ => refLost_runs⟩
end

section
/-! Proofs about pulse outputs and capture inputs (R218 to R220). -/
namespace Sys2Proof.Machine
open Sys2Proof

/-! ### The records of the units -/

@[simp] theorem State.setPulse_pulse (s : State) (q : Nat) (x : PulseSt) : (s.setPulse q x).pulse q = x := get_put_self ..

theorem only_setPulse (s : State) (q : Nat) (x : PulseSt) : Only s (s.setPulse q x) [.time] [] := (Only.same s _ _).setTime _ (by simp)

theorem State.pulse_congr {s u : State} (h : u.time = s.time) (q : Nat) : u.pulse q = s.pulse q := by
  unfold State.pulse
  rw [h]

theorem State.capture_congr {s u : State} (h : u.time.captures = s.time.captures) (q : Nat) : u.capture q = s.capture q := by
  unfold State.capture
  rw [h]

theorem State.setCapture_capture (s : State) (q : Nat) (x : CaptureSt) : (s.setCapture q x).capture q = x := get_put_self ..

/-! ### Pulse programs (R218, R219) -/

section Program

variable {s : State} {t d o : Nat} {rec : Bytes} {who : Who} {x : Session}

/-- Where nothing runs on an output, its new program takes effect. -/
theorem writePulse_idle {q : Nat} (p : Bytes) (hoff : pulseEnabled (s.pulse q).prog = false) (hends : (s.pulse q).ends = none) :
    writePulse q p x s = (.ok, (s.setBlob (pulseKey O.pulseProgram q) p).installPulse q p) := by
  have hx : (s.setBlob (pulseKey O.pulseProgram q) p).pulse q = s.pulse q := rfl
  unfold writePulse
  simp [hx, hoff, hends]

/-- In a pulse a new program waits, with its time. -/
theorem writePulse_inPulse {q : Nat} (p : Bytes) (hends : (s.pulse q).ends.isSome = true) :
    writePulse q p x s = (.ok, (s.setBlob (pulseKey O.pulseProgram q) p).setPulse q { s.pulse q with next := some (p, s.now) }) := by
  have hx : (s.setBlob (pulseKey O.pulseProgram q) p).pulse q = s.pulse q := rfl
  have hnone : (s.pulse q).ends.isNone = false := by
    rw [← Option.not_isSome, hends]
    rfl
  unfold writePulse
  simp [hx, hnone]

/-- A legal program whose writing leaves the output's record `y` is answered OK, and reads back. -/
theorem pulseProgramWrite_runs (h : s.MayWriteDom who x (0x2130 + d) (1 + o) 24 24 rec.length) (hok : pulseOk rec = true) {y : PulseSt}
    (hw : writePulse (4 * d + o) rec x (s.heard t who (0x2130 + d) (1 + o)) =
      (.ok, ((s.heard t who (0x2130 + d) (1 + o)).setBlob (pulseKey O.pulseProgram (4 * d + o)) rec).setPulse (4 * d + o) y)) :
    Runs (.pulseProgramWrite t who d o rec) s fun u =>
      u.answered who .ok ∧ u.pulse (4 * d + o) = y ∧ u.blob (pulseKey O.pulseProgram (4 * d + o)) = rec := by
  have hf := (only_setBlob (s.heard t who (0x2130 + d) (1 + o)) (pulseKey O.pulseProgram (4 * d + o)) rec).trans (only_setPulse _ (4 * d + o) y)
  refine (h.runs _ _ rfl hok hw hf (by decide)).imp fun u ⟨hans, hu, _⟩ => ⟨hans, ?_, ?_⟩
  · rw [State.pulse_congr (hu.rest .time (by decide)), State.setPulse_pulse]
  · rw [hu.blob_eq (by decide)]
    exact State.setBlob_self ..

theorem State.heard_pulse (s : State) (t : Nat) (who : Who) (idx sub q : Nat) : (s.heard t who idx sub).pulse q = s.pulse q :=
  State.pulse_congr (State.heard_time ..) q

theorem pulseProgramWrite_idle (h : s.MayWriteDom who x (0x2130 + d) (1 + o) 24 24 rec.length) (hok : pulseOk rec = true)
    (hoff : pulseEnabled (s.pulse (4 * d + o)).prog = false) (hends : (s.pulse (4 * d + o)).ends = none) :
    Runs (.pulseProgramWrite t who d o rec) s fun u => u.answered who .ok ∧ (u.pulse (4 * d + o)).prog = rec ∧
      (u.pulse (4 * d + o)).next = none ∧ u.blob (pulseKey O.pulseProgram (4 * d + o)) = rec := by
  have hx := s.heard_pulse t who (0x2130 + d) (1 + o) (4 * d + o)
  refine (pulseProgramWrite_runs h hok (writePulse_idle rec (by rw [hx, hoff]) (by rw [hx, hends]))).imp fun u ⟨hans, hu, hb⟩ => ?_
  rw [hu]
  exact ⟨hans, rfl, rfl, hb⟩

theorem pulseProgramWrite_inPulse (h : s.MayWriteDom who x (0x2130 + d) (1 + o) 24 24 rec.length) (hok : pulseOk rec = true)
    (hends : (s.pulse (4 * d + o)).ends.isSome = true) : Runs (.pulseProgramWrite t who d o rec) s fun u => u.answered who .ok ∧
      u.pulse (4 * d + o) = { s.pulse (4 * d + o) with next := some (rec, s.localAt t) } ∧
      u.blob (pulseKey O.pulseProgram (4 * d + o)) = rec := by
  have hx := s.heard_pulse t who (0x2130 + d) (1 + o) (4 * d + o)
  have hw := writePulse_inPulse (x := x) rec (hx ▸ hends)
  rw [hx, State.heard_now] at hw
  exact pulseProgramWrite_runs h hok hw

end Program

/-! ### Pulse edges (R218, R219) -/

section Edge

variable {s : State} {t d o q : Nat}

/-- The pulse of an output's next edge begins, at its clock's time `g`. -/
def PulseSt.fire (x : PulseSt) (g : Nat) : PulseSt :=
  { x with ends := some (edgeTime x.prog x.k + pulseWidth x.prog), k := max (x.k + 1) (edgeFrom x.prog g), fired := true }

theorem pulseEdge_fires (hd : s.dieUp (q / 4) = true) (hnext : (s.pulse q).next = none) (hends : (s.pulse q).ends = none)
    (hon : pulseEnabled (s.pulse q).prog = true) (hrun : s.pulseMayRun (s.pulse q).prog = true)
    (honce : pulsePeriod (s.pulse q).prog ≠ 0 ∨ (s.pulse q).k = 0)
    (hdue : edgeTime (s.pulse q).prog (s.pulse q).k ≤ s.instNow (pulseClock (s.pulse q).prog)) :
    pulseEdge q s = (s.drivePulse q (s.pulse q).prog true).setPulse q ((s.pulse q).fire (s.instNow (pulseClock (s.pulse q).prog))) := by
  have hgrid : (pulsePeriod (s.pulse q).prog != 0 || (s.pulse q).k == 0) = true := by simpa using honce
  unfold pulseEdge
  simp only [hd, hends, hnext, hon, hrun, hgrid, decide_eq_true hdue, PulseSt.fire, Bool.and_self, Bool.not_true, Bool.false_eq_true,
    if_false]

theorem pulseEdge_ends {e : Nat} (hd : s.dieUp (q / 4) = true) (hnext : (s.pulse q).next = none) (hends : (s.pulse q).ends = some e)
    (hdue : e ≤ s.instNow (pulseClock (s.pulse q).prog)) :
    pulseEdge q s = (s.drivePulse q (s.pulse q).prog false).setPulse q { s.pulse q with ends := none } := by
  unfold pulseEdge
  simp only [hd, hends, hnext, Nat.not_lt.mpr hdue, Bool.not_true, Bool.false_eq_true, if_false]

theorem State.mem_drivePulse (s : State) (q : Nat) (p : Bytes) (active : Bool) :
    Out.message "tout" q [if active != bit (fld p 0x15 1) 1 then 1 else 0] ∈ (s.drivePulse q p active).out := by
  unfold State.drivePulse
  simp

theorem only_driven (s : State) (q : Nat) (p : Bytes) (active : Bool) (x : PulseSt) :
    Only s ((s.drivePulse q p active).setPulse q x) [.time] [] :=
  (only_emit ..).trans (only_setPulse ..)

theorem exec_pulseEdge (s : State) (t d : Nat) (ho : o < 4) : exec (.pulseEdge t d o) s = .next (pulseEdge (4 * d + o) (s.begin t)) := by
  show execPulseEdge t d o s = _
  unfold execPulseEdge
  rw [Nat.mod_eq_of_lt ho]

/-- The die of an output. -/
theorem State.dieUp_output (ho : o < 4) (hd : s.dieUp d = true) : s.dieUp ((4 * d + o) / 4) = true := by
  rwa [show (4 * d + o) / 4 = d by omega]

theorem pulseEdge_fires_runs (ho : o < 4) (hd : s.dieUp d = true) (hnext : (s.pulse (4 * d + o)).next = none)
    (hends : (s.pulse (4 * d + o)).ends = none) (hon : pulseEnabled (s.pulse (4 * d + o)).prog = true)
    (hrun : s.pulseMayRun (s.pulse (4 * d + o)).prog = true)
    (honce : pulsePeriod (s.pulse (4 * d + o)).prog ≠ 0 ∨ (s.pulse (4 * d + o)).k = 0)
    (hdue : edgeTime (s.pulse (4 * d + o)).prog (s.pulse (4 * d + o)).k ≤ s.instAt (pulseClock (s.pulse (4 * d + o)).prog) (s.localAt t)) :
    Runs (.pulseEdge t d o) s fun u =>
      Out.message "tout" (4 * d + o) [if !bit (fld (s.pulse (4 * d + o)).prog 0x15 1) 1 then 1 else 0] ∈ u.out ∧
      (u.pulse (4 * d + o)).fired = true ∧
      (u.pulse (4 * d + o)).ends = some (edgeTime (s.pulse (4 * d + o)).prog (s.pulse (4 * d + o)).k + pulseWidth (s.pulse (4 * d + o)).prog) ∧
      (s.pulse (4 * d + o)).k < (u.pulse (4 * d + o)).k ∧ Only s u [.time] [] := by
  have hw := pulseEdge_fires (s := s.begin t) (State.dieUp_output ho hd) hnext hends hon hrun honce hdue
  refine .intro ((exec_pulseEdge s t d ho).trans (congrArg Host.Outcome.next hw)) ?_
  rw [State.setPulse_pulse]
  refine ⟨?_, rfl, rfl, Nat.lt_of_succ_le (Nat.le_max_left ..), (only_driven ..).begin⟩
  have hout := State.mem_drivePulse (s.begin t) (4 * d + o) (s.pulse (4 * d + o)).prog true
  rwa [Bool.true_bne] at hout

theorem pulseEdge_ends_runs {e : Nat} (ho : o < 4) (hd : s.dieUp d = true) (hnext : (s.pulse (4 * d + o)).next = none)
    (hends : (s.pulse (4 * d + o)).ends = some e) (hdue : e ≤ s.instAt (pulseClock (s.pulse (4 * d + o)).prog) (s.localAt t)) :
    Runs (.pulseEdge t d o) s fun u =>
      Out.message "tout" (4 * d + o) [if bit (fld (s.pulse (4 * d + o)).prog 0x15 1) 1 then 1 else 0] ∈ u.out ∧
      u.pulse (4 * d + o) = { s.pulse (4 * d + o) with ends := none } ∧ Only s u [.time] [] := by
  have hw := pulseEdge_ends (s := s.begin t) (State.dieUp_output ho hd) hnext hends hdue
  refine .intro ((exec_pulseEdge s t d ho).trans (congrArg Host.Outcome.next hw)) ⟨?_, State.setPulse_pulse .., (only_driven ..).begin⟩
  have hout := State.mem_drivePulse (s.begin t) (4 * d + o) (s.pulse (4 * d + o)).prog false
  rwa [Bool.false_bne] at hout

end Edge

/-! ### Capture inputs (R220) -/

section Capture

variable {s : State} {t d i q : Nat} {falling : Bool} {who : Who} {x : Session}

theorem State.updInst_captures (s : State) (i : Nat) (f : InstSt → InstSt) : (s.updInst i f).time.captures = s.time.captures := rfl

theorem State.setRate_captures (s : State) (i : Nat) (ppb : Int) : (s.setRate i ppb).time.captures = s.time.captures := rfl

theorem State.setInst_time (s : State) (i b : Nat) (v : Bool) : (s.setInst i b v).time = s.time := rfl

/-- An edge of the reference steers its clock, and leaves the captures. -/
theorem State.referenceEdge_captures (s : State) (q i : Nat) : (s.referenceEdge q i).time.captures = s.time.captures := by
  simp only [State.referenceEdge, apply_ite State.time, apply_ite TimeSt.captures, State.setInst_time, State.updInst_captures,
    State.drawn_time, State.setRate_captures, State.setO_time, ite_self]

/-- What an edge leaves of the captures is what its recording leaves. -/
theorem captureEdge_captures (hd : s.dieUp (q / 2) = true) :
    (captureEdge q falling s).time.captures = (s.recordEdge q falling).time.captures := by
  unfold captureEdge
  simp only [hd, Bool.not_true, Bool.false_eq_true, if_false]
  split
  · rfl
  · exact List.foldlRecOn (List.range 4) _ (motive := fun w : State => w.time.captures = (s.recordEdge q falling).time.captures) rfl
      fun w hw i _ => (w.referenceEdge_captures q i).trans hw

theorem State.recordEdge_seq (hc : bit (s.n (captureKey O.captureControl q)) (b2n falling) = true) :
    ((s.recordEdge q falling).capture q).seq = ((s.capture q).seq + 1) % 2 ^ 32 := by
  unfold State.recordEdge
  simp only [hc, Bool.not_true, Bool.false_eq_true, if_false]
  split
  · rw [State.setCapture_capture]
  · rw [State.setCapture_capture]

theorem State.recordEdge_recorded (hc : bit (s.n (captureKey O.captureControl q)) (b2n falling) = true) (hroom : (s.capture q).records.length < 16) :
    ∃ r, ((s.recordEdge q falling).capture q).records = (s.capture q).records ++ [r] := by
  unfold State.recordEdge
  simp only [hc, Nat.not_le.mpr hroom, Bool.not_true, Bool.false_eq_true, if_false]
  rw [State.setCapture_capture]
  exact ⟨_, rfl⟩

theorem State.recordEdge_lost (hc : bit (s.n (captureKey O.captureControl q)) (b2n falling) = true) (hfull : 16 ≤ (s.capture q).records.length) :
    ((s.recordEdge q falling).capture q).records = (s.capture q).records := by
  unfold State.recordEdge
  simp only [hc, hfull, Bool.not_true, Bool.false_eq_true, if_false, if_true]
  rw [State.setCapture_capture]

theorem exec_captureEdge (s : State) (t d : Nat) (falling : Bool) (hi : i < 2) :
    exec (.captureEdge t d i falling) s = .next (captureEdge (2 * d + i) falling (s.begin t)) := by
  show execCaptureEdge t d i falling s = _
  unfold execCaptureEdge
  rw [Nat.mod_eq_of_lt hi]

theorem captureEdge_runs (hi : i < 2) (hd : s.dieUp d = true) (hc : bit (s.n (captureKey O.captureControl (2 * d + i))) (b2n falling) = true) :
    Runs (.captureEdge t d i falling) s fun u =>
      (u.capture (2 * d + i)).seq = ((s.capture (2 * d + i)).seq + 1) % 2 ^ 32 ∧
      ((s.capture (2 * d + i)).records.length < 16 → ∃ r, (u.capture (2 * d + i)).records = (s.capture (2 * d + i)).records ++ [r]) ∧
      (16 ≤ (s.capture (2 * d + i)).records.length → (u.capture (2 * d + i)).records = (s.capture (2 * d + i)).records) := by
  have hdie : (s.begin t).dieUp ((2 * d + i) / 2) = true := by
    rwa [show (2 * d + i) / 2 = d by omega]
  refine .intro (exec_captureEdge s t d falling hi) ?_
  rw [State.capture_congr (captureEdge_captures hdie)]
  exact ⟨State.recordEdge_seq (s := s.begin t) hc, State.recordEdge_recorded (s := s.begin t) hc, State.recordEdge_lost (s := s.begin t) hc⟩

/-! ### A read of the capture records (R220) -/

/-- The records of an input have been taken. -/
def State.capturesTaken (s : State) (q : Nat) : State := s.setCapture q { s.capture q with records := [] }

theorem readCaptures_allowed {sess : Nat} (hc : ((s.readCheck x.rights (0x2138 + d) (3 + i)).2).isSome = true) :
    readCaptures sess d i x s = (⟨.ok, ((s.touch sess (mux (0x2138 + d) (3 + i)) false).capture (2 * d + i)).records.flatten, true⟩,
      (s.touch sess (mux (0x2138 + d) (3 + i)) false).capturesTaken (2 * d + i)) := by
  obtain ⟨r, hr⟩ := Option.isSome_iff_exists.mp hc
  unfold readCaptures
  simp only [hr]
  rfl

theorem captureRecordsRead_runs (hi : i < 2) (h : s.Takes who x) (hc : ((s.readCheck x.rights (0x2138 + d) (3 + i)).2).isSome = true) :
    Runs (.captureRecordsRead t who d i) s fun u => Out.response who ⟨.ok, (s.capture (2 * d + i)).records.flatten, true⟩ ∈ u.out ∧
      (u.capture (2 * d + i)).records = [] ∧ (u.capture (2 * d + i)).seq = (s.capture (2 * d + i)).seq ∧
      u.n (captureKey O.capturesQueued (2 * d + i)) = 0 := by
  have hheard : (s.heard t who (0x2138 + d) (3 + i)).capture (2 * d + i) = s.capture (2 * d + i) :=
    State.capture_congr (congrArg TimeSt.captures (State.heard_time ..)) _
  have hexec : exec (.captureRecordsRead t who d i) s =
      .next (((s.heard t who (0x2138 + d) (3 + i)).capturesTaken (2 * d + i)).answer who ⟨.ok, (s.capture (2 * d + i)).records.flatten, true⟩) := by
    show execCaptureRecordsRead t who d i s = _
    unfold execCaptureRecordsRead
    rw [Nat.mod_eq_of_lt hi, serve_taken (h.begin t), readCaptures_allowed (s := (s.begin t).traffic) hc, ← hheard]
    rfl
  have hsess := State.session_touch ((s.begin t).traffic) who.sess (mux (0x2138 + d) (3 + i)) who.sess false
    (Option.isSome_iff_exists.mpr ⟨x, h.session⟩)
  refine .intro hexec ⟨State.answer_out _ _ _ hsess, ?_⟩
  rw [State.capture_congr (congrArg TimeSt.captures (State.answer_time ..)), State.answer_n]
  unfold State.capturesTaken
  rw [State.setCapture_capture, hheard]
  exact ⟨rfl, rfl, State.setN_self ..⟩

end Capture

end Sys2Proof.Machine

open Sys2Proof Sys2Proof.Machine

/-- Settles O22, command by command: a program, an edge of its grid, an edge on a capture input and the read of its records each leave
one record of one unit anew. -/
theorem pulsesAndCaptures : Obligations.PulsesAndCaptures :=
  ⟨fun _ _ _ _ _ _ _ h hok => ⟨pulseProgramWrite_idle h hok, pulseProgramWrite_inPulse h hok⟩,
    fun _ _ _ _ ho hd hnext => ⟨pulseEdge_fires_runs ho hd hnext, fun _ => pulseEdge_ends_runs ho hd hnext⟩,
    fun _ _ _ _ _ _ => captureEdge_runs, fun _ _ _ _ _ _ _ => captureRecordsRead_runs⟩
end

section
/-! Proofs about the announcement matrix (R228 to R230, R238, R241 to R243, R246). -/
namespace Sys2Proof.Machine
open Sys2Proof

/-! ### Input frames (R228 to R230) -/

@[simp] theorem State.setInput_input (s : State) (d ch : Nat) (x : InputSt) : (s.setInput d ch x).input d ch = x := get_put_self ..

theorem only_setInput (s : State) (d ch : Nat) (x : InputSt) : Only s (s.setInput d ch x) [.audio] [] := (Only.same s _ _).setAudio _ (by simp)

section Input

variable {s : State} {t d ch slot : Nat} {b : Bytes} (hon : s.instanceOn d = true) (hin : ch ∈ s.inputsOn d)
  (hfeed : inFeed (s.inputRec ch) = slot) (hok : s.feedOk ch = true) (hst : (s.input d ch).state ≠ 0)
include hon hin hfeed hok hst

theorem cirqueInput_formatError (hb : s.audioPacket (s.inputRec ch) b = none) : cirqueInput d ch slot (.packet b) s =
    s.setInput d ch { s.input d ch with formatErrors := satN (2 ^ 32 - 1) ((s.input d ch).formatErrors + 1) } := by
  unfold cirqueInput
  simp [hon, hin, hfeed, hok, hst, hb]

theorem cirqueInput_packet {q m : Nat} {ssrc : Option Nat} {v : List Int} (hb : s.audioPacket (s.inputRec ch) b = some (q, m, ssrc, v)) :
    cirqueInput d ch slot (.packet b) s =
      s.setInput d ch ((s.input d ch).packet q m ssrc v (s.effDepth d ch) (s.perTick (inRate (s.inputRec ch)))) := by
  unfold cirqueInput
  simp [hon, hin, hfeed, hok, hst, hb]

theorem cirqueInputFrame_formatError (hb : s.audioPacket (s.inputRec ch) b = none) : Runs (.cirqueInputFrame t d ch slot (.packet b)) s fun u =>
    u.input d ch = { s.input d ch with formatErrors := satN (2 ^ 32 - 1) ((s.input d ch).formatErrors + 1) } ∧ Only s u [.audio] [] :=
  .intro (congrArg Host.Outcome.next (cirqueInput_formatError (s := s.begin t) hon hin hfeed hok hst hb))
    ⟨State.setInput_input .., (only_setInput ..).begin⟩

theorem cirqueInputFrame_packet (q m : Nat) (ssrc : Option Nat) (v : List Int) (hb : s.audioPacket (s.inputRec ch) b = some (q, m, ssrc, v)) :
    Runs (.cirqueInputFrame t d ch slot (.packet b)) s fun u =>
      u.input d ch = (s.input d ch).packet q m ssrc v (s.effDepth d ch) (s.perTick (inRate (s.inputRec ch))) ∧ Only s u [.audio] [] :=
  .intro (congrArg Host.Outcome.next (cirqueInput_packet (s := s.begin t) hon hin hfeed hok hst hb))
    ⟨State.setInput_input .., (only_setInput ..).begin⟩

end Input

/-! ### Emergency (R238) -/

theorem only_driveEmgAct (s : State) : Only s s.driveEmgAct [.audio] [] := by
  unfold State.driveEmgAct
  split
  · exact .same ..
  · exact ((Only.same s [.audio] []).setAudio _ List.mem_cons_self).none (only_emit ..)

@[simp] theorem State.driveEmgAct_emgAct (s : State) : s.driveEmgAct.audio.emgAct = true := by
  unfold State.driveEmgAct
  split
  next h => exact h
  next => rfl

section Emergency

variable (s : State) (ball cmd : Bool)

/-- What an emergency does before its state is shown: it is traffic, and in the recovery loop EMG_ACT follows the ball. -/
def State.emgHeard : State :=
  let s := if ball || cmd then s.traffic else s
  if s.pkg.recoveryDies ≠ 0 then
    ({ s with audio := { s.audio with emgAct := ball } }).emit (.message "emg_act" 0 [BitVec.ofNat 8 (b2n ball)])
  else s

/-- The emergency state is shown, and ACTIVE drives EMG_ACT. -/
def State.emgShown : State :=
  let s := (s.emgHeard ball cmd).setN O.emergencyState (b2n ball + 2 * b2n cmd + 4 * b2n (ball || cmd))
  if ball || cmd then s.driveEmgAct else s

/-- A change of ACTIVE is logged, and its beginning is counted. -/
def State.emgRecorded (was now byCmd : Bool) : State :=
  if now && !was then (s.inc32 O.emergencyActivations).logLead Ev.emergency 0xFFFF [(1, 0), (1, b2n byCmd)]
  else if was && !now then s.logLead Ev.emergency 0xFFFF [(1, 1), (1, b2n byCmd)]
  else s

theorem only_emgHeard : Only s (s.emgHeard ball cmd) [.audio, .power] [] := by
  have htraffic : Only s (if ball || cmd then s.traffic else s) [.audio, .power] [] :=
    .ite ((Only.same s _ _).one (only_traffic s) (by simp)) (.same ..)
  exact .ite ((htraffic.setAudio _ (by simp)).none (only_emit ..)) htraffic

theorem only_emgShown : Only s (s.emgShown ball cmd) [.audio, .power] [O.emergencyState] := by
  have hset : Only s ((s.emgHeard ball cmd).setN O.emergencyState (b2n ball + 2 * b2n cmd + 4 * b2n (ball || cmd))) [.audio, .power]
      [O.emergencyState] := ((only_emgHeard s ball cmd).mono (fun _ hp => hp) (by simp)).obj (only_setN ..) (by simp)
  exact .ite (hset.one (only_driveEmgAct _) (by simp)) hset

theorem only_emgRecorded (was now byCmd : Bool) : Only s (s.emgRecorded was now byCmd) [.logs] [O.emergencyActivations] := by
  have hcount : Only s (s.inc32 O.emergencyActivations) [.logs] [O.emergencyActivations] := (Only.same ..).obj (only_inc32 ..) (by simp)
  exact .ite (hcount.one (only_logLead ..) (by simp)) (.ite ((Only.same ..).one (only_logLead ..) (by simp)) (.same ..))

theorem State.emgShown_state : (s.emgShown ball cmd).n O.emergencyState = b2n ball + 2 * b2n cmd + 4 * b2n (ball || cmd) := by
  unfold State.emgShown
  split
  · rw [(only_driveEmgAct _).n_all, State.setN_self]
  · exact State.setN_self ..

theorem State.emgShown_emgAct (h : (ball || cmd) = true) : (s.emgShown ball cmd).audio.emgAct = true := by
  unfold State.emgShown
  rw [if_pos h]
  exact State.driveEmgAct_emgAct _

theorem State.emgRecorded_activations (was now byCmd : Bool) : (s.emgRecorded was now byCmd).n O.emergencyActivations =
    if now && !was then satN (2 ^ 32 - 1) (s.n O.emergencyActivations + 1) else s.n O.emergencyActivations := by
  unfold State.emgRecorded
  split
  · rw [State.logLead_n, State.inc32_self]
  · split
    · rw [State.logLead_n]
    · rfl

variable {s}

/-- Outside power state 6 the emergency is shown, then recorded. -/
theorem State.setEmergency_shown (h : s.n O.powerState ≠ 6) : ∃ byCmd, s.setEmergency ball cmd =
    (s.emgShown ball cmd).emgRecorded s.emgActive (ball || cmd) byCmd := by
  have hwas : (s.emgHeard ball cmd).emgActive = s.emgActive :=
    congrArg (bit · 2) ((only_emgHeard s ball cmd).n_all O.emergencyState)
  rw [← hwas]
  unfold State.setEmergency
  rw [if_neg h]
  exact ⟨_, rfl⟩

theorem only_setEmergency (h : s.n O.powerState ≠ 6) :
    Only s (s.setEmergency ball cmd) [.logs, .audio, .power] [O.emergencyState, O.emergencyActivations] := by
  obtain ⟨byCmd, e⟩ := State.setEmergency_shown ball cmd h
  rw [e]
  exact (only_emgRecorded ..).and ((only_emgShown s ball cmd).mono (by simp) (by simp)) (by simp) (by simp)

theorem State.setEmergency_state (h : s.n O.powerState ≠ 6) :
    (s.setEmergency ball cmd).n O.emergencyState = b2n ball + 2 * b2n cmd + 4 * b2n (ball || cmd) := by
  obtain ⟨byCmd, e⟩ := State.setEmergency_shown ball cmd h
  rw [e, (only_emgRecorded ..).n_eq (by decide) (by decide), State.emgShown_state]

theorem State.setEmergency_activations (h : s.n O.powerState ≠ 6) : (s.setEmergency ball cmd).n O.emergencyActivations =
    if (ball || cmd) && !s.emgActive then satN (2 ^ 32 - 1) (s.n O.emergencyActivations + 1) else s.n O.emergencyActivations := by
  obtain ⟨byCmd, e⟩ := State.setEmergency_shown ball cmd h
  rw [e, State.emgRecorded_activations, (only_emgShown ..).n_eq (by decide) (by decide)]

theorem State.setEmergency_emgAct (h : s.n O.powerState ≠ 6) (hnow : (ball || cmd) = true) : (s.setEmergency ball cmd).audio.emgAct = true := by
  obtain ⟨byCmd, e⟩ := State.setEmergency_shown ball cmd h
  have haudio : ((s.emgShown ball cmd).emgRecorded s.emgActive (ball || cmd) byCmd).audio = (s.emgShown ball cmd).audio :=
    (only_emgRecorded ..).rest .audio (by decide)
  rw [e, haudio, State.emgShown_emgAct s ball cmd hnow]

end Emergency

theorem emergencyAssert_runs {s : State} {t : Nat} (h : s.n O.powerState ≠ 6) : Runs (.emergencyAssert t) s fun u =>
    u.n O.emergencyState = 5 + 2 * b2n s.emgCommand ∧ u.audio.emgAct = true ∧
    u.n O.emergencyActivations = (if s.emgActive then s.n O.emergencyActivations else satN (2 ^ 32 - 1) (s.n O.emergencyActivations + 1)) ∧
    Only s u [.logs, .audio, .power] [O.emergencyState, O.emergencyActivations] := by
  have hp : (s.begin t).n O.powerState ≠ 6 := h
  refine .intro (u := (s.begin t).setEmergency true s.emgCommand) rfl
    ⟨(State.setEmergency_state _ _ hp).trans ?_, State.setEmergency_emgAct _ _ hp rfl, (State.setEmergency_activations _ _ hp).trans ?_,
      (only_setEmergency _ _ hp).begin⟩
  · rw [Bool.true_or, show b2n true = 1 from rfl]
    omega
  · rw [show (s.begin t).emgActive = s.emgActive from rfl, State.begin_n]
    cases s.emgActive <;> rfl

theorem emergencyRelease_runs {s : State} {t : Nat} (h : s.n O.powerState ≠ 6) : Runs (.emergencyRelease t) s fun u =>
    u.n O.emergencyState = 6 * b2n s.emgCommand ∧ Only s u [.logs, .audio, .power] [O.emergencyState, O.emergencyActivations] := by
  have hp : (s.begin t).n O.powerState ≠ 6 := h
  refine .intro (u := (s.begin t).setEmergency false s.emgCommand) rfl
    ⟨(State.setEmergency_state _ _ hp).trans ?_, (only_setEmergency _ _ hp).begin⟩
  rw [Bool.false_or, show b2n false = 0 from rfl]
  omega

/-! ### The emergency command (R6, R238) -/

section EmergencyCommand

variable {s : State} {t v : Nat} {who : Who} {x : Session}

/-- The written command waits for the boundary, and a 1 drives EMG_ACT. -/
def State.emgWritten (s : State) (v : Nat) : State :=
  if v = 1 then (s.holdT O.emergencyCommand (.num ((v : Nat) : Int))).traffic.driveEmgAct
  else s.holdT O.emergencyCommand (.num ((v : Nat) : Int))

theorem only_emgWritten (s : State) (v : Nat) : Only s (s.emgWritten v) [.held, .power, .audio] [] := by
  have hheld : Only s (s.holdT O.emergencyCommand (.num ((v : Nat) : Int))) [.held, .power, .audio] [] :=
    (Only.same ..).one (only_holdT ..) (by simp)
  exact .ite ((hheld.one (only_traffic _) (by simp)).one (only_driveEmgAct _) (by simp)) hheld

theorem State.emgWritten_held (s : State) (v : Nat) :
    (s.emgWritten v).held = s.held ++ [{ time := s.now, key := O.emergencyCommand, val := .num ((v : Nat) : Int) }] := by
  unfold State.emgWritten
  split
  · exact (only_driveEmgAct _).rest .held (by decide)
  · rfl

theorem State.emgWritten_emgAct (s : State) : (s.emgWritten 1).audio.emgAct = true := State.driveEmgAct_emgAct _

theorem emergencyCommand_allowed (sess : Nat) (hv : v ≤ 1) (hx : x.txn = none) (hc : ((s.writeCheck x.rights 0x2A00 2).2).isSome = true) :
    emergencyCommand sess v x s = (Response.of .ok, (s.touch sess O.emergencyCommand false).emgWritten v) := by
  obtain ⟨r, hr⟩ := Option.isSome_iff_exists.mp hc
  unfold emergencyCommand
  simp only [hr, Nat.not_lt.mpr hv, hx, if_false, Option.isSome_none, Bool.false_eq_true]
  rfl

theorem emergencyCommand_runs (hv : v ≤ 1) (h : s.Takes who x) (hx : x.txn = none)
    (hc : ((s.writeCheck x.rights 0x2A00 2).2).isSome = true) :
    Runs (.emergencyCommand t who v) s fun u => u.answered who .ok ∧ u.n O.emergencyState = s.n O.emergencyState ∧
      (∃ h ∈ u.held, h.key = O.emergencyCommand ∧ h.val = .num ((v : Nat) : Int)) ∧ (v = 1 → u.audio.emgAct = true) ∧
      (v = 0 → u.audio = s.audio) := by
  have he : exec (.emergencyCommand t who v) s = .next (((s.heard t who 0x2A00 2).emgWritten v).answer who (Response.of .ok)) := by
    show Host.Outcome.next _ = _
    rw [serve_taken (h.begin t), emergencyCommand_allowed (s := (s.begin t).traffic) who.sess hv hx hc]
    rfl
  refine .intro he ⟨h.answered ((only_emgWritten ..).rest .access (by decide)) .ok, ?_, ?_, ?_, ?_⟩
  · rw [State.answer_n, (only_emgWritten ..).n_all, State.heard_n]
  · rw [State.answer_held, State.emgWritten_held]
    exact ⟨_, List.mem_append_right _ List.mem_cons_self, rfl, rfl⟩
  · rintro rfl
    rw [State.answer_audio, State.emgWritten_emgAct]
  · rintro rfl
    rw [State.answer_audio, ← State.heard_audio s t who 0x2A00 2]
    rfl

end EmergencyCommand

/-! ### The handover (R246) -/

theorem zoneHandover_starts {s : State} {p : Plan} (hp : s.plan.pending.head? = some p) (ht : p.switchTick ≤ s.tickNo + 9)
    (hmoved : ∃ e ∈ p.place.homes, e.1 < 256 ∧ look s.plan.active.place.homes e.1 ≠ some e.2) :
    zoneHandover s = { s with audio := { s.audio with handover := true } } := by
  unfold zoneHandover
  simp only [hp]
  exact if_pos ⟨ht, by simpa [List.any_eq_true] using hmoved⟩

theorem zoneHandoverStart_runs {s : State} {t : Nat} {p : Plan} (hp : s.plan.pending.head? = some p) (ht : p.switchTick ≤ s.tickNo + 9)
    (hmoved : ∃ e ∈ p.place.homes, e.1 < 256 ∧ look s.plan.active.place.homes e.1 ≠ some e.2) : Runs (.zoneHandoverStart t) s fun u =>
      u.audio = { s.audio with handover := true } ∧ Only s u [.audio] [] :=
  .intro (congrArg Host.Outcome.next (zoneHandover_starts (s := s.begin t) hp ht hmoved))
    ⟨rfl, (Only.start t s _ _).setAudio _ List.mem_cons_self⟩

/-! ### Clips (R241, R253) -/

section Clips

variable {s u : State}

theorem State.clip_congr (hv : u.variant = s.variant) (hb : u.dict.blobs = s.dict.blobs) (c : Nat) : u.clip c = s.clip c := by
  unfold State.clip State.blob
  rw [hv, hb]

theorem State.clipsUsed_congr (hv : u.variant = s.variant) (hb : u.dict.blobs = s.dict.blobs) : u.clipsUsed = s.clipsUsed := by
  unfold State.clipsUsed
  simp only [State.clip_congr hv hb]

theorem State.clipInUse_congr (hn : ∀ k, u.n k = s.n k) (c : Nat) : u.clipInUse c = s.clipInUse c := by
  unfold State.clipInUse State.annStatus
  simp only [hn]

@[simp] theorem State.heard_clip (s : State) (t : Nat) (who : Who) (idx sub c : Nat) : (s.heard t who idx sub).clip c = s.clip c :=
  State.clip_congr (State.heard_variant ..) (by rw [State.heard_dict]) c

@[simp] theorem State.heard_clipsUsed (s : State) (t : Nat) (who : Who) (idx sub : Nat) : (s.heard t who idx sub).clipsUsed = s.clipsUsed :=
  State.clipsUsed_congr (State.heard_variant ..) (by rw [State.heard_dict])

@[simp] theorem State.heard_clipInUse (s : State) (t : Nat) (who : Who) (idx sub c : Nat) :
    (s.heard t who idx sub).clipInUse c = s.clipInUse c :=
  State.clipInUse_congr (State.heard_n s t who idx sub) c

theorem only_storeClip (s : State) (c : Nat) (b : Bytes) : Only s (s.storeClip c b) [.blobs] [at_ O.clipLength c, O.clipStoreFree] :=
  (((Only.same s _ _).one (only_setBlob ..) (by simp)).obj (only_setN ..) (by simp)).obj (only_setN ..) (by simp)

@[simp] theorem State.storeClip_clip (s : State) (c : Nat) (b : Bytes) : (s.storeClip c b).clip c = b :=
  State.setBlob_self s (at_ O.clipData c) b

/-- A clip is read from the byte strings alone. -/
theorem Only.clip_eq {P : List Part} {K : List Nat} (h : Only s u P K) (hp : Part.blobs ∉ P) (c : Nat) : u.clip c = s.clip c :=
  h.blob_eq hp _

variable {t : Nat} {who : Who} {x : Session} {b : Bytes}

theorem clipWrite_stores (heven : b.length % 2 = 0) (hfree : s.clipInUse (x.sel O.clipSelect) = false)
    (hroom : s.clipsUsed - (s.clip (x.sel O.clipSelect)).length + b.length ≤ 262144) :
    clipWrite b x s = (.ok, s.storeClip (x.sel O.clipSelect) b) := by
  simp [clipWrite, heven, hfree, Nat.not_lt.mpr hroom]

theorem clipErase_frees (hfree : s.clipInUse (x.sel O.clipSelect) = false) :
    clipErase x s = (.ok, s.storeClip (x.sel O.clipSelect) []) := by
  simp [clipErase, hfree]

theorem clipErase_inUse (huse : s.clipInUse (x.sel O.clipSelect) = true) : clipErase x s = (.deviceState, s) := if_pos huse

theorem clipDataWrite_runs (h : s.MayWriteDom who x 0x2A70 3 0 262144 b.length) (heven : b.length % 2 = 0)
    (hfree : s.clipInUse (x.sel O.clipSelect) = false)
    (hroom : s.clipsUsed - (s.clip (x.sel O.clipSelect)).length + b.length ≤ 262144) :
    Runs (.clipDataWrite t who b) s fun u => u.answered who .ok ∧ u.clip (x.sel O.clipSelect) = b := by
  have ha := clipWrite_stores (s := s.heard t who 0x2A70 3) (x := x) heven (by simpa using hfree) (by simpa using hroom)
  exact (h.runs (fun _ => true) _ rfl rfl ha (only_storeClip ..) (by decide)).imp fun u ⟨hans, hu, _⟩ =>
    ⟨hans, (hu.clip_eq (by decide) _).trans (State.storeClip_clip ..)⟩

theorem clipErase_runs_free (h : s.MayWrite who x 0x2A70 5 1) (hfree : s.clipInUse (x.sel O.clipSelect) = false) :
    Runs (.clipErase t who) s fun u => u.answered who .ok ∧ u.clip (x.sel O.clipSelect) = [] := by
  have ha := clipErase_frees (s := s.heard t who 0x2A70 5) (x := x) (by simpa using hfree)
  exact (h.runs _ rfl ha (only_storeClip ..) (by decide)).imp fun u ⟨hans, hu, _⟩ =>
    ⟨hans, (hu.clip_eq (by decide) _).trans (State.storeClip_clip ..)⟩

theorem clipErase_runs_inUse (h : s.MayWrite who x 0x2A70 5 1) (huse : s.clipInUse (x.sel O.clipSelect) = true) :
    Runs (.clipErase t who) s fun u => u.answered who .deviceState ∧ Only s u [.access, .bridge, .power] [] :=
  (h.runs_refused _ rfl (clipErase_inUse (by simpa using huse))).imp fun _ ⟨hans, hf⟩ => ⟨hans, hf.mono (by decide) (fun _ hk => hk)⟩

end Clips

/-! ### Announcements (R242, R243) -/

theorem State.annStatus_def (s : State) (a : Nat) : s.annStatus a = s.n (annKey O.announcementStatus a) := rfl

theorem annKey_ne_nodeID {m : Nat} (a : Nat) (h : m % 256 ≠ 2) : annKey m a ≠ O.nodeID := byIdx_ne (Ne.symm h)

theorem annStatusKey_ne_startTick (a : Nat) : annKey O.announcementStatus a ≠ annKey O.announcementStartTick a := byIdx_ne_byIdx (by decide)

section Announcements

variable {s : State} {t a : Nat} {who : Who} {x : Session}

@[simp] theorem State.heard_annStatus (s : State) (t : Nat) (who : Who) (idx sub a : Nat) :
    (s.heard t who idx sub).annStatus a = s.annStatus a := State.heard_n ..

/-- A start puts the announcement at RUNNING from the tick after the next, its players not begun. -/
def State.annStarted (s : State) (a : Nat) : State :=
  let w : State := { s with audio := { s.audio with begun := s.audio.begun.filter (fun b => b != a) } }
  (w.setN (annKey O.announcementStatus a) 1).setN (annKey O.announcementStartTick a) (s.tickNo + 2)

theorem only_annStarted (s : State) (a : Nat) :
    Only s (s.annStarted a) [.audio] [annKey O.announcementStatus a, annKey O.announcementStartTick a] :=
  ((((Only.same s _ _).setAudio _ List.mem_cons_self).obj (only_setN ..) (by simp)).obj (only_setN ..) (by simp))

theorem State.annStarted_status (s : State) (a : Nat) : (s.annStarted a).annStatus a = 1 :=
  (State.setN_other _ _ _ _ (annStatusKey_ne_startTick a) (annKey_ne_nodeID a (by decide))).trans (State.setN_self ..)

theorem State.annStarted_startTick (s : State) (a : Nat) : (s.annStarted a).n (annKey O.announcementStartTick a) = s.tickNo + 2 :=
  State.setN_self ..

theorem annStart_starts (hidle : s.annStatus a ≠ 1) (hclip : s.clip (s.n (annKey O.announcementClip a)) ≠ []) :
    annStart a x s = (.ok, s.annStarted a) := if_neg (by simp [hidle, hclip])

theorem annStart_refused (h : s.annStatus a = 1 ∨ s.clip (s.n (annKey O.announcementClip a)) = []) :
    annStart a x s = (.deviceState, s) := if_pos h

theorem announcementStart_runs (h : s.MayWrite who x (0x2A60 + a) 6 1) (hidle : s.annStatus a ≠ 1)
    (hclip : s.clip (s.n (annKey O.announcementClip a)) ≠ []) : Runs (.announcementStart t who a) s fun u =>
      u.answered who .ok ∧ u.annStatus a = 1 ∧ u.n (annKey O.announcementStartTick a) = s.tickNo + 2 ∧
      Only s u [.audio, .access, .bridge, .power] [annKey O.announcementStatus a, annKey O.announcementStartTick a] := by
  have ha := annStart_starts (s := s.heard t who (0x2A60 + a) 6) (x := x) (by simpa using hidle) (by simpa using hclip)
  refine (h.runs _ rfl ha (only_annStarted ..) (by decide)).imp fun u ⟨hans, hu, hf⟩ =>
    ⟨hans, (hu.n_all _).trans (State.annStarted_status ..), (hu.n_all _).trans ?_, hf.mono (by decide) (fun _ hk => hk)⟩
  rw [State.annStarted_startTick, State.tickNo_def, State.heard_n, State.tickNo_def]

theorem announcementStart_refused (h : s.MayWrite who x (0x2A60 + a) 6 1)
    (hno : s.annStatus a = 1 ∨ s.clip (s.n (annKey O.announcementClip a)) = []) : Runs (.announcementStart t who a) s fun u =>
      u.answered who .deviceState ∧ Only s u [.access, .bridge, .power] [] :=
  (h.runs_refused _ rfl (annStart_refused (by simpa using hno))).imp fun _ ⟨hans, hf⟩ => ⟨hans, hf.mono (by decide) (fun _ hk => hk)⟩

/-! ### The players -/

theorem only_releasePlayers (s : State) (a : Nat) (fade : Bool) : Only s (s.releasePlayers a fade) [.audio] [] :=
  (Only.same s _ _).setAudio _ List.mem_cons_self

theorem State.not_mem_releasePlayers_begun (s : State) (a : Nat) (fade : Bool) : a ∉ (s.releasePlayers a fade).audio.begun := by
  simp [State.releasePlayers]

theorem State.releasePlayers_player (s : State) (a : Nat) (fade : Bool) (z : Nat) : ((s.releasePlayers a fade).zoneSt z).player ≠ some a := by
  unfold State.zoneSt State.releasePlayers
  rw [get_mapVals _ _ _ _ rfl]
  split
  next => exact Option.some_ne_none a |>.symm
  next h => exact h

/-- An announcement that has ended with a status, out of every player. -/
def State.annEnded (s : State) (a st : Nat) (fade : Bool) : State := (s.setN (annKey O.announcementStatus a) st).releasePlayers a fade

theorem only_annEnded (s : State) (a st : Nat) (fade : Bool) : Only s (s.annEnded a st fade) [.audio] [annKey O.announcementStatus a] :=
  (only_setN ..).trans (only_releasePlayers ..)

theorem State.annEnded_status (s : State) (a st : Nat) (fade : Bool) : (s.annEnded a st fade).annStatus a = st := State.setN_self ..

theorem annAbort_ends (h : s.annStatus a = 1) : annAbort a x s = (.ok, s.annEnded a 3 true) := if_neg (not_not_intro h)

theorem annAbort_idle (h : s.annStatus a ≠ 1) : annAbort a x s = (.alreadyDone, s) := if_pos h

theorem announcementAbort_runs (h : s.MayWrite who x (0x2A60 + a) 6 2) (hrun : s.annStatus a = 1) :
    Runs (.announcementAbort t who a) s fun u => u.answered who .ok ∧ u.annStatus a = 3 ∧ a ∉ u.audio.begun ∧
      (∀ z, (u.zoneSt z).player ≠ some a) ∧ Only s u [.audio, .access, .bridge, .power] [annKey O.announcementStatus a] := by
  have ha := annAbort_ends (s := s.heard t who (0x2A60 + a) 6) (x := x) (by simpa using hrun)
  refine (h.runs _ rfl ha (only_annEnded ..) (by decide)).imp fun u ⟨hans, hu, hf⟩ => ?_
  have haudio : u.audio = ((s.heard t who (0x2A60 + a) 6).annEnded a 3 true).audio := hu.rest .audio (by decide)
  refine ⟨hans, (hu.n_all _).trans (State.annEnded_status ..), ?_, fun z => ?_, hf.mono (by decide) (fun _ hk => hk)⟩
  · rw [haudio]
    exact State.not_mem_releasePlayers_begun _ a true
  · unfold State.zoneSt
    rw [haudio]
    exact State.releasePlayers_player _ a true z

theorem announcementAbort_idle (h : s.MayWrite who x (0x2A60 + a) 6 2) (hidle : s.annStatus a ≠ 1) :
    Runs (.announcementAbort t who a) s fun u => u.answered who .alreadyDone ∧ Only s u [.access, .bridge, .power] [] :=
  (h.runs_refused _ rfl (annAbort_idle (by simpa using hidle))).imp fun _ ⟨hans, hf⟩ => ⟨hans, hf.mono (by decide) (fun _ hk => hk)⟩

theorem only_setZone (s : State) (z : Nat) (x : ZoneSt) : Only s (s.setZone z x) [.audio] [] := (Only.same s _ _).setAudio _ List.mem_cons_self

/-- A zone is reached: its player is taken, or a conflict is counted. -/
theorem State.joinPlayer_cases (s : State) (a z : Nat) :
    s.joinPlayer a z = s.setZone z { s.zoneSt z with player := some a } ∨ s.joinPlayer a z = s.inc32 O.announcementConflicts := by
  unfold State.joinPlayer
  dsimp only
  split
  · split
    · exact .inl rfl
    · exact .inr rfl
  · exact .inl rfl

theorem only_joinPlayer (s : State) (a z : Nat) : Only s (s.joinPlayer a z) [.audio] [O.announcementConflicts] := by
  rcases s.joinPlayer_cases a z with e | e <;> rw [e]
  · exact (only_setZone ..).mono (fun _ hp => hp) (by simp)
  · exact (only_inc32 ..).mono (by simp) (fun _ hk => hk)

theorem State.joinPlayer_begun (s : State) (a z : Nat) : (s.joinPlayer a z).audio.begun = s.audio.begun := by
  rcases s.joinPlayer_cases a z with e | e <;> rw [e] <;> rfl

/-- The players of an announcement's zones begin. -/
def State.annBegun (s : State) (a : Nat) : State :=
  (s.annZones a).foldl (fun w z => w.joinPlayer a z) { s with audio := { s.audio with begun := a :: s.audio.begun } }

theorem only_annBegun (s : State) (a : Nat) : Only s (s.annBegun a) [.audio] [O.announcementConflicts] :=
  Only.foldl _ _ ((Only.same s _ _).setAudio _ List.mem_cons_self) fun w z _ hw =>
    (only_joinPlayer w a z).and hw (fun _ hp => hp) (fun _ hk => hk)

theorem State.mem_annBegun_begun (s : State) (a : Nat) : a ∈ (s.annBegun a).audio.begun :=
  List.foldlRecOn _ _ (motive := fun w : State => a ∈ w.audio.begun) List.mem_cons_self fun w hw z _ => by
    rwa [State.joinPlayer_begun]

theorem State.annBegun_status (s : State) (a : Nat) : (s.annBegun a).annStatus a = s.annStatus a := by
  refine (only_annBegun s a).n_eq ?_ (by decide)
  rw [List.mem_singleton]
  exact byIdx_ne (by decide)

section Due

variable (hrun : s.annStatus a = 1) (hdue : s.n (annKey O.announcementStartTick a) ≤ s.tickNo) (hnew : a ∉ s.audio.begun)
include hrun hdue hnew

theorem annPlayback_fails (hz : s.annZones a = []) : annPlayback a s = s.setN (annKey O.announcementStatus a) 4 := by
  unfold annPlayback
  rw [if_neg (by simp [hrun, hnew, Nat.not_lt.mpr hdue]), hz]
  rfl

theorem annPlayback_begins (hz : s.annZones a ≠ []) : annPlayback a s = s.annBegun a := by
  unfold annPlayback
  rw [if_neg (by simp [hrun, hnew, Nat.not_lt.mpr hdue]), if_neg (by simpa using hz)]
  rfl

theorem announcementPlayback_runs : Runs (.announcementPlayback t a) s fun u =>
    (s.annZones a = [] → u.annStatus a = 4) ∧ (s.annZones a ≠ [] → a ∈ u.audio.begun ∧ u.annStatus a = 1) := by
  by_cases hz : s.annZones a = []
  · exact .intro (congrArg Host.Outcome.next (annPlayback_fails (s := s.begin t) hrun hdue hnew hz))
      ⟨fun _ => State.setN_self .., fun h => absurd hz h⟩
  · exact .intro (congrArg Host.Outcome.next (annPlayback_begins (s := s.begin t) hrun hdue hnew hz))
      ⟨fun h => absurd h hz, fun _ => ⟨State.mem_annBegun_begun .., (State.annBegun_status ..).trans hrun⟩⟩

end Due

theorem annDone_ends (hrun : s.annStatus a = 1) (hbegun : a ∈ s.audio.begun) (hrep : s.n (annKey O.announcementRepeats a) ≠ 255)
    (hz : s.annZones a ≠ []) (hend : ∀ z ∈ s.annZones a, s.annEnd a z ≤ s.tickNo) : annDone a s = s.annEnded a 2 false := by
  unfold annDone
  rw [if_pos ⟨hrun, List.contains_iff_mem.mpr hbegun, hrep, by simpa using hend⟩, if_neg (by simpa using hz)]
  rfl

theorem announcementDone_runs (hrun : s.annStatus a = 1) (hbegun : a ∈ s.audio.begun) (hrep : s.n (annKey O.announcementRepeats a) ≠ 255)
    (hz : s.annZones a ≠ []) (hend : ∀ z ∈ s.annZones a, s.annEnd a z ≤ s.tickNo) : Runs (.announcementDone t a) s fun u =>
      u.annStatus a = 2 ∧ a ∉ u.audio.begun ∧ Only s u [.audio] [annKey O.announcementStatus a] :=
  .intro (congrArg Host.Outcome.next (annDone_ends (s := s.begin t) hrun hbegun hrep hz hend))
    ⟨State.annEnded_status .., State.not_mem_releasePlayers_begun _ a false, (only_annEnded ..).begin⟩

end Announcements

end Sys2Proof.Machine

open Sys2Proof Sys2Proof.Machine

/-- Settles O23, command by command: each leaves one named state, read by the rules of the inputs, the emergency, the clips and the
players. -/
theorem audio : Obligations.Audio :=
  ⟨fun _ _ _ _ _ _ hon hin hfeed hok hst => ⟨cirqueInputFrame_formatError hon hin hfeed hok hst, cirqueInputFrame_packet hon hin hfeed hok hst⟩,
    fun _ _ => emergencyAssert_runs, fun _ _ => emergencyRelease_runs, fun _ _ _ _ _ => emergencyCommand_runs,
    fun _ _ _ => zoneHandoverStart_runs,
    fun _ _ _ _ _ _ h => ⟨announcementStart_runs h, announcementStart_refused h⟩,
    fun _ _ _ _ _ _ h => ⟨announcementAbort_runs h, announcementAbort_idle h⟩,
    fun _ _ _ _ => announcementPlayback_runs, fun _ _ _ _ => announcementDone_runs,
    fun _ _ _ _ _ => clipDataWrite_runs, fun _ _ _ _ h => ⟨clipErase_runs_free h, clipErase_runs_inUse h⟩⟩
end

section
/-! Proofs about the mailbox and the edge message RAMs (R255, R301, R356): what a RAM reads after a write, and that two RAMs in
canonical form that read alike are the same data. -/
namespace Sys2Proof.Machine
open Sys2Proof

/-! ### Bytes of a RAM after a write (R255, R301) -/

theorem get_put (m : SMap Byte) (k j : Nat) (v : Byte) : get 0 (put 0 m k v) j = if j = k then v else get 0 m j := by
  split
  · subst j
    exact get_put_self ..
  · exact get_put_ne _ _ _ _ _ ‹_›

theorem ramWrite_cons (m : SMap Byte) (off : Nat) (x : Byte) (b : Bytes) :
    ramWrite m off (x :: b) = ramWrite (put 0 m off x) (off + 1) b := by
  unfold ramWrite
  rw [List.mapIdx_cons, List.foldl_cons]
  simp only [Nat.add_zero, Nat.add_right_comm off, Nat.add_assoc]

/-- The byte at an address after a write: the written byte where there is one, else the byte that was there. -/
theorem get_ramWrite (m : SMap Byte) (off : Nat) (b : Bytes) (k : Nat) :
    get 0 (ramWrite m off b) k = if k < off then get 0 m k else b[k - off]?.getD (get 0 m k) := by
  induction b generalizing m off with
  | nil => simp [ramWrite]
  | cons x b ih =>
    rw [ramWrite_cons, ih, get_put]
    rcases Nat.lt_trichotomy k off with h | rfl | h
    · rw [if_pos (Nat.lt_succ_of_lt h), if_neg (Nat.ne_of_lt h), if_pos h]
    · simp
    · obtain ⟨i, rfl⟩ := Nat.exists_eq_add_of_lt h
      rw [if_neg (by omega), if_neg (by omega), if_neg (by omega), show off + i + 1 - (off + 1) = i by omega,
        show off + i + 1 - off = i + 1 by omega, List.getElem?_cons_succ]

theorem ramRead_ramWrite (m : SMap Byte) (off : Nat) (b : Bytes) : ramRead (ramWrite m off b) off b.length = b := by
  unfold ramRead
  refine List.ext_getElem (by simp) fun i _ hi => ?_
  rw [List.getElem_map, List.getElem_range, get_ramWrite, if_neg (by omega), Nat.add_sub_cancel_left, List.getElem?_eq_getElem hi]
  rfl

theorem ramRead_ramWrite_outside (m : SMap Byte) (off : Nat) (b : Bytes) {a n : Nat} (h : a + n ≤ off ∨ off + b.length ≤ a) :
    ramRead (ramWrite m off b) a n = ramRead m a n := by
  refine List.map_congr_left fun i hi => ?_
  have hi := List.mem_range.mp hi
  rw [get_ramWrite]
  split
  · rfl
  · rw [List.getElem?_eq_none (by omega)]
    rfl

/-! ### Equal contents are equal data (R356) -/

section Rising

variable {α : Type} {m m' : SMap α}

theorem rising_of_risingFrom {lo : Nat} (hm : risingFrom lo m = true) : rising m = true := by
  cases m with
  | nil => rfl
  | cons e t =>
    simp only [risingFrom, Bool.and_eq_true] at hm
    exact hm.2

theorem look_eq_none_of_risingFrom {lo k : Nat} (hm : risingFrom lo m = true) (hk : k ≤ lo) : look m k = none := by
  induction m generalizing lo with
  | nil => rfl
  | cons e t ih =>
    simp only [risingFrom, Bool.and_eq_true, decide_eq_true_eq] at hm
    exact (if_neg (by omega)).trans (ih hm.2 (by omega))

/-- The first key of a rising table is the least key that it answers. -/
theorem head_le_of_rising {a k : Nat} {v w : α} {t : SMap α} (hm : rising ((a, v) :: t) = true) (h : look ((a, v) :: t) k = some w) :
    a ≤ k := by
  by_contra hk
  have hnone : look ((a, v) :: t) k = none := (if_neg (by omega)).trans (look_eq_none_of_risingFrom hm (by omega))
  rw [hnone] at h
  cases h

theorem look_head (a : Nat) (v : α) (t : SMap α) : look ((a, v) :: t) a = some v := if_pos rfl

/-- Rising tables that answer every key alike are equal. -/
theorem eq_of_rising (hm : rising m = true) (hm' : rising m' = true) (h : ∀ k, look m k = look m' k) : m = m' := by
  induction m generalizing m' with
  | nil =>
    cases m' with
    | nil => rfl
    | cons e' t' => exact nomatch (h e'.1).trans (look_head ..)
  | cons e t ih =>
    cases m' with
    | nil => exact nomatch (h e.1).symm.trans (look_head ..)
    | cons e' t' =>
      obtain ⟨a, v⟩ := e
      obtain ⟨a', v'⟩ := e'
      have ha := head_le_of_rising hm ((h a').trans (look_head ..))
      have ha' := head_le_of_rising hm' ((h a).symm.trans (look_head ..))
      obtain rfl := Nat.le_antisymm ha ha'
      obtain rfl : v = v' := Option.some.inj ((look_head ..).symm.trans ((h a).trans (look_head ..)))
      refine congrArg _ (ih (rising_of_risingFrom hm) (rising_of_risingFrom hm') fun k => ?_)
      by_cases hk : a = k
      · subst hk
        rw [look_eq_none_of_risingFrom hm le_rfl, look_eq_none_of_risingFrom hm' le_rfl]
      · have := h k
        rwa [look, look, if_neg hk, if_neg hk] at this

/-- What a table without defaults answers is not the default. -/
theorem ne_of_noDefault [DecidableEq α] {d v : α} {k : Nat} (hm : noDefault d m = true) (h : look m k = some v) : v ≠ d := by
  induction m with
  | nil => cases h
  | cons e t ih =>
    unfold noDefault at hm ih
    rw [List.all_cons, Bool.and_eq_true, decide_eq_true_eq] at hm
    rw [look] at h
    split at h
    · cases h
      exact hm.1
    · exact ih hm.2 h

/-- Tables in canonical form that read every key alike are equal. -/
theorem eq_of_canonical [DecidableEq α] {d : α} (hm : canonical d m = true) (hm' : canonical d m' = true)
    (h : ∀ k, get d m k = get d m' k) : m = m' := by
  unfold canonical at hm hm'
  rw [Bool.and_eq_true] at hm hm'
  refine eq_of_rising hm.1 hm'.1 fun k => ?_
  have hk := h k
  unfold get at hk
  cases hl : look m k <;> cases hl' : look m' k <;> rw [hl, hl'] at hk
  case none.some v => exact absurd hk.symm (ne_of_noDefault hm'.2 hl')
  case some.none v => exact absurd hk (ne_of_noDefault hm.2 hl)
  case some.some v w => exact congrArg some hk

end Rising

theorem eq_of_ramRead {m m' : List Host.Cell} (hm : Memory.wf m = true) (hm' : Memory.wf m' = true)
    (h : ∀ a, ramRead m a 1 = ramRead m' a 1) : m = m' :=
  eq_of_canonical hm hm' fun k => List.head_eq_of_cons_eq (h k)

/-! ### The canonical form of the mailboxes (R301) -/

theorem State.setMailbox_mailboxOf (s : State) (d e : Nat) (m : SMap Byte) :
    (s.setMailbox d m).mailboxOf e = if e = d then m else s.mailboxOf e := by
  unfold State.mailboxOf State.setMailbox
  split
  · subst e
    exact get_put_self ..
  · exact get_put_ne _ _ _ _ _ ‹_›

theorem State.mailboxOf_congr {s u : State} (h : u.bridge.mailbox = s.bridge.mailbox) (d : Nat) : u.mailboxOf d = s.mailboxOf d := by
  unfold State.mailboxOf
  rw [h]

theorem State.countDiscard_bridge (s : State) (c : LineCopy) : (s.countDiscard c).bridge = s.bridge := by
  unfold State.countDiscard
  split <;> rfl

/-- The counts of the lines that go leave the host interface. -/
theorem State.discardLines_bridge (s : State) (p : LineCopy → Bool) :
    (s.discardLines p).bridge = { s.bridge with lines := s.bridge.lines.filter (fun c => !p c) } := by
  unfold State.discardLines
  generalize s.bridge.lines.filter p = gone
  exact List.foldlRecOn (motive := fun (u : State) => u.bridge = { s.bridge with lines := s.bridge.lines.filter fun c => !p c }) gone _ rfl
    fun u hu c _ => (u.countDiscard_bridge c).trans hu

theorem State.dropLine_mailboxOf (s : State) (w a d : Nat) : (s.dropLine w a).mailboxOf d = s.mailboxOf d := by
  unfold State.dropLine
  exact State.mailboxOf_congr (by rw [State.discardLines_bridge]) d

theorem State.dropMailLine_mailboxOf (s : State) (e a d : Nat) : (s.dropMailLine e a).mailboxOf d = s.mailboxOf d := by
  unfold State.dropMailLine
  split
  · exact State.dropLine_mailboxOf ..
  · rfl

/-- Every die's mailbox is in canonical form. -/
def State.mailboxesWf (s : State) : Prop := ∀ d, Memory.wf (s.mailboxOf d) = true

theorem State.mailboxesWf.store {s : State} (h : s.mailboxesWf) (e a off : Nat) (b : Bytes) :
    ((s.dropMailLine e a).setMailbox e (ramWrite (s.mailboxOf e) off b)).mailboxesWf := by
  intro d
  rw [State.setMailbox_mailboxOf, State.dropMailLine_mailboxOf]
  split
  · exact Memory.wf_ramWrite _ _ _ (h e)
  · exact h d

theorem State.mailboxesWf.portAWrites {s : State} (h : s.mailboxesWf) (e : Nat) (a : List (Nat × Nat)) :
    (s.portAWrites e a).mailboxesWf :=
  List.foldlRecOn (motive := State.mailboxesWf) a _ h fun _ hu x _ => hu.store e x.1 (x.1 / 4 * 4) (leBytes 4 x.2)

theorem State.mailboxesWf.mailboxWrite {s : State} (h : s.mailboxesWf) (e off : Nat) (b : Bytes) (a : List (Nat × Nat)) :
    (s.mailboxWrite e off b a).mailboxesWf := by
  unfold State.mailboxWrite
  dsimp only
  split
  · exact h.portAWrites e a
  · exact (h.portAWrites e a).store e off off b

end Sys2Proof.Machine

open Sys2Proof Sys2Proof.Machine

/-- Settles O49, by the byte that a RAM holds after a write and by the one canonical form of its contents. -/
theorem ramContents : Obligations.RamContents :=
  ⟨fun m off b => ⟨ramRead_ramWrite m off b, fun _ _ => ramRead_ramWrite_outside m off b⟩, ramRead_nil,
    fun _ _ => eq_of_ramRead, fun _ e off b a h => State.mailboxesWf.mailboxWrite h e off b a⟩
end

section
/-! Proofs about the diagnosis (R446 to R448, R450, R451): Saddle loopback tests, lane tests, eye scans and voltage crossings. -/
namespace Sys2Proof.Machine
open Sys2Proof

/-- What a taken-up write of an integer leaves where its act does not touch the sessions: the answer, and beside it the act's state. -/
theorem State.MayWrite.runs_answered {s w : State} {who : Who} {x : Session} {idx sub v t : Nat} {i : Instr} {st : Status}
    (h : s.MayWrite who x idx sub v) (act : Session → State → Status × State) (hi : exec i s = cmdRow t who idx sub v act s)
    (ha : act x (s.heard t who idx sub) = (st, w)) (hw : w.access = (s.heard t who idx sub).access) :
    Runs i s fun u => u.answered who st ∧ Only w u [.access, .bridge] [] :=
  .intro (hi.trans (cmdRow_runs h t act ha)) ⟨h.toTakes.answered hw st, only_answer ..⟩

/-- The objects above the node-ID that run over subindexes stay above it. -/
theorem bySub_ne_nodeID_of_lt {m : Nat} (n : Nat) (h : O.nodeID < m) : bySub m n ≠ O.nodeID := by
  unfold bySub
  omega

/-! ### Saddle loopback tests (R451) -/

section Saddle

variable {s : State} {d p v t : Nat} {who : Who} {x : Session}

/-- The objects of the loopback test of link `k`. -/
def saddleTestKeys (k : Nat) : List Nat := [bySub O.saddleTestMode k, bySub O.saddleTestErrors k, bySub O.saddleFailingLanes k]

/-- The loopback test of link `k` has been given mode `v`; a mode other than 0 starts its counts. -/
def State.saddleTested (s : State) (k v : Nat) : State :=
  let u := { s.setN (bySub O.saddleTestMode k) v with diag := { s.diag with saddleTests := put 0 s.diag.saddleTests k v } }
  if v = 0 then u else (u.setN (bySub O.saddleTestErrors k) 0).setN (bySub O.saddleFailingLanes k) 0

theorem saddleTestAct_takes (x : Session) (h : s.saddle d p = linkFAILED ∨ s.saddle d p = linkUNTRAINED) :
    saddleTestAct d p v x s = (.ok, s.saddleTested (4 * d + p) v) := if_neg (by tauto)

theorem saddleTestAct_refuses (x : Session) (hf : s.saddle d p ≠ linkFAILED) (hu : s.saddle d p ≠ linkUNTRAINED) :
    saddleTestAct d p v x s = (.deviceState, s) := if_pos ⟨hf, hu⟩

theorem only_saddleTested (s : State) (k v : Nat) : Only s (s.saddleTested k v) [.diag] (saddleTestKeys k) := by
  have hu := ((Only.same s [.diag] (saddleTestKeys k)).obj (only_setN s (bySub O.saddleTestMode k) v) (by simp [saddleTestKeys])).setDiag
    { s.diag with saddleTests := put 0 s.diag.saddleTests k v } (by simp)
  exact .ite hu ((hu.obj (only_setN ..) (by simp [saddleTestKeys])).obj (only_setN ..) (by simp [saddleTestKeys]))

theorem State.saddleTested_mode (s : State) (k v : Nat) : (s.saddleTested k v).n (bySub O.saddleTestMode k) = v := by
  have hu (a : DiagSt) : State.n { s.setN (bySub O.saddleTestMode k) v with diag := a } (bySub O.saddleTestMode k) = v := State.setN_self ..
  unfold State.saddleTested
  dsimp only
  split
  · exact hu _
  · rw [State.setN_other _ _ _ _ (bySub_ne k (by decide)) (bySub_ne_nodeID_of_lt k (by decide)),
      State.setN_other _ _ _ _ (bySub_ne k (by decide)) (bySub_ne_nodeID_of_lt k (by decide)), hu]

theorem State.saddleTested_diag (s : State) (k v : Nat) :
    (s.saddleTested k v).diag = { s.diag with saddleTests := put 0 s.diag.saddleTests k v } := by
  unfold State.saddleTested
  dsimp only
  split <;> rfl

/-- A test of a link leaves the link's state. -/
theorem Only.saddle_eq {s u : State} {P : List Part} {k : Nat} (h : Only s u P (saddleTestKeys k)) (hk : k < 32) (d p : Nat) :
    u.saddle d p = s.saddle d p := by
  refine h.n_eq ?_ ?_ <;>
    simp only [saddleTestKeys, portKey, bySub, O.saddleLinkState, O.saddleTestMode, O.saddleTestErrors, O.saddleFailingLanes, O.nodeID,
      List.mem_cons, List.not_mem_nil, or_false] <;> omega

theorem State.heard_saddle (s : State) (t : Nat) (who : Who) (idx sub d p : Nat) : (s.heard t who idx sub).saddle d p = s.saddle d p :=
  State.heard_n ..

theorem saddleTestMode_takes (hd : d < 8) (hp : p < 4) (h : s.MayWrite who x 0x2E17 (1 + 4 * d + p) v)
    (hl : s.saddle d p = linkFAILED ∨ s.saddle d p = linkUNTRAINED) : Runs (.saddleTestMode t who d p v) s fun u => u.answered who .ok ∧
      u.n (bySub O.saddleTestMode (4 * d + p)) = v ∧ get 0 u.diag.saddleTests (4 * d + p) = v ∧ u.saddle d p = s.saddle d p ∧
      Only s u [.diag, .power, .access, .bridge] (saddleTestKeys (4 * d + p)) := by
  have ha := saddleTestAct_takes (s := s.heard t who 0x2E17 (1 + 4 * d + p)) (v := v) x (by simpa only [State.heard_saddle] using hl)
  refine (h.runs _ rfl ha (only_saddleTested ..) (by decide)).imp fun u ⟨hans, hu, hf⟩ => ⟨hans, ?_, ?_, hf.saddle_eq (by omega) d p, hf⟩
  · exact (hu.n_all _).trans (State.saddleTested_mode ..)
  · rw [show u.diag = _ from hu.rest .diag (by decide), State.saddleTested_diag]
    exact get_put_self ..

theorem saddleTestMode_refuses (h : s.MayWrite who x 0x2E17 (1 + 4 * d + p) v) (hf : s.saddle d p ≠ linkFAILED)
    (hu : s.saddle d p ≠ linkUNTRAINED) : Runs (.saddleTestMode t who d p v) s fun u => u.answered who .deviceState ∧
      u.saddle d p = s.saddle d p ∧ Only s u [.power, .access, .bridge] [] := by
  have ha := saddleTestAct_refuses (s := s.heard t who 0x2E17 (1 + 4 * d + p)) (v := v) x (by rwa [State.heard_saddle])
    (by rwa [State.heard_saddle])
  exact (h.runs_refused _ rfl ha).imp fun u ⟨hans, hf⟩ => ⟨hans, hf.n_all _, hf⟩

/-- While the loopback runs, a tick's counts join the link's. -/
theorem State.saddleCount_running {k : Nat} (h : get 0 s.diag.saddleTests k = 1) (errors failing : Nat) : s.saddleCount k errors failing =
    (s.addTo (bySub O.saddleTestErrors k) errors (2 ^ 64 - 1)).setN (bySub O.saddleFailingLanes k)
      (maskOf ((List.range 16).filter fun i => bit (s.n (bySub O.saddleFailingLanes k)) i || bit failing i)) := if_pos h

theorem only_saddleCount (s : State) (k errors failing : Nat) : Only s (s.saddleCount k errors failing) [] (saddleTestKeys k) :=
  .ite (((Only.same s _ _).obj (only_addTo ..) (by simp [saddleTestKeys])).obj (only_setN ..) (by simp [saddleTestKeys])) (.same ..)

theorem State.saddleCount_errors {k : Nat} (h : get 0 s.diag.saddleTests k = 1) (errors failing : Nat) :
    (s.saddleCount k errors failing).n (bySub O.saddleTestErrors k) = satN (2 ^ 64 - 1) (s.n (bySub O.saddleTestErrors k) + errors) := by
  rw [State.saddleCount_running h, State.setN_other _ _ _ _ (bySub_ne k (by decide)) (bySub_ne_nodeID_of_lt k (by decide))]
  exact State.setN_self ..

theorem State.saddleCount_failing {k i : Nat} (h : get 0 s.diag.saddleTests k = 1) (errors failing : Nat) (hi : i < 16)
    (hb : bit (s.n (bySub O.saddleFailingLanes k)) i = true ∨ bit failing i = true) :
    bit ((s.saddleCount k errors failing).n (bySub O.saddleFailingLanes k)) i = true := by
  rw [State.saddleCount_running h, State.setN_self, bit_maskOf, decide_eq_true_eq, List.mem_filter, List.mem_range]
  exact ⟨hi, (Bool.or_eq_true ..).mpr hb⟩

end Saddle

/-! ### Lane tests (R447, R448) -/

section Lane

variable {s : State} {t n v : Nat} {who : Who} {x : Session}

/-- A lane that may be tested: enabled, in Active, named by no plan, in no group, no slave port, not held and not under test (R447). -/
structure State.mayTest (s : State) (n : Nat) : Prop where
  unplanned : endpointIn s s.plan.active n = false
  noPending : s.plan.pending = []
  single : s.lagOf n = none
  noSlave : ∀ i < 4, s.slavePort i ≠ n
  enabled : s.laneOn n = true
  free : (s.lane n).heldBySummit = false
  active : s.power_ = pwACTIVE
  idle : (s.lane n).testMode = 0

/-- A request heard leaves every part of the state but the clock, the wires, the sessions and the record of traffic. -/
theorem State.heard_eq (s : State) (t : Nat) (who : Who) (idx sub : Nat) : s.heard t who idx sub =
    { s with now := s.localAt t, out := [], power := (s.heard t who idx sub).power, access := (s.heard t who idx sub).access } := by
  unfold State.heard State.touch State.updSession
  repeat' split
  all_goals rfl

theorem State.mayTest.heard (h : s.mayTest n) (t : Nat) (who : Who) (idx sub : Nat) : (s.heard t who idx sub).mayTest n := by
  obtain ⟨hplan, hpending, hsingle, hslave, hon, hfree, hactive, hidle⟩ := h
  rw [State.heard_eq]
  exact ⟨hplan, hpending, hsingle, hslave, hon, hfree, hactive, hidle⟩

/-- The counts of a lane's test. -/
def laneTestCounts (n : Nat) : List Nat :=
  [laneSub O.prbsBitsChecked n, laneSub O.prbsErrors n, laneSub O.testFramesChecked n, laneSub O.testFrameErrors n]

/-- The test of a lane has begun: the lane has left service, its counts are 0, and the objects show the mode and RUNNING. -/
def State.laneTested (s : State) (n v : Nat) : State :=
  let u := (s.loseSignal n).updLane n (fun l => { l with testMode := v })
  let u := { u with diag := { u.diag with testSince := ins u.diag.testSince n u.now } }
  ((u.clearAll (laneTestCounts n)).setN (laneSub O.laneTestMode n) v).setN (laneSub O.testStatus n) tsRUNNING

theorem laneTestStart_takes (x : Session) (h : s.mayTest n) : laneTestStart n v x s =
    (.ok, (s.laneTested n v).logEv (dieOfLane n) Ev.laneTest (epLane n) [(1, n), (1, v), (1, 0)]) := by
  have hslave : (List.range 4).any (fun i => s.slavePort i == n) = false := by
    rw [List.any_eq_false]
    exact fun i hi => by simpa using h.noSlave i (List.mem_range.mp hi)
  refine if_neg ?_
  simp [h.unplanned, h.noPending, h.single, hslave, h.enabled, h.free, h.active, h.idle]

theorem State.clearAll_lane (s : State) (ks : List Nat) (m : Nat) : (s.clearAll ks).lane m = s.lane m :=
  State.lane_congr ((only_clearAll s ks).rest .lanes (by decide)) m

theorem State.laneTested_lane (s : State) (n v : Nat) : ((s.laneTested n v).lane n).testMode = v := by
  unfold State.laneTested
  dsimp only
  rw [State.setN_lane, State.setN_lane, State.clearAll_lane]
  exact congrArg LaneSt.testMode ((s.loseSignal n).lane_updLane_self n fun l => { l with testMode := v })

theorem State.laneTested_status (s : State) (n v : Nat) : (s.laneTested n v).n (laneSub O.testStatus n) = tsRUNNING := State.setN_self ..

theorem State.laneTested_mode (s : State) (n v : Nat) : (s.laneTested n v).n (laneSub O.laneTestMode n) = v :=
  (State.setN_other _ _ _ _ (bySub_ne n (by decide)) (bySub_ne_nodeID_of_lt n (by decide))).trans (State.setN_self ..)

theorem laneTestStart_runs (hv : v ≠ 0) (h : s.MayWrite who x 0x2E10 (1 + n) v) (hl : s.mayTest n) :
    Runs (.laneTestStart t who n v) s fun u => u.answered who .ok ∧ (u.lane n).testMode = v ∧ u.n (laneSub O.laneTestMode n) = v ∧
      u.n (laneSub O.testStatus n) = tsRUNNING := by
  have ha := laneTestStart_takes (v := v) x (hl.heard t who 0x2E10 (1 + n))
  have hc := access_of_core (laneTestStart_core (R := 2098720) rfl n v x (s.heard t who 0x2E10 (1 + n))) rfl
  rw [ha] at hc
  have hi : exec (.laneTestStart t who n v) s = cmdRow t who 0x2E10 (1 + n) v (laneTestStart n v) s := by
    show execLaneTestStart t who n v s = _
    rw [execLaneTestStart, if_neg hv]
  refine (h.runs_answered _ hi ha hc).imp fun u ⟨hans, hu⟩ => ⟨hans, ?_, ?_, ?_⟩
  · rw [State.lane_congr (hu.rest .lanes (by decide)), State.lane_congr (State.logEv_lanes ..), State.laneTested_lane]
  · rw [hu.n_all, State.logEv_n, State.laneTested_mode]
  · rw [hu.n_all, State.logEv_n, State.laneTested_status]

/-- The test of a lane has ended: the lane retrains. -/
def State.laneUntested (s : State) (n : Nat) : State :=
  let u := (s.updLane n (fun l => { l with testMode := 0 })).setLink n lkLOCK false
  let u := { u with diag := { u.diag with testSince := del u.diag.testSince n } }
  (u.setN (laneSub O.laneTestMode n) 0).setN (laneSub O.testStatus n) tsOFF

theorem laneTestStop_ends (x : Session) (h : (s.lane n).testMode ≠ 0) : laneTestStop n x s =
    (.ok, (s.laneUntested n).logEv (dieOfLane n) Ev.laneTest (epLane n) [(1, n), (1, (s.lane n).testMode), (1, 1)]) := if_neg h

theorem only_laneUntested (s : State) (n : Nat) : Only s (s.laneUntested n) [.lanes, .diag]
    [laneSub O.laneTestMode n, laneSub O.testStatus n, laneKey O.linkStatus n] :=
  ((((Only.same s _ _).one (only_updLane s n fun l => { l with testMode := 0 }) (by simp)).obj (only_setLink ..) (by simp)).setDiag _
    (by simp)).obj (only_setN ..) (by simp) |>.obj (only_setN ..) (by simp)

theorem State.laneUntested_lane (s : State) (n : Nat) : ((s.laneUntested n).lane n).testMode = 0 := by
  unfold State.laneUntested
  exact congrArg LaneSt.testMode (s.lane_updLane_self n fun l => { l with testMode := 0 })

theorem State.laneUntested_status (s : State) (n : Nat) : (s.laneUntested n).n (laneSub O.testStatus n) = tsOFF := State.setN_self ..

theorem State.laneUntested_mode (s : State) (n : Nat) : (s.laneUntested n).n (laneSub O.laneTestMode n) = 0 :=
  (State.setN_other _ _ _ _ (bySub_ne n (by decide)) (bySub_ne_nodeID_of_lt n (by decide))).trans (State.setN_self ..)

theorem laneSub_ne_linkStatus {m : Nat} (hn : n < 64) (h : 0x224000 < m) : laneKey O.linkStatus n ≠ laneSub m n := by
  simp only [laneKey, byIdx, laneSub, bySub, O.linkStatus]
  omega

theorem State.laneUntested_link (s : State) (hn : n < 64) : (s.laneUntested n).link n lkLOCK = false := by
  unfold State.laneUntested
  dsimp only
  rw [State.setN_link _ _ _ (laneSub_ne_linkStatus hn (by decide)) (bySub_ne_nodeID_of_lt n (by decide)).symm,
    State.setN_link _ _ _ (laneSub_ne_linkStatus hn (by decide)) (bySub_ne_nodeID_of_lt n (by decide)).symm]
  exact State.setLink_link_self ..

theorem laneTestStop_runs (hn : n < 64) (h : s.MayWrite who x 0x2E10 (1 + n) 0) (hl : (s.lane n).testMode ≠ 0) :
    Runs (.laneTestStop t who n) s fun u => u.answered who .ok ∧ (u.lane n).testMode = 0 ∧ u.n (laneSub O.laneTestMode n) = 0 ∧
      u.n (laneSub O.testStatus n) = tsOFF ∧ u.link n lkLOCK = false ∧ Only s u [.lanes, .diag, .logs, .power, .access, .bridge]
        [laneSub O.laneTestMode n, laneSub O.testStatus n, laneKey O.linkStatus n] := by
  have hl' : ((s.heard t who 0x2E10 (1 + n)).lane n).testMode ≠ 0 := by rwa [State.lane_congr (State.heard_lanes ..)]
  have ha := laneTestStop_ends x hl'
  have hf := (only_laneUntested (s.heard t who 0x2E10 (1 + n)) n).trans
    (only_logEv _ (dieOfLane n) Ev.laneTest (epLane n) [(1, n), (1, ((s.heard t who 0x2E10 (1 + n)).lane n).testMode), (1, 1)])
  refine (h.runs (laneTestStop n) rfl ha hf (by decide)).imp fun u ⟨hans, hu, hu'⟩ => ⟨hans, ?_, ?_, ?_, ?_, ?_⟩
  · rw [State.lane_congr (hu.rest .lanes (by decide)), State.lane_congr (State.logEv_lanes ..), State.laneUntested_lane]
  · rw [hu.n_all, State.logEv_n, State.laneUntested_mode]
  · rw [hu.n_all, State.logEv_n, State.laneUntested_status]
  · rw [hu.link_eq (by simp) (by simp), State.logEv_link, State.laneUntested_link _ hn]
  · exact hu'.mono (by simp) (by simp)

/-- A lane's test status has been set. -/
theorem State.setN_testIs (s : State) (n v : Nat) : (s.setN (laneSub O.testStatus n) v).testIs n v = true := by
  unfold State.testIs
  rw [State.setN_self, beq_self_eq_true]

/-- A command that sets only a lane's test status. -/
theorem runs_testStatus {i : Instr} (hi : exec i s = .next ((s.begin t).setN (laneSub O.testStatus n) v)) :
    Runs i s fun u => u.testIs n v = true ∧ Only s u [] [laneSub O.testStatus n] :=
  .intro hi ⟨State.setN_testIs .., (only_setN ..).begin⟩

theorem prbsLock_locks (hm : checksPrbs (s.lane n).testMode = true) (h : s.testIs n tsRUNNING = true ∨ s.testIs n tsNOLOCK = true) :
    prbsLock n s = s.setN (laneSub O.testStatus n) tsLOCKED := if_pos (by rw [hm, Bool.true_and, Bool.or_eq_true]; exact h)

theorem noLock_due (hm : checksPrbs (s.lane n).testMode = true) (h : s.testIs n tsRUNNING = true)
    (ht : get 0 s.diag.testSince n + 10000000 ≤ s.now) : noLock n s = s.setN (laneSub O.testStatus n) tsNOLOCK :=
  if_pos (by rw [hm, h, decide_eq_true ht]; rfl)

theorem testFramesDone_done (hm : checksFrames (s.lane n).testMode = true) (h : s.testIs n tsRUNNING = true)
    (hc : s.n (laneSub O.testFrames n) ≠ 0) : testFramesDone n s = s.setN (laneSub O.testStatus n) tsDONE :=
  if_pos (by rw [hm, h, bne_iff_ne.mpr hc]; rfl)

/-! ### Eye scans (R450) -/

theorem eyeMeasure_starts (x : Session) (hn : n ∉ s.diag.eyes) (hl : s.link n lkLOCK = true) : eyeMeasureAct n x s =
    (.ok, { s with diag := { s.diag with eyes := s.diag.eyes ++ [n] } }.setN (laneSub O.eyeResult n) 0) :=
  if_neg (by simp [hn, hl])

theorem eyeMeasure_refuses (x : Session) (hn : n ∈ s.diag.eyes) : eyeMeasureAct n x s = (.deviceState, s) :=
  if_pos (.inl (List.contains_iff_mem.mpr hn))

theorem eyeMeasure_runs (h : s.MayWrite who x 0x2E15 (1 + n) 1) (hl : s.link n lkLOCK = true) (hn : n ∉ s.diag.eyes) :
    Runs (.eyeMeasure t who n) s fun u => u.answered who .ok ∧ n ∈ u.diag.eyes ∧ u.n (laneSub O.eyeResult n) = 0 ∧
      Only s u [.diag, .power, .access, .bridge] [laneSub O.eyeResult n] := by
  have hl' : (s.heard t who 0x2E15 (1 + n)).link n lkLOCK = true := by
    rw [(only_heard ..).link_eq (by simp) (by simp), hl]
  have ha := eyeMeasure_starts x (s := s.heard t who 0x2E15 (1 + n)) (by rwa [State.heard_diag]) hl'
  refine (h.runs _ rfl ha (((Only.same _ [.diag] _).setDiag _ (by simp)).obj (only_setN ..) (by simp)) (by decide)).imp
    fun u ⟨hans, hu, hf⟩ => ⟨hans, ?_, ?_, hf⟩
  · rw [show u.diag = _ from hu.rest .diag (by decide)]
    exact List.mem_append_right _ (List.mem_singleton.mpr rfl)
  · rw [hu.n_all, State.setN_self]

theorem eyeMeasure_runs_refused (h : s.MayWrite who x 0x2E15 (1 + n) 1) (hn : n ∈ s.diag.eyes) :
    Runs (.eyeMeasure t who n) s fun u => u.answered who .deviceState ∧ Only s u [.power, .access, .bridge] [] :=
  h.runs_refused _ rfl (eyeMeasure_refuses x (by rwa [State.heard_diag]))

theorem eyeDone_runs {height width : Nat} (hn : n ∈ s.diag.eyes) (hh : height < 65536) (hw : width < 65536) :
    Runs (.eyeScanDone t n height width) s fun u => n ∉ u.diag.eyes ∧ u.n (laneSub O.eyeResult n) = height * 65536 + width ∧
      Only s u [.diag] [laneSub O.eyeResult n] := by
  have he : eyeDone n height width (s.begin t) =
      { s.begin t with diag := { s.diag with eyes := s.diag.eyes.filter (fun x => x != n) } }.setN (laneSub O.eyeResult n)
        (height * 65536 + width) := by
    refine (if_pos (List.contains_iff_mem.mpr hn)).trans ?_
    rw [Nat.mod_eq_of_lt hh, Nat.mod_eq_of_lt hw]
    rfl
  refine .intro (congrArg Host.Outcome.next he) ⟨?_, State.setN_self .., ?_⟩
  · simp
  · exact ((Only.start ..).setDiag _ (by simp)).obj (only_setN ..) (by simp)

/-! ### Voltage crossings (R446) -/

theorem satN_lt {hi b v : Nat} (h : hi < b) : satN hi v < b := by
  unfold satN
  split <;> omega

/-- The low field of a word, after it is replaced by a value that fits. -/
theorem bits_setBits_low (v : Nat) {x w : Nat} (hx : x < 2 ^ w) : bits (setBits v 0 w x) 0 w = x := by
  unfold bits setBits bits
  rw [Nat.pow_zero, Nat.div_one, Nat.div_one, Nat.mul_one, Nat.mul_one, Nat.mod_eq_of_lt hx]
  have := Nat.div_add_mod v (2 ^ w)
  rw [show v - v % 2 ^ w = 2 ^ w * (v / 2 ^ w) by omega, Nat.mul_add_mod, Nat.mod_eq_of_lt hx]

/-- A crossing has been counted and flagged, before its log record. -/
def State.overVoltage (s : State) (d m : Nat) : State :=
  let k := bySub O.voltageExcursions (4 * d + m)
  (s.setN k (setBits (s.n k) 0 16 (satN 65535 (bits (s.n k) 0 16 + 1)))).setFlag (bySub O.monitorFlags d) (4 + m) true

theorem only_overVoltage (s : State) (d m : Nat) :
    Only s (s.overVoltage d m) [] [bySub O.voltageExcursions (4 * d + m), bySub O.monitorFlags d] :=
  (only_setN ..).trans (only_setFlag ..)

theorem monitorFlags_ne_excursions {d m : Nat} (hd : d < 8) (hm : m < 4) :
    bySub O.voltageExcursions (4 * d + m) ≠ bySub O.monitorFlags d := by
  simp only [bySub, O.voltageExcursions, O.monitorFlags]
  omega

theorem State.overVoltage_excursions (s : State) {d m : Nat} (hd : d < 8) (hm : m < 4) :
    bits ((s.overVoltage d m).n (bySub O.voltageExcursions (4 * d + m))) 0 16 =
      satN 65535 (bits (s.n (bySub O.voltageExcursions (4 * d + m))) 0 16 + 1) := by
  unfold State.overVoltage
  dsimp only
  rw [State.setFlag_other _ _ _ _ _ (monitorFlags_ne_excursions hd hm) (bySub_ne_nodeID_of_lt d (by decide)), State.setN_self,
    bits_setBits_low]
  exact satN_lt (by decide)

theorem State.overVoltage_flag (s : State) (d m : Nat) : bit ((s.overVoltage d m).n (bySub O.monitorFlags d)) (4 + m) = true := by
  unfold State.overVoltage
  rw [State.setFlag_self, bit_setBit_self]

/-- Past its count and its flag a crossing leaves only the time and the record of its log entry. -/
theorem voltageCross_counts {d m : Nat} (mv : Nat) (hm : m < 4) (hd : s.dieUp d = true) :
    Only (s.overVoltage d m) (voltageCross d m mv true s) [.diag, .logs] [] := by
  unfold voltageCross
  rw [if_neg (by simp [hd, hm])]
  exact .ite (.same ..) (((Only.same ..).setDiag _ (by simp)).one (only_logEv ..) (by simp))

theorem voltage_runs {d m : Nat} (mv : Nat) (hd8 : d < 8) (hm : m < 4) (hd : s.dieUp d = true) :
    Runs (.voltage t d m mv true) s fun u => bits (u.n (bySub O.voltageExcursions (4 * d + m))) 0 16 =
        satN 65535 (bits (s.n (bySub O.voltageExcursions (4 * d + m))) 0 16 + 1) ∧ bit (u.n (bySub O.monitorFlags d)) (4 + m) = true ∧
      Only s u [.diag, .logs] [bySub O.voltageExcursions (4 * d + m), bySub O.monitorFlags d] := by
  have hf := voltageCross_counts (s := s.begin t) mv hm hd
  refine .intro rfl ⟨?_, ?_, ?_⟩
  · rw [hf.n_all, State.overVoltage_excursions _ hd8 hm, State.begin_n]
  · rw [hf.n_all, State.overVoltage_flag]
  · exact hf.and (((only_overVoltage ..).begin).mono (by simp) (fun _ hk => hk)) (fun _ hp => hp) (by simp)

end Lane

end Sys2Proof.Machine

open Sys2Proof Sys2Proof.Machine

/-- Settles O24, by what a write of the test mode and the counts of a tick leave of a link. -/
theorem saddleTest : Obligations.SaddleTest :=
  ⟨fun _ _ _ _ _ _ _ hd hp h => ⟨saddleTestMode_takes hd hp h, saddleTestMode_refuses h⟩,
    fun _ _ _ errors failing hd hp h => ⟨State.saddleCount_errors h errors failing, (only_saddleCount ..).saddle_eq (by omega) _ _,
      fun _ hi hb => State.saddleCount_failing h errors failing hi hb⟩⟩

/-- Settles O25, command by command: each leaves one named state, read by the rules of the objects. -/
theorem laneTests : Obligations.LaneTests :=
  ⟨fun _ _ _ _ _ _ _ hv h h1 h2 h3 h4 h5 h6 h7 h8 => laneTestStart_runs hv h ⟨h1, h2, h3, h4, h5, h6, h7, h8⟩,
    fun _ _ _ _ _ hn h hl => laneTestStop_runs hn h hl,
    fun _ _ _ hm h => runs_testStatus (congrArg Host.Outcome.next (prbsLock_locks hm h)),
    fun s t _ hm h ht => runs_testStatus (congrArg Host.Outcome.next (noLock_due (s := s.begin t) hm h ht)),
    fun _ _ _ hm h hc => runs_testStatus (congrArg Host.Outcome.next (testFramesDone_done hm h hc)),
    fun _ _ _ _ _ h hl => ⟨eyeMeasure_runs h hl, eyeMeasure_runs_refused h⟩,
    fun _ _ _ _ _ hn hh hw => eyeDone_runs hn hh hw, fun _ _ _ _ mv hd8 hm hd => voltage_runs mv hd8 hm hd⟩
end

section
/-! Proofs about the edge units' shared parts: the objects of a unit, traffic, the gateway's extraction and the message RAM (R255,
R256, R271, R281, R389). -/
namespace Sys2Proof.Machine
open Sys2Proof

/-! ### The objects of a unit (R282 to R284) -/

theorem byIdx_not_mem {l : List Nat} {k : Nat} (c : Nat) (h : k ∉ l) : byIdx k c ∉ l.map (byIdx · c) := by
  rw [List.mem_map]
  rintro ⟨m, hm, he⟩
  exact h (Nat.add_right_cancel he ▸ hm)

/-- 2 is the subindex of the node-ID, which the defaults depend on. -/
theorem nodeID_not_mem_byIdx {l : List Nat} (c : Nat) (h : ∀ m ∈ l, m % 256 ≠ 2) : O.nodeID ∉ l.map (byIdx · c) := by
  rw [List.mem_map]
  rintro ⟨m, hm, he⟩
  exact byIdx_ne (Ne.symm (h m hm)) he

/-- Of the objects of one unit, the ones outside a frame read as before. -/
theorem Only.n_byIdx {s u : State} {P : List Part} {l : List Nat} {c k : Nat} (h : Only s u P (l.map (byIdx · c))) (hk : k ∉ l)
    (hid : ∀ m ∈ l, m % 256 ≠ 2) : u.n (byIdx k c) = s.n (byIdx k c) :=
  h.n_eq (byIdx_not_mem c hk) (nodeID_not_mem_byIdx c hid)

theorem State.setFlag_flag (s : State) (k i j : Nat) (b : Bool) : (s.setFlag k i b).flag k j = if j = i then b else s.flag k j := by
  unfold State.flag
  rw [State.setFlag_self, bit_setBit]

theorem Only.flag_eq {s u : State} {P : List Part} (h : Only s u P []) (k i : Nat) : u.flag k i = s.flag k i :=
  congrArg (bit · i) (h.n_all k)

/-! ### Traffic on a unit (R385, R389) -/

/-- A message on a unit whose wake does not forward is noted as valid traffic, and nothing else. -/
theorem State.trafficOn_plain {s : State} {e : Nat} (hf : s.power.forwardOn ≠ some e) (hu : s.unitForwards e = false) :
    s.trafficOn e = s.traffic := by
  have hu' : s.traffic.unitForwards e = false := hu
  have hf' : s.traffic.power.forwardOn ≠ some e := hf
  unfold State.trafficOn
  simp only [hu', Bool.false_eq_true, if_false]
  exact if_neg hf'

/-! ### The records of the units -/

@[simp] theorem State.setCan_canSt (s : State) (c : Nat) (x : CanSt) : (s.setCan c x).canSt c = x := get_put_self ..
@[simp] theorem State.setLin_linSt (s : State) (c : Nat) (x : LinSt) : (s.setLin c x).linSt c = x := get_put_self ..
@[simp] theorem State.setUart_uartSt (s : State) (c : Nat) (x : SerialSt) : (s.setUart c x).uartSt c = x := get_put_self ..
@[simp] theorem State.setT1s_t1sSt (s : State) (c : Nat) (x : SerialSt) : (s.setT1s c x).t1sSt c = x := get_put_self ..

theorem only_setCan (s : State) (c : Nat) (x : CanSt) : Only s (s.setCan c x) [.edge] [] := (Only.same s _ _).setEdge _ (by simp)
theorem only_setLin (s : State) (c : Nat) (x : LinSt) : Only s (s.setLin c x) [.edge] [] := (Only.same s _ _).setEdge _ (by simp)
theorem only_setUart (s : State) (c : Nat) (x : SerialSt) : Only s (s.setUart c x) [.edge] [] := (Only.same s _ _).setEdge _ (by simp)
theorem only_setT1s (s : State) (c : Nat) (x : SerialSt) : Only s (s.setT1s c x) [.edge] [] := (Only.same s _ _).setEdge _ (by simp)

theorem State.canSt_congr {s u : State} (h : u.edge = s.edge) (c : Nat) : u.canSt c = s.canSt c := by
  unfold State.canSt
  rw [h]

theorem State.linSt_congr {s u : State} (h : u.edge = s.edge) (c : Nat) : u.linSt c = s.linSt c := by
  unfold State.linSt
  rw [h]

theorem State.uartSt_congr {s u : State} (h : u.edge = s.edge) (c : Nat) : u.uartSt c = s.uartSt c := by
  unfold State.uartSt
  rw [h]

/-! ### The message RAM (R255, R256) -/

@[simp] theorem State.setEdgeRam_edgeRamOf (s : State) (w : Nat) (m : SMap Byte) : (s.setEdgeRam w m).edgeRamOf w = m := get_put_self ..

theorem State.edgeRamOf_congr {s u : State} (h : u.bridge = s.bridge) (w : Nat) : u.edgeRamOf w = s.edgeRamOf w := by
  unfold State.edgeRamOf
  rw [h]

theorem State.elemFlags_congr {s u : State} (h : u.bridge = s.bridge) (w o : Nat) : u.elemFlags w o = s.elemFlags w o := by
  unfold State.elemFlags
  rw [State.edgeRamOf_congr h]

theorem only_setEdgeRam (s : State) (w : Nat) (m : SMap Byte) : Only s (s.setEdgeRam w m) [.bridge] [] :=
  (Only.same s _ _).setBridge _ (by simp)

theorem only_writeElem (s : State) (w o id fmt extra af flags : Nat) (b : Bytes) :
    Only s (s.writeElem w o id fmt extra af flags b) [.bridge] [] := only_setEdgeRam ..

theorem only_elemSent (s : State) (w o : Nat) : Only s (s.elemSent w o) [.bridge] [] :=
  ((only_setEdgeRam ..).trans (only_setEdgeRam ..)).mono (by simp) (by simp)

/-! ### Extraction (R270, R271) -/

/-- Only the gateway's cells and its records of messages and mappings differ. -/
def Gathered (s u : State) : Prop :=
  ∃ (msgs : SMap MsgSt) (maps : SMap MapSt) (cells : SMap CellSt), u = { s with edge := { s.edge with msgs := msgs, maps := maps, cells := cells } }

namespace Gathered

variable {s u w : State}

theorem refl (s : State) : Gathered s s := ⟨_, _, _, rfl⟩

theorem trans (h : Gathered s u) (g : Gathered u w) : Gathered s w := by
  obtain ⟨_, _, _, rfl⟩ := h
  obtain ⟨_, _, _, rfl⟩ := g
  exact ⟨_, _, _, rfl⟩

theorem foldl {α : Type} {f : State → α → State} (hf : ∀ v a, Gathered v (f v a)) (s : State) (l : List α) : Gathered s (l.foldl f s) :=
  List.foldlRecOn (motive := Gathered s) l f (refl s) fun _ h a _ => h.trans (hf _ a)

theorem only (h : Gathered s u) : Only s u [.edge] [] := by
  obtain ⟨_, _, _, rfl⟩ := h
  exact (Only.same s _ _).setEdge _ (by simp)

theorem canSt (h : Gathered s u) (c : Nat) : u.canSt c = s.canSt c := by
  obtain ⟨_, _, _, rfl⟩ := h
  rfl

theorem linSt (h : Gathered s u) (c : Nat) : u.linSt c = s.linSt c := by
  obtain ⟨_, _, _, rfl⟩ := h
  rfl

theorem uartSt (h : Gathered s u) (c : Nat) : u.uartSt c = s.uartSt c := by
  obtain ⟨_, _, _, rfl⟩ := h
  rfl

theorem mvbData (h : Gathered s u) (d a : Nat) : u.mvbData d a = s.mvbData d a := by
  obtain ⟨_, _, _, rfl⟩ := h
  rfl

end Gathered

theorem State.setMsg_gathered (s : State) (m : Nat) (x : MsgSt) : Gathered s (s.setMsg m x) := ⟨_, _, _, rfl⟩

theorem State.setMap_gathered (s : State) (k : Nat) (x : MapSt) : Gathered s (s.setMap k x) := ⟨_, _, _, rfl⟩

theorem State.writeCell_gathered (s : State) (k value origin : Nat) (stale : Bool) : Gathered s (s.writeCell k value origin stale) := by
  unfold State.writeCell
  dsimp only
  split
  · exact (s.setMap_gathered ..).trans ⟨_, _, _, rfl⟩
  · exact ⟨_, _, _, rfl⟩

theorem State.extract_gathered (s : State) (m : Nat) (b : Bytes) (origin : Nat) : Gathered s (s.extract m b origin) := by
  unfold State.extract
  split
  · exact .refl s
  · refine (s.setMsg_gathered ..).trans (.foldl (fun v k => ?_) _ _)
    dsimp only
    split
    · exact .refl v
    · exact v.writeCell_gathered ..

end Sys2Proof.Machine
end

section
/-! Proofs about the CAN units (R255, R256, R258, R259). -/
namespace Sys2Proof.Machine
open Sys2Proof

variable {s : State} {c t : Nat}

/-! ### Error counters (R259) -/

theorem only_showErrors (s : State) (c : Nat) : Only s (s.showErrors c) [] [byIdx O.errorCounters c, byIdx O.canStatus c] :=
  ((only_setN ..).trans (only_setFlag ..)).trans (only_setFlag ..) |>.mono (by simp) (by simp)

theorem State.showErrors_edge (s : State) (c : Nat) : (s.showErrors c).edge = s.edge := rfl

theorem State.showErrors_counters (s : State) (c : Nat) :
    (s.showErrors c).n (byIdx O.errorCounters c) = 256 * satN 255 (s.canSt c).tec + satN 255 (s.canSt c).rec_ := by
  unfold State.showErrors
  dsimp only
  rw [State.setFlag_other _ _ _ _ _ (byIdx_ne_byIdx (by decide)) (byIdx_ne (by decide)),
    State.setFlag_other _ _ _ _ _ (byIdx_ne_byIdx (by decide)) (byIdx_ne (by decide)), State.setN_self]

/-- The error counters show only the warning and passive flags. -/
theorem State.showErrors_flag (s : State) (c : Nat) {i : Nat} (h : i ∉ [1, 2]) :
    (s.showErrors c).flag (byIdx O.canStatus c) i = s.flag (byIdx O.canStatus c) i := by
  simp only [List.mem_cons, List.not_mem_nil, or_false, not_or] at h
  unfold State.showErrors
  dsimp only
  rw [State.setFlag_flag, State.setFlag_flag, if_neg h.2, if_neg h.1]
  exact congrArg (bit · i) (State.setN_other _ _ _ _ (byIdx_ne_byIdx (by decide)) (byIdx_ne (by decide)))

/-! ### Received frames (R256, R258, R259, R271) -/

/-- A frame for a controller has been counted and has lowered its receive error counter. -/
def State.canHeard (s : State) (c : Nat) : State :=
  (((s.traffic.inc64 (byIdx O.canFramesReceived c)).setFlag (byIdx O.canStatus c) 3 true).setCan c
    { s.canSt c with rec_ := min 127 ((s.canSt c).rec_ - 1) }).showErrors c

/-- A frame delivered to the elements goes to the gateway and to the node. -/
def State.canShared (s : State) (c : Nat) (f : CanFrame) : State :=
  let u := (s.busIn (epCan c) fun r =>
    gmIdent r == f.id && bits (gmOptions r) 0 3 == f.fmt && (f.fmt != 4 || gmTopo r == f.af)).foldl
      (fun (v : State) m => v.extract m f.data v.gptpNs) s
  if u.nodeUnit = some c ∧ f.fmt ≤ 1 ∧ f.rtr = false then
    let u := if f.fmt = 0 then u.hearHeartbeat f.id else u
    if u.nodeHears (f.fmt == 1) f.id = true then u.emit (.message "canopen" f.id f.data) else u
  else u

theorem canReceive_takes {f : CanFrame} (hon : s.edgeOn (epCan c) = true) (hoff : s.canOff c = false) (hk : s.canKnows c f.fmt = true)
    (hf : s.power.forwardOn ≠ some (epCan c)) (hu : s.unitForwards (epCan c) = false) :
    canReceive c f s = ((s.canHeard c).canDeliver c f).canShared c f := by
  unfold canReceive
  simp only [hon, hoff, hk, State.trafficOn_plain hf hu, Bool.not_true, Bool.or_false, Bool.false_eq_true, if_false]
  rfl

/-- The objects that a received frame changes. -/
def canRxKeys (c : Nat) : List Nat :=
  [byIdx O.canFramesReceived c, byIdx O.canStatus c, byIdx O.errorCounters c, byIdx O.canOverruns c]

theorem only_canHeard (s : State) (c : Nat) : Only s (s.canHeard c) [.edge, .power] (canRxKeys c) :=
  ((((only_traffic s).trans (only_inc64 ..)).trans (only_setFlag ..)).trans (only_setCan ..)).trans (only_showErrors ..)
    |>.mono (by simp) (by simp [canRxKeys])

theorem State.canHeard_canSt (s : State) (c : Nat) : (s.canHeard c).canSt c = { s.canSt c with rec_ := min 127 ((s.canSt c).rec_ - 1) } :=
  (State.canSt_congr (State.showErrors_edge ..) c).trans (State.setCan_canSt ..)

theorem State.canHeard_received (s : State) (c : Nat) :
    (s.canHeard c).n (byIdx O.canFramesReceived c) = satN (2 ^ 64 - 1) (s.n (byIdx O.canFramesReceived c) + 1) := by
  have hf := ((only_setFlag (s.traffic.inc64 (byIdx O.canFramesReceived c)) (byIdx O.canStatus c) 3 true).trans (only_setCan _ c
    { s.canSt c with rec_ := min 127 ((s.canSt c).rec_ - 1) })).trans (only_showErrors _ c)
  exact (hf.n_byIdx (l := [O.canStatus, O.errorCounters, O.canStatus]) (by decide) (by decide)).trans (State.inc64_self ..)

theorem State.canHeard_active (s : State) (c : Nat) : (s.canHeard c).flag (byIdx O.canStatus c) 3 = true :=
  (State.showErrors_flag _ c (by decide)).trans (((only_setCan ..).flag_eq ..).trans ((State.setFlag_flag ..).trans (if_pos rfl)))

/-- A delivery keeps the error counters and fills elements of the message RAM. -/
theorem only_canDeliver (s : State) (c : Nat) (f : CanFrame) : Only s (s.canDeliver c f) [.edge, .bridge] [byIdx O.canOverruns c] := by
  unfold State.canDeliver
  dsimp only
  split
  · exact (only_writeElem ..).mono (by simp) (by simp)
  · split
    · exact .same ..
    · exact .ite ((Only.same ..).obj (only_inc32 ..) (by simp))
        (((Only.same ..).one (only_writeElem ..) (by simp)).one (only_setCan ..) (by simp))

theorem State.canStore_canSt (s : State) (c o flags : Nat) (f : CanFrame) : (s.canStore c o flags f).canSt c = s.canSt c :=
  State.canSt_congr ((only_writeElem ..).rest .edge (by decide)) c

theorem State.canDeliver_errors (s : State) (c : Nat) (f : CanFrame) :
    ((s.canDeliver c f).canSt c).rec_ = (s.canSt c).rec_ ∧ ((s.canDeliver c f).canSt c).tec = (s.canSt c).tec := by
  unfold State.canDeliver
  dsimp only
  split
  · rw [State.canStore_canSt]
    exact ⟨rfl, rfl⟩
  · split
    · exact ⟨rfl, rfl⟩
    · split <;> split
      · exact ⟨rfl, rfl⟩
      · rw [State.setCan_canSt]
        exact ⟨rfl, rfl⟩
      · exact ⟨rfl, rfl⟩
      · rw [State.setCan_canSt]
        exact ⟨rfl, rfl⟩

/-- The lowest receive buffer that matches takes the frame. -/
theorem State.canDeliver_buffer {f : CanFrame} {i : Nat} (h : ((List.range 64).find? fun i => (bufEntry (s.bufferCfg c) i).1 == 2 &&
    canMatch f.id (bufEntry (s.bufferCfg c) i).2.1 (bufEntry (s.bufferCfg c) i).2.2) = some i) :
    s.canDeliver c f = s.canStore c (s.bufferOff c i) (4 + 8 * b2n (bit (s.elemFlags (canCluster c) (s.bufferOff c i)) efRxNew)) f := by
  unfold State.canDeliver
  dsimp only
  rw [h]

theorem State.hearHeartbeat_canSt (s : State) (id : Nat) : (s.hearHeartbeat id).canSt c = s.canSt c := rfl

theorem only_hearHeartbeat (s : State) (id : Nat) : Only s (s.hearHeartbeat id) [.edge] [] := (Only.same s _ _).setEdge _ (by simp)

theorem State.canGathered (s : State) (l : List Nat) (b : Bytes) :
    Gathered s (l.foldl (fun (v : State) m => v.extract m b v.gptpNs) s) := .foldl (fun v m => v.extract_gathered m b v.gptpNs) s l

theorem only_canShared (s : State) (c : Nat) (f : CanFrame) : Only s (s.canShared c f) [.edge] [] := by
  have hg := (s.canGathered (s.busIn (epCan c) fun r =>
    gmIdent r == f.id && bits (gmOptions r) 0 3 == f.fmt && (f.fmt != 4 || gmTopo r == f.af)) f.data).only
  have hh := Only.ite (c := f.fmt = 0) (hg.one (only_hearHeartbeat _ f.id) (by simp)) hg
  exact .ite (.ite (hh.none (only_emit ..)) hh) hg

theorem State.canShared_canSt (s : State) (c : Nat) (f : CanFrame) : (s.canShared c f).canSt c = s.canSt c := by
  have hg := (s.canGathered (s.busIn (epCan c) fun r =>
    gmIdent r == f.id && bits (gmOptions r) 0 3 == f.fmt && (f.fmt != 4 || gmTopo r == f.af)) f.data).canSt c
  unfold State.canShared
  dsimp only
  repeat' split
  all_goals exact hg

/-! What counts a frame leaves the places of the elements, and what a store writes there. -/

theorem State.canHeard_dataFieldSize (s : State) (c : Nat) :
    (s.canHeard c).n (byIdx O.dataFieldSize c) = s.n (byIdx O.dataFieldSize c) :=
  (only_canHeard s c).n_byIdx (l := [O.canFramesReceived, O.canStatus, O.errorCounters, O.canOverruns]) (by decide) (by decide)

theorem State.canHeard_bufferCfg (s : State) (c : Nat) : (s.canHeard c).bufferCfg c = s.bufferCfg c :=
  (only_canHeard s c).blob_eq (by decide) _

theorem State.canHeard_bufferOff (s : State) (c i : Nat) : (s.canHeard c).bufferOff c i = s.bufferOff c i := by
  unfold State.bufferOff State.canElem
  rw [State.canHeard_dataFieldSize, State.canHeard_bufferCfg]

theorem State.writeElem_bridge {s u : State} (hb : u.bridge = s.bridge) (hn : u.now = s.now) (ht : u.time = s.time)
    (w o id fmt extra af flags : Nat) (b : Bytes) : (u.writeElem w o id fmt extra af flags b).bridge = (s.writeElem w o id fmt extra af flags b).bridge := by
  have hg : u.gptpNs = s.gptpNs := congrArg₂ (fun (x : TimeSt) (n : Nat) => (get ({} : InstSt) x.inst 0).at n) ht hn
  unfold State.writeElem State.setEdgeRam
  rw [State.edgeRamOf_congr hb, hg, hb]

theorem State.canHeard_now (s : State) (c : Nat) : (s.canHeard c).now = s.now := by
  have hshow (u : State) : (u.showErrors c).now = u.now := rfl
  have hset (u : State) (x : CanSt) : (u.setCan c x).now = u.now := rfl
  unfold State.canHeard
  rw [hshow, hset, State.setFlag_now, State.inc64_now, State.traffic_now]

theorem State.canHeard_store (s : State) (c o flags : Nat) (f : CanFrame) :
    ((s.canHeard c).canStore c o flags f).bridge = (s.canStore c o flags f).bridge := by
  have hb : (s.canHeard c).bridge = s.bridge := (only_canHeard s c).rest .bridge (by decide)
  have ht : (s.canHeard c).time = s.time := (only_canHeard s c).rest .time (by decide)
  have hn := s.canHeard_now c
  unfold State.canStore
  rw [State.canHeard_dataFieldSize, State.writeElem_bridge hb hn ht]

theorem State.canHeard_buffer {f : CanFrame} {i : Nat} (h : ((List.range 64).find? fun i => (bufEntry (s.bufferCfg c) i).1 == 2 &&
    canMatch f.id (bufEntry (s.bufferCfg c) i).2.1 (bufEntry (s.bufferCfg c) i).2.2) = some i) :
    ((s.canHeard c).canDeliver c f).bridge =
      (s.canStore c (s.bufferOff c i) (4 + 8 * b2n (bit (s.elemFlags (canCluster c) (s.bufferOff c i)) efRxNew)) f).bridge := by
  rw [State.canDeliver_buffer (by rwa [State.canHeard_bufferCfg]), State.canHeard_bufferOff, State.canHeard_store,
    State.elemFlags_congr ((only_canHeard s c).rest .bridge (by decide))]

theorem canFrameReceive_runs {f : CanFrame} (hon : s.edgeOn (epCan c) = true) (hoff : s.canOff c = false)
    (hk : s.canKnows c f.fmt = true) (hf : s.power.forwardOn ≠ some (epCan c)) (hu : s.unitForwards (epCan c) = false) :
    Runs (.canFrameReceive t c f) s fun u => u.n (byIdx O.canFramesReceived c) = satN (2 ^ 64 - 1) (s.n (byIdx O.canFramesReceived c) + 1) ∧
      u.flag (byIdx O.canStatus c) 3 = true ∧ (u.canSt c).rec_ = min 127 ((s.canSt c).rec_ - 1) ∧ (u.canSt c).tec = (s.canSt c).tec ∧
      (∀ i, ((List.range 64).find? fun i => (bufEntry (s.bufferCfg c) i).1 == 2 &&
          canMatch f.id (bufEntry (s.bufferCfg c) i).2.1 (bufEntry (s.bufferCfg c) i).2.2) = some i →
        u.bridge = ((s.begin t).canStore c (s.bufferOff c i) (4 + 8 * b2n (bit (s.elemFlags (canCluster c) (s.bufferOff c i)) efRxNew)) f).bridge) ∧
      Only s u [.edge, .bridge, .power] (canRxKeys c) := by
  have hdel := only_canDeliver ((s.begin t).canHeard c) c f
  have hsh := only_canShared (((s.begin t).canHeard c).canDeliver c f) c f
  have hbeside := hdel.trans hsh
  obtain ⟨hrec, htec⟩ := ((s.begin t).canHeard c).canDeliver_errors c f
  refine .intro (congrArg Host.Outcome.next (canReceive_takes (s := s.begin t) hon hoff hk hf hu)) ⟨?_, ?_, ?_, ?_, fun i hi => ?_, ?_⟩
  · rw [hbeside.n_byIdx (l := [O.canOverruns]) (by decide) (by decide), State.canHeard_received, State.begin_n]
  · rw [State.flag, hbeside.n_byIdx (l := [O.canOverruns]) (by decide) (by decide)]
    exact State.canHeard_active ..
  · rw [State.canShared_canSt, hrec, State.canHeard_canSt]
    rfl
  · rw [State.canShared_canSt, htec, State.canHeard_canSt]
    rfl
  · rw [show State.bridge _ = _ from hsh.rest .bridge (by decide)]
    exact State.canHeard_buffer (s := s.begin t) hi
  · exact (((only_canHeard (s.begin t) c).trans hbeside).begin).mono (by simp) (by simp [canRxKeys])

/-! ### Transmissions (R256, R258) -/

/-- The frame that a transmit element at an offset of a cluster's message RAM holds, of at most `size` bytes. -/
def State.elemFrame (s : State) (w o size : Nat) : CanFrame :=
  let h := ramRead (s.edgeRamOf w) o 24
  let fb := fld h 4 1
  { fmt := bits fb 0 3, id := fld h 0 4, brs := bit fb 3, esi := bit fb 4, rtr := bit fb 5, sdt := fld h 5 1, af := fld h 8 4,
    data := s.elemData w o size }

/-- TX_REQUEST has been set on an element, and its TX_DONE cleared. -/
def State.elemAsked (s : State) (w o : Nat) : State := s.setElemFlags w o (setBit (setBit (s.elemFlags w o) efTxRequest true) efTxDone false)

theorem edgeTxRequest_buffer {w o i : Nat} (ho : o < 0x8000) (hon : s.edgeOn (epCan (2 * w + o / 0x4000)) = true)
    (hi : ((List.range 64).find? fun i => (bufEntry (s.bufferCfg (2 * w + o / 0x4000)) i).1 == 1 &&
      s.bufferOff (2 * w + o / 0x4000) i == o) = some i) :
    edgeTxRequest w o s = (s.elemAsked w o).canQueue (2 * w + o / 0x4000) ⟨2, i, (s.elemAsked w o).elemFrame w o
      (canDataSize ((s.elemAsked w o).n (byIdx O.dataFieldSize (2 * w + o / 0x4000))))⟩ := by
  unfold edgeTxRequest
  simp only [ho, if_true, hi, hon, Bool.not_true, Bool.false_eq_true, if_false]
  rfl

theorem State.canQueue_last (s : State) (c : Nat) (x : CanTx) : ((s.canQueue c x).canSt c).pending.getLast? = some x := by
  unfold State.canQueue
  rw [State.setCan_canSt]
  exact List.getLast?_concat ..

theorem edgeTxRequest_runs {w o i : Nat} (ho : o < 0x8000) (hon : s.edgeOn (epCan (2 * w + o / 0x4000)) = true)
    (hi : ((List.range 64).find? fun i => (bufEntry (s.bufferCfg (2 * w + o / 0x4000)) i).1 == 1 &&
      s.bufferOff (2 * w + o / 0x4000) i == o) = some i) :
    Runs (.edgeTxRequest t w o) s fun u => u.edgeRamOf w = ramWrite (s.edgeRamOf w) (o + 0x0C)
        (leBytes 2 (setBit (setBit (s.elemFlags w o) efTxRequest true) efTxDone false)) ∧
      (∃ x, (u.canSt (2 * w + o / 0x4000)).pending.getLast? = some x ∧ x.owner = 2 ∧ x.num = i ∧
        x.frame.id = fld (ramRead (u.edgeRamOf w) o 24) 0 4) ∧
      Only s u [.edge, .bridge] [] := by
  refine .intro (congrArg Host.Outcome.next (edgeTxRequest_buffer (s := s.begin t) ho hon hi)) ⟨?_, ⟨_, State.canQueue_last .., rfl, rfl, rfl⟩, ?_⟩
  · exact (s.begin t).setEdgeRam_edgeRamOf ..
  · exact ((Only.start t s _ _).one (only_setEdgeRam ..) (by simp)).one (only_setCan ..) (by simp)

/-- The frame offered first has left the pending ones, and has been counted. -/
def State.canSent (s : State) (c : Nat) (x : CanTx) : State :=
  ((s.setCan c { s.canSt c with pending := (s.canSt c).pending.erase x, tec := (s.canSt c).tec - 1 }).inc64
    (byIdx O.canFramesTransmitted c)).showErrors c

theorem canTransmitDone_sends {x : CanTx} (hs : s.canMaySend c = true) (hx : s.canOffer c = some x) : ∃ o,
    canTransmitDone c s = if x.owner = 2 then ((s.canSent c x).emit o).elemSent (canCluster c) (((s.canSent c x).emit o).bufferOff c x.num)
      else (s.canSent c x).emit o := by
  unfold canTransmitDone
  simp only [hs, hx, Bool.not_true, Bool.false_eq_true, if_false]
  exact ⟨_, rfl⟩

theorem only_canSent (s : State) (c : Nat) (x : CanTx) :
    Only s (s.canSent c x) [.edge] [byIdx O.canFramesTransmitted c, byIdx O.errorCounters c, byIdx O.canStatus c] :=
  ((only_setCan ..).trans (only_inc64 ..)).trans (only_showErrors ..) |>.mono (by simp) (by simp)

theorem State.canSent_counters (s : State) (c : Nat) (x : CanTx) : (s.canSent c x).n (byIdx O.errorCounters c) =
    256 * satN 255 ((s.canSt c).tec - 1) + satN 255 (s.canSt c).rec_ := by
  refine (State.showErrors_counters _ c).trans ?_
  rw [State.canSt_congr (State.inc64_edge ..), State.setCan_canSt]

theorem State.canSent_transmitted (s : State) (c : Nat) (x : CanTx) : (s.canSent c x).n (byIdx O.canFramesTransmitted c) =
    satN (2 ^ 64 - 1) (s.n (byIdx O.canFramesTransmitted c) + 1) :=
  ((only_showErrors ..).n_byIdx (l := [O.errorCounters, O.canStatus]) (by decide) (by decide)).trans
    ((State.inc64_self ..).trans (by rw [(only_setCan ..).n_all]))

theorem canTransmitDone_runs {x : CanTx} (hs : s.canMaySend c = true) (hx : s.canOffer c = some x) :
    Runs (.canTransmitDone t c) s fun u =>
      u.canSt c = { s.canSt c with pending := (s.canSt c).pending.erase x, tec := (s.canSt c).tec - 1 } ∧
      u.n (byIdx O.canFramesTransmitted c) = satN (2 ^ 64 - 1) (s.n (byIdx O.canFramesTransmitted c) + 1) ∧
      u.n (byIdx O.errorCounters c) = 256 * satN 255 ((s.canSt c).tec - 1) + satN 255 (s.canSt c).rec_ ∧
      (x.owner ≠ 2 → u.bridge = s.bridge) ∧
      Only s u [.edge, .bridge] [byIdx O.canFramesTransmitted c, byIdx O.errorCounters c, byIdx O.canStatus c] := by
  obtain ⟨o, ho⟩ := canTransmitDone_sends (s := s.begin t) hs hx
  have hsent := only_canSent (s.begin t) c x
  have hend : Only ((s.begin t).canSent c x) (canTransmitDone c (s.begin t)) [.bridge] [] := by
    rw [ho]
    exact .ite ((only_emit ..).trans (only_elemSent ..)) ((only_emit ..).mono (by simp) (by simp))
  refine .intro rfl ⟨?_, ?_, ?_, fun hown => ?_, (hsent.trans hend).begin.mono (by simp) (by simp)⟩
  · rw [State.canSt_congr (hend.rest .edge (by decide))]
    exact State.setCan_canSt ..
  · rw [hend.n_all, State.canSent_transmitted, State.begin_n]
  · rw [hend.n_all, State.canSent_counters]
    rfl
  · rw [ho, if_neg hown]
    rfl

/-! ### Bus errors and bus-off (R259) -/

theorem canBusError_counts {tx : Bool} (hon : s.edgeOn (epCan c) = true) (hoff : s.canOff c = false)
    (hl : bit (s.n (byIdx O.canOptions c)) 0 = false) (hr : bit (s.n (byIdx O.canOptions c)) 3 = false) :
    canBusError c tx false s = ((s.setCan c { s.canSt c with tec := (s.canSt c).tec + 8 * b2n tx, rec_ := (s.canSt c).rec_ + (1 - b2n tx) }).inc32
      (byIdx O.busErrors c)).showErrors c := by
  have hopt (x : CanSt) : (((s.setCan c x).inc32 (byIdx O.busErrors c)).showErrors c).n (byIdx O.canOptions c) = s.n (byIdx O.canOptions c) :=
    (((only_setCan ..).trans (only_inc32 ..)).trans (only_showErrors ..)).n_byIdx (l := [O.busErrors, O.errorCounters, O.canStatus])
      (by decide) (by decide)
  unfold canBusError
  cases tx <;> simp [hon, hoff, hl, hopt, hr, b2n]

theorem canBusError_runs {tx : Bool} (hon : s.edgeOn (epCan c) = true) (hoff : s.canOff c = false)
    (hl : bit (s.n (byIdx O.canOptions c)) 0 = false) (hr : bit (s.n (byIdx O.canOptions c)) 3 = false) :
    Runs (.canBusError t c tx false) s fun u =>
      u.canSt c = { s.canSt c with tec := (s.canSt c).tec + 8 * b2n tx, rec_ := (s.canSt c).rec_ + (1 - b2n tx) } ∧
      u.n (byIdx O.busErrors c) = satN (2 ^ 32 - 1) (s.n (byIdx O.busErrors c) + 1) ∧
      Only s u [.edge] [byIdx O.busErrors c, byIdx O.errorCounters c, byIdx O.canStatus c] := by
  refine .intro (congrArg Host.Outcome.next (canBusError_counts (s := s.begin t) hon hoff hl hr)) ⟨?_, ?_, ?_⟩
  · exact (State.canSt_congr (State.showErrors_edge ..) c).trans (State.setCan_canSt ..)
  · rw [(only_showErrors ..).n_byIdx (l := [O.errorCounters, O.canStatus]) (by decide) (by decide), State.inc32_self,
      (only_setCan ..).n_all, State.begin_n]
  · exact (((only_setCan ..).trans (only_inc32 ..)).trans (only_showErrors ..)).begin.mono (by simp) (by simp)

theorem busOff_enters (hon : s.edgeOn (epCan c) = true) (hoff : s.canOff c = false) (hx : 256 ≤ (s.canSt c).tec) :
    busOff c s = ((s.setFlag (byIdx O.canStatus c) 0 true).inc32 (byIdx O.busOffEvents c)).setCan c
      { s.canSt c with recovering := bit (((s.setFlag (byIdx O.canStatus c) 0 true).inc32 (byIdx O.busOffEvents c)).n (byIdx O.canOptions c)) 1 } :=
  if_pos (by rw [hon, hoff, decide_eq_true hx]; rfl)

theorem busOff_runs (hon : s.edgeOn (epCan c) = true) (hoff : s.canOff c = false) (hx : 256 ≤ (s.canSt c).tec) :
    Runs (.busOff t c) s fun u => u.canOff c = true ∧ u.n (byIdx O.busOffEvents c) = satN (2 ^ 32 - 1) (s.n (byIdx O.busOffEvents c) + 1) ∧
      u.canSt c = { s.canSt c with recovering := bit (s.n (byIdx O.canOptions c)) 1 } ∧
      Only s u [.edge] [byIdx O.canStatus c, byIdx O.busOffEvents c] := by
  have hflag := only_setFlag (s.begin t) (byIdx O.canStatus c) 0 true
  have hcount := only_inc32 ((s.begin t).setFlag (byIdx O.canStatus c) 0 true) (byIdx O.busOffEvents c)
  refine .intro (congrArg Host.Outcome.next (busOff_enters (s := s.begin t) hon hoff hx)) ⟨?_, ?_, ?_, ?_⟩
  · refine (congrArg (bit · 0) (((hcount.trans (only_setCan ..)).n_byIdx (l := [O.busOffEvents]) (by decide) (by decide)))).trans ?_
    exact (State.setFlag_flag ..).trans (if_pos rfl)
  · rw [(only_setCan ..).n_all, State.inc32_self, hflag.n_byIdx (l := [O.canStatus]) (by decide) (by decide), State.begin_n]
  · rw [State.setCan_canSt, (hflag.trans hcount).n_byIdx (l := [O.canStatus, O.busOffEvents]) (by decide) (by decide), State.begin_n]
    rfl
  · exact ((hflag.trans hcount).trans (only_setCan ..)).begin.mono (by simp) (by simp)

theorem busOffRecovery_starts (x : Session) (hoff : s.canOff c = true) :
    busOffRecovery c x s = (.ok, s.setCan c { s.canSt c with recovering := true }) := if_pos hoff

theorem busOffRecovery_runs {who : Who} {x : Session} (h : s.MayWrite who x (0x2800 + c) 0x11 1) (hoff : s.canOff c = true) :
    Runs (.busOffRecovery t who c) s fun u => u.answered who .ok ∧ u.canSt c = { s.canSt c with recovering := true } ∧
      Only s u [.edge, .access, .bridge, .power] [] := by
  have hoff' : (s.heard t who (0x2800 + c) 0x11).canOff c = true := ((only_heard ..).flag_eq _ 0).trans hoff
  refine (h.runs _ rfl (busOffRecovery_starts x hoff') (only_setCan ..) (by decide)).imp fun u ⟨hans, hu, hf⟩ =>
    ⟨hans, ?_, hf.mono (by simp) (fun _ hk => hk)⟩
  rw [State.canSt_congr (hu.rest .edge (by decide)), State.setCan_canSt, State.canSt_congr (State.heard_edge ..)]

theorem busOffRecovered_ends (hon : s.edgeOn (epCan c) = true) (hoff : s.canOff c = true) (hx : (s.canSt c).recovering = true) :
    busOffRecovered c s = ((s.setFlag (byIdx O.canStatus c) 0 false).setCan c
      { s.canSt c with tec := 0, rec_ := 0, recovering := false }).showErrors c :=
  if_pos (by rw [hon, hoff, hx]; rfl)

theorem busOffRecovered_runs (hon : s.edgeOn (epCan c) = true) (hoff : s.canOff c = true) (hx : (s.canSt c).recovering = true) :
    Runs (.busOffRecovered t c) s fun u => u.canOff c = false ∧ u.canSt c = { s.canSt c with tec := 0, rec_ := 0, recovering := false } ∧
      u.n (byIdx O.errorCounters c) = 0 ∧ Only s u [.edge] [byIdx O.canStatus c, byIdx O.errorCounters c] := by
  refine .intro (congrArg Host.Outcome.next (busOffRecovered_ends (s := s.begin t) hon hoff hx)) ⟨?_, ?_, ?_, ?_⟩
  · exact (State.showErrors_flag _ c (by decide)).trans (((only_setCan ..).flag_eq ..).trans ((State.setFlag_flag ..).trans (if_pos rfl)))
  · exact (State.canSt_congr (State.showErrors_edge ..) c).trans (State.setCan_canSt ..)
  · rw [State.showErrors_counters, State.setCan_canSt]
    rfl
  · exact (((only_setFlag ..).trans (only_setCan ..)).trans (only_showErrors ..)).begin.mono (by simp) (by simp)

end Sys2Proof.Machine

open Sys2Proof Sys2Proof.Machine

/-- Settles O26, command by command: each leaves one named state, read by the rules of the error counters and of the elements. -/
theorem canUnits : Obligations.CanUnits :=
  ⟨fun _ _ _ _ hon hoff hk hf hu => canFrameReceive_runs hon hoff hk hf hu, fun _ _ _ _ _ ho hon hi => edgeTxRequest_runs ho hon hi,
    fun _ _ _ _ hs hx => canTransmitDone_runs hs hx, fun _ _ _ _ hon hoff hl hr => canBusError_runs hon hoff hl hr,
    fun _ _ _ hon hoff hx => busOff_runs hon hoff hx, fun _ _ _ _ _ _ h hoff => busOffRecovery_runs h hoff,
    fun _ _ _ hon hoff hx => busOffRecovered_runs hon hoff hx⟩
end

section
/-! Proofs about the LIN, UART and 10BASE-T1S units (R255, R256, R260, R261, R263). -/
namespace Sys2Proof.Machine
open Sys2Proof

variable {s : State} {u t : Nat}

/-! ### Headers on a LIN bus (R260) -/

theorem State.linAnswer_congr {s v : State} (hx : (v.linSt u).slots = (s.linSt u).slots) (hb : v.bridge = s.bridge) (id : Nat) :
    v.linAnswer u id = s.linAnswer u id := by
  have hr := State.edgeRamOf_congr hb u
  have he : v.linElem u id = s.linElem u id := by
    unfold State.linElem
    simp only [State.elemFlags_congr hb, hr]
  unfold State.linAnswer State.elemData
  rw [hx, he, hr]

theorem only_linHeader (s : State) (u id : Nat) : Only s (s.linHeader u id) [.edge] [] := by
  unfold State.linHeader
  dsimp only
  split
  · exact ((only_setLin ..).trans (only_emit ..)).mono (by simp) (by simp)
  · exact only_setLin ..

theorem State.linHeader_awaits {id : Nat} (h : s.linAnswer u id = none) :
    s.linHeader u id = s.setLin u { s.linSt u with header := some id, sending := none } := by
  unfold State.linHeader
  rw [h]

theorem State.linHeader_answers {id : Nat} {b : Bytes} (h : s.linAnswer u id = some b) : s.linHeader u id =
    (s.setLin u { s.linSt u with header := none, sending := some id }).emit (.message "lin" (64 * u + id) b) := by
  unfold State.linHeader
  rw [h]

/-- What a header leaves: its response is awaited, or it is answered; the schedule's place stays. -/
structure State.headerDone (s v : State) (u id : Nat) : Prop where
  awaits : s.linAnswer u id = none → (v.linSt u).header = some id ∧ (v.linSt u).sending = none
  answers : ∀ b, s.linAnswer u id = some b →
    .message "lin" (64 * u + id) b ∈ v.out ∧ (v.linSt u).header = none ∧ (v.linSt u).sending = some id
  pos : (v.linSt u).pos = (s.linSt u).pos
  due : (v.linSt u).due = (s.linSt u).due
  out : ∀ o ∈ s.out, o ∈ v.out

theorem State.linHeader_done (s : State) (u id : Nat) : s.headerDone (s.linHeader u id) u id := by
  have hemit (v : State) (o : Out) : (v.emit o).linSt u = v.linSt u := rfl
  cases h : s.linAnswer u id with
  | none =>
    rw [State.linHeader_awaits h]
    constructor
    case answers => exact fun b hb => nomatch h.symm.trans hb
    case out => exact fun o ho => ho
    all_goals simp
  | some b =>
    rw [State.linHeader_answers h]
    constructor
    case awaits => exact fun hn => nomatch h.symm.trans hn
    case answers =>
      intro b' hb'
      obtain rfl : b = b' := Option.some.inj (h.symm.trans hb')
      rw [hemit, State.setLin_linSt]
      exact ⟨by simp, rfl, rfl⟩
    case out => exact fun o ho => List.mem_append_left _ ho
    all_goals rw [hemit, State.setLin_linSt]

/-- The record of a commander after its next schedule entry. -/
def State.linNext (s : State) (u : Nat) : LinSt :=
  let l := s.blob (byIdx O.linSchedule u)
  let p := (s.linSt u).pos % (l.length / 4)
  { s.linSt u with pos := (p + 1) % (l.length / 4), due := s.tickNo + fld l (4 * p + 2) 2 }

/-- A commander sends the header of its next schedule entry. -/
def State.linCommanded (s : State) (u : Nat) : State :=
  let l := s.blob (byIdx O.linSchedule u)
  ((s.setLin u (s.linNext u)).setFlag (byIdx O.linStatus u) 1 true).emit
    (.message "lin-header" u [BitVec.ofNat 8 (fld l (4 * ((s.linSt u).pos % (l.length / 4))) 1 % 64)])

theorem linScheduleEntry_due (hon : s.edgeOn (epLin u) = true) (hr : s.n (byIdx O.linRole u) = 0)
    (hs : s.flag (byIdx O.linStatus u) 0 = false) (hl : 0 < (s.blob (byIdx O.linSchedule u)).length / 4) (hd : (s.linSt u).due ≠ 0)
    (ht : (s.linSt u).due ≤ s.tickNo) : linScheduleEntry u s = (s.linCommanded u).linHeader u (fld (s.blob (byIdx O.linSchedule u))
      (4 * ((s.linSt u).pos % ((s.blob (byIdx O.linSchedule u)).length / 4))) 1 % 64) := by
  unfold linScheduleEntry
  exact if_pos (by simp [hon, hr, hs, hl, hd, ht])

theorem only_linCommanded (s : State) (u : Nat) : Only s (s.linCommanded u) [.edge] [byIdx O.linStatus u] :=
  ((only_setLin ..).trans (only_setFlag ..)).trans (only_emit ..) |>.mono (by simp) (by simp)

theorem State.linCommanded_linSt (s : State) (u : Nat) : (s.linCommanded u).linSt u = s.linNext u := State.setLin_linSt ..

theorem linScheduleEntry_runs {n p id : Nat} {l : Bytes} {x : LinSt} (hon : s.edgeOn (epLin u) = true) (hr : s.n (byIdx O.linRole u) = 0)
    (hs : s.flag (byIdx O.linStatus u) 0 = false) (hl : l = s.blob (byIdx O.linSchedule u)) (hn : n = l.length / 4) (hn0 : 0 < n)
    (hx : x = s.linSt u) (hd : x.due ≠ 0) (ht : x.due ≤ s.tickNo) (hp : p = x.pos % n) (hid : id = fld l (4 * p) 1 % 64) :
    Runs (.linScheduleEntry t u) s fun v => .message "lin-header" u [BitVec.ofNat 8 id] ∈ v.out ∧ (v.linSt u).pos = (p + 1) % n ∧
      (v.linSt u).due = s.tickNo + fld l (4 * p + 2) 2 ∧
      (s.linAnswer u id = none → (v.linSt u).header = some id ∧ (v.linSt u).sending = none) ∧
      (∀ b, s.linAnswer u id = some b → .message "lin" (64 * u + id) b ∈ v.out ∧ (v.linSt u).header = none ∧ (v.linSt u).sending = some id) ∧
      Only s v [.edge] [byIdx O.linStatus u] := by
  subst hl hn hx hp hid
  have hc := only_linCommanded (s.begin t) u
  have hans (id : Nat) : ((s.begin t).linCommanded u).linAnswer u id = s.linAnswer u id :=
    State.linAnswer_congr ((congrArg LinSt.slots (State.linCommanded_linSt ..)).trans rfl) (hc.rest .bridge (by decide)) id
  have hdone := ((s.begin t).linCommanded u).linHeader_done u (fld (s.blob (byIdx O.linSchedule u))
      (4 * ((s.linSt u).pos % ((s.blob (byIdx O.linSchedule u)).length / 4))) 1 % 64)
  refine .intro (congrArg Host.Outcome.next (linScheduleEntry_due (s := s.begin t) hon hr hs hn0 hd ht)) ⟨?_, ?_, ?_, ?_, ?_, ?_⟩
  · exact hdone.out _ (List.mem_append_right _ (List.mem_singleton.mpr rfl))
  · exact hdone.pos.trans (congrArg LinSt.pos (State.linCommanded_linSt ..))
  · exact hdone.due.trans (congrArg LinSt.due (State.linCommanded_linSt ..))
  · exact fun h => hdone.awaits ((hans _).trans h)
  · exact fun b h => hdone.answers b ((hans _).trans h)
  · exact (hc.trans (only_linHeader ..)).begin.mono (by simp) (by simp)

/-- Activity on the bus ends SLEEP. -/
def State.linAwake (s : State) (u : Nat) : State := (s.setFlag (byIdx O.linStatus u) 0 false).setFlag (byIdx O.linStatus u) 1 true

theorem only_linAwake (s : State) (u : Nat) : Only s (s.linAwake u) [] [byIdx O.linStatus u] :=
  ((only_setFlag ..).trans (only_setFlag ..)).mono (by simp) (by simp)

theorem linHeaderReceive_responder {id : Nat} (hon : s.edgeOn (epLin u) = true) (hr : s.n (byIdx O.linRole u) = 1) :
    linHeaderReceive u id s = (s.linAwake u).linHeader u (id % 64) := by
  have hr' : (s.linAwake u).n (byIdx O.linRole u) = 1 := ((only_linAwake s u).n_byIdx (l := [O.linStatus]) (by decide) (by decide)).trans hr
  exact (if_pos hon).trans (if_pos hr')

theorem linHeaderReceive_runs {id : Nat} (hon : s.edgeOn (epLin u) = true) (hr : s.n (byIdx O.linRole u) = 1) :
    Runs (.linHeaderReceive t u id) s fun v => v.flag (byIdx O.linStatus u) 0 = false ∧ v.flag (byIdx O.linStatus u) 1 = true ∧
      (s.linAnswer u (id % 64) = none → (v.linSt u).header = some (id % 64) ∧ (v.linSt u).sending = none) ∧
      (∀ b, s.linAnswer u (id % 64) = some b → .message "lin" (64 * u + id % 64) b ∈ v.out ∧ (v.linSt u).header = none ∧
        (v.linSt u).sending = some (id % 64)) ∧
      Only s v [.edge] [byIdx O.linStatus u] := by
  have ha := only_linAwake (s.begin t) u
  have hans (id : Nat) : ((s.begin t).linAwake u).linAnswer u id = s.linAnswer u id :=
    State.linAnswer_congr (congrArg LinSt.slots (State.linSt_congr (ha.rest .edge (by decide)) u)) (ha.rest .bridge (by decide)) id
  have hdone := ((s.begin t).linAwake u).linHeader_done u (id % 64)
  have hframe := only_linHeader ((s.begin t).linAwake u) u (id % 64)
  refine .intro (congrArg Host.Outcome.next (linHeaderReceive_responder (s := s.begin t) hon hr)) ⟨?_, ?_, ?_, ?_, ?_⟩
  · rw [hframe.flag_eq, State.linAwake, State.setFlag_flag, State.setFlag_flag]
    rfl
  · rw [hframe.flag_eq, State.linAwake, State.setFlag_flag]
    rfl
  · exact fun h => hdone.awaits ((hans _).trans h)
  · exact fun b h => hdone.answers b ((hans _).trans h)
  · exact (ha.trans hframe).begin.mono (by simp) (by simp)

/-! ### Responses on a LIN bus (R256, R260, R271) -/

/-- The response awaited is no longer. -/
def State.linHeard (s : State) (u : Nat) : State := s.setLin u { s.linSt u with header := none }

theorem linResponse_wrongSum {id : Nat} {b : Bytes} (hon : s.edgeOn (epLin u) = true) (hh : (s.linSt u).header = some id) :
    linResponse u b false s = (s.linHeard u).inc32 (byIdx O.linChecksumErrors u) := by
  unfold linResponse
  simp only [hh, hon, Bool.not_true, Bool.false_eq_true, if_false, Bool.not_false, if_true]
  rfl

theorem linResponseReceive_wrongSum {id : Nat} {b : Bytes} (hon : s.edgeOn (epLin u) = true) (hh : (s.linSt u).header = some id) :
    Runs (.linResponseReceive t u b false) s fun v => v.linSt u = { s.linSt u with header := none } ∧
      v.n (byIdx O.linChecksumErrors u) = satN (2 ^ 32 - 1) (s.n (byIdx O.linChecksumErrors u) + 1) ∧
      Only s v [.edge] [byIdx O.linChecksumErrors u] := by
  refine .intro (congrArg Host.Outcome.next (linResponse_wrongSum (s := s.begin t) hon hh)) ⟨?_, ?_, ?_⟩
  · exact (State.linSt_congr (State.inc32_edge ..) u).trans (State.setLin_linSt ..)
  · rw [State.inc32_self, State.linHeard, (only_setLin ..).n_all, State.begin_n]
  · exact ((only_setLin ..).trans (only_inc32 ..)).begin.mono (by simp) (by simp)

/-- A right response has been counted. -/
def State.linCounted (s : State) (u : Nat) : State := (s.linHeard u).traffic.inc64 (byIdx O.linFrames u)

/-- A right response goes to the ring of the unit's record `x`, where its element is free. -/
def State.linStored (s : State) (u id : Nat) (x : LinSt) (b : Bytes) : State :=
  let o := 0x8000 + 32 * (x.ring % 16)
  if bit (s.elemFlags u o) efRxNew then s
  else (s.writeElem u o id 0 (b2n (s.linEnhanced u id)) 0 4 (b.take 8)).setLin u { x with header := none, ring := (x.ring + 1) % 16 }

theorem only_linCounted (s : State) (u : Nat) : Only s (s.linCounted u) [.edge, .power] [byIdx O.linFrames u] :=
  ((only_setLin ..).trans (only_traffic _)).trans (only_inc64 ..) |>.mono (by simp) (by simp)

theorem only_linStored (s : State) (u id : Nat) (x : LinSt) (b : Bytes) : Only s (s.linStored u id x b) [.bridge, .edge] [] :=
  .ite (.same ..) (((only_writeElem ..).trans (only_setLin ..)).mono (by simp) (by simp))

theorem State.linStored_linSt {x : LinSt} (hx : s.linSt u = { x with header := none }) (id : Nat) (b : Bytes) :
    (s.linStored u id x b).linSt u = { x with
      header := none
      ring := if bit (s.elemFlags u (0x8000 + 32 * (x.ring % 16))) efRxNew then x.ring else (x.ring + 1) % 16 } := by
  unfold State.linStored
  dsimp only
  split
  · exact hx
  · exact State.setLin_linSt ..

theorem linResponse_rightSum {id : Nat} {b : Bytes} (hon : s.edgeOn (epLin u) = true) (hh : (s.linSt u).header = some id)
    (hf : s.power.forwardOn ≠ some (epLin u)) (hu : s.unitForwards (epLin u) = false) :
    Gathered ((s.linCounted u).linStored u id (s.linSt u) b) (linResponse u b true s) := by
  have hp : (s.linHeard u).trafficOn (epLin u) = (s.linHeard u).traffic := State.trafficOn_plain (s := s.linHeard u) hf hu
  unfold State.linHeard at hp
  unfold linResponse
  simp only [hh, hon, hp, Bool.not_true, Bool.false_eq_true, if_false]
  exact .foldl (fun v m => v.extract_gathered m b v.gptpNs) _ _

theorem linResponseReceive_rightSum {id : Nat} {b : Bytes} (hon : s.edgeOn (epLin u) = true) (hh : (s.linSt u).header = some id)
    (hf : s.power.forwardOn ≠ some (epLin u)) (hu : s.unitForwards (epLin u) = false) :
    Runs (.linResponseReceive t u b true) s fun v => v.n (byIdx O.linFrames u) = satN (2 ^ 64 - 1) (s.n (byIdx O.linFrames u) + 1) ∧
      (v.linSt u).header = none ∧
      (v.linSt u).ring = (if bit (s.elemFlags u (0x8000 + 32 * ((s.linSt u).ring % 16))) efRxNew then (s.linSt u).ring else ((s.linSt u).ring + 1) % 16) ∧
      Only s v [.edge, .bridge, .power] [byIdx O.linFrames u] := by
  have hg := linResponse_rightSum (s := s.begin t) (b := b) hon hh hf hu
  have hcounted := only_linCounted (s.begin t) u
  have hafter := (only_linStored ((s.begin t).linCounted u) u id (s.linSt u) b).trans hg.only
  have hx : ((s.begin t).linCounted u).linSt u = { s.linSt u with header := none } := State.setLin_linSt ..
  have hlin := (hg.linSt u).trans (State.linStored_linSt hx id b)
  rw [State.elemFlags_congr (hcounted.rest .bridge (by decide))] at hlin
  refine .intro rfl ⟨?_, ?_, ?_, (hcounted.trans hafter).begin.mono (by simp) (by simp)⟩
  · rw [hafter.n_all]
    exact (State.inc64_self ..).trans (by rw [State.traffic_n, State.linHeard, (only_setLin ..).n_all, State.begin_n])
  · rw [hlin]
  · rw [hlin]
    rfl

theorem linNoResponse_counts (hon : s.edgeOn (epLin u) = true) (hh : (s.linSt u).header.isSome = true) :
    linNoResponse u s = (s.linHeard u).inc32 (byIdx O.linNoResponseErrors u) := if_pos (by rw [hon, hh]; rfl)

theorem linNoResponse_runs (hon : s.edgeOn (epLin u) = true) (hh : (s.linSt u).header.isSome = true) :
    Runs (.linNoResponse t u) s fun v => v.linSt u = { s.linSt u with header := none } ∧
      v.n (byIdx O.linNoResponseErrors u) = satN (2 ^ 32 - 1) (s.n (byIdx O.linNoResponseErrors u) + 1) ∧
      Only s v [.edge] [byIdx O.linNoResponseErrors u] := by
  refine .intro (congrArg Host.Outcome.next (linNoResponse_counts (s := s.begin t) hon hh)) ⟨?_, ?_, ?_⟩
  · exact (State.linSt_congr (State.inc32_edge ..) u).trans (State.setLin_linSt ..)
  · rw [State.inc32_self, State.linHeard, (only_setLin ..).n_all, State.begin_n]
  · exact ((only_setLin ..).trans (only_inc32 ..)).begin.mono (by simp) (by simp)

/-- A LIN unit has gone to sleep. -/
def State.linAsleep (s : State) (u : Nat) : State :=
  let v := (s.setFlag (byIdx O.linStatus u) 0 true).setFlag (byIdx O.linStatus u) 1 false
  v.setLin u { v.linSt u with header := none, sending := none }

theorem linGoToSleep_runs (hon : s.edgeOn (epLin u) = true) :
    Runs (.linGoToSleep t u) s fun v => v.linSt u = { s.linSt u with header := none, sending := none } ∧
      v.flag (byIdx O.linStatus u) 0 = true ∧ v.flag (byIdx O.linStatus u) 1 = false ∧ Only s v [.edge] [byIdx O.linStatus u] := by
  have he : linGoToSleep u (s.begin t) = (s.begin t).linAsleep u := if_pos (show (s.begin t).edgeOn (epLin u) = true from hon)
  refine .intro (congrArg Host.Outcome.next he) ⟨?_, ?_, ?_, ?_⟩
  · exact State.setLin_linSt ..
  · rw [State.linAsleep, (only_setLin ..).flag_eq, State.setFlag_flag, State.setFlag_flag]
    rfl
  · rw [State.linAsleep, (only_setLin ..).flag_eq, State.setFlag_flag]
    rfl
  · exact (((only_setFlag ..).trans (only_setFlag ..)).trans (only_setLin ..)).begin.mono (by simp) (by simp)

/-! ### UART messages (R256, R261, R271) -/

/-- A message for a unit has been counted, and its wrong characters. -/
def State.uartCounted (s : State) (u errors : Nat) (c : List Nat) : State :=
  let v := (s.addTo (byIdx O.uartCharacterErrors u) errors (2 ^ 32 - 1)).traffic.inc64 (byIdx O.uartMessages u)
  if decide (256 < c.length) = true then v.inc32 (byIdx O.uartOverruns u) else v

/-- A message goes to the unit's ring, where its element is free. -/
def State.uartStored (s : State) (u id errors : Nat) (c : List Nat) : State :=
  let o := 0x8400 + 280 * ((s.uartSt u).ring % 6)
  if bit (s.elemFlags u o) efRxNew then s.inc32 (byIdx O.uartOverruns u)
  else (s.writeElem u o id 0 0 0 (4 + 32 * b2n (decide (256 < c.length) || decide (0 < errors))) ((c.take 256).map (BitVec.ofNat 8))).setUart u
    { s.uartSt u with ring := ((s.uartSt u).ring + 1) % 6 }

/-- A message is for a unit: with one identifier byte, where no own address is set or the address is its own (R261). -/
def State.uartFor (s : State) (u : Nat) (c : List Nat) : Prop :=
  s.n (byIdx O.identifierBytes u) = 0 → s.n (byIdx O.ownAddress u) = 0x1FF ∨
    uartIdent (s.n (byIdx O.identifierBytes u)) c = s.n (byIdx O.ownAddress u)

theorem uart_kind (u : Nat) : bits (epUart u) 4 3 = 2 := by
  unfold epUart epEdge bits
  omega

/-- The count of wrong characters is no object of a wake. -/
theorem State.unitForwards_addTo (s : State) {e : Nat} (he : bits e 4 3 = 2) (errors hi : Nat) :
    (s.addTo (byIdx O.uartCharacterErrors u) errors hi).unitForwards e = s.unitForwards e := by
  have hk : bySub O.activityWake (bits e 8 3) ≠ byIdx O.uartCharacterErrors u := by
    refine (byIdx_ne ?_).symm
    have : bits e 8 3 < 8 := Nat.mod_lt _ (by decide)
    simp only [bySub, O.activityWake, O.uartCharacterErrors]
    omega
  have hn : (s.addTo (byIdx O.uartCharacterErrors u) errors hi).n (bySub O.activityWake (bits e 8 3)) =
      s.n (bySub O.activityWake (bits e 8 3)) := State.setN_other _ _ _ _ hk (byIdx_ne (by decide))
  unfold State.unitForwards
  rw [he, if_neg (by decide), if_neg (by decide), hn]

theorem uartMessage_takes {errors : Nat} {c : List Nat} (hon : s.edgeOn (epUart u) = true) (hde : s.drivesDe u = false) (hc : c ≠ [])
    (hfor : s.uartFor u c) (hf : s.power.forwardOn ≠ some (epUart u)) (hu : s.unitForwards (epUart u) = false) :
    Gathered ((s.uartCounted u errors c).uartStored u (uartIdent (s.n (byIdx O.identifierBytes u)) c) errors c) (uartMessage u c errors s) := by
  have hp := State.trafficOn_plain (s := s.addTo (byIdx O.uartCharacterErrors u) errors (2 ^ 32 - 1)) hf
    ((s.unitForwards_addTo (uart_kind u) errors _).trans hu)
  have hc' : c.isEmpty = false := by simpa using hc
  have hown : ¬(s.n (byIdx O.identifierBytes u) = 0 ∧ s.n (byIdx O.ownAddress u) ≠ 0x1FF ∧
      uartIdent (s.n (byIdx O.identifierBytes u)) c ≠ s.n (byIdx O.ownAddress u)) := fun ⟨h0, h1, h2⟩ => (hfor h0).elim h1 h2
  unfold uartMessage
  simp only [hc', hon, hde, hp, if_neg hown, Bool.not_true, Bool.false_eq_true, if_false]
  split
  · exact .refl _
  · exact .foldl (fun v m => v.extract_gathered m _ v.gptpNs) _ _

/-- The objects that a received message changes. -/
def uartRxKeys (u : Nat) : List Nat := [byIdx O.uartMessages u, byIdx O.uartCharacterErrors u, byIdx O.uartOverruns u]

theorem only_uartCounted (s : State) (u errors : Nat) (c : List Nat) : Only s (s.uartCounted u errors c) [.power] (uartRxKeys u) := by
  have hv := (((only_addTo s (byIdx O.uartCharacterErrors u) errors (2 ^ 32 - 1)).trans (only_traffic _)).trans
    (only_inc64 _ (byIdx O.uartMessages u))).mono (Q := [.power]) (J := uartRxKeys u) (by simp) (by simp [uartRxKeys])
  exact .ite (hv.obj (only_inc32 ..) (by simp [uartRxKeys])) hv

theorem State.uartCounted_counts (s : State) (u errors : Nat) (c : List Nat) :
    (s.uartCounted u errors c).n (byIdx O.uartMessages u) = satN (2 ^ 64 - 1) (s.n (byIdx O.uartMessages u) + 1) ∧
    (s.uartCounted u errors c).n (byIdx O.uartCharacterErrors u) = satN (2 ^ 32 - 1) (s.n (byIdx O.uartCharacterErrors u) + errors) := by
  have hadd := only_addTo s (byIdx O.uartCharacterErrors u) errors (2 ^ 32 - 1)
  have hinc := only_inc64 (s.addTo (byIdx O.uartCharacterErrors u) errors (2 ^ 32 - 1)).traffic (byIdx O.uartMessages u)
  have hend : Only ((s.addTo (byIdx O.uartCharacterErrors u) errors (2 ^ 32 - 1)).traffic.inc64 (byIdx O.uartMessages u))
      (s.uartCounted u errors c) [] [byIdx O.uartOverruns u] := .ite (only_inc32 ..) (.same ..)
  constructor
  · rw [hend.n_byIdx (l := [O.uartOverruns]) (by decide) (by decide), State.inc64_self, State.traffic_n,
      hadd.n_byIdx (l := [O.uartCharacterErrors]) (by decide) (by decide)]
  · rw [(hinc.trans hend).n_byIdx (l := [O.uartMessages, O.uartOverruns]) (by decide) (by decide), State.traffic_n]
    exact State.setN_self ..

theorem only_uartStored (s : State) (u id errors : Nat) (c : List Nat) :
    Only s (s.uartStored u id errors c) [.bridge, .edge] [byIdx O.uartOverruns u] :=
  .ite ((only_inc32 ..).mono (by simp) (by simp)) (((only_writeElem ..).trans (only_setUart ..)).mono (by simp) (by simp))

theorem State.uartStored_ring {id errors : Nat} {c : List Nat}
    (h : bit (s.elemFlags u (0x8400 + 280 * ((s.uartSt u).ring % 6))) efRxNew = false) :
    ((s.uartStored u id errors c).uartSt u).ring = ((s.uartSt u).ring + 1) % 6 := by
  have he : s.uartStored u id errors c = _ := if_neg (by rw [h]; exact Bool.false_ne_true)
  rw [he, State.setUart_uartSt]

theorem uartMessageEnd_runs {e id : Nat} {c : List Nat} (hon : s.edgeOn (epUart u) = true) (hde : s.drivesDe u = false) (hc : c ≠ [])
    (hid : id = uartIdent (s.n (byIdx O.identifierBytes u)) c)
    (hfor : s.n (byIdx O.identifierBytes u) = 0 → s.n (byIdx O.ownAddress u) = 0x1FF ∨ id = s.n (byIdx O.ownAddress u))
    (hf : s.power.forwardOn ≠ some (epUart u)) (hu : s.unitForwards (epUart u) = false) :
    Runs (.uartMessageEnd t u c e) s fun v => v.n (byIdx O.uartMessages u) = satN (2 ^ 64 - 1) (s.n (byIdx O.uartMessages u) + 1) ∧
      v.n (byIdx O.uartCharacterErrors u) = satN (2 ^ 32 - 1) (s.n (byIdx O.uartCharacterErrors u) + e) ∧
      (bit (s.elemFlags u (0x8400 + 280 * ((s.uartSt u).ring % 6))) efRxNew = false → (v.uartSt u).ring = ((s.uartSt u).ring + 1) % 6) ∧
      Only s v [.edge, .bridge, .power] (uartRxKeys u) := by
  subst hid
  have hg := uartMessage_takes (s := s.begin t) (errors := e) hon hde hc hfor hf hu
  have hcounted := only_uartCounted (s.begin t) u e c
  obtain ⟨hmsgs, herrs⟩ := (s.begin t).uartCounted_counts u e c
  have hstored := only_uartStored ((s.begin t).uartCounted u e c) u (uartIdent (s.n (byIdx O.identifierBytes u)) c) e c
  have hafter := hstored.trans hg.only
  refine .intro rfl ⟨?_, ?_, fun hnew => ?_, (hcounted.trans hafter).begin.mono (by simp) (by simp [uartRxKeys])⟩
  · rw [hafter.n_byIdx (l := [O.uartOverruns]) (by decide) (by decide), hmsgs, State.begin_n]
  · rw [hafter.n_byIdx (l := [O.uartOverruns]) (by decide) (by decide), herrs, State.begin_n]
  · have hx : ((s.begin t).uartCounted u e c).uartSt u = s.uartSt u := State.uartSt_congr (hcounted.rest .edge (by decide)) u
    rw [hg.uartSt]
    refine (State.uartStored_ring ?_).trans (by rw [hx])
    rw [hx, State.elemFlags_congr (hcounted.rest .bridge (by decide))]
    exact hnew

/-! ### 10BASE-T1S frames (R263) -/

section T1s

variable {d node : Nat} {b : Bytes} {ok : Bool}

theorem t1sReceive_bad (hon : s.edgeOn (epT1s d) = true) (h : ok = false ∨ 1514 < b.length) :
    t1sReceive d b node ok s = s.inc32 (byIdx O.t1sErrors d) := by
  have h' : !ok ∨ 1518 < b.length + 4 := h.imp (by simp) (by omega)
  unfold t1sReceive
  rw [hon]
  exact if_pos h'

theorem t1sFrameReceive_bad (hon : s.edgeOn (epT1s d) = true) (h : ok = false ∨ 1514 < b.length) :
    Runs (.t1sFrameReceive t d b node ok) s fun v =>
      v.n (byIdx O.t1sErrors d) = satN (2 ^ 32 - 1) (s.n (byIdx O.t1sErrors d) + 1) ∧ Only s v [] [byIdx O.t1sErrors d] :=
  .intro (congrArg Host.Outcome.next (t1sReceive_bad (s := s.begin t) hon h))
    ⟨by rw [State.inc32_self, State.begin_n], (only_inc32 ..).begin⟩

/-- A whole frame has been counted and has gone through the unit's receive element. -/
def State.t1sTaken (s : State) (d node : Nat) (b : Bytes) : State :=
  (s.traffic.inc64 (byIdx O.t1sFramesReceived d)).writeElem (2 * d + 1) 0x9000 (fldBE b 12 2 * 65536 + node % 256) 0 0 0 0 (b.take 1514)

theorem t1sReceive_whole (hon : s.edgeOn (epT1s d) = true) (hb : b.length ≤ 1514) (hf : s.power.forwardOn ≠ some (epT1s d))
    (hu : s.unitForwards (epT1s d) = false) : Gathered (s.t1sTaken d node b) (t1sReceive d b node true s) := by
  have hb' : ¬(1518 < b.length + 4) := by omega
  unfold t1sReceive
  simp only [hon, hb', State.trafficOn_plain hf hu, Bool.not_true, Bool.false_eq_true, or_false, if_false]
  exact .foldl (fun v m => v.extract_gathered m _ v.gptpNs) _ _

theorem t1sFrameReceive_whole (hon : s.edgeOn (epT1s d) = true) (hf : s.power.forwardOn ≠ some (epT1s d))
    (hu : s.unitForwards (epT1s d) = false) (hok : ok = true) (hb : b.length ≤ 1514) :
    Runs (.t1sFrameReceive t d b node ok) s fun v =>
      v.n (byIdx O.t1sFramesReceived d) = satN (2 ^ 64 - 1) (s.n (byIdx O.t1sFramesReceived d) + 1) ∧
      Only s v [.edge, .bridge, .power] [byIdx O.t1sFramesReceived d] := by
  subst hok
  have hg := t1sReceive_whole (s := s.begin t) (node := node) hon hb hf hu
  have hw := (only_writeElem ((s.begin t).traffic.inc64 (byIdx O.t1sFramesReceived d)) (2 * d + 1) 0x9000
    (fldBE b 12 2 * 65536 + node % 256) 0 0 0 0 (b.take 1514)).trans hg.only
  refine .intro rfl ⟨?_, ?_⟩
  · rw [hw.n_all, State.inc64_self, State.traffic_n, State.begin_n]
  · exact (((only_traffic _).trans (only_inc64 ..)).trans hw).begin.mono (by simp) (by simp)

end T1s

/-! ### Messages sent (R256, R272) -/

/-- A LIN response has been sent and counted. -/
def State.linSent (s : State) (u : Nat) : State := (s.setLin u { s.linSt u with sending := none }).inc64 (byIdx O.linFrames u)

theorem txDone_lin {id : Nat} (hs : (s.linSt u).sending = some id) : Only (s.linSent u) (txDone 1 u s) [.bridge] [] := by
  unfold txDone
  rw [if_pos rfl]
  dsimp only
  rw [hs]
  dsimp only
  split
  · exact .same ..
  · split
    · exact only_elemSent ..
    · exact .same ..

theorem txDone_runs_lin {id : Nat} (hs : (s.linSt u).sending = some id) :
    Runs (.txDone t 1 u) s fun v => v.linSt u = { s.linSt u with sending := none } ∧
      v.n (byIdx O.linFrames u) = satN (2 ^ 64 - 1) (s.n (byIdx O.linFrames u) + 1) ∧ Only s v [.edge, .bridge] [byIdx O.linFrames u] := by
  have hf := txDone_lin (s := s.begin t) hs
  refine .intro rfl ⟨?_, ?_, ?_⟩
  · rw [State.linSt_congr (hf.rest .edge (by decide)), State.linSent, State.linSt_congr (State.inc64_edge ..), State.setLin_linSt]
    rfl
  · rw [hf.n_all, State.linSent, State.inc64_self, (only_setLin ..).n_all, State.begin_n]
  · exact (((only_setLin ..).trans (only_inc64 ..)).trans hf).begin.mono (by simp) (by simp)

theorem txDone_uart {m : Nat} {b : Bytes} {rest : List (Nat × Bytes)} (hon : s.edgeOn (epUart u) = true)
    (hs : (s.uartSt u).slots = (m, b) :: rest) :
    txDone 2 u s = (s.setUart u { s.uartSt u with slots := rest }).emit (.message "uart" (8192 * u + m) b) := by
  unfold txDone
  rw [if_neg (by decide), if_pos rfl, hon]
  dsimp only
  rw [hs]
  rfl

theorem txDone_runs_uart {m : Nat} {b : Bytes} {rest : List (Nat × Bytes)} (hon : s.edgeOn (epUart u) = true)
    (hs : (s.uartSt u).slots = (m, b) :: rest) : Runs (.txDone t 2 u) s fun v =>
      v.uartSt u = { s.uartSt u with slots := rest } ∧ .message "uart" (8192 * u + m) b ∈ v.out ∧ Only s v [.edge] [] :=
  .intro (congrArg Host.Outcome.next (txDone_uart (s := s.begin t) hon hs))
    ⟨(s.begin t).setUart_uartSt .., by simp, ((only_setUart ..).trans (only_emit ..)).begin.mono (by simp) (by simp)⟩

/-- A 10BASE-T1S unit has sent the first of its gateway messages: it is counted and shown in the transmit element. -/
def State.t1sSent (s : State) (u m : Nat) (b : Bytes) (rest : List (Nat × Bytes)) : State :=
  let v := (s.setT1s u { s.t1sSt u with slots := rest }).inc64 (byIdx O.t1sFramesSent u)
  (v.writeElem (2 * u + 1) (0x9000 + 1538) (gmIdent (v.message m)) 0 0 0 (2 ^ efTxDone) (b.take 1514)).emit (.message "t1s" u b)

theorem txDone_t1s {m : Nat} {b : Bytes} {rest : List (Nat × Bytes)} (hon : s.edgeOn (epT1s u) = true)
    (hs : (s.t1sSt u).slots = (m, b) :: rest) : txDone 4 u s = s.t1sSent u m b rest := by
  unfold txDone
  rw [if_neg (by decide), if_neg (by decide), if_pos rfl, hon]
  dsimp only
  rw [hs]
  rfl

theorem txDone_runs_t1s {m : Nat} {b : Bytes} {rest : List (Nat × Bytes)} (hon : s.edgeOn (epT1s u) = true)
    (hs : (s.t1sSt u).slots = (m, b) :: rest) : Runs (.txDone t 4 u) s fun v => v.t1sSt u = { s.t1sSt u with slots := rest } ∧
      v.n (byIdx O.t1sFramesSent u) = satN (2 ^ 64 - 1) (s.n (byIdx O.t1sFramesSent u) + 1) ∧ .message "t1s" u b ∈ v.out ∧
      Only s v [.edge, .bridge] [byIdx O.t1sFramesSent u] := by
  have hset := only_setT1s (s.begin t) u { s.t1sSt u with slots := rest }
  have hcount := only_inc64 ((s.begin t).setT1s u { s.t1sSt u with slots := rest }) (byIdx O.t1sFramesSent u)
  have hafter : Only (((s.begin t).setT1s u { s.t1sSt u with slots := rest }).inc64 (byIdx O.t1sFramesSent u))
      ((s.begin t).t1sSent u m b rest) [.bridge] [] := (only_writeElem ..).trans (only_emit ..)
  refine .intro (congrArg Host.Outcome.next (txDone_t1s (s := s.begin t) hon hs)) ⟨?_, ?_, ?_, ?_⟩
  · have he := Eq.trans (hafter.rest .edge (by decide)) (hcount.rest .edge (by decide))
    exact (congrArg (fun x : EdgeSt => get ({} : SerialSt) x.t1s u) he).trans (State.setT1s_t1sSt ..)
  · rw [hafter.n_all, State.inc64_self, hset.n_all, State.begin_n]
  · exact List.mem_append_right _ (List.mem_singleton.mpr rfl)
  · exact ((hset.trans hcount).trans hafter).begin.mono (by simp) (by simp)

end Sys2Proof.Machine

open Sys2Proof Sys2Proof.Machine

/-- Settles O27, unit by unit: each command leaves one named state, read by the rules of the units' records and objects. -/
theorem serialUnits : Obligations.SerialUnits :=
  ⟨fun _ _ _ _ _ _ _ _ hon hr hs hl hn hn0 hx hd ht hp hid => linScheduleEntry_runs hon hr hs hl hn hn0 hx hd ht hp hid,
    fun _ _ _ _ hon hr => linHeaderReceive_runs hon hr, fun _ _ _ _ _ hon hh => linResponseReceive_wrongSum hon hh,
    fun _ _ _ _ _ hon hh hf hu => linResponseReceive_rightSum hon hh hf hu, fun _ _ _ hon hh => linNoResponse_runs hon hh,
    fun _ _ _ hon => linGoToSleep_runs hon,
    fun _ _ _ _ _ _ hon hde hc hid hfor hf hu => uartMessageEnd_runs hon hde hc hid hfor hf hu,
    fun _ _ _ _ _ _ hon hf hu => ⟨t1sFrameReceive_bad hon, t1sFrameReceive_whole hon hf hu⟩, fun _ _ _ _ hs => txDone_runs_lin hs,
    fun _ _ _ _ _ _ hon hs => txDone_runs_uart hon hs, fun _ _ _ _ _ _ hon hs => txDone_runs_t1s hon hs⟩
end

section
/-! Proofs about the CANopen node (R264, R265, R409, R458 to R460, R466): NMT, heartbeats, the SDO server and the PDOs. -/
namespace Sys2Proof.Machine
open Sys2Proof

theorem length_leBytes (n v : Nat) : (leBytes n v).length = n := by
  induction n generalizing v with
  | zero => rfl
  | succ n ih => exact congrArg Nat.succ (ih _)

variable {s : State} {t u : Nat}

/-! ### Frames of the node (R264) -/

theorem only_updNode (s : State) (f : NodeSt → NodeSt) : Only s (s.updNode f) [.edge] [] := (Only.same s _ _).setEdge _ (by simp)

/-- The node's controller is found in the dictionary and in the units' service. -/
theorem State.nodeController_congr (s : State) (e : EdgeSt) (a : AccessSt) :
    State.nodeController { s with edge := e, access := a } = s.nodeController := rfl

theorem only_canQueue (s : State) (c : Nat) (x : CanTx) : Only s (s.canQueue c x) [.edge] [] := only_setCan ..

theorem only_nodeSend (s : State) (num fmt id : Nat) (b : Bytes) : Only s (s.nodeSend num fmt id b) [.edge] [] := by
  unfold State.nodeSend
  split
  · exact .same ..
  · exact only_canQueue ..

theorem State.nodeSend_node (s : State) (num fmt id : Nat) (b : Bytes) : (s.nodeSend num fmt id b).edge.node = s.edge.node := by
  unfold State.nodeSend
  split <;> rfl

theorem State.nodeSend_now (s : State) (num fmt id : Nat) (b : Bytes) : (s.nodeSend num fmt id b).now = s.now := by
  unfold State.nodeSend
  split <;> rfl

theorem State.nodeSend_sent (h : s.nodeController = some u) (num fmt id : Nat) (b : Bytes) : (s.nodeSend num fmt id b).nodeSent u num id b := by
  unfold State.nodeSend
  rw [h]
  exact ⟨_, State.canQueue_last .., rfl, rfl, rfl, rfl⟩

/-- What leaves the controllers' records leaves the frame that waits. -/
theorem State.nodeSent.keep {v : State} {num id : Nat} {b : Bytes} (h : s.nodeSent u num id b) (hc : v.edge.can = s.edge.can) :
    v.nodeSent u num id b := by
  unfold State.nodeSent State.canSt at h ⊢
  rwa [hc]

/-! ### NMT (R265, R459) -/

theorem nmtStart_for {node : Nat} (h : s.nmtFor node = true) : nmtStart node s = s.enterOperational := if_pos h

theorem nmtStart_runs {node : Nat} (h : s.nmtFor node = true) : Runs (.nmtStart t node) s fun v =>
    v.nmt = 5 ∧ v.edge.node = { s.edge.node with hbLost := false } ∧ Only s v [.edge] [O.nmtState] :=
  .intro (congrArg Host.Outcome.next (nmtStart_for (s := s.begin t) h))
    ⟨((only_updNode ..).n_all _).trans (State.setN_self ..), rfl, ((only_setN ..).trans (only_updNode ..)).begin⟩

theorem nmtStop_runs {node : Nat} (h : s.nmtFor node = true) : Runs (.nmtStop t node) s fun v =>
    v.nmt = 4 ∧ v.edge.node = { s.edge.node with sdoPhase := 0, sdoBytes := [], sdoPos := 0 } ∧ Only s v [.edge] [O.nmtState] := by
  have he : nmtStop node (s.begin t) = (s.begin t).sdoIdle.setN O.nmtState nmtStopped := if_pos (show (s.begin t).nmtFor node = true from h)
  exact .intro (congrArg Host.Outcome.next he) ⟨State.setN_self .., rfl, ((only_updNode ..).trans (only_setN ..)).begin⟩

theorem nmtPreOperational_runs {node : Nat} (h : s.nmtFor node = true) : Runs (.nmtEnterPreOperational t node) s fun v =>
    v.nmt = 127 ∧ Only s v [] [O.nmtState] := by
  have he : nmtPreOperational node (s.begin t) = (s.begin t).setN O.nmtState nmtPreOp := if_pos (show (s.begin t).nmtFor node = true from h)
  exact .intro (congrArg Host.Outcome.next he) ⟨State.setN_self .., (only_setN ..).begin⟩

/-- The node in Initialisation, its session gone and its boot-up message sent. -/
def State.nodeBooted (s : State) : State :=
  State.nodeState { s.updNode (fun _ => { running := true }) with access := { s.access with sessions := del s.access.sessions 32 } } 0

theorem only_nodeBooted (s : State) : Only s s.nodeBooted [.edge, .access] [] :=
  (((only_updNode s _).mono (Q := [.edge, .access]) (J := []) (by simp) (by simp)).setAccess _ (by simp)).one (only_nodeSend ..) (by simp)

theorem State.nodeBooted_node (s : State) : s.nodeBooted.edge.node = { running := true } := State.nodeSend_node ..

theorem State.nodeBooted_sent (h : s.nodeController = some u) : s.nodeBooted.nodeSent u 0 (0x700 + s.nodeId) [0] :=
  State.nodeSend_sent ((State.nodeController_congr ..).trans h) 0 0 _ _

theorem State.nodeBooted_session (s : State) : s.nodeBooted.session? 32 = none := by
  have ha : s.nodeBooted.access = { s.access with sessions := del s.access.sessions 32 } := (only_nodeSend ..).rest .access (by decide)
  unfold State.session?
  rw [ha]
  exact look_del_self ..

theorem State.nodeBoot_eq (s : State) : s.nodeBoot =
    if s.nodeBooted.n O.nmtStartUp = 1 then s.nodeBooted.enterOperational else s.nodeBooted.setN O.nmtState nmtPreOp := rfl

/-- What a restart of the node leaves (R265). -/
theorem State.nodeBoot_spec (h : s.nodeController = some u) :
    s.nodeBoot.nmt = (if s.n O.nmtStartUp = 1 then 5 else 127) ∧ s.nodeBoot.nodeSent u 0 (0x700 + s.nodeId) [0] ∧
      s.nodeBoot.edge.node = { running := true } ∧ s.nodeBoot.session? 32 = none ∧ Only s s.nodeBoot [.edge, .access] [O.nmtState] := by
  have hb := (only_nodeBooted s).mono (Q := [.edge, .access]) (J := [O.nmtState]) (fun _ hp => hp) (by simp)
  rw [State.nodeBoot_eq, (only_nodeBooted s).n_all]
  split
  · refine ⟨((only_updNode ..).n_all _).trans (State.setN_self ..), (State.nodeBooted_sent h).keep rfl, ?_, s.nodeBooted_session, ?_⟩
    · exact congrArg (fun x : NodeSt => { x with hbLost := false }) s.nodeBooted_node
    · exact (hb.obj (only_setN ..) (by simp)).one (only_updNode ..) (by simp)
  · exact ⟨State.setN_self .., (State.nodeBooted_sent h).keep rfl, s.nodeBooted_node, s.nodeBooted_session, hb.obj (only_setN ..) (by simp)⟩

/-- A reset of the node and one of its communication are the same to the node (R265). -/
theorem nmtReset_runs {node : Nat} {i : Instr} (hi : exec i s = .next (nmtReset node (s.begin t))) (h : s.nmtFor node = true)
    (hu : s.nodeController = some u) : Runs i s fun v =>
      v.nmt = (if s.n O.nmtStartUp = 1 then 5 else 127) ∧ v.nodeSent u 0 (0x700 + s.nodeId) [0] ∧ v.edge.node = { running := true } ∧
        v.session? 32 = none ∧ Only s v [.edge, .access] [O.nmtState] := by
  have he : nmtReset node (s.begin t) = (s.begin t).nodeBoot := if_pos (show (s.begin t).nmtFor node = true from h)
  obtain ⟨hnmt, hsent, hnode, hsess, hf⟩ := State.nodeBoot_spec (s := s.begin t) hu
  exact .intro (hi.trans (congrArg _ he)) ⟨by rw [hnmt, State.begin_n], hsent, hnode, hsess, hf.begin⟩

/-! ### Heartbeats (R264, R458) -/

theorem heartbeatProducer_runs (hr : s.nodeRuns = true) (hu : s.nodeController = some u) (hp : s.n O.producerHeartbeatTime ≠ 0) :
    Runs (.heartbeatProducerTimer t) s fun v => v.nodeSent u 0 (0x700 + s.nodeId) (leBytes 1 s.nmt) ∧ Only s v [.edge] [] := by
  have hr' : (s.begin t).nodeRuns = true := hr
  have he : heartbeatProducer (s.begin t) = (s.begin t).nodeState (s.begin t).nmt :=
    if_pos (by rw [hr', State.begin_n, bne_iff_ne.mpr hp]; rfl)
  exact .intro (congrArg Host.Outcome.next he) ⟨State.nodeSend_sent (s := s.begin t) hu .., (only_nodeSend ..).begin⟩

theorem heartbeatConsumer_due {k t0 : Nat} (hr : s.nodeRuns = true) (hk : k < 8) (hl : look s.edge.node.hbLast k = some t0)
    (hms : bits (s.n (bySub O.consumerHeartbeatTime k)) 0 16 ≠ 0)
    (hdue : bits (s.n (bySub O.consumerHeartbeatTime k)) 0 16 * 1000000 ≤ s.now - t0) :
    heartbeatConsumer k s = (s.inc32 O.heartbeatTimeouts).updNode (fun n => { n with hbLost := true, hbLast := del n.hbLast k }) := by
  unfold heartbeatConsumer
  simp only [hl]
  exact if_pos (by rw [hr, decide_eq_true hk, bne_iff_ne.mpr hms, decide_eq_true hdue]; rfl)

theorem heartbeatConsumer_runs {k t0 : Nat} (hr : s.nodeRuns = true) (hk : k < 8) (hl : look s.edge.node.hbLast k = some t0)
    (hms : bits (s.n (bySub O.consumerHeartbeatTime k)) 0 16 ≠ 0)
    (hdue : bits (s.n (bySub O.consumerHeartbeatTime k)) 0 16 * 1000000 ≤ s.localAt t - t0) : Runs (.heartbeatConsumerTimeout t k) s fun v =>
      v.n O.heartbeatTimeouts = satN (2 ^ 32 - 1) (s.n O.heartbeatTimeouts + 1) ∧
      v.edge.node = { s.edge.node with hbLost := true, hbLast := del s.edge.node.hbLast k } ∧ Only s v [.edge] [O.heartbeatTimeouts] :=
  .intro (congrArg Host.Outcome.next (heartbeatConsumer_due (s := s.begin t) hr hk hl (by rwa [State.begin_n]) (by rwa [State.begin_n])))
    ⟨by rw [(only_updNode ..).n_all, State.inc32_self, State.begin_n], rfl, ((only_inc32 ..).trans (only_updNode ..)).begin⟩

/-! ### The SDO server (R409, R466) -/

theorem only_sdoReply (s : State) (b : Bytes) : Only s (s.sdoReply b) [.edge] [] := only_nodeSend ..

theorem State.sdoReply_node (s : State) (b : Bytes) : (s.sdoReply b).edge.node = s.edge.node := State.nodeSend_node ..

theorem length_sdoHead (c m : Nat) : (sdoHead c m).length = 4 := by
  unfold sdoHead
  simp only [List.length_append, length_leBytes]

/-- An answer is made up to eight bytes. -/
theorem fill_sdoReply (b : Bytes) (h : b.length ≤ 8) : (b ++ fill 8 0).take 8 = b ++ fill (8 - b.length) 0 := by
  rw [List.take_append, List.take_of_length_le h, fill, List.take_replicate, Nat.min_eq_left (by omega)]
  rfl

theorem State.sdoReply_sent (h : s.nodeController = some u) {b : Bytes} (hb : b.length ≤ 8) :
    (s.sdoReply b).nodeSent u 100 (0x580 + s.nodeId) (b ++ fill (8 - b.length) 0) :=
  fill_sdoReply b hb ▸ State.nodeSend_sent h 100 0 (0x580 + s.nodeId) ((b ++ fill 8 0).take 8)

/-- The frame, the answer and the node's record that an abort leaves. -/
theorem State.sdoAbort_spec (h : s.nodeController = some u) (m code : Nat) :
    (s.sdoAbort m code).nodeSent u 100 (0x580 + s.nodeId) (sdoHead 0x80 m ++ leBytes 4 code) ∧
      (s.sdoAbort m code).edge.node = { s.edge.node with sdoPhase := 0, sdoBytes := [], sdoPos := 0 } ∧ Only s (s.sdoAbort m code) [.edge] [] := by
  have hl : (sdoHead 0x80 m ++ leBytes 4 code).length = 8 := by rw [List.length_append, length_sdoHead, length_leBytes]
  refine ⟨?_, State.sdoReply_node .., ((only_updNode ..).trans (only_sdoReply ..)).mono (by simp) (by simp)⟩
  have hsent := State.sdoReply_sent (s := s.sdoIdle) ((State.nodeController_congr ..).trans h) (Nat.le_of_eq hl)
  rw [hl] at hsent
  exact (List.append_nil (sdoHead 0x80 m ++ leBytes 4 code)) ▸ hsent

theorem sdoTimeout_due (hr : s.sdosRun = true) (hp : s.edge.node.sdoPhase ≠ 0) (hd : 1000000000 < s.now - s.edge.node.sdoLast) :
    sdoTimeout s = s.sdoAbort s.edge.node.sdoKey 0x05040000 :=
  if_pos (by rw [hr, bne_iff_ne.mpr hp, decide_eq_true hd]; rfl)

theorem sdoTimeout_runs (hr : s.sdosRun = true) (hu : s.nodeController = some u) (hp : s.edge.node.sdoPhase ≠ 0)
    (hd : 1000000000 < s.localAt t - s.edge.node.sdoLast) : Runs (.sdoTimeout t) s fun v =>
      v.nodeSent u 100 (0x580 + s.nodeId) (sdoHead 0x80 s.edge.node.sdoKey ++ leBytes 4 0x05040000) ∧
      v.edge.node = { s.edge.node with sdoPhase := 0, sdoBytes := [], sdoPos := 0 } ∧ Only s v [.edge] [] := by
  obtain ⟨hsent, hnode, hf⟩ := State.sdoAbort_spec (s := s.begin t) hu s.edge.node.sdoKey 0x05040000
  exact .intro (congrArg Host.Outcome.next (sdoTimeout_due (s := s.begin t) hr hp hd)) ⟨hsent, hnode, hf.begin⟩

section Request

variable {d : Bytes}

/-- What a request of eight bytes does, outside the segments of a block download: by its command specifier. -/
theorem sdoRequest_eq (hr : s.sdosRun = true) (hd : d.length = 8) (hseg : s.edge.node.sdoPhase = 3 → bits (fld d 0 1) 0 7 = 0) :
    (bits (fld d 0 1) 5 3 = 0 → sdoRequest d s = sdoDownSeg (fld d 0 1) d s) ∧
    (bits (fld d 0 1) 5 3 = 1 → sdoRequest d s = sdoInitDown (fld d 0 1) (mux (fld d 1 2) (fld d 3 1)) d s) ∧
    (bits (fld d 0 1) 5 3 = 4 → sdoRequest d s = s.sdoIdle) ∧
    (bits (fld d 0 1) 5 3 = 7 → sdoRequest d s = s.sdoAbort (mux (fld d 1 2) (fld d 3 1)) 0x05040001) := by
  have hgo : (!s.sdosRun || d.length != 8) = false := by rw [hr, hd]; rfl
  have hseg' : ¬(s.edge.node.sdoPhase = 3 ∧ bits (fld d 0 1) 0 7 ≠ 0) := fun ⟨h3, h0⟩ => h0 (hseg h3)
  unfold sdoRequest
  simp only [hgo, Bool.false_eq_true, if_false, if_neg hseg']
  refine ⟨fun h => ?_, fun h => ?_, fun h => ?_, fun h => ?_⟩ <;> simp [h]

variable (hr : s.sdosRun = true) (hu : s.nodeController = some u) (hd : d.length = 8)
  (hseg : s.edge.node.sdoPhase = 3 → bits (fld d 0 1) 0 7 = 0)
include hr hd hseg

theorem sdoRequest_abort (hc : bits (fld d 0 1) 5 3 = 4) : Runs (.sdoRequest t d) s fun v =>
    v.edge.node = { s.edge.node with sdoPhase := 0, sdoBytes := [], sdoPos := 0 } ∧ Only s v [.edge] [] := by
  obtain ⟨_, _, he, _⟩ := sdoRequest_eq (s := s.begin t) hr hd hseg
  exact .intro (congrArg Host.Outcome.next (he hc)) ⟨rfl, (only_updNode ..).begin⟩

include hu

theorem sdoRequest_unknown (hc : bits (fld d 0 1) 5 3 = 7) : Runs (.sdoRequest t d) s fun v =>
    v.nodeSent u 100 (0x580 + s.nodeId) (sdoHead 0x80 (mux (fld d 1 2) (fld d 3 1)) ++ leBytes 4 0x05040001) ∧
      v.edge.node.sdoPhase = 0 ∧ Only s v [.edge] [] := by
  obtain ⟨_, _, _, he⟩ := sdoRequest_eq (s := s.begin t) hr hd hseg
  obtain ⟨hsent, hnode, hf⟩ := State.sdoAbort_spec (s := s.begin t) hu (mux (fld d 1 2) (fld d 3 1)) 0x05040001
  exact .intro (congrArg Host.Outcome.next (he hc)) ⟨hsent, congrArg NodeSt.sdoPhase hnode, hf.begin⟩

theorem sdoRequest_download (hc : bits (fld d 0 1) 5 3 = 1) (hexp : bit (fld d 0 1) 1 = false)
    (hw : s.sdoMayWrite (mux (fld d 1 2) (fld d 3 1)) = .ok) : Runs (.sdoRequest t d) s fun v =>
      v.edge.node.sdoPhase = 1 ∧ v.edge.node.sdoKey = mux (fld d 1 2) (fld d 3 1) ∧ v.edge.node.sdoBytes = [] ∧
      v.nodeSent u 100 (0x580 + s.nodeId) (sdoHead 0x60 (mux (fld d 1 2) (fld d 3 1)) ++ fill 4 0) ∧ Only s v [.edge] [] := by
  obtain ⟨_, he, _, _⟩ := sdoRequest_eq (s := s.begin t) hr hd hseg
  have hw' : ¬((s.begin t).sdoMayWrite (mux (fld d 1 2) (fld d 3 1)) ≠ .ok) := not_not.mpr hw
  have hi : sdoInitDown (fld d 0 1) (mux (fld d 1 2) (fld d 3 1)) d (s.begin t) =
      ((s.begin t).sdoOpen 1 (mux (fld d 1 2) (fld d 3 1)) (s.begin t).nodeRole [] 0 false).sdoReply (sdoHead 0x60 (mux (fld d 1 2) (fld d 3 1))) :=
    (if_neg (by rw [hexp]; exact Bool.false_ne_true)).trans (if_neg hw')
  have hl := length_sdoHead 0x60 (mux (fld d 1 2) (fld d 3 1))
  have hsent := State.sdoReply_sent (s := (s.begin t).sdoOpen 1 (mux (fld d 1 2) (fld d 3 1)) (s.begin t).nodeRole [] 0 false)
    ((State.nodeController_congr ..).trans hu) (b := sdoHead 0x60 (mux (fld d 1 2) (fld d 3 1))) (by omega)
  rw [hl] at hsent
  refine .intro (congrArg Host.Outcome.next ((he hc).trans hi)) ⟨?_, ?_, ?_, hsent, ?_⟩
  · rw [State.sdoReply_node]
    rfl
  · rw [State.sdoReply_node]
    rfl
  · rw [State.sdoReply_node]
    rfl
  · exact ((only_updNode ..).trans (only_sdoReply ..)).begin.mono (by simp) (by simp)

theorem sdoRequest_wrongToggle (hc : bits (fld d 0 1) 5 3 = 0) (hp : s.edge.node.sdoPhase = 1) (htog : bit (fld d 0 1) 4 ≠ s.edge.node.toggle) :
    Runs (.sdoRequest t d) s fun v => v.nodeSent u 100 (0x580 + s.nodeId) (sdoHead 0x80 s.edge.node.sdoKey ++ leBytes 4 0x05030000) ∧
      v.edge.node.sdoPhase = 0 ∧ Only s v [.edge] [] := by
  obtain ⟨he, _, _, _⟩ := sdoRequest_eq (s := s.begin t) hr hd hseg
  have hs : sdoDownSeg (fld d 0 1) d (s.begin t) = (s.begin t).sdoAbort s.edge.node.sdoKey 0x05030000 :=
    (if_neg (not_not.mpr hp)).trans (if_pos htog)
  obtain ⟨hsent, hnode, hf⟩ := State.sdoAbort_spec (s := s.begin t) hu s.edge.node.sdoKey 0x05030000
  exact .intro (congrArg Host.Outcome.next ((he hc).trans hs)) ⟨hsent, congrArg NodeSt.sdoPhase hnode, hf.begin⟩

omit hu

theorem sdoRequest_segment (hc : bits (fld d 0 1) 5 3 = 0) (hp : s.edge.node.sdoPhase = 1) (htog : bit (fld d 0 1) 4 = s.edge.node.toggle)
    (hlast : bit (fld d 0 1) 0 = false) (hlen : (s.edge.node.sdoBytes ++ slice d 1 (7 - bits (fld d 0 1) 1 3)).length ≤ 1048576) :
    Runs (.sdoRequest t d) s fun v =>
      v.edge.node = { s.edge.node with
        sdoBytes := s.edge.node.sdoBytes ++ slice d 1 (7 - bits (fld d 0 1) 1 3)
        toggle := !s.edge.node.toggle
        sdoLast := s.localAt t } ∧ Only s v [.edge] [] := by
  obtain ⟨he, _, _, _⟩ := sdoRequest_eq (s := s.begin t) hr hd hseg
  have hs : sdoDownSeg (fld d 0 1) d (s.begin t) = ((s.begin t).updNode fun x => { x with
      sdoBytes := s.edge.node.sdoBytes ++ slice d 1 (7 - bits (fld d 0 1) 1 3)
      toggle := !x.toggle
      sdoLast := s.localAt t }).sdoReply (leBytes 1 (0x20 + 16 * b2n s.edge.node.toggle)) :=
    (if_neg (not_not.mpr hp)).trans <| (if_neg (not_not.mpr htog)).trans <| (if_neg (Nat.not_lt.mpr hlen)).trans <|
      if_neg (by rw [hlast]; exact Bool.false_ne_true)
  refine .intro (congrArg Host.Outcome.next ((he hc).trans hs)) ⟨State.sdoReply_node .., ?_⟩
  exact ((only_updNode ..).trans (only_sdoReply ..)).begin.mono (by simp) (by simp)

end Request

/-! ### RPDOs (R265, R458, R460) -/

section Rpdo

variable {n : Nat} {b : Bytes}

/-- A PDO that the node takes: it is Operational and serves its dictionary, and the PDO exists. -/
theorem rpdoReceive_eq (hp : s.pdosRun = true) (ha : s.answers = true) (hn : n < 64) (hid : (pdoId (s.n (byIdx O.rpdoCOBID n))).isSome = true) :
    rpdoReceive n b s = if b.length < mapBytes (s.pdoMap (0x1600 + n)) then s.inc32 O.rpdoTimeouts
      else
        let v := s.updNode (fun x => { x with rpdoLast := ins x.rpdoLast n s.now })
        if v.n (byIdx O.rpdoTransmissionType n) ≤ 240 then v.updNode (fun x => { x with rpdoHeld := ins x.rpdoHeld n b })
        else applyRpdo (s.pdoMap (0x1600 + n)) b v := by
  unfold rpdoReceive
  rw [hp, ha, decide_eq_true hn, hid]
  rfl

variable (hp : s.pdosRun = true) (ha : s.answers = true) (hn : n < 64) (hid : (pdoId (s.n (byIdx O.rpdoCOBID n))).isSome = true)
include hp ha hn hid

theorem rpdoReceive_short (hb : b.length < mapBytes (s.pdoMap (0x1600 + n))) : Runs (.rpdoReceive t n b) s fun v =>
    v.n O.rpdoTimeouts = satN (2 ^ 32 - 1) (s.n O.rpdoTimeouts + 1) ∧ Only s v [] [O.rpdoTimeouts] :=
  .intro (congrArg Host.Outcome.next ((rpdoReceive_eq (s := s.begin t) hp ha hn hid).trans (if_pos hb)))
    ⟨by rw [State.inc32_self, State.begin_n], (only_inc32 ..).begin⟩

theorem rpdoReceive_synchronous (hb : mapBytes (s.pdoMap (0x1600 + n)) ≤ b.length) (hty : s.n (byIdx O.rpdoTransmissionType n) ≤ 240) :
    Runs (.rpdoReceive t n b) s fun v => v.edge.node = { s.edge.node with
      rpdoLast := ins s.edge.node.rpdoLast n (s.localAt t)
      rpdoHeld := ins s.edge.node.rpdoHeld n b } ∧ Only s v [.edge] [] :=
  .intro (congrArg Host.Outcome.next ((rpdoReceive_eq (s := s.begin t) hp ha hn hid).trans ((if_neg (Nat.not_lt.mpr hb)).trans (if_pos hty))))
    ⟨rfl, ((only_updNode ..).trans (only_updNode ..)).begin.mono (by simp) (by simp)⟩

theorem rpdoReceive_atOnce (hb : mapBytes (s.pdoMap (0x1600 + n)) ≤ b.length) (hty : 240 < s.n (byIdx O.rpdoTransmissionType n)) :
    Runs (.rpdoReceive t n b) s fun v =>
      v = applyRpdo (s.pdoMap (0x1600 + n)) b ((s.begin t).updNode (fun x => { x with rpdoLast := ins x.rpdoLast n (s.localAt t) })) :=
  .intro (congrArg Host.Outcome.next ((rpdoReceive_eq (s := s.begin t) hp ha hn hid).trans ((if_neg (Nat.not_lt.mpr hb)).trans
    (if_neg (Nat.not_le.mpr hty))))) rfl

end Rpdo

theorem rpdoEventTimer_due {n t0 : Nat} (hp : s.pdosRun = true) (hn : n < 64) (hl : look s.edge.node.rpdoLast n = some t0)
    (hms : s.n (byIdx O.rpdoEventTimer n) ≠ 0) (hdue : s.n (byIdx O.rpdoEventTimer n) * 1000000 ≤ s.now - t0) :
    rpdoEventTimer n s = (s.inc32 O.rpdoTimeouts).updNode (fun x => { x with rpdoLast := del x.rpdoLast n }) := by
  unfold rpdoEventTimer
  simp only [hl]
  exact if_pos (by rw [hp, decide_eq_true hn, bne_iff_ne.mpr hms, decide_eq_true hdue]; rfl)

theorem rpdoEventTimer_runs {n t0 : Nat} (hp : s.pdosRun = true) (hn : n < 64) (hl : look s.edge.node.rpdoLast n = some t0)
    (hms : s.n (byIdx O.rpdoEventTimer n) ≠ 0) (hdue : s.n (byIdx O.rpdoEventTimer n) * 1000000 ≤ s.localAt t - t0) :
    Runs (.rpdoEventTimer t n) s fun v => v.n O.rpdoTimeouts = satN (2 ^ 32 - 1) (s.n O.rpdoTimeouts + 1) ∧
      v.edge.node = { s.edge.node with rpdoLast := del s.edge.node.rpdoLast n } ∧ Only s v [.edge] [O.rpdoTimeouts] :=
  .intro (congrArg Host.Outcome.next (rpdoEventTimer_due (s := s.begin t) hp hn hl (by rwa [State.begin_n]) (by rwa [State.begin_n])))
    ⟨by rw [(only_updNode ..).n_all, State.inc32_self, State.begin_n], rfl, ((only_inc32 ..).trans (only_updNode ..)).begin⟩

/-! ### TPDOs (R460) -/

section Tpdo

variable {n id : Nat} {ext : Bool}

theorem State.sendTpdo_eq (hid : pdoId (s.n (byIdx O.tpdoCOBID n)) = some (ext, id)) :
    s.sendTpdo n = (s.nodeSend (n + 1) (b2n ext) id (s.sampleTpdo n)).updNode (fun x => { x with
      tpdoLast := ins x.tpdoLast n (s.nodeSend (n + 1) (b2n ext) id (s.sampleTpdo n)).now
      tpdoData := ins x.tpdoData n (s.sampleTpdo n)
      tpdoHeld := x.tpdoHeld.filter (fun k => k != n) }) := by
  unfold State.sendTpdo
  rw [hid]

/-- A TPDO that is sent waits at the node's controller; its time and data are kept, and it is held no more. -/
theorem State.sendTpdo_spec (hu : s.nodeController = some u) (hid : pdoId (s.n (byIdx O.tpdoCOBID n)) = some (ext, id)) :
    (s.sendTpdo n).nodeSent u (n + 1) id (s.sampleTpdo n) ∧ look (s.sendTpdo n).edge.node.tpdoLast n = some s.now ∧
      look (s.sendTpdo n).edge.node.tpdoData n = some (s.sampleTpdo n) ∧ n ∉ (s.sendTpdo n).edge.node.tpdoHeld ∧
      Only s (s.sendTpdo n) [.edge] [] := by
  rw [State.sendTpdo_eq hid, State.nodeSend_now]
  refine ⟨(State.nodeSend_sent hu ..).keep rfl, look_ins_self .., look_ins_self .., ?_, ?_⟩
  · exact fun hm => absurd (List.mem_filter.mp hm).2 (by simp)
  · exact ((only_nodeSend ..).trans (only_updNode ..)).mono (by simp) (by simp)

theorem tpdoEventTimer_due (hp : s.pdosRun = true) (hn : n < 64) (hty : 254 ≤ s.n (byIdx O.tpdoTransmissionType n))
    (hms : s.n (byIdx O.tpdoEventTimer n) ≠ 0)
    (hdue : ∀ t0, look s.edge.node.tpdoLast n = some t0 → s.n (byIdx O.tpdoEventTimer n) * 1000000 ≤ s.now - t0) :
    tpdoEventTimer n s = if s.inhibitOver n then s.sendTpdo n
      else s.updNode (fun x => { x with tpdoHeld := x.tpdoHeld.filter (fun k => k != n) ++ [n] }) := by
  unfold tpdoEventTimer
  dsimp only
  cases hl : look s.edge.node.tpdoLast n with
  | none => exact if_pos (by rw [hp, decide_eq_true hn, decide_eq_true hty, bne_iff_ne.mpr hms]; rfl)
  | some t0 =>
    dsimp only
    exact if_pos (by rw [hp, decide_eq_true hn, decide_eq_true hty, bne_iff_ne.mpr hms, decide_eq_true (hdue t0 hl)]; rfl)

variable (hp : s.pdosRun = true) (hu : s.nodeController = some u) (hid : pdoId (s.n (byIdx O.tpdoCOBID n)) = some (ext, id))

include hp in
theorem tpdoEventTimer_held (hn : n < 64) (hty : 254 ≤ s.n (byIdx O.tpdoTransmissionType n)) (hms : s.n (byIdx O.tpdoEventTimer n) ≠ 0)
    (hdue : ∀ t0, look s.edge.node.tpdoLast n = some t0 → s.n (byIdx O.tpdoEventTimer n) * 1000000 ≤ s.localAt t - t0)
    (hin : (s.begin t).inhibitOver n = false) :
    Runs (.tpdoEventTimer t n) s fun v => n ∈ v.edge.node.tpdoHeld ∧ v.canSt u = s.canSt u ∧ Only s v [.edge] [] := by
  have he := tpdoEventTimer_due (s := s.begin t) hp hn (by rwa [State.begin_n]) (by rwa [State.begin_n])
    (fun t0 h => by rw [State.begin_n]; exact hdue t0 h)
  have hr := he.trans (if_neg (by rw [hin]; exact Bool.false_ne_true))
  exact .intro (congrArg Host.Outcome.next hr) ⟨List.mem_append_right _ (List.mem_singleton.mpr rfl), rfl, (only_updNode ..).begin⟩

include hp hu hid

theorem tpdoEventTimer_sends (hn : n < 64) (hty : 254 ≤ s.n (byIdx O.tpdoTransmissionType n)) (hms : s.n (byIdx O.tpdoEventTimer n) ≠ 0)
    (hdue : ∀ t0, look s.edge.node.tpdoLast n = some t0 → s.n (byIdx O.tpdoEventTimer n) * 1000000 ≤ s.localAt t - t0)
    (hin : (s.begin t).inhibitOver n = true) : Runs (.tpdoEventTimer t n) s fun v => v.nodeSent u (n + 1) id ((s.begin t).sampleTpdo n) ∧
      look v.edge.node.tpdoLast n = some (s.localAt t) ∧ look v.edge.node.tpdoData n = some ((s.begin t).sampleTpdo n) ∧
      n ∉ v.edge.node.tpdoHeld ∧ Only s v [.edge] [] := by
  have he := tpdoEventTimer_due (s := s.begin t) hp hn (by rwa [State.begin_n]) (by rwa [State.begin_n])
    (fun t0 h => by rw [State.begin_n]; exact hdue t0 h)
  obtain ⟨hsent, hlast, hdata, hheld, hf⟩ := State.sendTpdo_spec (s := s.begin t) hu (by rwa [State.begin_n])
  exact .intro (congrArg Host.Outcome.next (he.trans (if_pos hin))) ⟨hsent, hlast, hdata, hheld, hf.begin⟩

theorem tpdoInhibitTime_sends (hh : n ∈ s.edge.node.tpdoHeld) (hin : (s.begin t).inhibitOver n = true) :
    Runs (.tpdoInhibitTime t n) s fun v => v.nodeSent u (n + 1) id ((s.begin t).sampleTpdo n) ∧
      look v.edge.node.tpdoLast n = some (s.localAt t) ∧ n ∉ v.edge.node.tpdoHeld ∧ Only s v [.edge] [] := by
  have hp' : (s.begin t).pdosRun = true := hp
  have he : tpdoInhibitTime n (s.begin t) = (s.begin t).sendTpdo n :=
    if_pos (by rw [hp', hin, List.contains_iff_mem.mpr (show n ∈ (s.begin t).edge.node.tpdoHeld from hh)]; rfl)
  obtain ⟨hsent, hlast, _, hheld, hf⟩ := State.sendTpdo_spec (s := s.begin t) hu (by rwa [State.begin_n])
  exact .intro (congrArg Host.Outcome.next he) ⟨hsent, hlast, hheld, hf.begin⟩

end Tpdo

/-! ### SYNC (R460) -/

theorem canSync_operational (c : Nat) (hp : s.pdosRun = true) (ha : s.answers = true) :
    canSync c s = (List.range 64).foldl (fun (s : State) n => s.syncTpdo c n)
      (s.edge.node.rpdoHeld.foldl (fun (s : State) e => applyRpdo (s.pdoMap (0x1600 + e.1)) e.2 s) (s.updNode (fun x => { x with rpdoHeld := [] }))) :=
  if_neg (by rw [hp, ha]; exact Bool.false_ne_true)

/-- A SYNC leaves an event-driven TPDO. -/
theorem State.syncTpdo_eventDriven (c : Nat) {n : Nat} (h : 240 < s.n (byIdx O.tpdoTransmissionType n)) : s.syncTpdo c n = s := if_pos (.inl h)

theorem canSync_idle (c : Nat) (hp : s.pdosRun = true) (ha : s.answers = true) (hh : s.edge.node.rpdoHeld = [])
    (hty : ∀ n, n < 64 → 240 < s.n (byIdx O.tpdoTransmissionType n)) : canSync c s = s := by
  have hn : s.updNode (fun x => { x with rpdoHeld := [] }) = s := by
    unfold State.updNode
    rw [← hh]
  rw [canSync_operational c hp ha, hh, List.foldl_nil, hn]
  exact List.foldlRecOn (motive := (· = s)) _ _ rfl fun v hv n hmem => by
    subst hv
    exact State.syncTpdo_eventDriven c (hty n (List.mem_range.mp hmem))

theorem syncReceive_runs_idle {c : Nat} (hp : s.pdosRun = true) (ha : s.answers = true) (hh : s.edge.node.rpdoHeld = [])
    (hty : ∀ n, n < 64 → 240 < s.n (byIdx O.tpdoTransmissionType n)) :
    Runs (.syncReceive t c) s fun v => v.edge = s.edge ∧ Only s v [] [] :=
  .intro (congrArg Host.Outcome.next (canSync_idle (s := s.begin t) c hp ha hh fun n hn => by rw [State.begin_n]; exact hty n hn))
    ⟨rfl, only_begin t s⟩

end Sys2Proof.Machine

open Sys2Proof Sys2Proof.Machine

/-- Settles O28, by the NMT state that each command enters and by the branch that a request's command specifier names. -/
theorem canopenNode : Obligations.CanopenNode :=
  ⟨fun _ _ _ h => ⟨nmtStart_runs h, nmtStop_runs h, nmtPreOperational_runs h, fun _ hu => ⟨nmtReset_runs rfl h hu, nmtReset_runs rfl h hu⟩⟩,
    fun _ _ _ hr hu hp => heartbeatProducer_runs hr hu hp, fun _ _ _ _ hr hk hl hms hdue => heartbeatConsumer_runs hr hk hl hms hdue,
    fun _ _ _ hr hu => ⟨fun hp hd => sdoTimeout_runs hr hu hp hd, fun d c m hd hc hm hseg => by
      subst hc hm
      exact ⟨sdoRequest_abort hr hd hseg, sdoRequest_download hr hu hd hseg, sdoRequest_wrongToggle hr hu hd hseg,
        sdoRequest_segment hr hd hseg, sdoRequest_unknown hr hu hd hseg⟩⟩⟩

/-- Settles O29, by what a PDO's type and timers make of it. -/
theorem canopenPdos : Obligations.CanopenPdos :=
  ⟨fun _ _ _ _ hp ha hn hid => ⟨rpdoReceive_short hp ha hn hid, rpdoReceive_synchronous hp ha hn hid, rpdoReceive_atOnce hp ha hn hid⟩,
    fun _ _ _ _ hp hn hl hms hdue => rpdoEventTimer_runs hp hn hl hms hdue,
    fun _ _ _ _ _ _ hp hu hid => ⟨fun hn hty hms hdue => ⟨tpdoEventTimer_sends hp hu hid hn hty hms hdue, tpdoEventTimer_held hp hn hty hms hdue⟩,
      tpdoInhibitTime_sends hp hu hid⟩,
    fun s t c hp ha => ⟨.intro (congrArg Host.Outcome.next (canSync_operational (s := s.begin t) c hp ha)) rfl,
      syncReceive_runs_idle hp ha⟩⟩
end

section
/-! Proofs about the MVB units and the gateway's telegrams (R262, R271, R274, R276). -/
namespace Sys2Proof.Machine
open Sys2Proof

variable {s : State} {t d : Nat}

theorem State.gptpNs_congr {s u : State} (ht : u.time = s.time) (hn : u.now = s.now) : u.gptpNs = s.gptpNs := by
  unfold State.gptpNs State.instNow State.instAt State.inst
  rw [ht, hn]

/-! ### The basic period (R262) -/

/-- What one step of a fold emits, and every step keeps, is on the wires at its end. -/
theorem mem_out_foldl {α : Type} {f : State → α → State} (hkeep : ∀ v a, ∀ o ∈ v.out, o ∈ (f v a).out) {l : List α} {a : α} (ha : a ∈ l)
    {o : Out} (ho : ∀ v, o ∈ (f v a).out) (v : State) : o ∈ (l.foldl f v).out := by
  have hstay (l : List α) : ∀ v : State, o ∈ v.out → o ∈ (l.foldl f v).out := fun v hv =>
    List.foldlRecOn (motive := fun w => o ∈ w.out) l f hv fun w hw a _ => hkeep w a o hw
  obtain ⟨l₁, l₂, rfl⟩ := List.append_of_mem ha
  rw [List.foldl_append, List.foldl_cons]
  exact hstay l₂ _ (ho _)

theorem only_mvbAnswer (s : State) (d a : Nat) : Only s (s.mvbAnswer d a) [] [byIdx O.mvbFrames d] :=
  ((only_emit ..).trans (only_inc64 ..)).mono (by simp) (by simp)

theorem State.mvbAnswer_out (s : State) (d a : Nat) : (s.mvbAnswer d a).out = s.out ++
    [.message "mvb" (4096 * d + a) (((s.mvbData d a).data ++ fill (2 * 2 ^ (s.mvbPort d a).2) 0).take (2 * 2 ^ (s.mvbPort d a).2))] := rfl

/-- The administrator sends the master frame of entry `e` of its table `b`, and answers it where the port is its own. -/
def State.mvbMaster (d : Nat) (b : Bytes) (s : State) (e : Nat) : State :=
  let a := fld b (4 * e) 2 % 4096
  let s := s.emit (.message "mvb-master" (4096 * d + a) [BitVec.ofNat 8 (fld b (4 * e + 2) 1)])
  if (s.mvbPort d a).1 = 1 then s.mvbAnswer d a else s

theorem State.mvbMaster_out (b : Bytes) (s : State) (e : Nat) :
    ∀ o ∈ s.out ++ [.message "mvb-master" (4096 * d + fld b (4 * e) 2 % 4096) [BitVec.ofNat 8 (fld b (4 * e + 2) 1)]],
      o ∈ (s.mvbMaster d b e).out := by
  intro o ho
  unfold State.mvbMaster
  dsimp only
  split
  · rw [State.mvbAnswer_out]
    exact List.mem_append_left _ ho
  · exact ho

theorem only_mvbMaster (b : Bytes) (s : State) (e : Nat) : Only s (s.mvbMaster d b e) [] [byIdx O.mvbFrames d] :=
  .ite (((only_emit ..).trans (only_mvbAnswer ..)).mono (by simp) (by simp)) ((only_emit ..).mono (by simp) (by simp))

/-- The entries of a master frame table `b` that are due at a time. -/
def mvbDue (b : Bytes) (ns : Nat) : List Nat :=
  (List.range (b.length / 4)).filter (fun e => ns / 1000000 % 2 ^ fld b (4 * e + 3) 1 == e % 2 ^ fld b (4 * e + 3) 1)

theorem mvbBasicPeriod_sends (hon : s.edgeOn (epMvb d) = true) (hr : s.n (byIdx O.mvbRole d) = 1) :
    mvbBasicPeriod d s = (mvbDue (s.blob (byIdx O.masterFrameTable d)) s.gptpNs).foldl
      (State.mvbMaster d (s.blob (byIdx O.masterFrameTable d))) s :=
  if_neg (by rw [hon, hr]; decide)

theorem mvbBasicPeriod_runs (hon : s.edgeOn (epMvb d) = true) (hr : s.n (byIdx O.mvbRole d) = 1) :
    Runs (.mvbBasicPeriod t d) s fun v =>
      (∀ e, 4 * e + 4 ≤ (s.blob (byIdx O.masterFrameTable d)).length →
        (s.begin t).gptpNs / 1000000 % 2 ^ fld (s.blob (byIdx O.masterFrameTable d)) (4 * e + 3) 1 =
          e % 2 ^ fld (s.blob (byIdx O.masterFrameTable d)) (4 * e + 3) 1 →
        .message "mvb-master" (4096 * d + fld (s.blob (byIdx O.masterFrameTable d)) (4 * e) 2 % 4096)
          [BitVec.ofNat 8 (fld (s.blob (byIdx O.masterFrameTable d)) (4 * e + 2) 1)] ∈ v.out) ∧ Only s v [] [byIdx O.mvbFrames d] := by
  refine .intro (congrArg Host.Outcome.next (mvbBasicPeriod_sends (s := s.begin t) hon (by rwa [State.begin_n]))) ⟨fun e hlen hdue => ?_, ?_⟩
  · have hmem : e ∈ mvbDue ((s.begin t).blob (byIdx O.masterFrameTable d)) (s.begin t).gptpNs :=
      List.mem_filter.mpr ⟨List.mem_range.mpr (show e + 1 ≤ (s.blob (byIdx O.masterFrameTable d)).length / 4 by omega), beq_iff_eq.mpr hdue⟩
    exact mem_out_foldl (fun v a o ho => State.mvbMaster_out _ v a o (List.mem_append_left _ ho)) hmem
      (fun v => State.mvbMaster_out _ v e _ (List.mem_append_right _ (List.mem_singleton.mpr rfl))) _
  · exact (Only.foldl _ _ (Only.same _ _ _) fun v e _ h => h.obj (only_mvbMaster _ v e) (by simp)).begin

/-! ### The lines of a unit (R262) -/

/-- The line flags of a unit after a frame: `x` says whether the controller listens to line B. -/
def State.lineFlags (s : State) (d : Nat) (a b x : Bool) : State :=
  ((s.setFlag (byIdx O.lineStatus d) 0 a).setFlag (byIdx O.lineStatus d) 1 b).setFlag (byIdx O.lineStatus d) 2 x

theorem State.mvbLines_cases (s : State) (d : Nat) (a b : Bool) : ∃ x, s.mvbLines d a b = s.lineFlags d a b x ∨
    s.mvbLines d a b = (s.lineFlags d a b x).inc32 (byIdx O.lineSwitchovers d) := by
  unfold State.mvbLines
  dsimp only
  generalize (if s.flag (byIdx O.lineStatus d) 2 = true then !b && a else !a && b) = move
  cases move
  · exact ⟨_, .inl rfl⟩
  · exact ⟨_, .inr rfl⟩

theorem State.mvbLines_out (s : State) (d : Nat) (a b : Bool) : (s.mvbLines d a b).out = s.out := by
  obtain ⟨x, h | h⟩ := s.mvbLines_cases d a b <;> rw [h] <;> rfl

theorem State.mvbLines_now (s : State) (d : Nat) (a b : Bool) : (s.mvbLines d a b).now = s.now := by
  obtain ⟨x, h | h⟩ := s.mvbLines_cases d a b <;> rw [h] <;> rfl

theorem State.mvbLines_free (s : State) (d : Nat) (a b : Bool) : (s.mvbLines d a b).freeCtr = s.freeCtr := by
  obtain ⟨x, h | h⟩ := s.mvbLines_cases d a b <;> rw [h] <;> rfl

/-- What a frame changes of a unit's objects. -/
def mvbLineKeys : List Nat := [O.lineStatus, O.lineSwitchovers]

theorem only_lineFlags (s : State) (d : Nat) (a b x : Bool) : Only s (s.lineFlags d a b x) [] (mvbLineKeys.map (byIdx · d)) :=
  (((only_setFlag ..).trans (only_setFlag ..)).trans (only_setFlag ..)).mono (by simp) (by simp [mvbLineKeys])

theorem only_mvbLines (s : State) (d : Nat) (a b : Bool) : Only s (s.mvbLines d a b) [] (mvbLineKeys.map (byIdx · d)) := by
  obtain ⟨x, h | h⟩ := s.mvbLines_cases d a b
  · exact h ▸ only_lineFlags ..
  · exact h ▸ (only_lineFlags ..).obj (only_inc32 ..) (by simp [mvbLineKeys])

theorem State.lineFlags_self (s : State) (d : Nat) (a b x : Bool) :
    (s.lineFlags d a b x).flag (byIdx O.lineStatus d) 0 = a ∧ (s.lineFlags d a b x).flag (byIdx O.lineStatus d) 1 = b := by
  unfold State.lineFlags
  simp only [State.setFlag_flag]
  exact ⟨rfl, rfl⟩

/-- The line flags are those of the frame also after other objects of the unit have changed. -/
theorem State.mvbLines_flag {u : State} {P : List Part} {l : List Nat} {a b : Bool} (h : Only (s.mvbLines d a b) u P (l.map (byIdx · d)))
    (hk : O.lineStatus ∉ l) (hid : ∀ m ∈ l, m % 256 ≠ 2) :
    u.flag (byIdx O.lineStatus d) 0 = a ∧ u.flag (byIdx O.lineStatus d) 1 = b := by
  have hn : (s.mvbLines d a b).flag (byIdx O.lineStatus d) 0 = a ∧ (s.mvbLines d a b).flag (byIdx O.lineStatus d) 1 = b := by
    obtain ⟨x, he | he⟩ := s.mvbLines_cases d a b
    · exact he ▸ s.lineFlags_self ..
    · have hs := (only_inc32 (s.lineFlags d a b x) (byIdx O.lineSwitchovers d)).n_byIdx (k := O.lineStatus) (l := [O.lineSwitchovers])
        (by decide) (by decide)
      rw [he]
      unfold State.flag
      rw [hs]
      exact s.lineFlags_self ..
  unfold State.flag
  rw [h.n_byIdx hk hid]
  exact hn

/-- A frame that no line carried well. -/
def State.mvbBad (s : State) (d : Nat) (a b : Bool) : State := (s.mvbLines d a b).inc32 (byIdx O.mvbFrameErrors d)

theorem only_mvbBad (s : State) (d : Nat) (a b : Bool) :
    Only s (s.mvbBad d a b) [] [byIdx O.lineStatus d, byIdx O.lineSwitchovers d, byIdx O.mvbFrameErrors d] :=
  ((only_mvbLines ..).trans (only_inc32 ..)).mono (by simp) (by simp [mvbLineKeys])

theorem State.mvbBad_errors (s : State) (d : Nat) (a b : Bool) :
    (s.mvbBad d a b).n (byIdx O.mvbFrameErrors d) = satN (2 ^ 32 - 1) (s.n (byIdx O.mvbFrameErrors d) + 1) := by
  unfold State.mvbBad
  rw [State.inc32_self, (only_mvbLines ..).n_byIdx (by decide) (by decide)]

/-- A valid frame on a unit: the line flags, valid traffic and a count. -/
def State.mvbHeard (s : State) (d : Nat) (a b : Bool) : State := (s.mvbLines d a b).traffic.inc64 (byIdx O.mvbFrames d)

theorem only_mvbHeard (s : State) (d : Nat) (a b : Bool) :
    Only s (s.mvbHeard d a b) [.power] [byIdx O.lineStatus d, byIdx O.lineSwitchovers d, byIdx O.mvbFrames d] :=
  (((only_mvbLines ..).trans (only_traffic _)).trans (only_inc64 ..)).mono (by simp) (by simp [mvbLineKeys])

theorem State.mvbHeard_out (s : State) (d : Nat) (a b : Bool) : (s.mvbHeard d a b).out = s.out := s.mvbLines_out d a b

theorem State.mvbHeard_free (s : State) (d : Nat) (a b : Bool) : (s.mvbHeard d a b).freeCtr = s.freeCtr := s.mvbLines_free d a b

theorem State.mvbHeard_gptpNs (s : State) (d : Nat) (a b : Bool) : (s.mvbHeard d a b).gptpNs = s.gptpNs :=
  State.gptpNs_congr ((only_mvbHeard ..).rest .time (by decide)) (s.mvbLines_now d a b)

theorem State.mvbHeard_frames (s : State) (d : Nat) (a b : Bool) :
    (s.mvbHeard d a b).n (byIdx O.mvbFrames d) = satN (2 ^ 64 - 1) (s.n (byIdx O.mvbFrames d) + 1) := by
  unfold State.mvbHeard
  rw [State.inc64_self, ((only_mvbLines ..).trans (only_traffic _)).n_byIdx (l := mvbLineKeys) (by decide) (by decide)]

theorem State.mvbHeard_flag (s : State) (d : Nat) (a b : Bool) :
    (s.mvbHeard d a b).flag (byIdx O.lineStatus d) 0 = a ∧ (s.mvbHeard d a b).flag (byIdx O.lineStatus d) 1 = b :=
  State.mvbLines_flag (l := [O.mvbFrames]) ((only_traffic _).trans (only_inc64 ..)) (by decide) (by decide)

theorem State.mvbPort_congr {s u : State} {P : List Part} {K : List Nat} (h : Only s u P K) (hb : Part.blobs ∉ P) (d a : Nat) :
    u.mvbPort d a = s.mvbPort d a := by
  unfold State.mvbPort
  rw [h.blob_eq hb]

theorem State.mvbData_congr {s u : State} (h : u.edge = s.edge) (d a : Nat) : u.mvbData d a = s.mvbData d a := by
  unfold State.mvbData
  rw [h]

theorem mvb_kind (d : Nat) : bits (epMvb d) 4 3 = 3 := by
  unfold epMvb epEdge bits
  omega

/-- The lines of a unit are no objects of a wake. -/
theorem State.mvbLines_unitForwards (hd : d < 8) (a b : Bool) : (s.mvbLines d a b).unitForwards (epMvb d) = s.unitForwards (epMvb d) := by
  have hk : bySub O.activityWake (bits (epMvb d) 8 3) ∉ mvbLineKeys.map (byIdx · d) := by
    have : bits (epMvb d) 8 3 < 8 := Nat.mod_lt _ (by decide)
    simp only [mvbLineKeys, List.map_cons, List.map_nil, List.mem_cons, List.not_mem_nil, or_false, bySub, byIdx, O.activityWake, O.lineStatus,
      O.lineSwitchovers]
    omega
  unfold State.unitForwards
  rw [mvb_kind, if_neg (by decide), if_neg (by decide), (only_mvbLines ..).n_eq hk (nodeID_not_mem_byIdx d (by decide))]

/-- A frame is noted as valid traffic, with nothing else, on a unit whose wake does not forward. -/
theorem State.mvbLines_trafficOn (hd : d < 8) (hf : s.power.forwardOn ≠ some (epMvb d)) (hu : s.unitForwards (epMvb d) = false)
    (a b : Bool) : (s.mvbLines d a b).trafficOn (epMvb d) = (s.mvbLines d a b).traffic := by
  have hp : (s.mvbLines d a b).power = s.power := (only_mvbLines ..).rest .power (by decide)
  exact State.trafficOn_plain (hp ▸ hf) ((State.mvbLines_unitForwards hd a b).trans hu)

/-! ### Master frames (R262) -/

section Frames

variable {a k fcode : Nat} {la lb : Bool} {b : Bytes}

theorem mvbMasterFrame_bad (hon : s.edgeOn (epMvb d) = true) : mvbMasterFrame d fcode a false false s = s.mvbBad d false false := by
  unfold mvbMasterFrame
  rw [if_neg (by rw [hon]; decide)]
  rfl

theorem mvbMasterFrame_runs_bad (hon : s.edgeOn (epMvb d) = true) (ha : la = false) (hb : lb = false) :
    Runs (.mvbMasterFrame t d fcode a la lb) s fun v =>
      v.n (byIdx O.mvbFrameErrors d) = satN (2 ^ 32 - 1) (s.n (byIdx O.mvbFrameErrors d) + 1) ∧ v.flag (byIdx O.lineStatus d) 0 = false ∧
      v.flag (byIdx O.lineStatus d) 1 = false ∧ Only s v [] [byIdx O.lineStatus d, byIdx O.lineSwitchovers d, byIdx O.mvbFrameErrors d] := by
  subst ha hb
  obtain ⟨h0, h1⟩ := State.mvbLines_flag (s := s.begin t) (a := false) (b := false) (l := [O.mvbFrameErrors])
    (only_inc32 _ (byIdx O.mvbFrameErrors d)) (by decide) (by decide)
  exact .intro (congrArg Host.Outcome.next (mvbMasterFrame_bad (s := s.begin t) hon))
    ⟨by rw [State.mvbBad_errors, State.begin_n], h0, h1, (only_mvbBad ..).begin⟩

variable (hd : d < 8) (hon : s.edgeOn (epMvb d) = true) (hf : s.power.forwardOn ≠ some (epMvb d)) (hu : s.unitForwards (epMvb d) = false)
  (hl : (la || lb) = true)

include hd hon hf hu hl

/-- A valid master frame is heard; a source port of its F-code answers it, or the status word of the device's own address. -/
theorem mvbMasterFrame_good : mvbMasterFrame d fcode a la lb s =
    if fcode ≤ 4 then (if ((s.mvbHeard d la lb).mvbPort d a).1 = 1 ∧ ((s.mvbHeard d la lb).mvbPort d a).2 = fcode
      then (s.mvbHeard d la lb).mvbAnswer d a else s.mvbHeard d la lb)
    else if fcode = 15 ∧ a = (s.mvbHeard d la lb).n (byIdx O.mvbDeviceAddress d) then
      ((s.mvbHeard d la lb).emit (.message "mvb" (4096 * d + a) (beBytes 2 ((s.mvbHeard d la lb).free % 65536)))).drawn
    else s.mvbHeard d la lb := by
  unfold mvbMasterFrame
  dsimp only
  rw [if_neg (by rw [hon]; decide), State.mvbLines_trafficOn hd hf hu,
    if_neg (show ¬(!la && !lb) = true by rw [← Bool.not_or, hl]; decide)]
  rfl

theorem mvbMasterFrame_runs_port (hc : fcode ≤ 4) (hp : s.mvbPort d a = (1, fcode)) : Runs (.mvbMasterFrame t d fcode a la lb) s fun v =>
    .message "mvb" (4096 * d + a) (((s.mvbData d a).data ++ fill (2 * 2 ^ fcode) 0).take (2 * 2 ^ fcode)) ∈ v.out ∧
      v.flag (byIdx O.lineStatus d) 0 = la ∧ v.flag (byIdx O.lineStatus d) 1 = lb ∧
      Only s v [.power] [byIdx O.lineStatus d, byIdx O.lineSwitchovers d, byIdx O.mvbFrames d] := by
  have h := only_mvbHeard (s.begin t) d la lb
  have hp' : ((s.begin t).mvbHeard d la lb).mvbPort d a = (1, fcode) := (State.mvbPort_congr h (by decide) d a).trans hp
  have hdata : ((s.begin t).mvbHeard d la lb).mvbData d a = s.mvbData d a := State.mvbData_congr (h.rest .edge (by decide)) d a
  have he := mvbMasterFrame_good (s := s.begin t) (fcode := fcode) (a := a) hd hon hf hu hl
  rw [if_pos hc, hp', if_pos ⟨rfl, rfl⟩] at he
  obtain ⟨h0, h1⟩ := State.mvbLines_flag (s := s.begin t) (a := la) (b := lb) (l := [O.mvbFrames, O.mvbFrames])
    (((only_traffic _).trans (only_inc64 _ (byIdx O.mvbFrames d))).trans (only_mvbAnswer _ d a)) (by decide) (by decide)
  refine .intro (congrArg Host.Outcome.next he) ⟨?_, h0, h1, ((h.trans (only_mvbAnswer ..)).mono (by simp) (by simp)).begin⟩
  rw [State.mvbAnswer_out, hp', hdata]
  exact List.mem_append_right _ (List.mem_singleton.mpr rfl)

theorem mvbMasterFrame_runs_status (hc : fcode = 15) (ha : a = s.n (byIdx O.mvbDeviceAddress d)) :
    Runs (.mvbMasterFrame t d fcode a la lb) s fun v => .message "mvb" (4096 * d + a) (beBytes 2 (s.free % 65536)) ∈ v.out ∧
      v.n (byIdx O.mvbFrames d) = satN (2 ^ 64 - 1) (s.n (byIdx O.mvbFrames d) + 1) ∧
      Only s v [.free, .power] [byIdx O.lineStatus d, byIdx O.lineSwitchovers d, byIdx O.mvbFrames d] := by
  subst hc
  have h := only_mvbHeard (s.begin t) d la lb
  have ha' : a = ((s.begin t).mvbHeard d la lb).n (byIdx O.mvbDeviceAddress d) := by
    rw [h.n_byIdx (l := [O.lineStatus, O.lineSwitchovers, O.mvbFrames]) (by decide) (by decide), State.begin_n]
    exact ha
  have hfree : ((s.begin t).mvbHeard d la lb).free = s.free := congrArg Config.freeNat (State.mvbHeard_free ..)
  have he := mvbMasterFrame_good (s := s.begin t) (fcode := 15) (a := a) hd hon hf hu hl
  rw [if_neg (by decide), if_pos ⟨rfl, ha'⟩, hfree] at he
  refine .intro (congrArg Host.Outcome.next he) ⟨List.mem_append_right _ (List.mem_singleton.mpr rfl), ?_,
    ((h.trans ((only_emit ..).trans (only_drawn _))).mono (by simp) (by simp)).begin⟩
  rw [((only_emit ..).trans (only_drawn _)).n_all, State.mvbHeard_frames, State.begin_n]

/-! ### Slave frames (R262) -/

omit hd hf hu hl in
theorem mvbSlaveFrame_bad (hp : s.mvbPort d a = (2, k)) (hb : b.length ≠ 2 * 2 ^ k) : mvbSlaveFrame d a b la lb s = s.mvbBad d la lb := by
  have hp' : (s.mvbLines d la lb).mvbPort d a = (2, k) := (State.mvbPort_congr (only_mvbLines ..) (by decide) d a).trans hp
  unfold mvbSlaveFrame
  dsimp only
  rw [if_neg (by rw [hon]; decide), hp', if_pos (by simpa using .inr hb)]
  rfl

omit hd hf hu hl in
theorem mvbSlaveFrame_runs_bad (hp : s.mvbPort d a = (2, k)) (hb : b.length ≠ 2 * 2 ^ k) : Runs (.mvbSlaveFrame t d a b la lb) s fun v =>
    v.n (byIdx O.mvbFrameErrors d) = satN (2 ^ 32 - 1) (s.n (byIdx O.mvbFrameErrors d) + 1) ∧ v.edge = s.edge ∧
      Only s v [] [byIdx O.lineStatus d, byIdx O.lineSwitchovers d, byIdx O.mvbFrameErrors d] := by
  have h := (only_mvbBad (s.begin t) d la lb).begin
  exact .intro (congrArg Host.Outcome.next (mvbSlaveFrame_bad (s := s.begin t) hon hp hb))
    ⟨by rw [State.mvbBad_errors, State.begin_n], h.rest .edge (by decide), h⟩

/-- A sink port takes the data of a frame and its time. -/
def State.mvbStored (s : State) (d a : Nat) (b : Bytes) : State :=
  { s with edge := { s.edge with mvb := ins s.edge.mvb (4096 * d + a) ⟨b, s.gptpNs⟩ } }

omit hd hon hf hu hl in
theorem State.mvbStored_data (s : State) (d a : Nat) (b : Bytes) : (s.mvbStored d a b).mvbData d a = ⟨b, s.gptpNs⟩ := by
  unfold State.mvbData State.mvbStored get
  rw [look_ins_self]
  rfl

theorem mvbSlaveFrame_good (hp : s.mvbPort d a = (2, k)) (hb : b.length = 2 * 2 ^ k) :
    Gathered ((s.mvbHeard d la lb).mvbStored d a b) (mvbSlaveFrame d a b la lb s) := by
  have hp' : (s.mvbLines d la lb).mvbPort d a = (2, k) := (State.mvbPort_congr (only_mvbLines ..) (by decide) d a).trans hp
  unfold mvbSlaveFrame
  dsimp only
  rw [if_neg (by rw [hon]; decide), hp', State.mvbLines_trafficOn hd hf hu, if_neg (by simp [← Bool.not_or, hl, hb]), if_pos rfl]
  exact .foldl (fun v m => v.setMsg_gathered ..) _ _

theorem mvbSlaveFrame_runs (hp : s.mvbPort d a = (2, k)) (hb : b.length = 2 * 2 ^ k) : Runs (.mvbSlaveFrame t d a b la lb) s fun v =>
    v.n (byIdx O.mvbFrames d) = satN (2 ^ 64 - 1) (s.n (byIdx O.mvbFrames d) + 1) ∧ v.mvbData d a = ⟨b, (s.begin t).gptpNs⟩ ∧
      Only s v [.edge, .power] [byIdx O.lineStatus d, byIdx O.lineSwitchovers d, byIdx O.mvbFrames d] := by
  have hg := mvbSlaveFrame_good (s := s.begin t) hd hon hf hu hl hp hb
  have h := only_mvbHeard (s.begin t) d la lb
  have hst : Only ((s.begin t).mvbHeard d la lb) (mvbSlaveFrame d a b la lb (s.begin t)) [.edge] [] :=
    ((Only.same _ [.edge] []).setEdge _ (by simp)).one hg.only (by simp)
  refine .intro rfl ⟨?_, ?_, ((h.trans hst).mono (by simp) (by simp)).begin⟩
  · rw [hst.n_all, State.mvbHeard_frames, State.begin_n]
  · rw [hg.mvbData, State.mvbStored_data, State.mvbHeard_gptpNs]

end Frames

/-! ### Telegrams (R271, R274, R276) -/

section Telegrams

variable {e slot m : Nat} {b : Bytes} (hon : s.edgeOn e = true)
  (hm : s.messages.filter (fun m => gmKind (s.message m) != 3 && !gmOut (s.message m) && gmContract (s.message m) == slot) = [m])

include hon hm

theorem telegramReceive_foreign {at_ : Nat} (ht : fldBE b (etOff b) 2 ≠ 0x88B5)
    (hx : ¬((parseL3 b).v4 = true ∧ (parseL3 b).proto = 17 ∧ (parseL3 b).anyFrag = false)) :
    telegramReceive e slot b at_ s = s.setMsg m { s.msgSt m with errors := satN (2 ^ 32 - 1) ((s.msgSt m).errors + 1) } := by
  unfold telegramReceive
  dsimp only
  rw [if_neg (by rw [hon]; decide), if_neg ht, if_neg hx, hm]
  rfl

theorem telegramReceive_runs_foreign {at_ : Nat} (ht : fldBE b (etOff b) 2 ≠ 0x88B5)
    (hx : ¬((parseL3 b).v4 = true ∧ (parseL3 b).proto = 17 ∧ (parseL3 b).anyFrag = false)) : Runs (.telegramReceive t e slot b at_) s fun v =>
      v.msgSt m = { s.msgSt m with errors := satN (2 ^ 32 - 1) ((s.msgSt m).errors + 1) } ∧ Only s v [.edge] [] :=
  .intro (congrArg Host.Outcome.next (telegramReceive_foreign (s := s.begin t) hon hm ht hx))
    ⟨get_put_self .., (State.setMsg_gathered ..).only.begin⟩

theorem telegramReceive_layer2 {at_ : Nat} (ht : fldBE b (etOff b) 2 = 0x88B5) (hv : fld b (etOff b + 2) 1 = 1)
    (hk : gmKind (s.message m) = 2) (hi : gmIdent (s.message m) = fldBE (b.drop (etOff b + 2)) 2 2)
    (hlen : 0x14 + fldBE (b.drop (etOff b + 2)) 0x10 2 ≤ (b.drop (etOff b + 2)).length) : telegramReceive e slot b at_ s =
      s.extract m (slice (b.drop (etOff b + 2)) 0x14 (fldBE (b.drop (etOff b + 2)) 0x10 2)) (s.instAt 0 at_) := by
  have hl2 : [m].filter (fun m => gmKind (s.message m) == 2 && gmIdent (s.message m) == fldBE (b.drop (etOff b + 2)) 2 2) = [m] := by
    rw [List.filter_singleton, hk, hi]
    simp
  have hgood : ¬(fld (b.drop (etOff b + 2)) 0 1 ≠ 1 ∨ [m].isEmpty = true ∨
      (b.drop (etOff b + 2)).length < 0x14 + fldBE (b.drop (etOff b + 2)) 0x10 2) :=
    not_or.mpr ⟨not_not.mpr hv, not_or.mpr ⟨Bool.false_ne_true, Nat.not_lt.mpr hlen⟩⟩
  unfold telegramReceive
  dsimp only
  rw [if_neg (by rw [hon]; decide), if_pos ht, hm, hl2, if_neg hgood]
  rfl

theorem telegramReceive_runs_layer2 {at_ : Nat} (ht : fldBE b (etOff b) 2 = 0x88B5) (hv : fld b (etOff b + 2) 1 = 1)
    (hk : gmKind (s.message m) = 2) (hi : gmIdent (s.message m) = fldBE (b.drop (etOff b + 2)) 2 2)
    (hlen : 0x14 + fldBE (b.drop (etOff b + 2)) 0x10 2 ≤ (b.drop (etOff b + 2)).length) : Runs (.telegramReceive t e slot b at_) s fun v =>
      v = (s.begin t).extract m (slice (b.drop (etOff b + 2)) 0x14 (fldBE (b.drop (etOff b + 2)) 0x10 2)) (s.instAt 0 at_) ∧
      Only s v [.edge] [] :=
  .intro (congrArg Host.Outcome.next (telegramReceive_layer2 (s := s.begin t) hon hm ht hv hk hi hlen))
    ⟨rfl, (State.extract_gathered ..).only.begin⟩

end Telegrams

end Sys2Proof.Machine

open Sys2Proof Sys2Proof.Machine

/-- Settles O30, by the port that a frame's address names and by the EtherType of a telegram. -/
theorem mvbAndTelegrams : Obligations.MvbAndTelegrams :=
  ⟨fun _ _ _ hon hr => mvbBasicPeriod_runs hon hr,
    fun _ _ _ _ _ _ _ hd hon hf hu => ⟨mvbMasterFrame_runs_bad hon, mvbMasterFrame_runs_port hd hon hf hu, mvbMasterFrame_runs_status hd hon hf hu⟩,
    fun _ _ _ _ _ _ _ _ hd hon hf hu hl hp => ⟨mvbSlaveFrame_runs_bad hon hp, mvbSlaveFrame_runs hd hon hf hu hl hp⟩,
    fun _ _ _ _ _ _ _ hon hm => ⟨telegramReceive_runs_foreign hon hm, telegramReceive_runs_layer2 hon hm⟩⟩
end

section
/-! Proofs about Saddle flits and transactions (R290 to R293, R301). -/
namespace Sys2Proof.Machine
open Sys2Proof

variable {s : State} {t d p : Nat}

/-! ### Flits (R290) -/

/-- A trained link's replay is counted; a flit that fails again stops the link. -/
def State.replayed (s : State) (d p : Nat) (again : Bool) : State :=
  let s := s.inc32 (portKey O.flitReplays d p)
  if again then { s with bridge := { s.bridge with stopped := (4 * d + p) :: s.bridge.stopped } } else s

theorem only_replayed (s : State) (again : Bool) : Only s (s.replayed d p again) [.bridge] [portKey O.flitReplays d p] :=
  .ite (((only_inc32 ..).mono (by simp) (by simp)).setBridge _ (by simp)) ((only_inc32 ..).mono (by simp) (by simp))

theorem flitReplay_runs {again : Bool} (h : s.trained d p = true) : Runs (.flitReplay t d p again) s fun v =>
    v.n (portKey O.flitReplays d p) = satN (2 ^ 32 - 1) (s.n (portKey O.flitReplays d p) + 1) ∧
      v.bridge.stopped = (if again then (4 * d + p) :: s.bridge.stopped else s.bridge.stopped) ∧
      Only s v [.bridge] [portKey O.flitReplays d p] := by
  have h' : (s.begin t).trained d p = true := by
    unfold State.trained State.saddle
    rw [State.begin_n]
    exact h
  have he : flitReplay d p again (s.begin t) = (s.begin t).replayed d p again := if_pos h'
  refine .intro (congrArg Host.Outcome.next he) ⟨?_, ?_, (only_replayed ..).begin⟩
  · rw [← State.begin_n s t, ← State.inc32_self]
    cases again <;> rfl
  · cases again <;> rfl

/-! ### Requests (R291, R292) -/

theorem State.nextHop_setBridge (s : State) (x : BridgeSt) (a b : Nat) : { s with bridge := x }.nextHop a b = s.nextHop a b := rfl

/-- The state with other tracking entries of transactions. -/
def State.withTxns (s : State) (l : List Txn) : State := { s with bridge := { s.bridge with txns := l } }

theorem only_withTxns (s : State) (l : List Txn) : Only s (s.withTxns l) [.bridge] [] := (Only.same s _ _).setBridge _ (by simp)

/-- Only the tracking entries of transactions differ. -/
theorem State.trackTxn_eq (s : State) (d p : Nat) (x : Txn) : ∃ l, s.trackTxn d p x = s.withTxns l := by
  unfold State.trackTxn
  split
  · exact ⟨_, rfl⟩
  · exact ⟨_, rfl⟩

theorem only_trackTxn (s : State) (d p : Nat) (x : Txn) : Only s (s.trackTxn d p x) [.bridge] [] := by
  obtain ⟨l, hl⟩ := s.trackTxn_eq d p x
  rw [hl]
  exact only_withTxns ..

/-- The request takes an entry of a link's forwarding. -/
def State.withForwarding (s : State) (k : Nat) (x : Txn) : State :=
  { s with bridge := { s.bridge with forwarding := upd [] s.bridge.forwarding k (· ++ [x]) } }

theorem only_withForwarding (s : State) (k : Nat) (x : Txn) : Only s (s.withForwarding k x) [.bridge] [] :=
  (Only.same s _ _).setBridge _ (by simp)

theorem State.withForwarding_self (s : State) (k : Nat) (x : Txn) :
    get [] (s.withForwarding k x).bridge.forwarding k = get [] s.bridge.forwarding k ++ [x] := by
  unfold State.withForwarding
  exact get_upd_self ([] : List Txn) s.bridge.forwarding k (· ++ [x])

section Request

variable {x : Txn} (hup : s.dieUp d = true) (hs : s.saddle d p = linkSERVICE) (hst : s.bridge.stopped.contains (4 * d + p) = false)

include hup hs hst

/-- On a port in service a request is completed where its die is absent, served at its target and forwarded elsewhere. -/
theorem saddleRequest_taken : saddleRequest d p x [] s = if !s.hasDie x.target then (s.trackTxn d p x).sendCompletion x txUNSUPPORTED 0
    else if x.target = d then (s.trackTxn d p x).serveHere d x [] else (s.trackTxn d p x).forwardTxn d p x := by
  unfold saddleRequest
  rw [if_pos (by rw [hup, hs, hst]; decide)]
  obtain ⟨l, hl⟩ := s.trackTxn_eq d p x
  rw [hl]
  rfl

theorem saddleRequest_runs_absent (ht : s.hasDie x.target = false) : Runs (.saddleRequestReceive t d p x []) s fun v =>
    .completion x.die x.id 1 0 ∈ v.out ∧ Only s v [.bridge] [] := by
  have he := saddleRequest_taken (s := s.begin t) (x := x) hup (by unfold State.saddle; rw [State.begin_n]; exact hs) hst
  rw [if_pos (show (!(s.begin t).hasDie x.target) = true from congrArg (!·) ht)] at he
  exact .intro (congrArg Host.Outcome.next he)
    ⟨List.mem_append_right _ (List.mem_singleton.mpr rfl), ((only_trackTxn ..).none (only_emit ..)).begin⟩

/-- What a request at its target leaves: its completion is on the wires, and its memory as the access left it. -/
theorem saddleRequest_here (hd : s.hasDie d = true) (ht : x.target = d) {st v : Nat} {u : State}
    (hserve : ∀ l, ((s.begin t).withTxns l).serveTxn d x [] = (st, v, u.withTxns l)) (hu : Only (s.begin t) u [.bridge] []) :
    Runs (.saddleRequestReceive t d p x []) s fun w =>
      .completion x.die x.id st v ∈ w.out ∧ w.bridge.mailbox = u.bridge.mailbox ∧ Only s w [.bridge] [] := by
  have he := saddleRequest_taken (s := s.begin t) (x := x) hup (by unfold State.saddle; rw [State.begin_n]; exact hs) hst
  have hpos : (!(s.begin t).hasDie x.target) = false := by rw [ht]; exact congrArg (!·) hd
  obtain ⟨l, hl⟩ := (s.begin t).trackTxn_eq d p x
  rw [if_neg (by rw [hpos]; exact Bool.false_ne_true), if_pos ht, hl] at he
  unfold State.serveHere at he
  rw [hserve l] at he
  exact .intro (congrArg Host.Outcome.next he)
    ⟨List.mem_append_right _ (List.mem_singleton.mpr rfl), rfl, ((hu.one (only_withTxns ..) (by simp)).none (only_emit ..)).begin⟩

theorem saddleRequest_runs_misaligned (hd : s.hasDie d = true) (ht : x.target = d) (ha : x.addr % x.size ≠ 0) :
    Runs (.saddleRequestReceive t d p x []) s fun v => .completion x.die x.id 3 0 ∈ v.out ∧ Only s v [.bridge] [] :=
  (saddleRequest_here hup hs hst hd ht (fun _ => if_pos (.inr ha)) (Only.same _ _ _)).imp fun _ ⟨ho, _, hf⟩ => ⟨ho, hf⟩

section Mailbox

variable (hd : s.hasDie d = true) (ht : x.target = d) (hsz : x.size = 1 ∨ x.size = 2 ∨ x.size = 4) (ha : x.addr % x.size = 0)
  (hr : x.addr < 0x10000)

include hd ht hsz ha hr

omit hup hs hst hd ht in
/-- At its target an aligned request below the first 64 KiB is one of the mailbox. -/
theorem serveTxn_mailbox (u : State) : u.serveTxn d x [] = match x.data with
    | some v => (txOK, 0, u.mailboxWrite d x.addr (leBytes x.size v) [])
    | none => (txOK, leNat (ramRead (u.mailboxOf d) x.addr x.size), u.portAWrites d []) := by
  have hw : windowOf x.addr = some 0 := if_pos hr
  have hok : ¬(x.size ≠ 1 ∧ x.size ≠ 2 ∧ x.size ≠ 4 ∨ x.addr % x.size ≠ 0) := by omega
  unfold State.serveTxn
  rw [if_neg hok, hw]
  rfl

theorem saddleRequest_runs_read (hx : x.data = none) : Runs (.saddleRequestReceive t d p x []) s fun v =>
    .completion x.die x.id 0 (leNat (ramRead (s.mailboxOf d) x.addr x.size)) ∈ v.out ∧ v.bridge.mailbox = s.bridge.mailbox ∧
      Only s v [.bridge] [] :=
  saddleRequest_here (u := s.begin t) hup hs hst hd ht (fun l => by rw [serveTxn_mailbox hsz ha hr, hx]; rfl) (Only.same _ _ _)

omit hup hs hst hd ht hsz ha hr in
/-- A write of a mailbox while its other port writes nothing. -/
theorem mailboxWrite_alone {off : Nat} {b : Bytes} (u : State) : u.mailboxWrite d off b [] =
    (u.dropMailLine d off).setMailbox d (ramWrite (u.mailboxOf d) off b) := by
  unfold State.mailboxWrite State.portAWrites
  rw [List.foldl_nil, List.any_nil, if_neg Bool.false_ne_true]

omit hup hs hst hd ht hsz ha hr in
/-- A write of a mailbox that no line copy is of. -/
theorem mailboxWrite_elsewhere {off : Nat} {b : Bytes} (u : State) (h : u.n O.hostEndpointDie ≠ d) :
    u.mailboxWrite d off b [] = u.setMailbox d (ramWrite (u.mailboxOf d) off b) := by
  have hl : u.dropMailLine d off = u := if_neg h
  rw [mailboxWrite_alone, hl]

theorem saddleRequest_runs_write {k : Nat} (hx : x.data = some k) (he : s.n O.hostEndpointDie ≠ d) :
    Runs (.saddleRequestReceive t d p x []) s fun v => .completion x.die x.id 0 0 ∈ v.out ∧
      v.mailboxOf d = ramWrite (s.mailboxOf d) x.addr (leBytes x.size k) ∧ (∀ d', d' ≠ d → v.mailboxOf d' = s.mailboxOf d') ∧
      Only s v [.bridge] [] := by
  refine (saddleRequest_here (u := (s.begin t).setMailbox d (ramWrite (s.mailboxOf d) x.addr (leBytes x.size k))) hup hs hst hd ht
    (fun l => ?_) ((Only.same _ _ _).setBridge _ (by simp))).imp fun v ⟨ho, hm, hf⟩ => ⟨ho, ?_, fun d' hne => ?_, hf⟩
  · rw [serveTxn_mailbox hsz ha hr, hx]
    dsimp only
    rw [mailboxWrite_elsewhere ((s.begin t).withTxns l) (show ((s.begin t).withTxns l).n O.hostEndpointDie ≠ d from he)]
    rfl
  · rw [State.mailboxOf_congr hm, State.setMailbox_mailboxOf, if_pos rfl]
  · rw [State.mailboxOf_congr hm, State.setMailbox_mailboxOf, if_neg hne]
    rfl

end Mailbox

theorem saddleRequest_runs_forwarded {h : Nat} (hd : s.hasDie x.target = true) (ht : x.target ≠ d) (hh : s.nextHop d x.target = some h)
    (hc : (get [] s.bridge.forwarding (4 * d + p)).length < 3) : Runs (.saddleRequestReceive t d p x []) s fun v =>
      .request h x ∈ v.out ∧ get [] v.bridge.forwarding (4 * d + p) = get [] s.bridge.forwarding (4 * d + p) ++ [x] ∧ Only s v [.bridge] [] := by
  have he := saddleRequest_taken (s := s.begin t) (x := x) hup (by unfold State.saddle; rw [State.begin_n]; exact hs) hst
  have hpos : (!(s.begin t).hasDie x.target) = false := congrArg (!·) hd
  obtain ⟨l, hl⟩ := (s.begin t).trackTxn_eq d p x
  rw [if_neg (by rw [hpos]; exact Bool.false_ne_true), if_neg ht, hl] at he
  have hf : ((s.begin t).withTxns l).forwardTxn d p x = (((s.begin t).withTxns l).withForwarding (4 * d + p) x).emit (.request h x) := by
    refine (if_pos hc).trans ?_
    unfold State.sendRequest
    rw [State.nextHop_setBridge, show ((s.begin t).withTxns l).nextHop d x.target = some h from hh]
    rfl
  exact .intro (congrArg Host.Outcome.next (he.trans hf)) ⟨List.mem_append_right _ (List.mem_singleton.mpr rfl),
    State.withForwarding_self ((s.begin t).withTxns l) (4 * d + p) x, ((only_withTxns ..).one (only_withForwarding ..) (by simp)).none (only_emit ..) |>.begin⟩

end Request

/-! ### Completions (R291 to R293) -/

/-- Only the forwarding and the waiting requests of the links differ, and requests have left. -/
def Credited (s u : State) : Prop := ∃ (o : List Out) (f w : SMap (List Txn)),
  u = { s with out := s.out ++ o, bridge := { s.bridge with forwarding := f, waiting := w } }

namespace Credited

variable {u w : State}

theorem refl (s : State) : Credited s s := ⟨[], _, _, by rw [List.append_nil]⟩

theorem trans (h : Credited s u) (g : Credited u w) : Credited s w := by
  obtain ⟨_, _, _, rfl⟩ := h
  obtain ⟨_, _, _, rfl⟩ := g
  exact ⟨_, _, _, by rw [List.append_assoc]⟩

theorem only (h : Credited s u) : Only s u [.bridge] [] := by
  obtain ⟨o, f, w, rfl⟩ := h
  exact (((Only.same s [] []).none (only_of rfl rfl (fun p _ => by cases p <;> rfl) fun _ _ => rfl :
    Only s { s with out := s.out ++ o } [] [])).mono (by simp) (by simp)).setBridge _ (by simp)

theorem txns (h : Credited s u) : u.bridge.txns = s.bridge.txns := by
  obtain ⟨_, _, _, rfl⟩ := h
  rfl

end Credited

theorem State.sendRequest_credited (s : State) (d : Nat) (x : Txn) : Credited s (s.sendRequest d x) := by
  unfold State.sendRequest
  split
  · exact ⟨[_], _, _, rfl⟩
  · exact .refl s

theorem State.setForwarding_credited (s : State) (f : SMap (List Txn)) : Credited s { s with bridge := { s.bridge with forwarding := f } } :=
  ⟨[], _, _, by rw [List.append_nil]⟩

theorem State.setWaiting_credited (s : State) (w : SMap (List Txn)) : Credited s { s with bridge := { s.bridge with waiting := w } } :=
  ⟨[], _, _, by rw [List.append_nil]⟩

theorem State.forwardTxn_credited (s : State) (d p : Nat) (x : Txn) : Credited s (s.forwardTxn d p x) := by
  unfold State.forwardTxn
  dsimp only
  split
  · exact (s.setForwarding_credited _).trans (State.sendRequest_credited ..)
  · exact s.setWaiting_credited _

theorem State.freeCredits_credited (s : State) (d id : Nat) : Credited s (s.freeCredits d id) := by
  refine List.foldlRecOn (motive := Credited s) _ _ (.refl s) fun u hu k _ => hu.trans ?_
  dsimp only
  split
  · split
    · exact u.setForwarding_credited _
    · exact ((u.setForwarding_credited _).trans (State.setWaiting_credited ..)).trans (State.forwardTxn_credited ..)
  · exact .refl u

/-- No transaction of a host master waits for an entry, and no SPI read is under way. -/
structure State.hostIdle (s : State) : Prop where
  queued : s.bridge.queued = []
  spiRead : s.bridge.spiRead = none

theorem State.hostIdle.settles (h : s.hostIdle) (m : Nat) : (s.issueNext m).retrySpi = s := by
  have h1 : s.issueNext m = s := by
    unfold State.issueNext
    rw [h.queued]
    rfl
  rw [h1]
  unfold State.retrySpi
  rw [h.spiRead]

theorem Credited.hostIdle {u : State} (h : Credited s u) (hi : s.hostIdle) : u.hostIdle := by
  obtain ⟨_, _, _, rfl⟩ := h
  exact ⟨hi.queued, hi.spiRead⟩

theorem State.hostIdle.emit (h : s.hostIdle) (o : Out) : (s.emit o).hostIdle := ⟨h.queued, h.spiRead⟩

/-- A transaction's tracking entry is free. -/
def State.txnGone (s : State) (id d : Nat) : State := s.withTxns (s.bridge.txns.filter (fun y => !(y.id == id && y.die == d)))

theorem State.hostIdle.txnGone (h : s.hostIdle) (id d : Nat) : (s.txnGone id d).hostIdle := ⟨h.queued, h.spiRead⟩

theorem State.endTxn_completes {x : Txn} (h1 : x.master ≠ 1) (h2 : x.master ≠ 2) (st v : Nat) :
    s.endTxn x st v = s.emit (.completion x.die x.id st v) :=
  if_neg (not_or.mpr ⟨h1, h2⟩)

theorem State.endTxn_hostWrite {x : Txn} {st : Nat} (h : x.master = 1) (hd : x.data.isSome = true) (hst : st ≠ 0) (v : Nat) :
    s.endTxn x st v = s.hostFault x.addr st x.target := by
  have hnone : ¬ x.data.isNone = true := by rw [Option.isNone_eq_false_iff.mpr hd]; exact Bool.false_ne_true
  have hend : s.hostEnd x st = s.hostFault x.addr st x.target := by
    unfold State.hostEnd
    dsimp only
    rw [if_neg hst, if_neg (show x.master ≠ 2 by rw [h]; decide)]
    exact if_pos (Or.inl h)
  unfold State.endTxn
  rw [if_pos (Or.inl h), if_neg hnone, hend]

theorem State.raiseInt_rest (s : State) (d src : Nat) : ∃ m, s.raiseInt d src = { s with bridge := { s.bridge with intPending := m } } := by
  unfold State.raiseInt
  split
  · exact ⟨_, rfl⟩
  · exact ⟨_, rfl⟩

theorem State.raiseInt_pending (hd : s.dieUp d = true) (src : Nat) : bit (get 0 (s.raiseInt d src).bridge.intPending d) src = true := by
  unfold State.raiseInt
  rw [if_pos hd, get_upd_self, bit_setBit, if_pos rfl]

theorem only_hostFault (s : State) (off st target : Nat) : Only s (s.hostFault off st target) [.bridge] [] :=
  ((Only.same s [.bridge] []).setBridge _ (by simp)).one (only_raiseInt ..) (by simp)

/-- A failed access of the host is recorded; nothing else of the bridges but the pending interrupts differs. -/
theorem State.hostFault_bridge (s : State) (off st target : Nat) : ∃ m, (s.hostFault off st target).bridge = { s.bridge with
    lastFaultAddr := off
    lastFaultInfo := st * 2 ^ 24 + target * 2 ^ 16
    bridgeFaults := satN (2 ^ 32 - 1) (s.bridge.bridgeFaults + 1)
    intPending := m } := by
  unfold State.hostFault
  dsimp only
  generalize hu : ({ s with bridge := { s.bridge with
    lastFaultAddr := off, lastFaultInfo := st * 2 ^ 24 + target * 2 ^ 16,
    bridgeFaults := satN (2 ^ 32 - 1) (s.bridge.bridgeFaults + 1) } } : State) = u
  obtain ⟨m, hm⟩ := u.raiseInt_rest (u.n O.hostEndpointDie) 34
  rw [hm, ← hu]
  exact ⟨m, rfl⟩

section Completion

variable {id status value : Nat} (hup : s.dieUp d = true)

include hup

theorem saddleCompletion_runs_late (h : s.bridge.txns.find? (fun x => x.id == id && x.die == d) = none) :
    Runs (.saddleCompletionReceive t d id status value) s fun v =>
      v.n (bySub O.lateCompletions d) = satN (2 ^ 32 - 1) (s.n (bySub O.lateCompletions d) + 1) ∧ v.bridge.txns = s.bridge.txns ∧
      Only s v [.bridge] [bySub O.lateCompletions d] := by
  have hc := (s.begin t).freeCredits_credited d id
  have he : saddleCompletion d id status value (s.begin t) = ((s.begin t).freeCredits d id).inc32 (bySub O.lateCompletions d) := by
    unfold saddleCompletion
    rw [if_neg (by rw [show (s.begin t).dieUp d = true from hup]; decide)]
    dsimp only
    rw [hc.txns, show (s.begin t).bridge.txns.find? (fun x => x.id == id && x.die == d) = none from h]
  generalize (s.begin t).freeCredits d id = u at hc he
  exact .intro (congrArg Host.Outcome.next he) ⟨by rw [State.inc32_self, hc.only.n_all, State.begin_n], hc.txns,
    ((hc.only.trans (only_inc32 ..)).mono (by simp) (by simp)).begin⟩

variable {x : Txn} (hx : s.bridge.txns.find? (fun x => x.id == id && x.die == d) = some x) (hi : s.hostIdle)

include hx

theorem saddleCompletion_found : saddleCompletion d id status value s =
    ((((s.freeCredits d id).txnGone id d).endTxn x status value).issueNext x.master).retrySpi := by
  unfold saddleCompletion
  rw [if_neg (by rw [hup]; decide)]
  dsimp only
  have hf := (congrArg (List.find? _) (s.freeCredits_credited d id).txns).trans hx
  generalize s.freeCredits d id = u at hf
  rw [hf]
  rfl

include hi

theorem saddleCompletion_runs_initiator (h1 : x.master ≠ 1) (h2 : x.master ≠ 2) : Runs (.saddleCompletionReceive t d id status value) s fun v =>
    .completion x.die x.id status value ∈ v.out ∧ v.bridge.txns = s.bridge.txns.filter (fun y => !(y.id == id && y.die == d)) ∧
      Only s v [.bridge] [] := by
  have hc := (s.begin t).freeCredits_credited d id
  have he := saddleCompletion_found (s := s.begin t) (status := status) (value := value) hup hx
  have hidle := ((hc.hostIdle ⟨hi.queued, hi.spiRead⟩).txnGone id d)
  rw [State.endTxn_completes h1 h2, (State.hostIdle.emit hidle _).settles] at he
  generalize (s.begin t).freeCredits d id = u at hc he
  exact .intro (congrArg Host.Outcome.next he) ⟨List.mem_append_right _ (List.mem_singleton.mpr rfl), congrArg (List.filter _) hc.txns,
    ((hc.only.one (only_withTxns ..) (by simp)).none (only_emit ..)).begin⟩

theorem saddleCompletion_runs_hostWrite (h1 : x.master = 1) (hd : x.data.isSome = true) (hst : status ≠ 0) :
    Runs (.saddleCompletionReceive t d id status value) s fun v => v.bridge.lastFaultAddr = x.addr ∧
      v.bridge.bridgeFaults = satN (2 ^ 32 - 1) (s.bridge.bridgeFaults + 1) ∧
      v.bridge.txns = s.bridge.txns.filter (fun y => !(y.id == id && y.die == d)) ∧ Only s v [.bridge] [] := by
  have hc := (s.begin t).freeCredits_credited d id
  have he := saddleCompletion_found (s := s.begin t) (status := status) (value := value) hup hx
  have hidle := ((hc.hostIdle ⟨hi.queued, hi.spiRead⟩).txnGone id d)
  generalize (s.begin t).freeCredits d id = u at hc he hidle
  obtain ⟨m, hm⟩ := (u.txnGone id d).hostFault_bridge x.addr status x.target
  have hidle' : ((u.txnGone id d).hostFault x.addr status x.target).hostIdle :=
    ⟨(congrArg BridgeSt.queued hm).trans hidle.queued, (congrArg BridgeSt.spiRead hm).trans hidle.spiRead⟩
  have hbf : u.bridge.bridgeFaults = s.bridge.bridgeFaults := by
    obtain ⟨_, _, _, hu⟩ := hc
    rw [hu]
    rfl
  rw [State.endTxn_hostWrite h1 hd hst, hidle'.settles] at he
  exact .intro (congrArg Host.Outcome.next he) ⟨congrArg BridgeSt.lastFaultAddr hm, hbf ▸ congrArg BridgeSt.bridgeFaults hm,
    (congrArg BridgeSt.txns hm).trans (congrArg (List.filter _) hc.txns),
    ((hc.only.one (only_withTxns ..) (by simp)).one (only_hostFault ..) (by simp)).begin⟩

end Completion

/-! ### The time-out of a transaction (R293) -/

/-- What the time-out of a transaction records: the count, the event and the pending source. -/
def State.txnTimedOut (s : State) (x : Txn) : State :=
  (((s.txnGone x.id x.die).inc32 (bySub O.bridgeFaults x.die)).logEv x.die Ev.bridgeFault 0xFFFF [(1, x.master), (1, x.target), (4, x.addr)]).raiseInt
    x.die 34

theorem only_txnTimedOut (s : State) (x : Txn) : Only s (s.txnTimedOut x) [.bridge, .logs] [bySub O.bridgeFaults x.die] :=
  ((((only_withTxns ..).trans (only_inc32 ..)).trans (only_logEv ..)).trans (only_raiseInt ..)).mono (by simp) (by simp)

theorem State.txnTimedOut_bridge (s : State) (x : Txn) :
    ∃ m, (s.txnTimedOut x).bridge = { (s.txnGone x.id x.die).bridge with intPending := m } := by
  unfold State.txnTimedOut
  obtain ⟨m, hm⟩ := State.raiseInt_rest
    (((s.txnGone x.id x.die).inc32 (bySub O.bridgeFaults x.die)).logEv x.die Ev.bridgeFault 0xFFFF [(1, x.master), (1, x.target), (4, x.addr)]) x.die 34
  rw [hm]
  dsimp only
  rw [State.logEv_bridge]
  exact ⟨m, rfl⟩

theorem State.dieUp_congr {u : State} (hv : u.variant = s.variant) (hp : u.pkg = s.pkg) (d : Nat) : u.dieUp d = s.dieUp d := by
  unfold State.dieUp State.hasDie
  rw [hv, hp]

theorem bridgeFault_runs {id : Nat} {x : Txn} (hx : s.bridge.txns.find? (fun x => x.id == id && decide (x.since + 20000 ≤ s.localAt t)) = some x)
    (hup : s.dieUp x.die = true) (h1 : x.master ≠ 1) (h2 : x.master ≠ 2) (hi : s.hostIdle) : Runs (.bridgeFault t id) s fun v =>
      v.n (bySub O.bridgeFaults x.die) = satN (2 ^ 32 - 1) (s.n (bySub O.bridgeFaults x.die) + 1) ∧
      bit (get 0 v.bridge.intPending x.die) 34 = true ∧ .completion x.die x.id 4 0 ∈ v.out ∧
      v.bridge.txns = s.bridge.txns.filter (fun y => !(y.id == x.id && y.die == x.die)) ∧
      Only s v [.bridge, .logs] [bySub O.bridgeFaults x.die] := by
  have hf := only_txnTimedOut (s.begin t) x
  obtain ⟨m, hm⟩ := (s.begin t).txnTimedOut_bridge x
  have hidle : (((s.begin t).txnTimedOut x).emit (.completion x.die x.id 4 0)).hostIdle :=
    ⟨(congrArg BridgeSt.queued hm).trans hi.queued, (congrArg BridgeSt.spiRead hm).trans hi.spiRead⟩
  have he : bridgeFault id (s.begin t) = ((s.begin t).txnTimedOut x).emit (.completion x.die x.id 4 0) := by
    unfold bridgeFault
    rw [show (s.begin t).bridge.txns.find? (fun x => x.id == id && decide (x.since + 20000 ≤ (s.begin t).now)) = some x from hx]
    exact (congrArg (fun u : State => (u.issueNext x.master).retrySpi) (State.endTxn_completes h1 h2 ..)).trans (hidle.settles _)
  refine .intro (congrArg Host.Outcome.next he) ⟨?_, ?_, List.mem_append_right _ (List.mem_singleton.mpr rfl), congrArg BridgeSt.txns hm,
    (hf.none (only_emit ..)).begin⟩
  · rw [(only_emit ..).n_all]
    unfold State.txnTimedOut
    rw [State.raiseInt_n, State.logEv_n, State.inc32_self]
    rfl
  · refine State.raiseInt_pending ((State.dieUp_congr (State.logEv_variant ..) (State.logEv_pkg ..) _).trans ?_) 34
    exact hup

end Sys2Proof.Machine

open Sys2Proof Sys2Proof.Machine

/-- Settles O31, by where a request is served, which transaction a completion ends and what a transaction out of time records. -/
theorem saddleTransactions : Obligations.SaddleTransactions :=
  ⟨fun _ _ _ _ _ h => flitReplay_runs h,
    fun _ _ _ _ _ hup hs hst => ⟨saddleRequest_runs_absent hup hs hst, saddleRequest_runs_misaligned hup hs hst,
      fun hd ht hsz ha hr => ⟨saddleRequest_runs_read hup hs hst hd ht hsz ha hr, fun _ => saddleRequest_runs_write hup hs hst hd ht hsz ha hr⟩,
      fun _ => saddleRequest_runs_forwarded hup hs hst⟩,
    fun _ _ _ _ _ _ _ hup => ⟨saddleCompletion_runs_late hup, fun _ hx hq hr =>
      ⟨saddleCompletion_runs_initiator hup hx ⟨hq, hr⟩, saddleCompletion_runs_hostWrite hup hx ⟨hq, hr⟩⟩⟩,
    fun _ _ _ _ hx _ hup h1 h2 hq hr => bridgeFault_runs hx hup h1 h2 ⟨hq, hr⟩⟩
end

section
/-! Proofs about the host interfaces (R295 to R302, R405, R442). -/
namespace Sys2Proof.Machine
open Sys2Proof

variable {s : State} {t e : Nat}

/-! ### Line copies (R298) -/

/-- From `s` to `u` line copies have been discarded and counted, and nothing else. -/
structure Discarded (s u : State) : Prop where
  only : Only s u [.bridge] s.lineKeys
  bridge : u.bridge = { s.bridge with lines := u.bridge.lines }
  lines : ∀ c ∈ u.bridge.lines, c ∈ s.bridge.lines
  out : u.out = s.out

namespace Discarded

variable {u w : State}

theorem refl (s : State) : Discarded s s := ⟨.same .., rfl, fun _ h => h, rfl⟩

theorem lineKeys (h : Discarded s u) : u.lineKeys ⊆ s.lineKeys := fun _ hk => by
  obtain ⟨c, hc, rfl⟩ := List.mem_map.mp hk
  exact List.mem_map_of_mem (h.lines c hc)

theorem trans (h : Discarded s u) (g : Discarded u w) : Discarded s w where
  only := (h.only.trans g.only).mono (by simp) (List.append_subset.mpr ⟨List.Subset.refl _, h.lineKeys⟩)
  bridge := by rw [g.bridge, h.bridge]
  lines c hc := h.lines c (g.lines c hc)
  out := g.out.trans h.out

theorem mailboxOf (h : Discarded s u) (d : Nat) : u.mailboxOf d = s.mailboxOf d := State.mailboxOf_congr (by rw [h.bridge]) d

theorem edgeRamOf (h : Discarded s u) (k : Nat) : u.edgeRamOf k = s.edgeRamOf k := by
  unfold State.edgeRamOf
  rw [h.bridge]

end Discarded

theorem State.countDiscard_out (s : State) (c : LineCopy) : (s.countDiscard c).out = s.out := by
  unfold State.countDiscard
  split <;> rfl

theorem only_countDiscard (s : State) (c : LineCopy) : Only s (s.countDiscard c) [] [bySub O.speculativeReadsDiscarded c.window] := by
  unfold State.countDiscard
  split
  · exact .same ..
  · exact only_inc32 ..

theorem only_discardLines (s : State) (p : LineCopy → Bool) : Only s (s.discardLines p) [.bridge]
    ((s.bridge.lines.filter p).map (fun c => bySub O.speculativeReadsDiscarded c.window)) := by
  refine Only.foldl _ _ ((Only.same s _ _).setBridge _ (by simp)) fun u c hc h => h.obj (only_countDiscard u c) ?_
  exact List.mem_map_of_mem hc

theorem State.discardLines_discarded (s : State) (p : LineCopy → Bool) : Discarded s (s.discardLines p) where
  only := (only_discardLines s p).mono (by simp) (List.map_subset _ (List.filter_subset_self _))
  bridge := by rw [State.discardLines_bridge]
  lines c hc := by
    rw [State.discardLines_bridge] at hc
    exact List.mem_of_mem_filter hc
  out := List.foldlRecOn (motive := fun u : State => u.out = s.out) _ _ rfl fun u hu c _ => (u.countDiscard_out c).trans hu

theorem State.discardLines_all (s : State) : (s.discardLines fun _ => true).bridge.lines = [] := by
  rw [State.discardLines_bridge]
  exact List.filter_eq_nil_iff.mpr fun _ _ => Bool.false_ne_true

/-! ### Interrupts (R295) -/

/-- The lines that rise. -/
def State.rising (s : State) : List Nat := (bitsSet s.wantLines 4).filter (fun n => !bit s.bridge.intLines n)

/-- The lines follow the requests, and every rising one sends its vector where that is enabled. -/
def State.wired (s : State) : State :=
  let u := { s with bridge := { s.bridge with intLines := s.wantLines } }
  if s.bridge.msix then s.rising.foldl (fun (s : State) n => s.emit (.message "msi-x" n [])) u else u

theorem intWireChange_eq (s : State) : intWireChange s = if s.rising.isEmpty then s.wired else s.wired.discardLines (fun _ => true) := rfl

theorem State.wired_bridge (s : State) : s.wired.bridge = { s.bridge with intLines := s.wantLines } := by
  unfold State.wired
  dsimp only
  split
  · exact List.foldlRecOn (motive := fun u : State => u.bridge = { s.bridge with intLines := s.wantLines }) _ _ rfl fun u hu n _ => hu
  · rfl

theorem only_wired (s : State) : Only s s.wired [.bridge] [] :=
  .ite (Only.foldl _ _ ((Only.same s _ _).setBridge _ (by simp)) fun _ _ _ h => h.none (only_emit ..)) ((Only.same s _ _).setBridge _ (by simp))

theorem State.wired_sends (hm : s.bridge.msix = true) {n : Nat} (hn : n ∈ s.rising) : .message "msi-x" n [] ∈ s.wired.out := by
  unfold State.wired
  rw [if_pos hm]
  exact mem_out_foldl (fun v a o ho => List.mem_append_left _ ho) hn (fun v => List.mem_append_right _ (List.mem_singleton.mpr rfl)) _

theorem intWireChange_runs (s : State) (t : Nat) : Runs (.intWireChange t) s fun v => v.bridge.intLines = s.wantLines ∧
    (s.bridge.msix = true → ∀ n, n < 4 → bit s.wantLines n = true → bit s.bridge.intLines n = false → .message "msi-x" n [] ∈ v.out) ∧
    v.bridge.lines = (if ((bitsSet s.wantLines 4).filter fun n => !bit s.bridge.intLines n).isEmpty then s.bridge.lines else []) ∧
    Only s v [.bridge] s.lineKeys := by
  have hb := (s.begin t).wired_bridge
  have hsends (hm : s.bridge.msix = true) (n : Nat) (hn : n < 4) (hw : bit s.wantLines n = true) (hl : bit s.bridge.intLines n = false) :
      .message "msi-x" n [] ∈ (s.begin t).wired.out :=
    State.wired_sends (s := s.begin t) hm (List.mem_filter.mpr ⟨List.mem_filter.mpr ⟨List.mem_range.mpr hn, hw⟩, congrArg (!·) hl⟩)
  have hd := State.discardLines_discarded (s.begin t).wired (fun _ => true)
  have hk : (s.begin t).wired.lineKeys = s.lineKeys := by
    unfold State.lineKeys
    rw [hb]
    rfl
  by_cases hr : s.rising.isEmpty = true
  · have he := (intWireChange_eq (s.begin t)).trans (if_pos hr)
    refine .intro (congrArg Host.Outcome.next he) ⟨congrArg BridgeSt.intLines hb, hsends, ?_, ((only_wired _).mono (by simp) (by simp)).begin⟩
    exact (congrArg BridgeSt.lines hb).trans (if_pos hr).symm
  · have he := (intWireChange_eq (s.begin t)).trans (if_neg hr)
    refine .intro (congrArg Host.Outcome.next he) ⟨?_, ?_, ?_, (((only_wired _).trans hd.only).mono (by simp) (by simp [hk])).begin⟩
    · rw [hd.bridge]
      exact congrArg BridgeSt.intLines hb
    · rw [hd.out]
      exact hsends
    · rw [State.discardLines_all]
      exact (if_neg hr).symm

/-- The bits of a mask that a filter keeps. -/
theorem bit_maskOf_filter (m w i : Nat) (p : Nat → Bool) (hi : i < w) : bit (maskOf ((bitsSet m w).filter p)) i = (bit m i && p i) := by
  rw [bit_maskOf]
  unfold bitsSet
  simp [List.mem_filter, hi, Bool.and_comm]

theorem intSourceClear_runs {d mask again : Nat} (he : s.endpoint.isSome = true) (hd : s.hasDie d = true) :
    Runs (.intSourceClear t d mask again) s fun v =>
      (∀ i, i < 64 → bit (get 0 v.bridge.intPending d) i = (bit (get 0 s.bridge.intPending d) i && (!bit mask i || bit again i))) ∧
      (∀ d', d' ≠ d → get 0 v.bridge.intPending d' = get 0 s.bridge.intPending d') ∧ Only s v [.bridge] [] := by
  have hc : ((s.begin t).endpoint.isSome && (s.begin t).hasDie d) = true := Bool.and_eq_true_iff.mpr ⟨he, hd⟩
  refine .intro (congrArg Host.Outcome.next (if_pos hc)) ⟨fun i hi => ?_, fun d' hne => ?_,
    ((Only.same (s.begin t) _ _).setBridge _ (by simp)).begin⟩
  · unfold clearSources
    rw [get_upd_self, bit_maskOf_filter _ _ _ _ hi]
    rfl
  · unfold clearSources
    rw [get_upd_ne _ _ _ _ _ hne]
    rfl

/-! ### Doorbells, the event queue and the status byte (R300, R301, R405, R442) -/

theorem State.endpoint_spec (he : s.endpoint = some e) : s.n O.hostEndpointDie = e ∧ e < 2 ∧ s.dieUp e = true := by
  unfold State.endpoint at he
  dsimp only at he
  split at he
  · obtain rfl := Option.some.inj he
    exact ⟨rfl, ‹_›⟩
  · nomatch he

theorem only_takeRequests (s : State) : Only s s.takeRequests [.bridge] [] :=
  .ite ((Only.same s _ _).setBridge _ (by simp)) (.same ..)

theorem State.takeRequests_doorbellIn (s : State) : s.takeRequests.bridge.doorbellIn = s.bridge.doorbellIn := by
  unfold State.takeRequests
  dsimp only
  split <;> rfl

/-- The management cores take the requests up to a head that is a place of the ring. -/
theorem State.takeRequests_takes (he : s.n O.hostEndpointDie = e) (hl : leNat (ramRead (s.mailboxOf e) 0 4) < 16384)
    (ha : leNat (ramRead (s.mailboxOf e) 0 4) % 4 = 0) :
    s.takeRequests.mailboxOf e = ramWrite (s.mailboxOf e) 4 (leBytes 4 (leNat (ramRead (s.mailboxOf e) 0 4))) := by
  unfold State.takeRequests
  dsimp only
  rw [he, if_pos ⟨hl, ha⟩, State.setMailbox_mailboxOf, if_pos rfl]

/-- The bits of a doorbell are set. -/
def State.rung (s : State) (v : Nat) : State :=
  { s with bridge := { s.bridge with doorbellIn := Nat.lor s.bridge.doorbellIn (v % 2 ^ 32) } }

theorem only_rung (s : State) (v : Nat) : Only s (s.rung v) [.bridge] [] := (Only.same s _ _).setBridge _ (by simp)

theorem doorbellIn_eq (v : Nat) (s : State) : doorbellIn v s = if bit v 0 then (s.rung v).takeRequests else s.rung v := rfl

section Endpoint

variable {x : Nat} (he : s.endpoint = some e)

include he

theorem State.begin_endpoint (t : Nat) : (s.begin t).endpoint.isSome = true :=
  Option.isSome_of_eq_some (show (s.begin t).endpoint = some e from he)

theorem doorbellIn_runs : Runs (.doorbellIn t x) s fun v => v.bridge.doorbellIn = Nat.lor s.bridge.doorbellIn (x % 2 ^ 32) ∧
    Only s v [.bridge] [] ∧
    (bit x 0 = true → leNat (ramRead (s.mailboxOf e) 0 4) < 16384 → leNat (ramRead (s.mailboxOf e) 0 4) % 4 = 0 →
      v.mailboxOf e = ramWrite (s.mailboxOf e) 4 (leBytes 4 (leNat (ramRead (s.mailboxOf e) 0 4)))) ∧
    (bit x 0 = false → v.bridge.mailbox = s.bridge.mailbox) := by
  have hn : ((s.begin t).rung x).n O.hostEndpointDie = e := (State.endpoint_spec he).1
  have hf := (only_rung (s.begin t) x).begin
  refine .intro (congrArg Host.Outcome.next (if_pos (State.begin_endpoint he t))) ?_
  rw [doorbellIn_eq]
  by_cases hx : bit x 0 = true
  · rw [if_pos hx, State.takeRequests_doorbellIn]
    exact ⟨rfl, hf.one (only_takeRequests _) (by simp), fun _ hl ha => State.takeRequests_takes hn hl ha, fun h => absurd (hx.symm.trans h) nofun⟩
  · rw [if_neg hx]
    exact ⟨rfl, hf, fun h => absurd h hx, fun _ => rfl⟩

theorem doorbellOut_runs : Runs (.doorbellOut t x) s fun v =>
    (∀ i, i < 32 → bit v.bridge.doorbellOut i = (bit s.bridge.doorbellOut i && !bit x i)) ∧ Only s v [.bridge] [] :=
  .intro (congrArg Host.Outcome.next (if_pos (State.begin_endpoint he t))) ⟨fun i hi => bit_maskOf_filter _ _ _ _ hi,
    ((Only.same (s.begin t) _ _).setBridge _ (by simp)).begin⟩

/-- The queue's first word is gone. -/
def State.popped (s : State) : State := { s with bridge := { s.bridge with fifo := s.bridge.fifo.tail } }

omit he in
theorem State.regRead_fifo (s : State) (m : Nat) : (s.regRead m 0x100).1 = some (s.bridge.fifo.headD 0) ∧ (s.regRead m 0x100).2 = s.popped := by
  have hr : s.regRead m 0x100 = match s.bridge.fifo with
    | [] => (some 0, s)
    | w :: rest => (some w, { s with bridge := { s.bridge with fifo := rest } }) := rfl
  unfold State.popped
  rw [hr]
  cases h : s.bridge.fifo with
  | nil =>
    refine ⟨rfl, ?_⟩
    dsimp only
    rw [List.tail_nil, ← h]
  | cons w l => exact ⟨rfl, rfl⟩

theorem eventFifo_runs : Runs (.eventFifo t) s fun v => .message "host" 0x10100 (leBytes 4 (s.bridge.fifo.headD 0)) ∈ v.out ∧
    v.bridge.fifo = s.bridge.fifo.tail ∧ v.bridge.lines = [] ∧ Only s v [.bridge] s.lineKeys := by
  have hd := State.discardLines_discarded (s.begin t) (fun _ => true)
  obtain ⟨h1, h2⟩ := ((s.begin t).discardLines (fun _ => true)).regRead_fifo 1
  have hfifo : ((s.begin t).discardLines (fun _ => true)).bridge.fifo = s.bridge.fifo := by
    rw [hd.bridge]
    rfl
  have hr : eventFifo (s.begin t) = ((s.begin t).discardLines (fun _ => true)).popped.emit
      (.message "host" 0x10100 (leBytes 4 (s.bridge.fifo.headD 0))) := by
    unfold eventFifo
    rw [show (s.begin t).endpoint = some e from he]
    dsimp only
    rw [h1, h2, hfifo]
    rfl
  exact .intro (congrArg Host.Outcome.next hr) ⟨List.mem_append_right _ (List.mem_singleton.mpr rfl), congrArg List.tail hfifo,
    State.discardLines_all _, (((hd.only).setBridge _ (by simp)).none (only_emit ..)).begin⟩

theorem spiStatus_runs : Runs (.spiStatus t) s fun v =>
    .message "spi" 0 [BitVec.ofNat 8 (b2n s.spiBusy + 2 * b2n s.bridge.spiError)] ∈ v.out ∧ Only s v [] [] := by
  have hn : ¬ (s.begin t).endpoint.isNone = true := by
    rw [Option.isNone_eq_false_iff.mpr (State.begin_endpoint he t)]
    exact Bool.false_ne_true
  exact .intro (congrArg Host.Outcome.next (if_neg hn)) ⟨List.mem_append_right _ (List.mem_singleton.mpr rfl), (only_emit ..).begin⟩

end Endpoint

/-! ### WINDOW_CONTROL (R298, R302) -/

section Window

variable {w x : Nat} (he : s.endpoint.isSome = true)

include he

theorem windowControl_acts {u : State} (h : windowControl w x (s.begin t) = u) : exec (.windowControl t w x) s = .next u :=
  congrArg Host.Outcome.next ((if_pos he).trans h)

theorem windowControl_runs_absent (h : 17 < w ∨ 2 ≤ w ∧ s.hasDie ((w - 2) / 2) = false) : Runs (.windowControl t w x) s fun v =>
    v.bridge.lastFaultAddr = 0x10040 + 4 * w ∧ v.bridge.windows = s.bridge.windows ∧ Only s v [.bridge] [] := by
  obtain ⟨m, hm⟩ := (s.begin t).hostFault_bridge (0x10040 + 4 * w) txUNSUPPORTED ((s.begin t).n O.hostEndpointDie)
  exact .intro (windowControl_acts he (if_pos h)) ⟨congrArg BridgeSt.lastFaultAddr hm, by rw [hm]; rfl, (only_hostFault ..).begin⟩

variable (hw : w ≤ 17) (hd : 2 ≤ w → s.hasDie ((w - 2) / 2) = true)

include hw hd

omit he in
theorem window_present : ¬(17 < w ∨ 2 ≤ w ∧ s.hasDie ((w - 2) / 2) = false) := by
  rintro (h | ⟨h2, h⟩)
  · omega
  · exact absurd ((hd h2).symm.trans h) nofun

theorem windowControl_runs_refused (h : 7 < x ∨ w = 1 ∧ bit x 2 = true) : Runs (.windowControl t w x) s fun v =>
    v.bridge.writeRefused = true ∧ v.bridge.windows = s.bridge.windows ∧ Only s v [.bridge] [] :=
  .intro (windowControl_acts he ((if_neg (window_present (s := s.begin t) hw hd)).trans (if_pos h)))
    ⟨rfl, rfl, ((Only.same (s.begin t) _ _).setBridge _ (by simp)).begin⟩

theorem windowControl_runs_taken (hx : x ≤ 7) (h : w = 1 → bit x 2 = false) : Runs (.windowControl t w x) s fun v =>
    get 0 v.bridge.windows w = x ∧ (∀ w', w' ≠ w → get 0 v.bridge.windows w' = get 0 s.bridge.windows w') ∧ v.bridge.writeRefused = false ∧
      Only s v [.bridge] [] := by
  have hok : ¬(7 < x ∨ w = 1 ∧ bit x 2 = true) := by
    rintro (h7 | ⟨h1, h2⟩)
    · omega
    · exact absurd ((h h1).symm.trans h2) nofun
  exact .intro (windowControl_acts he ((if_neg (window_present (s := s.begin t) hw hd)).trans (if_neg hok)))
    ⟨get_put_self .., fun w' hne => get_put_ne _ _ _ _ _ hne, rfl, ((Only.same (s.begin t) _ _).setBridge _ (by simp)).begin⟩

end Window

/-! ### A line copy of 1 µs (R298) -/

theorem prefetchDiscard_runs {m w l : Nat} {c : LineCopy}
    (h : s.bridge.lines.filter (fun c => c.master == m && c.window == w && c.line == l && decide (c.since + 1000 ≤ s.localAt t)) = [c]) :
    Runs (.prefetchDiscard t m w l) s fun v =>
      v.bridge.lines = s.bridge.lines.filter (fun c => !(c.master == m && c.window == w && c.line == l && decide (c.since + 1000 ≤ s.localAt t))) ∧
      v.n (bySub O.speculativeReadsDiscarded w) = (if c.used then s.n (bySub O.speculativeReadsDiscarded w)
        else satN (2 ^ 32 - 1) (s.n (bySub O.speculativeReadsDiscarded w) + 1)) ∧ Only s v [.bridge] [bySub O.speculativeReadsDiscarded w] := by
  have hc : c.window = w := by
    have hm : c ∈ s.bridge.lines.filter (fun c => c.master == m && c.window == w && c.line == l && decide (c.since + 1000 ≤ s.localAt t)) :=
      h ▸ List.mem_singleton.mpr rfl
    have hp := (List.mem_filter.mp hm).2
    simp only [Bool.and_eq_true, beq_iff_eq] at hp
    exact hp.1.1.2
  generalize hp : (fun c : LineCopy => c.master == m && c.window == w && c.line == l && decide (c.since + 1000 ≤ s.localAt t)) = p at h
  have hr : prefetchDiscard m w l (s.begin t) = (s.begin t).discardLines p := by
    rw [← hp]
    rfl
  have hk := only_discardLines (s.begin t) p
  rw [show (s.begin t).bridge.lines.filter p = [c] from h, List.map_singleton, hc] at hk
  refine .intro (congrArg Host.Outcome.next hr) ⟨?_, ?_, hk.begin⟩
  · rw [State.discardLines_bridge, ← hp]
    rfl
  · unfold State.discardLines
    rw [show (s.begin t).bridge.lines.filter p = [c] from h]
    dsimp only [List.foldl_cons, List.foldl_nil]
    unfold State.countDiscard
    rw [hc]
    split
    · rfl
    · rw [State.inc32_self]
      rfl

/-! ### Writes of the host (R296, R297, R299) -/

/-- The lowest internal byte that a write piece reaches. -/
def State.pieceLow (s : State) (w a : Nat) (b : Bytes) : Nat :=
  ((s.pieceBytes w a b).map (·.1)).foldl min (s.swapped w a / 4 * 4 + 3)

/-- The bytes of a write piece in the order of their internal addresses. -/
def State.pieceData (s : State) (w a : Nat) (b : Bytes) : Bytes :=
  leBytes b.length ((s.pieceBytes w a b).foldl (fun n x => n + x.2.toNat * 2 ^ (8 * (x.1 % 4))) 0 / 2 ^ (8 * (s.pieceLow w a b % 4)))

theorem State.pieceLow_one (s : State) (w a : Nat) (x : Byte) : s.pieceLow w a [x] = s.swapped w a := by
  have hb : s.pieceBytes w a [x] = [(s.swapped w a, x)] := rfl
  unfold State.pieceLow
  rw [hb]
  have : s.swapped w a ≤ s.swapped w a / 4 * 4 + 3 := by omega
  exact Nat.min_eq_right this

theorem leBytes_cons (n : Nat) (x : Byte) (r : Nat) : leBytes (n + 1) (x.toNat + 256 * r) = x :: leBytes n r := by
  have hx := x.isLt
  have hd : (x.toNat + 256 * r) / 256 = r := by omega
  have hs : leBytes (n + 1) (x.toNat + 256 * r) = BitVec.ofNat 8 (x.toNat + 256 * r) :: leBytes n ((x.toNat + 256 * r) / 256) := rfl
  rw [hs, hd]
  refine congrArg (· :: leBytes n r) (BitVec.eq_of_toNat_eq ?_)
  rw [BitVec.toNat_ofNat]
  omega

/-- The bytes of a word that has each at its place. -/
theorem leBytes_four (x0 x1 x2 x3 : Byte) : leBytes 4 ((0 + x0.toNat * 2 ^ (8 * 0) + x1.toNat * 2 ^ (8 * 1) + x2.toNat * 2 ^ (8 * 2) +
    x3.toNat * 2 ^ (8 * 3)) / 2 ^ (8 * 0)) = [x0, x1, x2, x3] := by
  have hv : (0 + x0.toNat * 2 ^ (8 * 0) + x1.toNat * 2 ^ (8 * 1) + x2.toNat * 2 ^ (8 * 2) + x3.toNat * 2 ^ (8 * 3)) / 2 ^ (8 * 0) =
      x0.toNat + 256 * (x1.toNat + 256 * (x2.toNat + 256 * (x3.toNat + 256 * 0))) := by
    rw [Nat.mul_zero, Nat.pow_zero, Nat.div_one]
    omega
  rw [hv, leBytes_cons, leBytes_cons, leBytes_cons, leBytes_cons]
  rfl

theorem State.pieceData_one (s : State) (w a : Nat) (x : Byte) : s.pieceData w a [x] = [x] := by
  have hb : s.pieceBytes w a [x] = [(s.swapped w a, x)] := rfl
  unfold State.pieceData
  rw [State.pieceLow_one, hb, List.foldl_cons, List.foldl_nil, Nat.zero_add, Nat.mul_div_cancel _ (Nat.two_pow_pos _)]
  exact leBytes_cons 0 x 0

theorem State.swapped_zero {w : Nat} (h : s.swapOf w = 0) (a : Nat) : s.swapped w a = a := by
  unfold State.swapped
  rw [h]
  exact Nat.xor_zero a

theorem State.pieceBytes_plain {w : Nat} (h : s.swapOf w = 0) (a : Nat) (x0 x1 x2 x3 : Byte) :
    s.pieceBytes w a [x0, x1, x2, x3] = [(a, x0), (a + 1, x1), (a + 2, x2), (a + 3, x3)] := by
  unfold State.pieceBytes
  simp [State.swapped_zero h]

/-- Without a swap an aligned word is written as it stands. -/
theorem State.pieceLow_word {w a : Nat} {b : Bytes} (h : s.swapOf w = 0) (ha : a % 4 = 0) (hb : b.length = 4) : s.pieceLow w a b = a := by
  obtain ⟨x0, x1, x2, x3, rfl⟩ := List.length_eq_four.mp hb
  unfold State.pieceLow
  rw [State.pieceBytes_plain h, State.swapped_zero h]
  simp only [List.map_cons, List.map_nil, List.foldl_cons, List.foldl_nil]
  omega

theorem State.pieceData_word {w a : Nat} {b : Bytes} (h : s.swapOf w = 0) (ha : a % 4 = 0) (hb : b.length = 4) : s.pieceData w a b = b := by
  unfold State.pieceData
  rw [State.pieceLow_word h ha hb]
  obtain ⟨x0, x1, x2, x3, rfl⟩ := List.length_eq_four.mp hb
  have h1 : (a + 1) % 4 = 1 := by omega
  have h2 : (a + 2) % 4 = 2 := by omega
  have h3 : (a + 3) % 4 = 3 := by omega
  rw [State.pieceBytes_plain h, List.foldl_cons, List.foldl_cons, List.foldl_cons, List.foldl_cons, List.foldl_nil, ha, h1, h2, h3]
  exact leBytes_four x0 x1 x2 x3

theorem State.dropMailLine_discarded (s : State) (d a : Nat) : Discarded s (s.dropMailLine d a) := by
  unfold State.dropMailLine
  split
  · exact State.discardLines_discarded ..
  · exact .refl s

section Writes

variable {w m off : Nat} {b : Bytes} (he : s.endpoint = some e)

include he

/-- A piece of a write to the mailbox of the endpoint die is stored, and the copies of its lines go. -/
theorem hostWritePiece_mailbox (hw : windowOf off = some 0) : ∃ u, Discarded s u ∧ s.hostWritePiece m off b [] =
    u.setMailbox e (ramWrite (s.mailboxOf e) (s.pieceLow 0 (windowOff off) b) (s.pieceData 0 (windowOff off) b)) := by
  obtain ⟨p, hp⟩ : ∃ p, s.hostWritePiece m off b [] =
      (s.discardLines p).mailboxWrite e (s.pieceLow 0 (windowOff off) b) (s.pieceData 0 (windowOff off) b) [] := by
    unfold State.hostWritePiece
    rw [he]
    dsimp only
    rw [hw]
    exact ⟨_, rfl⟩
  have hd := s.discardLines_discarded p
  refine ⟨_, hd.trans (State.dropMailLine_discarded _ e (s.pieceLow 0 (windowOff off) b)), ?_⟩
  rw [hp, mailboxWrite_alone, hd.mailboxOf]

theorem hostWritePiece_edgeRam (hw : windowOf off = some w) (h2 : 2 ≤ w) (hd : (w - 2) / 2 = e) :
    ∃ u, Discarded s u ∧ s.hostWritePiece m off b [] =
      u.setEdgeRam (w - 2) (ramWrite (s.edgeRamOf (w - 2)) (s.pieceLow w (windowOff off) b) (s.pieceData w (windowOff off) b)) := by
  obtain ⟨-, -, hup⟩ := State.endpoint_spec he
  have hdie (u : State) (hu : Discarded s u) : ¬ (!u.hasDie e) = true := by
    unfold State.hasDie
    rw [hu.only.variant]
    unfold State.dieUp State.hasDie at hup
    simp only [Bool.and_eq_true] at hup
    rw [hup.1.1]
    exact Bool.false_ne_true
  obtain ⟨p, hp⟩ : ∃ p, s.hostWritePiece m off b [] = (s.discardLines p).setEdgeRam (w - 2)
      (ramWrite ((s.discardLines p).edgeRamOf (w - 2)) (s.pieceLow w (windowOff off) b) (s.pieceData w (windowOff off) b)) := by
    unfold State.hostWritePiece
    rw [he]
    dsimp only
    rw [hw]
    dsimp only
    rw [if_neg (by omega), if_neg (by omega), hd, if_neg (hdie _ (State.discardLines_discarded ..)), if_pos rfl]
    exact ⟨_, rfl⟩
  have hs := s.discardLines_discarded p
  exact ⟨_, hs, by rw [hp, hs.edgeRamOf]⟩

omit he in
theorem hostWrite_pieces (he : s.endpoint = some e) {ps : List (Nat × Bytes)} (hp : writePieces off b = some ps) :
    hostWrite off b [] s = ps.foldl (fun (s : State) p => s.hostWritePiece 1 p.1 p.2 []) s := by
  unfold hostWrite
  rw [he, hp]

omit he in
theorem writePieces_one (off : Nat) (x : Byte) : writePieces off [x] = some [(off, [x])] :=
  if_pos ⟨.inl rfl, Nat.mod_one off⟩

theorem hostWindowWrite_runs_misaligned (h : writePieces off b = none) : Runs (.hostWindowWrite t off b []) s fun v =>
    v.bridge.lastFaultAddr = off ∧ bits v.bridge.lastFaultInfo 24 8 = 3 ∧
      v.bridge.bridgeFaults = satN (2 ^ 32 - 1) (s.bridge.bridgeFaults + 1) ∧ v.bridge.mailbox = s.bridge.mailbox ∧
      v.bridge.edgeRam = s.bridge.edgeRam ∧ Only s v [.bridge] [] := by
  obtain ⟨-, hlt, -⟩ := State.endpoint_spec he
  obtain ⟨m, hm⟩ := (s.begin t).hostFault_bridge off txALIGNMENT e
  have hr : hostWrite off b [] (s.begin t) = (s.begin t).hostFault off txALIGNMENT e := by
    unfold hostWrite
    rw [show (s.begin t).endpoint = some e from he, h]
  refine .intro (congrArg Host.Outcome.next hr) ?_
  rw [hm]
  refine ⟨rfl, ?_, rfl, rfl, rfl, (only_hostFault ..).begin⟩
  show (3 * 2 ^ 24 + e * 2 ^ 16) / 2 ^ 24 % 2 ^ 8 = 3
  omega

theorem hostWindowWrite_runs_mailbox {x : Byte} (hb : b = [x]) (ho : off < 0x10000) : Runs (.hostWindowWrite t off b []) s fun v =>
    v.mailboxOf e = put 0 (s.mailboxOf e) (s.swapped 0 off) x ∧ (∀ d, d ≠ e → v.mailboxOf d = s.mailboxOf d) ∧
      v.bridge.edgeRam = s.bridge.edgeRam ∧ Only s v [.bridge] s.lineKeys := by
  subst hb
  obtain ⟨u, hu, hw⟩ := hostWritePiece_mailbox (s := s.begin t) (m := 1) (b := [x]) he (if_pos ho)
  rw [State.pieceLow_one, State.pieceData_one, show windowOff off = off from Nat.mod_eq_of_lt ho] at hw
  refine .intro (congrArg Host.Outcome.next ((hostWrite_pieces (s := s.begin t) he (writePieces_one off x)).trans hw)) ⟨?_, fun d hd => ?_, ?_,
    (hu.only.setBridge _ (by simp)).begin⟩
  · rw [State.setMailbox_mailboxOf, if_pos rfl]
    rfl
  · rw [State.setMailbox_mailboxOf, if_neg hd, hu.mailboxOf]
    rfl
  · show u.bridge.edgeRam = _
    rw [hu.bridge]
    rfl

theorem hostWindowWrite_runs_edgeRam {x : Byte} (hb : b = [x]) (hw : windowOf off = some w) (h2 : 2 ≤ w) (hd : (w - 2) / 2 = e) :
    Runs (.hostWindowWrite t off b []) s fun v => v.edgeRamOf (w - 2) = put 0 (s.edgeRamOf (w - 2)) (s.swapped w (windowOff off)) x ∧
      (∀ k, k ≠ w - 2 → v.edgeRamOf k = s.edgeRamOf k) ∧ v.bridge.mailbox = s.bridge.mailbox ∧ Only s v [.bridge] s.lineKeys := by
  subst hb
  obtain ⟨u, hu, hw⟩ := hostWritePiece_edgeRam (s := s.begin t) (m := 1) (b := [x]) he hw h2 hd
  rw [State.pieceLow_one, State.pieceData_one] at hw
  refine .intro (congrArg Host.Outcome.next ((hostWrite_pieces (s := s.begin t) he (writePieces_one off x)).trans hw)) ⟨?_, fun k hk => ?_, ?_,
    (hu.only.setBridge _ (by simp)).begin⟩
  · rw [State.setEdgeRam_edgeRamOf]
    rfl
  · exact (get_put_ne _ _ _ _ _ hk).trans (hu.edgeRamOf k)
  · show u.bridge.mailbox = _
    rw [hu.bridge]
    rfl

/-! ### The SPI target (R299, R300) -/

/-- LAST_WRITE_ERROR is set or cleared. -/
def State.withSpiError (s : State) (x : Bool) : State := { s with bridge := { s.bridge with spiError := x } }

omit he in
theorem only_withSpiError (s : State) (x : Bool) : Only s (s.withSpiError x) [.bridge] [] := (Only.same s _ _).setBridge _ (by simp)

theorem State.begin_endpoint_some (t : Nat) : ¬ (s.begin t).endpoint.isNone = true := by
  rw [Option.isNone_eq_false_iff.mpr (State.begin_endpoint he t)]
  exact Bool.false_ne_true

theorem spiWrite_runs_misaligned {a : Nat} (ha : a % 4 ≠ 0) : Runs (.spiWrite t a b) s fun v => v.bridge.spiError = true ∧
    v.bridge.lastFaultAddr = a ∧ v.bridge.mailbox = s.bridge.mailbox ∧ v.bridge.edgeRam = s.bridge.edgeRam ∧ Only s v [.bridge] [] := by
  obtain ⟨m, hm⟩ := ((s.begin t).withSpiError true).hostFault_bridge a txALIGNMENT ((s.begin t).n O.hostEndpointDie)
  have hr : spiWrite a b (s.begin t) = ((s.begin t).withSpiError true).hostFault a txALIGNMENT ((s.begin t).n O.hostEndpointDie) :=
    (if_neg (State.begin_endpoint_some he t)).trans (if_pos ha)
  refine .intro (congrArg Host.Outcome.next hr) ?_
  rw [hm]
  exact ⟨rfl, rfl, rfl, rfl, ((only_withSpiError ..).one (only_hostFault ..) (by simp)).begin⟩

/-- An aligned write stores its whole words in rising order. -/
theorem spiWrite_words {a : Nat} (ha : a % 4 = 0) : spiWrite a b (s.begin t) = (List.range (b.length / 4)).foldl
    (fun (s : State) i => s.hostWritePiece 2 (a + 4 * i) (slice b (4 * i) 4) []) ((s.begin t).withSpiError (decide (b.length % 4 ≠ 0))) :=
  (if_neg (State.begin_endpoint_some he t)).trans (if_neg (not_not.mpr ha))

theorem spiWrite_runs_rest {a : Nat} (ha : a % 4 = 0) (hb : b.length < 4) : Runs (.spiWrite t a b) s fun v =>
    v.bridge = { s.bridge with spiError := !b.isEmpty } ∧ Only s v [.bridge] [] := by
  have hr := spiWrite_words (t := t) (b := b) he ha
  have hx : decide (b.length % 4 ≠ 0) = !b.isEmpty := by
    rw [Nat.mod_eq_of_lt hb]
    cases b <;> rfl
  rw [Nat.div_eq_of_lt hb, hx] at hr
  exact .intro (congrArg Host.Outcome.next hr) ⟨rfl, (only_withSpiError ..).begin⟩

theorem spiWrite_runs_word {a : Nat} (ha : a % 4 = 0) (hlt : a < 0x10000) (hb : b.length = 4) (hs : s.swapOf 0 = 0) :
    Runs (.spiWrite t a b) s fun v => v.bridge.spiError = false ∧ v.mailboxOf e = ramWrite (s.mailboxOf e) a b ∧
      (∀ d, d ≠ e → v.mailboxOf d = s.mailboxOf d) ∧ v.bridge.edgeRam = s.bridge.edgeRam ∧ Only s v [.bridge] s.lineKeys := by
  have hr := spiWrite_words (t := t) (b := b) he ha
  obtain ⟨u, hu, hw⟩ := hostWritePiece_mailbox (s := (s.begin t).withSpiError false) (m := 2) (off := a) (b := b) he (if_pos hlt)
  rw [show windowOff a = a from Nat.mod_eq_of_lt hlt, State.pieceLow_word (s := (s.begin t).withSpiError false) hs ha hb,
    State.pieceData_word (s := (s.begin t).withSpiError false) hs ha hb] at hw
  have hslice : slice b (4 * 0) 4 = b := List.take_of_length_le (Nat.le_of_eq hb)
  rw [hb, show (List.range (4 / 4)) = [0] from rfl, List.foldl_cons, List.foldl_nil, hslice] at hr
  refine .intro (congrArg Host.Outcome.next (hr.trans hw)) ⟨?_, ?_, fun d hd => ?_, ?_,
    ((((only_withSpiError ..).trans hu.only).mono (by simp) (by rw [List.nil_append]; exact List.Subset.refl _)).setBridge _ (by simp)).begin⟩
  · show u.bridge.spiError = false
    rw [hu.bridge]
    rfl
  · rw [State.setMailbox_mailboxOf, if_pos rfl]
    rfl
  · rw [State.setMailbox_mailboxOf, if_neg hd, hu.mailboxOf]
    rfl
  · show u.bridge.edgeRam = _
    rw [hu.bridge]
    rfl

/-- The SPI read that waits, or none. -/
def State.withSpiRead (s : State) (x : Option SpiJob) : State := { s with bridge := { s.bridge with spiRead := x } }

omit he in
theorem only_withSpiRead (s : State) (x : Option SpiJob) : Only s (s.withSpiRead x) [.bridge] [] := (Only.same s _ _).setBridge _ (by simp)

section SpiRead

variable {a n : Nat}

theorem spiRead_runs_held (hh : s.spiHeld a = true) : Runs (.spiRead t a n) s fun v =>
    v.bridge = { s.bridge with spiRead := some ⟨a, a, n, [], none⟩ } ∧ Only s v [.bridge] [] :=
  .intro (congrArg Host.Outcome.next ((if_neg (State.begin_endpoint_some he t)).trans (if_pos hh)))
    ⟨rfl, (only_withSpiRead (s.begin t) (some ⟨a, a, n, [], none⟩)).begin⟩

/-- With no earlier write to its window in flight a read goes on at once. -/
theorem spiRead_goes (hh : s.spiHeld a = false) : spiRead a n (s.begin t) = State.spiGo a n a [] ((s.begin t).withSpiRead none) :=
  (if_neg (State.begin_endpoint_some he t)).trans (if_neg (show ¬ s.spiHeld a = true by rw [hh]; exact Bool.false_ne_true))

omit he in
theorem State.remoteWord_misaligned (ha : a % 4 ≠ 0) (m : Nat) : s.remoteWord m a = none := by
  unfold State.remoteWord
  split
  · exact if_neg fun h => ha h.1
  · rfl

theorem spiRead_runs_misaligned (hh : s.spiHeld a = false) (ha : a % 4 ≠ 0) : Runs (.spiRead t a (n + 1)) s fun v =>
    .message "spi" a [0xE1, 3] ∈ v.out ∧ v.bridge.lastFaultAddr = a ∧ v.bridge.spiRead = none ∧ Only s v [.bridge] s.lineKeys := by
  have hread (u : State) (hu : u.endpoint = some e) : u.hostRead 2 a = (txALIGNMENT, [], u) := by
    unfold State.hostRead
    rw [hu]
    exact if_pos ha
  have hgo (u : State) (hu : u.endpoint = some e) : State.spiGo a (n + 1) a [] u = u.spiFail a a txALIGNMENT [] := by
    unfold State.spiGo
    rw [State.remoteWord_misaligned ha]
    dsimp only
    rw [hread u hu]
    exact if_neg (show txALIGNMENT ≠ txOK by decide)
  refine .intro (congrArg Host.Outcome.next ((spiRead_goes he hh).trans (hgo _ he)))
    ⟨List.mem_append_right _ (List.mem_singleton.mpr rfl), rfl, rfl,
      ((((only_withSpiRead (s.begin t) none).setBridge _ (by simp)).none (only_emit ..)).mono (by simp) (by simp)).begin⟩

/-- A word of the mailbox whose window has no line copies is read from it as it stands. -/
theorem hostRead_mailbox (ha : a % 4 = 0) (hlt : a < 0x10000) (hp : bit (get 0 s.bridge.windows 0) 2 = false) (m : Nat) :
    s.hostRead m a = (txOK, (List.range 4).map (fun i =>
      (slice (ramRead (s.mailboxOf e) (a / 64 * 64) 64) (s.swapped 0 (a + i) % 64) 1).headD 0), s.discardLines (fun _ => true)) := by
  obtain ⟨-, -, hup⟩ := State.endpoint_spec he
  have hdie : ¬ (!s.hasDie e) = true := by
    unfold State.dieUp at hup
    simp only [Bool.and_eq_true] at hup
    rw [hup.1.1]
    exact Bool.false_ne_true
  have hline : s.fetchLine m e 0 (a / 64 * 64) = (s.lineNow e 0 (a / 64 * 64), s.discardLines (fun _ => true)) :=
    if_neg (by rw [hp]; exact Bool.false_ne_true)
  have hsw (x : Nat) : (s.discardLines fun _ => true).swapped 0 x = s.swapped 0 x := by
    unfold State.swapped State.swapOf
    rw [State.discardLines_bridge]
  unfold State.hostRead
  rw [he]
  dsimp only
  rw [if_neg (not_not.mpr ha), show windowOf a = some 0 from if_pos hlt, show windowOff a = a from Nat.mod_eq_of_lt hlt]
  dsimp only
  rw [if_neg (by decide), if_pos rfl, if_neg hdie, if_neg (fun h => h.1 rfl), hline]
  simp only [hsw]
  rfl

omit he in
theorem State.remoteWord_mailbox (hlt : a < 0x10000) (m : Nat) : s.remoteWord m a = none := by
  have hw : windowOf a = some 0 := if_pos hlt
  unfold State.remoteWord
  split
  · rename_i w _ he hw'
    obtain rfl := Option.some.inj (hw.symm.trans hw')
    exact if_neg fun h => absurd h.2.1 (by decide)
  · rfl

theorem spiRead_runs_mailbox (hh : s.spiHeld a = false) (ha : a % 4 = 0) (hlt : a < 0x10000) (hp : bit (get 0 s.bridge.windows 0) 2 = false) :
    Runs (.spiRead t a 1) s fun v =>
      .message "spi" a (0x5A :: (List.range 4).map fun i =>
        (slice (ramRead (s.mailboxOf e) (a / 64 * 64) 64) (s.swapped 0 (a + i) % 64) 1).headD 0) ∈ v.out ∧
      v.bridge.spiRead = none ∧ v.bridge.mailbox = s.bridge.mailbox ∧ v.bridge.edgeRam = s.bridge.edgeRam ∧ Only s v [.bridge] s.lineKeys := by
  have hr := hostRead_mailbox (s := (s.begin t).withSpiRead none) he ha hlt hp 2
  have hgo : State.spiGo a 1 a [] ((s.begin t).withSpiRead none) = (((s.begin t).withSpiRead none).discardLines fun _ => true).emit
      (.message "spi" a (0x5A :: (List.range 4).map fun i =>
        (slice (ramRead (s.mailboxOf e) (a / 64 * 64) 64) (s.swapped 0 (a + i) % 64) 1).headD 0)) := by
    unfold State.spiGo
    rw [State.remoteWord_mailbox hlt]
    dsimp only
    rw [hr]
    rfl
  have hd := State.discardLines_discarded ((s.begin t).withSpiRead none) (fun _ => true)
  have hb := hd.bridge
  generalize ((s.begin t).withSpiRead none).discardLines (fun _ => true) = u at hd hb hgo
  refine .intro (congrArg Host.Outcome.next ((spiRead_goes he hh).trans hgo)) ⟨List.mem_append_right _ (List.mem_singleton.mpr rfl), ?_, ?_, ?_,
    ((((only_withSpiRead ..).trans hd.only).mono (by simp) (by rw [List.nil_append]; exact List.Subset.refl _)).none (only_emit ..)).begin⟩
  · exact (congrArg BridgeSt.spiRead hb :)
  · exact (congrArg BridgeSt.mailbox hb :)
  · exact (congrArg BridgeSt.edgeRam hb :)

end SpiRead

end Writes

/-! ### The endpoint die (R299, R405) -/

/-- Die 1 takes the endpoint. -/
theorem endpointTakeover_runs (h : s.n O.hostEndpointDie = 0xFF) (hd : s.dieUp 1 = true) : Runs (.endpointTakeover t) s fun v =>
    v.n O.hostEndpointDie = 1 ∧ v.bridge.doorbellIn = 0 ∧ v.bridge.doorbellOut = 0 ∧ v.bridge.bridgeFaults = 0 ∧ v.bridge.windows = [] ∧
      v.bridge.fifo = [] ∧ v.bridge.lines = [] ∧ v.mailboxOf 1 = ramWrite (s.mailboxOf 1) 0 (fill 16 0) ∧
      (∀ e, e ∈ v.access.sessions → e.2.path ≠ Path.mailbox) ∧ (∀ a, a ∈ v.access.assocs → a.path ≠ Path.mailbox) ∧
      Only s v [.bridge, .access] [O.hostEndpointDie] := by
  refine .intro (congrArg Host.Outcome.next (if_pos ⟨h, hd⟩)) ⟨State.setN_self (s.begin t) O.hostEndpointDie 1, rfl, rfl, rfl, rfl, rfl, rfl, ?_,
    fun e he => ?_, fun a ha => ?_, ?_⟩
  · exact State.setMailbox_mailboxOf ..
  · exact bne_iff_ne.mp (List.mem_filter.mp he).2
  · exact bne_iff_ne.mp (List.mem_filter.mp ha).2
  · exact ((((((only_setN (s.begin t) O.hostEndpointDie 1).mono (by simp) (by simp)).setBridge _ (by simp)).setBridge _ (by simp)).setAccess _
      (by simp))).begin

end Sys2Proof.Machine

open Sys2Proof Sys2Proof.Machine

/-- Settles O32, by the register, the window or the target that an access of the host names. -/
theorem hostInterfaces : Obligations.HostInterfaces :=
  ⟨intWireChange_runs, fun _ _ _ _ _ he hd => intSourceClear_runs he hd,
    fun _ _ _ _ he => ⟨doorbellIn_runs he, doorbellOut_runs he, eventFifo_runs he, spiStatus_runs he⟩,
    fun _ _ _ _ he => ⟨windowControl_runs_absent he, windowControl_runs_refused he, windowControl_runs_taken he⟩,
    fun _ _ _ _ _ _ h => prefetchDiscard_runs h,
    fun _ _ _ _ _ he => ⟨hostWindowWrite_runs_misaligned he, fun _ => hostWindowWrite_runs_mailbox he, fun _ _ => hostWindowWrite_runs_edgeRam he⟩,
    fun _ _ _ _ _ he => ⟨spiWrite_runs_misaligned he, spiWrite_runs_rest he, spiWrite_runs_word he⟩,
    fun _ _ _ _ _ he => ⟨spiRead_runs_held he, spiRead_runs_misaligned he, spiRead_runs_mailbox he⟩,
    fun _ _ h hd => endpointTakeover_runs h hd⟩
end

section
/-! Proofs about the look-aside engines (R341 to R349): what a run of an engine can change. -/
namespace Sys2Proof.Machine
open Sys2Proof

variable {s : State}

/-- Every look-aside job stands on one of the dies 0 to 7. -/
def State.jobsHome (s : State) : Prop := ∀ j ∈ s.cipher.jobs, j.die < 8

/-- The objects that the engines of the dies count in. -/
def engineKeys : List Nat := (List.range 8).flatMap fun d => [bySub O.jobsCompleted d, bySub O.jobsFailed d, bySub O.eventLogPasses d]

theorem mem_engineKeys {d k : Nat} (hd : d < 8) (hk : k ∈ [bySub O.jobsCompleted d, bySub O.jobsFailed d, bySub O.eventLogPasses d]) :
    k ∈ engineKeys :=
  List.mem_flatMap.mpr ⟨d, List.mem_range.mpr hd, hk⟩

/-- From `s` to `u` look-aside engines have worked: jobs have started, waited or ended, and keys have been asked for. -/
structure Engined (s u : State) : Prop where
  only : Only s u [.cipher, .cairn, .access, .logs] engineKeys
  cairn : u.cairn = { s.cairn with requests := u.cairn.requests }
  sas : u.cipher.sas = s.cipher.sas
  journal : u.cipher.journal = s.cipher.journal
  mka : u.cipher.mka = s.cipher.mka
  next : u.cipher.next = s.cipher.next
  session : ∀ n, (u.session? n).isSome = (s.session? n).isSome
  out : ∀ o ∈ s.out, o ∈ u.out
  home : s.jobsHome → u.jobsHome

namespace Engined

variable {u w : State}

theorem refl (s : State) : Engined s s := ⟨.same .., rfl, rfl, rfl, rfl, rfl, fun _ => rfl, fun _ h => h, fun h => h⟩

theorem trans (h : Engined s u) (g : Engined u w) : Engined s w where
  only := (h.only.trans g.only).mono (by simp) (by simp)
  cairn := by rw [g.cairn, h.cairn]
  sas := g.sas.trans h.sas
  journal := g.journal.trans h.journal
  mka := g.mka.trans h.mka
  next := g.next.trans h.next
  session n := (g.session n).trans (h.session n)
  out o ho := g.out o (h.out o ho)
  home hs := g.home (h.home hs)

theorem ite {c : Prop} [Decidable c] {a b : State} (ha : Engined s a) (hb : Engined s b) : Engined s (if c then a else b) := by
  split
  · exact ha
  · exact hb

theorem emit (s : State) (o : Out) : Engined s (s.emit o) :=
  ⟨(only_emit ..).mono (by simp) (by simp), rfl, rfl, rfl, rfl, rfl, fun _ => rfl, fun _ h => List.mem_append_left _ h, fun h => h⟩

/-- A count of a die. -/
theorem count {d k v : Nat} (hd : d < 8) (hk : k ∈ [bySub O.jobsCompleted d, bySub O.jobsFailed d, bySub O.eventLogPasses d]) (s : State) :
    Engined s (s.setN k v) :=
  ⟨(only_setN ..).mono (by simp) (by simpa using mem_engineKeys hd hk), rfl, rfl, rfl, rfl, rfl, fun _ => rfl, fun _ h => h, fun h => h⟩

/-- The jobs and the engine's own notes. -/
theorem cipherSt {x : CipherSt} (h1 : x.sas = s.cipher.sas) (h2 : x.journal = s.cipher.journal) (h3 : x.mka = s.cipher.mka)
    (h4 : x.next = s.cipher.next) (hj : s.jobsHome → ∀ j ∈ x.jobs, j.die < 8) : Engined s { s with cipher := x } :=
  ⟨(Only.same s _ _).setCipher _ (by simp), rfl, h1, h2, h3, h4, fun _ => rfl, fun _ h => h, hj⟩

end Engined

theorem State.updSession_isSome (s : State) (n m : Nat) (f : Session → Session) : ((s.updSession n f).session? m).isSome = (s.session? m).isSome := by
  unfold State.updSession
  split
  · rfl
  · rename_i x hx
    unfold State.session?
    dsimp only
    rw [look_ins]
    split
    · subst m
      exact (congrArg Option.isSome hx).symm
    · rfl

theorem Engined.updSession (s : State) (n : Nat) (f : Session → Session) : Engined s (s.updSession n f) := by
  have hf := only_updSession s n f
  exact ⟨hf.mono (by simp) (by simp), by rw [hf.rest .cairn (by decide)], congrArg CipherSt.sas (hf.rest .cipher (by decide)),
    congrArg CipherSt.journal (hf.rest .cipher (by decide)), congrArg CipherSt.mka (hf.rest .cipher (by decide)),
    congrArg CipherSt.next (hf.rest .cipher (by decide)), fun m => s.updSession_isSome n m f, by
      unfold State.updSession
      split <;> exact fun _ h => h, fun h j hj => h j (by rwa [show (s.updSession n f).cipher = s.cipher from hf.rest .cipher (by decide)] at hj)⟩

theorem State.mapJob_engined (j : Job) {f : Job → Job} (hf : ∀ x : Job, x.die < 8 → (f x).die < 8) (s : State) : Engined s (s.mapJob j f) := by
  refine .cipherSt rfl rfl rfl rfl fun hs k hk => ?_
  obtain ⟨x, hx, rfl⟩ := List.mem_map.mp hk
  split
  · exact hf x (hs x hx)
  · exact hs x hx

theorem State.dropJobs_engined (p : Job → Bool) (s : State) :
    Engined s { s with cipher := { s.cipher with jobs := s.cipher.jobs.filter p } } :=
  .cipherSt rfl rfl rfl rfl fun hs j hj => hs j (List.mem_of_mem_filter hj)

theorem Engined.foldl {α : Type} {f : State → α → State} (hf : ∀ v a, Engined v (f v a)) (l : List α) (s : State) : Engined s (l.foldl f s) :=
  List.foldlRecOn (motive := Engined s) l f (.refl s) fun _ h a _ => h.trans (hf _ a)

theorem State.releaseJobs_engined (s : State) (c : Nat) : Engined s (s.releaseJobs c) := by
  unfold State.releaseJobs
  refine (State.dropJobs_engined _ s).trans (.foldl (fun v j => ?_) _ _)
  exact .trans (.ite (.refl v) (.emit ..)) (.emit ..)

/-- The count of a job that ends with a status. -/
def State.jobCounted (s : State) (j : Job) (st : Nat) : State :=
  if st = jsDONE then s.inc64 (bySub O.jobsCompleted j.die) else s.inc32 (bySub O.jobsFailed j.die)

theorem State.jobCounted_engined {j : Job} (hj : j.die < 8) (st : Nat) (s : State) : Engined s (s.jobCounted j st) :=
  .ite (.count hj (by simp) s) (.count hj (by simp) s)

/-- The jobs of one place of a ring, or of one session, are gone. -/
def State.withoutJob (s : State) (j : Job) : State :=
  { s with cipher := { s.cipher with jobs := s.cipher.jobs.filter (fun x => !(x.cls == j.cls && x.index == j.index)) } }

theorem State.endJob_session {j : Job} {n : Nat} (h : j.sess = some n) (s : State) (st : Nat) (b : Bytes) : s.endJob j st b =
    ((s.jobCounted j st).withoutJob j).updSession n (fun x => { x with job := none, jobResult := leBytes 1 st ++ fill 3 0 ++ j.iv ++ b }) := by
  unfold State.endJob
  rw [h]
  rfl

theorem State.endJob_ring {j : Job} (h : j.sess = none) (s : State) (st : Nat) (b : Bytes) : s.endJob j st b =
    ((s.jobCounted j st).mapJob j (fun x => { x with run := 3, status := st, output := b, key := [] })).releaseJobs j.cls := by
  unfold State.endJob
  rw [h]
  rfl

theorem State.endJob_engined {j : Job} (hj : j.die < 8) (st : Nat) (b : Bytes) (s : State) : Engined s (s.endJob j st b) := by
  have hc := State.jobCounted_engined hj st s
  cases h : j.sess with
  | some n => exact State.endJob_session h s st b ▸ (hc.trans (State.dropJobs_engined _ _)).trans (.updSession ..)
  | none =>
    have hm := State.mapJob_engined j (f := fun x => { x with run := 3, status := st, output := b, key := [] }) (fun _ hx => hx) (s.jobCounted j st)
    exact State.endJob_ring h s st b ▸ (hc.trans hm).trans (State.releaseJobs_engined ..)

/-! ### The start of a job (R342, R343, R345) -/

theorem keyRequest_engined (d k : Nat) (s : State) : Engined s (keyRequest d k s) := by
  have hreq : Engined s { s with cairn := { s.cairn with requests := s.cairn.requests ++ [(d, k)] } } :=
    ⟨(Only.same s _ _).setCairn _ (by simp), rfl, rfl, rfl, rfl, rfl, fun _ => rfl, fun _ h => h, fun h => h⟩
  exact .ite (.refl s) (.ite hreq (hreq.trans (.emit ..)))

theorem State.logBytes_engined {d : Nat} (hd : d < 8) (n : Nat) (s : State) : Engined s (s.logBytes d n) := by
  have hlogs : Engined s { s with logs := upd {} s.logs d (fun l => { l with bytes := ((s.log d).bytes + n) % 2 ^ 20 }) } :=
    ⟨(Only.same s _ _).setLogs _ (by simp), rfl, rfl, rfl, rfl, rfl, fun _ => rfl, fun _ h => h, fun h => h⟩
  exact hlogs.trans (.count hd (by simp) _)

theorem State.gcmStart_engined {j : Job} (hj : j.die < 8) (s : State) : Engined s (s.gcmStart j).2 ∧ (s.gcmStart j).1.die = j.die := by
  unfold State.gcmStart
  split
  · have hcount (m : SMap (Nat × Nat)) : Engined s { s with cipher := { s.cipher with counts := m } } := .cipherSt rfl rfl rfl rfl fun h => h
    exact ⟨.ite ((hcount _).trans (State.logBytes_engined hj ..)) (hcount _), rfl⟩
  · exact ⟨.refl s, rfl⟩

theorem State.latchKey_engined (j : Job) (s : State) : Engined s (s.latchKey j).2 := by
  unfold State.latchKey
  dsimp only
  split
  · exact .cipherSt rfl rfl rfl rfl fun h => h
  · exact .refl s

theorem State.startJob_engined {j : Job} (hj : j.die < 8) (s : State) : Engined s (s.startJob j) := by
  unfold State.startJob
  split
  · exact State.endJob_engined hj ..
  · obtain ⟨hg, hd⟩ := s.gcmStart_engined hj
    refine .ite (keyRequest_engined ..) ((hg.trans (State.latchKey_engined ..)).trans (State.mapJob_engined _ (fun _ _ => ?_) _))
    exact hd.symm ▸ hj

/-! ### The decisions of an engine (R345) -/

/-- A choice by folding is one of the list, or the one it began with. -/
theorem mem_of_foldl_pick {α : Type} {f : Option α → α → Option α} (hf : ∀ a x y, f a x = some y → y = x ∨ a = some y) (l : List α)
    (a : Option α) (y : α) (h : l.foldl f a = some y) : y ∈ l ∨ a = some y := by
  induction l generalizing a with
  | nil => exact .inr h
  | cons x l ih =>
    rcases ih (f a x) h with hy | hy
    · exact .inl (List.mem_cons_of_mem _ hy)
    · rcases hf a x y hy with rfl | ha
      · exact .inl List.mem_cons_self
      · exact .inr ha

theorem State.drrPick_mem {d u : Nat} {j : Job} (h : s.drrPick d u = some j) : j ∈ s.cipher.jobs := by
  unfold State.drrPick at h
  dsimp only at h
  refine (mem_of_foldl_pick (fun a x y hy => ?_) _ _ _ h).elim (fun hm => ?_) nofun
  · split at hy
    · exact .inl (Option.some.inj hy).symm
    · split at hy
      · exact .inl (Option.some.inj hy).symm
      · exact .inr hy
  · obtain ⟨c, _, hc⟩ := List.mem_filterMap.mp hm
    exact List.mem_of_mem_filter (List.mem_of_mem_filter (List.mem_of_find?_eq_some hc))

/-- The engine starts the job that its round robin picks. -/
def State.launch (d : Nat) (s : State) (u : Nat) : State :=
  match s.drrPick d u with
  | some j => (s.drrPay j).startJob j
  | none => s

theorem State.launch_engined (hs : s.jobsHome) (d u : Nat) : Engined s (s.launch d u) := by
  unfold State.launch
  split
  · rename_i j hj
    exact Engined.trans (.cipherSt rfl rfl rfl rfl fun h => h : Engined s (s.drrPay j)) (State.startJob_engined (hs j (State.drrPick_mem hj)) _)
  · exact .refl s

theorem State.rerun_engined (j : Job) (r : Nat) (s : State) : Engined s (s.mapJob j (fun x => { x with run := r })) :=
  State.mapJob_engined j (f := fun x => { x with run := r }) (fun _ hx => hx) s

theorem State.engineStep_engined (hs : s.jobsHome) (d : Nat) : Engined s (s.engineStep d) := by
  have hresume (v : Nat) : Engined s (match (s.cipher.jobs.filter (fun j => j.die == d)).find? (fun j => j.run == 2 && s.urgencyOf j == v) with
      | some j => s.mapJob j (fun x => { x with run := 1 })
      | none => s) := by
    split
    · exact State.rerun_engined ..
    · exact .refl s
  unfold State.engineStep
  dsimp only
  split
  · rename_i e _
    split
    · have hm := State.rerun_engined e 2 s
      exact .ite (hm.trans (State.launch_engined (hm.home hs) ..)) (.refl s)
    · exact .refl s
  · split
    · exact .ite (State.launch_engined hs ..) (hresume _)
    · exact hresume _
    · exact State.launch_engined hs ..
    · exact .refl s

theorem State.engineRun_engined (n d : Nat) (s : State) (hs : s.jobsHome) : Engined s (State.engineRun n d s) := by
  induction n generalizing s with
  | zero => exact .refl s
  | succ n ih =>
    have h := State.engineStep_engined hs d
    exact h.trans (ih _ (h.home hs))

theorem State.engine_engined (hs : s.jobsHome) (d : Nat) : Engined s (s.engine_ d) := State.engineRun_engined _ d s hs

theorem State.takeJob_engined (hs : s.jobsHome) {j : Job} (hj : j.die < 8) : Engined s (s.takeJob j) := by
  have ht : Engined s { s with cipher := { s.cipher with jobs := s.cipher.jobs ++ [j] } } := by
    refine .cipherSt rfl rfl rfl rfl fun hs k hk => ?_
    rcases List.mem_append.mp hk with h | h
    · exact hs k h
    · exact List.mem_singleton.mp h ▸ hj
  exact ht.trans (State.engine_engined (ht.home hs) _)

theorem State.enginesGo_engined (hs : s.jobsHome) : Engined s s.enginesGo :=
  List.foldlRecOn (motive := fun u => Engined s u) s.dies _ (.refl s) fun _ h d _ => h.trans (State.engine_engined (h.home hs) d)

theorem State.failJobs_engined (hs : s.jobsHome) (p : Job → Bool) (st : Nat) : Engined s (s.failJobs p st) :=
  List.foldlRecOn (motive := fun u => Engined s u) (s.cipher.jobs.filter (fun j : Job => j.run != 3 && p j)) (fun u j => u.endJob j st []) (.refl s)
    fun _ h j hj => h.trans (State.endJob_engined (hs j (List.mem_of_mem_filter hj)) ..)

end Sys2Proof.Machine
end

section
/-! Proofs about key requests, slot records, imports and attestation (R307, R313 to R317, R327, R328). -/
namespace Sys2Proof.Machine
open Sys2Proof

/-! ### Writes whose act touches the sessions -/

section Requests

variable {s w : State} {who : Who} {x : Session} {t idx sub lo hi v : Nat} {b : Bytes} {i : Instr} {st : Status}

theorem State.Takes.heard_session (h : s.Takes who x) (t idx sub : Nat) : ((s.heard t who idx sub).session? who.sess).isSome = true := by
  refine State.session_touch _ _ _ _ _ ?_
  rw [show ((s.begin t).traffic).session? who.sess = s.session? who.sess from rfl, h.session]
  rfl

/-- A request that leaves its session open is answered, and the answer touches only the session and the mailbox. -/
theorem Runs.of_answer (he : exec i s = .next (w.answer who (Response.of st))) (hw : (w.session? who.sess).isSome = true) :
    Runs i s fun u => u.answered who st ∧ Only w u [.access, .bridge] [] :=
  .intro he ⟨State.answer_out _ _ _ hw, only_answer ..⟩

theorem State.MayWrite.acts (h : s.MayWrite who x idx sub v) (act : Session → State → Status × State)
    (he : exec i s = cmdRow t who idx sub v act s) (ha : act x (s.heard t who idx sub) = (st, w)) (hw : (w.session? who.sess).isSome = true) :
    Runs i s fun u => u.answered who st ∧ Only w u [.access, .bridge] [] :=
  .of_answer (he.trans (cmdRow_runs h t act ha)) hw

theorem State.MayWriteDom.acts (h : s.MayWriteDom who x idx sub lo hi b.length) (ok : State → Bool) (act : Session → State → Status × State)
    (he : exec i s = domRow t who idx sub b lo hi ok act s) (hok : ok (s.heard t who idx sub) = true)
    (ha : act x (s.heard t who idx sub) = (st, w)) (hw : (w.session? who.sess).isSome = true) :
    Runs i s fun u => u.answered who st ∧ Only w u [.access, .bridge] [] :=
  .of_answer (he.trans (domRow_runs h t ok act hok ha)) hw

/-- What a request that was refused leaves: the session, the mailbox and the traffic. -/
theorem only_heard_answer {u : State} (hu : Only (s.heard t who idx sub) u [.access, .bridge] []) : Only s u [.access, .power, .bridge] [] :=
  ((only_heard s t who idx sub).trans hu).mono (by simp) (by simp)

theorem State.MayWriteDom.runs_refused (h : s.MayWriteDom who x idx sub lo hi b.length) (ok : State → Bool)
    (act : Session → State → Status × State) (he : exec i s = domRow t who idx sub b lo hi ok act s) (hok : ok (s.heard t who idx sub) = true)
    (ha : act x (s.heard t who idx sub) = (st, s.heard t who idx sub)) :
    Runs i s fun u => u.answered who st ∧ Only s u [.access, .power, .bridge] [] :=
  (h.acts ok act he hok ha (h.toTakes.heard_session ..)).imp fun _ ⟨hans, hu⟩ => ⟨hans, only_heard_answer hu⟩

/-- A DOMAIN whose reserved encodings are not met is out of range. -/
theorem State.MayWriteDom.runs_outOfRange (h : s.MayWriteDom who x idx sub lo hi b.length) (ok : State → Bool)
    (act : Session → State → Status × State) (he : exec i s = domRow t who idx sub b lo hi ok act s) (hok : ok (s.heard t who idx sub) = false) :
    Runs i s fun u => u.answered who .outOfRange ∧ Only s u [.access, .power, .bridge] [] := by
  have hr : domRow t who idx sub b lo hi ok act s = .next ((s.heard t who idx sub).answer who (Response.of .outOfRange)) := by
    obtain ⟨r, hr⟩ := Option.isSome_iff_exists.mp h.right
    have hc : ((s.begin t).traffic.writeCheck x.rights idx sub).2 = some r := hr
    have hl : ¬(b.length < lo ∨ hi < b.length) := by
      have := h.length
      omega
    unfold domRow
    rw [serve_taken (h.toTakes.begin t)]
    unfold writeDom
    unfold State.heard at hok ⊢
    simp only [hc, hl, hok, Bool.not_false, if_true, if_false]
  exact (Runs.of_answer (he.trans hr) (h.toTakes.heard_session ..)).imp fun _ ⟨hans, hu⟩ => ⟨hans, only_heard_answer hu⟩

end Requests

/-- An outcome by the two answers of a test on the state. -/
theorem Runs.of_bool {i : Instr} {s : State} {b : Bool} {p q : State → Prop} (hp : b = false → Runs i s p) (hq : b = true → Runs i s q) :
    Runs i s fun v => (b = false → p v) ∧ (b = true → q v) := by
  cases b
  · exact (hp rfl).imp fun _ h => ⟨fun _ => h, nofun⟩
  · exact (hq rfl).imp fun _ h => ⟨nofun, fun _ => h⟩

/-! ### Slots through operations elsewhere -/

section Slots

variable {s u : State} {P : List Part} {K : List Nat}

theorem Only.slotRec_eq (h : Only s u P K) (hb : Part.blobs ∉ P) (k : Nat) : u.slotRec k = s.slotRec k := h.blob_eq hb _

theorem State.slotRec_heard (s : State) (t : Nat) (who : Who) (idx sub k : Nat) : (s.heard t who idx sub).slotRec k = s.slotRec k :=
  (only_heard ..).slotRec_eq (by decide) k

theorem State.slotRecOk_congr (h : ∀ k, u.slotRec k = s.slotRec k) (first : Nat) (b : Bytes) (k : Nat) :
    u.slotRecOk first b k = s.slotRecOk first b k := by
  unfold State.slotRecOk State.recAfter
  simp only [h]

theorem State.importOk_congr (h : ∀ k, u.slotRec k = s.slotRec k) (b : Bytes) : u.importOk b = s.importOk b := by
  unfold State.importOk
  simp only [h]

theorem State.isParent_congr (hv : u.variant = s.variant) (hd : u.dict = s.dict) (k : Nat) : u.isParent k = s.isParent k := by
  unfold State.isParent State.blob
  rw [hv, hd]

theorem State.anchorUp_congr (hv : u.variant = s.variant) (hp : u.pkg = s.pkg) (hc : u.cairn = s.cairn) : u.anchorUp = s.anchorUp := by
  unfold State.anchorUp State.rootOk
  rw [State.dieUp_congr hv hp, hp, hc]

theorem State.keysLocked_congr (hp : u.pkg = s.pkg) (hn : ∀ k, u.n k = s.n k) : u.keysLocked = s.keysLocked := by
  unfold State.keysLocked
  rw [hp, hn]

theorem slotKey_ne {j k : Nat} (h : j ≠ k) : at_ O.cairnSlotRecords j ≠ at_ O.cairnSlotRecords k := by
  unfold at_
  omega

end Slots

/-! ### Requests and deliveries of keys (R307, R315, R316) -/

section Delivery

variable {s : State} {t d k : Nat}

theorem State.slotValue_congr {u : State} (h : ∀ k, u.slotRec k = s.slotRec k) (hr : u.rootOk 0 = s.rootOk 0)
    (hl : u.cairn.leaves = s.cairn.leaves) (f k : Nat) : u.slotValue f k = s.slotValue f k := by
  induction f generalizing k with
  | zero => rfl
  | succ f ih =>
    unfold State.slotValue
    simp only [h, hr, hl, ih]

/-- The request of a die for a key is under way. -/
def State.keyAsked (s : State) (d k : Nat) : State := { s with cairn := { s.cairn with requests := s.cairn.requests ++ [(d, k)] } }

theorem only_asked_key (s : State) (d k : Nat) : Only s (s.keyAsked d k) [.cairn] [] := (Only.same s _ _).setCairn _ (by simp)

/-- What a die needs so that a key that it asks for is sent to it. -/
structure State.mayAsk (s : State) (d k : Nat) : Prop where
  up : s.dieUp d = true
  unlocked : s.keysLocked = false
  anchor : s.anchorUp = true
  matched : bit (s.n O.transportMismatches) d = false
  root : s.rootOk d = true
  state : bit (ksAttr (s.slotRec k)) (24 + s.n O.lifeCycleState) = true
  fresh : s.cairn.requests.contains (d, k) = false

theorem State.mayAsk.begin (h : s.mayAsk d k) (t : Nat) : (s.begin t).mayAsk d k where
  up := h.up
  unlocked := (State.keysLocked_congr rfl (State.begin_n s t)).trans h.unlocked
  anchor := h.anchor
  matched := by rw [State.begin_n]; exact h.matched
  root := h.root
  state := by rw [State.begin_n]; exact h.state
  fresh := h.fresh

theorem keyRequest_sends {b : Bytes} (h : s.mayAsk d k) (hv : s.slotValue 9 k = some b) (hh : s.holds d k = false) :
    keyRequest d k s = if d = 0 then s.keyAsked d k else (s.keyAsked d k).emit (.message "key" (1024 * d + k) (wrapFor d b)) := by
  have hv' : (s.keyAsked d k).slotValue 9 k = some b := (State.slotValue_congr (fun _ => rfl) rfl rfl 9 k).trans hv
  obtain ⟨h1, h2, h3, h4, h5, h6, h7⟩ := h
  unfold keyRequest
  rw [if_neg (by rw [h1, h2, h3, h4, h5, hh, h7, hv, h6]; exact Bool.false_ne_true)]
  show (if d = 0 then s.keyAsked d k else (s.keyAsked d k).emit (.message "key" (1024 * d + k) (wrapFor d (((s.keyAsked d k).slotValue 9 k).getD [])))) = _
  rw [hv']
  rfl

theorem keyRequest_runs_sent {b : Bytes} (h : s.mayAsk d k) (hv : s.slotValue 9 k = some b) (hh : s.holds d k = false) :
    Runs (.keyRequest t d k) s fun v => v.cairn = { s.cairn with requests := s.cairn.requests ++ [(d, k)] } ∧
      (d ≠ 0 → .message "key" (1024 * d + k) (wrapFor d b) ∈ v.out) ∧ Only s v [.cairn] [] := by
  have he := keyRequest_sends (h.begin t) ((State.slotValue_congr (fun _ => rfl) rfl rfl 9 k).trans hv) hh
  refine .intro (congrArg Host.Outcome.next he) ?_
  have hf := (only_asked_key (s.begin t) d k).begin
  split
  · exact ⟨rfl, fun h => absurd ‹_› h, hf⟩
  · exact ⟨rfl, fun _ => List.mem_append_right _ (List.mem_singleton.mpr rfl), hf.none (only_emit ..)⟩

theorem keyRequest_runs_held (hh : s.holds d k = true) : Runs (.keyRequest t d k) s fun v => Only s v [] [] := by
  have he : keyRequest d k (s.begin t) = s.begin t := if_pos (by simp [show (s.begin t).holds d k = true from hh])
  exact .intro (congrArg Host.Outcome.next he) (only_begin t s)

/-- The delivery of a key has come: its request is gone. -/
def State.keyCame (s : State) (d k : Nat) : State :=
  { s with cairn := { s.cairn with requests := s.cairn.requests.filter (fun x => x != (d, k)) } }

/-- The copy that a die keeps of a slot as it stands. -/
def State.copyOf (s : State) (k : Nat) : KeyCopy :=
  { gen := ksGen (s.slotRec k), committed := true, record := s.slotRec k, value := (s.slotValue 9 k).getD [] }

/-- The die keeps its copy of a slot, unless it has one of this generation. -/
def State.copyKept (s : State) (d k : Nat) : State :=
  if (get [] s.cairn.copies (1024 * d + k)).any (fun x => x.gen == (s.copyOf k).gen) then s else s.addCopy d k (s.copyOf k)

theorem keyDelivered_keeps (hq : s.cairn.requests.contains (d, k) = true) (hup : s.dieUp d = true) (hl : s.keysLocked = false) :
    keyDelivered d k s = ((s.keyCame d k).copyKept d k).cacheKey d k := by
  have hl' : (s.keyCame d k).keysLocked = false := hl
  have hup' : (s.keyCame d k).dieUp d = true := hup
  unfold keyDelivered
  rw [hq, if_neg (by decide)]
  exact if_neg (show ¬ (!(s.keyCame d k).dieUp d || (s.keyCame d k).keysLocked) = true by rw [hup', hl']; decide)

theorem State.copyKept_copies (s : State) (d k : Nat) :
    (get [] (s.copyKept d k).cairn.copies (1024 * d + k)).any (fun x => x.gen == ksGen (s.slotRec k)) = true := by
  unfold State.copyKept
  split
  · assumption
  · have hc : get [] (s.addCopy d k (s.copyOf k)).cairn.copies (1024 * d + k) =
        (s.copyOf k :: get [] s.cairn.copies (1024 * d + k)).take 2 :=
      get_upd_self [] s.cairn.copies (1024 * d + k) (fun l => (s.copyOf k :: l).take 2)
    rw [hc, List.take_succ_cons, List.any_cons, show (s.copyOf k).gen = ksGen (s.slotRec k) from rfl, beq_self_eq_true, Bool.true_or]

theorem State.copyKept_rest (s : State) (d k : Nat) : ∃ c, s.copyKept d k = { s with cairn := { s.cairn with copies := c } } := by
  unfold State.copyKept
  split
  · exact ⟨_, rfl⟩
  · exact ⟨_, rfl⟩

theorem State.cacheKey_holds (hup : s.dieUp d = true) (k : Nat) : (s.cacheKey d k).holds d k = true := by
  have hb : bit (get 0 (s.cacheKey d k).cairn.cache k) d = true := by
    unfold State.cacheKey
    rw [get_upd_self, bit_setBit, if_pos rfl]
  exact Bool.and_eq_true_iff.mpr ⟨hb, hup⟩

theorem State.cacheKey_cache_ne (s : State) (d : Nat) {k j : Nat} (h : j ≠ k) : get 0 (s.cacheKey d k).cairn.cache j = get 0 s.cairn.cache j := by
  unfold State.cacheKey
  exact get_upd_ne 0 s.cairn.cache k j (fun m => setBit m d true) h

theorem State.holds_congr {u : State} (hv : u.variant = s.variant) (hp : u.pkg = s.pkg) (hc : u.cairn.cache = s.cairn.cache) (d k : Nat) :
    u.holds d k = s.holds d k := by
  unfold State.holds
  rw [State.dieUp_congr hv hp, hc]

theorem keyDelivered_runs (hj : s.jobsHome) (hq : s.cairn.requests.contains (d, k) = true) (hup : s.dieUp d = true) (hl : s.keysLocked = false) :
    Runs (.keyDelivered t d k) s fun v => v.holds d k = true ∧ (∀ k', k' ≠ k → get 0 v.cairn.cache k' = get 0 s.cairn.cache k') ∧
      (get [] v.cairn.copies (1024 * d + k)).any (fun x => x.gen == ksGen (s.slotRec k)) = true ∧
      Only s v [.cairn, .cipher, .access, .logs] engineKeys := by
  have hl' : (s.begin t).keysLocked = false := (State.keysLocked_congr rfl (State.begin_n s t)).trans hl
  have he := keyDelivered_keeps (s := s.begin t) hq hup hl'
  obtain ⟨c, hc⟩ := ((s.begin t).keyCame d k).copyKept_rest d k
  have hcopies := ((s.begin t).keyCame d k).copyKept_copies d k
  have hrest : ∀ u : State, u = ((s.begin t).keyCame d k).copyKept d k → (u.cacheKey d k).jobsHome ∧ (u.cacheKey d k).holds d k = true ∧
      (∀ k', k' ≠ k → get 0 (u.cacheKey d k).cairn.cache k' = get 0 s.cairn.cache k') ∧ Only s (u.cacheKey d k) [.cairn] [] := by
    rintro u rfl
    rw [hc]
    refine ⟨hj, State.cacheKey_holds hup k, fun k' hne => State.cacheKey_cache_ne _ d hne, ?_⟩
    exact ((((Only.same (s.begin t) [.cairn] []).setCairn _ (by simp)).setCairn _ (by simp)).setCairn _ (by simp)).begin
  obtain ⟨hjobs, hholds, hcache, hf⟩ := hrest _ rfl
  have hg := State.engine_engined hjobs d
  rw [← he] at hg hholds hcache hf
  have hcop : (keyDelivered d k (s.begin t)).cairn.copies = (((s.begin t).keyCame d k).copyKept d k).cairn.copies := by
    rw [he]
    rfl
  refine .intro rfl ⟨?_, fun k' hne => ?_, ?_, (hf.trans hg.only).mono (by simp) (by simp)⟩
  · rw [State.holds_congr hg.only.variant (hg.only.rest .pkg (by decide)) (by rw [hg.cairn])]
    exact hholds
  · rw [hg.cairn]
    exact hcache k' hne
  · rw [hg.cairn, hcop]
    exact hcopies

end Delivery

/-! ### Writes of slot records (R313, R316) -/

section SlotWrites

variable {s : State} {t k : Nat} {w : Bytes}

theorem State.persist_rest (s : State) (k g : Nat) (r v : Bytes) (stop : Nat) :
    ∃ c, s.persist k g r v stop = { s with cairn := { s.cairn with copies := c } } := by
  refine List.foldlRecOn (motive := fun u : State => ∃ c, u = { s with cairn := { s.cairn with copies := c } }) _ _ ⟨_, rfl⟩ ?_
  rintro u ⟨c, rfl⟩ d -
  split <;> exact ⟨_, rfl⟩

/-- A slot's record has been written under the next generation; nothing else of the dictionary differs. -/
structure State.slotWritten (s u : State) (k : Nat) (r : Bytes) : Prop where
  self : u.slotRec k = r
  other : ∀ j, j ≠ k → u.slotRec j = s.slotRec j
  jobs : u.cipher.jobs = s.cipher.jobs
  only : Only s u [.blobs, .cairn, .cipher] []

theorem State.setSlot_written (s : State) (c : CairnSt) (k : Nat) (r : Bytes) :
    s.slotWritten (({ s with cairn := c }.setBlob (at_ O.cairnSlotRecords k) r).retireCak k) k r where
  self := State.setBlob_self ..
  other j hj := State.setBlob_other _ _ _ _ (slotKey_ne hj)
  jobs := rfl
  only := ((((Only.same s [.blobs, .cairn, .cipher] []).setCairn c (by simp)).one (only_setBlob ..) (by simp)).setCipher _ (by simp))

/-- A record as it is written, under the next generation of the slot. -/
def State.nextRec (s : State) (k : Nat) (w : Bytes) : Bytes := patch w 0x0C (leBytes 4 ((ksGen (s.slotRec k) + 1) % 2 ^ 32))

theorem State.applySlot_writes (h : ksKind w ≠ 0) : s.slotWritten (s.applySlot k w 0) k (s.nextRec k w) := by
  unfold State.applySlot
  rw [if_neg h]
  dsimp only
  generalize (if ksKind (patch w 0x0C (leBytes 4 ((ksGen (s.slotRec k) + 1) % 2 ^ 32))) = 1 then _ else _ : Bytes) = v
  obtain ⟨c, hc⟩ := s.persist_rest k ((ksGen (s.slotRec k) + 1) % 2 ^ 32) (s.nextRec k w) v 0
  unfold State.nextRec at hc
  rw [hc, if_neg (by decide)]
  exact State.setSlot_written s _ k _

theorem State.applySlot_erases (h : ksKind w = 0) : s.applySlot k w 0 = s.eraseSlot k := (if_pos h).trans (if_neg (by decide))

theorem only_setBlobs (s : State) (x : SMap Bytes) : Only s { s with dict := { s.dict with blobs := x } } [.blobs] [] :=
  ⟨rfl, rfl, fun p h => by
    cases p
    case blobs => exact absurd List.mem_cons_self h
    all_goals rfl, fun _ _ => rfl⟩

theorem only_eraseSlot (s : State) (k : Nat) : Only s (s.eraseSlot k) [.blobs, .cairn, .cipher] [] :=
  (((Only.same s [.blobs, .cairn, .cipher] []).setCairn _ (by simp)).one (only_setBlobs ..) (by simp)).setCipher _ (by simp)

theorem State.eraseSlot_other (s : State) {j k : Nat} (h : j ≠ k) : (s.eraseSlot k).slotRec j = s.slotRec j := by
  have hl : look (s.eraseSlot k).dict.blobs (at_ O.cairnSlotRecords j) = look s.dict.blobs (at_ O.cairnSlotRecords j) :=
    look_del_ne _ _ _ (slotKey_ne h)
  unfold State.slotRec State.blob
  rw [hl]
  rfl

/-- What a refresh of the counts of slots writes. -/
def slotCountKeys : List Nat := [O.slotsInUse, O.importedLeavesInUse, O.importedLeavesAwaitingValue]

theorem only_refreshSlots (s : State) : Only s s.refreshSlots [] slotCountKeys :=
  (((only_setN ..).trans (only_setN ..)).trans (only_setN ..)).mono (by simp) (by simp [slotCountKeys])

/-- A write of a key is recorded as applied. -/
def State.keyWriteNoted (s : State) (k : Nat) : State := ((s.setN O.lastKeyWriteStatus 1).setN O.lastKeyWriteSlot k).refreshSlots

theorem only_keyWriteNoted (s : State) (k : Nat) :
    Only s (s.keyWriteNoted k) [] (O.lastKeyWriteStatus :: O.lastKeyWriteSlot :: slotCountKeys) :=
  (((only_setN ..).trans (only_setN ..)).trans (only_refreshSlots _)).mono (by simp) (by simp)

theorem State.keyWriteNoted_n (s : State) (k : Nat) :
    (s.keyWriteNoted k).n O.lastKeyWriteStatus = 1 ∧ (s.keyWriteNoted k).n O.lastKeyWriteSlot = k := by
  have hr := only_refreshSlots ((s.setN O.lastKeyWriteStatus 1).setN O.lastKeyWriteSlot k)
  refine ⟨(hr.n_eq (by decide) (by decide)).trans ?_, (hr.n_eq (by decide) (by decide)).trans (State.setN_self ..)⟩
  rw [State.setN_other _ _ _ _ (by decide) (by decide), State.setN_self]

/-- What the engines and the answer leave of a key write: what stands in the tree, the values and the record of the write. -/
structure State.treeKept (s v : State) : Prop where
  slots : ∀ j, v.slotRec j = s.slotRec j
  blobs : v.dict.blobs = s.dict.blobs
  leaves : v.cairn.leaves = s.cairn.leaves
  cache : v.cairn.cache = s.cairn.cache
  copies : v.cairn.copies = s.cairn.copies
  status : v.n O.lastKeyWriteStatus = s.n O.lastKeyWriteStatus
  slot : v.n O.lastKeyWriteSlot = s.n O.lastKeyWriteSlot

theorem Engined.treeKept {u v : State} (h : Engined s u) (hv : Only u v [.access, .bridge] []) : s.treeKept v := by
  have hb := (h.only.trans hv)
  have hc : v.cairn = u.cairn := hv.rest .cairn (by decide)
  have hn (k : Nat) (hk : k ∉ engineKeys) : v.n k = s.n k := (hv.n_all k).trans (h.only.n_eq hk (by decide))
  exact ⟨hb.slotRec_eq (by decide), hb.rest .blobs (by decide), by rw [hc, h.cairn], by rw [hc, h.cairn], by rw [hc, h.cairn],
    hn _ (by decide), hn _ (by decide)⟩

/-! ### The request to write one slot record -/

variable {who : Who} {x : Session} {b : Bytes}

/-- A session may write one slot record. -/
structure State.MayWriteSlot (s : State) (who : Who) (x : Session) (k : Nat) (b : Bytes) : Prop extends s.Takes who x where
  outside : x.txn = none
  right : ((s.writeCheck x.rights 0x2B10 3).2).isSome = true
  count : x.sel O.cairnSlotCount = 1
  first : x.sel O.cairnFirstSlot = k
  length : b.length = 48
  ok : s.slotRecOk k b k = true

theorem slotRecordsWrite_acts (h : s.MayWriteSlot who x k b) {st : Status} {w : State}
    (ha : slotWrite b 0 x (s.heard t who 0x2B10 3) = (st, w)) :
    exec (.slotRecordsWrite t who b 0) s = .next (w.enginesGo.answer who (Response.of st)) := by
  obtain ⟨r, hr⟩ := Option.isSome_iff_exists.mp h.right
  have hc : ((s.begin t).traffic.writeCheck x.rights 0x2B10 3).2 = some r := hr
  have hlen : ¬ b.length ≠ x.sel O.cairnSlotCount * 48 := by rw [h.count, h.length]; decide
  have hok : (List.range (b.length / 48)).all
      (fun i => (s.heard t who 0x2B10 3).slotRecOk (x.sel O.cairnFirstSlot) b (x.sel O.cairnFirstSlot + i)) = true := by
    rw [h.length, h.first]
    simpa [State.slotRecOk_congr (State.slotRec_heard s t who 0x2B10 3)] using h.ok
  show Host.Outcome.next (serve who _ (s.begin t)) = _
  rw [serve_taken (h.toTakes.begin t)]
  unfold slotRecordsWrite writeWin slotWriteGo
  unfold State.heard at hok ha
  simp only [hc, if_neg hlen, hok, h.outside, ha, Bool.not_true, Bool.false_eq_true, if_false, Option.isSome_none]

theorem State.heard_anchorUp (s : State) (t : Nat) (who : Who) (idx sub : Nat) : (s.heard t who idx sub).anchorUp = s.anchorUp :=
  State.anchorUp_congr (State.heard_variant ..) (State.heard_pkg ..) (State.heard_cairn ..)

theorem State.heard_keysLocked (s : State) (t : Nat) (who : Who) (idx sub : Nat) : (s.heard t who idx sub).keysLocked = s.keysLocked :=
  State.keysLocked_congr (State.heard_pkg ..) (State.heard_n s t who idx sub)

theorem State.jobsHome_congr {u : State} (h : u.cipher.jobs = s.cipher.jobs) (hs : s.jobsHome) : u.jobsHome := fun j hj => hs j (h ▸ hj)

/-- What a write of keys leaves once its act has left `w`: the answer, and of the key tree what stands in `w`. -/
theorem Runs.of_keyWrite {i : Instr} {st : Status} {w : State} (he : exec i s = .next (w.enginesGo.answer who (Response.of st)))
    (hw : (w.session? who.sess).isSome = true) (hj : w.jobsHome) : Runs i s fun v => v.answered who st ∧ w.treeKept v :=
  have hg := State.enginesGo_engined hj
  (Runs.of_answer he ((hg.session _).trans hw)).imp fun _ ⟨hans, hv⟩ => ⟨hans, hg.treeKept hv⟩

section SlotRecord

variable (hj : s.jobsHome) (h : s.MayWriteSlot who x k b)

include hj h

theorem slotRecordsWrite_runs_refused (ha : s.anchorUp = false) : Runs (.slotRecordsWrite t who b 0) s fun v =>
    v.answered who .deviceState ∧ (∀ j, v.slotRec j = s.slotRec j) ∧ v.cairn.leaves = s.cairn.leaves ∧ v.cairn.cache = s.cairn.cache ∧
      v.cairn.copies = s.cairn.copies := by
  have hw : slotWrite b 0 x (s.heard t who 0x2B10 3) = (.deviceState, s.heard t who 0x2B10 3) :=
    if_pos (by rw [State.heard_anchorUp, ha]; rfl)
  refine (Runs.of_keyWrite (slotRecordsWrite_acts h hw) (h.toTakes.heard_session ..)
    (State.jobsHome_congr (by rw [State.heard_cipher]) hj)).imp fun v ⟨hans, hv⟩ => ⟨hans, fun j => ?_, ?_, ?_, ?_⟩
  · rw [hv.slots, State.slotRec_heard]
  · rw [hv.leaves, State.heard_cairn]
  · rw [hv.cache, State.heard_cairn]
  · rw [hv.copies, State.heard_cairn]

omit hj in
/-- With the anchor there a record is applied, unless it would erase a parent. -/
theorem slotWrite_one (ha : s.anchorUp = true) (hp : ksKind b = 0 → s.isParent k = false) : slotWrite b 0 x (s.heard t who 0x2B10 3) =
    (.ok, ((s.heard t who 0x2B10 3).applySlot k b 0).keyWriteNoted k) := by
  have hslice : slice b (48 * (k - k)) 48 = b := by
    rw [Nat.sub_self, Nat.mul_zero]
    exact List.take_of_length_le (Nat.le_of_eq h.length)
  have hrec : (s.heard t who 0x2B10 3).recAfter k b k = b := by
    unfold State.recAfter
    rw [if_pos (by rw [h.length]; omega), hslice]
  have hks : (List.range (b.length / 48)).map (fun i => k + i) = [k] := by
    rw [h.length]
    rfl
  have hpar : (ksKind b == 0 && (s.heard t who 0x2B10 3).isParent k) = false := by
    rw [State.isParent_congr (State.heard_variant ..) (State.heard_dict ..)]
    by_cases h0 : ksKind b = 0
    · rw [hp h0, Bool.and_false]
    · rw [beq_eq_false_iff_ne.mpr h0, Bool.false_and]
  unfold slotWrite
  dsimp only
  rw [h.first, hks, State.heard_anchorUp, ha]
  simp only [List.any_cons, List.any_nil, hrec, hpar, List.foldl_cons, List.foldl_nil, hslice]
  rfl

/-- A record that is applied: what the write leaves of the tree is what the record and its note leave. -/
theorem slotRecordsWrite_runs_applied (ha : s.anchorUp = true) (hp : ksKind b = 0 → s.isParent k = false) {u : State}
    (hu : (s.heard t who 0x2B10 3).applySlot k b 0 = u) (hf : Only (s.heard t who 0x2B10 3) u [.blobs, .cairn, .cipher] [])
    (hjobs : u.cipher.jobs = s.cipher.jobs) : Runs (.slotRecordsWrite t who b 0) s fun v => v.answered who .ok ∧
      v.dict.blobs = u.dict.blobs ∧ (∀ j, v.slotRec j = u.slotRec j) ∧ v.cairn.leaves = u.cairn.leaves ∧ v.cairn.cache = u.cairn.cache ∧
      v.n O.lastKeyWriteStatus = 1 ∧ v.n O.lastKeyWriteSlot = k := by
  have hn := only_keyWriteNoted u k
  have hw := slotRecordsWrite_acts h (slotWrite_one h ha hp (t := t))
  have hopen : ((u.keyWriteNoted k).session? who.sess).isSome = true := by
    rw [hn.session_eq (by decide), hf.session_eq (by decide)]
    exact h.toTakes.heard_session ..
  have hcairn : (u.keyWriteNoted k).cairn = u.cairn := hn.rest .cairn (by decide)
  have hjobs' : (u.keyWriteNoted k).jobsHome :=
    State.jobsHome_congr ((congrArg CipherSt.jobs (hn.rest .cipher (by decide))).trans hjobs) hj
  rw [hu] at hw
  refine (Runs.of_keyWrite hw hopen hjobs').imp fun v ⟨hans, hv⟩ => ⟨hans, ?_, fun j => ?_, ?_, ?_, ?_, ?_⟩
  · exact hv.blobs.trans (hn.rest .blobs (by decide))
  · exact (hv.slots j).trans (hn.slotRec_eq (by decide) j)
  · rw [hv.leaves, hcairn]
  · rw [hv.cache, hcairn]
  · exact hv.status.trans (u.keyWriteNoted_n k).1
  · exact hv.slot.trans (u.keyWriteNoted_n k).2

theorem slotRecordsWrite_runs_written (ha : s.anchorUp = true) (hk : ksKind b ≠ 0) : Runs (.slotRecordsWrite t who b 0) s fun v =>
    v.answered who .ok ∧ v.slotRec k = patch b 0x0C (leBytes 4 ((ksGen (s.slotRec k) + 1) % 2 ^ 32)) ∧
      (∀ j, j ≠ k → v.slotRec j = s.slotRec j) ∧ v.n O.lastKeyWriteStatus = 1 ∧ v.n O.lastKeyWriteSlot = k := by
  obtain ⟨hself, hother, hjobs, hf⟩ := State.applySlot_writes (s := s.heard t who 0x2B10 3) (k := k) hk
  refine (slotRecordsWrite_runs_applied hj h ha (fun h0 => absurd h0 hk) rfl hf (by rw [hjobs, State.heard_cipher])).imp
    fun v ⟨hans, _, hslots, _, _, hst, hsl⟩ => ⟨hans, ?_, fun j hjk => ?_, hst, hsl⟩
  · rw [hslots, hself]
    unfold State.nextRec
    rw [State.slotRec_heard]
  · rw [hslots, hother j hjk, State.slotRec_heard]

theorem slotRecordsWrite_runs_erased (ha : s.anchorUp = true) (hk : ksKind b = 0) (hp : s.isParent k = false) :
    Runs (.slotRecordsWrite t who b 0) s fun v => v.answered who .ok ∧ look v.dict.blobs (at_ O.cairnSlotRecords k) = none ∧
      look v.cairn.leaves k = none ∧ get 0 v.cairn.cache k = 0 ∧ (∀ j, j ≠ k → v.slotRec j = s.slotRec j) ∧
      v.n O.lastKeyWriteStatus = 1 ∧ v.n O.lastKeyWriteSlot = k := by
  have hjobs : ((s.heard t who 0x2B10 3).eraseSlot k).cipher.jobs = s.cipher.jobs := (congrArg CipherSt.jobs (State.heard_cipher s t who 0x2B10 3) :)
  refine (slotRecordsWrite_runs_applied hj h ha (fun _ => hp) (State.applySlot_erases hk) (only_eraseSlot ..) hjobs).imp
    fun v ⟨hans, hblobs, hslots, hleaves, hcache, hst, hsl⟩ => ⟨hans, ?_, ?_, ?_, fun j hjk => ?_, hst, hsl⟩
  · rw [hblobs]
    exact look_del_self ..
  · rw [hleaves]
    exact look_del_self ..
  · rw [hcache]
    exact congrArg (·.getD 0) (look_del_self (s.heard t who 0x2B10 3).cairn.cache k)
  · rw [hslots, State.eraseSlot_other _ hjk, State.slotRec_heard]

end SlotRecord

/-! ### Imports (R314) -/

theorem State.cacheKeys_rest (s : State) (k : Nat) (l : List Nat) :
    ∃ m, l.foldl (fun (s : State) d => s.cacheKey d k) s = { s with cairn := { s.cairn with cache := m } } := by
  refine List.foldlRecOn (motive := fun u : State => ∃ m, u = { s with cairn := { s.cairn with cache := m } }) _ _ ⟨_, rfl⟩ ?_
  rintro u ⟨m, rfl⟩ d -
  exact ⟨_, rfl⟩

/-- An import gives the leaf its value and the next generation of its record. -/
structure State.imported (s u : State) (b : Bytes) : Prop extends
    s.slotWritten u (fld b 0 2) (s.nextRec (fld b 0 2) (s.slotRec (fld b 0 2))) where
  leaves : u.cairn.leaves = ins s.cairn.leaves (fld b 0 2) (unwrapImport b)

theorem importKeyAct_imports (x : Session) (ha : s.anchorUp = true) (hl : s.keysLocked = false) :
    ∃ u, importKeyAct b 0 x s = (.ok, u.keyWriteNoted (fld b 0 2)) ∧ s.imported u b := by
  unfold importKeyAct
  dsimp only
  rw [if_neg (by rw [ha, hl]; decide), if_neg (by decide)]
  obtain ⟨c, hc⟩ := s.persist_rest (fld b 0 2) ((ksGen (s.slotRec (fld b 0 2)) + 1) % 2 ^ 32)
    (s.nextRec (fld b 0 2) (s.slotRec (fld b 0 2))) (unwrapImport b) 0
  unfold State.nextRec at hc
  rw [hc]
  dsimp only
  generalize hv : State.retireCak _ _ = v
  obtain ⟨m, hm⟩ := v.cacheKeys_rest (fld b 0 2) (v.holdersOf (fld b 0 2))
  obtain ⟨hself, hother, hjobs, hf⟩ := s.setSlot_written { s.cairn with copies := c, leaves := ins s.cairn.leaves (fld b 0 2) (unwrapImport b) }
    (fld b 0 2) (s.nextRec (fld b 0 2) (s.slotRec (fld b 0 2)))
  refine ⟨_, rfl, ?_⟩
  rw [hm, ← hv]
  exact { self := hself, other := hother, jobs := hjobs, only := hf.setCairn _ (by simp), leaves := rfl }

section Import

variable (hj : s.jobsHome) (h : s.MayWriteDom who x 0x2B11 1 128 160 b.length)

include h

theorem keyImport_runs_outOfRange (hok : s.importOk b = false) : Runs (.keyImport t who b 0) s fun v =>
    v.answered who .outOfRange ∧ Only s v [.access, .power, .bridge] [] :=
  h.runs_outOfRange (fun s => s.importOk b) (importGo b 0) rfl
    ((State.importOk_congr (State.slotRec_heard s t who 0x2B11 1) b).trans hok)

include hj

/-- An import that is right and whose act has left `w` is answered; of the tree stands what stands in `w`. -/
theorem keyImport_runs_act (hok : s.importOk b = true) {st : Status} {w : State} (ha : importKeyAct b 0 x (s.heard t who 0x2B11 1) = (st, w))
    (hf : Only (s.heard t who 0x2B11 1) w [.blobs, .cairn, .cipher] (O.lastKeyWriteStatus :: O.lastKeyWriteSlot :: slotCountKeys))
    (hjobs : w.cipher.jobs = s.cipher.jobs) : Runs (.keyImport t who b 0) s fun v => v.answered who st ∧ w.treeKept v := by
  have hok' := (State.importOk_congr (State.slotRec_heard s t who 0x2B11 1) b).trans hok
  have hgo : importGo b 0 x (s.heard t who 0x2B11 1) = (st, w.enginesGo) := by
    unfold importGo
    rw [ha]
  have hopen : (w.session? who.sess).isSome = true := by
    rw [hf.session_eq (by decide)]
    exact h.toTakes.heard_session ..
  exact Runs.of_keyWrite ((show exec (.keyImport t who b 0) s = _ from rfl).trans (domRow_runs h t (fun s => s.importOk b) (importGo b 0) hok' hgo)) hopen
    (State.jobsHome_congr hjobs hj)

theorem keyImport_runs_refused (ha : s.anchorUp = false ∨ s.keysLocked = true) (hok : s.importOk b = true) :
    Runs (.keyImport t who b 0) s fun v => v.answered who .deviceState ∧ v.cairn.leaves = s.cairn.leaves ∧ v.cairn.cache = s.cairn.cache ∧
      v.cairn.copies = s.cairn.copies ∧ (∀ j, v.slotRec j = s.slotRec j) := by
  have hw : importKeyAct b 0 x (s.heard t who 0x2B11 1) = (.deviceState, s.heard t who 0x2B11 1) := by
    refine if_pos ?_
    rw [State.heard_anchorUp, State.heard_keysLocked]
    exact ha.imp (fun h => by rw [h]; rfl) fun h => h
  refine (keyImport_runs_act hj h hok hw (.same ..) (by rw [State.heard_cipher])).imp fun v ⟨hans, hv⟩ => ⟨hans, ?_, ?_, ?_, fun j => ?_⟩
  · rw [hv.leaves, State.heard_cairn]
  · rw [hv.cache, State.heard_cairn]
  · rw [hv.copies, State.heard_cairn]
  · rw [hv.slots, State.slotRec_heard]

theorem keyImport_runs_taken (ha : s.anchorUp = true) (hl : s.keysLocked = false) (hok : s.importOk b = true) :
    Runs (.keyImport t who b 0) s fun v => v.answered who .ok ∧ look v.cairn.leaves (fld b 0 2) = some (unwrapImport b) ∧
      v.slotRec (fld b 0 2) = patch (s.slotRec (fld b 0 2)) 0x0C (leBytes 4 ((ksGen (s.slotRec (fld b 0 2)) + 1) % 2 ^ 32)) ∧
      (∀ j, j ≠ fld b 0 2 → v.slotRec j = s.slotRec j ∧ look v.cairn.leaves j = look s.cairn.leaves j) ∧ v.n O.lastKeyWriteStatus = 1 ∧
      v.n O.lastKeyWriteSlot = fld b 0 2 := by
  obtain ⟨u, hu, himp⟩ := importKeyAct_imports (b := b) (s := s.heard t who 0x2B11 1) x (by rw [State.heard_anchorUp, ha])
    (by rw [State.heard_keysLocked, hl])
  obtain ⟨⟨hself, hother, hjobs, hf⟩, hleaves⟩ := himp
  have hn := only_keyWriteNoted u (fld b 0 2)
  have hcairn : (u.keyWriteNoted (fld b 0 2)).cairn = u.cairn := hn.rest .cairn (by decide)
  have hcipher : (u.keyWriteNoted (fld b 0 2)).cipher = u.cipher := hn.rest .cipher (by decide)
  refine (keyImport_runs_act hj h hok hu ((hf.trans hn).mono (by simp) (by simp)) (by rw [hcipher, hjobs, State.heard_cipher])).imp
    fun v ⟨hans, hv⟩ => ⟨hans, ?_, ?_, fun j hjk => ⟨?_, ?_⟩, ?_, ?_⟩
  · rw [hv.leaves, hcairn, hleaves, look_ins_self]
  · rw [hv.slots, hn.slotRec_eq (by decide), hself]
    unfold State.nextRec
    rw [State.slotRec_heard]
  · rw [hv.slots, hn.slotRec_eq (by decide), hother j hjk, State.slotRec_heard]
  · rw [hv.leaves, hcairn, hleaves, look_ins_ne _ _ _ _ hjk, State.heard_cairn]
  · exact hv.status.trans (u.keyWriteNoted_n _).1
  · exact hv.slot.trans (u.keyWriteNoted_n _).2

end Import

end SlotWrites

/-! ### Attestation (R327, R328) -/

section Attestation

variable {s : State} {t : Nat} {b : Bytes}

theorem attestationNonce_runs {who : Who} {x : Session} (h : s.MayWriteDom who x 0x2B28 1 8 64 b.length) : Runs (.attestationNonce t who b) s fun v =>
    v.answered who .ok ∧ (∃ y, v.session? who.sess = some y ∧ y.nonce = some b ∧ y.statement = []) ∧
      Only s v [.access, .bridge, .power] [] := by
  obtain ⟨y, hy⟩ := Option.isSome_iff_exists.mp (h.toTakes.heard_session t 0x2B28 1)
  obtain ⟨hout, hsess, hf⟩ := State.update_spec (g := fun x => { x with nonce := some b, statement := [] }) (r := Response.of .ok)
    (C := fun y => y.nonce = some b ∧ y.statement = []) (P := []) (K := []) hy
    ((only_heard s t who 0x2B28 1).mono (by simp) (by simp)) ⟨rfl, rfl⟩
  exact .intro (domRow_runs h t (fun _ => true) (attestNonceAct who.sess b) rfl rfl) ⟨hout, hsess, hf.mono (by simp) (by simp)⟩

theorem State.updSession_other (s : State) {n m : Nat} (f : Session → Session) (h : m ≠ n) : (s.updSession n f).session? m = s.session? m := by
  unfold State.updSession
  split
  · rfl
  · exact look_ins_ne _ _ _ _ h

theorem attestationReady_runs {n : Nat} {x : Session} (hx : s.session? n = some x) (hn : x.nonce = some b) : Runs (.attestationReady t n) s fun v =>
    v.session? n = some { x with
      nonce := none
      statement := if s.canAttest && !s.pkg.tamperHold then s.attestation (s.n O.tamperState) b else [] } ∧
      (∀ m, m ≠ n → v.session? m = s.session? m) ∧ Only s v [.access] [] := by
  have hst : (s.begin t).attestation ((s.begin t).n O.tamperState) b = s.attestation (s.n O.tamperState) b := rfl
  have hcan : (s.begin t).canAttest = s.canAttest := rfl
  have he : attestReady n (s.begin t) = (s.begin t).updSession n (fun y => { y with
      nonce := none
      statement := if s.canAttest && !s.pkg.tamperHold then s.attestation (s.n O.tamperState) b else [] }) := by
    unfold attestReady
    rw [show (s.begin t).session? n = some x from hx]
    dsimp only
    rw [hn]
    dsimp only
    rw [hst, hcan]
    rfl
  exact .intro (congrArg Host.Outcome.next he) ⟨State.session_updSession (s := s.begin t) hx _, fun m hm => State.updSession_other _ _ hm,
    (only_updSession ..).begin⟩

end Attestation

end Sys2Proof.Machine

open Sys2Proof Sys2Proof.Machine

/-- Settles O33, by what the write of a record or of a value leaves in the key tree, which the engines then leave as it stands. -/
theorem cairnKeys : Obligations.CairnKeys :=
  ⟨fun _ _ _ _ _ h1 h2 h3 h4 h5 hv h6 h7 => ⟨keyRequest_runs_sent ⟨h1, h2, h3, h4, h5, h6, h7⟩ hv, keyRequest_runs_held⟩,
    fun _ _ _ _ hj hq hup hl => keyDelivered_runs hj hq hup hl,
    fun _ _ _ _ _ _ hj h hx hc hn hf hb hok =>
      have h : State.MayWriteSlot _ _ _ _ _ := ⟨h, hx, hc, hn, hf, hb, hok⟩
      ⟨slotRecordsWrite_runs_refused hj h, slotRecordsWrite_runs_written hj h, slotRecordsWrite_runs_erased hj h⟩,
    fun _ _ _ _ _ hj h => ⟨fun ha => .of_bool (keyImport_runs_outOfRange h) (keyImport_runs_refused hj h ha),
      fun ha hl => .of_bool (keyImport_runs_outOfRange h) (keyImport_runs_taken hj h ha hl)⟩,
    fun _ _ _ _ _ h => attestationNonce_runs h, fun _ _ _ _ _ hx hn => attestationReady_runs hx hn⟩
end

section
/-! Proofs about the life cycle and the tamper response (R318 to R326). -/
namespace Sys2Proof.Machine
open Sys2Proof

variable {s : State} {t : Nat}

/-! ### Erasures (R318, R334, R357) -/

/-- The counts of stomped frames. -/
def stompKeys : List Nat := (List.range 256).map (laneKey O.stompedTransmitted)

theorem not_mem_stompKeys {k : Nat} (h : k % 256 ≠ 0x1A) : k ∉ stompKeys := by
  unfold stompKeys
  rw [List.mem_map]
  rintro ⟨n, _, rfl⟩
  exact h (Nat.add_mul_mod_self_left ..)

theorem leNat_lt (b : Bytes) : leNat b < 256 ^ b.length := by
  induction b with
  | nil => decide
  | cons x b ih =>
    have hx := x.isLt
    have hs : leNat (x :: b) = x.toNat + 256 * leNat b := rfl
    rw [hs, List.length_cons, Nat.pow_succ]
    omega

theorem fld_lt (b : Bytes) (off len : Nat) : fld b off len < 256 ^ len :=
  (leNat_lt _).trans_le (Nat.pow_le_pow_right (by decide) (List.length_take_le ..))

theorem chLane_lt (r : Bytes) : chLane r < 256 := fld_lt r 3 1

theorem only_stompLane (s : State) (n : Nat) : Only s (s.stompLane n) [.lanes] [laneKey O.stompedTransmitted n] := by
  unfold State.stompLane
  dsimp only
  split
  · refine Only.one (.ite (.same ..) (((only_inc64 ..).mono (by simp) (by simp)).none (only_emit ..))) (only_updLane ..) (by simp)
  · exact (only_updLane ..).mono (by simp) (by simp)

theorem only_eraseSas (s : State) (p : Sa → Bool) : Only s (s.eraseSas p) [.cipher, .lanes] stompKeys := by
  unfold State.eraseSas
  refine Only.foldl _ _ ((Only.same s _ _).setCipher _ (by simp)) fun u a _ h => .ite (.and (only_stompLane ..) h (by simp) ?_) h
  rintro k hk
  rw [List.mem_singleton.mp hk]
  exact List.mem_map_of_mem (List.mem_range.mpr (chLane_lt _))

theorem State.eraseSas_sas (s : State) : (s.eraseSas fun _ => true).cipher.sas = [] := by
  have h : ∀ u : State, u.cipher.sas = [] → ∀ l : List Sa, (l.foldl (fun (s : State) a =>
      if !a.receive && a.state == 2 then s.stompLane (chLane (s.channelRec a.channel)) else s) u).cipher.sas = [] := fun u hu l =>
    List.foldlRecOn (motive := fun w : State => w.cipher.sas = []) l _ hu fun w hw a _ => by
      split
      · exact (congrArg CipherSt.sas ((only_stompLane ..).rest .cipher (by decide))).trans hw
      · exact hw
  exact h _ (List.filter_eq_nil_iff.mpr fun _ _ => Bool.false_ne_true) _

theorem Only.setTree {u : State} {P : List Part} {K : List Nat} (h : Only s u P K) (x : CairnSt) (y : CipherSt) (hp : Part.cairn ∈ P) (hq : Part.cipher ∈ P) :
    Only s { u with cairn := x, cipher := y } P K :=
  (h.setCairn x hp).setCipher y hq

/-- A wipe clears one die's keys; of what Cairn holds only the caches and the requests differ. -/
theorem State.wipeSecure_cairn (s : State) (d : Nat) : (s.wipeSecure d).cairn = { s.cairn with
    cache := (s.cairn.cache.map (fun e => (e.1, setBit e.2 d false))).filter (fun e => e.2 != 0)
    requests := s.cairn.requests.filter (fun x => x.1 != d) } := by
  unfold State.wipeSecure
  dsimp only
  split
  · split <;> rfl
  · rfl

theorem only_wipeSecure (s : State) (d : Nat) : Only s (s.wipeSecure d) [.cairn, .cipher, .mem] [O.marchStatus] := by
  unfold State.wipeSecure
  dsimp only
  have h : ∀ (x : CairnSt) (y : CipherSt), Only s { s with cairn := x, cipher := y } [.cairn, .cipher, .mem] [O.marchStatus] := fun x y =>
    (Only.same s [.cairn, .cipher, .mem] [O.marchStatus]).setTree x y (by simp) (by simp)
  have hm : ∀ (x : CairnSt) (y : CipherSt) (z : MemorySt), Only s { s with cairn := x, cipher := y, mem := z } [.cairn, .cipher, .mem] [O.marchStatus] :=
    fun x y z => (h x y).setMem z (by simp)
  split
  · exact .ite (.and (only_setN ..) (hm _ _ _) (by simp) (by simp)) (h _ _)
  · exact h _ _

/-- No key cache holds a key of a die. -/
def State.uncached (s : State) (d : Nat) : Prop := ∀ e ∈ s.cairn.cache, bit e.2 d = false

theorem State.wipeSecure_uncached (s : State) (d : Nat) : (s.wipeSecure d).uncached d := by
  intro e he
  rw [State.wipeSecure_cairn] at he
  obtain ⟨e', _, rfl⟩ := List.mem_map.mp (List.mem_of_mem_filter he)
  exact (bit_setBit ..).trans (if_pos rfl)

theorem State.uncached.wipeSecure {d : Nat} (h : s.uncached d) (a : Nat) : (s.wipeSecure a).uncached d := by
  intro e he
  rw [State.wipeSecure_cairn] at he
  obtain ⟨e', he', rfl⟩ := List.mem_map.mp (List.mem_of_mem_filter he)
  rw [bit_setBit]
  split
  · rfl
  · exact h e' he'

/-- Every die's key cache, derived keys and requests are gone. -/
def State.allWiped (s : State) : State := s.dies.foldl (fun (s : State) d => s.wipeSecure d) s

theorem only_allWiped (s : State) : Only s s.allWiped [.cairn, .cipher, .mem] [O.marchStatus] :=
  Only.foldl _ _ (.same ..) fun u d _ h => .and (only_wipeSecure u d) h (by simp) (by simp)

theorem State.allWiped_cairn (s : State) :
    s.allWiped.cairn = { s.cairn with cache := s.allWiped.cairn.cache, requests := s.allWiped.cairn.requests } :=
  List.foldlRecOn (motive := fun u : State => u.cairn = { s.cairn with cache := u.cairn.cache, requests := u.cairn.requests }) s.dies _ rfl
    fun u hu d _ => by
      rw [State.wipeSecure_cairn, hu]

theorem State.allWiped_uncached (s : State) {d : Nat} (hd : s.hasDie d = true) : s.allWiped.uncached d :=
  foldl_each (Q := State.uncached) (fun w d => w.wipeSecure_uncached d) (fun _ a _ h => h.wipeSecure a) s.dies s d
    (List.mem_range.mpr (of_decide_eq_true hd))

/-! ### Life-cycle transitions (R318, R319) -/

section Transition

/-- What an erasure of the values counts and shows. -/
def eraseKeys : List Nat := O.marchStatus :: (slotCountKeys ++ stompKeys)

/-- The values of the tree and the journal are gone. -/
structure State.valuesErased (s u : State) : Prop where
  leaves : u.cairn.leaves = []
  cache : u.cairn.cache = []
  sas : u.cipher.sas = []
  journal : u.cipher.journal = []
  marker : u.cairn.marker = s.cairn.marker

theorem only_eraseValues (s : State) : Only s s.eraseValues [.cairn, .cipher, .mem, .lanes] eraseKeys := by
  have h1 : Only s (s.allWiped.eraseSas fun _ => true) [.cairn, .cipher, .mem, .lanes] eraseKeys :=
    ((only_allWiped s).trans (only_eraseSas ..)).mono (by simp) (by simp [eraseKeys])
  unfold State.eraseValues
  change Only s (State.refreshSlots { s.allWiped.eraseSas (fun _ => true) with cairn := _, cipher := _ }) _ _
  exact .and (only_refreshSlots _) (h1.setTree _ _ (by simp) (by simp)) (by simp) (by simp +contextual [eraseKeys])

theorem State.eraseValues_erased (s : State) : s.valuesErased s.eraseValues := by
  have hsas := s.allWiped.eraseSas_sas
  have hcairn : (s.allWiped.eraseSas fun _ => true).cairn = s.allWiped.cairn := (only_eraseSas ..).rest .cairn (by decide)
  unfold State.eraseValues
  change s.valuesErased (State.refreshSlots { s.allWiped.eraseSas (fun _ => true) with cairn := _, cipher := _ })
  constructor
  case sas => exact hsas
  case marker =>
    refine (congrArg CairnSt.marker hcairn :).trans ?_
    rw [State.allWiped_cairn]
  all_goals rfl

theorem only_refreshRoots (s : State) : Only s s.refreshRoots [.blobs] [O.rootStatus] := by
  unfold State.refreshRoots
  dsimp only
  exact .ite (((only_setN ..).trans (only_setBlob ..)).mono (by simp) (by simp)) ((only_setN ..).mono (by simp) (by simp))

theorem only_eraseAllKeys (s : State) : Only s s.eraseAllKeys [.blobs, .cairn] (O.rootStatus :: slotCountKeys) := by
  have h : ∀ (b : SMap Bytes) (x : CairnSt), Only s { s with dict := { s.dict with blobs := b }, cairn := x } [.blobs, .cairn] (O.rootStatus :: slotCountKeys) :=
    fun b x => ((only_setBlobs s b).mono (by simp) (by simp)).setCairn x (by simp)
  unfold State.eraseAllKeys
  exact .and (only_refreshRoots _) (.and (only_refreshSlots _) (h _ _) (by simp) (by simp +contextual)) (by simp) (by simp)

theorem State.eraseAllKeys_cairn (s : State) : s.eraseAllKeys.cairn = { s.cairn with copies := [], destroyed := s.dieMask } := by
  unfold State.eraseAllKeys
  exact ((only_refreshRoots _).rest .cairn (by decide)).trans ((only_refreshSlots _).rest .cairn (by decide))

/-- What a transition's erasures count and show. -/
def transitionKeys : List Nat := O.rootStatus :: eraseKeys

/-- The marker is set and the values are erased. -/
def State.marked (s : State) (v : Nat) : State :=
  ({ s with cairn := { s.cairn with marker := some v, refuseState := false } }.setN O.lifeCycleCommandStatus 1).eraseValues

theorem State.startTransition_eq (s : State) (v : Nat) : s.startTransition v = if 4 ≤ v then (s.marked v).eraseAllKeys else s.marked v := rfl

theorem only_marked (s : State) (v : Nat) : Only s (s.marked v) [.cairn, .cipher, .mem, .lanes] (O.lifeCycleCommandStatus :: eraseKeys) := by
  unfold State.marked
  exact ((((Only.same s [.cairn] []).setCairn _ (by simp)).trans (only_setN ..)).trans (only_eraseValues _)).mono (by simp) (by simp)

/-- What a started transition leaves. -/
structure State.transition (s u : State) (v : Nat) : Prop where
  only : Only s u [.blobs, .cairn, .cipher, .mem, .lanes] (O.lifeCycleCommandStatus :: transitionKeys)
  marker : u.cairn.marker = some v
  leaves : u.cairn.leaves = []
  cache : u.cairn.cache = []
  sas : u.cipher.sas = []
  journal : u.cipher.journal = []
  status : u.n O.lifeCycleCommandStatus = 1

theorem not_mem_eraseKeys {k : Nat} (h : k % 256 ≠ 0x1A) (hk : k ∉ O.marchStatus :: slotCountKeys) : k ∉ eraseKeys := by
  unfold eraseKeys
  simp only [List.mem_cons, List.mem_append, not_or] at hk ⊢
  exact ⟨hk.1, hk.2, not_mem_stompKeys h⟩

theorem not_mem_transitionKeys {k : Nat} (h : k % 256 ≠ 0x1A)
    (hk : k ∉ O.lifeCycleCommandStatus :: O.rootStatus :: O.marchStatus :: slotCountKeys) : k ∉ O.lifeCycleCommandStatus :: transitionKeys := by
  unfold transitionKeys
  rw [List.mem_cons, List.mem_cons, not_or, not_or] at hk ⊢
  exact ⟨hk.1, hk.2.1, not_mem_eraseKeys h hk.2.2⟩

theorem State.marked_transition (s : State) (v : Nat) : s.transition (s.marked v) v := by
  have he := ({ s with cairn := { s.cairn with marker := some v, refuseState := false } }.setN O.lifeCycleCommandStatus 1).eraseValues_erased
  have hf := only_eraseValues ({ s with cairn := { s.cairn with marker := some v, refuseState := false } }.setN O.lifeCycleCommandStatus 1)
  exact ⟨(only_marked s v).mono (by simp) (by simp +contextual [transitionKeys]), he.marker, he.leaves, he.cache, he.sas, he.journal,
    (hf.n_eq (k := O.lifeCycleCommandStatus) (not_mem_eraseKeys (by decide) (by decide)) (not_mem_eraseKeys (by decide) (by decide))).trans (State.setN_self ..)⟩

theorem State.startTransition_transition (s : State) (v : Nat) : s.transition (s.startTransition v) v := by
  have h := s.marked_transition v
  rw [State.startTransition_eq]
  split
  · have ha := only_eraseAllKeys (s.marked v)
    have hc : (s.marked v).eraseAllKeys.cipher = (s.marked v).cipher := ha.rest .cipher (by decide)
    exact
      { only := .and ha h.only (by simp) (by simp +contextual [transitionKeys, eraseKeys])
        marker := by rw [State.eraseAllKeys_cairn, h.marker]
        leaves := by rw [State.eraseAllKeys_cairn, h.leaves]
        cache := by rw [State.eraseAllKeys_cairn, h.cache]
        sas := (congrArg CipherSt.sas hc).trans h.sas
        journal := (congrArg CipherSt.journal hc).trans h.journal
        status := (ha.n_eq (k := O.lifeCycleCommandStatus) (by decide) (by decide)).trans h.status }
  · exact h

theorem lifeCycleAct_none {x : Session} {v : Nat} (h : lifeCycleRole (s.n O.lifeCycleState) v = none) : lifeCycleAct v x s = (.outOfRange, s) := by
  unfold lifeCycleAct
  rw [h]

theorem lifeCycleAct_denied {x : Session} {v : Nat} {r : Role} (h : lifeCycleRole (s.n O.lifeCycleState) v = some r) (hr : r.le x.role = false) :
    lifeCycleAct v x s = (.accessDenied, s.countDenial .accessDenied) := by
  unfold lifeCycleAct
  rw [h]
  dsimp only
  rw [hr]
  rfl

/-- A commit, a migration, a tamper response or another transition is under way, or die 0 or its anchor is gone. -/
def State.lifeCycleBusy (s : State) : Prop :=
  s.commitStatus = csRUNNING ∨ s.commitStatus = csSWITCHPENDING ∨ s.n O.migrationStatus = msRUNNING ∨
    s.n O.migrationStatus = msSWITCHPENDING ∨ s.n O.tamperState ≠ 0 ∨ s.dieUp 0 = false ∨ s.pkg.anchorLost = true ∨ s.n O.lifeCycleCommandStatus = 1

theorem lifeCycleAct_busy {x : Session} {v : Nat} {r : Role} (h : lifeCycleRole (s.n O.lifeCycleState) v = some r) (hr : r.le x.role = true)
    (hb : s.lifeCycleBusy) : lifeCycleAct v x s = (.deviceState, s) := by
  unfold lifeCycleAct
  rw [h]
  dsimp only
  rw [hr, if_neg (by decide)]
  unfold State.lifeCycleBusy at hb
  exact if_pos (by simpa using hb)

theorem lifeCycleAct_starts {x : Session} {v : Nat} {r : Role} (h : lifeCycleRole (s.n O.lifeCycleState) v = some r) (hr : r.le x.role = true)
    (hb : ¬ s.lifeCycleBusy) : lifeCycleAct v x s = (.ok, s.startTransition v) := by
  unfold lifeCycleAct
  rw [h]
  dsimp only
  rw [hr, if_neg (by decide)]
  unfold State.lifeCycleBusy at hb
  exact if_neg (by simpa using hb)

end Transition

section LifeCycle

theorem State.heard_lifeCycleBusy (s : State) (t : Nat) (who : Who) (idx sub : Nat) :
    (s.heard t who idx sub).lifeCycleBusy = s.lifeCycleBusy := by
  unfold State.lifeCycleBusy
  simp only [State.commitStatus, State.heard_n, State.heard_pkg, State.dieUp_congr (State.heard_variant s t who idx sub) (State.heard_pkg s t who idx sub)]

variable {who : Who} {x : Session} {v : Nat}

theorem lifeCycleCommand_runs_outOfRange (h : s.MayWrite who x 0x2B18 1 v) (hr : lifeCycleRole (s.n O.lifeCycleState) v = none) :
    Runs (.lifeCycleCommand t who v) s fun u => u.answered who .outOfRange ∧ u.cairn = s.cairn ∧ Only s u [.access, .power, .bridge] [] :=
  (h.runs_refused (t := t) (lifeCycleAct v) rfl (lifeCycleAct_none (s := s.heard t who 0x2B18 1) (by rwa [State.heard_n]))).imp fun _ ⟨hans, hu⟩ =>
    ⟨hans, hu.rest .cairn (by decide), hu.mono (by simp) (by simp)⟩

theorem lifeCycleCommand_runs_denied (h : s.MayWrite who x 0x2B18 1 v) {r : Role} (hr : lifeCycleRole (s.n O.lifeCycleState) v = some r)
    (hx : r.le x.role = false) : Runs (.lifeCycleCommand t who v) s fun u => u.answered who .accessDenied ∧ u.cairn = s.cairn :=
  (h.runs (t := t) (lifeCycleAct v) rfl (lifeCycleAct_denied (s := s.heard t who 0x2B18 1) (by rwa [State.heard_n]) hx) (only_countDenial ..) (by simp)).imp
    fun _ ⟨hans, _, hu⟩ => ⟨hans, hu.rest .cairn (by decide)⟩

theorem lifeCycleCommand_runs_busy (h : s.MayWrite who x 0x2B18 1 v) {r : Role} (hr : lifeCycleRole (s.n O.lifeCycleState) v = some r)
    (hx : r.le x.role = true) (hb : s.lifeCycleBusy) :
    Runs (.lifeCycleCommand t who v) s fun u => u.answered who .deviceState ∧ Only s u [.access, .power, .bridge] [] :=
  (h.runs_refused (t := t) (lifeCycleAct v) rfl (lifeCycleAct_busy (s := s.heard t who 0x2B18 1) (by rwa [State.heard_n]) hx (by rwa [State.heard_lifeCycleBusy]))).imp fun _ ⟨hans, hu⟩ =>
    ⟨hans, hu.mono (by simp) (by simp)⟩

theorem lifeCycleCommand_runs_started (h : s.MayWrite who x 0x2B18 1 v) {r : Role} (hr : lifeCycleRole (s.n O.lifeCycleState) v = some r)
    (hx : r.le x.role = true) (hb : ¬ s.lifeCycleBusy) : Runs (.lifeCycleCommand t who v) s fun u => u.answered who .ok ∧
      u.cairn.marker = some v ∧ u.cairn.leaves = [] ∧ u.cairn.cache = [] ∧ u.cipher.sas = [] ∧ u.cipher.journal = [] ∧
      u.n O.lifeCycleCommandStatus = 1 ∧ u.n O.lifeCycleState = s.n O.lifeCycleState := by
  have hw := (s.heard t who 0x2B18 1).startTransition_transition v
  refine (h.runs (t := t) (lifeCycleAct v) rfl (lifeCycleAct_starts (s := s.heard t who 0x2B18 1) (by rwa [State.heard_n]) hx (by rwa [State.heard_lifeCycleBusy])) hw.only (by simp)).imp
    fun u ⟨hans, hu, hf⟩ => ?_
  have hcairn : u.cairn = _ := hu.rest .cairn (by decide)
  have hcipher : u.cipher = _ := hu.rest .cipher (by decide)
  refine ⟨hans, ?_, ?_, ?_, ?_, ?_, (hu.n_all O.lifeCycleCommandStatus).trans hw.status, hf.n_eq ?_ ?_⟩
  · rw [hcairn, hw.marker]
  · rw [hcairn, hw.leaves]
  · rw [hcairn, hw.cache]
  · rw [hcipher, hw.sas]
  · rw [hcipher, hw.journal]
  · exact not_mem_transitionKeys (by decide) (by decide)
  · exact not_mem_transitionKeys (by decide) (by decide)

/-- The marker goes and the transition is logged. -/
def State.unmarked (s : State) (v : Nat) : State :=
  { s with cairn := { s.cairn with marker := none, refuseState := false } }.logLead Ev.lifeCycle 0xFFFF
    [(1, s.n O.lifeCycleState), (1, v), (1, b2n s.cairn.refuseState)]

theorem only_unmarked (s : State) (v : Nat) : Only s (s.unmarked v) [.cairn, .logs] [] :=
  (((Only.same s [.cairn] []).setCairn _ (by simp)).trans (only_logLead ..)).mono (by simp) (by simp)

/-- The new state, with the certificate of the first transition. -/
def State.enteredCycle (s : State) (was v : Nat) : State :=
  let s := (s.setN O.lifeCycleCommandStatus 2).setN O.lifeCycleState v
  if was = 0 ∧ v = 1 then s.setBlob O.idevidCertificate (Config.crypto 70 [identityKey]) else s

theorem only_enteredCycle (s : State) (was v : Nat) : Only s (s.enteredCycle was v) [.blobs] [O.lifeCycleCommandStatus, O.lifeCycleState] := by
  have h : Only s ((s.setN O.lifeCycleCommandStatus 2).setN O.lifeCycleState v) [.blobs] [O.lifeCycleCommandStatus, O.lifeCycleState] :=
    ((only_setN ..).trans (only_setN ..)).mono (by simp) (by simp)
  unfold State.enteredCycle
  exact .ite (.and (only_setBlob ..) h (by simp) (by simp)) h

theorem State.enteredCycle_n (s : State) (was v : Nat) :
    (s.enteredCycle was v).n O.lifeCycleCommandStatus = 2 ∧ (s.enteredCycle was v).n O.lifeCycleState = v := by
  have h : ∀ k, (s.enteredCycle was v).n k = ((s.setN O.lifeCycleCommandStatus 2).setN O.lifeCycleState v).n k := fun k => by
    unfold State.enteredCycle
    dsimp only
    split <;> rfl
  exact ⟨(h _).trans ((State.setN_other _ _ _ _ (by decide) (by decide)).trans (State.setN_self ..)), (h _).trans (State.setN_self ..)⟩

theorem lifeCycleDone_ends (h : s.cairn.marker = some v) : lifeCycleDone s =
    if s.cairn.refuseState then (s.unmarked v).setN O.lifeCycleCommandStatus 3
    else ((s.unmarked v).enteredCycle (s.n O.lifeCycleState) v).enginesGo := by
  unfold lifeCycleDone
  rw [h]
  rfl

theorem lifeCycleDone_runs (hj : s.jobsHome) (h : s.cairn.marker = some v) : Runs (.lifeCycleDone t) s fun u => u.cairn.marker = none ∧
    (s.cairn.refuseState = false → u.n O.lifeCycleCommandStatus = 2 ∧ u.n O.lifeCycleState = v) ∧
    (s.cairn.refuseState = true → u.n O.lifeCycleCommandStatus = 3 ∧ u.n O.lifeCycleState = s.n O.lifeCycleState) := by
  have he : exec (.lifeCycleDone t) s = .next _ := congrArg Host.Outcome.next (lifeCycleDone_ends (s := s.begin t) h)
  have hn := (only_unmarked (s.begin t) v).n_all O.lifeCycleState
  have hm : ((s.begin t).unmarked v).cairn.marker = none := congrArg CairnSt.marker ((only_logLead ..).rest .cairn (by decide) :)
  cases hr : s.cairn.refuseState with
  | true =>
    rw [if_pos (show (s.begin t).cairn.refuseState = true from hr)] at he
    exact .intro he ⟨hm, nofun, fun _ => ⟨State.setN_self .., (State.setN_other _ _ _ _ (by decide) (by decide)).trans hn⟩⟩
  | false =>
    rw [if_neg (show ¬ (s.begin t).cairn.refuseState = true by rw [show (s.begin t).cairn.refuseState = false from hr]; decide)] at he
    have hw := only_enteredCycle ((s.begin t).unmarked v) ((s.begin t).n O.lifeCycleState) v
    have hv := ((s.begin t).unmarked v).enteredCycle_n ((s.begin t).n O.lifeCycleState) v
    generalize ((s.begin t).unmarked v).enteredCycle ((s.begin t).n O.lifeCycleState) v = w at he hw hv
    have hj' : w.jobsHome := State.jobsHome_congr (s := s) ((congrArg CipherSt.jobs (hw.rest .cipher (by decide))).trans (congrArg CipherSt.jobs ((only_unmarked ..).rest .cipher (by decide)))) hj
    have hg := State.enginesGo_engined hj'
    have hc : w.cairn = ((s.begin t).unmarked v).cairn := hw.rest .cairn (by decide)
    refine .intro he ⟨?_, fun _ => ⟨(hg.only.n_eq (by decide) (by decide)).trans hv.1, (hg.only.n_eq (by decide) (by decide)).trans hv.2⟩, nofun⟩
    rw [hg.cairn]
    exact (congrArg CairnSt.marker hc).trans hm

end LifeCycle

/-! ### The tamper response (R320 to R324, R326) -/

section Tamper

variable {d c n : Nat}

/-- A sensor's event is flagged, counted and logged. -/
def State.sensed (s : State) (d c n : Nat) : State :=
  let w := (s.setFlag O.sensorsActive c true).inc32 (bySub O.tamperCounters c)
  w.logLead Ev.tamper 0xFFFF [(1, c), (1, d), (1, s.n O.tamperPolicy), (4, if w.power_ = pwSLEEP then n else 0)]

theorem only_sensed (s : State) (d c n : Nat) : Only s (s.sensed d c n) [.logs] [O.sensorsActive, bySub O.tamperCounters c] :=
  (((only_setFlag ..).trans (only_inc32 ..)).trans (only_logLead ..)).mono (by simp) (by simp)

theorem only_fuseRoots (s : State) : Only s s.fuseRoots [.blobs, .cairn] [O.rootStatus] :=
  .ite (.and (only_refreshRoots _) ((Only.same s _ _).setCairn _ (by simp)) (by simp) (by simp)) (.same ..)

theorem State.fuseRoots_destroyed (h : s.n O.tamperDestroysRoot = 1) : s.fuseRoots.cairn = { s.cairn with destroyed := s.dieMask } := by
  unfold State.fuseRoots
  rw [if_pos h]
  exact (only_refreshRoots _).rest .cairn (by decide)

/-- Key requests and nonces under way are dropped, and a transition is refused unless the policy is Report. -/
def State.interrupted (s : State) (p : Nat) : State :=
  { s with
    cairn := { s.cairn with requests := [], refuseState := s.cairn.refuseState || (s.cairn.marker.isSome && decide (1 ≤ p)) }
    access := { s.access with sessions := mapVals (fun (x : Session) => { x with nonce := none }) s.access.sessions } }

theorem only_interrupted (s : State) (p : Nat) : Only s (s.interrupted p) [.cairn, .access] [] := by
  have h : ∀ (x : CairnSt) (y : AccessSt), Only s { s with cairn := x, access := y } [.cairn, .access] [] := fun x y =>
    ((Only.same s [.cairn, .access] []).setCairn x (by simp)).setAccess y (by simp)
  exact h _ _

theorem State.tamperJobs_engined (hs : s.jobsHome) (b : Bool) : Engined s (s.tamperJobs b) := by
  have h1 := State.failJobs_engined hs (fun j => j.run == 1 || j.run == 2) jsTAMPER
  unfold State.tamperJobs
  exact .ite (h1.trans (State.failJobs_engined (h1.home hs) _ _)) h1

/-- The response before a quarantine: no key cache, secure association or MKA peer is left. -/
def State.contained (s : State) (p : Nat) : State :=
  let w := s.allWiped.eraseSas fun _ => true
  let w := { w with cipher := { w.cipher with mka := [] } }
  let w := w.setN O.tamperState (max (w.n O.tamperState) p)
  { w with pkg := { w.pkg with tamperWire := w.healthyMask } }

theorem State.tamperRespond_eq (s : State) (p : Nat) :
    s.tamperRespond p = if (s.contained p).n O.tamperState = 2 then (s.contained p).enterQuarantine (s.contained p).dieMask else s.contained p := rfl

theorem only_erased (s : State) : Only s (s.allWiped.eraseSas fun _ => true) [.cairn, .cipher, .mem, .lanes] (O.marchStatus :: stompKeys) :=
  ((only_allWiped s).trans (only_eraseSas ..)).mono (by simp) (by simp)

theorem only_contained (s : State) (p : Nat) :
    Only s (s.contained p) [.cairn, .cipher, .mem, .lanes, .pkg] (O.tamperState :: O.marchStatus :: stompKeys) :=
  ((((only_erased s).trans ((Only.same _ [.cipher] []).setCipher _ (by simp))).trans (only_setN ..)).trans
    ((Only.same _ [.pkg] []).setPkg _ (by simp))).mono (by simp) (by simp)

theorem State.contained_state (s : State) (p : Nat) : (s.contained p).n O.tamperState = max (s.n O.tamperState) p := by
  have hn : O.tamperState ∉ O.marchStatus :: stompKeys := by
    rw [List.mem_cons, not_or]
    exact ⟨by decide, not_mem_stompKeys (by decide)⟩
  have hd : O.nodeID ∉ O.marchStatus :: stompKeys := by
    rw [List.mem_cons, not_or]
    exact ⟨by decide, not_mem_stompKeys (by decide)⟩
  exact (State.setN_self ..).trans (congrArg (max · p) ((only_erased s).n_eq hn hd))

theorem State.contained_sas (s : State) (p : Nat) : (s.contained p).cipher.sas = [] := s.allWiped.eraseSas_sas

theorem State.contained_cairn (s : State) (p : Nat) : (s.contained p).cairn = s.allWiped.cairn :=
  (only_eraseSas s.allWiped _).rest .cairn (by decide)

/-- What a quarantine leaves: the package, the lanes and the queues differ, and each named die is in it. -/
theorem State.enterQuarantine_within (s : State) (m : Nat) : Within s (s.enterQuarantine m) [.blobs, .pkg, .lanes, .fwd] :=
  within_of_core (State.enterQuarantine_core (R := 1600) rfl s m) rfl

theorem State.enterQuarantine_bit (s : State) {m k : Nat} (h8 : k < 8) (hk : bit m k = true) : bit (s.enterQuarantine m).pkg.quarantine k = true := by
  have hd : ∀ (l : List Nat) (u : State), (l.foldl (fun (s : State) n => s.drainLane n) u).pkg = u.pkg := fun l u =>
    List.foldlRecOn (motive := fun w : State => w.pkg = u.pkg) l _ rfl fun w hw n _ =>
      (((within_of_core (State.drainLane_core (R := 1536) rfl w n) rfl : Within w _ [.lanes, .fwd]).rest .pkg (by decide) (by decide)).trans hw)
  unfold State.enterQuarantine
  dsimp only
  rw [hd]
  dsimp only
  rw [bit_maskOf, decide_eq_true_iff, List.mem_filter]
  exact ⟨List.mem_range.mpr h8, by rw [hk, Bool.or_true]⟩

theorem State.dieMask_congr {u : State} (h : u.variant = s.variant) : u.dieMask = s.dieMask := congrArg (2 ^ · - 1) h

theorem bit_dieMask {k : Nat} (h : s.hasDie k = true) : bit s.dieMask k = true := by
  unfold State.dieMask
  rw [bit_eq_testBit, Nat.testBit_two_pow_sub_one]
  exact h

/-- The event before its response: sensed, and with the roots destroyed where the fuse says so. -/
def State.struck (s : State) (d c n : Nat) : State :=
  if s.n O.tamperPolicy = tpREPORT then s.sensed d c n else (s.sensed d c n).fuseRoots

/-- The event before its response, with the requests, the nonces and the jobs it meets ended. -/
def State.disturbed (s : State) (d c n : Nat) : State :=
  ((s.struck d c n).interrupted (s.n O.tamperPolicy)).tamperJobs (decide (1 ≤ s.n O.tamperPolicy))

/-- The objects that an event shows before its response. -/
def eventKeys (c : Nat) : List Nat := [O.rootStatus, O.sensorsActive, bySub O.tamperCounters c]

theorem only_struck (s : State) (d c n : Nat) : Only s (s.struck d c n) [.logs, .blobs, .cairn] (eventKeys c) :=
  .ite ((only_sensed ..).mono (by simp) (by simp [eventKeys]))
    (.and (only_fuseRoots _) ((only_sensed ..).mono (by simp) (by simp [eventKeys])) (by simp) (by simp [eventKeys]))

theorem eventKey_ne {c k : Nat} (hc : c < 7) (h1 : k ≠ O.rootStatus) (h2 : k ≠ O.sensorsActive) (h3 : k / 256 ≠ 0x2B21) : k ∉ eventKeys c := by
  unfold eventKeys
  rw [List.mem_cons, List.mem_cons, List.mem_singleton, not_or, not_or]
  refine ⟨h1, h2, fun h => h3 ?_⟩
  rw [h]
  change (0x2B2101 + c) / 256 = 0x2B21
  omega

theorem State.struck_destroyed (hc : c < 7) (hp : s.n O.tamperPolicy ≠ 0) (h : s.n O.tamperDestroysRoot = 1) :
    (s.struck d c n).cairn.destroyed = s.dieMask := by
  unfold State.struck
  have hf := (only_sensed s d c n).mono (Q := [.logs]) (J := eventKeys c) (by simp) (by simp [eventKeys])
  rw [if_neg hp, State.fuseRoots_destroyed]
  · exact State.dieMask_congr hf.variant
  · rwa [hf.n_eq (eventKey_ne hc (by decide) (by decide) (by decide)) (eventKey_ne hc (by decide) (by decide) (by decide))]

theorem State.struck_reported (hp : s.n O.tamperPolicy = 0) : s.struck d c n = s.sensed d c n := if_pos hp

theorem State.jobsHome_interrupted (hs : s.jobsHome) : ((s.struck d c n).interrupted p).jobsHome :=
  State.jobsHome_congr (s := s) (congrArg CipherSt.jobs (((only_struck s d c n).trans (only_interrupted _ p)).rest .cipher (by simp))) hs

theorem State.disturbed_engined (hs : s.jobsHome) (d c n : Nat) :
    Engined ((s.struck d c n).interrupted (s.n O.tamperPolicy)) (s.disturbed d c n) :=
  State.tamperJobs_engined (State.jobsHome_interrupted hs) _

theorem only_disturbed (hs : s.jobsHome) (d c n : Nat) :
    Only s (s.disturbed d c n) [.logs, .blobs, .cairn, .access, .cipher] (eventKeys c ++ engineKeys) :=
  (((only_struck s d c n).trans (only_interrupted ..)).trans (State.disturbed_engined hs d c n).only).mono (by simp) (by simp)

/-- A sensor of an enabled class on a die in a running device with no response held. -/
structure State.senses (s : State) (d c : Nat) : Prop where
  die : s.hasDie d = true
  cls : c < 7
  enabled : bit (s.n O.tamperSensorEnable) c = true
  on : s.power_ ≠ pwOFF
  awake : s.power_ ≠ pwSLEEP
  ready : s.update.ready = true
  free : s.pkg.tamperHold = false

theorem tamper_eq (hs : s.jobsHome) (h : s.senses d c) (n : Nat) : tamper d c n s =
    if s.n O.tamperPolicy = tpREPORT then s.disturbed d c n else (s.disturbed d c n).tamperRespond (s.n O.tamperPolicy) := by
  have hg : ¬ (!s.hasDie d || decide (7 ≤ c) || !bit (s.n O.tamperSensorEnable) c || s.power_ == pwOFF) = true := by
    have := h.cls
    simp [h.die, h.enabled, h.on]
    omega
  have hw := only_struck s d c n
  have hpow : (s.struck d c n).power_ = s.power_ := hw.n_eq (eventKey_ne h.cls (by decide) (by decide) (by decide)) (eventKey_ne h.cls (by decide) (by decide) (by decide))
  have hready : (s.struck d c n).update = s.update := hw.rest .update (by simp)
  have hhold : (s.disturbed d c n).pkg.tamperHold = false := (congrArg PkgSt.tamperHold ((only_disturbed hs d c n).rest .pkg (by simp))).trans h.free
  unfold tamper
  rw [if_neg hg]
  change (if (s.struck d c n).power_ = pwSLEEP then _ else if (!(s.struck d c n).update.ready) = true then _ else
    if s.n O.tamperPolicy = tpREPORT ∨ (s.disturbed d c n).pkg.tamperHold = true then s.disturbed d c n else (s.disturbed d c n).tamperRespond (s.n O.tamperPolicy)) = _
  rw [if_neg (hpow ▸ h.awake), if_neg (by rw [hready, h.ready]; decide), hhold]
  simp only [Bool.false_eq_true, or_false]

theorem State.contained_n (s : State) (p : Nat) {k : Nat} (h : k % 256 ≠ 0x1A) (h1 : k ≠ O.tamperState) (h2 : k ≠ O.marchStatus) :
    (s.contained p).n k = s.n k := by
  have hk : ∀ {k : Nat}, k % 256 ≠ 0x1A → k ≠ O.tamperState → k ≠ O.marchStatus → k ∉ O.tamperState :: O.marchStatus :: stompKeys := by
    intro k h h1 h2
    rw [List.mem_cons, List.mem_cons, not_or, not_or]
    exact ⟨h1, h2, not_mem_stompKeys h⟩
  exact (only_contained s p).n_eq (hk h h1 h2) (hk (by decide) (by decide) (by decide))

theorem State.disturbed_n (hs : s.jobsHome) (d c n : Nat) {k : Nat} (hk : k ∉ engineKeys) : (s.disturbed d c n).n k = (s.struck d c n).n k :=
  ((State.disturbed_engined hs d c n).only.n_eq hk (by decide)).trans ((only_interrupted ..).n_all k)

theorem State.struck_n (s : State) (d n : Nat) (hc : c < 7) {k : Nat} (h1 : k ≠ O.rootStatus) (h2 : k ≠ O.sensorsActive) (h3 : k / 256 ≠ 0x2B21) :
    (s.struck d c n).n k = s.n k :=
  (only_struck s d c n).n_eq (eventKey_ne hc h1 h2 h3) (eventKey_ne hc (by decide) (by decide) (by decide))

theorem State.struck_sensed (s : State) (d c n : Nat) {k : Nat} (h : k ≠ O.rootStatus) : (s.struck d c n).n k = (s.sensed d c n).n k := by
  unfold State.struck
  split
  · rfl
  · exact (only_fuseRoots _).n_eq (by rwa [List.mem_singleton]) (by decide)

theorem counterKey_spec (hc : c < 7) : bySub O.tamperCounters c ∉ engineKeys ∧ bySub O.tamperCounters c % 256 = c + 1 ∧
    bySub O.tamperCounters c / 256 = 0x2B21 := by
  have h : ∀ c < 7, bySub O.tamperCounters c ∉ engineKeys ∧ bySub O.tamperCounters c % 256 = c + 1 ∧ bySub O.tamperCounters c / 256 = 0x2B21 := by
    decide
  exact h c hc

theorem State.struck_counter (s : State) (d n : Nat) (hc : c < 7) :
    (s.struck d c n).n (bySub O.tamperCounters c) = satN (2 ^ 32 - 1) (s.n (bySub O.tamperCounters c) + 1) := by
  obtain ⟨_, _, hkey⟩ := counterKey_spec hc
  have hne : ∀ {k : Nat}, k / 256 ≠ 0x2B21 → bySub O.tamperCounters c ≠ k := fun h e => h (e ▸ hkey)
  rw [State.struck_sensed _ _ _ _ (hne (by decide))]
  unfold State.sensed
  dsimp only
  rw [(only_logLead ..).n_all, State.inc32_self, (only_setFlag ..).n_eq]
  · rw [List.mem_singleton]
    exact hne (by decide)
  · decide

theorem State.struck_flag (s : State) (d n : Nat) (hc : c < 7) : (s.struck d c n).flag O.sensorsActive c = true := by
  obtain ⟨_, _, hkey⟩ := counterKey_spec hc
  have hne : ∀ {k : Nat}, k / 256 ≠ 0x2B21 → k ≠ bySub O.tamperCounters c := fun h e => h (e ▸ hkey)
  have h : (s.struck d c n).n O.sensorsActive = (s.setFlag O.sensorsActive c true).n O.sensorsActive := by
    rw [State.struck_sensed _ _ _ _ (by decide)]
    unfold State.sensed
    dsimp only
    rw [(only_logLead ..).n_all, (only_inc32 ..).n_eq]
    · rw [List.mem_singleton]
      exact hne (by decide)
    · rw [List.mem_singleton]
      exact hne (by decide)
  have hf := s.setFlag_flag O.sensorsActive c c true
  rw [if_pos rfl] at hf
  unfold State.flag at hf ⊢
  rw [h, hf]

/-- What a tamper event leaves under each policy. -/
structure State.tampered (s u : State) (c : Nat) : Prop where
  counted : s.n O.tamperPolicy ≤ 1 → s.n O.tamperState ≤ 1 →
    u.n (bySub O.tamperCounters c) = satN (2 ^ 32 - 1) (s.n (bySub O.tamperCounters c) + 1) ∧ u.flag O.sensorsActive c = true
  reported : s.n O.tamperPolicy = 0 → u.n O.tamperState = s.n O.tamperState ∧ u.cairn.cache = s.cairn.cache ∧
    u.cipher.sas = s.cipher.sas ∧ u.pkg = s.pkg
  contained : s.n O.tamperPolicy = 1 → s.n O.tamperState ≤ 1 → u.n O.tamperState = 1
  erased : s.n O.tamperPolicy ≠ 0 → u.cipher.sas = [] ∧ (∀ e, e ∈ u.cairn.cache → ∀ k, s.hasDie k = true → bit e.2 k = false)
  destroyed : s.n O.tamperPolicy ≠ 0 → s.n O.tamperDestroysRoot = 1 → u.cairn.destroyed = s.dieMask
  halted : s.n O.tamperPolicy = 2 → s.n O.tamperState ≤ 2 → ∀ k, s.hasDie k = true → k < 8 → bit u.pkg.quarantine k = true

theorem State.disturbed_counted (hs : s.jobsHome) (d n : Nat) (hc : c < 7) :
    (s.disturbed d c n).n (bySub O.tamperCounters c) = satN (2 ^ 32 - 1) (s.n (bySub O.tamperCounters c) + 1) ∧
      (s.disturbed d c n).flag O.sensorsActive c = true :=
  ⟨(State.disturbed_n hs d c n (counterKey_spec hc).1).trans (s.struck_counter d n hc), by
    unfold State.flag
    rw [State.disturbed_n hs d c n (by decide)]
    exact s.struck_flag d n hc⟩

theorem State.disturbed_tampered (hs : s.jobsHome) (hc : c < 7) (hp : s.n O.tamperPolicy = 0) : s.tampered (s.disturbed d c n) c := by
  have hg := State.disturbed_engined hs d c n
  have hst := State.struck_reported (d := d) (c := c) (n := n) hp
  have hw := only_sensed s d c n
  have hcache : (s.sensed d c n).cairn.cache = s.cairn.cache := congrArg CairnSt.cache (hw.rest .cairn (by simp))
  rw [hst] at hg
  exact
    { counted := fun _ _ => State.disturbed_counted hs d n hc
      reported := fun _ => by
        refine ⟨?_, ?_, ?_, ?_⟩
        · rw [State.disturbed_n hs d c n (by decide), State.struck_n s d n hc (by decide) (by decide) (by decide)]
        · rw [hg.cairn]
          exact hcache
        · rw [hg.sas]
          exact congrArg CipherSt.sas (hw.rest .cipher (by simp))
        · exact (only_disturbed hs d c n).rest .pkg (by simp)
      contained := fun h => by omega
      erased := fun h => absurd hp h
      destroyed := fun h => absurd hp h
      halted := fun h => by omega }

theorem State.tamperRespond_quarantined (s : State) {p k : Nat} (hn : (s.contained p).n O.tamperState = 2) (hk : s.hasDie k = true) (h8 : k < 8) :
    bit (s.tamperRespond p).pkg.quarantine k = true := by
  rw [State.tamperRespond_eq, if_pos hn]
  refine State.enterQuarantine_bit _ h8 (bit_dieMask ?_)
  unfold State.hasDie
  rw [(only_contained s p).variant]
  exact hk

theorem State.tamperRespond_kept (s : State) {p : Nat} (hn : (s.contained p).n O.tamperState ≠ 2) : s.tamperRespond p = s.contained p := by
  rw [State.tamperRespond_eq, if_neg hn]

theorem State.tamperRespond_within (s : State) (p : Nat) : Within (s.contained p) (s.tamperRespond p) [.blobs, .pkg, .lanes, .fwd] := by
  rw [State.tamperRespond_eq]
  split
  · exact State.enterQuarantine_within ..
  · exact ⟨rfl, rfl, fun _ _ _ => (Only.refl _).rest _ (by simp)⟩

theorem State.tamperRespond_tampered (hs : s.jobsHome) (hc : c < 7) (hp : s.n O.tamperPolicy ≠ 0) :
    s.tampered ((s.disturbed d c n).tamperRespond (s.n O.tamperPolicy)) c := by
  have hw := only_disturbed hs d c n
  have hstate : ((s.disturbed d c n).contained (s.n O.tamperPolicy)).n O.tamperState = max (s.n O.tamperState) (s.n O.tamperPolicy) := by
    rw [State.contained_state, State.disturbed_n hs d c n (by decide), State.struck_n s d n hc (by decide) (by decide) (by decide)]
  have hcairn := ((s.disturbed d c n).tamperRespond_within (s.n O.tamperPolicy)).rest .cairn (by decide) (by decide)
  have hcipher := ((s.disturbed d c n).tamperRespond_within (s.n O.tamperPolicy)).rest .cipher (by decide) (by decide)
  have hcairn : ((s.disturbed d c n).tamperRespond (s.n O.tamperPolicy)).cairn = (s.disturbed d c n).allWiped.cairn :=
    hcairn.trans (State.contained_cairn ..)
  obtain ⟨_, hmod, hdiv⟩ := counterKey_spec hc
  exact
    { counted := fun h1 h2 => by
        rw [State.tamperRespond_kept _ (by rw [hstate]; omega)]
        refine ⟨?_, ?_⟩
        · rw [State.contained_n _ _ (by omega) (fun e => absurd (e ▸ hdiv) (by decide)) (fun e => absurd (e ▸ hdiv) (by decide))]
          exact (State.disturbed_counted hs d n hc).1
        · unfold State.flag
          rw [State.contained_n _ _ (by decide) (by decide) (by decide)]
          exact (State.disturbed_counted hs d n hc).2
      reported := fun h => absurd h hp
      contained := fun h1 h2 => by
        rw [State.tamperRespond_kept _ (by rw [hstate]; omega), hstate]
        omega
      erased := fun _ => by
        refine ⟨(congrArg CipherSt.sas hcipher).trans (State.contained_sas ..), fun e he k hk => ?_⟩
        rw [hcairn] at he
        refine (s.disturbed d c n).allWiped_uncached ?_ e he
        unfold State.hasDie
        rw [hw.variant]
        exact hk
      destroyed := fun _ hd => by
        rw [hcairn, State.allWiped_cairn]
        have hg := (State.disturbed_engined hs d c n).cairn
        rw [hg]
        exact State.struck_destroyed hc hp hd
      halted := fun h1 h2 k hk h8 => by
        refine State.tamperRespond_quarantined _ ?_ ?_ h8
        · rw [hstate]
          omega
        · unfold State.hasDie
          rw [hw.variant]
          exact hk }

theorem tamper_tampered (hs : s.jobsHome) (h : s.senses d c) (n : Nat) : s.tampered (tamper d c n s) c := by
  rw [tamper_eq hs h]
  split
  next hp => exact State.disturbed_tampered hs h.cls hp
  next hp => exact State.tamperRespond_tampered hs h.cls hp

theorem tamper_runs (hs : s.jobsHome) (h : s.senses d c) : Runs (.tamper t d c n) s fun u => s.tampered u c := by
  have h' : (s.begin t).senses d c := ⟨h.die, h.cls, h.enabled, h.on, h.awake, h.ready, h.free⟩
  have hu := tamper_tampered (s := s.begin t) hs h' n
  exact .intro rfl ⟨hu.counted, hu.reported, hu.contained, hu.erased, hu.destroyed, hu.halted⟩

end Tamper

/-! ### Loops, conditions, the clear and the fuse (R320, R325, R326) -/

section Clear

variable {who : Who} {x : Session} {b : Bytes} {c n : Nat}

/-- The two patterns that leave on the external loops. -/
def State.loopsSent (s : State) : State :=
  let w := (s.emit (.message "tmp_loop" 0 (leBytes 2 s.free))).drawn
  (w.emit (.message "tmp_loop" 1 (leBytes 2 w.free))).drawn

theorem only_loopsSent (s : State) : Only s s.loopsSent [.free] [] :=
  ((((only_emit ..).trans (only_drawn _)).trans (only_emit ..)).trans (only_drawn _)).mono (by simp) (by simp)

theorem loopPattern_sends {a b : Bool} (hp : s.power_ ≠ pwOFF) (ha : a = true ∨ s.flag O.sensorsActive 2 = true)
    (hb : b = true ∨ s.flag O.sensorsActive 3 = true) : loopPattern a b n s = s.loopsSent := by
  have hf : ∀ i, s.loopsSent.flag O.sensorsActive i = s.flag O.sensorsActive i := fun i => (only_loopsSent s).flag_eq _ i
  have ha' : ¬ (!a && !s.loopsSent.flag O.sensorsActive 2) = true := by
    rw [hf]
    rcases ha with h | h <;> simp [h]
  have hb' : ¬ (!b && !s.loopsSent.flag O.sensorsActive 3) = true := by
    rw [hf]
    rcases hb with h | h <;> simp [h]
  unfold loopPattern
  rw [if_neg hp]
  change (let w := if (!a && !s.loopsSent.flag O.sensorsActive 2) = true then tamper 0 2 n s.loopsSent else s.loopsSent
    if (!b && !w.flag O.sensorsActive 3) = true then tamper 0 3 n w else w) = _
  rw [if_neg ha']
  exact if_neg hb'

theorem tamperLoopPattern_runs {a b : Bool} (hp : s.power_ ≠ pwOFF) (ha : a = true ∨ s.flag O.sensorsActive 2 = true)
    (hb : b = true ∨ s.flag O.sensorsActive 3 = true) : Runs (.tamperLoopPattern t a b n) s fun u =>
      .message "tmp_loop" 0 (leBytes 2 s.free) ∈ u.out ∧ .message "tmp_loop" 1 (leBytes 2 s.drawn.free) ∈ u.out ∧ u.freeCtr = s.freeCtr + 2 ∧
        Only s u [.free] [] := by
  refine .intro (congrArg Host.Outcome.next (loopPattern_sends (s := s.begin t) hp ha hb)) ⟨?_, ?_, rfl, (only_loopsSent _).begin⟩
  · exact List.mem_append_left _ (List.mem_append_right _ (List.mem_singleton.mpr rfl))
  · exact List.mem_append_right _ (List.mem_singleton.mpr rfl)

theorem tamperConditionEnds_runs (hc : c < 7) : Runs (.tamperConditionEnds t c) s fun u => u.flag O.sensorsActive c = false ∧
    (∀ c', c' ≠ c → u.flag O.sensorsActive c' = s.flag O.sensorsActive c') ∧ Only s u [] [O.sensorsActive] := by
  refine .intro (congrArg Host.Outcome.next (if_pos hc)) ⟨?_, fun c' h => ?_, (only_setFlag ..).begin⟩
  · rw [State.setFlag_flag, if_pos rfl]
  · rw [State.setFlag_flag, if_neg h]
    rfl

theorem tamperClearAct_refused (h : s.n O.tamperState = 0 ∨ s.n O.sensorsActive ≠ 0 ∨ s.canAttest = false) :
    tamperClearAct who.sess b x s = (.deviceState, s) := if_pos h

/-- The clear's statement is the session's. -/
def State.cleared (s : State) (sess st : Nat) (b : Bytes) : State :=
  s.updSession sess fun x => { x with nonce := none, statement := s.attestation st b }

theorem tamperClearAct_clears (h : ¬(s.n O.tamperState = 0 ∨ s.n O.sensorsActive ≠ 0 ∨ s.canAttest = false)) :
    tamperClearAct who.sess b x s = (.ok,
      if s.n O.tamperState = 2 then ((s.cleared who.sess (s.n O.tamperState) b).tamperRelease (s.n O.tamperState - 1)).leaveQuarantine
      else (s.cleared who.sess (s.n O.tamperState) b).tamperRelease (s.n O.tamperState - 1)) := if_neg h

theorem State.heard_canAttest (s : State) (t : Nat) (who : Who) (idx sub : Nat) : (s.heard t who idx sub).canAttest = s.canAttest := by
  unfold State.canAttest
  rw [State.heard_anchorUp, State.heard_n]

theorem tamperClear_runs_refused (h : s.MayWriteDom who x 0x2B20 4 8 64 b.length)
    (hr : s.n O.tamperState = 0 ∨ s.n O.sensorsActive ≠ 0 ∨ s.canAttest = false) :
    Runs (.tamperClear t who b) s fun u => u.answered who .deviceState ∧ u.n O.tamperState = s.n O.tamperState ∧
      Only s u [.access, .power, .bridge] [] :=
  (h.runs_refused (t := t) (fun _ => true) (tamperClearAct who.sess b) rfl rfl
    (tamperClearAct_refused (s := s.heard t who 0x2B20 4) (by rwa [State.heard_n, State.heard_n, State.heard_canAttest]))).imp
    fun _ ⟨hans, hu⟩ => ⟨hans, hu.n_all _, hu⟩

theorem State.reloadCaches_rest (s : State) : ∃ m, s.reloadCaches = { s with cairn := { s.cairn with cache := m } } := by
  unfold State.reloadCaches
  refine List.foldlRecOn (motive := fun u : State => ∃ m, u = { s with cairn := { s.cairn with cache := m } }) _ _ ⟨_, rfl⟩ ?_
  rintro u ⟨m, rfl⟩ d -
  exact ⟨_, rfl⟩

/-- The associations that come back from the journal (R325). -/
def State.journalSas (s : State) : List Sa :=
  (s.cipher.journal.filter (fun k => k.running && s.dieUp k.die && s.rootOk k.die)).map (fun (k : KiRec) =>
    ({ channel := k.channel, receive := k.receive, an := k.an, ki := k.ki, kn := k.kn,
       pn := if k.receive then k.stored else k.stored + 65536, state := 2, stored := k.stored, frames := 0, warned := false,
       sak := k.sak } : Sa))

theorem State.reloadSas_sas (s : State) : s.reloadSas.cipher.sas = s.journalSas := rfl

theorem State.journalSas_congr {u : State} (hc : u.cipher = s.cipher) (hv : u.variant = s.variant) (hp : u.pkg = s.pkg)
    (hr : u.cairn.roots = s.cairn.roots) (hd : u.cairn.destroyed = s.cairn.destroyed) : u.journalSas = s.journalSas := by
  have hroot : ∀ d, u.rootOk d = s.rootOk d := fun d => by
    unfold State.rootOk
    rw [hr, hd]
  unfold State.journalSas
  simp only [hc, State.dieUp_congr hv hp, hroot]

/-- What a clear gives back: the state is CLEAR and the associations are those of the journal. -/
structure State.resumed (s u : State) : Prop where
  state : u.n O.tamperState = 0
  sas : u.cipher.sas = s.journalSas
  session : ∀ n, (u.session? n).isSome = (s.session? n).isSome

/-- The state is CLEAR, and the caches and the associations are reloaded. -/
def State.reloaded (s : State) : State := (s.setN O.tamperState 0).reloadCaches.reloadSas

theorem State.reloaded_spec (s : State) : s.reloaded.n O.tamperState = 0 ∧ s.reloaded.cipher.sas = s.journalSas ∧
    s.reloaded.cipher.jobs = s.cipher.jobs ∧ s.reloaded.access = s.access := by
  obtain ⟨m, hm⟩ := (s.setN O.tamperState 0).reloadCaches_rest
  unfold State.reloaded
  rw [hm]
  exact ⟨s.setN_self O.tamperState 0, rfl, rfl, rfl⟩

theorem State.tamperRelease_resumed (hs : s.jobsHome) (was : Nat) : s.resumed (s.tamperRelease was) := by
  obtain ⟨hn, hsas, hjobs, hacc⟩ := s.reloaded_spec
  have hw := only_logLead s.reloaded Ev.tamperClear 0xFFFF [(1, was)]
  have hc : (s.reloaded.logLead Ev.tamperClear 0xFFFF [(1, was)]).cipher = s.reloaded.cipher := hw.rest .cipher (by decide)
  have hg := State.enginesGo_engined (State.jobsHome_congr ((congrArg CipherSt.jobs hc).trans hjobs) hs)
  exact
    { state := (hg.only.n_eq (by decide) (by decide)).trans ((hw.n_all _).trans hn)
      sas := hg.sas.trans ((congrArg CipherSt.sas hc).trans hsas)
      session := fun n => (hg.session n).trans (congrArg (fun a : AccessSt => (look a.sessions n).isSome) ((hw.rest .access (by decide) :).trans hacc)) }

theorem State.cleared_resumed (hs : s.jobsHome) (n st : Nat) (b : Bytes) : s.resumed ((s.cleared n st b).tamperRelease (st - 1)) := by
  have hw : Only s (s.cleared n st b) [.access] [] := only_updSession ..
  have hc : (s.cleared n st b).cipher = s.cipher := hw.rest .cipher (by decide)
  have hcairn : (s.cleared n st b).cairn = s.cairn := hw.rest .cairn (by decide)
  have hr := State.tamperRelease_resumed (State.jobsHome_congr (congrArg CipherSt.jobs hc) hs) (st - 1)
  exact
    { state := hr.state
      sas := hr.sas.trans (State.journalSas_congr hc hw.variant (hw.rest .pkg (by decide)) (congrArg _ hcairn) (congrArg _ hcairn))
      session := fun m => (hr.session m).trans (State.updSession_isSome ..) }

theorem State.heard_attestable {s : State} {t : Nat} (h : s.n O.sensorsActive = 0) (ha : s.canAttest = true) (hn : s.n O.tamperState ≠ 0) :
    ¬((s.heard t who 0x2B20 4).n O.tamperState = 0 ∨ (s.heard t who 0x2B20 4).n O.sensorsActive ≠ 0 ∨ (s.heard t who 0x2B20 4).canAttest = false) := by
  rw [State.heard_n, State.heard_n, State.heard_canAttest, h, ha]
  simpa using hn

theorem tamperClear_runs_resumed (hs : s.jobsHome) (h : s.MayWriteDom who x 0x2B20 4 8 64 b.length) (hn : s.n O.tamperState = 1)
    (hq : s.n O.sensorsActive = 0) (ha : s.canAttest = true) : Runs (.tamperClear t who b) s fun u => u.answered who .ok ∧ u.n O.tamperState = 0 ∧
      u.cipher.sas = s.journalSas := by
  have hact := tamperClearAct_clears (who := who) (x := x) (b := b) (State.heard_attestable (who := who) (t := t) hq ha (by omega))
  have hw := State.cleared_resumed (s := s.heard t who 0x2B20 4) (by rw [State.jobsHome, State.heard_cipher]; exact hs) who.sess
    ((s.heard t who 0x2B20 4).n O.tamperState) b
  rw [if_neg (by rw [State.heard_n, hn]; decide)] at hact
  refine (h.acts (t := t) (fun _ => true) (tamperClearAct who.sess b) rfl rfl hact ((hw.session _).trans (h.toTakes.heard_session ..))).imp
    fun u ⟨hans, hu⟩ => ⟨hans, (hu.n_all _).trans hw.state, ?_⟩
  rw [show u.cipher = _ from hu.rest .cipher (by decide), hw.sas]
  exact State.journalSas_congr (State.heard_cipher ..) (State.heard_variant ..) (State.heard_pkg ..) (congrArg _ (State.heard_cairn ..))
    (congrArg _ (State.heard_cairn ..))

theorem State.leaveQuarantine_session (s : State) (n : Nat) : s.leaveQuarantine.session? n = s.session? n :=
  congrArg (fun a : AccessSt => look a.sessions n) (access_of_core (State.leaveQuarantine_core (R := 524864) rfl s) rfl)

theorem tamperClear_runs_released (hs : s.jobsHome) (h : s.MayWriteDom who x 0x2B20 4 8 64 b.length) (hn : s.n O.tamperState = 2)
    (hq : s.n O.sensorsActive = 0) (ha : s.canAttest = true) : Runs (.tamperClear t who b) s fun u => u.answered who .ok := by
  have hact := tamperClearAct_clears (who := who) (x := x) (b := b) (State.heard_attestable (who := who) (t := t) hq ha (by omega))
  have hw := State.cleared_resumed (s := s.heard t who 0x2B20 4) (by rw [State.jobsHome, State.heard_cipher]; exact hs) who.sess
    ((s.heard t who 0x2B20 4).n O.tamperState) b
  rw [if_pos (by rw [State.heard_n, hn])] at hact
  refine (h.acts (t := t) (fun _ => true) (tamperClearAct who.sess b) rfl rfl hact ?_).imp fun u ⟨hans, _⟩ => hans
  rw [State.leaveQuarantine_session, hw.session]
  exact h.toTakes.heard_session ..

theorem fuseTamperDestroysRoot_runs (h : s.MayWrite who x 0x2B00 0x0A 0x5A) : Runs (.fuseTamperDestroysRoot t who) s fun u =>
    u.answered who .ok ∧ u.n O.tamperDestroysRoot = 1 ∧ Only s u [.access, .power, .bridge] [O.tamperDestroysRoot] :=
  (h.runs (t := t) fuseAct rfl rfl (only_setN ..) (by simp)).imp fun u ⟨hans, hu, hf⟩ =>
    ⟨hans, (hu.n_all O.tamperDestroysRoot).trans (State.setN_self ..), hf.mono (by simp) (by simp)⟩

end Clear

end Sys2Proof.Machine

open Sys2Proof Sys2Proof.Machine

/-- Settles O34, by what each erasure leaves and by the frame of the engines and of a quarantine, which touch none of what a response writes. -/
theorem lifeCycleAndTamper : Obligations.LifeCycleAndTamper :=
  ⟨fun _ _ _ _ _ h => ⟨lifeCycleCommand_runs_outOfRange h, fun _ hr => ⟨lifeCycleCommand_runs_denied h hr,
      fun hx hb => lifeCycleCommand_runs_busy h hr hx (by unfold State.lifeCycleBusy; tauto),
      fun hx h1 h2 h3 h4 h5 h6 h7 h8 => lifeCycleCommand_runs_started h hr hx (by
        unfold State.lifeCycleBusy
        simp [h1, h2, h3, h4, h5, h6, h7, h8])⟩⟩,
    fun _ _ _ hj h => lifeCycleDone_runs hj h,
    fun _ _ _ _ _ hj h1 h2 h3 h4 h5 h6 h7 => (tamper_runs hj ⟨h1, h2, h3, h4, h5, h6, h7⟩).imp
      fun _ hu => ⟨hu.counted, hu.reported, hu.contained, hu.erased, hu.destroyed, hu.halted⟩,
    fun _ _ _ _ _ h1 h2 h3 => tamperLoopPattern_runs h1 h2 h3,
    fun _ _ _ h => tamperConditionEnds_runs h,
    fun _ _ _ _ _ hj h => ⟨tamperClear_runs_refused h, tamperClear_runs_resumed hj h, tamperClear_runs_released hj h⟩,
    fun _ _ _ _ h => fuseTamperDestroysRoot_runs h⟩
end

section
/-! Proofs about key agreement (R333, R334, R336). -/
namespace Sys2Proof.Machine
open Sys2Proof

variable {s : State} {t c : Nat}

section Rules

theorem State.setMka_self (s : State) (c : Nat) (m : MkaSt) : (s.setMka c m).mkaSt c = m := get_put_self ..

theorem only_setMka (s : State) (c : Nat) (m : MkaSt) : Only s (s.setMka c m) [.cipher] [] := (Only.same s _ _).setCipher _ (by simp)

/-- A channel whose member identifier is drawn keeps it. -/
theorem State.ensureMi_drawn (h : (s.mkaSt c).mi ≠ 0) : s.ensureMi c = s := if_neg h

/-- A priority of 255 is never a key server. -/
theorem State.isServer_lowest (h : fld (s.channelRec c) 7 1 = 255) : s.isServer c = false := by
  unfold State.isServer
  dsimp only
  rw [h]
  rfl

theorem only_sendMkpdu (s : State) (c : Nat) : Only s (s.sendMkpdu c) [.cipher] [] := (only_setMka ..).none (only_emit ..)

/-- Channel associations but those of a key identifier's pair, then the pair. -/
theorem State.installSa_pair {ki kn an pn : Nat} {sak : Bytes} (h1 : s.cipher.sas.any (fun a => a.channel == c && a.ki == ki) = false)
    (h2 : s.cipher.journal.any (fun k => k.channel == c && k.ki == ki && !k.receive) = false) :
    ⟨c, false, an, ki, kn, pn, 1, 0, 0, false, sak⟩ ∈ (s.installSa c ki kn an pn sak).cipher.sas ∧
      ⟨c, true, an, ki, kn, pn, 1, 0, 0, false, sak⟩ ∈ (s.installSa c ki kn an pn sak).cipher.sas := by
  have h2' : (s.cipher.journal.any fun k => k.channel == c && k.ki == ki && !k.receive && decide (pn ≤ s.highWater k)) = false := by
    rw [List.any_eq_false] at h2 ⊢
    intro k hk hx
    exact h2 k hk (Bool.and_eq_true_iff.mp hx).1
  have htrim : ∀ (u : State) (d n : Nat), ((u.trimJournal d).logBytes d n).cipher.sas = u.cipher.sas := by
    intro u d n
    unfold State.logBytes State.trimJournal
    dsimp only
    split
    · rfl
    · split <;> rfl
  unfold State.installSa
  rw [if_neg (by rw [h1]; decide), if_neg (by rw [h2']; decide)]
  dsimp only
  rw [htrim]
  exact ⟨List.mem_append_right _ (by simp), List.mem_append_right _ (by simp)⟩

end Rules

section Mkpdu

variable {n : Nat} {p : Mkpdu}

theorem mkpduReceive_ignored (hc : s.channelOfLane n = some c) (h : s.cakReady c = false ∨ p.icvOk = false) : mkpduReceive n p s = s := by
  unfold mkpduReceive
  rw [hc]
  exact if_pos (by rcases h with h | h <;> simp [h])

/-- The peer list with the sender's entry renewed. -/
def State.peerHeard (s : State) (c : Nat) (p : Mkpdu) : State :=
  s.setMka c { s.mkaSt c with
    peers := (s.mkaSt c).peers.filter (fun x => x.mi != p.mi) ++ [⟨p.mi, p.mn, p.prio, p.sci, p.hears, s.now⟩] }

theorem only_peerHeard (s : State) (c : Nat) (p : Mkpdu) : Only s (s.peerHeard c p) [.cipher] [] := only_setMka ..

theorem mkpduReceive_stale (hc : s.channelOfLane n = some c) (hk : s.cakReady c = true) (hi : p.icvOk = true) (hm : (s.mkaSt c).mi ≠ 0)
    (hq : ∃ q, (s.mkaSt c).peers.find? (fun x => x.mi == p.mi) = some q ∧ p.mn ≤ q.mn) : mkpduReceive n p s = s := by
  obtain ⟨q, hf, hle⟩ := hq
  unfold mkpduReceive
  rw [hc]
  dsimp only
  rw [hk, hi, State.ensureMi_drawn hm, hf]
  exact (if_neg (by decide)).trans (if_pos (decide_eq_true hle))

theorem mkpduReceive_newer (hc : s.channelOfLane n = some c) (hk : s.cakReady c = true) (hi : p.icvOk = true) (hm : (s.mkaSt c).mi ≠ 0)
    (hq : ∀ q, (s.mkaSt c).peers.find? (fun x => x.mi == p.mi) = some q → q.mn < p.mn) (hown : fld (s.channelRec c) 7 1 = 255)
    (hu : p.sakUse = none) : mkpduReceive n p s = match p.dist with
      | some (an, kn, pn, sak) =>
        if p.hears && p.prio != 255 then (s.peerHeard c p).installSa c (p.mi * 2 ^ 32 + kn) kn an pn sak else s.peerHeard c p
      | none => s.peerHeard c p := by
  have hold : ¬ ((s.mkaSt c).peers.find? (fun x => x.mi == p.mi)).any (fun x => decide (p.mn ≤ x.mn)) = true := by
    cases hf : (s.mkaSt c).peers.find? (fun x => x.mi == p.mi) with
    | none => simp
    | some q => simpa using hq q hf
  have hs : (s.peerHeard c p).isServer c = false := State.isServer_lowest hown
  unfold mkpduReceive
  rw [hc]
  dsimp only
  rw [hk, hi, State.ensureMi_drawn hm, hu, if_neg (by decide), if_neg hold]
  have hx : ∀ q : Bool, (if ((s.peerHeard c p).isServer c && q) = true then (s.peerHeard c p).newSak c else s.peerHeard c p) = s.peerHeard c p :=
    fun q => by
      rw [hs]
      rfl
  cases p.dist with
  | none => exact hx _
  | some d =>
    obtain ⟨an, kn, pn, sak⟩ := d
    refine (congrArg (fun u : State => if (p.hears && !u.isServer c && p.prio != 255) = true then u.installSa c (p.mi * 2 ^ 32 + kn) kn an pn sak else u)
      (hx _)).trans ?_
    dsimp only
    rw [hs, Bool.not_false, Bool.and_true]

theorem mkpduReceive_runs_ignored (hc : s.channelOfLane n = some c) (h : s.cakReady c = false ∨ p.icvOk = false) :
    Runs (.mkpduReceive t n p) s fun v => Only s v [] [] :=
  .intro (congrArg Host.Outcome.next (mkpduReceive_ignored (s := s.begin t) hc h)) (Only.begin (.refl _))

theorem mkpduReceive_runs_stale (hc : s.channelOfLane n = some c) (hk : s.cakReady c = true) (hi : p.icvOk = true) (hm : (s.mkaSt c).mi ≠ 0)
    (hq : ∃ q, (s.mkaSt c).peers.find? (fun x => x.mi == p.mi) = some q ∧ p.mn ≤ q.mn) :
    Runs (.mkpduReceive t n p) s fun v => Only s v [] [] :=
  .intro (congrArg Host.Outcome.next (mkpduReceive_stale (s := s.begin t) hc hk hi hm hq)) (Only.begin (.refl _))

section Newer

variable (hc : s.channelOfLane n = some c) (hk : s.cakReady c = true) (hi : p.icvOk = true) (hm : (s.mkaSt c).mi ≠ 0)
    (hq : ∀ q, (s.mkaSt c).peers.find? (fun x => x.mi == p.mi) = some q → q.mn < p.mn) (hown : fld (s.channelRec c) 7 1 = 255)
    (hu : p.sakUse = none)
include hc hk hi hm hq hown hu

theorem mkpduReceive_runs_recorded (hd : p.dist = none) : Runs (.mkpduReceive t n p) s fun v =>
    v.mkaSt c = { s.mkaSt c with
      peers := (s.mkaSt c).peers.filter (fun x => x.mi != p.mi) ++ [⟨p.mi, p.mn, p.prio, p.sci, p.hears, s.localAt t⟩] } ∧
      Only s v [.cipher] [] := by
  have he := mkpduReceive_newer (s := s.begin t) hc hk hi hm hq hown hu
  rw [hd] at he
  exact .intro (congrArg Host.Outcome.next he) ⟨State.setMka_self .., (only_peerHeard ..).begin⟩

theorem mkpduReceive_runs_installed {an kn pn : Nat} {sak : Bytes} (hd : p.dist = some (an, kn, pn, sak)) (hh : p.hears = true) (hp : p.prio ≠ 255)
    (h1 : s.cipher.sas.any (fun a => a.channel == c && a.ki == p.mi * 2 ^ 32 + kn) = false)
    (h2 : s.cipher.journal.any (fun k => k.channel == c && k.ki == p.mi * 2 ^ 32 + kn && !k.receive) = false) :
    Runs (.mkpduReceive t n p) s fun v => ⟨c, false, an, p.mi * 2 ^ 32 + kn, kn, pn, 1, 0, 0, false, sak⟩ ∈ v.cipher.sas ∧
      ⟨c, true, an, p.mi * 2 ^ 32 + kn, kn, pn, 1, 0, 0, false, sak⟩ ∈ v.cipher.sas := by
  have he := mkpduReceive_newer (s := s.begin t) hc hk hi hm hq hown hu
  rw [hd] at he
  dsimp only at he
  rw [if_pos (by simp [hh, hp])] at he
  exact .intro (congrArg Host.Outcome.next he) (State.installSa_pair (s := (s.begin t).peerHeard c p) h1 h2)

end Newer

end Mkpdu

section Timers

theorem mkaHelloTimer_runs (hk : s.cakReady c = true) (hm : (s.mkaSt c).mi ≠ 0) (hown : fld (s.channelRec c) 7 1 = 255) :
    Runs (.mkaHelloTimer t c) s fun v => (v.mkaSt c).mn = (s.mkaSt c).mn + 1 ∧ (∃ b, .message "mka" (chLane (s.channelRec c)) b ∈ v.out) ∧
      Only s v [.cipher] [] := by
  have hs : (s.begin t).isServer c = false := State.isServer_lowest hown
  have he : mkaHello c (s.begin t) = (s.begin t).sendMkpdu c := by
    unfold mkaHello
    rw [if_pos (show (s.begin t).cakReady c = true from hk), State.ensureMi_drawn (s := s.begin t) hm]
    dsimp only
    rw [hs]
    rfl
  refine .intro (congrArg Host.Outcome.next he) ⟨congrArg MkaSt.mn (State.setMka_self (s.begin t) c _), ⟨_, List.mem_append_right _ (List.mem_singleton.mpr rfl)⟩,
    (only_sendMkpdu ..).begin⟩

variable {mi : Nat} {p : Peer}

/-- A peer that is gone from the list. -/
def State.peerGone (s : State) (c mi : Nat) : State :=
  s.setMka c { s.mkaSt c with peers := (s.mkaSt c).peers.filter (fun x => x.mi != mi) }

theorem mkaLifeTimeout_early (hf : (s.mkaSt c).peers.find? (fun x => x.mi == mi) = some p) (hn : s.now < p.since + 6000000000) :
    mkaLifeTimeout c mi s = s := by
  unfold mkaLifeTimeout
  dsimp only
  rw [hf]
  exact if_pos hn

theorem mkaLifeTimeout_silent (hf : (s.mkaSt c).peers.find? (fun x => x.mi == mi) = some p) (hn : p.since + 6000000000 ≤ s.now)
    (hh : p.hears = false) : mkaLifeTimeout c mi s = s.peerGone c mi := by
  unfold mkaLifeTimeout
  dsimp only
  rw [hf]
  exact (if_neg (Nat.not_lt.mpr hn)).trans (if_pos (by rw [hh]; rfl))

theorem mkaLifeTimeout_last (hf : (s.mkaSt c).peers.find? (fun x => x.mi == mi) = some p) (hn : p.since + 6000000000 ≤ s.now)
    (hh : p.hears = true) (ha : ((s.mkaSt c).peers.filter (fun x => x.mi != mi)).all (fun x => !x.hears) = true) :
    mkaLifeTimeout c mi s = ((s.peerGone c mi).eraseSas fun a => a.channel == c).retireRecords c := by
  have hl : (livePeers ((s.peerGone c mi).mkaSt c)).isEmpty = true := by
    unfold livePeers State.peerGone
    rw [State.setMka_self, List.isEmpty_iff, List.filter_eq_nil_iff]
    intro x hx
    simpa using List.all_eq_true.mp ha x hx
  unfold mkaLifeTimeout
  dsimp only
  rw [hf]
  exact (if_neg (Nat.not_lt.mpr hn)).trans ((if_neg (by rw [hh]; decide)).trans (if_pos hl))

/-- An erasure leaves the associations that are not named, and the key agreement. -/
theorem State.eraseSas_cipher (s : State) (q : Sa → Bool) :
    (s.eraseSas q).cipher = { s.cipher with sas := s.cipher.sas.filter (fun a => !q a) } :=
  List.foldlRecOn (motive := fun w : State => w.cipher = { s.cipher with sas := s.cipher.sas.filter (fun a => !q a) })
    (s.cipher.sas.filter q) _ rfl fun w hw a _ => by
      split
      · exact ((only_stompLane ..).rest .cipher (by decide)).trans hw
      · exact hw

theorem mkaLifeTimeout_runs_early (hf : (s.mkaSt c).peers.find? (fun x => x.mi == mi) = some p) (hn : s.localAt t < p.since + 6000000000) :
    Runs (.mkaLifeTimeout t c mi) s fun v => Only s v [] [] :=
  .intro (congrArg Host.Outcome.next (mkaLifeTimeout_early (s := s.begin t) hf hn)) (Only.begin (.refl _))

theorem mkaLifeTimeout_runs_silent (hf : (s.mkaSt c).peers.find? (fun x => x.mi == mi) = some p) (hn : p.since + 6000000000 ≤ s.localAt t)
    (hh : p.hears = false) : Runs (.mkaLifeTimeout t c mi) s fun v =>
      v.mkaSt c = { s.mkaSt c with peers := (s.mkaSt c).peers.filter (fun x => x.mi != mi) } ∧ Only s v [.cipher] [] :=
  .intro (congrArg Host.Outcome.next (mkaLifeTimeout_silent (s := s.begin t) hf hn hh)) ⟨State.setMka_self .., (only_setMka ..).begin⟩

theorem mkaLifeTimeout_runs_last (hf : (s.mkaSt c).peers.find? (fun x => x.mi == mi) = some p) (hn : p.since + 6000000000 ≤ s.localAt t)
    (hh : p.hears = true) (ha : ((s.mkaSt c).peers.filter (fun x => x.mi != mi)).all (fun x => !x.hears) = true) :
    Runs (.mkaLifeTimeout t c mi) s fun v => (∀ a, a ∈ v.cipher.sas → a.channel ≠ c) ∧
      (∀ a, a ∈ s.cipher.sas → a.channel ≠ c → a ∈ v.cipher.sas) ∧
      v.mkaSt c = { s.mkaSt c with peers := (s.mkaSt c).peers.filter (fun x => x.mi != mi) } := by
  have hcip := ((s.begin t).peerGone c mi).eraseSas_cipher fun a => a.channel == c
  refine .intro (congrArg Host.Outcome.next (mkaLifeTimeout_last (s := s.begin t) hf hn hh ha)) ?_
  generalize ((s.begin t).peerGone c mi).eraseSas (fun a => a.channel == c) = w at hcip
  have hsas : w.cipher.sas = s.cipher.sas.filter fun a => !(a.channel == c) := congrArg CipherSt.sas hcip
  refine ⟨fun a ha => ?_, fun a ha hne => ?_, ?_⟩
  · rw [show (w.retireRecords c).cipher.sas = w.cipher.sas from rfl, hsas] at ha
    simpa using (List.mem_filter.mp ha).2
  · rw [show (w.retireRecords c).cipher.sas = w.cipher.sas from rfl, hsas]
    exact List.mem_filter.mpr ⟨ha, by simpa using hne⟩
  · have hmka : w.cipher.mka = ((s.begin t).peerGone c mi).cipher.mka := by rw [hcip]
    change get {} w.cipher.mka c = _
    rw [hmka]
    exact State.setMka_self (s.begin t) c _

end Timers

/-! ### Look-aside jobs (R341, R344, R346, R349) -/

section Jobs

variable {d : Nat} {desc data b : Bytes}

/-- A ring that has moved past its next descriptor. -/
def State.ringMoved (s : State) (c : Nat) : State :=
  { s with cipher := { s.cipher with next := ins s.cipher.next c ((get 0 s.cipher.next c + 1) % max 1 (clRing (s.classRec c))) } }

/-- The job of the descriptor a class's ring holds next. -/
def State.fetched (s : State) (c d : Nat) (desc data : Bytes) : Job :=
  { cls := c, index := get 0 s.cipher.next c, desc := patch desc 1 [1], data := data, sess := none, die := d, since := s.now,
    blocks := max 1 (ceilDiv (fld desc 0x18 4) 16), run := 0, key := [], status := 0, output := [], secure := clSecure (s.classRec c),
    role := .observer }

/-- The descriptor is shown RUNNING. -/
def State.shownRunning (s : State) (c : Nat) (desc : Bytes) : State := (s.ringMoved c).emit (.message "descriptor" c (patch desc 1 [1]))

theorem State.ringMoved_next (s : State) (c : Nat) :
    get 0 (s.ringMoved c).cipher.next c = (get 0 s.cipher.next c + 1) % max 1 (clRing (s.classRec c)) := by
  unfold get State.ringMoved
  rw [look_ins_self]
  rfl

theorem only_shownRunning (s : State) (c : Nat) (desc : Bytes) : Only s (s.shownRunning c desc) [.cipher] [] :=
  ((Only.same s _ _).setCipher _ (by simp)).none (only_emit ..)

/-- A job that is taken in. -/
def State.queued (s : State) (j : Job) : State := { s with cipher := { s.cipher with jobs := s.cipher.jobs ++ [j] } }

theorem State.queued_engined {j : Job} (hj : j.die < 8) (s : State) : Engined s (s.queued j) := by
  refine .cipherSt rfl rfl rfl rfl fun hs k hk => ?_
  rcases List.mem_append.mp hk with h | h
  · exact hs k h
  · exact List.mem_singleton.mp h ▸ hj

theorem jobFetch_free (hh : s.classHome c = some d) (hb : bit (fld desc 0 1) 7 = false) (ok : Bool) : jobFetch c desc data ok s = s := by
  unfold jobFetch
  dsimp only
  rw [hh]
  exact if_pos (by rw [hb]; simp)

theorem jobFetch_taken (hh : s.classHome c = some d) (he : clEnabled (s.classRec c) = true) (ho : clOwner (s.classRec c) ≠ 3)
    (hl : s.n (bySub O.lookAsideEnable d) = 1) (hd : desc.length = 96) (hb : bit (fld desc 0 1) 7 = true) (ok : Bool) :
    jobFetch c desc data ok s = if ok then (s.shownRunning c desc).takeJob (s.fetched c d desc data)
      else (((s.shownRunning c desc).queued (s.fetched c d desc data)).endJob (s.fetched c d desc data) jsBUSERROR []).engine_ d := by
  unfold jobFetch
  dsimp only
  rw [hh]
  exact if_neg (by simp [he, ho, hl, hd, hb])

/-- What a fetched descriptor leaves, read or not. -/
theorem jobFetch_engined (hj : s.jobsHome) (hh : s.classHome c = some d) (h8 : d < 8) (he : clEnabled (s.classRec c) = true)
    (ho : clOwner (s.classRec c) ≠ 3) (hl : s.n (bySub O.lookAsideEnable d) = 1) (hd : desc.length = 96) (hb : bit (fld desc 0 1) 7 = true)
    (ok : Bool) : Engined (s.shownRunning c desc) (jobFetch c desc data ok s) := by
  have hj' : (s.shownRunning c desc).jobsHome := State.jobsHome_congr (s := s) rfl hj
  rw [jobFetch_taken hh he ho hl hd hb]
  split
  · exact State.takeJob_engined hj' (j := s.fetched c d desc data) h8
  · have hq := State.queued_engined (j := s.fetched c d desc data) h8 (s.shownRunning c desc)
    have he := hq.trans (State.endJob_engined (j := s.fetched c d desc data) h8 jsBUSERROR [] _)
    exact he.trans (State.engine_engined (he.home hj') d)

theorem lookasideJobFetch_runs_free (hh : s.classHome c = some d) (ok : Bool) (hb : bit (fld desc 0 1) 7 = false) :
    Runs (.lookasideJobFetch t c desc data ok) s fun v => Only s v [] [] :=
  .intro (congrArg Host.Outcome.next (jobFetch_free (s := s.begin t) hh hb ok)) (Only.begin (.refl _))

theorem lookasideJobFetch_runs_taken (hj : s.jobsHome) (hh : s.classHome c = some d) (h8 : d < 8) (he : clEnabled (s.classRec c) = true)
    (ho : clOwner (s.classRec c) ≠ 3) (hl : s.n (bySub O.lookAsideEnable d) = 1) (hd : desc.length = 96) (ok : Bool)
    (hb : bit (fld desc 0 1) 7 = true) : Runs (.lookasideJobFetch t c desc data ok) s fun v =>
      .message "descriptor" c (patch desc 1 [1]) ∈ v.out ∧ get 0 v.cipher.next c = (get 0 s.cipher.next c + 1) % max 1 (clRing (s.classRec c)) ∧
        Only s v [.cipher, .cairn, .access, .logs] engineKeys := by
  have hg := jobFetch_engined (s := s.begin t) (data := data) hj hh h8 he ho hl hd hb ok
  refine .intro rfl ⟨hg.out _ (List.mem_append_right _ (List.mem_singleton.mpr rfl)), ?_,
    (((only_shownRunning (s.begin t) c desc).trans hg.only).mono (by simp) (by simp)).begin⟩
  rw [hg.next]
  exact State.ringMoved_next (s.begin t) c

/-! #### The end of a job -/

/-- An engine with no job left rests. -/
theorem State.engine_idle (h : s.cipher.jobs = []) (d : Nat) : s.engine_ d = s := by
  have hw : s.waitingJobs d = [] := by
    unfold State.waitingJobs
    rw [h]
    rfl
  unfold State.engine_
  rw [h]
  change State.engineRun 0 d (s.engineStep d) = s
  unfold State.engineStep
  dsimp only
  rw [h, hw]
  rfl

/-- A state with no job. -/
def State.jobless (s : State) : State := { s with cipher := { s.cipher with jobs := [] } }

theorem State.releaseJobs_last {k : Job} (h : s.cipher.jobs = [k]) (hs : k.sess = none) (hr : k.run = 3) : s.releaseJobs k.cls =
    (if k.output.isEmpty then s.jobless else s.jobless.emit (.message "destination" k.cls k.output)).emit
      (.message "descriptor" k.cls (endDesc k s.gptpNs)) := by
  have hmine : s.cipher.jobs.filter (fun x => x.cls == k.cls && x.sess.isNone) = [k] := by
    rw [h]
    simp [hs]
  have hout : [k].takeWhile (fun x => x.run == 3) = [k] := by simp [hr]
  have hleft : s.cipher.jobs.filter (fun x => !(x.cls == k.cls && x.sess.isNone && [k].any (fun y => y.index == x.index))) = [] := by
    rw [h]
    simp [hs]
  unfold State.releaseJobs
  dsimp only
  rw [hmine, hout, hleft, List.foldl_cons, List.foldl_nil]
  split <;> rfl

/-- The last job of a ring is given back when it ends. -/
theorem State.endJob_last {j : Job} (h : s.cipher.jobs = [j]) (hs : j.sess = none) (hr : j.run ≠ 3) (st : Nat) (o : Bytes) :
    (s.endJob j st o).cipher.jobs = [] ∧ (∀ k, (s.endJob j st o).n k = (s.jobCounted j st).n k) ∧
      .message "descriptor" j.cls (endDesc { j with run := 3, status := st, output := o, key := [] } s.gptpNs) ∈ (s.endJob j st o).out := by
  have hc : (s.jobCounted j st).cipher = s.cipher := by
    unfold State.jobCounted
    split <;> rfl
  have hg : (s.jobCounted j st).gptpNs = s.gptpNs := by
    unfold State.jobCounted
    split <;> rfl
  have hw : ((s.jobCounted j st).mapJob j (fun x => { x with run := 3, status := st, output := o, key := [] })).cipher.jobs =
      [{ j with run := 3, status := st, output := o, key := [] }] := by
    unfold State.mapJob
    dsimp only
    rw [hc, h, List.map_cons, List.map_nil, if_pos ⟨rfl, rfl, hr⟩]
  have hf : Only (s.jobCounted j st) ((s.jobCounted j st).mapJob j (fun x => { x with run := 3, status := st, output := o, key := [] })) [.cipher] [] :=
    (Only.same _ _ _).setCipher _ (by simp)
  have hgw : ((s.jobCounted j st).mapJob j (fun x => { x with run := 3, status := st, output := o, key := [] })).gptpNs = s.gptpNs := hg
  rw [State.endJob_ring hs]
  generalize (s.jobCounted j st).mapJob j (fun x => { x with run := 3, status := st, output := o, key := [] }) = w at hw hf hgw
  rw [State.releaseJobs_last (k := { j with run := 3, status := st, output := o, key := [] }) hw hs rfl, hgw]
  refine ⟨?_, fun k => ?_, List.mem_append_right _ (List.mem_singleton.mpr rfl)⟩
  · split <;> rfl
  · rw [← hf.n_all k]
    split <;> rfl

/-- With its last job an engine comes to rest. -/
theorem State.endJob_last_engine {j : Job} (h : s.cipher.jobs = [j]) (hs : j.sess = none) (hr : j.run ≠ 3) (st : Nat) (o : Bytes) (d : Nat) :
    (s.endJob j st o).engine_ d = s.endJob j st o := State.engine_idle (State.endJob_last h hs hr st o).1 d

theorem lookasideJobDone_runs_idle (ok : Bool) (dest : Bytes) (h : s.cipher.jobs.find? (fun j => j.die == d && j.run == 1) = none) :
    Runs (.lookasideJobDone t d ok dest) s fun v => Only s v [] [] := by
  have he : jobDone d ok dest (s.begin t) = s.begin t := by
    unfold jobDone
    rw [show (s.begin t).cipher.jobs.find? (fun j => j.die == d && j.run == 1) = none from h]
  exact .intro (congrArg Host.Outcome.next he) (Only.begin (.refl _))

theorem jobDone_last {j : Job} (h : s.cipher.jobs = [j]) (hd : j.die = d) (hr : j.run = 1) (hs : j.sess = none) (dest : Bytes) :
    jobDone d true dest s = s.endJob j (j.result dest).1 (j.result dest).2 := by
  have hf : s.cipher.jobs.find? (fun j => j.die == d && j.run == 1) = some j := by
    rw [h]
    simp [hd, hr]
  unfold jobDone
  rw [hf]
  dsimp only
  rw [hs, if_pos (by decide), if_neg (by decide)]
  exact State.endJob_last_engine h hs (by omega) ..

theorem lookasideJobDone_runs_last {j : Job} {ok : Bool} {dest : Bytes} (h : s.cipher.jobs = [j]) (hd : j.die = d) (hr : j.run = 1)
    (hs : j.sess = none) (hok : ok = true) (hres : (j.result dest).1 = jsDONE) : Runs (.lookasideJobDone t d ok dest) s fun v =>
      v.cipher.jobs = [] ∧ v.n (bySub O.jobsCompleted d) = satN (2 ^ 64 - 1) (s.n (bySub O.jobsCompleted d) + 1) ∧
        .message "descriptor" j.cls (endDesc { j with run := 3, status := jsDONE, output := (j.result dest).2, key := [] } (s.begin t).gptpNs)
          ∈ v.out := by
  subst hok hd
  have he := jobDone_last (s := s.begin t) h rfl hr hs dest
  obtain ⟨hjobs, hn, hout⟩ := State.endJob_last (s := s.begin t) h hs (by omega) (j.result dest).1 (j.result dest).2
  rw [hres] at he hjobs hn hout
  exact .intro (congrArg Host.Outcome.next he) ⟨hjobs, (hn _).trans (State.inc64_self ..), hout⟩

/-! #### An abort and a session's job -/

variable {who : Who} {x : Session}

theorem State.heard_classRec (s : State) (t : Nat) (who : Who) (idx sub c : Nat) : (s.heard t who idx sub).classRec c = s.classRec c :=
  (only_heard s t who idx sub).blob_eq (by decide) _

theorem State.heard_classHome (s : State) (t : Nat) (who : Who) (idx sub c : Nat) : (s.heard t who idx sub).classHome c = s.classHome c := by
  rw [State.heard_eq]
  rfl

theorem abortJob_runs_denied (h : s.MayWrite who x 0x2B44 3 1) (hc : clSecure (s.classRec (s.n O.abortClass)) = true) (hx : x.secure = false) :
    Runs (.abortJob t who) s fun v => v.answered who .accessDenied ∧ v.cipher = s.cipher := by
  have ha : abortJobAct x (s.heard t who 0x2B44 3) = (.accessDenied, (s.heard t who 0x2B44 3).countDenial .accessDenied) := by
    unfold abortJobAct
    dsimp only
    rw [State.heard_classRec, State.heard_n, hc, hx]
    rfl
  exact (h.runs (t := t) abortJobAct rfl ha (only_countDenial ..) (by simp)).imp fun v ⟨hans, _, hf⟩ => ⟨hans, hf.rest .cipher (by decide)⟩

/-- The job that the abort command names. -/
def State.abortee (s : State) : Option Job :=
  s.cipher.jobs.find? fun j => j.cls == s.n O.abortClass && j.sess.isNone && j.index == s.n O.abortDescriptor && j.run != 3

theorem State.heard_abortee (s : State) (t : Nat) (who : Who) (idx sub : Nat) : (s.heard t who idx sub).abortee = s.abortee := by
  unfold State.abortee
  simp only [State.heard_cipher, State.heard_n]

theorem abortJobAct_allowed (h : clSecure (s.classRec (s.n O.abortClass)) = false ∨ x.secure = true) : abortJobAct x s =
    match s.abortee with
    | none => (.alreadyDone, s)
    | some j => (.ok, (s.endJob j jsABORTED []).engine_ j.die) :=
  if_neg (by rcases h with h | h <;> simp [h])

section Allowed

variable (h : s.MayWrite who x 0x2B44 3 1) (hc : clSecure (s.classRec (s.n O.abortClass)) = false ∨ x.secure = true)
include h hc

theorem abortJob_runs_gone (hn : s.abortee = none) :
    Runs (.abortJob t who) s fun v => v.answered who .alreadyDone ∧ v.cipher = s.cipher := by
  have ha := abortJobAct_allowed (s := s.heard t who 0x2B44 3) (x := x) (by rwa [State.heard_classRec, State.heard_n])
  rw [State.heard_abortee, hn] at ha
  exact (h.runs_refused (t := t) abortJobAct rfl ha).imp fun v ⟨hans, hf⟩ => ⟨hans, hf.rest .cipher (by decide)⟩

theorem abortJob_runs_aborted (hj : s.jobsHome) {j : Job} (hn : s.abortee = some j) : Runs (.abortJob t who) s fun v => v.answered who .ok ∧
    (s.cipher.jobs = [j] → v.cipher.jobs = [] ∧ v.n (bySub O.jobsFailed j.die) = satN (2 ^ 32 - 1) (s.n (bySub O.jobsFailed j.die) + 1)) := by
  have ha := abortJobAct_allowed (s := s.heard t who 0x2B44 3) (x := x) (by rwa [State.heard_classRec, State.heard_n])
  rw [State.heard_abortee, hn] at ha
  have hmem : j ∈ s.cipher.jobs := List.mem_of_find?_eq_some hn
  obtain ⟨⟨⟨-, hs⟩, -⟩, hr⟩ : ((j.cls = _ ∧ j.sess = none) ∧ j.index = _) ∧ j.run ≠ 3 := by
    simpa using List.find?_some hn
  have hj' : (s.heard t who 0x2B44 3).jobsHome := State.jobsHome_congr (congrArg _ (State.heard_cipher ..)) hj
  have he := State.endJob_engined (hj j hmem) jsABORTED [] (s.heard t who 0x2B44 3)
  have hg := he.trans (State.engine_engined (he.home hj') j.die)
  refine (h.acts (t := t) abortJobAct rfl ha ((hg.session _).trans (h.toTakes.heard_session ..))).imp fun v ⟨hans, hf⟩ => ⟨hans, fun h1 => ?_⟩
  have h1' : (s.heard t who 0x2B44 3).cipher.jobs = [j] := by rw [State.heard_cipher, h1]
  rw [State.endJob_last_engine h1' hs hr] at hf
  obtain ⟨hjobs, hcount, -⟩ := State.endJob_last h1' hs hr jsABORTED []
  refine ⟨(congrArg CipherSt.jobs (hf.rest .cipher (by decide))).trans hjobs, ?_⟩
  rw [hf.n_all, hcount, ← State.heard_n s t who 0x2B44 3]
  exact State.inc32_self ..

end Allowed

section Speward

variable (h : s.MayWriteDom who x 0x2B50 2 96 4192 b.length)
include h

theorem spewardJob_runs_homeless (hc : s.classHome (x.sel O.spewardJobClass) = none) :
    Runs (.spewardJob t who b) s fun v => v.answered who .deviceState ∧ v.cipher = s.cipher := by
  have ha : spewardJobAct who.sess b x (s.heard t who 0x2B50 2) = (.deviceState, s.heard t who 0x2B50 2) := by
    unfold spewardJobAct
    dsimp only
    rw [State.heard_classHome, hc]
  exact (h.runs_refused (t := t) (fun _ => true) (spewardJobAct who.sess b) rfl rfl ha).imp fun v ⟨hans, hf⟩ => ⟨hans, hf.rest .cipher (by decide)⟩

/-- A session's job is refused: one is under way, or the class or its engine does not serve it. -/
def State.jobBarred (s : State) (x : Session) (d : Nat) : Prop :=
  x.job.isSome = true ∨ clEnabled (s.classRec (x.sel O.spewardJobClass)) = false ∨ clOwner (s.classRec (x.sel O.spewardJobClass)) ≠ 3 ∨
    s.n (bySub O.lookAsideEnable d) ≠ 1

theorem spewardJob_runs_barred (hc : s.classHome (x.sel O.spewardJobClass) = some d) (hb : s.jobBarred x d) :
    Runs (.spewardJob t who b) s fun v => v.answered who .deviceState ∧ v.cipher = s.cipher := by
  have ha : spewardJobAct who.sess b x (s.heard t who 0x2B50 2) = (.deviceState, s.heard t who 0x2B50 2) := by
    unfold spewardJobAct
    dsimp only
    rw [State.heard_classHome, hc]
    dsimp only
    rw [State.heard_classRec, State.heard_n]
    unfold State.jobBarred at hb
    exact if_pos (by simpa using hb)
  exact (h.runs_refused (t := t) (fun _ => true) (spewardJobAct who.sess b) rfl rfl ha).imp fun v ⟨hans, hf⟩ => ⟨hans, hf.rest .cipher (by decide)⟩

/-- The session shows its job RUNNING. -/
def State.jobShown (s : State) (sess : Nat) (x : Session) : State :=
  s.updSession sess fun y => { y with job := some (x.sel O.spewardJobClass), jobResult := leBytes 1 jsRUNNING ++ fill 19 0 }

/-- The job of a session. -/
def State.sessionJob (s : State) (sess : Nat) (x : Session) (d : Nat) (b : Bytes) : Job :=
  { cls := x.sel O.spewardJobClass, index := sess, desc := b.take 96, data := b.drop 96, sess := some sess, die := d, since := (s.jobShown sess x).now,
    blocks := max 1 (ceilDiv (fld b 0x18 4) 16), run := 0, key := [], status := 0, output := [],
    secure := clSecure (s.classRec (x.sel O.spewardJobClass)), role := x.role }

theorem spewardJob_runs_taken (hj : s.jobsHome) (hc : s.classHome (x.sel O.spewardJobClass) = some d) (h8 : d < 8) (hb : ¬ s.jobBarred x d) :
    Runs (.spewardJob t who b) s fun v => v.answered who .ok ∧ Only s v [.cipher, .cairn, .access, .logs, .bridge, .power] engineKeys := by
  have ha : spewardJobAct who.sess b x (s.heard t who 0x2B50 2) = (.ok, ((s.heard t who 0x2B50 2).jobShown who.sess x).takeJob
      ((s.heard t who 0x2B50 2).sessionJob who.sess x d b)) := by
    unfold spewardJobAct
    dsimp only
    rw [State.heard_classHome, hc]
    dsimp only
    rw [State.heard_n]
    unfold State.jobBarred at hb
    rw [if_neg (by rw [State.heard_classRec]; simpa using hb)]
    rfl
  have hsh : Engined (s.heard t who 0x2B50 2) ((s.heard t who 0x2B50 2).jobShown who.sess x) := .updSession ..
  have hj' : (s.heard t who 0x2B50 2).jobsHome := State.jobsHome_congr (congrArg _ (State.heard_cipher ..)) hj
  have hg := hsh.trans (State.takeJob_engined (hsh.home hj') (j := (s.heard t who 0x2B50 2).sessionJob who.sess x d b) h8)
  exact (h.acts (t := t) (fun _ => true) (spewardJobAct who.sess b) rfl rfl ha ((hg.session _).trans (h.toTakes.heard_session ..))).imp
    fun v ⟨hans, hf⟩ => ⟨hans, (((only_heard ..).trans hg.only).trans hf).mono (by simp) (by simp)⟩

end Speward

end Jobs

end Sys2Proof.Machine

open Sys2Proof Sys2Proof.Machine

/-- Settles O35, by one equation per branch of each event and the frame of the look-aside engines. -/
theorem cipherEngines : Obligations.CipherEngines :=
  ⟨fun _ _ _ _ _ hc => ⟨mkpduReceive_runs_ignored hc, mkpduReceive_runs_stale hc, fun hk hi hm hq hown =>
      ⟨fun hd hu => mkpduReceive_runs_recorded hc hk hi hm hq hown hu hd,
        fun _ _ _ _ hd hh hp hu h1 h2 => mkpduReceive_runs_installed hc hk hi hm hq hown hu hd hh hp h1 h2⟩⟩,
    fun _ _ _ hk hm hown => mkaHelloTimer_runs hk hm hown,
    fun _ _ _ _ _ hf => ⟨mkaLifeTimeout_runs_early hf, mkaLifeTimeout_runs_silent hf, mkaLifeTimeout_runs_last hf⟩,
    fun _ _ _ _ _ _ ok hj hh h8 he ho hl hd => ⟨lookasideJobFetch_runs_free hh ok, lookasideJobFetch_runs_taken hj hh h8 he ho hl hd ok⟩,
    fun _ _ _ ok dest _ => ⟨lookasideJobDone_runs_idle ok dest, fun _ h hd hr hs hok hres => lookasideJobDone_runs_last h hd hr hs hok hres⟩,
    fun _ _ _ _ hj h => ⟨abortJob_runs_denied h, fun hc => ⟨abortJob_runs_gone h hc, fun _ hn => abortJob_runs_aborted h hc hj hn⟩⟩,
    fun _ _ _ _ _ hj h => ⟨spewardJob_runs_homeless h, fun _ hc => ⟨spewardJob_runs_barred h hc, fun h8 h1 h2 h3 h4 =>
      spewardJob_runs_taken h hj hc h8 (by
        unfold State.jobBarred
        simp [h1, h2, h3, h4])⟩⟩⟩
end

section
/-! Proofs about error correction (R354, R355) and the march engine (R358 to R363). -/
namespace Sys2Proof.Machine
open Sys2Proof

variable {s : State} {t d : Nat}

/-! ### A die that is lost (R20) -/

section DieFault

/-- Two packages with the same dies in service. -/
def State.sameDies (s u : State) : Prop := u.pkg.failed = s.pkg.failed ∧ u.pkg.healthy = s.pkg.healthy

theorem State.sameDies.trans {u w : State} (h : s.sameDies u) (g : u.sameDies w) : s.sameDies w := ⟨g.1.trans h.1, g.2.trans h.2⟩

theorem State.sameDies_of_pkg {u : State} (h : u.pkg = s.pkg) : s.sameDies u := by
  unfold State.sameDies
  rw [h]
  exact ⟨rfl, rfl⟩

theorem State.passRoles_sameDies (s : State) (d : Nat) : s.sameDies (s.passRoles d) := by
  have hlog : ∀ (w : State) (ev : Ev) (u : Nat) (l : List (Nat × Nat)), s.sameDies w → s.sameDies (w.logLead ev u l) := fun w ev u l h =>
    h.trans (State.sameDies_of_pkg ((only_logLead ..).rest .pkg (by decide)))
  unfold State.passRoles
  split
  · exact hlog _ _ _ _ ⟨rfl, rfl⟩
  · split
    · exact hlog _ _ _ _ ⟨rfl, rfl⟩
    · exact ⟨rfl, rfl⟩

theorem State.loseRoles_sameDies (s : State) (d : Nat) : s.sameDies (s.loseRoles d) := by
  unfold State.loseRoles
  dsimp only
  split
  · refine (s.passRoles_sameDies d).trans (State.sameDies.trans ?_ (State.sameDies_of_pkg ((only_logLead ..).rest .pkg (by decide))))
    exact ⟨rfl, rfl⟩
  · exact s.passRoles_sameDies d

/-- A step whose frame leaves the package out. -/
theorem State.sameDies_of_within {u : State} {P : List Part} (h : Within s u P) (hp : Part.pkg ∉ P) : s.sameDies u :=
  State.sameDies_of_pkg (h.rest .pkg (by decide) hp)

/-- The package with one die out of service. -/
def State.dieGone (s : State) (d : Nat) : State :=
  { s with pkg := { s.pkg with
    failed := s.pkg.failed ++ [d], healthy := setBit s.pkg.healthy d false,
    linkReports := del s.pkg.linkReports d, firstReport := del s.pkg.firstReport d,
    fatalWire := setBit s.pkg.fatalWire d false, thermalWire := setBit s.pkg.thermalWire d false,
    tamperWire := setBit s.pkg.tamperWire d false, wakeWire := setBit s.pkg.wakeWire d false } }

/-- A part of a step whose frame leaves the package out. -/
theorem State.sameDies.within {u w : State} {P : List Part} (h : Within u w P) (hp : Part.pkg ∉ P) (g : s.sameDies u) : s.sameDies w :=
  g.trans (State.sameDies_of_within h hp)

/-- The links of a lost die fail. -/
def State.linksLost (s : State) (d : Nat) : State :=
  (List.range 4).foldl (fun s p => if s.trained d p then s.setSaddle d p linkFAILED else s) s

theorem State.linksLost_sameDies (s : State) (d : Nat) : s.sameDies (s.linksLost d) :=
  List.foldlRecOn (motive := fun w : State => s.sameDies w) _ _ ⟨rfl, rfl⟩ fun w hw p _ => by
    split
    · exact .within (P := [.bridge]) (within_of_core (State.setSaddle_core (R := 4096) rfl w d p linkFAILED) rfl) (by decide) hw
    · exact hw

/-- What the host and the firewall held of a lost die goes. -/
def State.holdingsLost (s : State) (d : Nat) : State :=
  let s := { s with bridge := { s.bridge with intPending := del s.bridge.intPending d } }
  let s := if s.n O.hostEndpointDie = d then s.setN O.hostEndpointDie 0xFF else s
  { s with fw := { s.fw with conns := s.fw.conns.filter (fun c => c.home != d), moving := s.fw.moving.filter (fun e => e.2 != d) } }

theorem State.holdingsLost_sameDies (s : State) (d : Nat) : s.sameDies (s.holdingsLost d) := by
  unfold State.holdingsLost
  dsimp only
  split <;> exact ⟨rfl, rfl⟩

/-- The rest of a die fault: the roles, the tests and the PTP clocks are taken over, the fault is logged and its case is entered. -/
def State.faultTold (s : State) (d cause first : Nat) : State :=
  let s := ((s.loseRoles d).interruptTests (fun n => n / 8 == d)).refreshInstances
  let s := (s.logLead Ev.dieFault 0xFFFF [(1, d), (1, cause)]).dropTxns d
  (s.recordFault (caseDie d)).activate (caseDie d) first

theorem State.faultTold_sameDies (s : State) (d cause first : Nat) : s.sameDies (s.faultTold d cause first) := by
  unfold State.faultTold
  dsimp only
  refine .within (P := [.plan]) (within_of_core (State.activate_core (R := 256) rfl ..) rfl) (by decide) ?_
  refine .within (P := [.plan]) (within_of_core (State.recordFault_core (R := 256) rfl ..) rfl) (by decide) ?_
  refine .within (P := [.bridge]) (within_of_core (State.dropTxns_core (R := 4096) rfl ..) rfl) (by decide) ?_
  refine .within (P := [.logs]) (within_of_core (State.logLead_core (R := 32) rfl ..) rfl) (by decide) ?_
  refine .within (P := [.logs, .tick, .time]) (within_of_core (State.refreshInstances_core (R := 65696) rfl ..) rfl) (by decide) ?_
  refine .within (P := [.logs, .lanes]) (within_of_core (State.interruptTests_core (R := 544) rfl ..) rfl) (by decide) ?_
  exact State.loseRoles_sameDies ..

theorem State.dieFault_eq (h : s.dieUp d = true) (cause first : Nat) :
    s.dieFault d cause first = (((s.dieGone d).linksLost d).holdingsLost d).faultTold d cause first := by
  unfold State.dieFault
  rw [if_neg (by rw [h]; decide)]
  unfold State.faultTold State.holdingsLost State.linksLost State.dieGone
  with_reducible rfl

/-- A die fault leaves the die out of service, and the others as they were. -/
theorem State.dieFault_sameDies (h : s.dieUp d = true) (cause first : Nat) : (s.dieGone d).sameDies (s.dieFault d cause first) := by
  rw [State.dieFault_eq h]
  exact ((State.linksLost_sameDies _ d).trans (State.holdingsLost_sameDies _ d)).trans (State.faultTold_sameDies ..)

/-- A die that is up and reports a fatal condition goes down. -/
theorem fatalWire_fails (h : s.dieUp d = true) (cause : Nat) :
    d ∈ (fatalWire d cause s).pkg.failed ∧ bit (fatalWire d cause s).pkg.healthy d = false := by
  have hw := State.dieFault_sameDies (s := { s with pkg := { s.pkg with fatalWire := setBit s.pkg.fatalWire d true } }) h cause s.now
  have he : fatalWire d cause s = State.dieFault { s with pkg := { s.pkg with fatalWire := setBit s.pkg.fatalWire d true } } d cause s.now := if_pos h
  rw [he, hw.1, hw.2]
  exact ⟨List.mem_append_right _ (List.mem_singleton.mpr rfl), (bit_setBit ..).trans (if_pos rfl)⟩

end DieFault

/-! ### Corrected and uncorrectable words (R354, R355) -/

section Ecc

variable {q : State} {bank word r k o : Nat} {h : EccHit}

theorem patrolScrub_runs (hd : s.dieUp d = true) : Runs (.patrolScrub t d k) s fun v =>
    v.n (bySub O.eccCorrected d) = satN (2 ^ 32 - 1) (s.n (bySub O.eccCorrected d) + k) ∧ Only s v [] [bySub O.eccCorrected d] :=
  .intro (congrArg Host.Outcome.next (if_pos hd)) ⟨State.setN_self .., (only_addTo ..).begin⟩

/-- An uncorrectable word, counted and logged. -/
def State.eccNoted (s : State) (d : Nat) (h : EccHit) (bank word : Nat) : State :=
  (s.inc32 (bySub O.eccUncorrectable d)).logEv d ⟨0x010C, hitTier h⟩ 0xFFFF [(1, d), (1, hitMemory h), (2, bank), (4, word)]

theorem eccUncorrectable_handles (hd : s.dieUp d = true) (h : EccHit) (bank word : Nat) :
    eccUncorrectable d h bank word s = (s.eccNoted d h bank word).eccOutcome d h := if_pos hd

/-- A word that was counted and logged and is to be handled. -/
structure State.eccSeen (s q : State) (t d : Nat) : Prop where
  only : Only s q [.logs] [bySub O.eccUncorrectable d]
  counted : q.n (bySub O.eccUncorrectable d) = satN (2 ^ 32 - 1) (s.n (bySub O.eccUncorrectable d) + 1)
  now : q.now = s.localAt t

theorem State.logEv_now (s : State) (d : Nat) (ev : Ev) (unit : Nat) (data : List (Nat × Nat)) : (s.logEv d ev unit data).now = s.now := by
  have hc := State.logEv_core (R := 32) rfl s d ev unit data
  exact now_of_core hc rfl

theorem State.eccNoted_seen (s : State) (t d : Nat) (h : EccHit) (bank word : Nat) : s.eccSeen ((s.begin t).eccNoted d h bank word) t d :=
  ⟨(((only_inc32 ..).trans (only_logEv ..)).mono (by simp) (by simp)).begin, ((only_logEv ..).n_all _).trans (State.inc32_self ..), State.logEv_now ..⟩

/-- An entry that one of a list of drops names is gone. -/
theorem look_foldl_del {α : Type} (l : List Nat) (m : SMap α) {k : Nat} (hk : k ∈ l) : look (l.foldl del m) k = none := by
  have hdel : ∀ (m : SMap α) (a k : Nat), look m k = none → look (del m a) k = none := fun m a k h => by
    by_cases he : k = a
    · exact he ▸ look_del_self ..
    · exact (look_del_ne _ _ _ he).trans h
  induction l generalizing m with
  | nil => cases hk
  | cons a l ih =>
    rcases List.mem_cons.mp hk with rfl | hl
    · exact List.foldlRecOn (motive := fun m : SMap α => look m k = none) l del (look_del_self ..) fun m hm a _ => hdel m a k hm
    · exact ih (del m a) hl

namespace State.eccSeen

variable (hq : s.eccSeen q t d)
include hq

theorem frame {v : State} {P : List Part} {K : List Nat} (hv : Only q v P K) : Only s v (.logs :: P) (bySub O.eccUncorrectable d :: K) :=
  (hq.only.trans hv).mono (by simp) (by simp)

theorem mailboxOf (d' : Nat) : q.mailboxOf d' = s.mailboxOf d' := State.mailboxOf_congr (congrArg _ (hq.only.rest .bridge (by decide))) d'

theorem mailbox : let v := q.eccOutcome d (.mailbox o)
    v.mailboxOf d = ramWrite (s.mailboxOf d) (o / 8 * 8) (fill 8 0) ∧ (∀ d', d' ≠ d → v.mailboxOf d' = s.mailboxOf d') ∧
      Only s v [.logs, .bridge] [bySub O.eccUncorrectable d] := by
  refine ⟨?_, fun d' hne => ?_, hq.frame (only_setMailbox ..)⟩
  · exact (State.setMailbox_mailboxOf ..).trans ((if_pos rfl).trans (by rw [hq.mailboxOf]))
  · exact (State.setMailbox_mailboxOf ..).trans ((if_neg hne).trans (hq.mailboxOf d'))

/-- A table entry that is open until the plan reloads it. -/
theorem hole (item : Nat) : (q.openHole d item).mem = { s.mem with holes := ins s.mem.holes (2 ^ 26 * d + item) (s.localAt t) } ∧
    Only s (q.openHole d item) [.logs, .mem] [bySub O.eccUncorrectable d] := by
  have hm : q.mem = s.mem := hq.only.rest .mem (by decide)
  refine ⟨?_, hq.frame ((Only.same q [.mem] []).setMem _ (by simp))⟩
  unfold State.openHole
  dsimp only
  rw [hm, hq.now]

theorem frer : let v := q.eccOutcome d (.frer r k)
    look v.fwd.recovery (d * 8192 + k) = none ∧ v.mem = { s.mem with holes := ins s.mem.holes (2 ^ 26 * d + k) (s.localAt t) } ∧
      Only s v [.logs, .mem, .fwd] [bySub O.eccUncorrectable d] := by
  have hm : q.mem = s.mem := hq.only.rest .mem (by decide)
  refine ⟨look_foldl_del _ _ (by unfold State.recoveryKeys; exact List.mem_cons_self), ?_, ?_⟩
  · unfold State.eccOutcome State.openHole
    dsimp only
    rw [hm, hq.now]
  · have hf : ∀ x y, Only q { q with fwd := x, mem := y } [.mem, .fwd] [] := fun x y =>
      ((Only.same q [.mem, .fwd] []).setFwd x (by simp)).setMem y (by simp)
    exact hq.frame (hf _ _)

theorem meter : let v := q.eccOutcome d (.meter r o)
    look v.fwd.meters (meterKey d o) = none ∧ Only s v [.logs, .mem, .fwd] [bySub O.eccUncorrectable d] := by
  have hf : ∀ x, Only q { q with fwd := x } [.mem, .fwd] [] := fun x => (Only.same q [.mem, .fwd] []).setFwd x (by simp)
  have hm : ∀ x y, Only q { q with fwd := x, mem := y } [.mem, .fwd] [] := fun x y => (hf x).setMem y (by simp)
  unfold State.eccOutcome
  dsimp only
  split
  · exact ⟨look_del_self .., hq.frame (hm _ _)⟩
  · exact ⟨look_del_self .., hq.frame (hf _)⟩

theorem fdbOf (d' : Nat) : q.fdbOf d' = s.fdbOf d' := by
  unfold State.fdbOf
  rw [hq.only.rest .fwd (by decide)]

theorem fdb : let v := q.eccOutcome d (.fdb r k)
    ((look (s.fdbOf d) k).any (fun e => !e.static) = true → look (v.fdbOf d) k = none ∧ (∀ d', d' ≠ d → v.fdbOf d' = s.fdbOf d')) ∧
      ((look (s.fdbOf d) k).any (fun e => !e.static) = false → v.fwd = s.fwd) ∧
      Only s v [.logs, .fwd] [bySub O.eccUncorrectable d, O.fdbEntriesInUse, O.fdbStaticEntries] := by
  unfold State.eccOutcome
  dsimp only
  rw [hq.fdbOf]
  split
  next hl =>
    refine ⟨fun _ => ⟨?_, fun d' hne => ?_⟩, fun hn => absurd hl (by rw [hn]; decide), ?_⟩
    · rw [State.refreshFdb_fdbOf, State.delFdb_fdbOf]
      exact look_del_self ..
    · rw [State.refreshFdb_fdbOf, State.delFdb_fdbOf_ne _ _ hne]
      exact hq.fdbOf d'
    · exact hq.frame (((only_delFdb ..).trans (only_refreshFdb ..)).mono (by simp) (by simp))
  next hl => exact ⟨fun h => absurd h hl, fun _ => hq.only.rest .fwd (by decide), hq.only.mono (by simp) (by simp)⟩

theorem input (c : Nat) : let v := q.eccOutcome d (.audioInput c)
    v.input d c = (s.input d c).restart ∧ Only s v [.logs, .audio] [bySub O.eccUncorrectable d] := by
  have hi : q.input d c = s.input d c := by
    unfold State.input
    rw [hq.only.rest .audio (by decide)]
  exact ⟨(State.setInput_input ..).trans (by rw [hi]), hq.frame (only_setInput ..)⟩

theorem output : let v := q.eccOutcome d (.audioOutput o)
    v.audio.overOut = o :: s.audio.overOut ∧ Only s v [.logs, .audio] [bySub O.eccUncorrectable d] := by
  have ha : q.audio = s.audio := hq.only.rest .audio (by decide)
  refine ⟨?_, hq.frame ((Only.same q [.audio] []).setAudio _ (by simp))⟩
  unfold State.eccOutcome
  dsimp only
  rw [ha]

theorem management (hd : s.dieUp d = true) : let v := q.eccOutcome d .management
    d ∈ v.pkg.failed ∧ bit v.pkg.healthy d = false :=
  fatalWire_fails (s := q) ((State.dieUp_congr hq.only.variant (hq.only.rest .pkg (by decide)) d).trans hd) 0

end State.eccSeen

end Ecc

/-! ### The march engine (R358 to R363) -/

section March

variable {who : Who} {x : Session} {k code bank : Nat} {m : MarchRun} {rest : List (Nat × Nat)}

/-- A run is not to start: one runs, its die is down, or a destructive one's die is not in quarantine. -/
def State.marchBarred (s : State) : Prop :=
  s.n O.marchStatus = 1 ∨ s.mem.march.isSome = true ∨ s.dieUp (s.n O.marchDie) = false ∨
    (s.n O.marchMode ≠ 1 ∧ bit s.pkg.quarantine (s.n O.marchDie) = false)

/-- The run that the written objects select. -/
def State.marchRun (s : State) : MarchRun :=
  ⟨s.n O.marchDie, s.n O.marchMemory, s.n O.marchMode == 1,
    (bitsSet (s.n O.marchMemory) 11).flatMap (fun c => (List.range (banksOf c)).map (fun b => (c, b))), false, 0, false⟩

/-- The run under way, as the diagnosis holds it. -/
def State.withMarch (s : State) (m : Option MarchRun) : State := { s with mem := { s.mem with march := m } }

theorem only_withMarch (s : State) (m : Option MarchRun) : Only s (s.withMarch m) [.mem] [] := (Only.same s _ _).setMem _ (by simp)

/-- A run that has started. -/
def State.marchBegun (s : State) : State :=
  (((s.withMarch (some s.marchRun)).setN O.marchStatus maRUNNING).setN O.marchFailingRows 0).setN O.marchProgress 0

theorem only_marchBegun (s : State) : Only s s.marchBegun [.mem] [O.marchStatus, O.marchFailingRows, O.marchProgress] :=
  ((((only_withMarch ..).trans (only_setN ..)).trans (only_setN ..)).trans (only_setN ..)).mono (by simp) (by simp)

theorem State.marchBegun_n (s : State) : s.marchBegun.n O.marchStatus = 1 ∧ s.marchBegun.n O.marchFailingRows = 0 ∧
    s.marchBegun.n O.marchProgress = 0 := by
  unfold State.marchBegun
  refine ⟨?_, ?_, State.setN_self ..⟩
  · rw [State.setN_other _ _ _ _ (by decide) (by decide), State.setN_other _ _ _ _ (by decide) (by decide), State.setN_self]
  · rw [State.setN_other _ _ _ _ (by decide) (by decide), State.setN_self]

theorem State.heard_dieUp (s : State) (t : Nat) (who : Who) (idx sub d : Nat) : (s.heard t who idx sub).dieUp d = s.dieUp d :=
  State.dieUp_congr (State.heard_variant ..) (State.heard_pkg ..) d

theorem State.heard_marchBarred (s : State) (t : Nat) (who : Who) (idx sub : Nat) : (s.heard t who idx sub).marchBarred = s.marchBarred := by
  unfold State.marchBarred
  simp only [State.heard_n, State.heard_mem, State.heard_dieUp, State.heard_pkg]

theorem marchStart_barred (h : s.marchBarred) : marchStart x s = (.deviceState, s) := by
  unfold marchStart
  unfold State.marchBarred at h
  exact if_pos (by simpa using h)

theorem marchStart_starts (h : ¬ s.marchBarred) : marchStart x s = (.ok, s.marchBegun) := by
  unfold marchStart
  unfold State.marchBarred at h
  exact if_neg (by simpa using h)

theorem marchStart_runs_barred (h : s.MayWrite who x 0x2E58 4 1) (hb : s.marchBarred) : Runs (.marchStart t who) s fun v =>
    v.answered who .deviceState ∧ v.mem = s.mem ∧ Only s v [.access, .power, .bridge] [] :=
  (h.runs_refused (t := t) marchStart rfl (marchStart_barred (by rwa [State.heard_marchBarred]))).imp
    fun _ ⟨hans, hf⟩ => ⟨hans, hf.rest .mem (by decide), hf.mono (by simp) (by simp)⟩

theorem marchStart_runs_begun (h : s.MayWrite who x 0x2E58 4 1) (hb : ¬ s.marchBarred) : Runs (.marchStart t who) s fun v =>
    v.answered who .ok ∧ v.n O.marchStatus = 1 ∧ v.n O.marchFailingRows = 0 ∧ v.n O.marchProgress = 0 ∧ v.mem.march = some s.marchRun ∧
      Only s v [.access, .power, .bridge, .mem] [O.marchStatus, O.marchFailingRows, O.marchProgress] := by
  have hrun : (s.heard t who 0x2E58 4).marchRun = s.marchRun := by
    unfold State.marchRun
    simp only [State.heard_n]
  obtain ⟨h1, h2, h3⟩ := (s.heard t who 0x2E58 4).marchBegun_n
  refine (h.runs (t := t) marchStart rfl (marchStart_starts (by rwa [State.heard_marchBarred])) (only_marchBegun _) (by simp)).imp
    fun v ⟨hans, hv, hf⟩ => ⟨hans, (hv.n_all O.marchStatus).trans h1, (hv.n_all O.marchFailingRows).trans h2, (hv.n_all O.marchProgress).trans h3, ?_,
      hf.mono (by simp) (by simp)⟩
  rw [show v.mem = _ from hv.rest .mem (by decide), ← hrun]
  rfl

/-! #### The abort (R361) -/

theorem marchAbort_idle (h : s.mem.march = none ∨ s.n O.marchStatus ≠ 1) : marchAbort x s = (.alreadyDone, s) := by
  unfold marchAbort
  split
  · rfl
  next m hm => exact if_pos (h.resolve_left (by rw [hm]; nofun))

theorem marchAbort_bank (hm : s.mem.march = some m) (hs : s.n O.marchStatus = 1) (hp : m.preserving = true) (hl : m.left ≠ []) :
    marchAbort x s = (.ok, (s.setN O.marchStatus maABORTED).withMarch (some { m with aborted := true })) := by
  unfold marchAbort
  rw [hm]
  exact (if_neg (not_not.mpr hs)).trans (if_pos ⟨hp, hl⟩)

/-- The memories of a destructive run, cleared. -/
def State.marchCleared (s : State) (m : MarchRun) : State := (bitsSet m.memory 11).foldl (fun (s : State) c => s.clearMemory m.die c) s

theorem State.raiseBanks_none (s : State) (d : Nat) : s.raiseBanks d 0 = s := rfl

theorem marchAbort_stops (hm : s.mem.march = some m) (hs : s.n O.marchStatus = 1) (h : ¬(m.preserving = true ∧ m.left ≠ [])) (hf : m.failed = 0) :
    marchAbort x s = (.ok, if m.preserving then (s.setN O.marchStatus maABORTED).withMarch none
      else ((s.setN O.marchStatus maABORTED).withMarch none).marchCleared m) := by
  unfold marchAbort
  rw [hm]
  refine (if_neg (not_not.mpr hs)).trans ((if_neg h).trans ?_)
  dsimp only
  rw [hf]
  rfl

theorem State.wipeSecure_march (h : s.mem.march = none) (d : Nat) : (s.wipeSecure d).mem.march = none := by
  unfold State.wipeSecure
  dsimp only
  rw [h]
  exact h

theorem State.clearMemory_march (h : s.mem.march = none) (d c : Nat) : (s.clearMemory d c).mem.march = none := by
  by_cases h3 : c = 3
  · subst h3
    exact State.wipeSecure_march h d
  · have hm : (s.clearMemory d c).mem = s.mem := by
      unfold State.clearMemory
      rw [if_neg h3]
      split
      · exact List.foldlRecOn (motive := fun w : State => w.mem = s.mem) _ _ rfl fun w hw n _ =>
          ((within_of_core (State.drainLane_core (R := 1536) rfl w n) rfl : Within w _ [.lanes, .fwd]).rest .mem (by decide) (by decide)).trans hw
      · repeat' split
        all_goals rfl
    rw [hm, h]

theorem State.clearMemory_access (s : State) (d c : Nat) : (s.clearMemory d c).access = s.access :=
  access_of_core (State.clearMemory_core (R := 196096) rfl s d c) rfl

theorem State.marchCleared_spec (h : s.mem.march = none) (m : MarchRun) : (s.marchCleared m).mem.march = none ∧ (s.marchCleared m).access = s.access :=
  List.foldlRecOn (motive := fun w : State => w.mem.march = none ∧ w.access = s.access) _ _ ⟨h, rfl⟩ fun _ ⟨hm, ha⟩ _ _ =>
    ⟨State.clearMemory_march hm .., (State.clearMemory_access ..).trans ha⟩

section Abort

variable (h : s.MayWrite who x 0x2E58 4 2)
include h

theorem marchAbort_runs_idle (hi : s.mem.march = none ∨ s.n O.marchStatus ≠ 1) : Runs (.marchAbort t who) s fun v =>
    v.answered who .alreadyDone ∧ v.mem = s.mem ∧ Only s v [.access, .power, .bridge] [] :=
  (h.runs_refused (t := t) marchAbort rfl (marchAbort_idle (by rwa [State.heard_n, State.heard_mem]))).imp
    fun _ ⟨hans, hf⟩ => ⟨hans, hf.rest .mem (by decide), hf.mono (by simp) (by simp)⟩

/-- A run that the abort ends with its record in one way. -/
theorem marchAbort_runs_marked {r : Option MarchRun} (ha : marchAbort x (s.heard t who 0x2E58 4) =
    (.ok, ((s.heard t who 0x2E58 4).setN O.marchStatus maABORTED).withMarch r)) : Runs (.marchAbort t who) s fun v =>
      v.answered who .ok ∧ v.n O.marchStatus = 5 ∧ v.mem.march = r ∧ Only s v [.access, .power, .bridge, .mem] [O.marchStatus] := by
  have hf : Only (s.heard t who 0x2E58 4) (((s.heard t who 0x2E58 4).setN O.marchStatus maABORTED).withMarch r) [.mem] [O.marchStatus] :=
    ((only_setN ..).trans (only_withMarch ..)).mono (by simp) (by simp)
  refine (h.runs (t := t) marchAbort rfl ha hf (by simp)).imp fun v ⟨hans, hv, hf⟩ =>
    ⟨hans, (hv.n_all O.marchStatus).trans (State.setN_self ..), ?_, hf.mono (by simp) (by simp)⟩
  rw [show v.mem = _ from hv.rest .mem (by decide)]
  rfl

variable (hm : s.mem.march = some m) (hs : s.n O.marchStatus = 1)
include hm hs

theorem marchAbort_runs_bank (hp : m.preserving = true) (hl : m.left ≠ []) : Runs (.marchAbort t who) s fun v =>
    v.answered who .ok ∧ v.n O.marchStatus = 5 ∧ v.mem.march = some { m with aborted := true } ∧
      Only s v [.access, .power, .bridge, .mem] [O.marchStatus] :=
  marchAbort_runs_marked h (marchAbort_bank (by rwa [State.heard_mem]) (by rwa [State.heard_n]) hp hl)

theorem marchAbort_runs_over (hp : m.preserving = true) (hl : m.left = []) (hf : m.failed = 0) : Runs (.marchAbort t who) s fun v =>
    v.answered who .ok ∧ v.n O.marchStatus = 5 ∧ v.mem.march = none ∧ Only s v [.access, .power, .bridge, .mem] [O.marchStatus] := by
  have ha := marchAbort_stops (s := s.heard t who 0x2E58 4) (x := x) (by rwa [State.heard_mem]) (by rwa [State.heard_n])
    (fun hn => hn.2 hl) hf
  rw [if_pos hp] at ha
  exact marchAbort_runs_marked h ha

theorem marchAbort_runs_destructive (hp : m.preserving = false) (hf : m.failed = 0) : Runs (.marchAbort t who) s fun v =>
    v.answered who .ok ∧ v.mem.march = none := by
  have ha := marchAbort_stops (s := s.heard t who 0x2E58 4) (x := x) (by rwa [State.heard_mem]) (by rwa [State.heard_n])
    (fun hn => absurd hn.1 (by rw [hp]; decide)) hf
  rw [if_neg (by rw [hp]; decide)] at ha
  obtain ⟨hmem, hacc⟩ := State.marchCleared_spec (s := ((s.heard t who 0x2E58 4).setN O.marchStatus maABORTED).withMarch none) rfl m
  exact (h.runs_answered (t := t) marchAbort rfl ha hacc).imp fun v ⟨hans, hv⟩ =>
    ⟨hans, (congrArg MemorySt.march (hv.rest .mem (by decide))).trans hmem⟩

end Abort

/-! #### A bank and the end of the run (R360 to R363) -/

/-- A run whose die and regions are in service goes on. -/
theorem State.marchFault_none (hm : s.mem.march = some m) (hd : s.dieUp m.die = true)
    (hr : ∀ c, (bankRegion c).all (fun r => s.regionUp (2 * m.die + r)) = true) : s.marchFault = s := by
  have hc : ∀ c, (bankRegion c).any (fun r => !s.regionUp (2 * m.die + r)) = false := fun c => by
    have := hr c
    cases hb : bankRegion c with
    | none => rfl
    | some r => simpa [hb] using this
  unfold State.marchFault
  rw [hm]
  refine if_neg ?_
  simp [hd, hc]

/-- The rows that failed take spares of the bank, and a ninth fails it. -/
def State.bankFails (s : State) (d code bank k : Nat) : Bool := decide (8 < get 0 s.mem.spares (spareKey d code bank) + k)

theorem only_repairBank (s : State) (d code bank k : Nat) :
    Only s (s.repairBank d code bank k) [.mem] [bySub O.spareRowsInUse d, bySub O.failedBanks d] := by
  have h : ∀ (x : MemorySt) (n : Nat), Only s (State.addTo { s with mem := x } (bySub O.spareRowsInUse d) n 65535) [.mem]
      [bySub O.spareRowsInUse d, bySub O.failedBanks d] := fun x n =>
    (((Only.same s [.mem] []).setMem x (by simp)).trans (only_addTo ..)).mono (by simp) (by simp)
  unfold State.repairBank
  dsimp only
  exact .ite (.and (only_setFlag ..) (h _ _) (by simp) (by simp)) (h _ _)

theorem State.repairBank_mem (s : State) (d code bank k : Nat) : (s.repairBank d code bank k).mem = { s.mem with
    spares := put 0 s.mem.spares (spareKey d code bank) (min 8 (get 0 s.mem.spares (spareKey d code bank) + k)) } := by
  unfold State.repairBank
  dsimp only
  split <;> rfl

theorem State.repairBank_flag (h : 8 < get 0 s.mem.spares (spareKey d code bank) + k) :
    (s.repairBank d code bank k).flag (bySub O.failedBanks d) code = true := by
  unfold State.repairBank
  dsimp only
  rw [if_pos h, State.setFlag_flag, if_pos rfl]

/-- The record of a run after a bank. -/
def MarchRun.after (m : MarchRun) (rest : List (Nat × Nat)) (code k : Nat) (bad : Bool) : MarchRun :=
  { m with
    left := rest
    repaired := m.repaired || (decide (0 < k) && !bad)
    failed := if bad then setBit m.failed code true else m.failed }

/-- A bank of a run, done. -/
def State.bankDone (s : State) (m : MarchRun) (rest : List (Nat × Nat)) (code bank k : Nat) : State :=
  (((s.repairBank m.die code bank k).addTo O.marchFailingRows k 65535).addTo O.marchProgress 1 65535).withMarch
    (some (m.after rest code k (s.bankFails m.die code bank k)))

theorem marchBankDone_next (hm : s.mem.march = some m) (hd : s.dieUp m.die = true)
    (hr : ∀ c, (bankRegion c).all (fun r => s.regionUp (2 * m.die + r)) = true) (hl : m.left = (code, bank) :: rest) (hp : m.preserving = true)
    (ha : m.aborted = false) : marchBankDone k s = s.bankDone m rest code bank k := by
  unfold marchBankDone
  dsimp only
  rw [State.marchFault_none hm hd hr, hm]
  dsimp only
  rw [hl]
  dsimp only
  rw [if_pos hp, if_neg (by rw [ha]; decide)]
  rfl

/-- The objects of a bank's spares and failures are none of the run's counts. -/
theorem bankKey_ne (h : d < 8) : O.marchFailingRows ∉ [bySub O.spareRowsInUse d, bySub O.failedBanks d] ∧
    O.marchProgress ∉ [bySub O.spareRowsInUse d, bySub O.failedBanks d] ∧ O.nodeID ∉ [bySub O.spareRowsInUse d, bySub O.failedBanks d] := by
  have hall : ∀ d < 8, O.marchFailingRows ∉ [bySub O.spareRowsInUse d, bySub O.failedBanks d] ∧
      O.marchProgress ∉ [bySub O.spareRowsInUse d, bySub O.failedBanks d] ∧ O.nodeID ∉ [bySub O.spareRowsInUse d, bySub O.failedBanks d] := by
    decide
  exact hall d h

theorem only_bankDone (s : State) (m : MarchRun) (rest : List (Nat × Nat)) (code bank k : Nat) : Only s (s.bankDone m rest code bank k) [.mem]
    [bySub O.spareRowsInUse m.die, bySub O.failedBanks m.die, O.marchFailingRows, O.marchProgress] :=
  ((((only_repairBank ..).trans (only_addTo ..)).trans (only_addTo ..)).trans (only_withMarch ..)).mono (by simp) (by simp)

theorem State.addTo_n (s : State) (k n hi : Nat) : (s.addTo k n hi).n k = satN hi (s.n k + n) := State.setN_self ..

theorem State.bankDone_counts (h : m.die < 8) (s : State) (rest : List (Nat × Nat)) (code bank k : Nat) :
    (s.bankDone m rest code bank k).n O.marchProgress = satN 65535 (s.n O.marchProgress + 1) ∧
      (s.bankDone m rest code bank k).n O.marchFailingRows = satN 65535 (s.n O.marchFailingRows + k) := by
  obtain ⟨h1, h2, h3⟩ := bankKey_ne h
  have hw := only_repairBank s m.die code bank k
  unfold State.bankDone
  rw [(only_withMarch ..).n_all, (only_withMarch ..).n_all]
  generalize s.repairBank m.die code bank k = w at hw ⊢
  constructor
  · rw [State.addTo_n, (only_addTo ..).n_eq (by decide) (by decide), hw.n_eq h2 h3]
  · rw [(only_addTo ..).n_eq (by decide) (by decide), State.addTo_n, hw.n_eq h1 h3]

theorem State.bankDone_flag (h : m.die < 8) (hk : 8 < get 0 s.mem.spares (spareKey m.die code bank) + k) :
    (s.bankDone m rest code bank k).flag (bySub O.failedBanks m.die) code = true := by
  obtain ⟨h1, h2, -⟩ := bankKey_ne h
  have hn : (s.bankDone m rest code bank k).n (bySub O.failedBanks m.die) = (s.repairBank m.die code bank k).n (bySub O.failedBanks m.die) := by
    unfold State.bankDone
    rw [(only_withMarch ..).n_all, (only_addTo ..).n_eq _ (by decide), (only_addTo ..).n_eq _ (by decide)]
    · rw [List.mem_singleton]
      rintro e
      exact h1 (by simp [← e])
    · rw [List.mem_singleton]
      rintro e
      exact h2 (by simp [← e])
  exact (congrArg (bit · code) hn).trans (State.repairBank_flag hk)

theorem State.bankDone_mem (s : State) (m : MarchRun) (rest : List (Nat × Nat)) (code bank k : Nat) : (s.bankDone m rest code bank k).mem = { s.mem with
    spares := put 0 s.mem.spares (spareKey m.die code bank) (min 8 (get 0 s.mem.spares (spareKey m.die code bank) + k))
    march := some (m.after rest code k (s.bankFails m.die code bank k)) } := by
  have h : (s.bankDone m rest code bank k).mem =
      { (s.repairBank m.die code bank k).mem with march := some (m.after rest code k (s.bankFails m.die code bank k)) } := rfl
  rw [h, State.repairBank_mem]

theorem marchBankDone_runs (hm : s.mem.march = some m) (h8 : m.die < 8) (hd : s.dieUp m.die = true)
    (hr : ∀ c, (bankRegion c).all (fun r => s.regionUp (2 * m.die + r)) = true) (hl : m.left = (code, bank) :: rest) (hp : m.preserving = true)
    (ha : m.aborted = false) : Runs (.marchBankDone t k) s fun v =>
      get 0 v.mem.spares (spareKey m.die code bank) = min 8 (get 0 s.mem.spares (spareKey m.die code bank) + k) ∧
      v.n O.marchProgress = satN 65535 (s.n O.marchProgress + 1) ∧ v.n O.marchFailingRows = satN 65535 (s.n O.marchFailingRows + k) ∧
      (8 < get 0 s.mem.spares (spareKey m.die code bank) + k → v.flag (bySub O.failedBanks m.die) code = true) ∧
      v.mem.march = some (m.after rest code k (s.bankFails m.die code bank k)) ∧
      Only s v [.mem] [bySub O.spareRowsInUse m.die, bySub O.failedBanks m.die, O.marchFailingRows, O.marchProgress] := by
  have hmem := (s.begin t).bankDone_mem m rest code bank k
  obtain ⟨hprog, hrows⟩ := State.bankDone_counts h8 (s.begin t) rest code bank k
  refine .intro (congrArg Host.Outcome.next (marchBankDone_next (s := s.begin t) hm hd hr hl hp ha))
    ⟨?_, hprog, hrows, fun hk => State.bankDone_flag (s := s.begin t) h8 hk, ?_, (only_bankDone ..).begin⟩
  · rw [hmem]
    exact get_put_self ..
  · rw [hmem]
    rfl

/-- The result of a run whose banks are done. -/
def State.marchOver (s : State) (m : MarchRun) : State :=
  (s.withMarch none).setN O.marchStatus (if m.failed ≠ 0 then maFAILED else if m.repaired then maREPAIRED else maPASSED)

theorem only_marchOver (s : State) (m : MarchRun) : Only s (s.marchOver m) [.mem] [O.marchStatus] :=
  ((only_withMarch ..).trans (only_setN ..)).mono (by simp) (by simp)

theorem marchDone_ends (hm : s.mem.march = some m) (hd : s.dieUp m.die = true)
    (hr : ∀ c, (bankRegion c).all (fun r => s.regionUp (2 * m.die + r)) = true) (hl : m.left = []) (ha : m.aborted = false) :
    marchDone s = (s.marchOver m).raiseBanks m.die m.failed := by
  unfold marchDone
  dsimp only
  rw [State.marchFault_none hm hd hr, hm]
  exact if_neg (by simp [hl, ha])

section Done

variable (hm : s.mem.march = some m) (hd : s.dieUp m.die = true) (hr : ∀ c, (bankRegion c).all (fun r => s.regionUp (2 * m.die + r)) = true)
    (hl : m.left = []) (ha : m.aborted = false)
include hm hd hr hl ha

theorem marchDone_runs_good (hf : m.failed = 0) : Runs (.marchDone t) s fun v =>
    v.mem.march = none ∧ v.n O.marchStatus = (if m.repaired then 3 else 2) ∧ Only s v [.mem] [O.marchStatus] := by
  have he := marchDone_ends (s := s.begin t) hm hd hr hl ha
  rw [hf, State.raiseBanks_none] at he
  refine .intro (congrArg Host.Outcome.next he) ⟨rfl, (State.setN_self ..).trans (if_neg (by rw [hf]; decide)), (only_marchOver ..).begin⟩

theorem marchDone_runs_failed (hf : m.failed ≠ 0) : ∃ q : State, q.mem.march = none ∧ q.n O.marchStatus = 4 ∧ Only s q [.mem] [O.marchStatus] ∧
    Runs (.marchDone t) s (· = q.raiseBanks m.die m.failed) :=
  ⟨(s.begin t).marchOver m, rfl, (State.setN_self ..).trans (if_pos hf), (only_marchOver ..).begin,
    .intro (congrArg Host.Outcome.next (marchDone_ends (s := s.begin t) hm hd hr hl ha)) rfl⟩

end Done

end March

end Sys2Proof.Machine

open Sys2Proof Sys2Proof.Machine

/-- Settles O36, by the memory that holds an uncorrectable word and by the stages of a march. -/
theorem memories : Obligations.Memories :=
  ⟨fun _ _ _ _ hd => patrolScrub_runs hd,
    fun s t d bank word h hd =>
      have hq := s.eccNoted_seen t d h bank word
      have hrun : Runs (.eccUncorrectable t d h bank word) s (· = State.eccOutcome _ d h) :=
        .intro (congrArg Host.Outcome.next (eccUncorrectable_handles (s := s.begin t) hd h bank word)) rfl
      ⟨(s.begin t).eccNoted d h bank word, hq.only, hq.counted, hrun,
        fun _ he => hrun.imp fun _ hv => by rw [hv, he]; rfl,
        fun _ he => hrun.imp fun _ hv => by subst hv he; exact hq.mailbox,
        fun _ _ he => hrun.imp fun _ hv => by subst hv he; exact hq.hole _,
        fun _ _ _ he => hrun.imp fun _ hv => by subst hv he; exact hq.hole _,
        fun _ _ he => hrun.imp fun _ hv => by subst hv he; exact hq.frer,
        fun _ _ he => hrun.imp fun _ hv => by subst hv he; exact hq.meter,
        fun _ _ he => hrun.imp fun _ hv => by subst hv he; exact hq.fdb,
        fun _ he => hrun.imp fun _ hv => by subst hv he; exact hq.input _,
        fun _ he => hrun.imp fun _ hv => by subst hv he; exact hq.output,
        fun he => hrun.imp fun _ hv => by subst hv he; exact hq.management hd⟩,
    fun _ _ _ _ h => ⟨marchStart_runs_barred h, fun h1 h2 h3 h4 => marchStart_runs_begun h (by
      unfold State.marchBarred
      rcases h4 with h4 | h4 <;> simp [h1, h2, h3, h4])⟩,
    fun _ _ _ _ h => ⟨marchAbort_runs_idle h, fun _ hm hs => ⟨marchAbort_runs_bank h hm hs, marchAbort_runs_over h hm hs,
      marchAbort_runs_destructive h hm hs⟩⟩,
    fun _ _ _ _ _ _ _ hm h8 hd hr hl hp ha => marchBankDone_runs hm h8 hd hr hl hp ha,
    fun _ _ _ hm hd hr hl ha => ⟨marchDone_runs_good hm hd hr hl ha, marchDone_runs_failed hm hd hr hl ha⟩⟩
end

section
/-! Proofs about the update lock, downloads and activations (R424, R429 to R436). -/
namespace Sys2Proof.Machine
open Sys2Proof

variable {s : State} {t d : Nat}

/-! ### Boot records and images (R422 to R424) -/

section Records

theorem State.setBoot_bootRec (s : State) (d e : Nat) (r : BootRec) :
    (s.setBoot d r).bootRec e = if e = d then { r with gen := (s.bootRec d).gen + 1 } else s.bootRec e := by
  unfold State.setBoot State.bootRec get
  dsimp only
  rw [look_ins]
  split <;> rfl

theorem State.setBoot_image (s : State) (d e i : Nat) (r : BootRec) : (s.setBoot d r).image e i = s.image e i := rfl

theorem only_setBoot (s : State) (d : Nat) (r : BootRec) : Only s (s.setBoot d r) [.update] [] := (Only.same s _ _).setUpdate _ (by simp)

theorem State.updBoot_bootRec (s : State) (d e : Nat) (f : BootRec → BootRec) :
    (s.updBoot d f).bootRec e = if e = d then { f (s.bootRec e) with gen := (s.bootRec e).gen + 1 } else s.bootRec e := by
  unfold State.updBoot
  rw [State.setBoot_bootRec]
  split
  · subst e
    rfl
  · rfl

/-- A rewrite of boot records leaves all else. -/
theorem State.allBoot_rest (s : State) (f : BootRec → BootRec) :
    ∃ b, s.allBoot f = { s with update := { s.update with boot := b } } := by
  unfold State.allBoot
  refine List.foldlRecOn (motive := fun u : State => ∃ b, u = { s with update := { s.update with boot := b } }) _ _ ⟨_, rfl⟩ ?_
  rintro u ⟨b, rfl⟩ d -
  exact ⟨_, rfl⟩

theorem only_allBoot (s : State) (f : BootRec → BootRec) : Only s (s.allBoot f) [.update] [] := by
  obtain ⟨b, hb⟩ := s.allBoot_rest f
  rw [hb]
  exact (Only.same s _ _).setUpdate _ (by simp)

theorem State.foldl_updBoot_other (f : BootRec → BootRec) (l : List Nat) (s : State) (h : d ∉ l) :
    (l.foldl (fun (s : State) d => s.updBoot d f) s).bootRec d = s.bootRec d :=
  List.foldlRecOn (motive := fun u : State => u.bootRec d = s.bootRec d) l _ rfl fun u hu a ha => by
    have hne : d ≠ a := fun e => h (e ▸ ha)
    rw [State.updBoot_bootRec, if_neg hne]
    exact hu

theorem State.foldl_updBoot (f : BootRec → BootRec) (l : List Nat) (hl : l.Nodup) (s : State) (h : d ∈ l) :
    (l.foldl (fun (s : State) d => s.updBoot d f) s).bootRec d = { f (s.bootRec d) with gen := (s.bootRec d).gen + 1 } := by
  induction l generalizing s with
  | nil => cases h
  | cons a l ih =>
    obtain ⟨ha, hl⟩ := List.nodup_cons.mp hl
    rcases List.mem_cons.mp h with rfl | h
    · exact (State.foldl_updBoot_other f l _ ha).trans ((State.updBoot_bootRec ..).trans (if_pos rfl))
    · have hne : d ≠ a := fun e => ha (e ▸ h)
      have hb : (s.updBoot a f).bootRec d = s.bootRec d := (State.updBoot_bootRec ..).trans (if_neg hne)
      exact (ih hl _ h).trans (by rw [hb])

theorem State.upDies_nodup (s : State) : s.upDies.Nodup := List.nodup_range.filter _

/-- The record of a healthy die after all are rewritten. -/
theorem State.allBoot_bootRec (f : BootRec → BootRec) (h : d ∈ s.upDies) :
    (s.allBoot f).bootRec d = { f (s.bootRec d) with gen := (s.bootRec d).gen + 1 } :=
  State.foldl_updBoot f _ s.upDies_nodup s h

/-- What a rewrite keeps of every record. -/
theorem State.allBoot_keeps {α : Type} (g : BootRec → α) {f : BootRec → BootRec} (hg : ∀ r n, g { f r with gen := n } = g r) (s : State) (d : Nat) :
    g ((s.allBoot f).bootRec d) = g (s.bootRec d) := by
  by_cases h : d ∈ s.upDies
  · rw [State.allBoot_bootRec f h, hg]
  · exact congrArg g (State.foldl_updBoot_other f _ s h)

theorem BootRec.setSlot_slot (r : BootRec) (i v : Nat) : (r.setSlot i v).slot i = v := by
  unfold BootRec.setSlot BootRec.slot
  split <;> rfl

/-- An image written to a slot of every healthy die. -/
def State.imagesSet (s : State) (i : Nat) (b : Bytes) : State := s.upDies.foldl (fun (s : State) d => s.setImage d i b) s

theorem State.imagesSet_rest (s : State) (i : Nat) (b : Bytes) :
    ∃ m, s.imagesSet i b = { s with update := { s.update with images := m } } := by
  unfold State.imagesSet
  refine List.foldlRecOn (motive := fun u : State => ∃ m, u = { s with update := { s.update with images := m } }) _ _ ⟨_, rfl⟩ ?_
  rintro u ⟨m, rfl⟩ d -
  exact ⟨_, rfl⟩

theorem State.setImage_image (s : State) (d e i : Nat) (b : Bytes) : (s.setImage d i b).image e i = if e = d then b else s.image e i := by
  unfold State.setImage State.image
  split
  · subst e
    exact get_put_self ..
  · exact get_put_ne _ _ _ _ _ (by omega)

theorem State.imagesSet_image (i : Nat) (b : Bytes) (h : d ∈ s.upDies) : (s.imagesSet i b).image d i = b :=
  foldl_each (Q := fun w d => w.image d i = b) (fun w d => by rw [State.setImage_image, if_pos rfl])
    (fun w a d hw => by rw [State.setImage_image, hw, ite_self]) s.upDies s d h

/-- What a slot shows. -/
def State.imageShown (s : State) (d : Nat) (r : BootRec) (i : Nat) : State :=
  let b := s.image d i
  let full := decide (imUNVERIFIED ≤ r.slot i)
  let s := s.setN (byIdx O.imageSlotState i) (r.slot i)
  let s := s.setN (byIdx O.slotImageVersion i) (if full then fld b 8 4 else 0)
  let s := s.setN (byIdx O.slotSecurityVersion i) (if full then fld b 0x0C 4 else 0)
  let s := s.setBlob (byIdx O.slotImageHash i) (if full then imageHash b else fill 48 0)
  s.setN (byIdx O.slotPlannerFormat i) (if full then fld b 6 2 else 0)

theorem only_imageShown (s : State) (d : Nat) (r : BootRec) {i : Nat} (hi : i ∈ [0, 1]) : Only s (s.imageShown d r i) [.blobs] imageKeys := by
  have h : Only s (s.imageShown d r i) [.blobs] [byIdx O.imageSlotState i, byIdx O.slotImageVersion i, byIdx O.slotSecurityVersion i, byIdx O.slotPlannerFormat i] :=
    (((((only_setN ..).trans (only_setN ..)).trans (only_setN ..)).trans (only_setBlob ..)).trans (only_setN ..)).mono (by simp) (by simp)
  refine h.mono (by simp) ?_
  rcases List.mem_pair.mp hi with rfl | rfl <;> simp [imageKeys]

theorem only_refreshImages (s : State) : Only s s.refreshImages [.blobs] imageKeys := by
  have h : Only s ([0, 1].foldl (fun (w : State) i => w.imageShown s.pkg.lead (s.bootRec s.pkg.lead) i) s) [.blobs] imageKeys :=
    Only.foldl _ _ (.same ..) fun w i hi hw => .and (only_imageShown w _ _ hi) hw (by simp) (by simp)
  have hn : ∀ {u : State} (k v : Nat), Only s u [.blobs] imageKeys → k ∈ imageKeys → Only s (u.setN k v) [.blobs] imageKeys :=
    fun k v hu hk => .and (only_setN ..) hu (by simp) (by simpa using hk)
  unfold State.refreshImages
  exact hn _ _ (hn _ _ (hn _ _ (hn _ _ (hn _ _ h (by simp [imageKeys])) (by simp [imageKeys])) (by simp [imageKeys])) (by simp [imageKeys]))
    (by simp [imageKeys])

theorem State.upDies_congr {u : State} (hv : u.variant = s.variant) (hp : u.pkg = s.pkg) : u.upDies = s.upDies := by
  unfold State.upDies State.dies
  rw [hv]
  exact List.filter_congr fun d _ => State.dieUp_congr hv hp d

/-- The spare slot of every healthy die with one state, and nothing else of the update unit. -/
structure State.spareMarked (s u : State) (v : Nat) : Prop where
  only : Only s u [.update, .blobs] imageKeys
  slots : u.slotsAre s s.spareSlot v
  update : ∃ b, u.update = { s.update with boot := b }
  confirmed : ∀ d, (u.bootRec d).confirmed = (s.bootRec d).confirmed
  counter : ∀ d, (u.bootRec d).counter = (s.bootRec d).counter

theorem State.refreshImages_bootRec (s : State) (d : Nat) : s.refreshImages.bootRec d = s.bootRec d := by
  unfold State.bootRec
  rw [(only_refreshImages s).rest .update (by decide)]

theorem BootRec.setSlot_confirmed (r : BootRec) (i v n : Nat) : ({ r.setSlot i v with gen := n } : BootRec).confirmed = r.confirmed := by
  unfold BootRec.setSlot
  split <;> rfl

theorem BootRec.setSlot_counter (r : BootRec) (i v n : Nat) : ({ r.setSlot i v with gen := n } : BootRec).counter = r.counter := by
  unfold BootRec.setSlot
  split <;> rfl

theorem State.setSpare_marked (s : State) (v : Nat) : s.spareMarked (s.setSpare v) v := by
  have hb : ∀ d, (s.setSpare v).bootRec d = (s.allBoot fun r => r.setSlot s.spareSlot v).bootRec d := fun d => State.refreshImages_bootRec ..
  have hu : (s.setSpare v).update = (s.allBoot fun r => r.setSlot s.spareSlot v).update := (only_refreshImages _).rest .update (by decide)
  obtain ⟨b, hr⟩ := s.allBoot_rest fun r => r.setSlot s.spareSlot v
  exact
    { only := ((only_allBoot ..).trans (only_refreshImages _)).mono (by simp) (by simp)
      slots := fun d hd => by
        rw [hb, State.allBoot_bootRec _ hd]
        exact BootRec.setSlot_slot ..
      update := ⟨b, by rw [hu, hr]⟩
      confirmed := fun d => by
        rw [hb]
        exact State.allBoot_keeps BootRec.confirmed (fun r n => BootRec.setSlot_confirmed r _ v n) s d
      counter := fun d => by
        rw [hb]
        exact State.allBoot_keeps BootRec.counter (fun r n => BootRec.setSlot_counter r _ v n) s d }

namespace State.spareMarked

variable {u w : State} {v v' : Nat}

theorem pkg (h : s.spareMarked u v) : u.pkg = s.pkg := h.only.rest .pkg (by decide)

theorem upDies (h : s.spareMarked u v) : u.upDies = s.upDies := State.upDies_congr h.only.variant h.pkg

theorem spareSlot (h : s.spareMarked u v) : u.spareSlot = s.spareSlot := by
  unfold State.spareSlot BootRec.inactive
  rw [h.pkg, h.confirmed]

theorem images (h : s.spareMarked u v) : u.update.images = s.update.images := by
  obtain ⟨b, hb⟩ := h.update
  rw [hb]

theorem image (h : s.spareMarked u v) (d i : Nat) : u.image d i = s.image d i := by
  unfold State.image
  rw [h.images]

/-- Marked twice is marked with the later state. -/
theorem trans (h : s.spareMarked u v) (g : u.spareMarked w v') : s.spareMarked w v' where
  only := (h.only.trans g.only).mono (by simp) (by simp)
  slots d hd := h.spareSlot ▸ g.slots d (h.upDies ▸ hd)
  update := by
    obtain ⟨a, ha⟩ := h.update
    obtain ⟨b, hb⟩ := g.update
    exact ⟨b, by rw [hb, ha]⟩
  confirmed d := (g.confirmed d).trans (h.confirmed d)
  counter d := (g.counter d).trans (h.counter d)

end State.spareMarked

end Records

/-! ### The lock (R429, R430) -/

section Lock

variable {who : Who} {x : Session}

/-- A lock that is free. -/
structure State.lockFree (s u : State) : Prop where
  only : Only s u [.update] [O.lockHolder]
  shown : u.n O.lockHolder = 0xFFFF
  update : u.update = { s.update with holder := none }

theorem State.unlock_free (s : State) : s.lockFree s.unlock where
  only := (((Only.same s [.update] []).setUpdate _ (by simp)).trans (only_setN ..)).mono (by simp) (by simp)
  shown := State.setN_self ..
  update := rfl

/-- A download or a verification that was cut short. -/
structure State.shortCut (s u : State) : Prop where
  only : Only s u [.update, .blobs] (O.updateStatus :: imageKeys)
  status : u.n O.updateStatus = upABORTED
  verifying : u.update.verifying = false
  lock : u.update.holder = s.update.holder ∧ u.update.recLock = s.update.recLock ∧ u.update.recState = s.update.recState ∧
    u.update.recSlot = s.update.recSlot
  kept : s.update.verifying = true → u.update.boot = s.update.boot ∧ u.update.images = s.update.images
  emptied : s.update.verifying = false → u.slotsAre s s.spareSlot imEMPTY ∧ ∀ d ∈ s.upDies, u.image d s.spareSlot = []

/-- The update is over: no verification, and the status of an abort. -/
def State.stopped (s : State) : State := { s with update := { s.update with verifying := false } }.setUp upABORTED

theorem only_stopped (s : State) : Only s s.stopped [.update] [O.updateStatus] :=
  (((Only.same s [.update] []).setUpdate _ (by simp)).trans (only_setN ..)).mono (by simp) (by simp)

theorem State.cutShort_verifying (h : s.update.verifying = true) : s.cutShort = s.stopped := by
  unfold State.cutShort
  rw [if_pos h]
  rfl

theorem State.imagesSet_spareSlot (s : State) (i : Nat) (b : Bytes) : (s.imagesSet i b).spareSlot = s.spareSlot := by
  obtain ⟨m, hm⟩ := s.imagesSet_rest i b
  rw [hm]
  rfl

theorem State.cutShort_loading (h : s.update.verifying = false) : s.cutShort = ((s.imagesSet s.spareSlot []).setSpare imEMPTY).stopped := by
  have hf : ∀ (l : List Nat) (u : State), u.spareSlot = s.spareSlot →
      l.foldl (fun (s : State) d => s.setImage d s.spareSlot []) u = l.foldl (fun (u : State) d => u.setImage d s.spareSlot []) u := fun l => by
    induction l with
    | nil => exact fun _ _ => rfl
    | cons a l ih =>
      intro u hu
      rw [List.foldl_cons, List.foldl_cons, hu]
      exact ih _ hu
  unfold State.cutShort
  rw [if_neg (by rw [h]; decide), hf _ _ rfl]
  rfl

theorem only_imagesSet (s : State) (i : Nat) (b : Bytes) : Only s (s.imagesSet i b) [.update] [] := by
  obtain ⟨m, hm⟩ := s.imagesSet_rest i b
  rw [hm]
  exact (Only.same s _ _).setUpdate _ (by simp)

/-- The spare slot's image is replaced on every healthy die, and the slot takes a state. -/
def State.spareWritten (s : State) (b : Bytes) (v : Nat) : State := (s.imagesSet s.spareSlot b).setSpare v

/-- What a replacement of the spare slot's image leaves. -/
structure State.spareReplaced (s u : State) (b : Bytes) (v : Nat) : Prop where
  only : Only s u [.update, .blobs] imageKeys
  slots : u.slotsAre s s.spareSlot v
  images : ∀ d ∈ s.upDies, u.image d s.spareSlot = b
  update : ∃ r m, u.update = { s.update with boot := r, images := m }
  confirmed : ∀ d, (u.bootRec d).confirmed = (s.bootRec d).confirmed
  counter : ∀ d, (u.bootRec d).counter = (s.bootRec d).counter

theorem State.spareWritten_replaced (s : State) (b : Bytes) (v : Nat) : s.spareReplaced (s.spareWritten b v) b v := by
  have hi : ∀ d ∈ s.upDies, (s.imagesSet s.spareSlot b).image d s.spareSlot = b := fun d hd => State.imagesSet_image _ b hd
  have hm := (s.imagesSet s.spareSlot b).setSpare_marked v
  have hslot := s.imagesSet_spareSlot s.spareSlot b
  have hf := only_imagesSet s s.spareSlot b
  have hup : (s.imagesSet s.spareSlot b).upDies = s.upDies := State.upDies_congr hf.variant (hf.rest .pkg (by decide))
  obtain ⟨m, hrest⟩ := s.imagesSet_rest s.spareSlot b
  have hboot : ∀ d, (s.imagesSet s.spareSlot b).bootRec d = s.bootRec d := fun d => by
    rw [hrest]
    rfl
  obtain ⟨r, hr⟩ := hm.update
  exact
    { only := (hf.trans hm.only).mono (by simp) (by simp)
      slots := fun d hd => hslot ▸ hm.slots d (hup ▸ hd)
      images := fun d hd => (hm.image d _).trans (hi d hd)
      update := ⟨r, m, by rw [State.spareWritten, hr, hrest]⟩
      confirmed := fun d => (hm.confirmed d).trans (congrArg _ (hboot d))
      counter := fun d => (hm.counter d).trans (congrArg _ (hboot d)) }

theorem State.cutShort_shortCut (s : State) : s.shortCut s.cutShort := by
  cases hv : s.update.verifying with
  | true =>
    rw [State.cutShort_verifying hv]
    exact
      { only := (only_stopped s).mono (by simp) (by simp)
        status := State.setN_self ..
        verifying := rfl
        lock := ⟨rfl, rfl, rfl, rfl⟩
        kept := fun _ => ⟨rfl, rfl⟩
        emptied := fun h => absurd (hv.symm.trans h) (by decide) }
  | false =>
    have hw := s.spareWritten_replaced [] imEMPTY
    have he : s.cutShort = (s.spareWritten [] imEMPTY).stopped := State.cutShort_loading hv
    obtain ⟨r, m, hu⟩ := hw.update
    rw [he]
    generalize s.spareWritten [] imEMPTY = w at hw hu
    exact
      { only := (hw.only.trans (only_stopped w)).mono (by simp) (by simp)
        status := State.setN_self ..
        verifying := rfl
        lock := by
          have hl : w.stopped.update = { w.update with verifying := false } := rfl
          rw [hl, hu]
          exact ⟨rfl, rfl, rfl, rfl⟩
        kept := fun h => absurd (hv.symm.trans h) (by decide)
        emptied := fun _ => ⟨hw.slots, hw.images⟩ }

/-- The status of an update whose lock is released. -/
def releasedStatus (v : Nat) : Nat := if v = upRUNNING then upABORTED else if v ≤ upREJECTED then upIDLE else v

/-- What a release of the lock leaves. -/
structure State.lockReleased (s u : State) (asked : Bool) : Prop where
  only : Only s u [.update, .blobs] (O.updateStatus :: O.lockHolder :: O.lastUpdateResult :: imageKeys)
  quiet : asked = true → Only s u [.update, .blobs] (O.updateStatus :: O.lockHolder :: imageKeys)
  holder : u.update.holder = none
  shown : u.n O.lockHolder = 0xFFFF
  status : u.n O.updateStatus = releasedStatus (s.n O.updateStatus)
  result : asked = false → s.n O.updateStatus = upRUNNING → u.n O.lastUpdateResult = urTIMEOUT
  recovery : u.update.recLock = s.update.recLock ∧ u.update.recState = s.update.recState ∧ u.update.recSlot = s.update.recSlot

/-- The status of an update before its lock is freed. -/
def State.lockLeft (s : State) (asked : Bool) : State :=
  if s.upStatus = upRUNNING then
    (if asked then s.cutShort else s.cutShort.setN O.lastUpdateResult urTIMEOUT)
  else if s.upStatus ≤ upREJECTED then s.setUp upIDLE else s

theorem State.releaseLock_eq (s : State) (asked : Bool) : s.releaseLock asked = (s.lockLeft asked).unlock := rfl

/-- A release is shown by the state that the update is left in. -/
theorem State.unlock_released {w : State} {asked : Bool} (hq : asked = true → Only s w [.update, .blobs] (O.updateStatus :: imageKeys))
    (ho : Only s w [.update, .blobs] (O.updateStatus :: O.lastUpdateResult :: imageKeys)) (hs : w.n O.updateStatus = releasedStatus (s.n O.updateStatus))
    (hr : asked = false → s.n O.updateStatus = upRUNNING → w.n O.lastUpdateResult = urTIMEOUT)
    (hc : w.update.recLock = s.update.recLock ∧ w.update.recState = s.update.recState ∧ w.update.recSlot = s.update.recSlot) :
    s.lockReleased w.unlock asked := by
  have hu := w.unlock_free
  exact
    { only := .and hu.only (ho.mono (by simp) (by
        intro k hk
        simp only [List.mem_cons] at hk ⊢
        tauto)) (by simp) (by simp)
      quiet := fun h => ((hq h).trans hu.only).mono (by simp) (by simp +contextual)
      holder := by rw [hu.update]
      shown := hu.shown
      status := (hu.only.n_eq (by decide) (by decide)).trans hs
      result := fun h h1 => (hu.only.n_eq (by decide) (by decide)).trans (hr h h1)
      recovery := by
        rw [hu.update]
        exact hc }

theorem State.releaseLock_released (s : State) (asked : Bool) : s.lockReleased (s.releaseLock asked) asked := by
  rw [State.releaseLock_eq]
  unfold State.lockLeft
  by_cases hr : s.upStatus = upRUNNING
  · have hc := s.cutShort_shortCut
    have hst : upABORTED = releasedStatus (s.n O.updateStatus) := (if_pos hr).symm
    rw [if_pos hr]
    cases asked with
    | true =>
      exact State.unlock_released (fun _ => hc.only) (hc.only.mono (by simp) (by simp +contextual)) (hc.status.trans hst) nofun
        ⟨hc.lock.2.1, hc.lock.2.2.1, hc.lock.2.2.2⟩
    | false =>
      have ho : Only s (s.cutShort.setN O.lastUpdateResult urTIMEOUT) [.update, .blobs] (O.updateStatus :: O.lastUpdateResult :: imageKeys) :=
        (hc.only.trans (only_setN ..)).mono (by simp) (by simp +contextual)
      exact State.unlock_released nofun ho ((State.setN_other _ _ _ _ (by decide) (by decide)).trans (hc.status.trans hst))
        (fun _ _ => State.setN_self ..) ⟨hc.lock.2.1, hc.lock.2.2.1, hc.lock.2.2.2⟩
  · rw [if_neg hr]
    have hne : ¬ s.n O.updateStatus = upRUNNING := hr
    split
    next hle =>
      exact State.unlock_released (fun _ => (only_setN ..).mono (by simp) (by simp)) ((only_setN ..).mono (by simp) (by simp))
        ((State.setN_self ..).trans ((if_neg hne).trans (if_pos hle)).symm) (fun _ h => absurd h hne) ⟨rfl, rfl, rfl⟩
    next hle =>
      exact State.unlock_released (fun _ => .same ..) (.same ..) ((if_neg hne).trans (if_neg hle)).symm (fun _ h => absurd h hne) ⟨rfl, rfl, rfl⟩

/-! #### The claim -/

/-- The claim that takes a free lock. -/
def State.claimed (s : State) (n : Nat) : State :=
  let s := ({ s with update := { s.update with holder := some n, verifying := false } }).lockUsed
  ((s.setUp upCLAIMED).setN O.lockHolder (256 * n)).setN O.bytesReceived 0

theorem only_claimed (s : State) (n : Nat) : Only s (s.claimed n) [.update] [O.updateStatus, O.lockHolder, O.bytesReceived] :=
  (((((Only.same s [.update] []).setUpdate _ (by simp)).trans (only_setN ..)).trans (only_setN ..)).trans (only_setN ..)).mono (by simp) (by simp)

theorem State.claimed_n (s : State) (n : Nat) : (s.claimed n).n O.updateStatus = upCLAIMED ∧ (s.claimed n).n O.lockHolder = 256 * n ∧
    (s.claimed n).n O.bytesReceived = 0 := by
  unfold State.claimed
  refine ⟨?_, ?_, State.setN_self ..⟩
  · exact (State.setN_other _ _ _ _ (by decide) (by decide)).trans ((State.setN_other _ _ _ _ (by decide) (by decide)).trans (State.setN_self ..))
  · exact (State.setN_other _ _ _ _ (by decide) (by decide)).trans (State.setN_self ..)

/-- A local service session. -/
def Session.local (x : Session) : Prop := (x.path = .svcEthernet ∨ x.path = .svcUart) ∧ x.forwarded = false

theorem updateClaim_denied {n : Nat} (h : ¬ x.local) : updateClaim n x s = (.accessDenied, s.countDenial .accessDenied) := by
  unfold Session.local at h
  exact if_pos (by simpa [imp_iff_not_or, not_or] using h)

theorem updateClaim_local {n : Nat} (h : x.local) : updateClaim n x s = if s.update.trialSince.isSome then (.deviceState, s)
    else match s.update.holder with
      | some h => if h = n then (.ok, s.lockUsed) else (.updateBusy, s)
      | none => (.ok, s.claimed n) := by
  obtain ⟨hp, hf⟩ := h
  exact if_neg (by rcases hp with hp | hp <;> simp [hp, hf])

section Claim

variable (h : s.MayWrite who x 0x2D00 1 1)
include h

theorem updateClaim_runs_denied (hx : ¬ x.local) : Runs (.updateClaim t who) s fun v => v.answered who .accessDenied ∧
    v.n O.accessDenials = satN (2 ^ 32 - 1) (s.n O.accessDenials + 1) ∧ Only s v [.access, .power, .bridge] [O.accessDenials] := by
  refine (h.runs (t := t) (updateClaim who.sess) rfl (updateClaim_denied hx) (only_countDenial ..) (by simp)).imp
    fun v ⟨hans, hv, hf⟩ => ⟨hans, ?_, hf.mono (by simp) (by simp)⟩
  rw [hv.n_all, ← State.heard_n s t who 0x2D00 1]
  exact State.inc32_self ..

variable (hx : x.local)
include hx

theorem updateClaim_runs_trial (ht : s.update.trialSince.isSome = true) : Runs (.updateClaim t who) s fun v =>
    v.answered who .deviceState ∧ Only s v [.access, .power, .bridge] [] := by
  have ha := updateClaim_local (s := s.heard t who 0x2D00 1) (n := who.sess) hx
  rw [State.heard_update, if_pos ht] at ha
  exact (h.runs_refused (t := t) (updateClaim who.sess) rfl ha).imp fun _ ⟨hans, hf⟩ => ⟨hans, hf.mono (by simp) (by simp)⟩

variable (ht : s.update.trialSince = none)
include ht

theorem updateClaim_runs_renewed (hh : s.update.holder = some who.sess) : Runs (.updateClaim t who) s fun v =>
    v.answered who .ok ∧ v.update = { s.update with lastCmd := s.localAt t } ∧ Only s v [.access, .power, .bridge, .update] [] := by
  have ha := updateClaim_local (s := s.heard t who 0x2D00 1) (n := who.sess) hx
  rw [State.heard_update, if_neg (by rw [ht]; decide), hh] at ha
  dsimp only at ha
  rw [if_pos rfl] at ha
  refine (h.runs (t := t) (updateClaim who.sess) rfl ha ((Only.same _ [.update] []).setUpdate _ (by simp)) (by simp)).imp
    fun v ⟨hans, hv, hf⟩ => ⟨hans, ?_, hf.mono (by simp) (by simp)⟩
  rw [show v.update = _ from hv.rest .update (by decide), ← State.heard_update s t who 0x2D00 1, ← State.heard_now s t who 0x2D00 1]
  rfl

theorem updateClaim_runs_busy {n : Nat} (hh : s.update.holder = some n) (hn : n ≠ who.sess) : Runs (.updateClaim t who) s fun v =>
    v.answered who .updateBusy ∧ Only s v [.access, .power, .bridge] [] := by
  have ha := updateClaim_local (s := s.heard t who 0x2D00 1) (n := who.sess) hx
  rw [State.heard_update, if_neg (by rw [ht]; decide), hh] at ha
  dsimp only at ha
  rw [if_neg hn] at ha
  exact (h.runs_refused (t := t) (updateClaim who.sess) rfl ha).imp fun _ ⟨hans, hf⟩ => ⟨hans, hf.mono (by simp) (by simp)⟩

theorem updateClaim_runs_claimed (hh : s.update.holder = none) : Runs (.updateClaim t who) s fun v => v.answered who .ok ∧
    v.update = { s.update with holder := some who.sess, verifying := false, lastCmd := s.localAt t } ∧ v.n O.updateStatus = upCLAIMED ∧
      v.n O.lockHolder = 256 * who.sess ∧ v.n O.bytesReceived = 0 ∧
        Only s v [.access, .power, .bridge, .update] [O.updateStatus, O.lockHolder, O.bytesReceived] := by
  have ha := updateClaim_local (s := s.heard t who 0x2D00 1) (n := who.sess) hx
  rw [State.heard_update, if_neg (by rw [ht]; decide), hh] at ha
  obtain ⟨h1, h2, h3⟩ := (s.heard t who 0x2D00 1).claimed_n who.sess
  refine (h.runs (t := t) (updateClaim who.sess) rfl ha (only_claimed ..) (by simp)).imp fun v ⟨hans, hv, hf⟩ =>
    ⟨hans, ?_, (hv.n_all _).trans h1, (hv.n_all _).trans h2, (hv.n_all _).trans h3, hf.mono (by simp) (by simp)⟩
  rw [show v.update = _ from hv.rest .update (by decide), ← State.heard_update s t who 0x2D00 1, ← State.heard_now s t who 0x2D00 1]
  rfl

end Claim

/-! #### The abort, the release and the inactivity -/

theorem State.heard_lockCheck (s : State) (t : Nat) (who : Who) (idx sub n : Nat) : (s.heard t who idx sub).lockCheck n = s.lockCheck n := by
  unfold State.lockCheck
  rw [State.heard_update]

theorem State.heard_spareSlot (s : State) (t : Nat) (who : Who) (idx sub : Nat) : (s.heard t who idx sub).spareSlot = s.spareSlot := by
  rw [State.heard_eq]
  rfl

theorem State.heard_upDies (s : State) (t : Nat) (who : Who) (idx sub : Nat) : (s.heard t who idx sub).upDies = s.upDies :=
  State.upDies_congr (State.heard_variant ..) (State.heard_pkg ..)

/-- A command of the lock's holder, refused to any other. -/
theorem lockCheck_refuses {n : Nat} {p : Status × State} (h : s.lockCheck n ≠ .ok) :
    (match s.lockCheck n with
    | .ok => p
    | st => (st, s)) = (s.lockCheck n, s) := by
  split
  · contradiction
  · rfl

theorem updateAbort_idle {n : Nat} (h : s.n O.updateStatus ≠ upRUNNING) : updateAbort n x s = (.alreadyDone, s) := if_pos h

theorem updateAbort_refused {n : Nat} (h : s.n O.updateStatus = upRUNNING) (hl : s.lockCheck n ≠ .ok) : updateAbort n x s = (s.lockCheck n, s) := by
  unfold updateAbort
  exact (if_neg (not_not.mpr h)).trans (lockCheck_refuses hl)

theorem updateAbort_cuts {n : Nat} (h : s.n O.updateStatus = upRUNNING) (hl : s.lockCheck n = .ok) : updateAbort n x s = (.ok, s.cutShort.unlock) := by
  unfold updateAbort
  rw [hl]
  exact if_neg (not_not.mpr h)

theorem updateRelease_refused {n : Nat} (hl : s.lockCheck n ≠ .ok) : updateRelease n x s = (s.lockCheck n, s) := lockCheck_refuses hl

theorem updateRelease_releases {n : Nat} (hl : s.lockCheck n = .ok) : updateRelease n x s = (.ok, s.releaseLock true) := by
  unfold updateRelease
  rw [hl]

section Abort

variable (h : s.MayWrite who x 0x2D00 1 2)
include h

theorem updateAbort_runs_idle (hs : s.n O.updateStatus ≠ upRUNNING) : Runs (.updateAbort t who) s fun v =>
    v.answered who .alreadyDone ∧ Only s v [.access, .power, .bridge] [] :=
  (h.runs_refused (t := t) (updateAbort who.sess) rfl (updateAbort_idle (by rwa [State.heard_n]))).imp
    fun _ ⟨hans, hf⟩ => ⟨hans, hf.mono (by simp) (by simp)⟩

variable (hs : s.n O.updateStatus = upRUNNING)
include hs

theorem updateAbort_runs_refused (hl : s.lockCheck who.sess ≠ .ok) : Runs (.updateAbort t who) s fun v =>
    v.answered who (s.lockCheck who.sess) ∧ Only s v [.access, .power, .bridge] [] := by
  have ha := updateAbort_refused (s := s.heard t who 0x2D00 1) (x := x) (by rwa [State.heard_n]) (by rwa [State.heard_lockCheck])
  rw [State.heard_lockCheck] at ha
  exact (h.runs_refused (t := t) (updateAbort who.sess) rfl ha).imp fun _ ⟨hans, hf⟩ => ⟨hans, hf.mono (by simp) (by simp)⟩

theorem updateAbort_runs_cut (hl : s.lockCheck who.sess = .ok) : Runs (.updateAbort t who) s fun v => v.answered who .ok ∧
    v.n O.updateStatus = upABORTED ∧ v.update.holder = none ∧ v.n O.lockHolder = 0xFFFF ∧ v.update.verifying = false ∧
      (s.update.verifying = true → v.update.boot = s.update.boot ∧ v.update.images = s.update.images) ∧
      (s.update.verifying = false → v.slotsAre s s.spareSlot imEMPTY ∧ ∀ d ∈ s.upDies, v.image d s.spareSlot = []) ∧
      Only s v [.access, .power, .bridge, .update, .blobs] (O.updateStatus :: O.lockHolder :: imageKeys) := by
  have ha := updateAbort_cuts (s := s.heard t who 0x2D00 1) (x := x) (by rwa [State.heard_n]) (by rwa [State.heard_lockCheck])
  have hc := (s.heard t who 0x2D00 1).cutShort_shortCut
  have hu := (s.heard t who 0x2D00 1).cutShort.unlock_free
  have hf : Only (s.heard t who 0x2D00 1) (s.heard t who 0x2D00 1).cutShort.unlock [.update, .blobs] (O.updateStatus :: O.lockHolder :: imageKeys) :=
    (hc.only.trans hu.only).mono (by simp) (by simp +contextual)
  refine (h.runs (t := t) (updateAbort who.sess) rfl ha hf (by simp)).imp fun v ⟨hans, hv, hf⟩ => ?_
  have hup : v.update = { (s.heard t who 0x2D00 1).cutShort.update with holder := none } := (hv.rest .update (by decide) :).trans hu.update
  have hboot : ∀ d, v.bootRec d = (s.heard t who 0x2D00 1).cutShort.bootRec d := fun d => by
    unfold State.bootRec
    rw [hup]
  have himage : ∀ d i, v.image d i = (s.heard t who 0x2D00 1).cutShort.image d i := fun d i => by
    unfold State.image
    rw [hup]
  refine ⟨hans, (hv.n_all _).trans ((hu.only.n_eq (by decide) (by decide)).trans hc.status), by rw [hup], (hv.n_all _).trans hu.shown, by rw [hup, hc.verifying],
    fun hn => ?_, fun hn => ?_, hf.mono (by simp) (by simp)⟩
  · rw [hup]
    have := hc.kept (by rwa [State.heard_update])
    rwa [State.heard_update] at this
  · obtain ⟨hslots, himg⟩ := hc.emptied (by rwa [State.heard_update])
    rw [State.heard_spareSlot] at hslots himg
    rw [State.heard_upDies] at himg
    exact ⟨fun d hd => by rw [hboot]; exact hslots d (by rwa [State.heard_upDies]), fun d hd => by rw [himage]; exact himg d hd⟩

end Abort

section Release

variable (h : s.MayWrite who x 0x2D00 1 6)
include h

theorem updateRelease_runs_refused (hl : s.lockCheck who.sess ≠ .ok) : Runs (.updateRelease t who) s fun v =>
    v.answered who (s.lockCheck who.sess) ∧ Only s v [.access, .power, .bridge] [] := by
  have ha := updateRelease_refused (s := s.heard t who 0x2D00 1) (x := x) (by rwa [State.heard_lockCheck])
  rw [State.heard_lockCheck] at ha
  exact (h.runs_refused (t := t) (updateRelease who.sess) rfl ha).imp fun _ ⟨hans, hf⟩ => ⟨hans, hf.mono (by simp) (by simp)⟩

theorem updateRelease_runs_released (hl : s.lockCheck who.sess = .ok) : Runs (.updateRelease t who) s fun v => v.answered who .ok ∧
    v.update.holder = none ∧ v.n O.lockHolder = 0xFFFF ∧ v.n O.updateStatus = releasedStatus (s.n O.updateStatus) ∧
      Only s v [.access, .power, .bridge, .update, .blobs] (O.updateStatus :: O.lockHolder :: imageKeys) := by
  have ha := updateRelease_releases (s := s.heard t who 0x2D00 1) (x := x) (by rwa [State.heard_lockCheck])
  have hr := (s.heard t who 0x2D00 1).releaseLock_released true
  refine (h.runs (t := t) (updateRelease who.sess) rfl ha (hr.quiet rfl) (by simp)).imp fun v ⟨hans, hv, hf⟩ =>
    ⟨hans, ?_, (hv.n_all _).trans hr.shown, ?_, hf.mono (by simp) (by simp)⟩
  · rw [show v.update = _ from hv.rest .update (by decide), hr.holder]
  · rw [hv.n_all, hr.status, State.heard_n]

end Release

/-! #### Sixty seconds without a command (R429) -/

/-- The recovery lock, free. -/
def State.recFree (s : State) : State := { s with update := { s.update with recLock := none } }

/-- A recovery download that ends by its inactivity. -/
def State.recCut (s : State) : State :=
  (((s.setImage s.serviceDie s.update.recSlot []).updBoot s.serviceDie (fun r => r.setSlot s.update.recSlot imEMPTY)).setRec upABORTED).setN
    O.lastUpdateResult urTIMEOUT

/-- The recovery lock after its inactivity. -/
def State.recTimedOut (s : State) : State := (if s.update.recState = upRUNNING then s.recCut else s.setRec upIDLE).recFree

theorem only_setUpdate (s : State) (x : UpdateSt) : Only s { s with update := x } [.update] [] := (Only.same s _ _).setUpdate _ (by simp)

theorem only_recCut (s : State) : Only s s.recCut [.update] [O.lastUpdateResult] :=
  ((((only_setUpdate ..).trans (only_setBoot ..)).trans (only_setUpdate ..)).trans (only_setN ..)).mono (by simp) (by simp)

theorem only_recTimedOut (s : State) : Only s s.recTimedOut [.update] [O.lastUpdateResult] := by
  have h : Only s (if s.update.recState = upRUNNING then s.recCut else s.setRec upIDLE) [.update] [O.lastUpdateResult] :=
    .ite (only_recCut s) ((only_setUpdate ..).mono (by simp) (by simp))
  exact .and (only_setUpdate ..) h (by simp) (by simp)

theorem State.recTimedOut_update (s : State) : s.recTimedOut.update.recLock = none ∧ s.recTimedOut.update.holder = s.update.holder ∧
    s.recTimedOut.update.recState = if s.update.recState = upRUNNING then upABORTED else upIDLE := by
  unfold State.recTimedOut
  split <;> exact ⟨rfl, rfl, rfl⟩

theorem State.recTimedOut_cut (h : s.update.recState = upRUNNING) : (s.recTimedOut.bootRec s.serviceDie).slot s.update.recSlot = imEMPTY ∧
    s.recTimedOut.image s.serviceDie s.update.recSlot = [] ∧ s.recTimedOut.n O.lastUpdateResult = urTIMEOUT := by
  unfold State.recTimedOut
  rw [if_pos h]
  refine ⟨?_, ?_, State.setN_self ..⟩
  · have hb : s.recCut.recFree.bootRec s.serviceDie =
        ((s.setImage s.serviceDie s.update.recSlot []).updBoot s.serviceDie fun r => r.setSlot s.update.recSlot imEMPTY).bootRec s.serviceDie := rfl
    rw [hb, State.updBoot_bootRec, if_pos rfl]
    exact BootRec.setSlot_slot ..
  · have hi : s.recCut.recFree.update.images = (s.setImage s.serviceDie s.update.recSlot []).update.images := rfl
    exact (congrArg (fun m => get [] m (2 * s.serviceDie + s.update.recSlot)) hi).trans ((State.setImage_image ..).trans (if_pos rfl))

theorem lockTimeout_early (h : s.now < s.update.lastCmd + 60000000000) : lockTimeout s = s := if_pos h

theorem lockTimeout_late (h : s.update.lastCmd + 60000000000 ≤ s.now) : lockTimeout s =
    let w := if s.update.holder.isSome then s.releaseLock false else s
    if w.update.recLock.isSome then w.recTimedOut else w := by
  unfold lockTimeout
  rw [if_neg (Nat.not_lt.mpr h)]
  dsimp only
  cases hr : (if s.update.holder.isSome then s.releaseLock false else s).update.recLock with
  | none => rfl
  | some r => rfl

/-- Both locks freed after their inactivity. -/
structure State.timedOut (s v : State) : Prop where
  holder : v.update.holder = none
  recLock : v.update.recLock = none
  held : s.update.holder.isSome = true → v.n O.lockHolder = 0xFFFF ∧ v.n O.updateStatus = releasedStatus (s.n O.updateStatus) ∧
    (s.n O.updateStatus = upRUNNING → v.n O.lastUpdateResult = urTIMEOUT)
  recovery : s.update.holder = none → s.update.recLock.isSome = true →
    v.update.recState = (if s.update.recState = upRUNNING then upABORTED else upIDLE) ∧
      (s.update.recState = upRUNNING → (v.bootRec s.serviceDie).slot s.update.recSlot = imEMPTY ∧ v.image s.serviceDie s.update.recSlot = [] ∧
        v.n O.lastUpdateResult = urTIMEOUT)
  only : Only s v [.update, .blobs] (O.updateStatus :: O.lockHolder :: O.lastUpdateResult :: imageKeys)

theorem State.releaseLock_timedOut (h : s.update.holder.isSome = true) :
    s.timedOut (if (s.releaseLock false).update.recLock.isSome then (s.releaseLock false).recTimedOut else s.releaseLock false) := by
  have hr := s.releaseLock_released false
  have hne : ¬ s.update.holder = none := fun e => by rw [e] at h; cases h
  generalize s.releaseLock false = w at hr
  cases hc : w.update.recLock with
  | none =>
    exact
      { holder := hr.holder
        recLock := hc
        held := fun _ => ⟨hr.shown, hr.status, hr.result rfl⟩
        recovery := fun e => absurd e hne
        only := hr.only }
  | some r =>
    have hf := only_recTimedOut w
    obtain ⟨h1, h2, -⟩ := w.recTimedOut_update
    exact
      { holder := h2.trans hr.holder
        recLock := h1
        held := fun _ => ⟨(hf.n_eq (by decide) (by decide)).trans hr.shown, (hf.n_eq (by decide) (by decide)).trans hr.status, fun hrun => by
          change w.recTimedOut.n O.lastUpdateResult = urTIMEOUT
          unfold State.recTimedOut
          split
          · exact State.setN_self ..
          · exact hr.result rfl hrun⟩
        recovery := fun e => absurd e hne
        only := .and hf hr.only (by simp) (by simp) }

theorem State.recovery_timedOut (h : s.update.holder = none) : s.timedOut (if s.update.recLock.isSome then s.recTimedOut else s) := by
  have hs : ¬ s.update.holder.isSome = true := by
    rw [h]
    decide
  cases hc : s.update.recLock with
  | none =>
    exact
      { holder := h
        recLock := hc
        held := fun e => absurd e hs
        recovery := fun _ e => absurd e (by rw [hc]; decide)
        only := .same .. }
  | some r =>
    obtain ⟨h1, h2, h3⟩ := s.recTimedOut_update
    exact
      { holder := h2.trans h
        recLock := h1
        held := fun e => absurd e hs
        recovery := fun _ _ => ⟨h3, State.recTimedOut_cut⟩
        only := (only_recTimedOut s).mono (by simp) (by simp) }

theorem lockTimeout_timedOut (h : s.update.lastCmd + 60000000000 ≤ s.now) : s.timedOut (lockTimeout s) := by
  rw [lockTimeout_late h]
  dsimp only
  by_cases hh : s.update.holder.isSome = true
  · rw [if_pos hh]
    exact State.releaseLock_timedOut hh
  · rw [if_neg hh]
    exact State.recovery_timedOut (by simpa using hh)

theorem lockTimeout_runs_timedOut (h : s.update.lastCmd + 60000000000 ≤ s.localAt t) : Runs (.lockTimeout t) s fun v => s.timedOut v := by
  have hv := lockTimeout_timedOut (s := s.begin t) h
  exact .intro rfl ⟨hv.holder, hv.recLock, hv.held, hv.recovery, hv.only.begin⟩

end Lock

end Sys2Proof.Machine

open Sys2Proof Sys2Proof.Machine

/-- Settles O44, by what a free lock, a cut-short update and a recovery lock out of time leave. -/
theorem updateLock : Obligations.UpdateLock :=
  ⟨fun _ _ _ _ h => ⟨updateClaim_runs_denied h, fun hp hf => ⟨updateClaim_runs_trial h ⟨hp, hf⟩,
      fun ht hh => updateClaim_runs_renewed h ⟨hp, hf⟩ ht hh, fun _ ht hh hn => updateClaim_runs_busy h ⟨hp, hf⟩ ht hh hn,
      fun ht hh => updateClaim_runs_claimed h ⟨hp, hf⟩ ht hh⟩⟩,
    fun _ _ _ _ h => ⟨updateAbort_runs_idle h, fun hs hl => updateAbort_runs_refused h hs hl, fun hs hl => updateAbort_runs_cut h hs hl⟩,
    fun _ _ _ _ h => ⟨updateRelease_runs_refused h, updateRelease_runs_released h⟩,
    fun s t => ⟨fun h => .intro (congrArg Host.Outcome.next (lockTimeout_early (s := s.begin t) h)) rfl,
      fun h => (lockTimeout_runs_timedOut h).imp fun _ hv => ⟨hv.holder, hv.recLock, hv.held, hv.recovery, hv.only⟩⟩⟩
end

section
/-! Proofs about downloads and verifications (R431, R432). -/
namespace Sys2Proof.Machine
open Sys2Proof

variable {s : State} {t : Nat}

section Block

variable {who : Who} {x : Session} {b : Bytes} {w : Bool}

/-- A block that runs past the end of its image. -/
abbrev State.blockLong (s : State) (b : Bytes) : Prop :=
  256 ≤ (s.blockNew b).length ∧ 256 + fld (s.blockNew b) 0x10 4 < (s.blockNew b).length ∧
    (256 ≤ (s.blockOld b).length ∨ s.header (s.blockNew b) = 0)

/-- The image as a block leaves it on every healthy die. -/
def State.blockStored (s : State) (b : Bytes) : State :=
  let w := (s.lockUsed.imagesSet s.spareSlot (s.blockNew b)).setN O.bytesReceived (s.blockNew b).length
  (if fld b 0 4 = 0 then w.setSpare imPARTIAL else w).setUp upRUNNING

/-- The end of a download: the slot, the status and the result. -/
def State.rejected (s : State) (r : Nat) : State := ((s.setSpare imREJECTED).setUp upREJECTED).setN O.lastUpdateResult r

/-- The outcome of a block that is taken. -/
def State.blockEnd (s : State) (b : Bytes) (w : Bool) : Status × State :=
  if !w then (.hardware, (s.blockStored b).rejected urMRAM)
  else if (s.blockOld b).length < 256 ∧ 256 ≤ (s.blockNew b).length ∧ (s.blockStored b).header (s.blockNew b) ≠ 0 then
    (.ok, (s.blockStored b).rejected ((s.blockStored b).header (s.blockNew b)))
  else if 256 ≤ (s.blockNew b).length ∧ (s.blockNew b).length = 256 + fld (s.blockNew b) 0x10 4 then
    (.ok, ((s.blockStored b).setSpare imUNVERIFIED).setUp upDOWNLOADED)
  else (.ok, s.blockStored b)

theorem imageBlockAct_locked {n : Nat} (hl : s.lockCheck n ≠ .ok) : imageBlockAct n b w x s = (s.lockCheck n, s) := lockCheck_refuses hl

theorem imageBlockAct_held {n : Nat} (hl : s.lockCheck n = .ok) : imageBlockAct n b w x s =
    if !s.mayLoad then (.deviceState, s)
    else if fld b 0 4 ≠ s.n O.bytesReceived then (.outOfSequence, s)
    else if s.blockLong b then (.outOfRange, s)
    else s.blockEnd b w := by
  unfold imageBlockAct
  rw [hl]
  rfl

theorem State.slotsAre.of_update {u q : State} {i v : Nat} (h : q.slotsAre s i v) (e : u.update = q.update) : u.slotsAre s i v := fun d hd => by
  unfold State.bootRec
  rw [e]
  exact h d hd

/-- What a block that is taken leaves, whatever the slot and the status show. -/
structure State.blockHeld (s u : State) (b : Bytes) : Prop where
  only : Only s u [.update, .blobs] (O.updateStatus :: O.bytesReceived :: O.lastUpdateResult :: imageKeys)
  received : u.n O.bytesReceived = (s.blockNew b).length
  images : ∀ d ∈ s.upDies, u.image d s.spareSlot = s.blockNew b
  lastCmd : u.update.lastCmd = s.now
  holder : u.update.holder = s.update.holder
  spare : u.spareSlot = s.spareSlot
  counter : ∀ d, (u.bootRec d).counter = (s.bootRec d).counter

namespace State.blockHeld

variable {u : State}

theorem pkg (h : s.blockHeld u b) : u.pkg = s.pkg := h.only.rest .pkg (by decide)

theorem upDies (h : s.blockHeld u b) : u.upDies = s.upDies := State.upDies_congr h.only.variant h.pkg

theorem setSpare (h : s.blockHeld u b) (v : Nat) : s.blockHeld (u.setSpare v) b ∧ (u.setSpare v).slotsAre s s.spareSlot v := by
  have hm := u.setSpare_marked v
  obtain ⟨r, hr⟩ := hm.update
  exact
    ⟨{ only := .and hm.only h.only (by simp) (by simp +contextual)
       received := (hm.only.n_eq (by decide) (by decide)).trans h.received
       images := fun d hd => (hm.image d _).trans (h.images d hd)
       lastCmd := by
         rw [hr]
         exact h.lastCmd
       holder := by
         rw [hr]
         exact h.holder
       spare := hm.spareSlot.trans h.spare
       counter := fun d => (hm.counter d).trans (h.counter d) },
      fun d hd => h.spare ▸ hm.slots d (h.upDies ▸ hd)⟩

theorem setN (h : s.blockHeld u b) {k : Nat} (hk : k ∈ [O.updateStatus, O.lastUpdateResult]) (v : Nat) : s.blockHeld (u.setN k v) b where
  only := .and (only_setN ..) h.only (by simp) (by
    rcases List.mem_pair.mp hk with rfl | rfl <;> simp)
  received := by
    refine (State.setN_other _ _ _ _ ?_ ?_).trans h.received
    · rcases List.mem_pair.mp hk with rfl | rfl <;> decide
    · rcases List.mem_pair.mp hk with rfl | rfl <;> decide
  images := h.images
  lastCmd := h.lastCmd
  holder := h.holder
  spare := h.spare
  counter := h.counter

theorem header (h : s.blockHeld u b) (c : Bytes) : u.header c = s.header c := by
  unfold State.header
  rw [h.only.n_eq (by decide) (by decide), h.pkg, h.counter]

theorem rejected (h : s.blockHeld u b) (r : Nat) : s.blockHeld (u.rejected r) b ∧ (u.rejected r).slotsAre s s.spareSlot imREJECTED ∧
    (u.rejected r).n O.updateStatus = upREJECTED ∧ (u.rejected r).n O.lastUpdateResult = r := by
  obtain ⟨hb, hs⟩ := h.setSpare imREJECTED
  unfold State.rejected
  generalize u.setSpare imREJECTED = w at hb hs ⊢
  have h1 := hb.setN (k := O.updateStatus) (by simp) upREJECTED
  have h2 := h1.setN (k := O.lastUpdateResult) (by simp) r
  exact ⟨h2, hs.of_update rfl, (State.setN_other _ _ _ _ (by decide) (by decide)).trans (State.setN_self ..), State.setN_self ..⟩

theorem downloaded (h : s.blockHeld u b) : let v := (u.setSpare imUNVERIFIED).setUp upDOWNLOADED
    s.blockHeld v b ∧ v.slotsAre s s.spareSlot imUNVERIFIED ∧ v.n O.updateStatus = upDOWNLOADED := by
  obtain ⟨hb, hs⟩ := h.setSpare imUNVERIFIED
  dsimp only
  generalize u.setSpare imUNVERIFIED = w at hb hs ⊢
  have h1 := hb.setN (k := O.updateStatus) (by simp) upDOWNLOADED
  exact ⟨h1, hs.of_update rfl, State.setN_self ..⟩

end State.blockHeld

theorem State.imagesSet_held (s : State) (b : Bytes) :
    s.blockHeld ((s.lockUsed.imagesSet s.spareSlot (s.blockNew b)).setN O.bytesReceived (s.blockNew b).length) b := by
  have hi : ∀ d ∈ s.upDies, (s.lockUsed.imagesSet s.spareSlot (s.blockNew b)).image d s.spareSlot = s.blockNew b := fun d hd =>
    State.imagesSet_image (s := s.lockUsed) _ _ hd
  obtain ⟨m, hm⟩ := s.lockUsed.imagesSet_rest s.spareSlot (s.blockNew b)
  have hf : Only s (s.lockUsed.imagesSet s.spareSlot (s.blockNew b)) [.update] [] := by
    rw [hm]
    exact (only_setUpdate s _)
  have hu : (s.lockUsed.imagesSet s.spareSlot (s.blockNew b)).update = { s.update with lastCmd := s.now, images := m } := by
    rw [hm]
    rfl
  have hspare : (s.lockUsed.imagesSet s.spareSlot (s.blockNew b)).spareSlot = s.spareSlot := State.imagesSet_spareSlot ..
  generalize s.lockUsed.imagesSet s.spareSlot (s.blockNew b) = w at hi hf hu hspare
  exact
    { only := .and (only_setN ..) (hf.mono (by simp) (by simp)) (by simp) (by simp)
      received := State.setN_self ..
      images := hi
      lastCmd := by
        change w.update.lastCmd = _
        rw [hu]
      holder := by
        change w.update.holder = _
        rw [hu]
      spare := hspare
      counter := fun d => by
        change (get {} w.update.boot d).counter = _
        rw [hu]
        rfl }

theorem State.blockStored_held (s : State) (b : Bytes) : s.blockHeld (s.blockStored b) b ∧ (s.blockStored b).n O.updateStatus = upRUNNING ∧
    (fld b 0 4 = 0 → (s.blockStored b).slotsAre s s.spareSlot imPARTIAL) := by
  have h := s.imagesSet_held b
  unfold State.blockStored
  dsimp only
  generalize State.setN _ O.bytesReceived _ = q at h ⊢
  split
  next h0 =>
    obtain ⟨hb, hs⟩ := h.setSpare imPARTIAL
    generalize State.setSpare _ imPARTIAL = w at hb hs ⊢
    have h1 := hb.setN (k := O.updateStatus) (by simp) upRUNNING
    exact ⟨h1, State.setN_self .., fun _ => hs.of_update rfl⟩
  next h0 =>
    have h1 := h.setN (k := O.updateStatus) (by simp) upRUNNING
    exact ⟨h1, State.setN_self .., fun e => absurd e h0⟩

theorem State.slotsAre_heard {s v : State} {t : Nat} {who : Who} {idx sub i n : Nat} (h : v.slotsAre (s.heard t who idx sub) i n) : v.slotsAre s i n :=
  fun d hd => h d (by rwa [State.heard_upDies])

theorem State.heard_mayLoad (s : State) (t : Nat) (who : Who) (idx sub : Nat) : (s.heard t who idx sub).mayLoad = s.mayLoad := by
  unfold State.mayLoad
  simp only [State.heard_n, State.heard_update]

theorem State.heard_image (s : State) (t : Nat) (who : Who) (idx sub d i : Nat) : (s.heard t who idx sub).image d i = s.image d i := by
  unfold State.image
  rw [State.heard_update]

theorem State.heard_bootRec (s : State) (t : Nat) (who : Who) (idx sub d : Nat) : (s.heard t who idx sub).bootRec d = s.bootRec d := by
  unfold State.bootRec
  rw [State.heard_update]

theorem State.heard_blockOld (s : State) (t : Nat) (who : Who) (idx sub : Nat) (b : Bytes) : (s.heard t who idx sub).blockOld b = s.blockOld b := by
  unfold State.blockOld
  rw [State.heard_image, State.heard_pkg, State.heard_spareSlot]

theorem State.heard_blockNew (s : State) (t : Nat) (who : Who) (idx sub : Nat) (b : Bytes) : (s.heard t who idx sub).blockNew b = s.blockNew b := by
  unfold State.blockNew
  rw [State.heard_blockOld]

theorem State.heard_header (s : State) (t : Nat) (who : Who) (idx sub : Nat) (b : Bytes) : (s.heard t who idx sub).header b = s.header b := by
  unfold State.header
  rw [State.heard_n, State.heard_bootRec, State.heard_pkg]

theorem State.heard_blockLong (s : State) (t : Nat) (who : Who) (idx sub : Nat) (b : Bytes) :
    (s.heard t who idx sub).blockLong b ↔ s.blockLong b := by
  unfold State.blockLong
  rw [State.heard_blockNew, State.heard_blockOld, State.heard_header]

section Runs

variable (h : s.MayWriteDom who x 0x2D00 4 5 1024 b.length)
include h

theorem imageBlock_runs_locked (hl : s.lockCheck who.sess ≠ .ok) : Runs (.imageBlock t who b w) s fun v =>
    v.answered who (s.lockCheck who.sess) ∧ Only s v [.access, .power, .bridge] [] := by
  have ha := imageBlockAct_locked (s := s.heard t who 0x2D00 4) (x := x) (b := b) (w := w) (by rwa [State.heard_lockCheck])
  rw [State.heard_lockCheck] at ha
  exact (h.runs_refused (t := t) (fun _ => true) (imageBlockAct who.sess b w) rfl rfl ha).imp fun _ ⟨hans, hf⟩ => ⟨hans, hf.mono (by simp) (by simp)⟩

variable (hl : s.lockCheck who.sess = .ok)
include hl

theorem imageBlock_runs_busy (hm : s.mayLoad = false) : Runs (.imageBlock t who b w) s fun v =>
    v.answered who .deviceState ∧ Only s v [.access, .power, .bridge] [] := by
  have ha := imageBlockAct_held (s := s.heard t who 0x2D00 4) (x := x) (b := b) (w := w) (by rwa [State.heard_lockCheck])
  rw [State.heard_mayLoad, hm, if_pos (by decide)] at ha
  exact (h.runs_refused (t := t) (fun _ => true) (imageBlockAct who.sess b w) rfl rfl ha).imp fun _ ⟨hans, hf⟩ => ⟨hans, hf.mono (by simp) (by simp)⟩

variable (hm : s.mayLoad = true)
include hm

theorem imageBlock_runs_order (ho : fld b 0 4 ≠ s.n O.bytesReceived) : Runs (.imageBlock t who b w) s fun v =>
    v.answered who .outOfSequence ∧ Only s v [.access, .power, .bridge] [] := by
  have ha := imageBlockAct_held (s := s.heard t who 0x2D00 4) (x := x) (b := b) (w := w) (by rwa [State.heard_lockCheck])
  rw [State.heard_mayLoad, hm, if_neg (by decide), State.heard_n, if_pos ho] at ha
  exact (h.runs_refused (t := t) (fun _ => true) (imageBlockAct who.sess b w) rfl rfl ha).imp fun _ ⟨hans, hf⟩ => ⟨hans, hf.mono (by simp) (by simp)⟩

variable (ho : fld b 0 4 = s.n O.bytesReceived)
include ho

theorem imageBlock_runs_long (hb : s.blockLong b) : Runs (.imageBlock t who b w) s fun v =>
    v.answered who .outOfRange ∧ Only s v [.access, .power, .bridge] [] := by
  have ha := imageBlockAct_held (s := s.heard t who 0x2D00 4) (x := x) (b := b) (w := w) (by rwa [State.heard_lockCheck])
  rw [State.heard_mayLoad, hm, if_neg (by decide), State.heard_n, if_neg (not_not.mpr ho), if_pos ((State.heard_blockLong ..).mpr hb)] at ha
  exact (h.runs_refused (t := t) (fun _ => true) (imageBlockAct who.sess b w) rfl rfl ha).imp fun _ ⟨hans, hf⟩ => ⟨hans, hf.mono (by simp) (by simp)⟩

variable (hb : ¬ s.blockLong b)
include hb

/-- A block that is taken ends in one of the outcomes of `blockEnd`, with what `blockHeld` says. -/
theorem imageBlock_runs_taken {st : Status} {q : State} (he : (s.heard t who 0x2D00 4).blockEnd b w = (st, q))
    (hq : (s.heard t who 0x2D00 4).blockHeld q b) : Runs (.imageBlock t who b w) s fun v =>
      v.answered who st ∧ v.update = q.update ∧ (∀ k, v.n k = q.n k) ∧ s.blockTaken v t b := by
  have ha := imageBlockAct_held (s := s.heard t who 0x2D00 4) (x := x) (b := b) (w := w) (by rwa [State.heard_lockCheck])
  rw [State.heard_mayLoad, hm, if_neg (by decide), State.heard_n, if_neg (not_not.mpr ho), if_neg (fun e => hb ((State.heard_blockLong ..).mp e)),
    he] at ha
  have hsess : (q.session? who.sess).isSome = true := by
    unfold State.session?
    rw [hq.only.rest .access (by decide)]
    exact h.toTakes.heard_session ..
  refine (h.acts (t := t) (fun _ => true) (imageBlockAct who.sess b w) rfl rfl ha hsess).imp fun v ⟨hans, hv⟩ => ?_
  have hu : v.update = q.update := hv.rest .update (by decide)
  have himage : ∀ d i, v.image d i = q.image d i := fun d i => by
    unfold State.image
    rw [hu]
  have hn : ∀ k, v.n k = q.n k := hv.n_all
  refine ⟨hans, hu, hn, ?_, fun d hd => ?_, ?_, ?_, ?_⟩
  · rw [hn, hq.received, State.heard_blockNew]
  · rw [himage, ← State.heard_spareSlot s t who 0x2D00 4, hq.images d (by rwa [State.heard_upDies]), State.heard_blockNew]
  · rw [hu, hq.lastCmd, State.heard_now]
  · rw [hu, hq.holder, State.heard_update]
  · exact (((only_heard ..).trans hq.only).trans hv).mono (by simp) (by simp)

theorem imageBlock_runs_unwritten (hw : w = false) : Runs (.imageBlock t who b w) s fun v => v.answered who .hardware ∧
    v.n O.updateStatus = upREJECTED ∧ v.n O.lastUpdateResult = urMRAM ∧ v.slotsAre s s.spareSlot imREJECTED ∧ s.blockTaken v t b := by
  obtain ⟨hq, hslots, h1, h2⟩ := ((s.heard t who 0x2D00 4).blockStored_held b).1.rejected urMRAM
  have he : (s.heard t who 0x2D00 4).blockEnd b w = (.hardware, ((s.heard t who 0x2D00 4).blockStored b).rejected urMRAM) := if_pos (by rw [hw]; rfl)
  rw [State.heard_spareSlot] at hslots
  exact (imageBlock_runs_taken h hl hm ho hb he hq).imp fun v ⟨hans, hu, hn, ht⟩ =>
    ⟨hans, (hn _).trans h1, (hn _).trans h2, (State.slotsAre_heard hslots).of_update hu, ht⟩

variable (hw : w = true)
include hw

theorem imageBlock_runs_badHeader (hold : (s.blockOld b).length < 256) (hnew : 256 ≤ (s.blockNew b).length) (hh : s.header (s.blockNew b) ≠ 0) :
    Runs (.imageBlock t who b w) s fun v => v.answered who .ok ∧ v.n O.updateStatus = upREJECTED ∧
      v.n O.lastUpdateResult = s.header (s.blockNew b) ∧ v.slotsAre s s.spareSlot imREJECTED ∧ s.blockTaken v t b := by
  have hst := ((s.heard t who 0x2D00 4).blockStored_held b).1
  have hhead : ((s.heard t who 0x2D00 4).blockStored b).header (s.blockNew b) = s.header (s.blockNew b) := by
    rw [hst.header, State.heard_header]
  obtain ⟨hq, hslots, h1, h2⟩ := hst.rejected (s.header (s.blockNew b))
  have he : (s.heard t who 0x2D00 4).blockEnd b w = (.ok, ((s.heard t who 0x2D00 4).blockStored b).rejected (s.header (s.blockNew b))) := by
    unfold State.blockEnd
    rw [State.heard_blockNew, State.heard_blockOld, hhead, if_neg (by rw [hw]; decide), if_pos ⟨hold, hnew, hh⟩]
  rw [State.heard_spareSlot] at hslots
  exact (imageBlock_runs_taken h hl hm ho hb he hq).imp fun v ⟨hans, hu, hn, ht⟩ =>
    ⟨hans, (hn _).trans h1, (hn _).trans h2, (State.slotsAre_heard hslots).of_update hu, ht⟩

theorem imageBlock_runs_last (hok : 256 ≤ (s.blockOld b).length ∨ s.header (s.blockNew b) = 0) (hnew : 256 ≤ (s.blockNew b).length)
    (hlen : (s.blockNew b).length = 256 + fld (s.blockNew b) 0x10 4) : Runs (.imageBlock t who b w) s fun v => v.answered who .ok ∧
      v.n O.updateStatus = upDOWNLOADED ∧ v.slotsAre s s.spareSlot imUNVERIFIED ∧ s.blockTaken v t b := by
  have hst := ((s.heard t who 0x2D00 4).blockStored_held b).1
  have hhead : ((s.heard t who 0x2D00 4).blockStored b).header (s.blockNew b) = s.header (s.blockNew b) := by
    rw [hst.header, State.heard_header]
  obtain ⟨hq, hslots, h1⟩ := hst.downloaded
  have he : (s.heard t who 0x2D00 4).blockEnd b w = (.ok, (((s.heard t who 0x2D00 4).blockStored b).setSpare imUNVERIFIED).setUp upDOWNLOADED) := by
    unfold State.blockEnd
    rw [State.heard_blockNew, State.heard_blockOld, hhead, if_neg (by rw [hw]; decide), if_neg, if_pos ⟨hnew, hlen⟩]
    rintro ⟨h1, -, h2⟩
    rcases hok with hok | hok
    · omega
    · exact h2 hok
  rw [State.heard_spareSlot] at hslots
  exact (imageBlock_runs_taken h hl hm ho hb he hq).imp fun v ⟨hans, hu, hn, ht⟩ =>
    ⟨hans, (hn _).trans h1, (State.slotsAre_heard hslots).of_update hu, ht⟩

theorem imageBlock_runs_more (hmore : (s.blockNew b).length < 256 ∨ ((256 ≤ (s.blockOld b).length ∨ s.header (s.blockNew b) = 0) ∧
    (s.blockNew b).length ≠ 256 + fld (s.blockNew b) 0x10 4)) : Runs (.imageBlock t who b w) s fun v => v.answered who .ok ∧
      v.n O.updateStatus = upRUNNING ∧ (fld b 0 4 = 0 → v.slotsAre s s.spareSlot imPARTIAL) ∧ s.blockTaken v t b := by
  obtain ⟨hst, h1, hslots⟩ := (s.heard t who 0x2D00 4).blockStored_held b
  have hhead : ((s.heard t who 0x2D00 4).blockStored b).header (s.blockNew b) = s.header (s.blockNew b) := by
    rw [hst.header, State.heard_header]
  have he : (s.heard t who 0x2D00 4).blockEnd b w = (.ok, (s.heard t who 0x2D00 4).blockStored b) := by
    unfold State.blockEnd
    rw [State.heard_blockNew, State.heard_blockOld, hhead, if_neg (by rw [hw]; decide), if_neg, if_neg]
    · rintro ⟨h1, h2⟩
      rcases hmore with hmore | ⟨-, hmore⟩
      · omega
      · exact hmore h2
    · rintro ⟨h1, h2, h3⟩
      rcases hmore with hmore | ⟨hmore | hmore, -⟩
      · omega
      · omega
      · exact h3 hmore
  rw [State.heard_spareSlot] at hslots
  exact (imageBlock_runs_taken h hl hm ho hb he hst).imp fun v ⟨hans, hu, hn, ht⟩ =>
    ⟨hans, (hn _).trans h1, fun h0 => (State.slotsAre_heard (hslots h0)).of_update hu, ht⟩

end Runs

end Block

/-! ### Verification (R432) -/

section Verify

variable {who : Who} {x : Session}

/-- A verification that has started. -/
def State.verifying_ (s : State) : State := { s.lockUsed with update := { s.lockUsed.update with verifying := true } }.setUp upRUNNING

/-- No image waits for a verification, or one runs. -/
def State.verifyBarred (s : State) : Prop := (s.bootRec s.pkg.lead).slot s.spareSlot ≠ imUNVERIFIED ∨ s.n O.updateStatus = upRUNNING

theorem updateVerify_locked {n : Nat} (hl : s.lockCheck n ≠ .ok) : updateVerify n x s = (s.lockCheck n, s) := lockCheck_refuses hl

theorem updateVerify_barred {n : Nat} (hl : s.lockCheck n = .ok) (hb : s.verifyBarred) : updateVerify n x s = (.deviceState, s) := by
  unfold updateVerify
  rw [hl]
  exact if_pos hb

theorem updateVerify_starts {n : Nat} (hl : s.lockCheck n = .ok) (hb : ¬ s.verifyBarred) : updateVerify n x s = (.ok, s.verifying_) := by
  unfold updateVerify
  rw [hl]
  exact if_neg hb

theorem State.heard_verifyBarred (s : State) (t : Nat) (who : Who) (idx sub : Nat) : (s.heard t who idx sub).verifyBarred = s.verifyBarred := by
  unfold State.verifyBarred
  rw [State.heard_n, State.heard_bootRec, State.heard_pkg, State.heard_spareSlot]

variable (h : s.MayWrite who x 0x2D00 1 3)
include h

theorem updateVerify_runs_locked (hl : s.lockCheck who.sess ≠ .ok) : Runs (.updateVerify t who) s fun v =>
    v.answered who (s.lockCheck who.sess) ∧ Only s v [.access, .power, .bridge] [] := by
  have ha := updateVerify_locked (s := s.heard t who 0x2D00 1) (x := x) (by rwa [State.heard_lockCheck])
  rw [State.heard_lockCheck] at ha
  exact (h.runs_refused (t := t) (updateVerify who.sess) rfl ha).imp fun _ ⟨hans, hf⟩ => ⟨hans, hf.mono (by simp) (by simp)⟩

theorem updateVerify_runs_barred (hl : s.lockCheck who.sess = .ok) (hb : s.verifyBarred) : Runs (.updateVerify t who) s fun v =>
    v.answered who .deviceState ∧ Only s v [.access, .power, .bridge] [] :=
  (h.runs_refused (t := t) (updateVerify who.sess) rfl (updateVerify_barred (by rwa [State.heard_lockCheck]) (by rwa [State.heard_verifyBarred]))).imp
    fun _ ⟨hans, hf⟩ => ⟨hans, hf.mono (by simp) (by simp)⟩

theorem updateVerify_runs_started (hl : s.lockCheck who.sess = .ok) (hb : ¬ s.verifyBarred) : Runs (.updateVerify t who) s fun v =>
    v.answered who .ok ∧ v.n O.updateStatus = upRUNNING ∧ v.update = { s.update with verifying := true, lastCmd := s.localAt t } ∧
      Only s v [.access, .power, .bridge, .update] [O.updateStatus] := by
  have hf : Only (s.heard t who 0x2D00 1) (s.heard t who 0x2D00 1).verifying_ [.update] [O.updateStatus] :=
    ((only_setUpdate (s.heard t who 0x2D00 1) _).trans (only_setN ..)).mono (by simp) (by simp)
  refine (h.runs (t := t) (updateVerify who.sess) rfl (updateVerify_starts (by rwa [State.heard_lockCheck]) (by rwa [State.heard_verifyBarred])) hf
    (by simp)).imp fun v ⟨hans, hv, hf⟩ => ⟨hans, (hv.n_all _).trans (State.setN_self ..), ?_, hf.mono (by simp) (by simp)⟩
  rw [show v.update = _ from hv.rest .update (by decide), ← State.heard_update s t who 0x2D00 1, ← State.heard_now s t who 0x2D00 1]
  rfl

end Verify

section VerifyDone

variable {crypto : SMap Nat}

/-- The first result of R432 that is not good. -/
def State.firstBad (s : State) (crypto : SMap Nat) : Option Nat :=
  (s.upDies.map (fun d => imageResult (s.n O.lifeCycleState) (s.bootRec d).counter (get 0 crypto d) (s.image d s.spareSlot))).find? (fun r => r != 0)

/-- No verification runs. -/
def State.verified (s : State) : State := { s with update := { s.update with verifying := false } }

theorem only_verified (s : State) : Only s s.verified [.update] [] := only_setUpdate ..

theorem verifyDoneUpdate_idle (h : s.n O.updateStatus ≠ upRUNNING ∨ s.update.verifying = false) : verifyDoneUpdate crypto s = s := if_pos h

theorem verifyDoneUpdate_ends (h1 : s.n O.updateStatus = upRUNNING) (h2 : s.update.verifying = true) : verifyDoneUpdate crypto s =
    match s.firstBad crypto with
    | some r => s.verified.rejected r
    | none => (s.verified.setSpare imVERIFIED).setUp upVERIFIED := by
  have hn : ¬ (s.upStatus ≠ upRUNNING ∨ s.update.verifying = false) := by
    rintro (h | h)
    · exact h h1
    · exact absurd (h2.symm.trans h) (by decide)
  exact if_neg hn

/-- The spare slot marked at the end of a verification. -/
theorem State.verified_marked (s : State) (v : Nat) : (s.verified.setSpare v).slotsAre s s.spareSlot v ∧
    (∃ b, (s.verified.setSpare v).update = { s.update with verifying := false, boot := b }) ∧
      Only s (s.verified.setSpare v) [.update, .blobs] imageKeys := by
  have hm := s.verified.setSpare_marked v
  obtain ⟨b, hb⟩ := hm.update
  exact ⟨hm.slots, ⟨b, by rw [hb]; rfl⟩, ((only_verified s).trans hm.only).mono (by simp) (by simp)⟩

theorem verifyDone_runs_bad (h1 : s.n O.updateStatus = upRUNNING) (h2 : s.update.verifying = true) {r : Nat} (hr : s.firstBad crypto = some r) :
    Runs (.verifyDone t crypto) s fun v => v.n O.updateStatus = upREJECTED ∧ v.n O.lastUpdateResult = r ∧ v.slotsAre s s.spareSlot imREJECTED ∧
      v.update.verifying = false ∧ v.update.holder = s.update.holder ∧ v.update.images = s.update.images ∧
        Only s v [.update, .blobs] (O.updateStatus :: O.lastUpdateResult :: imageKeys) := by
  have he := verifyDoneUpdate_ends (s := s.begin t) (crypto := crypto) h1 h2
  rw [show (s.begin t).firstBad crypto = some r from hr] at he
  obtain ⟨hslots, ⟨b, hb⟩, hf⟩ := (s.begin t).verified_marked imREJECTED
  unfold State.rejected at he
  generalize (s.begin t).verified.setSpare imREJECTED = w at hslots hb hf he
  have hu : ((w.setUp upREJECTED).setN O.lastUpdateResult r).update = w.update := rfl
  refine .intro (congrArg Host.Outcome.next he) ⟨(State.setN_other _ _ _ _ (by decide) (by decide)).trans (State.setN_self ..), State.setN_self ..,
    hslots.of_update hu, ?_, ?_, ?_, ?_⟩
  · rw [hu, hb]
  · rw [hu, hb]
    rfl
  · rw [hu, hb]
    rfl
  · exact (.and (only_setN ..) (.and (only_setN ..) (hf.mono (by simp) (by simp +contextual)) (by simp) (by simp)) (by simp) (by simp) : Only _ _ _ _).begin

theorem verifyDone_runs_good (h1 : s.n O.updateStatus = upRUNNING) (h2 : s.update.verifying = true) (hr : s.firstBad crypto = none) :
    Runs (.verifyDone t crypto) s fun v => v.n O.updateStatus = upVERIFIED ∧ v.slotsAre s s.spareSlot imVERIFIED ∧
      v.update.verifying = false ∧ v.update.holder = s.update.holder ∧ v.update.images = s.update.images ∧
        Only s v [.update, .blobs] (O.updateStatus :: imageKeys) := by
  have he := verifyDoneUpdate_ends (s := s.begin t) (crypto := crypto) h1 h2
  rw [show (s.begin t).firstBad crypto = none from hr] at he
  obtain ⟨hslots, ⟨b, hb⟩, hf⟩ := (s.begin t).verified_marked imVERIFIED
  dsimp only at he
  generalize (s.begin t).verified.setSpare imVERIFIED = w at hslots hb hf he
  have hu : (w.setUp upVERIFIED).update = w.update := rfl
  refine .intro (congrArg Host.Outcome.next he) ⟨State.setN_self .., hslots.of_update hu, ?_, ?_, ?_, ?_⟩
  · rw [hu, hb]
  · rw [hu, hb]
    rfl
  · rw [hu, hb]
    rfl
  · exact (.and (only_setN ..) (hf.mono (by simp) (by simp +contextual)) (by simp) (by simp) : Only _ _ _ _).begin

end VerifyDone

end Sys2Proof.Machine

open Sys2Proof Sys2Proof.Machine

/-- Settles O45, by the outcomes of a block that the holder sends and of a verification. -/
theorem downloads : Obligations.Downloads :=
  ⟨fun _ _ _ _ _ _ h => ⟨imageBlock_runs_locked h, imageBlock_runs_busy h, fun hl hm => ⟨imageBlock_runs_order h hl hm, fun ho =>
      ⟨imageBlock_runs_long h hl hm ho, fun hb => ⟨imageBlock_runs_unwritten h hl hm ho hb, imageBlock_runs_badHeader h hl hm ho hb,
        imageBlock_runs_last h hl hm ho hb, imageBlock_runs_more h hl hm ho hb⟩⟩⟩⟩,
    fun _ _ _ _ h => ⟨updateVerify_runs_locked h, updateVerify_runs_barred h, fun hl h1 h2 => updateVerify_runs_started h hl (by
      unfold State.verifyBarred
      simp [h1, h2])⟩,
    fun s t _ => ⟨fun h => .intro (congrArg Host.Outcome.next (verifyDoneUpdate_idle (s := s.begin t) h)) rfl, fun _ h1 h2 hr =>
      ⟨fun _ ho => verifyDone_runs_bad h1 h2 (hr.trans ho), fun ho => verifyDone_runs_good h1 h2 (hr.trans ho)⟩⟩⟩
end

section
/-! Proofs about activation, confirmation, fallback and the datapath pause (R433 to R436). -/
namespace Sys2Proof.Machine
open Sys2Proof

variable {s : State} {t : Nat}

/-! ### A restart of the cores (R433) -/

section Restart

/-- The parts of a restart of the cores, before the slot objects are shown. -/
def State.coresDown (s : State) (i : Nat) : State :=
  { s with
    access := { s.access with sessions := [], assocs := [], forwarded := [] }
    pkg := { s.pkg with serving := false }
    update := { s.update with oldMicrocode := s.microcode s.update.running, running := i, readmit := s.n O.activeGeneration != 0, readmitFailed := false, warm := true } }

theorem State.restartCores_eq (s : State) (i : Nat) : s.restartCores i = (s.coresDown i).refreshImages := rfl

theorem only_coresDown (s : State) (i : Nat) : Only s (s.coresDown i) [.access, .pkg, .update] [] := by
  have h : ∀ x y z, Only s { s with access := x, pkg := y, update := z } [.access, .pkg, .update] [] := fun x y z =>
    (((Only.same s [.access, .pkg, .update] []).setAccess x (by simp)).setPkg y (by simp)).setUpdate z (by simp)
  exact h _ _ _

/-- What a restart of the cores leaves. -/
structure State.coresRestarted (s u : State) (i : Nat) : Prop where
  restarting : u.restarting i
  only : Only s u [.access, .pkg, .update, .blobs] imageKeys
  boot : ∀ d, u.bootRec d = s.bootRec d
  trial : u.update.trialSince = s.update.trialSince ∧ u.update.checked = s.update.checked ∧ u.update.holder = s.update.holder

theorem State.restartCores_restarted (s : State) (i : Nat) : s.coresRestarted (s.restartCores i) i := by
  have hf := only_refreshImages (s.coresDown i)
  rw [State.restartCores_eq]
  generalize hw : s.coresDown i = w at hf
  have hu : w.refreshImages.update = w.update := hf.rest .update (by decide)
  have hacc : w.refreshImages.access = w.access := hf.rest .access (by decide)
  have hpkg : w.refreshImages.pkg = w.pkg := hf.rest .pkg (by decide)
  exact
    { restarting := by
        unfold State.restarting
        rw [hu, hacc, hpkg, ← hw]
        exact ⟨rfl, rfl, rfl, rfl, rfl⟩
      only := .and hf (hw ▸ (only_coresDown s i).mono (by simp) (by simp)) (by simp) (by simp)
      boot := fun d => by
        rw [State.refreshImages_bootRec, ← hw]
        rfl
      trial := by
        rw [hu, ← hw]
        exact ⟨rfl, rfl, rfl⟩ }

end Restart

/-! ### Activation (R433) -/

section Activate

variable {who : Who} {x : Session}

theorem writeCmd_taken {idx sub v : Nat} (h : s.MayWrite who x idx sub v) (t : Nat) (act : Session → State → Status × State) :
    writeCmd who.sess idx sub v act x (s.begin t).traffic = (Response.of (act x (s.heard t who idx sub)).1, (act x (s.heard t who idx sub)).2) := by
  obtain ⟨r, hr, hv⟩ := h.right
  have hc : ((s.begin t).traffic.writeCheck x.rights idx sub).2 = some r := hr
  have hw : (((s.begin t).traffic).touch who.sess (mux idx sub) false).valueOk idx sub v = true :=
    (s.valueOk_heard t who idx sub idx sub v).trans h.value
  unfold writeCmd State.heard
  simp only [hc, hv, hw, h.outside, Bool.and_self, Bool.not_true, Bool.false_eq_true, if_false, Option.isSome_none]

theorem State.reply_out (s : State) (who : Who) (r : Response) : Out.response who r ∈ (s.reply who r).out := by
  unfold State.reply
  dsimp only
  split
  · rw [State.mailRespond_out]
    simp
  · simp

/-- An activation that is not answered OK is a command like another. -/
theorem execUpdateActivate_refused (h : s.MayWrite who x 0x2D00 1 4) {st : Status}
    (ha : updateActivate who.sess x (s.heard t who 0x2D00 1) = (st, s.heard t who 0x2D00 1)) (hst : st ≠ .ok) :
    execUpdateActivate t who s = .next ((s.heard t who 0x2D00 1).answer who (Response.of st)) := by
  unfold execUpdateActivate
  rw [serve_taken (h.toTakes.begin t), writeCmd_taken h, ha]
  dsimp only
  rw [if_neg (show ¬ (Response.of st).status = .ok from hst)]

theorem execUpdateActivate_ok (h : s.MayWrite who x 0x2D00 1 4) {w : State} (ha : updateActivate who.sess x (s.heard t who 0x2D00 1) = (.ok, w))
    (hw : w.access.sessions = []) : execUpdateActivate t who s = .next (w.reply who (Response.of .ok)) := by
  have hs : (w.reply who (Response.of .ok)).session? who.sess = none := by
    unfold State.session?
    rw [(only_reply w who _).rest .access (by decide), hw]
    rfl
  unfold execUpdateActivate
  rw [serve_taken (h.toTakes.begin t), writeCmd_taken h, ha]
  dsimp only
  rw [if_pos (show (Response.of .ok).status = .ok from rfl)]
  unfold State.answer
  rw [hs]

/-- The trial is marked on every healthy die. -/
def State.trialBoots (s : State) : State := s.allBoot fun r => { r with trial := s.spareSlot, trialStarts := 1 }

/-- The trial begins now, on the dies and links in service. -/
def State.trialTimed (s : State) : State :=
  { s with update := { s.update with
    trialSince := some s.now, checked := false, atActivation := maskOf s.upDies,
    linksAt := (s.dies.flatMap (fun d => (List.range 4).map (fun p => 4 * d + p))).filter (fun q => s.saddle (q / 4) (q % 4) == linkSERVICE) } }

/-- The activation of a slot is logged. -/
def State.trialLogged (s : State) (i : Nat) : State :=
  s.logLead Ev.updateActivated 0xFFFF [(4, fld (s.image s.pkg.lead i) 8 4), (4, fld (s.image s.pkg.lead i) 0x0C 4)]

/-- A trial that begins, before the cores restart. -/
def State.trialBegun (s : State) : State := ((s.trialBoots.setUp upTRIAL).unlock.trialTimed).trialLogged s.spareSlot

theorem updateActivate_locked {n : Nat} (hl : s.lockCheck n ≠ .ok) : updateActivate n x s = (s.lockCheck n, s) := lockCheck_refuses hl

theorem State.mayActivate_iff (s : State) : s.mayActivate = true ↔
    ¬(!((s.upStatus == upVERIFIED || s.upStatus == upCLAIMED) && (s.bootRec s.pkg.lead).slot s.spareSlot == imVERIFIED) ∨ s.commitStatus = csRUNNING ∨
        s.commitStatus = csSWITCHPENDING ∨ s.n O.migrationStatus = msRUNNING ∨ s.n O.lifeCycleCommandStatus = 1 ∨
        s.n O.tamperState ≠ 0 ∨ s.emgActive = true) := by
  unfold State.mayActivate State.upStatus
  simp only [Bool.and_eq_true, bne_iff_ne, beq_iff_eq, Bool.not_eq_true', not_or, Bool.not_eq_true, ne_eq, not_not, Bool.not_eq_false]
  tauto

theorem updateActivate_barred {n : Nat} (hl : s.lockCheck n = .ok) (hm : s.mayActivate = false) : updateActivate n x s = (.deviceState, s) := by
  unfold updateActivate
  rw [hl]
  exact if_pos (not_not.mp fun hn => absurd ((State.mayActivate_iff s).mpr hn) (by rw [hm]; decide))

theorem updateActivate_begins {n : Nat} (hl : s.lockCheck n = .ok) (hm : s.mayActivate = true) :
    updateActivate n x s = (.ok, s.trialBegun.restartCores s.spareSlot) := by
  unfold updateActivate
  rw [hl]
  exact if_neg ((State.mayActivate_iff s).mp hm)

/-- What the marking of a trial leaves. -/
structure State.trialMarked (s u : State) : Prop where
  only : Only s u [.update, .logs] [O.updateStatus, O.lockHolder]
  status : u.n O.updateStatus = upTRIAL
  holder : u.update.holder = none
  since : u.update.trialSince = some s.now
  checked : u.update.checked = false
  boots : ∀ d ∈ s.upDies, (u.bootRec d).trial = s.spareSlot ∧ (u.bootRec d).trialStarts = 1

theorem State.trialBegun_marked (s : State) : s.trialMarked s.trialBegun := by
  have hb : ∀ d ∈ s.upDies, (s.trialBoots.bootRec d).trial = s.spareSlot ∧ (s.trialBoots.bootRec d).trialStarts = 1 := fun d hd => by
    unfold State.trialBoots
    rw [State.allBoot_bootRec _ hd]
    exact ⟨rfl, rfl⟩
  have hf : Only s s.trialBoots [.update] [] := only_allBoot ..
  have hnow : s.trialBoots.now = s.now := by
    obtain ⟨b, hr⟩ := s.allBoot_rest fun r => { r with trial := s.spareSlot, trialStarts := 1 }
    unfold State.trialBoots
    rw [hr]
  unfold State.trialBegun
  generalize s.trialBoots = w at hb hf hnow
  have hu := (w.setUp upTRIAL).unlock_free
  have ht : Only (w.setUp upTRIAL).unlock (w.setUp upTRIAL).unlock.trialTimed [.update] [] := only_setUpdate ..
  have hl : Only (w.setUp upTRIAL).unlock.trialTimed ((w.setUp upTRIAL).unlock.trialTimed.trialLogged s.spareSlot) [.logs] [] := only_logLead ..
  have hupd : ((w.setUp upTRIAL).unlock.trialTimed.trialLogged s.spareSlot).update = (w.setUp upTRIAL).unlock.trialTimed.update :=
    hl.rest .update (by decide)
  exact
    { only := ((((hf.trans (only_setN ..)).trans hu.only).trans ht).trans hl).mono (by simp) (by simp)
      status := ((ht.trans hl).n_eq (by decide) (by decide)).trans ((hu.only.n_eq (by decide) (by decide)).trans (State.setN_self ..))
      holder := by
        rw [hupd]
        rfl
      since := by
        rw [hupd, ← hnow]
        rfl
      checked := by
        rw [hupd]
        rfl
      boots := fun d hd => by
        have hboot : ((w.setUp upTRIAL).unlock.trialTimed.trialLogged s.spareSlot).bootRec d = w.bootRec d := by
          unfold State.bootRec
          rw [hupd]
          rfl
        rw [hboot]
        exact hb d hd }

theorem updateActivate_runs_locked (h : s.MayWrite who x 0x2D00 1 4) (hl : s.lockCheck who.sess ≠ .ok) : Runs (.updateActivate t who) s fun v =>
    v.answered who (s.lockCheck who.sess) ∧ Only s v [.access, .power, .bridge] [] := by
  have ha := updateActivate_locked (s := s.heard t who 0x2D00 1) (x := x) (by rwa [State.heard_lockCheck])
  rw [State.heard_lockCheck] at ha
  have he : exec (.updateActivate t who) s = .next _ := execUpdateActivate_refused h ha hl
  exact (Runs.of_answer he (h.toTakes.heard_session ..)).imp fun v ⟨hans, hv⟩ =>
    ⟨hans, only_heard_answer hv⟩

theorem State.heard_mayActivate (s : State) (t : Nat) (who : Who) (idx sub : Nat) : (s.heard t who idx sub).mayActivate = s.mayActivate := by
  have he : (s.heard t who idx sub).emgActive = s.emgActive := (only_heard ..).flag_eq _ _
  unfold State.mayActivate State.commitStatus
  rw [he, State.heard_bootRec, State.heard_spareSlot, State.heard_pkg]
  simp only [State.heard_n]

theorem updateActivate_runs_barred (h : s.MayWrite who x 0x2D00 1 4) (hl : s.lockCheck who.sess = .ok) (hm : s.mayActivate = false) :
    Runs (.updateActivate t who) s fun v => v.answered who .deviceState ∧ Only s v [.access, .power, .bridge] [] := by
  have ha := updateActivate_barred (s := s.heard t who 0x2D00 1) (x := x) (by rwa [State.heard_lockCheck]) (by rwa [State.heard_mayActivate])
  have he : exec (.updateActivate t who) s = .next _ := execUpdateActivate_refused h ha (by decide)
  exact (Runs.of_answer he (h.toTakes.heard_session ..)).imp fun v ⟨hans, hv⟩ =>
    ⟨hans, only_heard_answer hv⟩

theorem updateActivate_runs_trial (h : s.MayWrite who x 0x2D00 1 4) (hl : s.lockCheck who.sess = .ok) (hm : s.mayActivate = true) :
    Runs (.updateActivate t who) s fun v => v.answered who .ok ∧ v.n O.updateStatus = upTRIAL ∧ v.update.holder = none ∧
      v.update.trialSince = some (s.localAt t) ∧ v.update.checked = false ∧
      (∀ d ∈ s.upDies, (v.bootRec d).trial = s.spareSlot ∧ (v.bootRec d).trialStarts = 1) ∧ v.restarting s.spareSlot ∧
      Only s v [.access, .power, .bridge, .update, .blobs, .pkg, .logs] (O.updateStatus :: O.lockHolder :: imageKeys) := by
  have ha := updateActivate_begins (s := s.heard t who 0x2D00 1) (x := x) (by rwa [State.heard_lockCheck]) (by rwa [State.heard_mayActivate])
  have hb := (s.heard t who 0x2D00 1).trialBegun_marked
  have hr := (s.heard t who 0x2D00 1).trialBegun.restartCores_restarted (s.heard t who 0x2D00 1).spareSlot
  have hsess : ((s.heard t who 0x2D00 1).trialBegun.restartCores (s.heard t who 0x2D00 1).spareSlot).access.sessions = [] := hr.restarting.2.1
  have he := execUpdateActivate_ok h ha hsess
  generalize (s.heard t who 0x2D00 1).trialBegun.restartCores (s.heard t who 0x2D00 1).spareSlot = w at hr he
  have hv := only_reply w who (Response.of .ok)
  have hu : (w.reply who (Response.of .ok)).update = w.update := hv.rest .update (by decide)
  refine .intro he ⟨State.reply_out .., ?_, ?_, ?_, ?_, fun d hd => ?_, ?_, ?_⟩
  · exact (hv.n_all _).trans ((hr.only.n_eq (by decide) (by decide)).trans hb.status)
  · rw [hu, hr.trial.2.2, hb.holder]
  · rw [hu, hr.trial.1, hb.since, State.heard_now]
  · rw [hu, hr.trial.2.1, hb.checked]
  · have hboot : (w.reply who (Response.of .ok)).bootRec d = w.bootRec d := by
      unfold State.bootRec
      rw [hu]
    rw [hboot, hr.boot, ← State.heard_spareSlot s t who 0x2D00 1]
    exact hb.boots d (by rwa [State.heard_upDies])
  · unfold State.restarting
    rw [hu, show (w.reply who (Response.of .ok)).access = w.access from hv.rest .access (by decide),
      show (w.reply who (Response.of .ok)).pkg = w.pkg from hv.rest .pkg (by decide), ← State.heard_spareSlot s t who 0x2D00 1]
    exact hr.restarting
  · refine .and hv (.and hr.only ((((only_heard s t who 0x2D00 1).trans hb.only)).mono (by simp) ?_) (by simp) ?_) (by simp) (by simp)
    · simp
    · intro k hk
      simp [hk]

end Activate

/-! ### Confirmation and fallback (R435, R436) -/

section Confirm

variable {who : Who} {x : Session}

/-- The trial image's record, confirmed. -/
def State.confirmedBoots (s : State) : State :=
  s.allBoot fun r => { r with
    confirmed := (s.bootRec s.pkg.lead).trial, trial := 0xFF, trialStarts := 0, failedStarts := 0
    counter := max r.counter (fld (s.image s.pkg.lead (s.bootRec s.pkg.lead).trial) 0x0C 4) }

/-- No trial runs. -/
def State.trialOver (s : State) : State := { s with update := { s.update with trialSince := none, checked := false } }

theorem State.confirmTrial_eq (s : State) : s.confirmTrial =
    ((s.confirmedBoots.trialOver.setUp upCONFIRMED).refreshImages).logLead Ev.updateConfirmed 0xFFFF
      [(4, fld (((s.confirmedBoots.trialOver.setUp upCONFIRMED).refreshImages).image
          ((s.confirmedBoots.trialOver.setUp upCONFIRMED).refreshImages).pkg.lead (s.bootRec s.pkg.lead).trial) 8 4),
        (4, ((s.confirmedBoots.trialOver.setUp upCONFIRMED).refreshImages).n O.antiRollbackCounter)] := rfl

theorem State.confirmTrial_spec (s : State) : s.confirmedIn s.confirmTrial ∧
    Only s s.confirmTrial [.update, .blobs, .logs] (O.updateStatus :: imageKeys) := by
  have hb : ∀ d ∈ s.upDies, (s.confirmedBoots.bootRec d).confirmed = (s.bootRec s.pkg.lead).trial ∧ (s.confirmedBoots.bootRec d).trial = 0xFF ∧
      (s.confirmedBoots.bootRec d).trialStarts = 0 ∧ (s.confirmedBoots.bootRec d).failedStarts = 0 ∧
      (s.confirmedBoots.bootRec d).counter = max (s.bootRec d).counter (fld (s.image s.pkg.lead (s.bootRec s.pkg.lead).trial) 0x0C 4) := fun d hd => by
    unfold State.confirmedBoots
    rw [State.allBoot_bootRec _ hd]
    exact ⟨rfl, rfl, rfl, rfl, rfl⟩
  have hf : Only s s.confirmedBoots [.update] [] := only_allBoot ..
  rw [State.confirmTrial_eq]
  generalize s.confirmedBoots = w at hb hf
  have hr := only_refreshImages (w.trialOver.setUp upCONFIRMED)
  have hl := only_logLead (w.trialOver.setUp upCONFIRMED).refreshImages Ev.updateConfirmed 0xFFFF
    [(4, fld ((w.trialOver.setUp upCONFIRMED).refreshImages.image (w.trialOver.setUp upCONFIRMED).refreshImages.pkg.lead (s.bootRec s.pkg.lead).trial) 8 4),
      (4, (w.trialOver.setUp upCONFIRMED).refreshImages.n O.antiRollbackCounter)]
  generalize (w.trialOver.setUp upCONFIRMED).refreshImages.logLead _ _ _ = v at hl
  have hu : v.update = w.trialOver.update := (hl.rest .update (by decide) :).trans (hr.rest .update (by decide))
  refine ⟨⟨?_, ?_, ?_, fun d hd => ?_⟩, ?_⟩
  · exact (hl.n_all _).trans ((hr.n_eq (by decide) (by decide)).trans (State.setN_self ..))
  · rw [hu]
    rfl
  · rw [hu]
    rfl
  · have hboot : v.bootRec d = w.bootRec d := by
      unfold State.bootRec
      rw [hu]
      rfl
    rw [hboot]
    exact hb d hd
  · exact ((((hf.trans (only_setUpdate w _)).trans (only_setN ..)).trans hr).trans hl).mono (by simp) (by simp)

theorem State.confirmedIn.of_update {v w : State} (h : s.confirmedIn v) (hu : w.update = v.update) (hn : w.n O.updateStatus = v.n O.updateStatus) :
    s.confirmedIn w := by
  unfold State.confirmedIn State.bootRec at h ⊢
  rw [hu, hn]
  exact h

theorem State.confirmedIn_heard {v : State} (h : (s.heard t who 0x2D00 1).confirmedIn v) : s.confirmedIn v := by
  unfold State.confirmedIn at h ⊢
  simpa only [State.heard_bootRec, State.heard_image, State.heard_pkg, State.heard_upDies] using h

theorem updateConfirm_barred (h : s.update.trialSince = none ∨ s.update.checked = false) : updateConfirm x s = (.deviceState, s) :=
  if_pos (h.imp_left fun hn => by rw [hn]; rfl)

theorem updateConfirm_confirms (h : s.update.trialSince.isSome = true) (hc : s.update.checked = true) : updateConfirm x s = (.ok, s.confirmTrial) :=
  if_neg (by simp [hc, Option.isSome_iff_ne_none.mp h])

theorem updateConfirm_runs_barred (h : s.MayWrite who x 0x2D00 1 5) (hb : s.update.trialSince = none ∨ s.update.checked = false) :
    Runs (.updateConfirm t who) s fun v => v.answered who .deviceState ∧ Only s v [.access, .power, .bridge] [] := by
  have ha := updateConfirm_barred (s := s.heard t who 0x2D00 1) (x := x) (by rwa [State.heard_update])
  exact (h.runs_refused updateConfirm rfl ha).imp fun v ⟨hans, hv⟩ => ⟨hans, hv.mono (by simp) (by simp)⟩

theorem updateConfirm_runs_confirmed (h : s.MayWrite who x 0x2D00 1 5) (hs : s.update.trialSince.isSome = true) (hc : s.update.checked = true) :
    Runs (.updateConfirm t who) s fun v => v.answered who .ok ∧ s.confirmedIn v ∧
      Only s v [.access, .power, .bridge, .update, .blobs, .logs] (O.updateStatus :: imageKeys) := by
  have ha := updateConfirm_confirms (s := s.heard t who 0x2D00 1) (x := x) (by rwa [State.heard_update]) (by rwa [State.heard_update])
  obtain ⟨hcon, hf⟩ := (s.heard t who 0x2D00 1).confirmTrial_spec
  generalize (s.heard t who 0x2D00 1).confirmTrial = w at ha hcon hf
  exact (h.runs updateConfirm rfl ha hf (by simp)).imp fun v ⟨hans, hv, hall⟩ =>
    ⟨hans, (State.confirmedIn_heard hcon).of_update (hv.rest .update (by decide)) (hv.n_all _), hall.mono (by simp) (by simp)⟩

/-- The self-checks of the trial are noted. -/
def State.checkedNow (s : State) : State := { s with update := { s.update with checked := true } }

theorem selfChecksPassed_none (h : s.update.trialSince = none ∨ s.selfChecks = false) : selfChecksPassed s = s :=
  if_pos (h.imp_left fun hn => by rw [hn]; rfl)

theorem selfChecksPassed_noted (h : s.update.trialSince.isSome = true) (hc : s.selfChecks = true) (hm : s.n O.confirmationMode ≠ 0) :
    selfChecksPassed s = s.checkedNow :=
  (if_neg (by simp [hc, Option.isSome_iff_ne_none.mp h])).trans (if_neg hm)

theorem selfChecksPassed_confirms (h : s.update.trialSince.isSome = true) (hc : s.selfChecks = true) (hm : s.n O.confirmationMode = 0) :
    selfChecksPassed s = s.checkedNow.confirmTrial :=
  (if_neg (by simp [hc, Option.isSome_iff_ne_none.mp h])).trans (if_pos hm)

theorem selfChecksPassed_runs_noted (h : s.update.trialSince.isSome = true) (hc : (s.begin t).selfChecks = true)
    (hm : s.n O.confirmationMode ≠ 0) :
    Runs (.selfChecksPassed t) s fun v => v.update = { s.update with checked := true } ∧ Only s v [.update] [] :=
  .intro (congrArg Host.Outcome.next (selfChecksPassed_noted (s := s.begin t) h hc (by rwa [State.begin_n])))
    ⟨rfl, (only_setUpdate (s.begin t) _).begin⟩

theorem State.confirmedIn_checkedNow {v : State} (h : (s.begin t).checkedNow.confirmedIn v) : s.confirmedIn v := h

theorem selfChecksPassed_runs_confirmed (h : s.update.trialSince.isSome = true) (hc : (s.begin t).selfChecks = true)
    (hm : s.n O.confirmationMode = 0) :
    Runs (.selfChecksPassed t) s fun v => s.confirmedIn v ∧ Only s v [.update, .blobs, .logs] (O.updateStatus :: imageKeys) := by
  have ha := selfChecksPassed_confirms (s := s.begin t) h hc (by rwa [State.begin_n])
  obtain ⟨hcon, hf⟩ := (s.begin t).checkedNow.confirmTrial_spec
  have hk : Only (s.begin t) (s.begin t).checkedNow [.update] [] := only_setUpdate (s.begin t) _
  generalize (s.begin t).checkedNow.confirmTrial = w at ha hcon hf
  exact .intro (congrArg Host.Outcome.next ha) ⟨State.confirmedIn_checkedNow hcon, ((hk.trans hf).mono (by simp) (by simp)).begin⟩

/-! ### Fallback (R436) -/

/-- The boot records of a trial that fell back. -/
def State.fallenBoots (s : State) : State := s.allBoot fun r => { r with trial := 0xFF, trialStarts := 0, flags := setBit r.flags 1 true }

/-- The cause of a fallback is shown. -/
def State.fallenShown (s : State) (cause : Nat) : State := (s.fallenBoots.trialOver.setN O.lastUpdateResult cause).setUp upFELLBACK

theorem State.fallBack_eq (s : State) (cause : Nat) : s.fallBack cause =
    ((s.fallenShown cause).logLead Ev.updateFellBack 0xFFFF [(1, cause), (4, fld (s.image s.pkg.lead s.update.running) 8 4)]).restartCores
      (((s.fallenShown cause).logLead Ev.updateFellBack 0xFFFF [(1, cause), (4, fld (s.image s.pkg.lead s.update.running) 8 4)]).bootRec
        ((s.fallenShown cause).logLead Ev.updateFellBack 0xFFFF [(1, cause), (4, fld (s.image s.pkg.lead s.update.running) 8 4)]).pkg.lead).confirmed := rfl

/-- What a fallback leaves. -/
structure State.fellBack (s u : State) (cause : Nat) : Prop where
  status : u.n O.updateStatus = upFELLBACK
  since : u.update.trialSince = none
  restarting : u.restarting (s.bootRec s.pkg.lead).confirmed
  result : u.n O.lastUpdateResult = cause
  boots : ∀ d ∈ s.upDies, (u.bootRec d).trial = 0xFF ∧ (u.bootRec d).trialStarts = 0 ∧ bit (u.bootRec d).flags 1 = true
  only : Only s u [.access, .update, .blobs, .pkg, .logs] (O.updateStatus :: O.lastUpdateResult :: imageKeys)

theorem State.fallBack_spec (s : State) (cause : Nat) : s.fellBack (s.fallBack cause) cause := by
  have hb : ∀ d ∈ s.upDies, (s.fallenBoots.bootRec d).trial = 0xFF ∧ (s.fallenBoots.bootRec d).trialStarts = 0 ∧
      bit (s.fallenBoots.bootRec d).flags 1 = true := fun d hd => by
    unfold State.fallenBoots
    rw [State.allBoot_bootRec _ hd]
    exact ⟨rfl, rfl, (bit_setBit ..).trans (if_pos rfl)⟩
  have hcon : ∀ d, (s.fallenBoots.bootRec d).confirmed = (s.bootRec d).confirmed :=
    s.allBoot_keeps BootRec.confirmed (f := fun r => { r with trial := 0xFF, trialStarts := 0, flags := setBit r.flags 1 true }) fun _ _ => rfl
  have hf : Only s s.fallenBoots [.update] [] := only_allBoot ..
  rw [State.fallBack_eq]
  unfold State.fallenShown
  generalize s.fallenBoots = w at hb hcon hf
  have ho : Only w ((w.trialOver.setN O.lastUpdateResult cause).setUp upFELLBACK) [.update] [O.updateStatus, O.lastUpdateResult] :=
    (((only_setUpdate w _).trans (only_setN ..)).trans (only_setN ..)).mono (by simp) (by simp)
  have hst : ((w.trialOver.setN O.lastUpdateResult cause).setUp upFELLBACK).n O.updateStatus = upFELLBACK := State.setN_self ..
  have hre : ((w.trialOver.setN O.lastUpdateResult cause).setUp upFELLBACK).n O.lastUpdateResult = cause :=
    (State.setN_other _ _ _ _ (by decide) (by decide)).trans (State.setN_self ..)
  have hupd : ((w.trialOver.setN O.lastUpdateResult cause).setUp upFELLBACK).update = { w.update with trialSince := none, checked := false } := rfl
  generalize (w.trialOver.setN O.lastUpdateResult cause).setUp upFELLBACK = u at ho hst hre hupd
  have hl := only_logLead u Ev.updateFellBack 0xFFFF [(1, cause), (4, fld (s.image s.pkg.lead s.update.running) 8 4)]
  generalize u.logLead Ev.updateFellBack 0xFFFF _ = v at hl
  have hvu : v.update = { w.update with trialSince := none, checked := false } := (hl.rest .update (by decide) :).trans hupd
  have hboot : ∀ d, v.bootRec d = w.bootRec d := fun d => by
    unfold State.bootRec
    rw [hvu]
  have hlead : v.pkg.lead = s.pkg.lead := congrArg PkgSt.lead
    ((hl.rest .pkg (by decide) :).trans ((ho.rest .pkg (by decide) :).trans (hf.rest .pkg (by decide))))
  rw [hboot, hlead, hcon]
  have hr := v.restartCores_restarted (s.bootRec s.pkg.lead).confirmed
  exact
    { status := (hr.only.n_eq (by decide) (by decide)).trans ((hl.n_all _).trans hst)
      since := by rw [hr.trial.1, hvu]
      restarting := hr.restarting
      result := (hr.only.n_eq (by decide) (by decide)).trans ((hl.n_all _).trans hre)
      boots := fun d hd => by
        rw [hr.boot, hboot]
        exact hb d hd
      only := .and hr.only (((hf.trans ho).trans hl).mono (by simp) (by simp)) (by simp) fun k hk => by simp [hk] }

theorem windowExpired_none (h : s.update.trialSince = none) : windowExpired s = s := by
  unfold windowExpired
  rw [h]

theorem windowExpired_early {a : Nat} (h : s.update.trialSince = some a) (hn : s.now < a + s.n O.confirmationWindow * 1000000000) :
    windowExpired s = s := by
  unfold windowExpired
  rw [h]
  exact if_pos hn

theorem windowExpired_falls {a : Nat} (h : s.update.trialSince = some a) (hn : a + s.n O.confirmationWindow * 1000000000 ≤ s.now) :
    windowExpired s = s.fallBack (if s.update.readmitFailed = true then urREADMIT else if s.update.checked = true then urWINDOW
      else if s.selfChecks = true then urWINDOW else urCHECKS) := by
  unfold windowExpired
  rw [h]
  exact if_neg (Nat.not_lt.mpr hn)

theorem confirmationWindowExpired_runs_falls {a : Nat} (h : s.update.trialSince = some a)
    (hn : a + s.n O.confirmationWindow * 1000000000 ≤ s.localAt t) : Runs (.confirmationWindowExpired t) s fun v =>
      v.n O.updateStatus = upFELLBACK ∧ v.update.trialSince = none ∧ v.restarting (s.bootRec s.pkg.lead).confirmed ∧
      v.n O.lastUpdateResult = (if s.update.readmitFailed = true then urREADMIT else if s.update.checked = true then urWINDOW
        else if (s.begin t).selfChecks = true then urWINDOW else urCHECKS) ∧
      (∀ d ∈ s.upDies, (v.bootRec d).trial = 0xFF ∧ (v.bootRec d).trialStarts = 0 ∧ bit (v.bootRec d).flags 1 = true) ∧
      Only s v [.access, .update, .blobs, .pkg, .logs] (O.updateStatus :: O.lastUpdateResult :: imageKeys) := by
  have ha := windowExpired_falls (s := s.begin t) h (by rwa [State.begin_n])
  have hf := (s.begin t).fallBack_spec (if s.update.readmitFailed = true then urREADMIT else if s.update.checked = true then urWINDOW
    else if (s.begin t).selfChecks = true then urWINDOW else urCHECKS)
  exact .intro (congrArg Host.Outcome.next ha) ⟨hf.status, hf.since, hf.restarting, hf.result, hf.boots, hf.only.begin⟩

end Confirm

/-! ### The datapath pause (R434) -/

section Pause

theorem only_drainLane (s : State) (n : Nat) : Only s (s.drainLane n) [.lanes, .fwd] [laneKey O.drained n] := by
  have h : ∀ (w : State) x, Only w { w with fwd := x } [.fwd] [] := fun w x => (Only.same w [.fwd] []).setFwd x (by simp)
  unfold State.drainLane
  exact (((only_updLane ..).trans (h _ _)).trans (only_addTo ..)).mono (by simp) (by simp)

theorem State.drainLane_emptied (s : State) (a n : Nat) (h : (s.lane n).queues = [] ∧ (s.lane n).preempted = none) :
    ((s.drainLane a).lane n).queues = [] ∧ ((s.drainLane a).lane n).preempted = none := by
  by_cases hn : n = a
  · rw [hn, State.drainLane_lane]
    exact ⟨rfl, rfl⟩
  · have hl : (s.drainLane a).lane n = s.lane n :=
      State.lane_updLane_ne s a n (fun l => { l with queues := [], preempted := none }) hn
    rw [hl]
    exact h

/-- Every lane of the device is drained. -/
def State.drainAll (s : State) : State := (List.range s.laneCount).foldl (fun (s : State) n => s.drainLane n) s

/-- The lanes transmit idle for up to 1 ms from now. -/
def State.pausedNow (s : State) : State := { s with pkg := { s.pkg with pausedTill := s.now + 1000000 } }

theorem only_drainAll (s : State) : Only s s.drainAll [.lanes, .fwd] ((List.range s.laneCount).map (laneKey O.drained)) :=
  .foldl _ _ (Only.same ..) fun w n hn hw => .and (only_drainLane w n) hw (by simp) fun k hk => by
    rw [List.mem_singleton.mp hk]
    exact List.mem_map_of_mem hn

theorem State.drainAll_emptied (s : State) : ∀ n, n < s.laneCount → (s.drainAll.lane n).queues = [] ∧ (s.drainAll.lane n).preempted = none :=
  fun n hn => foldl_each (Q := fun w n => (w.lane n).queues = [] ∧ (w.lane n).preempted = none)
    (fun w d => by
      rw [State.drainLane_lane]
      exact ⟨rfl, rfl⟩) (fun w a d h => w.drainLane_emptied a d h) _ s n (List.mem_range.mpr hn)

theorem datapathPause_waits (h : s.n O.datapathPauseTick = 0 ∨ s.tickNo < s.n O.datapathPauseTick) : datapathPause s = s := if_pos h

theorem datapathPause_drains (h : s.n O.datapathPauseTick ≠ 0) (ht : s.n O.datapathPauseTick ≤ s.tickNo) :
    datapathPause s = s.drainAll.pausedNow.setN O.datapathPauseTick 0 := if_neg (by omega)

theorem datapathPause_runs_drains (h : s.n O.datapathPauseTick ≠ 0) (ht : s.n O.datapathPauseTick ≤ s.tickNo) :
    Runs (.datapathPause t) s fun v => v.n O.datapathPauseTick = 0 ∧ v.pkg = { s.pkg with pausedTill := s.localAt t + 1000000 } ∧
      (∀ n, n < s.laneCount → (v.lane n).queues = [] ∧ (v.lane n).preempted = none) ∧
      Only s v [.pkg, .lanes, .fwd] (O.datapathPauseTick :: (List.range s.laneCount).map (laneKey O.drained)) := by
  have ha := datapathPause_drains (s := s.begin t) (by rwa [State.begin_n]) (by rwa [State.tickNo_def, State.begin_n, State.begin_n])
  have hd := only_drainAll (s.begin t)
  have he := (s.begin t).drainAll_emptied
  have hnow : (s.begin t).drainAll.now = (s.begin t).now :=
    now_of_core (core_foldl _ (fun w n => State.drainLane_core (R := 1536) rfl w n) _ _) rfl
  generalize (s.begin t).drainAll = w at ha hd he hnow
  have hp : Only w w.pausedNow [.pkg] [] := (Only.same w [.pkg] []).setPkg _ (by simp)
  refine .intro (congrArg Host.Outcome.next ha) ⟨State.setN_self .., ?_, he, ?_⟩
  · show { w.pkg with pausedTill := w.now + 1000000 } = _
    rw [hnow, show w.pkg = (s.begin t).pkg from hd.rest .pkg (by decide)]
    rfl
  · exact (((hd.trans hp).trans (only_setN ..)).mono (by simp) fun k hk => by simpa [State.laneCount, or_comm] using hk).begin

end Pause

end Sys2Proof.Machine
open Sys2Proof Sys2Proof.Machine

/-- Settles O46, clause by clause: what an activation marks, what confirms it, how it falls back, and the pause. -/
theorem activations : Obligations.Activations :=
  ⟨fun _ _ _ _ h => ⟨updateActivate_runs_locked h, updateActivate_runs_barred h, updateActivate_runs_trial h⟩,
    fun _ _ _ _ h => ⟨updateConfirm_runs_barred h, updateConfirm_runs_confirmed h⟩,
    fun s t => ⟨fun h => .intro (congrArg Host.Outcome.next (selfChecksPassed_none (s := s.begin t) h)) rfl,
      fun h hc => ⟨selfChecksPassed_runs_noted h hc, selfChecksPassed_runs_confirmed h hc⟩⟩,
    fun s t => ⟨fun h => .intro (congrArg Host.Outcome.next (windowExpired_none (s := s.begin t) h)) rfl,
      fun a h => ⟨fun hn => .intro (congrArg Host.Outcome.next (windowExpired_early (s := s.begin t) h (by rwa [State.begin_n]))) rfl,
        confirmationWindowExpired_runs_falls h⟩⟩,
    fun s t => ⟨fun h => .intro (congrArg Host.Outcome.next (datapathPause_waits (s := s.begin t) (by rwa [State.tickNo_def, State.begin_n, State.begin_n]))) rfl,
      datapathPause_runs_drains⟩⟩
end

section
/-! Proofs about the recovery protocol (R427, R428, R325). -/
namespace Sys2Proof.Machine
open Sys2Proof

variable {s : State} {t src seq : Nat}

/-! ### A request and its answer -/

theorem recoveryServe_unanswered {k off : Nat} {act : State → Nat × Bytes × State} (h : s.recoveryAnswers k = false) :
    recoveryServe k src seq off act s = s := by
  unfold recoveryServe
  rw [h]
  rfl

theorem recoveryServe_repeated {k off : Nat} {act : State → Nat × Bytes × State} {r : Bytes} (h : s.recoveryAnswers k = true)
    (hr : s.update.recLast = some (65536 * src + seq, r)) : recoveryServe k src seq off act s = s.emit (.message "recovery" src r) := by
  unfold recoveryServe
  rw [h, hr]
  exact if_pos rfl

theorem recoveryServe_new {k off : Nat} {act : State → Nat × Bytes × State} (h : s.hears k src seq) :
    recoveryServe k src seq off act s = recoveryServe.run k src seq off act s := by
  obtain ⟨hk, hl⟩ := h
  unfold recoveryServe
  rw [hk]
  split
  next hn => exact absurd hn (by decide)
  next =>
    split
    next q r hq => exact if_neg (hl q r hq)
    next => rfl

/-- The recovery commands are served by the protocol. -/
theorem exec_recovery {c : Instr} {k off : Nat} (h : isRecovery t src seq c k off) :
    ∃ act, exec c s = .next (recoveryServe k src seq off act (s.begin t)) := by
  obtain ⟨rfl, rfl, rfl⟩ | ⟨b, rfl, rfl, rfl⟩ | ⟨d, rfl, rfl⟩ | ⟨r, rfl, rfl, rfl⟩ | ⟨rfl, rfl, rfl⟩ | ⟨rfl, rfl, rfl⟩ | ⟨d, b, rfl, rfl, rfl⟩ := h
  all_goals exact ⟨_, rfl⟩

theorem recovery_runs_unanswered {c : Instr} {k off : Nat} (h : isRecovery t src seq c k off) (ha : s.recoveryAnswers k = false) :
    Runs c s (· = s.begin t) := by
  obtain ⟨act, he⟩ := exec_recovery (s := s) h
  exact .intro (he.trans (congrArg Host.Outcome.next (recoveryServe_unanswered ha))) rfl

theorem recovery_runs_repeated {c : Instr} {k off : Nat} {r : Bytes} (h : isRecovery t src seq c k off) (ha : s.recoveryAnswers k = true)
    (hr : s.update.recLast = some (65536 * src + seq, r)) : Runs c s fun v => .message "recovery" src r ∈ v.out ∧ Only s v [] [] := by
  obtain ⟨act, he⟩ := exec_recovery (s := s) h
  refine .intro (he.trans (congrArg Host.Outcome.next (recoveryServe_repeated (s := s.begin t) ha hr))) ⟨?_, (only_emit ..).begin⟩
  exact List.mem_append_right _ (List.mem_singleton.mpr rfl)

/-- What an answer leaves of the state the request left. -/
structure State.recAnswered (w v : State) (k st src seq off : Nat) (d : Bytes) : Prop where
  replied : v.replied k st src seq off d
  update : v.update = { w.update with recLast := v.update.recLast }
  only : Only w v [.update] []

namespace State.recAnswered

variable {w v : State} {k st off : Nat} {d : Bytes}

theorem bootRec (h : w.recAnswered v k st src seq off d) (e : Nat) : v.bootRec e = w.bootRec e := by
  unfold State.bootRec
  rw [h.update]

theorem image (h : w.recAnswered v k st src seq off d) (e i : Nat) : v.image e i = w.image e i := by
  unfold State.image
  rw [h.update]

theorem recBytes (h : w.recAnswered v k st src seq off d) : v.update.recBytes = w.update.recBytes := by rw [h.update]

theorem recLock (h : w.recAnswered v k st src seq off d) : v.update.recLock = w.update.recLock := by rw [h.update]

theorem recState (h : w.recAnswered v k st src seq off d) : v.update.recState = w.update.recState := by rw [h.update]

theorem images (h : w.recAnswered v k st src seq off d) : v.update.images = w.update.images := by rw [h.update]

theorem of_only {P : List Part} {K : List Nat} {q : State} (h : w.recAnswered v k st src seq off d) (hq : Only q w P K) :
    Only q v (.update :: P) K := .and h.only (hq.mono (by simp) (by simp)) (by simp) (by simp)

theorem slotIs (h : w.recAnswered v k st src seq off d) {i sl us : Nat} (hw : w.recSlotIs s i sl us t) : v.recSlotIs s i sl us t := by
  unfold State.recSlotIs at hw ⊢
  rw [h.bootRec, h.update]
  exact hw

end State.recAnswered

theorem recovers {c : Instr} {k st off : Nat} {d : Bytes} {act : State → Nat × Bytes × State} {w : State} (h : s.hears k src seq)
    (he : exec c s = .next (recoveryServe k src seq off act (s.begin t))) (ha : act (s.begin t) = (st, d, w)) :
    Runs c s fun v => w.recAnswered v k st src seq off d := by
  have hr : recoveryServe k src seq off act (s.begin t) =
      State.emit { w with update := { w.update with recLast := some (65536 * src + seq, recoveryResponse k st seq off d) } }
        (.message "recovery" src (recoveryResponse k st seq off d)) := by
    rw [recoveryServe_new (show (s.begin t).hears k src seq from h)]
    unfold recoveryServe.run
    rw [ha]
  refine .intro (he.trans (congrArg Host.Outcome.next hr)) ⟨⟨List.mem_append_right _ (List.mem_singleton.mpr rfl), rfl⟩, rfl, ?_⟩
  exact ((only_setUpdate w _).trans (only_emit ..)).mono (by simp) (by simp)

/-- A request that is turned down leaves its answer alone. -/
theorem turns {c : Instr} {k st off : Nat} {act : State → Nat × Bytes × State} (h : s.hears k src seq)
    (he : exec c s = .next (recoveryServe k src seq off act (s.begin t))) (ha : act (s.begin t) = (st, [], s.begin t)) :
    Runs c s fun v => s.turned v k st src seq off :=
  (recovers h he ha).imp fun _ hv => ⟨hv.replied, hv.update, hv.only.begin⟩

/-! ### STATUS and CLAIM -/

theorem recoveryStatus_runs (h : s.hears 1 src seq) : Runs (.recoveryStatus t src seq) s fun v => v.replied 1 rsOK src seq 0
    (leBytes 1 (s.n O.recoveryReason) ++ leBytes 1 (s.n O.lifeCycleState) ++ leBytes 1 (s.bootRec s.serviceDie).slotA ++
      leBytes 1 (s.bootRec s.serviceDie).slotB ++ leBytes 4 (s.recSecurity 0) ++ leBytes 4 (s.recSecurity 1) ++
      leBytes 4 (s.bootRec s.serviceDie).counter ++ leBytes 1 (s.n O.tamperState) ++
      (List.range 7).flatMap (fun c => leBytes 4 (s.n (bySub O.tamperCounters c)))) ∧ Only s v [.update] [] :=
  (recovers (act := recoveryStatus) h rfl rfl).imp fun _ hv => ⟨hv.replied, hv.only.begin⟩

section Claim

variable {tok : Bool}

theorem recoveryClaim_held {n : Nat} (h : s.update.recLock = some n) :
    recoveryClaim src tok s = if n = src then (rsOK, [], s) else refused rsBUSY s := by
  unfold recoveryClaim
  rw [h]

theorem recoveryClaim_free (h : s.update.recLock = none) : recoveryClaim src tok s =
    if 1 ≤ s.n O.lifeCycleState ∧ s.n O.lifeCycleState ≤ 3 ∧ tok = false then refused rsREFUSED s
    else (rsOK, [], { s with update := { s.update with recLock := some src, recBytes := 0, recState := upCLAIMED, lastCmd := s.now } }) := by
  unfold recoveryClaim
  rw [h]

theorem recoveryClaim_runs_holder (h : s.hears 2 src seq) (hl : s.update.recLock = some src) :
    Runs (.recoveryClaim t src seq tok) s fun v => s.turned v 2 rsOK src seq 0 :=
  turns (act := recoveryClaim src tok) h rfl ((recoveryClaim_held (s := s.begin t) hl).trans (if_pos rfl))

theorem recoveryClaim_runs_busy (h : s.hears 2 src seq) {n : Nat} (hl : s.update.recLock = some n) (hn : n ≠ src) :
    Runs (.recoveryClaim t src seq tok) s fun v => s.turned v 2 rsBUSY src seq 0 :=
  turns (act := recoveryClaim src tok) h rfl ((recoveryClaim_held (s := s.begin t) hl).trans (if_neg hn))

theorem recoveryClaim_runs_untokened (h : s.hears 2 src seq) (hl : s.update.recLock = none)
    (ht : 1 ≤ s.n O.lifeCycleState ∧ s.n O.lifeCycleState ≤ 3 ∧ tok = false) :
    Runs (.recoveryClaim t src seq tok) s fun v => s.turned v 2 rsREFUSED src seq 0 :=
  turns (act := recoveryClaim src tok) h rfl ((recoveryClaim_free (s := s.begin t) hl).trans (if_pos (by rwa [State.begin_n])))

theorem recoveryClaim_runs_claimed (h : s.hears 2 src seq) (hl : s.update.recLock = none)
    (ht : ¬(1 ≤ s.n O.lifeCycleState ∧ s.n O.lifeCycleState ≤ 3 ∧ tok = false)) :
    Runs (.recoveryClaim t src seq tok) s fun v => v.replied 2 rsOK src seq 0 [] ∧
      v.update = { s.update with recLock := some src, recBytes := 0, recState := upCLAIMED, lastCmd := s.localAt t, recLast := v.update.recLast } ∧
      Only s v [.update] [] :=
  (recovers (act := recoveryClaim src tok) h rfl ((recoveryClaim_free (s := s.begin t) hl).trans (if_neg (by rwa [State.begin_n])))).imp
    fun _ hv => ⟨hv.replied, hv.update, ((hv.of_only (only_setUpdate (s.begin t) _)).mono (by simp) (by simp)).begin⟩

end Claim

/-! ### BLOCK -/

section Block

variable {off : Nat} {d : Bytes}

/-- A source without the lock is refused. -/
def recLockRefusal (s : State) : Nat := if s.update.recLock.isSome = true then rsBUSY else rsREFUSED

/-- The slot takes a state, and the protocol one. -/
def State.recMarked (s : State) (i sl us : Nat) : State := (s.updBoot s.serviceDie (fun r => r.setSlot i sl)).setRec us

/-- The bytes received are written into the slot, PARTIAL. -/
def State.recWritten (s : State) (i : Nat) (b : Bytes) : State :=
  (State.setImage { s with update := { s.update with recSlot := i, recBytes := b.length, recState := upRUNNING, lastCmd := s.now } } s.serviceDie i b).updBoot
    s.serviceDie (fun r => r.setSlot i imPARTIAL)

theorem recoveryBlock_locked (h : s.update.recLock ≠ some src) : recoveryBlock src off d s = refused (recLockRefusal s) s := if_pos h

/-- A block of the holder in a state that takes it, written out. -/
theorem recoveryBlock_taken (h : s.update.recLock = some src)
    (hs : (s.update.recState == upCLAIMED || (s.update.recState == upRUNNING && !s.update.verifying)) = true) :
    recoveryBlock src off d s =
      if off ≠ s.update.recBytes then refused rsSEQUENCE s
      else if d = [] ∨ 1024 < d.length then refused rsREFUSED s
      else if 256 ≤ (s.recOld off ++ d).length ∧ 256 + fld (s.recOld off ++ d) 0x10 4 < (s.recOld off ++ d).length then refused rsREFUSED s
      else if (s.recOld off).length < 256 ∧ 256 ≤ (s.recOld off ++ d).length ∧
          headerResult ((s.recWritten (s.recAt off) (s.recOld off ++ d)).n O.lifeCycleState)
            ((s.recWritten (s.recAt off) (s.recOld off ++ d)).bootRec s.serviceDie).counter (s.recOld off ++ d) ≠ 0 then
        (rsVERIFY, [], (s.recWritten (s.recAt off) (s.recOld off ++ d)).recMarked (s.recAt off) imREJECTED upREJECTED)
      else if 256 ≤ (s.recOld off ++ d).length ∧ (s.recOld off ++ d).length = 256 + fld (s.recOld off ++ d) 0x10 4 then
        (rsOK, [], (s.recWritten (s.recAt off) (s.recOld off ++ d)).recMarked (s.recAt off) imUNVERIFIED upDOWNLOADED)
      else (rsOK, [], s.recWritten (s.recAt off) (s.recOld off ++ d)) := by
  unfold recoveryBlock
  rw [if_neg (not_not.mpr h), if_neg (by simp [hs])]
  rfl

theorem recoveryBlock_barred (h : s.update.recLock = some src)
    (hs : (s.update.recState == upCLAIMED || (s.update.recState == upRUNNING && !s.update.verifying)) = false) :
    recoveryBlock src off d s = refused rsREFUSED s := by
  unfold recoveryBlock
  rw [if_neg (not_not.mpr h), if_pos (by simp [hs])]

/-- What the writing of a block leaves. -/
structure State.recHolds (s u : State) (i : Nat) (b : Bytes) : Prop where
  only : Only s u [.update] []
  lock : u.update.recLock = s.update.recLock
  slot : u.update.recSlot = i
  cmd : u.update.lastCmd = s.now
  bytes : u.update.recBytes = b.length
  image : u.image s.serviceDie i = b
  counter : (u.bootRec s.serviceDie).counter = (s.bootRec s.serviceDie).counter

theorem State.recWritten_holds (s : State) (i : Nat) (b : Bytes) : s.recHolds (s.recWritten i b) i b where
  only := only_setUpdate ..
  lock := rfl
  slot := rfl
  cmd := rfl
  bytes := rfl
  image := by
    unfold State.recWritten State.updBoot
    rw [State.setBoot_image, State.setImage_image, if_pos rfl]
  counter := by
    unfold State.recWritten
    rw [State.updBoot_bootRec, if_pos rfl, BootRec.setSlot_counter]
    rfl

theorem State.recWritten_slot (s : State) (i : Nat) (b : Bytes) :
    ((s.recWritten i b).bootRec s.serviceDie).slot i = imPARTIAL ∧ (s.recWritten i b).update.recState = upRUNNING := by
  refine ⟨?_, rfl⟩
  unfold State.recWritten
  rw [State.updBoot_bootRec, if_pos rfl]
  exact BootRec.setSlot_slot ..

theorem State.recMarked_slot (s : State) (i sl us : Nat) :
    ((s.recMarked i sl us).bootRec s.serviceDie).slot i = sl ∧ (s.recMarked i sl us).update.recState = us := by
  refine ⟨?_, rfl⟩
  have hb : (s.recMarked i sl us).bootRec s.serviceDie = (s.updBoot s.serviceDie (fun r => r.setSlot i sl)).bootRec s.serviceDie := rfl
  rw [hb, State.updBoot_bootRec, if_pos rfl]
  exact BootRec.setSlot_slot ..

theorem State.recHolds.marked {u : State} {i : Nat} {b : Bytes} (h : s.recHolds u i b) (hd : u.serviceDie = s.serviceDie) (sl us : Nat) :
    s.recHolds (u.recMarked i sl us) i b where
  only := (h.only.trans (only_setUpdate u _)).mono (by simp) (by simp)
  lock := h.lock
  slot := h.slot
  cmd := h.cmd
  bytes := h.bytes
  image := h.image
  counter := by
    have hb : (u.recMarked i sl us).bootRec s.serviceDie = (u.updBoot u.serviceDie (fun r => r.setSlot i sl)).bootRec s.serviceDie := rfl
    rw [hb, State.updBoot_bootRec, hd, if_pos rfl, BootRec.setSlot_counter, h.counter]

theorem State.serviceDie_of_only {u : State} {P : List Part} {K : List Nat} (h : Only s u P K) (hp : Part.pkg ∉ P) : u.serviceDie = s.serviceDie := by
  unfold State.serviceDie
  rw [show u.pkg = s.pkg from h.rest .pkg hp]

/-- What an answered request over a slot leaves. -/
theorem State.recHolds.shown {u v : State} {k st i sl us : Nat} {b a : Bytes} (h : (s.begin t).recHolds u i b)
    (hs : (u.bootRec s.serviceDie).slot i = sl ∧ u.update.recState = us) (hv : u.recAnswered v k st src seq off a) :
    v.replied k st src seq off a ∧ v.recSlotIs s i sl us t ∧ v.image s.serviceDie i = b ∧ v.update.recBytes = b.length ∧ Only s v [.update] [] := by
  have hu : u.recSlotIs s i sl us t := ⟨hs.1, hs.2, h.slot, h.cmd, h.lock⟩
  exact ⟨hv.replied, hv.slotIs hu, (hv.image ..).trans h.image, hv.recBytes.trans h.bytes, ((hv.of_only h.only).mono (by simp) (by simp)).begin⟩

theorem recoveryBlock_runs_locked (h : s.hears 3 src seq) (hl : s.update.recLock ≠ some src) : Runs (.recoveryBlock t src seq off d) s fun v =>
    s.turned v 3 (if s.update.recLock.isSome = true then rsBUSY else rsREFUSED) src seq off :=
  turns (act := recoveryBlock src off d) h rfl (recoveryBlock_locked (s := s.begin t) hl)

/-- The block that the holder sends at the next offset, within the image. -/
structure State.recAccepts (s : State) (src off : Nat) (d : Bytes) : Prop where
  lock : s.update.recLock = some src
  state : (s.update.recState == upCLAIMED || (s.update.recState == upRUNNING && !s.update.verifying)) = true
  order : off = s.update.recBytes
  size : ¬(d = [] ∨ 1024 < d.length)
  within : ¬(256 ≤ (s.recOld off ++ d).length ∧ 256 + fld (s.recOld off ++ d) 0x10 4 < (s.recOld off ++ d).length)

/-- The first 256 bytes are complete with this block, and the header is bad. -/
abbrev State.recBadHeader (s : State) (off : Nat) (d : Bytes) : Prop :=
  (s.recOld off).length < 256 ∧ 256 ≤ (s.recOld off ++ d).length ∧
    headerResult (s.n O.lifeCycleState) (s.bootRec s.serviceDie).counter (s.recOld off ++ d) ≠ 0

theorem recoveryBlock_accepted (h : s.recAccepts src off d) : recoveryBlock src off d s =
    if s.recBadHeader off d then
      (rsVERIFY, [], (s.recWritten (s.recAt off) (s.recOld off ++ d)).recMarked (s.recAt off) imREJECTED upREJECTED)
    else if 256 ≤ (s.recOld off ++ d).length ∧ (s.recOld off ++ d).length = 256 + fld (s.recOld off ++ d) 0x10 4 then
      (rsOK, [], (s.recWritten (s.recAt off) (s.recOld off ++ d)).recMarked (s.recAt off) imUNVERIFIED upDOWNLOADED)
    else (rsOK, [], s.recWritten (s.recAt off) (s.recOld off ++ d)) := by
  have hw := s.recWritten_holds (s.recAt off) (s.recOld off ++ d)
  rw [recoveryBlock_taken h.lock h.state, if_neg (not_not.mpr h.order), if_neg h.size, if_neg h.within, hw.counter, hw.only.n_all]

section Accepted

variable (h : s.hears 3 src seq) (ha : s.recAccepts src off d)
include h ha

theorem recoveryBlock_runs_rejected (hb : s.recBadHeader off d) : Runs (.recoveryBlock t src seq off d) s fun v =>
    v.replied 3 rsVERIFY src seq off [] ∧ v.recSlotIs s (s.recAt off) imREJECTED upREJECTED t ∧ v.image s.serviceDie (s.recAt off) = s.recOld off ++ d ∧
    v.update.recBytes = (s.recOld off ++ d).length ∧ Only s v [.update] [] := by
  have hw := (s.begin t).recWritten_holds (s.recAt off) (s.recOld off ++ d)
  have he := (recoveryBlock_accepted (s := s.begin t) ⟨ha.lock, ha.state, ha.order, ha.size, ha.within⟩).trans
    (if_pos ⟨hb.1, hb.2.1, by rw [State.begin_n]; exact hb.2.2⟩)
  exact (recovers (act := recoveryBlock src off d) h rfl he).imp fun v hv =>
    (hw.marked (State.serviceDie_of_only hw.only (by decide)) ..).shown (State.recMarked_slot ..) hv

variable (hb : ¬ s.recBadHeader off d)
include hb

theorem recoveryBlock_runs_last (hl : 256 ≤ (s.recOld off ++ d).length ∧ (s.recOld off ++ d).length = 256 + fld (s.recOld off ++ d) 0x10 4) :
    Runs (.recoveryBlock t src seq off d) s fun v => v.replied 3 rsOK src seq off [] ∧ v.recSlotIs s (s.recAt off) imUNVERIFIED upDOWNLOADED t ∧
      v.image s.serviceDie (s.recAt off) = s.recOld off ++ d ∧ v.update.recBytes = (s.recOld off ++ d).length ∧ Only s v [.update] [] := by
  have hw := (s.begin t).recWritten_holds (s.recAt off) (s.recOld off ++ d)
  have he := (recoveryBlock_accepted (s := s.begin t) ⟨ha.lock, ha.state, ha.order, ha.size, ha.within⟩).trans
    ((if_neg fun hn => hb ⟨hn.1, hn.2.1, by rw [← State.begin_n s t]; exact hn.2.2⟩).trans (if_pos hl))
  exact (recovers (act := recoveryBlock src off d) h rfl he).imp fun v hv =>
    (hw.marked (State.serviceDie_of_only hw.only (by decide)) ..).shown (State.recMarked_slot ..) hv

theorem recoveryBlock_runs_more (hl : ¬(256 ≤ (s.recOld off ++ d).length ∧ (s.recOld off ++ d).length = 256 + fld (s.recOld off ++ d) 0x10 4)) :
    Runs (.recoveryBlock t src seq off d) s fun v => v.replied 3 rsOK src seq off [] ∧ v.recSlotIs s (s.recAt off) imPARTIAL upRUNNING t ∧
      v.image s.serviceDie (s.recAt off) = s.recOld off ++ d ∧ v.update.recBytes = (s.recOld off ++ d).length ∧ Only s v [.update] [] := by
  have hw := (s.begin t).recWritten_holds (s.recAt off) (s.recOld off ++ d)
  have he := (recoveryBlock_accepted (s := s.begin t) ⟨ha.lock, ha.state, ha.order, ha.size, ha.within⟩).trans
    ((if_neg fun hn => hb ⟨hn.1, hn.2.1, by rw [← State.begin_n s t]; exact hn.2.2⟩).trans (if_neg hl))
  exact (recovers (act := recoveryBlock src off d) h rfl he).imp fun v hv => hw.shown (State.recWritten_slot ..) hv

end Accepted

section Holder

variable (h : s.hears 3 src seq) (hl : s.update.recLock = some src)
include h hl

theorem recoveryBlock_runs_barred (hs : (s.update.recState == upCLAIMED || (s.update.recState == upRUNNING && !s.update.verifying)) = false) :
    Runs (.recoveryBlock t src seq off d) s fun v => s.turned v 3 rsREFUSED src seq off :=
  turns (act := recoveryBlock src off d) h rfl (recoveryBlock_barred (s := s.begin t) hl hs)

variable (hs : (s.update.recState == upCLAIMED || (s.update.recState == upRUNNING && !s.update.verifying)) = true)
include hs

theorem recoveryBlock_runs_order (ho : off ≠ s.update.recBytes) :
    Runs (.recoveryBlock t src seq off d) s fun v => s.turned v 3 rsSEQUENCE src seq off :=
  turns (act := recoveryBlock src off d) h rfl ((recoveryBlock_taken (s := s.begin t) hl hs).trans (if_pos ho))

variable (ho : off = s.update.recBytes)
include ho

theorem recoveryBlock_runs_size (hd : d = [] ∨ 1024 < d.length) :
    Runs (.recoveryBlock t src seq off d) s fun v => s.turned v 3 rsREFUSED src seq off :=
  turns (act := recoveryBlock src off d) h rfl
    ((recoveryBlock_taken (s := s.begin t) hl hs).trans ((if_neg (not_not.mpr ho)).trans (if_pos hd)))

variable (hd : ¬(d = [] ∨ 1024 < d.length))
include hd

theorem recoveryBlock_runs_long (hb : 256 ≤ (s.recOld off ++ d).length ∧ 256 + fld (s.recOld off ++ d) 0x10 4 < (s.recOld off ++ d).length) :
    Runs (.recoveryBlock t src seq off d) s fun v => s.turned v 3 rsREFUSED src seq off :=
  turns (act := recoveryBlock src off d) h rfl
    ((recoveryBlock_taken (s := s.begin t) hl hs).trans ((if_neg (not_not.mpr ho)).trans ((if_neg hd).trans (if_pos hb))))

end Holder

end Block

/-! ### VERIFY -/

section Verify

variable {crypto i : Nat}

/-- The slot to be verified. -/
abbrev State.recChecked (s : State) : Nat := if s.update.recState = upCLAIMED then s.recoverySlot else s.update.recSlot

/-- The verification of a slot begins. -/
def State.recChecking (s : State) (i : Nat) : State := { s with update := { s.update with recSlot := i, lastCmd := s.now } }

theorem recoveryVerify_locked (h : s.update.recLock ≠ some src) : recoveryVerify src crypto s = refused (recLockRefusal s) s := if_pos h

theorem recoveryVerify_held (h : s.update.recLock = some src) : recoveryVerify src crypto s =
    if (s.bootRec s.serviceDie).slot s.recChecked ≠ imUNVERIFIED then refused rsREFUSED s
    else if (imageResult (s.n O.lifeCycleState) (s.bootRec s.serviceDie).counter crypto (s.image s.serviceDie s.recChecked) == 0) = true then
      (rsOK, [], (s.recChecking s.recChecked).recMarked s.recChecked imVERIFIED upVERIFIED)
    else (rsVERIFY, [], (s.recChecking s.recChecked).recMarked s.recChecked imREJECTED upREJECTED) := if_neg (not_not.mpr h)

/-- What a verification leaves. -/
theorem State.recChecking_marked (s : State) (t i sl us : Nat) : (((s.begin t).recChecking i).recMarked i sl us).recSlotIs s i sl us t ∧
    Only (s.begin t) (((s.begin t).recChecking i).recMarked i sl us) [.update] [] :=
  ⟨⟨(State.recMarked_slot ..).1, (State.recMarked_slot ..).2, rfl, rfl, rfl⟩, only_setUpdate (s.begin t) _⟩

theorem recoveryVerify_runs_locked (h : s.hears 4 src seq) (hl : s.update.recLock ≠ some src) : Runs (.recoveryVerify t src seq crypto) s fun v =>
    s.turned v 4 (if s.update.recLock.isSome = true then rsBUSY else rsREFUSED) src seq 0 :=
  turns (act := recoveryVerify src crypto) h rfl (recoveryVerify_locked (s := s.begin t) hl)

variable (h : s.hears 4 src seq) (hl : s.update.recLock = some src)
include h hl

theorem recoveryVerify_runs_refused (hs : (s.bootRec s.serviceDie).slot s.recChecked ≠ imUNVERIFIED) :
    Runs (.recoveryVerify t src seq crypto) s fun v => s.turned v 4 rsREFUSED src seq 0 :=
  turns (act := recoveryVerify src crypto) h rfl ((recoveryVerify_held (s := s.begin t) hl).trans (if_pos hs))

variable (hs : (s.bootRec s.serviceDie).slot s.recChecked = imUNVERIFIED)
include hs

theorem recoveryVerify_runs_verified
    (hr : imageResult (s.n O.lifeCycleState) (s.bootRec s.serviceDie).counter crypto (s.image s.serviceDie s.recChecked) = 0) :
    Runs (.recoveryVerify t src seq crypto) s fun v => v.replied 4 rsOK src seq 0 [] ∧ v.recSlotIs s s.recChecked imVERIFIED upVERIFIED t ∧
      Only s v [.update] [] := by
  obtain ⟨hw, hf⟩ := s.recChecking_marked t s.recChecked imVERIFIED upVERIFIED
  have he := (recoveryVerify_held (s := s.begin t) hl).trans ((if_neg (not_not.mpr hs)).trans
    (if_pos (beq_iff_eq.mpr (by rw [State.begin_n]; exact hr))))
  exact (recovers (act := recoveryVerify src crypto) h rfl he).imp fun v hv =>
    ⟨hv.replied, hv.slotIs hw, ((hv.of_only hf).mono (by simp) (by simp)).begin⟩

theorem recoveryVerify_runs_rejected
    (hr : imageResult (s.n O.lifeCycleState) (s.bootRec s.serviceDie).counter crypto (s.image s.serviceDie s.recChecked) ≠ 0) :
    Runs (.recoveryVerify t src seq crypto) s fun v => v.replied 4 rsVERIFY src seq 0 [] ∧ v.recSlotIs s s.recChecked imREJECTED upREJECTED t ∧
      Only s v [.update] [] := by
  obtain ⟨hw, hf⟩ := s.recChecking_marked t s.recChecked imREJECTED upREJECTED
  have he := (recoveryVerify_held (s := s.begin t) hl).trans ((if_neg (not_not.mpr hs)).trans
    (if_neg fun hn => hr (by rw [← State.begin_n s t]; exact beq_iff_eq.mp hn)))
  exact (recovers (act := recoveryVerify src crypto) h rfl he).imp fun v hv =>
    ⟨hv.replied, hv.slotIs hw, ((hv.of_only hf).mono (by simp) (by simp)).begin⟩

end Verify

/-! ### ACTIVATE and ABORT -/

section Activate

theorem recoveryActivate_locked (h : s.update.recLock ≠ some src) : recoveryActivate src s = refused (recLockRefusal s) s := if_pos h

theorem recoveryActivate_refused (h : s.update.recLock = some src) (hs : s.update.recState ≠ upVERIFIED) :
    recoveryActivate src s = refused rsREFUSED s := (if_neg (not_not.mpr h)).trans (if_pos hs)

/-- The verified image becomes the trial slot of the service die. -/
def State.recTrial (s : State) : State :=
  s.updBoot s.serviceDie fun r => { r with trial := s.update.recSlot, trialStarts := 0, failedStarts := 0, flags := setBit r.flags 0 false }

theorem recoveryActivate_restarts (h : s.update.recLock = some src) (hs : s.update.recState = upVERIFIED) :
    recoveryActivate src s = (rsOK, [], s.recTrial.resetDies) := (if_neg (not_not.mpr h)).trans (if_neg (not_not.mpr hs))

theorem State.discardSlots_rest (s : State) : s.discardSlots.update = s.update ∧ s.discardSlots.stored = s.stored := by
  have h : Within s s.discardSlots [.staged, .plan] := within_of_core (State.discardSlots_core (R := 258) rfl s) rfl
  exact ⟨h.rest .update (by decide) (by decide), h.rest .stored (by decide) (by decide)⟩

/-- What a reset of every die leaves. -/
theorem State.resetDies_kept (s : State) : s.resetDies.n O.powerState = pwOFF ∧ s.resetDies.update.recLock = none ∧ s.resetDies.stored = s.stored ∧
    (∀ d, s.resetDies.bootRec d = s.bootRec d) ∧ s.resetDies.update.images = s.update.images := by
  obtain ⟨hu, hs⟩ := s.discardSlots_rest
  have hb : ∀ d, s.discardSlots.bootRec d = s.bootRec d := fun d => by
    unfold State.bootRec
    rw [hu]
  exact ⟨State.n_of_look (look_ins_self ..), rfl, hs, hb, (congrArg UpdateSt.images hu :)⟩

theorem recoveryActivate_runs_locked (h : s.hears 5 src seq) (hl : s.update.recLock ≠ some src) : Runs (.recoveryActivate t src seq) s fun v =>
    s.turned v 5 (if s.update.recLock.isSome = true then rsBUSY else rsREFUSED) src seq 0 :=
  turns (act := recoveryActivate src) h rfl (recoveryActivate_locked (s := s.begin t) hl)

theorem recoveryActivate_runs_refused (h : s.hears 5 src seq) (hl : s.update.recLock = some src) (hs : s.update.recState ≠ upVERIFIED) :
    Runs (.recoveryActivate t src seq) s fun v => s.turned v 5 rsREFUSED src seq 0 :=
  turns (act := recoveryActivate src) h rfl (recoveryActivate_refused (s := s.begin t) hl hs)

theorem State.recTrial_bootRec (s : State) (e : Nat) : s.recTrial.bootRec e = if e = s.serviceDie then
    { s.bootRec e with trial := s.update.recSlot, trialStarts := 0, failedStarts := 0, flags := setBit (s.bootRec e).flags 0 false,
                       gen := (s.bootRec e).gen + 1 } else s.bootRec e := State.updBoot_bootRec ..

theorem recoveryActivate_runs_restarts (h : s.hears 5 src seq) (hl : s.update.recLock = some src) (hs : s.update.recState = upVERIFIED) :
    Runs (.recoveryActivate t src seq) s fun v => v.replied 5 rsOK src seq 0 [] ∧ v.n O.powerState = pwOFF ∧ v.update.recLock = none ∧
      v.stored = s.stored ∧ (v.bootRec s.serviceDie).trial = s.update.recSlot ∧ (v.bootRec s.serviceDie).trialStarts = 0 ∧
      (v.bootRec s.serviceDie).failedStarts = 0 ∧ (∀ e, e ≠ s.serviceDie → v.bootRec e = s.bootRec e) ∧ v.update.images = s.update.images := by
  obtain ⟨hp, hr, hst, hb, hi⟩ := (s.begin t).recTrial.resetDies_kept
  refine (recovers (act := recoveryActivate src) h rfl (recoveryActivate_restarts (s := s.begin t) hl hs)).imp fun v hv =>
    ⟨hv.replied, (hv.only.n_all _).trans hp, hv.recLock.trans hr, (hv.only.rest .stored (by decide) :).trans hst, ?_, ?_, ?_, fun e he => ?_,
      hv.images.trans hi⟩
  · rw [hv.bootRec, hb, State.recTrial_bootRec, if_pos (show s.serviceDie = (s.begin t).serviceDie from rfl)]
    rfl
  · rw [hv.bootRec, hb, State.recTrial_bootRec, if_pos (show s.serviceDie = (s.begin t).serviceDie from rfl)]
  · rw [hv.bootRec, hb, State.recTrial_bootRec, if_pos (show s.serviceDie = (s.begin t).serviceDie from rfl)]
  · rw [hv.bootRec, hb, State.recTrial_bootRec, if_neg (show e ≠ (s.begin t).serviceDie from he)]
    rfl

theorem recoveryAbort_locked (h : s.update.recLock ≠ some src) : recoveryAbort src s = refused (recLockRefusal s) s := if_pos h

theorem recoveryAbort_done (h : s.update.recLock = some src) (hs : s.update.recState ≠ upRUNNING) : recoveryAbort src s = refused rsDONE s :=
  (if_neg (not_not.mpr h)).trans (if_pos hs)

/-- The download is thrown away and the recovery lock is free. -/
def State.recAborted (s : State) : State :=
  let u := (s.setImage s.serviceDie s.update.recSlot []).updBoot s.serviceDie fun r => r.setSlot s.update.recSlot imEMPTY
  { u with update := { u.update with recLock := none, recState := upABORTED } }

theorem recoveryAbort_aborts (h : s.update.recLock = some src) (hs : s.update.recState = upRUNNING) :
    recoveryAbort src s = (rsOK, [], s.recAborted) := (if_neg (not_not.mpr h)).trans (if_neg (not_not.mpr hs))

theorem State.recAborted_left (s : State) : s.recAborted.update.recLock = none ∧ s.recAborted.update.recState = upABORTED ∧
    (s.recAborted.bootRec s.serviceDie).slot s.update.recSlot = imEMPTY ∧ s.recAborted.image s.serviceDie s.update.recSlot = [] ∧
    Only s s.recAborted [.update] [] := by
  have hb : s.recAborted.bootRec s.serviceDie =
      ((s.setImage s.serviceDie s.update.recSlot []).updBoot s.serviceDie fun r => r.setSlot s.update.recSlot imEMPTY).bootRec s.serviceDie := rfl
  have hi : s.recAborted.image s.serviceDie s.update.recSlot = (s.setImage s.serviceDie s.update.recSlot []).image s.serviceDie s.update.recSlot := rfl
  refine ⟨rfl, rfl, ?_, ?_, only_setUpdate s _⟩
  · rw [hb, State.updBoot_bootRec, if_pos rfl]
    exact BootRec.setSlot_slot ..
  · rw [hi, State.setImage_image, if_pos rfl]

theorem recoveryAbort_runs_locked (h : s.hears 6 src seq) (hl : s.update.recLock ≠ some src) : Runs (.recoveryAbort t src seq) s fun v =>
    s.turned v 6 (if s.update.recLock.isSome = true then rsBUSY else rsREFUSED) src seq 0 :=
  turns (act := recoveryAbort src) h rfl (recoveryAbort_locked (s := s.begin t) hl)

theorem recoveryAbort_runs_done (h : s.hears 6 src seq) (hl : s.update.recLock = some src) (hs : s.update.recState ≠ upRUNNING) :
    Runs (.recoveryAbort t src seq) s fun v => s.turned v 6 rsDONE src seq 0 :=
  turns (act := recoveryAbort src) h rfl (recoveryAbort_done (s := s.begin t) hl hs)

theorem recoveryAbort_runs_aborted (h : s.hears 6 src seq) (hl : s.update.recLock = some src) (hs : s.update.recState = upRUNNING) :
    Runs (.recoveryAbort t src seq) s fun v => v.replied 6 rsOK src seq 0 [] ∧ v.update.recLock = none ∧ v.update.recState = upABORTED ∧
      (v.bootRec s.serviceDie).slot s.update.recSlot = imEMPTY ∧ v.image s.serviceDie s.update.recSlot = [] ∧ Only s v [.update] [] := by
  obtain ⟨hlk, hst, hsl, him, hf⟩ := (s.begin t).recAborted_left
  exact (recovers (act := recoveryAbort src) h rfl (recoveryAbort_aborts (s := s.begin t) hl hs)).imp fun v hv =>
    ⟨hv.replied, hv.recLock.trans hlk, hv.recState.trans hst, (congrArg (fun r => BootRec.slot r s.update.recSlot) (hv.bootRec s.serviceDie)).trans hsl,
      (hv.image ..).trans him, ((hv.of_only hf).mono (by simp) (by simp)).begin⟩

end Activate

/-! ### CLEAR in TAMPER_HOLD (R325) -/

section Clear

variable {nonce : Bytes} {cred : Bool}

/-- A clear that is refused before a statement is made. -/
def State.clearBarred (s : State) (nonce : Bytes) (cred : Bool) : Prop :=
  !cred ∨ nonce.length < 8 ∨ 64 < nonce.length ∨ s.n O.sensorsActive ≠ 0 ∨ s.canAttest = false

/-- The tamper hold has ended. -/
def State.holdReleased (s : State) : State :=
  State.setN { s with pkg := { s.pkg with tamperHold := false }, cairn := { s.cairn with released := true } } O.tamperState 0

theorem recoveryClear_barred (h : s.clearBarred nonce cred) : recoveryClear nonce cred s = refused rsREFUSED s := if_pos h

theorem recoveryClear_unstarted (h : ¬ s.clearBarred nonce cred) (hs : s.update.start = none) : recoveryClear nonce cred s = refused rsREFUSED s := by
  refine (if_neg h).trans ?_
  rw [hs]

theorem recoveryClear_started (h : ¬ s.clearBarred nonce cred) {f : StartFacts} (hs : s.update.start = some f) : recoveryClear nonce cred s =
    match s.refreshRoots.holdReleased.chooseImage f with
    | none => (rsREFUSED, [], s)
    | some w => (rsOK, s.refreshRoots.attestation 3 nonce, (w.finishStart f).logLead Ev.tamperClear 0xFFFF [(1, 2)]) := by
  refine (if_neg h).trans ?_
  rw [hs]
  rfl

theorem State.clearBarred_iff (s : State) (t : Nat) (nonce : Bytes) (cred : Bool) : (s.begin t).clearBarred nonce cred ↔
    (cred = false ∨ nonce.length < 8 ∨ 64 < nonce.length ∨ s.n O.sensorsActive ≠ 0 ∨ s.canAttest = false) := by
  have hc : (s.begin t).canAttest = s.canAttest := rfl
  unfold State.clearBarred
  rw [State.begin_n, hc, Bool.not_eq_true']

theorem recoveryClear_runs_refused (h : s.hears 7 src seq)
    (hb : cred = false ∨ nonce.length < 8 ∨ 64 < nonce.length ∨ s.n O.sensorsActive ≠ 0 ∨ s.canAttest = false ∨ s.update.start = none) :
    Runs (.recoveryClear t src seq nonce cred) s fun v => s.turned v 7 rsREFUSED src seq 0 := by
  refine turns (act := recoveryClear nonce cred) h rfl ?_
  by_cases hc : (s.begin t).clearBarred nonce cred
  · exact recoveryClear_barred hc
  · refine recoveryClear_unstarted hc ?_
    rw [State.clearBarred_iff] at hc
    show s.update.start = none
    tauto

section Started

variable (h : s.hears 7 src seq) {f : StartFacts} {u : State} (hc : cred = true) (hn : 8 ≤ nonce.length) (hn' : nonce.length ≤ 64)
  (hs : s.n O.sensorsActive = 0) (ha : s.canAttest = true) (hf : s.update.start = some f) (hu : u = (s.begin t).refreshRoots)

include hc hn hn' hs ha in
theorem State.not_clearBarred : ¬ (s.begin t).clearBarred nonce cred := by
  rw [State.clearBarred_iff, hc, hs, ha]
  simp
  omega

include h hc hn hn' hs ha hf hu

theorem recoveryClear_runs_unimaged (hi : u.holdReleased.chooseImage f = none) :
    Runs (.recoveryClear t src seq nonce cred) s fun v => s.turned v 7 rsREFUSED src seq 0 := by
  have he := recoveryClear_started (State.not_clearBarred (t := t) hc hn hn' hs ha) hf
  rw [← hu, hi] at he
  exact turns (act := recoveryClear nonce cred) h rfl he

theorem recoveryClear_runs_released {w : State} (hi : u.holdReleased.chooseImage f = some w) :
    Runs (.recoveryClear t src seq nonce cred) s fun v => v.replied 7 rsOK src seq 0 (u.attestation 3 nonce) ∧
      Only (w.finishStart f) v [.update, .logs] [] := by
  have he := recoveryClear_started (State.not_clearBarred (t := t) hc hn hn' hs ha) hf
  rw [← hu, hi] at he
  exact (recovers (act := recoveryClear nonce cred) h rfl he).imp fun v hv => ⟨hv.replied, hv.of_only (only_logLead ..)⟩

end Started

end Clear

end Sys2Proof.Machine
open Sys2Proof Sys2Proof.Machine

/-- Settles O47, request by request; the block's cases are those of what has been received with it. -/
theorem recoveryProtocol : Obligations.RecoveryProtocol :=
  ⟨fun _ _ _ _ _ _ _ h => ⟨recovery_runs_unanswered h, fun _ => recovery_runs_repeated h⟩,
    fun _ _ _ _ h => recoveryStatus_runs h,
    fun _ _ _ _ _ h => ⟨recoveryClaim_runs_holder h, fun _ => recoveryClaim_runs_busy h, recoveryClaim_runs_untokened h, recoveryClaim_runs_claimed h⟩,
    fun s t src seq off d h => ⟨recoveryBlock_runs_locked h, recoveryBlock_runs_barred h, fun hl hs => ⟨recoveryBlock_runs_order h hl hs,
      recoveryBlock_runs_size h hl hs, fun b ho hd hd' hb => by
        have hsize : ¬(d = [] ∨ 1024 < d.length) := by
          rintro (hn | hn)
          · exact hd hn
          · omega
        subst hb
        exact ⟨recoveryBlock_runs_long h hl hs ho hsize, fun hw =>
          have ha : s.recAccepts src off d := ⟨hl, hs, ho, hsize, hw⟩
          ⟨recoveryBlock_runs_rejected h ha, fun hb => ⟨recoveryBlock_runs_last h ha hb, recoveryBlock_runs_more h ha hb⟩⟩⟩⟩⟩,
    fun _ _ _ _ _ h => ⟨recoveryVerify_runs_locked h, fun i hl hi => by
      subst hi
      exact ⟨recoveryVerify_runs_refused h hl, fun hs => ⟨recoveryVerify_runs_verified h hl hs, recoveryVerify_runs_rejected h hl hs⟩⟩⟩,
    fun _ _ _ _ h => ⟨recoveryActivate_runs_locked h, recoveryActivate_runs_refused h, recoveryActivate_runs_restarts h⟩,
    fun _ _ _ _ h => ⟨recoveryAbort_runs_locked h, recoveryAbort_runs_done h, recoveryAbort_runs_aborted h⟩,
    fun _ _ _ _ _ _ h => ⟨recoveryClear_runs_refused h, fun _ _ hc hn hn' hs ha hf hu => recoveryClear_runs_unimaged h hc hn hn' hs ha hf hu,
      fun _ _ _ hc hn hn' hs ha hf hu => recoveryClear_runs_released h hc hn hn' hs ha hf hu⟩⟩
end

section
/-! Proofs about requests: how they are refused, PING, DESCRIBE and transactions (R404, R408, R413, R463 to R467). -/
namespace Sys2Proof.Machine
open Sys2Proof

variable {s : State} {t : Nat} {q : Req} {x : Session}

/-! ### A request before its session is known (R408, R463) -/

section Route

variable {m : Msg} {act : Who → Session → State → Response × State}

/-- The requests go through the same routing. -/
theorem exec_request {c : Instr} (h : isRequest t q c) (s : State) : ∃ m act, exec c s = .next (route q m act (s.begin t)) := by
  obtain rfl | rfl | rfl | rfl | ⟨i, j, rfl⟩ | ⟨i, j, o, rfl⟩ | ⟨i, j, o, l, b, rfl⟩ := h
  all_goals exact ⟨_, _, rfl⟩

theorem route_unheard (h : s.answers = false ∨ Slip.lost q.who.slip = true) : route q m act s = s :=
  if_pos (by
    rcases h with h | h
    · simp [h]
    · simp [h])

section Heard

variable (ha : s.answers = true) (hl : Slip.lost q.who.slip = false)
include ha hl

theorem route_malformed (hf : q.fmtOk = false) : route q m act s = s.reply q.who (Response.of .format) := by
  unfold route
  rw [ha, hl, hf]
  rfl

theorem route_foreign (hf : q.fmtOk = true) (he : q.ext.isSome = true) (hd : q.fromDevice = false) :
    route q m act s = s.reply q.who (Response.of .accessDenied) := by
  obtain ⟨e, he⟩ := Option.isSome_iff_exists.mp he
  unfold route
  rw [ha, hl, hf, he, hd]
  rfl

theorem serve_unknown {who : Who} {body : Session → State → Response × State} (hw : who = q.who) (hs : s.session? who.sess = none) :
    serve who body s = s.reply who (Response.of .noSession) := by
  subst hw
  unfold serve
  rw [ha, hl, hs]
  rfl

theorem route_unknown (hf : q.fmtOk = true) (he : q.ext = none) (ht : q.target = s.ownAddr ∨ q.target = 0xFFFF)
    (hs : s.session? q.who.sess = none) : route q m act s = s.reply q.who (Response.of .noSession) := by
  rw [← serve_unknown (body := act q.who) ha hl rfl hs]
  unfold route
  rw [ha, hl, hf, he]
  exact if_pos ht

end Heard

theorem request_runs_unheard {c : Instr} (hc : isRequest t q c) (h : s.answers = false ∨ Slip.lost q.who.slip = true) :
    Runs c s (· = s.begin t) := by
  obtain ⟨m, act, he⟩ := exec_request hc s
  exact .intro (he.trans (congrArg Host.Outcome.next (route_unheard (s := s.begin t) h))) rfl

/-- A request that is answered before its session is taken up leaves its answer alone. -/
theorem Runs.of_reply {c : Instr} {who : Who} {st : Status} (he : exec c s = .next ((s.begin t).reply who (Response.of st))) :
    Runs c s fun v => v.answered who st ∧ Only s v [.bridge] [] :=
  .intro he ⟨State.reply_out .., (only_reply ..).begin⟩

section Answered

variable {c : Instr} (hc : isRequest t q c) (ha : s.answers = true) (hl : Slip.lost q.who.slip = false)
include hc ha hl

theorem request_runs_malformed (hf : q.fmtOk = false) : Runs c s fun v => v.answered q.who .format ∧ Only s v [.bridge] [] := by
  obtain ⟨m, act, he⟩ := exec_request hc s
  exact .of_reply (he.trans (congrArg Host.Outcome.next (route_malformed (s := s.begin t) ha hl hf)))

theorem request_runs_foreign (hf : q.fmtOk = true) (hx : q.ext.isSome = true) (hd : q.fromDevice = false) :
    Runs c s fun v => v.answered q.who .accessDenied ∧ Only s v [.bridge] [] := by
  obtain ⟨m, act, he⟩ := exec_request hc s
  exact .of_reply (he.trans (congrArg Host.Outcome.next (route_foreign (s := s.begin t) ha hl hf hx hd)))

theorem request_runs_unknown (hf : q.fmtOk = true) (hx : q.ext = none) (ht : q.target = s.ownAddr ∨ q.target = 0xFFFF)
    (hs : s.session? q.who.sess = none) : Runs c s fun v => v.answered q.who .noSession ∧ Only s v [.bridge] [] := by
  obtain ⟨m, act, he⟩ := exec_request hc s
  exact .of_reply (he.trans (congrArg Host.Outcome.next (route_unknown (s := s.begin t) ha hl hf hx (by simpa [State.ownAddr] using ht) hs)))

end Answered

end Route

/-! ### PING and DESCRIBE (R464, R465) -/

section Taken

variable (h : s.TakesReq q x)
include h

theorem route_runs {c : Instr} {m : Msg} {act : Who → Session → State → Response × State} (he : exec c s = .next (route q m act (s.begin t)))
    {r : Response} {w : State} (ha : act q.who x (s.begin t).traffic = (r, w)) : exec c s = .next (w.answer q.who r) := by
  rw [he, route_taken (h.begin t), ha]

/-- A request that only answers. -/
theorem plain_runs {c : Instr} {m : Msg} {act : Who → Session → State → Response × State} (he : exec c s = .next (route q m act (s.begin t)))
    {r : Response} (ha : act q.who x (s.begin t).traffic = (r, (s.begin t).traffic)) :
    Runs c s fun v => .response q.who r ∈ v.out ∧ Only s v [.access, .power, .bridge] [] :=
  .intro (route_runs h he ha) (h.plain_answer t r)

theorem ping_runs : Runs (.ping t q) s fun v => v.answered q.who .ok ∧ Only s v [.access, .power, .bridge] [] :=
  plain_runs (act := fun _ _ s => (Response.of .ok, s)) h rfl rfl

theorem describe_runs_absent {i j : Nat} (hr : s.row? i j = none) :
    Runs (.describe t q i j) s fun v => v.answered q.who .noObject ∧ Only s v [.access, .power, .bridge] [] := by
  have ha : describeAct i j x (s.begin t).traffic = (Response.of .noObject, (s.begin t).traffic) := by
    unfold describeAct
    rw [show (s.begin t).traffic.row? i j = none from hr]
  exact plain_runs (act := fun _ x s => describeAct i j x s) h rfl ha

theorem describe_runs_described {i j : Nat} {r : ObjRow} (hr : s.row? i j = some r) :
    Runs (.describe t q i j) s fun v => .response q.who ⟨.ok, r.describe x i j, true⟩ ∈ v.out ∧ Only s v [.access, .power, .bridge] [] := by
  have ha : describeAct i j x (s.begin t).traffic = (⟨.ok, r.describe x i j, true⟩, (s.begin t).traffic) := by
    unfold describeAct
    rw [show (s.begin t).traffic.row? i j = some r from hr]
  exact plain_runs (act := fun _ x s => describeAct i j x s) h rfl ha

end Taken

/-! ### Transactions (R413) -/

section Txn

/-- A transaction of a session begins or ends. -/
def Session.withTxn (l : Option (List (Nat × Val))) (y : Session) : Session := { y with txn := l, txnBytes := 0 }

theorem only_dropSnap (s : State) (n : Nat) : Only s (s.dropSnap n) [.access] [] := (Only.same s [.access] []).setAccess _ (by simp)

theorem txnBegin_refused {n : Nat} (h : x.txn.isSome = true) : txnBegin n x s = (Response.of .deviceState, s) := if_pos h

theorem txnBegin_opens {n : Nat} (h : x.txn = none) : txnBegin n x s = (Response.of .ok, (s.dropSnap n).updSession n (Session.withTxn (some []))) :=
  if_neg (by simp [h])

theorem txnAbort_refused {n : Nat} (h : x.txn = none) : txnAbort n x s = (Response.of .deviceState, s) := if_pos (by simp [h])

theorem txnAbort_discards {n : Nat} (h : x.txn.isSome = true) :
    txnAbort n x s = (Response.of .ok, (s.dropSnap n).updSession n (Session.withTxn none)) := if_neg (by simp [Option.isSome_iff_ne_none.mp h])

theorem txnEnd_refused {n : Nat} (h : x.txn = none) : txnEnd n x s = (Response.of .deviceState, s) := by
  unfold txnEnd
  rw [h]

theorem txnEnd_applies {n : Nat} {l : List (Nat × Val)} (h : x.txn = some l) :
    txnEnd n x s = (Response.of .ok, l.foldl (txnApply n) ((s.dropSnap n).updSession n (Session.withTxn none))) := by
  unfold txnEnd
  rw [h]
  rfl

/-- What applying held writes leaves. -/
structure State.txnApplied (s u : State) (n : Nat) (l : List (Nat × Val)) : Prop where
  held : u.held = s.held ++ l.filterMap (txnHeld n s.now)
  staged : u.staged = l.foldl (txnLayer .C) s.staged
  stored : u.stored = l.foldl (txnLayer .S) s.stored
  only : Only s u [.held, .staged, .stored, .pkg] []
  now : u.now = s.now

/-- A write of a transaction that waits for the next boundary. -/
def State.txnWaits (s : State) (n : Nat) (w : Nat × Val) : State :=
  let u := { s with held := s.held ++ [({ time := s.now, key := w.1, val := w.2, txn := some n } : Held)] }
  if userLayer w.1 then u.mirrorVal w.1 w.2 else u

theorem State.txnWaits_left (s : State) (n : Nat) (w : Nat × Val) :
    (s.txnWaits n w).held = s.held ++ [{ time := s.now, key := w.1, val := w.2, txn := some n }] ∧ (s.txnWaits n w).staged = s.staged ∧
      (s.txnWaits n w).stored = s.stored ∧ (s.txnWaits n w).now = s.now ∧ Only s (s.txnWaits n w) [.held, .pkg] [] := by
  have hf : ∀ l, Only s { s with held := l } [.held, .pkg] [] := fun l => (Only.same s _ _).setHeld l (by simp)
  unfold State.txnWaits
  dsimp only
  split
  · exact ⟨rfl, rfl, rfl, rfl, (hf _).one (only_mirrorVal ..) (by simp)⟩
  · exact ⟨rfl, rfl, rfl, rfl, hf _⟩

theorem txnApply_applied (s : State) (n : Nat) (w : Nat × Val) : s.txnApplied (txnApply n s w) n [w] := by
  unfold txnApply
  split
  next hr => exact ⟨by simp [txnHeld, hr], by simp [txnLayer, hr], by simp [txnLayer, hr], .same .., rfl⟩
  next r hr =>
    split
    next he =>
      exact ⟨by simp [txnHeld, hr, he, State.applyVal], by simp [txnLayer, hr, he, State.applyVal], by simp [txnLayer, hr, he, State.applyVal],
        (only_applyVal_C ..).mono (by simp) (by simp), rfl⟩
    next he =>
      exact ⟨by simp [txnHeld, hr, he, State.applyVal], by simp [txnLayer, hr, he, State.applyVal], by simp [txnLayer, hr, he, State.applyVal],
        (only_applyVal_S ..).mono (by simp) (by simp), rfl⟩
    next hC hS =>
      obtain ⟨hheld, hstaged, hstored, hnow, hf⟩ := s.txnWaits_left n w
      have hwaits : ¬(r.eff = .C ∨ r.eff = .S) := fun h => h.elim hC hS
      exact ⟨hheld.trans (by simp [txnHeld, hr, if_neg hwaits]), hstaged.trans (by simp [txnLayer, hr, if_neg hC]),
        hstored.trans (by simp [txnLayer, hr, if_neg hS]), hf.mono (by simp) (by simp), hnow⟩

theorem foldl_txnApply (n : Nat) (l : List (Nat × Val)) (s : State) : s.txnApplied (l.foldl (txnApply n) s) n l := by
  induction l generalizing s with
  | nil => exact ⟨by simp, rfl, rfl, .same .., rfl⟩
  | cons w l ih =>
    have hw := txnApply_applied s n w
    have hl := ih (txnApply n s w)
    refine ⟨?_, ?_, ?_, (hw.only.trans hl.only).mono (by simp) (by simp), hl.now.trans hw.now⟩
    · rw [List.foldl_cons, hl.held, hw.held, hw.now, List.append_assoc, ← List.filterMap_append]
      rfl
    · rw [List.foldl_cons, hl.staged, hw.staged]
      rfl
    · rw [List.foldl_cons, hl.stored, hw.stored]
      rfl

variable (h : s.TakesReq q x)
include h

theorem State.TakesReq.snapless (t n : Nat) : ((s.begin t).traffic.dropSnap n).session? q.who.sess = some x := h.session

omit h in
theorem only_snapless (s : State) (t n : Nat) : Only s ((s.begin t).traffic.dropSnap n) [.access, .power, .bridge] [] :=
  (only_taken s t [] []).one (only_dropSnap ..) (by simp)

theorem txnBegin_runs_refused (ht : x.txn.isSome = true) : Runs (.txnBegin t q) s fun v => v.answered q.who .deviceState ∧
    (∃ y, v.session? q.who.sess = some y ∧ y.txn = x.txn) ∧ Only s v [.access, .power, .bridge] [] := by
  obtain ⟨hans, hf⟩ := h.plain_answer t (Response.of .deviceState)
  exact .intro (route_runs (act := fun who x s => txnBegin who.sess x s) h rfl (txnBegin_refused ht))
    ⟨hans, ⟨_, State.session_answer (s := (s.begin t).traffic) h.session _, rfl⟩, hf⟩

theorem txnBegin_runs_opened (ht : x.txn = none) : Runs (.txnBegin t q) s fun v => v.answered q.who .ok ∧
    (∃ y, v.session? q.who.sess = some y ∧ y.txn = some [] ∧ y.txnBytes = 0) ∧ Only s v [.access, .power, .bridge] [] :=
  .intro (route_runs (act := fun who x s => txnBegin who.sess x s) h rfl (txnBegin_opens ht))
    (State.update_spec (C := fun y => y.txn = some [] ∧ y.txnBytes = 0) (h.snapless t _) (only_snapless ..) ⟨rfl, rfl⟩)

theorem txnAbort_runs_refused (ht : x.txn = none) : Runs (.txnAbort t q) s fun v => v.answered q.who .deviceState ∧
    Only s v [.access, .power, .bridge] [] :=
  plain_runs (act := fun who x s => txnAbort who.sess x s) h rfl (txnAbort_refused ht)

theorem txnAbort_runs_discarded (ht : x.txn.isSome = true) : Runs (.txnAbort t q) s fun v => v.answered q.who .ok ∧
    (∃ y, v.session? q.who.sess = some y ∧ y.txn = none ∧ y.txnBytes = 0) ∧ Only s v [.access, .power, .bridge] [] :=
  .intro (route_runs (act := fun who x s => txnAbort who.sess x s) h rfl (txnAbort_discards ht))
    (State.update_spec (C := fun y => y.txn = none ∧ y.txnBytes = 0) (h.snapless t _) (only_snapless ..) ⟨rfl, rfl⟩)

theorem txnEnd_runs_refused (ht : x.txn = none) : Runs (.txnEnd t q) s fun v => v.answered q.who .deviceState ∧
    Only s v [.access, .power, .bridge] [] :=
  plain_runs (act := fun who x s => txnEnd who.sess x s) h rfl (txnEnd_refused ht)

theorem txnEnd_runs_applied {l : List (Nat × Val)} (ht : x.txn = some l) : Runs (.txnEnd t q) s fun v => v.answered q.who .ok ∧
    (∃ y, v.session? q.who.sess = some y ∧ y.txn = none ∧ y.txnBytes = 0) ∧ v.held = s.held ++ l.filterMap (txnHeld q.who.sess (s.localAt t)) ∧
    v.staged = l.foldl (txnLayer .C) s.staged ∧ v.stored = l.foldl (txnLayer .S) s.stored ∧
    Only s v [.access, .power, .bridge, .held, .staged, .stored, .pkg] [] := by
  have he := route_runs (c := .txnEnd t q) (act := fun who x s => txnEnd who.sess x s) (t := t) h rfl (txnEnd_applies ht)
  have hy := State.session_updSession (h.snapless t q.who.sess) (Session.withTxn none)
  have hu : Only ((s.begin t).traffic.dropSnap q.who.sess)
    (((s.begin t).traffic.dropSnap q.who.sess).updSession q.who.sess (Session.withTxn none)) [.access] [] := only_updSession ..
  have hnow : (((s.begin t).traffic.dropSnap q.who.sess).updSession q.who.sess (Session.withTxn none)).now = s.localAt t := State.updSession_now ..
  have hf := ((only_snapless s t q.who.sess).trans hu).mono (Q := [.access, .power, .bridge]) (J := []) (by simp) (by simp)
  generalize ((s.begin t).traffic.dropSnap q.who.sess).updSession q.who.sess (Session.withTxn none) = w at he hy hnow hf
  have hw := foldl_txnApply q.who.sess l w
  generalize l.foldl (txnApply q.who.sess) w = u at he hw
  have hs : u.session? q.who.sess = some _ := (hw.only.session_eq (by decide) _).trans hy
  obtain ⟨hans, hv⟩ := State.answer_spec (P := [.held, .staged, .stored, .pkg]) hs
    (.and hw.only (hf.mono (by simp) (by simp)) (by simp) (by simp)) (Response.of .ok)
  have ha := only_answer u q.who (Response.of .ok)
  refine .intro he ⟨hans, ⟨_, State.session_answer hs _, rfl, rfl⟩, ?_, ?_, ?_, hv⟩
  · rw [show (u.answer q.who (Response.of .ok)).held = u.held from ha.rest .held (by decide), hw.held, hnow,
      show w.held = s.held from hf.rest .held (by decide)]
  · rw [show (u.answer q.who (Response.of .ok)).staged = u.staged from ha.rest .staged (by decide), hw.staged,
      show w.staged = s.staged from hf.rest .staged (by decide)]
  · rw [show (u.answer q.who (Response.of .ok)).stored = u.stored from ha.rest .stored (by decide), hw.stored,
      show w.stored = s.stored from hf.rest .stored (by decide)]

end Txn

end Sys2Proof.Machine
open Sys2Proof Sys2Proof.Machine

/-- Settles O42: how routing refuses a request, and what each request of a session that is taken leaves. -/
theorem requests : Obligations.Requests :=
  ⟨fun _ _ _ _ hc => ⟨request_runs_unheard hc, fun ha hl => ⟨request_runs_malformed hc ha hl, request_runs_foreign hc ha hl,
      request_runs_unknown hc ha hl⟩⟩,
    fun _ _ _ _ h => ⟨ping_runs h, fun _ _ => describe_runs_absent h, fun _ _ _ => describe_runs_described h, txnBegin_runs_refused h,
      txnBegin_runs_opened h, txnAbort_runs_refused h, txnAbort_runs_discarded h, txnEnd_runs_refused h, fun _ => txnEnd_runs_applied h⟩⟩
end

section
/-! Proofs about sessions: handshakes, OPEN and CLOSE, time-outs, forwarded answers, trust anchors and restore factory
(R401 to R408, R417, R467). -/
namespace Sys2Proof.Machine
open Sys2Proof

variable {s : State} {t : Nat}

/-! ### Handshakes (R401, R402) -/

section Handshake

variable {path : Path} {assoc : Nat} {chain : Option Trust} {valid : Bool} {slip : Option Slip}

theorem dtlsHandshake_unheard (h : s.reachable path = false ∨ Slip.lost slip = true) : dtlsHandshake path assoc chain valid slip s = s := by
  unfold dtlsHandshake
  refine if_pos ?_
  rcases h with h | h
  · simp [h]
  · simp [h]

/-- An authentication failure is counted and logged. -/
def State.authFailed (s : State) (path : Path) : State := (s.inc32 O.authenticationFailures).logLead Ev.authFailure 0xFFFF [(1, Path.code path)]

/-- A chain is accepted: its key is trusted, and it is valid now or the time is not traceable. -/
abbrev State.accepts (s : State) (k : Trust) (valid : Bool) : Bool := s.trusted k && (s.instFlag 0 isUNTRACEABLE || valid)

/-- The association of an accepted handshake. -/
def State.associated (s : State) (path : Path) (assoc : Nat) (k : Trust) : State :=
  { s with access := { s.access with assocs := s.access.assocs.filter (fun a => a.id != assoc) ++ [⟨assoc, path, k⟩] } }

theorem dtlsHandshake_failed (hr : s.reachable path = true) (hl : Slip.lost slip = false) (h : ∀ k, chain = some k → s.accepts k valid = false) :
    dtlsHandshake path assoc chain valid slip s = s.authFailed path := by
  unfold dtlsHandshake
  rw [hr, hl]
  cases chain with
  | none => rfl
  | some k =>
    have hk : (s.trusted k && (s.instFlag 0 isUNTRACEABLE || valid)) = false := h k rfl
    dsimp only
    rw [hk]
    rfl

theorem dtlsHandshake_accepted (hr : s.reachable path = true) (hl : Slip.lost slip = false) {k : Trust} (h : s.accepts k valid = true) :
    ∃ d, dtlsHandshake path assoc (some k) valid slip s =
      if s.instFlag 0 isUNTRACEABLE then (s.associated path assoc k).logLead Ev.untraceableAccept 0xFFFF d else s.associated path assoc k := by
  have hk : (s.trusted k && (s.instFlag 0 isUNTRACEABLE || valid)) = true := h
  unfold dtlsHandshake
  rw [hr, hl]
  dsimp only
  rw [hk]
  exact ⟨_, rfl⟩

theorem dtlsHandshake_runs_failed (hr : s.reachable path = true) (hl : Slip.lost slip = false)
    (h : ∀ k, chain = some k → (s.trusted k = false ∨ (s.instFlag 0 isUNTRACEABLE = false ∧ valid = false))) :
    Runs (.dtlsHandshake t path assoc chain valid slip) s fun v =>
      v.n O.authenticationFailures = satN (2 ^ 32 - 1) (s.n O.authenticationFailures + 1) ∧ Only s v [.logs] [O.authenticationFailures] := by
  have hf : ∀ k, chain = some k → (s.begin t).accepts k valid = false := fun k hk => by
    have hi : (s.begin t).instFlag 0 isUNTRACEABLE = s.instFlag 0 isUNTRACEABLE := rfl
    have ht : (s.begin t).trusted k = s.trusted k := rfl
    rcases h k hk with h | ⟨h, h'⟩
    · simp [State.accepts, ht, h]
    · simp [State.accepts, hi, h, h']
  have hl' : Only ((s.begin t).inc32 O.authenticationFailures) ((s.begin t).authFailed path) [.logs] [] := only_logLead ..
  refine .intro (congrArg Host.Outcome.next (dtlsHandshake_failed (s := s.begin t) hr hl hf))
    ⟨(hl'.n_all _).trans ((State.inc32_self ..).trans (by rw [State.begin_n])), ?_⟩
  exact (((only_inc32 (s.begin t) O.authenticationFailures).trans hl').mono (by simp) (by simp)).begin

theorem dtlsHandshake_runs_accepted (hr : s.reachable path = true) (hl : Slip.lost slip = false) {k : Trust} (hk : s.trusted k = true)
    (hv : s.instFlag 0 isUNTRACEABLE = true ∨ valid = true) : Runs (.dtlsHandshake t path assoc (some k) valid slip) s fun v =>
      v.access = { s.access with assocs := s.access.assocs.filter (fun a => a.id != assoc) ++ [⟨assoc, path, k⟩] } ∧
      Only s v [.access, .logs] [] := by
  have ha : (s.begin t).accepts k valid = true := by
    have hi : (s.begin t).instFlag 0 isUNTRACEABLE = s.instFlag 0 isUNTRACEABLE := rfl
    have ht : (s.begin t).trusted k = s.trusted k := rfl
    rw [State.accepts, hi, ht, hk]
    simpa using hv
  have hf : Only (s.begin t) ((s.begin t).associated path assoc k) [.access] [] := (Only.same (s.begin t) [.access] []).setAccess _ (by simp)
  obtain ⟨d, he⟩ := dtlsHandshake_accepted (path := path) (assoc := assoc) (s := s.begin t) hr hl ha
  refine .intro (congrArg Host.Outcome.next he) ?_
  split
  · have hlog := only_logLead ((s.begin t).associated path assoc k) Ev.untraceableAccept 0xFFFF d
    exact ⟨hlog.rest .access (by decide), ((hf.trans hlog).mono (by simp) (by simp)).begin⟩
  · exact ⟨rfl, (hf.mono (by simp) (by simp)).begin⟩

end Handshake

/-! ### OPEN (R403, R404) -/

section Open

variable {who : Who} {role : Nat} {k : Option Token} {a : Assoc}

theorem openAct_unassociated (h : s.access.assocs.find? (fun a => a.id == who.assoc) = none) : openAct who role k s = s := by
  unfold openAct
  rw [h]

/-- The answer to an OPEN that is granted. -/
def State.openResponse (s : State) (a : Assoc) (ro : Role) (n : Nat) : Response :=
  ⟨.ok, leBytes 1 n ++ leBytes 1 ro.code ++ leBytes 1 (b2n (s.worldOf a.trust)) ++ [0] ++ beBytes 2 (s.n O.sessionIdleTimeout), true⟩

/-- The session that an OPEN opens. -/
def State.openedSession (s : State) (who : Who) (a : Assoc) (ro : Role) (n : Nat) : Session :=
  { freshSession ro (s.worldOf a.trust) a.path who.assoc (some a.trust) false 0 s.now with
    lastSeq := some who.seq, stored := some (s.openResponse a ro n) }

/-- The session is open. -/
def State.sessionAdded (s : State) (n : Nat) (x : Session) : State :=
  { s with access := { s.access with sessions := ins s.access.sessions n x } }

section Associated

variable (ha : s.access.assocs.find? (fun a => a.id == who.assoc) = some a) (hr : s.reachable a.path = true) (hl : Slip.lost who.slip = false)
include ha hr hl

theorem openAct_roleless (hro : Role.ofCode role = none) : openAct who role k s = s.reply { who with sess := 0xFF } (Response.of .outOfRange) := by
  unfold openAct
  rw [ha]
  dsimp only
  rw [hr, hl, hro]
  rfl

/-- An OPEN of a role, written out. -/
theorem openAct_role {ro : Role} (hro : Role.ofCode role = some ro) : openAct who role k s =
    if !(s.trusted a.trust && s.roleGranted a ro k) then (s.inc32 O.accessDenials).reply { who with sess := 0xFF } (Response.of .accessDenied)
    else if 16 ≤ s.sessionsOpen then s.reply { who with sess := 0xFF } (Response.of .deviceState)
    else
      match (List.range 32).find? (fun n => (s.session? n).isNone) with
      | none => s.reply { who with sess := 0xFF } (Response.of .deviceState)
      | some n => (s.sessionAdded n (s.openedSession who a ro n)).reply { who with sess := n } (s.openResponse a ro n) := by
  unfold openAct
  rw [ha]
  dsimp only
  rw [hr, hl, hro]
  rfl

theorem openSession_runs_roleless (hro : Role.ofCode role = none) : Runs (.openSession t who role k) s fun v =>
    .response { who with sess := 0xFF } (Response.of .outOfRange) ∈ v.out ∧ Only s v [.bridge] [] :=
  .intro (congrArg Host.Outcome.next (openAct_roleless (s := s.begin t) ha hr hl hro)) ⟨State.reply_out .., (only_reply ..).begin⟩

variable {ro : Role} (hro : Role.ofCode role = some ro)
include hro

theorem openSession_runs_denied (hg : (s.trusted a.trust && (s.begin t).roleGranted a ro k) = false) :
    Runs (.openSession t who role k) s fun v => .response { who with sess := 0xFF } (Response.of .accessDenied) ∈ v.out ∧
      v.n O.accessDenials = satN (2 ^ 32 - 1) (s.n O.accessDenials + 1) ∧ Only s v [.bridge] [O.accessDenials] := by
  have he := (openAct_role (s := s.begin t) (k := k) ha hr hl hro).trans
    (if_pos (by rw [show (s.begin t).trusted a.trust = s.trusted a.trust from rfl, hg]; rfl))
  have hv := only_reply ((s.begin t).inc32 O.accessDenials) { who with sess := 0xFF } (Response.of .accessDenied)
  exact .intro (congrArg Host.Outcome.next he) ⟨State.reply_out .., (hv.n_all _).trans ((State.inc32_self ..).trans (by rw [State.begin_n])),
    (((only_inc32 (s.begin t) O.accessDenials).trans hv).mono (by simp) (by simp)).begin⟩

variable (hg : (s.trusted a.trust && (s.begin t).roleGranted a ro k) = true)
include hg

theorem openAct_granted : openAct who role k (s.begin t) =
    if 16 ≤ s.sessionsOpen then (s.begin t).reply { who with sess := 0xFF } (Response.of .deviceState)
    else
      match (List.range 32).find? (fun n => (s.session? n).isNone) with
      | none => (s.begin t).reply { who with sess := 0xFF } (Response.of .deviceState)
      | some n => ((s.begin t).sessionAdded n ((s.begin t).openedSession who a ro n)).reply { who with sess := n } ((s.begin t).openResponse a ro n) :=
  (openAct_role (s := s.begin t) (k := k) ha hr hl hro).trans
    (if_neg (by rw [show (s.begin t).trusted a.trust = s.trusted a.trust from rfl, hg]; decide))

theorem openSession_runs_full (hf : 16 ≤ s.sessionsOpen) : Runs (.openSession t who role k) s fun v =>
    .response { who with sess := 0xFF } (Response.of .deviceState) ∈ v.out ∧ Only s v [.bridge] [] :=
  .intro (congrArg Host.Outcome.next ((openAct_granted ha hr hl hro hg).trans (if_pos hf))) ⟨State.reply_out .., (only_reply ..).begin⟩

theorem openSession_runs_opened {n : Nat} (hf : s.sessionsOpen < 16) (hn : (List.range 32).find? (fun n => (s.session? n).isNone) = some n) :
    Runs (.openSession t who role k) s fun v =>
      .response { who with sess := n }
        ⟨.ok, leBytes 1 n ++ leBytes 1 ro.code ++ leBytes 1 (b2n (s.worldOf a.trust)) ++ [0] ++ beBytes 2 (s.n O.sessionIdleTimeout), true⟩ ∈ v.out ∧
      (∃ x, v.session? n = some x ∧ x.role = ro ∧ x.secure = s.worldOf a.trust ∧ x.assoc = who.assoc ∧ x.trust = some a.trust ∧
        x.lastUse = s.localAt t ∧ x.txn = none) ∧
      (∀ m, m ≠ n → v.session? m = s.session? m) ∧ Only s v [.access, .bridge] [] := by
  have he := (openAct_granted ha hr hl hro hg).trans (if_neg (Nat.not_le.mpr hf))
  rw [hn] at he
  dsimp only at he
  have hresp : (s.begin t).openResponse a ro n =
      ⟨.ok, leBytes 1 n ++ leBytes 1 ro.code ++ leBytes 1 (b2n (s.worldOf a.trust)) ++ [0] ++ beBytes 2 (s.n O.sessionIdleTimeout), true⟩ := by
    unfold State.openResponse
    rw [State.begin_n]
    rfl
  have hadd : Only (s.begin t) ((s.begin t).sessionAdded n ((s.begin t).openedSession who a ro n)) [.access] [] :=
    (Only.same (s.begin t) [.access] []).setAccess _ (by simp)
  have hsess : ∀ m, ((s.begin t).sessionAdded n ((s.begin t).openedSession who a ro n)).session? m =
      if m = n then some ((s.begin t).openedSession who a ro n) else s.session? m := fun m => look_ins ..
  generalize (s.begin t).sessionAdded n ((s.begin t).openedSession who a ro n) = w at he hadd hsess
  have hv := only_reply w { who with sess := n } ((s.begin t).openResponse a ro n)
  refine .intro (congrArg Host.Outcome.next he) ⟨?_, ⟨(s.begin t).openedSession who a ro n, ?_, rfl, rfl, rfl, rfl, rfl, rfl⟩, fun m hm => ?_, ?_⟩
  · rw [← hresp]
    exact State.reply_out ..
  · rw [hv.session_eq (by decide), hsess, if_pos rfl]
  · rw [hv.session_eq (by decide), hsess, if_neg hm]
  · exact ((hadd.trans hv).mono (by simp) (by simp)).begin

end Associated

end Open

/-! ### The end of a session (R403, R429) -/

section Ends

/-- The keys of a released lock. -/
abbrev lockKeys : List Nat := O.updateStatus :: O.lockHolder :: O.lastUpdateResult :: imageKeys

theorem State.imageShown_blob (s : State) (d : Nat) (r : BootRec) {i k : Nat} (h : k ≠ byIdx O.slotImageHash i) : (s.imageShown d r i).blob k = s.blob k := by
  unfold State.imageShown
  rw [(only_setN ..).blob_eq (by decide), State.setBlob_other _ _ _ _ h]
  exact (((only_setN s _ _).trans (only_setN ..)).trans (only_setN ..)).blob_eq (by decide) k

theorem State.refreshImages_blob (s : State) (k : Nat) (h : k ∉ [byIdx O.slotImageHash 0, byIdx O.slotImageHash 1]) :
    s.refreshImages.blob k = s.blob k := by
  have hi : ([0, 1].foldl (fun (w : State) i => w.imageShown s.pkg.lead (s.bootRec s.pkg.lead) i) s).blob k = s.blob k :=
    (State.imageShown_blob _ _ _ fun hk => h (by simp [hk])).trans (State.imageShown_blob _ _ _ fun hk => h (by simp [hk]))
  have hn : ∀ {u : State} (j v : Nat), u.blob k = s.blob k → (u.setN j v).blob k = s.blob k := fun j v hu =>
    ((only_setN ..).blob_eq (by decide) k).trans hu
  unfold State.refreshImages
  exact hn _ _ (hn _ _ (hn _ _ (hn _ _ (hn _ _ hi))))

theorem State.setSpare_blob (s : State) (v k : Nat) (h : k ∉ [byIdx O.slotImageHash 0, byIdx O.slotImageHash 1]) :
    (s.setSpare v).blob k = s.blob k :=
  (State.refreshImages_blob _ k h).trans ((only_allBoot ..).blob_eq (by decide) k)

theorem State.cutShort_blob (s : State) (k : Nat) (h : k ∉ [byIdx O.slotImageHash 0, byIdx O.slotImageHash 1]) : s.cutShort.blob k = s.blob k := by
  cases hv : s.update.verifying with
  | true =>
    rw [State.cutShort_verifying hv]
    exact (only_stopped s).blob_eq (by decide) k
  | false =>
    rw [State.cutShort_loading hv, (only_stopped _).blob_eq (by decide), State.setSpare_blob _ _ _ h]
    exact (only_imagesSet ..).blob_eq (by decide) k

theorem State.releaseLock_blob (s : State) (asked : Bool) (k : Nat) (h : k ∉ [byIdx O.slotImageHash 0, byIdx O.slotImageHash 1]) :
    (s.releaseLock asked).blob k = s.blob k := by
  have hl : (s.lockLeft asked).blob k = s.blob k := by
    unfold State.lockLeft
    split
    · split
      · exact s.cutShort_blob k h
      · exact s.cutShort_blob k h
    · split
      · rfl
      · rfl
  rw [State.releaseLock_eq]
  exact ((s.lockLeft asked).unlock_free.only.blob_eq (by decide) k).trans hl

/-- What the end of a session leaves. -/
structure State.sessionEnded (s u : State) (n : Nat) : Prop where
  only : Only s u [.access, .update, .blobs] lockKeys
  sessions : ∀ m, u.session? m = if m = n then none else s.session? m
  assocs : u.access.assocs = s.access.assocs
  holder : u.update.holder ≠ some n
  unlocked : s.update.holder ≠ some n → Only s u [.access] []
  blob : ∀ k ∉ [byIdx O.slotImageHash 0, byIdx O.slotImageHash 1], u.blob k = s.blob k

/-- A session is taken out of the list, with what waits for it elsewhere. -/
def State.sessionOut (s : State) (n : Nat) : State :=
  { s with access := { s.access with sessions := del s.access.sessions n, forwarded := s.access.forwarded.filter (fun f => f.sess != n) } }

theorem State.sessionOut_session (s : State) (n m : Nat) : (s.sessionOut n).session? m = if m = n then none else s.session? m := by
  split
  next h =>
    rw [h]
    exact look_del_self ..
  next h => exact look_del_ne _ _ _ h

theorem State.endSession_ended (s : State) (n : Nat) : s.sessionEnded (s.endSession n) n := by
  have hf : Only s (s.sessionOut n) [.access] [] := (Only.same s [.access] []).setAccess _ (by simp)
  have he : s.endSession n = (s.sessionOut n).sessionLock n := rfl
  by_cases hh : s.update.holder = some n
  · have hr := (s.sessionOut n).releaseLock_released false
    have hl : (s.sessionOut n).sessionLock n = (s.sessionOut n).releaseLock false := if_pos hh
    rw [he, hl]
    exact
      { only := (hf.trans hr.only).mono (by simp) (by simp)
        sessions := fun m => (hr.only.session_eq (by decide) m).trans (s.sessionOut_session n m)
        assocs := (congrArg AccessSt.assocs (show ((s.sessionOut n).releaseLock false).access = (s.sessionOut n).access from hr.only.rest .access (by decide))).trans rfl
        holder := by
          rw [hr.holder]
          exact Option.some_ne_none n |>.symm
        unlocked := fun hn => absurd hh hn
        blob := fun k hk => ((s.sessionOut n).releaseLock_blob false k hk).trans (hf.blob_eq (by decide) k) }
  · have hl : (s.sessionOut n).sessionLock n = s.sessionOut n := if_neg hh
    rw [he, hl]
    exact ⟨hf.mono (by simp) (by simp), s.sessionOut_session n, rfl, hh, fun _ => hf, fun k _ => hf.blob_eq (by decide) k⟩

theorem sessionIdle_ends {n : Nat} {x : Session} (h : s.session? n = some x) (hn : n ≠ 32) (hx : x.executing = false)
    (hi : s.idleNs ≤ s.now - x.lastUse) : sessionIdle n s = s.endSession n := by
  unfold sessionIdle
  rw [h]
  simp [hn, hx, hi]

theorem sessionIdle_stays {n : Nat} {x : Session} (h : s.session? n = some x)
    (hn : n = 32 ∨ x.executing = true ∨ s.now - x.lastUse < s.idleNs) : sessionIdle n s = s := by
  unfold sessionIdle
  rw [h]
  refine if_neg ?_
  rcases hn with hn | hn | hn
  · simp [hn]
  · simp [hn]
  · simp [Nat.not_le.mpr hn]

theorem State.begin_idleNs (s : State) (t : Nat) : (s.begin t).idleNs = s.idleNs := by
  unfold State.idleNs
  rw [State.begin_n]

theorem sessionIdleTimeout_runs_ended {n : Nat} {x : Session} (h : s.session? n = some x) (hn : n ≠ 32) (hx : x.executing = false)
    (hi : s.idleNs ≤ s.localAt t - x.lastUse) : Runs (.sessionIdleTimeout t n) s fun v => v.session? n = none ∧ v.update.holder ≠ some n ∧
      (s.update.holder ≠ some n → Only s v [.access] []) := by
  have he := (s.begin t).endSession_ended n
  exact .intro (congrArg Host.Outcome.next (sessionIdle_ends (s := s.begin t) h hn hx (by rwa [State.begin_idleNs])))
    ⟨(he.sessions n).trans (if_pos rfl), he.holder, fun hh => (he.unlocked hh).begin⟩

theorem closeAct_ends {q : Req} {x : Session} (ha : s.answers = true) (hl : Slip.lost q.who.slip = false) (hf : q.fmtOk = true)
    (he : q.ext = none) (hs : s.session? q.who.sess = some x) (hp : s.pathUp x.path = true) (hx : x.assoc = q.who.assoc)
    (hn : x.lastSeq ≠ some q.who.seq) : closeAct q s = (s.traffic.endSession q.who.sess).reply q.who (Response.of .ok) := by
  unfold closeAct
  rw [ha, hl, hf, he]
  simp only [Bool.not_true, Bool.or_self, Bool.false_eq_true, if_false, Option.isSome_none, false_and]
  rw [hs]
  simp only [hp, hx, hn, Bool.not_true, Bool.false_eq_true, if_false, ne_eq, not_true_eq_false]

theorem close_runs {q : Req} {x : Session} (ha : s.answers = true) (hl : Slip.lost q.who.slip = false) (hf : q.fmtOk = true)
    (he : q.ext = none) (hs : s.session? q.who.sess = some x) (hp : s.pathUp x.path = true) (hx : x.assoc = q.who.assoc)
    (hn : x.lastSeq ≠ some q.who.seq) : Runs (.close t q) s fun v => v.answered q.who .ok ∧ v.session? q.who.sess = none ∧
      (∀ m, m ≠ q.who.sess → v.session? m = s.session? m) ∧ v.update.holder ≠ some q.who.sess ∧
      (s.update.holder ≠ some q.who.sess → Only s v [.access, .bridge, .power] []) := by
  have hc := closeAct_ends (s := s.begin t) ha hl hf he hs hp hx hn
  have hend := (s.begin t).traffic.endSession_ended q.who.sess
  generalize (s.begin t).traffic.endSession q.who.sess = w at hc hend
  have hv := only_reply w q.who (Response.of .ok)
  refine .intro (congrArg Host.Outcome.next hc) ⟨State.reply_out .., ?_, fun m hm => ?_, ?_, fun hh => ?_⟩
  · exact (hv.session_eq (by decide) _).trans ((hend.sessions _).trans (if_pos rfl))
  · exact (hv.session_eq (by decide) _).trans ((hend.sessions _).trans (if_neg hm))
  · rw [show (w.reply q.who (Response.of .ok)).update = w.update from hv.rest .update (by decide)]
    exact hend.holder
  · exact ((((only_traffic (s.begin t)).trans (hend.unlocked hh)).trans hv).mono (by simp) (by simp)).begin

end Ends

/-! ### Read snapshots (R407) -/

section Snapshot

variable {n b w : Nat} {x : Session}

theorem snapshotExpiry_held {k : Nat} {b : Bytes} (h : s.session? n = some x) (hx : x.snap = some (k, b, w)) : snapshotExpiry n s =
    if 10000000000 ≤ s.now - w then s.updSession n (fun y => { y with snap := none }) else s := by
  unfold snapshotExpiry
  rw [h]
  dsimp only
  rw [hx]

theorem snapshotExpiry_runs_expired {k : Nat} {b : Bytes} (h : s.session? n = some x) (hx : x.snap = some (k, b, w))
    (ho : 10000000000 ≤ s.localAt t - w) : Runs (.snapshotExpiry t n) s fun v => v.session? n = some { x with snap := none } ∧
      Only s v [.access] [] :=
  .intro (congrArg Host.Outcome.next ((snapshotExpiry_held (s := s.begin t) h hx).trans (if_pos ho)))
    ⟨State.session_updSession (s := s.begin t) h _, (only_updSession ..).begin⟩

theorem snapshotExpiry_runs_kept {k : Nat} {b : Bytes} (h : s.session? n = some x) (hx : x.snap = some (k, b, w))
    (ho : s.localAt t - w < 10000000000) : Runs (.snapshotExpiry t n) s (· = s.begin t) :=
  .intro (congrArg Host.Outcome.next ((snapshotExpiry_held (s := s.begin t) h hx).trans (if_neg (Nat.not_le.mpr ho)))) rfl

end Snapshot

/-! ### Forwarded requests (R408, R467) -/

section Forward

variable {n : Nat} {x : Session}

/-- Nothing of a session waits at another device. -/
def State.unforwarded (s : State) (n : Nat) : State :=
  { s with access := { s.access with forwarded := s.access.forwarded.filter (fun g => g.sess != n) } }

theorem only_unforwarded (s : State) (n : Nat) : Only s (s.unforwarded n) [.access] [] := (Only.same s [.access] []).setAccess _ (by simp)

/-- A forwarded request's answer, or its time-out, reaches its session. -/
theorem State.unforwarded_answer (h : s.session? n = some x) (t : Nat) {who : Who} (hw : who.sess = n) (r : Response) :
    .response who r ∈ (((s.begin t).unforwarded n).answer who r).out ∧
      (((s.begin t).unforwarded n).answer who r).access.forwarded = s.access.forwarded.filter (fun g => g.sess != n) ∧
      (((s.begin t).unforwarded n).answer who r).session? n =
        some { x with stored := some r, lastSeq := some who.seq, executing := false, lastUse := s.localAt t } ∧
      Only s (((s.begin t).unforwarded n).answer who r) [.access, .bridge] [] := by
  subst hw
  have hs : ((s.begin t).unforwarded who.sess).session? who.sess = some x := h
  refine ⟨State.answer_out _ _ _ (by rw [hs]; rfl), ?_, State.session_answer hs r,
    (((only_unforwarded (s.begin t) who.sess).trans (only_answer ..)).mono (by simp) (by simp)).begin⟩
  unfold State.answer
  rw [hs]
  dsimp only
  rw [(only_reply ..).rest .access (by decide)]
  unfold State.updSession
  rw [hs]
  rfl

theorem forwardTimeout_early {f : Forwarded} (hf : s.access.forwarded.find? (fun f => f.sess == n) = some f)
    (ho : s.now - f.since < 500000000) : forwardTimeout n s = s := by
  unfold forwardTimeout
  rw [hf]
  exact if_pos ho

theorem forwardTimeout_late {f : Forwarded} (hf : s.access.forwarded.find? (fun f => f.sess == n) = some f) (hs : s.session? n = some x)
    (ho : 500000000 ≤ s.now - f.since) :
    forwardTimeout n s = (s.unforwarded n).answer ⟨n, f.seq, x.assoc, f.head, none⟩ (Response.of .timeout) := by
  unfold forwardTimeout
  rw [hf]
  refine (if_neg (Nat.not_lt.mpr ho)).trans ?_
  have hu : (s.unforwarded n).session? n = some x := hs
  unfold State.unforwarded at hu ⊢
  dsimp only
  rw [hu]

theorem forwardedResponse_unknown {seq : Nat} {r : Response} (hf : s.access.forwarded.find? (fun f => f.sess == n && f.seq == seq) = none) :
    forwardedResponse n seq r s = s := by
  unfold forwardedResponse
  rw [hf]

theorem forwardedResponse_known {seq : Nat} {r : Response} {f : Forwarded}
    (hf : s.access.forwarded.find? (fun f => f.sess == n && f.seq == seq) = some f) (hs : s.session? n = some x) :
    forwardedResponse n seq r s = (s.unforwarded n).answer ⟨n, seq, x.assoc, f.head, none⟩ r := by
  unfold forwardedResponse
  rw [hf]
  have hu : (s.unforwarded n).session? n = some x := hs
  unfold State.unforwarded at hu ⊢
  dsimp only
  rw [hu]

theorem forwardTimeout_runs_late {f : Forwarded} (hf : s.access.forwarded.find? (fun f => f.sess == n) = some f) (hs : s.session? n = some x)
    (ho : 500000000 ≤ s.localAt t - f.since) : Runs (.forwardTimeout t n) s fun v =>
      v.answered ⟨n, f.seq, x.assoc, f.head, none⟩ .timeout ∧ v.access.forwarded = s.access.forwarded.filter (fun g => g.sess != n) ∧
      v.session? n = some { x with stored := some (Response.of .timeout), lastSeq := some f.seq, executing := false, lastUse := s.localAt t } ∧
      Only s v [.access, .bridge] [] :=
  .intro (congrArg Host.Outcome.next (forwardTimeout_late (s := s.begin t) hf hs ho)) (State.unforwarded_answer hs t rfl _)

theorem forwardedResponse_runs_known {seq : Nat} {st : Status} {d : Bytes} {last : Bool} {f : Forwarded}
    (hf : s.access.forwarded.find? (fun f => f.sess == n && f.seq == seq) = some f) (hs : s.session? n = some x) :
    Runs (.forwardedResponse t n seq st d last) s fun v => .response ⟨n, seq, x.assoc, f.head, none⟩ ⟨st, d, last⟩ ∈ v.out ∧
      v.access.forwarded = s.access.forwarded.filter (fun g => g.sess != n) ∧
      v.session? n = some { x with stored := some ⟨st, d, last⟩, lastSeq := some seq, executing := false, lastUse := s.localAt t } ∧
      Only s v [.access, .bridge] [] :=
  .intro (congrArg Host.Outcome.next (forwardedResponse_known (s := s.begin t) hf hs)) (State.unforwarded_answer hs t rfl _)

end Forward

/-! ### Trust anchors (R402) -/

section Anchor

variable {who : Who} {x : Session} {n : Nat} {b : Bytes}

theorem mem_of_look {α : Type} (m : SMap α) {k : Nat} {v : α} (h : look m k = some v) : (k, v) ∈ m := by
  induction m with
  | nil => exact absurd h (by simp [look])
  | cons e m ih =>
    unfold look at h
    split at h
    next hk =>
      rw [← hk, ← Option.some.inj h]
      exact List.mem_cons_self
    next => exact List.mem_cons_of_mem _ (ih h)

/-- What sessions ended one after another leave. -/
structure State.allEnded (s u : State) (l : List Nat) : Prop where
  only : Only s u [.access, .update, .blobs] lockKeys
  sessions : ∀ m, u.session? m = if m ∈ l then none else s.session? m
  assocs : u.access.assocs = s.access.assocs
  blob : ∀ k ∉ [byIdx O.slotImageHash 0, byIdx O.slotImageHash 1], u.blob k = s.blob k

theorem foldl_endSession (l : List Nat) (s : State) : s.allEnded (l.foldl State.endSession s) l := by
  induction l generalizing s with
  | nil => exact ⟨.same .., fun m => by simp, rfl, fun _ _ => rfl⟩
  | cons a l ih =>
    have ha := s.endSession_ended a
    have hl := ih (s.endSession a)
    refine ⟨.and hl.only ha.only (List.Subset.refl _) (List.Subset.refl _), fun m => ?_, hl.assocs.trans ha.assocs,
      fun k hk => (hl.blob k hk).trans (ha.blob k hk)⟩
    rw [List.foldl_cons, hl.sessions, ha.sessions]
    by_cases hm : m = a
    · simp [hm]
    · simp [hm]

/-- The record is in force, and in the mirror. -/
def State.anchorSet (s : State) (n : Nat) (b : Bytes) : State :=
  (s.setBlob (bySub O.trustAnchor (n - 1)) b).mirrorVal (bySub O.trustAnchor (n - 1)) (.bytes b)

theorem only_anchorSet (s : State) (n : Nat) (b : Bytes) : Only s (s.anchorSet n b) [.blobs, .pkg] [] :=
  ((only_setBlob ..).trans (only_mirrorVal ..)).mono (by simp) (by simp)

/-- The sessions under an anchor. -/
def State.sessionsUnder (s : State) (n : Nat) : List Nat := (s.access.sessions.filter (fun e => e.2.trust == some (.anchor n))).map (·.1)

theorem State.mem_sessionsUnder {m : Nat} : m ∈ s.sessionsUnder n ↔ ∃ y, (m, y) ∈ s.access.sessions ∧ y.trust = some (.anchor n) := by
  unfold State.sessionsUnder
  simp

/-- No association is left under an anchor. -/
def State.chainsDropped (s : State) (n : Nat) : State :=
  { s with access := { s.access with assocs := s.access.assocs.filter (fun a => a.trust != .anchor n) } }

theorem trustAnchorAct_same (h : s.blob (bySub O.trustAnchor (n - 1)) = b) : trustAnchorAct n b x s = (.ok, s.anchorSet n b) := if_pos h

theorem trustAnchorAct_changed (h : s.blob (bySub O.trustAnchor (n - 1)) ≠ b) :
    trustAnchorAct n b x s = (.ok, (((s.sessionsUnder n).foldl State.endSession (s.anchorSet n b))).chainsDropped n) := if_neg h

/-- What an operation on the sessions that keeps a view of each keeps of it. -/
theorem State.updSession_map {α : Type} (g : Session → α) {f : Session → Session} (hg : ∀ y, g (f y) = g y) (s : State) (n m : Nat) :
    ((s.updSession n f).session? m).map g = (s.session? m).map g := by
  unfold State.updSession
  split
  next => rfl
  next y hy =>
    unfold State.session? at hy ⊢
    dsimp only
    rw [look_ins]
    split
    next hm =>
      rw [hm, hy]
      exact congrArg some (hg y)
    next => rfl

theorem State.heard_trust (s : State) (t : Nat) (who : Who) (idx sub m : Nat) :
    ((s.heard t who idx sub).session? m).map Session.trust = (s.session? m).map Session.trust := by
  unfold State.heard State.touch
  rw [if_neg Bool.false_ne_true]
  refine (State.updSession_map Session.trust ?_ _ _ _).trans rfl
  exact fun _ => rfl

theorem State.answer_isSome (w : State) (who : Who) (r : Response) (m : Nat) : ((w.answer who r).session? m).isSome = (w.session? m).isSome := by
  unfold State.answer
  split
  · rfl
  · rw [(only_reply ..).session_eq (by decide)]
    exact State.updSession_isSome ..

theorem State.answer_assocs (w : State) (who : Who) (r : Response) : (w.answer who r).access.assocs = w.access.assocs := by
  unfold State.answer
  split
  · rfl
  · rw [(only_reply ..).rest .access (by decide)]
    unfold State.updSession
    split
    · rfl
    · rfl

theorem State.mem_updSession {f : Session → Session} {n : Nat} {e : Nat × Session} (he : e ∈ (s.updSession n f).access.sessions) :
    e ∈ s.access.sessions ∨ ∃ y, s.session? n = some y ∧ e = (n, f y) := by
  unfold State.updSession at he
  split at he
  next => exact .inl he
  next y hy => exact (mem_ins _ _ _ _ he).symm.imp_right fun h => ⟨y, hy, h⟩

variable (h : s.MayWriteDom who x 0x2081 n 52 52 b.length) (hok : anchorOk b = true)
include h hok

theorem trustAnchorWrite_runs_same (hb : s.blob (bySub O.trustAnchor (n - 1)) = b) : Runs (.trustAnchorWrite t who n b) s fun v =>
    v.answered who .ok ∧ v.blob (bySub O.trustAnchor (n - 1)) = b ∧
    v.pkg.mirror = s.pkg.mirror.setVal (bySub O.trustAnchor (n - 1)) (.bytes b) ∧ Only s v [.access, .power, .bridge, .blobs, .pkg] [] := by
  have ha := trustAnchorAct_same (x := x) (s := s.heard t who 0x2081 n) (b := b) (n := n) (((only_heard ..).blob_eq (by decide) _).trans hb)
  have hm : ((s.heard t who 0x2081 n).anchorSet n b).pkg.mirror = s.pkg.mirror.setVal (bySub O.trustAnchor (n - 1)) (.bytes b) :=
    congrArg (fun p : PkgSt => p.mirror.setVal (bySub O.trustAnchor (n - 1)) (.bytes b)) (State.heard_pkg ..)
  refine (h.runs (t := t) (fun _ => anchorOk b) (trustAnchorAct n b) rfl hok ha (only_anchorSet ..) (by simp)).imp fun v ⟨hans, hv, hf⟩ =>
    ⟨hans, ?_, ?_, hf.mono (by simp) (by simp)⟩
  · rw [hv.blob_eq (by decide)]
    exact State.setBlob_self ..
  · rw [show v.pkg = _ from hv.rest .pkg (by decide)]
    exact hm

omit hok in
/-- The session that writes is in the list as its number finds it, with its trust. -/
theorem not_mem_sessionsUnder (hx : ∀ e ∈ s.access.sessions, e.1 = who.sess → e.2.trust ≠ some (.anchor n)) :
    who.sess ∉ (s.heard t who 0x2081 n).sessionsUnder n := fun hm => by
  obtain ⟨y, hy, ht⟩ := State.mem_sessionsUnder.mp hm
  unfold State.heard State.touch at hy
  rw [if_neg Bool.false_ne_true] at hy
  obtain hy | ⟨z, hz, he⟩ := State.mem_updSession hy
  · exact hx _ hy rfl ht
  · obtain rfl : x = z := Option.some.inj (h.session.symm.trans hz)
    have hty : y.trust = x.trust := congrArg (fun e : Nat × Session => e.2.trust) he
    exact hx _ (mem_of_look _ h.session) rfl (hty.symm.trans ht)

theorem trustAnchorWrite_runs_changed (hb : s.blob (bySub O.trustAnchor (n - 1)) ≠ b) (hn : n - 1 < 8) :
    Runs (.trustAnchorWrite t who n b) s fun v => v.blob (bySub O.trustAnchor (n - 1)) = b ∧
      v.pkg.mirror = s.pkg.mirror.setVal (bySub O.trustAnchor (n - 1)) (.bytes b) ∧
      (∀ a ∈ v.access.assocs, a.trust ≠ .anchor n) ∧ (∀ m y, s.session? m = some y → y.trust = some (.anchor n) → v.session? m = none) ∧
      ((∀ e ∈ s.access.sessions, e.1 = who.sess → e.2.trust ≠ some (.anchor n)) → v.answered who .ok) := by
  have ha := trustAnchorAct_changed (x := x) (s := s.heard t who 0x2081 n) (b := b) (n := n)
    (by rwa [show (s.heard t who 0x2081 n).blob (bySub O.trustAnchor (n - 1)) = _ from (only_heard ..).blob_eq (by decide) _])
  have he : exec (.trustAnchorWrite t who n b) s = .next _ := domRow_runs h t (fun _ => anchorOk b) (trustAnchorAct n b) hok ha
  have hnot := not_mem_sessionsUnder (t := t) h
  have hgone : ∀ m y, s.session? m = some y → y.trust = some (.anchor n) → m ∈ (s.heard t who 0x2081 n).sessionsUnder n := fun m y hy ht => by
    have hm := s.heard_trust t who 0x2081 n m
    rw [hy, Option.map_some, ht] at hm
    obtain ⟨z, hz, hzt⟩ := Option.map_eq_some_iff.mp hm
    exact State.mem_sessionsUnder.mpr ⟨z, mem_of_look _ hz, hzt⟩
  have hset := only_anchorSet (s.heard t who 0x2081 n) n b
  have hblob : ((s.heard t who 0x2081 n).anchorSet n b).blob (bySub O.trustAnchor (n - 1)) = b := State.setBlob_self ..
  have hmir : ((s.heard t who 0x2081 n).anchorSet n b).pkg.mirror = s.pkg.mirror.setVal (bySub O.trustAnchor (n - 1)) (.bytes b) :=
    congrArg (fun p : PkgSt => p.mirror.setVal (bySub O.trustAnchor (n - 1)) (.bytes b)) (State.heard_pkg ..)
  have hsess : (((s.heard t who 0x2081 n).anchorSet n b).session? who.sess).isSome = true := h.toTakes.heard_session ..
  generalize (s.heard t who 0x2081 n).sessionsUnder n = l at he hgone hnot
  have hend := foldl_endSession l ((s.heard t who 0x2081 n).anchorSet n b)
  generalize (s.heard t who 0x2081 n).anchorSet n b = w at he hblob hmir hsess hend
  generalize l.foldl State.endSession w = u at he hend
  have hdrop : Only u (u.chainsDropped n) [.access] [] := (Only.same u [.access] []).setAccess _ (by simp)
  have hkept : ∀ m, (u.chainsDropped n).session? m = if m ∈ l then none else w.session? m := hend.sessions
  have hassocs : ∀ a ∈ (u.chainsDropped n).access.assocs, a.trust ≠ .anchor n := fun a ha => by simpa using (List.mem_filter.mp ha).2
  generalize u.chainsDropped n = v at he hdrop hkept hassocs
  have hv := only_answer v who (Response.of .ok)
  refine .intro he ⟨?_, ?_, fun a ha => ?_, fun m y hy ht => ?_, fun hx => ?_⟩
  · have hk : bySub O.trustAnchor (n - 1) ∉ [byIdx O.slotImageHash 0, byIdx O.slotImageHash 1] := by
      interval_cases n - 1 <;> decide
    rw [hv.blob_eq (by decide), hdrop.blob_eq (by decide), hend.blob _ hk, hblob]
  · rw [show (v.answer who (Response.of .ok)).pkg = v.pkg from hv.rest .pkg (by decide), show v.pkg = u.pkg from hdrop.rest .pkg (by decide),
      show u.pkg = w.pkg from hend.only.rest .pkg (by decide), hmir]
  · rw [State.answer_assocs] at ha
    exact hassocs a ha
  · have hnone : (v.session? m).isSome = false := by rw [hkept, if_pos (hgone m y hy ht)]; rfl
    rw [← State.answer_isSome v who (Response.of .ok)] at hnone
    exact Option.isNone_iff_eq_none.mp (by simpa using hnone)
  · exact State.answer_out _ _ _ (by rwa [hkept, if_neg (hnot hx)])

end Anchor

/-! ### Restore factory (R417) -/

section Restore

variable {who : Who} {x : Session} {v : Nat}

/-- What holding zeros for objects leaves. -/
structure State.zeroed (s u : State) (l : List Nat) : Prop where
  only : Only s u [.held, .pkg] []
  now : u.now = s.now
  held : u.held = s.held ++ l.map fun k => { time := s.now, key := k, val := .num 0 }

theorem foldl_zeroed (l : List Nat) (s : State) : s.zeroed (l.foldl (fun (s : State) k => s.applyVal .T k (.num 0)) s) l := by
  induction l generalizing s with
  | nil => exact ⟨.same .., rfl, by simp⟩
  | cons k l ih =>
    have hk := only_applyVal_T s k (.num 0)
    have hl := ih (s.applyVal .T k (.num 0))
    have hn : (s.applyVal .T k (.num 0)).now = s.now := now_of_core (State.applyVal_core (R := 78) rfl s .T k (.num 0)) rfl
    refine ⟨(hk.trans hl.only).mono (by simp) (by simp), hl.now.trans hn, ?_⟩
    rw [List.foldl_cons, hl.held, hn, State.applyVal_T_held, List.append_assoc]
    rfl

theorem State.row?_congr {u : State} (h : u.variant = s.variant) (i j : Nat) : u.row? i j = s.row? i j := by
  have hd : ∀ d, u.hasDie d = s.hasDie d := fun d => by
    unfold State.hasDie
    rw [h]
  unfold State.row?
  simp only [hd]

theorem State.heard_userObjects (s : State) (t : Nat) (who : Who) (idx sub v : Nat) : (s.heard t who idx sub).userObjects v = s.userObjects v := by
  unfold State.userObjects
  simp only [State.row?_congr (State.heard_variant ..)]

theorem restoreFactory_runs (h : s.MayWrite who x 0x2FF0 2 v) : Runs (.restoreFactory t who v) s fun u => u.answered who .ok ∧
    (∃ l, u.held = s.held ++ l ∧ l.map (·.key) = s.userObjects v ∧ ∀ h ∈ l, h.val = .num 0 ∧ h.time = s.localAt t) ∧
    Only s u [.access, .power, .bridge, .held, .pkg] [] := by
  have hz := foldl_zeroed ((s.heard t who 0x2FF0 2).userObjects v) (s.heard t who 0x2FF0 2)
  have hh : (s.heard t who 0x2FF0 2).held = s.held := (only_heard s t who 0x2FF0 2).rest .held (by decide)
  refine (h.runs (t := t) (restoreFactory v) rfl rfl hz.only (by simp)).imp fun u ⟨hans, hu, hf⟩ =>
    ⟨hans, ⟨(s.userObjects v).map fun k => { time := s.localAt t, key := k, val := .num 0 }, ?_, ?_, fun e he => ?_⟩, hf.mono (by simp) (by simp)⟩
  · rw [show u.held = _ from hu.rest .held (by decide), hz.held, hh, State.heard_userObjects, State.heard_now]
  · rw [List.map_map]
    exact List.map_id _
  · obtain ⟨k, -, rfl⟩ := List.mem_map.mp he
    exact ⟨rfl, rfl⟩

end Restore

end Sys2Proof.Machine
open Sys2Proof Sys2Proof.Machine

/-- Settles O41, command by command; a changed anchor ends its sessions one after another, each as its own end does. -/
theorem sessions : Obligations.Sessions :=
  ⟨fun _ _ _ _ chain _ _ => ⟨fun h => .intro (congrArg Host.Outcome.next (dtlsHandshake_unheard h)) rfl, fun hr hl =>
      ⟨dtlsHandshake_runs_failed hr hl, fun k hk ht hv => by
        subst hk
        exact dtlsHandshake_runs_accepted hr hl ht hv⟩⟩,
    fun _ _ _ _ _ => ⟨fun h => .intro (congrArg Host.Outcome.next (openAct_unassociated h)) rfl, fun _ ha hr hl =>
      ⟨openSession_runs_roleless ha hr hl, fun _ hro => ⟨openSession_runs_denied ha hr hl hro, openSession_runs_full ha hr hl hro,
        fun _ hg hf => openSession_runs_opened ha hr hl hro hg hf⟩⟩⟩,
    fun _ _ _ _ ha hl hf he hs hp hx hn => close_runs ha hl hf he hs hp hx hn,
    fun s t _ _ h => ⟨sessionIdleTimeout_runs_ended h,
      fun hn => .intro (congrArg Host.Outcome.next (sessionIdle_stays (s := s.begin t) h (by rwa [State.begin_idleNs]))) rfl,
      fun _ _ _ hx => ⟨snapshotExpiry_runs_expired h hx, snapshotExpiry_runs_kept h hx⟩⟩,
    fun s t _ _ _ hf hs => ⟨forwardTimeout_runs_late hf hs,
      fun ho => .intro (congrArg Host.Outcome.next (forwardTimeout_early (s := s.begin t) hf ho)) rfl⟩,
    fun s t _ _ _ _ _ => ⟨fun hf => .intro (congrArg Host.Outcome.next (forwardedResponse_unknown (s := s.begin t) hf)) rfl,
      fun _ _ hf hs => forwardedResponse_runs_known hf hs⟩,
    fun _ _ _ _ _ _ h hok => ⟨trustAnchorWrite_runs_same h hok, trustAnchorWrite_runs_changed h hok⟩,
    fun _ _ _ _ _ h => restoreFactory_runs h⟩
end

section
/-! Proofs about resets and starts (R370, R419 to R427, R481, R484). -/
namespace Sys2Proof.Machine
open Sys2Proof

variable {s : State} {t : Nat} {f : StartFacts}

/-! ### The AON supplies and the crystal (R481, R484) -/

section Supplies

theorem foldl_emit {α : Type} (g : State → α → Out) (o : α → Out) (l : List α) (s : State)
    (hg : ∀ w : State, w.now = s.now → ∀ a, g w a = o a) :
    (l.foldl (fun (w : State) a => w.emit (g w a)) s).out = s.out ++ l.map o ∧ Only s (l.foldl (fun (w : State) a => w.emit (g w a)) s) [] [] := by
  induction l generalizing s with
  | nil => exact ⟨by simp, .same ..⟩
  | cons a l ih =>
    obtain ⟨ho, hf⟩ := ih (s.emit (g s a)) hg
    refine ⟨?_, ((only_emit s _).trans hf).mono (by simp) (by simp)⟩
    rw [List.foldl_cons, ho, hg s rfl a, List.map_cons]
    exact List.append_assoc ..

theorem aonPowerUp_runs (s : State) (t : Nat) : Runs (.aonPowerUp t) s fun v => Only s v [] [] ∧ v.out = .message "inh" 0 [1] ::
    (List.range 5).map (fun i => .message "reg_en" i (leBytes 8 (s.localAt t + 1000000 + 200000 * i))) := by
  obtain ⟨ho, hf⟩ := foldl_emit (fun (w : State) i => .message "reg_en" i (leBytes 8 (w.now + 1000000 + 200000 * i)))
    (fun i => .message "reg_en" i (leBytes 8 (s.localAt t + 1000000 + 200000 * i))) (List.range 5) ((s.begin t).emit (.message "inh" 0 [1]))
    (fun w hw i => by rw [hw]; rfl)
  exact .intro rfl ⟨(((only_emit (s.begin t) _).trans hf).mono (by simp) (by simp)).begin, ho⟩

theorem xtalFail_runs (s : State) (t : Nat) : Runs (.xtalFail t) s fun v => Only s v [] [] ∧
    v.out = [.message "xtal32-internal" 0 (leBytes 8 (s.localAt t + 1000000))] :=
  .intro rfl ⟨(only_emit (s.begin t) _).begin, rfl⟩

end Supplies

/-! ### Resets (R370, R481) -/

section Resets

theorem State.discardSlots_kept (s : State) : s.discardSlots.cairn = s.cairn ∧ s.discardSlots.pkg = s.pkg ∧ s.discardSlots.logs = s.logs := by
  have h : Within s s.discardSlots [.staged, .plan] := within_of_core (State.discardSlots_core (R := 258) rfl s) rfl
  exact ⟨h.rest .cairn (by decide) (by decide), h.rest .pkg (by decide) (by decide), h.rest .logs (by decide) (by decide)⟩

theorem State.resetDies_boot (s : State) : s.resetDies.update.boot = s.update.boot := (congrArg UpdateSt.boot s.discardSlots_rest.1 :)

theorem State.resetDies_images (s : State) : s.resetDies.update.images = s.update.images := (congrArg UpdateSt.images s.discardSlots_rest.1 :)

theorem State.resetDies_stored (s : State) : s.resetDies.stored = s.stored := s.discardSlots_rest.2

theorem State.resetDies_pkg (s : State) : s.resetDies.pkg = { mirror := s.pkg.mirror } :=
  congrArg (fun p : PkgSt => ({ mirror := p.mirror } : PkgSt)) s.discardSlots_kept.2.1

theorem State.resetDies_copies (s : State) : s.resetDies.cairn.copies = s.cairn.copies := (congrArg CairnSt.copies s.discardSlots_kept.1 :)

theorem State.resetDies_powerState (s : State) : s.resetDies.n O.powerState = pwOFF := State.n_of_look (look_ins_self ..)

theorem resetAssert_runs_ignored {w : Nat} (h : w < 1000) : Runs (.resetAssert t w) s (· = s.begin t) :=
  .intro (congrArg Host.Outcome.next (if_pos h)) rfl

theorem resetAssert_runs_reset {w : Nat} (h : 1000 ≤ w) : Runs (.resetAssert t w) s fun v =>
    v.n O.powerState = pwOFF ∧ v.staged = {} ∧ v.lanes = [] ∧ v.access = {} ∧ v.fw = {} ∧ v.fwd = {} ∧ v.cipher.sas = [] ∧ v.cairn.cache = [] ∧
    v.cairn.leaves = s.cairn.leaves ∧ v.cairn.copies = s.cairn.copies ∧ v.cairn.roots = s.cairn.roots ∧ v.stored = s.stored ∧
    v.update.boot = s.update.boot ∧ v.update.images = s.update.images ∧ v.update.ready = false ∧ v.pkg = { mirror := s.pkg.mirror } ∧
    v.dict = { (s.begin t).discardSlots.bootDict with objs := ins (s.begin t).discardSlots.bootDict.objs O.powerState (pwOFF : Nat) } := by
  have hc := (s.begin t).discardSlots_kept.1
  exact .intro (congrArg Host.Outcome.next (if_neg (Nat.not_lt.mpr h)))
    ⟨State.resetDies_powerState _, rfl, rfl, rfl, rfl, rfl, rfl, rfl, (congrArg CairnSt.leaves hc :), (congrArg CairnSt.copies hc :),
      (congrArg CairnSt.roots hc :), State.resetDies_stored _, State.resetDies_boot _, State.resetDies_images _, rfl, State.resetDies_pkg _, rfl⟩

theorem aonPowerLoss_runs (s : State) (t : Nat) : Runs (.aonPowerLoss t) s fun v => v.n O.powerState = pwOFF ∧ v.cairn.sleepTamper = false ∧
    (∀ d l, look v.logs d = some l → l.aonStore = []) ∧ v.lanes = [] ∧ v.access = {} ∧ v.stored = s.stored ∧
    v.cairn.copies = s.cairn.copies ∧ v.update.boot = s.update.boot ∧ v.pkg = { mirror := s.pkg.mirror } := by
  refine .intro rfl ⟨State.resetDies_powerState _, rfl, fun d l hl => ?_, rfl, rfl, State.resetDies_stored _, State.resetDies_copies _,
    State.resetDies_boot _, State.resetDies_pkg _⟩
  obtain ⟨l', -, rfl⟩ := Option.map_eq_some_iff.mp ((look_mapVals (fun (l : DieLog) => { l with aonStore := [] }) _ d).symm.trans hl)
  rfl

end Resets

/-! ### A failed start (R424) -/

section Failed

/-- A failed start counts in a boot record. -/
def BootRec.failed (r : BootRec) : BootRec :=
  { r with failedStarts := min 3 (r.failedStarts + 1), flags := if min 3 (r.failedStarts + 1) = 3 then setBit r.flags 0 true else r.flags }

theorem startFailed_not (hr : s.update.ready = true) (ht : (s.bootRec s.pkg.lead).onTrial = false) : startFailed s = s :=
  if_pos ⟨hr, by rw [ht]; rfl⟩

theorem startFailed_trial (ht : (s.bootRec s.pkg.lead).onTrial = true) : startFailed s = s.resetDies := by
  unfold startFailed
  dsimp only
  rw [ht]
  exact if_neg (by simp)

theorem startFailed_counts (hr : s.update.ready = false) (ht : (s.bootRec s.pkg.lead).onTrial = false) :
    startFailed s = (s.allBoot BootRec.failed).resetDies := by
  unfold startFailed
  dsimp only
  rw [ht, hr]
  exact if_neg (by simp)

theorem startFailed_runs_trial (ht : (s.bootRec s.pkg.lead).onTrial = true) : Runs (.startFailed t) s fun v =>
    v.n O.powerState = pwOFF ∧ v.update.boot = s.update.boot ∧ v.update.ready = false :=
  .intro (congrArg Host.Outcome.next (startFailed_trial (s := s.begin t) ht)) ⟨State.resetDies_powerState _, State.resetDies_boot _, rfl⟩

theorem startFailed_runs_counted (hr : s.update.ready = false) (ht : (s.bootRec s.pkg.lead).onTrial = false) : Runs (.startFailed t) s fun v =>
    v.n O.powerState = pwOFF ∧ v.update.ready = false ∧ ∀ d, d ∈ s.upDies → (v.bootRec d).failedStarts = min 3 ((s.bootRec d).failedStarts + 1) ∧
      (2 ≤ (s.bootRec d).failedStarts → bit (v.bootRec d).flags 0 = true) ∧ (v.bootRec d).gen = (s.bootRec d).gen + 1 := by
  refine .intro (congrArg Host.Outcome.next (startFailed_counts (s := s.begin t) hr ht)) ⟨State.resetDies_powerState _, rfl, fun d hd => ?_⟩
  have hb : (((s.begin t).allBoot BootRec.failed).resetDies).bootRec d = { (s.bootRec d).failed with gen := (s.bootRec d).gen + 1 } :=
    (State.resetDies_kept _).2.2.2.1 d |>.trans (State.allBoot_bootRec (s := s.begin t) _ hd)
  rw [hb]
  refine ⟨rfl, fun h => ?_, rfl⟩
  have hflags : (s.bootRec d).failed.flags = setBit (s.bootRec d).flags 0 true := if_pos (by omega)
  exact (congrArg (bit · 0) hflags).trans ((bit_setBit ..).trans (if_pos rfl))

end Failed

/-! ### ROM recovery (R427) -/

section Recovery

/-- The dies have gone over to recovery, before the start is recorded. -/
def State.recoveryEntered (s : State) (reason : Nat) (f : StartFacts) : State :=
  State.setN (State.setN { s with
    pkg := { s.pkg with recoveryDies := 2 ^ (if bit f.selfOk 0 then 0 else 1), quarantine := 0xFF, serving := false }
    update := { s.update with recLock := none, recBytes := 0, recState := 0, recLast := none, ready := false } } O.recoveryReason reason)
    O.powerState pwACTIVE

theorem State.enterRecovery_only (s : State) (reason : Nat) (f : StartFacts) :
    Only (s.recoveryEntered reason f) (s.enterRecovery reason f) [.logs] [] := only_logEv ..

theorem State.enterRecovery_left (s : State) (reason : Nat) (f : StartFacts) :
    (s.enterRecovery reason f).pkg = { s.pkg with recoveryDies := 2 ^ (if bit f.selfOk 0 then 0 else 1), quarantine := 0xFF, serving := false } ∧
      (s.enterRecovery reason f).n O.recoveryReason = reason ∧ (s.enterRecovery reason f).n O.powerState = pwACTIVE ∧
      (s.enterRecovery reason f).update = { s.update with recLock := none, recBytes := 0, recState := 0, recLast := none, ready := false } := by
  have h := s.enterRecovery_only reason f
  refine ⟨h.rest .pkg (by decide), (h.n_all _).trans ?_, (h.n_all _).trans (State.setN_self ..), h.rest .update (by decide)⟩
  exact (State.setN_other _ _ _ _ (by decide) (by decide)).trans (State.setN_self ..)

end Recovery

/-! ### The last steps of a cold start (R420) -/

section Finish

/-- Firmware serves the dictionary, and every port is in quarantine. -/
structure State.serves (s : State) : Prop where
  ready : s.update.ready = true
  serving : s.pkg.serving = true
  mirrored : s.pkg.mirrored = true
  fwReady : s.bridge.fwReady = true

theorem State.serves.of_only {u : State} {P : List Part} {K : List Nat} (h : s.serves) (hf : Only s u P K) (hu : Part.update ∉ P) (hp : Part.pkg ∉ P)
    (hb : Part.bridge ∉ P) : u.serves where
  ready := by rw [show u.update = s.update from hf.rest .update hu, h.ready]
  serving := by rw [show u.pkg = s.pkg from hf.rest .pkg hp, h.serving]
  mirrored := by rw [show u.pkg = s.pkg from hf.rest .pkg hp, h.mirrored]
  fwReady := by rw [show u.bridge = s.bridge from hf.rest .bridge hb, h.fwReady]

theorem State.serves.of_within {u : State} {P : List Part} (h : s.serves) (hf : Within s u P) (hu : Part.update ∉ P) (hp : Part.pkg ∉ P)
    (hb : Part.bridge ∉ P) : u.serves where
  ready := by rw [show u.update = s.update from hf.rest .update (by decide) hu, h.ready]
  serving := by rw [show u.pkg = s.pkg from hf.rest .pkg (by decide) hp, h.serving]
  mirrored := by rw [show u.pkg = s.pkg from hf.rest .pkg (by decide) hp, h.mirrored]
  fwReady := by rw [show u.bridge = s.bridge from hf.rest .bridge (by decide) hb, h.fwReady]

theorem State.serves.setN (h : s.serves) (k v : Nat) : (s.setN k v).serves := h.of_only (only_setN ..) (by simp) (by simp) (by simp)

/-- The firmware has become ready. -/
def State.madeReady (s : State) (f : StartFacts) : State :=
  { s with pkg := { s.pkg with quarantine := s.dieMask, serving := true, mirrored := true },
           bridge := { s.bridge with fwReady := true },
           update := { s.update with ready := true, start := none, startAt := s.now, hostSel := f.hostSel } }

theorem State.madeReady_serves (s : State) (f : StartFacts) : (s.madeReady f).serves := ⟨rfl, rfl, rfl, rfl⟩

/-- The failed starts of every image that is not on trial are forgotten. -/
def State.startsForgiven (s : State) : State :=
  s.upDies.foldl (fun (s : State) d => s.updBoot d (fun r => if r.onTrial then r else { r with failedStarts := 0 })) s

theorem State.serves.startsForgiven (h : s.serves) : s.startsForgiven.serves := by
  unfold State.startsForgiven
  exact List.foldlRecOn (motive := State.serves) _ _ h fun w hw d _ => ⟨hw.ready, hw.serving, hw.mirrored, hw.fwReady⟩

/-- A trial that starts begins its window; a fallback shows. -/
def State.trialShown (s : State) : State :=
  if (s.bootRec s.pkg.lead).onTrial then
    { s with update := { s.update with
        trialSince := some s.now, atActivation := maskOf s.upDies, checked := false,
        linksAt := (s.dies.flatMap (fun d => (List.range 4).map (fun p => 4 * d + p))).filter (fun q => s.saddle (q / 4) (q % 4) == linkSERVICE) } }.setN
      O.updateStatus 7
  else if (s.bootRec s.pkg.lead).fellBack && s.n O.lastUpdateResult == urFAILED then s.setN O.updateStatus 9 else s

theorem State.serves.trialShown (h : s.serves) : s.trialShown.serves := by
  have hu : ∀ x : UpdateSt, x.ready = true → State.serves { s with update := x } := fun x hx => ⟨hx, h.serving, h.mirrored, h.fwReady⟩
  unfold State.trialShown
  split
  · refine State.serves.setN (hu _ ?_) _ _
    exact h.ready
  · split
    · exact h.setN ..
    · exact h

theorem State.serves.bringUp (h : s.serves) (up : List Nat) : (s.bringUp up).serves :=
  h.of_within (P := [.lanes]) (within_of_core (State.bringUp_core (R := 512) rfl s up) rfl) (by simp) (by simp) (by simp)

theorem State.leaveQuarantine_rest (s : State) : s.leaveQuarantine.update = s.update ∧ s.leaveQuarantine.bridge = s.bridge ∧
    s.leaveQuarantine.pkg.serving = s.pkg.serving ∧ s.leaveQuarantine.pkg.mirrored = s.pkg.mirrored := by
  have hw : Within s s.leaveQuarantine [.pkg, .lanes, .power] := within_of_core (State.leaveQuarantine_core (R := 524864) rfl s) rfl
  refine ⟨hw.rest .update (by decide) (by decide), hw.rest .bridge (by decide) (by decide), ?_⟩
  unfold State.leaveQuarantine
  dsimp only
  split
  · exact ⟨rfl, rfl⟩
  · have hr : ∀ (w : State) old, (w.redeclare old).pkg = w.pkg := fun w old =>
      (within_of_core (State.redeclare_core (R := 0) rfl w old) rfl : Within w _ []).rest .pkg (by decide) (by decide)
    have he : ∀ (l : List Nat) (w : State), (l.foldl (fun (s : State) n => s.emit (.message "lacp" n [])) w).pkg = w.pkg := fun l w =>
      List.foldlRecOn (motive := fun u : State => u.pkg = w.pkg) l _ rfl fun u hu _ _ => hu
    have hs : ∀ (w : State) m b r, (w.ringSend m b r).pkg = w.pkg := fun w m b r =>
      (within_of_core (State.ringSend_core (R := 524800) rfl w m b r) rfl : Within w _ [.lanes, .power]).rest .pkg (by decide) (by decide)
    rw [hr, he, hs]
    exact ⟨rfl, rfl⟩

theorem State.serves.leaveQuarantine (h : s.serves) : s.leaveQuarantine.serves := by
  obtain ⟨hu, hb, hs, hm⟩ := s.leaveQuarantine_rest
  exact ⟨by rw [hu, h.ready], hs.trans h.serving, hm.trans h.mirrored, by rw [hb, h.fwReady]⟩

/-- The rest of a start, from the firmware's readiness. -/
def State.startRest (s old : State) (f : StartFacts) : State :=
  let u := ((s.startsForgiven.refreshImages.trialShown.setN O.lastColdStartTime f.duration).bringUp f.up).leaveQuarantine
  (u.stageUp old u none).logLead Ev.coldStart 0xFFFF
    [(1, f.reason), (1, (u.stageUp old u none).n O.recoveryReason), (1, (u.stageUp old u none).healthyMask), (1, (u.stageUp old u none).n O.alignedDies)]

theorem State.serves.startRest (h : s.serves) (old : State) (f : StartFacts) : (s.startRest old f).serves := by
  have himg : s.startsForgiven.refreshImages.serves := h.startsForgiven.of_only (only_refreshImages _) (by simp) (by simp) (by simp)
  have hq := (((himg.trialShown.setN O.lastColdStartTime f.duration).bringUp f.up).leaveQuarantine)
  unfold State.startRest
  generalize ((s.startsForgiven.refreshImages.trialShown.setN O.lastColdStartTime f.duration).bringUp f.up).leaveQuarantine = u at hq
  have hst : (u.stageUp old u none).serves := ⟨hq.ready, hq.serving, hq.mirrored, hq.fwReady⟩
  exact hst.of_only (only_logLead ..) (by simp) (by simp) (by simp)

/-- The march, the plan and the time are started, before the firmware is ready. -/
def State.planStarted (s : State) (f : StartFacts) : State :=
  let s := (s.startMarch f.rows).loadPlan f
  let s := if s.plan.active.gen = 0 ∨ !s.pkg.planOk then s else s.missingDies
  let s := (s.setN O.powerState pwACTIVE).setN O.hostEndpointDie f.endpoint
  let s := s.setFlag O.calibrationStatus 0 (!f.calOk)
  ((s.startTick 0).restartInstances true).refreshInstances

theorem State.finishStart_eq (s : State) (f : StartFacts) : s.finishStart f =
    if !f.fwReady then (s.startMarch f.rows).setN O.powerState pwACTIVE else ((s.planStarted f).madeReady f).startRest s f := by
  unfold State.finishStart State.startRest State.trialShown State.startsForgiven State.madeReady State.planStarted
  with_reducible rfl

theorem State.finishStart_serves (s : State) (h : f.fwReady = true) : (s.finishStart f).serves := by
  rw [State.finishStart_eq, if_neg (by rw [h]; decide)]
  exact ((s.planStarted f).madeReady_serves f).startRest s f

end Finish

/-! ### A cold start (R419, R425) -/

section Cold

/-- A start that goes on is held, or chooses its image and finishes. -/
def State.coldChosen (s : State) (f : StartFacts) (fell : Bool) : State :=
  match ({ s with cairn := { s.cairn with early := false, sleepTamper := false } } : State).chooseImage f with
  | none => ({ s with cairn := { s.cairn with early := false, sleepTamper := false } } : State).enterRecovery 2 f
  | some s =>
    let s := s.finishStart f
    if fell ∧ s.update.ready = true then s.logLead Ev.updateFellBack 0xFFFF [(1, urFAILED), (4, s.n O.runningImageVersion)] else s

/-- A start that a tamper event holds. -/
def State.coldHeld (s : State) (f : StartFacts) : State :=
  State.setN { s with
    pkg := { s.pkg with tamperHold := true, quarantine := 0xFF, serving := false }
    cairn := { s.cairn with early := false, sleepTamper := false }
    update := { s.update with start := some f } } O.powerState pwACTIVE

/-- A cold start after its first three steps, with boot record `r` of its lead. -/
def State.coldRest (s : State) (f : StartFacts) (hold : State → Bool) (r : BootRec) (fell : Bool) : State :=
  if f.recoveryN || (f.testN && s.n O.lifeCycleState != 0) then s.enterRecovery 1 f
  else if s.upDies = [] then s.enterRecovery 2 f
  else if 3 ≤ r.failedStarts ∨ bit r.flags 0 = true then s.enterRecovery 3 f
  else if hold s.completeTransition then s.completeTransition.coldHeld f
  else s.completeTransition.coldChosen f fell

/-- The state before the dies start. -/
def State.beforeDies (s : State) (f : StartFacts) : State := (s.resetDies.setN O.lastStartReason f.reason).setN O.hostEndpointDie f.endpoint

/-- Has the image of the lead just fallen back? -/
def State.fellNow (s : State) (f : StartFacts) : Bool :=
  let u := (s.beforeDies f).startDies f
  (u.bootRec u.pkg.lead).fellBack && ((s.beforeDies f).bootRec u.pkg.lead).trial != 0xFF && (u.bootRec u.pkg.lead).trial == 0xFF

theorem State.coldFirst_bootRec (s : State) (f : StartFacts) : (s.coldFirst f).bootRec (s.coldFirst f).pkg.lead =
    ((s.beforeDies f).startDies f).bootRec ((s.beforeDies f).startDies f).pkg.lead := by
  have hb : ∀ (u : State) (c : Bool), (if c then u.setN O.lastUpdateResult urFAILED else u).bootRec
      (if c then u.setN O.lastUpdateResult urFAILED else u).pkg.lead = u.bootRec u.pkg.lead := fun u c => by cases c <;> rfl
  exact hb _ _

theorem State.coldStart_eq (s : State) (f : StartFacts) (hold : State → Bool) : s.coldStart f hold =
    (s.coldFirst f).coldRest f hold ((s.coldFirst f).bootRec (s.coldFirst f).pkg.lead) (s.fellNow f) := by
  rw [State.coldFirst_bootRec]
  unfold State.coldStart State.coldFirst State.coldRest State.coldHeld State.coldChosen State.fellNow State.beforeDies
  rfl

theorem State.completeTransition_none (h : s.cairn.marker = none) : s.completeTransition = s := by
  unfold State.completeTransition
  rw [h]

section Rest

variable {hold : State → Bool} {r : BootRec} {fell : Bool}

/-- The straps ask for recovery. -/
abbrev State.strapped (s : State) (f : StartFacts) : Prop := f.recoveryN = true ∨ (f.testN = true ∧ s.n O.lifeCycleState ≠ 0)

theorem State.strapped_iff (s : State) (f : StartFacts) : (f.recoveryN || (f.testN && s.n O.lifeCycleState != 0)) = true ↔ s.strapped f := by
  simp [State.strapped]

theorem State.coldRest_strapped (h : s.strapped f) : s.coldRest f hold r fell = s.enterRecovery 1 f := if_pos ((s.strapped_iff f).mpr h)

variable (h : ¬ s.strapped f)
include h

theorem State.coldRest_dieless (hd : s.upDies = []) : s.coldRest f hold r fell = s.enterRecovery 2 f :=
  (if_neg fun hn => h ((s.strapped_iff f).mp hn)).trans (if_pos hd)

theorem State.coldRest_failed (hd : s.upDies ≠ []) (hr : 3 ≤ r.failedStarts ∨ bit r.flags 0 = true) :
    s.coldRest f hold r fell = s.enterRecovery 3 f :=
  (if_neg fun hn => h ((s.strapped_iff f).mp hn)).trans ((if_neg hd).trans (if_pos hr))

theorem State.coldRest_goes (hd : s.upDies ≠ []) (hr : r.failedStarts < 3) (hb : bit r.flags 0 = false) (hm : s.cairn.marker = none) :
    s.coldRest f hold r fell = if hold s then s.coldHeld f else s.coldChosen f fell := by
  unfold State.coldRest
  rw [if_neg fun hn => h ((s.strapped_iff f).mp hn), if_neg hd, if_neg (not_or.mpr ⟨Nat.not_le.mpr hr, by rw [hb]; decide⟩), State.completeTransition_none hm]

end Rest

theorem startHeld_iff (s : State) : startHeld s = true ↔ s.n O.tamperState ≠ 0 ∨ (s.cairn.early = true ∧ s.n O.tamperPolicy ≠ tpREPORT) := by
  unfold startHeld
  simp

/-- The start goes on without what was held. -/
def State.earlyDone (s : State) : State := { s with cairn := { s.cairn with early := false, sleepTamper := false } }

theorem State.coldChosen_none {fell : Bool} (h : s.earlyDone.chooseImage f = none) : s.coldChosen f fell = s.earlyDone.enterRecovery 2 f := by
  unfold State.earlyDone at h ⊢
  unfold State.coldChosen
  rw [h]

theorem State.coldChosen_serves {fell : Bool} {w : State} (h : s.earlyDone.chooseImage f = some w) (hf : f.fwReady = true) :
    (s.coldChosen f fell).serves := by
  have hs := w.finishStart_serves hf
  unfold State.earlyDone at h
  unfold State.coldChosen
  rw [h]
  dsimp only
  split
  · exact hs.of_only (only_logLead ..) (by simp) (by simp) (by simp)
  · exact hs

section Runs

variable {u : State} (hu : u = (s.begin t).coldFirst f)
include hu

theorem exec_coldStart : ∃ fell, exec (.coldStart t f) s = .next (u.coldRest f startHeld (u.bootRec u.pkg.lead) fell) := by
  subst hu
  exact ⟨_, congrArg Host.Outcome.next ((s.begin t).coldStart_eq f startHeld)⟩

theorem coldStart_runs_strapped (h : u.strapped f) : Runs (.coldStart t f) s (· = u.enterRecovery 1 f) := by
  obtain ⟨fell, he⟩ := exec_coldStart hu
  exact .intro (he.trans (congrArg Host.Outcome.next (State.coldRest_strapped h))) rfl

variable (h : ¬ u.strapped f)
include h

theorem coldStart_runs_dieless (hd : u.upDies = []) : Runs (.coldStart t f) s (· = u.enterRecovery 2 f) := by
  obtain ⟨fell, he⟩ := exec_coldStart hu
  exact .intro (he.trans (congrArg Host.Outcome.next (State.coldRest_dieless h hd))) rfl

variable (hd : u.upDies ≠ [])
include hd

theorem coldStart_runs_failed (hr : 3 ≤ (u.bootRec u.pkg.lead).failedStarts ∨ bit (u.bootRec u.pkg.lead).flags 0 = true) :
    Runs (.coldStart t f) s (· = u.enterRecovery 3 f) := by
  obtain ⟨fell, he⟩ := exec_coldStart hu
  exact .intro (he.trans (congrArg Host.Outcome.next (State.coldRest_failed h hd hr))) rfl

variable (hr : (u.bootRec u.pkg.lead).failedStarts < 3) (hb : bit (u.bootRec u.pkg.lead).flags 0 = false) (hm : u.cairn.marker = none)
include hr hb hm

theorem coldStart_runs_held (ht : u.n O.tamperState ≠ 0 ∨ (u.cairn.early = true ∧ u.n O.tamperPolicy ≠ tpREPORT)) :
    Runs (.coldStart t f) s fun v => v.n O.powerState = pwACTIVE ∧ v.pkg = { u.pkg with tamperHold := true, quarantine := 0xFF, serving := false } ∧
      v.update = { u.update with start := some f } ∧ v.cairn = { u.cairn with early := false, sleepTamper := false } ∧
      Only u v [.pkg, .cairn, .update] [O.powerState] := by
  obtain ⟨fell, he⟩ := exec_coldStart hu
  have hheld : startHeld u = true := (startHeld_iff u).mpr ht
  rw [State.coldRest_goes h hd hr hb hm, if_pos hheld] at he
  have hf : ∀ x y z, Only u { u with pkg := x, cairn := y, update := z } [.pkg, .cairn, .update] [] := fun x y z =>
    (((Only.same u [.pkg, .cairn, .update] []).setPkg x (by simp)).setCairn y (by simp)).setUpdate z (by simp)
  exact .intro he ⟨State.setN_self .., rfl, rfl, rfl, ((hf _ _ _).trans (only_setN ..)).mono (by simp) (by simp)⟩

variable (ht : u.n O.tamperState = 0) (hp : u.cairn.early = false ∨ u.n O.tamperPolicy = tpREPORT)
include ht hp

theorem exec_coldStart_free : ∃ fell, exec (.coldStart t f) s = .next (u.coldChosen f fell) := by
  obtain ⟨fell, he⟩ := exec_coldStart hu
  have hfree : ¬ startHeld u = true := fun hs => by
    rcases (startHeld_iff u).mp hs with hs | ⟨hs, hs'⟩
    · exact hs ht
    · rcases hp with hp | hp
      · rw [hp] at hs
        exact absurd hs (by decide)
      · exact hs' hp
  rw [State.coldRest_goes h hd hr hb hm, if_neg hfree] at he
  exact ⟨fell, he⟩

theorem coldStart_runs_unimaged (hi : u.earlyDone.chooseImage f = none) : Runs (.coldStart t f) s (· = u.earlyDone.enterRecovery 2 f) := by
  obtain ⟨fell, he⟩ := exec_coldStart_free hu h hd hr hb hm ht hp
  exact .intro (he.trans (congrArg Host.Outcome.next (State.coldChosen_none hi))) rfl

theorem coldStart_runs_served {w : State} (hi : u.earlyDone.chooseImage f = some w) (hf : f.fwReady = true) : Runs (.coldStart t f) s fun v =>
    v.update.ready = true ∧ v.pkg.serving = true ∧ v.pkg.mirrored = true ∧ v.bridge.fwReady = true := by
  obtain ⟨fell, he⟩ := exec_coldStart_free hu h hd hr hb hm ht hp
  have hs := State.coldChosen_serves (fell := fell) hi hf
  exact .intro he ⟨hs.ready, hs.serving, hs.mirrored, hs.fwReady⟩

end Runs

end Cold

end Sys2Proof.Machine
open Sys2Proof Sys2Proof.Machine

/-- Settles O40: the supplies, the resets and the failed starts by their equations, and the cold start by what follows its first steps. -/
theorem starts : Obligations.Starts :=
  ⟨aonPowerUp_runs, xtalFail_runs, fun _ _ _ => ⟨resetAssert_runs_ignored, resetAssert_runs_reset⟩, aonPowerLoss_runs,
    fun s t => ⟨fun hr ht => .intro (congrArg Host.Outcome.next (startFailed_not (s := s.begin t) hr ht)) rfl, startFailed_runs_trial,
      startFailed_runs_counted⟩,
    State.enterRecovery_left,
    fun _ u _ f hu => ⟨coldStart_runs_strapped hu, fun hn hl =>
      have h : ¬ u.strapped f := by
        rintro (hs | ⟨hs, hs'⟩)
        · rw [hn] at hs
          exact absurd hs (by decide)
        · rcases hl with hl | hl
          · rw [hl] at hs
            exact absurd hs (by decide)
          · exact hs' hl
      ⟨coldStart_runs_dieless hu h, coldStart_runs_failed hu h, fun hd hr hb hm => ⟨coldStart_runs_held hu h hd hr hb hm, fun ht hp =>
        ⟨coldStart_runs_unimaged hu h hd hr hb hm ht hp, fun _ => coldStart_runs_served hu h hd hr hb hm ht hp⟩⟩⟩⟩⟩
end

section
/-! What leaves the power state and the wake record alone (R370, R388): the objects that the entry into Sleep and the wake sequence
must carry through the work of every other domain. -/
namespace Sys2Proof.Machine
open Sys2Proof

variable {s u w : State}

/-! ### The relation -/

/-- The power state, the wake record and the round's status; and the node number, which defaults of objects read. -/
abbrev powerKeys : List Nat :=
  [O.nodeID, O.powerState, O.lastWakeCause, O.lastWakeSource, O.lastWakeTime, O.falseWakes, O.sleepRoundStatus]

/-- The power objects stand as they were. -/
structure State.steady (s u : State) : Prop where
  variant : u.variant = s.variant
  objects : ∀ k ∈ powerKeys, look u.dict.objs k = look s.dict.objs k

theorem mem_powerKeys {k : Nat} : k ∈ powerKeys ↔
    k = 0x285002 ∨ k = 0x2C0001 ∨ k = 0x2C0003 ∨ k = 0x2C0004 ∨ k = 0x2C0005 ∨ k = 0x2C0007 ∨ k = 0x2C000B := by
  simp only [List.mem_cons, List.not_mem_nil, or_false]

/-- A run of addresses that meets neither index 0x2850 nor 0x2C00 holds no power object. -/
theorem range_not_powerKey {m b k : Nat} (hk : m ≤ k ∧ k ≤ m + b)
    (h : m + b < 0x285000 ∨ (0x285100 ≤ m ∧ m + b < 0x2C0000) ∨ 0x2C0100 ≤ m) : k ∉ powerKeys := fun hn => by
  rw [mem_powerKeys] at hn
  omega

theorem bySub_not_powerKey {m n : Nat} (b : Nat) (hn : n ≤ b) (h : m + b < 0x285000 ∨ (0x285100 ≤ m ∧ m + b < 0x2C0000) ∨ 0x2C0100 ≤ m) :
    bySub m n ∉ powerKeys := range_not_powerKey (by unfold bySub; omega) h

theorem byIdx_not_powerKey_le {m n : Nat} (b : Nat) (hn : n ≤ b)
    (h : m + 256 * b < 0x285000 ∨ (0x285100 ≤ m ∧ m + 256 * b < 0x2C0000) ∨ 0x2C0100 ≤ m) : byIdx m n ∉ powerKeys :=
  range_not_powerKey (by unfold byIdx; omega) h

/-- A family of objects by index keeps its sub-index, and the power objects have few. -/
theorem byIdx_not_powerKey {m : Nat} (n : Nat) (h : 7 < m % 256 ∧ m % 256 ≠ 0xB) : byIdx m n ∉ powerKeys := fun hk => by
  rw [mem_powerKeys] at hk
  unfold byIdx at hk
  omega

namespace State.steady

theorem refl (s : State) : s.steady s := ⟨rfl, fun _ _ => rfl⟩

theorem trans (h : s.steady u) (g : u.steady w) : s.steady w :=
  ⟨g.variant.trans h.variant, fun k hk => (g.objects k hk).trans (h.objects k hk)⟩

theorem n (h : s.steady u) {k : Nat} (hk : k ∈ powerKeys) : u.n k = s.n k :=
  State.n_congr h.variant (h.objects k hk) (h.objects _ List.mem_cons_self)

theorem of_only {P : List Part} {K : List Nat} (h : Only s u P K) (hK : ∀ k ∈ K, k ∉ powerKeys) : s.steady u :=
  ⟨h.variant, fun k hk => h.objects k fun hn => hK k hn hk⟩

/-- An update beside the dictionary. -/
theorem of_dict (hv : u.variant = s.variant) (hd : u.dict.objs = s.dict.objs) : s.steady u := ⟨hv, fun _ _ => by rw [hd]⟩

theorem setN {k : Nat} (h : s.steady u) (hk : k ∉ powerKeys) (v : Nat) : s.steady (u.setN k v) :=
  h.trans (of_only (only_setN u k v) (by simpa using hk))

theorem setFlag {k : Nat} (h : s.steady u) (hk : k ∉ powerKeys) (i : Nat) (b : Bool) : s.steady (u.setFlag k i b) := h.setN hk _

theorem addTo {k : Nat} (h : s.steady u) (hk : k ∉ powerKeys) (n hi : Nat) : s.steady (u.addTo k n hi) := h.setN hk _

theorem logLead (h : s.steady u) (ev : Ev) (unit : Nat) (data : List (Nat × Nat)) : s.steady (u.logLead ev unit data) :=
  h.trans (of_only (only_logLead ..) (by simp))

theorem logEv (h : s.steady u) (d : Nat) (ev : Ev) (unit : Nat) (data : List (Nat × Nat)) : s.steady (u.logEv d ev unit data) :=
  h.trans (of_only (only_logEv ..) (by simp))

theorem setBlob (h : s.steady u) (k : Nat) (b : Bytes) : s.steady (u.setBlob k b) := h.trans (of_only (only_setBlob ..) (by simp))

theorem foldl {α : Type} {f : State → α → State} (l : List α) (h : s.steady u) (hf : ∀ w : State, ∀ a ∈ l, w.steady (f w a)) :
    s.steady (l.foldl f u) :=
  List.foldlRecOn (motive := s.steady) l f h fun w hw a ha => hw.trans (hf w a ha)

theorem ite {c : Prop} [Decidable c] {u w : State} (h : s.steady u) (g : s.steady w) : s.steady (if c then u else w) := by
  split
  · exact h
  · exact g

end State.steady

/-! ### Lanes and Saddle links -/

section Lanes

theorem State.setLink_steady (s : State) (n i : Nat) (b : Bool) : s.steady (s.setLink n i b) :=
  (State.steady.refl s).setFlag (byIdx_not_powerKey n (by decide)) i b

theorem State.updLane_steady (s : State) (n : Nat) (f : LaneSt → LaneSt) : s.steady (s.updLane n f) := .of_dict rfl rfl

theorem State.drainLane_steady (s : State) (n : Nat) : s.steady (s.drainLane n) :=
  .of_only (only_drainLane s n) fun k hk => by
    rw [List.mem_singleton.mp hk]
    exact byIdx_not_powerKey n (by decide)

theorem State.refreshLag_steady (s : State) (n : Nat) : s.steady (s.refreshLag n) := by
  unfold State.refreshLag
  split
  next => exact .refl s
  next g hg =>
    have hlt : g < 32 := List.mem_range.mp (List.mem_of_find?_eq_some hg)
    exact (State.steady.refl s).setN (byIdx_not_powerKey_le 31 (by omega) (by decide)) _

theorem State.enterService_steady (s : State) (n : Nat) : s.steady (s.enterService n) :=
  ((((s.setLink_steady ..).trans (State.setLink_steady ..)).trans (State.setLink_steady ..)).trans (State.updLane_steady ..)).trans
    (State.refreshLag_steady ..)

theorem lockGained_steady (s : State) (n : Nat) : s.steady (lockGained n s) := by
  by_cases h : s.laneOn n = true
  · rw [lockGained_enabled h]
    have hk : ∀ k ∈ [laneKey O.linkStatus n], k ∉ powerKeys := fun k hk => by
      rw [List.mem_singleton.mp hk]
      exact byIdx_not_powerKey n (by decide)
    exact (State.steady.of_only (only_locked s n) hk).trans (.of_only (only_tryHoldOff ..) hk)
  · rw [show lockGained n s = s from if_neg h]
    exact .refl s

theorem State.holdOffDone_steady (s : State) {n : Nat} (h : n < 64) : s.steady (s.holdOffDone n) := by
  have hk : laneSub O.preemptionStatus n ∉ powerKeys := bySub_not_powerKey 63 (by omega) (by decide)
  unfold State.holdOffDone
  split
  · split
    · exact ((s.setLink_steady ..).setN hk _).trans (State.updLane_steady ..)
    · exact (s.enterService_steady n).setN hk _
  · exact s.enterService_steady n

theorem State.bringUp_steady (s : State) (up : List Nat) (h8 : s.variant ≤ 8) : s.steady (s.bringUp up) := by
  unfold State.bringUp
  have hstep : ∀ (w : State) n, w.variant ≤ 8 → w.steady (if w.laneOn n then
      let v := lockGained n w
      if (v.lane n).upSince.isSome then v.holdOffDone n else v else w) := fun w n hw => by
    split
    next hon =>
      have hn : n < 64 := by
        unfold State.laneOn State.hasLane State.laneCount at hon
        simp only [Bool.and_eq_true, decide_eq_true_eq] at hon
        omega
      dsimp only
      split
      · exact (lockGained_steady w n).trans (State.holdOffDone_steady _ hn)
      · exact lockGained_steady w n
    next => exact .refl w
  exact List.foldlRecOn (motive := s.steady) up _ (.refl s) fun w hw n _ => hw.trans (hstep w n (hw.variant ▸ h8))

end Lanes

/-! ### PTP instances -/

section Time

variable {i : Nat}

theorem State.setInst_steady (s : State) (i b : Nat) (v : Bool) : s.steady (s.setInst i b v) :=
  (State.steady.refl s).setFlag (byIdx_not_powerKey i (by decide)) b v

theorem State.updInst_steady (s : State) (i : Nat) (f : InstSt → InstSt) : s.steady (s.updInst i f) := .of_dict rfl rfl

theorem State.setPorts_steady (s : State) (hi : i < 4) (h8 : s.variant ≤ 8) : s.steady (s.setPorts i) := by
  unfold State.setPorts
  refine .foldl _ (.refl s) fun w n hn => ?_
  have hlt : n < 8 * s.variant := List.mem_range.mp hn
  exact .ite (.refl w) ((State.steady.refl w).setN (range_not_powerKey (m := O.portState) (b := 1023)
    (by unfold portStateKey byIdx bySub; omega) (by decide)) _)

theorem tickFlags_not_powerKey : O.tickFlags ∉ powerKeys := by decide

theorem tickState_not_powerKey : O.tickState ∉ powerKeys := by decide

theorem lockDeclared_steady (s : State) : s.steady (lockDeclared s) := by
  unfold lockDeclared
  split
  · have h := (State.steady.refl s).setFlag tickFlags_not_powerKey tfUNLOCKED false
    exact ⟨h.variant, h.objects⟩
  · split
    · exact .of_dict rfl rfl
    · exact .ite ((((State.steady.refl s).setN tickState_not_powerKey _).setFlag tickFlags_not_powerKey _ _).logLead ..) (.refl s)

theorem tickHoldover_steady (s : State) : s.steady (tickHoldover s) := by
  have ht : ∀ x, s.steady { s with tick := x } := fun x => .of_dict rfl rfl
  unfold tickHoldover
  split
  · have hs := ((State.steady.refl s).setN tickState_not_powerKey tickHOLDOVER).setFlag tickFlags_not_powerKey tfHOLDOVER true
    exact hs.logLead ..
  · exact .ite ((ht _).logLead ..) (.refl s)

theorem State.pulsesWake_steady (s : State) (i : Nat) : s.steady (s.pulsesWake i) := by
  unfold State.pulsesWake
  exact .foldl _ (.refl s) fun w e _ => .ite (.of_dict rfl rfl) (.refl w)

theorem State.lockInst_steady (s : State) (i : Nat) (b : Bool) : s.steady (s.lockInst i b) := by
  unfold State.lockInst
  dsimp only
  have h1 := (s.setInst_steady i isLOCKED true).trans (State.setInst_steady _ i isHOLDOVER false)
  generalize (s.setInst i isLOCKED true).setInst i isHOLDOVER false = w at h1
  have h2 : s.steady (if (w.inst i).everLocked then w else w.pulsesWake i) := .ite h1 (h1.trans (w.pulsesWake_steady i))
  generalize (if (w.inst i).everLocked then w else w.pulsesWake i) = v at h2
  have h3 := h2.trans (v.updInst_steady i fun x => { x with everLocked := true })
  generalize (v.updInst i fun x => { x with everLocked := true }) = u at h3
  have h4 : s.steady (if b then u.setInst i isUNTRACEABLE false else u) := .ite (h3.trans (u.setInst_steady ..)) h3
  generalize (if b then u.setInst i isUNTRACEABLE false else u) = q at h4
  have h5 : ∀ c : Bool, s.steady (if c then q.logLead Ev.holdover 0xFFFF [(1, i), (1, 1)] else q) := fun c => .ite (h4.logLead ..) h4
  exact .ite ((h5 _).trans (lockDeclared_steady _)) (h5 _)

theorem State.holdInst_steady (s : State) (i : Nat) : s.steady (s.holdInst i) := by
  unfold State.holdInst
  split
  · exact .refl s
  · dsimp only
    have h1 := ((s.setInst_steady i isHOLDOVER true).trans (State.setInst_steady _ i isLOCKED false)).setN (byIdx_not_powerKey (m := O.holdoverTime) i (by decide)) 0
    have h2 := h1.trans (State.updInst_steady _ i fun x => { x with holdSince := ((s.setInst i isHOLDOVER true).setInst i isLOCKED false |>.setN (byIdx O.holdoverTime i) 0).now, good := 0 })
    exact .ite (h2.trans (tickHoldover_steady _)) (h2.logLead ..)

theorem State.newGrandmaster_steady (s : State) (i : Nat) (id : Bytes) : s.steady (s.newGrandmaster i id) := by
  have hb := (State.steady.refl s).setBlob (byIdx O.grandmasterIdentity i) id
  unfold State.newGrandmaster
  refine .ite hb ?_
  have hk : byIdx O.grandmasterChanges i ∉ powerKeys := byIdx_not_powerKey i (by decide)
  exact ((((hb.trans (State.updInst_steady ..)).setN hk _).logLead ..).trans (State.holdInst_steady ..))

theorem State.dropReference_steady (s : State) (i : Nat) : s.steady (s.dropReference i) := by
  unfold State.dropReference
  exact .ite (.refl s) (((s.setInst_steady ..).trans (State.setInst_steady ..)).trans (State.updInst_steady ..))

theorem slavePort_not_powerKey (i : Nat) : byIdx O.slavePort i ∉ powerKeys := byIdx_not_powerKey i (by decide)

theorem State.chooseSelf_steady (s : State) (i : Nat) : s.steady (s.chooseSelf i) := by
  unfold State.chooseSelf
  refine .ite (.refl s) ?_
  have h := (((State.steady.refl s).setN (slavePort_not_powerKey i) 0xFE).trans (State.setInst_steady _ i isSELFGM true)).trans
    (State.newGrandmaster_steady _ i ((s.setN (byIdx O.slavePort i) 0xFE).setInst i isSELFGM true).clockId)
  exact .ite (h.trans (State.lockInst_steady ..)) (h.trans (State.holdInst_steady ..))

theorem State.chooseSlave_steady (s : State) (i n : Nat) (id : Bytes) : s.steady (s.chooseSlave i n id) := by
  have h : s.steady (if s.slavePort i = n then s else (s.setN (byIdx O.slavePort i) n).updInst i (fun x => { x with good := 0, syncs := none })) :=
    .ite (.refl s) (((State.steady.refl s).setN (slavePort_not_powerKey i) n).trans (State.updInst_steady ..))
  exact ((h.trans (State.setInst_steady ..)).trans (State.dropReference_steady ..)).trans (State.newGrandmaster_steady ..)

theorem State.chooseNone_steady (s : State) (i : Nat) : s.steady (s.chooseNone i) :=
  ((((State.steady.refl s).setN (slavePort_not_powerKey i) 0xFF).trans (State.setInst_steady ..)).trans (State.dropReference_steady ..)).trans
    (State.holdInst_steady ..)

/-- The state in which an instance has chosen its master, before its ports show it. -/
def State.chosen (s : State) (i : Nat) : State :=
  if s.n (byIdx O.portConfiguration i) = 1 then
    let e := s.n (byIdx O.externalSlavePort i)
    if e = 0xFF then s.chooseSelf i
    else if s.isPort i e then
      match look (s.inst i).announces e with
      | some m => s.chooseSlave i e (slice m 0x35 8)
      | none => s.chooseNone i
    else s.chooseNone i
  else
    match s.bestAnnounce i with
    | none => if s.n (byIdx O.priority1 i) = 255 then s.chooseNone i else s.chooseSelf i
    | some (n, v) =>
      if s.n (byIdx O.priority1 i) ≠ 255 ∧ lexLt (s.ownVector i) v = true then s.chooseSelf i
      else s.chooseSlave i n (slice ((look (s.inst i).announces n).getD []) 0x35 8)

theorem State.choose_eq (s : State) (i : Nat) : s.choose i = if !s.instOn i then s else (s.chosen i).setPorts i := by
  unfold State.choose State.chosen
  rfl

theorem State.chosen_steady (s : State) (i : Nat) : s.steady (s.chosen i) := by
  unfold State.chosen
  dsimp only
  split
  · refine .ite (s.chooseSelf_steady i) (.ite ?_ (s.chooseNone_steady i))
    split
    · exact s.chooseSlave_steady ..
    · exact s.chooseNone_steady i
  · split
    · exact .ite (s.chooseNone_steady i) (s.chooseSelf_steady i)
    · exact .ite (s.chooseSelf_steady i) (s.chooseSlave_steady ..)

theorem State.choose_steady (s : State) (hi : i < 4) (h8 : s.variant ≤ 8) : s.steady (s.choose i) := by
  rw [State.choose_eq]
  have h := s.chosen_steady i
  exact .ite (.refl s) (h.trans (State.setPorts_steady _ hi (h.variant ▸ h8)))

/-- An instance that runs keeps the announcements of its ports alone. -/
def State.instanceShown (s : State) (i : Nat) : State :=
  let s := (s.setInst i isRUNNING true).dropReference i
  s.updInst i (fun x => { x with announces := x.announces.filter (fun e => s.isPort i e.1) })

/-- An instance that does not run. -/
def State.instanceStopped (s : State) (i : Nat) : State :=
  let s := ((((s.setInst i isRUNNING false).setInst i isLOCKED false).setInst i isSELFGM false).setInst i isHOLDOVER false).setN
    (byIdx O.slavePort i) 0xFF
  s.updInst i (fun x => { base := x.base, ref := x.ref, ppb := x.ppb })

/-- One instance after a change of the configuration. -/
def State.instanceRefreshed (s : State) (i : Nat) : State :=
  if s.instOn i then
    let s := s.instanceShown i
    if s.slavePort i < 64 ∧ s.isPort i (s.slavePort i) = false then s.choose i else s.setPorts i
  else if s.instFlag i isRUNNING then (s.instanceStopped i).setPorts i
  else s

theorem State.refreshInstances_eq (s : State) : s.refreshInstances = (List.range 4).foldl (fun (s : State) i => s.instanceRefreshed i) s := rfl

theorem State.instanceShown_steady (s : State) (i : Nat) : s.steady (s.instanceShown i) :=
  ((s.setInst_steady i isRUNNING true).trans (State.dropReference_steady _ i)).trans (State.updInst_steady ..)

theorem State.instanceStopped_steady (s : State) (i : Nat) : s.steady (s.instanceStopped i) :=
  (((((s.setInst_steady i isRUNNING false).trans (State.setInst_steady _ i isLOCKED false)).trans (State.setInst_steady _ i isSELFGM false)).trans
    (State.setInst_steady _ i isHOLDOVER false)).setN (slavePort_not_powerKey i) 0xFF).trans (State.updInst_steady ..)

theorem State.instanceRefreshed_steady (s : State) {i : Nat} (hi : i < 4) (h8 : s.variant ≤ 8) : s.steady (s.instanceRefreshed i) := by
  have hs := s.instanceShown_steady i
  have hv := hs.variant.le.trans h8
  have hn := s.instanceStopped_steady i
  unfold State.instanceRefreshed
  generalize s.instanceShown i = w at hs hv
  exact .ite (.ite (hs.trans (w.choose_steady hi hv)) (hs.trans (w.setPorts_steady hi hv)))
    (.ite (hn.trans (State.setPorts_steady _ hi (hn.variant.le.trans h8))) (.refl s))

theorem State.refreshInstances_steady (s : State) (h8 : s.variant ≤ 8) : s.steady s.refreshInstances := by
  rw [State.refreshInstances_eq]
  exact List.foldlRecOn (motive := s.steady) (List.range 4) _ (.refl s) fun w hw i hi =>
    hw.trans (w.instanceRefreshed_steady (List.mem_range.mp hi) (hw.variant.le.trans h8))

theorem State.restartUnits_steady (s : State) (h8 : s.variant ≤ 8) : s.steady s.restartUnits := by
  have hq : ∀ q ∈ List.range (2 * s.variant), captureKey O.capturesQueued q ∉ powerKeys := fun q hq => by
    have := List.mem_range.mp hq
    exact range_not_powerKey (m := O.capturesQueued) (b := 2049) (by unfold captureKey byIdx bySub; omega) (by decide)
  have h0 : ∀ x, s.steady { s with time := x } := fun x => .of_dict rfl rfl
  unfold State.restartUnits
  refine .foldl _ (.foldl _ (h0 _) fun w q hw => (State.steady.refl w).setN (hq q hw) 0) fun w q _ => ?_
  exact .ite (.of_dict rfl rfl) (.refl w)

/-- One instance starts anew. -/
def State.instanceAnew (s : State) (zero : Bool) (i : Nat) : State :=
  let now := if zero then 0 else s.instNow i
  let s := { s with time := { s.time with inst := put {} s.time.inst i { base := now, ref := s.now } } }
  let s := s.setN (byIdx O.instanceStatus i) (0x80 + b2n (s.instOn i))
  ((s.setN (byIdx O.slavePort i) 0xFF).setBlob (byIdx O.grandmasterIdentity i) (fill 8 0)).setPorts i

theorem State.instanceAnew_steady (s : State) (zero : Bool) {i : Nat} (hi : i < 4) (h8 : s.variant ≤ 8) : s.steady (s.instanceAnew zero i) := by
  have h0 : ∀ x, s.steady { s with time := x } := fun x => .of_dict rfl rfl
  have hk : byIdx O.instanceStatus i ∉ powerKeys := byIdx_not_powerKey i (by decide)
  unfold State.instanceAnew
  dsimp only
  have h1 := ((h0 { s.time with inst := put {} s.time.inst i { base := if zero then 0 else s.instNow i, ref := s.now } }).setN hk
    (0x80 + b2n (State.instOn { s with time := { s.time with inst := put {} s.time.inst i { base := if zero then 0 else s.instNow i, ref := s.now } } } i)))
  have h2 := (h1.setN (slavePort_not_powerKey i) 0xFF).setBlob (byIdx O.grandmasterIdentity i) (fill 8 0)
  exact h2.trans (State.setPorts_steady _ hi (h2.variant ▸ h8))

theorem State.restartInstances_eq (s : State) (zero : Bool) :
    s.restartInstances zero = ((List.range 4).foldl (fun (s : State) i => s.instanceAnew zero i) s).restartUnits := rfl

theorem State.restartInstances_steady (s : State) (zero : Bool) (h8 : s.variant ≤ 8) : s.steady (s.restartInstances zero) := by
  have h : s.steady ((List.range 4).foldl (fun (s : State) i => s.instanceAnew zero i) s) :=
    List.foldlRecOn (motive := s.steady) (List.range 4) _ (.refl s) fun w hw i hi =>
      hw.trans (w.instanceAnew_steady zero (List.mem_range.mp hi) (hw.variant ▸ h8))
  rw [State.restartInstances_eq]
  exact h.trans (State.restartUnits_steady _ (h.variant ▸ h8))

theorem State.startTick_steady (s : State) (n : Nat) : s.steady (s.startTick n) := by
  have h0 : ∀ x, s.steady { s with tick := x } := fun x => .of_dict rfl rfl
  have hn : O.tickNumber ∉ powerKeys := by decide
  have hl : O.lastStretchTick ∉ powerKeys := by decide
  exact ((((h0 _).setN tickState_not_powerKey _).setN tickFlags_not_powerKey _).setN hn _).setN hl _

end Time

/-! ### The plan and the keys of a start (R336, R420) -/

section Plan

variable {f : StartFacts}

theorem State.resolveCopies_steady (s : State) : s.steady s.resolveCopies := by
  have h0 : ∀ x, s.steady { s with cairn := x } := fun x => .of_dict rfl rfl
  have hst : O.lastKeyWriteStatus ∉ powerKeys := by decide
  have hsl : O.lastKeyWriteSlot ∉ powerKeys := by decide
  unfold State.resolveCopies
  exact .foldl _ (h0 _) fun w e _ => (((State.steady.refl w).setN hst _).setN hsl _).logLead ..

theorem State.reloadCaches_steady (s : State) : s.steady s.reloadCaches := by
  unfold State.reloadCaches
  exact .foldl _ (.refl s) fun w e _ => .of_dict rfl rfl

theorem State.seekGate_steady (s : State) (n : Nat) : s.steady (s.seekGate n) := s.updLane_steady ..

theorem State.loadLanes_steady (s : State) (ls : SMap LanePlan) (hl : ∀ e ∈ ls, e.1 < 64) : s.steady (s.loadLanes ls) := by
  have h0 : ∀ x, s.steady { s with plan := x } := fun x => .of_dict rfl rfl
  have hk : ∀ n, laneKey O.drained n ∉ powerKeys := fun n => byIdx_not_powerKey n (by decide)
  unfold State.loadLanes
  refine .foldl _ (h0 _) fun w e he => ?_
  have hg : laneSub O.gateCycle e.1 ∉ powerKeys := bySub_not_powerKey 63 (Nat.le_of_lt_succ (hl e he)) (by decide)
  dsimp only
  have h1 := (State.steady.refl w).addTo (hk e.1)
    ((w.lane e.1).queues.filter fun f => f.tc == 7 && !((e.2.list.map (·.owner)).filter (· ≠ 0xFFFF)).contains f.slot).length (2 ^ 64 - 1)
  generalize w.addTo (laneKey O.drained e.1) _ _ = v at h1
  have h2 : w.steady (if (v.lane e.1).adminRunning then v else v.setN (laneSub O.gateCycle e.1) e.2.cycle) := .ite h1 (h1.setN hg _)
  generalize (if (v.lane e.1).adminRunning then v else v.setN (laneSub O.gateCycle e.1) e.2.cycle) = u at h2
  have h3 : w.steady (if (u.lane e.1).adminRunning then u else u.setBlob (bySub O.guardBandsInForce e.1) (e.2.bands.flatMap (leBytes 4))) :=
    .ite h2 (h2.setBlob ..)
  have h4 := h3.trans (State.updLane_steady _ e.1 fun l =>
    { l with queues := l.queues.filter (fun f => !(f.tc == 7 && !((e.2.list.map (·.owner)).filter (· ≠ 0xFFFF)).contains f.slot)),
             credit5 := clampI (e.2.lo5 * 1000000) (e.2.hi5 * 1000000) l.credit5,
             credit6 := clampI (e.2.lo6 * 1000000) (e.2.hi6 * 1000000) l.credit6 })
  exact .ite (h4.trans (State.seekGate_steady _ e.1)) h4

theorem State.loadShapers_steady (s : State) (v : PlanView) : s.steady (s.loadShapers v) := by
  have h0 : ∀ x, s.steady { s with fwd := x } := fun x => .of_dict rfl rfl
  unfold State.loadShapers
  exact .foldl _ (h0 _) fun w e _ => (State.steady.refl w).addTo (byIdx_not_powerKey _ (by decide)) _ _

theorem State.refreshCounts_steady (s : State) : s.steady s.refreshCounts := by
  have ha : O.activeContracts ∉ powerKeys := by decide
  have hb : O.brokenContracts ∉ powerKeys := by decide
  have hs : O.shedContracts ∉ powerKeys := by decide
  exact (((State.steady.refl s).setN ha _).setN hb _).setN hs _

theorem State.refreshCases_steady (s : State) : s.steady s.refreshCases := .of_only (only_refreshCases s) (by decide)

theorem State.refreshSlots_steady (s : State) : s.steady s.refreshSlots := .of_only (only_refreshSlots s) (by decide)

theorem State.refreshRoots_steady (s : State) : s.steady s.refreshRoots := .of_only (only_refreshRoots s) (by decide)

theorem State.refreshLookAside_steady (s : State) (h8 : s.variant ≤ 8) : s.steady s.refreshLookAside := by
  unfold State.refreshLookAside
  refine .foldl _ (.refl s) fun w d hd => ?_
  have hlt : d < s.variant := List.mem_range.mp hd
  have hl : bySub O.lookAsideReservedLoad d ∉ powerKeys := bySub_not_powerKey 7 (by omega) (by decide)
  have ho : bySub O.lookAsideOversubscribed d ∉ powerKeys := bySub_not_powerKey 7 (by omega) (by decide)
  exact ((State.steady.refl w).setN hl _).setN ho _

/-- The transport mismatches are shown and the copies settled; unless they are locked, the keys are in the caches again. -/
def State.planKeyed (s : State) (f : StartFacts) : State :=
  let s := s.setN O.transportMismatches (f.mismatches % 2 ^ s.variant)
  let s := (s.dies.filter (fun d => bit f.mismatches d)).foldl (fun (s : State) d => s.logEv d Ev.transportMismatch 0xFFFF [(1, d)]) s
  let s := s.resolveCopies
  if s.keysLocked then s else s.reloadCaches.reloadSas

/-- Do the stored shards serve the image and the tick period? -/
def State.shardsOk (s : State) (f : StartFacts) : Bool :=
  let fmt := fld (s.image s.pkg.lead s.update.running) 6 2
  s.upDies.all (bit f.shards) && s.update.planFormat == fmt && s.update.planPeriod == s.n O.tickPeriodCode

/-- The plan is taken as the shards and the deltas are. -/
def State.planTaken (s : State) (f : StartFacts) : State :=
  let ok := s.shardsOk f
  let again := !ok && s.n O.activeGeneration != 0
  let held := s.upDies.all (fun d => bit f.deltas d && decide (Config.deltaBytes s.plan.active.gen d ≤ 1532 * 1024))
  let cases := s.plan.cases.map (fun (c : CaseSt) => if held then c else { c with state := 0 })
  { s with pkg := { s.pkg with planOk := ok }, update := { s.update with readmit := again, readmitFailed := false, warm := false },
           plan := { s.plan with cases := cases } }

/-- The lanes and shapers of the plan, and what the dictionary shows of it. -/
def State.planShown (s : State) (ok : Bool) : State :=
  let s := if ok then (s.loadLanes s.plan.active.lanes).loadShapers ⟨s.plan.active.contracts, s.plan.active.place⟩
    else (s.loadLanes []).loadShapers ⟨[], ⟨[], []⟩⟩
  s.refreshCounts.refreshCases.refreshSlots.refreshRoots.refreshLookAside

theorem State.loadPlan_eq (s : State) (f : StartFacts) :
    s.loadPlan f = ((s.planKeyed f).planTaken f).planShown ((s.planKeyed f).shardsOk f) := by
  unfold State.loadPlan State.planShown State.planTaken State.shardsOk State.planKeyed
  with_reducible rfl

theorem State.planKeyed_steady (s : State) (f : StartFacts) : s.steady (s.planKeyed f) := by
  have hk : O.transportMismatches ∉ powerKeys := by decide
  unfold State.planKeyed
  dsimp only
  have h1 : s.steady (((s.setN O.transportMismatches (f.mismatches % 2 ^ s.variant)).dies.filter (fun d => bit f.mismatches d)).foldl
      (fun (s : State) d => s.logEv d Ev.transportMismatch 0xFFFF [(1, d)]) (s.setN O.transportMismatches (f.mismatches % 2 ^ s.variant))) :=
    .foldl _ ((State.steady.refl s).setN hk _) fun w d _ => (State.steady.refl w).logEv ..
  have h2 := h1.trans (State.resolveCopies_steady _)
  exact .ite h2 ((h2.trans (State.reloadCaches_steady _)).trans (.of_dict rfl rfl))

theorem State.planShown_steady (s : State) (ok : Bool) (h8 : s.variant ≤ 8) (hl : ∀ e ∈ s.plan.active.lanes, e.1 < 64) : s.steady (s.planShown ok) := by
  have h1 : s.steady (if ok then (s.loadLanes s.plan.active.lanes).loadShapers ⟨s.plan.active.contracts, s.plan.active.place⟩
      else (s.loadLanes []).loadShapers ⟨[], ⟨[], []⟩⟩) :=
    .ite ((s.loadLanes_steady _ hl).trans (State.loadShapers_steady ..)) ((s.loadLanes_steady [] (by simp)).trans (State.loadShapers_steady ..))
  unfold State.planShown
  dsimp only
  generalize (if ok then (s.loadLanes s.plan.active.lanes).loadShapers ⟨s.plan.active.contracts, s.plan.active.place⟩
      else (s.loadLanes []).loadShapers ⟨[], ⟨[], []⟩⟩) = w at h1
  have h2 := (((h1.trans w.refreshCounts_steady).trans (State.refreshCases_steady _)).trans (State.refreshSlots_steady _)).trans
    (State.refreshRoots_steady _)
  exact h2.trans (State.refreshLookAside_steady _ (h2.variant ▸ h8))

theorem State.planTaken_steady (s : State) (f : StartFacts) : s.steady (s.planTaken f) := .of_dict rfl rfl

theorem State.planTaken_active (s : State) (f : StartFacts) : (s.planTaken f).plan.active = s.plan.active := rfl

/-- What a start has left of the lead's own parts when its plan is loaded. -/
theorem State.planKeyed_within (s : State) (f : StartFacts) : Within s (s.planKeyed f) [.logs, .cairn, .cipher] := by
  have hlog : ∀ (l : List Nat) (u : State), (l.foldl (fun (s : State) d => s.logEv d Ev.transportMismatch 0xFFFF [(1, d)]) u).core 49184 = u.core 49184 :=
    fun l u => core_foldl _ (fun w d => State.logEv_core rfl w d Ev.transportMismatch 0xFFFF [(1, d)]) l u
  unfold State.planKeyed
  dsimp only
  refine within_of_core (R := 49184) ?_ rfl
  split
  · rw [State.resolveCopies_core rfl, hlog, State.setN_core rfl]
  · rw [State.reloadSas_core rfl, State.reloadCaches_core rfl, State.resolveCopies_core rfl, hlog, State.setN_core rfl]

theorem State.loadPlan_steady (s : State) (f : StartFacts) (h8 : s.variant ≤ 8) (hl : ∀ e ∈ s.plan.active.lanes, e.1 < 64) :
    s.steady (s.loadPlan f) := by
  have hw := s.planKeyed_within f
  have h1 := s.planKeyed_steady f
  rw [State.loadPlan_eq]
  have hp : (s.planKeyed f).plan = s.plan := hw.rest .plan (by decide) (by decide)
  generalize s.planKeyed f = u at h1 hp
  have h2 := h1.trans (u.planTaken_steady f)
  have ha : (u.planTaken f).plan.active = s.plan.active := (u.planTaken_active f).trans (congrArg PlanSt.active hp)
  refine h2.trans (State.planShown_steady _ _ (h2.variant ▸ h8) ?_)
  rw [ha]
  exact hl

end Plan

/-! ### Quarantine, the ring and the rails (R379, R390, R396) -/

section Ring

theorem emits_steady {α : Type} (o : α → Out) (l : List α) (s : State) : s.steady (l.foldl (fun (s : State) a => s.emit (o a)) s) :=
  .foldl l (.refl s) fun _ _ _ => .of_dict rfl rfl

theorem State.ringSend_steady (s : State) (m : Nat) (b : Option Nat) (r : RingMsg) : s.steady (s.ringSend m b r) := by
  have h0 : s.steady (s.noteRing r) := .of_dict rfl rfl
  unfold State.ringSend
  exact .foldl _ h0 fun w n _ => w.updLane_steady ..

theorem State.forwardWake_steady (s : State) (src : Option Nat) : s.steady (s.forwardWake src) := by
  have h0 : ∀ x, s.steady { s with power := x } := fun x => .of_dict rfl rfl
  exact (h0 _).trans (State.ringSend_steady ..)

theorem State.redeclare_steady (s : State) (old : SMap Nat) : s.steady (s.redeclare old) := by
  unfold State.redeclare
  refine .foldl _ (.refl s) fun w k _ => ?_
  split
  · refine .ite (.refl w) (.foldl _ (.refl w) fun v x _ => .ite (.refl v) (.of_dict rfl rfl))
  · exact .refl w

theorem State.leaveQuarantine_steady (s : State) : s.steady s.leaveQuarantine := by
  have h0 : ∀ x, s.steady { s with pkg := x } := fun x => .of_dict rfl rfl
  unfold State.leaveQuarantine
  dsimp only
  refine .ite (.refl s) ?_
  exact (((h0 _).trans (State.ringSend_steady ..)).trans (emits_steady (fun n => .message "lacp" n []) _ _)).trans (State.redeclare_steady ..)

theorem State.wakeForward_steady (s : State) (c x : Nat) : s.steady (s.wakeForward c x) := by
  unfold State.wakeForward
  exact .ite (.ite (s.forwardWake_steady _) (.refl s)) (.ite (.ite (.of_dict rfl rfl) (.refl s)) (s.forwardWake_steady none))

theorem State.wakeRails_steady (s : State) : s.steady s.wakeRails := by
  unfold State.wakeRails
  exact .ite ((emits_steady (fun i => .message "reg_en" i [1]) _ _).trans (.of_dict rfl rfl)) (.refl s)

theorem State.wakeLinks_steady (s : State) (h8 : s.variant ≤ 8) : s.steady s.wakeLinks := by
  unfold State.wakeLinks
  refine .foldl _ (.refl s) fun w d hd => .foldl _ (.refl w) fun v p hp => ?_
  have hdlt : d < s.variant := List.mem_range.mp hd
  have hplt : p < 4 := List.mem_range.mp hp
  split
  · exact .refl v
  · exact (State.steady.refl v).setN (bySub_not_powerKey 31 (by omega) (by decide)) _

end Ring

end Sys2Proof.Machine
end

section
/-! Proofs about the entry into Sleep (R382, R383, R389). -/
namespace Sys2Proof.Machine
open Sys2Proof

variable {s : State} {t : Nat}

/-! ### Power down -/

section PowerDown

/-- One lane is drained and shows nothing. -/
def State.laneDark (s : State) (n : Nat) : State := (s.drainLane n).setN (laneKey O.linkStatus n) 0

/-- The lists and tests of the lanes stop, and the lanes hold nothing. -/
def State.lanesOff (s : State) : State :=
  let s := s.stopLists.interruptTests (fun _ => true)
  let s := (List.range s.laneCount).foldl (fun (s : State) n => s.laneDark n) s
  { s with lanes := [] }

/-- The Saddle links, the announcements and the march show that they are off. -/
def State.unitsOff (s : State) : State :=
  let s := s.dies.foldl (fun (s : State) d => (List.range 4).foldl (fun (s : State) p => s.setN (portKey O.saddleLinkState d p) 0) s) s
  let s := (List.range 16).foldl (fun (s : State) a => if s.annStatus a = 1 then s.setN (annKey O.announcementStatus a) 4 else s) s
  match s.mem.march with
  | some _ => { s with mem := { s.mem with march := none } }.setN O.marchStatus maINTERRUPTED
  | none => s

/-- What the domains that are off have lost. -/
def State.contentsLost (s : State) (ctrl : Bool) : State :=
  let fwd : FwdSt := { fdb := mapVals (fun m => m.filter (fun e => e.2.static)) s.fwd.fdb }
  let b : BridgeSt := if ctrl then { s.bridge with txns := [], queued := [], forwarding := [], waiting := [], spiRead := none, lines := [], edgeRam := [] } else {}
  { s with
    fwd := fwd, fw := {}, bridge := b, audio := {}, edge := { s.edge with can := [], lin := [], uart := [], t1s := [], mvb := [], cells := [], node := {} },
    cairn := { s.cairn with cache := [], requests := [] },
    cipher := { s.cipher with sas := [], mka := [], jobs := [], next := [], derived := [], counts := jumpCounts s.cipher.counts },
    access := if ctrl then { s.access with sessions := mapVals (fun (x : Session) => { x with job := none }) s.access.sessions } else {},
    pkg := { s.pkg with clusters := [], linkMiss := [], linkReports := [], firstReport := [] } }

theorem State.powerDown_eq (s : State) (ctrl : Bool) : s.powerDown ctrl = s.lanesOff.unitsOff.contentsLost ctrl := by
  unfold State.powerDown State.unitsOff State.lanesOff State.laneDark
  dsimp only
  generalize (List.range 16).foldl _ _ = v
  cases v.mem.march with
  | none => rfl
  | some m => rfl

theorem State.laneDark_steady (s : State) (n : Nat) : s.steady (s.laneDark n) :=
  (s.drainLane_steady n).setN (byIdx_not_powerKey n (by decide)) 0

theorem State.interruptTests_steady (s : State) (p : Nat → Bool) (h8 : s.variant ≤ 8) : s.steady (s.interruptTests p) := by
  unfold State.interruptTests
  refine .foldl _ (.refl s) fun w n hn => ?_
  have hlt : n < 8 * s.variant := List.mem_range.mp (List.mem_filter.mp hn).1
  have hm : laneSub O.laneTestMode n ∉ powerKeys := bySub_not_powerKey 63 (by omega) (by decide)
  have ht : laneSub O.testStatus n ∉ powerKeys := bySub_not_powerKey 63 (by omega) (by decide)
  exact (((w.updLane_steady n fun l => { l with testMode := 0 }).setN hm 0).setN ht 5).logEv ..

theorem State.lanesOff_steady (s : State) (h8 : s.variant ≤ 8) : s.steady s.lanesOff := by
  have h0 : s.steady s.stopLists := .of_dict rfl rfl
  have h1 := h0.trans (s.stopLists.interruptTests_steady (fun _ => true) h8)
  unfold State.lanesOff
  dsimp only
  generalize s.stopLists.interruptTests (fun _ => true) = w at h1
  have h2 : s.steady ((List.range w.laneCount).foldl (fun (s : State) n => s.laneDark n) w) := .foldl _ h1 fun v n _ => v.laneDark_steady n
  exact ⟨h2.variant, h2.objects⟩

theorem State.unitsOff_steady (s : State) (h8 : s.variant ≤ 8) : s.steady s.unitsOff := by
  have h1 : s.steady (s.dies.foldl (fun (s : State) d => (List.range 4).foldl (fun (s : State) p => s.setN (portKey O.saddleLinkState d p) 0) s) s) := by
    refine .foldl _ (.refl s) fun w d hd => .foldl _ (.refl w) fun v p hp => ?_
    have hdlt : d < s.variant := List.mem_range.mp hd
    have hplt : p < 4 := List.mem_range.mp hp
    exact (State.steady.refl v).setN (bySub_not_powerKey 31 (by omega) (by decide)) _
  unfold State.unitsOff
  dsimp only
  generalize s.dies.foldl (fun (s : State) d => (List.range 4).foldl (fun (s : State) p => s.setN (portKey O.saddleLinkState d p) 0) s) s = w at h1
  have h2 : s.steady ((List.range 16).foldl (fun (s : State) a => if s.annStatus a = 1 then s.setN (annKey O.announcementStatus a) 4 else s) w) := by
    refine .foldl _ h1 fun v a ha => .ite ((State.steady.refl v).setN (byIdx_not_powerKey_le 15 ?_ (by decide)) _) (.refl v)
    exact Nat.le_of_lt_succ (List.mem_range.mp ha)
  generalize (List.range 16).foldl (fun (s : State) a => if s.annStatus a = 1 then s.setN (annKey O.announcementStatus a) 4 else s) w = v at h2
  have hm : O.marchStatus ∉ powerKeys := by decide
  split
  · have h3 : ∀ x, v.steady { v with mem := x } := fun x => .of_dict rfl rfl
    exact (h2.trans (h3 _)).setN hm _
  · exact h2

theorem State.contentsLost_steady (s : State) (ctrl : Bool) : s.steady (s.contentsLost ctrl) := .of_dict rfl rfl

theorem State.powerDown_steady (s : State) (ctrl : Bool) (h8 : s.variant ≤ 8) : s.steady (s.powerDown ctrl) := by
  have h1 := s.lanesOff_steady h8
  rw [State.powerDown_eq]
  exact (h1.trans (State.unitsOff_steady _ (h1.variant.le.trans h8))).trans (State.contentsLost_steady ..)

theorem State.lanesOff_within (s : State) : Within s s.lanesOff [.lanes, .fwd, .logs] := by
  have hd : ∀ (l : List Nat) (u : State), (l.foldl (fun (s : State) n => s.laneDark n) u).core 1568 = u.core 1568 := fun l u =>
    core_foldl _ (fun w n => (State.setN_core rfl _ _ _).trans (State.drainLane_core rfl w n)) l u
  refine within_of_core (R := 1568) ?_ rfl
  unfold State.lanesOff
  dsimp only
  rw [core_lanes rfl, hd, State.interruptTests_core rfl, State.stopLists_core rfl]

theorem State.unitsOff_within (s : State) : Within s s.unitsOff [.mem] := by
  have hl : ∀ (l : List Nat) (u : State),
      (l.foldl (fun (s : State) d => (List.range 4).foldl (fun (s : State) p => s.setN (portKey O.saddleLinkState d p) 0) s) u).core 8192 = u.core 8192 :=
    fun l u => core_foldl _ (fun w d => core_foldl _ (fun v p => State.setN_core rfl v _ _) _ w) l u
  have ha : ∀ (l : List Nat) (u : State),
      (l.foldl (fun (s : State) a => if s.annStatus a = 1 then s.setN (annKey O.announcementStatus a) 4 else s) u).core 8192 = u.core 8192 :=
    fun l u => core_foldl _ (fun w a => by
      split
      · exact State.setN_core rfl w _ _
      · rfl) l u
  refine within_of_core (R := 8192) ?_ rfl
  unfold State.unitsOff
  dsimp only
  split
  · rw [State.setN_core rfl, core_mem rfl, ha, hl]
  · rw [ha, hl]

end PowerDown

/-! ### The entry into Sleep (R382) -/

section Entry

/-- Every port is in quarantine, and the commanders of the LIN clusters have sent them to sleep. -/
def State.clustersAsleep (s : State) : State :=
  let s := s.enterQuarantine s.dieMask
  let lins := (List.range 16).filter (fun u => s.edgeOn (epLin u) && s.n (byIdx O.linRole u) == 0)
  lins.foldl (fun (s : State) u => s.emit (.message "lin-sleep" u [0x3C, 0x00, 0xFF, 0xFF, 0xFF, 0xFF, 0xFF, 0xFF, 0xFF])) s

/-- The switched rails go off, and the package's own supply is inhibited where every die asks for it. -/
def State.railsOff (s : State) : State :=
  let s := s.switchedOutputs.foldl (fun (s : State) i => s.emit (.message "reg_en" i [0])) s
  if (List.range s.variant).all (fun d => s.n (bySub O.inhInSleep d) == 0) then s.emit (.message "inh" 0 [0]) else s

/-- Nothing of a round or a wake is under way. -/
def State.powerIdle (s : State) : State :=
  { s with power := { s.power with round := none, token := none, commits := 0, wakes := 0, wakeOnCommit := false, wakeAt := none, forwardOn := none } }

theorem State.enterSleep_eq (s : State) :
    s.enterSleep = (((s.clustersAsleep.powerDown false).setN O.powerState pwSLEEP).railsOff).powerIdle := by
  unfold State.enterSleep State.powerIdle State.railsOff State.clustersAsleep
  with_reducible rfl

theorem foldl_emit_within {α : Type} (o : α → Out) (l : List α) (s : State) : Within s (l.foldl (fun (s : State) a => s.emit (o a)) s) [] :=
  within_of_core (R := 0) (core_foldl _ (fun w a => State.emit_core rfl w (o a)) l s) rfl

theorem State.clustersAsleep_within (s : State) : Within s s.clustersAsleep [.pkg, .lanes, .fwd] := by
  refine within_of_core (R := 1600) ?_ rfl
  unfold State.clustersAsleep
  dsimp only
  rw [core_foldl _ (fun w u => State.emit_core rfl w _), State.enterQuarantine_core rfl]

theorem State.clustersAsleep_bit (s : State) {d : Nat} (h8 : d < 8) (hd : s.hasDie d = true) : bit s.clustersAsleep.pkg.quarantine d = true := by
  unfold State.clustersAsleep
  dsimp only
  rw [(foldl_emit_within ..).rest .pkg (by decide) (by decide)]
  exact s.enterQuarantine_bit h8 (bit_dieMask hd)

theorem State.enterQuarantine_steady (s : State) (m : Nat) : s.steady (s.enterQuarantine m) := by
  have h0 : ∀ x, s.steady { s with pkg := x } := fun x => .of_dict rfl rfl
  unfold State.enterQuarantine
  exact .foldl _ (h0 _) fun w n _ => w.drainLane_steady n

theorem State.clustersAsleep_steady (s : State) : s.steady s.clustersAsleep :=
  (s.enterQuarantine_steady _).trans (emits_steady (fun u => .message "lin-sleep" u [0x3C, 0x00, 0xFF, 0xFF, 0xFF, 0xFF, 0xFF, 0xFF, 0xFF]) _ _)

theorem State.railsOff_within (s : State) : Within s s.railsOff [] := by
  refine within_of_core (R := 0) ?_ rfl
  unfold State.railsOff
  dsimp only
  split
  · rw [State.emit_core rfl, core_foldl _ (fun w i => State.emit_core rfl w _)]
  · rw [core_foldl _ (fun w i => State.emit_core rfl w _)]

theorem State.railsOff_steady (s : State) : s.steady s.railsOff := by
  have h := emits_steady (fun i => .message "reg_en" i [0]) s.switchedOutputs s
  unfold State.railsOff
  exact .ite (h.trans (.of_dict rfl rfl)) h

theorem State.enterSleep_powerState (s : State) : s.enterSleep.n O.powerState = pwSLEEP := by
  rw [State.enterSleep_eq]
  generalize s.clustersAsleep.powerDown false = w
  have h : (w.setN O.powerState pwSLEEP).steady (w.setN O.powerState pwSLEEP).railsOff.powerIdle :=
    (State.railsOff_steady _).trans (.of_dict rfl rfl)
  rw [h.n (by decide), State.setN_self]

/-- The entry leaves the wake record and the round's status. -/
theorem State.enterSleep_n (s : State) {k : Nat} (h8 : s.variant ≤ 8) (hk : k ∈ powerKeys) (hp : k ≠ O.powerState) : s.enterSleep.n k = s.n k := by
  have h1 := s.clustersAsleep_steady
  have h2 := h1.trans (State.powerDown_steady _ false (h1.variant.le.trans h8))
  rw [State.enterSleep_eq]
  generalize s.clustersAsleep.powerDown false = w at h2
  have h3 : (w.setN O.powerState pwSLEEP).steady (w.setN O.powerState pwSLEEP).railsOff.powerIdle :=
    (State.railsOff_steady _).trans (.of_dict rfl rfl)
  rw [h3.n hk, State.setN_other _ _ _ _ hp (by decide), h2.n hk]

/-- The state just before the power state is SLEEP. -/
def State.sleeping (s : State) : State := s.clustersAsleep.lanesOff.unitsOff

theorem State.sleeping_within (s : State) : Within s s.sleeping [.pkg, .lanes, .fwd, .mem, .logs] := by
  have h := s.clustersAsleep_within
  have h1 := s.clustersAsleep.lanesOff_within
  have h2 := s.clustersAsleep.lanesOff.unitsOff_within
  exact ⟨h2.variant.trans (h1.variant.trans h.variant), h2.queue.trans (h1.queue.trans h.queue), fun p hb hp =>
    State.same_trans (State.same_trans (h.rest p hb fun hn => hp (by fin_cases hn <;> decide)) (h1.rest p hb fun hn => hp (by fin_cases hn <;> decide)))
      (h2.rest p hb fun hn => hp (by fin_cases hn; decide))⟩

theorem State.sleeping_lanes (s : State) : s.sleeping.lanes = [] :=
  (State.unitsOff_within _).rest .lanes (by decide) (by decide)

theorem State.sleeping_bit (s : State) {d : Nat} (h8 : d < 8) (hd : s.hasDie d = true) : bit s.sleeping.pkg.quarantine d = true := by
  have h1 : s.clustersAsleep.lanesOff.pkg = s.clustersAsleep.pkg := (State.lanesOff_within _).rest .pkg (by decide) (by decide)
  have h2 : s.sleeping.pkg = s.clustersAsleep.lanesOff.pkg := (State.unitsOff_within _).rest .pkg (by decide) (by decide)
  rw [h2, h1]
  exact s.clustersAsleep_bit h8 hd

/-- R382, R389: what the entry into Sleep leaves. -/
theorem State.enterSleep_asleep (s : State) : s.asleep s.enterSleep := by
  have hp := s.enterSleep_powerState
  have hw := s.sleeping_within
  have hl := s.sleeping_lanes
  have hb := fun d h8 hd => s.sleeping_bit (d := d) h8 hd
  have hcairn : s.sleeping.cairn = s.cairn := hw.rest .cairn (by decide) (by decide)
  have hpower : s.sleeping.power = s.power := hw.rest .power (by decide) (by decide)
  have hplan : s.sleeping.plan = s.plan := hw.rest .plan (by decide) (by decide)
  have hupd : s.sleeping.update = s.update := hw.rest .update (by decide) (by decide)
  rw [State.enterSleep_eq, State.powerDown_eq] at hp ⊢
  change State.asleep s ((((s.sleeping.contentsLost false).setN O.powerState pwSLEEP).railsOff).powerIdle)
  change State.n ((((s.sleeping.contentsLost false).setN O.powerState pwSLEEP).railsOff).powerIdle) O.powerState = _ at hp
  generalize s.sleeping = u at hw hl hb hcairn hpower hplan hupd hp
  have hr := ((u.contentsLost false).setN O.powerState pwSLEEP).railsOff_within
  generalize ((u.contentsLost false).setN O.powerState pwSLEEP).railsOff = v at hr hp
  have hcs : v.cipher = (u.contentsLost false).cipher := hr.rest .cipher (by decide) (by decide)
  have hca : v.cairn = (u.contentsLost false).cairn := hr.rest .cairn (by decide) (by decide)
  have hpk : v.pkg = (u.contentsLost false).pkg := hr.rest .pkg (by decide) (by decide)
  have hpo : v.power = u.power := hr.rest .power (by decide) (by decide)
  refine ⟨hp, ?_, hr.rest .fw (by decide) (by decide), hr.rest .audio (by decide) (by decide), congrArg CipherSt.sas hcs, congrArg CipherSt.jobs hcs,
    congrArg CairnSt.cache hca, hr.rest .access (by decide) (by decide), ?_, ?_, ?_, fun d h8 hd => ?_, ?_⟩
  · exact (hr.rest .lanes (by decide) (by decide) : v.lanes = u.lanes).trans hl
  · exact (congrArg CairnSt.copies hca).trans (congrArg CairnSt.copies hcairn :)
  · exact (hr.rest .plan (by decide) (by decide) : v.plan = u.plan).trans hplan
  · exact (hr.rest .update (by decide) (by decide) : v.update = u.update).trans hupd
  · exact (congrArg (fun x : PkgSt => bit x.quarantine d) hpk).trans (hb d h8 hd)
  · unfold State.powerIdle
    dsimp only
    rw [hpo, hpower]

/-- What an entry into Sleep is asked of a state that has only logged and shown since. -/
theorem State.asleep_of_only {u v : State} {K : List Nat} (h : Only s u [.logs] K) (g : u.asleep v) : s.asleep v := by
  have hd : ∀ d, u.hasDie d = s.hasDie d := fun d => congrArg (fun n => decide (d < n)) h.variant
  unfold State.asleep at g ⊢
  rw [h.rest .cairn (by decide), h.rest .plan (by decide), h.rest .update (by decide), h.rest .power (by decide)] at g
  simpa only [hd] using g

/-- The commit tick has come: the member's log and the round's status. -/
def State.sleepNoted (s : State) (initiator c : Nat) : State :=
  let s := s.logEv s.pkg.lead Ev.sleepEntry 0xFFFF [(2, initiator), (8, c)]
  s.setN O.sleepRoundStatus (if initiator = s.ownAddr then srCOMMITTED else s.n O.sleepRoundStatus)

theorem only_sleepNoted (s : State) (i c : Nat) : Only s (s.sleepNoted i c) [.logs] [O.sleepRoundStatus] :=
  .obj ((only_logEv ..).mono (by simp) (by simp)) (only_setN ..) (by simp)

theorem State.sleepNoted_status (s : State) (c : Nat) : (s.sleepNoted s.ownAddr c).n O.sleepRoundStatus = srCOMMITTED := by
  have h : (s.logEv s.pkg.lead Ev.sleepEntry 0xFFFF [(2, s.ownAddr), (8, c)]).ownAddr = s.ownAddr := (only_logEv ..).n_all _
  exact (State.setN_self _ _ _).trans (if_pos h.symm)

/-- The WAKE of a member that has cancelled, at the commit tick. -/
def State.wakesInstead (s : State) : State :=
  let s := (s.setRound none).setN O.sleepCommitTick 0
  State.forwardWake { s with power := { s.power with wakeOnCommit := false } } none

section SleepEntry

variable {r : RoundSt} {c : Nat}

theorem sleepEntry_none (h : s.power.round = none) : sleepEntry s = s := by
  unfold sleepEntry
  rw [h]

theorem sleepEntry_early (h : s.power.round = some r) (hc : r.commit = some c) (hn : s.tickNo < c ∨ s.n O.powerState ≠ pwACTIVE) : sleepEntry s = s := by
  unfold sleepEntry
  rw [h]
  dsimp only
  rw [hc]
  exact if_pos hn

theorem sleepEntry_due (h : s.power.round = some r) (hc : r.commit = some c) (hn : c ≤ s.tickNo) (hp : s.n O.powerState = pwACTIVE) :
    sleepEntry s = if r.cancelled then s.wakesInstead else (s.sleepNoted r.initiator c).enterSleep := by
  unfold sleepEntry
  rw [h]
  dsimp only
  rw [hc]
  exact if_neg (not_or.mpr ⟨Nat.not_lt.mpr hn, not_not.mpr hp⟩)

end SleepEntry

end Entry

/-! ### WAKE frames (R383, R387) -/

section Ring

theorem State.ringSend_power (s : State) (m : Nat) (b : Option Nat) (r : RingMsg) : (s.ringSend m b r).power = (s.noteRing r).power := by
  unfold State.ringSend
  exact (within_of_core (R := 512) (core_foldl _ (fun w n => State.joinQueue_core rfl w n _) _ _) rfl : Within (s.noteRing r) _ [.lanes]).rest .power
    (by decide) (by decide)

theorem only_ringSend (s : State) (m : Nat) (b : Option Nat) (r : RingMsg) : Only s (s.ringSend m b r) [.lanes, .power] [] := by
  have h0 : Only s (s.noteRing r) [.lanes, .power] [] := (Only.same s _ _).setPower _ (by decide)
  unfold State.ringSend
  exact .foldl _ _ h0 fun w n _ h => h.one (only_updLane ..) (by decide)

theorem only_forwardWake (s : State) (b : Option Nat) : Only s (s.forwardWake b) [.lanes, .power] [] :=
  .two ((Only.same s _ _).setPower { s.power with wakes := 2, wakeSource := b } (by decide)) (only_ringSend ..) (by decide) (by decide)

theorem State.forwardWake_wakes (s : State) (b : Option Nat) : (s.forwardWake b).power.wakes = 2 ∧ (s.forwardWake b).power.wakeSource = b ∧
    (s.forwardWake b).power.round = s.power.round ∧ (s.forwardWake b).power.wakeAt = s.power.wakeAt ∧ (s.forwardWake b).power.wakeCause = s.power.wakeCause := by
  unfold State.forwardWake State.sendWake
  dsimp only
  rw [State.ringSend_power]
  exact ⟨rfl, rfl, rfl, rfl, rfl⟩

theorem only_wakesInstead (s : State) : Only s s.wakesInstead [.lanes, .power] [O.sleepCommitTick] := by
  have h1 : Only s ((s.setRound none).setN O.sleepCommitTick 0) [.lanes, .power] [O.sleepCommitTick] :=
    .obj ((Only.same s _ _).setPower { s.power with round := none } (by decide)) (only_setN ..) (by simp)
  exact .two (h1.setPower { s.power with round := none, wakeOnCommit := false } (by decide)) (only_forwardWake ..) (by decide) (by decide)

end Ring

/-! ### What the commands leave -/

section SleepRuns

variable {n c w : Nat} {r : RoundSt}

theorem wakeFrame_runs_active (hn : s.inService n = true) (hp : s.n O.powerState = pwACTIVE) :
    Runs (.wakeFrame t n) s (· = { (s.begin t) with power := { s.power with wakeFrames := s.power.wakeFrames + 1 } }) :=
  .intro (congrArg Host.Outcome.next (if_pos (Bool.and_eq_true_iff.mpr ⟨hn, beq_iff_eq.mpr hp⟩))) rfl

theorem wakeFrame_runs_passive (h : s.inService n = false ∨ s.n O.powerState ≠ pwACTIVE) : Runs (.wakeFrame t n) s (· = s.begin t) := by
  have hc : ¬((s.begin t).inService n && (s.begin t).power_ == pwACTIVE) = true := fun hn => by
    obtain ⟨hi, hp⟩ := Bool.and_eq_true_iff.mp hn
    exact h.elim (fun g => absurd (hi.symm.trans g) (by decide)) (fun g => g (beq_iff_eq.mp hp))
  exact .intro (congrArg Host.Outcome.next (if_neg hc)) rfl

theorem wakeFrameRepeat_runs_idle (h : s.power.wakes = 0) : Runs (.wakeFrameRepeat t) s (· = s.begin t) :=
  .intro (congrArg Host.Outcome.next (if_pos h)) rfl

theorem wakeFrameRepeat_runs_sent (h : s.power.wakes ≠ 0) : Runs (.wakeFrameRepeat t) s fun v => v.power.wakes = s.power.wakes - 1 ∧
    Only s v [.lanes, .power] [] ∧
    v = ({ (s.begin t) with power := { s.power with wakes := s.power.wakes - 1 } } : State).ringSend (s.n O.wakeForwardLanes) s.power.wakeSource (s.ringMsg rtWAKE) := by
  have h0 : Only (s.begin t) { s.begin t with power := { s.power with wakes := s.power.wakes - 1 } } [.lanes, .power] [] :=
    (Only.same _ _ _).setPower _ (by decide)
  refine .intro (congrArg Host.Outcome.next (if_neg h)) ⟨?_, (h0.two (only_ringSend ..) (by decide) (by decide)).begin, rfl⟩
  exact congrArg PowerSt.wakes (State.ringSend_power ..)

theorem sleepEntry_runs_none (h : s.power.round = none) : Runs (.sleepEntry t) s (· = s.begin t) :=
  .intro (congrArg Host.Outcome.next (sleepEntry_none (s := s.begin t) h)) rfl

theorem sleepEntry_runs_early (h : s.power.round = some r) (hc : r.commit = some c) (hn : s.tickNo < c ∨ s.n O.powerState ≠ pwACTIVE) :
    Runs (.sleepEntry t) s (· = s.begin t) :=
  .intro (congrArg Host.Outcome.next (sleepEntry_early (s := s.begin t) h hc hn)) rfl

theorem sleepEntry_runs_cancelled (h : s.power.round = some r) (hc : r.commit = some c) (hn : c ≤ s.tickNo) (hp : s.n O.powerState = pwACTIVE)
    (hr : r.cancelled = true) : Runs (.sleepEntry t) s fun v => v.power.round = none ∧ v.power.wakes = 2 ∧ v.power.wakeSource = none ∧
      v.n O.sleepCommitTick = 0 ∧ Only s v [.lanes, .power] [O.sleepCommitTick] := by
  obtain ⟨hwakes, hsrc, hround, -⟩ := State.forwardWake_wakes { ((s.begin t).setRound none).setN O.sleepCommitTick 0 with
    power := { s.power with round := none, wakeOnCommit := false } } none
  refine .intro (congrArg Host.Outcome.next ((sleepEntry_due (s := s.begin t) h hc hn hp).trans (if_pos hr)))
    ⟨hround, hwakes, hsrc, ?_, (only_wakesInstead _).begin⟩
  exact ((only_forwardWake ..).n_all _).trans (State.setN_self ((s.begin t).setRound none) _ _)

theorem sleepEntry_runs_asleep (h : s.power.round = some r) (hc : r.commit = some c) (hn : c ≤ s.tickNo) (hp : s.n O.powerState = pwACTIVE)
    (hr : r.cancelled = false) (h8 : s.variant ≤ 8) : Runs (.sleepEntry t) s fun v => s.asleep v ∧ (r.initiator = s.ownAddr → v.n O.sleepRoundStatus = srCOMMITTED) := by
  have ho := only_sleepNoted (s.begin t) r.initiator c
  have hcond : ¬r.cancelled = true := by simp only [hr, Bool.false_eq_true, not_false_eq_true]
  refine .intro (congrArg Host.Outcome.next ((sleepEntry_due (s := s.begin t) h hc hn hp).trans (if_neg hcond)))
    ⟨State.asleep_of_only ho.begin (State.enterSleep_asleep _), fun hi => ?_⟩
  rw [State.enterSleep_n _ (ho.variant.le.trans h8) (by decide) (by decide), hi]
  exact (s.begin t).sleepNoted_status c

theorem falseWake_runs_none (h : s.power.wakeAt = none) : Runs (.falseWake t) s (· = s.begin t) := by
  have hf : falseWake (s.begin t) = s.begin t := by
    unfold falseWake
    rw [show (s.begin t).power.wakeAt = none from h]
  exact .intro (congrArg Host.Outcome.next hf) rfl

theorem falseWake_some (h : s.power.wakeAt = some w) : falseWake s =
    if s.now < w + s.n O.noTrafficTimeout * 1000000 ∨ s.n O.powerState ≠ pwACTIVE then s
    else ((s.inc32 O.falseWakes).logLead Ev.falseWake 0xFFFF [(1, s.n O.lastWakeCause), (2, s.n O.lastWakeSource)]).enterSleep := by
  unfold falseWake
  rw [h]
  rfl

theorem falseWake_runs_early (h : s.power.wakeAt = some w) (hn : s.localAt t < w + s.n O.noTrafficTimeout * 1000000 ∨ s.n O.powerState ≠ pwACTIVE) :
    Runs (.falseWake t) s (· = s.begin t) :=
  .intro (congrArg Host.Outcome.next ((falseWake_some (s := s.begin t) h).trans (if_pos hn))) rfl

theorem falseWake_runs_asleep (h : s.power.wakeAt = some w) (hn : w + s.n O.noTrafficTimeout * 1000000 ≤ s.localAt t) (hp : s.n O.powerState = pwACTIVE)
    (h8 : s.variant ≤ 8) : Runs (.falseWake t) s fun v => s.asleep v ∧ v.n O.falseWakes = satN (2 ^ 32 - 1) (s.n O.falseWakes + 1) := by
  have hc : ¬((s.begin t).now < w + (s.begin t).n O.noTrafficTimeout * 1000000 ∨ (s.begin t).n O.powerState ≠ pwACTIVE) :=
    not_or.mpr ⟨Nat.not_lt.mpr hn, not_not.mpr hp⟩
  have ho : Only (s.begin t) _ [.logs] [O.falseWakes] := .one ((only_inc32 (s.begin t) O.falseWakes).mono (by simp) (by simp))
    (only_logLead _ Ev.falseWake 0xFFFF [(1, (s.begin t).n O.lastWakeCause), (2, (s.begin t).n O.lastWakeSource)]) (by simp)
  refine .intro (congrArg Host.Outcome.next ((falseWake_some (s := s.begin t) h).trans (if_neg hc)))
    ⟨State.asleep_of_only ho.begin (State.enterSleep_asleep _), ?_⟩
  rw [State.enterSleep_n _ (ho.variant.le.trans h8) (by decide) (by decide), (only_logLead ..).n_all, State.inc32_self, State.begin_n]

end SleepRuns

end Sys2Proof.Machine
end

section
/-! Proofs about the wake sequence (R323, R370, R385 to R388). -/
namespace Sys2Proof.Machine
open Sys2Proof

variable {s : State} {t : Nat}

/-! ### The wake sequence in its stages (R388) -/

section WakeUp

/-- The rails are on, the power state is ACTIVE, and the plan and the links are back. -/
def State.planWoken (s : State) (c x : Nat) (f : StartFacts) : State :=
  let s := s.wakeRails
  let s := { s with pkg := { s.pkg with wakeWire := 2 ^ s.wakeDie c x } }
  (((s.setN O.powerState pwACTIVE).flushAon).loadPlan f).wakeLinks

/-- The PTP instances run again under the tick of the estimate. -/
def State.instancesWoken (s : State) : State := (s.restartInstances false).refreshInstances

/-- The lanes are up, the ports may leave quarantine, and the wake forwards. -/
def State.lanesWoken (s old : State) (c x : Nat) (f : StartFacts) : State :=
  let s := ((s.bringUp f.up).leaveQuarantine).wakeForward c x
  s.stageUp old s none

/-- The wake sequence but for the emergency that a wake by its ball starts. -/
def State.wakeSequence (s : State) (c x el est : Nat) (f : StartFacts) : State :=
  ((((s.planWoken c x f).startTick est).instancesWoken).wakeNoted c (s.wakeSource c x) el).lanesWoken s c x f

theorem State.wakeUp_eq (s : State) (c x el est : Nat) (f : StartFacts) : s.wakeUp c x el est f =
    if c = 7 then (s.wakeSequence c x el est f).setEmergency true (s.wakeSequence c x el est f).emgCommand else s.wakeSequence c x el est f := by
  unfold State.wakeUp State.wakeSequence State.lanesWoken State.instancesWoken State.planWoken
  with_reducible rfl

variable {c x el est : Nat} {f : StartFacts}

theorem State.flushAon_steady (s : State) : s.steady s.flushAon := .of_dict rfl rfl

theorem State.planWoken_now (s : State) (c x : Nat) (f : StartFacts) : (s.planWoken c x f).now = s.now := by
  refine now_of_core (R := 1099616 ||| 32) ?_ rfl
  unfold State.planWoken
  dsimp only
  rw [State.wakeLinks_core rfl, State.loadPlan_core rfl, State.flushAon_core rfl, State.setN_core rfl, core_pkg rfl, State.wakeRails_core rfl]

/-- The plan is loaded in a device that is ACTIVE. -/
theorem State.planWoken_power (s : State) (c x : Nat) (f : StartFacts) (h8 : s.variant ≤ 8) (hl : ∀ e ∈ s.plan.active.lanes, e.1 < 64) :
    (s.planWoken c x f).variant = s.variant ∧ (s.planWoken c x f).n O.powerState = pwACTIVE := by
  have hr : s.wakeRails.plan = s.plan := (within_of_core (State.wakeRails_core (R := 0) rfl s) rfl : Within s _ []).rest .plan (by decide) (by decide)
  have hv := s.wakeRails_steady.variant
  unfold State.planWoken
  dsimp only
  generalize s.wakeRails = u at hr hv
  have h1 := State.flushAon_steady (({ u with pkg := { u.pkg with wakeWire := 2 ^ u.wakeDie c x } } : State).setN O.powerState pwACTIVE)
  have hv1 : _ = s.variant := h1.variant.trans hv
  have h2 := h1.trans (State.loadPlan_steady _ f (hv1.le.trans h8) (by rw [← hr] at hl; exact hl))
  have hv2 := h2.variant.trans hv
  have h3 := h2.trans (State.wakeLinks_steady _ (hv2.le.trans h8))
  exact ⟨h3.variant.trans hv, (h3.n (by decide)).trans (State.setN_self ..)⟩

theorem State.instancesWoken_steady (s : State) (h8 : s.variant ≤ 8) : s.steady s.instancesWoken := by
  have h := s.restartInstances_steady false h8
  exact h.trans (State.refreshInstances_steady _ (h.variant.le.trans h8))

theorem State.lanesWoken_steady (s old : State) (c x : Nat) (f : StartFacts) (h8 : s.variant ≤ 8) : s.steady (s.lanesWoken old c x f) :=
  (((s.bringUp_steady f.up h8).trans (State.leaveQuarantine_steady _)).trans (State.wakeForward_steady _ c x)).trans (.of_dict rfl rfl)

theorem State.lanesWoken_within (s old : State) (c x : Nat) (f : StartFacts) : Within s (s.lanesWoken old c x f) [.pkg, .lanes, .power] := by
  refine within_of_core (R := 524864 ||| 512) ?_ rfl
  unfold State.lanesWoken
  dsimp only
  rw [State.stageUp_core rfl, State.wakeForward_core rfl, State.leaveQuarantine_core rfl, State.bringUp_core rfl]

/-- The record of the wake in the power part, and its wire. -/
structure State.wakeKept (s u : State) : Prop where
  wakeAt : u.power.wakeAt = s.power.wakeAt
  wakeCause : u.power.wakeCause = s.power.wakeCause
  wakeWire : u.pkg.wakeWire = s.pkg.wakeWire

theorem State.wakeKept.refl (s : State) : s.wakeKept s := ⟨rfl, rfl, rfl⟩

theorem State.wakeKept.trans {u w : State} (h : s.wakeKept u) (g : u.wakeKept w) : s.wakeKept w :=
  ⟨g.wakeAt.trans h.wakeAt, g.wakeCause.trans h.wakeCause, g.wakeWire.trans h.wakeWire⟩

theorem State.wakeKept.of_within {u : State} {P : List Part} (h : Within s u P) (hk : Part.pkg ∉ P) (hp : Part.power ∉ P) : s.wakeKept u := by
  have hpkg : u.pkg = s.pkg := h.rest .pkg (by decide) hk
  have hpow : u.power = s.power := h.rest .power (by decide) hp
  exact ⟨by rw [hpow], by rw [hpow], by rw [hpkg]⟩

theorem State.ringSend_wakeKept (s : State) (m : Nat) (b : Option Nat) (r : RingMsg) : s.wakeKept (s.ringSend m b r) := by
  have hpkg : (s.ringSend m b r).pkg = s.pkg := (only_ringSend ..).rest .pkg (by decide)
  exact ⟨by rw [State.ringSend_power]; rfl, by rw [State.ringSend_power]; rfl, by rw [hpkg]⟩

theorem State.forwardWake_wakeKept (s : State) (b : Option Nat) : s.wakeKept (s.forwardWake b) :=
  State.wakeKept.trans (u := { s with power := { s.power with wakes := 2, wakeSource := b } }) ⟨rfl, rfl, rfl⟩ (State.ringSend_wakeKept ..)

theorem State.leaveQuarantine_wakeKept (s : State) : s.wakeKept s.leaveQuarantine := by
  unfold State.leaveQuarantine
  dsimp only
  split
  · exact .refl s
  · have hr : ∀ (w : State) old, w.wakeKept (w.redeclare old) := fun w old =>
      .of_within (within_of_core (State.redeclare_core (R := 0) rfl w old) rfl : Within w _ []) (by decide) (by decide)
    have he : ∀ (l : List Nat) (w : State), w.wakeKept (l.foldl (fun (s : State) n => s.emit (.message "lacp" n [])) w) := fun l w =>
      .of_within (foldl_emit_within _ l w) (by decide) (by decide)
    have hs : ∀ x : Nat, s.wakeKept { s with pkg := { s.pkg with quarantine := x } } := fun x => ⟨rfl, rfl, rfl⟩
    exact (((hs _).trans (State.ringSend_wakeKept ..)).trans (he ..)).trans (hr ..)

theorem State.wakeForward_wakeKept (s : State) (c x : Nat) : s.wakeKept (s.wakeForward c x) := by
  unfold State.wakeForward
  split
  · split
    · exact s.forwardWake_wakeKept _
    · exact .refl s
  · split
    · split
      · exact ⟨rfl, rfl, rfl⟩
      · exact .refl s
    · exact s.forwardWake_wakeKept none

theorem State.lanesWoken_wakeKept (s old : State) (c x : Nat) (f : StartFacts) : s.wakeKept (s.lanesWoken old c x f) := by
  have hb : s.wakeKept (s.bringUp f.up) := .of_within (within_of_core (State.bringUp_core (R := 512) rfl s f.up) rfl : Within s _ [.lanes]) (by decide) (by decide)
  exact ((hb.trans (State.leaveQuarantine_wakeKept _)).trans (State.wakeForward_wakeKept _ c x)).trans ⟨rfl, rfl, rfl⟩

theorem State.planTaken_wakeWire (s : State) (f : StartFacts) : (s.planTaken f).pkg.wakeWire = s.pkg.wakeWire := rfl

/-- The plan of a start leaves the wire of the wake. -/
theorem State.loadPlan_wakeWire (s : State) (f : StartFacts) : (s.loadPlan f).pkg.wakeWire = s.pkg.wakeWire := by
  have hk : (s.planKeyed f).pkg = s.pkg := (s.planKeyed_within f).rest .pkg (by decide) (by decide)
  have hs : ∀ (w : State) ok, (w.planShown ok).pkg = w.pkg := fun w ok => by
    refine (within_of_core (R := 1792) ?_ rfl : Within w _ [.plan, .lanes, .fwd]).rest .pkg (by decide) (by decide)
    unfold State.planShown
    dsimp only
    rw [State.refreshLookAside_core rfl, State.refreshRoots_core rfl, State.refreshSlots_core rfl, State.refreshCases_core rfl, State.refreshCounts_core rfl]
    split
    · rw [State.loadShapers_core rfl, State.loadLanes_core rfl]
    · rw [State.loadShapers_core rfl, State.loadLanes_core rfl]
  rw [State.loadPlan_eq, hs, State.planTaken_wakeWire, hk]

theorem State.planWoken_wakeWire (s : State) (c x : Nat) (f : StartFacts) : (s.planWoken c x f).pkg.wakeWire = 2 ^ s.wakeDie c x := by
  have hr : s.wakeRails.pkg = s.pkg := (within_of_core (State.wakeRails_core (R := 0) rfl s) rfl : Within s _ []).rest .pkg (by decide) (by decide)
  have hd : s.wakeRails.wakeDie c x = s.wakeDie c x := by
    unfold State.wakeDie
    rw [hr]
  have hl : ∀ w : State, w.wakeLinks.pkg = w.pkg := fun w =>
    (within_of_core (State.wakeLinks_core (R := 0) rfl w) rfl : Within w _ []).rest .pkg (by decide) (by decide)
  unfold State.planWoken
  dsimp only
  rw [hl, State.loadPlan_wakeWire]
  exact congrArg (2 ^ ·) hd

/-- The wake is recorded: its cause, its source, its time, and the moment from which traffic is awaited. -/
theorem State.wakeNoted_objects (s : State) (c src el : Nat) : (s.wakeNoted c src el).n O.powerState = s.n O.powerState ∧
    (s.wakeNoted c src el).n O.lastWakeCause = c ∧ (s.wakeNoted c src el).n O.lastWakeSource = src ∧ (s.wakeNoted c src el).n O.lastWakeTime = satN (2 ^ 32 - 1) el := by
  unfold State.wakeNoted
  dsimp only
  rw [(only_logLead ..).n_all, (only_logLead ..).n_all, (only_logLead ..).n_all, (only_logLead ..).n_all]
  refine ⟨?_, ?_, ?_, State.setN_self ..⟩
  · rw [State.setN_other _ _ _ _ (by decide) (by decide), State.setN_other _ _ _ _ (by decide) (by decide), State.setN_other _ _ _ _ (by decide) (by decide)]
    rfl
  · rw [State.setN_other _ _ _ _ (by decide) (by decide), State.setN_other _ _ _ _ (by decide) (by decide), State.setN_self]
  · rw [State.setN_other _ _ _ _ (by decide) (by decide), State.setN_self]

theorem State.wakeNoted_parts (s : State) (c src el : Nat) : (s.wakeNoted c src el).power.wakeAt = some s.now ∧ (s.wakeNoted c src el).power.wakeCause = c ∧
    (s.wakeNoted c src el).bridge.fwReady = true ∧ (s.wakeNoted c src el).pkg = s.pkg ∧ (s.wakeNoted c src el).tick = s.tick ∧
    (s.wakeNoted c src el).variant = s.variant := by
  unfold State.wakeNoted
  dsimp only
  generalize hw : State.setN _ O.lastWakeTime _ = w
  have hl : ∀ l, Only w (w.logLead Ev.wake 0xFFFF l) [.logs] [] := fun l => only_logLead w Ev.wake 0xFFFF l
  rw [(hl _).rest .power (by decide), (hl _).rest .bridge (by decide), (hl _).rest .pkg (by decide), (hl _).rest .tick (by decide), (hl _).variant, ← hw]
  exact ⟨rfl, rfl, rfl, rfl, rfl, rfl⟩

/-- The tick at a start: in HOLD, at the estimate. -/
theorem State.startTick_tick (s : State) (n : Nat) : (s.startTick n).n O.tickState = tickHOLD ∧ (s.startTick n).n O.tickNumber = n ∧
    (s.startTick n).tick = { start := s.now, holdSince := s.now } := by
  unfold State.startTick
  dsimp only
  refine ⟨?_, ?_, rfl⟩
  · rw [State.setN_other _ _ _ _ (by decide) (by decide), State.setN_other _ _ _ _ (by decide) (by decide), State.setN_other _ _ _ _ (by decide) (by decide),
      State.setN_self]
  · rw [State.setN_other _ _ _ _ (by decide) (by decide), State.setN_self]

/-- The state in which the wake is recorded. -/
def State.ticksWoken (s : State) (c x est : Nat) (f : StartFacts) : State := ((s.planWoken c x f).startTick est).instancesWoken

theorem State.ticksWoken_power (s : State) (c x est : Nat) (f : StartFacts) (h8 : s.variant ≤ 8) (hl : ∀ e ∈ s.plan.active.lanes, e.1 < 64) :
    (s.ticksWoken c x est f).variant = s.variant ∧ (s.ticksWoken c x est f).n O.powerState = pwACTIVE := by
  obtain ⟨hv, hp⟩ := s.planWoken_power c x f h8 hl
  unfold State.ticksWoken
  generalize s.planWoken c x f = u at hv hp
  have h1 := u.startTick_steady est
  have h2 := h1.trans (State.instancesWoken_steady _ ((h1.variant.trans hv).le.trans h8))
  exact ⟨h2.variant.trans hv, (h2.n (by decide)).trans hp⟩

theorem State.ticksWoken_core (s : State) (est : Nat) : ((s.startTick est).instancesWoken).core (65696 ||| 128) = s.core (65696 ||| 128) := by
  unfold State.instancesWoken
  rw [State.refreshInstances_core rfl, State.restartInstances_core rfl, State.startTick_core rfl]

theorem State.ticksWoken_now (s : State) (c x est : Nat) (f : StartFacts) : (s.ticksWoken c x est f).now = s.now :=
  (now_of_core (State.ticksWoken_core _ est) rfl).trans (s.planWoken_now c x f)

theorem State.ticksWoken_wakeWire (s : State) (c x est : Nat) (f : StartFacts) : (s.ticksWoken c x est f).pkg.wakeWire = 2 ^ s.wakeDie c x := by
  have hp : (s.ticksWoken c x est f).pkg = (s.planWoken c x f).pkg :=
    (within_of_core (State.ticksWoken_core _ est) rfl : Within (s.planWoken c x f) _ [.logs, .tick, .time]).rest .pkg (by decide) (by decide)
  rw [hp, State.planWoken_wakeWire]

variable (h8 : s.variant ≤ 8) (hl : ∀ e ∈ s.plan.active.lanes, e.1 < 64)

include h8 hl in
/-- R388: the power state and the record of a wake. -/
theorem State.wakeSequence_objects : (s.wakeSequence c x el est f).n O.powerState = pwACTIVE ∧ (s.wakeSequence c x el est f).n O.lastWakeCause = c ∧
    (s.wakeSequence c x el est f).n O.lastWakeSource = s.wakeSource c x ∧ (s.wakeSequence c x el est f).n O.lastWakeTime = satN (2 ^ 32 - 1) el := by
  obtain ⟨hv, hp⟩ := s.ticksWoken_power c x est f h8 hl
  change (((s.ticksWoken c x est f).wakeNoted c (s.wakeSource c x) el).lanesWoken s c x f).n O.powerState = _ ∧
    (((s.ticksWoken c x est f).wakeNoted c (s.wakeSource c x) el).lanesWoken s c x f).n O.lastWakeCause = _ ∧
    (((s.ticksWoken c x est f).wakeNoted c (s.wakeSource c x) el).lanesWoken s c x f).n O.lastWakeSource = _ ∧
    (((s.ticksWoken c x est f).wakeNoted c (s.wakeSource c x) el).lanesWoken s c x f).n O.lastWakeTime = _
  generalize s.ticksWoken c x est f = u at hv hp
  obtain ⟨hpow, hcause, hsource, htime⟩ := u.wakeNoted_objects c (s.wakeSource c x) el
  obtain ⟨-, -, -, -, -, hvar⟩ := u.wakeNoted_parts c (s.wakeSource c x) el
  have h := State.lanesWoken_steady (u.wakeNoted c (s.wakeSource c x) el) s c x f ((hvar.trans hv).le.trans h8)
  exact ⟨(h.n (by decide)).trans (hpow.trans hp), (h.n (by decide)).trans hcause, (h.n (by decide)).trans hsource, (h.n (by decide)).trans htime⟩

theorem State.wakeSequence_parts : (s.wakeSequence c x el est f).power.wakeAt = some s.now ∧ (s.wakeSequence c x el est f).power.wakeCause = c ∧
    (s.wakeSequence c x el est f).bridge.fwReady = true ∧ (s.wakeSequence c x el est f).tick = (s.ticksWoken c x est f).tick ∧
    (s.wakeSequence c x el est f).pkg.wakeWire = 2 ^ s.wakeDie c x := by
  have hnow := s.ticksWoken_now c x est f
  have hwire := s.ticksWoken_wakeWire c x est f
  change (((s.ticksWoken c x est f).wakeNoted c (s.wakeSource c x) el).lanesWoken s c x f).power.wakeAt = _ ∧
    (((s.ticksWoken c x est f).wakeNoted c (s.wakeSource c x) el).lanesWoken s c x f).power.wakeCause = _ ∧
    (((s.ticksWoken c x est f).wakeNoted c (s.wakeSource c x) el).lanesWoken s c x f).bridge.fwReady = _ ∧
    (((s.ticksWoken c x est f).wakeNoted c (s.wakeSource c x) el).lanesWoken s c x f).tick = _ ∧
    (((s.ticksWoken c x est f).wakeNoted c (s.wakeSource c x) el).lanesWoken s c x f).pkg.wakeWire = _
  generalize s.ticksWoken c x est f = u at hnow hwire
  obtain ⟨hat, hcause, hfw, hpkg, htick, -⟩ := u.wakeNoted_parts c (s.wakeSource c x) el
  generalize u.wakeNoted c (s.wakeSource c x) el = w at hat hcause hfw hpkg htick
  have hw := w.lanesWoken_within s c x f
  have hk := w.lanesWoken_wakeKept s c x f
  have hb : (w.lanesWoken s c x f).bridge = w.bridge := hw.rest .bridge (by decide) (by decide)
  have ht : (w.lanesWoken s c x f).tick = w.tick := hw.rest .tick (by decide) (by decide)
  refine ⟨hk.wakeAt.trans (by rw [hat, hnow]), hk.wakeCause.trans hcause, by rw [hb, hfw], ht.trans htick, hk.wakeWire.trans ?_⟩
  rw [hpkg, hwire]

include h8 hl in
/-- R388: the wake sequence in Sleep or Standby, at the local time of the command. -/
theorem State.wakeSequence_woken : s.woken ((s.begin t).wakeSequence c x el est f) t c (s.wakeSource c x) el est := by
  obtain ⟨hpow, hcause, hsource, htime⟩ := State.wakeSequence_objects (s := s.begin t) (c := c) (x := x) (el := el) (est := est) (f := f) h8 hl
  obtain ⟨hat, hwc, hfw, htick, -⟩ := State.wakeSequence_parts (s := s.begin t) (c := c) (x := x) (el := el) (est := est) (f := f)
  obtain ⟨hhold, hnum, hstart⟩ := ((s.begin t).planWoken c x f).startTick_tick est
  rw [State.planWoken_now] at hstart
  exact ⟨hpow, hcause, hsource, htime, hat, hwc, hfw, _, hhold, hnum, hstart, htick⟩

end WakeUp

/-! ### Wake events (R323, R383, R385) -/

section Wake

variable {c x el est : Nat} {f : StartFacts}

/-- A WAKE_IN event that is a wake request in Active: an enabled ball that forwards. -/
abbrev State.wakeRequest (s : State) (c x : Nat) : Prop := (c = 1 ∨ c = 2) ∧ s.wakeEnabled c x = true ∧ bit (s.wakeBall x) 2 = true

theorem wake_active (hp : s.n O.powerState = pwACTIVE) : wake c x el est f s = if s.wakeRequest c x then s.cancelRound else s :=
  if_pos hp

theorem wake_ignored (ha : s.n O.powerState ≠ pwACTIVE)
    (h : (s.n O.powerState ≠ pwSLEEP ∧ s.n O.powerState ≠ pwSTANDBY) ∨ s.wakeEnabled c x = false) : wake c x el est f s = s := by
  have hc : (!(s.power_ == pwSLEEP || s.power_ == pwSTANDBY) || !s.wakeEnabled c x) = true := by
    rw [Bool.or_eq_true_iff, Bool.not_eq_true', Bool.not_eq_true', Bool.or_eq_false_iff]
    exact h.imp_left fun ⟨hs, hb⟩ => ⟨beq_eq_false_iff_ne.mpr hs, beq_eq_false_iff_ne.mpr hb⟩
  exact (if_neg ha).trans (if_pos hc)

/-- A wake event that is taken: the wake sequence, or, after a tamper event in Sleep, a cold start. -/
theorem wake_taken (h : s.n O.powerState = pwSLEEP ∨ s.n O.powerState = pwSTANDBY) (he : s.wakeEnabled c x = true) :
    wake c x el est f s = if s.cairn.sleepTamper then
      let u := s.coldStart f (fun w => w.n O.tamperState != 0 || !(s.n O.tamperPolicy == tpREPORT || (s.n O.tamperPolicy == tpCONTAIN && c == 7)))
      let v := ((u.setN O.lastWakeCause c).setN O.lastWakeSource (s.wakeSource c x)).setN O.lastWakeTime (satN (2 ^ 32 - 1) el)
      if u.update.ready ∧ s.n O.tamperPolicy ≠ tpREPORT then v.tamperRespond tpCONTAIN else v
    else s.wakeUp c x el est f := by
  have ha : ¬s.power_ = pwACTIVE := fun hn => h.elim (fun g => absurd (hn.symm.trans g) (by decide)) (fun g => absurd (hn.symm.trans g) (by decide))
  have hc : ¬(!(s.power_ == pwSLEEP || s.power_ == pwSTANDBY) || !s.wakeEnabled c x) = true := by
    rw [he, Bool.not_true, Bool.or_false, Bool.not_eq_true', Bool.not_eq_false, Bool.or_eq_true_iff, beq_iff_eq, beq_iff_eq]
    exact h
  exact (if_neg ha).trans (if_neg hc)

theorem wake_runs_request (hp : s.n O.powerState = pwACTIVE) (hc : c = 1 ∨ c = 2) (he : s.wakeEnabled c x = true) (hb : bit (s.wakeBall x) 2 = true) :
    Runs (.wake t c x el est f) s (· = (s.begin t).cancelRound) :=
  .intro (congrArg Host.Outcome.next ((wake_active (s := s.begin t) hp).trans (if_pos ⟨hc, he, hb⟩))) rfl

theorem wake_runs_active (hp : s.n O.powerState = pwACTIVE) (hn : ¬((c = 1 ∨ c = 2) ∧ s.wakeEnabled c x = true ∧ bit (s.wakeBall x) 2 = true)) :
    Runs (.wake t c x el est f) s (· = s.begin t) :=
  .intro (congrArg Host.Outcome.next ((wake_active (s := s.begin t) hp).trans (if_neg hn))) rfl

theorem wake_runs_ignored (ha : s.n O.powerState ≠ pwACTIVE)
    (h : (s.n O.powerState ≠ pwSLEEP ∧ s.n O.powerState ≠ pwSTANDBY) ∨ s.wakeEnabled c x = false) : Runs (.wake t c x el est f) s (· = s.begin t) :=
  .intro (congrArg Host.Outcome.next (wake_ignored (s := s.begin t) ha h)) rfl

section Taken

variable (h : s.n O.powerState = pwSLEEP ∨ s.n O.powerState = pwSTANDBY) (he : s.wakeEnabled c x = true)

section Untampered

variable (ht : s.cairn.sleepTamper = false) (h8 : s.variant ≤ 8) (hl : ∀ e ∈ s.plan.active.lanes, e.1 < 64)
include h he ht

theorem wake_untampered : wake c x el est f (s.begin t) = (s.begin t).wakeUp c x el est f := by
  have hc : ¬(s.begin t).cairn.sleepTamper = true := fun hn => absurd (ht.symm.trans hn) (by decide)
  exact (wake_taken (s := s.begin t) h he).trans (if_neg hc)

include h8 hl

theorem wake_runs_woken (h7 : c ≠ 7) : Runs (.wake t c x el est f) s fun v => s.woken v t c (s.wakeSource c x) el est ∧ v.pkg.wakeWire = 2 ^ s.wakeDie c x := by
  obtain ⟨-, -, -, -, hwire⟩ := State.wakeSequence_parts (s := s.begin t) (c := c) (x := x) (el := el) (est := est) (f := f)
  have ha : wake c x el est f (s.begin t) = (s.begin t).wakeSequence c x el est f :=
    (wake_untampered h he ht).trans ((State.wakeUp_eq ..).trans (if_neg h7))
  exact .intro (congrArg Host.Outcome.next ha) ⟨State.wakeSequence_woken h8 hl, hwire⟩

/-- R385: a wake by the emergency ball is an emergency. -/
theorem wake_runs_emergency (h7 : c = 7) : ∃ q : State, s.woken q t 7 0xFFFF el est ∧
    Runs (.wake t c x el est f) s fun v => v = q.setEmergency true q.emgCommand ∧ v.flag O.emergencyState 0 = true := by
  subst h7
  have hw : s.woken ((s.begin t).wakeSequence 7 x el est f) t 7 0xFFFF el est := State.wakeSequence_woken h8 hl
  have ha : wake 7 x el est f (s.begin t) = ((s.begin t).wakeSequence 7 x el est f).setEmergency true ((s.begin t).wakeSequence 7 x el est f).emgCommand :=
    (wake_untampered h he ht).trans (State.wakeUp_eq ..)
  generalize (s.begin t).wakeSequence 7 x el est f = q at hw ha
  have hp : q.n O.powerState ≠ 6 := fun hn => absurd (hw.1.symm.trans hn) (by decide)
  refine ⟨q, hw, .intro (congrArg Host.Outcome.next ha) ⟨rfl, ?_⟩⟩
  rw [State.flag, State.setEmergency_state _ _ hp]
  cases q.emgCommand <;> rfl

end Untampered

section Tampered

variable {u : State} (ht : s.cairn.sleepTamper = true)
    (hu : u = (s.begin t).coldStart f (fun w => w.n O.tamperState != 0 || !(s.n O.tamperPolicy == tpREPORT || (s.n O.tamperPolicy == tpCONTAIN && c == 7))))
include h he ht hu

/-- R323: after a tamper event in Sleep the wake is a cold start, with the wake's record. -/
theorem wake_tampered : wake c x el est f (s.begin t) =
    if u.update.ready ∧ s.n O.tamperPolicy ≠ tpREPORT then
      (((u.setN O.lastWakeCause c).setN O.lastWakeSource (s.wakeSource c x)).setN O.lastWakeTime (satN (2 ^ 32 - 1) el)).tamperRespond tpCONTAIN
    else ((u.setN O.lastWakeCause c).setN O.lastWakeSource (s.wakeSource c x)).setN O.lastWakeTime (satN (2 ^ 32 - 1) el) := by
  subst hu
  exact (wake_taken (s := s.begin t) h he).trans (if_pos ht)

theorem wake_runs_recorded (hr : u.update.ready = false ∨ s.n O.tamperPolicy = tpREPORT) : Runs (.wake t c x el est f) s fun v => v.n O.lastWakeCause = c ∧
    v.n O.lastWakeSource = s.wakeSource c x ∧ v.n O.lastWakeTime = satN (2 ^ 32 - 1) el ∧ Only u v [] [O.lastWakeCause, O.lastWakeSource, O.lastWakeTime] := by
  have hc : ¬(u.update.ready = true ∧ s.n O.tamperPolicy ≠ tpREPORT) := fun ⟨hn, hp⟩ =>
    hr.elim (fun g => absurd (g.symm.trans hn) (by decide)) hp
  have ho : Only u (((u.setN O.lastWakeCause c).setN O.lastWakeSource (s.wakeSource c x)).setN O.lastWakeTime (satN (2 ^ 32 - 1) el)) []
      [O.lastWakeCause, O.lastWakeSource, O.lastWakeTime] :=
    .obj (.obj (.obj (.same u _ _) (only_setN ..) (by simp)) (only_setN ..) (by simp)) (only_setN ..) (by simp)
  refine .intro (congrArg Host.Outcome.next ((wake_tampered h he ht hu).trans (if_neg hc))) ⟨?_, ?_, State.setN_self .., ho⟩
  · rw [State.setN_other _ _ _ _ (by decide) (by decide), State.setN_other _ _ _ _ (by decide) (by decide), State.setN_self]
  · rw [State.setN_other _ _ _ _ (by decide) (by decide), State.setN_self]

theorem wake_runs_contained (hr : u.update.ready = true) (hp : s.n O.tamperPolicy ≠ tpREPORT) : Runs (.wake t c x el est f) s
    (· = (((u.setN O.lastWakeCause c).setN O.lastWakeSource (s.wakeSource c x)).setN O.lastWakeTime (satN (2 ^ 32 - 1) el)).tamperRespond tpCONTAIN) :=
  .intro (congrArg Host.Outcome.next ((wake_tampered h he ht hu).trans (if_pos ⟨hr, hp⟩))) rfl

end Tampered

end Taken

end Wake

/-! ### The wake command (R370, R383, R385) -/

section Command

variable {r : RoundSt} {c : Nat}

/-- A committed round that this member cancels. -/
def State.cancelNoted (s : State) (r : RoundSt) : State :=
  let s := s.setRound (some { r with cancelled := true })
  let s := { s with power := { s.power with wakeOnCommit := true, commits := 0 } }
  if r.initiator = s.ownAddr then s.setN O.sleepRoundStatus srCANCELLED else s

/-- The CANCEL frame of a round. -/
def State.cancelMsg (s : State) (r : RoundSt) (c : Nat) : RingMsg :=
  { s.ringMsg rtCANCEL with initiator := r.initiator, roundTick := r.start, commitTick := c, eventTime := s.instNow 0 }

theorem State.cancelRound_due (h : s.power.round = some r) (hc : r.commit = some c) (hr : r.cancelled = false) (hn : s.tickNo < c) :
    s.cancelRound = (s.cancelNoted r).ringSend ((s.cancelNoted r).n O.ringLanes) none (s.cancelMsg r c) := by
  have hcond : ¬(r.cancelled = true ∨ c ≤ s.tickNo) := not_or.mpr ⟨by simp only [hr, Bool.false_eq_true, not_false_eq_true], Nat.not_le.mpr hn⟩
  unfold State.cancelRound
  rw [h]
  obtain ⟨i, st, si, co, ca⟩ := r
  subst hc
  exact if_neg hcond

theorem only_cancelNoted (s : State) (r : RoundSt) : Only s (s.cancelNoted r) [.lanes, .power] [O.sleepRoundStatus] := by
  have h := (Only.same s [.lanes, .power] [O.sleepRoundStatus]).setPower
    { s.power with round := some { r with cancelled := true }, wakeOnCommit := true, commits := 0 } (by decide)
  exact .ite (h.obj (only_setN ..) (by simp)) h

theorem only_cancelRound (s : State) : Only s s.cancelRound [.lanes, .power] [O.sleepRoundStatus] := by
  unfold State.cancelRound
  split
  next r _ =>
    split
    next c _ => exact .ite (.same ..) ((only_cancelNoted s r).two (only_ringSend ..) (by decide) (by decide))
    next => exact .same ..
  next => exact .same ..

theorem State.cancelNoted_round (s : State) (r : RoundSt) : (s.cancelNoted r).power.round = some { r with cancelled := true } := by
  unfold State.cancelNoted
  dsimp only
  split
  · rfl
  · rfl

theorem State.cancelNoted_status (hi : r.initiator = s.ownAddr) : (s.cancelNoted r).n O.sleepRoundStatus = srCANCELLED := by
  unfold State.cancelNoted
  exact (congrArg (fun u : State => u.n O.sleepRoundStatus) (if_pos hi)).trans (State.setN_self ..)

/-- R383: a wake request before the commit tick. -/
theorem State.cancelRound_left (h : s.power.round = some r) (hc : r.commit = some c) (hr : r.cancelled = false) (hn : s.tickNo < c) :
    s.cancelRound.power.round = some { r with cancelled := true } ∧ (r.initiator = s.ownAddr → s.cancelRound.n O.sleepRoundStatus = srCANCELLED) := by
  rw [State.cancelRound_due h hc hr hn]
  refine ⟨?_, fun hi => ((only_ringSend ..).n_all _).trans (State.cancelNoted_status hi)⟩
  rw [State.ringSend_power]
  exact s.cancelNoted_round r

variable {el est idx sub : Nat} {f : StartFacts} {who : Who} {x : Session}

theorem State.heard_round (s : State) (t : Nat) (who : Who) (idx sub : Nat) : (s.heard t who idx sub).power.round = s.power.round := by
  have hp : (s.heard t who idx sub).power = ((s.begin t).traffic).power := (only_touch ..).rest .power (by decide)
  rw [hp]
  rfl

theorem wakeCommandAct_active (hp : s.n O.powerState = pwACTIVE) : wakeCommandAct el est f x s = (.ok, s.cancelRound.forwardWake none) := if_pos hp

theorem wakeCommandAct_standby (hp : s.n O.powerState = pwSTANDBY) : wakeCommandAct el est f x s = (.ok, s.wakeUp 8 0xFFFF el est f) :=
  (if_neg (by rw [show s.power_ = pwSTANDBY from hp]; decide)).trans (if_pos hp)

theorem wakeCommandAct_other (ha : s.n O.powerState ≠ pwACTIVE) (hb : s.n O.powerState ≠ pwSTANDBY) : wakeCommandAct el est f x s = (.deviceState, s) :=
  (if_neg ha).trans (if_neg hb)

section Taken

variable (h : s.MayWrite who x 0x2C00 8 1)
include h

theorem wakeCommand_runs_active (hp : s.n O.powerState = pwACTIVE) : Runs (.wakeCommand t who el est f) s fun v => v.answered who .ok ∧ v.power.wakes = 2 ∧
    v.power.wakeSource = none ∧ Only s v [.access, .power, .bridge, .lanes] [O.sleepRoundStatus] ∧
    (∀ r c, s.power.round = some r → r.commit = some c → r.cancelled = false → s.tickNo < c →
      v.power.round = some { r with cancelled := true } ∧ (r.initiator = s.ownAddr → v.n O.sleepRoundStatus = srCANCELLED)) := by
  have hround := s.heard_round t who 0x2C00 8
  have hn : ∀ k, (s.heard t who 0x2C00 8).n k = s.n k := s.heard_n t who 0x2C00 8
  have ha := wakeCommandAct_active (el := el) (est := est) (f := f) (x := x) ((hn O.powerState).trans hp)
  have ho : Only (s.heard t who 0x2C00 8) ((s.heard t who 0x2C00 8).cancelRound.forwardWake none) [.lanes, .power] [O.sleepRoundStatus] :=
    (only_cancelRound _).two (only_forwardWake ..) (by decide) (by decide)
  obtain ⟨hwakes, hsrc, hkept, -⟩ := (s.heard t who 0x2C00 8).cancelRound.forwardWake_wakes none
  refine (h.runs (t := t) (wakeCommandAct el est f) rfl ha ho (by decide)).imp fun v ⟨hans, hv, hs⟩ => ?_
  have hpow : v.power = _ := hv.rest .power (by decide)
  refine ⟨hans, by rw [hpow, hwakes], by rw [hpow, hsrc], hs.mono (by decide) (by decide), fun r c hr hc hl ht => ?_⟩
  obtain ⟨hcan, hst⟩ := State.cancelRound_left (s := s.heard t who 0x2C00 8) (hround.trans hr) hc hl (by rw [State.tickNo_def, hn]; exact ht)
  refine ⟨by rw [hpow, hkept, hcan], fun hi => ?_⟩
  rw [hv.n_all, (only_forwardWake ..).n_all]
  exact hst (hi.trans (hn _).symm)

theorem wakeCommand_runs_standby (hp : s.n O.powerState = pwSTANDBY) (h8 : s.variant ≤ 8) (hl : ∀ e ∈ s.plan.active.lanes, e.1 < 64) :
    Runs (.wakeCommand t who el est f) s fun v => v.answered who .ok ∧ v.n O.powerState = pwACTIVE ∧ v.n O.lastWakeCause = 8 ∧
      v.n O.lastWakeSource = 0xFFFF ∧ v.power.wakeAt = some (s.localAt t) := by
  have hh := only_heard s t who 0x2C00 8
  have hplan : (s.heard t who 0x2C00 8).plan = s.plan := hh.rest .plan (by decide)
  have ha := wakeCommandAct_standby (el := el) (est := est) (f := f) (x := x) ((s.heard_n t who 0x2C00 8 O.powerState).trans hp)
  have hnow := s.heard_now t who 0x2C00 8
  have hw : ((s.heard t who 0x2C00 8).wakeUp 8 0xFFFF el est f).access = (s.heard t who 0x2C00 8).access :=
    access_of_core (State.wakeUp_core (R := 1824736) rfl _ 8 0xFFFF el est f) rfl
  have he : (s.heard t who 0x2C00 8).wakeUp 8 0xFFFF el est f = (s.heard t who 0x2C00 8).wakeSequence 8 0xFFFF el est f :=
    (State.wakeUp_eq ..).trans (if_neg (by decide))
  obtain ⟨hpow, hcause, hsource, -⟩ := State.wakeSequence_objects (s := s.heard t who 0x2C00 8) (c := 8) (x := 0xFFFF) (el := el) (est := est) (f := f)
    (hh.variant.le.trans h8) (by rw [hplan]; exact hl)
  obtain ⟨hat, -⟩ := State.wakeSequence_parts (s := s.heard t who 0x2C00 8) (c := 8) (x := 0xFFFF) (el := el) (est := est) (f := f)
  rw [← he] at hpow hcause hsource hat
  refine (h.runs_answered (t := t) (wakeCommandAct el est f) rfl ha hw).imp fun v ⟨hans, hv⟩ => ?_
  have hpower : v.power = _ := hv.rest .power (by decide)
  exact ⟨hans, (hv.n_all _).trans hpow, (hv.n_all _).trans hcause, (hv.n_all _).trans hsource, by rw [hpower, hat, hnow]⟩

theorem wakeCommand_runs_other (ha : s.n O.powerState ≠ pwACTIVE) (hb : s.n O.powerState ≠ pwSTANDBY) :
    Runs (.wakeCommand t who el est f) s fun v => v.answered who .deviceState ∧ Only s v [.access, .power, .bridge] [] :=
  (h.runs_refused (t := t) (wakeCommandAct el est f) rfl
    (wakeCommandAct_other (by rw [State.heard_n]; exact ha) (by rw [State.heard_n]; exact hb))).imp
    fun _ ⟨hans, hf⟩ => ⟨hans, hf.mono (by decide) (by simp)⟩

end Taken

end Command

end Sys2Proof.Machine

open Sys2Proof Sys2Proof.Machine

/-- Settles O39: power down keeps the plan and the keys at rest, and the wake record passes through every stage of the wake sequence,
of which none but the first writes the power state. -/
theorem sleepAndWake : Obligations.SleepAndWake :=
  ⟨fun _ _ _ => ⟨wakeFrame_runs_active, wakeFrame_runs_passive⟩,
   fun _ _ => ⟨wakeFrameRepeat_runs_idle, wakeFrameRepeat_runs_sent⟩,
   fun _ _ => ⟨sleepEntry_runs_none, fun _ _ h hc =>
     ⟨sleepEntry_runs_early h hc, sleepEntry_runs_cancelled h hc, sleepEntry_runs_asleep h hc⟩⟩,
   fun _ _ _ _ _ _ _ => ⟨wake_runs_request, wake_runs_active, wake_runs_ignored,
     fun h he ht h8 hl => ⟨wake_runs_woken h he ht h8 hl, wake_runs_emergency h he ht h8 hl⟩,
     fun _ h he ht hu => ⟨wake_runs_recorded h he ht hu, wake_runs_contained h he ht hu⟩⟩,
   fun _ _ _ _ _ _ _ h => ⟨wakeCommand_runs_active h, wakeCommand_runs_standby h, wakeCommand_runs_other h⟩,
   fun _ _ => ⟨falseWake_runs_none, fun _ h => ⟨falseWake_runs_early h, falseWake_runs_asleep h⟩⟩⟩
end
